-- ==== Sys2Proof/Word.lean ====
section
/-!
DEFINITION. Sys2Proof/Word.lean: the machine's words and the plainest arithmetic on them (R5, R8).
Registers are 32 bits wide, memory is addressed in bytes; counts, addresses and field values are natural numbers.
-/
namespace Sys2Proof

/-- One byte of memory or of a packet. -/
abbrev Byte := BitVec 8

/-- One register word (R8). -/
abbrev Word := BitVec 32

/-- Bits `hi` down to `lo` of `v`, as the manual's `[hi:lo]` (R5). -/
def bitsOf (v hi lo : Nat) : Nat := v / 2 ^ lo % 2 ^ (hi - lo + 1)

end Sys2Proof
end

