-- ==== Sys2Proof/Machine/Map.lean ====
section
/-!
DEFINITION. Sys2Proof/Machine/Map.lean: sparse maps from a number to a value, as plain data.
A map lists the keys that hold something else than their default; the list is strictly rising in the key and
lists no default, so that equal maps are equal lists. What an unlisted key reads as is the caller's `d`.
-/
namespace Sys2Proof.Machine

/-- A sparse map: the keys that do not hold their default, in rising order. -/
abbrev SMap (α : Type) := List (Nat × α)

/-- What key `k` reads as; `d k` where nothing is listed. -/
def SMap.get {α : Type} (d : Nat → α) : SMap α → Nat → α
  | [], k => d k
  | (k', v) :: r, k => if k' = k then v else SMap.get d r k

/-- Put `(k, v)` in front of the first larger key. -/
def SMap.insert {α : Type} (k : Nat) (v : α) : SMap α → SMap α
  | [] => [(k, v)]
  | (k', v') :: r => if k < k' then (k, v) :: (k', v') :: r else (k', v') :: SMap.insert k v r

/-- Write key `k`; writing its default removes the entry. -/
def SMap.set {α : Type} [DecidableEq α] (d : Nat → α) (m : SMap α) (k : Nat) (v : α) : SMap α :=
  let rest := m.filter (fun e => e.1 != k)
  if v = d k then rest else SMap.insert k v rest

/-- The canonical form: keys strictly rising, and no entry equal to its default. -/
def SMap.wf {α : Type} [DecidableEq α] (d : Nat → α) (m : SMap α) : Bool :=
  decide (m.Pairwise (fun a b => a.1 < b.1)) && m.all (fun e => e.2 != d e.1)

end Sys2Proof.Machine
end

