-- ==== Sys2Proof/Config.lean ====
section
/-!
DEFINITION. Sys2Proof/Config.lean: what a unit fixes for good (fuses, straps, die data), and the free values.
Every constant here is opaque: the manual gives it no value, so no statement can rest on one.
-/
namespace Sys2Proof.Config

/-- The identity fuses LOT, WAFER, DIE_X and DIE_Y (R73, R74). -/
opaque lot : BitVec 32
opaque wafer : BitVec 8
opaque dieX : BitVec 12
opaque dieY : BitVec 12

/-- FT_LOCK of the fuse block (R613). -/
opaque ftLock : Bool

/-- Where the instances stand on the die (R74: the device data file), as exchanges of places: a place is 65535 × SITE_X + SITE_Y, and before
the exchanges each instance stands at the place of its first page's number. Every placement with no two at one place is such a list. -/
opaque sites : List (Fin 4294836225 × Fin 4294836225)

/-- The strap ball HMODE (R569): high is 2 × x8. -/
opaque hmodeStrap : Bool

/-- The firmware version the ROM reports in LP_INFO.FW_VER (R548). -/
opaque fwVersion : BitVec 16

/-- One less than the slack windows that a pass of the memory march takes (R464): the sizes of the RAM groups are not stated. -/
opaque mbistWindows : BitVec 16

/-- CAP.BLOCK of a page, by page number, for the blocks whose chapters do not state it (R73). -/
opaque capBlock : Nat → BitVec 16

/-- A fresh free value: one the manual does not state, for the count of free values taken before it. -/
opaque freeValue : Nat → BitVec 64

end Sys2Proof.Config
end

