-- ==== Sys2Proof/Machine/Fields.lean ====
section
/-!
DEFINITION. Sys2Proof/Machine/Fields.lean: what a register field is (R10, R12), and its place in the window.
The tables of fields, one file per group of blocks, are written from the manual's register tables.
-/
namespace Sys2Proof.Machine

/-- The access codes of R10. `plan` is a plan-owned field (R50): RO in the shadow half, where it shows the staged plan,
with a live value of its own. -/
inductive Access where
  | rw | ro | w1c | w1s | wo | rws | ft | plan
deriving DecidableEq, Repr

/-- A register field of a page: where it lies, how it is accessed, what it holds after reset.
`rep`/`stride` and `rep2`/`stride2` repeat the register over the page (a context, an exposure, an entry).
`clamp` bounds a value written: one outside is stored as the nearer bound. `gran` rounds it down to a multiple.
`accept` bounds the codes the field takes: another code leaves it unchanged and sets the page's CFG_REJECT. -/
structure Field where
  off     : Nat
  hi      : Nat
  lo      : Nat
  acc     : Access
  reset   : Nat := 0
  rep     : Nat := 1
  stride  : Nat := 0x1000
  rep2    : Nat := 1
  stride2 : Nat := 4
  clamp   : Option (Nat × Nat) := none
  gran    : Nat := 1
  accept  : Option (Nat × Nat) := none
deriving DecidableEq, Repr

/-- The number of codes a field can hold. -/
def Field.size (f : Field) : Nat := 2 ^ (f.hi - f.lo + 1)

/-- The same field in repetition `i`, and `j` inside it. -/
def Field.nth (f : Field) (i : Nat) (j : Nat := 0) : Field := { f with off := f.off + f.stride * i + f.stride2 * j }

/-- Does the field, in one of its repetitions, lie in the register at offset `off`? -/
def Field.covers (f : Field) (off : Nat) : Bool :=
  decide (f.off ≤ off) &&
  (let d := off - f.off
   decide (d / f.stride < f.rep) && decide (d % f.stride % f.stride2 = 0) && decide (d % f.stride / f.stride2 < f.rep2))

/-- The bit address of a field in the window: its page, its register, its lowest bit. The live value of an RWS or
plan-owned field lies at the same place of the page's live half (R72). -/
def fieldKey (page : Nat) (f : Field) : Nat := page * 0x8000 + f.off * 8 + f.lo

/-- The bit address of a field's live value (R37, R72). -/
def liveKey (page : Nat) (f : Field) : Nat := fieldKey page f + 0x4000

end Sys2Proof.Machine
end

