-- ==== Sys2Proof/Machine/RegsHalves.lean ====
section
/-!
DEFINITION. Sys2Proof/Machine/RegsHalves.lean: the register fields of PCIe, the control cores, the Coves, the Harbour and the Drift, one definition a field
(REGISTER_FIELD, its offset in the page, its bits, its access code, its reset value), from the manual's register tables.
A reset value that a table leaves to a word (Retained, Per instance, Strap …) stands in Machine/RegMap.lean.
-/
namespace Sys2Proof.Machine.Pcie

/-! R367 -/
def PCIE_STAT_IN_CHARGE : Field := { off := 0x040, hi := 31, lo := 31, acc := .ro }
def PCIE_STAT_IN_STEP : Field := { off := 0x040, hi := 30, lo := 30, acc := .ro }
def PCIE_STAT_D_STATE : Field := { off := 0x040, hi := 29, lo := 28, acc := .ro }
def PCIE_STAT_BME : Field := { off := 0x040, hi := 27, lo := 27, acc := .ro }
def PCIE_STAT_MSIX_EN : Field := { off := 0x040, hi := 26, lo := 26, acc := .ro }
def PCIE_STAT_LTSSM : Field := { off := 0x040, hi := 25, lo := 22, acc := .ro }
def PCIE_STAT_WIDTH : Field := { off := 0x040, hi := 12, lo := 8, acc := .ro }
def PCIE_STAT_SPEED : Field := { off := 0x040, hi := 7, lo := 4, acc := .ro }
def PCIE_PARAM_MPS : Field := { off := 0x044, hi := 31, lo := 29, acc := .ro }
def PCIE_PARAM_MRRS : Field := { off := 0x044, hi := 28, lo := 26, acc := .ro, reset := 2 }
def PCIE_PARAM_RO_EN : Field := { off := 0x044, hi := 25, lo := 25, acc := .ro, reset := 1 }
def PCIE_PARAM_NS_EN : Field := { off := 0x044, hi := 24, lo := 24, acc := .ro, reset := 1 }
def PCIE_PARAM_TAG10_EN : Field := { off := 0x044, hi := 23, lo := 23, acc := .ro }
def PCIE_PARAM_EXT_TAG_EN : Field := { off := 0x044, hi := 22, lo := 22, acc := .ro, reset := 1 }
def PCIE_PARAM_CPL_TO : Field := { off := 0x044, hi := 21, lo := 18, acc := .ro }
def HOST_CAP_MBPS : Field := { off := 0x048, hi := 31, lo := 0, acc := .ro }
def NP_OUT_LIMIT : Field := { off := 0x04C, hi := 31, lo := 16, acc := .ro, reset := 256 }
def NP_OUT_COUNT : Field := { off := 0x04C, hi := 15, lo := 0, acc := .ro }
def CPL_DISCARD_COUNT : Field := { off := 0x050, hi := 31, lo := 0, acc := .ro }
def SENT_FILTERED_COUNT : Field := { off := 0x054, hi := 31, lo := 0, acc := .ro }
def MSIX_DROP_COUNT : Field := { off := 0x058, hi := 31, lo := 0, acc := .ro }
def MSIX_MERGED_COUNT : Field := { off := 0x05C, hi := 31, lo := 0, acc := .ro }
def AER_CORR_CNT_COUNT : Field := { off := 0x060, hi := 31, lo := 0, acc := .ro }
def LINK_CNT_LINK_DOWNS : Field := { off := 0x064, hi := 31, lo := 16, acc := .ro }
def LINK_CNT_RECOVERIES : Field := { off := 0x064, hi := 15, lo := 0, acc := .ro }
def PCIE_CTL_ASPM_ALLOW : Field := { off := 0x068, hi := 31, lo := 31, acc := .rw, reset := 1 }
/-! R368 -/
def APER_BASE_H0_BASE : Field := { off := 0x040, hi := 6, lo := 0, acc := .rw }
def APER_BASE_H1_BASE : Field := { off := 0x044, hi := 6, lo := 0, acc := .rw }
def APER_ERR_VALID : Field := { off := 0x048, hi := 31, lo := 31, acc := .w1c }
def APER_ERR_OVERFLOW : Field := { off := 0x048, hi := 30, lo := 30, acc := .ro }
def APER_ERR_CAUSE : Field := { off := 0x048, hi := 29, lo := 27, acc := .ro }
def APER_ERR_WRITE : Field := { off := 0x048, hi := 26, lo := 26, acc := .ro }
def APER_ERR_HALF : Field := { off := 0x048, hi := 25, lo := 25, acc := .ro }
def APER_ERR_LO_OFFSET : Field := { off := 0x04C, hi := 31, lo := 0, acc := .ro }
def APER_ERR_HI_OFFSET : Field := { off := 0x050, hi := 31, lo := 0, acc := .ro }
/-! R369 -/
def EQ_CFG_FORCE : Field := { off := 0x040, hi := 31, lo := 31, acc := .rw, rep := 3, stride := 0x4 }
def EQ_CFG_PRESET_REQ : Field := { off := 0x040, hi := 19, lo := 16, acc := .rw, reset := 7, rep := 3, stride := 0x4, accept := some (0, 10) }
def EQ_CFG_PRESET_OWN : Field := { off := 0x040, hi := 11, lo := 8, acc := .ro, rep := 3, stride := 0x4 }
def EQ_CFG_PRESET_KEPT : Field := { off := 0x040, hi := 3, lo := 0, acc := .ro, rep := 3, stride := 0x4 }
def TEST_HOLD : Field := { off := 0x050, hi := 31, lo := 31, acc := .rw }
def TEST_LB : Field := { off := 0x050, hi := 30, lo := 29, acc := .rw, accept := some (0, 2) }
def TEST_GEN_EN : Field := { off := 0x050, hi := 28, lo := 28, acc := .rw }
def TEST_PATTERN : Field := { off := 0x050, hi := 1, lo := 0, acc := .rw, accept := some (0, 2) }
def TEST_STAT_LOCKED : Field := { off := 0x054, hi := 15, lo := 0, acc := .ro }
def LB_ERR_COUNT : Field := { off := 0x080, hi := 31, lo := 0, acc := .ro, rep := 16, stride := 0x4 }
/-! R370 -/
def SRC_VEC_EN : Field := { off := 0x100, hi := 31, lo := 31, acc := .rw, rep := 256, stride := 0x4 }
def SRC_VEC_VECTOR : Field := { off := 0x100, hi := 11, lo := 0, acc := .rw, rep := 256, stride := 0x4 }

/-- The fields of page 0. -/
def p0Fields : List Field :=
  [PCIE_STAT_IN_CHARGE, PCIE_STAT_IN_STEP, PCIE_STAT_D_STATE, PCIE_STAT_BME,
   PCIE_STAT_MSIX_EN, PCIE_STAT_LTSSM, PCIE_STAT_WIDTH, PCIE_STAT_SPEED,
   PCIE_PARAM_MPS, PCIE_PARAM_MRRS, PCIE_PARAM_RO_EN, PCIE_PARAM_NS_EN,
   PCIE_PARAM_TAG10_EN, PCIE_PARAM_EXT_TAG_EN, PCIE_PARAM_CPL_TO, HOST_CAP_MBPS,
   NP_OUT_LIMIT, NP_OUT_COUNT, CPL_DISCARD_COUNT, SENT_FILTERED_COUNT,
   MSIX_DROP_COUNT, MSIX_MERGED_COUNT, AER_CORR_CNT_COUNT, LINK_CNT_LINK_DOWNS] ++
  [LINK_CNT_RECOVERIES, PCIE_CTL_ASPM_ALLOW]
/-- The fields of page 1. -/
def p1Fields : List Field :=
  [APER_BASE_H0_BASE, APER_BASE_H1_BASE, APER_ERR_VALID, APER_ERR_OVERFLOW,
   APER_ERR_CAUSE, APER_ERR_WRITE, APER_ERR_HALF, APER_ERR_LO_OFFSET,
   APER_ERR_HI_OFFSET]
/-- The fields of page 2. -/
def p2Fields : List Field :=
  [EQ_CFG_FORCE, EQ_CFG_PRESET_REQ, EQ_CFG_PRESET_OWN, EQ_CFG_PRESET_KEPT,
   TEST_HOLD, TEST_LB, TEST_GEN_EN, TEST_PATTERN,
   TEST_STAT_LOCKED, LB_ERR_COUNT]
/-- The fields of page vec. -/
def pvecFields : List Field :=
  [SRC_VEC_EN, SRC_VEC_VECTOR]

end Sys2Proof.Machine.Pcie

namespace Sys2Proof.Machine.Lp

/-! R548 -/
def LP_INFO_FW_VER : Field := { off := 0x040, hi := 31, lo := 16, acc := .ro }
def LP_INFO_INDEX : Field := { off := 0x040, hi := 1, lo := 0, acc := .ro }
def LP_FW_STAT_STATE : Field := { off := 0x044, hi := 31, lo := 28, acc := .ro }
def LP_FW_STAT_REPAIR_LIMIT : Field := { off := 0x044, hi := 27, lo := 27, acc := .ro }
def LP_FW_STAT_LOAD : Field := { off := 0x044, hi := 9, lo := 0, acc := .ro }
def WD_CFG_EN : Field := { off := 0x048, hi := 31, lo := 31, acc := .rw }
def WD_CFG_TIMEOUT_US : Field := { off := 0x048, hi := 15, lo := 0, acc := .rw, reset := 1000, clamp := some (100, 65535) }
def LOCKSTEP_CNT_COUNT : Field := { off := 0x04C, hi := 31, lo := 0, acc := .ro }
def TCM_ECC_CORR : Field := { off := 0x050, hi := 31, lo := 16, acc := .ro }
def TCM_ECC_UNCORR : Field := { off := 0x050, hi := 15, lo := 0, acc := .ro }
def MEMWIN_LO_BA : Field := { off := 0x054, hi := 31, lo := 30, acc := .rw }
def MEMWIN_HI_BA : Field := { off := 0x058, hi := 19, lo := 0, acc := .rw }
/-! R549 -/
def CMD_BASE_LO_BA : Field := { off := 0x040, hi := 31, lo := 14, acc := .rw }
def CMD_BASE_HI_BA : Field := { off := 0x044, hi := 19, lo := 0, acc := .rw }
def CPL_BASE_LO_BA : Field := { off := 0x048, hi := 31, lo := 12, acc := .rw }
def CPL_BASE_HI_BA : Field := { off := 0x04C, hi := 19, lo := 0, acc := .rw }
def CMD_CFG_EN : Field := { off := 0x050, hi := 31, lo := 31, acc := .rw }
def CMD_CFG_CPL_SRC : Field := { off := 0x050, hi := 4, lo := 0, acc := .rw, reset := 12, clamp := some (12, 27) }
def CMD_TAIL_COUNT : Field := { off := 0x054, hi := 15, lo := 0, acc := .rw }
def CMD_HEAD_COUNT : Field := { off := 0x058, hi := 15, lo := 0, acc := .ro }
def CPL_TAIL_COUNT : Field := { off := 0x05C, hi := 15, lo := 0, acc := .ro }
def CPL_HEAD_COUNT : Field := { off := 0x060, hi := 15, lo := 0, acc := .rw }
def CMD_STAT_OWNER : Field := { off := 0x064, hi := 31, lo := 29, acc := .ro }
def CMD_STAT_IN_USE : Field := { off := 0x064, hi := 24, lo := 16, acc := .ro }
def CMD_STAT_LONG : Field := { off := 0x064, hi := 3, lo := 0, acc := .ro }
def CMD_STALE_COUNT : Field := { off := 0x068, hi := 31, lo := 0, acc := .ro }
def STEP_MAX_NS : Field := { off := 0x06C, hi := 31, lo := 0, acc := .ro }
def CMD_LAT_MAX_NS : Field := { off := 0x070, hi := 31, lo := 0, acc := .ro }
/-! R550 -/
def LOOP_STAT_EXP_ON : Field := { off := 0x100, hi := 31, lo := 31, acc := .ro, rep := 160, stride := 0x4 }
def LOOP_STAT_WB_ON : Field := { off := 0x100, hi := 30, lo := 30, acc := .ro, rep := 160, stride := 0x4 }
def LOOP_STAT_FIT_LOW : Field := { off := 0x100, hi := 29, lo := 29, acc := .ro, rep := 160, stride := 0x4 }
def LOOP_STAT_LATE_RUN : Field := { off := 0x100, hi := 23, lo := 16, acc := .ro, rep := 160, stride := 0x4 }
def LOOP_STAT_UPDATES : Field := { off := 0x100, hi := 15, lo := 0, acc := .ro, rep := 160, stride := 0x4 }

/-- The fields of page 0. -/
def p0Fields : List Field :=
  [LP_INFO_FW_VER, LP_INFO_INDEX, LP_FW_STAT_STATE, LP_FW_STAT_REPAIR_LIMIT,
   LP_FW_STAT_LOAD, WD_CFG_EN, WD_CFG_TIMEOUT_US, LOCKSTEP_CNT_COUNT,
   TCM_ECC_CORR, TCM_ECC_UNCORR, MEMWIN_LO_BA, MEMWIN_HI_BA]
/-- The fields of page 1. -/
def p1Fields : List Field :=
  [CMD_BASE_LO_BA, CMD_BASE_HI_BA, CPL_BASE_LO_BA, CPL_BASE_HI_BA,
   CMD_CFG_EN, CMD_CFG_CPL_SRC, CMD_TAIL_COUNT, CMD_HEAD_COUNT,
   CPL_TAIL_COUNT, CPL_HEAD_COUNT, CMD_STAT_OWNER, CMD_STAT_IN_USE,
   CMD_STAT_LONG, CMD_STALE_COUNT, STEP_MAX_NS, CMD_LAT_MAX_NS]
/-- The fields of page 2. -/
def p2Fields : List Field :=
  [LOOP_STAT_EXP_ON, LOOP_STAT_WB_ON, LOOP_STAT_FIT_LOW, LOOP_STAT_LATE_RUN,
   LOOP_STAT_UPDATES]

end Sys2Proof.Machine.Lp

namespace Sys2Proof.Machine.Cove

/-! R245 -/
def CTX_BIND_VALID : Field := { off := 0x100, hi := 31, lo := 31, acc := .ro, rep := 8, stride := 0x20 }
def CTX_BIND_PATH : Field := { off := 0x100, hi := 30, lo := 30, acc := .ro, rep := 8, stride := 0x20 }
def CTX_BIND_STREAM : Field := { off := 0x100, hi := 9, lo := 0, acc := .ro, reset := 0x3FF, rep := 8, stride := 0x20 }
def IN_CFG_CFA_PHY : Field := { off := 0x104, hi := 1, lo := 1, acc := .rws, rep := 8, stride := 0x20 }
def IN_CFG_CFA_PHX : Field := { off := 0x104, hi := 0, lo := 0, acc := .rws, rep := 8, stride := 0x20 }
def PWL_CFG_EN : Field := { off := 0x108, hi := 31, lo := 31, acc := .rws, rep := 8, stride := 0x20 }
def PWL_CFG_SHARED : Field := { off := 0x108, hi := 30, lo := 30, acc := .rws, rep := 8, stride := 0x20 }
def PWL_CFG_BYPASS_SHIFT : Field := { off := 0x108, hi := 3, lo := 0, acc := .rws, rep := 8, stride := 0x20, clamp := some (0, 14) }
def PWL_BASE_LO_BASE : Field := { off := 0x10C, hi := 31, lo := 6, acc := .rws, rep := 8, stride := 0x20 }
def PWL_BASE_HI_BASE : Field := { off := 0x110, hi := 19, lo := 0, acc := .rws, rep := 8, stride := 0x20 }
def FRONT_STAT_BYPASSED : Field := { off := 0x114, hi := 31, lo := 31, acc := .ro, rep := 8, stride := 0x20 }
def FRONT_STAT_FAULT_FRAMES : Field := { off := 0x114, hi := 15, lo := 0, acc := .ro, rep := 8, stride := 0x20 }
/-! R246 -/
def BL_CFG_TRACK : Field := { off := 0x100, hi := 31, lo := 31, acc := .rws, rep := 8, stride := 0x80 }
def BL_CFG_MEASURE : Field := { off := 0x100, hi := 30, lo := 30, acc := .rws, rep := 8, stride := 0x80 }
def BL_CFG_BL_STEP : Field := { off := 0x100, hi := 15, lo := 0, acc := .rws, reset := 16, rep := 8, stride := 0x80 }
def BL_TARGET_TARGET : Field := { off := 0x104, hi := 15, lo := 0, acc := .rws, rep := 8, stride := 0x80 }
def OB_ROWS_LAST : Field := { off := 0x108, hi := 31, lo := 16, acc := .rws, rep := 8, stride := 0x80 }
def OB_ROWS_FIRST : Field := { off := 0x108, hi := 15, lo := 0, acc := .rws, rep := 8, stride := 0x80 }
def OB_COLS_LAST : Field := { off := 0x10C, hi := 31, lo := 16, acc := .rws, rep := 8, stride := 0x80 }
def OB_COLS_FIRST : Field := { off := 0x10C, hi := 15, lo := 0, acc := .rws, rep := 8, stride := 0x80 }
def BL_OFF_OFF : Field := { off := 0x110, hi := 31, lo := 0, acc := .rws, rep := 8, stride := 0x80, rep2 := 8, stride2 := 0x4 }
def BL_EFF_EFF : Field := { off := 0x130, hi := 31, lo := 0, acc := .ro, rep := 8, stride := 0x80, rep2 := 8, stride2 := 0x4 }
def OB_MEAN_MEAN : Field := { off := 0x150, hi := 31, lo := 0, acc := .ro, rep := 8, stride := 0x80, rep2 := 8, stride2 := 0x4 }
def OB_STAT_VALID : Field := { off := 0x170, hi := 31, lo := 31, acc := .ro, rep := 8, stride := 0x80 }
def OB_STAT_COUNT : Field := { off := 0x170, hi := 23, lo := 0, acc := .ro, rep := 8, stride := 0x80 }
/-! R247 -/
def DEF_CFG_STATIC_EN : Field := { off := 0x100, hi := 31, lo := 31, acc := .rws, rep := 8, stride := 0x40 }
def DEF_CFG_DYN_EN : Field := { off := 0x100, hi := 30, lo := 30, acc := .rws, rep := 8, stride := 0x40 }
def DEF_CFG_LEARN_EN : Field := { off := 0x100, hi := 29, lo := 29, acc := .rws, rep := 8, stride := 0x40 }
def DEF_MAP_LO_BASE : Field := { off := 0x104, hi := 31, lo := 6, acc := .rws, rep := 8, stride := 0x40 }
def DEF_MAP_HI_BASE : Field := { off := 0x108, hi := 19, lo := 0, acc := .rws, rep := 8, stride := 0x40 }
def DEF_COUNT_COUNT : Field := { off := 0x10C, hi := 16, lo := 0, acc := .rws, rep := 8, stride := 0x40, clamp := some (0, 65536) }
def DEF_DYN_DYN_REL : Field := { off := 0x110, hi := 31, lo := 24, acc := .rws, reset := 64, rep := 8, stride := 0x40 }
def DEF_DYN_DYN_ABS : Field := { off := 0x110, hi := 23, lo := 0, acc := .rws, reset := 2048, rep := 8, stride := 0x40 }
def LRN_LO_BASE : Field := { off := 0x114, hi := 31, lo := 6, acc := .rws, rep := 8, stride := 0x40 }
def LRN_HI_BASE : Field := { off := 0x118, hi := 19, lo := 0, acc := .rws, rep := 8, stride := 0x40 }
def LRN_CFG_SIZE_LOG2 : Field := { off := 0x11C, hi := 31, lo := 27, acc := .rws, reset := 12, rep := 8, stride := 0x40, clamp := some (8, 16) }
def LRN_CFG_LRN_PER_FRAME : Field := { off := 0x11C, hi := 15, lo := 0, acc := .rws, reset := 256, rep := 8, stride := 0x40 }
def LRN_WR_COUNT : Field := { off := 0x120, hi := 31, lo := 0, acc := .ro, rep := 8, stride := 0x40 }
def DEF_CNT_STATIC_COUNT : Field := { off := 0x124, hi := 31, lo := 0, acc := .ro, rep := 8, stride := 0x40 }
def DEF_CNT_DYN_COUNT : Field := { off := 0x128, hi := 31, lo := 0, acc := .ro, rep := 8, stride := 0x40 }
def LRN_SKIP_COUNT : Field := { off := 0x12C, hi := 31, lo := 0, acc := .ro, rep := 8, stride := 0x40 }
def DEF_STAT_ORDER : Field := { off := 0x130, hi := 31, lo := 31, acc := .ro, rep := 8, stride := 0x40 }
def DEF_STAT_USED : Field := { off := 0x130, hi := 16, lo := 0, acc := .ro, rep := 8, stride := 0x40 }
/-! R248 -/
def SH_CFG_EN : Field := { off := 0x100, hi := 31, lo := 31, acc := .rws, rep := 8, stride := 0x10 }
def SH_CFG_CELL_H : Field := { off := 0x100, hi := 26, lo := 16, acc := .rws, reset := 64, rep := 8, stride := 0x10, clamp := some (2, 1024) }
def SH_CFG_CELL_W : Field := { off := 0x100, hi := 10, lo := 0, acc := .rws, reset := 64, rep := 8, stride := 0x10, clamp := some (2, 1024) }
def SH_BASE_LO_BASE : Field := { off := 0x104, hi := 31, lo := 6, acc := .rws, rep := 8, stride := 0x10 }
def SH_BASE_HI_BASE : Field := { off := 0x108, hi := 19, lo := 0, acc := .rws, rep := 8, stride := 0x10 }
/-! R249 -/
def HDR_CFG_EN : Field := { off := 0x100, hi := 31, lo := 31, acc := .rws, rep := 8, stride := 0x80 }
def HDR_CFG_MOT_PREF : Field := { off := 0x100, hi := 30, lo := 30, acc := .rws, rep := 8, stride := 0x80 }
def HDR_CFG_ORDER : Field := { off := 0x100, hi := 7, lo := 0, acc := .rws, reset := 0xE4, rep := 8, stride := 0x80 }
def HDR_K_K : Field := { off := 0x104, hi := 23, lo := 0, acc := .rws, reset := 0x010000, rep := 8, stride := 0x80, rep2 := 4, stride2 := 0x4 }
def HDR_START_START : Field := { off := 0x114, hi := 23, lo := 0, acc := .rws, reset := 0xFFFFFF, rep := 8, stride := 0x80, rep2 := 4, stride2 := 0x8 }
def HDR_CLIP_CLIP : Field := { off := 0x118, hi := 23, lo := 0, acc := .rws, reset := 0xFFFFFF, rep := 8, stride := 0x80, rep2 := 4, stride2 := 0x8 }
def MOT_FLOOR_FLOOR : Field := { off := 0x134, hi := 23, lo := 0, acc := .rws, reset := 0xFFFFFF, rep := 8, stride := 0x80 }
def MOT_CFG_MOT_REL : Field := { off := 0x138, hi := 15, lo := 0, acc := .rws, rep := 8, stride := 0x80 }
def TONE_CFG_EN : Field := { off := 0x13C, hi := 31, lo := 31, acc := .rws, rep := 8, stride := 0x80 }
def TONE_CFG_MODE : Field := { off := 0x13C, hi := 30, lo := 30, acc := .rws, rep := 8, stride := 0x80 }
def TONE_LO_BASE : Field := { off := 0x140, hi := 31, lo := 6, acc := .rws, rep := 8, stride := 0x80 }
def TONE_HI_BASE : Field := { off := 0x144, hi := 19, lo := 0, acc := .rws, rep := 8, stride := 0x80 }
def MOT_PIX_COUNT : Field := { off := 0x148, hi := 31, lo := 0, acc := .ro, rep := 8, stride := 0x80 }
def MOT_GAIN_GAIN : Field := { off := 0x14C, hi := 31, lo := 0, acc := .rws, rep := 8, stride := 0x80 }
/-! R277 -/
def COVE_CTX_SENTINEL : Field := { off := 0x040, hi := 23, lo := 16, acc := .ro }
def COVE_CTX_VALID : Field := { off := 0x040, hi := 15, lo := 8, acc := .ro }
def COVE_CTX_INLINE : Field := { off := 0x040, hi := 3, lo := 0, acc := .ro, reset := 0xF }
def SLICE_RANK_RANK : Field := { off := 0x044, hi := 31, lo := 0, acc := .plan }
def LOAD_PPM : Field := { off := 0x048, hi := 19, lo := 0, acc := .ro }
def JOBS_COUNT : Field := { off := 0x04C, hi := 31, lo := 0, acc := .ro }
def CHUNKS_COUNT : Field := { off := 0x050, hi := 31, lo := 0, acc := .ro }
def WAIT_MAX_CYCLES : Field := { off := 0x054, hi := 7, lo := 0, acc := .ro }
/-! R278 -/
def NR_CFG_EN : Field := { off := 0x100, hi := 31, lo := 31, acc := .rws, rep := 8, stride := 0x20 }
def NR_CFG_STRENGTH : Field := { off := 0x100, hi := 24, lo := 16, acc := .rws, reset := 256, rep := 8, stride := 0x20, clamp := some (0, 256) }
def NR_CFG_RSCALE : Field := { off := 0x100, hi := 15, lo := 0, acc := .rws, reset := 64, rep := 8, stride := 0x20 }
def NR_SW0_SW : Field := { off := 0x104, hi := 31, lo := 0, acc := .rws, rep := 8, stride := 0x20 }
def NR_SW1_SW22 : Field := { off := 0x108, hi := 7, lo := 0, acc := .rws, rep := 8, stride := 0x20 }
def NR_RW0_RW : Field := { off := 0x10C, hi := 31, lo := 8, acc := .rws, rep := 8, stride := 0x20 }
def NR_RW_RW : Field := { off := 0x110, hi := 31, lo := 0, acc := .rws, rep := 8, stride := 0x20, rep2 := 3, stride2 := 0x4 }
def WB_01_WB1 : Field := { off := 0x100, hi := 31, lo := 16, acc := .rws, reset := 0x1000, rep := 8, stride := 0x10 }
def WB_01_WB0 : Field := { off := 0x100, hi := 15, lo := 0, acc := .rws, reset := 0x1000, rep := 8, stride := 0x10 }
def WB_23_WB3 : Field := { off := 0x104, hi := 31, lo := 16, acc := .rws, reset := 0x1000, rep := 8, stride := 0x10 }
def WB_23_WB2 : Field := { off := 0x104, hi := 15, lo := 0, acc := .rws, reset := 0x1000, rep := 8, stride := 0x10 }
/-! R279 -/
def STAT_CFG_EN : Field := { off := 0x100, hi := 31, lo := 31, acc := .rws, rep := 8, stride := 0x60 }
def STAT_CFG_TAP : Field := { off := 0x100, hi := 30, lo := 30, acc := .rws, rep := 8, stride := 0x60 }
def STAT_CFG_SLOTS : Field := { off := 0x100, hi := 3, lo := 0, acc := .rws, reset := 2, rep := 8, stride := 0x60, clamp := some (2, 8) }
def STAT_BASE_LO_BASE : Field := { off := 0x104, hi := 31, lo := 6, acc := .rws, rep := 8, stride := 0x60 }
def STAT_BASE_HI_BASE : Field := { off := 0x108, hi := 19, lo := 0, acc := .rws, rep := 8, stride := 0x60 }
def ZONE_ORG_Y0 : Field := { off := 0x10C, hi := 31, lo := 16, acc := .rws, rep := 8, stride := 0x60 }
def ZONE_ORG_X0 : Field := { off := 0x10C, hi := 15, lo := 0, acc := .rws, rep := 8, stride := 0x60 }
def ZONE_SIZE_ZH : Field := { off := 0x110, hi := 31, lo := 16, acc := .rws, reset := 64, rep := 8, stride := 0x60, clamp := some (2, 1024), gran := 2 }
def ZONE_SIZE_ZW : Field := { off := 0x110, hi := 15, lo := 0, acc := .rws, reset := 64, rep := 8, stride := 0x60, clamp := some (2, 1024), gran := 2 }
def STAT_LEVELS_CLIP_LEVEL : Field := { off := 0x13C, hi := 31, lo := 16, acc := .rws, reset := 0xFF00, rep := 8, stride := 0x60 }
def STAT_LEVELS_DARK_LEVEL : Field := { off := 0x13C, hi := 15, lo := 0, acc := .rws, reset := 0x0100, rep := 8, stride := 0x60 }
def STAT_LAST_SEQ : Field := { off := 0x140, hi := 31, lo := 0, acc := .ro, rep := 8, stride := 0x60 }
/-! R280 -/
def DM_CFG_EN : Field := { off := 0x100, hi := 31, lo := 31, acc := .rws, rep := 8, stride := 0x20 }
def DM_CFG_RED : Field := { off := 0x100, hi := 1, lo := 0, acc := .rws, rep := 8, stride := 0x20 }
def CM_CM : Field := { off := 0x104, hi := 31, lo := 0, acc := .rws, rep := 8, stride := 0x20, rep2 := 4, stride2 := 0x4 }
def CM_4_CM : Field := { off := 0x114, hi := 15, lo := 0, acc := .rws, reset := 0x1000, rep := 8, stride := 0x20 }
def CM_OFF0_OFF : Field := { off := 0x118, hi := 31, lo := 0, acc := .rws, rep := 8, stride := 0x20 }
def CM_OFF1_OFF : Field := { off := 0x11C, hi := 15, lo := 0, acc := .rws, rep := 8, stride := 0x20 }
/-! R281 -/
def CS_CFG_LUT_EN : Field := { off := 0x100, hi := 31, lo := 31, acc := .rws, rep := 8, stride := 0x40 }
def LUT_LO_BASE : Field := { off := 0x104, hi := 31, lo := 6, acc := .rws, rep := 8, stride := 0x40 }
def LUT_HI_BASE : Field := { off := 0x108, hi := 19, lo := 0, acc := .rws, rep := 8, stride := 0x40 }
def CS_CS : Field := { off := 0x10C, hi := 31, lo := 0, acc := .rws, rep := 8, stride := 0x40, rep2 := 5, stride2 := 0x4 }
def CS_OFF0_OFF : Field := { off := 0x120, hi := 31, lo := 0, acc := .rws, reset := 0x80000000, rep := 8, stride := 0x40 }
def CS_OFF1_OFF : Field := { off := 0x124, hi := 15, lo := 0, acc := .rws, reset := 0x8000, rep := 8, stride := 0x40 }
/-! R282 -/
def WIN_CFG_EN : Field := { off := 0x100, hi := 31, lo := 31, acc := .rws, rep := 8, stride := 0x20 }
def WIN_CFG_TBL : Field := { off := 0x100, hi := 30, lo := 30, acc := .rws, rep := 8, stride := 0x20 }
def WIN_CFG_FORMAT : Field := { off := 0x100, hi := 27, lo := 24, acc := .rws, rep := 8, stride := 0x20 }
def SC_LO_BASE : Field := { off := 0x110, hi := 31, lo := 6, acc := .rws, rep := 8, stride := 0x20 }
def SC_HI_BASE : Field := { off := 0x114, hi := 19, lo := 0, acc := .rws, rep := 8, stride := 0x20 }
def WIN_STAT_ROWS : Field := { off := 0x118, hi := 31, lo := 16, acc := .ro, rep := 8, stride := 0x20 }
def OUT_FRAMES_COUNT : Field := { off := 0x100, hi := 31, lo := 0, acc := .ro, rep := 8, stride := 0x10 }
def OUT_SEQ_SEQ : Field := { off := 0x104, hi := 31, lo := 0, acc := .ro, rep := 8, stride := 0x10 }
def OUT_FLAGS_FLAGS : Field := { off := 0x108, hi := 15, lo := 0, acc := .ro, rep := 8, stride := 0x10 }
def OUT_CUTS_COUNT : Field := { off := 0x10C, hi := 31, lo := 0, acc := .ro, rep := 8, stride := 0x10 }
/-! R279 -/
def HIST_ORG_Y0 : Field := { off := 0x114, hi := 31, lo := 16, acc := .rws, rep := 8, stride := 0x60 }
def ROI_ORG_Y0 : Field := { off := 0x11C, hi := 31, lo := 16, acc := .rws, rep := 8, stride := 0x60, rep2 := 4, stride2 := 0x8 }
/-! R282 -/
def WIN_ORG_Y0 : Field := { off := 0x104, hi := 31, lo := 16, acc := .rws, rep := 8, stride := 0x20 }
/-! R279 -/
def HIST_ORG_X0 : Field := { off := 0x114, hi := 15, lo := 0, acc := .rws, rep := 8, stride := 0x60 }
def ROI_ORG_X0 : Field := { off := 0x11C, hi := 15, lo := 0, acc := .rws, rep := 8, stride := 0x60, rep2 := 4, stride2 := 0x8 }
/-! R282 -/
def WIN_ORG_X0 : Field := { off := 0x104, hi := 15, lo := 0, acc := .rws, rep := 8, stride := 0x20 }
/-! R279 -/
def HIST_SIZE_H : Field := { off := 0x118, hi := 31, lo := 16, acc := .rws, reset := 0xFFFF, rep := 8, stride := 0x60 }
def ROI_SIZE_H : Field := { off := 0x120, hi := 31, lo := 16, acc := .rws, rep := 8, stride := 0x60, rep2 := 4, stride2 := 0x8 }
/-! R282 -/
def WIN_SIZE_H : Field := { off := 0x108, hi := 31, lo := 16, acc := .rws, rep := 8, stride := 0x20 }
/-! R279 -/
def HIST_SIZE_W : Field := { off := 0x118, hi := 15, lo := 0, acc := .rws, reset := 0xFFFF, rep := 8, stride := 0x60 }
def ROI_SIZE_W : Field := { off := 0x120, hi := 15, lo := 0, acc := .rws, rep := 8, stride := 0x60, rep2 := 4, stride2 := 0x8 }
/-! R282 -/
def WIN_SIZE_W : Field := { off := 0x108, hi := 15, lo := 0, acc := .rws, rep := 8, stride := 0x20 }
def WIN_OUT_OUT_H : Field := { off := 0x10C, hi := 31, lo := 16, acc := .rws, rep := 8, stride := 0x20 }
def WIN_OUT_OUT_W : Field := { off := 0x10C, hi := 15, lo := 0, acc := .rws, rep := 8, stride := 0x20 }

/-- The fields of page 1. -/
def p1Fields : List Field :=
  [CTX_BIND_VALID, CTX_BIND_PATH, CTX_BIND_STREAM, IN_CFG_CFA_PHY,
   IN_CFG_CFA_PHX, PWL_CFG_EN, PWL_CFG_SHARED, PWL_CFG_BYPASS_SHIFT,
   PWL_BASE_LO_BASE, PWL_BASE_HI_BASE, FRONT_STAT_BYPASSED, FRONT_STAT_FAULT_FRAMES]
/-- The fields of page 2. -/
def p2Fields : List Field :=
  [BL_CFG_TRACK, BL_CFG_MEASURE, BL_CFG_BL_STEP, BL_TARGET_TARGET,
   OB_ROWS_LAST, OB_ROWS_FIRST, OB_COLS_LAST, OB_COLS_FIRST,
   BL_OFF_OFF, BL_EFF_EFF, OB_MEAN_MEAN, OB_STAT_VALID,
   OB_STAT_COUNT]
/-- The fields of page 3. -/
def p3Fields : List Field :=
  [DEF_CFG_STATIC_EN, DEF_CFG_DYN_EN, DEF_CFG_LEARN_EN, DEF_MAP_LO_BASE,
   DEF_MAP_HI_BASE, DEF_COUNT_COUNT, DEF_DYN_DYN_REL, DEF_DYN_DYN_ABS,
   LRN_LO_BASE, LRN_HI_BASE, LRN_CFG_SIZE_LOG2, LRN_CFG_LRN_PER_FRAME,
   LRN_WR_COUNT, DEF_CNT_STATIC_COUNT, DEF_CNT_DYN_COUNT, LRN_SKIP_COUNT,
   DEF_STAT_ORDER, DEF_STAT_USED]
/-- The fields of page 4. -/
def p4Fields : List Field :=
  [SH_CFG_EN, SH_CFG_CELL_H, SH_CFG_CELL_W, SH_BASE_LO_BASE,
   SH_BASE_HI_BASE]
/-- The fields of page 5. -/
def p5Fields : List Field :=
  [HDR_CFG_EN, HDR_CFG_MOT_PREF, HDR_CFG_ORDER, HDR_K_K,
   HDR_START_START, HDR_CLIP_CLIP, MOT_FLOOR_FLOOR, MOT_CFG_MOT_REL,
   TONE_CFG_EN, TONE_CFG_MODE, TONE_LO_BASE, TONE_HI_BASE,
   MOT_PIX_COUNT, MOT_GAIN_GAIN]
/-- The fields of page 0. -/
def p0Fields : List Field :=
  [COVE_CTX_SENTINEL, COVE_CTX_VALID, COVE_CTX_INLINE, SLICE_RANK_RANK,
   LOAD_PPM, JOBS_COUNT, CHUNKS_COUNT, WAIT_MAX_CYCLES]
/-- The fields of page 6. -/
def p6Fields : List Field :=
  [NR_CFG_EN, NR_CFG_STRENGTH, NR_CFG_RSCALE, NR_SW0_SW,
   NR_SW1_SW22, NR_RW0_RW, NR_RW_RW]
/-- The fields of page 7. -/
def p7Fields : List Field :=
  [WB_01_WB1, WB_01_WB0, WB_23_WB3, WB_23_WB2]
/-- The fields of page 8. -/
def p8Fields : List Field :=
  [STAT_CFG_EN, STAT_CFG_TAP, STAT_CFG_SLOTS, STAT_BASE_LO_BASE,
   STAT_BASE_HI_BASE, ZONE_ORG_Y0, ZONE_ORG_X0, ZONE_SIZE_ZH,
   ZONE_SIZE_ZW, STAT_LEVELS_CLIP_LEVEL, STAT_LEVELS_DARK_LEVEL, STAT_LAST_SEQ,
   HIST_ORG_Y0, ROI_ORG_Y0, HIST_ORG_X0, ROI_ORG_X0,
   HIST_SIZE_H, ROI_SIZE_H, HIST_SIZE_W, ROI_SIZE_W]
/-- The fields of page 9. -/
def p9Fields : List Field :=
  [DM_CFG_EN, DM_CFG_RED, CM_CM, CM_4_CM,
   CM_OFF0_OFF, CM_OFF1_OFF]
/-- The fields of page 10. -/
def p10Fields : List Field :=
  [CS_CFG_LUT_EN, LUT_LO_BASE, LUT_HI_BASE, CS_CS,
   CS_OFF0_OFF, CS_OFF1_OFF]
/-- The fields of page win. -/
def pwinFields : List Field :=
  [WIN_CFG_EN, WIN_CFG_TBL, WIN_CFG_FORMAT, SC_LO_BASE,
   SC_HI_BASE, WIN_STAT_ROWS, WIN_ORG_Y0, WIN_ORG_X0,
   WIN_SIZE_H, WIN_SIZE_W, WIN_OUT_OUT_H, WIN_OUT_OUT_W]
/-- The fields of page 15. -/
def p15Fields : List Field :=
  [OUT_FRAMES_COUNT, OUT_SEQ_SEQ, OUT_FLAGS_FLAGS, OUT_CUTS_COUNT]

end Sys2Proof.Machine.Cove

namespace Sys2Proof.Machine.Harbour

/-! R309 -/
def HB_CFG_ECC_EN : Field := { off := 0x040, hi := 31, lo := 31, acc := .rw, reset := 1 }
def HB_CFG_LINK_ECC : Field := { off := 0x040, hi := 30, lo := 30, acc := .rw, reset := 1 }
def HB_CFG_SCRUB_NS : Field := { off := 0x040, hi := 15, lo := 0, acc := .rw, reset := 1000 }
def HB_STAT_INIT_DONE : Field := { off := 0x044, hi := 31, lo := 31, acc := .ro }
def HB_STAT_ECC_ON : Field := { off := 0x044, hi := 30, lo := 30, acc := .ro }
def HB_STAT_CH_UP : Field := { off := 0x044, hi := 7, lo := 4, acc := .ro }
def HB_CAP_CH_GIB : Field := { off := 0x048, hi := 23, lo := 16, acc := .ro }
def HB_CAP_DATA_MIB : Field := { off := 0x048, hi := 15, lo := 0, acc := .ro }
def HB_INIT_GO : Field := { off := 0x04C, hi := 31, lo := 31, acc := .w1s }
def HB_INIT_FRONT : Field := { off := 0x04C, hi := 19, lo := 0, acc := .ro }
def HB_REFRESH_AB_SLACK : Field := { off := 0x050, hi := 15, lo := 0, acc := .ro }
def HB_SCRUB_PASSES : Field := { off := 0x054, hi := 31, lo := 0, acc := .ro }
/-! R310 -/
def CH_STAT_DEV_GIB : Field := { off := 0x040, hi := 31, lo := 24, acc := .ro }
def CH_STAT_REF_MULT : Field := { off := 0x040, hi := 19, lo := 16, acc := .ro }
def CH_STAT_SR : Field := { off := 0x040, hi := 2, lo := 2, acc := .ro }
def CH_STAT_TRAINED : Field := { off := 0x040, hi := 1, lo := 1, acc := .ro }
def CH_ECC_CORR_COUNT : Field := { off := 0x044, hi := 31, lo := 0, acc := .ro }
def CH_ECC_UNCORR_COUNT : Field := { off := 0x048, hi := 31, lo := 0, acc := .ro }
def CH_ERR_ADDR_LO_PA : Field := { off := 0x04C, hi := 31, lo := 0, acc := .ro }
def CH_ERR_ADDR_HI_PA : Field := { off := 0x050, hi := 2, lo := 0, acc := .ro }
def CH_LINK_RD_CORR : Field := { off := 0x054, hi := 31, lo := 16, acc := .ro }
def CH_LINK_WR_CORR : Field := { off := 0x054, hi := 15, lo := 0, acc := .ro }
def CH_LOAD_PPM : Field := { off := 0x058, hi := 19, lo := 0, acc := .ro }
/-! R311 -/
def CLS_BUDGET_MBPS : Field := { off := 0x040, hi := 31, lo := 0, acc := .plan, rep := 4, stride := 0x20 }
def CLS_CFG_SURPLUS : Field := { off := 0x044, hi := 31, lo := 31, acc := .rws, reset := 1, rep := 4, stride := 0x20 }
def CLS_CREDIT_BYTES : Field := { off := 0x048, hi := 31, lo := 0, acc := .ro, rep := 4, stride := 0x20 }
def CLS_BYTES_BYTES : Field := { off := 0x04C, hi := 31, lo := 0, acc := .ro, rep := 4, stride := 0x20 }
def CLS_SURPLUS_BYTES : Field := { off := 0x050, hi := 31, lo := 0, acc := .ro, rep := 4, stride := 0x20 }
def CLS_DEFER_COUNT : Field := { off := 0x054, hi := 31, lo := 0, acc := .ro, rep := 4, stride := 0x20 }
def CLS_LAT_MAX_NS : Field := { off := 0x058, hi := 31, lo := 0, acc := .ro, rep := 4, stride := 0x20 }
/-! R312 -/
def JOB_BULK_ENTRIES : Field := { off := 0x040, hi := 16, lo := 0, acc := .plan }
def JOB_RESV_ENTRIES : Field := { off := 0x044, hi := 16, lo := 0, acc := .plan }
def JOB_USED_ENTRIES : Field := { off := 0x048, hi := 16, lo := 0, acc := .ro }
def JOB_PEAK_ENTRIES : Field := { off := 0x04C, hi := 16, lo := 0, acc := .ro }
def JOB_STALE_COUNT : Field := { off := 0x050, hi := 31, lo := 0, acc := .ro }
def JOB_TIMEOUTS_COUNT : Field := { off := 0x054, hi := 31, lo := 0, acc := .ro }
def JOB_CFG_TO_US : Field := { off := 0x058, hi := 15, lo := 0, acc := .rw, reset := 100, clamp := some (10, 10000) }
def BULK_WAIT_COUNT : Field := { off := 0x05C, hi := 31, lo := 0, acc := .ro }
def JOB_FAIL_COUNT : Field := { off := 0x060, hi := 31, lo := 0, acc := .ro }
def JOB_RES_FIRST_ENTRY : Field := { off := 0x100, hi := 16, lo := 0, acc := .plan, rep := 160, stride := 0x8 }
def JOB_RES_COUNT_COUNT : Field := { off := 0x104, hi := 16, lo := 0, acc := .plan, rep := 160, stride := 0x8 }
/-! R313 -/
def TR_ROOT_LO_BASE : Field := { off := 0x040, hi := 31, lo := 18, acc := .rws }
def TR_ROOT_LO_EN : Field := { off := 0x040, hi := 0, lo := 0, acc := .rws }
def TR_ROOT_HI_BASE : Field := { off := 0x044, hi := 2, lo := 0, acc := .rws }
def TR_INV_GO : Field := { off := 0x048, hi := 31, lo := 31, acc := .w1s }
def TR_INV_ALL : Field := { off := 0x048, hi := 30, lo := 30, acc := .rw, reset := 1 }
def TR_INV_ADDR_LO_BA : Field := { off := 0x04C, hi := 31, lo := 21, acc := .rw }
def TR_INV_ADDR_HI_BA : Field := { off := 0x050, hi := 19, lo := 0, acc := .rw }
def TR_FAULT_INFO_VALID : Field := { off := 0x054, hi := 31, lo := 31, acc := .w1c }
def TR_FAULT_INFO_OVERFLOW : Field := { off := 0x054, hi := 30, lo := 30, acc := .ro }
def TR_FAULT_INFO_CAUSE : Field := { off := 0x054, hi := 29, lo := 26, acc := .ro }
def TR_FAULT_INFO_LEVEL : Field := { off := 0x054, hi := 25, lo := 24, acc := .ro }
def TR_FAULT_INFO_WRITE : Field := { off := 0x054, hi := 23, lo := 23, acc := .ro }
def TR_FAULT_INFO_REQUESTER : Field := { off := 0x054, hi := 22, lo := 20, acc := .ro }
def TR_FAULT_INFO_SOURCE : Field := { off := 0x054, hi := 9, lo := 0, acc := .ro }
def TR_FAULT_LO_ADDR : Field := { off := 0x058, hi := 31, lo := 0, acc := .ro }
def TR_FAULT_HI_ADDR : Field := { off := 0x05C, hi := 31, lo := 0, acc := .ro }
def TR_MISS_COUNT : Field := { off := 0x060, hi := 31, lo := 0, acc := .ro }

/-- The fields of page 0. -/
def p0Fields : List Field :=
  [HB_CFG_ECC_EN, HB_CFG_LINK_ECC, HB_CFG_SCRUB_NS, HB_STAT_INIT_DONE,
   HB_STAT_ECC_ON, HB_STAT_CH_UP, HB_CAP_CH_GIB, HB_CAP_DATA_MIB,
   HB_INIT_GO, HB_INIT_FRONT, HB_REFRESH_AB_SLACK, HB_SCRUB_PASSES]
/-- The fields of page ch. -/
def pchFields : List Field :=
  [CH_STAT_DEV_GIB, CH_STAT_REF_MULT, CH_STAT_SR, CH_STAT_TRAINED,
   CH_ECC_CORR_COUNT, CH_ECC_UNCORR_COUNT, CH_ERR_ADDR_LO_PA, CH_ERR_ADDR_HI_PA,
   CH_LINK_RD_CORR, CH_LINK_WR_CORR, CH_LOAD_PPM]
/-- The fields of page 5. -/
def p5Fields : List Field :=
  [CLS_BUDGET_MBPS, CLS_CFG_SURPLUS, CLS_CREDIT_BYTES, CLS_BYTES_BYTES,
   CLS_SURPLUS_BYTES, CLS_DEFER_COUNT, CLS_LAT_MAX_NS]
/-- The fields of page 6. -/
def p6Fields : List Field :=
  [JOB_BULK_ENTRIES, JOB_RESV_ENTRIES, JOB_USED_ENTRIES, JOB_PEAK_ENTRIES,
   JOB_STALE_COUNT, JOB_TIMEOUTS_COUNT, JOB_CFG_TO_US, BULK_WAIT_COUNT,
   JOB_FAIL_COUNT, JOB_RES_FIRST_ENTRY, JOB_RES_COUNT_COUNT]
/-- The fields of page 7. -/
def p7Fields : List Field :=
  [TR_ROOT_LO_BASE, TR_ROOT_LO_EN, TR_ROOT_HI_BASE, TR_INV_GO,
   TR_INV_ALL, TR_INV_ADDR_LO_BA, TR_INV_ADDR_HI_BA, TR_FAULT_INFO_VALID,
   TR_FAULT_INFO_OVERFLOW, TR_FAULT_INFO_CAUSE, TR_FAULT_INFO_LEVEL, TR_FAULT_INFO_WRITE,
   TR_FAULT_INFO_REQUESTER, TR_FAULT_INFO_SOURCE, TR_FAULT_LO_ADDR, TR_FAULT_HI_ADDR,
   TR_MISS_COUNT]

end Sys2Proof.Machine.Harbour

namespace Sys2Proof.Machine.Drift

/-! R342 -/
def CH_BIND_ROLE : Field := { off := 0x040, hi := 31, lo := 30, acc := .plan }
def CH_BIND_DEST : Field := { off := 0x040, hi := 29, lo := 27, acc := .plan }
def CH_BIND_CLASS : Field := { off := 0x040, hi := 26, lo := 25, acc := .plan, reset := 3 }
def CH_BIND_MIRROR : Field := { off := 0x040, hi := 24, lo := 24, acc := .plan }
def CH_BIND_OUT : Field := { off := 0x040, hi := 23, lo := 22, acc := .plan }
def CH_BIND_STREAM : Field := { off := 0x040, hi := 9, lo := 0, acc := .plan, reset := 0x3FF }
def CH_OUT_BYTES_BYTES : Field := { off := 0x044, hi := 31, lo := 0, acc := .plan }
def CH_CFG_PRIO : Field := { off := 0x048, hi := 31, lo := 29, acc := .rws }
def CH_CFG_NS_READ : Field := { off := 0x048, hi := 28, lo := 28, acc := .rws }
def CH_CFG_NS_WRITE : Field := { off := 0x048, hi := 27, lo := 27, acc := .rws }
def CH_CFG_RELAXED : Field := { off := 0x048, hi := 26, lo := 26, acc := .rws }
def CH_CFG_RETRY : Field := { off := 0x048, hi := 25, lo := 23, acc := .rws, reset := 3 }
def CH_CFG_MC_HALT : Field := { off := 0x048, hi := 22, lo := 22, acc := .rws }
def CH_CFG_PACE : Field := { off := 0x048, hi := 21, lo := 20, acc := .rws, accept := some (0, 2) }
def CH_CFG_START_SRC : Field := { off := 0x048, hi := 17, lo := 15, acc := .rws, accept := some (0, 4) }
def CH_CFG_TRIG_FAM : Field := { off := 0x048, hi := 14, lo := 13, acc := .rws }
def CH_CFG_BURST : Field := { off := 0x048, hi := 12, lo := 9, acc := .rws, reset := 6, clamp := some (0, 6) }
def CH_CFG_TRIG_CH : Field := { off := 0x048, hi := 8, lo := 0, acc := .rws }
def CH_TIMER_PERIOD_NS : Field := { off := 0x04C, hi := 31, lo := 0, acc := .rws, reset := 1000000, clamp := some (1000, 4000000000) }
def CH_TIMER_PHASE_NS : Field := { off := 0x050, hi := 31, lo := 0, acc := .rws }
def CH_NEXT_LO_ADDR : Field := { off := 0x060, hi := 31, lo := 5, acc := .rw }
def CH_NEXT_HI_ADDR : Field := { off := 0x064, hi := 19, lo := 0, acc := .rw }
def CH_AVAIL_ADD : Field := { off := 0x068, hi := 31, lo := 16, acc := .wo }
def CH_AVAIL_COUNT : Field := { off := 0x068, hi := 15, lo := 0, acc := .ro }
def CH_CMD_PAUSE : Field := { off := 0x06C, hi := 31, lo := 31, acc := .w1s }
def CH_CMD_RESUME : Field := { off := 0x06C, hi := 30, lo := 30, acc := .w1s }
def CH_CMD_ABORT : Field := { off := 0x06C, hi := 29, lo := 29, acc := .w1s }
def CH_CMD_TRIG : Field := { off := 0x06C, hi := 28, lo := 28, acc := .w1s }
def CH_STAT_STATE : Field := { off := 0x070, hi := 31, lo := 28, acc := .ro }
def CH_STAT_TRIG_PEND : Field := { off := 0x070, hi := 27, lo := 24, acc := .ro }
def CH_STAT_INFLIGHT : Field := { off := 0x070, hi := 23, lo := 16, acc := .ro }
def CH_STAT_HOLD_BYTES : Field := { off := 0x070, hi := 7, lo := 0, acc := .ro }
def CH_ERR_CAUSE : Field := { off := 0x074, hi := 31, lo := 28, acc := .ro }
def CH_ERR_TRIES : Field := { off := 0x074, hi := 27, lo := 25, acc := .ro }
def CH_ERR_WRITE : Field := { off := 0x074, hi := 24, lo := 24, acc := .ro }
def CH_ERR_MC_FAIL : Field := { off := 0x074, hi := 23, lo := 20, acc := .ro }
def CH_ERR_VALID : Field := { off := 0x074, hi := 19, lo := 19, acc := .w1c }
def CH_ERR_ADDR_LO_ADDR : Field := { off := 0x078, hi := 31, lo := 0, acc := .ro }
def CH_ERR_ADDR_HI_ADDR : Field := { off := 0x07C, hi := 31, lo := 0, acc := .ro }
def CUR_DESC_LO_ADDR : Field := { off := 0x080, hi := 31, lo := 0, acc := .ro }
def CUR_DESC_HI_ADDR : Field := { off := 0x084, hi := 31, lo := 0, acc := .ro }
def CUR_DONE_BYTES : Field := { off := 0x088, hi := 31, lo := 0, acc := .ro }
def CH_RESIDUE_BYTES : Field := { off := 0x08C, hi := 7, lo := 0, acc := .ro }
def CH_LOST_COUNT : Field := { off := 0x090, hi := 31, lo := 0, acc := .ro }
def CH_REUSED_COUNT : Field := { off := 0x094, hi := 31, lo := 0, acc := .ro }
def CH_RETRIES_COUNT : Field := { off := 0x098, hi := 31, lo := 0, acc := .ro }

/-- The fields of the page. -/
def pageFields : List Field :=
  [CH_BIND_ROLE, CH_BIND_DEST, CH_BIND_CLASS, CH_BIND_MIRROR,
   CH_BIND_OUT, CH_BIND_STREAM, CH_OUT_BYTES_BYTES, CH_CFG_PRIO,
   CH_CFG_NS_READ, CH_CFG_NS_WRITE, CH_CFG_RELAXED, CH_CFG_RETRY,
   CH_CFG_MC_HALT, CH_CFG_PACE, CH_CFG_START_SRC, CH_CFG_TRIG_FAM,
   CH_CFG_BURST, CH_CFG_TRIG_CH, CH_TIMER_PERIOD_NS, CH_TIMER_PHASE_NS,
   CH_NEXT_LO_ADDR, CH_NEXT_HI_ADDR, CH_AVAIL_ADD, CH_AVAIL_COUNT] ++
  [CH_CMD_PAUSE, CH_CMD_RESUME, CH_CMD_ABORT, CH_CMD_TRIG,
   CH_STAT_STATE, CH_STAT_TRIG_PEND, CH_STAT_INFLIGHT, CH_STAT_HOLD_BYTES,
   CH_ERR_CAUSE, CH_ERR_TRIES, CH_ERR_WRITE, CH_ERR_MC_FAIL,
   CH_ERR_VALID, CH_ERR_ADDR_LO_ADDR, CH_ERR_ADDR_HI_ADDR, CUR_DESC_LO_ADDR,
   CUR_DESC_HI_ADDR, CUR_DONE_BYTES, CH_RESIDUE_BYTES, CH_LOST_COUNT,
   CH_REUSED_COUNT, CH_RETRIES_COUNT]

end Sys2Proof.Machine.Drift
end

