-- ==== Sys2Proof/Machine/RegsPorts.lean ====
section
/-!
DEFINITION. Sys2Proof/Machine/RegsPorts.lean: the register fields of the sensor ports, the Jetty and Ethernet, one definition a field
(REGISTER_FIELD, its offset in the page, its bits, its access code, its reset value), from the manual's register tables.
A reset value that a table leaves to a word (Retained, Per instance, Strap …) stands in Machine/RegMap.lean.
-/
namespace Sys2Proof.Machine.Weatas

/-! R111 -/
def LANE_CFG_MEDIUM : Field := { off := 0x040, hi := 7, lo := 7, acc := .rw }
def LANE_CFG_MODE_MAX : Field := { off := 0x040, hi := 3, lo := 2, acc := .rw, reset := 0b11 }
def LANE_CFG_MODE_MIN : Field := { off := 0x040, hi := 1, lo := 0, acc := .rw }
def LANE_STAT_RX_STATE : Field := { off := 0x044, hi := 15, lo := 13, acc := .ro }
def LANE_STAT_MODE_ACT : Field := { off := 0x044, hi := 11, lo := 10, acc := .ro }
def LANE_STAT_CONVERGED : Field := { off := 0x044, hi := 9, lo := 9, acc := .ro }
def LANE_STAT_OPENING : Field := { off := 0x044, hi := 8, lo := 8, acc := .ro }
def RX_ADAPT_FREEZE : Field := { off := 0x048, hi := 31, lo := 31, acc := .rw }
def RX_ADAPT_INTERVAL_US : Field := { off := 0x048, hi := 23, lo := 16, acc := .rw, reset := 2, clamp := some (1, 255) }
def RX_ADAPT_GUARD_NS : Field := { off := 0x048, hi := 11, lo := 0, acc := .rw, reset := 500, clamp := some (100, 4000) }
def RX_STARVE_STARVE_MS : Field := { off := 0x04C, hi := 15, lo := 0, acc := .rw, reset := 100, clamp := some (10, 1000) }
def RX_CTLE_VGA : Field := { off := 0x050, hi := 13, lo := 8, acc := .rw, reset := 24 }
def RX_CTLE_PEAK : Field := { off := 0x050, hi := 6, lo := 0, acc := .rw, clamp := some (0, 96) }
def RX_DFE_H1 : Field := { off := 0x054, hi := 7, lo := 0, acc := .rw }
def RX_FFE_CUR_CURSOR : Field := { off := 0x058, hi := 4, lo := 0, acc := .rw, reset := 4, clamp := some (2, 8) }
def RX_FFE_C : Field := { off := 0x060, hi := 9, lo := 0, acc := .rw, rep := 24, stride := 0x4 }
def RX_QUALITY_SNR : Field := { off := 0x0C0, hi := 15, lo := 0, acc := .ro }
def ADAPT_STEPS_COUNT : Field := { off := 0x0C8, hi := 31, lo := 0, acc := .ro }
def ADAPT_INTRUDE_COUNT : Field := { off := 0x0CC, hi := 15, lo := 0, acc := .ro }
/-! R112 -/
def FAR_CAP_SWING_MAX : Field := { off := 0x100, hi := 21, lo := 16, acc := .ro }
def FAR_CAP_POST_MAX : Field := { off := 0x100, hi := 13, lo := 8, acc := .ro }
def FAR_CAP_PRE_MAX : Field := { off := 0x100, hi := 4, lo := 0, acc := .ro }
def FAR_TXEQ_REQ_AUTO : Field := { off := 0x104, hi := 31, lo := 31, acc := .rw, reset := 1 }
def FAR_TXEQ_REQ_SWING : Field := { off := 0x104, hi := 21, lo := 16, acc := .rw, reset := 30 }
def FAR_TXEQ_REQ_POST : Field := { off := 0x104, hi := 13, lo := 8, acc := .rw }
def FAR_TXEQ_REQ_PRE : Field := { off := 0x104, hi := 4, lo := 0, acc := .rw }
def FAR_TXEQ_ACT_PENDING : Field := { off := 0x108, hi := 31, lo := 31, acc := .ro }
def FAR_CLAMP_SUM : Field := { off := 0x10C, hi := 3, lo := 3, acc := .w1c }
def FAR_CLAMP_SWING : Field := { off := 0x10C, hi := 2, lo := 2, acc := .w1c }
def FAR_CLAMP_POST : Field := { off := 0x10C, hi := 1, lo := 1, acc := .w1c }
def FAR_CLAMP_PRE : Field := { off := 0x10C, hi := 0, lo := 0, acc := .w1c }
def BC_TX_DEEMPH : Field := { off := 0x140, hi := 25, lo := 24, acc := .rw }
def BC_TX_AMP_REQ : Field := { off := 0x140, hi := 6, lo := 0, acc := .rw, reset := 40, clamp := some (10, 70) }
def BC_TX_ACT_CLAMPED : Field := { off := 0x144, hi := 31, lo := 31, acc := .ro }
def BC_TX_ACT_AMAX : Field := { off := 0x144, hi := 15, lo := 8, acc := .ro, reset := 70 }
def BC_TX_ACT_AMP_ACT : Field := { off := 0x144, hi := 6, lo := 0, acc := .ro, reset := 40 }
/-! R113 -/
def LM_CFG_AUTO_RELEASE : Field := { off := 0x180, hi := 31, lo := 31, acc := .rw, reset := 1 }
def LM_CFG_ENABLE : Field := { off := 0x180, hi := 30, lo := 30, acc := .rw, reset := 1 }
def LM_CFG_GROUP : Field := { off := 0x180, hi := 26, lo := 24, acc := .rw }
def LM_CFG_DIV : Field := { off := 0x180, hi := 23, lo := 16, acc := .rw, reset := 16, clamp := some (1, 255) }
def LM_CFG_RSENSE : Field := { off := 0x180, hi := 15, lo := 0, acc := .rw, reset := 1000, clamp := some (1, 65535) }
def LM_THRESH1_V_SHORT_GND : Field := { off := 0x184, hi := 31, lo := 16, acc := .rw, reset := 1000 }
def LM_THRESH1_V_OVER : Field := { off := 0x184, hi := 15, lo := 0, acc := .rw, reset := 500 }
def LM_THRESH2_I_OPEN : Field := { off := 0x188, hi := 31, lo := 16, acc := .rw, reset := 20 }
def LM_THRESH2_I_MAX : Field := { off := 0x188, hi := 15, lo := 0, acc := .rw, reset := 600 }
def LM_CAM_RCABLE : Field := { off := 0x18C, hi := 31, lo := 16, acc := .rw }
def LM_CAM_VCAM_MIN : Field := { off := 0x18C, hi := 15, lo := 0, acc := .rw }
def LM_DEBOUNCE_SCANS : Field := { off := 0x190, hi := 7, lo := 0, acc := .rw, reset := 8, clamp := some (1, 255) }
def LM_VLINE_MV : Field := { off := 0x194, hi := 15, lo := 0, acc := .ro }
def LM_ILINE_MA : Field := { off := 0x198, hi := 15, lo := 0, acc := .ro }
def LM_STAT_RELEASE : Field := { off := 0x19C, hi := 31, lo := 31, acc := .w1s }
def LM_STAT_HOLD : Field := { off := 0x19C, hi := 8, lo := 8, acc := .ro }
def LM_STAT_CLASS : Field := { off := 0x19C, hi := 2, lo := 0, acc := .ro, reset := 7 }
def LM_FEED_CFG_DIV : Field := { off := 0x1C0, hi := 23, lo := 16, acc := .rw, reset := 16, clamp := some (1, 255) }
def LM_FEED_CFG_V_FEED_PRESENT : Field := { off := 0x1C0, hi := 15, lo := 0, acc := .rw, reset := 4000 }
def LM_FEED_V_MV : Field := { off := 0x1C4, hi := 15, lo := 0, acc := .ro }
/-! R114 -/
def PRBS_GEN_EN : Field := { off := 0x200, hi := 31, lo := 31, acc := .rw }
def PRBS_GEN_TARGET : Field := { off := 0x200, hi := 30, lo := 30, acc := .rw }
def PRBS_GEN_PATTERN : Field := { off := 0x200, hi := 3, lo := 0, acc := .rw }
def PRBS_INJ_GO : Field := { off := 0x204, hi := 31, lo := 31, acc := .w1s }
def PRBS_INJ_KIND : Field := { off := 0x204, hi := 25, lo := 24, acc := .rw, accept := some (0, 2) }
def PRBS_INJ_LEN : Field := { off := 0x204, hi := 22, lo := 16, acc := .rw, reset := 2 }
def PRBS_INJ_COUNT : Field := { off := 0x204, hi := 15, lo := 0, acc := .rw, reset := 1 }
def PRBS_INJ_GAP_GAP : Field := { off := 0x208, hi := 31, lo := 0, acc := .rw, reset := 2048 }
def PRBS_CHK_EN : Field := { off := 0x20C, hi := 31, lo := 31, acc := .rw }
def PRBS_CHK_LOCKED : Field := { off := 0x20C, hi := 16, lo := 16, acc := .ro }
def PRBS_CHK_PATTERN : Field := { off := 0x20C, hi := 3, lo := 0, acc := .rw }
def PRBS_BITS_LO_BITS : Field := { off := 0x210, hi := 31, lo := 0, acc := .ro }
def PRBS_BITS_HI_BITS : Field := { off := 0x214, hi := 31, lo := 0, acc := .ro }
def PRBS_ERRS_ERRS : Field := { off := 0x218, hi := 31, lo := 0, acc := .ro }
/-! R145 -/
def LINK_CTRL_RETRAIN : Field := { off := 0x300, hi := 31, lo := 31, acc := .w1s }
def LINK_CTRL_TEST_START : Field := { off := 0x300, hi := 30, lo := 30, acc := .w1s }
def LINK_CTRL_TEST_STOP : Field := { off := 0x300, hi := 29, lo := 29, acc := .w1s }
def LINK_CTRL_CAM_RETRAIN : Field := { off := 0x300, hi := 28, lo := 28, acc := .rw, reset := 1 }
def LINK_CTRL_FEC_RETRAIN : Field := { off := 0x300, hi := 27, lo := 27, acc := .rw }
def LINK_CTRL_TEST_PATTERN : Field := { off := 0x300, hi := 23, lo := 20, acc := .rw }
def LINK_CTRL_RETRY_MS : Field := { off := 0x300, hi := 15, lo := 0, acc := .rw, reset := 100, clamp := some (10, 10000) }
def LINK_STAT_EPOCH : Field := { off := 0x304, hi := 31, lo := 24, acc := .ro }
def LINK_STAT_FAILS : Field := { off := 0x304, hi := 23, lo := 20, acc := .ro }
def LINK_STAT_STATE : Field := { off := 0x304, hi := 3, lo := 0, acc := .ro }
def LINK_TIMEOUT_UNCORR_RUN : Field := { off := 0x308, hi := 19, lo := 16, acc := .rw, reset := 4, clamp := some (1, 15) }
def LINK_TIMEOUT_TIMEOUT_US : Field := { off := 0x308, hi := 15, lo := 0, acc := .rw, reset := 200, clamp := some (20, 10000) }
def TRAIN_TIME_US : Field := { off := 0x30C, hi := 31, lo := 0, acc := .ro }
def FEC_CW_LO_CW : Field := { off := 0x310, hi := 31, lo := 0, acc := .ro }
def FEC_CW_HI_CW : Field := { off := 0x314, hi := 31, lo := 0, acc := .ro }
def FEC_CORR_LO_SYM : Field := { off := 0x318, hi := 31, lo := 0, acc := .ro }
def FEC_CORR_HI_SYM : Field := { off := 0x31C, hi := 31, lo := 0, acc := .ro }
def FEC_UNCORR_CW : Field := { off := 0x320, hi := 31, lo := 0, acc := .ro }
def FEC_CFG_UNCORR_MAX : Field := { off := 0x324, hi := 31, lo := 16, acc := .rw, reset := 16 }
def FEC_CFG_VERIFY_CORR_MAX : Field := { off := 0x324, hi := 15, lo := 0, acc := .rw, reset := 64 }
def HDR_ERR_COUNT : Field := { off := 0x328, hi := 31, lo := 0, acc := .ro }
def PKT_ERR_BROKEN : Field := { off := 0x32C, hi := 31, lo := 16, acc := .ro }
def PKT_ERR_LOST : Field := { off := 0x32C, hi := 15, lo := 0, acc := .ro }
def LINK_COUNT_RETRAINS : Field := { off := 0x330, hi := 31, lo := 16, acc := .ro }
def LINK_COUNT_DROPOUTS : Field := { off := 0x330, hi := 15, lo := 0, acc := .ro }
def DROPOUT_LAST_NS : Field := { off := 0x334, hi := 31, lo := 0, acc := .ro }
def PROBE_CFG_PERIOD_MS : Field := { off := 0x340, hi := 31, lo := 16, acc := .rw, reset := 100, clamp := some (0, 1000) }
def PROBE_CFG_AVG : Field := { off := 0x340, hi := 6, lo := 0, acc := .rw, reset := 16, clamp := some (1, 64) }
def LAT_RTT_RTT : Field := { off := 0x344, hi := 31, lo := 0, acc := .ro }
def LAT_TURN_TURN : Field := { off := 0x348, hi := 31, lo := 0, acc := .ro }
def LAT_CABLE_VALID : Field := { off := 0x34C, hi := 31, lo := 31, acc := .ro }
def LAT_CABLE_DELAY : Field := { off := 0x34C, hi := 30, lo := 0, acc := .ro }
def PROBE_STAT_LOST : Field := { off := 0x350, hi := 31, lo := 16, acc := .ro }
def PROBE_STAT_DONE : Field := { off := 0x350, hi := 15, lo := 0, acc := .ro }
def CAM_CAP0_VER : Field := { off := 0x380, hi := 31, lo := 24, acc := .ro }
def CAM_CAP0_MODES : Field := { off := 0x380, hi := 19, lo := 16, acc := .ro }
def CAM_CAP0_FSYNC_OUTS : Field := { off := 0x380, hi := 10, lo := 8, acc := .ro }
def CAM_CAP0_TURN_TOL : Field := { off := 0x380, hi := 7, lo := 0, acc := .ro }
def CAM_CAP1_FSYNC_LAT : Field := { off := 0x384, hi := 31, lo := 16, acc := .ro }
def CAM_CAP1_FSYNC_TOL : Field := { off := 0x384, hi := 15, lo := 8, acc := .ro }
def CAM_ID_ID : Field := { off := 0x388, hi := 31, lo := 0, acc := .ro }
def CAM_MARK_SF_COUNT : Field := { off := 0x38C, hi := 31, lo := 16, acc := .ro }
def CAM_MARK_CAM_STAT : Field := { off := 0x38C, hi := 7, lo := 0, acc := .ro }
def LOAD_BC_PERMIL : Field := { off := 0x3C0, hi := 31, lo := 16, acc := .ro }
def LOAD_FWD_PERMIL : Field := { off := 0x3C0, hi := 15, lo := 0, acc := .ro }
def FSYNC_COUNT_MISSED : Field := { off := 0x3C4, hi := 31, lo := 16, acc := .ro }
def FSYNC_COUNT_SENT : Field := { off := 0x3C4, hi := 15, lo := 0, acc := .ro }
/-! R112 -/
def FAR_TXEQ_ACT_SWING : Field := { off := 0x108, hi := 21, lo := 16, acc := .ro }
def FAR_TXEQ_ACT_POST : Field := { off := 0x108, hi := 13, lo := 8, acc := .ro }
def FAR_TXEQ_ACT_PRE : Field := { off := 0x108, hi := 4, lo := 0, acc := .ro }

/-- The fields of the page. -/
def pageFields : List Field :=
  [LANE_CFG_MEDIUM, LANE_CFG_MODE_MAX, LANE_CFG_MODE_MIN, LANE_STAT_RX_STATE,
   LANE_STAT_MODE_ACT, LANE_STAT_CONVERGED, LANE_STAT_OPENING, RX_ADAPT_FREEZE,
   RX_ADAPT_INTERVAL_US, RX_ADAPT_GUARD_NS, RX_STARVE_STARVE_MS, RX_CTLE_VGA,
   RX_CTLE_PEAK, RX_DFE_H1, RX_FFE_CUR_CURSOR, RX_FFE_C,
   RX_QUALITY_SNR, ADAPT_STEPS_COUNT, ADAPT_INTRUDE_COUNT, FAR_CAP_SWING_MAX,
   FAR_CAP_POST_MAX, FAR_CAP_PRE_MAX, FAR_TXEQ_REQ_AUTO, FAR_TXEQ_REQ_SWING] ++
  [FAR_TXEQ_REQ_POST, FAR_TXEQ_REQ_PRE, FAR_TXEQ_ACT_PENDING, FAR_CLAMP_SUM,
   FAR_CLAMP_SWING, FAR_CLAMP_POST, FAR_CLAMP_PRE, BC_TX_DEEMPH,
   BC_TX_AMP_REQ, BC_TX_ACT_CLAMPED, BC_TX_ACT_AMAX, BC_TX_ACT_AMP_ACT,
   LM_CFG_AUTO_RELEASE, LM_CFG_ENABLE, LM_CFG_GROUP, LM_CFG_DIV,
   LM_CFG_RSENSE, LM_THRESH1_V_SHORT_GND, LM_THRESH1_V_OVER, LM_THRESH2_I_OPEN,
   LM_THRESH2_I_MAX, LM_CAM_RCABLE, LM_CAM_VCAM_MIN, LM_DEBOUNCE_SCANS] ++
  [LM_VLINE_MV, LM_ILINE_MA, LM_STAT_RELEASE, LM_STAT_HOLD,
   LM_STAT_CLASS, LM_FEED_CFG_DIV, LM_FEED_CFG_V_FEED_PRESENT, LM_FEED_V_MV,
   PRBS_GEN_EN, PRBS_GEN_TARGET, PRBS_GEN_PATTERN, PRBS_INJ_GO,
   PRBS_INJ_KIND, PRBS_INJ_LEN, PRBS_INJ_COUNT, PRBS_INJ_GAP_GAP,
   PRBS_CHK_EN, PRBS_CHK_LOCKED, PRBS_CHK_PATTERN, PRBS_BITS_LO_BITS,
   PRBS_BITS_HI_BITS, PRBS_ERRS_ERRS, LINK_CTRL_RETRAIN, LINK_CTRL_TEST_START] ++
  [LINK_CTRL_TEST_STOP, LINK_CTRL_CAM_RETRAIN, LINK_CTRL_FEC_RETRAIN, LINK_CTRL_TEST_PATTERN,
   LINK_CTRL_RETRY_MS, LINK_STAT_EPOCH, LINK_STAT_FAILS, LINK_STAT_STATE,
   LINK_TIMEOUT_UNCORR_RUN, LINK_TIMEOUT_TIMEOUT_US, TRAIN_TIME_US, FEC_CW_LO_CW,
   FEC_CW_HI_CW, FEC_CORR_LO_SYM, FEC_CORR_HI_SYM, FEC_UNCORR_CW,
   FEC_CFG_UNCORR_MAX, FEC_CFG_VERIFY_CORR_MAX, HDR_ERR_COUNT, PKT_ERR_BROKEN,
   PKT_ERR_LOST, LINK_COUNT_RETRAINS, LINK_COUNT_DROPOUTS, DROPOUT_LAST_NS] ++
  [PROBE_CFG_PERIOD_MS, PROBE_CFG_AVG, LAT_RTT_RTT, LAT_TURN_TURN,
   LAT_CABLE_VALID, LAT_CABLE_DELAY, PROBE_STAT_LOST, PROBE_STAT_DONE,
   CAM_CAP0_VER, CAM_CAP0_MODES, CAM_CAP0_FSYNC_OUTS, CAM_CAP0_TURN_TOL,
   CAM_CAP1_FSYNC_LAT, CAM_CAP1_FSYNC_TOL, CAM_ID_ID, CAM_MARK_SF_COUNT,
   CAM_MARK_CAM_STAT, LOAD_BC_PERMIL, LOAD_FWD_PERMIL, FSYNC_COUNT_MISSED,
   FSYNC_COUNT_SENT, FAR_TXEQ_ACT_SWING, FAR_TXEQ_ACT_POST, FAR_TXEQ_ACT_PRE]

end Sys2Proof.Machine.Weatas

namespace Sys2Proof.Machine.CsiRx

/-! R163 -/
def RX_CFG_CONT_CLK : Field := { off := 0x040, hi := 31, lo := 31, acc := .rw }
def RX_CFG_LANES : Field := { off := 0x040, hi := 17, lo := 16, acc := .rw, reset := 0b10, accept := some (0, 2) }
def RX_CFG_RATE_MBPS : Field := { off := 0x040, hi := 12, lo := 0, acc := .rw, reset := 2500, clamp := some (80, 4500) }
def RX_LANE_MAP_CLK_INV : Field := { off := 0x044, hi := 20, lo := 20, acc := .rw }
def RX_LANE_MAP_INV : Field := { off := 0x044, hi := 19, lo := 16, acc := .rw }
def RX_LANE_MAP_MAP : Field := { off := 0x044, hi := 7, lo := 0, acc := .rw, reset := 0xE4 }
def RX_STAT_STOP : Field := { off := 0x048, hi := 11, lo := 8, acc := .ro }
def RX_STAT_ULPS : Field := { off := 0x048, hi := 7, lo := 4, acc := .ro }
def RX_STAT_CLK_HS : Field := { off := 0x048, hi := 3, lo := 3, acc := .ro }
def RX_STAT_DESKEWED : Field := { off := 0x048, hi := 2, lo := 2, acc := .ro }
def RX_TIMING_CLK_LOSS_NS : Field := { off := 0x04C, hi := 31, lo := 16, acc := .rw, reset := 200, clamp := some (50, 10000) }
def RX_ERR0_SOT_ERR : Field := { off := 0x050, hi := 31, lo := 16, acc := .ro }
def RX_ERR0_SOT_SYNC_ERR : Field := { off := 0x050, hi := 15, lo := 0, acc := .ro }
def RX_ERR1_EOT_ALIGN_ERR : Field := { off := 0x054, hi := 31, lo := 16, acc := .ro }
def RX_ERR1_NODESKEW : Field := { off := 0x054, hi := 15, lo := 0, acc := .ro }
def RX_ERR2_CLK_LOSS : Field := { off := 0x058, hi := 31, lo := 16, acc := .ro }
def RX_ERR2_DT_DROP : Field := { off := 0x058, hi := 15, lo := 0, acc := .ro }
def RX_PKTS_COUNT : Field := { off := 0x05C, hi := 31, lo := 0, acc := .ro }
def LFS_CFG_EN : Field := { off := 0x100, hi := 31, lo := 31, acc := .rw }
def LFS_CFG_POL : Field := { off := 0x100, hi := 30, lo := 30, acc := .rw }
def LFS_CFG_OD : Field := { off := 0x100, hi := 29, lo := 29, acc := .rw }
def LFS_CFG_WIDTH_NS : Field := { off := 0x100, hi := 19, lo := 0, acc := .rw, reset := 1000, clamp := some (100, 1000000) }
def LFS_STAT_OFF : Field := { off := 0x104, hi := 31, lo := 31, acc := .ro }
def LFS_STAT_MISSED : Field := { off := 0x104, hi := 15, lo := 0, acc := .ro }
def LFS_SENT_COUNT : Field := { off := 0x108, hi := 31, lo := 0, acc := .ro }
def TRIG_CFG_EN : Field := { off := 0x140, hi := 31, lo := 31, acc := .rw }
def TRIG_CFG_EDGE : Field := { off := 0x140, hi := 30, lo := 29, acc := .rw, accept := some (0, 2) }
def TRIG_CFG_FILTER_NS : Field := { off := 0x140, hi := 15, lo := 0, acc := .rw, reset := 20, clamp := some (0, 10000) }
def TRIG_STAT_OVERFLOW : Field := { off := 0x144, hi := 31, lo := 31, acc := .w1c }
def TRIG_STAT_COUNT : Field := { off := 0x144, hi := 4, lo := 0, acc := .ro }
def TRIG_TIME_LO_TIME : Field := { off := 0x148, hi := 31, lo := 0, acc := .ro }
def TRIG_TIME_HI_FALLING : Field := { off := 0x14C, hi := 31, lo := 31, acc := .ro }
def TRIG_TIME_HI_TIME : Field := { off := 0x14C, hi := 30, lo := 0, acc := .ro }

/-- The fields of the page. -/
def pageFields : List Field :=
  [RX_CFG_CONT_CLK, RX_CFG_LANES, RX_CFG_RATE_MBPS, RX_LANE_MAP_CLK_INV,
   RX_LANE_MAP_INV, RX_LANE_MAP_MAP, RX_STAT_STOP, RX_STAT_ULPS,
   RX_STAT_CLK_HS, RX_STAT_DESKEWED, RX_TIMING_CLK_LOSS_NS, RX_ERR0_SOT_ERR,
   RX_ERR0_SOT_SYNC_ERR, RX_ERR1_EOT_ALIGN_ERR, RX_ERR1_NODESKEW, RX_ERR2_CLK_LOSS,
   RX_ERR2_DT_DROP, RX_PKTS_COUNT, LFS_CFG_EN, LFS_CFG_POL,
   LFS_CFG_OD, LFS_CFG_WIDTH_NS, LFS_STAT_OFF, LFS_STAT_MISSED] ++
  [LFS_SENT_COUNT, TRIG_CFG_EN, TRIG_CFG_EDGE, TRIG_CFG_FILTER_NS,
   TRIG_STAT_OVERFLOW, TRIG_STAT_COUNT, TRIG_TIME_LO_TIME, TRIG_TIME_HI_FALLING,
   TRIG_TIME_HI_TIME]

end Sys2Proof.Machine.CsiRx

namespace Sys2Proof.Machine.CsiTx

/-! R164 -/
def TX_CFG_CONT_CLK : Field := { off := 0x040, hi := 31, lo := 31, acc := .rw, reset := 1 }
def TX_CFG_LANES : Field := { off := 0x040, hi := 17, lo := 16, acc := .rw, reset := 0b10, accept := some (0, 2) }
def TX_CFG_RATE_MBPS : Field := { off := 0x040, hi := 12, lo := 0, acc := .rw, reset := 2500, clamp := some (80, 4500), gran := 10 }
def TX_DESKEW_INIT_EN : Field := { off := 0x048, hi := 31, lo := 31, acc := .rw, reset := 1 }
def TX_DESKEW_PERIOD_FRAMES : Field := { off := 0x048, hi := 15, lo := 0, acc := .rw }
def TX_STAT_HOLDING : Field := { off := 0x050, hi := 7, lo := 4, acc := .ro }
def TX_STAT_ACTIVE : Field := { off := 0x050, hi := 3, lo := 0, acc := .ro }
def TX_HELD_COUNT : Field := { off := 0x054, hi := 31, lo := 0, acc := .ro }
def TX_DUP_COUNT : Field := { off := 0x058, hi := 31, lo := 0, acc := .ro }
def TX_LATE_CUT_CUT : Field := { off := 0x05C, hi := 31, lo := 16, acc := .ro }
def TX_LATE_CUT_LATE : Field := { off := 0x05C, hi := 15, lo := 0, acc := .ro }
def TX_OUT_CFG_PACE : Field := { off := 0x080, hi := 30, lo := 30, acc := .rws, rep := 4, stride := 0x10 }
def TX_OUT_CFG_LSLE : Field := { off := 0x080, hi := 29, lo := 29, acc := .rws, rep := 4, stride := 0x10 }
def TX_OUT_CFG_VC : Field := { off := 0x080, hi := 25, lo := 24, acc := .rws, rep := 4, stride := 0x10 }
def TX_OUT_CFG_DT : Field := { off := 0x080, hi := 21, lo := 16, acc := .ro, rep := 4, stride := 0x10 }
def TX_OUT_CFG_STREAM : Field := { off := 0x080, hi := 9, lo := 0, acc := .ro, reset := 0x3FF, rep := 4, stride := 0x10 }
def TX_OUT_LINE_LINE_PERIOD_NS : Field := { off := 0x084, hi := 19, lo := 0, acc := .rws, reset := 14800, rep := 4, stride := 0x10, clamp := some (1000, 1000000) }
def TX_OUT_FS_FS_OFFSET_NS : Field := { off := 0x088, hi := 31, lo := 0, acc := .rws, rep := 4, stride := 0x10 }
def TX_OUT_HOLD_HOLD_MAX : Field := { off := 0x08C, hi := 31, lo := 24, acc := .rws, reset := 16, rep := 4, stride := 0x10, clamp := some (1, 255) }
def TX_OUT_HOLD_HOLD_MARGIN_NS : Field := { off := 0x08C, hi := 15, lo := 0, acc := .rws, reset := 1000, rep := 4, stride := 0x10, clamp := some (0, 10000) }
def TX_LANE_MAP_CLK_INV : Field := { off := 0x044, hi := 20, lo := 20, acc := .rw }
def TX_LANE_MAP_INV : Field := { off := 0x044, hi := 19, lo := 16, acc := .rw }
def TX_LANE_MAP_MAP : Field := { off := 0x044, hi := 7, lo := 0, acc := .rw, reset := 0xE4 }

/-- The fields of the page. -/
def pageFields : List Field :=
  [TX_CFG_CONT_CLK, TX_CFG_LANES, TX_CFG_RATE_MBPS, TX_DESKEW_INIT_EN,
   TX_DESKEW_PERIOD_FRAMES, TX_STAT_HOLDING, TX_STAT_ACTIVE, TX_HELD_COUNT,
   TX_DUP_COUNT, TX_LATE_CUT_CUT, TX_LATE_CUT_LATE, TX_OUT_CFG_PACE,
   TX_OUT_CFG_LSLE, TX_OUT_CFG_VC, TX_OUT_CFG_DT, TX_OUT_CFG_STREAM,
   TX_OUT_LINE_LINE_PERIOD_NS, TX_OUT_FS_FS_OFFSET_NS, TX_OUT_HOLD_HOLD_MAX, TX_OUT_HOLD_HOLD_MARGIN_NS,
   TX_LANE_MAP_CLK_INV, TX_LANE_MAP_INV, TX_LANE_MAP_MAP]

end Sys2Proof.Machine.CsiTx

namespace Sys2Proof.Machine.Inlet

/-! R194 -/
def IN_STAT_IN_FRAME : Field := { off := 0x040, hi := 3, lo := 0, acc := .ro }
def IN_ERR0_ECC_CORR : Field := { off := 0x044, hi := 31, lo := 16, acc := .ro }
def IN_ERR0_ECC_UNCORR : Field := { off := 0x044, hi := 15, lo := 0, acc := .ro }
def IN_ERR1_CRC_ERR : Field := { off := 0x048, hi := 31, lo := 16, acc := .ro }
def IN_ERR1_BROKEN : Field := { off := 0x048, hi := 15, lo := 0, acc := .ro }
def IN_ERR2_UNMAPPED : Field := { off := 0x04C, hi := 31, lo := 16, acc := .ro }
def IN_ERR2_FRAMING : Field := { off := 0x04C, hi := 15, lo := 0, acc := .ro }
def IN_GAPS_COUNT : Field := { off := 0x050, hi := 15, lo := 0, acc := .ro }
def IN_PKTS_COUNT : Field := { off := 0x054, hi := 31, lo := 0, acc := .ro }
def IN_VC_CFG_EXP_VC : Field := { off := 0x100, hi := 31, lo := 31, acc := .rws, rep := 4, stride := 0x20 }
def IN_VC_CFG_LINE_TO_US : Field := { off := 0x100, hi := 15, lo := 0, acc := .rws, reset := 200, rep := 4, stride := 0x20, clamp := some (1, 65535) }
def IN_VC_SILENT_SILENT_TIDES : Field := { off := 0x104, hi := 7, lo := 0, acc := .rws, reset := 4, rep := 4, stride := 0x20 }
def RAW_H0_LO_BASE : Field := { off := 0x108, hi := 31, lo := 12, acc := .rws, rep := 4, stride := 0x20 }
def RAW_H0_HI_BASE : Field := { off := 0x10C, hi := 19, lo := 0, acc := .rws, rep := 4, stride := 0x20 }
def RAW_H1_LO_BASE : Field := { off := 0x110, hi := 31, lo := 12, acc := .rws, rep := 4, stride := 0x20 }
def RAW_H1_HI_BASE : Field := { off := 0x114, hi := 19, lo := 0, acc := .rws, rep := 4, stride := 0x20 }
def RAW_CFG_STRIDE : Field := { off := 0x118, hi := 31, lo := 16, acc := .ro, rep := 4, stride := 0x20 }
def RAW_CFG_RAW_FRAMES : Field := { off := 0x118, hi := 3, lo := 0, acc := .rws, reset := 2, rep := 4, stride := 0x20, clamp := some (2, 8) }
/-! R213 -/
def SYNC_CFG_MODE : Field := { off := 0x200, hi := 31, lo := 30, acc := .rws }
def SYNC_CFG_ANCHOR : Field := { off := 0x200, hi := 29, lo := 29, acc := .rws }
def SYNC_CFG_RATE_TRACK : Field := { off := 0x200, hi := 28, lo := 28, acc := .rws }
def SYNC_CFG_EXP_LEAD : Field := { off := 0x200, hi := 27, lo := 26, acc := .rws, reset := 1 }
def SYNC_CFG_REF_VC : Field := { off := 0x200, hi := 25, lo := 24, acc := .rws }
def SYNC_CFG_OUT_MASK : Field := { off := 0x200, hi := 19, lo := 16, acc := .rws, reset := 0b0001 }
def SYNC_CFG_DELAY_BASE : Field := { off := 0x200, hi := 15, lo := 0, acc := .rws, reset := 1600 }
def SYNC_SKEW_SKEW_NS : Field := { off := 0x204, hi := 31, lo := 0, acc := .rws }
def SYNC_SENS_LAT_LAT : Field := { off := 0x208, hi := 31, lo := 0, acc := .rws }
def SYNC_ROW_ROW_PERIOD : Field := { off := 0x20C, hi := 31, lo := 0, acc := .rws }
def SYNC_REF_REF_ROW : Field := { off := 0x210, hi := 15, lo := 0, acc := .rws }
def SYNC_EXP_UNIT_UNIT : Field := { off := 0x214, hi := 31, lo := 0, acc := .rws, reset := 0x00010000 }
def SYNC_EXP_BIAS_BIAS : Field := { off := 0x218, hi := 31, lo := 0, acc := .rws }
def SYNC_EMB_LINE : Field := { off := 0x21C, hi := 31, lo := 30, acc := .rws }
def SYNC_EMB_ORDER : Field := { off := 0x21C, hi := 29, lo := 29, acc := .rws }
def SYNC_EMB_BYTES : Field := { off := 0x21C, hi := 28, lo := 27, acc := .rws, reset := 0b01 }
def SYNC_EMB_STRIDE : Field := { off := 0x21C, hi := 26, lo := 25, acc := .rws }
def SYNC_EMB_SHIFT : Field := { off := 0x21C, hi := 24, lo := 20, acc := .rws }
def SYNC_EMB_BITS : Field := { off := 0x21C, hi := 19, lo := 15, acc := .rws, reset := 15 }
def SYNC_EMB_OFFSET : Field := { off := 0x21C, hi := 11, lo := 0, acc := .rws }
def SYNC_EXP_INIT_V : Field := { off := 0x220, hi := 31, lo := 0, acc := .rws }
def SYNC_MIN_INT_NS : Field := { off := 0x224, hi := 31, lo := 0, acc := .rws }
def SYNC_SOF_SOF_LAT_NS : Field := { off := 0x228, hi := 31, lo := 12, acc := .rws }
def SYNC_SOF_SLIP_US : Field := { off := 0x228, hi := 11, lo := 0, acc := .rws, reset := 10, clamp := some (1, 4095) }
def SYNC_EDGE_LO_EDGE : Field := { off := 0x240, hi := 31, lo := 0, acc := .ro }
def SYNC_EDGE_HI_EDGE : Field := { off := 0x244, hi := 31, lo := 0, acc := .ro }
def SYNC_EXP_NOW_V : Field := { off := 0x248, hi := 31, lo := 0, acc := .ro }
def SYNC_RHO_PPB : Field := { off := 0x24C, hi := 31, lo := 0, acc := .ro }
def SYNC_FIT_NS : Field := { off := 0x250, hi := 31, lo := 0, acc := .ro }
def SYNC_CNT0_SENT : Field := { off := 0x254, hi := 31, lo := 16, acc := .ro }
def SYNC_CNT0_SKIPPED : Field := { off := 0x254, hi := 15, lo := 0, acc := .ro }
def SYNC_CNT1_SLIP : Field := { off := 0x258, hi := 31, lo := 16, acc := .ro }
def SYNC_CNT1_EMB_ERR : Field := { off := 0x258, hi := 15, lo := 0, acc := .ro }
def SYNC_STAT_LAST_REASON : Field := { off := 0x25C, hi := 31, lo := 29, acc := .ro }
def SYNC_STAT_PRED : Field := { off := 0x25C, hi := 28, lo := 28, acc := .ro }
def SYNC_STAT_SKIP_RUN : Field := { off := 0x25C, hi := 15, lo := 0, acc := .ro }
/-! R446 -/
def SCHK_CFG_EN : Field := { off := 0x280, hi := 31, lo := 31, acc := .rws, rep := 4, stride := 0x10 }
def SCHK_CFG_POLY : Field := { off := 0x280, hi := 30, lo := 29, acc := .rws, rep := 4, stride := 0x10, accept := some (0, 2) }
def SCHK_CFG_ORDER : Field := { off := 0x280, hi := 28, lo := 28, acc := .rws, rep := 4, stride := 0x10 }
def SCHK_CFG_LINE : Field := { off := 0x280, hi := 27, lo := 26, acc := .rws, rep := 4, stride := 0x10 }
def SCHK_CFG_CNT_EN : Field := { off := 0x280, hi := 25, lo := 25, acc := .rws, rep := 4, stride := 0x10 }
def SCHK_CFG_CNT_BYTES : Field := { off := 0x280, hi := 24, lo := 23, acc := .rws, rep := 4, stride := 0x10 }
def SCHK_CFG_OFFSET : Field := { off := 0x280, hi := 11, lo := 0, acc := .rws, rep := 4, stride := 0x10 }
def SCHK_CNT_OFF_CNT_OFFSET : Field := { off := 0x284, hi := 11, lo := 0, acc := .rws, rep := 4, stride := 0x10 }
def SCHK_SEEN_VALUE : Field := { off := 0x288, hi := 31, lo := 0, acc := .ro, rep := 4, stride := 0x10 }
def SCHK_CALC_VALUE : Field := { off := 0x28C, hi := 31, lo := 0, acc := .ro, rep := 4, stride := 0x10 }
def SCHK_CNT_BAD : Field := { off := 0x2C0, hi := 31, lo := 16, acc := .ro, rep := 4, stride := 0x4 }
def SCHK_CNT_OK : Field := { off := 0x2C0, hi := 15, lo := 0, acc := .ro, rep := 4, stride := 0x4 }

/-- The fields of the page. -/
def pageFields : List Field :=
  [IN_STAT_IN_FRAME, IN_ERR0_ECC_CORR, IN_ERR0_ECC_UNCORR, IN_ERR1_CRC_ERR,
   IN_ERR1_BROKEN, IN_ERR2_UNMAPPED, IN_ERR2_FRAMING, IN_GAPS_COUNT,
   IN_PKTS_COUNT, IN_VC_CFG_EXP_VC, IN_VC_CFG_LINE_TO_US, IN_VC_SILENT_SILENT_TIDES,
   RAW_H0_LO_BASE, RAW_H0_HI_BASE, RAW_H1_LO_BASE, RAW_H1_HI_BASE,
   RAW_CFG_STRIDE, RAW_CFG_RAW_FRAMES, SYNC_CFG_MODE, SYNC_CFG_ANCHOR,
   SYNC_CFG_RATE_TRACK, SYNC_CFG_EXP_LEAD, SYNC_CFG_REF_VC, SYNC_CFG_OUT_MASK] ++
  [SYNC_CFG_DELAY_BASE, SYNC_SKEW_SKEW_NS, SYNC_SENS_LAT_LAT, SYNC_ROW_ROW_PERIOD,
   SYNC_REF_REF_ROW, SYNC_EXP_UNIT_UNIT, SYNC_EXP_BIAS_BIAS, SYNC_EMB_LINE,
   SYNC_EMB_ORDER, SYNC_EMB_BYTES, SYNC_EMB_STRIDE, SYNC_EMB_SHIFT,
   SYNC_EMB_BITS, SYNC_EMB_OFFSET, SYNC_EXP_INIT_V, SYNC_MIN_INT_NS,
   SYNC_SOF_SOF_LAT_NS, SYNC_SOF_SLIP_US, SYNC_EDGE_LO_EDGE, SYNC_EDGE_HI_EDGE,
   SYNC_EXP_NOW_V, SYNC_RHO_PPB, SYNC_FIT_NS, SYNC_CNT0_SENT] ++
  [SYNC_CNT0_SKIPPED, SYNC_CNT1_SLIP, SYNC_CNT1_EMB_ERR, SYNC_STAT_LAST_REASON,
   SYNC_STAT_PRED, SYNC_STAT_SKIP_RUN, SCHK_CFG_EN, SCHK_CFG_POLY,
   SCHK_CFG_ORDER, SCHK_CFG_LINE, SCHK_CFG_CNT_EN, SCHK_CFG_CNT_BYTES,
   SCHK_CFG_OFFSET, SCHK_CNT_OFF_CNT_OFFSET, SCHK_SEEN_VALUE, SCHK_CALC_VALUE,
   SCHK_CNT_BAD, SCHK_CNT_OK]

end Sys2Proof.Machine.Inlet

namespace Sys2Proof.Machine.StreamTab

/-! R193 -/
def ST_PLAN0_VALID : Field := { off := 0x040, hi := 31, lo := 31, acc := .plan, rep := 16, stride := 0x40 }
def ST_PLAN0_SPLIT : Field := { off := 0x040, hi := 30, lo := 30, acc := .plan, rep := 16, stride := 0x40 }
def ST_PLAN0_PATH : Field := { off := 0x040, hi := 29, lo := 29, acc := .plan, rep := 16, stride := 0x40 }
def ST_PLAN0_FAMILY : Field := { off := 0x040, hi := 27, lo := 26, acc := .plan, rep := 16, stride := 0x40 }
def ST_PLAN0_CLASS : Field := { off := 0x040, hi := 25, lo := 24, acc := .plan, rep := 16, stride := 0x40 }
def ST_PLAN0_SLOT : Field := { off := 0x040, hi := 23, lo := 20, acc := .plan, reset := 0xF, rep := 16, stride := 0x40 }
def ST_PLAN0_EXPOSURES : Field := { off := 0x040, hi := 18, lo := 16, acc := .plan, rep := 16, stride := 0x40 }
def ST_PLAN0_PACKING : Field := { off := 0x040, hi := 13, lo := 12, acc := .plan, rep := 16, stride := 0x40 }
def ST_PLAN1_ACTIVE_LINES : Field := { off := 0x044, hi := 31, lo := 16, acc := .plan, rep := 16, stride := 0x40 }
def ST_PLAN1_WIDTH : Field := { off := 0x044, hi := 15, lo := 0, acc := .plan, rep := 16, stride := 0x40 }
def ST_PLAN2_TOTAL_LINES : Field := { off := 0x048, hi := 31, lo := 16, acc := .plan, rep := 16, stride := 0x40 }
def ST_PLAN2_WINDOW : Field := { off := 0x048, hi := 15, lo := 0, acc := .plan, rep := 16, stride := 0x40 }
def ST_COVES_COVE_D : Field := { off := 0x04C, hi := 31, lo := 24, acc := .plan, reset := 0xFF, rep := 16, stride := 0x40 }
def ST_COVES_COVE_C : Field := { off := 0x04C, hi := 23, lo := 16, acc := .plan, reset := 0xFF, rep := 16, stride := 0x40 }
def ST_COVES_COVE_B : Field := { off := 0x04C, hi := 15, lo := 8, acc := .plan, reset := 0xFF, rep := 16, stride := 0x40 }
def ST_COVES_COVE_A : Field := { off := 0x04C, hi := 7, lo := 0, acc := .plan, reset := 0xFF, rep := 16, stride := 0x40 }
def ST_ROUTE_EN : Field := { off := 0x050, hi := 31, lo := 31, acc := .rws, reset := 1, rep := 16, stride := 0x40 }
def ST_ROUTE_PARTIAL_SUPPRESS : Field := { off := 0x050, hi := 30, lo := 30, acc := .rws, rep := 16, stride := 0x40 }
def ST_ROUTE_ERR_END : Field := { off := 0x050, hi := 29, lo := 29, acc := .rws, rep := 16, stride := 0x40 }
def ST_SEQ_SEQ : Field := { off := 0x054, hi := 31, lo := 0, acc := .ro, rep := 16, stride := 0x40 }
def ST_STAT_STATE : Field := { off := 0x058, hi := 31, lo := 30, acc := .ro, rep := 16, stride := 0x40 }
def ST_STAT_ROWS : Field := { off := 0x058, hi := 15, lo := 0, acc := .ro, rep := 16, stride := 0x40 }
def ST_SOF_LO_TIME : Field := { off := 0x05C, hi := 31, lo := 0, acc := .ro, rep := 16, stride := 0x40 }
def ST_SOF_HI_TIME : Field := { off := 0x060, hi := 31, lo := 0, acc := .ro, rep := 16, stride := 0x40 }
def ST_LINE_PERIOD_NS : Field := { off := 0x064, hi := 31, lo := 0, acc := .ro, rep := 16, stride := 0x40 }
def ST_CNT0_TRUNC : Field := { off := 0x068, hi := 31, lo := 16, acc := .ro, rep := 16, stride := 0x40 }
def ST_CNT0_PARTIAL : Field := { off := 0x068, hi := 15, lo := 0, acc := .ro, rep := 16, stride := 0x40 }
def ST_CNT1_DISCARDED : Field := { off := 0x06C, hi := 31, lo := 16, acc := .ro, rep := 16, stride := 0x40 }
def ST_CNT1_CUT : Field := { off := 0x06C, hi := 15, lo := 0, acc := .ro, rep := 16, stride := 0x40 }
def ST_CNT2_LINE_ERR : Field := { off := 0x070, hi := 31, lo := 16, acc := .ro, rep := 16, stride := 0x40 }
def ST_CNT2_GEOM : Field := { off := 0x070, hi := 15, lo := 0, acc := .ro, rep := 16, stride := 0x40 }
def ST_CNT3_LATE_DROP : Field := { off := 0x074, hi := 31, lo := 16, acc := .ro, rep := 16, stride := 0x40 }
def ST_CNT3_DT_MISMATCH : Field := { off := 0x074, hi := 15, lo := 0, acc := .ro, rep := 16, stride := 0x40 }
def ST_FRAMES_COUNT : Field := { off := 0x078, hi := 31, lo := 0, acc := .ro, rep := 16, stride := 0x40 }

/-- The fields of the page. -/
def pageFields : List Field :=
  [ST_PLAN0_VALID, ST_PLAN0_SPLIT, ST_PLAN0_PATH, ST_PLAN0_FAMILY,
   ST_PLAN0_CLASS, ST_PLAN0_SLOT, ST_PLAN0_EXPOSURES, ST_PLAN0_PACKING,
   ST_PLAN1_ACTIVE_LINES, ST_PLAN1_WIDTH, ST_PLAN2_TOTAL_LINES, ST_PLAN2_WINDOW,
   ST_COVES_COVE_D, ST_COVES_COVE_C, ST_COVES_COVE_B, ST_COVES_COVE_A,
   ST_ROUTE_EN, ST_ROUTE_PARTIAL_SUPPRESS, ST_ROUTE_ERR_END, ST_SEQ_SEQ,
   ST_STAT_STATE, ST_STAT_ROWS, ST_SOF_LO_TIME, ST_SOF_HI_TIME] ++
  [ST_LINE_PERIOD_NS, ST_CNT0_TRUNC, ST_CNT0_PARTIAL, ST_CNT1_DISCARDED,
   ST_CNT1_CUT, ST_CNT2_LINE_ERR, ST_CNT2_GEOM, ST_CNT3_LATE_DROP,
   ST_CNT3_DT_MISMATCH, ST_FRAMES_COUNT]

end Sys2Proof.Machine.StreamTab

namespace Sys2Proof.Machine.Jetty

/-! R393 -/
def JT_CFG_BUS : Field := { off := 0x040, hi := 31, lo := 31, acc := .rw }
def JT_CFG_ADDR16 : Field := { off := 0x040, hi := 30, lo := 30, acc := .rw, reset := 1 }
def JT_CFG_WIDTH : Field := { off := 0x040, hi := 29, lo := 28, acc := .rw, accept := some (0, 2) }
def JT_CFG_ORDER : Field := { off := 0x040, hi := 27, lo := 27, acc := .rw }
def JT_CFG_DEV_ADDR : Field := { off := 0x040, hi := 26, lo := 20, acc := .rw }
def JT_CFG_CORE_RES : Field := { off := 0x040, hi := 19, lo := 14, acc := .rw, reset := 16 }
def JT_CFG_BUSY_RETRY : Field := { off := 0x040, hi := 13, lo := 10, acc := .rw, reset := 4 }
def JT_BASE_REG_BASE : Field := { off := 0x044, hi := 15, lo := 0, acc := .rw }
def JT_BUDGET_BUDGET_US : Field := { off := 0x048, hi := 15, lo := 0, acc := .rw, reset := 1000, clamp := some (50, 10000) }
def JT_STAT_PEAK : Field := { off := 0x04C, hi := 22, lo := 16, acc := .ro }
def JT_STAT_OPEN : Field := { off := 0x04C, hi := 6, lo := 0, acc := .ro }
def JT_ERR_INFO_VALID : Field := { off := 0x050, hi := 31, lo := 31, acc := .w1c }
def JT_ERR_INFO_OVERFLOW : Field := { off := 0x050, hi := 30, lo := 30, acc := .ro }
def JT_ERR_INFO_REQUESTER : Field := { off := 0x050, hi := 29, lo := 27, acc := .ro }
def JT_ERR_INFO_WRITE : Field := { off := 0x050, hi := 26, lo := 26, acc := .ro }
def JT_ERR_INFO_CAUSE : Field := { off := 0x050, hi := 25, lo := 22, acc := .ro }
def JT_ERR_INFO_GEN : Field := { off := 0x050, hi := 21, lo := 18, acc := .ro }
def JT_ERR_INFO_ID : Field := { off := 0x050, hi := 17, lo := 10, acc := .ro }
def JT_ERR_INFO_WORD : Field := { off := 0x050, hi := 7, lo := 0, acc := .ro }
def JT_ERR_DATA_FAR_STATUS : Field := { off := 0x054, hi := 11, lo := 8, acc := .ro }
def JT_ERR_DATA_COUNT : Field := { off := 0x054, hi := 7, lo := 0, acc := .ro }
def JT_CNT_OK_COUNT : Field := { off := 0x058, hi := 31, lo := 0, acc := .ro }
def JT_CNT_ERR_COUNT : Field := { off := 0x05C, hi := 31, lo := 0, acc := .ro }
def JT_CNT_STALE_STALE : Field := { off := 0x060, hi := 31, lo := 16, acc := .ro }
def JT_CNT_STALE_RETRIES : Field := { off := 0x060, hi := 15, lo := 0, acc := .ro }
def JT_TIME_MAX_US : Field := { off := 0x064, hi := 31, lo := 0, acc := .ro }
def LOC_CFG_SPEED : Field := { off := 0x0C0, hi := 31, lo := 29, acc := .rw, reset := 1, accept := some (0, 4) }
def LOC_CFG_IBI_EN : Field := { off := 0x0C0, hi := 28, lo := 28, acc := .rw }
def LOC_CFG_BUS_TO_US : Field := { off := 0x0C0, hi := 15, lo := 0, acc := .rw, reset := 1000, clamp := some (100, 65535) }
def LOC_STAT_STUCK : Field := { off := 0x0C4, hi := 31, lo := 31, acc := .ro }
def LOC_STAT_BUSY : Field := { off := 0x0C4, hi := 30, lo := 30, acc := .ro }
def LOC_STAT_RECOVERIES : Field := { off := 0x0C4, hi := 15, lo := 0, acc := .ro }
def MIR_CFG_EN : Field := { off := 0x100, hi := 31, lo := 31, acc := .rw, rep := 64, stride := 0x4 }
def MIR_CFG_DIR : Field := { off := 0x100, hi := 30, lo := 30, acc := .rw, rep := 64, stride := 0x4 }
def MIR_CFG_WIDTH : Field := { off := 0x100, hi := 29, lo := 28, acc := .rw, rep := 64, stride := 0x4, accept := some (0, 2) }
def MIR_CFG_DIRTY : Field := { off := 0x100, hi := 27, lo := 27, acc := .ro, rep := 64, stride := 0x4 }
def MIR_CFG_REG : Field := { off := 0x100, hi := 15, lo := 0, acc := .rw, rep := 64, stride := 0x4 }
def MIR_VAL_VALUE : Field := { off := 0x200, hi := 31, lo := 0, acc := .rw, rep := 64, stride := 0x4 }
def MIR_TIDE_TIDE : Field := { off := 0x300, hi := 31, lo := 0, acc := .ro }
def MIR_ERR_LO_ENTRY : Field := { off := 0x304, hi := 31, lo := 0, acc := .w1c }
def MIR_ERR_HI_ENTRY : Field := { off := 0x308, hi := 31, lo := 0, acc := .w1c }
def EVQ_STAMP_LO_TIME : Field := { off := 0x310, hi := 31, lo := 0, acc := .ro }
def EVQ_STAMP_HI_TIME : Field := { off := 0x314, hi := 31, lo := 0, acc := .ro }
def EVQ_INFO_VALID : Field := { off := 0x318, hi := 31, lo := 31, acc := .ro }
def EVQ_INFO_IBI_COUNT : Field := { off := 0x318, hi := 18, lo := 16, acc := .ro }
def EVQ_INFO_IBI_ADDR : Field := { off := 0x318, hi := 15, lo := 9, acc := .ro }
def EVQ_INFO_LEVEL : Field := { off := 0x318, hi := 8, lo := 8, acc := .ro }
def EVQ_INFO_INDEX : Field := { off := 0x318, hi := 6, lo := 4, acc := .ro }
def EVQ_INFO_KIND : Field := { off := 0x318, hi := 2, lo := 0, acc := .ro }
def EVQ_IBI_DATA : Field := { off := 0x31C, hi := 31, lo := 0, acc := .ro }
def EVQ_STAT_OVERFLOW : Field := { off := 0x320, hi := 31, lo := 31, acc := .w1c }
def EVQ_STAT_COUNT : Field := { off := 0x320, hi := 4, lo := 0, acc := .ro }
def POLL_CFG_EN : Field := { off := 0x330, hi := 31, lo := 31, acc := .rw, reset := 1 }
def POLL_CFG_LINE : Field := { off := 0x330, hi := 30, lo := 30, acc := .ro }
def POLL_CFG_MISS_MAX : Field := { off := 0x330, hi := 23, lo := 16, acc := .rw, reset := 3, clamp := some (1, 255) }
def POLL_CFG_PERIOD_US : Field := { off := 0x330, hi := 15, lo := 0, acc := .rw, reset := 1000, clamp := some (1, 65535) }
def POLL_MASK_MASK : Field := { off := 0x334, hi := 31, lo := 0, acc := .rw, reset := 0xFFFFFFFF }
def POLL_STATUS_STATUS : Field := { off := 0x338, hi := 31, lo := 0, acc := .ro }
def POLL_CNT_MISSED : Field := { off := 0x33C, hi := 31, lo := 16, acc := .ro }
def POLL_CNT_REPLIED : Field := { off := 0x33C, hi := 15, lo := 0, acc := .ro }
def TXQ_REQ_GO : Field := { off := 0x340, hi := 31, lo := 31, acc := .w1s }
def TXQ_REQ_BUS : Field := { off := 0x340, hi := 30, lo := 30, acc := .rw }
def TXQ_REQ_OP : Field := { off := 0x340, hi := 29, lo := 28, acc := .rw, accept := some (0, 2) }
def TXQ_REQ_TARGET : Field := { off := 0x340, hi := 26, lo := 20, acc := .rw }
def TXQ_REQ_WR_COUNT : Field := { off := 0x340, hi := 14, lo := 8, acc := .rw, clamp := some (0, 64) }
def TXQ_REQ_RD_COUNT : Field := { off := 0x340, hi := 6, lo := 0, acc := .rw, clamp := some (0, 64) }
def TXQ_STAT_DONE : Field := { off := 0x344, hi := 31, lo := 31, acc := .w1c }
def TXQ_STAT_ERR : Field := { off := 0x344, hi := 30, lo := 30, acc := .ro }
def TXQ_STAT_CAUSE : Field := { off := 0x344, hi := 29, lo := 26, acc := .ro }
def TXQ_STAT_COUNT : Field := { off := 0x344, hi := 6, lo := 0, acc := .ro }
def TXQ_DATA_DATA : Field := { off := 0x380, hi := 31, lo := 0, acc := .rw, rep := 16, stride := 0x4 }

/-- The fields of the page. -/
def pageFields : List Field :=
  [JT_CFG_BUS, JT_CFG_ADDR16, JT_CFG_WIDTH, JT_CFG_ORDER,
   JT_CFG_DEV_ADDR, JT_CFG_CORE_RES, JT_CFG_BUSY_RETRY, JT_BASE_REG_BASE,
   JT_BUDGET_BUDGET_US, JT_STAT_PEAK, JT_STAT_OPEN, JT_ERR_INFO_VALID,
   JT_ERR_INFO_OVERFLOW, JT_ERR_INFO_REQUESTER, JT_ERR_INFO_WRITE, JT_ERR_INFO_CAUSE,
   JT_ERR_INFO_GEN, JT_ERR_INFO_ID, JT_ERR_INFO_WORD, JT_ERR_DATA_FAR_STATUS,
   JT_ERR_DATA_COUNT, JT_CNT_OK_COUNT, JT_CNT_ERR_COUNT, JT_CNT_STALE_STALE] ++
  [JT_CNT_STALE_RETRIES, JT_TIME_MAX_US, LOC_CFG_SPEED, LOC_CFG_IBI_EN,
   LOC_CFG_BUS_TO_US, LOC_STAT_STUCK, LOC_STAT_BUSY, LOC_STAT_RECOVERIES,
   MIR_CFG_EN, MIR_CFG_DIR, MIR_CFG_WIDTH, MIR_CFG_DIRTY,
   MIR_CFG_REG, MIR_VAL_VALUE, MIR_TIDE_TIDE, MIR_ERR_LO_ENTRY,
   MIR_ERR_HI_ENTRY, EVQ_STAMP_LO_TIME, EVQ_STAMP_HI_TIME, EVQ_INFO_VALID,
   EVQ_INFO_IBI_COUNT, EVQ_INFO_IBI_ADDR, EVQ_INFO_LEVEL, EVQ_INFO_INDEX] ++
  [EVQ_INFO_KIND, EVQ_IBI_DATA, EVQ_STAT_OVERFLOW, EVQ_STAT_COUNT,
   POLL_CFG_EN, POLL_CFG_LINE, POLL_CFG_MISS_MAX, POLL_CFG_PERIOD_US,
   POLL_MASK_MASK, POLL_STATUS_STATUS, POLL_CNT_MISSED, POLL_CNT_REPLIED,
   TXQ_REQ_GO, TXQ_REQ_BUS, TXQ_REQ_OP, TXQ_REQ_TARGET,
   TXQ_REQ_WR_COUNT, TXQ_REQ_RD_COUNT, TXQ_STAT_DONE, TXQ_STAT_ERR,
   TXQ_STAT_CAUSE, TXQ_STAT_COUNT, TXQ_DATA_DATA]

end Sys2Proof.Machine.Jetty

namespace Sys2Proof.Machine.Mac

/-! R424 -/
def MAC_CFG_IF : Field := { off := 0x040, hi := 31, lo := 30, acc := .rw, accept := some (0, 2) }
def MAC_CFG_FEC : Field := { off := 0x040, hi := 29, lo := 28, acc := .rw }
def MAC_CFG_MAX_FRAME : Field := { off := 0x040, hi := 13, lo := 0, acc := .rw, reset := 1522, clamp := some (64, 9216) }
def MAC_STAT_LINK : Field := { off := 0x044, hi := 31, lo := 31, acc := .ro }
def MAC_STAT_FEC_LOCK : Field := { off := 0x044, hi := 30, lo := 30, acc := .ro }
def MAC_ADDR_LO_ADDR : Field := { off := 0x048, hi := 31, lo := 0, acc := .rw }
def MAC_ADDR_HI_ADDR : Field := { off := 0x04C, hi := 15, lo := 0, acc := .rw }
def PORT_PCP_PCP : Field := { off := 0x050, hi := 2, lo := 0, acc := .rw }
def TS_CFG_ONE_STEP : Field := { off := 0x040, hi := 31, lo := 31, acc := .rw }
def PHY_TX_LAT_LAT : Field := { off := 0x044, hi := 31, lo := 0, acc := .rw }
def PHY_RX_LAT_LAT : Field := { off := 0x048, hi := 31, lo := 0, acc := .rw }
def RXTS_INFO_VALID : Field := { off := 0x050, hi := 31, lo := 31, acc := .ro }
def RXTS_INFO_MATCHED : Field := { off := 0x050, hi := 30, lo := 30, acc := .ro }
def RXTS_INFO_DOMSEL : Field := { off := 0x050, hi := 29, lo := 29, acc := .ro }
def RXTS_INFO_TWO_STEP : Field := { off := 0x050, hi := 28, lo := 28, acc := .ro }
def RXTS_INFO_MSG_TYPE : Field := { off := 0x050, hi := 27, lo := 24, acc := .ro }
def RXTS_INFO_DOMAIN : Field := { off := 0x050, hi := 23, lo := 16, acc := .ro }
def RXTS_INFO_SEQ_ID : Field := { off := 0x050, hi := 15, lo := 0, acc := .ro }
def RXTS_CNT_C : Field := { off := 0x054, hi := 31, lo := 0, acc := .ro, rep := 2, stride := 0x4 }
def RXTS_FRAC_CNT : Field := { off := 0x05C, hi := 31, lo := 16, acc := .ro }
def RXTS_FRAC_DOM : Field := { off := 0x05C, hi := 15, lo := 0, acc := .ro }
def RXTS_DOM_TIME : Field := { off := 0x060, hi := 31, lo := 0, acc := .ro, rep := 2, stride := 0x4 }
def TS_STAT_RX_OVF : Field := { off := 0x0C0, hi := 31, lo := 31, acc := .w1c }
def TS_STAT_TX_OVF : Field := { off := 0x0C0, hi := 30, lo := 30, acc := .w1c }
def TS_STAT_TX_COUNT : Field := { off := 0x0C0, hi := 13, lo := 8, acc := .ro }
def TS_STAT_RX_COUNT : Field := { off := 0x0C0, hi := 5, lo := 0, acc := .ro }
def FRAMES_TX_COUNT : Field := { off := 0x040, hi := 31, lo := 0, acc := .ro }
def FRAMES_RX_COUNT : Field := { off := 0x044, hi := 31, lo := 0, acc := .ro }
def FCS_ERR_COUNT : Field := { off := 0x048, hi := 31, lo := 0, acc := .ro }
def PAUSE_RX_COUNT : Field := { off := 0x04C, hi := 31, lo := 0, acc := .ro }
def QDROP_COUNT : Field := { off := 0x050, hi := 31, lo := 0, acc := .ro }
def GATE_OVERSIZE_COUNT : Field := { off := 0x054, hi := 31, lo := 0, acc := .ro }
def CBS_SLOPE_EN : Field := { off := 0x040, hi := 31, lo := 31, acc := .rw, rep := 8, stride := 0x4 }
def CBS_SLOPE_SLOPE_MBPS : Field := { off := 0x040, hi := 14, lo := 0, acc := .rw, rep := 8, stride := 0x4, clamp := some (1, 25000) }
def GCL_CFG_EN : Field := { off := 0x080, hi := 31, lo := 31, acc := .rw }
def GCL_CFG_CHANGE : Field := { off := 0x080, hi := 30, lo := 30, acc := .w1s }
def GCL_CFG_PENDING : Field := { off := 0x080, hi := 29, lo := 29, acc := .ro }
def GCL_CFG_ADMIN_LEN : Field := { off := 0x080, hi := 8, lo := 0, acc := .rw, reset := 1, clamp := some (1, 256) }
def GCL_CYCLE_NS : Field := { off := 0x084, hi := 31, lo := 0, acc := .rw, reset := 1000000, clamp := some (1000, 1000000000) }
def GCL_BASE_BASE : Field := { off := 0x088, hi := 31, lo := 0, acc := .rw, rep := 2, stride := 0x4 }
def GCL_ADMIN_GATES : Field := { off := 0x400, hi := 31, lo := 24, acc := .rw, reset := 0xFF, rep := 256, stride := 0x4 }
def GCL_ADMIN_INTERVAL_NS : Field := { off := 0x400, hi := 23, lo := 0, acc := .rw, rep := 256, stride := 0x4, clamp := some (64, 16777215) }
def TXTS_INFO_VALID : Field := { off := 0x080, hi := 31, lo := 31, acc := .ro }
def TXTS_INFO_MATCHED : Field := { off := 0x080, hi := 30, lo := 30, acc := .ro }
def TXTS_INFO_DOMSEL : Field := { off := 0x080, hi := 29, lo := 29, acc := .ro }
def TXTS_INFO_TWO_STEP : Field := { off := 0x080, hi := 28, lo := 28, acc := .ro }
def TXTS_INFO_MSG_TYPE : Field := { off := 0x080, hi := 27, lo := 24, acc := .ro }
def TXTS_INFO_DOMAIN : Field := { off := 0x080, hi := 23, lo := 16, acc := .ro }
def TXTS_INFO_SEQ_ID : Field := { off := 0x080, hi := 15, lo := 0, acc := .ro }
def TXTS_CNT_C : Field := { off := 0x084, hi := 31, lo := 0, acc := .ro, rep := 2, stride := 0x4 }
def TXTS_FRAC_CNT : Field := { off := 0x08C, hi := 31, lo := 16, acc := .ro }
def TXTS_FRAC_DOM : Field := { off := 0x08C, hi := 15, lo := 0, acc := .ro }
def TXTS_DOM_TIME : Field := { off := 0x090, hi := 31, lo := 0, acc := .ro, rep := 2, stride := 0x4 }

/-- The fields of page 0. -/
def p0Fields : List Field :=
  [MAC_CFG_IF, MAC_CFG_FEC, MAC_CFG_MAX_FRAME, MAC_STAT_LINK,
   MAC_STAT_FEC_LOCK, MAC_ADDR_LO_ADDR, MAC_ADDR_HI_ADDR, PORT_PCP_PCP]
/-- The fields of page 1. -/
def p1Fields : List Field :=
  [TS_CFG_ONE_STEP, PHY_TX_LAT_LAT, PHY_RX_LAT_LAT, RXTS_INFO_VALID,
   RXTS_INFO_MATCHED, RXTS_INFO_DOMSEL, RXTS_INFO_TWO_STEP, RXTS_INFO_MSG_TYPE,
   RXTS_INFO_DOMAIN, RXTS_INFO_SEQ_ID, RXTS_CNT_C, RXTS_FRAC_CNT,
   RXTS_FRAC_DOM, RXTS_DOM_TIME, TS_STAT_RX_OVF, TS_STAT_TX_OVF,
   TS_STAT_TX_COUNT, TS_STAT_RX_COUNT, TXTS_INFO_VALID, TXTS_INFO_MATCHED,
   TXTS_INFO_DOMSEL, TXTS_INFO_TWO_STEP, TXTS_INFO_MSG_TYPE, TXTS_INFO_DOMAIN] ++
  [TXTS_INFO_SEQ_ID, TXTS_CNT_C, TXTS_FRAC_CNT, TXTS_FRAC_DOM,
   TXTS_DOM_TIME]
/-- The fields of page 2. -/
def p2Fields : List Field :=
  [FRAMES_TX_COUNT, FRAMES_RX_COUNT, FCS_ERR_COUNT, PAUSE_RX_COUNT,
   QDROP_COUNT, GATE_OVERSIZE_COUNT]
/-- The fields of page 3. -/
def p3Fields : List Field :=
  [CBS_SLOPE_EN, CBS_SLOPE_SLOPE_MBPS, GCL_CFG_EN, GCL_CFG_CHANGE,
   GCL_CFG_PENDING, GCL_CFG_ADMIN_LEN, GCL_CYCLE_NS, GCL_BASE_BASE,
   GCL_ADMIN_GATES, GCL_ADMIN_INTERVAL_NS]

end Sys2Proof.Machine.Mac

namespace Sys2Proof.Machine.Bridge

/-! R425 -/
def FDB_IDX_IDX : Field := { off := 0x040, hi := 9, lo := 0, acc := .rw }
def FDB_ENTRY_LO_ADDR : Field := { off := 0x044, hi := 31, lo := 0, acc := .rw }
def FDB_ENTRY_HI_ADDR : Field := { off := 0x048, hi := 15, lo := 0, acc := .rw }
def FDB_CTL_VALID : Field := { off := 0x04C, hi := 31, lo := 31, acc := .rw }
def FDB_CTL_STATIC : Field := { off := 0x04C, hi := 30, lo := 30, acc := .rw }
def FDB_CTL_PORTS : Field := { off := 0x04C, hi := 29, lo := 27, acc := .rw }
def FDB_CTL_VID : Field := { off := 0x04C, hi := 11, lo := 0, acc := .rw }
def FDB_CMD_WRITE : Field := { off := 0x050, hi := 31, lo := 31, acc := .w1s }
def FDB_CMD_READ : Field := { off := 0x050, hi := 30, lo := 30, acc := .w1s }
def FDB_AGE_AGE_S : Field := { off := 0x054, hi := 15, lo := 0, acc := .rw, reset := 300 }
def FDB_CNT_LEARN_FULL : Field := { off := 0x058, hi := 31, lo := 16, acc := .ro }
def FDB_CNT_S_MISS : Field := { off := 0x058, hi := 15, lo := 0, acc := .ro }
def TC_TWO_STEP_COUNT : Field := { off := 0x05C, hi := 31, lo := 0, acc := .ro }
def MG_TX_DATA_DATA : Field := { off := 0x040, hi := 31, lo := 0, acc := .wo }
def MG_TX_CTL_GO : Field := { off := 0x044, hi := 31, lo := 31, acc := .w1s }
def MG_TX_CTL_PORT : Field := { off := 0x044, hi := 30, lo := 29, acc := .rw }
def MG_TX_CTL_LEN : Field := { off := 0x044, hi := 10, lo := 0, acc := .rw, clamp := some (60, 1518) }
def MG_TX_FREE_WORDS : Field := { off := 0x048, hi := 12, lo := 0, acc := .ro, reset := 4096 }
def MG_RX_INFO_VALID : Field := { off := 0x050, hi := 31, lo := 31, acc := .ro }
def MG_RX_INFO_PORT : Field := { off := 0x050, hi := 30, lo := 29, acc := .ro }
def MG_RX_INFO_LEN : Field := { off := 0x050, hi := 10, lo := 0, acc := .ro }
def MG_RX_DATA_DATA : Field := { off := 0x054, hi := 31, lo := 0, acc := .ro }
def MG_RX_STAT_MG_OVF : Field := { off := 0x058, hi := 31, lo := 31, acc := .w1c }
def MG_RX_STAT_FRAMES : Field := { off := 0x058, hi := 7, lo := 0, acc := .ro }
def STRM_SLOPE_MBPS : Field := { off := 0x040, hi := 14, lo := 0, acc := .rw, clamp := some (0, 25000) }
def STRM_PAY_BYTES : Field := { off := 0x044, hi := 13, lo := 0, acc := .rw, reset := 1408, clamp := some (256, 8960), gran := 64 }
def VSF_EUI_LO_EUI : Field := { off := 0x048, hi := 31, lo := 0, acc := .rw }
def VSF_EUI_HI_EUI : Field := { off := 0x04C, hi := 15, lo := 0, acc := .rw }
def STRM_DUP_COUNT : Field := { off := 0x050, hi := 31, lo := 0, acc := .ro }
def STRM_OVF_COUNT : Field := { off := 0x054, hi := 31, lo := 0, acc := .ro }
def SL_CFG_VALID : Field := { off := 0x100, hi := 31, lo := 31, acc := .ro, rep := 16, stride := 0x20 }
def SL_CFG_STREAM : Field := { off := 0x100, hi := 25, lo := 16, acc := .ro, reset := 0x3FF, rep := 16, stride := 0x20 }
def SL_CFG_PCP : Field := { off := 0x100, hi := 15, lo := 13, acc := .rws, reset := 5, rep := 16, stride := 0x20 }
def SL_CFG_VID : Field := { off := 0x100, hi := 11, lo := 0, acc := .rws, reset := 2, rep := 16, stride := 0x20 }
def SL_DA_LO_ADDR : Field := { off := 0x104, hi := 31, lo := 0, acc := .rws, rep := 16, stride := 0x20 }
def SL_DA_HI_ADDR : Field := { off := 0x108, hi := 15, lo := 0, acc := .rws, rep := 16, stride := 0x20 }
def SL_ID_ID : Field := { off := 0x10C, hi := 31, lo := 0, acc := .rws, rep := 16, stride := 0x20, rep2 := 2, stride2 := 0x4 }
def SL_PRES_PRES_OFFSET_NS : Field := { off := 0x114, hi := 31, lo := 0, acc := .rws, reset := 2000000, rep := 16, stride := 0x20 }
def SL_FRAMES_COUNT : Field := { off := 0x118, hi := 31, lo := 0, acc := .ro, rep := 16, stride := 0x20 }

/-- The fields of page 0. -/
def p0Fields : List Field :=
  [FDB_IDX_IDX, FDB_ENTRY_LO_ADDR, FDB_ENTRY_HI_ADDR, FDB_CTL_VALID,
   FDB_CTL_STATIC, FDB_CTL_PORTS, FDB_CTL_VID, FDB_CMD_WRITE,
   FDB_CMD_READ, FDB_AGE_AGE_S, FDB_CNT_LEARN_FULL, FDB_CNT_S_MISS,
   TC_TWO_STEP_COUNT]
/-- The fields of page 1. -/
def p1Fields : List Field :=
  [MG_TX_DATA_DATA, MG_TX_CTL_GO, MG_TX_CTL_PORT, MG_TX_CTL_LEN,
   MG_TX_FREE_WORDS, MG_RX_INFO_VALID, MG_RX_INFO_PORT, MG_RX_INFO_LEN,
   MG_RX_DATA_DATA, MG_RX_STAT_MG_OVF, MG_RX_STAT_FRAMES]
/-- The fields of page 2. -/
def p2Fields : List Field :=
  [STRM_SLOPE_MBPS, STRM_PAY_BYTES, VSF_EUI_LO_EUI, VSF_EUI_HI_EUI,
   STRM_DUP_COUNT, STRM_OVF_COUNT, SL_CFG_VALID, SL_CFG_STREAM,
   SL_CFG_PCP, SL_CFG_VID, SL_DA_LO_ADDR, SL_DA_HI_ADDR,
   SL_ID_ID, SL_PRES_PRES_OFFSET_NS, SL_FRAMES_COUNT]

end Sys2Proof.Machine.Bridge
end

