-- ==== Sys2Proof/Machine/RegsSpine.lean ====
section
/-!
DEFINITION. Sys2Proof/Machine/RegsSpine.lean: the register fields of the header and the spine blocks, one definition a field
(REGISTER_FIELD, its offset in the page, its bits, its access code, its reset value), from the manual's register tables.
A reset value that a table leaves to a word (Retained, Per instance, Strap …) stands in Machine/RegMap.lean.
-/
namespace Sys2Proof.Machine.Hdr

/-! R73 -/
def PAGE_ID_TYPE : Field := { off := 0x000, hi := 31, lo := 24, acc := .ro }
def PAGE_ID_INSTANCE : Field := { off := 0x000, hi := 23, lo := 12, acc := .ro }
def PAGE_ID_PAGE : Field := { off := 0x000, hi := 11, lo := 0, acc := .ro }
def PAGE_VER_MAJOR : Field := { off := 0x004, hi := 15, lo := 8, acc := .ro, reset := 0x01 }
def PAGE_VER_MINOR : Field := { off := 0x004, hi := 7, lo := 0, acc := .ro }
def UNIT_LOT_LOT : Field := { off := 0x008, hi := 31, lo := 0, acc := .ro }
def UNIT_WAFER_WAFER : Field := { off := 0x00C, hi := 31, lo := 24, acc := .ro }
def UNIT_WAFER_DIE_X : Field := { off := 0x00C, hi := 23, lo := 12, acc := .ro }
def UNIT_WAFER_DIE_Y : Field := { off := 0x00C, hi := 11, lo := 0, acc := .ro }
def UNIT_SITE_SITE_X : Field := { off := 0x010, hi := 31, lo := 16, acc := .ro }
def UNIT_SITE_SITE_Y : Field := { off := 0x010, hi := 15, lo := 0, acc := .ro }
def CAP_SHADOW : Field := { off := 0x014, hi := 31, lo := 31, acc := .ro }
def CAP_FAST : Field := { off := 0x014, hi := 30, lo := 30, acc := .ro }
def CAP_PWR : Field := { off := 0x014, hi := 29, lo := 29, acc := .ro }
def CAP_DOMAIN : Field := { off := 0x014, hi := 28, lo := 22, acc := .ro }
def CAP_PAGES : Field := { off := 0x014, hi := 21, lo := 16, acc := .ro }
def CAP_BLOCK : Field := { off := 0x014, hi := 15, lo := 0, acc := .ro }
def CTRL_PWR_REQ : Field := { off := 0x018, hi := 2, lo := 2, acc := .rw }
def CTRL_RST : Field := { off := 0x018, hi := 1, lo := 1, acc := .w1s }
def CTRL_EN : Field := { off := 0x018, hi := 0, lo := 0, acc := .rw }
def STAT_RESET : Field := { off := 0x01C, hi := 4, lo := 4, acc := .ro }
def STAT_FAULT : Field := { off := 0x01C, hi := 3, lo := 3, acc := .ro }
def STAT_POWERED : Field := { off := 0x01C, hi := 2, lo := 2, acc := .ro }
def STAT_BUSY : Field := { off := 0x01C, hi := 1, lo := 1, acc := .ro }
def STAT_READY : Field := { off := 0x01C, hi := 0, lo := 0, acc := .ro }
def EVT_STAT_EVENT : Field := { off := 0x020, hi := 31, lo := 0, acc := .w1c }
def EVT_EN_ENABLE : Field := { off := 0x024, hi := 31, lo := 0, acc := .rw }
def FLT_STAT_FAULT : Field := { off := 0x028, hi := 31, lo := 0, acc := .ro }
def FLT_ACK_ACK : Field := { off := 0x02C, hi := 31, lo := 0, acc := .wo }
/-! R39 -/
def COMMIT_ARM : Field := { off := 0x030, hi := 31, lo := 31, acc := .w1s }
def COMMIT_DISARM : Field := { off := 0x030, hi := 30, lo := 30, acc := .w1s }
def COMMIT_PENDING : Field := { off := 0x030, hi := 29, lo := 29, acc := .ro }
def COMMIT_CAPTURED : Field := { off := 0x030, hi := 28, lo := 28, acc := .ro }
def COMMIT_DONE : Field := { off := 0x030, hi := 27, lo := 27, acc := .w1c }
def COMMIT_GROUP : Field := { off := 0x030, hi := 5, lo := 0, acc := .rw }
def COMMIT_TIDE_TIDE : Field := { off := 0x034, hi := 31, lo := 0, acc := .ro }

/-- The fields of the page. -/
def pageFields : List Field :=
  [PAGE_ID_TYPE, PAGE_ID_INSTANCE, PAGE_ID_PAGE, PAGE_VER_MAJOR,
   PAGE_VER_MINOR, UNIT_LOT_LOT, UNIT_WAFER_WAFER, UNIT_WAFER_DIE_X,
   UNIT_WAFER_DIE_Y, UNIT_SITE_SITE_X, UNIT_SITE_SITE_Y, CAP_SHADOW,
   CAP_FAST, CAP_PWR, CAP_DOMAIN, CAP_PAGES,
   CAP_BLOCK, CTRL_PWR_REQ, CTRL_RST, CTRL_EN,
   STAT_RESET, STAT_FAULT, STAT_POWERED, STAT_BUSY] ++
  [STAT_READY, EVT_STAT_EVENT, EVT_EN_ENABLE, FLT_STAT_FAULT,
   FLT_ACK_ACK, COMMIT_ARM, COMMIT_DISARM, COMMIT_PENDING,
   COMMIT_CAPTURED, COMMIT_DONE, COMMIT_GROUP, COMMIT_TIDE_TIDE]

end Sys2Proof.Machine.Hdr

namespace Sys2Proof.Machine.Chip

/-! R79 -/
def CHIP_ID_PART : Field := { off := 0x040, hi := 31, lo := 16, acc := .ro, reset := 0x4016 }
def CHIP_ID_SILICON : Field := { off := 0x040, hi := 15, lo := 8, acc := .ro, reset := 0x41 }
def CHIP_ID_METAL : Field := { off := 0x040, hi := 7, lo := 0, acc := .ro }
def CHIP_CFG_FUSE_ERR : Field := { off := 0x044, hi := 31, lo := 31, acc := .ro }
def CHIP_CFG_FACTORY : Field := { off := 0x044, hi := 1, lo := 1, acc := .ro }
def CHIP_CFG_HOST_MODE : Field := { off := 0x044, hi := 0, lo := 0, acc := .ro }
/-! R80 -/
def ACC_ERR_ADDR_OFFSET : Field := { off := 0x040, hi := 25, lo := 0, acc := .ro }
def ACC_ERR_INFO_VALID : Field := { off := 0x044, hi := 31, lo := 31, acc := .w1c }
def ACC_ERR_INFO_OVERFLOW : Field := { off := 0x044, hi := 30, lo := 30, acc := .ro }
def ACC_ERR_INFO_REQUESTER : Field := { off := 0x044, hi := 29, lo := 27, acc := .ro }
def ACC_ERR_INFO_WRITE : Field := { off := 0x044, hi := 26, lo := 26, acc := .ro }
def ACC_ERR_INFO_BYTE_EN : Field := { off := 0x044, hi := 7, lo := 4, acc := .ro }
def ACC_ERR_INFO_CAUSE : Field := { off := 0x044, hi := 3, lo := 0, acc := .ro }
def ACC_ERR_COUNT_COUNT : Field := { off := 0x048, hi := 31, lo := 0, acc := .ro }
/-! R582 -/
def PM_CTRL_SLEEP_GO : Field := { off := 0x040, hi := 31, lo := 31, acc := .w1s }
def PM_CTRL_REPLAN : Field := { off := 0x040, hi := 30, lo := 30, acc := .rw }
def PM_CTRL_SLEEP_TO_MS : Field := { off := 0x040, hi := 15, lo := 0, acc := .rw, reset := 100, clamp := some (1, 65535) }
def PM_STAT_STATE : Field := { off := 0x044, hi := 31, lo := 28, acc := .ro }
def PM_STAT_LAST_REFUSED : Field := { off := 0x044, hi := 6, lo := 0, acc := .ro }
def PM_WAKE_WAKE_N_EN : Field := { off := 0x048, hi := 31, lo := 31, acc := .rw, reset := 1 }
def PM_WAKE_TIMER_EN : Field := { off := 0x048, hi := 30, lo := 30, acc := .rw }
def PM_WAKE_TIMER_MS : Field := { off := 0x048, hi := 23, lo := 0, acc := .rw }
def PM_WAKE_CAUSE_TIMER : Field := { off := 0x04C, hi := 1, lo := 1, acc := .w1c }
def PM_WAKE_CAUSE_WAKE_N : Field := { off := 0x04C, hi := 0, lo := 0, acc := .w1c }
def PM_REPLAN_LO_BA : Field := { off := 0x050, hi := 31, lo := 6, acc := .rw }
def PM_REPLAN_HI_BA : Field := { off := 0x054, hi := 19, lo := 0, acc := .rw }
def PM_WAKESEQ_LO_BA : Field := { off := 0x058, hi := 31, lo := 6, acc := .rw }
def PM_WAKESEQ_HI_BA : Field := { off := 0x05C, hi := 19, lo := 0, acc := .rw }
def PM_WAKESEQ_LEN_ENTRIES : Field := { off := 0x060, hi := 15, lo := 0, acc := .rw }
def AVS_CTRL_EN : Field := { off := 0x064, hi := 31, lo := 31, acc := .rw, reset := 1 }
def AVS_CTRL_MARGIN_MV : Field := { off := 0x064, hi := 5, lo := 0, acc := .rw, reset := 20, clamp := some (0, 50) }
def AVS_STAT_VACK_MV : Field := { off := 0x068, hi := 31, lo := 16, acc := .ro, reset := 750 }
def AVS_STAT_VTARGET_MV : Field := { off := 0x068, hi := 15, lo := 0, acc := .ro, reset := 750 }
def SUP_STAT_IN_WINDOW : Field := { off := 0x06C, hi := 8, lo := 0, acc := .ro }
/-! R583 -/
def PD_CTRL_REQ : Field := { off := 0x100, hi := 31, lo := 31, acc := .rw, rep := 96, stride := 0x4 }
def PD_CTRL_ACK : Field := { off := 0x100, hi := 30, lo := 30, acc := .ro, rep := 96, stride := 0x4 }
def PD_CTRL_PLAN : Field := { off := 0x100, hi := 29, lo := 29, acc := .ro, rep := 96, stride := 0x4 }
def PD_CTRL_SYSTEM : Field := { off := 0x100, hi := 28, lo := 28, acc := .ro, rep := 96, stride := 0x4 }
def PD_CTRL_DRAINING : Field := { off := 0x100, hi := 27, lo := 27, acc := .ro, rep := 96, stride := 0x4 }
def PD_ACK_MAP_ACK : Field := { off := 0x100, hi := 31, lo := 0, acc := .ro, rep := 3, stride := 0x4 }
def PD_DROP_MAP_DROP : Field := { off := 0x110, hi := 31, lo := 0, acc := .w1c, rep := 3, stride := 0x4 }
def PD_SWITCHES_COUNT : Field := { off := 0x120, hi := 31, lo := 0, acc := .ro }
/-! R584 -/
def CLK_STAT_REF_OK : Field := { off := 0x040, hi := 31, lo := 31, acc := .ro }
def CLK_STAT_PCIE_REF_OK : Field := { off := 0x040, hi := 30, lo := 30, acc := .ro }
def CLK_STAT_ON_INTERNAL : Field := { off := 0x040, hi := 29, lo := 29, acc := .ro }
def CLK_STAT_LOCKED : Field := { off := 0x040, hi := 7, lo := 0, acc := .ro }
def CLK_REF_PPB_PPB : Field := { off := 0x044, hi := 31, lo := 0, acc := .ro }
def CLK_CFG_REF_LIMIT_PPM : Field := { off := 0x048, hi := 7, lo := 0, acc := .rw, reset := 100, clamp := some (1, 150) }
/-! R585 -/
def RST_CAUSE_SEQ_ERR : Field := { off := 0x040, hi := 6, lo := 6, acc := .w1c }
def RST_CAUSE_SOFTWARE : Field := { off := 0x040, hi := 5, lo := 5, acc := .w1c }
def RST_CAUSE_BREAKWATER : Field := { off := 0x040, hi := 4, lo := 4, acc := .w1c }
def RST_CAUSE_WATCHDOG : Field := { off := 0x040, hi := 3, lo := 3, acc := .w1c }
def RST_CAUSE_PIN : Field := { off := 0x040, hi := 2, lo := 2, acc := .w1c }
def RST_CAUSE_UV : Field := { off := 0x040, hi := 1, lo := 1, acc := .w1c }
def RST_CAUSE_POR : Field := { off := 0x040, hi := 0, lo := 0, acc := .w1c }
def RST_LAST_LP : Field := { off := 0x044, hi := 5, lo := 4, acc := .ro }
def RST_LAST_CAUSE : Field := { off := 0x044, hi := 3, lo := 0, acc := .ro }
def RST_UV_RAIL_RAIL : Field := { off := 0x048, hi := 8, lo := 0, acc := .w1c }
def RST_COUNT_COUNT : Field := { off := 0x04C, hi := 31, lo := 0, acc := .ro }
def RST_SW_ARM : Field := { off := 0x050, hi := 31, lo := 31, acc := .w1s }
def RST_SW_GO : Field := { off := 0x050, hi := 30, lo := 30, acc := .w1s }
/-! R586 -/
def BOOT_STAT_STATE : Field := { off := 0x040, hi := 31, lo := 28, acc := .ro }
def BOOT_STAT_SLOT : Field := { off := 0x040, hi := 27, lo := 27, acc := .ro }
def BOOT_STAT_HMODE : Field := { off := 0x040, hi := 26, lo := 26, acc := .ro }
def BOOT_STAT_SEG : Field := { off := 0x040, hi := 21, lo := 16, acc := .ro }
def BOOT_STAT_ERR : Field := { off := 0x040, hi := 3, lo := 0, acc := .ro }
def BOOT_IMG_VER_VER : Field := { off := 0x044, hi := 31, lo := 0, acc := .ro }
def BOOT_KEY_ID_ID : Field := { off := 0x048, hi := 31, lo := 0, acc := .ro }
def BOOT_TIME_US_US : Field := { off := 0x04C, hi := 31, lo := 0, acc := .ro }
def BOOT_SENS_ERR_COUNT : Field := { off := 0x050, hi := 31, lo := 0, acc := .ro }
def BOOT_NEXT_NEXT_B : Field := { off := 0x054, hi := 0, lo := 0, acc := .ro }
def BOOT_SEG_DONE_DONE : Field := { off := 0x040, hi := 31, lo := 0, acc := .ro, rep := 2, stride := 0x4 }
/-! R608 -/
def GPIO_CFG_FUNC : Field := { off := 0x100, hi := 31, lo := 28, acc := .rw, rep := 48, stride := 0x4, accept := some (0, 6) }
def GPIO_CFG_FIDX : Field := { off := 0x100, hi := 26, lo := 24, acc := .rw, rep := 48, stride := 0x4 }
def GPIO_CFG_DRIVE : Field := { off := 0x100, hi := 23, lo := 22, acc := .rw, reset := 1, rep := 48, stride := 0x4 }
def GPIO_CFG_PULL : Field := { off := 0x100, hi := 21, lo := 20, acc := .rw, reset := 1, rep := 48, stride := 0x4, accept := some (0, 2) }
def GPIO_CFG_OD : Field := { off := 0x100, hi := 19, lo := 19, acc := .rw, rep := 48, stride := 0x4 }
def GPIO_CFG_SLEW : Field := { off := 0x100, hi := 18, lo := 18, acc := .rw, rep := 48, stride := 0x4 }
def GPIO_CFG_SAFE : Field := { off := 0x100, hi := 17, lo := 16, acc := .rw, rep := 48, stride := 0x4, accept := some (0, 2) }
def GPIO_CFG_OFF : Field := { off := 0x100, hi := 0, lo := 0, acc := .ro, rep := 48, stride := 0x4 }
/-! R609 -/
def GPIO_OUT_OUT : Field := { off := 0x040, hi := 31, lo := 0, acc := .rw, rep := 2, stride := 0x4 }
def GPIO_OE_OE : Field := { off := 0x048, hi := 31, lo := 0, acc := .rw, rep := 2, stride := 0x4 }
def GPIO_IN_IN : Field := { off := 0x050, hi := 31, lo := 0, acc := .ro, rep := 2, stride := 0x4 }
/-! R610 -/
def GPIO_OFF_OFF : Field := { off := 0x040, hi := 31, lo := 0, acc := .ro, rep := 2, stride := 0x4 }
def GPIO_MISMATCH_COUNT : Field := { off := 0x048, hi := 31, lo := 0, acc := .ro }
def ERRN_STAT_STUCK : Field := { off := 0x04C, hi := 31, lo := 31, acc := .ro }
/-! R611 -/
def TS_CFG_WARN_C : Field := { off := 0x040, hi := 15, lo := 8, acc := .rw, reset := 120, clamp := some (60, 125) }
def TS_MAX_TEMP : Field := { off := 0x044, hi := 15, lo := 0, acc := .ro }
def TS_PEAK_TEMP : Field := { off := 0x048, hi := 15, lo := 0, acc := .ro }
def TS_SENS_VALID : Field := { off := 0x100, hi := 31, lo := 31, acc := .ro, rep := 12, stride := 0x4 }
def TS_SENS_TEMP : Field := { off := 0x100, hi := 15, lo := 0, acc := .ro, rep := 12, stride := 0x4 }
/-! R616 -/
def FT_STAT_LOCKED : Field := { off := 0x040, hi := 31, lo := 31, acc := .ro }
def FT_STAT_PIN : Field := { off := 0x040, hi := 30, lo := 30, acc := .ro }
/-- The FT fields of pages 14 and 15, whose function the manual does not describe. -/
def FT_14 : Field := { off := 0x044, hi := 31, lo := 0, acc := .ft, rep := 495, stride := 0x4 }
def FT_15 : Field := { off := 0x040, hi := 31, lo := 0, acc := .ft, rep := 496, stride := 0x4 }
/-! R584 -/
def PLL_LOSS_COUNT : Field := { off := 0x040, hi := 31, lo := 0, acc := .ro, rep := 8, stride := 0x4 }

/-- The fields of page 0. -/
def p0Fields : List Field :=
  [CHIP_ID_PART, CHIP_ID_SILICON, CHIP_ID_METAL, CHIP_CFG_FUSE_ERR,
   CHIP_CFG_FACTORY, CHIP_CFG_HOST_MODE]
/-- The fields of page 1. -/
def p1Fields : List Field :=
  [ACC_ERR_ADDR_OFFSET, ACC_ERR_INFO_VALID, ACC_ERR_INFO_OVERFLOW, ACC_ERR_INFO_REQUESTER,
   ACC_ERR_INFO_WRITE, ACC_ERR_INFO_BYTE_EN, ACC_ERR_INFO_CAUSE, ACC_ERR_COUNT_COUNT]
/-- The fields of page 2. -/
def p2Fields : List Field :=
  [PM_CTRL_SLEEP_GO, PM_CTRL_REPLAN, PM_CTRL_SLEEP_TO_MS, PM_STAT_STATE,
   PM_STAT_LAST_REFUSED, PM_WAKE_WAKE_N_EN, PM_WAKE_TIMER_EN, PM_WAKE_TIMER_MS,
   PM_WAKE_CAUSE_TIMER, PM_WAKE_CAUSE_WAKE_N, PM_REPLAN_LO_BA, PM_REPLAN_HI_BA,
   PM_WAKESEQ_LO_BA, PM_WAKESEQ_HI_BA, PM_WAKESEQ_LEN_ENTRIES, AVS_CTRL_EN,
   AVS_CTRL_MARGIN_MV, AVS_STAT_VACK_MV, AVS_STAT_VTARGET_MV, SUP_STAT_IN_WINDOW]
/-- The fields of page 3. -/
def p3Fields : List Field :=
  [PD_CTRL_REQ, PD_CTRL_ACK, PD_CTRL_PLAN, PD_CTRL_SYSTEM,
   PD_CTRL_DRAINING]
/-- The fields of page 4. -/
def p4Fields : List Field :=
  [PD_ACK_MAP_ACK, PD_DROP_MAP_DROP, PD_SWITCHES_COUNT]
/-- The fields of page 5. -/
def p5Fields : List Field :=
  [CLK_STAT_REF_OK, CLK_STAT_PCIE_REF_OK, CLK_STAT_ON_INTERNAL, CLK_STAT_LOCKED,
   CLK_REF_PPB_PPB, CLK_CFG_REF_LIMIT_PPM]
/-- The fields of page 7. -/
def p7Fields : List Field :=
  [RST_CAUSE_SEQ_ERR, RST_CAUSE_SOFTWARE, RST_CAUSE_BREAKWATER, RST_CAUSE_WATCHDOG,
   RST_CAUSE_PIN, RST_CAUSE_UV, RST_CAUSE_POR, RST_LAST_LP,
   RST_LAST_CAUSE, RST_UV_RAIL_RAIL, RST_COUNT_COUNT, RST_SW_ARM,
   RST_SW_GO]
/-- The fields of page 8. -/
def p8Fields : List Field :=
  [BOOT_STAT_STATE, BOOT_STAT_SLOT, BOOT_STAT_HMODE, BOOT_STAT_SEG,
   BOOT_STAT_ERR, BOOT_IMG_VER_VER, BOOT_KEY_ID_ID, BOOT_TIME_US_US,
   BOOT_SENS_ERR_COUNT, BOOT_NEXT_NEXT_B]
/-- The fields of page 9. -/
def p9Fields : List Field :=
  [BOOT_SEG_DONE_DONE]
/-- The fields of page 10. -/
def p10Fields : List Field :=
  [GPIO_CFG_FUNC, GPIO_CFG_FIDX, GPIO_CFG_DRIVE, GPIO_CFG_PULL,
   GPIO_CFG_OD, GPIO_CFG_SLEW, GPIO_CFG_SAFE, GPIO_CFG_OFF]
/-- The fields of page 11. -/
def p11Fields : List Field :=
  [GPIO_OUT_OUT, GPIO_OE_OE, GPIO_IN_IN]
/-- The fields of page 12. -/
def p12Fields : List Field :=
  [GPIO_OFF_OFF, GPIO_MISMATCH_COUNT, ERRN_STAT_STUCK]
/-- The fields of page 13. -/
def p13Fields : List Field :=
  [TS_CFG_WARN_C, TS_MAX_TEMP, TS_PEAK_TEMP, TS_SENS_VALID,
   TS_SENS_TEMP]
/-- The fields of page 14. -/
def p14Fields : List Field :=
  [FT_STAT_LOCKED, FT_STAT_PIN, FT_14]
/-- The fields of page 15. -/
def p15Fields : List Field :=
  [FT_15]
/-- The fields of page 6. -/
def p6Fields : List Field :=
  [PLL_LOSS_COUNT]

end Sys2Proof.Machine.Chip

namespace Sys2Proof.Machine.Tidemark

/-! R214 -/
def SYNC_FAM_MID_MID_OFFSET : Field := { off := 0x040, hi := 26, lo := 0, acc := .rws, rep := 4, stride := 0x10 }
def SYNC_FAM_HOR_HORIZON : Field := { off := 0x044, hi := 26, lo := 0, acc := .rws, reset := 10000, rep := 4, stride := 0x10, clamp := some (10000, 100000000) }
def SYNC_SKIP_MAP_LO_PORT : Field := { off := 0x080, hi := 31, lo := 0, acc := .w1c }
def SYNC_SKIP_MAP_HI_PORT : Field := { off := 0x084, hi := 7, lo := 0, acc := .w1c }
def SYNC_SLIP_MAP_LO_PORT : Field := { off := 0x088, hi := 31, lo := 0, acc := .w1c }
def SYNC_SLIP_MAP_HI_PORT : Field := { off := 0x08C, hi := 7, lo := 0, acc := .w1c }
def SYNC_LIMITS_SKIP_LIMIT : Field := { off := 0x090, hi := 7, lo := 0, acc := .rw, reset := 4, clamp := some (1, 255) }
/-! R420 -/
def TM_CNT_C : Field := { off := 0x040, hi := 31, lo := 0, acc := .ro, rep := 3, stride := 0x4 }
def TM_TIME_P : Field := { off := 0x04C, hi := 31, lo := 0, acc := .ro, rep := 3, stride := 0x4 }
def TM_DA_D_A : Field := { off := 0x058, hi := 31, lo := 0, acc := .ro, rep := 3, stride := 0x4 }
def TM_DB_D_B : Field := { off := 0x064, hi := 31, lo := 0, acc := .ro, rep := 3, stride := 0x4 }
def TM_SEL_MODE : Field := { off := 0x080, hi := 31, lo := 30, acc := .rw, reset := 2 }
def TM_SEL_ACTIVE : Field := { off := 0x080, hi := 29, lo := 29, acc := .ro }
def TM_SEL_ADOPTED : Field := { off := 0x080, hi := 28, lo := 28, acc := .ro }
def TM_SEL_SLEW_PPM : Field := { off := 0x080, hi := 23, lo := 16, acc := .rw, reset := 100, clamp := some (1, 100) }
def TM_SEL_FAILOVER_MS : Field := { off := 0x080, hi := 15, lo := 0, acc := .rw, reset := 500, clamp := some (1, 65535) }
def TM_REVERT_REVERT_S : Field := { off := 0x084, hi := 15, lo := 0, acc := .rw, reset := 10, clamp := some (1, 65535) }
def TM_PRESET_LO_PRESET : Field := { off := 0x088, hi := 31, lo := 0, acc := .rw }
def TM_PRESET_HI_PRESET : Field := { off := 0x08C, hi := 31, lo := 0, acc := .rw }
def TM_RESID_RES : Field := { off := 0x090, hi := 31, lo := 0, acc := .ro, rep := 3, stride := 0x4 }
def TM_CNT_SW_SWITCHES : Field := { off := 0x09C, hi := 31, lo := 16, acc := .ro }
def TM_CNT_SW_STEPS : Field := { off := 0x09C, hi := 15, lo := 0, acc := .ro }
/-! R421 -/
def DOM_CFG_EN : Field := { off := 0x100, hi := 31, lo := 31, acc := .rw, rep := 2, stride := 0x80 }
def DOM_CFG_OWNER : Field := { off := 0x100, hi := 30, lo := 30, acc := .rw, rep := 2, stride := 0x80 }
def DOM_CFG_NUMBER : Field := { off := 0x100, hi := 6, lo := 0, acc := .rw, rep := 2, stride := 0x80 }
def DOM_STAT_STATE : Field := { off := 0x104, hi := 31, lo := 29, acc := .ro, rep := 2, stride := 0x80 }
def DOM_STAT_STEPS : Field := { off := 0x104, hi := 15, lo := 0, acc := .ro, rep := 2, stride := 0x80 }
def OFF_OFFSET : Field := { off := 0x108, hi := 31, lo := 0, acc := .rw, rep := 2, stride := 0x80, rep2 := 3, stride2 := 0x4 }
def RATE_RATE : Field := { off := 0x114, hi := 31, lo := 0, acc := .rw, rep := 2, stride := 0x80 }
def INTEG_I : Field := { off := 0x118, hi := 31, lo := 0, acc := .ro, rep := 2, stride := 0x80 }
def SRV_KP_KP : Field := { off := 0x11C, hi := 23, lo := 0, acc := .rw, reset := 0x112E00, rep := 2, stride := 0x80 }
def SRV_KI_KI : Field := { off := 0x120, hi := 23, lo := 0, acc := .rw, reset := 0x1B800, rep := 2, stride := 0x80 }
def SRV_LOCK_UNLOCK_NS : Field := { off := 0x124, hi := 31, lo := 16, acc := .rw, reset := 1000, rep := 2, stride := 0x80 }
def SRV_LOCK_LOCK_NS : Field := { off := 0x124, hi := 15, lo := 0, acc := .rw, reset := 100, rep := 2, stride := 0x80 }
def SRV_STEP_STEP_NS : Field := { off := 0x128, hi := 31, lo := 0, acc := .rw, reset := 1000000, rep := 2, stride := 0x80 }
def SRV_TIMING_LOCK_COUNT : Field := { off := 0x12C, hi := 31, lo := 24, acc := .rw, reset := 8, rep := 2, stride := 0x80, clamp := some (1, 255) }
def SRV_TIMING_SAMPLE_TO_MS : Field := { off := 0x12C, hi := 15, lo := 0, acc := .rw, reset := 375, rep := 2, stride := 0x80, clamp := some (10, 65535) }
def SMP_CNT_C_S : Field := { off := 0x130, hi := 31, lo := 0, acc := .rw, rep := 2, stride := 0x80, rep2 := 3, stride2 := 0x4 }
def SMP_MST_M : Field := { off := 0x13C, hi := 31, lo := 0, acc := .rw, rep := 2, stride := 0x80, rep2 := 3, stride2 := 0x4 }
def SMP_CTL_GO : Field := { off := 0x148, hi := 31, lo := 31, acc := .w1s, rep := 2, stride := 0x80 }
def SMP_ERR_E : Field := { off := 0x14C, hi := 31, lo := 0, acc := .ro, rep := 2, stride := 0x80 }
def SMP_COUNT_COUNT : Field := { off := 0x150, hi := 31, lo := 0, acc := .ro, rep := 2, stride := 0x80 }
/-! R422 -/
def FAM_TIDE_TIDE : Field := { off := 0x040, hi := 31, lo := 0, acc := .ro, rep := 4, stride := 0x4 }
def SPRING_COUNT_COUNT : Field := { off := 0x050, hi := 31, lo := 0, acc := .ro }
def FAM_PHASE_IN_SLACK : Field := { off := 0x054, hi := 31, lo := 31, acc := .ro, rep := 4, stride := 0x4 }
def FAM_PHASE_ACTIVE : Field := { off := 0x054, hi := 30, lo := 30, acc := .ro, rep := 4, stride := 0x4 }
def FAM_N_N : Field := { off := 0x070, hi := 8, lo := 0, acc := .plan, rep := 4, stride := 0x8 }
def FAM_SLACK_NS : Field := { off := 0x074, hi := 31, lo := 0, acc := .plan, rep := 4, stride := 0x8 }
def SPRING_PERIOD_NS : Field := { off := 0x090, hi := 31, lo := 0, acc := .plan }
def SPRING_PHASE_NS : Field := { off := 0x094, hi := 31, lo := 0, acc := .plan }
def PLAN_STATE_STATE : Field := { off := 0x098, hi := 3, lo := 0, acc := .ro }
def PLAN_LIVE_ID_ID : Field := { off := 0x09C, hi := 31, lo := 0, acc := .ro }
def PLAN_REFUSE_INDEX : Field := { off := 0x0A0, hi := 31, lo := 16, acc := .ro }
def PLAN_REFUSE_CODE : Field := { off := 0x0A0, hi := 15, lo := 0, acc := .ro }
def PLAN_DEMAND_VALUE : Field := { off := 0x0A4, hi := 31, lo := 0, acc := .ro }
def PLAN_CAPACITY_VALUE : Field := { off := 0x0A8, hi := 31, lo := 0, acc := .ro }
/-! R41 -/
def GRP_CTRL_ARM : Field := { off := 0x040, hi := 31, lo := 31, acc := .w1s, rep := 64, stride := 0x10 }
def GRP_CTRL_DISARM : Field := { off := 0x040, hi := 30, lo := 30, acc := .w1s, rep := 64, stride := 0x10 }
def GRP_CTRL_AT_TIDE : Field := { off := 0x040, hi := 29, lo := 29, acc := .rw, rep := 64, stride := 0x10 }
def GRP_CTRL_FAMILY : Field := { off := 0x040, hi := 2, lo := 0, acc := .rw, rep := 64, stride := 0x10, accept := some (0, 4) }
def GRP_TARGET_TARGET : Field := { off := 0x044, hi := 31, lo := 0, acc := .rw, rep := 64, stride := 0x10 }
def GRP_STAT_PENDING : Field := { off := 0x048, hi := 31, lo := 31, acc := .ro, rep := 64, stride := 0x10 }
def GRP_STAT_CAPTURED : Field := { off := 0x048, hi := 30, lo := 30, acc := .ro, rep := 64, stride := 0x10 }
def GRP_STAT_DONE : Field := { off := 0x048, hi := 29, lo := 29, acc := .w1c, rep := 64, stride := 0x10 }
def GRP_STAT_LATE : Field := { off := 0x048, hi := 28, lo := 28, acc := .w1c, rep := 64, stride := 0x10 }
def GRP_STAT_NOFAMILY : Field := { off := 0x048, hi := 27, lo := 27, acc := .w1c, rep := 64, stride := 0x10 }
def GRP_STAT_PAGE_LOST : Field := { off := 0x048, hi := 26, lo := 26, acc := .w1c, rep := 64, stride := 0x10 }
def GRP_STAT_PAGE_COUNT : Field := { off := 0x048, hi := 13, lo := 0, acc := .ro, rep := 64, stride := 0x10 }
def GRP_TIDE_TIDE : Field := { off := 0x04C, hi := 31, lo := 0, acc := .ro, rep := 64, stride := 0x10 }

/-- The fields of page 3. -/
def p3Fields : List Field :=
  [SYNC_FAM_MID_MID_OFFSET, SYNC_FAM_HOR_HORIZON, SYNC_SKIP_MAP_LO_PORT, SYNC_SKIP_MAP_HI_PORT,
   SYNC_SLIP_MAP_LO_PORT, SYNC_SLIP_MAP_HI_PORT, SYNC_LIMITS_SKIP_LIMIT]
/-- The fields of page 0. -/
def p0Fields : List Field :=
  [TM_CNT_C, TM_TIME_P, TM_DA_D_A, TM_DB_D_B,
   TM_SEL_MODE, TM_SEL_ACTIVE, TM_SEL_ADOPTED, TM_SEL_SLEW_PPM,
   TM_SEL_FAILOVER_MS, TM_REVERT_REVERT_S, TM_PRESET_LO_PRESET, TM_PRESET_HI_PRESET,
   TM_RESID_RES, TM_CNT_SW_SWITCHES, TM_CNT_SW_STEPS, DOM_CFG_EN,
   DOM_CFG_OWNER, DOM_CFG_NUMBER, DOM_STAT_STATE, DOM_STAT_STEPS,
   OFF_OFFSET, RATE_RATE, INTEG_I, SRV_KP_KP] ++
  [SRV_KI_KI, SRV_LOCK_UNLOCK_NS, SRV_LOCK_LOCK_NS, SRV_STEP_STEP_NS,
   SRV_TIMING_LOCK_COUNT, SRV_TIMING_SAMPLE_TO_MS, SMP_CNT_C_S, SMP_MST_M,
   SMP_CTL_GO, SMP_ERR_E, SMP_COUNT_COUNT]
/-- The fields of page 1. -/
def p1Fields : List Field :=
  [FAM_TIDE_TIDE, SPRING_COUNT_COUNT, FAM_PHASE_IN_SLACK, FAM_PHASE_ACTIVE,
   FAM_N_N, FAM_SLACK_NS, SPRING_PERIOD_NS, SPRING_PHASE_NS,
   PLAN_STATE_STATE, PLAN_LIVE_ID_ID, PLAN_REFUSE_INDEX, PLAN_REFUSE_CODE,
   PLAN_DEMAND_VALUE, PLAN_CAPACITY_VALUE]
/-- The fields of page 2. -/
def p2Fields : List Field :=
  [GRP_CTRL_ARM, GRP_CTRL_DISARM, GRP_CTRL_AT_TIDE, GRP_CTRL_FAMILY,
   GRP_TARGET_TARGET, GRP_STAT_PENDING, GRP_STAT_CAPTURED, GRP_STAT_DONE,
   GRP_STAT_LATE, GRP_STAT_NOFAMILY, GRP_STAT_PAGE_LOST, GRP_STAT_PAGE_COUNT,
   GRP_TIDE_TIDE]

end Sys2Proof.Machine.Tidemark

namespace Sys2Proof.Machine.Breakwater

/-! R497 -/
def BW_CTRL_LOCK : Field := { off := 0x040, hi := 31, lo := 31, acc := .w1s }
def BW_CTRL_TOG_EN : Field := { off := 0x040, hi := 30, lo := 30, acc := .rw }
def BW_CFG_TRAP_MASK : Field := { off := 0x044, hi := 27, lo := 24, acc := .rw, reset := 0b0101 }
def BW_CFG_ESC_CAP : Field := { off := 0x044, hi := 18, lo := 16, acc := .rw, reset := 5, clamp := some (2, 6) }
def BW_CFG_TOG_HALF_US : Field := { off := 0x044, hi := 15, lo := 0, acc := .rw, reset := 50, clamp := some (1, 1000) }
def BW_ERR_ERR_MIN_US : Field := { off := 0x048, hi := 15, lo := 0, acc := .rw, reset := 10, clamp := some (1, 65535) }
def BW_STAT_TERMINAL : Field := { off := 0x04C, hi := 31, lo := 31, acc := .ro }
def BW_STAT_ERR_DRIVEN : Field := { off := 0x04C, hi := 30, lo := 30, acc := .ro }
def BW_STAT_ERR_BALL : Field := { off := 0x04C, hi := 29, lo := 29, acc := .ro, reset := 1 }
def BW_STAT_TOG_RUNNING : Field := { off := 0x04C, hi := 28, lo := 28, acc := .ro }
def BW_STAT_QUIET : Field := { off := 0x04C, hi := 6, lo := 0, acc := .ro }
def BW_CNT0_SEV2 : Field := { off := 0x050, hi := 31, lo := 16, acc := .ro }
def BW_CNT0_SEV1 : Field := { off := 0x050, hi := 15, lo := 0, acc := .ro }
def BW_CNT1_SEV4 : Field := { off := 0x054, hi := 31, lo := 16, acc := .ro }
def BW_CNT1_SEV3 : Field := { off := 0x054, hi := 15, lo := 0, acc := .ro }
def BW_CNT2_SEV6 : Field := { off := 0x058, hi := 31, lo := 16, acc := .ro }
def BW_CNT2_SEV5 : Field := { off := 0x058, hi := 15, lo := 0, acc := .ro }
def BW_CNT3_ESCALATED : Field := { off := 0x05C, hi := 31, lo := 16, acc := .ro }
def BW_CNT3_CONSEQ : Field := { off := 0x05C, hi := 15, lo := 0, acc := .ro }
def BW_FIRST_INFO_VALID : Field := { off := 0x060, hi := 31, lo := 31, acc := .w1c }
def BW_FIRST_TIME_LO_TIME : Field := { off := 0x064, hi := 31, lo := 0, acc := .ro }
def BW_FIRST_TIME_HI_TIME : Field := { off := 0x068, hi := 31, lo := 0, acc := .ro }
def BW_RESET_SRC_VALID : Field := { off := 0x070, hi := 31, lo := 31, acc := .w1c }
def BW_RESET_SRC_SEV : Field := { off := 0x070, hi := 27, lo := 25, acc := .ro }
def BW_RESET_SRC_SOURCE : Field := { off := 0x070, hi := 10, lo := 0, acc := .ro }
def BW_TERM_SRC_VALID : Field := { off := 0x074, hi := 31, lo := 31, acc := .ro }
def BW_TERM_SRC_SOURCE : Field := { off := 0x074, hi := 10, lo := 0, acc := .ro }
def BW_TERM_TIME_LO_TIME : Field := { off := 0x078, hi := 31, lo := 0, acc := .ro }
def BW_TERM_TIME_HI_TIME : Field := { off := 0x07C, hi := 31, lo := 0, acc := .ro }
/-! R498 -/
def SRC_CFG_ERR : Field := { off := 0x100, hi := 31, lo := 31, acc := .rw, rep := 384, stride := 0x4 }
def SRC_CFG_SEAWALL : Field := { off := 0x100, hi := 30, lo := 30, acc := .rw, rep := 384, stride := 0x4 }
def SRC_CFG_HOST : Field := { off := 0x100, hi := 29, lo := 29, acc := .rw, rep := 384, stride := 0x4 }
def SRC_CFG_CLASS : Field := { off := 0x100, hi := 21, lo := 16, acc := .rw, rep := 384, stride := 0x4 }
def SRC_CFG_REACT : Field := { off := 0x100, hi := 10, lo := 8, acc := .rw, rep := 384, stride := 0x4, accept := some (0, 6) }
def SRC_CFG_SEV : Field := { off := 0x100, hi := 2, lo := 0, acc := .rw, rep := 384, stride := 0x4, accept := some (1, 6) }
/-! R499 -/
def BW_UNACK_SRC : Field := { off := 0x100, hi := 31, lo := 0, acc := .ro, rep := 48, stride := 0x4 }
def BW_PRESENT_SRC : Field := { off := 0x200, hi := 31, lo := 0, acc := .ro, rep := 48, stride := 0x4 }
/-! R500 -/
def BW_LOG_WR_COUNT : Field := { off := 0x040, hi := 31, lo := 0, acc := .ro }
def LOG_INFO_VALID : Field := { off := 0x100, hi := 31, lo := 31, acc := .ro, rep := 64, stride := 0x10 }
def LOG_INFO_CONSEQ : Field := { off := 0x100, hi := 30, lo := 30, acc := .ro, rep := 64, stride := 0x10 }
def LOG_INFO_ESC : Field := { off := 0x100, hi := 29, lo := 29, acc := .ro, rep := 64, stride := 0x10 }
def LOG_INFO_RECUR : Field := { off := 0x100, hi := 28, lo := 28, acc := .ro, rep := 64, stride := 0x10 }
def LOG_INFO_SEV : Field := { off := 0x100, hi := 27, lo := 25, acc := .ro, rep := 64, stride := 0x10 }
def LOG_INFO_REACT : Field := { off := 0x100, hi := 24, lo := 22, acc := .ro, rep := 64, stride := 0x10 }
def LOG_INFO_CLASS : Field := { off := 0x100, hi := 21, lo := 16, acc := .ro, rep := 64, stride := 0x10 }
def LOG_INFO_SOURCE : Field := { off := 0x100, hi := 10, lo := 0, acc := .ro, rep := 64, stride := 0x10 }
def LOG_TIME_LO_TIME : Field := { off := 0x104, hi := 31, lo := 0, acc := .ro, rep := 64, stride := 0x10 }
def LOG_TIME_HI_TIME : Field := { off := 0x108, hi := 31, lo := 0, acc := .ro, rep := 64, stride := 0x10 }
def LOG_TIDE_TIDE : Field := { off := 0x10C, hi := 31, lo := 0, acc := .ro, rep := 64, stride := 0x10 }
/-! R501 -/
def BW_INJ_GO : Field := { off := 0x040, hi := 31, lo := 31, acc := .ft }
def BW_INJ_SOURCE : Field := { off := 0x040, hi := 10, lo := 0, acc := .ft }
/-! R497 -/
def BW_FIRST_INFO_CONSEQ : Field := { off := 0x060, hi := 30, lo := 30, acc := .ro }
def BW_FIRST_INFO_ESC : Field := { off := 0x060, hi := 29, lo := 29, acc := .ro }
def BW_FIRST_INFO_RECUR : Field := { off := 0x060, hi := 28, lo := 28, acc := .ro }
def BW_FIRST_INFO_SEV : Field := { off := 0x060, hi := 27, lo := 25, acc := .ro }
def BW_FIRST_INFO_REACT : Field := { off := 0x060, hi := 24, lo := 22, acc := .ro }
def BW_FIRST_INFO_CLASS : Field := { off := 0x060, hi := 21, lo := 16, acc := .ro }
def BW_FIRST_INFO_SOURCE : Field := { off := 0x060, hi := 10, lo := 0, acc := .ro }

/-- The fields of page 0. -/
def p0Fields : List Field :=
  [BW_CTRL_LOCK, BW_CTRL_TOG_EN, BW_CFG_TRAP_MASK, BW_CFG_ESC_CAP,
   BW_CFG_TOG_HALF_US, BW_ERR_ERR_MIN_US, BW_STAT_TERMINAL, BW_STAT_ERR_DRIVEN,
   BW_STAT_ERR_BALL, BW_STAT_TOG_RUNNING, BW_STAT_QUIET, BW_CNT0_SEV2,
   BW_CNT0_SEV1, BW_CNT1_SEV4, BW_CNT1_SEV3, BW_CNT2_SEV6,
   BW_CNT2_SEV5, BW_CNT3_ESCALATED, BW_CNT3_CONSEQ, BW_FIRST_INFO_VALID,
   BW_FIRST_TIME_LO_TIME, BW_FIRST_TIME_HI_TIME, BW_RESET_SRC_VALID, BW_RESET_SRC_SEV] ++
  [BW_RESET_SRC_SOURCE, BW_TERM_SRC_VALID, BW_TERM_SRC_SOURCE, BW_TERM_TIME_LO_TIME,
   BW_TERM_TIME_HI_TIME, BW_FIRST_INFO_CONSEQ, BW_FIRST_INFO_ESC, BW_FIRST_INFO_RECUR,
   BW_FIRST_INFO_SEV, BW_FIRST_INFO_REACT, BW_FIRST_INFO_CLASS, BW_FIRST_INFO_SOURCE]
/-- The fields of page cfg. -/
def pcfgFields : List Field :=
  [SRC_CFG_ERR, SRC_CFG_SEAWALL, SRC_CFG_HOST, SRC_CFG_CLASS,
   SRC_CFG_REACT, SRC_CFG_SEV]
/-- The fields of page 5. -/
def p5Fields : List Field :=
  [BW_UNACK_SRC, BW_PRESENT_SRC]
/-- The fields of page 6. -/
def p6Fields : List Field :=
  [BW_LOG_WR_COUNT, LOG_INFO_VALID, LOG_INFO_CONSEQ, LOG_INFO_ESC,
   LOG_INFO_RECUR, LOG_INFO_SEV, LOG_INFO_REACT, LOG_INFO_CLASS,
   LOG_INFO_SOURCE, LOG_TIME_LO_TIME, LOG_TIME_HI_TIME, LOG_TIDE_TIDE]
/-- The fields of page 7. -/
def p7Fields : List Field :=
  [BW_INJ_GO, BW_INJ_SOURCE]

end Sys2Proof.Machine.Breakwater

namespace Sys2Proof.Machine.Beacon

/-! R523 -/
def BCN_CFG_STARVE_US : Field := { off := 0x040, hi := 31, lo := 16, acc := .rw, reset := 1000, clamp := some (1, 65535) }
def BCN_CFG_SERVICE_US : Field := { off := 0x040, hi := 15, lo := 0, acc := .rw, reset := 100, clamp := some (1, 65535) }
def BCN_STAT_POINTER : Field := { off := 0x044, hi := 1, lo := 0, acc := .ro }
def BCN_FIRINGS_COUNT : Field := { off := 0x048, hi := 31, lo := 0, acc := .ro }
def BCN_MERGED_COUNT : Field := { off := 0x04C, hi := 31, lo := 0, acc := .ro }
def BCN_WITHDRAWN_COUNT : Field := { off := 0x050, hi := 31, lo := 0, acc := .ro }
def LP_CTL_EN : Field := { off := 0x100, hi := 31, lo := 31, acc := .rw, rep := 4, stride := 0x20 }
def LP_VBASE_BASE : Field := { off := 0x104, hi := 31, lo := 12, acc := .rw, rep := 4, stride := 0x20 }
def LP_STAT_FAST_BUSY : Field := { off := 0x108, hi := 31, lo := 31, acc := .ro, rep := 4, stride := 0x20 }
def LP_STAT_RUN_PRIO : Field := { off := 0x108, hi := 27, lo := 24, acc := .ro, rep := 4, stride := 0x20 }
def LP_STAT_DEPTH : Field := { off := 0x108, hi := 23, lo := 20, acc := .ro, rep := 4, stride := 0x20 }
def LP_STAT_VALID : Field := { off := 0x108, hi := 9, lo := 9, acc := .ro, rep := 4, stride := 0x20 }
def LP_STAT_SOURCE : Field := { off := 0x108, hi := 8, lo := 0, acc := .ro, rep := 4, stride := 0x20 }
def LP_EOI_SOURCE : Field := { off := 0x10C, hi := 8, lo := 0, acc := .wo, rep := 4, stride := 0x20 }
def LP_TAKEN_COUNT : Field := { off := 0x110, hi := 31, lo := 0, acc := .ro, rep := 4, stride := 0x20 }
def LP_LAT_MAX_CYCLES : Field := { off := 0x114, hi := 31, lo := 0, acc := .ro, rep := 4, stride := 0x20 }
/-! R525 -/
def SRC_CFG_PRIO : Field := { off := 0x100, hi := 31, lo := 28, acc := .rw, rep := 256, stride := 0x4 }
def SRC_CFG_FAST : Field := { off := 0x100, hi := 27, lo := 27, acc := .rw, rep := 256, stride := 0x4 }
def SRC_CFG_LEVEL : Field := { off := 0x100, hi := 26, lo := 26, acc := .ro, rep := 256, stride := 0x4 }
def SRC_CFG_TARGET : Field := { off := 0x100, hi := 25, lo := 22, acc := .rw, rep := 256, stride := 0x4 }
def SRC_CFG_WAKE : Field := { off := 0x100, hi := 21, lo := 21, acc := .rw, rep := 256, stride := 0x4 }
def SRC_CFG_KIND : Field := { off := 0x100, hi := 15, lo := 14, acc := .rw, rep := 256, stride := 0x4 }
def SRC_CFG_INPUT : Field := { off := 0x100, hi := 13, lo := 0, acc := .rw, rep := 256, stride := 0x4 }
/-! R526 -/
def PEND_SRC : Field := { off := 0x100, hi := 31, lo := 0, acc := .ro, rep := 16, stride := 0x4 }
def ACTIVE_SRC : Field := { off := 0x140, hi := 31, lo := 0, acc := .ro, rep := 16, stride := 0x4 }
def SET_SRC : Field := { off := 0x180, hi := 31, lo := 0, acc := .w1s, rep := 16, stride := 0x4 }
def CLR_SRC : Field := { off := 0x1C0, hi := 31, lo := 0, acc := .w1s, rep := 16, stride := 0x4 }

/-- The fields of page 0. -/
def p0Fields : List Field :=
  [BCN_CFG_STARVE_US, BCN_CFG_SERVICE_US, BCN_STAT_POINTER, BCN_FIRINGS_COUNT,
   BCN_MERGED_COUNT, BCN_WITHDRAWN_COUNT, LP_CTL_EN, LP_VBASE_BASE,
   LP_STAT_FAST_BUSY, LP_STAT_RUN_PRIO, LP_STAT_DEPTH, LP_STAT_VALID,
   LP_STAT_SOURCE, LP_EOI_SOURCE, LP_TAKEN_COUNT, LP_LAT_MAX_CYCLES]
/-- The fields of page cfg. -/
def pcfgFields : List Field :=
  [SRC_CFG_PRIO, SRC_CFG_FAST, SRC_CFG_LEVEL, SRC_CFG_TARGET,
   SRC_CFG_WAKE, SRC_CFG_KIND, SRC_CFG_INPUT]
/-- The fields of page 3. -/
def p3Fields : List Field :=
  [PEND_SRC, ACTIVE_SRC, SET_SRC, CLR_SRC]

end Sys2Proof.Machine.Beacon

namespace Sys2Proof.Machine.Seawall

/-! R473 -/
def SW_CFG_REVERT_EN : Field := { off := 0x040, hi := 31, lo := 31, acc := .rw, reset := 1 }
def SW_CFG_PREFER : Field := { off := 0x040, hi := 30, lo := 30, acc := .rw }
def SW_CFG_CAUSE_EN : Field := { off := 0x040, hi := 5, lo := 0, acc := .rw, reset := 0x3F }
def SW_STAT_STATE_H1 : Field := { off := 0x044, hi := 30, lo := 28, acc := .ro, reset := 2 }
def SW_STAT_STATE_H0 : Field := { off := 0x044, hi := 26, lo := 24, acc := .ro, reset := 1 }
def SW_STAT_ACTING : Field := { off := 0x044, hi := 21, lo := 20, acc := .ro, reset := 0b01 }
def SW_STAT_DEGRADED : Field := { off := 0x044, hi := 19, lo := 18, acc := .ro }
def SW_STAT_HEALTHY : Field := { off := 0x044, hi := 17, lo := 16, acc := .ro }
def SW_STAT_DUAL : Field := { off := 0x044, hi := 15, lo := 15, acc := .ro }
def SW_STAT_RECOVER_COUNT : Field := { off := 0x044, hi := 6, lo := 0, acc := .ro }
def SW_CMD_REPAIR0 : Field := { off := 0x048, hi := 31, lo := 31, acc := .w1s }
def SW_CMD_REPAIR1 : Field := { off := 0x048, hi := 30, lo := 30, acc := .w1s }
def SW_CMD_SWITCH : Field := { off := 0x048, hi := 29, lo := 29, acc := .w1s }
def SW_HB0_WIRE_OK : Field := { off := 0x04C, hi := 31, lo := 31, acc := .ro, reset := 1 }
def SW_HB0_MBX_OK : Field := { off := 0x04C, hi := 30, lo := 30, acc := .ro, reset := 1 }
def SW_HB0_AGE_NS : Field := { off := 0x04C, hi := 15, lo := 0, acc := .ro }
def SW_HB_CNT0_MBX_LOSSES : Field := { off := 0x054, hi := 31, lo := 16, acc := .ro }
def SW_HB_CNT0_WIRE_LOSSES : Field := { off := 0x054, hi := 15, lo := 0, acc := .ro }
def SW_LAST_CAUSE : Field := { off := 0x060, hi := 31, lo := 28, acc := .ro }
def SW_LAST_FROM : Field := { off := 0x060, hi := 27, lo := 27, acc := .ro }
def SW_LAST_TO : Field := { off := 0x060, hi := 26, lo := 26, acc := .ro }
def SW_LAST_DUAL : Field := { off := 0x060, hi := 25, lo := 25, acc := .ro }
def SW_LAST_TIME_LO_TIME : Field := { off := 0x064, hi := 31, lo := 0, acc := .ro }
def SW_LAST_TIME_HI_TIME : Field := { off := 0x068, hi := 31, lo := 0, acc := .ro }
def SW_LAST_WIN_NS : Field := { off := 0x06C, hi := 15, lo := 0, acc := .ro }
def SW_COUNT_FAILOVERS : Field := { off := 0x070, hi := 31, lo := 16, acc := .ro }
def SW_COUNT_RETURNS : Field := { off := 0x070, hi := 15, lo := 0, acc := .ro }
/-! R474 -/
def SW_RPT_HEALTHY : Field := { off := 0x040, hi := 31, lo := 31, acc := .ro, rep := 2, stride := 0x20 }
def SW_RPT_HB_OK : Field := { off := 0x040, hi := 30, lo := 30, acc := .ro, rep := 2, stride := 0x20 }
def SW_RPT_CHECK_OK : Field := { off := 0x040, hi := 29, lo := 29, acc := .ro, rep := 2, stride := 0x20 }
def SW_RPT_BIST_OK : Field := { off := 0x040, hi := 28, lo := 28, acc := .ro, rep := 2, stride := 0x20 }
def SW_RPT_MBIST_OK : Field := { off := 0x040, hi := 27, lo := 27, acc := .ro, rep := 2, stride := 0x20 }
def SW_RPT_FAULT_OK : Field := { off := 0x040, hi := 26, lo := 26, acc := .ro, rep := 2, stride := 0x20 }
def SW_RPT_PARTS_OK : Field := { off := 0x040, hi := 25, lo := 25, acc := .ro, rep := 2, stride := 0x20 }
def SW_RPT_MATCH_OK : Field := { off := 0x040, hi := 24, lo := 24, acc := .ro, rep := 2, stride := 0x20 }
def SW_RPT_TIDE_TIDE : Field := { off := 0x044, hi := 31, lo := 0, acc := .ro, rep := 2, stride := 0x20 }
def SW_BIST_RUN_COUNT : Field := { off := 0x048, hi := 31, lo := 0, acc := .ro, rep := 2, stride := 0x20 }
def SW_BIST_POS_ISLAND : Field := { off := 0x04C, hi := 11, lo := 8, acc := .ro, rep := 2, stride := 0x20 }
def SW_BIST_POS_SLICE : Field := { off := 0x04C, hi := 5, lo := 0, acc := .ro, rep := 2, stride := 0x20 }
def SW_MBIST_RUN_COUNT : Field := { off := 0x050, hi := 31, lo := 0, acc := .ro, rep := 2, stride := 0x20 }
def SW_MBIST_CORR_COUNT : Field := { off := 0x054, hi := 31, lo := 0, acc := .ro, rep := 2, stride := 0x20 }
def SW_PASSES_BIST : Field := { off := 0x058, hi := 31, lo := 16, acc := .ro, rep := 2, stride := 0x20 }
def SW_PASSES_MBIST : Field := { off := 0x058, hi := 15, lo := 0, acc := .ro, rep := 2, stride := 0x20 }
def SW_SLOT_VALID : Field := { off := 0x100, hi := 31, lo := 31, acc := .ro, rep := 8, stride := 0x20 }
def SW_SLOT_STREAM : Field := { off := 0x100, hi := 9, lo := 0, acc := .ro, reset := 0x3FF, rep := 8, stride := 0x20 }
def SW_SPLIT_VALID : Field := { off := 0x104, hi := 31, lo := 31, acc := .ro, rep := 8, stride := 0x20, rep2 := 4, stride2 := 0x4 }
def SW_SPLIT_ROW : Field := { off := 0x104, hi := 15, lo := 0, acc := .ro, rep := 8, stride := 0x20, rep2 := 4, stride2 := 0x4 }
def SW_SPLIT_SEQ_SEQ : Field := { off := 0x114, hi := 31, lo := 0, acc := .ro, rep := 8, stride := 0x20 }
/-! R473 -/
def SW_HB1_WIRE_OK : Field := { off := 0x050, hi := 31, lo := 31, acc := .ro, reset := 1 }
def SW_HB1_MBX_OK : Field := { off := 0x050, hi := 30, lo := 30, acc := .ro, reset := 1 }
def SW_HB1_AGE_NS : Field := { off := 0x050, hi := 15, lo := 0, acc := .ro }
def SW_HB_CNT1_MBX_LOSSES : Field := { off := 0x058, hi := 31, lo := 16, acc := .ro }
def SW_HB_CNT1_WIRE_LOSSES : Field := { off := 0x058, hi := 15, lo := 0, acc := .ro }

/-- The fields of page 0. -/
def p0Fields : List Field :=
  [SW_CFG_REVERT_EN, SW_CFG_PREFER, SW_CFG_CAUSE_EN, SW_STAT_STATE_H1,
   SW_STAT_STATE_H0, SW_STAT_ACTING, SW_STAT_DEGRADED, SW_STAT_HEALTHY,
   SW_STAT_DUAL, SW_STAT_RECOVER_COUNT, SW_CMD_REPAIR0, SW_CMD_REPAIR1,
   SW_CMD_SWITCH, SW_HB0_WIRE_OK, SW_HB0_MBX_OK, SW_HB0_AGE_NS,
   SW_HB_CNT0_MBX_LOSSES, SW_HB_CNT0_WIRE_LOSSES, SW_LAST_CAUSE, SW_LAST_FROM,
   SW_LAST_TO, SW_LAST_DUAL, SW_LAST_TIME_LO_TIME, SW_LAST_TIME_HI_TIME] ++
  [SW_LAST_WIN_NS, SW_COUNT_FAILOVERS, SW_COUNT_RETURNS, SW_HB1_WIRE_OK,
   SW_HB1_MBX_OK, SW_HB1_AGE_NS, SW_HB_CNT1_MBX_LOSSES, SW_HB_CNT1_WIRE_LOSSES]
/-- The fields of page 1. -/
def p1Fields : List Field :=
  [SW_RPT_HEALTHY, SW_RPT_HB_OK, SW_RPT_CHECK_OK, SW_RPT_BIST_OK,
   SW_RPT_MBIST_OK, SW_RPT_FAULT_OK, SW_RPT_PARTS_OK, SW_RPT_MATCH_OK,
   SW_RPT_TIDE_TIDE, SW_BIST_RUN_COUNT, SW_BIST_POS_ISLAND, SW_BIST_POS_SLICE,
   SW_MBIST_RUN_COUNT, SW_MBIST_CORR_COUNT, SW_PASSES_BIST, SW_PASSES_MBIST,
   SW_SLOT_VALID, SW_SLOT_STREAM, SW_SPLIT_VALID, SW_SPLIT_ROW,
   SW_SPLIT_SEQ_SEQ]

end Sys2Proof.Machine.Seawall

namespace Sys2Proof.Machine.Lighthouse

/-! R447 -/
def LH_CFG_FRZ_EN : Field := { off := 0x100, hi := 31, lo := 31, acc := .rws, rep := 8, stride := 0x40 }
def LH_CFG_ANCHOR : Field := { off := 0x100, hi := 19, lo := 16, acc := .rws, reset := 8, rep := 8, stride := 0x40 }
def LH_CFG_FRZ_RUN : Field := { off := 0x100, hi := 15, lo := 8, acc := .rws, reset := 3, rep := 8, stride := 0x40, clamp := some (1, 255) }
def LH_CFG_STILL_MIN : Field := { off := 0x100, hi := 6, lo := 0, acc := .rws, reset := 48, rep := 8, stride := 0x40, clamp := some (1, 64) }
def FRZ_ORG_Y0 : Field := { off := 0x104, hi := 31, lo := 16, acc := .rws, rep := 8, stride := 0x40, gran := 2 }
def FRZ_ORG_X0 : Field := { off := 0x104, hi := 15, lo := 0, acc := .rws, rep := 8, stride := 0x40, gran := 2 }
def FRZ_STEP_SY : Field := { off := 0x108, hi := 31, lo := 16, acc := .rws, reset := 64, rep := 8, stride := 0x40, clamp := some (4, 4096), gran := 2 }
def FRZ_STEP_SX : Field := { off := 0x108, hi := 15, lo := 0, acc := .rws, reset := 64, rep := 8, stride := 0x40, clamp := some (4, 4096), gran := 2 }
def FRZ_FLOOR_FLOOR : Field := { off := 0x10C, hi := 19, lo := 0, acc := .rws, reset := 64, rep := 8, stride := 0x40 }
def FRZ_CLIP_CLIP_SUM : Field := { off := 0x110, hi := 19, lo := 0, acc := .rws, reset := 0xFF000, rep := 8, stride := 0x40 }
def FRZ_STAT_RUN : Field := { off := 0x114, hi := 31, lo := 24, acc := .ro, rep := 8, stride := 0x40 }
def FRZ_STAT_COMPARED : Field := { off := 0x114, hi := 14, lo := 8, acc := .ro, rep := 8, stride := 0x40 }
def FRZ_STAT_STILL : Field := { off := 0x114, hi := 6, lo := 0, acc := .ro, rep := 8, stride := 0x40 }
def LAST_SIG_SIG : Field := { off := 0x118, hi := 31, lo := 0, acc := .ro, rep := 8, stride := 0x40, rep2 := 4, stride2 := 0x4 }
def CHAIN_RESETS_COUNT : Field := { off := 0x128, hi := 31, lo := 0, acc := .ro, rep := 8, stride := 0x40 }
def HALF_DIFF_COUNT : Field := { off := 0x12C, hi := 31, lo := 0, acc := .ro, rep := 8, stride := 0x40 }

/-- The fields of the page. -/
def pageFields : List Field :=
  [LH_CFG_FRZ_EN, LH_CFG_ANCHOR, LH_CFG_FRZ_RUN, LH_CFG_STILL_MIN,
   FRZ_ORG_Y0, FRZ_ORG_X0, FRZ_STEP_SY, FRZ_STEP_SX,
   FRZ_FLOOR_FLOOR, FRZ_CLIP_CLIP_SUM, FRZ_STAT_RUN, FRZ_STAT_COMPARED,
   FRZ_STAT_STILL, LAST_SIG_SIG, CHAIN_RESETS_COUNT, HALF_DIFF_COUNT]

end Sys2Proof.Machine.Lighthouse

namespace Sys2Proof.Machine.Sounding

/-! R449 -/
def SD_CFG_EN : Field := { off := 0x040, hi := 31, lo := 31, acc := .rw }
def SD_CFG_POLY : Field := { off := 0x040, hi := 30, lo := 29, acc := .rw, accept := some (0, 2) }
def SD_CFG_FOLD : Field := { off := 0x040, hi := 28, lo := 27, acc := .rw }
def SD_CFG_EXP_SRC : Field := { off := 0x040, hi := 26, lo := 25, acc := .rw }
def SD_CFG_CHAN : Field := { off := 0x040, hi := 9, lo := 0, acc := .rw }
def SD_EXPECT_VALUE : Field := { off := 0x044, hi := 31, lo := 0, acc := .rw }
def SD_ARM_ARM : Field := { off := 0x048, hi := 31, lo := 31, acc := .w1s }
def SD_RESULT_VALUE : Field := { off := 0x04C, hi := 31, lo := 0, acc := .ro }
def SD_DONE_COUNT : Field := { off := 0x050, hi := 31, lo := 0, acc := .ro }
def SD_MISMATCH_COUNT : Field := { off := 0x054, hi := 31, lo := 0, acc := .ro }
def SD_ABANDON_COUNT : Field := { off := 0x058, hi := 31, lo := 0, acc := .ro }
def SD_MM_INFO_VALID : Field := { off := 0x05C, hi := 31, lo := 31, acc := .w1c }
def SD_MM_INFO_OVERFLOW : Field := { off := 0x05C, hi := 30, lo := 30, acc := .ro }
def SD_MM_RESULT_VALUE : Field := { off := 0x060, hi := 31, lo := 0, acc := .ro }
def SD_MM_EXPECT_VALUE : Field := { off := 0x064, hi := 31, lo := 0, acc := .ro }
def SD_MM_SEQ_SEQ : Field := { off := 0x068, hi := 31, lo := 0, acc := .ro }

/-- The fields of the page. -/
def pageFields : List Field :=
  [SD_CFG_EN, SD_CFG_POLY, SD_CFG_FOLD, SD_CFG_EXP_SRC,
   SD_CFG_CHAN, SD_EXPECT_VALUE, SD_ARM_ARM, SD_RESULT_VALUE,
   SD_DONE_COUNT, SD_MISMATCH_COUNT, SD_ABANDON_COUNT, SD_MM_INFO_VALID,
   SD_MM_INFO_OVERFLOW, SD_MM_RESULT_VALUE, SD_MM_EXPECT_VALUE, SD_MM_SEQ_SEQ]

end Sys2Proof.Machine.Sounding
end

