-- ==== Sys2Proof/Machine/RegMap.lean ====
section
/-!
DEFINITION. Sys2Proof/Machine/RegMap.lean: the address map of the register window (R82), which fields each page holds,
what every field holds after reset, and what belongs to an instance (pages, power domain, fault sources).
A page is named by its number: its window offset divided by 0x1000.
-/
namespace Sys2Proof.Machine

/-- The blocks of R82 that have page headers. -/
inductive Block where
  | chip | tidemark | breakwater | beacon | seawall | lighthouse | sounding | fastStatus | weatas | csiRx | csiTx
  | inlet | streamTab | jetty | mac | bridge | pcie | lp | cove | harbour | drift
deriving DecidableEq, Repr

/-- A page: its block, its instance within the block, its index within the instance. -/
structure PageRef where
  block : Block
  inst  : Nat
  idx   : Nat
deriving DecidableEq, Repr

/-- TYPE of a block (R82). -/
def Block.type : Block → Nat
  | .chip => 0x01 | .tidemark => 0x02 | .breakwater => 0x03 | .beacon => 0x04 | .seawall => 0x05 | .lighthouse => 0x06
  | .sounding => 0x07 | .fastStatus => 0x08 | .weatas => 0x10 | .csiRx => 0x11 | .csiTx => 0x12 | .inlet => 0x13
  | .streamTab => 0x14 | .jetty => 0x18 | .mac => 0x20 | .bridge => 0x21 | .pcie => 0x24 | .lp => 0x28 | .cove => 0x30
  | .harbour => 0x38 | .drift => 0x40

/-- Pages of one instance (R82). -/
def Block.pages : Block → Nat
  | .chip => 16 | .tidemark => 4 | .breakwater => 8 | .beacon => 4 | .seawall => 2 | .streamTab => 10 | .mac => 4
  | .bridge => 8 | .pcie => 16 | .lp => 16 | .cove => 16 | .harbour => 32
  | .lighthouse | .sounding | .fastStatus | .weatas | .csiRx | .csiTx | .inlet | .jetty | .drift => 1

/-- Instances of a block (R82). -/
def Block.instances : Block → Nat
  | .lighthouse => 16 | .sounding => 64 | .weatas => 32 | .csiRx => 8 | .csiTx => 2 | .inlet => 40 | .jetty => 40
  | .mac => 2 | .pcie => 2 | .lp => 4 | .cove => 16 | .harbour => 2 | .drift => 1024
  | .chip | .tidemark | .breakwater | .beacon | .seawall | .fastStatus | .streamTab | .bridge => 1

/-- The page number of page `p` of instance `n` (R82). -/
def Block.page (b : Block) (n : Nat) (p : Nat := 0) : Nat :=
  match b with
  | .chip => p | .tidemark => 0x10 + p | .breakwater => 0x20 + p | .beacon => 0x30 + p | .seawall => 0x40 + p
  | .lighthouse => 0x50 + n | .sounding => 0x60 + n | .fastStatus => 0xF0 | .weatas => 0x100 + n | .csiRx => 0x120 + n
  | .csiTx => 0x128 + n | .inlet => if n < 32 then 0x140 + n else 0x150 + n | .streamTab => 0x160 + p
  | .jetty => 0x200 + n | .mac => 0x300 + 4 * n + p | .bridge => 0x308 + p | .pcie => 0x380 + 0x10 * n + p
  | .lp => 0x3C0 + 0x10 * n + p | .cove => 0x400 + 0x10 * n + p | .harbour => 0x800 + 0x20 * n + p | .drift => 0x1000 + n

/-- The page of a page number, none where the page is unmapped or lies in the job-table window (R82, R83). -/
def pageRef (pg : Nat) : Option PageRef :=
  if pg < 0x10 then some ⟨.chip, 0, pg⟩
  else if pg < 0x14 then some ⟨.tidemark, 0, pg - 0x10⟩
  else if pg < 0x20 then none
  else if pg < 0x28 then some ⟨.breakwater, 0, pg - 0x20⟩
  else if pg < 0x30 then none
  else if pg < 0x34 then some ⟨.beacon, 0, pg - 0x30⟩
  else if pg < 0x40 then none
  else if pg < 0x42 then some ⟨.seawall, 0, pg - 0x40⟩
  else if pg < 0x50 then none
  else if pg < 0x60 then some ⟨.lighthouse, pg - 0x50, 0⟩
  else if pg < 0xA0 then some ⟨.sounding, pg - 0x60, 0⟩
  else if pg < 0xF0 then none
  else if pg < 0xF1 then some ⟨.fastStatus, 0, 0⟩
  else if pg < 0x100 then none
  else if pg < 0x120 then some ⟨.weatas, pg - 0x100, 0⟩
  else if pg < 0x128 then some ⟨.csiRx, pg - 0x120, 0⟩
  else if pg < 0x12A then some ⟨.csiTx, pg - 0x128, 0⟩
  else if pg < 0x140 then none
  else if pg < 0x160 then some ⟨.inlet, pg - 0x140, 0⟩
  else if pg < 0x16A then some ⟨.streamTab, 0, pg - 0x160⟩
  else if pg < 0x170 then none
  else if pg < 0x178 then some ⟨.inlet, pg - 0x150, 0⟩
  else if pg < 0x200 then none
  else if pg < 0x228 then some ⟨.jetty, pg - 0x200, 0⟩
  else if pg < 0x300 then none
  else if pg < 0x308 then some ⟨.mac, (pg - 0x300) / 4, (pg - 0x300) % 4⟩
  else if pg < 0x310 then some ⟨.bridge, 0, pg - 0x308⟩
  else if pg < 0x380 then none
  else if pg < 0x3A0 then some ⟨.pcie, (pg - 0x380) / 0x10, (pg - 0x380) % 0x10⟩
  else if pg < 0x3C0 then none
  else if pg < 0x400 then some ⟨.lp, (pg - 0x3C0) / 0x10, (pg - 0x3C0) % 0x10⟩
  else if pg < 0x500 then some ⟨.cove, (pg - 0x400) / 0x10, (pg - 0x400) % 0x10⟩
  else if pg < 0x800 then none
  else if pg < 0x840 then some ⟨.harbour, (pg - 0x800) / 0x20, (pg - 0x800) % 0x20⟩
  else if pg < 0x1000 then none
  else if pg < 0x1400 then some ⟨.drift, pg - 0x1000, 0⟩
  else none

/-- A page of the job-table window (R83). -/
def inJobWindow (pg : Nat) : Bool := decide (0xA00 ≤ pg) && decide (pg < 0xC00)

/-- The block-specific fields of a page. -/
def PageRef.fields (r : PageRef) : List Field :=
  match r.block, r.idx with
  | .chip, 0 => Chip.p0Fields | .chip, 1 => Chip.p1Fields | .chip, 2 => Chip.p2Fields | .chip, 3 => Chip.p3Fields
  | .chip, 4 => Chip.p4Fields | .chip, 5 => Chip.p5Fields | .chip, 6 => Chip.p6Fields | .chip, 7 => Chip.p7Fields
  | .chip, 8 => Chip.p8Fields | .chip, 9 => Chip.p9Fields | .chip, 10 => Chip.p10Fields | .chip, 11 => Chip.p11Fields
  | .chip, 12 => Chip.p12Fields | .chip, 13 => Chip.p13Fields | .chip, 14 => Chip.p14Fields | .chip, 15 => Chip.p15Fields
  | .tidemark, 0 => Tidemark.p0Fields | .tidemark, 1 => Tidemark.p1Fields | .tidemark, 2 => Tidemark.p2Fields
  | .tidemark, 3 => Tidemark.p3Fields
  | .breakwater, 0 => Breakwater.p0Fields | .breakwater, 5 => Breakwater.p5Fields | .breakwater, 6 => Breakwater.p6Fields
  | .breakwater, 7 => Breakwater.p7Fields | .breakwater, 1 => Breakwater.pcfgFields | .breakwater, 2 => Breakwater.pcfgFields
  | .breakwater, 3 => Breakwater.pcfgFields | .breakwater, 4 => Breakwater.pcfgFields
  | .beacon, 0 => Beacon.p0Fields | .beacon, 1 => Beacon.pcfgFields | .beacon, 2 => Beacon.pcfgFields
  | .beacon, 3 => Beacon.p3Fields
  | .seawall, 0 => Seawall.p0Fields | .seawall, 1 => Seawall.p1Fields
  | .lighthouse, _ => Lighthouse.pageFields | .sounding, _ => Sounding.pageFields
  | .weatas, _ => Weatas.pageFields | .csiRx, _ => CsiRx.pageFields | .csiTx, _ => CsiTx.pageFields
  | .inlet, _ => Inlet.pageFields | .streamTab, _ => StreamTab.pageFields | .jetty, _ => Jetty.pageFields
  | .mac, 0 => Mac.p0Fields | .mac, 1 => Mac.p1Fields | .mac, 2 => Mac.p2Fields | .mac, 3 => Mac.p3Fields
  | .bridge, 0 => Bridge.p0Fields | .bridge, 1 => Bridge.p1Fields | .bridge, 2 => Bridge.p2Fields
  | .pcie, 0 => Pcie.p0Fields | .pcie, 1 => Pcie.p1Fields | .pcie, 2 => Pcie.p2Fields
  | .pcie, 4 => Pcie.pvecFields | .pcie, 5 => Pcie.pvecFields | .pcie, 6 => Pcie.pvecFields | .pcie, 7 => Pcie.pvecFields
  | .pcie, 8 => Pcie.pvecFields | .pcie, 9 => Pcie.pvecFields | .pcie, 10 => Pcie.pvecFields
  | .lp, 0 => Lp.p0Fields | .lp, 1 => Lp.p1Fields | .lp, 2 => Lp.p2Fields
  | .cove, 0 => Cove.p0Fields | .cove, 1 => Cove.p1Fields | .cove, 2 => Cove.p2Fields | .cove, 3 => Cove.p3Fields
  | .cove, 4 => Cove.p4Fields | .cove, 5 => Cove.p5Fields | .cove, 6 => Cove.p6Fields | .cove, 7 => Cove.p7Fields
  | .cove, 8 => Cove.p8Fields | .cove, 9 => Cove.p9Fields | .cove, 10 => Cove.p10Fields | .cove, 11 => Cove.pwinFields
  | .cove, 12 => Cove.pwinFields | .cove, 13 => Cove.pwinFields | .cove, 14 => Cove.pwinFields | .cove, 15 => Cove.p15Fields
  | .harbour, 0 => Harbour.p0Fields | .harbour, 1 => Harbour.pchFields | .harbour, 2 => Harbour.pchFields
  | .harbour, 3 => Harbour.pchFields | .harbour, 4 => Harbour.pchFields | .harbour, 5 => Harbour.p5Fields
  | .harbour, 6 => Harbour.p6Fields | .harbour, 7 => Harbour.p7Fields
  | .drift, _ => Drift.pageFields
  | _, _ => []

/-! ## Power domains (R557) -/

/-- The domain that serves an instance. -/
def PageRef.domain (r : PageRef) : Nat :=
  match r.block with
  | .chip | .fastStatus | .jetty => 86 | .tidemark => 82 | .seawall => 83 | .breakwater => 84 | .beacon => 85
  | .streamTab => 81 | .lighthouse | .cove => r.inst | .sounding => 54 + r.inst / 32 | .weatas => 32 + r.inst / 4
  | .csiRx => 40 + r.inst / 4 | .csiTx => 42 | .inlet => 71 + r.inst / 4 | .mac => 62 + r.inst | .bridge => 64
  | .pcie => 60 + r.inst | .lp => 65 + r.inst | .harbour => 52 + r.inst | .drift => 54 + r.inst / 512

/-- CAP.PWR (R73): the instance owns a switchable domain. -/
def Block.ownsDomain : Block → Bool
  | .lighthouse | .cove | .weatas | .csiRx | .csiTx | .inlet | .mac | .bridge | .pcie | .lp | .harbour => true
  | .chip | .tidemark | .breakwater | .beacon | .seawall | .sounding | .fastStatus | .streamTab | .jetty | .drift => false

/-- The domains that power up at chip reset (R561), with the PLL domains they require (R557). -/
def resetDomains : List Nat :=
  [44, 45, 46, 47, 48, 49, 50, 51, 52, 53, 54, 55, 56, 57, 58, 59, 60, 61, 65, 67, 70, 81, 82, 83, 84, 85, 86, 87, 88,
   89, 90, 91, 95]

/-- System domains (R557). -/
def isSystemDomain (d : Nat) : Bool := decide (81 ≤ d)

/-! ## Fault sources (R477) -/

/-- The first source of a bit: the Breakwater source that FLT_STAT bit `b` of a page feeds (R477). -/
def PageRef.source (r : PageRef) (b : Nat) : Option Nat :=
  match r.block, r.idx, b with
  | .chip, 0, 0 => some 0 | .chip, 1, 0 => some 1
  | .chip, 2, 0 => some 2 | .chip, 2, 1 => some 3 | .chip, 2, 2 => some 4 | .chip, 2, 3 => some 5 | .chip, 2, 4 => some 6
  | .chip, 5, 0 => some 7 | .chip, 5, 1 => some 8 | .chip, 5, 2 => some 9 | .chip, 5, 3 => some 10
  | .chip, 8, 0 => some 11 | .chip, 8, 1 => some 12
  | .chip, 12, 0 => some 13 | .chip, 12, 1 => some 14
  | .chip, 13, 0 => some 15 | .chip, 13, 1 => some 16 | .chip, 13, 2 => some 17 | .chip, 13, 3 => some 18
  | .breakwater, 0, b => if b < 3 then some (32 + b) else none
  | .beacon, 0, b => if b < 6 then some (40 + b) else none
  | .tidemark, 0, b => if b < 4 then some (48 + b) else none
  | .tidemark, 3, b => if b < 3 then some (52 + b) else none
  | .seawall, 0, b => if b < 5 then some (56 + b) else none
  | .weatas, _, b => if b < 6 then some (64 + 12 * r.inst + b) else if 16 ≤ b ∧ b < 22 then some (64 + 12 * r.inst + 6 + (b - 16)) else none
  | .csiRx, _, b => if b < 4 then some (448 + 4 * r.inst + b) else none
  | .csiTx, _, b => if b < 3 then some (480 + 3 * r.inst + b) else none
  | .inlet, _, b => if b < 5 then some (488 + 5 * r.inst + b) else none
  | .cove, 0, 0 => some (688 + 16 * r.inst) | .cove, 0, 1 => some (688 + 16 * r.inst + 1)
  | .cove, 1, 0 => some (688 + 16 * r.inst + 2) | .cove, 1, 1 => some (688 + 16 * r.inst + 3)
  | .cove, 2, 1 => some (688 + 16 * r.inst + 4)
  | .cove, 3, 0 => some (688 + 16 * r.inst + 5) | .cove, 3, 1 => some (688 + 16 * r.inst + 6)
  | .cove, 3, 2 => some (688 + 16 * r.inst + 7)
  | .cove, 4, 0 => some (688 + 16 * r.inst + 8) | .cove, 5, 0 => some (688 + 16 * r.inst + 9)
  | .cove, 8, 1 => some (688 + 16 * r.inst + 10) | .cove, 10, 0 => some (688 + 16 * r.inst + 11)
  | .cove, p, 0 => if 11 ≤ p ∧ p ≤ 14 then some (688 + 16 * r.inst + 12 + (p - 11)) else none
  | .harbour, 0, 0 => some (944 + 13 * r.inst)
  | .harbour, 5, 0 => some (944 + 13 * r.inst + 9) | .harbour, 6, 0 => some (944 + 13 * r.inst + 10)
  | .harbour, 6, 1 => some (944 + 13 * r.inst + 11) | .harbour, 7, 0 => some (944 + 13 * r.inst + 12)
  | .harbour, p, b => if 1 ≤ p ∧ p ≤ 4 ∧ b < 2 then some (944 + 13 * r.inst + 1 + 2 * (p - 1) + b) else none
  | .lighthouse, _, b => if b < 3 then some (976 + 3 * r.inst + b) else none
  | .sounding, _, 0 => some (1024 + r.inst)
  | .jetty, _, b => if b < 5 then some (1088 + 5 * r.inst + b) else none
  | .mac, 0, 0 => some (1288 + r.inst)
  | .bridge, 2, 0 => some 1290
  | .streamTab, 0, b => if b < 2 then some (1291 + b) else none
  | .pcie, 0, b => if b < 5 then some (1296 + 5 * r.inst + b) else none
  | .lp, 0, b => if b < 8 then some (1312 + 16 * r.inst + b) else none
  | .drift, _, b => if b < 2 then some (1376 + 2 * (r.inst / 16) + b) else none
  | _, _, _ => none

/-- The page and FLT_STAT bit of a source: for a Drift source, those of its group's member `m` (R476, R477).
None where the number is reserved. -/
def sourceBit (src m : Nat) : Option (Nat × Nat) :=
  if src < 32 then
    [(0, 0), (1, 0), (2, 0), (2, 1), (2, 2), (2, 3), (2, 4), (5, 0), (5, 1), (5, 2), (5, 3), (8, 0), (8, 1),
     (12, 0), (12, 1), (13, 0), (13, 1), (13, 2), (13, 3)][src]?
  else if src < 40 then (if src < 35 then some (0x20, src - 32) else none)
  else if src < 48 then (if src < 46 then some (0x30, src - 40) else none)
  else if src < 56 then (if src < 52 then some (0x10, src - 48) else if src < 55 then some (0x13, src - 52) else none)
  else if src < 64 then (if src < 61 then some (0x40, src - 56) else none)
  else if src < 448 then
    let n := (src - 64) / 12; let b := (src - 64) % 12
    some (0x100 + n, if b < 6 then b else b + 10)
  else if src < 480 then some (0x120 + (src - 448) / 4, (src - 448) % 4)
  else if src < 486 then some (0x128 + (src - 480) / 3, (src - 480) % 3)
  else if src < 488 then none
  else if src < 688 then some (Block.page .inlet ((src - 488) / 5), (src - 488) % 5)
  else if src < 944 then
    let pg := 0x400 + 0x10 * ((src - 688) / 16)
    ([(0, 0), (0, 1), (1, 0), (1, 1), (2, 1), (3, 0), (3, 1), (3, 2), (4, 0), (5, 0), (8, 1), (10, 0), (11, 0), (12, 0),
      (13, 0), (14, 0)][(src - 688) % 16]?).map (fun e => (pg + e.1, e.2))
  else if src < 970 then
    let pg := 0x800 + 0x20 * ((src - 944) / 13)
    ([(0, 0), (1, 0), (1, 1), (2, 0), (2, 1), (3, 0), (3, 1), (4, 0), (4, 1), (5, 0), (6, 0), (6, 1), (7, 0)][(src - 944) % 13]?).map
      (fun e => (pg + e.1, e.2))
  else if src < 976 then none
  else if src < 1024 then some (0x50 + (src - 976) / 3, (src - 976) % 3)
  else if src < 1088 then some (0x60 + (src - 1024), 0)
  else if src < 1288 then some (0x200 + (src - 1088) / 5, (src - 1088) % 5)
  else if src < 1290 then some (0x300 + 4 * (src - 1288), 0)
  else if src < 1291 then some (0x30A, 0)
  else if src < 1293 then some (0x160, src - 1291)
  else if src < 1296 then none
  else if src < 1306 then some (0x380 + 0x10 * ((src - 1296) / 5), (src - 1296) % 5)
  else if src < 1312 then none
  else if src < 1376 then (if (src - 1312) % 16 < 8 then some (0x3C0 + 0x10 * ((src - 1312) / 16), (src - 1312) % 16) else none)
  else if src < 1504 then some (0x1000 + 16 * ((src - 1376) / 2) + m % 16, (src - 1376) % 2)
  else none

/-- The half a block instance belongs to, none for the spine (R13, R14, R478). -/
def PageRef.half (r : PageRef) : Option Nat :=
  match r.block with
  | .cove | .lighthouse => some (r.inst / 8)
  | .harbour | .pcie => some r.inst
  | .sounding => some (r.inst / 32)
  | .lp => some (r.inst / 2)
  | .drift => some (r.inst / 512)
  | .chip | .tidemark | .breakwater | .beacon | .seawall | .fastStatus | .weatas | .csiRx | .csiTx | .inlet | .streamTab
  | .jetty | .mac | .bridge => none

/-- Default severity of a source, as its bit's chapter states it (R115, R116, R147, R165, R166, R196, R197, R216, R250,
R283, R314, R344, R371, R394, R423, R426, R448, R450, R475, R502, R527, R551, R587, R612, R629). -/
def defaultSev (src : Nat) : Nat :=
  if src < 32 then [2, 1, 3, 3, 2, 3, 2, 5, 2, 5, 2, 3, 2, 2, 3, 2, 3, 5, 2].getD src 0
  else if src < 40 then [5, 2, 2].getD (src - 32) 0
  else if src < 48 then [2, 2, 2, 3, 3, 3].getD (src - 40) 0
  else if src < 56 then [2, 2, 2, 5, 2, 2, 2].getD (src - 48) 0
  else if src < 64 then [3, 2, 5, 5, 2].getD (src - 56) 0
  else if src < 448 then [2, 3, 3, 2, 2, 3, 3, 2, 2, 2, 2, 2].getD ((src - 64) % 12) 0
  else if src < 480 then [2, 3, 2, 3].getD ((src - 448) % 4) 0
  else if src < 486 then [2, 2, 3].getD ((src - 480) % 3) 0
  else if src < 488 then 0
  else if src < 688 then [2, 2, 3, 3, 2].getD ((src - 488) % 5) 0
  else if src < 944 then [2, 2, 2, 3, 2, 2, 3, 2, 3, 3, 2, 3, 2, 2, 2, 2].getD ((src - 688) % 16) 0
  else if src < 970 then [3, 2, 3, 2, 3, 2, 3, 2, 3, 3, 3, 2, 2].getD ((src - 944) % 13) 0
  else if src < 976 then 0
  else if src < 1024 then [3, 3, 2].getD ((src - 976) % 3) 0
  else if src < 1088 then 2
  else if src < 1288 then [1, 3, 3, 2, 2].getD ((src - 1088) % 5) 0
  else if src < 1291 then 2
  else if src < 1293 then [5, 2].getD (src - 1291) 0
  else if src < 1296 then 0
  else if src < 1306 then [2, 2, 2, 3, 1].getD ((src - 1296) % 5) 0
  else if src < 1312 then 0
  else if src < 1376 then [4, 4, 4, 2, 2, 2, 2, 3].getD ((src - 1312) % 16) 0
  else if src < 1504 then [3, 2].getD ((src - 1376) % 2) 0
  else 0

/-- Default escalation class of a source (R477); 0 for a reserved number, whose SRC_CFG reads 0. -/
def defaultClass (src : Nat) : Nat :=
  if (sourceBit src 0).isNone then 0
  else if src < 32 then 0 else if src < 40 then 1 else if src < 48 then 2 else if src < 56 then 3 else if src < 64 then 4
  else if src < 448 then 5 else if src < 480 then 6 else if src < 488 then 7 else if src < 688 then 8
  else if src < 944 then 9 + (src - 688) / 128
  else if src < 976 then 11 + (src - 944) / 13
  else if src < 1024 then 13 + (src - 976) / 24
  else if src < 1088 then 15 else if src < 1288 then 16 else if src < 1291 then 17 else if src < 1296 then 22
  else if src < 1312 then 18 else if src < 1376 then 19
  else 20 + (src - 1376) / 64

/-! ## Reset values -/

/-- The reset values that the tables leave to a word: per instance, per source, per domain, by rule. `i` is the
repetition of the register. -/
def specialReset (r : PageRef) (off lo : Nat) : Option Nat :=
  match r.block, r.idx with
  | .chip, 3 => if lo = 31 ∧ 0x100 ≤ off then some (if resetDomains.contains ((off - 0x100) / 4) then 1 else 0) else none
  | .chip, 2 => if off = 0x06C then some 0x1FF else none
  | .breakwater, p =>
    if 1 ≤ p ∧ p ≤ 4 ∧ 0x100 ≤ off then
      let src := 384 * (p - 1) + (off - 0x100) / 4
      if lo = 16 then some (defaultClass src) else if lo = 0 then some (defaultSev src) else none
    else none
  | .beacon, 1 => if off = 0x100 then (if lo = 28 then some 15 else if lo = 26 then some 1 else if lo = 22 then some 0b0101 else none) else none
  | .sounding, _ => if off = 0x040 ∧ lo = 0 then some (512 * (r.inst / 32)) else none
  | .weatas, _ => if off = 0x180 ∧ lo = 24 then some (r.inst / 4) else none
  | .csiTx, _ => if 0x080 ≤ off ∧ off < 0x0C0 ∧ (off - 0x080) % 16 = 0 ∧ lo = 24 then some ((off - 0x080) / 16) else none
  | .cove, 9 => if 0x104 ≤ off ∧ ((off - 0x104) % 0x20 = 0 ∨ (off - 0x104) % 0x20 = 8) ∧ lo = 0 then some 0x1000 else none
  | .cove, 10 =>
    if 0x10C ≤ off ∧ lo = 0 ∧ (off - 0x10C) % 0x40 < 0x14 then
      [0x2DC6_0D9B, 0xF8AB_049F, 0x2000_E755, 0xE2EF_2000, 0x0000_FD11][(off - 0x10C) % 0x40 / 4]? else none
  | .lp, 0 => if off = 0x040 then (if lo = 16 then some Config.fwVersion.toNat else if lo = 0 then some r.inst else none) else none
  | _, _ => none

/-- What the field at a bit address holds after reset (the shadow and the live value alike, R45). -/
def resetField (key : Nat) : Nat :=
  let pg := key / 0x8000
  let bit := key % 0x4000
  let off := bit / 32 * 4
  let lo := bit % 32
  match pageRef pg with
  | none => 0
  | some r =>
    match specialReset r off lo with
    | some v => v
    | none =>
      match r.fields.find? (fun f => f.lo == lo && f.covers off) with
      | some f => f.reset
      | none => match Hdr.pageFields.find? (fun f => f.lo == lo && f.covers off) with
        | some f => f.reset
        | none => 0

end Sys2Proof.Machine
end

