-- ==== Sys2Proof/Machine/TypesSpine.lean ====
section
/-!
DEFINITION. Sys2Proof/Machine/TypesSpine.lean: the state of the spine that stands behind its registers, as plain data:
plans, commits, time, faults, interrupts, power, boot, balls.
-/
namespace Sys2Proof.Machine

/-- The requesters of R69, with the codes of ACC_ERR_INFO.REQUESTER (R80). -/
inductive Requester where
  | host0 | host1 | lp0 | lp1 | lp2 | lp3
deriving DecidableEq, Repr

/-- REQUESTER code (R80). -/
def Requester.code : Requester → Nat
  | .host0 => 0 | .host1 => 1 | .lp0 => 4 | .lp1 => 5 | .lp2 => 6 | .lp3 => 7

/-- The logical processor a requester is, if it is one. -/
def Requester.lp? : Requester → Option Nat
  | .host0 => none | .host1 => none | .lp0 => some 0 | .lp1 => some 1 | .lp2 => some 2 | .lp3 => some 3

/-! ## What commands carry -/

/-- What an inline-ECC check found (R288). -/
inductive EccResult where
  | clean | corrected | uncorrectable
deriving DecidableEq, Repr

/-- The configuration items of R346 to R361, by name: the i-th dword of the BAR registers, the i-th capability of R347. -/
inductive ConfigItem where
  | vendorId | deviceId | revisionId | classCode | subsystemVendor | subsystemId | interruptPin | serialHigh | serialLow
  | capability (i : Fin 11) | vsecId | vsecRevision | bar (i : Fin 6) | expansionRom
  | vsecMode | cplToRanges | tag10Completer | tag10Requester | pmeSupport | noSoftReset | aspmSupport | l1ExitLatency
  | mpsSupported | marginSupport | ecrcCapable | ecrcGen | ecrcCheck | errReporting
  | mps | mrrs | roEn | nsEn | tag10En | extTagEn | cplTo | busMaster | msixEn | msixMask | dState | aspmL1 | targetSpeed
  | barSize | aerUncor | aerCor | aerMask | aerCorMask | aerSeverity | aerHeader (dw : Fin 4)
deriving DecidableEq, Repr

/-- Errors that a port's link meets (R358), beside those of its completions and of aperture accesses. -/
inductive LinkError where
  | receiver | badTlp | badDllp | replayRollover | replayTimeout | correctedInternal
  | dataLink | flowControl | receiverOverflow | malformed | ecrc | internal
deriving DecidableEq, Repr

/-- What the link partner requests of the device's lane 0 transmitter in an equalization (R361): a preset, or coefficients C₋₁, C₀, C₊₁. -/
inductive EqRequest where
  | preset (p : Fin 11)
  | coefficients (pre cursor post : Fin 64)
deriving DecidableEq, Repr

/-- What a power request names: a domain, by PD_CTRL, or a page of an instance, by CTRL. -/
inductive PowerTarget where
  | domain (d : Fin 96)
  | page (pg : Fin 0x1400)
deriving DecidableEq, Repr

/-- How a completion ends a request (R352, R358); the last two are no completions that the device takes. -/
inductive CplStatus where
  | success | poisoned | unsupported | abort | retry | malformed | ecrc
deriving DecidableEq, Repr

/-! ## Plans (R49) -/

/-- A family entry of a plan. -/
structure PlanFamily where
  n     : Nat
  slack : Nat
deriving DecidableEq, Repr

/-- An output entry of a plan. -/
structure PlanOutput where
  bytes   : Nat
  dest    : Nat
  drift   : Nat
  readout : Nat
deriving DecidableEq, Repr

/-- A stream entry of a plan. A Cove of 0xFF is none. -/
structure PlanStream where
  stream : Nat
  family : Nat
  path : Nat
  sentinel : Nat
  cls : Nat
  exposures : Nat
  packing : Nat
  width : Nat
  activeLines : Nat
  totalLines : Nat
  window : Nat
  coveA : Nat
  coveB : Nat
  coveC : Nat
  coveD : Nat
  outFirst : Nat
  outCount : Nat
deriving DecidableEq, Repr

/-- A plan document, decoded (R49). `budgets` holds 4h + k, half h and class k. -/
structure Plan where
  gap : Bool
  atSpring : Bool
  id : Nat
  period : Nat
  phase : Nat
  group : Nat
  applySpring : Nat
  jobBulk : List Nat
  hostBulk : List Nat
  families : List PlanFamily
  budgets : List Nat
  streams : List PlanStream
  outputs : List PlanOutput
deriving DecidableEq, Repr

/-- What the tide machinery holds beside its registers. -/
structure TideSt where
  /-- the plan in force (R61) -/
  livePlan : Option Plan := none
  /-- the plan submitted and admitted (R60): POWERING or STAGED -/
  staged : Option Plan := none
  /-- the staged plan's fields are captured with its group (R61) -/
  stagedCaptured : Bool := false
  /-- the document under admission (R60): CHECKING -/
  checking : Option (List Byte) := none
  /-- families that have begun a tide since chip reset (R32), a bit each -/
  famEver : Nat := 0
  /-- families that the live plan runs and that have begun a tide under it (R61), a bit each -/
  famStarted : Nat := 0
  /-- the domain time at which the spring tide in progress began, ns; tides that each family has begun in it (R30) -/
  springStart : Int := 0
  begun : List Nat := [0, 0, 0, 0]
  /-- a spring tide has been counted since chip reset (R32) -/
  springEver : Bool := false
  /-- the spring-bound capture of the spring tide in progress has taken place (R43) -/
  springCaptured : Bool := false
  /-- how the submission last taken up has ended: status, RESULT0, RESULT1 (R538); none while it runs -/
  ended : Option (Nat × Nat × Nat) := none
  /-- domains the live plan stopped using, whose power-off is not yet requested, and those of them that are empty (R66) -/
  draining : List Nat := []
  drained : List Nat := []
deriving DecidableEq, Repr

/-- Commits (R37 to R45): what was captured, by page, as live places with their values; the groups that software armed;
the group that the device armed for a staged plan (R61). -/
structure CommitSt where
  captured : SMap (List (Nat × Nat)) := []
  swArm : List Nat := []
  devArm : Option Nat := none
deriving DecidableEq, Repr

/-- One capture of a multi-register value (R9): the requester, the live half or the shadow half, the words. -/
structure WordCapture where
  req : Requester
  off : Nat
  words : List Nat
deriving DecidableEq, Repr

/-! ## Time -/

/-- The Tidemark (R395 to R403). Times are in units of 2⁻³² ns where they carry a fraction. -/
structure TimeSt where
  /-- the local count C, ns (R395) -/
  c : Nat := 0
  /-- OFFSET of domains A and B in force, modulo 2⁹⁶ (R397) -/
  offA : Nat := 0
  offB : Nat := 0
  /-- the residual RES (R403) -/
  res : Int := 0
  /-- PRESET in force (R402), ns -/
  preset : Nat := 0
  /-- consecutive samples with |e| ≤ LOCK_NS (R399) -/
  runA : Nat := 0
  runB : Nat := 0
deriving DecidableEq, Repr

/-! ## Faults -/

/-- Behind the FLT_STAT bits of one page (R78, R478), a bit each: the condition is present; an occurrence that counts is
unacknowledged; for each effective severity from 1 on, one of those has it (R482, R86); a consequential one is unacknowledged (R486);
the source asserts ERR_N for it (R490). -/
structure FltMarks where
  present : Nat := 0
  unack : Nat := 0
  sevs : List Nat := [0, 0, 0, 0, 0, 0]
  conseq : Nat := 0
  err : Nat := 0
deriving DecidableEq, Repr

/-- What has been raised in one unit and is not yet carried out in another; each is carried out by the command named. -/
inductive Due where
  /-- an occurrence on its way to the Breakwater: FAULT_OCCURRENCE -/
  | occurrence (page bit : Nat)
  /-- a pulse of a Beacon source's input (R503, R504, R333): BEACON_FIRING -/
  | pulse (source : Nat)
  /-- an MSI-X source firing at a port (R356): MSIX_FIRE -/
  | msix (port source : Nat)
  /-- a trigger of a Drift channel (R326): DRIFT_TRIGGER -/
  | trigger (channel : Nat)
  /-- a self-check failure of a half, with its cause, on its way to the Seawall (R457): HALF_FAILURE -/
  | selfCheck (half cause : Nat)
  /-- a chip reset, with its CAUSE (R565): CHIP_RESET -/
  | chipReset (cause : Nat)
deriving DecidableEq, Repr

/-- The Breakwater (R476 to R502) behind its registers. -/
structure FaultSt where
  /-- controller instances that show a mismatch of the tide in progress (R371) -/
  disagreed : List Nat := []
  /-- open quiet windows: first page of the instance, count C at the opening (R484) -/
  quiet : List (Nat × Nat) := []
  /-- count C of the assertion of ERR_N (R490) -/
  errSince : Nat := 0
  /-- level of ERR_TOG; its driver off; TOG_EN written 0 since (R491) -/
  togLevel : Bool := false
  togOff : Bool := false
  togCleared : Bool := false
  /-- a copy of a duplicated unit has been dropped (R17): Tidemark, crossbar, Seawall, Breakwater, PCIe -/
  dropped : List Nat := []
deriving DecidableEq, Repr

/-! ## Interrupts -/

/-- A Beacon source (R513): waiting, in service and where, the level of its input, the count C of the firing it waits on and
of its claim, and whether a watchdog of R524 has passed. -/
structure BeaconSrc where
  pend : Bool := false
  act : Bool := false
  lp : Nat := 0
  level : Bool := false
  fired : Nat := 0
  claimed : Nat := 0
  starved : Bool := false
  hung : Bool := false
deriving DecidableEq, Repr

/-- The Beacon (R503 to R527): its sources; each processor's interrupt stack, innermost first, as (source, running
priority), 16 for a fast one; the processors whose last EOI was ignored, a bit each. -/
structure BeaconSt where
  srcs : SMap BeaconSrc := []
  irqs : SMap (List (Nat × Nat)) := []
  eoiBad : Nat := 0
deriving DecidableEq, Repr

/-! ## Power, reset, boot -/

/-- Power, supply and reset (R553 to R568, R575 to R578): domains going up, going down, and timed out while they were requested; halves
whose repair requests their domains (R466); AVSBus: the command that waits for its acknowledgement, mV, its failures, adaptation
is stopped; why the core is in reset: power-on reset is not yet released, RESET_N is low, a TAP instruction holds it (R619); a
reset by TJ_TRIP holds boot (R607); instances in block reset, by first page (R77); RST_SW.ARM: its requester and the count C, and RST_CAUSE.SOFTWARE
before its GO (R567, R579); sleep: asleep, entry is to end the plan (R575), the plan document is to be submitted, the wake sequence is to be replayed (R578). -/
structure PowerSt where
  up : List Nat := []
  down : List Nat := []
  failed : List Nat := []
  repair : List Nat := []
  avsCommand : Option Nat := none
  avsTries : Nat := 0
  avsStopped : Bool := false
  inReset : Bool := true
  por : Bool := true
  pinLow : Bool := false
  held : Bool := false
  tripped : Bool := false
  resetting : List Nat := []
  swArm : Option (Requester × Nat) := none
  /-- source and effective severity of the CHIP reaction whose reset is to begin (R492) -/
  resetBy : Option (Nat × Nat) := none
  asleep : Bool := false
  planEnds : Bool := false
  replanDue : Bool := false
  wakeSeqDue : Bool := false
deriving DecidableEq, Repr

/-- A sensor write of a boot or wake sequence (R572). -/
structure SensorEntry where
  window : Nat
  width : Nat
  devAddr : Nat
  reg : Nat
  delayUs : Nat
  value : Nat
deriving DecidableEq, Repr

/-- A segment of an image (R572): its place and size in the slot, its kind, whether its entry keeps to the layout. -/
structure BootSegment where
  off : Nat
  len : Nat
  kind : Nat
  ok : Bool
deriving DecidableEq, Repr

/-- The boot ROM (R569 to R574): it reads the slot that BOOT_STAT names; slot A has failed in this boot; the segments of the verified
header; segments applied; the failure that BOOT_FAIL is to deal with; the roles of 802.1AS that the image gave (R572). -/
structure BootSt where
  reading : Bool := false
  fallback : Bool := false
  segs : List BootSegment := []
  applied : Nat := 0
  failed : Option Nat := none
  gptp : List Byte := []
deriving DecidableEq, Repr

/-- The groups of signal balls (R589), each with the index of a ball in its group: lanes of Weatas, P and N side; the pairs of the CSI-2 ports, of
PCIe and of Ethernet; and the single balls. -/
inductive Ball where
  | weatasP (lane : Fin 32) | weatasN (lane : Fin 32) | lmon (i : Fin 42) | csiRx (i : Fin 80) | csiTx (i : Fin 20) | pcie (i : Fin 64)
  | pcieRef (i : Fin 2) | perst (n : Fin 2) | ethernet (i : Fin 8) | lpddr (i : Fin 608) | xspi (i : Fin 13) | jtag (i : Fin 5) | gpio (i : Fin 48)
  | resetN | wakeN | sleepAck | hmode | testMode | avsClk | avsMdata | avsSdata | xtal (i : Fin 2) | errN | errTog | thermal (i : Fin 2)
  | dnc (i : Fin 4)
deriving DecidableEq, Repr

/-- A boundary cell (R620): a DC cell, or an AC cell of IEEE 1149.6. -/
inductive CellKind where
  | dc | ac
deriving DecidableEq, Repr

/-- The cell that a ball carries (R620): none on the LPDDR5X channels, PCIE_REFCLK, the crystal, the line monitor, the diode and the DNC balls. -/
def Ball.cellKind : Ball → Option CellKind
  | .lpddr _ | .pcieRef _ | .xtal _ | .lmon _ | .thermal _ | .dnc _ => none
  | .weatasP _ | .weatasN _ | .pcie _ | .ethernet _ => some .ac
  | .csiRx _ | .csiTx _ | .perst _ | .xspi _ | .jtag _ | .gpio _ | .resetN | .wakeN | .sleepAck | .hmode | .testMode | .avsClk | .avsMdata
  | .avsSdata | .errN | .errTog => some .dc

/-- The place of a ball's cell in the model's boundary register, none without a cell. DESIGN CHOICE: the order of R589, one cell a ball; the order of
the device stands in its BSDL file (R620), which is no part of the spec. -/
def Ball.cell : Ball → Option (Fin 314)
  | .weatasP i => some (Fin.ofNat 314 i)
  | .weatasN i => some (Fin.ofNat 314 (32 + i))
  | .csiRx i => some (Fin.ofNat 314 (64 + i))
  | .csiTx i => some (Fin.ofNat 314 (144 + i))
  | .pcie i => some (Fin.ofNat 314 (164 + i))
  | .perst i => some (Fin.ofNat 314 (228 + i))
  | .ethernet i => some (Fin.ofNat 314 (230 + i))
  | .xspi i => some (Fin.ofNat 314 (238 + i))
  | .jtag i => some (Fin.ofNat 314 (251 + i))
  | .gpio i => some (Fin.ofNat 314 (256 + i))
  | .resetN => some 304
  | .wakeN => some 305
  | .sleepAck => some 306
  | .hmode => some 307
  | .testMode => some 308
  | .avsClk => some 309
  | .avsMdata => some 310
  | .avsSdata => some 311
  | .errN => some 312
  | .errTog => some 313
  | .lpddr _ | .pcieRef _ | .xtal _ | .lmon _ | .thermal _ | .dnc _ => none

/-- What a ball does at the hand of the TAP (R618): its normal function, a level from its cell, high impedance, an AC pulse or pulse train from
its cell. -/
inductive BallDrive where
  | normal | level (high : Bool) | highZ | pulse (high : Bool) | train (high : Bool)
deriving DecidableEq, Repr

/-- The data register that a TAP instruction selects (R618). -/
inductive TapRegister where
  | identification | boundary | bypass | hidden
deriving DecidableEq, Repr

/-- The balls and the sensors (R589 to R612): the two-reading debounce, the TAP. -/
structure PinSt where
  /-- consecutive readings at or above, and 3 °C below, each of WARN, 125 °C and 140 °C (R606) -/
  reach : List Nat := [0, 0, 0]
  leave : List Nat := [0, 0, 0]
  reached : List Bool := [false, false, false]
  /-- readings of sensor 11 below 115 °C in a row (R607) -/
  cool : Nat := 0
  /-- GPIO_OE written 0 since the driver went off (R600), a bit a ball -/
  oeCleared : Nat := 0
  /-- the current TAP instruction (R618) -/
  tap : Nat := 0x01
  /-- the boundary register (R620): the level that each ball's cell holds -/
  boundary : BitVec 314 := 0
deriving DecidableEq, Repr

/-- A unit built as two copies: Tidemark, route crossbar, Seawall arbiter, Breakwater; the PCIe controllers in x16 mode (R363). -/
inductive CopiedUnit where
  | tidemark | crossbar | seawall | breakwater | controllers
deriving DecidableEq, Repr

end Sys2Proof.Machine
end

