-- ==== Sys2Proof/Machine/TypesPorts.lean ====
section
/-!
DEFINITION. Sys2Proof/Machine/TypesPorts.lean: the state of the ports that stands behind their registers, as plain data:
Ethernet, Weatas lanes, CSI-2 ports, Inlets and streams, capture sync, Jetty windows.
-/
namespace Sys2Proof.Machine

/-! ## Ethernet (R405 to R418) -/

/-- A time-stamp of a MAC (R407). The fractions are u0.16 ns. -/
structure MacStamp where
  matched : Bool
  domsel : Nat
  twoStep : Bool
  msgType : Nat
  domain : Nat
  seqId : Nat
  cNs : Nat
  cFrac : Nat
  domNs : Nat
  domFrac : Nat
deriving DecidableEq, Repr

/-- A frame waiting at an egress port: its bytes from the destination address, without FCS; the receive stamp, in
2⁻¹⁶ ns of C, of a frame that the bridge forwards. -/
structure EthFrame where
  bytes : List Byte
  stampIn : Option Nat := none
deriving DecidableEq, Repr

/-- A gate control list (R413): (GATES, INTERVAL_NS) entries, its cycle and base. -/
structure GateList where
  entries : List (Nat × Nat)
  cycle : Nat
  base : Nat
deriving DecidableEq, Repr

/-- A MAC behind its registers. -/
structure MacSt where
  rxStamps : List MacStamp := []
  txStamps : List MacStamp := []
  /-- the eight class queues, class 0 first -/
  queues : List (List EthFrame) := [[], [], [], [], [], [], [], []]
  /-- credits of the shapers, in bits × 1,000, class 0 first, and the count C they were taken at -/
  credits : List Int := [0, 0, 0, 0, 0, 0, 0, 0]
  creditAt : Nat := 0
  oper : Option GateList := none
  admin : Option GateList := none
  /-- the gate entry in force and the P at which it began -/
  entry : Nat := 0
  entryStart : Nat := 0
  cycleStart : Nat := 0
deriving DecidableEq, Repr

/-- A forwarding-table entry (R410, R425). -/
structure FdbEntry where
  valid : Bool := false
  isStatic : Bool := false
  ports : Nat := 0
  vid : Nat := 0
  addr : Nat := 0
  lastMatch : Nat := 0
deriving DecidableEq, Repr

/-- A frame that the stream port holds, by its key, stream × 2³² + sequence number: what of it waits to be sent, in runs at their byte offset (R416). -/
structure StreamFrame where
  key : Nat
  half : Nat
  format : Nat
  /-- the line that comes next (R460) -/
  next : Nat := 0
  held : List (Nat × List Byte) := []
  /-- its record is in -/
  complete : Bool := false
  /-- nothing of it has been sent -/
  first : Bool := true
deriving DecidableEq, Repr

/-- A stream slot of the stream port (R414 to R417). -/
structure StreamSlot where
  /-- the plan output bound: stream, output index k, Drift channel, sentinel -/
  bound : Option (Nat × Nat × Nat × Bool) := none
  /-- sequence_num of the next Ethernet frame (R415) -/
  seqNum : Nat := 0
  /-- (key, line) pairs of the frames taken in last, for a sentinel slot's second copies -/
  accepted : List (Nat × Nat) := []
  /-- frames held, oldest first -/
  frames : List StreamFrame := []
  /-- the key of the frame whose rest is discarded (R417); the last frame was -/
  discarding : Option Nat := none
  lastBad : Bool := false
  /-- SL_CFG PCP, VID, DA, ID and PRES, sentinel and output latched for a frame, by its key (R28, R37, R414) -/
  latches : List (Nat × List Nat) := []
deriving DecidableEq, Repr

/-- The internal bridge with its stream port and management queues (R410, R413, R414). -/
structure BridgeSt where
  fdb : SMap FdbEntry := []
  mgTx : List Byte := []
  mgRx : List (Nat × List Byte) := []
  mgCur : List Byte := []
  slots : SMap StreamSlot := []
deriving DecidableEq, Repr

/-! ## Weatas lanes (R88 to R147) -/

/-- A back-channel message (R129): its TYPE and payload. -/
structure BcMessage where
  type : Nat
  payload : List Byte
deriving DecidableEq, Repr

/-- A timed FSYNC (R130): its ID, output and DELAY, the planned departure of its /T/ in 1/16 ns of P, the tide decided. -/
structure Fsync where
  id : Nat
  out : Nat
  delay : Nat
  depart : Int
  tide : Nat
deriving DecidableEq, Repr

/-- A packet for the lane itself (R126): its kind, its payload without the CRC, its arrival stamp in 1/16 ns. -/
structure LanePacket where
  kind : Nat
  payload : List Byte
  stamp : Nat
deriving DecidableEq, Repr

/-- A forward packet as the lane receives it (R122, R124): the first eight bytes of its START block, its payload bytes, whether
a byte lies in an uncorrectable codeword or a dropout cut it, and the counts C, in 1/16 ns, at which its first and its last
bit crossed the balls, with the receive pipeline removed (R126, R177). `more`: its end has not come yet; the payload is what has. -/
structure ForwardPacket where
  header : List Byte
  payload : List Byte
  broken : Bool
  start : Nat
  stop : Nat
  more : Bool := false
deriving DecidableEq, Repr

/-- A symbol in the receiver (R92): its ADC code, and the ideal level it is decided to, in 1/256 of an ADC code. -/
structure RxSymbol where
  code : BitVec 6
  level : Int
deriving DecidableEq, Repr

/-- The coefficients that free adaptation has come to (R93): VGA, PEAK, the FFE taps and H1, as register codes. -/
structure RxCoefs where
  vga : Nat
  peak : Nat
  ffe : List Nat
  h1 : Nat
deriving DecidableEq, Repr

/-- A bounded equalizer step (R96): the coefficients it moves, each with its change; for the VGA, the ADC codes that it holds at an RMS of 12
(R92). -/
inductive EqStep where
  | vga (codes : List (BitVec 6))
  | peak (d : Int)
  | ffe (taps : List (Fin 24 × Int))
  | h1 (d : Int)
deriving DecidableEq, Repr

/-- A series of injections (R108). -/
structure Injection where
  kind : Nat
  len : Nat
  count : Nat
  gap : Nat
deriving DecidableEq, Repr

/-- What the blocks of a window bring (R119, R121, R127): blocks counted in HDR_ERR, payload blocks, those of them that are not IDLE. -/
structure BlockCounts where
  bad : Nat := 0
  seen : Nat := 0
  busy : Nat := 0
deriving DecidableEq, Repr

/-- The place of the forward stream in its superframe (R119, R120): the next codeword, 0 to 51; bits of a block that is not complete, none where
they lie in a codeword that was not delivered; the scrambler's register at the first payload bit of that block. -/
structure BlockPlace where
  cw : Nat := 0
  carry : Option (List Bool) := some []
  lfsr : Nat := 2 ^ 31 - 1
deriving DecidableEq, Repr

/-- A lane behind its registers. -/
structure LaneSt where
  /-- the mode range and the medium latched for this training (R89); the MODES mask of the last accepted CAP (R134) -/
  modeMin : Nat := 0
  modeMax : Nat := 3
  medium : Nat := 0
  modes : Option Nat := none
  /-- the limits that the camera declared: SWING_MAX, POST_MAX, PRE_MAX; the setting acknowledged last: SWING, PRE, POST; a
  training has completed (R112, R144) -/
  farMax : Nat × Nat × Nat := (0, 0, 0)
  farNow : Nat × Nat × Nat := (0, 0, 0)
  trained : Bool := false
  /-- counts C: of the entry to training (R135), of the entry to DROPOUT (R141); of the last step of the VGA, of PEAK, of the FFE, of H1
  (R96), of the last adaptive far change (R100) -/
  trainAt : Nat := 0
  dropAt : Nat := 0
  vgaAt : Option Nat := none
  peakAt : Option Nat := none
  ffeAt : Option Nat := none
  h1At : Option Nat := none
  farAt : Option Nat := none
  /-- the last valid marker of a run: its SF_COUNT; markers in the run (R133, R141) -/
  lastSf : Nat := 0
  run : Nat := 0
  /-- consecutive uncorrectable codewords (R141), uncorrectable ones in the window (R140) -/
  uncorrRun : Nat := 0
  uncorrWindow : Nat := 0
  /-- VERIFY (R133): symbols corrected; an error has been seen -/
  verifyCorr : Nat := 0
  verifyBad : Bool := false
  /-- the SEQ expected next (R125) -/
  seqNext : Option Nat := none
  /-- the place in the forward stream, none until a valid marker has given it; the payload blocks of the 1 ms window (R127); the packet in
  progress (R95, R141) -/
  place : Option BlockPlace := none
  load : BlockCounts := {}
  inPacket : Option ForwardPacket := none
  /-- TXEQ (R136): the trial in hand; the best SNR, as the sums of the ideal levels and of the slicer error, with its trial; the final
  setting has been sent -/
  trial : Nat := 0
  best : Option (Nat × Nat × Nat) := none
  final : Bool := false
  /-- an EQ command that awaits its EQ_ACK: SWING, PRE, POST (R131); a setting is to be sent at the next far opening (R100) -/
  eqSent : Option (Nat × Nat × Nat) := none
  eqDue : Bool := false
  /-- coefficients written in FROZEN and not yet applied, by field address (R98) -/
  manual : List (Nat × Nat) := []
  /-- series of injections, the running one first, and the generator's bit at which that one began (R108); the register that the generator
  started from, and the count C at which it started (R106, R107) -/
  injections : List Injection := []
  injAt : Nat := 0
  genSeed : Nat := 0
  genAt : Nat := 0
  /-- the outstanding probe: its ID, t_out in 1/16 ns once sent; the last PROBE_ID; lost ones in a row; results, newest first
  (R138, R139) -/
  probe : Option (Nat × Option Nat) := none
  probeId : Nat := 0
  lostRun : Nat := 0
  delays : List Int := []
  /-- queued messages, in order of queueing; queued FSYNCs; where the last FSYNC's /T/ and where that of the last other message left, 1/16 ns of
  P (R130); the running disparity is positive; code groups of messages sent in the 1 ms window (R128, R145) -/
  queue : List BcMessage := []
  fsyncs : List Fsync := []
  lastT : Option Int := none
  lastOther : Option Int := none
  rd : Bool := false
  bcGroups : Nat := 0
  /-- packets for the lane itself that wait (R126) -/
  inbox : List LanePacket := []
  /-- the class of the last scans and how many in a row (R103) -/
  scanClass : Nat := 7
  scanRun : Nat := 0
deriving DecidableEq, Repr

/-! ## Inlets and streams (R167 to R197) -/

/-- What a packet is to an Inlet (R169). -/
inductive PacketKind where
  | frameStart | frameEnd | embedded | pixel | gap
deriving DecidableEq, Repr

/-- A checked packet on its way through an Inlet: channel, data type, the frame number of a short packet, payload bytes, marks,
the active-domain time of its arrival in 1/16 ns, the count C of its end in ns. -/
structure InletItem where
  kind : PacketKind
  vc : Nat
  dt : Nat := 0
  num : Nat := 0
  data : List Byte := []
  broken : Bool := false
  crcOk : Bool := true
  stamp : Nat := 0
  stop : Nat := 0
deriving DecidableEq, Repr

/-- A sensor port's Inlet behind its registers: items that wait, in order; counts C of uncorrectable headers (R170). -/
structure PortSt where
  inbox : List InletItem := []
  badHeaders : List Nat := []
deriving DecidableEq, Repr

/-- A part of a frame (R181, R190): its Cove; its status, none while it runs; its rows. -/
structure PartSt where
  cove : Nat
  status : Option Nat
  rows : Nat := 0
deriving DecidableEq, Repr

/-- What a sync decision was, with the settings it used (R205 to R211): its tide and REASON; the edge in 1/16 ns of P; V and
whether it was designated; ρ − 1 in ppb; L and E in 2⁻¹⁶ ns; SENS_LAT and the cable in 1/16 ns; SOF_LAT in ns. For a frame
without a decision, REASON 5 or 6 and the settings at its start. -/
structure SyncDecision where
  tide : Nat
  reason : Nat
  edge : Int := 0
  v : Nat := 0
  pred : Bool := false
  rho : Int
  l : Int := 0
  e : Int := 0
  anchor : Nat
  unit : Nat
  bias : Nat
  sens : Nat
  row : Nat
  refRow : Nat
  sofLat : Nat
  slipUs : Nat
  cable : Nat
deriving DecidableEq, Repr

/-- A stream behind its registers. -/
structure StreamSt where
  /-- tide number of the last frame start, none before the first; tides without one (R176, R179) -/
  lastTide : Option Nat := none
  silent : Nat := 0
  silentNow : Bool := false
  /-- the open frame: its plan entry (R62), frame number, tide, registers latched for it (R173), parts -/
  plan : Option PlanStream := none
  num : Nat := 0
  tide : Nat := 0
  latch : SMap Nat := []
  parts : List PartSt := []
  /-- pixel packets taken, by exposure (R168) -/
  counts : List Nat := [0, 0, 0, 0]
  /-- a line error; embedded packets seen (R202); raw slots of the next frame, by half (R184) -/
  lineErr : Bool := false
  embedded : Nat := 0
  rawNext : List Nat := [0, 0]
  /-- fault conditions of the last frame (R196) -/
  overrun : Bool := false
  xlate : Bool := false
  inlineOver : Bool := false
  /-- header times of the last packets of the frame, newest first; those of exposure 0 of row 0 and of the latest row; the last
  periods (R180), all in 1/16 ns; the frame-start-to-first-header interval of the last frame; the frame start's stamp -/
  headers : List Nat := []
  rowFirst : Option Nat := none
  rowLast : Option Nat := none
  periods : List Nat := []
  firstGap : Option Nat := none
  startAt : Nat := 0
  /-- the predicted next header, 1/16 ns of P; none: no header is awaited; some none: there is no prediction (R180) -/
  awaited : Option (Option Nat) := none
  /-- the sensor check (R433): the counter of the previous complete frame; the check code so far; what the embedded packet gave:
  the check value and the counter -/
  prevCount : Option Nat := none
  checkCrc : Nat := 0
  checkRead : Option (Nat × Option Nat) := none
  /-- the next frame is lost to a change of plan (R63) -/
  gapDue : Bool := false
  /-- the sync decision of the frame, and whether it slipped (R209); a value has been extracted from the frame, or not (R202) -/
  sync : Option (SyncDecision × Bool) := none
  embDone : Bool := false
deriving DecidableEq, Repr

/-- The capture sync of a port (R198 to R216): values read, by designated tide; the latest known; the last decided edge,
1/16 ns; ρ − 1 in ppb; the rate-range condition; decisions, newest first. -/
structure SyncSt where
  values : List (Nat × Nat) := []
  latest : Option Nat := none
  lastEdge : Option Int := none
  rho : Int := 0
  rangeBad : Bool := false
  decisions : List SyncDecision := []
deriving DecidableEq, Repr

/-! ## CSI-2 ports (R148 to R166) -/

/-- What the PHY found of a burst's sync sequence (R152). -/
inductive SyncSequence where
  | good | oneBit | bad
deriving DecidableEq, Repr

/-- A receive port behind its registers: counts C of PHY errors of the last 1 ms (R152); edges scheduled for LFS_n, in 1/16 ns
of P with the tide decided (R160); the pulse in progress: its leading edge and its end, in 1/16 ns of P; trigger stamps with
FALLING (R162). -/
structure CsiRxSt where
  errors : List Nat := []
  edges : List (Int × Nat) := []
  pulse : Option (Int × Int) := none
  triggers : List (Nat × Bool) := []
  /-- EN has been written 0 since the driver went off (R161) -/
  lfsCleared : Bool := false
deriving DecidableEq, Repr

/-- What has its slot on a line-paced output (R157). -/
inductive TxItem where
  | frameStart
  | line (i : Nat)
  | record
deriving DecidableEq, Repr

/-- What a transmit port puts on the wire (R154, R164): a packet, with its slot and, for a line, what the hold copy becomes once it
has been sent; a deskew sequence has no bytes. -/
structure TxPacket where
  bytes : List Byte
  slot : Nat
  hold : Option (Nat × List Byte) := none
deriving DecidableEq, Repr

/-- A frame in a transmit slot (R154 to R159): its key, stream × 2³² + sequence number; complete lines that wait; its record; items whose slots have
come and which wait, in order; whether frame start has gone, substituted lines, truncated, a line cut to 32,768 bytes. -/
structure TxFrame where
  key : Nat
  lines : List (Nat × List Byte) := []
  record : Option (List Byte) := none
  slots : List TxItem := []
  started : Bool := false
  held : List Nat := []
  truncated : Bool := false
  long : Bool := false
deriving DecidableEq, Repr

/-- A transmit slot (R153): the plan output bound: stream, output index k, Drift channel, sentinel; frames in it, oldest first;
(key, line) of units accepted, the record as 0xFFFF; keys of frames ended, whose later units are discarded; the hold copy with its stream;
held lines in a row; PACE, LSLE, VC, HOLD_MAX, DT, sentinel and output latched for a frame, by its key (R28, R37); frames ended; what the
last frame left for R166. -/
structure TxSlot where
  bound : Option (Nat × Nat × Nat × Bool) := none
  frames : List TxFrame := []
  accepted : List (Nat × Nat) := []
  ended : List Nat := []
  hold : Option (Nat × List Byte) := none
  heldRun : Nat := 0
  latches : List (Nat × List Nat) := []
  sent : Nat := 0
  lastLong : Bool := false
  lastHeld : Bool := false
deriving DecidableEq, Repr

/-- A transmit port behind its registers: its slots; the packet on the wire and those ready behind it. -/
structure CsiTxSt where
  slots : SMap TxSlot := []
  wire : List TxPacket := []
deriving DecidableEq, Repr

/-! ## Jetty windows (R372 to R394) -/

/-- A bus transaction (R129): BUS, OP, target, write bytes, bytes to read; the ORDER of its data (R374). -/
structure BusTxn where
  bus : Nat
  op : Nat
  target : Nat
  wr : List Byte
  rd : Nat
  order : Nat := 0
deriving DecidableEq, Repr

/-- A transaction slot (R376): open; generation; the generation of a missing reply (R381); requester code, window word or mirror
entry, the transaction, retries, count C of allocation; a BUSY answer waits for its retry (R377). -/
structure JettySlot where
  isOpen : Bool := false
  gen : Nat := 0
  late : Option Nat := none
  requester : Nat := 0
  word : Nat := 0
  txn : BusTxn := ⟨0, 0, 0, [], 0, 0⟩
  retries : Nat := 0
  since : Nat := 0
  retry : Bool := false
deriving DecidableEq, Repr

/-- A held-open read (R378): requester, offset, bytes; the slots of its words with what they gave, 0 from one that failed; the header
of a host's request; a transaction of it has failed (R375). -/
structure HeldRead where
  req : Requester
  off : Nat
  size : Nat
  words : List (Nat × Option Nat)
  header : Nat
  failed : Bool := false
deriving DecidableEq, Repr

/-- An event (R389): KIND, stamp, INDEX, LEVEL, IBI address and payload. -/
structure SensorEvent where
  kind : Nat
  stamp : Nat
  index : Nat := 0
  level : Nat := 0
  addr : Nat := 0
  ibi : List Byte := []
deriving DecidableEq, Repr

/-- A window behind its registers. -/
structure JettySt where
  slots : SMap JettySlot := []
  reads : List HeldRead := []
  events : List SensorEvent := []
  /-- replies handed over by the lane, in order: KIND, payload without the CRC (R126) -/
  inbox : List (Nat × List Byte) := []
  /-- the mirror cycle in progress: the tide at its start, the entries still to take, writes as m and reads as 64 + m -/
  cycle : Option (Nat × List Nat) := none
  /-- slots of local transactions, in allocation order (R377) -/
  localQueue : List Nat := []
  /-- the latest POLL_ID; it is unanswered; misses in a row (R391) -/
  pollId : Nat := 0
  polled : Bool := false
  missRun : Nat := 0
  /-- sensor writes of a boot or wake sequence (R573), in order; the lane has been ACTIVE since they came; one is on its way; the count C
  before which the next one waits -/
  sensors : List SensorEntry := []
  sensorRuns : Bool := false
  sensorBusy : Option SensorEntry := none
  sensorAfter : Nat := 0
deriving DecidableEq, Repr

end Sys2Proof.Machine
end

