-- ==== Sys2Proof/Machine/TypesHalves.lean ====
section
/-!
DEFINITION. Sys2Proof/Machine/TypesHalves.lean: the state of the halves that stands behind their registers, as plain data:
Coves, Harbour, Drift, PCIe, Lighthouse and Sounding, Seawall, control cores and their command ring.
-/
namespace Sys2Proof.Machine

/-! ## Harbour (R284 to R314) -/

/-- A job-table entry (R295) with the requests it has in flight, and those of an earlier generation (R301). -/
structure JobEntry where
  gen : Nat := 0
  state : Nat := 0
  kind : Nat := 0
  cls : Nat := 0
  exposure : Nat := 0
  cove : Nat := 0
  context : Nat := 0
  lateGen : Nat := 0
  stream : Nat := 0
  row : Nat := 0
  late : Bool := false
  col0 : Nat := 0
  seq : Nat := 0
  size : Nat := 0
  since : Nat := 0
  flying : Nat := 0
  lateFlying : Nat := 0
deriving DecidableEq, Repr

/-- A request to a Harbour (R291): its requester (R313; 4: a host access through the aperture), its source (stream or Drift channel), its class (4: none), its job
entry with the generation, its buffer address and size, the bytes of a write, and the requester's own tag. Inside the
Harbour: its number, its local address, what each channel still has to serve, the level it was charged at, whether it has
waited for credit, the count C at its entry, the sentinel bytes ahead of it (R294). -/
structure MemReq where
  requester : Nat
  source : Nat
  cls : Nat
  entry : Option (Nat × Nat)
  ba : Nat
  size : Nat
  write : Option (List Byte)
  tag : Nat
  id : Nat := 0
  pa : Nat := 0
  pieces : List (Nat × Nat) := []
  level : Option Nat := none
  deferred : Bool := false
  entered : Nat := 0
  ahead : Nat := 0
deriving DecidableEq, Repr

/-- How a request ended, for its requester, with its address and size: 0 done; a translation cause of R305; 0x10 an uncorrectable read; 0x11 a job
time-out; 0x12 a reset of the Harbour; 0x20 an error on the host link (R334); 0x30 a Drift request granted for local memory that now translates
to host memory: it is to be granted again. -/
structure MemResult where
  requester : Nat
  source : Nat
  tag : Nat
  cause : Nat
  ba : Nat
  size : Nat
  bytes : List Byte
deriving DecidableEq, Repr

/-- A cached translation (R306): its granule, the buffer address of its first byte, its leaf entry. -/
structure TlbEntry where
  big : Bool
  base : Nat
  leaf : Nat
deriving DecidableEq, Repr

/-- A half's Harbour behind its registers. -/
structure HarbourSt where
  /-- local memory, by local physical address (R285) -/
  mem : SMap Byte := []
  /-- job entries, by global index (R295) -/
  jobs : SMap JobEntry := []
  /-- slice jobs that failed and are to be processed as zeros (R302): stream, sequence number, row, exposure, first column -/
  failedSlices : List (List Nat) := []
  /-- requests on their way into the Harbour; requests inside it, oldest first; ended ones not yet taken up -/
  asks : List MemReq := []
  reqs : List MemReq := []
  results : List MemResult := []
  nextId : Nat := 0
  /-- cached translations, most recently used first -/
  tlb : List TlbEntry := []
  /-- an invalidation waits behind the running one; the requests that the running one waits for have smaller numbers, and the bursts to
  host memory that it waits for are those of channel and number (R306) -/
  invQueued : Bool := false
  invBefore : Nat := 0
  invHost : List (Nat × Nat) := []
  /-- GO has been written since chip reset (R286); a fill is running; channels that failed training or lost it, a bit each -/
  goWritten : Bool := false
  filling : Bool := false
  badChannels : Nat := 0
  /-- what the fill has written of each channel, in fifths of a 64-byte line (R286) -/
  fill : List Nat := [0, 0, 0, 0]
  /-- channels trained with link ECC, a bit each (R287) -/
  linkEcc : Nat := 0
  /-- the next line of patrol scrub -/
  scrubLine : Nat := 0
  /-- counts C of the last corrections, by channel, newest first (R288) -/
  corrections : SMap (List Nat) := []
  /-- the tide in progress: bytes and surplus bytes served and the largest latency, by class; the largest JOB_USED; a
  sentinel request beyond R294; a job time-out -/
  tideBytes : List Nat := [0, 0, 0, 0]
  tideSurplus : List Nat := [0, 0, 0, 0]
  tideLat : List Nat := [0, 0, 0, 0]
  tidePeak : Nat := 0
  tideLate : Bool := false
  tideTimeout : Bool := false
  /-- all-bank refreshes of the slack window in progress (R309) -/
  slackRefreshes : Nat := 0
deriving DecidableEq, Repr

/-! ## Drift (R315 to R344) -/

/-- A Sounding unit's tap of a unit of work (R440, R444): the unit and the settings that the work keeps. -/
structure Tap where
  unit : Nat
  poly : Nat
  fold : Nat
  exp : Nat
deriving DecidableEq, Repr

/-- One side of a transfer: its segments (address, bytes) as far as they are known; of a list (R320), that more pairs are to be read, the
number of the next pair, the bytes not yet placed; how the list ends where it fails: cause and address. -/
structure Segs where
  segs : List (Nat × Nat) := []
  more : Bool := false
  next : Nat := 0
  left : Nat := 0
  fail : Option (Nat × Nat) := none
deriving DecidableEq, Repr

/-- A descriptor in hand (R318): what it says, how far it has come, what it has yet to issue. -/
structure DriftRun where
  serial : Nat
  addr : Nat
  next : Nat
  kind : Nat
  wait : Bool
  fence : Bool
  evt : Bool
  mc : Bool
  sgDst : Bool
  srcW : Nat
  dstW : Nat
  len : Nat
  srcField : Nat
  dstField : Nat
  src : Segs
  dst : Segs
  /-- first after IDLE (R326); the class it runs under (R315); a frame that goes to a port: its DEST (R316); of a sentinel stream (R364) -/
  first : Bool
  cls : Nat
  port : Option Nat := none
  sentinel : Bool := false
  started : Bool := false
  /-- bytes whose reads have been issued; the holding register and the position of its first byte (R322) -/
  rd : Nat := 0
  holdAt : Nat := 0
  hold : List Byte := []
  /-- bytes issued in writes, by destination; destinations that failed, a bit each, with the position at which each did (R321) -/
  wrote : List Nat := [0]
  failed : Nat := 0
  failAt : List (Nat × Nat) := []
  /-- the last host address written; the flushing read has returned (R331) -/
  lastHost : Option Nat := none
  flushed : Bool := false
  /-- a frame: its stream × 2³² + its number once bound; its record is in (R328); writes not yet issued: address, bytes, record -/
  frame : Option Nat := none
  recorded : Bool := false
  wq : List (Nat × List Byte × Bool) := []
  /-- Sounding taps with the bytes they have seen, by offset (R440, R443) -/
  taps : List Tap := []
  seen : List (Nat × List Byte) := []
deriving DecidableEq, Repr

/-- A burst of a channel (R323). `kind`: 0 read, 1 payload write, 2 record, 3 immediate, 4 flushing read, 5 read data that waits for its turn,
6 descriptor, 7 pair of a source list, 8 pair of a destination list, 9 descriptor no longer wanted. `flying` is false while it waits to be granted
again, `again` where that is a reissue (R334). -/
structure DriftBurst where
  id : Nat
  serial : Nat
  kind : Nat
  ba : Nat
  pos : Nat
  size : Nat
  bytes : List Byte
  dest : Nat
  host : Bool
  addr : Nat
  entry : Option (Nat × Nat)
  tries : Nat := 0
  again : Bool := false
  flying : Bool := true
deriving DecidableEq, Repr

/-- What a Cove hands an output channel (R328): the first segment of a split line, whose bytes come with the line (R329); payload bytes of a
line at their offset; the record of output `out` with the place after the last payload byte and the parts of the frame as (Cove, context), and whether it ends a frame that
is withheld on the wire; the record of a frame that is withheld itself (R192). `line` counts the units of the frame. -/
inductive FrameUnit where
  | segment
  | line (line off : Nat) (bytes : List Byte)
  | record (off : Nat) (bytes : List Byte) (out : Nat) (parts : List (Nat × Nat)) (withheld : Bool)
  | withheld (bytes : List Byte)
deriving DecidableEq, Repr

/-- A unit of a frame on its way to its channel: stream × 2³² + frame number, DEST of the output (R49), whether the stream is a sentinel, the
unit. -/
structure Handed where
  key : Nat
  dest : Nat
  sentinel : Bool
  unit : FrameUnit
deriving DecidableEq, Repr

/-- A unit for a port (R154, R316, R414): its stream and frame, its line, its place in the byte stream, its bytes; the record, or the end of
a withheld frame. -/
structure PortUnit where
  stream : Nat
  seq : Nat
  line : Nat
  off : Nat
  bytes : List Byte
  record : Bool := false
  withheld : Bool := false
deriving DecidableEq, Repr

/-- A Drift channel behind its registers. -/
structure ChannelSt where
  cur : Option DriftRun := none
  /-- a FRAME descriptor fetched in advance (R325) -/
  ahead : Option DriftRun := none
  /-- descriptors that drain, oldest first -/
  drain : List DriftRun := []
  bursts : List DriftBurst := []
  nextId : Nat := 0
  nextSerial : Nat := 0
  halted : Bool := false
  aborting : Bool := false
  pausing : Bool := false
  paused : Bool := false
  /-- no descriptor has been fetched since the channel was IDLE (R326) -/
  fromIdle : Bool := true
  /-- CH_NEXT_LO written and not yet handed over (R336); a burst waits for a job entry (R298) -/
  nextLo : Option Nat := none
  entryWait : Bool := false
  /-- frames lost, as stream × 2³² + number, whose rest is discarded, newest first (R328) -/
  lost : List Nat := []
  /-- what the Coves have handed over, oldest first -/
  inbox : List Handed := []
  /-- units for a port, with its DEST, oldest first (R316) -/
  units : List (Nat × PortUnit) := []
deriving DecidableEq, Repr

/-- A half's path arbiters (R324): the channel granted last, by path and priority. -/
structure ArbiterSt where
  last : SMap Nat := []
deriving DecidableEq, Repr

/-! ## PCI Express (R345 to R371) -/

/-- An MSI-X table entry (R356). -/
structure MsixEntry where
  addr : Nat := 0
  data : Nat := 0
  masked : Bool := true
deriving DecidableEq, Repr

/-- A non-posted request (R351, R352): its tag, the burst it is a piece of, its job entry with the generation, its place in the burst, what
has come; `done` where it is whole and waits for the rest of its burst. -/
structure NpReq where
  tag : Nat
  channel : Nat
  burst : Nat
  entry : Option (Nat × Nat) := none
  off : Nat
  size : Nat
  got : List Byte := []
  done : Bool := false
deriving DecidableEq, Repr

/-- A host access through the aperture on its way (R349): its number, its half, its offset in BAR4, a write, its size, the bytes that have come with
their offsets, bytes still to come; a piece was uncorrectable. -/
structure AperAccess where
  id : Nat
  half : Nat
  off : Nat
  write : Bool
  size : Nat
  got : List (Nat × List Byte) := []
  left : Nat
  bad : Bool := false
deriving DecidableEq, Repr

/-- A function and its controller behind its registers. In x16 mode entry 0 stands for the one function (R366). -/
structure PcieSt where
  /-- PERST_N is low; the port configuration of the boot image has been applied (R346), and what it gave (R572) -/
  perst : Bool := true
  applied : Bool := false
  subVendor : Nat := 0x1F4E
  subDevice : Nat := 0x4016
  barBoot : Option Nat := none
  /-- configuration that no register shows: MSI-X function mask, ASPM L1 enable, Target Link Speed, the log₂ of BAR4's size
  where the host has written it (R348, R356, R359, R362); the base addresses of BARs 0, 2 and 4; ECRC generation and check enables (R345);
  correctable, non-fatal, fatal and unsupported-request reporting enables, a bit each (R358) -/
  msixMask : Bool := false
  aspmL1 : Bool := false
  targetSpeed : Nat := 5
  bar : Option Nat := none
  bars : List Nat := [0, 0, 0]
  ecrcGen : Bool := false
  ecrcCheck : Bool := false
  errReporting : Nat := 0
  table : SMap MsixEntry := []
  pba : List Nat := []
  np : List NpReq := []
  /-- tags of requests of a failed half (R363) -/
  discard : List Nat := []
  /-- aperture accesses on their way, and the number of the next (R349) -/
  aper : List AperAccess := []
  aperNext : Nat := 0
  /-- coefficients last accepted for the device's lane 0 transmitter, by rate (R361) -/
  coefs : List (Nat × Nat × Nat × Nat) := []
  /-- AER (R358): uncorrectable and correctable status, masks, severity, the header log with the error it is of -/
  aerUncor : Nat := 0
  aerCor : Nat := 0
  aerMask : Nat := 0x00400000
  aerCorMask : Nat := 0xE000
  aerSeverity : Nat := 0x00462030
  aerHeader : Nat := 0
  aerFirst : Option Nat := none
deriving DecidableEq, Repr

/-! ## Lighthouse (R427 to R438) -/

/-- A context of a Lighthouse engine: the outputs that have issued a record since the last binding or reset, a bit each
(R429); the patch sums of the previous processed frame, none where a patch did not count (R435); its last frame carried
FROZEN, or SENSOR_BAD; its last comparison differed (R448). -/
structure LightCtx where
  chained : Nat := 0
  prev : List (Option Nat) := []
  frozen : Bool := false
  sensorBad : Bool := false
  differ : Bool := false
deriving DecidableEq, Repr

/-- A record of a sentinel output that waits for its twin (R432). -/
structure TwinRecord where
  stream : Nat
  out : Nat
  half : Nat
  cove : Nat
  context : Nat
  seq : Nat
  pcrc : Nat
  issued : Nat
deriving DecidableEq, Repr

/-- The Lighthouse engines: contexts by 8 × engine + context; records that wait for a twin. -/
structure LightSt where
  ctxs : SMap LightCtx := []
  twins : List TwinRecord := []
deriving DecidableEq, Repr

/-! ## Coves (R217 to R283) -/

/-- A memory table of a Cove context (R220, R252). -/
inductive CoveTable where
  | pwl (e : Nat)
  | map
  | mesh
  | tone
  | lut
  | coef (k : Nat)
deriving DecidableEq, Repr

/-- The read of a table for a frame: its size, the pieces that have come, bytes still to come, the lowest offset that failed. -/
structure TableRead where
  table : CoveTable
  size : Nat
  got : List (Nat × List Byte) := []
  left : Nat
  fail : Option Nat := none
deriving DecidableEq, Repr

/-- What a memory operation of a Cove is for (R220, R234, R258). -/
inductive CoveWork where
  | table (t : CoveTable)
  | stat
  | learn
deriving DecidableEq, Repr

/-- A memory operation of a Cove: its tag, frame, context, purpose, offset, address, size, bytes of a write, and its job entry once it
has one; it has waited for an entry (R298). A learn write that has not gone holds the ring's base, and SIZE_LOG2 as its offset (R234). -/
structure CoveOp where
  tag : Nat
  stream : Nat
  seq : Nat
  context : Nat
  work : CoveWork
  off : Nat
  ba : Nat
  size : Nat
  write : Option (List Byte) := none
  entry : Option (Nat × Nat) := none
  waited : Bool := false
deriving DecidableEq, Repr

/-- Samples of an exposure line that a part has processed: row, exposure, first column, codes. -/
structure PixelRun where
  row : Nat
  e : Nat
  col0 : Nat
  codes : List Nat
deriving DecidableEq, Repr

/-- A unit of work of a Cove (R271): an in-line chunk that is complete since the count C `ready`, or a slice job with its entry. -/
structure CoveUnit where
  stream : Nat
  seq : Nat
  run : PixelRun
  ready : Nat := 0
  entry : Option (Nat × Nat) := none
deriving DecidableEq, Repr

/-- A slice on its way to a Cove (R299): its context, its entry, its job's frame and place, the byte offset in the line of what is read, the pieces
that have come and the bytes still to come. -/
structure SliceBuf where
  context : Nat
  entry : Nat
  gen : Nat
  stream : Nat
  seq : Nat
  run : PixelRun
  size : Nat
  first : Nat
  got : List (Nat × List Byte) := []
  left : Nat
deriving DecidableEq, Repr

/-- A context of a Cove between frames: BL_OFF of its last frame, none since it was bound (R229); the last measurement with the frame
it is of (R228); the last frame that started; stream and number of the last that was judged; the conditions of its last frame, a bit each
(R250, R283); a learn operation runs (R234); LRN_WR has wrapped, so that its ring is full (R235). -/
structure CoveCtx where
  blOff : Option (List Nat) := none
  measured : Option (Nat × List (Option Nat)) := none
  lastSeq : Option Nat := none
  last : Option (Nat × Nat) := none
  flags : Nat := 0
  learning : Bool := false
  ringFull : Bool := false
deriving DecidableEq, Repr

/-- A Cove behind its registers: its contexts; complete chunks of its input store, oldest first; slices; the unit that runs with the
count C at its start; memory operations; the next tag; spans of C it was busy in. -/
structure CoveSt where
  ctxs : SMap CoveCtx := []
  store : List CoveUnit := []
  slices : List SliceBuf := []
  unit : Option (Nat × CoveUnit) := none
  ops : List CoveOp := []
  nextTag : Nat := 0
  busy : List (Nat × Nat) := []
deriving DecidableEq, Repr

/-- A part of a frame in its Cove (R181, R219): the status the Inlet gave it, none while it runs (R190), with the rows delivered; its
register values; what has been processed; the rows it is to process, once it has ended; the rows counted so far; tables; BL_EFF;
conditions found (as in CoveCtx.flags); a stage failed; windows that pass R263, a bit each; finds in the frame (R231, R233, R240) and
learn entries written; learn writing has ended. -/
structure CovePart where
  cove : Nat
  context : Nat
  status : Option Nat
  rows : Nat := 0
  latch : SMap Nat := []
  runs : List PixelRun := []
  limit : Option Nat := none
  judged : Nat := 0
  tables : List TableRead := []
  blEff : List Nat := []
  flags : Nat := 0
  stage : Bool := false
  windows : Nat := 0
  statics : Nat := 0
  finds : Nat := 0
  motion : Nat := 0
  learned : Nat := 0
  learnStop : Bool := false
deriving DecidableEq, Repr

/-- An output of a frame in a half (R262): output k, its BYTES, DEST and Drift channel; lines and units handed over, bytes with their
offsets, cut at BYTES; its record is issued; a first segment of it has been handed over (R328); offsets and bytes of what the
link has filtered of it (R461). -/
structure OutFrame where
  k : Nat
  bytes : Nat
  dest : Nat
  channel : Nat
  lines : Nat := 0
  units : Nat := 0
  sent : List (Nat × List Byte) := []
  cut : Bool := false
  issued : Bool := false
  offered : Bool := false
  filtered : List (Nat × Nat) := []
deriving DecidableEq, Repr

/-- A frame in a half, from its start at the Inlet to its last record: what its plan and its start gave it; its parts; its outputs;
exposure lines that the Inlet delivered in error, as 4 × row + exposure (R171); those of which a slice job failed (R302); rows of which every exposure line has been sent on; at its close, MID_TIME and SYNC_STATUS (R210) and the sensor check (R434); raw
ring (R184): the slot and its address, raw writes of each exposure line still to come, slice jobs not yet created as (part, row, strip,
exposure); the statistics block: 0 not yet, 1 being written, 2 written; black level measured; FROZEN once judged; both halves acted; the frame
was in flight in the new half at a switch (R461). -/
structure HalfFrame where
  half : Nat
  stream : Nat
  seq : Nat
  tide : Nat
  sof : Nat
  family : Nat
  sentinel : Nat
  cls : Nat
  memory : Bool
  split : Bool
  width : Nat
  lines : Nat
  exposures : Nat
  packing : Nat
  suppress : Bool
  parts : List CovePart
  outs : List OutFrame
  errs : List Nat := []
  failed : List Nat := []
  whole : Nat := 0
  closed : Bool := false
  mid : Nat := 0
  sync : Nat := 0
  sensor : Option Bool := none
  slot : Nat := 0
  base : Nat := 0
  writes : List (Nat × Nat) := []
  jobsDue : List (Nat × Nat × Nat × Nat) := []
  stat : Nat := 0
  obDone : Bool := false
  frozen : Option Bool := none
  dual : Bool := false
  straddle : Bool := false
deriving DecidableEq, Repr

/-! ## Seawall (R451 to R475) -/

/-- The dual-act window of a sentinel stream at the last switch (R459): the half that acted before, the stream, the count C at its
end, none while it is open. -/
structure DualWindow where
  half : Nat
  stream : Nat
  until_ : Option Nat := none
deriving DecidableEq, Repr

/-- What a half has done in the tide of its health report (R465): a heartbeat path entered loss; a fault of severity 3 or more occurred; a
self-check failure was reported; a BIST slice or a march failed; a sentinel part did not start; a twin record differed. -/
structure HalfTide where
  hbBad : Bool := false
  faultBad : Bool := false
  checkBad : Bool := false
  bistBad : Bool := false
  mbistBad : Bool := false
  partBad : Bool := false
  differ : Bool := false
deriving DecidableEq, Repr

/-- The Seawall behind its registers: the count C at which each half's ACTING last changed (R460); the Cove that a BIST slice of each
half tests (R463); by half, counts C of the last wire toggle and the last good message, the reference count (R455); what the tide has
seen (R465); the dual-act windows of the last switch (R459) and its count C; outputs of frames in flight at it of which the new half has
yet delivered no row whole, as (stream, output, SEQ) (R461); a boundary has passed since a switch was requested (R468). -/
structure SeawallSt where
  actChanged : List Nat := [0, 0]
  bist : List (Option Nat) := [none, none]
  wireAt : List Nat := [0, 0]
  mbxAt : List Nat := [0, 0]
  mbxRef : List (Option Nat) := [none, none]
  tide : List HalfTide := [{}, {}]
  duals : List DualWindow := []
  switchAt : Nat := 0
  splits : List (Nat × Nat × Nat) := []
  switchDue : Bool := false
deriving DecidableEq, Repr

/-! ## Control cores (R528 to R551) -/

/-- What a step of the firmware finds in memory: the bytes that its host reads return, in the order it asks for them; that one of them
fails; local addresses where the inline-ECC check finds an error, true where it is uncorrectable (R288). -/
structure MemView where
  host : List Byte := []
  fail : Bool := false
  errs : List (Nat × Bool) := []
deriving DecidableEq, Repr

/-- How far a long operation has come (R537, R538). A load: bytes written in its half, bytes copied in the other one, the check code so
far, pieces handed to the other half and not yet copied. A learn operation: LRN_WR and the sequence number at its start. A scrub: lines
read, corrected, uncorrectable. A check: bytes read, the check code so far. -/
inductive LongWork where
  | none
  | submit
  | load (done far crc : Nat) (handed : List (List Byte))
  | learn (at_ : Option (Nat × Nat))
  | scrub (line corrected uncorrectable : Nat)
  | check (done crc : Nat)
deriving DecidableEq, Repr

/-- How a command ends: STATUS, RESULT0, RESULT1 (none: the manual gives no value), DETAIL. -/
structure StepEnd where
  status : Nat
  r0 : Option Nat := none
  r1 : Option Nat := none
  detail : Nat := 0
deriving DecidableEq, Repr

/-- What a step of a long operation brings: a load has written more bytes, or the other half has copied a piece of so many; another state of
the work; the end. -/
inductive StepResult where
  | loaded (bytes : List Byte)
  | copied (n : Nat)
  | goes (w : LongWork)
  | ends (e : StepEnd)
deriving DecidableEq, Repr

/-- A ring entry in use (R533 to R540): its count; the count C of its doorbell; its bytes, once fetched; it has started; the processor it
started on; the half whose memory it acts on; steps run for it by that half; the count C of its last step; its work; the processor
on which a step of it is out (R540); it is lost with a processor of this half. -/
structure RingEntry where
  count : Nat
  posted : Nat
  bytes : Option (List Byte) := none
  started : Bool := false
  lp : Nat := 0
  half : Nat := 0
  steps : Nat := 0
  lastStep : Nat := 0
  work : LongWork := .none
  far : Option Nat := none
  lost : Option Nat := none
deriving DecidableEq, Repr

/-- A completion that waits for room (R536): the count and GEN of its entry, how it ended, IRQ. -/
structure Completion where
  count : Nat
  gen : Nat
  status : Nat
  result0 : Nat
  result1 : Nat
  detail : Nat
  irq : Bool
deriving DecidableEq, Repr

/-- A report of a step that another processor has run for a command (R540): entry index, GEN, what it brings. -/
structure StepReport where
  id : Nat
  gen : Nat
  result : StepResult
deriving DecidableEq, Repr

/-- A loop (R542, R543): stream, kind (0 exposure, 1 white balance), commit group, parameter block, the exposure and gain it holds; the
statistics block to be served: its SEQ, the Cove that wrote it, the tide of its write, whether it has been counted late; an update that
waits for its capture: that tide, whether it has been counted late. -/
structure LoopSt where
  stream : Nat
  kind : Nat
  group : Nat
  params : List Byte
  exp : Nat := 0
  gain : Nat := 256
  blk : Option (Nat × Nat × Nat × Bool) := none
  armed : Option (Nat × Bool) := none
deriving DecidableEq, Repr

/-- A lane's downshift policy (R545): FLAP_COUNT, RESTORE_S, the MODE_MAX in force when it was set, counts C of breaks of the last 1 s. -/
structure LinkPolicy where
  flaps : Nat := 0
  restoreS : Nat := 0
  top : Nat := 3
  breaks : List Nat := []
deriving DecidableEq, Repr

/-- The control cores and the Raluf firmware. -/
structure CoreSt where
  /-- mstatus.MIE of each logical processor (R529), a bit each; pairs that are down or reboot, a bit each -/
  mie : Nat := 0
  down : Nat := 0
  /-- tightly coupled memory (R529), by 2¹⁸ × processor + offset -/
  tcm : SMap Byte := []
  /-- the ring: its owner (R533), the half that acted when it was enabled (R532), entries in use, completions that wait, step reports on
  their way -/
  owner : Option Requester := none
  home : Nat := 0
  entries : List RingEntry := []
  waiting : List Completion := []
  reports : List StepReport := []
  /-- the loops; their state at the last tide boundary, and whether they wait to resume from it (R531) -/
  loops : List LoopSt := []
  checkpoint : List LoopSt := []
  resume : Bool := false
  links : SMap LinkPolicy := []
  /-- the fail-over policy (R546); counts C of repairs; consecutive HALF_DIFFER comparisons; the firmware owns REVERT_EN -/
  autoRepair : Bool := true
  repairMax : Nat := 4
  holdoffMs : Nat := 100
  differAction : Bool := false
  differLimit : Nat := 8
  repairs : List Nat := []
  differRun : Nat := 0
  ownsRevert : Bool := false
deriving DecidableEq, Repr

end Sys2Proof.Machine
end

