-- ==== Sys2Proof/Syntax.lean ====
section
/-!
DEFINITION. Sys2Proof/Syntax.lean: the commands of the block, one constructor per row of the opcode table, in the table's order, those
without operands last (compiled code builds at most 245 constructors with operands). A row's operands
are what the outside gives with it: who writes and what, what comes in on a wire, what a supply, a memory or a link does. Operands that come
together stand as a pair. That an instant has come (a timer's, a boundary's) is the command itself.
-/
namespace Sys2Proof

open Machine

/-- A command (R10, R30 and the rule that each constructor names). -/
inductive Instr where
  /-- REG_WRITE (R10): A register write to a field that has no row of its own, applied by the field's access code, with reserved and
  narrow-write handling. -/
  | regWrite (req : Requester) (off : Fin 0x4000000) (k : Fin 4) (v : BitVec 64)
  /-- MULTIWORD_CAPTURE_READ (R9): A read of the lowest word of a multi-register value, which captures the higher words for that requester. -/
  | multiwordCaptureRead (req : Requester) (off : Fin 0x4000000) (k : Fin 4) (header : Nat)
  /-- ACCESS_ERROR (R81): A logged bad access (narrow, unaligned, unmapped, job-table or not-ready page) is recorded in the page-access log and
  counted. -/
  | accessError (req : Requester) (off : Fin 0x4000000) (k : Fin 4) (write : Bool)
  /-- COMMIT_ARM (R39): A write of COMMIT.ARM sets PENDING so the page joins its group's next capture. -/
  | commitArm (req : Requester) (pg : Fin 0x1400) (w : Word)
  /-- COMMIT_DISARM (R39): A write of COMMIT.DISARM withdraws a page's not-yet-captured arm. -/
  | commitDisarm (req : Requester) (pg : Fin 0x1400) (w : Word)
  /-- GROUP_ARM (R42): A write of GRP_CTRL.ARM arms a commit group, or sets LATE or NOFAMILY and drops the arm. -/
  | groupArm (req : Requester) (g : Fin 64) (w : Word)
  /-- GROUP_DISARM (R41): A write of GRP_CTRL.DISARM withdraws a software arm of a group before capture. -/
  | groupDisarm (req : Requester) (g : Fin 64) (w : Word)
  /-- NOPLAN_COMMIT_APPLY (R44): While no plan is live an armed group captures and swaps within 64 core cycles. -/
  | noplanCommitApply (g : Fin 64)
  /-- TIDE_BOUNDARY (R33): A tide boundary of a family: FAM_TIDE increments and boundary-driven work of all blocks runs in that cycle. -/
  | tideBoundary (f : Fin 4)
  /-- PLAN_FIRST_BOUNDARY (R61): With no plan live, a staged plan goes live at the first grid boundary of any of its active families. -/
  | planFirstBoundary (f : Fin 4)
  /-- SLACK_OPEN (R35): The slack window of a family opens. -/
  | slackOpen (f : Fin 4) (corr : Fin 7 × Fin 7) (bad : Bool × Bool)
  /-- DOMAIN_DRAINED (R66): A domain no longer used by the live plan has finished its work and its power-off is requested. -/
  | domainDrained (d : Fin 96)
  /-- INSTANCE_ENABLE (R76): A write of CTRL.EN on an instance where it is RW enables or disables the instance at once. -/
  | instanceEnable (req : Requester) (pg : Fin 0x1400) (w : Word)
  /-- BLOCK_RESET_REQ (R77): A write of CTRL.RST starts a block reset of the instance or is refused and logged. -/
  | blockResetReq (req : Requester) (pg : Fin 0x1400) (w : Word)
  /-- BLOCK_RESET_DONE (R628): A block reset completes and the instance returns to READY with its pages at reset values. -/
  | blockResetDone (pg : Fin 0x1400)
  /-- FAULT_ACK (R78): A write of FLT_ACK acknowledges fault bits, clearing them if the cause is gone. -/
  | faultAck (req : Requester) (pg : Fin 0x1400) (w : Word)
  /-- LANE_RX_CONVERGED (R94): The lane SNR has stayed at or above the mode minimum for 100 µs and convergence is declared. -/
  | laneRxConverged (n : Fin 32) (x : RxCoefs × List RxSymbol)
  /-- ADAPT_STEP (R96): A bounded equalizer step is applied in a quiet opening in TRACK. -/
  | adaptStep (n : Fin 32) (step : EqStep) (intrude : Bool)
  /-- ADAPT_STARVED (R97): No quiet opening long enough for a step was found during STARVE_MS. -/
  | adaptStarved (n : Fin 32)
  /-- RX_FREEZE (R98): A write of RX_ADAPT.FREEZE moves the receiver between TRACK and FROZEN. -/
  | rxFreeze (req : Requester) (n : Fin 32) (w : Word)
  /-- MANUAL_COEF_APPLY (R98): A coefficient written in FROZEN is applied as one step in the next quiet opening. -/
  | manualCoefApply (n : Fin 32)
  /-- RX_SNR_LOW (R116): SNR has been below the mode minimum for 1 ms in TRACK or FROZEN. -/
  | rxSnrLow (n : Fin 32) (w : List RxSymbol)
  /-- FAR_OPENING (R100): A far opening starts and a pending or adaptive equalization command is sent to the camera. -/
  | farOpening (n : Fin 32) (x : List Int × Option (Fin 3 × Bool))
  /-- BC_AMP_SAMPLE (R101): The VDDA_SERH voltage is sampled every 1 ms and the back-channel amplitude is clamped or restored. -/
  | bcAmpSample (n : Fin 32) (mv : Nat)
  /-- LM_SCAN (R103): A line-monitor scan converts a lane's inputs and classifies it, debouncing class changes. -/
  | lmScan (n : Fin 32) (code : Fin 4096) (feedCode : Fin 4096)
  /-- LM_RELEASE (R104): A write of LM_STAT.RELEASE clears HOLD when the class is no longer a holding class. -/
  | lmRelease (req : Requester) (n : Fin 32)
  /-- PRBS_GEN_ENABLE (R107): A write enabling the lane pattern generator, accepted only outside the operating state. -/
  | prbsGenEnable (req : Requester) (n : Fin 32) (w : Word)
  /-- PRBS_INJECT (R108): A write of PRBS_INJ.GO starts a series of error injections on the generator output. -/
  | prbsInject (req : Requester) (n : Fin 32) (w : Word)
  /-- PRBS_INJ_DONE (R108): The last injection of a series has been made and PRBS_INJ_DONE is set. -/
  | prbsInjDone (n : Fin 32)
  /-- PRBS_CHK_ENABLE (R114): A write enabling the checker clears its counters and starts seeding. -/
  | prbsChkEnable (req : Requester) (n : Fin 32) (w : Word)
  /-- PRBS_LOCK (R109): The checker has seen 64 consecutive correct bits and declares LOCKED. -/
  | prbsLock (n : Fin 32)
  /-- PRBS_LOST (R109): 128 or more errors in 1,024 compared bits clear LOCKED and reseed the checker. -/
  | prbsLost (n : Fin 32) (errs : Nat)
  /-- CODEWORD_DECODED (R140): An RS codeword is decoded, corrected or declared uncorrectable. -/
  | codewordDecoded (n : Fin 32) (word : List Nat)
  /-- MARKER_RECEIVED (R121): A valid or invalid marker block is evaluated for alignment, dropout end, overflow and retrain requests. -/
  | markerReceived (n : Fin 32) (sync : Fin 4) (b : List Byte) (spaced : Bool)
  /-- MARKER_MISSED (R141): The marker at its expected position is missing or invalid and the link enters DROPOUT. -/
  | markerMissed (n : Fin 32)
  /-- DROPOUT_TIMEOUT (R142): DROPOUT has lasted TIMEOUT_US and the link restarts training with LINK_LOST. -/
  | dropoutTimeout (n : Fin 32)
  /-- FEC_WINDOW (R140): A 1 ms window closes and FEC_BURST is raised when it held more than UNCORR_MAX uncorrectable codewords. -/
  | fecWindow (n : Fin 32) (fwdUp : Bool) (bcUp : Bool)
  /-- FWD_PACKET_RECEIVED (R124): A forward packet is checked and handed to the Inlet, the Jetty or the lane by kind. -/
  | fwdPacketReceived (n : Fin 32) (p : ForwardPacket)
  /-- CAP_RECEIVED (R136): A camera capability record is checked and applied or rejected. -/
  | capReceived (n : Fin 32)
  /-- PROBE_REPLY (R138): A matching PROBE_REPLY gives a round trip and updates LAT_CABLE. -/
  | probeReply (n : Fin 32)
  /-- EQ_ACK (R131): An EQ_ACK completes a pending equalization command when its values match. -/
  | eqAck (n : Fin 32)
  /-- BC_MESSAGE_SEND (R130): The back-channel transmitter starts the highest-priority queued message. -/
  | bcMessageSend (n : Fin 32) (at_ : Nat)
  /-- FSYNC_DEPART (R130): A timed FSYNC message leaves at its planned instant, is displaced, or is not sent. -/
  | fsyncDepart (n : Fin 32)
  /-- TRAIN_START_RESEND (R132): In WAIT_SIGNAL the hub sends TRAIN START every 100 µs. -/
  | trainStartResend (n : Fin 32)
  /-- SIGNAL_DETECTED (R133): Forward energy is detected in the attempted mode and ACQUIRE begins. -/
  | signalDetected (n : Fin 32)
  /-- TXEQ_TRIAL_MEASURED (R136): A trial transmitter setting has re-adapted for 400 µs and its SNR is measured. -/
  | txeqTrialMeasured (n : Fin 32) (x : RxCoefs × List RxSymbol)
  /-- PROBE_SEND (R139): A PROBE is sent, in the PROBE phase every 50 µs or in ACTIVE every PERIOD_MS. -/
  | probeSend (n : Fin 32)
  /-- PROBE_TIMEOUT (R139): A probe unanswered within 100 µs is lost. -/
  | probeTimeout (n : Fin 32)
  /-- VERIFY_PASS (R133): VERIFY has run 8 ms clean; GO_ACTIVE is sent and the link enters ACTIVE. -/
  | verifyPass (n : Fin 32)
  /-- TRAIN_PHASE_TIMEOUT (R133): A training phase reached its maximum and the mode attempt fails. -/
  | trainPhaseTimeout (n : Fin 32)
  /-- TRAIN_RETRY (R134): RETRY_MS after FAILED the link returns to WAIT_SIGNAL with a new epoch. -/
  | trainRetry (n : Fin 32)
  /-- LINK_RETRAIN (R142): A write of LINK_CTRL.RETRAIN restarts training. -/
  | linkRetrain (req : Requester) (n : Fin 32) (w : Word)
  /-- TEST_START (R144): A write of LINK_CTRL.TEST_START enters lane test mode. -/
  | testStart (req : Requester) (n : Fin 32) (w : Word)
  /-- TEST_STOP (R144): A write of LINK_CTRL.TEST_STOP ends test mode and starts training. -/
  | testStop (req : Requester) (n : Fin 32) (w : Word)
  /-- TEST_RESEND (R144): In test mode TEST is resent every 100 µs until the checker locks. -/
  | testResend (n : Fin 32)
  /-- DESKEW_RECEIVED (R150): A deskew sequence is received on a CSI-2 receive port and calibrates it. -/
  | deskewReceived (n : Fin 8)
  /-- CSI_RX_BURST (R152): An HS burst on a receive port is checked at the PHY level and its packet handed to the Inlet. -/
  | csiRxBurst (n : Fin 8) (sync : SyncSequence) (aligned : Bool) (b : List Byte) (start : Nat) (stop : Nat)
  /-- CLK_LOSS (R152): The clock lane is absent for CLK_LOSS_NS with CONT_CLK = 1; a GAP mark goes to the Inlet. -/
  | clkLoss (n : Fin 8) (b : List Byte) (start : Nat) (stop : Nat)
  /-- ULPS_TRANSITION (R148): A data lane enters or leaves ULPS. -/
  | ulpsTransition (n : Fin 8) (lane : Fin 4) (enter : Bool)
  /-- TX_UNIT_RECEIVED (R155): A transmit slot receives an output line unit from the Drift and keeps or discards it. -/
  | txUnitReceived (m : Fin 2) (k : Fin 4) (h : Fin 2) (begun : Nat) (u : PortUnit)
  /-- TX_LINE_SLOT (R157): A line-paced slot time arrives and the line, record or frame start is sent or marked late. -/
  | txLineSlot (m : Fin 2) (k : Fin 4) (seq : Nat) (item : TxItem)
  /-- TX_HOLD_MARGIN (R159): A sentinel line is incomplete at slot plus HOLD_MARGIN_NS and the hold copy is sent. -/
  | txHoldMargin (m : Fin 2) (k : Fin 4) (seq : Nat) (i : Nat)
  /-- TX_PACKET_SENT (R157): A transmit packet finishes on the wire and the port takes its next ready packet. -/
  | txPacketSent (m : Fin 2)
  /-- LFS_EDGE (R160): A scheduled local frame-sync leading edge is driven or missed. -/
  | lfsEdge (i : Fin 8)
  /-- LFS_PULSE_END (R160): A local frame-sync pulse ends after WIDTH_NS or is shortened. -/
  | lfsPulseEnd (i : Fin 8)
  /-- LFS_READBACK (R161): The LFS ball level differs from the driven level for 2 µs and the driver goes off. -/
  | lfsReadback (i : Fin 8) (level : Bool)
  /-- TRIG_EDGE (R162): A filtered trigger edge is stamped and queued. -/
  | trigEdge (n : Fin 8) (falling : Bool) (back : Nat)
  /-- TRIG_POP (R162): A read of TRIG_TIME_LO pops the head stamp. -/
  | trigPop (req : Requester) (n : Fin 8)
  /-- FRAME_START (R173): An accepted frame start numbers, stamps and rate-checks a frame, latches fields and starts parts. -/
  | frameStart (n : Fin 40)
  /-- PIXEL_PACKET (R171): A pixel packet is checked and delivered to running parts or written to the raw ring. -/
  | pixelPacket (n : Fin 40)
  /-- EMBEDDED_PACKET (R202): An embedded-data packet feeds exposure read-back and the sensor check. -/
  | embeddedPacket (n : Fin 40)
  /-- FRAME_END (R172): A frame end closes the open frame complete or truncated. -/
  | frameEnd (n : Fin 40)
  /-- LINE_TIMEOUT (R177): LINE_TO_US passes without an accepted packet and the frame closes truncated. -/
  | lineTimeout (x : Fin 160)
  /-- GAP_MARK (R178): A GAP mark closes every open frame of the port as truncated. -/
  | gapMark (n : Fin 40)
  /-- SYNC_DECISION (R205): At Q(k) each port of the family is decided and an edge is scheduled or skipped. -/
  | syncDecision (f : Fin 4)
  /-- TABLE_READ_DONE (R220): A Cove table read completes or fails and the stage falls back. -/
  | tableReadDone (n : Fin 16)
  /-- COVE_UNIT_START (R271): A free Cove starts the next in-line chunk or dispatched job. -/
  | coveUnitStart (n : Fin 16)
  /-- COVE_UNIT_END (R271): A Cove unit finishes and its output lines are handed to the Drift. -/
  | coveUnitEnd (n : Fin 16)
  /-- STAT_BLOCK_WRITTEN (R258): A frame's statistics block write completes and STAT_DONE is set. -/
  | statBlockWritten (n : Fin 16)
  /-- FRAME_RECORD_ISSUE (R270): Once payload, parts and statistics are done, the frame record with PCRC and SIG is issued. -/
  | frameRecordIssue (n : Fin 16)
  /-- CHANNEL_TRAINED (R284): An LPDDR5X channel completes training and its capacity is mapped. -/
  | channelTrained (h : Fin 2) (c : Fin 4) (gib : Fin 256)
  /-- ECC_FILL_START (R286): A write of HB_INIT.GO starts the inline-ECC fill. -/
  | eccFillStart (req : Requester) (h : Fin 2)
  /-- ECC_FILL_DONE (R286): The fill front reaches the data capacity and INIT_DONE is set. -/
  | eccFillDone (h : Fin 2)
  /-- REFRESH (R290): A refresh is issued, all-bank in slack or per-bank outside it. -/
  | refresh (h : Fin 2) (x : Fin 4 × Bool)
  /-- REFRESH_RATE_POLL (R290): Every 16 ms the devices' refresh-rate requirement is read. -/
  | refreshRatePoll (h : Fin 2) (c : Fin 4) (mult : Fin 3) (wrCorr : Fin 65536)
  /-- PATROL_SCRUB (R289): Patrol scrub reads and corrects one line of each channel every SCRUB_NS. -/
  | patrolScrub (h : Fin 2) (r0 : EccResult) (r1 : EccResult) (r2 : EccResult) (r3 : EccResult)
  /-- CREDIT_REFILL (R292): Every 1 µs each class credit counter gains BUDGET bytes up to its cap. -/
  | creditRefill (h : Fin 2)
  /-- CLASS_OVER_CHECK (R293): A 1 ms check sets CLASS_OVER for classes with a negative counter. -/
  | classOverCheck (h : Fin 2)
  /-- MEM_REQUEST (R291): A local-memory request enters the Harbour and is translated and queued. -/
  | memRequest (h : Fin 2) (i : Nat) (walk : List EccResult)
  /-- SCHED_DECISION (R293): A channel scheduler serves the oldest request of the first non-empty level. -/
  | schedDecision (h : Fin 2) (c : Fin 4) (x : Bool × Bool)
  /-- MEM_REQUEST_DONE (R288): A memory request completes with its ECC result or as a late completion. -/
  | memRequestDone (h : Fin 2) (id : Nat) (ecc : List (Nat × EccResult)) (linkCorr : List Nat)
  /-- JOB_DISPATCH (R298): A READY slice job is dispatched when its context has room. -/
  | jobDispatch (n : Fin 16) (c : Fin 8)
  /-- JOB_TIMEOUT (R302): A job stays in ISSUED or ACTIVE for TO_US and fails. -/
  | jobTimeout (e : Fin 131072)
  /-- BULK_STARVED (R298): A non-slice request has waited 1 ms for a job entry. -/
  | bulkStarved (h : Fin 2)
  /-- TR_INVALIDATE (R306): A write of TR_INV.GO drops cached translations. -/
  | trInvalidate (req : Requester) (h : Fin 2) (all : Bool)
  /-- INV_DONE (R306): An invalidation completes once earlier accesses have completed. -/
  | invDone (h : Fin 2)
  /-- DRIFT_ADD (R325): A write of CH_AVAIL.ADD makes descriptors available to a channel. -/
  | driftAdd (req : Requester) (c : Fin 1024) (w : Word)
  /-- DRIFT_SET_NEXT (R336): A write of CH_NEXT sets the next descriptor address when PAUSED or IDLE. -/
  | driftSetNext (req : Requester) (c : Fin 1024) (high : Bool) (w : Word)
  /-- DESC_FETCHED (R319): A fetched descriptor is checked and taken or halts the channel. -/
  | descFetched (c : Fin 1024) (desc : Bool) (src : Bool) (dst : Bool) (old : Bool)
  /-- DRIFT_TRIGGER (R326): A tide, slack, timer or channel-pulse trigger is counted for a channel. -/
  | driftTrigger (c : Fin 1024)
  /-- DRIFT_TRIG (R326): A write of CH_CMD.TRIG gives a channel one trigger. -/
  | driftTrig (req : Requester) (c : Fin 1024) (w : Word)
  /-- DRIFT_PAUSE (R336): A write of CH_CMD.PAUSE moves a channel to PAUSING. -/
  | driftPause (req : Requester) (c : Fin 1024) (w : Word)
  /-- DRIFT_RESUME (R335): A write of CH_CMD.RESUME restarts a paused or halted channel. -/
  | driftResume (req : Requester) (c : Fin 1024) (w : Word)
  /-- DRIFT_ABORT (R337): A write of CH_CMD.ABORT aborts a channel's work. -/
  | driftAbort (req : Requester) (c : Fin 1024) (w : Word)
  /-- DRIFT_ABORT_DONE (R337): In-flight requests have returned and the aborted channel goes IDLE. -/
  | driftAbortDone (c : Fin 1024)
  /-- DRIFT_BURST_GRANT (R324): A path arbiter grants one burst to the highest-priority ready channel. -/
  | driftBurstGrant (h : Fin 2) (x : Fin 4 × List EccResult)
  /-- DRIFT_BURST_DONE (R334): A burst or flushing read returns, successfully or with a bus error. -/
  | driftBurstDone (c : Fin 1024) (id : Nat)
  /-- DRIFT_FRAME_UNIT (R328): An output channel takes a line, segment or record of a frame from a Cove. -/
  | driftFrameUnit (c : Fin 1024)
  /-- PERST_ASSERT (R346): A port's PERST_N is asserted and the port is reset. -/
  | perstAssert (n : Fin 2)
  /-- PERST_DEASSERT (R346): PERST_N is deasserted and the port begins link training. -/
  | perstDeassert (n : Fin 2)
  /-- PCIE_LINK_DOWN (R360): A Hot Reset or DL_Down resets the function's configuration. -/
  | pcieLinkDown (n : Fin 2) (hotReset : Bool)
  /-- CONFIG_REQUEST (R346): A configuration request is answered, with Request Retry Status before the boot image applies. -/
  | configRequest (n : Fin 2) (item : ConfigItem) (value : Option Word)
  /-- APERTURE_ACCESS (R349): A host access through BAR4 reaches local memory or fails. -/
  | apertureAccess (n : Fin 2) (off : Nat) (size : Nat) (write : Option (List Byte)) (poisoned : Bool) (hdr01 : BitVec 64) (hdr23 : BitVec 64)
  /-- MSIX_TABLE_WRITE (R357): A host write to the MSI-X table or mask releases pending messages on unmask. -/
  | msixTableWrite (n : Fin 2) (off : Fin 0x10000) (w : Option Word)
  /-- PCIE_COMPLETION (R352): A completion for a device request is received, assembled or discarded. -/
  | pcieCompletion (n : Fin 2) (tag : Fin 1024) (st : CplStatus) (x : List Byte × BitVec 128)
  /-- COMPLETION_TIMEOUT (R353): A non-posted request gets no completion within the timeout. -/
  | completionTimeout (n : Fin 2) (tag : Fin 1024)
  /-- MSIX_FIRE (R357): A bound interrupt source fires and a message is sent, pended or dropped. -/
  | msixFire (n : Fin 2) (src : Fin 1537)
  /-- ASPM_L1_ENTRY (R359): After 8 µs idle the device requests ASPM L1. -/
  | aspmL1Entry (n : Fin 2)
  /-- CONTROLLER_TAKEOVER (R363): The other half's PCIe controller takes charge and replays unacknowledged TLPs. -/
  | controllerTakeover (h : Fin 2)
  /-- WINDOW_READ (R378): A read of a Jetty remote window word opens a held transaction. -/
  | windowRead (req : Requester) (n : Fin 40) (off : Fin 1024) (size : Fin 9) (upper : Bool) (header : Nat)
  /-- WINDOW_WRITE (R377): A write of a Jetty remote window word allocates a slot and posts a transaction. -/
  | windowWrite (req : Requester) (n : Fin 40) (word : Fin 256) (lo : Word) (hi : Option Word)
  /-- TXN_REPLY_RECEIVED (R381): A transaction reply ends its slot's transaction or is discarded as stale. -/
  | txnReplyReceived (n : Fin 40)
  /-- JETTY_BUDGET_TIMEOUT (R378): BUDGET_US passes without a reply and the transaction ends TIMEOUT. -/
  | jettyBudgetTimeout (n : Fin 40) (i : Fin 64) (sdaLow : Bool)
  /-- JETTY_BUSY_RETRY (R377): A transaction answered BUSY is resent after 10 µs. -/
  | jettyBusyRetry (n : Fin 40) (i : Fin 64)
  /-- JETTY_LATE_EXPIRE (R381): 12 ms after freeing, a slot's LATE mark clears. -/
  | jettyLateExpire (n : Fin 40) (i : Fin 64)
  /-- TXQ_GO (R386): A write of TXQ_REQ.GO sends one raw transaction. -/
  | txqGo (req : Requester) (n : Fin 40) (w : Word)
  /-- MIRROR_CYCLE_START (R387): A mirror cycle starts at a boundary or every 10 ms and sends and reads its entries. -/
  | mirrorCycleStart (n : Fin 40)
  /-- MIRROR_CYCLE_END (R387): The cycle's transactions have ended; MIR_TIDE is written and MIR_DONE set. -/
  | mirrorCycleEnd (n : Fin 40)
  /-- MIRROR_VALUE_WRITE (R388): A write of MIR_VAL on a write entry sets DIRTY. -/
  | mirrorValueWrite (req : Requester) (n : Fin 40) (m : Fin 64) (w : Word)
  /-- SINT_EDGE (R389): A filtered local sensor-interrupt edge is queued with its stamp. -/
  | sintEdge (n : Fin 8) (level : Bool) (back : Nat)
  /-- IBI_RECEIVED (R389): A local I3C in-band interrupt is acknowledged, read and queued. -/
  | ibiReceived (n : Fin 8) (addr : Fin 128) (payload : List Byte)
  /-- EVQ_POP (R389): A read of EVQ_STAMP_LO pops the head event. -/
  | evqPop (req : Requester) (n : Fin 40)
  /-- POLL_SEND (R390): A fault-status POLL is sent and an unanswered previous poll counts as missed. -/
  | pollSend (n : Fin 32)
  /-- POLL_REPLY (R391): A POLL_REPLY carrying the latest POLL_ID updates POLL_STATUS. -/
  | pollReply (n : Fin 32)
  /-- LOCAL_TXN_DONE (R379): A transaction on a local I2C/I3C bus ends with its cause. -/
  | localTxnDone (n : Fin 8) (status : Fin 6) (count : Nat) (data : List Byte)
  /-- LOCAL_BUS_TIMEOUT (R384): SCL is held low beyond BUS_TO_US and the controller aborts and recovers the bus. -/
  | localBusTimeout (n : Fin 8) (sdaLow : Bool)
  /-- LOCAL_BUS_RECOVERY (R384): A stuck bus is retried for recovery every 1 ms. -/
  | localBusRecovery (n : Fin 8) (sdaLow : Bool)
  /-- DOMAIN_ENABLE (R399): A write of DOM_CFG.EN moves a time domain to ACQUIRE or OFF. -/
  | domainEnable (req : Requester) (x : Fin 2) (w : Word)
  /-- DOMAIN_OFFSET_WRITE (R398): A write of OFF_FRAC applies OFFSET while the domain is OFF. -/
  | domainOffsetWrite (req : Requester) (x : Fin 2) (w : Word)
  /-- SERVO_SAMPLE (R400): A write of SMP_CTL.GO applies a master-time sample by step or servo. -/
  | servoSample (req : Requester) (x : Fin 2)
  /-- DOMAIN_SAMPLE_TIMEOUT (R399): No sample for SAMPLE_TO_MS moves a domain into HOLDOVER. -/
  | domainSampleTimeout (x : Fin 2)
  /-- TM_SEL_WRITE (R401): A write of TM_SEL.MODE 0 or 1 switches the active domain at once. -/
  | tmSelWrite (req : Requester) (w : Word)
  /-- PRESET_WRITE (R402): A write of TM_PRESET_HI steps P before adoption. -/
  | presetWrite (req : Requester) (w : Word)
  /-- ETH_FRAME_RX (R410): A frame received on a MAC is stamped if PTP and forwarded by the bridge. -/
  | ethFrameRx (m : Fin 2) (b : List Byte) (fcsOk : Bool) (c : Nat)
  /-- ETH_FRAME_TX (R412): A queued frame is selected and sent, stamped, one-step inserted or corrected. -/
  | ethFrameTx (m : Fin 2) (c : Nat)
  /-- TS_POP (R407): A read of TS_INFO pops the head time-stamp. -/
  | tsPop (req : Requester) (m : Fin 2) (tx : Bool)
  /-- FDB_WRITE (R425): A write of FDB_CMD.WRITE copies the entry registers into the forwarding table. -/
  | fdbWrite (req : Requester) (w : Word)
  /-- FDB_READ (R425): A write of FDB_CMD.READ reads a forwarding entry back. -/
  | fdbRead (req : Requester) (w : Word)
  /-- FDB_AGE_OUT (R410): A learned entry ages out after AGE_S seconds without a match. -/
  | fdbAgeOut (i : Fin 1024)
  /-- GCL_CHANGE (R413): A write of GCL_CFG.CHANGE stages the administrative gate list. -/
  | gclChange (req : Requester) (m : Fin 2) (w : Word)
  /-- GCL_CYCLE_START (R413): A gate-control cycle starts and a staged list becomes operational. -/
  | gclCycleStart (m : Fin 2)
  /-- GCL_ENTRY_ADVANCE (R413): An entry's INTERVAL_NS expires and the next gate entry opens. -/
  | gclEntryAdvance (m : Fin 2)
  /-- MG_TX_GO (R413): A write of MG_TX_CTL.GO sends a management frame. -/
  | mgTxGo (req : Requester) (w : Word)
  /-- MG_RX_POP (R413): A read of MG_RX_INFO pops the head received management frame. -/
  | mgRxPop (req : Requester)
  /-- MG_RX_DATA_READ (R413): A read of MG_RX_DATA returns the next four bytes of the frame. -/
  | mgRxDataRead (req : Requester)
  /-- STREAM_UNIT (R414): The stream port takes a line or record unit from a Drift channel. -/
  | streamUnit (k : Fin 16) (h : Fin 2) (begun : Nat) (format : Fin 16) (u : PortUnit)
  /-- STREAM_FRAME_SEND (R415): The shaper allows and the stream port sends one AVTP Ethernet frame. -/
  | streamFrameSend (k : Fin 16)
  /-- SOUNDING_CONFIG_WRITE (R444): A write of SD_CFG configures a Sounding unit from its next unit of work. -/
  | soundingConfigWrite (req : Requester) (u : Fin 64) (w : Word)
  /-- SOUNDING_ARM (R443): A write of SD_ARM.ARM arms a one-shot comparison. -/
  | soundingArm (req : Requester) (u : Fin 64)
  /-- HEARTBEAT_WIRE_EDGE (R455): A half's heartbeat wire toggles and its age resets. -/
  | heartbeatWireEdge (h : Fin 2)
  /-- HEARTBEAT_MAILBOX (R455): A mailbox heartbeat message arrives and is judged good or not. -/
  | heartbeatMailbox (h : Fin 2) (index : Fin 256) (count : Fin 65536)
  /-- HALF_DEGRADED (R456): A heartbeat path age passes its limit and the half is marked degraded. -/
  | halfDegraded (h : Fin 2) (wire : Bool)
  /-- HEARTBEAT_FAILURE (R456): Both heartbeat ages reach 4,000 ns and a HEARTBEAT failure is decided. -/
  | heartbeatFailure (h : Fin 2)
  /-- HALF_FAILURE (R458): A self-check failure reaches the arbiter; the half is FAILED and a switch may follow. -/
  | halfFailure (h : Fin 2)
  /-- DUAL_ACT_END (R459): A dual-act window closes and the old half's ACTING clears. -/
  | dualActEnd (x : Fin 160)
  /-- BIST_SLICE_DONE (R463): A logic BIST slice compares its signature and restores the island. -/
  | bistSliceDone (h : Fin 2) (good : Bool)
  /-- HALF_REPAIR (R466): A write of SW_CMD.REPAIR starts the repair of a FAILED half. -/
  | halfRepair (req : Requester) (h : Fin 2) (w : Word)
  /-- REPAIR_DONE (R466): Every instance of the repaired half is READY and it enters RECOVERING. -/
  | repairDone (h : Fin 2)
  /-- SWITCH_REQUEST (R468): A write of SW_CMD.SWITCH requests a planned switch. -/
  | switchRequest (req : Requester) (w : Word)
  /-- FAULT_OCCURRENCE (R480): A fault occurrence reaches the Breakwater, is logged, escalated and reacted to. -/
  | faultOccurrence (src : Fin 1536)
  /-- QUIET_WINDOW_CLOSE (R484): A block reset's quiet window closes at reset end or after 64 µs. -/
  | quietWindowClose (pg : Fin 0x1400)
  /-- BW_LOCK (R494): A write of BW_CTRL.LOCK locks the fault configuration until chip reset. -/
  | bwLock (req : Requester) (w : Word)
  /-- FAULT_INJECT (R495): A write of BW_INJ.GO in factory test mode raises one occurrence of a source. -/
  | faultInject (req : Requester) (w : Word)
  /-- ERR_N_RELEASE (R490): ERR_MIN_US has passed and no cause holds, so ERR_N is released. -/
  | errNRelease (high : Bool)
  /-- BEACON_FIRING (R505): A Beacon source fires on an input pulse, a level rise or a SET. -/
  | beaconFiring (n : Fin 512)
  /-- BEACON_LEVEL_FALL (R516): A level source's input falls and a PENDING source is withdrawn. -/
  | beaconLevelFall (n : Fin 512)
  /-- BEACON_EOI (R514): A write of LP_EOI completes a source's service. -/
  | beaconEoi (req : Requester) (k : Fin 4) (w : Word)
  /-- BEACON_SET (R526): A write of SET fires an edge source. -/
  | beaconSet (req : Requester) (i : Fin 16) (w : Word)
  /-- BEACON_CLR (R526): A write of CLR withdraws a pending edge source. -/
  | beaconClr (req : Requester) (i : Fin 16) (w : Word)
  /-- BEACON_WATCHDOG (R524): A source has stayed PENDING for STARVE_US or ACTIVE for SERVICE_US. -/
  | beaconWatchdog (n : Fin 512)
  /-- LOCKSTEP_MISMATCH (R528): A lockstep pair's cores disagree and the pair's LOCKSTEP fault is raised. -/
  | lockstepMismatch (k : Fin 4)
  /-- PAIR_REBOOT_DONE (R528): A reset pair has rebooted the firmware and resumes its roles. -/
  | pairRebootDone (k : Fin 4)
  /-- CORE_WATCHDOG (R530): A pair's watchdog is not restarted within TIMEOUT_US. -/
  | coreWatchdog (k : Fin 4)
  /-- CMD_DOORBELL (R533): A write of CMD_TAIL posts command entries and fires Beacon source 1. -/
  | cmdDoorbell (k : Fin 4) (req : Requester) (w : Word)
  /-- CPL_HEAD_WRITE (R536): A write of CPL_HEAD returns completion records and frees room. -/
  | cplHeadWrite (k : Fin 4) (req : Requester) (w : Word)
  /-- FW_STEP_BOUNDARY (R537): At a step boundary the firmware fetches posted entries and runs one long-operation step. -/
  | fwStepBoundary (k : Fin 4) (ns : Nat) (v : MemView)
  /-- NOP (R538): The NOP command completes at once. -/
  | nop (i : Fin 256)
  /-- PLAN_SUBMIT (R48): The PLAN_SUBMIT command reads a plan document and starts admission. -/
  | planSubmit (i : Fin 256) (v : MemView)
  /-- PLAN_WITHDRAW (R60): The PLAN_WITHDRAW command withdraws a submitted plan. -/
  | planWithdraw (i : Fin 256)
  /-- TABLE_LOAD (R538): The TABLE_LOAD command copies a table into local memory of one or both halves. -/
  | tableLoad (i : Fin 256) (v : MemView)
  /-- DEFECT_LEARN (R235): The DEFECT_LEARN command merges the learn ring into a new defect map. -/
  | defectLearn (i : Fin 256) (v : MemView)
  /-- SCRUB_HALF (R623): The SCRUB_HALF command reads and corrects every line of a half. -/
  | scrubHalf (i : Fin 256) (v : MemView)
  /-- CHECK_BUFFER (R538): The CHECK_BUFFER command computes and compares a CRC over a buffer. -/
  | checkBuffer (i : Fin 256) (v : MemView)
  /-- LOOP_CTRL (R542): The LOOP_CTRL command enables or disables an exposure or white-balance loop. -/
  | loopCtrl (i : Fin 256) (v : MemView)
  /-- LINK_POLICY (R545): The LINK_POLICY command sets the lanes' mode downshift policy. -/
  | linkPolicy (i : Fin 256)
  /-- FAILOVER_POLICY (R546): The FAILOVER_POLICY command sets the firmware's repair and difference policy. -/
  | failoverPolicy (i : Fin 256)
  /-- CANCEL (R540): The CANCEL command cancels a command not yet finished. -/
  | cancel (i : Fin 256) (v : MemView)
  /-- LOOP_UPDATE (R543): A loop reads a frame's statistics and writes new exposure, gain, black-level or white-balance values. -/
  | loopUpdate (x : Fin 160) (kind : Fin 2) (v : MemView)
  /-- LINK_POLICY_RESTORE (R545): After RESTORE_S in ACTIVE the firmware raises a lane's MODE_MAX. -/
  | linkPolicyRestore (n : Fin 32)
  /-- AUTO_REPAIR (R546): HOLDOFF_MS after a half fails the firmware writes its REPAIR. -/
  | autoRepair (h : Fin 2)
  /-- POR_RELEASE (R553): Every rail is in window and power-on reset is released after 200 µs. -/
  | porRelease (orderBad : Bool) (testMode : Bool) (fuseBad : Bool)
  /-- SUPPLY_LOSS (R555): A rail leaves its window for 1 µs and a chip reset starts. -/
  | supplyLoss (r : Fin 9)
  /-- AVS_UPDATE (R556): Every 1 ms the core voltage target is computed and a step commanded. -/
  | avsUpdate (need : Nat)
  /-- AVS_COMMAND_DONE (R556): An AVSBus command is acknowledged or fails and is retried. -/
  | avsCommandDone (ok : Bool)
  /-- POWER_REQ (R558): A write of PD_CTRL.REQ or CTRL.PWR_REQ requests or releases a power domain. -/
  | powerReq (req : Requester) (t : PowerTarget) (w : Word)
  /-- DOMAIN_POWER_ACK (R559): A domain acknowledges power-up or power-down. -/
  | domainPowerAck (d : Fin 96) (calBad : Fin 16)
  /-- DOMAIN_ACK_TIMEOUT (R559): A domain has not acknowledged within 100 µs. -/
  | domainAckTimeout (d : Fin 96)
  /-- DOMAIN_DROP (R560): A powered domain's supply monitor reports loss and the domain is isolated. -/
  | domainDrop (d : Fin 96)
  /-- REF_CHECK (R563): Every 10 µs REFCLK25 is checked and a loss raises REF_LOST. -/
  | refCheck (ok : Bool)
  /-- PLL_UNLOCK (R564): A PLL loses lock. -/
  | pllUnlock (i : Fin 8)
  /-- SOFT_RESET_ARM (R567): A write of RST_SW.ARM arms a software reset. -/
  | softResetArm (req : Requester)
  /-- SOFT_RESET_GO (R567): A write of RST_SW.GO within 1 µs of ARM starts a software chip reset. -/
  | softResetGo (req : Requester)
  /-- CHIP_RESET (R568): A chip reset stops outputs, holds 10 µs and restarts boot. -/
  | chipReset (fuseBad : Bool)
  /-- BOOT_START (R570): The boot ROM starts reading and verifying an image slot. -/
  | bootStart (head : List Byte) (certOk : Bool) (sigOk : Bool)
  /-- BOOT_SEGMENT (R573): A boot segment is read, hashed, verified and applied. -/
  | bootSegment (body : List Byte) (hashOk : Bool)
  /-- BOOT_FAIL (R574): A boot check fails and the ROM falls back, resets or stops. -/
  | bootFail (flash : Bool)
  /-- SLEEP_GO (R575): A write of PM_CTRL.SLEEP_GO starts entry to retention sleep. -/
  | sleepGo (req : Requester) (w : Word)
  /-- WAKE (R578): A WAKE_N edge or the wake timer wakes the device from sleep. -/
  | wake (timer : Bool) (bad : List (Fin 0x1400)) (beaconBad : Bool)
  /-- TEMP_SAMPLE (R606): Every 100 µs the thermal sensors are read and thresholds judged. -/
  | tempSample (t : List Int)
  /-- GPIO_CFG_WRITE (R599): A write of GPIO_CFG assigns a function to a ball. -/
  | gpioCfgWrite (req : Requester) (i : Fin 48) (w : Word)
  /-- GPIO_READBACK (R600): A push-pull output's ball differs for 2 µs and its driver goes off. -/
  | gpioReadback (i : Fin 48) (level : Bool) (past : Bool)
  /-- TAP_INSTRUCTION (R619): A TAP instruction becomes current and may hold the core in reset. -/
  | tapInstruction (x : Fin 256 × Option (BitVec 314))
  /-- COPY_MISMATCH (R17): The two compared copies of the Tidemark, route crossbar, Seawall arbiter, Breakwater or x16 PCIe controllers
  disagree, and a copy is dropped or a mismatch fault is raised. -/
  | copyMismatch (u : CopiedUnit) (failing : Option (Fin 2))
  /-- LTSSM_TRANSITION (R367): The PCIe link reaches L0 after training, enters or leaves Recovery or L1, or changes speed or width, with
  equalization and the LINK_UP, SPEED_WIDTH and LINK_DEGRADED outcomes. -/
  | ltssmTransition (n : Fin 2) (ltssm : Fin 9) (width : Nat) (speed : Nat)
      (x : Option (Fin 3 × EqRequest × List Nat) × List (LinkError × BitVec 128))
  /-- MAC_LINK_CHANGE (R426): An Ethernet MAC gains or loses block lock or sees a remote fault, setting LINK_UP or LINK_DOWN and the LINK_LOST
  condition. -/
  | macLinkChange (m : Fin 2) (lock : Bool) (remoteFault : Bool) (fecLock : Bool)
  /-- CSI_CLK_RETURN (R152): The clock lane of a CSI-2 receive port with CONT_CLK = 1 returns after a loss, clearing the CLK_LOST condition so
  packets resume. -/
  | csiClkReturn (n : Fin 8)
  /-- PLL_RELOCK (R564): A PLL that lost lock regains it, its LOCKED bit sets, the PLL_UNLOCK condition clears and the interfaces it drives can
  return. -/
  | pllRelock (i : Fin 8)
  /-- SPRING_BOUNDARY (R30): A spring boundary: SPRING_COUNT increments and spring-bound groups and staged plans swap. -/
  | springBoundary
  /-- PLAN_STAGED (R65): When every domain a plan uses has acknowledged power, the plan reaches STAGED and the device arms its commit group. -/
  | planStaged
  /-- DOMAIN_FAILOVER (R401): The active domain has been in HOLDOVER or OFF for FAILOVER_MS and the device switches. -/
  | domainFailover
  /-- DOMAIN_REVERT (R401): The preferred domain has been LOCKED for REVERT_S and the device switches back. -/
  | domainRevert
  /-- SLEW_DONE (R403): The residual RES reaches 0. -/
  | slewDone
  /-- HEALTH_REPORT_TIMER (R465): While no plan is live a health report is published every 16 ms. -/
  | healthReportTimer
  /-- SWITCH_APPLY (R468): A requested planned switch is applied at a boundary or within 64 cycles. -/
  | switchApply
  /-- ERR_TOG_TOGGLE (R491): ERR_TOG toggles every TOG_HALF_US while healthy. -/
  | errTogToggle
  /-- TOG_READBACK (R491): The ERR_TOG ball differs for 2 µs and the driver goes off. -/
  | togReadback
  /-- BEACON_DELIVER (R510): A pending source is delivered to the best eligible processor, which jumps to its vector. -/
  | beaconDeliver
  /-- CPL_FULL_TIMEOUT (R536): A completion has waited 1 ms for room. -/
  | cplFullTimeout
  /-- STEP_REPORT (R540): A step result from another processor is applied or discarded as stale. -/
  | stepReport
  /-- REF_RANGE (R563): The reference offset has been outside REF_LIMIT_PPM for 1 s. -/
  | refRange
  /-- PCIE_REF_LOST (R563): PCIE_REFCLK is lost and the host link goes down. -/
  | pcieRefLost
  /-- PIN_RESET (R566): RESET_N stays low for 1 µs and a PIN reset starts. -/
  | pinReset
  /-- RESET_N_RISE (R566): RESET_N rises and the reset ends 200 µs later. -/
  | resetNRise
  /-- BOOT_DONE (R573): Every segment is applied and boot reaches DONE. -/
  | bootDone
  /-- SLEEP_DRAINED (R575): Everything has drained and the device saves state and enters sleep. -/
  | sleepDrained
  /-- SLEEP_ABORT (R575): Entry does not drain within SLEEP_TO_MS and is abandoned. -/
  | sleepAbort
  /-- ERRN_STUCK (R610): ERR_N is driven low but reads high for 2 µs. -/
  | errnStuck
  /-- TAP_RESET (R617): The TAP is reset to Test-Logic-Reset and any hold ends. -/
  | tapReset
  /-- PCIE_REF_RETURN (R563): PCIE_REFCLK becomes present again, PCIE_REF_OK sets and the PCIE_REF_LOST condition clears. -/
  | pcieRefReturn
deriving DecidableEq, Repr

end Sys2Proof
end

