-- ==== Sys2Proof/Machine/State.lean ====
section
/-!
DEFINITION. Sys2Proof/Machine/State.lean: everything the manual gives the device, as plain data, and the state after reset.
-/
namespace Sys2Proof.Machine

/-- Why the device stops. No effect of the manual stops it, so no command faults. -/
inductive Fault where
  /-- Raised by no command of this model: the manual turns every error into a register effect. Safe. -/
  | none
deriving DecidableEq, Repr

/-- Why the model has no answer. -/
inductive Refusal where
  /-- A command of the table that has no meaning yet. Raised by its arm of `exec` alone. Safe. -/
  | notModelled (mnemonic : String)
deriving DecidableEq, Repr

/-- What leaves the device: read data, messages, packets, pulses, memory traffic to the host. -/
inductive Out where
  /-- the words a requester's read returned -/
  | readData (req : Requester) (off : Nat) (words : List Nat)
  /-- a non-maskable trap at a logical processor (R482) -/
  | trap (lp : Nat)
  /-- a logical processor jumps to a vector address (R512) -/
  | vector (lp address : Nat)
  /-- an Ethernet frame on a MAC's line, without FCS -/
  | ethFrame (mac : Nat) (bytes : List Byte)
  /-- a posted write to host memory, one TLP: half, host address, bytes, Relaxed Ordering, No Snoop (R350, R352) -/
  | hostWrite (half address : Nat) (bytes : List Byte) (ro ns : Bool)
  /-- a read request to host memory: half, tag, host address, bytes (0: the flushing read), No Snoop (R351, R352) -/
  | hostRead (half tag address size : Nat) (ns : Bool)
  /-- a read of host memory by the firmware: half, host address, bytes (R532, R538) -/
  | coreRead (half address size : Nat)
  /-- the answer to a configuration request: none is Request Retry Status (R346) -/
  | config (port : Nat) (value : Option Nat)
  /-- the answer to an aperture read: bytes, poisoned; a status that is not success (R349) -/
  | aperture (port : Nat) (bytes : List Byte) (poisoned : Bool)
  | apertureFail (port cause : Nat)
  /-- the answer to a read of BAR2 (R348) -/
  | bar2 (port : Nat) (value : Word)
  /-- an error message of a port: 0 correctable, 1 non-fatal, 2 fatal (R358) -/
  | errMessage (port level : Nat)
  /-- a unit handed to an output port by a Drift channel (R316) -/
  | unit (channel : Nat) (u : PortUnit)
  /-- a register read that fails: Completer Abort to a host, a load access fault at a control core (R378) -/
  | readFail (req : Requester) (off : Nat)
  /-- a message on the back channel of a lane: TYPE, LEN, payload, CRC-16 (R129), and its code groups from /S/ to /T/ (R128) -/
  | backChannel (lane : Nat) (bytes : List Byte) (groups : List Nat)
  /-- a transaction on the local bus of a window 32 to 39 (R373): bus, op, target, write bytes, bytes to read -/
  | localBus (window : Nat) (bus op target : Nat) (wr : List Byte) (rd : Nat)
  /-- the pattern generator of a lane drives a target (R107), with its pattern, from a register on (R106) -/
  | pattern (lane target pattern seed : Nat)
  /-- a series of injections on the output of a lane's generator begins at one of its bits (R108) -/
  | inject (lane at_ : Nat) (series : Injection)
  /-- a leading edge of LFS_i (R160), at P in 1/16 ns -/
  | lfsEdge (i : Nat) (at_ : Int)
  /-- a packet on the wire of a transmit port (R154): header, and for a long packet payload and check code -/
  | csiPacket (port : Nat) (bytes : List Byte)
  /-- a deskew sequence on a transmit port (R164) -/
  | deskew (port : Nat)
  /-- an AVSBus command, mV (R556) -/
  | avs (mv : Nat)
  /-- SLEEP_ACK driven (R575) -/
  | sleepAck (high : Bool)
  /-- the balls under a TAP instruction that takes them from the core, with the boundary register (R618, R620) -/
  | balls (tap : Nat) (cells : BitVec 314)
deriving DecidableEq, Repr

/-- The device. -/
structure State where
  /-- commands waiting, first in first out -/
  pending : List Instr
  /-- the register fields, shadow and live, by bit address in the window; unlisted: the reset value -/
  regs : SMap Nat
  /-- captures of multi-register values (R9) -/
  wordCaptures : List WordCapture
  /-- fault marks by page (R78, R478) -/
  flt : SMap FltMarks
  /-- consequences raised and not yet carried out (the model's own field) -/
  due : List Due
  /-- what has left the device, newest first (the model's own field) -/
  out : List Out
  /-- free values taken so far (the model's own field) -/
  free : Nat
  time : TimeSt
  tide : TideSt
  commit : CommitSt
  fault : FaultSt
  beacon : BeaconSt
  power : PowerSt
  boot : BootSt
  pins : PinSt
  macs : SMap MacSt
  bridge : BridgeSt
  cores : CoreSt
  harbours : SMap HarbourSt
  channels : SMap ChannelSt
  arbiters : SMap ArbiterSt
  pcie : SMap PcieSt
  light : LightSt
  coves : SMap CoveSt
  /-- frames in the halves, oldest first -/
  frames : List HalfFrame
  seawall : SeawallSt
  lanes : SMap LaneSt
  ports : SMap PortSt
  streams : SMap StreamSt
  syncs : SMap SyncSt
  csiRx : SMap CsiRxSt
  csiTx : SMap CsiTxSt
  windows : SMap JettySt
deriving DecidableEq, Repr

/-- The device right after power-on reset: every register at the manual's reset value, nothing captured, nothing waiting. -/
def State.reset : State :=
  { pending := [], regs := [], wordCaptures := [], flt := [], due := [], out := [], free := 0, time := {}, tide := {},
    commit := {}, fault := {}, beacon := {}, power := {}, boot := {}, pins := {}, macs := [], bridge := {}, cores := {}, harbours := [],
    channels := [], arbiters := [], pcie := [], light := {}, coves := [], frames := [], seawall := {}, lanes := [], ports := [],
    streams := [], syncs := [], csiRx := [], csiTx := [], windows := [] }

end Sys2Proof.Machine
end

