-- ==== Sys2Proof/Machine/Ops.lean ====
section
/-!
DEFINITION. Sys2Proof/Machine/Ops.lean: the named operations on registers, outputs, time, local memory, power and halves.
-/
namespace Sys2Proof.Machine

/-- The outcome of a command. -/
abbrev Result := Host.Outcome State Fault Refusal

/-! ## Registers -/

/-- The value of a field of a page: the shadow of an RWS field (R10). -/
def State.get (s : State) (pg : Nat) (f : Field) : Nat := SMap.get resetField s.regs (fieldKey pg f)

/-- The value in force of an RWS or plan-owned field (R37). -/
def State.live (s : State) (pg : Nat) (f : Field) : Nat := SMap.get resetField s.regs (liveKey pg f)

/-- Store a field; it keeps the low bits it can hold. -/
def State.put (s : State) (pg : Nat) (f : Field) (v : Nat) : State :=
  { s with regs := SMap.set resetField s.regs (fieldKey pg f) (v % f.size) }

/-- Store the value in force of an RWS or plan-owned field. -/
def State.putLive (s : State) (pg : Nat) (f : Field) (v : Nat) : State :=
  { s with regs := SMap.set resetField s.regs (liveKey pg f) (v % f.size) }

/-- Store a plan-owned field's shadow and live value together. -/
def State.putBoth (s : State) (pg : Nat) (f : Field) (v : Nat) : State := (s.put pg f v).putLive pg f v

/-- A one-bit field as a truth value. -/
def State.flag (s : State) (pg : Nat) (f : Field) : Bool := s.get pg f != 0

/-- The value in force of a one-bit field. -/
def State.liveFlag (s : State) (pg : Nat) (f : Field) : Bool := s.live pg f != 0

/-- 1 or 0. -/
def bit (b : Bool) : Nat := if b then 1 else 0

/-- Count up by `n`, stopping at the all-ones value. -/
def State.countSat (s : State) (pg : Nat) (f : Field) (n : Nat := 1) : State :=
  s.put pg f (min (s.get pg f + n) (f.size - 1))

/-- Count up by `n`, wrapping (R7). -/
def State.countWrap (s : State) (pg : Nat) (f : Field) (n : Nat := 1) : State := s.put pg f (s.get pg f + n)

/-- Keep the larger of a field and `v`, saturating. -/
def State.putMax (s : State) (pg : Nat) (f : Field) (v : Nat) : State :=
  s.put pg f (max (s.get pg f) (min v (f.size - 1)))

/-- Is bit `b` of a mask set? -/
def hasBit (m b : Nat) : Bool := m.testBit b

/-- Set bit `b` of a mask. -/
def setBit (m b : Nat) : Nat := m ||| 2 ^ b

/-- A sum of bits: bit i where `p i`. -/
def maskOf (n : Nat) (p : Nat → Bool) : Nat := (List.range n).foldl (fun (m : Nat) i => if p i then m + 2 ^ i else m) 0

/-- Clear bit `b` of a mask. -/
def clearBit (m b : Nat) : Nat := if m.testBit b then m - 2 ^ b else m

/-- Clear in `m` every bit that is 1 in `w`. -/
def clearBits (m w : Nat) : Nat := m - (m &&& w)

/-- The value a write of `v` leaves in a field: clamped to the stated bounds, rounded to the stated multiple. -/
def Field.stored (f : Field) (v : Nat) : Nat :=
  let c := match f.clamp with
    | none => v
    | some (lo, hi) => max lo (min v hi)
  c / f.gran * f.gran

/-- Is a code one that the field takes? -/
def Field.takes (f : Field) (v : Nat) : Bool :=
  match f.accept with
  | none => true
  | some (lo, hi) => decide (lo ≤ v) && decide (v ≤ hi)

/-! ## Outputs, and what is due elsewhere -/

/-- Something leaves the device. -/
def State.emit (s : State) (o : Out) : State := { s with out := o :: s.out }

/-- Something is due in another unit. -/
def State.owe (s : State) (d : Due) : State := { s with due := s.due ++ [d] }

/-- A fresh free value: the manual states none. -/
def State.fresh (s : State) : Nat × State := ((Config.freeValue s.free).toNat, { s with free := s.free + 1 })

/-- Store a value that a register may not hold: one outside its range reads as a free value. -/
def State.putFit (s : State) (pg : Nat) (f : Field) (v : Int) : State :=
  if 0 ≤ v ∧ v < f.size then s.put pg f v.toNat
  else
    let (x, s) := s.fresh
    s.put pg f x

/-- A quotient in whole units: where it is not a whole number, `up` says which of its two neighbours is shown. -/
def nearest (up : Bool) (num den : Nat) : Nat := if num % den = 0 then num / den else num / den + bit up

/-! ## Time (R395 to R403) -/

/-- Two's complement reading of the low `w` bits of `v`. -/
def toSigned (w v : Nat) : Int := if v % 2 ^ w < 2 ^ (w - 1) then (v % 2 ^ w : Int) else (v % 2 ^ w : Int) - 2 ^ w

/-- The low `w` bits of an integer, as a two's complement code. -/
def ofSigned (w : Nat) (i : Int) : Nat := (i % (2 ^ w : Int)).toNat

/-- Tidemark page 0. -/
def tmPage : Nat := 0x10

/-- OFFSET of domain x in force, 2⁻³² ns, modulo 2⁹⁶. -/
def TimeSt.off (t : TimeSt) (x : Nat) : Nat := if x = 0 then t.offA else t.offB

/-- RATE of domain x, signed, in 2⁻⁴⁰ (R397). -/
def State.rate (s : State) (x : Nat) : Int := toSigned 32 (s.get tmPage (Tidemark.RATE_RATE.nth x))

/-- Domain time at a count given in 2⁻³² ns: OFFSET + C × (1 + RATE × 2⁻⁴⁰), exact, truncated, modulo 2⁹⁶ (R397). -/
def State.domainTime (s : State) (x : Nat) (c : Nat) : Nat :=
  ((s.time.off x : Int) + (c : Int) * (2 ^ 40 + s.rate x) / 2 ^ 40) % 2 ^ 96 |>.toNat

/-- The active domain: 0 A, 1 B (R401). -/
def State.activeDomain (s : State) : Nat := s.get tmPage Tidemark.TM_SEL_ACTIVE

/-- Active-domain time P at a count in 2⁻³² ns, in 2⁻³² ns (R402): C + PRESET before adoption, D_active + RES after. -/
def State.activeTime (s : State) (c : Nat) : Nat :=
  if s.flag tmPage Tidemark.TM_SEL_ADOPTED then
    (((s.domainTime s.activeDomain c : Int) + s.time.res) % 2 ^ 96).toNat
  else (c + s.time.preset * 2 ^ 32) % 2 ^ 96

/-- Active-domain time now, whole ns (R402): the time of every stamp but the MACs'. -/
def State.now (s : State) : Nat := s.activeTime (s.time.c * 2 ^ 32) / 2 ^ 32

/-- The short stamp P[31:0] (R404). -/
def State.shortStamp (s : State) : Nat := s.now % 2 ^ 32

/-- The signed difference a − b of two short stamps or tide numbers (R32, R404). -/
def signedDiff (a b : Nat) : Int := toSigned 32 ((a + 2 ^ 32 - b % 2 ^ 32) % 2 ^ 32)

/-- A frame of a stream, as one number: channels and slots carry frames of two streams across a swap (R62). -/
def frameKey (stream seq : Nat) : Nat := stream * 2 ^ 32 + seq

/-- The frame of a unit. -/
def PortUnit.key (u : PortUnit) : Nat := frameKey u.stream u.seq

/-- Are two frames of one stream, the first fewer than four sequence numbers after the second? -/
def keyNear (key old : Nat) : Bool := old / 2 ^ 32 == key / 2 ^ 32 && decide (signedDiff (key % 2 ^ 32) (old % 2 ^ 32) < 4)

/-! ## Tides and the plan in force (R29 to R36) -/

/-- Is a plan live? -/
def State.planLive (s : State) : Bool := s.tide.livePlan.isSome

/-- The tide counter of a family (R32). -/
def State.famTide (s : State) (f : Nat) : Nat := s.get 0x11 (Tidemark.FAM_TIDE_TIDE.nth f)

/-- Is a family active in the live plan (R422)? -/
def State.famActive (s : State) (f : Nat) : Bool := s.flag 0x11 (Tidemark.FAM_PHASE_ACTIVE.nth f)

/-- Is a family in its slack window (R35)? -/
def State.inSlack (s : State) (f : Nat) : Bool := s.flag 0x11 (Tidemark.FAM_PHASE_IN_SLACK.nth f)

/-- The lowest active family (R36). -/
def State.lowestFamily (s : State) : Option Nat := [0, 1, 2, 3].find? s.famActive

/-- FAM_TIDE of the lowest active family, 0 without a live plan (R492). -/
def State.logTide (s : State) : Nat := match s.lowestFamily with
  | some f => s.famTide f
  | none => 0

/-! ## Harbour state and local memory (R285, R291, R306) -/

/-- The Harbour of half h. -/
def State.harb (s : State) (h : Nat) : HarbourSt := SMap.get (fun _ => {}) s.harbours h

/-- Store the Harbour of half h. -/
def State.putHarb (s : State) (h : Nat) (x : HarbourSt) : State :=
  { s with harbours := SMap.set (fun _ => {}) s.harbours h x }

/-- Drop every cached translation of half h (R306). -/
def State.dropTlb (s : State) (h : Nat) : State := s.putHarb h { s.harb h with tlb := [] }

/-- What a byte of local memory that nothing has written reads as: the fill's zero (R286). -/
def memDefault (_ : Nat) : Byte := 0

/-- The canonical form of a local memory: addresses strictly rising, no entry equal to what an unlisted address reads as. -/
def Memory.wf (m : SMap Byte) : Bool := SMap.wf memDefault m

/-- A byte of half h's local memory. -/
def State.memByte (s : State) (h pa : Nat) : Byte := SMap.get memDefault (s.harb h).mem pa

/-- n bytes of half h's local memory from pa on. -/
def State.memRead (s : State) (h pa n : Nat) : List Byte := (List.range n).map fun i => s.memByte h (pa + i)

/-- Write bytes into a memory from pa on. -/
def writeBytes (m : SMap Byte) (pa : Nat) : List Byte → SMap Byte
  | [] => m
  | b :: r => writeBytes (SMap.set memDefault m pa b) (pa + 1) r

/-- Write bytes into half h's local memory from pa on. -/
def State.memWrite (s : State) (h pa : Nat) (bs : List Byte) : State :=
  s.putHarb h { s.harb h with mem := writeBytes (s.harb h).mem pa bs }

/-! ## Power and readiness of an instance (R73, R85, R557) -/

/-- Has a power domain acknowledged power-on? -/
def State.powered (s : State) (d : Nat) : Bool := s.flag 0x3 (Chip.PD_CTRL_ACK.nth d)

/-- The bit of domain d in PD_DROP_MAP (R583). -/
def State.dropped (s : State) (d : Nat) : Bool := hasBit (s.get 0x4 (Chip.PD_DROP_MAP_DROP.nth (d / 32))) (d % 32)

/-- CLK_STAT.LOCKED of PLL i, that of domain 87 + i (R564). -/
def State.pllLocked (s : State) (i : Nat) : Bool := hasBit (s.get 0x5 Chip.CLK_STAT_LOCKED) i

/-- A PLL that should run is unlocked (R587); that of a domain which dropped should (R560). -/
def State.pllDown (s : State) (i : Nat) : Bool := !s.pllLocked i && (s.powered (87 + i) || s.dropped (87 + i))

/-- The first page of the instance a page belongs to. -/
def PageRef.base (r : PageRef) : Nat := r.block.page r.inst

/-- Is an instance in block reset (STAT.RESET)? -/
def State.resetting (s : State) (r : PageRef) : Bool := s.power.resetting.contains r.base

/-- Every channel of a Harbour half trained (R284). -/
def State.harbourTrained (s : State) (h : Nat) : Bool :=
  [1, 2, 3, 4].all (fun p => s.flag (Block.page .harbour h p) Harbour.CH_STAT_TRAINED)

/-- STAT.READY (R73): powered, out of reset, and serving; a Harbour half when its channels are trained (R81, R284). -/
def State.ready (s : State) (r : PageRef) : Bool :=
  s.powered r.domain && !s.resetting r && (r.block != .harbour || s.harbourTrained r.inst)

/-- The terminal latch (R487). -/
def State.terminal (s : State) : Bool := s.flag 0x20 Breakwater.BW_STAT_TERMINAL

/-- Factory test mode (R614). -/
def State.factory (s : State) : Bool := s.flag 0x0 Chip.CHIP_CFG_FACTORY

/-! ## Halves and the host link's mode (R22, R453, R459) -/

/-- x16 mode (R22, R79). -/
def State.x16 (s : State) : Bool := s.get 0x0 Chip.CHIP_CFG_HOST_MODE == 0

/-- The state of half h (R453). -/
def State.halfState (s : State) (h : Nat) : Nat :=
  if h = 0 then s.get 0x40 Seawall.SW_STAT_STATE_H0 else s.get 0x40 Seawall.SW_STAT_STATE_H1

/-- Is half h FAILED (R453)? -/
def State.halfFailed (s : State) (h : Nat) : Bool := s.halfState h == 4

/-- Does half h's sentinel output reach the gated sinks (R454, R459)? -/
def State.halfActing (s : State) (h : Nat) : Bool := hasBit (s.get 0x40 Seawall.SW_STAT_ACTING) h

/-- The dual-act window of stream x in half h, of the last switch (R459). -/
def State.dualOf (s : State) (h x : Nat) : Option DualWindow := s.seawall.duals.find? (fun w => w.half == h && w.stream == x)

/-- Does half h act for sentinel stream x (R454, R459)? -/
def State.actsFor (s : State) (h x : Nat) : Bool := s.halfActing h && !(s.dualOf h x).any (fun w => w.until_.isSome)

/-- Was half h acting for stream x at the count C `t` (R460)? -/
def State.actedAt (s : State) (h x t : Nat) : Bool :=
  let since := s.seawall.actChanged.getD h 0
  match (s.dualOf h x).bind (·.until_) with
  | some u => decide (t < u)
  | none => if s.halfActing h then decide (since ≤ t) else decide (t < since)

/-- Half h has delivered row `row` of output k of stream x whole: SW_SPLIT records the first one of a frame that straddled the last switch to
it (R461). -/
def State.noteSplit (s : State) (h x k seq row : Nat) : State :=
  if h != s.get 0x40 Seawall.SW_LAST_TO || !s.seawall.splits.contains (x, k, seq) then s
  else
    let s := { s with seawall := { s.seawall with splits := s.seawall.splits.filter (· != (x, k, seq)) } }
    match s.tide.livePlan.bind (fun p => p.streams.find? (fun y => y.stream == x)) with
    | none => s
    | some y =>
      let s := (s.put 0x41 (Seawall.SW_SPLIT_VALID.nth y.sentinel k) 1).put 0x41 (Seawall.SW_SPLIT_ROW.nth y.sentinel k) row
      s.put 0x41 (Seawall.SW_SPLIT_SEQ_SEQ.nth y.sentinel) seq

/-- Note what a half has done in the tide in progress (R465). -/
def State.noteHalf (s : State) (h : Nat) (g : HalfTide → HalfTide) : State :=
  { s with seawall := { s.seawall with tide := s.seawall.tide.modify h g } }

/-- A half reports a self-check failure (R457), which reaches the Seawall by HALF_FAILURE. -/
def State.selfCheck (s : State) (h cause : Nat) : State :=
  (s.noteHalf h fun t => { t with checkBad := true }).owe (.selfCheck h cause)

/-- MSI-X source n is owed to every port (R356). -/
def State.oweMsix (s : State) (n : Nat) : State :=
  if s.x16 then s.owe (.msix 0 n) else (s.owe (.msix 0 n)).owe (.msix 1 n)

end Sys2Proof.Machine
end

