-- ==== Sys2Proof/Machine/Flags.lean ====
section
/-!
DEFINITION. Sys2Proof/Machine/Flags.lean: the event and fault bits of the pages: how they set, when a fault condition is an occurrence, and when a
bit clears by itself (R78, R478).
-/
namespace Sys2Proof.Machine

/-! ## Events (R78) -/

/-- Set event bit `b` of a page (R78): it sets whether or not it is enabled. -/
def State.event (s : State) (pg b : Nat) : State :=
  s.put pg Hdr.EVT_STAT_EVENT (setBit (s.get pg Hdr.EVT_STAT_EVENT) b)

/-- Set an event bit where a condition holds. -/
def State.eventIf (s : State) (c : Bool) (pg b : Nat) : State := if c then s.event pg b else s

/-- The page's interrupt: some enabled event bit is 1 (R78, R505). -/
def State.pageInterrupt (s : State) (pg : Nat) : Bool :=
  (s.get pg Hdr.EVT_STAT_EVENT &&& s.get pg Hdr.EVT_EN_ENABLE) != 0

/-! ## Faults (R78, R478) -/

/-- The fault marks of a page. -/
def State.marks (s : State) (pg : Nat) : FltMarks := SMap.get (fun _ => {}) s.flt pg

/-- Store the fault marks of a page. -/
def State.putMarks (s : State) (pg : Nat) (m : FltMarks) : State :=
  { s with flt := SMap.set (fun _ => {}) s.flt pg m }

/-- Is FLT_STAT bit `b` of a page 1? -/
def State.fltBit (s : State) (pg b : Nat) : Bool := hasBit (s.get pg Hdr.FLT_STAT_FAULT) b

/-- Is the condition of a fault bit present? -/
def State.condBit (s : State) (pg b : Nat) : Bool := hasBit (s.marks pg).present b

/-- A detector reports an occurrence (R478): its FLT_STAT bit sets, and the Breakwater is told. -/
def State.occur (s : State) (pg b : Nat) : State :=
  (s.put pg Hdr.FLT_STAT_FAULT (setBit (s.get pg Hdr.FLT_STAT_FAULT) b)).owe (.occurrence pg b)

/-- A fault bit is acknowledged, or holds no occurrence that is not. -/
def FltMarks.settled (m : FltMarks) (b : Nat) : Bool := !hasBit m.unack b && !hasBit m.conseq b

/-- A fault condition becomes present: one occurrence, if it was absent (R478). -/
def State.raise (s : State) (pg b : Nat) : State :=
  if s.condBit pg b then s
  else (s.putMarks pg { s.marks pg with present := setBit (s.marks pg).present b }).occur pg b

/-- A fault condition becomes absent: an acknowledged bit clears by itself (R78). -/
def State.lower (s : State) (pg b : Nat) : State :=
  if s.condBit pg b then
    let m := s.marks pg
    let s := s.putMarks pg { m with present := clearBit m.present b }
    if m.settled b && !s.due.contains (.occurrence pg b) then
      (s.put pg Hdr.FLT_STAT_FAULT (clearBit (s.get pg Hdr.FLT_STAT_FAULT) b)).putMarks pg
        { s.marks pg with err := clearBit (s.marks pg).err b }
    else s
  else s

/-- A fault condition judged at one instant (R78, R147): each time it is found present is an occurrence. -/
def State.condEach (s : State) (pg b : Nat) (p : Bool) : State :=
  if p then (if s.condBit pg b then s.occur pg b else s.raise pg b) else s.lower pg b

/-- A detector reports an event that raises a fault: each is an occurrence, whether or not its condition is present (R478). -/
def State.report (s : State) (pg b : Nat) : State := s.condEach pg b true

/-- After an event whose condition a judgement keeps: where it was present before too (`was`), the event is an occurrence of its own (R478). -/
def State.again (s : State) (pg b : Nat) (was : Bool) : State := if was && s.condBit pg b then s.occur pg b else s

/-- A fault condition as it now is. -/
def State.cond (s : State) (pg b : Nat) (p : Bool) : State := if p then s.raise pg b else s.lower pg b

end Sys2Proof.Machine
end

