-- ==== Sys2Proof/Machine/Access.lean ====
section
/-!
DEFINITION. Sys2Proof/Machine/Access.lean: which accesses to the register window are served, which are logged and how
(R8, R72, R80 to R85), and the guard that every register write of a command passes.
-/
namespace Sys2Proof.Machine

/-- Record and count a logged access (R80, R81): the first in full, later ones in OVERFLOW. -/
def State.logAccess (s : State) (req : Requester) (off : Nat) (write : Bool) (be cause : Nat) : State :=
  let s := s.countSat 0x1 Chip.ACC_ERR_COUNT_COUNT
  if s.flag 0x1 Chip.ACC_ERR_INFO_VALID then s.put 0x1 Chip.ACC_ERR_INFO_OVERFLOW 1
  else
    let s := s.put 0x1 Chip.ACC_ERR_ADDR_OFFSET off
    let s := s.put 0x1 Chip.ACC_ERR_INFO_REQUESTER req.code
    let s := s.put 0x1 Chip.ACC_ERR_INFO_WRITE (bit write)
    let s := s.put 0x1 Chip.ACC_ERR_INFO_BYTE_EN be
    let s := s.put 0x1 Chip.ACC_ERR_INFO_CAUSE cause
    (s.put 0x1 Chip.ACC_ERR_INFO_VALID 1).raise 0x1 0

/-- An offset of a page's header or its mirror (R72, R85). -/
def isHeaderOff (off : Nat) : Bool := decide (off % 0x800 < 0x40)

/-- The live half of a page (R72). -/
def isLiveOff (off : Nat) : Bool := decide (0x800 ≤ off % 0x1000)

/-- The fast-status page, which ignores every write without a log entry (R87). -/
def isFastOff (off : Nat) : Bool := off / 0x1000 == 0xF0

/-- Does a requester reach the window (R69)? Host port 1 does in 2 × x8 mode only; a function in D3hot decodes no memory access (R359). -/
def State.reaches (s : State) (req : Requester) : Bool := match req with
  | .host0 => s.get (Block.page .pcie 0 0) Pcie.PCIE_STAT_D_STATE != 3
  | .host1 => !s.x16 && s.get (Block.page .pcie 1 0) Pcie.PCIE_STAT_D_STATE != 3
  | .lp0 | .lp1 | .lp2 | .lp3 => true

/-- Is a write by a requester at an offset looked at: the requester reaches the window, no terminal latch is set (R487), and the page is not
the fast-status page (R87)? -/
def State.takesWrite (s : State) (req : Requester) (off : Nat) : Bool := s.reaches req && !s.terminal && !isFastOff off

/-- The cause of an access that is logged, none for one that is not (R81, in the order of its last list): unaligned;
the location; the state of the instance; a narrow write. A write to the live half of a page, or to the fast-status page, is never logged (R72, R87).
`width` is in bytes. -/
def State.accessCause (s : State) (write : Bool) (off width : Nat) : Option Nat :=
  let pg := off / 0x1000
  let r := pageRef pg
  if write && (isFastOff off || (r.isSome && isLiveOff off)) then none
  else if off % width ≠ 0 then some 0x2
  else if inJobWindow pg then (if write then some 0x3 else none)
  else match r with
    | none => if write then some 0x5 else if off % 0x1000 = 0 then none else some 0x4
    | some r =>
      if !isHeaderOff off && !s.ready r then
        (if s.powered r.domain then some 0x6 else some 0x7)
      else if write && width < 4 then some 0x1
      else none

/-- Byte enables of an access within its 32-bit word (R80). DESIGN CHOICE: those of a 32-bit or 64-bit access are 0xF wherever it begins, an
unaligned one, whose bytes lie in two words, included. -/
def byteEnables (off width : Nat) : Nat :=
  if 4 ≤ width then 0xF else (2 ^ width - 1) * 2 ^ (off % 4) % 16

/-- A write of one register word at window offset `off`: ignored where it is not looked at (R69, R87, R487), logged and
discarded where the instance does not serve it (R85), and otherwise its effect `k`. -/
def State.onWrite (s : State) (req : Requester) (off : Nat) (k : State → State) : State :=
  if !s.takesWrite req off then s
  else match s.accessCause true off 4 with
    | some c => s.logAccess req off true 0xF c
    | none => k s

/-- The window offset of a field's register. -/
def regOff (pg : Nat) (f : Field) : Nat := pg * 0x1000 + f.off

/-- Hold a capture of a multi-register value for a requester, in place of its last one (R9). -/
def State.holdCapture (s : State) (req : Requester) (off : Nat) (words : List Nat) : State :=
  { s with wordCaptures := ⟨req, off, words⟩ :: s.wordCaptures.filter (fun c => c.req != req || c.off != off) }

/-- A read of one register word at window offset `off` by a requester that reaches the window (R69): logged and answered with 0 where it is not served (R81, R85), and
otherwise the words of `k`, which go to the requester and stay captured for it (R9). -/
def State.onPop (s : State) (req : Requester) (off : Nat) (k : State → List Nat × State) : State :=
  if !s.reaches req then s
  else match s.accessCause false off 4 with
    | some c => (s.logAccess req off false 0xF c).emit (.readData req off [0])
    | none =>
      let (words, s) := k s
      let s := if words.length ≤ 1 then s else s.holdCapture req off words
      s.emit (.readData req off (words.take 1))

/-- Write the value of `w` to one RW field (R10, R12): clamped and rounded as stated; a code the field does not take leaves it
and sets event `reject`. -/
def State.writeField (s : State) (pg w reject : Nat) (f : Field) : State :=
  let v := bitsOf w f.hi f.lo
  if f.takes v then s.put pg f (f.stored v) else s.event pg reject

/-- Write the RW fields of one register. -/
def State.writeFields (s : State) (pg w reject : Nat) (fs : List Field) : State := fs.foldl (fun s f => s.writeField pg w reject f) s

end Sys2Proof.Machine
end

