-- ==== Sys2Proof/Machine/Beacon.lean ====
section
/-!
DEFINITION. Sys2Proof/Machine/Beacon.lean: the interrupts of the control cores (R503 to R527).
-/
namespace Sys2Proof.Machine

/-- Page 0 of the Beacon. -/
def bcnPage : Nat := 0x30

/-- A Beacon source. -/
def State.src (s : State) (n : Nat) : BeaconSrc := SMap.get (fun _ => {}) s.beacon.srcs n

/-- Store a Beacon source. -/
def State.putSrc (s : State) (n : Nat) (x : BeaconSrc) : State :=
  { s with beacon := { s.beacon with srcs := SMap.set (fun _ => {}) s.beacon.srcs n x } }

/-- A field of SRC_CFG of source n (R525). -/
def State.srcGet (s : State) (f : Field) (n : Nat) : Nat := s.get (0x31 + n / 256) (f.nth (n % 256))

/-- Store a field of SRC_CFG of source n. -/
def State.srcPut (s : State) (f : Field) (n v : Nat) : State := s.put (0x31 + n / 256) (f.nth (n % 256)) v

/-- PRIO of source n (R507). -/
def State.srcPrio (s : State) (n : Nat) : Nat := s.srcGet Beacon.SRC_CFG_PRIO n

/-- Is source n in the fast class (R507)? -/
def State.srcFast (s : State) (n : Nat) : Bool := s.srcGet Beacon.SRC_CFG_FAST n != 0

/-- Does TARGET of source n name processor k (R507)? -/
def State.srcTargets (s : State) (n k : Nat) : Bool := hasBit (s.srcGet Beacon.SRC_CFG_TARGET n) k

/-- A level source (R503, R504): source 0, or KIND 1. -/
def State.isLevelSrc (s : State) (n : Nat) : Bool := n == 0 || (decide (32 ≤ n) && s.srcGet Beacon.SRC_CFG_KIND n == 1)

/-- A reserved source (R503). -/
def isReservedSrc (n : Nat) : Bool := decide (28 ≤ n) && decide (n < 32)

/-- The Breakwater interrupt (R482): some source holds an unacknowledged occurrence of effective severity 2 or more. -/
def State.bwInterrupt (s : State) : Bool := s.flt.any (fun e => (e.2.sevs.drop 1).any fun m => (e.2.unack &&& m) != 0)

/-- The input of a level source (R503, R504). -/
def State.levelInput (s : State) (n : Nat) : Bool :=
  if n = 0 then s.bwInterrupt else s.pageInterrupt (s.srcGet Beacon.SRC_CFG_INPUT n)

/-- The interrupt stack of processor k, innermost first. -/
def State.irqStack (s : State) (k : Nat) : List (Nat × Nat) := SMap.get (fun _ => []) s.beacon.irqs k

/-- Is processor k serving a fast source (R508)? -/
def State.fastBusy (s : State) (k : Nat) : Bool := (s.irqStack k).any (fun e => e.2 == 16)

/-- The running priority of processor k (R508). -/
def State.runPrio (s : State) (k : Nat) : Nat :=
  if s.fastBusy k then 16 else match s.irqStack k with
    | [] => 0
    | e :: _ => e.2

/-- Processor k's interrupt stack takes a value, and LP_STAT shows it (R523). -/
def State.putStack (s : State) (k : Nat) (l : List (Nat × Nat)) : State :=
  let s := { s with beacon := { s.beacon with irqs := SMap.set (fun _ => []) s.beacon.irqs k l } }
  let normal := l.filter (fun e => e.2 != 16)
  let s := s.put bcnPage (Beacon.LP_STAT_FAST_BUSY.nth k) (bit (s.fastBusy k))
  let s := s.put bcnPage (Beacon.LP_STAT_RUN_PRIO.nth k) ((normal.head?.map (·.2)).getD 0)
  let s := s.put bcnPage (Beacon.LP_STAT_DEPTH.nth k) normal.length
  let s := s.put bcnPage (Beacon.LP_STAT_VALID.nth k) (bit !l.isEmpty)
  s.put bcnPage (Beacon.LP_STAT_SOURCE.nth k) ((l.head?.map (·.1)).getD 0)

/-- Is the half of processor k FAILED (R453)? -/
def State.lpHalfFailed (s : State) (k : Nat) : Bool := s.halfFailed (k / 2)

/-- Can processor k take any source (R508): LP_CTL.EN, mstatus.MIE, a half that is not FAILED, a pair that runs? -/
def State.lpTakes (s : State) (k : Nat) : Bool :=
  s.flag bcnPage (Beacon.LP_CTL_EN.nth k) && hasBit s.cores.mie k && !s.lpHalfFailed k && s.ready ⟨.lp, k, 0⟩

/-- Is processor k eligible for source n (R508)? -/
def State.eligible (s : State) (n k : Nat) : Bool :=
  s.srcTargets n k && s.lpTakes k && (if s.srcFast n then !s.fastBusy k else decide (s.runPrio k < s.srcPrio n))

/-- The conditions of STARVED, NO_TARGET and LP_HUNG as they now are (R524, R527). -/
def State.judgeBeacon (s : State) : State :=
  let noTarget := fun n => s.srcPrio n != 0 && [0, 1, 2, 3].all (fun k =>
    !s.srcTargets n k || !s.flag bcnPage (Beacon.LP_CTL_EN.nth k) || s.lpHalfFailed k)
  let starved := s.beacon.srcs.any (fun e => e.2.pend && e.2.starved)
  let hung := s.beacon.srcs.any (fun e => e.2.act && e.2.hung)
  let lost := s.beacon.srcs.any (fun e => e.2.pend && !e.2.act && noTarget e.1)
  ((s.cond bcnPage 0 starved).cond bcnPage 1 lost).cond bcnPage 5 hung

/-- Source n fires (R505, R506, R515, R521): it is counted, its MSI-X source fires, and its core state follows unless
PRIO is 0. -/
def State.fireSource (s : State) (n : Nat) : State :=
  let s := (s.oweMsix (1024 + n)).countWrap bcnPage Beacon.BCN_FIRINGS_COUNT
  if s.srcPrio n = 0 then s
  else
    let x := s.src n
    if x.pend then s.countSat bcnPage Beacon.BCN_MERGED_COUNT
    else (s.putSrc n { x with pend := true, fired := s.time.c }).judgeBeacon

/-- Source n leaves PENDING without service. -/
def State.unpend (s : State) (n : Nat) : State := s.putSrc n { s.src n with pend := false, starved := false, fired := 0 }

/-- A completion pulse of Drift channel c (R333) reaches every source that takes it as its input (R504). -/
def State.pulseSources (s : State) (c : Nat) : State :=
  ((List.range 512).filter fun n => decide (32 ≤ n) && s.srcGet Beacon.SRC_CFG_KIND n == 2 && s.srcGet Beacon.SRC_CFG_INPUT n == c).foldl
    (fun (s : State) n => s.owe (.pulse n)) s

/-- BEACON_FIRING: source n fires (R505): a level source at a rise of its input, an edge source at a pulse of it that is due. -/
def execBeaconFiring (n : Fin 512) (s : State) : Result :=
  .next <|
    if isReservedSrc n then s
    else if s.isLevelSrc n then
      if s.levelInput n && !(s.src n).level then
        (s.putSrc n { s.src n with level := true }).fireSource n
      else s
    else if s.due.contains (.pulse n) then ({ s with due := s.due.erase (.pulse n) }).fireSource n
    else s

/-- The order of R510 between two sources: fast first, then the higher PRIO, then the lower number. -/
def State.srcBefore (s : State) (a b : Nat) : Bool :=
  if s.srcFast a != s.srcFast b then s.srcFast a
  else if s.srcPrio a ≠ s.srcPrio b then decide (s.srcPrio b < s.srcPrio a) else decide (a ≤ b)

/-- The best eligible processor for source n (R511): the lowest running priority, then the rotation from p. -/
def State.bestLp (s : State) (n : Nat) : Option Nat :=
  let p := s.get bcnPage Beacon.BCN_STAT_POINTER
  let ks := ([p, p + 1, p + 2, p + 3].map (· % 4)).filter (s.eligible n)
  ks.foldl (fun best k => match best with
    | none => some k
    | some b => if s.runPrio k < s.runPrio b then some k else some b) none

/-- The pending source that is delivered next, and to whom (R510, R511). -/
def State.nextDelivery (s : State) : Option (Nat × Nat) :=
  let waiting := (s.beacon.srcs.filter (fun e => e.2.pend && !e.2.act)).map (·.1)
  waiting.foldl (fun best n =>
    match s.bestLp n with
    | none => best
    | some k => match best with
      | none => some (n, k)
      | some (b, kb) => if s.srcBefore n b then some (n, k) else some (b, kb)) none

/-- Source n is delivered to processor k (R509, R511, R512). -/
def State.deliver (s : State) (n k : Nat) : State :=
  let x := s.src n
  let prompt := decide (s.time.c - x.fired ≤ 25)
  let s := s.putStack k ((n, if s.srcFast n then 16 else s.srcPrio n) :: s.irqStack k)
  let s := s.putSrc n { x with pend := false, act := true, lp := k, starved := false, hung := false, fired := 0, claimed := s.time.c }
  let s := s.put bcnPage Beacon.BCN_STAT_POINTER (k + 1)
  let s := s.countWrap bcnPage (Beacon.LP_TAKEN_COUNT.nth k)
  let s := s.emit (.vector k (s.get bcnPage (Beacon.LP_VBASE_BASE.nth k) * 0x1000 + 8 * n))
  let (v, s') := s.fresh
  (if prompt then s'.putMax bcnPage (Beacon.LP_LAT_MAX_CYCLES.nth k) (1 + v % 20) else s).judgeBeacon

/-- BEACON_DELIVER: the first pending source in the order of R510 that has an eligible processor is delivered to the best. -/
def execBeaconDeliver (s : State) : Result :=
  .next <| match s.nextDelivery with
    | none => s
    | some (n, k) => s.deliver n k

/-- BEACON_LEVEL_FALL: the input of level source n falls (R516). -/
def execBeaconLevelFall (n : Fin 512) (s : State) : Result :=
  .next <|
    let x := s.src n
    if s.isLevelSrc n && x.level && !s.levelInput n then
      let s := s.putSrc n { x with level := false }
      if x.pend && !x.act then ((s.unpend n).countSat bcnPage Beacon.BCN_WITHDRAWN_COUNT).judgeBeacon else s
    else s

/-- What source n is when a processor lets go of it (R515, R516, R518, R519): `again` for an edge source. -/
def State.releaseSource (s : State) (n : Nat) (again : Bool) : State :=
  let x := s.src n
  let up := s.srcPrio n != 0 && (if s.isLevelSrc n then s.levelInput n else again)
  s.putSrc n { x with act := false, hung := false, lp := 0, claimed := 0, pend := up, starved := false,
                      fired := if up then s.time.c else 0 }

/-- Processor k's last EOI was ignored, or not (R527). -/
def State.putEoiBad (s : State) (k : Nat) (b : Bool) : State :=
  let m := if b then setBit s.beacon.eoiBad k else clearBit s.beacon.eoiBad k
  let t := { s with beacon := { s.beacon with eoiBad := m } }
  if b then t.report bcnPage 2 else t.cond bcnPage 2 (m != 0)

/-- BEACON_EOI: a write of LP_EOI of processor k (R514). -/
def execBeaconEoi (req : Requester) (k : Fin 4) (w : Word) (s : State) : Result :=
  .next <| s.onWrite req (regOff bcnPage (Beacon.LP_EOI_SOURCE.nth k)) fun s =>
    let n := bitsOf w.toNat 8 0
    if req.lp? ≠ some k.val then s.event bcnPage 1
    else match s.irqStack k with
      | [] => s.putEoiBad k true
      | e :: rest =>
        if e.1 ≠ n then s.putEoiBad k true
        else (((s.putStack k rest).releaseSource n (s.src n).pend).putEoiBad k false).judgeBeacon

/-- The sources named by the bits of word w of a map. -/
def mapSources (i v : Nat) : List Nat := ((List.range 32).filter (hasBit v)).map (32 * i + ·)

/-- BEACON_SET: a write of SET word i (R526): each edge source named fires; a level or reserved one is rejected. -/
def execBeaconSet (req : Requester) (i : Fin 16) (w : Word) (s : State) : Result :=
  .next <| s.onWrite req (regOff 0x33 (Beacon.SET_SRC.nth i)) fun s =>
    (mapSources i w.toNat).foldl (fun s n =>
      if isReservedSrc n || s.isLevelSrc n then s.event bcnPage 1 else s.fireSource n) s

/-- BEACON_CLR: a write of CLR word i (R526). -/
def execBeaconClr (req : Requester) (i : Fin 16) (w : Word) (s : State) : Result :=
  .next <| s.onWrite req (regOff 0x33 (Beacon.CLR_SRC.nth i)) fun s =>
    ((mapSources i w.toNat).foldl (fun s n => if s.isLevelSrc n then s else s.unpend n) s).judgeBeacon

/-- BEACON_WATCHDOG: source n has stayed PENDING for STARVE_US, or ACTIVE for SERVICE_US (R524). -/
def execBeaconWatchdog (n : Fin 512) (s : State) : Result :=
  let x := s.src n
  .next <| if x.act then ((s.putSrc n { x with hung := true }).judgeBeacon).again bcnPage 5 (s.condBit bcnPage 5)
    else if x.pend && s.srcPrio n != 0 then ((s.putSrc n { x with starved := true }).judgeBeacon).again bcnPage 0 (s.condBit bcnPage 0)
    else s

/-- Every source leaves processor k (R519), whose stack is emptied. -/
def State.beaconDropLp (s : State) (k : Nat) : State :=
  let mine := (s.beacon.srcs.filter (fun e => e.2.act && e.2.lp == k)).map (·.1)
  ((mine.foldl (fun s n => s.releaseSource n true) s).putStack k []).judgeBeacon

/-- A write of SRC_CFG of source n (R504, R518, R525). -/
def State.writeSrcCfg (s : State) (n w : Nat) : State :=
  if isReservedSrc n then s
  else
    let kind := bitsOf w 15 14
    let input := bitsOf w 13 0
    let ok := kind == 0 || (kind == 1 && (pageRef input).isSome) || (kind == 2 && decide (input < 1024))
    let s :=
      if n < 32 then s
      else if !ok then s.event bcnPage 1
      else
        let moved := s.srcGet Beacon.SRC_CFG_KIND n != kind || s.srcGet Beacon.SRC_CFG_INPUT n != input
        let s := (s.srcPut Beacon.SRC_CFG_KIND n kind).srcPut Beacon.SRC_CFG_INPUT n input
        let s := s.srcPut Beacon.SRC_CFG_LEVEL n (bit (kind == 1))
        if moved then s.putSrc n { s.src n with level := false } else s
    let s := s.srcPut Beacon.SRC_CFG_PRIO n (bitsOf w 31 28)
    let s := s.srcPut Beacon.SRC_CFG_FAST n (bitsOf w 27 27)
    let s := s.srcPut Beacon.SRC_CFG_TARGET n (bitsOf w 25 22)
    let s := s.srcPut Beacon.SRC_CFG_WAKE n (bitsOf w 21 21)
    let x := s.src n
    let s :=
      if bitsOf w 31 28 = 0 ∧ x.pend ∧ !x.act then (s.unpend n).countSat bcnPage Beacon.BCN_WITHDRAWN_COUNT else s
    s.judgeBeacon

/-- A write of LP_VBASE of processor k (R523): it must lie in the tightly coupled memory of R529. -/
def State.writeVbase (s : State) (k w : Nat) : State :=
  let a := bitsOf w 31 12
  if 0x10000 ≤ a ∧ a ≤ 0x1003F then s.put bcnPage (Beacon.LP_VBASE_BASE.nth k) a else s.event bcnPage 1

/-- PEND word i, or ACTIVE word i, of page 3 (R526). -/
def State.pendWord (s : State) (i : Nat) (active : Bool) : Nat :=
  (List.range 32).foldl (fun a b =>
    let x := s.src (32 * i + b)
    if (if active then x.act else x.pend) then a + 2 ^ b else a) 0

end Sys2Proof.Machine
end

