-- ==== Sys2Proof/Machine/Operands.lean ====
section
/-!
DEFINITION. Sys2Proof/Machine/Operands.lean: the number forms, roundings, byte orders and check codes of the manual
(R5 to R7, R122): what a command's operands and a record's bytes are made of.
-/
namespace Sys2Proof.Machine

/-- Round half up of a / b for b > 0 (R7). -/
def roundHalfUp (a : Int) (b : Nat) : Int := (2 * a + b) / (2 * b)

/-- Round half even of a / b for b > 0 (R7). -/
def roundHalfEven (a : Int) (b : Nat) : Int :=
  let q := a / b
  let r := a % b
  if 2 * r < b then q else if 2 * r > b then q + 1 else if q % 2 = 0 then q else q + 1

/-- ⌈a / b⌉ for b > 0. -/
def ceilDiv (a b : Nat) : Nat := (a + b - 1) / b

/-- Saturate to an unsigned code of `w` bits (R7). -/
def satU (w : Nat) (i : Int) : Nat := (max 0 (min i ((2 : Int) ^ w - 1))).toNat

/-- Saturate to a signed range of `w` bits (R7). -/
def satS (w : Nat) (i : Int) : Int := max (-(2 : Int) ^ (w - 1)) (min i ((2 : Int) ^ (w - 1) - 1))

/-- The value of bytes, least significant first (R5). -/
def ofBytesLE : List Byte → Nat
  | [] => 0
  | b :: r => b.toNat + 256 * ofBytesLE r

/-- The low `n` bytes of a value, least significant first (R5). -/
def toBytesLE : Nat → Nat → List Byte
  | 0, _ => []
  | n + 1, v => BitVec.ofNat 8 v :: toBytesLE n (v / 256)

/-- The value of bytes, most significant first (network order). -/
def ofBytesBE (bs : List Byte) : Nat := bs.foldl (fun a b => 256 * a + b.toNat) 0

/-- The low `n` bytes of a value, most significant first. -/
def toBytesBE (n v : Nat) : List Byte := (toBytesLE n v).reverse

/-- `n` bytes from position `p`, zeros past the end. -/
def sliceBytes (bs : List Byte) (p n : Nat) : List Byte :=
  let t := (bs.drop p).take n
  t ++ List.replicate (n - t.length) 0

/-- The little-endian value of the `n` bytes at position `p`. -/
def fieldLE (bs : List Byte) (p n : Nat) : Nat := ofBytesLE (sliceBytes bs p n)

/-- One bit-serial step of a check code of `w` bits, most significant bit first. -/
def crcStepMsb (w poly crc : Nat) (b : Bool) : Nat :=
  let top := crc.testBit (w - 1) != b
  let sh := crc * 2 % 2 ^ w
  if top then sh ^^^ poly else sh

/-- One bit-serial step of a reflected check code. -/
def crcStepLsb (poly crc : Nat) (b : Bool) : Nat :=
  let low := crc.testBit 0 != b
  if low then (crc / 2) ^^^ poly else crc / 2

/-- A byte's bits, most significant first. -/
def bitsMsb (b : Byte) : List Bool := [7, 6, 5, 4, 3, 2, 1, 0].map b.toNat.testBit

/-- A byte's bits, least significant first. -/
def bitsLsb (b : Byte) : List Bool := [0, 1, 2, 3, 4, 5, 6, 7].map b.toNat.testBit

/-- A check code over bytes, each most significant bit first. -/
def crcMsb (w poly init : Nat) (bs : List Byte) : Nat :=
  bs.foldl (fun c b => (bitsMsb b).foldl (crcStepMsb w poly) c) init

/-- A check code over bytes, each least significant bit first, with a reflected polynomial. -/
def crcLsb (poly init : Nat) (bs : List Byte) : Nat :=
  bs.foldl (fun c b => (bitsLsb b).foldl (crcStepLsb poly) c) init

/-- CRC-16 (R122): 0x1021, from 0xFFFF, most significant bit first. -/
def crc16 (bs : List Byte) : Nat := crcMsb 16 0x1021 0xFFFF bs

/-- CRC-32C (R273): 0x1EDC_6F41 reflected, from 0xFFFF_FFFF, inverted at the end. -/
def crc32c (bs : List Byte) : Nat := crcLsb 0x82F6_3B78 0xFFFF_FFFF bs ^^^ 0xFFFF_FFFF

/-- CRC-32 of IEEE 802.3 (R442): 0x04C1_1DB7 reflected, from 0xFFFF_FFFF, inverted at the end. -/
def crc32 (bs : List Byte) : Nat := crcLsb 0xEDB8_8320 0xFFFF_FFFF bs ^^^ 0xFFFF_FFFF

end Sys2Proof.Machine
end

