-- ==== Sys2Proof/Machine/Tidemark.lean ====
section
/-!
DEFINITION. Sys2Proof/Machine/Tidemark.lean: the two time domains, active-domain time and its residual (R395 to R403).
-/
namespace Sys2Proof.Machine

/-- DOM_STAT.STATE of domain x (R399): 0 OFF, 1 ACQUIRE, 2 TRACK, 3 LOCKED, 4 HOLDOVER. -/
def State.domState (s : State) (x : Nat) : Nat := s.get tmPage (Tidemark.DOM_STAT_STATE.nth x)

/-- TIME_UNLOCKED as it now is (R423): a plan is live, and nothing is adopted or the active domain is not LOCKED. -/
def State.judgeTimeUnlocked (s : State) : State :=
  s.cond tmPage 0 (s.planLive && (!s.flag tmPage Tidemark.TM_SEL_ADOPTED || s.domState s.activeDomain != 3))

/-- A residual moved to `r`: kept while a plan is live; with none it is cleared, and P steps (R403). -/
def State.settleResidual (s : State) (r : Int) : State :=
  if s.planLive || r == 0 then { s with time := { s.time with res := r } }.eventIf (s.time.res != 0 && r == 0) tmPage 3
  else (({ s with time := { s.time with res := 0 } }).event tmPage 2).countSat tmPage Tidemark.TM_CNT_SW_STEPS

/-- Carry out a change `k` of D_active without moving P (R403): RES takes up the difference. -/
def State.keepTime (s : State) (k : State → State) : State :=
  let before := s.activeTime (s.time.c * 2 ^ 32)
  let s := k s
  if s.flag tmPage Tidemark.TM_SEL_ADOPTED then
    s.settleResidual (toSigned 96 ((before + 2 ^ 96 - s.domainTime s.activeDomain (s.time.c * 2 ^ 32)) % 2 ^ 96))
  else s

/-- The domain that MODE would have adopted now, if one is LOCKED (R402). -/
def State.adoptable (s : State) : Option Nat :=
  let locked := fun x => s.domState x == 3
  match s.get tmPage Tidemark.TM_SEL_MODE with
  | 0 => if locked 0 then some 0 else none
  | 1 => if locked 1 then some 1 else none
  | 2 => if locked 0 then some 0 else if locked 1 then some 1 else none
  | _ => if locked 1 then some 1 else if locked 0 then some 0 else none

/-- The first adoption (R402). -/
def State.adopt (s : State) : State :=
  if s.flag tmPage Tidemark.TM_SEL_ADOPTED then s
  else match s.adoptable with
    | none => s
    | some x => (s.keepTime (fun s => (s.put tmPage Tidemark.TM_SEL_ADOPTED 1).put tmPage Tidemark.TM_SEL_ACTIVE x)).event tmPage 0

/-- A domain enters a state (R399): DOM_LOCK and DOM_UNLOCK, the holdover fault, adoption, TIME_UNLOCKED. -/
def State.enterDomState (s : State) (x st : Nat) : State :=
  let old := s.domState x
  let s := s.put tmPage (Tidemark.DOM_STAT_STATE.nth x) st
  let s := s.eventIf (old != 3 && st == 3) tmPage 4
  let s := s.eventIf (old == 3 && st != 3) tmPage 5
  (s.cond tmPage (1 + x) (st == 4)).adopt.judgeTimeUnlocked

/-- Switch the active domain (R401): P does not move, SWITCH is set and counted. -/
def State.switchDomain (s : State) (x : Nat) : State :=
  if s.activeDomain = x then s
  else (((s.keepTime (fun s => s.put tmPage Tidemark.TM_SEL_ACTIVE x)).event tmPage 1).countSat tmPage
    Tidemark.TM_CNT_SW_SWITCHES).judgeTimeUnlocked

/-- A 64.32 triple of registers, in 2⁻³² ns: words LO, HI, FRAC. -/
def State.triple (s : State) (f : Field) (x : Nat) : Nat :=
  (s.get tmPage (f.nth x 0) + s.get tmPage (f.nth x 1) * 2 ^ 32) * 2 ^ 32 + s.get tmPage (f.nth x 2)

/-- OFFSET of domain x takes a value: in force, and in its words. -/
def State.putOffset (s : State) (x v : Nat) : State :=
  let v := v % 2 ^ 96
  let s := { s with time := if x = 0 then { s.time with offA := v } else { s.time with offB := v } }
  ((s.put tmPage (Tidemark.OFF_OFFSET.nth x 0) (v / 2 ^ 32)).put tmPage (Tidemark.OFF_OFFSET.nth x 1) (v / 2 ^ 64)).put tmPage
    (Tidemark.OFF_OFFSET.nth x 2) v

/-- RATE of domain x takes a value, and OFFSET what keeps D_x continuous (R398). -/
def State.putRate (s : State) (x : Nat) (r : Int) : State :=
  let d := ((s.time.c * 2 ^ 32 : Nat) : Int) * (s.rate x - r) / 2 ^ 40
  (s.putOffset x (ofSigned 96 ((s.time.off x : Int) + d))).put tmPage (Tidemark.RATE_RATE.nth x) (ofSigned 32 r)

/-- The consecutive-sample count of domain x. -/
def State.lockRun (s : State) (x : Nat) : Nat := if x = 0 then s.time.runA else s.time.runB

/-- Store the consecutive-sample count of domain x. -/
def State.putLockRun (s : State) (x n : Nat) : State :=
  { s with time := if x = 0 then { s.time with runA := n } else { s.time with runB := n } }

/-- SMP_ERR (R400): e saturated to s24.8. The manual names no rounding for the dropped fraction: where there is one, the
last bit is a free value between the two nearest codes. -/
def State.putServoError (s : State) (x : Nat) (e : Int) : State :=
  if e % 2 ^ 24 = 0 then s.put tmPage (Tidemark.SMP_ERR_E.nth x) (ofSigned 32 (satS 32 (e / 2 ^ 24)))
  else
    let (v, s) := s.fresh
    s.put tmPage (Tidemark.SMP_ERR_E.nth x) (ofSigned 32 (satS 32 (e / 2 ^ 24 + ((v % 2 : Nat) : Int))))

/-- A sample steps the domain (R400). -/
def State.servoStep (s : State) (x : Nat) (e : Int) : State :=
  let k := fun s : State => s.putOffset x (ofSigned 96 ((s.time.off x : Int) + e))
  let s := if s.activeDomain = x then s.keepTime k else k s
  let s := ((s.countSat tmPage (Tidemark.DOM_STAT_STEPS.nth x)).event tmPage 6).putLockRun x 0
  s.enterDomState x 2

/-- A sample steers the domain (R400): the proportional and integral terms, then the state of R399. The LOCK_COUNT samples are
those in TRACK: the sample that enters TRACK starts the count anew and is not one of them (DEDUCED, log entry on the domains). -/
def State.servoSteer (s : State) (x : Nat) (e : Int) : State :=
  let kp := s.get tmPage (Tidemark.SRV_KP_KP.nth x)
  let ki := s.get tmPage (Tidemark.SRV_KI_KI.nth x)
  let i := satS 32 (toSigned 32 (s.get tmPage (Tidemark.INTEG_I.nth x)) + roundHalfEven ((ki : Int) * e) (2 ^ 40))
  let s := (s.put tmPage (Tidemark.INTEG_I.nth x) (ofSigned 32 i)).putRate x (satS 32 (i + roundHalfEven ((kp : Int) * e) (2 ^ 40)))
  let mag := e.natAbs
  let run := if mag ≤ s.get tmPage (Tidemark.SRV_LOCK_LOCK_NS.nth x) * 2 ^ 32 then s.lockRun x + 1 else 0
  match s.domState x with
  | 3 => if mag > s.get tmPage (Tidemark.SRV_LOCK_UNLOCK_NS.nth x) * 2 ^ 32 then (s.putLockRun x 0).enterDomState x 2 else s
  | 2 => (s.putLockRun x run).enterDomState x (if run ≥ s.get tmPage (Tidemark.SRV_TIMING_LOCK_COUNT.nth x) then 3 else 2)
  | _ => (s.putLockRun x 0).enterDomState x 2

/-- Apply a master-time sample (R400): M in 2⁻³² ns at count C_s. In OFF the domain runs on as it is (R399). -/
def State.servoSample (s : State) (x m cs : Nat) : State :=
  if s.domState x = 0 then s
  else
    let e := toSigned 96 ((m + 2 ^ 96 - s.domainTime x cs) % 2 ^ 96)
    let step := s.domState x == 1 || decide (e.natAbs > s.get tmPage (Tidemark.SRV_STEP_STEP_NS.nth x) * 2 ^ 32)
    let s := if step then s.servoStep x e else s.servoSteer x e
    (s.putServoError x e).countWrap tmPage (Tidemark.SMP_COUNT_COUNT.nth x)

/-- One core cycle: C counts, and RES moves toward 0 by SLEW_PPM × 4,294 × 2⁻³² ns (R395, R403). -/
def State.tick (s : State) : State :=
  let d := (s.get tmPage Tidemark.TM_SEL_SLEW_PPM * 4294 : Nat)
  let r := s.time.res
  let r' : Int := if r > 0 then max 0 (r - d) else min 0 (r + d)
  let s := { s with time := { s.time with c := (s.time.c + 1) % 2 ^ 64, res := r' } }
  s.eventIf (r != 0 && r' == 0) tmPage 3

/-- One cycle of the 25 MHz reference in retention sleep (R395): only the count moves. -/
def State.sleepTick (s : State) : State := { s with time := { s.time with c := (s.time.c + 40) % 2 ^ 64 } }

/-! ## Commands -/

/-- DOMAIN_ENABLE: a write of DOM_CFG of domain x (R399, R407). -/
def execDomainEnable (req : Requester) (x : Fin 2) (w : Word) (s : State) : Result :=
  .next <| s.onWrite req (regOff tmPage (Tidemark.DOM_CFG_EN.nth x)) fun s =>
    let number := bitsOf w.toNat 6 0
    let taken := decide (number = s.get tmPage (Tidemark.DOM_CFG_NUMBER.nth (1 - x)))
    let s := if taken then s.event tmPage 7 else s.put tmPage (Tidemark.DOM_CFG_NUMBER.nth x) number
    let s := s.put tmPage (Tidemark.DOM_CFG_OWNER.nth x) (bitsOf w.toNat 30 30)
    let en := bitsOf w.toNat 31 31
    let s := s.put tmPage (Tidemark.DOM_CFG_EN.nth x) en
    if en = 0 then (s.putLockRun x 0).enterDomState x 0
    else if s.domState x = 0 then s.enterDomState x 1 else s

/-- DOMAIN_OFFSET_WRITE: a write of OFF_FRAC applies OFF_LO, OFF_HI and OFF_FRAC together while the domain is OFF (R398). -/
def execDomainOffsetWrite (req : Requester) (x : Fin 2) (w : Word) (s : State) : Result :=
  .next <| s.onWrite req (regOff tmPage (Tidemark.OFF_OFFSET.nth x 2)) fun s =>
    if s.domState x = 0 then
      let v := (s.get tmPage (Tidemark.OFF_OFFSET.nth x 0) + s.get tmPage (Tidemark.OFF_OFFSET.nth x 1) * 2 ^ 32) * 2 ^ 32 + w.toNat
      if s.activeDomain = x then s.keepTime (fun s => s.putOffset x v) else s.putOffset x v
    else s.event tmPage 7

/-- SERVO_SAMPLE: a write of SMP_CTL.GO applies the sample held in SMP_CNT and SMP_MST (R400). With OWNER = 0 a host's
write is ignored. -/
def execServoSample (req : Requester) (x : Fin 2) (s : State) : Result :=
  .next <| s.onWrite req (regOff tmPage (Tidemark.SMP_CTL_GO.nth x)) fun s =>
    if s.get tmPage (Tidemark.DOM_CFG_OWNER.nth x) = 0 ∧ req.lp?.isNone then s
    else s.servoSample x (s.triple Tidemark.SMP_MST_M x) (s.triple Tidemark.SMP_CNT_C_S x)

/-- DOMAIN_SAMPLE_TIMEOUT: no sample for SAMPLE_TO_MS (R399). -/
def execDomainSampleTimeout (x : Fin 2) (s : State) : Result :=
  .next <| if s.domState x = 2 ∨ s.domState x = 3 then (s.putLockRun x 0).enterDomState x 4 else s

/-- DOMAIN_FAILOVER: the active domain has been in HOLDOVER or OFF for FAILOVER_MS and the other is LOCKED, in an
automatic mode (R401). -/
def execDomainFailover (s : State) : Result :=
  let a := s.activeDomain
  .next <| if 2 ≤ s.get tmPage Tidemark.TM_SEL_MODE ∧ (s.domState a = 4 ∨ s.domState a = 0) ∧ s.domState (1 - a) = 3
    then s.switchDomain (1 - a) else s

/-- DOMAIN_REVERT: the preferred domain has been LOCKED for REVERT_S (R401). -/
def execDomainRevert (s : State) : Result :=
  let m := s.get tmPage Tidemark.TM_SEL_MODE
  .next <| if 2 ≤ m ∧ s.domState (m - 2) = 3 then s.switchDomain (m - 2) else s

/-- TM_SEL_WRITE: a write of TM_SEL; MODE 0 or 1 switches at once, locked or not (R401). -/
def execTmSelWrite (req : Requester) (w : Word) (s : State) : Result :=
  .next <| s.onWrite req (regOff tmPage Tidemark.TM_SEL_MODE) fun s =>
    let mode := bitsOf w.toNat 31 30
    let s := s.put tmPage Tidemark.TM_SEL_MODE mode
    let s := s.put tmPage Tidemark.TM_SEL_SLEW_PPM (Tidemark.TM_SEL_SLEW_PPM.stored (bitsOf w.toNat 23 16))
    let s := s.put tmPage Tidemark.TM_SEL_FAILOVER_MS (Tidemark.TM_SEL_FAILOVER_MS.stored (bitsOf w.toNat 15 0))
    (if mode < 2 then s.switchDomain mode else s).adopt.judgeTimeUnlocked

/-- PRESET_WRITE: a write of TM_PRESET_HI applies PRESET (R402); after adoption or while a plan is live it is ignored. -/
def execPresetWrite (req : Requester) (w : Word) (s : State) : Result :=
  .next <| s.onWrite req (regOff tmPage Tidemark.TM_PRESET_HI_PRESET) fun s =>
    if s.flag tmPage Tidemark.TM_SEL_ADOPTED || s.planLive then s.event tmPage 7
    else
      let p := s.get tmPage Tidemark.TM_PRESET_LO_PRESET + w.toNat * 2 ^ 32
      let moved := p != s.time.preset
      let s := { s.put tmPage Tidemark.TM_PRESET_HI_PRESET w.toNat with time := { s.time with preset := p } }
      if moved then (s.event tmPage 2).countSat tmPage Tidemark.TM_CNT_SW_STEPS else s

/-- SLEW_DONE: RES reaches 0 (R403), after as many core cycles as its slew takes. -/
def execSlewDone (s : State) : Result :=
  let d := s.get tmPage Tidemark.TM_SEL_SLEW_PPM * 4294
  .next <| if s.time.res = 0 then s
    else
      let s := { s with time := { s.time with c := (s.time.c + ceilDiv s.time.res.natAbs d) % 2 ^ 64, res := 0 } }
      s.event tmPage 3

end Sys2Proof.Machine
end

