-- ==== Sys2Proof/Machine/Ethernet.lean ====
section
/-!
DEFINITION. Sys2Proof/Machine/Ethernet.lean: the MACs, the internal bridge and the stream port (R405 to R418).
Frames are bytes from the destination address, without FCS. PRESUMED (IEEE 802.1Q, 802.3, 1588, 1722, named by R4): tag
types 0x8100 and 0x88A8, the pause EtherType 0x8808, the PTP header's layout, subtype 0x6F of VSF_STREAM.
-/
namespace Sys2Proof.Machine

/-- Page p of MAC m. -/
def macPage (m p : Nat) : Nat := Block.page .mac m p

/-- Page p of the bridge. -/
def bridgePage (p : Nat) : Nat := Block.page .bridge 0 p

/-- MAC m behind its registers. -/
def State.mac (s : State) (m : Nat) : MacSt := SMap.get (fun _ => {}) s.macs m

/-- Store MAC m. -/
def State.putMac (s : State) (m : Nat) (x : MacSt) : State := { s with macs := SMap.set (fun _ => {}) s.macs m x }

/-- Stream slot k. -/
def State.slot (s : State) (k : Nat) : StreamSlot := SMap.get (fun _ => {}) s.bridge.slots k

/-- Store stream slot k. -/
def State.putSlot (s : State) (k : Nat) (x : StreamSlot) : State :=
  { s with bridge := { s.bridge with slots := SMap.set (fun _ => {}) s.bridge.slots k x } }

/-- Forwarding-table entry i. -/
def State.fdbEntry (s : State) (i : Nat) : FdbEntry := SMap.get (fun _ => {}) s.bridge.fdb i

/-- Store forwarding-table entry i. -/
def State.putFdb (s : State) (i : Nat) (e : FdbEntry) : State :=
  { s with bridge := { s.bridge with fdb := SMap.set (fun _ => {}) s.bridge.fdb i e } }

/-! ## What a frame says -/

/-- The offset of the EtherType behind zero, one or two VLAN tags (R406). -/
def ethTypeAt (b : List Byte) : Nat :=
  let tag := fun p => let t := ofBytesBE (sliceBytes b p 2); t == 0x8100 || t == 0x88A8
  if tag 12 then (if tag 16 then 20 else 16) else 12

/-- The EtherType behind the tags. -/
def ethType (b : List Byte) : Nat := ofBytesBE (sliceBytes b (ethTypeAt b) 2)

/-- The outer tag's control word, if there is one: PCP in [15:13], VID in [11:0]. -/
def outerTag (b : List Byte) : Option Nat := if ethTypeAt b = 12 then none else some (ofBytesBE (sliceBytes b 14 2))

/-- The VID of a frame; 0 of an untagged one. -/
def frameVid (b : List Byte) : Nat := match outerTag b with
  | some t => t % 4096
  | none => 0

/-- Where the PTP header starts. -/
def ptpAt (b : List Byte) : Nat := ethTypeAt b + 2

/-- An event message that a MAC stamps (R406): EtherType 0x88F7, messageType 0 to 3. -/
def isPtpEvent (b : List Byte) : Bool :=
  ethType b == 0x88F7 && decide (((b.getD (ptpAt b) 0).toNat % 16) < 4)

/-- twoStepFlag of a PTP message. -/
def ptpTwoStep (b : List Byte) : Bool := (b.getD (ptpAt b + 6) 0).toNat.testBit 1

/-- messageType, domainNumber and sequenceId of a PTP message. -/
def ptpType (b : List Byte) : Nat := (b.getD (ptpAt b) 0).toNat % 16
def ptpDomain (b : List Byte) : Nat := (b.getD (ptpAt b + 4) 0).toNat
def ptpSeq (b : List Byte) : Nat := ofBytesBE (sliceBytes b (ptpAt b + 30) 2)

/-- Put `n` bytes in network order at position `p`. -/
def putBE (b : List Byte) (p n v : Nat) : List Byte := b.take p ++ toBytesBE n v ++ b.drop (p + n)

/-- The domain whose NUMBER a PTP message carries (R407). -/
def State.matchDomain (s : State) (d : Nat) : Option Nat :=
  [0, 1].find? (fun x => s.get tmPage (Tidemark.DOM_CFG_NUMBER.nth x) == d)

/-- The stamp of an event message at count `c`, in 2⁻¹⁶ ns (R407). -/
def State.stampOf (s : State) (b : List Byte) (c : Nat) : MacStamp :=
  let d := s.matchDomain (ptpDomain b)
  let t := match d with
    | some x => s.domainTime x (c * 2 ^ 16)
    | none => s.activeTime (c * 2 ^ 16)
  { matched := d.isSome, domsel := d.getD 0, twoStep := ptpTwoStep b, msgType := ptpType b, domain := ptpDomain b,
    seqId := ptpSeq b, cNs := c / 2 ^ 16 % 2 ^ 64, cFrac := c % 2 ^ 16, domNs := t / 2 ^ 32, domFrac := t / 2 ^ 16 % 2 ^ 16 }

/-- Queue a stamp; a full queue of 32 drops it, sets its overflow bit and TS_OVF (R407). -/
def State.pushStamp (s : State) (m : Nat) (tx : Bool) (t : MacStamp) : State :=
  let x := s.mac m
  let q := if tx then x.txStamps else x.rxStamps
  if q.length < 32 then
    let s := s.putMac m (if tx then { x with txStamps := q ++ [t] } else { x with rxStamps := q ++ [t] })
    s.put (macPage m 1) (if tx then Mac.TS_STAT_TX_COUNT else Mac.TS_STAT_RX_COUNT) (q.length + 1)
  else (s.put (macPage m 1) (if tx then Mac.TS_STAT_TX_OVF else Mac.TS_STAT_RX_OVF) 1).event (macPage m 1) 0

/-! ## Egress -/

/-- Is a MAC enabled and up? -/
def State.macUp (s : State) (m : Nat) : Bool :=
  s.flag (macPage m 0) Hdr.CTRL_EN && s.flag (macPage m 0) Mac.MAC_STAT_LINK

/-- A frame joins a class queue of an egress port; one that does not fit its 64 KiB, or finds the port down, is
dropped and counted in QDROP (R412, R417). -/
def State.enqueue (s : State) (m cls : Nat) (f : EthFrame) : State :=
  let x := s.mac m
  let q := x.queues.getD cls []
  if s.macUp m && decide ((q.map (fun e => e.bytes.length)).sum + f.bytes.length ≤ 65536) then
    s.putMac m { x with queues := x.queues.set cls (q ++ [f]) }
  else s.countSat (macPage m 2) Mac.QDROP_COUNT

/-- The class of a frame (R412): the PCP of its outer tag, or the given one. -/
def frameClass (b : List Byte) (untagged : Nat) : Nat := match outerTag b with
  | some t => t / 8192
  | none => untagged

/-- Put a received frame of up to 1,522 bytes, FCS included (LEN ends at 1,518, R425), into the management queue of 16 KiB
(R413). FRAMES stops at 255. -/
def State.toManagement (s : State) (port : Nat) (b : List Byte) : State :=
  let q := s.bridge.mgRx
  if (q.map (fun e => e.2.length)).sum + b.length ≤ 16384 ∧ b.length + 4 ≤ 1522 then
    let s := { s with bridge := { s.bridge with mgRx := q ++ [(port, b)] } }
    (s.put (bridgePage 1) Bridge.MG_RX_STAT_FRAMES (min 255 (q.length + 1))).eventIf q.isEmpty (bridgePage 1) 0
  else (s.put (bridgePage 1) Bridge.MG_RX_STAT_MG_OVF 1).event (bridgePage 1) 1

/-! ## The forwarding table (R410) -/

/-- The index of a valid entry for an address and VID. -/
def State.fdbFind (s : State) (addr vid : Nat) : Option Nat :=
  (s.bridge.fdb.find? (fun e => e.2.valid && e.2.addr == addr && e.2.vid == vid)).map (·.1)

/-- Note a match of an entry, for its ageing. -/
def State.fdbTouch (s : State) (i : Nat) : State := s.putFdb i { s.fdbEntry i with lastMatch := s.time.c }

/-- Learn a source address on an external port; with every entry in use, LEARN_FULL counts. -/
def State.fdbLearn (s : State) (addr vid port : Nat) : State :=
  match s.fdbFind addr vid with
  | some i => if (s.fdbEntry i).isStatic then s else s.putFdb i { s.fdbEntry i with ports := 2 ^ port, lastMatch := s.time.c }
  | none =>
    match (List.range 1024).find? (fun i => !(s.fdbEntry i).valid) with
    | some i => s.putFdb i { valid := true, isStatic := false, ports := 2 ^ port, vid := vid, addr := addr, lastMatch := s.time.c }
    | none => (s.countSat (bridgePage 0) Bridge.FDB_CNT_LEARN_FULL).event (bridgePage 0) 0

/-- Forward to the ports of a mask (bit 0 E0, bit 1 E1, bit 2 management). -/
def State.toPorts (s : State) (mask ingress : Nat) (f : EthFrame) (cls : Nat) : State :=
  let s := if hasBit mask 0 then s.enqueue 0 cls f else s
  let s := if hasBit mask 1 then s.enqueue 1 cls f else s
  if hasBit mask 2 then s.toManagement ingress f.bytes else s

/-- MAC_ADDR of a MAC. -/
def State.macAddr (s : State) (m : Nat) : Nat :=
  s.get (macPage m 0) Mac.MAC_ADDR_LO_ADDR + s.get (macPage m 0) Mac.MAC_ADDR_HI_ADDR * 2 ^ 32

/-- Forward a frame received on E0 or E1 by the first rule of R410 that applies. -/
def State.bridgeIngress (s : State) (m : Nat) (f : EthFrame) : State :=
  let da := ofBytesBE (sliceBytes f.bytes 0 6)
  let sa := ofBytesBE (sliceBytes f.bytes 6 6)
  let vid := frameVid f.bytes
  let cls := frameClass f.bytes (s.get (macPage m 0) Mac.PORT_PCP_PCP)
  let s := s.fdbLearn sa vid m
  if da / 16 = 0x0180_C200_000 ∨ da = s.macAddr m then s.toManagement m f.bytes
  else if da = 0xFFFF_FFFF_FFFF then s.toPorts (setBit (2 ^ (1 - m)) 2) m f cls
  else match s.fdbFind da vid with
    | some i => (s.fdbTouch i).toPorts (clearBit (s.fdbEntry i).ports m) m f cls
    | none => s.toPorts (2 ^ (1 - m)) m f cls

/-- Forward a frame of the stream port: a hit to the entry's external ports, a miss is dropped and counted (R410). The
source address is the egress port's MAC_ADDR (R415). -/
def State.bridgeFromS (s : State) (b : List Byte) (cls : Nat) : State :=
  match s.fdbFind (ofBytesBE (sliceBytes b 0 6)) (frameVid b) with
  | none => s.countSat (bridgePage 0) Bridge.FDB_CNT_S_MISS
  | some i =>
    let send := fun (s : State) m => if hasBit (s.fdbEntry i).ports m then
        s.enqueue m cls { bytes := putBE b 6 6 (s.macAddr m) } else s
    send (send (s.fdbTouch i) 0) 1

/-! ## Gates and shapers (R412, R413) -/

/-- The link rate, Mb/s: 25GBASE-R or 10 Gb/s. -/
def State.linkRate (s : State) (m : Nat) : Nat := if s.get (macPage m 0) Mac.MAC_CFG_IF = 0 then 25000 else 10000

/-- The wire time of a frame, ns, rounded up: preamble and delimiter, bytes, FCS. -/
def State.wireNs (s : State) (m : Nat) (b : List Byte) : Nat := ceilDiv ((b.length + 12) * 8 * 1000) (s.linkRate m)

/-- The operational entries as they run: cut at the cycle's end, the last one holding to it (R413). -/
def GateList.run (g : GateList) : List (Nat × Nat) :=
  let rec go : List (Nat × Nat) → Nat → List (Nat × Nat)
    | [], _ => []
    | [(w, _)], left => [(w, left)]
    | (w, t) :: r, left => if left ≤ t then [(w, left)] else (w, t) :: go r (left - t)
  go g.entries g.cycle

/-- How long a class stays open along entries, from the first of them. -/
def openFor (cls : Nat) : List (Nat × Nat) → Nat
  | [] => 0
  | (w, t) :: r => if hasBit w cls then t + openFor cls r else 0

/-- The longest open interval of a class in a list of entries. -/
def longestOpen (cls : Nat) : List (Nat × Nat) → Nat
  | [] => 0
  | e :: r => max (openFor cls (e :: r)) (longestOpen cls r)

/-- How long a class's gate stays open from now; none where it never closes. -/
def State.gateOpenFor (s : State) (m cls : Nat) : Option Nat :=
  let x := s.mac m
  match s.flag (macPage m 3) Mac.GCL_CFG_EN, x.oper with
  | true, some g =>
    let run := g.run
    if run.all (fun e => hasBit e.1 cls) then none
    else
      let rest := run.drop x.entry
      let spent := s.now - x.entryStart
      match rest with
      | [] => some 0
      | (w, t) :: r => some (if hasBit w cls then openFor cls ((w, t - spent) :: r ++ run) else 0)
  | _, _ => none

/-- The longest open interval of a class; none where its gate never closes. -/
def State.gateLongest (s : State) (m cls : Nat) : Option Nat :=
  match s.flag (macPage m 3) Mac.GCL_CFG_EN, (s.mac m).oper with
  | true, some g => if g.run.all (fun e => hasBit e.1 cls) then none else some (longestOpen cls (g.run ++ g.run))
  | _, _ => none

/-- Bring the shapers' credits to now (R412, IEEE 802.1Qav): a waiting class gains idleSlope; an empty one returns to 0. -/
def State.refreshCredits (s : State) (m : Nat) : State :=
  let x := s.mac m
  let dt := s.time.c - x.creditAt
  let upd := fun (k : Nat) (c : Int) =>
    let slope := s.get (macPage m 3) (Mac.CBS_SLOPE_SLOPE_MBPS.nth k)
    let up := c + (slope * dt : Nat)
    if (x.queues.getD k []).isEmpty then (if c ≥ 0 then 0 else min 0 up) else up
  s.putMac m { x with credits := x.credits.mapIdx upd, creditAt := s.time.c }

/-- May a class send its head frame now: its gate is open long enough, and its shaper has credit? -/
def State.maySend (s : State) (m cls : Nat) (b : List Byte) : Bool :=
  (match s.gateOpenFor m cls with
   | none => true
   | some t => decide (s.wireNs m b ≤ t)) &&
  (!s.flag (macPage m 3) (Mac.CBS_SLOPE_EN.nth cls) || decide (0 ≤ (s.mac m).credits.getD cls 0))

/-- Drop the head frames of a class that can never leave: those over MAX_FRAME (R415), and those longer than every open
interval of the class, which GATE_OVERSIZE counts (R413). -/
def State.dropOversize (s : State) (m cls : Nat) : State :=
  let q := (s.mac m).queues.getD cls []
  let long := fun (f : EthFrame) => decide (s.get (macPage m 0) Mac.MAC_CFG_MAX_FRAME < f.bytes.length + 4)
  let shut := fun (f : EthFrame) => match s.gateLongest m cls with
    | none => false
    | some t => decide (t < s.wireNs m f.bytes)
  let gone := q.takeWhile fun f => long f || shut f
  (gone.filter fun f => !long f).foldl (fun s _ => s.countSat (macPage m 2) Mac.GATE_OVERSIZE_COUNT)
    (s.putMac m { s.mac m with queues := (s.mac m).queues.set cls (q.drop gone.length) })

/-- Take the head frame of a class for sending, charging its shaper. -/
def State.takeFrame (s : State) (m cls : Nat) (f : EthFrame) (r : List EthFrame) : State :=
  let x := s.mac m
  let slope : Int := (s.get (macPage m 3) (Mac.CBS_SLOPE_SLOPE_MBPS.nth cls) : Nat)
  let rate := s.linkRate m
  let cost := (slope - rate) * ((f.bytes.length + 12) * 8 * 1000 : Nat) / rate
  let credit := if s.flag (macPage m 3) (Mac.CBS_SLOPE_EN.nth cls) then x.credits.getD cls 0 + cost else x.credits.getD cls 0
  s.putMac m { x with queues := x.queues.set cls r, credits := x.credits.set cls credit }

/-- One-step insertion into a departing Sync (R408), or the residence correction of a forwarded event message (R411). -/
def State.correctFrame (s : State) (m : Nat) (f : EthFrame) (c : Nat) (t : MacStamp) : State × List Byte :=
  let b := f.bytes
  let p := ptpAt b
  match f.stampIn with
  | some cin =>
    if ptpTwoStep b then
      (if ptpType b = 0 then s.countSat (bridgePage 0) Bridge.TC_TWO_STEP_COUNT else s, b)
    else
      let rate := match s.matchDomain (ptpDomain b) with
        | some x => s.rate x
        | none => 0
      let d := roundHalfEven (((c : Int) - cin) * (2 ^ 40 + rate)) (2 ^ 40)
      (s, putBE b (p + 8) 8 (ofSigned 64 ((ofBytesBE (sliceBytes b (p + 8) 8) : Int) + d)))
  | none =>
    if s.flag (macPage m 1) Mac.TS_CFG_ONE_STEP && ptpType b == 0 && !ptpTwoStep b then
      let b := putBE b (p + 34) 6 (t.domNs / 1000000000)
      let b := putBE b (p + 40) 4 (t.domNs % 1000000000)
      (s, putBE b (p + 8) 8 ((ofBytesBE (sliceBytes b (p + 8) 8) + t.domFrac) % 2 ^ 64))
    else (s, b)

/-! ## Commands -/

/-- ETH_FRAME_RX: a frame is received on MAC m, its message timestamp point at count `c`, in 2⁻¹⁶ ns, device latency
removed (R406, R410). -/
def execEthFrameRx (m : Fin 2) (b : List Byte) (fcsOk : Bool) (c : Nat) (s : State) : Result :=
  .next <|
    if !s.macUp m then s
    else if !fcsOk then s.countSat (macPage m 2) Mac.FCS_ERR_COUNT
    else if b.length + 4 < 64 ∨ b.length + 4 > s.get (macPage m 0) Mac.MAC_CFG_MAX_FRAME then s
    else if ethType b = 0x8808 then (s.countWrap (macPage m 2) Mac.FRAMES_RX_COUNT).countSat (macPage m 2) Mac.PAUSE_RX_COUNT
    else
      let s := s.countWrap (macPage m 2) Mac.FRAMES_RX_COUNT
      let ev := isPtpEvent b
      let cin := ofSigned 80 ((c : Int) - toSigned 32 (s.get (macPage m 1) Mac.PHY_RX_LAT_LAT) * 2 ^ 12)
      let s := if ev then s.pushStamp m false (s.stampOf b cin) else s
      if s.flag (bridgePage 0) Hdr.CTRL_EN then s.bridgeIngress m { bytes := b, stampIn := if ev then some cin else none } else s

/-- ETH_FRAME_TX: transmission selection sends the head frame of the highest class that may send (R412, R413); an event
message is stamped, inserted into or corrected (R406, R408, R411). `c` is the count of its timestamp point, 2⁻¹⁶ ns. -/
def execEthFrameTx (m : Fin 2) (c : Nat) (s : State) : Result :=
  .next <|
    if !s.macUp m || s.terminal then s
    else
      let s := s.refreshCredits m
      let s := (List.range 8).foldl (fun s k => s.dropOversize m k) s
      let ready := fun k => match (s.mac m).queues.getD k [] with
        | [] => false
        | f :: _ => s.maySend m k f.bytes
      match [7, 6, 5, 4, 3, 2, 1, 0].find? ready with
      | none => s
      | some k =>
        match (s.mac m).queues.getD k [] with
        | [] => s
        | f :: r =>
          let s := s.takeFrame m k f r
          let s := s.countWrap (macPage m 2) Mac.FRAMES_TX_COUNT
          if isPtpEvent f.bytes then
            let ceg := ofSigned 80 ((c : Int) + toSigned 32 (s.get (macPage m 1) Mac.PHY_TX_LAT_LAT) * 2 ^ 12)
            let t := s.stampOf f.bytes ceg
            let (s, b) := s.correctFrame m f ceg t
            (s.pushStamp m true t).emit (.ethFrame m b)
          else s.emit (.ethFrame m f.bytes)

/-- Store a stamp in the words of a stamp queue: the receive queue's, or the transmit queue's. -/
def State.putStampWords (s : State) (m : Nat) (tx : Bool) (t : Option MacStamp) : State :=
  let pg := macPage m 1
  let t' := t.getD ⟨false, 0, false, 0, 0, 0, 0, 0, 0, 0⟩
  let f := fun (a b : Field) => if tx then b else a
  let s := s.put pg (f Mac.RXTS_INFO_VALID Mac.TXTS_INFO_VALID) (bit t.isSome)
  let s := s.put pg (f Mac.RXTS_INFO_MATCHED Mac.TXTS_INFO_MATCHED) (bit t'.matched)
  let s := s.put pg (f Mac.RXTS_INFO_DOMSEL Mac.TXTS_INFO_DOMSEL) t'.domsel
  let s := s.put pg (f Mac.RXTS_INFO_TWO_STEP Mac.TXTS_INFO_TWO_STEP) (bit t'.twoStep)
  let s := s.put pg (f Mac.RXTS_INFO_MSG_TYPE Mac.TXTS_INFO_MSG_TYPE) t'.msgType
  let s := s.put pg (f Mac.RXTS_INFO_DOMAIN Mac.TXTS_INFO_DOMAIN) t'.domain
  let s := s.put pg (f Mac.RXTS_INFO_SEQ_ID Mac.TXTS_INFO_SEQ_ID) t'.seqId
  let s := s.put pg ((f Mac.RXTS_CNT_C Mac.TXTS_CNT_C).nth 0) t'.cNs
  let s := s.put pg ((f Mac.RXTS_CNT_C Mac.TXTS_CNT_C).nth 1) (t'.cNs / 2 ^ 32)
  let s := s.put pg (f Mac.RXTS_FRAC_CNT Mac.TXTS_FRAC_CNT) t'.cFrac
  let s := s.put pg (f Mac.RXTS_FRAC_DOM Mac.TXTS_FRAC_DOM) t'.domFrac
  let s := s.put pg ((f Mac.RXTS_DOM_TIME Mac.TXTS_DOM_TIME).nth 0) t'.domNs
  s.put pg ((f Mac.RXTS_DOM_TIME Mac.TXTS_DOM_TIME).nth 1) (t'.domNs / 2 ^ 32)

/-- The words of a stamp as a read returns them. -/
def stampWords (t : Option MacStamp) : List Nat :=
  match t with
  | none => [0, 0, 0, 0, 0, 0]
  | some t => [2 ^ 31 + bit t.matched * 2 ^ 30 + t.domsel * 2 ^ 29 + bit t.twoStep * 2 ^ 28 + t.msgType * 2 ^ 24 +
      t.domain * 2 ^ 16 + t.seqId, t.cNs % 2 ^ 32, t.cNs / 2 ^ 32 % 2 ^ 32, t.cFrac * 2 ^ 16 + t.domFrac, t.domNs % 2 ^ 32,
      t.domNs / 2 ^ 32 % 2 ^ 32]

/-- The head stamp of MAC m's receive or transmit queue leaves it, as words (R407). -/
def State.popStamp (s : State) (m : Nat) (tx : Bool) : List Nat × State :=
  let x := s.mac m
  let q := if tx then x.txStamps else x.rxStamps
  let s := s.putMac m (if tx then { x with txStamps := q.tail } else { x with rxStamps := q.tail })
  let s := s.put (macPage m 1) (if tx then Mac.TS_STAT_TX_COUNT else Mac.TS_STAT_RX_COUNT) (q.length - 1)
  (stampWords q.head?, s.putStampWords m tx q.head?)

/-- TS_POP: a read of TS_INFO of MAC m pops the head stamp and captures its words (R407). -/
def execTsPop (req : Requester) (m : Fin 2) (tx : Bool) (s : State) : Result :=
  .next <| s.onPop req (regOff (macPage m 1) (if tx then Mac.TXTS_INFO_VALID else Mac.RXTS_INFO_VALID)) fun s => s.popStamp m tx

/-- FDB_WRITE: a write of FDB_CMD with WRITE = 1 (R410, R425). An entry that software writes is static. -/
def execFdbWrite (req : Requester) (w : Word) (s : State) : Result :=
  let pg := bridgePage 0
  .next <| s.onWrite req (regOff pg Bridge.FDB_CMD_WRITE) fun s =>
    if w.toNat.testBit 30 then s.event pg 1
    else s.putFdb (s.get pg Bridge.FDB_IDX_IDX)
      { valid := s.flag pg Bridge.FDB_CTL_VALID, isStatic := true, ports := s.get pg Bridge.FDB_CTL_PORTS,
        vid := s.get pg Bridge.FDB_CTL_VID,
        addr := s.get pg Bridge.FDB_ENTRY_LO_ADDR + s.get pg Bridge.FDB_ENTRY_HI_ADDR * 2 ^ 32, lastMatch := s.time.c }

/-- FDB_READ: a write of FDB_CMD with READ = 1 reads entry FDB_IDX back (R425). -/
def execFdbRead (req : Requester) (w : Word) (s : State) : Result :=
  let pg := bridgePage 0
  .next <| s.onWrite req (regOff pg Bridge.FDB_CMD_READ) fun s =>
    if w.toNat.testBit 31 then s.event pg 1
    else
      let e := s.fdbEntry (s.get pg Bridge.FDB_IDX_IDX)
      let s := (s.put pg Bridge.FDB_ENTRY_LO_ADDR e.addr).put pg Bridge.FDB_ENTRY_HI_ADDR (e.addr / 2 ^ 32)
      let s := (s.put pg Bridge.FDB_CTL_VALID (bit e.valid)).put pg Bridge.FDB_CTL_STATIC (bit e.isStatic)
      (s.put pg Bridge.FDB_CTL_PORTS e.ports).put pg Bridge.FDB_CTL_VID e.vid

/-- FDB_AGE_OUT: a learned entry has had no match for AGE_S seconds; AGE_S = 0 disables ageing (R410). -/
def execFdbAgeOut (i : Fin 1024) (s : State) : Result :=
  .next <| if (s.fdbEntry i).isStatic || s.get (bridgePage 0) Bridge.FDB_AGE_AGE_S == 0 then s else s.putFdb i {}

/-- GCL_CHANGE: a write of GCL_CFG of MAC m with CHANGE = 1 stages the administrative list, the cycle and the base (R413). -/
def execGclChange (req : Requester) (m : Fin 2) (w : Word) (s : State) : Result :=
  let pg := macPage m 3
  .next <| s.onWrite req (regOff pg Mac.GCL_CFG_CHANGE) fun s =>
    let s := s.put pg Mac.GCL_CFG_EN (bitsOf w.toNat 31 31)
    let s := s.put pg Mac.GCL_CFG_ADMIN_LEN (Mac.GCL_CFG_ADMIN_LEN.stored (bitsOf w.toNat 8 0))
    let entries := (List.range (s.get pg Mac.GCL_CFG_ADMIN_LEN)).map fun i =>
      (s.get pg (Mac.GCL_ADMIN_GATES.nth i), max 64 (s.get pg (Mac.GCL_ADMIN_INTERVAL_NS.nth i)))
    let base := s.get pg (Mac.GCL_BASE_BASE.nth 0) + s.get pg (Mac.GCL_BASE_BASE.nth 1) * 2 ^ 32
    let g : GateList := { entries := entries, cycle := s.get pg Mac.GCL_CYCLE_NS, base := base }
    (s.putMac m { s.mac m with admin := some g }).put pg Mac.GCL_CFG_PENDING 1

/-- GCL_CYCLE_START: a gate-control cycle of MAC m starts; a staged list becomes operational (R413). -/
def execGclCycleStart (m : Fin 2) (s : State) : Result :=
  let x := s.mac m
  let oper := match x.admin with
    | some g => some g
    | none => x.oper
  .next <| (s.putMac m { x with oper := oper, admin := none, entry := 0, entryStart := s.now, cycleStart := s.now }).put
    (macPage m 3) Mac.GCL_CFG_PENDING 0

/-- GCL_ENTRY_ADVANCE: an entry's interval expires and the next opens; the last holds to the cycle's end (R413). -/
def execGclEntryAdvance (m : Fin 2) (s : State) : Result :=
  let x := s.mac m
  .next <| match x.oper with
    | some g => if x.entry + 1 < g.run.length then s.putMac m { x with entry := x.entry + 1, entryStart := s.now } else s
    | none => s

/-- `n` fresh free bytes. -/
def State.freshBytes : Nat → State → List Byte × State
  | 0, s => ([], s)
  | n + 1, s =>
    let (v, s) := s.fresh
    let (r, s) := State.freshBytes n s
    (BitVec.ofNat 8 v :: r, s)

/-- The first `n` bytes of a list; bytes it lacks are free values. -/
def State.takeBytes (s : State) (b : List Byte) (n : Nat) : List Byte × State :=
  let t := b.take n
  let (r, s) := State.freshBytes (n - t.length) s
  (t ++ r, s)

/-- MG_TX_GO: a write of MG_TX_CTL with GO = 1 sends a management frame of LEN bytes on PORT (R413, R425). The class of an
untagged one is a free value. -/
def execMgTxGo (req : Requester) (w : Word) (s : State) : Result :=
  let pg := bridgePage 1
  .next <| s.onWrite req (regOff pg Bridge.MG_TX_CTL_GO) fun s =>
    let s := s.put pg Bridge.MG_TX_CTL_PORT (bitsOf w.toNat 30 29)
    let s := s.put pg Bridge.MG_TX_CTL_LEN (Bridge.MG_TX_CTL_LEN.stored (bitsOf w.toNat 10 0))
    let s := s.eventIf (bitsOf w.toNat 30 29 == 3) (bridgePage 0) 1
    let len := s.get pg Bridge.MG_TX_CTL_LEN
    let (b, s) := s.takeBytes s.bridge.mgTx len
    let rest := s.bridge.mgTx.drop (ceilDiv len 4 * 4)
    let s := { s with bridge := { s.bridge with mgTx := rest } }
    let s := s.put pg Bridge.MG_TX_FREE_WORDS (4096 - ceilDiv rest.length 4)
    let (v, s) := s.fresh
    let cls := frameClass b (v % 8)
    if !s.flag (bridgePage 0) Hdr.CTRL_EN then s
    else match s.get pg Bridge.MG_TX_CTL_PORT with
    | 1 => s.enqueue 1 cls { bytes := b }
    | 2 => (s.enqueue 0 cls { bytes := b }).enqueue 1 cls { bytes := b }
    | _ => s.enqueue 0 cls { bytes := b }

/-- The head frame of the management queue leaves it (R413): the word of MG_RX_INFO. -/
def State.popFrame (s : State) : List Nat × State :=
  let pg := bridgePage 1
  match s.bridge.mgRx with
  | [] => ([0], s.put pg Bridge.MG_RX_INFO_VALID 0)
  | (p, b) :: r =>
    let s := { s with bridge := { s.bridge with mgRx := r, mgCur := b } }
    let s := (s.put pg Bridge.MG_RX_INFO_VALID 1).put pg Bridge.MG_RX_INFO_PORT p
    let s := (s.put pg Bridge.MG_RX_INFO_LEN b.length).put pg Bridge.MG_RX_STAT_FRAMES (min 255 r.length)
    ([2 ^ 31 + p * 2 ^ 29 + b.length], s)

/-- MG_RX_POP: a read of MG_RX_INFO pops the head frame's descriptor (R413). -/
def execMgRxPop (req : Requester) (s : State) : Result :=
  .next <| s.onPop req (regOff (bridgePage 1) Bridge.MG_RX_INFO_VALID) fun s => s.popFrame

/-- The next four bytes of the popped frame (R413); bytes past its end are free values. -/
def State.popFrameData (s : State) : List Nat × State :=
  let (b, s) := s.takeBytes s.bridge.mgCur 4
  let s := { s with bridge := { s.bridge with mgCur := s.bridge.mgCur.drop 4 } }
  ([ofBytesLE b], s.put (bridgePage 1) Bridge.MG_RX_DATA_DATA (ofBytesLE b))

/-- MG_RX_DATA_READ: a read of MG_RX_DATA returns the next four bytes of the popped frame (R413). -/
def execMgRxDataRead (req : Requester) (s : State) : Result :=
  .next <| s.onPop req (regOff (bridgePage 1) Bridge.MG_RX_DATA_DATA) fun s => s.popFrameData

/-! ### The stream port (R414 to R418) -/

/-- Append bytes at a byte offset to the runs held. -/
def appendRun (h : List (Nat × List Byte)) (off : Nat) (b : List Byte) : List (Nat × List Byte) :=
  match h.getLast? with
  | none => [(off, b)]
  | some (o, x) => if o + x.length = off then h.dropLast ++ [(o, x ++ b)] else h ++ [(off, b)]

/-- Bytes the stream port holds. -/
def State.streamHeld (s : State) : Nat :=
  (s.bridge.slots.map (fun e => (e.2.frames.map (fun f => (f.held.map (fun r => r.2.length)).sum)).sum)).sum

/-- STRM_OVF as it now is: the last frame of some slot was discarded (R426). -/
def State.judgeStreamOvf (s : State) : State := s.cond (bridgePage 2) 0 (s.bridge.slots.any (fun e => e.2.lastBad))

/-- SL_CFG PCP, VID, DA, ID and PRES, sentinel and output of a slot as they now are. -/
def State.slotNow (s : State) (k : Nat) : List Nat :=
  let pg := bridgePage 2
  let b := (s.slot k).bound
  [s.live pg (Bridge.SL_CFG_PCP.nth k), s.live pg (Bridge.SL_CFG_VID.nth k),
    s.live pg (Bridge.SL_DA_LO_ADDR.nth k) + s.live pg (Bridge.SL_DA_HI_ADDR.nth k) * 2 ^ 32,
    s.live pg (Bridge.SL_ID_ID.nth k 0) + s.live pg (Bridge.SL_ID_ID.nth k 1) * 2 ^ 32,
    s.live pg (Bridge.SL_PRES_PRES_OFFSET_NS.nth k), bit (b.any (·.2.2.2)), (b.map (·.2.1)).getD 0]

/-- Those fields in force for a frame (R28, R37, R62): as latched at its start. -/
def State.slotFields (s : State) (k key : Nat) : List Nat := match (s.slot k).latches.find? (fun e => e.1 == key) with
  | some (_, l) => l
  | none => s.slotNow k

/-- Is a frame one of a sentinel stream? -/
def State.slotSentinel (s : State) (k key : Nat) : Bool := (s.slotFields k key).getD 5 0 == 1

/-- Does slot k carry a frame (R62, R414): of the stream bound now, or begun under an earlier plan? -/
def State.slotCarries (s : State) (k key : Nat) : Bool :=
  let x := s.slot k
  x.bound.any (·.1 == key / 2 ^ 32) || x.latches.any (·.1 == key) || x.frames.any (·.key == key)

/-- A frame of slot k is given up (R417, R460): what is held of it goes, and its later units are discarded. -/
def State.streamLose (s : State) (k key : Nat) : State :=
  let x := s.slot k
  s.putSlot k { x with discarding := some key, frames := x.frames.filter (fun f => f.key != key) }

/-- The stream port takes a unit of a frame for slot k (R414, R417): one that does not fit ends its frame, as does, on a
sentinel slot, one whose line leaves a gap (R460), and the mark of a withheld frame (R192). -/
def State.streamTake (s : State) (k half format : Nat) (sentinel : Bool) (u : PortUnit) : State :=
  let x := s.slot k
  let x := { x with accepted := (u.key, u.line) :: x.accepted.filter (fun e => keyNear u.key e.1) }
  if x.discarding = some u.key then s.putSlot k x
  else
    let was := s.condBit (bridgePage 2) 0
    let s := s.putSlot k { x with discarding := none, lastBad := false }
    let next := match x.frames.find? (fun f => f.key == u.key) with
      | some f => f.next
      | none => 0
    if u.withheld || (sentinel && !u.record && u.line != next) then (s.streamLose k u.key).judgeStreamOvf
    else if s.streamHeld + u.bytes.length > 262144 then
      let s := s.streamLose k u.key
      ((s.putSlot k { s.slot k with lastBad := true }).countSat (bridgePage 2) Bridge.STRM_OVF_COUNT).event (bridgePage 2) 0
        |>.judgeStreamOvf.again (bridgePage 2) 0 was
    else
      let frames := if x.frames.any (fun f => f.key == u.key) then x.frames else x.frames ++ [{ key := u.key, half, format }]
      let take := fun f : StreamFrame => if f.key = u.key then
          { f with held := appendRun f.held u.off u.bytes, complete := u.record, next := u.line + 1 } else f
      (s.putSlot k { s.slot k with frames := frames.map take }).judgeStreamOvf

/-- STREAM_UNIT: the stream port takes a unit from a Drift channel of half h, its first byte at the count C `begun`: on a sentinel
slot only from a half that was acting then, and no second copy (R414, R460). -/
def execStreamUnit (k : Fin 16) (h : Fin 2) (begun : Nat) (format : Fin 16) (u : PortUnit) (s : State) : Result :=
  let x := s.slot k
  let sentinel := s.slotSentinel k u.key
  .next <|
    if !s.slotCarries k u.key || (sentinel && !s.actedAt h u.stream begun) then s
    else if sentinel && x.accepted.contains (u.key, u.line) then s.countSat (bridgePage 2) Bridge.STRM_DUP_COUNT
    else (if sentinel && !u.record then s.noteSplit h u.stream ((s.slotFields k u.key).getD 6 0) u.seq u.line else s).streamTake k h format sentinel u

/-- An Ethernet frame of a slot (R415, R416): addresses, VLAN tag, AVTP VSF_STREAM header, encapsulation header, payload. -/
def State.avtpFrame (s : State) (k : Nat) (x : StreamSlot) (fr : StreamFrame) (off : Nat) (pay : List Byte) (last : Bool) : List Byte :=
  let f := s.slotFields k fr.key
  let eui := s.get (bridgePage 2) Bridge.VSF_EUI_LO_EUI + s.get (bridgePage 2) Bridge.VSF_EUI_HI_EUI * 2 ^ 32
  let avtp := [0x6F#8, 0x81#8, BitVec.ofNat 8 x.seqNum, BitVec.ofNat 8 (bit (s.condBit tmPage 0))] ++ toBytesBE 8 (f.getD 3 0) ++
    toBytesBE 4 (s.now + f.getD 4 0) ++ toBytesBE 6 eui
  let enc := [1#8, BitVec.ofNat 8 (fr.key / 2 ^ 32), BitVec.ofNat 8 (f.getD 6 0 + 4 * fr.half + 16 * fr.format),
      BitVec.ofNat 8 (bit fr.first + 2 * bit last)] ++ toBytesLE 4 fr.key ++ toBytesLE 4 off ++ toBytesLE 2 pay.length ++ [0#8, 0#8]
  toBytesBE 6 (f.getD 2 0) ++ toBytesBE 6 0 ++ toBytesBE 2 0x8100 ++ toBytesBE 2 (f.getD 0 0 * 8192 + f.getD 1 0) ++
    toBytesBE 2 0x22F0 ++ avtp ++ enc ++ toBytesLE 2 (crc16 enc) ++ pay

/-- STREAM_FRAME_SEND: the shaper allows and slot k sends one Ethernet frame: STRM_PAY bytes, or the remainder once the
record is in (R415, R418). -/
def execStreamFrameSend (k : Fin 16) (s : State) : Result :=
  let x := s.slot k
  let pay := s.get (bridgePage 2) Bridge.STRM_PAY_BYTES
  .next <|
    if s.terminal || !s.flag (bridgePage 0) Hdr.CTRL_EN then s else
    match x.frames with
    | [] => s
    | fr :: later =>
      match fr.held with
      | [] => s
      | (off, b) :: r =>
        if b.length < pay ∧ r.isEmpty ∧ !fr.complete then s
        else
          let p := b.take pay
          let rest := b.drop pay
          let held := if rest.isEmpty then r else (off + p.length, rest) :: r
          let last := fr.complete && held.isEmpty
          let frame := s.avtpFrame k x fr off p last
          let cls := (s.slotFields k fr.key).getD 0 0
          let frames := if last then later else { fr with held := held, first := false } :: later
          let s := s.putSlot k { x with frames := frames, seqNum := (x.seqNum + 1) % 256 }
          let s := if last then s.countWrap (bridgePage 2) (Bridge.SL_FRAMES_COUNT.nth k) else s
          s.bridgeFromS frame cls

/-- MAC m has block lock, or sees a remote fault, or has FEC lock (R424, R426). -/
def State.macLink (s : State) (m : Nat) (lock remoteFault fecLock : Bool) : State :=
  let pg := macPage m 0
  let up := lock && !remoteFault
  let was := s.flag pg Mac.MAC_STAT_LINK
  let s := (s.put pg Mac.MAC_STAT_LINK (bit up)).put pg Mac.MAC_STAT_FEC_LOCK (bit fecLock)
  let s := (s.eventIf (up && !was) pg 0).eventIf (!up && was) pg 1
  s.cond pg 0 (s.flag pg Hdr.CTRL_EN && !up)

/-- MAC_LINK_CHANGE: MAC m gains or loses block lock, or sees a remote fault (R424, R426). -/
def execMacLinkChange (m : Fin 2) (lock remoteFault fecLock : Bool) (s : State) : Result :=
  .next (s.macLink m lock remoteFault fecLock)

end Sys2Proof.Machine
end

