-- ==== Sys2Proof/Machine/Codes.lean ====
section
/-!
DEFINITION. Sys2Proof/Machine/Codes.lean: the codes of the lanes: the Reed-Solomon code, blocks and scrambler of the forward direction (R118, R119),
the 8b/10b code of the back channel (R128), the test patterns (R106, R108), the equalizer's sums and the SNR (R92).
-/
namespace Sys2Proof.Machine

/-! ## The field GF(2¹⁰) (R118) -/

/-- A product in GF(2¹⁰) with x¹⁰ + x³ + 1 (R118): α is 2. -/
def gfMul (a b : Nat) : Nat := ((List.range 10).foldl (fun (p : Nat × Nat) i =>
  (if b.testBit i then p.1 ^^^ p.2 else p.1, if 512 ≤ p.2 then (2 * p.2) ^^^ 0x409 else 2 * p.2)) (0, a % 1024)).1

/-- A power in GF(2¹⁰), for exponents below 1024. -/
def gfPow (a n : Nat) : Nat := ((List.range 10).foldl (fun (p : Nat × Nat) i =>
  (if n.testBit i then gfMul p.1 p.2 else p.1, gfMul p.2 p.2)) (1, a)).1

/-- The inverse of a nonzero element. -/
def gfInv (a : Nat) : Nat := gfPow a 1022

/-- The value at x of a polynomial whose highest coefficient comes first. -/
def gfEval (l : List Nat) (x : Nat) : Nat := l.foldl (fun acc c => gfMul acc x ^^^ c) 0

/-- The value at x of a polynomial whose constant coefficient comes first. -/
def gfEvalUp (l : List Nat) (x : Nat) : Nat := gfEval l.reverse x

/-! ## The code RS(144,136) (R118) -/

/-- The syndromes of a word of 144 symbols: its values at α⁰ to α⁷. -/
def rsSyndromes (w : List Nat) : List Nat := (List.range 8).map fun j => gfEval w (gfPow 2 j)

/-- The generator polynomial, highest coefficient first: the product of x − αʲ for j from 0 to 7. -/
def rsGenerator : List Nat := (List.range 8).foldl (fun g j => ((g ++ [0]).zip (0 :: g)).map fun (a : Nat × Nat) => a.1 ^^^ gfMul (gfPow 2 j) a.2) [1]

/-- The codeword of 136 message symbols: the message, then 8 parity symbols (systematic). -/
def rsEncode (m : List Nat) : List Nat :=
  m ++ m.foldl (fun r c =>
    let q := c ^^^ r.headD 0
    ((r.tail ++ [0]).zip rsGenerator.tail).map fun (a : Nat × Nat) => a.1 ^^^ gfMul q a.2) (List.replicate 8 0)

/-- The search for the error locator: the locator and the one before its last change of length, constant coefficient first; its length; the
discrepancy at that change, and the steps since. -/
structure Locator where
  cur : List Nat := [1]
  old : List Nat := [1]
  len : Nat := 0
  disc : Nat := 1
  gap : Nat := 1

/-- Sum of two polynomials, constant coefficient first. -/
def polyAdd : List Nat → List Nat → List Nat
  | [], b => b
  | a, [] => a
  | x :: a, y :: b => (x ^^^ y) :: polyAdd a b

/-- One step of the search, with the n-th syndrome. -/
def Locator.step (l : Locator) (syn : List Nat) (n : Nat) : Locator :=
  let d := (List.range (l.len + 1)).foldl (fun acc i => acc ^^^ gfMul (l.cur.getD i 0) (syn.getD (n - i) 0)) 0
  if d = 0 then { l with gap := l.gap + 1 }
  else
    let q := gfMul d (gfInv l.disc)
    let next := polyAdd l.cur (List.replicate l.gap 0 ++ l.old.map (gfMul q))
    if 2 * l.len ≤ n then { cur := next, old := l.cur, len := n + 1 - l.len, disc := d, gap := 1 } else { l with cur := next, gap := l.gap + 1 }

/-- The error value at degree k, by Forney's formula for roots from α⁰ on. -/
def errorValue (syn : List Nat) (loc : List Nat) (k : Nat) : Nat :=
  let x := gfPow 2 k
  let xi := gfInv x
  let omega := (List.range 8).map fun i => (List.range (i + 1)).foldl (fun acc j => acc ^^^ gfMul (loc.getD j 0) (syn.getD (i - j) 0)) 0
  let slope := (List.range loc.length).map fun i => if i % 2 = 0 then loc.getD (i + 1) 0 else 0
  gfMul x (gfMul (gfEvalUp omega xi) (gfInv (gfEvalUp slope xi)))

/-- Decode a received word (R118): the symbols corrected, at most 4, with the message; none where it is uncorrectable. -/
def rsDecode (w : List Nat) : Option (Nat × List Nat) :=
  let syn := rsSyndromes w
  if w.length ≠ 144 then none
  else if syn.all (· == 0) then some (0, w.take 136)
  else
    let l := (List.range 8).foldl (fun (l : Locator) n => l.step syn n) {}
    let spots := (List.range 144).filter fun k => gfEvalUp l.cur (gfInv (gfPow 2 k)) == 0
    if 4 < l.len ∨ spots.length ≠ l.len then none
    else
      let fixed := ((List.range 144).zip w).map fun (e : Nat × Nat) =>
        if spots.contains (143 - e.1) then e.2 ^^^ errorValue syn l.cur (143 - e.1) else e.2
      if (rsSyndromes fixed).all (· == 0) then some (l.len, fixed.take 136) else none

/-! ## Blocks (R119, R120) -/

/-- The message bits of a codeword, in the order they are sent: each symbol bit 0 first. -/
def messageBits (m : List Nat) : List Bool := m.flatMap fun c => (List.range 10).map fun i => c.testBit i

/-- The next bit of the scrambler x³¹ + x²⁸ + 1 with its register. -/
def scramblerNext (r : Nat) : Bool × Nat :=
  let b := r.testBit 30 != r.testBit 27
  (b, (2 * r + (if b then 1 else 0)) % 2 ^ 31)

/-- Scramble or descramble bits from a register on (R119: additive). -/
def scramble (r : Nat) : List Bool → List Bool × Nat
  | [] => ([], r)
  | x :: xs =>
    let (k, r) := scramblerNext r
    let (ys, r) := scramble r xs
    ((x != k) :: ys, r)

/-- A number from bits, bit 0 first. -/
def ofBits (l : List Bool) : Nat := l.foldr (fun b v => (if b then 1 else 0) + 2 * v) 0

/-- Counts of two runs of blocks together. -/
def BlockCounts.plus (a b : BlockCounts) : BlockCounts := ⟨a.bad + b.bad, a.seen + b.seen, a.busy + b.busy⟩

/-- A payload block (R119, R121, R127): its sync header and its 128 payload bits, descrambled. A block that is discarded is no IDLE block
(DEDUCED). -/
def BlockCounts.block (c : BlockCounts) (sync : Nat) (payload : List Bool) : BlockCounts :=
  let type := ofBits (payload.take 8)
  if sync = 2 then { c with seen := c.seen + 1, busy := c.busy + 1 }
  else if sync = 1 ∧ type = 0x78 then { c with seen := c.seen + 1, busy := c.busy + 1 }
  else if sync = 1 ∧ type = 0x2D then { c with seen := c.seen + 1 }
  else { c with bad := c.bad + 1, seen := c.seen + 1, busy := c.busy + 1 }

/-- Payload blocks cut from bits that begin at a block's start (R119), with what is left; `k` bounds their number. -/
def cutBlocks : Nat → List Bool → Nat → BlockCounts → List Bool × Nat × BlockCounts
  | 0, bits, r, c => (bits, r, c)
  | k + 1, bits, r, c =>
    if bits.length < 130 then (bits, r, c)
    else
      let (payload, r) := scramble r ((bits.drop 2).take 128)
      cutBlocks k (bits.drop 130) r (c.block (ofBits (bits.take 2)) payload)

/-- The scrambler's register after n payload blocks of a superframe. -/
def scramblerAt : Nat → Nat
  | 0 => 2 ^ 31 - 1
  | n + 1 => (scramble (scramblerAt n) (List.replicate 128 false)).2

/-- A codeword's message goes through the block cutter (R119, R120): the marker block at the start of a superframe is passed over; after a codeword
that was not delivered the first whole block is the next one. -/
def BlockPlace.feed (p : BlockPlace) (message : Option (List Nat)) : BlockPlace × BlockCounts :=
  let cw := (p.cw + 1) % 52
  match message with
  | none => ({ cw, carry := if cw = 0 then some [] else none, lfsr := p.lfsr }, {})
  | some m =>
    let bits := messageBits m
    let start := 1360 * p.cw
    let (bits, r) := if p.cw = 0 then (bits.drop 130, 2 ^ 31 - 1)
      else match p.carry with
        | some l => (l ++ bits, p.lfsr)
        | none => (bits.drop ((130 - start % 130) % 130), scramblerAt ((start + 129) / 130 - 1))
    let (left, r, c) := cutBlocks 12 bits r {}
    ({ cw, carry := some left, lfsr := r }, c)

/-! ## 8b/10b (R128: IEEE 802.3 Clause 36) -/

/-- The 6-bit code of the five low bits at negative running disparity, abcdei with a highest. -/
def code6 (x : Nat) : Nat := [0b100111, 0b011101, 0b101101, 0b110001, 0b110101, 0b101001, 0b011001, 0b111000, 0b111001, 0b100101, 0b010101, 0b110100,
  0b001101, 0b101100, 0b011100, 0b010111, 0b011011, 0b100011, 0b010011, 0b110010, 0b001011, 0b101010, 0b011010, 0b111010, 0b110011, 0b100110, 0b010110,
  0b110110, 0b001110, 0b101110, 0b011110, 0b101011].getD x 0

/-- The 4-bit code of the three high bits at negative running disparity, fghj with f highest. -/
def code4 (y : Nat) : Nat := [0b1011, 0b1001, 0b0101, 0b1100, 0b1101, 0b1010, 0b0110, 0b1110].getD y 0

/-- Ones in the low `w` bits. -/
def onesIn (w v : Nat) : Nat := ((List.range w).filter v.testBit).length

/-- A part of a code group at a running disparity (true: positive), and the disparity after it: an unbalanced part, and one of the two balanced parts
that alternate, is complemented at positive disparity. -/
def codePart (w v : Nat) (alternates rd : Bool) : Nat × Bool :=
  let even := onesIn w v * 2 == w
  let out := if rd && (!even || alternates) then 2 ^ w - 1 - v else v
  (out, if even then rd else !rd)

/-- The code group of a data byte, abcdei fghj with a highest, and the disparity after it. -/
def dataGroup (b : Nat) (rd : Bool) : Nat × Bool :=
  let x := b % 32
  let y := b / 32
  let (u, mid) := codePart 6 (code6 x) (x == 7) rd
  let alt := y == 7 && (if mid then x == 11 || x == 13 || x == 14 else x == 17 || x == 18 || x == 20)
  let (v, rd) := codePart 4 (if alt then 0b0111 else code4 y) (y == 3) mid
  (u * 16 + v, rd)

/-- A control code group from its form at negative disparity: K28.5, K27.7 and K29.7. -/
def controlGroup (neg : Nat) (rd : Bool) : Nat × Bool := (if rd then 1023 - neg else neg, if onesIn 10 neg = 5 then rd else !rd)

/-- A message between /S/ and /T/ as code groups (R128), and the disparity after it. An idle ordered set K28.5 D16.2 leaves the disparity as it is. -/
def messageGroups (bytes : List Byte) (rd : Bool) : List Nat × Bool :=
  let (s, rd) := controlGroup 0b1101101000 rd
  let (l, rd) := bytes.foldl (fun (a : List Nat × Bool) b => let (g, r) := dataGroup b.toNat a.2; (a.1 ++ [g], r)) ([s], rd)
  let (t, rd) := controlGroup 0b1011101000 rd
  (l ++ [t], rd)

/-! ## Test patterns (R106, R108) -/

/-- Taps of a pattern's polynomial with its degree (R106). -/
def patternTaps (p : Nat) : Nat × List Nat := match p with
  | 0 => (7, [7, 6])
  | 1 => (15, [15, 14])
  | 2 => (31, [31, 28])
  | _ => (13, [13, 12, 2, 1])

/-- The next bit of a pattern: the exclusive or of the earlier bits that the polynomial's terms name; the register holds the last bits, newest lowest. -/
def patternNext (p r : Nat) : Bool × Nat :=
  let (d, taps) := patternTaps p
  let b := taps.foldl (fun (a : Bool) t => a != r.testBit (t - 1)) false
  (b, (2 * r + (if b then 1 else 0)) % 2 ^ d)

/-- The first n bits of a pattern from a register on. -/
def patternBits (p : Nat) : Nat → Nat → List Bool
  | 0, _ => []
  | n + 1, r => let (b, r) := patternNext p r; b :: patternBits p n r

/-- The PAM4 level, 0 to 3, of a pair of bits by Gray mapping (R106: as IEEE 802.3 maps them): 00, 01, 11, 10 rising. -/
def grayLevel (a b : Bool) : Nat := match a, b with
  | false, false => 0
  | false, true => 1
  | true, true => 2
  | true, false => 3

/-- The levels of PRBS13Q (R106): each pair of bits of PRBS13. -/
def pamLevels : List Bool → List Nat
  | a :: b :: r => grayLevel a b :: pamLevels r
  | _ => []

/-- Bits that one injection inverts (R108, R109). -/
def Injection.bits (i : Injection) : Nat := if i.kind = 0 then 1 else if i.kind = 1 then 10 else i.len

/-- The generator's bit at which the j-th injection of a series begins, for a series that begins at bit `at_` (R108): a symbol starts at the next
multiple of 10. -/
def Injection.start (i : Injection) (at_ j : Nat) : Nat :=
  let b := at_ + j * i.gap
  if i.kind = 1 then (b + 9) / 10 * 10 else b

/-- Is the generator's bit k inverted by a series that begins at bit `at_` (R108)? -/
def Injection.inverts (i : Injection) (at_ k : Nat) : Bool := (List.range i.count).any fun j => decide (i.start at_ j ≤ k) && decide (k < i.start at_ j + i.bits)

/-! ## The receiver's sums (R92) -/

/-- The slicer error at a symbol, in 1/32768 of an ADC code (R92): the FFE's sum over the 24 samples around it, oldest first, with taps in 1/256
and the main cursor at tap `cur`; less H1, in 1/128, of the level decided before; less the symbol's own ideal level. No sum is rounded. -/
def slicerError (taps : List Int) (cur : Nat) (h1 : Int) (l : List RxSymbol) : Int :=
  let level := fun k => (l.getD k ⟨0, 0⟩).level
  128 * ((List.range 24).map fun t => taps.getD t 0 * ((l.getD (23 - t) ⟨0, 0⟩).code.toInt)).sum - h1 * level (22 - cur) - 128 * level (23 - cur)

/-- The sums over a window of the squares of the ideal levels and of the slicer error (R92), in the unit of `slicerError` squared. -/
def slicerSums (taps : List Int) (cur : Nat) (h1 : Int) : List RxSymbol → Nat × Nat
  | [] => (0, 0)
  | x :: r =>
    let a := slicerSums taps cur h1 r
    if (r.drop 22).isEmpty then a
    else
      let w := x :: r.take 23
      let level := 128 * (w.getD (23 - cur) ⟨0, 0⟩).level
      let e := slicerError taps cur h1 w
      (a.1 + (level * level).toNat, a.2 + (e * e).toNat)

/-- The symbols behind an SNR: 65,536 (R92), and the samples that the FFE needs around them. -/
def snrWindow : Nat := 65536 + 23

/-- Is 10 log₁₀ (signal / error) at least `c` hundredths of a dB (R92)? -/
def snrAtLeast (signal error c : Nat) : Bool := decide (10 ^ c * error ^ 1000 ≤ signal ^ 1000)

/-- 10 log₁₀ (signal / error) in whole hundredths of a dB, rounded down, for a ratio of 1 and more below 10⁶⁵ (R92). -/
def snrFloor (signal error : Nat) : Nat :=
  ((List.range 16).reverse).foldl (fun (q : Nat) i => if snrAtLeast signal error (q + 2 ^ i) then q + 2 ^ i else q) 0

/-- The change of VGA that brings the RMS ADC code toward 12 (R92). -/
def vgaStep (codes : List (BitVec 6)) : Int :=
  let sq : Int := (codes.map fun c => c.toInt * c.toInt).sum
  let hold : Int := 144 * codes.length
  if sq < hold then 1 else if hold < sq then -1 else 0

end Sys2Proof.Machine
end

