-- ==== Sys2Proof/Machine/Plan.lean ====
section
/-!
DEFINITION. Sys2Proof/Machine/Plan.lean: the plan document, its admission, and the register fields it owns
(R48 to R59, R62, R63, R181, R297, R315, R557, R630).
-/
namespace Sys2Proof.Machine

/-- A refusal of admission (R59): code, resource index, demand, capacity. -/
structure Refuse where
  code : Nat
  index : Nat
  demand : Nat := 0
  capacity : Nat := 0
deriving DecidableEq, Repr

/-- The first refusal of a list of tests. -/
def firstRefusal (l : List (Option Refuse)) : Option Refuse := l.findSome? id

/-- A refusal where `c` holds. -/
def refuseIf (c : Bool) (code index : Nat) (demand : Nat := 0) (capacity : Nat := 0) : Option Refuse :=
  if c then some ⟨code, index, demand, capacity⟩ else none

/-! ## The document (R49) -/

/-- Byte offset of stream entry i. -/
def streamAt (i : Nat) : Nat := 0xC0 + 32 * i

/-- Byte offset of output entry j behind n stream entries. -/
def outputAt (n j : Nat) : Nat := 0xC0 + 32 * n + 16 * j

/-- FORMAT at offset `o`, where the field there is bad. -/
def badField (c : Bool) (o : Nat) : Option Refuse := refuseIf c 0x0001 o

/-- FORMAT at a reserved field of n bytes with a nonzero byte: the field's own offset (R49, R59). -/
def reservedField (d : List Byte) (o n : Nat) : Option Refuse :=
  badField ((List.range n).any fun i => d.getD (o + i) 0 != 0) o

/-- The format tests of the header, in document order. -/
def headerFormat (x16 : Bool) (d : List Byte) : Option Refuse :=
  firstRefusal [
    badField (fieldLE d 0x00 4 != 0x4E414C50) 0x00, badField (fieldLE d 0x04 2 != 1) 0x04,
    badField (decide (4 ≤ fieldLE d 0x06 2)) 0x06, badField (fieldLE d 0x08 4 == 0) 0x08,
    badField (decide (fieldLE d 0x0C 2 < 1) || decide (160 < fieldLE d 0x0C 2)) 0x0C,
    badField (decide (640 < fieldLE d 0x0E 2)) 0x0E, badField (decide (63 < fieldLE d 0x18 1)) 0x18,
    reservedField d 0x19 3, badField (x16 && fieldLE d 0x28 4 != 0) 0x28, reservedField d 0x2C 20]

/-- The format tests of the family and budget entries. -/
def tablesFormat (d : List Byte) : Option Refuse :=
  firstRefusal (((List.range 4).map fun f =>
      firstRefusal [reservedField d (0x42 + 16 * f) 2, reservedField d (0x48 + 16 * f) 8]) ++
    ((List.range 8).map fun k => reservedField d (0x84 + 8 * k) 4))

/-- The format tests of the stream entry at offset o. -/
def streamFormat (d : List Byte) (o : Nat) : Option Refuse :=
  let b := fun p => fieldLE d (o + p) 1
  let w := fun p => fieldLE d (o + p) 2
  firstRefusal [
    badField (decide (159 < b 0)) o, badField (decide (3 < b 1)) (o + 1), badField (decide (1 < b 2)) (o + 2),
    badField (decide (3 < b 4) || (b 4 == 0) != (b 3 != 0xFF)) (o + 4),
    badField (decide (b 5 < 1) || decide (4 < b 5)) (o + 5), badField (decide (2 < b 6)) (o + 6),
    reservedField d (o + 7) 1, badField (decide (w 8 < 1) || decide (16384 < w 8)) (o + 8),
    badField (w 0xA == 0) (o + 0xA), badField (decide (w 0xC < w 0xA)) (o + 0xC),
    badField (w 0xE != 0 && (decide (w 0xE < 8) || decide (1024 < w 0xE))) (o + 0xE),
    badField (decide (4 < b 0x16)) (o + 0x16), reservedField d (o + 0x17) 9]

/-- The format tests of the output entry at offset o. -/
def outputFormat (d : List Byte) (o : Nat) : Option Refuse :=
  firstRefusal [
    badField (decide (5 < fieldLE d (o + 4) 1)) (o + 4), reservedField d (o + 5) 1,
    badField (decide (1023 < fieldLE d (o + 6) 2)) (o + 6),
    badField (fieldLE d (o + 4) 1 != 2 && fieldLE d (o + 8) 4 != 0) (o + 8), reservedField d (o + 0xC) 4]

/-- The document-format step (R52, R59): the first bad field in document order. -/
def formatStep (x16 : Bool) (d : List Byte) : Option Refuse :=
  let n := fieldLE d 0x0C 2
  match headerFormat x16 d with
  | some r => some r
  | none => firstRefusal ([tablesFormat d] ++ ((List.range n).map fun i => streamFormat d (streamAt i)) ++
      ((List.range (fieldLE d 0x0E 2)).map fun j => outputFormat d (outputAt n j)))

/-- The stream entry at offset o. -/
def streamEntry (d : List Byte) (o : Nat) : PlanStream :=
  let b := fun p => fieldLE d (o + p) 1
  let w := fun p => fieldLE d (o + p) 2
  { stream := b 0, family := b 1, path := b 2, sentinel := b 3, cls := b 4, exposures := b 5, packing := b 6, width := w 8,
    activeLines := w 0xA, totalLines := w 0xC, window := if w 0xE = 0 then 64 else w 0xE, coveA := b 0x10, coveB := b 0x11,
    coveC := b 0x12, coveD := b 0x13, outFirst := w 0x14, outCount := b 0x16 }

/-- The output entry at offset o. -/
def outputEntry (d : List Byte) (o : Nat) : PlanOutput :=
  { bytes := fieldLE d o 4, dest := fieldLE d (o + 4) 1, drift := fieldLE d (o + 6) 2, readout := fieldLE d (o + 8) 4 }

/-- S_f of a family entry (R35): 0 stands for 3 % of the period. -/
def slackOf (period n s : Nat) : Nat := if s = 0 then 3 * period / (100 * n) else s

/-- The plan a document spells (R49). -/
def decodePlan (d : List Byte) : Plan :=
  let n := fieldLE d 0x0C 2
  let p := fieldLE d 0x10 4
  { gap := (fieldLE d 0x06 2).testBit 0, atSpring := (fieldLE d 0x06 2).testBit 1, id := fieldLE d 0x08 4, period := p,
    phase := fieldLE d 0x14 4, group := fieldLE d 0x18 1, applySpring := fieldLE d 0x1C 4,
    jobBulk := [fieldLE d 0x20 2, fieldLE d 0x22 2], hostBulk := [fieldLE d 0x24 4, fieldLE d 0x28 4],
    families := (List.range 4).map fun f =>
      let c := fieldLE d (0x40 + 16 * f) 2
      { n := c, slack := if c = 0 then 0 else slackOf p c (fieldLE d (0x44 + 16 * f) 4) },
    budgets := (List.range 8).map fun k => fieldLE d (0x80 + 8 * k) 4,
    streams := (List.range n).map fun i => streamEntry d (streamAt i),
    outputs := (List.range (fieldLE d 0x0E 2)).map fun j => outputEntry d (outputAt n j) }

/-! ## What a plan says -/

/-- Family f of a plan. -/
def Plan.family (p : Plan) (f : Nat) : PlanFamily := p.families.getD f ⟨0, 0⟩

/-- A stream in a sentinel slot (R451). -/
def PlanStream.isSentinel (x : PlanStream) : Bool := x.sentinel != 0xFF

/-- A stream split for width (R181). -/
def PlanStream.isSplit (x : PlanStream) : Bool := x.coveB != 0xFF

/-- A memory-path stream. -/
def PlanStream.isMemory (x : PlanStream) : Bool := x.path == 1

/-- The parts of a stream (R181): the Coves it names. -/
def PlanStream.parts (x : PlanStream) : List Nat := [x.coveA, x.coveB, x.coveC, x.coveD].filter (· != 0xFF)

/-- The halves in which a stream has a part. -/
def PlanStream.halves (x : PlanStream) : List Nat := [0, 1].filter (fun h => x.parts.any (fun c => c / 8 == h))

/-- The columns a part receives (R55, R182). -/
def PlanStream.partWidth (x : PlanStream) : Nat := if x.isSplit then x.width / 2 + 32 else x.width

/-- Four times the bytes of a pixel (R19). -/
def PlanStream.quarterBytes (x : PlanStream) : Nat := match x.packing with
  | 0 => 5 | 1 => 6 | _ => 8

/-- The sensor port of a stream: four virtual channels a port (R23). -/
def PlanStream.port (x : PlanStream) : Nat := x.stream / 4

/-- The outputs of a stream, in output order. -/
def Plan.outputsOf (p : Plan) (x : PlanStream) : List PlanOutput := (p.outputs.drop x.outFirst).take x.outCount

/-- The stream that owns output entry j. -/
def Plan.ownerOf (p : Plan) (j : Nat) : Option PlanStream :=
  p.streams.find? (fun x => decide (x.outFirst ≤ j) && decide (j < x.outFirst + x.outCount))

/-- The entry of a stream number. -/
def Plan.streamOf (p : Plan) (n : Nat) : Option PlanStream := p.streams.find? (fun x => x.stream == n)

/-- Output entries with their indices. -/
def Plan.indexedOutputs (p : Plan) : List (Nat × PlanOutput) := (List.range p.outputs.length).zip p.outputs

/-- Streams in increasing stream number. -/
def Plan.sortedStreams (p : Plan) : List PlanStream := (List.range 160).filterMap p.streamOf

/-- Streams with a part on Cove c, in increasing number: context k of the Cove is the k-th (R218). -/
def Plan.onCove (p : Plan) (c : Nat) : List PlanStream := p.sortedStreams.filter (fun x => x.parts.contains c)

/-- The context of a stream on Cove c. -/
def Plan.contextOf (p : Plan) (c n : Nat) : Option Nat := (p.onCove c).findIdx? (fun x => x.stream == n)

/-- What must be equal for a stream to continue (R62): its entry and its outputs. -/
def Plan.signature (p : Plan) (x : PlanStream) : PlanStream × List PlanOutput := (x, p.outputsOf x)

/-- Does a stream of the old plan continue under the new one (R62)? -/
def Plan.continues (old new : Plan) (x : PlanStream) : Bool := match new.streamOf x.stream with
  | some y => new.signature y == old.signature x
  | none => false

/-! ## The spring and family limits (R31, R35, R59) -/

/-- The tests of one family. -/
def familyStep (p : Plan) (f : Nat) : Option Refuse :=
  let n := (p.family f).n
  let s := (p.family f).slack
  if n = 0 then none
  else firstRefusal [
    refuseIf (decide (480 < n)) 0x0002 f,
    refuseIf (decide (n * 10 ^ 9 < 10 * p.period)) 0x0003 f (n * 10 ^ 12 / p.period) 10000,
    refuseIf (decide (120 * p.period < n * 10 ^ 9)) 0x0003 f (ceilDiv (n * 10 ^ 12) p.period) 120000,
    refuseIf (decide (s < 50000)) 0x0004 f s 50000,
    refuseIf (decide (p.period / (5 * n) < s)) 0x0004 f s (p.period / (5 * n))]

/-- The second step of R52. `spring g` says whether group g is bound to the spring tide. DESIGN CHOICE: within the step the tests run in the
order of R31's table family by family (N, rate and slack of a family before those of the next), then the test that some family is active, then
GROUP. -/
def gridStep (spring : Nat → Bool) (p : Plan) : Option Refuse :=
  firstRefusal [
    refuseIf (decide (p.period < 1000000) || decide (4000000000 < p.period)) 0x0002 0xFFFF,
    refuseIf (decide (p.period ≤ p.phase)) 0x0002 0xFFFF,
    familyStep p 0, familyStep p 1, familyStep p 2, familyStep p 3,
    badField (p.families.all (fun f => f.n == 0)) 0x40,
    refuseIf (!spring p.group) 0x0005 p.group]

/-! ## The structural step (R53, R181, R630) -/

/-- Stream entries, each with those before it. -/
def Plan.withEarlier (p : Plan) : List (Nat × PlanStream × List PlanStream) :=
  (List.range p.streams.length).filterMap fun i => (p.streams[i]?).map fun x => (i, x, p.streams.take i)

/-- The references of R53. -/
def referenceStep (p : Plan) : Option Refuse :=
  let overlap := fun x y : PlanStream => decide (0 < x.outCount) && decide (0 < y.outCount) &&
    decide (x.outFirst < y.outFirst + y.outCount) && decide (y.outFirst < x.outFirst + x.outCount)
  firstRefusal (
    (p.withEarlier.map fun (i, x, before) => badField (before.any (fun y => y.stream == x.stream)) (streamAt i)) ++
    (p.withEarlier.map fun (i, x, _) =>
      badField (decide (0 < x.outCount) && decide (p.outputs.length < x.outFirst + x.outCount)) (streamAt i + 0x14)) ++
    (p.withEarlier.map fun (i, x, before) => badField (before.any (overlap x)) (streamAt i + 0x14)) ++
    (p.indexedOutputs.map fun (j, _) => badField (p.ownerOf j).isNone (outputAt p.streams.length j)))

/-- The routes of R16, as R181 states them. -/
def routeOk (x : PlanStream) : Bool :=
  let a := x.coveA; let b := x.coveB; let c := x.coveC; let d := x.coveD
  x.parts.all (fun k => decide (k ≤ 15)) && a != 0xFF &&
  (b == 0xFF || (a % 2 == 0 && b == a + 1)) &&
  (c == 0xFF || c / 8 != a / 8) &&
  (c != 0xFF) == x.isSentinel &&
  (if c == 0xFF then d == 0xFF else if b == 0xFF then d == 0xFF else c % 2 == 0 && d == c + 1)

/-- The widths of R181, with the figures of R59. -/
def widthStep (x : PlanStream) : Option Refuse :=
  let bad := fun (c : Bool) cap => refuseIf c 0x0011 x.stream x.width cap
  firstRefusal [
    bad (!x.isSplit && decide (8192 < x.width)) 8192,
    bad (x.isSplit && decide (x.width < 256)) 256, bad (x.isSplit && decide (16384 < x.width)) 16384,
    bad (x.isSplit && x.width % 2 == 1) 2,
    bad (x.packing == 0 && x.width % 4 != 0) 4, bad (x.packing == 1 && x.width % 2 != 0) 2]

/-- Order 2 of R630. -/
def routeStep (p : Plan) (x : PlanStream) : Option Refuse :=
  firstRefusal [refuseIf (!routeOk x) 0x0010 x.stream, widthStep x,
    refuseIf ((p.family x.family).n == 0) 0x0014 x.stream]

/-- The sentinel slots (R59, R630). -/
def sentinelStep (p : Plan) : Option Refuse :=
  firstRefusal (p.withEarlier.map fun (_, x, before) =>
    if !x.isSentinel then none
    else if 7 < x.sentinel then some ⟨0x0013, x.stream, x.sentinel, 7⟩
    else refuseIf (before.any (fun y => y.sentinel == x.sentinel)) 0x0013 x.stream 2 1)

/-- A channel number with bits of m flipped. -/
def flipChannel (c m : Nat) : Nat := c ^^^ m

/-- The channels that output o of stream x takes, with role and mirror bit (R315). -/
def channelsOf (x : PlanStream) (o : PlanOutput) : List (Nat × Nat × Bool) :=
  [(o.drift, 1, false)] ++ (if x.isSentinel then [(flipChannel o.drift 512, 1, true)] else []) ++
  (if o.dest = 2 ∧ o.readout ≠ 0 then
    [(flipChannel o.drift 1, 2, false)] ++ (if x.isSentinel then [(flipChannel o.drift 513, 2, true)] else [])
   else [])

/-- The channels of output entry j. -/
def Plan.entryChannels (p : Plan) (j : Nat) (o : PlanOutput) : List (Nat × Nat × Bool) := match p.ownerOf j with
  | some x => channelsOf x o
  | none => []

/-- One role per channel (R315, R630). -/
def roleStep (p : Plan) : Option Refuse :=
  firstRefusal (p.indexedOutputs.map fun (j, o) =>
    let mine := (p.entryChannels j o).map (·.1)
    let taken := ((p.indexedOutputs.take j).map fun (i, e) => (p.entryChannels i e).map (·.1)).flatten
    badField (mine.any taken.contains || !decide mine.Nodup) (outputAt p.streams.length j + 6))

/-- At most `n` outputs with a destination (R153, R414). -/
def slotStep (p : Plan) : Option Refuse :=
  firstRefusal (p.indexedOutputs.map fun (j, o) =>
    let before := ((p.outputs.take j).filter (fun e => e.dest == o.dest)).length
    badField ((o.dest == 3 || o.dest == 4) && decide (4 ≤ before) || o.dest == 5 && decide (16 ≤ before))
      (outputAt p.streams.length j + 4))

/-- In-line streams on Cove c. -/
def Plan.inlineOn (p : Plan) (c : Nat) : List PlanStream := (p.onCove c).filter (fun x => x.path == 0)

/-- The third step of R52, in the order of R630. -/
def structureStep (p : Plan) : Option Refuse :=
  firstRefusal ([referenceStep p] ++ (p.streams.map (routeStep p)) ++
    ((List.range 16).map fun c => ((p.onCove c)[8]?).map fun x => ⟨0x0010, x.stream, 0, 0⟩) ++
    ((List.range 16).map fun c => refuseIf (decide (1 < (p.inlineOn c).length)) 0x0012 c (p.inlineOn c).length 1) ++
    [sentinelStep p] ++
    (p.indexedOutputs.map fun (j, o) =>
      refuseIf ((p.ownerOf j).any (fun x => o.drift / 512 != x.coveA / 8)) 0x0015 j) ++
    [roleStep p, slotStep p])

/-! ## The resource terms (R54 to R58) -/

/-- W_f of family f (R54). -/
def Plan.working (p : Plan) (f : Nat) : Nat :=
  let n := (p.family f).n
  (p.period - n * (p.family f).slack) * 3999 / (4000 * n)

/-- The Cove charge of a stream on each of its Coves, ppm (R55). -/
def Plan.coveCharge (p : Plan) (x : PlanStream) : Nat :=
  if x.isMemory then
    ceilDiv (x.exposures * x.activeLines * (ceilDiv x.partWidth 4 + 8 * ceilDiv x.partWidth 256) * 10 ^ 6) (p.working x.family)
  else
    ceilDiv (x.exposures * x.partWidth * x.totalLines * (p.family x.family).n * 10 ^ 9) (p.period * 3999)

/-- The Harbour demand of a stream in each of its halves, MB/s (R56). -/
def Plan.harbourDemand (p : Plan) (x : PlanStream) : Nat :=
  let w := p.working x.family
  let line4 := x.width * x.exposures * x.quarterBytes
  let raw := if x.isMemory then
      ceilDiv (line4 * x.totalLines * (p.family x.family).n * 10 ^ 9) (4 * p.period * 999750) +
        ceilDiv (line4 * x.activeLines * 1000) (4 * w)
    else 0
  raw + (((p.outputsOf x).filter (fun o => o.dest == 2)).map fun o =>
    ceilDiv (o.bytes * 1000) w + ceilDiv (o.readout * 1000) w).sum

/-- The job entries of a stream's run in each of its halves (R57, R297). -/
def PlanStream.run (x : PlanStream) : Nat :=
  if x.isMemory then x.exposures * ceilDiv x.partWidth 256 * x.window else 0

/-- The Cove term of Cove c. -/
def Plan.coveTerm (p : Plan) (c : Nat) : Nat :=
  ((p.streams.filter (fun x => x.parts.contains c)).map p.coveCharge).sum

/-- The Harbour term of half h and class k. -/
def Plan.classTerm (p : Plan) (h k : Nat) : Nat :=
  ((p.streams.filter (fun x => x.cls == k && x.halves.contains h)).map p.harbourDemand).sum

/-- The budget of half h and class k. -/
def Plan.budget (p : Plan) (h k : Nat) : Nat := p.budgets.getD (4 * h + k) 0

/-- The job term of half h. -/
def Plan.jobTerm (p : Plan) (h : Nat) : Nat :=
  ((p.streams.filter (fun x => x.halves.contains h)).map PlanStream.run).sum + p.jobBulk.getD h 0

/-- Does an output count on target t (R58, R59)? 0 and 1 host ports, 2 and 3 CSI-2 transmit, 4 Ethernet. In 2 × x8 mode a
sentinel output to the host counts on both ports. -/
def countsOn (x16 : Bool) (x : PlanStream) (o : PlanOutput) (t : Nat) : Bool :=
  match o.dest with
  | 0 => t == 0 || (!x16 && x.isSentinel && t == 1)
  | 1 => t == 1 || (!x16 && x.isSentinel && t == 0)
  | 3 => t == 2 | 4 => t == 3 | 5 => t == 4
  | _ => false

/-- The output term of target t (R58). -/
def Plan.outputTerm (p : Plan) (x16 : Bool) (t : Nat) : Nat :=
  (p.streams.map fun x => (((p.outputsOf x).filter (fun o => countsOn x16 x o t)).map fun o =>
    ceilDiv ((o.bytes + 64) * 1000) (p.working x.family)).sum).sum + (if t < 2 then p.hostBulk.getD t 0 else 0)

/-- The fifth step of R52; `cap t` is the admissible rate of target t. -/
def resourceStep (x16 : Bool) (cap : Nat → Nat) (p : Plan) : Option Refuse :=
  let exceeds := fun code i d c => refuseIf (decide (c < d)) code i d c
  firstRefusal (
    ((List.range 16).map fun c => exceeds 0x0020 c (p.coveTerm c) 1000000) ++
    ([0, 1].map fun h => firstRefusal (
      ([0, 1, 2, 3].map fun k => exceeds 0x0022 (4 * h + k) (p.classTerm h k) (p.budget h k)) ++
      [exceeds 0x0021 h (([0, 1, 2, 3].map (p.budget h)).sum) 115200])) ++
    ([0, 1].map fun h => exceeds 0x0023 h (p.jobTerm h) 65536) ++
    ([0, 1, 2, 3, 4].map fun t => exceeds 0x0024 t (p.outputTerm x16 t) (cap t)))

/-! ## The transition check (R63) -/

/-- The memory-path streams of the old plan that are changed or removed. -/
def changedStreams (old new : Plan) : List PlanStream :=
  old.streams.filter (fun x => x.isMemory && !old.continues new x)

/-- What the old plan's charges add on Cove c. -/
def carriedCove (old new : Plan) (c : Nat) : Nat :=
  (((changedStreams old new).filter (fun x => x.parts.contains c &&
    !(new.streamOf x.stream).any (fun y => y.parts.contains c && new.coveCharge y == old.coveCharge x))).map old.coveCharge).sum

/-- What the old plan's demands add to class k of half h. -/
def carriedClass (old new : Plan) (h k : Nat) : Nat :=
  (((changedStreams old new).filter (fun x => x.cls == k && x.halves.contains h &&
    !(new.streamOf x.stream).any (fun y => y.halves.contains h && y.cls == k &&
      new.harbourDemand y == old.harbourDemand x))).map old.harbourDemand).sum

/-- The fourth step of R52: with GAP = 1 it is skipped. DESIGN CHOICE: "resource by resource" runs as the in-line tests of the 16 Coves, then
their terms, then the halves with their classes, each in increasing number. -/
def transitionStep (old new : Plan) : Option Refuse :=
  if new.gap then none
  else firstRefusal (
    ((List.range 16).map fun c =>
      let a := (old.inlineOn c).map (·.stream)
      let b := (new.inlineOn c).map (·.stream)
      refuseIf (!a.isEmpty && !b.isEmpty && a != b) 0x0026 c (a.length + b.length) 1) ++
    ((List.range 16).map fun c =>
      let x := carriedCove old new c
      refuseIf (x != 0 && decide (1000000 < new.coveTerm c + x)) 0x0026 c (new.coveTerm c + x) 1000000) ++
    ([0, 1].map fun h => firstRefusal ([0, 1, 2, 3].map fun k =>
      let x := carriedClass old new h k
      refuseIf (x != 0 && decide (new.budget h k < new.classTerm h k + x)) 0x0026 (0x100 + h) (new.classTerm h k + x)
        (new.budget h k))))

/-- Admission (R52): the refusal, or none. -/
def admission (x16 : Bool) (spring : Nat → Bool) (cap : Nat → Nat) (live : Option Plan) (d : List Byte) : Option Refuse :=
  let p := decodePlan d
  match formatStep x16 d with
  | some r => some r
  | none => match gridStep spring p with
    | some r => some r
    | none => match structureStep p with
      | some r => some r
      | none => match live.bind (fun old => transitionStep old p) with
        | some r => some r
        | none => resourceStep x16 cap p

/-! ## Power (R65, R557) -/

/-- The domains a domain requires (R557). `x16` is the host arrangement. -/
def requires (x16 : Bool) (d : Nat) : List Nat :=
  if d < 16 then [52 + d / 8, 54 + d / 8]
  else if d < 32 then [d - 16]
  else if d < 40 then [94]
  else if d = 42 then [93]
  else if 44 ≤ d ∧ d < 48 then [89]
  else if 48 ≤ d ∧ d < 52 then [90]
  else if d = 52 then [44, 45, 46, 47]
  else if d = 53 then [48, 49, 50, 51]
  else if 56 ≤ d ∧ d < 60 then [91, 95]
  else if d = 60 then (if x16 then [56, 57, 58, 59] else [56, 57])
  else if d = 61 then (if x16 then [56, 57, 58, 59] else [58, 59])
  else if d = 62 ∨ d = 63 then [64, 92]
  else if 65 ≤ d ∧ d < 69 then [54 + (d - 65) / 2]
  else if 71 ≤ d ∧ d < 81 then [81]
  else []

/-- The domains of a sensor port: its Inlet group and its lane or receive group. -/
def portDomains (port : Nat) : List Nat := [71 + port / 4, if port < 32 then 32 + port / 4 else 40 + (port - 32) / 4]

/-- The domains that a half with a part or a channel takes. -/
def halfDomains (h : Nat) : List Nat := [52 + h, 44 + 4 * h, 45 + 4 * h, 46 + 4 * h, 47 + 4 * h]

/-- The domains a destination takes (R557). -/
def destDomains (x16 : Bool) (dest : Nat) : List Nat :=
  match dest with
  | 0 => if x16 then [56, 57, 58, 59, 60, 61] else [56, 57, 60]
  | 1 => if x16 then [56, 57, 58, 59, 60, 61] else [58, 59, 61]
  | 3 => [42] | 4 => [42]
  | 5 => [64, 62, 63]
  | _ => []

/-- The domains a plan uses (R557), in increasing number. -/
def Plan.domains (p : Plan) (x16 : Bool) : List Nat :=
  let used := ((p.streams.map fun x => (x.parts.map (fun c => [c, 16 + c])).flatten).flatten) ++
    ((p.streams.map fun x => portDomains x.port).flatten) ++ ((p.streams.map fun x => (x.halves.map halfDomains).flatten).flatten) ++
    ((p.indexedOutputs.map fun (j, o) => destDomains x16 o.dest ++
      ((p.entryChannels j o).map fun (c, _, _) => (54 + c / 512) :: halfDomains (c / 512)).flatten).flatten) ++
    ((p.streams.filter (·.isSentinel)).map fun x => ((p.outputsOf x).map fun o =>
      if x16 then [] else if o.dest < 2 then destDomains x16 (1 - o.dest) else []).flatten).flatten
  (List.range 96).filter used.contains

/-! ## The fields a plan owns (R50) -/

/-- A field of a page with a value, at its shadow place. -/
def planField (pg : Nat) (f : Field) (v : Nat) : Nat × Nat := (fieldKey pg f, v % f.size)

/-- The Tidemark fields (R422). -/
def Plan.tideFields (p : Plan) : List (Nat × Nat) :=
  [planField 0x11 Tidemark.SPRING_PERIOD_NS p.period, planField 0x11 Tidemark.SPRING_PHASE_NS p.phase] ++
  (([0, 1, 2, 3].map fun f => [planField 0x11 (Tidemark.FAM_N_N.nth f) (p.family f).n,
    planField 0x11 (Tidemark.FAM_SLACK_NS.nth f) (p.family f).slack]).flatten)

/-- The stream-table fields (R193). -/
def PlanStream.fields (x : PlanStream) : List (Nat × Nat) :=
  let f := fun (f : Field) v => planField (0x160 + x.stream / 16) (f.nth (x.stream % 16)) v
  [f StreamTab.ST_PLAN0_VALID 1, f StreamTab.ST_PLAN0_SPLIT (if x.isSplit then 1 else 0), f StreamTab.ST_PLAN0_PATH x.path,
   f StreamTab.ST_PLAN0_FAMILY x.family, f StreamTab.ST_PLAN0_CLASS x.cls,
   f StreamTab.ST_PLAN0_SLOT (if x.isSentinel then x.sentinel else 0xF), f StreamTab.ST_PLAN0_EXPOSURES x.exposures,
   f StreamTab.ST_PLAN0_PACKING x.packing, f StreamTab.ST_PLAN1_ACTIVE_LINES x.activeLines,
   f StreamTab.ST_PLAN1_WIDTH x.width, f StreamTab.ST_PLAN2_TOTAL_LINES x.totalLines, f StreamTab.ST_PLAN2_WINDOW x.window,
   f StreamTab.ST_COVES_COVE_A x.coveA, f StreamTab.ST_COVES_COVE_B x.coveB, f StreamTab.ST_COVES_COVE_C x.coveC,
   f StreamTab.ST_COVES_COVE_D x.coveD]

/-- The memory-path streams of half h with the first entry of each one's run, in increasing stream number (R297). -/
def Plan.runs (p : Plan) (h : Nat) : List (Nat × Nat × Nat) :=
  let step := fun (acc : Nat × List (Nat × Nat × Nat)) (x : PlanStream) =>
    (acc.1 + x.run, acc.2 ++ [(x.stream, acc.1, x.run)])
  ((p.sortedStreams.filter (fun x => x.isMemory && x.halves.contains h)).foldl step (65536 * h, [])).2

/-- The Harbour fields of half h (R311, R312). -/
def Plan.harbourFields (p : Plan) (h : Nat) : List (Nat × Nat) :=
  let p5 := Block.page .harbour h 5
  let p6 := Block.page .harbour h 6
  ([0, 1, 2, 3].map fun k => planField p5 (Harbour.CLS_BUDGET_MBPS.nth k) (p.budget h k)) ++
  [planField p6 Harbour.JOB_BULK_ENTRIES (p.jobBulk.getD h 0),
   planField p6 Harbour.JOB_RESV_ENTRIES (p.jobTerm h - p.jobBulk.getD h 0)] ++
  ((p.runs h).map fun (n, first, count) => [planField p6 (Harbour.JOB_RES_FIRST_ENTRY.nth n) first,
    planField p6 (Harbour.JOB_RES_COUNT_COUNT.nth n) count]).flatten

/-- The Drift fields (R315). -/
def Plan.driftFields (p : Plan) : List (Nat × Nat) :=
  (p.indexedOutputs.map fun (j, o) => match p.ownerOf j with
    | none => []
    | some x => ((channelsOf x o).map fun (c, role, mirror) =>
        let f := fun (f : Field) v => planField (0x1000 + c) f v
        [f Drift.CH_BIND_ROLE role, f Drift.CH_BIND_DEST (if role = 1 then o.dest else 0), f Drift.CH_BIND_CLASS x.cls,
         f Drift.CH_BIND_MIRROR (if mirror then 1 else 0), f Drift.CH_BIND_OUT (j - x.outFirst),
         f Drift.CH_BIND_STREAM x.stream, f Drift.CH_OUT_BYTES_BYTES (if role = 1 then o.bytes else o.readout)]).flatten).flatten

/-- Rank of the context of stream x on Cove c (R271): by class, then by stream number. -/
def Plan.rankOn (p : Plan) (c : Nat) (x : PlanStream) : Nat :=
  ((p.onCove c).filter (fun y => decide (y.cls < x.cls) || (y.cls == x.cls && decide (y.stream < x.stream)))).length

/-- The Cove fields (R50, R271). -/
def Plan.coveFields (p : Plan) (c : Nat) : List (Nat × Nat) :=
  let on := p.onCove c
  let rank := ((List.range on.length).zip on).foldl (fun a (k, x) => a + p.rankOn c x * 16 ^ k) 0
  [planField (Block.page .cove c 0) Cove.SLICE_RANK_RANK rank]

/-- Every field the plan owns, at its shadow place. -/
def Plan.fields (p : Plan) : List (Nat × Nat) :=
  p.tideFields ++ (p.streams.map PlanStream.fields).flatten ++ p.harbourFields 0 ++ p.harbourFields 1 ++ p.driftFields ++
  ((List.range 16).map p.coveFields).flatten

/-- Is a place that of a plan-owned field, in the shadow (`live` false) or the live half? -/
def isPlanKey (live : Bool) (key : Nat) : Bool :=
  let pg := key / 0x8000
  let bit := key % 0x8000
  (decide (0x4000 ≤ bit) == live) &&
  (match pageRef pg with
    | none => false
    | some r =>
      let off := bit % 0x4000 / 32 * 4
      r.fields.any (fun f => f.acc == .plan && f.lo == bit % 32 && f.covers off))

/-- The plan-owned fields of one half of the pages take a plan's values; every other returns to its reset value. -/
def State.loadPlan (s : State) (live : Bool) (p : Option Plan) : State :=
  let cleared := s.regs.filter (fun e => !isPlanKey live e.1)
  let values := (p.map Plan.fields).getD []
  { s with regs := values.foldl (fun m (k, v) => SMap.set resetField m (if live then k + 0x4000 else k) v) cleared }

/-- The stream that the live plan binds to context c of Cove n (R218). -/
def State.boundTo (s : State) (n c : Nat) : Option PlanStream := s.tide.livePlan.bind fun p => (p.onCove n)[c]?

end Sys2Proof.Machine
end

