-- ==== Sys2Proof/Machine/Commit.lean ====
section
/-!
DEFINITION. Sys2Proof/Machine/Commit.lean: shadow, live and commit (R37 to R45).
-/
namespace Sys2Proof.Machine

/-- Page 2 of the Tidemark, the commit groups. -/
def grpPage : Nat := 0x12

/-- The families of GRP_CTRL.FAMILY: 4 is the spring tide (R41). -/
def State.grpFamily (s : State) (g : Nat) : Nat := s.get grpPage (Tidemark.GRP_CTRL_FAMILY.nth g)

/-- A flag of GRP_STAT of group g, one of 64 (R41). -/
def State.grpFlag (s : State) (f : Field) (g : Nat) : Bool := s.flag grpPage (f.nth (g % 64))

/-- Set a flag of GRP_STAT. -/
def State.putGrp (s : State) (f : Field) (g v : Nat) : State := s.put grpPage (f.nth (g % 64)) v

/-- Pages whose COMMIT bit `f` is 1, in group g. -/
def State.pagesOf (s : State) (f : Field) (g : Nat) : List Nat :=
  (s.regs.filter (fun e => e.1 % 0x8000 == f.off * 8 + f.lo && e.2 == 1 &&
    s.get (e.1 / 0x8000) Hdr.COMMIT_GROUP == g)).map (fun e => e.1 / 0x8000)

/-- Is a place that of an RWS field of the shadow half? -/
def isRwsKey (key : Nat) : Bool :=
  let bit := key % 0x8000
  decide (bit < 0x4000) &&
  (match pageRef (key / 0x8000) with
    | none => false
    | some r => r.fields.any (fun f => f.acc == .rws && f.lo == bit % 32 && f.covers (bit / 32 * 4)))

/-- Capture one page (R38): its shadows go into the capture store. -/
def State.capturePage (s : State) (pg : Nat) : State :=
  let shadow := (s.regs.filter (fun e => e.1 / 0x8000 == pg && isRwsKey e.1)).map (fun e => (e.1 + 0x4000, e.2))
  let s := { s with commit := { s.commit with captured := SMap.set (fun _ => []) s.commit.captured pg shadow } }
  (s.put pg Hdr.COMMIT_PENDING 0).put pg Hdr.COMMIT_CAPTURED 1

/-- A change of SYNC_CFG.MODE clears the port's last edge (R205); a change from FREE, its values (R203). -/
def State.syncModeSwap (s : State) (pg old : Nat) : State := match pageRef pg with
  | some ⟨.inlet, n, 0⟩ =>
    let x : SyncSt := SMap.get (fun _ => {}) s.syncs n
    let y := { x with lastEdge := none, values := if old = 0 then [] else x.values, latest := if old = 0 then none else x.latest }
    if s.live pg Inlet.SYNC_CFG_MODE = old then s else { s with syncs := SMap.set (fun _ => {}) s.syncs n y }
  | _ => s

/-- Swap one page (R38, R40): what was captured becomes live; `t` is the tide number that begins. The
swap of a translation page drops its half's cached translations (R306). -/
def State.swapPage (s : State) (pg t : Nat) : State :=
  let mode := s.live pg Inlet.SYNC_CFG_MODE
  let new : List (Nat × Nat) := SMap.get (fun _ => []) s.commit.captured pg
  let rest := s.regs.filter (fun e => !(e.1 / 0x8000 == pg && decide (0x4000 ≤ e.1 % 0x8000) && isRwsKey (e.1 - 0x4000)))
  let s := { s with
    regs := new.foldl (fun m (e : Nat × Nat) => SMap.set resetField m e.1 e.2) rest
    commit := { s.commit with captured := SMap.set (fun _ => []) s.commit.captured pg [] } }
  let s := if pg = 0x807 then s.dropTlb 0 else if pg = 0x827 then s.dropTlb 1 else s
  let s := s.syncModeSwap pg mode
  ((s.put pg Hdr.COMMIT_CAPTURED 0).put pg Hdr.COMMIT_DONE 1).put pg Hdr.COMMIT_TIDE_TIDE t

/-- GRP_STAT.PENDING reads 1 while software's or the device's arm is held (R61). -/
def State.judgeArm (s : State) (g : Nat) : State :=
  s.putGrp Tidemark.GRP_STAT_PENDING g (bit (s.commit.swArm.contains g || s.commit.devArm == some g))

/-- Drop software's arm of a group. -/
def State.dropArm (s : State) (g : Nat) : State :=
  ({ s with commit := { s.commit with swArm := s.commit.swArm.filter (· != g) } }).judgeArm g

/-- Drop the device's arm. -/
def State.dropDevArm (s : State) : State := match s.commit.devArm with
  | none => s
  | some g => ({ s with commit := { s.commit with devArm := none } }).judgeArm g

/-- Capture a group (R38, R42): every pending page of it. Its arms are spent. -/
def State.captureGroup (s : State) (g : Nat) : State :=
  let s := (s.pagesOf Hdr.COMMIT_PENDING g).foldl State.capturePage s
  (s.dropArm g).putGrp Tidemark.GRP_STAT_CAPTURED g 1

/-- Swap a group (R38): every captured page of it, DONE and GRP_TIDE. -/
def State.swapGroup (s : State) (g t : Nat) : State :=
  let s := (s.pagesOf Hdr.COMMIT_CAPTURED g).foldl (fun s pg => s.swapPage pg t) s
  let s := (s.putGrp Tidemark.GRP_STAT_CAPTURED g 0).putGrp Tidemark.GRP_STAT_DONE g 1
  s.put grpPage (Tidemark.GRP_TIDE_TIDE.nth g) t

/-- The number that AT_TIDE's TARGET is compared with: FAM_TIDE, or SPRING_COUNT for a spring-bound group (R41). -/
def State.grpCount (s : State) (g : Nat) : Nat :=
  if s.grpFamily g < 4 then s.famTide (s.grpFamily g) else s.get 0x11 Tidemark.SPRING_COUNT_COUNT

/-- Has the capture of the tide in progress taken place for group g's family (R42)? -/
def State.grpPast (s : State) (g : Nat) : Bool :=
  if s.grpFamily g < 4 then s.inSlack (s.grpFamily g) else s.tide.springCaptured

/-- Does group g capture at the opening at hand (R42): software's arm is held, and AT_TIDE is met? -/
def State.capturesNow (s : State) (g : Nat) : Bool :=
  s.commit.swArm.contains g && (!s.grpFlag Tidemark.GRP_CTRL_AT_TIDE g ||
    s.get grpPage (Tidemark.GRP_TARGET_TARGET.nth g) == (s.grpCount g + 1) % 2 ^ 32)

/-- Does the submission in hand hold group g's arms until its apply boundary (R44)? -/
def State.heldByPlan (s : State) (g : Nat) : Bool :=
  s.tide.staged.any (fun p => p.group == g) || s.tide.checking.any (fun d => fieldLE d 0x18 1 == g)

/-- Arm a group (R42, R44). -/
def State.armGroup (s : State) (g : Nat) : State :=
  let armed := { s with commit := { s.commit with swArm := g :: s.commit.swArm.filter (· != g) } }
  if !s.planLive then armed.judgeArm g
  else if s.grpFamily g < 4 ∧ !s.famActive (s.grpFamily g) then s.putGrp Tidemark.GRP_STAT_NOFAMILY g 1
  else
    let d := signedDiff (s.get grpPage (Tidemark.GRP_TARGET_TARGET.nth g)) (s.grpCount g)
    if s.grpFlag Tidemark.GRP_CTRL_AT_TIDE g && (decide (d ≤ 0) || (d == 1 && s.grpPast g)) then
      s.putGrp Tidemark.GRP_STAT_LATE g 1
    else armed.judgeArm g

/-- A write of GRP_CTRL of group g (R41). AT_TIDE and FAMILY are applied before the arm. -/
def State.writeGroup (s : State) (g w : Nat) : State :=
  let busy := s.grpFlag Tidemark.GRP_STAT_PENDING g || s.grpFlag Tidemark.GRP_STAT_CAPTURED g
  let s := s.put grpPage (Tidemark.GRP_CTRL_AT_TIDE.nth g) (bitsOf w 29 29)
  let s := if busy || decide (4 < bitsOf w 2 0) then s else s.put grpPage (Tidemark.GRP_CTRL_FAMILY.nth g) (bitsOf w 2 0)
  match w.testBit 31, w.testBit 30 with
  | true, false => s.armGroup g
  | false, true => s.dropArm g
  | _, _ => s

/-- A write of COMMIT of a page (R39, R40). -/
def State.writeCommit (s : State) (pg w : Nat) : State :=
  let busy := s.flag pg Hdr.COMMIT_PENDING || s.flag pg Hdr.COMMIT_CAPTURED
  let s := if busy then s else s.put pg Hdr.COMMIT_GROUP (bitsOf w 5 0)
  let s := if w.testBit 27 then s.put pg Hdr.COMMIT_DONE 0 else s
  match w.testBit 31, w.testBit 30 with
  | true, false => s.put pg Hdr.COMMIT_PENDING 1
  | false, true => s.put pg Hdr.COMMIT_PENDING 0
  | _, _ => s

/-- COMMIT_ARM: a write of COMMIT with ARM = 1 on page pg (R39). The other bits of the write are those of w. -/
def execCommitArm (req : Requester) (pg : Fin 0x1400) (w : Word) (s : State) : Result :=
  .next <| s.onWrite req (regOff pg Hdr.COMMIT_ARM) fun s => s.writeCommit pg (w.toNat ||| 2 ^ 31)

/-- COMMIT_DISARM: a write of COMMIT with DISARM = 1 on page pg (R39, R40). -/
def execCommitDisarm (req : Requester) (pg : Fin 0x1400) (w : Word) (s : State) : Result :=
  .next <| s.onWrite req (regOff pg Hdr.COMMIT_DISARM) fun s => s.writeCommit pg (w.toNat ||| 2 ^ 30)

/-- GROUP_ARM: a write of GRP_CTRL with ARM = 1 (R41, R42). -/
def execGroupArm (req : Requester) (g : Fin 64) (w : Word) (s : State) : Result :=
  .next <| s.onWrite req (regOff grpPage (Tidemark.GRP_CTRL_ARM.nth g)) fun s => s.writeGroup g (w.toNat ||| 2 ^ 31)

/-- GROUP_DISARM: a write of GRP_CTRL with DISARM = 1 (R41). -/
def execGroupDisarm (req : Requester) (g : Fin 64) (w : Word) (s : State) : Result :=
  .next <| s.onWrite req (regOff grpPage (Tidemark.GRP_CTRL_DISARM.nth g)) fun s => s.writeGroup g (w.toNat ||| 2 ^ 30)

/-- NOPLAN_COMMIT_APPLY: with no plan live an armed group captures and swaps (R44); its tides read 0. -/
def execNoplanCommitApply (g : Fin 64) (s : State) : Result :=
  .next <| if s.planLive || s.heldByPlan g || !s.commit.swArm.contains g.val then s
    else (s.captureGroup g).swapGroup g 0

end Sys2Proof.Machine
end

