-- ==== Sys2Proof/Machine/Harbour.lean ====
section
/-!
DEFINITION. Sys2Proof/Machine/Harbour.lean: local memory, the job table, tenant budgets and buffer address translation
(R284 to R314). A request made by a unit waits in `asks`, enters by MEM_REQUEST, is served by SCHED_DECISION, ends by
MEM_REQUEST_DONE, and its end waits in `results` for the unit's own command.
-/
namespace Sys2Proof.Machine

/-- Page p of the Harbour of half h. -/
def hbPage (h p : Nat) : Nat := Block.page .harbour h p

/-- The data capacity of half h, bytes (R285). -/
def State.memCapacity (s : State) (h : Nat) : Nat := s.get (hbPage h 0) Harbour.HB_CAP_DATA_MIB * 2 ^ 20

/-- The channel of a local address, within its half (R285). -/
def memChannel (pa : Nat) : Nat := (bitsOf pa 9 8 ^^^ bitsOf pa 18 17) ^^^ bitsOf pa 27 26

/-- The address within a channel (R285). -/
def memChannelAddr (pa : Nat) : Nat := bitsOf pa 34 10 * 256 + bitsOf pa 7 0

/-! ## Channels, fill, scrub (R284 to R290) -/

/-- The mapped channel capacity, GiB (R284): the smallest of the four, at most 8. -/
def State.mappedGib (s : State) (h : Nat) : Nat :=
  ([1, 2, 3, 4].map fun p => s.get (hbPage h p) Harbour.CH_STAT_DEV_GIB).foldl min 8

/-- HB_CAP as it now is (R284, R285). -/
def State.mapCapacity (s : State) (h : Nat) : State :=
  let up := s.harbourTrained h
  let gib := if up then s.mappedGib h else 0
  let mib := 4 * gib * 1024
  let s := s.put (hbPage h 0) Harbour.HB_CAP_CH_GIB gib
  s.put (hbPage h 0) Harbour.HB_CAP_DATA_MIB (if s.flag (hbPage h 0) Harbour.HB_STAT_ECC_ON then mib * 7 / 8 else mib)

/-- A half is OFF while its Harbour is off, and leaves OFF when it is READY (R453); an acting or a failed half stays what it is. -/
def State.judgeOff (s : State) (h : Nat) : State :=
  let st := s.halfState h
  let f := if h = 0 then Seawall.SW_STAT_STATE_H0 else Seawall.SW_STAT_STATE_H1
  if (st == 2 || st == 3) && !s.powered (52 + h) then s.put 0x40 f 0
  else if st == 0 && s.ready ⟨.harbour, h, 0⟩ then s.put 0x40 f 2
  else s

/-- CH_TRAIN as it now is (R284, R314): a channel that is on has failed its training or lost it, until every channel that is on is trained.
DEDUCED: the training at power-on that still runs is no failure, and a channel that is off has no training to fail. -/
def State.judgeTrain (s : State) (h : Nat) : State :=
  let open_ := [0, 1, 2, 3].any fun c => s.powered (44 + 4 * h + c) && !s.flag (hbPage h (1 + c)) Harbour.CH_STAT_TRAINED
  s.cond (hbPage h 0) 0 (open_ && ((s.harb h).badChannels != 0 || s.condBit (hbPage h 0) 0))

/-- Channel c of half h loses its training: its PLL or its domain is off (R284, R564). -/
def State.untrain (s : State) (h c : Nat) : State :=
  let p := hbPage h (1 + c)
  let x := s.harb h
  let bad := x.badChannels
  let bad := if !s.powered (44 + 4 * h + c) then clearBit bad c else if s.flag p Harbour.CH_STAT_TRAINED then setBit bad c else bad
  let s := (s.putHarb h { x with badChannels := bad }).put p Harbour.CH_STAT_TRAINED 0
  let s := s.put (hbPage h 0) Harbour.HB_STAT_CH_UP (clearBit (s.get (hbPage h 0) Harbour.HB_STAT_CH_UP) c)
  (s.mapCapacity h).judgeTrain h

/-- CHANNEL_TRAINED: training of channel c of half h ends with devices of `gib` GiB; another value than 1, 2, 4, 8 or 16
stands for a channel that fails training or has no device (R284). -/
def execChannelTrained (h : Fin 2) (c : Fin 4) (gib : Fin 256) (s : State) : Result :=
  .next <|
    let p := hbPage h (1 + c)
    let x := s.harb h
    if [1, 2, 4, 8, 16].contains gib.val then
      let s := (s.put p Harbour.CH_STAT_DEV_GIB gib).put p Harbour.CH_STAT_TRAINED 1
      let s := s.put p Harbour.CH_STAT_SR 0
      let s := s.put (hbPage h 0) Harbour.HB_STAT_CH_UP (setBit (s.get (hbPage h 0) Harbour.HB_STAT_CH_UP) c)
      let link := if s.flag (hbPage h 0) Harbour.HB_CFG_LINK_ECC then setBit x.linkEcc c else clearBit x.linkEcc c
      let s := s.putHarb h { x with badChannels := clearBit x.badChannels c, linkEcc := link }
      let s := s.judgeTrain h
      let s := s.eventIf (gib.val == 16) (hbPage h 0) 1
      let gibs := [1, 2, 3, 4].map fun q => s.get (hbPage h q) Harbour.CH_STAT_DEV_GIB
      let s := s.eventIf (s.harbourTrained h && gibs.any (· != gib.val)) (hbPage h 0) 2
      (s.mapCapacity h).judgeOff h
    else
      let s := s.untrain h c
      (s.putHarb h { s.harb h with badChannels := setBit (s.harb h).badChannels c }).judgeTrain h

/-- The fill front of half h, bytes (R286): every address below it has been written. -/
def State.fillFront (s : State) (h : Nat) : Nat :=
  let l := (s.harb h).fill
  1024 * (l.foldl min (l.getD 0 0) / 20)

/-- Can an access that ends at an address proceed (R286): is it below the fill front? -/
def State.belowFront (s : State) (h end_ : Nat) : Bool := !(s.harb h).filling || decide (end_ ≤ s.fillFront h)

/-- The fill is over (R286). -/
def State.fillDone (s : State) (h : Nat) : State :=
  let s := s.putHarb h { s.harb h with filling := false }
  let s := s.put (hbPage h 0) Harbour.HB_INIT_FRONT (s.memCapacity h / 0x10000)
  let s := s.put (hbPage h 0) Harbour.HB_INIT_GO 0
  (s.put (hbPage h 0) Harbour.HB_STAT_INIT_DONE 1).event (hbPage h 0) 0

/-- The fill of half h writes n fifths of a line of each channel that `p` names (R286). -/
def State.fillBy (s : State) (h n : Nat) (p : Nat → Bool) : State :=
  if !(s.harb h).filling || !s.harbourTrained h then s
  else
    let s := s.putHarb h { s.harb h with fill := (s.harb h).fill.mapIdx fun c k => if p c then k + n else k }
    if s.memCapacity h ≤ s.fillFront h then s.fillDone h else s.put (hbPage h 0) Harbour.HB_INIT_FRONT (s.fillFront h / 0x10000)

/-- One cycle of a fill with no plan live: 153.6 bytes of the half, 3/5 of a line of each channel (R286). -/
def State.fillTick (s : State) (h : Nat) : State := if s.planLive then s else s.fillBy h 3 fun _ => true

/-- ECC_FILL_START: a write of HB_INIT.GO (R286). ECC_EN takes effect; without inline ECC the fill completes at once. Its zeros are in memory from
here on, where no access finds them before the front has passed. -/
def execEccFillStart (req : Requester) (h : Fin 2) (s : State) : Result :=
  .next <| s.onWrite req (regOff (hbPage h 0) Harbour.HB_INIT_GO) fun s =>
    let on := s.flag (hbPage h 0) Harbour.HB_CFG_ECC_EN
    let s := s.put (hbPage h 0) Harbour.HB_STAT_ECC_ON (bit on)
    let x := s.harb h
    let s := (s.putHarb h { x with goWritten := true, filling := on, fill := [0, 0, 0, 0], mem := if on then [] else x.mem }).mapCapacity h
    if on then
      let s := (s.put (hbPage h 0) Harbour.HB_INIT_GO 1).put (hbPage h 0) Harbour.HB_INIT_FRONT 0
      s.put (hbPage h 0) Harbour.HB_STAT_INIT_DONE 0
    else s.fillDone h

/-- ECC_FILL_DONE: the fill front of half h reaches the data capacity (R286). -/
def execEccFillDone (h : Fin 2) (s : State) : Result :=
  .next <| if (s.harb h).filling && s.harbourTrained h then s.fillDone h else s

/-- REFRESH_RATE_POLL: every 16 ms each device's refresh-rate requirement (0, 1 or 2 for ×1, ×2, ×4) and its count of
write-link corrections are read (R287, R290). -/
def execRefreshRatePoll (h : Fin 2) (c : Fin 4) (mult : Fin 3) (wrCorr : Fin 65536) (s : State) : Result :=
  .next <| (s.put (hbPage h (1 + c)) Harbour.CH_STAT_REF_MULT mult).put (hbPage h (1 + c)) Harbour.CH_LINK_WR_CORR
    (if hasBit (s.harb h).linkEcc c then wrCorr.val else 0)

/-- A correction on channel c (R288): counted; more than 64 within 1 s raise ECC_CORR_BURST. -/
def State.eccCorrected (s : State) (h c : Nat) : State :=
  let x := s.harb h
  let old : List Nat := SMap.get (fun _ => []) x.corrections c
  let recent := (s.time.c :: old.filter (fun t => decide (s.time.c - t < 10 ^ 9))).take 65
  let s := s.putHarb h { x with corrections := SMap.set (fun _ => []) x.corrections c recent }
  let s := (s.countSat (hbPage h (1 + c)) Harbour.CH_ECC_CORR_COUNT).event (hbPage h (1 + c)) 0
  s.cond (hbPage h (1 + c)) 0 (decide (64 < recent.length))

/-- ECC_CORR_BURST of half h as it now is (R314). -/
def State.judgeCorrections (s : State) (h : Nat) : State :=
  (s.harb h).corrections.foldl (fun s e =>
    s.cond (hbPage h (1 + e.1)) 0 (decide (64 < (e.2.filter (fun t => decide (s.time.c - t < 10 ^ 9))).length))) s

/-- An uncorrectable read at pa (R288). -/
def State.eccUncorrectable (s : State) (h pa : Nat) : State :=
  let p := hbPage h (1 + memChannel pa)
  let s := s.countSat p Harbour.CH_ECC_UNCORR_COUNT
  let s := (s.put p Harbour.CH_ERR_ADDR_LO_PA pa).put p Harbour.CH_ERR_ADDR_HI_PA (pa / 2 ^ 32)
  (s.event p 1).occur p 1

/-- Apply an inline-ECC result to a read at pa. -/
def State.eccApply (s : State) (h pa : Nat) : EccResult → State
  | .clean => s
  | .corrected => s.eccCorrected h (memChannel pa)
  | .uncorrectable => s.eccUncorrectable h pa

/-- How a request ended, for its unit. -/
def MemReq.result (r : MemReq) (cause : Nat) (bytes : List Byte) : MemResult :=
  { requester := r.requester, source := r.source, tag := r.tag, cause := cause, ba := r.ba, size := r.size, bytes := bytes }

/-! ## The job table (R295 to R302) -/

/-- The half of a job entry. -/
def entryHalf (e : Nat) : Nat := e / 65536

/-- A job entry. -/
def State.job (s : State) (e : Nat) : JobEntry := SMap.get (fun _ => {}) (s.harb (entryHalf e)).jobs e

/-- Entries of a half that are not FREE. -/
def HarbourSt.used (x : HarbourSt) : Nat := (x.jobs.filter (fun e => e.2.state != 0)).length

/-- Store a job entry; JOB_USED and the tide's peak follow (R312). -/
def State.putJob (s : State) (e : Nat) (j : JobEntry) : State :=
  let h := entryHalf e
  let x := s.harb h
  let x := { x with jobs := SMap.set (fun _ => {}) x.jobs e j }
  (s.putHarb h { x with tidePeak := max x.tidePeak x.used }).put (hbPage h 6) Harbour.JOB_USED_ENTRIES x.used

/-- A job entry enters a state (R296). -/
def State.jobState (s : State) (e st : Nat) : State := s.putJob e { s.job e with state := st, since := s.shortStamp }

/-- Can an entry be allocated (R301)? -/
def JobEntry.allocatable (j : JobEntry) : Bool := j.state == 0 && !(j.late && j.gen == j.lateGen)

/-- An entry returns to FREE (R301): GEN moves on, and requests still in flight become late. -/
def State.freeJob (s : State) (e : Nat) : State :=
  let j := s.job e
  if j.state = 0 then s
  else
    let left := decide (0 < j.flying)
    s.putJob e { j with state := 0, since := s.shortStamp, gen := (j.gen + 1) % 8, late := j.late || left,
                        lateGen := if left && !j.late then j.gen else j.lateGen,
                        flying := 0, lateFlying := j.lateFlying + j.flying }

/-- The words of an entry, as the job-table window shows them (R295). -/
def JobEntry.words (j : JobEntry) : List Nat :=
  [j.gen * 2 ^ 29 + j.state * 2 ^ 26 + j.kind * 2 ^ 24 + j.cls * 2 ^ 22 + j.exposure * 2 ^ 20 + j.cove * 2 ^ 16 +
     j.context * 2 ^ 13 + j.lateGen * 2 ^ 10 + j.stream,
   j.row * 2 ^ 16 + bit j.late * 2 ^ 14 + j.col0, j.seq % 65536 * 2 ^ 16 + j.size, j.since]

/-- The tag of an entry's requests (R301). -/
def jobTag (e gen : Nat) : Nat := gen * 131072 + e

/-- The lowest-numbered allocatable entry of half h's bulk pool, then of the unreserved entries (R298). -/
def State.bulkEntry (s : State) (h : Nat) : Option Nat :=
  let p := hbPage h 6
  let first := if s.planLive then s.live p Harbour.JOB_RESV_ENTRIES else 0
  ((List.range (65536 - first)).find? (fun i => (s.job (65536 * h + first + i)).allocatable)).map (65536 * h + first + ·)

/-- A memory operation of a Cove that reads a table (R298). -/
def CoveOp.isTable (o : CoveOp) : Bool := match o.work with
  | .table _ => true
  | _ => false

/-- Does a Cove of half h wait for a job entry: for a table read, or for any operation (R298)? -/
def State.coveWaits (s : State) (h : Nat) (tables : Bool) : Bool :=
  s.coves.any fun e => e.1 / 8 == h && e.2.ops.any fun o => o.waited && o.entry.isNone && (!tables || o.isTable)

/-- Can a Drift operation of half h take an entry now (R298)? -/
def State.driftEntry (s : State) (h : Nat) : Bool := !s.coveWaits h false && (s.bulkEntry h).isSome

/-- Does a non-slice request of half h wait for an entry (R298)? -/
def State.bulkWaits (s : State) (h : Nat) : Bool := s.coveWaits h false || s.channels.any fun e => e.1 / 512 == h && e.2.entryWait

/-- BULK_STARVED goes once no request waits for an entry (R314). -/
def State.judgeStarved (s : State) (h : Nat) : State := if s.bulkWaits h then s else s.lower (hbPage h 6) 1

/-- A request finds no entry (R298): it waits, and is counted. -/
def State.countBulkWait (s : State) (h : Nat) : State :=
  (s.countSat (hbPage h 6) Harbour.BULK_WAIT_COUNT).event (hbPage h 6) 1

/-- Allocate a bulk entry for an operation of KIND 1 or 2 (R296, R298): none where there is none. -/
def State.allocBulk (s : State) (h : Nat) (j : JobEntry) : Option (Nat × State) :=
  (s.bulkEntry h).map fun e =>
    let old := s.job e
    (e, s.putJob e { j with gen := old.gen, late := old.late, lateGen := old.lateGen, lateFlying := old.lateFlying,
                            state := 6, since := s.shortStamp, flying := 0 })

/-- An entry of a stream's run that a part can take (R297, R298): neither part of a split stream holds more than half. -/
def State.runEntry (s : State) (h stream cove : Nat) (split : Bool) : Option Nat :=
  let p := hbPage h 6
  let first := s.live p (Harbour.JOB_RES_FIRST_ENTRY.nth stream)
  let count := s.live p (Harbour.JOB_RES_COUNT_COUNT.nth stream)
  let mine := ((s.harb h).jobs.filter (fun e => e.2.state != 0 && e.2.kind == 0 && e.2.stream == stream && e.2.cove == cove)).length
  if split && decide (count / 2 ≤ mine) then none
  else ((List.range count).find? (fun i => (s.job (first + i)).allocatable)).map (first + ·)

/-- Allocate slice job `j` in the run of its stream, none where the part holds no unused entry (R298). -/
def State.allocSlice (s : State) (h : Nat) (split : Bool) (j : JobEntry) : Option State :=
  (s.runEntry h j.stream j.cove split).map fun e =>
    let old := s.job e
    s.putJob e { j with gen := old.gen, late := old.late, lateGen := old.lateGen, lateFlying := old.lateFlying,
                        since := s.shortStamp, flying := 0 }

/-- A job fails (R302): its slice is to be processed as zeros; its entry goes to FREE. -/
def State.failJob (s : State) (e : Nat) : State :=
  let j := s.job e
  let h := entryHalf e
  let s := if j.kind = 0 then
      s.putHarb h { s.harb h with failedSlices := (s.harb h).failedSlices ++ [[j.stream, j.seq, j.row, j.exposure, j.col0, j.cove]] }
    else s
  s.freeJob e

/-- Does a slice job come before another of its context (R298)? By frame, then row, strip, exposure. -/
def JobEntry.before (j k : JobEntry) : Bool :=
  let order := fun (i : JobEntry) => (i.row * 2 ^ 14 + i.col0) * 4 + i.exposure
  let d := toSigned 16 (k.seq + 65536 - j.seq % 65536)
  decide (0 < d) || (d == 0 && decide (order j < order k))

/-- The slice jobs of a context that wait, with their entries. -/
def State.waitingJobs (s : State) (h cove context : Nat) : List (Nat × JobEntry) :=
  (s.harb h).jobs.filter (fun e => e.2.kind == 0 && e.2.cove == cove && e.2.context == context &&
    (e.2.state == 1 || e.2.state == 2))

/-- Jobs of a context in ISSUED or LOADED (R298). -/
def State.busyJobs (s : State) (h cove context : Nat) : Nat :=
  ((s.harb h).jobs.filter (fun e => e.2.kind == 0 && e.2.cove == cove && e.2.context == context &&
    (e.2.state == 3 || e.2.state == 4))).length

/-- The next job of a context in the order of R298. -/
def State.nextJob (s : State) (h cove context : Nat) : Option (Nat × JobEntry) :=
  (s.waitingJobs h cove context).foldl (fun best e => match best with
    | none => some e
    | some b => if e.2.before b.2 then some e else some b) none

/-- A request of entry e is in flight (R301). -/
def State.flyEntry (s : State) (e : Nat) : State := s.putJob e { s.job e with flying := (s.job e).flying + 1 }

/-- A request of a unit waits to enter the Harbour of half h (R291); a job entry's request is in flight from here on. -/
def State.ask (s : State) (h : Nat) (r : MemReq) : State :=
  let s := s.putHarb h { s.harb h with asks := (s.harb h).asks ++ [r] }
  match r.entry with
  | none => s
  | some (e, _) => s.flyEntry e

/-- A request of an entry and generation is no longer in flight (R296, R301): true where it is late. An entry of KIND 1 or 2 whose last request has
returned is FREE. -/
def State.entryBack (s : State) (e gen : Nat) : Bool × State :=
  let j := s.job e
  if j.gen = gen ∧ j.state ≠ 0 then
    let s := s.putJob e { j with flying := j.flying - 1 }
    (false, if j.kind ≠ 0 ∧ j.flying ≤ 1 then s.freeJob e else s)
  else
    let left := j.lateFlying - 1
    (true, s.putJob e { j with lateFlying := left, late := decide (0 < left) && j.late })

/-- A late completion is discarded (R301). -/
def State.countStale (s : State) (h : Nat) : State := (s.countSat (hbPage h 6) Harbour.JOB_STALE_COUNT).event (hbPage h 6) 0

/-- An entry whose request has not come back goes to FREE (R302). -/
def State.freeHeld (s : State) : Option (Nat × Nat) → State
  | none => s
  | some (e, gen) => if (s.job e).gen = gen ∧ (s.job e).state ≠ 0 then s.freeJob e else s

/-- What the Drift finds of the reads of host memory of half h that `p` names, once for each burst (R302, R334). -/
def State.hostEnds (s : State) (p : NpReq → Bool) (cause : Nat) : List MemResult :=
  ((s.pcie.flatMap fun e => e.2.np.filter p).map fun q =>
    { requester := 2, source := q.channel, tag := q.burst, cause := cause, ba := 0, size := 0, bytes := [] : MemResult }).eraseDups

/-- Entry e has stayed in ISSUED or ACTIVE for TO_US (R302): it fails. -/
def State.jobTimeout (s : State) (e : Nat) : State :=
  let j := s.job e
  let h := entryHalf e
  if j.state = 3 ∨ j.state = 6 then
      let s := (s.countSat (hbPage h 6) Harbour.JOB_TIMEOUTS_COUNT).report (hbPage h 6) 0
      let mine := fun r : MemReq => r.entry == some (e, j.gen)
      let ends := if j.kind = 0 then [] else (((s.harb h).asks ++ (s.harb h).reqs).filter mine).map fun r => r.result 0x11 []
      let ends := ends ++ s.hostEnds (fun q => q.entry == some (e, j.gen)) 0x11
      let s := s.putHarb h { s.harb h with tideTimeout := true, results := (s.harb h).results ++ ends }
      s.failJob e
    else s

/-- BULK_STARVED: a non-slice request of half h has waited 1 ms for an entry (R298). -/
def execBulkStarved (h : Fin 2) (s : State) : Result :=
  .next <| if s.bulkWaits h then s.report (hbPage h 6) 1 else s

/-! ## Credits (R292, R293) -/

/-- The credit counter of class k (R292). -/
def State.credit (s : State) (h k : Nat) : Int := toSigned 32 (s.get (hbPage h 5) (Harbour.CLS_CREDIT_BYTES.nth k))

/-- Store a credit counter. -/
def State.putCredit (s : State) (h k : Nat) (v : Int) : State :=
  s.put (hbPage h 5) (Harbour.CLS_CREDIT_BYTES.nth k) (ofSigned 32 v)

/-- The budget of class k in force, bytes per µs (R292). -/
def State.classBudget (s : State) (h k : Nat) : Nat := s.live (hbPage h 5) (Harbour.CLS_BUDGET_MBPS.nth k)

/-- CREDIT_REFILL: each class of half h gains BUDGET bytes, up to 64 × BUDGET (R292). -/
def execCreditRefill (h : Fin 2) (s : State) : Result :=
  .next <| if s.planLive then
      [0, 1, 2, 3].foldl (fun s k =>
        let b : Int := s.classBudget h k
        s.putCredit h k (min (s.credit h k + b) (64 * b))) s
    else s

/-- Every counter takes the lesser of its value and the new cap (R292), at a plan swap. -/
def State.capCredits (s : State) (h : Nat) : State :=
  [0, 1, 2, 3].foldl (fun s k => s.putCredit h k (min (s.credit h k) (64 * (s.classBudget h k : Int)))) s

/-- CLASS_OVER_CHECK: the 1 ms check sets CLASS_OVER for a negative counter of a class that has a budget (R293). -/
def execClassOverCheck (h : Fin 2) (s : State) : Result :=
  .next <| s.eventIf (s.planLive && [0, 1, 2, 3].any (fun k => s.classBudget h k != 0 && decide (s.credit h k < 0))) (hbPage h 5) 0

/-- Is a request of class k and a size within credit (R292, R293)? With no plan live every one is. -/
def State.withinCredit (s : State) (h k size : Nat) : Bool :=
  !s.planLive || k == 4 || (s.classBudget h k != 0 && decide ((size : Int) ≤ s.credit h k))

/-- Can a request of class k be served as surplus (R293)? -/
def State.surplusOk (s : State) (h k size : Nat) : Bool :=
  s.liveFlag (hbPage h 5) (Harbour.CLS_CFG_SURPLUS.nth k) &&
    (s.classBudget h k == 0 || decide (-4096 ≤ s.credit h k - size))

/-- Raise element k of a list by n. -/
def bumpAt (l : List Nat) (k n : Nat) : List Nat := l.modify k (· + n)

/-- Charge n bytes of class k at level v (R292, R293). -/
def State.charge (s : State) (h k n v : Nat) : State :=
  if k = 4 then s
  else
    let x := s.harb h
    let s := s.putHarb h { x with tideBytes := bumpAt x.tideBytes k n
                                  tideSurplus := if v = 5 then bumpAt x.tideSurplus k n else x.tideSurplus }
    if !s.planLive || s.classBudget h k == 0 then s else s.putCredit h k (s.credit h k - n)

/-! ## The scheduler (R293) -/

/-- What each channel has to serve of the bytes [pa, pa + n). -/
def piecesOf (pa n : Nat) : List (Nat × Nat) :=
  let units := List.range ((pa + n + 255) / 256 - pa / 256)
  let bytes := fun i => min (pa + n) ((pa / 256 + i + 1) * 256) - max pa ((pa / 256 + i) * 256)
  ([0, 1, 2, 3].map fun c =>
    (c, ((units.filter (fun i => memChannel ((pa / 256 + i) * 256) == c)).map bytes).sum)).filter (fun e => e.2 != 0)

/-- The level of R293 at which channel c can serve a request now, if it can. -/
def State.reqLevel (s : State) (h c : Nat) (r : MemReq) : Option Nat :=
  if !r.pieces.any (fun e => e.1 == c) then none
  else if !s.belowFront h (r.pa + r.size) then none
  else if r.level.isSome then r.level
  else if !s.planLive then some 3
  else if r.cls = 4 then some 3
  else if s.withinCredit h r.cls r.size then some (if r.cls = 0 then 2 else 3)
  else if s.surplusOk h r.cls r.size then some 5
  else none

/-- The rank of a request at a level: in class order at levels 3 and 5 while a plan is live, else by age alone. -/
def State.reqRank (s : State) (r : MemReq) (v : Nat) : Nat := v * 8 + (if s.planLive ∧ v ≠ 2 then r.cls else 0)

/-- The request that channel c serves next, with its level. -/
def State.nextReq (s : State) (h c : Nat) : Option (MemReq × Nat) :=
  (s.harb h).reqs.foldl (fun best r => match s.reqLevel h c r with
    | none => best
    | some v => match best with
      | none => some (r, v)
      | some (b, w) => if s.reqRank r v < s.reqRank b w then some (r, v) else some (b, w)) none

/-- Requests that wait for credit are counted once (R293). -/
def State.countDeferred (s : State) (h : Nat) : State :=
  let waits := fun r : MemReq => s.planLive && !r.deferred && r.level.isNone && decide (r.cls < 4) &&
    !s.withinCredit h r.cls r.size && !s.surplusOk h r.cls r.size
  let x := s.harb h
  let s := (x.reqs.filter waits).foldl (fun s r => s.countSat (hbPage h 5) (Harbour.CLS_DEFER_COUNT.nth r.cls)) s
  s.putHarb h { x with reqs := x.reqs.map fun r => if waits r then { r with deferred := true } else r }

/-- Has channel c a request of levels 2 and 3 to serve (R293), or of level 5 too? -/
def State.requestWaits (s : State) (h c : Nat) (surplus : Bool) : Bool := (s.nextReq h c).any fun e => surplus || decide (e.2 ≤ 3)

/-- SCHED_DECISION: channel c of half h serves the first non-empty level of R293. `refresh` says that a refresh can no longer be postponed, `pull`
that an all-bank refresh can be pulled in: where that is the first level, a REFRESH serves it. At level 6 the fill writes a line. -/
def execSchedDecision (h : Fin 2) (c : Fin 4) (k : Bool × Bool) (s : State) : Result :=
  let (refresh, pull) := k
  .next <|
    if refresh then s
    else
      let s := s.countDeferred h
      match s.nextReq h c with
      | none => if pull then s else s.fillBy h 5 (· == c.val)
      | some (r, v) =>
        if v = 5 ∧ pull then s
        else
          let s := if r.level.isNone then s.charge h r.cls r.size v else s
          let x := s.harb h
          s.putHarb h { x with reqs := x.reqs.map fun q =>
            if q.id = r.id then { q with level := some v, pieces := q.pieces.filter (fun e => e.1 != c.val) } else q }

/-- REFRESH: a refresh of channel c (R290, R293): with a plan live, all-bank in the slack window of the lowest active family, where it is counted:
one that is `due` before everything else, one pulled in once no request of levels 2 and 3 waits; per-bank outside it; at its regular
interval with no plan live. -/
def execRefresh (h : Fin 2) (x : Fin 4 × Bool) (s : State) : Result :=
  let (c, due) := x
  .next <| if s.lowestFamily.any s.inSlack && (due || !s.requestWaits h c false) then
      s.putHarb h { s.harb h with slackRefreshes := (s.harb h).slackRefreshes + 1 }
    else s

/-- PATROL_SCRUB: scrub reads the next line of each channel of half h (R289), with what each channel's check found: at level 6 of R293, so no
request waits. -/
def execPatrolScrub (h : Fin 2) (r0 r1 r2 r3 : EccResult) (s : State) : Result :=
  .next <|
    if s.get (hbPage h 0) Harbour.HB_CFG_SCRUB_NS = 0 ∨ s.memCapacity h = 0 ∨ [0, 1, 2, 3].any (fun c => s.requestWaits h c true) then s
    else
      let line := (s.harb h).scrubLine
      let addr := fun c => (List.range 4).find? (fun k => memChannel (line / 4 * 1024 + k * 256) == c)
      let pa := fun c => line / 4 * 1024 + (addr c).getD 0 * 256 + line % 4 * 64
      let s := (((s.eccApply h (pa 0) r0).eccApply h (pa 1) r1).eccApply h (pa 2) r2).eccApply h (pa 3) r3
      let last := decide (s.memCapacity h / 256 ≤ line + 1)
      let s := s.putHarb h { s.harb h with scrubLine := if last then 0 else line + 1 }
      if last then s.countWrap (hbPage h 0) Harbour.HB_SCRUB_PASSES else s

/-! ## Translation (R303 to R306) -/

/-- A table entry of half h at a local address. -/
def State.tableEntry (s : State) (h pa : Nat) : Nat := ofBytesLE (s.memRead h pa 8)

/-- The place in its table of the entry that a walk of `ba` reads at a level (R304). -/
def walkIndex (ba : Nat) : Nat → Nat
  | 1 => bitsOf ba 51 37
  | 2 => bitsOf ba 36 21
  | _ => bitsOf ba 20 16

/-- What an entry gives a walk at a level (R304, R305): a cause, the address of the next table, or none where it is a leaf. -/
def walkStep (cap level e : Nat) : Except Nat (Option Nat) :=
  let next := e / 256 * 256
  if !e.testBit 0 then .error 0x2
  else if e.testBit 1 then
    if level = 1 ∨ bitsOf e 15 6 ≠ 0 ∨ bitsOf e 5 4 = 3 ∨ level = 2 ∧ bitsOf e 20 16 ≠ 0 then .error 0x3 else .ok none
  else if level = 3 ∨ bitsOf e 7 2 ≠ 0 ∨ level = 1 ∧ next % 2 ^ 19 ≠ 0 then .error 0x3
  else if cap ≤ next then .error 0x7
  else .ok (some next)

/-- Walk the last `n` levels of the tables of half h from a table on (R304, R305): the addresses read, and the leaf, or the cause and the level.
`bad` is the level whose table read is uncorrectable, 0 for none. -/
def State.walkFrom (s : State) (h ba bad : Nat) : Nat → Nat → List Nat × Except (Nat × Nat) TlbEntry
  | 0, _ => ([], .error (0x3, 3))
  | n + 1, table =>
    let level := 3 - n
    let a := table + 8 * walkIndex ba level
    let e := s.tableEntry h a
    let size := if level = 2 then 2 ^ 21 else 2 ^ 16
    if bad = level then ([a], .error (0x8, level))
    else match walkStep (s.memCapacity h) level e with
      | .error cause => ([a], .error (cause, level))
      | .ok none => ([a], .ok ⟨level == 2, ba / size * size, e⟩)
      | .ok (some next) =>
        let r := s.walkFrom h ba bad n next
        (a :: r.1, r.2)

/-- Walk the tables of half h (R304, R305). -/
def State.walk (s : State) (h ba bad : Nat) : List Nat × Except (Nat × Nat) TlbEntry :=
  let root := s.live (hbPage h 7) Harbour.TR_ROOT_HI_BASE * 2 ^ 32 + s.live (hbPage h 7) Harbour.TR_ROOT_LO_BASE * 2 ^ 18
  if s.memCapacity h ≤ root then ([], .error (0x7, 1)) else s.walkFrom h ba bad 3 root

/-- The cached translation of an address (R306). -/
def State.cached (s : State) (h ba : Nat) : Option TlbEntry :=
  (s.harb h).tlb.find? fun t => decide (t.base ≤ ba) && decide (ba < t.base + (if t.big then 2 ^ 21 else 2 ^ 16))

/-- The table entries that a translation reads (R306): none where it is cached, or needs no walk. -/
def State.walkReads (s : State) (h ba : Nat) : List Nat :=
  if 2 ^ 52 ≤ ba || !s.liveFlag (hbPage h 7) Harbour.TR_ROOT_LO_EN || (s.cached h ba).isSome then [] else (s.walk h ba 0).1

/-- Can the reads of a translation be served for a request of class k (R286, R291 to R293)? -/
def State.walkServed (s : State) (h ba k : Nat) : Bool :=
  let l := s.walkReads h ba
  l.isEmpty || (l.all (fun a => s.belowFront h (a + 8)) && (s.withinCredit h k (8 * l.length) || s.surplusOk h k (8 * l.length)))

/-- What a leaf gives an access (R304, R305): whether it goes to host memory, and the address. -/
def TlbEntry.apply (t : TlbEntry) (cap ba : Nat) (write drift : Bool) : Except (Nat × Nat) (Bool × Nat) :=
  let level := if t.big then 2 else 3
  let addr := t.leaf / 2 ^ 16 * 2 ^ 16 + (if t.big then ba % 2 ^ 21 else ba % 2 ^ 16)
  if (if write then !t.leaf.testBit 2 else !t.leaf.testBit 3) then .error (0x4, level)
  else match bitsOf t.leaf 5 4 with
    | 0 => if cap ≤ addr then .error (0x7, level) else .ok (false, addr)
    | 1 => if drift then .ok (true, addr) else .error (0x6, level)
    | _ => .error (0x5, level)

/-- Translate a buffer address in half h (R303 to R306): the result, and the state with the cache and TR_MISS as they then
are. -/
def State.translate (s : State) (h ba : Nat) (write drift : Bool) (bad : Nat) : Except (Nat × Nat) (Bool × Nat) × State :=
  let p := hbPage h 7
  let cap := s.memCapacity h
  if 2 ^ 52 ≤ ba then (.error (0x1, 0), s)
  else if !s.liveFlag p Harbour.TR_ROOT_LO_EN then ((if cap ≤ ba then .error (0x7, 0) else .ok (false, ba)), s)
  else
    match s.cached h ba with
    | some t => (t.apply cap ba write drift, s.putHarb h { s.harb h with tlb := t :: (s.harb h).tlb.erase t })
    | none =>
      let s := s.countWrap p Harbour.TR_MISS_COUNT
      match (s.walk h ba bad).2 with
      | .error e => (.error e, s)
      | .ok t => (t.apply cap ba write drift, s.putHarb h { s.harb h with tlb := (t :: (s.harb h).tlb).take 2048 })

/-- Translate an address for a request of class k (R291, R303 to R306): its table reads are charged to the class, and `ecc` is what the check found in
each of them (R288). -/
def State.translateFor (s : State) (h k ba : Nat) (write drift : Bool) (ecc : List EccResult) : Except (Nat × Nat) (Bool × Nat) × State :=
  let all := s.walkReads h ba
  let ecc := if s.flag (hbPage h 0) Harbour.HB_STAT_ECC_ON then ecc.take all.length else []
  let bad := match ecc.findIdx? (· == .uncorrectable) with
    | some i => i + 1
    | none => 0
  let reads := if bad = 0 then all else all.take bad
  let n := 8 * reads.length
  let s := if n = 0 then s else s.charge h k n (if s.withinCredit h k n then 3 else 5)
  let (t, s) := s.translate h ba write drift bad
  (t, (reads.zip ecc).foldl (fun s e => s.eccApply h e.1 e.2) s)

/-- Record a translation fault (R305, R313). -/
def State.xlateFault (s : State) (h requester source ba : Nat) (write : Bool) (cause level : Nat) : State :=
  let p := hbPage h 7
  let s :=
    if s.flag p Harbour.TR_FAULT_INFO_VALID then s.put p Harbour.TR_FAULT_INFO_OVERFLOW 1
    else
      let s := (s.put p Harbour.TR_FAULT_INFO_VALID 1).put p Harbour.TR_FAULT_INFO_CAUSE cause
      let s := (s.put p Harbour.TR_FAULT_INFO_LEVEL level).put p Harbour.TR_FAULT_INFO_WRITE (bit write)
      let s := (s.put p Harbour.TR_FAULT_INFO_REQUESTER requester).put p Harbour.TR_FAULT_INFO_SOURCE source
      (s.put p Harbour.TR_FAULT_LO_ADDR ba).put p Harbour.TR_FAULT_HI_ADDR (ba / 2 ^ 32)
  (s.event p 0).raise p 0

/-- Drop the translations that TR_INV names (R306). -/
def State.dropNamed (s : State) (h : Nat) : State :=
  let p := hbPage h 7
  let x := s.harb h
  let block := s.get p Harbour.TR_INV_ADDR_HI_BA * 2 ^ 32 + s.get p Harbour.TR_INV_ADDR_LO_BA * 2 ^ 21
  let all := s.flag p Harbour.TR_INV_ALL
  let host := (s.channels.filter (fun e => e.1 / 512 == h)).flatMap fun e =>
    (e.2.bursts.filter (fun b => b.flying && b.host)).map fun b => (e.1, b.id)
  s.putHarb h { x with tlb := if all then [] else x.tlb.filter (fun t => t.base / 2 ^ 21 * 2 ^ 21 != block)
                       invBefore := x.nextId, invHost := host }

/-- TR_INVALIDATE: a write of TR_INV with GO = 1 (R306). A GO during a running invalidation runs after it. -/
def execTrInvalidate (req : Requester) (h : Fin 2) (all : Bool) (s : State) : Result :=
  .next <| s.onWrite req (regOff (hbPage h 7) Harbour.TR_INV_GO) fun s =>
    let s := s.put (hbPage h 7) Harbour.TR_INV_ALL (bit all)
    if s.flag (hbPage h 7) Harbour.TR_INV_GO then s.putHarb h { s.harb h with invQueued := true }
    else (s.put (hbPage h 7) Harbour.TR_INV_GO 1).dropNamed h

/-- INV_DONE: every access translated before GO has completed (R306). -/
def execInvDone (h : Fin 2) (s : State) : Result :=
  .next <|
    let x := s.harb h
    let hostLeft := x.invHost.any fun (e : Nat × Nat) => s.channels.any fun c => c.1 == e.1 && c.2.bursts.any fun b => b.id == e.2 && b.flying
    if !s.flag (hbPage h 7) Harbour.TR_INV_GO || x.reqs.any (fun r => decide (r.id < x.invBefore)) || hostLeft then s
    else
      let s := s.event (hbPage h 7) 1
      if x.invQueued then (s.putHarb h { s.harb h with invQueued := false }).dropNamed h
      else s.put (hbPage h 7) Harbour.TR_INV_GO 0

/-! ## Requests (R291) -/

/-- The pieces of a range that do not cross a 4 KiB line (R291): offset and size. -/
def blocksOf (ba size : Nat) : List (Nat × Nat) :=
  (List.range ((ba + size + 4095) / 4096 - ba / 4096)).map fun i =>
    let lo := max ba ((ba / 4096 + i) * 4096)
    (lo - ba, min (ba + size) ((ba / 4096 + i + 1) * 4096) - lo)

/-- Bytes that have come in pieces, in order of their offset. -/
def sortedBytes (l : List (Nat × List Byte)) : List Byte :=
  ((l.foldl (fun acc e => acc.takeWhile (fun f => decide (f.1 ≤ e.1)) ++ e :: acc.dropWhile (fun f => decide (f.1 ≤ e.1))) []).map (·.2)).flatten

/-- A request enters half h's scheduler at a local address (R291, R294). -/
def State.enterReq (s : State) (h : Nat) (r : MemReq) (pa : Nat) : State :=
  let x := s.harb h
  let ahead := ((x.reqs.filter (fun q => q.cls == 0)).map (·.size)).sum
  let q := { r with id := x.nextId, pa := pa, pieces := piecesOf pa r.size, entered := s.time.c, ahead := ahead }
  s.putHarb h { x with nextId := x.nextId + 1, reqs := x.reqs ++ [q] }

/-- A request of a unit ends: its result waits for the unit. -/
def State.endRequest (s : State) (h : Nat) (r : MemReq) (cause : Nat) (bytes : List Byte) : State :=
  s.putHarb h { s.harb h with results := (s.harb h).results ++ [r.result cause bytes] }

/-- A request of an entry returns (R301): true where it is late, and then it counts for nothing. -/
def State.requestBack (s : State) (r : MemReq) : Bool × State := match r.entry with
  | none => (false, s)
  | some (e, gen) =>
    let (late, s) := s.entryBack e gen
    (late, if late then s.countStale (entryHalf e) else s)

/-- Take the first result for a requester, a source and a tag. -/
def State.takeResult (s : State) (h requester source tag : Nat) : Option (MemResult × State) :=
  let mine := fun r : MemResult => r.requester == requester && r.source == source && r.tag == tag
  ((s.harb h).results.find? mine).map fun r => (r, s.putHarb h { s.harb h with results := (s.harb h).results.eraseP mine })

/-- A tide of the lowest active family ends in half h (R294, R309, R311, R312). -/
def State.harbourTide (s : State) (h : Nat) : State :=
  let x := s.harb h
  let s := [0, 1, 2, 3].foldl (fun s k =>
    let s := s.put (hbPage h 5) (Harbour.CLS_BYTES_BYTES.nth k) (min (x.tideBytes.getD k 0) (2 ^ 32 - 1))
    let s := s.put (hbPage h 5) (Harbour.CLS_SURPLUS_BYTES.nth k) (min (x.tideSurplus.getD k 0) (2 ^ 32 - 1))
    s.put (hbPage h 5) (Harbour.CLS_LAT_MAX_NS.nth k) (min (x.tideLat.getD k 0) (2 ^ 32 - 1))) s
  let s := s.put (hbPage h 6) Harbour.JOB_PEAK_ENTRIES x.tidePeak
  let s := s.put (hbPage h 0) Harbour.HB_REFRESH_AB_SLACK x.slackRefreshes
  let s := (s.cond (hbPage h 5) 0 x.tideLate).cond (hbPage h 6) 0 x.tideTimeout
  s.putHarb h { s.harb h with
    tideBytes := [0, 0, 0, 0], tideSurplus := [0, 0, 0, 0], tideLat := [0, 0, 0, 0], tidePeak := x.used,
    tideLate := false, tideTimeout := false, slackRefreshes := 0 }

/-- A block reset of the Harbour of half h (R302): every request in flight ends, every entry is FREE with GEN 0. Requests of
KIND 1 and 2, and aperture accesses, reach their units as failures. -/
def State.harbourReset (s : State) (h : Nat) : State :=
  let x := s.harb h
  let kept := fun (q : Nat) => q == 1 || q == 2 || q == 4
  let ends := ((x.asks ++ x.reqs).filter (fun r => kept r.requester)).map fun r => r.result 0x12 []
  let mine := fun q : NpReq => q.entry.isSome && q.channel / 512 == h
  let ends := ends ++ s.hostEnds mine 0x12
  let keep := x.results.filter (fun r => kept r.requester)
  let s := s.putHarb h { ({} : HarbourSt) with mem := x.mem, results := keep ++ ends, nextId := x.nextId, badChannels := x.badChannels
                                               goWritten := x.goWritten, linkEcc := x.linkEcc, scrubLine := x.scrubLine }
  let forget := fun (x : PcieSt) => { x with np := x.np.map fun q => if mine q then { q with entry := none } else q }
  [0, 1].foldl (fun (s : State) n => { s with pcie := SMap.set (fun _ => {}) s.pcie n (forget (SMap.get (fun _ => {}) s.pcie n)) }) s

end Sys2Proof.Machine
end

