-- ==== Sys2Proof/Machine/Pcie.lean ====
section
/-!
DEFINITION. Sys2Proof/Machine/Pcie.lean: the host link (R345 to R371). In x16 mode both controller instances hold one
function: a write reaches the pages of both, and its state behind them is entry 0.
-/
namespace Sys2Proof.Machine

/-- Page p of controller instance n. -/
def pcPage (n p : Nat) : Nat := Block.page .pcie n p

/-- The controller instances that act as one with instance n (R366). -/
def State.pcGroup (s : State) (n : Nat) : List Nat := if s.x16 then [0, 1] else [n]

/-- The entry of the function of instance n. -/
def State.pcFn (s : State) (n : Nat) : Nat := if s.x16 then 0 else n

/-- The function of instance n. -/
def State.pc (s : State) (n : Nat) : PcieSt := SMap.get (fun _ => {}) s.pcie (s.pcFn n)

/-- Store the function of instance n. -/
def State.putPc (s : State) (n : Nat) (x : PcieSt) : State :=
  { s with pcie := SMap.set (fun _ => {}) s.pcie (s.pcFn n) x }

/-- Store a field of page p in every instance of n's group. -/
def State.pcPut (s : State) (n p : Nat) (f : Field) (v : Nat) : State :=
  (s.pcGroup n).foldl (fun s i => s.put (pcPage i p) f v) s

/-- Count in every instance of n's group, saturating. -/
def State.pcCount (s : State) (n : Nat) (f : Field) (k : Nat := 1) : State :=
  (s.pcGroup n).foldl (fun s i => s.countSat (pcPage i 0) f k) s

/-- Event b of page 0 in every instance of n's group. -/
def State.pcEvent (s : State) (n b : Nat) : State := (s.pcGroup n).foldl (fun s i => s.event (pcPage i 0) b) s

/-- The instance in charge of port n (R22, R366). -/
def State.pcCharge (s : State) (n : Nat) : Nat :=
  if s.x16 then (if s.flag (pcPage 1 0) Pcie.PCIE_STAT_IN_CHARGE then 1 else 0) else n

/-- The controller instance of half h's requests. -/
def State.pcOfHalf (s : State) (h : Nat) : Nat := s.pcCharge h

/-- Is a takeover of the x16 link under way (R363): the Seawall has moved control to the half whose controller is not in charge yet? -/
def State.takeoverDue (s : State) : Bool :=
  let c := s.pcCharge 0
  s.x16 && !s.halfFailed (1 - c) && (s.halfFailed c || s.halfState (1 - c) == 1)

/-- Is the port in L0? -/
def State.linkL0 (s : State) (n : Nat) : Bool := s.get (pcPage n 0) Pcie.PCIE_STAT_LTSSM == 4

/-! ## The admissible host rate (R354, R355) -/

/-- Link rate in MT/s of a SPEED code. -/
def linkMts (speed : Nat) : Nat := [0, 2500, 5000, 8000, 16000, 32000].getD speed 0

/-- Max_Payload_Size in bytes of a port. -/
def State.mps (s : State) (n : Nat) : Nat := 128 * 2 ^ s.get (pcPage n 0) Pcie.PCIE_PARAM_MPS

/-- Max_Read_Request_Size in bytes of a port. -/
def State.mrrs (s : State) (n : Nat) : Nat := 128 * 2 ^ s.get (pcPage n 0) Pcie.PCIE_PARAM_MRRS

/-- C of R354 for a port. -/
def State.hostCap (s : State) (n : Nat) : Nat :=
  let p := pcPage n 0
  let speed := s.get p Pcie.PCIE_STAT_SPEED
  if (s.x16 && n == 1) || !s.linkL0 n || s.get p Pcie.PCIE_STAT_D_STATE != 0 || !s.flag p Pcie.PCIE_STAT_BME then 0
  else
    let r := linkMts speed * s.get p Pcie.PCIE_STAT_WIDTH
    let e : Nat × Nat := if 3 ≤ speed then (128, 130) else (8, 10)
    r * e.1 * s.mps n * 15 / (e.2 * 8 * (s.mps n + 24) * 16)

/-- HOST_CAP and the condition LINK_DEGRADED as they now are (R354, R355, R371). -/
def State.judgeLink (s : State) (n : Nat) : State :=
  let port := if s.x16 then 0 else n
  let c := s.hostCap port
  let s := s.pcPut n 0 Pcie.HOST_CAP_MBPS c
  let term := match s.tide.livePlan with
    | none => 0
    | some p => p.outputTerm s.x16 port
  s.cond (pcPage (s.pcCharge n) 0) 1 (decide (c < term))

/-! ## Errors (R358) -/

/-- The condition AER_UNCORR as it now is. -/
def State.judgeAer (s : State) (n : Nat) : State :=
  s.cond (pcPage (s.pcCharge n) 0) 2 ((s.pc n).aerUncor != 0)

/-- An error message leaves where the host has enabled it (PRESUMED: Base 5.0): 0 correctable, 1 non-fatal, 2 fatal. -/
def State.errMessage (s : State) (n level : Nat) : State :=
  if hasBit (s.pc n).errReporting level && s.linkL0 n then s.emit (.errMessage n level) else s

/-- Log a correctable error: bit b of the status of Base 5.0. -/
def State.aerCorrectable (s : State) (n b : Nat) : State :=
  let x := s.pc n
  let s := ((s.putPc n { x with aerCor := setBit x.aerCor b }).pcCount n Pcie.AER_CORR_CNT_COUNT).pcEvent n 4
  if hasBit x.aerCorMask b then s else s.errMessage n 0

/-- The header of a packet with the uncorrectable error b that is not masked is logged; another one overflows the single log (R358). -/
def State.logHeader (s : State) (n b hdr : Nat) : State :=
  let x := s.pc n
  if hasBit x.aerMask b then s
  else if x.aerFirst.isSome then s.aerCorrectable n 15
  else s.putPc n { x with aerHeader := hdr, aerFirst := some b }

/-- Log an uncorrectable error: bit b of the status of Base 5.0, with its severity and mask. -/
def State.aerUncorrectable (s : State) (n b hdr : Nat) : State :=
  let x := s.pc n
  let s := (s.putPc n { x with aerUncor := setBit x.aerUncor b }).logHeader n b hdr
  let s := if hasBit x.aerMask b then s else s.errMessage n (if hasBit x.aerSeverity b then 2 else 1)
  let was := s.condBit (pcPage (s.pcCharge n) 0) 2
  ((s.pcEvent n 4).judgeAer n).again (pcPage (s.pcCharge n) 0) 2 was

/-- Log an uncorrectable error that is advisory while its severity is non-fatal (R352, R358): Advisory Non-Fatal is bit 13. -/
def State.aerAdvisory (s : State) (n b hdr : Nat) : State :=
  let x := s.pc n
  if hasBit x.aerSeverity b then s.aerUncorrectable n b hdr
  else
    let s := s.putPc n { x with aerUncor := setBit x.aerUncor b }
    let s := if hasBit x.aerCorMask 13 then s else s.logHeader n b hdr
    let was := s.condBit (pcPage (s.pcCharge n) 0) 2
    ((s.aerCorrectable n 13).judgeAer n).again (pcPage (s.pcCharge n) 0) 2 was

/-- The status bits of Base 5.0: whether an error is correctable, and its bit. -/
def LinkError.bit : LinkError → Bool × Nat
  | .receiver => (true, 0)
  | .badTlp => (true, 6)
  | .badDllp => (true, 7)
  | .replayRollover => (true, 8)
  | .replayTimeout => (true, 12)
  | .correctedInternal => (true, 14)
  | .dataLink => (false, 4)
  | .flowControl => (false, 13)
  | .receiverOverflow => (false, 17)
  | .malformed => (false, 18)
  | .ecrc => (false, 19)
  | .internal => (false, 22)

/-- The link of port n has met an error, in a packet with a header (R358): ECRC errors while the check is enabled. -/
def State.linkError (s : State) (n : Nat) (e : LinkError) (hdr : Nat) : State :=
  if e = .ecrc ∧ !(s.pc n).ecrcCheck then s
  else if e.bit.1 then s.aerCorrectable n e.bit.2 else s.aerUncorrectable n e.bit.2 hdr

/-! ## Requests to the host (R351 to R353) -/

/-- The tags of the requests that have no completion yet (R351). -/
def State.outstanding (s : State) (n : Nat) : List Nat := ((s.pc n).np.filter (!·.done)).map (·.tag) ++ (s.pc n).discard

/-- NP_OUT.COUNT as it now is. -/
def State.countNp (s : State) (n : Nat) : State :=
  s.pcPut n 0 Pcie.NP_OUT_COUNT (s.outstanding n).length

/-- The tags the host's enables allow, first and count (R351). -/
def State.tagRange (s : State) (n : Nat) : Nat × Nat :=
  let p := pcPage n 0
  if s.flag p Pcie.PCIE_PARAM_TAG10_EN then (256, 768)
  else if s.flag p Pcie.PCIE_PARAM_EXT_TAG_EN then (0, 256) else (0, 32)

/-- NP_OUT.LIMIT follows the enables. -/
def State.judgeTags (s : State) (n : Nat) : State := s.pcPut n 0 Pcie.NP_OUT_LIMIT (s.tagRange n).2

/-- Tags that are free. -/
def State.freeTags (s : State) (n : Nat) : List Nat :=
  let used := s.outstanding n
  ((List.range (s.tagRange n).2).map ((s.tagRange n).1 + ·)).filter (fun t => !used.contains t)

/-- The sizes a burst is cut into (R352): `unit` bytes each, the remainder last. -/
def cutSizes (unit n : Nat) : List Nat :=
  if n = 0 then [] else List.replicate ((n - 1) / unit) unit ++ [n - (n - 1) / unit * unit]

/-- Does the link carry requests of half h now (R324, R359, R360)? None during a takeover (R363). -/
def State.hostReady (s : State) (h : Nat) : Bool :=
  let n := s.pcOfHalf h
  s.linkL0 n && s.get (pcPage n 0) Pcie.PCIE_STAT_D_STATE == 0 && s.flag (pcPage n 0) Pcie.PCIE_STAT_BME &&
    s.ready ⟨.pcie, n, 0⟩ && !s.takeoverDue

/-- Can a read of `size` bytes be issued without passing the limit (R351)? -/
def State.readRoom (s : State) (h size : Nat) : Bool :=
  let n := s.pcOfHalf h
  let k := max 1 (cutSizes (s.mrrs n) size).length
  decide ((s.outstanding n).length + k ≤ s.get (pcPage n 0) Pcie.NP_OUT_LIMIT) && decide (k ≤ (s.freeTags n).length)

/-- Issue the requests of one read piece after the other; each is a request of the burst's job entry (R301). -/
def State.issueReads (s : State) (n h channel burst : Nat) (entry : Nat × Nat) (addr : Nat) (ns : Bool) : Nat → List Nat → List Nat → State
  | _, [], _ => s
  | _, _, [] => s
  | off, size :: r, tag :: tags =>
    let q : NpReq := { tag, channel, burst, entry := some entry, off, size }
    let s := (s.putPc n { s.pc n with np := (s.pc n).np ++ [q] }).flyEntry entry.1
    (s.emit (.hostRead h tag (addr + off) size ns)).issueReads n h channel burst entry addr ns (off + size) r tags

/-- Issue a read burst of a channel of half h (R350 to R352); 0 bytes is a flushing read (R331). -/
def State.hostReadBurst (s : State) (h channel burst : Nat) (entry : Nat × Nat) (addr size : Nat) (ns : Bool) : State :=
  let n := s.pcOfHalf h
  let noSnoop := ns && s.flag (pcPage n 0) Pcie.PCIE_PARAM_NS_EN
  let sizes := if size = 0 then [0] else cutSizes (s.mrrs n) size
  (s.issueReads n h channel burst entry addr noSnoop 0 sizes (s.freeTags n)).countNp n

/-- Issue a posted write of a channel of half h (R350, R352). A sentinel stream's write leaves an x16 link only from a half
that acts (R364). -/
def State.hostWriteBurst (s : State) (h addr : Nat) (bytes : List Byte) (ro ns sentinel : Bool) : State :=
  let n := s.pcOfHalf h
  let sizes := cutSizes (s.mps n) bytes.length
  if s.x16 && sentinel && !s.halfActing h then s.pcCount n Pcie.SENT_FILTERED_COUNT sizes.length
  else
    let relaxed := ro && s.flag (pcPage n 0) Pcie.PCIE_PARAM_RO_EN
    let noSnoop := ns && s.flag (pcPage n 0) Pcie.PCIE_PARAM_NS_EN
    (sizes.foldl (fun (a : State × Nat) size =>
      (a.1.emit (.hostWrite h (addr + a.2) ((bytes.drop a.2).take size) relaxed noSnoop), a.2 + size)) (s, 0)).1

/-- What came of a burst reaches its channel's half (R334): bytes, or a bus error. -/
def State.readBack (s : State) (channel burst cause : Nat) (bytes : List Byte) : State :=
  let h := channel / 512
  s.putHarb h { s.harb h with results := (s.harb h).results ++
    [{ requester := 2, source := channel, tag := burst, cause, ba := 0, size := bytes.length, bytes }] }

/-- Is a request of a burst and of the same issue of it? -/
def NpReq.same (q r : NpReq) : Bool := q.channel == r.channel && q.burst == r.burst && q.entry == r.entry

/-- Does the end of a request count for nothing (R301): its burst has failed, ended by a time-out or an abort, or is forgotten? -/
def State.npLate (s : State) (q : NpReq) : Bool := match q.entry with
  | none => true
  | some (e, gen) => (s.job e).gen != gen || (s.job e).state == 0

/-- An outstanding request ends, with its bytes where it was answered (R301, R302, R334, R352): the first of a burst that fails ends the burst, as the
last that succeeds does. -/
def State.endNp (s : State) (n : Nat) (q : NpReq) (bytes : Option (List Byte)) : State :=
  let late := s.npLate q
  let s := match q.entry with
    | none => s
    | some (e, gen) => (s.entryBack e gen).2
  let np := (s.pc n).np
  let s := if late then s.putPc n { s.pc n with np := np.erase q }
    else match bytes with
      | none =>
        let s := s.putPc n { s.pc n with np := (np.erase q).filter (fun r => !(r.done && r.same q)) }
        (s.freeHeld q.entry).readBack q.channel q.burst 0x20 []
      | some b =>
        let np := np.map fun r => if r = q then { r with got := b, done := true } else r
        let mine := np.filter (·.same q)
        if mine.all (·.done) then
          (s.putPc n { s.pc n with np := np.filter (fun r => !r.same q) }).readBack q.channel q.burst 0 (mine.map (·.got)).flatten
        else s.putPc n { s.pc n with np }
  s.countNp n

/-- Every outstanding read ends as a bus error (R360). -/
def State.failReads (s : State) (n : Nat) : State :=
  let s := ((s.pc n).np.filter (!·.done)).foldl (fun s q => s.endNp n q none) s
  (s.putPc n { s.pc n with discard := [] }).countNp n

/-- PCIE_COMPLETION: a completion for tag `tag` arrives at port n with a status, bytes and its header (R301, R352, R358, R363). -/
def execPcieCompletion (n : Fin 2) (tag : Fin 1024) (st : CplStatus) (d : List Byte × BitVec 128) (s : State) : Result :=
  .next <|
    let (bytes, hdr) := d
    let x := s.pc n
    if st = .malformed then s.linkError n .malformed hdr.toNat
    else if st = .ecrc ∧ x.ecrcCheck then s.linkError n .ecrc hdr.toNat
    else if x.discard.contains tag.val then
      (s.putPc n { x with discard := x.discard.erase tag.val }).pcCount n Pcie.CPL_DISCARD_COUNT |>.countNp n
    else match x.np.find? (fun q => q.tag == tag.val && !q.done) with
      | none => s.aerAdvisory n 16 hdr.toNat
      | some q =>
        let good := st = .success ∨ st = .ecrc
        let got := (q.got ++ bytes).take q.size
        if good ∧ got.length < q.size then s.putPc n { x with np := x.np.map fun r => if r = q then { r with got } else r }
        else
          let s := if st = .poisoned then s.aerAdvisory n 12 hdr.toNat else s
          let s := if s.npLate q && q.entry.isSome then s.countStale (q.channel / 512) else s
          s.endNp n q (if good then some got else none)

/-- COMPLETION_TIMEOUT: the request of tag `tag` gets no completion within the time of R353. -/
def execCompletionTimeout (n : Fin 2) (tag : Fin 1024) (s : State) : Result :=
  .next <|
    let x := s.pc n
    if x.discard.contains tag.val then
      ((s.putPc n { x with discard := x.discard.erase tag.val }).aerUncorrectable n 14 0).countNp n
    else match x.np.find? (fun q => q.tag == tag.val && !q.done) with
      | none => s
      | some q => (s.aerUncorrectable n 14 0).endNp n q none

/-! ## MSI-X (R356, R357) -/

/-- A table entry. -/
def State.msixEntry (s : State) (n v : Nat) : MsixEntry := SMap.get (fun _ => {}) (s.pc n).table v

/-- The message of vector v leaves. -/
def State.sendMsix (s : State) (n v : Nat) : State :=
  let e := s.msixEntry n v
  s.emit (.hostWrite (s.pcCharge n) e.addr (toBytesLE 4 e.data) false false)

/-- Is a vector held back: masked, the function in D3hot, or a takeover under way (R357, R363)? -/
def State.msixHeld (s : State) (n v : Nat) : Bool :=
  s.takeoverDue || (s.pc n).msixMask || (s.msixEntry n v).masked || s.get (pcPage n 0) Pcie.PCIE_STAT_D_STATE == 3

/-- Pending messages that nothing holds back leave, in increasing vector order. -/
def State.releaseMsix (s : State) (n : Nat) : State :=
  if !(s.flag (pcPage n 0) Pcie.PCIE_STAT_MSIX_EN && s.flag (pcPage n 0) Pcie.PCIE_STAT_BME && s.linkL0 n) then s
  else
    let go := (s.pc n).pba.filter (fun v => !s.msixHeld n v)
    let s := s.putPc n { s.pc n with pba := (s.pc n).pba.filter (fun v => !go.contains v) }
    go.foldl (fun s v => s.sendMsix n v) s

/-- Put a vector into the pending list, in order. -/
def insertVec (v : Nat) (l : List Nat) : List Nat := l.filter (· < v) ++ v :: l.filter (v < ·)

/-- The binding of a source: its vector, none where it is unbound. -/
def State.srcVec (s : State) (n src : Nat) : Option Nat :=
  let p := pcPage n (4 + src / 256)
  if s.flag p (Pcie.SRC_VEC_EN.nth (src % 256)) then some (s.get p (Pcie.SRC_VEC_VECTOR.nth (src % 256))) else none

/-- Is a Drift channel that of a sentinel output of the live plan (R364)? -/
def State.sentinelChannel (s : State) (c : Nat) : Bool := match s.tide.livePlan with
  | none => false
  | some p => p.indexedOutputs.any fun (j, o) => ((p.ownerOf j).any (·.isSentinel)) &&
      (p.entryChannels j o).any (fun e => e.1 == c)

/-- MSIX_FIRE: source `src` fires at port n (R356, R357, R364). -/
def execMsixFire (n : Fin 2) (src : Fin 1537) (s : State) : Result :=
  .next <|
    let extra := (s.due.filter (· == .msix n src)).length - 1
    let s := { s with due := s.due.filter (· != .msix n src) }
    if (s.x16 && n.val == 1) || (!s.x16 && decide (src.val < 1024) && src.val / 512 != n.val) then s
    else match s.srcVec n src with
      | none => s
      | some v =>
        let p := pcPage n 0
        if decide (src.val < 1024) && s.x16 && s.sentinelChannel src && !s.halfActing (src / 512) then
          s.pcCount n Pcie.SENT_FILTERED_COUNT
        else if !s.flag p Pcie.PCIE_STAT_MSIX_EN || !s.flag p Pcie.PCIE_STAT_BME || !s.linkL0 n then
          s.pcCount n Pcie.MSIX_DROP_COUNT (extra + 1)
        else
          let s := s.pcCount n Pcie.MSIX_MERGED_COUNT extra
          if s.msixHeld n v then
            if (s.pc n).pba.contains v then s.pcCount n Pcie.MSIX_MERGED_COUNT
            else s.putPc n { s.pc n with pba := insertVec v (s.pc n).pba }
          else s.sendMsix n v

/-- Does port n decode memory accesses (R359)? -/
def State.decodes (s : State) (n : Nat) : Bool :=
  !(s.x16 && n == 1) && s.linkL0 n && s.get (pcPage n 0) Pcie.PCIE_STAT_D_STATE == 0

/-- A 32-bit word of BAR2 (R348, R356): the MSI-X table, the pending bits; every other offset reads 0. -/
def State.bar2Word (s : State) (n off : Nat) : Nat :=
  let e := s.msixEntry n (off / 16)
  if off < 0x8000 then match off % 16 / 4 with
    | 0 => e.addr % 2 ^ 32
    | 1 => e.addr / 2 ^ 32
    | 2 => e.data
    | _ => bit e.masked
  else if off < 0x8100 then maskOf 32 fun i => (s.pc n).pba.contains (8 * (off / 4 * 4 - 0x8000) + i)
  else 0

/-- MSIX_TABLE_WRITE: the host writes 32 bits at offset `off` of BAR2, or reads them where no value is given (R348, R356, R357, R359): the table
alone takes writes. -/
def execMsixTableWrite (n : Fin 2) (off : Fin 0x10000) (w : Option Word) (s : State) : Result :=
  .next <|
    if !s.decodes n then s
    else match w with
    | none => s.emit (.bar2 n (BitVec.ofNat 32 (s.bar2Word n off)))
    | some w =>
      if 0x8000 ≤ off.val then s
      else
        let v := off.val / 16
        let e := s.msixEntry n v
        let e := match off.val % 16 / 4 with
          | 0 => { e with addr := e.addr / 2 ^ 32 * 2 ^ 32 + w.toNat / 4 * 4 }
          | 1 => { e with addr := e.addr % 2 ^ 32 + w.toNat * 2 ^ 32 }
          | 2 => { e with data := w.toNat }
          | _ => { e with masked := w.toNat.testBit 0 }
        (s.putPc n { s.pc n with table := SMap.set (fun _ => {}) (s.pc n).table v e }).releaseMsix n

/-! ## Reset and link state (R346, R360, R365, R367) -/

/-- The function's configuration space, MSI-X table and PBA and the aperture bases take their default values (R360). -/
def State.resetFunction (s : State) (n : Nat) : State :=
  let x := s.pc n
  let s := s.failReads n
  let s := s.putPc n { ({} : PcieSt) with perst := x.perst, applied := x.applied, subVendor := x.subVendor, subDevice := x.subDevice
                                          barBoot := x.barBoot, coefs := x.coefs, aperNext := x.aperNext }
  let s := s.pcPut n 0 Pcie.PCIE_STAT_D_STATE 0
  let s := (s.pcPut n 0 Pcie.PCIE_STAT_BME 0).pcPut n 0 Pcie.PCIE_STAT_MSIX_EN 0
  let s := [Pcie.PCIE_PARAM_MPS, Pcie.PCIE_PARAM_MRRS, Pcie.PCIE_PARAM_RO_EN, Pcie.PCIE_PARAM_NS_EN, Pcie.PCIE_PARAM_TAG10_EN,
    Pcie.PCIE_PARAM_EXT_TAG_EN, Pcie.PCIE_PARAM_CPL_TO].foldl (fun s f => s.pcPut n 0 f f.reset) s
  let s := (s.pcPut n 1 Pcie.APER_BASE_H0_BASE 0).pcPut n 1 Pcie.APER_BASE_H1_BASE 0
  (((s.judgeTags n).countNp n).judgeAer n).judgeLink n

/-- The link leaves L0 for an LTSSM state with no link (R360). -/
def State.linkOut (s : State) (n ltssm : Nat) : State :=
  let s := (s.failReads n).pcPut n 0 Pcie.PCIE_STAT_LTSSM ltssm
  ((s.pcPut n 0 Pcie.PCIE_STAT_WIDTH 0).pcPut n 0 Pcie.PCIE_STAT_SPEED 0).judgeLink n

/-- The RW fields of the port's controller pages take their reset values (R360). -/
def State.resetPortPages (s : State) (n : Nat) : State :=
  let hit := fun key : Nat => (s.pcGroup n).any (fun i => pcPage i 0 ≤ key / 0x8000 && key / 0x8000 < pcPage i 16) &&
    (match pageRef (key / 0x8000) with
      | none => false
      | some r => (r.fields ++ Hdr.pageFields).any (fun f => f.acc == .rw && f.lo == key % 32 && f.covers (key % 0x8000 / 32 * 4)))
  { s with regs := s.regs.filter (fun e => !hit e.1) }

/-- Ports that a ball of port n acts on: none for port 1 in x16 mode (R346). -/
def State.portActs (s : State) (n : Nat) : Bool := !(s.x16 && n == 1)

/-- PERST_ASSERT: PERST_N of port n goes low (R346, R360): no condition LINK_DOWN. -/
def execPerstAssert (n : Fin 2) (s : State) : Result :=
  .next <| if !s.portActs n then s
    else
      let s := s.putPc n { s.pc n with perst := true }
      (((s.resetFunction n).resetPortPages n).linkOut n 0).lower (pcPage (s.pcCharge n) 0) 0

/-- Port n begins link training (R346), where its PERST_N is high, the reference clock stable and no hold stops it (R362). -/
def State.trainPort (s : State) (n : Nat) : State :=
  if !s.portActs n || (s.pc n).perst || !s.flag 0x5 Chip.CLK_STAT_PCIE_REF_OK || s.flag (pcPage n 2) Pcie.TEST_HOLD || s.get (pcPage n 0) Pcie.PCIE_STAT_SPEED != 0 then s
  else s.pcPut n 0 Pcie.PCIE_STAT_LTSSM 1

/-- PERST_DEASSERT: PERST_N of port n goes high: with the reference stable the port begins link training (R346). -/
def execPerstDeassert (n : Fin 2) (s : State) : Result :=
  .next <| if !s.portActs n || !(s.pc n).perst then s else (s.putPc n { s.pc n with perst := false }).trainPort n

/-- A link-down (R360): the function is reset; unless TEST.HOLD caused it, it counts and LINK_DOWN is raised. -/
def State.linkDown (s : State) (n ltssm : Nat) : State :=
  let held := s.flag (pcPage n 2) Pcie.TEST_HOLD
  let s := (s.resetFunction n).linkOut n ltssm
  if held then s
  else ((s.pcCount n Pcie.LINK_CNT_LINK_DOWNS).pcEvent n 1).raise (pcPage (s.pcCharge n) 0) 0

/-- PCIE_LINK_DOWN: a Hot Reset, or a link-down of the data link layer, at port n (R360). -/
def execPcieLinkDown (n : Fin 2) (hotReset : Bool) (s : State) : Result :=
  .next <| if !s.portActs n || s.get (pcPage n 0) Pcie.PCIE_STAT_SPEED == 0 then s
    else s.linkDown n (if hotReset then 8 else 0)

/-- The first of the largest figures of merit (R361). -/
def firstBest (l : List Nat) : Nat := (l.findIdx? (fun m => l.all (fun k => decide (k ≤ m)))).getD 0

/-- Is a coefficient request legal for FS = 48 and LF = 12 (R361)? PRESUMED: the rules of Base 5.0. -/
def coefficientsOk (pre cursor post : Nat) : Bool :=
  decide (pre ≤ 48 / 4) && pre + cursor + post == 48 && decide (pre + post + 12 ≤ cursor)

/-- What an equalization gave at a rate (R361): what the partner requested of the device's own lane 0 transmitter, taken where it is legal, and the
figures of merit of the partner's presets. -/
def State.equalized (s : State) (n rate : Nat) (own : EqRequest) (merits : List Nat) : State :=
  let s := match own with
    | .preset p => s.pcPut n 2 (Pcie.EQ_CFG_PRESET_OWN.nth rate) p
    | .coefficients a b c =>
      let others := (s.pc n).coefs.filter (fun (e : Nat × Nat × Nat × Nat) => e.1 != rate)
      if coefficientsOk a b c then s.putPc n { s.pc n with coefs := (rate, a.val, b.val, c.val) :: others } else s
  let kept := if s.flag (pcPage n 2) (Pcie.EQ_CFG_FORCE.nth rate) then s.get (pcPage n 2) (Pcie.EQ_CFG_PRESET_REQ.nth rate)
    else firstBest (merits.take 11)
  s.pcPut n 2 (Pcie.EQ_CFG_PRESET_KEPT.nth rate) kept

/-- LTSSM_TRANSITION: the link of port n enters an LTSSM state with a width and a speed, after an equalization where one
took place (rate, the partner's request, figures of merit), and after errors with the headers of their packets (R346, R355, R358, R360, R361,
R367, R371). -/
def execLtssmTransition (n : Fin 2) (ltssm : Fin 9) (width speed : Nat)
    (x : Option (Fin 3 × EqRequest × List Nat) × List (LinkError × BitVec 128)) (s : State) : Result :=
  .next <|
    let (eq, errs) := x
    let p := pcPage n 0
    if !s.portActs n || (s.pc n).perst || !s.ready ⟨.pcie, n, 0⟩ || (!s.x16 && s.halfFailed n) || (s.flag (pcPage n 2) Pcie.TEST_HOLD && ltssm.val != 0) ||
        !([1, 2, 4, 8, 16].contains width) || (!s.x16 && decide (8 < width)) || !(decide (1 ≤ speed) && decide (speed ≤ 5)) then s
    else
      let s := errs.foldl (fun (s : State) (e : LinkError × BitVec 128) => s.linkError n e.1 e.2.toNat) s
      let s := match eq with
        | none => s
        | some (rate, own, merits) => s.equalized n rate own merits
      let was := s.get p Pcie.PCIE_STAT_LTSSM
      let up := s.get p Pcie.PCIE_STAT_SPEED != 0
      if ltssm.val = 4 then
        let changed := up && (s.get p Pcie.PCIE_STAT_SPEED != speed || s.get p Pcie.PCIE_STAT_WIDTH != width)
        let s := ((s.pcPut n 0 Pcie.PCIE_STAT_LTSSM 4).pcPut n 0 Pcie.PCIE_STAT_WIDTH width).pcPut n 0 Pcie.PCIE_STAT_SPEED speed
        let s := if up then s else s.pcEvent n 0
        let s := if changed then s.pcEvent n 2 else s
        ((s.lower (pcPage (s.pcCharge n) 0) 0).judgeLink n).releaseMsix n
      else if up && (ltssm.val = 3 || ltssm.val = 5) then
        let s := if was = 4 && ltssm.val = 3 then s.pcCount n Pcie.LINK_CNT_RECOVERIES else s
        ((s.failReads n).pcPut n 0 Pcie.PCIE_STAT_LTSSM ltssm).judgeLink n
      else if up then s.linkDown n ltssm
      else s.pcPut n 0 Pcie.PCIE_STAT_LTSSM ltssm

/-- Does the live plan bind a sentinel output, or any output, to port n? -/
def State.portBound (s : State) (n : Nat) (sentinel : Bool) : Bool := match s.tide.livePlan with
  | none => false
  | some p => p.streams.any fun x => (!sentinel || x.isSentinel) && (p.outputsOf x).any (fun o => countsOn s.x16 x o n)

/-- ASPM_L1_ENTRY: nothing has been pending for 8 µs at port n, and the device requests L1 (R359). -/
def execAspmL1Entry (n : Fin 2) (s : State) : Result :=
  .next <|
    let allowed := (s.pc n).aspmL1 && s.flag (pcPage n 0) Pcie.PCIE_CTL_ASPM_ALLOW && !s.portBound n true
    if s.portActs n && s.linkL0 n && (s.outstanding n).isEmpty && (s.pc n).aper.isEmpty && allowed then (s.pcPut n 0 Pcie.PCIE_STAT_LTSSM 5).judgeLink n else s

/-! ## Configuration requests (R346 to R359) -/

/-- log₂ of the size of BAR4 (R348). -/
def State.barLog (s : State) (n : Nat) : Nat :=
  ((s.pc n).bar.orElse fun _ => (s.pc n).barBoot).getD (if s.x16 then 29 else 28)

/-- The log₂ of the size of BAR pair i (R348): the register window, the MSI-X structures, the aperture. -/
def State.barBits (s : State) (n i : Nat) : Nat := if i = 0 then 26 else if i = 1 then 16 else s.barLog n

/-- A dword of the BAR registers (R348): 64-bit BARs, the third prefetchable; the address bits below the size read 0. -/
def State.barWord (s : State) (n i : Nat) : Nat :=
  let size := 2 ^ s.barBits n (i / 2)
  let base := (s.pc n).bars.getD (i / 2) 0 / size * size
  if i % 2 = 1 then base / 2 ^ 32 else base % 2 ^ 32 + 4 + (if i = 4 then 8 else 0)

/-- The IDs of the capabilities of R347, in its order. PRESUMED: Base 5.0. -/
def capabilityIds : List Nat := [0x01, 0x10, 0x11, 0x0001, 0x0003, 0x0019, 0x0026, 0x002A, 0x0027, 0x0015, 0x000B]

/-- What a configuration item reads as (R347, R348). -/
def State.configRead (s : State) (n : Nat) : ConfigItem → Nat
  | .vendorId => 0x1F4E
  | .deviceId => 0x4016
  | .revisionId => 16 * (s.get 0x0 Chip.CHIP_ID_SILICON - 0x41) + s.get 0x0 Chip.CHIP_ID_METAL
  | .classCode => 0x048000
  | .subsystemVendor => (s.pc n).subVendor
  | .subsystemId => (s.pc n).subDevice
  | .interruptPin => 0
  | .serialHigh => if s.flag 0x0 Chip.CHIP_CFG_FUSE_ERR then 0 else Config.lot.toNat
  | .serialLow => if s.flag 0x0 Chip.CHIP_CFG_FUSE_ERR then 0
    else Config.wafer.toNat * 2 ^ 24 + Config.dieX.toNat * 2 ^ 12 + Config.dieY.toNat
  | .capability i => capabilityIds.getD i 0
  | .vsecId => 1
  | .vsecRevision => 1
  | .bar i => s.barWord n i
  | .expansionRom => 0
  | .mpsSupported => 2
  | .marginSupport => 3
  | .ecrcCapable => 3
  | .ecrcGen => bit (s.pc n).ecrcGen
  | .ecrcCheck => bit (s.pc n).ecrcCheck
  | .errReporting => (s.pc n).errReporting
  | .vsecMode => s.get 0x0 Chip.CHIP_CFG_HOST_MODE + 2 * n + 4 * s.pcCharge n
  | .cplToRanges => 3
  | .tag10Completer => 1
  | .tag10Requester => 1
  | .pmeSupport => 0
  | .noSoftReset => 1
  | .aspmSupport => 2
  | .l1ExitLatency => 3
  | .mps => s.get (pcPage n 0) Pcie.PCIE_PARAM_MPS
  | .mrrs => s.get (pcPage n 0) Pcie.PCIE_PARAM_MRRS
  | .roEn => s.get (pcPage n 0) Pcie.PCIE_PARAM_RO_EN
  | .nsEn => s.get (pcPage n 0) Pcie.PCIE_PARAM_NS_EN
  | .tag10En => s.get (pcPage n 0) Pcie.PCIE_PARAM_TAG10_EN
  | .extTagEn => s.get (pcPage n 0) Pcie.PCIE_PARAM_EXT_TAG_EN
  | .cplTo => s.get (pcPage n 0) Pcie.PCIE_PARAM_CPL_TO
  | .busMaster => s.get (pcPage n 0) Pcie.PCIE_STAT_BME
  | .msixEn => s.get (pcPage n 0) Pcie.PCIE_STAT_MSIX_EN
  | .msixMask => bit (s.pc n).msixMask
  | .dState => s.get (pcPage n 0) Pcie.PCIE_STAT_D_STATE
  | .aspmL1 => bit (s.pc n).aspmL1
  | .targetSpeed => (s.pc n).targetSpeed
  | .barSize => s.barLog n
  | .aerUncor => (s.pc n).aerUncor
  | .aerCor => (s.pc n).aerCor
  | .aerMask => (s.pc n).aerMask
  | .aerCorMask => (s.pc n).aerCorMask
  | .aerSeverity => (s.pc n).aerSeverity
  | .aerHeader dw => (s.pc n).aerHeader / 2 ^ (32 * dw.val) % 2 ^ 32

/-- A host's write of a configuration item; the items of R347 that state what the device is ignore writes. -/
def State.configWrite (s : State) (n v : Nat) : ConfigItem → State
  | .vendorId | .deviceId | .revisionId | .classCode | .subsystemVendor | .subsystemId | .interruptPin | .serialHigh
  | .serialLow | .vsecMode | .cplToRanges | .tag10Completer | .tag10Requester | .pmeSupport | .noSoftReset | .aspmSupport
  | .l1ExitLatency | .aerHeader _ | .capability _ | .vsecId | .vsecRevision | .expansionRom | .mpsSupported | .marginSupport | .ecrcCapable => s
  | .bar i =>
    let x := s.pc n
    let old := x.bars.getD (i / 2) 0
    let new := if i.val % 2 = 1 then old % 2 ^ 32 + v % 2 ^ 32 * 2 ^ 32 else old / 2 ^ 32 * 2 ^ 32 + v % 2 ^ 32 / 16 * 16
    s.putPc n { x with bars := x.bars.set (i / 2) new }
  | .ecrcGen => s.putPc n { s.pc n with ecrcGen := v.testBit 0 }
  | .ecrcCheck => s.putPc n { s.pc n with ecrcCheck := v.testBit 0 }
  | .errReporting => s.putPc n { s.pc n with errReporting := v % 16 }
  | .mps => (s.pcPut n 0 Pcie.PCIE_PARAM_MPS (min v 2)).judgeLink n
  | .mrrs => s.pcPut n 0 Pcie.PCIE_PARAM_MRRS (min v 5)
  | .roEn => s.pcPut n 0 Pcie.PCIE_PARAM_RO_EN v
  | .nsEn => s.pcPut n 0 Pcie.PCIE_PARAM_NS_EN v
  | .tag10En => (s.pcPut n 0 Pcie.PCIE_PARAM_TAG10_EN v).judgeTags n
  | .extTagEn => (s.pcPut n 0 Pcie.PCIE_PARAM_EXT_TAG_EN v).judgeTags n
  | .cplTo => s.pcPut n 0 Pcie.PCIE_PARAM_CPL_TO v
  | .busMaster => ((s.pcPut n 0 Pcie.PCIE_STAT_BME v).judgeLink n).releaseMsix n
  | .msixEn => (s.pcPut n 0 Pcie.PCIE_STAT_MSIX_EN v).releaseMsix n
  | .msixMask => (s.putPc n { s.pc n with msixMask := v.testBit 0 }).releaseMsix n
  | .dState =>
    if v = 0 ∨ v = 3 then
      let s := if s.get (pcPage n 0) Pcie.PCIE_STAT_D_STATE != v then s.pcEvent n 3 else s
      ((s.pcPut n 0 Pcie.PCIE_STAT_D_STATE v).judgeLink n).releaseMsix n
    else s
  | .aspmL1 => s.putPc n { s.pc n with aspmL1 := v.testBit 0 }
  | .targetSpeed => s.putPc n { s.pc n with targetSpeed := if 1 ≤ v ∧ v ≤ 5 then v else (s.pc n).targetSpeed }
  | .barSize =>
    let lo := if s.x16 then 29 else 28
    if lo ≤ v ∧ v ≤ lo + 7 then s.putPc n { s.pc n with bar := some v } else s
  | .aerUncor =>
    let left := clearBits (s.pc n).aerUncor v
    (s.putPc n { s.pc n with aerUncor := left, aerFirst := (s.pc n).aerFirst.filter (hasBit left) }).judgeAer n
  | .aerCor => s.putPc n { s.pc n with aerCor := clearBits (s.pc n).aerCor v }
  | .aerMask => s.putPc n { s.pc n with aerMask := v % 2 ^ 32 }
  | .aerCorMask => s.putPc n { s.pc n with aerCorMask := v % 2 ^ 32 }
  | .aerSeverity => s.putPc n { s.pc n with aerSeverity := v % 2 ^ 32 }

/-- CONFIG_REQUEST: the host reads, or writes where a value is given, a configuration item of port n (R346). -/
def execConfigRequest (n : Fin 2) (item : ConfigItem) (value : Option Word) (s : State) : Result :=
  .next <| if !s.portActs n then s
    else if !(s.pc n).applied then s.emit (.config n none)
    else match value with
      | none => s.emit (.config n (some (s.configRead n item)))
      | some v => (s.configWrite n v.toNat item).emit (.config n (some 0))

/-! ## The aperture (R349) -/

/-- The half that an aperture offset reaches, and the local address in it. -/
def State.apertureAt (s : State) (n off : Nat) : Nat × Nat :=
  let size := if s.x16 then 2 ^ s.barLog n / 2 else 2 ^ s.barLog n
  let h := if s.x16 then off / size % 2 else n
  let base := if h = 0 then s.get (pcPage n 1) Pcie.APER_BASE_H0_BASE else s.get (pcPage n 1) Pcie.APER_BASE_H1_BASE
  (h, base * 2 ^ 28 / size * size + off % size)

/-- Record an aperture failure: the first in full, later ones in OVERFLOW. -/
def State.aperError (s : State) (n h off cause : Nat) (write : Bool) : State :=
  if s.flag (pcPage n 1) Pcie.APER_ERR_VALID then s.pcPut n 1 Pcie.APER_ERR_OVERFLOW 1
  else
    let s := (s.pcPut n 1 Pcie.APER_ERR_CAUSE cause).pcPut n 1 Pcie.APER_ERR_WRITE (bit write)
    let s := (s.pcPut n 1 Pcie.APER_ERR_HALF h).pcPut n 1 Pcie.APER_ERR_LO_OFFSET off
    let s := (s.pcPut n 1 Pcie.APER_ERR_HI_OFFSET (off / 2 ^ 32)).pcPut n 1 Pcie.APER_ERR_VALID 1
    s.raise (pcPage (s.pcCharge n) 0) 4

/-- The AER error that a discarded aperture write logs. -/
def aperAer (cause : Nat) : Nat := if cause = 1 then 20 else if cause = 2 then 12 else 15

/-- The sizes of the completions of an aperture read at an offset (R349): at most `mps` bytes each, split at multiples of 64 bytes. -/
def aperCuts (mps off n : Nat) : List Nat :=
  let first := min n ((off + mps) / 64 * 64 - off)
  first :: cutSizes mps (n - first)

/-- An aperture access has ended in a failure (R349): a read is answered with one, a write discarded and logged. -/
def State.aperFail (s : State) (n h off cause : Nat) (write : Bool) (hdr : Nat) : State :=
  let s := s.aperError n h off cause write
  if write then s.aerUncorrectable n (aperAer cause) hdr else s.emit (.apertureFail n cause)

/-- An aperture read is answered (R349): by EP = 1 where a byte of it was uncorrectable. -/
def State.aperAnswer (s : State) (n : Nat) (x : AperAccess) : State :=
  let bytes := sortedBytes x.got
  let s := if x.bad then s.aperError n x.half x.off 3 false else s
  ((aperCuts (s.mps n) x.off x.size).foldl (fun (a : State × Nat) k =>
    (a.1.emit (.aperture n ((bytes.drop a.2).take k) x.bad), a.2 + k)) (s, 0)).1

/-- A piece of an aperture access of port n has ended in half h (R349, R302). -/
def State.aperResult (s : State) (h : Nat) (r : MemResult) : State :=
  let n := r.source
  match s.takeResult h 4 n r.tag with
  | none => s
  | some (r, s) => match (s.pc n).aper.find? (fun x => x.id == r.tag) with
    | none => s
    | some x =>
      let (_, base) := s.apertureAt n x.off
      let rest := (s.pc n).aper.filter (fun y => y.id != x.id)
      if r.cause = 0x12 then (s.putPc n { s.pc n with aper := rest }).aperFail n h x.off 4 x.write 0
      else
        let bytes := if r.cause = 0 then r.bytes else s.memRead h r.ba r.size
        let y := { x with got := x.got ++ [(r.ba - base, bytes)], left := x.left - r.size, bad := x.bad || r.cause != 0 }
        if 0 < y.left then s.putPc n { s.pc n with aper := (s.pc n).aper.map fun z => if z.id = x.id then y else z }
        else
          let s := s.putPc n { s.pc n with aper := rest }
          if x.write then s else s.aperAnswer n y

/-- APERTURE_ACCESS: a host access of `size` bytes at offset `off` of BAR4 of port n reaches the device: a write where bytes are given, else a read
(R349). It fails, or enters the Harbour as requests of the host-bulk class, within 4 KiB blocks; `hdr01` and `hdr23` are the header of its
packet. -/
def execApertureAccess (n : Fin 2) (off size : Nat) (write : Option (List Byte)) (poisoned : Bool) (hdr01 hdr23 : BitVec 64)
    (s : State) : Result :=
  .next <|
    let hdr := hdr01 ++ hdr23
    let (h, pa) := s.apertureAt n off
    let size := match write with
      | none => size
      | some b => b.length
    let fail := fun cause => s.aperFail n h off cause write.isSome hdr.toNat
    if !s.decodes n || decide (2 ^ s.barLog n < off + size) || size == 0 then s
    else if !s.ready ⟨.harbour, h, 0⟩ || s.halfFailed h then fail 4
    else if s.memCapacity h < pa + size then fail 1
    else if poisoned && write.isSome then fail 2
    else
      let x := s.pc n
      let s := s.putPc n { x with aperNext := x.aperNext + 1, aper := x.aper ++ [{ id := x.aperNext, half := h, off, write := write.isSome, size, left := size }] }
      (blocksOf pa size).foldl (fun (s : State) (b : Nat × Nat) => s.enterReq h
        { requester := 4, source := n, cls := 3, entry := none, ba := pa + b.1, size := b.2, write := write.map fun w => (w.drop b.1).take b.2,
          tag := x.aperNext } (pa + b.1)) s

/-! ## Across a switch-over (R363, R365) -/

/-- Conditions that the instance in charge alone shows move with the charge (R366). -/
def State.moveConditions (s : State) (a b : Nat) : State :=
  [0, 1, 2, 4].foldl (fun s k =>
    if s.condBit (pcPage a 0) k then (s.lower (pcPage a 0) k).raise (pcPage b 0) k else s) s

/-- CONTROLLER_TAKEOVER: in x16 mode the controller of half h takes charge (R363): requests of the other half, where that has
failed, are discarded as they return, and its messages are dropped. -/
def execControllerTakeover (h : Fin 2) (s : State) : Result :=
  .next <|
    let o := 1 - h.val
    if !s.takeoverDue || s.pcCharge 0 == h.val then s
    else
      let s := ((s.put (pcPage h 0) Pcie.PCIE_STAT_IN_CHARGE 1).put (pcPage o 0) Pcie.PCIE_STAT_IN_CHARGE 0).moveConditions o h
      let x := s.pc 0
      let s := if s.halfFailed o then
          let lost := x.np.filter (fun q => q.channel / 512 == o && !q.done)
          let s := s.putPc 0 { x with np := x.np.filter (fun q => q.channel / 512 != o), discard := x.discard ++ (lost.map (·.tag)) }
          { s with due := s.due.filter (fun d => match d with
              | .msix _ src => !(decide (src < 1024) && src / 512 == o)
              | .occurrence _ _ | .pulse _ | .selfCheck _ _ | .trigger _ | .chipReset _ => true) }
        else s
      ((s.countNp 0).pcEvent 0 5).releaseMsix 0

/-- A failed half takes its port with it in 2 × x8 mode (R365). -/
def State.portFails (s : State) (h : Nat) : State :=
  if s.x16 then s else if s.get (pcPage h 0) Pcie.PCIE_STAT_SPEED == 0 then s.pcPut h 0 Pcie.PCIE_STAT_LTSSM 0 else s.linkDown h 0

end Sys2Proof.Machine
end

