-- ==== Sys2Proof/Machine/Lighthouse.lean ====
section
/-!
DEFINITION. Sys2Proof/Machine/Lighthouse.lean: signature chains, frozen-frame detection, twin comparison (R427 to R438), and
the Sounding units (R439 to R450).
-/
namespace Sys2Proof.Machine

/-- Register values latched for a frame (R37): the live halves of some pages as they stood. -/
abbrev Latch := SMap Nat

/-- A latched field. -/
def Latch.field (l : Latch) (pg : Nat) (f : Field) : Nat := SMap.get resetField l (liveKey pg f)

/-- Latch the live halves of pages. -/
def State.latch (s : State) (pages : List Nat) : Latch :=
  s.regs.filter (fun e => decide (0x4000 ≤ e.1 % 0x8000) && pages.contains (e.1 / 0x8000))

/-- The page of Lighthouse engine e. -/
def lhPage (e : Nat) : Nat := Block.page .lighthouse e

/-- A context of an engine. -/
def State.lhCtx (s : State) (e c : Nat) : LightCtx := SMap.get (fun _ => {}) s.light.ctxs (8 * e + c)

/-- Store a context of an engine; the page's conditions follow (R448). -/
def State.putLhCtx (s : State) (e c : Nat) (x : LightCtx) : State :=
  let s := { s with light := { s.light with ctxs := SMap.set (fun _ => {}) s.light.ctxs (8 * e + c) x } }
  let all := (List.range 8).map (s.lhCtx e)
  ((s.cond (lhPage e) 0 (all.any (·.frozen))).cond (lhPage e) 1 (all.any (·.differ))).cond (lhPage e) 2 (all.any (·.sensorBad))

/-- A context is bound anew, or its Cove has been reset (R429, R436). -/
def State.lhRestart (s : State) (e c : Nat) : State :=
  (s.putLhCtx e c {}).put (lhPage e) (Lighthouse.FRZ_STAT_RUN.nth c) 0

/-! ## The signature chain (R429, R430) -/

/-- The 32 bytes under SIG (R430). -/
def sigBlock (prev stream k flags seq tide mid bytes pcrc : Nat) : List Byte :=
  toBytesLE 4 prev ++ [BitVec.ofNat 8 stream, BitVec.ofNat 8 k, BitVec.ofNat 8 (bitsOf flags 11 8), 0] ++ toBytesLE 4 seq ++
    toBytesLE 4 tide ++ toBytesLE 8 mid ++ toBytesLE 4 bytes ++ toBytesLE 4 pcrc

/-- Is the record of output k, issued by the engine and context (e, c), computed with PREV = 0 (R429)? Where any engine of a split pair has
lost its chain, it is (DEDUCED from R431: the pair holds one chain value). -/
def State.chainResets (s : State) (l : Latch) (e c : Nat) (parts : List (Nat × Nat)) (k seq : Nat) : Bool :=
  let anchor := l.field (lhPage e) (Lighthouse.LH_CFG_ANCHOR.nth c)
  parts.any (fun (p : Nat × Nat) => !hasBit (s.lhCtx p.1 p.2).chained k) || (anchor != 0 && seq % 2 ^ anchor == 0)

/-- The chain value of output k. -/
def State.chainValue (s : State) (e c k : Nat) : Nat := s.get (lhPage e) (Lighthouse.LAST_SIG_SIG.nth c k)

/-- A record of output k has been issued: engines and contexts of its parts. -/
def State.chainIssued (s : State) (parts : List (Nat × Nat)) (k : Nat) (reset : Bool) : State :=
  parts.foldl (fun s (e : Nat × Nat) =>
    let s := s.putLhCtx e.1 e.2 { s.lhCtx e.1 e.2 with chained := setBit (s.lhCtx e.1 e.2).chained k }
    if reset then (s.countWrap (lhPage e.1) (Lighthouse.CHAIN_RESETS_COUNT.nth e.2)).event (lhPage e.1) 1 else s) s

/-- The chain value takes a record's SIG: its channel has taken the record (R429), in every engine of a split pair (R431). -/
def State.chainTaken (s : State) (parts : List (Nat × Nat)) (k sig : Nat) : State :=
  parts.foldl (fun s (e : Nat × Nat) => s.put (lhPage e.1) (Lighthouse.LAST_SIG_SIG.nth e.2 k) sig) s

/-! ## Frozen-frame detection (R435, R436) -/

/-- The sum of a patch, none where a sample does not count. `y row col` is a Y sample of the frame, none where it is missing. -/
def patchSum (y : Nat → Nat → Option Nat) (r0 c0 : Nat) : Option Nat :=
  ([0, 1, 2, 3].flatMap fun i => [0, 1, 2, 3].map fun j => y (r0 + i) (c0 + j)).foldl
    (fun a v => match a, v with
      | some a, some v => some (a + v)
      | _, _ => none) (some 0)

/-- The sums of the 64 patches of a context. -/
def patchSums (l : Latch) (e c : Nat) (y : Nat → Nat → Option Nat) : List (Option Nat) :=
  let f := fun (g : Field) => l.field (lhPage e) (g.nth c)
  (List.range 64).map fun i =>
    patchSum y (f Lighthouse.FRZ_ORG_Y0 + i / 8 * f Lighthouse.FRZ_STEP_SY) (f Lighthouse.FRZ_ORG_X0 + i % 8 * f Lighthouse.FRZ_STEP_SX)

/-- Patches compared and patches still, of two frames (R435, R436). -/
def stillCount (clip floor : Nat) (now prev : List (Option Nat)) : Nat × Nat :=
  (now.zip prev).foldl (fun a e => match e with
    | (some v, some w) =>
      if clip ≤ v || clip ≤ w then a else (a.1 + 1, if (max v w - min v w) ≤ floor then a.2 + 1 else a.2)
    | _ => a) (0, 0)

/-- A frame of a stream has been processed: the detectors of its parts (engine, context, latched registers, patch sums)
judge it together; true where the frame carries FROZEN (R435, R436). -/
def State.judgeFrozen (s : State) (l : Latch) (parts : List (Nat × Nat × List (Option Nat))) : Bool × State :=
  match parts with
  | [] => (false, s)
  | (e0, c0, _) :: _ =>
    let f := fun (g : Field) => l.field (lhPage e0) (g.nth c0)
    let on := f Lighthouse.LH_CFG_FRZ_EN != 0
    let counts := parts.map fun (e, c, now) =>
      if on then stillCount (f Lighthouse.FRZ_CLIP_CLIP_SUM) (f Lighthouse.FRZ_FLOOR_FLOOR) now (s.lhCtx e c).prev else (0, 0)
    let compared := (counts.map (·.1)).sum
    let still := (counts.map (·.2)).sum
    let least := f Lighthouse.LH_CFG_STILL_MIN
    let run := if on && decide (least ≤ compared) && decide (least ≤ still) then
        min 255 (s.get (lhPage e0) (Lighthouse.FRZ_STAT_RUN.nth c0) + 1) else 0
    let frozen := on && decide (f Lighthouse.LH_CFG_FRZ_RUN ≤ run)
    let starts := frozen && !(s.lhCtx e0 c0).frozen
    (frozen, parts.foldl (fun s (p : Nat × Nat × List (Option Nat)) =>
      let s := s.putLhCtx p.1 p.2.1 { s.lhCtx p.1 p.2.1 with prev := if on then p.2.2 else [], frozen := frozen }
      let s := s.put (lhPage p.1) (Lighthouse.FRZ_STAT_RUN.nth p.2.1) run
      let s := s.put (lhPage p.1) (Lighthouse.FRZ_STAT_COMPARED.nth p.2.1) compared
      let s := s.put (lhPage p.1) (Lighthouse.FRZ_STAT_STILL.nth p.2.1) still
      s.eventIf starts (lhPage p.1) 0) s)

/-- The engines of a frame's parts show whether it carried SENSOR_BAD (R434): each frame that does raises SENSOR_CHECK (R478). -/
def State.judgeSensor (s : State) (parts : List (Nat × Nat)) (bad : Bool) : State :=
  parts.foldl (fun s (e : Nat × Nat) =>
    let was := s.condBit (lhPage e.1) 2
    let s := s.putLhCtx e.1 e.2 { s.lhCtx e.1 e.2 with sensorBad := bad }
    if bad then s.again (lhPage e.1) 2 was else s) s

/-! ## Twins (R432) -/

/-- One tide of a family of the live plan, ns. -/
def State.tideNs (s : State) (f : Nat) : Nat := match s.tide.livePlan with
  | none => 0
  | some p => if (p.family f).n = 0 then 0 else p.period / (p.family f).n

/-- A comparison of two halves' records (R432): it enters the health report (R465), and the fail-over policy counts those that differ
in a row (R546). -/
def State.noteTwin (s : State) (differ : Bool) : State :=
  let c := s.cores
  let run := if differ then c.differRun + 1 else 0
  let act := c.differAction && decide (c.differLimit ≤ run)
  let s := { s with cores := { c with differRun := run, ownsRevert := c.ownsRevert || act } }
  let s := if act then s.put 0x40 Seawall.SW_CFG_REVERT_EN 0 else s
  if differ then (s.noteHalf 0 fun t => { t with differ := true }).noteHalf 1 fun t => { t with differ := true } else s

/-- A record of a sentinel output that carries neither TRUNC nor PARTIAL has been issued: it is compared with its twin of
the other half where that was issued within one tide, else it waits for it. -/
def State.compareTwin (s : State) (family : Nat) (t : TwinRecord) : State :=
  let near := fun u : TwinRecord => decide (t.issued - u.issued ≤ s.tideNs family)
  let twin := fun u : TwinRecord => u.stream == t.stream && u.out == t.out && u.seq == t.seq && u.half != t.half
  let rest := s.light.twins.filter (fun u => u.stream != t.stream || near u)
  match rest.find? twin with
  | none => { s with light := { s.light with twins := rest ++ [t] } }
  | some u =>
    let differ := u.pcrc != t.pcrc
    let s := ({ s with light := { s.light with twins := rest.filter (fun v => v != u) } }).noteTwin differ
    [u, t].foldl (fun s v =>
      let was := s.condBit (lhPage v.cove) 1
      let s := s.putLhCtx v.cove v.context { s.lhCtx v.cove v.context with differ := differ }
      if differ then ((s.countSat (lhPage v.cove) (Lighthouse.HALF_DIFF_COUNT.nth v.context)).event (lhPage v.cove) 2).again (lhPage v.cove) 1 was else s) s

/-! ## What a receiver does (R437, R438): outside the device, and what the chain is made for -/

/-- What a receiver keeps of one output (R437). -/
structure Receiver where
  haveChain : Bool := false
  lastSig : Nat := 0
  lastSeq : Nat := 0
  lastTide : Nat := 0
  accepted : List Nat := []
  dropped : Nat := 0
deriving DecidableEq, Repr

/-- How a receiver answers a record (R437). -/
inductive ReceiverAnswer
  /-- The record's own check value is wrong. -/
  | rejectedCheck
  /-- Its SEQ was accepted before. -/
  | duplicate
  /-- Its SEQ or its TIDE does not follow. -/
  | stale
  /-- SIG does not follow from PREV. -/
  | chainBreak
  /-- The receiver has no chain. -/
  | noChain
  /-- The record is accepted. -/
  | accepted
deriving DecidableEq, Repr

/-- A receiver takes a record's 64 bytes (R437). -/
def Receiver.take (v : Receiver) (b : List Byte) : ReceiverAnswer × Receiver :=
  let seq := fieldLE b 0x04 4
  let tide := fieldLE b 0x08 4
  let flags := fieldLE b 0x0C 2
  let sig := fieldLE b 0x38 4
  let resets := hasBit flags 8
  let block := fun prev => sigBlock prev (fieldLE b 0 1) (fieldLE b 1 1 % 4) flags seq tide (fieldLE b 0x10 8) (fieldLE b 0x30 4) (fieldLE b 0x34 4)
  let keep := fun (d : Nat) => { v with haveChain := true, lastSig := sig, lastSeq := seq, lastTide := tide, accepted := seq :: v.accepted, dropped := v.dropped + d }
  if fieldLE b 0x3C 4 != crc32c (b.take 60) then (.rejectedCheck, v)
  else if v.haveChain && v.accepted.contains seq then (.duplicate, v)
  else if v.haveChain && !resets then
    if decide (signedDiff seq v.lastSeq ≤ 0) || decide (signedDiff tide v.lastTide ≤ 0) then (.stale, v)
    else if sig != crc32c (block v.lastSig) then (.chainBreak, { v with haveChain := false })
    else (.accepted, keep ((seq + 2 ^ 32 - v.lastSeq - 1) % 2 ^ 32))
  else if resets then
    if sig != crc32c (block 0) then (.chainBreak, v) else (.accepted, keep 0)
  else (.noChain, v)

/-- The class of an accepted record (R438). -/
inductive RecordClass
  /-- FROZEN, or SENSOR_BAD. -/
  | notLive
  /-- The payload knowingly carries repeated lines. -/
  | held
  /-- PCRC differs from the payload received. -/
  | altered
  /-- TRUNC or PARTIAL. -/
  | incomplete
  /-- Shown live and unaltered. -/
  | proven
deriving DecidableEq, Repr

/-- R438: the class of an accepted record with the payload received. -/
def recordClass (b payload : List Byte) : RecordClass :=
  let flags := fieldLE b 0x0C 2
  if hasBit flags 11 || hasBit flags 10 then .notLive
  else if hasBit flags 3 then .held
  else if fieldLE b 0x34 4 != crc32c payload then .altered
  else if hasBit flags 0 || hasBit flags 1 then .incomplete
  else .proven

/-! ## Sounding (R439 to R450) -/

/-- The page of Sounding unit u. -/
def sdPage (u : Nat) : Nat := Block.page .sounding u

/-- A Sounding result over bytes, by POLY (R442). -/
def soundCrc (poly : Nat) (bs : List Byte) : Nat := match poly with
  | 0 => crc32c bs
  | 1 => crc32 bs
  | _ => crc16 bs

/-- The bytes folded before the data (R441). -/
def foldBytes (fold addr seq : Nat) : List Byte :=
  (if fold.testBit 0 then toBytesLE 8 addr else []) ++ (if fold.testBit 1 then toBytesLE 4 seq else [])

/-- The taps that a unit of work of channel c takes when its first byte is moved (R439, R444). -/
def State.soundTaps (s : State) (c : Nat) : List Tap :=
  ((List.range 64).filter (fun u => s.flag (sdPage u) Sounding.SD_CFG_EN && s.get (sdPage u) Sounding.SD_CFG_CHAN == c)).map
    fun u => { unit := u, poly := s.get (sdPage u) Sounding.SD_CFG_POLY, fold := s.get (sdPage u) Sounding.SD_CFG_FOLD,
               exp := s.get (sdPage u) Sounding.SD_CFG_EXP_SRC }

/-- A tapped unit of work does not run to its end (R440). -/
def State.soundAbandon (s : State) (taps : List Tap) : State :=
  taps.foldl (fun s t => (s.countSat (sdPage t.unit) Sounding.SD_ABANDON_COUNT).event (sdPage t.unit) 2) s

/-- A mismatch of unit u (R443). -/
def State.soundMismatch (s : State) (u result expect seq : Nat) : State :=
  let p := sdPage u
  let s := (s.countSat p Sounding.SD_MISMATCH_COUNT).event p 1
  if s.flag p Sounding.SD_MM_INFO_VALID then (s.put p Sounding.SD_MM_INFO_OVERFLOW 1).occur p 0
  else
    let s := (s.put p Sounding.SD_MM_RESULT_VALUE result).put p Sounding.SD_MM_EXPECT_VALUE expect
    let s := (s.put p Sounding.SD_MM_SEQ_SEQ seq).put p Sounding.SD_MM_INFO_VALID 1
    (s.putMarks p { s.marks p with present := setBit (s.marks p).present 0 }).occur p 0

/-- A unit of work with taps has run to its end (R440 to R443): `frame` is the SEQ and the PCRC of a frame's record. -/
def State.soundResults (s : State) (taps : List Tap) (addr : Nat) (frame : Option (Nat × Nat)) (bytes : List Byte) : State :=
  taps.foldl (fun s t =>
    let p := sdPage t.unit
    let seq := match frame with
      | some (n, _) => n
      | none => s.get p Sounding.SD_DONE_COUNT
    let result := soundCrc t.poly (foldBytes t.fold addr seq ++ bytes)
    let s := ((s.put p Sounding.SD_RESULT_VALUE result).countWrap p Sounding.SD_DONE_COUNT).event p 0
    let expect : Option Nat := match t.exp, frame with
      | 1, _ => some (s.get p Sounding.SD_EXPECT_VALUE)
      | 2, _ => if s.flag p Sounding.SD_ARM_ARM then some (s.get p Sounding.SD_EXPECT_VALUE) else none
      | 3, some (_, pcrc) => some pcrc
      | _, _ => none
    let s := if t.exp = 2 then s.put p Sounding.SD_ARM_ARM 0 else s
    match expect with
    | none => s
    | some v => if v = result then s else s.soundMismatch t.unit result v seq) s

/-- Abandon the work in progress of unit u: every channel drops the unit's taps. -/
def State.dropTaps (s : State) (u : Nat) : State :=
  let has := fun r : DriftRun => r.taps.any (·.unit == u)
  let cut := fun r : DriftRun => { r with taps := r.taps.filter (·.unit != u) }
  let n := (s.channels.map fun e => ((e.2.cur.toList ++ e.2.drain).filter has).length).sum
  let s := { s with channels := s.channels.map fun e => (e.1, { e.2 with cur := e.2.cur.map cut, drain := e.2.drain.map cut }) }
  (List.replicate n u).foldl (fun s u => s.soundAbandon [{ unit := u, poly := 0, fold := 0, exp := 0 }]) s

/-- SOUNDING_CONFIG_WRITE: a write of SD_CFG of unit u (R443, R444). -/
def execSoundingConfigWrite (req : Requester) (u : Fin 64) (w : Word) (s : State) : Result :=
  .next <| s.onWrite req (regOff (sdPage u) Sounding.SD_CFG_EN) fun s =>
    let p := sdPage u
    let v := w.toNat
    let was := s.flag p Sounding.SD_CFG_EN
    let poly := if bitsOf v 30 29 = 3 then s.get p Sounding.SD_CFG_POLY else bitsOf v 30 29
    let fold := bitsOf v 28 27
    let exp := bitsOf v 26 25
    let clash := exp == 3 && (poly != 0 || fold != 0)
    let chan := bitsOf v 9 0
    let away := chan / 512 != u.val / 32
    let s := s.eventIf (bitsOf v 30 29 == 3 || clash || away) p 3
    let s := if clash then s
      else ((s.put p Sounding.SD_CFG_POLY poly).put p Sounding.SD_CFG_FOLD fold).put p Sounding.SD_CFG_EXP_SRC exp
    let s := if away then s else s.put p Sounding.SD_CFG_CHAN chan
    let on := v.testBit 31
    let s := s.put p Sounding.SD_CFG_EN (bit on)
    let s := if on && !was then s.put p Sounding.SD_DONE_COUNT 0 else s
    if !on && was then s.dropTaps u else s

/-- SOUNDING_ARM: a write of SD_ARM with ARM = 1 (R443). -/
def execSoundingArm (req : Requester) (u : Fin 64) (s : State) : Result :=
  .next <| s.onWrite req (regOff (sdPage u) Sounding.SD_ARM_ARM) fun s => s.put (sdPage u) Sounding.SD_ARM_ARM 1

end Sys2Proof.Machine
end

