-- ==== Sys2Proof/Machine/Drift.lean ====
section
/-!
DEFINITION. Sys2Proof/Machine/Drift.lean: the Drift's channels: descriptors, triggers, frames, bursts, completion, halt, pause
and abort (R315 to R344).
-/
namespace Sys2Proof.Machine

/-- The page of Drift channel c. -/
def chPage (c : Nat) : Nat := Block.page .drift c

/-- A channel. -/
def State.ch (s : State) (c : Nat) : ChannelSt := SMap.get (fun _ => {}) s.channels c

/-- Store a channel. -/
def State.putCh (s : State) (c : Nat) (x : ChannelSt) : State :=
  { s with channels := SMap.set (fun _ => {}) s.channels c x }

/-- The role of a channel (R315). -/
def State.chRole (s : State) (c : Nat) : Nat := s.live (chPage c) Drift.CH_BIND_ROLE

/-- An output channel with a port destination (R316). -/
def State.chPort (s : State) (c : Nat) : Bool := s.chRole c == 1 && decide (3 ≤ s.live (chPage c) Drift.CH_BIND_DEST)

/-- A field of CH_CFG in force. -/
def State.chCfg (s : State) (c : Nat) (f : Field) : Nat := s.live (chPage c) f

/-- The output channel of a sentinel stream (R324). -/
def State.sentinelOutput (s : State) (c : Nat) : Bool := s.chRole c == 1 && s.sentinelChannel c

/-- CH_CFG.PRIO as it reads (R324). -/
def State.chPrio (s : State) (c : Nat) : Nat := if s.sentinelOutput c then 7 else s.chCfg c Drift.CH_CFG_PRIO

/-- A channel works while its half's fabric is powered (R341). -/
def State.chPowered (s : State) (c : Nat) : Bool := s.powered (54 + c / 512)

/-- CH_AVAIL.COUNT. -/
def State.chCount (s : State) (c : Nat) : Nat := s.get (chPage c) Drift.CH_AVAIL_COUNT

/-- CH_NEXT. -/
def State.chNext (s : State) (c : Nat) : Nat :=
  s.get (chPage c) Drift.CH_NEXT_HI_ADDR * 2 ^ 32 + s.get (chPage c) Drift.CH_NEXT_LO_ADDR * 32

/-- Store CH_NEXT. -/
def State.putNext (s : State) (c a : Nat) : State :=
  (s.put (chPage c) Drift.CH_NEXT_LO_ADDR (a / 32)).put (chPage c) Drift.CH_NEXT_HI_ADDR (a / 2 ^ 32)

/-- Descriptors and frames in hand, oldest first. -/
def ChannelSt.runs (x : ChannelSt) : List DriftRun := x.drain ++ x.cur.toList

/-- Change the one of a serial number. -/
def ChannelSt.modRun (x : ChannelSt) (serial : Nat) (g : DriftRun → DriftRun) : ChannelSt :=
  let f := fun r : DriftRun => if r.serial = serial then g r else r
  { x with cur := x.cur.map f, drain := x.drain.map f }

/-- Does a channel act as a port's (R315, R316)? Work in hand runs under its old role. -/
def State.portNow (s : State) (c : Nat) : Bool := match (s.ch c).runs with
  | [] => s.chPort c
  | r :: _ => r.port.isSome

/-- Does a channel act as an output channel (R315)? -/
def State.framesNow (s : State) (c : Nat) : Bool := match (s.ch c).runs with
  | [] => s.chRole c == 1
  | r :: _ => r.kind == 1

/-- Bursts in flight. -/
def ChannelSt.flying (x : ChannelSt) : List DriftBurst := x.bursts.filter (·.flying)

/-- Has every byte of a descriptor been issued (R327)? -/
def DriftRun.issued (r : DriftRun) : Bool :=
  if r.kind = 1 then r.recorded && r.wq.isEmpty
  else r.started && ((List.range r.wrote.length).all fun d => hasBit r.failed d || r.wrote.getD d 0 == r.len)

/-- CH_STAT.STATE (R327). -/
def State.chState (s : State) (c : Nat) : Nat :=
  let x := s.ch c
  if s.portNow c then 10
  else if x.aborting then 9
  else if x.halted then 8
  else if x.paused then 7
  else if x.pausing then 6
  else match x.cur with
    | some r =>
      if r.kind = 1 then (if r.frame.isNone then 3 else if r.issued then (if x.ahead.isSome then 3 else 5) else 4)
      else if !r.started then 2 else if r.issued then 5 else 4
    | none => if s.chCount c ≠ 0 ∧ s.planLive then 1 else if x.drain.isEmpty then 0 else 5

/-- Bytes read and not yet issued as writes (R322). -/
def ChannelSt.held (x : ChannelSt) : Nat := (x.runs.map (·.hold.length)).sum

/-- CH_STAT, CH_CMD and the condition CH_HALT as they now are. -/
def State.judgeCh (s : State) (c : Nat) : State :=
  let x := s.ch c
  let s := s.put (chPage c) Drift.CH_STAT_STATE (s.chState c)
  let s := s.put (chPage c) Drift.CH_STAT_INFLIGHT x.flying.length
  let s := s.put (chPage c) Drift.CH_STAT_HOLD_BYTES x.held
  (s.put (chPage c) Drift.CH_CMD_PAUSE (bit (x.pausing && !x.paused))).put (chPage c) Drift.CH_CMD_ABORT (bit x.aborting)
    |>.cond (chPage c) 0 x.halted

/-! ## Loss and halt (R328, R335) -/

/-- A frame of the channel is lost (R328): the rest of it is discarded as it arrives. -/
def State.loseFrame (s : State) (c key : Nat) (noDesc : Bool) : State :=
  let s := s.putCh c { s.ch c with lost := (key :: (s.ch c).lost).take 4 }
  ((s.countSat (chPage c) Drift.CH_LOST_COUNT).eventIf noDesc (chPage c) 3).report (chPage c) 1

/-- A FRAME descriptor in hand is to take the next frame: nothing of the frame it had stays (R328, R335). One behind which the next is already
receiving comes next; a descriptor fetched ahead is then handed back. -/
def State.rewindFrame (s : State) (c : Nat) (r : DriftRun) : State :=
  let x := s.ch c
  let s := s.soundAbandon r.taps
  let fresh := { r with serial := x.nextSerial, frame := none, recorded := false, wq := [], taps := [], seen := [],
                        lastHost := none, flushed := false, wrote := [0], failed := 0 }
  let x := { x with nextSerial := x.nextSerial + 1, bursts := x.bursts.filter (fun b => b.flying || b.serial != r.serial) }
  if (x.cur.map (·.serial)) = some r.serial then s.putCh c { x with cur := if r.port.isSome then none else some fresh }
  else
    let drain := x.drain.filter (fun q => q.serial != r.serial)
    if r.port.isSome then s.putCh c { x with drain }
    else
      let s := s.putCh c { x with drain, ahead := some fresh }
      match x.ahead with
      | none => s
      | some a => (s.put (chPage c) Drift.CH_AVAIL_COUNT (min 65535 (s.chCount c + 1))).putNext c a.addr

/-- A halt ends what Sounding units take of the descriptors in hand (R440). -/
def State.untap (s : State) (c : Nat) : State :=
  let copies := fun (r : DriftRun) => r.kind != 1 && !r.taps.isEmpty
  let s := ((s.ch c).runs.filter copies).foldl (fun s r => s.soundAbandon r.taps) s
  let cut := fun (r : DriftRun) => if copies r then { r with taps := [] } else r
  s.putCh c { s.ch c with cur := (s.ch c).cur.map cut, drain := (s.ch c).drain.map cut }

/-- The channel halts (R335). -/
def State.haltCh (s : State) (c cause addr tries : Nat) (write : Bool) (mcFail : Nat) : State :=
  let p := chPage c
  let s := (s.put p Drift.CH_ERR_CAUSE cause).put p Drift.CH_ERR_TRIES tries
  let s := (s.put p Drift.CH_ERR_WRITE (bit write)).put p Drift.CH_ERR_MC_FAIL mcFail
  let s := (s.put p Drift.CH_ERR_ADDR_LO_ADDR addr).put p Drift.CH_ERR_ADDR_HI_ADDR (addr / 2 ^ 32)
  let s := (s.put p Drift.CH_ERR_VALID 1).event p 0
  let s := (s.putCh c { s.ch c with halted := true }).untap c
  let s := match (s.ch c).cur with
    | some r => match r.frame with
      | some key => if r.kind = 1 && !r.issued then (s.loseFrame c key false).rewindFrame c r else s
      | none => s
    | none => s
  s.judgeCh c

/-! ## Triggers (R326) -/

/-- A trigger is counted; one beyond 15 is lost. -/
def State.trigger (s : State) (c : Nat) : State :=
  let n := s.get (chPage c) Drift.CH_STAT_TRIG_PEND
  if n = 15 then s.event (chPage c) 4 else s.put (chPage c) Drift.CH_STAT_TRIG_PEND (n + 1)

/-- The channels whose START_SRC in force is a code. -/
def State.triggered (s : State) (code : Nat) : List Nat :=
  (s.regs.filter (fun e => e.1 == liveKey (e.1 / 0x8000) Drift.CH_CFG_START_SRC && decide (0x1000 ≤ e.1 / 0x8000) &&
    e.2 == code)).map (fun e => e.1 / 0x8000 - 0x1000)

/-- Owe a trigger to every channel of a START_SRC that `p` names. -/
def State.oweTriggers (s : State) (code : Nat) (p : Nat → Bool) : State :=
  ((s.triggered code).filter p).foldl (fun s c => s.owe (.trigger c)) s

/-- A descriptor's completion pulse (R333). -/
def State.pulseCh (s : State) (c : Nat) : State :=
  let s := (s.pulseSources c).oweTriggers 4 (fun k => k / 512 == c / 512 && s.chCfg k Drift.CH_CFG_TRIG_CH == c % 512)
  if s.x16 then s.owe (.msix 0 c) else s.owe (.msix (c / 512) c)

/-! ## Progress (R326, R329, R331) -/

/-- A COPY or IMMEDIATE descriptor in hand starts where its trigger and its fence allow (R326, R331). -/
def State.startRun (s : State) (c : Nat) : State :=
  let x := s.ch c
  match x.cur with
  | none => s
  | some r =>
    if r.kind = 1 || r.started || x.halted || x.aborting || x.paused || x.pausing then s
    else
      let pend := s.get (chPage c) Drift.CH_STAT_TRIG_PEND
      let need := match s.chCfg c Drift.CH_CFG_PACE with
        | 0 => r.wait
        | 1 => true
        | _ => r.first
      if (r.fence || r.kind == 2) && !x.drain.isEmpty then s
      else if need && pend == 0 then s
      else
        let s := if need then s.put (chPage c) Drift.CH_STAT_TRIG_PEND (pend - 1) else s
        s.putCh c { x with cur := some { r with started := true } }

/-- Is a descriptor complete (R331)? -/
def ChannelSt.complete (x : ChannelSt) (r : DriftRun) : Bool :=
  r.issued && !x.bursts.any (fun b => b.serial == r.serial) && (r.lastHost.isNone || r.flushed)

/-- The address that FOLD folds (R441): DST, or the first pair's. -/
def DriftRun.dstAddr (r : DriftRun) : Nat := if r.sgDst then (r.dst.segs.head?.map (·.1)).getD 0 else r.dstField

/-- The oldest descriptor of the channel has reached its end: it completes, or its multicast failures halt it (R321, R331,
R333). -/
def State.finishRun (s : State) (c : Nat) (r : DriftRun) : State :=
  let x := s.ch c
  let all := 2 ^ r.wrote.length - 1
  let at_ := s.get (chPage c) Drift.CH_ERR_ADDR_LO_ADDR + s.get (chPage c) Drift.CH_ERR_ADDR_HI_ADDR * 2 ^ 32
  let out := fun (s : State) => s.putCh c { s.ch c with
    drain := x.drain.filter (fun q => q.serial != r.serial)
    cur := if (x.cur.map (·.serial)) == some r.serial then x.ahead else x.cur
    ahead := if (x.cur.map (·.serial)) == some r.serial then none else x.ahead }
  if r.failed ≠ 0 ∧ r.failed = all then s.haltCh c 2 at_ 0 true r.failed
  else if r.failed ≠ 0 ∧ s.chCfg c Drift.CH_CFG_MC_HALT = 1 then s.haltCh c 6 at_ 0 true r.failed
  else
    let s := s.eventIf (r.failed != 0) (chPage c) 5
    let s := if r.kind = 1 then s else s.soundResults r.taps r.dstAddr none ((sortedBytes r.seen).take r.len)
    let s := out s
    if (r.evt || r.kind == 1) && r.port.isNone then s.pulseCh c else s

/-- Is a frame bound and not yet complete? -/
def ChannelSt.frameInHand (x : ChannelSt) : Bool := !x.drain.isEmpty || (x.cur.any fun r => r.frame.isSome)

/-- What follows by itself in a channel, `fuel` descriptors long. -/
def State.progress (s : State) (c : Nat) : Nat → State
  | 0 => s
  | fuel + 1 =>
    let s := s.startRun c
    let x := s.ch c
    let x := match x.cur with
      | some r => if r.kind ≠ 1 && r.issued then { x with cur := none, drain := x.drain ++ [r] } else x
      | none => x
    let s := s.putCh c x
    if x.halted || x.aborting then s
    else match x.runs.head? with
      | none => s
      | some r => if x.complete r then (s.finishRun c r).progress c fuel else s

/-- A list that fails is met once everything before it has been moved (R320). -/
def State.listHalt (s : State) (c : Nat) : State :=
  let x := s.ch c
  match x.cur with
  | none => s
  | some r =>
    let total := fun (g : Segs) => (g.segs.map (·.2)).sum
    let quiet := !x.bursts.any (fun b => b.serial == r.serial)
    if !r.started || r.kind ≠ 0 || x.halted || x.aborting || !quiet then s
    else match r.src.fail, r.dst.fail with
      | some (cause, a), _ => if r.rd = total r.src ∧ r.hold.length < 2 ^ r.dstW then s.haltCh c cause a 0 false 0 else s
      | none, some (cause, a) => if r.mc || r.wrote.getD 0 0 = total r.dst then s.haltCh c cause a 0 true 0 else s
      | none, none => s

/-- Settle a channel: everything that follows by itself, then its state (R327, R336). -/
def State.settleCh (s : State) (c : Nat) : State :=
  let s := (s.progress c 8).listHalt c
  let x := s.ch c
  let still := if s.framesNow c then !x.frameInHand else x.flying.isEmpty
  let s := if x.pausing && !x.paused && still then (s.putCh c { x with paused := true }).event (chPage c) 1 else s
  let x := s.ch c
  let idle := x.cur.isNone && x.ahead.isNone && x.drain.isEmpty && s.chCount c == 0
  (s.putCh c { x with fromIdle := x.fromIdle || idle }).judgeCh c

/-! ## Descriptors (R318 to R321, R325) -/

/-- A descriptor of 32 bytes, as R318 lays it out; the lists of a COPY are still to be read (R320). -/
def decodeDesc (b : List Byte) (serial addr cls : Nat) (first : Bool) : DriftRun :=
  let ctrl := fieldLE b 8 4
  let mc := ctrl.testBit 22
  let len := fieldLE b 12 4
  let side := fun (list : Bool) (a : Nat) => if list then { more := true, left := len : Segs } else { segs := [(a, len)] }
  { serial, addr, cls, first
    next := fieldLE b 0 8, kind := bitsOf ctrl 31 28, wait := ctrl.testBit 27, fence := ctrl.testBit 26
    evt := ctrl.testBit 25, mc, sgDst := ctrl.testBit 23, srcW := bitsOf ctrl 21 19, dstW := bitsOf ctrl 18 16
    len, srcField := fieldLE b 16 8, dstField := fieldLE b 24 8, src := side (ctrl.testBit 24) (fieldLE b 16 8)
    dst := side (ctrl.testBit 23) (fieldLE b 24 8) }

/-- Does a descriptor pass the checks of R319? `ctrl` is its CTRL word. -/
def descOk (role outBytes ctrl : Nat) (r : DriftRun) : Bool :=
  let sgSrc := ctrl.testBit 24
  decide (r.kind ≤ 2) && r.srcW != 7 && r.dstW != 7 && decide (r.next < 2 ^ 52) && r.next % 32 == 0 && ctrl % 2 ^ 16 == 0 &&
  ((role == 1) == (r.kind == 1)) && r.len != 0 &&
  (r.kind != 0 || (r.len % 2 ^ r.srcW == 0 && r.len % 2 ^ r.dstW == 0 && (sgSrc || r.srcField % 2 ^ r.srcW == 0) &&
    (r.sgDst || r.dstField % 2 ^ r.dstW == 0))) &&
  (!r.mc || (r.kind == 0 && r.sgDst)) &&
  (r.kind != 1 || (decide (outBytes ≤ r.len) && r.srcField % 64 == 0)) &&
  (r.kind != 2 || (decide (r.len ≤ 8) && r.dstField / 8 == (r.dstField + r.len - 1) / 8))

/-- The next pair of a list at `base` has been read (R320, R321): `w` is the width of its side in bytes, `each` what every pair of a multicast
list is to hold. A pair that fails, or that is the last too early, ends the list. -/
def Segs.take (g : Segs) (base w : Nat) (each : Option Nat) (b : List Byte) : Segs :=
  let a := fieldLE b 0 8
  let n := fieldLE b 8 4
  let flags := fieldLE b 12 4
  let bad := decide (2 ^ 52 ≤ a) || n == 0 || decide (1 < flags) || a % w != 0 || n % w != 0 || base % 16 != 0 || each.any (n < ·)
  let here := some (4, base + 16 * g.next)
  let past := some (4, base + 16 * (g.next + 1))
  if bad then { g with more := false, fail := here }
  else match each with
    | some len =>
      let g' := { g with segs := g.segs ++ [(a, len)], next := g.next + 1 }
      if flags = 1 then { g' with more := false } else if g.next + 1 = 4 then { g' with more := false, fail := past } else g'
    | none =>
      let g' := { g with segs := g.segs ++ [(a, min n g.left)], next := g.next + 1, left := g.left - n }
      if g'.left = 0 then { g' with more := false }
      else if flags = 1 then { g' with more := false, fail := here }
      else if g.next + 1 = 65536 then { g' with more := false, fail := past }
      else g'

/-- A list fails in translation at its next pair (R305, R317). -/
def Segs.cut (g : Segs) (base : Nat) : Segs := { g with more := false, fail := some (2, base + 16 * g.next) }

/-- A pair of a list of a descriptor has come, or, without bytes, has failed in translation (R320, R321). -/
def DriftRun.takePair (r : DriftRun) (source : Bool) (b : Option (List Byte)) : DriftRun :=
  let each := if r.mc then some r.len else none
  if source then { r with src := match b with
      | some b => r.src.take r.srcField (2 ^ r.srcW) none b
      | none => r.src.cut r.srcField }
  else
    let dst := match b with
      | some b => r.dst.take r.dstField (2 ^ r.dstW) each b
      | none => r.dst.cut r.dstField
    { r with dst, wrote := if r.mc && !dst.more && dst.fail.isNone then List.replicate dst.segs.length 0 else r.wrote }

/-- Can a channel take another descriptor in hand (R325)? -/
def State.mayFetch (s : State) (c : Nat) : Bool :=
  let x := s.ch c
  s.planLive && !s.terminal && s.chPowered c && !s.chPort c && !s.portNow c && s.chCount c != 0 && !x.halted && !x.aborting && !x.paused &&
    !x.pausing && (if s.chRole c = 1 then x.cur.isNone || (x.ahead.isNone && x.cur.any (·.frame.isSome)) else x.cur.isNone)

/-- A descriptor that passed is in hand. -/
def State.takeDesc (s : State) (c : Nat) (r : DriftRun) : State :=
  let x := s.ch c
  let s := s.put (chPage c) Drift.CH_AVAIL_COUNT (s.chCount c - 1)
  let s := (s.putNext c r.next).putCh c { x with
    cur := if x.cur.isNone then some r else x.cur
    ahead := if x.cur.isNone then none else some r
    nextSerial := x.nextSerial + 1, fromIdle := false }
  (s.put (chPage c) Drift.CUR_DESC_LO_ADDR r.addr).put (chPage c) Drift.CUR_DESC_HI_ADDR (r.addr / 2 ^ 32)
    |>.put (chPage c) Drift.CUR_DONE_BYTES 0

/-- A descriptor has been read (R319, R325): it is in hand, or halts the channel. -/
def State.descRead (s : State) (c : Nat) (addr : Nat) (b : List Byte) : State :=
  let r := decodeDesc b (s.ch c).nextSerial addr (s.live (chPage c) Drift.CH_BIND_CLASS) (s.ch c).fromIdle
  if descOk (s.chRole c) (s.live (chPage c) Drift.CH_OUT_BYTES_BYTES) (fieldLE b 8 4) r then s.takeDesc c r
  else
    let s := (s.put (chPage c) Drift.CUR_DESC_LO_ADDR addr).put (chPage c) Drift.CUR_DESC_HI_ADDR (addr / 2 ^ 32)
    s.haltCh c 3 addr 0 false 0

/-! ## Software's writes (R325, R335 to R338) -/

/-- DRIFT_ADD: a write of CH_AVAIL adds descriptors (R325). -/
def execDriftAdd (req : Requester) (c : Fin 1024) (w : Word) (s : State) : Result :=
  .next <| s.onWrite req (regOff (chPage c) Drift.CH_AVAIL_ADD) fun s =>
    if s.portNow c then s.event (chPage c) 6
    else
      let sum := s.chCount c + bitsOf w.toNat 31 16
      let s := s.eventIf (decide (65535 < sum)) (chPage c) 6
      (s.put (chPage c) Drift.CH_AVAIL_COUNT (min sum 65535)).judgeCh c

/-- DRIFT_SET_NEXT: a write of CH_NEXT_LO, or of CH_NEXT_HI, which hands the pair over (R336). -/
def execDriftSetNext (req : Requester) (c : Fin 1024) (high : Bool) (w : Word) (s : State) : Result :=
  .next <| s.onWrite req (regOff (chPage c) (if high then Drift.CH_NEXT_HI_ADDR else Drift.CH_NEXT_LO_ADDR)) fun s =>
    let x := s.ch c
    if s.portNow c || !(s.chState c == 0 || s.chState c == 7) then s.event (chPage c) 6
    else if high then
      let lo := x.nextLo.getD (s.get (chPage c) Drift.CH_NEXT_LO_ADDR * 32)
      let stale := fun b : DriftBurst => b.kind == 6 && !b.flying
      (s.putNext c (w.toNat % 2 ^ 20 * 2 ^ 32 + lo)).putCh c { x with nextLo := none, bursts := x.bursts.filter (fun b => !stale b) }
    else s.putCh c { x with nextLo := some (w.toNat / 32 * 32) }

/-- What RESUME restarts of a descriptor (R335): its list at the pair that failed; of a multicast that has come to its end, the destinations that
failed, each from its failed write on. DEDUCED: their bytes are read again, from the first of those writes on. -/
def DriftRun.restart (r : DriftRun) : DriftRun :=
  let again := fun g : Segs => { g with more := g.more || g.fail.isSome, fail := none }
  let r := { r with src := again r.src, dst := again r.dst }
  if r.failed = 0 || !r.issued then r
  else
    let wrote := r.wrote.mapIdx fun d w => if hasBit r.failed d then (SMap.get (fun _ => 0) r.failAt d) else w
    let low := wrote.foldl min r.len / 2 ^ r.srcW * 2 ^ r.srcW
    { r with failed := 0, failAt := [], wrote, rd := low, holdAt := low, hold := []
             seen := (r.seen.filter (fun e => decide (e.1 < low))).map fun e => (e.1, e.2.take (low - e.1)) }

/-- The channel leaves a pause or a halt (R335, R336). -/
def State.resumeCh (s : State) (c : Nat) : State :=
  let x := s.ch c
  if x.halted then
    let again := fun b : DriftBurst => if b.flying then b else { b with tries := 0, again := false }
    (s.putCh c { x with halted := false, bursts := x.bursts.map again, cur := x.cur.map (·.restart), drain := x.drain.map (·.restart) }).settleCh c
  else (s.putCh c { x with pausing := false, paused := false }).settleCh c

/-- The channel's abort begins (R337): nothing more is issued; requests in flight end with their entries (R302), and what returns of them is late
(R301). -/
def State.abortCh (s : State) (c : Nat) : State :=
  let x := s.ch c
  let h := c / 512
  let ended := fun b : DriftBurst => (s.harb h).results.any fun r => r.requester == 2 && r.source == c && r.tag == b.id
  let s := (x.flying.filter (fun b => !ended b)).foldl (fun s b => s.freeHeld b.entry) s
  let s := s.putHarb h { s.harb h with results := (s.harb h).results.filter (fun r => !(r.requester == 2 && r.source == c)) }
  let s := s.put (chPage c) Drift.CH_AVAIL_COUNT 0
  let s := s.putCh c { s.ch c with aborting := true, halted := false, bursts := [], entryWait := false }
  (s.judgeStarved h).judgeCh c

/-- A write of CH_CMD (R326, R335 to R338). -/
def State.commandCh (s : State) (c w : Nat) : State :=
  let x := s.ch c
  let s := if w.testBit 28 then (s.trigger c).settleCh c else s
  if w.testBit 29 then (if s.chState c = 0 || s.portNow c || x.aborting then s else s.abortCh c)
  else if w.testBit 31 && w.testBit 30 then s.event (chPage c) 6
  else if w.testBit 31 then
    if x.halted || x.aborting || x.pausing then s else (s.putCh c { s.ch c with pausing := true }).settleCh c
  else if w.testBit 30 then (if x.aborting then s else s.resumeCh c)
  else s

/-- DRIFT_TRIG: a write of CH_CMD with TRIG = 1 (R326). -/
def execDriftTrig (req : Requester) (c : Fin 1024) (w : Word) (s : State) : Result :=
  .next <| s.onWrite req (regOff (chPage c) Drift.CH_CMD_TRIG) fun s => s.commandCh c (w.toNat ||| 2 ^ 28)

/-- DRIFT_PAUSE: a write of CH_CMD with PAUSE = 1 (R336). -/
def execDriftPause (req : Requester) (c : Fin 1024) (w : Word) (s : State) : Result :=
  .next <| s.onWrite req (regOff (chPage c) Drift.CH_CMD_PAUSE) fun s => s.commandCh c (w.toNat ||| 2 ^ 31)

/-- DRIFT_RESUME: a write of CH_CMD with RESUME = 1 (R335, R336). -/
def execDriftResume (req : Requester) (c : Fin 1024) (w : Word) (s : State) : Result :=
  .next <| s.onWrite req (regOff (chPage c) Drift.CH_CMD_RESUME) fun s => s.commandCh c (w.toNat ||| 2 ^ 30)

/-- DRIFT_ABORT: a write of CH_CMD with ABORT = 1 (R337). -/
def execDriftAbort (req : Requester) (c : Fin 1024) (w : Word) (s : State) : Result :=
  .next <| s.onWrite req (regOff (chPage c) Drift.CH_CMD_ABORT) fun s => s.commandCh c (w.toNat ||| 2 ^ 29)

/-- DRIFT_ABORT_DONE: the requests of an aborted channel have returned (R337). -/
def execDriftAbortDone (c : Fin 1024) (s : State) : Result :=
  .next <|
    let x := s.ch c
    if !x.aborting then s
    else
      let s := x.runs.foldl (fun s r => s.soundAbandon r.taps) s
      let s := s.put (chPage c) Drift.CH_RESIDUE_BYTES x.held
      let s := (x.runs.filterMap (·.frame)).foldl (fun s key => s.loseFrame c key false) s
      let s := s.putCh c { s.ch c with cur := none, ahead := none, drain := [], bursts := [], aborting := false, halted := false
                                       pausing := false, paused := false, fromIdle := true }
      (s.event (chPage c) 2).judgeCh c

/-- DRIFT_TRIGGER: a trigger of its START_SRC reaches channel c (R326): one that is due, or the instant of its timer. -/
def execDriftTrigger (c : Fin 1024) (s : State) : Result :=
  .next <|
    let timer := s.chCfg c Drift.CH_CFG_START_SRC == 3 &&
      ((s.now : Int) - s.chCfg c Drift.CH_TIMER_PHASE_NS) % (s.chCfg c Drift.CH_TIMER_PERIOD_NS : Int) == 0
    if s.due.contains (.trigger c) then (({ s with due := s.due.erase (.trigger c) }).trigger c).settleCh c
    else if timer && s.planLive then (s.trigger c).settleCh c
    else s

/-! ## Frames (R328) -/

/-- An output channel without descriptors takes a frame (R316): what stands in hand for it. -/
def portRun (serial key dest cls : Nat) : DriftRun :=
  { serial, addr := 0, next := 0, kind := 1, wait := false, fence := false, evt := false, mc := false, sgDst := false, srcW := 0,
    dstW := 0, len := 0, srcField := 0, dstField := 0, src := {}, dst := {}, first := false, cls, port := some dest, frame := some key }

/-- Bind a frame at its first handover (R328): to a FRAME descriptor, or, for a port, to none (R316). None where it is not bound: none is fetched, the
channel does not run, or work of another kind is in hand (R315). -/
def State.bindFrame (s : State) (c : Nat) (i : Handed) : Option State :=
  let x := s.ch c
  let taps := s.soundTaps c
  let bind := fun r : DriftRun => { r with frame := some i.key, taps, sentinel := i.sentinel }
  if x.halted || x.aborting || x.pausing || x.paused || !s.planLive || !s.chPowered c then none
  else if 3 ≤ i.dest then
    if x.runs.any (·.port.isNone) then none
    else
      let run := bind (portRun x.nextSerial i.key i.dest (s.live (chPage c) Drift.CH_BIND_CLASS))
      some (s.putCh c { x with drain := x.runs, cur := some run, nextSerial := x.nextSerial + 1 })
  else match x.cur with
    | none => none
    | some r =>
      if r.kind ≠ 1 || r.port.isSome then none
      else if r.frame.isNone then some (s.putCh c { x with cur := some (bind r) })
      else if x.drain.isEmpty then x.ahead.map fun a => s.putCh c { x with drain := [r], cur := some (bind a), ahead := none }
      else none

/-- A unit of a frame in hand. -/
def State.frameUnit (s : State) (c key : Nat) (r : DriftRun) : FrameUnit → State
  | .segment => s
  | .line line off b =>
    let x := (s.ch c).modRun r.serial fun r => { r with seen := if r.taps.isEmpty then r.seen else r.seen ++ [(off, b)] }
    match r.port with
    | some dest => s.putCh c { x with units := x.units ++ [(dest, { stream := key / 2 ^ 32, seq := key % 2 ^ 32, line, off, bytes := b })] }
    | none => s.putCh c (x.modRun r.serial fun r => { r with wq := r.wq ++ [(r.dstField + off, b, false)] })
  | .record off b out parts withheld =>
    let s := s.chainTaken parts out (fieldLE b 0x38 4)
    let s := s.soundResults r.taps r.dstField (some (key % 2 ^ 32, fieldLE b 0x34 4)) (sortedBytes r.seen)
    let s := s.lower (chPage c) 1
    let x := (s.ch c).modRun r.serial fun r => { r with recorded := true, taps := [], seen := [] }
    match r.port with
    | some dest =>
      let u : PortUnit := { stream := key / 2 ^ 32, seq := key % 2 ^ 32, line := 0xFFFF, off, bytes := b, record := true, withheld }
      s.putCh c { x with units := x.units ++ [(dest, u)] }
    | none => s.putCh c (x.modRun r.serial fun r => { r with wq := r.wq ++ [(r.srcField, b, true)] })
  | .withheld b =>
    let s := (s.countSat (chPage c) Drift.CH_REUSED_COUNT).rewindFrame c r
    match r.port with
    | some dest =>
      let u : PortUnit := { stream := key / 2 ^ 32, seq := key % 2 ^ 32, line := 0xFFFF, off := 0, bytes := b, record := true, withheld := true }
      s.putCh c { s.ch c with units := (s.ch c).units ++ [(dest, u)] }
    | none => s

/-- DRIFT_FRAME_UNIT: output channel c takes the next thing a Cove has handed over for it (R328). -/
def execDriftFrameUnit (c : Fin 1024) (s : State) : Result :=
  .next <|
    let x := s.ch c
    match x.inbox with
    | [] => s
    | i :: rest =>
      let s := s.putCh c { x with inbox := rest }
      let mine := fun r : DriftRun => r.frame == some i.key && !r.recorded
      if x.lost.contains i.key then s
      else match x.runs.find? mine with
        | some r => (s.frameUnit c i.key r i.unit).settleCh c
        | none => match s.bindFrame c i with
          | none => (s.loseFrame c i.key true).settleCh c
          | some s => match (s.ch c).cur with
            | none => s
            | some r => (s.frameUnit c i.key r i.unit).settleCh c

/-! ## Bursts (R322 to R324, R332) -/

/-- The segment at a position: its address there, and the bytes left in it. -/
def segAt : List (Nat × Nat) → Nat → Option (Nat × Nat)
  | [], _ => none
  | (a, n) :: r, p => if p < n then some (a + p, n - p) else segAt r (p - n)

/-- A burst not yet issued. -/
def protoBurst (r : DriftRun) (kind ba pos size : Nat) (bytes : List Byte) (dest : Nat) : DriftBurst :=
  { id := 0, serial := r.serial, kind, ba, pos, size, bytes, dest, host := false, addr := 0, entry := none, flying := false }

/-- The size of a burst of at most `n` bytes at an address (R323). -/
def burstSize (code ba n : Nat) : Nat := min n (min (2 ^ (6 + code)) (4096 - ba % 4096))

/-- The next write of a COPY to destination d, where a unit of it is held (R321, R322). -/
def DriftRun.copyWrite (r : DriftRun) (code d : Nat) : Option DriftBurst :=
  let at_ := r.wrote.getD d 0
  let avail := (r.holdAt + r.hold.length - at_) / 2 ^ r.dstW * 2 ^ r.dstW
  let place := if r.mc then (r.dst.segs[d]?).map (fun e => (e.1 + at_, e.2 - at_)) else segAt r.dst.segs at_
  if hasBit r.failed d || avail = 0 || decide (r.len ≤ at_) || (r.mc && (r.dst.more || r.dst.fail.isSome)) then none
  else place.map fun (a, left) =>
    let n := burstSize code a (min avail left)
    protoBurst r 1 a at_ n ((r.hold.drop (at_ - r.holdAt)).take n) d

/-- The next read of a COPY, where the holding register has room (R322); `flying` bytes are on their way. -/
def DriftRun.copyRead (r : DriftRun) (code flying : Nat) : Option DriftBurst :=
  let room := (128 - r.hold.length - flying) / 2 ^ r.srcW * 2 ^ r.srcW
  if room = 0 || decide (r.len ≤ r.rd) then none
  else (segAt r.src.segs r.rd).map fun (a, left) => protoBurst r 0 a r.rd (burstSize code a (min room (min left (r.len - r.rd)))) [] 0

/-- The reads of list pairs that a COPY needs (R320): of the source and of a plain destination once every pair read so far is used up, of a multicast
list until it is whole. -/
def ChannelSt.pairBursts (x : ChannelSt) (r : DriftRun) : List DriftBurst :=
  let asked := fun k : Nat => x.bursts.any (fun b => b.serial == r.serial && b.kind == k)
  let src := r.src.more && (segAt r.src.segs r.rd).isNone && !asked 7
  let dst := r.dst.more && (r.mc || (segAt r.dst.segs (r.wrote.getD 0 0)).isNone) && !asked 8
  (if src then [protoBurst r 7 (r.srcField + 16 * r.src.next) 0 16 [] 0] else []) ++
  (if dst then [protoBurst r 8 (r.dstField + 16 * r.dst.next) 0 16 [] 0] else [])

/-- What a descriptor could issue now. -/
def ChannelSt.runBursts (x : ChannelSt) (code : Nat) (r : DriftRun) : List DriftBurst :=
  if r.kind = 1 then match r.wq with
    | [] => []
    | (a, b, record) :: _ =>
      let n := burstSize code a b.length
      [protoBurst r (if record then 2 else 1) a 0 n (b.take n) 0]
  else if !r.started then []
  else if r.kind = 2 then
    (if r.wrote.getD 0 0 = 0 then [protoBurst r 3 r.dstField 0 r.len (toBytesLE r.len r.srcField) 0] else [])
  else
    let reads := ((x.bursts.filter (fun b => b.serial == r.serial && (b.kind == 0 || b.kind == 5))).map (·.size)).sum
    ((List.range r.wrote.length).filterMap (r.copyWrite code)) ++ (r.copyRead code reads).toList ++ x.pairBursts r

/-- The read of the next descriptor, where one may be fetched (R325). -/
def State.descBurst (s : State) (c : Nat) : List DriftBurst :=
  let x := s.ch c
  if s.mayFetch c && !x.bursts.any (fun b => b.kind == 6) then
    [{ id := 0, serial := x.nextSerial, kind := 6, ba := s.chNext c, pos := 0, size := 32, bytes := [], dest := 0, host := false, addr := 0,
       entry := none, flying := false }]
  else []

/-- The bursts that a channel could issue now (R324, R331, R334 to R337), the oldest work first. -/
def State.readyBursts (s : State) (c : Nat) : List DriftBurst :=
  let x := s.ch c
  if !s.planLive || s.terminal || !s.chPowered c || x.halted || x.aborting || x.paused || (x.pausing && !s.framesNow c) ||
      decide (16 ≤ x.flying.length) then []
  else
    let code := s.chCfg c Drift.CH_CFG_BURST
    let flush := x.runs.filterMap fun r => match r.lastHost with
      | some a => if r.issued && !r.flushed && !x.bursts.any (fun b => b.serial == r.serial) then some { protoBurst r 4 0 0 0 [] 0 with host := true, addr := a } else none
      | none => none
    x.bursts.filter (fun b => !b.flying && b.kind != 5 && (b.kind != 6 || s.mayFetch c)) ++ flush ++ (x.runs.map (x.runBursts code)).flatten ++
      s.descBurst c

/-- The tenant class of a burst (R291, R315): that its descriptor runs under. -/
def State.burstClass (s : State) (c : Nat) (b : DriftBurst) : Nat := match (s.ch c).runs.find? (fun r => r.serial == b.serial) with
  | some r => r.cls
  | none => s.live (chPage c) Drift.CH_BIND_CLASS

/-- Where a burst goes: true and the host address, or false for local memory (a translation that fails is met there). -/
def State.routeOf (s : State) (h : Nat) (b : DriftBurst) : Bool × Nat :=
  if b.kind = 4 then (true, b.addr)
  else match (s.translate h b.ba (b.kind != 0) true 0).1 with
    | .ok r => if r.1 then r else (false, 0)
    | .error _ => (false, 0)

/-- Can a burst be granted on a path (R324), where it needs no more than an entry? Path 0 is the host port, 1 local memory. -/
def State.grantable (s : State) (c path : Nat) (b : DriftBurst) : Bool :=
  let h := c / 512
  let cls := s.burstClass c b
  let route := s.routeOf h b
  let write := 1 ≤ b.kind ∧ b.kind ≤ 3
  if route.1 then path == 0 && s.hostReady h && (decide write || s.readRoom h b.size) && (b.kind == 4 || s.walkServed h b.ba cls)
  else path == 1 && s.ready ⟨.harbour, h, 0⟩ && (s.withinCredit h cls b.size || s.surplusOk h cls b.size)

/-- The burst a channel would issue on a path. -/
def State.readyOn (s : State) (c path : Nat) : Option DriftBurst := (s.readyBursts c).find? (s.grantable c path)

/-- Does an output channel have a unit for a port path: 2 the CSI-2 transmit ports, 3 the Ethernet stream port? -/
def State.unitReady (s : State) (c path : Nat) : Bool :=
  !s.terminal && s.chPowered c && match (s.ch c).units with
  | [] => false
  | (dest, _) :: _ => if path = 2 then dest == 3 || dest == 4 else dest == 5

/-- The channels of half h that a path could serve. -/
def State.contenders (s : State) (h path : Nat) : List Nat :=
  (s.channels.map (·.1)).filter fun c => c / 512 == h && (if path ≤ 1 then (s.readyOn c path).isSome else s.unitReady c path)

/-- The channel a path's arbiter serves next (R324): the highest priority, in turn within one. -/
def State.winner (s : State) (h path : Nat) : Option Nat :=
  let ready := s.contenders h path
  let top := ready.foldl (fun m c => max m (s.chPrio c)) 0
  let best := ready.filter (fun c => s.chPrio c == top)
  let a : ArbiterSt := SMap.get (fun _ => {}) s.arbiters h
  let last := SMap.get (fun _ => 512 * h + 511) a.last (8 * path + top)
  (best.find? (fun c => decide (last < c))).orElse fun _ => best.head?

/-- No entry can be had for a Drift operation of half h (R298): the channels that are ready but for it wait, and each is counted once. -/
def State.awaitEntries (s : State) (h path : Nat) : State :=
  ((s.contenders h path).filter (fun c => !(s.ch c).entryWait)).foldl (fun s c =>
    (s.putCh c { s.ch c with entryWait := true }).countBulkWait h) s

/-- The descriptor of a burst after its bytes have been issued. -/
def DriftRun.afterIssue (r : DriftRun) (b : DriftBurst) (host : Option Nat) : DriftRun :=
  if b.serial ≠ r.serial || 6 ≤ b.kind then r
  else
    let r := if b.kind = 0 then { r with rd := max r.rd (b.pos + b.size) } else r
    let r := match host with
      | some a => if b.kind = 0 || b.kind = 4 then r else { r with lastHost := some a, flushed := false }
      | none => r
    if r.kind = 1 && (b.kind = 1 || b.kind = 2) then
      let r := if b.kind = 1 then { r with wrote := [r.wrote.getD 0 0 + b.size] } else r
      match r.wq with
      | [] => r
      | (a, w, record) :: rest => { r with wq := if b.size < w.length then (a + b.size, w.drop b.size, record) :: rest else rest }
    else if b.kind = 3 then { r with wrote := [r.len], seen := if r.taps.isEmpty then r.seen else [(0, b.bytes)] }
    else if b.kind = 1 then
      let wrote := r.wrote.set b.dest (max (r.wrote.getD b.dest 0) (b.pos + b.size))
      let live := (List.range wrote.length).filter (fun d => !hasBit r.failed d)
      let low := live.foldl (fun m d => min m (wrote.getD d 0)) (r.holdAt + r.hold.length)
      { r with wrote := wrote, hold := r.hold.drop (low - r.holdAt), holdAt := max r.holdAt low }
    else r

/-- Every descriptor in hand after a burst's issue; the first byte moved latches the taps (R444). -/
def State.afterIssue (s : State) (c : Nat) (b : DriftBurst) (host : Option Nat) : State :=
  let x := s.ch c
  let taps := s.soundTaps c
  let upd := fun r : DriftRun =>
    let fresh := r.serial == b.serial && decide (b.kind ≤ 3) && r.kind != 1 && r.rd == 0 && r.wrote.all (· == 0) && r.taps.isEmpty
    (if fresh then { r with taps } else r).afterIssue b host
  let s := s.putCh c { x with cur := x.cur.map upd, drain := x.drain.map upd }
  match (s.ch c).cur with
  | none => s
  | some r => s.put (chPage c) Drift.CUR_DONE_BYTES (r.wrote.foldl min r.len)

/-- Record a burst as in flight. -/
def State.flyBurst (s : State) (c : Nat) (b : DriftBurst) : State :=
  let x := s.ch c
  s.putCh c { x with bursts := x.bursts.filter (fun q => q.id != b.id) ++ [b], nextId := max x.nextId (b.id + 1), entryWait := false }

/-- A payload burst of a frame is dropped by the egress filter (R364): its place is kept for the frame's record (R461). -/
def State.noteFiltered (s : State) (c : Nat) (b : DriftBurst) : State :=
  let x := s.ch c
  match x.runs.find? (fun r => r.serial == b.serial) with
  | none => s
  | some r =>
    let span := (b.ba - r.dstAddr, b.size)
    let mark := fun (o : OutFrame) => if o.channel = c then { o with filtered := o.filtered ++ [span] } else o
    { s with frames := s.frames.map fun f => if r.frame = some (frameKey f.stream f.seq) then { f with outs := f.outs.map mark } else f }

/-- A write burst to host memory leaves (R332, R352, R364): a payload write of a sentinel output leaves an x16 link only from a half that acts. -/
def State.sendBurst (s : State) (c : Nat) (b : DriftBurst) : State :=
  let h := c / 512
  let payload := b.kind == 1
  let sentinel := (s.ch c).runs.any fun r => r.serial == b.serial && r.sentinel
  let s := if payload && s.x16 && sentinel && !s.halfActing h then s.noteFiltered c b else s
  s.hostWriteBurst h b.addr b.bytes (payload && s.chCfg c Drift.CH_CFG_RELAXED == 1)
    (payload && s.chCfg c Drift.CH_CFG_NS_WRITE == 1) sentinel

/-- Issue a burst on its path (R298, R323, R325, R332, R350 to R352). A write to host memory is posted: it ends as it leaves. `ecc` is what the check
found in the table reads of a burst to host memory; local memory translates its requests as they enter. -/
def State.issueBurst (s : State) (c : Nat) (b : DriftBurst) (ecc : List EccResult) : State :=
  let h := c / 512
  let x := s.ch c
  let cls := s.burstClass c b
  match s.allocBulk h { kind := 2, cls, stream := 0x3FF, col0 := c, size := b.size } with
  | none => s
  | some (e, s) =>
    let s := if b.again then s.countSat (chPage c) Drift.CH_RETRIES_COUNT else s
    let route := s.routeOf h b
    let write := 1 ≤ b.kind ∧ b.kind ≤ 3
    let (t, s) := if route.1 ∧ b.kind ≠ 4 then s.translateFor h cls b.ba (decide write) true ecc else (.ok route, s)
    let entry := (e, (s.job e).gen)
    let b := { b with id := if x.bursts.any (fun q => q == b) then b.id else x.nextId, host := route.1, addr := route.2, entry := some entry
                      flying := true, again := false }
    let s := (s.flyBurst c b).afterIssue c b (if write ∧ b.host then some b.addr else none)
    let s := match t with
      | .error (cause, level) => ((s.flyEntry e).xlateFault h 2 c b.ba (decide write) cause level).readBack c b.id cause []
      | .ok _ =>
      if b.host then
        if write then ((s.flyEntry e).sendBurst c b).readBack c b.id 0 []
        else s.hostReadBurst h c b.id entry b.addr b.size (b.kind == 0 && s.chCfg c Drift.CH_CFG_NS_READ == 1)
      else s.ask h { requester := 2, source := c, cls, entry := some entry, ba := b.ba, size := b.size
                     write := if write then some b.bytes else none, tag := b.id }
    (s.judgeStarved h).settleCh c

/-- DRIFT_BURST_GRANT: the arbiter of a path of half h grants one burst (R324): path 0 the host port, 1 local memory, 2 the
CSI-2 transmit ports, 3 the Ethernet stream port. `ecc` is what the check found in the table reads of a burst to host memory. -/
def execDriftBurstGrant (h : Fin 2) (x : Fin 4 × List EccResult) (s : State) : Result :=
  let (path, ecc) := x
  .next <|
    if path.val ≤ 1 ∧ !s.driftEntry h then s.awaitEntries h path
    else match s.winner h path with
    | none => s
    | some c =>
      let a : ArbiterSt := SMap.get (fun _ => {}) s.arbiters h
      let last := SMap.set (fun _ => 512 * h.val + 511) a.last (8 * path + s.chPrio c) c
      let s := { s with arbiters := SMap.set (fun _ => {}) s.arbiters h { a with last } }
      if path.val ≤ 1 then match s.readyOn c path with
        | none => s
        | some b => s.issueBurst c b ecc
      else
        let x := s.ch c
        match x.units with
        | [] => s
        | (_, u) :: rest => ((s.putCh c { x with units := rest }).emit (.unit c u)).settleCh c

/-- Read data that has arrived in order joins the holding register (R322). -/
def DriftRun.absorb (r : DriftRun) (pos : Nat) (b : List Byte) : DriftRun :=
  if pos = r.holdAt + r.hold.length then
    { r with hold := r.hold ++ b, seen := if r.taps.isEmpty then r.seen else r.seen ++ [(pos, b)] }
  else r

/-- Read bursts that have returned out of turn wait, their bytes with them, until the bytes before them are in. -/
def ChannelSt.absorbAll (x : ChannelSt) : Nat → ChannelSt
  | 0 => x
  | fuel + 1 =>
    let next := fun (b : DriftBurst) => b.kind == 5 && x.runs.any fun r => r.serial == b.serial && b.pos == r.holdAt + r.hold.length
    match x.bursts.find? next with
    | none => x
    | some b => ({ x with bursts := x.bursts.erase b }.modRun b.serial fun r => r.absorb b.pos b.bytes).absorbAll fuel

/-- A destination of a multicast meets a translation fault (R321): it stops at the write that failed. Once all have failed, nothing more is read. -/
def State.castFails (s : State) (c : Nat) (b : DriftBurst) (r : DriftRun) : State :=
  let p := chPage c
  let failed := setBit r.failed b.dest
  let at_ := min b.pos (if hasBit r.failed b.dest then SMap.get (fun _ => 0) r.failAt b.dest else b.pos)
  let x := (s.ch c).modRun r.serial fun r => { r with failed, failAt := (b.dest, at_) :: r.failAt.filter (fun e => e.1 != b.dest) }
  let drop := fun q : DriftBurst => failed + 1 == 2 ^ r.wrote.length && q.serial == r.serial && (q.kind == 5 || (q.kind == 0 && !q.flying))
  let s := s.putCh c { x with bursts := x.bursts.filter (fun q => !drop q) }
  let s := ((s.put p Drift.CH_ERR_CAUSE 6).put p Drift.CH_ERR_WRITE 1).put p Drift.CH_ERR_MC_FAIL failed
  ((s.put p Drift.CH_ERR_ADDR_LO_ADDR b.ba).put p Drift.CH_ERR_ADDR_HI_ADDR (b.ba / 2 ^ 32)).put p Drift.CH_ERR_VALID 1

/-- A burst failed for good, or is to be reissued (R321, R334): it has left the bursts of the channel. -/
def State.burstFails (s : State) (c : Nat) (b : DriftBurst) (cause : Nat) : State :=
  let x := s.ch c
  let keep := fun (s : State) (b : DriftBurst) => s.putCh c { s.ch c with bursts := (s.ch c).bursts ++ [b] }
  let waiting := { b with flying := false, entry := none }
  let write := decide (1 ≤ b.kind) && decide (b.kind ≤ 3)
  if b.kind = 9 then s
  else if cause = 0x30 then keep s waiting
  else if 0x10 ≤ cause then
    if b.tries < s.chCfg c Drift.CH_CFG_RETRY then keep s { waiting with tries := b.tries + 1, again := true }
    else (keep s waiting).haltCh c (if b.kind = 4 then 5 else 1) (if b.kind = 4 then b.addr else b.ba) b.tries write 0
  else if b.kind = 7 ∨ b.kind = 8 then s.putCh c (x.modRun b.serial fun r => r.takePair (b.kind == 7) none)
  else match x.runs.find? (fun r => r.serial == b.serial && r.mc && b.kind == 1) with
    | some r => s.castFails c b r
    | none => (keep s waiting).haltCh c 2 b.ba b.tries write 0

/-- A burst of the channel that has ended, with its end: it is no longer in flight, and holds no entry. -/
def State.takeBurst (s : State) (c : Nat) (p : DriftBurst → Bool) : Option (MemResult × DriftBurst × State) :=
  let h := c / 512
  let ended := fun b : DriftBurst => b.flying && p b && (s.harb h).results.any fun r => r.requester == 2 && r.source == c && r.tag == b.id
  ((s.ch c).bursts.find? ended).bind fun b => (s.takeResult h 2 c b.id).map fun (r, s) =>
    let s := match b.entry with
      | some (e, gen) => if b.host && decide (1 ≤ b.kind) && decide (b.kind ≤ 3) then (s.entryBack e gen).2 else s
      | none => s
    (r, b, s.putCh c { s.ch c with bursts := (s.ch c).bursts.filter (fun q => q.id != b.id) })

/-- Is the burst a fetch of one of the kinds named: of a descriptor, of a pair of a source list or of a destination list, of a descriptor that is no
longer wanted? -/
def DriftBurst.isFetch (desc src dst old : Bool) (b : DriftBurst) : Bool := match b.kind with
  | 6 => desc
  | 7 => src
  | 8 => dst
  | 9 => old
  | _ => false

/-- DESC_FETCHED: what the oldest fetch of channel c that has ended, among the kinds that the command names, has read: the descriptor at CH_NEXT, or
a pair of a list (R319 to R321, R325, R334). DESIGN CHOICE: which kind is dealt with first is not stated. -/
def execDescFetched (c : Fin 1024) (desc src dst old : Bool) (s : State) : Result :=
  .next <| match s.takeBurst c (·.isFetch desc src dst old) with
    | none => s
    | some (r, b, s) =>
      let s := if r.cause ≠ 0 then s.burstFails c b r.cause
        else if b.kind = 6 then (if s.planLive then s.descRead c b.ba (sliceBytes r.bytes 0 32) else s)
        else if b.kind = 9 then s
        else s.putCh c ((s.ch c).modRun b.serial fun q => q.takePair (b.kind == 7) (some (sliceBytes r.bytes 0 16)))
      s.settleCh c

/-- DRIFT_BURST_DONE: what came of burst `id` of channel c that moves bytes (R331, R334). -/
def execDriftBurstDone (c : Fin 1024) (id : Nat) (s : State) : Result :=
  .next <| match s.takeBurst c (fun b => b.id == id && decide (b.kind ≤ 4)) with
    | none => s
    | some (r, b, s) =>
      let x := s.ch c
      let s := if r.cause ≠ 0 then s.burstFails c b r.cause
        else if b.kind = 0 then
          let dead := x.runs.any fun q => q.serial == b.serial && q.failed + 1 == 2 ^ q.wrote.length
          let back := { b with kind := 5, bytes := sliceBytes r.bytes 0 b.size, flying := false, entry := none }
          if dead then s else s.putCh c ({ x with bursts := x.bursts ++ [back] }.absorbAll 16)
        else if b.kind = 4 then s.putCh c (x.modRun b.serial fun q => { q with flushed := true })
        else s
      s.settleCh c

/-! ## A plan swap (R315) -/

/-- A channel's binding has changed at a swap: descriptors fetched ahead and not started are handed back, and one that is being read is not taken. -/
def State.rebindCh (s : State) (c : Nat) : State :=
  let x := s.ch c
  let waiting := fun r : DriftRun => if r.kind = 1 then r.frame.isNone else !r.started
  let back := (x.cur.toList ++ x.ahead.toList).filter waiting
  let bursts := (x.bursts.filter fun b => b.kind != 6 || b.flying).map fun b => if b.kind = 6 then { b with kind := 9 } else b
  let s := s.putCh c { x with bursts := bursts }
  match back with
  | [] => s.judgeCh c
  | r :: _ =>
    let s := s.put (chPage c) Drift.CH_AVAIL_COUNT (min 65535 (s.chCount c + back.length))
    let s := s.putNext c r.addr
    (s.putCh c { s.ch c with cur := x.cur.filter (fun q => !waiting q), ahead := none }).judgeCh c

end Sys2Proof.Machine
end

