-- ==== Sys2Proof/Machine/Ports.lean ====
section
/-!
DEFINITION. Sys2Proof/Machine/Ports.lean: what the sensor ports share: the entry of CSI-2 packets into an Inlet (R167 to R170),
the back channel's queue, quiet openings (R95), and sync decisions that miss their path (R206).
-/
namespace Sys2Proof.Machine

/-! ## Pages and state of a port -/

/-- Pages of lane n, of the Inlet and the window of sensor port n, and the stream-table page of stream n (R110, R193, R194, R372). -/
def wePage (n : Nat) : Nat := Block.page .weatas n
def inPage (n : Nat) : Nat := Block.page .inlet n
def jtPage (n : Nat) : Nat := Block.page .jetty n
def stPage (n : Nat) : Nat := Block.page .streamTab 0 (n / 16)
def rxPage (n : Nat) : Nat := Block.page .csiRx n
def txPage (m : Nat) : Nat := Block.page .csiTx m

/-- Tidemark page 3 (R214). -/
def syncPage : Nat := 0x13

/-- The Inlet of port n. -/
def State.port (s : State) (n : Nat) : PortSt := SMap.get (fun _ => {}) s.ports n
def State.putPort (s : State) (n : Nat) (x : PortSt) : State := { s with ports := SMap.set (fun _ => {}) s.ports n x }

/-- Lane n. -/
def State.lane (s : State) (n : Nat) : LaneSt := SMap.get (fun _ => {}) s.lanes n
def State.putLane (s : State) (n : Nat) (x : LaneSt) : State := { s with lanes := SMap.set (fun _ => {}) s.lanes n x }

/-- Stream n. -/
def State.stream (s : State) (n : Nat) : StreamSt := SMap.get (fun _ => {}) s.streams n
def State.putStream (s : State) (n : Nat) (x : StreamSt) : State := { s with streams := SMap.set (fun _ => {}) s.streams n x }

/-- The capture sync of port n. -/
def State.syncOf (s : State) (n : Nat) : SyncSt := SMap.get (fun _ => {}) s.syncs n
def State.putSync (s : State) (n : Nat) (x : SyncSt) : State := { s with syncs := SMap.set (fun _ => {}) s.syncs n x }

/-- A field of the stream table (R193): its value, its value in force, a store, a saturating count. -/
def State.st (s : State) (n : Nat) (f : Field) : Nat := s.get (stPage n) (f.nth (n % 16))
def State.stLive (s : State) (n : Nat) (f : Field) : Nat := s.live (stPage n) (f.nth (n % 16))
def State.stPut (s : State) (n : Nat) (f : Field) (v : Nat) : State := s.put (stPage n) (f.nth (n % 16)) v
def State.stCount (s : State) (n : Nat) (f : Field) : State := s.countSat (stPage n) (f.nth (n % 16))

/-- The live plan's entry of stream n: none where ST_PLAN0.VALID = 0. -/
def State.streamPlan (s : State) (n : Nat) : Option PlanStream := s.tide.livePlan.bind (·.streamOf n)

/-- The plan entry that the packets of stream n fall under: that of its open frame (R62), else the live plan's. -/
def State.framePlan (s : State) (n : Nat) : Option PlanStream :=
  if s.st n StreamTab.ST_STAT_STATE = 1 then (s.stream n).plan else s.streamPlan n

/-- Active-domain time now, in 1/16 ns (R126). -/
def State.now16 (s : State) : Nat := s.activeTime (s.time.c * 2 ^ 32) / 2 ^ 28

/-- Active-domain time, in 1/16 ns, at a count C given in 1/16 ns (R126). -/
def State.stampAt (s : State) (c16 : Nat) : Nat := s.activeTime (c16 * 2 ^ 28) / 2 ^ 28

/-- A stamp in 1/16 ns, rounded half even to 1 ns (R175, R389). -/
def nearestNs (t16 : Nat) : Nat := (roundHalfEven (t16 : Int) 16).toNat

/-- Has a ball function `func` with index n (R599, R608)? -/
def State.hasBall (s : State) (func n : Nat) : Bool := (List.range 48).any fun i =>
  s.get 0xA (Chip.GPIO_CFG_FUNC.nth i) == func && s.get 0xA (Chip.GPIO_CFG_FIDX.nth i) == n

/-- GPIO_READBACK as it now is (R612). -/
def State.judgeGpio (s : State) : State :=
  s.cond 0xC 0 ((List.range 48).any fun i => s.flag 0xA (Chip.GPIO_CFG_OFF.nth i))

/-- The driver of ball i is switched off (R600). -/
def State.ballOff (s : State) (i : Nat) : State :=
  let s := { s with pins := { s.pins with oeCleared := clearBit s.pins.oeCleared i } }
  ((((s.put 0xA (Chip.GPIO_CFG_OFF.nth i) 1).countSat 0xC Chip.GPIO_MISMATCH_COUNT).event 0xC 0).judgeGpio).again 0xC 0 (s.condBit 0xC 0)

/-- The balls that carry function `func` with index n. -/
def State.ballsOf (s : State) (func n : Nat) : List Nat := (List.range 48).filter fun i =>
  s.get 0xA (Chip.GPIO_CFG_FUNC.nth i) == func && s.get 0xA (Chip.GPIO_CFG_FIDX.nth i) == n

/-- The states of LINK_STAT.STATE (R132) that count as operating: ACTIVE and DROPOUT. -/
def State.linkState (s : State) (n : Nat) : Nat := s.get (wePage n) Weatas.LINK_STAT_STATE
def State.linkOperating (s : State) (n : Nat) : Bool := s.linkState n == 9 || s.linkState n == 10

/-! ## Packet headers (R167, R170) -/

/-- The columns of the header's Hamming code, bit 0 first: 24 bits of the header, then VCX (the CSI-2 code; PRESUMED). -/
def headerColumns : List Nat :=
  [0x07, 0x0B, 0x0D, 0x0E, 0x13, 0x15, 0x16, 0x19, 0x1A, 0x1C, 0x23, 0x25, 0x26] ++
  [0x29, 0x2A, 0x2C, 0x31, 0x32, 0x34, 0x38, 0x1F, 0x2F, 0x37, 0x3B, 0x3D, 0x3E]

/-- The ECC of 26 header bits. -/
def headerEcc (h : Nat) : Nat :=
  ((List.range 26).zip headerColumns).foldl (fun a e => if hasBit h e.1 then a ^^^ e.2 else a) 0

/-- The header that four bytes carry: whether it was corrected, and its 26 bits; none where the ECC fails (R170). -/
def readHeader (b : List Byte) : Option (Bool × Nat) :=
  let w := ofBytesLE (b.take 4)
  let h := bitsOf w 23 0 + bitsOf w 31 30 * 2 ^ 24
  let syn := bitsOf w 29 24 ^^^ headerEcc h
  if b.length < 4 then none
  else if syn = 0 then some (false, h)
  else match headerColumns.findIdx? (· == syn) with
    | some i => some (true, h ^^^ 2 ^ i)
    | none => if [1, 2, 4, 8, 16, 32].contains syn then some (true, h) else none

/-- The payload check code of CSI-2 (PRESUMED: reflected 0x1021 from 0xFFFF, sent low byte first). -/
def csiCrc (bs : List Byte) : Nat := crcLsb 0x8408 0xFFFF bs

/-- The short or long packet of a header and the bytes after it (R167, R171). -/
def readPacket (h : Nat) (b : List Byte) (broken : Bool) (stamp stop : Nat) : Option InletItem :=
  let dt := bitsOf h 5 0
  let wc := bitsOf h 23 8
  let kind := if dt = 0 then some .frameStart else if dt = 1 then some .frameEnd else if dt = 0x12 then some .embedded
    else if dt = 0x2B ∨ dt = 0x2C ∨ dt = 0x2E then some PacketKind.pixel else none
  let data := (b.drop 4).take wc
  let crc := (b.drop (4 + wc)).take 2
  kind.map fun k =>
    { kind := k, vc := bitsOf h 7 6, dt := dt, num := wc, data := if dt < 0x10 then [] else data, broken := broken,
      crcOk := decide (dt < 0x10) || (decide (crc.length = 2) && ofBytesLE crc == csiCrc data), stamp := stamp, stop := stop }

/-! ## Entry to the Inlet (R167 to R170) -/

/-- Does a frame of channel u, open or waiting to be started, claim channel v (R168)? Its exposures arrive by channel. -/
def State.claims (s : State) (n u v : Nat) : Bool := match s.framePlan (4 * n + u) with
  | none => false
  | some x =>
    let inFrame := s.st (4 * n + u) StreamTab.ST_STAT_STATE == 1
    let key := liveKey (inPage n) (Inlet.IN_VC_CFG_EXP_VC.nth u)
    let expVc := if inFrame then SMap.get resetField (s.stream (4 * n + u)).latch key
      else if (s.port n).inbox.any (fun i => i.kind == .frameStart && i.vc == u) then SMap.get resetField s.regs key else 0
    expVc == 1 && decide (u < v) && decide (v < u + x.exposures) && decide (u + x.exposures ≤ 4)

/-- The channel whose frame claims channel v of port n, if one does. -/
def State.claimer (s : State) (n v : Nat) : Option Nat := (List.range 4).find? (fun u => s.claims n u v)

/-- ECC_BURST as it now is (R170, R196): more than 16 bad headers in the last 1 ms. -/
def State.judgeHeaders (s : State) (n : Nat) : State :=
  let recent := (s.port n).badHeaders.filter (fun c => decide (s.time.c < c + 1000000))
  (s.putPort n { s.port n with badHeaders := recent }).cond (inPage n) 4 (decide (16 < recent.length))

/-- An item joins the Inlet's flow. -/
def State.toInlet (s : State) (n : Nat) (i : InletItem) : State :=
  s.putPort n { s.port n with inbox := (s.port n).inbox ++ [i] }

/-- A whole CSI-2 packet reaches the Inlet of port n (R167, R169, R170): header check, mapping, and its place in the flow. -/
def State.intake (s : State) (n : Nat) (b : List Byte) (broken : Bool) (stamp stop : Nat) : State :=
  if !s.ready ⟨.inlet, n, 0⟩ then s
  else match readHeader b with
    | none =>
      let s := (s.countSat (inPage n) Inlet.IN_ERR0_ECC_UNCORR).putPort n
        { s.port n with badHeaders := s.time.c :: (s.port n).badHeaders }
      s.judgeHeaders n
    | some (corrected, h) =>
      let s := if corrected then s.countSat (inPage n) Inlet.IN_ERR0_ECC_CORR else s
      let v := bitsOf h 7 6
      let claimer := s.claimer n v
      if 2 ^ 24 ≤ h || (claimer.isNone && (s.framePlan (4 * n + v)).isNone) then
        (s.countSat (inPage n) Inlet.IN_ERR2_UNMAPPED).event (inPage n) 5
      else match readPacket h b broken stamp stop with
        | none => s
        | some i =>
          let s := s.countWrap (inPage n) Inlet.IN_PKTS_COUNT
          if claimer.isSome && (i.kind == .frameStart || i.kind == .frameEnd) then s else s.toInlet n i

/-- A GAP mark joins the flow of port n (R141, R152). -/
def State.gapTo (s : State) (n : Nat) : State :=
  if s.ready ⟨.inlet, n, 0⟩ then s.toInlet n { kind := .gap, vc := 0 } else s

/-! ## Quiet openings (R95, R180) -/

/-- The sentinel streams of port n in the live plan, by channel. -/
def State.sentinelsOf (s : State) (n : Nat) : List Nat :=
  ([0, 1, 2, 3].map (4 * n + ·)).filter (fun x => (s.streamPlan x).any (·.isSentinel))

/-- Is a line of a sentinel stream under way at lane n: has its packet header arrived, and not yet its footer (R95)? -/
def State.lineOpen (s : State) (n : Nat) : Bool := match (s.lane n).inPacket with
  | none => false
  | some p => decide (fieldLE p.header 1 1 / 16 = 1) && match readHeader (p.payload.take 4) with
    | none => false
    | some (_, h) => decide (h < 2 ^ 24) && (readPacket h p.payload false 0 0).any (·.kind == .pixel) &&
      (s.sentinelsOf n).contains (4 * n + (s.claimer n (bitsOf h 7 6)).getD (bitsOf h 7 6))

/-- Is lane n in a quiet opening that lasts at least `ns` more (R95, R96)? -/
def State.quietFor (s : State) (n ns : Nat) : Bool :=
  !s.lineOpen n && (s.sentinelsOf n).all fun x => match (s.stream x).awaited with
    | none => true
    | some none => false
    | some (some t) => decide (s.now16 + 16 * (s.get (wePage n) Weatas.RX_ADAPT_GUARD_NS + ns) ≤ t)

/-- LANE_STAT.OPENING (R111). -/
def State.opening (s : State) (n : Nat) : Bool := s.quietFor n 0

/-! ## The back channel's queue (R130) -/

/-- Queue a message for the camera of lane n. -/
def State.bcSend (s : State) (n type : Nat) (payload : List Byte) : State :=
  s.putLane n { s.lane n with queue := (s.lane n).queue ++ [⟨type, payload⟩] }

/-! ## Skipped and missed edges (R205, R206) -/

/-- May port n send edges (R198): its reference stream is VALID in the live plan, of an active family? -/
def State.syncGate (s : State) (n : Nat) : Bool :=
  (s.streamPlan (4 * n + s.live (inPage n) Inlet.SYNC_CFG_REF_VC)).any fun x => s.famActive x.family

/-- SYNC_LOST as it now is (R216). -/
def State.judgeSyncLost (s : State) : State :=
  s.cond syncPage 0 ((List.range 40).any fun n =>
    decide (s.get syncPage Tidemark.SYNC_LIMITS_SKIP_LIMIT ≤ s.get (inPage n) Inlet.SYNC_STAT_SKIP_RUN))

/-- Set port n's bit in a pair of port maps (R214). -/
def State.mapPort (s : State) (lo hi : Field) (n : Nat) : State :=
  if n < 32 then s.put syncPage lo (setBit (s.get syncPage lo) n) else s.put syncPage hi (setBit (s.get syncPage hi) (n - 32))

/-- A decision that did not end in EDGE counts (R205). -/
def State.countSkip (s : State) (n : Nat) : State :=
  let s := (s.countSat (inPage n) Inlet.SYNC_CNT0_SKIPPED).countSat (inPage n) Inlet.SYNC_STAT_SKIP_RUN
  ((s.mapPort Tidemark.SYNC_SKIP_MAP_LO_PORT Tidemark.SYNC_SKIP_MAP_HI_PORT n).event syncPage 0).judgeSyncLost

/-- The decision of tide k at port n turns into PATH_MISSED (R206): once. -/
def State.pathMissed (s : State) (n k : Nat) : State :=
  let x := s.syncOf n
  if x.decisions.any (fun d => d.tide == k && d.reason == 0) then
    let s := s.putSync n { x with decisions := x.decisions.map fun d =>
      if d.tide == k && d.reason == 0 then { d with reason := 4 } else d }
    (s.put (inPage n) Inlet.SYNC_STAT_LAST_REASON 4).countSkip n
  else s

end Sys2Proof.Machine
end

