-- ==== Sys2Proof/Machine/Jetty.lean ====
section
/-!
DEFINITION. Sys2Proof/Machine/Jetty.lean: the sensors' registers: windows, transactions, the raw buffer, the mirror, events and
polls (R372 to R394).
-/
namespace Sys2Proof.Machine

/-- Window n. -/
def State.window (s : State) (n : Nat) : JettySt := SMap.get (fun _ => {}) s.windows n
def State.putWindow (s : State) (n : Nat) (x : JettySt) : State := { s with windows := SMap.set (fun _ => {}) s.windows n x }

/-- A slot of a window. -/
def JettySt.slot (x : JettySt) (i : Nat) : JettySlot := SMap.get (fun _ => {}) x.slots i
def JettySt.putSlot (x : JettySt) (i : Nat) (v : JettySlot) : JettySt := { x with slots := SMap.set (fun _ => {}) x.slots i v }

/-- Slots open now (R376). -/
def JettySt.openSlots (x : JettySt) : Nat := (x.slots.filter (·.2.isOpen)).length

/-- Store slot i of window n; JT_STAT shows the open slots and the largest count of them (R393). -/
def State.putJtSlot (s : State) (n i : Nat) (v : JettySlot) : State :=
  let x := (s.window n).putSlot i v
  ((s.putWindow n x).put (jtPage n) Jetty.JT_STAT_OPEN x.openSlots).putMax (jtPage n) Jetty.JT_STAT_PEAK x.openSlots

/-- CTRL.EN of window n (R372). -/
def State.jtEnabled (s : State) (n : Nat) : Bool := s.flag (jtPage n) Hdr.CTRL_EN

/-- JT_ERR as it now is (R385). -/
def State.judgeJtErr (s : State) (n : Nat) : State := s.cond (jtPage n) 0 (s.flag (jtPage n) Jetty.JT_ERR_INFO_VALID)

/-- MIR_ERR as it now is (R394). -/
def State.judgeMirErr (s : State) (n : Nat) : State :=
  s.cond (jtPage n) 3 (s.get (jtPage n) Jetty.MIR_ERR_LO_ENTRY != 0 || s.get (jtPage n) Jetty.MIR_ERR_HI_ENTRY != 0)

/-- Record and count a failed transaction (R385): the first in full, later ones in OVERFLOW. -/
def State.logJt (s : State) (n requester : Nat) (write : Bool) (cause gen id word far count : Nat) : State :=
  let pg := jtPage n
  let s := s.countSat pg Jetty.JT_CNT_ERR_COUNT
  if s.flag pg Jetty.JT_ERR_INFO_VALID then s.put pg Jetty.JT_ERR_INFO_OVERFLOW 1
  else
    let s := (s.put pg Jetty.JT_ERR_INFO_REQUESTER requester).put pg Jetty.JT_ERR_INFO_WRITE (bit write)
    let s := (s.put pg Jetty.JT_ERR_INFO_CAUSE cause).put pg Jetty.JT_ERR_INFO_GEN gen
    let s := (s.put pg Jetty.JT_ERR_INFO_ID id).put pg Jetty.JT_ERR_INFO_WORD word
    let s := (s.put pg Jetty.JT_ERR_DATA_FAR_STATUS far).put pg Jetty.JT_ERR_DATA_COUNT count
    (s.put pg Jetty.JT_ERR_INFO_VALID 1).judgeJtErr n

/-- Slots that a requester may take, lowest first (R376, R381): the top CORE_RES ones are for LP0 to LP3. -/
def State.jtFree (s : State) (n requester : Nat) : List Nat :=
  let top := if 4 ≤ requester then 64 else 64 - s.get (jtPage n) Jetty.JT_CFG_CORE_RES
  (List.range top).filter fun i => let x := (s.window n).slot i
    !x.isOpen && x.late != some x.gen

/-- Bytes of a value on the bus, in ORDER (R374): 0 sends the most significant first. -/
def busBytes (order w v : Nat) : List Byte := if order = 0 then toBytesBE w v else toBytesLE w v

/-- The value of bytes from the bus, in ORDER. -/
def busValue (order : Nat) (b : List Byte) : Nat := if order = 0 then ofBytesBE b else ofBytesLE b

/-- A register address on the bus (R374): 2 or 1 bytes, most significant first. -/
def State.regAddr (s : State) (n a : Nat) : List Byte := toBytesBE (1 + s.get (jtPage n) Jetty.JT_CFG_ADDR16) a

/-- A read or a write of register address `a`, `w` bytes wide, by the window's settings (R374, R387). -/
def State.regTxn (s : State) (n a w : Nat) (value : Option Nat) : BusTxn :=
  let pg := jtPage n
  let bytes := match value with
    | some v => busBytes (s.get pg Jetty.JT_CFG_ORDER) w v
    | none => []
  { bus := s.get pg Jetty.JT_CFG_BUS, op := if value.isSome then 0 else 2, target := s.get pg Jetty.JT_CFG_DEV_ADDR,
    wr := s.regAddr n a ++ bytes, rd := if value.isSome then 0 else w, order := s.get pg Jetty.JT_CFG_ORDER }

/-- The register that word i maps to (R374), and its width in bytes. -/
def State.wordReg (s : State) (n i : Nat) : Nat × Nat :=
  let pg := jtPage n
  let w := 2 ^ s.get pg Jetty.JT_CFG_WIDTH
  ((s.get pg Jetty.JT_BASE_REG_BASE + i * w) % 2 ^ (8 * (1 + s.get pg Jetty.JT_CFG_ADDR16)), w)

/-- Hand an open slot's transaction to the back channel or to the local controller (R129, R377). -/
def State.sendTxn (s : State) (n i : Nat) : State :=
  let x := (s.window n).slot i
  let t := x.txn
  if n < 32 then
    s.bcSend n 6 ([BitVec.ofNat 8 i, BitVec.ofNat 8 (x.gen * 16 + t.bus * 8 + t.op), BitVec.ofNat 8 t.target,
      BitVec.ofNat 8 t.wr.length, BitVec.ofNat 8 t.rd, 0] ++ t.wr)
  else
    let s := s.putWindow n { s.window n with localQueue := (s.window n).localQueue ++ [i] }
    (s.put (jtPage n) Jetty.LOC_STAT_BUSY 1).emit (.localBus n t.bus t.op t.target t.wr t.rd)

/-- A free slot takes a transaction (R376). -/
def State.openTxn (s : State) (n i requester word : Nat) (t : BusTxn) : State :=
  s.putJtSlot n i { (s.window n).slot i with
                    isOpen := true, requester := requester, word := word, txn := t, retries := 0, since := s.time.c,
                    retry := false }

/-! ## Ends (R378, R379) -/

/-- The value a read returns to its requester (R374, R375): the register in its low bits, the addressed bytes of it. -/
def HeldRead.value (r : HeldRead) : Nat :=
  let v := match r.words with
    | [(_, some a), (_, some b)] => a + b * 2 ^ 32
    | [(_, some a)] => a
    | _ => 0
  if r.size < 4 then v / 2 ^ (8 * (r.off % 4)) % 2 ^ (8 * r.size) else v

/-- The words of a value of 32 or 64 bits. -/
def HeldRead.wordsOut (r : HeldRead) : List Nat :=
  if r.size = 8 then [r.value % 2 ^ 32, r.value / 2 ^ 32] else [r.value]

/-- A held read fails (R378): a host gets Completer Abort, logged in AER; a control core a load access fault. -/
def State.failRead (s : State) (r : HeldRead) : State :=
  let s := s.emit (.readFail r.req r.off)
  match r.req with
  | .host0 => s.aerUncorrectable 0 15 r.header
  | .host1 => s.aerUncorrectable 1 15 r.header
  | _ => s

/-- Slot i has ended for the held read it belongs to: a value, or a failure (R375, R378). The read ends when both of its transactions have. -/
def State.endHeld (s : State) (n i : Nat) (value : Option Nat) : State :=
  let x := s.window n
  match x.reads.find? (fun r => r.words.any (fun w => w.1 == i && w.2.isNone)) with
  | none => s
  | some r =>
    let rest := x.reads.filter (· != r)
    let words := r.words.map fun (w : Nat × Option Nat) => if w.1 == i then (i, some (value.getD 0)) else w
    let r' := { r with words, failed := r.failed || value.isNone }
    if !words.all (·.2.isSome) then s.putWindow n { x with reads := r' :: rest }
    else
      let s := s.putWindow n { x with reads := rest }
      if r'.failed then s.failRead r else s.emit (.readData r.req r.off r'.wordsOut)

/-- The raw buffer's transaction has ended (R386). -/
def State.endTxq (s : State) (n cause count : Nat) (data : List Byte) : State :=
  let pg := jtPage n
  let s := (s.put pg Jetty.TXQ_REQ_GO 0).put pg Jetty.TXQ_STAT_DONE 1
  let s := (s.put pg Jetty.TXQ_STAT_ERR (bit (cause != 0))).put pg Jetty.TXQ_STAT_CAUSE cause
  let s := (s.put pg Jetty.TXQ_STAT_COUNT count).event pg 2
  (List.range (ceilDiv data.length 4)).foldl (fun s i =>
    let f := Jetty.TXQ_DATA_DATA.nth i
    let old := toBytesLE 4 (s.get pg f)
    let b := (data.drop (4 * i)).take 4
    s.put pg f (ofBytesLE (b ++ old.drop b.length))) s

/-- A mirror entry's transaction has ended (R388). -/
def State.endMirror (s : State) (n m : Nat) (write ok : Bool) (value : Nat) : State :=
  let pg := jtPage n
  if ok then if write then s else s.put pg (Jetty.MIR_VAL_VALUE.nth m) value
  else
    let s := if m < 32 then s.put pg Jetty.MIR_ERR_LO_ENTRY (setBit (s.get pg Jetty.MIR_ERR_LO_ENTRY) m)
      else s.put pg Jetty.MIR_ERR_HI_ENTRY (setBit (s.get pg Jetty.MIR_ERR_HI_ENTRY) (m - 32))
    ((if write then s.put pg (Jetty.MIR_CFG_DIRTY.nth m) 1 else s).judgeMirErr n).again pg 3 (s.condBit pg 3)

/-- The requester of a sensor write: LP0, as R80 codes it, marked to tell it from LP0's own accesses. -/
def sensorRequester : Nat := 12

/-- A sensor write of a sequence has ended (R573): one that failed is counted, and the next one waits DELAY_US. -/
def State.endSensor (s : State) (n : Nat) (ok : Bool) : State :=
  let x := s.window n
  match x.sensorBusy with
  | none => s
  | some e =>
    let s := s.putWindow n { x with sensorBusy := none, sensorAfter := s.time.c + 1000 * e.delayUs }
    if ok then s else s.countSat 0x8 Chip.BOOT_SENS_ERR_COUNT

/-- The transaction of slot i ends with a cause (R379): the slot is freed, its end counted or logged, its user told.
`missing`: its reply has not come (R381). -/
def State.endTxn (s : State) (n i cause : Nat) (data : List Byte) (far count : Nat) (missing : Bool) : State :=
  let x := (s.window n).slot i
  let pg := jtPage n
  let write := x.txn.op == 0
  let s := s.putJtSlot n i { x with isOpen := false, retry := false, gen := (x.gen + 1) % 16,
                                    late := if missing then some x.gen else x.late }
  let s := s.putMax pg Jetty.JT_TIME_MAX_US ((s.time.c - x.since) / 1000)
  let s := if cause = 0 then s.countWrap pg Jetty.JT_CNT_OK_COUNT
    else s.logJt n x.requester write cause x.gen i (if x.requester = 2 ∨ x.requester = 3 then 0 else x.word) far count
  let value := busValue x.txn.order data
  if x.requester = sensorRequester then s.endSensor n (cause == 0)
  else if x.requester = 2 then s.endMirror n x.word write (cause == 0) value
  else if x.requester = 3 then s.endTxq n cause (if cause = 0 then data.length else count) data
  else s.endHeld n i (if cause = 0 then some value else none)

/-- Start an open slot's transaction: it fails at once on a lane out of its operating state (R382) or on a stuck bus or on one without its balls (R384, R599). -/
def State.startTxn (s : State) (n i : Nat) : State :=
  if n < 32 then if s.linkOperating n then s.sendTxn n i else s.endTxn n i 8 [] 0 0 false
  else if s.flag (jtPage n) Jetty.LOC_STAT_STUCK || !s.hasBall 5 (n - 32) || !s.hasBall 6 (n - 32) then s.endTxn n i 3 [] 0 0 false
  else s.sendTxn n i

/-- The sensor sequence of window n goes on, where the lane has been ACTIVE, no write is on its way and the delay is over (R573). -/
def State.stepSensors (s : State) (n : Nat) : State :=
  let x := s.window n
  match x.sensors with
  | [] => s
  | e :: rest =>
    let runs := x.sensorRuns || decide (32 ≤ n) || s.linkState n == 9
    if !runs || x.sensorBusy.isSome || decide (s.time.c < x.sensorAfter) then s
    else
      let took := s.putWindow n { x with sensors := rest, sensorRuns := !rest.isEmpty, sensorBusy := some e }
      if !s.jtEnabled n then (took.logJt n sensorRequester true 0xA 0 0 0 0 0).endSensor n false
      else match s.jtFree n sensorRequester with
        | [] => s
        | i :: _ => ((took.openTxn n i sensorRequester 0 { took.regTxn n e.reg (2 ^ e.width) (some e.value) with target := e.devAddr }).startTxn n i)

/-! ## The mirror (R387, R388) -/

/-- Take the entries of the mirror cycle in order, as far as slots are allocatable. -/
def State.pumpMirror (s : State) (n tide : Nat) : List Nat → State
  | [] => s.putWindow n { s.window n with cycle := some (tide, []) }
  | e :: r =>
    let pg := jtPage n
    let m := e % 64
    let write := decide (e < 64)
    let f := fun (g : Field) => s.get pg (g.nth m)
    let takes := f Jetty.MIR_CFG_EN == 1 && (if write then f Jetty.MIR_CFG_DIR == 1 && f Jetty.MIR_CFG_DIRTY == 1
      else f Jetty.MIR_CFG_DIR == 0)
    if !takes then s.pumpMirror n tide r
    else match s.jtFree n 2 with
      | [] => s.putWindow n { s.window n with cycle := some (tide, e :: r) }
      | i :: _ =>
        let t := s.regTxn n (f Jetty.MIR_CFG_REG) (2 ^ f Jetty.MIR_CFG_WIDTH) (if write then some (f Jetty.MIR_VAL_VALUE) else none)
        let s := if write then s.put pg (Jetty.MIR_CFG_DIRTY.nth m) 0 else s
        State.pumpMirror ((s.openTxn n i 2 m t).startTxn n i) n tide r

/-- A slot may have come free: the mirror cycle goes on. -/
def State.resumeMirror (s : State) (n : Nat) : State := match (s.window n).cycle with
  | some (tide, e :: r) => if s.jtEnabled n then s.pumpMirror n tide (e :: r) else s
  | _ => s

/-- End slot i's transaction, and let the mirror take the slot. -/
def State.closeTxn (s : State) (n i cause : Nat) (data : List Byte) (far count : Nat) (missing : Bool) : State :=
  (s.endTxn n i cause data far count missing).resumeMirror n

/-- The sync family of port n, if its reference stream is in the live plan and its family is active (R198). -/
def State.syncFamily (s : State) (n : Nat) : Option Nat :=
  ((s.streamPlan (4 * n + s.live (inPage n) Inlet.SYNC_CFG_REF_VC)).map (·.family)).filter s.famActive

/-- MIRROR_CYCLE_START: a boundary of window n's sync family, or 10 ms without one (R387). -/
def execMirrorCycleStart (n : Fin 40) (s : State) : Result :=
  let tide := match s.syncFamily n with
    | some f => s.famTide f
    | none => 0
  .next <| if (s.window n).cycle.isSome || !s.jtEnabled n then s
    else s.pumpMirror n tide (List.range 128)

/-- MIRROR_CYCLE_END: the cycle's transactions have ended (R387). -/
def execMirrorCycleEnd (n : Fin 40) (s : State) : Result :=
  let x := s.window n
  .next <| match x.cycle with
    | some (tide, []) =>
      if x.slots.any (fun e => e.2.isOpen && e.2.requester == 2) then s
      else ((s.putWindow n { x with cycle := none }).put (jtPage n) Jetty.MIR_TIDE_TIDE tide).event (jtPage n) 3
    | _ => s

/-- MIRROR_VALUE_WRITE: a write of MIR_VAL sets DIRTY on a write entry; on a read entry it is ignored (R388). -/
def execMirrorValueWrite (req : Requester) (n : Fin 40) (m : Fin 64) (w : Word) (s : State) : Result :=
  let pg := jtPage n
  .next <| s.onWrite req (regOff pg (Jetty.MIR_VAL_VALUE.nth m)) fun s =>
    if s.flag pg (Jetty.MIR_CFG_DIR.nth m) then
      (s.put pg (Jetty.MIR_VAL_VALUE.nth m) w.toNat).put pg (Jetty.MIR_CFG_DIRTY.nth m) 1
    else s

/-! ## The held-open window (R374 to R378) -/

/-- An access of `size` bytes at offset `off` of the remote window cannot be opened: DISABLED or FULL, logged once. -/
def State.refuseTxn (s : State) (n requester : Nat) (write : Bool) (cause word : Nat) : State :=
  s.logJt n requester write cause 0 0 word 0 0

/-- Open the transactions of the words of an access (R375, R376), lowest slots first. -/
def State.openWords (s : State) (n requester : Nat) : List (Nat × Option Nat) → List Nat → State
  | (i, v) :: ws, k :: ks =>
    let (a, w) := s.wordReg n i
    State.openWords (s.openTxn n k requester i (s.regTxn n a w v)) n requester ws ks
  | _, _ => s

/-- WINDOW_READ: a read of `size` bytes (1, 2, 4 or 8) at offset `off` of window n's remote window opens a held transaction for
each word (R374, R375, R378). `upper`: through the live half (R375). -/
def execWindowRead (req : Requester) (n : Fin 40) (off : Fin 1024) (size : Fin 9) (upper : Bool) (header : Nat) (s : State) : Result :=
  let pg := jtPage n
  let place := pg * 0x1000 + 0x400 + (if upper then 0x800 else 0) + off
  let word := off.toNat / 4
  let words := if size.toNat = 8 then [word, word + 1] else [word]
  let r : HeldRead := ⟨req, place, size, [], header, false⟩
  .next <|
    if !s.reaches req || !([1, 2, 4, 8].contains size.toNat) then s
    else match s.accessCause false place size with
      | some c => (s.logAccess req place false (byteEnables place size) c).emit (.readData req place [0])
      | none =>
        if !s.jtEnabled n then (s.refuseTxn n req.code false 0xA word).failRead r
        else
          let ks := (s.jtFree n req.code).take words.length
          if ks.length < words.length then (s.refuseTxn n req.code false 9 word).failRead r
          else
            let s := s.openWords n req.code (words.map (fun i => (i, none))) ks
            let s := s.putWindow n { s.window n with reads := (s.window n).reads ++ [{ r with words := ks.map (fun k => (k, none)) }] }
            ks.foldl (fun s k => s.startTxn n k) s

/-- WINDOW_WRITE: an aligned write of one or two words of window n's remote window allocates a slot for each (R375, R377). -/
def execWindowWrite (req : Requester) (n : Fin 40) (word : Fin 256) (lo : Word) (hi : Option Word) (s : State) : Result :=
  let place := jtPage n * 0x1000 + 0x400 + 4 * word
  let words := match hi with
    | some h => [(word.toNat, some lo.toNat), (word + 1, some h.toNat)]
    | none => [(word.toNat, some lo.toNat)]
  .next <|
    if !s.takesWrite req place then s
    else if hi.isSome && word.toNat % 2 == 1 then s.logAccess req place true 0xF 0x2
    else s.onWrite req place fun s =>
      if !s.jtEnabled n then s.refuseTxn n req.code true 0xA word
      else
        let ks := (s.jtFree n req.code).take words.length
        if ks.length < words.length then s.refuseTxn n req.code true 9 word
        else ks.foldl (fun s k => s.startTxn n k) (s.openWords n req.code words ks)

/-! ## Replies (R379, R381) -/

/-- The cause that a far STATUS ends a transaction with (R379). -/
def causeOf (status count rd : Nat) (read : Bool) : Nat :=
  if status = 0 then (if read && count != rd then 5 else 0) else if status < 7 then status else 5

/-- Take the oldest reply of a kind that the lane has handed to window n. -/
def State.takeReply (s : State) (n kind : Nat) : Option (List Byte × State) :=
  let x := s.window n
  (x.inbox.find? (·.1 == kind)).map fun e => (e.2, s.putWindow n { x with inbox := x.inbox.erase e })

/-- TXN_REPLY_RECEIVED: a reply ends its slot's transaction, asks for a BUSY retry, or is stale (R377, R379, R381). -/
def execTxnReplyReceived (n : Fin 40) (s : State) : Result :=
  let pg := jtPage n
  .next <| match s.takeReply n 5 with
    | none => s
    | some (b, s) =>
      let i := fieldLE b 0 1
      let gen := fieldLE b 1 1 / 16
      let status := fieldLE b 1 1 % 16
      let count := fieldLE b 2 1
      let data := (b.drop 4).take count
      let x := (s.window n).slot i
      if i < 64 && x.isOpen && x.gen == gen then
        if status = 6 && x.retries < s.get pg Jetty.JT_CFG_BUSY_RETRY then s.putJtSlot n i { x with retry := true }
        else s.closeTxn n i (causeOf status count x.txn.rd (x.txn.op != 0)) data status count false
      else
        let s := (s.countSat pg Jetty.JT_CNT_STALE_STALE).event pg 4
        if i < 64 && x.late == some gen then (s.putJtSlot n i { x with late := none }).resumeMirror n else s

/-- JETTY_BUSY_RETRY: 10 µs after a BUSY answer the transaction is sent again (R377). -/
def execJettyBusyRetry (n : Fin 40) (i : Fin 64) (s : State) : Result :=
  let x := (s.window n).slot i
  .next <| if x.isOpen && x.retry then
      let s := (s.putJtSlot n i { x with retry := false, retries := x.retries + 1 }).countSat (jtPage n) Jetty.JT_CNT_STALE_RETRIES
      s.sendTxn n i
    else s

/-! ## Local buses (R373, R384) -/

/-- The local bus of window n is done with its first transaction; failed transactions behind a stuck bus end too (R384). -/
def State.localDone (s : State) (n cause : Nat) (data : List Byte) (count : Nat) : State :=
  match (s.window n).localQueue with
  | [] => s
  | i :: r =>
    let s := s.putWindow n { s.window n with localQueue := r }
    (s.put (jtPage n) Jetty.LOC_STAT_BUSY (bit (!r.isEmpty))).closeTxn n i cause data 0 count false

/-- The transactions queued on a stuck bus fail (R384). -/
def State.failLocal (s : State) (n : Nat) : Nat → State
  | 0 => s
  | k + 1 => if (s.window n).localQueue.isEmpty then s else State.failLocal (s.localDone n 3 [] 0) n k

/-- JETTY_BUDGET_TIMEOUT: BUDGET_US has passed without a reply (R378, R381). A local controller gives the bus up (R384): RECOVERIES
counts, and SDA may stay low. -/
def execJettyBudgetTimeout (n : Fin 40) (i : Fin 64) (sdaLow : Bool) (s : State) : Result :=
  let pg := jtPage n
  .next <| if !((s.window n).slot i).isOpen then s
    else if n.toNat < 32 then s.closeTxn n i 7 [] 0 0 true
    else
      let q := (s.window n).localQueue
      let s := if q.head? == some i.toNat then
          let s := s.countSat pg Jetty.LOC_STAT_RECOVERIES
          if sdaLow then (s.put pg Jetty.LOC_STAT_STUCK 1).raise pg 4 else s
        else s
      let s := s.putWindow n { s.window n with localQueue := q.erase i }
      let s := (s.put pg Jetty.LOC_STAT_BUSY (bit (!(q.erase i).isEmpty))).closeTxn n i 7 [] 0 0 false
      if s.flag pg Jetty.LOC_STAT_STUCK then s.failLocal n 64 else s

/-- JETTY_LATE_EXPIRE: 12 ms after its freeing a slot's LATE mark clears (R381). -/
def execJettyLateExpire (n : Fin 40) (i : Fin 64) (s : State) : Result :=
  .next <| (s.putJtSlot n i { (s.window n).slot i with late := none }).resumeMirror n

/-- The link of lane n has left its operating state (R143, R382): every open transaction ends LINK_DOWN, every LATE mark clears. -/
def State.jettyLinkDown (s : State) (n : Nat) : State :=
  let s := (List.range 64).foldl (fun s i =>
    let x := (s.window n).slot i
    let s := if x.isOpen then s.endTxn n i 8 [] 0 0 false else s
    s.putJtSlot n i { (s.window n).slot i with late := none }) s
  let s := s.putWindow n { s.window n with inbox := [] }
  s.resumeMirror n

/-- LOCAL_TXN_DONE: the transaction in front on local bus n ends with a status of R129 (R379). -/
def execLocalTxnDone (n : Fin 8) (status : Fin 6) (count : Nat) (data : List Byte) (s : State) : Result :=
  let w := 32 + n.toNat
  .next <| match (s.window w).localQueue with
    | [] => s
    | i :: _ =>
      let t := ((s.window w).slot i).txn
      s.localDone w (causeOf status data.length t.rd (t.op != 0 && status.toNat == 0)) data count

/-- LOCAL_BUS_TIMEOUT: SCL held low beyond BUS_TO_US: the transaction ends BUS_TIMEOUT and the bus is recovered; SDA still low
leaves it stuck (R384). -/
def execLocalBusTimeout (n : Fin 8) (sdaLow : Bool) (s : State) : Result :=
  let w := 32 + n.toNat
  let pg := jtPage w
  .next <| if (s.window w).localQueue.isEmpty then s
    else
      let s := (s.localDone w 3 [] 0).countSat pg Jetty.LOC_STAT_RECOVERIES
      if sdaLow then ((s.put pg Jetty.LOC_STAT_STUCK 1).raise pg 4).failLocal w 64 else s

/-- LOCAL_BUS_RECOVERY: the retry of every 1 ms on a stuck bus (R384). -/
def execLocalBusRecovery (n : Fin 8) (sdaLow : Bool) (s : State) : Result :=
  let pg := jtPage (32 + n)
  .next <| if !s.flag pg Jetty.LOC_STAT_STUCK then s
    else
      let s := s.countSat pg Jetty.LOC_STAT_RECOVERIES
      if sdaLow then s else (s.put pg Jetty.LOC_STAT_STUCK 0).lower pg 4

/-! ## The raw buffer (R386) -/

/-- The first n bytes of TXQ_DATA. -/
def State.txqBytes (s : State) (n k : Nat) : List Byte :=
  ((List.range 16).flatMap fun i => toBytesLE 4 (s.get (jtPage n) (Jetty.TXQ_DATA_DATA.nth i))).take k

/-- TXQ_GO: a write of TXQ_REQ with GO = 1 sends one raw transaction (R386). -/
def execTxqGo (req : Requester) (n : Fin 40) (w : Word) (s : State) : Result :=
  let pg := jtPage n
  .next <| s.onWrite req (regOff pg Jetty.TXQ_REQ_GO) fun s =>
    let busy := s.flag pg Jetty.TXQ_REQ_GO
    let s := s.writeFields pg w.toNat 5 [Jetty.TXQ_REQ_BUS, Jetty.TXQ_REQ_OP, Jetty.TXQ_REQ_TARGET, Jetty.TXQ_REQ_WR_COUNT,
      Jetty.TXQ_REQ_RD_COUNT]
    if !w.toNat.testBit 31 then s
    else if busy then s.event pg 5
    else if !s.jtEnabled n then s.refuseTxn n 3 (s.get pg Jetty.TXQ_REQ_OP == 0) 0xA 0
    else
      let op := s.get pg Jetty.TXQ_REQ_OP
      let wc := s.get pg Jetty.TXQ_REQ_WR_COUNT
      let rc := s.get pg Jetty.TXQ_REQ_RD_COUNT
      let t : BusTxn := ⟨s.get pg Jetty.TXQ_REQ_BUS, op, s.get pg Jetty.TXQ_REQ_TARGET, s.txqBytes n wc, rc, 0⟩
      match s.jtFree n 3 with
      | [] => (s.refuseTxn n 3 (op == 0) 9 0).endTxq n 9 0 []
      | i :: _ =>
        let s := (s.openTxn n i 3 0 t).put pg Jetty.TXQ_REQ_GO 1
        if (wc = 0 ∧ op ≠ 1) ∨ (rc = 0 ∧ op ≠ 0) then s.closeTxn n i 5 [] 0 0 false else s.startTxn n i

/-! ## Sensor events (R389) -/

/-- An event enters window n's queue. -/
def State.pushEvent (s : State) (n : Nat) (e : SensorEvent) : State :=
  let x := s.window n
  let pg := jtPage n
  if 16 ≤ x.events.length then (s.put pg Jetty.EVQ_STAT_OVERFLOW 1).event pg 1
  else
    let s := (s.putWindow n { x with events := x.events ++ [e] }).put pg Jetty.EVQ_STAT_COUNT (x.events.length + 1)
    s.eventIf x.events.isEmpty pg 0

/-- A checked SIDEBAND packet reaches the Jetty (R123, R389): EVENT, INDEX and LEVEL. -/
def State.sideband (s : State) (n : Nat) (b : List Byte) (stamp16 : Nat) : State :=
  let e := fieldLE b 0 1
  if e = 1 ∨ e = 2 then
    s.pushEvent n { kind := e, stamp := nearestNs stamp16, index := fieldLE b 1 1 % 8, level := bit (fieldLE b 2 1 != 0) }
  else s

/-- SINT_EDGE: local input SINT_n has changed and has been stable for 20 ns (R389); `back` ns ago at the ball. -/
def execSintEdge (n : Fin 8) (level : Bool) (back : Nat) (s : State) : Result :=
  .next <| if !s.hasBall 4 n then s else s.pushEvent (32 + n) { kind := 1, stamp := s.activeTime ((s.time.c - back) * 2 ^ 32) / 2 ^ 32, level := bit level }

/-- IBI_RECEIVED: a target asks for an in-band interrupt on local bus n (R389): with IBI_EN it is acknowledged, and up to 4
payload bytes are read. -/
def execIbiReceived (n : Fin 8) (addr : Fin 128) (payload : List Byte) (s : State) : Result :=
  .next <| if s.flag (jtPage (32 + n)) Jetty.LOC_CFG_IBI_EN then
      s.pushEvent (32 + n) { kind := 3, stamp := s.now, addr := addr, ibi := payload.take 4 }
    else s

/-- The words of an event as EVQ_STAMP_LO, EVQ_STAMP_HI, EVQ_INFO and EVQ_IBI show it (R393). -/
def eventWords : Option SensorEvent → List Nat
  | none => [0, 0, 0, 0]
  | some e => [e.stamp % 2 ^ 32, e.stamp / 2 ^ 32 % 2 ^ 32,
      2 ^ 31 + e.ibi.length * 2 ^ 16 + e.addr * 2 ^ 9 + e.level * 2 ^ 8 + e.index * 2 ^ 4 + e.kind, ofBytesLE e.ibi]

/-- The head event of window n leaves its queue, as words (R389). -/
def State.popEvent (s : State) (n : Nat) : List Nat × State :=
  let x := s.window n
  (eventWords x.events.head?,
    (s.putWindow n { x with events := x.events.tail }).put (jtPage n) Jetty.EVQ_STAT_COUNT (x.events.length - 1))

/-- EVQ_POP: a read of EVQ_STAMP_LO pops the head event and captures its words (R9, R389). -/
def execEvqPop (req : Requester) (n : Fin 40) (s : State) : Result :=
  .next <| s.onPop req (regOff (jtPage n) Jetty.EVQ_STAMP_LO_TIME) fun s => s.popEvent n

/-! ## Fault-status polls (R390, R391) -/

/-- POLL_CFG.LINE as it now is (R390): a sentinel stream on the lane with a measured line period. -/
def State.pollLine (s : State) (n : Nat) : Bool :=
  ((s.sentinelsOf n).head?).any (fun x => s.st x StreamTab.ST_LINE_PERIOD_NS != 0)

/-- POLL_SEND: a period has passed (R390): a poll that has not been counted is missed, and the next one is sent. -/
def execPollSend (n : Fin 32) (s : State) : Result :=
  let pg := jtPage n
  .next <| if !s.jtEnabled n || !s.flag pg Jetty.POLL_CFG_EN || s.linkState n != 9 then s
    else
      let x := s.window n
      let s := if x.polled then
          let run := x.missRun + 1
          let s := (s.countSat pg Jetty.POLL_CNT_MISSED).putWindow n { x with missRun := run }
          if s.get pg Jetty.POLL_CFG_MISS_MAX ≤ run then s.raise pg 2 else s
        else s
      let x := s.window n
      let id := (x.pollId + 1) % 256
      (s.putWindow n { x with pollId := id, polled := true }).bcSend n 4 [BitVec.ofNat 8 id]

/-- CAM_FAULT as it now is (R391). -/
def State.judgeCamFault (s : State) (n : Nat) : State :=
  s.cond (jtPage n) 1 (s.get (jtPage n) Jetty.POLL_STATUS_STATUS &&& s.get (jtPage n) Jetty.POLL_MASK_MASK != 0)

/-- POLL_REPLY: a reply counts if it carries the latest POLL_ID and comes before the next poll (R391). -/
def execPollReply (n : Fin 32) (s : State) : Result :=
  let pg := jtPage n
  .next <| match s.takeReply n 4 with
    | none => s
    | some (b, s) =>
      let x := s.window n
      if x.polled && fieldLE b 0 1 == x.pollId then
        let s := s.putWindow n { x with polled := false, missRun := 0 }
        let s := (s.put pg Jetty.POLL_STATUS_STATUS (fieldLE b 4 4)).countWrap pg Jetty.POLL_CNT_REPLIED
        (s.lower pg 2).judgeCamFault n
      else s

end Sys2Proof.Machine
end

