-- ==== Sys2Proof/Machine/Weatas.lean ====
section
/-!
DEFINITION. Sys2Proof/Machine/Weatas.lean: the lanes: receiver and transmitters, line monitor, test patterns (R88 to R116), and
the link protocol: training, packets, latency, dropouts (R117 to R147).
-/
namespace Sys2Proof.Machine

/-! ## Modes and states (R88, R93, R132) -/

/-- Preset CTLE peaking of a mode (R88). -/
def modePeak (m : Nat) : Nat := [32, 48, 48, 64].getD m 0

/-- The minimum SNR of a mode, in 0.01 dB (R88). -/
def modeSnr (m : Nat) : Nat := [1400, 1400, 2200, 2200].getD m 0

/-- The raw rate of a mode, Gb/s (R88). -/
def modeRate (m : Nat) : Nat := [6, 12, 24, 32].getD m 0

def State.laneMode (s : State) (n : Nat) : Nat := s.get (wePage n) Weatas.LANE_STAT_MODE_ACT

/-- RX_STATE (R93): 0 OFF, 1 HELD, 2 ACQUIRE, 3 TRACK, 4 FROZEN. -/
def State.rxState (s : State) (n : Nat) : Nat := s.get (wePage n) Weatas.LANE_STAT_RX_STATE
def State.putRx (s : State) (n st : Nat) : State := s.put (wePage n) Weatas.LANE_STAT_RX_STATE st

/-- The link enters a state (R132); TRAIN_FAILED is present in FAILED, LINK_LOST until ACTIVE (R147). -/
def State.linkTo (s : State) (n st : Nat) : State :=
  let s := (s.put (wePage n) Weatas.LINK_STAT_STATE st).cond (wePage n) 17 (st == 11)
  if st = 9 then s.lower (wePage n) 16 else s

/-- The presets of an entry to ACQUIRE (R94). -/
def State.acquire (s : State) (n : Nat) : State :=
  let pg := wePage n
  let s := (s.put pg Weatas.RX_CTLE_VGA 24).put pg Weatas.RX_CTLE_PEAK (modePeak (s.laneMode n))
  let cur := s.get pg Weatas.RX_FFE_CUR_CURSOR
  let s := (List.range 24).foldl (fun s t => s.put pg (Weatas.RX_FFE_C.nth t) (if t = cur then 0x100 else 0)) s
  let s := (s.put pg Weatas.RX_DFE_H1 0).putLane n { s.lane n with manual := [] }
  (s.putRx n 2).lower pg 4

/-- A training setting of the camera's transmitter: SWING, PRE, POST. -/
abbrev FarSetting := Nat × Nat × Nat

/-- The clamps of R99: the setting sent, and the FAR_CLAMP bits (PRE 0, POST 1, SWING 2, SUM 3). -/
def clampFar (farMax : Nat × Nat × Nat) (x : FarSetting) : FarSetting × Nat :=
  let (swMax, postMax, preMax) := farMax
  let (sw, pre, post) := x
  let pre' := min pre (min preMax 12)
  let post1 := min post (min postMax 24)
  let post' := if pre' + post1 > 28 then 28 - pre' else post1
  let sw' := min (max sw 10) (min swMax 50)
  ((sw', pre', post'), bit (pre' != pre) + 2 * bit (post1 != post) + 4 * bit (sw' != sw) + 8 * bit (post' != post1))

/-- Clamp a setting and queue it as an EQ command (R99, R129). -/
def State.sendEq (s : State) (n : Nat) (x : FarSetting) : State :=
  let pg := wePage n
  let (y, c) := clampFar (s.lane n).farMax x
  let s := [(Weatas.FAR_CLAMP_PRE, 0), (Weatas.FAR_CLAMP_POST, 1), (Weatas.FAR_CLAMP_SWING, 2), (Weatas.FAR_CLAMP_SUM, 3)].foldl
    (fun s (e : Field × Nat) => if hasBit c e.2 then s.put pg e.1 1 else s) s
  let s := s.eventIf (c != 0) pg 3
  let s := s.putLane n { s.lane n with eqSent := some y, eqDue := false }
  let s := if (s.lane n).trained then s.put pg Weatas.FAR_TXEQ_ACT_PENDING 1 else s
  s.bcSend n 3 [BitVec.ofNat 8 y.1, BitVec.ofNat 8 y.2.1, BitVec.ofNat 8 y.2.2]

/-- FAR_CAP and FAR_TXEQ_ACT show the camera's limits and setting once a training has completed (R112). -/
def State.showFar (s : State) (n : Nat) : State :=
  let pg := wePage n
  let x := s.lane n
  if !x.trained then s
  else
    let s := ((s.put pg Weatas.FAR_CAP_SWING_MAX x.farMax.1).put pg Weatas.FAR_CAP_POST_MAX x.farMax.2.1).put pg
      Weatas.FAR_CAP_PRE_MAX x.farMax.2.2
    ((s.put pg Weatas.FAR_TXEQ_ACT_SWING x.farNow.1).put pg Weatas.FAR_TXEQ_ACT_PRE x.farNow.2.1).put pg
      Weatas.FAR_TXEQ_ACT_POST x.farNow.2.2

/-- The request fields of FAR_TXEQ_REQ (R100). -/
def State.farRequest (s : State) (n : Nat) : FarSetting :=
  let pg := wePage n
  (s.get pg Weatas.FAR_TXEQ_REQ_SWING, s.get pg Weatas.FAR_TXEQ_REQ_PRE, s.get pg Weatas.FAR_TXEQ_REQ_POST)

/-! ## Training (R132 to R137) -/

/-- TRAIN with the mode in hand, the epoch and a phase (R129). -/
def State.sendTrain (s : State) (n phase : Nat) : State :=
  s.bcSend n 1 [BitVec.ofNat 8 (s.laneMode n), BitVec.ofNat 8 (s.get (wePage n) Weatas.LINK_STAT_EPOCH), BitVec.ofNat 8 phase]

/-- A mode attempt begins: WAIT_SIGNAL with a new epoch (R133, R137). -/
def State.attempt (s : State) (n m : Nat) : State :=
  let pg := wePage n
  let s := (s.put pg Weatas.LANE_STAT_MODE_ACT m).countWrap pg Weatas.LINK_STAT_EPOCH
  let s := ((s.put pg Weatas.LINK_CTRL_RETRAIN 0).linkTo n 2).acquire n
  let x := s.lane n
  let s := s.putLane n { x with
    queue := [], inbox := [], probe := none, eqSent := none, run := 0, uncorrRun := 0, seqNext := none, place := none, inPacket := none }
  s.sendTrain n 0

/-- The highest mode at or below m that this training may try (R134). -/
def State.nextMode (s : State) (n m : Nat) : Option Nat :=
  let x := s.lane n
  ((List.range (m + 1)).reverse).find? fun k => decide (x.modeMin ≤ k) && (x.modes.all (fun mask => hasBit mask k))

/-- Training starts (R89, R134): from MODE_MAX downward. -/
def State.startTraining (s : State) (n : Nat) : State :=
  let pg := wePage n
  let x := s.lane n
  let s := s.putLane n { x with modeMin := s.get pg Weatas.LANE_CFG_MODE_MIN, modeMax := s.get pg Weatas.LANE_CFG_MODE_MAX,
                                medium := s.get pg Weatas.LANE_CFG_MEDIUM, trainAt := s.time.c }
  let s := (s.put pg Weatas.LINK_STAT_FAILS 0).put pg Weatas.LANE_STAT_CONVERGED 0
  match s.nextMode n (s.lane n).modeMax with
  | some m => s.attempt n m
  | none => (s.acquire n).linkTo n 11

/-- A mode attempt fails (R134): the next mode, or FAILED. -/
def State.failAttempt (s : State) (n : Nat) : State :=
  let pg := wePage n
  let s := (s.event pg 18).countSat pg Weatas.LINK_STAT_FAILS
  match (if s.laneMode n = 0 then none else s.nextMode n (s.laneMode n - 1)) with
  | some m => s.attempt n m
  | none => (s.putLane n { s.lane n with queue := [] }).linkTo n 11

/-- Queued FSYNCs are dropped: each is missed (R130, R143). -/
def State.dropFsyncs (s : State) (n : Nat) : State :=
  let l := (s.lane n).fsyncs
  let s := s.putLane n { s.lane n with fsyncs := [] }
  l.foldl (fun s f => (s.countSat (wePage n) Weatas.FSYNC_COUNT_MISSED).pathMissed n f.tide) s

/-- Polls in flight are not judged while the lane is out of ACTIVE (R391). -/
def State.pausePoll (s : State) (n : Nat) : State := s.putWindow n { s.window n with polled := false }

/-- The link of lane n has left its operating state: its downshift policy counts it, and lowers MODE_MAX at the last one allowed within
1 s (R545). -/
def State.noteBreak (s : State) (n : Nat) : State :=
  let p : LinkPolicy := SMap.get (fun _ => {}) s.cores.links n
  let put := fun (s : State) (l : List Nat) =>
    { s with cores := { s.cores with links := SMap.set (fun _ => {}) s.cores.links n { p with breaks := l } } }
  if p.flaps = 0 then s
  else
    let recent := s.time.c :: p.breaks.filter (fun t => decide (s.time.c - t < 10 ^ 9))
    if recent.length < p.flaps then put s recent
    else
      let lo := s.get (wePage n) Weatas.LANE_CFG_MODE_MIN
      (put s []).put (wePage n) Weatas.LANE_CFG_MODE_MAX (max lo (s.get (wePage n) Weatas.LANE_CFG_MODE_MAX - 1))

/-- The checks of a packet's START block and of its end (R124): the header checks; the packet is discarded; its payload check fails. -/
def ForwardPacket.kind (p : ForwardPacket) : Nat := fieldLE p.header 1 1 / 16
def ForwardPacket.headerOk (p : ForwardPacket) : Bool :=
  decide (fieldLE p.header 0 1 = 0x78) && decide (fieldLE p.header 6 2 = crc16 (sliceBytes p.header 0 6))

/-- SEQ of a START block that was read correctly (R125). -/
def State.trackSeq (s : State) (n seq : Nat) (accepted : Bool) : State :=
  let x := s.lane n
  match x.seqNext with
  | some e =>
    (s.countSat (wePage n) Weatas.PKT_ERR_LOST ((seq + 256 - e) % 256)).putLane n { x with seqNext := some ((seq + 1) % 256) }
  | none => if accepted then s.putLane n { x with seqNext := some ((seq + 1) % 256) } else s

/-- The packet in progress is broken by a dropout (R124, R141): a CSI2 packet goes to the Inlet so, ahead of the GAP mark. -/
def State.breakPacket (s : State) (n : Nat) : State := match (s.lane n).inPacket with
  | none => s
  | some p =>
    let s := s.putLane n { s.lane n with inPacket := none }
    let s := (s.trackSeq n (fieldLE p.header 4 1) (p.kind == 1)).countSat (wePage n) Weatas.PKT_ERR_BROKEN
    if p.kind = 1 then s.intake n p.payload true (s.stampAt p.start) s.time.c else s

/-- The link leaves its operating state (R142, R143). `counted`: RETRAINS counts and LINK_DOWN sets, as on every cause but EN = 0 and HELD;
`lost`: LINK_LOST is raised. -/
def State.leaveOperating (s : State) (n : Nat) (counted lost : Bool) : State :=
  if !s.linkOperating n then s
  else
    let pg := wePage n
    let s := s.noteBreak n
    let s := if counted then (s.event pg 17).countSat pg Weatas.LINK_COUNT_RETRAINS else s
    let s := if lost then s.raise pg 16 else s
    let s := ((s.breakPacket n).gapTo n).put pg Weatas.LINK_STAT_STATE 2
    let s := (s.jettyLinkDown n).pausePoll n
    let s := s.put pg Weatas.FAR_TXEQ_ACT_PENDING 0
    let s := s.putLane n { s.lane n with eqSent := none, eqDue := false, queue := [], probe := none }
    (s.dropFsyncs n).put pg Weatas.LAT_CABLE_VALID 0

/-- Restart training, from the operating state or from any other that trains (R142). -/
def State.retrain (s : State) (n : Nat) (lost : Bool) : State := (s.leaveOperating n true lost).startTraining n

/-- The lane is switched on (R93, R132): it trains, unless it is held. -/
def State.laneOn (s : State) (n : Nat) : State :=
  if s.linkState n ≠ 0 then s
  else if s.flag (wePage n) Weatas.LM_STAT_HOLD then ((s.putRx n 1).putLane n { s.lane n with modes := none }).linkTo n 1
  else s.startTraining n

/-- CTRL.EN = 0, or the lane's domain is off (R93, R142). -/
def State.laneOff (s : State) (n : Nat) : State :=
  let s := (s.leaveOperating n false false).linkTo n 0
  ((s.putRx n 0).putLane n { s.lane n with queue := [], inbox := [] }).lower (wePage n) 4

/-- Symbol count of DROPOUT (R141): the link enters DROPOUT. -/
def State.enterDropout (s : State) (n : Nat) : State :=
  let pg := wePage n
  let s := ((s.linkTo n 10).event pg 19).countSat pg Weatas.LINK_COUNT_DROPOUTS
  let s := ((s.breakPacket n).gapTo n).pausePoll n
  s.putLane n { s.lane n with dropAt := s.time.c, run := 0 }

/-- Two valid markers in a row end DROPOUT (R141). -/
def State.leaveDropout (s : State) (n : Nat) : State :=
  let pg := wePage n
  let x := s.lane n
  let s := ((s.linkTo n 9).event pg 20).put pg Weatas.DROPOUT_LAST_NS (min (s.time.c - x.dropAt) (2 ^ 32 - 1))
  s.putLane n { s.lane n with seqNext := none, uncorrRun := 0 }

/-- HDR_ERR counts (R119, R121, R124); in VERIFY that fails the attempt (R133). -/
def State.headerError (s : State) (n : Nat) : State :=
  let s := s.countSat (wePage n) Weatas.HDR_ERR_COUNT
  if s.linkState n = 8 then s.putLane n { s.lane n with verifyBad := true } else s

/-! ## The receiver (R92 to R98) -/

/-- A signed field as an integer. -/
def State.signed (s : State) (pg w : Nat) (f : Field) : Int := toSigned w (s.get pg f)

/-- The coefficients that free adaptation has come to (R93): any coefficient may take any value of its range. -/
def State.adapt (s : State) (n : Nat) (c : RxCoefs) : State :=
  let pg := wePage n
  let s := ((s.put pg Weatas.RX_CTLE_VGA c.vga).put pg Weatas.RX_CTLE_PEAK (min c.peak 96)).put pg Weatas.RX_DFE_H1 c.h1
  (List.range 24).foldl (fun s t => s.put pg (Weatas.RX_FFE_C.nth t) (c.ffe.getD t 0)) s

/-- The slicer's sums over a window of symbols with the coefficients in force (R92): of the ideal levels, of the error. -/
def State.slicer (s : State) (n : Nat) (w : List RxSymbol) : Nat × Nat :=
  let pg := wePage n
  slicerSums ((List.range 24).map fun t => s.signed pg 10 (Weatas.RX_FFE_C.nth t)) (s.get pg Weatas.RX_FFE_CUR_CURSOR)
    (s.signed pg 8 Weatas.RX_DFE_H1) w

/-- Does a window of symbols give an SNR of at least the mode's minimum (R88, R92)? -/
def State.snrHolds (s : State) (n : Nat) (w : List RxSymbol) : Bool :=
  let q := s.slicer n w
  snrAtLeast q.1 q.2 (modeSnr (s.laneMode n))

/-- RX_QUALITY.SNR shows the SNR of a window (R92, R111), in whole hundredths of a dB: the manual gives no rounding, and no value where it
does not fit the field. -/
def State.putSnr (s : State) (n : Nat) (w : List RxSymbol) : State :=
  let (p, e) := s.slicer n w
  let q := snrFloor p e
  if e = 0 ∨ p < e ∨ 65535 ≤ q then s.putFit (wePage n) Weatas.RX_QUALITY_SNR (-1)
  else if p ^ 1000 = 10 ^ q * e ^ 1000 then s.put (wePage n) Weatas.RX_QUALITY_SNR q
  else
    let (x, s) := s.fresh
    s.put (wePage n) Weatas.RX_QUALITY_SNR (q + x % 2)

/-- LANE_RX_CONVERGED: free adaptation has come to coefficients at which the SNR has stayed at or above the mode's minimum for 100 µs (R93,
R94); `w` is the window of its last symbols. -/
def execLaneRxConverged (n : Fin 32) (x : RxCoefs × List RxSymbol) (s : State) : Result :=
  let (c, w) := x
  let pg := wePage n
  let t := s.adapt n c
  .next <| if s.rxState n ≠ 2 ∨ w.length ≠ snrWindow ∨ (s.linkState n ≠ 3 ∧ s.linkState n ≠ 12) ∨ !t.snrHolds n w then s
    else
      let s := ((t.putSnr n w).put pg Weatas.LANE_STAT_CONVERGED 1).event pg 0
      if s.linkState n = 3 then (s.putLane n { s.lane n with run := 0 }).linkTo n 4 else s

/-- A signed coefficient of `w` bits moved by d; it stays at the end of its range (R96). -/
def stepSigned (w v : Nat) (d : Int) : Nat := ofSigned w (satS w (toSigned w v + d))

/-- Is a step within the bounds of R96, and far enough after the last one of its coefficient? -/
def State.stepAllowed (s : State) (n : Nat) (step : EqStep) : Bool :=
  let x := s.lane n
  let after := fun (last : Option Nat) (ns : Nat) => last.all (fun c => decide (c + ns ≤ s.time.c))
  let fast := 1000 * s.get (wePage n) Weatas.RX_ADAPT_INTERVAL_US
  match step with
  | .vga codes => vgaStep codes != 0 && after x.vgaAt 1000000
  | .peak d => decide (d.natAbs ≤ 1) && after x.peakAt 1000000
  | .ffe l => decide (l.length ≤ 4) && l.all (fun e => decide (e.2.natAbs ≤ 1)) && decide ((l.map (·.1)).Nodup) && after x.ffeAt fast
  | .h1 d => decide (d.natAbs ≤ 1) && after x.h1At fast

/-- Apply a step: the coefficients take their new values together (R96). -/
def State.applyStep (s : State) (n : Nat) : EqStep → State
  | .vga codes => s.put (wePage n) Weatas.RX_CTLE_VGA
      (max 0 (min 63 ((s.get (wePage n) Weatas.RX_CTLE_VGA : Int) + vgaStep codes))).toNat
  | .peak d => s.put (wePage n) Weatas.RX_CTLE_PEAK (max 0 (min 96 ((s.get (wePage n) Weatas.RX_CTLE_PEAK : Int) + d))).toNat
  | .ffe l => l.foldl (fun s (e : Fin 24 × Int) =>
      s.put (wePage n) (Weatas.RX_FFE_C.nth e.1) (stepSigned 10 (s.get (wePage n) (Weatas.RX_FFE_C.nth e.1)) e.2)) s
  | .h1 d => s.put (wePage n) Weatas.RX_DFE_H1 (stepSigned 8 (s.get (wePage n) Weatas.RX_DFE_H1) d)

/-- ADAPT_STEP: a bounded step in a quiet opening in TRACK (R96). `intrude`: a header arrives while it is applied (R97). -/
def execAdaptStep (n : Fin 32) (step : EqStep) (intrude : Bool) (s : State) : Result :=
  let pg := wePage n
  .next <| if s.rxState n ≠ 3 ∨ s.linkState n ≠ 9 ∨ !s.quietFor n 64 ∨ !s.stepAllowed n step then s
    else
      let x := s.lane n
      let x := match step with
        | .vga _ => { x with vgaAt := some s.time.c }
        | .peak _ => { x with peakAt := some s.time.c }
        | .ffe _ => { x with ffeAt := some s.time.c }
        | .h1 _ => { x with h1At := some s.time.c }
      let s := ((s.applyStep n step).putLane n x).countWrap pg Weatas.ADAPT_STEPS_COUNT
      if intrude then (s.countSat pg Weatas.ADAPT_INTRUDE_COUNT).event pg 2 else s

/-- ADAPT_STARVED: no quiet opening long enough was found during STARVE_MS in TRACK (R97). -/
def execAdaptStarved (n : Fin 32) (s : State) : Result :=
  .next <| s.eventIf (s.rxState n == 3) (wePage n) 1

/-- RX_FREEZE: a write of RX_ADAPT (R93, R98). -/
def execRxFreeze (req : Requester) (n : Fin 32) (w : Word) (s : State) : Result :=
  let pg := wePage n
  .next <| s.onWrite req (regOff pg Weatas.RX_ADAPT_FREEZE) fun s =>
    let s := s.writeFields pg w.toNat 11 [Weatas.RX_ADAPT_FREEZE, Weatas.RX_ADAPT_INTERVAL_US, Weatas.RX_ADAPT_GUARD_NS]
    if s.rxState n = 3 ∧ w.toNat.testBit 31 then s.putRx n 4
    else if s.rxState n = 4 ∧ !w.toNat.testBit 31 then s.putRx n 3 else s

/-- MANUAL_COEF_APPLY: coefficients written in FROZEN take effect as one step in a quiet opening (R98). -/
def execManualCoefApply (n : Fin 32) (s : State) : Result :=
  let x := s.lane n
  .next <| if (s.rxState n ≠ 3 ∧ s.rxState n ≠ 4) ∨ !s.quietFor n 64 then s
    else
      let s := s.putLane n { x with manual := [] }
      { s with regs := x.manual.foldl (fun m e => SMap.set resetField m e.1 e.2) s.regs }

/-- RX_SNR_LOW: the SNR has been below the mode's minimum for 1 ms in TRACK or FROZEN, or is no longer (R116); `w` is the window of the last
symbols. -/
def execRxSnrLow (n : Fin 32) (w : List RxSymbol) (s : State) : Result :=
  .next <| if (s.rxState n = 3 ∨ s.rxState n = 4) ∧ w.length = snrWindow then
      (s.putSnr n w).cond (wePage n) 4 (!s.snrHolds n w)
    else s

/-! ## Transmitters (R99 to R101) -/

/-- One field of a far setting moved by one code: 0 SWING, 1 PRE, 2 POST. -/
def moveFar (x : FarSetting) (field : Nat) (up : Bool) : FarSetting :=
  let m := fun v => if up then v + 1 else v - 1
  if field = 0 then (m x.1, x.2.1, x.2.2) else if field = 1 then (x.1, m x.2.1, x.2.2) else (x.1, x.2.1, m x.2.2)

/-- Does a far opening of at least 20 µs begin (R100)? `next` are the predicted next frame starts of the lane's four streams, 1/16 ns of P: the
frame of the sentinel stream whose next one comes first is over, and its guard is 20 µs away or more. How a frame start is predicted is
not stated: the command carries it (DESIGN CHOICE). -/
def State.farOpen (s : State) (n : Nat) (next : List Int) : Bool :=
  let at_ := fun x => next.getD (x % 4) 0
  match (s.sentinelsOf n).find? (fun x => (s.sentinelsOf n).all fun y => decide (at_ x ≤ at_ y)) with
  | none => true
  | some x => !s.lineOpen n &&
    (s.st x StreamTab.ST_STAT_STATE != 1 || (s.stream x).plan.any (fun p => decide (p.activeLines ≤ (s.stream x).counts.getD (p.exposures - 1) 0 ∨
      p.activeLines * p.exposures ≤ (s.stream x).counts.foldl (· + ·) 0))) &&
    decide ((s.now16 : Int) + 16 * (s.get (wePage n) Weatas.RX_ADAPT_GUARD_NS + 20000) ≤ at_ x)

/-- FAR_OPENING: a far opening of at least 20 µs starts (R100): a due command is sent, or the adaptation changes one field. A setting that AUTO = 0
left due, and AUTO = 1 has overtaken, is sent as the setting in force (DESIGN CHOICE). -/
def execFarOpening (n : Fin 32) (o : List Int × Option (Fin 3 × Bool)) (s : State) : Result :=
  let (next, change) := o
  let pg := wePage n
  let x := s.lane n
  .next <| if s.linkState n ≠ 9 ∨ !s.farOpen n next then s
    else if !s.flag pg Weatas.FAR_TXEQ_REQ_AUTO then if x.eqDue then s.sendEq n (s.farRequest n) else s
    else if x.eqDue then s.sendEq n x.farNow
    else match change with
      | some (f, up) =>
        if s.rxState n = 3 && x.farAt.all (fun c => decide (c + 100000000 ≤ s.time.c)) then
          (s.putLane n { x with farAt := some s.time.c }).sendEq n (moveFar x.farNow f up)
        else s
      | none => s

/-- Amplitude in force (R101): the lesser of the request and A_max. -/
def State.setAmplitude (s : State) (n : Nat) : State :=
  let pg := wePage n
  let req := s.get pg Weatas.BC_TX_AMP_REQ
  let amax := s.get pg Weatas.BC_TX_ACT_AMAX
  let was := s.flag pg Weatas.BC_TX_ACT_CLAMPED
  let s := (s.put pg Weatas.BC_TX_ACT_AMP_ACT (min req amax)).put pg Weatas.BC_TX_ACT_CLAMPED (bit (decide (amax < req)))
  s.eventIf (!was && decide (amax < req)) pg 5

/-- BC_AMP_SAMPLE: VDDA_SERH measures `mv` (R101). Below 500 mV, where the formula is negative, A_max is 0 (DESIGN CHOICE). -/
def execBcAmpSample (n : Fin 32) (mv : Nat) (s : State) : Result :=
  .next <| (s.put (wePage n) Weatas.BC_TX_ACT_AMAX (min 70 ((mv - 500) / 10))).setAmplitude n

/-! ## Line monitoring (R102 to R105) -/

/-- The voltage of a monitor input (R102). -/
def monitorMv (code div : Nat) : Nat := code * 1200 * div / 4096

/-- The class of a scan (R103), by LM_STAT.CLASS code. -/
def State.classify (s : State) (n : Nat) (vLine vFeed iLine : Int) : Nat :=
  let pg := wePage n
  let f := fun (g : Field) => (s.get pg g : Int)
  let feed := wePage (4 * s.get pg Weatas.LM_CFG_GROUP)
  if vLine > vFeed + f Weatas.LM_THRESH1_V_OVER then 4
  else if vFeed < s.get feed Weatas.LM_FEED_CFG_V_FEED_PRESENT then 1
  else if vLine < f Weatas.LM_THRESH1_V_SHORT_GND ∨ iLine > f Weatas.LM_THRESH2_I_MAX then 3
  else if iLine < f Weatas.LM_THRESH2_I_OPEN then 2
  else if f Weatas.LM_CAM_VCAM_MIN ≠ 0 ∧
      vLine * 1000 - iLine * f Weatas.LM_CAM_RCABLE < f Weatas.LM_CAM_VCAM_MIN * 1000 then 5
  else 0

/-- A holding class (R104). -/
def isHolding (c : Nat) : Bool := c == 2 || c == 3 || c == 4

/-- The lane is held (R104, R107). -/
def State.holdLane (s : State) (n : Nat) : State :=
  let pg := wePage n
  let s := s.put pg Weatas.LM_STAT_HOLD 1
  let s := if s.rxState n = 0 then s else s.putRx n 1
  let s := ((s.put pg Weatas.PRBS_GEN_EN 0).put pg Weatas.PRBS_CHK_EN 0).put pg Weatas.PRBS_INJ_GO 0
  let s := (s.put pg Weatas.PRBS_CHK_LOCKED 0).lower pg 4
  let s := if s.linkState n = 0 then s
    else
      let s := (s.leaveOperating n false false).linkTo n 1
      s.putLane n { s.lane n with modes := none }
  s.putLane n { s.lane n with queue := [], inbox := [], injections := [], inPacket := none }

/-- The generator's output begins on its target (R106, R107): not on the back channel of a held lane, which stays silent (R104). -/
def State.drivePattern (s : State) (n : Nat) : State :=
  let pg := wePage n
  if s.flag pg Weatas.PRBS_GEN_EN && (s.flag pg Weatas.PRBS_GEN_TARGET || !s.flag pg Weatas.LM_STAT_HOLD) then
    s.emit (.pattern n (s.get pg Weatas.PRBS_GEN_TARGET) (s.get pg Weatas.PRBS_GEN_PATTERN) (s.lane n).genSeed)
  else s

/-- HOLD clears, and a lane in HELD trains (R104). -/
def State.releaseLane (s : State) (n : Nat) : State :=
  let s := s.put (wePage n) Weatas.LM_STAT_HOLD 0
  let s := if s.flag (wePage n) Weatas.PRBS_GEN_TARGET then s else s.drivePattern n
  if s.linkState n = 1 then s.startTraining n else s

/-- With AUTO_RELEASE = 1 a lane held under a class that no longer holds is released at once (R104). -/
def State.autoRelease (s : State) (n : Nat) : State :=
  let pg := wePage n
  if s.flag pg Weatas.LM_STAT_HOLD && s.flag pg Weatas.LM_CFG_AUTO_RELEASE && !isHolding (s.get pg Weatas.LM_STAT_CLASS) then
    (s.event pg 7).releaseLane n
  else s

/-- LM_STAT.CLASS takes a class (R103 to R105, R116). -/
def State.enterClass (s : State) (n c : Nat) : State :=
  let pg := wePage n
  let s := (s.put pg Weatas.LM_STAT_CLASS c).event pg 6
  let s := (((s.cond pg 0 (c == 2)).cond pg 1 (c == 3)).cond pg 2 (c == 4)).cond pg 3 (c == 5)
  if isHolding c then s.holdLane n else s.autoRelease n

/-- LM_SCAN: lane n's input and its feed group's input are converted (R102, R103). -/
def execLmScan (n : Fin 32) (code feedCode : Fin 4096) (s : State) : Result :=
  let pg := wePage n
  let feed := wePage (4 * s.get pg Weatas.LM_CFG_GROUP)
  let vLine : Int := monitorMv code (s.get pg Weatas.LM_CFG_DIV)
  let vFeed : Int := monitorMv feedCode (s.get feed Weatas.LM_FEED_CFG_DIV)
  let iLine : Int := Int.tdiv ((vFeed - vLine) * 1000) (s.get pg Weatas.LM_CFG_RSENSE)
  .next <| if !s.ready ⟨.weatas, n, 0⟩ then s
    else
      let s := (s.putFit pg Weatas.LM_VLINE_MV vLine).putFit feed Weatas.LM_FEED_V_MV vFeed
      let s := s.putFit pg Weatas.LM_ILINE_MA (if -32768 ≤ iLine ∧ iLine < 32768 then (ofSigned 16 iLine : Int) else -1)
      if !s.flag pg Weatas.LM_CFG_ENABLE then s
      else
        let c := s.classify n vLine vFeed iLine
        let x := s.lane n
        let run := if x.scanClass = c then x.scanRun + 1 else 1
        let s := s.putLane n { x with scanClass := c, scanRun := run }
        if s.get pg Weatas.LM_DEBOUNCE_SCANS ≤ run ∧ s.get pg Weatas.LM_STAT_CLASS ≠ c then s.enterClass n c else s

/-- LM_CFG.ENABLE has become 0 (R103): the lane reads NOT_MONITORED and is not held. That is no class found by scans, so LM_CHANGE does not set
(DESIGN CHOICE). -/
def State.unmonitor (s : State) (n : Nat) : State :=
  let pg := wePage n
  let s := (s.put pg Weatas.LM_STAT_CLASS 7).putLane n { s.lane n with scanClass := 7, scanRun := 0 }
  let s := (((s.lower pg 0).lower pg 1).lower pg 2).lower pg 3
  if s.flag pg Weatas.LM_STAT_HOLD then s.releaseLane n else s

/-- LM_RELEASE: a write of LM_STAT with RELEASE = 1 (R104): ignored while a holding class is in force. -/
def execLmRelease (req : Requester) (n : Fin 32) (s : State) : Result :=
  let pg := wePage n
  .next <| s.onWrite req (regOff pg Weatas.LM_STAT_RELEASE) fun s =>
    if s.flag pg Weatas.LM_STAT_HOLD && !isHolding (s.get pg Weatas.LM_STAT_CLASS) then s.releaseLane n else s

/-! ## Test patterns (R106 to R109, R144) -/

/-- The mode of the forward pattern (R144): MODE_ACT after a successful training, else MODE_MAX. -/
def State.testMode (s : State) (n : Nat) : Nat :=
  if (s.lane n).trained then s.laneMode n else s.get (wePage n) Weatas.LANE_CFG_MODE_MAX

/-- Is a PATTERN allowed (R106)? PRBS13Q goes with a PAM4 mode and the forward direction only. -/
def patternOk (p : Nat) (forward : Bool) (mode : Nat) : Bool := decide (p < 3) || (p == 3 && forward && decide (2 ≤ mode))

/-- Write a PATTERN field, or leave it and set CFG_REJECT (R106). -/
def State.putPattern (s : State) (n : Nat) (f : Field) (p : Nat) (forward : Bool) (mode : Nat) : State :=
  if patternOk p forward mode then s.put (wePage n) f p else s.event (wePage n) 11

/-- The generator's bit count, from the count C at which it started (R107, R108): 1.6 Gb/s on the back channel, the rate of MODE_MAX on a loopback.
At 8 bits in 5 ns the count is of whole bits. -/
def State.genBit (s : State) (n : Nat) : Nat :=
  let ns := s.time.c - (s.lane n).genAt
  if s.flag (wePage n) Weatas.PRBS_GEN_TARGET then ns * modeRate (s.get (wePage n) Weatas.LANE_CFG_MODE_MAX) else ns * 8 / 5

/-- PRBS_GEN_ENABLE: a write of PRBS_GEN (R106, R107). The register that the generator starts from is not stated: free, and not zero. EN written
0 ends every series: GO clears and PRBS_INJ_DONE does not set (DESIGN CHOICE). -/
def execPrbsGenEnable (req : Requester) (n : Fin 32) (w : Word) (s : State) : Result :=
  let pg := wePage n
  .next <| s.onWrite req (regOff pg Weatas.PRBS_GEN_EN) fun s =>
    let s := s.put pg Weatas.PRBS_GEN_TARGET (bitsOf w.toNat 30 30)
    let s := s.putPattern n Weatas.PRBS_GEN_PATTERN (bitsOf w.toNat 3 0) (w.toNat.testBit 30) (s.get pg Weatas.LANE_CFG_MODE_MAX)
    if !w.toNat.testBit 31 then
      ((s.put pg Weatas.PRBS_GEN_EN 0).put pg Weatas.PRBS_INJ_GO 0).putLane n { s.lane n with injections := [] }
    else if s.flag pg Weatas.PRBS_GEN_EN then s
    else if s.linkOperating n then s.event pg 11
    else
      let (x, s) := s.fresh
      let d := (patternTaps (s.get pg Weatas.PRBS_GEN_PATTERN)).1
      let s := s.putLane n { s.lane n with genSeed := x % (2 ^ d - 1) + 1, genAt := s.time.c }
      (s.put pg Weatas.PRBS_GEN_EN 1).drivePattern n

/-- The first series that waits begins at the generator's bit at hand (R108). -/
def State.startSeries (s : State) (n : Nat) : State := match (s.lane n).injections with
  | [] => s
  | i :: _ => (s.putLane n { s.lane n with injAt := s.genBit n }).emit (.inject n (s.genBit n) i)

/-- PRBS_INJECT: a write of PRBS_INJ (R108): with GO = 1 a series of injections starts, after a running one. -/
def execPrbsInject (req : Requester) (n : Fin 32) (w : Word) (s : State) : Result :=
  let pg := wePage n
  .next <| s.onWrite req (regOff pg Weatas.PRBS_INJ_GO) fun s =>
    let s := if bitsOf w.toNat 25 24 = 3 then s else s.put pg Weatas.PRBS_INJ_KIND (bitsOf w.toNat 25 24)
    let s := (s.put pg Weatas.PRBS_INJ_LEN (bitsOf w.toNat 22 16)).put pg Weatas.PRBS_INJ_COUNT (bitsOf w.toNat 15 0)
    if !w.toNat.testBit 31 then s
    else if !s.flag pg Weatas.PRBS_GEN_EN then s.event pg 11
    else
      let x := s.lane n
      let i : Injection := ⟨s.get pg Weatas.PRBS_INJ_KIND, max 2 (min 64 (s.get pg Weatas.PRBS_INJ_LEN)),
        max 1 (s.get pg Weatas.PRBS_INJ_COUNT), max 2048 (s.get pg Weatas.PRBS_INJ_GAP_GAP)⟩
      let s := (s.putLane n { x with injections := x.injections ++ [i] }).put pg Weatas.PRBS_INJ_GO 1
      if x.injections.isEmpty then s.startSeries n else s

/-- PRBS_INJ_DONE: the last injection of the running series has been made (R108), and the next series begins; on a loopback the checker counts
its bits (R109). -/
def execPrbsInjDone (n : Fin 32) (s : State) : Result :=
  let pg := wePage n
  let x := s.lane n
  .next <| match x.injections with
    | [] => s
    | i :: r =>
      let s := ((s.putLane n { x with injections := r }).put pg Weatas.PRBS_INJ_GO (bit (!r.isEmpty))).event pg 10
      let s := if s.flag pg Weatas.PRBS_GEN_TARGET && s.flag pg Weatas.PRBS_CHK_LOCKED then
          s.countSat pg Weatas.PRBS_ERRS_ERRS (i.count * i.bits)
        else s
      s.startSeries n

/-- PRBS_CHK_ENABLE: a write of PRBS_CHK (R106, R114): enabling clears the counters and starts seeding. -/
def execPrbsChkEnable (req : Requester) (n : Fin 32) (w : Word) (s : State) : Result :=
  let pg := wePage n
  .next <| s.onWrite req (regOff pg Weatas.PRBS_CHK_EN) fun s =>
    let was := s.flag pg Weatas.PRBS_CHK_EN
    let s := (s.put pg Weatas.PRBS_CHK_EN (bitsOf w.toNat 31 31)).putPattern n Weatas.PRBS_CHK_PATTERN (bitsOf w.toNat 3 0) true
      (s.testMode n)
    if !w.toNat.testBit 31 then s.put pg Weatas.PRBS_CHK_LOCKED 0
    else if was then s
    else
      let s := (s.put pg Weatas.PRBS_BITS_LO_BITS 0).put pg Weatas.PRBS_BITS_HI_BITS 0
      (s.put pg Weatas.PRBS_ERRS_ERRS 0).put pg Weatas.PRBS_CHK_LOCKED 0

/-- PRBS_LOCK: the checker has seen 64 correct bits in a row (R109). -/
def execPrbsLock (n : Fin 32) (s : State) : Result :=
  let pg := wePage n
  .next <| if s.flag pg Weatas.PRBS_CHK_EN && !s.flag pg Weatas.PRBS_CHK_LOCKED then
      (s.put pg Weatas.PRBS_CHK_LOCKED 1).event pg 8
    else s

/-- PRBS_LOST: 1,024 bits have been compared, `errs` of them wrong (R109): the errors count, and 128 or more of them clear LOCKED. -/
def execPrbsLost (n : Fin 32) (errs : Nat) (s : State) : Result :=
  let pg := wePage n
  .next <| if !s.flag pg Weatas.PRBS_CHK_LOCKED || decide (1024 < errs) then s
    else
      let s := s.countSat pg Weatas.PRBS_ERRS_ERRS errs
      if 128 ≤ errs then (s.put pg Weatas.PRBS_CHK_LOCKED 0).event pg 9 else s

/-- One core cycle of the checkers (R109): PRBS_BITS counts the bits compared while LOCKED. -/
def State.prbsTick (s : State) (n : Nat) : State :=
  let pg := wePage n
  if s.flag pg Weatas.PRBS_CHK_LOCKED then
    let mode := if s.linkState n = 12 then s.laneMode n else s.get pg Weatas.LANE_CFG_MODE_MAX
    let v := s.get pg Weatas.PRBS_BITS_LO_BITS + s.get pg Weatas.PRBS_BITS_HI_BITS * 2 ^ 32 + modeRate mode
    (s.put pg Weatas.PRBS_BITS_LO_BITS v).put pg Weatas.PRBS_BITS_HI_BITS (v / 2 ^ 32)
  else s

/-! ## Codewords and markers (R118 to R121, R140, R141) -/

/-- Does the forward decoder run: ALIGN to DROPOUT (R132)? -/
def State.decoding (s : State) (n : Nat) : Bool := decide (4 ≤ s.linkState n) && decide (s.linkState n ≤ 10)

/-- Add to a 64-bit counter in two words; it wraps. -/
def State.countWide (s : State) (pg : Nat) (lo hi : Field) (k : Nat) : State :=
  let v := s.get pg lo + s.get pg hi * 2 ^ 32 + k
  (s.put pg lo v).put pg hi (v / 2 ^ 32)

/-- What a codeword's blocks count (R119, R121, R127): invalid ones in HDR_ERR, and those of the load. -/
def State.takeBlocks (s : State) (n : Nat) (message : Option (List Nat)) : State := match (s.lane n).place with
  | none => s
  | some p =>
    let (p, c) := p.feed message
    let s := s.putLane n { s.lane n with place := some p }
    if 5 ≤ s.linkState n ∧ s.linkState n ≤ 9 then
      let s := s.putLane n { s.lane n with load := (s.lane n).load.plus c }
      (List.range c.bad).foldl (fun s _ => s.headerError n) s
    else s

/-- CODEWORD_DECODED: a received word of 144 symbols is decoded (R118): corrected, or uncorrectable (R140, R141). An uncorrectable one breaks the
packet in progress. -/
def execCodewordDecoded (n : Fin 32) (word : List Nat) (s : State) : Result :=
  let pg := wePage n
  .next <| if !s.decoding n then s
    else
      let s := s.countWide pg Weatas.FEC_CW_LO_CW Weatas.FEC_CW_HI_CW 1
      let x := s.lane n
      match rsDecode (word.map (· % 1024)) with
      | some (k, message) =>
        let s := s.countWide pg Weatas.FEC_CORR_LO_SYM Weatas.FEC_CORR_HI_SYM k
        let corr := if s.linkState n = 8 then x.verifyCorr + k else x.verifyCorr
        let bad := x.verifyBad || (s.linkState n == 8 && decide (s.get pg Weatas.FEC_CFG_VERIFY_CORR_MAX < corr))
        (s.putLane n { x with uncorrRun := 0, verifyCorr := corr, verifyBad := bad }).takeBlocks n (some message)
      | none =>
        let s := (s.countSat pg Weatas.FEC_UNCORR_CW).putLane n { x with
          uncorrRun := x.uncorrRun + 1, uncorrWindow := x.uncorrWindow + 1, verifyBad := x.verifyBad || s.linkState n == 8,
          inPacket := x.inPacket.map fun p => { p with broken := true } }
        let s := s.takeBlocks n none
        if s.linkState n = 9 ∧ s.get pg Weatas.LINK_TIMEOUT_UNCORR_RUN ≤ x.uncorrRun + 1 then s.enterDropout n else s

/-- FEC_WINDOW: a 1 ms window closes (R140), with the load of both directions (R127, R145): the share of payload blocks that were not IDLE, 0 where
none came (DEDUCED), and the share of the back channel's 160,000 code groups that its messages took. `fwdUp`
and `bcUp` say which of two neighbouring codes LOAD shows where the share lies between them: no rounding is stated. -/
def execFecWindow (n : Fin 32) (fwdUp bcUp : Bool) (s : State) : Result :=
  let pg := wePage n
  let x := s.lane n
  let burst := decide (s.get pg Weatas.FEC_CFG_UNCORR_MAX < x.uncorrWindow)
  let fwd := nearest fwdUp (1000 * x.load.busy) (max 1 x.load.seen)
  let bc := nearest bcUp x.bcGroups 160
  let s := (s.put pg Weatas.LOAD_FWD_PERMIL fwd).put pg Weatas.LOAD_BC_PERMIL bc
  let s := (s.putLane n { x with uncorrWindow := 0, load := {}, bcGroups := 0 }).condEach pg 18 burst
  .next <| if burst && s.flag pg Weatas.LINK_CTRL_FEC_RETRAIN && s.linkOperating n then s.retrain n true else s

/-- A marker block's own checks (R121), its epoch apart: sync header, type, MCRC and the reserved bytes. -/
def markerOk (sync : Nat) (b : List Byte) : Bool :=
  sync == 1 && fieldLE b 0 1 == 0x1E && (sliceBytes b 5 9).all (· == 0) &&
    fieldLE b 14 2 == crc16 (sliceBytes b 0 14)

/-- A valid marker (R121, R127, R133, R141, R147). `spaced`: 74,880 bits after the last one. -/
def State.validMarker (s : State) (n : Nat) (b : List Byte) (spaced : Bool) : State :=
  let pg := wePage n
  let x := s.lane n
  let sf := fieldLE b 2 2
  let stat := fieldLE b 4 1
  let run := if 0 < x.run ∧ spaced ∧ sf = (x.lastSf + 1) % 65536 then x.run + 1 else 1
  let s := (s.put pg Weatas.CAM_MARK_SF_COUNT sf).put pg Weatas.CAM_MARK_CAM_STAT stat
  let s := s.putLane n { x with lastSf := sf, run := run, place := some {} }
  let s := s.condEach pg 21 (hasBit stat 0)
  let s := if s.linkState n = 4 ∧ 3 ≤ run then s.linkTo n 5
    else if s.linkState n = 10 ∧ 2 ≤ run then s.leaveDropout n else s
  if hasBit stat 1 && s.flag pg Weatas.LINK_CTRL_CAM_RETRAIN && s.linkOperating n then s.retrain n false else s

/-- A marker is missing or invalid at its position (R133, R141). -/
def State.badMarker (s : State) (n : Nat) : State :=
  let s := s.putLane n { s.lane n with run := 0, verifyBad := (s.lane n).verifyBad || s.linkState n == 8 }
  if s.linkState n = 9 then s.enterDropout n else s

/-- MARKER_RECEIVED: a block of 16 bytes at a marker's place, with its sync header (R119, R121, R137). -/
def execMarkerReceived (n : Fin 32) (sync : Fin 4) (b : List Byte) (spaced : Bool) (s : State) : Result :=
  let pg := wePage n
  .next <| if !s.decoding n then s
    else if markerOk sync b then
      if fieldLE b 1 1 = s.get pg Weatas.LINK_STAT_EPOCH then s.validMarker n b spaced
      else (s.event pg 23).badMarker n
    else
      let junk := sync.toNat == 0 || sync.toNat == 3 || (sync.toNat == 1 && !([0x1E, 0x2D, 0x78].contains (fieldLE b 0 1)))
      (if junk && decide (5 ≤ s.linkState n) && decide (s.linkState n ≤ 9) then s.headerError n else s).badMarker n

/-- MARKER_MISSED: no marker stands at its expected position (R141). -/
def execMarkerMissed (n : Fin 32) (s : State) : Result := .next <| if s.decoding n then s.badMarker n else s

/-- DROPOUT_TIMEOUT: DROPOUT has lasted TIMEOUT_US (R142). -/
def execDropoutTimeout (n : Fin 32) (s : State) : Result := .next <| if s.linkState n = 10 then s.retrain n true else s

/-! ## Forward packets (R122 to R126) -/

/-- Is a packet kind accepted in a state of the link (R123, R132)? -/
def kindAllowed (state kind : Nat) : Bool :=
  match state with
  | 5 => kind == 7
  | 6 => kind == 6 || kind == 7
  | 7 => kind == 3 || kind == 7
  | 8 => kind == 7
  | 9 => decide (1 ≤ kind) && decide (kind ≤ 7)
  | _ => false

/-- Is LEN right for the kind (R124)? -/
def lenOk (kind len : Nat) (payload : List Byte) : Bool :=
  match kind with
  | 1 => decide (0 < len)
  | 2 => len == 8
  | 3 => len == 10
  | 4 => len == 10
  | 5 => decide (fieldLE payload 2 1 ≤ 64) && len == fieldLE payload 2 1 + 6
  | 6 => len == 6
  | _ => len == 32

/-- Hand a checked packet on (R126). -/
def State.handOn (s : State) (n kind : Nat) (payload : List Byte) (start stop : Nat) (broken : Bool) : State :=
  let stamp := s.stampAt start
  let body := payload.take (payload.length - 2)
  match kind with
  | 1 => s.intake n payload broken stamp (stop / 16)
  | 2 => s.sideband n body stamp
  | 4 | 5 => s.putWindow n { s.window n with inbox := (s.window n).inbox ++ [(kind, body)] }
  | _ => s.putLane n { s.lane n with inbox := (s.lane n).inbox ++ [⟨kind, body, stamp⟩] }

/-- A packet whose end has come is checked in order, and goes its way (R124 to R126). -/
def State.packetEnd (s : State) (n : Nat) (p : ForwardPacket) (broken : Bool) : State :=
  let pg := wePage n
  let kind := p.kind
  let len := fieldLE p.header 2 2
  let payload := p.payload.take len
  let bad := !kindAllowed (s.linkState n) kind || !lenOk kind len payload
  let crcBad := kind != 1 && fieldLE payload (len - 2) 2 != crc16 (payload.take (len - 2))
  let dropped := bad || (kind != 1 && (broken || crcBad))
  let s := if s.linkState n = 9 then s.trackSeq n (fieldLE p.header 4 1) (!dropped) else s
  if bad then s.headerError n
  else if broken then
    let s := s.countSat pg Weatas.PKT_ERR_BROKEN
    if kind = 1 then s.handOn n 1 payload p.start p.stop true else s
  else if crcBad then s.headerError n
  else s.handOn n kind payload p.start p.stop false

/-- FWD_PACKET_RECEIVED: the checks of R124 in order, and the packet's way on (R126); with `more` its START block has come and its end has not:
it is the packet in progress (R95, R141). -/
def execFwdPacketReceived (n : Fin 32) (p : ForwardPacket) (s : State) : Result :=
  let open_ := (s.lane n).inPacket
  let t := s.putLane n { s.lane n with inPacket := none }
  .next <| if s.linkState n < 5 ∨ 9 < s.linkState n then s
    else if !p.headerOk then t.headerError n
    else if p.more then
      if kindAllowed (s.linkState n) p.kind then s.putLane n { s.lane n with inPacket := some p } else s
    else t.packetEnd n p (p.broken || open_.any (fun q => q.broken && q.header == p.header))

/-- Take the oldest packet of a kind that waits for the lane (R126). -/
def State.takeOwn (s : State) (n kind : Nat) : Option (LanePacket × State) :=
  let x := s.lane n
  (x.inbox.find? (·.kind == kind)).map fun p => (p, s.putLane n { x with inbox := x.inbox.erase p })

/-! ## Capability, equalization (R131, R136) -/

/-- Is a capability record accepted (R136)? -/
def capOk (b : List Byte) : Bool :=
  let f := fun p k => fieldLE b p k
  f 0 1 == 1 && f 1 1 != 0 && decide (f 1 1 < 16) && decide (10 ≤ f 2 1) && decide (f 2 1 ≤ 50) && decide (f 3 1 ≤ 12) &&
    decide (f 4 1 ≤ 24) && decide (1 ≤ f 5 1) && decide (f 5 1 ≤ 4) && (sliceBytes b 16 14).all (· == 0)

/-- The trial settings of TXEQ (R136): PRE in 0, 4, 8 by POST in 0, 4, … 24. -/
def trialSetting (swing i : Nat) : FarSetting := (swing, 4 * (i / 7), 4 * (i % 7))

/-- TXEQ begins (R136). -/
def State.startTxeq (s : State) (n : Nat) : State :=
  let s := s.linkTo n 6
  let x := s.lane n
  if s.flag (wePage n) Weatas.FAR_TXEQ_REQ_AUTO then
    (s.putLane n { x with trial := 0, best := none, final := false }).sendEq n (trialSetting x.farMax.1 0)
  else (s.putLane n { x with trial := 0, best := none, final := true }).sendEq n (s.farRequest n)

/-- PROBE begins (R133, R139). -/
def State.startProbe (s : State) (n : Nat) : State := (s.putLane n { s.lane n with delays := [], probe := none }).linkTo n 7

/-- VERIFY begins (R133). -/
def State.startVerify (s : State) (n : Nat) : State :=
  (s.putLane n { s.lane n with verifyCorr := 0, verifyBad := false }).linkTo n 8

/-- An accepted capability record takes effect (R105, R112, R134, R136). -/
def State.takeCap (s : State) (n : Nat) (b : List Byte) : State :=
  let pg := wePage n
  let f := fun p k => fieldLE b p k
  let s := ((s.put pg Weatas.CAM_CAP0_VER (f 0 1)).put pg Weatas.CAM_CAP0_MODES (f 1 1)).put pg Weatas.CAM_CAP0_FSYNC_OUTS (f 5 1)
  let s := ((s.put pg Weatas.CAM_CAP0_TURN_TOL (f 14 1)).put pg Weatas.CAM_CAP1_FSYNC_LAT (f 12 2)).put pg
    Weatas.CAM_CAP1_FSYNC_TOL (f 15 1)
  let s := (s.put pg Weatas.CAM_ID_ID (f 8 4)).put pg Weatas.LM_CAM_VCAM_MIN (f 6 2)
  let s := (s.putLane n { s.lane n with modes := some (f 1 1), farMax := (f 2 1, f 4 1, f 3 1) }).lower pg 19
  s.showFar n

/-- CAP_RECEIVED: the oldest capability record is checked and applied or rejected (R136). -/
def execCapReceived (n : Fin 32) (s : State) : Result :=
  let pg := wePage n
  .next <| match s.takeOwn n 7 with
    | none => s
    | some (p, s) =>
      if !capOk p.payload then
        let s := if s.condBit pg 19 then s.occur pg 19 else s.raise pg 19
        if 5 ≤ s.linkState n ∧ s.linkState n ≤ 8 then s.failAttempt n else s
      else
        let s := s.takeCap n p.payload
        if s.linkState n = 5 then
          if hasBit (fieldLE p.payload 1 1) (s.laneMode n) then s.startTxeq n else s.failAttempt n
        else if s.linkOperating n then
          let s := s.event pg 21
          let x := s.lane n
          if (clampFar x.farMax x.farNow).1 != x.farNow then s.putLane n { x with eqDue := true } else s
        else s

/-- EQ_ACK: the oldest EQ_ACK completes the command in hand if its values match (R100, R131, R136). -/
def execEqAck (n : Fin 32) (s : State) : Result :=
  let pg := wePage n
  .next <| match s.takeOwn n 6 with
    | none => s
    | some (p, s) =>
      let x := s.lane n
      let y : FarSetting := (fieldLE p.payload 0 1, fieldLE p.payload 1 1, fieldLE p.payload 2 1)
      if x.eqSent != some y then s
      else
        let s := s.putLane n { x with eqSent := none, farNow := y }
        let s := (s.put pg Weatas.FAR_TXEQ_ACT_PENDING (bit x.eqDue)).showFar n
        if s.linkState n = 6 then (if x.final then s.startProbe n else s)
        else s.eventIf (!s.flag pg Weatas.FAR_TXEQ_REQ_AUTO) pg 4

/-- TXEQ_TRIAL_MEASURED: at the trial setting the receiver has re-adapted for 400 µs, and 65,536 symbols give an SNR (R136): of equal ones the
first tried wins. -/
def execTxeqTrialMeasured (n : Fin 32) (m : RxCoefs × List RxSymbol) (s : State) : Result :=
  let (c, w) := m
  let x := s.lane n
  .next <| if s.linkState n ≠ 6 ∨ x.final ∨ x.eqSent.isSome ∨ w.length ≠ snrWindow then s
    else
      let s := s.adapt n c
      let (p, e) := s.slicer n w
      let best := match x.best with
        | some (q, d, i) => if q * e < p * d then some (p, e, x.trial) else some (q, d, i)
        | none => some (p, e, x.trial)
      let s := s.putSnr n w
      if x.trial < 20 then
        (s.putLane n { x with best := best, trial := x.trial + 1 }).sendEq n (trialSetting x.farMax.1 (x.trial + 1))
      else (s.putLane n { x with best := best, final := true }).sendEq n (trialSetting x.farMax.1 ((best.map (·.2.2)).getD 0))

/-! ## Latency (R138, R139) -/

/-- PROBE_SEND: a probe is due, in the PROBE phase or in ACTIVE (R139); one is outstanding at a time (R131). -/
def execProbeSend (n : Fin 32) (s : State) : Result :=
  let x := s.lane n
  let due := s.linkState n == 7 || (s.linkState n == 9 && s.get (wePage n) Weatas.PROBE_CFG_PERIOD_MS != 0)
  .next <| if !due || x.probe.isSome then s
    else
      let id := (x.probeId + 1) % 256
      (s.putLane n { x with probe := some (id, none), probeId := id }).bcSend n 5 [BitVec.ofNat 8 id]

/-- PROBE_TIMEOUT: the outstanding probe has had no answer for 100 µs (R139, R147). -/
def execProbeTimeout (n : Fin 32) (s : State) : Result :=
  let pg := wePage n
  let x := s.lane n
  .next <| if x.probe.isNone then s
    else
      let s := (s.countSat pg Weatas.PROBE_STAT_LOST).putLane n { x with
        probe := none, lostRun := x.lostRun + 1, queue := x.queue.filter (·.type != 5) }
      if s.linkState n = 9 ∧ 4 ≤ x.lostRun + 1 then s.raise pg 20 else s

/-- A round trip gives a one-way delay, and the mean of the last AVG results (R138, R139). -/
def State.latencyResult (s : State) (n : Nat) (rtt turn : Int) : State :=
  let pg := wePage n
  let avg := s.get pg Weatas.PROBE_CFG_AVG
  let l := (roundHalfEven (rtt - turn) 2 :: (s.lane n).delays).take avg
  let s := (s.putFit pg Weatas.LAT_RTT_RTT rtt).put pg Weatas.LAT_TURN_TURN turn.toNat
  let s := s.putFit pg Weatas.LAT_CABLE_DELAY (roundHalfEven l.sum l.length)
  let s := (s.countWrap pg Weatas.PROBE_STAT_DONE).event pg 22
  let s := (s.putLane n { s.lane n with delays := l, lostRun := 0 }).lower pg 20
  if s.linkState n = 7 ∧ avg ≤ l.length then (s.put pg Weatas.LAT_CABLE_VALID 1).startVerify n else s

/-- PROBE_REPLY: the oldest reply, if it carries the outstanding probe's ID (R131, R138). -/
def execProbeReply (n : Fin 32) (s : State) : Result :=
  .next <| match s.takeOwn n 3 with
    | none => s
    | some (p, s) => match (s.lane n).probe with
      | some (id, some tOut) =>
        if fieldLE p.payload 0 1 = id then
          (s.putLane n { s.lane n with probe := none }).latencyResult n ((p.stamp : Int) - tOut) (fieldLE p.payload 4 4)
        else s
      | _ => s

/-! ## The back channel (R128 to R130) -/

/-- The priority of a message type, first served first (R130). -/
def bcRank (type : Nat) : Nat := match type with
  | 2 => 0 | 1 => 1 | 3 => 2 | 4 => 3 | 5 => 4 | 6 => 5 | _ => 6

/-- Is a message type sent in a state of the link (R132)? -/
def bcAllowed (state type : Nat) : Bool := match state with
  | 2 => type == 1
  | 6 => type == 3
  | 7 => type == 5
  | 9 | 10 => true
  | 12 => type == 7
  | _ => false

/-- A message as it stands between /S/ and /T/ (R128). -/
def BcMessage.bytes (m : BcMessage) : List Byte :=
  let b := [BitVec.ofNat 8 m.type, BitVec.ofNat 8 m.payload.length] ++ m.payload
  b ++ toBytesLE 2 (crc16 b)

/-- The queued message that is served next (R130): the highest priority, the oldest of it. -/
def LaneSt.nextMessage (x : LaneSt) (state : Nat) : Option BcMessage :=
  let l := x.queue.filter (fun m => bcAllowed state m.type)
  l.find? (fun m => l.all (fun k => decide (bcRank m.type ≤ bcRank k.type)))

/-- A message goes out in code groups (R128), and takes its part of the back channel (R145). -/
def State.sendBack (s : State) (n : Nat) (m : BcMessage) : State :=
  let x := s.lane n
  let (g, rd) := messageGroups m.bytes x.rd
  (s.putLane n { x with rd := rd, bcGroups := x.bcGroups + g.length }).emit (.backChannel n m.bytes g)

/-- BC_MESSAGE_SEND: the transmitter sends its next message, whose /T/ leaves at count C `at_` (1/16 ns). It does not start one
whose /T/ would leave less than 12.5 ns before the next FSYNC's /S/ (R130). -/
def execBcMessageSend (n : Fin 32) (at_ : Nat) (s : State) : Result :=
  let x := s.lane n
  let t := s.stampAt at_
  .next <| match x.nextMessage (s.linkState n) with
    | none => s
    | some m =>
      if s.terminal || x.fsyncs.any (fun f => decide (f.depart - 1200 < (t : Int) + 200)) then s
      else
        let probe := if m.type = 5 then x.probe.map (fun p => (p.1, some t)) else x.probe
        (s.putLane n { x with queue := x.queue.erase m, probe := probe, lastOther := some t }).sendBack n m

/-- Where an FSYNC's /T/ leaves (R130), 1/16 ns of P: at its planned instant, or directly after the one before it and an idle ordered set. -/
def LaneSt.fsyncAt (x : LaneSt) (f : Fsync) : Int := match x.lastT with
  | some t => max f.depart (t + 1400)
  | none => f.depart

/-- Can an FSYNC not leave (R130): the link does not send it, a message under way reaches into it, its DELAY would fall below 0, or its instant has
passed? -/
def State.fsyncMisses (s : State) (n : Nat) (f : Fsync) : Bool :=
  let x := s.lane n
  s.terminal || !s.linkOperating n || x.lastOther.any (fun t => decide (x.fsyncAt f - 1200 < t + 200)) ||
    decide ((f.delay : Int) < roundHalfEven (x.fsyncAt f - f.depart) 10) || decide (x.fsyncAt f + 16 ≤ s.now16)

/-- FSYNC_DEPART: the next FSYNC's instant has come (R130): it leaves, at its planned instant or displaced by an earlier one, or it
is not sent: its time is past, or its port sends no edges any more (R198). -/
def execFsyncDepart (n : Fin 32) (s : State) : Result :=
  let pg := wePage n
  let x := s.lane n
  .next <| match x.fsyncs with
    | [] => s
    | f :: r =>
      let first := x.fsyncAt f
      let miss := s.fsyncMisses n f || !s.syncGate n
      let s := s.putLane n { x with fsyncs := r }
      if miss then (s.countSat pg Weatas.FSYNC_COUNT_MISSED).pathMissed n f.tide
      else
        let delay := f.delay - (roundHalfEven (first - f.depart) 10).toNat
        let s := (s.putLane n { s.lane n with lastT := some first }).countWrap pg Weatas.FSYNC_COUNT_SENT
        s.sendBack n ⟨2, [BitVec.ofNat 8 f.id, BitVec.ofNat 8 f.out] ++ toBytesLE 2 delay ++ [0, 0]⟩

/-- TRAIN_START_RESEND: every 100 µs in WAIT_SIGNAL (R132). -/
def execTrainStartResend (n : Fin 32) (s : State) : Result := .next <| if s.linkState n = 2 then s.sendTrain n 0 else s

/-! ## The phases (R132 to R134) -/

/-- SIGNAL_DETECTED: forward energy in the attempted mode (R133). -/
def execSignalDetected (n : Fin 32) (s : State) : Result :=
  .next <| if s.linkState n = 2 then ((s.putLane n { s.lane n with queue := [] }).linkTo n 3).acquire n else s

/-- VERIFY_PASS: VERIFY has run 8 ms without an error: GO_ACTIVE, and the link is ACTIVE (R133). A request written since TXEQ stays due (R100). -/
def execVerifyPass (n : Fin 32) (s : State) : Result :=
  let pg := wePage n
  let x := s.lane n
  .next <| if s.linkState n ≠ 8 ∨ x.verifyBad then s
    else
      let s := (s.sendTrain n 1).linkTo n 9
      let s := (s.event pg 16).put pg Weatas.TRAIN_TIME_US ((s.time.c - x.trainAt) / 1000)
      let s := s.putRx n (if s.flag pg Weatas.RX_ADAPT_FREEZE then 4 else 3)
      let s := s.putLane n { s.lane n with trained := true, seqNext := none, uncorrRun := 0, lostRun := 0, probe := none }
      let s := if (s.lane n).eqDue && !s.flag pg Weatas.FAR_TXEQ_REQ_AUTO then s.put pg Weatas.FAR_TXEQ_ACT_PENDING 1 else s
      s.showFar n

/-- TRAIN_PHASE_TIMEOUT: a phase has reached its maximum (R133): the attempt fails. -/
def execTrainPhaseTimeout (n : Fin 32) (s : State) : Result :=
  let st := s.linkState n
  .next <| if (3 ≤ st ∧ st ≤ 7) ∨ (st = 8 ∧ (s.lane n).verifyBad) then s.failAttempt n else s

/-- TRAIN_RETRY: RETRY_MS after FAILED (R134). -/
def execTrainRetry (n : Fin 32) (s : State) : Result := .next <| if s.linkState n = 11 then s.startTraining n else s

/-- TEST with the pattern and START (R129, R144). -/
def State.testMessage (s : State) (n start : Nat) : BcMessage :=
  ⟨7, [BitVec.ofNat 8 (s.get (wePage n) Weatas.LINK_CTRL_TEST_PATTERN), BitVec.ofNat 8 start]⟩

/-- A write of LINK_CTRL (R142, R144, R145). -/
def State.writeLinkCtrl (s : State) (n w : Nat) : State :=
  let pg := wePage n
  let s := s.writeFields pg w 11 [Weatas.LINK_CTRL_CAM_RETRAIN, Weatas.LINK_CTRL_FEC_RETRAIN, Weatas.LINK_CTRL_RETRY_MS]
  let s := s.putPattern n Weatas.LINK_CTRL_TEST_PATTERN (bitsOf w 23 20) true (s.testMode n)
  let s := if w.testBit 31 then
      let s := s.put pg Weatas.LINK_CTRL_RETRAIN 1
      if 2 ≤ s.linkState n then s.retrain n false else s
    else s
  let s := if w.testBit 30 ∧ 2 ≤ s.linkState n then
      let s := s.leaveOperating n true false
      let s := ((s.put pg Weatas.LANE_STAT_MODE_ACT (s.testMode n)).linkTo n 12).acquire n
      s.putLane n { s.lane n with queue := [s.testMessage n 1], inbox := [] }
    else s
  if w.testBit 29 ∧ s.linkState n = 12 then (s.sendBack n (s.testMessage n 0)).startTraining n else s

/-- LINK_RETRAIN: a write of LINK_CTRL that sets RETRAIN (R142). -/
def execLinkRetrain (req : Requester) (n : Fin 32) (w : Word) (s : State) : Result :=
  .next <| s.onWrite req (regOff (wePage n) Weatas.LINK_CTRL_RETRAIN) fun s => s.writeLinkCtrl n (w ||| 0x80000000#32).toNat

/-- TEST_START: a write of LINK_CTRL that sets TEST_START (R144). -/
def execTestStart (req : Requester) (n : Fin 32) (w : Word) (s : State) : Result :=
  .next <| s.onWrite req (regOff (wePage n) Weatas.LINK_CTRL_TEST_START) fun s => s.writeLinkCtrl n (w ||| 0x40000000#32).toNat

/-- TEST_STOP: a write of LINK_CTRL that sets TEST_STOP; ignored outside TEST (R144). -/
def execTestStop (req : Requester) (n : Fin 32) (w : Word) (s : State) : Result :=
  .next <| s.onWrite req (regOff (wePage n) Weatas.LINK_CTRL_TEST_STOP) fun s => s.writeLinkCtrl n (w ||| 0x20000000#32).toNat

/-- TEST_RESEND: every 100 µs in TEST until the checker is locked (R144). -/
def execTestResend (n : Fin 32) (s : State) : Result :=
  .next <| if s.linkState n = 12 ∧ !s.flag (wePage n) Weatas.PRBS_CHK_LOCKED then
      s.bcSend n 7 (s.testMessage n 1).payload
    else s

end Sys2Proof.Machine
end

