-- ==== Sys2Proof/Machine/Csi.lean ====
section
/-!
DEFINITION. Sys2Proof/Machine/Csi.lean: the local CSI-2 ports: reception (R149 to R152), transmit slots (R153 to R159), the local
frame-sync outputs (R160, R161) and the trigger inputs (R162).
-/
namespace Sys2Proof.Machine

/-- Receive port n behind its registers, and transmit port m. -/
def State.csi (s : State) (n : Nat) : CsiRxSt := SMap.get (fun _ => {}) s.csiRx n
def State.putCsi (s : State) (n : Nat) (x : CsiRxSt) : State := { s with csiRx := SMap.set (fun _ => {}) s.csiRx n x }
def State.tx (s : State) (m : Nat) : CsiTxSt := SMap.get (fun _ => {}) s.csiTx m
def State.putTx (s : State) (m : Nat) (x : CsiTxSt) : State := { s with csiTx := SMap.set (fun _ => {}) s.csiTx m x }

/-! ## Reception (R149 to R152) -/

/-- A receive port that takes data: ready and enabled. -/
def State.rxEnabled (s : State) (n : Nat) : Bool := s.ready ⟨.csiRx, n, 0⟩ && s.flag (rxPage n) Hdr.CTRL_EN

/-- PHY_ERR_BURST as it now is (R152, R165): more than 16 errors in the last 1 ms. -/
def State.judgePhy (s : State) (n : Nat) : State :=
  let x := s.csi n
  let recent := x.errors.filter (fun c => decide (s.time.c < c + 1000000))
  (s.putCsi n { x with errors := recent }).cond (rxPage n) 0 (decide (16 < recent.length))

/-- A PHY error of port n is counted (R152). -/
def State.phyError (s : State) (n : Nat) (count : Field) : State :=
  let s := s.countSat (rxPage n) count
  (s.putCsi n { s.csi n with errors := s.time.c :: (s.csi n).errors }).judgePhy n

/-- The data types that a receive port takes (R151). -/
def rxAccepts (dt : Nat) : Bool := decide (dt ≤ 3) || (decide (8 ≤ dt) && decide (dt ≤ 0x0F)) || [0x12, 0x2B, 0x2C, 0x2E].contains dt

/-- The physical lanes in use, a bit each (R148, R163). -/
def State.rxLanes (s : State) (n : Nat) : Nat :=
  let map := s.get (rxPage n) CsiRx.RX_LANE_MAP_MAP
  (List.range (2 ^ s.get (rxPage n) CsiRx.RX_CFG_LANES)).foldl (fun m k => setBit m (map / 4 ^ k % 4)) 0

/-- A packet passes from receive port n to its Inlet, or is dropped for its data type (R151). -/
def State.rxPass (s : State) (n : Nat) (b : List Byte) (broken : Bool) (start stop : Nat) : State :=
  let known := match readHeader b with
    | some (_, h) => rxAccepts (bitsOf h 5 0)
    | none => true
  if known then (s.countWrap (rxPage n) CsiRx.RX_PKTS_COUNT).intake (32 + n) b broken (s.stampAt start) stop
  else s.countSat (rxPage n) CsiRx.RX_ERR2_DT_DROP

/-- DESKEW_RECEIVED: a deskew sequence has been received on every enabled lane of port n (R150). -/
def execDeskewReceived (n : Fin 8) (s : State) : Result :=
  let pg := rxPage n
  .next <| if s.rxEnabled n && !s.flag pg CsiRx.RX_STAT_DESKEWED then (s.put pg CsiRx.RX_STAT_DESKEWED 1).event pg 0 else s

/-- CSI_RX_BURST: a burst on receive port n with what the PHY found of its sync sequence, whether its lanes ended together, its
bytes, and the counts C, in 1/16 ns, of its first bit and its end at the balls (R150 to R152). -/
def execCsiRxBurst (n : Fin 8) (sync : SyncSequence) (aligned : Bool) (b : List Byte) (start stop : Nat) (s : State) : Result :=
  let pg := rxPage n
  .next <| if !s.rxEnabled n then s
    else
      let s := s.put pg CsiRx.RX_STAT_STOP 15
      let s := s.put pg CsiRx.RX_STAT_CLK_HS (s.get pg CsiRx.RX_CFG_CONT_CLK)
      if !s.flag pg CsiRx.RX_STAT_DESKEWED then s.countSat pg CsiRx.RX_ERR1_NODESKEW
      else if sync = .bad then s.phyError n CsiRx.RX_ERR0_SOT_SYNC_ERR
      else
        let s := if sync = .oneBit then s.phyError n CsiRx.RX_ERR0_SOT_ERR else s
        let s := if aligned then s else s.phyError n CsiRx.RX_ERR1_EOT_ALIGN_ERR
        s.rxPass n b (!aligned) start stop

/-- CLK_LOSS: the clock lane of port n has been absent for CLK_LOSS_NS (R152); `b` is what has come of the packet in progress. -/
def execClkLoss (n : Fin 8) (b : List Byte) (start stop : Nat) (s : State) : Result :=
  let pg := rxPage n
  .next <| if !s.rxEnabled n || !s.flag pg CsiRx.RX_CFG_CONT_CLK || s.condBit pg 1 then s
    else
      let s := (((s.put pg CsiRx.RX_STAT_CLK_HS 0).phyError n CsiRx.RX_ERR2_CLK_LOSS).event pg 1).raise pg 1
      let s := if b.isEmpty || !s.flag pg CsiRx.RX_STAT_DESKEWED then s else s.rxPass n b true start stop
      s.gapTo (32 + n)

/-- CSI_CLK_RETURN: the clock is back (R152, R165). -/
def execCsiClkReturn (n : Fin 8) (s : State) : Result :=
  let pg := rxPage n
  .next <| if s.condBit pg 1 then (s.put pg CsiRx.RX_STAT_CLK_HS 1).lower pg 1 else s

/-- ULPS_TRANSITION: data lane `lane` of port n enters or leaves ULPS (R148, R163). -/
def execUlpsTransition (n : Fin 8) (lane : Fin 4) (enter : Bool) (s : State) : Result :=
  let pg := rxPage n
  let u := s.get pg CsiRx.RX_STAT_ULPS
  let st := s.get pg CsiRx.RX_STAT_STOP
  .next <| if !s.ready ⟨.csiRx, n, 0⟩ || !hasBit (s.rxLanes n) lane || hasBit u lane == enter then s
    else if enter then ((s.put pg CsiRx.RX_STAT_ULPS (setBit u lane)).put pg CsiRx.RX_STAT_STOP (clearBit st lane)).event pg 2
    else ((s.put pg CsiRx.RX_STAT_ULPS (clearBit u lane)).put pg CsiRx.RX_STAT_STOP (setBit st lane)).event pg 3

/-- A receive port is enabled (R150), every data lane in LP-11 until a burst or ULPS (R149), or disabled. -/
def State.rxOn (s : State) (n : Nat) : State :=
  let pg := rxPage n
  let s := s.put pg CsiRx.RX_STAT_DESKEWED (bit (decide (s.get pg CsiRx.RX_CFG_RATE_MBPS ≤ 1500)))
  s.put pg CsiRx.RX_STAT_STOP 15
def State.rxOff (s : State) (n : Nat) : State :=
  let pg := rxPage n
  (((s.put pg CsiRx.RX_STAT_DESKEWED 0).put pg CsiRx.RX_STAT_STOP 0).put pg CsiRx.RX_STAT_CLK_HS 0).lower pg 1

/-! ## Transmission (R153 to R159) -/

/-- Slot k of transmit port m. -/
def State.txSlot (s : State) (m k : Nat) : TxSlot := SMap.get (fun _ => {}) (s.tx m).slots k
def State.putTxSlot (s : State) (m k : Nat) (x : TxSlot) : State :=
  s.putTx m { s.tx m with slots := SMap.set (fun _ => {}) (s.tx m).slots k x }

/-- A transmit port that may send: ready, enabled, the terminal latch clear (R487). -/
def State.txEnabled (s : State) (m : Nat) : Bool := s.ready ⟨.csiTx, m, 0⟩ && s.flag (txPage m) Hdr.CTRL_EN && !s.terminal &&
  !s.pllDown 6

/-- PACE, LSLE, VC, HOLD_MAX, DT, sentinel and output of a slot as they now are (R153, R157). -/
def State.txNow (s : State) (m k : Nat) : List Nat :=
  let b := (s.txSlot m k).bound
  let pg := txPage m
  [s.live pg (CsiTx.TX_OUT_CFG_PACE.nth k), s.live pg (CsiTx.TX_OUT_CFG_LSLE.nth k), s.live pg (CsiTx.TX_OUT_CFG_VC.nth k),
    s.live pg (CsiTx.TX_OUT_HOLD_HOLD_MAX.nth k), s.get pg (CsiTx.TX_OUT_CFG_DT.nth k), bit (b.any (·.2.2.2)), (b.map (·.2.1)).getD 0]

/-- Those fields in force for a frame (R28, R37, R62): as latched at its start; a sentinel slot is line-paced (R157). -/
def State.txFields (s : State) (m k key : Nat) : List Nat :=
  let l := match (s.txSlot m k).latches.find? (fun e => e.1 == key) with
    | some (_, l) => l
    | none => s.txNow m k
  if l.getD 5 0 = 1 then 1 :: l.drop 1 else l

/-- Is a frame one of a sentinel stream? -/
def State.txSentinel (s : State) (m k key : Nat) : Bool := (s.txFields m k key).getD 5 0 == 1

/-- Does slot k carry a frame (R62, R153): of the stream bound now, or begun under an earlier plan? -/
def State.txCarries (s : State) (m k key : Nat) : Bool :=
  let x := s.txSlot m k
  x.bound.any (·.1 == key / 2 ^ 32) || x.latches.any (·.1 == key) || x.frames.any (·.key == key)

/-- The frame of slot k that has a sequence number. -/
def State.txKey (s : State) (m k seq : Nat) : Nat :=
  let x := s.txSlot m k
  let keys := (x.frames.map (·.key) ++ x.latches.map (·.1)).filter fun key => key % 2 ^ 32 == seq && !x.ended.contains key
  keys.headD (frameKey ((x.bound.map (·.1)).getD 0) seq)

/-- A packet header with its ECC (R154). -/
def txHeader (vc dt wc : Nat) : List Byte :=
  let h := dt + vc * 64 + wc % 65536 * 256
  toBytesLE 3 h ++ [BitVec.ofNat 8 (headerEcc h)]

/-- A long packet: header, payload, check code (R154). -/
def txLong (vc dt : Nat) (b : List Byte) : List Byte := txHeader vc dt b.length ++ b ++ toBytesLE 2 (csiCrc b)

/-- What the port puts on the wire starts there. -/
def State.txStart (s : State) (m : Nat) (p : TxPacket) : State :=
  if p.bytes.isEmpty then (s.emit (.deskew m)).event (txPage m) 4 else s.emit (.csiPacket m p.bytes)

/-- A packet is ready: it starts if the port is free (R157). -/
def State.txReady (s : State) (m : Nat) (p : TxPacket) : State :=
  let x := s.tx m
  let s' := s.putTx m { x with wire := x.wire ++ [p] }
  if x.wire.isEmpty then s'.txStart m p else s'

/-- A short packet of a frame in slot k. -/
def State.txShort (s : State) (m k key dt v : Nat) : State :=
  s.txReady m { bytes := txHeader ((s.txFields m k key).getD 2 0) dt v, slot := k }

/-- Send line i of a frame with its bytes (R154), which are to become the hold copy or are it. -/
def State.txLine (s : State) (m k key i : Nat) (b : List Byte) (copy : Bool) : State :=
  let f := s.txFields m k key
  let long : TxPacket := { bytes := txLong (f.getD 2 0) (f.getD 4 0) b, slot := k, hold := if copy then some (key / 2 ^ 32, b) else none }
  if f.getD 1 0 = 0 then s.txReady m long
  else ((s.txShort m k key 2 (i + 1)).txReady m long).txShort m k key 3 (i + 1)

/-- Set or clear the bit of slot k in a field of TX_STAT. -/
def State.txMark (s : State) (m k : Nat) (f : Field) (on : Bool) : State :=
  let v := s.get (txPage m) f
  s.put (txPage m) f (if on then setBit v k else clearBit v k)

/-- The record as the port sends it (R275): with what the port has done to the frame, and RCRC anew. -/
def txRecord (f : TxFrame) (partial_ : Bool) (b : List Byte) : List Byte :=
  let flags := fieldLE b 0x0C 2 ||| (bit f.truncated + 2 * bit partial_ + 8 * bit (!f.held.isEmpty))
  let held := if f.held.isEmpty then fieldLE b 0x0F 1 else min 255 f.held.length
  let body := sliceBytes b 0 0x0C ++ toBytesLE 2 flags ++ sliceBytes b 0x0E 1 ++ toBytesLE 1 held ++ sliceBytes b 0x10 0x2C
  body ++ toBytesLE 4 (crc32c body)

/-- TX_LINE_LONG, TX_HOLD_EXCEEDED and TX_PLL_LOCK as they now are (R166): the transmit ports' PLL is PLL 6 (R564). -/
def State.judgeTx (s : State) (m : Nat) : State :=
  let l := (s.tx m).slots.map (·.2)
  let s := (s.cond (txPage m) 0 (l.any fun x => x.lastLong || x.frames.any (·.long))).cond (txPage m) 1 (l.any (·.lastHeld))
  s.cond (txPage m) 2 (s.pllDown 6 && s.powered (PageRef.domain ⟨.csiTx, m, 0⟩))

/-- Lines of slot k that its buffers hold, complete and not yet sent: at most two, one being sent and one assembled (R155). -/
def State.txLines (s : State) (m k : Nat) : Nat :=
  ((s.txSlot m k).frames.map (·.lines.length)).sum + ((s.tx m).wire.filter (fun p => p.slot == k && p.hold.isSome)).length

/-- A frame of slot k leaves it (R154): its record if it is in, and frame end, if frame start has gone; periodic deskew (R164). -/
def State.txEnd (s : State) (m k : Nat) (f : TxFrame) (partial_ exceeded : Bool) : State :=
  let pg := txPage m
  let vc := (s.txFields m k f.key).getD 2 0
  let s := match f.record with
    | some b => if f.started then s.txReady m { bytes := txLong vc 0x12 (txRecord f partial_ b), slot := k } else s
    | none => s
  let s := if f.started then s.txShort m k f.key 1 (f.key % 2 ^ 32 % 65535 + 1) else s
  let x := s.txSlot m k
  let sent := x.sent + bit f.started
  let s := s.putTxSlot m k { x with frames := x.frames.filter (fun g => g.key != f.key), ended := (f.key :: x.ended).take 16,
                                    latches := x.latches.filter (fun e => e.1 != f.key), sent, lastLong := f.long, lastHeld := exceeded }
  let was := s.condBit pg 1
  let s := ((s.txMark m k CsiTx.TX_STAT_ACTIVE false).judgeTx m).again pg 1 (was && exceeded)
  let period := s.get pg CsiTx.TX_DESKEW_PERIOD_FRAMES
  if k = 0 && f.started && period != 0 && sent % period == 0 then s.txReady m { bytes := [], slot := 0 } else s

/-- A frame is cut (R157, R159, R192): ended at once, flagged truncated, counted. -/
def State.txCut (s : State) (m k : Nat) (f : TxFrame) (partial_ exceeded : Bool) : State :=
  ((s.txEnd m k { f with truncated := true } partial_ exceeded).countSat (txPage m) CsiTx.TX_LATE_CUT_CUT).event (txPage m) 2

/-- Cut what is still being sent in slot k ahead of the frame `key` (R157). -/
def State.txCutOthers (s : State) (m k key : Nat) : State :=
  ((s.txSlot m k).frames.filter (fun f => f.key != key && f.started)).foldl (fun s f => s.txCut m k f false false) s

/-- Frame start of the frame `key` of slot k is sent (R154, R157). -/
def State.txFrameStart (s : State) (m k key : Nat) : State :=
  let s := s.txCutOthers m k key
  let x := s.txSlot m k
  let frames := if x.frames.any (fun f => f.key == key) then x.frames else x.frames ++ [{ key := key }]
  let s := s.putTxSlot m k { x with frames := frames.map fun f => if f.key = key then { f with started := true } else f }
  ((s.txMark m k CsiTx.TX_STAT_ACTIVE true).txMark m k CsiTx.TX_STAT_HOLDING false).txShort m k key 0 (key % 2 ^ 32 % 65535 + 1)

/-- The frame `key` of slot k. -/
def State.txFrame (s : State) (m k key : Nat) : Option TxFrame := (s.txSlot m k).frames.find? (fun f => f.key == key)

/-- Store a frame of slot k. -/
def State.putTxFrame (s : State) (m k : Nat) (f : TxFrame) : State :=
  let x := s.txSlot m k
  s.putTxSlot m k { x with frames := x.frames.map fun g => if g.key = f.key then f else g }

/-- Send one complete line (R154): a run of held lines ends here. -/
def State.txSendLine (s : State) (m k key i : Nat) (b : List Byte) : State :=
  let s := s.eventIf ((s.txSlot m k).heldRun != 0) (txPage m) 1
  let s := s.putTxSlot m k { s.txSlot m k with heldRun := 0 }
  s.txLine m k key i b true

/-- Send what is complete and due of the frame `key` (R157): in burst mode everything that is complete, in line order; on a
line-paced slot what has had its slot. -/
def State.txDrain (s : State) (m k key : Nat) : Nat → State
  | 0 => s
  | fuel + 1 => match s.txFrame m k key with
    | none => s
    | some f =>
      let paced := (s.txFields m k key).getD 0 0 = 1
      let due := fun i => f.started && (!paced || f.slots.contains (.line i))
      let line := if paced then f.slots.findSome? (fun t => match t with
          | .line i => f.lines.find? (fun l => l.1 == i)
          | _ => none)
        else f.lines.head?
      if !paced && !f.started && f.lines.any (fun l => l.1 == 0) then (s.txFrameStart m k key).txDrain m k key fuel
      else match line with
        | some (i, b) =>
          if due i then
            let f := { f with lines := f.lines.filter (fun l => l.1 != i), slots := f.slots.filter (· != .line i) }
            ((s.putTxFrame m k f).txSendLine m k key i b).txDrain m k key fuel
          else s
        | none =>
          if f.record.isSome && (!paced || f.slots.contains .record) && f.started then s.txEnd m k f false false else s

/-- Everything due of a frame. -/
def State.txSettle (s : State) (m k key : Nat) : State :=
  s.txDrain m k key (match s.txFrame m k key with
    | some f => f.lines.length + 3
    | none => 0)

/-- Keep a unit of a frame that runs (R154, R159, R192): a line that has been substituted is discarded. -/
def State.txKeep (s : State) (m k : Nat) (u : PortUnit) : State :=
  let x := s.txSlot m k
  let frames := if x.frames.any (fun f => f.key == u.key) then x.frames else x.frames ++ [{ key := u.key }]
  let long := !u.record && decide (32768 < u.bytes.length)
  let keep := fun f : TxFrame =>
    if f.key ≠ u.key then f
    else if u.record then { f with record := some u.bytes }
    else if f.held.contains u.line then f
    else { f with lines := f.lines ++ [(u.line, u.bytes.take 32768)], truncated := f.truncated || long, long := f.long || long }
  let was := s.condBit (txPage m) 0
  let s := ((s.putTxSlot m k { x with frames := frames.map keep }).judgeTx m).again (txPage m) 0 (was && long)
  if u.withheld then
    let s := if (s.txFrame m k u.key).any (·.started) then s else s.txFrameStart m k u.key
    match s.txFrame m k u.key with
    | some f => (s.txCut m k f true false).stCount u.stream StreamTab.ST_CNT1_CUT
    | none => s
  else s.txSettle m k u.key

/-- TX_UNIT_RECEIVED: slot k of port m has received a unit whole from half h, its first byte at the count C `begun` (R154, R155,
R158); a sentinel slot takes it only from a half that was acting then (R460). A line that no buffer has room for cannot have come whole: it waits
with its channel. -/
def execTxUnitReceived (m : Fin 2) (k : Fin 4) (h : Fin 2) (begun : Nat) (u : PortUnit) (s : State) : Result :=
  .next <|
    let x := s.txSlot m k
    let sentinel := s.txSentinel m k u.key
    if !s.txCarries m k u.key || !s.txEnabled m || (sentinel && !s.actedAt h u.stream begun) then s
    else if sentinel && x.accepted.contains (u.key, u.line) then s.countSat (txPage m) CsiTx.TX_DUP_COUNT
    else if !u.record && !x.ended.contains u.key && decide (2 ≤ s.txLines m k) then s
    else
      let s := if sentinel && !u.record then s.noteSplit h u.stream ((s.txFields m k u.key).getD 6 0) u.seq u.line else s
      let s := s.putTxSlot m k { x with accepted := (u.key, u.line) :: x.accepted.filter (fun e => keyNear u.key e.1) }
      if x.ended.contains u.key then s else s.txKeep m k u

/-- TX_LINE_SLOT: the slot of an item of frame `seq` has come (R157): a line that is not complete is late, on a sentinel slot
only once the hold margin has passed (R159). -/
def execTxLineSlot (m : Fin 2) (k : Fin 4) (seq : Nat) (item : TxItem) (s : State) : Result :=
  .next <|
    let x := s.txSlot m k
    let key := s.txKey m k seq
    if !s.txEnabled m || !s.txCarries m k key || (s.txFields m k key).getD 0 0 != 1 || x.ended.contains key then s
    else match item with
      | .frameStart => if (s.txFrame m k key).any (·.started) then s else (s.txFrameStart m k key).txSettle m k key
      | _ => match s.txFrame m k key with
        | none => s
        | some f =>
          if !f.started || f.slots.contains item then s
          else
            let late := !s.txSentinel m k key && (match item with
              | .line i => !f.lines.any (fun l => l.1 == i)
              | _ => false)
            let s := if late then s.countSat (txPage m) CsiTx.TX_LATE_CUT_LATE else s
            (s.putTxFrame m k { f with slots := f.slots ++ [item] }).txSettle m k key

/-- TX_HOLD_MARGIN: line i of the sentinel frame `seq` is not complete at its slot plus HOLD_MARGIN_NS (R159): the hold copy
goes out in its place. DEDUCED: a line of another stream, sent on the slot before a swap, is none. -/
def execTxHoldMargin (m : Fin 2) (k : Fin 4) (seq i : Nat) (s : State) : Result :=
  let pg := txPage m
  .next <|
    let x := s.txSlot m k
    let key := s.txKey m k seq
    match s.txFrame m k key with
    | none => s
    | some f =>
      if !s.txEnabled m || !s.txSentinel m k key || !f.started || !f.slots.contains (.line i) then s
      else match x.hold.filter (fun e => e.1 == key / 2 ^ 32) with
        | none => s.countSat pg CsiTx.TX_LATE_CUT_LATE
        | some (_, b) =>
          let f := { f with held := i :: f.held, slots := f.slots.filter (· != .line i) }
          let s := (s.putTxFrame m k f).eventIf (x.heldRun == 0) pg 0
          let s := (s.countSat pg CsiTx.TX_HELD_COUNT).txMark m k CsiTx.TX_STAT_HOLDING true
          let s := (s.putTxSlot m k { s.txSlot m k with heldRun := x.heldRun + 1 }).txLine m k key i b false
          if x.heldRun + 1 < (s.txFields m k key).getD 3 0 then s
          else (s.putTxSlot m k { s.txSlot m k with heldRun := 0 }).txCut m k f false true

/-- TX_PACKET_SENT: a packet of port m has left (R155, R157): a line becomes the hold copy, and the next ready packet starts. -/
def execTxPacketSent (m : Fin 2) (s : State) : Result :=
  .next <|
    let x := s.tx m
    match x.wire with
    | [] => s
    | p :: rest =>
      let s := s.putTx m { x with wire := rest }
      let s := match p.hold with
        | some b => s.putTxSlot m p.slot { s.txSlot m p.slot with hold := some b }
        | none => s
      match rest with
      | [] => s
      | q :: _ => if s.terminal then s.putTx m { s.tx m with wire := [] } else s.txStart m q

/-- A transmit port is enabled (R164) or disabled: what it held is gone. -/
def State.txOn (s : State) (m : Nat) : State :=
  let pg := txPage m
  if s.flag pg CsiTx.TX_DESKEW_INIT_EN && decide (1500 < s.get pg CsiTx.TX_CFG_RATE_MBPS) then s.txReady m { bytes := [], slot := 0 } else s
def State.txOff (s : State) (m : Nat) : State :=
  let x := s.tx m
  let s := s.putTx m { x with wire := [] }
  let s := (x.slots.map (·.1)).foldl (fun s k => s.putTxSlot m k
    { s.txSlot m k with frames := [], accepted := [], ended := [], hold := none, heldRun := 0 }) s
  ((s.put (txPage m) CsiTx.TX_STAT_ACTIVE 0).put (txPage m) CsiTx.TX_STAT_HOLDING 0).judgeTx m

/-! ## Local frame-sync outputs (R160, R161) -/

/-- Does LFS_i drive its ball: enabled, the driver on, the terminal latch clear (R161, R487)? -/
def State.lfsDrives (s : State) (i : Nat) : Bool :=
  s.flag (rxPage i) CsiRx.LFS_CFG_EN && !s.flag (rxPage i) CsiRx.LFS_STAT_OFF && !s.terminal

/-- An edge is not sent (R160): its decision turns into PATH_MISSED (R206). -/
def State.lfsMissed (s : State) (i tide : Nat) : State :=
  ((s.countSat (rxPage i) CsiRx.LFS_STAT_MISSED).event (rxPage i) 4).pathMissed (32 + i) tide

/-- A leading edge at P = t, in 1/16 ns, reaches LFS_i (R160): missed if its time is past, or if the pulse before it, shortened
to end 20 ns ahead of it, would keep less than 100 ns. -/
def State.lfsSchedule (s : State) (i : Nat) (t : Int) (tide : Nat) : State :=
  let x := s.csi i
  let before := match x.edges.getLast? with
    | some (e, _) => some e
    | none => x.pulse.map (fun (p : Int × Int) => p.1)
  let close := before.any fun e => decide (t < e + 16 * s.get (rxPage i) CsiRx.LFS_CFG_WIDTH_NS + 320) && decide (t - 320 - e < 1600)
  if t < s.now16 || close then s.lfsMissed i tide
  else
    let cut := fun (p : Int × Int) => (p.1, min p.2 (t - 320))
    s.putCsi i { x with edges := x.edges ++ [(t, tide)], pulse := if x.edges.isEmpty then x.pulse.map cut else x.pulse }

/-- LFS_EDGE: the next scheduled leading edge of LFS_i is driven; an output that has no ball, or does not drive it, misses it (R160,
R599), as does one whose port sends no edges any more (R198). -/
def execLfsEdge (i : Fin 8) (s : State) : Result :=
  let pg := rxPage i
  .next <|
    let x := s.csi i
    match x.edges with
    | [] => s
    | (t, tide) :: rest =>
      let stop := t + 16 * s.get pg CsiRx.LFS_CFG_WIDTH_NS
      let stop := match rest with
        | (e, _) :: _ => min stop (e - 320)
        | [] => stop
      if !s.hasBall 2 i then State.lfsMissed (s.putCsi i { x with edges := rest }) i tide
      else if !s.lfsDrives i || !s.syncGate (32 + i) then (s.putCsi i { x with edges := rest }).pathMissed (32 + i) tide
      else ((s.putCsi i { x with edges := rest, pulse := some (t, stop) }).countWrap pg CsiRx.LFS_SENT_COUNT).emit (.lfsEdge i t)

/-- LFS_PULSE_END: the pulse of LFS_i ends (R160). -/
def execLfsPulseEnd (i : Fin 8) (s : State) : Result :=
  .next (s.putCsi i { s.csi i with pulse := none })

/-- The level that LFS_i drives: its pulse is active, by POL (R163). -/
def State.lfsLevel (s : State) (i : Nat) : Bool := (s.csi i).pulse.isSome != s.flag (rxPage i) CsiRx.LFS_CFG_POL

/-- The driver of LFS_i goes off (R161); that of a push-pull output shows in GPIO_OFF too (R600). -/
def State.lfsGoesOff (s : State) (i : Nat) : State :=
  let pg := rxPage i
  let s := ((s.putCsi i { s.csi i with pulse := none, lfsCleared := false }).put pg CsiRx.LFS_STAT_OFF 1).raise pg 2
  if s.flag pg CsiRx.LFS_CFG_OD then s else (s.ballsOf 2 i).foldl (fun (s : State) k => s.ballOff k) s

/-- LFS_READBACK: the ball of LFS_i has read `level` for 2 µs without a break: a difference turns the driver off (R161). -/
def execLfsReadback (i : Fin 8) (level : Bool) (s : State) : Result :=
  let pg := rxPage i
  .next <|
    let drive := s.lfsLevel i
    let differs := if s.flag pg CsiRx.LFS_CFG_OD then drive && !level else drive != level
    if s.lfsDrives i && s.hasBall 2 i && differs then s.lfsGoesOff i else s

/-- The driver of LFS_i comes back (R161): the fault acknowledged, and EN written 0 and then 1. -/
def State.tryLfs (s : State) (i : Nat) : State :=
  let pg := rxPage i
  if s.flag pg CsiRx.LFS_STAT_OFF && (s.csi i).lfsCleared && s.flag pg CsiRx.LFS_CFG_EN && (s.marks pg).settled 2 &&
      !s.due.contains (.occurrence pg 2) then
    let s := (s.put pg CsiRx.LFS_STAT_OFF 0).lower pg 2
    ((s.ballsOf 2 i).foldl (fun (s : State) k => s.put 0xA (Chip.GPIO_CFG_OFF.nth k) 0) s).judgeGpio
  else s

/-! ## Trigger inputs (R162) -/

/-- TRIG_EDGE: an edge of TRIG_n has stayed stable for FILTER_NS; it was at the ball `back` ns ago (R162). -/
def execTrigEdge (n : Fin 8) (falling : Bool) (back : Nat) (s : State) : Result :=
  let pg := rxPage n
  .next <|
    let sel := s.get pg CsiRx.TRIG_CFG_EDGE
    let x := s.csi n
    if !s.flag pg CsiRx.TRIG_CFG_EN || !s.hasBall 3 n || (sel != 2 && (sel == 1) != falling) then s
    else if 16 ≤ x.triggers.length then (s.put pg CsiRx.TRIG_STAT_OVERFLOW 1).event pg 6
    else
      let stamp := s.activeTime ((s.time.c - back) * 2 ^ 32) / 2 ^ 32
      let s := (s.putCsi n { x with triggers := x.triggers ++ [(stamp, falling)] }).put pg CsiRx.TRIG_STAT_COUNT (x.triggers.length + 1)
      s.eventIf x.triggers.isEmpty pg 5

/-- The head stamp of TRIG_n leaves its queue, as words (R162). -/
def State.popTrigger (s : State) (n : Nat) : List Nat × State :=
  let x := s.csi n
  let words := match x.triggers.head? with
    | none => [0, 0]
    | some (t, falling) => [t % 2 ^ 32, t / 2 ^ 32 % 2 ^ 31 + bit falling * 2 ^ 31]
  (words, (s.putCsi n { x with triggers := x.triggers.tail }).put (rxPage n) CsiRx.TRIG_STAT_COUNT (x.triggers.length - 1))

/-- TRIG_POP: a read of TRIG_TIME_LO pops the head stamp and captures TRIG_TIME_HI (R9, R162). -/
def execTrigPop (req : Requester) (n : Fin 8) (s : State) : Result :=
  .next <| s.onPop req (regOff (rxPage n) CsiRx.TRIG_TIME_LO_TIME) fun s => s.popTrigger n

end Sys2Proof.Machine
end

