-- ==== Sys2Proof/Machine/Sync.lean ====
section
/-!
DEFINITION. Sys2Proof/Machine/Sync.lean: exposure-midpoint synchronization (R198 to R216).
-/
namespace Sys2Proof.Machine

/-! ## Settings of a port -/

/-- A live field of port n's sync registers (R213). -/
def State.sy (s : State) (n : Nat) (f : Field) : Nat := s.live (inPage n) f

/-- The reference stream of port n (R198). -/
def State.refStream (s : State) (n : Nat) : Nat := 4 * n + s.sy n Inlet.SYNC_CFG_REF_VC

/-- ρ − 1 of port n in force, in ppb (R204): 0 without rate tracking. -/
def State.rhoOf (s : State) (n : Nat) : Int := if s.sy n Inlet.SYNC_CFG_RATE_TRACK = 0 then 0 else (s.syncOf n).rho

/-- ρ × x, rounded half even to the unit of x (R205); ρ − 1 is `ppb` × 10⁻⁹. -/
def rhoMul (ppb x : Int) : Int := roundHalfEven (x * (1000000000 + ppb)) 1000000000

/-- The exposure of a value V, in 2⁻¹⁶ ns (R202); a negative one is 0. -/
def exposureOf (v unit bias : Nat) : Int := max 0 ((v * unit : Int) + toSigned 32 bias * 4096)

/-- LAT_CABLE of port n, in 1/16 ns: 0 on a CSI-2 port (R209). -/
def State.cableOf (s : State) (n : Nat) : Nat := if n < 32 then s.get (wePage n) Weatas.LAT_CABLE_DELAY else 0

/-- path(n), in 1/16 ns (R206). -/
def State.pathOf (s : State) (n : Nat) : Nat :=
  if s.sy n Inlet.SYNC_CFG_MODE = 1 then
    s.get (wePage n) Weatas.CAM_CAP1_FSYNC_LAT + s.cableOf n + 10 * s.sy n Inlet.SYNC_CFG_DELAY_BASE
  else 0

/-- The value designated for a tide, or the latest known, EXP_INIT before the first (R203); whether it is the latter. -/
def State.valueFor (s : State) (n tide : Nat) : Nat × Bool :=
  let x := s.syncOf n
  match x.values.find? (fun e => e.1 == tide) with
  | some (_, v) => (v, false)
  | none => (x.latest.getD (s.sy n Inlet.SYNC_EXP_INIT_V), true)

/-- The settings in force, as a frame without a decision uses them (R210). -/
def State.syncSettings (s : State) (n tide reason : Nat) : SyncDecision :=
  { tide, reason, rho := s.rhoOf n, anchor := s.sy n Inlet.SYNC_CFG_ANCHOR, unit := s.sy n Inlet.SYNC_EXP_UNIT_UNIT,
    bias := s.sy n Inlet.SYNC_EXP_BIAS_BIAS, sens := s.sy n Inlet.SYNC_SENS_LAT_LAT, row := s.sy n Inlet.SYNC_ROW_ROW_PERIOD,
    refRow := s.sy n Inlet.SYNC_REF_REF_ROW, sofLat := s.sy n Inlet.SYNC_SOF_SOF_LAT_NS, slipUs := s.sy n Inlet.SYNC_SOF_SLIP_US,
    cable := s.cableOf n }

/-! ## The decision (R205 to R208) -/

/-- The domain time, ns, at which the spring tide in progress ends (R64): the first point of the live plan's grid at which it is not short. -/
def State.springEnd (s : State) : Int := match s.tide.livePlan with
  | none => s.tide.springStart
  | some p =>
    let e := s.tide.springStart + p.period
    e + ((p.phase : Int) - e) % p.period

/-- The grid time of family f's tide in progress (`ahead` 0) or of a later one, ns (R30, R64). -/
def State.gridTime (s : State) (f ahead : Nat) : Nat := match s.tide.livePlan with
  | none => s.tide.springStart.toNat
  | some p =>
    let n := (p.family f).n
    let i := s.tide.begun.getD f 1 + ahead - 1
    let at_ := fun (from_ : Int) (k : Nat) => (from_ + (k * p.period / n : Nat)).toNat
    if i < n then at_ s.tide.springStart i else at_ s.springEnd (i - n)

/-- MID_OFFSET and HORIZON of family f as a decision uses them, and whether one was clamped (R208). -/
def State.syncFamily_ (s : State) (f : Nat) : Nat × Nat × Bool := match s.tide.livePlan with
  | none => (0, 0, false)
  | some p =>
    let len := p.period / (p.family f).n
    let mid := s.live syncPage (Tidemark.SYNC_FAM_MID_MID_OFFSET.nth f)
    let hor := s.live syncPage (Tidemark.SYNC_FAM_HOR_HORIZON.nth f)
    (min mid (len - 1), min hor len, decide (len - 1 < mid) || decide (len < hor))

/-- SYNC_FIT (R207); `room` is HORIZON + SKEW − path − 2,000 ns in 2⁻¹⁶ ns. -/
def fitOf (d : SyncDecision) (room : Int) : Nat :=
  if d.anchor = 1 then 0xFFFFFFFF
  else (max 0 (min 0xFFFFFFFF (2 * (room - d.l) * 1000000000 / (65536 * (1000000000 + d.rho))))).toNat

/-- Deliver a decided edge (R206): t_dep of its FSYNC messages in 1/16 ns. Those whose /S/ instant has passed are not sent (R130). -/
def State.deliverEdge (s : State) (n : Nat) (d : SyncDecision) (dep : Int) : State :=
  if s.sy n Inlet.SYNC_CFG_MODE = 2 then s.lfsSchedule (n - 32) d.edge d.tide
  else
    let outs := (List.range 4).filter fun m =>
      hasBit (s.sy n Inlet.SYNC_CFG_OUT_MASK) m && decide (m < s.get (wePage n) Weatas.CAM_CAP0_FSYNC_OUTS)
    let msg := fun m : Nat =>
      ({ id := d.tide % 256, out := m, delay := s.sy n Inlet.SYNC_CFG_DELAY_BASE, depart := dep, tide := d.tide } : Fsync)
    if outs.isEmpty then s.pathMissed n d.tide
    else if dep - 1200 < s.now16 then (s.countSat (wePage n) Weatas.FSYNC_COUNT_MISSED outs.length).pathMissed n d.tide
    else s.putLane n { s.lane n with fsyncs := (s.lane n).fsyncs ++ outs.map msg }

/-- The decision of port n for tide k whose boundary lies at T, ns (R205). -/
def State.decidePort (s : State) (n k T mid hor : Nat) : State :=
  let pg := inPage n
  let x := s.syncOf n
  let (v, pred) := s.valueFor n k
  let set := s.syncSettings n k 0
  let l := rhoMul set.rho ((set.sens * 4096 + set.refRow * set.row : Nat) : Int)
  let e := exposureOf v set.unit set.bias
  let target : Int := (T + mid : Nat) + toSigned 32 (s.sy n Inlet.SYNC_SKEW_SKEW_NS)
  let h2 := rhoMul set.rho e
  let edge := roundHalfEven (target * 131072 - 2 * l + (if set.anchor = 0 then -h2 else h2)) 8192
  let dep := edge - s.pathOf n
  let q : Int := (T + mid : Nat) - (hor : Int)
  let noLink := s.sy n Inlet.SYNC_CFG_MODE = 1 && (!s.linkOperating n || !s.flag (wePage n) Weatas.LAT_CABLE_VALID)
  let soon := x.lastEdge.any fun t => decide (edge - t < 16 * s.sy n Inlet.SYNC_MIN_INT_NS)
  let reason := if noLink then 3 else if dep < 16 * (q + 2000) then 1 else if soon then 2 else 0
  let d := { set with reason, edge, v, pred, l, e }
  let room := ((hor : Int) + toSigned 32 (s.sy n Inlet.SYNC_SKEW_SKEW_NS) - 2000) * 65536 - s.pathOf n * 4096
  let s := s.putSync n { x with decisions := (d :: x.decisions).take 16, lastEdge := if reason = 0 then some edge else x.lastEdge }
  let s := (s.put pg Inlet.SYNC_EXP_NOW_V v).put pg Inlet.SYNC_FIT_NS (fitOf d room)
  let s := (s.put pg Inlet.SYNC_STAT_LAST_REASON reason).put pg Inlet.SYNC_STAT_PRED (bit pred)
  if reason ≠ 0 then s.countSkip n
  else
    let code := ofSigned 64 edge
    let s := (s.put pg Inlet.SYNC_EDGE_LO_EDGE code).put pg Inlet.SYNC_EDGE_HI_EDGE (code / 2 ^ 32)
    let s := ((s.countWrap pg Inlet.SYNC_CNT0_SENT).put pg Inlet.SYNC_STAT_SKIP_RUN 0).judgeSyncLost
    s.deliverEdge n d dep

/-- The ports that a decision of family f concerns (R198): driven, with a reference stream of the family. -/
def State.syncPorts (s : State) (f : Nat) : List Nat :=
  (List.range 40).filter fun n => s.sy n Inlet.SYNC_CFG_MODE != 0 && (s.streamPlan (s.refStream n)).any (·.family == f)

/-- SYNC_DECISION: the decision instant Q(k) of the next tide of family f that it falls to (R205): tide k lies behind its
boundary already where MID_OFFSET is at least HORIZON. The first tide of a family (R61) has the number that R32 gives it. -/
def execSyncDecision (f : Fin 4) (s : State) : Result :=
  .next <| if !s.famActive f || s.tide.livePlan.isNone then s
    else
      let (mid, hor, clamped) := s.syncFamily_ f
      let ahead := if hor ≤ mid then 0 else 1
      let begun := hasBit s.tide.famStarted f
      let k := if begun then (s.famTide f + ahead) % 2 ^ 32 else if hasBit s.tide.famEver f then (s.famTide f + 1) % 2 ^ 32 else 0
      if !begun && ahead == 0 then s else
      let s := s.eventIf clamped syncPage 4
      let open_ := (s.syncPorts f).filter fun n => !(s.syncOf n).decisions.any (fun d => d.tide == k)
      open_.foldl (fun s n => s.decidePort n k (s.gridTime f ahead) mid hor) s

/-! ## Reading back the exposure (R202, R203) -/

/-- The value V of an embedded packet; none where it is broken, fails its check or is too short. -/
def State.embeddedValue (s : State) (n : Nat) (i : InletItem) : Option Nat :=
  let bytes := s.sy n Inlet.SYNC_EMB_BYTES + 1
  let stride := s.sy n Inlet.SYNC_EMB_STRIDE + 1
  let off := s.sy n Inlet.SYNC_EMB_OFFSET
  let bs := (List.range bytes).map fun j => i.data.getD (off + j * stride) 0
  let v := if s.sy n Inlet.SYNC_EMB_ORDER = 0 then ofBytesBE bs else ofBytesLE bs
  if i.broken || !i.crcOk || decide (i.data.length ≤ off + (bytes - 1) * stride) then none
  else some (v / 2 ^ s.sy n Inlet.SYNC_EMB_SHIFT % 2 ^ (s.sy n Inlet.SYNC_EMB_BITS + 1))

/-- A frame gave no value (R202). -/
def State.embError (s : State) (n : Nat) : State := (s.countSat (inPage n) Inlet.SYNC_CNT1_EMB_ERR).event syncPage 2

/-- An embedded packet of the open frame of stream x (R202): packet number EMB.LINE of the reference stream gives a value. -/
def State.syncEmbedded (s : State) (x : Nat) (i : InletItem) : State :=
  let n := x / 4
  let st := s.stream x
  if s.refStream n != x || st.embDone || st.embedded != s.sy n Inlet.SYNC_EMB_LINE then s
  else
    let s := s.putStream x { st with embDone := true }
    match s.embeddedValue n i with
    | none => s.embError n
    | some v =>
      let y := s.syncOf n
      let t := (st.tide + s.sy n Inlet.SYNC_CFG_EXP_LEAD) % 2 ^ 32
      s.putSync n { y with values := ((t, v) :: y.values.filter (fun e => e.1 != t)).take 16, latest := some v }

/-- The end of a frame of stream x: a reference stream without its packet (R202). -/
def State.syncFrameEnd (s : State) (x : Nat) : State :=
  if s.refStream (x / 4) == x && !(s.stream x).embDone then (s.putStream x { s.stream x with embDone := true }).embError (x / 4) else s

/-! ## Rate tracking (R204) -/

/-- SYNC_RATE as it now is (R216). -/
def State.judgeRate (s : State) : State := s.cond syncPage 2 (s.syncs.any (fun e => e.2.rangeBad))

/-- A frame of stream x has closed complete without a line error: the header times of its first and last row, 1/16 ns. -/
def State.syncMeasure (s : State) (x lines first last : Nat) : State :=
  let n := x / 4
  let d := (lines - 1) * s.sy n Inlet.SYNC_ROW_ROW_PERIOD
  if s.refStream n != x || s.sy n Inlet.SYNC_CFG_RATE_TRACK == 0 || d == 0 then s
  else
    let ppb := roundHalfEven ((((last : Int) - first) * 4096 - d) * 1000000000) d
    if ppb < -500000 ∨ 500000 < ppb then ((s.putSync n { s.syncOf n with rangeBad := true }).event syncPage 3).judgeRate
    else (s.putSync n { s.syncOf n with rho := ppb, rangeBad := false }).judgeRate

/-! ## What the frame record carries (R209 to R211) -/

/-- SYNC_SLIP as it now is (R216). -/
def State.judgeSlip (s : State) : State :=
  s.cond syncPage 1 (s.get syncPage Tidemark.SYNC_SLIP_MAP_LO_PORT != 0 || s.get syncPage Tidemark.SYNC_SLIP_MAP_HI_PORT != 0)

/-- A port's frame start differs from its prediction (R209). -/
def State.slipped (s : State) (n : Nat) : State :=
  let s := (s.countSat (inPage n) Inlet.SYNC_CNT1_SLIP).mapPort Tidemark.SYNC_SLIP_MAP_LO_PORT Tidemark.SYNC_SLIP_MAP_HI_PORT n
  (s.event syncPage 1).judgeSlip

/-- Does a frame start at SOF_TIME `sof`, ns, miss the predicted arrival A of its decision by more than SLIP_US (R209)? -/
def SyncDecision.slips (d : SyncDecision) (sof : Nat) : Bool :=
  let sensor := rhoMul d.rho ((d.sens * 4096 : Nat) + (if d.anchor = 0 then d.e else 0))
  let a := d.edge * 4096 + sensor + (d.sofLat * 65536 + d.cable * 4096 : Nat)
  decide (d.slipUs * 1000 * 65536 < ((sof : Int) * 65536 - a).natAbs)

/-- A frame of stream x starts in `tide` at `sof` (R209, R210): the decision it is matched with, and whether it slips. -/
def State.syncFrameStart (s : State) (x tide sof : Nat) : State :=
  let n := x / 4
  let own := (s.streamPlan x).map (·.family)
  let keep := fun (s : State) d slip => s.putStream x { s.stream x with sync := some (d, slip), embDone := false }
  if s.sy n Inlet.SYNC_CFG_MODE = 0 then keep s (s.syncSettings n tide 6) false
  else match (s.syncOf n).decisions.find? (fun d => d.tide == tide && (s.streamPlan (s.refStream n)).map (·.family) == own) with
    | none => keep s (s.syncSettings n tide 5) false
    | some d =>
      let slip := d.reason == 0 && d.slips sof
      keep (if slip then s.slipped n else s) d slip

/-- MID_TIME and SYNC_STATUS of a frame of stream x that started at `sof`, ns (R210, R211). -/
def State.midOf (s : State) (x sof : Nat) : Nat × Nat := match (s.stream x).sync with
  | none => (sof, 0x0D)
  | some (d, slip) =>
    let n := x / 4
    let reason := if d.reason < 5 then ((s.syncOf n).decisions.find? (fun c => c.tide == d.tide)).elim d.reason (·.reason) else d.reason
    let (v, unk) := s.valueFor n d.tide
    let h2 := rhoMul d.rho (exposureOf v d.unit d.bias)
    let edgeSrc := reason == 0 && !slip
    let m : Int := if edgeSrc then d.edge * 8192 + 2 * d.l + (if d.anchor = 0 then h2 else -h2)
      else (sof : Int) * 131072 - d.cable * 8192 - d.sofLat * 131072 + 2 * rhoMul d.rho ((d.refRow * d.row : Nat) : Int) - h2
    (ofSigned 64 (roundHalfEven m 131072),
      bit slip * 64 + bit unk * 32 + bit (decide (d.reason < 5) && d.pred) * 16 + bit (!edgeSrc) * 8 + reason)

end Sys2Proof.Machine
end

