-- ==== Sys2Proof/Machine/Pixels.lean ====
section
/-!
DEFINITION. Sys2Proof/Machine/Pixels.lean: the pixel arithmetic of a Cove (R222 to R269), as functions of what a part of a frame has
processed and of the register values and tables it runs with. A stage's sample at a pixel is a function of the samples before it;
`rows` is the number of rows that stand for the frame's height: ACTIVE_LINES, or the rows of a part that ended early (R267).
-/
namespace Sys2Proof.Machine

/-- Page p of Cove n. -/
def covePage (n p : Nat) : Nat := Block.page .cove n p

/-- A register value of a part, on page pg of its Cove and for its context (R37, R219). -/
def CovePart.reg (p : CovePart) (pg : Nat) (f : Field) (j : Nat := 0) : Nat :=
  Latch.field p.latch (covePage p.cove pg) (f.nth p.context j)

/-- Byte m of a register of packed bytes. -/
def byteOf (v m : Nat) : Nat := v / 256 ^ m % 256

/-- Half m of a register of two 16-bit fields, and its signed reading (R280, R281). -/
def halfOf (v m : Nat) : Nat := v / 65536 ^ m % 65536
def signedHalf (v m : Nat) : Int := toSigned 16 (halfOf v m)

/-- Round half up of a / b, both natural (R7). -/
def rhu (a b : Nat) : Nat := (2 * a + b) / (2 * b)

/-- Saturate an integer to u16 (R7). -/
def sat16 (i : Int) : Nat := satU 16 i

/-- A coordinate reflected into 0 … n − 1 (R222). -/
def reflect (n : Nat) (x : Int) : Nat :=
  if n ≤ 1 then 0
  else
    let m := (x % (2 * (n - 1) : Nat)).toNat
    if m < n then m else 2 * (n - 1) - m

/-- The distance of two naturals. -/
def dist (a b : Nat) : Nat := max a b - min a b

/-- The sorted list. -/
def sortNat (l : List Nat) : List Nat := l.foldr (fun x m => m.takeWhile (· < x) ++ [x] ++ m.dropWhile (· < x)) []

/-! ## Tables (R220, R221, R225, R230) -/

/-- The bytes of a table that have come, from its start up to the first that has not. -/
def TableRead.bytes (t : TableRead) : List Byte :=
  let stop := t.fail.getD t.size
  let rec go (fuel at_ : Nat) : List Byte := match fuel with
    | 0 => []
    | fuel + 1 => match t.got.find? (fun g => g.1 == at_) with
      | some (_, b) => if at_ < stop then b ++ go fuel (at_ + b.length) else []
      | none => []
  go t.got.length 0

/-- The read of a table of a part. -/
def CovePart.read (p : CovePart) (t : CoveTable) : Option TableRead := p.tables.find? (fun r => r.table == t)

/-- A table read whole without a failure. -/
def CovePart.whole (p : CovePart) (t : CoveTable) : Option (List Byte) :=
  (p.read t).bind fun r => if r.left = 0 ∧ r.fail = none then some r.bytes else none

/-- The 33 knees of a decompanding table (R225). -/
def kneesOf (b : List Byte) : List (Nat × Nat) := (List.range 33).map fun i => (fieldLE b (8 * i) 2, fieldLE b (8 * i + 2) 3)

/-- Is a decompanding table valid (R226)? -/
def kneesValid (b : List Byte) : Bool :=
  let k := kneesOf b
  fieldLE b 0 2 == 0 && (k.zip k.tail).all (fun e => decide (e.1.1 < e.2.1) && decide (e.1.2 ≤ e.2.2)) &&
    (List.range 33).all (fun i => fieldLE b (8 * i + 5) 3 == 0)

/-- The table of exposure e (R225). -/
def CovePart.pwlTable (p : CovePart) (e : Nat) : CoveTable := .pwl (if p.reg 1 Cove.PWL_CFG_SHARED = 1 then 0 else e)

/-- A decompanding read has failed: the whole frame runs in bypass (R221). -/
def CovePart.pwlFailed (p : CovePart) : Bool := p.tables.any fun t => match t.table with
  | .pwl _ => t.fail.isSome
  | _ => false

/-- The knees in force for exposure e: none in bypass (R221, R226). -/
def CovePart.knees (p : CovePart) (e : Nat) : Option (List (Nat × Nat)) :=
  if p.reg 1 Cove.PWL_CFG_EN = 0 || p.pwlFailed then none
  else (p.whole (p.pwlTable e)).bind fun b => if kneesValid b then some (kneesOf b) else none

/-- The decompanding curve (R226). -/
def pwlCurve (k : List (Nat × Nat)) (d : Nat) : Nat :=
  let last := k.getLastD (0, 0)
  if last.1 ≤ d then last.2
  else
    let i := (((List.range 32).filter (fun i => decide ((k.getD i (0, 0)).1 ≤ d))).getLast?).getD 0
    let (x0, y0) := k.getD i (0, 0)
    let (x1, y1) := k.getD (i + 1) (0, 0)
    y0 + rhu ((d - x0) * (y1 - y0)) (x1 - x0)

/-- The whole entries in the bytes of a defect map: (ROW, COL, MASK) (R230). -/
def mapEntries (b : List Byte) : List (Nat × Nat × Nat) :=
  (List.range (b.length / 8)).map fun i => (fieldLE b (8 * i) 2, fieldLE b (8 * i + 2) 2, fieldLE b (8 * i + 4) 1 % 16)

/-- The entries of a defect map that is in order, before the first that ends it (R230); whether order ended it. -/
def mapPrefix (lines : Nat) : Option Nat → List (Nat × Nat × Nat) → List (Nat × Nat × Nat) × Bool
  | _, [] => ([], false)
  | prev, (r, c, m) :: rest =>
    let key := r * 65536 + c
    if prev.any (fun k => decide (key ≤ k)) then ([], true)
    else if lines ≤ r then ([], false)
    else
      let (l, bad) := mapPrefix lines (some key) rest
      ((r, c, m) :: l, bad)

/-- The defect map as it has been read: (ROW, COL, MASK), and whether its order ended it (R230). Where a piece of it has failed, it stops
at the first row whose entries were not all read (R221). -/
def CovePart.defectMap (f : HalfFrame) (p : CovePart) : List (Nat × Nat × Nat) × Bool := match p.read .map with
  | none => ([], false)
  | some t =>
    let entries := mapEntries t.bytes
    let (l, bad) := mapPrefix f.lines none entries
    match t.fail, l.getLast? with
    | some _, some (r, _, _) => if l.length < entries.length then (l, bad) else (l.filter (fun e => decide (e.1 < r)), bad)
    | _, _ => (l, bad)

/-! ## The front stages (R222 to R243) -/

/-- The channel index of a pixel (R223). -/
def CovePart.cfa (p : CovePart) (y x : Nat) : Nat :=
  2 * ((y + p.reg 1 Cove.IN_CFG_CFA_PHY) % 2) + (x + p.reg 1 Cove.IN_CFG_CFA_PHX) % 2

/-- The code of a pixel as the part has it. -/
def CovePart.code (p : CovePart) (e y x : Nat) : Nat :=
  match p.runs.find? (fun r => r.row == y && r.e == e && decide (r.col0 ≤ x) && decide (x < r.col0 + r.codes.length)) with
  | some r => r.codes.getD (x - r.col0) 0
  | none => 0

/-- Stage 1 (R226). -/
def CovePart.l0 (p : CovePart) (e y x : Nat) : Nat := match p.knees e with
  | some k => pwlCurve k (p.code e y x)
  | none => min (p.code e y x * 2 ^ p.reg 1 Cove.PWL_CFG_BYPASS_SHIFT) 0xFFFFFF

/-- Stage 2 (R227). -/
def CovePart.l1 (p : CovePart) (e y x : Nat) : Nat := p.l0 e y x - p.blEff.getD (4 * e + p.cfa y x) 0

/-- Is a pixel listed for exposure e in the static map (R230)? -/
def isListed (m : List (Nat × Nat × Nat)) (e y x : Nat) : Bool :=
  m.any (fun d => d.1 == y && d.2.1 == x && (d.2.2 == 0 || hasBit d.2.2 e))

/-- A stage's view of a part: the frame, the part, the rows that stand for its height, its defect map. -/
structure View where
  f : HalfFrame
  p : CovePart
  rows : Nat
  map : List (Nat × Nat × Nat)

/-- The view of a part with a height. -/
def viewOf (f : HalfFrame) (p : CovePart) (rows : Nat) : View :=
  { f, p, rows, map := if p.reg 3 Cove.DEF_CFG_STATIC_EN = 1 then (p.defectMap f).1 else [] }

/-- The pixel at an offset from (y, x), reflected at the edges (R222). -/
def View.at_ (v : View) (y x : Nat) (dy dx : Int) : Nat × Nat := (reflect v.rows (y + dy), reflect v.f.width (x + dx))

/-- L1 of the unlisted neighbours of a pixel at some offsets. -/
def View.near (v : View) (e y x : Nat) (offs : List (Int × Int)) : List Nat :=
  ((offs.map fun o => v.at_ y x o.1 o.2).filter (fun q => !isListed v.map e q.1 q.2)).map fun q => v.p.l1 e q.1 q.2

/-- The axial and the diagonal neighbours of one channel (R232). -/
def axial : List (Int × Int) := [(0, -2), (0, 2), (-2, 0), (2, 0)]
def diagonal : List (Int × Int) := [(-2, -2), (-2, 2), (2, -2), (2, 2)]

/-- The median of at most four values (R232). -/
def medianOf (l : List Nat) : Nat :=
  let m := sortNat l
  let k := m.length
  if k % 2 = 1 then m.getD (k / 2) 0 else rhu (m.getD (k / 2 - 1) 0 + m.getD (k / 2) 0) 2

/-- The replacement value of a pixel (R232). -/
def View.repair (v : View) (e y x : Nat) : Nat :=
  let a := v.near e y x axial
  let l := if a.isEmpty then v.near e y x diagonal else a
  if l.isEmpty then v.p.l1 e y x else medianOf l

/-- The dynamic test of a pixel (R233): found, and whether it is cold. -/
def View.found (v : View) (e y x : Nat) : Option Bool :=
  let l := v.near e y x (axial ++ diagonal)
  let p := v.p.l1 e y x
  let hi := l.foldl max 0
  let lo := l.foldl min hi
  let lim := fun m => max (v.p.reg 3 Cove.DEF_DYN_DYN_ABS) (m * v.p.reg 3 Cove.DEF_DYN_DYN_REL / 256)
  if v.p.reg 3 Cove.DEF_CFG_DYN_EN = 0 || isListed v.map e y x || decide (l.length < 2) then none
  else if hi + lim hi < p then some false
  else if p + lim lo < lo then some true
  else none

/-- Stage 3 (R231). -/
def View.l1c (v : View) (e y x : Nat) : Nat :=
  if isListed v.map e y x || (v.found e y x).isSome then v.repair e y x else v.p.l1 e y x

/-- Is a node row of the mesh in what has been read? -/
def CovePart.meshHas (p : CovePart) (j : Nat) : Bool := (p.read .mesh).any fun t => decide (520 * (j + 2) ≤ t.bytes.length)

/-- The gain of the lens shading, u4.12 (R236, R237). -/
def View.gain (v : View) (y x : Nat) : Nat :=
  let w := v.p.reg 4 Cove.SH_CFG_CELL_W
  let h := v.p.reg 4 Cove.SH_CFG_CELL_H
  let i := min (x / w) 63
  let j := min (y / h) 47
  let wx := min (rhu ((x - i * w) * 65536) w) 65536
  let wy := min (rhu ((y - j * h) * 65536) h) 65536
  let b := ((v.p.read .mesh).map (·.bytes)).getD []
  let g := fun i j => fieldLE b (2 * (4 * (65 * j + i) + v.p.cfa y x)) 2
  if !v.p.meshHas j then 4096
  else rhu (g i j * (65536 - wx) * (65536 - wy) + g (i + 1) j * wx * (65536 - wy) + g i (j + 1) * (65536 - wx) * wy +
    g (i + 1) (j + 1) * wx * wy) (2 ^ 32)

/-- Stage 4 (R237). -/
def View.l2 (v : View) (e y x : Nat) : Nat :=
  if v.p.reg 4 Cove.SH_CFG_EN = 0 then v.l1c e y x else min (rhu (v.l1c e y x * v.gain y x) 4096) 0xFFFFFF

/-- The exposures of the merge, from the longest to the shortest (R238). -/
def View.order (v : View) : List Nat :=
  let o := v.p.reg 5 Cove.HDR_CFG_ORDER
  (([0, 1, 2, 3]).map fun m => o / 4 ^ m % 4).filter (fun e => decide (e < v.f.exposures))

/-- An exposure on the common radiance (R238). -/
def View.scaledExp (v : View) (e y x : Nat) : Nat := min (rhu (v.l2 e y x * v.p.reg 5 Cove.HDR_K_K e) 65536) 0xFFFFFF

/-- The saturation weight of an exposure (R239). -/
def View.weight (v : View) (e y x : Nat) : Nat :=
  let l := v.l1c e y x
  let start := v.p.reg 5 Cove.HDR_START_START e
  let clip := v.p.reg 5 Cove.HDR_CLIP_CLIP e
  if l ≤ start then 256 else if clip ≤ l then 0 else rhu (256 * (clip - l)) (clip - start)

/-- The merge (R240): the result after the exposures of `done`, latest first, and whether there was motion at a step. -/
def View.merge (v : View) (y x : Nat) : List Nat → Nat × Bool
  | [] => (0, false)
  | [e] => (v.scaledExp e y x, false)
  | e :: prev :: rest =>
    let acc := fun x' => v.merge y x' (prev :: rest)
    let diff := fun (dx : Int) => let x' := reflect v.f.width (x + dx); dist (acc x').1 (v.scaledExp e y x')
    let d := min (diff (-2)) (min (diff 0) (diff 2))
    let (a0, moved) := acc x
    let s := v.scaledExp e y x
    let n := v.p.reg 5 Cove.MOT_FLOOR_FLOOR + a0 * v.p.reg 5 Cove.MOT_CFG_MOT_REL / 65536
    let mu := if d ≤ n then 0 else min 256 ((d - n) * v.p.reg 5 Cove.MOT_GAIN_GAIN / 65536)
    let w := v.weight prev y x
    let a := if v.p.reg 5 Cove.HDR_CFG_MOT_PREF = 0 then min w (256 - mu) else max w mu
    (rhu (a * a0 + (256 - a) * s) 256, moved || decide (0 < mu))

/-- acc of a pixel, and whether it has motion (R240, R241). -/
def View.hdr (v : View) (y x : Nat) : Nat × Bool :=
  if v.p.reg 5 Cove.HDR_CFG_EN = 0 then v.merge y x (v.order.take 1) else v.merge y x v.order.reverse

/-- The segment of the tone curve, and the fraction as numerator and denominator (R242). -/
def toneSegment (octave : Bool) (acc : Nat) : Nat × Nat × Nat :=
  if !octave then (acc / 65536, acc % 65536, 65536)
  else if acc < 512 then (acc / 32, acc % 32, 32)
  else
    let k := Nat.log2 acc - 8
    (16 * k + acc / 2 ^ (k + 4) % 16, acc % 2 ^ (k + 4), 2 ^ (k + 4))

/-- A point of a curve of u16 points. -/
def pointOf (b : List Byte) (p : Nat) : Nat := fieldLE b (2 * p) 2

/-- Interpolate between two points of a curve, rounded half up (R243, R261). -/
def curveAt (b : List Byte) (s num den : Nat) : Nat :=
  (roundHalfUp ((pointOf b s * den : Int) + num * ((pointOf b (s + 1) : Int) - pointOf b s)) den).toNat

/-- Stage 5 ends: Y (R243). -/
def View.y (v : View) (y x : Nat) : Nat :=
  let acc := (v.hdr y x).1
  match (if v.p.reg 5 Cove.TONE_CFG_EN = 1 then v.p.whole .tone else none) with
  | none => acc / 256
  | some b =>
    let (s, num, den) := toneSegment (v.p.reg 5 Cove.TONE_CFG_MODE == 1) acc
    curveAt b s num den

/-! ## Noise reduction, white balance (R254, R255) -/

/-- The spatial weight of a neighbour (R254). -/
def CovePart.spatial (p : CovePart) (i j : Int) : Nat :=
  let a := max i.natAbs j.natAbs
  let b := min i.natAbs j.natAbs
  let sw := p.reg 6 Cove.NR_SW0_SW
  match a, b with
  | 0, _ => 256
  | 1, 0 => byteOf sw 0
  | 1, _ => byteOf sw 1
  | _, 0 => byteOf sw 2
  | _, 1 => byteOf sw 3
  | _, _ => p.reg 6 Cove.NR_SW1_SW22

/-- The range weight of a difference (R254). -/
def CovePart.range (p : CovePart) (d : Nat) : Nat :=
  let i := min 15 (d * p.reg 6 Cove.NR_CFG_RSCALE / 65536)
  if i = 0 then 256 else if i < 4 then byteOf (p.reg 6 Cove.NR_RW0_RW) (i - 1) else byteOf (p.reg 6 Cove.NR_RW_RW (i / 4 - 1)) (i % 4)

/-- Stage 6 (R254). -/
def View.filtered (v : View) (y x : Nat) : Nat :=
  let c := v.y y x
  let strength := v.p.reg 6 Cove.NR_CFG_STRENGTH
  if v.p.reg 6 Cove.NR_CFG_EN = 0 then c
  else
    let idx : List Int := [-2, -1, 0, 1, 2]
    let (num, den) := (idx.flatMap fun i => idx.map fun j => (i, j)).foldl (fun (a : Nat × Nat) o =>
      let q := v.at_ y x (2 * o.2) (2 * o.1)
      let s := v.y q.1 q.2
      let w := v.p.spatial o.1 o.2 * v.p.range (dist s c)
      (a.1 + w * s, a.2 + w)) (0, 0)
    rhu (strength * rhu num den + (256 - strength) * c) 256

/-- The gain of a channel (R255). -/
def CovePart.wb (p : CovePart) (c : Nat) : Nat :=
  p.reg 7 (if c = 0 then Cove.WB_01_WB0 else if c = 1 then Cove.WB_01_WB1 else if c = 2 then Cove.WB_23_WB2 else Cove.WB_23_WB3)

/-- Stage 7: the mosaic tap M (R255). -/
def View.m (v : View) (y x : Nat) : Nat := min (rhu (v.filtered y x * v.p.wb (v.p.cfa y x)) 4096) 0xFFFF

/-! ## Demosaic and colour (R259 to R261) -/

/-- M at an offset. -/
def View.mo (v : View) (y x : Nat) (dy dx : Int) : Nat := let q := v.at_ y x dy dx; v.m q.1 q.2

/-- Green at a red or blue site (R259). -/
def View.greenAt (v : View) (y x : Nat) : Nat :=
  let p : Int := v.m y x
  let side := fun (f : Int → Nat) =>
    let a : Int := f (-1)
    let b : Int := f 1
    let c : Int := f (-2)
    let d : Int := f 2
    ((a - b).natAbs + (2 * p - c - d).natAbs, 2 * (a + b) + 2 * p - c - d)
  let (gh, nh) := side fun d => v.mo y x 0 d
  let (gv, nv) := side fun d => v.mo y x d 0
  if gh < gv then sat16 (roundHalfUp nh 4) else if gv < gh then sat16 (roundHalfUp nv 4) else sat16 (roundHalfUp (nh + nv) 8)

/-- Stage 9, demosaic: red, green, blue (R259). -/
def View.demosaic (v : View) (y x : Nat) : List Nat :=
  let s := v.m y x
  let red := v.p.reg 9 Cove.DM_CFG_RED
  let c := v.p.cfa y x
  let row := rhu (v.mo y x 0 (-1) + v.mo y x 0 1) 2
  let col := rhu (v.mo y x (-1) 0 + v.mo y x 1 0) 2
  if v.p.reg 9 Cove.DM_CFG_EN = 0 then [s, s, s]
  else if c = red ∨ c = red ^^^ 3 then
    let other := rhu (v.mo y x (-1) (-1) + v.mo y x (-1) 1 + v.mo y x 1 (-1) + v.mo y x 1 1) 4
    if c = red then [s, v.greenAt y x, other] else [other, v.greenAt y x, s]
  else if c ^^^ 1 = red then [row, s, col] else [col, s, row]

/-- Coefficient k of the colour matrix, s4.12: the identity's diagonal after reset (R260, R280). -/
def CovePart.cm (p : CovePart) (k : Nat) : Int :=
  if k = 8 then toSigned 16 (p.reg 9 Cove.CM_4_CM) else signedHalf (p.reg 9 Cove.CM_CM (k / 2)) (k % 2)

/-- The offset of a row of the colour matrix (R260). -/
def CovePart.cmOff (p : CovePart) (i : Nat) : Int :=
  if i = 2 then toSigned 16 (p.reg 9 Cove.CM_OFF1_OFF) else signedHalf (p.reg 9 Cove.CM_OFF0_OFF) i

/-- A row of a matrix applied to three components. -/
def matRow (coef : Nat → Int) (l : List Nat) : Int := (List.range 3).foldl (fun a j => a + coef j * l.getD j 0) 0

/-- RGB (R260). -/
def View.rgb (v : View) (y x : Nat) : List Nat :=
  let l := v.demosaic y x
  (List.range 3).map fun i => sat16 (roundHalfUp (matRow (fun j => v.p.cm (3 * i + j)) l) 4096 + v.p.cmOff i)

/-- RGB′ (R261). -/
def View.rgbPrime (v : View) (y x : Nat) : List Nat :=
  match (if v.p.reg 10 Cove.CS_CFG_LUT_EN = 1 then v.p.whole .lut else none) with
  | none => v.rgb y x
  | some b => (v.rgb y x).map fun c => curveAt b (c / 1024) (c % 1024) 1024

/-- A coefficient of the colour space, s2.14, and an offset, u16 (R261, R281). -/
def CovePart.cs (p : CovePart) (k : Nat) : Int := signedHalf (p.reg 10 Cove.CS_CS (k / 2)) (k % 2)
def CovePart.csOff (p : CovePart) (i : Nat) : Int :=
  if i = 2 then p.reg 10 Cove.CS_OFF1_OFF else halfOf (p.reg 10 Cove.CS_OFF0_OFF) i

/-- YCbCr (R261). -/
def View.ycc (v : View) (y x : Nat) : List Nat :=
  let l := v.rgbPrime y x
  (List.range 3).map fun i => sat16 (roundHalfUp (matRow (fun j => v.p.cs (3 * i + j)) l) 16384 + v.p.csOff i)

/-! ## Windows and the scaler (R262 to R267) -/

/-- A window's settings (R282): format, origin, size, output size. -/
structure Win where
  en : Bool
  tbl : Bool
  format : Nat
  x0 : Nat
  y0 : Nat
  w : Nat
  h : Nat
  ow : Nat
  oh : Nat

/-- Window k of a part. -/
def CovePart.win (p : CovePart) (k : Nat) : Win :=
  let r := fun f => p.reg (11 + k) f
  { en := r Cove.WIN_CFG_EN == 1, tbl := r Cove.WIN_CFG_TBL == 1, format := r Cove.WIN_CFG_FORMAT, x0 := r Cove.WIN_ORG_X0,
    y0 := r Cove.WIN_ORG_Y0, w := r Cove.WIN_SIZE_W, h := r Cove.WIN_SIZE_H, ow := r Cove.WIN_OUT_OUT_W, oh := r Cove.WIN_OUT_OUT_H }

/-- G of a format, and its kinds (R268). -/
def groupOf (fmt : Nat) : Nat := match fmt with
  | 0 => 1 | 1 => 2 | 2 => 4 | 3 => 2 | 4 => 4 | 5 => 2 | 6 => 4 | _ => 1
def isRaw (fmt : Nat) : Bool := decide (fmt < 3)
def is420 (fmt : Nat) : Bool := fmt == 3 || fmt == 4
def is422 (fmt : Nat) : Bool := fmt == 5 || fmt == 6

/-- The rules of R263. -/
def Win.ok (w : Win) (f : HalfFrame) : Bool :=
  w.en && decide (1 ≤ w.w) && decide (1 ≤ w.h) && decide (w.x0 + w.w ≤ f.width) && decide (w.y0 + w.h ≤ f.lines) &&
    decide (w.ow ≤ w.w) && decide (w.w ≤ 16 * w.ow) && decide (w.oh ≤ w.h) && decide (w.h ≤ 16 * w.oh) &&
    w.ow % groupOf w.format == 0 && (!is420 w.format || w.oh % 2 == 0) &&
    (!isRaw w.format || (w.ow == w.w && w.oh == w.h && w.x0 % 2 == 0 && w.y0 % 2 == 0 && w.w % 2 == 0 && w.h % 2 == 0)) &&
    (!(f.split && decide (w.x0 < f.width / 2) && decide (f.width / 2 < w.x0 + w.w)) || decide (w.w ≤ 6 * w.ow))

/-- Where an output index lies on the source (R264): n and φ. -/
def placeOf (org size out i : Nat) : Nat × Nat :=
  let step := size * 65536 / out
  let p := org * 65536 + (step - 65536) / 2 + i * step
  let phi := (p % 65536 + 2048) / 4096
  if phi = 16 then (p / 65536 + 1, 0) else (p / 65536, phi)

/-- Coefficients of the scaler, HC and VC of a phase (R265): from a valid table, else the built-in set. -/
def coefValid (b : List Byte) : Bool :=
  let w := fun i => fieldLE b (2 * i) 2
  let sum := fun o n => (List.range n).foldl (fun a t => a + toSigned 16 (w (o + t))) (0 : Int)
  (List.range 224).all (fun i => bitsOf (w i) 15 11 == 0 || bitsOf (w i) 15 11 == 31) &&
    (List.range 16).all (fun p => sum (8 * p) 8 == 1024 && sum (128 + 6 * p) 6 == 1024)
def CovePart.coefs (p : CovePart) (k : Nat) : Option (List Byte) :=
  if (p.win k).tbl then (p.whole (.coef k)).bind fun b => if coefValid b then some b else none else none
def hcOf (t : Option (List Byte)) (phi i : Nat) : Int := match t with
  | some b => toSigned 16 (fieldLE b (2 * (8 * phi + i)) 2)
  | none => if i = 3 then 1024 - 64 * phi else if i = 4 then 64 * phi else 0
def vcOf (t : Option (List Byte)) (phi i : Nat) : Int := match t with
  | some b => toSigned 16 (fieldLE b (256 + 2 * (6 * phi + i)) 2)
  | none => if i = 2 then 1024 - 64 * phi else if i = 3 then 64 * phi else 0

/-- The components a format takes of a pixel (R268). -/
def View.comps (v : View) (fmt y x : Nat) : List Nat :=
  if isRaw fmt then [v.m y x] else if fmt = 7 then v.rgbPrime y x else v.ycc y x

/-- The components of output pixel (i, j) of window k (R265). -/
def View.scaled (v : View) (k j i : Nat) : List Nat :=
  let w := v.p.win k
  let t := v.p.coefs k
  let (nx, px) := placeOf w.x0 w.w w.ow i
  let (ny, py) := placeOf w.y0 w.h w.oh j
  let taps := ((List.range 8).flatMap fun a => (List.range 6).map fun b => (a, b)).map fun (a, b) =>
    (hcOf t px a * vcOf t py b, v.comps w.format (reflect v.rows ((ny : Int) - 2 + b)) (reflect v.f.width ((nx : Int) - 3 + a)))
  (List.range (if isRaw w.format then 1 else 3)).map fun c =>
    sat16 (roundHalfUp (taps.foldl (fun s e => s + e.1 * e.2.getD c 0) 0) (2 ^ 20))

/-- The first output column of the odd part (R266). -/
def Win.boundary (w : Win) (f : HalfFrame) : Nat :=
  let b := ((List.range w.ow).find? (fun i => decide (f.width / 2 ≤ (placeOf w.x0 w.w w.ow i).1))).getD w.ow
  groupOf w.format * (b / groupOf w.format)

/-- The output columns that a part produces: the first, and one past the last (R266). -/
def CovePart.columns (f : HalfFrame) (p : CovePart) (k : Nat) : Nat × Nat :=
  let w := p.win k
  if !f.split then (0, w.ow) else if p.cove % 2 = 0 then (0, w.boundary f) else (w.boundary f, w.ow)

/-- The rows of window k that a part has produced when `done` rows have been processed: those whose reach of 11 rows lies in them, or,
once the part has ended, those with n_j below its rows (R253, R267, R270). -/
def CovePart.linesOut (f : HalfFrame) (p : CovePart) (k done : Nat) : Nat :=
  let w := p.win k
  let ready := fun j =>
    let n := (placeOf w.y0 w.h w.oh j).1
    match p.limit with
    | some l => decide (n < l) && (decide (l ≤ done) || decide (min (n + 11) (f.lines - 1) < done))
    | none => decide (min (n + 11) (f.lines - 1) < done)
  if !hasBit p.windows k then 0 else ((List.range w.oh).takeWhile ready).length

/-! ## The packer (R268, R269) -/

/-- The reduction of a format (R268). -/
def reduceTo (fmt v : Nat) : Nat := match fmt with
  | 0 => v
  | 1 => min 4095 ((v + 8) / 16)
  | 2 | 4 | 6 => min 1023 ((v + 32) / 64)
  | _ => min 255 ((v + 128) / 256)

/-- Packed RAW10 or RAW12, in the byte layouts of CSI-2 (PRESUMED from MIPI CSI-2): four samples in five bytes, two in three. -/
def pack10 : List Nat → List Byte
  | a :: b :: c :: d :: r => [a / 4, b / 4, c / 4, d / 4, a % 4 + b % 4 * 4 + c % 4 * 16 + d % 4 * 64].map (BitVec.ofNat 8) ++ pack10 r
  | _ => []
def pack12 : List Nat → List Byte
  | a :: b :: r => [a / 16, b / 16, a % 16 + b % 16 * 16].map (BitVec.ofNat 8) ++ pack12 r
  | _ => []

/-- A YUV sample in memory: a byte, or a 10-bit sample in bits [15:6] of two (R269). -/
def yuvSample (fmt v : Nat) : List Byte := if fmt = 4 ∨ fmt = 6 then toBytesLE 2 (reduceTo fmt v * 64) else [BitVec.ofNat 8 (reduceTo fmt v)]

/-- Cb or Cr of a column pair, of one row or of two (R268). -/
def chroma (c : Nat) (a b : List Nat) (below : Option (List Nat × List Nat)) : Nat := match below with
  | none => rhu (a.getD c 0 + b.getD c 0) 2
  | some (p, q) => (a.getD c 0 + b.getD c 0 + p.getD c 0 + q.getD c 0 + 2) / 4

/-- Pairs of neighbours of a list. -/
def pairsOf {α : Type} : List α → List (α × α)
  | a :: b :: r => (a, b) :: pairsOf r
  | _ => []

/-- Cb, Y, Cr, Y of the pairs of a row; with the row above, the chroma of both (R268). -/
def cbycry (row : List (List Nat)) (above : Option (List (List Nat))) : List Nat :=
  let other := (above.map (fun (r : List (List Nat)) => (pairsOf r).map some)).getD ((pairsOf row).map fun _ => none)
  ((pairsOf row).zip other).flatMap fun ((a, b), o) => [chroma 1 a b o, a.getD 0 0, chroma 2 a b o, b.getD 0 0]

/-- The bytes of a line segment in memory (R269): its components, in column order. -/
def packMemory (fmt : Nat) (row : List (List Nat)) : List Byte :=
  let first := row.map (fun p => p.getD 0 0)
  if fmt = 0 then first.flatMap (toBytesLE 2)
  else if fmt = 1 then pack12 (first.map (reduceTo 1))
  else if fmt = 2 then pack10 (first.map (reduceTo 2))
  else if is420 fmt then first.flatMap (yuvSample fmt)
  else if is422 fmt then (cbycry row none).flatMap (yuvSample fmt)
  else row.flatMap fun p => p.map fun c => BitVec.ofNat 8 (reduceTo 7 c)

/-- The bytes of a chroma line of 4:2:0 in memory: Cb first (R269). -/
def packChroma (fmt : Nat) (row below : List (List Nat)) : List Byte :=
  ((pairsOf row).zip (pairsOf below)).flatMap fun ((a, b), o) => yuvSample fmt (chroma 1 a b (some o)) ++ yuvSample fmt (chroma 2 a b (some o))

/-- The bytes of a line segment on a CSI-2 transmit port, in the layout of its data type (R269; PRESUMED from MIPI CSI-2): 4:2:0 carries
chroma on every second line, RGB888 blue first. `above` is the line above. -/
def packCsi (fmt j : Nat) (row above : List (List Nat)) : List Byte :=
  let lumas := row.map (fun p => p.getD 0 0)
  let put := fun (l : List Nat) => if fmt = 4 ∨ fmt = 6 then pack10 (l.map (reduceTo fmt)) else l.map fun c => BitVec.ofNat 8 (reduceTo fmt c)
  if is420 fmt then put (if j % 2 = 0 then lumas else cbycry row (some above))
  else if is422 fmt then put (cbycry row none)
  else if fmt = 7 then row.flatMap fun p => p.reverse.map fun c => BitVec.ofNat 8 (reduceTo 7 c)
  else packMemory fmt row

/-- Four times the bytes of a column of a line in memory (R269); of a chroma line of 4:2:0 alike. -/
def quarterBytes (fmt : Nat) : Nat := match fmt with
  | 0 => 8 | 1 => 6 | 2 => 5 | 3 => 4 | 4 => 8 | 5 => 8 | 6 => 16 | _ => 12

/-- Bytes of n columns of a line in memory. -/
def lineBytes (fmt n : Nat) : Nat := n * quarterBytes fmt / 4

/-- Bytes of n columns of line j on a CSI-2 transmit port. -/
def csiLineBytes (fmt j n : Nat) : Nat := match fmt with
  | 3 => if j % 2 = 0 then n else 2 * n
  | 4 => if j % 2 = 0 then n * 5 / 4 else n * 5 / 2
  | 6 => n * 5 / 2
  | _ => lineBytes fmt n

/-! ## Samples of a packet (R171) -/

/-- The codes of a packed line (R19; the layouts of CSI-2, PRESUMED): RAW10, RAW12, RAW16. -/
def unpack10 : List Byte → List Nat
  | a :: b :: c :: d :: l :: r =>
    [a.toNat * 4 + l.toNat % 4, b.toNat * 4 + l.toNat / 4 % 4, c.toNat * 4 + l.toNat / 16 % 4, d.toNat * 4 + l.toNat / 64] ++ unpack10 r
  | _ => []
def unpack12 : List Byte → List Nat
  | a :: b :: l :: r => [a.toNat * 16 + l.toNat % 16, b.toNat * 16 + l.toNat / 16] ++ unpack12 r
  | _ => []
def unpack16 : List Byte → List Nat
  | a :: b :: r => (a.toNat + 256 * b.toNat) :: unpack16 r
  | _ => []
def unpackLine (packing : Nat) (b : List Byte) : List Nat := match packing with
  | 0 => unpack10 b
  | 1 => unpack12 b
  | _ => unpack16 b

/-- Bytes of n pixels in a packing (R19). -/
def packedBytes (packing n : Nat) : Nat := n * (match packing with | 0 => 5 | 1 => 6 | _ => 8) / 4

/-! ## Statistics and the optical black (R228, R256 to R258) -/

/-- Does a part own a column (R182)? -/
def CovePart.owns (f : HalfFrame) (p : CovePart) (x : Nat) : Bool :=
  !f.split || (decide (x < f.width / 2) == (p.cove % 2 == 0))

/-- The columns a part receives: the first, and how many (R182). -/
def CovePart.received (f : HalfFrame) (p : CovePart) : Nat × Nat :=
  if !f.split then (0, f.width) else (if p.cove % 2 = 0 then 0 else f.width / 2 - 32, f.width / 2 + 32)

/-- The samples of a region, with their channel: columns x0 to x0 + w − 1 and rows y0 to y0 + h − 1 of the frame, in the parts given, of
rows that are not in error. -/
def regionSamples (vs : List View) (sample : View → Nat → Nat → Nat) (x0 y0 w h : Nat) : List (Nat × Nat) :=
  vs.flatMap fun v =>
    let rows := ((List.range (min (y0 + h) v.rows - y0)).map (y0 + ·)).filter (fun y => !v.f.errs.any (fun k => k / 4 == y))
    let cols := ((List.range (min (x0 + w) v.f.width - x0)).map (x0 + ·)).filter (v.p.owns v.f)
    rows.flatMap fun y => cols.map fun x => (v.p.cfa y x, sample v y x)

/-- A mean, rounded half even, 0 of nothing (R257). -/
def meanOf (l : List Nat) : Nat := if l.isEmpty then 0 else (roundHalfEven (l.foldl (· + ·) 0 : Nat) l.length).toNat

/-- The four channel means of samples, two bytes each. -/
def meanBytes (l : List (Nat × Nat)) : List Byte :=
  [0, 1, 2, 3].flatMap fun c => toBytesLE 2 (min 0xFFFF (meanOf ((l.filter (fun s => s.1 == c)).map (·.2))))

/-- A count in a field of n bytes, saturating (R257). -/
def countBytes (n c : Nat) : List Byte := toBytesLE n (min c (256 ^ n - 1))

/-- The statistics block of a frame (R258): `vs` are the parts measured, the writing one first. -/
def statBlock (f : HalfFrame) (vs : List View) (trunc : Bool) : List Byte := match vs with
  | [] => []
  | v0 :: _ =>
    let r := fun (g : Field) (j : Nat) => v0.p.reg 8 g j
    let sample := fun (v : View) y x => if r Cove.STAT_CFG_TAP 0 = 0 then v.m y x else v.y y x
    let clip := fun (l : List (Nat × Nat)) => (l.filter (fun s => decide (r Cove.STAT_LEVELS_CLIP_LEVEL 0 ≤ s.2))).length
    let dark := fun (l : List (Nat × Nat)) => (l.filter (fun s => decide (s.2 ≤ r Cove.STAT_LEVELS_DARK_LEVEL 0))).length
    let hist := regionSamples vs sample (r Cove.HIST_ORG_X0 0) (r Cove.HIST_ORG_Y0 0) (r Cove.HIST_SIZE_W 0) (r Cove.HIST_SIZE_H 0)
    let zw := r Cove.ZONE_SIZE_ZW 0
    let zh := r Cove.ZONE_SIZE_ZH 0
    let zone := fun i =>
      let l := regionSamples vs sample (r Cove.ZONE_ORG_X0 0 + i % 32 * zw) (r Cove.ZONE_ORG_Y0 0 + i / 32 * zh) zw zh
      meanBytes l ++ countBytes 2 (clip l) ++ countBytes 2 (dark l) ++ countBytes 4 l.length
    let roi := fun k =>
      let l := regionSamples vs sample (r Cove.ROI_ORG_X0 k) (r Cove.ROI_ORG_Y0 k) (r Cove.ROI_SIZE_W k) (r Cove.ROI_SIZE_H k)
      meanBytes l ++ countBytes 4 l.length ++ countBytes 4 (clip l) ++ countBytes 4 (dark l) ++ List.replicate 12 0
    let rows := vs.foldl (fun m v => max m v.rows) 0
    [BitVec.ofNat 8 f.stream, BitVec.ofNat 8 (7 + 8 * bit trunc)] ++ toBytesLE 2 rows ++ toBytesLE 4 f.seq ++ toBytesLE 4 f.tide ++
      List.replicate 52 0 ++
      ((List.range 1024).flatMap fun i => countBytes 4 ((hist.filter (fun s => s.1 == i / 256 && s.2 / 256 == i % 256)).length)) ++
      ((List.range 768).flatMap zone) ++ ((List.range 4).flatMap roi)

/-- The black-level measurement of a frame: for each exposure and channel the mean, and all samples counted (R228). -/
def obMeasure (f : HalfFrame) (vs : List View) : List (Option Nat) × Nat := match vs with
  | [] => ([], 0)
  | v0 :: _ =>
    let r := fun (g : Field) => v0.p.reg 2 g
    let x0 := r Cove.OB_COLS_FIRST
    let x1 := min (r Cove.OB_COLS_LAST) (f.width - 1)
    let y0 := r Cove.OB_ROWS_FIRST
    let y1 := min (r Cove.OB_ROWS_LAST) (f.lines - 1)
    let rows := (List.range (y1 + 1 - y0)).map (y0 + ·)
    let cols := (List.range (x1 + 1 - x0)).map (x0 + ·)
    let all := (List.range f.exposures).map fun e =>
      vs.flatMap fun v => (rows.filter (fun y => !f.errs.contains (4 * y + e))).flatMap fun y =>
        (cols.filter (fun x => v.p.owns f x && !isListed v.map e y x)).map fun x => (v.p.cfa y x, v.p.l0 e y x)
    let mean := fun (l : List (Nat × Nat)) c =>
      let m := (l.filter (fun s => s.1 == c)).map (·.2)
      if m.isEmpty then none else some (min 0xFFFF (meanOf m))
    ((all.flatMap fun l => [0, 1, 2, 3].map (mean l)), (all.map (·.length)).sum)

end Sys2Proof.Machine
end

