-- ==== Sys2Proof/Machine/Cove.lean ====
section
/-!
DEFINITION. Sys2Proof/Machine/Cove.lean: a Cove at work (R217 to R221, R228 to R235, R256 to R258, R262, R263, R266 to R283): the
start of a part, its tables, its units of work, what it counts, its output lines, its statistics block and its frame records.
-/
namespace Sys2Proof.Machine

/-! ## Coves, contexts, frames and parts -/

/-- Cove n. -/
def State.cove (s : State) (n : Nat) : CoveSt := SMap.get (fun _ => {}) s.coves n

/-- Store Cove n. -/
def State.putCove (s : State) (n : Nat) (x : CoveSt) : State := { s with coves := SMap.set (fun _ => {}) s.coves n x }

/-- A context of a Cove. -/
def State.coveCtx (s : State) (n c : Nat) : CoveCtx := SMap.get (fun _ => {}) (s.cove n).ctxs c

/-- Store a context of a Cove. -/
def State.putCoveCtx (s : State) (n c : Nat) (x : CoveCtx) : State :=
  s.putCove n { s.cove n with ctxs := SMap.set (fun _ => {}) (s.cove n).ctxs c x }

/-- Is this the frame of a stream in a half? -/
def HalfFrame.is (f : HalfFrame) (h stream seq : Nat) : Bool := f.half == h && f.stream == stream && f.seq == seq

/-- The frame of a stream in a half. -/
def State.frame (s : State) (h stream seq : Nat) : Option HalfFrame := s.frames.find? (fun f => f.is h stream seq)

/-- Change a frame. -/
def State.modFrame (s : State) (h stream seq : Nat) (g : HalfFrame → HalfFrame) : State :=
  { s with frames := s.frames.map fun f => if f.is h stream seq then g f else f }

/-- The part of a frame in Cove n. -/
def HalfFrame.part (f : HalfFrame) (n : Nat) : Option CovePart := f.parts.find? (fun p => p.cove == n)

/-- A frame and its part in Cove n. -/
def State.partOf (s : State) (n stream seq : Nat) : Option (HalfFrame × CovePart) :=
  (s.frame (n / 8) stream seq).bind fun f => (f.part n).map fun p => (f, p)

/-- Change the part of a frame in Cove n. -/
def State.modPart (s : State) (n stream seq : Nat) (g : CovePart → CovePart) : State :=
  s.modFrame (n / 8) stream seq fun f => { f with parts := f.parts.map fun p => if p.cove = n then g p else p }

/-- A part that was not started (R190). -/
def CovePart.lost (p : CovePart) : Bool := p.status == some 3

/-- A part cut or not started: it writes no statistics and issues no record where the other part can (R258, R270). -/
def CovePart.gone (p : CovePart) : Bool := p.status == some 2 || p.lost

/-- The part whose Cove and engine stand for the frame: the even one, or the odd one where that was cut or lost (R258, R270). -/
def HalfFrame.lead (f : HalfFrame) : Option CovePart := match f.parts with
  | [] => none
  | [p] => some p
  | p :: q :: _ => if p.gone then some q else some p

/-- The part whose register values describe the outputs. -/
def HalfFrame.shape (f : HalfFrame) : Option CovePart := (f.parts.find? (fun p => !p.lost)).orElse fun _ => f.parts.head?

/-- Has a part all of row y of every exposure? -/
def CovePart.rowIn (f : HalfFrame) (p : CovePart) (y : Nat) : Bool :=
  (List.range f.exposures).all fun e =>
    decide ((p.received f).2 ≤ ((p.runs.filter (fun r => r.row == y && r.e == e)).map (·.codes.length)).sum)

/-- The rows that a part has processed without a gap. -/
def CovePart.done (f : HalfFrame) (p : CovePart) : Nat := ((List.range f.lines).takeWhile (p.rowIn f)).length

/-- Has a part ended and all of it been processed? -/
def CovePart.finished (f : HalfFrame) (p : CovePart) : Bool := match p.limit with
  | none => false
  | some l => decide (l ≤ p.done f)

/-- The rows that stand for a part's height (R267). -/
def CovePart.height (f : HalfFrame) (p : CovePart) : Nat := p.limit.getD f.lines

/-- The view of a part as it now is. -/
def CovePart.view (f : HalfFrame) (p : CovePart) : View := viewOf f p (p.height f)

/-! ## Conditions (R250, R283) -/

/-- The page and bit of each condition a frame may leave in its context, as event and as fault. -/
def coveConditions : List (Nat × Nat) :=
  [(1, 0), (1, 1), (2, 1), (3, 0), (3, 1), (3, 2), (4, 0), (5, 0), (0, 0), (0, 1), (8, 1), (10, 0), (11, 0), (12, 0), (13, 0), (14, 0)]

/-- The conditions of Cove n follow its contexts and the frames that run in it. -/
def State.judgeCove (s : State) (n : Nat) : State :=
  let kept := (List.range 8).map fun c => (s.coveCtx n c).flags
  let now := (s.frames.filter (fun f => f.half == n / 8)).flatMap fun f => (f.parts.filter (fun p => p.cove == n)).map (·.flags)
  let all := (kept ++ now).foldl (· ||| ·) 0
  (List.range 16).foldl (fun s i =>
    let (pg, b) := coveConditions.getD i (0, 0)
    s.cond (covePage n pg) b (hasBit all i)) s

/-- A part meets condition i; `stage` where its record carries STAGE_FAULT for it. Of the last frame that its context has judged, the condition shows
there too (R250, R283). -/
def State.flagPart (s : State) (n stream seq i : Nat) (stage : Bool) : State :=
  let (pg, b) := coveConditions.getD i (0, 0)
  let fresh := !(s.partOf n stream seq).any fun e => hasBit e.2.flags i
  let was := s.condBit (covePage n pg) b
  let s := s.modPart n stream seq fun p => { p with flags := setBit p.flags i, stage := p.stage || stage }
  let s := match (List.range 8).find? (fun c => (s.coveCtx n c).last == some (stream, seq)) with
    | some c => s.putCoveCtx n c { s.coveCtx n c with flags := setBit (s.coveCtx n c).flags i }
    | none => s
  ((s.event (covePage n pg) b).judgeCove n).again (covePage n pg) b (was && fresh)

/-! ## Memory operations (R220, R252, R296, R298) -/

/-- The stage page that an operation's job entry shows (R295). -/
def CoveWork.page : CoveWork → Nat
  | .table (.pwl _) => 1
  | .table .map => 3
  | .table .mesh => 4
  | .table .tone => 5
  | .table .lut => 10
  | .table (.coef k) => 11 + k
  | .stat => 8
  | .learn => 3

/-- The condition of a failed read of a table. -/
def CoveTable.condition : CoveTable → Nat
  | .pwl _ => 1
  | .map => 4
  | .mesh => 6
  | .tone => 7
  | .lut => 11
  | .coef k => 12 + k

/-- Does a learn write of a context wait for the one before it, so that LRN_WR counts what has been written (R234)? -/
def CoveSt.learnHeld (x : CoveSt) (o : CoveOp) : Bool :=
  o.work == .learn && x.ops.any fun q => q.work == .learn && q.context == o.context && q.entry.isSome

/-- Give an operation a bulk entry and its request; one that finds none waits, and is counted once (R298): table reads come first. -/
def State.issueOp (s : State) (n : Nat) (o : CoveOp) : State :=
  let h := n / 8
  let x := s.cove n
  let cls := ((s.frame h o.stream o.seq).map (·.cls)).getD 0
  let job : JobEntry := { kind := 1, cls, cove := n, context := o.context, stream := o.stream, col0 := o.work.page,
                          seq := o.seq % 65536, size := o.size }
  let upd := fun (s : State) (o : CoveOp) => s.putCove n { s.cove n with ops := (s.cove n).ops.map fun q => if q.tag = o.tag then o else q }
  if x.learnHeld o then s
  else match (if !o.isTable && s.coveWaits h true then none else s.allocBulk h job) with
    | none => if o.waited then s else (upd s { o with waited := true }).countBulkWait h
    | some (e, s) =>
      let entry := some (e, (s.job e).gen)
      let ba := if o.work = .learn then o.ba + 8 * (s.get (covePage n 3) (Cove.LRN_WR_COUNT.nth o.context) % 2 ^ o.off) else o.ba
      let s := (upd s { o with entry, ba }).ask h { requester := 1, source := o.stream, cls, entry, ba, size := o.size, write := o.write, tag := o.tag }
      s.judgeStarved h

/-- New operations of Cove n. -/
def State.addOps (s : State) (n : Nat) (l : List CoveOp) : State :=
  l.foldl (fun s o =>
    let x := s.cove n
    let o := { o with tag := n * 2 ^ 20 + x.nextTag % 2 ^ 20 }
    (s.putCove n { x with ops := x.ops ++ [o], nextTag := x.nextTag + 1 }).issueOp n o) s

/-- Operations that wait for an entry try again: table reads first (R298). -/
def State.retryOps (s : State) (n : Nat) : State :=
  let waiting := (s.cove n).ops.filter (fun o => o.entry.isNone)
  (waiting.filter (·.isTable) ++ waiting.filter (fun o => !o.isTable)).foldl (fun s o => s.issueOp n o) s

/-- Operations of Cove n end without effect (R302). -/
def State.dropOps (s : State) (n : Nat) (p : CoveOp → Bool) : State :=
  let x := s.cove n
  ((x.ops.filter p).foldl (fun s o => s.freeHeld o.entry) (s.putCove n { x with ops := x.ops.filter (fun o => !p o) })).judgeStarved (n / 8)

/-! ## The start of a part (R219 to R221, R229, R263) -/

/-- A buffer address of a part: BASE fields of two registers (R220). -/
def CovePart.ptr (p : CovePart) (pg : Nat) (lo hi : Field) : Nat := p.reg pg hi * 2 ^ 32 + p.reg pg lo * 64

/-- The offset of BL_OFF of exposure e and channel c, at place 4e + c. -/
def CovePart.blOff (p : CovePart) (i : Nat) : Nat := halfOf (p.reg 2 Cove.BL_OFF_OFF (i / 2)) (i % 2)

/-- BL_EFF of one pair at a frame start (R229): its value; a clamped step; a tracked result at the end of the range; the same kept. -/
def trackOne (p : CovePart) (x : CoveCtx) (old i : Nat) : Nat × Bool × Bool × Bool :=
  let off := p.blOff i
  let mean := match x.measured, x.lastSeq with
    | some (q, l), some last => if q = last then l.getD i none else none
    | _, _ => none
  let changed := match x.blOff with
    | none => true
    | some l => l.getD i 0 != off
  if changed || p.reg 2 Cove.BL_CFG_TRACK = 0 then (off, false, false, false)
  else match mean with
    | none => (old, false, false, hasBit x.flags 2 && (old == 0 || old == 65535))
    | some m =>
      let d : Int := (m : Int) - p.reg 2 Cove.BL_TARGET_TARGET - old
      let step : Int := p.reg 2 Cove.BL_CFG_BL_STEP
      let t := max (-step) (min d step)
      let v := sat16 (old + t)
      (v, t != d, v == 0 || v == 65535, false)

/-- Black-level tracking at the frame start of a part (R229). -/
def State.trackBlack (s : State) (n : Nat) (f : HalfFrame) (p : CovePart) : State :=
  let c := p.context
  let pg := covePage n 2
  let x := s.coveCtx n c
  let r := (List.range 16).map fun i => trackOne p x (halfOf (s.get pg (Cove.BL_EFF_EFF.nth c (i / 2))) (i % 2)) i
  let v := fun i => (r.getD i (0, false, false, false)).1
  let edge := r.any (·.2.2.1)
  let kept := r.any (·.2.2.2)
  let s := (List.range 8).foldl (fun s k => s.put pg (Cove.BL_EFF_EFF.nth c k) (v (2 * k) + 65536 * v (2 * k + 1))) s
  let s := (s.eventIf (r.any (·.2.1)) pg 0).eventIf edge pg 1
  let s := s.putCoveCtx n c { x with blOff := some ((List.range 16).map p.blOff), lastSeq := some f.seq
                                     flags := if edge || kept then setBit x.flags 2 else clearBit x.flags 2 }
  s.modPart n f.stream f.seq fun q => { q with blEff := r.map (·.1) }

/-- The tables that a part reads, with their addresses and sizes (R220, R252). -/
def CovePart.tableList (f : HalfFrame) (p : CovePart) : List (CoveTable × Nat × Nat) :=
  let pwl := p.ptr 1 Cove.PWL_BASE_LO_BASE Cove.PWL_BASE_HI_BASE
  let count := p.reg 3 Cove.DEF_COUNT_COUNT
  let on := fun (b : Bool) (l : List (CoveTable × Nat × Nat)) => if b then l else []
  on (p.reg 1 Cove.PWL_CFG_EN == 1)
    ((List.range (if p.reg 1 Cove.PWL_CFG_SHARED = 1 then 1 else f.exposures)).map fun e => (.pwl e, pwl + 264 * e, 264)) ++
  on (p.reg 5 Cove.TONE_CFG_EN == 1) [(.tone, p.ptr 5 Cove.TONE_LO_BASE Cove.TONE_HI_BASE, 514)] ++
  on (p.reg 10 Cove.CS_CFG_LUT_EN == 1) [(.lut, p.ptr 10 Cove.LUT_LO_BASE Cove.LUT_HI_BASE, 130)] ++
  ((f.outs.filter (fun o => hasBit p.windows o.k && (p.win o.k).tbl)).map fun o =>
    (.coef o.k, p.ptr (11 + o.k) Cove.SC_LO_BASE Cove.SC_HI_BASE, 448)) ++
  on (p.reg 4 Cove.SH_CFG_EN == 1) [(.mesh, p.ptr 4 Cove.SH_BASE_LO_BASE Cove.SH_BASE_HI_BASE, 25480)] ++
  on (p.reg 3 Cove.DEF_CFG_STATIC_EN == 1 && count != 0) [(.map, p.ptr 3 Cove.DEF_MAP_LO_BASE Cove.DEF_MAP_HI_BASE, 8 * count)]

/-- A part starts in Cove n (R173, R219): the black level, the windows, the tables. -/
def State.openPart (s : State) (n stream seq : Nat) : State := match s.partOf n stream seq with
  | none => s
  | some (f, p) =>
    let s := s.trackBlack n f p
    let ok := f.outs.filter (fun o => (p.win o.k).ok f)
    let s := s.modPart n stream seq fun q => { q with windows := ok.foldl (fun m o => setBit m o.k) 0 }
    let s := if ok.length < f.outs.length then s.flagPart n stream seq 9 true else s
    match s.partOf n stream seq with
    | none => s
    | some (_, p) =>
      let l := p.tableList f
      let s := s.modPart n stream seq fun q => { q with tables := l.map fun t => { table := t.1, size := t.2.2, left := t.2.2 } }
      let ops := l.flatMap fun (t : CoveTable × Nat × Nat) => (blocksOf t.2.1 t.2.2).map fun (b : Nat × Nat) =>
        ({ tag := 0, stream, seq, context := p.context, work := .table t.1, off := b.1, ba := t.2.1 + b.1, size := b.2 } : CoveOp)
      (s.addOps n ops).judgeCove n

/-! ## What a Cove counts, and its learn ring (R230 to R234, R240) -/

/-- The places of a row that a part owns, with the exposure: in exposure order, then in column order. -/
def CovePart.places (f : HalfFrame) (p : CovePart) (y : Nat) : List (Nat × Nat × Nat) :=
  (List.range f.exposures).flatMap fun e => ((List.range f.width).filter (p.owns f)).map fun x => (y, e, x)

/-- A find goes to the learn ring, or is counted as skipped (R234): row, exposure, column, cold. -/
def State.learnFind (s : State) (n stream seq : Nat) (d : Nat × Nat × Nat × Bool) : State := match s.partOf n stream seq with
  | none => s
  | some (_, p) =>
    let c := p.context
    let pg := covePage n 3
    let skip := s.countSat pg (Cove.LRN_SKIP_COUNT.nth c)
    if p.reg 3 Cove.DEF_CFG_LEARN_EN = 0 || p.learnStop then s
    else if (s.coveCtx n c).learning then skip
    else if p.reg 3 Cove.LRN_CFG_LRN_PER_FRAME ≤ p.learned then skip.event pg 3
    else
      let ba := p.ptr 3 Cove.LRN_LO_BASE Cove.LRN_HI_BASE
      let b := toBytesLE 2 d.1 ++ toBytesLE 2 d.2.2.1 ++ [BitVec.ofNat 8 (d.2.1 + 128 * bit d.2.2.2), 0] ++ toBytesLE 2 seq
      let s := s.modPart n stream seq fun q => { q with learned := q.learned + 1 }
      s.addOps n [{ tag := 0, stream, seq, context := c, work := .learn, off := p.reg 3 Cove.LRN_CFG_SIZE_LOG2, ba, size := 8, write := some b }]

/-- LRN_WR of context c of Cove n counts an entry written (R234, R235). -/
def State.countLearned (s : State) (n c : Nat) : State :=
  let s := s.countWrap (covePage n 3) (Cove.LRN_WR_COUNT.nth c)
  if s.get (covePage n 3) (Cove.LRN_WR_COUNT.nth c) = 0 then s.putCoveCtx n c { s.coveCtx n c with ringFull := true } else s

/-- A learn operation begins on context c of Cove n: finds that have not gone out are skipped (R234, R235). -/
def State.beginLearn (s : State) (n c : Nat) : State :=
  let waits := fun (o : CoveOp) => o.work == .learn && o.context == c && o.entry.isNone
  let s := ((s.cove n).ops.filter waits).foldl (fun s _ => s.countSat (covePage n 3) (Cove.LRN_SKIP_COUNT.nth c)) s
  (s.dropOps n waits).putCoveCtx n c { s.coveCtx n c with learning := true }

/-- Count the rows of a part whose neighbourhood is complete: static replacements, finds, motion (R231, R233, R240). -/
def State.countRows (s : State) (n stream seq : Nat) : State := match s.partOf n stream seq with
  | none => s
  | some (f, p) =>
    let done := p.done f
    let upto := match p.limit with
      | some l => if l ≤ done then l else min (done - 2) l
      | none => done - 2
    let v := p.view f
    let rows := (List.range upto).drop p.judged
    let places := rows.flatMap (p.places f)
    let static := (places.filter (fun (d : Nat × Nat × Nat) => isListed v.map d.2.1 d.1 d.2.2)).length
    let finds := places.filterMap fun (d : Nat × Nat × Nat) => (v.found d.2.1 d.1 d.2.2).map fun cold => (d.1, d.2.1, d.2.2, cold)
    let motion := if p.reg 5 Cove.HDR_CFG_EN = 0 then 0
      else ((rows.map fun y => ((List.range f.width).filter (fun x => p.owns f x && (v.hdr y x).2)).length)).sum
    let s := s.modPart n stream seq fun q =>
      { q with judged := max q.judged upto, statics := q.statics + static, finds := q.finds + finds.length, motion := q.motion + motion }
    finds.foldl (fun s d => s.learnFind n stream seq d) s

/-- The black level of a frame is measured once its last OB row has been processed in every part (R228). -/
def State.measureBlack (s : State) (h stream seq : Nat) : State := match s.frame h stream seq with
  | none => s
  | some f => match f.parts.filter (fun p => !p.lost) with
    | [] => s
    | p0 :: rest =>
      let last := min (p0.reg 2 Cove.OB_ROWS_LAST) (f.lines - 1)
      let some_ := decide (p0.reg 2 Cove.OB_ROWS_FIRST ≤ last) &&
        decide (p0.reg 2 Cove.OB_COLS_FIRST ≤ min (p0.reg 2 Cove.OB_COLS_LAST) (f.width - 1))
      let past := fun (p : CovePart) => decide (last < p.done f) && (p.limit.all fun l => decide (last < l))
      if f.obDone || p0.reg 2 Cove.BL_CFG_MEASURE = 0 || !some_ || !(p0 :: rest).all past then s
      else
        let (means, count) := obMeasure f ((p0 :: rest).map (·.view f))
        let s := s.modFrame h stream seq fun f => { f with obDone := true }
        (p0 :: rest).foldl (fun s p =>
          let pg := covePage p.cove 2
          let word := fun (k : Nat) =>
            let old := s.get pg (Cove.OB_MEAN_MEAN.nth p.context k)
            (means.getD (2 * k) none).getD (halfOf old 0) + 65536 * (means.getD (2 * k + 1) none).getD (halfOf old 1)
          let s := (List.range 8).foldl (fun s k => s.put pg (Cove.OB_MEAN_MEAN.nth p.context k) (word k)) s
          let s := (s.put pg (Cove.OB_STAT_VALID.nth p.context) 1).put pg (Cove.OB_STAT_COUNT.nth p.context) (min count 0xFFFFFF)
          s.putCoveCtx p.cove p.context { s.coveCtx p.cove p.context with measured := some (seq, means) }) s

/-! ## Output lines (R253, R266 to R270) -/

/-- A destination that is a CSI-2 transmit port. -/
def OutFrame.isCsi (o : OutFrame) : Bool := o.dest == 3 || o.dest == 4

/-- The lines of output k that can be handed over: as far as every part that still runs has them; once all have ended, the most that
any has (R267). -/
def HalfFrame.lineTarget (f : HalfFrame) (k : Nat) : Nat :=
  let ps := f.parts.filter fun p => let (a, b) := p.columns f k; decide (a < b)
  let n := fun (p : CovePart) => p.linesOut f k (p.done f)
  match ps.filter (fun p => !p.finished f) with
  | [] => (ps.map n).foldl max 0
  | p :: r => (r.map n).foldl min (n p)

/-- A part's row of output k, by component. -/
def CovePart.outRow (f : HalfFrame) (p : CovePart) (k j : Nat) : List (List Nat) :=
  let (a, b) := p.columns f k
  (List.range (b - a)).map fun i => (p.view f).scaled k j (a + i)

/-- A part's bytes of line j of output k: its own, or zeros where it has ended before (R266). -/
def CovePart.lineBytes (f : HalfFrame) (p : CovePart) (k j : Nat) (csi : Bool) : List Byte :=
  let (a, b) := p.columns f k
  let fmt := (p.win k).format
  if j < p.linesOut f k (p.done f) then
    if csi then packCsi fmt j (p.outRow f k j) (p.outRow f k (j - 1)) else packMemory fmt (p.outRow f k j)
  else List.replicate (if csi then csiLineBytes fmt j (b - a) else Machine.lineBytes fmt (b - a)) 0

/-- A part's bytes of chroma row q of output k in memory: of lines 2q and 2q + 1, or of 2q alone where the part ends there (R267). -/
def CovePart.chromaBytes (f : HalfFrame) (p : CovePart) (k q : Nat) : List Byte :=
  let (a, b) := p.columns f k
  let fmt := (p.win k).format
  let n := p.linesOut f k (p.done f)
  if 2 * q + 1 < n then packChroma fmt (p.outRow f k (2 * q)) (p.outRow f k (2 * q + 1))
  else if 2 * q < n then packChroma fmt (p.outRow f k (2 * q)) (p.outRow f k (2 * q))
  else List.replicate (Machine.lineBytes fmt (b - a)) 0

/-- Payload bytes handed over. -/
def OutFrame.count (o : OutFrame) : Nat := (o.sent.map (fun (u : Nat × List Byte) => u.2.length)).sum

/-- The channel of an output takes a unit. -/
def State.handUnit (s : State) (f : HalfFrame) (o : OutFrame) (u : FrameUnit) : State :=
  s.putCh o.channel { s.ch o.channel with
    inbox := (s.ch o.channel).inbox ++ [{ key := frameKey f.stream f.seq, dest := o.dest, sentinel := f.sentinel != 0xFF, unit := u }] }

/-- Change output k of a frame. -/
def State.modOut (s : State) (h stream seq k : Nat) (g : OutFrame → OutFrame) : State :=
  s.modFrame h stream seq fun f => { f with outs := f.outs.map fun o => if o.k = k then g o else o }

/-- Hand over bytes of output k at an offset, up to BYTES (R51, R270). `whole` counts a line. -/
def State.handBytes (s : State) (h stream seq k off : Nat) (whole : Bool) (b : List Byte) : State :=
  match (s.frame h stream seq).bind fun f => (f.outs.find? (fun o => o.k == k)).map fun o => (f, o) with
  | none => s
  | some (f, o) =>
    let room := o.bytes - o.count
    let cut := decide (room < b.length)
    let b := b.take room
    if o.cut then s
    else
      let index := if o.isCsi then o.lines else o.units
      let dual := f.sentinel != 0xFF && s.actsFor 0 stream && s.actsFor 1 stream
      let s := if b.isEmpty then s else s.handUnit f o (.line index off b)
      let s := s.modOut h stream seq k fun o =>
        { o with units := if b.isEmpty then o.units else o.units + 1, sent := if b.isEmpty then o.sent else o.sent ++ [(off, b)],
                 lines := if whole && !cut then o.lines + 1 else o.lines, cut := cut }
      let s := s.modFrame h stream seq fun f => { f with dual := f.dual || dual }
      if cut then f.parts.foldl (fun s p =>
        (s.countSat (covePage p.cove 15) (Cove.OUT_CUTS_COUNT.nth p.context)).flagPart p.cove stream seq 8 false) s
      else s

/-- Hand over line j of output k: of 4:2:0 in memory, an odd line brings the chroma row of its pair (R269). -/
def State.handLine (s : State) (h stream seq k j : Nat) : State :=
  match (s.frame h stream seq).bind fun f => (f.outs.find? (fun o => o.k == k)).map fun o => (f, o) with
  | none => s
  | some (f, o) => match f.shape with
    | none => s
    | some g =>
      let w := g.win k
      let lb := Machine.lineBytes w.format w.ow
      let off := if o.isCsi then o.count else j * lb
      let s := s.handBytes h stream seq k off true (f.parts.flatMap fun p => p.lineBytes f k j o.isCsi)
      if is420 w.format && !o.isCsi && j % 2 == 1 then
        s.handBytes h stream seq k (w.oh * lb + j / 2 * lb) false (f.parts.flatMap fun p => p.chromaBytes f k (j / 2))
      else s

/-- The first segment of a split output goes to its channel ahead of its line, where only one part has it yet (R328). -/
def State.offerOut (s : State) (f : HalfFrame) (o : OutFrame) : State :=
  let has := fun (p : CovePart) => let (a, b) := p.columns f o.k; !p.lost && decide (a < b) && decide (0 < p.linesOut f o.k (p.done f))
  if o.offered || o.cut || o.units ≠ 0 || f.lineTarget o.k ≠ 0 || !f.parts.any has then s
  else (s.handUnit f o .segment).modOut f.half f.stream f.seq o.k fun o => { o with offered := true }

/-- Hand over every line of a frame that is complete; the chroma row of a last line of even index once all parts have ended. -/
def State.handLines (s : State) (h stream seq : Nat) : State := match s.frame h stream seq with
  | none => s
  | some f => f.outs.foldl (fun s o =>
      let target := f.lineTarget o.k
      let s := s.offerOut f o
      let s := ((List.range target).drop o.lines).foldl (fun s j => s.handLine h stream seq o.k j) s
      match f.shape with
      | none => s
      | some g =>
        let w := g.win o.k
        let lb := Machine.lineBytes w.format w.ow
        let off := w.oh * lb + target / 2 * lb
        if f.parts.all (·.finished f) && is420 w.format && !o.isCsi && target % 2 == 1 && !o.sent.any (fun (u : Nat × List Byte) => u.1 == off) then
          s.handBytes h stream seq o.k off false (f.parts.flatMap fun p => p.chromaBytes f o.k (target / 2))
        else s) s

/-! ## The end of a frame (R228, R245, R258, R427) -/

/-- The patch sums of a part (R435). -/
def CovePart.patches (f : HalfFrame) (p : CovePart) : List (Option Nat) :=
  let v := p.view f
  let y := fun row col =>
    if row < p.height f ∧ col < f.width ∧ !f.errs.any (fun k => k / 4 == row) then some (v.y row col) else none
  let r := fun (g : Field) => Latch.field p.latch (lhPage p.cove) (g.nth p.context)
  ((List.range 64).zip (patchSums p.latch p.cove p.context y)).map fun (i, t) =>
    if p.owns f (r Lighthouse.FRZ_ORG_X0 + i % 8 * r Lighthouse.FRZ_STEP_SX) then t else none

/-- What a frame leaves in the registers and in the context of a part (R245 to R249, R282). -/
def State.closeContext (s : State) (f : HalfFrame) (p : CovePart) : State :=
  let pg := covePage p.cove
  let c := p.context
  let bad := (p.defectMap f).2
  let used := match p.read .map with
    | some t => (t.got.map (·.2.length)).sum / 8
    | none => 0
  let invalid := (List.range f.exposures).any fun e => (p.whole (p.pwlTable e)).any (!kneesValid ·)
  let bypass := p.reg 1 Cove.PWL_CFG_EN == 1 && (p.pwlFailed || invalid)
  let s := s.put (pg 1) (Cove.FRONT_STAT_BYPASSED.nth c) (bit bypass)
  let s := if p.stage then s.countSat (pg 1) (Cove.FRONT_STAT_FAULT_FRAMES.nth c) else s
  let s := if f.obDone then s else s.put (pg 2) (Cove.OB_STAT_VALID.nth c) 0
  let s := (s.put (pg 3) (Cove.DEF_CNT_STATIC_COUNT.nth c) p.statics).put (pg 3) (Cove.DEF_CNT_DYN_COUNT.nth c) p.finds
  let s := (s.put (pg 3) (Cove.DEF_STAT_ORDER.nth c) (bit bad)).put (pg 3) (Cove.DEF_STAT_USED.nth c) used
  let s := s.put (pg 5) (Cove.MOT_PIX_COUNT.nth c) p.motion
  let s := f.outs.foldl (fun s o => s.put (pg (11 + o.k)) (Cove.WIN_STAT_ROWS.nth c) o.lines) s
  let x := s.coveCtx p.cove c
  (s.putCoveCtx p.cove c { x with last := some (f.stream, f.seq), flags := clearBits p.flags 0x404 ||| (x.flags &&& 0x404) }).judgeCove p.cove

/-- The statistics block of a frame is written by its leading part, where that measures (R258): the odd one of a pair of its own columns alone. -/
def State.writeStat (s : State) (h stream seq : Nat) : State := match s.frame h stream seq with
  | none => s
  | some f => match f.lead with
    | none => s.modFrame h stream seq fun f => { f with stat := 2 }
    | some p =>
      if p.lost || p.reg 8 Cove.STAT_CFG_EN = 0 then s.modFrame h stream seq fun f => { f with stat := 2 }
      else
        let others := if (f.parts.head?.map (·.cove)) = some p.cove then f.parts.filter (fun q => q.cove != p.cove && !q.lost) else []
        let vs := (p :: others).map (·.view f)
        let b := statBlock f vs (f.parts.any (fun q => q.status == some 1 || q.status == some 2))
        let base := p.ptr 8 Cove.STAT_BASE_LO_BASE Cove.STAT_BASE_HI_BASE + 16576 * (seq % p.reg 8 Cove.STAT_CFG_SLOTS)
        let s := s.modFrame h stream seq fun f => { f with stat := 1 }
        s.addOps p.cove ((blocksOf base 16576).map fun (c : Nat × Nat) =>
          { tag := 0, stream, seq, context := p.context, work := .stat, off := c.1, ba := base + c.1, size := c.2,
            write := some ((b.drop c.1).take c.2) })

/-- A frame whose outputs have all been issued leaves the half. -/
def State.retire (s : State) (h stream seq : Nat) : State :=
  { s with frames := s.frames.filter fun f => !(f.is h stream seq && f.stat == 2 && f.outs.all (·.issued)) }

/-- Once a frame has closed and every part of it has been processed, it is judged, counted and measured. -/
def State.finishFrame (s : State) (h stream seq : Nat) : State := match s.frame h stream seq with
  | none => s
  | some f =>
    if !f.closed || f.frozen.isSome || !f.parts.all (·.finished f) then s
    else
      let started := f.parts.filter (fun p => !p.lost)
      let (frozen, s) := (match f.shape with
        | none => (false, s)
        | some p => s.judgeFrozen p.latch (started.map fun (q : CovePart) => (q.cove, q.context, q.patches f)) : Bool × State)
      let s := State.judgeSensor s (started.map fun (q : CovePart) => (q.cove, q.context)) (f.sensor == some false)
      let s := started.foldl (fun (s : State) (p : CovePart) => s.closeContext f p) s
      let s := s.modFrame h stream seq fun f => { f with frozen := some frozen }
      (s.writeStat h stream seq).retire h stream seq

/-- A frame goes on as far as what its parts have processed allows. -/
def State.frameAdvance (s : State) (h stream seq : Nat) : State := match s.frame h stream seq with
  | none => s
  | some f =>
    let s := f.parts.foldl (fun s p => s.countRows p.cove stream seq) s
    ((s.measureBlack h stream seq).handLines h stream seq).finishFrame h stream seq

/-! ## Tables in -/

/-- A piece of a table has been read: is the table, or as much of a map as has come, one that can be used (R226, R230, R265)? -/
def State.checkTable (s : State) (n stream seq : Nat) (t : TableRead) : State :=
  match s.partOf n stream seq with
  | none => s
  | some (f, p) =>
    if t.table = .map then (if (p.defectMap f).2 && !hasBit p.flags 3 then s.flagPart n stream seq 3 false else s)
    else if 0 < t.left then s
    else match t.table with
      | .pwl _ => if t.fail.isNone && !kneesValid t.bytes then s.flagPart n stream seq 0 false else s
      | .coef k => if t.fail.isNone && !coefValid t.bytes then s.flagPart n stream seq (12 + k) true else s
      | _ => s

/-- TABLE_READ_DONE: the oldest table read of Cove n that has ended delivers its bytes, or its failure (R220, R221, R252). -/
def execTableReadDone (n : Fin 16) (s : State) : Result :=
  .next <|
    let h := n.val / 8
    let ended := fun (o : CoveOp) => o.isTable && (s.harb h).results.any fun r => r.requester == 1 && r.source == o.stream && r.tag == o.tag
    match (s.cove n).ops.find? ended with
    | none => s.retryOps n
    | some o => match s.takeResult h 1 o.stream o.tag with
      | none => s
      | some (r, s) =>
        let x := s.cove n
        let s := (s.putCove n { x with ops := x.ops.filter (fun q => q.tag != o.tag) })
        let s := match o.work with
          | .table t =>
            let took := fun (d : TableRead) => if d.table != t then d
              else if r.cause = 0 then { d with got := d.got ++ [(o.off, sliceBytes r.bytes 0 o.size)], left := d.left - o.size }
              else { d with left := d.left - o.size, fail := some (min o.off (d.fail.getD o.off)) }
            let s := s.modPart n o.stream o.seq fun p => { p with tables := p.tables.map took }
            let s := if r.cause = 0 then s else s.flagPart n o.stream o.seq t.condition true
            match (s.partOf n o.stream o.seq).bind fun e => e.2.read t with
            | none => s
            | some d => s.checkTable n o.stream o.seq d
          | _ => s
        s.retryOps n

/-- LOOP_STAT of stream x counts a frame as late or skipped (R543). -/
def State.loopLate (s : State) (x : Nat) : State :=
  s.countSat (Block.page .lp 0 2) (Lp.LOOP_STAT_LATE_RUN.nth x)

/-- Cove n of the acting half has written the block of a frame: the loops of its stream are to serve it (R543). A block that has not been
served is skipped. -/
def State.noteStat (s : State) (n stream seq : Nat) : State :=
  if s.halfState (n / 8) ≠ 1 then s
  else
    let mine := s.cores.loops.filter fun l => l.stream == stream
    let s := mine.foldl (fun (s : State) l => if l.blk.any (fun b => !b.2.2.2) then s.loopLate stream else s) s
    let tide := match s.tide.livePlan.bind (fun p => p.streams.find? (fun y => y.stream == stream)) with
      | some y => s.famTide y.family
      | none => 0
    let loops := s.cores.loops.map fun l => if l.stream = stream then { l with blk := some (seq, n, tide, false) } else l
    { s with cores := { s.cores with loops } }

/-- STAT_BLOCK_WRITTEN: every write of the oldest statistics block of Cove n has ended (R258). -/
def execStatBlockWritten (n : Fin 16) (s : State) : Result :=
  .next <|
    let h := n.val / 8
    match (s.cove n).ops.find? (fun o => o.work == .stat) with
    | none => s.retryOps n
    | some o0 =>
      let mine := (s.cove n).ops.filter (fun o => o.work == .stat && o.stream == o0.stream && o.seq == o0.seq)
      let back := fun (o : CoveOp) => (s.harb h).results.any fun r => r.requester == 1 && r.source == o.stream && r.tag == o.tag
      if !mine.all back then s.retryOps n
      else
        let (bad, s) := mine.foldl (fun (a : Bool × State) o => match a.2.takeResult h 1 o.stream o.tag with
          | none => a
          | some (r, s) => (a.1 || r.cause != 0, s)) (false, s)
        let x := s.cove n
        let s := s.putCove n { x with ops := x.ops.filter (fun o => !mine.contains o) }
        let c := s.coveCtx n o0.context
        let s := s.putCoveCtx n o0.context { c with flags := if bad then setBit c.flags 10 else clearBit c.flags 10 }
        let s := if bad then s.event (covePage n 8) 1
          else (s.event (covePage n 8) 0).put (covePage n 8) (Cove.STAT_LAST_SEQ.nth o0.context) o0.seq
        let s := if bad then s else s.noteStat n o0.stream o0.seq
        let s := (s.judgeCove n).modFrame h o0.stream o0.seq fun f => { f with stat := 2 }
        (s.retire h o0.stream o0.seq).retryOps n

/-- A request of a Cove of half h has ended: a learn-ring write is over; a statistics block stops at a write that fails, and what has
not gone out of it is dropped (R234, R258). -/
def State.coveResult (s : State) (h : Nat) (r : MemResult) : State :=
  let n := r.tag / 2 ^ 20
  match (s.cove n).ops.find? (fun o => r.requester == 1 && o.tag == r.tag && o.stream == r.source) with
  | none => s
  | some o => match o.work with
    | .table _ => s
    | .stat =>
      if r.cause = 0 then s
      else
        let later := fun (q : CoveOp) => q.work == .stat && q.stream == o.stream && q.seq == o.seq && decide (o.off < q.off) &&
          (q.entry.isNone || (s.harb h).asks.any (fun a => a.requester == 1 && a.tag == q.tag))
        let tags := ((s.cove n).ops.filter later).map (·.tag)
        let s := s.putHarb h { s.harb h with asks := (s.harb h).asks.filter (fun a => !(a.requester == 1 && tags.contains a.tag)) }
        let free := (s.cove n).ops.filter later
        let s := free.foldl (fun s q => match q.entry with
          | some (e, _) => s.putJob e { s.job e with flying := (s.job e).flying - 1 }
          | none => s) s
        s.dropOps n later
    | .learn => match s.takeResult h 1 r.source r.tag with
      | none => s
      | some (_, s) =>
        let s := s.putCove n { s.cove n with ops := (s.cove n).ops.filter (fun q => q.tag != o.tag) }
        if r.cause = 0 then (s.countLearned n o.context).retryOps n
        else
          let rest := fun (q : CoveOp) => q.work == .learn && q.stream == o.stream && q.seq == o.seq && q.entry.isNone
          let s := (s.dropOps n rest).modPart n o.stream o.seq fun p => { p with learnStop := true }
          (s.flagPart n o.stream o.seq 5 false).retryOps n

/-! ## Units of work (R271) -/

/-- Have the tables that row y needs been read, or failed (R220, R221)? -/
def CovePart.tablesReady (f : HalfFrame) (p : CovePart) (y : Nat) : Bool :=
  p.tables.all fun t => t.left == 0 || match t.table with
    | .mesh =>
      let j := min (y / p.reg 4 Cove.SH_CFG_CELL_H) 47
      p.meshHas j || t.fail.any (decide <| · < 520 * (j + 2))
    | .map =>
      let l := mapEntries t.bytes
      t.fail.any (decide <| · ≤ t.bytes.length) || decide ((mapPrefix f.lines none l).1.length < l.length) || l.getLast?.any (decide <| y + 2 < ·.1)
    | _ => false

/-- Can a unit start? A unit of a frame that is gone runs to no effect. -/
def State.unitReadyFor (s : State) (n : Nat) (u : CoveUnit) : Bool := match s.partOf n u.stream u.seq with
  | none => true
  | some (f, p) => p.tablesReady f u.run.row

/-- The samples of a slice that has been read (R171, R299): `n` codes from column `col0` on. -/
def SliceBuf.codes (x : SliceBuf) (packing n : Nat) : List Nat :=
  let col0 := x.run.col0
  let from_ := packedBytes packing (col0 / 4 * 4)
  let b := (sortedBytes x.got).drop (from_ - x.first)
  ((unpackLine packing b).drop (col0 % 4)).take n

/-- The slice of a job in the list of failed ones (R302). -/
def SliceBuf.failKey (b : SliceBuf) (n : Nat) : List Nat := [b.stream, b.seq % 65536, b.run.row, b.run.e, b.run.col0, n]

/-- Is the job of a slice under way; has it failed (R302)? -/
def State.sliceLive (s : State) (b : SliceBuf) : Bool := (s.job b.entry).gen == b.gen && (s.job b.entry).state != 0
def State.sliceFailed (s : State) (n : Nat) (b : SliceBuf) : Bool := !s.sliceLive b && (s.harb (n / 8)).failedSlices.contains (b.failKey n)

/-- The slice that context c of Cove n processes next, in dispatch order, once it is loaded, or has failed: then with samples of value 0 (R271,
R302). -/
def State.nextSlice (s : State) (n c : Nat) : Option (SliceBuf × CoveUnit) :=
  ((s.cove n).slices.find? fun b => b.context == c && (s.sliceLive b || s.sliceFailed n b)).bind fun b =>
    let unit := fun codes entry => some (b, ({ stream := b.stream, seq := b.seq, run := { b.run with codes }, entry } : CoveUnit))
    if s.sliceFailed n b then unit (List.replicate b.size 0) none
    else if (s.job b.entry).state = 4 then
      let packing := ((s.frame (n / 8) b.stream b.seq).map (·.packing)).getD 0
      unit (b.codes packing b.size) (some (b.entry, b.gen))
    else none

/-- The contexts of Cove n from the lowest SLICE_RANK on (R271). -/
def State.rankedContexts (s : State) (n : Nat) : List Nat :=
  let rank := fun c => s.live (covePage n 0) Cove.SLICE_RANK_RANK / 16 ^ c % 8
  (List.range 8).flatMap fun r => (List.range 8).filter (fun c => rank c == r)

/-- Start a unit. -/
def State.startUnit (s : State) (n : Nat) (u : CoveUnit) : State := s.putCove n { s.cove n with unit := some (s.time.c, u) }

/-- Start the next slice job of Cove n, if one can run. -/
def State.startJob (s : State) (n : Nat) : State :=
  let h := n / 8
  let ready := fun c => (s.nextSlice n c).filter fun e => s.unitReadyFor n e.2
  match (s.rankedContexts n).findSome? ready with
  | none => s
  | some (b, u) =>
    let failed := s.sliceFailed n b
    let s := s.putCove n { s.cove n with slices := (s.cove n).slices.erase b }
    if failed then
      let s := s.putHarb h { s.harb h with failedSlices := (s.harb h).failedSlices.erase (b.failKey n) }
      let k := 4 * u.run.row + u.run.e
      (s.modFrame h u.stream u.seq fun f => { f with failed := if f.failed.contains k then f.failed else f.failed ++ [k] }).startUnit n u
    else (s.jobState b.entry 5).startUnit n u

/-- COVE_UNIT_START: Cove n, being free, starts a unit (R271): a complete in-line chunk, or a job of the lowest rank. -/
def execCoveUnitStart (n : Fin 16) (s : State) : Result :=
  .next <|
    if !s.ready ⟨.cove, n, 0⟩ || (s.cove n).unit.isSome then s
    else
      let s := s.retryOps n
      let x := s.cove n
      match x.store with
      | u :: rest =>
        if s.unitReadyFor n u then
          ((s.putCove n { x with store := rest }).startUnit n u).putMax (covePage n 0) Cove.WAIT_MAX_CYCLES (s.time.c - u.ready)
        else s.startJob n
      | [] => s.startJob n

/-- COVE_UNIT_END: the unit that runs in Cove n ends: its samples have passed the stages, and what they complete follows. -/
def execCoveUnitEnd (n : Fin 16) (s : State) : Result :=
  .next <|
    let x := s.cove n
    match x.unit with
    | none => s
    | some (t, u) =>
      let recent := x.busy.filter (fun (b : Nat × Nat) => decide (s.time.c < b.2 + 10 ^ 6))
      let s := s.putCove n { x with unit := none, busy := recent ++ [(t, s.time.c)] }
      let job := u.entry.isSome || u.run.codes.isEmpty || (match s.partOf n u.stream u.seq with
        | some (f, _) => f.memory
        | none => false)
      let s := s.countWrap (covePage n 0) (if job then Cove.JOBS_COUNT else Cove.CHUNKS_COUNT)
      let s := s.freeHeld u.entry
      let s := s.modPart n u.stream u.seq fun p => if p.gone then p else { p with runs := p.runs ++ [u.run] }
      s.frameAdvance (n / 8) u.stream u.seq

/-! ## The frame record (R270, R273, R274) -/

/-- A frame is partial in its half (R191). -/
def HalfFrame.isPartial (f : HalfFrame) : Bool := match f.parts with
  | [p, q] => p.status != q.status || p.rows != q.rows
  | _ => false

/-- A frame is truncated in its half (R191). -/
def HalfFrame.truncated (f : HalfFrame) : Bool := f.parts.any (fun p => p.status == some 1 || p.status == some 2)

/-- The window of output k failed R263 in a part that was started. -/
def HalfFrame.windowBad (f : HalfFrame) (k : Nat) : Bool := f.parts.any (fun p => !p.lost && !hasBit p.windows k)

/-- The word of a part in the record. -/
def partWord (p : Option CovePart) : Nat := match p with
  | none => 0
  | some p => p.rows % 65536 + p.status.getD 0 * 65536 + 2 ^ 18

/-- Does the link let row j of an output out whole (R461)? Of 4:2:0, the chroma row of its pair counts with it. -/
def HalfFrame.rowHeld (f : HalfFrame) (o : OutFrame) (j : Nat) : Bool := match f.shape with
  | none => false
  | some p =>
    let w := p.win o.k
    let lb := Machine.lineBytes w.format w.ow
    let meets := fun (a : Nat) => o.filtered.any fun (e : Nat × Nat) => decide (e.1 < a + lb) && decide (a < e.1 + e.2)
    meets (j * lb) || (is420 w.format && meets (w.oh * lb + j / 2 * lb))

/-- Rows of an output of a straddled frame with a byte that the link filtered (R461). -/
def HalfFrame.heldRows (f : HalfFrame) (o : OutFrame) : Nat :=
  if f.straddle && o.dest < 2 then ((List.range o.lines).filter (f.rowHeld o)).length else 0

/-- Exposure lines in error: that the Inlet delivered so, or of which a slice failed, each once (R273, R302). -/
def HalfFrame.lineErrs (f : HalfFrame) : Nat := (f.errs ++ f.failed).eraseDups.length

/-- FLAGS of a record (R274, R427). -/
def HalfFrame.flags (f : HalfFrame) (o : OutFrame) (reset : Bool) : Nat :=
  let bad := f.windowBad o.k
  bit (f.truncated || o.cut || bad) + 2 * bit f.isPartial + 4 * bit (decide (0 < f.lineErrs)) + 8 * bit (decide (0 < f.heldRows o)) + 16 * bit f.dual +
    32 * bit (bad || f.parts.any (fun p => p.flags &&& 0xF8D2 != 0)) + 256 * bit reset +
    512 * bit (f.sensor == some true) + 1024 * bit (f.sensor == some false) + 2048 * bit (f.frozen == some true)

/-- The 64 bytes of a record (R273). -/
def HalfFrame.record (f : HalfFrame) (o : OutFrame) (flags pcrc sig : Nat) : List Byte :=
  let (fmt, ow) := match f.shape with
    | none => (0, 0)
    | some p => ((p.win o.k).format, (p.win o.k).ow)
  let sentinel := f.sentinel != 0xFF
  let b := [BitVec.ofNat 8 f.stream, BitVec.ofNat 8 (o.k + 8 * f.half + 16 * fmt), 1,
      BitVec.ofNat 8 (f.family + if sentinel then 4 + 8 * f.sentinel else 0)] ++
    toBytesLE 4 f.seq ++ toBytesLE 4 f.tide ++ toBytesLE 2 flags ++ [BitVec.ofNat 8 f.sync, BitVec.ofNat 8 (min 255 (f.heldRows o))] ++
    toBytesLE 8 f.mid ++ toBytesLE 8 f.sof ++ toBytesLE 4 (partWord f.parts[0]?) ++ toBytesLE 4 (partWord f.parts[1]?) ++
    toBytesLE 2 (min 65535 f.lineErrs) ++ toBytesLE 2 ow ++ toBytesLE 2 o.lines ++ [0, 0] ++ toBytesLE 4 o.count ++ toBytesLE 4 pcrc ++
    toBytesLE 4 sig
  b ++ toBytesLE 4 (crc32c b)

/-- Is this a frame whose next record Cove n issues? -/
def HalfFrame.issues (f : HalfFrame) (n : Nat) : Bool :=
  f.closed && f.stat == 2 && f.frozen.isSome && f.lead.any (fun p => p.cove == n) && f.outs.any (fun o => !o.issued)

/-- FRAME_RECORD_ISSUE: the engine of Cove n issues the record of the next output of its oldest frame that is due (R270, R427). Of a frame that is
withheld (R192), only a CSI-2 port's record is issued. -/
def execFrameRecordIssue (n : Fin 16) (s : State) : Result :=
  .next <| match s.frames.find? (fun f => f.issues n) with
    | none => s
    | some f => match f.outs.find? (fun o => !o.issued), f.part n with
      | some o, some p =>
        let c := p.context
        let parts := f.parts.map fun q => (q.cove, q.context)
        let reset := s.chainResets p.latch n c parts o.k f.seq
        let pcrc := crc32c (sortedBytes o.sent)
        let flags := f.flags o reset
        let sig := crc32c (sigBlock (if reset then 0 else s.chainValue n c o.k) f.stream o.k flags f.seq f.tide f.mid o.count pcrc)
        let b := f.record o flags pcrc sig
        let withheld := f.suppress && f.isPartial
        let last := (o.sent.map (fun (u : Nat × List Byte) => u.1 + u.2.length)).foldl max 0
        let s := s.modOut f.half f.stream f.seq o.k fun o => { o with issued := true }
        let s := match (List.range o.lines).find? (fun j => !f.rowHeld o j) with
          | some j => if o.dest < 2 && s.x16 then s.noteSplit f.half f.stream o.k f.seq j else s
          | none => s
        let s := if withheld && !o.isCsi then s.handUnit f o (.withheld b)
          else
            let s := (s.handUnit f o (.record last b o.k parts withheld)).chainIssued parts o.k reset
            let pg := covePage n 15
            let s := (s.countWrap pg (Cove.OUT_FRAMES_COUNT.nth c)).put pg (Cove.OUT_SEQ_SEQ.nth c) f.seq
            let s := s.put pg (Cove.OUT_FLAGS_FLAGS.nth c) flags
            if f.sentinel != 0xFF && flags % 4 == 0 then
              s.compareTwin f.family { stream := f.stream, out := o.k, half := f.half, cove := n, context := c, seq := f.seq, pcrc,
                                       issued := s.time.c }
            else s
        s.retire f.half f.stream f.seq
      | _, _ => s

/-! ## Cuts and new bindings (R188, R272, R302) -/

/-- The part of a frame in Cove n is cut (R188): what the Cove has not processed of it is dropped; its jobs are aborted. -/
def State.cutPart (s : State) (n stream seq rows : Nat) : State := match s.partOf n stream seq with
  | none => s
  | some (f, p) =>
    if p.gone then s
    else
      let h := n / 8
      let s := s.modPart n stream seq fun q => { q with status := some 2, rows := rows, limit := some (p.done f) }
      let x := s.cove n
      let mine := fun (u : CoveUnit) => u.stream == stream && u.seq == seq
      let s := s.putCove n { x with store := x.store.filter (fun u => !mine u), slices := x.slices.filter (fun b => !(b.stream == stream && b.seq == seq)) }
      let ours := fun (l : List Nat) => l.getD 0 0 == stream && l.getD 1 0 == seq % 65536 && l.getD 5 0 == n
      let s := s.putHarb h { s.harb h with failedSlices := (s.harb h).failedSlices.filter (fun l => !ours l) }
      let jobs := (s.harb h).jobs.filter (fun e => e.2.state != 0 && e.2.kind == 0 && e.2.cove == n && e.2.stream == stream && e.2.seq == seq % 65536)
      let s := jobs.foldl (fun s e => s.freeJob e.1) s
      let s := s.dropOps n (fun o => o.stream == stream && o.seq == seq && o.work != .learn)
      s.frameAdvance h stream seq

/-- A context of Cove n is bound anew: its history is gone (R229, R272), its chain and its detector start again (R429, R436). -/
def State.rebindContext (s : State) (n c : Nat) : State :=
  let x := s.coveCtx n c
  ((s.putCoveCtx n c { learning := x.learning, ringFull := x.ringFull }).lhRestart n c).judgeCove n

end Sys2Proof.Machine
end

