-- ==== Sys2Proof/Machine/Slices.lean ====
section
/-!
DEFINITION. Sys2Proof/Machine/Slices.lean: the memory path between the Inlet and a Cove (R184, R296 to R300): the raw ring, slice jobs,
their dispatch and their reads.
-/
namespace Sys2Proof.Machine

/-- The line stride of the raw ring (R184). -/
def rawStride (packing width : Nat) : Nat := (packedBytes packing width + 63) / 64 * 64

/-- Where an exposure line lies in its slot (R184). -/
def HalfFrame.rawLine (f : HalfFrame) (row e : Nat) : Nat := f.base + (row * f.exposures + e) * rawStride f.packing f.width

/-- The Inlet writes an exposure line into the raw ring of half h (R184). -/
def State.rawWrite (s : State) (h stream seq row e : Nat) (b : List Byte) : State := match s.frame h stream seq with
  | none => s
  | some f =>
    let ba := f.rawLine row e
    let l := blocksOf ba b.length
    let s := s.modFrame h stream seq fun f => { f with writes := f.writes ++ [(4 * row + e, l.length)] }
    l.foldl (fun s (c : Nat × Nat) => s.ask h
      { requester := 0, source := stream, cls := f.cls, entry := none, ba := ba + c.1, size := c.2, write := some ((b.drop c.1).take c.2),
        tag := seq * 2 ^ 18 + 4 * row + e }) s

/-- The slice jobs of a row for a part, as (Cove, row, strip, exposure), in the order of R298. -/
def CovePart.rowJobs (f : HalfFrame) (p : CovePart) (row : Nat) : List (Nat × Nat × Nat × Nat) :=
  (List.range (((p.received f).2 + 255) / 256)).flatMap fun i => (List.range f.exposures).map fun e => (p.cove, row, i, e)

/-- The entry of a slice job of a part. -/
def CovePart.sliceEntry (f : HalfFrame) (p : CovePart) (row i e state : Nat) : JobEntry :=
  let (a, w) := p.received f
  { kind := 0, cls := f.cls, exposure := e, cove := p.cove, context := p.context, stream := f.stream, row := row, col0 := a + 256 * i,
    seq := f.seq % 65536, size := min 256 (w - 256 * i), state := state }

/-- Create a slice job, or leave it waiting for an entry (R298): in READY where `late`, else in WRITING. Jobs of a part keep their order. -/
def State.createJob (s : State) (h stream seq : Nat) (late : Bool) (d : Nat × Nat × Nat × Nat) : State :=
  match s.frame h stream seq with
  | none => s
  | some f => match f.part d.1 with
    | none => s
    | some p =>
      let behind := !late && f.jobsDue.any (fun q => q.1 == d.1)
      let made := if behind then none
        else s.allocSlice h f.split (p.sliceEntry f d.2.1 d.2.2.1 d.2.2.2 (if late then 2 else 1))
      match made with
      | some s => if late then s.modFrame h stream seq fun f => { f with jobsDue := f.jobsDue.erase d } else s
      | none => if late then s else s.modFrame h stream seq fun f => { f with jobsDue := f.jobsDue ++ [d] }

/-- The first byte of a row is on its way to the raw ring: the jobs that running parts need are created (R298). -/
def State.announceRow (s : State) (h stream seq row : Nat) : State := match s.frame h stream seq with
  | none => s
  | some f => ((f.parts.filter (fun p => p.status.isNone)).flatMap (fun p => p.rowJobs f row)).foldl
      (fun s d => s.createJob h stream seq false d) s

/-- Is a row complete in the raw ring (R296)? -/
def HalfFrame.rowWritten (f : HalfFrame) (row : Nat) : Bool := decide (row < f.whole) && !f.writes.any (fun w => w.1 / 4 == row)

/-- Jobs of rows that are complete enter READY; jobs that waited for an entry are created (R296, R298). -/
def State.settleRows (s : State) (h stream seq : Nat) : State := match s.frame h stream seq with
  | none => s
  | some f =>
    let mine := (s.harb h).jobs.filter (fun e => e.2.state == 1 && e.2.kind == 0 && e.2.stream == stream && e.2.seq == seq % 65536 &&
      f.rowWritten e.2.row)
    let s := mine.foldl (fun s e => s.jobState e.1 2) s
    (f.jobsDue.filter (fun d => f.rowWritten d.2.1)).foldl (fun s d => s.createJob h stream seq true d) s

/-- Every frame of a half settles: entries may have come free. -/
def State.settleHalf (s : State) (h : Nat) : State :=
  (s.frames.filter (fun f => f.half == h && !f.jobsDue.isEmpty)).foldl (fun s f => s.settleRows h f.stream f.seq) s

/-- Is the raw-ring slot of a frame still in use (R300)? -/
def State.slotBusy (s : State) (f : HalfFrame) : Bool :=
  !f.closed || !f.jobsDue.isEmpty ||
    (s.harb f.half).jobs.any (fun e => e.2.state != 0 && e.2.kind == 0 && e.2.stream == f.stream && e.2.seq == f.seq % 65536)

/-- The jobs of a part at or beyond a row end (R302): the part has ended before it. -/
def State.abortRows (s : State) (n stream seq rows : Nat) : State :=
  let h := n / 8
  let jobs := (s.harb h).jobs.filter (fun e => e.2.state != 0 && e.2.kind == 0 && e.2.cove == n && e.2.stream == stream &&
    e.2.seq == seq % 65536 && decide (rows ≤ e.2.row))
  (jobs.foldl (fun s e => s.freeJob e.1) s).modFrame h stream seq fun f =>
    { f with jobsDue := f.jobsDue.filter (fun d => !(d.1 == n && decide (rows ≤ d.2.1))) }

/-! ## Dispatch (R298, R299) -/

/-- The bytes of column x in its line: the first, and the end (R19). -/
def columnBytes (packing x : Nat) : Nat × Nat := match packing with
  | 0 => (x / 4 * 5 + x % 4, x / 4 * 5 + 5)
  | 1 => (x / 2 * 3 + x % 2, x / 2 * 3 + 3)
  | _ => (2 * x, 2 * x + 2)

/-- What a slice read covers: the byte range of its columns and apron in the line, in whole 64-byte units (R299). -/
def sliceRange (f : HalfFrame) (col0 n : Nat) : Nat × Nat :=
  let a := (columnBytes f.packing (col0 - 16)).1
  let b := (columnBytes f.packing (min (col0 + n + 15) (f.width - 1))).2
  (a / 64 * 64, min (rawStride f.packing f.width) ((b + 63) / 64 * 64))

/-- Issue the slice read of a READY job. -/
def State.issueSlice (s : State) (h e : Nat) (j : JobEntry) : State :=
  match s.frames.find? (fun f => f.half == h && f.stream == j.stream && f.seq % 65536 == j.seq) with
  | none => s.freeJob e
  | some f =>
    let (a, b) := sliceRange f j.col0 j.size
    let line := f.rawLine j.row j.exposure
    let buf : SliceBuf := { context := j.context, entry := e, gen := j.gen, stream := f.stream, seq := f.seq, run := ⟨j.row, j.exposure, j.col0, []⟩,
                            size := j.size, first := a, left := b - a }
    let kept := fun (b : SliceBuf) => s.sliceLive b || s.sliceFailed j.cove b
    let s := s.putCove j.cove { s.cove j.cove with slices := (s.cove j.cove).slices.filter kept ++ [buf] }
    let s := s.jobState e 3
    (blocksOf (line + a) (b - a)).foldl (fun s (c : Nat × Nat) => s.ask h
      { requester := 3, source := f.stream, cls := j.cls, entry := some (e, j.gen), ba := line + a + c.1, size := c.2, write := none, tag := e }) s

/-- JOB_DISPATCH: the next job of context c of Cove n is dispatched, where it is READY and fewer than two are under way (R298). -/
def execJobDispatch (n : Fin 16) (c : Fin 8) (s : State) : Result :=
  .next <|
    let h := n.val / 8
    let s := (s.settleHalf h).retryOps n
    if !s.ready ⟨.cove, n, 0⟩ || !s.ready ⟨.harbour, h, 0⟩ || s.seawall.bist.getD h none == some n.val || decide (2 ≤ s.busyJobs h n c) then s
    else match s.nextJob h n c with
      | none => s
      | some (e, j) => if j.state = 2 then s.issueSlice h e j else s

/-- A piece of a slice read has come, or has failed (R296, R302). -/
def State.sliceResult (s : State) (h : Nat) (r : MemResult) : State :=
  let e := r.tag
  let j := s.job e
  match s.takeResult h 3 r.source e with
  | none => s
  | some (r, s) =>
    let x := s.cove j.cove
    match x.slices.find? (fun b => b.entry == e && b.gen == j.gen) with
    | none => s
    | some b => match s.frame h b.stream b.seq with
      | none => s
      | some f =>
        if r.cause ≠ 0 then s.failJob e
        else
          let b' := { b with got := b.got ++ [(r.ba - f.rawLine j.row j.exposure, r.bytes)], left := b.left - r.bytes.length }
          let s := s.putCove j.cove { x with slices := x.slices.map fun q => if q = b then b' else q }
          if b'.left = 0 then s.jobState e 4 else s

end Sys2Proof.Machine
end

