-- ==== Sys2Proof/Machine/Inlet.lean ====
section
/-!
DEFINITION. Sys2Proof/Machine/Inlet.lean: the life of a frame at the Inlet (R168 to R192), the raw ring's faults (R185), emergency cuts
(R188, R189) and the sensor check (R433, R434).
-/
namespace Sys2Proof.Machine

/-! ## The open frame of a stream -/

/-- A register value latched for the open frame of stream x (R173): of the Inlet page of its channel, of the stream table. -/
def State.vcLatched (s : State) (x : Nat) (f : Field) : Nat := Latch.field (s.stream x).latch (inPage (x / 4)) (f.nth (x % 4))
def State.stLatched (s : State) (x : Nat) (f : Field) : Nat := Latch.field (s.stream x).latch (stPage x) (f.nth (x % 16))

/-- The state of stream x (R172): 0 IDLE, 1 IN_FRAME, 2 DISCARD. -/
def State.streamState (s : State) (x : Nat) : Nat := s.st x StreamTab.ST_STAT_STATE

/-- Rows of the open frame of which every exposure has come. -/
def StreamSt.wholeRows (x : StreamSt) : Nat := match x.plan with
  | none => 0
  | some p => ((List.range p.exposures).map fun e => x.counts.getD e 0).foldl min (x.counts.getD 0 0)

/-- The frame of stream x in a half. -/
def State.openFrames (s : State) (x : Nat) : List HalfFrame :=
  s.frames.filter (fun f => f.stream == x && f.seq == s.st x StreamTab.ST_SEQ_SEQ)

/-- The Inlet's conditions of port n follow the last frames of its streams (R196). -/
def State.judgeInlet (s : State) (n : Nat) : State :=
  let l := [0, 1, 2, 3].map fun v => s.stream (4 * n + v)
  (((s.cond (inPage n) 0 (l.any (·.silentNow))).cond (inPage n) 1 (l.any (·.overrun))).cond (inPage n) 2 (l.any (·.xlate))).cond (inPage n) 3
    (l.any (·.inlineOver))

/-! ## The end of a part and of a frame (R190, R191, R210, R434) -/

/-- A part of stream x in half h has ended CUT or LOST: that is a self-check failure where the stream is a sentinel and its part in
the other half has started (R457). -/
def State.sentinelPart (s : State) (x h : Nat) : State :=
  let other := (s.stream x).parts.any (fun p => p.cove / 8 != h && p.status != some 3)
  if (s.stream x).plan.any (·.isSentinel) && other then s.selfCheck h 3 else s

/-- A running part of the open frame of stream x ends with a status and rows (R190). -/
def State.endPart (s : State) (x cove status rows : Nat) : State :=
  let st := s.stream x
  let seq := s.st x StreamTab.ST_SEQ_SEQ
  if !st.parts.any (fun p => p.cove == cove && p.status.isNone) then s
  else
    let s := s.putStream x { st with parts := st.parts.map fun p => if p.cove = cove ∧ p.status = none then { p with status := some status, rows } else p }
    let s := if 2 ≤ status then s.sentinelPart x (cove / 8) else s
    if status = 2 then s.cutPart cove x seq rows
    else
      let s := s.modPart cove x seq fun p => { p with status := some status, rows := rows, limit := some rows }
      let c := s.cove cove
      let s := s.putCove cove { c with store := c.store.filter (fun u => !(u.stream == x && u.seq == seq && decide (rows ≤ u.run.row))) }
      (s.abortRows cove x seq rows).frameAdvance (cove / 8) x seq

/-- The outcome of the sensor check of a complete frame of stream x (R434), and the counter it leaves. -/
def State.sensorCheck (s : State) (x : Nat) : Option Bool × Option Nat :=
  let st := s.stream x
  let poly := s.vcLatched x Inlet.SCHK_CFG_POLY
  let crc := if poly = 2 then st.checkCrc else st.checkCrc ^^^ 0xFFFFFFFF
  let wide := 2 ^ (8 * (s.vcLatched x Inlet.SCHK_CFG_CNT_BYTES + 1))
  if s.vcLatched x Inlet.SCHK_CFG_EN = 0 then (none, none)
  else match st.checkRead with
    | none => (some false, none)
    | some (v, c) =>
      let back := match s.vcLatched x Inlet.SCHK_CFG_CNT_EN, c, st.prevCount with
        | 1, some new, some old => let d := (new + wide - old) % wide; d == 0 || decide (wide / 2 ≤ d)
        | _, _, _ => false
      (some (v == crc && !back), c)

/-- Show the sensor check of a frame (R446). -/
def State.showCheck (s : State) (x : Nat) (ok : Option Bool) : State :=
  let pg := inPage (x / 4)
  let st := s.stream x
  let crc := if s.vcLatched x Inlet.SCHK_CFG_POLY = 2 then st.checkCrc else st.checkCrc ^^^ 0xFFFFFFFF
  match ok with
  | none => s
  | some ok =>
    let s := s.put pg (Inlet.SCHK_CALC_VALUE.nth (x % 4)) crc
    let s := match st.checkRead with
      | some (v, _) => s.put pg (Inlet.SCHK_SEEN_VALUE.nth (x % 4)) v
      | none => s
    if ok then s.countWrap pg (Inlet.SCHK_CNT_OK.nth (x % 4)) else s.countSat pg (Inlet.SCHK_CNT_BAD.nth (x % 4))

/-- Is a frame truncated, or partial in a half, by how its parts ended (R191)? -/
def partsTruncated (l : List PartSt) : Bool := l.any fun p => p.status == some 1 || p.status == some 2
def partsPartial (l : List PartSt) : Bool := [0, 1].any fun h => match l.filter (fun p => p.cove / 8 == h) with
  | [p, q] => p.status != q.status || p.rows != q.rows
  | _ => false

/-- The Inlet counts a frame of stream x that is truncated, or partial, each once (R191). -/
def State.countOutcome (s : State) (x : Nat) (trunc part : Bool) : State :=
  let pg := inPage (x / 4)
  let s := if trunc then (s.stCount x StreamTab.ST_CNT0_TRUNC).event pg 0 else s
  if part then (s.stCount x StreamTab.ST_CNT0_PARTIAL).event pg 1 else s

/-- Parts in half h of a frame that the Inlet has closed are to end otherwise: its outcome counts where it is new (R190, R191). -/
def State.countChange (s : State) (h x seq : Nat) (g : CovePart → CovePart) : State :=
  let was := s.frames.filter fun f => f.stream == x && f.seq == seq
  let now := was.map fun f => if f.half = h then { f with parts := f.parts.map g } else f
  s.countOutcome x (now.any (·.truncated) && !was.any (·.truncated)) (now.any (·.isPartial) && !was.any (·.isPartial))

/-- The open frame of stream x closes (R172, R190, R191): every running part ends; what the frame's records carry is settled; the
stream's next state is `next`. -/
def State.closeStream (s : State) (x : Nat) (complete : Bool) (next : Nat) : State :=
  let st := s.stream x
  let seq := s.st x StreamTab.ST_SEQ_SEQ
  let sof := s.st x StreamTab.ST_SOF_LO_TIME + s.st x StreamTab.ST_SOF_HI_TIME * 2 ^ 32
  let rows := st.wholeRows
  let (sensor, count) := if complete then s.sensorCheck x else (none, none)
  let s := s.showCheck x sensor
  let s := match complete && !st.lineErr, st.rowFirst, st.rowLast with
    | true, some a, some b => s.syncMeasure x rows a b
    | _, _, _ => s
  let s := s.syncFrameEnd x
  let (mid, sync) := s.midOf x sof
  let s := (s.openFrames x).foldl (fun s f => s.modFrame f.half x seq fun f => { f with closed := true, mid, sync, sensor }) s
  let s := (st.parts.filter (fun p => p.status.isNone)).foldl (fun s p => s.endPart x p.cove (bit !complete) rows) s
  let parts := (s.stream x).parts
  let s := s.countOutcome x (partsTruncated parts) (partsPartial parts)
  let s := s.stPut x StreamTab.ST_FRAMES_COUNT (s.st x StreamTab.ST_FRAMES_COUNT + 1)
  let y := s.stream x
  let s := s.putStream x { y with parts := [], awaited := none, prevCount := if complete then count else y.prevCount }
  let s := s.stPut x StreamTab.ST_STAT_STATE next
  [0, 1].foldl (fun s h => s.frameAdvance h x seq) s

/-- Close the frame of stream x as truncated where one is open. -/
def State.truncateStream (s : State) (x next : Nat) : State := if s.streamState x = 1 then s.closeStream x false next else s

/-! ## Emergency cuts (R188, R189) -/

/-- A running part of stream x is cut: it counts once per frame. -/
def State.cutStream (s : State) (x cove : Nat) : State :=
  let st := s.stream x
  if s.streamState x ≠ 1 || !st.parts.any (fun p => p.cove == cove && p.status.isNone) then s
  else
    let first := !st.parts.any (fun p => p.status == some 2)
    let s := s.endPart x cove 2 st.wholeRows
    let s := if first then (s.stCount x StreamTab.ST_CNT1_CUT).event (inPage (x / 4)) 2 else s
    let left := (s.stream x).parts
    if left.any (fun p => p.status.isNone) || !left.any (fun p => p.status == some 2) then s else s.closeStream x false 2

/-- Every running part that `p` names is cut, frames that the Inlet has closed and a Cove has not yet processed with it. -/
def State.cutParts (s : State) (p : HalfFrame → CovePart → Bool) : State :=
  s.frames.foldl (fun s f => (f.parts.filter (fun q => p f q && !q.finished f)).foldl (fun s q =>
    if s.streamState f.stream == 1 && s.st f.stream StreamTab.ST_SEQ_SEQ == f.seq then s.cutStream f.stream q.cove
    else
      let first := !s.frames.any (fun g => g.stream == f.stream && g.seq == f.seq && g.parts.any (·.status == some 2))
      let s := if first then (s.stCount f.stream StreamTab.ST_CNT1_CUT).event (inPage (f.stream / 4)) 2 else s
      let s := s.countChange f.half f.stream f.seq fun r => if r.cove = q.cove then { r with status := some 2 } else r
      let s := s.cutPart q.cove f.stream f.seq q.rows
      if f.sentinel != 0xFF && s.frames.any (fun g => g.half != f.half && g.stream == f.stream && g.seq == f.seq) then s.selfCheck f.half 3
      else s) s) s

/-- A Cove is reset or loses its power (R188). -/
def State.cutCove (s : State) (n : Nat) : State := s.cutParts fun _ p => p.cove == n

/-- A Harbour half is reset or loses its power (R188). -/
def State.cutHarbour (s : State) (h : Nat) : State := s.cutParts fun f _ => f.half == h && f.memory

/-- A half has failed (R188). -/
def State.cutHalf (s : State) (h : Nat) : State := s.cutParts fun f _ => f.half == h

/-! ## Frame start (R168, R173 to R176, R186) -/

/-- Can a part of a stream start on a Cove (R186)? -/
def State.partStarts (s : State) (x : PlanStream) (cove : Nat) : Bool :=
  s.ready ⟨.cove, cove, 0⟩ && (!x.isMemory || s.ready ⟨.harbour, cove / 8, 0⟩) && !s.halfFailed (cove / 8)

/-- A stream that is in-line on a Cove where another in-line stream's last frame has not ended starts no frame (R63). -/
def State.inlineHeld (s : State) (x : PlanStream) : Bool :=
  !x.isMemory && s.frames.any (fun f => !f.memory && f.stream != x.stream && f.parts.any (fun p => x.parts.contains p.cove && p.status.isNone))

/-- The raw ring of stream x in half h: base and frames, latched (R184, R187). -/
def State.rawBase (s : State) (x h : Nat) : Nat :=
  if h = 0 then s.vcLatched x Inlet.RAW_H0_HI_BASE * 2 ^ 32 + s.vcLatched x Inlet.RAW_H0_LO_BASE * 4096
  else s.vcLatched x Inlet.RAW_H1_HI_BASE * 2 ^ 32 + s.vcLatched x Inlet.RAW_H1_LO_BASE * 4096

/-- The next raw slot of stream x in half h. -/
def State.nextSlot (s : State) (x h : Nat) : Nat := (s.stream x).rawNext.getD h 0 % max 1 (s.vcLatched x Inlet.RAW_CFG_RAW_FRAMES)

/-- Is the next raw slot of a stream in half h free (R185)? -/
def State.slotFree (s : State) (x h : Nat) : Bool :=
  !s.frames.any (fun f => f.half == h && f.stream == x && f.memory && f.slot == s.nextSlot x h && s.slotBusy f)

/-- The parts of a stream in half h, in order (R181). -/
def PlanStream.partsIn (x : PlanStream) (h : Nat) : List Nat := x.parts.filter (fun c => c / 8 == h)

/-- The parts of a frame in half h, started or LOST, with their latched registers (R173, R219). -/
def State.newParts (s : State) (p : Plan) (x : PlanStream) (h : Nat) (go : Bool) : List CovePart :=
  (x.partsIn h).map fun c =>
    { cove := c, context := (p.contextOf c x.stream).getD 0, status := if go && s.partStarts x c then none else some 3,
      limit := if go && s.partStarts x c then none else some 0,
      latch := s.latch (lhPage c :: (List.range 15).map (fun k => covePage c (k + 1))) }

/-- The outputs of a frame in half h (R262): each on the channel of the half. -/
def newOuts (p : Plan) (x : PlanStream) (h : Nat) : List OutFrame :=
  let l := p.outputsOf x
  ((List.range l.length).zip l).map fun (k, o) => { k, bytes := o.bytes, dest := o.dest, channel := o.drift % 512 + 512 * h }

/-- The port slots that carry stream x latch their fields for a frame (R28, R37). -/
def State.latchSlots (s : State) (x seq : Nat) : State :=
  let mine := fun (b : Option (Nat × Nat × Nat × Bool)) => b.any (fun t => t.1 == x)
  let s := [0, 1].foldl (fun s m => (s.tx m).slots.foldl (fun s e =>
    if mine e.2.bound then
      let l := s.txNow m e.1
      s.putTxSlot m e.1 { s.txSlot m e.1 with latches := (frameKey x seq, l) :: (s.txSlot m e.1).latches.take 7 }
    else s) s) s
  s.bridge.slots.foldl (fun s e =>
    if mine e.2.bound then
      let l := s.slotNow e.1
      s.putSlot e.1 { s.slot e.1 with latches := (frameKey x seq, l) :: (s.slot e.1).latches.take 7 }
    else s) s

/-- Half h takes the new frame of stream x, where a part of it starts. -/
def State.openHalf (s : State) (p : Plan) (x : PlanStream) (seq tide sof h : Nat) : State :=
  let free := !x.isMemory || s.slotFree x.stream h
  let parts := s.newParts p x h free
  let s := if free || (x.partsIn h).isEmpty then s else s.putStream x.stream { s.stream x.stream with overrun := true }
  let s := s.putStream x.stream { s.stream x.stream with
    parts := (s.stream x.stream).parts ++ parts.map fun q => { cove := q.cove, status := q.status : PartSt } }
  if !parts.any (fun q => q.status.isNone) then s
  else
    let slot := s.nextSlot x.stream h
    let base := s.rawBase x.stream h + slot * (x.activeLines * x.exposures * rawStride x.packing x.width)
    let f : HalfFrame :=
      { half := h, stream := x.stream, seq, tide, sof, family := x.family, sentinel := x.sentinel, cls := x.cls, memory := x.isMemory,
        split := x.isSplit, width := x.width, lines := x.activeLines, exposures := x.exposures, packing := x.packing,
        suppress := s.stLatched x.stream StreamTab.ST_ROUTE_PARTIAL_SUPPRESS == 1, parts, outs := newOuts p x h, slot, base }
    let y := s.stream x.stream
    let s := if x.isMemory then s.putStream x.stream { y with rawNext := y.rawNext.set h ((slot + 1) % max 1 (s.vcLatched x.stream Inlet.RAW_CFG_RAW_FRAMES)) } else s
    let s := { s with frames := s.frames ++ [f] }
    (parts.filter (fun q => q.status.isNone)).foldl (fun s q => s.openPart q.cove x.stream seq) s

/-- An accepted frame start of stream x (R173 to R176, R186). -/
def State.startFrame (s : State) (p : Plan) (x : PlanStream) (i : InletItem) : State :=
  let n := x.stream / 4
  let pg := inPage n
  let st := s.stream x.stream
  let seq := (s.st x.stream StreamTab.ST_SEQ_SEQ + 1) % 2 ^ 32
  let tide := s.famTide x.family
  let sof := nearestNs i.stamp % 2 ^ 64
  let rate := st.lastTide == some tide
  let s := ((s.stPut x.stream StreamTab.ST_SEQ_SEQ seq).stPut x.stream StreamTab.ST_SOF_LO_TIME sof).stPut x.stream StreamTab.ST_SOF_HI_TIME (sof / 2 ^ 32)
  let s := s.stPut x.stream StreamTab.ST_STAT_ROWS 0
  let s := s.putStream x.stream { st with
    lastTide := some tide, silent := 0, silentNow := false, plan := some x, num := i.num, tide, latch := s.latch [pg, stPage x.stream],
    parts := [], counts := [0, 0, 0, 0], lineErr := false, embedded := 0, overrun := false, xlate := false, inlineOver := false, headers := [],
    rowFirst := none, rowLast := none, startAt := i.stamp, checkRead := none, gapDue := false,
    awaited := some (st.firstGap.map (i.stamp + ·)) }
  let poly := s.vcLatched x.stream Inlet.SCHK_CFG_POLY
  let s := s.putStream x.stream { s.stream x.stream with checkCrc := if poly = 2 then 0xFFFF else 0xFFFFFFFF }
  let s := s.eventIf (s.vcLatched x.stream Inlet.IN_VC_CFG_EXP_VC == 1 && decide (4 < x.stream % 4 + x.exposures)) pg 6
  let s := (s.latchSlots x.stream seq).syncFrameStart x.stream tide sof
  let s := s.eventIf rate pg 7
  let held := rate || st.gapDue || s.inlineHeld x || s.stLatched x.stream StreamTab.ST_ROUTE_EN == 0
  let s := if held then s else [0, 1].foldl (fun s h => s.openHalf p x seq tide sof h) s
  let started := (s.stream x.stream).parts.any (fun q => q.status.isNone)
  let s := [0, 1].foldl (fun (s : State) h =>
    if x.isSentinel && (s.stream x.stream).parts.any (fun q => q.cove / 8 == h && q.status == some 3) then
      (s.noteHalf h fun t => { t with partBad := true }).sentinelPart x.stream h
    else s) s
  let s := s.stPut x.stream StreamTab.ST_STAT_STATE (if started then 1 else 2)
  let s := if started then s
    else ((s.stCount x.stream StreamTab.ST_CNT1_DISCARDED).event pg 3).putStream x.stream { s.stream x.stream with parts := [], awaited := none }
  s.judgeInlet n

/-- Take the item at the head of port n's flow, where it is of kind k. -/
def State.takeItem (s : State) (n : Nat) (k : PacketKind) : Option (InletItem × State) := match (s.port n).inbox with
  | [] => none
  | i :: rest => if i.kind = k then some (i, s.putPort n { s.port n with inbox := rest }) else none

/-- FRAME_START: the frame start packet at the head of port n's flow (R172, R173). -/
def execFrameStart (n : Fin 40) (s : State) : Result :=
  .next <| match s.takeItem n .frameStart with
    | none => s
    | some (i, s) =>
      let x := 4 * n.val + i.vc
      let s := if s.streamState x = 1 then (s.closeStream x false 0).countSat (inPage n) Inlet.IN_ERR2_FRAMING else s
      if (s.claimer n i.vc).isSome then s
      else match s.tide.livePlan, s.streamPlan x with
        | some p, some e => s.startFrame p e i
        | _, _ => s

/-! ## Pixel packets (R168, R171, R180, R182, R183) -/

/-- What a check of a pixel packet makes of its payload (R171, orders 2 to 6): the bytes of the line, a line error, and what it counts. -/
inductive LineCheck where
  | good | broken | wrongType | badCrc | long | short
deriving DecidableEq, Repr

/-- The data type of a packing (R171). -/
def packingType (k : Nat) : Nat := match k with | 0 => 0x2B | 1 => 0x2C | _ => 0x2E

/-- Checks 2 to 6 of R171. -/
def checkLine (x : PlanStream) (i : InletItem) : LineCheck :=
  let need := packedBytes x.packing x.width
  if i.broken then .broken
  else if i.dt ≠ packingType x.packing then .wrongType
  else if !i.crcOk then .badCrc
  else if need < i.data.length then .long
  else if i.data.length < need then .short
  else .good

/-- The bytes that a checked line has: cut, or filled with samples of value 0. -/
def LineCheck.bytes (c : LineCheck) (need : Nat) (b : List Byte) : List Byte := match c with
  | .wrongType => List.replicate need 0
  | _ => sliceBytes b 0 need

/-- Is the line in error? -/
def LineCheck.bad : LineCheck → Bool
  | .good => false
  | .long => false
  | _ => true

/-- Count what a check found (R171, R193, R194). -/
def State.countLine (s : State) (x : Nat) (c : LineCheck) : State :=
  let pg := inPage (x / 4)
  let s := match c with
    | .broken => s.countSat pg Inlet.IN_ERR1_BROKEN
    | .wrongType => s.stCount x StreamTab.ST_CNT3_DT_MISMATCH
    | .badCrc => s.countSat pg Inlet.IN_ERR1_CRC_ERR
    | .long => s.stCount x StreamTab.ST_CNT2_GEOM
    | _ => s
  if c.bad then s.stCount x StreamTab.ST_CNT2_LINE_ERR else s

/-- The input store of Cove n takes an exposure line of an in-line part (R183), in chunks of 256 columns (R271); a line that finds two
rows in the store is lost, and the part ends before its row. -/
def State.storeLine (s : State) (x n row e : Nat) (codes : List Nat) : State :=
  let seq := s.st x StreamTab.ST_SEQ_SEQ
  match s.partOf n x seq with
  | none => s
  | some (f, p) =>
    let c := s.cove n
    let rows := (c.store.map fun u => (u.seq, u.run.row)).eraseDups
    if !rows.contains (seq, row) && decide (2 ≤ rows.length) then
      let s := s.putStream x { s.stream x with inlineOver := true }
      (s.endPart x n 1 row).judgeInlet (x / 4)
    else
      let (a, w) := p.received f
      let units := (List.range ((w + 255) / 256)).map fun i =>
        ({ stream := x, seq, run := { row, e, col0 := a + 256 * i, codes := (codes.drop (a + 256 * i)).take (min 256 (w - 256 * i)) },
           ready := s.time.c } : CoveUnit)
      s.putCove n { c with store := c.store ++ units }

/-- A checked line goes to every running part (R183, R184). -/
def State.deliverLine (s : State) (x : PlanStream) (row e : Nat) (first bad : Bool) (b : List Byte) : State :=
  let seq := s.st x.stream StreamTab.ST_SEQ_SEQ
  let running := (s.stream x.stream).parts.filter (fun p => p.status.isNone)
  let halves := [0, 1].filter (fun h => running.any (fun p => p.cove / 8 == h))
  let mark := fun (f : HalfFrame) =>
    { f with errs := if bad then f.errs ++ [4 * row + e] else f.errs, whole := (s.stream x.stream).wholeRows }
  let s := halves.foldl (fun s h => s.modFrame h x.stream seq mark) s
  if x.isMemory then
    halves.foldl (fun s h =>
      let s := s.rawWrite h x.stream seq row e b
      let s := if first then s.announceRow h x.stream seq row else s
      s.settleRows h x.stream seq) s
  else
    let codes := unpackLine x.packing b
    running.foldl (fun s p => s.storeLine x.stream p.cove row e codes) s

/-- The Inlet measures header times and predicts the next header (R180). -/
def State.timeHeader (s : State) (x : PlanStream) (row e stamp : Nat) : State :=
  let st := s.stream x.stream
  let prev := st.headers[x.exposures - 1]?
  let periods := match e, st.rowLast with
    | 0, some t => ((stamp - t) :: st.periods).take 8
    | _, _ => st.periods
  let period := match periods with
    | [] => none
    | a :: r => some (r.foldl min a)
  let headers := (stamp :: st.headers).take 5
  let last := decide (x.activeLines * x.exposures ≤ (st.counts.foldl (· + ·) 0))
  let next := match headers[x.exposures - 1]?, period with
    | some t, some q => some (t + q)
    | _, _ => none
  let s := s.putStream x.stream { st with
    headers, periods, rowFirst := if row = 0 ∧ e = 0 then some stamp else st.rowFirst, rowLast := if e = 0 then some stamp else st.rowLast,
    firstGap := if st.headers.isEmpty ∧ prev = none then some (stamp - st.startAt) else st.firstGap,
    awaited := if last then none else some next }
  match period with
  | some q => s.stPut x.stream StreamTab.ST_LINE_PERIOD_NS (nearestNs q)
  | none => s

/-- A step of the sensor check's code (R433, R442), without its last inversion. -/
def checkStep (poly crc : Nat) (b : List Byte) : Nat := match poly with
  | 0 => crcLsb 0x82F63B78 crc b
  | 1 => crcLsb 0xEDB88320 crc b
  | _ => crcMsb 16 0x1021 crc b

/-- A pixel packet of the open frame of stream x, of exposure `ve` where exposures come by channel. -/
def State.pixelLine (s : State) (x : PlanStream) (ve : Option Nat) (i : InletItem) : State :=
  let st := s.stream x.stream
  let poly := s.vcLatched x.stream Inlet.SCHK_CFG_POLY
  let st := { st with checkCrc := checkStep poly st.checkCrc i.data }
  let s := s.putStream x.stream st
  let j := st.counts.foldl (· + ·) 0
  let (row, e) := match ve with
    | some e => (st.counts.getD e 0, e)
    | none => (j / x.exposures, j % x.exposures)
  if x.activeLines ≤ row then s.stCount x.stream StreamTab.ST_CNT2_GEOM
  else
    let c := checkLine x i
    let s := s.countLine x.stream c
    if c.bad && s.stLatched x.stream StreamTab.ST_ROUTE_ERR_END == 1 then s.closeStream x.stream false 2
    else
      let first := decide (st.counts.foldl max 0 ≤ row)
      let s := s.putStream x.stream { st with counts := st.counts.modify e (· + 1), lineErr := st.lineErr || c.bad }
      let s := s.timeHeader x row e i.stamp
      let s := s.stPut x.stream StreamTab.ST_STAT_ROWS (s.stream x.stream).wholeRows
      s.deliverLine x row e first c.bad (c.bytes (packedBytes x.packing x.width) i.data)

/-- PIXEL_PACKET: the pixel packet at the head of port n's flow (R171, R172). -/
def execPixelPacket (n : Fin 40) (s : State) : Result :=
  .next <| match s.takeItem n .pixel with
    | none => s
    | some (i, s) =>
      let u := (s.claimer n i.vc).getD i.vc
      let x := 4 * n.val + u
      match s.streamState x, s.framePlan x with
      | 1, some p =>
        let byChannel := Latch.field (s.stream x).latch (inPage n) (Inlet.IN_VC_CFG_EXP_VC.nth u) == 1 && decide (u + p.exposures ≤ 4)
        s.pixelLine p (if byChannel then some (i.vc - u) else none) i
      | _, none => s
      | _, some _ => s.stCount x StreamTab.ST_CNT3_LATE_DROP

/-! ## Embedded data, frame end, line timeout, GAP (R172, R177, R178, R202, R433) -/

/-- The bytes of a value in an embedded packet (R433): none where the packet is broken, fails its check or is too short. -/
def checkValue (i : InletItem) (off n order : Nat) : Option Nat :=
  if i.broken || !i.crcOk || decide (i.data.length < off + n) then none
  else some (if order = 0 then ofBytesBE ((i.data.drop off).take n) else ofBytesLE ((i.data.drop off).take n))

/-- What the sensor check reads from an embedded packet of stream x (R433). -/
def State.checkEmbedded (s : State) (x : Nat) (i : InletItem) : State :=
  let st := s.stream x
  let r := s.vcLatched x
  if r Inlet.SCHK_CFG_EN = 0 || r Inlet.SCHK_CFG_LINE ≠ st.embedded then s
  else
    let n := if r Inlet.SCHK_CFG_POLY = 2 then 2 else 4
    let value := checkValue i (r Inlet.SCHK_CFG_OFFSET) n (r Inlet.SCHK_CFG_ORDER)
    let count := checkValue i (r Inlet.SCHK_CNT_OFF_CNT_OFFSET) (r Inlet.SCHK_CFG_CNT_BYTES + 1) (r Inlet.SCHK_CFG_ORDER)
    let read := if r Inlet.SCHK_CFG_CNT_EN = 0 then value.map fun v => (v, none)
      else match value, count with
        | some v, some c => some (v, some c)
        | _, _ => none
    s.putStream x { st with checkRead := read }

/-- EMBEDDED_PACKET: the embedded data packet at the head of port n's flow. -/
def execEmbeddedPacket (n : Fin 40) (s : State) : Result :=
  .next <| match s.takeItem n .embedded with
    | none => s
    | some (i, s) =>
      if (s.claimer n i.vc).isSome then s
      else
        let x := 4 * n.val + i.vc
        if s.streamState x = 1 then
          let s := (s.syncEmbedded x i).checkEmbedded x i
          s.putStream x { s.stream x with embedded := (s.stream x).embedded + 1 }
        else if (s.streamPlan x).isSome then s.stCount x StreamTab.ST_CNT3_LATE_DROP
        else s

/-- FRAME_END: the frame end packet at the head of port n's flow. -/
def execFrameEnd (n : Fin 40) (s : State) : Result :=
  .next <| match s.takeItem n .frameEnd with
    | none => s
    | some (i, s) =>
      let x := 4 * n.val + i.vc
      if (s.claimer n i.vc).isSome then s
      else match s.streamState x with
        | 1 =>
          let st := s.stream x
          let s := if i.num = st.num then s else s.countSat (inPage n) Inlet.IN_ERR2_FRAMING
          s.closeStream x (st.plan.any fun p => decide (p.activeLines ≤ st.wholeRows)) 0
        | 2 => if (s.streamPlan x).isSome then s.stCount x StreamTab.ST_CNT3_LATE_DROP else s
        | _ => if (s.streamPlan x).isSome then s.countSat (inPage n) Inlet.IN_ERR2_FRAMING else s

/-- LINE_TIMEOUT: LINE_TO_US has passed without an accepted packet of the open frame of stream x (R177). -/
def execLineTimeout (x : Fin 160) (s : State) : Result := .next <| s.truncateStream x 2

/-- GAP_MARK: the GAP mark at the head of port n's flow (R178). -/
def execGapMark (n : Fin 40) (s : State) : Result :=
  .next <| match s.takeItem n .gap with
    | none => s
    | some (_, s) =>
      let s := ([0, 1, 2, 3].map (4 * n.val + ·)).foldl (fun s x =>
        if s.streamState x = 1 then s.closeStream x false 2
        else if (s.streamPlan x).isSome then s.stPut x StreamTab.ST_STAT_STATE 2
        else s) s
      (s.countSat (inPage n) Inlet.IN_GAPS_COUNT).event (inPage n) 4

/-! ## The raw ring's writes come back (R185, R296) -/

/-- The parts in half h of a frame that the Inlet has closed end as truncated before a row (R185). -/
def State.truncateParts (s : State) (h x seq row : Nat) : State :=
  let mine := fun (p : CovePart) => (p.status == some 0 || p.status == some 1) && decide (row < p.rows)
  match s.frame h x seq with
  | none => s
  | some f =>
    let cut := fun p => if mine p then { p with status := some 1, rows := row, limit := some row } else p
    let s := (s.countChange h x seq cut).modFrame h x seq fun f => { f with parts := f.parts.map cut }
    ((f.parts.filter mine).foldl (fun s p => s.abortRows p.cove x seq row) s).frameAdvance h x seq

/-- A raw write of half h has ended: the row may be complete; one that faults in translation ends the parts of the half. -/
def State.rawResult (s : State) (h : Nat) (r : MemResult) : State :=
  match s.takeResult h 0 r.source r.tag with
  | none => s
  | some (r, s) =>
    let x := r.source
    let seq := r.tag / 2 ^ 18
    let key := r.tag % 2 ^ 18
    let less := fun (w : Nat × Nat) => if w.1 = key then (w.1, w.2 - 1) else w
    let s := s.modFrame h x seq fun f => { f with writes := (f.writes.map less).filter (fun w => w.2 != 0) }
    let row := key / 4
    let last := s.st x StreamTab.ST_SEQ_SEQ == seq
    let s := if r.cause = 0 ∨ 0x10 ≤ r.cause then s
      else
        let s := if last then (s.putStream x { s.stream x with xlate := true }).judgeInlet (x / 4) else s.occur (inPage (x / 4)) 2
        if last && s.streamState x == 1 then
          ((s.stream x).parts.filter (fun p => p.status.isNone && p.cove / 8 == h)).foldl (fun s p => s.endPart x p.cove 1 row) s
        else s.truncateParts h x seq row
    s.settleRows h x seq

end Sys2Proof.Machine
end

