-- ==== Sys2Proof/Machine/Memory.lean ====
section
/-!
DEFINITION. Sys2Proof/Machine/Memory.lean: the way of a request through a Harbour half, from its entry to its end (R288, R291, R294, R301,
R302, R305), and what its end brings for the unit that made it.
-/
namespace Sys2Proof.Machine

/-- Do two requests overlap? -/
def MemReq.overlaps (a b : MemReq) : Bool := decide (a.ba < b.ba + b.size) && decide (b.ba < a.ba + a.size)

/-- Are two requests of one requester, so that overlapping ones keep their order (R291)? -/
def MemReq.same (a b : MemReq) : Bool := a.requester == b.requester && a.source == b.source && a.overlaps b

/-- The result that a unit finds of a request is one that its chapter deals with at once (R185, R234, R258, R299). -/
def State.takeOne (s : State) (h : Nat) (r : MemResult) : State := match r.requester with
  | 0 => s.rawResult h r
  | 1 => s.coveResult h r
  | 3 => s.sliceResult h r
  | 4 => s.aperResult h r
  | _ => s

/-- Every unit of half h deals with what has ended. -/
def State.takeUp (s : State) (h : Nat) : State := (s.harb h).results.foldl (fun s r => s.takeOne h r) s

/-- Is a job, by its requester and its source, one of a sentinel stream (R457)? -/
def State.sentinelJob (s : State) (requester source : Nat) : Bool :=
  if requester = 2 then s.sentinelChannel source else (s.streamPlan source).any (·.isSentinel)

/-- A request of a job ends in a failure that is not a time-out: its job fails (R302, R312). -/
def State.countJobFail (s : State) (h : Nat) (r : MemReq) (cause : Nat) : State :=
  if r.entry.isSome && (decide (0 < cause) && decide (cause ≤ 0x10)) then
    let s := s.countSat (hbPage h 6) Harbour.JOB_FAIL_COUNT
    if s.sentinelJob r.requester r.source then s.selfCheck h 4 else s
  else s

/-- A request that waits to enter lacks the credit for its table reads: it counts once (R292, R293). -/
def State.deferAsk (s : State) (h i : Nat) (r : MemReq) : State :=
  let n := 8 * (s.walkReads h r.ba).length
  if r.deferred || s.withinCredit h r.cls n || s.surplusOk h r.cls n then s
  else
    let s := s.countSat (hbPage h 5) (Harbour.CLS_DEFER_COUNT.nth r.cls)
    s.putHarb h { s.harb h with asks := (s.harb h).asks.set i { r with deferred := true } }

/-- A request that has entered ends in a translation fault (R305): one whose entry has failed since ends for nothing (R301). -/
def State.failRequest (s : State) (h : Nat) (r : MemReq) (cause : Nat) : State :=
  let (late, s) := s.requestBack r
  if late then s else ((s.endRequest h r cause []).countJobFail h r cause).takeUp h

/-- MEM_REQUEST: the i-th waiting request of half h enters (R291, R303): it is translated and queued, or ends in a translation fault. `walk` is what
the check found in each table read of its walk. A Drift request whose address now leads to host memory goes back to its channel. -/
def execMemRequest (h : Fin 2) (i : Nat) (walk : List EccResult) (s : State) : Result :=
  .next <|
    let x := s.harb h
    match x.asks[i]? with
    | none => s
    | some r =>
      if !s.ready ⟨.harbour, h, 0⟩ || (x.asks.take i).any (fun a => a.same r) then s
      else if !s.walkServed h r.ba r.cls then s.deferAsk h i r
      else
        let s := s.putHarb h { x with asks := x.asks.eraseIdx i }
        let fault := fun (s : State) cause level =>
          (s.xlateFault h r.requester r.source r.ba r.write.isSome cause level).failRequest h r cause
        match s.translateFor h r.cls r.ba r.write.isSome (r.requester == 2) walk with
        | (.error (cause, level), s) => fault s cause level
        | (.ok (true, _), s) => s.failRequest h r 0x30
        | (.ok (false, pa), s) => s.enterReq h r pa

/-- The latency of a request counts (R294, R311): in ns; a sentinel request within credit beyond its bound. -/
def State.countLatency (s : State) (h : Nat) (r : MemReq) : State :=
  let t := s.time.c - r.entered
  let x := s.harb h
  if r.cls = 4 then s
  else
    let late := r.cls == 0 && r.level == some 2 && decide ((640 * 1152 + r.ahead * 10 : Nat) < t * 1152)
    let s := s.putHarb h { x with tideLat := x.tideLat.modify r.cls (max t), tideLate := x.tideLate || late }
    if late then s.report (hbPage h 5) 0 else s

/-- MEM_REQUEST_DONE: request `id` of half h, served by every channel it needs, ends (R288, R291, R301): a write is in memory; a read
brings its bytes, or fails. `ecc` is what the inline-ECC check found, at offsets of the read; `linkCorr` counts the read-link corrections of each
channel (R287). -/
def execMemRequestDone (h : Fin 2) (id : Nat) (ecc : List (Nat × EccResult)) (linkCorr : List Nat) (s : State) : Result :=
  .next <|
    let x := s.harb h
    match x.reqs.find? (fun r => r.id == id) with
    | none => s
    | some r =>
      if !r.pieces.isEmpty || x.reqs.any (fun q => decide (q.id < r.id) && q.same r) then s
      else
        let s := (s.putHarb h { x with reqs := x.reqs.filter (fun q => q.id != id) }).countLatency h r
        let read := r.write.isNone
        let links := (piecesOf r.pa r.size).filter fun e => read && hasBit x.linkEcc e.1
        let s := links.foldl (fun (s : State) e => s.countSat (hbPage h (1 + e.1)) Harbour.CH_LINK_RD_CORR (linkCorr.getD e.1 0)) s
        let found := ecc.filter fun e => read && s.flag (hbPage h 0) Harbour.HB_STAT_ECC_ON && decide (e.1 < r.size)
        let s := found.foldl (fun (s : State) e => s.eccApply h (r.pa + e.1) e.2) s
        let bad := found.any (·.2 == .uncorrectable)
        let s := match r.write with
          | some b => s.memWrite h r.pa b
          | none => s
        let (late, s) := s.requestBack r
        if late then s
        else
          let cause := if bad then 0x10 else 0
          let bytes := if read && !bad then s.memRead h r.pa r.size else []
          ((s.endRequest h r cause bytes).countJobFail h r cause).takeUp h

/-- JOB_TIMEOUT: entry e has stayed in ISSUED or ACTIVE for TO_US (R302): it fails. -/
def execJobTimeout (e : Fin 131072) (s : State) : Result :=
  .next <|
    let j := s.job e
    let late := j.state == 3 || j.state == 6
    let s := (s.jobTimeout e).takeUp (entryHalf e)
    if late && s.sentinelJob j.kind (if j.kind = 2 then j.col0 else j.stream) then s.selfCheck (entryHalf e) 4 else s

end Sys2Proof.Machine
end

