-- ==== Sys2Proof/Machine/Resets.lean ====
section
/-!
DEFINITION. Sys2Proof/Machine/Resets.lean: what a block reset does to an instance (R45, R302, R337, R360, R481, R628) and the quiet window it
opens (R484).
-/
namespace Sys2Proof.Machine

/-- Every block with page headers. -/
def Block.all : List Block :=
  [.chip, .tidemark, .breakwater, .beacon, .seawall, .lighthouse, .sounding, .fastStatus, .weatas, .csiRx, .csiTx, .inlet, .streamTab,
   .jetty, .mac, .bridge, .pcie, .lp, .cove, .harbour, .drift]

/-- Every instance of the device, by its first page. -/
def allInstances : List PageRef := Block.all.flatMap fun b => (List.range b.instances).map fun n => ⟨b, n, 0⟩

/-- The instances that a power domain serves (R557). -/
def instancesOf (d : Nat) : List PageRef := allInstances.filter (fun r => r.domain == d)

/-- The pages of an instance. -/
def PageRef.pageList (r : PageRef) : List Nat := (List.range r.block.pages).map fun p => r.block.page r.inst p

/-- Does a window offset lie in an instance: in its pages, or in a Harbour's part of the job table (R83)? -/
def PageRef.captures (r : PageRef) (off : Nat) : Bool :=
  r.pageList.contains (off / 0x1000) || (r.block == .harbour && inJobWindow (off / 0x1000) && entryHalf ((off - 0xA00000) / 16) == r.inst)

/-- Commits of a page that is reset (R45). -/
def State.dropCommit (s : State) (pg : Nat) : State :=
  let lost := s.flag pg Hdr.COMMIT_PENDING || s.flag pg Hdr.COMMIT_CAPTURED
  let s := { s with commit := { s.commit with captured := SMap.set (fun _ => []) s.commit.captured pg [] } }
  let s := (s.put pg Hdr.COMMIT_PENDING 0).put pg Hdr.COMMIT_CAPTURED 0
  if lost then s.putGrp Tidemark.GRP_STAT_PAGE_LOST (s.get pg Hdr.COMMIT_GROUP) 1 else s

/-- Fields of a page that every block reset leaves as they are (R628). Declared retained: the always-on records (R565, R581), BW_CTRL.LOCK (R494),
tide and spring counts (R32). DESIGN CHOICE for the others: they show what a reset of their page does not touch (fuses, strap, boot; supplies,
domains and clocks; the plan and the submission in hand; the training of the memory channels; ERR_N, ERR_TOG and the quiet windows). -/
def shownFields (b : Block) (idx : Nat) : List Field := match b, idx with
  | .chip, 0 => [Chip.CHIP_CFG_FUSE_ERR, Chip.CHIP_CFG_FACTORY, Chip.CHIP_CFG_HOST_MODE]
  | .chip, 2 => [Chip.PM_STAT_STATE, Chip.PM_WAKE_CAUSE_TIMER, Chip.PM_WAKE_CAUSE_WAKE_N, Chip.AVS_STAT_VACK_MV, Chip.SUP_STAT_IN_WINDOW]
  | .chip, 3 => [Chip.PD_CTRL_ACK]
  | .chip, 5 => [Chip.CLK_STAT_REF_OK, Chip.CLK_STAT_PCIE_REF_OK, Chip.CLK_STAT_ON_INTERNAL, Chip.CLK_STAT_LOCKED]
  | .chip, 7 => Chip.p7Fields
  | .chip, 8 => [Chip.BOOT_STAT_STATE, Chip.BOOT_STAT_SLOT, Chip.BOOT_STAT_HMODE, Chip.BOOT_STAT_SEG, Chip.BOOT_STAT_ERR, Chip.BOOT_IMG_VER_VER,
      Chip.BOOT_KEY_ID_ID, Chip.BOOT_NEXT_NEXT_B]
  | .chip, 9 => Chip.p9Fields
  | .chip, 14 => [Chip.FT_STAT_PIN]
  | .breakwater, 0 => [Breakwater.BW_CTRL_LOCK, Breakwater.BW_STAT_TERMINAL, Breakwater.BW_STAT_ERR_DRIVEN, Breakwater.BW_STAT_ERR_BALL,
      Breakwater.BW_STAT_TOG_RUNNING, Breakwater.BW_STAT_QUIET, Breakwater.BW_RESET_SRC_VALID, Breakwater.BW_RESET_SRC_SEV,
      Breakwater.BW_RESET_SRC_SOURCE, Breakwater.BW_TERM_SRC_VALID, Breakwater.BW_TERM_SRC_SOURCE, Breakwater.BW_TERM_TIME_LO_TIME,
      Breakwater.BW_TERM_TIME_HI_TIME]
  | .tidemark, 1 => Tidemark.p1Fields.filter (fun f => f.acc == .ro)
  | .harbour, 0 => [Harbour.HB_STAT_CH_UP, Harbour.HB_CAP_CH_GIB, Harbour.HB_CAP_DATA_MIB]
  | .harbour, p => if 1 ≤ p ∧ p ≤ 4 then [Harbour.CH_STAT_DEV_GIB, Harbour.CH_STAT_REF_MULT, Harbour.CH_STAT_SR, Harbour.CH_STAT_TRAINED] else []
  | _, _ => []

/-- Does a block reset leave a place as it is (R628)? The header's; what the plan in force says (R50); the shown fields; the one command ring
and the one set of loops of all pairs (R547); on the controller pages of a port, all but RW fields, unless the reset is a power-off (R85, R360). -/
def fieldKept (r : PageRef) (powerOff : Bool) (key : Nat) : Bool :=
  let bit := key % 0x4000
  let off := bit / 32 * 4
  let here := fun (f : Field) => f.lo == bit % 32 && f.covers off
  let is := fun (a : Access) => r.fields.any (fun f => f.acc == a && here f)
  decide (off < 0x40) || is .plan || (shownFields r.block r.idx).any here || (r.block == .lp && (r.idx == 1 || r.idx == 2)) ||
    (r.block == .pcie && !powerOff && !is .rw)

/-- The block-specific fields of a page return to their reset values, shadow and live alike (R628). -/
def State.resetFields (s : State) (r : PageRef) (powerOff : Bool) : State :=
  let pg := r.block.page r.inst r.idx
  { s with regs := s.regs.filter fun (e : Nat × Nat) => e.1 / 0x8000 != pg || fieldKept r powerOff e.1 }

/-- The streams of port n start again: the Inlet takes nothing up of what it had (R170). -/
def State.resetPort (s : State) (n : Nat) : State :=
  let s := [0, 1, 2, 3].foldl (fun (s : State) v => s.truncateStream (4 * n + v) 2) s
  ((s.putPort n {}).putSync n {}).judgeInlet n

/-- What Cove n holds is gone (R188, R272, R429): its parts are cut, and every context starts again. -/
def State.resetCove (s : State) (n : Nat) : State :=
  let s := (s.cutCove n).dropOps n (fun _ => true)
  let led := s.frames.filter (fun f => f.stat == 1 && f.lead.any (fun p => p.cove == n))
  let s := led.foldl (fun (s : State) f => (s.modFrame f.half f.stream f.seq fun f => { f with stat := 2 }).retire f.half f.stream f.seq) s
  let s := s.putCove n { nextTag := (s.cove n).nextTag }
  (List.range 8).foldl (fun (s : State) c => s.lhRestart n c) s

/-- Processors go down: the commands they run are lost, and so are those that wait for a step on one of them (R539). -/
def State.loseSteps (s : State) (p : Nat → Bool) (h : Nat) : State :=
  let entries := s.cores.entries.map fun e =>
    if e.started && (p e.lp || e.far.any p) then { e with lost := some (e.lost.getD h), far := none } else e
  { s with cores := { s.cores with entries } }

/-- Pair k goes into reset (R519, R528, R539): its interrupts are let go, its commands are lost, it takes none until it has rebooted. -/
def State.pairDown (s : State) (k : Nat) : State :=
  let c := s.cores
  let s := { s with cores := { c with mie := clearBit c.mie k, down := setBit c.down k } }
  (s.loseSteps (· == k) (k / 2)).beaconDropLp k

/-- What the Tidemark holds of commits is gone: the arms of software, and what captured groups captured (R45). -/
def State.dropGroups (s : State) : State :=
  let s := { s with commit := { s.commit with swArm := [] } }
  (List.range 64).foldl (fun (s : State) g => if s.grpFlag Tidemark.GRP_STAT_CAPTURED g then
    (s.pagesOf Hdr.COMMIT_CAPTURED g).foldl (fun (s : State) pg => s.dropCommit pg) s else s) s

/-- A window starts again: its transactions end, and slots keep their generations, which start at 0 at chip reset alone (R376). DESIGN CHOICE: the
replies that are missing then leave LATE marks, as those of slots freed without one (R381). -/
def State.resetWindow (s : State) (n : Nat) : State :=
  let kept := (s.window n).slots.map fun (e : Nat × JettySlot) =>
    (e.1, ({ gen := if e.2.isOpen then (e.2.gen + 1) % 16 else e.2.gen, late := if e.2.isOpen && decide (n < 32) then some e.2.gen else e.2.late } : JettySlot))
  let s := s.jettyLinkDown n
  s.putWindow n { slots := kept.foldl (fun (m : SMap JettySlot) (e : Nat × JettySlot) => SMap.set (fun _ => {}) m e.1 e.2) [] }

/-- What an instance holds behind its registers at a reset of it. The MODES mask of a lane outlives it (R134). -/
def State.resetUnit (s : State) (r : PageRef) : State := match r.block with
  | .cove => s.resetCove r.inst
  | .lighthouse => (List.range 8).foldl (fun (s : State) c => s.lhRestart r.inst c) s
  | .sounding => s.dropTaps r.inst
  | .harbour => ((s.cutHarbour r.inst).harbourReset r.inst).takeUp r.inst
  | .drift => if s.chState r.inst = 0 || (s.ch r.inst).aborting then s else s.abortCh r.inst
  | .weatas => let s := s.laneOff r.inst; s.putLane r.inst { modes := (s.lane r.inst).modes }
  | .csiRx => (s.rxOff r.inst).putCsi r.inst {}
  | .csiTx => s.txOff r.inst
  | .inlet => s.resetPort r.inst
  | .streamTab => (List.range 160).foldl (fun (s : State) x => s.truncateStream x 2) s
  | .jetty => s.resetWindow r.inst
  | .mac => s.putMac r.inst {}
  | .bridge => { s with bridge := { slots := s.bridge.slots.map fun e => (e.1, { bound := e.2.bound }) } }
  | .pcie => s.resetFunction r.inst
  | .lp => s.pairDown r.inst
  | .beacon => { s with beacon := {} }
  | .tidemark => { s.dropGroups with time := { c := s.time.c } }
  | .seawall => { s with seawall := {} }
  | .chip | .breakwater | .fastStatus => s

/-- Conditions that a block reset does not end: they show what it does not touch, or are judged by `judgeAfresh`. -/
def condKept (r : PageRef) (powerOff : Bool) (b : Nat) : Bool := match r.block with
  | .chip => !(r.idx == 1 || r.idx == 12)
  | .breakwater => true
  | .tidemark => r.idx == 3 || (r.idx == 0 && b == 0)
  | .streamTab => b == 1
  | .weatas => b == 5 && !powerOff
  | .csiRx => b == 3 && !powerOff
  | .csiTx => b == 2
  | .harbour => r.idx == 0
  | .lp => r.idx == 0 && b < 2
  | .pcie => r.idx == 0 && (!powerOff || b == 1)
  | .mac => r.idx == 0
  | .beacon | .seawall | .lighthouse | .sounding | .fastStatus | .inlet | .jetty | .bridge | .cove | .drift => false

/-- Every other condition of a page is absent after a reset (R628). -/
def State.lowerAll (s : State) (r : PageRef) (powerOff : Bool) : State :=
  (List.range 32).foldl (fun (s : State) b => if condKept r powerOff b then s else s.lower (r.block.page r.inst r.idx) b) s

/-- Conditions that the instance's state after a reset gives (R628). -/
def State.judgeAfresh (s : State) (r : PageRef) : State := match r.block with
  | .tidemark => s.judgeTimeUnlocked.judgeSyncLost.judgeSlip.judgeRate
  | .inlet => (s.judgeInlet r.inst).judgeSyncLost.judgeRate
  | .mac => s.cond r.base 0 (s.flag r.base Hdr.CTRL_EN && !s.flag r.base Mac.MAC_STAT_LINK)
  | .pcie => ((s.judgeLink r.inst).judgeAer r.inst).judgeTags r.inst
  | .harbour => (s.mapCapacity r.inst).judgeTrain r.inst
  | .csiTx => s.judgeTx r.inst
  | .chip => s.lower 0x2 1
  | .breakwater | .streamTab | .weatas | .csiRx | .lp | .beacon | .seawall | .lighthouse | .sounding | .fastStatus | .jetty | .bridge | .cove | .drift => s

/-- The instances whose controller pages a reset of one resets: in x16 mode both are one port's (R360, R366). -/
def State.resetWith (s : State) (r : PageRef) : List PageRef :=
  if r.block = .pcie then (s.pcGroup r.inst).map fun n => ⟨.pcie, n, 0⟩ else [r]

/-- The effect of a reset on the pages of an instance (R628). -/
def State.resetPages (s : State) (r : PageRef) (powerOff : Bool) : State :=
  let en := s.get r.base Hdr.CTRL_EN
  let req := s.get r.base Hdr.CTRL_PWR_REQ
  let s := { s with wordCaptures := s.wordCaptures.filter fun c => !r.captures c.off }
  let s := ((List.range r.block.pages).map fun p => ({ r with idx := p } : PageRef)).foldl (fun (s : State) q =>
    let pg := q.block.page q.inst q.idx
    let s := ((s.dropCommit pg).lowerAll q powerOff).resetFields q powerOff
    (s.put pg Hdr.EVT_STAT_EVENT 0).put pg Hdr.EVT_EN_ENABLE 0) s
  (s.put r.base Hdr.CTRL_EN en).put r.base Hdr.CTRL_PWR_REQ req

/-- The effect of a reset on an instance, whatever brought it (R628); `powerOff` where its domain goes off (R85). -/
def State.resetInstance (s : State) (r : PageRef) (powerOff : Bool) : State :=
  let s := (if powerOff then [r] else s.resetWith r).foldl (fun (s : State) q => s.resetPages q powerOff) (s.resetUnit r)
  s.judgeAfresh r

/-- BW_STAT.QUIET shows the open windows (R484). -/
def State.showQuiet (s : State) : State := s.put 0x20 Breakwater.BW_STAT_QUIET (min 127 s.fault.quiet.length)

/-- A quiet window opens (R484). -/
def State.openQuiet (s : State) (base : Nat) : State :=
  let s := s.eventIf s.fault.quiet.isEmpty 0x20 1
  let rest := s.fault.quiet.filter (fun (w : Nat × Nat) => w.1 != base)
  ({ s with fault := { s.fault with quiet := (base, s.time.c) :: rest } }).showQuiet

/-- A quiet window closes (R484). -/
def State.closeQuiet (s : State) (base : Nat) : State :=
  if !s.fault.quiet.any (fun (w : Nat × Nat) => w.1 == base) then s
  else
    let rest := s.fault.quiet.filter (fun (w : Nat × Nat) => w.1 != base)
    let s := ({ s with fault := { s.fault with quiet := rest } }).showQuiet
    s.eventIf rest.isEmpty 0x20 2

/-- A block reset of an instance begins (R77, R484, R628); one that runs already goes on (R11). -/
def State.blockReset (s : State) (r : PageRef) : State :=
  if s.resetting r then s
  else
    let s := s.openQuiet r.base
    ({ s with power := { s.power with resetting := r.base :: s.power.resetting } }).resetInstance r false

/-- An instance that has come out of reset, or whose domain has come up, takes up its enable again (R76). -/
def State.unitUp (s : State) (r : PageRef) : State :=
  let on := s.flag r.base Hdr.CTRL_EN
  match r.block with
  | .weatas => if on then s.laneOn r.inst else s
  | .csiRx => if on then s.rxOn r.inst else s
  | .csiTx => let s := s.judgeTx r.inst; if on then s.txOn r.inst else s
  | .lp => s.put r.base Lp.LP_FW_STAT_STATE 1
  | .harbour => s.judgeOff r.inst
  | .pcie => s.trainPort r.inst
  | _ => s

/-- BLOCK_RESET_DONE: the block reset of the instance that page pg belongs to completes (R77, R628): READY returns to 1, and its quiet window
closes (R484). -/
def execBlockResetDone (pg : Fin 0x1400) (s : State) : Result :=
  .next <| match pageRef pg with
    | none => s
    | some r =>
      if !s.resetting r then s
      else
        let s := { s with power := { s.power with resetting := s.power.resetting.filter (· != r.base) } }
        let s := s.closeQuiet r.base
        if s.powered r.domain then s.unitUp { r with idx := 0 } else s

/-- QUIET_WINDOW_CLOSE: the quiet window of the instance that page pg belongs to has been open for 64 µs (R484). -/
def execQuietWindowClose (pg : Fin 0x1400) (s : State) : Result :=
  .next <| match pageRef pg with
    | none => s
    | some r => s.closeQuiet r.base

end Sys2Proof.Machine
end

