-- ==== Sys2Proof/Machine/Breakwater.lean ====
section
/-!
DEFINITION. Sys2Proof/Machine/Breakwater.lean: how an occurrence of a fault is judged, recorded and answered, and the error balls
(R476 to R502).
-/
namespace Sys2Proof.Machine

/-- Page 0 of the Breakwater. -/
def bwPage : Nat := 0x20

/-- A field of the configuration word of a source (R498). -/
def State.bwCfg (s : State) (src : Nat) (f : Field) : Nat := s.get (0x21 + src / 384) (f.nth (src % 384))

/-! ## The causes of a chip reset (R565, R579) -/

/-- A chip reset is to begin (R565); its cause is recorded as it does (`recordCauses`). -/
def State.startReset (s : State) (cause : Nat) : State := s.owe (.chipReset cause)

/-- RST_CAUSE bit of a cause. -/
def causeField : Nat → Field
  | 1 => Chip.RST_CAUSE_POR
  | 2 => Chip.RST_CAUSE_UV
  | 3 => Chip.RST_CAUSE_PIN
  | 4 => Chip.RST_CAUSE_WATCHDOG
  | 5 => Chip.RST_CAUSE_BREAKWATER
  | _ => Chip.RST_CAUSE_SOFTWARE

/-- The causes of chip resets that are to begin. -/
def State.causesDue (s : State) : List Nat := s.due.filterMap fun (d : Due) => match d with
  | .chipReset c => some c
  | .occurrence _ _ | .pulse _ | .msix _ _ | .trigger _ | .selfCheck _ _ => none

/-- A chip reset records its causes (R565): each sets its bit, the lowest is the last (R579); a CHIP reaction leaves its source and effective severity
(R492), of which a watchdog's names the pair. -/
def State.recordCauses (s : State) (causes : List Nat) (by_ : Option (Nat × Nat)) : State :=
  let last := causes.foldl min 7
  let s := causes.foldl (fun (s : State) c => s.put 0x7 (causeField c) 1) s
  let s := s.put 0x7 Chip.RST_LAST_CAUSE last
  let s := s.put 0x7 Chip.RST_LAST_LP (if last = 4 then ((by_.map (·.1)).getD 0 - 1312) / 16 else 0)
  match by_ with
  | none => s
  | some (src, sev) =>
    ((s.put bwPage Breakwater.BW_RESET_SRC_VALID 1).put bwPage Breakwater.BW_RESET_SRC_SEV sev).put bwPage Breakwater.BW_RESET_SRC_SOURCE src

/-! ## The error balls (R489 to R491) -/

/-- Does ERR_TOG toggle (R491, R600)? -/
def State.togRuns (s : State) : Bool :=
  s.flag bwPage Breakwater.BW_CTRL_TOG_EN && !s.power.inReset && !s.terminal && !s.flag bwPage Breakwater.BW_STAT_ERR_DRIVEN &&
    !s.condBit bwPage 0 && !s.fault.togOff

/-- ERR_TOG is driven low where it does not toggle (R491). -/
def State.judgeTog (s : State) : State :=
  let on := s.togRuns
  let s := s.put bwPage Breakwater.BW_STAT_TOG_RUNNING (bit on)
  if on then s else { s with fault := { s.fault with togLevel := false } }

/-- ERR_N is driven low (R490). -/
def State.driveErr (s : State) : State :=
  if s.flag bwPage Breakwater.BW_STAT_ERR_DRIVEN then s
  else
    let s := (s.put bwPage Breakwater.BW_STAT_ERR_DRIVEN 1).put bwPage Breakwater.BW_STAT_ERR_BALL 0
    ({ s with fault := { s.fault with errSince := s.time.c } }).judgeTog

/-- Is there a cause to drive ERR_N (R490, R615)? -/
def State.errHeld (s : State) : Bool :=
  s.terminal || s.factory || s.flt.any (fun (e : Nat × FltMarks) => (e.2.err &&& s.get e.1 Hdr.FLT_STAT_FAULT) != 0)

/-- The ERR_TOG driver returns once TOG_READBACK has been acknowledged and TOG_EN has been written 0 and then 1 (R491). -/
def State.tryTog (s : State) : State :=
  if s.fault.togOff && s.fault.togCleared && s.flag bwPage Breakwater.BW_CTRL_TOG_EN && (s.marks bwPage).settled 1 then
    (({ s with fault := { s.fault with togOff := false, togCleared := false } }).lower bwPage 1).judgeTog
  else s

/-- A write of BW_CTRL.TOG_EN (R491, R494). -/
def State.writeTogEn (s : State) (on : Bool) : State :=
  let s := s.put bwPage Breakwater.BW_CTRL_TOG_EN (bit on)
  let s := if !on && s.fault.togOff then { s with fault := { s.fault with togCleared := true } } else s
  s.tryTog.judgeTog

/-- The conditions that a dropped copy keeps up until a chip reset: of the route crossbar (R197) and of the Breakwater (R502). -/
def State.judgeCopies (s : State) : State :=
  (s.cond 0x160 1 (s.fault.dropped.contains 1)).cond bwPage 2 (s.fault.dropped.contains 3)

/-- ERR_N_RELEASE: ERR_MIN_US has passed since ERR_N was asserted, and no cause holds it (R490); `high` is the level the ball then has, which
another device may hold low. -/
def execErrNRelease (high : Bool) (s : State) : Result :=
  .next <| if !s.flag bwPage Breakwater.BW_STAT_ERR_DRIVEN || s.errHeld then s
    else
      let s := (s.put bwPage Breakwater.BW_STAT_ERR_DRIVEN 0).put bwPage Breakwater.BW_STAT_ERR_BALL (bit high)
      ((s.put 0xC Chip.ERRN_STAT_STUCK 0).lower 0xC 1).judgeTog

/-- ERR_TOG_TOGGLE: TOG_HALF_US after its last edge, ERR_TOG toggles while the device is healthy (R491). -/
def execErrTogToggle (s : State) : Result :=
  .next <|
    let s := s.judgeTog
    if s.togRuns then { s with fault := { s.fault with togLevel := !s.fault.togLevel } } else s

/-- TOG_READBACK: the ERR_TOG ball has differed from what is driven for 2 µs (R491, R600): the driver goes off. -/
def execTogReadback (s : State) : Result :=
  .next <| if s.fault.togOff then s
    else
      let s := { s with fault := { s.fault with togOff := true, togCleared := false } }
      ((s.countSat 0xC Chip.GPIO_MISMATCH_COUNT).report bwPage 1).judgeTog

/-! ## Quiet windows (R485) -/

/-- The channels of a plan's outputs that streams `p` have, of a half or of both. -/
def State.channelsFor (s : State) (p : PlanStream → Bool) (half : Option Nat) : List Nat := match s.tide.livePlan with
  | none => []
  | some q => (q.streams.filter p).flatMap fun x => ((q.outputsOf x).flatMap fun o => (channelsOf x o).map (·.1)).filter fun c =>
      half.all (fun h => c / 512 == h)

/-- Does a Sounding unit tap one of these channels (R439)? -/
def State.tapsOne (s : State) (u : Nat) (l : List Nat) : Bool :=
  s.flag (sdPage u) Sounding.SD_CFG_EN && l.contains (s.get (sdPage u) Sounding.SD_CFG_CHAN)

/-- Is one of these channels a member of a Drift group (R476)? -/
def inGroup (g : Nat) (l : List Nat) : Bool := l.any (fun c => c / 16 == g)

/-- Channels bound to a destination. -/
def State.channelsTo (s : State) (dest : Nat) : List Nat := match s.tide.livePlan with
  | none => []
  | some q => (q.indexedOutputs.filter (fun e => e.2.dest == dest)).flatMap fun (e : Nat × PlanOutput) =>
      ((q.entryChannels e.1 e.2).filter (fun t => t.2.1 == 1)).map (·.1)

/-- Does a source on page r depend on instance w, whose window is open (R485)? -/
def State.depends (s : State) (w r : PageRef) (src : Nat) : Bool :=
  let own := r.block == w.block && (if r.block == .drift then r.inst / 16 == w.inst / 16 else r.inst == w.inst)
  let sync := decide (52 ≤ src) && decide (src ≤ 54)
  let clock := decide (48 ≤ src) && decide (src ≤ 51)
  let group := fun (l : List Nat) => r.block == .drift && inGroup (r.inst / 16) l
  let n := w.inst
  let port := fun (k : Nat) => (r.block == .inlet || r.block == .jetty) && r.inst == k
  let feeds := s.live (chPage n) Drift.CH_BIND_DEST
  own || match w.block with
    | .weatas => port n || sync
    | .csiRx => port (32 + n) || sync
    | .csiTx => group (s.channelsTo (3 + n))
    | .inlet =>
      let mine := fun (x : PlanStream) => x.port == n
      sync || group (s.channelsFor mine none) || ((r.block == .cove || r.block == .lighthouse) &&
        s.tide.livePlan.any (fun q => q.streams.any (fun x => mine x && x.parts.contains r.inst)))
    | .cove =>
      let mine := fun (x : PlanStream) => x.parts.contains n
      let chans := s.channelsFor mine (some (n / 8))
      (r.block == .lighthouse && r.inst == n) || group chans || (r.block == .sounding && s.tapsOne r.inst chans) ||
        (r.block == .inlet && s.tide.livePlan.any (fun q => q.streams.any (fun x => mine x && x.port == r.inst)))
    | .harbour =>
      ([Block.cove, .lighthouse, .sounding, .drift].contains r.block && r.half == some n) ||
        (r.block == .inlet && s.tide.livePlan.any (fun q => q.streams.any (fun x => x.isMemory && x.halves.contains n && x.port == r.inst)))
    | .drift => (r.block == .sounding && s.tapsOne r.inst [n]) || (s.chPort n && (if feeds = 5 then r.block == .bridge
        else r.block == .csiTx && r.inst + 3 == feeds))
    | .pcie => r.block == .drift && r.half == some n
    | .mac | .bridge => clock || group (s.channelsTo 5)
    | .lp => clock || r.block == .jetty
    | .chip | .tidemark | .breakwater | .beacon | .seawall | .lighthouse | .sounding | .fastStatus | .streamTab | .jetty => false

/-- Is an occurrence of a source on page r consequential (R485)? -/
def State.isConsequential (s : State) (r : PageRef) (src sev : Nat) : Bool :=
  sev != 6 && r.block != .seawall && r.block != .breakwater && s.fault.quiet.any (fun (w : Nat × Nat) => match pageRef w.1 with
    | none => false
    | some q => s.depends q r src)

/-! ## Judgement (R478 to R483, R486, R492) -/

/-- The bits of a page with an unacknowledged occurrence, with their sources. -/
def unackSources (pg : Nat) (m : FltMarks) : List Nat := match pageRef pg with
  | none => []
  | some r => (List.range 32).filterMap fun b => if hasBit m.unack b then r.source b else none

/-- Is an occurrence of a class unacknowledged (R483)? -/
def State.classBusy (s : State) (cls : Nat) : Bool :=
  s.flt.any fun (e : Nat × FltMarks) => (unackSources e.1 e.2).any (fun src => s.bwCfg src Breakwater.SRC_CFG_CLASS == cls)

/-- Does a source hold an unacknowledged occurrence (R476)? -/
def State.sourceUnack (s : State) (src : Nat) : Bool := s.flt.any fun (e : Nat × FltMarks) => (unackSources e.1 e.2).contains src

/-- What the Breakwater makes of an occurrence: class, effective severity, reaction applied, escalated, consequential, recurring. -/
structure Verdict where
  src : Nat
  cls : Nat
  sev : Nat
  react : Nat
  esc : Bool
  conseq : Bool
  recur : Bool
deriving DecidableEq, Repr

/-- Judge an occurrence of a source on page r (R480, R483, R486, R493). -/
def State.verdict (s : State) (r : PageRef) (src : Nat) : Verdict :=
  let cls := s.bwCfg src Breakwater.SRC_CFG_CLASS
  let sev := s.bwCfg src Breakwater.SRC_CFG_SEV
  let code := s.bwCfg src Breakwater.SRC_CFG_REACT
  let conseq := s.isConsequential r src sev
  let esc := !conseq && cls != 63 && sev != 6 && s.classBusy cls
  let eff := if esc then max sev (min (sev + 1) (s.get bwPage Breakwater.BW_CFG_ESC_CAP)) else sev
  let own := if code = 0 then sev else code
  let spine := [Block.chip, .tidemark, .seawall, .breakwater].contains r.block
  let raw := max own eff
  let react := if conseq then (if code = 6 then 6 else 1) else if raw = 4 && spine then 5 else raw
  { src, cls, sev := eff, react := if react = 5 && s.terminal then 6 else react, esc, conseq, recur := s.sourceUnack src }

/-- The fields of LOG_INFO or BW_FIRST_INFO, in the order CONSEQ, ESC, RECUR, SEV, REACT, CLASS, SOURCE, take a verdict (R500). -/
def State.putVerdict (s : State) (pg : Nat) (fs : List Field) (v : Verdict) : State :=
  (fs.zip [bit v.conseq, bit v.esc, bit v.recur, v.sev, v.react, v.cls, v.src]).foldl (fun s (e : Field × Nat) => s.put pg e.1 e.2) s

/-- The log ring and the first record take an occurrence (R492). -/
def State.logVerdict (s : State) (v : Verdict) : State :=
  let count := s.get 0x26 Breakwater.BW_LOG_WR_COUNT
  let j := count % 64
  let t := s.now
  let s := s.putVerdict 0x26 ([Breakwater.LOG_INFO_CONSEQ, Breakwater.LOG_INFO_ESC, Breakwater.LOG_INFO_RECUR, Breakwater.LOG_INFO_SEV,
    Breakwater.LOG_INFO_REACT, Breakwater.LOG_INFO_CLASS, Breakwater.LOG_INFO_SOURCE].map (·.nth j)) v
  let s := (s.put 0x26 (Breakwater.LOG_INFO_VALID.nth j) 1).put 0x26 (Breakwater.LOG_TIME_LO_TIME.nth j) t
  let s := (s.put 0x26 (Breakwater.LOG_TIME_HI_TIME.nth j) (t / 2 ^ 32)).put 0x26 (Breakwater.LOG_TIDE_TIDE.nth j) s.logTide
  let s := s.put 0x26 Breakwater.BW_LOG_WR_COUNT (count + 1)
  if s.flag bwPage Breakwater.BW_FIRST_INFO_VALID then s
  else
    let s := s.putVerdict bwPage [Breakwater.BW_FIRST_INFO_CONSEQ, Breakwater.BW_FIRST_INFO_ESC, Breakwater.BW_FIRST_INFO_RECUR,
      Breakwater.BW_FIRST_INFO_SEV, Breakwater.BW_FIRST_INFO_REACT, Breakwater.BW_FIRST_INFO_CLASS, Breakwater.BW_FIRST_INFO_SOURCE] v
    let s := (s.put bwPage Breakwater.BW_FIRST_INFO_VALID 1).put bwPage Breakwater.BW_FIRST_TIME_LO_TIME t
    s.put bwPage Breakwater.BW_FIRST_TIME_HI_TIME (t / 2 ^ 32)

/-- The counters of page 0 take an occurrence (R483, R486, R497). -/
def State.countVerdict (s : State) (v : Verdict) : State :=
  if v.conseq then s.countSat bwPage Breakwater.BW_CNT3_CONSEQ
  else
    let s := match [Breakwater.BW_CNT0_SEV1, Breakwater.BW_CNT0_SEV2, Breakwater.BW_CNT1_SEV3, Breakwater.BW_CNT1_SEV4,
        Breakwater.BW_CNT2_SEV5, Breakwater.BW_CNT2_SEV6][v.sev - 1]? with
      | some f => s.countSat bwPage f
      | none => s
    if v.esc then (s.countSat bwPage Breakwater.BW_CNT3_ESCALATED).event bwPage 0 else s

/-- The marks of the bit of an occurrence (R478, R482, R486, R490). -/
def FltMarks.take (m : FltMarks) (b : Nat) (v : Verdict) (err : Bool) : FltMarks :=
  let set := fun (c : Bool) (x : Nat) => if c then setBit x b else x
  { m with unack := set (!v.conseq) m.unack, sevs := m.sevs.modify (v.sev - 1) (set (!v.conseq)), conseq := set v.conseq m.conseq,
           err := set err m.err }

/-- The trap of R482, at every processor of TRAP_MASK whose half is not FAILED. -/
def State.trapAll (s : State) : State :=
  [0, 1, 2, 3].foldl (fun (s : State) k =>
    if hasBit (s.get bwPage Breakwater.BW_CFG_TRAP_MASK) k && !s.lpHalfFailed k then s.emit (.trap k) else s) s

/-- The terminal reaction (R487): the latch is set, with its source and its time; a latch that is set keeps them. A CHIP reaction whose reset has
not begun gives way to it (R493). -/
def State.latchTerminal (s : State) (src : Nat) : State :=
  if s.terminal then s
  else
    let t := s.now
    let s := { s with due := s.due.filter (fun (d : Due) => d != Due.chipReset 4 && d != Due.chipReset 5), power := { s.power with resetBy := none } }
    let s := s.put bwPage Breakwater.BW_STAT_TERMINAL 1
    let s := (s.put bwPage Breakwater.BW_TERM_SRC_VALID 1).put bwPage Breakwater.BW_TERM_SRC_SOURCE src
    let s := (s.put bwPage Breakwater.BW_TERM_TIME_LO_TIME t).put bwPage Breakwater.BW_TERM_TIME_HI_TIME (t / 2 ^ 32)
    s.driveErr.judgeTog

/-- The instances that a BLOCK reaction resets (R481): of a Drift group, the members whose bit is unacknowledged. -/
def State.blockTargets (s : State) (r : PageRef) (b : Nat) : List PageRef :=
  if r.block = .drift then
    ((List.range 16).map fun i => ({ r with inst := r.inst / 16 * 16 + i } : PageRef)).filter fun q => hasBit (s.marks q.base).unack b
  else [{ r with idx := 0 }]

/-- The reset that a verdict calls for (R480, R481, R492): a block reset, a chip reset or the terminal latch. -/
def State.applyReact (s : State) (r : PageRef) (b : Nat) (v : Verdict) : State :=
  match v.react with
  | 4 => (s.blockTargets r b).foldl (fun (s : State) q => s.blockReset q) s
  | 5 =>
    ({ s with power := { s.power with resetBy := some (v.src, v.sev) } }).startReset (if r.block == Block.lp && b == 1 then 4 else 5)
  | 6 => s.latchTerminal v.src
  | _ => s

/-- An occurrence of bit b of page pg, source `src`, is judged, recorded and answered (R480 to R492). -/
def State.react (s : State) (pg b src : Nat) : State := match pageRef pg with
  | none => s
  | some r =>
    let v := s.verdict r src
    let on := fun (f : Field) => s.bwCfg src f == 1
    let err := on Breakwater.SRC_CFG_ERR || v.react == 6
    let s := (s.logVerdict v).countVerdict v
    let s := s.putMarks pg ((s.marks pg).take b v err)
    let s := if err then s.driveErr else s
    let s := match r.half with
      | some h => if !v.conseq && decide (3 ≤ v.sev) then s.noteHalf h fun t => { t with faultBad := true } else s
      | none => s
    if v.conseq then (if v.react = 6 then s.latchTerminal src else s)
    else
      let s := if 3 ≤ v.react then s.trapAll else s
      let s := if 3 ≤ v.react || on Breakwater.SRC_CFG_HOST then s.oweMsix 1536 else s
      let s := match r.half with
        | some h => if on Breakwater.SRC_CFG_SEAWALL then s.selfCheck h 7 else s
        | none => s
      s.applyReact r b v

/-- Does an occurrence that is due belong to a source? -/
def ofSource (src : Nat) (d : Due) : Bool := match d with
  | .occurrence pg b => (pageRef pg).any (fun r => r.source b == some src)
  | .pulse _ | .msix _ _ | .trigger _ | .selfCheck _ _ | .chipReset _ => false

/-- FAULT_OCCURRENCE: the oldest occurrence of a source that is due reaches the Breakwater (R480). -/
def execFaultOccurrence (src : Fin 1536) (s : State) : Result :=
  .next <| match s.due.find? (ofSource src) with
    | some (.occurrence pg b) => ({ s with due := s.due.eraseP (ofSource src) }).react pg b src
    | _ => s

/-! ## Lock and injection (R494, R495) -/

/-- BW_LOCK: a write of BW_CTRL with LOCK = 1 (R494); its TOG_EN takes effect too. -/
def execBwLock (req : Requester) (w : Word) (s : State) : Result :=
  .next <| s.onWrite req (regOff bwPage Breakwater.BW_CTRL_LOCK) fun s =>
    (s.put bwPage Breakwater.BW_CTRL_LOCK 1).writeTogEn (w.toNat.testBit 30)

/-- FAULT_INJECT: a write of BW_INJ with GO = 1 (R495): in factory test mode, one occurrence of a source. -/
def execFaultInject (req : Requester) (w : Word) (s : State) : Result :=
  .next <| s.onWrite req (regOff 0x27 Breakwater.BW_INJ_GO) fun s =>
    if !s.factory then s
    else
      let src := bitsOf w.toNat 10 0
      let s := s.put 0x27 Breakwater.BW_INJ_SOURCE src
      match sourceBit src 0 with
      | none => s
      | some (pg, b) => s.occur pg b

/-- A write of SRC_CFG of a source (R494, R498). -/
def State.writeBwSrc (s : State) (src w : Nat) : State :=
  if (sourceBit src 0).isNone then s
  else if s.flag bwPage Breakwater.BW_CTRL_LOCK then s.event bwPage 3
  else
    let pg := 0x21 + src / 384
    let put := fun (s : State) (f : Field) => s.put pg (f.nth (src % 384)) (bitsOf w f.hi f.lo)
    let s := [Breakwater.SRC_CFG_ERR, Breakwater.SRC_CFG_SEAWALL, Breakwater.SRC_CFG_HOST, Breakwater.SRC_CFG_CLASS].foldl put s
    let sev := bitsOf w 2 0
    let react := bitsOf w 10 8
    let trip := src == 17
    let sevOk := decide (1 ≤ sev) && decide (sev ≤ 6) && (!trip || decide (5 ≤ sev))
    let reactOk := decide (react ≤ 6) && (!trip || react == 0 || decide (5 ≤ react))
    let both := !trip || (sevOk && reactOk)
    let s := if sevOk && both then put s Breakwater.SRC_CFG_SEV else s
    let s := if reactOk && both then put s Breakwater.SRC_CFG_REACT else s
    s.eventIf (!sevOk || !reactOk) bwPage 3

/-- A word of BW_UNACK or BW_PRESENT (R499). -/
def State.sourceWord (s : State) (i : Nat) (present : Bool) : Nat :=
  (List.range 32).foldl (fun a k =>
    let src := 32 * i + k
    let members := if 1376 ≤ src then 16 else 1
    let on := (List.range members).any fun m => match sourceBit src m with
      | none => false
      | some (pg, b) => hasBit (if present then (s.marks pg).present else (s.marks pg).unack) b
    if on then a + 2 ^ k else a) 0

end Sys2Proof.Machine
end

