-- ==== Sys2Proof/Machine/Power.lean ====
section
/-!
DEFINITION. Sys2Proof/Machine/Power.lean: supplies, power domains, clocks and resets (R552 to R568), and writes of CTRL (R73, R76, R77).
-/
namespace Sys2Proof.Machine

/-! ## Requests (R558) -/

/-- The system domains that are on except in sleep (R557). -/
def alwaysOn : List Nat := [81, 82, 83, 84, 85, 86, 87, 88, 95]

/-- The domains of half h (R557): Coves and stores, channels, Harbour, Drift, PCIe controller, control-core pairs. -/
def domainsOfHalf (h : Nat) : List Nat :=
  ((List.range 8).flatMap fun i => [8 * h + i, 16 + 8 * h + i]) ++ [44 + 4 * h, 45 + 4 * h, 46 + 4 * h, 47 + 4 * h, 52 + h, 54 + h, 60 + h,
    65 + 2 * h, 66 + 2 * h]

/-- The domains that the plan in force uses (R557). -/
def State.liveDomains (s : State) : List Nat := match s.tide.livePlan with
  | none => []
  | some p => p.domains s.x16

/-- PD_CTRL.PLAN (R583): the domains of the live and of the staged plan. -/
def State.planDomains (s : State) : List Nat := match s.tide.staged with
  | none => s.liveDomains
  | some p => s.liveDomains ++ p.domains s.x16

/-- CTRL.PWR_REQ is 1 on an instance that owns domain d, other than the one at page `but` (R558). -/
def State.pwrReq (s : State) (d but : Nat) : Bool :=
  s.regs.any fun (e : Nat × Nat) => e.1 % 0x8000 == Hdr.CTRL_PWR_REQ.off * 8 + 2 && e.2 == 1 && e.1 / 0x8000 != but &&
    (pageRef (e.1 / 0x8000)).any (fun r => r.idx == 0 && r.block.ownsDomain && r.domain == d)

/-- A page number that no instance has. -/
def noPage : Nat := 0x4000

/-- What requests domain d by itself (R558): a requestable one (R557) its bits, a plan, its draining (R66) or a repair (R466). -/
def State.asked (s : State) (d : Nat) : Bool :=
  let own := decide (d < 81) && !(decide (16 ≤ d) && decide (d < 32)) && (s.flag 0x3 (Chip.PD_CTRL_REQ.nth d) || s.pwrReq d noPage)
  !s.power.asleep && (own || alwaysOn.contains d || s.planDomains.contains d || s.tide.draining.contains d ||
    s.power.repair.any (fun h => (domainsOfHalf h).contains d))

/-- One step of requirement: what the domains of a list require, and the stores that follow their Coves (R557). -/
def withRequired (x16 : Bool) (l : List Nat) : List Nat :=
  (List.range 96).filter fun d => l.contains d || l.any (fun e => (requires x16 e).contains d) || (decide (16 ≤ d) && decide (d < 32) && l.contains (d - 16))

/-- Domains with all that they require (R557). No chain of requirements is longer than four. -/
def closure (x16 : Bool) (l : List Nat) : List Nat :=
  let r := withRequired x16
  r (r (r (r l)))

/-- The domains requested (R558). -/
def State.wanted (s : State) : List Nat := closure s.x16 ((List.range 96).filter s.asked)

/-! ## PLLs (R564) -/

/-- PLL_UNLOCK (R587) and TX_PLL_LOCK (R166) as they now are. -/
def State.judgePll (s : State) : State := ((s.cond 0x5 2 ((List.range 8).any s.pllDown)).judgeTx 0).judgeTx 1

/-- PLL i gains or loses lock. -/
def State.putPll (s : State) (i : Nat) (on : Bool) : State :=
  let m := s.get 0x5 Chip.CLK_STAT_LOCKED
  s.put 0x5 Chip.CLK_STAT_LOCKED (if on then setBit m i else clearBit m i)

/-- The interfaces that PLL i drives go down (R564), as for a loss of link. -/
def State.pllEffect (s : State) (i : Nat) : State := match i with
  | 2 | 3 => [0, 1, 2, 3].foldl (fun (s : State) c => s.untrain (i - 2) c) s
  | 4 => [0, 1].foldl (fun (s : State) n => if !s.portActs n || s.get (pcPage n 0) Pcie.PCIE_STAT_SPEED == 0 then s else s.linkDown n 0) s
  | 5 => [0, 1].foldl (fun (s : State) m => if s.flag (macPage m 0) Mac.MAC_STAT_LINK then s.macLink m false false false else s) s
  | 6 => [0, 1].foldl (fun (s : State) m => s.txOff m) s
  | 7 => (List.range 32).foldl (fun (s : State) n => if s.linkOperating n then s.retrain n true else s) s
  | _ => s

/-- PLL i loses lock (R564): the loss is counted. -/
def State.pllLost (s : State) (i : Nat) : State :=
  if !s.pllLocked i then s
  else ((((s.putPll i false).countSat 0x6 (Chip.PLL_LOSS_COUNT.nth i)).pllEffect i).judgePll).again 0x5 2 (s.condBit 0x5 2)

/-! ## Switching (R559) -/

/-- The state of a domain is discarded: the instances it serves (R628), the channel or the PLL it is. -/
def State.discard (s : State) (d : Nat) : State :=
  let s := (instancesOf d).foldl (fun (s : State) r =>
    let s := if r.block = .pcie ∧ s.portActs r.inst ∧ s.get (pcPage r.inst 0) Pcie.PCIE_STAT_SPEED ≠ 0 then s.linkDown r.inst 0 else s
    let s := s.resetInstance r true
    ({ s with power := { s.power with resetting := s.power.resetting.filter (· != r.base) } }).closeQuiet r.base) s
  let s := if 44 ≤ d ∧ d < 52 then s.untrain ((d - 44) / 4) ((d - 44) % 4) else s
  let s := if d = 52 ∨ d = 53 then s.judgeOff (d - 52) else s
  if 87 ≤ d ∧ d < 95 then (s.putPll (d - 87) false).judgePll else s

/-- Domain d starts to go up or down (R559): going down, it is no longer acknowledged, and its state is discarded. -/
def State.startSwitch (s : State) (d : Nat) (up : Bool) : State :=
  if up then { s with power := { s.power with up := s.power.up ++ [d] } }
  else
    let s := s.put 0x3 (Chip.PD_CTRL_ACK.nth d) 0
    ({ s with power := { s.power with down := s.power.down ++ [d] } }).discard d

/-- May domain d go up (R558 to R560)? -/
def State.mayRise (s : State) (want : List Nat) (d : Nat) : Bool :=
  want.contains d && !s.powered d && !s.power.up.contains d && !s.power.down.contains d && !s.power.failed.contains d && !s.dropped d &&
    (requires s.x16 d).all s.powered

/-- May domain d go down: nothing requires it, and no block reset of one of its instances runs (R558, R579)? -/
def State.mayFall (s : State) (want : List Nat) (d : Nat) : Bool :=
  !want.contains d && s.powered d && !s.power.down.contains d &&
    (List.range 96).all (fun e => !(requires s.x16 e).contains d || (!s.powered e && !s.power.up.contains e && !s.power.down.contains e)) &&
    !s.power.resetting.any (fun b => (pageRef b).any (fun r => r.domain == d))

/-- The next domain, in domain order, starts to switch, where fewer than four do (R559). -/
def State.pumpOne (s : State) : State :=
  if s.power.inReset || s.power.asleep || decide (4 ≤ s.power.up.length + s.power.down.length) then s
  else
    let want := s.wanted
    match (List.range 96).find? (fun d => s.mayRise want d || s.mayFall want d) with
    | none => s
    | some d => s.startSwitch d (s.mayRise want d)

/-- Requests have changed or a switch has ended: waiting domains start to switch. -/
def State.pumpPower (s : State) : State :=
  let s := { s with power := { s.power with failed := s.power.failed.filter s.wanted.contains } }
  s.pumpOne.pumpOne.pumpOne.pumpOne

/-- A power-up has been acknowledged (R559): PLLs lock, instances take up their enables; a lane whose bit in `calBad` is 1 failed its
termination or lane calibration (R116, R165). -/
def State.risen (s : State) (d calBad : Nat) : State :=
  let s := if 87 ≤ d ∧ d < 95 then (s.putPll (d - 87) true).judgePll else s
  (instancesOf d).foldl (fun (s : State) r =>
    let s := s.unitUp r
    match r.block with
    | .weatas => s.cond r.base 5 (hasBit calBad (r.inst % 4))
    | .csiRx => s.cond r.base 3 (hasBit calBad (r.inst % 4))
    | _ => s) s

/-- DOMAIN_POWER_ACK: domain d acknowledges power-up or power-down (R559). -/
def execDomainPowerAck (d : Fin 96) (calBad : Fin 16) (s : State) : Result :=
  let p := s.power
  .next <|
    if p.up.contains d.val then
      let s := ({ s with power := { p with up := p.up.filter (· != d.val) } }).put 0x3 (Chip.PD_CTRL_ACK.nth d) 1
      (((s.countWrap 0x4 Chip.PD_SWITCHES_COUNT).lower 0x2 0).risen d calBad).pumpPower
    else if p.down.contains d.val then
      let s := { s with power := { p with down := p.down.filter (· != d.val) } }
      ((s.countWrap 0x4 Chip.PD_SWITCHES_COUNT).lower 0x2 0).pumpPower
    else s

/-! ## Drops (R560) -/

/-- The half whose supply a domain is part of. -/
def halfOfDomain (d : Nat) : Option Nat := [0, 1].find? (fun h => (domainsOfHalf h).contains d)

/-- PD_DROP as it now is (R587). -/
def State.judgeDrop (s : State) : State := s.cond 0x2 1 ([0, 1, 2].any fun w => s.get 0x4 (Chip.PD_DROP_MAP_DROP.nth w) != 0)

/-- A rail's bit in RST_UV_RAIL (R585). -/
def State.markRail (s : State) (r : Nat) : State := s.put 0x7 Chip.RST_UV_RAIL_RAIL (setBit (s.get 0x7 Chip.RST_UV_RAIL_RAIL) r)

/-- What a drop of domain d brings, beside its isolation (R560, R188). -/
def State.dropEffect (s : State) (d : Nat) : State :=
  let s := match halfOfDomain d with
    | some h => s.selfCheck h 6
    | none => s
  let s := if d < 32 then s.cutCove (d % 16) else if 44 ≤ d ∧ d < 52 then s.cutHarbour ((d - 44) / 4)
    else if d = 52 ∨ d = 53 then s.cutHarbour (d - 52) else s
  let s := if 89 ≤ d ∧ d < 95 then s.pllLost (d - 87) else s
  let s := s.discard d
  if 81 ≤ d ∧ d < 87 then (s.startReset 2).markRail 1
  else if d = 87 ∨ d = 88 ∨ d = 95 then (s.startReset 2).markRail 4 else s

/-- DOMAIN_DROP: the supply monitor of domain d reports loss (R560); a domain about to be switched off simply is (R579). -/
def execDomainDrop (d : Fin 96) (s : State) : Result :=
  .next <| if !s.powered d then s
    else if !s.wanted.contains d.val then s.startSwitch d false
    else
      let s := s.put 0x3 (Chip.PD_CTRL_ACK.nth d) 0
      let f := Chip.PD_DROP_MAP_DROP.nth (d / 32)
      let s := ((s.put 0x4 f (setBit (s.get 0x4 f) (d % 32))).judgeDrop).again 0x2 1 (s.condBit 0x2 1)
      (s.dropEffect d).pumpPower

/-- A write of PD_DROP_MAP word k (R560, R583). -/
def State.clearDrops (s : State) (k w : Nat) : State :=
  let f := Chip.PD_DROP_MAP_DROP.nth k
  ((s.put 0x4 f (clearBits (s.get 0x4 f) w)).judgeDrop.judgePll).pumpPower

/-! ## Writes of PD_CTRL and CTRL (R73 to R77, R558, R559) -/

/-- A refused power request (R558, R559). -/
def State.refusePower (s : State) (d : Nat) : State := (s.event 0x2 0).put 0x2 Chip.PM_STAT_LAST_REFUSED d

/-- Is domain d the live plan's, or draining (R558)? -/
def State.planHolds (s : State) (d : Nat) : Bool := s.liveDomains.contains d || s.tide.draining.contains d

/-- A write of PD_CTRL.REQ of domain d (R558, R559): one that would take a planned domain's last request of its own is refused. DESIGN CHOICE:
a write of 0 to a bit that is 0 takes no request away, and is not refused. -/
def State.writePdReq (s : State) (d : Nat) (on : Bool) : State :=
  let f := Chip.PD_CTRL_REQ.nth d
  if isSystemDomain d then s.refusePower d
  else if !on && s.flag 0x3 f && s.planHolds d && !s.pwrReq d noPage then s.refusePower d
  else (s.put 0x3 f (bit on)).pumpPower

/-- Does the live plan use an instance (R76, R77, R315)? -/
def State.planUses (s : State) (r : PageRef) : Bool := match s.tide.livePlan with
  | none => false
  | some p =>
    let port := fun (n : Nat) => p.streams.any (fun x => x.port == n)
    let dest := fun (l : List Nat) => p.outputs.any (fun o => l.contains o.dest)
    match r.block with
    | .inlet | .weatas => port r.inst
    | .csiRx => port (32 + r.inst)
    | .csiTx => dest [3 + r.inst]
    | .cove | .lighthouse => p.streams.any (fun x => x.parts.contains r.inst)
    | .harbour => (p.domains s.x16).contains (52 + r.inst)
    | .drift => true
    | .mac | .bridge => dest [5]
    | .pcie => (p.domains s.x16).contains (60 + r.inst)
    | .chip | .tidemark | .breakwater | .beacon | .seawall | .sounding | .fastStatus | .streamTab | .jetty | .lp => false

/-- CTRL.EN of these is the plan's (R76). -/
def Block.planEnabled : Block → Bool
  | .inlet | .cove | .harbour | .drift => true
  | _ => false

/-- A write of CTRL.EN (R76): it takes effect at once. -/
def State.writeEn (s : State) (r : PageRef) (on : Bool) : State :=
  if r.block.planEnabled then s
  else
    let was := s.flag r.base Hdr.CTRL_EN
    let s := s.put r.base Hdr.CTRL_EN (bit on)
    let s := if r.block = .mac then s.cond r.base 0 (on && !s.flag r.base Mac.MAC_STAT_LINK) else s
    if was == on || !s.powered r.domain || s.resetting r then s
    else match r.block, on with
      | .weatas, true => s.laneOn r.inst
      | .weatas, false => s.laneOff r.inst
      | .csiRx, true => s.rxOn r.inst
      | .csiRx, false => s.rxOff r.inst
      | .csiTx, true => s.txOn r.inst
      | .csiTx, false => s.txOff r.inst
      | _, _ => s

/-- A write of CTRL.PWR_REQ (R73, R558). DESIGN CHOICE: a write of 0 to a bit that is 0 takes no request away, and is not refused. -/
def State.writePwr (s : State) (r : PageRef) (on : Bool) : State :=
  if !r.block.ownsDomain then s
  else if !on && s.flag r.base Hdr.CTRL_PWR_REQ && s.planHolds r.domain && !s.flag 0x3 (Chip.PD_CTRL_REQ.nth r.domain) &&
      !s.pwrReq r.domain r.base then s.refusePower r.domain
  else (s.put r.base Hdr.CTRL_PWR_REQ (bit on)).pumpPower

/-- The offset of REFCLK25 is outside REF_LIMIT_PPM, seen from a LOCKED active domain (R563). -/
def State.refOutside (s : State) : Bool :=
  s.domState s.activeDomain == 3 && decide (s.get 0x5 Chip.CLK_CFG_REF_LIMIT_PPM * 2 ^ 40 < (s.rate s.activeDomain).natAbs * 10 ^ 6)

/-- A write of CTRL.RST = 1 (R77): refused on an instance that the live plan uses. -/
def State.writeRst (s : State) (req : Requester) (pg : Nat) (r : PageRef) : State :=
  if s.planUses r then s.logAccess req (regOff pg Hdr.CTRL_RST) true 0xF 0x8
  else
    let s := s.blockReset { r with idx := 0 }
    if r.block = .chip then ((if s.refOutside then s else s.lower 0x5 3).judgePll).pumpPower else s

/-- A write of CTRL on page pg (R73, R75): it acts on the instance. -/
def State.writeCtrl (s : State) (req : Requester) (pg w : Nat) : State := match pageRef pg with
  | none => s
  | some r =>
    let s := (s.writePwr r (w.testBit 2)).writeEn r (w.testBit 0)
    if w.testBit 1 then s.writeRst req pg r else s

/-- POWER_REQ: a write of PD_CTRL of a domain, or of CTRL of an instance (R558). -/
def execPowerReq (req : Requester) (t : PowerTarget) (w : Word) (s : State) : Result :=
  .next <| match t with
    | .domain d => s.onWrite req (regOff 0x3 (Chip.PD_CTRL_REQ.nth d)) fun s => s.writePdReq d (w.toNat.testBit 31)
    | .page pg => s.onWrite req (regOff pg Hdr.CTRL_PWR_REQ) fun s => s.writeCtrl req pg w.toNat

/-- INSTANCE_ENABLE: a write of CTRL with EN (R76). -/
def execInstanceEnable (req : Requester) (pg : Fin 0x1400) (w : Word) (s : State) : Result :=
  .next <| s.onWrite req (regOff pg Hdr.CTRL_EN) fun s => s.writeCtrl req pg w.toNat

/-- BLOCK_RESET_REQ: a write of CTRL with RST = 1 (R77). -/
def execBlockResetReq (req : Requester) (pg : Fin 0x1400) (w : Word) (s : State) : Result :=
  .next <| s.onWrite req (regOff pg Hdr.CTRL_RST) fun s => s.writeCtrl req pg (w.toNat ||| 2)

/-! ## Core voltage (R556) -/

/-- An AVSBus command is sent. -/
def State.sendAvs (s : State) (mv : Nat) : State := ({ s with power := { s.power with avsCommand := some mv } }).emit (.avs mv)

/-- A fall of the voltage may be commanded (R556). -/
def State.avsMayFall (s : State) : Bool := match s.lowestFamily with
  | none => true
  | some f => s.inSlack f

/-- The next step toward the target, where none is under way (R556). -/
def State.stepAvs (s : State) : State :=
  let p := s.power
  let v := s.get 0x2 Chip.AVS_STAT_VACK_MV
  let t := s.get 0x2 Chip.AVS_STAT_VTARGET_MV
  if p.avsStopped || p.avsCommand.isSome || !s.flag 0x2 Chip.AVS_CTRL_EN || s.get 0x8 Chip.BOOT_STAT_STATE != 3 then s
  else if v < t then s.sendAvs (min t (v + 10))
  else if t < v ∧ s.avsMayFall then s.sendAvs (max t (v - 10))
  else s

/-- AVS_UPDATE: every 1 ms the target is computed from the lowest voltage, mV, at which the process monitors hold 1.0 GHz, and a step
commanded (R556). -/
def execAvsUpdate (need : Nat) (s : State) : Result :=
  .next <| if !s.flag 0x2 Chip.AVS_CTRL_EN || s.power.inReset || s.power.asleep then s
    else
      let mv := ceilDiv (need + s.get 0x2 Chip.AVS_CTRL_MARGIN_MV) 5 * 5
      (s.put 0x2 Chip.AVS_STAT_VTARGET_MV (max 650 (min mv 850))).stepAvs

/-- AVS_COMMAND_DONE: the AVSBus command under way is acknowledged, or fails: the third failure stops adaptation (R556). -/
def execAvsCommandDone (ok : Bool) (s : State) : Result :=
  let p := s.power
  .next <| match p.avsCommand with
    | none => s
    | some mv =>
      if ok then (({ s with power := { p with avsCommand := none, avsTries := 0 } }).put 0x2 Chip.AVS_STAT_VACK_MV mv).stepAvs
      else if p.avsTries < 2 then ({ s with power := { p with avsTries := p.avsTries + 1 } }).emit (.avs mv)
      else ({ s with power := { p with avsCommand := none, avsTries := 0, avsStopped := true } }).raise 0x2 2

/-- A write of AVS_CTRL (R556, R582): EN = 0 sends 750 mV once; before boot is DONE the device sends no command. -/
def State.writeAvs (s : State) (w : Nat) : State :=
  let was := s.flag 0x2 Chip.AVS_CTRL_EN
  let s := (s.put 0x2 Chip.AVS_CTRL_EN (bit (w.testBit 31))).put 0x2 Chip.AVS_CTRL_MARGIN_MV (Chip.AVS_CTRL_MARGIN_MV.stored (bitsOf w 5 0))
  if was && !w.testBit 31 && !s.power.avsStopped && s.get 0x8 Chip.BOOT_STAT_STATE == 3 then s.sendAvs 750 else s

/-! ## Clocks (R563, R564) -/

/-- REF_CHECK: every 10 µs REFCLK25 is checked; `ok` where it is present and within 2 % (R563). -/
def execRefCheck (ok : Bool) (s : State) : Result :=
  .next <|
    let was := s.flag 0x5 Chip.CLK_STAT_REF_OK
    let s := (s.put 0x5 Chip.CLK_STAT_REF_OK (bit ok)).put 0x5 Chip.CLK_STAT_ON_INTERNAL (bit !ok)
    let s := (s.eventIf (was != ok) 0x5 0).cond 0x5 0 !ok
    if s.refOutside then s else s.lower 0x5 3

/-- REF_RANGE: the offset has been outside REF_LIMIT_PPM for 1 s (R563). -/
def execRefRange (s : State) : Result := .next <| if s.refOutside then s.raise 0x5 3 else s

/-- PCIE_REF_LOST: PCIE_REFCLK is missing, and the host link goes down (R563, R360). -/
def execPcieRefLost (s : State) : Result := .next <| ((s.put 0x5 Chip.CLK_STAT_PCIE_REF_OK 0).raise 0x5 1).pllEffect 4

/-- PCIE_REF_RETURN: PCIE_REFCLK is present again (R563, R587); the ports train afresh (R346). -/
def execPcieRefReturn (s : State) : Result :=
  .next <| ((((s.put 0x5 Chip.CLK_STAT_PCIE_REF_OK 1).lower 0x5 1).trainPort 0).trainPort 1)

/-- PLL_UNLOCK: PLL i loses lock (R564). -/
def execPllUnlock (i : Fin 8) (s : State) : Result := .next (s.pllLost i)

/-- PLL_RELOCK: PLL i locks again (R564, R587); a host link that it drives trains afresh, and an enabled CSI-2 output port starts again. -/
def execPllRelock (i : Fin 8) (s : State) : Result :=
  .next <| if s.pllLocked i || !s.powered (87 + i) then s
    else
      let s := (s.putPll i true).judgePll
      match i.val with
      | 4 => (s.trainPort 0).trainPort 1
      | 6 => [0, 1].foldl (fun (s : State) m => if s.txEnabled m then s.txOn m else s) s
      | _ => s

/-! ## Reset (R553, R555, R565 to R568, R613, R614, R619) -/

/-- The fields that keep their values across chip resets: the always-on records (R565, R581), the level of a rail (R582), and factory
test mode (R614). -/
def retainedFields : List (Nat × Field) :=
  ([Chip.RST_CAUSE_POR, Chip.RST_CAUSE_UV, Chip.RST_CAUSE_PIN, Chip.RST_CAUSE_WATCHDOG, Chip.RST_CAUSE_BREAKWATER, Chip.RST_CAUSE_SOFTWARE,
    Chip.RST_CAUSE_SEQ_ERR, Chip.RST_LAST_LP, Chip.RST_LAST_CAUSE, Chip.RST_UV_RAIL_RAIL, Chip.RST_COUNT_COUNT].map fun f => (0x7, f)) ++
  [(0x2, Chip.PM_WAKE_CAUSE_TIMER), (0x2, Chip.PM_WAKE_CAUSE_WAKE_N), (0x2, Chip.SUP_STAT_IN_WINDOW), (0x8, Chip.BOOT_NEXT_NEXT_B),
   (0x0, Chip.CHIP_CFG_FACTORY), (0xE, Chip.FT_STAT_PIN)] ++
  ([Breakwater.BW_RESET_SRC_VALID, Breakwater.BW_RESET_SRC_SEV, Breakwater.BW_RESET_SRC_SOURCE, Breakwater.BW_TERM_SRC_VALID,
    Breakwater.BW_TERM_SRC_SOURCE, Breakwater.BW_TERM_TIME_LO_TIME, Breakwater.BW_TERM_TIME_HI_TIME, Breakwater.BW_STAT_TERMINAL].map
      fun f => (0x20, f))

/-- The core leaves reset (R553, R561, R569): fuses and strap are read, domains power up, the host's ports train; ERR_N is low in factory test
mode (R615) and while the latch is set (R490). -/
def State.leaveReset (s : State) : State :=
  if s.power.por || s.power.pinLow || s.power.held then s
  else
    let s := { s with power := { s.power with inReset := false } }
    let s := (s.put 0x0 Chip.CHIP_CFG_HOST_MODE (bit Config.hmodeStrap)).put 0x8 Chip.BOOT_STAT_HMODE (bit Config.hmodeStrap)
    let s := s.cond 0x0 0 (s.flag 0x0 Chip.CHIP_CFG_FUSE_ERR)
    let s := s.cond 0x2 4 (s.flag 0x7 Chip.RST_CAUSE_SEQ_ERR)
    let s := if s.terminal || s.factory then s.driveErr else s
    ((s.trainPort 0).trainPort 1).pumpPower

/-- The state of the device in a chip reset (R565): what is kept, and the reset value of everything else. Commands that wait, and what has
left the device, are no part of it. -/
def State.cleared (s : State) : State :=
  let keep := s.regs.filter fun (e : Nat × Nat) => retainedFields.any (fun (r : Nat × Field) => fieldKey r.1 r.2 == e.1)
  let p := s.power
  let r := State.reset
  let pcie := [0, 1].foldl (fun (m : SMap PcieSt) n => SMap.set (fun _ => {}) m n { perst := (SMap.get (fun _ => {}) s.pcie n).perst }) []
  { r with pending := s.pending, regs := keep, out := s.out, free := s.free, pcie, pins := { r.pins with tap := s.pins.tap, boundary := s.pins.boundary },
           power := { r.power with por := p.por, pinLow := p.pinLow, held := p.held, tripped := p.tripped } }

/-- CHIP_RESET: a chip reset that has been started stops the outputs, holds 10 µs and starts again (R568); `fuseBad` where the identity
fuses fail their read (R74). -/
def execChipReset (fuseBad : Bool) (s : State) : Result :=
  .next <| if s.causesDue.isEmpty then s
    else
      let trip := s.causesDue.contains 5 && s.power.resetBy.any (fun (e : Nat × Nat) => e.1 == 17)
      let s := ({ s with power := { s.power with tripped := s.power.tripped || trip } }).recordCauses s.causesDue s.power.resetBy
      let s := (s.cleared.countSat 0x7 Chip.RST_COUNT_COUNT).put 0x0 Chip.CHIP_CFG_FUSE_ERR (bit fuseBad)
      (if s.terminal then s.driveErr else s).leaveReset

/-- POR_RELEASE: 200 µs after the last rail has entered its window, power-on reset is released (R553): `orderBad` where a group rose too early;
the level of TEST_MODE is sampled (R614), and the fuses are read (R74, R616). -/
def execPorRelease (orderBad testMode fuseBad : Bool) (s : State) : Result :=
  .next <| if !s.power.por then s
    else
      let s := { s with power := { s.power with por := false } }
      let s := (s.put 0x2 Chip.SUP_STAT_IN_WINDOW 0x1FF).put 0x7 Chip.RST_CAUSE_POR 1
      let s := s.put 0x7 Chip.RST_LAST_CAUSE 1
      let s := if orderBad then s.put 0x7 Chip.RST_CAUSE_SEQ_ERR 1 else s
      let s := s.put 0xE Chip.FT_STAT_PIN (bit testMode)
      let s := s.put 0x0 Chip.CHIP_CFG_FACTORY (bit (testMode && !Config.ftLock && !fuseBad))
      (s.put 0x0 Chip.CHIP_CFG_FUSE_ERR (bit fuseBad)).leaveReset

/-- The rails that may be removed in sleep (R577): all but VDD_AON, VDD_CORE, VDD2H_LP and VDDQ_LP. -/
def removable (r : Nat) : Bool := [2, 3, 4, 7, 8].contains r

/-- SUPPLY_LOSS: rail r has been outside its window for 1 µs (R555): a loss of VDD_AON clears everything (R565). -/
def execSupplyLoss (r : Fin 9) (s : State) : Result :=
  .next <|
    let m := clearBit (s.get 0x2 Chip.SUP_STAT_IN_WINDOW) r
    if r.val = 0 then ({ State.reset with pending := s.pending, out := s.out, free := s.free }).put 0x2 Chip.SUP_STAT_IN_WINDOW m
    else
      let s := s.put 0x2 Chip.SUP_STAT_IN_WINDOW m
      if s.power.por || (s.power.asleep && removable r) then s
      else
        let s := { s with power := { s.power with por := true } }
        ((s.startReset 1).put 0x7 Chip.RST_CAUSE_UV 1).markRail r

/-- PIN_RESET: RESET_N has been low for 1 µs (R566); a software reset of the same cycle gives way (R579). -/
def execPinReset (s : State) : Result :=
  .next <| if s.power.pinLow then s
    else
      ({ s with due := s.due.filter (fun (d : Due) => d != Due.chipReset 6), power := { s.power with pinLow := true } }).startReset 3

/-- RESET_N_RISE: 200 µs after RESET_N has risen, the reset ends (R566). -/
def execResetNRise (s : State) : Result :=
  .next <| if !s.power.pinLow then s
    else
      let s := { s with power := { s.power with pinLow := false } }
      if s.power.inReset then s.leaveReset else s

/-- SOFT_RESET_ARM: a write of RST_SW with ARM = 1 (R567). -/
def execSoftResetArm (req : Requester) (s : State) : Result :=
  .next <| s.onWrite req (regOff 0x7 Chip.RST_SW_ARM) fun s => { s with power := { s.power with swArm := some (req, s.time.c) } }

/-- SOFT_RESET_GO: a write of RST_SW with GO = 1 within 1 µs of its requester's ARM (R567); RESET_N low wins (R579). -/
def execSoftResetGo (req : Requester) (s : State) : Result :=
  .next <| s.onWrite req (regOff 0x7 Chip.RST_SW_GO) fun s =>
    let armed := s.power.swArm.any (fun (a : Requester × Nat) => a.1 == req && decide (s.time.c - a.2 ≤ 1000))
    if !armed then s.event 0x2 2
    else
      let s := { s with power := { s.power with swArm := none } }
      if s.power.pinLow then s else s.startReset 6

end Sys2Proof.Machine
end

