-- ==== Sys2Proof/Machine/Submit.lean ====
section
/-!
DEFINITION. Sys2Proof/Machine/Submit.lean: the life of a submitted plan up to its apply boundary (R48, R52, R59 to R61, R65).
-/
namespace Sys2Proof.Machine

/-- Page 1 of the Tidemark. -/
def tidePage : Nat := 0x11

/-- PLAN_STATE (R60): 0 IDLE, 1 CHECKING, 2 POWERING, 3 STAGED. -/
def State.planState (s : State) : Nat := s.get tidePage Tidemark.PLAN_STATE_STATE

/-- PLAN_STATE takes a value; each change of it fires Beacon source 11 (R503). -/
def State.setPlanState (s : State) (st : Nat) : State :=
  if s.planState = st then s else (s.put tidePage Tidemark.PLAN_STATE_STATE st).owe (.pulse 11)

/-- The word that PLAN_REFUSE reads for a refusal (R59). -/
def Refuse.word (r : Refuse) : Nat := r.index % 2 ^ 16 * 2 ^ 16 + r.code

/-- PLAN_REFUSE, PLAN_DEMAND and PLAN_CAPACITY take a refusal, or ADMITTED (R52, R59). DESIGN CHOICE: of a figure above 32 bits the register
keeps the low 32. -/
def State.reportPlan (s : State) (r : Refuse) : State :=
  let s := (s.put tidePage Tidemark.PLAN_REFUSE_INDEX r.index).put tidePage Tidemark.PLAN_REFUSE_CODE r.code
  (s.put tidePage Tidemark.PLAN_DEMAND_VALUE r.demand).put tidePage Tidemark.PLAN_CAPACITY_VALUE r.capacity

/-- The admissible rate of output target t (R58): host ports, CSI-2 transmit ports (R156), the stream port (R418). -/
def State.planCap (s : State) (t : Nat) : Nat :=
  if t < 2 then s.hostCap t
  else if t < 4 then 2 ^ s.get (txPage (t - 2)) CsiTx.TX_CFG_LANES * s.get (txPage (t - 2)) CsiTx.TX_CFG_RATE_MBPS / 9
  else if !s.flag (bridgePage 0) Hdr.CTRL_EN then 0
  else
    let pay := s.get (bridgePage 2) Bridge.STRM_PAY_BYTES
    s.get (bridgePage 2) Bridge.STRM_SLOPE_MBPS * pay * 63 / (8 * (pay + 82) * 64)

/-- The submission in hand ends without going live (R60): its fields and the device's arm are dropped, and the power that it alone asked for
is released (R558). -/
def State.endSubmission (s : State) (result : Nat × Nat × Nat) : State :=
  let s := (s.loadPlan false s.tide.livePlan).dropDevArm
  let s := { s with tide := { s.tide with staged := none, stagedCaptured := false, checking := none, ended := some result } }
  (s.setPlanState 0).pumpPower

/-- The submission in hand is refused (R59). -/
def State.refusePlan (s : State) (r : Refuse) : State := (s.reportPlan r).endSubmission (8, r.word, r.demand)

/-- A plan document is submitted (R48, R60): while a submission is in hand, during entry to sleep (R575), or with the terminal latch set
(R487), it is refused with BUSY. -/
def State.submitPlan (s : State) (doc : List Byte) : Option Refuse × State :=
  if s.planState ≠ 0 ∨ s.get 0x2 Chip.PM_STAT_STATE = 1 ∨ s.terminal then
    let r : Refuse := ⟨0x0032, 0, 0, 0⟩
    (some r, s.reportPlan r)
  else (none, ({ s with tide := { s.tide with checking := some doc, ended := none } }).setPlanState 1)

/-- A request for domains starts anew: one that has timed out under an earlier request is tried again (R65, R559). -/
def State.retryPower (s : State) (l : List Nat) : State :=
  { s with power := { s.power with failed := s.power.failed.filter (fun d => !(closure s.x16 l).contains d) } }

/-- Admission of the submission in CHECKING (R52): it is refused, or enters POWERING, and its domains are requested (R65). -/
def State.checkPlan (s : State) : State := match s.tide.checking with
  | none => s
  | some d =>
    match admission s.x16 (fun g => s.grpFamily g == 4) s.planCap s.tide.livePlan d with
    | some r => s.refusePlan r
    | none =>
      let s := s.reportPlan ⟨0, 0, 0, 0⟩
      let s := { s with tide := { s.tide with checking := none, staged := some (decodePlan d), stagedCaptured := false } }
      ((s.setPlanState 2).retryPower ((decodePlan d).domains s.x16)).pumpPower

/-- Withdrawal of the submission in hand (R60): the status of the command that asks for it. -/
def State.withdrawPlan (s : State) : Nat × State :=
  match s.planState with
  | 0 => (9, s)
  | 3 => if s.tide.stagedCaptured then (0xB, s) else (0, s.endSubmission (0, 0, 0))
  | _ => (0, s.endSubmission (4, 0, 0))

/-- DOMAIN_ACK_TIMEOUT: domain d has not acknowledged within 100 µs (R559): it is off, and left off while its request stands; a plan in
POWERING that needs it is refused with POWER (R65). -/
def execDomainAckTimeout (d : Fin 96) (s : State) : Result :=
  let p := s.power
  .next <| if !(p.up.contains d.val || p.down.contains d.val) then s
    else
      let rising := p.up.contains d.val
      let s := { s with power := { p with up := p.up.filter (· != d.val), down := p.down.filter (· != d.val), failed := d.val :: p.failed } }
      let s := s.report 0x2 0
      let needs := s.planState == 2 && s.tide.staged.any (fun p => (closure s.x16 (p.domains s.x16)).contains d.val)
      if rising && needs then s.refusePlan ⟨0x0030, d, 0, 0⟩ else s.pumpPower

/-- Has the capture of the boundary that AT_SPRING names passed (R61)? -/
def State.springMissed (s : State) (p : Plan) : Bool :=
  let d := signedDiff p.applySpring (s.get tidePage Tidemark.SPRING_COUNT_COUNT)
  s.planLive && p.atSpring && (decide (d ≤ 0) || (d == 1 && s.tide.springCaptured))

/-- PLAN_STAGED: every domain that the plan in POWERING needs is powered (R65): it is STAGED, its fields stand in the shadows, the device
arms its group, and the command that submitted it is done; or its boundary has been missed (R61). -/
def execPlanStaged (s : State) : Result :=
  .next <| match s.tide.staged with
    | none => s
    | some p =>
      if s.planState ≠ 2 ∨ !(closure s.x16 (p.domains s.x16)).all s.powered then s
      else if s.springMissed p then s.refusePlan ⟨0x0031, 0, p.applySpring, s.get tidePage Tidemark.SPRING_COUNT_COUNT⟩
      else
        let s := s.loadPlan false (some p)
        let s := { s with commit := { s.commit with devArm := some p.group }, tide := { s.tide with ended := some (0, 0, 0) } }
        (s.judgeArm p.group).setPlanState 3

end Sys2Proof.Machine
end

