-- ==== Sys2Proof/Machine/Seawall.lean ====
section
/-!
DEFINITION. Sys2Proof/Machine/Seawall.lean: heartbeats, failures, switches, self-test, health reports, repair and return of the halves
(R451 to R469).
-/
namespace Sys2Proof.Machine

/-- Pages 0 and 1 of the Seawall. -/
def swPage : Nat := 0x40
def swPage1 : Nat := 0x41

/-- Half h takes a state (R453). -/
def State.putHalfState (s : State) (h st : Nat) : State :=
  s.put swPage (if h = 0 then Seawall.SW_STAT_STATE_H0 else Seawall.SW_STAT_STATE_H1) st

/-- Bit h of a two-bit field of SW_STAT. -/
def State.putHalfBit (s : State) (f : Field) (h : Nat) (b : Bool) : State :=
  let m := s.get swPage f
  s.put swPage f (if b then setBit m h else clearBit m h)

/-- Half h acts, or no longer acts (R454, R459). -/
def State.putActing (s : State) (h : Nat) (b : Bool) : State :=
  let s := s.putHalfBit Seawall.SW_STAT_ACTING h b
  { s with seawall := { s.seawall with actChanged := s.seawall.actChanged.set h s.time.c } }

/-- The conditions of HALF_FAILED, HALF_DEGRADED and NO_HALF as they now are (R475), and NO_TARGET of the Beacon, which follows them (R527). -/
def State.judgeSeawall (s : State) : State :=
  let s := s.cond swPage 0 ([0, 1].any s.halfFailed)
  let s := s.cond swPage 1 (s.get swPage Seawall.SW_STAT_DEGRADED != 0)
  (s.cond swPage 2 ([0, 1].all fun h => s.halfState h != 1)).judgeBeacon

/-! ## Heartbeats (R455, R456) -/

/-- WIRE_OK, or MBX_OK, of half h. -/
def hbOk (h : Nat) (wire : Bool) : Field :=
  if h = 0 then (if wire then Seawall.SW_HB0_WIRE_OK else Seawall.SW_HB0_MBX_OK)
  else (if wire then Seawall.SW_HB1_WIRE_OK else Seawall.SW_HB1_MBX_OK)

/-- WIRE_LOSSES, or MBX_LOSSES, of half h. -/
def hbLosses (h : Nat) (wire : Bool) : Field :=
  if h = 0 then (if wire then Seawall.SW_HB_CNT0_WIRE_LOSSES else Seawall.SW_HB_CNT0_MBX_LOSSES)
  else (if wire then Seawall.SW_HB_CNT1_WIRE_LOSSES else Seawall.SW_HB_CNT1_MBX_LOSSES)

/-- Are the heartbeats of half h judged (R456)? Not of one that is FAILED or OFF. -/
def State.hbJudged (s : State) (h : Nat) : Bool := s.halfState h != 4 && s.halfState h != 0

/-- DEGRADED of half h as it now is (R456). -/
def State.judgeDegraded (s : State) (h : Nat) : State :=
  let was := hasBit (s.get swPage Seawall.SW_STAT_DEGRADED) h
  let now := s.hbJudged h && !(s.flag swPage (hbOk h true) && s.flag swPage (hbOk h false))
  ((s.putHalfBit Seawall.SW_STAT_DEGRADED h now).eventIf (now && !was) swPage 3).judgeSeawall

/-- A beat of half h on a path is good (R455). -/
def State.goodBeat (s : State) (h : Nat) (wire : Bool) : State :=
  let w := s.seawall
  let s := { s with seawall := if wire then { w with wireAt := w.wireAt.set h s.time.c } else { w with mbxAt := w.mbxAt.set h s.time.c } }
  (s.put swPage (hbOk h wire) 1).judgeDegraded h

/-- HEARTBEAT_WIRE_EDGE: the wire of half h toggles (R455). -/
def execHeartbeatWireEdge (h : Fin 2) (s : State) : Result := .next (s.goodBeat h true)

/-- HEARTBEAT_MAILBOX: a message of half h arrives with an index and a count (R455): it is good where the index is right and the count is one
more than the reference's; a wrong count becomes the reference. -/
def execHeartbeatMailbox (h : Fin 2) (index : Fin 256) (count : Fin 65536) (s : State) : Result :=
  .next <| if index.val ≠ h.val then s
    else
      let good := match s.seawall.mbxRef.getD h none with
        | some r => count.val == (r + 1) % 65536
        | none => false
      let s := { s with seawall := { s.seawall with mbxRef := s.seawall.mbxRef.set h (some count.val) } }
      if good then s.goodBeat h false else s

/-- HALF_DEGRADED: the age of a path of half h, the wire's or the mailbox's, has reached its limit (R456). -/
def execHalfDegraded (h : Fin 2) (wire : Bool) (s : State) : Result :=
  .next <| if !s.hbJudged h || !s.flag swPage (hbOk h wire) then s
    else
      let s := (s.put swPage (hbOk h wire) 0).countSat swPage (hbLosses h wire)
      (s.noteHalf h fun t => { t with hbBad := true }).judgeDegraded h

/-! ## The switch (R458 to R461, R469) -/

/-- The sentinel streams of the live plan. -/
def State.sentinels (s : State) : List PlanStream := match s.tide.livePlan with
  | none => []
  | some p => p.streams.filter (·.isSentinel)

/-- Is an output line of stream x in progress in half h (R459)? -/
def State.lineInProgress (s : State) (h : Nat) (x : PlanStream) : Bool :=
  (s.channelsFor (fun y => y.stream == x.stream) (some h)).any fun c =>
    let y := s.ch c
    !y.inbox.isEmpty || !y.units.isEmpty || y.cur.any (fun r => !r.wq.isEmpty)

/-- Is an output of a frame gated by ACTING (R454), and begun in some half? -/
def State.straddles (s : State) (f : HalfFrame) (o : OutFrame) : Bool :=
  o.dest != 2 && (decide (2 ≤ o.dest) || s.x16) && s.frames.any (fun g => g.stream == f.stream && g.seq == f.seq &&
    g.outs.any (fun q => q.k == o.k && decide (0 < q.units)))

/-- SW_SPLIT starts afresh at a switch to half h: the outputs of the frames in flight in it wait for their first whole row (R461). -/
def State.startSplits (s : State) (h : Nat) : State :=
  let s := (List.range 8).foldl (fun (s : State) k => [0, 1, 2, 3].foldl (fun (s : State) o =>
    s.put swPage1 (Seawall.SW_SPLIT_VALID.nth k o) 0) s) s
  let flying := fun (f : HalfFrame) => f.half == h && f.sentinel != 0xFF
  let splits := (s.frames.filter flying).flatMap fun f =>
    (f.outs.filter (fun o => !o.issued && s.straddles f o)).map fun o => (f.stream, o.k, f.seq)
  let frames := s.frames.map fun f => if flying f && splits.any (fun e => e.1 == f.stream && e.2.2 == f.seq) then { f with straddle := true } else f
  { s with frames, seawall := { s.seawall with splits } }

/-- Both halves act for the streams whose windows are open (R274): frames of which payload has left, and more is to leave, show it. -/
def State.markDual (s : State) : State :=
  let opened := fun (x : Nat) => s.seawall.duals.any (fun w => w.stream == x && w.until_.isNone)
  { s with frames := s.frames.map fun f =>
      if opened f.stream && f.outs.any (fun o => decide (0 < o.units) && !o.issued) then { f with dual := true } else f }

/-- The half that acted for no stream any more stops acting (R459). -/
def State.closeDual (s : State) (old : Nat) : State :=
  if s.seawall.duals.any (fun w => w.until_.isNone) then s else s.putActing old false

/-- Control moves from half `old` to half `new` (R458, R459, R461), with its cause as SW_LAST shows it. `planned` leaves the old half STANDBY. -/
def State.switchTo (s : State) (old new cause : Nat) (planned : Bool) : State :=
  let s := s.putHalfState new 1
  let s := if planned then s.putHalfState old 2 else { s with cores := { s.cores with resume := true } }
  let s := if s.seawall.bist.getD new none == none then s
    else { s with seawall := { s.seawall with bist := s.seawall.bist.set new none } }
  let atOnce := cause == 1 || cause == 6
  let open_ := if atOnce then [] else (s.sentinels.filter (s.lineInProgress old)).map (·.stream)
  let duals := if atOnce then [] else s.sentinels.map fun x =>
    { half := old, stream := x.stream, until_ := if open_.contains x.stream then none else some s.time.c : DualWindow }
  let s := (s.putActing new true).startSplits new
  let s := { s with seawall := { s.seawall with duals, switchAt := s.time.c } }
  let dual := !open_.isEmpty
  let s := (s.put swPage Seawall.SW_LAST_CAUSE cause).put swPage Seawall.SW_LAST_FROM old
  let s := (s.put swPage Seawall.SW_LAST_TO new).put swPage Seawall.SW_LAST_DUAL (bit dual)
  let s := (s.put swPage Seawall.SW_LAST_TIME_LO_TIME s.now).put swPage Seawall.SW_LAST_TIME_HI_TIME (s.now / 2 ^ 32)
  let s := s.put swPage Seawall.SW_LAST_WIN_NS 0
  let s := s.countSat swPage (if cause < 9 then Seawall.SW_COUNT_FAILOVERS else Seawall.SW_COUNT_RETURNS)
  let s := s.eventIf (s.flag swPage Seawall.SW_STAT_DUAL && !dual) swPage 2
  let s := (s.event swPage 0).put swPage Seawall.SW_STAT_DUAL (bit dual)
  (((s.eventIf dual swPage 1).markDual).closeDual old).judgeSeawall

/-- DUAL_ACT_END: the dual-act window of stream x closes (R459): the line in progress has been handed over, or the window has lasted its
time. With the last one, the old half stops acting. -/
def execDualActEnd (x : Fin 160) (s : State) : Result :=
  .next <| match s.seawall.duals.find? (fun w => w.stream == x.val && w.until_.isNone) with
    | none => s
    | some w =>
      let close := fun (v : DualWindow) => if v.stream = x.val then { v with until_ := some s.time.c } else v
      let s := { s with seawall := { s.seawall with duals := s.seawall.duals.map close } }
      if s.seawall.duals.any (fun v => v.until_.isNone) then s
      else
        let s := if s.halfState w.half = 1 then s else s.putActing w.half false
        let s := s.put swPage Seawall.SW_LAST_WIN_NS (min 65535 (s.time.c - s.seawall.switchAt))
        (s.put swPage Seawall.SW_STAT_DUAL 0).event swPage 2

/-- A pending SWITCH is dropped (R469). -/
def State.dropSwitch (s : State) (reject : Bool) : State :=
  if !s.flag swPage Seawall.SW_CMD_SWITCH then s
  else
    let s := (s.put swPage Seawall.SW_CMD_SWITCH 0).eventIf reject swPage 6
    { s with seawall := { s.seawall with switchDue := false } }

/-- The control cores of half h stop (R519, R539): their interrupts are let go, their commands are lost. -/
def State.coresFail (s : State) (h : Nat) : State :=
  ((s.loseSteps (fun k => k / 2 == h) h).beaconDropLp (2 * h)).beaconDropLp (2 * h + 1)

/-- Reports of half h that have not reached the arbiter are void. -/
def State.dropSelfChecks (s : State) (h : Nat) : State :=
  { s with due := s.due.filter fun (d : Due) => match d with
      | .selfCheck g _ => g != h
      | .occurrence _ _ | .pulse _ | .msix _ _ | .trigger _ | .chipReset _ => true }

/-- Can half h take over (R458)? -/
def State.isCandidate (s : State) (h : Nat) : Bool :=
  s.halfState h == 2 || (s.halfState h == 3 && hasBit (s.get swPage Seawall.SW_STAT_HEALTHY) h)

/-- No half acts (R458). -/
def State.actNone (s : State) : State :=
  let s := (s.putActing 0 false).putActing 1 false
  let s := if s.flag swPage Seawall.SW_STAT_DUAL then (s.put swPage Seawall.SW_STAT_DUAL 0).event swPage 2 else s
  { s with seawall := { s.seawall with duals := [] } }

/-- Half h fails (R456, R457, R458). -/
def State.failHalf (s : State) (h cause : Nat) : State :=
  if s.halfFailed h || s.halfState h == 0 then s
  else
    let acted := s.halfState h == 1
    let s := (s.putHalfState h 4).event swPage 4
    let s := if s.halfState (1 - h) = 3 then s else s.put swPage Seawall.SW_STAT_RECOVER_COUNT 0
    let s := { s with seawall := { s.seawall with bist := s.seawall.bist.set h none } }
    let s := (((s.judgeDegraded h).dropSwitch (!acted)).cutHalf h).coresFail h
    let s := (s.portFails h).dropSelfChecks h
    let s := if !acted then s else if s.isCandidate (1 - h) then s.switchTo h (1 - h) cause false else s.actNone
    s.judgeSeawall

/-- HEARTBEAT_FAILURE: both ages of half h have reached 4,000 ns (R456). -/
def execHeartbeatFailure (h : Fin 2) (s : State) : Result :=
  .next <| if s.flag swPage (hbOk h true) || s.flag swPage (hbOk h false) then s else s.failHalf h 1

/-- Does a cause lead to a failure (R457)? -/
def State.causeEnabled (s : State) (cause : Nat) : Bool :=
  cause < 2 || 7 < cause || hasBit (s.get swPage Seawall.SW_CFG_CAUSE_EN) (cause - 2)

/-- The oldest self-check report of half h that is under way. -/
def State.selfCheckOf (s : State) (h : Nat) : Option Nat := s.due.findSome? fun (d : Due) => match d with
  | .selfCheck g c => if g = h then some c else none
  | .occurrence _ _ | .pulse _ | .msix _ _ | .trigger _ | .chipReset _ => none

/-- HALF_FAILURE: a self-check report of half h reaches the arbiter (R457, R458). -/
def execHalfFailure (h : Fin 2) (s : State) : Result :=
  .next <| match s.selfCheckOf h with
    | none => s
    | some c =>
      let s := { s with due := s.due.erase (.selfCheck h c) }
      if s.causeEnabled c then s.failHalf h c else s

/-! ## Standby self-test (R463, R464) -/

/-- The islands of half h that are eligible (R463), in index order. -/
def State.islands (s : State) (h : Nat) : List Nat := match s.tide.livePlan with
  | none => []
  | some p => (List.range 8).filter fun i => (p.inlineOn (8 * h + i)).isEmpty && s.powered (8 * h + i)

/-- The island tested next: the one at the position, or the next eligible one. -/
def State.nextIsland (s : State) (h : Nat) : Option Nat :=
  let at_ := s.get swPage1 (Seawall.SW_BIST_POS_ISLAND.nth h)
  let l := s.islands h
  match l.find? (fun i => decide (at_ ≤ i)) with
  | some i => some i
  | none => l.head?

/-- Does half h test itself: is it standby or recovering? -/
def State.selfTests (s : State) (h : Nat) : Bool := s.halfState h == 2 || s.halfState h == 3

/-- A slack window of the lowest family opens: a slice starts in half h (R463). -/
def State.startBist (s : State) (h : Nat) : State :=
  if !s.selfTests h then s
  else match s.nextIsland h with
    | none => s
    | some i =>
      let s := if s.get swPage1 (Seawall.SW_BIST_POS_ISLAND.nth h) = i then s
        else (s.put swPage1 (Seawall.SW_BIST_POS_ISLAND.nth h) i).put swPage1 (Seawall.SW_BIST_POS_SLICE.nth h) 0
      { s with seawall := { s.seawall with bist := s.seawall.bist.set h (some (8 * h + i)) } }

/-- The position after a slice (R463): the next slice, the next eligible island, the next pass. -/
def State.stepBist (s : State) (h : Nat) : State :=
  let i := s.get swPage1 (Seawall.SW_BIST_POS_ISLAND.nth h)
  let k := s.get swPage1 (Seawall.SW_BIST_POS_SLICE.nth h)
  if k < 63 then s.put swPage1 (Seawall.SW_BIST_POS_SLICE.nth h) (k + 1)
  else
    let s := s.put swPage1 (Seawall.SW_BIST_POS_SLICE.nth h) 0
    let l := s.islands h
    match l.find? (fun j => decide (i < j)) with
    | some j => s.put swPage1 (Seawall.SW_BIST_POS_ISLAND.nth h) j
    | none => (s.put swPage1 (Seawall.SW_BIST_POS_ISLAND.nth h) (l.headD 0)).countWrap swPage1 (Seawall.SW_PASSES_BIST.nth h)

/-- BIST_SLICE_DONE: the slice that runs in half h ends; `good` where its signature is the fused one (R463). -/
def execBistSliceDone (h : Fin 2) (good : Bool) (s : State) : Result :=
  .next <| if (s.seawall.bist.getD h none).isNone then s
    else
      let s := { s with seawall := { s.seawall with bist := s.seawall.bist.set h none } }
      let s := (s.countWrap swPage1 (Seawall.SW_BIST_RUN_COUNT.nth h)).stepBist h
      if good then s else (s.noteHalf h fun t => { t with bistBad := true }).selfCheck h 8

/-- A march tests one segment of each of the six groups of half h (R464): `corr` single-bit errors are corrected; `bad` for any other error.
A pass takes as many windows as the groups have segments, which the manual does not state. -/
def State.march (s : State) (h corr : Nat) (bad : Bool) : State :=
  if !s.selfTests h then s
  else
    let s := s.countWrap swPage1 (Seawall.SW_MBIST_RUN_COUNT.nth h) 6
    let s := s.countSat swPage1 (Seawall.SW_MBIST_CORR_COUNT.nth h) corr
    let windows := s.get swPage1 (Seawall.SW_MBIST_RUN_COUNT.nth h) / 6
    let s := if windows % (Config.mbistWindows.toNat + 1) = 0 then s.countWrap swPage1 (Seawall.SW_PASSES_MBIST.nth h) else s
    if bad then (s.noteHalf h fun t => { t with mbistBad := true }).selfCheck h 8 else s

/-! ## Health reports, repair and return (R465 to R468) -/

/-- Does a fault source of half h's instances hold an unacknowledged fault of effective severity 3 or more (R465, R480)? -/
def State.halfFaulty (s : State) (h : Nat) : Bool := s.flt.any fun (e : Nat × FltMarks) =>
  (pageRef e.1).any (fun r => r.half == some h) && [2, 3, 4, 5].any fun k => (e.2.unack &&& e.2.sevs.getD k 0) != 0

/-- Half h's report for the tide that ended (R465). -/
def State.reportHalf (s : State) (h tide : Nat) : State :=
  let t := s.seawall.tide.getD h {}
  let st := s.halfState h
  let fault := !t.faultBad && !s.halfFaulty h
  let items := [!t.hbBad, !t.checkBad, !t.bistBad, !t.mbistBad, fault, !t.partBad, st != 3 || !t.differ]
  let healthy := items.all id && st != 0 && st != 4
  let fs := [Seawall.SW_RPT_HB_OK, Seawall.SW_RPT_CHECK_OK, Seawall.SW_RPT_BIST_OK, Seawall.SW_RPT_MBIST_OK, Seawall.SW_RPT_FAULT_OK,
    Seawall.SW_RPT_PARTS_OK, Seawall.SW_RPT_MATCH_OK]
  let s := (fs.zip items).foldl (fun (s : State) (e : Field × Bool) => s.put swPage1 (e.1.nth h) (bit e.2)) s
  let s := (s.put swPage1 (Seawall.SW_RPT_HEALTHY.nth h) (bit healthy)).put swPage1 (Seawall.SW_RPT_TIDE_TIDE.nth h) tide
  let s := s.putHalfBit Seawall.SW_STAT_HEALTHY h healthy
  s.noteHalf h fun _ => {}

/-- A recovering half counts its report, and leaves RECOVERING at the 64th healthy one (R467). -/
def State.recover (s : State) (h : Nat) : State :=
  if s.halfState h ≠ 3 then s
  else if !hasBit (s.get swPage Seawall.SW_STAT_HEALTHY) h then s.put swPage Seawall.SW_STAT_RECOVER_COUNT 0
  else
    let n := s.get swPage Seawall.SW_STAT_RECOVER_COUNT + 1
    let s := s.put swPage Seawall.SW_STAT_RECOVER_COUNT n
    if n < 64 then s
    else
      let s := s.event swPage 5
      if s.flag swPage Seawall.SW_CFG_REVERT_EN && s.get swPage Seawall.SW_CFG_PREFER == h && s.halfState (1 - h) == 1 then
        s.switchTo (1 - h) h 9 true
      else (s.putHalfState h 2).judgeSeawall

/-- The reports of both halves are published (R465, R467, R475). -/
def State.publishReports (s : State) (tide : Nat) : State :=
  let s := (s.reportHalf 0 tide).reportHalf 1 tide
  let bad := [0, 1].any fun h => !s.flag swPage1 (Seawall.SW_RPT_BIST_OK.nth h) || !s.flag swPage1 (Seawall.SW_RPT_MBIST_OK.nth h)
  ((s.cond swPage 4 bad).recover 0).recover 1

/-- HEALTH_REPORT_TIMER: while no plan is live, a report is published every 16 ms (R465). -/
def execHealthReportTimer (s : State) : Result := .next (if s.planLive then s else s.publishReports 0)

/-- The instances of half h. -/
def instancesOfHalf (h : Nat) : List PageRef := allInstances.filter (fun r => r.half == some h)

/-- A repair of half h begins (R466): its domains are powered, its instances reset. -/
def State.startRepair (s : State) (h : Nat) : State :=
  let s := s.put swPage (if h = 0 then Seawall.SW_CMD_REPAIR0 else Seawall.SW_CMD_REPAIR1) 1
  let s := { s with power := { s.power with repair := h :: s.power.repair.filter (· != h) } }
  let mask := fun (w : Nat) => (domainsOfHalf h).foldl (fun (m : Nat) d => if d / 32 = w then setBit m (d % 32) else m) 0
  let s := [0, 1, 2].foldl (fun (s : State) w => s.clearDrops w (mask w)) s
  (instancesOfHalf h).foldl (fun (s : State) r => s.blockReset r) s

/-- A write of SW_CMD (R466, R468). A command that runs already goes on (R11). -/
def State.writeSwCmd (s : State) (w : Nat) : State :=
  let repair := fun (s : State) (h : Nat) =>
    if s.power.repair.contains h then s else if s.halfFailed h then s.startRepair h else s.event swPage 6
  let s := if w.testBit 31 then repair s 0 else s
  let s := if w.testBit 30 then repair s 1 else s
  if !w.testBit 29 || s.flag swPage Seawall.SW_CMD_SWITCH then s
  else
    let ok := [0, 1].any fun h => s.halfState (1 - h) == 1 && s.halfState h == 2 && hasBit (s.get swPage Seawall.SW_STAT_HEALTHY) h
    if ok then s.put swPage Seawall.SW_CMD_SWITCH 1 else s.event swPage 6

/-- HALF_REPAIR: a write of SW_CMD with REPAIR of half h (R466). -/
def execHalfRepair (req : Requester) (h : Fin 2) (w : Word) (s : State) : Result :=
  .next <| s.onWrite req (regOff swPage Seawall.SW_CMD_REPAIR0) fun s => s.writeSwCmd (w.toNat ||| (if h.val = 0 then 2 ^ 31 else 2 ^ 30))

/-- REPAIR_DONE: every instance of half h is READY, and it enters RECOVERING; where no half acts, it acts at once (R466). -/
def execRepairDone (h : Fin 2) (s : State) : Result :=
  .next <| if !s.power.repair.contains h.val || !(instancesOfHalf h).all s.ready then s
    else
      let s := { s with power := { s.power with repair := s.power.repair.filter (· != h.val) } }
      let s := s.put swPage (if h.val = 0 then Seawall.SW_CMD_REPAIR0 else Seawall.SW_CMD_REPAIR1) 0
      let s := s.put swPage Seawall.SW_STAT_RECOVER_COUNT 0
      let s := if [0, 1].any (fun g => s.halfState g == 1) then s.putHalfState h 3 else (s.putHalfState h 1).putActing h true
      (s.judgeDegraded h).pumpPower

/-- SWITCH_REQUEST: a write of SW_CMD with SWITCH = 1 (R468). -/
def execSwitchRequest (req : Requester) (w : Word) (s : State) : Result :=
  .next <| s.onWrite req (regOff swPage Seawall.SW_CMD_SWITCH) fun s => s.writeSwCmd (w.toNat ||| 2 ^ 29)

/-- SWITCH_APPLY: a requested switch is applied: at the boundary of the lowest family that follows the request, or at once while no plan is
live (R468). -/
def execSwitchApply (s : State) : Result :=
  .next <| if !s.flag swPage Seawall.SW_CMD_SWITCH || (s.planLive && !s.seawall.switchDue) then s
    else match [0, 1].find? (fun h => s.halfState (1 - h) == 1 && s.halfState h == 2) with
      | none => s.dropSwitch true
      | some h => (s.dropSwitch false).switchTo (1 - h) h 10 true

end Sys2Proof.Machine
end

