-- ==== Sys2Proof/Machine/Cores.lean ====
section
/-!
DEFINITION. Sys2Proof/Machine/Cores.lean: the lockstep pairs, the command ring, and the commands that act on plans and memory
(R528 to R541). FW_STEP_BOUNDARY fetches entries and runs steps; the command of an opcode is the start of a fetched entry.
-/
namespace Sys2Proof.Machine

/-- Page 0 of processor k; the page of the one ring (R547). -/
def lpPage (k : Nat) : Nat := Block.page .lp k 0
def ringPage : Nat := Block.page .lp 0 1

/-! ## Memory as the firmware reaches it (R303, R532) -/

/-- What the check finds in each table read of a firmware access in half h. -/
def State.walkErrors (s : State) (h ba : Nat) (v : MemView) : List EccResult :=
  (s.walkReads h ba).map fun a =>
    let here := v.errs.filter fun (e : Nat × Bool) => e.1 / 64 == a / 64
    if here.any (·.2) then .uncorrectable else if here.isEmpty then .clean else .corrected

/-- Translate an address of a firmware access of class `cls` in half h: a failure is recorded (R305), with a requester that the manual does not name. -/
def State.coreXlate (s : State) (h cls ba : Nat) (write host : Bool) (v : MemView) : Except StepEnd (Bool × Nat) × State :=
  let (t, s) := s.translateFor h cls ba write host (s.walkErrors h ba v)
  match t with
  | .ok r => (.ok r, s)
  | .error (cause, level) =>
    let (x, s) := s.fresh
    let (y, s) := s.fresh
    let s := s.xlateFault h x y ba write cause level
    (.error { status := 6, detail := cause }, s)

/-- The parts of the n bytes from ba on that lie in one translation granule each (R304). -/
def granules (ba n : Nat) : List (Nat × Nat) :=
  (List.range (n / 65536 + 2)).filterMap fun i =>
    let lo := max ba ((ba / 65536 + i) * 65536)
    let hi := min (ba + n) ((ba / 65536 + i + 1) * 65536)
    if lo < hi then some (lo, hi - lo) else none

/-- Errors that the check of half h finds in n bytes from pa on (R288): true where one is uncorrectable. -/
def State.checkLines (s : State) (h pa n : Nat) (v : MemView) : Bool × State :=
  let on := s.flag (hbPage h 0) Harbour.HB_STAT_ECC_ON
  let hits := v.errs.filter fun (e : Nat × Bool) => on && decide (pa / 64 ≤ e.1 / 64) && decide (e.1 / 64 < (pa + n + 63) / 64)
  (hits.any (·.2), hits.foldl (fun (s : State) e => s.eccApply h e.1 (if e.2 then .uncorrectable else .corrected)) s)

/-- Read one granule's part for the firmware in half h; a local read of class 3 is charged to it (R623). -/
def State.corePiece (s : State) (h ba n cls : Nat) (v : MemView) : Except StepEnd (List Byte) × MemView × State :=
  let (t, s) := s.coreXlate h cls ba false true v
  match t with
  | .error e => (.error e, v, s)
  | .ok (true, a) =>
    let s := s.emit (.coreRead h a n)
    if v.fail then
      let (x, s) := s.fresh
      let (y, s) := s.fresh
      (.error { status := x, detail := y }, v, s)
    else (.ok (sliceBytes v.host 0 n), { v with host := v.host.drop n }, s)
  | .ok (false, pa) =>
    let s := s.charge h cls n (if s.withinCredit h cls n then 3 else 5)
    let (bad, s) := s.checkLines h pa n v
    if bad then (.error { status := 7, detail := h }, v, s) else (.ok (s.memRead h pa n), v, s)

/-- Read n bytes at ba for the firmware in half h. -/
def State.coreRead (s : State) (h ba n cls : Nat) (v : MemView) : Except StepEnd (List Byte) × MemView × State :=
  (granules ba n).foldl (fun (a : Except StepEnd (List Byte) × MemView × State) (g : Nat × Nat) => match a with
    | (.error e, v, s) => (.error e, v, s)
    | (.ok got, v, s) => match s.corePiece h g.1 g.2 cls v with
      | (.ok b, v, s) => (.ok (got ++ b), v, s)
      | (.error e, v, s) => (.error e, v, s)) (.ok [], v, s)

/-- Write bytes at ba for the firmware in half h, to host memory only where `host` allows it: how it fails, if it does. A host write
carries neither Relaxed Ordering nor No Snoop (R536). -/
def State.coreWrite (s : State) (h ba : Nat) (bytes : List Byte) (host : Bool) : Option StepEnd × State :=
  (granules ba bytes.length).foldl (fun (a : Option StepEnd × State) (g : Nat × Nat) => match a with
    | (some e, s) => (some e, s)
    | (none, s) =>
      let b := (bytes.drop (g.1 - ba)).take g.2
      match s.coreXlate h 4 g.1 true host {} with
      | (.error e, s) => (some e, s)
      | (.ok (true, addr), s) => (none, s.hostWriteBurst h addr b false false false)
      | (.ok (false, pa), s) => (none, s.memWrite h pa b)) (none, s)

/-! ## Processors and roles (R528, R531) -/

/-- Does processor k run its firmware? -/
def State.running (s : State) (k : Nat) : Bool :=
  let st := s.get (lpPage k) Lp.LP_FW_STAT_STATE
  (st == 2 || st == 3) && s.ready ⟨.lp, k, 0⟩ && !hasBit s.cores.down k && !s.lpHalfFailed k

/-- The processor that runs the steps of half h: its first one, or the other while that is down (R528, R531). -/
def State.runner (s : State) (h : Nat) : Option Nat := [2 * h, 2 * h + 1].find? s.running

/-- The half that is ACTING (R453). -/
def State.actingHalf (s : State) : Option Nat := [0, 1].find? fun h => s.halfState h == 1

/-- CMD_BASE and CPL_BASE (R532). -/
def State.cmdBase (s : State) : Nat := s.get ringPage Lp.CMD_BASE_HI_BA * 2 ^ 32 + s.get ringPage Lp.CMD_BASE_LO_BA * 2 ^ 14
def State.cplBase (s : State) : Nat := s.get ringPage Lp.CPL_BASE_HI_BA * 2 ^ 32 + s.get ringPage Lp.CPL_BASE_LO_BA * 2 ^ 12

/-- Does an address lie in local memory of half h? -/
def State.isLocal (s : State) (h ba : Nat) : Bool := match (s.translate h ba false true 0).1 with
  | .ok (host, _) => !host
  | .error _ => false

/-- The processor that serves the ring (R531, R532). A ring in local memory is served by the half that acted when it was enabled. -/
def State.serving (s : State) : Option Nat := match s.actingHalf with
  | none => none
  | some h =>
    let home := s.cores.home
    if h ≠ home ∧ (s.isLocal home s.cmdBase || s.isLocal home s.cplBase) then none else s.runner h

/-- The page on which an event of the ring shows: that of the serving processor, else of the one written. -/
def State.ringEventPage (s : State) (k : Nat) : Nat := lpPage (s.serving.getD k)

/-- LP_FW_STAT shows the role of processor k (R531, R548). -/
def State.roleOf (s : State) (k : Nat) : State :=
  s.put (lpPage k) Lp.LP_FW_STAT_STATE (if s.halfState (k / 2) = 1 then 2 else 3)

/-- Processor k starts its firmware, and opens its interrupts. -/
def State.startFirmware (s : State) (k : Nat) : State :=
  let c := s.cores
  ({ s with cores := { c with mie := setBit c.mie k, down := clearBit c.down k } }).roleOf k

/-- LOCKSTEP_MISMATCH: the two cores of pair k disagree (R528). -/
def execLockstepMismatch (k : Fin 4) (s : State) : Result :=
  .next <| if !s.ready ⟨.lp, k, 0⟩ then s
    else ((s.countSat (lpPage k) Lp.LOCKSTEP_CNT_COUNT).report (lpPage k) 0).selfCheck (k / 2) 5

/-- PAIR_REBOOT_DONE: pair k has rebooted its firmware from ROM, and takes up its roles (R528, R551); so does one powered up after boot. -/
def execPairRebootDone (k : Fin 4) (s : State) : Result :=
  let waits := hasBit s.cores.down k || s.get (lpPage k) Lp.LP_FW_STAT_STATE == 1
  .next <| if !s.ready ⟨.lp, k, 0⟩ || !waits || s.get 0x8 Chip.BOOT_STAT_STATE != 3 then s
    else (((s.lower (lpPage k) 0).lower (lpPage k) 1).lower (lpPage k) 2).startFirmware k

/-- CORE_WATCHDOG: the firmware of processor k has not restarted its watchdog in time (R530). -/
def execCoreWatchdog (k : Fin 4) (s : State) : Result :=
  .next <| if s.flag (lpPage k) Lp.WD_CFG_EN && s.ready ⟨.lp, k, 0⟩ then s.report (lpPage k) 1 else s

/-! ## The ring (R532 to R536) -/

/-- A number in an entry. -/
def RingEntry.num (e : RingEntry) (p n : Nat) : Nat := fieldLE (e.bytes.getD []) p n

/-- OPCODE, IRQ and FENCE of an entry (R535); the GEN its count asks for (R534); its index. -/
def RingEntry.opcode (e : RingEntry) : Nat := e.num 0 2
def RingEntry.irq (e : RingEntry) : Bool := (e.num 2 1).testBit 0
def RingEntry.fence (e : RingEntry) : Bool := (e.num 2 1).testBit 1
def RingEntry.due (e : RingEntry) : Nat := e.count / 256 % 256
def RingEntry.index (e : RingEntry) : Nat := e.count % 256

/-- A load that copies into both halves (R538); a CHECK load. -/
def RingEntry.both (e : RingEntry) : Bool := e.opcode == 0x10 && (e.num 0x30 1).testBit 1

/-- Has the command of an entry ended? -/
def State.entryEnded (s : State) (e : RingEntry) : Bool := s.cores.waiting.any (fun c => c.count == e.count)

/-- Change the entry of a count. -/
def State.modEntry (s : State) (count : Nat) (g : RingEntry → RingEntry) : State :=
  { s with cores := { s.cores with entries := s.cores.entries.map fun e => if e.count = count then g e else e } }

/-- A result, free where the manual gives none. -/
def State.known (s : State) : Option Nat → Nat × State
  | some v => (v, s)
  | none => s.fresh

/-- Is the completion ring full (R536)? -/
def State.cplFull (s : State) : Bool :=
  decide (256 ≤ (s.get ringPage Lp.CPL_TAIL_COUNT + 65536 - s.get ringPage Lp.CPL_HEAD_COUNT) % 65536)

/-- The record of a completion, as record k (R536). -/
def Completion.record (c : Completion) (k : Nat) : List Byte :=
  toBytesLE 1 (c.count % 256) ++ toBytesLE 1 c.gen ++ toBytesLE 2 c.status ++ toBytesLE 4 c.result0 ++ toBytesLE 4 c.result1 ++
    toBytesLE 2 c.detail ++ [0] ++ toBytesLE 1 (k / 256 % 2)

/-- A completion is written by half h, and its entry is free (R533, R536). A write that faults is recorded and is not repeated. -/
def State.writeRecord (s : State) (h : Nat) (c : Completion) : State :=
  if s.cplFull then s
  else
    let k := s.get ringPage Lp.CPL_TAIL_COUNT
    let s := (s.coreWrite h (s.cplBase + 16 * (k % 256)) (c.record k) true).2
    let x := s.cores
    let s := { s with cores := { x with waiting := x.waiting.filter (fun d => d.count != c.count), entries := x.entries.filter (fun e => e.count != c.count) } }
    let s := s.countWrap ringPage Lp.CPL_TAIL_COUNT
    if c.irq then s.fireSource (s.get ringPage Lp.CMD_CFG_CPL_SRC) else s

/-- Completions are written, as far as there is room (R536). -/
def State.drain (s : State) : State := match s.serving with
  | none => s
  | some k =>
    let s := s.cores.waiting.foldl (fun (s : State) c => s.writeRecord (k / 2) c) s
    if s.cores.waiting.isEmpty then [0, 1, 2, 3].foldl (fun (s : State) q => s.lower (lpPage q) 5) s else s

/-- A learn operation on a context is over (R234). -/
def State.endLearn (s : State) (e : RingEntry) : State :=
  let n := e.num 0x10 1
  let c := e.num 0x11 1
  match e.work with
  | .learn _ => s.putCoveCtx n c { s.coveCtx n c with learning := false }
  | .none | .submit | .load _ _ _ _ | .scrub _ _ _ | .check _ _ => s

/-- The command of an entry ends (R536, R539). -/
def State.endEntry (s : State) (e : RingEntry) (x : StepEnd) : State :=
  let (a, s) := (s.endLearn e).known x.r0
  let (b, s) := s.known x.r1
  let gen := match e.bytes with
    | some (b :: l) => fieldLE (b :: l) 3 1
    | _ => e.due
  let c : Completion := { count := e.count, gen, status := x.status, result0 := a, result1 := b, detail := x.detail, irq := e.irq }
  ({ s with cores := { s.cores with waiting := s.cores.waiting ++ [c] } }).drain

/-- CMD_DOORBELL: a write of CMD_TAIL on processor k's page (R533). -/
def execCmdDoorbell (k : Fin 4) (req : Requester) (w : Word) (s : State) : Result :=
  .next <| s.onWrite req (regOff (Block.page .lp k 1) Lp.CMD_TAIL_COUNT) fun s =>
    let tail := s.get ringPage Lp.CMD_TAIL_COUNT
    let n := (w.toNat % 65536 + 65536 - tail) % 65536
    let mine := s.cores.owner.all (· == req)
    if !s.flag ringPage Lp.CMD_CFG_EN || !mine || decide (256 < s.cores.entries.length + n) then s.event (s.ringEventPage k) 1
    else
      let new := (List.range n).map fun i => { count := (tail + i) % 65536, posted := s.time.c : RingEntry }
      let s := { s with cores := { s.cores with owner := some req, entries := s.cores.entries ++ new } }
      let s := (s.put ringPage Lp.CMD_TAIL_COUNT w.toNat).put ringPage Lp.CMD_STAT_OWNER req.code
      s.owe (.pulse 1)

/-- CPL_HEAD_WRITE: a write of CPL_HEAD on processor k's page by the ring's owner returns records (R533, R536). -/
def execCplHeadWrite (k : Fin 4) (req : Requester) (w : Word) (s : State) : Result :=
  .next <| s.onWrite req (regOff (Block.page .lp k 1) Lp.CPL_HEAD_COUNT) fun s =>
    if s.cores.owner ≠ some req then s.event (s.ringEventPage k) 1
    else (s.put ringPage Lp.CPL_HEAD_COUNT w.toNat).drain

/-- CPL_FULL_TIMEOUT: a completion has waited for room for 1 ms (R536). -/
def execCplFullTimeout (s : State) : Result :=
  .next <| match s.serving with
    | none => s
    | some k => if s.cores.waiting.isEmpty then s else s.report (lpPage k) 5

/-- A write of a configuration register of the ring, on processor k's page (R532, R547). -/
def State.writeRingCfg (s : State) (k off w : Nat) : State :=
  let reject := s.event (s.ringEventPage k) 1
  let on := s.flag ringPage Lp.CMD_CFG_EN
  let base := fun (f : Field) => if on then reject else s.put ringPage f (bitsOf w f.hi f.lo)
  match off with
  | 0x040 => base Lp.CMD_BASE_LO_BA
  | 0x044 => base Lp.CMD_BASE_HI_BA
  | 0x048 => base Lp.CPL_BASE_LO_BA
  | 0x04C => base Lp.CPL_BASE_HI_BA
  | 0x050 =>
    let new := w.testBit 31
    let bad := on && !new && !s.cores.entries.isEmpty
    if bad then reject
    else
      let s := (s.put ringPage Lp.CMD_CFG_EN (bit new)).put ringPage Lp.CMD_CFG_CPL_SRC (Lp.CMD_CFG_CPL_SRC.stored (w % 32))
      if new && !on then
        ({ s with cores := { s.cores with owner := none, home := s.actingHalf.getD 0 } }).put ringPage Lp.CMD_STAT_OWNER 0
      else s
  | _ => s

/-! ## Steps (R534, R535, R537, R539) -/

/-- The bytes of PARAM that an opcode defines (R538). -/
def paramBytes : Nat → Option Nat
  | 0x0001 => some 0
  | 0x0002 => some 8
  | 0x0003 => some 0
  | 0x0010 => some 33
  | 0x0011 => some 28
  | 0x0012 => some 1
  | 0x0013 => some 18
  | 0x0020 => some 12
  | 0x0021 => some 7
  | 0x0022 => some 6
  | 0x0030 => some 2
  | _ => none

/-- Can a command of this opcode take several steps (R537)? -/
def isLongOp (op : Nat) : Bool := [0x0002, 0x0010, 0x0011, 0x0012, 0x0013].contains op

/-- Long operations in flight (R537). -/
def State.longOps (s : State) : List RingEntry :=
  s.cores.entries.filter fun e => e.started && e.work != .none && !s.entryEnded e

/-- Is a fetched entry held back by FENCE: is an earlier command in use (R535)? -/
def State.fenced (s : State) (e : RingEntry) : Bool := e.fence && (s.cores.entries.head?.map (·.count)) != some e.count

/-- Does a fetched entry wait to start? -/
def State.unstarted (s : State) (e : RingEntry) : Bool := e.bytes.isSome && !e.started && !s.entryEnded e

/-- The entry whose command starts next: the first fetched one that nothing holds back (R537). -/
def State.nextStart (s : State) : Option RingEntry := s.cores.entries.find? fun e =>
  s.unstarted e && !s.fenced e && (!isLongOp e.opcode || decide (s.longOps.length < 8))

/-- What is wrong with a fetched entry, in the order GEN, OPCODE, reserved bytes (R534, R535, R538). -/
def RingEntry.fault (e : RingEntry) : Option StepEnd :=
  if e.num 3 1 ≠ e.due then some { status := 3, detail := e.due }
  else match paramBytes e.opcode with
    | none => some { status := 1, detail := e.opcode }
    | some n =>
      let places := (List.range 64).filter fun p => decide (4 ≤ p) && (decide (p < 16) || decide (16 + n ≤ p))
      if 4 ≤ e.num 2 1 then some { status := 2, detail := 2 }
      else (places.find? fun p => e.num p 1 != 0).map fun p => { status := 2, detail := p }

/-- Processor k fetches an entry (R534). -/
def State.fetchEntry (s : State) (k : Nat) (e : RingEntry) (v : MemView) : MemView × State :=
  let (r, v, s) := s.coreRead (k / 2) (s.cmdBase + 64 * e.index) 64 4 v
  let s := s.put ringPage Lp.CMD_HEAD_COUNT (e.count + 1)
  match r with
  | .error x => (v, ((s.modEntry e.count fun e => { e with bytes := some [] }).report (lpPage k) 4).endEntry { e with bytes := some [] } x)
  | .ok b =>
    let e := { e with bytes := some b }
    let s := (s.modEntry e.count fun _ => e).lower (lpPage k) 4
    match e.fault with
    | none => (v, s)
    | some x => (v, s.endEntry e x)

/-- The entry to be fetched next, where it may be: its index is free, and no fence holds it back (R534, R535). -/
def State.nextFetch (s : State) : Option RingEntry :=
  match s.cores.entries.find? (fun e => e.bytes.isNone) with
  | none => none
  | some e =>
    let taken := s.cores.entries.any fun x => x.bytes.isSome && x.index == e.index
    let held := s.cores.entries.any fun x => s.unstarted x && s.fenced x
    if taken || held then none else some e

/-- Processor k fetches every entry that it may (R537). -/
def State.fetchAll (s : State) (k : Nat) (v : MemView) : Nat → MemView × State
  | 0 => (v, s)
  | n + 1 => match s.nextFetch with
    | none => (v, s)
    | some e =>
      let (v, s) := s.fetchEntry k e v
      s.fetchAll k v n

/-- A submission that has ended completes its command (R538, R540). -/
def State.settle (s : State) : State := match s.tide.ended with
  | none => s
  | some (st, a, b) =>
    let s := { s with tide := { s.tide with ended := none } }
    match s.cores.entries.find? (fun e => e.started && e.work == .submit && !s.entryEnded e) with
    | none => s
    | some e => s.endEntry e (if st = 4 then { status := 4, r1 := some e.steps } else { status := st, r0 := some a, r1 := some b })

/-- The half for which a running command is lost (R538, R539): that of its processor, or a FAILED one that it needs. -/
def State.lostFor (s : State) (e : RingEntry) : Option Nat :=
  let needs := (if e.work == .none || e.work == .submit then [] else [e.half]) ++ (if e.both then [1 - e.half] else [])
  e.lost.orElse fun _ => if e.started then needs.find? s.halfFailed else none

/-- Commands that are lost complete so (R539). A lost submission ends as a withdrawn one does. -/
def State.dropLost (s : State) : State := s.cores.entries.foldl (fun (s : State) e =>
  match s.lostFor e with
  | none => s
  | some h =>
    if s.entryEnded e then s
    else
      let s := if e.work = .submit then
          let s := s.withdrawPlan.2
          { s with tide := { s.tide with ended := none } }
        else s
      s.endEntry e { status := 5, detail := h }) s

/-- LEN of a load, of a check (R538). -/
def RingEntry.loadLen (e : RingEntry) : Nat := e.num 0x28 4
def RingEntry.checkLen (e : RingEntry) : Nat := if e.num 0x18 4 = 0 then 2 ^ 32 else e.num 0x18 4

/-- Is a step of a running command to be run in half h? The serving half runs those of a submission. -/
def State.wants (s : State) (e : RingEntry) (h : Nat) (serving : Bool) : Bool :=
  e.started && !s.entryEnded e && (s.lostFor e).isNone && e.far.all (fun q => q / 2 != h) && (match e.work with
    | .none => false
    | .submit => serving && s.planState == 1
    | .load done _ _ handed => if h = e.half then decide (done < e.loadLen) else !handed.isEmpty
    | .learn _ | .scrub _ _ _ | .check _ _ => h == e.half)

/-- A step of a load: at most 256 KiB are read and written in its half (R538). -/
def State.loadStep (s : State) (e : RingEntry) (done : Nat) (v : MemView) : StepResult × State :=
  let n := min (e.loadLen - done) 0x40000
  let (r, _, s) := s.coreRead e.half (e.num 0x10 8 + done) n 4 v
  match r with
  | .error x => (.ends x, s)
  | .ok b => match s.coreWrite e.half (e.num 0x18 8 + done) b false with
    | (some x, s) => (.ends x, s)
    | (none, s) => (.loaded b, s)

/-- A step of the other half's copy (R538). -/
def State.copyStep (s : State) (e : RingEntry) (done : Nat) (handed : List (List Byte)) : StepResult × State :=
  let b := handed.headD []
  match s.coreWrite (1 - e.half) (e.num 0x20 8 + done) b false with
  | (some x, s) => (.ends x, s)
  | (none, s) => (.copied b.length, s)

/-- A step of a scrub: the lines of at most 1 MiB are read and corrected (R538). It reads at the level of patrol scrub, and is charged to
no class (R623). -/
def State.scrubStep (s : State) (e : RingEntry) (line corr unc : Nat) (v : MemView) : StepResult × State :=
  let h := e.half
  let n := min (s.memCapacity h / 64 - line) 16384
  let on := s.flag (hbPage h 0) Harbour.HB_STAT_ECC_ON
  let hits := v.errs.filter fun (x : Nat × Bool) => on && decide (line ≤ x.1 / 64) && decide (x.1 / 64 < line + n)
  let s := (s.checkLines h (64 * line) (64 * n) v).2
  let corr := corr + (hits.filter (fun x => !x.2)).length
  let unc := unc + (hits.filter (·.2)).length
  (if s.memCapacity h / 64 ≤ line + n then .ends { status := 0, r0 := some corr, r1 := some unc } else .goes (.scrub (line + n) corr unc), s)

/-- The check code of POLY over more bytes, and its end (R442). -/
def crcOver (poly crc : Nat) (b : List Byte) : Nat :=
  if poly = 0 then crcLsb 0x82F6_3B78 crc b else if poly = 1 then crcLsb 0xEDB8_8320 crc b else crcMsb 16 0x1021 crc b
def crcStart (poly : Nat) : Nat := if poly < 2 then 0xFFFF_FFFF else 0xFFFF
def crcEnd (poly crc : Nat) : Nat := if poly < 2 then crc ^^^ 0xFFFF_FFFF else crc

/-- A step of a check: at most 1 MiB is read (R538). -/
def State.checkStep (s : State) (e : RingEntry) (done crc : Nat) (v : MemView) : StepResult × State :=
  let n := min (e.checkLen - done) 0x100000
  let poly := e.num 0x1C 1
  let (r, _, s) := s.coreRead e.half (e.num 0x10 8 + done) n 3 v
  match r with
  | .error x => (.ends x, s)
  | .ok b =>
    let crc := crcOver poly crc b
    if done + n < e.checkLen then (.goes (.check (done + n) crc), s)
    else
      let got := crcEnd poly crc
      let bad := e.num 0x1D 1 == 1 && got != e.num 0x1E 4
      (.ends { status := if bad then 0xA else 0, r0 := some got, r1 := some 0 }, s)

/-! ## The learn operation (R235) -/

/-- Entries of 8 bytes. -/
def entriesOf (b : List Byte) : List (List Byte) := (List.range (b.length / 8)).map fun i => (b.drop (8 * i)).take 8

/-- The key of an entry of a defect map or a learn ring (R230, R234). -/
def entryKey (x : List Byte) : Nat := fieldLE x 0 2 * 65536 + fieldLE x 2 2

/-- A position that qualifies (R235): key, distinct sequence numbers, exposures. -/
structure LearnFind where
  key : Nat
  count : Nat
  mask : Nat
deriving DecidableEq, Repr

/-- The positions of learn-ring entries that qualify, by rising key: under at least `hits` sequence numbers of the last `frames` frames up to
`seq` (R235). -/
def learnFinds (ring : List (List Byte)) (seq frames hits : Nat) : List LearnFind :=
  let recent := ring.filter fun x =>
    let d := toSigned 16 (seq + 65536 - fieldLE x 6 2)
    decide (0 ≤ d) && decide (d < frames)
  let keys := (recent.map entryKey).eraseDups.mergeSort (fun a b => decide (a ≤ b))
  (keys.map fun k =>
    let mine := recent.filter fun x => entryKey x == k
    { key := k, count := ((mine.map fun x => fieldLE x 6 2).eraseDups).length,
      mask := mine.foldl (fun m x => m ||| 2 ^ (fieldLE x 4 1 % 4)) 0 : LearnFind }).filter fun f => decide (hits ≤ f.count)

/-- A listed position takes the exposures of a find; the rest of its entry stays (R235). -/
def mergeListed (finds : List LearnFind) (x : List Byte) : List Byte := match finds.find? (fun f => f.key == entryKey x) with
  | none => x
  | some f => x.take 4 ++ [BitVec.ofNat 8 (fieldLE x 4 1 ||| f.mask)] ++ x.drop 5

/-- The entry of a new position (R235). -/
def LearnFind.entry (f : LearnFind) : List Byte :=
  toBytesLE 2 (f.key / 65536) ++ toBytesLE 2 f.key ++ toBytesLE 1 (128 + f.mask) ++ toBytesLE 1 (min f.count 255) ++ [0, 0]

/-- Put a new entry in front of the first source entry with a larger key. -/
def insertEntry (x : List Byte) : List (List Byte) → List (List Byte)
  | [] => [x]
  | y :: r => if entryKey x < entryKey y then x :: y :: r else y :: insertEntry x r

/-- The new map, with the numbers of positions promoted and dropped (R235). -/
def learnMap (source : List (List Byte)) (finds : List LearnFind) (cap : Nat) : List (List Byte) × Nat × Nat :=
  let new := finds.filter fun f => !source.any (fun x => entryKey x == f.key)
  let ranked := new.mergeSort fun a b => decide (b.count < a.count) || (a.count == b.count && decide (a.key ≤ b.key))
  let kept := ranked.take (cap - source.length)
  (kept.foldl (fun m f => insertEntry f.entry m) (source.map (mergeListed finds)), kept.length, new.length - kept.length)

/-- A step of a learn operation (R235): the first takes LRN_WR and the stream's sequence number, the second reads the map and the ring, and
writes the new map. -/
def State.learnStep (s : State) (e : RingEntry) (at_ : Option (Nat × Nat)) (v : MemView) : StepResult × State :=
  let n := e.num 0x10 1
  let c := e.num 0x11 1
  let pg := covePage n 3
  match at_ with
  | none =>
    let x := ((s.boundTo n c).map (·.stream)).getD 0x3FF
    (.goes (.learn (some (s.get pg (Cove.LRN_WR_COUNT.nth c), s.st x StreamTab.ST_SEQ_SEQ % 65536))), s)
  | some (wr, seq) =>
    let size := 2 ^ s.live pg (Cove.LRN_CFG_SIZE_LOG2.nth c)
    let base := s.live pg (Cove.LRN_HI_BASE.nth c) * 2 ^ 32 + s.live pg (Cove.LRN_LO_BASE.nth c) * 64
    let held := if (s.coveCtx n c).ringFull then size else min wr size
    let (a, v, s) := s.coreRead e.half (e.num 0x18 8) (8 * e.num 0x14 4) 4 v
    let (b, _, s) := s.coreRead e.half base (8 * held) 4 v
    match a, b with
    | .error x, _ => (.ends x, s)
    | .ok _, .error x => (.ends x, s)
    | .ok source, .ok ring =>
      let finds := learnFinds (entriesOf ring) seq (e.num 0x12 1) (e.num 0x13 1)
      let (map, promoted, dropped) := learnMap (entriesOf source) finds (e.num 0x28 4)
      match s.coreWrite e.half (e.num 0x20 8) map.flatten true with
      | (some x, s) => (.ends x, s)
      | (none, s) => (.ends { status := 0, r0 := some promoted, r1 := some dropped }, s)

/-- Run one step of a command in half h. -/
def State.runStep (s : State) (e : RingEntry) (h : Nat) (v : MemView) : StepResult × State := match e.work with
  | .none => (.goes .none, s)
  | .submit => (.goes .submit, s.checkPlan)
  | .load done far _ handed => if h = e.half then s.loadStep e done v else s.copyStep e far handed
  | .learn at_ => s.learnStep e at_ v
  | .scrub line corr unc => s.scrubStep e line corr unc v
  | .check done crc => s.checkStep e done crc v

/-- A load whose bytes have all been written ends (R538). -/
def State.finishLoad (s : State) (e : RingEntry) : State := match e.work with
  | .load done far crc _ =>
    if done < e.loadLen ∨ (e.both ∧ far < e.loadLen) then s
    else
      let bad := (e.num 0x30 1).testBit 0 && crcEnd 0 crc != e.num 0x2C 4
      s.endEntry e { status := if bad then 0xA else 0, r0 := some (crcEnd 0 crc), r1 := some e.steps }
  | .none | .submit | .learn _ | .scrub _ _ _ | .check _ _ => s

/-- What a step has brought takes effect on its entry, unless the step has ended it. -/
def State.applyWork (s : State) (e : RingEntry) (r : StepResult) : State :=
  let store := fun (x : RingEntry) => s.modEntry e.count fun _ => x
  match r, e.work with
  | .loaded b, .load done far crc handed =>
    let e := { e with steps := e.steps + 1, work := .load (done + b.length) far (crcOver 0 crc b) (if e.both then handed ++ [b] else handed) }
    (s.modEntry e.count fun _ => e).finishLoad e
  | .copied n, .load done far crc handed =>
    let e := { e with work := .load done (far + n) crc (handed.drop 1) }
    (s.modEntry e.count fun _ => e).finishLoad e
  | .goes w, _ => store { e with steps := e.steps + 1, work := w }
  | .ends x, _ => (store { e with steps := e.steps + 1 }).endEntry { e with steps := e.steps + 1 } x
  | _, _ => store e

/-- The entry whose last step is oldest. -/
def oldestEntry (l : List RingEntry) : Option RingEntry := l.foldl (fun o e => match o with
  | none => some e
  | some x => if e.lastStep < x.lastStep then some e else some x) none

/-- The serving half runs a step of an entry. -/
def State.stepNear (s : State) (e : RingEntry) (h : Nat) (v : MemView) : State :=
  let e := { e with lastStep := s.time.c }
  let (r, s) := (s.modEntry e.count fun _ => e).runStep e h v
  (s.applyWork e r).settle

/-- Processor k, which does not serve the ring, runs a step for a command: its report is on its way (R540). -/
def State.stepFar (s : State) (k : Nat) (v : MemView) : State :=
  match oldestEntry (s.cores.entries.filter fun e => s.wants e (k / 2) false) with
  | none => s
  | some e =>
    let (r, s) := s.runStep e (k / 2) v
    let s := s.modEntry e.count fun e => { e with lastStep := s.time.c, far := some k }
    { s with cores := { s.cores with reports := s.cores.reports ++ [{ id := e.index, gen := e.due, result := r }] } }

/-- Sensor entries join the sequences of their windows (R573). -/
def State.addSensors (s : State) (l : List SensorEntry) : State := l.foldl (fun (s : State) e =>
  s.putWindow e.window { s.window e.window with sensors := (s.window e.window).sensors ++ [e] }) s

/-- A sensor entry of 12 bytes; none where it breaks the layout (R572). -/
def sensorEntry (b : List Byte) : Option SensorEntry :=
  let flags := fieldLE b 1 1
  if 39 < fieldLE b 0 1 ∨ 2 < flags ∨ fieldLE b 3 1 ≠ 0 then none
  else some { window := fieldLE b 0 1, width := flags, devAddr := fieldLE b 2 1, reg := fieldLE b 4 2, delayUs := fieldLE b 6 2,
              value := fieldLE b 8 4 }

/-- The sensor entries of a list, one after the other. -/
def sensorEntries (b : List Byte) : List (Option SensorEntry) := (List.range (b.length / 12)).map fun i => sensorEntry ((b.drop (12 * i)).take 12)

/-- Read and submit the plan document at an address (R48). -/
def State.submitAt (s : State) (h doc : Nat) (v : MemView) : Option StepEnd × State :=
  let (a, v, s) := s.coreRead h doc 0xC0 4 v
  match a with
  | .error x => (some x, s)
  | .ok head =>
    let n := 32 * min (fieldLE head 0x0C 2) 160 + 16 * min (fieldLE head 0x0E 2) 640
    let (b, _, s) := s.coreRead h (doc + 0xC0) n 4 v
    match b with
    | .error x => (some x, s)
    | .ok rest =>
      let (r, s) := s.submitPlan (head ++ rest)
      (r.map fun r => { status := 8, r0 := some r.word, r1 := some r.demand }, s)

/-- What the firmware does after wake (R578): it replays the sensor sequence, submits the plan document, and sets TOG_EN; the device is
then in RUN. -/
def State.wakeWork (s : State) (k : Nat) (v : MemView) : State :=
  let h := k / 2
  if s.power.wakeSeqDue then
    let s := { s with power := { s.power with wakeSeqDue := false } }
    let ba := s.get 0x2 Chip.PM_WAKESEQ_HI_BA * 2 ^ 32 + s.get 0x2 Chip.PM_WAKESEQ_LO_BA * 64
    match s.coreRead h ba (12 * s.get 0x2 Chip.PM_WAKESEQ_LEN_ENTRIES) 4 v with
    | (.ok b, _, s) => s.addSensors ((sensorEntries b).filterMap id)
    | (.error _, _, s) => s
  else if s.power.replanDue then
    let s := { s with power := { s.power with replanDue := false } }
    (s.submitAt h (s.get 0x2 Chip.PM_REPLAN_HI_BA * 2 ^ 32 + s.get 0x2 Chip.PM_REPLAN_LO_BA * 64) v).2
  else if s.get 0x2 Chip.PM_STAT_STATE = 2 then (s.put 0x2 Chip.PM_STAT_STATE 0).writeTogEn true
  else s

/-- Processor k, which serves the ring, is at a step boundary (R537): it fetches, and where no command waits to start it runs one step. -/
def State.serveRing (s : State) (k : Nat) (v : MemView) : State :=
  let s := (s.dropLost.settle).drain
  let (v, s) := s.fetchAll k v 256
  if s.nextStart.isSome then s
  else
    let own := s.tide.checking.isSome && !s.longOps.any (fun e => e.work == .submit)
    if own then s.checkPlan.settle
    else match oldestEntry (s.cores.entries.filter fun e => s.wants e (k / 2) true) with
      | none => s
      | some e => s.stepNear e (k / 2) v

/-- FW_STEP_BOUNDARY: processor k is at a step boundary, after a step of `ns` ns (R537); `v` is what it finds in memory. -/
def execFwStepBoundary (k : Fin 4) (ns : Nat) (v : MemView) (s : State) : Result :=
  .next <| if !s.running k then s
    else
      let s := (s.roleOf k).putMax ringPage Lp.STEP_MAX_NS ns
      let awake := s.power.wakeSeqDue || s.power.replanDue || s.get 0x2 Chip.PM_STAT_STATE == 2
      if awake && (s.actingHalf.bind s.runner) == some k.val then s.wakeWork k v
      else if s.serving = some k.val then s.serveRing k v
      else if s.runner (k / 2) = some k.val then s.stepFar k v
      else s

/-- STEP_REPORT: the oldest report of a step that another processor has run reaches the serving one (R540). -/
def execStepReport (s : State) : Result :=
  .next <| match s.serving, s.cores.reports with
    | some k, r :: rest =>
      let s := { s with cores := { s.cores with reports := rest } }
      let mine := fun (e : RingEntry) => e.index == r.id && e.due == r.gen && e.far.isSome && !s.entryEnded e
      match s.cores.entries.find? mine with
      | none => (s.countSat ringPage Lp.CMD_STALE_COUNT).event (lpPage k) 0
      | some e => s.applyWork { e with far := none } r.result
    | _, _ => s

/-! ## The commands (R538, R540) -/

/-- A command that processor k starts at a count of time. -/
def RingEntry.begun (e : RingEntry) (k c : Nat) : RingEntry := { e with started := true, lp := k, half := k / 2, lastStep := c }

/-- Processor k starts the command of an entry: CMD_LAT_MAX follows (R537). -/
def State.startEntry (s : State) (k : Nat) (e : RingEntry) : State :=
  (s.modEntry e.count fun _ => e.begun k s.time.c).putMax ringPage Lp.CMD_LAT_MAX_NS (s.time.c - e.posted)

/-- The start of the command of entry index i, where it is that of the opcode and its turn has come: `f` has the serving half and the
entry (R537). -/
def State.onStart (s : State) (i op : Nat) (f : State → Nat → RingEntry → State) : State :=
  match s.serving, s.nextStart with
  | some k, some e =>
    if e.index ≠ i ∨ e.opcode ≠ op then s
    else f (s.startEntry k e) (k / 2) (e.begun k s.time.c)
  | _, _ => s

/-- A parameter out of range: the offset of the first one that is (R539). -/
def badParam (l : List (Bool × Nat)) : Option StepEnd := (l.find? (·.1)).map fun (p : Bool × Nat) => { status := 2, detail := p.2 }

/-- Is an address of an entry out of range (R538)? -/
def RingEntry.highAddr (e : RingEntry) (p : Nat) : Bool := decide (2 ^ 52 ≤ e.num p 8)

/-- A long operation begins: its first step runs now where the serving half runs it (R537). -/
def State.beginWork (s : State) (e : RingEntry) (serving half : Nat) (w : LongWork) (v : MemView) : State :=
  let e := { e with half, work := w }
  let s := s.modEntry e.count fun _ => e
  if s.wants e serving true then s.stepNear e serving v else s

/-- NOP (R538). -/
def execNop (i : Fin 256) (s : State) : Result :=
  .next <| s.onStart i 0x0001 fun s _ e => s.endEntry e { status := 0, r0 := some 0, r1 := some 0 }

/-- PLAN_SUBMIT: the document is read once, and its admission begins (R48, R60). -/
def execPlanSubmit (i : Fin 256) (v : MemView) (s : State) : Result :=
  .next <| s.onStart i 0x0002 fun s h e =>
    let doc := e.num 0x10 8
    if e.highAddr 0x10 ∨ doc % 64 ≠ 0 then s.endEntry e { status := 2, detail := 0x10 }
    else
      match s.submitAt h doc v with
      | (some x, s) => s.endEntry e x
      | (none, s) => s.modEntry e.count fun e => { e with steps := 1, work := .submit }

/-- PLAN_WITHDRAW (R60). The submission it withdraws completes first. -/
def execPlanWithdraw (i : Fin 256) (s : State) : Result :=
  .next <| s.onStart i 0x0003 fun s _ e =>
    let (st, s) := s.withdrawPlan
    s.settle.endEntry e (if st = 0 then { status := 0, r0 := some 0, r1 := some 0 } else { status := st })

/-- TABLE_LOAD (R538). -/
def execTableLoad (i : Fin 256) (v : MemView) (s : State) : Result :=
  .next <| s.onStart i 0x0010 fun s h e =>
    let len := e.loadLen
    let bad := badParam [(e.highAddr 0x10, 0x10), (e.highAddr 0x18, 0x18), (e.highAddr 0x20, 0x20), (len == 0 || decide (2 ^ 24 < len), 0x28),
      (decide (4 ≤ e.num 0x30 1), 0x30)]
    match bad with
    | some x => s.endEntry e x
    | none =>
      if e.both && s.halfFailed (1 - h) then s.endEntry e { status := 5, detail := 1 - h }
      else s.beginWork e h h (.load 0 0 (crcStart 0) []) v

/-- DEFECT_LEARN (R235): it finds nothing to act on where the context is not bound. -/
def execDefectLearn (i : Fin 256) (v : MemView) (s : State) : Result :=
  .next <| s.onStart i 0x0011 fun s h e =>
    let n := e.num 0x10 1
    let c := e.num 0x11 1
    let frames := e.num 0x12 1
    let hits := e.num 0x13 1
    let cap := e.num 0x28 4
    let bad := badParam [(decide (15 < n), 0x10), (decide (7 < c), 0x11), (frames == 0, 0x12), (hits == 0 || decide (frames < hits), 0x13),
      (e.highAddr 0x18, 0x18), (e.highAddr 0x20, 0x20), (cap == 0 || decide (65536 < cap) || decide (cap < e.num 0x14 4), 0x28)]
    match bad with
    | some x => s.endEntry e x
    | none =>
      if s.halfFailed (n / 8) then s.endEntry e { status := 5, detail := n / 8 }
      else if (s.boundTo n c).isNone then s.endEntry e { status := 9 }
      else (s.beginLearn n c).beginWork e h (n / 8) (.learn none) v

/-- SCRUB_HALF (R538, R623). -/
def execScrubHalf (i : Fin 256) (v : MemView) (s : State) : Result :=
  .next <| s.onStart i 0x0012 fun s h e =>
    let half := e.num 0x10 1
    if 1 < half then s.endEntry e { status := 2, detail := 0x10 }
    else if s.halfFailed half then s.endEntry e { status := 5, detail := half }
    else s.beginWork e h half (.scrub 0 0 0) v

/-- CHECK_BUFFER (R538). -/
def execCheckBuffer (i : Fin 256) (v : MemView) (s : State) : Result :=
  .next <| s.onStart i 0x0013 fun s h e =>
    let bad := badParam [(e.highAddr 0x10, 0x10), (decide (2 < e.num 0x1C 1), 0x1C), (decide (1 < e.num 0x1D 1), 0x1D)]
    match bad with
    | some x => s.endEntry e x
    | none => s.beginWork e h h (.check 0 (crcStart (e.num 0x1C 1))) v

/-- A command that runs, or waits to start, is cancelled (R540). A submission ends as a withdrawn one. -/
def State.cancelEntry (s : State) (t : RingEntry) : State :=
  if t.started && t.work == .submit then s.withdrawPlan.2.settle
  else s.endEntry t { status := 4, r1 := some t.steps }

/-- CANCEL (R540, R541). A target that has not been fetched is read for its opcode and its GEN. -/
def execCancel (i : Fin 256) (v : MemView) (s : State) : Result :=
  .next <| s.onStart i 0x0030 fun s h e =>
    let s := s.settle
    let id := e.num 0x10 1
    let target := fun (t : RingEntry) => t.index == id && t.due == e.num 0x11 1 && t.count != e.count && !s.entryEnded t
    let none_ := fun (s : State) => s.endEntry e { status := 9 }
    match s.cores.entries.find? target with
    | none => none_ s
    | some t =>
      let (t, s) := (match t.bytes with
        | some _ => (t, s)
        | none =>
          let (r, _, s) := s.coreRead h (s.cmdBase + 64 * t.index) 64 4 v
          let t := { t with bytes := some (match r with
            | .ok b => b
            | .error _ => []) }
          (t, s) : RingEntry × State)
      if t.num 3 1 ≠ t.due then none_ s
      else if t.opcode = 0x30 then s.endEntry e { status := 2, detail := 0x10 }
      else ((s.modEntry t.count fun _ => t).cancelEntry t).endEntry e { status := 0, r0 := some 0, r1 := some 0 }

end Sys2Proof.Machine
end

