-- ==== Sys2Proof/Machine/Loops.lean ====
section
/-!
DEFINITION. Sys2Proof/Machine/Loops.lean: the firmware's exposure and white-balance loops and its policies (R542 to R546).
-/
namespace Sys2Proof.Machine

/-- The page of the one set of loops (R547). -/
def loopPage : Nat := Block.page .lp 0 2

/-! ## Parameters (R544) -/

/-- A number in a parameter block. -/
def LoopSt.num (l : LoopSt) (p n : Nat) : Nat := fieldLE l.params p n

/-- The offsets of a block that hold nothing, and must be 0. -/
def loopReserved (kind : Nat) : List Nat := (List.range 64).filter fun p => if kind = 0 then p == 0x13 || decide (0x18 ≤ p) else decide (7 ≤ p)

/-- Are the parameters of a block within their ranges? -/
def loopParamsOk (kind : Nat) (b : List Byte) : Bool :=
  (loopReserved kind).all (fun p => fieldLE b p 1 == 0) && (if kind = 0 then
    decide (0x101 ≤ fieldLE b 2 2) && decide (fieldLE b 2 2 ≤ 0x1000) && decide (0x100 ≤ fieldLE b 0x0C 2) && decide (fieldLE b 0x10 1 ≤ 63) &&
      decide (fieldLE b 0x11 1 ≤ 63) && decide (fieldLE b 0x12 1 ≤ 3)
  else decide (fieldLE b 6 1 ≤ 3))

/-- ROI of a loop. -/
def LoopSt.roi (l : LoopSt) : Nat := if l.kind = 0 then l.num 0x12 1 else l.num 6 1

/-! ## Who runs the loops, and on what (R531, R542) -/

/-- The processor that runs the loops: the second one of the acting half, or the first while that is down. -/
def State.loopRunner (s : State) : Option Nat := s.actingHalf.bind fun h => [2 * h + 1, 2 * h].find? s.running

/-- LOOP_LATE as it now is (R551). -/
def State.judgeLoops (s : State) : State :=
  let late := (List.range 160).any fun x => decide (8 ≤ s.get loopPage (Lp.LOOP_STAT_LATE_RUN.nth x))
  let at_ := s.loopRunner
  [0, 1, 2, 3].foldl (fun (s : State) k => if late then (if at_ = some k then s.raise (lpPage k) 6 else s) else s.lower (lpPage k) 6) s

/-- The contexts of a stream, one on every Cove of its parts (R219). -/
def State.loopContexts (s : State) (x : Nat) : List (Nat × Nat) := match s.streamPlan x, s.tide.livePlan with
  | some y, some p => y.parts.filterMap fun n => (p.contextOf n x).map fun c => (n, c)
  | _, _ => []

/-- The page of a Cove that a loop of a kind writes: black level, or white balance. -/
def loopCovePage (kind n : Nat) : Nat := covePage n (if kind = 0 then 2 else 7)

/-- Change a loop. -/
def State.modLoop (s : State) (x kind : Nat) (g : LoopSt → LoopSt) : State :=
  { s with cores := { s.cores with loops := s.cores.loops.map fun l => if l.stream = x ∧ l.kind = kind then g l else l } }

/-- EXP_ON, or WB_ON. -/
def loopOn (kind : Nat) : Field := if kind = 0 then Lp.LOOP_STAT_EXP_ON else Lp.LOOP_STAT_WB_ON

/-- A loop stops (R541, R542): the arms of its pages that have not been captured are withdrawn. -/
def State.stopLoop (s : State) (l : LoopSt) (contexts : List (Nat × Nat)) : State :=
  let s := { s with cores := { s.cores with loops := s.cores.loops.filter fun m => !(m.stream == l.stream && m.kind == l.kind) } }
  let s := contexts.foldl (fun (s : State) (e : Nat × Nat) =>
    let pg := loopCovePage l.kind e.1
    if s.flag pg Hdr.COMMIT_PENDING && s.get pg Hdr.COMMIT_GROUP == l.group then s.put pg Hdr.COMMIT_PENDING 0 else s) s
  let s := (if l.armed.isSome then s.dropArm l.group else s).put loopPage ((loopOn l.kind).nth l.stream) 0
  let s := if l.kind = 0 then s.put loopPage (Lp.LOOP_STAT_FIT_LOW.nth l.stream) 0 else s
  if s.cores.loops.any (fun m => m.stream == l.stream) then s
  else (s.put loopPage (Lp.LOOP_STAT_LATE_RUN.nth l.stream) 0).judgeLoops

/-- LOOP_CTRL (R542). -/
def execLoopCtrl (i : Fin 256) (v : MemView) (s : State) : Result :=
  .next <| s.onStart i 0x0020 fun s h e =>
    let x := e.num 0x10 1
    let kind := e.num 0x11 1
    let runs := s.cores.loops.find? fun l => l.stream == x && l.kind == kind
    let bad := badParam [((s.streamPlan x).isNone && e.num 0x12 1 != 0, 0x10), (decide (1 < kind), 0x11), (decide (1 < e.num 0x12 1), 0x12),
      (decide (63 < e.num 0x13 1), 0x13), (e.num 0x12 1 == 1 && (e.highAddr 0x14 || e.num 0x14 8 % 64 != 0), 0x14),
      (e.num 0x12 1 == 1 && runs.isSome, 0x11)]
    match bad with
    | some r => s.endEntry e r
    | none =>
      if e.num 0x12 1 = 0 then match runs with
        | none => s.endEntry e { status := 9 }
        | some l => (s.stopLoop l (s.loopContexts x)).endEntry e { status := 0, r0 := some 0, r1 := some 0 }
      else
        let (r, _, s) := s.coreRead h (e.num 0x14 8) 64 4 v
        match r with
        | .error f => (s.report (lpPage (s.serving.getD 0)) 4).endEntry e f
        | .ok b =>
          let s := s.lower (lpPage (s.serving.getD 0)) 4
          if !loopParamsOk kind b then s.endEntry e { status := 2, detail := 0x14 }
          else
            let val := fun (p : Nat) => s.get (jtPage (x / 4)) (Jetty.MIR_VAL_VALUE.nth (fieldLE b p 1))
            let l : LoopSt := { stream := x, kind, group := e.num 0x13 1, params := b }
            let l := if kind = 0 then { l with exp := val 0x10, gain := val 0x11 } else l
            let s := { s with cores := { s.cores with loops := s.cores.loops ++ [l] } }
            (s.put loopPage ((loopOn kind).nth x) 1).endEntry e { status := 0, r0 := some 0, r1 := some 0 }

/-! ## One run of a loop (R543) -/

/-- The mean of four channel means, rounded half even. -/
def loopMean (m : List Nat) : Nat := (roundHalfEven (m.sum : Int) 4).toNat

/-- The largest exposure that meets SYNC_FIT, in sensor codes: none in FREE mode; free where a code has no length. -/
def State.fitCodes (s : State) (n : Nat) : Option Int × State :=
  if s.sy n Inlet.SYNC_CFG_MODE = 0 then (none, s)
  else
    let unit := s.sy n Inlet.SYNC_EXP_UNIT_UNIT
    let bias := toSigned 32 (s.sy n Inlet.SYNC_EXP_BIAS_BIAS)
    if unit = 0 then
      let (x, s) := s.fresh
      (some x, s)
    else (some (((16 * s.get (inPage n) Inlet.SYNC_FIT_NS : Nat) - bias) * 4096 / (unit : Int)), s)

/-- What a run of the exposure loop computes: exposure, gain (none: no value), fit below EXP_MIN. -/
structure ExposureStep where
  exp : Nat
  gain : Option Nat
  low : Bool
deriving DecidableEq, Repr

/-- The exposure step of R543 for the mean m, where it is not 0. -/
def LoopSt.exposureStep (l : LoopSt) (m : Nat) (fit : Option Int) : ExposureStep :=
  let target := l.num 0 2
  let step := l.num 2 2
  let (rn, rd) := if target * step < 256 * m then (256, step) else if step * m < target * 256 then (step, 256) else (target, m)
  let pn := l.exp * l.gain * rn
  let lo := l.num 4 4
  let gmin := l.num 0x0C 2
  let top := min (pn / (rd * gmin)) (l.num 8 4)
  let exp := match fit with
    | none => max lo top
    | some f => max lo (min (top : Int) f).toNat
  let gain := if exp = 0 then none else some (max gmin (min (roundHalfUp pn (rd * exp)).toNat (l.num 0x0E 2)))
  { exp, gain, low := fit.any fun (f : Int) => decide (f < (lo : Int)) }

/-- A value goes to MIR_VAL of a mirror entry of window n (R388). -/
def State.putMirror (s : State) (n m v : Nat) : State :=
  let pg := jtPage n
  if s.flag pg (Jetty.MIR_CFG_DIR.nth m) then (s.put pg (Jetty.MIR_VAL_VALUE.nth m) v).put pg (Jetty.MIR_CFG_DIRTY.nth m) 1 else s

/-- A loop arms the pages it has written, and its group (R542). -/
def State.armLoop (s : State) (l : LoopSt) (contexts : List (Nat × Nat)) : State :=
  (contexts.foldl (fun (s : State) (e : Nat × Nat) => s.writeCommit (loopCovePage l.kind e.1) (2 ^ 31 + l.group)) s).armGroup l.group

/-- The exposure loop runs on a frame's mean (R543). -/
def State.runExposure (s : State) (l : LoopSt) (m : Nat) (contexts : List (Nat × Nat)) : State :=
  let n := l.stream / 4
  let (fit, s) := s.fitCodes n
  let r := l.exposureStep m fit
  let (gain, s) := s.known r.gain
  let s := ((s.putMirror n (l.num 0x10 1) r.exp).putMirror n (l.num 0x11 1) gain).put loopPage (Lp.LOOP_STAT_FIT_LOW.nth l.stream) (bit r.low)
  let bl := (l.num 0x14 2 : Int) + roundHalfUp (((gain : Int) - 256) * l.num 0x16 2) 256
  let s := contexts.foldl (fun (s : State) (e : Nat × Nat) => s.putFit (covePage e.1 2) (Cove.BL_TARGET_TARGET.nth e.2) bl) s
  s.modLoop l.stream 0 fun l => { l with exp := r.exp, gain }

/-- WB_c of a context (R278). -/
def wbField (c k : Nat) : Field :=
  (if k = 0 then Cove.WB_01_WB0 else if k = 1 then Cove.WB_01_WB1 else if k = 2 then Cove.WB_23_WB2 else Cove.WB_23_WB3).nth c

/-- The gain of a channel after a run of the white-balance loop: from `old`, towards `base` × (g2 / 2) / mean, by at most STEP_MAX (R543). -/
def LoopSt.wbStep (l : LoopSt) (old base g2 mean : Nat) : Nat :=
  let step := l.num 0 2
  let want : Int := roundHalfUp (base * g2 : Nat) (2 * mean)
  let v := max ((old : Int) - step) (min want (old + step))
  (max (l.num 2 2 : Int) (min v (l.num 4 2))).toNat

/-- The white-balance loop runs on a frame's channel means; `tap` is TAP of its statistics (R543). -/
def State.runWhite (s : State) (l : LoopSt) (means : List Nat) (tap : Bool) (contexts : List (Nat × Nat)) : State := match contexts with
  | [] => s
  | (n0, c0) :: _ =>
    let red := s.live (covePage n0 9) (Cove.DM_CFG_RED.nth c0)
    let blue := red ^^^ 3
    let g2 := (([0, 1, 2, 3].filter fun k => k != red && k != blue).map fun k => means.getD k 0).sum
    let gain := fun (s : State) (k : Nat) =>
      let old := s.get (covePage n0 7) (wbField c0 k)
      if k ≠ red ∧ k ≠ blue then (0x1000, s)
      else if means.getD k 0 = 0 then s.fresh
      else (l.wbStep old (if tap then 4096 else old) g2 (means.getD k 0), s)
    [0, 1, 2, 3].foldl (fun (s : State) k =>
      let (v, s) := gain s k
      contexts.foldl (fun (s : State) (e : Nat × Nat) => s.put (covePage e.1 7) (wbField e.2 k) v) s) s

/-- A frame is skipped (R543). -/
def State.skipFrame (s : State) (l : LoopSt) (late : Bool) : State :=
  let s := s.modLoop l.stream l.kind fun l => { l with blk := none }
  (if late then s else s.loopLate l.stream).judgeLoops

/-- LOOP_UPDATE: the loop of a kind on stream x takes up the statistics block that has been written (R543). -/
def execLoopUpdate (x : Fin 160) (kind : Fin 2) (v : MemView) (s : State) : Result :=
  .next <| match s.loopRunner, s.cores.loops.find? (fun l => l.stream == x.val && l.kind == kind.val) with
    | some _, some l => match l.blk, s.cores.resume || s.terminal with
      | some (seq, n, tide, late), false =>
        let h := n / 8
        let c := ((s.tide.livePlan.bind fun p => p.contextOf n x).getD 0)
        let pg := covePage n 8
        let slots := max 1 (s.live pg (Cove.STAT_CFG_SLOTS.nth c))
        let base := s.live pg (Cove.STAT_BASE_HI_BASE.nth c) * 2 ^ 32 + s.live pg (Cove.STAT_BASE_LO_BASE.nth c) * 64 + 16576 * (seq % slots)
        let (a, v, s) := s.coreRead h base 12 4 v
        let (b, _, s) := s.coreRead h (base + 16448 + 32 * l.roi) 8 4 v
        match a, b with
        | .ok head, .ok region =>
          let flags := fieldLE head 1 1
          let means := [0, 1, 2, 3].map fun k => fieldLE region (2 * k) 2
          let m := loopMean means
          if !flags.testBit 2 || flags.testBit 3 || fieldLE head 4 4 != seq || (kind.val == 0 && m == 0) then s.skipFrame l late
          else
            let contexts := s.loopContexts x
            let s := if kind.val = 0 then s.runExposure l m contexts else s.runWhite l means (s.liveFlag pg (Cove.STAT_CFG_TAP.nth c)) contexts
            (s.armLoop l contexts).modLoop x kind fun l => { l with blk := none, armed := some (tide, late) }
        | _, _ => s.skipFrame l late
      | _, _ => s
    | _, _ => s

/-- The slack window of family f has opened in tide t, and its groups have captured: updates count as captured, and blocks whose tide is
over count as late (R543). -/
def State.loopSlack (s : State) (f t : Nat) : State :=
  let mine := s.cores.loops.filter fun l => (s.streamPlan l.stream).any fun y => y.family == f
  (mine.foldl (fun (s : State) l =>
    let s := match l.armed with
      | some (_, late) =>
        if !s.grpFlag Tidemark.GRP_STAT_CAPTURED l.group then s
        else
          let s := (s.modLoop l.stream l.kind fun l => { l with armed := none }).countWrap loopPage (Lp.LOOP_STAT_UPDATES.nth l.stream)
          if late then s else s.put loopPage (Lp.LOOP_STAT_LATE_RUN.nth l.stream) 0
      | none => s
    match l.blk with
    | some (seq, n, tide, false) =>
      if signedDiff t tide ≤ 0 then s
      else (s.modLoop l.stream l.kind fun l => { l with blk := some (seq, n, tide, true) }).loopLate l.stream
    | _ => s) s).judgeLoops

/-- A tide begins (R531): the loops resume from the last checkpoint, after a failover, or the standby half receives one. -/
def State.loopTide (s : State) : State :=
  let c := s.cores
  if !c.resume then { s with cores := { c with checkpoint := c.loops } }
  else if s.loopRunner.isNone then s
  else
    let back := fun (l : LoopSt) => (c.checkpoint.find? fun m => m.stream == l.stream && m.kind == l.kind).getD l
    { s with cores := { c with loops := c.loops.map back, resume := false } }

/-- The live plan has changed from `old`: the loops of streams it no longer has stop (R541, R542). -/
def State.loopPlan (s : State) (old : Option Plan) : State :=
  (s.cores.loops.filter fun l => (s.streamPlan l.stream).isNone).foldl (fun (s : State) l =>
    let contexts := match old with
      | none => []
      | some p => match p.streams.find? (fun y => y.stream == l.stream) with
        | none => []
        | some y => y.parts.filterMap fun n => (p.contextOf n l.stream).map fun c => (n, c)
    s.stopLoop l contexts) s

/-! ## Policies (R545, R546) -/

/-- LINK_POLICY (R545): FLAP_COUNT 0 switches the policy of a lane off. -/
def execLinkPolicy (i : Fin 256) (s : State) : Result :=
  .next <| s.onStart i 0x0021 fun s _ e =>
    let lanes := (List.range 32).filter fun n => hasBit (e.num 0x10 4) n
    let set := fun (s : State) (n : Nat) =>
      let p : LinkPolicy := if e.num 0x14 1 = 0 then {}
        else { flaps := e.num 0x14 1, restoreS := e.num 0x15 2, top := s.get (wePage n) Weatas.LANE_CFG_MODE_MAX }
      { s with cores := { s.cores with links := SMap.set (fun _ => {}) s.cores.links n p } }
    (lanes.foldl set s).endEntry e { status := 0, r0 := some 0, r1 := some 0 }

/-- LINK_POLICY_RESTORE: lane n has been ACTIVE without a break for RESTORE_S: its MODE_MAX rises by one step (R545). -/
def execLinkPolicyRestore (n : Fin 32) (s : State) : Result :=
  .next <|
    let p : LinkPolicy := SMap.get (fun _ => {}) s.cores.links n
    let m := s.get (wePage n) Weatas.LANE_CFG_MODE_MAX
    if p.flaps = 0 ∨ s.linkState n ≠ 9 ∨ p.top ≤ m ∨ s.terminal then s else s.put (wePage n) Weatas.LANE_CFG_MODE_MAX (m + 1)

/-- FAILOVER_POLICY (R546). -/
def execFailoverPolicy (i : Fin 256) (s : State) : Result :=
  .next <| s.onStart i 0x0022 fun s _ e =>
    match badParam [(decide (1 < e.num 0x10 1), 0x10), (decide (1 < e.num 0x14 1), 0x14)] with
    | some x => s.endEntry e x
    | none =>
      let c := { s.cores with autoRepair := e.num 0x10 1 == 1, repairMax := e.num 0x11 1, holdoffMs := e.num 0x12 2,
                              differAction := e.num 0x14 1 == 1, differLimit := e.num 0x15 1, ownsRevert := false }
      ({ s with cores := c }).endEntry e { status := 0, r0 := some 0, r1 := some 0 }

/-- AUTO_REPAIR: HOLDOFF_MS after half h has entered FAILED, the firmware of the acting half repairs it (R546). -/
def execAutoRepair (h : Fin 2) (s : State) : Result :=
  .next <| match s.actingHalf.bind s.runner with
    | none => s
    | some k =>
      let c := s.cores
      if !c.autoRepair || !s.halfFailed h || s.power.repair.contains h.val || s.terminal then s
      else
        let recent := c.repairs.filter fun t => decide (s.time.c - t < 3600 * 10 ^ 9)
        if c.repairMax ≤ recent.length then s.put (lpPage k) Lp.LP_FW_STAT_REPAIR_LIMIT 1
        else ({ s with cores := { c with repairs := s.time.c :: recent } }).startRepair h

end Sys2Proof.Machine
end

