-- ==== Sys2Proof/Machine/Sleep.lean ====
section
/-!
DEFINITION. Sys2Proof/Machine/Sleep.lean: retention sleep and wake (R520, R575 to R578).
-/
namespace Sys2Proof.Machine

/-- PM_STAT.STATE (R582): 0 RUN, 1 DRAINING, 2 WAKING. -/
def State.pmState (s : State) : Nat := s.get 0x2 Chip.PM_STAT_STATE

/-- A write of PM_CTRL (R575, R582): SLEEP_GO starts entry from RUN. A plan that is staged, or under admission, is withdrawn. -/
def State.writePmCtrl (s : State) (w : Nat) : State :=
  let s := s.writeFields 0x2 w 2 [Chip.PM_CTRL_REPLAN, Chip.PM_CTRL_SLEEP_TO_MS]
  if !w.testBit 31 || s.pmState != 0 then s
  else
    let s := if s.planState = 0 then s else s.withdrawPlan.2
    let s := (s.put 0x2 Chip.PM_STAT_STATE 1).put 0x2 Chip.PM_CTRL_SLEEP_GO 1
    { s with power := { s.power with planEnds := true } }

/-- SLEEP_GO: a write of PM_CTRL with SLEEP_GO = 1 (R575). -/
def execSleepGo (req : Requester) (w : Word) (s : State) : Result :=
  .next <| s.onWrite req (regOff 0x2 Chip.PM_CTRL_SLEEP_GO) fun s => s.writePmCtrl (w.toNat ||| 2 ^ 31)

/-- Entry is abandoned (R575): the plan stays ended, and what has gone off powers up again. -/
def State.abortSleep (s : State) : State :=
  let s := ((s.put 0x2 Chip.PM_STAT_STATE 0).put 0x2 Chip.PM_CTRL_SLEEP_GO 0).event 0x2 1
  ({ s with power := { s.power with planEnds := false } }).pumpPower

/-- SLEEP_ABORT: entry has not drained within SLEEP_TO_MS (R575). -/
def execSleepAbort (s : State) : Result := .next <| if s.pmState = 1 then s.abortSleep else s

/-- Has everything drained (R575): the plan, its domains, every Drift channel, every Jetty slot, every Beacon source, every long
operation? -/
def State.drainedForSleep (s : State) : Bool :=
  !s.planLive && s.planState == 0 && s.tide.draining.isEmpty &&
    s.channels.all (fun (e : Nat × ChannelSt) => s.chState e.1 == 0 || s.chState e.1 == 7) &&
    s.windows.all (fun (e : Nat × JettySt) => e.2.slots.all fun (x : Nat × JettySlot) => !x.2.isOpen) &&
    s.beacon.srcs.all (fun (e : Nat × BeaconSrc) => !e.2.act) && s.longOps.isEmpty

/-- Fields that sleep keeps beside the RW and RWS ones of R576: the always-on records (R565); strap, fuses and boot status; what describes
local memory, which is held; the servo's choice and the Beacon's pointer (R520); the ring as the firmware knows it from its tightly
coupled memory; the balls ERR_N and its readback (R601). -/
def sleepFields : List (Nat × Field) :=
  retainedFields ++ [(0x0, Chip.CHIP_CFG_HOST_MODE), (0x0, Chip.CHIP_CFG_FUSE_ERR), (tmPage, Tidemark.TM_SEL_ACTIVE),
    (tmPage, Tidemark.TM_SEL_ADOPTED), (bcnPage, Beacon.BCN_STAT_POINTER), (bwPage, Breakwater.BW_STAT_ERR_DRIVEN),
    (bwPage, Breakwater.BW_STAT_ERR_BALL)] ++
  [0, 1].flatMap fun h => [(hbPage h 0, Harbour.HB_STAT_ECC_ON), (hbPage h 0, Harbour.HB_STAT_INIT_DONE), (hbPage h 0, Harbour.HB_INIT_FRONT)] ++
    [1, 2, 3, 4].map fun p => (hbPage h p, Harbour.CH_STAT_DEV_GIB)

/-- Header fields that sleep keeps. -/
def sleepHeader : List Field := [Hdr.CTRL_EN, Hdr.CTRL_PWR_REQ, Hdr.EVT_EN_ENABLE, Hdr.COMMIT_GROUP]

/-- Is a field, by its place, retained in sleep (R576)? -/
def keptAsleep (key : Nat) : Bool :=
  let pg := key / 0x8000
  let bit := key % 0x4000
  let isLive := decide (0x4000 ≤ key % 0x8000)
  let own := fun (r : PageRef) => r.fields.any fun f => f.lo == bit % 32 && f.covers (bit / 32 * 4) && (f.acc == .rws || (f.acc == .rw && !isLive))
  pg == 8 || pg == 9 || pg == ringPage || sleepFields.any (fun (e : Nat × Field) => fieldKey e.1 e.2 == key) ||
    sleepHeader.any (fun f => fieldKey pg f == key) || (pageRef pg).any own

/-- The state that sleep keeps (R520, R576): everything else is at its reset value when the device wakes. -/
def State.retained (s : State) : State :=
  let r := State.reset
  let c := s.cores
  let pcie := [0, 1].foldl (fun (m : SMap PcieSt) n =>
    let x : PcieSt := SMap.get (fun _ => {}) s.pcie n
    SMap.set (fun _ => {}) m n { perst := x.perst, applied := x.applied, subVendor := x.subVendor, subDevice := x.subDevice, barBoot := x.barBoot }) []
  let harbours := [0, 1].foldl (fun (m : SMap HarbourSt) h =>
    let x := s.harb h
    SMap.set (fun _ => {}) m h { mem := x.mem, goWritten := x.goWritten, linkEcc := x.linkEcc }) []
  let edges := s.beacon.srcs.filterMap fun (e : Nat × BeaconSrc) =>
    if e.2.pend && !s.isLevelSrc e.1 then some (e.1, ({ pend := true, fired := e.2.fired } : BeaconSrc)) else none
  { r with
    pending := s.pending, regs := s.regs.filter (fun (e : Nat × Nat) => keptAsleep e.1), out := s.out, free := s.free, pcie, harbours
    fault := { r.fault with dropped := s.fault.dropped }, time := { s.time with runA := 0, runB := 0 }, beacon := { srcs := edges }, boot := s.boot
    pins := { r.pins with cool := s.pins.cool, tap := s.pins.tap, boundary := s.pins.boundary }
    cores := { r.cores with tcm := c.tcm, down := 15, owner := c.owner, home := c.home, autoRepair := c.autoRepair, repairMax := c.repairMax,
                            holdoffMs := c.holdoffMs, differAction := c.differAction, differLimit := c.differLimit, repairs := c.repairs,
                            ownsRevert := c.ownsRevert, links := c.links }
    power := { r.power with inReset := false, por := false, asleep := true } }

/-- SLEEP_DRAINED: everything has drained (R575): the channels enter self-refresh, retained state is saved, the domains go off, VDD_CORE
falls to 650 mV and SLEEP_ACK rises. -/
def execSleepDrained (s : State) : Result :=
  .next <| if s.pmState ≠ 1 ∨ !s.drainedForSleep then s
    else
      let channels := [0, 1].flatMap fun h => [1, 2, 3, 4].map fun p => hbPage h p
      let up := channels.filter fun pg => s.flag pg Harbour.CH_STAT_TRAINED
      let s := up.foldl (fun (s : State) pg => s.put pg Harbour.CH_STAT_SR 1) s.retained
      (s.emit (.avs 650)).emit (.sleepAck true)

/-- A page whose retained values fail their check takes its reset values (R576). -/
def State.dropRetained (s : State) (pg : Nat) : State :=
  let kept := fun (e : Nat × Nat) => e.1 / 0x8000 != pg || decide (e.1 % 0x4000 < 0x200) || !(pageRef pg).any (fun r =>
    r.fields.any fun f => (f.acc == .rw || f.acc == .rws) && f.lo == e.1 % 0x4000 % 32 && f.covers (e.1 % 0x4000 / 32 * 4))
  { s with regs := s.regs.filter kept }

/-- The Beacon after a restore (R520). -/
def State.wakeBeacon (s : State) (bad : Bool) : State :=
  let s := if bad then
      let s := [0x30, 0x31, 0x32, 0x33].foldl (fun (s : State) pg => s.dropRetained pg) { s with beacon := {} }
      (s.put bcnPage Beacon.BCN_STAT_POINTER 0).raise bcnPage 3
    else (s.event bcnPage 0).lower bcnPage 3
  ((List.range 512).filter fun n => !isReservedSrc n && s.srcGet Beacon.SRC_CFG_WAKE n != 0).foldl (fun (s : State) n => s.fireSource n) s

/-- WAKE: the wake timer, or a low level of 10 µs on WAKE_N (R578). `bad` are pages, and `beaconBad` the Beacon, whose retained values fail their
check; the rails that were removed are back. During entry WAKE_N abandons it. -/
def execWake (timer : Bool) (bad : List (Fin 0x1400)) (beaconBad : Bool) (s : State) : Result :=
  .next <|
    let on := if timer then s.flag 0x2 Chip.PM_WAKE_TIMER_EN else s.flag 0x2 Chip.PM_WAKE_WAKE_N_EN
    let replan := s.flag 0x2 Chip.PM_CTRL_REPLAN
    if !on then s
    else if !s.power.asleep then
      if s.pmState = 1 ∧ !timer then
        let s := (s.put 0x2 Chip.PM_WAKE_CAUSE_WAKE_N 1).abortSleep
        { s with power := { s.power with replanDue := replan } }
      else s
    else
      let s := (s.put 0x2 Chip.SUP_STAT_IN_WINDOW 0x1FF).put 0x2 (if timer then Chip.PM_WAKE_CAUSE_TIMER else Chip.PM_WAKE_CAUSE_WAKE_N) 1
      let s := ((s.emit (.sleepAck false)).event 0x2 3).put 0x2 Chip.PM_STAT_STATE 2
      let s := bad.foldl (fun (s : State) (pg : Fin 0x1400) => s.dropRetained pg) s
      let s := bad.foldl (fun (s : State) _ => s.report 0x2 3) (s.lower 0x2 3)
      let s := [0, 1].foldl (fun (s : State) x =>
        if s.flag tmPage (Tidemark.DOM_CFG_EN.nth x) then (s.putLockRun x 0).enterDomState x 4 else s) s
      let s := { s with power := { s.power with asleep := false, wakeSeqDue := true, replanDue := replan } }
      (((s.judgeCopies.wakeBeacon beaconBad).trainPort 0).trainPort 1).pumpPower

end Sys2Proof.Machine
end

