-- ==== Sys2Proof/Machine/Pins.lean ====
section
/-!
DEFINITION. Sys2Proof/Machine/Pins.lean: the balls (R599 to R601, R608 to R610), the temperature sensors (R606, R607, R611), the TAP
(R617 to R619) and the copies of duplicated units (R17).
-/
namespace Sys2Proof.Machine

/-! ## GPIO -/

/-- May ball i take function `func` with index n (R599): no other ball carries it, and SCL and SDA only on bank A? -/
def State.ballTakes (s : State) (i func n : Nat) : Bool :=
  func < 2 || (((s.ballsOf func n).all (· == i)) && !((func == 5 || func == 6) && decide (32 ≤ i)))

/-- A write of GPIO_CFG of ball i (R599, R608): a refused function stays, the other fields take effect. A pulse on a ball that LFS leaves is
lost. -/
def State.writeGpioCfg (s : State) (i w : Nat) : State :=
  let old := s.get 0xA (Chip.GPIO_CFG_FUNC.nth i)
  let oldIdx := s.get 0xA (Chip.GPIO_CFG_FIDX.nth i)
  let func := bitsOf w 31 28
  let idx := bitsOf w 26 24
  let bad := decide (6 < func) || !s.ballTakes i func idx
  let s := if bad then s.event 0xA 0 else s.put 0xA (Chip.GPIO_CFG_FUNC.nth i) func
  let now := s.get 0xA (Chip.GPIO_CFG_FUNC.nth i)
  let s := if s.ballTakes i now idx then s.put 0xA (Chip.GPIO_CFG_FIDX.nth i) idx else s.event 0xA 0
  let s := s.writeFields 0xA w 0 ([Chip.GPIO_CFG_DRIVE, Chip.GPIO_CFG_PULL, Chip.GPIO_CFG_OD, Chip.GPIO_CFG_SLEW, Chip.GPIO_CFG_SAFE].map (·.nth i))
  let moved := s.get 0xA (Chip.GPIO_CFG_FUNC.nth i) != old || s.get 0xA (Chip.GPIO_CFG_FIDX.nth i) != oldIdx
  if old = 2 ∧ moved then s.putCsi oldIdx { s.csi oldIdx with pulse := none } else s

/-- GPIO_CFG_WRITE: a write of GPIO_CFG of ball i (R599). -/
def execGpioCfgWrite (req : Requester) (i : Fin 48) (w : Word) (s : State) : Result :=
  .next <| s.onWrite req (regOff 0xA (Chip.GPIO_CFG_FUNC.nth i)) fun s => s.writeGpioCfg i w.toNat

/-- A bit of GPIO_OUT or GPIO_OE (R609). -/
def State.gpioBit (s : State) (f : Field) (i : Nat) : Bool := hasBit (s.get 0xB (f.nth (i / 32))) (i % 32)

/-- GPIO_READBACK: an output's ball has read `level`, or its driver has drawn too much (`past`), for 2 µs (R600). On a ball of LFS it is LFS's own
driver that goes off (R161). -/
def execGpioReadback (i : Fin 48) (level past : Bool) (s : State) : Result :=
  .next <|
    let func := s.get 0xA (Chip.GPIO_CFG_FUNC.nth i)
    let n := s.get 0xA (Chip.GPIO_CFG_FIDX.nth i)
    let off := s.flag 0xA (Chip.GPIO_CFG_OFF.nth i)
    let differs := fun (drive od : Bool) => if od then drive && !level else drive != level || past
    if s.terminal || s.power.asleep || off then s
    else if func = 1 && s.gpioBit Chip.GPIO_OE_OE i && differs (s.gpioBit Chip.GPIO_OUT_OUT i) (s.flag 0xA (Chip.GPIO_CFG_OD.nth i)) then s.ballOff i
    else if func = 2 && s.lfsDrives n && differs (s.lfsLevel n) (s.flag (rxPage n) CsiRx.LFS_CFG_OD) then s.lfsGoesOff n
    else s

/-- A plain driver that is off returns once GPIO_READBACK has been acknowledged and its GPIO_OE bit has been written 0 and then 1 (R600). -/
def State.tryGpio (s : State) : State :=
  if !(s.marks 0xC).settled 0 || s.due.contains (Due.occurrence 0xC 0) then s
  else
    let back := (List.range 48).filter fun i => s.flag 0xA (Chip.GPIO_CFG_OFF.nth i) && hasBit s.pins.oeCleared i && s.gpioBit Chip.GPIO_OE_OE i &&
      s.get 0xA (Chip.GPIO_CFG_FUNC.nth i) != 2
    (back.foldl (fun (s : State) i =>
      ({ s with pins := { s.pins with oeCleared := clearBit s.pins.oeCleared i } }).put 0xA (Chip.GPIO_CFG_OFF.nth i) 0) s).judgeGpio

/-- A write of GPIO_OE word k (R600, R609). -/
def State.writeGpioOe (s : State) (k w : Nat) : State :=
  let s := s.put 0xB (Chip.GPIO_OE_OE.nth k) (if k = 0 then w else w % 2 ^ 16)
  let off := (List.range 48).filter fun i => i / 32 == k && s.flag 0xA (Chip.GPIO_CFG_OFF.nth i) && !hasBit w (i % 32)
  let s := { s with pins := { s.pins with oeCleared := off.foldl (fun m i => setBit m i) s.pins.oeCleared } }
  s.tryGpio

/-- ERRN_STUCK: ERR_N, driven low, has read high for 2 µs (R610). -/
def execErrnStuck (s : State) : Result :=
  .next <| if s.flag bwPage Breakwater.BW_STAT_ERR_DRIVEN then
      ((s.put 0xC Chip.ERRN_STAT_STUCK 1).put bwPage Breakwater.BW_STAT_ERR_BALL 1).raise 0xC 1
    else s

/-! ## Temperature -/

/-- A reading that passes the plausibility check, −50 to 160 °C, in 1/8 °C (R606). -/
def plausible (t : Int) : Bool := decide (-400 ≤ t) && decide (t ≤ 1280)

/-- The thresholds of R606, in 1/8 °C: WARN_C, one past 125 °C, 140 °C. -/
def State.thresholds (s : State) : List Int := [(8 * s.get 0xD Chip.TS_CFG_WARN_C : Nat), 1001, 1120]

/-- Threshold k against a reading of TS_MAX (R606): reached, or left, by the second reading in a row. -/
def State.judgeTemp (s : State) (k : Nat) (top : Int) : State :=
  let x := s.pins
  let t := s.thresholds.getD k 0
  let reach := if t ≤ top then min 2 (x.reach.getD k 0 + 1) else 0
  let leave := if top ≤ t - 24 then min 2 (x.leave.getD k 0 + 1) else 0
  let was := x.reached.getD k false
  let now := if reach = 2 then true else if leave = 2 then false else was
  let s := { s with pins := { x with reach := x.reach.set k reach, leave := x.leave.set k leave, reached := x.reached.set k now } }
  (s.cond 0xD k now).eventIf (now != was) 0xD 0

/-- TEMP_SAMPLE: the twelve sensors are read, in 1/8 °C (R606). Sensor 11 alone runs in reset and in sleep, where it lets boot start again after
a trip (R607). -/
def execTempSample (t : List Int) (s : State) : Result :=
  .next <|
    let cool := if t.getD 11 0 < 920 then min 10 (s.pins.cool + 1) else 0
    let s := { s with pins := { s.pins with cool }, power := { s.power with tripped := s.power.tripped && decide (cool < 10) } }
    if s.power.inReset || s.power.asleep then s
    else
      let s := (List.range 12).foldl (fun (s : State) k =>
        (s.put 0xD (Chip.TS_SENS_TEMP.nth k) (ofSigned 16 (t.getD k 0))).put 0xD (Chip.TS_SENS_VALID.nth k) (bit (plausible (t.getD k 0)))) s
      let valid := ((List.range 12).map fun k => t.getD k 0).filter plausible
      let s := s.cond 0xD 3 (decide (valid.length < 12))
      match valid with
      | [] => s
      | a :: rest =>
        let top := rest.foldl max a
        let s := s.put 0xD Chip.TS_MAX_TEMP (ofSigned 16 top)
        let peak := toSigned 16 (s.get 0xD Chip.TS_PEAK_TEMP)
        let s := s.put 0xD Chip.TS_PEAK_TEMP (ofSigned 16 (max peak top))
        ((s.judgeTemp 0 top).judgeTemp 1 top).judgeTemp 2 top

/-! ## The TAP (R617 to R619) -/

/-- Does an instruction hold the core in reset (R618)? -/
def tapHolds (op : Nat) : Bool := decide (3 ≤ op) && decide (op ≤ 7)

/-- The hold on the core ends (R619): the device boots as after a PIN reset. -/
def State.endHold (s : State) : State :=
  if !s.power.held then s
  else
    let s := { s with power := { s.power with held := false } }
    let s := (s.put 0x7 Chip.RST_CAUSE_PIN 1).put 0x7 Chip.RST_LAST_CAUSE 3
    if s.power.inReset then s.leaveReset else s

/-- The data register of an instruction (R618). -/
def tapRegister (op : Nat) : TapRegister :=
  if op = 0x01 then .identification
  else if op = 0x02 ∨ op = 0x03 ∨ op = 0x06 ∨ op = 0x07 then .boundary
  else if op = 0x04 ∨ op = 0x05 ∨ op = 0xFF then .bypass
  else .hidden

/-- The device identification register (R618): version 0, part 0x4016, manufacturer 0x2D7, bit 0 one. -/
def tapIdentification : Word := 0x040165AF

/-- Does the ball's cell stand in the scan: with the coax medium a Weatas lane is scanned on WL_P alone (R620). -/
def State.ballCell (s : State) (b : Ball) : Option (Fin 314) := match b with
  | .weatasN lane => if s.flag (wePage lane) Weatas.LANE_CFG_MEDIUM then b.cell else none
  | _ => b.cell

/-- What a ball does under the current TAP instruction (R618, R620): with no cell, or with an instruction that leaves the core running, its normal
function. An input ball drives nothing, whatever its cell holds. -/
def State.ballDrive (s : State) (b : Ball) : BallDrive := match s.ballCell b with
  | none => .normal
  | some i =>
    let high := s.pins.boundary.getLsb i
    let ac := b.cellKind == some .ac
    match s.pins.tap with
    | 0x03 | 0x04 => .level high
    | 0x05 => .highZ
    | 0x06 => if ac then .pulse high else .level high
    | 0x07 => if ac then .train high else .level high
    | _ => .normal

/-- TAP_INSTRUCTION: an instruction becomes current (R618, R619). A private one acts as BYPASS on a locked unit. `scan` is what has been shifted into
the boundary register since the last instruction, where that one selects it (R620). -/
def execTapInstruction (x : Fin 256 × Option (BitVec 314)) (s : State) : Result :=
  .next <|
    let (op, scan) := x
    let known := op.val == 1 || op.val == 2 || tapHolds op || op.val == 0xFF
    let now := if known || !(Config.ftLock || s.flag 0x0 Chip.CHIP_CFG_FUSE_ERR) then op.val else 0xFF
    let cells := if tapRegister s.pins.tap = .boundary then scan.getD s.pins.boundary else s.pins.boundary
    let s := { s with pins := { s.pins with tap := now, boundary := cells } }
    if !tapHolds now then s.endHold
    else
      let s := s.emit (.balls now cells)
      if s.power.held then s
      else ({ s with power := { s.power with held := true } }).startReset 3

/-- TAP_RESET: the TAP returns to Test-Logic-Reset, and IDCODE is current (R617, R618, R619). -/
def execTapReset (s : State) : Result := .next (({ s with pins := { s.pins with tap := 0x01 } }).endHold)

/-! ## Duplicated units (R17) -/

/-- Its number. -/
def CopiedUnit.code : CopiedUnit → Nat
  | .tidemark => 0 | .crossbar => 1 | .seawall => 2 | .breakwater => 3 | .controllers => 4

/-- The fault that reports a mismatch in which no copy fails its self-check: page and bit (R197, R423, R475, R502). -/
def CopiedUnit.fault : CopiedUnit → Nat × Nat
  | .tidemark => (tmPage, 3) | .crossbar => (0x160, 0) | .seawall => (swPage, 3) | .breakwater => (bwPage, 0) | .controllers => (pcPage 0 0, 3)

/-- Are the two PCIe controllers compared (R363): in x16 mode, while both work? -/
def State.controllersCompared (s : State) : Bool :=
  s.x16 && [0, 1].all fun h => s.ready ⟨.pcie, h, 0⟩ && !s.halfFailed h

/-- A mismatch of the controllers shows on instance h, up to the end of the tide that follows (R371). -/
def State.controllerBad (s : State) (h : Nat) : State :=
  ({ s with fault := { s.fault with disagreed := h :: s.fault.disagreed.filter (· != h) } }).report (pcPage h 0) 3

/-- COPY_MISMATCH: the copies of a unit disagree; `failing` is the copy whose self-check fails, if one does (R17). It is dropped, and the other goes
on with nothing to compare it. A PCIe copy reports to the Seawall (R363, R457). -/
def execCopyMismatch (u : CopiedUnit) (failing : Option (Fin 2)) (s : State) : Result :=
  .next <|
    if u = .controllers then
      if !s.controllersCompared then s
      else match failing with
        | some h => (s.controllerBad h).selfCheck h 2
        | none => (s.controllerBad 0).controllerBad 1
    else if s.fault.dropped.contains u.code then s
    else match failing with
      | some _ =>
        let s := { s with fault := { s.fault with dropped := u.code :: s.fault.dropped } }
        s.judgeCopies
      | none =>
        let s := s.report u.fault.1 u.fault.2
        if u = .breakwater then s.judgeTog else s

end Sys2Proof.Machine
end

