-- ==== Sys2Proof/Machine/Registers.lean ====
section
/-!
DEFINITION. Sys2Proof/Machine/Registers.lean: writes of the register window by the fields' access codes, with the rules that each block adds
(R10 to R12), acknowledgements (R78), logged accesses that do nothing else (R81).
-/
namespace Sys2Proof.Machine

/-- The state that a command which always completes leaves. -/
def nextOf (s : State) : Result → State
  | .next t => t
  | .fault _ => s
  | .refused _ => s

/-- The page number of a page. -/
def PageRef.number (r : PageRef) : Nat := r.block.page r.inst r.idx

/-- The block-specific fields of the register at offset `o` of a page. -/
def PageRef.at_ (r : PageRef) (o : Nat) : List Field := (r.fields.filter (·.covers o)).map fun f => { f with off := o }

/-- Write one field by its access code (R10, R12); `rej` is the page and the event bit of a code that the field does not take. -/
def State.writeOne (s : State) (pg : Nat) (rej : Nat × Nat) (w : Nat) (f : Field) : State :=
  let v := bitsOf w f.hi f.lo
  match f.acc with
  | .rw | .rws => if f.takes v then s.put pg f (f.stored v) else s.event rej.1 rej.2
  | .w1c => s.put pg f (clearBits (s.get pg f) v)
  | .w1s => s.put pg f (s.get pg f ||| v)
  | .ft => if s.factory then s.put pg f v else s
  | .ro | .wo | .plan => s

/-- Write every field of the register at offset `o` by its access code. -/
def State.writePlain (s : State) (r : PageRef) (rej : Nat × Nat) (o w : Nat) : State :=
  (r.at_ o).foldl (fun (s : State) f => s.writeOne r.number rej w f) s

/-- The register's fields but those that `p` names. -/
def State.writeBut (s : State) (r : PageRef) (rej : Nat × Nat) (o w : Nat) (p : Field → Bool) : State :=
  ((r.at_ o).filter (fun f => !p f)).foldl (fun (s : State) f => s.writeOne r.number rej w f) s

/-! ## What works under the terminal latch (R487) -/

/-- Acknowledge FLT_STAT bit b of a page (R78): it clears once its cause is gone. -/
def State.ackBit (s : State) (pg b : Nat) : State :=
  if !s.fltBit pg b then s
  else
    let m := s.marks pg
    let m := { m with unack := clearBit m.unack b, sevs := m.sevs.map fun (k : Nat) => clearBit k b, conseq := clearBit m.conseq b }
    let s := s.putMarks pg m
    if hasBit m.present b || s.due.contains (Due.occurrence pg b) then s
    else (s.put pg Hdr.FLT_STAT_FAULT (clearBit (s.get pg Hdr.FLT_STAT_FAULT) b)).putMarks pg { m with err := clearBit m.err b }

/-- A write of FLT_ACK of a page (R78), and what waits for an acknowledgement (R161, R491, R600). -/
def State.ackFaults (s : State) (pg w : Nat) : State :=
  let s := ((List.range 32).filter (hasBit w)).foldl (fun (s : State) b => s.ackBit pg b) s
  if pg = bwPage then s.tryTog
  else if pg = 0xC then s.tryGpio
  else match pageRef pg with
    | some ⟨.csiRx, n, _⟩ => s.tryLfs n
    | _ => s

/-- A write of a register whose VALID bit is cleared by writing 1, none for another register (R80, R329, R349, R385, R443, R492). -/
def State.clearValid (s : State) (r : PageRef) (o w : Nat) : Option State :=
  let pg := r.number
  let top := w.testBit 31
  let clear := fun (fs : List Field) (k : State → State) => if top then k (fs.foldl (fun (s : State) f => s.put pg f 0) s) else s
  match r.block, r.idx, o with
  | .chip, 1, 0x044 => some (clear [Chip.ACC_ERR_INFO_VALID, Chip.ACC_ERR_INFO_OVERFLOW] fun s => s.lower pg 0)
  | .breakwater, 0, 0x060 => some (clear [Breakwater.BW_FIRST_INFO_VALID] id)
  | .breakwater, 0, 0x070 => some (clear [Breakwater.BW_RESET_SRC_VALID] id)
  | .pcie, 1, 0x048 =>
    some <| if top then
        ((s.pcPut r.inst 1 Pcie.APER_ERR_VALID 0).pcPut r.inst 1 Pcie.APER_ERR_OVERFLOW 0).lower (pcPage (s.pcCharge r.inst) 0) 4
      else s
  | .harbour, 7, 0x054 => some (clear [Harbour.TR_FAULT_INFO_VALID, Harbour.TR_FAULT_INFO_OVERFLOW] fun s => s.lower pg 0)
  | .jetty, _, 0x050 => some (clear [Jetty.JT_ERR_INFO_VALID, Jetty.JT_ERR_INFO_OVERFLOW] fun s => s.judgeJtErr r.inst)
  | .drift, _, 0x074 =>
    some <| if w.testBit 19 then
        [Drift.CH_ERR_CAUSE, Drift.CH_ERR_TRIES, Drift.CH_ERR_WRITE, Drift.CH_ERR_MC_FAIL, Drift.CH_ERR_VALID].foldl
          (fun (s : State) f => s.put pg f 0) s
      else s
  | .sounding, _, 0x05C => some (clear [Sounding.SD_MM_INFO_VALID, Sounding.SD_MM_INFO_OVERFLOW] fun s => s.lower pg 0)
  | _, _, _ => none

/-! ## The header (R73, R78) -/

/-- A write of a word of a page's header. -/
def State.writeHeader (s : State) (req : Requester) (pg o w : Nat) : State := match o with
  | 0x018 => s.writeCtrl req pg w
  | 0x020 => s.put pg Hdr.EVT_STAT_EVENT (clearBits (s.get pg Hdr.EVT_STAT_EVENT) w)
  | 0x024 => s.put pg Hdr.EVT_EN_ENABLE w
  | 0x02C => s.ackFaults pg w
  | 0x030 => s.writeCommit pg w
  | _ => s

/-! ## The spine -/

/-- A write of a chip page. -/
def State.writeChip (s : State) (req : Requester) (r : PageRef) (o w : Nat) : State :=
  let rej := if r.idx = 10 then (0xA, 0) else if r.idx = 13 then (0xD, 1) else (0x2, 2)
  let plain := s.writePlain r rej o w
  let nth := fun (base : Nat) => (o - base) / 4
  match r.idx with
  | 2 => if o = 0x040 then s.writePmCtrl w else if o = 0x064 then s.writeAvs w else plain
  | 3 => if 0x100 ≤ o ∧ nth 0x100 < 96 then s.writePdReq (nth 0x100) (w.testBit 31) else plain
  | 4 => if 0x110 ≤ o ∧ nth 0x110 < 3 then s.clearDrops (nth 0x110) w else plain
  | 5 => if o = 0x048 then if plain.refOutside then plain else plain.lower 0x5 3 else plain
  | 7 =>
    if o = 0x040 then if w.testBit 6 then plain.lower 0x2 4 else plain
    else if o = 0x050 then
      let s := if w.testBit 30 then nextOf s (execSoftResetGo req s) else s
      if w.testBit 31 then nextOf s (execSoftResetArm req s) else s
    else plain
  | 10 => if 0x100 ≤ o ∧ nth 0x100 < 48 then s.writeGpioCfg (nth 0x100) w else plain
  | 11 =>
    if o = 0x048 ∨ o = 0x04C then s.writeGpioOe (nth 0x048) w
    else if o = 0x044 then s.writePlain r rej o (w % 2 ^ 16) else plain
  | _ => plain

/-- A write of a Tidemark page (R398, R401, R402, R419). -/
def State.writeTidemark (s : State) (req : Requester) (r : PageRef) (o w : Nat) : State :=
  let rej := (tmPage, 7)
  let plain := s.writePlain r rej o w
  let v : Word := BitVec.ofNat 32 w
  match r.idx with
  | 0 =>
    if o = 0x080 then nextOf s (execTmSelWrite req v s)
    else if o = 0x088 then if s.flag tmPage Tidemark.TM_SEL_ADOPTED || s.planLive then s.event tmPage 7 else plain
    else if o = 0x08C then nextOf s (execPresetWrite req v s)
    else if 0x100 ≤ o ∧ o < 0x200 then
      let x : Fin 2 := Fin.ofNat 2 ((o - 0x100) / 0x80)
      match (o - 0x100) % 0x80 with
      | 0x00 => nextOf s (execDomainEnable req x v s)
      | 0x08 | 0x0C => if s.domState x = 0 then plain else s.event tmPage 7
      | 0x10 => nextOf s (execDomainOffsetWrite req x v s)
      | 0x14 => if s.domState x = 0 then s.putRate x (toSigned 32 w) else s.event tmPage 7
      | 0x48 => if w.testBit 31 then nextOf s (execServoSample req x s) else s
      | _ => plain
    else plain
  | 2 => if 0x040 ≤ o ∧ o < 0x440 ∧ o % 16 = 0 then s.writeGroup ((o - 0x040) / 16) w else plain
  | 3 => if o = 0x090 then plain.judgeSyncLost else if 0x080 ≤ o ∧ o < 0x090 then plain.judgeSlip else plain
  | _ => plain

/-- A write of a Breakwater page (R494, R495, R498). -/
def State.writeBreakwater (s : State) (req : Requester) (r : PageRef) (o w : Nat) : State :=
  let plain := s.writePlain r (bwPage, 3) o w
  match r.idx with
  | 0 =>
    if o = 0x040 then
      if w.testBit 31 then nextOf s (execBwLock req (BitVec.ofNat 32 w) s) else s.writeTogEn (w.testBit 30)
    else if o = 0x044 ∧ s.flag bwPage Breakwater.BW_CTRL_LOCK then s.event bwPage 3
    else plain
  | 7 => if o = 0x040 ∧ w.testBit 31 then nextOf s (execFaultInject req (BitVec.ofNat 32 w) s) else plain
  | p => if 1 ≤ p ∧ p ≤ 4 ∧ 0x100 ≤ o ∧ o < 0x700 then s.writeBwSrc (384 * (p - 1) + (o - 0x100) / 4) w else plain

/-- A write of a Beacon page (R513, R518, R523, R525, R526). -/
def State.writeBeacon (s : State) (req : Requester) (r : PageRef) (o w : Nat) : State :=
  let plain := s.writePlain r (bcnPage, 1) o w
  let v : Word := BitVec.ofNat 32 w
  match r.idx with
  | 0 =>
    if 0x100 ≤ o ∧ o < 0x180 then
      let k := (o - 0x100) / 0x20
      match (o - 0x100) % 0x20 with
      | 0x00 => plain.judgeBeacon
      | 0x04 => s.writeVbase k w
      | 0x0C => nextOf s (execBeaconEoi req (Fin.ofNat 4 k) v s)
      | _ => plain
    else plain
  | 3 =>
    if 0x180 ≤ o ∧ o < 0x1C0 then nextOf s (execBeaconSet req (Fin.ofNat 16 ((o - 0x180) / 4)) v s)
    else if 0x1C0 ≤ o ∧ o < 0x200 then nextOf s (execBeaconClr req (Fin.ofNat 16 ((o - 0x1C0) / 4)) v s)
    else plain
  | p => if 0x100 ≤ o ∧ o < 0x500 then s.writeSrcCfg (256 * (p - 1) + (o - 0x100) / 4) w else plain

/-- A write of a Seawall page (R466, R468). -/
def State.writeSeawall (s : State) (r : PageRef) (o w : Nat) : State :=
  if r.idx = 0 ∧ o = 0x048 then s.writeSwCmd w else s.writePlain r (swPage, 6) o w

/-- A write of a Sounding unit's page (R443, R444). -/
def State.writeSounding (s : State) (req : Requester) (r : PageRef) (o w : Nat) : State :=
  let u : Fin 64 := Fin.ofNat 64 r.inst
  if o = 0x040 then nextOf s (execSoundingConfigWrite req u (BitVec.ofNat 32 w) s)
  else if o = 0x048 then if w.testBit 31 then nextOf s (execSoundingArm req u s) else s
  else s.writePlain r (r.number, 3) o w

/-! ## Ports -/

/-- A write of FAR_TXEQ_REQ (R99, R100): with AUTO = 1 the request fields are ignored; otherwise they are clamped and the setting is due. -/
def State.writeFarRequest (s : State) (n w : Nat) : State :=
  let pg := wePage n
  let s := s.put pg Weatas.FAR_TXEQ_REQ_AUTO (bitsOf w 31 31)
  if w.testBit 31 then s
  else
    let x := s.lane n
    let (y, c) := clampFar (if x.trained then x.farMax else (50, 24, 12)) (bitsOf w 21 16, bitsOf w 4 0, bitsOf w 13 8)
    let s := [(Weatas.FAR_CLAMP_PRE, 0), (Weatas.FAR_CLAMP_POST, 1), (Weatas.FAR_CLAMP_SWING, 2), (Weatas.FAR_CLAMP_SUM, 3)].foldl
      (fun (s : State) (e : Field × Nat) => if hasBit c e.2 then s.put pg e.1 1 else s) s
    let s := s.eventIf (c != 0) pg 3
    let s := ((s.put pg Weatas.FAR_TXEQ_REQ_SWING y.1).put pg Weatas.FAR_TXEQ_REQ_PRE y.2.1).put pg Weatas.FAR_TXEQ_REQ_POST y.2.2
    let s := s.putLane n { x with eqDue := true }
    if s.linkOperating n then s.put pg Weatas.FAR_TXEQ_ACT_PENDING 1 else s

/-- A write of an equalizer coefficient (R98): only in FROZEN, and it waits for a quiet opening. -/
def State.writeCoef (s : State) (n : Nat) (fs : List Field) (w : Nat) : State :=
  if s.rxState n ≠ 4 then s
  else fs.foldl (fun (s : State) f =>
    let x := s.lane n
    let k := fieldKey (wePage n) f
    s.putLane n { x with manual := x.manual.filter (fun e => e.1 != k) ++ [(k, f.stored (bitsOf w f.hi f.lo) % f.size)] }) s

/-- A write of a Weatas lane's page. -/
def State.writeWeatas (s : State) (req : Requester) (r : PageRef) (o w : Nat) : State :=
  let n := r.inst
  let f : Fin 32 := Fin.ofNat 32 n
  let pg := r.number
  let v : Word := BitVec.ofNat 32 w
  let plain := s.writePlain r (pg, 11) o w
  match o with
  | 0x040 =>
    let s := s.put pg Weatas.LANE_CFG_MEDIUM (bitsOf w 7 7)
    if bitsOf w 3 2 < bitsOf w 1 0 then s.event pg 11
    else (s.put pg Weatas.LANE_CFG_MODE_MAX (bitsOf w 3 2)).put pg Weatas.LANE_CFG_MODE_MIN (bitsOf w 1 0)
  | 0x048 => nextOf s (execRxFreeze req f v s)
  | 0x104 => s.writeFarRequest n w
  | 0x140 => plain.setAmplitude n
  | 0x180 =>
    let was := s.flag pg Weatas.LM_CFG_ENABLE
    if was && !w.testBit 30 then plain.unmonitor n else plain.autoRelease n
  | 0x19C => if w.testBit 31 then nextOf s (execLmRelease req f s) else s
  | 0x1C0 => if n % 4 = 0 then plain else s
  | 0x200 => nextOf s (execPrbsGenEnable req f v s)
  | 0x204 => nextOf s (execPrbsInject req f v s)
  | 0x20C => nextOf s (execPrbsChkEnable req f v s)
  | 0x300 => s.writeLinkCtrl n w
  | _ => if 0x050 ≤ o ∧ o < 0x0C0 then s.writeCoef n (r.at_ o) w else plain

/-- Does a lane map name each physical lane once (R149)? -/
def laneMapOk (w : Nat) : Bool := (List.range 4).all fun i => (List.range 4).any fun k => bitsOf w (2 * k + 1) (2 * k) == i

/-- A write of a port's configuration that needs EN = 0 (R149). -/
def State.writeIdle (s : State) (r : PageRef) (rej o w : Nat) (ok : Bool) : State :=
  if s.flag r.number Hdr.CTRL_EN || !ok then s.event r.number rej else s.writePlain r (r.number, rej) o w

/-- A write of a CSI-2 receive port's page (R149, R161). -/
def State.writeCsiRx (s : State) (r : PageRef) (o w : Nat) : State := match o with
  | 0x040 => s.writeIdle r 7 o w true
  | 0x044 => s.writeIdle r 7 o w (laneMapOk w)
  | 0x140 =>
    let s := s.writeBut r (r.number, 7) o w (fun f => f.lo == 29)
    if bitsOf w 30 29 = 3 then s else s.put r.number CsiRx.TRIG_CFG_EDGE (bitsOf w 30 29)
  | 0x100 =>
    let s := s.writePlain r (r.number, 7) o w
    let x := s.csi r.inst
    let s := if s.flag r.number CsiRx.LFS_STAT_OFF && !w.testBit 31 then s.putCsi r.inst { x with lfsCleared := true } else s
    s.tryLfs r.inst
  | _ => s.writePlain r (r.number, 7) o w

/-- A write of a CSI-2 transmit port's page (R149, R154, R155). -/
def State.writeCsiTx (s : State) (r : PageRef) (o w : Nat) : State :=
  if o = 0x040 then s.writeIdle r 3 o w true
  else if o = 0x044 then s.writeIdle r 3 o w (laneMapOk w)
  else if 0x080 ≤ o ∧ o < 0x0C0 ∧ (s.txSlot r.inst ((o - 0x080) / 16)).bound.any (fun b => b.2.2.2) then
    s.writeBut r (r.number, 3) o w (fun f => o % 16 == 0 && f.lo == 30)
  else s.writePlain r (r.number, 3) o w

/-- A write of an Inlet's page (R199, R214). -/
def State.writeInlet (s : State) (r : PageRef) (o w : Nat) : State := match o with
  | 0x200 =>
    let mode := bitsOf w 31 30
    let ok := mode == 0 || (mode == 1 && decide (r.inst < 32)) || (mode == 2 && decide (32 ≤ r.inst))
    let s := s.writeBut r (r.number, 6) o w (fun f => f.lo == 30)
    if ok then s.put r.number Inlet.SYNC_CFG_MODE mode else s.event r.number 6
  | 0x204 => s.put r.number Inlet.SYNC_SKEW_SKEW_NS (ofSigned 32 (max (-1000000) (min 1000000 (toSigned 32 w))))
  | _ => s.writePlain r (r.number, 6) o w

/-- A write of a Jetty window's page (R373, R387, R388, R391, R393). -/
def State.writeJetty (s : State) (req : Requester) (r : PageRef) (o w : Nat) : State :=
  let n := r.inst
  let f : Fin 40 := Fin.ofNat 40 n
  let v : Word := BitVec.ofNat 32 w
  let pg := r.number
  let plain := s.writePlain r (pg, 5) o w
  if o = 0x0C0 then if 32 ≤ n then plain else s
  else if 0x200 ≤ o ∧ o < 0x300 then nextOf s (execMirrorValueWrite req f (Fin.ofNat 64 ((o - 0x200) / 4)) v s)
  else if o = 0x304 ∨ o = 0x308 then plain.judgeMirErr n
  else if o = 0x330 ∧ 32 ≤ n then s.writeBut r (pg, 5) o w (fun f => f.lo == 31)
  else if o = 0x334 then plain.judgeCamFault n
  else if o = 0x340 then nextOf s (execTxqGo req f v s)
  else if 0x380 ≤ o ∧ o < 0x3C0 ∧ s.flag pg Jetty.TXQ_REQ_GO then s
  else plain

/-- The FEC codes of a PHY interface (R405). -/
def fecAllowed (phy fec : Nat) : Bool := match phy with
  | 0 => decide (fec ≤ 2)
  | 1 => decide (fec ≤ 1)
  | _ => fec == 0

/-- A write of MAC_CFG while EN = 0 (R405, R424): each of IF and FEC keeps its value where the pairing is not one of R405. -/
def State.writeMacCfg (s : State) (r : PageRef) (w : Nat) : State :=
  let pg := r.number
  let phy := bitsOf w 31 30
  let fec := bitsOf w 29 28
  let s := s.writeBut r (pg, 2) 0x040 w (fun f => 28 ≤ f.lo)
  if decide (phy < 3) && fecAllowed phy fec then (s.put pg Mac.MAC_CFG_IF phy).put pg Mac.MAC_CFG_FEC fec
  else
    let s := s.event pg 2
    if decide (phy < 3) && fecAllowed phy (s.get pg Mac.MAC_CFG_FEC) then s.put pg Mac.MAC_CFG_IF phy
    else if phy = 3 && fecAllowed (s.get pg Mac.MAC_CFG_IF) fec then s.put pg Mac.MAC_CFG_FEC fec
    else s

/-- A write of a MAC's page. -/
def State.writeMac (s : State) (req : Requester) (r : PageRef) (o w : Nat) : State :=
  let rej := (r.base, 2)
  if r.idx = 0 ∧ (o = 0x040 ∨ o = 0x048 ∨ o = 0x04C) then
    if s.flag r.base Hdr.CTRL_EN then s.event r.base 2
    else if o = 0x040 then s.writeMacCfg r w else s.writePlain r rej o w
  else if r.idx = 3 ∧ o = 0x080 ∧ w.testBit 30 then nextOf s (execGclChange req (Fin.ofNat 2 r.inst) (BitVec.ofNat 32 w) s)
  else s.writePlain r rej o w

/-- A write of MG_TX_DATA (R413): the word's four bytes join the management transmit queue, where it has room. -/
def State.writeMgData (s : State) (w : Nat) : State :=
  let q := s.bridge.mgTx
  if 0x4000 ≤ q.length then s
  else
    let q := q ++ toBytesLE 4 w
    ({ s with bridge := { s.bridge with mgTx := q } }).put (bridgePage 1) Bridge.MG_TX_FREE_WORDS (4096 - ceilDiv q.length 4)

/-- A write of a bridge page (R425). -/
def State.writeBridge (s : State) (req : Requester) (r : PageRef) (o w : Nat) : State :=
  let v : Word := BitVec.ofNat 32 w
  let rej := (bridgePage 0, 1)
  match r.idx, o with
  | 0, 0x050 =>
    if w.testBit 31 && w.testBit 30 then s.event (bridgePage 0) 1
    else if w.testBit 31 then nextOf s (execFdbWrite req v s)
    else if w.testBit 30 then nextOf s (execFdbRead req v s)
    else s
  | 1, 0x040 => s.writeMgData w
  | 1, 0x044 =>
    if w.testBit 31 then nextOf s (execMgTxGo req v s)
    else (s.writeBut r rej o w (fun f => f.lo == 31)).eventIf (bitsOf w 30 29 == 3) (bridgePage 0) 1
  | _, _ => s.writePlain r rej o w

/-! ## Halves -/

/-- A PCIe loopback checker runs (R362). -/
def State.checkerRuns (s : State) (n : Nat) : Bool :=
  s.flag (pcPage n 2) Pcie.TEST_HOLD && s.flag (pcPage n 2) Pcie.TEST_GEN_EN && s.get (pcPage n 2) Pcie.TEST_LB != 0

/-- A running checker's counts go on (R362): how many errors each lane has had since they were last looked at is a free value. -/
def State.loopErrors (s : State) (n : Nat) : State :=
  if !s.checkerRuns n then s
  else (List.range 16).foldl (fun (s : State) i =>
    let (x, s) := s.fresh
    s.pcPut n 2 (Pcie.LB_ERR_COUNT.nth i) ((s.get (pcPage n 2) (Pcie.LB_ERR_COUNT.nth i) + x) % 2 ^ 32)) s

/-- A write of TEST of port n (R362). -/
def State.writePcieTest (s : State) (n w : Nat) : State :=
  let s := s.loopErrors n
  let pg := pcPage n 2
  let was := s.flag pg Pcie.TEST_HOLD
  let gen := s.flag pg Pcie.TEST_GEN_EN
  let hold := w.testBit 31
  let s := [Pcie.TEST_LB, Pcie.TEST_PATTERN].foldl (fun (s : State) f =>
    if f.takes (bitsOf w f.hi f.lo) then s.pcPut n 2 f (bitsOf w f.hi f.lo) else s.pcEvent n 6) s
  let s := s.pcPut n 2 Pcie.TEST_GEN_EN (bitsOf w 28 28)
  let s := if !gen && w.testBit 28 then (List.range 16).foldl (fun (s : State) i => s.pcPut n 2 (Pcie.LB_ERR_COUNT.nth i) 0) s else s
  if hold && !was then
    if s.portBound n false then s.pcEvent n 6
    else
      let up := s.get (pcPage n 0) Pcie.PCIE_STAT_SPEED != 0
      let s := s.pcPut n 2 Pcie.TEST_HOLD 1
      if up then s.linkDown n 0 else s.pcPut n 0 Pcie.PCIE_STAT_LTSSM 0
  else if !hold && was then (s.pcPut n 2 Pcie.TEST_HOLD 0).trainPort n
  else s

/-- A write of a PCIe controller's page: in x16 mode the two instances hold one value (R366). -/
def State.writePcie (s : State) (r : PageRef) (o w : Nat) : State :=
  let n := r.inst
  let write := fun (s : State) (f : Field) =>
    let v := bitsOf w f.hi f.lo
    if f.acc != .rw then s else if f.takes v then s.pcPut n r.idx f (f.stored v) else s.pcEvent n 6
  let plain := (r.at_ o).foldl write s
  if r.idx = 1 ∧ (o = 0x040 ∨ o = 0x044) ∧ !s.x16 ∧ (o - 0x040) / 4 ≠ n then s
  else if r.idx = 2 ∧ o = 0x050 then s.writePcieTest n w
  else if 4 ≤ r.idx ∧ 0x100 ≤ o ∧ o < 0x500 then
    if 1537 ≤ 256 * (r.idx - 4) + (o - 0x100) / 4 then s
    else if 2048 ≤ bitsOf w 11 0 then s.pcEvent n 6
    else plain
  else plain

/-- A write of a control core's page (R532, R533). -/
def State.writeLp (s : State) (req : Requester) (r : PageRef) (o w : Nat) : State :=
  let k : Fin 4 := Fin.ofNat 4 r.inst
  match r.idx with
  | 1 =>
    if o = 0x054 then nextOf s (execCmdDoorbell k req (BitVec.ofNat 32 w) s)
    else if o = 0x060 then nextOf s (execCplHeadWrite k req (BitVec.ofNat 32 w) s)
    else s.writeRingCfg r.inst o w
  | _ => s.writePlain r (r.base, 1) o w

/-- Is HDR_CFG.ORDER a permutation of the four exposures (R239)? -/
def orderOk (w : Nat) : Bool := laneMapOk w

/-- A write of a Cove's page (R239, R254). -/
def State.writeCove (s : State) (r : PageRef) (o w : Nat) : State :=
  let rej := (r.number, 1)
  let bad := if r.idx = 5 then 0x100 ≤ o ∧ o < 0x500 ∧ (o - 0x100) % 0x80 = 0 ∧ !orderOk w
    else 11 ≤ r.idx ∧ r.idx ≤ 14 ∧ 0x100 ≤ o ∧ o < 0x200 ∧ (o - 0x100) % 0x20 = 0 ∧ 8 ≤ bitsOf w 27 24
  if bad then (s.writeBut r rej o w (fun f => f.lo == (if r.idx = 5 then 0 else 24))).event rej.1 rej.2 else s.writePlain r rej o w

/-- A write of a Harbour's page (R286, R289, R306). -/
def State.writeHarbour (s : State) (req : Requester) (r : PageRef) (o w : Nat) : State :=
  let h : Fin 2 := Fin.ofNat 2 r.inst
  let plain := s.writePlain r (r.base, 3) o w
  match r.idx, o with
  | 0, 0x040 =>
    let w := if 1 ≤ bitsOf w 15 0 ∧ bitsOf w 15 0 < 100 then w / 2 ^ 16 * 2 ^ 16 + 100 else w
    if (s.harb h).goWritten then (s.writeBut r (r.base, 3) o w (fun f => f.lo == 31)).event r.base 3 else s.writePlain r (r.base, 3) o w
  | 0, 0x04C => if w.testBit 31 then nextOf s (execEccFillStart req h s) else s
  | 7, 0x048 =>
    if w.testBit 31 then nextOf s (execTrInvalidate req h (w.testBit 30) s) else s.put r.number Harbour.TR_INV_ALL (bitsOf w 30 30)
  | _, _ => plain

/-- A write of a Drift channel's page (R326, R336, R342). -/
def State.writeDrift (s : State) (req : Requester) (r : PageRef) (o w : Nat) : State :=
  let c : Fin 1024 := Fin.ofNat 1024 r.inst
  let v : Word := BitVec.ofNat 32 w
  match o with
  | 0x060 => nextOf s (execDriftSetNext req c false v s)
  | 0x064 => nextOf s (execDriftSetNext req c true v s)
  | 0x068 => nextOf s (execDriftAdd req c v s)
  | 0x06C => s.commandCh r.inst w
  | 0x048 => if s.sentinelOutput r.inst then s.writeBut r (r.number, 6) o w (fun f => f.lo == 29) else s.writePlain r (r.number, 6) o w
  | _ => s.writePlain r (r.number, 6) o w

/-! ## Accesses -/

/-- A write of one block-specific register. -/
def State.writeBody (s : State) (req : Requester) (r : PageRef) (o w : Nat) : State := match s.clearValid r o w with
  | some s => s
  | none => match r.block with
    | .chip => s.writeChip req r o w
    | .tidemark => s.writeTidemark req r o w
    | .breakwater => s.writeBreakwater req r o w
    | .beacon => s.writeBeacon req r o w
    | .seawall => s.writeSeawall r o w
    | .sounding => s.writeSounding req r o w
    | .weatas => s.writeWeatas req r o w
    | .csiRx => s.writeCsiRx r o w
    | .csiTx => s.writeCsiTx r o w
    | .inlet => s.writeInlet r o w
    | .jetty => s.writeJetty req r o w
    | .mac => s.writeMac req r o w
    | .bridge => s.writeBridge req r o w
    | .pcie => s.writePcie r o w
    | .lp => s.writeLp req r o w
    | .cove => s.writeCove r o w
    | .harbour => s.writeHarbour req r o w
    | .drift => s.writeDrift req r o w
    | .lighthouse | .fastStatus | .streamTab => s.writePlain r (r.number, 0) o w

/-- The pages on which a write of a header word acts: in x16 mode the controllers' pages of both halves, but for the fault bits (R366). -/
def State.headerPages (s : State) (r : PageRef) (o : Nat) : List Nat :=
  if r.block = .pcie ∧ o ≠ 0x02C then (s.pcGroup r.inst).map fun n => pcPage n r.idx else [r.number]

/-- A write of one word of the shadow half that is served. -/
def State.writeWord (s : State) (req : Requester) (off w : Nat) : State :=
  let o := off % 0x1000
  match pageRef (off / 0x1000) with
  | none => s
  | some r =>
    if isLiveOff off then s
    else if isHeaderOff off then (s.headerPages r o).foldl (fun (s : State) pg => s.writeHeader req pg o w) s
    else s.writeBody req r o w

/-- A write of one word under the terminal latch (R487): only acknowledgements and the clearing of VALID bits take effect. -/
def State.writeLatched (s : State) (off w : Nat) : State :=
  let o := off % 0x1000
  match pageRef (off / 0x1000) with
  | none => s
  | some r => if o = 0x02C then s.ackFaults (off / 0x1000) w else if isHeaderOff off then s else (s.clearValid r o w).getD s

/-- The Jetty window whose remote window an offset lies in, with its word (R374). -/
def remoteWord (off : Nat) : Option (Nat × Nat) := match pageRef (off / 0x1000) with
  | some ⟨.jetty, n, _⟩ => if 0x400 ≤ off % 0x800 then some (n, (off % 0x800 - 0x400) / 4) else none
  | _ => none

/-- A write of 2^k bytes at an offset of the register window (R8, R10 to R12, R69, R81, R87, R487). -/
def State.writeAccess (s : State) (req : Requester) (off k : Nat) (v : BitVec 64) : State :=
  let lo := v.toNat % 2 ^ 32
  let hi := v.toNat / 2 ^ 32
  if !s.reaches req || isFastOff off then s
  else if s.terminal then
    if k < 2 ∨ off % 2 ^ k ≠ 0 then s
    else if k = 2 then s.writeLatched off lo else (s.writeLatched off lo).writeLatched (off + 4) hi
  else match s.accessCause true off (2 ^ k) with
    | some c => s.logAccess req off true (byteEnables off (2 ^ k)) c
    | none =>
      if isLiveOff off then s
      else match remoteWord off with
        | some (n, word) => nextOf s (execWindowWrite req (Fin.ofNat 40 n) (Fin.ofNat 256 word) (BitVec.ofNat 32 lo)
            (if k = 3 then some (BitVec.ofNat 32 hi) else none) s)
        | none =>
          let s := s.writeWord req off lo
          if k = 3 then s.writeWord req (off + 4) hi else s

/-! ## Commands -/

/-- REG_WRITE: a write of 2^k bytes of the register window (R8, R10, R12). -/
def execRegWrite (req : Requester) (off : Fin 0x4000000) (k : Fin 4) (v : BitVec 64) (s : State) : Result :=
  .next (s.writeAccess req off k v)

/-- FAULT_ACK: a write of FLT_ACK of a page (R78). -/
def execFaultAck (req : Requester) (pg : Fin 0x1400) (w : Word) (s : State) : Result :=
  let off := regOff pg Hdr.FLT_ACK_ACK
  .next <| if !s.reaches req || isFastOff off then s
    else if s.terminal then s.writeLatched off w.toNat
    else match s.accessCause true off 4 with
      | some c => s.logAccess req off true 0xF c
      | none => s.ackFaults pg w.toNat

/-- ACCESS_ERROR: an access of 2^k bytes that meets a cause of R81 is logged; its write does nothing, its read returns 0. -/
def execAccessError (req : Requester) (off : Fin 0x4000000) (k : Fin 4) (write : Bool) (s : State) : Result :=
  .next <| if !s.reaches req then s
    else match s.accessCause write off (2 ^ k.val) with
    | none => s
    | some c =>
      if write then if s.terminal then s else s.logAccess req off true (byteEnables off (2 ^ k.val)) c
      else (s.logAccess req off false (byteEnables off (2 ^ k.val)) c).emit (.readData req off [0])

end Sys2Proof.Machine
end

