-- ==== Sys2Proof/Machine/Reads.lean ====
section
/-!
DEFINITION. Sys2Proof/Machine/Reads.lean: what reads of the register window return: stored fields, fields that mirror other state, the live
half (R72), the captures of multi-register values (R9), the reads that pop a queue.
-/
namespace Sys2Proof.Machine

/-! ## The header (R73 to R76) -/

/-- CAP.FAST (R73, R86): the blocks whose state the fast-status window shows. -/
def Block.isFast : Block → Bool
  | .tidemark | .breakwater | .seawall | .weatas | .csiRx | .csiTx | .inlet | .streamTab | .mac | .cove => true
  | .chip | .beacon | .lighthouse | .sounding | .fastStatus | .jetty | .bridge | .pcie | .lp | .harbour | .drift => false

/-- CAP.BLOCK of a page (R110, R244, R276, R308, R341, R366, R372, R447, R449, R472, R496, R522, R547). -/
def State.capBlock (s : State) (r : PageRef) : Nat := match r.block with
  | .weatas => 0xF800 + (if r.inst % 4 = 0 then 0x400 else 0)
  | .cove | .lighthouse | .seawall => 8
  | .harbour => 4
  | .drift => 0x8008
  | .sounding => 0
  | .breakwater => 0x600
  | .beacon => 0x200
  | .lp => 0x100
  | .jetty => (if r.inst < 32 then 0x8000 else 0x4000) + 64
  | .pcie => (Config.capBlock r.number).toNat / 2 * 2 + s.get 0x0 Chip.CHIP_CFG_HOST_MODE
  | .chip | .tidemark | .fastStatus | .csiRx | .csiTx | .inlet | .streamTab | .mac | .bridge => (Config.capBlock r.number).toNat

/-- A Cove has work in flight. -/
def State.coveBusy (s : State) (n : Nat) : Bool :=
  let x := s.cove n
  !x.store.isEmpty || !x.slices.isEmpty || x.unit.isSome || !x.ops.isEmpty

/-- A Drift channel moves data: a frame or a started descriptor in hand, bursts, units of frames. -/
def ChannelSt.holdsWork (x : ChannelSt) : Bool :=
  (x.cur.toList ++ x.drain).any (fun r => r.frame.isSome || (r.kind != 1 && r.started)) || !x.bursts.isEmpty || !x.inbox.isEmpty || !x.units.isEmpty

/-- A CSI-2 transmit port holds frames or packets. -/
def State.txBusy (s : State) (m : Nat) : Bool :=
  let x : CsiTxSt := SMap.get (fun _ => {}) s.csiTx m
  !x.wire.isEmpty || x.slots.any fun (e : Nat × TxSlot) => !e.2.frames.isEmpty

/-- The bridge holds frames. -/
def State.bridgeBusy (s : State) : Bool :=
  !s.bridge.mgTx.isEmpty || s.bridge.slots.any fun (e : Nat × StreamSlot) => !e.2.frames.isEmpty

/-- A lane has messages, series or packets in hand. -/
def State.laneBusy (s : State) (n : Nat) : Bool :=
  let x := s.lane n
  !x.queue.isEmpty || !x.fsyncs.isEmpty || !x.inbox.isEmpty || !x.injections.isEmpty || x.probe.isSome

/-- A window has transactions in hand. -/
def State.windowBusy (s : State) (n : Nat) : Bool :=
  let x := s.window n
  x.slots.any (fun (e : Nat × JettySlot) => e.2.isOpen) || !x.reads.isEmpty || !x.inbox.isEmpty || x.cycle.isSome || !x.sensors.isEmpty

/-- STAT.BUSY of an instance (R73): what it has in hand. Harbour: R284. DEDUCED for the others, whose chapters do not say what counts. -/
def State.busyOf (s : State) (r : PageRef) : Bool :=
  let n := r.inst
  match r.block with
  | .harbour => let x := s.harb n; decide (0 < x.used) || !x.asks.isEmpty || !x.reqs.isEmpty
  | .cove => s.coveBusy n
  | .drift => (s.ch n).holdsWork
  | .inlet => !(s.port n).inbox.isEmpty || (List.range 4).any fun u => s.streamState (4 * n + u) == 1
  | .streamTab => (List.range 160).any fun x => s.streamState x == 1
  | .csiRx => !(s.csi n).edges.isEmpty || (s.csi n).pulse.isSome
  | .csiTx => s.txBusy n
  | .mac => !(s.mac n).queues.all (·.isEmpty)
  | .bridge => s.bridgeBusy
  | .weatas => s.laneBusy n
  | .jetty => s.windowBusy n
  | .pcie => !(s.pc n).np.isEmpty
  | .lighthouse => s.light.twins.any fun t => t.cove == n
  | .sounding => s.channels.any fun (e : Nat × ChannelSt) => (e.2.cur.toList ++ e.2.drain).any fun d => d.taps.any fun t => t.unit == n
  | .lp => s.cores.entries.any fun e => (e.started && e.lp == n) || e.far == some n
  | .chip => !s.power.up.isEmpty || !s.power.down.isEmpty || s.power.avsCommand.isSome || s.boot.reading
  | .tidemark => s.get 0x11 Tidemark.PLAN_STATE_STATE != 0
  | .breakwater => s.due.any fun (d : Due) => match d with
    | .occurrence _ _ => true
    | .pulse _ | .msix _ _ | .trigger _ | .selfCheck _ _ | .chipReset _ => false
  | .beacon => s.beacon.srcs.any fun (e : Nat × BeaconSrc) => e.2.pend || e.2.act
  | .seawall => s.seawall.bist.any Option.isSome
  | .fastStatus => false

/-- A fault bit of the instance is 1, on any of its pages (R73). -/
def State.faulty (s : State) (r : PageRef) : Bool :=
  (List.range r.block.pages).any fun p => s.get (r.block.page r.inst p) Hdr.FLT_STAT_FAULT != 0

/-- The place on the die of the instance whose first page is `base` (R74). -/
def siteOf (base : Nat) : Nat := Config.sites.foldl (fun (p : Nat) (e : Fin 4294836225 × Fin 4294836225) =>
  if p = e.1 then e.2 else if p = e.2 then e.1 else p) base

/-- The word at offset `o` of a page's header. -/
def State.readHeader (s : State) (r : PageRef) (o : Nat) : Nat × State :=
  let pg := r.number
  let fuse := !s.flag 0x0 Chip.CHIP_CFG_FUSE_ERR
  let stored := fun (l : List Field) => (l.map fun f => s.get pg f * 2 ^ f.lo).sum
  match o with
  | 0x000 => (r.block.type * 2 ^ 24 + r.inst * 2 ^ 12 + r.idx, s)
  | 0x004 => (0x0100, s)
  | 0x008 => (if fuse then Config.lot.toNat else 0, s)
  | 0x00C => (if fuse then Config.wafer.toNat * 2 ^ 24 + Config.dieX.toNat * 2 ^ 12 + Config.dieY.toNat else 0, s)
  | 0x010 => (siteOf r.base / 65535 * 2 ^ 16 + siteOf r.base % 65535, s)
  | 0x014 =>
    (bit (r.fields.any (fun f => f.acc == .rws)) * 2 ^ 31 + bit r.block.isFast * 2 ^ 30 + bit r.block.ownsDomain * 2 ^ 29 +
      (if r.block.ownsDomain then r.domain else 0x7F) * 2 ^ 22 + (r.block.pages - 1) * 2 ^ 16 + s.capBlock r, s)
  | 0x018 =>
    let en := if r.block.planEnabled then bit (s.planUses r) else s.get r.base Hdr.CTRL_EN
    let pwr := if r.block.ownsDomain then s.get r.base Hdr.CTRL_PWR_REQ else 1
    (pwr * 4 + bit (s.resetting r) * 2 + en, s)
  | 0x01C =>
    (bit (s.resetting r) * 16 + bit (s.faulty r) * 8 + bit (s.powered r.domain) * 4 + bit (s.busyOf r) * 2 + bit (s.ready r), s)
  | 0x020 => (s.get pg Hdr.EVT_STAT_EVENT, s)
  | 0x024 => (s.get pg Hdr.EVT_EN_ENABLE, s)
  | 0x028 => (s.get pg Hdr.FLT_STAT_FAULT, s)
  | 0x030 => (stored [Hdr.COMMIT_PENDING, Hdr.COMMIT_CAPTURED, Hdr.COMMIT_DONE, Hdr.COMMIT_GROUP], s)
  | 0x034 => (s.get pg Hdr.COMMIT_TIDE_TIDE, s)
  | _ => (0, s)

/-! ## Fields that show other state -/

/-- Word i of a 64.32 value in 2⁻³² ns: LO, HI, FRAC (R420). -/
def tripleWord (v i : Nat) : Nat := match i with
  | 0 => v / 2 ^ 32 % 2 ^ 32
  | 1 => v / 2 ^ 64 % 2 ^ 32
  | _ => v % 2 ^ 32

/-- Word i of the twelve words of R396. -/
def State.timeWord (s : State) (i : Nat) : Nat :=
  let c := s.time.c * 2 ^ 32
  tripleWord (match i / 3 with
    | 0 => c
    | 1 => s.activeTime c
    | 2 => s.domainTime 0 c
    | _ => s.domainTime 1 c) (i % 3)

/-- FS_FAULT.UNACKED (R86): bit k − 1 where a fault of effective severity k is unacknowledged. -/
def State.unackedSevs (s : State) : Nat := maskOf 6 fun k => s.flt.any fun e => (e.2.unack &&& e.2.sevs.getD k 0) != 0

/-- Port Cn may be receiving (R86): what counts as receiving is not stated, and a port that is off receives nothing. -/
def State.rxShown (s : State) : Nat := maskOf 8 fun n => s.rxEnabled n

/-- A word of the fast-status page (R86) but RX_ACTIVE. -/
def State.fastWord (s : State) (o : Nat) : Nat := match o with
  | 0x050 => s.get 0x11 Tidemark.SPRING_COUNT_COUNT
  | 0x054 => bit s.planLive * 2 ^ 8 + maskOf 4 s.famActive * 16 + maskOf 4 s.inSlack
  | 0x058 => maskOf 32 s.linkOperating
  | 0x05C => maskOf 2 (fun m => s.flag (macPage m 0) Mac.MAC_STAT_LINK) * 2 ^ 10 + maskOf 2 (fun m => s.get (txPage m) CsiTx.TX_STAT_ACTIVE != 0) * 2 ^ 8
  | 0x074 => maskOf 16 s.coveBusy * 2 ^ 16 + maskOf 16 (fun n => s.ready ⟨.cove, n, 0⟩)
  | 0x078 => s.get swPage Seawall.SW_STAT_DEGRADED * 16 + s.get swPage Seawall.SW_STAT_ACTING * 4 + s.get swPage Seawall.SW_STAT_HEALTHY
  | 0x07C => bit s.terminal * 2 ^ 9 + s.get bwPage Breakwater.BW_STAT_ERR_DRIVEN * 2 ^ 8 + s.unackedSevs
  | 0x080 => s.now % 2 ^ 32
  | 0x084 => s.now / 2 ^ 32 % 2 ^ 32
  | _ =>
    if 0x040 ≤ o ∧ o < 0x050 then s.famTide ((o - 0x040) / 4)
    else if 0x060 ≤ o ∧ o < 0x074 then maskOf 32 fun i => s.streamState (32 * ((o - 0x060) / 4) + i) == 1
    else 0

/-- CLK_REF_PPB (R563, R584): −RATE of a LOCKED active domain in ppb; the manual names no rounding, so a dropped fraction leaves the last
bit free between the two nearest codes. -/
def State.refPpb (s : State) : Nat × State :=
  if s.domState s.activeDomain ≠ 3 then (0, s)
  else
    let v : Int := -s.rate s.activeDomain * 10 ^ 9
    if v % 2 ^ 40 = 0 then (ofSigned 32 (v / 2 ^ 40), s)
    else
      let (x, s) := s.fresh
      (ofSigned 32 (v / 2 ^ 40 + ((x % 2 : Nat) : Int)), s)

/-- The age of the older heartbeat path of half h (R473). -/
def State.beatAge (s : State) (h : Nat) : Nat :=
  min 0xFFFF (max (s.time.c - s.seawall.wireAt.getD h 0) (s.time.c - s.seawall.mbxAt.getD h 0))

/-- The sentinel stream of slot j in the live plan (R473). -/
def State.slotStream (s : State) (j : Nat) : Option Nat := (s.sentinels.find? (fun x => x.sentinel == j)).map (·.stream)

/-- COVE_CTX (R277): contexts bound to a sentinel stream, contexts bound, the context of the in-line stream. -/
def State.coveCtxWord (s : State) (n lo : Nat) : Nat :=
  match lo with
  | 16 => maskOf 8 fun c => (s.boundTo n c).any (·.isSentinel)
  | 8 => maskOf 8 fun c => (s.boundTo n c).isSome
  | _ => ((List.range 8).find? fun c => (s.boundTo n c).any (·.path == 0)).getD 0xF

/-- LOAD of Cove n (R277): parts per million of the last 1 ms in which a unit ran. -/
def State.coveLoad (s : State) (n : Nat) : Nat :=
  let c := s.time.c
  let spans := (s.cove n).busy ++ (s.cove n).unit.toList.map fun u => (u.1, c)
  (spans.map fun (b : Nat × Nat) => b.2 - max b.1 (c - 10 ^ 6)).sum

/-- The x16 controllers run in step (R363, R367): the other one works, and no mismatch between them has been found. -/
def State.inStep (s : State) (n : Nat) : Bool :=
  s.x16 && s.ready ⟨.pcie, 1 - n, 0⟩ && !s.halfFailed (1 - n) && !s.condBit (pcPage 0 0) 3 && !s.condBit (pcPage 1 0) 3

/-- A field that mirrors state held elsewhere, by its page, register and lowest bit; none for a field that is stored. DESIGN CHOICE, at
LANE_STAT.OPENING: a lane without sentinel streams is always open (R95), so the field reads 1 from power-up on, not the 0 of its row (R111). -/
def State.mirror (s : State) (r : PageRef) (o lo : Nat) : Option Nat :=
  let n := r.inst
  let nth := fun (base : Nat) => (o - base) / 4
  match r.block, r.idx with
  | .chip, 3 =>
    if o < 0x100 then none
    else match lo with
      | 29 => some (bit (s.planDomains.contains (nth 0x100)))
      | 28 => some (bit (isSystemDomain (nth 0x100)))
      | 27 => some (bit (s.tide.draining.contains (nth 0x100)))
      | _ => none
  | .chip, 4 => if 0x100 ≤ o ∧ o < 0x10C then some (maskOf 32 fun i => s.powered (32 * nth 0x100 + i)) else none
  | .chip, 8 => if o = 0x040 ∧ lo = 26 then some (bit Config.hmodeStrap) else none
  | .chip, 12 =>
    if o = 0x040 ∨ o = 0x044 then
      some (maskOf 32 fun i => decide (32 * nth 0x040 + i < 48) && s.flag 0xA (Chip.GPIO_CFG_OFF.nth (32 * nth 0x040 + i)))
    else none
  | .chip, 14 => if o = 0x040 ∧ lo = 31 then some (bit (Config.ftLock || s.flag 0x0 Chip.CHIP_CFG_FUSE_ERR)) else none
  | .tidemark, 0 =>
    if 0x040 ≤ o ∧ o < 0x070 then some (s.timeWord (nth 0x040))
    else if 0x090 ≤ o ∧ o < 0x09C then some (tripleWord (ofSigned 96 s.time.res) (nth 0x090))
    else none
  | .tidemark, 2 =>
    if 0x048 ≤ o ∧ (o - 0x048) % 16 = 0 ∧ lo = 0 then some (s.pagesOf Hdr.COMMIT_PENDING ((o - 0x048) / 16)).length else none
  | .breakwater, 5 =>
    if 0x100 ≤ o ∧ o < 0x1C0 then some (s.sourceWord (nth 0x100) false)
    else if 0x200 ≤ o ∧ o < 0x2C0 then some (s.sourceWord (nth 0x200) true)
    else none
  | .beacon, 3 =>
    if 0x100 ≤ o ∧ o < 0x140 then some (s.pendWord (nth 0x100) false)
    else if 0x140 ≤ o ∧ o < 0x180 then some (s.pendWord (nth 0x140) true)
    else none
  | .seawall, 0 => if lo = 0 ∧ (o = 0x04C ∨ o = 0x050) then some (s.beatAge (nth 0x04C)) else none
  | .seawall, 1 =>
    if 0x100 ≤ o ∧ (o - 0x100) % 0x20 = 0 then
      let x := s.slotStream ((o - 0x100) / 0x20)
      some (if lo = 31 then bit x.isSome else x.getD 0x3FF)
    else none
  | .fastStatus, _ => some (s.fastWord o)
  | .weatas, _ => if o = 0x044 ∧ lo = 8 then some (bit (s.opening n)) else if (o = 0x1C0 ∨ o = 0x1C4) ∧ n % 4 ≠ 0 then some 0 else none
  | .csiTx, _ =>
    if 0x080 ≤ o ∧ o < 0x0C0 ∧ o % 16 = 0 ∧ lo = 30 ∧ (s.txSlot n ((o - 0x080) / 16)).bound.any (fun b => b.2.2.2) then some 1 else none
  | .inlet, _ =>
    if o = 0x040 then some (maskOf 4 fun u => s.streamState (4 * n + u) == 1)
    else if 0x118 ≤ o ∧ o < 0x180 ∧ (o - 0x118) % 0x20 = 0 ∧ lo = 16 then
      some ((s.streamPlan (4 * n + (o - 0x118) / 0x20)).elim 0 fun x => rawStride x.packing x.width / 64)
    else if o = 0x24C then some (ofSigned 32 (s.rhoOf n))
    else none
  | .jetty, _ =>
    if o = 0x330 ∧ lo = 30 then some (bit (s.pollLine n))
    else if (o = 0x330 ∧ lo = 31 ∧ 32 ≤ n) ∨ ((o = 0x0C0 ∨ o = 0x0C4) ∧ n < 32) then some 0
    else none
  | .pcie, 0 => if o = 0x040 ∧ lo = 31 then some (bit (s.pcCharge n == n)) else if o = 0x040 ∧ lo = 30 then some (bit (s.inStep n)) else none
  | .lp, 1 =>
    if o = 0x064 ∧ lo = 16 then some s.cores.entries.length else if o = 0x064 ∧ lo = 0 then some s.longOps.length else none
  | .cove, 0 => if o = 0x040 then some (s.coveCtxWord n lo) else if o = 0x048 then some (s.coveLoad n) else none
  | .cove, 1 =>
    if 0x100 ≤ o ∧ o < 0x200 ∧ (o - 0x100) % 0x20 = 0 then
      let x := s.boundTo n ((o - 0x100) / 0x20)
      some (match lo with
        | 31 => bit x.isSome
        | 30 => (x.map (·.path)).getD 0
        | _ => (x.map (·.stream)).getD 0x3FF)
    else none
  | .drift, _ =>
    if o = 0x048 ∧ lo = 29 ∧ s.sentinelOutput n then some 7 else if o = 0x070 ∧ lo = 28 then some (s.chState n) else none
  | _, _ => none

/-- The bound of a field that reads as a free value: one that only the outside or a running measurement gives; `keep` where the register
then holds it. -/
def State.openField (s : State) (r : PageRef) (o lo : Nat) : Option (Nat × Bool) := match r.block, r.idx with
  | .harbour, p => if 1 ≤ p ∧ p ≤ 4 ∧ o = 0x058 then some (1000001, false) else none
  | .lp, 0 => if o = 0x044 ∧ lo = 0 then some (1001, false) else none
  | .pcie, 2 =>
    if !s.checkerRuns r.inst then none
    else if o = 0x054 then some (2 ^ 16, false)
    else none
  | _, _ => none

/-- The page whose fields a page shows: the ring and the loops are shared by the four processors (R532, R544). -/
def PageRef.shown (r : PageRef) : PageRef := if r.block = .lp ∧ 1 ≤ r.idx then { r with inst := 0 } else r

/-- The value of a field in the shadow or the live half (R10, R72). -/
def State.readField (s : State) (r : PageRef) (o : Nat) (live : Bool) (f : Field) : Nat × State :=
  match s.mirror r o f.lo with
  | some v => (v % f.size, s)
  | none => match s.openField r o f.lo with
    | some (bound, keep) =>
      let (v, s) := s.fresh
      let v := v % bound
      (v, if keep then s.put r.number f v else s)
    | none => match f.acc with
      | .wo => (0, s)
      | .rws | .plan => (if live then s.live r.shown.number f else s.get r.shown.number f, s)
      | .rw | .ro | .w1c | .w1s | .ft => (s.get r.shown.number f, s)

/-- The fields of a register, in order, into one word. -/
def State.readFields (s : State) (r : PageRef) (o : Nat) (live : Bool) : List Field → Nat × State
  | [] => (0, s)
  | f :: fs =>
    let (v, s) := s.readField r o live f
    let (w, s) := State.readFields s r o live fs
    (v * 2 ^ f.lo + w, s)

/-- The current value of the register at offset `o` of a page, in the shadow or the live half. -/
def State.readReg (s : State) (r : PageRef) (o : Nat) (live : Bool) : Nat × State :=
  if r.block = .fastStatus ∧ o = 0x05C then
    let (v, s) := s.fresh
    (s.fastWord o + (v &&& s.rxShown), s)
  else if r.block = .fastStatus then (s.fastWord o, s)
  else if r.block = .chip ∧ r.idx = 5 ∧ o = 0x044 then s.refPpb
  else if r.block = .chip ∧ r.idx = 11 ∧ (o = 0x050 ∨ o = 0x054) then
    let (v, s) := s.fresh
    (v % (if o = 0x050 then 2 ^ 32 else 2 ^ 16), s)
  else if r.block = .pcie ∧ r.idx = 2 ∧ 0x080 ≤ o ∧ o < 0x0C0 then (s.loopErrors r.inst).readFields r o live (r.at_ o)
  else s.readFields r o live (r.at_ o)

/-! ## Multi-register values (R9) -/

/-- The multi-register values of a page: lowest offset, words, repetitions, distance. -/
def PageRef.spans (r : PageRef) : List (Nat × Nat × Nat × Nat) := match r.block, r.idx with
  | .chip, 2 => [(0x050, 2, 1, 8), (0x058, 2, 1, 8)]
  | .fastStatus, _ => [(0x060, 5, 1, 20), (0x080, 2, 1, 8)]
  | .tidemark, 0 => [(0x040, 12, 1, 48), (0x088, 2, 1, 8), (0x090, 3, 1, 12), (0x108, 3, 2, 0x80), (0x130, 3, 2, 0x80), (0x13C, 3, 2, 0x80)]
  | .tidemark, 3 => [(0x080, 2, 1, 8), (0x088, 2, 1, 8)]
  | .breakwater, 0 => [(0x064, 2, 1, 8), (0x078, 2, 1, 8)]
  | .breakwater, 6 => [(0x100, 4, 64, 0x10)]
  | .seawall, 0 => [(0x064, 2, 1, 8)]
  | .weatas, _ => [(0x210, 2, 1, 8), (0x310, 2, 1, 8), (0x318, 2, 1, 8)]
  | .csiRx, _ => [(0x148, 2, 1, 8)]
  | .inlet, _ => [(0x108, 2, 4, 0x20), (0x110, 2, 4, 0x20), (0x240, 2, 1, 8)]
  | .streamTab, _ => [(0x05C, 2, 16, 0x40)]
  | .jetty, _ => [(0x304, 2, 1, 8), (0x310, 4, 1, 16)]
  | .mac, 0 => [(0x048, 2, 1, 8)]
  | .mac, 1 => [(0x050, 6, 1, 24), (0x080, 6, 1, 24)]
  | .mac, 3 => [(0x088, 2, 1, 8)]
  | .bridge, 0 => [(0x044, 2, 1, 8)]
  | .bridge, 2 => [(0x048, 2, 1, 8), (0x104, 2, 16, 0x20), (0x10C, 2, 16, 0x20)]
  | .pcie, 1 => [(0x04C, 2, 1, 8)]
  | .lp, 0 => [(0x054, 2, 1, 8)]
  | .lp, 1 => [(0x040, 2, 1, 8), (0x048, 2, 1, 8)]
  | .cove, 1 => [(0x10C, 2, 8, 0x20)]
  | .cove, 3 => [(0x104, 2, 8, 0x40), (0x114, 2, 8, 0x40)]
  | .cove, 4 => [(0x104, 2, 8, 0x10)]
  | .cove, 5 => [(0x140, 2, 8, 0x80)]
  | .cove, 8 => [(0x104, 2, 8, 0x60)]
  | .cove, 10 => [(0x104, 2, 8, 0x40)]
  | .cove, p => if 11 ≤ p ∧ p ≤ 14 then [(0x110, 2, 8, 0x20)] else []
  | .harbour, 7 => [(0x040, 2, 1, 8), (0x04C, 2, 1, 8), (0x058, 2, 1, 8)]
  | .harbour, p => if 1 ≤ p ∧ p ≤ 4 then [(0x04C, 2, 1, 8)] else []
  | .drift, _ => [(0x060, 2, 1, 8), (0x078, 2, 1, 8), (0x080, 2, 1, 8)]
  | _, _ => []

/-- The multi-register value that a register belongs to: its lowest offset, its words. -/
def PageRef.spanOf (r : PageRef) (o : Nat) : Option (Nat × Nat) := r.spans.findSome? fun (e : Nat × Nat × Nat × Nat) =>
  let (first, n, rep, stride) := e
  let d := o - first
  if first ≤ o ∧ d / stride < rep ∧ d % stride < 4 * n then some (first + d / stride * stride, n) else none

/-- The registers whose read pops a queue (R162, R389, R407, R413). -/
def State.popAt (s : State) (r : PageRef) (o : Nat) : Option (List Nat × State) := match r.block, r.idx, o with
  | .csiRx, _, 0x148 => some (s.popTrigger r.inst)
  | .jetty, _, 0x310 => some (s.popEvent r.inst)
  | .mac, 1, 0x050 => some (s.popStamp r.inst false)
  | .mac, 1, 0x080 => some (s.popStamp r.inst true)
  | .bridge, 1, 0x050 => some s.popFrame
  | .bridge, 1, 0x054 => some s.popFrameData
  | _, _, _ => none

/-- The words of a value from offset `o` on. -/
def State.readWords (s : State) (r : PageRef) (live : Bool) : Nat → Nat → List Nat × State
  | 0, _ => ([], s)
  | n + 1, o =>
    let (v, s) := s.readReg r o live
    let (vs, s) := State.readWords s r live n (o + 4)
    (v :: vs, s)

/-- The word captured for a requester at window offset `off`, of a value that begins at `first` (R9). -/
def State.captured (s : State) (req : Requester) (first off : Nat) : Option Nat :=
  (s.wordCaptures.find? (fun c => c.req == req && c.off == first)).bind fun c => c.words[(off - first) / 4]?

/-- Read one word of a value that begins at window offset `first`: its lowest word captures all of them, a higher one returns what was
captured, or else its current value (R9). -/
def State.readValue (s : State) (req : Requester) (off first : Nat) (now : State → List Nat × State) (cur : State → Nat × State) : Nat × State :=
  if off = first then
    let (words, s) := now s
    (words.headD 0, if words.length ≤ 1 then s else s.holdCapture req off words)
  else match s.captured req first off with
    | some v => (v, s)
    | none => cur s

/-- The value of one aligned word of the register window that is served. -/
def State.readWord (s : State) (req : Requester) (off : Nat) : Nat × State :=
  let pg := off / 0x1000
  let o := off % 0x800 / 4 * 4
  let off := off / 4 * 4
  let live := isLiveOff off
  if inJobWindow pg then
    let e := (off - 0xA00000) / 16
    let words := if s.powered (52 + entryHalf e) then (s.job e).words else [0, 0, 0, 0]
    s.readValue req off (off / 16 * 16) (fun s => (words, s)) (fun s => (words.getD (off / 4 % 4) 0, s))
  else match pageRef pg with
    | none => (0, s)
    | some r =>
      if isHeaderOff off then s.readHeader r o
      else match s.popAt r o with
        | some (words, _) => s.readValue req off off (fun s => (s.popAt r o).getD (words, s)) (fun s => s.readReg r o live)
        | none => match r.spanOf o with
          | some (first, n) => s.readValue req off (off - (o - first)) (fun s => s.readWords r live n first) fun s =>
            match s.popAt r first with
            | some (words, _) => (words.getD ((o - first) / 4) 0, s)
            | none => s.readReg r o live
          | none => s.readReg r o live

/-- The words that a read of 2^k bytes returns: two for 64 bits; the addressed bytes of the register for a narrow one (R8). -/
def State.readAccess (s : State) (req : Requester) (off k : Nat) : List Nat × State :=
  let (v, s) := s.readWord req off
  if k = 3 then
    let (w, s) := s.readWord req (off + 4)
    ([v, w], s)
  else ([v / 2 ^ (8 * (off % 4)) % 2 ^ (8 * 2 ^ k)], s)

/-- MULTIWORD_CAPTURE_READ: a read of 2^k bytes of the register window (R8, R9, R69, R81, R83, R84). A read of a Jetty's remote window is held open
(R378). -/
def execMultiwordCaptureRead (req : Requester) (off : Fin 0x4000000) (k : Fin 4) (header : Nat) (s : State) : Result :=
  if !s.reaches req then .next s
  else match s.accessCause false off (2 ^ k.val) with
    | some c => .next ((s.logAccess req off false (byteEnables off (2 ^ k.val)) c).emit (.readData req off [0]))
    | none => match remoteWord off with
      | some (n, _) => execWindowRead req (Fin.ofNat 40 n) (Fin.ofNat 1024 (off.val % 0x800 - 0x400)) (Fin.ofNat 9 (2 ^ k.val)) (isLiveOff off) header s
      | none =>
        let (words, s) := s.readAccess req off k
        .next (s.emit (.readData req off words))

end Sys2Proof.Machine
end

