-- ==== Sys2Proof/Machine/Boot.lean ====
section
/-!
DEFINITION. Sys2Proof/Machine/Boot.lean: the boot ROM (R569 to R574, R586). What its hash engine finds is an operand of the commands: the
manual does not state the root key.
-/
namespace Sys2Proof.Machine

/-- Are the n bytes from position p all zero? -/
def zeroBytes (b : List Byte) (p n : Nat) : Bool := fieldLE b p n == 0

/-- 16 MiB: what a slot, and a segment, may hold (R570, R572). -/
def slotBytes : Nat := 0x1000000

/-- Entry i of the segment table (R572). -/
def segmentEntry (head : List Byte) (i : Nat) : BootSegment :=
  let p := 0x100 + 64 * i
  let off := fieldLE head p 4
  let len := fieldLE head (p + 4) 4
  { off, len, kind := fieldLE head (p + 8) 2
    ok := off % 64 == 0 && decide (0x2000 ≤ off) && decide (16 ≤ len) && decide (len ≤ slotBytes) && zeroBytes head (p + 10) 6 }

/-- Are the certificate's fixed fields what R571 gives? -/
def certFormatOk (head : List Byte) : Bool :=
  let c := 0x1100
  fieldLE head c 4 == 0x54524543 && fieldLE head (c + 4) 2 == 1 && fieldLE head (c + 6) 2 == 0x4016 && zeroBytes head (c + 0x0C) 20 &&
    zeroBytes head (c + 0x80) 32

/-- Is every header field in range and every reserved byte 0 (R570)? -/
def headerFormatOk (head : List Byte) : Bool :=
  let n := fieldLE head 0x0C 2
  fieldLE head 6 2 < 2 && 1 ≤ n && n ≤ 64 && zeroBytes head 0x0E 2 && fieldLE head 0x10 4 ≤ slotBytes && zeroBytes head 0x16 2 &&
    zeroBytes head 0x18 232 && zeroBytes head 0x1260 3488

/-- The ERR code of a header's first failing check, in the order of R574; none for a header that passes (R570, R571). -/
def headerError (head : List Byte) (certOk sigOk strap : Bool) : Option Nat :=
  if fieldLE head 0 4 ≠ 0x54485A44 ∨ fieldLE head 4 2 ≠ 1 then some 1
  else if !certOk then some 2
  else if !certFormatOk head then some 3
  else if !sigOk then some 4
  else if !headerFormatOk head then some 5
  else if head.length ≠ 0x2000 then some 5
  else if fieldLE head 6 2 ≠ bit strap then some 6
  else none

/-- BOOT_STAT.STATE (R586): 0 ROM, 1 HEADER, 2 SEGMENTS, 3 DONE, 4 FAILED, 5 HALTED. -/
def State.bootState (s : State) : Nat := s.get 0x8 Chip.BOOT_STAT_STATE

/-- May the ROM start (R563, R607, R614)? -/
def State.bootMayStart (s : State) : Bool :=
  !s.power.inReset && !s.power.tripped && !s.factory && s.flag 0x5 Chip.CLK_STAT_REF_OK && decide (s.bootState < 2) && !s.boot.reading &&
    s.boot.failed.isNone

/-- Slot B is read: after a fallback, and where NEXT_B says so, which it then no longer does (R574). -/
def State.chooseSlot (s : State) : State :=
  let b := s.boot.fallback || s.flag 0x8 Chip.BOOT_NEXT_NEXT_B
  (s.put 0x8 Chip.BOOT_STAT_SLOT (bit b)).put 0x8 Chip.BOOT_NEXT_NEXT_B 0

/-- BOOT_START: the ROM reads and verifies the header of a slot (R570, R571, R573): `head` is its first 8 KiB; the certificate's signature,
and the header's, verify or not. -/
def execBootStart (head : List Byte) (certOk sigOk : Bool) (s : State) : Result :=
  .next <| if !s.bootMayStart then s
    else
      let s := (s.chooseSlot.put 0x8 Chip.BOOT_STAT_STATE 1).put 0x8 Chip.BOOT_STAT_SEG 0
      match headerError head certOk sigOk (s.flag 0x8 Chip.BOOT_STAT_HMODE) with
      | some e => { s with boot := { s.boot with failed := some e } }
      | none =>
        let segs := (List.range (fieldLE head 0x0C 2)).map (segmentEntry head)
        let s := { s with boot := { s.boot with reading := true, segs, applied := 0 } }
        let s := (s.put 0x8 Chip.BOOT_IMG_VER_VER (fieldLE head 8 4)).put 0x8 Chip.BOOT_KEY_ID_ID (fieldLE head 0x1108 4)
        let s := s.put 0x8 Chip.BOOT_STAT_STATE 2
        if s.flag 0x8 Chip.BOOT_STAT_SLOT then s.raise 0x8 1 else s

/-! ## Segments (R572, R573) -/

/-- A boot check fails: BOOT_FAIL deals with it. -/
def State.bootFails (s : State) (err : Nat) : State := { s with boot := { s.boot with failed := some err } }

/-- Both ports take the port configuration (R346), and what a PCIE segment gave. -/
def State.applyPorts (s : State) (k : Nat → PcieSt → PcieSt) : State := [0, 1].foldl (fun (s : State) n =>
  let x : PcieSt := SMap.get (fun _ => {}) s.pcie n
  { s with pcie := SMap.set (fun _ => {}) s.pcie n { k n x with applied := true } }) s

/-- A PCIE segment (R572): identity and the sizes of BAR4 (R347, R348); none where it breaks the layout. -/
def State.applyPcie (s : State) (b : List Byte) : Option State :=
  let lo := if s.x16 then 29 else 28
  let fits := fun (n : Nat) => let z := fieldLE b (4 + n) 1; decide (lo ≤ z) && decide (z ≤ lo + 7)
  if b.length ≠ 16 ∨ !zeroBytes b 6 10 ∨ !fits 0 ∨ !fits 1 then none
  else some <| s.applyPorts fun n x => { x with subVendor := fieldLE b 0 2, subDevice := fieldLE b 2 2, barBoot := some (fieldLE b (4 + n) 1) }

/-- A REG segment (R572, R573): pairs written in order by LP0; OFFSET 0xFFFF_FFFC is a wait. -/
def State.applyRegs (s : State) (b : List Byte) : Option State :=
  if b.length % 8 ≠ 0 then none
  else some <| (List.range (b.length / 8)).foldl (fun (s : State) i =>
    let off := fieldLE b (8 * i) 4
    if off = 0xFFFF_FFFC then s else s.writeAccess .lp0 off 2 (BitVec.ofNat 64 (fieldLE b (8 * i + 4) 4))) s

/-- Where a MEM or PLAN segment goes (R572): half, address, bytes; none where it breaks the layout. -/
def copyTarget (b : List Byte) : Option (Nat × Nat × List Byte) :=
  let h := fieldLE b 0 1
  if 1 < h ∨ !zeroBytes b 1 7 then none else some (h, fieldLE b 8 8, b.drop 16)

/-- May a copy proceed (R286, R573): the half's channels are trained, and the fill front has passed its range? Before GO there is none. -/
def State.copyReady (s : State) (h pa n : Nat) : Bool :=
  s.harbourTrained h && (s.harb h).goWritten && s.belowFront h (pa + n)

/-- The plan document at an address of local memory is submitted (R573): its outcome shows in PLAN_STATE and PLAN_REFUSE. -/
def State.submitLocal (s : State) (h pa : Nat) : State :=
  let head := s.memRead h pa 0xC0
  let n := 32 * min (fieldLE head 0x0C 2) 160 + 16 * min (fieldLE head 0x0E 2) 640
  (s.submitPlan (head ++ s.memRead h (pa + 0xC0) n)).2

/-- The blocks of a GPTP segment are in range (R572). -/
def gptpOk (b : List Byte) : Bool :=
  b.length == 32 && [0, 16].all fun p => fieldLE b p 1 < 128 && fieldLE b (p + 1) 1 ≤ 3 && fieldLE b (p + 2) 1 ≤ 3 && zeroBytes b (p + 7) 9

/-- A GPTP segment (R572): it is kept for the 802.1AS firmware, and gives the domains their numbers. -/
def State.applyGptp (s : State) (b : List Byte) : Option State :=
  if !gptpOk b then none
  else
    let s := { s with boot := { s.boot with gptp := b } }
    some <| if fieldLE b 0 1 = fieldLE b 16 1 then s.event tmPage 7
      else [0, 1].foldl (fun (s : State) x => s.put tmPage (Tidemark.DOM_CFG_NUMBER.nth x) (fieldLE b (16 * x) 1)) s

/-- A SENSOR segment (R572, R573). -/
def State.applySensors (s : State) (b : List Byte) : Option State :=
  let l := sensorEntries b
  if b.length % 12 ≠ 0 ∨ l.any Option.isNone then none else some (s.addSensors (l.filterMap id))

/-- The effect of segment i of kind k (R572): none where the segment breaks the layout. A MEM or PLAN copy is ready to go. -/
def State.applySegment (s : State) (i kind : Nat) (b : List Byte) : Option State :=
  if (i == 0) != (kind == 1) then none
  else match kind with
    | 1 => s.applyPcie b
    | 2 => s.applyRegs b
    | 3 => (copyTarget b).map fun t => s.memWrite t.1 t.2.1 t.2.2
    | 4 => s.applySensors b
    | 5 => (copyTarget b).map fun t => (s.memWrite t.1 t.2.1 t.2.2).submitLocal t.1 t.2.1
    | 6 => s.applyGptp b
    | _ => none

/-- Must a segment still wait for its half's memory (R573)? -/
def State.segmentWaits (s : State) (kind : Nat) (b : List Byte) : Bool :=
  (kind == 3 || kind == 5) && (copyTarget b).any fun t => !s.copyReady t.1 t.2.1 t.2.2.length

/-- Segment i has been applied (R573, R586); the terminal latch stops boot after segment 0 (R488, R574). -/
def State.segmentDone (s : State) (i : Nat) : State :=
  let f := Chip.BOOT_SEG_DONE_DONE.nth (i / 32)
  let s := s.put 0x9 f (setBit (s.get 0x9 f) (i % 32))
  let s := { s with boot := { s.boot with applied := i + 1 } }
  if s.terminal then s.bootFails 10 else s

/-- BOOT_SEGMENT: the next segment has been read; its hash matches or not (R572, R573). -/
def execBootSegment (body : List Byte) (hashOk : Bool) (s : State) : Result :=
  let i := s.boot.applied
  .next <| if s.bootState ≠ 2 ∨ s.boot.failed.isSome then s
    else match s.boot.segs[i]? with
      | none => s
      | some g =>
        let t := s.put 0x8 Chip.BOOT_STAT_SEG i
        if !g.ok then t.bootFails 8
        else if body.length ≠ g.len then s
        else if !hashOk then t.bootFails 7
        else if (i == 0) == (g.kind == 1) && t.segmentWaits g.kind body then t
        else match t.applySegment i g.kind body with
          | none => t.bootFails 8
          | some u => u.segmentDone i

/-- BOOT_DONE: every segment is applied (R573): the firmware starts on the pairs that run, and sets TOG_EN. -/
def execBootDone (s : State) : Result :=
  .next <| if s.bootState ≠ 2 ∨ s.boot.failed.isSome ∨ s.boot.applied < s.boot.segs.length then s
    else
      let s := { s with boot := { s.boot with reading := false } }
      let s := (s.put 0x8 Chip.BOOT_STAT_STATE 3).put 0x8 Chip.BOOT_TIME_US_US (s.time.c / 1000)
      let s := [0, 1, 2, 3].foldl (fun (s : State) k => if s.ready ⟨.lp, k, 0⟩ then s.startFirmware k else s) s
      (s.writeTogEn true).event 0x8 0

/-! ## Failure (R574) -/

/-- Boot stops (R574): in FAILED, or in HALTED with the latch set; where no segment 0 was applied the function takes the defaults. -/
def State.bootStops (s : State) (halted : Bool) : State :=
  let s := if s.boot.applied = 0 then (s.applyPorts fun _ x => x).lower 0x8 1 else s
  let s := [0, 1, 2, 3].foldl (fun (s : State) k => if s.ready ⟨.lp, k, 0⟩ then s.put (lpPage k) Lp.LP_FW_STAT_STATE 4 else s) s
  s.put 0x8 Chip.BOOT_STAT_STATE (if halted then 5 else 4)

/-- BOOT_FAIL: a boot check has failed, or the flash has not answered within 1 ms (`flash`): the ROM turns to slot B, resets the chip to do
so, or stops (R574). -/
def execBootFail (flash : Bool) (s : State) : Result :=
  let code := if s.boot.failed.isNone && flash && (s.bootMayStart || s.bootState == 2) then some 9 else s.boot.failed
  .next <| match code with
    | none => s
    | some e =>
      let s := if s.bootMayStart then s.chooseSlot else s
      let b := s.flag 0x8 Chip.BOOT_STAT_SLOT
      let s := { s with boot := { s.boot with reading := false, failed := none } }
      let s := (s.put 0x8 Chip.BOOT_STAT_ERR e).report 0x8 0
      if e = 10 then s.bootStops true
      else if s.boot.applied = 0 ∧ !b then
        ({ s with boot := { s.boot with fallback := true } }.put 0x8 Chip.BOOT_STAT_STATE 0).raise 0x8 1
      else if s.terminal then (s.put 0x8 Chip.BOOT_STAT_ERR 10).bootStops true
      else if b then s.bootStops false
      else (s.put 0x8 Chip.BOOT_NEXT_NEXT_B 1).startReset 6

end Sys2Proof.Machine
end

