-- ==== Sys2Proof/Machine/Tides.lean ====
section
/-!
DEFINITION. Sys2Proof/Machine/Tides.lean: tide and spring boundaries, slack windows, plan swaps and draining (R29 to R38, R42, R43, R61 to R66),
and the work of other units at those instants.
-/
namespace Sys2Proof.Machine

/-- A list of one entry per family takes a value. -/
def State.putBegun (s : State) (f k : Nat) : State := { s with tide := { s.tide with begun := s.tide.begun.set f k } }

/-- The families that a plan runs (R29). -/
def Plan.active (p : Plan) : List Nat := [0, 1, 2, 3].filter fun f => (p.family f).n != 0

/-- Has family f begun a tide under the live plan (R61)? -/
def State.famRuns (s : State) (f : Nat) : Bool := hasBit s.tide.famStarted f

/-! ## A tide ends and a tide begins -/

/-- A tide without a frame start of stream x has ended, or one with a frame start (R179). -/
def State.judgeSilent (s : State) (x : PlanStream) (ended : Nat) : State :=
  let st := s.stream x.stream
  let n := if st.lastTide = some ended then 0 else st.silent + 1
  let limit := s.live (inPage x.port) (Inlet.IN_VC_SILENT_SILENT_TIDES.nth (x.stream % 4))
  let late := limit != 0 && decide (limit ≤ n)
  (s.putStream x.stream { st with silent := n, silentNow := late || (st.silentNow && n != 0) }).judgeInlet x.port

/-- Tide `ended` of family f ends: its streams are watched (R179). -/
def State.endTide (s : State) (f ended : Nat) : State := match s.tide.livePlan with
  | none => s
  | some p => (p.streams.filter (fun x => x.family == f)).foldl (fun (s : State) x => s.judgeSilent x ended) s

/-- A tide of family f begins, the k-th of its spring tide: FAM_TIDE counts, from 0 where the family has never been active (R32); the
slack window closes. -/
def State.countTide (s : State) (f k : Nat) : State :=
  let n := if hasBit s.tide.famEver f then s.famTide f + 1 else 0
  let t := s.tide
  let s := { s with tide := { t with famEver := setBit t.famEver f, famStarted := setBit t.famStarted f } }
  ((s.putBegun f k).put tidePage (Tidemark.FAM_TIDE_TIDE.nth f) n).put tidePage (Tidemark.FAM_PHASE_IN_SLACK.nth f) 0

/-- Captured groups bound to family f, 4 for the spring tide, swap with the tide that begins (R38, R43). -/
def State.swapGroups (s : State) (f : Nat) : State :=
  ((List.range 64).filter fun g => s.grpFlag Tidemark.GRP_STAT_CAPTURED g && s.grpFamily g == f).foldl
    (fun (s : State) g => s.swapGroup g (s.grpCount g)) s

/-- Channels triggered by a boundary (`code` 1) or a slack opening (2) of family f get a trigger (R326). -/
def State.triggerFamily (s : State) (code f : Nat) : State := s.oweTriggers code fun c => s.chCfg c Drift.CH_CFG_TRIG_FAM == f

/-- The boundary of family f is seen by the Beacon (R503), by Drift channels (R326) and by the loops (R531). -/
def State.announceTide (s : State) (f : Nat) : State := ((s.owe (.pulse (2 + f))).triggerFamily 1 f).loopTide

/-- Half h's counts of a tide start at 0 with the first tide (R294). -/
def State.clearHarbourTide (s : State) (h : Nat) : State :=
  s.putHarb h { s.harb h with tideBytes := [0, 0, 0, 0], tideSurplus := [0, 0, 0, 0], tideLat := [0, 0, 0, 0], tidePeak := (s.harb h).used,
                              tideLate := false, tideTimeout := false, slackRefreshes := 0 }

/-- A tide of the lowest family ends: CTRL_MISMATCH stays where the controllers disagreed in it (R371). -/
def State.controllersTide (s : State) : State :=
  let bad := s.fault.disagreed
  [0, 1].foldl (fun (s : State) h => if bad.contains h then s else s.lower (pcPage h 0) 3) { s with fault := { s.fault with disagreed := [] } }

/-- The first tide of the lowest family, or a later one: what belongs to no single family is done (R66, R294, R465, R468). -/
def State.lowestTide (s : State) (first : Bool) (ended : Nat) : State :=
  let s := if first then (s.clearHarbourTide 0).clearHarbourTide 1 else ((s.harbourTide 0).harbourTide 1).publishReports ended
  let s := if first then s else s.controllersTide
  let s := if s.flag swPage Seawall.SW_CMD_SWITCH then { s with seawall := { s.seawall with switchDue := true } } else s
  let t := s.tide
  if t.drained.isEmpty then s
  else ({ s with tide := { t with draining := t.draining.filter (fun d => !t.drained.contains d), drained := [] } }).pumpPower

/-- TIDE_BOUNDARY: family f begins a tide that is not the first of a spring tide (R30, R33). -/
def execTideBoundary (f : Fin 4) (s : State) : Result :=
  .next <| match s.tide.livePlan with
    | none => s
    | some p =>
      let k := s.tide.begun.getD f 0
      if (p.family f).n ≤ k then s
      else
        let first := !s.famRuns f
        let ended := s.famTide f
        let s := if first then s else s.endTide f ended
        let s := (((s.countTide f (k + 1)).swapGroups f).announceTide f)
        if s.lowestFamily = some f.val then s.lowestTide first ended else s

/-! ## Slack windows -/

/-- Does the device's arm of the staged plan's group capture at the spring boundary that comes next (R61)? -/
def State.planCaptures (s : State) (g : Nat) : Bool :=
  s.commit.devArm == some g && s.planState == 3 && s.tide.staged.any (fun p => p.group == g &&
    (!p.atSpring || p.applySpring == (s.get tidePage Tidemark.SPRING_COUNT_COUNT + 1) % 2 ^ 32))

/-- The spring-bound capture (R43): groups bound to the spring tide, and the staged plan with its group (R61). DESIGN CHOICE: a plan whose group
software has bound to a family since admission is captured by no capture of a live plan; with none live it is captured at its first boundary. -/
def State.captureSpring (s : State) : State :=
  let s := (List.range 64).foldl (fun (s : State) g =>
    let plan := s.planCaptures g
    if s.grpFamily g != 4 || !(s.capturesNow g || plan) then s
    else
      let s := s.captureGroup g
      if plan then ({ s with tide := { s.tide with stagedCaptured := true } }).dropDevArm else s) s
  { s with tide := { s.tide with springCaptured := true } }

/-- Is the instant at hand S_max before the spring boundary (R43): the slack opening of the last tide of a family with the largest S_f? -/
def State.springOpens (s : State) (p : Plan) (f : Nat) : Bool :=
  s.tide.begun.getD f 0 == (p.family f).n && !s.tide.springCaptured && p.active.all fun g => (p.family g).slack ≤ (p.family f).slack

/-- What each half does in the slack window of the lowest family (R36, R463, R464): a slice of logic self-test, and a march. -/
def State.slackWork (s : State) (corr : Nat × Nat) (bad : Bool × Bool) : State :=
  ((((s.startBist 0).startBist 1).march 0 corr.1 bad.1).march 1 corr.2 bad.2).stepAvs

/-- SLACK_OPEN: the slack window of family f opens (R35, R36, R38, R43): `corr` errors that the march corrects in each half, and whether it
finds any other. A family that has not begun, whose first boundary is the spring boundary, has no window, but the spring capture falls there. -/
def execSlackOpen (f : Fin 4) (corr : Fin 7 × Fin 7) (bad : Bool × Bool) (s : State) : Result :=
  .next <| match s.tide.livePlan with
    | none => s
    | some p =>
      if (p.family f).n = 0 ∨ s.inSlack f then s
      else
        let spring := s.springOpens p f
        let opens := s.famRuns f
        let s := if opens then
            let s := s.put tidePage (Tidemark.FAM_PHASE_IN_SLACK.nth f) 1
            ((List.range 64).filter fun g => s.grpFamily g == f && s.capturesNow g).foldl (fun (s : State) g => s.captureGroup g) s
          else s
        let s := if spring then s.captureSpring else s
        if !opens then s
        else
          let s := ((s.loopSlack f (s.famTide f)).owe (.pulse (6 + f))).triggerFamily 2 f
          if s.lowestFamily = some f.val then s.slackWork (corr.1.val, corr.2.val) bad else s

/-! ## Plan swaps (R61 to R66) -/

/-- The binding of a Drift channel under a plan (R315): role, mirror, output index, stream, class, and the entry. -/
def Plan.binding (p : Plan) (c : Nat) : Option (Nat × Bool × Nat × Nat × Nat × PlanOutput) :=
  p.indexedOutputs.findSome? fun (e : Nat × PlanOutput) => (p.ownerOf e.1).bind fun x =>
    ((channelsOf x e.2).find? (fun t => t.1 == c)).map fun t => (t.2.1, t.2.2, e.1 - x.outFirst, x.stream, x.cls, e.2)

/-- Channels that a plan binds. -/
def Plan.boundChannels (p : Plan) : List Nat := (p.indexedOutputs.map fun (e : Nat × PlanOutput) => (p.entryChannels e.1 e.2).map (·.1)).flatten

/-- Drift channels take their new roles (R315). -/
def State.swapChannels (s : State) (old new : Option Plan) : State :=
  let all := s.channels.map (·.1) ++ ((old.map Plan.boundChannels).getD []) ++ ((new.map Plan.boundChannels).getD [])
  (all.eraseDups.filter fun c => old.map (·.binding c) != new.map (·.binding c)).foldl (fun (s : State) c => s.rebindCh c) s

/-- The stream bound to context c of Cove n, with what it declares (R218). -/
def Plan.bindingOf (p : Plan) (n c : Nat) : Option (PlanStream × List PlanOutput) := ((p.onCove n)[c]?).map p.signature

/-- Cove contexts are bound anew where their stream, or what it declares, is another (R218, R272). -/
def State.swapContexts (s : State) (old new : Option Plan) : State :=
  (List.range 16).foldl (fun (s : State) n => (List.range 8).foldl (fun (s : State) c =>
    let now := new.bind (·.bindingOf n c)
    if now.isNone || now == old.bind (·.bindingOf n c) then s else s.rebindContext n c) s) s

/-- Stream x falls into one of the kinds of R62: with GAP = 1 a changed one loses its next frame (R63). One that is added begins in
IDLE (R172). -/
def State.swapStream (s : State) (old new : Option Plan) (x : Nat) : State :=
  let was := old.bind (·.streamOf x)
  let is := new.bind (·.streamOf x)
  let same := match old, new, was with
    | some p, some q, some y => p.continues q y
    | _, _, _ => false
  if same then s
  else
    let st := s.stream x
    let gap := was.isSome && is.isSome && new.any (·.gap)
    let moved := was.map (·.family) != is.map (·.family)
    let s := if was.isNone && is.isSome && s.streamState x != 1 then s.stPut x StreamTab.ST_STAT_STATE 0 else s
    (s.putStream x { st with gapDue := gap, silent := 0, silentNow := is.isSome && st.silentNow,
                             lastTide := if moved then none else st.lastTide }).judgeInlet (x / 4)

/-- The k-th output of a plan with a destination, as a slot holds it (R153, R414): stream, output index, Drift channel, sentinel. -/
def Plan.slotOutput (p : Plan) (dest k : Nat) : Option (Nat × Nat × Nat × Bool) :=
  ((p.indexedOutputs.filter fun (e : Nat × PlanOutput) => e.2.dest == dest)[k]?).bind fun (e : Nat × PlanOutput) => (p.ownerOf e.1).map fun x =>
    (x.stream, e.1 - x.outFirst, e.2.drift, x.isSentinel)

/-- The data type of a packing by its FORMAT code (R153, R268). -/
def dataTypeOf (format : Nat) : Nat := [0x2E, 0x2C, 0x2B, 0x18, 0x19, 0x1E, 0x1F, 0x24].getD format 0

/-- The data type of output k of stream x: that of the packing in force at the swap (R153, R164). -/
def State.outputType (s : State) (p : Plan) (x k : Nat) : Nat := match p.streamOf x with
  | none => 0
  | some y => match p.contextOf y.coveA x with
    | none => 0
    | some c => dataTypeOf (s.live (covePage y.coveA (11 + k)) (Cove.WIN_CFG_FORMAT.nth c))

/-- Slot k of transmit port m takes its output (R153); frames begun before go on (R62). -/
def State.swapTxSlot (s : State) (new : Option Plan) (m k : Nat) : State :=
  let b := new.bind (·.slotOutput (3 + m) k)
  let dt := match new, b with
    | some p, some (x, out, _, _) => s.outputType p x out
    | _, _ => 0
  let s := s.put (txPage m) (CsiTx.TX_OUT_CFG_STREAM.nth k) ((b.map (·.1)).getD 0x3FF)
  let s := s.put (txPage m) (CsiTx.TX_OUT_CFG_DT.nth k) dt
  let x := s.txSlot m k
  if x.bound == b then s else s.putTxSlot m k { x with bound := b }

/-- Stream slot k takes its output (R414); frames begun before go on (R62). -/
def State.swapStreamSlot (s : State) (new : Option Plan) (k : Nat) : State :=
  let b := new.bind (·.slotOutput 5 k)
  let s := s.put (bridgePage 2) (Bridge.SL_CFG_VALID.nth k) (bit b.isSome)
  let s := s.put (bridgePage 2) (Bridge.SL_CFG_STREAM.nth k) ((b.map (·.1)).getD 0x3FF)
  let x := s.slot k
  if x.bound == b then s else s.putSlot k { x with bound := b }

/-- Slots of the transmit ports and of the stream port, and sentinel slots, take the outputs and streams of a plan (R153, R414, R451). -/
def State.swapSlots (s : State) (new : Option Plan) : State :=
  let s := [0, 1].foldl (fun (s : State) m => [0, 1, 2, 3].foldl (fun (s : State) k => s.swapTxSlot new m k) s) s
  let s := (List.range 16).foldl (fun (s : State) k => s.swapStreamSlot new k) s
  (List.range 8).foldl (fun (s : State) k =>
    let x := new.bind fun p => p.streams.find? (fun y => y.sentinel == k)
    (s.put swPage1 (Seawall.SW_SLOT_VALID.nth k) (bit x.isSome)).put swPage1 (Seawall.SW_SLOT_STREAM.nth k) ((x.map (·.stream)).getD 0x3FF)) s

/-- Domains that only the old plan used start to drain (R66). -/
def State.swapDomains (s : State) (old new : Option Plan) : State :=
  let of := fun (p : Option Plan) => (p.map fun p => p.domains s.x16).getD []
  let keep := of new
  let t := s.tide
  let all := (List.range 96).filter fun d => (t.draining.contains d || (of old).contains d) && !keep.contains d
  { s with tide := { t with draining := all, drained := t.drained.filter all.contains } }

/-- Everything that follows the live plan, once it has changed from `old` to `new` (R61 to R66, R153, R292, R315, R355, R414, R423, R542). -/
def State.swapWork (s : State) (old new : Option Plan) : State :=
  let streams := (((old.map fun p => p.streams.map (·.stream)).getD []) ++ ((new.map fun p => p.streams.map (·.stream)).getD [])).eraseDups
  let s := streams.foldl (fun (s : State) x => s.swapStream old new x) (s.swapContexts old new)
  let s := (((s.swapChannels old new).swapSlots new).swapDomains old new)
  let s := ((s.capCredits 0).capCredits 1)
  (((s.judgeLink 0).judgeLink 1).judgeTimeUnlocked.loopPlan old).pumpPower

/-- The plan in force becomes `new`: its fields, the active families, PLAN_LIVE_ID (R50, R61, R422). -/
def State.putPlan (s : State) (new : Option Plan) : State :=
  let s := (s.loadPlan true new).loadPlan false new
  let s := { s with tide := { s.tide with livePlan := new } }
  let s := [0, 1, 2, 3].foldl (fun (s : State) f =>
    let on := new.any fun p => (p.family f).n != 0
    let s := s.put tidePage (Tidemark.FAM_PHASE_ACTIVE.nth f) (bit on)
    if on then s
    else
      let s := (s.putBegun f 0).put tidePage (Tidemark.FAM_PHASE_IN_SLACK.nth f) 0
      { s with tide := { s.tide with famStarted := clearBit s.tide.famStarted f } }) s
  s.put tidePage Tidemark.PLAN_LIVE_ID_ID ((new.map (·.id)).getD 0)

/-- The staged plan is taken from its place. -/
def State.takeStaged (s : State) : State :=
  (({ s with tide := { s.tide with staged := none, stagedCaptured := false } }).dropDevArm).setPlanState 0

/-- Groups that stay armed while their family is inactive under the live plan lose their arm (R42). -/
def State.dropInactive (s : State) : State :=
  (s.commit.swArm.filter fun g => s.grpFamily g < 4 && !s.famActive (s.grpFamily g)).foldl
    (fun (s : State) g => (s.dropArm g).putGrp Tidemark.GRP_STAT_NOFAMILY g 1) s

/-- SPRING_COUNT counts a spring tide, from 0 for the first since chip reset (R32). -/
def State.countSpring (s : State) : State :=
  let n := if s.tide.springEver then s.get tidePage Tidemark.SPRING_COUNT_COUNT + 1 else 0
  ({ s with tide := { s.tide with springEver := true, springCaptured := false } }).put tidePage Tidemark.SPRING_COUNT_COUNT n

/-- Every captured group swaps, where a boundary of every active family falls (R43). -/
def State.swapAllGroups (s : State) : State := [0, 1, 2, 3, 4].foldl (fun (s : State) f => s.swapGroups f) s

/-- The spring boundary at which the live plan ends for sleep (R575): no tide begins. -/
def State.endPlan (s : State) (old : Plan) : State :=
  let s := { s with power := { s.power with planEnds := false } }
  (s.putPlan none).swapAllGroups.swapWork (some old) none

/-- The spring boundary that a plan goes on from, or that the next one begins at (R30, R61, R64). -/
def State.beginSpring (s : State) (old : Plan) (lowest : Option Nat) (ended : Nat) : State :=
  let next := if s.tide.stagedCaptured then s.tide.staged else none
  let runs := s.tide.famStarted
  let s := match next with
    | none => s
    | some q => s.takeStaged.putPlan (some q)
  let fams := (next.getD old).active
  let s := (fams.foldl (fun (s : State) f => s.countTide f 1) s).swapAllGroups
  let s := match next with
    | none => s
    | some q => s.swapWork (some old) (some q)
  let s := fams.foldl (fun (s : State) f => s.announceTide f) s.dropInactive
  match s.lowestFamily with
  | none => s
  | some f => s.lowestTide (!lowest.any (hasBit runs) && !hasBit runs f) ended

/-- SPRING_BOUNDARY: a spring tide ends, and with it the last tide of every active family; the next begins (R30, R32, R43, R61, R64, R575). DESIGN
CHOICE: SPRING_COUNT counts the boundary at which the plan ends for sleep too, though no spring tide begins there: it counts spring boundaries. -/
def execSpringBoundary (s : State) : Result :=
  .next <| match s.tide.livePlan with
    | none => s
    | some p =>
      if !p.active.all (fun f => s.tide.begun.getD f 0 == (p.family f).n) then s
      else
        let lowest := s.lowestFamily
        let ended := s.logTide
        let s := (p.active.filter s.famRuns).foldl (fun (s : State) f => s.endTide f (s.famTide f)) s
        let start := s.springEnd
        let s := ({ s.countSpring with tide := { s.countSpring.tide with springStart := start } }).owe (.pulse 10)
        if s.power.planEnds && !s.tide.stagedCaptured then s.endPlan p else s.beginSpring p lowest ended

/-- Boundaries of family f in the first d + 1 ns of a spring tide of a plan (R30). -/
def Plan.boundariesBy (p : Plan) (f d : Nat) : Nat := ceilDiv ((d + 1) * (p.family f).n) p.period

/-- The boundary of family f that is the last in the first d + 1 ns of a spring tide, ns from its start (R30). -/
def Plan.lastBoundary (p : Plan) (f d : Nat) : Nat := (p.boundariesBy f d - 1) * p.period / (p.family f).n

/-- PLAN_FIRST_BOUNDARY: with no plan live, the staged plan goes live at a boundary of its family f on its own grid (R61): capture and swap fall
in that cycle, and every family with a boundary there starts. -/
def execPlanFirstBoundary (f : Fin 4) (s : State) : Result :=
  .next <| match s.tide.staged with
    | none => s
    | some p =>
      if s.planLive ∨ s.planState ≠ 3 ∨ (p.family f).n = 0 then s
      else
        let now := s.now
        let d := ((now : Int) - p.phase) % p.period |>.toNat
        let here := p.active.filter fun g => p.lastBoundary g d == p.lastBoundary f d
        let s := s.takeStaged.putPlan (some p)
        let s := { s with tide := { s.tide with springStart := (now : Int) - d, famStarted := 0 } }
        let s := p.active.foldl (fun (s : State) g => s.putBegun g (p.boundariesBy g d)) s.countSpring
        let s := here.foldl (fun (s : State) g => s.countTide g (p.boundariesBy g d)) s
        let s := ((s.captureGroup p.group).swapGroup p.group (s.get tidePage Tidemark.SPRING_COUNT_COUNT)).dropInactive
        let s := here.foldl (fun (s : State) g => s.announceTide g) (s.swapWork none (some p))
        let s := if p.lastBoundary f d = 0 then s.owe (.pulse 10) else s
        if here.head? = s.lowestFamily then s.lowestTide true 0 else s

/-! ## Draining (R66) -/

/-- A half's memory has nothing left to do for frames: no frame, no request, no job entry in use. -/
def State.memoryEmpty (s : State) (h : Nat) : Bool :=
  let x := s.harb h
  x.asks.isEmpty && x.reqs.isEmpty && x.used == 0 && !s.frames.any (fun f => f.half == h)

/-- Has domain d nothing left to do for frames started before the swap (R66): Coves and stores; the memory of a half with its channels; the
Drift; the CSI-2 transmit ports; host ports; the MACs and the bridge; Inlets? -/
def State.domainEmpty (s : State) (d : Nat) : Bool :=
  if d < 32 then
    let x := s.cove (d % 16)
    x.store.isEmpty && x.slices.isEmpty && x.unit.isNone && x.ops.isEmpty && !s.frames.any fun f => f.parts.any fun p => p.cove == d % 16
  else if d = 42 then [0, 1].all fun m => !s.txBusy m
  else if 44 ≤ d ∧ d < 52 then s.memoryEmpty ((d - 44) / 4)
  else if d = 52 ∨ d = 53 then s.memoryEmpty (d - 52)
  else if d = 54 ∨ d = 55 then !s.frames.any (fun f => f.half == d - 54) && s.channels.all fun (e : Nat × ChannelSt) => e.1 / 512 != d - 54 || !e.2.holdsWork
  else if d = 60 ∨ d = 61 then (s.pc (d - 60)).np.isEmpty
  else if d = 62 ∨ d = 63 then (s.mac (d - 62)).queues.all (·.isEmpty)
  else if d = 64 then !s.bridgeBusy
  else if 71 ≤ d ∧ d < 81 then (List.range 16).all fun k => s.streamState (16 * (d - 71) + k) != 1
  else true

/-- DOMAIN_DRAINED: domain d, which the live plan no longer uses, is empty (R66): its power-off is requested at the next boundary of the lowest
family, or at once with no plan live. -/
def execDomainDrained (d : Fin 96) (s : State) : Result :=
  let t := s.tide
  .next <| if !t.draining.contains d.val || !s.domainEmpty d then s
    else if s.planLive then { s with tide := { t with drained := d.val :: t.drained.filter (· != d.val) } }
    else ({ s with tide := { t with draining := t.draining.filter (· != d.val), drained := t.drained.filter (· != d.val) } }).pumpPower

/-! ## The clock -/

/-- One core cycle with no command: C counts and RES slews (R395, R403); checkers count the bits they compare (R109); the windows of 1 ms that
judge header and PHY errors move on (R152, R170), and so does the second that judges corrections (R288); a fill goes on (R286); sensor sequences whose delay is over go on (R573). -/
def State.idleCycle (s : State) : State :=
  if s.power.asleep then s.sleepTick else
  let s := (List.range 32).foldl (fun (s : State) n => s.prbsTick n) s.tick
  let s := (s.fillTick 0).fillTick 1
  let s := (s.judgeCorrections 0).judgeCorrections 1
  let s := (s.ports.filter fun (e : Nat × PortSt) => !e.2.badHeaders.isEmpty).foldl (fun (s : State) e => s.judgeHeaders e.1) s
  let s := (s.csiRx.filter fun (e : Nat × CsiRxSt) => !e.2.errors.isEmpty).foldl (fun (s : State) e => s.judgePhy e.1) s
  (s.windows.filter fun (e : Nat × JettySt) => !e.2.sensors.isEmpty).foldl (fun (s : State) e => s.stepSensors e.1) s

/-! ## The queue of commands -/

/-- The state with its front command taken off. -/
def State.popCommand (s : State) : State := { s with pending := s.pending.tail }

end Sys2Proof.Machine
end

