-- ==== Sys2Proof/Machine/Dispatch.lean ====
section
/-!
DEFINITION. Sys2Proof/Machine/Dispatch.lean: the meaning of each command, one arm per constructor, in the order of Syntax.lean.
-/
namespace Sys2Proof.Machine

def exec (i : Instr) (s : State) : Host.Outcome State Fault Refusal :=
  match i with
  | .regWrite req off k v => Sys2Proof.Machine.execRegWrite req off k v s
  | .multiwordCaptureRead req off k header => Sys2Proof.Machine.execMultiwordCaptureRead req off k header s
  | .accessError req off k write => Sys2Proof.Machine.execAccessError req off k write s
  | .commitArm req pg w => Sys2Proof.Machine.execCommitArm req pg w s
  | .commitDisarm req pg w => Sys2Proof.Machine.execCommitDisarm req pg w s
  | .groupArm req g w => Sys2Proof.Machine.execGroupArm req g w s
  | .groupDisarm req g w => Sys2Proof.Machine.execGroupDisarm req g w s
  | .noplanCommitApply g => Sys2Proof.Machine.execNoplanCommitApply g s
  | .tideBoundary f => Sys2Proof.Machine.execTideBoundary f s
  | .planFirstBoundary f => Sys2Proof.Machine.execPlanFirstBoundary f s
  | .slackOpen f corr bad => Sys2Proof.Machine.execSlackOpen f corr bad s
  | .domainDrained d => Sys2Proof.Machine.execDomainDrained d s
  | .instanceEnable req pg w => Sys2Proof.Machine.execInstanceEnable req pg w s
  | .blockResetReq req pg w => Sys2Proof.Machine.execBlockResetReq req pg w s
  | .blockResetDone pg => Sys2Proof.Machine.execBlockResetDone pg s
  | .faultAck req pg w => Sys2Proof.Machine.execFaultAck req pg w s
  | .laneRxConverged n x => Sys2Proof.Machine.execLaneRxConverged n x s
  | .adaptStep n step intrude => Sys2Proof.Machine.execAdaptStep n step intrude s
  | .adaptStarved n => Sys2Proof.Machine.execAdaptStarved n s
  | .rxFreeze req n w => Sys2Proof.Machine.execRxFreeze req n w s
  | .manualCoefApply n => Sys2Proof.Machine.execManualCoefApply n s
  | .rxSnrLow n w => Sys2Proof.Machine.execRxSnrLow n w s
  | .farOpening n x => Sys2Proof.Machine.execFarOpening n x s
  | .bcAmpSample n mv => Sys2Proof.Machine.execBcAmpSample n mv s
  | .lmScan n code feedCode => Sys2Proof.Machine.execLmScan n code feedCode s
  | .lmRelease req n => Sys2Proof.Machine.execLmRelease req n s
  | .prbsGenEnable req n w => Sys2Proof.Machine.execPrbsGenEnable req n w s
  | .prbsInject req n w => Sys2Proof.Machine.execPrbsInject req n w s
  | .prbsInjDone n => Sys2Proof.Machine.execPrbsInjDone n s
  | .prbsChkEnable req n w => Sys2Proof.Machine.execPrbsChkEnable req n w s
  | .prbsLock n => Sys2Proof.Machine.execPrbsLock n s
  | .prbsLost n errs => Sys2Proof.Machine.execPrbsLost n errs s
  | .codewordDecoded n word => Sys2Proof.Machine.execCodewordDecoded n word s
  | .markerReceived n sync b spaced => Sys2Proof.Machine.execMarkerReceived n sync b spaced s
  | .markerMissed n => Sys2Proof.Machine.execMarkerMissed n s
  | .dropoutTimeout n => Sys2Proof.Machine.execDropoutTimeout n s
  | .fecWindow n fwdUp bcUp => Sys2Proof.Machine.execFecWindow n fwdUp bcUp s
  | .fwdPacketReceived n p => Sys2Proof.Machine.execFwdPacketReceived n p s
  | .capReceived n => Sys2Proof.Machine.execCapReceived n s
  | .probeReply n => Sys2Proof.Machine.execProbeReply n s
  | .eqAck n => Sys2Proof.Machine.execEqAck n s
  | .bcMessageSend n at_ => Sys2Proof.Machine.execBcMessageSend n at_ s
  | .fsyncDepart n => Sys2Proof.Machine.execFsyncDepart n s
  | .trainStartResend n => Sys2Proof.Machine.execTrainStartResend n s
  | .signalDetected n => Sys2Proof.Machine.execSignalDetected n s
  | .txeqTrialMeasured n x => Sys2Proof.Machine.execTxeqTrialMeasured n x s
  | .probeSend n => Sys2Proof.Machine.execProbeSend n s
  | .probeTimeout n => Sys2Proof.Machine.execProbeTimeout n s
  | .verifyPass n => Sys2Proof.Machine.execVerifyPass n s
  | .trainPhaseTimeout n => Sys2Proof.Machine.execTrainPhaseTimeout n s
  | .trainRetry n => Sys2Proof.Machine.execTrainRetry n s
  | .linkRetrain req n w => Sys2Proof.Machine.execLinkRetrain req n w s
  | .testStart req n w => Sys2Proof.Machine.execTestStart req n w s
  | .testStop req n w => Sys2Proof.Machine.execTestStop req n w s
  | .testResend n => Sys2Proof.Machine.execTestResend n s
  | .deskewReceived n => Sys2Proof.Machine.execDeskewReceived n s
  | .csiRxBurst n sync aligned b start stop => Sys2Proof.Machine.execCsiRxBurst n sync aligned b start stop s
  | .clkLoss n b start stop => Sys2Proof.Machine.execClkLoss n b start stop s
  | .ulpsTransition n lane enter => Sys2Proof.Machine.execUlpsTransition n lane enter s
  | .txUnitReceived m k h begun u => Sys2Proof.Machine.execTxUnitReceived m k h begun u s
  | .txLineSlot m k seq item => Sys2Proof.Machine.execTxLineSlot m k seq item s
  | .txHoldMargin m k seq idx => Sys2Proof.Machine.execTxHoldMargin m k seq idx s
  | .txPacketSent m => Sys2Proof.Machine.execTxPacketSent m s
  | .lfsEdge idx => Sys2Proof.Machine.execLfsEdge idx s
  | .lfsPulseEnd idx => Sys2Proof.Machine.execLfsPulseEnd idx s
  | .lfsReadback idx level => Sys2Proof.Machine.execLfsReadback idx level s
  | .trigEdge n falling back => Sys2Proof.Machine.execTrigEdge n falling back s
  | .trigPop req n => Sys2Proof.Machine.execTrigPop req n s
  | .frameStart n => Sys2Proof.Machine.execFrameStart n s
  | .pixelPacket n => Sys2Proof.Machine.execPixelPacket n s
  | .embeddedPacket n => Sys2Proof.Machine.execEmbeddedPacket n s
  | .frameEnd n => Sys2Proof.Machine.execFrameEnd n s
  | .lineTimeout x => Sys2Proof.Machine.execLineTimeout x s
  | .gapMark n => Sys2Proof.Machine.execGapMark n s
  | .syncDecision f => Sys2Proof.Machine.execSyncDecision f s
  | .tableReadDone n => Sys2Proof.Machine.execTableReadDone n s
  | .coveUnitStart n => Sys2Proof.Machine.execCoveUnitStart n s
  | .coveUnitEnd n => Sys2Proof.Machine.execCoveUnitEnd n s
  | .statBlockWritten n => Sys2Proof.Machine.execStatBlockWritten n s
  | .frameRecordIssue n => Sys2Proof.Machine.execFrameRecordIssue n s
  | .channelTrained h c gib => Sys2Proof.Machine.execChannelTrained h c gib s
  | .eccFillStart req h => Sys2Proof.Machine.execEccFillStart req h s
  | .eccFillDone h => Sys2Proof.Machine.execEccFillDone h s
  | .refresh h x => Sys2Proof.Machine.execRefresh h x s
  | .refreshRatePoll h c mult wrCorr => Sys2Proof.Machine.execRefreshRatePoll h c mult wrCorr s
  | .patrolScrub h r0 r1 r2 r3 => Sys2Proof.Machine.execPatrolScrub h r0 r1 r2 r3 s
  | .creditRefill h => Sys2Proof.Machine.execCreditRefill h s
  | .classOverCheck h => Sys2Proof.Machine.execClassOverCheck h s
  | .memRequest h idx walk => Sys2Proof.Machine.execMemRequest h idx walk s
  | .schedDecision h c x => Sys2Proof.Machine.execSchedDecision h c x s
  | .memRequestDone h id ecc linkCorr => Sys2Proof.Machine.execMemRequestDone h id ecc linkCorr s
  | .jobDispatch n c => Sys2Proof.Machine.execJobDispatch n c s
  | .jobTimeout e => Sys2Proof.Machine.execJobTimeout e s
  | .bulkStarved h => Sys2Proof.Machine.execBulkStarved h s
  | .trInvalidate req h all => Sys2Proof.Machine.execTrInvalidate req h all s
  | .invDone h => Sys2Proof.Machine.execInvDone h s
  | .driftAdd req c w => Sys2Proof.Machine.execDriftAdd req c w s
  | .driftSetNext req c high w => Sys2Proof.Machine.execDriftSetNext req c high w s
  | .descFetched c desc src dst old => Sys2Proof.Machine.execDescFetched c desc src dst old s
  | .driftTrigger c => Sys2Proof.Machine.execDriftTrigger c s
  | .driftTrig req c w => Sys2Proof.Machine.execDriftTrig req c w s
  | .driftPause req c w => Sys2Proof.Machine.execDriftPause req c w s
  | .driftResume req c w => Sys2Proof.Machine.execDriftResume req c w s
  | .driftAbort req c w => Sys2Proof.Machine.execDriftAbort req c w s
  | .driftAbortDone c => Sys2Proof.Machine.execDriftAbortDone c s
  | .driftBurstGrant h x => Sys2Proof.Machine.execDriftBurstGrant h x s
  | .driftBurstDone c id => Sys2Proof.Machine.execDriftBurstDone c id s
  | .driftFrameUnit c => Sys2Proof.Machine.execDriftFrameUnit c s
  | .perstAssert n => Sys2Proof.Machine.execPerstAssert n s
  | .perstDeassert n => Sys2Proof.Machine.execPerstDeassert n s
  | .pcieLinkDown n hotReset => Sys2Proof.Machine.execPcieLinkDown n hotReset s
  | .configRequest n item value => Sys2Proof.Machine.execConfigRequest n item value s
  | .apertureAccess n off size write poisoned hdr01 hdr23 => Sys2Proof.Machine.execApertureAccess n off size write poisoned hdr01 hdr23 s
  | .msixTableWrite n off w => Sys2Proof.Machine.execMsixTableWrite n off w s
  | .pcieCompletion n tag st x => Sys2Proof.Machine.execPcieCompletion n tag st x s
  | .completionTimeout n tag => Sys2Proof.Machine.execCompletionTimeout n tag s
  | .msixFire n src => Sys2Proof.Machine.execMsixFire n src s
  | .aspmL1Entry n => Sys2Proof.Machine.execAspmL1Entry n s
  | .controllerTakeover h => Sys2Proof.Machine.execControllerTakeover h s
  | .windowRead req n off size upper header => Sys2Proof.Machine.execWindowRead req n off size upper header s
  | .windowWrite req n word lo hi => Sys2Proof.Machine.execWindowWrite req n word lo hi s
  | .txnReplyReceived n => Sys2Proof.Machine.execTxnReplyReceived n s
  | .jettyBudgetTimeout n idx sdaLow => Sys2Proof.Machine.execJettyBudgetTimeout n idx sdaLow s
  | .jettyBusyRetry n idx => Sys2Proof.Machine.execJettyBusyRetry n idx s
  | .jettyLateExpire n idx => Sys2Proof.Machine.execJettyLateExpire n idx s
  | .txqGo req n w => Sys2Proof.Machine.execTxqGo req n w s
  | .mirrorCycleStart n => Sys2Proof.Machine.execMirrorCycleStart n s
  | .mirrorCycleEnd n => Sys2Proof.Machine.execMirrorCycleEnd n s
  | .mirrorValueWrite req n m w => Sys2Proof.Machine.execMirrorValueWrite req n m w s
  | .sintEdge n level back => Sys2Proof.Machine.execSintEdge n level back s
  | .ibiReceived n addr payload => Sys2Proof.Machine.execIbiReceived n addr payload s
  | .evqPop req n => Sys2Proof.Machine.execEvqPop req n s
  | .pollSend n => Sys2Proof.Machine.execPollSend n s
  | .pollReply n => Sys2Proof.Machine.execPollReply n s
  | .localTxnDone n status count data => Sys2Proof.Machine.execLocalTxnDone n status count data s
  | .localBusTimeout n sdaLow => Sys2Proof.Machine.execLocalBusTimeout n sdaLow s
  | .localBusRecovery n sdaLow => Sys2Proof.Machine.execLocalBusRecovery n sdaLow s
  | .domainEnable req x w => Sys2Proof.Machine.execDomainEnable req x w s
  | .domainOffsetWrite req x w => Sys2Proof.Machine.execDomainOffsetWrite req x w s
  | .servoSample req x => Sys2Proof.Machine.execServoSample req x s
  | .domainSampleTimeout x => Sys2Proof.Machine.execDomainSampleTimeout x s
  | .tmSelWrite req w => Sys2Proof.Machine.execTmSelWrite req w s
  | .presetWrite req w => Sys2Proof.Machine.execPresetWrite req w s
  | .ethFrameRx m b fcsOk c => Sys2Proof.Machine.execEthFrameRx m b fcsOk c s
  | .ethFrameTx m c => Sys2Proof.Machine.execEthFrameTx m c s
  | .tsPop req m tx => Sys2Proof.Machine.execTsPop req m tx s
  | .fdbWrite req w => Sys2Proof.Machine.execFdbWrite req w s
  | .fdbRead req w => Sys2Proof.Machine.execFdbRead req w s
  | .fdbAgeOut idx => Sys2Proof.Machine.execFdbAgeOut idx s
  | .gclChange req m w => Sys2Proof.Machine.execGclChange req m w s
  | .gclCycleStart m => Sys2Proof.Machine.execGclCycleStart m s
  | .gclEntryAdvance m => Sys2Proof.Machine.execGclEntryAdvance m s
  | .mgTxGo req w => Sys2Proof.Machine.execMgTxGo req w s
  | .mgRxPop req => Sys2Proof.Machine.execMgRxPop req s
  | .mgRxDataRead req => Sys2Proof.Machine.execMgRxDataRead req s
  | .streamUnit k h begun format u => Sys2Proof.Machine.execStreamUnit k h begun format u s
  | .streamFrameSend k => Sys2Proof.Machine.execStreamFrameSend k s
  | .soundingConfigWrite req u w => Sys2Proof.Machine.execSoundingConfigWrite req u w s
  | .soundingArm req u => Sys2Proof.Machine.execSoundingArm req u s
  | .heartbeatWireEdge h => Sys2Proof.Machine.execHeartbeatWireEdge h s
  | .heartbeatMailbox h index count => Sys2Proof.Machine.execHeartbeatMailbox h index count s
  | .halfDegraded h wire => Sys2Proof.Machine.execHalfDegraded h wire s
  | .heartbeatFailure h => Sys2Proof.Machine.execHeartbeatFailure h s
  | .halfFailure h => Sys2Proof.Machine.execHalfFailure h s
  | .dualActEnd x => Sys2Proof.Machine.execDualActEnd x s
  | .bistSliceDone h good => Sys2Proof.Machine.execBistSliceDone h good s
  | .halfRepair req h w => Sys2Proof.Machine.execHalfRepair req h w s
  | .repairDone h => Sys2Proof.Machine.execRepairDone h s
  | .switchRequest req w => Sys2Proof.Machine.execSwitchRequest req w s
  | .faultOccurrence src => Sys2Proof.Machine.execFaultOccurrence src s
  | .quietWindowClose pg => Sys2Proof.Machine.execQuietWindowClose pg s
  | .bwLock req w => Sys2Proof.Machine.execBwLock req w s
  | .faultInject req w => Sys2Proof.Machine.execFaultInject req w s
  | .errNRelease high => Sys2Proof.Machine.execErrNRelease high s
  | .beaconFiring n => Sys2Proof.Machine.execBeaconFiring n s
  | .beaconLevelFall n => Sys2Proof.Machine.execBeaconLevelFall n s
  | .beaconEoi req k w => Sys2Proof.Machine.execBeaconEoi req k w s
  | .beaconSet req idx w => Sys2Proof.Machine.execBeaconSet req idx w s
  | .beaconClr req idx w => Sys2Proof.Machine.execBeaconClr req idx w s
  | .beaconWatchdog n => Sys2Proof.Machine.execBeaconWatchdog n s
  | .lockstepMismatch k => Sys2Proof.Machine.execLockstepMismatch k s
  | .pairRebootDone k => Sys2Proof.Machine.execPairRebootDone k s
  | .coreWatchdog k => Sys2Proof.Machine.execCoreWatchdog k s
  | .cmdDoorbell k req w => Sys2Proof.Machine.execCmdDoorbell k req w s
  | .cplHeadWrite k req w => Sys2Proof.Machine.execCplHeadWrite k req w s
  | .fwStepBoundary k ns v => Sys2Proof.Machine.execFwStepBoundary k ns v s
  | .nop idx => Sys2Proof.Machine.execNop idx s
  | .planSubmit idx v => Sys2Proof.Machine.execPlanSubmit idx v s
  | .planWithdraw idx => Sys2Proof.Machine.execPlanWithdraw idx s
  | .tableLoad idx v => Sys2Proof.Machine.execTableLoad idx v s
  | .defectLearn idx v => Sys2Proof.Machine.execDefectLearn idx v s
  | .scrubHalf idx v => Sys2Proof.Machine.execScrubHalf idx v s
  | .checkBuffer idx v => Sys2Proof.Machine.execCheckBuffer idx v s
  | .loopCtrl idx v => Sys2Proof.Machine.execLoopCtrl idx v s
  | .linkPolicy idx => Sys2Proof.Machine.execLinkPolicy idx s
  | .failoverPolicy idx => Sys2Proof.Machine.execFailoverPolicy idx s
  | .cancel idx v => Sys2Proof.Machine.execCancel idx v s
  | .loopUpdate x kind v => Sys2Proof.Machine.execLoopUpdate x kind v s
  | .linkPolicyRestore n => Sys2Proof.Machine.execLinkPolicyRestore n s
  | .autoRepair h => Sys2Proof.Machine.execAutoRepair h s
  | .porRelease orderBad testMode fuseBad => Sys2Proof.Machine.execPorRelease orderBad testMode fuseBad s
  | .supplyLoss r => Sys2Proof.Machine.execSupplyLoss r s
  | .avsUpdate need => Sys2Proof.Machine.execAvsUpdate need s
  | .avsCommandDone ok => Sys2Proof.Machine.execAvsCommandDone ok s
  | .powerReq req t w => Sys2Proof.Machine.execPowerReq req t w s
  | .domainPowerAck d calBad => Sys2Proof.Machine.execDomainPowerAck d calBad s
  | .domainAckTimeout d => Sys2Proof.Machine.execDomainAckTimeout d s
  | .domainDrop d => Sys2Proof.Machine.execDomainDrop d s
  | .refCheck ok => Sys2Proof.Machine.execRefCheck ok s
  | .pllUnlock idx => Sys2Proof.Machine.execPllUnlock idx s
  | .softResetArm req => Sys2Proof.Machine.execSoftResetArm req s
  | .softResetGo req => Sys2Proof.Machine.execSoftResetGo req s
  | .chipReset fuseBad => Sys2Proof.Machine.execChipReset fuseBad s
  | .bootStart head certOk sigOk => Sys2Proof.Machine.execBootStart head certOk sigOk s
  | .bootSegment body hashOk => Sys2Proof.Machine.execBootSegment body hashOk s
  | .bootFail flash => Sys2Proof.Machine.execBootFail flash s
  | .sleepGo req w => Sys2Proof.Machine.execSleepGo req w s
  | .wake timer bad beaconBad => Sys2Proof.Machine.execWake timer bad beaconBad s
  | .tempSample t => Sys2Proof.Machine.execTempSample t s
  | .gpioCfgWrite req idx w => Sys2Proof.Machine.execGpioCfgWrite req idx w s
  | .gpioReadback idx level past => Sys2Proof.Machine.execGpioReadback idx level past s
  | .tapInstruction x => Sys2Proof.Machine.execTapInstruction x s
  | .copyMismatch u failing => Sys2Proof.Machine.execCopyMismatch u failing s
  | .ltssmTransition n ltssm width speed x => Sys2Proof.Machine.execLtssmTransition n ltssm width speed x s
  | .macLinkChange m lock remoteFault fecLock => Sys2Proof.Machine.execMacLinkChange m lock remoteFault fecLock s
  | .csiClkReturn n => Sys2Proof.Machine.execCsiClkReturn n s
  | .pllRelock idx => Sys2Proof.Machine.execPllRelock idx s
  | .springBoundary => Sys2Proof.Machine.execSpringBoundary s
  | .planStaged => Sys2Proof.Machine.execPlanStaged s
  | .domainFailover => Sys2Proof.Machine.execDomainFailover s
  | .domainRevert => Sys2Proof.Machine.execDomainRevert s
  | .slewDone => Sys2Proof.Machine.execSlewDone s
  | .healthReportTimer => Sys2Proof.Machine.execHealthReportTimer s
  | .switchApply => Sys2Proof.Machine.execSwitchApply s
  | .errTogToggle => Sys2Proof.Machine.execErrTogToggle s
  | .togReadback => Sys2Proof.Machine.execTogReadback s
  | .beaconDeliver => Sys2Proof.Machine.execBeaconDeliver s
  | .cplFullTimeout => Sys2Proof.Machine.execCplFullTimeout s
  | .stepReport => Sys2Proof.Machine.execStepReport s
  | .refRange => Sys2Proof.Machine.execRefRange s
  | .pcieRefLost => Sys2Proof.Machine.execPcieRefLost s
  | .pinReset => Sys2Proof.Machine.execPinReset s
  | .resetNRise => Sys2Proof.Machine.execResetNRise s
  | .bootDone => Sys2Proof.Machine.execBootDone s
  | .sleepDrained => Sys2Proof.Machine.execSleepDrained s
  | .sleepAbort => Sys2Proof.Machine.execSleepAbort s
  | .errnStuck => Sys2Proof.Machine.execErrnStuck s
  | .tapReset => Sys2Proof.Machine.execTapReset s
  | .pcieRefReturn => Sys2Proof.Machine.execPcieRefReturn s

end Sys2Proof.Machine
end

