-- ==== Sys2Proof/Safety.lean ====
section
/-!
DEFINITION. Sys2Proof/Safety.lean: what must hold in every state of a run, in the terms that claims use.
-/
namespace Sys2Proof.Machine

/-- Registers and both halves' memories are in their canonical form, so that equal contents are equal data. -/
def State.canonical (s : State) : Bool := SMap.wf resetField s.regs && Memory.wf (s.harb 0).mem && Memory.wf (s.harb 1).mem

/-- Every field of the registers holds a value that fits it, where one is listed at the field's place (R8). -/
def State.fits (s : State) (pg : Nat) (f : Field) : Bool := decide (s.get pg f < f.size)

/-- Command `i` completes in state s: the machine answers it with a next state, and that state has what `P` says. -/
def Completes (i : Instr) (s : State) (P : State → Prop) : Prop := ∃ t, exec i s = .next t ∧ P t

/-- A register write of a requester at window offset `off` reaches its unit: the requester reaches the window (R69), no terminal latch (R487),
not the fast-status page (R87), and not a logged access (R85). -/
def State.serves (s : State) (req : Requester) (off : Nat) : Bool := s.takesWrite req off && (s.accessCause true off 4).isNone

/-- A register read of a requester at window offset `off` reaches its unit (R69, R85). -/
def State.servesRead (s : State) (req : Requester) (off : Nat) : Bool := s.reaches req && (s.accessCause false off 4).isNone

/-- Every place of the register window outside `ks` holds what it held: shadow, live value and status alike. -/
def OnlyRegs (s t : State) (ks : List Nat) : Prop :=
  ∀ k, k ∉ ks → SMap.get resetField t.regs k = SMap.get resetField s.regs k

/-- Every byte of both local memories reads as before. -/
def SameMemory (s t : State) : Prop := ∀ h pa, t.memByte h pa = s.memByte h pa

/-- Every fault condition, acknowledgement and severity mark is as before, and nothing new is due in another unit. -/
def SameFaults (s t : State) : Prop := t.flt = s.flt ∧ t.due = s.due

/-- Event bit b of a page is 1. -/
def State.eventBit (s : State) (pg b : Nat) : Bool := hasBit (s.get pg Hdr.EVT_STAT_EVENT) b

/-- The modes from `lo` to `hi` that the camera of lane n declares, the highest of them: the one that an attempt takes (R134). -/
def State.highestMode (s : State) (n lo hi : Nat) : Option Nat :=
  ((List.range (hi + 1)).reverse).find? fun k => decide (lo ≤ k) && (s.lane n).modes.all (fun mask => hasBit mask k)

/-- The mode that a fresh training of lane n tries first (R89, R134). -/
def State.firstMode (s : State) (n : Nat) : Option Nat :=
  s.highestMode n (s.get (wePage n) Weatas.LANE_CFG_MODE_MIN) (s.get (wePage n) Weatas.LANE_CFG_MODE_MAX)

/-- The mode that follows a failed attempt of lane n (R134). -/
def State.lowerMode (s : State) (n : Nat) : Option Nat :=
  if s.laneMode n = 0 then none else s.highestMode n (s.lane n).modeMin (s.laneMode n - 1)

/-- In t, lane n waits for a signal in mode m with a new epoch; with no mode to try, its link has failed (R133, R134, R137). -/
def Attempts (s t : State) (n : Nat) (m : Option Nat) : Prop :=
  (∀ k, m = some k → t.linkState n = 2 ∧ t.laneMode n = k % 4 ∧ t.rxState n = 2 ∧
    t.get (wePage n) Weatas.LINK_STAT_EPOCH = (s.get (wePage n) Weatas.LINK_STAT_EPOCH + 1) % 256) ∧
  (m = none → t.linkState n = 11)

/-- No commit group is captured and waits for a swap, and no drained domain waits for its power-off. -/
def State.calm (s : State) : Prop :=
  (∀ g < 64, s.grpFlag Tidemark.GRP_STAT_CAPTURED g = false) ∧ s.tide.drained = [] ∧ s.tide.begun.length = 4

/-- Bytes are the completion record of entry e with a status; where they are given, with its results and its detail (R536). -/
def IsRecord (b : List Byte) (e : RingEntry) (st : Nat) (r0 r1 detail : Option Nat) : Prop :=
  fieldLE b 0 1 = e.count % 256 ∧ fieldLE b 1 1 = e.num 3 1 ∧ fieldLE b 2 2 = st % 2 ^ 16 ∧ (∀ v ∈ r0, fieldLE b 4 4 = v % 2 ^ 32) ∧
  (∀ v ∈ r1, fieldLE b 8 4 = v % 2 ^ 32) ∧ ∀ v ∈ detail, fieldLE b 12 2 = v % 2 ^ 16

/-- The command of entry e, which processor k has run, ends with a status, and with results and detail where they are given (R533, R536): its completion
waits last where the completion ring is full; where there is room and none waits, its record is written, in untranslated local memory at the ring's tail, the
tail moves on, and the entry is free. -/
def EntryEnds (s t : State) (k : Nat) (e : RingEntry) (st : Nat) (r0 : Option Nat := none) (r1 : Option Nat := none) (detail : Option Nat := none) :
    Prop :=
  let tail := s.get ringPage Lp.CPL_TAIL_COUNT
  (s.cplFull = true → t.cores.waiting.take s.cores.waiting.length = s.cores.waiting ∧
    t.cores.waiting.length = s.cores.waiting.length + 1 ∧
    ∀ c ∈ t.cores.waiting.drop s.cores.waiting.length, c.count = e.count ∧ IsRecord (c.record tail) e st r0 r1 detail) ∧
  (s.cplFull = false → s.cores.waiting = [] → t.cores.waiting = [] ∧ (∀ x ∈ t.cores.entries, x.count ≠ e.count) ∧
    t.get ringPage Lp.CPL_TAIL_COUNT = (tail + 1) % 65536 ∧
    (s.liveFlag (hbPage (k / 2) 7) Harbour.TR_ROOT_LO_EN = false → s.cplBase + 4096 ≤ s.memCapacity (k / 2) → s.memCapacity (k / 2) ≤ 2 ^ 52 →
      IsRecord (t.memRead (k / 2) (s.cplBase + 16 * (tail % 256)) 16) e st r0 r1 detail ∧
      fieldLE (t.memRead (k / 2) (s.cplBase + 16 * (tail % 256)) 16) 15 1 = tail / 256 % 2))

/-- The place of the next completion record in memory does not meet an address, or nothing is written there (R536). -/
def State.besideRecord (s : State) (pa : Nat) : Prop :=
  s.cplFull = true ∨ pa < s.cplBase + 16 * (s.get ringPage Lp.CPL_TAIL_COUNT % 256) ∨
    s.cplBase + 16 * (s.get ringPage Lp.CPL_TAIL_COUNT % 256) + 16 ≤ pa

/-- The command of entry e, whose opcode is `op`, is the next to start, on processor k (R537). -/
def State.startsNext (s : State) (i op : Nat) (k : Nat) (e : RingEntry) : Prop :=
  s.serving = some k ∧ s.nextStart = some e ∧ e.index = i ∧ e.opcode = op

/-- Addresses of half h translate to themselves: its translation is off (R291). -/
def State.flatMemory (s : State) (h : Nat) : Prop := s.liveFlag (hbPage h 7) Harbour.TR_ROOT_LO_EN = false

/-- The message that asks a camera for the transaction of slot i (R129). -/
def txnMessage (i : Nat) (x : JettySlot) : BcMessage :=
  ⟨6, [BitVec.ofNat 8 i, BitVec.ofNat 8 (x.gen * 16 + x.txn.bus * 8 + x.txn.op), BitVec.ofNat 8 x.txn.target,
    BitVec.ofNat 8 x.txn.wr.length, BitVec.ofNat 8 x.txn.rd, 0] ++ x.txn.wr⟩

/-- No mirror entry of window n waits for a slot (R387). -/
def State.mirrorRests (s : State) (n : Nat) : Bool := (s.window n).cycle.all (·.2.isEmpty)

/-- The transaction of slot i of window n has ended with a cause, from s to t (R378, R379, R385, R386, R388): the slot is free with its next generation;
the end is counted, and a failure recorded if it is the first; a held read of this one word has its answer, the raw buffer its status, a mirror read its
value. -/
def TxnEnds (s t : State) (n i cause : Nat) (data : List Byte) : Prop :=
  ((t.window n).slot i).isOpen = false ∧ ((t.window n).slot i).gen = (((s.window n).slot i).gen + 1) % 16 ∧
  (cause = 0 → t.get (jtPage n) Jetty.JT_CNT_OK_COUNT = (s.get (jtPage n) Jetty.JT_CNT_OK_COUNT + 1) % 2 ^ 32 ∧
    t.get (jtPage n) Jetty.JT_CNT_ERR_COUNT = s.get (jtPage n) Jetty.JT_CNT_ERR_COUNT) ∧
  (cause ≠ 0 → t.get (jtPage n) Jetty.JT_CNT_ERR_COUNT = min (s.get (jtPage n) Jetty.JT_CNT_ERR_COUNT + 1) (2 ^ 32 - 1) ∧
    t.flag (jtPage n) Jetty.JT_ERR_INFO_VALID = true ∧
    (s.flag (jtPage n) Jetty.JT_ERR_INFO_VALID = false → t.get (jtPage n) Jetty.JT_ERR_INFO_CAUSE = cause)) ∧
  (∀ r, ((s.window n).slot i).requester ∉ [2, 3, 12] →
    (s.window n).reads.find? (fun r => r.words.any fun w => w.1 == i && w.2.isNone) = some r → r.words = [(i, none)] →
    (cause = 0 → r.failed = false → t.out = .readData r.req r.off
      ({ r with words := [(i, some (busValue ((s.window n).slot i).txn.order data))] } : HeldRead).wordsOut :: s.out) ∧
    (cause ≠ 0 → .readFail r.req r.off :: s.out <:+ t.out)) ∧
  (((s.window n).slot i).requester = 3 → t.flag (jtPage n) Jetty.TXQ_REQ_GO = false ∧ t.flag (jtPage n) Jetty.TXQ_STAT_DONE = true ∧
    t.get (jtPage n) Jetty.TXQ_STAT_CAUSE = cause ∧ t.eventBit (jtPage n) 2 = true) ∧
  (((s.window n).slot i).requester = 2 → ((s.window n).slot i).txn.op ≠ 0 → cause = 0 →
    t.get (jtPage n) (Jetty.MIR_VAL_VALUE.nth ((s.window n).slot i).word) =
      busValue ((s.window n).slot i).txn.order data % 2 ^ 32)

end Sys2Proof.Machine
end

