-- ==== Sys2Proof/Certificates/Slice0/Obligations.lean ====
section
/-!
DEFINITION. Sys2Proof/Certificates/Slice0/Obligations.lean: the statements for the provers. A command "completes" where the machine answers it
with a next state of the effect that the manual gives it; `OnlyRegs`, `SameMemory` and `SameFaults` say what it leaves alone. "Model's choices"
names the rows of notes/assumptions that a statement's clauses rest on besides the rules; rows 1, 4, 6, 7 and 10, on how the state shows the
queue, events that cannot occur, what is under way, what goes out, and registers, bear on every statement.
-/

open Sys2Proof Sys2Proof.Machine

/-! ## The queue, the reset state, and what every step keeps -/

/-- With a command waiting, one step is the front command's effect on the state with the queue's rest; with none, the block idles for one cycle.
Model's choices: notes/assumptions/1, 2. -/
def Obligations.StepRunsTheFrontCommand : Prop :=
  (∀ (c : Instr) (r : List Instr) (s : State), s.pending = c :: r → step s = exec c { s with pending := r }) ∧
  (∀ s : State, s.pending = [] → step s = .next s.idleCycle)

/-- Right after reset: nothing waits, nothing is due, no plan is live, registers and memories are canonical with nothing listed.
Model's choices: notes/assumptions/10, 11, 13, 70. -/
def Obligations.ResetHoldsNothingWritten : Prop :=
  State.reset.pending = [] ∧ State.reset.due = [] ∧ State.reset.out = [] ∧ State.reset.canonical = true ∧
  State.reset.planLive = false ∧ (∀ h pa, State.reset.memByte h pa = 0) ∧
  (∀ d : Fin 96, State.reset.get 0x3 (Chip.PD_CTRL_REQ.nth d) = bit (resetDomains.contains d.val)) ∧
  (∀ src : Fin 1536, State.reset.get (0x21 + src / 384) (Breakwater.SRC_CFG_SEV.nth (src % 384)) = defaultSev src)

/-- Every step keeps the registers and both memories in canonical form: places strictly rising, none at its reset value, so that equal contents
are equal data.
Model's choices: notes/assumptions/10, 13. -/
def Obligations.EveryStepKeepsTheCanonicalForm : Prop :=
  ∀ s t : State, s.canonical = true → step s = .next t → t.canonical = true

/-- Every command completes in every state, and commands run first in first out: a step answers a next state, takes exactly the front command off
the queue, puts none in, and reorders none, whatever the command does (a loss of supply or a chip reset too).
Model's choices: notes/assumptions/1. -/
def Obligations.EveryStepTakesOneCommandOffTheQueue : Prop :=
  ∀ s : State, ∃ t, step s = .next t ∧ t.pending = s.pending.tail

/-! ## The register window (rows 0 to 2) -/

/-- REG_WRITE by access code (part of R10), at the header of every page that takes writes: EVT_EN (RW) takes the word; in EVT_STAT (W1C) a written 1 clears
its bit; COMMIT_TIDE (RO) ignores the write; a narrow write is discarded and logged with cause 0x1 (part of R81). A write by a requester that
does not reach the window, and one of the fast-status page, changes nothing.
Model's choices: notes/assumptions/10, 17. -/
def Obligations.RegisterWritesFollowTheAccessCode : Prop :=
  (∀ (req : Requester) (pg : Fin 0x1400) (off : Fin 0x4000000) (v : BitVec 64) (s : State),
    (pageRef pg).isSome = true → s.takesWrite req off = true → off.val = regOff pg Hdr.EVT_EN_ENABLE →
    Completes (.regWrite req off 2 v) s fun t =>
      t.get pg Hdr.EVT_EN_ENABLE = v.toNat % 2 ^ 32 ∧ OnlyRegs s t [fieldKey pg Hdr.EVT_EN_ENABLE] ∧ SameMemory s t ∧ SameFaults s t) ∧
  (∀ (req : Requester) (pg : Fin 0x1400) (off : Fin 0x4000000) (v : BitVec 64) (s : State),
    (pageRef pg).isSome = true → s.takesWrite req off = true → off.val = regOff pg Hdr.EVT_STAT_EVENT → s.fits pg Hdr.EVT_STAT_EVENT = true →
    Completes (.regWrite req off 2 v) s fun t =>
      (∀ b < 32, t.eventBit pg b = (s.eventBit pg b && !v.getLsbD b)) ∧
      OnlyRegs s t [fieldKey pg Hdr.EVT_STAT_EVENT] ∧ SameMemory s t ∧ SameFaults s t) ∧
  (∀ (req : Requester) (pg : Fin 0x1400) (off : Fin 0x4000000) (v : BitVec 64) (s : State),
    (pageRef pg).isSome = true → s.takesWrite req off = true → off.val = regOff pg Hdr.COMMIT_TIDE_TIDE →
    Completes (.regWrite req off 2 v) s fun t => t = s) ∧
  (∀ (req : Requester) (pg : Fin 0x1400) (off : Fin 0x4000000) (k : Fin 4) (v : BitVec 64) (s : State),
    (pageRef pg).isSome = true → s.takesWrite req off = true → off.val / 0x1000 = pg → off.val % 0x1000 < 0x40 → k.val < 2 →
    off.val % 2 ^ k.val = 0 →
    Completes (.regWrite req off k v) s fun t => t = s.logAccess req off true (byteEnables off (2 ^ k.val)) 0x1) ∧
  (∀ (req : Requester) (off : Fin 0x4000000) (k : Fin 4) (v : BitVec 64) (s : State), s.reaches req = false ∨ isFastOff off = true →
    Completes (.regWrite req off k v) s fun t => t = s)

/-- A logged access (parts of R80, R81), of a requester that reaches the window and, for a write, without the terminal latch: it counts; with no record held
it is recorded, with its requester, direction, byte enables and cause, and the page-access fault is raised; with one held, only OVERFLOW sets. A read
of it answers 0. Nothing else of the register window changes, and no memory.
Model's choices: notes/assumptions/16, 17, 75. -/
def Obligations.LoggedAccessesAreCountedAndTheFirstIsRecorded : Prop :=
  ∀ (req : Requester) (off : Fin 0x4000000) (k : Fin 4) (write : Bool) (c : Nat) (s : State),
    s.accessCause write off (2 ^ k.val) = some c → s.reaches req = true → (write = true → s.terminal = false) →
    Completes (.accessError req off k write) s fun t =>
      t.get 0x1 Chip.ACC_ERR_COUNT_COUNT = min (s.get 0x1 Chip.ACC_ERR_COUNT_COUNT + 1) 0xFFFFFFFF % 2 ^ 32 ∧
      (s.flag 0x1 Chip.ACC_ERR_INFO_VALID = false →
        t.get 0x1 Chip.ACC_ERR_ADDR_OFFSET = off ∧ t.get 0x1 Chip.ACC_ERR_INFO_REQUESTER = req.code % 8 ∧
        t.flag 0x1 Chip.ACC_ERR_INFO_WRITE = write ∧ t.get 0x1 Chip.ACC_ERR_INFO_BYTE_EN = byteEnables off (2 ^ k.val) % 16 ∧
        t.get 0x1 Chip.ACC_ERR_INFO_CAUSE = c % 16 ∧ t.flag 0x1 Chip.ACC_ERR_INFO_VALID = true ∧ t.condBit 0x1 0 = true) ∧
      (s.flag 0x1 Chip.ACC_ERR_INFO_VALID = true →
        t.flag 0x1 Chip.ACC_ERR_INFO_OVERFLOW = true ∧
        OnlyRegs s t [fieldKey 0x1 Chip.ACC_ERR_COUNT_COUNT, fieldKey 0x1 Chip.ACC_ERR_INFO_OVERFLOW]) ∧
      OnlyRegs s t ([Chip.ACC_ERR_COUNT_COUNT, Chip.ACC_ERR_ADDR_OFFSET, Chip.ACC_ERR_INFO_VALID, Chip.ACC_ERR_INFO_OVERFLOW,
        Chip.ACC_ERR_INFO_REQUESTER, Chip.ACC_ERR_INFO_WRITE, Chip.ACC_ERR_INFO_BYTE_EN, Chip.ACC_ERR_INFO_CAUSE,
        Hdr.FLT_STAT_FAULT].map (fieldKey 0x1)) ∧ SameMemory s t ∧
      (write = false → t.out = .readData req off [0] :: s.out)

/-- The twelve time words of Tidemark page 0 hold C, P, and the times of domains A and B, and form one value (R9, R396): a read of the first returns it and captures all twelve, sampled
together, for that requester alone; a later read of word i by the same requester returns the captured word and uses nothing up. No register, no
memory and no other requester's capture changes. -/
def Obligations.TimeWordsAreCapturedTogether : Prop :=
  (∀ (req : Requester) (off : Fin 0x4000000) (header : Nat) (s : State),
    off.val = 0x10040 → s.servesRead req 0x10040 = true →
    Completes (.multiwordCaptureRead req off 2 header) s fun t =>
      (∀ i < 12, t.captured req 0x10040 (0x10040 + 4 * i) = some (s.timeWord i)) ∧
      t.out = .readData req 0x10040 [s.timeWord 0] :: s.out ∧
      (∀ (other : Requester) (first a : Nat), other ≠ req → t.captured other first a = s.captured other first a) ∧
      t.regs = s.regs ∧ SameMemory s t ∧ SameFaults s t) ∧
  (∀ (req : Requester) (off : Fin 0x4000000) (header i v : Nat) (s : State),
    0 < i → i < 12 → off.val = 0x10040 + 4 * i → s.servesRead req off = true →
    s.captured req 0x10040 off = some v → v < 2 ^ 32 →
    Completes (.multiwordCaptureRead req off 2 header) s fun t =>
      t.out = .readData req off [v] :: s.out ∧ t.wordCaptures = s.wordCaptures ∧ t.regs = s.regs ∧ SameMemory s t) ∧
  (∀ (s : State) (i : Nat), i < 4 →
    (s.timeWord (3 * i) + s.timeWord (3 * i + 1) * 2 ^ 32) * 2 ^ 32 + s.timeWord (3 * i + 2) =
      ([s.time.c * 2 ^ 32, s.activeTime (s.time.c * 2 ^ 32), s.domainTime 0 (s.time.c * 2 ^ 32), s.domainTime 1 (s.time.c * 2 ^ 32)].getD i 0) %
        2 ^ 96)

/-! ## Commits (rows 3 to 7) -/

/-- COMMIT of a page (part of R39): ARM sets PENDING, DISARM clears it, both leave it; GROUP is written, before the arm, only where the page was neither
pending nor captured; DONE is cleared by a written 1. A capture is never undone. Nothing else of the window and no memory changes. -/
def Obligations.CommitArmsAndDisarmsAPage : Prop :=
  (∀ (req : Requester) (pg : Fin 0x1400) (w : Word) (s : State), s.serves req (regOff pg Hdr.COMMIT_ARM) = true →
    Completes (.commitArm req pg w) s fun t =>
      (w.getLsbD 30 = false → t.get pg Hdr.COMMIT_PENDING = 1) ∧
      (w.getLsbD 30 = true → t.get pg Hdr.COMMIT_PENDING = s.get pg Hdr.COMMIT_PENDING) ∧
      t.get pg Hdr.COMMIT_GROUP = (if s.flag pg Hdr.COMMIT_PENDING || s.flag pg Hdr.COMMIT_CAPTURED then s.get pg Hdr.COMMIT_GROUP
        else w.toNat % 64) ∧
      t.get pg Hdr.COMMIT_DONE = (if w.getLsbD 27 then 0 else s.get pg Hdr.COMMIT_DONE) ∧
      OnlyRegs s t [fieldKey pg Hdr.COMMIT_PENDING, fieldKey pg Hdr.COMMIT_GROUP, fieldKey pg Hdr.COMMIT_DONE] ∧
      t.commit = s.commit ∧ SameMemory s t ∧ SameFaults s t) ∧
  (∀ (req : Requester) (pg : Fin 0x1400) (w : Word) (s : State), s.serves req (regOff pg Hdr.COMMIT_DISARM) = true →
    Completes (.commitDisarm req pg w) s fun t =>
      (w.getLsbD 31 = false → t.get pg Hdr.COMMIT_PENDING = 0) ∧
      (w.getLsbD 31 = true → t.get pg Hdr.COMMIT_PENDING = s.get pg Hdr.COMMIT_PENDING) ∧
      OnlyRegs s t [fieldKey pg Hdr.COMMIT_PENDING, fieldKey pg Hdr.COMMIT_GROUP, fieldKey pg Hdr.COMMIT_DONE] ∧
      t.commit = s.commit ∧ SameMemory s t ∧ SameFaults s t)

/-- Arming a commit group (parts of R41, R42, R44). DISARM written too leaves the group as it is. With no plan live the arm is held and PENDING reads 1.
With one live: a family that the plan leaves inactive sets NOFAMILY and drops the arm; a target whose capture has passed sets LATE and drops it;
any other arm is held. A DISARM withdraws software's arm, and PENDING then reads the device's alone. -/
def Obligations.GroupArmsAreHeldOrDropped : Prop :=
  (∀ (req : Requester) (g : Fin 64) (w : Word) (s : State),
    s.serves req (regOff grpPage (Tidemark.GRP_CTRL_ARM.nth g)) = true → w.getLsbD 30 = false → w.toNat % 8 = s.grpFamily g →
    Completes (.groupArm req g w) s fun t =>
      (s.planLive = false → t.commit.swArm.contains g.val = true ∧ t.grpFlag Tidemark.GRP_STAT_PENDING g = true) ∧
      (s.planLive = true → s.grpFamily g < 4 → s.famActive (s.grpFamily g) = false →
        t.grpFlag Tidemark.GRP_STAT_NOFAMILY g = true ∧ t.commit = s.commit) ∧
      (s.planLive = true → s.grpFamily g < 4 → s.famActive (s.grpFamily g) = true → w.getLsbD 29 = true →
        signedDiff (s.get grpPage (Tidemark.GRP_TARGET_TARGET.nth g)) (s.famTide (s.grpFamily g)) ≤ 0 →
        t.grpFlag Tidemark.GRP_STAT_LATE g = true ∧ t.commit = s.commit) ∧
      (s.planLive = true → (s.grpFamily g < 4 → s.famActive (s.grpFamily g) = true) → w.getLsbD 29 = false →
        t.commit.swArm.contains g.val = true ∧ t.grpFlag Tidemark.GRP_STAT_PENDING g = true) ∧
      SameMemory s t ∧ SameFaults s t) ∧
  (∀ (req : Requester) (g : Fin 64) (w : Word) (s : State),
    s.serves req (regOff grpPage (Tidemark.GRP_CTRL_ARM.nth g)) = true → w.getLsbD 30 = true →
    Completes (.groupArm req g w) s fun t => t.commit = s.commit ∧ t.tide = s.tide ∧ SameMemory s t ∧ SameFaults s t) ∧
  (∀ (req : Requester) (g : Fin 64) (w : Word) (s : State),
    s.serves req (regOff grpPage (Tidemark.GRP_CTRL_DISARM.nth g)) = true → w.getLsbD 31 = false →
    Completes (.groupDisarm req g w) s fun t =>
      t.commit.swArm = s.commit.swArm.filter (· != g.val) ∧ t.commit.devArm = s.commit.devArm ∧
      t.grpFlag Tidemark.GRP_STAT_PENDING g = (s.commit.devArm == some g.val) ∧ SameMemory s t ∧ SameFaults s t)

/-- With no plan live, and no submission that holds the group's arms, an armed group captures and swaps (part of R44): its arm is spent, PENDING and
CAPTURED read 0, DONE sets and GRP_TIDE takes 0. -/
def Obligations.WithoutAPlanAnArmedGroupCommitsWithTideZero : Prop :=
  ∀ (g : Fin 64) (s : State), s.planLive = false → s.heldByPlan g = false → s.commit.swArm.contains g.val = true →
    Completes (.noplanCommitApply g) s fun t =>
      t.grpFlag Tidemark.GRP_STAT_CAPTURED g = false ∧ t.grpFlag Tidemark.GRP_STAT_DONE g = true ∧
      t.get grpPage (Tidemark.GRP_TIDE_TIDE.nth g) = 0 ∧ t.commit.swArm = s.commit.swArm.filter (· != g.val) ∧
      t.tide = s.tide ∧ t.time = s.time ∧ SameMemory s t

/-! ## Tides and plans (rows 8 to 13) -/

/-- A tide boundary inside a spring tide (parts of R32, R33), while no commit group is captured and no drained domain waits: the family has begun one tide
more of it, and no other family has; its counter goes on by one (from 0 the first time), the plan in force stays, and the family's slack window is
closed.
Model's choices: notes/assumptions/29. -/
def Obligations.TideBoundariesCountTheFamilysTide : Prop :=
  ∀ (f : Fin 4) (s : State) (p : Plan),
    s.tide.livePlan = some p → s.tide.begun.getD f 0 < (p.family f).n → s.calm →
    Completes (.tideBoundary f) s fun t =>
      t.tide.begun.getD f 0 = s.tide.begun.getD f 0 + 1 ∧ hasBit t.tide.famStarted f = true ∧ hasBit t.tide.famEver f = true ∧
      (∀ g < 4, g ≠ f.val → t.tide.begun.getD g 0 = s.tide.begun.getD g 0) ∧ t.tide.livePlan = some p ∧
      t.famTide f = (if hasBit s.tide.famEver f then (s.famTide f + 1) % 2 ^ 32 else 0) ∧ t.inSlack f = false

/-- A spring boundary at which the live plan goes on (parts of R30, R32), while no commit group is captured and no drained domain waits: every active family begins the first tide of a new spring tide, SPRING_COUNT
goes on by one (from 0 the first time), and the next spring capture is still to come.
Model's choices: notes/assumptions/26, 27, 74. -/
def Obligations.SpringBoundariesCountTheSpringTide : Prop :=
  ∀ (s : State) (p : Plan),
    s.tide.livePlan = some p → (p.active.all fun f => s.tide.begun.getD f 0 == (p.family f).n) = true →
    s.power.planEnds = false → s.tide.stagedCaptured = false → s.calm →
    Completes .springBoundary s fun t =>
      t.tide.livePlan = some p ∧ (∀ f ∈ p.active, t.tide.begun.getD f 0 = 1 ∧ hasBit t.tide.famStarted f = true) ∧
      t.tide.springEver = true ∧ t.tide.springCaptured = false ∧
      t.get tidePage Tidemark.SPRING_COUNT_COUNT =
        (if s.tide.springEver then (s.get tidePage Tidemark.SPRING_COUNT_COUNT + 1) % 2 ^ 32 else 0)

/-- With no plan live a STAGED plan goes live at the first boundary of one of its active families (part of R61): it is the plan in force, nothing is
staged any more, that family has begun the tides that its grid gives up to now, and the spring tide began where that grid has it.
Model's choices: notes/assumptions/26, 29. -/
def Obligations.AStagedPlanGoesLiveAtItsFirstBoundary : Prop :=
  ∀ (f : Fin 4) (s : State) (p : Plan),
    s.tide.staged = some p → s.planLive = false → s.planState = 3 → (p.family f).n ≠ 0 → s.tide.begun.length = 4 →
    Completes (.planFirstBoundary f) s fun t =>
      t.tide.livePlan = some p ∧ t.tide.staged = none ∧ t.tide.stagedCaptured = false ∧
      hasBit t.tide.famStarted f = true ∧ t.tide.springEver = true ∧
      t.tide.springStart = (s.now : Int) - ((((s.now : Int) - p.phase) % p.period).toNat : Int) ∧
      t.tide.begun.getD f 0 = p.boundariesBy f (((s.now : Int) - p.phase) % p.period).toNat

/-- The slack window of a family that has begun opens (part of R35): FAM_PHASE.IN_SLACK reads 1. The plan, the tides begun and memory stay. -/
def Obligations.SlackWindowsOpen : Prop :=
  ∀ (f : Fin 4) (corr : Fin 7 × Fin 7) (bad : Bool × Bool) (s : State) (p : Plan),
    s.tide.livePlan = some p → (p.family f).n ≠ 0 → s.inSlack f = false → s.famRuns f = true →
    Completes (.slackOpen f corr bad) s fun t =>
      t.inSlack f = true ∧ t.tide.livePlan = some p ∧ t.tide.begun = s.tide.begun ∧ SameMemory s t

/-- A POWERING plan whose domains have all acknowledged power is STAGED (part of R65): the device arms its commit group, PLAN_STATE reads STAGED and the
submission has succeeded; where the capture of its APPLY_SPRING has passed it is refused instead, with code MISSED (part of R61), and nothing is staged.
A domain that the plan in force stopped using and that has finished its work (part of R66): while a plan is live its power-off waits for the lowest family's
next boundary; with none live it no longer holds the domain on.
Model's choices: notes/assumptions/28, 66, 74. -/
def Obligations.PlansTakeAndReleaseTheirPower : Prop :=
  (∀ (s : State) (p : Plan),
    s.tide.staged = some p → s.planState = 2 → (closure s.x16 (p.domains s.x16)).all s.powered = true → s.springMissed p = false →
    Completes .planStaged s fun t =>
      t.planState = 3 ∧ t.commit.devArm = some p.group ∧ t.tide.staged = some p ∧ t.tide.ended = some (0, 0, 0) ∧
      t.tide.livePlan = s.tide.livePlan ∧ SameMemory s t) ∧
  (∀ (s : State) (p : Plan),
    s.tide.staged = some p → s.planState = 2 → (closure s.x16 (p.domains s.x16)).all s.powered = true → s.springMissed p = true →
    Completes .planStaged s fun t =>
      t.tide.staged = none ∧ t.get tidePage Tidemark.PLAN_REFUSE_CODE = 0x31 ∧ t.tide.checking = none ∧ t.tide.livePlan = s.tide.livePlan) ∧
  (∀ (d : Fin 96) (s : State), s.tide.draining.contains d.val = true → s.domainEmpty d = true → s.planLive = true →
    Completes (.domainDrained d) s fun t =>
      t.tide.drained.contains d.val = true ∧ t.tide.draining = s.tide.draining ∧ t.regs = s.regs ∧ t.power = s.power ∧ SameMemory s t ∧
      SameFaults s t) ∧
  (∀ (d : Fin 96) (s : State), s.tide.draining.contains d.val = true → s.domainEmpty d = true → s.planLive = false →
    Completes (.domainDrained d) s fun t =>
      t.tide.draining = s.tide.draining.filter (· != d.val) ∧ t.tide.drained = s.tide.drained.filter (· != d.val))

/-! ## Instances: enable, block reset, acknowledgement (rows 14 to 17, 177) -/

/-- CTRL.EN (part of R76): where it is RW, a write without RST sets it at once. On a plan-owned one a read of CTRL answers, in EN, whether the live plan uses
the instance, and a write of a Drift channel's CTRL without RST changes nothing. -/
def Obligations.EnablesTakeEffectAtOnceOrFollowThePlan : Prop :=
  (∀ (req : Requester) (pg : Fin 0x1400) (w : Word) (s : State) (r : PageRef),
    pageRef pg = some r → r.block.planEnabled = false → s.serves req (regOff pg Hdr.CTRL_EN) = true → w.getLsbD 1 = false →
    Completes (.instanceEnable req pg w) s fun t => t.flag r.base Hdr.CTRL_EN = w.getLsbD 0) ∧
  (∀ (req : Requester) (pg : Fin 0x1400) (w : Word) (s : State), 0x1000 ≤ pg.val → s.serves req (regOff pg Hdr.CTRL_EN) = true →
    w.getLsbD 1 = false → Completes (.instanceEnable req pg w) s fun t => t = s) ∧
  (∀ (req : Requester) (pg : Fin 0x1400) (off : Fin 0x4000000) (header : Nat) (s : State) (r : PageRef),
    pageRef pg = some r → r.block.planEnabled = true → off.val = regOff pg Hdr.CTRL_EN → s.reaches req = true → s.fits r.base Hdr.CTRL_PWR_REQ = true →
    Completes (.multiwordCaptureRead req off 2 header) s fun t =>
      t.out = .readData req off [(if r.block.ownsDomain then s.get r.base Hdr.CTRL_PWR_REQ else 1) * 4 + bit (s.resetting r) * 2 +
        bit (s.planUses r)] :: s.out ∧ t.regs = s.regs)

/-- A block reset (parts of R77, R484, R628). While a plan is live a Drift channel's reset is refused and logged with cause 0x8. With no plan live the reset
of any instance runs: the instance is in reset and not ready, and a quiet window is open where none ran already. When it completes the instance is
out of reset and the window is closed. Neither changes a tide counter, and completion no domain's power.
Model's choices: notes/assumptions/5, 47. -/
def Obligations.BlockResetsRunOrAreRefused : Prop :=
  (∀ (req : Requester) (pg : Fin 0x1400) (w : Word) (s : State), 0x1000 ≤ pg.val → s.serves req (regOff pg Hdr.CTRL_RST) = true →
    s.planLive = true → Completes (.blockResetReq req pg w) s fun t => t = s.logAccess req (regOff pg Hdr.CTRL_RST) true 0xF 0x8) ∧
  (∀ (req : Requester) (pg : Fin 0x1400) (w : Word) (s : State) (r : PageRef), pageRef pg = some r →
    s.serves req (regOff pg Hdr.CTRL_RST) = true → s.planLive = false →
    Completes (.blockResetReq req pg w) s fun t =>
      t.resetting r = true ∧ t.ready r = false ∧ (s.resetting r = false → (t.fault.quiet.any fun x => x.1 == r.base) = true) ∧ t.tide = s.tide) ∧
  (∀ (pg : Fin 0x1400) (s : State) (r : PageRef), pageRef pg = some r → s.resetting r = true →
    Completes (.blockResetDone pg) s fun t =>
      t.resetting r = false ∧ (t.fault.quiet.any fun x => x.1 == r.base) = false ∧ t.power.up = s.power.up ∧ t.tide = s.tide)

/-- FLT_ACK (part of R78): every bit written 1 is acknowledged, under the terminal latch too (part of R487). On the pages but those whose drivers return with their
acknowledgement (0x20, 0xC, CSI-2 receive), a bit written 1 clears where its condition is gone and no occurrence of it is still to be judged, stays
where its condition is present, and a bit written 0 is as it was. A quiet window closes (part of R484): BW_STAT.QUIET counts the windows that stay open, and
QUIET_CLOSE sets at the last closing.
Model's choices: notes/assumptions/17, 48. -/
def Obligations.FaultsAreAcknowledgedAndQuietWindowsClose : Prop :=
  (∀ (req : Requester) (pg : Fin 0x1400) (w : Word) (s : State) (b : Nat), (pageRef pg).isSome = true →
    s.reaches req = true → isFastOff (regOff pg Hdr.FLT_ACK_ACK) = false → b < 32 → w.getLsbD b = true → s.fltBit pg b = true →
    Completes (.faultAck req pg w) s fun t => hasBit (t.marks pg).unack b = false ∧ SameMemory s t) ∧
  (∀ (req : Requester) (pg : Fin 0x1400) (w : Word) (s : State) (r : PageRef), pageRef pg = some r → s.reaches req = true →
    isFastOff (regOff pg Hdr.FLT_ACK_ACK) = false → r.block ≠ .csiRx → pg.val ≠ 0x20 → pg.val ≠ 0xC →
    Completes (.faultAck req pg w) s fun t =>
      (∀ b < 32, w.getLsbD b = true → s.condBit pg b = false → s.due.contains (.occurrence pg b) = false → t.fltBit pg b = false) ∧
      (∀ b < 32, s.condBit pg b = true → t.fltBit pg b = s.fltBit pg b) ∧
      (∀ b < 32, w.getLsbD b = false → t.fltBit pg b = s.fltBit pg b) ∧
      (∀ b, t.condBit pg b = s.condBit pg b) ∧
      OnlyRegs s t [fieldKey pg Hdr.FLT_STAT_FAULT] ∧ t.due = s.due ∧ SameMemory s t) ∧
  (∀ (pg : Fin 0x1400) (s : State) (r : PageRef), pageRef pg = some r → (s.fault.quiet.any fun x => x.1 == r.base) = true →
    Completes (.quietWindowClose pg) s fun t =>
      t.fault.quiet = s.fault.quiet.filter (fun x => x.1 != r.base) ∧
      t.get bwPage Breakwater.BW_STAT_QUIET = min 127 t.fault.quiet.length ∧
      (t.fault.quiet = [] → t.eventBit bwPage 2 = true) ∧
      OnlyRegs s t [fieldKey bwPage Breakwater.BW_STAT_QUIET, fieldKey bwPage Hdr.EVT_STAT_EVENT] ∧ SameMemory s t ∧ SameFaults s t)

/-! ## Weatas: receiver, transmitters, line monitor (rows 18 to 33) -/

/-- The receiver. A window of 65,536 symbols in which the adapted coefficients give the mode's minimum SNR ends ACQUIRE: the lane is CONVERGED, with
its event, and ACQUIRE becomes ALIGN (part of R94). In TRACK, in ACTIVE and in a quiet opening, an allowed step moves its coefficient by its amount, up to the
end of the range, counts, and is the last one of that coefficient; a header in it is an intrusion (part of R96). Starvation is an event, in TRACK alone (part of R97).
FREEZE moves TRACK to FROZEN and back; coefficients that wait are taken together in a quiet opening (part of R98). In TRACK and FROZEN the condition RX_SNR_LOW
is that the window gives less than the mode's minimum (part of R116).
Model's choices: notes/assumptions/5, 76. -/
def Obligations.LaneReceiverAdapts : Prop :=
  (∀ (n : Fin 32) (c : RxCoefs) (w : List RxSymbol) (s : State), s.rxState n = 2 → s.linkState n = 3 → w.length = snrWindow →
    (s.adapt n c).snrHolds n w = true →
    Completes (.laneRxConverged n (c, w)) s fun t =>
      t.linkState n = 4 ∧ t.flag (wePage n) Weatas.LANE_STAT_CONVERGED = true ∧ t.eventBit (wePage n) 0 = true ∧
      t.get (wePage n) Weatas.RX_CTLE_VGA = c.vga % 64 ∧ t.get (wePage n) Weatas.RX_DFE_H1 = c.h1 % 256 ∧ SameMemory s t) ∧
  (∀ (n : Fin 32) (step : EqStep) (intrude : Bool) (s : State), s.rxState n = 3 → s.linkState n = 9 → s.quietFor n 64 = true →
    s.stepAllowed n step = true →
    Completes (.adaptStep n step intrude) s fun t =>
      (∀ codes, step = .vga codes →
        (t.get (wePage n) Weatas.RX_CTLE_VGA : Int) = max 0 (min 63 ((s.get (wePage n) Weatas.RX_CTLE_VGA : Int) + vgaStep codes)) ∧
        (t.lane n).vgaAt = some s.time.c) ∧
      (∀ d, step = .peak d →
        (t.get (wePage n) Weatas.RX_CTLE_PEAK : Int) = max 0 (min 96 ((s.get (wePage n) Weatas.RX_CTLE_PEAK : Int) + d)) ∧
        (t.lane n).peakAt = some s.time.c) ∧
      (∀ i d, step = .ffe [(i, d)] →
        t.get (wePage n) (Weatas.RX_FFE_C.nth i) = stepSigned 10 (s.get (wePage n) (Weatas.RX_FFE_C.nth i)) d % 1024 ∧
        (t.lane n).ffeAt = some s.time.c) ∧
      (∀ d, step = .h1 d →
        t.get (wePage n) Weatas.RX_DFE_H1 = stepSigned 8 (s.get (wePage n) Weatas.RX_DFE_H1) d % 256 ∧ (t.lane n).h1At = some s.time.c) ∧
      t.get (wePage n) Weatas.ADAPT_STEPS_COUNT = (s.get (wePage n) Weatas.ADAPT_STEPS_COUNT + 1) % 2 ^ 32 ∧
      (intrude = true → t.eventBit (wePage n) 2 = true) ∧ SameMemory s t ∧ SameFaults s t) ∧
  (∀ (n : Fin 32) (s : State),
    Completes (.adaptStarved n) s fun t =>
      (s.rxState n = 3 → t.eventBit (wePage n) 1 = true) ∧ (s.rxState n ≠ 3 → t = s) ∧
      OnlyRegs s t [fieldKey (wePage n) Hdr.EVT_STAT_EVENT] ∧ SameMemory s t ∧ SameFaults s t) ∧
  (∀ (req : Requester) (n : Fin 32) (w : Word) (s : State), s.serves req (regOff (wePage n) Weatas.RX_ADAPT_FREEZE) = true →
    Completes (.rxFreeze req n w) s fun t =>
      t.flag (wePage n) Weatas.RX_ADAPT_FREEZE = w.getLsbD 31 ∧
      (s.rxState n = 3 → t.rxState n = if w.getLsbD 31 then 4 else 3) ∧ (s.rxState n = 4 → t.rxState n = if w.getLsbD 31 then 4 else 3) ∧
      (s.rxState n < 3 → t.rxState n = s.rxState n) ∧ t.lanes = s.lanes ∧ SameMemory s t ∧ SameFaults s t) ∧
  (∀ (n : Fin 32) (s : State), s.rxState n = 3 ∨ s.rxState n = 4 → s.quietFor n 64 = true →
    Completes (.manualCoefApply n) s fun t =>
      (t.lane n).manual = [] ∧ OnlyRegs s t ((s.lane n).manual.map (·.1)) ∧
      (((s.lane n).manual.map (·.1)).Nodup → ∀ e ∈ (s.lane n).manual, SMap.get resetField t.regs e.1 = e.2) ∧
      SameMemory s t ∧ SameFaults s t) ∧
  (∀ (n : Fin 32) (w : List RxSymbol) (s : State), s.rxState n = 3 ∨ s.rxState n = 4 → w.length = snrWindow →
    Completes (.rxSnrLow n w) s fun t =>
      t.condBit (wePage n) 4 = !s.snrHolds n w ∧ t.rxState n = s.rxState n ∧ t.lanes = s.lanes ∧ SameMemory s t)

/-- The camera's transmitter and the back channel's amplitude. In a far opening a request that is due goes out as an EQ command, clamped to the camera's
limits: with AUTO = 0 the setting that software wrote, with AUTO = 1 the setting in force; a clamp sets its event (parts of R99, R100). With AUTO = 1, nothing
due, and 100 ms since the last one, TRACK may move one field by one code. The amplitude in force is the lesser of the request and what the supply
measured allows, and CLAMPED shows the lesser one (part of R101).
Model's choices: notes/assumptions/21, 76. -/
def Obligations.LaneTransmittersAreSet : Prop :=
  (∀ (n : Fin 32) (next : List Int) (change : Option (Fin 3 × Bool)) (s : State), s.linkState n = 9 → s.farOpen n next = true →
    (s.lane n).eqDue = true →
    Completes (.farOpening n (next, change)) s fun t =>
      (t.lane n).eqSent = some (clampFar (s.lane n).farMax (if s.flag (wePage n) Weatas.FAR_TXEQ_REQ_AUTO then (s.lane n).farNow
        else s.farRequest n)).1 ∧ (t.lane n).eqDue = false ∧
      ((clampFar (s.lane n).farMax (if s.flag (wePage n) Weatas.FAR_TXEQ_REQ_AUTO then (s.lane n).farNow else s.farRequest n)).2 ≠ 0 →
        t.eventBit (wePage n) 3 = true) ∧ SameMemory s t ∧ SameFaults s t) ∧
  (∀ (n : Fin 32) (next : List Int) (f : Fin 3) (up : Bool) (s : State), s.linkState n = 9 → s.farOpen n next = true →
    (s.lane n).eqDue = false → s.flag (wePage n) Weatas.FAR_TXEQ_REQ_AUTO = true → s.rxState n = 3 →
    ((s.lane n).farAt.all fun c => decide (c + 100000000 ≤ s.time.c)) = true →
    Completes (.farOpening n (next, some (f, up))) s fun t =>
      (t.lane n).eqSent = some (clampFar (s.lane n).farMax (moveFar (s.lane n).farNow f up)).1 ∧ (t.lane n).farAt = some s.time.c ∧
      SameMemory s t ∧ SameFaults s t) ∧
  (∀ (n : Fin 32) (mv : Nat) (s : State),
    Completes (.bcAmpSample n mv) s fun t =>
      t.get (wePage n) Weatas.BC_TX_ACT_AMAX = min 70 ((mv - 500) / 10) ∧
      t.get (wePage n) Weatas.BC_TX_ACT_AMP_ACT = min (s.get (wePage n) Weatas.BC_TX_AMP_REQ) (min 70 ((mv - 500) / 10)) ∧
      t.flag (wePage n) Weatas.BC_TX_ACT_CLAMPED = decide (min 70 ((mv - 500) / 10) < s.get (wePage n) Weatas.BC_TX_AMP_REQ) ∧
      SameMemory s t ∧ SameFaults s t)

/-- The line monitor. A scan with monitoring off reports the line's voltage alone (part of R102). With monitoring on, a class that has been found in DEBOUNCE
scans and is not the class shown is entered, with LM_CHANGE; before that the class stays (part of R103). A holding class sets HOLD and takes a lane that is on
to HELD; any other class keeps HOLD, unless AUTO_RELEASE clears it (part of R104); UNDERVOLT raises its fault (part of R105). RELEASE clears HOLD unless the class
holds, when it changes nothing (part of R104).
Model's choices: notes/assumptions/5, 73, 76. -/
def Obligations.LineMonitorClassifiesAndHolds : Prop :=
  (∀ (n : Fin 32) (code feedCode : Fin 4096) (s : State), s.ready ⟨.weatas, n, 0⟩ = true → s.flag (wePage n) Weatas.LM_CFG_ENABLE = false →
    monitorMv code (s.get (wePage n) Weatas.LM_CFG_DIV) < 65536 → s.get (wePage n) Weatas.LM_CFG_GROUP < 8 →
    Completes (.lmScan n code feedCode) s fun t =>
      t.get (wePage n) Weatas.LM_VLINE_MV = monitorMv code (s.get (wePage n) Weatas.LM_CFG_DIV) ∧
      t.get (wePage n) Weatas.LM_STAT_CLASS = s.get (wePage n) Weatas.LM_STAT_CLASS ∧ t.lanes = s.lanes ∧ SameMemory s t ∧ SameFaults s t) ∧
  (∀ (n : Fin 32) (code feedCode : Fin 4096) (s : State) (vLine vFeed iLine : Int) (c run : Nat),
    s.ready ⟨.weatas, n, 0⟩ = true → s.flag (wePage n) Weatas.LM_CFG_ENABLE = true →
    vLine = monitorMv code (s.get (wePage n) Weatas.LM_CFG_DIV) →
    vFeed = monitorMv feedCode (s.get (wePage (4 * s.get (wePage n) Weatas.LM_CFG_GROUP)) Weatas.LM_FEED_CFG_DIV) →
    iLine = Int.tdiv ((vFeed - vLine) * 1000) (s.get (wePage n) Weatas.LM_CFG_RSENSE) →
    c = s.classify n vLine vFeed iLine → s.get (wePage n) Weatas.LM_CFG_GROUP < 8 →
    run = (if (s.lane n).scanClass = c then (s.lane n).scanRun + 1 else 1) →
    Completes (.lmScan n code feedCode) s fun t =>
      (s.get (wePage n) Weatas.LM_DEBOUNCE_SCANS ≤ run → s.get (wePage n) Weatas.LM_STAT_CLASS ≠ c →
        t.get (wePage n) Weatas.LM_STAT_CLASS = c ∧ t.eventBit (wePage n) 6 = true ∧ (c = 5 → t.condBit (wePage n) 3 = true) ∧
        (isHolding c = true → t.flag (wePage n) Weatas.LM_STAT_HOLD = true ∧ t.linkState n = if s.linkState n = 0 then 0 else 1) ∧
        (isHolding c = false → t.flag (wePage n) Weatas.LM_STAT_HOLD =
          (s.flag (wePage n) Weatas.LM_STAT_HOLD && !s.flag (wePage n) Weatas.LM_CFG_AUTO_RELEASE))) ∧
      (run < s.get (wePage n) Weatas.LM_DEBOUNCE_SCANS →
        t.get (wePage n) Weatas.LM_STAT_CLASS = s.get (wePage n) Weatas.LM_STAT_CLASS ∧ t.linkState n = s.linkState n ∧ SameFaults s t)) ∧
  (∀ (req : Requester) (n : Fin 32) (s : State), s.serves req (regOff (wePage n) Weatas.LM_STAT_RELEASE) = true →
    Completes (.lmRelease req n) s fun t =>
      (isHolding (s.get (wePage n) Weatas.LM_STAT_CLASS) = false → t.flag (wePage n) Weatas.LM_STAT_HOLD = false) ∧
      (isHolding (s.get (wePage n) Weatas.LM_STAT_CLASS) = true → t = s))

/-- Test patterns. EN written 1 starts the generator of a lane whose link does not operate, and drives its pattern on its target, but not on the back
channel of a held lane; a lane whose link operates refuses it with CFG_REJECT; EN written 0 ends generator and injections (part of R107). A series of injections
is queued, within its limits, while the generator runs, and else refused; the first one begins at once, and the end of one is an event and begins the
next (part of R108). EN of the checker follows the write; enabling it clears its counters, disabling it its lock (part of R114). It locks, with its event; 128 errors
or more in a window clear the lock, and fewer only count (part of R109). -/
def Obligations.TestPatternsRun : Prop :=
  (∀ (req : Requester) (n : Fin 32) (w : Word) (s : State), s.serves req (regOff (wePage n) Weatas.PRBS_GEN_EN) = true →
    Completes (.prbsGenEnable req n w) s fun t =>
      (w.getLsbD 31 = true → s.flag (wePage n) Weatas.PRBS_GEN_EN = false → s.linkOperating n = false →
        t.flag (wePage n) Weatas.PRBS_GEN_EN = true ∧
        t.out = (if w.getLsbD 30 || !s.flag (wePage n) Weatas.LM_STAT_HOLD then
            [.pattern n (bit (w.getLsbD 30)) (t.get (wePage n) Weatas.PRBS_GEN_PATTERN) (t.lane n).genSeed] else []) ++ s.out) ∧
      (w.getLsbD 31 = true → s.flag (wePage n) Weatas.PRBS_GEN_EN = false → s.linkOperating n = true →
        t.flag (wePage n) Weatas.PRBS_GEN_EN = false ∧ t.eventBit (wePage n) 11 = true ∧ t.out = s.out) ∧
      (w.getLsbD 31 = false → t.flag (wePage n) Weatas.PRBS_GEN_EN = false ∧ (t.lane n).injections = [] ∧ t.out = s.out) ∧
      SameMemory s t ∧ SameFaults s t) ∧
  (∀ (req : Requester) (n : Fin 32) (w : Word) (s : State), s.serves req (regOff (wePage n) Weatas.PRBS_INJ_GO) = true →
    w.getLsbD 31 = true → s.fits (wePage n) Weatas.PRBS_INJ_KIND = true →
    Completes (.prbsInject req n w) s fun t =>
      (s.flag (wePage n) Weatas.PRBS_GEN_EN = true → t.flag (wePage n) Weatas.PRBS_INJ_GO = true ∧
        (t.lane n).injections = (s.lane n).injections ++ [⟨if w.toNat / 2 ^ 24 % 4 = 3 then s.get (wePage n) Weatas.PRBS_INJ_KIND
            else w.toNat / 2 ^ 24 % 4,
          max 2 (min 64 (w.toNat / 2 ^ 16 % 128)), max 1 (w.toNat % 2 ^ 16), max 2048 (s.get (wePage n) Weatas.PRBS_INJ_GAP_GAP)⟩] ∧
        (∀ i, (s.lane n).injections = [] → (t.lane n).injections = [i] → t.out = .inject n (s.genBit n) i :: s.out)) ∧
      (s.flag (wePage n) Weatas.PRBS_GEN_EN = false → t.eventBit (wePage n) 11 = true ∧ t.lanes = s.lanes) ∧
      SameMemory s t ∧ SameFaults s t) ∧
  (∀ (n : Fin 32) (s : State) (i : Injection) (r : List Injection), (s.lane n).injections = i :: r →
    Completes (.prbsInjDone n) s fun t =>
      (t.lane n).injections = r ∧ t.flag (wePage n) Weatas.PRBS_INJ_GO = !r.isEmpty ∧ t.eventBit (wePage n) 10 = true ∧
      (∀ j l, r = j :: l → t.out = .inject n (s.genBit n) j :: s.out) ∧ SameMemory s t ∧ SameFaults s t) ∧
  (∀ (req : Requester) (n : Fin 32) (w : Word) (s : State), s.serves req (regOff (wePage n) Weatas.PRBS_CHK_EN) = true →
    Completes (.prbsChkEnable req n w) s fun t =>
      t.flag (wePage n) Weatas.PRBS_CHK_EN = w.getLsbD 31 ∧
      (w.getLsbD 31 = false → t.flag (wePage n) Weatas.PRBS_CHK_LOCKED = false) ∧
      (w.getLsbD 31 = true → s.flag (wePage n) Weatas.PRBS_CHK_EN = false →
        t.flag (wePage n) Weatas.PRBS_CHK_LOCKED = false ∧ t.get (wePage n) Weatas.PRBS_ERRS_ERRS = 0 ∧
        t.get (wePage n) Weatas.PRBS_BITS_LO_BITS = 0 ∧ t.get (wePage n) Weatas.PRBS_BITS_HI_BITS = 0) ∧ SameMemory s t ∧ SameFaults s t) ∧
  (∀ (n : Fin 32) (s : State), s.flag (wePage n) Weatas.PRBS_CHK_EN = true → s.flag (wePage n) Weatas.PRBS_CHK_LOCKED = false →
    Completes (.prbsLock n) s fun t =>
      t.flag (wePage n) Weatas.PRBS_CHK_LOCKED = true ∧ t.eventBit (wePage n) 8 = true ∧
      OnlyRegs s t [fieldKey (wePage n) Weatas.PRBS_CHK_LOCKED, fieldKey (wePage n) Hdr.EVT_STAT_EVENT] ∧ SameMemory s t ∧ SameFaults s t) ∧
  (∀ (n : Fin 32) (errs : Nat) (s : State), s.flag (wePage n) Weatas.PRBS_CHK_LOCKED = true → errs ≤ 1024 →
    Completes (.prbsLost n errs) s fun t =>
      t.flag (wePage n) Weatas.PRBS_CHK_LOCKED = decide (errs < 128) ∧ (128 ≤ errs → t.eventBit (wePage n) 9 = true) ∧
      t.get (wePage n) Weatas.PRBS_ERRS_ERRS = min (s.get (wePage n) Weatas.PRBS_ERRS_ERRS + errs) (2 ^ 32 - 1) ∧
      OnlyRegs s t [fieldKey (wePage n) Weatas.PRBS_CHK_LOCKED, fieldKey (wePage n) Weatas.PRBS_ERRS_ERRS,
        fieldKey (wePage n) Hdr.EVT_STAT_EVENT] ∧ SameMemory s t ∧ SameFaults s t)

/-! ## Weatas: codewords, markers, packets, messages (rows 34 to 44) -/

/-- Codewords and markers. While the decoder runs, a received word counts; a corrected one counts its symbols and ends a run of uncorrectable ones; an
uncorrectable one counts, and in ACTIVE a run of UNCORR_RUN is a DROPOUT (parts of R118, R140, R141). A valid marker of this epoch is recorded; the third in a
row ends ALIGN and the second in a row ends DROPOUT; one of another epoch sets EPOCH_STALE and is a bad one; a bad or missing one breaks the row and in
ACTIVE is a DROPOUT (parts of R121, R133, R141). A DROPOUT that lasts loses the link, which trains again (part of R142). A window of 1 ms reports the loads of both
directions, starts its counts again, and each one with more than UNCORR_MAX uncorrectable codewords is an occurrence of FEC_BURST; with FEC_RETRAIN an
operating link then trains again (parts of R127, R140, R145).
Model's choices: notes/assumptions/58, 59, 76, 77. -/
def Obligations.CodewordsAndMarkersAreJudged : Prop :=
  (∀ (n : Fin 32) (word : List Nat) (s : State), s.decoding n = true →
    Completes (.codewordDecoded n word) s fun t =>
      t.get (wePage n) Weatas.FEC_CW_LO_CW + t.get (wePage n) Weatas.FEC_CW_HI_CW * 2 ^ 32 =
        (s.get (wePage n) Weatas.FEC_CW_LO_CW + s.get (wePage n) Weatas.FEC_CW_HI_CW * 2 ^ 32 + 1) % 2 ^ 64 ∧
      (∀ k message, rsDecode (word.map (· % 1024)) = some (k, message) →
        t.get (wePage n) Weatas.FEC_CORR_LO_SYM + t.get (wePage n) Weatas.FEC_CORR_HI_SYM * 2 ^ 32 =
          (s.get (wePage n) Weatas.FEC_CORR_LO_SYM + s.get (wePage n) Weatas.FEC_CORR_HI_SYM * 2 ^ 32 + k) % 2 ^ 64 ∧
        (t.lane n).uncorrRun = 0 ∧ t.linkState n = s.linkState n ∧ SameFaults s t) ∧
      (rsDecode (word.map (· % 1024)) = none →
        t.get (wePage n) Weatas.FEC_UNCORR_CW = min (s.get (wePage n) Weatas.FEC_UNCORR_CW + 1) (2 ^ 32 - 1) ∧
        (t.lane n).uncorrRun = (s.lane n).uncorrRun + 1 ∧ (t.lane n).uncorrWindow = (s.lane n).uncorrWindow + 1 ∧
        t.linkState n = (if s.linkState n = 9 ∧ s.get (wePage n) Weatas.LINK_TIMEOUT_UNCORR_RUN ≤ (s.lane n).uncorrRun + 1 then 10
          else s.linkState n)) ∧ SameMemory s t) ∧
  (∀ (n : Fin 32) (sync : Fin 4) (b : List Byte) (spaced : Bool) (s : State) (run : Nat), s.decoding n = true →
    run = (if 0 < (s.lane n).run ∧ spaced = true ∧ fieldLE b 2 2 = ((s.lane n).lastSf + 1) % 65536 then (s.lane n).run + 1 else 1) →
    s.flag (wePage n) Weatas.LINK_CTRL_CAM_RETRAIN = false ∨ hasBit (fieldLE b 4 1) 1 = false →
    Completes (.markerReceived n sync b spaced) s fun t =>
      (markerOk sync b = true → fieldLE b 1 1 = s.get (wePage n) Weatas.LINK_STAT_EPOCH →
        t.get (wePage n) Weatas.CAM_MARK_SF_COUNT = fieldLE b 2 2 ∧ t.condBit (wePage n) 21 = hasBit (fieldLE b 4 1) 0 ∧
        (t.lane n).run = run ∧ t.linkState n = (if s.linkState n = 4 ∧ 3 ≤ run then 5 else if s.linkState n = 10 ∧ 2 ≤ run then 9
          else s.linkState n)) ∧
      (markerOk sync b = true → fieldLE b 1 1 ≠ s.get (wePage n) Weatas.LINK_STAT_EPOCH →
        t.eventBit (wePage n) 23 = true ∧ (t.lane n).run = 0 ∧ t.linkState n = if s.linkState n = 9 then 10 else s.linkState n) ∧
      (markerOk sync b = false → (t.lane n).run = 0 ∧ t.linkState n = if s.linkState n = 9 then 10 else s.linkState n) ∧ SameMemory s t) ∧
  (∀ (n : Fin 32) (s : State), s.decoding n = true →
    Completes (.markerMissed n) s fun t =>
      (t.lane n).run = 0 ∧ t.linkState n = (if s.linkState n = 9 then 10 else s.linkState n) ∧
      (s.linkState n = 9 → t.eventBit (wePage n) 19 = true ∧ (t.lane n).dropAt = s.time.c) ∧ SameMemory s t) ∧
  (∀ (n : Fin 32) (s : State), s.linkState n = 10 →
    Completes (.dropoutTimeout n) s fun t => Attempts s t n (s.firstMode n) ∧ t.condBit (wePage n) 16 = true) ∧
  (∀ (n : Fin 32) (fwdUp bcUp : Bool) (s : State), (s.lane n).load.busy ≤ (s.lane n).load.seen → (s.lane n).bcGroups ≤ 160000 →
    Completes (.fecWindow n fwdUp bcUp) s fun t =>
      (1000 * (s.lane n).load.busy) / max 1 (s.lane n).load.seen ≤ t.get (wePage n) Weatas.LOAD_FWD_PERMIL ∧
      t.get (wePage n) Weatas.LOAD_FWD_PERMIL ≤ (1000 * (s.lane n).load.busy) / max 1 (s.lane n).load.seen + 1 ∧
      (s.lane n).bcGroups / 160 ≤ t.get (wePage n) Weatas.LOAD_BC_PERMIL ∧
      t.get (wePage n) Weatas.LOAD_BC_PERMIL ≤ (s.lane n).bcGroups / 160 + 1 ∧
      (t.lane n).uncorrWindow = 0 ∧ t.condBit (wePage n) 18 = decide (s.get (wePage n) Weatas.FEC_CFG_UNCORR_MAX < (s.lane n).uncorrWindow) ∧
      (s.get (wePage n) Weatas.FEC_CFG_UNCORR_MAX < (s.lane n).uncorrWindow → Due.occurrence (wePage n) 18 ∈ t.due) ∧
      (s.get (wePage n) Weatas.FEC_CFG_UNCORR_MAX < (s.lane n).uncorrWindow → s.flag (wePage n) Weatas.LINK_CTRL_FEC_RETRAIN = true →
        s.linkOperating n = true → Attempts s t n (s.firstMode n)) ∧
      (s.flag (wePage n) Weatas.LINK_CTRL_FEC_RETRAIN = false → t.linkState n = s.linkState n ∧ SameMemory s t))

/-- Forward packets, while no part of one has come before, from CONFIG to ACTIVE. A header that does not check counts in HDR_ERR, and its packet goes
nowhere (part of R124). A whole packet of a kind that the state takes, with its length and CRC right, reaches its use: probe replies, EQ_ACKs and capability
records wait for the lane with the stamp of their start, Jetty replies and poll replies for the window (parts of R123, R126). An accepted capability record in
CONFIG is kept and starts TXEQ, or, where it does not declare the mode under attempt, fails it; a bad one is a fault and fails the attempt (part of R136). A
reply to the outstanding probe ends it with its round trip (part of R138); an EQ_ACK of the setting sent makes it the camera's (part of R131).
Model's choices: notes/assumptions/53, 59. -/
def Obligations.ForwardPacketsReachTheirUse : Prop :=
  (∀ (n : Fin 32) (p : ForwardPacket) (s : State), 5 ≤ s.linkState n → s.linkState n ≤ 9 → p.headerOk = false →
    Completes (.fwdPacketReceived n p) s fun t =>
      t.get (wePage n) Weatas.HDR_ERR_COUNT = min (s.get (wePage n) Weatas.HDR_ERR_COUNT + 1) (2 ^ 32 - 1) ∧
      (t.lane n).inbox = (s.lane n).inbox ∧ t.ports = s.ports ∧ t.windows = s.windows ∧
      OnlyRegs s t [fieldKey (wePage n) Weatas.HDR_ERR_COUNT] ∧ SameMemory s t ∧ SameFaults s t) ∧
  (∀ (n : Fin 32) (p : ForwardPacket) (s : State) (len : Nat) (payload : List Byte), 5 ≤ s.linkState n → s.linkState n ≤ 9 →
    p.headerOk = true → p.more = false → p.broken = false → (s.lane n).inPacket = none →
    len = fieldLE p.header 2 2 → payload = p.payload.take len →
    kindAllowed (s.linkState n) p.kind = true → lenOk p.kind len payload = true → fieldLE payload (len - 2) 2 = crc16 (payload.take (len - 2)) →
    Completes (.fwdPacketReceived n p) s fun t =>
      (p.kind = 3 ∨ p.kind = 6 ∨ p.kind = 7 →
        (t.lane n).inbox = (s.lane n).inbox ++ [⟨p.kind, payload.take (payload.length - 2), s.stampAt p.start⟩]) ∧
      (p.kind = 4 ∨ p.kind = 5 → (t.window n).inbox = (s.window n).inbox ++ [(p.kind, payload.take (payload.length - 2))]) ∧
      t.linkState n = s.linkState n ∧ SameMemory s t) ∧
  (∀ (n : Fin 32) (s : State) (p : LanePacket), (s.lane n).inbox.find? (·.kind == 7) = some p → s.linkState n = 5 →
    Completes (.capReceived n) s fun t =>
      (capOk p.payload = true → hasBit (fieldLE p.payload 1 1) (s.laneMode n) = true → t.linkState n = 6 ∧ (t.lane n).trial = 0) ∧
      (capOk p.payload = true → (t.lane n).modes = some (fieldLE p.payload 1 1) ∧ t.get (wePage n) Weatas.CAM_ID_ID = fieldLE p.payload 8 4 ∧
        (t.lane n).farMax = (fieldLE p.payload 2 1, fieldLE p.payload 4 1, fieldLE p.payload 3 1)) ∧
      (capOk p.payload = true → hasBit (fieldLE p.payload 1 1) (s.laneMode n) = false → t.eventBit (wePage n) 18 = true) ∧
      (capOk p.payload = false → t.condBit (wePage n) 19 = true ∧ t.eventBit (wePage n) 18 = true ∧ Attempts s t n (s.lowerMode n)) ∧
      SameMemory s t) ∧
  (∀ (n : Fin 32) (s : State) (p : LanePacket) (id tOut : Nat), (s.lane n).inbox.find? (·.kind == 3) = some p →
    (s.lane n).probe = some (id, some tOut) → fieldLE p.payload 0 1 = id → s.linkState n = 9 →
    Completes (.probeReply n) s fun t =>
      (t.lane n).probe = none ∧ (t.lane n).lostRun = 0 ∧ t.eventBit (wePage n) 22 = true ∧
      (0 ≤ (p.stamp : Int) - tOut → (p.stamp : Int) - tOut < 2 ^ 32 →
        (t.get (wePage n) Weatas.LAT_RTT_RTT : Int) = (p.stamp : Int) - tOut) ∧ t.linkState n = 9 ∧ SameMemory s t) ∧
  (∀ (n : Fin 32) (s : State) (p : LanePacket) (y : FarSetting), (s.lane n).inbox.find? (·.kind == 6) = some p →
    y = (fieldLE p.payload 0 1, fieldLE p.payload 1 1, fieldLE p.payload 2 1) → (s.lane n).eqSent = some y → s.linkState n = 9 →
    Completes (.eqAck n) s fun t =>
      (t.lane n).eqSent = none ∧ (t.lane n).farNow = y ∧
      (s.flag (wePage n) Weatas.FAR_TXEQ_REQ_AUTO = false → t.eventBit (wePage n) 4 = true) ∧ SameMemory s t ∧ SameFaults s t)

/-- The back channel. The message that is next leaves the queue and goes out, with its code groups, at its instant; it stays where the terminal latch is
set or where it would reach into the guard of a queued FSYNC (parts of R128 to R130). The next FSYNC leaves its queue: it goes out with its ID and output and
what is left of its DELAY, 1,400/16 ns after the last FSYNC at the earliest, and counts as sent; where it cannot be sent (part of R130), or its stream may not
have one (part of R198), it counts as missed and nothing goes out.
Model's choices: notes/assumptions/58, 77. -/
def Obligations.BackChannelMessagesAreSent : Prop :=
  (∀ (n : Fin 32) (at_ : Nat) (s : State) (m : BcMessage), (s.lane n).nextMessage (s.linkState n) = some m → s.terminal = false →
    ((s.lane n).fsyncs.any fun f => decide (f.depart - 1200 < (s.stampAt at_ : Int) + 200)) = false →
    Completes (.bcMessageSend n at_) s fun t =>
      t.out = .backChannel n m.bytes (messageGroups m.bytes (s.lane n).rd).1 :: s.out ∧ (t.lane n).queue = (s.lane n).queue.erase m ∧
      (t.lane n).lastOther = some (s.stampAt at_ : Int) ∧ (t.lane n).rd = (messageGroups m.bytes (s.lane n).rd).2 ∧ t.regs = s.regs ∧
      SameMemory s t ∧ SameFaults s t) ∧
  (∀ (n : Fin 32) (at_ : Nat) (s : State),
    s.terminal = true ∨ ((s.lane n).fsyncs.any fun f => decide (f.depart - 1200 < (s.stampAt at_ : Int) + 200)) = true →
    Completes (.bcMessageSend n at_) s fun t => t = s) ∧
  (∀ (n : Fin 32) (s : State) (f : Fsync) (r : List Fsync), (s.lane n).fsyncs = f :: r → s.fsyncMisses n f = false → s.syncGate n = true →
    Completes (.fsyncDepart n) s fun t =>
      (t.lane n).fsyncs = r ∧ (t.lane n).lastT = some ((s.lane n).fsyncAt f) ∧
      t.get (wePage n) Weatas.FSYNC_COUNT_SENT = (s.get (wePage n) Weatas.FSYNC_COUNT_SENT + 1) % Weatas.FSYNC_COUNT_SENT.size ∧
      (∀ b : List Byte, b = BcMessage.bytes ⟨2, [BitVec.ofNat 8 f.id, BitVec.ofNat 8 f.out] ++
          toBytesLE 2 (f.delay - (roundHalfEven ((s.lane n).fsyncAt f - f.depart) 10).toNat) ++ [0, 0]⟩ →
        t.out = .backChannel n b (messageGroups b (s.lane n).rd).1 :: s.out) ∧ SameMemory s t ∧ SameFaults s t) ∧
  (∀ (n : Fin 32) (s : State) (f : Fsync) (r : List Fsync), (s.lane n).fsyncs = f :: r → s.fsyncMisses n f = true ∨ s.syncGate n = false →
    Completes (.fsyncDepart n) s fun t =>
      (t.lane n).fsyncs = r ∧ (t.lane n).lastT = (s.lane n).lastT ∧ t.out = s.out ∧
      t.get (wePage n) Weatas.FSYNC_COUNT_MISSED = min (s.get (wePage n) Weatas.FSYNC_COUNT_MISSED + 1) (Weatas.FSYNC_COUNT_MISSED.size - 1) ∧
      SameMemory s t)

/-! ## Weatas: training and test (rows 45 to 56) -/

/-- Training. A lane that waits for a signal sends TRAIN START with its mode and epoch again (part of R132); a signal leads to ACQUIRE with its presets (parts of R94,
R133); a measured trial is kept where it is the best so far, and the next setting is sent (part of R136); probes go out one at a time, in PROBE and, with
PERIOD_MS not 0, in ACTIVE, and a lost one counts, the fourth in a row in ACTIVE as a fault (part of R139); VERIFY without an error makes the link ACTIVE, with
GO_ACTIVE to the camera and LINK_UP (part of R133); a phase that runs out of time fails the attempt, and the next mode down is tried (parts of R133, R134); a failed link,
and one whose RETRAIN is written, trains afresh from its highest mode, with a new epoch (parts of R134, R142).
Model's choices: notes/assumptions/58, 73. -/
def Obligations.LinksTrain : Prop :=
  (∀ (n : Fin 32) (s : State), s.linkState n = 2 →
    Completes (.trainStartResend n) s fun t =>
      (t.lane n).queue = (s.lane n).queue ++ [⟨1, [BitVec.ofNat 8 (s.laneMode n), BitVec.ofNat 8 (s.get (wePage n) Weatas.LINK_STAT_EPOCH),
        0]⟩] ∧ t.regs = s.regs ∧ SameMemory s t ∧ SameFaults s t) ∧
  (∀ (n : Fin 32) (s : State), s.linkState n = 2 →
    Completes (.signalDetected n) s fun t =>
      t.linkState n = 3 ∧ t.rxState n = 2 ∧ t.get (wePage n) Weatas.RX_CTLE_PEAK = modePeak (s.laneMode n) ∧
      t.get (wePage n) Weatas.RX_CTLE_VGA = 24 ∧ (t.lane n).queue = [] ∧ SameMemory s t) ∧
  (∀ (n : Fin 32) (c : RxCoefs) (w : List RxSymbol) (s : State) (p e : Nat), s.linkState n = 6 → (s.lane n).final = false →
    (s.lane n).eqSent = none → w.length = snrWindow → (s.lane n).trial < 20 → (s.adapt n c).slicer n w = (p, e) →
    Completes (.txeqTrialMeasured n (c, w)) s fun t =>
      (t.lane n).trial = (s.lane n).trial + 1 ∧
      (t.lane n).eqSent = some (clampFar (s.lane n).farMax (trialSetting (s.lane n).farMax.1 ((s.lane n).trial + 1))).1 ∧
      ((s.lane n).best = none → (t.lane n).best = some (p, e, (s.lane n).trial)) ∧
      (∀ q d i, (s.lane n).best = some (q, d, i) →
        (t.lane n).best = if q * e < p * d then some (p, e, (s.lane n).trial) else some (q, d, i)) ∧ SameMemory s t ∧ SameFaults s t) ∧
  (∀ (n : Fin 32) (s : State), s.linkState n = 7 ∨ (s.linkState n = 9 ∧ s.get (wePage n) Weatas.PROBE_CFG_PERIOD_MS ≠ 0) →
    (s.lane n).probe = none →
    Completes (.probeSend n) s fun t =>
      (t.lane n).probe = some (((s.lane n).probeId + 1) % 256, none) ∧
      (t.lane n).queue = (s.lane n).queue ++ [⟨5, [BitVec.ofNat 8 (((s.lane n).probeId + 1) % 256)]⟩] ∧
      t.regs = s.regs ∧ SameMemory s t ∧ SameFaults s t) ∧
  (∀ (n : Fin 32) (s : State), (s.lane n).probe.isSome = true →
    Completes (.probeTimeout n) s fun t =>
      (t.lane n).probe = none ∧ (t.lane n).lostRun = (s.lane n).lostRun + 1 ∧
      t.get (wePage n) Weatas.PROBE_STAT_LOST = min (s.get (wePage n) Weatas.PROBE_STAT_LOST + 1) (Weatas.PROBE_STAT_LOST.size - 1) ∧
      (s.linkState n = 9 → 4 ≤ (s.lane n).lostRun + 1 → t.condBit (wePage n) 20 = true) ∧ SameMemory s t) ∧
  (∀ (n : Fin 32) (s : State), s.linkState n = 8 → (s.lane n).verifyBad = false →
    Completes (.verifyPass n) s fun t =>
      t.linkState n = 9 ∧ t.eventBit (wePage n) 16 = true ∧ (t.lane n).trained = true ∧
      (t.lane n).queue = (s.lane n).queue ++ [⟨1, [BitVec.ofNat 8 (s.laneMode n), BitVec.ofNat 8 (s.get (wePage n) Weatas.LINK_STAT_EPOCH),
        1]⟩] ∧
      t.rxState n = (if s.flag (wePage n) Weatas.RX_ADAPT_FREEZE then 4 else 3) ∧ t.condBit (wePage n) 16 = false ∧ SameMemory s t) ∧
  (∀ (n : Fin 32) (s : State), (3 ≤ s.linkState n ∧ s.linkState n ≤ 7) ∨ (s.linkState n = 8 ∧ (s.lane n).verifyBad = true) →
    Completes (.trainPhaseTimeout n) s fun t => Attempts s t n (s.lowerMode n) ∧ t.eventBit (wePage n) 18 = true ∧ SameMemory s t) ∧
  (∀ (n : Fin 32) (s : State), s.linkState n = 11 → Completes (.trainRetry n) s fun t => Attempts s t n (s.firstMode n) ∧ SameMemory s t) ∧
  (∀ (req : Requester) (n : Fin 32) (w : Word) (s : State), s.serves req (regOff (wePage n) Weatas.LINK_CTRL_RETRAIN) = true →
    2 ≤ s.linkState n → w.getLsbD 30 = false → w.getLsbD 29 = false →
    Completes (.linkRetrain req n w) s fun t =>
      Attempts s t n (s.firstMode n) ∧
      (s.linkOperating n = true → t.eventBit (wePage n) 17 = true))

/-- The link test (part of R144), by a write of LINK_CTRL that carries one command alone: TEST_START takes a link that trains or operates to TEST, with its
receiver in ACQUIRE, and queues the message that tells the camera the pattern; until the checker locks the message is sent again; TEST_STOP sends the
stop message at once, and the link trains from its highest mode.
Model's choices: notes/assumptions/5, 76. -/
def Obligations.LinkTestsStartAndStop : Prop :=
  (∀ (req : Requester) (n : Fin 32) (w : Word) (s : State), s.serves req (regOff (wePage n) Weatas.LINK_CTRL_TEST_START) = true →
    2 ≤ s.linkState n → w.getLsbD 31 = false → w.getLsbD 29 = false →
    Completes (.testStart req n w) s fun t =>
      t.linkState n = 12 ∧ t.rxState n = 2 ∧
      (t.lane n).queue = [⟨7, [BitVec.ofNat 8 (t.get (wePage n) Weatas.LINK_CTRL_TEST_PATTERN), 1]⟩] ∧
      t.get (wePage n) Weatas.LINK_CTRL_TEST_PATTERN =
        (if patternOk (w.toNat / 2 ^ 20 % 16) true (s.testMode n) then w.toNat / 2 ^ 20 % 16
          else s.get (wePage n) Weatas.LINK_CTRL_TEST_PATTERN)) ∧
  (∀ (req : Requester) (n : Fin 32) (w : Word) (s : State), s.serves req (regOff (wePage n) Weatas.LINK_CTRL_TEST_STOP) = true →
    s.linkState n = 12 → w.getLsbD 31 = false → w.getLsbD 30 = false →
    Completes (.testStop req n w) s fun t =>
      Attempts s t n (s.firstMode n) ∧
      (∀ b : List Byte, b = BcMessage.bytes ⟨7, [BitVec.ofNat 8 (t.get (wePage n) Weatas.LINK_CTRL_TEST_PATTERN), 0]⟩ →
        t.out = .backChannel n b (messageGroups b (s.lane n).rd).1 :: s.out) ∧ SameMemory s t) ∧
  (∀ (n : Fin 32) (s : State), s.linkState n = 12 → s.flag (wePage n) Weatas.PRBS_CHK_LOCKED = false →
    Completes (.testResend n) s fun t =>
      (t.lane n).queue = (s.lane n).queue ++ [⟨7, [BitVec.ofNat 8 (s.get (wePage n) Weatas.LINK_CTRL_TEST_PATTERN), 1]⟩] ∧
      t.regs = s.regs ∧ SameMemory s t ∧ SameFaults s t)

/-! ## Local CSI-2 ports, frame-sync outputs, triggers (rows 57 to 69, 246) -/

/-- A CSI-2 receive port (parts of R148, R150 to R152). A deskew sequence calibrates it, with the event at the first one. A burst shows every data lane in
LP-11 again, and the clock lane as CONT_CLK says. Before calibration a burst only counts in NODESKEW; one whose sync sequence is bad counts as that; a
one-bit error in the sequence and lanes that do not end together count, and the packet goes on. A packet of a data type that the port does not take is
dropped and counts; a packet of a stream's channel counts and joins the flow of its Inlet, as its header says, broken where the lanes did not end
together. A lost clock counts, is a fault until the clock is back, and puts a GAP mark last into the Inlet's flow. A lane that enters or leaves ULPS
shows, with its event.
Model's choices: notes/assumptions/53, 54. -/
def Obligations.CsiReceptionIsCheckedAndPassedOn : Prop :=
  (∀ (n : Fin 8) (s : State), s.rxEnabled n = true →
    Completes (.deskewReceived n) s fun t =>
      t.flag (rxPage n) CsiRx.RX_STAT_DESKEWED = true ∧
      t.eventBit (rxPage n) 0 = (s.eventBit (rxPage n) 0 || !s.flag (rxPage n) CsiRx.RX_STAT_DESKEWED) ∧
      OnlyRegs s t [fieldKey (rxPage n) CsiRx.RX_STAT_DESKEWED, fieldKey (rxPage n) Hdr.EVT_STAT_EVENT] ∧ SameMemory s t ∧ SameFaults s t) ∧
  (∀ (n : Fin 8) (sync : SyncSequence) (aligned : Bool) (b : List Byte) (start stop : Nat) (s : State), s.rxEnabled n = true →
    Completes (.csiRxBurst n sync aligned b start stop) s fun t =>
      t.get (rxPage n) CsiRx.RX_STAT_STOP = 15 ∧ t.get (rxPage n) CsiRx.RX_STAT_CLK_HS = s.get (rxPage n) CsiRx.RX_CFG_CONT_CLK ∧
      (s.flag (rxPage n) CsiRx.RX_STAT_DESKEWED = false →
        t.get (rxPage n) CsiRx.RX_ERR1_NODESKEW = min (s.get (rxPage n) CsiRx.RX_ERR1_NODESKEW + 1) (2 ^ 16 - 1) ∧ t.ports = s.ports ∧
        t.get (rxPage n) CsiRx.RX_PKTS_COUNT = s.get (rxPage n) CsiRx.RX_PKTS_COUNT ∧ SameFaults s t) ∧
      (s.flag (rxPage n) CsiRx.RX_STAT_DESKEWED = true → sync = .bad →
        t.get (rxPage n) CsiRx.RX_ERR0_SOT_SYNC_ERR = min (s.get (rxPage n) CsiRx.RX_ERR0_SOT_SYNC_ERR + 1) (2 ^ 16 - 1) ∧
        t.ports = s.ports ∧ t.get (rxPage n) CsiRx.RX_PKTS_COUNT = s.get (rxPage n) CsiRx.RX_PKTS_COUNT) ∧
      (s.flag (rxPage n) CsiRx.RX_STAT_DESKEWED = true → sync = .oneBit →
        t.get (rxPage n) CsiRx.RX_ERR0_SOT_ERR = min (s.get (rxPage n) CsiRx.RX_ERR0_SOT_ERR + 1) (2 ^ 16 - 1)) ∧
      (s.flag (rxPage n) CsiRx.RX_STAT_DESKEWED = true → sync ≠ .bad → aligned = false →
        t.get (rxPage n) CsiRx.RX_ERR1_EOT_ALIGN_ERR = min (s.get (rxPage n) CsiRx.RX_ERR1_EOT_ALIGN_ERR + 1) (2 ^ 16 - 1)) ∧
      (∀ h, s.flag (rxPage n) CsiRx.RX_STAT_DESKEWED = true → sync ≠ .bad → readHeader b = some h → rxAccepts (bitsOf h.2 5 0) = false →
        t.get (rxPage n) CsiRx.RX_ERR2_DT_DROP = min (s.get (rxPage n) CsiRx.RX_ERR2_DT_DROP + 1) (2 ^ 16 - 1) ∧ t.ports = s.ports ∧
        t.get (rxPage n) CsiRx.RX_PKTS_COUNT = s.get (rxPage n) CsiRx.RX_PKTS_COUNT) ∧
      (∀ h i, s.flag (rxPage n) CsiRx.RX_STAT_DESKEWED = true → sync ≠ .bad → readHeader b = some h → rxAccepts (bitsOf h.2 5 0) = true →
        h.2 < 2 ^ 24 → s.ready ⟨.inlet, 32 + n, 0⟩ = true → (s.framePlan (4 * (32 + n) + bitsOf h.2 7 6)).isSome = true →
        s.claimer (32 + n) (bitsOf h.2 7 6) = none → readPacket h.2 b (!aligned) (s.stampAt start) stop = some i →
        t.get (rxPage n) CsiRx.RX_PKTS_COUNT = (s.get (rxPage n) CsiRx.RX_PKTS_COUNT + 1) % 2 ^ 32 ∧
        (t.port (32 + n)).inbox = (s.port (32 + n)).inbox ++ [i]) ∧
      SameMemory s t) ∧
  (∀ (n : Fin 8) (b : List Byte) (start stop : Nat) (s : State), s.rxEnabled n = true → s.flag (rxPage n) CsiRx.RX_CFG_CONT_CLK = true →
    s.condBit (rxPage n) 1 = false →
    Completes (.clkLoss n b start stop) s fun t =>
      t.condBit (rxPage n) 1 = true ∧ t.flag (rxPage n) CsiRx.RX_STAT_CLK_HS = false ∧ t.eventBit (rxPage n) 1 = true ∧
      t.get (rxPage n) CsiRx.RX_ERR2_CLK_LOSS = min (s.get (rxPage n) CsiRx.RX_ERR2_CLK_LOSS + 1) (2 ^ 16 - 1) ∧
      (s.ready ⟨.inlet, 32 + n, 0⟩ = true → (t.port (32 + n)).inbox.getLast? = some { kind := .gap, vc := 0 }) ∧ SameMemory s t) ∧
  (∀ (n : Fin 8) (s : State), s.condBit (rxPage n) 1 = true →
    Completes (.csiClkReturn n) s fun t =>
      t.condBit (rxPage n) 1 = false ∧ t.flag (rxPage n) CsiRx.RX_STAT_CLK_HS = true ∧ t.due = s.due ∧
      OnlyRegs s t [fieldKey (rxPage n) CsiRx.RX_STAT_CLK_HS, fieldKey (rxPage n) Hdr.FLT_STAT_FAULT] ∧ SameMemory s t) ∧
  (∀ (n : Fin 8) (lane : Fin 4) (enter : Bool) (s : State), s.ready ⟨.csiRx, n, 0⟩ = true → hasBit (s.rxLanes n) lane = true →
    Completes (.ulpsTransition n lane enter) s fun t =>
      hasBit (t.get (rxPage n) CsiRx.RX_STAT_ULPS) lane = enter ∧
      (hasBit (s.get (rxPage n) CsiRx.RX_STAT_ULPS) lane = !enter →
        hasBit (t.get (rxPage n) CsiRx.RX_STAT_STOP) lane = !enter ∧ t.eventBit (rxPage n) (if enter then 2 else 3) = true) ∧
      OnlyRegs s t [fieldKey (rxPage n) CsiRx.RX_STAT_ULPS, fieldKey (rxPage n) CsiRx.RX_STAT_STOP,
        fieldKey (rxPage n) Hdr.EVT_STAT_EVENT] ∧ SameMemory s t ∧ SameFaults s t)

/-- A CSI-2 transmit slot (parts of R154, R155, R157, R159). The first unit of a line-paced frame waits in its frame, a line longer than 32,768 bytes cut to
that; in burst mode the frame's line 0 starts the frame, and its packets stand on the wire. A second copy of a sentinel line only counts. At its slot
frame start goes out with the frame's number; a line that is complete goes out at its slot, and one that is not is late, and on a slot of no sentinel
counts as that. A sentinel line that is not there after its margin is sent as the hold copy of its stream and counts as held; where there is no copy, it
counts as late and nothing goes out. When a packet has left, the next one starts, and a sent line is the new hold copy.
Model's choices: notes/assumptions/53, 55, 65, 79. -/
def Obligations.TransmitSlotsSendTheirFrames : Prop :=
  (∀ (m : Fin 2) (k : Fin 4) (h : Fin 2) (begun : Nat) (u : PortUnit) (s : State) (b : Nat × Nat × Bool),
    (s.txSlot m k).bound = some (u.key / 2 ^ 32, b) → s.txEnabled m = true → s.txSentinel m k u.key = false →
    (s.txSlot m k).ended.contains u.key = false → (s.txSlot m k).frames = [] → (s.tx m).wire = [] → u.record = false → u.withheld = false →
    Completes (.txUnitReceived m k h begun u) s fun t =>
      ((s.txFields m k u.key).getD 0 0 = 1 → t.out = s.out ∧ t.get (txPage m) CsiTx.TX_STAT_ACTIVE = s.get (txPage m) CsiTx.TX_STAT_ACTIVE ∧
        (t.txSlot m k).frames = [{ key := u.key, lines := [(u.line, u.bytes.take 32768)], truncated := decide (32768 < u.bytes.length),
                                   long := decide (32768 < u.bytes.length) }]) ∧
      ((s.txFields m k u.key).getD 0 0 ≠ 1 → u.line = 0 → (s.txFields m k u.key).getD 1 0 = 0 →
        hasBit (t.get (txPage m) CsiTx.TX_STAT_ACTIVE) k = true ∧
        t.out = .csiPacket m (txHeader ((s.txFields m k u.key).getD 2 0) 0 (u.key % 2 ^ 32 % 65535 + 1)) :: s.out ∧
        (t.tx m).wire.map (·.bytes) = [txHeader ((s.txFields m k u.key).getD 2 0) 0 (u.key % 2 ^ 32 % 65535 + 1),
          txLong ((s.txFields m k u.key).getD 2 0) ((s.txFields m k u.key).getD 4 0) (u.bytes.take 32768)]) ∧
      SameMemory s t) ∧
  (∀ (m : Fin 2) (k : Fin 4) (h : Fin 2) (begun : Nat) (u : PortUnit) (s : State),
    s.txCarries m k u.key = true → s.txSentinel m k u.key = true → s.txEnabled m = true → s.actedAt h u.stream begun = true →
    (s.txSlot m k).accepted.contains (u.key, u.line) = true →
    Completes (.txUnitReceived m k h begun u) s fun t =>
      t.get (txPage m) CsiTx.TX_DUP_COUNT = min (s.get (txPage m) CsiTx.TX_DUP_COUNT + 1) (2 ^ 32 - 1) ∧ t.csiTx = s.csiTx ∧ t.out = s.out ∧
      OnlyRegs s t [fieldKey (txPage m) CsiTx.TX_DUP_COUNT] ∧ SameMemory s t ∧ SameFaults s t) ∧
  (∀ (m : Fin 2) (k : Fin 4) (seq key : Nat) (s : State), key = s.txKey m k seq → s.txEnabled m = true → s.txCarries m k key = true →
    (s.txFields m k key).getD 0 0 = 1 → (s.txSlot m k).ended.contains key = false → (s.txSlot m k).frames = [] → (s.tx m).wire = [] →
    Completes (.txLineSlot m k seq .frameStart) s fun t =>
      t.out = .csiPacket m (txHeader ((s.txFields m k key).getD 2 0) 0 (key % 2 ^ 32 % 65535 + 1)) :: s.out ∧
      (t.txSlot m k).frames = [{ key, started := true }] ∧ hasBit (t.get (txPage m) CsiTx.TX_STAT_ACTIVE) k = true ∧ SameMemory s t ∧
      SameFaults s t) ∧
  (∀ (m : Fin 2) (k : Fin 4) (seq key i : Nat) (f : TxFrame) (s : State), key = s.txKey m k seq → s.txEnabled m = true →
    (s.txFields m k key).getD 0 0 = 1 → (s.txSlot m k).ended.contains key = false → (s.txSlot m k).frames = [f] → f.key = key →
    f.started = true → f.slots = [] → (s.txFields m k key).getD 1 0 = 0 → (s.tx m).wire = [] →
    Completes (.txLineSlot m k seq (.line i)) s fun t =>
      (∀ j b, f.lines.find? (fun l => l.1 == i) = some (j, b) →
        t.out = .csiPacket m (txLong ((s.txFields m k key).getD 2 0) ((s.txFields m k key).getD 4 0) b) :: s.out ∧
        (t.txSlot m k).frames = [{ f with lines := f.lines.filter fun l => l.1 != i }] ∧ (t.txSlot m k).heldRun = 0 ∧
        t.get (txPage m) CsiTx.TX_LATE_CUT_LATE = s.get (txPage m) CsiTx.TX_LATE_CUT_LATE) ∧
      (f.lines.find? (fun l => l.1 == i) = none →
        t.out = s.out ∧ (t.txSlot m k).frames = [{ f with slots := [.line i] }] ∧
        t.get (txPage m) CsiTx.TX_LATE_CUT_LATE = (if s.txSentinel m k key then s.get (txPage m) CsiTx.TX_LATE_CUT_LATE
          else min (s.get (txPage m) CsiTx.TX_LATE_CUT_LATE + 1) (2 ^ 16 - 1))) ∧ SameMemory s t ∧ SameFaults s t) ∧
  (∀ (m : Fin 2) (k : Fin 4) (seq key i : Nat) (s : State) (f : TxFrame), key = s.txKey m k seq → s.txEnabled m = true →
    s.txSentinel m k key = true → s.txFrame m k key = some f → f.started = true → f.slots.contains (.line i) = true →
    Completes (.txHoldMargin m k seq i) s fun t =>
      ((s.txSlot m k).hold.filter (fun e => e.1 == key / 2 ^ 32) = none →
        t.get (txPage m) CsiTx.TX_LATE_CUT_LATE = min (s.get (txPage m) CsiTx.TX_LATE_CUT_LATE + 1) (2 ^ 16 - 1) ∧ t.out = s.out ∧
        t.csiTx = s.csiTx) ∧
      (∀ b, (s.txSlot m k).hold = some (key / 2 ^ 32, b) → (s.txSlot m k).heldRun + 1 < (s.txFields m k key).getD 3 0 →
        (s.txFields m k key).getD 1 0 = 0 → (s.tx m).wire = [] →
        t.get (txPage m) CsiTx.TX_HELD_COUNT = min (s.get (txPage m) CsiTx.TX_HELD_COUNT + 1) (2 ^ 32 - 1) ∧
        (t.txSlot m k).heldRun = (s.txSlot m k).heldRun + 1 ∧ hasBit (t.get (txPage m) CsiTx.TX_STAT_HOLDING) k = true ∧
        t.out = .csiPacket m (txLong ((s.txFields m k key).getD 2 0) ((s.txFields m k key).getD 4 0) b) :: s.out) ∧
      SameMemory s t) ∧
  (∀ (m : Fin 2) (s : State) (p : TxPacket) (r : List TxPacket), (s.tx m).wire = p :: r →
    Completes (.txPacketSent m) s fun t =>
      (t.tx m).wire = (if s.terminal then [] else r) ∧ (∀ b, p.hold = some b → (t.txSlot m p.slot).hold = some b) ∧
      (∀ q l, r = q :: l → s.terminal = false → t.out = (if q.bytes = [] then .deskew m else .csiPacket m q.bytes) :: s.out) ∧
      (r = [] ∨ s.terminal = true → t.out = s.out) ∧ SameMemory s t ∧ SameFaults s t)

/-- Local frame-sync outputs and trigger inputs (parts of R160 to R162, R198). An output drives its next scheduled edge and counts it; with no ball it counts
the edge as missed, and where it does not drive the ball, or its port sends no edges any more, the edge is not sent and its decision turns into
PATH_MISSED. A pulse ends. A ball that reads differently from what is driven takes the driver off, with its fault. A filtered trigger edge of the
selected direction is stamped with the active-domain time at the ball and queued; a full queue loses it and shows OVERFLOW; a read of TRIG_TIME_LO
returns the head stamp's low word, 0 with an empty queue, and takes it off the queue.
Model's choices: notes/assumptions/5. -/
def Obligations.FrameSyncEdgesAndTriggers : Prop :=
  (∀ (i : Fin 8) (s : State) (at_ : Int) (tide : Nat) (r : List (Int × Nat)), (s.csi i).edges = (at_, tide) :: r →
    Completes (.lfsEdge i) s fun t =>
      (t.csi i).edges = r ∧
      (s.hasBall 2 i = true → s.lfsDrives i = true → s.syncGate (32 + i) = true →
        t.out = .lfsEdge i at_ :: s.out ∧ t.get (rxPage i) CsiRx.LFS_SENT_COUNT =
          (s.get (rxPage i) CsiRx.LFS_SENT_COUNT + 1) % CsiRx.LFS_SENT_COUNT.size ∧
        (∀ e k l, r = (e, k) :: l → (t.csi i).pulse = some (at_, min (at_ + 16 * s.get (rxPage i) CsiRx.LFS_CFG_WIDTH_NS) (e - 320))) ∧
        (r = [] → (t.csi i).pulse = some (at_, at_ + 16 * s.get (rxPage i) CsiRx.LFS_CFG_WIDTH_NS)) ∧
        OnlyRegs s t [fieldKey (rxPage i) CsiRx.LFS_SENT_COUNT] ∧ SameFaults s t) ∧
      (s.hasBall 2 i = false → t.eventBit (rxPage i) 4 = true ∧
        t.get (rxPage i) CsiRx.LFS_STAT_MISSED = min (s.get (rxPage i) CsiRx.LFS_STAT_MISSED + 1) (CsiRx.LFS_STAT_MISSED.size - 1)) ∧
      (s.hasBall 2 i = false ∨ s.lfsDrives i = false ∨ s.syncGate (32 + i) = false →
        t.out = s.out ∧ (t.csi i).pulse = (s.csi i).pulse ∧
        ∀ d ∈ (s.syncOf (32 + i)).decisions, d.tide = tide → d.reason = 0 → t.get (inPage (32 + i)) Inlet.SYNC_STAT_LAST_REASON = 4) ∧
      SameMemory s t) ∧
  (∀ (i : Fin 8) (s : State),
    Completes (.lfsPulseEnd i) s fun t =>
      (t.csi i).pulse = none ∧ (t.csi i).edges = (s.csi i).edges ∧ t.regs = s.regs ∧ SameMemory s t ∧ SameFaults s t) ∧
  (∀ (i : Fin 8) (level : Bool) (s : State), s.lfsDrives i = true → s.hasBall 2 i = true →
    Completes (.lfsReadback i level) s fun t =>
      (s.lfsLevel i = level ∨ (s.flag (rxPage i) CsiRx.LFS_CFG_OD = true ∧ level = true) → t = s) ∧
      (s.lfsLevel i ≠ level → s.flag (rxPage i) CsiRx.LFS_CFG_OD = false ∨ level = false →
        t.flag (rxPage i) CsiRx.LFS_STAT_OFF = true ∧ t.condBit (rxPage i) 2 = true ∧ t.lfsDrives i = false ∧ (t.csi i).pulse = none) ∧
      SameMemory s t) ∧
  (∀ (n : Fin 8) (falling : Bool) (back : Nat) (s : State), s.flag (rxPage n) CsiRx.TRIG_CFG_EN = true → s.hasBall 3 n = true →
    (s.get (rxPage n) CsiRx.TRIG_CFG_EDGE = 2 ∨ s.get (rxPage n) CsiRx.TRIG_CFG_EDGE = bit falling) →
    Completes (.trigEdge n falling back) s fun t =>
      ((s.csi n).triggers.length < 16 →
        (t.csi n).triggers = (s.csi n).triggers ++ [(s.activeTime ((s.time.c - back) * 2 ^ 32) / 2 ^ 32, falling)] ∧
        t.get (rxPage n) CsiRx.TRIG_STAT_COUNT = (s.csi n).triggers.length + 1 ∧
        ((s.csi n).triggers = [] → t.eventBit (rxPage n) 5 = true)) ∧
      (16 ≤ (s.csi n).triggers.length → t.flag (rxPage n) CsiRx.TRIG_STAT_OVERFLOW = true ∧ t.csiRx = s.csiRx ∧
        t.eventBit (rxPage n) 6 = true) ∧ SameMemory s t ∧ SameFaults s t) ∧
  (∀ (req : Requester) (n : Fin 8) (s : State), s.servesRead req (regOff (rxPage n) CsiRx.TRIG_TIME_LO_TIME) = true →
    (s.csi n).triggers.length ≤ 16 →
    Completes (.trigPop req n) s fun t =>
      (∀ at_ falling r, (s.csi n).triggers = (at_, falling) :: r →
        t.out = .readData req (regOff (rxPage n) CsiRx.TRIG_TIME_LO_TIME) [at_ % 2 ^ 32] :: s.out ∧ (t.csi n).triggers = r) ∧
      ((s.csi n).triggers = [] →
        t.out = .readData req (regOff (rxPage n) CsiRx.TRIG_TIME_LO_TIME) [0] :: s.out ∧ (t.csi n).triggers = []) ∧
      t.get (rxPage n) CsiRx.TRIG_STAT_COUNT = (s.csi n).triggers.length - 1 ∧
      OnlyRegs s t [fieldKey (rxPage n) CsiRx.TRIG_STAT_COUNT] ∧ SameMemory s t ∧ SameFaults s t)

/-! ## Inlets and capture sync (rows 70 to 76) -/

/-- The life of a frame at its Inlet (parts of R171 to R174, R177, R190). An accepted frame start takes the next sequence number and the time of its arrival; a
frame that is open closes first, and counts in FRAMING. It opens a frame, IN_FRAME, where no rule holds it and a part of it can start; where a rule
holds it, or no part can start, the stream is in DISCARD, with its count and event. A line of the open frame takes the next place of its exposure, in
error where its packet is bad, which counts; with ERR_END = 1 a line in error closes the frame; a line beyond the last row only counts in GEOM. A packet
of a planned stream that has no open frame only counts. An embedded packet of the open frame is counted in its order. A frame end closes the frame,
IDLE, and so does a line timeout, DISCARD; a frame that closes with a row missing and a part running counts as truncated.
Model's choices: notes/assumptions/51, 52, 84. -/
def Obligations.FramesOpenAndCloseAtTheInlet : Prop :=
  (∀ (n : Fin 40) (s : State) (i : InletItem) (r : List InletItem) (p : Plan) (e : PlanStream) (x : Nat),
    (s.port n).inbox = i :: r → i.kind = .frameStart → i.vc < 4 → s.claimer n i.vc = none → x = 4 * n + i.vc →
    s.tide.livePlan = some p → s.streamPlan x = some e →
    Completes (.frameStart n) s fun t =>
      (t.port n).inbox = r ∧ t.st x StreamTab.ST_SEQ_SEQ = (s.st x StreamTab.ST_SEQ_SEQ + 1) % 2 ^ 32 ∧
      t.st x StreamTab.ST_SOF_LO_TIME + t.st x StreamTab.ST_SOF_HI_TIME * 2 ^ 32 = nearestNs i.stamp % 2 ^ 64 ∧
      t.get (inPage n) Inlet.IN_ERR2_FRAMING = (if s.streamState x = 1 then min (s.get (inPage n) Inlet.IN_ERR2_FRAMING + 1)
        (Inlet.IN_ERR2_FRAMING.size - 1) else s.get (inPage n) Inlet.IN_ERR2_FRAMING) ∧
      ((s.stream x).lastTide ≠ some (s.famTide e.family) → (s.stream x).gapDue = false → s.inlineHeld e = false →
        s.stLive x StreamTab.ST_ROUTE_EN ≠ 0 →
        (∃ c ∈ e.parts, c < 16 ∧ s.partStarts e c = true) → (e.isMemory = true → ∀ f ∈ s.frames, f.stream ≠ x) →
        t.streamState x = 1) ∧
      ((s.stream x).lastTide = some (s.famTide e.family) ∨ (s.stream x).gapDue = true ∨ s.inlineHeld e = true ∨
          s.stLive x StreamTab.ST_ROUTE_EN = 0 ∨ (∀ c ∈ e.parts, s.partStarts e c = false) →
        t.streamState x = 2 ∧ (t.stream x).parts = [] ∧ t.eventBit (inPage n) 3 = true ∧
        t.st x StreamTab.ST_CNT1_DISCARDED = min (s.st x StreamTab.ST_CNT1_DISCARDED + 1) (StreamTab.ST_CNT1_DISCARDED.size - 1)) ∧
      SameMemory s t) ∧
  (∀ (n : Fin 40) (s : State) (i : InletItem) (r : List InletItem) (e : PlanStream) (u x row j taken : Nat),
    (s.port n).inbox = i :: r → i.kind = .pixel → i.vc < 4 → u = (s.claimer n i.vc).getD i.vc → x = 4 * n + u →
    s.framePlan x = some e → e.stream = x → taken = (s.stream x).counts.foldl (· + ·) 0 →
    (row, j) = (if Latch.field (s.stream x).latch (inPage n) (Inlet.IN_VC_CFG_EXP_VC.nth u) = 1 ∧ u + e.exposures ≤ 4
      then ((s.stream x).counts.getD (i.vc - u) 0, i.vc - u) else (taken / e.exposures, taken % e.exposures)) →
    Completes (.pixelPacket n) s fun t =>
      (t.port n).inbox = r ∧
      (s.streamState x ≠ 1 → t.streams = s.streams ∧ t.frames = s.frames ∧ SameFaults s t ∧
        t.st x StreamTab.ST_CNT3_LATE_DROP = min (s.st x StreamTab.ST_CNT3_LATE_DROP + 1) (StreamTab.ST_CNT3_LATE_DROP.size - 1)) ∧
      (s.streamState x = 1 → e.activeLines ≤ row → t.frames = s.frames ∧ (t.stream x).counts = (s.stream x).counts ∧
        t.st x StreamTab.ST_CNT2_GEOM = min (s.st x StreamTab.ST_CNT2_GEOM + 1) (StreamTab.ST_CNT2_GEOM.size - 1)) ∧
      (s.streamState x = 1 → row < e.activeLines → (checkLine e i).bad = true →
        t.st x StreamTab.ST_CNT2_LINE_ERR = min (s.st x StreamTab.ST_CNT2_LINE_ERR + 1) (StreamTab.ST_CNT2_LINE_ERR.size - 1)) ∧
      (s.streamState x = 1 → row < e.activeLines → (checkLine e i).bad = true → s.stLatched x StreamTab.ST_ROUTE_ERR_END = 1 →
        t.streamState x = 2 ∧ (t.stream x).parts = []) ∧
      (s.streamState x = 1 → row < e.activeLines → (checkLine e i).bad = false ∨ s.stLatched x StreamTab.ST_ROUTE_ERR_END ≠ 1 →
        (t.stream x).counts = (s.stream x).counts.modify j (· + 1) ∧ t.streamState x = 1 ∧
        (t.stream x).lineErr = ((s.stream x).lineErr || (checkLine e i).bad)) ∧ SameMemory s t) ∧
  (∀ (n : Fin 40) (s : State) (i : InletItem) (r : List InletItem), (s.port n).inbox = i :: r → i.kind = .embedded → i.vc < 4 →
    s.claimer n i.vc = none →
    Completes (.embeddedPacket n) s fun t =>
      (s.streamState (4 * n + i.vc) = 1 → (t.stream (4 * n + i.vc)).embedded = (s.stream (4 * n + i.vc)).embedded + 1) ∧
      (s.streamState (4 * n + i.vc) ≠ 1 → (s.streamPlan (4 * n + i.vc)).isSome = true →
        t.streams = s.streams ∧ t.st (4 * n + i.vc) StreamTab.ST_CNT3_LATE_DROP =
          min (s.st (4 * n + i.vc) StreamTab.ST_CNT3_LATE_DROP + 1) (StreamTab.ST_CNT3_LATE_DROP.size - 1)) ∧
      (t.port n).inbox = r ∧ t.frames = s.frames ∧ SameMemory s t ∧ SameFaults s t) ∧
  (∀ (n : Fin 40) (s : State) (i : InletItem) (r : List InletItem) (x : Nat), (s.port n).inbox = i :: r → i.kind = .frameEnd → i.vc < 4 →
    s.claimer n i.vc = none → x = 4 * n + i.vc → s.streamState x = 1 →
    Completes (.frameEnd n) s fun t => (t.port n).inbox = r ∧ t.streamState x = 0 ∧ (t.stream x).parts = [] ∧
      t.st x StreamTab.ST_FRAMES_COUNT = (s.st x StreamTab.ST_FRAMES_COUNT + 1) % StreamTab.ST_FRAMES_COUNT.size ∧
      t.get (inPage n) Inlet.IN_ERR2_FRAMING = (if i.num = (s.stream x).num then s.get (inPage n) Inlet.IN_ERR2_FRAMING
        else min (s.get (inPage n) Inlet.IN_ERR2_FRAMING + 1) (Inlet.IN_ERR2_FRAMING.size - 1)) ∧
      (∀ e, (s.stream x).plan = some e → (s.stream x).wholeRows < e.activeLines → (∃ q ∈ (s.stream x).parts, q.status = none) →
        t.eventBit (inPage n) 0 = true ∧
        t.st x StreamTab.ST_CNT0_TRUNC = min (s.st x StreamTab.ST_CNT0_TRUNC + 1) (StreamTab.ST_CNT0_TRUNC.size - 1)) ∧ SameMemory s t) ∧
  (∀ (x : Fin 160) (s : State), s.streamState x = 1 →
    Completes (.lineTimeout x) s fun t => t.streamState x = 2 ∧ (t.stream x).parts = [] ∧
      t.st x StreamTab.ST_FRAMES_COUNT = (s.st x StreamTab.ST_FRAMES_COUNT + 1) % StreamTab.ST_FRAMES_COUNT.size ∧
      ((∃ q ∈ (s.stream x).parts, q.status = none) → t.eventBit (inPage (x / 4)) 0 = true ∧
        t.st x StreamTab.ST_CNT0_TRUNC = min (s.st x StreamTab.ST_CNT0_TRUNC + 1) (StreamTab.ST_CNT0_TRUNC.size - 1)) ∧ SameMemory s t)

/-- A GAP mark (part of R178) closes every open frame of the port and takes every planned or open stream of it to DISCARD, counts in IN_GAPS and sets the
Inlet's event; a stream that is neither stays as it is.
Model's choices: notes/assumptions/52. -/
def Obligations.AGapMarkDiscardsThePortsFrames : Prop :=
  ∀ (n : Fin 40) (s : State) (i : InletItem) (r : List InletItem), (s.port n).inbox = i :: r → i.kind = .gap →
    Completes (.gapMark n) s fun t =>
      (t.port n).inbox = r ∧ t.eventBit (inPage n) 4 = true ∧
      t.get (inPage n) Inlet.IN_GAPS_COUNT = min (s.get (inPage n) Inlet.IN_GAPS_COUNT + 1) (Inlet.IN_GAPS_COUNT.size - 1) ∧
      (∀ v < 4, s.streamState (4 * n + v) = 1 → (t.stream (4 * n + v)).parts = [] ∧ t.st (4 * n + v) StreamTab.ST_FRAMES_COUNT =
        (s.st (4 * n + v) StreamTab.ST_FRAMES_COUNT + 1) % StreamTab.ST_FRAMES_COUNT.size) ∧
      (∀ v < 4, s.streamState (4 * n + v) = 1 ∨ (s.streamPlan (4 * n + v)).isSome = true → t.streamState (4 * n + v) = 2) ∧
      (∀ v < 4, s.streamState (4 * n + v) ≠ 1 → s.streamPlan (4 * n + v) = none → t.streamState (4 * n + v) = s.streamState (4 * n + v))

/-- A sync decision (parts of R205, R206): at Q(k) each driven port of the family that has not decided tide k yet decides it. No port decides a tide twice,
and no other port decides anything. A Weatas port whose link does not operate decides NO_LINK: it shows as the last reason, counts as skipped, and
queues no FSYNC. Where tide k's boundary would lie before the family's first tide, nothing is decided.
Model's choices: notes/assumptions/57, 84. -/
def Obligations.EachPortDecidesATideOnce : Prop :=
  ∀ (f : Fin 4) (s : State) (mid hor k ahead : Nat) (clamped : Bool), s.famActive f = true → s.planLive = true →
    s.syncFamily_ f = (mid, hor, clamped) → ahead = (if hor ≤ mid then 0 else 1) →
    k = (if hasBit s.tide.famStarted f = true then (s.famTide f + ahead) % 2 ^ 32
      else if hasBit s.tide.famEver f = true then (s.famTide f + 1) % 2 ^ 32 else 0) →
    Completes (.syncDecision f) s fun t =>
      (hasBit s.tide.famStarted f = false → ahead = 0 → t = s) ∧
      (hasBit s.tide.famStarted f = true ∨ ahead = 1 →
        (∀ n ∈ s.syncPorts f, (t.syncOf n).decisions.any (fun d => d.tide == k) = true) ∧
        (∀ n ∈ s.syncPorts f, (s.syncOf n).decisions.any (fun d => d.tide == k) = false → s.sy n Inlet.SYNC_CFG_MODE = 1 →
          s.linkOperating n = false →
          t.get (inPage n) Inlet.SYNC_STAT_LAST_REASON = 3 ∧ (t.lane n).fsyncs = (s.lane n).fsyncs ∧ t.eventBit syncPage 0 = true ∧
          t.get (inPage n) Inlet.SYNC_CNT0_SKIPPED = min (s.get (inPage n) Inlet.SYNC_CNT0_SKIPPED + 1) (Inlet.SYNC_CNT0_SKIPPED.size - 1)) ∧
        (clamped = true → t.eventBit syncPage 4 = true)) ∧
      (∀ n, n ∉ s.syncPorts f ∨ (s.syncOf n).decisions.any (fun d => d.tide == k) = true →
        (t.syncOf n).decisions.map (·.tide) = (s.syncOf n).decisions.map (·.tide)) ∧ t.tide = s.tide ∧ SameMemory s t

/-! ## Coves (rows 77 to 81) -/

/-- A Cove (parts of R220, R258, R270, R271, R273, R277, R293). The first table read that has ended is over: its bytes are the table's, or its failure is. A free
Cove starts the chunk that has waited longest, once the tables it needs are there, and WAIT_MAX keeps the longest wait; where no chunk waits, it starts
the first slice job that can run. A unit that ends frees the Cove, is noted as busy time, and counts as a job or a chunk. A statistics block whose
writes have all ended is done, with the event that says whether one failed. The record of a finished frame goes to the output's channel: the 64 bytes
that R273 lays out, or, for a withheld frame that goes to no CSI-2 port, a note with them.
Model's choices: notes/assumptions/50, 51, 61, 84. -/
def Obligations.CovesProcessUnitsAndIssueRecords : Prop :=
  (∀ (n : Fin 16) (s : State) (o : CoveOp) (r : MemResult) (tt : CoveTable),
    (s.cove n).ops.find? (fun o => o.isTable && (s.harb (n / 8)).results.any fun r =>
      r.requester == 1 && r.source == o.stream && r.tag == o.tag) = some o → o.work = .table tt →
    (s.harb (n / 8)).results.find? (fun r => r.requester == 1 && r.source == o.stream && r.tag == o.tag) = some r →
    Completes (.tableReadDone n) s fun t =>
      (t.harb (n / 8)).results.length + 1 = (s.harb (n / 8)).results.length ∧ (∀ q ∈ (t.cove n).ops, q.tag ≠ o.tag) ∧
      (∀ f p d, s.partOf n o.stream o.seq = some (f, p) → p.read tt = some d →
        ∃ g q e, t.partOf n o.stream o.seq = some (g, q) ∧ q.read tt = some e ∧ e.left = d.left - o.size ∧
          (r.cause = 0 → e.got = d.got ++ [(o.off, sliceBytes r.bytes 0 o.size)] ∧ e.fail = d.fail) ∧
          (r.cause ≠ 0 → e.got = d.got ∧ e.fail = some (min o.off (d.fail.getD o.off)))) ∧ t.tide = s.tide ∧ SameMemory s t) ∧
  (∀ (n : Fin 16) (s : State) (u : CoveUnit) (r : List CoveUnit), s.ready ⟨.cove, n, 0⟩ = true → (s.cove n).unit = none →
    (s.cove n).store = u :: r → s.unitReadyFor n u = true →
    Completes (.coveUnitStart n) s fun t =>
      (t.cove n).unit = some (s.time.c, u) ∧ (t.cove n).store = r ∧
      t.get (covePage n 0) Cove.WAIT_MAX_CYCLES = max (s.get (covePage n 0) Cove.WAIT_MAX_CYCLES) (min (s.time.c - u.ready) 255) % 256 ∧
      t.frames = s.frames ∧ SameMemory s t) ∧
  (∀ (n : Fin 16) (s v : State) (b : SliceBuf) (u : CoveUnit), s.ready ⟨.cove, n, 0⟩ = true → (s.cove n).unit = none →
    (s.cove n).store = [] → v = s.retryOps n →
    (v.rankedContexts n).findSome? (fun c => (v.nextSlice n c).filter fun e => v.unitReadyFor n e.2) = some (b, u) →
    Completes (.coveUnitStart n) s fun t =>
      (t.cove n).unit = some (s.time.c, u) ∧ (t.cove n).slices = (s.cove n).slices.erase b ∧ SameMemory s t) ∧
  (∀ (n : Fin 16) (s : State) (at_ : Nat) (u : CoveUnit), (s.cove n).unit = some (at_, u) →
    Completes (.coveUnitEnd n) s fun t => (t.cove n).unit = none ∧ (at_, s.time.c) ∈ (t.cove n).busy ∧ t.time = s.time ∧
      (u.entry.isSome = true ∨ u.run.codes = [] →
        t.get (covePage n 0) Cove.JOBS_COUNT = (s.get (covePage n 0) Cove.JOBS_COUNT + 1) % Cove.JOBS_COUNT.size) ∧
      (u.entry = none → u.run.codes ≠ [] → ((s.partOf n u.stream u.seq).any fun e => e.1.memory) = false →
        t.get (covePage n 0) Cove.CHUNKS_COUNT = (s.get (covePage n 0) Cove.CHUNKS_COUNT + 1) % Cove.CHUNKS_COUNT.size) ∧ SameMemory s t) ∧
  (∀ (n : Fin 16) (s : State) (o : CoveOp), (s.cove n).ops.find? (fun o => o.work == .stat) = some o →
    (∀ q ∈ (s.cove n).ops, q.work = .stat → q.stream = o.stream → q.seq = o.seq →
      ((s.harb (n / 8)).results.any fun r => r.requester == 1 && r.source == q.stream && r.tag == q.tag) = true) →
    Completes (.statBlockWritten n) s fun t =>
      (∀ q ∈ (t.cove n).ops, q.work = .stat → q.stream = o.stream → q.seq ≠ o.seq) ∧
      ((∀ r ∈ (s.harb (n / 8)).results, r.requester = 1 → r.source = o.stream → r.cause = 0) → t.eventBit (covePage n 8) 0 = true) ∧
      (∀ q ∈ (s.cove n).ops, q.work = .stat → q.stream = o.stream → q.seq = o.seq →
        (∀ r ∈ (s.harb (n / 8)).results, r.requester = 1 → r.source = q.stream → r.tag = q.tag → r.cause ≠ 0) →
        t.eventBit (covePage n 8) 1 = true) ∧ SameMemory s t) ∧
  (∀ (n : Fin 16) (s : State) (f : HalfFrame) (o : OutFrame) (p : CovePart) (reset : Bool) (pcrc sig : Nat) (b : List Byte),
    s.frames.find? (fun f => f.issues n) = some f → f.outs.find? (fun o => !o.issued) = some o → f.part n = some p →
    reset = s.chainResets p.latch n p.context (f.parts.map fun q => (q.cove, q.context)) o.k f.seq → pcrc = crc32c (sortedBytes o.sent) →
    sig = crc32c (sigBlock (if reset then 0 else s.chainValue n p.context o.k) f.stream o.k (f.flags o reset) f.seq f.tide f.mid o.count pcrc) →
    b = f.record o (f.flags o reset) pcrc sig →
    Completes (.frameRecordIssue n) s fun t =>
      b.length = 64 ∧ fieldLE b 4 4 = f.seq % 2 ^ 32 ∧ fieldLE b 8 4 = f.tide % 2 ^ 32 ∧ fieldLE b 60 4 = crc32c (b.take 60) ∧
      (f.suppress = true → f.isPartial = true → o.isCsi = false →
        (t.ch o.channel).inbox = (s.ch o.channel).inbox ++ [⟨frameKey f.stream f.seq, o.dest, f.sentinel != 0xFF, .withheld b⟩]) ∧
      (f.suppress = false ∨ f.isPartial = false ∨ o.isCsi = true →
        (t.ch o.channel).inbox = (s.ch o.channel).inbox ++ [⟨frameKey f.stream f.seq, o.dest, f.sentinel != 0xFF,
          .record ((o.sent.map (fun u => u.1 + u.2.length)).foldl max 0) b o.k (f.parts.map fun q => (q.cove, q.context))
            (f.suppress && f.isPartial)⟩]) ∧ SameMemory s t)

/-! ## The Harbour (rows 82 to 92) -/

/-- A Harbour's channels, fill and scrub (parts of R284, R286, R287, R289, R290). A trained channel shows its capacity and counts as up; one that fails does not,
and the next training tells the half so. A refresh that falls due, or is pulled in while no request waits, counts in the slack window; outside it
nothing shows. The refresh rate that the devices ask for shows, with the corrections of their write links where link ECC is in force. HB_INIT.GO starts
the inline-ECC fill, which leaves zeros in its half, or completes at once without inline ECC; the end of the fill shows, with its event. Scrub moves to
its next line and counts its passes. No other half's memory changes.
Model's choices: notes/assumptions/13, 47, 81. -/
def Obligations.ChannelsTrainRefreshFillAndScrub : Prop :=
  (∀ (h : Fin 2) (c : Fin 4) (gib : Fin 256) (s : State),
    Completes (.channelTrained h c gib) s fun t =>
      ([1, 2, 4, 8, 16].contains gib.val = true →
        t.flag (hbPage h (1 + c)) Harbour.CH_STAT_TRAINED = true ∧ t.get (hbPage h (1 + c)) Harbour.CH_STAT_DEV_GIB = gib.val ∧
        hasBit (t.get (hbPage h 0) Harbour.HB_STAT_CH_UP) c = true ∧ hasBit (t.harb h).badChannels c = false ∧
        hasBit (t.harb h).linkEcc c = s.flag (hbPage h 0) Harbour.HB_CFG_LINK_ECC) ∧
      ([1, 2, 4, 8, 16].contains gib.val = false →
        t.flag (hbPage h (1 + c)) Harbour.CH_STAT_TRAINED = false ∧ hasBit (t.get (hbPage h 0) Harbour.HB_STAT_CH_UP) c = false ∧
        hasBit (t.harb h).badChannels c = true ∧ (s.powered (44 + 4 * h + c) = true → t.condBit (hbPage h 0) 0 = true)) ∧ SameMemory s t) ∧
  (∀ (h : Fin 2) (c : Fin 4) (due : Bool) (s : State),
    Completes (.refresh h (c, due)) s fun t =>
      (s.lowestFamily.any s.inSlack = true → due = true ∨ s.requestWaits h c false = false →
        (t.harb h).slackRefreshes = (s.harb h).slackRefreshes + 1) ∧
      (s.lowestFamily.any s.inSlack = false ∨ (due = false ∧ s.requestWaits h c false = true) → t = s) ∧
      t.regs = s.regs ∧ SameMemory s t ∧ SameFaults s t) ∧
  (∀ (h : Fin 2) (c : Fin 4) (mult : Fin 3) (corr : Fin 65536) (s : State),
    Completes (.refreshRatePoll h c mult corr) s fun t =>
      t.get (hbPage h (1 + c)) Harbour.CH_STAT_REF_MULT = mult.val ∧
      t.get (hbPage h (1 + c)) Harbour.CH_LINK_WR_CORR = (if hasBit (s.harb h).linkEcc c then corr.val else 0) ∧
      OnlyRegs s t [fieldKey (hbPage h (1 + c)) Harbour.CH_STAT_REF_MULT, fieldKey (hbPage h (1 + c)) Harbour.CH_LINK_WR_CORR] ∧
      SameMemory s t ∧ SameFaults s t) ∧
  (∀ (req : Requester) (h : Fin 2) (s : State), s.serves req (regOff (hbPage h 0) Harbour.HB_INIT_GO) = true →
    Completes (.eccFillStart req h) s fun t =>
      (t.harb h).goWritten = true ∧
      t.flag (hbPage h 0) Harbour.HB_STAT_ECC_ON = s.flag (hbPage h 0) Harbour.HB_CFG_ECC_EN ∧
      t.flag (hbPage h 0) Harbour.HB_INIT_GO = s.flag (hbPage h 0) Harbour.HB_CFG_ECC_EN ∧
      (t.harb h).filling = s.flag (hbPage h 0) Harbour.HB_CFG_ECC_EN ∧
      t.flag (hbPage h 0) Harbour.HB_STAT_INIT_DONE = (!s.flag (hbPage h 0) Harbour.HB_CFG_ECC_EN) ∧
      (s.flag (hbPage h 0) Harbour.HB_CFG_ECC_EN = true → ∀ pa, t.memByte h pa = 0) ∧
      (s.flag (hbPage h 0) Harbour.HB_CFG_ECC_EN = false → t.eventBit (hbPage h 0) 0 = true ∧ SameMemory s t) ∧
      (∀ k pa, k ≠ h.val → t.memByte k pa = s.memByte k pa) ∧ SameFaults s t) ∧
  (∀ (h : Fin 2) (s : State), (s.harb h).filling = true → s.harbourTrained h = true →
    Completes (.eccFillDone h) s fun t =>
      (t.harb h).filling = false ∧
      t.flag (hbPage h 0) Harbour.HB_STAT_INIT_DONE = true ∧ t.flag (hbPage h 0) Harbour.HB_INIT_GO = false ∧
      t.get (hbPage h 0) Harbour.HB_INIT_FRONT = s.memCapacity h / 0x10000 % Harbour.HB_INIT_FRONT.size ∧
      t.eventBit (hbPage h 0) 0 = true ∧ SameMemory s t ∧ SameFaults s t) ∧
  (∀ (h : Fin 2) (r0 r1 r2 r3 : EccResult) (s : State), s.get (hbPage h 0) Harbour.HB_CFG_SCRUB_NS ≠ 0 → s.memCapacity h ≠ 0 →
    (∀ c < 4, s.requestWaits h c true = false) →
    Completes (.patrolScrub h r0 r1 r2 r3) s fun t =>
      (s.memCapacity h / 256 ≤ (s.harb h).scrubLine + 1 →
        (t.harb h).scrubLine = 0 ∧ t.get (hbPage h 0) Harbour.HB_SCRUB_PASSES = (s.get (hbPage h 0) Harbour.HB_SCRUB_PASSES + 1) % 2 ^ 32) ∧
      ((s.harb h).scrubLine + 1 < s.memCapacity h / 256 →
        (t.harb h).scrubLine = (s.harb h).scrubLine + 1 ∧ t.get (hbPage h 0) Harbour.HB_SCRUB_PASSES =
          s.get (hbPage h 0) Harbour.HB_SCRUB_PASSES) ∧ SameMemory s t)

/-- Class credits and memory requests (parts of R291 to R293, R303 to R305). With a plan live every class gains its budget each microsecond, up to 64 budgets; the
check sets CLASS_OVER exactly where a class with a budget is below zero. A waiting request that nothing holds enters: it has its translated address, its
own with translation off, and what each channel has to serve of it; one that fails to translate is recorded as a fault; one whose table reads lack
credit waits on. A channel that has work serves the request that is next by level, class and age, charges its class once, and is done with it; a refresh
that is due, and a channel without work, change no request. No memory changes.
Model's choices: notes/assumptions/61, 80. -/
def Obligations.MemoryRequestsAreBudgetedAndServed : Prop :=
  (∀ (h : Fin 2) (s : State), (∀ k < 4, s.classBudget h k < 2 ^ 24) →
    Completes (.creditRefill h) s fun t =>
      (s.planLive = true → ∀ k < 4, t.credit h k = min (s.credit h k + s.classBudget h k) (64 * s.classBudget h k)) ∧
      (s.planLive = false → t = s) ∧
      OnlyRegs s t ([0, 1, 2, 3].map fun k => fieldKey (hbPage h 5) (Harbour.CLS_CREDIT_BYTES.nth k)) ∧ SameMemory s t ∧ SameFaults s t) ∧
  (∀ (h : Fin 2) (s : State),
    Completes (.classOverCheck h) s fun t =>
      (s.planLive = true → (∃ k < 4, s.classBudget h k ≠ 0 ∧ s.credit h k < 0) → t.eventBit (hbPage h 5) 0 = true) ∧
      (s.planLive = false ∨ (∀ k < 4, s.classBudget h k ≠ 0 → 0 ≤ s.credit h k) → t = s) ∧
      OnlyRegs s t [fieldKey (hbPage h 5) Hdr.EVT_STAT_EVENT] ∧ SameMemory s t ∧ SameFaults s t) ∧
  (∀ (h : Fin 2) (i : Nat) (walk : List EccResult) (s u : State) (r : MemReq) (pa : Nat), s.ready ⟨.harbour, h, 0⟩ = true →
    (s.harb h).asks[i]? = some r → ((s.harb h).asks.take i).any (fun a => a.same r) = false → s.walkServed h r.ba r.cls = true →
    (s.putHarb h { s.harb h with asks := (s.harb h).asks.eraseIdx i }).translateFor h r.cls r.ba r.write.isSome (r.requester == 2) walk =
      (.ok (false, pa), u) →
    Completes (.memRequest h i walk) s fun t =>
      (t.harb h).reqs = (s.harb h).reqs ++ [{ r with id := (s.harb h).nextId, pa := pa, pieces := piecesOf pa r.size, entered := s.time.c,
                                                     ahead := (((s.harb h).reqs.filter (fun q => q.cls == 0)).map (·.size)).sum }] ∧
      (t.harb h).asks = (s.harb h).asks.eraseIdx i ∧ (t.harb h).results = (s.harb h).results ∧
      (s.flatMemory h → pa = r.ba ∧ t.regs = s.regs) ∧ SameMemory s t) ∧
  (∀ (h : Fin 2) (i : Nat) (walk : List EccResult) (s u : State) (r : MemReq) (cause level : Nat), s.ready ⟨.harbour, h, 0⟩ = true →
    (s.harb h).asks[i]? = some r → ((s.harb h).asks.take i).any (fun a => a.same r) = false → s.walkServed h r.ba r.cls = true →
    (s.putHarb h { s.harb h with asks := (s.harb h).asks.eraseIdx i }).translateFor h r.cls r.ba r.write.isSome (r.requester == 2) walk =
      (.error (cause, level), u) →
    Completes (.memRequest h i walk) s fun t =>
      t.eventBit (hbPage h 7) 0 = true ∧ t.condBit (hbPage h 7) 0 = true ∧ t.flag (hbPage h 7) Harbour.TR_FAULT_INFO_VALID = true ∧
      (s.flag (hbPage h 7) Harbour.TR_FAULT_INFO_VALID = false → t.get (hbPage h 7) Harbour.TR_FAULT_INFO_CAUSE = cause % 16) ∧
      (t.harb h).reqs = (s.harb h).reqs ∧ SameMemory s t) ∧
  (∀ (h : Fin 2) (i : Nat) (walk : List EccResult) (s : State) (r : MemReq), (s.harb h).asks[i]? = some r →
    s.walkServed h r.ba r.cls = false →
    Completes (.memRequest h i walk) s fun t =>
      (t.harb h).asks.length = (s.harb h).asks.length ∧ (t.harb h).reqs = (s.harb h).reqs ∧ (t.harb h).results = (s.harb h).results ∧
      SameMemory s t ∧ SameFaults s t) ∧
  (∀ (h : Fin 2) (c : Fin 4) (pull : Bool) (s : State), Completes (.schedDecision h c (true, pull)) s fun t => t = s) ∧
  (∀ (h : Fin 2) (c : Fin 4) (pull : Bool) (s : State) (r : MemReq) (v : Nat), (s.countDeferred h).nextReq h c = some (r, v) →
    v ≠ 5 ∨ pull = false →
    Completes (.schedDecision h c (false, pull)) s fun t =>
      (∀ q ∈ (t.harb h).reqs, q.id = r.id → q.level = some v ∧ (q.pieces.any fun e => e.1 == c.val) = false) ∧
      (t.harb h).reqs.map (·.id) = (s.harb h).reqs.map (·.id) ∧
      (r.level = none → s.planLive = true → r.cls < 4 → s.classBudget h r.cls ≠ 0 → -2 ^ 31 ≤ s.credit h r.cls - (r.size : Int) →
        t.credit h r.cls = s.credit h r.cls - r.size) ∧ SameMemory s t ∧ SameFaults s t) ∧
  (∀ (h : Fin 2) (c : Fin 4) (pull : Bool) (s : State), (s.countDeferred h).nextReq h c = none →
    Completes (.schedDecision h c (false, pull)) s fun t =>
      (t.harb h).reqs.map (·.pieces) = (s.harb h).reqs.map (·.pieces) ∧ SameMemory s t ∧ SameFaults s t) ∧
  (∀ (h : Fin 2) (c : Fin 4) (s : State), s.planLive = false → (s.harb h).filling = false →
    (∃ r ∈ (s.harb h).reqs, (r.pieces.any fun e => e.1 == c.val) = true) → (s.nextReq h c).isSome = true)

/-- The end of a memory request (parts of R287, R288, R291, R301). A write changes exactly the bytes it stores, in its half, and every other byte of both
memories reads as before; a read changes no byte. A read of a Drift channel brings it the bytes that are there, or, where the check found an
uncorrectable word in it, its failure. The end of a request whose job entry has been given up since counts as stale and brings nothing.
Model's choices: notes/assumptions/13, 61. -/
def Obligations.CompletedRequestsStoreAndReadTheirBytes : Prop :=
  (∀ (h : Fin 2) (id : Nat) (ecc : List (Nat × EccResult)) (corr : List Nat) (s : State) (r : MemReq) (b : List Byte),
    (s.harb h).reqs.find? (fun r => r.id == id) = some r → r.pieces = [] →
    ((s.harb h).reqs.any fun q => decide (q.id < r.id) && q.same r) = false → r.write = some b →
    Completes (.memRequestDone h id ecc corr) s fun t =>
      (∀ i, (hi : i < b.length) → t.memByte h (r.pa + i) = b[i]) ∧
      (∀ k a, k ≠ h.val ∨ a < r.pa ∨ r.pa + b.length ≤ a → t.memByte k a = s.memByte k a)) ∧
  (∀ (h : Fin 2) (id : Nat) (ecc : List (Nat × EccResult)) (corr : List Nat) (s : State) (r : MemReq),
    (s.harb h).reqs.find? (fun r => r.id == id) = some r → r.pieces = [] →
    ((s.harb h).reqs.any fun q => decide (q.id < r.id) && q.same r) = false → r.write = none →
    Completes (.memRequestDone h id ecc corr) s fun t =>
      (r.requester = 2 → (∀ e g, r.entry = some (e, g) → (s.job e).gen = g ∧ (s.job e).state ≠ 0) →
        (∀ e ∈ ecc, e.2 ≠ .uncorrectable) →
        ∃ m ∈ (t.harb h).results, m = r.result 0 (s.memRead h r.pa r.size)) ∧
      (r.requester = 2 → (∀ e g, r.entry = some (e, g) → (s.job e).gen = g ∧ (s.job e).state ≠ 0) →
        s.flag (hbPage h 0) Harbour.HB_STAT_ECC_ON = true → (∃ e ∈ ecc, e.1 < r.size ∧ e.2 = .uncorrectable) →
        ∃ m ∈ (t.harb h).results, m = r.result 0x10 []) ∧
      SameMemory s t) ∧
  (∀ (h : Fin 2) (id : Nat) (ecc : List (Nat × EccResult)) (corr : List Nat) (s : State) (r : MemReq) (e g : Nat),
    (s.harb h).reqs.find? (fun r => r.id == id) = some r → r.pieces = [] →
    ((s.harb h).reqs.any fun q => decide (q.id < r.id) && q.same r) = false → r.entry = some (e, g) → (s.job e).gen ≠ g →
    Completes (.memRequestDone h id ecc corr) s fun t =>
      (t.harb h).results = (s.harb h).results ∧ t.eventBit (hbPage (entryHalf e) 6) 0 = true ∧
      t.get (hbPage (entryHalf e) 6) Harbour.JOB_STALE_COUNT =
        min (s.get (hbPage (entryHalf e) 6) Harbour.JOB_STALE_COUNT + 1) (Harbour.JOB_STALE_COUNT.size - 1))

/-! ## Jobs and translations (rows 93 to 97) -/

/-- Slice jobs and invalidations (parts of R298, R299, R302, R306). The next READY job of a context with room is issued, keeps its generation, and asks for the
bytes of its slice. A job that stays too long fails: it counts, is a fault, its entry is FREE with the next generation, and a slice of it waits to be
processed as zeros. A bulk request that waits 1 ms for an entry is a fault, each time. TR_INV.GO drops the cached translations it names, all of them or
those of the 2 MiB block, and reads 1 until every request that entered before it has completed, in memory and at the host; a GO written meanwhile runs
after it; the end sets its event.
Model's choices: notes/assumptions/5, 61. -/
def Obligations.JobsRunAndInvalidationsDropTranslations : Prop :=
  (∀ (n : Fin 16) (c : Fin 8) (s u : State) (e : Nat) (j : JobEntry) (f : HalfFrame), u = (s.settleHalf (n / 8)).retryOps n →
    u.ready ⟨.cove, n, 0⟩ = true → u.ready ⟨.harbour, n / 8, 0⟩ = true → u.seawall.bist.getD (n / 8) none ≠ some n.val →
    u.busyJobs (n / 8) n c < 2 → u.nextJob (n / 8) n c = some (e, j) → u.job e = j → entryHalf e = n / 8 → j.state = 2 →
    u.frames.find? (fun f => f.half == n.val / 8 && f.stream == j.stream && f.seq % 65536 == j.seq) = some f →
    Completes (.jobDispatch n c) s fun t => (t.job e).state = 3 ∧ (t.job e).gen = j.gen ∧ t.tide = s.tide ∧
      (t.harb (n / 8)).asks = (u.harb (n / 8)).asks ++
        (blocksOf (f.rawLine j.row j.exposure + (sliceRange f j.col0 j.size).1)
          ((sliceRange f j.col0 j.size).2 - (sliceRange f j.col0 j.size).1)).map (fun c =>
            { requester := 3, source := f.stream, cls := j.cls, entry := some (e, j.gen),
              ba := f.rawLine j.row j.exposure + (sliceRange f j.col0 j.size).1 + c.1, size := c.2, write := none, tag := e }) ∧
      SameMemory s t) ∧
  (∀ (e : Fin 131072) (s : State), (s.job e).state = 3 ∨ (s.job e).state = 6 → (s.harb (entryHalf e)).results = [] →
    (∀ r ∈ (s.harb (entryHalf e)).asks ++ (s.harb (entryHalf e)).reqs, r.entry = some (e.val, (s.job e).gen) → r.requester = (s.job e).kind) →
    (s.job e).kind ≠ 1 ∨ (∀ n, ∀ o ∈ (s.cove n).ops, o.entry.isSome = true) →
    Completes (.jobTimeout e) s fun t =>
      (t.job e).state = 0 ∧ (t.job e).gen = ((s.job e).gen + 1) % 8 ∧
      t.get (hbPage (entryHalf e) 6) Harbour.JOB_TIMEOUTS_COUNT =
        min (s.get (hbPage (entryHalf e) 6) Harbour.JOB_TIMEOUTS_COUNT + 1) (2 ^ 32 - 1) ∧
      t.condBit (hbPage (entryHalf e) 6) 0 = true ∧
      ((s.job e).kind = 0 → (t.harb (entryHalf e)).failedSlices = (s.harb (entryHalf e)).failedSlices ++
        [[(s.job e).stream, (s.job e).seq, (s.job e).row, (s.job e).exposure, (s.job e).col0, (s.job e).cove]]) ∧ SameMemory s t) ∧
  (∀ (h : Fin 2) (s : State),
    Completes (.bulkStarved h) s fun t =>
      (s.bulkWaits h = true → t.condBit (hbPage h 6) 1 = true ∧ Due.occurrence (hbPage h 6) 1 ∈ t.due) ∧ (s.bulkWaits h = false → t = s) ∧
      OnlyRegs s t [fieldKey (hbPage h 6) Hdr.FLT_STAT_FAULT] ∧ SameMemory s t) ∧
  (∀ (req : Requester) (h : Fin 2) (all : Bool) (s : State), s.serves req (regOff (hbPage h 7) Harbour.TR_INV_GO) = true →
    Completes (.trInvalidate req h all) s fun t =>
      t.flag (hbPage h 7) Harbour.TR_INV_GO = true ∧
      (s.flag (hbPage h 7) Harbour.TR_INV_GO = false →
        (all = true → (t.harb h).tlb = []) ∧
        (all = false → (t.harb h).tlb = (s.harb h).tlb.filter fun e => e.base / 2 ^ 21 * 2 ^ 21 !=
          s.get (hbPage h 7) Harbour.TR_INV_ADDR_HI_BA * 2 ^ 32 + s.get (hbPage h 7) Harbour.TR_INV_ADDR_LO_BA * 2 ^ 21) ∧
        (t.harb h).invBefore = (s.harb h).nextId ∧
        (∀ k x, (k, x) ∈ s.channels → k / 512 = h.val → ∀ b ∈ x.bursts, b.flying = true → b.host = true → (k, b.id) ∈ (t.harb h).invHost)) ∧
      (s.flag (hbPage h 7) Harbour.TR_INV_GO = true → (t.harb h).invQueued = true ∧ (t.harb h).tlb = (s.harb h).tlb) ∧
      SameMemory s t ∧ SameFaults s t) ∧
  (∀ (h : Fin 2) (s : State), s.flag (hbPage h 7) Harbour.TR_INV_GO = true →
    Completes (.invDone h) s fun t =>
      ((∀ r ∈ (s.harb h).reqs, (s.harb h).invBefore ≤ r.id) →
        (∀ e ∈ (s.harb h).invHost, ∀ x, (e.1, x) ∈ s.channels → ∀ b ∈ x.bursts, b.id = e.2 → b.flying = false) →
        t.eventBit (hbPage h 7) 1 = true ∧ t.flag (hbPage h 7) Harbour.TR_INV_GO = (s.harb h).invQueued ∧ (t.harb h).invQueued = false) ∧
      ((∃ r ∈ (s.harb h).reqs, r.id < (s.harb h).invBefore) → t = s) ∧ SameMemory s t ∧ SameFaults s t)

/-! ## The Drift (rows 98 to 109) -/

/-- What software does with a Drift channel (parts of R325, R326, R335 to R337), each command of CH_CMD written alone. CH_AVAIL adds descriptors, up to 65,535;
CH_NEXT moves only in IDLE or PAUSED, when its high word is written; a channel that acts as a port's has neither. A trigger counts, up to 15, and starts
the descriptor that waits for it. A pause of a channel whose work does not end of itself takes hold once nothing is in flight. A resume ends a halt, and
what failed may try again, or a pause. An abort drops everything that is in hand. No memory changes.
Model's choices: notes/assumptions/62, 82. -/
def Obligations.SoftwareSteersDriftChannels : Prop :=
  (∀ (req : Requester) (c : Fin 1024) (w : Word) (s : State), s.serves req (regOff (chPage c) Drift.CH_AVAIL_ADD) = true →
    Completes (.driftAdd req c w) s fun t =>
      (s.portNow c = false → t.chCount c = min (s.chCount c + w.toNat / 2 ^ 16) 65535) ∧
      (s.portNow c = true ∨ 65535 < s.chCount c + w.toNat / 2 ^ 16 → t.eventBit (chPage c) 6 = true) ∧
      (s.portNow c = true → OnlyRegs s t [fieldKey (chPage c) Hdr.EVT_STAT_EVENT]) ∧ t.channels = s.channels ∧ SameMemory s t) ∧
  (∀ (req : Requester) (c : Fin 1024) (high : Bool) (w : Word) (s : State),
    s.serves req (regOff (chPage c) (if high then Drift.CH_NEXT_HI_ADDR else Drift.CH_NEXT_LO_ADDR)) = true →
    Completes (.driftSetNext req c high w) s fun t =>
      (∀ lo, high = true → s.portNow c = false → s.chState c = 0 ∨ s.chState c = 7 → (s.ch c).nextLo = some lo → lo % 32 = 0 → lo < 2 ^ 32 →
        t.chNext c = w.toNat % 2 ^ 20 * 2 ^ 32 + lo) ∧
      (high = false → s.portNow c = false → s.chState c = 0 ∨ s.chState c = 7 →
        (t.ch c).nextLo = some (w.toNat / 32 * 32) ∧ t.regs = s.regs) ∧
      (s.portNow c = true ∨ (s.chState c ≠ 0 ∧ s.chState c ≠ 7) →
        t.eventBit (chPage c) 6 = true ∧ t.chNext c = s.chNext c ∧ t.channels = s.channels) ∧ SameMemory s t ∧ SameFaults s t) ∧
  (∀ (req : Requester) (c : Fin 1024) (w : Word) (s : State), s.serves req (regOff (chPage c) Drift.CH_CMD_TRIG) = true →
    w.toNat / 2 ^ 29 = 0 → (s.ch c).drain = [] →
    Completes (.driftTrig req c w) s fun t =>
      ((s.ch c).cur = none → s.get (chPage c) Drift.CH_STAT_TRIG_PEND < 15 →
        t.get (chPage c) Drift.CH_STAT_TRIG_PEND = s.get (chPage c) Drift.CH_STAT_TRIG_PEND + 1) ∧
      ((s.ch c).cur = none → s.get (chPage c) Drift.CH_STAT_TRIG_PEND = 15 →
        t.get (chPage c) Drift.CH_STAT_TRIG_PEND = 15 ∧ t.eventBit (chPage c) 4 = true) ∧
      (∀ r : DriftRun, (s.ch c).cur = some r → r.kind ≠ 1 → r.started = false → ({ r with started := true } : DriftRun).issued = false →
        (s.chCfg c Drift.CH_CFG_PACE = 0 ∧ r.wait = true) ∨ s.chCfg c Drift.CH_CFG_PACE = 1 ∨
          (s.chCfg c Drift.CH_CFG_PACE = 2 ∧ r.first = true) →
        (s.ch c).halted = false → (s.ch c).aborting = false → (s.ch c).paused = false → (s.ch c).pausing = false →
        r.src.fail = none → r.dst.fail = none → s.get (chPage c) Drift.CH_STAT_TRIG_PEND = 0 →
        (t.ch c).cur = some { r with started := true } ∧ t.get (chPage c) Drift.CH_STAT_TRIG_PEND = 0) ∧ SameMemory s t) ∧
  (∀ (req : Requester) (c : Fin 1024) (w : Word) (s : State), s.serves req (regOff (chPage c) Drift.CH_CMD_PAUSE) = true →
    w.toNat / 2 ^ 28 % 8 = 0 → (s.ch c).halted = false → (s.ch c).aborting = false → (s.ch c).pausing = false → (s.ch c).paused = false →
    (s.ch c).drain = [] →
    ((s.ch c).cur = none ∧ s.chRole c ≠ 1) ∨ (∃ r, (s.ch c).cur = some r ∧ r.kind ≠ 1 ∧ r.port = none ∧ r.started = true ∧ r.issued = false ∧
      r.src.fail = none ∧ r.dst.fail = none) →
    Completes (.driftPause req c w) s fun t =>
      (t.ch c).pausing = true ∧ (t.ch c).paused = (s.ch c).flying.isEmpty ∧ (t.ch c).cur = (s.ch c).cur ∧
      ((s.ch c).flying.isEmpty = true → t.eventBit (chPage c) 1 = true ∧ t.get (chPage c) Drift.CH_STAT_STATE = 7) ∧
      ((s.ch c).flying.isEmpty = false → t.get (chPage c) Drift.CH_STAT_STATE = 6) ∧ SameMemory s t) ∧
  (∀ (req : Requester) (c : Fin 1024) (w : Word) (s : State), s.serves req (regOff (chPage c) Drift.CH_CMD_RESUME) = true →
    w.toNat / 2 ^ 31 = 0 → w.toNat / 2 ^ 28 % 4 = 0 → (s.ch c).aborting = false → (s.ch c).drain = [] →
    (∀ r, (s.ch c).cur = some r → r.kind ≠ 1 ∧ r.started = true ∧ r.issued = false ∧ r.failed = 0 ∧ r.src.fail = none ∧ r.dst.fail = none) →
    Completes (.driftResume req c w) s fun t =>
      (t.ch c).cur = (s.ch c).cur ∧
      ((s.ch c).halted = true → (t.ch c).halted = false ∧ t.condBit (chPage c) 0 = false ∧
        (t.ch c).bursts = (s.ch c).bursts.map fun b => if b.flying then b else { b with tries := 0, again := false }) ∧
      ((s.ch c).halted = false → (t.ch c).pausing = false ∧ (t.ch c).paused = false) ∧ SameMemory s t) ∧
  (∀ (req : Requester) (c : Fin 1024) (w : Word) (s : State), s.serves req (regOff (chPage c) Drift.CH_CMD_ABORT) = true →
    w.toNat / 2 ^ 28 % 2 = 0 → s.chState c ≠ 0 → s.portNow c = false → (s.ch c).aborting = false →
    Completes (.driftAbort req c w) s fun t =>
      (t.ch c).aborting = true ∧ (t.ch c).halted = false ∧ t.chCount c = 0 ∧ t.flag (chPage c) Drift.CH_CMD_ABORT = true ∧
      t.get (chPage c) Drift.CH_STAT_STATE = 9 ∧ (t.ch c).bursts = [] ∧
      (∀ r ∈ (t.harb (c / 512)).results, r.requester = 2 → r.source ≠ c.val) ∧ SameMemory s t)

/-- What a Drift channel does (parts of R318 to R322, R324 to R328, R334, R337). A descriptor that has been read and passes its checks is in hand: one fewer is
available and CH_NEXT is its NEXT; one that does not pass halts the channel with cause 3, a read that fails in translation with cause 2, and a bus error,
of a fetch or of a burst, with cause 1 once its retries are spent; until then it is to be tried again. A pair of a source list that has been read joins
its list. A due trigger, or the timer's, counts. The arbiter's grant sends the winner's oldest unit to its port, or puts its burst in flight with a job
entry; without an entry the ready channels wait. Bytes that have been read join the holding register. A first unit binds its frame; a line or the record
of the frame in hand joins what is to be written, or goes to the frame's port; a frame that finds no descriptor is lost. An abort ends with the channel
empty. No memory changes.
Model's choices: notes/assumptions/61, 62, 82. -/
def Obligations.DriftChannelsMoveTheirDescriptors : Prop :=
  (∀ (c : Fin 1024) (desc src dst old : Bool) (s : State) (b : DriftBurst) (r : MemResult),
    (s.ch c).bursts.find? (fun b => b.flying && b.isFetch desc src dst old && (s.harb (c / 512)).results.any fun r =>
      r.requester == 2 && r.source == c.val && r.tag == b.id) = some b → b.kind = 6 →
    (s.harb (c / 512)).results.find? (fun r => r.requester == 2 && r.source == c.val && r.tag == b.id) = some r →
    (s.ch c).cur = none → (s.ch c).drain = [] → s.planLive = true → s.chCount c < 2 ^ 16 →
    Completes (.descFetched c desc src dst old) s fun t =>
      (∀ d, r.cause = 0 → d = decodeDesc (sliceBytes r.bytes 0 32) (s.ch c).nextSerial b.ba (s.live (chPage c) Drift.CH_BIND_CLASS) (s.ch c).fromIdle →
        (descOk (s.chRole c) (s.live (chPage c) Drift.CH_OUT_BYTES_BYTES) (fieldLE (sliceBytes r.bytes 0 32) 8 4) d = true →
          (t.ch c).cur.map (·.serial) = some (s.ch c).nextSerial ∧ t.chCount c = s.chCount c - 1 ∧ t.chNext c = d.next) ∧
        (descOk (s.chRole c) (s.live (chPage c) Drift.CH_OUT_BYTES_BYTES) (fieldLE (sliceBytes r.bytes 0 32) 8 4) d = false →
          (t.ch c).halted = true ∧ t.get (chPage c) Drift.CH_ERR_CAUSE = 3 ∧ t.chCount c = s.chCount c ∧ t.chNext c = s.chNext c)) ∧
      (0 < r.cause → r.cause < 0x10 → (t.ch c).halted = true ∧ t.get (chPage c) Drift.CH_ERR_CAUSE = 2 ∧ t.condBit (chPage c) 0 = true) ∧
      (0x10 ≤ r.cause → r.cause ≠ 0x30 → b.tries < s.chCfg c Drift.CH_CFG_RETRY →
        { b with flying := false, entry := none, tries := b.tries + 1, again := true } ∈ (t.ch c).bursts ∧ (t.ch c).halted = (s.ch c).halted) ∧
      (0x10 ≤ r.cause → r.cause ≠ 0x30 → s.chCfg c Drift.CH_CFG_RETRY ≤ b.tries →
        (t.ch c).halted = true ∧ t.get (chPage c) Drift.CH_ERR_CAUSE = 1 ∧ t.condBit (chPage c) 0 = true) ∧ SameMemory s t) ∧
  (∀ (c : Fin 1024) (desc src dst old : Bool) (s : State) (b : DriftBurst) (r : MemResult) (q : DriftRun),
    (s.ch c).bursts.find? (fun b => b.flying && b.isFetch desc src dst old && (s.harb (c / 512)).results.any fun r =>
      r.requester == 2 && r.source == c.val && r.tag == b.id) = some b → b.kind = 7 →
    (s.harb (c / 512)).results.find? (fun r => r.requester == 2 && r.source == c.val && r.tag == b.id) = some r → r.cause = 0 →
    (s.ch c).cur = some q → (s.ch c).drain = [] → q.serial = b.serial → q.kind = 0 → q.started = true → q.issued = false → q.taps = [] →
    Completes (.descFetched c desc src dst old) s fun t =>
      (t.ch c).cur = some { q with src := q.src.take q.srcField (2 ^ q.srcW) none (sliceBytes r.bytes 0 16) } ∧ SameMemory s t) ∧
  (∀ (c : Fin 1024) (s : State), s.due.contains (.trigger c) = true ∨ (s.planLive = true ∧ s.chCfg c Drift.CH_CFG_START_SRC = 3 ∧
      ((s.now : Int) - s.chCfg c Drift.CH_TIMER_PHASE_NS) % (s.chCfg c Drift.CH_TIMER_PERIOD_NS : Int) = 0) →
    (s.ch c).cur = none → (s.ch c).drain = [] →
    Completes (.driftTrigger c) s fun t =>
      (s.get (chPage c) Drift.CH_STAT_TRIG_PEND < 15 →
        t.get (chPage c) Drift.CH_STAT_TRIG_PEND = s.get (chPage c) Drift.CH_STAT_TRIG_PEND + 1) ∧
      (s.get (chPage c) Drift.CH_STAT_TRIG_PEND = 15 →
        t.get (chPage c) Drift.CH_STAT_TRIG_PEND = 15 ∧ t.eventBit (chPage c) 4 = true) ∧ SameMemory s t) ∧
  (∀ (c : Fin 1024) (s : State), (s.ch c).aborting = true →
    Completes (.driftAbortDone c) s fun t =>
      (t.ch c).aborting = false ∧ (t.ch c).cur = none ∧ (t.ch c).ahead = none ∧ (t.ch c).drain = [] ∧ (t.ch c).bursts = [] ∧
      (t.ch c).halted = false ∧ t.get (chPage c) Drift.CH_RESIDUE_BYTES = (s.ch c).held % Drift.CH_RESIDUE_BYTES.size ∧
      t.eventBit (chPage c) 2 = true ∧ SameMemory s t) ∧
  (∀ (h : Fin 2) (path : Fin 4) (ecc : List EccResult) (s : State) (c : Nat), s.winner h path = some c →
    Completes (.driftBurstGrant h (path, ecc)) s fun t =>
      (∀ d u r, 2 ≤ path.val → (s.ch c).units = (d, u) :: r → t.out = .unit c u :: s.out ∧ (t.ch c).units = r) ∧
      (∀ b, path.val ≤ 1 → s.driftEntry h = true → s.readyOn c path = some b → c / 512 = h.val →
        ∃ q ∈ (t.ch c).bursts, q.flying = true ∧ q.kind = b.kind ∧ q.ba = b.ba ∧ q.size = b.size ∧ q.entry.isSome = true) ∧
      (path.val ≤ 1 → s.driftEntry h = false → (t.ch c).entryWait = true ∧ (t.ch c).bursts = (s.ch c).bursts) ∧ SameMemory s t) ∧
  (∀ (c : Fin 1024) (id : Nat) (s : State) (b : DriftBurst) (r : MemResult),
    (s.ch c).bursts.find? (fun b => b.flying && (b.id == id && decide (b.kind ≤ 4)) && (s.harb (c / 512)).results.any fun r =>
      r.requester == 2 && r.source == c.val && r.tag == b.id) = some b →
    (s.harb (c / 512)).results.find? (fun r => r.requester == 2 && r.source == c.val && r.tag == b.id) = some r →
    Completes (.driftBurstDone c id) s fun t =>
      (∀ q ∈ (t.ch c).bursts, q.id = id → q.flying = false) ∧
      (t.harb (c / 512)).results.length + 1 = (s.harb (c / 512)).results.length ∧
      (∀ q, r.cause = 0 → b.kind = 0 → (s.ch c).cur = some q → (s.ch c).drain = [] → q.serial = b.serial → q.kind = 0 → q.started = true →
        q.issued = false → q.src.fail = none → q.dst.fail = none → q.failed + 1 ≠ 2 ^ q.wrote.length → b.pos = q.holdAt + q.hold.length →
        (∀ p ∈ (s.ch c).bursts, p.kind ≠ 5) →
        (t.ch c).cur.map (·.hold) = some (q.hold ++ sliceBytes r.bytes 0 b.size)) ∧
      (0x10 ≤ r.cause → r.cause ≠ 0x30 → b.tries < s.chCfg c Drift.CH_CFG_RETRY → (s.ch c).cur = none → (s.ch c).drain = [] →
        { b with flying := false, entry := none, tries := b.tries + 1, again := true } ∈ (t.ch c).bursts) ∧
      (0x10 ≤ r.cause → r.cause ≠ 0x30 → s.chCfg c Drift.CH_CFG_RETRY ≤ b.tries →
        (t.ch c).halted = true ∧ t.get (chPage c) Drift.CH_ERR_CAUSE = (if b.kind = 4 then 5 else 1)) ∧ SameMemory s t) ∧
  (∀ (c : Fin 1024) (s : State) (i : Handed) (rest : List Handed), (s.ch c).inbox = i :: rest →
    Completes (.driftFrameUnit c) s fun t =>
      (t.ch c).inbox = rest ∧
      ((s.ch c).lost.contains i.key = true → t.regs = s.regs ∧ (t.ch c).cur = (s.ch c).cur ∧ (t.ch c).units = (s.ch c).units ∧ SameFaults s t) ∧
      (∀ r, (s.ch c).lost.contains i.key = false → (s.ch c).cur = some r → (s.ch c).drain = [] → r.kind = 1 → r.frame = some i.key →
        r.recorded = false → r.taps = [] →
        (∀ dest line off b, r.port = some dest → i.unit = .line line off b →
          (t.ch c).units = (s.ch c).units ++ [(dest, ⟨i.key / 2 ^ 32, i.key % 2 ^ 32, line, off, b, false, false⟩)]) ∧
        (∀ line off b, r.port = none → i.unit = .line line off b → (t.ch c).cur = some { r with wq := r.wq ++ [(r.dstField + off, b, false)] }) ∧
        (∀ off b out parts, r.port = none → i.unit = .record off b out parts false →
          (t.ch c).cur = some { r with recorded := true, seen := [], wq := r.wq ++ [(r.srcField, b, true)] })) ∧
      ((s.ch c).lost.contains i.key = false → (s.ch c).drain = [] → i.unit = .segment → (s.ch c).halted = false → (s.ch c).aborting = false →
        (s.ch c).pausing = false → (s.ch c).paused = false → s.planLive = true → s.chPowered c = true →
        (3 ≤ i.dest ∧ (s.ch c).cur = none) ∨ (i.dest < 3 ∧ ∃ r, (s.ch c).cur = some r ∧ r.kind = 1 ∧ r.port = none ∧ r.frame = none ∧
          r.recorded = false) →
        (t.ch c).cur.bind (·.frame) = some i.key) ∧
      ((s.ch c).lost.contains i.key = false → i.dest < 3 → (s.ch c).cur = none → (s.ch c).drain = [] →
        (t.ch c).lost = (i.key :: (s.ch c).lost).take 4 ∧ t.condBit (chPage c) 1 = true ∧
        t.get (chPage c) Drift.CH_LOST_COUNT = min (s.get (chPage c) Drift.CH_LOST_COUNT + 1) (2 ^ 32 - 1) ∧ t.eventBit (chPage c) 3 = true) ∧
      SameMemory s t)

/-! ## The host link (rows 110 to 120, 244) -/

/-- The link of a port (parts of R346, R355, R359 to R363, R367). PERST_N low takes the link down without a fault; high begins training, with the reference clock
stable and no hold. A link-down fails what is outstanding, and counts and is a fault unless TEST.HOLD caused it. A state that the link enters shows; in
L0 width and speed show, with the event of a link that comes up; a link that leaves for a state without one goes down; an equalization keeps the preset
with the best figure of merit, or the forced one. After 8 µs without traffic the device goes to L1 where the host and software allow it and no sentinel
output is bound. In x16 mode the controller of the acting half takes charge, and a failed half's requests and messages are dropped.
Model's choices: notes/assumptions/5, 63, 83. -/
def Obligations.HostLinksTrainAndGoDown : Prop :=
  (∀ (n : Fin 2) (s : State), s.portActs n = true →
    Completes (.perstAssert n) s fun t =>
      t.get (pcPage n 0) Pcie.PCIE_STAT_LTSSM = 0 ∧ t.get (pcPage n 0) Pcie.PCIE_STAT_SPEED = 0 ∧
      t.get (pcPage n 0) Pcie.PCIE_STAT_WIDTH = 0 ∧ (t.pc n).perst = true ∧ (t.pc n).np = [] ∧
      t.condBit (pcPage (s.pcCharge n) 0) 0 = false ∧ SameMemory s t) ∧
  (∀ (n : Fin 2) (s : State), s.portActs n = true → (s.pc n).perst = true →
    Completes (.perstDeassert n) s fun t =>
      (t.pc n).perst = false ∧
      (s.flag 0x5 Chip.CLK_STAT_PCIE_REF_OK = true → s.flag (pcPage n 2) Pcie.TEST_HOLD = false →
        s.get (pcPage n 0) Pcie.PCIE_STAT_SPEED = 0 → t.get (pcPage n 0) Pcie.PCIE_STAT_LTSSM = 1) ∧
      (s.flag 0x5 Chip.CLK_STAT_PCIE_REF_OK = false ∨ s.flag (pcPage n 2) Pcie.TEST_HOLD = true → t.regs = s.regs) ∧
      SameMemory s t ∧ SameFaults s t) ∧
  (∀ (n : Fin 2) (hot : Bool) (s : State), s.portActs n = true → s.get (pcPage n 0) Pcie.PCIE_STAT_SPEED ≠ 0 →
    Completes (.pcieLinkDown n hot) s fun t =>
      t.get (pcPage n 0) Pcie.PCIE_STAT_LTSSM = (if hot then 8 else 0) ∧ t.get (pcPage n 0) Pcie.PCIE_STAT_SPEED = 0 ∧
      t.get (pcPage n 0) Pcie.PCIE_STAT_WIDTH = 0 ∧ (t.pc n).np = [] ∧
      (s.flag (pcPage n 2) Pcie.TEST_HOLD = false →
        t.get (pcPage n 0) Pcie.LINK_CNT_LINK_DOWNS =
          min (s.get (pcPage n 0) Pcie.LINK_CNT_LINK_DOWNS + 1) (Pcie.LINK_CNT_LINK_DOWNS.size - 1) ∧
        t.condBit (pcPage (s.pcCharge n) 0) 0 = true ∧ t.eventBit (pcPage n 0) 1 = true) ∧
      (s.flag (pcPage n 2) Pcie.TEST_HOLD = true →
        t.get (pcPage n 0) Pcie.LINK_CNT_LINK_DOWNS = s.get (pcPage n 0) Pcie.LINK_CNT_LINK_DOWNS ∧
        t.condBit (pcPage (s.pcCharge n) 0) 0 = s.condBit (pcPage (s.pcCharge n) 0) 0) ∧ SameMemory s t) ∧
  (∀ (n : Fin 2) (ltssm : Fin 9) (width speed : Nat) (eq : Option (Fin 3 × EqRequest × List Nat)) (errs : List (LinkError × BitVec 128))
    (s : State), s.portActs n = true → (s.pc n).perst = false → s.ready ⟨.pcie, n, 0⟩ = true → s.x16 = true ∨ s.halfFailed n = false →
    s.flag (pcPage n 2) Pcie.TEST_HOLD = false →
    [1, 2, 4, 8, 16].contains width = true → s.x16 = true ∨ width ≤ 8 → 1 ≤ speed → speed ≤ 5 →
    Completes (.ltssmTransition n ltssm width speed (eq, errs)) s fun t =>
      t.get (pcPage n 0) Pcie.PCIE_STAT_LTSSM = ltssm.val ∧
      (ltssm.val = 4 → t.get (pcPage n 0) Pcie.PCIE_STAT_WIDTH = width ∧ t.get (pcPage n 0) Pcie.PCIE_STAT_SPEED = speed ∧
        (s.get (pcPage n 0) Pcie.PCIE_STAT_SPEED = 0 → t.eventBit (pcPage n 0) 0 = true)) ∧
      (s.get (pcPage n 0) Pcie.PCIE_STAT_SPEED ≠ 0 → ltssm.val ≠ 3 → ltssm.val ≠ 4 → ltssm.val ≠ 5 →
        t.get (pcPage n 0) Pcie.PCIE_STAT_SPEED = 0 ∧ (t.pc n).np = [] ∧ t.condBit (pcPage (s.pcCharge n) 0) 0 = true ∧
        t.get (pcPage n 0) Pcie.LINK_CNT_LINK_DOWNS =
          min (s.get (pcPage n 0) Pcie.LINK_CNT_LINK_DOWNS + 1) (Pcie.LINK_CNT_LINK_DOWNS.size - 1)) ∧
      (∀ rate own merits, eq = some (rate, own, merits) →
        t.get (pcPage n 2) (Pcie.EQ_CFG_PRESET_KEPT.nth rate) =
          (if s.flag (pcPage n 2) (Pcie.EQ_CFG_FORCE.nth rate) then s.get (pcPage n 2) (Pcie.EQ_CFG_PRESET_REQ.nth rate)
            else firstBest (merits.take 11)) % 16) ∧ SameMemory s t) ∧
  (∀ (n : Fin 2) (s : State), s.portActs n = true → s.linkL0 n = true → s.outstanding n = [] → (s.pc n).aper = [] →
    (s.pc n).aspmL1 = true → s.flag (pcPage n 0) Pcie.PCIE_CTL_ASPM_ALLOW = true → s.portBound n true = false →
    Completes (.aspmL1Entry n) s fun t => t.get (pcPage n 0) Pcie.PCIE_STAT_LTSSM = 5 ∧ t.pcie = s.pcie ∧ SameMemory s t) ∧
  (∀ (h : Fin 2) (s : State), s.takeoverDue = true → s.pcCharge 0 = 1 - h.val →
    Completes (.controllerTakeover h) s fun t =>
      t.pcCharge 0 = h ∧ t.flag (pcPage (1 - h.val) 0) Pcie.PCIE_STAT_IN_CHARGE = false ∧ t.eventBit (pcPage 0 0) 5 = true ∧
      (s.halfFailed (1 - h.val) = true → (∀ q ∈ (t.pc 0).np, q.channel / 512 ≠ 1 - h.val) ∧
        (∀ q ∈ (s.pc 0).np, q.channel / 512 = 1 - h.val → q.done = false → q.tag ∈ (t.pc 0).discard) ∧
        ∀ p src, Due.msix p src ∈ t.due → src < 1024 → src / 512 ≠ 1 - h.val) ∧ SameMemory s t)

/-- Requests at a port (parts of R346 to R349, R352, R353, R356 to R358, R363, R364). A configuration request is answered: Retry until the host parameters are
applied, then with the item's value, and a write sets it. An aperture access that the half takes enters its memory as requests for exactly its bytes,
within 4 KiB blocks; one that it does not take is recorded, a read with a failing answer, a write with its error logged. BAR2 answers reads, and the
MSI-X table in it alone takes writes. A source that fires sends its vector's message, holds it pending where the vector is held, counts it as dropped
while MSI-X is off, and as filtered for a sentinel channel of a half that does not act. A completion that ends a read brings its channel the bytes; one
with an error status, and a timeout, are a bus error for it; one that is malformed, or not asked for, is logged, and one for a failed half's request is
discarded.
Model's choices: notes/assumptions/61, 63, 83. -/
def Obligations.HostRequestsAreAnswered : Prop :=
  (∀ (n : Fin 2) (item : ConfigItem) (value : Option Word) (s : State), s.portActs n = true →
    Completes (.configRequest n item value) s fun t =>
      ((s.pc n).applied = false → t.out = .config n none :: s.out ∧ t.regs = s.regs ∧ t.pcie = s.pcie) ∧
      ((s.pc n).applied = true → value = none → t.out = .config n (some (s.configRead n item)) :: s.out ∧ t.regs = s.regs ∧ t.pcie = s.pcie) ∧
      (∀ v, (s.pc n).applied = true → value = some v → t.out.head? = some (.config n (some 0)) ∧
        (item = .mps → t.get (pcPage n 0) Pcie.PCIE_PARAM_MPS = min v.toNat 2) ∧
        (item = .busMaster → t.get (pcPage n 0) Pcie.PCIE_STAT_BME = v.toNat % 2) ∧
        (item = .vendorId → t.regs = s.regs ∧ t.pcie = s.pcie)) ∧ SameMemory s t) ∧
  (∀ (n : Fin 2) (off size len h pa : Nat) (write : Option (List Byte)) (poisoned : Bool) (hdr01 hdr23 : BitVec 64) (s : State),
    s.decodes n = true → len = (match write with | none => size | some b => b.length) → len ≠ 0 → off + len ≤ 2 ^ s.barLog n →
    s.apertureAt n off = (h, pa) →
    Completes (.apertureAccess n off size write poisoned hdr01 hdr23) s fun t =>
      (s.ready ⟨.harbour, h, 0⟩ = true → s.halfFailed h = false → pa + len ≤ s.memCapacity h → poisoned = false ∨ write = none →
        (t.harb h).reqs.map (fun q => (q.requester, q.cls, q.pa, q.size, q.write)) =
          (s.harb h).reqs.map (fun q => (q.requester, q.cls, q.pa, q.size, q.write)) ++
            (blocksOf pa len).map (fun b => (4, 3, pa + b.1, b.2, write.map fun w => (w.drop b.1).take b.2)) ∧
        (t.pc n).aper.length = (s.pc n).aper.length + 1 ∧ t.out = s.out ∧ t.regs = s.regs ∧ SameFaults s t) ∧
      (s.ready ⟨.harbour, h, 0⟩ = false ∨ s.halfFailed h = true ∨ s.memCapacity h < pa + len ∨ (poisoned = true ∧ write ≠ none) →
        t.flag (pcPage n 1) Pcie.APER_ERR_VALID = true ∧ (t.harb h).reqs = (s.harb h).reqs ∧
        (∀ cause, cause = (if s.ready ⟨.harbour, h, 0⟩ = false ∨ s.halfFailed h = true then 4
            else if s.memCapacity h < pa + len then 1 else 2) →
          (s.flag (pcPage n 1) Pcie.APER_ERR_VALID = false → t.get (pcPage n 1) Pcie.APER_ERR_CAUSE = cause) ∧
          (write = none → t.out = .apertureFail n cause :: s.out) ∧
          (write ≠ none → hasBit (t.pc n).aerUncor (aperAer cause) = true))) ∧ SameMemory s t) ∧
  (∀ (n : Fin 2) (off : Fin 0x10000) (w : Option Word) (s : State),
    Completes (.msixTableWrite n off w) s fun t =>
      (s.decodes n = false → t = s) ∧
      (s.decodes n = true → w = none → t.out = .bar2 n (BitVec.ofNat 32 (s.bar2Word n off)) :: s.out ∧ t.pcie = s.pcie) ∧
      (∀ v, s.decodes n = true → w = some v →
        (0x8000 ≤ off.val → t = s) ∧
        (off.val < 0x8000 → off.val % 16 / 4 = 0 → (t.msixEntry n (off.val / 16)).addr =
          (s.msixEntry n (off.val / 16)).addr / 2 ^ 32 * 2 ^ 32 + v.toNat / 4 * 4) ∧
        (off.val < 0x8000 → off.val % 16 / 4 = 1 → (t.msixEntry n (off.val / 16)).addr =
          (s.msixEntry n (off.val / 16)).addr % 2 ^ 32 + v.toNat * 2 ^ 32) ∧
        (off.val < 0x8000 → off.val % 16 / 4 = 2 → (t.msixEntry n (off.val / 16)).data = v.toNat) ∧
        (off.val < 0x8000 → off.val % 16 / 4 = 3 → (t.msixEntry n (off.val / 16)).masked = v.getLsbD 0)) ∧
      (∀ v, v ≠ off.val / 16 → t.msixEntry n v = s.msixEntry n v) ∧ t.regs = s.regs ∧ SameMemory s t ∧ SameFaults s t) ∧
  (∀ (n : Fin 2) (src : Fin 1537) (s : State) (v : Nat), (s.x16 = true → n.val = 0) →
    (s.x16 = false → src.val < 1024 → src.val / 512 = n.val) → s.srcVec n src = some v →
    Completes (.msixFire n src) s fun t =>
      Due.msix n.val src.val ∉ t.due ∧
      (src.val < 1024 → s.x16 = true → s.sentinelChannel src = true → s.halfActing (src / 512) = false → t.out = s.out ∧
        (t.pc n).pba = (s.pc n).pba ∧ t.get (pcPage n 0) Pcie.SENT_FILTERED_COUNT =
          min (s.get (pcPage n 0) Pcie.SENT_FILTERED_COUNT + 1) (Pcie.SENT_FILTERED_COUNT.size - 1)) ∧
      (1024 ≤ src.val ∨ s.x16 = false ∨ s.sentinelChannel src = false ∨ s.halfActing (src / 512) = true →
        (s.flag (pcPage n 0) Pcie.PCIE_STAT_MSIX_EN = true → s.flag (pcPage n 0) Pcie.PCIE_STAT_BME = true → s.linkL0 n = true →
          (s.msixHeld n v = false → (t.pc n).pba = (s.pc n).pba ∧ t.out =
            .hostWrite (s.pcCharge n) (s.msixEntry n v).addr (toBytesLE 4 (s.msixEntry n v).data) false false :: s.out) ∧
          (s.msixHeld n v = true → (t.pc n).pba.contains v = true ∧ t.out = s.out)) ∧
        (s.flag (pcPage n 0) Pcie.PCIE_STAT_MSIX_EN = false ∨ s.flag (pcPage n 0) Pcie.PCIE_STAT_BME = false ∨ s.linkL0 n = false →
          t.out = s.out ∧ (t.pc n).pba = (s.pc n).pba ∧ t.get (pcPage n 0) Pcie.MSIX_DROP_COUNT =
            min (s.get (pcPage n 0) Pcie.MSIX_DROP_COUNT + max 1 (s.due.filter (· == .msix n src)).length)
              (Pcie.MSIX_DROP_COUNT.size - 1))) ∧ SameMemory s t) ∧
  (∀ (n : Fin 2) (tag : Fin 1024) (st : CplStatus) (bytes : List Byte) (hdr : BitVec 128) (s : State) (q : NpReq),
    (s.pc n).discard.contains tag.val = false → (s.pc n).np.find? (fun q => q.tag == tag.val && !q.done) = some q → s.npLate q = false →
    Completes (.pcieCompletion n tag st (bytes, hdr)) s fun t =>
      (st = .success → (s.pc n).np.filter (fun r => r.same q) = [q] → q.got = [] → bytes.length = q.size →
        (t.harb (q.channel / 512)).results = (s.harb (q.channel / 512)).results ++
          [{ requester := 2, source := q.channel, tag := q.burst, cause := 0, ba := 0, size := bytes.length, bytes }] ∧
        ∀ r ∈ (t.pc n).np, r.same q = false) ∧
      (st = .poisoned ∨ st = .unsupported ∨ st = .abort ∨ st = .retry →
        (t.harb (q.channel / 512)).results = (s.harb (q.channel / 512)).results ++
          [{ requester := 2, source := q.channel, tag := q.burst, cause := 0x20, ba := 0, size := 0, bytes := [] }] ∧
        (t.pc n).np = ((s.pc n).np.erase q).filter (fun r => !(r.done && r.same q))) ∧
      (st = .malformed → hasBit (t.pc n).aerUncor 18 = true ∧ (t.pc n).np = (s.pc n).np) ∧ SameMemory s t) ∧
  (∀ (n : Fin 2) (tag : Fin 1024) (st : CplStatus) (bytes : List Byte) (hdr : BitVec 128) (s : State), st ≠ .malformed → st ≠ .ecrc →
    Completes (.pcieCompletion n tag st (bytes, hdr)) s fun t =>
      ((s.pc n).discard.contains tag.val = true → (t.pc n).discard = (s.pc n).discard.erase tag.val ∧ (t.pc n).np = (s.pc n).np ∧
        t.get (pcPage n 0) Pcie.CPL_DISCARD_COUNT = min (s.get (pcPage n 0) Pcie.CPL_DISCARD_COUNT + 1) (Pcie.CPL_DISCARD_COUNT.size - 1)) ∧
      ((s.pc n).discard.contains tag.val = false → (∀ q ∈ (s.pc n).np, q.tag = tag.val → q.done = true) →
        hasBit (t.pc n).aerUncor 16 = true ∧ (t.pc n).np = (s.pc n).np) ∧ SameMemory s t) ∧
  (∀ (n : Fin 2) (tag : Fin 1024) (s : State),
    Completes (.completionTimeout n tag) s fun t =>
      ((s.pc n).discard.contains tag.val = true → (t.pc n).discard = (s.pc n).discard.erase tag.val ∧ hasBit (t.pc n).aerUncor 14 = true) ∧
      (∀ q, (s.pc n).discard.contains tag.val = false → (s.pc n).np.find? (fun q => q.tag == tag.val && !q.done) = some q →
        s.npLate q = false → hasBit (t.pc n).aerUncor 14 = true ∧
        (t.harb (q.channel / 512)).results = (s.harb (q.channel / 512)).results ++
          [{ requester := 2, source := q.channel, tag := q.burst, cause := 0x20, ba := 0, size := 0, bytes := [] }] ∧
        (t.pc n).np = ((s.pc n).np.erase q).filter (fun r => !(r.done && r.same q))) ∧ SameMemory s t)

/-! ## The Jetty (rows 121 to 138) -/

/-- Accesses to a sensor's registers (parts of R374 to R379, R381, R382, R384 to R386). An access to a disabled window, or one that finds no free slot, fails and
is counted; another opens a transaction for each of its words in the lowest free slots and sends it to the camera, or on the local bus, and a read is held
until they have ended. A reply of an open slot's generation ends its transaction, or has it sent again after BUSY; another reply is stale. A transaction
without a reply in its budget ends, and marks the slot of a lane late until the mark expires; on a local bus the bus is recovered. TXQ_REQ.GO sends the
raw buffer's transaction.
Model's choices: notes/assumptions/5, 60. -/
def Obligations.WindowAccessesOpenAndEndTransactions : Prop :=
  (∀ (req : Requester) (n : Fin 40) (off : Fin 1024) (size : Fin 9) (upper : Bool) (header place : Nat) (words ks : List Nat) (s : State),
    [1, 2, 4, 8].contains size.val = true → place = jtPage n * 0x1000 + 0x400 + (if upper then 0x800 else 0) + off.val →
    words = (if size.val = 8 then [off.val / 4, off.val / 4 + 1] else [off.val / 4]) → ks = (s.jtFree n req.code).take words.length →
    s.reaches req = true → s.accessCause false place size = none →
    Completes (.windowRead req n off size upper header) s fun t =>
      (s.jtEnabled n = false ∨ ks.length < words.length → .readFail req place :: s.out <:+ t.out ∧ t.windows = s.windows ∧
        t.get (jtPage n) Jetty.JT_CNT_ERR_COUNT = min (s.get (jtPage n) Jetty.JT_CNT_ERR_COUNT + 1) (2 ^ 32 - 1) ∧
        (s.flag (jtPage n) Jetty.JT_ERR_INFO_VALID = false →
          t.get (jtPage n) Jetty.JT_ERR_INFO_CAUSE = (if s.jtEnabled n then 9 else 0xA))) ∧
      (s.jtEnabled n = true → ks.length = words.length →
        (n.val < 32 → s.linkOperating n = true →
          (t.window n).reads = (s.window n).reads ++ [⟨req, place, size, ks.map fun k => (k, none), header, false⟩] ∧ t.out = s.out ∧
          (t.lane n).queue = (s.lane n).queue ++ ks.map fun k => txnMessage k ((t.window n).slot k)) ∧
        (32 ≤ n.val → s.flag (jtPage n) Jetty.LOC_STAT_STUCK = false → s.hasBall 5 (n - 32) = true → s.hasBall 6 (n - 32) = true →
          (t.window n).reads = (s.window n).reads ++ [⟨req, place, size, ks.map fun k => (k, none), header, false⟩] ∧
          (t.window n).localQueue = (s.window n).localQueue ++ ks ∧ t.out = (ks.reverse.map fun k =>
            let x := ((t.window n).slot k).txn; Out.localBus n x.bus x.op x.target x.wr x.rd) ++ s.out) ∧
        ((n.val < 32 ∧ s.linkOperating n = true) ∨ (32 ≤ n.val ∧ s.flag (jtPage n) Jetty.LOC_STAT_STUCK = false ∧
            s.hasBall 5 (n - 32) = true ∧ s.hasBall 6 (n - 32) = true) →
          ∀ e ∈ words.zip ks, (t.window n).slot e.2 = { (s.window n).slot e.2 with
            isOpen := true, requester := req.code, word := e.1, retries := 0, since := s.time.c, retry := false,
            txn := s.regTxn n (s.wordReg n e.1).1 (s.wordReg n e.1).2 none }) ∧
        (n.val < 32 → s.linkOperating n = false → (∀ r ∈ (s.window n).reads, ∀ w ∈ r.words, w.1 ∉ ks) →
          .readFail req place :: s.out <:+ t.out ∧ ∀ k ∈ ks, ((t.window n).slot k).isOpen = false)) ∧ SameMemory s t) ∧
  (∀ (req : Requester) (n : Fin 40) (word : Fin 256) (lo : Word) (hi : Option Word) (words : List (Nat × Option Nat)) (ks : List Nat)
    (s : State), words = (word.val, some lo.toNat) :: hi.toList.map (fun h => (word.val + 1, some h.toNat)) →
    ks = (s.jtFree n req.code).take words.length → s.serves req (jtPage n * 0x1000 + 0x400 + 4 * word.val) = true →
    (hi = none ∨ word.val % 2 = 0) →
    Completes (.windowWrite req n word lo hi) s fun t =>
      (s.jtEnabled n = false ∨ ks.length < words.length → t.windows = s.windows ∧ t.out = s.out ∧
        t.get (jtPage n) Jetty.JT_CNT_ERR_COUNT = min (s.get (jtPage n) Jetty.JT_CNT_ERR_COUNT + 1) (2 ^ 32 - 1)) ∧
      (s.jtEnabled n = true → ks.length = words.length →
        (n.val < 32 → s.linkOperating n = true → t.out = s.out ∧
          (t.lane n).queue = (s.lane n).queue ++ ks.map fun k => txnMessage k ((t.window n).slot k)) ∧
        (32 ≤ n.val → s.flag (jtPage n) Jetty.LOC_STAT_STUCK = false → s.hasBall 5 (n - 32) = true → s.hasBall 6 (n - 32) = true →
          (t.window n).localQueue = (s.window n).localQueue ++ ks ∧ t.out = (ks.reverse.map fun k =>
            let x := ((t.window n).slot k).txn; Out.localBus n x.bus x.op x.target x.wr x.rd) ++ s.out) ∧
        ((n.val < 32 ∧ s.linkOperating n = true) ∨ (32 ≤ n.val ∧ s.flag (jtPage n) Jetty.LOC_STAT_STUCK = false ∧
            s.hasBall 5 (n - 32) = true ∧ s.hasBall 6 (n - 32) = true) →
          SameFaults s t ∧ ∀ e ∈ words.zip ks, (t.window n).slot e.2 = { (s.window n).slot e.2 with
            isOpen := true, requester := req.code, word := e.1.1, retries := 0, since := s.time.c, retry := false,
            txn := s.regTxn n (s.wordReg n e.1.1).1 (s.wordReg n e.1.1).2 e.1.2 }) ∧
        (n.val < 32 → s.linkOperating n = false → (t.lane n).queue = (s.lane n).queue ∧ ∀ k ∈ ks, ((t.window n).slot k).isOpen = false)) ∧
      SameMemory s t) ∧
  (∀ (n : Fin 40) (s : State) (b : List Byte) (i : Nat), ((s.window n).inbox.find? (fun e => e.1 == 5)).map (·.2) = some b →
    i = fieldLE b 0 1 → s.mirrorRests n = true →
    Completes (.txnReplyReceived n) s fun t =>
      (i < 64 → ((s.window n).slot i).isOpen = true → ((s.window n).slot i).gen = fieldLE b 1 1 / 16 →
        (fieldLE b 1 1 % 16 = 6 → ((s.window n).slot i).retries < s.get (jtPage n) Jetty.JT_CFG_BUSY_RETRY →
          (t.window n).slot i = { (s.window n).slot i with retry := true } ∧ t.out = s.out) ∧
        (fieldLE b 1 1 % 16 ≠ 6 ∨ s.get (jtPage n) Jetty.JT_CFG_BUSY_RETRY ≤ ((s.window n).slot i).retries →
          TxnEnds s t n i (causeOf (fieldLE b 1 1 % 16) (fieldLE b 2 1) ((s.window n).slot i).txn.rd (((s.window n).slot i).txn.op != 0))
            ((b.drop 4).take (fieldLE b 2 1)))) ∧
      (64 ≤ i ∨ ((s.window n).slot i).isOpen = false ∨ ((s.window n).slot i).gen ≠ fieldLE b 1 1 / 16 →
        t.get (jtPage n) Jetty.JT_CNT_STALE_STALE = min (s.get (jtPage n) Jetty.JT_CNT_STALE_STALE + 1) (2 ^ 16 - 1) ∧
        t.eventBit (jtPage n) 4 = true ∧ t.out = s.out ∧
        (i < 64 → ((s.window n).slot i).late = some (fieldLE b 1 1 / 16) → ((t.window n).slot i).late = none)) ∧ SameMemory s t) ∧
  (∀ (n : Fin 40) (i : Fin 64) (sdaLow : Bool) (s : State), ((s.window n).slot i).isOpen = true → s.mirrorRests n = true →
    Completes (.jettyBudgetTimeout n i sdaLow) s fun t =>
      (n.val < 32 → TxnEnds s t n i 7 [] ∧ ((t.window n).slot i).late = some ((s.window n).slot i).gen) ∧
      (32 ≤ n.val → ((t.window n).slot i).isOpen = false ∧ ((s.window n).localQueue.head? = some i.val →
        t.get (jtPage n) Jetty.LOC_STAT_RECOVERIES = min (s.get (jtPage n) Jetty.LOC_STAT_RECOVERIES + 1) (2 ^ 16 - 1) ∧
        (sdaLow = true → t.flag (jtPage n) Jetty.LOC_STAT_STUCK = true ∧ t.condBit (jtPage n) 4 = true) ∧
        (sdaLow = false → s.flag (jtPage n) Jetty.LOC_STAT_STUCK = false → TxnEnds s t n i 7 [] ∧
          (t.window n).localQueue = (s.window n).localQueue.tail))) ∧ SameMemory s t) ∧
  (∀ (n : Fin 40) (i : Fin 64) (s : State), ((s.window n).slot i).isOpen = true → ((s.window n).slot i).retry = true →
    Completes (.jettyBusyRetry n i) s fun t =>
      (t.window n).slot i = { (s.window n).slot i with retry := false, retries := ((s.window n).slot i).retries + 1 } ∧
      t.get (jtPage n) Jetty.JT_CNT_STALE_RETRIES = min (s.get (jtPage n) Jetty.JT_CNT_STALE_RETRIES + 1) (2 ^ 16 - 1) ∧
      (n.val < 32 → (t.lane n).queue = (s.lane n).queue ++ [txnMessage i ((s.window n).slot i)] ∧ t.out = s.out) ∧
      SameMemory s t ∧ SameFaults s t) ∧
  (∀ (n : Fin 40) (i : Fin 64) (s : State), s.mirrorRests n = true →
    Completes (.jettyLateExpire n i) s fun t =>
      (t.window n).slot i = { (s.window n).slot i with late := none } ∧ (∀ k, k ≠ i.val → (t.window n).slot k = (s.window n).slot k) ∧
      t.out = s.out ∧ SameMemory s t ∧ SameFaults s t) ∧
  (∀ (req : Requester) (n : Fin 40) (w : Word) (s : State), s.serves req (regOff (jtPage n) Jetty.TXQ_REQ_GO) = true →
    s.mirrorRests n = true →
    Completes (.txqGo req n w) s fun t =>
      (w.toNat / 2 ^ 28 % 4 ≠ 3 → t.get (jtPage n) Jetty.TXQ_REQ_OP = w.toNat / 2 ^ 28 % 4) ∧
      t.get (jtPage n) Jetty.TXQ_REQ_BUS = w.toNat / 2 ^ 30 % 2 ∧ t.get (jtPage n) Jetty.TXQ_REQ_TARGET = w.toNat / 2 ^ 20 % 2 ^ 7 ∧
      t.get (jtPage n) Jetty.TXQ_REQ_WR_COUNT = min (w.toNat / 2 ^ 8 % 2 ^ 7) 64 ∧
      t.get (jtPage n) Jetty.TXQ_REQ_RD_COUNT = min (w.toNat % 2 ^ 7) 64 ∧
      (w.getLsbD 31 = false → t.flag (jtPage n) Jetty.TXQ_REQ_GO = s.flag (jtPage n) Jetty.TXQ_REQ_GO ∧ t.windows = s.windows) ∧
      (w.getLsbD 31 = true → s.flag (jtPage n) Jetty.TXQ_REQ_GO = true → t.eventBit (jtPage n) 5 = true ∧ t.windows = s.windows) ∧
      (∀ op wc rc, op = t.get (jtPage n) Jetty.TXQ_REQ_OP → wc = t.get (jtPage n) Jetty.TXQ_REQ_WR_COUNT →
        rc = t.get (jtPage n) Jetty.TXQ_REQ_RD_COUNT →
        ∀ i r, w.getLsbD 31 = true → s.flag (jtPage n) Jetty.TXQ_REQ_GO = false → s.jtEnabled n = true → s.jtFree n 3 = i :: r →
        ((wc = 0 ∧ op ≠ 1) ∨ (rc = 0 ∧ op ≠ 0) → t.flag (jtPage n) Jetty.TXQ_REQ_GO = false ∧
          t.flag (jtPage n) Jetty.TXQ_STAT_DONE = true ∧ t.get (jtPage n) Jetty.TXQ_STAT_CAUSE = 5) ∧
        (¬ ((wc = 0 ∧ op ≠ 1) ∨ (rc = 0 ∧ op ≠ 0)) → n.val < 32 → s.linkOperating n = true →
          t.flag (jtPage n) Jetty.TXQ_REQ_GO = true ∧ ((t.window n).slot i).isOpen = true ∧ ((t.window n).slot i).requester = 3 ∧
          ((t.window n).slot i).txn = ⟨w.toNat / 2 ^ 30 % 2, op, w.toNat / 2 ^ 20 % 2 ^ 7, s.txqBytes n wc, rc, 0⟩ ∧
          (t.lane n).queue = (s.lane n).queue ++ [txnMessage i ((t.window n).slot i)])) ∧ SameMemory s t)

/-- The mirror, sensor events, polls and local buses (parts of R384, R387 to R391). A mirror cycle that starts takes its entries in order, dirty writes before
reads, as far as slots are free, and one whose transactions have ended gives MIR_TIDE and its event. A write of MIR_VAL makes a write entry dirty. An
input edge and an in-band interrupt enter the event queue with their stamps, or set OVERFLOW when it is full; a read of EVQ_STAMP_LO takes the head. A
poll that is still unanswered when the next one goes out is missed; the reply to the latest one sets the status. A local transaction that ends frees the
bus for the next; a timeout recovers the bus, or leaves it stuck with all that waits failed, until a recovery frees it.
Model's choices: notes/assumptions/60. -/
def Obligations.MirrorsEventsPollsAndLocalBuses : Prop :=
  (∀ (n : Fin 40) (s : State) (es ks : List Nat), (s.window n).cycle = none → s.jtEnabled n = true →
    es = (List.range 128).filter (fun e => s.get (jtPage n) (Jetty.MIR_CFG_EN.nth (e % 64)) == 1 &&
      (if e < 64 then s.get (jtPage n) (Jetty.MIR_CFG_DIR.nth (e % 64)) == 1 && s.get (jtPage n) (Jetty.MIR_CFG_DIRTY.nth (e % 64)) == 1
        else s.get (jtPage n) (Jetty.MIR_CFG_DIR.nth (e % 64)) == 0)) →
    ks = s.jtFree n 2 →
    (n.val < 32 ∧ s.linkOperating n = true) ∨ (32 ≤ n.val ∧ s.flag (jtPage n) Jetty.LOC_STAT_STUCK = false ∧
      s.hasBall 5 (n - 32) = true ∧ s.hasBall 6 (n - 32) = true) →
    Completes (.mirrorCycleStart n) s fun t =>
      (t.window n).cycle = some ((match s.syncFamily n with | some f => s.famTide f | none => 0),
        (List.range 128).dropWhile fun e => !(es.drop ks.length).contains e) ∧
      (∀ e ∈ es.zip ks, ((t.window n).slot e.2).isOpen = true ∧ ((t.window n).slot e.2).requester = 2 ∧
        ((t.window n).slot e.2).word = e.1 % 64 ∧ ((t.window n).slot e.2).txn =
          s.regTxn n (s.get (jtPage n) (Jetty.MIR_CFG_REG.nth (e.1 % 64))) (2 ^ s.get (jtPage n) (Jetty.MIR_CFG_WIDTH.nth (e.1 % 64)))
            (if e.1 < 64 then some (s.get (jtPage n) (Jetty.MIR_VAL_VALUE.nth (e.1 % 64))) else none) ∧
        (e.1 < 64 → t.flag (jtPage n) (Jetty.MIR_CFG_DIRTY.nth e.1) = false)) ∧
      (n.val < 32 → (t.lane n).queue = (s.lane n).queue ++ (es.zip ks).map fun e => txnMessage e.2 ((t.window n).slot e.2)) ∧
      SameMemory s t ∧ SameFaults s t) ∧
  (∀ (n : Fin 40) (s : State) (tide : Nat), (s.window n).cycle = some (tide, []) →
    ((s.window n).slots.any fun e => e.2.isOpen && e.2.requester == 2) = false →
    Completes (.mirrorCycleEnd n) s fun t =>
      (t.window n).cycle = none ∧ t.get (jtPage n) Jetty.MIR_TIDE_TIDE = tide % 2 ^ 32 ∧ t.eventBit (jtPage n) 3 = true ∧
      OnlyRegs s t [fieldKey (jtPage n) Jetty.MIR_TIDE_TIDE, fieldKey (jtPage n) Hdr.EVT_STAT_EVENT] ∧ SameMemory s t ∧ SameFaults s t) ∧
  (∀ (req : Requester) (n : Fin 40) (m : Fin 64) (w : Word) (s : State), s.serves req (regOff (jtPage n) (Jetty.MIR_VAL_VALUE.nth m)) = true →
    Completes (.mirrorValueWrite req n m w) s fun t =>
      (s.flag (jtPage n) (Jetty.MIR_CFG_DIR.nth m) = true →
        t.get (jtPage n) (Jetty.MIR_VAL_VALUE.nth m) = w.toNat ∧ t.flag (jtPage n) (Jetty.MIR_CFG_DIRTY.nth m) = true) ∧
      (s.flag (jtPage n) (Jetty.MIR_CFG_DIR.nth m) = false → t = s) ∧
      OnlyRegs s t [fieldKey (jtPage n) (Jetty.MIR_VAL_VALUE.nth m), fieldKey (jtPage n) (Jetty.MIR_CFG_DIRTY.nth m)] ∧ SameMemory s t ∧
      SameFaults s t) ∧
  (∀ (n : Fin 8) (level : Bool) (back : Nat) (s : State), s.hasBall 4 n = true →
    Completes (.sintEdge n level back) s fun t =>
      ((s.window (32 + n)).events.length < 16 →
        (t.window (32 + n)).events = (s.window (32 + n)).events ++
          [{ kind := 1, stamp := s.activeTime ((s.time.c - back) * 2 ^ 32) / 2 ^ 32, level := bit level }] ∧
        t.get (jtPage (32 + n)) Jetty.EVQ_STAT_COUNT = (s.window (32 + n)).events.length + 1 ∧
        ((s.window (32 + n)).events = [] → t.eventBit (jtPage (32 + n)) 0 = true)) ∧
      (16 ≤ (s.window (32 + n)).events.length → t.flag (jtPage (32 + n)) Jetty.EVQ_STAT_OVERFLOW = true ∧ t.windows = s.windows ∧
        t.eventBit (jtPage (32 + n)) 1 = true) ∧ SameMemory s t ∧ SameFaults s t) ∧
  (∀ (n : Fin 8) (addr : Fin 128) (payload : List Byte) (s : State),
    Completes (.ibiReceived n addr payload) s fun t =>
      (s.flag (jtPage (32 + n)) Jetty.LOC_CFG_IBI_EN = true →
        ((s.window (32 + n)).events.length < 16 → (t.window (32 + n)).events = (s.window (32 + n)).events ++
          [{ kind := 3, stamp := s.now, addr := addr, ibi := payload.take 4 }]) ∧
        (16 ≤ (s.window (32 + n)).events.length → t.flag (jtPage (32 + n)) Jetty.EVQ_STAT_OVERFLOW = true ∧ t.windows = s.windows)) ∧
      (s.flag (jtPage (32 + n)) Jetty.LOC_CFG_IBI_EN = false → t = s) ∧ SameMemory s t ∧ SameFaults s t) ∧
  (∀ (req : Requester) (n : Fin 40) (s : State), s.servesRead req (regOff (jtPage n) Jetty.EVQ_STAMP_LO_TIME) = true →
    Completes (.evqPop req n) s fun t =>
      t.out = .readData req (regOff (jtPage n) Jetty.EVQ_STAMP_LO_TIME)
        [match (s.window n).events.head? with | some e => e.stamp % 2 ^ 32 | none => 0] :: s.out ∧
      (t.window n).events = (s.window n).events.tail ∧ t.get (jtPage n) Jetty.EVQ_STAT_COUNT = ((s.window n).events.length - 1) % 32 ∧
      OnlyRegs s t [fieldKey (jtPage n) Jetty.EVQ_STAT_COUNT] ∧ SameMemory s t ∧ SameFaults s t) ∧
  (∀ (n : Fin 32) (s : State), s.jtEnabled n = true → s.flag (jtPage n) Jetty.POLL_CFG_EN = true → s.linkState n = 9 →
    Completes (.pollSend n) s fun t =>
      (t.window n).pollId = ((s.window n).pollId + 1) % 256 ∧ (t.window n).polled = true ∧
      (t.lane n).queue = (s.lane n).queue ++ [⟨4, [BitVec.ofNat 8 (((s.window n).pollId + 1) % 256)]⟩] ∧
      ((s.window n).polled = true → (t.window n).missRun = (s.window n).missRun + 1 ∧
        t.get (jtPage n) Jetty.POLL_CNT_MISSED = min (s.get (jtPage n) Jetty.POLL_CNT_MISSED + 1) (2 ^ 16 - 1) ∧
        (s.get (jtPage n) Jetty.POLL_CFG_MISS_MAX ≤ (s.window n).missRun + 1 → t.condBit (jtPage n) 2 = true) ∧
        ((s.window n).missRun + 1 < s.get (jtPage n) Jetty.POLL_CFG_MISS_MAX → SameFaults s t)) ∧
      ((s.window n).polled = false → t.regs = s.regs ∧ SameFaults s t) ∧ SameMemory s t) ∧
  (∀ (n : Fin 32) (s : State) (b : List Byte), ((s.window n).inbox.find? (fun e => e.1 == 4)).map (·.2) = some b →
    Completes (.pollReply n) s fun t =>
      (t.window n).inbox = (s.window n).inbox.erase (4, b) ∧
      ((s.window n).polled = true → fieldLE b 0 1 = (s.window n).pollId →
        (t.window n).polled = false ∧ (t.window n).missRun = 0 ∧ t.get (jtPage n) Jetty.POLL_STATUS_STATUS = fieldLE b 4 4 ∧
        t.get (jtPage n) Jetty.POLL_CNT_REPLIED = (s.get (jtPage n) Jetty.POLL_CNT_REPLIED + 1) % 2 ^ 16 ∧
        t.condBit (jtPage n) 2 = false ∧
        t.condBit (jtPage n) 1 = decide (fieldLE b 4 4 &&& s.get (jtPage n) Jetty.POLL_MASK_MASK ≠ 0)) ∧
      ((s.window n).polled = false ∨ fieldLE b 0 1 ≠ (s.window n).pollId → t.regs = s.regs ∧ SameFaults s t) ∧ SameMemory s t) ∧
  (∀ (n : Fin 8) (status : Fin 6) (count : Nat) (data : List Byte) (s : State) (i : Nat) (r : List Nat),
    (s.window (32 + n)).localQueue = i :: r → s.mirrorRests (32 + n) = true →
    Completes (.localTxnDone n status count data) s fun t =>
      (t.window (32 + n)).localQueue = r ∧ TxnEnds s t (32 + n) i (causeOf status data.length ((s.window (32 + n)).slot i).txn.rd
        (((s.window (32 + n)).slot i).txn.op != 0 && status.val == 0)) data ∧ SameMemory s t) ∧
  (∀ (n : Fin 8) (sdaLow : Bool) (s : State) (i : Nat) (r : List Nat), (s.window (32 + n)).localQueue = i :: r →
    s.mirrorRests (32 + n) = true →
    Completes (.localBusTimeout n sdaLow) s fun t =>
      t.get (jtPage (32 + n)) Jetty.LOC_STAT_RECOVERIES = min (s.get (jtPage (32 + n)) Jetty.LOC_STAT_RECOVERIES + 1) (2 ^ 16 - 1) ∧
      (sdaLow = false → (t.window (32 + n)).localQueue = r ∧ TxnEnds s t (32 + n) i 3 []) ∧
      (sdaLow = true → t.flag (jtPage (32 + n)) Jetty.LOC_STAT_STUCK = true ∧ t.condBit (jtPage (32 + n)) 4 = true ∧
        (r.length ≤ 64 → (t.window (32 + n)).localQueue = [] ∧ ∀ k ∈ i :: r, ((t.window (32 + n)).slot k).isOpen = false)) ∧
      SameMemory s t) ∧
  (∀ (n : Fin 8) (sdaLow : Bool) (s : State), s.flag (jtPage (32 + n)) Jetty.LOC_STAT_STUCK = true →
    Completes (.localBusRecovery n sdaLow) s fun t =>
      t.flag (jtPage (32 + n)) Jetty.LOC_STAT_STUCK = sdaLow ∧ (sdaLow = false → t.condBit (jtPage (32 + n)) 4 = false) ∧
      t.get (jtPage (32 + n)) Jetty.LOC_STAT_RECOVERIES = min (s.get (jtPage (32 + n)) Jetty.LOC_STAT_RECOVERIES + 1) (2 ^ 16 - 1) ∧
      t.due = s.due ∧ SameMemory s t)

/-! ## Time domains (rows 139 to 147) -/

/-- The time domains and active-domain time (parts of R397 to R403). EN starts and stops a domain; OFFSET is written while it is OFF. A first sample steps the
domain to the master's time and it tracks; in TRACK, LOCKED and HOLDOVER a sample of a small error moves the integral and the rate; every sample outside
OFF counts. Without samples the domain falls to HOLDOVER. The active domain changes by failover, by revert and by MODE. While a plan is live neither such
a change nor a new offset of the active domain moves P: RES takes it up. PRESET moves P only before adoption, with no plan live; RES slews to 0.
Model's choices: notes/assumptions/5, 20, 87. -/
def Obligations.DomainsAreSteeredWithoutMovingTime : Prop :=
  (∀ (req : Requester) (x : Fin 2) (w : Word) (s : State), s.serves req (regOff tmPage (Tidemark.DOM_CFG_EN.nth x)) = true →
    Completes (.domainEnable req x w) s fun t =>
      (w.getLsbD 31 = false → t.domState x = 0 ∧ t.lockRun x = 0) ∧
      (w.getLsbD 31 = true → t.domState x = (if s.domState x = 0 then 1 else s.domState x)) ∧
      t.get tmPage (Tidemark.DOM_CFG_OWNER.nth x) = w.toNat / 2 ^ 30 % 2 ∧
      (w.toNat % 2 ^ 7 = s.get tmPage (Tidemark.DOM_CFG_NUMBER.nth (1 - x.val)) → t.eventBit tmPage 7 = true ∧
        t.get tmPage (Tidemark.DOM_CFG_NUMBER.nth x) = s.get tmPage (Tidemark.DOM_CFG_NUMBER.nth x)) ∧
      (w.toNat % 2 ^ 7 ≠ s.get tmPage (Tidemark.DOM_CFG_NUMBER.nth (1 - x.val)) →
        t.get tmPage (Tidemark.DOM_CFG_NUMBER.nth x) = w.toNat % 2 ^ 7) ∧ SameMemory s t) ∧
  (∀ (req : Requester) (x : Fin 2) (w : Word) (s : State), s.serves req (regOff tmPage (Tidemark.OFF_OFFSET.nth x 2)) = true →
    Completes (.domainOffsetWrite req x w) s fun t =>
      (s.domState x = 0 → t.time.off x = ((s.get tmPage (Tidemark.OFF_OFFSET.nth x 0) + s.get tmPage (Tidemark.OFF_OFFSET.nth x 1) * 2 ^ 32) *
        2 ^ 32 + w.toNat) % 2 ^ 96) ∧
      (s.domState x ≠ 0 → t.time = s.time ∧ t.eventBit tmPage 7 = true) ∧
      (s.planLive = true → t.activeTime (s.time.c * 2 ^ 32) = s.activeTime (s.time.c * 2 ^ 32)) ∧ SameMemory s t ∧ SameFaults s t) ∧
  (∀ (req : Requester) (x : Fin 2) (s : State) (m c : Nat) (e : Int), s.serves req (regOff tmPage (Tidemark.SMP_CTL_GO.nth x)) = true →
    m = s.triple Tidemark.SMP_MST_M x → c = s.triple Tidemark.SMP_CNT_C_S x → e = toSigned 96 ((m + 2 ^ 96 - s.domainTime x c) % 2 ^ 96) →
    Completes (.servoSample req x) s fun t =>
      (s.domState x = 0 ∨ (s.get tmPage (Tidemark.DOM_CFG_OWNER.nth x) = 0 ∧ req.lp? = none) → t = s) ∧
      (s.domState x ≠ 0 → s.get tmPage (Tidemark.DOM_CFG_OWNER.nth x) ≠ 0 ∨ req.lp?.isSome = true →
        t.get tmPage (Tidemark.SMP_COUNT_COUNT.nth x) = (s.get tmPage (Tidemark.SMP_COUNT_COUNT.nth x) + 1) % 2 ^ 32 ∧
        (s.domState x = 1 ∨ s.get tmPage (Tidemark.SRV_STEP_STEP_NS.nth x) * 2 ^ 32 < e.natAbs →
          t.domState x = 2 ∧ t.eventBit tmPage 6 = true ∧ t.lockRun x = 0 ∧ t.domainTime x c = m % 2 ^ 96 ∧
          (s.planLive = true → t.activeTime (s.time.c * 2 ^ 32) = s.activeTime (s.time.c * 2 ^ 32))) ∧
        (∀ i r : Int, s.domState x ≠ 1 → e.natAbs ≤ s.get tmPage (Tidemark.SRV_STEP_STEP_NS.nth x) * 2 ^ 32 →
          i = satS 32 (toSigned 32 (s.get tmPage (Tidemark.INTEG_I.nth x)) +
            roundHalfEven ((s.get tmPage (Tidemark.SRV_KI_KI.nth x) : Int) * e) (2 ^ 40)) →
          r = satS 32 (i + roundHalfEven ((s.get tmPage (Tidemark.SRV_KP_KP.nth x) : Int) * e) (2 ^ 40)) →
          t.get tmPage (Tidemark.INTEG_I.nth x) = ofSigned 32 i ∧ t.get tmPage (Tidemark.RATE_RATE.nth x) = ofSigned 32 r)) ∧
      t.time.off (1 - x.val) = s.time.off (1 - x.val) ∧ SameMemory s t) ∧
  (∀ (x : Fin 2) (s : State), s.domState x = 2 ∨ s.domState x = 3 →
    Completes (.domainSampleTimeout x) s fun t =>
      t.domState x = 4 ∧ t.lockRun x = 0 ∧ t.condBit tmPage (1 + x.val) = true ∧ (s.domState x = 3 → t.eventBit tmPage 5 = true) ∧
      SameMemory s t) ∧
  (∀ s : State, 2 ≤ s.get tmPage Tidemark.TM_SEL_MODE → s.domState s.activeDomain = 4 ∨ s.domState s.activeDomain = 0 →
    s.domState (1 - s.activeDomain) = 3 →
    Completes .domainFailover s fun t =>
      t.activeDomain = 1 - s.activeDomain ∧ t.eventBit tmPage 1 = true ∧
      (s.planLive = true → t.activeTime (s.time.c * 2 ^ 32) = s.activeTime (s.time.c * 2 ^ 32)) ∧ SameMemory s t) ∧
  (∀ (s : State) (m : Nat), s.get tmPage Tidemark.TM_SEL_MODE = 2 + m → m < 2 → s.domState m = 3 →
    Completes .domainRevert s fun t =>
      t.activeDomain = m ∧ (s.activeDomain = m → t = s) ∧ (s.activeDomain ≠ m → t.eventBit tmPage 1 = true) ∧
      (s.planLive = true → t.activeTime (s.time.c * 2 ^ 32) = s.activeTime (s.time.c * 2 ^ 32)) ∧ SameMemory s t) ∧
  (∀ (req : Requester) (w : Word) (s : State), s.serves req (regOff tmPage Tidemark.TM_SEL_MODE) = true →
    Completes (.tmSelWrite req w) s fun t =>
      t.get tmPage Tidemark.TM_SEL_MODE = w.toNat / 2 ^ 30 ∧ (w.toNat / 2 ^ 30 < 2 → t.activeDomain = w.toNat / 2 ^ 30) ∧
      t.get tmPage Tidemark.TM_SEL_SLEW_PPM = max 1 (min 100 (w.toNat / 2 ^ 16 % 2 ^ 8)) ∧
      t.get tmPage Tidemark.TM_SEL_FAILOVER_MS = max 1 (w.toNat % 2 ^ 16) ∧
      (s.planLive = true → t.activeTime (s.time.c * 2 ^ 32) = s.activeTime (s.time.c * 2 ^ 32)) ∧ SameMemory s t) ∧
  (∀ (req : Requester) (w : Word) (s : State), s.serves req (regOff tmPage Tidemark.TM_PRESET_HI_PRESET) = true →
    Completes (.presetWrite req w) s fun t =>
      (s.flag tmPage Tidemark.TM_SEL_ADOPTED = true ∨ s.planLive = true → t.time = s.time ∧ t.eventBit tmPage 7 = true) ∧
      (s.flag tmPage Tidemark.TM_SEL_ADOPTED = false → s.planLive = false →
        t.time.preset = s.get tmPage Tidemark.TM_PRESET_LO_PRESET + w.toNat * 2 ^ 32 ∧
        (t.time.preset ≠ s.time.preset → t.eventBit tmPage 2 = true)) ∧ SameMemory s t ∧ SameFaults s t) ∧
  (∀ s : State,
    Completes .slewDone s fun t =>
      t.time.res = 0 ∧ (s.time.res = 0 → t = s) ∧ (s.time.res ≠ 0 → t.eventBit tmPage 3 = true ∧
        t.time.c = (s.time.c + ceilDiv s.time.res.natAbs (s.get tmPage Tidemark.TM_SEL_SLEW_PPM * 4294)) % 2 ^ 64) ∧
      OnlyRegs s t [fieldKey tmPage Hdr.EVT_STAT_EVENT] ∧ SameMemory s t ∧ SameFaults s t)

/-! ## Ethernet (rows 148 to 161, 245) -/

/-- The MACs and the bridge (parts of R406, R407, R410 to R413, R424, R425). A frame with a bad FCS is dropped and counted, one of a wrong length is dropped, a
pause frame is counted; a good one is counted and an event message stamped, and the bridge sends it to management (a reserved address, the MAC's own,
broadcast), and to the other port (broadcast, or an address that the table lacks). Without gates and shapers the highest class with a frame sends its
head, an event message stamped and corrected. A read of a stamp queue takes its head. FDB_CMD writes and reads an entry; a learned one ages out.
GCL_CHANGE stages the administrative list, a cycle start makes it operational, an expired entry opens the next. A link change shows in MAC_STAT.
Model's choices: notes/assumptions/56, 88. -/
def Obligations.FramesAreStampedForwardedAndSent : Prop :=
  (∀ (m : Fin 2) (b : List Byte) (fcsOk : Bool) (c : Nat) (s : State), s.macUp m = true →
    Completes (.ethFrameRx m b fcsOk c) s fun t =>
      (fcsOk = false → t.get (macPage m 2) Mac.FCS_ERR_COUNT = min (s.get (macPage m 2) Mac.FCS_ERR_COUNT + 1) (Mac.FCS_ERR_COUNT.size - 1) ∧
        t.macs = s.macs ∧ t.bridge = s.bridge) ∧
      (fcsOk = true → b.length + 4 < 64 ∨ s.get (macPage m 0) Mac.MAC_CFG_MAX_FRAME < b.length + 4 → t = s) ∧
      (fcsOk = true → 64 ≤ b.length + 4 → b.length + 4 ≤ s.get (macPage m 0) Mac.MAC_CFG_MAX_FRAME →
        t.get (macPage m 2) Mac.FRAMES_RX_COUNT = (s.get (macPage m 2) Mac.FRAMES_RX_COUNT + 1) % Mac.FRAMES_RX_COUNT.size ∧
        (ethType b = 0x8808 → t.get (macPage m 2) Mac.PAUSE_RX_COUNT =
          min (s.get (macPage m 2) Mac.PAUSE_RX_COUNT + 1) (Mac.PAUSE_RX_COUNT.size - 1) ∧ t.macs = s.macs ∧ t.bridge = s.bridge) ∧
        (isPtpEvent b = true → (s.mac m).rxStamps.length < 32 → (t.mac m).rxStamps = (s.mac m).rxStamps ++
          [s.stampOf b (ofSigned 80 ((c : Int) - toSigned 32 (s.get (macPage m 1) Mac.PHY_RX_LAT_LAT) * 2 ^ 12))]) ∧
        (isPtpEvent b = true → 32 ≤ (s.mac m).rxStamps.length → t.flag (macPage m 1) Mac.TS_STAT_RX_OVF = true ∧
          t.eventBit (macPage m 1) 0 = true ∧ (t.mac m).rxStamps = (s.mac m).rxStamps) ∧
        (∀ da, da = ofBytesBE (sliceBytes b 0 6) → ethType b ≠ 0x8808 → s.flag (bridgePage 0) Hdr.CTRL_EN = true →
          (b.length + 4 ≤ 1522 → (s.bridge.mgRx.map (fun e => e.2.length)).sum + b.length ≤ 16384 →
            da / 16 = 0x0180C200000 ∨ da = s.macAddr m ∨ da = 0xFFFFFFFFFFFF → t.bridge.mgRx = s.bridge.mgRx ++ [(m.val, b)]) ∧
          (∀ q : List EthFrame, q = (s.mac (1 - m.val)).queues.getD (frameClass b (s.get (macPage m 0) Mac.PORT_PCP_PCP)) [] →
            isPtpEvent b = false → s.macUp (1 - m.val) = true → da / 16 ≠ 0x0180C200000 → da ≠ s.macAddr m →
            da = 0xFFFFFFFFFFFF ∨ (s.fdbFind da (frameVid b) = none ∧ ofBytesBE (sliceBytes b 6 6) ≠ da) →
            (q.map (fun e => e.bytes.length)).sum + b.length ≤ 65536 →
            (t.mac (1 - m.val)).queues = (s.mac (1 - m.val)).queues.set (frameClass b (s.get (macPage m 0) Mac.PORT_PCP_PCP))
              (q ++ [{ bytes := b }])))) ∧
      t.out = s.out ∧ SameMemory s t ∧ SameFaults s t) ∧
  (∀ (m : Fin 2) (c c' : Nat) (s : State) (k : Fin 8) (f : EthFrame) (r : List EthFrame), s.macUp m = true → s.terminal = false →
    s.flag (macPage m 3) Mac.GCL_CFG_EN = false → (s.mac m).queues.getD k [] = f :: r → (∀ j, k.val < j → (s.mac m).queues.getD j [] = []) →
    s.flag (macPage m 3) (Mac.CBS_SLOPE_EN.nth k) = false → f.bytes.length + 4 ≤ s.get (macPage m 0) Mac.MAC_CFG_MAX_FRAME →
    c' = ofSigned 80 ((c : Int) + toSigned 32 (s.get (macPage m 1) Mac.PHY_TX_LAT_LAT) * 2 ^ 12) →
    Completes (.ethFrameTx m c) s fun t =>
      (t.mac m).queues.getD k [] = r ∧
      t.get (macPage m 2) Mac.FRAMES_TX_COUNT = (s.get (macPage m 2) Mac.FRAMES_TX_COUNT + 1) % Mac.FRAMES_TX_COUNT.size ∧
      (isPtpEvent f.bytes = false → t.out = .ethFrame m f.bytes :: s.out ∧ (t.mac m).txStamps = (s.mac m).txStamps) ∧
      (isPtpEvent f.bytes = true → t.out = .ethFrame m (s.correctFrame m f c' (s.stampOf f.bytes c')).2 :: s.out ∧
        ((s.mac m).txStamps.length < 32 → (t.mac m).txStamps = (s.mac m).txStamps ++ [s.stampOf f.bytes c']) ∧
        (32 ≤ (s.mac m).txStamps.length → t.flag (macPage m 1) Mac.TS_STAT_TX_OVF = true ∧ t.eventBit (macPage m 1) 0 = true ∧
          (t.mac m).txStamps = (s.mac m).txStamps)) ∧
      t.mac (1 - m.val) = s.mac (1 - m.val) ∧ SameMemory s t ∧ SameFaults s t) ∧
  (∀ (req : Requester) (m : Fin 2) (tx : Bool) (s : State) (off : Nat) (q : List MacStamp),
    off = regOff (macPage m 1) (if tx then Mac.TXTS_INFO_VALID else Mac.RXTS_INFO_VALID) →
    q = (if tx then (s.mac m).txStamps else (s.mac m).rxStamps) → s.servesRead req off = true →
    Completes (.tsPop req m tx) s fun t =>
      t.out = .readData req off [(stampWords q.head?).headD 0] :: s.out ∧
      (t.mac m).rxStamps = (if tx then (s.mac m).rxStamps else q.tail) ∧ (t.mac m).txStamps = (if tx then q.tail else (s.mac m).txStamps) ∧
      t.get (macPage m 1) (if tx then Mac.TS_STAT_TX_COUNT else Mac.TS_STAT_RX_COUNT) = (q.length - 1) % 64 ∧
      (∀ e, q.head? = some e → t.get (macPage m 1) ((if tx then Mac.TXTS_DOM_TIME else Mac.RXTS_DOM_TIME).nth 0) = e.domNs % 2 ^ 32 ∧
        t.get (macPage m 1) ((if tx then Mac.TXTS_DOM_TIME else Mac.RXTS_DOM_TIME).nth 1) = e.domNs / 2 ^ 32 % 2 ^ 32) ∧
      SameMemory s t ∧ SameFaults s t) ∧
  (∀ (req : Requester) (w : Word) (s : State), s.serves req (regOff (bridgePage 0) Bridge.FDB_CMD_WRITE) = true →
    Completes (.fdbWrite req w) s fun t =>
      (w.getLsbD 30 = true → t.eventBit (bridgePage 0) 1 = true ∧ t.bridge = s.bridge) ∧
      (w.getLsbD 30 = false → t.fdbEntry (s.get (bridgePage 0) Bridge.FDB_IDX_IDX) =
          { valid := s.flag (bridgePage 0) Bridge.FDB_CTL_VALID, isStatic := true, ports := s.get (bridgePage 0) Bridge.FDB_CTL_PORTS,
            vid := s.get (bridgePage 0) Bridge.FDB_CTL_VID,
            addr := s.get (bridgePage 0) Bridge.FDB_ENTRY_LO_ADDR + s.get (bridgePage 0) Bridge.FDB_ENTRY_HI_ADDR * 2 ^ 32,
            lastMatch := s.time.c } ∧ t.regs = s.regs) ∧
      (∀ i, i ≠ s.get (bridgePage 0) Bridge.FDB_IDX_IDX → t.fdbEntry i = s.fdbEntry i) ∧ SameMemory s t ∧ SameFaults s t) ∧
  (∀ (req : Requester) (w : Word) (s : State) (e : FdbEntry), s.serves req (regOff (bridgePage 0) Bridge.FDB_CMD_READ) = true →
    e = s.fdbEntry (s.get (bridgePage 0) Bridge.FDB_IDX_IDX) →
    Completes (.fdbRead req w) s fun t =>
      (w.getLsbD 31 = true → t.eventBit (bridgePage 0) 1 = true) ∧
      (w.getLsbD 31 = false →
        t.get (bridgePage 0) Bridge.FDB_ENTRY_LO_ADDR = e.addr % 2 ^ 32 ∧ t.get (bridgePage 0) Bridge.FDB_ENTRY_HI_ADDR = e.addr / 2 ^ 32 % 2 ^ 16 ∧
        t.flag (bridgePage 0) Bridge.FDB_CTL_VALID = e.valid ∧ t.flag (bridgePage 0) Bridge.FDB_CTL_STATIC = e.isStatic ∧
        t.get (bridgePage 0) Bridge.FDB_CTL_PORTS = e.ports % Bridge.FDB_CTL_PORTS.size ∧
        t.get (bridgePage 0) Bridge.FDB_CTL_VID = e.vid % 2 ^ 12 ∧
        OnlyRegs s t [fieldKey (bridgePage 0) Bridge.FDB_ENTRY_LO_ADDR, fieldKey (bridgePage 0) Bridge.FDB_ENTRY_HI_ADDR,
          fieldKey (bridgePage 0) Bridge.FDB_CTL_VALID, fieldKey (bridgePage 0) Bridge.FDB_CTL_STATIC,
          fieldKey (bridgePage 0) Bridge.FDB_CTL_PORTS, fieldKey (bridgePage 0) Bridge.FDB_CTL_VID]) ∧
      t.bridge = s.bridge ∧ SameMemory s t ∧ SameFaults s t) ∧
  (∀ (i : Fin 1024) (s : State),
    Completes (.fdbAgeOut i) s fun t =>
      ((s.fdbEntry i).isStatic = false → s.get (bridgePage 0) Bridge.FDB_AGE_AGE_S ≠ 0 → (t.fdbEntry i).valid = false ∧
        ∀ j, j ≠ i.val → t.fdbEntry j = s.fdbEntry j) ∧
      ((s.fdbEntry i).isStatic = true ∨ s.get (bridgePage 0) Bridge.FDB_AGE_AGE_S = 0 → t = s) ∧ t.regs = s.regs ∧ SameMemory s t ∧ SameFaults s t) ∧
  (∀ (req : Requester) (m : Fin 2) (w : Word) (s : State), s.serves req (regOff (macPage m 3) Mac.GCL_CFG_CHANGE) = true →
    Completes (.gclChange req m w) s fun t =>
      (t.mac m).admin = some ⟨(List.range (max 1 (min 256 (w.toNat % 2 ^ 9)))).map fun i =>
          (s.get (macPage m 3) (Mac.GCL_ADMIN_GATES.nth i), max 64 (s.get (macPage m 3) (Mac.GCL_ADMIN_INTERVAL_NS.nth i))),
        s.get (macPage m 3) Mac.GCL_CYCLE_NS,
        s.get (macPage m 3) (Mac.GCL_BASE_BASE.nth 0) + s.get (macPage m 3) (Mac.GCL_BASE_BASE.nth 1) * 2 ^ 32⟩ ∧
      (t.mac m).oper = (s.mac m).oper ∧ t.flag (macPage m 3) Mac.GCL_CFG_EN = w.getLsbD 31 ∧ t.flag (macPage m 3) Mac.GCL_CFG_PENDING = true ∧
      OnlyRegs s t [fieldKey (macPage m 3) Mac.GCL_CFG_EN, fieldKey (macPage m 3) Mac.GCL_CFG_ADMIN_LEN,
        fieldKey (macPage m 3) Mac.GCL_CFG_PENDING] ∧ SameMemory s t ∧ SameFaults s t) ∧
  (∀ (m : Fin 2) (s : State),
    Completes (.gclCycleStart m) s fun t =>
      (∀ g, (s.mac m).admin = some g → (t.mac m).oper = some g) ∧ ((s.mac m).admin = none → (t.mac m).oper = (s.mac m).oper) ∧
      (t.mac m).admin = none ∧ (t.mac m).entry = 0 ∧ (t.mac m).entryStart = s.now ∧ t.flag (macPage m 3) Mac.GCL_CFG_PENDING = false ∧
      OnlyRegs s t [fieldKey (macPage m 3) Mac.GCL_CFG_PENDING] ∧ SameMemory s t ∧ SameFaults s t) ∧
  (∀ (m : Fin 2) (s : State) (g : GateList), (s.mac m).oper = some g →
    Completes (.gclEntryAdvance m) s fun t =>
      ((s.mac m).entry + 1 < g.run.length → (t.mac m).entry = (s.mac m).entry + 1 ∧ (t.mac m).entryStart = s.now) ∧
      (g.run.length ≤ (s.mac m).entry + 1 → t = s) ∧ t.regs = s.regs ∧ SameMemory s t ∧ SameFaults s t) ∧
  (∀ (m : Fin 2) (lock remoteFault fecLock : Bool) (s : State),
    Completes (.macLinkChange m lock remoteFault fecLock) s fun t =>
      t.flag (macPage m 0) Mac.MAC_STAT_LINK = (lock && !remoteFault) ∧ t.flag (macPage m 0) Mac.MAC_STAT_FEC_LOCK = fecLock ∧
      (lock = true → remoteFault = false → s.flag (macPage m 0) Mac.MAC_STAT_LINK = false → t.eventBit (macPage m 0) 0 = true) ∧
      (lock = false ∨ remoteFault = true → s.flag (macPage m 0) Mac.MAC_STAT_LINK = true → t.eventBit (macPage m 0) 1 = true) ∧
      t.condBit (macPage m 0) 0 = (s.flag (macPage m 0) Hdr.CTRL_EN && !(lock && !remoteFault)) ∧ t.macs = s.macs ∧ SameMemory s t)

/-- Management frames, the stream port and the Sounding units (parts of R410, R413 to R418, R440, R443, R444, R460). MG_TX_CTL.GO sends LEN bytes of the
transmit buffer on the ports that PORT names, with room for them; MG_RX_INFO takes the head frame of the receive queue and MG_RX_DATA its next four
bytes. The stream port keeps a unit of a frame that a slot carries, drops a second copy of a sentinel stream's, and gives a frame up that is withheld,
that lacks a line of a sentinel stream, or that does not fit; it sends a frame's next bytes under the next sequence number to the ports of the forwarding
entry. SD_CFG configures a Sounding unit, with what R444 does not allow turned away, and EN = 0 drops its taps; SD_ARM arms its one comparison.
Model's choices: notes/assumptions/22, 56, 64, 88, 89. -/
def Obligations.StreamsManagementAndSoundingAreServed : Prop :=
  (∀ (req : Requester) (w : Word) (s : State) (len : Nat) (b : List Byte), s.serves req (regOff (bridgePage 1) Bridge.MG_TX_CTL_GO) = true →
    len = max 60 (min 1518 (w.toNat % 2 ^ 11)) → b = s.bridge.mgTx.take len →
    Completes (.mgTxGo req w) s fun t =>
      t.get (bridgePage 1) Bridge.MG_TX_CTL_LEN = len ∧ t.bridge.mgTx = s.bridge.mgTx.drop (ceilDiv len 4 * 4) ∧
      (s.flag (bridgePage 0) Hdr.CTRL_EN = false → t.macs = s.macs) ∧
      (∀ (m : Fin 2) (k : Nat) (q : List EthFrame), s.flag (bridgePage 0) Hdr.CTRL_EN = true → len ≤ s.bridge.mgTx.length →
        k = frameClass b ((Config.freeValue s.free).toNat % 8) → q = (s.mac m).queues.getD k [] →
        (w.toNat / 2 ^ 29 % 4 = 2 ∨ (w.toNat / 2 ^ 29 % 4 = 1 ∧ m.val = 1) ∨ (w.toNat / 2 ^ 29 % 2 = w.toNat / 2 ^ 30 % 2 ∧ m.val = 0) →
          s.macUp m = true → (q.map (fun e => e.bytes.length)).sum + len ≤ 65536 →
          (t.mac m).queues = (s.mac m).queues.set k (q ++ [{ bytes := b }]))) ∧
      (w.toNat / 2 ^ 29 % 4 = 3 → t.eventBit (bridgePage 0) 1 = true) ∧ t.out = s.out ∧ SameMemory s t ∧ SameFaults s t) ∧
  (∀ (req : Requester) (s : State), s.servesRead req (regOff (bridgePage 1) Bridge.MG_RX_INFO_VALID) = true →
    Completes (.mgRxPop req) s fun t =>
      (∀ p b r, s.bridge.mgRx = (p, b) :: r → t.bridge.mgRx = r ∧ t.bridge.mgCur = b ∧
        t.get (bridgePage 1) Bridge.MG_RX_STAT_FRAMES = min 255 r.length ∧
        t.out = .readData req (regOff (bridgePage 1) Bridge.MG_RX_INFO_VALID) [2 ^ 31 + p * 2 ^ 29 + b.length] :: s.out) ∧
      (s.bridge.mgRx = [] → t.bridge = s.bridge ∧ t.out = .readData req (regOff (bridgePage 1) Bridge.MG_RX_INFO_VALID) [0] :: s.out) ∧
      t.macs = s.macs ∧ SameMemory s t ∧ SameFaults s t) ∧
  (∀ (req : Requester) (s : State), s.servesRead req (regOff (bridgePage 1) Bridge.MG_RX_DATA_DATA) = true →
    Completes (.mgRxDataRead req) s fun t =>
      (4 ≤ s.bridge.mgCur.length → t.out = .readData req (regOff (bridgePage 1) Bridge.MG_RX_DATA_DATA) [ofBytesLE (s.bridge.mgCur.take 4)] :: s.out) ∧
      t.bridge.mgCur = s.bridge.mgCur.drop 4 ∧ t.bridge.mgRx = s.bridge.mgRx ∧
      OnlyRegs s t [fieldKey (bridgePage 1) Bridge.MG_RX_DATA_DATA] ∧ SameMemory s t ∧ SameFaults s t) ∧
  (∀ (k : Fin 16) (h : Fin 2) (begun : Nat) (format : Fin 16) (u : PortUnit) (s : State) (fr : StreamFrame) (sentinel : Bool),
    s.slotCarries k u.key = true → sentinel = s.slotSentinel k u.key →
    fr = (((s.slot k).frames.find? fun f => f.key == u.key).getD { key := u.key, half := h, format := format }) →
    Completes (.streamUnit k h begun format u) s fun t =>
      (sentinel = true → s.actedAt h u.stream begun = false → t = s) ∧
      (sentinel = true → s.actedAt h u.stream begun = true → (u.key, u.line) ∈ (s.slot k).accepted →
        t.get (bridgePage 2) Bridge.STRM_DUP_COUNT =
          min (s.get (bridgePage 2) Bridge.STRM_DUP_COUNT + 1) (Bridge.STRM_DUP_COUNT.size - 1) ∧ t.bridge = s.bridge) ∧
      (sentinel = false ∨ (s.actedAt h u.stream begun = true ∧ (u.key, u.line) ∉ (s.slot k).accepted) →
        ((s.slot k).discarding = some u.key → (t.slot k).frames = (s.slot k).frames ∧ (t.slot k).discarding = some u.key) ∧
        ((s.slot k).discarding ≠ some u.key →
          (u.withheld = true ∨ (sentinel = true ∧ u.record = false ∧ u.line ≠ fr.next) →
            (t.slot k).discarding = some u.key ∧ (t.slot k).frames = (s.slot k).frames.filter (fun f => f.key != u.key)) ∧
          (u.withheld = false → sentinel = false ∨ u.record = true ∨ u.line = fr.next →
            ((s.putSlot k (s.slot k)).streamHeld + u.bytes.length ≤ 262144 → (t.slot k).discarding = none ∧
              (t.slot k).frames.find? (fun f => f.key == u.key) =
                some { fr with held := appendRun fr.held u.off u.bytes, complete := u.record, next := u.line + 1 }) ∧
            (262144 < (s.putSlot k (s.slot k)).streamHeld + u.bytes.length →
              (t.slot k).discarding = some u.key ∧ (t.slot k).frames = (s.slot k).frames.filter (fun f => f.key != u.key) ∧
              t.eventBit (bridgePage 2) 0 = true ∧ t.condBit (bridgePage 2) 0 = true ∧ t.get (bridgePage 2) Bridge.STRM_OVF_COUNT =
                min (s.get (bridgePage 2) Bridge.STRM_OVF_COUNT + 1) (Bridge.STRM_OVF_COUNT.size - 1))))) ∧
      (∀ j, j ≠ k.val → t.slot j = s.slot j) ∧ t.out = s.out ∧ SameMemory s t) ∧
  (∀ (k : Fin 16) (s : State) (fr : StreamFrame) (later : List StreamFrame) (off pay : Nat) (b frame : List Byte) (r : List (Nat × List Byte))
    (last : Bool), s.terminal = false → s.flag (bridgePage 0) Hdr.CTRL_EN = true → (s.slot k).frames = fr :: later →
    fr.held = (off, b) :: r → pay = s.get (bridgePage 2) Bridge.STRM_PAY_BYTES → pay ≤ b.length ∨ r ≠ [] ∨ fr.complete = true →
    last = (fr.complete && r.isEmpty && decide (b.length ≤ pay)) → frame = s.avtpFrame k (s.slot k) fr off (b.take pay) last →
    Completes (.streamFrameSend k) s fun t =>
      (t.slot k).seqNum = ((s.slot k).seqNum + 1) % 256 ∧
      (last = true → (t.slot k).frames = later ∧ t.get (bridgePage 2) (Bridge.SL_FRAMES_COUNT.nth k) =
        (s.get (bridgePage 2) (Bridge.SL_FRAMES_COUNT.nth k) + 1) % (Bridge.SL_FRAMES_COUNT.nth k).size) ∧
      (last = false → (t.slot k).frames = { fr with first := false, held := (if b.length ≤ pay then r else
        (off + pay, b.drop pay) :: r) } :: later) ∧
      (s.fdbFind (ofBytesBE (sliceBytes frame 0 6)) (frameVid frame) = none → t.macs = s.macs ∧
        t.get (bridgePage 0) Bridge.FDB_CNT_S_MISS = min (s.get (bridgePage 0) Bridge.FDB_CNT_S_MISS + 1) (Bridge.FDB_CNT_S_MISS.size - 1)) ∧
      (∀ (i cls : Nat) (m : Fin 2) (q : List EthFrame), s.fdbFind (ofBytesBE (sliceBytes frame 0 6)) (frameVid frame) = some i →
        cls = (s.slotFields k fr.key).getD 0 0 → q = (s.mac m).queues.getD cls [] → hasBit (s.fdbEntry i).ports m = true → s.macUp m = true →
        (q.map (fun e => e.bytes.length)).sum + (putBE frame 6 6 (s.macAddr m)).length ≤ 65536 →
        (t.mac m).queues = (s.mac m).queues.set cls (q ++ [{ bytes := putBE frame 6 6 (s.macAddr m) }])) ∧
      (∀ j, j ≠ k.val → t.slot j = s.slot j) ∧ t.out = s.out ∧ SameMemory s t ∧ SameFaults s t) ∧
  (∀ (req : Requester) (u : Fin 64) (w : Word) (s : State) (poly fold exp : Nat), s.serves req (regOff (sdPage u) Sounding.SD_CFG_EN) = true →
    poly = w.toNat / 2 ^ 29 % 4 → fold = w.toNat / 2 ^ 27 % 4 → exp = w.toNat / 2 ^ 25 % 4 →
    Completes (.soundingConfigWrite req u w) s fun t =>
      t.flag (sdPage u) Sounding.SD_CFG_EN = w.getLsbD 31 ∧
      (poly ≠ 3 → exp ≠ 3 ∨ (poly = 0 ∧ fold = 0) → t.get (sdPage u) Sounding.SD_CFG_POLY = poly ∧
        t.get (sdPage u) Sounding.SD_CFG_FOLD = fold ∧ t.get (sdPage u) Sounding.SD_CFG_EXP_SRC = exp) ∧
      (poly = 3 → t.eventBit (sdPage u) 3 = true ∧ (s.fits (sdPage u) Sounding.SD_CFG_POLY = true →
        t.get (sdPage u) Sounding.SD_CFG_POLY = s.get (sdPage u) Sounding.SD_CFG_POLY)) ∧
      (exp = 3 → fold ≠ 0 ∨ (poly ≠ 0 ∧ poly ≠ 3) → t.get (sdPage u) Sounding.SD_CFG_POLY = s.get (sdPage u) Sounding.SD_CFG_POLY ∧
        t.get (sdPage u) Sounding.SD_CFG_FOLD = s.get (sdPage u) Sounding.SD_CFG_FOLD ∧
        t.get (sdPage u) Sounding.SD_CFG_EXP_SRC = s.get (sdPage u) Sounding.SD_CFG_EXP_SRC ∧ t.eventBit (sdPage u) 3 = true) ∧
      (w.toNat % 1024 / 512 = u.val / 32 → t.get (sdPage u) Sounding.SD_CFG_CHAN = w.toNat % 1024) ∧
      (w.toNat % 1024 / 512 ≠ u.val / 32 → t.get (sdPage u) Sounding.SD_CFG_CHAN = s.get (sdPage u) Sounding.SD_CFG_CHAN ∧
        t.eventBit (sdPage u) 3 = true) ∧
      (w.getLsbD 31 = true → t.channels = s.channels ∧
        (s.flag (sdPage u) Sounding.SD_CFG_EN = false → t.get (sdPage u) Sounding.SD_DONE_COUNT = 0)) ∧
      (w.getLsbD 31 = false → s.flag (sdPage u) Sounding.SD_CFG_EN = true →
        ∀ e ∈ t.channels, ∀ r ∈ e.2.cur.toList ++ e.2.drain, ∀ x ∈ r.taps, x.unit ≠ u.val) ∧ SameMemory s t ∧ SameFaults s t) ∧
  (∀ (req : Requester) (u : Fin 64) (s : State), s.serves req (regOff (sdPage u) Sounding.SD_ARM_ARM) = true →
    Completes (.soundingArm req u) s fun t =>
      t.flag (sdPage u) Sounding.SD_ARM_ARM = true ∧ OnlyRegs s t [fieldKey (sdPage u) Sounding.SD_ARM_ARM] ∧ SameMemory s t ∧ SameFaults s t)

/-! ## The halves (rows 164 to 175) -/

/-- Heartbeats and failures (parts of R455 to R458). A wire edge is good and resets its path; a mailbox message is good where its index is right and its count
is one more than the reference's, and its count becomes the reference. A path whose age reaches its limit is lost, counted, and the half is
degraded. Both paths lost, or an enabled self-check failure: the half is FAILED; where it acted, the other half acts if it can take over, and none acts
if it cannot.
Model's choices: notes/assumptions/40. -/
def Obligations.HeartbeatsAndFailuresMoveControl : Prop :=
  (∀ (h : Fin 2) (s : State),
    Completes (.heartbeatWireEdge h) s fun t =>
      t.seawall.wireAt = s.seawall.wireAt.set h s.time.c ∧ t.flag swPage (hbOk h true) = true ∧
      hasBit (t.get swPage Seawall.SW_STAT_DEGRADED) h = (s.hbJudged h && !s.flag swPage (hbOk h false)) ∧
      t.condBit swPage 1 = (t.get swPage Seawall.SW_STAT_DEGRADED != 0) ∧ SameMemory s t) ∧
  (∀ (h : Fin 2) (index : Fin 256) (count : Fin 65536) (s : State),
    Completes (.heartbeatMailbox h index count) s fun t =>
      (index.val ≠ h.val → t = s) ∧
      (index.val = h.val → t.seawall.mbxRef = s.seawall.mbxRef.set h (some count.val) ∧
        (∀ r, s.seawall.mbxRef.getD h none = some r → count.val = (r + 1) % 65536 →
          t.flag swPage (hbOk h false) = true ∧ t.seawall.mbxAt = s.seawall.mbxAt.set h s.time.c) ∧
        (∀ r, s.seawall.mbxRef.getD h none = some r → count.val ≠ (r + 1) % 65536 → t.regs = s.regs ∧ t.seawall.mbxAt = s.seawall.mbxAt) ∧
        (s.seawall.mbxRef.getD h none = none → t.regs = s.regs ∧ t.seawall.mbxAt = s.seawall.mbxAt)) ∧ SameMemory s t) ∧
  (∀ (h : Fin 2) (wire : Bool) (s : State), s.hbJudged h = true → s.flag swPage (hbOk h wire) = true →
    Completes (.halfDegraded h wire) s fun t =>
      t.flag swPage (hbOk h wire) = false ∧ t.get swPage (hbLosses h wire) = min (s.get swPage (hbLosses h wire) + 1) ((hbLosses h wire).size - 1) ∧
      hasBit (t.get swPage Seawall.SW_STAT_DEGRADED) h = true ∧ t.condBit swPage 1 = true ∧
      (hasBit (s.get swPage Seawall.SW_STAT_DEGRADED) h = false → t.eventBit swPage 3 = true) ∧ SameMemory s t) ∧
  (∀ (h : Fin 2) (s : State), s.flag swPage (hbOk h true) = false → s.flag swPage (hbOk h false) = false → s.hbJudged h = true →
    Completes (.heartbeatFailure h) s fun t =>
      t.halfState h = 4 ∧ t.eventBit swPage 4 = true ∧ t.condBit swPage 0 = true ∧
      (s.halfState h = 1 → s.isCandidate (1 - h.val) = true → t.halfState (1 - h.val) = 1 ∧ t.halfActing (1 - h.val) = true ∧
        t.halfActing h = false ∧ t.get swPage Seawall.SW_LAST_CAUSE = 1 ∧ t.get swPage Seawall.SW_LAST_FROM = h ∧ t.eventBit swPage 0 = true) ∧
      (s.halfState h = 1 → s.isCandidate (1 - h.val) = false → t.halfActing 0 = false ∧ t.halfActing 1 = false ∧
        (s.halfState (1 - h.val) ≠ 1 → t.condBit swPage 2 = true)) ∧
      (s.halfState h ≠ 1 → t.halfState (1 - h.val) = s.halfState (1 - h.val) ∧
        t.halfActing (1 - h.val) = s.halfActing (1 - h.val)) ∧ SameMemory s t) ∧
  (∀ (h : Fin 2) (s : State) (c : Nat), s.selfCheckOf h = some c →
    Completes (.halfFailure h) s fun t =>
      (s.causeEnabled c = false → t.regs = s.regs ∧ t.due = s.due.erase (.selfCheck h c)) ∧
      (s.causeEnabled c = true → s.hbJudged h = true → t.halfState h = 4 ∧ t.condBit swPage 0 = true ∧ t.eventBit swPage 4 = true ∧
        (s.halfState h = 1 → s.isCandidate (1 - h.val) = true → t.halfState (1 - h.val) = 1 ∧ t.halfActing (1 - h.val) = true ∧
          t.get swPage Seawall.SW_LAST_CAUSE = c % 16 ∧ t.get swPage Seawall.SW_LAST_FROM = h) ∧
        (s.halfState h = 1 → s.isCandidate (1 - h.val) = false → t.halfActing 0 = false ∧ t.halfActing 1 = false)) ∧
      (s.causeEnabled c = true → s.hbJudged h = false → t.regs = s.regs) ∧ SameMemory s t)

/-- Dual-act windows, self-test, reports, repair and planned switches (parts of R459, R463, R465 to R468). The last window's end stops the old half. A self-test
slice counts and moves the position; a bad one reports a failure. Without a plan, reports say what was found since the last ones, HEALTHY where it was
good, and the 64th healthy one in a row ends RECOVERING. SW_CMD repairs a FAILED half only, and switches only to a healthy STANDBY half, at once or at the
boundary; a repaired half enters RECOVERING, or acts where none does.
Model's choices: notes/assumptions/40, 41, 42, 43. -/
def Obligations.HalvesAreTestedReportedRepairedAndSwitched : Prop :=
  (∀ (x : Fin 160) (s : State) (w : DualWindow), s.seawall.duals.find? (fun w => w.stream == x.val && w.until_.isNone) = some w →
    Completes (.dualActEnd x) s fun t =>
      (∀ v ∈ t.seawall.duals, v.stream = x.val → v.until_.isSome = true) ∧
      ((∀ v ∈ s.seawall.duals, v.until_ = none → v.stream = x.val) → t.flag swPage Seawall.SW_STAT_DUAL = false ∧ t.eventBit swPage 2 = true ∧
        t.get swPage Seawall.SW_LAST_WIN_NS = min 65535 (s.time.c - s.seawall.switchAt) ∧
        (s.halfState w.half ≠ 1 → t.halfActing w.half = false)) ∧
      OnlyRegs s t [fieldKey swPage Seawall.SW_STAT_DUAL, fieldKey swPage Seawall.SW_STAT_ACTING, fieldKey swPage Seawall.SW_LAST_WIN_NS,
        fieldKey swPage Hdr.EVT_STAT_EVENT] ∧ SameMemory s t ∧ SameFaults s t) ∧
  (∀ (h : Fin 2) (good : Bool) (s : State), (s.seawall.bist.getD h none).isSome = true →
    Completes (.bistSliceDone h good) s fun t =>
      t.seawall.bist.getD h none = none ∧
      t.get swPage1 (Seawall.SW_BIST_RUN_COUNT.nth h) =
        (s.get swPage1 (Seawall.SW_BIST_RUN_COUNT.nth h) + 1) % (Seawall.SW_BIST_RUN_COUNT.nth h).size ∧
      (s.get swPage1 (Seawall.SW_BIST_POS_SLICE.nth h) < 63 →
        t.get swPage1 (Seawall.SW_BIST_POS_SLICE.nth h) = s.get swPage1 (Seawall.SW_BIST_POS_SLICE.nth h) + 1) ∧
      (s.get swPage1 (Seawall.SW_BIST_POS_SLICE.nth h) = 63 → t.get swPage1 (Seawall.SW_BIST_POS_SLICE.nth h) = 0) ∧
      t.due = (if good then s.due else s.due ++ [.selfCheck h 8]) ∧ t.flt = s.flt ∧ SameMemory s t) ∧
  (∀ s : State,
    Completes .healthReportTimer s fun t =>
      (s.planLive = true → t = s) ∧
      (s.planLive = false → ∀ h : Fin 2,
        t.get swPage1 (Seawall.SW_RPT_TIDE_TIDE.nth h) = 0 ∧
        t.flag swPage1 (Seawall.SW_RPT_HB_OK.nth h) = !(s.seawall.tide.getD h {}).hbBad ∧
        t.flag swPage1 (Seawall.SW_RPT_CHECK_OK.nth h) = !(s.seawall.tide.getD h {}).checkBad ∧
        t.flag swPage1 (Seawall.SW_RPT_BIST_OK.nth h) = !(s.seawall.tide.getD h {}).bistBad ∧
        t.flag swPage1 (Seawall.SW_RPT_MBIST_OK.nth h) = !(s.seawall.tide.getD h {}).mbistBad ∧
        t.flag swPage1 (Seawall.SW_RPT_FAULT_OK.nth h) = (!(s.seawall.tide.getD h {}).faultBad && !s.halfFaulty h) ∧
        t.flag swPage1 (Seawall.SW_RPT_PARTS_OK.nth h) = !(s.seawall.tide.getD h {}).partBad ∧
        t.flag swPage1 (Seawall.SW_RPT_MATCH_OK.nth h) = (s.halfState h != 3 || !(s.seawall.tide.getD h {}).differ) ∧
        t.flag swPage1 (Seawall.SW_RPT_HEALTHY.nth h) = ([Seawall.SW_RPT_HB_OK, Seawall.SW_RPT_CHECK_OK, Seawall.SW_RPT_BIST_OK,
          Seawall.SW_RPT_MBIST_OK, Seawall.SW_RPT_FAULT_OK, Seawall.SW_RPT_PARTS_OK, Seawall.SW_RPT_MATCH_OK].all
            (fun f => t.flag swPage1 (f.nth h)) && s.halfState h != 0 && s.halfState h != 4) ∧
        (s.halfState h = 3 → s.halfState (1 - h.val) ≠ 3 →
          (t.flag swPage1 (Seawall.SW_RPT_HEALTHY.nth h) = false → t.get swPage Seawall.SW_STAT_RECOVER_COUNT = 0 ∧ t.halfState h = 3) ∧
          (t.flag swPage1 (Seawall.SW_RPT_HEALTHY.nth h) = true → s.get swPage Seawall.SW_STAT_RECOVER_COUNT + 1 < 64 →
            t.get swPage Seawall.SW_STAT_RECOVER_COUNT = s.get swPage Seawall.SW_STAT_RECOVER_COUNT + 1 ∧ t.halfState h = 3) ∧
          (t.flag swPage1 (Seawall.SW_RPT_HEALTHY.nth h) = true → s.get swPage Seawall.SW_STAT_RECOVER_COUNT + 1 = 64 →
            t.eventBit swPage 5 = true ∧ t.halfState h = (if s.flag swPage Seawall.SW_CFG_REVERT_EN &&
              s.get swPage Seawall.SW_CFG_PREFER == h && s.halfState (1 - h.val) == 1 then 1 else 2)))) ∧ SameMemory s t) ∧
  (∀ (req : Requester) (h : Fin 2) (w : Word) (s : State), s.serves req (regOff swPage Seawall.SW_CMD_REPAIR0) = true →
    Completes (.halfRepair req h w) s fun t =>
      (s.halfFailed h = true → t.power.repair.contains h.val = true ∧ (s.power.repair.contains h.val = false →
        t.flag swPage (if h.val = 0 then Seawall.SW_CMD_REPAIR0 else Seawall.SW_CMD_REPAIR1) = true)) ∧
      (s.halfFailed h = false → s.power.repair.contains h.val = false → t.eventBit swPage 6 = true ∧ t.power.repair.contains h.val = false) ∧
      SameMemory s t) ∧
  (∀ (h : Fin 2) (s : State), s.power.repair.contains h.val = true → (instancesOfHalf h).all s.ready = true →
    Completes (.repairDone h) s fun t =>
      t.power.repair.contains h.val = false ∧ t.get swPage Seawall.SW_STAT_RECOVER_COUNT = 0 ∧
      t.flag swPage (if h.val = 0 then Seawall.SW_CMD_REPAIR0 else Seawall.SW_CMD_REPAIR1) = false ∧
      (s.halfState (1 - h.val) = 1 ∨ s.halfState h = 1 → t.halfState h = 3) ∧
      (s.halfState 0 ≠ 1 → s.halfState 1 ≠ 1 → t.halfState h = 1 ∧ t.halfActing h = true) ∧ SameMemory s t) ∧
  (∀ (req : Requester) (w : Word) (s : State), s.serves req (regOff swPage Seawall.SW_CMD_SWITCH) = true →
    Completes (.switchRequest req w) s fun t =>
      (s.flag swPage Seawall.SW_CMD_SWITCH = true → t.flag swPage Seawall.SW_CMD_SWITCH = true) ∧
      (s.flag swPage Seawall.SW_CMD_SWITCH = false →
        (∀ h : Fin 2, s.halfState (1 - h.val) = 1 → s.halfState h = 2 → hasBit (s.get swPage Seawall.SW_STAT_HEALTHY) h = true →
          t.flag swPage Seawall.SW_CMD_SWITCH = true) ∧
        ((∀ h : Fin 2, ¬ (s.halfState (1 - h.val) = 1 ∧ s.halfState h = 2 ∧ hasBit (s.get swPage Seawall.SW_STAT_HEALTHY) h = true)) →
          t.flag swPage Seawall.SW_CMD_SWITCH = false ∧ t.eventBit swPage 6 = true)) ∧
      (w.getLsbD 31 = false → w.getLsbD 30 = false →
        OnlyRegs s t [fieldKey swPage Seawall.SW_CMD_SWITCH, fieldKey swPage Hdr.EVT_STAT_EVENT] ∧ SameFaults s t) ∧ SameMemory s t) ∧
  (∀ s : State, s.flag swPage Seawall.SW_CMD_SWITCH = true → s.planLive = false ∨ s.seawall.switchDue = true →
    Completes .switchApply s fun t =>
      t.flag swPage Seawall.SW_CMD_SWITCH = false ∧
      (∀ h : Fin 2, s.halfState (1 - h.val) = 1 → s.halfState h = 2 → t.halfState h = 1 ∧ t.halfState (1 - h.val) = 2 ∧ t.halfActing h = true ∧
        t.get swPage Seawall.SW_LAST_CAUSE = 10 ∧ t.get swPage Seawall.SW_LAST_TO = h ∧ t.get swPage Seawall.SW_LAST_FROM = 1 - h.val ∧
        t.eventBit swPage 0 = true) ∧
      ((∀ h : Fin 2, ¬ (s.halfState (1 - h.val) = 1 ∧ s.halfState h = 2)) → t.eventBit swPage 6 = true ∧ t.halfState 0 = s.halfState 0 ∧
        t.halfState 1 = s.halfState 1) ∧ SameMemory s t)

/-! ## The Breakwater (rows 176, 178 to 182, 240) -/

/-- What the Breakwater makes of an occurrence (parts of R478, R480 to R482, R487, R490, R492): it is logged with its source, severity, reaction and time, the first
one is kept, its bit is unacknowledged unless consequential, ERR_N is driven where its source says so, and its reaction is applied: a block reset, of a
Drift group of the members whose bit is unacknowledged, a chip reset or the terminal latch. BW_CTRL.LOCK locks, and TOG_EN takes its bit. BW_INJ.GO makes
an occurrence in factory mode only (parts of R494, R495).
ERR_N is released once no cause holds it; ERR_TOG toggles while the device is healthy and is low otherwise; a readback that differs switches it
off; an ERR_N that is driven and reads high is stuck (parts of R490, R491, R610).
Model's choices: notes/assumptions/48, 49, 90. -/
def Obligations.FaultOccurrencesAreLoggedAndAnswered : Prop :=
  (∀ (src : Fin 1536) (s : State) (pg b : Nat) (r : PageRef), s.due.find? (ofSource src) = some (.occurrence pg b) → pageRef pg = some r →
    Completes (.faultOccurrence src) s fun t =>
      t.get 0x26 Breakwater.BW_LOG_WR_COUNT = (s.get 0x26 Breakwater.BW_LOG_WR_COUNT + 1) % Breakwater.BW_LOG_WR_COUNT.size ∧
      t.get 0x26 (Breakwater.LOG_INFO_SOURCE.nth (s.get 0x26 Breakwater.BW_LOG_WR_COUNT % 64)) = src ∧
      t.get 0x26 (Breakwater.LOG_INFO_SEV.nth (s.get 0x26 Breakwater.BW_LOG_WR_COUNT % 64)) = (s.verdict r src).sev % 8 ∧
      t.get 0x26 (Breakwater.LOG_INFO_REACT.nth (s.get 0x26 Breakwater.BW_LOG_WR_COUNT % 64)) = (s.verdict r src).react % 8 ∧
      t.flag 0x26 (Breakwater.LOG_INFO_CONSEQ.nth (s.get 0x26 Breakwater.BW_LOG_WR_COUNT % 64)) = (s.verdict r src).conseq ∧
      t.get 0x26 (Breakwater.LOG_TIME_LO_TIME.nth (s.get 0x26 Breakwater.BW_LOG_WR_COUNT % 64)) = s.now % 2 ^ 32 ∧
      (s.flag bwPage Breakwater.BW_FIRST_INFO_VALID = false → t.flag bwPage Breakwater.BW_FIRST_INFO_VALID = true ∧
        t.get bwPage Breakwater.BW_FIRST_INFO_SOURCE = src) ∧
      (s.flag bwPage Breakwater.BW_FIRST_INFO_VALID = true →
        t.get bwPage Breakwater.BW_FIRST_INFO_SOURCE = s.get bwPage Breakwater.BW_FIRST_INFO_SOURCE) ∧
      ((s.verdict r src).conseq = false → hasBit (t.marks pg).unack b = true) ∧
      (s.bwCfg src Breakwater.SRC_CFG_ERR = 1 → t.flag bwPage Breakwater.BW_STAT_ERR_DRIVEN = true) ∧
      ((s.verdict r src).react = 6 → t.terminal = true ∧ t.flag bwPage Breakwater.BW_STAT_ERR_DRIVEN = true) ∧
      ((s.verdict r src).conseq = false → (s.verdict r src).react = 5 →
        t.due.contains (.chipReset (if r.block = .lp ∧ b = 1 then 4 else 5)) = true) ∧
      ((s.verdict r src).conseq = false → (s.verdict r src).react = 4 →
        (r.block ≠ .drift → t.resetting { r with idx := 0 } = true) ∧
        (r.block = .drift → (r.base = pg → t.resetting r = true) ∧ ∀ i < 16,
          hasBit (s.marks ({ r with inst := r.inst / 16 * 16 + i } : PageRef).base).unack b = true →
          t.resetting { r with inst := r.inst / 16 * 16 + i } = true)) ∧
      SameMemory s t) ∧
  (∀ (req : Requester) (w : Word) (s : State), s.serves req (regOff bwPage Breakwater.BW_CTRL_LOCK) = true →
    Completes (.bwLock req w) s fun t =>
      t.flag bwPage Breakwater.BW_CTRL_LOCK = true ∧ t.flag bwPage Breakwater.BW_CTRL_TOG_EN = w.getLsbD 30 ∧ t.out = s.out ∧ SameMemory s t) ∧
  (∀ (req : Requester) (w : Word) (s : State), s.serves req (regOff 0x27 Breakwater.BW_INJ_GO) = true →
    Completes (.faultInject req w) s fun t =>
      (s.factory = false → t = s) ∧
      (s.factory = true → t.get 0x27 Breakwater.BW_INJ_SOURCE = w.toNat % 2 ^ 11 ∧
        (sourceBit (w.toNat % 2 ^ 11) 0 = none → t.due = s.due)) ∧
      (∀ pg b, s.factory = true → sourceBit (w.toNat % 2 ^ 11) 0 = some (pg, b) →
        t.due = s.due ++ [.occurrence pg b] ∧ t.fltBit pg b = true) ∧ t.flt = s.flt ∧
      SameMemory s t) ∧
  (∀ (high : Bool) (s : State),
    Completes (.errNRelease high) s fun t =>
      (s.flag bwPage Breakwater.BW_STAT_ERR_DRIVEN = false ∨ s.errHeld = true → t = s) ∧
      (s.flag bwPage Breakwater.BW_STAT_ERR_DRIVEN = true → s.errHeld = false → t.flag bwPage Breakwater.BW_STAT_ERR_DRIVEN = false ∧
        t.flag bwPage Breakwater.BW_STAT_ERR_BALL = high ∧ t.flag 0xC Chip.ERRN_STAT_STUCK = false ∧ t.condBit 0xC 1 = false) ∧ t.due = s.due ∧
      SameMemory s t) ∧
  (∀ s : State,
    Completes .errTogToggle s fun t =>
      t.fault.togLevel = (s.togRuns && !s.fault.togLevel) ∧ t.flag bwPage Breakwater.BW_STAT_TOG_RUNNING = s.togRuns ∧
      OnlyRegs s t [fieldKey bwPage Breakwater.BW_STAT_TOG_RUNNING] ∧ SameMemory s t ∧ SameFaults s t) ∧
  (∀ s : State,
    Completes .togReadback s fun t =>
      (s.fault.togOff = true → t = s) ∧
      (s.fault.togOff = false → t.fault.togOff = true ∧ t.fault.togLevel = false ∧ t.togRuns = false ∧
        t.flag bwPage Breakwater.BW_STAT_TOG_RUNNING = false ∧ t.condBit bwPage 1 = true ∧
        t.get 0xC Chip.GPIO_MISMATCH_COUNT = min (s.get 0xC Chip.GPIO_MISMATCH_COUNT + 1) (Chip.GPIO_MISMATCH_COUNT.size - 1)) ∧ SameMemory s t) ∧
  (∀ s : State,
    Completes .errnStuck s fun t =>
      (s.flag bwPage Breakwater.BW_STAT_ERR_DRIVEN = false → t = s) ∧
      (s.flag bwPage Breakwater.BW_STAT_ERR_DRIVEN = true → t.flag 0xC Chip.ERRN_STAT_STUCK = true ∧
        t.flag bwPage Breakwater.BW_STAT_ERR_BALL = true ∧ t.condBit 0xC 1 = true) ∧ SameMemory s t)

/-! ## The Beacon (rows 183 to 189) -/

/-- Sources fire, are delivered and complete (R505 to R507, R509 to R516, R524, R526). A level source fires at a rise of its input, an edge source at a
pulse that is due; a firing is counted, the source becomes PENDING where its PRIO is not 0, and a further one merges. The next delivery goes to its processor, whose stack takes the source. An EOI of the innermost source pops it; another
is turned away. A level source that falls before delivery is withdrawn. SET fires edge sources, CLR withdraws them, and the watchdogs raise theirs. -/
def Obligations.BeaconSourcesFireAreDeliveredAndComplete : Prop :=
  (∀ (n : Fin 512) (s : State),
    Completes (.beaconFiring n) s fun t =>
      (isReservedSrc n = true → t = s) ∧
      (isReservedSrc n = false → s.isLevelSrc n = true → s.levelInput n = false ∨ (s.src n).level = true → t = s) ∧
      (isReservedSrc n = false → s.isLevelSrc n = false → Due.pulse n.val ∉ s.due → t = s) ∧
      (isReservedSrc n = false → (s.isLevelSrc n = false ∧ Due.pulse n.val ∈ s.due) ∨
          (s.isLevelSrc n = true ∧ s.levelInput n = true ∧ (s.src n).level = false) →
        t.get bcnPage Beacon.BCN_FIRINGS_COUNT = (s.get bcnPage Beacon.BCN_FIRINGS_COUNT + 1) % Beacon.BCN_FIRINGS_COUNT.size ∧
        Due.msix 0 (1024 + n.val) ∈ t.due ∧ (t.src n).act = (s.src n).act ∧ (t.src n).pend = ((s.src n).pend || s.srcPrio n != 0) ∧
        ((s.src n).pend = true → s.srcPrio n ≠ 0 →
          t.get bcnPage Beacon.BCN_MERGED_COUNT = min (s.get bcnPage Beacon.BCN_MERGED_COUNT + 1) (Beacon.BCN_MERGED_COUNT.size - 1)) ∧
        ((s.src n).pend = false ∨ s.srcPrio n = 0 → t.get bcnPage Beacon.BCN_MERGED_COUNT = s.get bcnPage Beacon.BCN_MERGED_COUNT) ∧
        (s.isLevelSrc n = false → t.due.count (.pulse n.val) + 1 = s.due.count (.pulse n.val)) ∧
        (s.isLevelSrc n = true → (t.src n).level = true)) ∧
      SameMemory s t) ∧
  (∀ (s : State) (n k : Nat), s.nextDelivery = some (n, k) →
    Completes .beaconDeliver s fun t =>
      (t.src n).act = true ∧ (t.src n).pend = false ∧ (t.src n).lp = k ∧
      t.irqStack k = (n, if s.srcFast n then 16 else s.srcPrio n) :: s.irqStack k ∧ t.get bcnPage Beacon.BCN_STAT_POINTER = (k + 1) % 4 ∧
      t.get bcnPage (Beacon.LP_TAKEN_COUNT.nth k) = (s.get bcnPage (Beacon.LP_TAKEN_COUNT.nth k) + 1) % (Beacon.LP_TAKEN_COUNT.nth k).size ∧
      t.out = .vector k (s.get bcnPage (Beacon.LP_VBASE_BASE.nth k) * 0x1000 + 8 * n) :: s.out ∧ SameMemory s t) ∧
  (∀ (req : Requester) (k : Fin 4) (w : Word) (s : State), s.serves req (regOff bcnPage (Beacon.LP_EOI_SOURCE.nth k)) = true →
    Completes (.beaconEoi req k w) s fun t =>
      (req.lp? ≠ some k.val → t.eventBit bcnPage 1 = true ∧ t.beacon = s.beacon ∧ SameFaults s t) ∧
      (∀ p rest, req.lp? = some k.val → s.irqStack k = (w.toNat % 512, p) :: rest →
        t.irqStack k = rest ∧ (t.src (w.toNat % 512)).act = false ∧
        (t.src (w.toNat % 512)).pend = (s.srcPrio (w.toNat % 512) != 0 &&
          (if s.isLevelSrc (w.toNat % 512) then s.levelInput (w.toNat % 512) else (s.src (w.toNat % 512)).pend))) ∧
      (req.lp? = some k.val → ((s.irqStack k).head?.map (·.1)) ≠ some (w.toNat % 512) →
        t.condBit bcnPage 2 = true ∧ t.irqStack k = s.irqStack k ∧ t.beacon.srcs = s.beacon.srcs) ∧ SameMemory s t) ∧
  (∀ (n : Fin 512) (s : State), s.isLevelSrc n = true → (s.src n).level = true → s.levelInput n = false →
    Completes (.beaconLevelFall n) s fun t =>
      (t.src n).level = false ∧ (t.src n).act = (s.src n).act ∧
      ((s.src n).pend = true → (s.src n).act = false → (t.src n).pend = false ∧
        t.get bcnPage Beacon.BCN_WITHDRAWN_COUNT = min (s.get bcnPage Beacon.BCN_WITHDRAWN_COUNT + 1) (Beacon.BCN_WITHDRAWN_COUNT.size - 1)) ∧
      ((s.src n).act = true → (t.src n).pend = (s.src n).pend) ∧ SameMemory s t) ∧
  (∀ (req : Requester) (i : Fin 16) (w : Word) (s : State), s.serves req (regOff 0x33 (Beacon.SET_SRC.nth i)) = true →
    Completes (.beaconSet req i w) s fun t =>
      (∀ b < 32, w.getLsbD b = true → isReservedSrc (32 * i.val + b) = false → s.isLevelSrc (32 * i.val + b) = false →
        Due.msix 0 (1024 + 32 * i.val + b) ∈ t.due ∧
        (s.srcPrio (32 * i.val + b) ≠ 0 → (t.src (32 * i.val + b)).pend = true)) ∧
      (∀ b < 32, w.getLsbD b = true → isReservedSrc (32 * i.val + b) = true ∨ s.isLevelSrc (32 * i.val + b) = true →
        t.eventBit bcnPage 1 = true ∧ t.src (32 * i.val + b) = s.src (32 * i.val + b)) ∧
      t.get bcnPage Beacon.BCN_FIRINGS_COUNT = (s.get bcnPage Beacon.BCN_FIRINGS_COUNT + ((List.range 32).filter fun b => w.getLsbD b &&
        !isReservedSrc (32 * i.val + b) && !s.isLevelSrc (32 * i.val + b)).length) % Beacon.BCN_FIRINGS_COUNT.size ∧
      (∀ n, n < 32 * i.val ∨ 32 * i.val + 32 ≤ n → t.src n = s.src n) ∧ SameMemory s t) ∧
  (∀ (req : Requester) (i : Fin 16) (w : Word) (s : State), s.serves req (regOff 0x33 (Beacon.CLR_SRC.nth i)) = true →
    Completes (.beaconClr req i w) s fun t =>
      (∀ b < 32, w.getLsbD b = true → s.isLevelSrc (32 * i.val + b) = false → (t.src (32 * i.val + b)).pend = false ∧
        (t.src (32 * i.val + b)).act = (s.src (32 * i.val + b)).act) ∧
      (∀ b < 32, w.getLsbD b = false ∨ s.isLevelSrc (32 * i.val + b) = true → t.src (32 * i.val + b) = s.src (32 * i.val + b)) ∧
      (∀ n, n < 32 * i.val ∨ 32 * i.val + 32 ≤ n → t.src n = s.src n) ∧ SameMemory s t) ∧
  (∀ (n : Fin 512) (s : State),
    Completes (.beaconWatchdog n) s fun t =>
      ((s.src n).act = true → (t.src n).hung = true ∧ t.condBit bcnPage 5 = true) ∧
      ((s.src n).act = false → (s.src n).pend = true → s.srcPrio n ≠ 0 → (t.src n).starved = true ∧ t.condBit bcnPage 0 = true) ∧
      ((s.src n).act = false → (s.src n).pend = false ∨ s.srcPrio n = 0 → t = s) ∧ SameMemory s t)

/-- The best eligible processor (R511): it is eligible, no eligible processor has a lower running priority, and of the tied ones it is the first from the
pointer p on. A delivery sets p to its index plus 1, modulo 4; p is 0 at chip reset. -/
def Obligations.TheBestProcessorHasTheLowestRunningPriority : Prop :=
  (∀ (s : State) (n k : Nat), s.bestLp n = some k →
    k < 4 ∧ s.eligible n k = true ∧ (∀ j < 4, s.eligible n j = true → s.runPrio k ≤ s.runPrio j) ∧
    (∀ j < 4, s.eligible n j = true → s.runPrio j = s.runPrio k → (k + 4 - s.get bcnPage Beacon.BCN_STAT_POINTER % 4) % 4 ≤
      (j + 4 - s.get bcnPage Beacon.BCN_STAT_POINTER % 4) % 4)) ∧
  (∀ (s : State) (n : Nat), s.bestLp n = none → ∀ j < 4, s.eligible n j = false) ∧
  (∀ (s : State) (n k : Nat), s.nextDelivery = some (n, k) → s.bestLp n = some k ∧
    Completes .beaconDeliver s fun t => t.get bcnPage Beacon.BCN_STAT_POINTER = (k + 1) % 4) ∧
  State.reset.get bcnPage Beacon.BCN_STAT_POINTER = 0

/-! ## The control cores and the command ring (rows 190 to 211) -/

/-- The control cores and their ring (parts of R528, R530, R531, R533, R534, R536, R537, R540). A lockstep mismatch counts and is a failure of the half; a rebooted
pair takes up its role; a watchdog that runs out is a fault. CMD_TAIL of the owner submits entries while the ring has room, and a step boundary of
the serving processor fetches the next one, which ends at once where R534 finds it bad; CPL_HEAD gives records back, and the one completion that waits is
written; a completion that waits too long is a fault. A report of a step reaches its entry, which goes on or ends, or is stale.
Model's choices: notes/assumptions/30, 32, 90. -/
def Obligations.ControlCoresServeTheRing : Prop :=
  (∀ (k : Fin 4) (s : State),
    Completes (.lockstepMismatch k) s fun t =>
      (s.ready ⟨.lp, k, 0⟩ = false → t = s) ∧
      (s.ready ⟨.lp, k, 0⟩ = true → t.get (lpPage k) Lp.LOCKSTEP_CNT_COUNT =
          min (s.get (lpPage k) Lp.LOCKSTEP_CNT_COUNT + 1) (Lp.LOCKSTEP_CNT_COUNT.size - 1) ∧
        t.condBit (lpPage k) 0 = true ∧ Due.selfCheck (k / 2) 5 ∈ t.due) ∧ SameMemory s t) ∧
  (∀ (k : Fin 4) (s : State), s.ready ⟨.lp, k, 0⟩ = true → hasBit s.cores.down k = true ∨ s.get (lpPage k) Lp.LP_FW_STAT_STATE = 1 →
    s.get 0x8 Chip.BOOT_STAT_STATE = 3 →
    Completes (.pairRebootDone k) s fun t =>
      hasBit t.cores.down k = false ∧ hasBit t.cores.mie k = true ∧
      t.get (lpPage k) Lp.LP_FW_STAT_STATE = (if s.halfState (k / 2) = 1 then 2 else 3) ∧
      t.condBit (lpPage k) 0 = false ∧ t.condBit (lpPage k) 1 = false ∧ t.condBit (lpPage k) 2 = false ∧ t.due = s.due ∧ SameMemory s t) ∧
  (∀ (k : Fin 4) (s : State),
    Completes (.coreWatchdog k) s fun t =>
      (s.flag (lpPage k) Lp.WD_CFG_EN = true → s.ready ⟨.lp, k, 0⟩ = true → t.condBit (lpPage k) 1 = true) ∧
      (s.flag (lpPage k) Lp.WD_CFG_EN = false ∨ s.ready ⟨.lp, k, 0⟩ = false → t = s) ∧ OnlyRegs s t [fieldKey (lpPage k) Hdr.FLT_STAT_FAULT] ∧ SameMemory s t) ∧
  (∀ (k : Fin 4) (req : Requester) (w : Word) (s : State) (n : Nat), s.serves req (regOff (Block.page .lp k 1) Lp.CMD_TAIL_COUNT) = true →
    n = (w.toNat % 65536 + 65536 - s.get ringPage Lp.CMD_TAIL_COUNT) % 65536 →
    Completes (.cmdDoorbell k req w) s fun t =>
      (s.flag ringPage Lp.CMD_CFG_EN = true → s.cores.owner = none ∨ s.cores.owner = some req → s.cores.entries.length + n ≤ 256 →
        t.get ringPage Lp.CMD_TAIL_COUNT = w.toNat % 65536 ∧ t.cores.owner = some req ∧
        t.cores.entries.map (·.count) = s.cores.entries.map (·.count) ++
          (List.range n).map (fun i => (s.get ringPage Lp.CMD_TAIL_COUNT + i) % 65536) ∧ t.due = s.due ++ [.pulse 1]) ∧
      (s.flag ringPage Lp.CMD_CFG_EN = false ∨ (∃ r, s.cores.owner = some r ∧ r ≠ req) ∨ 256 < s.cores.entries.length + n →
        t.cores = s.cores ∧ t.eventBit (s.ringEventPage k) 1 = true ∧ SameFaults s t) ∧ t.out = s.out ∧ SameMemory s t) ∧
  (∀ (k : Fin 4) (req : Requester) (w : Word) (s : State), s.serves req (regOff (Block.page .lp k 1) Lp.CPL_HEAD_COUNT) = true →
    Completes (.cplHeadWrite k req w) s fun t =>
      (s.cores.owner ≠ some req → t.cores = s.cores ∧ t.eventBit (s.ringEventPage k) 1 = true ∧ SameMemory s t) ∧
      (s.cores.owner = some req → t.get ringPage Lp.CPL_HEAD_COUNT = w.toNat % 65536 ∧
        (s.cores.waiting = [] → t.cores = s.cores ∧ (s.serving.isSome = true → ∀ q < 4, t.condBit (lpPage q) 5 = false) ∧ SameMemory s t) ∧
        (∀ c, s.cores.waiting = [c] → s.serving.isSome = true →
          (s.get ringPage Lp.CPL_TAIL_COUNT + 65536 - w.toNat % 65536) % 65536 < 256 →
          t.cores.waiting = [] ∧ (∀ x ∈ t.cores.entries, x.count ≠ c.count) ∧
          t.get ringPage Lp.CPL_TAIL_COUNT = (s.get ringPage Lp.CPL_TAIL_COUNT + 1) % 65536))) ∧
  (∀ (k : Fin 4) (ns : Nat) (v : MemView) (s : State),
    Completes (.fwStepBoundary k ns v) s fun t =>
      (s.running k = false → t = s) ∧
      (s.running k = true → s.power.wakeSeqDue = false → s.power.replanDue = false → s.get 0x2 Chip.PM_STAT_STATE ≠ 2 → s.serving ≠ some k.val →
        s.runner (k / 2) ≠ some k.val →
        t.get (lpPage k) Lp.LP_FW_STAT_STATE = (if s.halfState (k / 2) = 1 then 2 else 3) ∧
        t.get ringPage Lp.STEP_MAX_NS = max (s.get ringPage Lp.STEP_MAX_NS) (min ns (Lp.STEP_MAX_NS.size - 1)) % Lp.STEP_MAX_NS.size ∧
        t.cores = s.cores ∧ SameMemory s t ∧ SameFaults s t) ∧
      (∀ e b, s.running k = true → s.power.wakeSeqDue = false → s.power.replanDue = false → s.get 0x2 Chip.PM_STAT_STATE ≠ 2 →
        s.serving = some k.val → s.cores.entries = [e] → e.bytes = none → e.started = false → e.lost = none → s.cores.waiting = [] →
        s.tide.ended = none → s.tide.checking = none → s.flatMemory (k / 2) → s.cmdBase + 0x4000 ≤ s.memCapacity (k / 2) →
        s.memCapacity (k / 2) ≤ 2 ^ 52 → v.errs = [] → b = s.memRead (k / 2) (s.cmdBase + 64 * e.index) 64 →
        t.get ringPage Lp.CMD_HEAD_COUNT = (e.count + 1) % 65536 ∧
        (({ e with bytes := some b } : RingEntry).fault = none → t.cores.entries = [{ e with bytes := some b }] ∧ SameMemory s t) ∧
        (∀ x, ({ e with bytes := some b } : RingEntry).fault = some x →
          EntryEnds s t k { e with bytes := some b } x.status none none (some x.detail)))) ∧
  (∀ (s : State) (k : Nat), s.serving = some k →
    Completes .cplFullTimeout s fun t =>
      (s.cores.waiting ≠ [] → t.condBit (lpPage k) 5 = true) ∧ (s.cores.waiting = [] → t = s) ∧ t.cores = s.cores ∧ SameMemory s t) ∧
  (∀ (s : State) (k : Nat) (r : StepReport) (rest : List StepReport), s.serving = some k → s.cores.reports = r :: rest →
    Completes .stepReport s fun t =>
      ((∀ e ∈ s.cores.entries, ¬ (e.index = r.id ∧ e.due = r.gen ∧ e.far.isSome = true)) → t.cores.reports = rest ∧
        t.cores.entries = s.cores.entries ∧
        t.get ringPage Lp.CMD_STALE_COUNT = min (s.get ringPage Lp.CMD_STALE_COUNT + 1) (Lp.CMD_STALE_COUNT.size - 1) ∧
        t.eventBit (lpPage k) 0 = true) ∧
      (∀ e w, s.cores.entries = [e] → e.index = r.id → e.due = r.gen → e.far.isSome = true → s.entryEnded e = false → r.result = .goes w →
        t.cores.reports = rest ∧ t.cores.entries = [{ e with far := none, steps := e.steps + 1, work := w }] ∧ t.regs = s.regs) ∧
      (∀ e x, s.cores.entries = [e] → e.index = r.id → e.due = r.gen → e.far.isSome = true → s.entryEnded e = false → r.result = .ends x →
        e.num 3 1 = e.due → t.cores.reports = rest ∧ EntryEnds s t k e x.status x.r0 x.r1 (some x.detail)) ∧
      (r.result = .goes .none → SameMemory s t))

/-- What the commands of the ring do (parts of R60, R235, R538 to R541, R623). NOP ends. A plan document is taken up, or the command ends with BUSY or a bad
parameter; a withdrawn submission ends first. A load of one step copies its bytes and a check of one step computes its code, and each compares it where
asked; a learn marks its context, and a scrub takes its first lines; CANCEL ends its target. A parameter out of range ends the command with
status 2 and its offset. The memory that a command acts on here is local, untranslated, and without errors.
Model's choices: notes/assumptions/31, 32, 33. -/
def Obligations.RingCommandsDoTheirWork : Prop :=
  (∀ (i : Fin 256) (s : State) (k : Nat) (e : RingEntry), s.startsNext i 0x0001 k e →
    Completes (.nop i) s fun t => EntryEnds s t k e 0 (some 0) (some 0) ∧ (s.cplFull = true → SameMemory s t ∧ SameFaults s t ∧ t.out = s.out)) ∧
  (∀ (i : Fin 256) (v : MemView) (s : State) (k : Nat) (e : RingEntry) (doc n : Nat), s.startsNext i 0x0002 k e → doc = e.num 0x10 8 →
    n = 32 * min (fieldLE (s.memRead (k / 2) doc 0xC0) 0x0C 2) 160 + 16 * min (fieldLE (s.memRead (k / 2) doc 0xC0) 0x0E 2) 640 →
    Completes (.planSubmit i v) s fun t =>
      (2 ^ 52 ≤ doc ∨ doc % 64 ≠ 0 → EntryEnds s t k e 2 none none (some 0x10)) ∧
      (doc < 2 ^ 52 → doc % 64 = 0 → s.flatMemory (k / 2) → doc + 0xC0 + n ≤ s.memCapacity (k / 2) → s.memCapacity (k / 2) ≤ 2 ^ 52 → v.errs = [] →
        (s.planState = 0 → s.get 0x2 Chip.PM_STAT_STATE ≠ 1 → s.terminal = false →
          t.tide.checking = some (s.memRead (k / 2) doc (0xC0 + n)) ∧ t.planState = 1 ∧
          (∀ x ∈ t.cores.entries, x.count = e.count → x.started = true ∧ x.work = .submit ∧ x.steps = 1) ∧ SameMemory s t) ∧
        (s.planState ≠ 0 ∨ s.get 0x2 Chip.PM_STAT_STATE = 1 ∨ s.terminal = true →
          EntryEnds s t k e 8 (some 0x32) (some 0) ∧ t.tide = s.tide))) ∧
  (∀ (i : Fin 256) (s : State) (k : Nat) (e : RingEntry), s.startsNext i 0x0003 k e → s.tide.ended = none →
    Completes (.planWithdraw i) s fun t =>
      (s.planState = 0 → EntryEnds s t k e 9 ∧ t.tide = s.tide) ∧
      (s.planState = 3 → s.tide.stagedCaptured = true → EntryEnds s t k e 0xB ∧ t.tide = s.tide) ∧
      (s.planState ≠ 0 → s.planState ≠ 3 ∨ s.tide.stagedCaptured = false → t.planState = 0 ∧ t.tide.staged = none ∧ t.tide.checking = none ∧
        ((∀ y ∈ s.cores.entries, y.work ≠ .submit) → EntryEnds s t k e 0 (some 0) (some 0)) ∧
        (∀ y, s.planState ≠ 3 → s.cores.entries.find? (fun y => y.started && y.work == .submit && !s.entryEnded y) = some y → s.cplFull = true →
          t.cores.waiting.map (fun c => (c.count, c.status)) =
            s.cores.waiting.map (fun c => (c.count, c.status)) ++ [(y.count, 4), (e.count, 0)]))) ∧
  (∀ (i : Fin 256) (v : MemView) (s : State) (k : Nat) (e : RingEntry) (b : List Byte), s.startsNext i 0x0010 k e →
    b = s.memRead (k / 2) (e.num 0x10 8) (min e.loadLen 0x40000) →
    Completes (.tableLoad i v) s fun t =>
      (∀ d, (e.highAddr 0x10 = true ∧ d = 0x10) ∨ (e.highAddr 0x10 = false ∧ e.highAddr 0x18 = true ∧ d = 0x18) ∨
        (e.highAddr 0x10 = false ∧ e.highAddr 0x18 = false ∧ e.highAddr 0x20 = true ∧ d = 0x20) ∨
        (e.highAddr 0x10 = false ∧ e.highAddr 0x18 = false ∧ e.highAddr 0x20 = false ∧ (e.loadLen = 0 ∨ 2 ^ 24 < e.loadLen) ∧ d = 0x28) →
        EntryEnds s t k e 2 none none (some d)) ∧
      (0 < e.loadLen → e.loadLen ≤ 0x40000 → e.num 0x30 1 ≤ 1 → s.flatMemory (k / 2) → e.num 0x10 8 + e.loadLen ≤ s.memCapacity (k / 2) →
        e.num 0x18 8 + e.loadLen ≤ s.memCapacity (k / 2) → s.memCapacity (k / 2) ≤ 2 ^ 52 → e.highAddr 0x20 = false → v.errs = [] →
        e.lost = none → e.far = none → s.tide.ended = none →
        (∀ j < e.loadLen, s.besideRecord (e.num 0x18 8 + j) →
          t.memByte (k / 2) (e.num 0x18 8 + j) = s.memByte (k / 2) (e.num 0x10 8 + j)) ∧
        (∀ h pa, h ≠ k / 2 ∨ (s.besideRecord pa ∧ (pa < e.num 0x18 8 ∨ e.num 0x18 8 + e.loadLen ≤ pa)) →
          s.liveFlag (hbPage (k / 2) 7) Harbour.TR_ROOT_LO_EN = false → t.memByte h pa = s.memByte h pa) ∧
        EntryEnds s t k e (if e.num 0x30 1 = 1 ∧ crcEnd 0 (crcOver 0 (crcStart 0) b) ≠ e.num 0x2C 4 then 0xA else 0)
          (some (crcEnd 0 (crcOver 0 (crcStart 0) b))) (some (e.steps + 1)))) ∧
  (∀ (i : Fin 256) (v : MemView) (s : State) (k : Nat) (e : RingEntry) (n c : Nat), s.startsNext i 0x0011 k e → n = e.num 0x10 1 → c = e.num 0x11 1 →
    Completes (.defectLearn i v) s fun t =>
      (15 < n → EntryEnds s t k e 2 none none (some 0x10)) ∧ (n ≤ 15 → 7 < c → EntryEnds s t k e 2 none none (some 0x11)) ∧
      (n ≤ 15 → c ≤ 7 → 0 < e.num 0x12 1 → 0 < e.num 0x13 1 → e.num 0x13 1 ≤ e.num 0x12 1 → e.highAddr 0x18 = false → e.highAddr 0x20 = false →
        0 < e.num 0x28 4 → e.num 0x28 4 ≤ 65536 → e.num 0x14 4 ≤ e.num 0x28 4 →
        (s.halfFailed (n / 8) = true → EntryEnds s t k e 5 none none (some (n / 8))) ∧
        (s.halfFailed (n / 8) = false → s.boundTo n c = none → EntryEnds s t k e 9) ∧
        (∀ y, s.halfFailed (n / 8) = false → s.boundTo n c = some y → s.tide.ended = none → e.lost = none → e.far = none →
          (t.coveCtx n c).learning = true ∧ ∀ x ∈ t.cores.entries, x.count = e.count → x.started = true ∧ x.half = n / 8 ∧
            (n / 8 ≠ k / 2 → x.work = .learn none ∧ x.steps = e.steps) ∧
            (n / 8 = k / 2 → x.steps = e.steps + 1 ∧ x.work = .learn (some (s.get (covePage n 3) (Cove.LRN_WR_COUNT.nth c),
              s.st y.stream StreamTab.ST_SEQ_SEQ % 65536)))))) ∧
  (∀ (i : Fin 256) (v : MemView) (s : State) (k : Nat) (e : RingEntry), s.startsNext i 0x0012 k e →
    Completes (.scrubHalf i v) s fun t =>
      (1 < e.num 0x10 1 → EntryEnds s t k e 2 none none (some 0x10)) ∧
      (e.num 0x10 1 ≤ 1 → s.halfFailed (e.num 0x10 1) = true → EntryEnds s t k e 5 none none (some (e.num 0x10 1))) ∧
      (e.num 0x10 1 ≤ 1 → s.halfFailed (e.num 0x10 1) = false → s.tide.ended = none → e.lost = none → e.far = none →
        (e.num 0x10 1 ≠ k / 2 → ∀ x ∈ t.cores.entries, x.count = e.count → x.half = e.num 0x10 1 ∧ x.work = .scrub 0 0 0 ∧ x.steps = e.steps) ∧
        (e.num 0x10 1 = k / 2 → v.errs = [] →
          (16384 < s.memCapacity (k / 2) / 64 →
            ∀ x ∈ t.cores.entries, x.count = e.count → x.work = .scrub 16384 0 0 ∧ x.steps = e.steps + 1) ∧
          (s.memCapacity (k / 2) / 64 ≤ 16384 → EntryEnds s t k e 0 (some 0) (some 0))))) ∧
  (∀ (i : Fin 256) (v : MemView) (s : State) (k : Nat) (e : RingEntry) (poly got : Nat), s.startsNext i 0x0013 k e → poly = e.num 0x1C 1 →
    got = crcEnd poly (crcOver poly (crcStart poly) (s.memRead (k / 2) (e.num 0x10 8) (min (e.num 0x18 4) 0x100000))) →
    Completes (.checkBuffer i v) s fun t =>
      (∀ d, (e.highAddr 0x10 = true ∧ d = 0x10) ∨ (e.highAddr 0x10 = false ∧ 2 < poly ∧ d = 0x1C) ∨
        (e.highAddr 0x10 = false ∧ poly ≤ 2 ∧ 1 < e.num 0x1D 1 ∧ d = 0x1D) → EntryEnds s t k e 2 none none (some d)) ∧
      (poly ≤ 2 → e.num 0x1D 1 ≤ 1 → 0 < e.num 0x18 4 → e.num 0x18 4 ≤ 0x100000 → s.flatMemory (k / 2) →
        e.num 0x10 8 + e.num 0x18 4 ≤ s.memCapacity (k / 2) → s.memCapacity (k / 2) ≤ 2 ^ 52 → v.errs = [] → e.lost = none → e.far = none →
        s.tide.ended = none → (s.cplFull = true → SameMemory s t) ∧
        EntryEnds s t k e (if e.num 0x1D 1 = 1 ∧ got ≠ e.num 0x1E 4 then 0xA else 0) (some got) (some 0))) ∧
  (∀ (i : Fin 256) (v : MemView) (s : State) (k : Nat) (e : RingEntry), s.startsNext i 0x0030 k e → s.tide.ended = none →
    Completes (.cancel i v) s fun t =>
      ((∀ x ∈ s.cores.entries, x.index = e.num 0x10 1 → x.due = e.num 0x11 1 → x.count = e.count) → EntryEnds s t k e 9) ∧
      (∀ x : RingEntry, (s.startEntry k e).cores.entries.find? (fun t => t.index == e.num 0x10 1 && t.due == e.num 0x11 1 &&
          t.count != e.count && !s.entryEnded t) = some x → x.bytes.isSome = true →
        (x.num 3 1 ≠ x.due → EntryEnds s t k e 9) ∧
        (x.num 3 1 = x.due → x.opcode = 0x30 → EntryEnds s t k e 2 none none (some 0x10)) ∧
        (x.num 3 1 = x.due → x.opcode ≠ 0x30 → x.work ≠ .submit → s.cplFull = true → SameMemory s t ∧
          t.cores.waiting.map (fun c => (c.count, c.status)) =
            s.cores.waiting.map (fun c => (c.count, c.status)) ++ [(x.count, 4), (e.count, 0)] ∧
          ∀ c ∈ t.cores.waiting.drop s.cores.waiting.length, c.count = x.count → c.result1 = x.steps)))

/-- The firmware's loops and policies (parts of R542, R543, R545, R546). LOOP_CTRL starts a loop with its parameters from memory, and stops it; a statistics
block of that frame whose regions are valid and whose TRUNC is clear moves the exposure loop by its step, or the white-balance loop, writes what it computed, and arms the loop's group,
and another block is skipped. LINK_POLICY and FAILOVER_POLICY set what they say; a lane without a break gets its mode back a step at a time, and a failed
half is repaired so many times an hour at most.
Model's choices: notes/assumptions/34, 35, 36. -/
def Obligations.LoopsAndPoliciesRun : Prop :=
  (∀ (i : Fin 256) (v : MemView) (s : State) (k : Nat) (e : RingEntry) (x kind : Nat) (b : List Byte), s.startsNext i 0x0020 k e →
    x = e.num 0x10 1 → kind = e.num 0x11 1 → b = s.memRead (k / 2) (e.num 0x14 8) 64 →
    Completes (.loopCtrl i v) s fun t =>
      (e.num 0x12 1 ≠ 0 → s.streamPlan x = none → EntryEnds s t k e 2 none none (some 0x10)) ∧
      (e.num 0x12 1 = 0 ∨ (s.streamPlan x).isSome = true → 1 < kind → EntryEnds s t k e 2 none none (some 0x11)) ∧
      (kind ≤ 1 → e.num 0x13 1 ≤ 63 → e.num 0x12 1 = 0 →
        ((∀ l ∈ s.cores.loops, ¬ (l.stream = x ∧ l.kind = kind)) → EntryEnds s t k e 9) ∧
        ((∃ l ∈ s.cores.loops, l.stream = x ∧ l.kind = kind) → t.flag loopPage ((loopOn kind).nth x) = false ∧
          t.cores.loops = s.cores.loops.filter (fun l => !(l.stream == x && l.kind == kind)) ∧ EntryEnds s t k e 0 (some 0) (some 0))) ∧
      (kind ≤ 1 → e.num 0x13 1 ≤ 63 → e.num 0x12 1 = 1 → (s.streamPlan x).isSome = true → e.num 0x14 8 % 64 = 0 →
        ((∃ l ∈ s.cores.loops, l.stream = x ∧ l.kind = kind) → e.num 0x14 8 < 2 ^ 52 → EntryEnds s t k e 2 none none (some 0x11)) ∧
        ((∀ l ∈ s.cores.loops, ¬ (l.stream = x ∧ l.kind = kind)) → e.num 0x14 8 + 64 ≤ s.memCapacity (k / 2) →
          s.memCapacity (k / 2) ≤ 2 ^ 52 → s.flatMemory (k / 2) → v.errs = [] →
          (loopParamsOk kind b = false → EntryEnds s t k e 2 none none (some 0x14) ∧ t.cores.loops = s.cores.loops) ∧
          (loopParamsOk kind b = true → EntryEnds s t k e 0 (some 0) (some 0) ∧ t.flag loopPage ((loopOn kind).nth x) = true ∧
            ∀ l : LoopSt, l = { stream := x, kind := kind, group := e.num 0x13 1, params := b } → t.cores.loops = s.cores.loops ++
              [if kind = 0 then { l with exp := s.get (jtPage (x / 4)) (Jetty.MIR_VAL_VALUE.nth (fieldLE b 0x10 1)),
                                         gain := s.get (jtPage (x / 4)) (Jetty.MIR_VAL_VALUE.nth (fieldLE b 0x11 1)) } else l])))) ∧
  (∀ (i : Fin 256) (s : State) (k : Nat) (e : RingEntry), s.startsNext i 0x0021 k e →
    Completes (.linkPolicy i) s fun t =>
      EntryEnds s t k e 0 (some 0) (some 0) ∧
      (∀ n, SMap.get (fun _ => {}) t.cores.links n = (if n < 32 ∧ hasBit (e.num 0x10 4) n = true then
          (if e.num 0x14 1 = 0 then {} else { flaps := e.num 0x14 1, restoreS := e.num 0x15 2, top := s.get (wePage n) Weatas.LANE_CFG_MODE_MAX })
        else SMap.get (fun _ => {}) s.cores.links n)) ∧ (s.cplFull = true → SameMemory s t ∧ SameFaults s t)) ∧
  (∀ (i : Fin 256) (s : State) (k : Nat) (e : RingEntry), s.startsNext i 0x0022 k e →
    Completes (.failoverPolicy i) s fun t =>
      (1 < e.num 0x10 1 → EntryEnds s t k e 2 none none (some 0x10) ∧ t.cores.autoRepair = s.cores.autoRepair) ∧
      (e.num 0x10 1 ≤ 1 → 1 < e.num 0x14 1 → EntryEnds s t k e 2 none none (some 0x14) ∧ t.cores.autoRepair = s.cores.autoRepair) ∧
      (e.num 0x10 1 ≤ 1 → e.num 0x14 1 ≤ 1 → EntryEnds s t k e 0 (some 0) (some 0) ∧ t.cores.autoRepair = (e.num 0x10 1 == 1) ∧
        t.cores.repairMax = e.num 0x11 1 ∧ t.cores.holdoffMs = e.num 0x12 2 ∧ t.cores.differAction = (e.num 0x14 1 == 1) ∧
        t.cores.differLimit = e.num 0x15 1) ∧
      (s.cplFull = true → SameMemory s t ∧ SameFaults s t)) ∧
  (∀ (x : Fin 160) (kind : Fin 2) (v : MemView) (s : State) (l : LoopSt) (seq n tide base c mean : Nat) (late good : Bool) (head region : List Byte)
    (r : ExposureStep), s.loopRunner.isSome = true → s.cores.loops.find? (fun l => l.stream == x.val && l.kind == kind.val) = some l →
    l.blk = some (seq, n, tide, late) → s.cores.resume = false → s.terminal = false →
    c = ((s.tide.livePlan.bind fun p => p.contextOf n x).getD 0) →
    base = s.live (covePage n 8) (Cove.STAT_BASE_HI_BASE.nth c) * 2 ^ 32 + s.live (covePage n 8) (Cove.STAT_BASE_LO_BASE.nth c) * 64 +
      16576 * (seq % max 1 (s.live (covePage n 8) (Cove.STAT_CFG_SLOTS.nth c))) →
    s.flatMemory (n / 8) → base + 16448 + 32 * l.roi + 8 ≤ s.memCapacity (n / 8) → s.memCapacity (n / 8) ≤ 2 ^ 52 → v.errs = [] →
    head = s.memRead (n / 8) base 12 → region = s.memRead (n / 8) (base + 16448 + 32 * l.roi) 8 →
    mean = loopMean ([0, 1, 2, 3].map fun k => fieldLE region (2 * k) 2) →
    good = ((fieldLE head 1 1).testBit 2 && !(fieldLE head 1 1).testBit 3 && fieldLE head 4 4 == seq && (kind.val != 0 || mean != 0)) →
    r = l.exposureStep mean (s.fitCodes (x / 4)).1 →
    Completes (.loopUpdate x kind v) s fun t =>
      (good = false → t.cores.loops = s.cores.loops.map fun m => if m.stream = x.val ∧ m.kind = kind.val then { m with blk := none } else m) ∧
      (good = true → kind.val = 0 → ∀ g, r.gain = some g →
        t.cores.loops = (s.cores.loops.map fun m => if m.stream = x.val ∧ m.kind = kind.val then
          { m with exp := r.exp, gain := g, blk := none, armed := some (tide, late) } else m) ∧
        (l.num 0x10 1 ≠ l.num 0x11 1 → s.flag (jtPage (x / 4)) (Jetty.MIR_CFG_DIR.nth (l.num 0x10 1)) = true → l.num 0x10 1 < 64 →
          l.num 0x11 1 < 64 → t.get (jtPage (x / 4)) (Jetty.MIR_VAL_VALUE.nth (l.num 0x10 1)) = r.exp % 2 ^ 32 ∧
          t.flag (jtPage (x / 4)) (Jetty.MIR_CFG_DIRTY.nth (l.num 0x10 1)) = true)) ∧
      (good = true → kind.val = 1 → t.cores.loops = s.cores.loops.map fun m => if m.stream = x.val ∧ m.kind = kind.val then
        { m with blk := none, armed := some (tide, late) } else m) ∧
      (good = true → s.planLive = false → t.commit.swArm.contains l.group = true) ∧ SameMemory s t) ∧
  (∀ (n : Fin 32) (s : State) (p : LinkPolicy), p = SMap.get (fun _ => {}) s.cores.links n →
    Completes (.linkPolicyRestore n) s fun t =>
      (p.flaps ≠ 0 → s.linkState n = 9 → s.get (wePage n) Weatas.LANE_CFG_MODE_MAX < p.top → s.terminal = false →
        t.get (wePage n) Weatas.LANE_CFG_MODE_MAX = (s.get (wePage n) Weatas.LANE_CFG_MODE_MAX + 1) % Weatas.LANE_CFG_MODE_MAX.size) ∧
      (p.flaps = 0 ∨ s.linkState n ≠ 9 ∨ p.top ≤ s.get (wePage n) Weatas.LANE_CFG_MODE_MAX ∨ s.terminal = true → t = s) ∧
      OnlyRegs s t [fieldKey (wePage n) Weatas.LANE_CFG_MODE_MAX] ∧ SameMemory s t ∧ SameFaults s t) ∧
  (∀ (h : Fin 2) (s : State) (k : Nat), s.actingHalf.bind s.runner = some k →
    Completes (.autoRepair h) s fun t =>
      (s.cores.autoRepair = false ∨ s.halfFailed h = false ∨ s.power.repair.contains h.val = true ∨ s.terminal = true → t = s) ∧
      (s.cores.autoRepair = true → s.halfFailed h = true → s.power.repair.contains h.val = false → s.terminal = false →
        ((s.cores.repairs.filter fun c => decide (s.time.c - c < 3600 * 10 ^ 9)).length < s.cores.repairMax →
          t.power.repair.contains h.val = true ∧ t.cores.repairs = s.time.c :: s.cores.repairs.filter fun c => decide (s.time.c - c < 3600 * 10 ^ 9)) ∧
        (s.cores.repairMax ≤ (s.cores.repairs.filter fun c => decide (s.time.c - c < 3600 * 10 ^ 9)).length →
          t.flag (lpPage k) Lp.LP_FW_STAT_REPAIR_LIMIT = true ∧ t.power = s.power)) ∧ SameMemory s t)

/-! ## Supplies, power domains, clocks (rows 212 to 223, 247, 248) -/

/-- Supplies, domains and clocks (parts of R553, R555, R556, R558 to R560, R563, R564). Power-on reset is released: its causes are recorded, the fuses and
TEST_MODE read, and the core leaves reset, unless RESET_N or the TAP holds it. A rail's loss starts a chip reset; that of VDD_AON clears everything. The core
voltage has its target within 650 to 850 mV and moves toward it in steps of 10 mV; a command that fails is sent three times. A served write of PD_CTRL.REQ or CTRL.PWR_REQ
is taken, or refused for a system domain and where it would take a planned domain's last own request. A switch that ends is counted, and one that does
not end is a fault, which refuses the plan that needs it; a drop takes the domain down. A lost reference or PLL is a fault, and the interfaces that it drives go
down.
Model's choices: notes/assumptions/14, 44, 45. -/
def Obligations.SuppliesDomainsAndClocksFollow : Prop :=
  (∀ (orderBad testMode fuseBad : Bool) (s : State),
    Completes (.porRelease orderBad testMode fuseBad) s fun t =>
      (s.power.por = false → t = s) ∧
      (s.power.por = true → t.power.por = false ∧ t.get 0x2 Chip.SUP_STAT_IN_WINDOW = 0x1FF ∧ t.flag 0x7 Chip.RST_CAUSE_POR = true ∧
        t.get 0x7 Chip.RST_LAST_CAUSE = 1 ∧ t.flag 0x7 Chip.RST_CAUSE_SEQ_ERR = (orderBad || s.flag 0x7 Chip.RST_CAUSE_SEQ_ERR) ∧
        t.flag 0xE Chip.FT_STAT_PIN = testMode ∧ t.factory = (testMode && !Config.ftLock && !fuseBad) ∧ t.flag 0x0 Chip.CHIP_CFG_FUSE_ERR = fuseBad ∧
        (s.power.pinLow = true ∨ s.power.held = true → t.power.inReset = s.power.inReset) ∧
        (s.power.pinLow = false → s.power.held = false → t.power.inReset = false ∧ t.x16 = !Config.hmodeStrap ∧
          (orderBad = true → t.condBit 0x2 4 = true))) ∧ SameMemory s t) ∧
  (∀ (r : Fin 9) (s : State),
    Completes (.supplyLoss r) s fun t =>
      t.get 0x2 Chip.SUP_STAT_IN_WINDOW = clearBit (s.get 0x2 Chip.SUP_STAT_IN_WINDOW) r % 2 ^ 9 ∧
      (r.val = 0 → OnlyRegs State.reset t [fieldKey 0x2 Chip.SUP_STAT_IN_WINDOW] ∧
        t = { State.reset with regs := t.regs, pending := s.pending, out := s.out, free := s.free }) ∧
      (r.val ≠ 0 → s.power.por = false → s.power.asleep = false ∨ removable r = false →
        t.power.por = true ∧ t.due = s.due ++ [.chipReset 1] ∧ t.flag 0x7 Chip.RST_CAUSE_UV = true ∧
        t.get 0x7 Chip.RST_UV_RAIL_RAIL = setBit (s.get 0x7 Chip.RST_UV_RAIL_RAIL) r % 2 ^ 9 ∧
        OnlyRegs s t [fieldKey 0x2 Chip.SUP_STAT_IN_WINDOW, fieldKey 0x7 Chip.RST_CAUSE_UV, fieldKey 0x7 Chip.RST_UV_RAIL_RAIL] ∧ SameMemory s t) ∧
      (r.val ≠ 0 → s.power.por = true ∨ (s.power.asleep = true ∧ removable r = true) →
        OnlyRegs s t [fieldKey 0x2 Chip.SUP_STAT_IN_WINDOW] ∧ t.power = s.power ∧ SameFaults s t ∧ SameMemory s t)) ∧
  (∀ (need : Nat) (s : State) (v want : Nat), v = s.get 0x2 Chip.AVS_STAT_VACK_MV →
    want = max 650 (min (ceilDiv (need + s.get 0x2 Chip.AVS_CTRL_MARGIN_MV) 5 * 5) 850) →
    Completes (.avsUpdate need) s fun t =>
      (s.flag 0x2 Chip.AVS_CTRL_EN = false ∨ s.power.inReset = true ∨ s.power.asleep = true → t = s) ∧
      (s.flag 0x2 Chip.AVS_CTRL_EN = true → s.power.inReset = false → s.power.asleep = false →
        t.get 0x2 Chip.AVS_STAT_VTARGET_MV = want ∧
        (s.power.avsStopped = false → s.power.avsCommand = none → s.get 0x8 Chip.BOOT_STAT_STATE = 3 →
          (v < want → t.out = .avs (min want (v + 10)) :: s.out ∧ t.power.avsCommand = some (min want (v + 10))) ∧
          (want < v → s.avsMayFall = true → t.out = .avs (max want (v - 10)) :: s.out ∧ t.power.avsCommand = some (max want (v - 10))) ∧
          (v = want ∨ (want < v ∧ s.avsMayFall = false) → t.out = s.out ∧ t.power = s.power)) ∧
        (s.power.avsStopped = true ∨ s.power.avsCommand.isSome = true ∨ s.get 0x8 Chip.BOOT_STAT_STATE ≠ 3 → t.out = s.out ∧ t.power = s.power)) ∧
      OnlyRegs s t [fieldKey 0x2 Chip.AVS_STAT_VTARGET_MV] ∧ SameMemory s t ∧ SameFaults s t) ∧
  (∀ (ok : Bool) (s : State),
    Completes (.avsCommandDone ok) s fun t =>
      (s.power.avsCommand = none → t = s) ∧
      (∀ mv, s.power.avsCommand = some mv →
        (ok = true → t.get 0x2 Chip.AVS_STAT_VACK_MV = mv % 2 ^ 16 ∧ t.power.avsTries = 0 ∧
          (mv % 2 ^ 16 = s.get 0x2 Chip.AVS_STAT_VTARGET_MV → t.power.avsCommand = none ∧ t.out = s.out)) ∧
        (ok = false → s.power.avsTries < 2 → t.out = .avs mv :: s.out ∧ t.power = { s.power with avsTries := s.power.avsTries + 1 } ∧ t.regs = s.regs) ∧
        (ok = false → 2 ≤ s.power.avsTries → t.power.avsStopped = true ∧ t.power.avsCommand = none ∧ t.condBit 0x2 2 = true ∧ t.out = s.out ∧
          t.get 0x2 Chip.AVS_STAT_VACK_MV = s.get 0x2 Chip.AVS_STAT_VACK_MV)) ∧ SameMemory s t) ∧
  (∀ (req : Requester) (d : Fin 96) (w : Word) (s : State), s.serves req (regOff 0x3 (Chip.PD_CTRL_REQ.nth d)) = true →
    Completes (.powerReq req (.domain d) w) s fun t =>
      (isSystemDomain d = true ∨ (w.getLsbD 31 = false ∧ s.flag 0x3 (Chip.PD_CTRL_REQ.nth d) = true ∧ s.planHolds d = true ∧
          s.pwrReq d noPage = false) →
        t.flag 0x3 (Chip.PD_CTRL_REQ.nth d) = s.flag 0x3 (Chip.PD_CTRL_REQ.nth d) ∧ t.eventBit 0x2 0 = true ∧
        t.get 0x2 Chip.PM_STAT_LAST_REFUSED = d ∧ t.power = s.power ∧
        OnlyRegs s t [fieldKey 0x2 Hdr.EVT_STAT_EVENT, fieldKey 0x2 Chip.PM_STAT_LAST_REFUSED]) ∧
      (isSystemDomain d = false → w.getLsbD 31 = true ∨ s.flag 0x3 (Chip.PD_CTRL_REQ.nth d) = false ∨ s.planHolds d = false ∨
          s.pwrReq d noPage = true → t.flag 0x3 (Chip.PD_CTRL_REQ.nth d) = w.getLsbD 31) ∧
      SameMemory s t) ∧
  (∀ (req : Requester) (pg : Fin 0x1400) (w : Word) (s : State) (r : PageRef), s.serves req (regOff pg Hdr.CTRL_PWR_REQ) = true → pageRef pg = some r →
    Completes (.powerReq req (.page pg) w) s fun t =>
      (r.block.ownsDomain = false → t.flag r.base Hdr.CTRL_PWR_REQ = s.flag r.base Hdr.CTRL_PWR_REQ) ∧
      (r.block.ownsDomain = true → w.getLsbD 2 = true ∨ s.flag r.base Hdr.CTRL_PWR_REQ = false ∨ s.planHolds r.domain = false ∨
          s.flag 0x3 (Chip.PD_CTRL_REQ.nth r.domain) = true ∨ s.pwrReq r.domain r.base = true →
        t.flag r.base Hdr.CTRL_PWR_REQ = w.getLsbD 2) ∧
      (r.block.ownsDomain = true → w.getLsbD 2 = false → s.flag r.base Hdr.CTRL_PWR_REQ = true → s.planHolds r.domain = true →
        s.flag 0x3 (Chip.PD_CTRL_REQ.nth r.domain) = false → s.pwrReq r.domain r.base = false →
        t.flag r.base Hdr.CTRL_PWR_REQ = true ∧ t.eventBit 0x2 0 = true ∧ t.get 0x2 Chip.PM_STAT_LAST_REFUSED = r.domain) ∧ SameMemory s t) ∧
  (∀ (d : Fin 96) (calBad : Fin 16) (s : State),
    Completes (.domainPowerAck d calBad) s fun t =>
      (s.power.up.contains d.val = true → t.power.up.contains d.val = false ∧ (s.wanted.contains d.val = true → t.powered d = true ∧
        (87 ≤ d.val → d.val < 95 → t.pllLocked (d.val - 87) = true) ∧
        (∀ n : Fin 32, (⟨.weatas, n, 0⟩ : PageRef).domain = d → t.condBit (wePage n) 5 = hasBit calBad (n % 4)))) ∧
      (s.power.up.contains d.val = false → s.power.down.contains d.val = true → s.powered d = false → t.power.down.contains d.val = false) ∧
      (s.power.up.contains d.val = true ∨ s.power.down.contains d.val = true → t.condBit 0x2 0 = false ∧
        t.get 0x4 Chip.PD_SWITCHES_COUNT = (s.get 0x4 Chip.PD_SWITCHES_COUNT + 1) % 2 ^ 32) ∧
      (s.power.up.contains d.val = false → s.power.down.contains d.val = false → t = s)) ∧
  (∀ (d : Fin 96) (s : State),
    Completes (.domainAckTimeout d) s fun t =>
      (s.power.up.contains d.val = true ∨ s.power.down.contains d.val = true → t.condBit 0x2 0 = true ∧ t.power.up.contains d.val = false ∧
        (s.powered d = false → t.powered d = false)) ∧
      (∀ p, s.power.up.contains d.val = true → s.planState = 2 → s.tide.staged = some p → (closure s.x16 (p.domains s.x16)).contains d.val = true →
        t.planState = 0 ∧ t.tide.staged = none ∧ t.get tidePage Tidemark.PLAN_REFUSE_CODE = 0x0030 ∧
        t.get tidePage Tidemark.PLAN_REFUSE_INDEX = d) ∧
      (s.power.up.contains d.val = false → s.power.down.contains d.val = false → t = s)) ∧
  (∀ (d : Fin 96) (s : State),
    Completes (.domainDrop d) s fun t =>
      (s.powered d = false → t = s) ∧ t.powered d = false ∧
      (s.powered d = true → s.wanted.contains d.val = false → t.power.down = s.power.down ++ [d.val]) ∧
      (s.powered d = true → s.wanted.contains d.val = true →
        (d.val < 81 ∨ (89 ≤ d.val ∧ d.val < 95) → t.dropped d = true ∧ t.condBit 0x2 1 = true) ∧
        (∀ h, halfOfDomain d = some h → Due.selfCheck h 6 ∈ t.due) ∧
        (89 ≤ d.val → d.val < 95 → t.pllLocked (d.val - 87) = false ∧ t.condBit 0x5 2 = true) ∧
        (81 ≤ d.val ∧ d.val < 89 ∨ d.val = 95 → Due.chipReset 2 ∈ t.due ∧
          hasBit (t.get 0x7 Chip.RST_UV_RAIL_RAIL) (if d.val < 87 then 1 else 4) = true))) ∧
  (∀ (ok : Bool) (s : State),
    Completes (.refCheck ok) s fun t =>
      t.flag 0x5 Chip.CLK_STAT_REF_OK = ok ∧ t.flag 0x5 Chip.CLK_STAT_ON_INTERNAL = !ok ∧ t.condBit 0x5 0 = !ok ∧
      (s.flag 0x5 Chip.CLK_STAT_REF_OK ≠ ok → t.eventBit 0x5 0 = true) ∧ (s.refOutside = false → t.condBit 0x5 3 = false) ∧
      (s.refOutside = true → t.condBit 0x5 3 = s.condBit 0x5 3) ∧ SameMemory s t) ∧
  (∀ s : State,
    Completes .refRange s fun t =>
      (s.refOutside = true → t.condBit 0x5 3 = true) ∧ (s.refOutside = false → t = s) ∧ OnlyRegs s t [fieldKey 0x5 Hdr.FLT_STAT_FAULT] ∧ SameMemory s t) ∧
  (∀ s : State,
    Completes .pcieRefLost s fun t =>
      t.flag 0x5 Chip.CLK_STAT_PCIE_REF_OK = false ∧ t.condBit 0x5 1 = true ∧
      (∀ n : Fin 2, s.portActs n = true → t.get (pcPage n 0) Pcie.PCIE_STAT_SPEED = 0) ∧ SameMemory s t) ∧
  (∀ s : State,
    Completes .pcieRefReturn s fun t =>
      t.flag 0x5 Chip.CLK_STAT_PCIE_REF_OK = true ∧ t.condBit 0x5 1 = false ∧
      (∀ n : Fin 2, s.portActs n = true → (s.pc n).perst = false → s.flag (pcPage n 2) Pcie.TEST_HOLD = false →
        s.get (pcPage n 0) Pcie.PCIE_STAT_SPEED = 0 → t.get (pcPage n 0) Pcie.PCIE_STAT_LTSSM = 1) ∧ SameMemory s t ∧ t.due = s.due) ∧
  (∀ (i : Fin 8) (s : State),
    Completes (.pllUnlock i) s fun t =>
      (s.pllLocked i = false → t = s) ∧ t.pllLocked i = false ∧
      (s.pllLocked i = true → t.get 0x6 (Chip.PLL_LOSS_COUNT.nth i) = min (s.get 0x6 (Chip.PLL_LOSS_COUNT.nth i) + 1) (2 ^ 32 - 1) ∧
        (s.powered (87 + i.val) = true → t.condBit 0x5 2 = true) ∧
        (i.val = 2 ∨ i.val = 3 → ∀ c : Fin 4, t.flag (hbPage (i.val - 2) (1 + c)) Harbour.CH_STAT_TRAINED = false) ∧
        (i.val = 4 → ∀ n : Fin 2, s.portActs n = true → t.get (pcPage n 0) Pcie.PCIE_STAT_SPEED = 0) ∧
        (i.val = 5 → ∀ m : Fin 2, t.flag (macPage m 0) Mac.MAC_STAT_LINK = false) ∧
        (i.val = 6 → ∀ m : Fin 2, (t.tx m).wire = []) ∧
        (i.val = 7 → ∀ n : Fin 32, t.linkOperating n = false)) ∧ SameMemory s t) ∧
  (∀ (i : Fin 8) (s : State),
    Completes (.pllRelock i) s fun t =>
      (s.pllLocked i = false → s.powered (87 + i.val) = true → t.pllLocked i = true ∧ t.condBit 0x5 2 = (List.range 8).any t.pllDown ∧
        (∀ n : Fin 2, i.val = 4 → s.portActs n = true → (s.pc n).perst = false → s.flag 0x5 Chip.CLK_STAT_PCIE_REF_OK = true →
          s.flag (pcPage n 2) Pcie.TEST_HOLD = false → s.get (pcPage n 0) Pcie.PCIE_STAT_SPEED = 0 →
          t.get (pcPage n 0) Pcie.PCIE_STAT_LTSSM = 1)) ∧
      (s.pllLocked i = true ∨ s.powered (87 + i.val) = false → t = s) ∧ SameMemory s t)

/-! ## Resets and the TAP (rows 224 to 228, 241, 242) -/

/-- A software reset takes ARM and, within 1 µs, GO of the same requester: a chip reset whose cause SOFTWARE it records is then owed, unless RESET_N is low; a GO
without that is ignored and sets CFG_REJECT (R567). EXTEST, CLAMP, HIGHZ, EXTEST_PULSE or EXTEST_TRAIN as the current instruction of the TAP puts the core into
chip reset and holds it there; any other, or a reset of the TAP, ends the hold, and the device boots as after a PIN reset, with PIN in RST_CAUSE; a chip reset of
any cause leaves the hold (R619). -/
def Obligations.SoftwareResetsAndTapHolds : Prop :=
  (∀ (req : Requester) (s : State), s.serves req (regOff 0x7 Chip.RST_SW_ARM) = true →
    Completes (.softResetArm req) s fun t =>
      t.power = { s.power with swArm := some (req, s.time.c) } ∧ t.regs = s.regs ∧ SameMemory s t ∧ SameFaults s t) ∧
  (∀ (req : Requester) (s : State), s.serves req (regOff 0x7 Chip.RST_SW_GO) = true →
    Completes (.softResetGo req) s fun t =>
      (∀ c, s.power.swArm = some (req, c) → s.time.c - c ≤ 1000 → t.power = { s.power with swArm := none } ∧ t.regs = s.regs ∧
        t.due = (if s.power.pinLow = true then s.due else s.due ++ [.chipReset 6])) ∧
      ((∀ c, s.power.swArm = some (req, c) → 1000 < s.time.c - c) → t.eventBit 0x2 2 = true ∧ t.power = s.power ∧ t.due = s.due ∧
        OnlyRegs s t [fieldKey 0x2 Hdr.EVT_STAT_EVENT]) ∧ t.flt = s.flt ∧ SameMemory s t) ∧
  (∀ (fuseBad : Bool) (s : State), Due.chipReset 6 ∈ s.due →
    Completes (.chipReset fuseBad) s fun t => t.flag 0x7 Chip.RST_CAUSE_SOFTWARE = true) ∧
  (∀ (op : Fin 256) (scan : Option (BitVec 314)) (s : State),
    Completes (.tapInstruction (op, scan)) s fun t =>
      (op.val ∈ [0x03, 0x04, 0x05, 0x06, 0x07] → t.pins.tap = op.val ∧ t.power = { s.power with held := true } ∧
        t.due = (if s.power.held = true then s.due else s.due ++ [.chipReset 3]) ∧ t.regs = s.regs) ∧
      (op.val ∉ [0x03, 0x04, 0x05, 0x06, 0x07] → t.power.held = false ∧
        (s.power.held = true → t.flag 0x7 Chip.RST_CAUSE_PIN = true ∧ t.get 0x7 Chip.RST_LAST_CAUSE = 3 ∧
          (s.power.por = false → s.power.pinLow = false → t.power.inReset = false)) ∧
        (s.power.held = false → t.regs = s.regs ∧ t.power = s.power)) ∧ SameMemory s t) ∧
  (∀ s : State,
    Completes .tapReset s fun t =>
      t.pins.tap = 1 ∧ t.power.held = false ∧
      (s.power.held = true → t.flag 0x7 Chip.RST_CAUSE_PIN = true ∧ t.get 0x7 Chip.RST_LAST_CAUSE = 3 ∧
        (s.power.por = false → s.power.pinLow = false → t.power.inReset = false)) ∧
      (s.power.held = false → t.regs = s.regs ∧ t.power = s.power) ∧ SameMemory s t) ∧
  (∀ (fuseBad : Bool) (s : State) (c : Nat), Due.chipReset c ∈ s.due → s.power.held = true →
    Completes (.chipReset fuseBad) s fun t => t.power.held = true ∧ t.power.inReset = true ∧ t.bootMayStart = false)

/-- Chip resets (parts of R565, R566, R568). RESET_N low starts one in place of a software reset that is due, and its rise ends it. A chip reset counts, records its causes, of
which the lowest is the last, and keeps the always-on records and the commands that wait; every other register is at its reset value while power-on reset,
RESET_N or the TAP holds the core, and no plan, no frame, no commit and no byte of memory is left; where none of them holds it, the core leaves reset.
Model's choices: notes/assumptions/47, 90. -/
def Obligations.ChipResetsStartAndEnd : Prop :=
  (∀ s : State,
    Completes .pinReset s fun t =>
      (s.power.pinLow = true → t = s) ∧
      (s.power.pinLow = false → t.power = { s.power with pinLow := true } ∧ t.due = s.due.filter (fun d => d != Due.chipReset 6) ++ [.chipReset 3]) ∧
      t.regs = s.regs ∧ t.flt = s.flt ∧ SameMemory s t) ∧
  (∀ s : State,
    Completes .resetNRise s fun t =>
      t.power.pinLow = false ∧ (s.power.pinLow = false → t = s) ∧
      (s.power.pinLow = true → s.power.por = false → s.power.held = false → t.power.inReset = false) ∧
      (s.power.pinLow = true → s.power.por = true ∨ s.power.held = true → t.power = { s.power with pinLow := false } ∧ t.regs = s.regs) ∧
      SameMemory s t) ∧
  (∀ (fuseBad : Bool) (s : State) (c : Nat), Due.chipReset c ∈ s.due → c ≤ 6 → (∀ d, Due.chipReset d ∈ s.due → c ≤ d) →
    Completes (.chipReset fuseBad) s fun t =>
      t.get 0x7 Chip.RST_COUNT_COUNT = min (s.get 0x7 Chip.RST_COUNT_COUNT + 1) (2 ^ 32 - 1) ∧ t.terminal = s.terminal ∧
      t.get 0x7 Chip.RST_LAST_CAUSE = c ∧ (∀ d, Due.chipReset d ∈ s.due → t.flag 0x7 (causeField d) = true) ∧
      (∀ f ∈ [Chip.RST_CAUSE_POR, Chip.RST_CAUSE_UV, Chip.RST_CAUSE_PIN, Chip.RST_CAUSE_WATCHDOG, Chip.RST_CAUSE_BREAKWATER,
          Chip.RST_CAUSE_SOFTWARE, Chip.RST_CAUSE_SEQ_ERR], s.flag 0x7 f = true → t.flag 0x7 f = true) ∧
      t.get 0x7 Chip.RST_UV_RAIL_RAIL = s.get 0x7 Chip.RST_UV_RAIL_RAIL ∧ t.flag 0x8 Chip.BOOT_NEXT_NEXT_B = s.flag 0x8 Chip.BOOT_NEXT_NEXT_B ∧
      t.flag 0x0 Chip.CHIP_CFG_FUSE_ERR = fuseBad ∧ t.frames = [] ∧ t.tide = State.reset.tide ∧ t.commit = State.reset.commit ∧
      t.pending = s.pending ∧ (∀ h pa, t.memByte h pa = State.reset.memByte h pa) ∧
      (s.power.por = true ∨ s.power.pinLow = true ∨ s.power.held = true → t.power.inReset = true ∧
        (s.terminal = false → ∀ k, k ≠ fieldKey 0x0 Chip.CHIP_CFG_FUSE_ERR → k ∉ retainedFields.map (fun r => fieldKey r.1 r.2) →
          SMap.get resetField t.regs k = resetField k)) ∧
      (s.power.por = false → s.power.pinLow = false → s.power.held = false → t.power.inReset = false ∧ t.x16 = !Config.hmodeStrap) ∧
      (s.terminal = true → t.flag bwPage Breakwater.BW_STAT_ERR_DRIVEN = true)) ∧
  (∀ (fuseBad : Bool) (s : State), (∀ c, Due.chipReset c ∉ s.due) → Completes (.chipReset fuseBad) s fun t => t = s)

/-! ## Boot and sleep (rows 229 to 236) -/

/-- Boot (parts of R570 to R574). The ROM reads the slot that is due; a header that fails gives its error, and a good one its segments. The segment that is next is
applied after its hash matched, where segment 0 and no other is a PCIE one: a PCIE one gives identities and sizes, a REG one of one pair writes as LP0
does, a MEM or PLAN one copies once its range is trained and filled, and a PLAN one is then submitted, a SENSOR one joins the sequences, a GPTP one is kept.
Boot is DONE after the last; a failure turns to slot B, resets, or stops. Retention sleep (parts of R575, R576, R578):
SLEEP_GO starts entry from RUN, and a staged or submitted plan is withdrawn; everything drained ends it in sleep with the local memories and the retained
registers held, the channels that were trained in self-refresh; a timeout abandons it; an enabled wake leaves sleep, with its cause, the enabled time
domains in holdover, and a page that failed its check reported, and one by WAKE_N abandons entry.
Model's choices: notes/assumptions/23, 24, 25, 37, 38, 87, 91. -/
def Obligations.BootAppliesImagesAndSleepKeepsMemory : Prop :=
  (∀ (head : List Byte) (certOk sigOk : Bool) (s : State),
    Completes (.bootStart head certOk sigOk) s fun t =>
      (s.bootMayStart = false → t = s) ∧
      (s.bootMayStart = true → t.flag 0x8 Chip.BOOT_STAT_SLOT = (s.boot.fallback || s.flag 0x8 Chip.BOOT_NEXT_NEXT_B) ∧
        t.flag 0x8 Chip.BOOT_NEXT_NEXT_B = false ∧ t.get 0x8 Chip.BOOT_STAT_SEG = 0 ∧
        (∀ e, headerError head certOk sigOk (s.flag 0x8 Chip.BOOT_STAT_HMODE) = some e →
          t.boot = { s.boot with failed := some e } ∧ t.bootState = 1 ∧ SameFaults s t) ∧
        (headerError head certOk sigOk (s.flag 0x8 Chip.BOOT_STAT_HMODE) = none → t.bootState = 2 ∧
          t.boot = { s.boot with reading := true, applied := 0, segs := (List.range (fieldLE head 0x0C 2)).map (segmentEntry head) } ∧
          t.get 0x8 Chip.BOOT_IMG_VER_VER = fieldLE head 8 4 ∧ t.get 0x8 Chip.BOOT_KEY_ID_ID = fieldLE head 0x1108 4 ∧
          (t.flag 0x8 Chip.BOOT_STAT_SLOT = true → t.condBit 0x8 1 = true))) ∧ SameMemory s t) ∧
  (∀ (body : List Byte) (hashOk : Bool) (s : State) (i : Nat), i = s.boot.applied →
    Completes (.bootSegment body hashOk) s fun t =>
      (s.bootState ≠ 2 ∨ s.boot.failed.isSome = true ∨ s.boot.segs[i]? = none → t = s) ∧
      (∀ g, s.bootState = 2 → s.boot.failed = none → s.boot.segs[i]? = some g →
        (g.ok = false → t.boot = { s.boot with failed := some 8 } ∧ SameMemory s t) ∧
        (g.ok = true → body.length ≠ g.len → t = s) ∧
        (g.ok = true → body.length = g.len → hashOk = false → t.boot = { s.boot with failed := some 7 } ∧ SameMemory s t) ∧
        (g.ok = true → body.length = g.len → hashOk = true →
          ((i = 0 ∧ g.kind ≠ 1) ∨ (i ≠ 0 ∧ g.kind ∉ [2, 3, 4, 5, 6]) → t.boot = { s.boot with failed := some 8 } ∧ SameMemory s t) ∧
          (i = 0 → g.kind = 1 → ∀ lo, lo = (if s.x16 = true then 29 else 28) →
            (body.length = 16 → zeroBytes body 6 10 = true → lo ≤ fieldLE body 4 1 → fieldLE body 4 1 ≤ lo + 7 → lo ≤ fieldLE body 5 1 →
              fieldLE body 5 1 ≤ lo + 7 →
              (∀ n < 2, (t.pc n).subVendor = fieldLE body 0 2 ∧ (t.pc n).subDevice = fieldLE body 2 2) ∧ (t.pc 0).applied = true ∧
              (t.pc 0).barBoot = some (fieldLE body 4 1) ∧ (s.x16 = false → (t.pc 1).barBoot = some (fieldLE body 5 1) ∧ (t.pc 1).applied = true) ∧
              t.boot = { s.boot with applied := 1, failed := if s.terminal = true then some 10 else none } ∧ SameMemory s t) ∧
            (body.length ≠ 16 ∨ zeroBytes body 6 10 = false ∨ fieldLE body 4 1 < lo ∨ lo + 7 < fieldLE body 4 1 ∨ fieldLE body 5 1 < lo ∨
              lo + 7 < fieldLE body 5 1 → t.boot = { s.boot with failed := some 8 } ∧ t.pcie = s.pcie)) ∧
          (i ≠ 0 → g.kind = 2 → body.length = 8 → ∀ u, u = (s.put 0x8 Chip.BOOT_STAT_SEG i).writeAccess .lp0 (fieldLE body 0 4) 2
              (BitVec.ofNat 64 (fieldLE body 4 4)) → fieldLE body 0 4 ≠ 0xFFFF_FFFC →
            (∀ k, k ≠ fieldKey 0x9 (Chip.BOOT_SEG_DONE_DONE.nth (i / 32)) → SMap.get resetField t.regs k = SMap.get resetField u.regs k) ∧
            t.out = u.out ∧ t.due = u.due ∧ t.tide = u.tide ∧ t.power = u.power) ∧
          (i ≠ 0 → g.kind = 2 → body.length % 8 ≠ 0 → t.boot = { s.boot with failed := some 8 } ∧ SameMemory s t) ∧
          (i ≠ 0 → g.kind = 3 ∨ g.kind = 5 → ∀ h pa bytes, copyTarget body = some (h, pa, bytes) →
            (s.copyReady h pa bytes.length = false → t.boot = s.boot ∧ t.tide = s.tide ∧ SameMemory s t) ∧
            (s.copyReady h pa bytes.length = true →
              t.boot = { s.boot with applied := i + 1, failed := if s.terminal = true then some 10 else none } ∧
              (∀ j < bytes.length, t.memByte h (pa + j) = bytes.getD j 0) ∧
              (∀ k a, k ≠ h ∨ a < pa ∨ pa + bytes.length ≤ a → t.memByte k a = s.memByte k a) ∧
              (g.kind = 3 → t.tide = s.tide) ∧
              (g.kind = 5 → s.planState = 0 → s.get 0x2 Chip.PM_STAT_STATE ≠ 1 → s.terminal = false → t.planState = 1 ∧
                ∀ n, n = 32 * min (fieldLE (t.memRead h pa 0xC0) 0x0C 2) 160 + 16 * min (fieldLE (t.memRead h pa 0xC0) 0x0E 2) 640 →
                  t.tide.checking = some (t.memRead h pa 0xC0 ++ t.memRead h (pa + 0xC0) n)))) ∧
          (i ≠ 0 → g.kind = 3 ∨ g.kind = 5 → copyTarget body = none → t.boot = { s.boot with failed := some 8 } ∧ SameMemory s t) ∧
          (i ≠ 0 → g.kind = 4 → (body.length % 12 ≠ 0 ∨ (sensorEntries body).any Option.isNone = true →
              t.boot = { s.boot with failed := some 8 } ∧ t.windows = s.windows) ∧
            (body.length % 12 = 0 → (sensorEntries body).any Option.isNone = false → t.boot.applied = i + 1 ∧ SameMemory s t ∧
              ∀ w < 40, (t.window w).sensors = (s.window w).sensors ++ ((sensorEntries body).filterMap id).filter (fun e => e.window == w))) ∧
          (i ≠ 0 → g.kind = 6 → (gptpOk body = false → t.boot = { s.boot with failed := some 8 }) ∧
            (gptpOk body = true → t.boot.gptp = body ∧ t.boot.applied = i + 1 ∧
              (fieldLE body 0 1 = fieldLE body 16 1 → t.eventBit tmPage 7 = true) ∧
              (fieldLE body 0 1 ≠ fieldLE body 16 1 → ∀ x < 2, t.get tmPage (Tidemark.DOM_CFG_NUMBER.nth x) = fieldLE body (16 * x) 1)) ∧
            SameMemory s t)))) ∧
  (∀ s : State,
    Completes .bootDone s fun t =>
      (s.bootState ≠ 2 ∨ s.boot.failed.isSome = true ∨ s.boot.applied < s.boot.segs.length → t = s) ∧
      (s.bootState = 2 → s.boot.failed = none → s.boot.segs.length ≤ s.boot.applied →
        t.bootState = 3 ∧ t.eventBit 0x8 0 = true ∧ t.boot = { s.boot with reading := false } ∧ t.flag bwPage Breakwater.BW_CTRL_TOG_EN = true ∧
        t.get 0x8 Chip.BOOT_TIME_US_US = s.time.c / 1000 % 2 ^ 32 ∧
        (∀ k : Fin 4, s.ready ⟨.lp, k, 0⟩ = true → hasBit t.cores.mie k = true ∧ hasBit t.cores.down k = false ∧
          t.get (lpPage k) Lp.LP_FW_STAT_STATE = (if s.halfState (k / 2) = 1 then 2 else 3))) ∧ t.due = s.due ∧ SameMemory s t) ∧
  (∀ (flash : Bool) (s : State) (e : Nat) (b : Bool),
    s.boot.failed = some e ∨ (s.boot.failed = none ∧ flash = true ∧ (s.bootMayStart = true ∨ s.bootState = 2) ∧ e = 9) →
    b = (if s.bootMayStart = true then s.boot.fallback || s.flag 0x8 Chip.BOOT_NEXT_NEXT_B else s.flag 0x8 Chip.BOOT_STAT_SLOT) →
    Completes (.bootFail flash) s fun t =>
      t.boot.failed = none ∧ t.boot.reading = false ∧ t.condBit 0x8 0 = true ∧
      (e = 10 → t.bootState = 5 ∧ t.get 0x8 Chip.BOOT_STAT_ERR = 10) ∧
      (e ≠ 10 → s.boot.applied = 0 → b = false → t.bootState = 0 ∧ t.boot.fallback = true ∧ t.condBit 0x8 1 = true) ∧
      (e ≠ 10 → s.boot.applied ≠ 0 ∨ b = true → s.terminal = true → t.bootState = 5 ∧ t.get 0x8 Chip.BOOT_STAT_ERR = 10) ∧
      (e ≠ 10 → b = true → s.terminal = false → t.bootState = 4 ∧ t.get 0x8 Chip.BOOT_STAT_ERR = e % 16 ∧ (s.boot.applied = 0 → (t.pc 0).applied = true)) ∧
      (e ≠ 10 → s.boot.applied ≠ 0 → b = false → s.terminal = false →
        t.flag 0x8 Chip.BOOT_NEXT_NEXT_B = true ∧ Due.chipReset 6 ∈ t.due) ∧ SameMemory s t) ∧
  (∀ (flash : Bool) (s : State), s.boot.failed = none → flash = false ∨ (s.bootMayStart = false ∧ s.bootState ≠ 2) →
    Completes (.bootFail flash) s fun t => t = s) ∧
  (∀ (req : Requester) (w : Word) (s : State), s.serves req (regOff 0x2 Chip.PM_CTRL_SLEEP_GO) = true →
    Completes (.sleepGo req w) s fun t =>
      (s.pmState = 0 → t.pmState = 1 ∧ t.power.planEnds = true ∧ t.flag 0x2 Chip.PM_CTRL_SLEEP_GO = true ∧
        (s.planState ≠ 0 → s.planState ≠ 3 ∨ s.tide.stagedCaptured = false →
          t.planState = 0 ∧ t.tide.staged = none ∧ t.tide.checking = none ∧ t.tide.livePlan = s.tide.livePlan) ∧
        (s.planState = 0 ∨ (s.planState = 3 ∧ s.tide.stagedCaptured = true) → t.tide = s.tide)) ∧
      (s.pmState ≠ 0 → t.pmState = s.pmState ∧ t.power = s.power ∧ t.tide = s.tide) ∧ SameMemory s t) ∧
  (∀ s : State,
    Completes .sleepDrained s fun t =>
      (s.pmState ≠ 1 ∨ s.drainedForSleep = false → t = s) ∧
      (s.pmState = 1 → s.drainedForSleep = true → t.power.asleep = true ∧ t.out = .sleepAck true :: .avs 650 :: s.out ∧ t.pending = s.pending ∧
        (∀ h c : Nat, h < 2 → c < 4 → s.flag (hbPage h (1 + c)) Harbour.CH_STAT_TRAINED = true →
          t.flag (hbPage h (1 + c)) Harbour.CH_STAT_SR = true) ∧
        (∀ k, (∀ h < 2, ∀ c < 4, k ≠ fieldKey (hbPage h (1 + c)) Harbour.CH_STAT_SR) →
          SMap.get resetField t.regs k = if keptAsleep k = true then SMap.get resetField s.regs k else resetField k) ∧
        (∀ h < 2, ∀ pa, t.memByte h pa = s.memByte h pa))) ∧
  (∀ s : State,
    Completes .sleepAbort s fun t =>
      (s.pmState = 1 → t.pmState = 0 ∧ t.flag 0x2 Chip.PM_CTRL_SLEEP_GO = false ∧ t.eventBit 0x2 1 = true ∧ t.power.planEnds = false) ∧
      (s.pmState ≠ 1 → t = s) ∧ SameMemory s t) ∧
  (∀ (timer : Bool) (bad : List (Fin 0x1400)) (beaconBad : Bool) (s : State) (on : Bool),
    on = (if timer then s.flag 0x2 Chip.PM_WAKE_TIMER_EN else s.flag 0x2 Chip.PM_WAKE_WAKE_N_EN) →
    Completes (.wake timer bad beaconBad) s fun t =>
      (on = false → t = s) ∧
      (on = true → s.power.asleep = true → t.power.asleep = false ∧ t.power.wakeSeqDue = true ∧
        t.power.replanDue = s.flag 0x2 Chip.PM_CTRL_REPLAN ∧ Out.sleepAck false ∈ t.out ∧ t.get 0x2 Chip.SUP_STAT_IN_WINDOW = 0x1FF ∧
        t.pmState = 2 ∧ t.flag 0x2 (if timer = true then Chip.PM_WAKE_CAUSE_TIMER else Chip.PM_WAKE_CAUSE_WAKE_N) = true ∧
        t.condBit 0x2 3 = !bad.isEmpty ∧ t.condBit bcnPage 3 = beaconBad ∧
        (bad = [] → ∀ x < 2, s.flag tmPage (Tidemark.DOM_CFG_EN.nth x) = true → t.domState x = 4)) ∧
      (on = true → s.power.asleep = false → timer = false → s.pmState = 1 → t.pmState = 0 ∧ t.flag 0x2 Chip.PM_WAKE_CAUSE_WAKE_N = true ∧
        t.eventBit 0x2 1 = true ∧ t.power.planEnds = false ∧ t.power.replanDue = s.flag 0x2 Chip.PM_CTRL_REPLAN) ∧
      (s.power.asleep = false → timer = true ∨ s.pmState ≠ 1 → t = s) ∧ SameMemory s t)

/-! ## Temperature, balls and copies (rows 237 to 239, 243) -/

/-- Sensors, balls and copied units (parts of R17, R363, R599, R600, R606). TEMP_SAMPLE shows every sensor and the largest plausible reading; a threshold is reached, or left,
by the second reading in a row. A ball takes a function that no other has; an output that reads wrong goes off. Of a copied unit the failing copy is
dropped, and without one the mismatch is a fault; of the two controllers, where they are compared, the instance that fails is at fault, or both.
Model's choices: notes/assumptions/39, 48, 85, 91. -/
def Obligations.SensorsBallsAndCopiesAreWatched : Prop :=
  (∀ (v : List Int) (s : State),
    Completes (.tempSample v) s fun t =>
      (s.power.inReset = true ∨ s.power.asleep = true → t.regs = s.regs ∧ SameFaults s t) ∧
      (s.power.inReset = false → s.power.asleep = false →
        (∀ k < 12, t.get 0xD (Chip.TS_SENS_TEMP.nth k) = ofSigned 16 (v.getD k 0) ∧
          t.flag 0xD (Chip.TS_SENS_VALID.nth k) = plausible (v.getD k 0)) ∧
        t.condBit 0xD 3 = (List.range 12).any (fun k => !plausible (v.getD k 0)) ∧
        ((∀ k < 12, plausible (v.getD k 0) = false) → t.get 0xD Chip.TS_MAX_TEMP = s.get 0xD Chip.TS_MAX_TEMP ∧
          ∀ k < 3, t.condBit 0xD k = s.condBit 0xD k) ∧
        (∀ top, (∃ k < 12, v.getD k 0 = top ∧ plausible top = true) → (∀ k < 12, plausible (v.getD k 0) = true → v.getD k 0 ≤ top) →
          t.get 0xD Chip.TS_MAX_TEMP = ofSigned 16 top ∧
          ∀ k < 3, (s.thresholds.getD k 0 ≤ top → 1 ≤ s.pins.reach.getD k 0 → t.condBit 0xD k = true) ∧
            (top ≤ s.thresholds.getD k 0 - 24 → 1 ≤ s.pins.leave.getD k 0 → t.condBit 0xD k = false) ∧
            ((s.thresholds.getD k 0 ≤ top ∧ s.pins.reach.getD k 0 = 0) ∨ (top ≤ s.thresholds.getD k 0 - 24 ∧ s.pins.leave.getD k 0 = 0) ∨
              (s.thresholds.getD k 0 - 24 < top ∧ top < s.thresholds.getD k 0) → t.condBit 0xD k = s.pins.reached.getD k false))) ∧ SameMemory s t) ∧
  (∀ (req : Requester) (i : Fin 48) (w : Word) (s : State) (f n : Nat), s.serves req (regOff 0xA (Chip.GPIO_CFG_FUNC.nth i)) = true →
    f = w.toNat / 2 ^ 28 → n = w.toNat / 2 ^ 24 % 8 →
    Completes (.gpioCfgWrite req i w) s fun t =>
      (f ≤ 6 → s.ballTakes i f n = true → t.get 0xA (Chip.GPIO_CFG_FUNC.nth i) = f ∧ t.get 0xA (Chip.GPIO_CFG_FIDX.nth i) = n ∧
        (f ≠ 2 → s.get 0xA (Chip.GPIO_CFG_FUNC.nth i) = 2 → (t.csi (s.get 0xA (Chip.GPIO_CFG_FIDX.nth i))).pulse = none)) ∧
      (6 < f ∨ s.ballTakes i f n = false →
        t.get 0xA (Chip.GPIO_CFG_FUNC.nth i) = s.get 0xA (Chip.GPIO_CFG_FUNC.nth i) ∧ t.eventBit 0xA 0 = true) ∧ t.out = s.out ∧ SameMemory s t ∧
      SameFaults s t) ∧
  (∀ (i : Fin 48) (level past : Bool) (s : State) (f n : Nat) (bad : Bool → Bool → Bool), f = s.get 0xA (Chip.GPIO_CFG_FUNC.nth i) →
    n = s.get 0xA (Chip.GPIO_CFG_FIDX.nth i) →
    (∀ drive od, bad drive od = if od = true then drive && !level else drive != level || past) →
    Completes (.gpioReadback i level past) s fun t =>
      (s.terminal = true ∨ s.power.asleep = true ∨ s.flag 0xA (Chip.GPIO_CFG_OFF.nth i) = true → t = s) ∧
      (s.terminal = false → s.power.asleep = false → s.flag 0xA (Chip.GPIO_CFG_OFF.nth i) = false →
        (f = 1 → s.gpioBit Chip.GPIO_OE_OE i = true → bad (s.gpioBit Chip.GPIO_OUT_OUT i) (s.flag 0xA (Chip.GPIO_CFG_OD.nth i)) = true →
          t.flag 0xA (Chip.GPIO_CFG_OFF.nth i) = true ∧ t.condBit 0xC 0 = true ∧
          t.get 0xC Chip.GPIO_MISMATCH_COUNT = min (s.get 0xC Chip.GPIO_MISMATCH_COUNT + 1) (2 ^ 32 - 1)) ∧
        (f = 2 → s.lfsDrives n = true → bad (s.lfsLevel n) (s.flag (rxPage n) CsiRx.LFS_CFG_OD) = true →
          t.flag (rxPage n) CsiRx.LFS_STAT_OFF = true ∧ t.condBit (rxPage n) 2 = true ∧ (t.csi n).pulse = none ∧
          (s.flag (rxPage n) CsiRx.LFS_CFG_OD = false → t.flag 0xA (Chip.GPIO_CFG_OFF.nth i) = true ∧ t.condBit 0xC 0 = true)) ∧
        ((f ≠ 1 ∧ f ≠ 2) ∨ (f = 1 ∧ (s.gpioBit Chip.GPIO_OE_OE i = false ∨
            bad (s.gpioBit Chip.GPIO_OUT_OUT i) (s.flag 0xA (Chip.GPIO_CFG_OD.nth i)) = false)) ∨
          (f = 2 ∧ (s.lfsDrives n = false ∨ bad (s.lfsLevel n) (s.flag (rxPage n) CsiRx.LFS_CFG_OD) = false)) → t = s)) ∧ SameMemory s t) ∧
  (∀ (u : CopiedUnit) (failing : Option (Fin 2)) (s : State),
    Completes (.copyMismatch u failing) s fun t =>
      (u ≠ .controllers → s.fault.dropped.contains u.code = true → t = s) ∧
      (u ≠ .controllers → s.fault.dropped.contains u.code = false →
        (failing ≠ none → t.fault.dropped = u.code :: s.fault.dropped ∧ t.condBit 0x160 1 = t.fault.dropped.contains 1 ∧
          t.condBit bwPage 2 = t.fault.dropped.contains 3 ∧ OnlyRegs s t [fieldKey 0x160 Hdr.FLT_STAT_FAULT, fieldKey bwPage Hdr.FLT_STAT_FAULT]) ∧
        (failing = none → t.condBit u.fault.1 u.fault.2 = true ∧ t.fault.dropped = s.fault.dropped)) ∧
      (u = .controllers → s.controllersCompared = true →
        (failing = none → t.condBit (pcPage 0 0) 3 = true ∧ t.condBit (pcPage 1 0) 3 = true) ∧
        (∀ h, failing = some h → t.condBit (pcPage h 0) 3 = true ∧ Due.selfCheck h 2 ∈ t.due)) ∧
      (u = .controllers → s.controllersCompared = false → t = s) ∧ SameMemory s t)
end

