-- ==== Sys2Proof/Laws/Map.lean ====
section
/-! SUPPORT. Sys2Proof/Laws/Map.lean: a read after a write, every other key, and the canonical form of a sparse map. -/

namespace Sys2Proof.Machine

variable {α : Type}

theorem SMap.get_insert_same (d : Nat → α) (m : SMap α) (k : Nat) (v : α) (h : ∀ e ∈ m, e.1 ≠ k) :
    SMap.get d (SMap.insert k v m) k = v := by
  induction m with
  | nil => simp [SMap.insert, SMap.get]
  | cons e r ih =>
    have he : e.1 ≠ k := h e (by simp)
    have hr : ∀ x ∈ r, x.1 ≠ k := fun x hx => h x (by simp [hx])
    simp only [SMap.insert]
    split
    · simp [SMap.get]
    · simp [SMap.get, he, ih hr]

theorem SMap.get_insert_other (d : Nat → α) (m : SMap α) {k k' : Nat} (v : α) (h : k ≠ k') :
    SMap.get d (SMap.insert k v m) k' = SMap.get d m k' := by
  induction m with
  | nil => simp [SMap.insert, SMap.get, h]
  | cons e r ih =>
    simp only [SMap.insert]
    split
    · simp [SMap.get, h]
    · simp [SMap.get, ih]

theorem SMap.get_filter_same (d : Nat → α) (m : SMap α) (k : Nat) :
    SMap.get d (m.filter (fun e => e.1 != k)) k = d k := by
  induction m with
  | nil => rfl
  | cons e r ih =>
    by_cases he : e.1 = k <;> simp [he, ih, SMap.get]

theorem SMap.get_filter_other (d : Nat → α) (m : SMap α) {k k' : Nat} (h : k ≠ k') :
    SMap.get d (m.filter (fun e => e.1 != k)) k' = SMap.get d m k' := by
  induction m with
  | nil => rfl
  | cons e r ih =>
    by_cases he : e.1 = k
    · have : ¬ e.1 = k' := fun h' => h (he.symm.trans h')
      simp [he, ih, SMap.get, h]
    · simp [he, ih, SMap.get]

variable [DecidableEq α]

/-- A read of the written key gives the written value. -/
@[simp] theorem SMap.get_set_same (d : Nat → α) (m : SMap α) (k : Nat) (v : α) :
    SMap.get d (SMap.set d m k v) k = v := by
  unfold SMap.set
  by_cases hv : v = d k
  · simp [hv, SMap.get_filter_same]
  · simp only [hv, if_false]
    exact SMap.get_insert_same d _ k v (by simp)

/-- A write leaves every other key alone. -/
theorem SMap.get_set_other (d : Nat → α) (m : SMap α) {k k' : Nat} (v : α) (h : k ≠ k') :
    SMap.get d (SMap.set d m k v) k' = SMap.get d m k' := by
  unfold SMap.set
  by_cases hv : v = d k
  · simp [hv, SMap.get_filter_other d m h]
  · simp only [hv, if_false]
    rw [SMap.get_insert_other d _ v h, SMap.get_filter_other d m h]

theorem SMap.get_set (d : Nat → α) (m : SMap α) (k k' : Nat) (v : α) :
    SMap.get d (SMap.set d m k v) k' = if k = k' then v else SMap.get d m k' := by
  by_cases h : k = k'
  · subst h; simp
  · simp [h, SMap.get_set_other d m v h]

theorem SMap.wf_iff (d : Nat → α) (m : SMap α) :
    SMap.wf d m = true ↔ m.Pairwise (fun a b => a.1 < b.1) ∧ ∀ e ∈ m, e.2 ≠ d e.1 := by
  simp [SMap.wf]

@[simp] theorem SMap.wf_nil (d : Nat → α) : SMap.wf d ([] : SMap α) = true := by simp [SMap.wf]

theorem SMap.mem_insert (k : Nat) (v : α) (m : SMap α) (e : Nat × α) :
    e ∈ SMap.insert k v m ↔ e = (k, v) ∨ e ∈ m := by
  induction m with
  | nil => simp [SMap.insert]
  | cons a r ih =>
    simp only [SMap.insert]
    split
    · simp
    · simp only [List.mem_cons, ih]; tauto

theorem SMap.insert_rising (k : Nat) (v : α) (m : SMap α) (hm : m.Pairwise (fun a b => a.1 < b.1))
    (h : ∀ e ∈ m, e.1 ≠ k) : (SMap.insert k v m).Pairwise (fun a b => a.1 < b.1) := by
  induction m with
  | nil => simp [SMap.insert]
  | cons a r ih =>
    obtain ⟨ha, hr⟩ := List.pairwise_cons.mp hm
    have hak : a.1 ≠ k := h a (by simp)
    simp only [SMap.insert]
    split
    · rename_i hlt
      refine List.pairwise_cons.mpr ⟨?_, hm⟩
      intro e he
      rcases List.mem_cons.mp he with rfl | he
      · exact hlt
      · exact lt_trans hlt (ha e he)
    · rename_i hnl
      refine List.pairwise_cons.mpr ⟨?_, ih hr (fun e he => h e (by simp [he]))⟩
      intro e he
      rcases (SMap.mem_insert k v r e).mp he with rfl | he
      · exact lt_of_le_of_ne (not_lt.mp hnl) hak
      · exact ha e he

/-- Every write keeps the canonical form. -/
@[simp] theorem SMap.wf_set (d : Nat → α) (m : SMap α) (k : Nat) (v : α) (h : SMap.wf d m = true) :
    SMap.wf d (SMap.set d m k v) = true := by
  rw [SMap.wf_iff] at h ⊢
  obtain ⟨hp, hd⟩ := h
  have hp' := hp.filter (fun e => e.1 != k)
  have hk : ∀ e ∈ m.filter (fun e => e.1 != k), e.1 ≠ k := by simp
  unfold SMap.set
  by_cases hv : v = d k
  · simp only [hv, if_true]
    exact ⟨hp', fun e he => hd e (List.mem_of_mem_filter he)⟩
  · simp only [hv, if_false]
    refine ⟨SMap.insert_rising k v _ hp' hk, fun e he => ?_⟩
    rcases (SMap.mem_insert k v _ e).mp he with rfl | he
    · exact hv
    · exact hd e (List.mem_of_mem_filter he)

end Sys2Proof.Machine
end

