-- ==== Sys2Proof/Laws/State.lean ====
section
/-!
SUPPORT. Sys2Proof/Laws/State.lean: what each plain update of the state leaves alone, one lemma per field.
-/
namespace Sys2Proof.Machine

@[simp] theorem State.put_pending (s : State) (pg : Nat) (f : Field) (v : Nat) : (s.put pg f v).pending = s.pending := rfl
@[simp] theorem State.put_wordCaptures (s : State) (pg : Nat) (f : Field) (v : Nat) : (s.put pg f v).wordCaptures = s.wordCaptures := rfl
@[simp] theorem State.put_flt (s : State) (pg : Nat) (f : Field) (v : Nat) : (s.put pg f v).flt = s.flt := rfl
@[simp] theorem State.put_due (s : State) (pg : Nat) (f : Field) (v : Nat) : (s.put pg f v).due = s.due := rfl
@[simp] theorem State.put_out (s : State) (pg : Nat) (f : Field) (v : Nat) : (s.put pg f v).out = s.out := rfl
@[simp] theorem State.put_free (s : State) (pg : Nat) (f : Field) (v : Nat) : (s.put pg f v).free = s.free := rfl
@[simp] theorem State.put_time (s : State) (pg : Nat) (f : Field) (v : Nat) : (s.put pg f v).time = s.time := rfl
@[simp] theorem State.put_tide (s : State) (pg : Nat) (f : Field) (v : Nat) : (s.put pg f v).tide = s.tide := rfl
@[simp] theorem State.put_commit (s : State) (pg : Nat) (f : Field) (v : Nat) : (s.put pg f v).commit = s.commit := rfl
@[simp] theorem State.put_fault (s : State) (pg : Nat) (f : Field) (v : Nat) : (s.put pg f v).fault = s.fault := rfl
@[simp] theorem State.put_beacon (s : State) (pg : Nat) (f : Field) (v : Nat) : (s.put pg f v).beacon = s.beacon := rfl
@[simp] theorem State.put_power (s : State) (pg : Nat) (f : Field) (v : Nat) : (s.put pg f v).power = s.power := rfl
@[simp] theorem State.put_boot (s : State) (pg : Nat) (f : Field) (v : Nat) : (s.put pg f v).boot = s.boot := rfl
@[simp] theorem State.put_pins (s : State) (pg : Nat) (f : Field) (v : Nat) : (s.put pg f v).pins = s.pins := rfl
@[simp] theorem State.put_macs (s : State) (pg : Nat) (f : Field) (v : Nat) : (s.put pg f v).macs = s.macs := rfl
@[simp] theorem State.put_bridge (s : State) (pg : Nat) (f : Field) (v : Nat) : (s.put pg f v).bridge = s.bridge := rfl
@[simp] theorem State.put_cores (s : State) (pg : Nat) (f : Field) (v : Nat) : (s.put pg f v).cores = s.cores := rfl
@[simp] theorem State.put_harbours (s : State) (pg : Nat) (f : Field) (v : Nat) : (s.put pg f v).harbours = s.harbours := rfl
@[simp] theorem State.put_channels (s : State) (pg : Nat) (f : Field) (v : Nat) : (s.put pg f v).channels = s.channels := rfl
@[simp] theorem State.put_arbiters (s : State) (pg : Nat) (f : Field) (v : Nat) : (s.put pg f v).arbiters = s.arbiters := rfl
@[simp] theorem State.put_pcie (s : State) (pg : Nat) (f : Field) (v : Nat) : (s.put pg f v).pcie = s.pcie := rfl
@[simp] theorem State.put_light (s : State) (pg : Nat) (f : Field) (v : Nat) : (s.put pg f v).light = s.light := rfl
@[simp] theorem State.put_coves (s : State) (pg : Nat) (f : Field) (v : Nat) : (s.put pg f v).coves = s.coves := rfl
@[simp] theorem State.put_frames (s : State) (pg : Nat) (f : Field) (v : Nat) : (s.put pg f v).frames = s.frames := rfl
@[simp] theorem State.put_seawall (s : State) (pg : Nat) (f : Field) (v : Nat) : (s.put pg f v).seawall = s.seawall := rfl
@[simp] theorem State.put_lanes (s : State) (pg : Nat) (f : Field) (v : Nat) : (s.put pg f v).lanes = s.lanes := rfl
@[simp] theorem State.put_ports (s : State) (pg : Nat) (f : Field) (v : Nat) : (s.put pg f v).ports = s.ports := rfl
@[simp] theorem State.put_streams (s : State) (pg : Nat) (f : Field) (v : Nat) : (s.put pg f v).streams = s.streams := rfl
@[simp] theorem State.put_syncs (s : State) (pg : Nat) (f : Field) (v : Nat) : (s.put pg f v).syncs = s.syncs := rfl
@[simp] theorem State.put_csiRx (s : State) (pg : Nat) (f : Field) (v : Nat) : (s.put pg f v).csiRx = s.csiRx := rfl
@[simp] theorem State.put_csiTx (s : State) (pg : Nat) (f : Field) (v : Nat) : (s.put pg f v).csiTx = s.csiTx := rfl
@[simp] theorem State.put_windows (s : State) (pg : Nat) (f : Field) (v : Nat) : (s.put pg f v).windows = s.windows := rfl

@[simp] theorem State.putLive_pending (s : State) (pg : Nat) (f : Field) (v : Nat) : (s.putLive pg f v).pending = s.pending := rfl
@[simp] theorem State.putLive_wordCaptures (s : State) (pg : Nat) (f : Field) (v : Nat) : (s.putLive pg f v).wordCaptures = s.wordCaptures := rfl
@[simp] theorem State.putLive_flt (s : State) (pg : Nat) (f : Field) (v : Nat) : (s.putLive pg f v).flt = s.flt := rfl
@[simp] theorem State.putLive_due (s : State) (pg : Nat) (f : Field) (v : Nat) : (s.putLive pg f v).due = s.due := rfl
@[simp] theorem State.putLive_out (s : State) (pg : Nat) (f : Field) (v : Nat) : (s.putLive pg f v).out = s.out := rfl
@[simp] theorem State.putLive_free (s : State) (pg : Nat) (f : Field) (v : Nat) : (s.putLive pg f v).free = s.free := rfl
@[simp] theorem State.putLive_time (s : State) (pg : Nat) (f : Field) (v : Nat) : (s.putLive pg f v).time = s.time := rfl
@[simp] theorem State.putLive_tide (s : State) (pg : Nat) (f : Field) (v : Nat) : (s.putLive pg f v).tide = s.tide := rfl
@[simp] theorem State.putLive_commit (s : State) (pg : Nat) (f : Field) (v : Nat) : (s.putLive pg f v).commit = s.commit := rfl
@[simp] theorem State.putLive_fault (s : State) (pg : Nat) (f : Field) (v : Nat) : (s.putLive pg f v).fault = s.fault := rfl
@[simp] theorem State.putLive_beacon (s : State) (pg : Nat) (f : Field) (v : Nat) : (s.putLive pg f v).beacon = s.beacon := rfl
@[simp] theorem State.putLive_power (s : State) (pg : Nat) (f : Field) (v : Nat) : (s.putLive pg f v).power = s.power := rfl
@[simp] theorem State.putLive_boot (s : State) (pg : Nat) (f : Field) (v : Nat) : (s.putLive pg f v).boot = s.boot := rfl
@[simp] theorem State.putLive_pins (s : State) (pg : Nat) (f : Field) (v : Nat) : (s.putLive pg f v).pins = s.pins := rfl
@[simp] theorem State.putLive_macs (s : State) (pg : Nat) (f : Field) (v : Nat) : (s.putLive pg f v).macs = s.macs := rfl
@[simp] theorem State.putLive_bridge (s : State) (pg : Nat) (f : Field) (v : Nat) : (s.putLive pg f v).bridge = s.bridge := rfl
@[simp] theorem State.putLive_cores (s : State) (pg : Nat) (f : Field) (v : Nat) : (s.putLive pg f v).cores = s.cores := rfl
@[simp] theorem State.putLive_harbours (s : State) (pg : Nat) (f : Field) (v : Nat) : (s.putLive pg f v).harbours = s.harbours := rfl
@[simp] theorem State.putLive_channels (s : State) (pg : Nat) (f : Field) (v : Nat) : (s.putLive pg f v).channels = s.channels := rfl
@[simp] theorem State.putLive_arbiters (s : State) (pg : Nat) (f : Field) (v : Nat) : (s.putLive pg f v).arbiters = s.arbiters := rfl
@[simp] theorem State.putLive_pcie (s : State) (pg : Nat) (f : Field) (v : Nat) : (s.putLive pg f v).pcie = s.pcie := rfl
@[simp] theorem State.putLive_light (s : State) (pg : Nat) (f : Field) (v : Nat) : (s.putLive pg f v).light = s.light := rfl
@[simp] theorem State.putLive_coves (s : State) (pg : Nat) (f : Field) (v : Nat) : (s.putLive pg f v).coves = s.coves := rfl
@[simp] theorem State.putLive_frames (s : State) (pg : Nat) (f : Field) (v : Nat) : (s.putLive pg f v).frames = s.frames := rfl
@[simp] theorem State.putLive_seawall (s : State) (pg : Nat) (f : Field) (v : Nat) : (s.putLive pg f v).seawall = s.seawall := rfl
@[simp] theorem State.putLive_lanes (s : State) (pg : Nat) (f : Field) (v : Nat) : (s.putLive pg f v).lanes = s.lanes := rfl
@[simp] theorem State.putLive_ports (s : State) (pg : Nat) (f : Field) (v : Nat) : (s.putLive pg f v).ports = s.ports := rfl
@[simp] theorem State.putLive_streams (s : State) (pg : Nat) (f : Field) (v : Nat) : (s.putLive pg f v).streams = s.streams := rfl
@[simp] theorem State.putLive_syncs (s : State) (pg : Nat) (f : Field) (v : Nat) : (s.putLive pg f v).syncs = s.syncs := rfl
@[simp] theorem State.putLive_csiRx (s : State) (pg : Nat) (f : Field) (v : Nat) : (s.putLive pg f v).csiRx = s.csiRx := rfl
@[simp] theorem State.putLive_csiTx (s : State) (pg : Nat) (f : Field) (v : Nat) : (s.putLive pg f v).csiTx = s.csiTx := rfl
@[simp] theorem State.putLive_windows (s : State) (pg : Nat) (f : Field) (v : Nat) : (s.putLive pg f v).windows = s.windows := rfl

@[simp] theorem State.emit_pending (s : State) (o : Out) : (s.emit o).pending = s.pending := rfl
@[simp] theorem State.emit_regs (s : State) (o : Out) : (s.emit o).regs = s.regs := rfl
@[simp] theorem State.emit_wordCaptures (s : State) (o : Out) : (s.emit o).wordCaptures = s.wordCaptures := rfl
@[simp] theorem State.emit_flt (s : State) (o : Out) : (s.emit o).flt = s.flt := rfl
@[simp] theorem State.emit_due (s : State) (o : Out) : (s.emit o).due = s.due := rfl
@[simp] theorem State.emit_free (s : State) (o : Out) : (s.emit o).free = s.free := rfl
@[simp] theorem State.emit_time (s : State) (o : Out) : (s.emit o).time = s.time := rfl
@[simp] theorem State.emit_tide (s : State) (o : Out) : (s.emit o).tide = s.tide := rfl
@[simp] theorem State.emit_commit (s : State) (o : Out) : (s.emit o).commit = s.commit := rfl
@[simp] theorem State.emit_fault (s : State) (o : Out) : (s.emit o).fault = s.fault := rfl
@[simp] theorem State.emit_beacon (s : State) (o : Out) : (s.emit o).beacon = s.beacon := rfl
@[simp] theorem State.emit_power (s : State) (o : Out) : (s.emit o).power = s.power := rfl
@[simp] theorem State.emit_boot (s : State) (o : Out) : (s.emit o).boot = s.boot := rfl
@[simp] theorem State.emit_pins (s : State) (o : Out) : (s.emit o).pins = s.pins := rfl
@[simp] theorem State.emit_macs (s : State) (o : Out) : (s.emit o).macs = s.macs := rfl
@[simp] theorem State.emit_bridge (s : State) (o : Out) : (s.emit o).bridge = s.bridge := rfl
@[simp] theorem State.emit_cores (s : State) (o : Out) : (s.emit o).cores = s.cores := rfl
@[simp] theorem State.emit_harbours (s : State) (o : Out) : (s.emit o).harbours = s.harbours := rfl
@[simp] theorem State.emit_channels (s : State) (o : Out) : (s.emit o).channels = s.channels := rfl
@[simp] theorem State.emit_arbiters (s : State) (o : Out) : (s.emit o).arbiters = s.arbiters := rfl
@[simp] theorem State.emit_pcie (s : State) (o : Out) : (s.emit o).pcie = s.pcie := rfl
@[simp] theorem State.emit_light (s : State) (o : Out) : (s.emit o).light = s.light := rfl
@[simp] theorem State.emit_coves (s : State) (o : Out) : (s.emit o).coves = s.coves := rfl
@[simp] theorem State.emit_frames (s : State) (o : Out) : (s.emit o).frames = s.frames := rfl
@[simp] theorem State.emit_seawall (s : State) (o : Out) : (s.emit o).seawall = s.seawall := rfl
@[simp] theorem State.emit_lanes (s : State) (o : Out) : (s.emit o).lanes = s.lanes := rfl
@[simp] theorem State.emit_ports (s : State) (o : Out) : (s.emit o).ports = s.ports := rfl
@[simp] theorem State.emit_streams (s : State) (o : Out) : (s.emit o).streams = s.streams := rfl
@[simp] theorem State.emit_syncs (s : State) (o : Out) : (s.emit o).syncs = s.syncs := rfl
@[simp] theorem State.emit_csiRx (s : State) (o : Out) : (s.emit o).csiRx = s.csiRx := rfl
@[simp] theorem State.emit_csiTx (s : State) (o : Out) : (s.emit o).csiTx = s.csiTx := rfl
@[simp] theorem State.emit_windows (s : State) (o : Out) : (s.emit o).windows = s.windows := rfl

@[simp] theorem State.owe_pending (s : State) (d : Due) : (s.owe d).pending = s.pending := rfl
@[simp] theorem State.owe_regs (s : State) (d : Due) : (s.owe d).regs = s.regs := rfl
@[simp] theorem State.owe_wordCaptures (s : State) (d : Due) : (s.owe d).wordCaptures = s.wordCaptures := rfl
@[simp] theorem State.owe_flt (s : State) (d : Due) : (s.owe d).flt = s.flt := rfl
@[simp] theorem State.owe_out (s : State) (d : Due) : (s.owe d).out = s.out := rfl
@[simp] theorem State.owe_free (s : State) (d : Due) : (s.owe d).free = s.free := rfl
@[simp] theorem State.owe_time (s : State) (d : Due) : (s.owe d).time = s.time := rfl
@[simp] theorem State.owe_tide (s : State) (d : Due) : (s.owe d).tide = s.tide := rfl
@[simp] theorem State.owe_commit (s : State) (d : Due) : (s.owe d).commit = s.commit := rfl
@[simp] theorem State.owe_fault (s : State) (d : Due) : (s.owe d).fault = s.fault := rfl
@[simp] theorem State.owe_beacon (s : State) (d : Due) : (s.owe d).beacon = s.beacon := rfl
@[simp] theorem State.owe_power (s : State) (d : Due) : (s.owe d).power = s.power := rfl
@[simp] theorem State.owe_boot (s : State) (d : Due) : (s.owe d).boot = s.boot := rfl
@[simp] theorem State.owe_pins (s : State) (d : Due) : (s.owe d).pins = s.pins := rfl
@[simp] theorem State.owe_macs (s : State) (d : Due) : (s.owe d).macs = s.macs := rfl
@[simp] theorem State.owe_bridge (s : State) (d : Due) : (s.owe d).bridge = s.bridge := rfl
@[simp] theorem State.owe_cores (s : State) (d : Due) : (s.owe d).cores = s.cores := rfl
@[simp] theorem State.owe_harbours (s : State) (d : Due) : (s.owe d).harbours = s.harbours := rfl
@[simp] theorem State.owe_channels (s : State) (d : Due) : (s.owe d).channels = s.channels := rfl
@[simp] theorem State.owe_arbiters (s : State) (d : Due) : (s.owe d).arbiters = s.arbiters := rfl
@[simp] theorem State.owe_pcie (s : State) (d : Due) : (s.owe d).pcie = s.pcie := rfl
@[simp] theorem State.owe_light (s : State) (d : Due) : (s.owe d).light = s.light := rfl
@[simp] theorem State.owe_coves (s : State) (d : Due) : (s.owe d).coves = s.coves := rfl
@[simp] theorem State.owe_frames (s : State) (d : Due) : (s.owe d).frames = s.frames := rfl
@[simp] theorem State.owe_seawall (s : State) (d : Due) : (s.owe d).seawall = s.seawall := rfl
@[simp] theorem State.owe_lanes (s : State) (d : Due) : (s.owe d).lanes = s.lanes := rfl
@[simp] theorem State.owe_ports (s : State) (d : Due) : (s.owe d).ports = s.ports := rfl
@[simp] theorem State.owe_streams (s : State) (d : Due) : (s.owe d).streams = s.streams := rfl
@[simp] theorem State.owe_syncs (s : State) (d : Due) : (s.owe d).syncs = s.syncs := rfl
@[simp] theorem State.owe_csiRx (s : State) (d : Due) : (s.owe d).csiRx = s.csiRx := rfl
@[simp] theorem State.owe_csiTx (s : State) (d : Due) : (s.owe d).csiTx = s.csiTx := rfl
@[simp] theorem State.owe_windows (s : State) (d : Due) : (s.owe d).windows = s.windows := rfl

@[simp] theorem State.putMarks_pending (s : State) (pg : Nat) (m : FltMarks) : (s.putMarks pg m).pending = s.pending := rfl
@[simp] theorem State.putMarks_regs (s : State) (pg : Nat) (m : FltMarks) : (s.putMarks pg m).regs = s.regs := rfl
@[simp] theorem State.putMarks_wordCaptures (s : State) (pg : Nat) (m : FltMarks) : (s.putMarks pg m).wordCaptures = s.wordCaptures := rfl
@[simp] theorem State.putMarks_due (s : State) (pg : Nat) (m : FltMarks) : (s.putMarks pg m).due = s.due := rfl
@[simp] theorem State.putMarks_out (s : State) (pg : Nat) (m : FltMarks) : (s.putMarks pg m).out = s.out := rfl
@[simp] theorem State.putMarks_free (s : State) (pg : Nat) (m : FltMarks) : (s.putMarks pg m).free = s.free := rfl
@[simp] theorem State.putMarks_time (s : State) (pg : Nat) (m : FltMarks) : (s.putMarks pg m).time = s.time := rfl
@[simp] theorem State.putMarks_tide (s : State) (pg : Nat) (m : FltMarks) : (s.putMarks pg m).tide = s.tide := rfl
@[simp] theorem State.putMarks_commit (s : State) (pg : Nat) (m : FltMarks) : (s.putMarks pg m).commit = s.commit := rfl
@[simp] theorem State.putMarks_fault (s : State) (pg : Nat) (m : FltMarks) : (s.putMarks pg m).fault = s.fault := rfl
@[simp] theorem State.putMarks_beacon (s : State) (pg : Nat) (m : FltMarks) : (s.putMarks pg m).beacon = s.beacon := rfl
@[simp] theorem State.putMarks_power (s : State) (pg : Nat) (m : FltMarks) : (s.putMarks pg m).power = s.power := rfl
@[simp] theorem State.putMarks_boot (s : State) (pg : Nat) (m : FltMarks) : (s.putMarks pg m).boot = s.boot := rfl
@[simp] theorem State.putMarks_pins (s : State) (pg : Nat) (m : FltMarks) : (s.putMarks pg m).pins = s.pins := rfl
@[simp] theorem State.putMarks_macs (s : State) (pg : Nat) (m : FltMarks) : (s.putMarks pg m).macs = s.macs := rfl
@[simp] theorem State.putMarks_bridge (s : State) (pg : Nat) (m : FltMarks) : (s.putMarks pg m).bridge = s.bridge := rfl
@[simp] theorem State.putMarks_cores (s : State) (pg : Nat) (m : FltMarks) : (s.putMarks pg m).cores = s.cores := rfl
@[simp] theorem State.putMarks_harbours (s : State) (pg : Nat) (m : FltMarks) : (s.putMarks pg m).harbours = s.harbours := rfl
@[simp] theorem State.putMarks_channels (s : State) (pg : Nat) (m : FltMarks) : (s.putMarks pg m).channels = s.channels := rfl
@[simp] theorem State.putMarks_arbiters (s : State) (pg : Nat) (m : FltMarks) : (s.putMarks pg m).arbiters = s.arbiters := rfl
@[simp] theorem State.putMarks_pcie (s : State) (pg : Nat) (m : FltMarks) : (s.putMarks pg m).pcie = s.pcie := rfl
@[simp] theorem State.putMarks_light (s : State) (pg : Nat) (m : FltMarks) : (s.putMarks pg m).light = s.light := rfl
@[simp] theorem State.putMarks_coves (s : State) (pg : Nat) (m : FltMarks) : (s.putMarks pg m).coves = s.coves := rfl
@[simp] theorem State.putMarks_frames (s : State) (pg : Nat) (m : FltMarks) : (s.putMarks pg m).frames = s.frames := rfl
@[simp] theorem State.putMarks_seawall (s : State) (pg : Nat) (m : FltMarks) : (s.putMarks pg m).seawall = s.seawall := rfl
@[simp] theorem State.putMarks_lanes (s : State) (pg : Nat) (m : FltMarks) : (s.putMarks pg m).lanes = s.lanes := rfl
@[simp] theorem State.putMarks_ports (s : State) (pg : Nat) (m : FltMarks) : (s.putMarks pg m).ports = s.ports := rfl
@[simp] theorem State.putMarks_streams (s : State) (pg : Nat) (m : FltMarks) : (s.putMarks pg m).streams = s.streams := rfl
@[simp] theorem State.putMarks_syncs (s : State) (pg : Nat) (m : FltMarks) : (s.putMarks pg m).syncs = s.syncs := rfl
@[simp] theorem State.putMarks_csiRx (s : State) (pg : Nat) (m : FltMarks) : (s.putMarks pg m).csiRx = s.csiRx := rfl
@[simp] theorem State.putMarks_csiTx (s : State) (pg : Nat) (m : FltMarks) : (s.putMarks pg m).csiTx = s.csiTx := rfl
@[simp] theorem State.putMarks_windows (s : State) (pg : Nat) (m : FltMarks) : (s.putMarks pg m).windows = s.windows := rfl

@[simp] theorem State.putHarb_pending (s : State) (h : Nat) (x : HarbourSt) : (s.putHarb h x).pending = s.pending := rfl
@[simp] theorem State.putHarb_regs (s : State) (h : Nat) (x : HarbourSt) : (s.putHarb h x).regs = s.regs := rfl
@[simp] theorem State.putHarb_wordCaptures (s : State) (h : Nat) (x : HarbourSt) : (s.putHarb h x).wordCaptures = s.wordCaptures := rfl
@[simp] theorem State.putHarb_flt (s : State) (h : Nat) (x : HarbourSt) : (s.putHarb h x).flt = s.flt := rfl
@[simp] theorem State.putHarb_due (s : State) (h : Nat) (x : HarbourSt) : (s.putHarb h x).due = s.due := rfl
@[simp] theorem State.putHarb_out (s : State) (h : Nat) (x : HarbourSt) : (s.putHarb h x).out = s.out := rfl
@[simp] theorem State.putHarb_free (s : State) (h : Nat) (x : HarbourSt) : (s.putHarb h x).free = s.free := rfl
@[simp] theorem State.putHarb_time (s : State) (h : Nat) (x : HarbourSt) : (s.putHarb h x).time = s.time := rfl
@[simp] theorem State.putHarb_tide (s : State) (h : Nat) (x : HarbourSt) : (s.putHarb h x).tide = s.tide := rfl
@[simp] theorem State.putHarb_commit (s : State) (h : Nat) (x : HarbourSt) : (s.putHarb h x).commit = s.commit := rfl
@[simp] theorem State.putHarb_fault (s : State) (h : Nat) (x : HarbourSt) : (s.putHarb h x).fault = s.fault := rfl
@[simp] theorem State.putHarb_beacon (s : State) (h : Nat) (x : HarbourSt) : (s.putHarb h x).beacon = s.beacon := rfl
@[simp] theorem State.putHarb_power (s : State) (h : Nat) (x : HarbourSt) : (s.putHarb h x).power = s.power := rfl
@[simp] theorem State.putHarb_boot (s : State) (h : Nat) (x : HarbourSt) : (s.putHarb h x).boot = s.boot := rfl
@[simp] theorem State.putHarb_pins (s : State) (h : Nat) (x : HarbourSt) : (s.putHarb h x).pins = s.pins := rfl
@[simp] theorem State.putHarb_macs (s : State) (h : Nat) (x : HarbourSt) : (s.putHarb h x).macs = s.macs := rfl
@[simp] theorem State.putHarb_bridge (s : State) (h : Nat) (x : HarbourSt) : (s.putHarb h x).bridge = s.bridge := rfl
@[simp] theorem State.putHarb_cores (s : State) (h : Nat) (x : HarbourSt) : (s.putHarb h x).cores = s.cores := rfl
@[simp] theorem State.putHarb_channels (s : State) (h : Nat) (x : HarbourSt) : (s.putHarb h x).channels = s.channels := rfl
@[simp] theorem State.putHarb_arbiters (s : State) (h : Nat) (x : HarbourSt) : (s.putHarb h x).arbiters = s.arbiters := rfl
@[simp] theorem State.putHarb_pcie (s : State) (h : Nat) (x : HarbourSt) : (s.putHarb h x).pcie = s.pcie := rfl
@[simp] theorem State.putHarb_light (s : State) (h : Nat) (x : HarbourSt) : (s.putHarb h x).light = s.light := rfl
@[simp] theorem State.putHarb_coves (s : State) (h : Nat) (x : HarbourSt) : (s.putHarb h x).coves = s.coves := rfl
@[simp] theorem State.putHarb_frames (s : State) (h : Nat) (x : HarbourSt) : (s.putHarb h x).frames = s.frames := rfl
@[simp] theorem State.putHarb_seawall (s : State) (h : Nat) (x : HarbourSt) : (s.putHarb h x).seawall = s.seawall := rfl
@[simp] theorem State.putHarb_lanes (s : State) (h : Nat) (x : HarbourSt) : (s.putHarb h x).lanes = s.lanes := rfl
@[simp] theorem State.putHarb_ports (s : State) (h : Nat) (x : HarbourSt) : (s.putHarb h x).ports = s.ports := rfl
@[simp] theorem State.putHarb_streams (s : State) (h : Nat) (x : HarbourSt) : (s.putHarb h x).streams = s.streams := rfl
@[simp] theorem State.putHarb_syncs (s : State) (h : Nat) (x : HarbourSt) : (s.putHarb h x).syncs = s.syncs := rfl
@[simp] theorem State.putHarb_csiRx (s : State) (h : Nat) (x : HarbourSt) : (s.putHarb h x).csiRx = s.csiRx := rfl
@[simp] theorem State.putHarb_csiTx (s : State) (h : Nat) (x : HarbourSt) : (s.putHarb h x).csiTx = s.csiTx := rfl
@[simp] theorem State.putHarb_windows (s : State) (h : Nat) (x : HarbourSt) : (s.putHarb h x).windows = s.windows := rfl

@[simp] theorem State.countSat_pending (s : State) (pg : Nat) (f : Field) (n : Nat) : (s.countSat pg f n).pending = s.pending := rfl
@[simp] theorem State.countSat_wordCaptures (s : State) (pg : Nat) (f : Field) (n : Nat) : (s.countSat pg f n).wordCaptures = s.wordCaptures := rfl
@[simp] theorem State.countSat_flt (s : State) (pg : Nat) (f : Field) (n : Nat) : (s.countSat pg f n).flt = s.flt := rfl
@[simp] theorem State.countSat_due (s : State) (pg : Nat) (f : Field) (n : Nat) : (s.countSat pg f n).due = s.due := rfl
@[simp] theorem State.countSat_out (s : State) (pg : Nat) (f : Field) (n : Nat) : (s.countSat pg f n).out = s.out := rfl
@[simp] theorem State.countSat_free (s : State) (pg : Nat) (f : Field) (n : Nat) : (s.countSat pg f n).free = s.free := rfl
@[simp] theorem State.countSat_time (s : State) (pg : Nat) (f : Field) (n : Nat) : (s.countSat pg f n).time = s.time := rfl
@[simp] theorem State.countSat_tide (s : State) (pg : Nat) (f : Field) (n : Nat) : (s.countSat pg f n).tide = s.tide := rfl
@[simp] theorem State.countSat_commit (s : State) (pg : Nat) (f : Field) (n : Nat) : (s.countSat pg f n).commit = s.commit := rfl
@[simp] theorem State.countSat_fault (s : State) (pg : Nat) (f : Field) (n : Nat) : (s.countSat pg f n).fault = s.fault := rfl
@[simp] theorem State.countSat_beacon (s : State) (pg : Nat) (f : Field) (n : Nat) : (s.countSat pg f n).beacon = s.beacon := rfl
@[simp] theorem State.countSat_power (s : State) (pg : Nat) (f : Field) (n : Nat) : (s.countSat pg f n).power = s.power := rfl
@[simp] theorem State.countSat_boot (s : State) (pg : Nat) (f : Field) (n : Nat) : (s.countSat pg f n).boot = s.boot := rfl
@[simp] theorem State.countSat_pins (s : State) (pg : Nat) (f : Field) (n : Nat) : (s.countSat pg f n).pins = s.pins := rfl
@[simp] theorem State.countSat_macs (s : State) (pg : Nat) (f : Field) (n : Nat) : (s.countSat pg f n).macs = s.macs := rfl
@[simp] theorem State.countSat_bridge (s : State) (pg : Nat) (f : Field) (n : Nat) : (s.countSat pg f n).bridge = s.bridge := rfl
@[simp] theorem State.countSat_cores (s : State) (pg : Nat) (f : Field) (n : Nat) : (s.countSat pg f n).cores = s.cores := rfl
@[simp] theorem State.countSat_harbours (s : State) (pg : Nat) (f : Field) (n : Nat) : (s.countSat pg f n).harbours = s.harbours := rfl
@[simp] theorem State.countSat_channels (s : State) (pg : Nat) (f : Field) (n : Nat) : (s.countSat pg f n).channels = s.channels := rfl
@[simp] theorem State.countSat_arbiters (s : State) (pg : Nat) (f : Field) (n : Nat) : (s.countSat pg f n).arbiters = s.arbiters := rfl
@[simp] theorem State.countSat_pcie (s : State) (pg : Nat) (f : Field) (n : Nat) : (s.countSat pg f n).pcie = s.pcie := rfl
@[simp] theorem State.countSat_light (s : State) (pg : Nat) (f : Field) (n : Nat) : (s.countSat pg f n).light = s.light := rfl
@[simp] theorem State.countSat_coves (s : State) (pg : Nat) (f : Field) (n : Nat) : (s.countSat pg f n).coves = s.coves := rfl
@[simp] theorem State.countSat_frames (s : State) (pg : Nat) (f : Field) (n : Nat) : (s.countSat pg f n).frames = s.frames := rfl
@[simp] theorem State.countSat_seawall (s : State) (pg : Nat) (f : Field) (n : Nat) : (s.countSat pg f n).seawall = s.seawall := rfl
@[simp] theorem State.countSat_lanes (s : State) (pg : Nat) (f : Field) (n : Nat) : (s.countSat pg f n).lanes = s.lanes := rfl
@[simp] theorem State.countSat_ports (s : State) (pg : Nat) (f : Field) (n : Nat) : (s.countSat pg f n).ports = s.ports := rfl
@[simp] theorem State.countSat_streams (s : State) (pg : Nat) (f : Field) (n : Nat) : (s.countSat pg f n).streams = s.streams := rfl
@[simp] theorem State.countSat_syncs (s : State) (pg : Nat) (f : Field) (n : Nat) : (s.countSat pg f n).syncs = s.syncs := rfl
@[simp] theorem State.countSat_csiRx (s : State) (pg : Nat) (f : Field) (n : Nat) : (s.countSat pg f n).csiRx = s.csiRx := rfl
@[simp] theorem State.countSat_csiTx (s : State) (pg : Nat) (f : Field) (n : Nat) : (s.countSat pg f n).csiTx = s.csiTx := rfl
@[simp] theorem State.countSat_windows (s : State) (pg : Nat) (f : Field) (n : Nat) : (s.countSat pg f n).windows = s.windows := rfl

@[simp] theorem State.countWrap_pending (s : State) (pg : Nat) (f : Field) (n : Nat) : (s.countWrap pg f n).pending = s.pending := rfl
@[simp] theorem State.countWrap_wordCaptures (s : State) (pg : Nat) (f : Field) (n : Nat) : (s.countWrap pg f n).wordCaptures = s.wordCaptures := rfl
@[simp] theorem State.countWrap_flt (s : State) (pg : Nat) (f : Field) (n : Nat) : (s.countWrap pg f n).flt = s.flt := rfl
@[simp] theorem State.countWrap_due (s : State) (pg : Nat) (f : Field) (n : Nat) : (s.countWrap pg f n).due = s.due := rfl
@[simp] theorem State.countWrap_out (s : State) (pg : Nat) (f : Field) (n : Nat) : (s.countWrap pg f n).out = s.out := rfl
@[simp] theorem State.countWrap_free (s : State) (pg : Nat) (f : Field) (n : Nat) : (s.countWrap pg f n).free = s.free := rfl
@[simp] theorem State.countWrap_time (s : State) (pg : Nat) (f : Field) (n : Nat) : (s.countWrap pg f n).time = s.time := rfl
@[simp] theorem State.countWrap_tide (s : State) (pg : Nat) (f : Field) (n : Nat) : (s.countWrap pg f n).tide = s.tide := rfl
@[simp] theorem State.countWrap_commit (s : State) (pg : Nat) (f : Field) (n : Nat) : (s.countWrap pg f n).commit = s.commit := rfl
@[simp] theorem State.countWrap_fault (s : State) (pg : Nat) (f : Field) (n : Nat) : (s.countWrap pg f n).fault = s.fault := rfl
@[simp] theorem State.countWrap_beacon (s : State) (pg : Nat) (f : Field) (n : Nat) : (s.countWrap pg f n).beacon = s.beacon := rfl
@[simp] theorem State.countWrap_power (s : State) (pg : Nat) (f : Field) (n : Nat) : (s.countWrap pg f n).power = s.power := rfl
@[simp] theorem State.countWrap_boot (s : State) (pg : Nat) (f : Field) (n : Nat) : (s.countWrap pg f n).boot = s.boot := rfl
@[simp] theorem State.countWrap_pins (s : State) (pg : Nat) (f : Field) (n : Nat) : (s.countWrap pg f n).pins = s.pins := rfl
@[simp] theorem State.countWrap_macs (s : State) (pg : Nat) (f : Field) (n : Nat) : (s.countWrap pg f n).macs = s.macs := rfl
@[simp] theorem State.countWrap_bridge (s : State) (pg : Nat) (f : Field) (n : Nat) : (s.countWrap pg f n).bridge = s.bridge := rfl
@[simp] theorem State.countWrap_cores (s : State) (pg : Nat) (f : Field) (n : Nat) : (s.countWrap pg f n).cores = s.cores := rfl
@[simp] theorem State.countWrap_harbours (s : State) (pg : Nat) (f : Field) (n : Nat) : (s.countWrap pg f n).harbours = s.harbours := rfl
@[simp] theorem State.countWrap_channels (s : State) (pg : Nat) (f : Field) (n : Nat) : (s.countWrap pg f n).channels = s.channels := rfl
@[simp] theorem State.countWrap_arbiters (s : State) (pg : Nat) (f : Field) (n : Nat) : (s.countWrap pg f n).arbiters = s.arbiters := rfl
@[simp] theorem State.countWrap_pcie (s : State) (pg : Nat) (f : Field) (n : Nat) : (s.countWrap pg f n).pcie = s.pcie := rfl
@[simp] theorem State.countWrap_light (s : State) (pg : Nat) (f : Field) (n : Nat) : (s.countWrap pg f n).light = s.light := rfl
@[simp] theorem State.countWrap_coves (s : State) (pg : Nat) (f : Field) (n : Nat) : (s.countWrap pg f n).coves = s.coves := rfl
@[simp] theorem State.countWrap_frames (s : State) (pg : Nat) (f : Field) (n : Nat) : (s.countWrap pg f n).frames = s.frames := rfl
@[simp] theorem State.countWrap_seawall (s : State) (pg : Nat) (f : Field) (n : Nat) : (s.countWrap pg f n).seawall = s.seawall := rfl
@[simp] theorem State.countWrap_lanes (s : State) (pg : Nat) (f : Field) (n : Nat) : (s.countWrap pg f n).lanes = s.lanes := rfl
@[simp] theorem State.countWrap_ports (s : State) (pg : Nat) (f : Field) (n : Nat) : (s.countWrap pg f n).ports = s.ports := rfl
@[simp] theorem State.countWrap_streams (s : State) (pg : Nat) (f : Field) (n : Nat) : (s.countWrap pg f n).streams = s.streams := rfl
@[simp] theorem State.countWrap_syncs (s : State) (pg : Nat) (f : Field) (n : Nat) : (s.countWrap pg f n).syncs = s.syncs := rfl
@[simp] theorem State.countWrap_csiRx (s : State) (pg : Nat) (f : Field) (n : Nat) : (s.countWrap pg f n).csiRx = s.csiRx := rfl
@[simp] theorem State.countWrap_csiTx (s : State) (pg : Nat) (f : Field) (n : Nat) : (s.countWrap pg f n).csiTx = s.csiTx := rfl
@[simp] theorem State.countWrap_windows (s : State) (pg : Nat) (f : Field) (n : Nat) : (s.countWrap pg f n).windows = s.windows := rfl

@[simp] theorem State.putMax_pending (s : State) (pg : Nat) (f : Field) (v : Nat) : (s.putMax pg f v).pending = s.pending := rfl
@[simp] theorem State.putMax_wordCaptures (s : State) (pg : Nat) (f : Field) (v : Nat) : (s.putMax pg f v).wordCaptures = s.wordCaptures := rfl
@[simp] theorem State.putMax_flt (s : State) (pg : Nat) (f : Field) (v : Nat) : (s.putMax pg f v).flt = s.flt := rfl
@[simp] theorem State.putMax_due (s : State) (pg : Nat) (f : Field) (v : Nat) : (s.putMax pg f v).due = s.due := rfl
@[simp] theorem State.putMax_out (s : State) (pg : Nat) (f : Field) (v : Nat) : (s.putMax pg f v).out = s.out := rfl
@[simp] theorem State.putMax_free (s : State) (pg : Nat) (f : Field) (v : Nat) : (s.putMax pg f v).free = s.free := rfl
@[simp] theorem State.putMax_time (s : State) (pg : Nat) (f : Field) (v : Nat) : (s.putMax pg f v).time = s.time := rfl
@[simp] theorem State.putMax_tide (s : State) (pg : Nat) (f : Field) (v : Nat) : (s.putMax pg f v).tide = s.tide := rfl
@[simp] theorem State.putMax_commit (s : State) (pg : Nat) (f : Field) (v : Nat) : (s.putMax pg f v).commit = s.commit := rfl
@[simp] theorem State.putMax_fault (s : State) (pg : Nat) (f : Field) (v : Nat) : (s.putMax pg f v).fault = s.fault := rfl
@[simp] theorem State.putMax_beacon (s : State) (pg : Nat) (f : Field) (v : Nat) : (s.putMax pg f v).beacon = s.beacon := rfl
@[simp] theorem State.putMax_power (s : State) (pg : Nat) (f : Field) (v : Nat) : (s.putMax pg f v).power = s.power := rfl
@[simp] theorem State.putMax_boot (s : State) (pg : Nat) (f : Field) (v : Nat) : (s.putMax pg f v).boot = s.boot := rfl
@[simp] theorem State.putMax_pins (s : State) (pg : Nat) (f : Field) (v : Nat) : (s.putMax pg f v).pins = s.pins := rfl
@[simp] theorem State.putMax_macs (s : State) (pg : Nat) (f : Field) (v : Nat) : (s.putMax pg f v).macs = s.macs := rfl
@[simp] theorem State.putMax_bridge (s : State) (pg : Nat) (f : Field) (v : Nat) : (s.putMax pg f v).bridge = s.bridge := rfl
@[simp] theorem State.putMax_cores (s : State) (pg : Nat) (f : Field) (v : Nat) : (s.putMax pg f v).cores = s.cores := rfl
@[simp] theorem State.putMax_harbours (s : State) (pg : Nat) (f : Field) (v : Nat) : (s.putMax pg f v).harbours = s.harbours := rfl
@[simp] theorem State.putMax_channels (s : State) (pg : Nat) (f : Field) (v : Nat) : (s.putMax pg f v).channels = s.channels := rfl
@[simp] theorem State.putMax_arbiters (s : State) (pg : Nat) (f : Field) (v : Nat) : (s.putMax pg f v).arbiters = s.arbiters := rfl
@[simp] theorem State.putMax_pcie (s : State) (pg : Nat) (f : Field) (v : Nat) : (s.putMax pg f v).pcie = s.pcie := rfl
@[simp] theorem State.putMax_light (s : State) (pg : Nat) (f : Field) (v : Nat) : (s.putMax pg f v).light = s.light := rfl
@[simp] theorem State.putMax_coves (s : State) (pg : Nat) (f : Field) (v : Nat) : (s.putMax pg f v).coves = s.coves := rfl
@[simp] theorem State.putMax_frames (s : State) (pg : Nat) (f : Field) (v : Nat) : (s.putMax pg f v).frames = s.frames := rfl
@[simp] theorem State.putMax_seawall (s : State) (pg : Nat) (f : Field) (v : Nat) : (s.putMax pg f v).seawall = s.seawall := rfl
@[simp] theorem State.putMax_lanes (s : State) (pg : Nat) (f : Field) (v : Nat) : (s.putMax pg f v).lanes = s.lanes := rfl
@[simp] theorem State.putMax_ports (s : State) (pg : Nat) (f : Field) (v : Nat) : (s.putMax pg f v).ports = s.ports := rfl
@[simp] theorem State.putMax_streams (s : State) (pg : Nat) (f : Field) (v : Nat) : (s.putMax pg f v).streams = s.streams := rfl
@[simp] theorem State.putMax_syncs (s : State) (pg : Nat) (f : Field) (v : Nat) : (s.putMax pg f v).syncs = s.syncs := rfl
@[simp] theorem State.putMax_csiRx (s : State) (pg : Nat) (f : Field) (v : Nat) : (s.putMax pg f v).csiRx = s.csiRx := rfl
@[simp] theorem State.putMax_csiTx (s : State) (pg : Nat) (f : Field) (v : Nat) : (s.putMax pg f v).csiTx = s.csiTx := rfl
@[simp] theorem State.putMax_windows (s : State) (pg : Nat) (f : Field) (v : Nat) : (s.putMax pg f v).windows = s.windows := rfl

@[simp] theorem State.event_pending (s : State) (pg b : Nat) : (s.event pg b).pending = s.pending := rfl
@[simp] theorem State.event_wordCaptures (s : State) (pg b : Nat) : (s.event pg b).wordCaptures = s.wordCaptures := rfl
@[simp] theorem State.event_flt (s : State) (pg b : Nat) : (s.event pg b).flt = s.flt := rfl
@[simp] theorem State.event_due (s : State) (pg b : Nat) : (s.event pg b).due = s.due := rfl
@[simp] theorem State.event_out (s : State) (pg b : Nat) : (s.event pg b).out = s.out := rfl
@[simp] theorem State.event_free (s : State) (pg b : Nat) : (s.event pg b).free = s.free := rfl
@[simp] theorem State.event_time (s : State) (pg b : Nat) : (s.event pg b).time = s.time := rfl
@[simp] theorem State.event_tide (s : State) (pg b : Nat) : (s.event pg b).tide = s.tide := rfl
@[simp] theorem State.event_commit (s : State) (pg b : Nat) : (s.event pg b).commit = s.commit := rfl
@[simp] theorem State.event_fault (s : State) (pg b : Nat) : (s.event pg b).fault = s.fault := rfl
@[simp] theorem State.event_beacon (s : State) (pg b : Nat) : (s.event pg b).beacon = s.beacon := rfl
@[simp] theorem State.event_power (s : State) (pg b : Nat) : (s.event pg b).power = s.power := rfl
@[simp] theorem State.event_boot (s : State) (pg b : Nat) : (s.event pg b).boot = s.boot := rfl
@[simp] theorem State.event_pins (s : State) (pg b : Nat) : (s.event pg b).pins = s.pins := rfl
@[simp] theorem State.event_macs (s : State) (pg b : Nat) : (s.event pg b).macs = s.macs := rfl
@[simp] theorem State.event_bridge (s : State) (pg b : Nat) : (s.event pg b).bridge = s.bridge := rfl
@[simp] theorem State.event_cores (s : State) (pg b : Nat) : (s.event pg b).cores = s.cores := rfl
@[simp] theorem State.event_harbours (s : State) (pg b : Nat) : (s.event pg b).harbours = s.harbours := rfl
@[simp] theorem State.event_channels (s : State) (pg b : Nat) : (s.event pg b).channels = s.channels := rfl
@[simp] theorem State.event_arbiters (s : State) (pg b : Nat) : (s.event pg b).arbiters = s.arbiters := rfl
@[simp] theorem State.event_pcie (s : State) (pg b : Nat) : (s.event pg b).pcie = s.pcie := rfl
@[simp] theorem State.event_light (s : State) (pg b : Nat) : (s.event pg b).light = s.light := rfl
@[simp] theorem State.event_coves (s : State) (pg b : Nat) : (s.event pg b).coves = s.coves := rfl
@[simp] theorem State.event_frames (s : State) (pg b : Nat) : (s.event pg b).frames = s.frames := rfl
@[simp] theorem State.event_seawall (s : State) (pg b : Nat) : (s.event pg b).seawall = s.seawall := rfl
@[simp] theorem State.event_lanes (s : State) (pg b : Nat) : (s.event pg b).lanes = s.lanes := rfl
@[simp] theorem State.event_ports (s : State) (pg b : Nat) : (s.event pg b).ports = s.ports := rfl
@[simp] theorem State.event_streams (s : State) (pg b : Nat) : (s.event pg b).streams = s.streams := rfl
@[simp] theorem State.event_syncs (s : State) (pg b : Nat) : (s.event pg b).syncs = s.syncs := rfl
@[simp] theorem State.event_csiRx (s : State) (pg b : Nat) : (s.event pg b).csiRx = s.csiRx := rfl
@[simp] theorem State.event_csiTx (s : State) (pg b : Nat) : (s.event pg b).csiTx = s.csiTx := rfl
@[simp] theorem State.event_windows (s : State) (pg b : Nat) : (s.event pg b).windows = s.windows := rfl

@[simp] theorem State.occur_pending (s : State) (pg b : Nat) : (s.occur pg b).pending = s.pending := rfl
@[simp] theorem State.occur_wordCaptures (s : State) (pg b : Nat) : (s.occur pg b).wordCaptures = s.wordCaptures := rfl
@[simp] theorem State.occur_flt (s : State) (pg b : Nat) : (s.occur pg b).flt = s.flt := rfl
@[simp] theorem State.occur_out (s : State) (pg b : Nat) : (s.occur pg b).out = s.out := rfl
@[simp] theorem State.occur_free (s : State) (pg b : Nat) : (s.occur pg b).free = s.free := rfl
@[simp] theorem State.occur_time (s : State) (pg b : Nat) : (s.occur pg b).time = s.time := rfl
@[simp] theorem State.occur_tide (s : State) (pg b : Nat) : (s.occur pg b).tide = s.tide := rfl
@[simp] theorem State.occur_commit (s : State) (pg b : Nat) : (s.occur pg b).commit = s.commit := rfl
@[simp] theorem State.occur_fault (s : State) (pg b : Nat) : (s.occur pg b).fault = s.fault := rfl
@[simp] theorem State.occur_beacon (s : State) (pg b : Nat) : (s.occur pg b).beacon = s.beacon := rfl
@[simp] theorem State.occur_power (s : State) (pg b : Nat) : (s.occur pg b).power = s.power := rfl
@[simp] theorem State.occur_boot (s : State) (pg b : Nat) : (s.occur pg b).boot = s.boot := rfl
@[simp] theorem State.occur_pins (s : State) (pg b : Nat) : (s.occur pg b).pins = s.pins := rfl
@[simp] theorem State.occur_macs (s : State) (pg b : Nat) : (s.occur pg b).macs = s.macs := rfl
@[simp] theorem State.occur_bridge (s : State) (pg b : Nat) : (s.occur pg b).bridge = s.bridge := rfl
@[simp] theorem State.occur_cores (s : State) (pg b : Nat) : (s.occur pg b).cores = s.cores := rfl
@[simp] theorem State.occur_harbours (s : State) (pg b : Nat) : (s.occur pg b).harbours = s.harbours := rfl
@[simp] theorem State.occur_channels (s : State) (pg b : Nat) : (s.occur pg b).channels = s.channels := rfl
@[simp] theorem State.occur_arbiters (s : State) (pg b : Nat) : (s.occur pg b).arbiters = s.arbiters := rfl
@[simp] theorem State.occur_pcie (s : State) (pg b : Nat) : (s.occur pg b).pcie = s.pcie := rfl
@[simp] theorem State.occur_light (s : State) (pg b : Nat) : (s.occur pg b).light = s.light := rfl
@[simp] theorem State.occur_coves (s : State) (pg b : Nat) : (s.occur pg b).coves = s.coves := rfl
@[simp] theorem State.occur_frames (s : State) (pg b : Nat) : (s.occur pg b).frames = s.frames := rfl
@[simp] theorem State.occur_seawall (s : State) (pg b : Nat) : (s.occur pg b).seawall = s.seawall := rfl
@[simp] theorem State.occur_lanes (s : State) (pg b : Nat) : (s.occur pg b).lanes = s.lanes := rfl
@[simp] theorem State.occur_ports (s : State) (pg b : Nat) : (s.occur pg b).ports = s.ports := rfl
@[simp] theorem State.occur_streams (s : State) (pg b : Nat) : (s.occur pg b).streams = s.streams := rfl
@[simp] theorem State.occur_syncs (s : State) (pg b : Nat) : (s.occur pg b).syncs = s.syncs := rfl
@[simp] theorem State.occur_csiRx (s : State) (pg b : Nat) : (s.occur pg b).csiRx = s.csiRx := rfl
@[simp] theorem State.occur_csiTx (s : State) (pg b : Nat) : (s.occur pg b).csiTx = s.csiTx := rfl
@[simp] theorem State.occur_windows (s : State) (pg b : Nat) : (s.occur pg b).windows = s.windows := rfl

@[simp] theorem State.noteHalf_pending (s : State) (h : Nat) (g : HalfTide → HalfTide) : (s.noteHalf h g).pending = s.pending := rfl
@[simp] theorem State.noteHalf_regs (s : State) (h : Nat) (g : HalfTide → HalfTide) : (s.noteHalf h g).regs = s.regs := rfl
@[simp] theorem State.noteHalf_wordCaptures (s : State) (h : Nat) (g : HalfTide → HalfTide) : (s.noteHalf h g).wordCaptures = s.wordCaptures := rfl
@[simp] theorem State.noteHalf_flt (s : State) (h : Nat) (g : HalfTide → HalfTide) : (s.noteHalf h g).flt = s.flt := rfl
@[simp] theorem State.noteHalf_due (s : State) (h : Nat) (g : HalfTide → HalfTide) : (s.noteHalf h g).due = s.due := rfl
@[simp] theorem State.noteHalf_out (s : State) (h : Nat) (g : HalfTide → HalfTide) : (s.noteHalf h g).out = s.out := rfl
@[simp] theorem State.noteHalf_free (s : State) (h : Nat) (g : HalfTide → HalfTide) : (s.noteHalf h g).free = s.free := rfl
@[simp] theorem State.noteHalf_time (s : State) (h : Nat) (g : HalfTide → HalfTide) : (s.noteHalf h g).time = s.time := rfl
@[simp] theorem State.noteHalf_tide (s : State) (h : Nat) (g : HalfTide → HalfTide) : (s.noteHalf h g).tide = s.tide := rfl
@[simp] theorem State.noteHalf_commit (s : State) (h : Nat) (g : HalfTide → HalfTide) : (s.noteHalf h g).commit = s.commit := rfl
@[simp] theorem State.noteHalf_fault (s : State) (h : Nat) (g : HalfTide → HalfTide) : (s.noteHalf h g).fault = s.fault := rfl
@[simp] theorem State.noteHalf_beacon (s : State) (h : Nat) (g : HalfTide → HalfTide) : (s.noteHalf h g).beacon = s.beacon := rfl
@[simp] theorem State.noteHalf_power (s : State) (h : Nat) (g : HalfTide → HalfTide) : (s.noteHalf h g).power = s.power := rfl
@[simp] theorem State.noteHalf_boot (s : State) (h : Nat) (g : HalfTide → HalfTide) : (s.noteHalf h g).boot = s.boot := rfl
@[simp] theorem State.noteHalf_pins (s : State) (h : Nat) (g : HalfTide → HalfTide) : (s.noteHalf h g).pins = s.pins := rfl
@[simp] theorem State.noteHalf_macs (s : State) (h : Nat) (g : HalfTide → HalfTide) : (s.noteHalf h g).macs = s.macs := rfl
@[simp] theorem State.noteHalf_bridge (s : State) (h : Nat) (g : HalfTide → HalfTide) : (s.noteHalf h g).bridge = s.bridge := rfl
@[simp] theorem State.noteHalf_cores (s : State) (h : Nat) (g : HalfTide → HalfTide) : (s.noteHalf h g).cores = s.cores := rfl
@[simp] theorem State.noteHalf_harbours (s : State) (h : Nat) (g : HalfTide → HalfTide) : (s.noteHalf h g).harbours = s.harbours := rfl
@[simp] theorem State.noteHalf_channels (s : State) (h : Nat) (g : HalfTide → HalfTide) : (s.noteHalf h g).channels = s.channels := rfl
@[simp] theorem State.noteHalf_arbiters (s : State) (h : Nat) (g : HalfTide → HalfTide) : (s.noteHalf h g).arbiters = s.arbiters := rfl
@[simp] theorem State.noteHalf_pcie (s : State) (h : Nat) (g : HalfTide → HalfTide) : (s.noteHalf h g).pcie = s.pcie := rfl
@[simp] theorem State.noteHalf_light (s : State) (h : Nat) (g : HalfTide → HalfTide) : (s.noteHalf h g).light = s.light := rfl
@[simp] theorem State.noteHalf_coves (s : State) (h : Nat) (g : HalfTide → HalfTide) : (s.noteHalf h g).coves = s.coves := rfl
@[simp] theorem State.noteHalf_frames (s : State) (h : Nat) (g : HalfTide → HalfTide) : (s.noteHalf h g).frames = s.frames := rfl
@[simp] theorem State.noteHalf_lanes (s : State) (h : Nat) (g : HalfTide → HalfTide) : (s.noteHalf h g).lanes = s.lanes := rfl
@[simp] theorem State.noteHalf_ports (s : State) (h : Nat) (g : HalfTide → HalfTide) : (s.noteHalf h g).ports = s.ports := rfl
@[simp] theorem State.noteHalf_streams (s : State) (h : Nat) (g : HalfTide → HalfTide) : (s.noteHalf h g).streams = s.streams := rfl
@[simp] theorem State.noteHalf_syncs (s : State) (h : Nat) (g : HalfTide → HalfTide) : (s.noteHalf h g).syncs = s.syncs := rfl
@[simp] theorem State.noteHalf_csiRx (s : State) (h : Nat) (g : HalfTide → HalfTide) : (s.noteHalf h g).csiRx = s.csiRx := rfl
@[simp] theorem State.noteHalf_csiTx (s : State) (h : Nat) (g : HalfTide → HalfTide) : (s.noteHalf h g).csiTx = s.csiTx := rfl
@[simp] theorem State.noteHalf_windows (s : State) (h : Nat) (g : HalfTide → HalfTide) : (s.noteHalf h g).windows = s.windows := rfl

@[simp] theorem State.selfCheck_pending (s : State) (h cause : Nat) : (s.selfCheck h cause).pending = s.pending := rfl
@[simp] theorem State.selfCheck_regs (s : State) (h cause : Nat) : (s.selfCheck h cause).regs = s.regs := rfl
@[simp] theorem State.selfCheck_wordCaptures (s : State) (h cause : Nat) : (s.selfCheck h cause).wordCaptures = s.wordCaptures := rfl
@[simp] theorem State.selfCheck_flt (s : State) (h cause : Nat) : (s.selfCheck h cause).flt = s.flt := rfl
@[simp] theorem State.selfCheck_out (s : State) (h cause : Nat) : (s.selfCheck h cause).out = s.out := rfl
@[simp] theorem State.selfCheck_free (s : State) (h cause : Nat) : (s.selfCheck h cause).free = s.free := rfl
@[simp] theorem State.selfCheck_time (s : State) (h cause : Nat) : (s.selfCheck h cause).time = s.time := rfl
@[simp] theorem State.selfCheck_tide (s : State) (h cause : Nat) : (s.selfCheck h cause).tide = s.tide := rfl
@[simp] theorem State.selfCheck_commit (s : State) (h cause : Nat) : (s.selfCheck h cause).commit = s.commit := rfl
@[simp] theorem State.selfCheck_fault (s : State) (h cause : Nat) : (s.selfCheck h cause).fault = s.fault := rfl
@[simp] theorem State.selfCheck_beacon (s : State) (h cause : Nat) : (s.selfCheck h cause).beacon = s.beacon := rfl
@[simp] theorem State.selfCheck_power (s : State) (h cause : Nat) : (s.selfCheck h cause).power = s.power := rfl
@[simp] theorem State.selfCheck_boot (s : State) (h cause : Nat) : (s.selfCheck h cause).boot = s.boot := rfl
@[simp] theorem State.selfCheck_pins (s : State) (h cause : Nat) : (s.selfCheck h cause).pins = s.pins := rfl
@[simp] theorem State.selfCheck_macs (s : State) (h cause : Nat) : (s.selfCheck h cause).macs = s.macs := rfl
@[simp] theorem State.selfCheck_bridge (s : State) (h cause : Nat) : (s.selfCheck h cause).bridge = s.bridge := rfl
@[simp] theorem State.selfCheck_cores (s : State) (h cause : Nat) : (s.selfCheck h cause).cores = s.cores := rfl
@[simp] theorem State.selfCheck_harbours (s : State) (h cause : Nat) : (s.selfCheck h cause).harbours = s.harbours := rfl
@[simp] theorem State.selfCheck_channels (s : State) (h cause : Nat) : (s.selfCheck h cause).channels = s.channels := rfl
@[simp] theorem State.selfCheck_arbiters (s : State) (h cause : Nat) : (s.selfCheck h cause).arbiters = s.arbiters := rfl
@[simp] theorem State.selfCheck_pcie (s : State) (h cause : Nat) : (s.selfCheck h cause).pcie = s.pcie := rfl
@[simp] theorem State.selfCheck_light (s : State) (h cause : Nat) : (s.selfCheck h cause).light = s.light := rfl
@[simp] theorem State.selfCheck_coves (s : State) (h cause : Nat) : (s.selfCheck h cause).coves = s.coves := rfl
@[simp] theorem State.selfCheck_frames (s : State) (h cause : Nat) : (s.selfCheck h cause).frames = s.frames := rfl
@[simp] theorem State.selfCheck_lanes (s : State) (h cause : Nat) : (s.selfCheck h cause).lanes = s.lanes := rfl
@[simp] theorem State.selfCheck_ports (s : State) (h cause : Nat) : (s.selfCheck h cause).ports = s.ports := rfl
@[simp] theorem State.selfCheck_streams (s : State) (h cause : Nat) : (s.selfCheck h cause).streams = s.streams := rfl
@[simp] theorem State.selfCheck_syncs (s : State) (h cause : Nat) : (s.selfCheck h cause).syncs = s.syncs := rfl
@[simp] theorem State.selfCheck_csiRx (s : State) (h cause : Nat) : (s.selfCheck h cause).csiRx = s.csiRx := rfl
@[simp] theorem State.selfCheck_csiTx (s : State) (h cause : Nat) : (s.selfCheck h cause).csiTx = s.csiTx := rfl
@[simp] theorem State.selfCheck_windows (s : State) (h cause : Nat) : (s.selfCheck h cause).windows = s.windows := rfl

@[simp] theorem State.popCommand_regs (s : State) : (s.popCommand).regs = s.regs := rfl
@[simp] theorem State.popCommand_wordCaptures (s : State) : (s.popCommand).wordCaptures = s.wordCaptures := rfl
@[simp] theorem State.popCommand_flt (s : State) : (s.popCommand).flt = s.flt := rfl
@[simp] theorem State.popCommand_due (s : State) : (s.popCommand).due = s.due := rfl
@[simp] theorem State.popCommand_out (s : State) : (s.popCommand).out = s.out := rfl
@[simp] theorem State.popCommand_free (s : State) : (s.popCommand).free = s.free := rfl
@[simp] theorem State.popCommand_time (s : State) : (s.popCommand).time = s.time := rfl
@[simp] theorem State.popCommand_tide (s : State) : (s.popCommand).tide = s.tide := rfl
@[simp] theorem State.popCommand_commit (s : State) : (s.popCommand).commit = s.commit := rfl
@[simp] theorem State.popCommand_fault (s : State) : (s.popCommand).fault = s.fault := rfl
@[simp] theorem State.popCommand_beacon (s : State) : (s.popCommand).beacon = s.beacon := rfl
@[simp] theorem State.popCommand_power (s : State) : (s.popCommand).power = s.power := rfl
@[simp] theorem State.popCommand_boot (s : State) : (s.popCommand).boot = s.boot := rfl
@[simp] theorem State.popCommand_pins (s : State) : (s.popCommand).pins = s.pins := rfl
@[simp] theorem State.popCommand_macs (s : State) : (s.popCommand).macs = s.macs := rfl
@[simp] theorem State.popCommand_bridge (s : State) : (s.popCommand).bridge = s.bridge := rfl
@[simp] theorem State.popCommand_cores (s : State) : (s.popCommand).cores = s.cores := rfl
@[simp] theorem State.popCommand_harbours (s : State) : (s.popCommand).harbours = s.harbours := rfl
@[simp] theorem State.popCommand_channels (s : State) : (s.popCommand).channels = s.channels := rfl
@[simp] theorem State.popCommand_arbiters (s : State) : (s.popCommand).arbiters = s.arbiters := rfl
@[simp] theorem State.popCommand_pcie (s : State) : (s.popCommand).pcie = s.pcie := rfl
@[simp] theorem State.popCommand_light (s : State) : (s.popCommand).light = s.light := rfl
@[simp] theorem State.popCommand_coves (s : State) : (s.popCommand).coves = s.coves := rfl
@[simp] theorem State.popCommand_frames (s : State) : (s.popCommand).frames = s.frames := rfl
@[simp] theorem State.popCommand_seawall (s : State) : (s.popCommand).seawall = s.seawall := rfl
@[simp] theorem State.popCommand_lanes (s : State) : (s.popCommand).lanes = s.lanes := rfl
@[simp] theorem State.popCommand_ports (s : State) : (s.popCommand).ports = s.ports := rfl
@[simp] theorem State.popCommand_streams (s : State) : (s.popCommand).streams = s.streams := rfl
@[simp] theorem State.popCommand_syncs (s : State) : (s.popCommand).syncs = s.syncs := rfl
@[simp] theorem State.popCommand_csiRx (s : State) : (s.popCommand).csiRx = s.csiRx := rfl
@[simp] theorem State.popCommand_csiTx (s : State) : (s.popCommand).csiTx = s.csiTx := rfl
@[simp] theorem State.popCommand_windows (s : State) : (s.popCommand).windows = s.windows := rfl

@[simp] theorem State.holdCapture_pending (s : State) (req : Requester) (off : Nat) (words : List Nat) : (s.holdCapture req off words).pending = s.pending := rfl
@[simp] theorem State.holdCapture_regs (s : State) (req : Requester) (off : Nat) (words : List Nat) : (s.holdCapture req off words).regs = s.regs := rfl
@[simp] theorem State.holdCapture_flt (s : State) (req : Requester) (off : Nat) (words : List Nat) : (s.holdCapture req off words).flt = s.flt := rfl
@[simp] theorem State.holdCapture_due (s : State) (req : Requester) (off : Nat) (words : List Nat) : (s.holdCapture req off words).due = s.due := rfl
@[simp] theorem State.holdCapture_out (s : State) (req : Requester) (off : Nat) (words : List Nat) : (s.holdCapture req off words).out = s.out := rfl
@[simp] theorem State.holdCapture_free (s : State) (req : Requester) (off : Nat) (words : List Nat) : (s.holdCapture req off words).free = s.free := rfl
@[simp] theorem State.holdCapture_time (s : State) (req : Requester) (off : Nat) (words : List Nat) : (s.holdCapture req off words).time = s.time := rfl
@[simp] theorem State.holdCapture_tide (s : State) (req : Requester) (off : Nat) (words : List Nat) : (s.holdCapture req off words).tide = s.tide := rfl
@[simp] theorem State.holdCapture_commit (s : State) (req : Requester) (off : Nat) (words : List Nat) : (s.holdCapture req off words).commit = s.commit := rfl
@[simp] theorem State.holdCapture_fault (s : State) (req : Requester) (off : Nat) (words : List Nat) : (s.holdCapture req off words).fault = s.fault := rfl
@[simp] theorem State.holdCapture_beacon (s : State) (req : Requester) (off : Nat) (words : List Nat) : (s.holdCapture req off words).beacon = s.beacon := rfl
@[simp] theorem State.holdCapture_power (s : State) (req : Requester) (off : Nat) (words : List Nat) : (s.holdCapture req off words).power = s.power := rfl
@[simp] theorem State.holdCapture_boot (s : State) (req : Requester) (off : Nat) (words : List Nat) : (s.holdCapture req off words).boot = s.boot := rfl
@[simp] theorem State.holdCapture_pins (s : State) (req : Requester) (off : Nat) (words : List Nat) : (s.holdCapture req off words).pins = s.pins := rfl
@[simp] theorem State.holdCapture_macs (s : State) (req : Requester) (off : Nat) (words : List Nat) : (s.holdCapture req off words).macs = s.macs := rfl
@[simp] theorem State.holdCapture_bridge (s : State) (req : Requester) (off : Nat) (words : List Nat) : (s.holdCapture req off words).bridge = s.bridge := rfl
@[simp] theorem State.holdCapture_cores (s : State) (req : Requester) (off : Nat) (words : List Nat) : (s.holdCapture req off words).cores = s.cores := rfl
@[simp] theorem State.holdCapture_harbours (s : State) (req : Requester) (off : Nat) (words : List Nat) : (s.holdCapture req off words).harbours = s.harbours := rfl
@[simp] theorem State.holdCapture_channels (s : State) (req : Requester) (off : Nat) (words : List Nat) : (s.holdCapture req off words).channels = s.channels := rfl
@[simp] theorem State.holdCapture_arbiters (s : State) (req : Requester) (off : Nat) (words : List Nat) : (s.holdCapture req off words).arbiters = s.arbiters := rfl
@[simp] theorem State.holdCapture_pcie (s : State) (req : Requester) (off : Nat) (words : List Nat) : (s.holdCapture req off words).pcie = s.pcie := rfl
@[simp] theorem State.holdCapture_light (s : State) (req : Requester) (off : Nat) (words : List Nat) : (s.holdCapture req off words).light = s.light := rfl
@[simp] theorem State.holdCapture_coves (s : State) (req : Requester) (off : Nat) (words : List Nat) : (s.holdCapture req off words).coves = s.coves := rfl
@[simp] theorem State.holdCapture_frames (s : State) (req : Requester) (off : Nat) (words : List Nat) : (s.holdCapture req off words).frames = s.frames := rfl
@[simp] theorem State.holdCapture_seawall (s : State) (req : Requester) (off : Nat) (words : List Nat) : (s.holdCapture req off words).seawall = s.seawall := rfl
@[simp] theorem State.holdCapture_lanes (s : State) (req : Requester) (off : Nat) (words : List Nat) : (s.holdCapture req off words).lanes = s.lanes := rfl
@[simp] theorem State.holdCapture_ports (s : State) (req : Requester) (off : Nat) (words : List Nat) : (s.holdCapture req off words).ports = s.ports := rfl
@[simp] theorem State.holdCapture_streams (s : State) (req : Requester) (off : Nat) (words : List Nat) : (s.holdCapture req off words).streams = s.streams := rfl
@[simp] theorem State.holdCapture_syncs (s : State) (req : Requester) (off : Nat) (words : List Nat) : (s.holdCapture req off words).syncs = s.syncs := rfl
@[simp] theorem State.holdCapture_csiRx (s : State) (req : Requester) (off : Nat) (words : List Nat) : (s.holdCapture req off words).csiRx = s.csiRx := rfl
@[simp] theorem State.holdCapture_csiTx (s : State) (req : Requester) (off : Nat) (words : List Nat) : (s.holdCapture req off words).csiTx = s.csiTx := rfl
@[simp] theorem State.holdCapture_windows (s : State) (req : Requester) (off : Nat) (words : List Nat) : (s.holdCapture req off words).windows = s.windows := rfl

@[simp] theorem State.putLane_pending (s : State) (n : Nat) (x : LaneSt) : (s.putLane n x).pending = s.pending := rfl
@[simp] theorem State.putLane_regs (s : State) (n : Nat) (x : LaneSt) : (s.putLane n x).regs = s.regs := rfl
@[simp] theorem State.putLane_wordCaptures (s : State) (n : Nat) (x : LaneSt) : (s.putLane n x).wordCaptures = s.wordCaptures := rfl
@[simp] theorem State.putLane_flt (s : State) (n : Nat) (x : LaneSt) : (s.putLane n x).flt = s.flt := rfl
@[simp] theorem State.putLane_due (s : State) (n : Nat) (x : LaneSt) : (s.putLane n x).due = s.due := rfl
@[simp] theorem State.putLane_out (s : State) (n : Nat) (x : LaneSt) : (s.putLane n x).out = s.out := rfl
@[simp] theorem State.putLane_free (s : State) (n : Nat) (x : LaneSt) : (s.putLane n x).free = s.free := rfl
@[simp] theorem State.putLane_time (s : State) (n : Nat) (x : LaneSt) : (s.putLane n x).time = s.time := rfl
@[simp] theorem State.putLane_tide (s : State) (n : Nat) (x : LaneSt) : (s.putLane n x).tide = s.tide := rfl
@[simp] theorem State.putLane_commit (s : State) (n : Nat) (x : LaneSt) : (s.putLane n x).commit = s.commit := rfl
@[simp] theorem State.putLane_fault (s : State) (n : Nat) (x : LaneSt) : (s.putLane n x).fault = s.fault := rfl
@[simp] theorem State.putLane_beacon (s : State) (n : Nat) (x : LaneSt) : (s.putLane n x).beacon = s.beacon := rfl
@[simp] theorem State.putLane_power (s : State) (n : Nat) (x : LaneSt) : (s.putLane n x).power = s.power := rfl
@[simp] theorem State.putLane_boot (s : State) (n : Nat) (x : LaneSt) : (s.putLane n x).boot = s.boot := rfl
@[simp] theorem State.putLane_pins (s : State) (n : Nat) (x : LaneSt) : (s.putLane n x).pins = s.pins := rfl
@[simp] theorem State.putLane_macs (s : State) (n : Nat) (x : LaneSt) : (s.putLane n x).macs = s.macs := rfl
@[simp] theorem State.putLane_bridge (s : State) (n : Nat) (x : LaneSt) : (s.putLane n x).bridge = s.bridge := rfl
@[simp] theorem State.putLane_cores (s : State) (n : Nat) (x : LaneSt) : (s.putLane n x).cores = s.cores := rfl
@[simp] theorem State.putLane_harbours (s : State) (n : Nat) (x : LaneSt) : (s.putLane n x).harbours = s.harbours := rfl
@[simp] theorem State.putLane_channels (s : State) (n : Nat) (x : LaneSt) : (s.putLane n x).channels = s.channels := rfl
@[simp] theorem State.putLane_arbiters (s : State) (n : Nat) (x : LaneSt) : (s.putLane n x).arbiters = s.arbiters := rfl
@[simp] theorem State.putLane_pcie (s : State) (n : Nat) (x : LaneSt) : (s.putLane n x).pcie = s.pcie := rfl
@[simp] theorem State.putLane_light (s : State) (n : Nat) (x : LaneSt) : (s.putLane n x).light = s.light := rfl
@[simp] theorem State.putLane_coves (s : State) (n : Nat) (x : LaneSt) : (s.putLane n x).coves = s.coves := rfl
@[simp] theorem State.putLane_frames (s : State) (n : Nat) (x : LaneSt) : (s.putLane n x).frames = s.frames := rfl
@[simp] theorem State.putLane_seawall (s : State) (n : Nat) (x : LaneSt) : (s.putLane n x).seawall = s.seawall := rfl
@[simp] theorem State.putLane_ports (s : State) (n : Nat) (x : LaneSt) : (s.putLane n x).ports = s.ports := rfl
@[simp] theorem State.putLane_streams (s : State) (n : Nat) (x : LaneSt) : (s.putLane n x).streams = s.streams := rfl
@[simp] theorem State.putLane_syncs (s : State) (n : Nat) (x : LaneSt) : (s.putLane n x).syncs = s.syncs := rfl
@[simp] theorem State.putLane_csiRx (s : State) (n : Nat) (x : LaneSt) : (s.putLane n x).csiRx = s.csiRx := rfl
@[simp] theorem State.putLane_csiTx (s : State) (n : Nat) (x : LaneSt) : (s.putLane n x).csiTx = s.csiTx := rfl
@[simp] theorem State.putLane_windows (s : State) (n : Nat) (x : LaneSt) : (s.putLane n x).windows = s.windows := rfl

@[simp] theorem State.putCh_pending (s : State) (n : Nat) (x : ChannelSt) : (s.putCh n x).pending = s.pending := rfl
@[simp] theorem State.putCh_regs (s : State) (n : Nat) (x : ChannelSt) : (s.putCh n x).regs = s.regs := rfl
@[simp] theorem State.putCh_wordCaptures (s : State) (n : Nat) (x : ChannelSt) : (s.putCh n x).wordCaptures = s.wordCaptures := rfl
@[simp] theorem State.putCh_flt (s : State) (n : Nat) (x : ChannelSt) : (s.putCh n x).flt = s.flt := rfl
@[simp] theorem State.putCh_due (s : State) (n : Nat) (x : ChannelSt) : (s.putCh n x).due = s.due := rfl
@[simp] theorem State.putCh_out (s : State) (n : Nat) (x : ChannelSt) : (s.putCh n x).out = s.out := rfl
@[simp] theorem State.putCh_free (s : State) (n : Nat) (x : ChannelSt) : (s.putCh n x).free = s.free := rfl
@[simp] theorem State.putCh_time (s : State) (n : Nat) (x : ChannelSt) : (s.putCh n x).time = s.time := rfl
@[simp] theorem State.putCh_tide (s : State) (n : Nat) (x : ChannelSt) : (s.putCh n x).tide = s.tide := rfl
@[simp] theorem State.putCh_commit (s : State) (n : Nat) (x : ChannelSt) : (s.putCh n x).commit = s.commit := rfl
@[simp] theorem State.putCh_fault (s : State) (n : Nat) (x : ChannelSt) : (s.putCh n x).fault = s.fault := rfl
@[simp] theorem State.putCh_beacon (s : State) (n : Nat) (x : ChannelSt) : (s.putCh n x).beacon = s.beacon := rfl
@[simp] theorem State.putCh_power (s : State) (n : Nat) (x : ChannelSt) : (s.putCh n x).power = s.power := rfl
@[simp] theorem State.putCh_boot (s : State) (n : Nat) (x : ChannelSt) : (s.putCh n x).boot = s.boot := rfl
@[simp] theorem State.putCh_pins (s : State) (n : Nat) (x : ChannelSt) : (s.putCh n x).pins = s.pins := rfl
@[simp] theorem State.putCh_macs (s : State) (n : Nat) (x : ChannelSt) : (s.putCh n x).macs = s.macs := rfl
@[simp] theorem State.putCh_bridge (s : State) (n : Nat) (x : ChannelSt) : (s.putCh n x).bridge = s.bridge := rfl
@[simp] theorem State.putCh_cores (s : State) (n : Nat) (x : ChannelSt) : (s.putCh n x).cores = s.cores := rfl
@[simp] theorem State.putCh_harbours (s : State) (n : Nat) (x : ChannelSt) : (s.putCh n x).harbours = s.harbours := rfl
@[simp] theorem State.putCh_arbiters (s : State) (n : Nat) (x : ChannelSt) : (s.putCh n x).arbiters = s.arbiters := rfl
@[simp] theorem State.putCh_pcie (s : State) (n : Nat) (x : ChannelSt) : (s.putCh n x).pcie = s.pcie := rfl
@[simp] theorem State.putCh_light (s : State) (n : Nat) (x : ChannelSt) : (s.putCh n x).light = s.light := rfl
@[simp] theorem State.putCh_coves (s : State) (n : Nat) (x : ChannelSt) : (s.putCh n x).coves = s.coves := rfl
@[simp] theorem State.putCh_frames (s : State) (n : Nat) (x : ChannelSt) : (s.putCh n x).frames = s.frames := rfl
@[simp] theorem State.putCh_seawall (s : State) (n : Nat) (x : ChannelSt) : (s.putCh n x).seawall = s.seawall := rfl
@[simp] theorem State.putCh_lanes (s : State) (n : Nat) (x : ChannelSt) : (s.putCh n x).lanes = s.lanes := rfl
@[simp] theorem State.putCh_ports (s : State) (n : Nat) (x : ChannelSt) : (s.putCh n x).ports = s.ports := rfl
@[simp] theorem State.putCh_streams (s : State) (n : Nat) (x : ChannelSt) : (s.putCh n x).streams = s.streams := rfl
@[simp] theorem State.putCh_syncs (s : State) (n : Nat) (x : ChannelSt) : (s.putCh n x).syncs = s.syncs := rfl
@[simp] theorem State.putCh_csiRx (s : State) (n : Nat) (x : ChannelSt) : (s.putCh n x).csiRx = s.csiRx := rfl
@[simp] theorem State.putCh_csiTx (s : State) (n : Nat) (x : ChannelSt) : (s.putCh n x).csiTx = s.csiTx := rfl
@[simp] theorem State.putCh_windows (s : State) (n : Nat) (x : ChannelSt) : (s.putCh n x).windows = s.windows := rfl

@[simp] theorem State.putPc_pending (s : State) (n : Nat) (x : PcieSt) : (s.putPc n x).pending = s.pending := rfl
@[simp] theorem State.putPc_regs (s : State) (n : Nat) (x : PcieSt) : (s.putPc n x).regs = s.regs := rfl
@[simp] theorem State.putPc_wordCaptures (s : State) (n : Nat) (x : PcieSt) : (s.putPc n x).wordCaptures = s.wordCaptures := rfl
@[simp] theorem State.putPc_flt (s : State) (n : Nat) (x : PcieSt) : (s.putPc n x).flt = s.flt := rfl
@[simp] theorem State.putPc_due (s : State) (n : Nat) (x : PcieSt) : (s.putPc n x).due = s.due := rfl
@[simp] theorem State.putPc_out (s : State) (n : Nat) (x : PcieSt) : (s.putPc n x).out = s.out := rfl
@[simp] theorem State.putPc_free (s : State) (n : Nat) (x : PcieSt) : (s.putPc n x).free = s.free := rfl
@[simp] theorem State.putPc_time (s : State) (n : Nat) (x : PcieSt) : (s.putPc n x).time = s.time := rfl
@[simp] theorem State.putPc_tide (s : State) (n : Nat) (x : PcieSt) : (s.putPc n x).tide = s.tide := rfl
@[simp] theorem State.putPc_commit (s : State) (n : Nat) (x : PcieSt) : (s.putPc n x).commit = s.commit := rfl
@[simp] theorem State.putPc_fault (s : State) (n : Nat) (x : PcieSt) : (s.putPc n x).fault = s.fault := rfl
@[simp] theorem State.putPc_beacon (s : State) (n : Nat) (x : PcieSt) : (s.putPc n x).beacon = s.beacon := rfl
@[simp] theorem State.putPc_power (s : State) (n : Nat) (x : PcieSt) : (s.putPc n x).power = s.power := rfl
@[simp] theorem State.putPc_boot (s : State) (n : Nat) (x : PcieSt) : (s.putPc n x).boot = s.boot := rfl
@[simp] theorem State.putPc_pins (s : State) (n : Nat) (x : PcieSt) : (s.putPc n x).pins = s.pins := rfl
@[simp] theorem State.putPc_macs (s : State) (n : Nat) (x : PcieSt) : (s.putPc n x).macs = s.macs := rfl
@[simp] theorem State.putPc_bridge (s : State) (n : Nat) (x : PcieSt) : (s.putPc n x).bridge = s.bridge := rfl
@[simp] theorem State.putPc_cores (s : State) (n : Nat) (x : PcieSt) : (s.putPc n x).cores = s.cores := rfl
@[simp] theorem State.putPc_harbours (s : State) (n : Nat) (x : PcieSt) : (s.putPc n x).harbours = s.harbours := rfl
@[simp] theorem State.putPc_channels (s : State) (n : Nat) (x : PcieSt) : (s.putPc n x).channels = s.channels := rfl
@[simp] theorem State.putPc_arbiters (s : State) (n : Nat) (x : PcieSt) : (s.putPc n x).arbiters = s.arbiters := rfl
@[simp] theorem State.putPc_light (s : State) (n : Nat) (x : PcieSt) : (s.putPc n x).light = s.light := rfl
@[simp] theorem State.putPc_coves (s : State) (n : Nat) (x : PcieSt) : (s.putPc n x).coves = s.coves := rfl
@[simp] theorem State.putPc_frames (s : State) (n : Nat) (x : PcieSt) : (s.putPc n x).frames = s.frames := rfl
@[simp] theorem State.putPc_seawall (s : State) (n : Nat) (x : PcieSt) : (s.putPc n x).seawall = s.seawall := rfl
@[simp] theorem State.putPc_lanes (s : State) (n : Nat) (x : PcieSt) : (s.putPc n x).lanes = s.lanes := rfl
@[simp] theorem State.putPc_ports (s : State) (n : Nat) (x : PcieSt) : (s.putPc n x).ports = s.ports := rfl
@[simp] theorem State.putPc_streams (s : State) (n : Nat) (x : PcieSt) : (s.putPc n x).streams = s.streams := rfl
@[simp] theorem State.putPc_syncs (s : State) (n : Nat) (x : PcieSt) : (s.putPc n x).syncs = s.syncs := rfl
@[simp] theorem State.putPc_csiRx (s : State) (n : Nat) (x : PcieSt) : (s.putPc n x).csiRx = s.csiRx := rfl
@[simp] theorem State.putPc_csiTx (s : State) (n : Nat) (x : PcieSt) : (s.putPc n x).csiTx = s.csiTx := rfl
@[simp] theorem State.putPc_windows (s : State) (n : Nat) (x : PcieSt) : (s.putPc n x).windows = s.windows := rfl

@[simp] theorem State.putMac_pending (s : State) (n : Nat) (x : MacSt) : (s.putMac n x).pending = s.pending := rfl
@[simp] theorem State.putMac_regs (s : State) (n : Nat) (x : MacSt) : (s.putMac n x).regs = s.regs := rfl
@[simp] theorem State.putMac_wordCaptures (s : State) (n : Nat) (x : MacSt) : (s.putMac n x).wordCaptures = s.wordCaptures := rfl
@[simp] theorem State.putMac_flt (s : State) (n : Nat) (x : MacSt) : (s.putMac n x).flt = s.flt := rfl
@[simp] theorem State.putMac_due (s : State) (n : Nat) (x : MacSt) : (s.putMac n x).due = s.due := rfl
@[simp] theorem State.putMac_out (s : State) (n : Nat) (x : MacSt) : (s.putMac n x).out = s.out := rfl
@[simp] theorem State.putMac_free (s : State) (n : Nat) (x : MacSt) : (s.putMac n x).free = s.free := rfl
@[simp] theorem State.putMac_time (s : State) (n : Nat) (x : MacSt) : (s.putMac n x).time = s.time := rfl
@[simp] theorem State.putMac_tide (s : State) (n : Nat) (x : MacSt) : (s.putMac n x).tide = s.tide := rfl
@[simp] theorem State.putMac_commit (s : State) (n : Nat) (x : MacSt) : (s.putMac n x).commit = s.commit := rfl
@[simp] theorem State.putMac_fault (s : State) (n : Nat) (x : MacSt) : (s.putMac n x).fault = s.fault := rfl
@[simp] theorem State.putMac_beacon (s : State) (n : Nat) (x : MacSt) : (s.putMac n x).beacon = s.beacon := rfl
@[simp] theorem State.putMac_power (s : State) (n : Nat) (x : MacSt) : (s.putMac n x).power = s.power := rfl
@[simp] theorem State.putMac_boot (s : State) (n : Nat) (x : MacSt) : (s.putMac n x).boot = s.boot := rfl
@[simp] theorem State.putMac_pins (s : State) (n : Nat) (x : MacSt) : (s.putMac n x).pins = s.pins := rfl
@[simp] theorem State.putMac_bridge (s : State) (n : Nat) (x : MacSt) : (s.putMac n x).bridge = s.bridge := rfl
@[simp] theorem State.putMac_cores (s : State) (n : Nat) (x : MacSt) : (s.putMac n x).cores = s.cores := rfl
@[simp] theorem State.putMac_harbours (s : State) (n : Nat) (x : MacSt) : (s.putMac n x).harbours = s.harbours := rfl
@[simp] theorem State.putMac_channels (s : State) (n : Nat) (x : MacSt) : (s.putMac n x).channels = s.channels := rfl
@[simp] theorem State.putMac_arbiters (s : State) (n : Nat) (x : MacSt) : (s.putMac n x).arbiters = s.arbiters := rfl
@[simp] theorem State.putMac_pcie (s : State) (n : Nat) (x : MacSt) : (s.putMac n x).pcie = s.pcie := rfl
@[simp] theorem State.putMac_light (s : State) (n : Nat) (x : MacSt) : (s.putMac n x).light = s.light := rfl
@[simp] theorem State.putMac_coves (s : State) (n : Nat) (x : MacSt) : (s.putMac n x).coves = s.coves := rfl
@[simp] theorem State.putMac_frames (s : State) (n : Nat) (x : MacSt) : (s.putMac n x).frames = s.frames := rfl
@[simp] theorem State.putMac_seawall (s : State) (n : Nat) (x : MacSt) : (s.putMac n x).seawall = s.seawall := rfl
@[simp] theorem State.putMac_lanes (s : State) (n : Nat) (x : MacSt) : (s.putMac n x).lanes = s.lanes := rfl
@[simp] theorem State.putMac_ports (s : State) (n : Nat) (x : MacSt) : (s.putMac n x).ports = s.ports := rfl
@[simp] theorem State.putMac_streams (s : State) (n : Nat) (x : MacSt) : (s.putMac n x).streams = s.streams := rfl
@[simp] theorem State.putMac_syncs (s : State) (n : Nat) (x : MacSt) : (s.putMac n x).syncs = s.syncs := rfl
@[simp] theorem State.putMac_csiRx (s : State) (n : Nat) (x : MacSt) : (s.putMac n x).csiRx = s.csiRx := rfl
@[simp] theorem State.putMac_csiTx (s : State) (n : Nat) (x : MacSt) : (s.putMac n x).csiTx = s.csiTx := rfl
@[simp] theorem State.putMac_windows (s : State) (n : Nat) (x : MacSt) : (s.putMac n x).windows = s.windows := rfl

@[simp] theorem State.putCsi_pending (s : State) (n : Nat) (x : CsiRxSt) : (s.putCsi n x).pending = s.pending := rfl
@[simp] theorem State.putCsi_regs (s : State) (n : Nat) (x : CsiRxSt) : (s.putCsi n x).regs = s.regs := rfl
@[simp] theorem State.putCsi_wordCaptures (s : State) (n : Nat) (x : CsiRxSt) : (s.putCsi n x).wordCaptures = s.wordCaptures := rfl
@[simp] theorem State.putCsi_flt (s : State) (n : Nat) (x : CsiRxSt) : (s.putCsi n x).flt = s.flt := rfl
@[simp] theorem State.putCsi_due (s : State) (n : Nat) (x : CsiRxSt) : (s.putCsi n x).due = s.due := rfl
@[simp] theorem State.putCsi_out (s : State) (n : Nat) (x : CsiRxSt) : (s.putCsi n x).out = s.out := rfl
@[simp] theorem State.putCsi_free (s : State) (n : Nat) (x : CsiRxSt) : (s.putCsi n x).free = s.free := rfl
@[simp] theorem State.putCsi_time (s : State) (n : Nat) (x : CsiRxSt) : (s.putCsi n x).time = s.time := rfl
@[simp] theorem State.putCsi_tide (s : State) (n : Nat) (x : CsiRxSt) : (s.putCsi n x).tide = s.tide := rfl
@[simp] theorem State.putCsi_commit (s : State) (n : Nat) (x : CsiRxSt) : (s.putCsi n x).commit = s.commit := rfl
@[simp] theorem State.putCsi_fault (s : State) (n : Nat) (x : CsiRxSt) : (s.putCsi n x).fault = s.fault := rfl
@[simp] theorem State.putCsi_beacon (s : State) (n : Nat) (x : CsiRxSt) : (s.putCsi n x).beacon = s.beacon := rfl
@[simp] theorem State.putCsi_power (s : State) (n : Nat) (x : CsiRxSt) : (s.putCsi n x).power = s.power := rfl
@[simp] theorem State.putCsi_boot (s : State) (n : Nat) (x : CsiRxSt) : (s.putCsi n x).boot = s.boot := rfl
@[simp] theorem State.putCsi_pins (s : State) (n : Nat) (x : CsiRxSt) : (s.putCsi n x).pins = s.pins := rfl
@[simp] theorem State.putCsi_macs (s : State) (n : Nat) (x : CsiRxSt) : (s.putCsi n x).macs = s.macs := rfl
@[simp] theorem State.putCsi_bridge (s : State) (n : Nat) (x : CsiRxSt) : (s.putCsi n x).bridge = s.bridge := rfl
@[simp] theorem State.putCsi_cores (s : State) (n : Nat) (x : CsiRxSt) : (s.putCsi n x).cores = s.cores := rfl
@[simp] theorem State.putCsi_harbours (s : State) (n : Nat) (x : CsiRxSt) : (s.putCsi n x).harbours = s.harbours := rfl
@[simp] theorem State.putCsi_channels (s : State) (n : Nat) (x : CsiRxSt) : (s.putCsi n x).channels = s.channels := rfl
@[simp] theorem State.putCsi_arbiters (s : State) (n : Nat) (x : CsiRxSt) : (s.putCsi n x).arbiters = s.arbiters := rfl
@[simp] theorem State.putCsi_pcie (s : State) (n : Nat) (x : CsiRxSt) : (s.putCsi n x).pcie = s.pcie := rfl
@[simp] theorem State.putCsi_light (s : State) (n : Nat) (x : CsiRxSt) : (s.putCsi n x).light = s.light := rfl
@[simp] theorem State.putCsi_coves (s : State) (n : Nat) (x : CsiRxSt) : (s.putCsi n x).coves = s.coves := rfl
@[simp] theorem State.putCsi_frames (s : State) (n : Nat) (x : CsiRxSt) : (s.putCsi n x).frames = s.frames := rfl
@[simp] theorem State.putCsi_seawall (s : State) (n : Nat) (x : CsiRxSt) : (s.putCsi n x).seawall = s.seawall := rfl
@[simp] theorem State.putCsi_lanes (s : State) (n : Nat) (x : CsiRxSt) : (s.putCsi n x).lanes = s.lanes := rfl
@[simp] theorem State.putCsi_ports (s : State) (n : Nat) (x : CsiRxSt) : (s.putCsi n x).ports = s.ports := rfl
@[simp] theorem State.putCsi_streams (s : State) (n : Nat) (x : CsiRxSt) : (s.putCsi n x).streams = s.streams := rfl
@[simp] theorem State.putCsi_syncs (s : State) (n : Nat) (x : CsiRxSt) : (s.putCsi n x).syncs = s.syncs := rfl
@[simp] theorem State.putCsi_csiTx (s : State) (n : Nat) (x : CsiRxSt) : (s.putCsi n x).csiTx = s.csiTx := rfl
@[simp] theorem State.putCsi_windows (s : State) (n : Nat) (x : CsiRxSt) : (s.putCsi n x).windows = s.windows := rfl

@[simp] theorem State.putTx_pending (s : State) (n : Nat) (x : CsiTxSt) : (s.putTx n x).pending = s.pending := rfl
@[simp] theorem State.putTx_regs (s : State) (n : Nat) (x : CsiTxSt) : (s.putTx n x).regs = s.regs := rfl
@[simp] theorem State.putTx_wordCaptures (s : State) (n : Nat) (x : CsiTxSt) : (s.putTx n x).wordCaptures = s.wordCaptures := rfl
@[simp] theorem State.putTx_flt (s : State) (n : Nat) (x : CsiTxSt) : (s.putTx n x).flt = s.flt := rfl
@[simp] theorem State.putTx_due (s : State) (n : Nat) (x : CsiTxSt) : (s.putTx n x).due = s.due := rfl
@[simp] theorem State.putTx_out (s : State) (n : Nat) (x : CsiTxSt) : (s.putTx n x).out = s.out := rfl
@[simp] theorem State.putTx_free (s : State) (n : Nat) (x : CsiTxSt) : (s.putTx n x).free = s.free := rfl
@[simp] theorem State.putTx_time (s : State) (n : Nat) (x : CsiTxSt) : (s.putTx n x).time = s.time := rfl
@[simp] theorem State.putTx_tide (s : State) (n : Nat) (x : CsiTxSt) : (s.putTx n x).tide = s.tide := rfl
@[simp] theorem State.putTx_commit (s : State) (n : Nat) (x : CsiTxSt) : (s.putTx n x).commit = s.commit := rfl
@[simp] theorem State.putTx_fault (s : State) (n : Nat) (x : CsiTxSt) : (s.putTx n x).fault = s.fault := rfl
@[simp] theorem State.putTx_beacon (s : State) (n : Nat) (x : CsiTxSt) : (s.putTx n x).beacon = s.beacon := rfl
@[simp] theorem State.putTx_power (s : State) (n : Nat) (x : CsiTxSt) : (s.putTx n x).power = s.power := rfl
@[simp] theorem State.putTx_boot (s : State) (n : Nat) (x : CsiTxSt) : (s.putTx n x).boot = s.boot := rfl
@[simp] theorem State.putTx_pins (s : State) (n : Nat) (x : CsiTxSt) : (s.putTx n x).pins = s.pins := rfl
@[simp] theorem State.putTx_macs (s : State) (n : Nat) (x : CsiTxSt) : (s.putTx n x).macs = s.macs := rfl
@[simp] theorem State.putTx_bridge (s : State) (n : Nat) (x : CsiTxSt) : (s.putTx n x).bridge = s.bridge := rfl
@[simp] theorem State.putTx_cores (s : State) (n : Nat) (x : CsiTxSt) : (s.putTx n x).cores = s.cores := rfl
@[simp] theorem State.putTx_harbours (s : State) (n : Nat) (x : CsiTxSt) : (s.putTx n x).harbours = s.harbours := rfl
@[simp] theorem State.putTx_channels (s : State) (n : Nat) (x : CsiTxSt) : (s.putTx n x).channels = s.channels := rfl
@[simp] theorem State.putTx_arbiters (s : State) (n : Nat) (x : CsiTxSt) : (s.putTx n x).arbiters = s.arbiters := rfl
@[simp] theorem State.putTx_pcie (s : State) (n : Nat) (x : CsiTxSt) : (s.putTx n x).pcie = s.pcie := rfl
@[simp] theorem State.putTx_light (s : State) (n : Nat) (x : CsiTxSt) : (s.putTx n x).light = s.light := rfl
@[simp] theorem State.putTx_coves (s : State) (n : Nat) (x : CsiTxSt) : (s.putTx n x).coves = s.coves := rfl
@[simp] theorem State.putTx_frames (s : State) (n : Nat) (x : CsiTxSt) : (s.putTx n x).frames = s.frames := rfl
@[simp] theorem State.putTx_seawall (s : State) (n : Nat) (x : CsiTxSt) : (s.putTx n x).seawall = s.seawall := rfl
@[simp] theorem State.putTx_lanes (s : State) (n : Nat) (x : CsiTxSt) : (s.putTx n x).lanes = s.lanes := rfl
@[simp] theorem State.putTx_ports (s : State) (n : Nat) (x : CsiTxSt) : (s.putTx n x).ports = s.ports := rfl
@[simp] theorem State.putTx_streams (s : State) (n : Nat) (x : CsiTxSt) : (s.putTx n x).streams = s.streams := rfl
@[simp] theorem State.putTx_syncs (s : State) (n : Nat) (x : CsiTxSt) : (s.putTx n x).syncs = s.syncs := rfl
@[simp] theorem State.putTx_csiRx (s : State) (n : Nat) (x : CsiTxSt) : (s.putTx n x).csiRx = s.csiRx := rfl
@[simp] theorem State.putTx_windows (s : State) (n : Nat) (x : CsiTxSt) : (s.putTx n x).windows = s.windows := rfl

@[simp] theorem State.putCove_pending (s : State) (n : Nat) (x : CoveSt) : (s.putCove n x).pending = s.pending := rfl
@[simp] theorem State.putCove_regs (s : State) (n : Nat) (x : CoveSt) : (s.putCove n x).regs = s.regs := rfl
@[simp] theorem State.putCove_wordCaptures (s : State) (n : Nat) (x : CoveSt) : (s.putCove n x).wordCaptures = s.wordCaptures := rfl
@[simp] theorem State.putCove_flt (s : State) (n : Nat) (x : CoveSt) : (s.putCove n x).flt = s.flt := rfl
@[simp] theorem State.putCove_due (s : State) (n : Nat) (x : CoveSt) : (s.putCove n x).due = s.due := rfl
@[simp] theorem State.putCove_out (s : State) (n : Nat) (x : CoveSt) : (s.putCove n x).out = s.out := rfl
@[simp] theorem State.putCove_free (s : State) (n : Nat) (x : CoveSt) : (s.putCove n x).free = s.free := rfl
@[simp] theorem State.putCove_time (s : State) (n : Nat) (x : CoveSt) : (s.putCove n x).time = s.time := rfl
@[simp] theorem State.putCove_tide (s : State) (n : Nat) (x : CoveSt) : (s.putCove n x).tide = s.tide := rfl
@[simp] theorem State.putCove_commit (s : State) (n : Nat) (x : CoveSt) : (s.putCove n x).commit = s.commit := rfl
@[simp] theorem State.putCove_fault (s : State) (n : Nat) (x : CoveSt) : (s.putCove n x).fault = s.fault := rfl
@[simp] theorem State.putCove_beacon (s : State) (n : Nat) (x : CoveSt) : (s.putCove n x).beacon = s.beacon := rfl
@[simp] theorem State.putCove_power (s : State) (n : Nat) (x : CoveSt) : (s.putCove n x).power = s.power := rfl
@[simp] theorem State.putCove_boot (s : State) (n : Nat) (x : CoveSt) : (s.putCove n x).boot = s.boot := rfl
@[simp] theorem State.putCove_pins (s : State) (n : Nat) (x : CoveSt) : (s.putCove n x).pins = s.pins := rfl
@[simp] theorem State.putCove_macs (s : State) (n : Nat) (x : CoveSt) : (s.putCove n x).macs = s.macs := rfl
@[simp] theorem State.putCove_bridge (s : State) (n : Nat) (x : CoveSt) : (s.putCove n x).bridge = s.bridge := rfl
@[simp] theorem State.putCove_cores (s : State) (n : Nat) (x : CoveSt) : (s.putCove n x).cores = s.cores := rfl
@[simp] theorem State.putCove_harbours (s : State) (n : Nat) (x : CoveSt) : (s.putCove n x).harbours = s.harbours := rfl
@[simp] theorem State.putCove_channels (s : State) (n : Nat) (x : CoveSt) : (s.putCove n x).channels = s.channels := rfl
@[simp] theorem State.putCove_arbiters (s : State) (n : Nat) (x : CoveSt) : (s.putCove n x).arbiters = s.arbiters := rfl
@[simp] theorem State.putCove_pcie (s : State) (n : Nat) (x : CoveSt) : (s.putCove n x).pcie = s.pcie := rfl
@[simp] theorem State.putCove_light (s : State) (n : Nat) (x : CoveSt) : (s.putCove n x).light = s.light := rfl
@[simp] theorem State.putCove_frames (s : State) (n : Nat) (x : CoveSt) : (s.putCove n x).frames = s.frames := rfl
@[simp] theorem State.putCove_seawall (s : State) (n : Nat) (x : CoveSt) : (s.putCove n x).seawall = s.seawall := rfl
@[simp] theorem State.putCove_lanes (s : State) (n : Nat) (x : CoveSt) : (s.putCove n x).lanes = s.lanes := rfl
@[simp] theorem State.putCove_ports (s : State) (n : Nat) (x : CoveSt) : (s.putCove n x).ports = s.ports := rfl
@[simp] theorem State.putCove_streams (s : State) (n : Nat) (x : CoveSt) : (s.putCove n x).streams = s.streams := rfl
@[simp] theorem State.putCove_syncs (s : State) (n : Nat) (x : CoveSt) : (s.putCove n x).syncs = s.syncs := rfl
@[simp] theorem State.putCove_csiRx (s : State) (n : Nat) (x : CoveSt) : (s.putCove n x).csiRx = s.csiRx := rfl
@[simp] theorem State.putCove_csiTx (s : State) (n : Nat) (x : CoveSt) : (s.putCove n x).csiTx = s.csiTx := rfl
@[simp] theorem State.putCove_windows (s : State) (n : Nat) (x : CoveSt) : (s.putCove n x).windows = s.windows := rfl

@[simp] theorem State.putWindow_pending (s : State) (n : Nat) (x : JettySt) : (s.putWindow n x).pending = s.pending := rfl
@[simp] theorem State.putWindow_regs (s : State) (n : Nat) (x : JettySt) : (s.putWindow n x).regs = s.regs := rfl
@[simp] theorem State.putWindow_wordCaptures (s : State) (n : Nat) (x : JettySt) : (s.putWindow n x).wordCaptures = s.wordCaptures := rfl
@[simp] theorem State.putWindow_flt (s : State) (n : Nat) (x : JettySt) : (s.putWindow n x).flt = s.flt := rfl
@[simp] theorem State.putWindow_due (s : State) (n : Nat) (x : JettySt) : (s.putWindow n x).due = s.due := rfl
@[simp] theorem State.putWindow_out (s : State) (n : Nat) (x : JettySt) : (s.putWindow n x).out = s.out := rfl
@[simp] theorem State.putWindow_free (s : State) (n : Nat) (x : JettySt) : (s.putWindow n x).free = s.free := rfl
@[simp] theorem State.putWindow_time (s : State) (n : Nat) (x : JettySt) : (s.putWindow n x).time = s.time := rfl
@[simp] theorem State.putWindow_tide (s : State) (n : Nat) (x : JettySt) : (s.putWindow n x).tide = s.tide := rfl
@[simp] theorem State.putWindow_commit (s : State) (n : Nat) (x : JettySt) : (s.putWindow n x).commit = s.commit := rfl
@[simp] theorem State.putWindow_fault (s : State) (n : Nat) (x : JettySt) : (s.putWindow n x).fault = s.fault := rfl
@[simp] theorem State.putWindow_beacon (s : State) (n : Nat) (x : JettySt) : (s.putWindow n x).beacon = s.beacon := rfl
@[simp] theorem State.putWindow_power (s : State) (n : Nat) (x : JettySt) : (s.putWindow n x).power = s.power := rfl
@[simp] theorem State.putWindow_boot (s : State) (n : Nat) (x : JettySt) : (s.putWindow n x).boot = s.boot := rfl
@[simp] theorem State.putWindow_pins (s : State) (n : Nat) (x : JettySt) : (s.putWindow n x).pins = s.pins := rfl
@[simp] theorem State.putWindow_macs (s : State) (n : Nat) (x : JettySt) : (s.putWindow n x).macs = s.macs := rfl
@[simp] theorem State.putWindow_bridge (s : State) (n : Nat) (x : JettySt) : (s.putWindow n x).bridge = s.bridge := rfl
@[simp] theorem State.putWindow_cores (s : State) (n : Nat) (x : JettySt) : (s.putWindow n x).cores = s.cores := rfl
@[simp] theorem State.putWindow_harbours (s : State) (n : Nat) (x : JettySt) : (s.putWindow n x).harbours = s.harbours := rfl
@[simp] theorem State.putWindow_channels (s : State) (n : Nat) (x : JettySt) : (s.putWindow n x).channels = s.channels := rfl
@[simp] theorem State.putWindow_arbiters (s : State) (n : Nat) (x : JettySt) : (s.putWindow n x).arbiters = s.arbiters := rfl
@[simp] theorem State.putWindow_pcie (s : State) (n : Nat) (x : JettySt) : (s.putWindow n x).pcie = s.pcie := rfl
@[simp] theorem State.putWindow_light (s : State) (n : Nat) (x : JettySt) : (s.putWindow n x).light = s.light := rfl
@[simp] theorem State.putWindow_coves (s : State) (n : Nat) (x : JettySt) : (s.putWindow n x).coves = s.coves := rfl
@[simp] theorem State.putWindow_frames (s : State) (n : Nat) (x : JettySt) : (s.putWindow n x).frames = s.frames := rfl
@[simp] theorem State.putWindow_seawall (s : State) (n : Nat) (x : JettySt) : (s.putWindow n x).seawall = s.seawall := rfl
@[simp] theorem State.putWindow_lanes (s : State) (n : Nat) (x : JettySt) : (s.putWindow n x).lanes = s.lanes := rfl
@[simp] theorem State.putWindow_ports (s : State) (n : Nat) (x : JettySt) : (s.putWindow n x).ports = s.ports := rfl
@[simp] theorem State.putWindow_streams (s : State) (n : Nat) (x : JettySt) : (s.putWindow n x).streams = s.streams := rfl
@[simp] theorem State.putWindow_syncs (s : State) (n : Nat) (x : JettySt) : (s.putWindow n x).syncs = s.syncs := rfl
@[simp] theorem State.putWindow_csiRx (s : State) (n : Nat) (x : JettySt) : (s.putWindow n x).csiRx = s.csiRx := rfl
@[simp] theorem State.putWindow_csiTx (s : State) (n : Nat) (x : JettySt) : (s.putWindow n x).csiTx = s.csiTx := rfl

@[simp] theorem State.putStream_pending (s : State) (n : Nat) (x : StreamSt) : (s.putStream n x).pending = s.pending := rfl
@[simp] theorem State.putStream_regs (s : State) (n : Nat) (x : StreamSt) : (s.putStream n x).regs = s.regs := rfl
@[simp] theorem State.putStream_wordCaptures (s : State) (n : Nat) (x : StreamSt) : (s.putStream n x).wordCaptures = s.wordCaptures := rfl
@[simp] theorem State.putStream_flt (s : State) (n : Nat) (x : StreamSt) : (s.putStream n x).flt = s.flt := rfl
@[simp] theorem State.putStream_due (s : State) (n : Nat) (x : StreamSt) : (s.putStream n x).due = s.due := rfl
@[simp] theorem State.putStream_out (s : State) (n : Nat) (x : StreamSt) : (s.putStream n x).out = s.out := rfl
@[simp] theorem State.putStream_free (s : State) (n : Nat) (x : StreamSt) : (s.putStream n x).free = s.free := rfl
@[simp] theorem State.putStream_time (s : State) (n : Nat) (x : StreamSt) : (s.putStream n x).time = s.time := rfl
@[simp] theorem State.putStream_tide (s : State) (n : Nat) (x : StreamSt) : (s.putStream n x).tide = s.tide := rfl
@[simp] theorem State.putStream_commit (s : State) (n : Nat) (x : StreamSt) : (s.putStream n x).commit = s.commit := rfl
@[simp] theorem State.putStream_fault (s : State) (n : Nat) (x : StreamSt) : (s.putStream n x).fault = s.fault := rfl
@[simp] theorem State.putStream_beacon (s : State) (n : Nat) (x : StreamSt) : (s.putStream n x).beacon = s.beacon := rfl
@[simp] theorem State.putStream_power (s : State) (n : Nat) (x : StreamSt) : (s.putStream n x).power = s.power := rfl
@[simp] theorem State.putStream_boot (s : State) (n : Nat) (x : StreamSt) : (s.putStream n x).boot = s.boot := rfl
@[simp] theorem State.putStream_pins (s : State) (n : Nat) (x : StreamSt) : (s.putStream n x).pins = s.pins := rfl
@[simp] theorem State.putStream_macs (s : State) (n : Nat) (x : StreamSt) : (s.putStream n x).macs = s.macs := rfl
@[simp] theorem State.putStream_bridge (s : State) (n : Nat) (x : StreamSt) : (s.putStream n x).bridge = s.bridge := rfl
@[simp] theorem State.putStream_cores (s : State) (n : Nat) (x : StreamSt) : (s.putStream n x).cores = s.cores := rfl
@[simp] theorem State.putStream_harbours (s : State) (n : Nat) (x : StreamSt) : (s.putStream n x).harbours = s.harbours := rfl
@[simp] theorem State.putStream_channels (s : State) (n : Nat) (x : StreamSt) : (s.putStream n x).channels = s.channels := rfl
@[simp] theorem State.putStream_arbiters (s : State) (n : Nat) (x : StreamSt) : (s.putStream n x).arbiters = s.arbiters := rfl
@[simp] theorem State.putStream_pcie (s : State) (n : Nat) (x : StreamSt) : (s.putStream n x).pcie = s.pcie := rfl
@[simp] theorem State.putStream_light (s : State) (n : Nat) (x : StreamSt) : (s.putStream n x).light = s.light := rfl
@[simp] theorem State.putStream_coves (s : State) (n : Nat) (x : StreamSt) : (s.putStream n x).coves = s.coves := rfl
@[simp] theorem State.putStream_frames (s : State) (n : Nat) (x : StreamSt) : (s.putStream n x).frames = s.frames := rfl
@[simp] theorem State.putStream_seawall (s : State) (n : Nat) (x : StreamSt) : (s.putStream n x).seawall = s.seawall := rfl
@[simp] theorem State.putStream_lanes (s : State) (n : Nat) (x : StreamSt) : (s.putStream n x).lanes = s.lanes := rfl
@[simp] theorem State.putStream_ports (s : State) (n : Nat) (x : StreamSt) : (s.putStream n x).ports = s.ports := rfl
@[simp] theorem State.putStream_syncs (s : State) (n : Nat) (x : StreamSt) : (s.putStream n x).syncs = s.syncs := rfl
@[simp] theorem State.putStream_csiRx (s : State) (n : Nat) (x : StreamSt) : (s.putStream n x).csiRx = s.csiRx := rfl
@[simp] theorem State.putStream_csiTx (s : State) (n : Nat) (x : StreamSt) : (s.putStream n x).csiTx = s.csiTx := rfl
@[simp] theorem State.putStream_windows (s : State) (n : Nat) (x : StreamSt) : (s.putStream n x).windows = s.windows := rfl

@[simp] theorem State.putSrc_pending (s : State) (n : Nat) (x : BeaconSrc) : (s.putSrc n x).pending = s.pending := rfl
@[simp] theorem State.putSrc_regs (s : State) (n : Nat) (x : BeaconSrc) : (s.putSrc n x).regs = s.regs := rfl
@[simp] theorem State.putSrc_wordCaptures (s : State) (n : Nat) (x : BeaconSrc) : (s.putSrc n x).wordCaptures = s.wordCaptures := rfl
@[simp] theorem State.putSrc_flt (s : State) (n : Nat) (x : BeaconSrc) : (s.putSrc n x).flt = s.flt := rfl
@[simp] theorem State.putSrc_due (s : State) (n : Nat) (x : BeaconSrc) : (s.putSrc n x).due = s.due := rfl
@[simp] theorem State.putSrc_out (s : State) (n : Nat) (x : BeaconSrc) : (s.putSrc n x).out = s.out := rfl
@[simp] theorem State.putSrc_free (s : State) (n : Nat) (x : BeaconSrc) : (s.putSrc n x).free = s.free := rfl
@[simp] theorem State.putSrc_time (s : State) (n : Nat) (x : BeaconSrc) : (s.putSrc n x).time = s.time := rfl
@[simp] theorem State.putSrc_tide (s : State) (n : Nat) (x : BeaconSrc) : (s.putSrc n x).tide = s.tide := rfl
@[simp] theorem State.putSrc_commit (s : State) (n : Nat) (x : BeaconSrc) : (s.putSrc n x).commit = s.commit := rfl
@[simp] theorem State.putSrc_fault (s : State) (n : Nat) (x : BeaconSrc) : (s.putSrc n x).fault = s.fault := rfl
@[simp] theorem State.putSrc_power (s : State) (n : Nat) (x : BeaconSrc) : (s.putSrc n x).power = s.power := rfl
@[simp] theorem State.putSrc_boot (s : State) (n : Nat) (x : BeaconSrc) : (s.putSrc n x).boot = s.boot := rfl
@[simp] theorem State.putSrc_pins (s : State) (n : Nat) (x : BeaconSrc) : (s.putSrc n x).pins = s.pins := rfl
@[simp] theorem State.putSrc_macs (s : State) (n : Nat) (x : BeaconSrc) : (s.putSrc n x).macs = s.macs := rfl
@[simp] theorem State.putSrc_bridge (s : State) (n : Nat) (x : BeaconSrc) : (s.putSrc n x).bridge = s.bridge := rfl
@[simp] theorem State.putSrc_cores (s : State) (n : Nat) (x : BeaconSrc) : (s.putSrc n x).cores = s.cores := rfl
@[simp] theorem State.putSrc_harbours (s : State) (n : Nat) (x : BeaconSrc) : (s.putSrc n x).harbours = s.harbours := rfl
@[simp] theorem State.putSrc_channels (s : State) (n : Nat) (x : BeaconSrc) : (s.putSrc n x).channels = s.channels := rfl
@[simp] theorem State.putSrc_arbiters (s : State) (n : Nat) (x : BeaconSrc) : (s.putSrc n x).arbiters = s.arbiters := rfl
@[simp] theorem State.putSrc_pcie (s : State) (n : Nat) (x : BeaconSrc) : (s.putSrc n x).pcie = s.pcie := rfl
@[simp] theorem State.putSrc_light (s : State) (n : Nat) (x : BeaconSrc) : (s.putSrc n x).light = s.light := rfl
@[simp] theorem State.putSrc_coves (s : State) (n : Nat) (x : BeaconSrc) : (s.putSrc n x).coves = s.coves := rfl
@[simp] theorem State.putSrc_frames (s : State) (n : Nat) (x : BeaconSrc) : (s.putSrc n x).frames = s.frames := rfl
@[simp] theorem State.putSrc_seawall (s : State) (n : Nat) (x : BeaconSrc) : (s.putSrc n x).seawall = s.seawall := rfl
@[simp] theorem State.putSrc_lanes (s : State) (n : Nat) (x : BeaconSrc) : (s.putSrc n x).lanes = s.lanes := rfl
@[simp] theorem State.putSrc_ports (s : State) (n : Nat) (x : BeaconSrc) : (s.putSrc n x).ports = s.ports := rfl
@[simp] theorem State.putSrc_streams (s : State) (n : Nat) (x : BeaconSrc) : (s.putSrc n x).streams = s.streams := rfl
@[simp] theorem State.putSrc_syncs (s : State) (n : Nat) (x : BeaconSrc) : (s.putSrc n x).syncs = s.syncs := rfl
@[simp] theorem State.putSrc_csiRx (s : State) (n : Nat) (x : BeaconSrc) : (s.putSrc n x).csiRx = s.csiRx := rfl
@[simp] theorem State.putSrc_csiTx (s : State) (n : Nat) (x : BeaconSrc) : (s.putSrc n x).csiTx = s.csiTx := rfl
@[simp] theorem State.putSrc_windows (s : State) (n : Nat) (x : BeaconSrc) : (s.putSrc n x).windows = s.windows := rfl

@[simp] theorem State.putSlot_pending (s : State) (n : Nat) (x : StreamSlot) : (s.putSlot n x).pending = s.pending := rfl
@[simp] theorem State.putSlot_regs (s : State) (n : Nat) (x : StreamSlot) : (s.putSlot n x).regs = s.regs := rfl
@[simp] theorem State.putSlot_wordCaptures (s : State) (n : Nat) (x : StreamSlot) : (s.putSlot n x).wordCaptures = s.wordCaptures := rfl
@[simp] theorem State.putSlot_flt (s : State) (n : Nat) (x : StreamSlot) : (s.putSlot n x).flt = s.flt := rfl
@[simp] theorem State.putSlot_due (s : State) (n : Nat) (x : StreamSlot) : (s.putSlot n x).due = s.due := rfl
@[simp] theorem State.putSlot_out (s : State) (n : Nat) (x : StreamSlot) : (s.putSlot n x).out = s.out := rfl
@[simp] theorem State.putSlot_free (s : State) (n : Nat) (x : StreamSlot) : (s.putSlot n x).free = s.free := rfl
@[simp] theorem State.putSlot_time (s : State) (n : Nat) (x : StreamSlot) : (s.putSlot n x).time = s.time := rfl
@[simp] theorem State.putSlot_tide (s : State) (n : Nat) (x : StreamSlot) : (s.putSlot n x).tide = s.tide := rfl
@[simp] theorem State.putSlot_commit (s : State) (n : Nat) (x : StreamSlot) : (s.putSlot n x).commit = s.commit := rfl
@[simp] theorem State.putSlot_fault (s : State) (n : Nat) (x : StreamSlot) : (s.putSlot n x).fault = s.fault := rfl
@[simp] theorem State.putSlot_beacon (s : State) (n : Nat) (x : StreamSlot) : (s.putSlot n x).beacon = s.beacon := rfl
@[simp] theorem State.putSlot_power (s : State) (n : Nat) (x : StreamSlot) : (s.putSlot n x).power = s.power := rfl
@[simp] theorem State.putSlot_boot (s : State) (n : Nat) (x : StreamSlot) : (s.putSlot n x).boot = s.boot := rfl
@[simp] theorem State.putSlot_pins (s : State) (n : Nat) (x : StreamSlot) : (s.putSlot n x).pins = s.pins := rfl
@[simp] theorem State.putSlot_macs (s : State) (n : Nat) (x : StreamSlot) : (s.putSlot n x).macs = s.macs := rfl
@[simp] theorem State.putSlot_cores (s : State) (n : Nat) (x : StreamSlot) : (s.putSlot n x).cores = s.cores := rfl
@[simp] theorem State.putSlot_harbours (s : State) (n : Nat) (x : StreamSlot) : (s.putSlot n x).harbours = s.harbours := rfl
@[simp] theorem State.putSlot_channels (s : State) (n : Nat) (x : StreamSlot) : (s.putSlot n x).channels = s.channels := rfl
@[simp] theorem State.putSlot_arbiters (s : State) (n : Nat) (x : StreamSlot) : (s.putSlot n x).arbiters = s.arbiters := rfl
@[simp] theorem State.putSlot_pcie (s : State) (n : Nat) (x : StreamSlot) : (s.putSlot n x).pcie = s.pcie := rfl
@[simp] theorem State.putSlot_light (s : State) (n : Nat) (x : StreamSlot) : (s.putSlot n x).light = s.light := rfl
@[simp] theorem State.putSlot_coves (s : State) (n : Nat) (x : StreamSlot) : (s.putSlot n x).coves = s.coves := rfl
@[simp] theorem State.putSlot_frames (s : State) (n : Nat) (x : StreamSlot) : (s.putSlot n x).frames = s.frames := rfl
@[simp] theorem State.putSlot_seawall (s : State) (n : Nat) (x : StreamSlot) : (s.putSlot n x).seawall = s.seawall := rfl
@[simp] theorem State.putSlot_lanes (s : State) (n : Nat) (x : StreamSlot) : (s.putSlot n x).lanes = s.lanes := rfl
@[simp] theorem State.putSlot_ports (s : State) (n : Nat) (x : StreamSlot) : (s.putSlot n x).ports = s.ports := rfl
@[simp] theorem State.putSlot_streams (s : State) (n : Nat) (x : StreamSlot) : (s.putSlot n x).streams = s.streams := rfl
@[simp] theorem State.putSlot_syncs (s : State) (n : Nat) (x : StreamSlot) : (s.putSlot n x).syncs = s.syncs := rfl
@[simp] theorem State.putSlot_csiRx (s : State) (n : Nat) (x : StreamSlot) : (s.putSlot n x).csiRx = s.csiRx := rfl
@[simp] theorem State.putSlot_csiTx (s : State) (n : Nat) (x : StreamSlot) : (s.putSlot n x).csiTx = s.csiTx := rfl
@[simp] theorem State.putSlot_windows (s : State) (n : Nat) (x : StreamSlot) : (s.putSlot n x).windows = s.windows := rfl

@[simp] theorem State.putFdb_pending (s : State) (n : Nat) (x : FdbEntry) : (s.putFdb n x).pending = s.pending := rfl
@[simp] theorem State.putFdb_regs (s : State) (n : Nat) (x : FdbEntry) : (s.putFdb n x).regs = s.regs := rfl
@[simp] theorem State.putFdb_wordCaptures (s : State) (n : Nat) (x : FdbEntry) : (s.putFdb n x).wordCaptures = s.wordCaptures := rfl
@[simp] theorem State.putFdb_flt (s : State) (n : Nat) (x : FdbEntry) : (s.putFdb n x).flt = s.flt := rfl
@[simp] theorem State.putFdb_due (s : State) (n : Nat) (x : FdbEntry) : (s.putFdb n x).due = s.due := rfl
@[simp] theorem State.putFdb_out (s : State) (n : Nat) (x : FdbEntry) : (s.putFdb n x).out = s.out := rfl
@[simp] theorem State.putFdb_free (s : State) (n : Nat) (x : FdbEntry) : (s.putFdb n x).free = s.free := rfl
@[simp] theorem State.putFdb_time (s : State) (n : Nat) (x : FdbEntry) : (s.putFdb n x).time = s.time := rfl
@[simp] theorem State.putFdb_tide (s : State) (n : Nat) (x : FdbEntry) : (s.putFdb n x).tide = s.tide := rfl
@[simp] theorem State.putFdb_commit (s : State) (n : Nat) (x : FdbEntry) : (s.putFdb n x).commit = s.commit := rfl
@[simp] theorem State.putFdb_fault (s : State) (n : Nat) (x : FdbEntry) : (s.putFdb n x).fault = s.fault := rfl
@[simp] theorem State.putFdb_beacon (s : State) (n : Nat) (x : FdbEntry) : (s.putFdb n x).beacon = s.beacon := rfl
@[simp] theorem State.putFdb_power (s : State) (n : Nat) (x : FdbEntry) : (s.putFdb n x).power = s.power := rfl
@[simp] theorem State.putFdb_boot (s : State) (n : Nat) (x : FdbEntry) : (s.putFdb n x).boot = s.boot := rfl
@[simp] theorem State.putFdb_pins (s : State) (n : Nat) (x : FdbEntry) : (s.putFdb n x).pins = s.pins := rfl
@[simp] theorem State.putFdb_macs (s : State) (n : Nat) (x : FdbEntry) : (s.putFdb n x).macs = s.macs := rfl
@[simp] theorem State.putFdb_cores (s : State) (n : Nat) (x : FdbEntry) : (s.putFdb n x).cores = s.cores := rfl
@[simp] theorem State.putFdb_harbours (s : State) (n : Nat) (x : FdbEntry) : (s.putFdb n x).harbours = s.harbours := rfl
@[simp] theorem State.putFdb_channels (s : State) (n : Nat) (x : FdbEntry) : (s.putFdb n x).channels = s.channels := rfl
@[simp] theorem State.putFdb_arbiters (s : State) (n : Nat) (x : FdbEntry) : (s.putFdb n x).arbiters = s.arbiters := rfl
@[simp] theorem State.putFdb_pcie (s : State) (n : Nat) (x : FdbEntry) : (s.putFdb n x).pcie = s.pcie := rfl
@[simp] theorem State.putFdb_light (s : State) (n : Nat) (x : FdbEntry) : (s.putFdb n x).light = s.light := rfl
@[simp] theorem State.putFdb_coves (s : State) (n : Nat) (x : FdbEntry) : (s.putFdb n x).coves = s.coves := rfl
@[simp] theorem State.putFdb_frames (s : State) (n : Nat) (x : FdbEntry) : (s.putFdb n x).frames = s.frames := rfl
@[simp] theorem State.putFdb_seawall (s : State) (n : Nat) (x : FdbEntry) : (s.putFdb n x).seawall = s.seawall := rfl
@[simp] theorem State.putFdb_lanes (s : State) (n : Nat) (x : FdbEntry) : (s.putFdb n x).lanes = s.lanes := rfl
@[simp] theorem State.putFdb_ports (s : State) (n : Nat) (x : FdbEntry) : (s.putFdb n x).ports = s.ports := rfl
@[simp] theorem State.putFdb_streams (s : State) (n : Nat) (x : FdbEntry) : (s.putFdb n x).streams = s.streams := rfl
@[simp] theorem State.putFdb_syncs (s : State) (n : Nat) (x : FdbEntry) : (s.putFdb n x).syncs = s.syncs := rfl
@[simp] theorem State.putFdb_csiRx (s : State) (n : Nat) (x : FdbEntry) : (s.putFdb n x).csiRx = s.csiRx := rfl
@[simp] theorem State.putFdb_csiTx (s : State) (n : Nat) (x : FdbEntry) : (s.putFdb n x).csiTx = s.csiTx := rfl
@[simp] theorem State.putFdb_windows (s : State) (n : Nat) (x : FdbEntry) : (s.putFdb n x).windows = s.windows := rfl

@[simp] theorem State.eventIf_pending (s : State) (c : Bool) (pg b : Nat) : (s.eventIf c pg b).pending = s.pending := by unfold State.eventIf; split <;> rfl
@[simp] theorem State.eventIf_wordCaptures (s : State) (c : Bool) (pg b : Nat) : (s.eventIf c pg b).wordCaptures = s.wordCaptures := by unfold State.eventIf; split <;> rfl
@[simp] theorem State.eventIf_flt (s : State) (c : Bool) (pg b : Nat) : (s.eventIf c pg b).flt = s.flt := by unfold State.eventIf; split <;> rfl
@[simp] theorem State.eventIf_due (s : State) (c : Bool) (pg b : Nat) : (s.eventIf c pg b).due = s.due := by unfold State.eventIf; split <;> rfl
@[simp] theorem State.eventIf_out (s : State) (c : Bool) (pg b : Nat) : (s.eventIf c pg b).out = s.out := by unfold State.eventIf; split <;> rfl
@[simp] theorem State.eventIf_free (s : State) (c : Bool) (pg b : Nat) : (s.eventIf c pg b).free = s.free := by unfold State.eventIf; split <;> rfl
@[simp] theorem State.eventIf_time (s : State) (c : Bool) (pg b : Nat) : (s.eventIf c pg b).time = s.time := by unfold State.eventIf; split <;> rfl
@[simp] theorem State.eventIf_tide (s : State) (c : Bool) (pg b : Nat) : (s.eventIf c pg b).tide = s.tide := by unfold State.eventIf; split <;> rfl
@[simp] theorem State.eventIf_commit (s : State) (c : Bool) (pg b : Nat) : (s.eventIf c pg b).commit = s.commit := by unfold State.eventIf; split <;> rfl
@[simp] theorem State.eventIf_fault (s : State) (c : Bool) (pg b : Nat) : (s.eventIf c pg b).fault = s.fault := by unfold State.eventIf; split <;> rfl
@[simp] theorem State.eventIf_beacon (s : State) (c : Bool) (pg b : Nat) : (s.eventIf c pg b).beacon = s.beacon := by unfold State.eventIf; split <;> rfl
@[simp] theorem State.eventIf_power (s : State) (c : Bool) (pg b : Nat) : (s.eventIf c pg b).power = s.power := by unfold State.eventIf; split <;> rfl
@[simp] theorem State.eventIf_boot (s : State) (c : Bool) (pg b : Nat) : (s.eventIf c pg b).boot = s.boot := by unfold State.eventIf; split <;> rfl
@[simp] theorem State.eventIf_pins (s : State) (c : Bool) (pg b : Nat) : (s.eventIf c pg b).pins = s.pins := by unfold State.eventIf; split <;> rfl
@[simp] theorem State.eventIf_macs (s : State) (c : Bool) (pg b : Nat) : (s.eventIf c pg b).macs = s.macs := by unfold State.eventIf; split <;> rfl
@[simp] theorem State.eventIf_bridge (s : State) (c : Bool) (pg b : Nat) : (s.eventIf c pg b).bridge = s.bridge := by unfold State.eventIf; split <;> rfl
@[simp] theorem State.eventIf_cores (s : State) (c : Bool) (pg b : Nat) : (s.eventIf c pg b).cores = s.cores := by unfold State.eventIf; split <;> rfl
@[simp] theorem State.eventIf_harbours (s : State) (c : Bool) (pg b : Nat) : (s.eventIf c pg b).harbours = s.harbours := by unfold State.eventIf; split <;> rfl
@[simp] theorem State.eventIf_channels (s : State) (c : Bool) (pg b : Nat) : (s.eventIf c pg b).channels = s.channels := by unfold State.eventIf; split <;> rfl
@[simp] theorem State.eventIf_arbiters (s : State) (c : Bool) (pg b : Nat) : (s.eventIf c pg b).arbiters = s.arbiters := by unfold State.eventIf; split <;> rfl
@[simp] theorem State.eventIf_pcie (s : State) (c : Bool) (pg b : Nat) : (s.eventIf c pg b).pcie = s.pcie := by unfold State.eventIf; split <;> rfl
@[simp] theorem State.eventIf_light (s : State) (c : Bool) (pg b : Nat) : (s.eventIf c pg b).light = s.light := by unfold State.eventIf; split <;> rfl
@[simp] theorem State.eventIf_coves (s : State) (c : Bool) (pg b : Nat) : (s.eventIf c pg b).coves = s.coves := by unfold State.eventIf; split <;> rfl
@[simp] theorem State.eventIf_frames (s : State) (c : Bool) (pg b : Nat) : (s.eventIf c pg b).frames = s.frames := by unfold State.eventIf; split <;> rfl
@[simp] theorem State.eventIf_seawall (s : State) (c : Bool) (pg b : Nat) : (s.eventIf c pg b).seawall = s.seawall := by unfold State.eventIf; split <;> rfl
@[simp] theorem State.eventIf_lanes (s : State) (c : Bool) (pg b : Nat) : (s.eventIf c pg b).lanes = s.lanes := by unfold State.eventIf; split <;> rfl
@[simp] theorem State.eventIf_ports (s : State) (c : Bool) (pg b : Nat) : (s.eventIf c pg b).ports = s.ports := by unfold State.eventIf; split <;> rfl
@[simp] theorem State.eventIf_streams (s : State) (c : Bool) (pg b : Nat) : (s.eventIf c pg b).streams = s.streams := by unfold State.eventIf; split <;> rfl
@[simp] theorem State.eventIf_syncs (s : State) (c : Bool) (pg b : Nat) : (s.eventIf c pg b).syncs = s.syncs := by unfold State.eventIf; split <;> rfl
@[simp] theorem State.eventIf_csiRx (s : State) (c : Bool) (pg b : Nat) : (s.eventIf c pg b).csiRx = s.csiRx := by unfold State.eventIf; split <;> rfl
@[simp] theorem State.eventIf_csiTx (s : State) (c : Bool) (pg b : Nat) : (s.eventIf c pg b).csiTx = s.csiTx := by unfold State.eventIf; split <;> rfl
@[simp] theorem State.eventIf_windows (s : State) (c : Bool) (pg b : Nat) : (s.eventIf c pg b).windows = s.windows := by unfold State.eventIf; split <;> rfl

@[simp] theorem State.raise_pending (s : State) (pg b : Nat) : (s.raise pg b).pending = s.pending := by unfold State.raise; split <;> rfl
@[simp] theorem State.raise_wordCaptures (s : State) (pg b : Nat) : (s.raise pg b).wordCaptures = s.wordCaptures := by unfold State.raise; split <;> rfl
@[simp] theorem State.raise_out (s : State) (pg b : Nat) : (s.raise pg b).out = s.out := by unfold State.raise; split <;> rfl
@[simp] theorem State.raise_free (s : State) (pg b : Nat) : (s.raise pg b).free = s.free := by unfold State.raise; split <;> rfl
@[simp] theorem State.raise_time (s : State) (pg b : Nat) : (s.raise pg b).time = s.time := by unfold State.raise; split <;> rfl
@[simp] theorem State.raise_tide (s : State) (pg b : Nat) : (s.raise pg b).tide = s.tide := by unfold State.raise; split <;> rfl
@[simp] theorem State.raise_commit (s : State) (pg b : Nat) : (s.raise pg b).commit = s.commit := by unfold State.raise; split <;> rfl
@[simp] theorem State.raise_fault (s : State) (pg b : Nat) : (s.raise pg b).fault = s.fault := by unfold State.raise; split <;> rfl
@[simp] theorem State.raise_beacon (s : State) (pg b : Nat) : (s.raise pg b).beacon = s.beacon := by unfold State.raise; split <;> rfl
@[simp] theorem State.raise_power (s : State) (pg b : Nat) : (s.raise pg b).power = s.power := by unfold State.raise; split <;> rfl
@[simp] theorem State.raise_boot (s : State) (pg b : Nat) : (s.raise pg b).boot = s.boot := by unfold State.raise; split <;> rfl
@[simp] theorem State.raise_pins (s : State) (pg b : Nat) : (s.raise pg b).pins = s.pins := by unfold State.raise; split <;> rfl
@[simp] theorem State.raise_macs (s : State) (pg b : Nat) : (s.raise pg b).macs = s.macs := by unfold State.raise; split <;> rfl
@[simp] theorem State.raise_bridge (s : State) (pg b : Nat) : (s.raise pg b).bridge = s.bridge := by unfold State.raise; split <;> rfl
@[simp] theorem State.raise_cores (s : State) (pg b : Nat) : (s.raise pg b).cores = s.cores := by unfold State.raise; split <;> rfl
@[simp] theorem State.raise_harbours (s : State) (pg b : Nat) : (s.raise pg b).harbours = s.harbours := by unfold State.raise; split <;> rfl
@[simp] theorem State.raise_channels (s : State) (pg b : Nat) : (s.raise pg b).channels = s.channels := by unfold State.raise; split <;> rfl
@[simp] theorem State.raise_arbiters (s : State) (pg b : Nat) : (s.raise pg b).arbiters = s.arbiters := by unfold State.raise; split <;> rfl
@[simp] theorem State.raise_pcie (s : State) (pg b : Nat) : (s.raise pg b).pcie = s.pcie := by unfold State.raise; split <;> rfl
@[simp] theorem State.raise_light (s : State) (pg b : Nat) : (s.raise pg b).light = s.light := by unfold State.raise; split <;> rfl
@[simp] theorem State.raise_coves (s : State) (pg b : Nat) : (s.raise pg b).coves = s.coves := by unfold State.raise; split <;> rfl
@[simp] theorem State.raise_frames (s : State) (pg b : Nat) : (s.raise pg b).frames = s.frames := by unfold State.raise; split <;> rfl
@[simp] theorem State.raise_seawall (s : State) (pg b : Nat) : (s.raise pg b).seawall = s.seawall := by unfold State.raise; split <;> rfl
@[simp] theorem State.raise_lanes (s : State) (pg b : Nat) : (s.raise pg b).lanes = s.lanes := by unfold State.raise; split <;> rfl
@[simp] theorem State.raise_ports (s : State) (pg b : Nat) : (s.raise pg b).ports = s.ports := by unfold State.raise; split <;> rfl
@[simp] theorem State.raise_streams (s : State) (pg b : Nat) : (s.raise pg b).streams = s.streams := by unfold State.raise; split <;> rfl
@[simp] theorem State.raise_syncs (s : State) (pg b : Nat) : (s.raise pg b).syncs = s.syncs := by unfold State.raise; split <;> rfl
@[simp] theorem State.raise_csiRx (s : State) (pg b : Nat) : (s.raise pg b).csiRx = s.csiRx := by unfold State.raise; split <;> rfl
@[simp] theorem State.raise_csiTx (s : State) (pg b : Nat) : (s.raise pg b).csiTx = s.csiTx := by unfold State.raise; split <;> rfl
@[simp] theorem State.raise_windows (s : State) (pg b : Nat) : (s.raise pg b).windows = s.windows := by unfold State.raise; split <;> rfl

@[simp] theorem State.lower_pending (s : State) (pg b : Nat) : (s.lower pg b).pending = s.pending := by simp only [State.lower]; split <;> (try split) <;> rfl
@[simp] theorem State.lower_wordCaptures (s : State) (pg b : Nat) : (s.lower pg b).wordCaptures = s.wordCaptures := by simp only [State.lower]; split <;> (try split) <;> rfl
@[simp] theorem State.lower_due (s : State) (pg b : Nat) : (s.lower pg b).due = s.due := by simp only [State.lower]; split <;> (try split) <;> rfl
@[simp] theorem State.lower_out (s : State) (pg b : Nat) : (s.lower pg b).out = s.out := by simp only [State.lower]; split <;> (try split) <;> rfl
@[simp] theorem State.lower_free (s : State) (pg b : Nat) : (s.lower pg b).free = s.free := by simp only [State.lower]; split <;> (try split) <;> rfl
@[simp] theorem State.lower_time (s : State) (pg b : Nat) : (s.lower pg b).time = s.time := by simp only [State.lower]; split <;> (try split) <;> rfl
@[simp] theorem State.lower_tide (s : State) (pg b : Nat) : (s.lower pg b).tide = s.tide := by simp only [State.lower]; split <;> (try split) <;> rfl
@[simp] theorem State.lower_commit (s : State) (pg b : Nat) : (s.lower pg b).commit = s.commit := by simp only [State.lower]; split <;> (try split) <;> rfl
@[simp] theorem State.lower_fault (s : State) (pg b : Nat) : (s.lower pg b).fault = s.fault := by simp only [State.lower]; split <;> (try split) <;> rfl
@[simp] theorem State.lower_beacon (s : State) (pg b : Nat) : (s.lower pg b).beacon = s.beacon := by simp only [State.lower]; split <;> (try split) <;> rfl
@[simp] theorem State.lower_power (s : State) (pg b : Nat) : (s.lower pg b).power = s.power := by simp only [State.lower]; split <;> (try split) <;> rfl
@[simp] theorem State.lower_boot (s : State) (pg b : Nat) : (s.lower pg b).boot = s.boot := by simp only [State.lower]; split <;> (try split) <;> rfl
@[simp] theorem State.lower_pins (s : State) (pg b : Nat) : (s.lower pg b).pins = s.pins := by simp only [State.lower]; split <;> (try split) <;> rfl
@[simp] theorem State.lower_macs (s : State) (pg b : Nat) : (s.lower pg b).macs = s.macs := by simp only [State.lower]; split <;> (try split) <;> rfl
@[simp] theorem State.lower_bridge (s : State) (pg b : Nat) : (s.lower pg b).bridge = s.bridge := by simp only [State.lower]; split <;> (try split) <;> rfl
@[simp] theorem State.lower_cores (s : State) (pg b : Nat) : (s.lower pg b).cores = s.cores := by simp only [State.lower]; split <;> (try split) <;> rfl
@[simp] theorem State.lower_harbours (s : State) (pg b : Nat) : (s.lower pg b).harbours = s.harbours := by simp only [State.lower]; split <;> (try split) <;> rfl
@[simp] theorem State.lower_channels (s : State) (pg b : Nat) : (s.lower pg b).channels = s.channels := by simp only [State.lower]; split <;> (try split) <;> rfl
@[simp] theorem State.lower_arbiters (s : State) (pg b : Nat) : (s.lower pg b).arbiters = s.arbiters := by simp only [State.lower]; split <;> (try split) <;> rfl
@[simp] theorem State.lower_pcie (s : State) (pg b : Nat) : (s.lower pg b).pcie = s.pcie := by simp only [State.lower]; split <;> (try split) <;> rfl
@[simp] theorem State.lower_light (s : State) (pg b : Nat) : (s.lower pg b).light = s.light := by simp only [State.lower]; split <;> (try split) <;> rfl
@[simp] theorem State.lower_coves (s : State) (pg b : Nat) : (s.lower pg b).coves = s.coves := by simp only [State.lower]; split <;> (try split) <;> rfl
@[simp] theorem State.lower_frames (s : State) (pg b : Nat) : (s.lower pg b).frames = s.frames := by simp only [State.lower]; split <;> (try split) <;> rfl
@[simp] theorem State.lower_seawall (s : State) (pg b : Nat) : (s.lower pg b).seawall = s.seawall := by simp only [State.lower]; split <;> (try split) <;> rfl
@[simp] theorem State.lower_lanes (s : State) (pg b : Nat) : (s.lower pg b).lanes = s.lanes := by simp only [State.lower]; split <;> (try split) <;> rfl
@[simp] theorem State.lower_ports (s : State) (pg b : Nat) : (s.lower pg b).ports = s.ports := by simp only [State.lower]; split <;> (try split) <;> rfl
@[simp] theorem State.lower_streams (s : State) (pg b : Nat) : (s.lower pg b).streams = s.streams := by simp only [State.lower]; split <;> (try split) <;> rfl
@[simp] theorem State.lower_syncs (s : State) (pg b : Nat) : (s.lower pg b).syncs = s.syncs := by simp only [State.lower]; split <;> (try split) <;> rfl
@[simp] theorem State.lower_csiRx (s : State) (pg b : Nat) : (s.lower pg b).csiRx = s.csiRx := by simp only [State.lower]; split <;> (try split) <;> rfl
@[simp] theorem State.lower_csiTx (s : State) (pg b : Nat) : (s.lower pg b).csiTx = s.csiTx := by simp only [State.lower]; split <;> (try split) <;> rfl
@[simp] theorem State.lower_windows (s : State) (pg b : Nat) : (s.lower pg b).windows = s.windows := by simp only [State.lower]; split <;> (try split) <;> rfl

@[simp] theorem State.cond_pending (s : State) (pg b : Nat) (p : Bool) : (s.cond pg b p).pending = s.pending := by cases p <;> simp [State.cond]
@[simp] theorem State.cond_wordCaptures (s : State) (pg b : Nat) (p : Bool) : (s.cond pg b p).wordCaptures = s.wordCaptures := by cases p <;> simp [State.cond]
@[simp] theorem State.cond_out (s : State) (pg b : Nat) (p : Bool) : (s.cond pg b p).out = s.out := by cases p <;> simp [State.cond]
@[simp] theorem State.cond_free (s : State) (pg b : Nat) (p : Bool) : (s.cond pg b p).free = s.free := by cases p <;> simp [State.cond]
@[simp] theorem State.cond_time (s : State) (pg b : Nat) (p : Bool) : (s.cond pg b p).time = s.time := by cases p <;> simp [State.cond]
@[simp] theorem State.cond_tide (s : State) (pg b : Nat) (p : Bool) : (s.cond pg b p).tide = s.tide := by cases p <;> simp [State.cond]
@[simp] theorem State.cond_commit (s : State) (pg b : Nat) (p : Bool) : (s.cond pg b p).commit = s.commit := by cases p <;> simp [State.cond]
@[simp] theorem State.cond_fault (s : State) (pg b : Nat) (p : Bool) : (s.cond pg b p).fault = s.fault := by cases p <;> simp [State.cond]
@[simp] theorem State.cond_beacon (s : State) (pg b : Nat) (p : Bool) : (s.cond pg b p).beacon = s.beacon := by cases p <;> simp [State.cond]
@[simp] theorem State.cond_power (s : State) (pg b : Nat) (p : Bool) : (s.cond pg b p).power = s.power := by cases p <;> simp [State.cond]
@[simp] theorem State.cond_boot (s : State) (pg b : Nat) (p : Bool) : (s.cond pg b p).boot = s.boot := by cases p <;> simp [State.cond]
@[simp] theorem State.cond_pins (s : State) (pg b : Nat) (p : Bool) : (s.cond pg b p).pins = s.pins := by cases p <;> simp [State.cond]
@[simp] theorem State.cond_macs (s : State) (pg b : Nat) (p : Bool) : (s.cond pg b p).macs = s.macs := by cases p <;> simp [State.cond]
@[simp] theorem State.cond_bridge (s : State) (pg b : Nat) (p : Bool) : (s.cond pg b p).bridge = s.bridge := by cases p <;> simp [State.cond]
@[simp] theorem State.cond_cores (s : State) (pg b : Nat) (p : Bool) : (s.cond pg b p).cores = s.cores := by cases p <;> simp [State.cond]
@[simp] theorem State.cond_harbours (s : State) (pg b : Nat) (p : Bool) : (s.cond pg b p).harbours = s.harbours := by cases p <;> simp [State.cond]
@[simp] theorem State.cond_channels (s : State) (pg b : Nat) (p : Bool) : (s.cond pg b p).channels = s.channels := by cases p <;> simp [State.cond]
@[simp] theorem State.cond_arbiters (s : State) (pg b : Nat) (p : Bool) : (s.cond pg b p).arbiters = s.arbiters := by cases p <;> simp [State.cond]
@[simp] theorem State.cond_pcie (s : State) (pg b : Nat) (p : Bool) : (s.cond pg b p).pcie = s.pcie := by cases p <;> simp [State.cond]
@[simp] theorem State.cond_light (s : State) (pg b : Nat) (p : Bool) : (s.cond pg b p).light = s.light := by cases p <;> simp [State.cond]
@[simp] theorem State.cond_coves (s : State) (pg b : Nat) (p : Bool) : (s.cond pg b p).coves = s.coves := by cases p <;> simp [State.cond]
@[simp] theorem State.cond_frames (s : State) (pg b : Nat) (p : Bool) : (s.cond pg b p).frames = s.frames := by cases p <;> simp [State.cond]
@[simp] theorem State.cond_seawall (s : State) (pg b : Nat) (p : Bool) : (s.cond pg b p).seawall = s.seawall := by cases p <;> simp [State.cond]
@[simp] theorem State.cond_lanes (s : State) (pg b : Nat) (p : Bool) : (s.cond pg b p).lanes = s.lanes := by cases p <;> simp [State.cond]
@[simp] theorem State.cond_ports (s : State) (pg b : Nat) (p : Bool) : (s.cond pg b p).ports = s.ports := by cases p <;> simp [State.cond]
@[simp] theorem State.cond_streams (s : State) (pg b : Nat) (p : Bool) : (s.cond pg b p).streams = s.streams := by cases p <;> simp [State.cond]
@[simp] theorem State.cond_syncs (s : State) (pg b : Nat) (p : Bool) : (s.cond pg b p).syncs = s.syncs := by cases p <;> simp [State.cond]
@[simp] theorem State.cond_csiRx (s : State) (pg b : Nat) (p : Bool) : (s.cond pg b p).csiRx = s.csiRx := by cases p <;> simp [State.cond]
@[simp] theorem State.cond_csiTx (s : State) (pg b : Nat) (p : Bool) : (s.cond pg b p).csiTx = s.csiTx := by cases p <;> simp [State.cond]
@[simp] theorem State.cond_windows (s : State) (pg b : Nat) (p : Bool) : (s.cond pg b p).windows = s.windows := by cases p <;> simp [State.cond]

end Sys2Proof.Machine
end

