-- ==== Sys2Proof/Laws/Ops.lean ====
section
/-!
SUPPORT. Sys2Proof/Laws/Ops.lean: what the shared operations do, once: a field read after a field write, events and faults, local memory,
the guard of register accesses and the access log, places on the die.
-/
namespace Sys2Proof.Machine

/-! ## Fields -/

theorem Field.size_pos (f : Field) : 0 < f.size := Nat.two_pow_pos _

/-- A field read after a field write: the value written, cut to the field, at the same place, and what was there at any other. -/
theorem State.get_put (s : State) (pg : Nat) (f : Field) (v : Nat) (pg' : Nat) (g : Field) :
    (s.put pg f v).get pg' g = if fieldKey pg f = fieldKey pg' g then v % f.size else s.get pg' g := by
  simp [State.put, State.get, SMap.get_set]

@[simp] theorem State.get_put_same (s : State) (pg : Nat) (f : Field) (v : Nat) : (s.put pg f v).get pg f = v % f.size := by
  simp [State.get_put]

theorem State.get_put_other (s : State) {pg pg' : Nat} {f g : Field} (v : Nat) (h : fieldKey pg f ≠ fieldKey pg' g) :
    (s.put pg f v).get pg' g = s.get pg' g := by
  simp [State.get_put, h]

theorem State.live_putLive (s : State) (pg : Nat) (f : Field) (v : Nat) (pg' : Nat) (g : Field) :
    (s.putLive pg f v).live pg' g = if liveKey pg f = liveKey pg' g then v % f.size else s.live pg' g := by
  simp [State.putLive, State.live, SMap.get_set]

theorem State.get_putLive (s : State) (pg : Nat) (f : Field) (v : Nat) (pg' : Nat) (g : Field) :
    (s.putLive pg f v).get pg' g = if liveKey pg f = fieldKey pg' g then v % f.size else s.get pg' g := by
  simp [State.putLive, State.get, SMap.get_set]

theorem State.live_put (s : State) (pg : Nat) (f : Field) (v : Nat) (pg' : Nat) (g : Field) :
    (s.put pg f v).live pg' g = if fieldKey pg f = liveKey pg' g then v % f.size else s.live pg' g := by
  simp [State.put, State.live, SMap.get_set]

/-- Two fields of one page lie at one place where their bit offsets agree. -/
@[simp] theorem fieldKey_inj (pg : Nat) (f g : Field) : fieldKey pg f = fieldKey pg g ↔ f.off * 8 + f.lo = g.off * 8 + g.lo := by
  unfold fieldKey; omega

/-- A field of one page lies at no place of another page. -/
theorem fieldKey_page {pg pg' : Nat} {f g : Field} (hf : f.off * 8 + f.lo < 0x8000) (hg : g.off * 8 + g.lo < 0x8000)
    (h : pg ≠ pg') : fieldKey pg f ≠ fieldKey pg' g := by
  unfold fieldKey; omega

theorem State.flag_put (s : State) (pg : Nat) (f : Field) (v : Nat) (pg' : Nat) (g : Field) :
    (s.put pg f v).flag pg' g = if fieldKey pg f = fieldKey pg' g then v % f.size != 0 else s.flag pg' g := by
  unfold State.flag; rw [State.get_put]; split <;> rfl

@[simp] theorem State.get_emit (s : State) (o : Out) (pg : Nat) (g : Field) : (s.emit o).get pg g = s.get pg g := rfl
@[simp] theorem State.live_emit (s : State) (o : Out) (pg : Nat) (g : Field) : (s.emit o).live pg g = s.live pg g := rfl
@[simp] theorem State.get_owe (s : State) (d : Due) (pg : Nat) (g : Field) : (s.owe d).get pg g = s.get pg g := rfl
@[simp] theorem State.live_owe (s : State) (d : Due) (pg : Nat) (g : Field) : (s.owe d).live pg g = s.live pg g := rfl
@[simp] theorem State.get_putMarks (s : State) (p : Nat) (m : FltMarks) (pg : Nat) (g : Field) : (s.putMarks p m).get pg g = s.get pg g := rfl
@[simp] theorem State.live_putMarks (s : State) (p : Nat) (m : FltMarks) (pg : Nat) (g : Field) : (s.putMarks p m).live pg g = s.live pg g := rfl
@[simp] theorem State.get_putHarb (s : State) (h : Nat) (x : HarbourSt) (pg : Nat) (g : Field) : (s.putHarb h x).get pg g = s.get pg g := rfl
@[simp] theorem State.live_putHarb (s : State) (h : Nat) (x : HarbourSt) (pg : Nat) (g : Field) : (s.putHarb h x).live pg g = s.live pg g := rfl
@[simp] theorem State.get_noteHalf (s : State) (h : Nat) (u : HalfTide → HalfTide) (pg : Nat) (g : Field) : (s.noteHalf h u).get pg g = s.get pg g := rfl
@[simp] theorem State.live_noteHalf (s : State) (h : Nat) (u : HalfTide → HalfTide) (pg : Nat) (g : Field) : (s.noteHalf h u).live pg g = s.live pg g := rfl
@[simp] theorem State.get_selfCheck (s : State) (h c : Nat) (pg : Nat) (g : Field) : (s.selfCheck h c).get pg g = s.get pg g := rfl
@[simp] theorem State.live_selfCheck (s : State) (h c : Nat) (pg : Nat) (g : Field) : (s.selfCheck h c).live pg g = s.live pg g := rfl
@[simp] theorem State.get_popCommand (s : State)  (pg : Nat) (g : Field) : (s.popCommand).get pg g = s.get pg g := rfl
@[simp] theorem State.live_popCommand (s : State)  (pg : Nat) (g : Field) : (s.popCommand).live pg g = s.live pg g := rfl
@[simp] theorem State.get_holdCapture (s : State) (req : Requester) (off : Nat) (words : List Nat) (pg : Nat) (g : Field) : (s.holdCapture req off words).get pg g = s.get pg g := rfl
@[simp] theorem State.live_holdCapture (s : State) (req : Requester) (off : Nat) (words : List Nat) (pg : Nat) (g : Field) : (s.holdCapture req off words).live pg g = s.live pg g := rfl
@[simp] theorem State.get_putLane (s : State) (n : Nat) (x : LaneSt) (pg : Nat) (g : Field) : (s.putLane n x).get pg g = s.get pg g := rfl
@[simp] theorem State.live_putLane (s : State) (n : Nat) (x : LaneSt) (pg : Nat) (g : Field) : (s.putLane n x).live pg g = s.live pg g := rfl
@[simp] theorem State.get_putCh (s : State) (n : Nat) (x : ChannelSt) (pg : Nat) (g : Field) : (s.putCh n x).get pg g = s.get pg g := rfl
@[simp] theorem State.live_putCh (s : State) (n : Nat) (x : ChannelSt) (pg : Nat) (g : Field) : (s.putCh n x).live pg g = s.live pg g := rfl
@[simp] theorem State.get_putPc (s : State) (n : Nat) (x : PcieSt) (pg : Nat) (g : Field) : (s.putPc n x).get pg g = s.get pg g := rfl
@[simp] theorem State.live_putPc (s : State) (n : Nat) (x : PcieSt) (pg : Nat) (g : Field) : (s.putPc n x).live pg g = s.live pg g := rfl
@[simp] theorem State.get_putMac (s : State) (n : Nat) (x : MacSt) (pg : Nat) (g : Field) : (s.putMac n x).get pg g = s.get pg g := rfl
@[simp] theorem State.live_putMac (s : State) (n : Nat) (x : MacSt) (pg : Nat) (g : Field) : (s.putMac n x).live pg g = s.live pg g := rfl
@[simp] theorem State.get_putCsi (s : State) (n : Nat) (x : CsiRxSt) (pg : Nat) (g : Field) : (s.putCsi n x).get pg g = s.get pg g := rfl
@[simp] theorem State.live_putCsi (s : State) (n : Nat) (x : CsiRxSt) (pg : Nat) (g : Field) : (s.putCsi n x).live pg g = s.live pg g := rfl
@[simp] theorem State.get_putTx (s : State) (n : Nat) (x : CsiTxSt) (pg : Nat) (g : Field) : (s.putTx n x).get pg g = s.get pg g := rfl
@[simp] theorem State.live_putTx (s : State) (n : Nat) (x : CsiTxSt) (pg : Nat) (g : Field) : (s.putTx n x).live pg g = s.live pg g := rfl
@[simp] theorem State.get_putCove (s : State) (n : Nat) (x : CoveSt) (pg : Nat) (g : Field) : (s.putCove n x).get pg g = s.get pg g := rfl
@[simp] theorem State.live_putCove (s : State) (n : Nat) (x : CoveSt) (pg : Nat) (g : Field) : (s.putCove n x).live pg g = s.live pg g := rfl
@[simp] theorem State.get_putWindow (s : State) (n : Nat) (x : JettySt) (pg : Nat) (g : Field) : (s.putWindow n x).get pg g = s.get pg g := rfl
@[simp] theorem State.live_putWindow (s : State) (n : Nat) (x : JettySt) (pg : Nat) (g : Field) : (s.putWindow n x).live pg g = s.live pg g := rfl
@[simp] theorem State.get_putStream (s : State) (n : Nat) (x : StreamSt) (pg : Nat) (g : Field) : (s.putStream n x).get pg g = s.get pg g := rfl
@[simp] theorem State.live_putStream (s : State) (n : Nat) (x : StreamSt) (pg : Nat) (g : Field) : (s.putStream n x).live pg g = s.live pg g := rfl
@[simp] theorem State.get_putSrc (s : State) (n : Nat) (x : BeaconSrc) (pg : Nat) (g : Field) : (s.putSrc n x).get pg g = s.get pg g := rfl
@[simp] theorem State.live_putSrc (s : State) (n : Nat) (x : BeaconSrc) (pg : Nat) (g : Field) : (s.putSrc n x).live pg g = s.live pg g := rfl
@[simp] theorem State.get_putSlot (s : State) (n : Nat) (x : StreamSlot) (pg : Nat) (g : Field) : (s.putSlot n x).get pg g = s.get pg g := rfl
@[simp] theorem State.live_putSlot (s : State) (n : Nat) (x : StreamSlot) (pg : Nat) (g : Field) : (s.putSlot n x).live pg g = s.live pg g := rfl
@[simp] theorem State.get_putFdb (s : State) (n : Nat) (x : FdbEntry) (pg : Nat) (g : Field) : (s.putFdb n x).get pg g = s.get pg g := rfl
@[simp] theorem State.live_putFdb (s : State) (n : Nat) (x : FdbEntry) (pg : Nat) (g : Field) : (s.putFdb n x).live pg g = s.live pg g := rfl
@[simp] theorem State.memByte_emit (s : State) (o : Out) (k pa : Nat) : (s.emit o).memByte k pa = s.memByte k pa := by
  simp [State.memByte, State.harb]
@[simp] theorem State.memByte_owe (s : State) (d : Due) (k pa : Nat) : (s.owe d).memByte k pa = s.memByte k pa := by
  simp [State.memByte, State.harb]
@[simp] theorem State.memByte_putMarks (s : State) (p : Nat) (m : FltMarks) (k pa : Nat) : (s.putMarks p m).memByte k pa = s.memByte k pa := by
  simp [State.memByte, State.harb]
@[simp] theorem State.memByte_noteHalf (s : State) (h : Nat) (u : HalfTide → HalfTide) (k pa : Nat) : (s.noteHalf h u).memByte k pa = s.memByte k pa := by
  simp [State.memByte, State.harb]
@[simp] theorem State.memByte_selfCheck (s : State) (h c : Nat) (k pa : Nat) : (s.selfCheck h c).memByte k pa = s.memByte k pa := by
  simp [State.memByte, State.harb]
@[simp] theorem State.memByte_popCommand (s : State)  (k pa : Nat) : (s.popCommand).memByte k pa = s.memByte k pa := by
  simp [State.memByte, State.harb]
@[simp] theorem State.memByte_holdCapture (s : State) (req : Requester) (off : Nat) (words : List Nat) (k pa : Nat) : (s.holdCapture req off words).memByte k pa = s.memByte k pa := by
  simp [State.memByte, State.harb]
@[simp] theorem State.memByte_putLane (s : State) (n : Nat) (x : LaneSt) (k pa : Nat) : (s.putLane n x).memByte k pa = s.memByte k pa := by
  simp [State.memByte, State.harb]
@[simp] theorem State.memByte_putCh (s : State) (n : Nat) (x : ChannelSt) (k pa : Nat) : (s.putCh n x).memByte k pa = s.memByte k pa := by
  simp [State.memByte, State.harb]
@[simp] theorem State.memByte_putPc (s : State) (n : Nat) (x : PcieSt) (k pa : Nat) : (s.putPc n x).memByte k pa = s.memByte k pa := by
  simp [State.memByte, State.harb]
@[simp] theorem State.memByte_putMac (s : State) (n : Nat) (x : MacSt) (k pa : Nat) : (s.putMac n x).memByte k pa = s.memByte k pa := by
  simp [State.memByte, State.harb]
@[simp] theorem State.memByte_putCsi (s : State) (n : Nat) (x : CsiRxSt) (k pa : Nat) : (s.putCsi n x).memByte k pa = s.memByte k pa := by
  simp [State.memByte, State.harb]
@[simp] theorem State.memByte_putTx (s : State) (n : Nat) (x : CsiTxSt) (k pa : Nat) : (s.putTx n x).memByte k pa = s.memByte k pa := by
  simp [State.memByte, State.harb]
@[simp] theorem State.memByte_putCove (s : State) (n : Nat) (x : CoveSt) (k pa : Nat) : (s.putCove n x).memByte k pa = s.memByte k pa := by
  simp [State.memByte, State.harb]
@[simp] theorem State.memByte_putWindow (s : State) (n : Nat) (x : JettySt) (k pa : Nat) : (s.putWindow n x).memByte k pa = s.memByte k pa := by
  simp [State.memByte, State.harb]
@[simp] theorem State.memByte_putStream (s : State) (n : Nat) (x : StreamSt) (k pa : Nat) : (s.putStream n x).memByte k pa = s.memByte k pa := by
  simp [State.memByte, State.harb]
@[simp] theorem State.memByte_putSrc (s : State) (n : Nat) (x : BeaconSrc) (k pa : Nat) : (s.putSrc n x).memByte k pa = s.memByte k pa := by
  simp [State.memByte, State.harb]
@[simp] theorem State.memByte_putSlot (s : State) (n : Nat) (x : StreamSlot) (k pa : Nat) : (s.putSlot n x).memByte k pa = s.memByte k pa := by
  simp [State.memByte, State.harb]
@[simp] theorem State.memByte_putFdb (s : State) (n : Nat) (x : FdbEntry) (k pa : Nat) : (s.putFdb n x).memByte k pa = s.memByte k pa := by
  simp [State.memByte, State.harb]
@[simp] theorem State.memByte_put (s : State) (p : Nat) (f : Field) (v : Nat) (k pa : Nat) : (s.put p f v).memByte k pa = s.memByte k pa := by
  simp [State.memByte, State.harb]
@[simp] theorem State.memByte_putLive (s : State) (p : Nat) (f : Field) (v : Nat) (k pa : Nat) : (s.putLive p f v).memByte k pa = s.memByte k pa := by
  simp [State.memByte, State.harb]
@[simp] theorem State.memByte_event (s : State) (p b : Nat) (k pa : Nat) : (s.event p b).memByte k pa = s.memByte k pa := by
  simp [State.memByte, State.harb]
@[simp] theorem State.memByte_eventIf (s : State) (c : Bool) (p b : Nat) (k pa : Nat) : (s.eventIf c p b).memByte k pa = s.memByte k pa := by
  simp [State.memByte, State.harb]
@[simp] theorem State.memByte_raise (s : State) (p b : Nat) (k pa : Nat) : (s.raise p b).memByte k pa = s.memByte k pa := by
  simp [State.memByte, State.harb]
@[simp] theorem State.memByte_lower (s : State) (p b : Nat) (k pa : Nat) : (s.lower p b).memByte k pa = s.memByte k pa := by
  simp [State.memByte, State.harb]
@[simp] theorem State.memByte_cond (s : State) (p b : Nat) (c : Bool) (k pa : Nat) : (s.cond p b c).memByte k pa = s.memByte k pa := by
  simp [State.memByte, State.harb]
@[simp] theorem State.memByte_occur (s : State) (p b : Nat) (k pa : Nat) : (s.occur p b).memByte k pa = s.memByte k pa := by
  simp [State.memByte, State.harb]
@[simp] theorem State.memByte_countSat (s : State) (p : Nat) (f : Field) (n : Nat) (k pa : Nat) : (s.countSat p f n).memByte k pa = s.memByte k pa := by
  simp [State.memByte, State.harb]
@[simp] theorem State.memByte_countWrap (s : State) (p : Nat) (f : Field) (n : Nat) (k pa : Nat) : (s.countWrap p f n).memByte k pa = s.memByte k pa := by
  simp [State.memByte, State.harb]
@[simp] theorem State.memByte_putMax (s : State) (p : Nat) (f : Field) (v : Nat) (k pa : Nat) : (s.putMax p f v).memByte k pa = s.memByte k pa := by
  simp [State.memByte, State.harb]

theorem OnlyRegs.refl (s : State) (ks : List Nat) : OnlyRegs s s ks := fun _ _ => rfl

theorem OnlyRegs.of_regs {s t : State} (h : t.regs = s.regs) (ks : List Nat) : OnlyRegs s t ks := fun _ _ => by rw [h]

theorem OnlyRegs.trans {s t u : State} {ks : List Nat} (h : OnlyRegs s t ks) (h' : OnlyRegs t u ks) : OnlyRegs s u ks :=
  fun k hk => (h' k hk).trans (h k hk)

theorem OnlyRegs.put {s t : State} {ks : List Nat} (h : OnlyRegs s t ks) (pg : Nat) (f : Field) (v : Nat) (hk : fieldKey pg f ∈ ks) :
    OnlyRegs s (t.put pg f v) ks := by
  intro k hk'
  have hne : fieldKey pg f ≠ k := fun e => hk' (e ▸ hk)
  have : (t.put pg f v).regs = SMap.set resetField t.regs (fieldKey pg f) (v % f.size) := rfl
  rw [this, SMap.get_set_other _ _ _ hne, h k hk']

theorem SameMemory.refl (s : State) : SameMemory s s := fun _ _ => rfl

theorem SameMemory.of_harbours {s t : State} (h : t.harbours = s.harbours) : SameMemory s t := fun _ _ => by
  simp [State.memByte, State.harb, h]

/-! ## Masks, events and faults -/

@[simp] theorem hasBit_setBit (m b c : Nat) : hasBit (setBit m b) c = (hasBit m c || decide (b = c)) := by
  simp [hasBit, setBit, Nat.testBit_or, Nat.testBit_two_pow]

theorem testBit_sub_two_pow (m b : Nat) (h : m.testBit b = true) (c : Nat) : (m - 2^b).testBit c = (m.testBit c && !decide (b = c)) := by
  have h1 : m / 2 ^ b % 2 = 1 := by
    simpa [Nat.testBit_eq_decide_div_mod_eq] using h
  have h2 : m = 2 ^ (b+1) * (m / 2 ^ (b+1)) + (2 ^ b + m % 2 ^ b) := by
    have e1 := Nat.div_add_mod m (2 ^ b)
    have e2 := Nat.div_add_mod (m / 2 ^ b) 2
    rw [Nat.div_div_eq_div_mul, ← pow_succ, h1] at e2
    calc m = 2 ^ b * (m / 2 ^ b) + m % 2 ^ b := e1.symm
      _ = 2 ^ b * (2 * (m / 2 ^ (b + 1)) + 1) + m % 2 ^ b := by rw [e2]
      _ = _ := by ring
  have h3 : m - 2 ^ b = 2 ^ (b+1) * (m / 2 ^ (b+1)) + m % 2 ^ b := by omega
  have hl : m % 2 ^ b < 2 ^ b := Nat.mod_lt _ (Nat.two_pow_pos b)
  have hl' : m % 2 ^ b < 2 ^ (b + 1) := by rw [pow_succ]; omega
  rw [h3, Nat.testBit_two_pow_mul_add _ hl']
  split
  · rename_i hc
    rw [Nat.testBit_mod_two_pow]
    by_cases e : b = c
    · subst e; simp
    · have : c < b := by omega
      simp [e, this]
  · rename_i hc
    rw [Nat.testBit_div_two_pow]
    have e : b ≠ c := by omega
    have e' : c - (b + 1) + (b + 1) = c := by omega
    simp [e, e']

theorem hasBit_clearBit (m b c : Nat) : hasBit (clearBit m b) c = (hasBit m c && !decide (b = c)) := by
  unfold hasBit clearBit
  split
  · rename_i h; exact testBit_sub_two_pow m b h c
  · rename_i h
    by_cases hc : b = c
    · subst hc; simp [h]
    · simp [hc]

/-- An event sets its bit, whatever is enabled (R78). -/
theorem State.eventBit_event (s : State) (pg : Nat) {b : Nat} (h : b < 32) : (s.event pg b).eventBit pg b = true := by
  have hs : Hdr.EVT_STAT_EVENT.size = 2 ^ 32 := by decide
  simp only [State.eventBit, State.event, State.get_put_same, hs, hasBit, Nat.testBit_mod_two_pow, setBit, Nat.testBit_or, Nat.testBit_two_pow]
  simp [h]

theorem State.event_regs_only {s t : State} {ks : List Nat} (h : OnlyRegs s t ks) (pg b : Nat) (hk : fieldKey pg Hdr.EVT_STAT_EVENT ∈ ks) :
    OnlyRegs s (t.event pg b) ks := h.put pg _ _ hk

@[simp] theorem State.marks_putMarks_same (s : State) (pg : Nat) (m : FltMarks) : (s.putMarks pg m).marks pg = m := by
  simp [State.marks, State.putMarks]

theorem State.marks_putMarks (s : State) (pg : Nat) (m : FltMarks) (q : Nat) : (s.putMarks pg m).marks q = if pg = q then m else s.marks q := by
  simp [State.marks, State.putMarks, SMap.get_set]

@[simp] theorem State.marks_put (s : State) (p : Nat) (f : Field) (v q : Nat) : (s.put p f v).marks q = s.marks q := rfl
@[simp] theorem State.marks_owe (s : State) (d : Due) (q : Nat) : (s.owe d).marks q = s.marks q := rfl
@[simp] theorem State.marks_occur (s : State) (p b q : Nat) : (s.occur p b).marks q = s.marks q := rfl

/-- A fault condition that appears is one occurrence (R478): its bit of FLT_STAT sets, and the Breakwater is told. -/
theorem State.raise_cases (s : State) (pg b : Nat) :
    (s.condBit pg b = true ∧ s.raise pg b = s) ∨
    (s.condBit pg b = false ∧ (s.raise pg b).condBit pg b = true ∧ (s.raise pg b).due = s.due ++ [.occurrence pg b] ∧
      (s.raise pg b).get pg Hdr.FLT_STAT_FAULT = setBit (s.get pg Hdr.FLT_STAT_FAULT) b % 2 ^ 32) := by
  by_cases h : s.condBit pg b = true
  · exact .inl ⟨h, by simp [State.raise, h]⟩
  · have h' : s.condBit pg b = false := by simpa using h
    have hs : Hdr.FLT_STAT_FAULT.size = 2 ^ 32 := by decide
    refine .inr ⟨h', ?_, ?_, ?_⟩
    · simp only [State.raise, h', Bool.false_eq_true, if_false]; simp [State.condBit]
    · simp [State.raise, h', State.occur, State.owe, State.putMarks]
    · simp [State.raise, h', State.occur, hs]

/-- After `raise` the condition is present. -/
theorem State.condBit_raise (s : State) (pg b : Nat) : (s.raise pg b).condBit pg b = true := by
  rcases s.raise_cases pg b with ⟨h, e⟩ | ⟨_, h, _, _⟩
  · rw [e]; exact h
  · exact h

/-- After `lower` the condition is absent. -/
theorem State.condBit_lower (s : State) (pg b : Nat) : (s.lower pg b).condBit pg b = false := by
  unfold State.lower
  split
  · have key : ∀ m : FltMarks, hasBit (clearBit m.present b) b = false := fun m => by simp [hasBit_clearBit]
    dsimp only
    split <;> simp [State.condBit, key]
  · rename_i h; simpa using h

/-! ## Local memory -/

theorem writeBytes_get (m : SMap Byte) (pa : Nat) (bs : List Byte) (a : Nat) :
    SMap.get memDefault (writeBytes m pa bs) a = if h : pa ≤ a ∧ a - pa < bs.length then bs[a - pa]'h.2 else SMap.get memDefault m a := by
  induction bs generalizing m pa with
  | nil => simp [writeBytes]
  | cons b r ih =>
    rw [writeBytes, ih, SMap.get_set]
    by_cases h1 : pa = a
    · subst h1; simp
    · by_cases h2 : pa + 1 ≤ a ∧ a - (pa + 1) < r.length
      · have h3 : pa ≤ a ∧ a - pa < (b :: r).length := by simp; omega
        have e : a - pa = (a - (pa + 1)) + 1 := by omega
        rw [dif_pos h2, dif_pos h3]; simp only [e, List.getElem_cons_succ]
      · have h3 : ¬ (pa ≤ a ∧ a - pa < (b :: r).length) := by simp; omega
        rw [dif_neg h2, dif_neg h3, if_neg h1]

/-- Every write of bytes keeps a local memory canonical. -/
theorem writeBytes_wf (m : SMap Byte) (pa : Nat) (bs : List Byte) (h : Memory.wf m = true) : Memory.wf (writeBytes m pa bs) = true := by
  induction bs generalizing m pa with
  | nil => exact h
  | cons b r ih => exact ih _ _ (SMap.wf_set _ _ _ _ h)

@[simp] theorem State.harb_putHarb_same (s : State) (h : Nat) (x : HarbourSt) : (s.putHarb h x).harb h = x := by
  simp [State.harb, State.putHarb]

theorem State.harb_putHarb (s : State) (h : Nat) (x : HarbourSt) (k : Nat) : (s.putHarb h x).harb k = if h = k then x else s.harb k := by
  simp [State.harb, State.putHarb, SMap.get_set]

/-- A byte read after a write of bytes: the byte written, inside it, and what was there outside it or in the other half. -/
theorem State.memByte_memWrite (s : State) (h pa : Nat) (bs : List Byte) (k a : Nat) :
    (s.memWrite h pa bs).memByte k a =
      if hh : h = k ∧ pa ≤ a ∧ a - pa < bs.length then bs[a - pa]'hh.2.2 else s.memByte k a := by
  unfold State.memByte State.memWrite
  rw [State.harb_putHarb]
  by_cases e : h = k
  · subst e; simp [writeBytes_get]
  · simp [e]

/-! ## Accesses -/

/-- A register write that reaches its unit has its effect; one that is not looked at has none; any other is logged (R69, R81, R85, R87, R487). -/
theorem State.onWrite_cases (s : State) (req : Requester) (off : Nat) (k : State → State) :
    (s.serves req off = true ∧ s.onWrite req off k = k s) ∨
    (s.takesWrite req off = false ∧ s.onWrite req off k = s) ∨
    (s.takesWrite req off = true ∧ ∃ c, s.accessCause true off 4 = some c ∧ s.onWrite req off k = s.logAccess req off true 0xF c) := by
  unfold State.onWrite State.serves
  cases ht : s.takesWrite req off
  · simp
  · cases hc : s.accessCause true off 4 with
    | none => simp
    | some c => simp

theorem State.onWrite_served {s : State} {req : Requester} {off : Nat} (h : s.serves req off = true) (k : State → State) :
    s.onWrite req off k = k s := by
  have h' : s.takesWrite req off = true ∧ s.accessCause true off 4 = none := by
    simpa [State.serves] using h
  simp [State.onWrite, h'.1, h'.2]

theorem State.takesWrite_latched {s : State} (h : s.terminal = true) (req : Requester) (off : Nat) : s.takesWrite req off = false := by
  simp [State.takesWrite, h]

theorem State.onWrite_latched {s : State} (h : s.terminal = true) (req : Requester) (off : Nat) (k : State → State) :
    s.onWrite req off k = s := by simp [State.onWrite, State.takesWrite, h]

theorem State.onPop_served {s : State} {req : Requester} {off : Nat} (h : s.servesRead req off = true) (k : State → List Nat × State) :
    s.onPop req off k =
      (if (k s).1.length ≤ 1 then (k s).2 else (k s).2.holdCapture req off (k s).1).emit (.readData req off ((k s).1.take 1)) := by
  have h' : s.reaches req = true ∧ s.accessCause false off 4 = none := by simpa [State.servesRead] using h
  simp [State.onPop, h'.1, h'.2]

/-! ## Places on the die -/

/-- Two instances never stand at one place (R74). -/
theorem siteOf_injective : Function.Injective siteOf := by
  suffices h : ∀ l : List (Fin 4294836225 × Fin 4294836225), Function.Injective fun base : Nat =>
      l.foldl (fun (p : Nat) (e : Fin 4294836225 × Fin 4294836225) => if p = e.1 then e.2 else if p = e.2 then e.1 else p) base from h _
  intro l
  induction l with
  | nil => exact fun _ _ h => h
  | cons e l ih =>
    intro a b h
    have := ih h
    dsimp only at this
    split_ifs at this <;> omega

/-- A place has both coordinates below 0xFFFF (R74). -/
theorem siteOf_lt {base : Nat} (h : base < 4294836225) : siteOf base < 4294836225 := by
  suffices hl : ∀ (l : List (Fin 4294836225 × Fin 4294836225)) (base : Nat), base < 4294836225 →
      l.foldl (fun (p : Nat) (e : Fin 4294836225 × Fin 4294836225) => if p = e.1 then e.2 else if p = e.2 then e.1 else p) base < 4294836225 from
    hl _ _ h
  intro l
  induction l with
  | nil => exact fun _ h => h
  | cons e l ih => exact fun a ha => ih _ (by dsimp only; split_ifs <;> omega)

end Sys2Proof.Machine
end

