-- ==== Sys2Proof/WellFormed.lean ====
section
/-!
DEFINITION. Sys2Proof/WellFormed.lean: which commands can be given: operands whose sizes their types do not bound keep to the sizes of the manual.
The meanings take ill-formed commands too; nothing outside can give one.
-/
namespace Sys2Proof

open Machine

/-- Link widths of PCI Express (R345). -/
def linkWidths : List Nat := [0, 1, 2, 4, 8, 16]

/-- Is a command one that can be given? -/
def Instr.wf : Instr → Bool
  | .apertureAccess _ off size write _ _ _ => write.all (fun b => b.length == size) && decide (1 ≤ size) && decide (off + size ≤ 2 ^ 36)
  | .bootSegment body _ => decide (16 ≤ body.length) && decide (body.length ≤ 2 ^ 24)
  | .bootStart head _ _ => head.length == 0x2000
  | .codewordDecoded _ word => word.length == 144 && word.all (· < 1024)
  | .csiRxBurst _ _ _ _ start stop => decide (start ≤ stop)
  | .ethFrameRx _ b _ _ => decide (14 ≤ b.length)
  | .ibiReceived _ _ payload => decide (payload.length ≤ 4)
  | .ltssmTransition _ _ width speed _ => linkWidths.contains width && decide (speed ≤ 5)
  | .markerReceived _ _ b _ => b.length == 16
  | .pcieCompletion _ _ _ x => decide (x.1.length ≤ 4096)
  | .tempSample t => t.length == 12
  | .windowRead _ _ _ size _ _ => [1, 2, 4, 8].contains size.val
  | _ => true

end Sys2Proof
end

