-- ==== Sys2Proof/Tests/Slice0.lean ====
section
/-!
SUPPORT. Sys2Proof/Tests/Slice0.lean: worked examples and tables of the manual, commands that cannot be given, and states that meet the
hypotheses of the statements.
-/
namespace Sys2Proof

/-- State s with fields stored. -/
def Machine.State.puts (s : State) (l : List (Nat × Field × Nat)) : State := l.foldl (fun s e => s.put e.1 e.2.1 e.2.2) s

/-- The same for values in force. -/
def Machine.State.puts' (s : State) (l : List (Nat × Field × Nat)) : State := l.foldl (fun s e => s.putLive e.1 e.2.1 e.2.2) s

namespace Tests

open Machine

set_option Elab.async false
/-- What a command makes of a state. -/
def after (i : Instr) (s : State) : State := match exec i s with
  | .next t => t
  | .fault _ => s
  | .refused _ => s

/-- Does a step answer this state? -/
def gives (o : Host.Outcome State Fault Refusal) (t : State) : Bool := match o with
  | .next u => u == t
  | .fault _ => false
  | .refused _ => false

/-- Does a translation succeed with this address and leave this state? -/
def translates (r : Except (Nat × Nat) (Bool × Nat) × State) (host : Bool) (pa : Nat) (u : State) : Bool := match r with
  | (.ok p, v) => p == (host, pa) && v == u
  | (.error _, _) => false

/-- A translation faults. -/
def untranslated (r : Except (Nat × Nat) (Bool × Nat) × State) (cause level : Nat) (u : State) : Bool := match r.1 with
  | .ok _ => false
  | .error e => e == (cause, level) && decide (r.2 = u)

/-- Every power domain is on, and the core is out of reset. -/
def lit : State :=
  { State.reset with regs := (List.range 96).map fun d => (fieldKey 0x3 (Chip.PD_CTRL_ACK.nth d), 1)
                     power := { inReset := false, por := false } }

/-- A plan of one tide a spring tide, family 0, with streams and outputs. -/
def planOf (x : List PlanStream) (o : List PlanOutput) : Plan :=
  { gap := false, atSpring := false, id := 7, period := 33000000, phase := 0, group := 3, applySpring := 0, jobBulk := [1000, 1000],
    hostBulk := [0, 0], families := [⟨2, 1000000⟩, ⟨1, 1000000⟩, ⟨0, 0⟩, ⟨0, 0⟩], budgets := [100, 100, 100, 100, 100, 100, 100, 100],
    streams := x, outputs := o }

/-- A plan is live, and families 0 and 1 run. -/
def planned (s : State) (p : Plan) : State :=
  { s.puts [(0x11, Tidemark.FAM_PHASE_ACTIVE.nth 0, 1), (0x11, Tidemark.FAM_PHASE_ACTIVE.nth 1, 1)] with
    tide := { livePlan := some p, famEver := 3, famStarted := 3, begun := [1, 1, 0, 0], springEver := true } }

/-- Lane n with fields stored, and the lane's own state. -/
def laned (n : Nat) (l : List (Field × Nat)) (x : LaneSt := {}) : State := (lit.puts (l.map fun e => (wePage n, e))).putLane n x

/-- A forward packet's eight header bytes. -/
def headed (b : List Byte) : List Byte := b ++ toBytesLE 2 (crc16 b)

/-- Bytes with their CRC-16. -/
def checked (b : List Byte) : List Byte := b ++ toBytesLE 2 (crc16 b)

/-- A marker block with its CRC-16: epoch, superframe count, flags. -/
def marker (epoch sf flags : Nat) : List Byte :=
  let b := [0x1E, BitVec.ofNat 8 epoch] ++ toBytesLE 2 sf ++ [BitVec.ofNat 8 flags, 0, 0, 0, 0, 0, 0, 0, 0, 0]
  checked b

/-- Fields of one page stored. -/
def paged (pg : Nat) (l : List (Field × Nat)) : State := lit.puts (l.map fun e => (pg, e))

/-- A CSI-2 packet header: data identifier and word count with their check bits. -/
def header4 (di wc : Nat) : List Byte :=
  let h := di + wc * 256
  toBytesLE 4 (h + headerEcc h * 2 ^ 24)

/-- A plan stream of one part in Cove 0, RAW12, 8 columns by 4 lines. -/
def strm (n : Nat) : PlanStream :=
  { stream := n, family := 0, path := 0, sentinel := 0xFF, cls := 0, exposures := 1, packing := 1, width := 8, activeLines := 4, totalLines := 5,
    window := 64, coveA := 0, coveB := 0xFF, coveC := 0xFF, coveD := 0xFF, outFirst := 0, outCount := 1 }

/-- A live plan with stream n alone and one host output. -/
def live1 (n : Nat) (s : State) : State := planned s (planOf [strm n] [⟨128, 0, 0, 0⟩])

/-- A packet at the Inlet. -/
def item (k : PacketKind) (vc : Nat) (dt : Nat := 0) (data : List Byte := []) : InletItem := { kind := k, vc, dt, data, stamp := 1000, stop := 70 }

/-- Half h's four channels are trained; page 0 of its Harbour holds fields l. -/
def trained (h : Nat) (l : List (Field × Nat)) : State :=
  (lit.puts ((List.range 4).map fun c => (hbPage h (1 + c), Harbour.CH_STAT_TRAINED, 1))).puts (l.map fun e => (hbPage h 0, e))

/-- A descriptor of 32 bytes: NEXT, control, LEN, source, destination (R318). -/
def descriptor (next ctrl len src dst : Nat) : List Byte :=
  toBytesLE 8 next ++ toBytesLE 4 ctrl ++ toBytesLE 4 len ++ toBytesLE 8 src ++ toBytesLE 8 dst

/-- An Ethernet frame of 64 bytes before its FCS: destination address, EtherType and the first bytes behind it. -/
def frameTo (da type first : Nat) : List Byte :=
  toBytesBE 6 da ++ toBytesBE 6 0 ++ toBytesBE 2 type ++ BitVec.ofNat 8 first :: List.replicate 49 0

/-- Every Harbour channel is trained. -/
def trainedHalf1 : State := lit.puts ([0, 1].flatMap fun h => (List.range 4).map fun c => (hbPage h (1 + c), Harbour.CH_STAT_TRAINED, 1))

/-- Processors 0 and 1 take interrupts; sources 40 and 41 are set up, of priority 5 and 6, for them. -/
def taking (src : SMap BeaconSrc) (irqs : SMap (List (Nat × Nat))) : State :=
  let s := lit.puts ([0, 1].map fun k => (bcnPage, Beacon.LP_CTL_EN.nth k, 1))
  let s := s.puts [(0x31, Beacon.SRC_CFG_PRIO.nth 40, 5), (0x31, Beacon.SRC_CFG_TARGET.nth 40, 3), (0x31, Beacon.SRC_CFG_PRIO.nth 41, 6),
    (0x31, Beacon.SRC_CFG_TARGET.nth 41, 3), (0x31, Beacon.SRC_CFG_KIND.nth 50, 1), (0x31, Beacon.SRC_CFG_PRIO.nth 50, 1)]
  { s with cores := { mie := 3 }, beacon := { srcs := src, irqs := irqs } }

/-- Half 0 acts, half 1 stands by, and the processors of both run the firmware; the ring is enabled. -/
def ringed (c : CoreSt) (full : Bool := false) (base : State := lit) : State :=
  let s := base.puts ([0, 1, 2, 3].map fun k => (lpPage k, Lp.LP_FW_STAT_STATE, if k < 2 then 2 else 3))
  let s := s.puts [(0x40, Seawall.SW_STAT_STATE_H0, 1), (0x40, Seawall.SW_STAT_STATE_H1, 2), (0x40, Seawall.SW_STAT_ACTING, 1),
    (ringPage, Lp.CMD_CFG_EN, 1), (ringPage, Lp.CMD_TAIL_COUNT, 1), (ringPage, Lp.CPL_TAIL_COUNT, if full then 256 else 0),
    (hbPage 0 0, Harbour.HB_CAP_DATA_MIB, 2), (hbPage 1 0, Harbour.HB_CAP_DATA_MIB, 2)]
  { s with cores := c }

/-- A fetched entry of index 0, with its opcode and its parameters from byte 0x10 on. -/
def entry (op : Nat) (p : List Byte := []) (idx : Nat := 0) : RingEntry :=
  { count := idx, posted := 0, bytes := some ((toBytesLE 2 op ++ List.replicate 14 0 ++ p ++ List.replicate 48 0).take 64) }

/-- An entry as its opcode starts it. -/
def awaiting (e : RingEntry) (full : Bool := true) : State := ringed { owner := some .host0, entries := [e] } full

/-- Parameters of an exposure loop. -/
def exposureParams : List Byte :=
  List.replicate 2 0 ++ toBytesLE 2 0x200 ++ List.replicate 8 0 ++ toBytesLE 2 0x100 ++ List.replicate 50 0

/-- The header of an image of two segments: port configuration and a memory copy. -/
def header : List Byte :=
  let seg := fun off len kind => toBytesLE 4 off ++ toBytesLE 4 len ++ toBytesLE 2 kind ++ List.replicate 54 0
  let top := toBytesLE 4 0x54485A44 ++ toBytesLE 2 1 ++ toBytesLE 2 0 ++ toBytesLE 4 9 ++ toBytesLE 2 2 ++ List.replicate 242 0
  top ++ seg 0x2000 16 1 ++ seg 0x2040 20 3 ++ List.replicate 3968 0 ++ toBytesLE 4 0x54524543 ++ toBytesLE 2 1 ++ toBytesLE 2 0x4016 ++
    List.replicate 3832 0

/-- The ROM may start. -/
def booting : State := lit.put 0x5 Chip.CLK_STAT_REF_OK 1

/-! ## Worked examples and tables of the manual -/

/-- Short stamps (R404): a = 0x0000_1F40 is 12,000 ns after b = 0xFFFF_F060. -/
theorem test_shortStamps : signedDiff 0x1F40 0xFFFFF060 = 12000 := by decide +kernel

/-- Slack at 120 Hz (R35): 250,000 ns by default. -/
theorem test_defaultSlack : slackOf 1000000000 120 0 = 250000 := by decide +kernel

/-- FRAME_LOST of Drift channel 700 feeds source 1463 (R477). -/
theorem test_faultSource : ((pageRef (chPage 700)).bind fun r => r.source 1) = some 1463 := by decide +kernel

/-- The three CRCs (R122, R273, R442) of the ASCII digits 1 to 9; the expected values are those that the CRC catalogues give for these polynomials. -/
theorem test_crcs : (crc32c ((List.range 9).map fun k => BitVec.ofNat 8 (0x31 + k)) = 0xE3069283 ∧
    crc32 ((List.range 9).map fun k => BitVec.ofNat 8 (0x31 + k)) = 0xCBF43926) ∧
    crc16 ((List.range 9).map fun k => BitVec.ofNat 8 (0x31 + k)) = 0x29B1 := by decide +kernel

/-- What FOLD = 3 folds before a COPY to DST 0x2_4A13_5C40 with SD_DONE = 7 (R441). -/
theorem test_foldedBytes : foldBytes 3 0x24A135C40 7 = [0x40, 0x5C, 0x13, 0x4A, 2, 0, 0, 0, 7, 0, 0, 0] := by decide +kernel

/-- PAGE_ID of Cove 5's stage page 3, of Drift channel 300 and of the Inlet of port C2 (R74). -/
theorem test_pageIds : ([0x453, 0x112C, 0x172].map fun pg => (State.reset.readWord .host0 (pg * 0x1000)).1) = [0x30005003, 0x4012C000, 0x13022000] := by
  decide +kernel

/-- The last line of the worked host frame splits at the block boundary into bursts of 384 and 1,536 bytes (R323, R324). -/
theorem test_lastLineBursts : [burstSize 6 3108480 1920, burstSize 6 (3108480 + 384) (1920 - 384)] = [384, 1536] := by decide +kernel

/-- The plan of the worked admission in half 1, with stream 52 on Cove c (R54 to R58). -/
def worked (c : Nat) : Plan :=
  let mem := fun (n cv o : Nat) => PlanStream.mk n 2 1 0xFF 1 2 1 3840 2160 2250 64 cv 0xFF 0xFF 0xFF o 1
  { planOf [{ mem 44 8 0 with path := 0, exposures := 4 }, mem 48 8 1, mem 52 c 2] (List.replicate 3 ⟨3110400, 0, 0, 0⟩) with
    period := 1000000000, families := [⟨0, 0⟩, ⟨0, 0⟩, ⟨60, 500000⟩, ⟨0, 0⟩], jobBulk := [1024, 1024], hostBulk := [2000, 0] }

/-- Its working length, Cove terms, Harbour demand, jobs and output term. -/
theorem test_workedAdmission : [(worked 8).working 2, (worked 8).coveTerm 8, (worked 9).coveTerm 8, (worked 9).coveTerm 9,
    (worked 9).classTerm 1 1, (worked 9).jobTerm 1, (worked 9).outputTerm true 0] =
    [16162625, 1095862, 807196, 288666, 6192, 4864, 2579] := by decide +kernel

/-- The worked walk (R304 to R306): three levels of tables in half 1, and the physical address with its channel. -/
theorem test_workedWalk :
    (let s := (lit.put (hbPage 1 0) Harbour.HB_CAP_DATA_MIB 28672).puts' [(hbPage 1 7, Harbour.TR_ROOT_LO_EN, 1)]
     let s := ((s.memWrite 1 0 (toBytesLE 8 0x80001)).memWrite 1 0x89280 (toBytesLE 8 0x100101)).memWrite 1 0x100198 (toBytesLE 8 0x37C05000F)
     (match (s.translate 1 0x24A135C40 false false 0).1 with
       | .ok (false, pa) => pa == 0x37C055C40 && memChannel pa == 1 && memChannelAddr pa == 0xDF015740
       | .ok (true, _) => false
       | .error _ => false)) = true := by decide +kernel

/-- The worked exposure step (R543): 618 rows and a gain of 331. -/
theorem test_workedExposureStep :
    ((⟨0, 0, 0, toBytesLE 2 8000 ++ toBytesLE 2 0x200 ++ toBytesLE 4 1 ++ toBytesLE 4 1300 ++ toBytesLE 2 0x100 ++ toBytesLE 2 0x800 ++
      List.replicate 48 0, 400, 256, none, none⟩ : LoopSt).exposureStep 2000 (some 618)) = ⟨618, some 331, false⟩ := by decide +kernel

/-- The part of the worked pixel (R226 to R243): 3,800 and s at column 1001 of row 601, zero beside it; four nodes of the mesh, two points of the curve. -/
def pixelPart (short : Nat) : CovePart :=
  let live := fun (pg : Nat) (f : Field) (v : Nat) => (liveKey (covePage 8 pg) f, v)
  let mesh := (List.range (15 * 65)).flatMap fun n => (List.range 4).flatMap fun c => toBytesLE 2 (if c ≠ 3 then 0 else
    if n = 65 * 13 + 16 then 5120 else if n = 65 * 13 + 17 then 5248 else if n = 65 * 14 + 16 then 5152 else if n = 65 * 14 + 17 then 5280 else 0)
  { cove := 8, context := 0, status := some 0
    latch := [live 1 Cove.PWL_CFG_BYPASS_SHIFT 4, live 4 Cove.SH_CFG_EN 1, live 4 Cove.SH_CFG_CELL_W 60, live 4 Cove.SH_CFG_CELL_H 45,
      live 5 Cove.HDR_CFG_EN 1, live 5 Cove.HDR_CFG_ORDER 0xE4, live 5 (Cove.HDR_K_K.nth 0 0) 0x10000, live 5 (Cove.HDR_K_K.nth 0 1) 0x100000,
      live 5 (Cove.HDR_START_START.nth 0 0) 55000, live 5 (Cove.HDR_CLIP_CLIP.nth 0 0) 63000, live 5 Cove.MOT_FLOOR_FLOOR 512,
      live 5 Cove.MOT_CFG_MOT_REL 3277, live 5 Cove.MOT_GAIN_GAIN 4096, live 5 Cove.TONE_CFG_EN 1, live 5 Cove.TONE_CFG_MODE 1]
    runs := [⟨601, 0, 999, [0, 0, 3800, 0, 0]⟩, ⟨601, 1, 999, [2000, 0, short, 0, 2000]⟩]
    tables := [{ table := .mesh, size := 7800, got := [(0, mesh)], left := 0 },
      { table := .tone, size := 514, got := [(0, (List.range 257).flatMap fun p => toBytesLE 2 (if p = 129 then 40960 else if p = 130 then 41216 else 0))],
        left := 0 }]
    blEff := List.replicate 8 1024 }

/-- Its frame, and what every stage sees of it. -/
def pixelView : View :=
  viewOf { half := 1, stream := 44, seq := 1, tide := 0, sof := 0, family := 2, sentinel := 0xFF, cls := 0, memory := false, split := false,
           width := 1920, lines := 1080, exposures := 2, packing := 1, suppress := false, parts := [pixelPart 285], outs := [] } (pixelPart 285) 1080

/-- The worked pixel: G, L2, the weight of exposure 0, acc and Y. -/
theorem test_workedPixel : [pixelView.gain 601 1001, pixelView.l2 0 601 1001, pixelView.l2 1 601 1001, pixelView.scaledExp 1 601 1001,
    pixelView.weight 0 601 1001, (pixelView.hdr 601 1001).1, pixelView.y 601 1001] = [5219, 76165, 4505, 72080, 103, 73724, 41216] := by
  decide +kernel

/-! ## Commands that cannot be given (WellFormed) -/

/-- One ill-formed command for each check, which the check refuses: a size that the data does not have; no bytes; past the aperture. -/
theorem test_illFormedAperture : ([.apertureAccess 0 0 2 (some [1]) false 0 0, .apertureAccess 0 0 0 none false 0 0,
    .apertureAccess 0 (2 ^ 36 - 1) 2 none false 0 0] : List Instr).any Instr.wf = false := by decide +kernel

/-- A segment shorter than 16 bytes, and a header that is not 8 KiB. -/
theorem test_illFormedBoot : ([.bootSegment (List.replicate 15 0) true, .bootStart [] true true] : List Instr).any Instr.wf = false := by decide +kernel

/-- A burst that ends before it starts, a frame without its header, and an interrupt with five bytes. -/
theorem test_illFormedReception : ([.csiRxBurst 0 .good true [] 2 1, .ethFrameRx 0 (List.replicate 13 0) true 0, .ibiReceived 0 8 [1, 2, 3, 4, 5]] :
    List Instr).any Instr.wf = false := by decide +kernel

/-- A link of three lanes, and one of a speed that does not exist. -/
theorem test_illFormedLink : ([.ltssmTransition 0 4 3 5 (none, []), .ltssmTransition 0 4 8 6 (none, [])] : List Instr).any Instr.wf = false := by decide +kernel

/-- A marker of 15 bytes, a completion past 4 KiB, eleven sensors, and a read of three bytes. -/
theorem test_illFormedRest : ([.markerReceived 0 0 (List.replicate 15 0) true, .pcieCompletion 0 5 .success (List.replicate 4097 0, 0),
    .tempSample (List.replicate 11 0), .windowRead .host0 0 0 3 false 0] : List Instr).any Instr.wf = false := by decide +kernel

/-- Well-formed ones pass. -/
theorem test_wellFormed : ([.apertureAccess 0 (2 ^ 36 - 2) 2 (some [1, 2]) false 0 0, .bootSegment (List.replicate 16 0) true,
    .csiRxBurst 0 .good true [] 2 2, .ethFrameRx 0 (List.replicate 14 0) true 0, .ltssmTransition 0 4 16 5 (none, []), .tempSample (List.replicate 12 0),
    .windowRead .host0 0 0 8 false 0, .sleepDrained] : List Instr).all Instr.wf = true := by decide +kernel

/-- No word spells a command: the table gives no row any bits. -/
theorem test_decode : decodeTableWord 32 0xFFFFFFFF = none ∧ (lit.withFetchWord 32 5).pending = [] := by decide +kernel

/-- A unit too long for the stream port's memory is within the operands of STREAM_UNIT. -/
theorem test_longUnit : 262144 < (PortUnit.mk 3 1 0 0 (List.replicate 262145 0) false false).bytes.length :=
  Nat.lt_of_lt_of_eq (by decide : 262144 < 262145) List.length_replicate.symm

/-! ## States that meet the hypotheses of the statements

One theorem for each statement, over states and operands that meet the hypotheses of each of its clauses, and of each case within a clause. -/

/-- Fewer than 24 samples give no sum (R92). -/
theorem slicerSums_short (taps : List Int) (cur : Nat) (h1 : Int) (x : RxSymbol) (j : Nat) (h : j ≤ 23) :
    slicerSums taps cur h1 (List.replicate j x) = (0, 0) := by
  induction j with
  | zero => rfl
  | succ j ih =>
    rw [List.replicate_succ, slicerSums, ih (by omega), if_pos]
    simp
    omega

/-- Each further sample of a steady signal adds the same to the two sums (R92). -/
theorem slicerSums_steady (taps : List Int) (cur : Nat) (h1 : Int) (x : RxSymbol) (k : Nat) :
    slicerSums taps cur h1 (List.replicate (k + 23) x) =
      let w := List.replicate 24 x
      let level := 128 * (w.getD (23 - cur) ⟨0, 0⟩).level
      let e := slicerError taps cur h1 w
      (k * (level * level).toNat, k * (e * e).toNat) := by
  induction k with
  | zero => simpa using slicerSums_short taps cur h1 x 23 (by omega)
  | succ k ih =>
    rw [show k + 1 + 23 = (k + 23) + 1 by omega, List.replicate_succ, slicerSums, ih, if_neg]
    · rw [List.take_replicate, show min 23 (k + 23) = 23 by omega, ← List.replicate_succ]
      simp [Nat.add_mul]
    · simp

/-- A window of a signal that stays at one level. -/
def steady : List RxSymbol := List.replicate snrWindow ⟨1, 256⟩

/-- A receiver in ACQUIRE, one in FROZEN, and a lane whose trials run: of the level 1, with the main tap alone, the slicer's error is 0, and the SNR
holds in every mode. -/
theorem test_snrWindows :
    steady.length = snrWindow ∧
    (let s := laned 0 [(Weatas.LANE_STAT_RX_STATE, 2), (Weatas.LINK_STAT_STATE, 3)];
      s.rxState 0 = 2 ∧ s.linkState 0 = 3 ∧ (s.adapt 0 ⟨9, 3, [256], 0⟩).snrHolds 0 steady = true) ∧
    (let s := laned 0 [(Weatas.LANE_STAT_RX_STATE, 4)]; s.rxState 0 = 3 ∨ s.rxState 0 = 4) ∧
    (let s := laned 0 [(Weatas.LINK_STAT_STATE, 6)] { trial := 19, best := some (7, 2, 3) };
      s.linkState 0 = 6 ∧ (s.lane 0).final = false ∧ (s.lane 0).eqSent = none ∧ (s.lane 0).trial < 20 ∧
      (s.adapt 0 ⟨9, 3, [256], 0⟩).slicer 0 steady = (70368744177664, 0) ∧ (s.lane 0).best = some (7, 2, 3)) := by
  refine ⟨List.length_replicate, ⟨by decide +kernel, by decide +kernel, ?_⟩, by decide +kernel, by decide +kernel, by decide +kernel, by decide +kernel,
    by decide +kernel, ?_, by decide +kernel⟩
  · rw [State.snrHolds, State.slicer, steady, snrWindow, slicerSums_steady]
    decide +kernel
  · rw [State.slicer, steady, snrWindow, slicerSums_steady]
    decide +kernel

/-- Witnesses of StepRunsTheFrontCommand. -/
theorem test_stepRunsTheFrontCommand : (
    (let c : Instr := .sleepDrained; let r : List Instr := [.bootDone]; let s : State := { lit with pending := [.sleepDrained, .bootDone] };
     decide (s.pending = c :: r)) &&
    (let s : State := lit;
     decide (s.pending = []))) = true := by decide +kernel

/-- Witnesses of EveryStepKeepsTheCanonicalForm. -/
theorem test_everyStepKeepsTheCanonicalForm : (
    (let s : State := { lit with pending := [.sleepDrained] }; let t : State := { lit with pending := [] };
     s.canonical && gives (step s) t)) = true := by decide +kernel

/-- Witnesses of RegisterWritesFollowTheAccessCode. -/
theorem test_registerWritesFollowTheAccessCode : (
    (let req : Requester := .host0; let pg : Fin 0x1400 := 0x10; let off : Fin 0x4000000 := 65572; let s : State := lit;
     ((pageRef pg).isSome) && (s.takesWrite req off) && decide (off.val = regOff pg Hdr.EVT_EN_ENABLE)) &&
    (let req : Requester := .lp3; let pg : Fin 0x1400 := 0x100; let off : Fin 0x4000000 := 0x100020;
    let s : State := lit.put 0x100 Hdr.EVT_STAT_EVENT 0x80000003;
     ((pageRef pg).isSome) && (s.takesWrite req off) && decide (off.val = regOff pg Hdr.EVT_STAT_EVENT) && (s.fits pg Hdr.EVT_STAT_EVENT)) &&
    (let req : Requester := .host0; let pg : Fin 0x1400 := 0x200; let off : Fin 0x4000000 := 0x200034; let s : State := lit;
     ((pageRef pg).isSome) && (s.takesWrite req off) && decide (off.val = regOff pg Hdr.COMMIT_TIDE_TIDE)) &&
    (let req : Requester := .lp0; let pg : Fin 0x1400 := 0x100; let off : Fin 0x4000000 := 0x10003E; let k : Fin 4 := 1; let s : State := lit;
     ((pageRef pg).isSome) && (s.takesWrite req off) && decide (off.val / 0x1000 = pg) && decide (off.val % 0x1000 < 0x40) && decide (k.val < 2) &&
     decide (off.val % 2 ^ k.val = 0)) &&
    (let req : Requester := .host1; let off : Fin 0x4000000 := 0x200034; let s : State := lit;
     decide (s.reaches req = false ∨ isFastOff off = true))) = true := by decide +kernel

/-- Witnesses of LoggedAccessesAreCountedAndTheFirstIsRecorded. -/
theorem test_loggedAccessesAreCountedAndTheFirstIsRecorded : (
    (let req : Requester := .lp2; let off : Fin 0x4000000 := 0x3FFFFFC; let k : Fin 4 := 2; let write : Bool := false; let c : Nat := 4;
    let s : State := lit.put 0x1 Chip.ACC_ERR_COUNT_COUNT 0xFFFFFFFF;
     decide (s.accessCause write off (2 ^ k.val) = some c) && (s.reaches req) && decide (write = true → s.terminal = false) &&
     !(s.flag 0x1 Chip.ACC_ERR_INFO_VALID) && !(write)) &&
    (let req : Requester := .lp2; let off : Fin 0x4000000 := 0x100040; let k : Fin 4 := 2; let write : Bool := false; let c : Nat := 7;
    let s : State := State.reset.puts [(0x1, Chip.ACC_ERR_INFO_VALID, 1)];
     decide (s.accessCause write off (2 ^ k.val) = some c) && (s.reaches req) && decide (write = true → s.terminal = false) &&
     (s.flag 0x1 Chip.ACC_ERR_INFO_VALID) && !(write))) = true := by decide +kernel

/-- Witnesses of TimeWordsAreCapturedTogether. -/
theorem test_timeWordsAreCapturedTogether : (
    (let req : Requester := .host0; let off : Fin 0x4000000 := 0x10040; let s : State := { lit with time := { c := 2 ^ 40 + 5, preset := 9 } };
     decide (off.val = 0x10040) && (s.servesRead req 0x10040)) &&
    (let req : Requester := .host0; let off : Fin 0x4000000 := 0x10044; let i : Nat := 1; let v : Nat := 256;
    let s : State := lit.holdCapture .host0 0x10040 [5, 256, 0, 5, 0, 0, 5, 0, 0, 5, 0, 11];
     decide (0 < i) && decide (i < 12) && decide (off.val = 0x10040 + 4 * i) && (s.servesRead req off) &&
     decide (s.captured req 0x10040 off = some v) && decide (v < 2 ^ 32)) &&
    (let i : Nat := 3;
     decide (i < 4))) = true := by decide +kernel

/-- Witnesses of CommitArmsAndDisarmsAPage. -/
theorem test_commitArmsAndDisarmsAPage : (
    (let req : Requester := .host0; let pg : Fin 0x1400 := 0x100; let w : Word := 3; let s : State := lit;
     (s.serves req (regOff pg Hdr.COMMIT_ARM)) && !(w.getLsbD 30)) &&
    (let req : Requester := .host0; let pg : Fin 0x1400 := 0x100; let w : Word := 0xC800003F;
    let s : State := lit.puts [(0x100, Hdr.COMMIT_CAPTURED, 1), (0x100, Hdr.COMMIT_GROUP, 5), (0x100, Hdr.COMMIT_DONE, 1)];
     (s.serves req (regOff pg Hdr.COMMIT_ARM)) && (w.getLsbD 30)) &&
    (let req : Requester := .host0; let pg : Fin 0x1400 := 0x100; let w : Word := 0x40000003;
    let s : State := lit.puts [(0x100, Hdr.COMMIT_PENDING, 1)];
     (s.serves req (regOff pg Hdr.COMMIT_DISARM)) && !(w.getLsbD 31)) &&
    (let req : Requester := .host0; let pg : Fin 0x1400 := 0x100; let w : Word := 0xC0000003;
    let s : State := lit.puts [(0x100, Hdr.COMMIT_PENDING, 1)];
     (s.serves req (regOff pg Hdr.COMMIT_DISARM)) && (w.getLsbD 31))) = true := by decide +kernel

/-- Witnesses of GroupArmsAreHeldOrDropped. -/
theorem test_groupArmsAreHeldOrDropped : (
    (let req : Requester := .host0; let g : Fin 64 := 63; let w : Word := 0x80000000; let s : State := lit;
     (s.serves req (regOff grpPage (Tidemark.GRP_CTRL_ARM.nth g))) && !(w.getLsbD 30) && decide (w.toNat % 8 = s.grpFamily g) && !(s.planLive)) &&
    (let req : Requester := .host0; let g : Fin 64 := 3; let w : Word := 0x80000002;
    let s : State := planned (lit.put grpPage (Tidemark.GRP_CTRL_FAMILY.nth 3) 2) (planOf [] []);
     (s.serves req (regOff grpPage (Tidemark.GRP_CTRL_ARM.nth g))) && !(w.getLsbD 30) && decide (w.toNat % 8 = s.grpFamily g) &&
     decide (s.planLive = true ∧ s.famActive (s.grpFamily g) = false) && s.planLive && decide (s.grpFamily g < 4) && !(s.famActive (s.grpFamily g))) &&
    (let req : Requester := .host0; let g : Fin 64 := 3; let w : Word := 0xA0000000; let s : State := planned lit (planOf [] []);
     (s.serves req (regOff grpPage (Tidemark.GRP_CTRL_ARM.nth g))) && !(w.getLsbD 30) && decide (w.toNat % 8 = s.grpFamily g) &&
     decide (s.planLive = true ∧ s.famActive (s.grpFamily g) = true ∧ signedDiff (s.get grpPage (Tidemark.GRP_TARGET_TARGET.nth g)) (s.famTide (s.grpFamily g)) ≤ 0) &&
     s.planLive && decide (s.grpFamily g < 4) && (s.famActive (s.grpFamily g)) && (w.getLsbD 29) &&
     decide (signedDiff (s.get grpPage (Tidemark.GRP_TARGET_TARGET.nth g)) (s.famTide (s.grpFamily g)) ≤ 0)) &&
    (let req : Requester := .host0; let g : Fin 64 := 3; let w : Word := 0x80000000; let s : State := planned lit (planOf [] []);
     (s.serves req (regOff grpPage (Tidemark.GRP_CTRL_ARM.nth g))) && !(w.getLsbD 30) && decide (w.toNat % 8 = s.grpFamily g) &&
     decide (s.planLive = true ∧ w.getLsbD 29 = false) && s.planLive && decide (s.grpFamily g < 4 → s.famActive (s.grpFamily g) = true) &&
     !(w.getLsbD 29)) &&
    (let req : Requester := .host0; let g : Fin 64 := 0; let w : Word := 0xC0000000; let s : State := { lit with commit := { swArm := [0] } };
     (s.serves req (regOff grpPage (Tidemark.GRP_CTRL_ARM.nth g))) && (w.getLsbD 30)) &&
    (let req : Requester := .host0; let g : Fin 64 := 5; let w : Word := 0x40000000;
    let s : State := { lit with commit := { swArm := [5, 6], devArm := some 5 } };
     (s.serves req (regOff grpPage (Tidemark.GRP_CTRL_DISARM.nth g))) && !(w.getLsbD 31))) = true := by decide +kernel

/-- Witnesses of WithoutAPlanAnArmedGroupCommitsWithTideZero. -/
theorem test_withoutAPlanAnArmedGroupCommitsWithTideZero : (
    (let g : Fin 64 := 7;
    let s : State := { lit.puts [(0x100, Hdr.COMMIT_PENDING, 1), (0x100, Hdr.COMMIT_GROUP, 7)] with commit := { swArm := [7] } };
     !(s.planLive) && !(s.heldByPlan g) && (s.commit.swArm.contains g.val))) = true := by decide +kernel

/-- Witnesses of TideBoundariesCountTheFamilysTide. -/
theorem test_tideBoundariesCountTheFamilysTide : (
    (let f : Fin 4 := 0; let s : State := planned lit (planOf [] []); let p : Plan := (planOf [] []);
     decide (s.tide.livePlan = some p) && decide (s.tide.begun.getD f 0 < (p.family f).n) &&
     (List.range 64).all (fun g => !s.grpFlag Tidemark.GRP_STAT_CAPTURED g) && decide (s.tide.drained = []) && decide (s.tide.begun.length = 4))) = true := by decide +kernel

/-- Witnesses of SpringBoundariesCountTheSpringTide. -/
theorem test_springBoundariesCountTheSpringTide : (
    (let s : State := { planned lit (planOf [] []) with tide := { livePlan := some (planOf [] []), famEver := 3, famStarted := 3, begun := [2, 1, 0, 0], springEver := true } };
    let p : Plan := (planOf [] []);
     decide (s.tide.livePlan = some p) && decide ((p.active.all fun f => s.tide.begun.getD f 0 == (p.family f).n) = true) && !(s.power.planEnds) &&
     !(s.tide.stagedCaptured) &&
     (List.range 64).all (fun g => !s.grpFlag Tidemark.GRP_STAT_CAPTURED g) && decide (s.tide.drained = []) && decide (s.tide.begun.length = 4))) = true := by decide +kernel

/-- Witnesses of AStagedPlanGoesLiveAtItsFirstBoundary. -/
theorem test_aStagedPlanGoesLiveAtItsFirstBoundary : (
    (let f : Fin 4 := 0; let s : State := { lit.put 0x11 Tidemark.PLAN_STATE_STATE 3 with tide := { staged := some (planOf [] []) } };
    let p : Plan := (planOf [] []);
     decide (s.tide.staged = some p) && !(s.planLive) && decide (s.planState = 3) && decide ((p.family f).n ≠ 0) && decide (s.tide.begun.length = 4))) = true := by decide +kernel

/-- Witnesses of SlackWindowsOpen. -/
theorem test_slackWindowsOpen : (
    (let f : Fin 4 := 0; let s : State := planned lit (planOf [] []); let p : Plan := (planOf [] []);
     decide (s.tide.livePlan = some p) && decide ((p.family f).n ≠ 0) && !(s.inSlack f) && (s.famRuns f))) = true := by decide +kernel

/-- Witnesses of PlansTakeAndReleaseTheirPower. -/
theorem test_plansTakeAndReleaseTheirPower : (
    (let s : State := { lit.put 0x11 Tidemark.PLAN_STATE_STATE 2 with tide := { staged := some (planOf [] []) } }; let p : Plan := (planOf [] []);
     decide (s.tide.staged = some p) && decide (s.planState = 2) && ((closure s.x16 (p.domains s.x16)).all s.powered) && !(s.springMissed p)) &&
    (let s : State := { lit.put 0x11 Tidemark.PLAN_STATE_STATE 2 with tide := { staged := some ({ planOf [] [] with atSpring := true }), livePlan := some (planOf [] []) } };
    let p : Plan := ({ planOf [] [] with atSpring := true });
     decide (s.tide.staged = some p) && decide (s.planState = 2) && ((closure s.x16 (p.domains s.x16)).all s.powered) && (s.springMissed p)) &&
    (let d : Fin 96 := 53; let s : State := { lit with tide := { livePlan := some (planOf [] []), draining := [53] } };
     (s.tide.draining.contains d.val) && (s.domainEmpty d) && s.planLive) &&
    (let d : Fin 96 := 0; let s : State := { lit with tide := { draining := [0], drained := [0] } };
     (s.tide.draining.contains d.val) && (s.domainEmpty d) && !(s.planLive))) = true := by decide +kernel

/-- Witnesses of EnablesTakeEffectAtOnceOrFollowThePlan. -/
theorem test_enablesTakeEffectAtOnceOrFollowThePlan : (
    (let req : Requester := .host0; let pg : Fin 0x1400 := 0x100; let w : Word := 1; let s : State := lit; let r : PageRef := ⟨.weatas, 0, 0⟩;
     decide (pageRef pg = some r) && !(r.block.planEnabled) && (s.serves req (regOff pg Hdr.CTRL_EN)) && !(w.getLsbD 1)) &&
    (let req : Requester := .host0; let pg : Fin 0x1400 := 0x1000; let w : Word := 1; let s : State := lit;
     decide (0x1000 ≤ pg.val) && (s.serves req (regOff pg Hdr.CTRL_EN)) && !(w.getLsbD 1)) &&
    (let req : Requester := .host0; let pg : Fin 0x1400 := 0x400; let off : Fin 0x4000000 := 0x400018; let s : State := lit;
    let r : PageRef := ⟨.cove, 0, 0⟩;
     decide (pageRef pg = some r) && r.block.planEnabled && decide (off.val = regOff pg Hdr.CTRL_EN) && (s.reaches req) &&
     (s.fits r.base Hdr.CTRL_PWR_REQ))) = true := by decide +kernel

/-- Witnesses of BlockResetsRunOrAreRefused. -/
theorem test_blockResetsRunOrAreRefused : (
    (let req : Requester := .lp1; let pg : Fin 0x1400 := 0x1234; let s : State := planned lit (planOf [] []);
     decide (0x1000 ≤ pg.val) && (s.serves req (regOff pg Hdr.CTRL_RST)) && s.planLive) &&
    (let req : Requester := .lp1; let pg : Fin 0x1400 := 0x100; let s : State := lit; let r : PageRef := ⟨.weatas, 0, 0⟩;
     decide (pageRef pg = some r) && (s.serves req (regOff pg Hdr.CTRL_RST)) && !(s.planLive) && !(s.resetting r)) &&
    (let pg : Fin 0x1400 := 0x100; let s : State := { lit with power := { lit.power with resetting := [(⟨.weatas, 0, 0⟩ : PageRef).base] } };
    let r : PageRef := ⟨.weatas, 0, 0⟩;
     decide (pageRef pg = some r) && (s.resetting r))) = true := by decide +kernel

/-- Witnesses of FaultsAreAcknowledgedAndQuietWindowsClose. -/
theorem test_faultsAreAcknowledgedAndQuietWindowsClose : (
    (let req : Requester := .host0; let pg : Fin 0x1400 := 0x100; let w : Word := 0x20; let s : State := lit.put 0x100 Hdr.FLT_STAT_FAULT 0x21;
    let b : Nat := 5;
     ((pageRef pg).isSome) && (s.reaches req) && !(isFastOff (regOff pg Hdr.FLT_ACK_ACK)) && decide (b < 32) && (w.getLsbD b) && (s.fltBit pg b)) &&
    (let req : Requester := .host0; let pg : Fin 0x1400 := 0x100;
    let s : State := { lit.put 0x100 Hdr.FLT_STAT_FAULT 0x27 with flt := [(0x100, { present := 1, unack := 7 })] };
    let r : PageRef := ⟨.weatas, 0, 0⟩;
     decide (pageRef pg = some r) && (s.reaches req) && !(isFastOff (regOff pg Hdr.FLT_ACK_ACK)) && decide (r.block ≠ .csiRx) &&
     decide (pg.val ≠ 0x20) && decide (pg.val ≠ 0xC)) &&
    (let pg : Fin 0x1400 := 0x101; let s : State := { lit with fault := { quiet := [(0x101, 5)] } }; let r : PageRef := ⟨.weatas, 1, 0⟩;
    let t : State := after (.quietWindowClose pg) s;
     decide (pageRef pg = some r) && ((s.fault.quiet.any fun x => x.1 == r.base)) && decide (t.fault.quiet = []))) = true := by decide +kernel

/-- Witnesses of LaneReceiverAdapts. -/
theorem test_laneReceiverAdapts : (
    (let n : Fin 32 := 0; let step : EqStep := .vga [1]; let intrude : Bool := true;
    let s : State := laned 0 [(Weatas.LANE_STAT_RX_STATE, 3), (Weatas.LINK_STAT_STATE, 9)];
     decide (s.rxState n = 3) && decide (s.linkState n = 9) && (s.quietFor n 64) && (s.stepAllowed n step) && intrude) &&
    (let n : Fin 32 := 0; let step : EqStep := .peak 1; let intrude : Bool := true;
    let s : State := laned 0 [(Weatas.LANE_STAT_RX_STATE, 3), (Weatas.LINK_STAT_STATE, 9)];
     decide (s.rxState n = 3) && decide (s.linkState n = 9) && (s.quietFor n 64) && (s.stepAllowed n step) && intrude) &&
    (let n : Fin 32 := 0; let step : EqStep := .ffe [(23, 1)]; let intrude : Bool := true;
    let s : State := laned 0 [(Weatas.LANE_STAT_RX_STATE, 3), (Weatas.LINK_STAT_STATE, 9)];
     decide (s.rxState n = 3) && decide (s.linkState n = 9) && (s.quietFor n 64) && (s.stepAllowed n step) && intrude) &&
    (let n : Fin 32 := 0; let step : EqStep := .h1 1; let intrude : Bool := true;
    let s : State := laned 0 [(Weatas.LANE_STAT_RX_STATE, 3), (Weatas.LINK_STAT_STATE, 9)];
     decide (s.rxState n = 3) && decide (s.linkState n = 9) && (s.quietFor n 64) && (s.stepAllowed n step) && intrude) &&
    (let n : Fin 32 := 7; let s : State := laned 7 [(Weatas.LANE_STAT_RX_STATE, 3)];
     decide (s.rxState n = 3)) &&
    (let n : Fin 32 := 7; let s : State := laned 7 [(Weatas.LANE_STAT_RX_STATE, 1)];
     decide (s.rxState n ≠ 3)) &&
    (let req : Requester := .host0; let n : Fin 32 := 0; let s : State := laned 0 [(Weatas.LANE_STAT_RX_STATE, 3)];
     (s.serves req (regOff (wePage n) Weatas.RX_ADAPT_FREEZE)) && decide (s.rxState n = 3)) &&
    (let req : Requester := .host0; let n : Fin 32 := 0; let s : State := laned 0 [(Weatas.LANE_STAT_RX_STATE, 4), (Weatas.RX_ADAPT_FREEZE, 1)];
     (s.serves req (regOff (wePage n) Weatas.RX_ADAPT_FREEZE)) && decide (s.rxState n = 4)) &&
    (let req : Requester := .host0; let n : Fin 32 := 0; let s : State := laned 0 [(Weatas.LANE_STAT_RX_STATE, 2)];
     (s.serves req (regOff (wePage n) Weatas.RX_ADAPT_FREEZE)) && decide (s.rxState n < 3)) &&
    (let n : Fin 32 := 0; let s : State := laned 0 [(Weatas.LANE_STAT_RX_STATE, 4)] { manual := [(fieldKey (wePage 0) Weatas.RX_CTLE_VGA, 9)] };
     decide (s.rxState n = 3 ∨ s.rxState n = 4) && (s.quietFor n 64))) = true := by decide +kernel

/-- Witnesses of LaneTransmittersAreSet. -/
theorem test_laneTransmittersAreSet : (
    (let n : Fin 32 := 0; let next : List Int := [];
    let s : State := laned 0 [(Weatas.LINK_STAT_STATE, 9), (Weatas.FAR_TXEQ_REQ_AUTO, 0), (Weatas.FAR_TXEQ_REQ_SWING, 40)] { eqDue := true, farMax := (30, 10, 6) };
     decide (s.linkState n = 9) && (s.farOpen n next) && ((s.lane n).eqDue) &&
     decide ((clampFar (s.lane n).farMax (if s.flag (wePage n) Weatas.FAR_TXEQ_REQ_AUTO then (s.lane n).farNow else s.farRequest n)).2 ≠ 0)) &&
    (let n : Fin 32 := 0; let next : List Int := [];
    let s : State := laned 0 [(Weatas.LINK_STAT_STATE, 9), (Weatas.FAR_TXEQ_REQ_AUTO, 1), (Weatas.LANE_STAT_RX_STATE, 3)] { farMax := (30, 10, 6), farNow := (30, 0, 5) };
     decide (s.linkState n = 9) && (s.farOpen n next) && !((s.lane n).eqDue) && (s.flag (wePage n) Weatas.FAR_TXEQ_REQ_AUTO) &&
     decide (s.rxState n = 3) && decide (((s.lane n).farAt.all fun c => decide (c + 100000000 ≤ s.time.c)) = true))) = true := by decide +kernel

/-- Witnesses of LineMonitorClassifiesAndHolds. -/
theorem test_lineMonitorClassifiesAndHolds : (
    (let n : Fin 32 := 0; let code : Fin 4096 := 4095; let s : State := laned 0 [(Weatas.LM_CFG_DIV, 16), (Weatas.LM_CFG_ENABLE, 0)];
     (s.ready ⟨.weatas, n, 0⟩) && !(s.flag (wePage n) Weatas.LM_CFG_ENABLE) && decide (monitorMv code (s.get (wePage n) Weatas.LM_CFG_DIV) < 65536) &&
     decide (s.get (wePage n) Weatas.LM_CFG_GROUP < 8)) &&
    (let n : Fin 32 := 0; let code : Fin 4096 := 4095; let feedCode : Fin 4096 := 2000;
    let s : State := laned 0 [(Weatas.LM_CFG_ENABLE, 1), (Weatas.LM_DEBOUNCE_SCANS, 1)] {};
    let vLine : Int := monitorMv 4095 (s.get (wePage 0) Weatas.LM_CFG_DIV);
    let vFeed : Int := monitorMv 2000 (s.get (wePage (4 * s.get (wePage 0) Weatas.LM_CFG_GROUP)) Weatas.LM_FEED_CFG_DIV);
    let iLine : Int := Int.tdiv (((monitorMv 2000 (s.get (wePage (4 * s.get (wePage 0) Weatas.LM_CFG_GROUP)) Weatas.LM_FEED_CFG_DIV) : Int) - (monitorMv 4095 (s.get (wePage 0) Weatas.LM_CFG_DIV) : Int)) * 1000) (s.get (wePage 0) Weatas.LM_CFG_RSENSE);
    let c : Nat := s.classify 0 (monitorMv 4095 (s.get (wePage 0) Weatas.LM_CFG_DIV)) (monitorMv 2000 (s.get (wePage (4 * s.get (wePage 0) Weatas.LM_CFG_GROUP)) Weatas.LM_FEED_CFG_DIV)) (Int.tdiv (((monitorMv 2000 (s.get (wePage (4 * s.get (wePage 0) Weatas.LM_CFG_GROUP)) Weatas.LM_FEED_CFG_DIV) : Int) - (monitorMv 4095 (s.get (wePage 0) Weatas.LM_CFG_DIV) : Int)) * 1000) (s.get (wePage 0) Weatas.LM_CFG_RSENSE));
    let run : Nat := (if (s.lane n).scanClass = c then (s.lane n).scanRun + 1 else 1);
     (s.ready ⟨.weatas, n, 0⟩) && (s.flag (wePage n) Weatas.LM_CFG_ENABLE) && decide (vLine = monitorMv code (s.get (wePage n) Weatas.LM_CFG_DIV)) &&
     decide (vFeed = monitorMv feedCode (s.get (wePage (4 * s.get (wePage n) Weatas.LM_CFG_GROUP)) Weatas.LM_FEED_CFG_DIV)) &&
     decide (iLine = Int.tdiv ((vFeed - vLine) * 1000) (s.get (wePage n) Weatas.LM_CFG_RSENSE)) && decide (c = s.classify n vLine vFeed iLine) &&
     decide (s.get (wePage n) Weatas.LM_CFG_GROUP < 8) && decide (run = (if (s.lane n).scanClass = c then (s.lane n).scanRun + 1 else 1)) &&
     decide (s.get (wePage n) Weatas.LM_DEBOUNCE_SCANS ≤ run) && decide (s.get (wePage n) Weatas.LM_STAT_CLASS ≠ c) && (isHolding c)) &&
    (let n : Fin 32 := 0; let code : Fin 4096 := 2000; let feedCode : Fin 4096 := 2010;
    let s : State := laned 0 [(Weatas.LM_CFG_ENABLE, 1), (Weatas.LM_DEBOUNCE_SCANS, 2), (Weatas.LM_CAM_VCAM_MIN, 60000)] { scanClass := 5, scanRun := 1 };
    let vLine : Int := monitorMv 2000 (s.get (wePage 0) Weatas.LM_CFG_DIV);
    let vFeed : Int := monitorMv 2010 (s.get (wePage (4 * s.get (wePage 0) Weatas.LM_CFG_GROUP)) Weatas.LM_FEED_CFG_DIV);
    let iLine : Int := Int.tdiv (((monitorMv 2010 (s.get (wePage (4 * s.get (wePage 0) Weatas.LM_CFG_GROUP)) Weatas.LM_FEED_CFG_DIV) : Int) - (monitorMv 2000 (s.get (wePage 0) Weatas.LM_CFG_DIV) : Int)) * 1000) (s.get (wePage 0) Weatas.LM_CFG_RSENSE);
    let c : Nat := s.classify 0 (monitorMv 2000 (s.get (wePage 0) Weatas.LM_CFG_DIV)) (monitorMv 2010 (s.get (wePage (4 * s.get (wePage 0) Weatas.LM_CFG_GROUP)) Weatas.LM_FEED_CFG_DIV)) (Int.tdiv (((monitorMv 2010 (s.get (wePage (4 * s.get (wePage 0) Weatas.LM_CFG_GROUP)) Weatas.LM_FEED_CFG_DIV) : Int) - (monitorMv 2000 (s.get (wePage 0) Weatas.LM_CFG_DIV) : Int)) * 1000) (s.get (wePage 0) Weatas.LM_CFG_RSENSE));
    let run : Nat := (if (s.lane n).scanClass = c then (s.lane n).scanRun + 1 else 1);
     (s.ready ⟨.weatas, n, 0⟩) && (s.flag (wePage n) Weatas.LM_CFG_ENABLE) && decide (vLine = monitorMv code (s.get (wePage n) Weatas.LM_CFG_DIV)) &&
     decide (vFeed = monitorMv feedCode (s.get (wePage (4 * s.get (wePage n) Weatas.LM_CFG_GROUP)) Weatas.LM_FEED_CFG_DIV)) &&
     decide (iLine = Int.tdiv ((vFeed - vLine) * 1000) (s.get (wePage n) Weatas.LM_CFG_RSENSE)) && decide (c = s.classify n vLine vFeed iLine) &&
     decide (s.get (wePage n) Weatas.LM_CFG_GROUP < 8) && decide (run = (if (s.lane n).scanClass = c then (s.lane n).scanRun + 1 else 1)) &&
     decide (s.get (wePage n) Weatas.LM_DEBOUNCE_SCANS ≤ run) && decide (s.get (wePage n) Weatas.LM_STAT_CLASS ≠ c) && decide (c = 5) &&
     !(isHolding c)) &&
    (let n : Fin 32 := 0; let code : Fin 4096 := 4095; let feedCode : Fin 4096 := 2000;
    let s : State := laned 0 [(Weatas.LM_CFG_ENABLE, 1), (Weatas.LM_DEBOUNCE_SCANS, 4)] {};
    let vLine : Int := monitorMv code (s.get (wePage n) Weatas.LM_CFG_DIV);
    let vFeed : Int := monitorMv feedCode (s.get (wePage (4 * s.get (wePage n) Weatas.LM_CFG_GROUP)) Weatas.LM_FEED_CFG_DIV);
    let iLine : Int := Int.tdiv ((vFeed - vLine) * 1000) (s.get (wePage n) Weatas.LM_CFG_RSENSE); let c : Nat := s.classify n vLine vFeed iLine;
    let run : Nat := (if (s.lane n).scanClass = c then (s.lane n).scanRun + 1 else 1);
     (s.ready ⟨.weatas, n, 0⟩) && (s.flag (wePage n) Weatas.LM_CFG_ENABLE) && decide (vLine = monitorMv code (s.get (wePage n) Weatas.LM_CFG_DIV)) &&
     decide (vFeed = monitorMv feedCode (s.get (wePage (4 * s.get (wePage n) Weatas.LM_CFG_GROUP)) Weatas.LM_FEED_CFG_DIV)) &&
     decide (iLine = Int.tdiv ((vFeed - vLine) * 1000) (s.get (wePage n) Weatas.LM_CFG_RSENSE)) && decide (c = s.classify n vLine vFeed iLine) &&
     decide (s.get (wePage n) Weatas.LM_CFG_GROUP < 8) && decide (run = (if (s.lane n).scanClass = c then (s.lane n).scanRun + 1 else 1)) &&
     decide (run < s.get (wePage n) Weatas.LM_DEBOUNCE_SCANS)) &&
    (let req : Requester := .host0; let n : Fin 32 := 0; let s : State := laned 0 [(Weatas.LM_STAT_HOLD, 1), (Weatas.LM_STAT_CLASS, 3)];
     (s.serves req (regOff (wePage n) Weatas.LM_STAT_RELEASE)) && (isHolding (s.get (wePage n) Weatas.LM_STAT_CLASS))) &&
    (let req : Requester := .host0; let n : Fin 32 := 0; let s : State := laned 0 [(Weatas.LM_STAT_HOLD, 1), (Weatas.LM_STAT_CLASS, 1)];
     (s.serves req (regOff (wePage n) Weatas.LM_STAT_RELEASE)) && !(isHolding (s.get (wePage n) Weatas.LM_STAT_CLASS)))) = true := by decide +kernel

/-- Witnesses of TestPatternsRun. -/
theorem test_testPatternsRun : (
    (let req : Requester := .host0; let n : Fin 32 := 0; let w : Word := 0x80000001; let s : State := laned 0 [];
     (s.serves req (regOff (wePage n) Weatas.PRBS_GEN_EN)) && (w.getLsbD 31) && !(s.flag (wePage n) Weatas.PRBS_GEN_EN) && !(s.linkOperating n)) &&
    (let req : Requester := .host0; let n : Fin 32 := 0; let w : Word := 0xC0000001; let s : State := laned 0 [(Weatas.LINK_STAT_STATE, 9)];
     (s.serves req (regOff (wePage n) Weatas.PRBS_GEN_EN)) && (w.getLsbD 31) && !(s.flag (wePage n) Weatas.PRBS_GEN_EN) && (s.linkOperating n)) &&
    (let req : Requester := .host0; let n : Fin 32 := 0; let w : Word := 0; let s : State := laned 0 [(Weatas.PRBS_GEN_EN, 1)];
     (s.serves req (regOff (wePage n) Weatas.PRBS_GEN_EN)) && !(w.getLsbD 31)) &&
    (let req : Requester := .host0; let n : Fin 32 := 0; let w : Word := 0x80000001; let s : State := laned 0 [(Weatas.PRBS_GEN_EN, 1)];
     (s.serves req (regOff (wePage n) Weatas.PRBS_INJ_GO)) && (w.getLsbD 31) && (s.fits (wePage n) Weatas.PRBS_INJ_KIND) &&
     (s.flag (wePage n) Weatas.PRBS_GEN_EN)) &&
    (let req : Requester := .host0; let n : Fin 32 := 0; let w : Word := 0x80000001; let s : State := laned 0 [];
     (s.serves req (regOff (wePage n) Weatas.PRBS_INJ_GO)) && (w.getLsbD 31) && (s.fits (wePage n) Weatas.PRBS_INJ_KIND) &&
     !(s.flag (wePage n) Weatas.PRBS_GEN_EN)) &&
    (let n : Fin 32 := 0; let s : State := laned 0 [] { injections := [⟨0, 1, 1, 0⟩, ⟨1, 1, 1, 0⟩] }; let i : Injection := ⟨0, 1, 1, 0⟩;
    let r : List Injection := [⟨1, 1, 1, 0⟩];
     decide ((s.lane n).injections = i :: r)) &&
    (let req : Requester := .host0; let n : Fin 32 := 0; let w : Word := 0x80000001;
    let s : State := laned 0 [(Weatas.PRBS_ERRS_ERRS, 9), (Weatas.PRBS_CHK_LOCKED, 1)];
     (s.serves req (regOff (wePage n) Weatas.PRBS_CHK_EN)) && (w.getLsbD 31) && !(s.flag (wePage n) Weatas.PRBS_CHK_EN)) &&
    (let req : Requester := .host0; let n : Fin 32 := 0; let w : Word := 0x00000001;
    let s : State := laned 0 [(Weatas.PRBS_CHK_EN, 1), (Weatas.PRBS_CHK_LOCKED, 1)];
     (s.serves req (regOff (wePage n) Weatas.PRBS_CHK_EN)) && !(w.getLsbD 31)) &&
    (let n : Fin 32 := 0; let s : State := laned 0 [(Weatas.PRBS_CHK_EN, 1)];
     (s.flag (wePage n) Weatas.PRBS_CHK_EN) && !(s.flag (wePage n) Weatas.PRBS_CHK_LOCKED)) &&
    (let n : Fin 32 := 0; let errs : Nat := 128;
    let s : State := laned 0 [(Weatas.PRBS_CHK_EN, 1), (Weatas.PRBS_CHK_LOCKED, 1), (Weatas.PRBS_ERRS_ERRS, 0xFFFFFFFF)];
     (s.flag (wePage n) Weatas.PRBS_CHK_LOCKED) && decide (errs ≤ 1024) && decide (128 ≤ errs))) = true := by decide +kernel

/-- Witnesses of CodewordsAndMarkersAreJudged. -/
theorem test_codewordsAndMarkersAreJudged : (
    (let n : Fin 32 := 0;
    let s : State := laned 0 [(Weatas.LINK_STAT_STATE, 4), (Weatas.FEC_CW_LO_CW, 0xFFFFFFFF), (Weatas.FEC_CW_HI_CW, 0xFFFFFFFF)] { uncorrRun := 3 };
     (s.decoding n)) &&
    (let n : Fin 32 := 0; let word : List Nat := (((((List.replicate 144 0).set 5 9).set 6 1).set 7 2).set 143 3).set 0 7;
    let s : State := laned 0 [(Weatas.LINK_STAT_STATE, 4), (Weatas.FEC_CW_LO_CW, 0xFFFFFFFF), (Weatas.FEC_CW_HI_CW, 0xFFFFFFFF)] { uncorrRun := 3 };
     (s.decoding n) && decide (rsDecode (word.map (· % 1024)) = none)) &&
    (let n : Fin 32 := 0; let s : State := laned 0 [(Weatas.LINK_STAT_STATE, 9)];
     (s.decoding n) && decide (s.linkState n = 9)) &&
    (let n : Fin 32 := 0; let sync : Fin 4 := 1; let b : List Byte := marker 0 5 1; let spaced : Bool := true;
    let s : State := laned 0 [(Weatas.LINK_STAT_STATE, 9), (Weatas.LINK_CTRL_CAM_RETRAIN, 0)];
    let run : Nat := (if 0 < (s.lane n).run ∧ spaced = true ∧ fieldLE b 2 2 = ((s.lane n).lastSf + 1) % 65536 then (s.lane n).run + 1 else 1);
     (s.decoding n) &&
     decide (run = (if 0 < (s.lane n).run ∧ spaced = true ∧ fieldLE b 2 2 = ((s.lane n).lastSf + 1) % 65536 then (s.lane n).run + 1 else 1)) &&
     decide (s.flag (wePage n) Weatas.LINK_CTRL_CAM_RETRAIN = false ∨ hasBit (fieldLE b 4 1) 1 = false) && (markerOk sync b) &&
     decide (fieldLE b 1 1 = s.get (wePage n) Weatas.LINK_STAT_EPOCH)) &&
    (let n : Fin 32 := 0; let sync : Fin 4 := 1; let b : List Byte := marker 1 5 0; let spaced : Bool := true;
    let s : State := laned 0 [(Weatas.LINK_STAT_STATE, 9), (Weatas.LINK_CTRL_CAM_RETRAIN, 0)];
    let run : Nat := (if 0 < (s.lane n).run ∧ spaced = true ∧ fieldLE b 2 2 = ((s.lane n).lastSf + 1) % 65536 then (s.lane n).run + 1 else 1);
     (s.decoding n) &&
     decide (run = (if 0 < (s.lane n).run ∧ spaced = true ∧ fieldLE b 2 2 = ((s.lane n).lastSf + 1) % 65536 then (s.lane n).run + 1 else 1)) &&
     decide (s.flag (wePage n) Weatas.LINK_CTRL_CAM_RETRAIN = false ∨ hasBit (fieldLE b 4 1) 1 = false) && (markerOk sync b) &&
     decide (fieldLE b 1 1 ≠ s.get (wePage n) Weatas.LINK_STAT_EPOCH)) &&
    (let n : Fin 32 := 0; let sync : Fin 4 := 0; let b : List Byte := marker 0 6 1; let spaced : Bool := true;
    let s : State := laned 0 [(Weatas.LINK_STAT_STATE, 9)] { run := 1, lastSf := 5 };
    let run : Nat := (if 0 < (s.lane n).run ∧ spaced = true ∧ fieldLE b 2 2 = ((s.lane n).lastSf + 1) % 65536 then (s.lane n).run + 1 else 1);
     (s.decoding n) &&
     decide (run = (if 0 < (s.lane n).run ∧ spaced = true ∧ fieldLE b 2 2 = ((s.lane n).lastSf + 1) % 65536 then (s.lane n).run + 1 else 1)) &&
     decide (s.flag (wePage n) Weatas.LINK_CTRL_CAM_RETRAIN = false ∨ hasBit (fieldLE b 4 1) 1 = false) && !(markerOk sync b)) &&
    (let n : Fin 32 := 0; let s : State := laned 0 [(Weatas.LINK_STAT_STATE, 10)];
     decide (s.linkState n = 10)) &&
    (let n : Fin 32 := 0;
    let s : State := laned 0 [(Weatas.FEC_CFG_UNCORR_MAX, 2)] { uncorrWindow := 3, load := { seen := 7, busy := 3 }, bcGroups := 100 };
     decide ((s.lane n).load.busy ≤ (s.lane n).load.seen) && decide ((s.lane n).bcGroups ≤ 160000) &&
     decide (s.get (wePage n) Weatas.FEC_CFG_UNCORR_MAX < (s.lane n).uncorrWindow) && !(s.flag (wePage n) Weatas.LINK_CTRL_FEC_RETRAIN)) &&
    (let n : Fin 32 := 0;
    let s : State := laned 0 [(Weatas.FEC_CFG_UNCORR_MAX, 2), (Weatas.LINK_STAT_STATE, 9), (Weatas.LINK_CTRL_FEC_RETRAIN, 1)] { uncorrWindow := 3, bcGroups := 160000 };
     decide ((s.lane n).load.busy ≤ (s.lane n).load.seen) && decide ((s.lane n).bcGroups ≤ 160000) &&
     decide (s.get (wePage n) Weatas.FEC_CFG_UNCORR_MAX < (s.lane n).uncorrWindow) && (s.flag (wePage n) Weatas.LINK_CTRL_FEC_RETRAIN) &&
     (s.linkOperating n))) = true := by decide +kernel

/-- Witnesses of ForwardPacketsReachTheirUse. -/
theorem test_forwardPacketsReachTheirUse : (
    (let n : Fin 32 := 0;
    let p : ForwardPacket := { header := [0x78, 0x30, 10, 0, 0, 0, 0, 0], payload := [], broken := false, start := 100, stop := 200 };
    let s : State := laned 0 [(Weatas.LINK_STAT_STATE, 9)];
     decide (5 ≤ s.linkState n) && decide (s.linkState n ≤ 9) && !(p.headerOk)) &&
    (let n : Fin 32 := 0;
    let p : ForwardPacket := { header := headed [0x78, 0x30, 10, 0, 0, 0], payload := checked [1, 0, 0, 0, 0, 0, 0, 0], broken := false, start := 100, stop := 200 };
    let s : State := laned 0 [(Weatas.LINK_STAT_STATE, 9)]; let len : Nat := 10; let payload : List Byte := checked [1, 0, 0, 0, 0, 0, 0, 0];
     decide (5 ≤ s.linkState n) && decide (s.linkState n ≤ 9) && p.headerOk && !(p.more) && !(p.broken) && decide ((s.lane n).inPacket = none) &&
     decide (len = fieldLE p.header 2 2) && decide (payload = p.payload.take len) && (kindAllowed (s.linkState n) p.kind) &&
     (lenOk p.kind len payload) && decide (fieldLE payload (len - 2) 2 = crc16 (payload.take (len - 2))) &&
     decide (p.kind = 3 ∨ p.kind = 6 ∨ p.kind = 7)) &&
    (let n : Fin 32 := 0;
    let p : ForwardPacket := { header := headed [0x78, 0x40, 10, 0, 0, 0], payload := checked [1, 0, 0, 0, 0, 0, 0, 0], broken := false, start := 100, stop := 200 };
    let s : State := laned 0 [(Weatas.LINK_STAT_STATE, 9)]; let len : Nat := 10; let payload : List Byte := checked [1, 0, 0, 0, 0, 0, 0, 0];
     decide (5 ≤ s.linkState n) && decide (s.linkState n ≤ 9) && p.headerOk && !(p.more) && !(p.broken) && decide ((s.lane n).inPacket = none) &&
     decide (len = fieldLE p.header 2 2) && decide (payload = p.payload.take len) && (kindAllowed (s.linkState n) p.kind) &&
     (lenOk p.kind len payload) && decide (fieldLE payload (len - 2) 2 = crc16 (payload.take (len - 2))) && decide (p.kind = 4 ∨ p.kind = 5)) &&
    (let n : Fin 32 := 0;
    let s : State := laned 0 [(Weatas.LINK_STAT_STATE, 5)] { inbox := [⟨7, [1, 3, 40, 6, 12, 2, 0, 0, 9, 0, 0, 0, 0, 0, 0, 0] ++ List.replicate 14 0, 5⟩] };
    let p : LanePacket := ⟨7, [1, 3, 40, 6, 12, 2, 0, 0, 9, 0, 0, 0, 0, 0, 0, 0] ++ List.replicate 14 0, 5⟩;
     decide ((s.lane n).inbox.find? (·.kind == 7) = some p) && decide (s.linkState n = 5) && (capOk p.payload) &&
     (hasBit (fieldLE p.payload 1 1) (s.laneMode n))) &&
    (let n : Fin 32 := 0;
    let s : State := laned 0 [(Weatas.LINK_STAT_STATE, 5)] { inbox := [⟨7, [2, 3, 40, 6, 12, 2, 0, 0, 9, 0, 0, 0, 0, 0, 0, 0] ++ List.replicate 14 0, 5⟩] };
    let p : LanePacket := ⟨7, [2, 3, 40, 6, 12, 2, 0, 0, 9, 0, 0, 0, 0, 0, 0, 0] ++ List.replicate 14 0, 5⟩;
     decide ((s.lane n).inbox.find? (·.kind == 7) = some p) && decide (s.linkState n = 5) && !(capOk p.payload)) &&
    (let n : Fin 32 := 0;
    let s : State := laned 0 [(Weatas.LINK_STAT_STATE, 5)] { inbox := [⟨7, [1, 2, 40, 6, 12, 2, 0, 0, 9, 0, 0, 0, 0, 0, 0, 0] ++ List.replicate 14 0, 5⟩] };
    let p : LanePacket := ⟨7, [1, 2, 40, 6, 12, 2, 0, 0, 9, 0, 0, 0, 0, 0, 0, 0] ++ List.replicate 14 0, 5⟩;
     decide ((s.lane n).inbox.find? (·.kind == 7) = some p) && decide (s.linkState n = 5) && (capOk p.payload) &&
     !(hasBit (fieldLE p.payload 1 1) (s.laneMode n))) &&
    (let n : Fin 32 := 0;
    let s : State := laned 0 [(Weatas.LINK_STAT_STATE, 9)] { inbox := [⟨3, [1, 16, 0, 0, 0, 0, 0, 0], 1000⟩], probe := some (1, some 500) };
    let p : LanePacket := ⟨3, [1, 16, 0, 0, 0, 0, 0, 0], 1000⟩; let id : Nat := 1; let tOut : Nat := 500;
     decide ((s.lane n).inbox.find? (·.kind == 3) = some p) && decide ((s.lane n).probe = some (id, some tOut)) &&
     decide (fieldLE p.payload 0 1 = id) && decide (s.linkState n = 9) && decide (0 ≤ (p.stamp : Int) - tOut) &&
     decide ((p.stamp : Int) - tOut < 2 ^ 32)) &&
    (let n : Fin 32 := 0;
    let s : State := laned 0 [(Weatas.LINK_STAT_STATE, 9), (Weatas.FAR_TXEQ_REQ_AUTO, 0)] { inbox := [⟨6, [20, 4, 8, 0], 9⟩], eqSent := some (20, 4, 8) };
    let p : LanePacket := ⟨6, [20, 4, 8, 0], 9⟩; let y : FarSetting := (20, 4, 8);
     decide ((s.lane n).inbox.find? (·.kind == 6) = some p) && decide (y = (fieldLE p.payload 0 1, fieldLE p.payload 1 1, fieldLE p.payload 2 1)) &&
     decide ((s.lane n).eqSent = some y) && decide (s.linkState n = 9) && !(s.flag (wePage n) Weatas.FAR_TXEQ_REQ_AUTO))) = true := by decide +kernel

/-- Witnesses of BackChannelMessagesAreSent. -/
theorem test_backChannelMessagesAreSent : (
    (let n : Fin 32 := 0; let at_ : Nat := 100; let s : State := laned 0 [(Weatas.LINK_STAT_STATE, 9)] { queue := [⟨5, [1]⟩] };
    let m : BcMessage := ⟨5, [1]⟩;
     decide ((s.lane n).nextMessage (s.linkState n) = some m) && !(s.terminal) &&
     !(((s.lane n).fsyncs.any fun f => decide (f.depart - 1200 < (s.stampAt at_ : Int) + 200)))) &&
    (let n : Fin 32 := 0; let at_ : Nat := 100;
    let s : State := laned 0 [(Weatas.LINK_STAT_STATE, 9), (Weatas.LINK_CTRL_CAM_RETRAIN, 0)] { queue := [⟨5, [1]⟩], fsyncs := [⟨1, 0, 100, 900, 3⟩] };
     decide (s.terminal = true ∨ ((s.lane n).fsyncs.any fun f => decide (f.depart - 1200 < (s.stampAt at_ : Int) + 200)) = true)) &&
    (let n : Fin 32 := 0;
    let s : State := live1 0 (laned 0 [(Weatas.LINK_STAT_STATE, 9), (Weatas.FSYNC_COUNT_SENT, 0xFFFF)] { fsyncs := [⟨1, 0, 100, 2900, 3⟩] });
    let f : Fsync := ⟨1, 0, 100, 2900, 3⟩; let r : List Fsync := [];
     decide ((s.lane n).fsyncs = f :: r) && !(s.fsyncMisses n f) && (s.syncGate n)) &&
    (let n : Fin 32 := 0; let s : State := laned 0 [(Weatas.LINK_STAT_STATE, 9)] { fsyncs := [⟨1, 0, 100, 2900, 3⟩] };
    let f : Fsync := ⟨1, 0, 100, 2900, 3⟩; let r : List Fsync := [];
     decide ((s.lane n).fsyncs = f :: r) && decide (s.fsyncMisses n f = true ∨ s.syncGate n = false))) = true := by decide +kernel

/-- Witnesses of LinksTrain. -/
theorem test_linksTrain : (
    (let n : Fin 32 := 0; let s : State := laned 0 [(Weatas.LINK_STAT_STATE, 2)] {};
     decide (s.linkState n = 2)) &&
    (let n : Fin 32 := 0; let s : State := laned 0 [(Weatas.LINK_STAT_STATE, 2)] {};
     decide (s.linkState n = 2)) &&
    (let n : Fin 32 := 0; let s : State := laned 0 [(Weatas.LINK_STAT_STATE, 7)] {};
     decide (s.linkState n = 7 ∨ (s.linkState n = 9 ∧ s.get (wePage n) Weatas.PROBE_CFG_PERIOD_MS ≠ 0)) && decide ((s.lane n).probe = none)) &&
    (let n : Fin 32 := 0; let s : State := laned 0 [(Weatas.LINK_STAT_STATE, 8)] {};
     decide (s.linkState n = 8) && !((s.lane n).verifyBad)) &&
    (let n : Fin 32 := 0; let s : State := laned 0 [(Weatas.LINK_STAT_STATE, 3)] {};
     decide ((3 ≤ s.linkState n ∧ s.linkState n ≤ 7) ∨ (s.linkState n = 8 ∧ (s.lane n).verifyBad = true))) &&
    (let n : Fin 32 := 0; let s : State := laned 0 [(Weatas.LINK_STAT_STATE, 11)] {};
     decide (s.linkState n = 11)) &&
    (let n : Fin 32 := 0; let s : State := laned 0 [(Weatas.LINK_STAT_STATE, 9)] { probe := some (4, some 5), lostRun := 3 };
     ((s.lane n).probe.isSome) && decide (s.linkState n = 9) && decide (4 ≤ (s.lane n).lostRun + 1)) &&
    (let req : Requester := .host0; let n : Fin 32 := 0; let w : Word := 0x80000000; let s : State := laned 0 [(Weatas.LINK_STAT_STATE, 9)];
     (s.serves req (regOff (wePage n) Weatas.LINK_CTRL_RETRAIN)) && decide (2 ≤ s.linkState n) && !(w.getLsbD 30) && !(w.getLsbD 29) &&
     (s.linkOperating n))) = true := by decide +kernel

/-- Witnesses of LinkTestsStartAndStop. -/
theorem test_linkTestsStartAndStop : (
    (let req : Requester := .host0; let n : Fin 32 := 0; let w : Word := 0x40000000; let s : State := laned 0 [(Weatas.LINK_STAT_STATE, 2)];
     (s.serves req (regOff (wePage n) Weatas.LINK_CTRL_TEST_START)) && decide (2 ≤ s.linkState n) && !(w.getLsbD 31) && !(w.getLsbD 29)) &&
    (let req : Requester := .host0; let n : Fin 32 := 0; let w : Word := 0x20000000; let s : State := laned 0 [(Weatas.LINK_STAT_STATE, 12)];
     (s.serves req (regOff (wePage n) Weatas.LINK_CTRL_TEST_STOP)) && decide (s.linkState n = 12) && !(w.getLsbD 31) && !(w.getLsbD 30)) &&
    (let n : Fin 32 := 0; let s : State := laned 0 [(Weatas.LINK_STAT_STATE, 12)];
     decide (s.linkState n = 12) && !(s.flag (wePage n) Weatas.PRBS_CHK_LOCKED))) = true := by decide +kernel

/-- Witnesses of CsiReceptionIsCheckedAndPassedOn. -/
theorem test_csiReceptionIsCheckedAndPassedOn : (
    (let n : Fin 8 := 0; let s : State := paged (rxPage 0) [(Hdr.CTRL_EN, 1)];
     (s.rxEnabled n)) &&
    (let n : Fin 8 := 0; let s : State := paged (rxPage 0) [(Hdr.CTRL_EN, 1)];
     (s.rxEnabled n) && !(s.flag (rxPage n) CsiRx.RX_STAT_DESKEWED)) &&
    (let n : Fin 8 := 0; let sync : SyncSequence := .bad; let s : State := paged (rxPage 0) [(Hdr.CTRL_EN, 1), (CsiRx.RX_STAT_DESKEWED, 1)];
     (s.rxEnabled n) && (s.flag (rxPage n) CsiRx.RX_STAT_DESKEWED) && decide (sync = .bad)) &&
    (let n : Fin 8 := 0; let s : State := paged (rxPage 0) [(Hdr.CTRL_EN, 1), (CsiRx.RX_STAT_DESKEWED, 1), (CsiRx.RX_ERR2_DT_DROP, 65535)];
     (s.rxEnabled n)) &&
    (let n : Fin 8 := 0; let sync : SyncSequence := .oneBit; let aligned : Bool := false;
    let s : State := paged (rxPage 0) [(Hdr.CTRL_EN, 1), (CsiRx.RX_STAT_DESKEWED, 1)];
     (s.rxEnabled n) && (s.flag (rxPage n) CsiRx.RX_STAT_DESKEWED) && decide (sync = .oneBit) && decide (sync ≠ .bad) && !(aligned)) &&
    (let n : Fin 8 := 0; let s : State := live1 128 (paged (rxPage 0) [(Hdr.CTRL_EN, 1), (CsiRx.RX_STAT_DESKEWED, 1)]);
     (s.rxEnabled n)) &&
    (let n : Fin 8 := 0; let s : State := paged (rxPage 0) [(Hdr.CTRL_EN, 1), (CsiRx.RX_CFG_CONT_CLK, 1)];
     (s.rxEnabled n) && (s.flag (rxPage n) CsiRx.RX_CFG_CONT_CLK) && !(s.condBit (rxPage n) 1) && (s.ready ⟨.inlet, 32 + n, 0⟩)) &&
    (let n : Fin 8 := 0; let s : State := { lit.puts [(rxPage 0, Hdr.FLT_STAT_FAULT, 2)] with flt := [(rxPage 0, { present := 2 })] };
     (s.condBit (rxPage n) 1)) &&
    (let n : Fin 8 := 0; let lane : Fin 4 := 0; let enter : Bool := true; let s : State := lit;
     (s.ready ⟨.csiRx, n, 0⟩) && (hasBit (s.rxLanes n) lane) && decide (hasBit (s.get (rxPage n) CsiRx.RX_STAT_ULPS) lane = !enter))) = true := by decide +kernel

/-- Witnesses of TransmitSlotsSendTheirFrames. -/
theorem test_transmitSlotsSendTheirFrames : (
    (let m : Fin 2 := 0; let k : Fin 4 := 0; let u : PortUnit := { stream := 3, seq := 1, line := 0, off := 0, bytes := [1, 2, 3] };
    let s : State := { ((paged (txPage 0) [(Hdr.CTRL_EN, 1)]).put 0x5 Chip.CLK_STAT_LOCKED 255).puts' [(txPage 0, CsiTx.TX_OUT_CFG_PACE.nth 0, 1)] with csiTx := [(0, { slots := [(0, { bound := some (3, 0, 9, false) })], wire := [] })] };
    let b : Nat × Nat × Bool := (0, 9, false);
     decide ((s.txSlot m k).bound = some (u.key / 2 ^ 32, b)) && (s.txEnabled m) && !(s.txSentinel m k u.key) &&
     !((s.txSlot m k).ended.contains u.key) && decide ((s.txSlot m k).frames = []) && decide ((s.tx m).wire = []) && !(u.record) && !(u.withheld) &&
     decide ((s.txFields m k u.key).getD 0 0 = 1)) &&
    (let m : Fin 2 := 0; let k : Fin 4 := 0; let u : PortUnit := { stream := 3, seq := 1, line := 0, off := 0, bytes := [1, 2, 3] };
    let s : State := { ((paged (txPage 0) [(Hdr.CTRL_EN, 1)]).put 0x5 Chip.CLK_STAT_LOCKED 255).puts' [(txPage 0, CsiTx.TX_OUT_CFG_VC.nth 0, 2)] with csiTx := [(0, { slots := [(0, { bound := some (3, 0, 9, false) })], wire := [] })] };
    let b : Nat × Nat × Bool := (0, 9, false);
     decide ((s.txSlot m k).bound = some (u.key / 2 ^ 32, b)) && (s.txEnabled m) && !(s.txSentinel m k u.key) &&
     !((s.txSlot m k).ended.contains u.key) && decide ((s.txSlot m k).frames = []) && decide ((s.tx m).wire = []) && !(u.record) && !(u.withheld) &&
     decide ((s.txFields m k u.key).getD 0 0 ≠ 1) && decide (u.line = 0) && decide ((s.txFields m k u.key).getD 1 0 = 0)) &&
    (let m : Fin 2 := 0; let k : Fin 4 := 0; let h : Fin 2 := 0; let begun : Nat := 0;
    let u : PortUnit := { stream := 3, seq := 1, line := 0, off := 0, bytes := [1, 2, 3] };
    let s : State := ({ ((paged (txPage 0) [(Hdr.CTRL_EN, 1)]).put 0x5 Chip.CLK_STAT_LOCKED 255).puts' [] with csiTx := [(0, { slots := [(0, { bound := some (3, 0, 9, true), accepted := [(12884901889, 0)] })], wire := [] })] }).put 0x40 Seawall.SW_STAT_ACTING 1;
     (s.txCarries m k u.key) && (s.txSentinel m k u.key) && (s.txEnabled m) && (s.actedAt h u.stream begun) &&
     ((s.txSlot m k).accepted.contains (u.key, u.line))) &&
    (let m : Fin 2 := 0; let k : Fin 4 := 0; let seq : Nat := 65535;
    let s : State := { ((paged (txPage 0) [(Hdr.CTRL_EN, 1)]).put 0x5 Chip.CLK_STAT_LOCKED 255).puts' [(txPage 0, CsiTx.TX_OUT_CFG_PACE.nth 0, 1), (txPage 0, CsiTx.TX_OUT_CFG_VC.nth 0, 2)] with csiTx := [(0, { slots := [(0, { bound := some (3, 0, 9, false) })], wire := [] })] };
    let key : Nat := s.txKey m k seq;
     decide (key = s.txKey m k seq) && (s.txEnabled m) && (s.txCarries m k key) && decide ((s.txFields m k key).getD 0 0 = 1) &&
     !((s.txSlot m k).ended.contains key) && decide ((s.txSlot m k).frames = []) && decide ((s.tx m).wire = [])) &&
    (let m : Fin 2 := 0; let k : Fin 4 := 0; let seq : Nat := 1;
    let s : State := { ((paged (txPage 0) [(Hdr.CTRL_EN, 1)]).put 0x5 Chip.CLK_STAT_LOCKED 255).puts' [(txPage 0, CsiTx.TX_OUT_CFG_PACE.nth 0, 1)] with csiTx := [(0, { slots := [(0, { bound := some (3, 0, 9, true), frames := [{ key := 12884901889, started := true }] })], wire := [] })] };
    let key : Nat := s.txKey m k seq; let i : Nat := 0; let f : TxFrame := { key := 12884901889, started := true };
     decide (key = s.txKey m k seq) && (s.txEnabled m) && decide ((s.txFields m k key).getD 0 0 = 1) && !((s.txSlot m k).ended.contains key) &&
     decide ((s.txSlot m k).frames = [f]) && decide (f.key = key) && f.started && decide (f.slots = []) &&
     decide ((s.txFields m k key).getD 1 0 = 0) && decide ((s.tx m).wire = []) && decide (f.lines.find? (fun l => l.1 == i) = none)) &&
    (let m : Fin 2 := 0; let k : Fin 4 := 0; let seq : Nat := 1;
    let s : State := { ((paged (txPage 0) [(Hdr.CTRL_EN, 1)]).put 0x5 Chip.CLK_STAT_LOCKED 255).puts' [(txPage 0, CsiTx.TX_OUT_CFG_PACE.nth 0, 1)] with csiTx := [(0, { slots := [(0, { bound := some (3, 0, 9, true), frames := [{ key := 12884901889, started := true, lines := [(0, [1, 2]), (1, [3])] }] })], wire := [] })] };
    let key : Nat := s.txKey m k seq; let f : TxFrame := { key := 12884901889, started := true, lines := [(0, [1, 2]), (1, [3])] };
     decide (key = s.txKey m k seq) && (s.txEnabled m) && decide ((s.txFields m k key).getD 0 0 = 1) && !((s.txSlot m k).ended.contains key) &&
     decide ((s.txSlot m k).frames = [f]) && decide (f.key = key) && f.started && decide (f.slots = []) &&
     decide ((s.txFields m k key).getD 1 0 = 0) && decide ((s.tx m).wire = [])) &&
    (let m : Fin 2 := 0; let k : Fin 4 := 0; let seq : Nat := 1;
    let s : State := { ((paged (txPage 0) [(Hdr.CTRL_EN, 1)]).put 0x5 Chip.CLK_STAT_LOCKED 255).puts' [] with csiTx := [(0, { slots := [(0, { bound := some (3, 0, 9, true), frames := [{ key := 12884901889, started := true, slots := [.line 0] }] })], wire := [] })] };
    let key : Nat := s.txKey m k seq; let i : Nat := 0; let f : TxFrame := { key := 12884901889, started := true, slots := [.line 0] };
     decide (key = s.txKey m k seq) && (s.txEnabled m) && (s.txSentinel m k key) && decide (s.txFrame m k key = some f) && f.started &&
     (f.slots.contains (.line i)) && decide ((s.txSlot m k).hold.filter (fun e => e.1 == key / 2 ^ 32) = none)) &&
    (let m : Fin 2 := 0; let k : Fin 4 := 0; let seq : Nat := 1;
    let s : State := { ((paged (txPage 0) [(Hdr.CTRL_EN, 1)]).put 0x5 Chip.CLK_STAT_LOCKED 255).puts' [(txPage 0, CsiTx.TX_OUT_HOLD_HOLD_MAX.nth 0, 3)] with csiTx := [(0, { slots := [(0, { bound := some (3, 0, 9, true), frames := [{ key := 12884901889, started := true, slots := [.line 0] }], hold := some (3, [7, 8]), heldRun := 1 })], wire := [] })] };
    let key : Nat := s.txKey m k seq; let i : Nat := 0; let f : TxFrame := { key := 12884901889, started := true, slots := [.line 0] };
     decide (key = s.txKey m k seq) && (s.txEnabled m) && (s.txSentinel m k key) && decide (s.txFrame m k key = some f) && f.started &&
     (f.slots.contains (.line i))) &&
    (let m : Fin 2 := 0;
    let s : State := { ((paged (txPage 0) [(Hdr.CTRL_EN, 1)]).put 0x5 Chip.CLK_STAT_LOCKED 255).puts' [] with csiTx := [(0, { slots := [(0, {})], wire := [{ bytes := [1], slot := 0, hold := some (3, [1]) }, { bytes := [2], slot := 0 }] })] };
    let p : TxPacket := { bytes := [1], slot := 0, hold := some (3, [1]) }; let r : List TxPacket := [{ bytes := [2], slot := 0 }];
     decide ((s.tx m).wire = p :: r)) &&
    (let m : Fin 2 := 0;
    let s : State := { ((paged (txPage 0) [(Hdr.CTRL_EN, 1)]).put 0x5 Chip.CLK_STAT_LOCKED 255).puts' [] with csiTx := [(0, { slots := [(0, {})], wire := [{ bytes := [2], slot := 1 }] })] };
    let p : TxPacket := { bytes := [2], slot := 1 }; let r : List TxPacket := [];
     decide ((s.tx m).wire = p :: r) && decide (r = [] ∨ s.terminal = true))) = true := by decide +kernel

/-- Witnesses of FrameSyncEdgesAndTriggers. -/
theorem test_frameSyncEdgesAndTriggers : (
    (let i : Fin 8 := 0;
    let s : State := { (live1 128 (paged (rxPage 0) [(CsiRx.LFS_CFG_EN, 1), (CsiRx.LFS_CFG_WIDTH_NS, 50)])).puts [(0xA, Chip.GPIO_CFG_FUNC.nth 5, 2), (0xA, Chip.GPIO_CFG_FIDX.nth 5, 0)] with csiRx := [(0, { edges := [(320, 4), (640, 5)] })] };
    let at_ : Int := 320; let tide : Nat := 4; let r : List (Int × Nat) := [(640, 5)];
     decide ((s.csi i).edges = (at_, tide) :: r) && (s.hasBall 2 i) && (s.lfsDrives i) && (s.syncGate (32 + i))) &&
    (let i : Fin 8 := 0;
    let s : State := { (live1 128 (paged (rxPage 0) [(CsiRx.LFS_CFG_EN, 1), (CsiRx.LFS_SENT_COUNT, 0xFFFFFFFF)])).puts [(0xA, Chip.GPIO_CFG_FUNC.nth 5, 2), (0xA, Chip.GPIO_CFG_FIDX.nth 5, 0)] with csiRx := [(0, { edges := [(320, 4)] })], syncs := [(32, { decisions := [{ tide := 4, reason := 0, rho := 0, anchor := 0, unit := 0, bias := 0, sens := 0, row := 0, refRow := 0, sofLat := 0, slipUs := 0, cable := 0 }] })] };
    let at_ : Int := 320; let tide : Nat := 4; let r : List (Int × Nat) := [];
     decide ((s.csi i).edges = (at_, tide) :: r) && (s.hasBall 2 i) && (s.lfsDrives i) && (s.syncGate (32 + i)) && decide (r = [])) &&
    (let i : Fin 8 := 0; let s : State := { live1 128 (paged (rxPage 0) [(CsiRx.LFS_CFG_EN, 1)]) with csiRx := [(0, { edges := [(320, 4)] })] };
    let at_ : Int := 320; let tide : Nat := 4; let r : List (Int × Nat) := [];
     decide ((s.csi i).edges = (at_, tide) :: r) && !(s.hasBall 2 i) &&
     decide (s.hasBall 2 i = false ∨ s.lfsDrives i = false ∨ s.syncGate (32 + i) = false)) &&
    (let i : Fin 8 := 0;
    let s : State := { (live1 128 (paged (rxPage 0) [])).puts [(0xA, Chip.GPIO_CFG_FUNC.nth 5, 2), (0xA, Chip.GPIO_CFG_FIDX.nth 5, 0)] with csiRx := [(0, { edges := [(320, 4)] })], syncs := [(32, { decisions := [{ tide := 4, reason := 0, rho := 0, anchor := 0, unit := 0, bias := 0, sens := 0, row := 0, refRow := 0, sofLat := 0, slipUs := 0, cable := 0 }] })] };
    let at_ : Int := 320; let tide : Nat := 4; let r : List (Int × Nat) := [];
     decide ((s.csi i).edges = (at_, tide) :: r) && decide (s.hasBall 2 i = false ∨ s.lfsDrives i = false ∨ s.syncGate (32 + i) = false)) &&
    (let i : Fin 8 := 0; let level : Bool := true;
    let s : State := { (paged (rxPage 0) [(CsiRx.LFS_CFG_EN, 1)]).puts [(0xA, Chip.GPIO_CFG_FUNC.nth 5, 2), (0xA, Chip.GPIO_CFG_FIDX.nth 5, 0)] with csiRx := [(0, { pulse := some (1, 2) })] };
     (s.lfsDrives i) && (s.hasBall 2 i) && decide (s.lfsLevel i = level ∨ (s.flag (rxPage i) CsiRx.LFS_CFG_OD = true ∧ level = true))) &&
    (let i : Fin 8 := 0; let level : Bool := false;
    let s : State := { (paged (rxPage 0) [(CsiRx.LFS_CFG_EN, 1)]).puts [(0xA, Chip.GPIO_CFG_FUNC.nth 5, 2), (0xA, Chip.GPIO_CFG_FIDX.nth 5, 0)] with csiRx := [(0, { pulse := some (1, 2) })] };
     (s.lfsDrives i) && (s.hasBall 2 i) && decide (s.lfsLevel i ≠ level) && decide (s.flag (rxPage i) CsiRx.LFS_CFG_OD = false ∨ level = false)) &&
    (let n : Fin 8 := 0; let falling : Bool := true;
    let s : State := (paged (rxPage 0) [(CsiRx.TRIG_CFG_EN, 1), (CsiRx.TRIG_CFG_EDGE, 2)]).puts [(0xA, Chip.GPIO_CFG_FUNC.nth 5, 3), (0xA, Chip.GPIO_CFG_FIDX.nth 5, 0)];
     (s.flag (rxPage n) CsiRx.TRIG_CFG_EN) && (s.hasBall 3 n) &&
     decide (s.get (rxPage n) CsiRx.TRIG_CFG_EDGE = 2 ∨ s.get (rxPage n) CsiRx.TRIG_CFG_EDGE = bit falling) &&
     decide ((s.csi n).triggers.length < 16) && decide ((s.csi n).triggers = [])) &&
    (let n : Fin 8 := 0; let falling : Bool := false;
    let s : State := { (paged (rxPage 0) [(CsiRx.TRIG_CFG_EN, 1), (CsiRx.TRIG_CFG_EDGE, 0)]).puts [(0xA, Chip.GPIO_CFG_FUNC.nth 5, 3), (0xA, Chip.GPIO_CFG_FIDX.nth 5, 0)] with csiRx := [(0, { triggers := List.replicate 16 (1, true) })] };
     (s.flag (rxPage n) CsiRx.TRIG_CFG_EN) && (s.hasBall 3 n) &&
     decide (s.get (rxPage n) CsiRx.TRIG_CFG_EDGE = 2 ∨ s.get (rxPage n) CsiRx.TRIG_CFG_EDGE = bit falling) &&
     decide (16 ≤ (s.csi n).triggers.length)) &&
    (let req : Requester := .host0; let n : Fin 8 := 0;
    let s : State := { lit with csiRx := [(0, { triggers := [(4294967301, true), (9, false)] })] };
     (s.servesRead req (regOff (rxPage n) CsiRx.TRIG_TIME_LO_TIME)) && decide ((s.csi n).triggers.length ≤ 16)) &&
    (let req : Requester := .lp3; let n : Fin 8 := 7; let s : State := lit.put (rxPage 7) CsiRx.TRIG_STAT_COUNT 3;
     (s.servesRead req (regOff (rxPage n) CsiRx.TRIG_TIME_LO_TIME)) && decide ((s.csi n).triggers.length ≤ 16) && decide ((s.csi n).triggers = []))) = true := by decide +kernel

/-- Witnesses of FramesOpenAndCloseAtTheInlet. -/
theorem test_framesOpenAndCloseAtTheInlet : (
    (let n : Fin 40 := 0; let s : State := { live1 0 lit with ports := [(0, { inbox := [item .frameStart 0] })] };
    let i : InletItem := item .frameStart 0; let r : List InletItem := []; let p : Plan := planOf [strm 0] [⟨128, 0, 0, 0⟩];
    let e : PlanStream := strm 0; let x : Nat := 4 * n + i.vc;
     decide ((s.port n).inbox = i :: r) && decide (i.kind = .frameStart) && decide (i.vc < 4) && decide (s.claimer n i.vc = none) &&
     decide (x = 4 * n + i.vc) && decide (s.tide.livePlan = some p) && decide (s.streamPlan x = some e) &&
     decide ((s.stream x).lastTide ≠ some (s.famTide e.family)) && !((s.stream x).gapDue) && !(s.inlineHeld e) &&
     decide (s.stLive x StreamTab.ST_ROUTE_EN ≠ 0) && (e.parts).any (fun c => (decide (c < 16) && decide (s.partStarts e c = true))) &&
     !decide (e.isMemory = true) || (s.frames).all (fun f => decide (f.stream ≠ x))) &&
    (let n : Fin 40 := 0;
    let s : State := { (live1 0 (lit.put (stPage 0) StreamTab.ST_STAT_STATE 1)).puts' [(stPage 0, StreamTab.ST_ROUTE_EN.nth 0, 1)] with ports := [(0, { inbox := [item .frameStart 0] })], streams := [(0, { plan := some (strm 0), num := 1, lastTide := some 0 })] };
    let i : InletItem := item .frameStart 0; let r : List InletItem := []; let p : Plan := planOf [strm 0] [⟨128, 0, 0, 0⟩];
    let e : PlanStream := strm 0; let x : Nat := 4 * n + i.vc;
     decide ((s.port n).inbox = i :: r) && decide (i.kind = .frameStart) && decide (i.vc < 4) && decide (s.claimer n i.vc = none) &&
     decide (x = 4 * n + i.vc) && decide (s.tide.livePlan = some p) && decide (s.streamPlan x = some e) &&
     ((decide ((s.stream x).lastTide = some (s.famTide e.family))) || (decide ((s.stream x).gapDue = true)) || decide (s.inlineHeld e = true) || decide (s.stLive x StreamTab.ST_ROUTE_EN = 0) || ((e.parts).all (fun c => decide (s.partStarts e c = false))))) &&
    (let n : Fin 40 := 0; let s : State := { live1 0 lit with ports := [(0, { inbox := [item .pixel 0 0x2C (List.replicate 12 3)] })] };
    let i : InletItem := item .pixel 0 0x2C (List.replicate 12 3); let r : List InletItem := []; let e : PlanStream := strm 0;
    let u : Nat := (s.claimer n i.vc).getD i.vc; let x : Nat := 4 * n + u; let row : Nat := 0; let j : Nat := 0;
    let taken : Nat := (s.stream x).counts.foldl (· + ·) 0;
     decide ((s.port n).inbox = i :: r) && decide (i.kind = .pixel) && decide (i.vc < 4) && decide (u = (s.claimer n i.vc).getD i.vc) &&
     decide (x = 4 * n + u) && decide (s.framePlan x = some e) && decide (e.stream = x) && decide (taken = (s.stream x).counts.foldl (· + ·) 0) &&
     decide ((row, j) = (if Latch.field (s.stream x).latch (inPage n) (Inlet.IN_VC_CFG_EXP_VC.nth u) = 1 ∧ u + e.exposures ≤ 4 then ((s.stream x).counts.getD (i.vc - u) 0, i.vc - u) else (taken / e.exposures, taken % e.exposures))) &&
     decide (s.streamState x ≠ 1)) &&
    (let n : Fin 40 := 0;
    let s : State := { live1 0 (lit.put (stPage 0) StreamTab.ST_STAT_STATE 1) with ports := [(0, { inbox := [item .pixel 0 0x2C (List.replicate 12 3)] })], streams := [(0, { plan := some (strm 0), num := 1, parts := [⟨0, none, 0⟩], counts := [4, 0, 0, 0], latch := [(liveKey (stPage 0) (StreamTab.ST_ROUTE_ERR_END.nth 0), 0)] })] };
    let i : InletItem := item .pixel 0 0x2C (List.replicate 12 3); let r : List InletItem := []; let e : PlanStream := strm 0;
    let u : Nat := (s.claimer n i.vc).getD i.vc; let x : Nat := 4 * n + u; let row : Nat := 4; let j : Nat := 0;
    let taken : Nat := (s.stream x).counts.foldl (· + ·) 0;
     decide ((s.port n).inbox = i :: r) && decide (i.kind = .pixel) && decide (i.vc < 4) && decide (u = (s.claimer n i.vc).getD i.vc) &&
     decide (x = 4 * n + u) && decide (s.framePlan x = some e) && decide (e.stream = x) && decide (taken = (s.stream x).counts.foldl (· + ·) 0) &&
     decide ((row, j) = (if Latch.field (s.stream x).latch (inPage n) (Inlet.IN_VC_CFG_EXP_VC.nth u) = 1 ∧ u + e.exposures ≤ 4 then ((s.stream x).counts.getD (i.vc - u) 0, i.vc - u) else (taken / e.exposures, taken % e.exposures))) &&
     decide (s.streamState x = 1) && decide (e.activeLines ≤ row)) &&
    (let n : Fin 40 := 0;
    let s : State := { live1 0 (lit.put (stPage 0) StreamTab.ST_STAT_STATE 1) with ports := [(0, { inbox := [item .pixel 0 0x2C (List.replicate 11 3)] })], streams := [(0, { plan := some (strm 0), num := 1, parts := [⟨0, none, 0⟩], counts := [3, 0, 0, 0], latch := [(liveKey (stPage 0) (StreamTab.ST_ROUTE_ERR_END.nth 0), 0)] })] };
    let i : InletItem := item .pixel 0 0x2C (List.replicate 11 3); let r : List InletItem := []; let e : PlanStream := strm 0;
    let u : Nat := (s.claimer n i.vc).getD i.vc; let x : Nat := 4 * n + u; let row : Nat := 3; let j : Nat := 0;
    let taken : Nat := (s.stream x).counts.foldl (· + ·) 0;
     decide ((s.port n).inbox = i :: r) && decide (i.kind = .pixel) && decide (i.vc < 4) && decide (u = (s.claimer n i.vc).getD i.vc) &&
     decide (x = 4 * n + u) && decide (s.framePlan x = some e) && decide (e.stream = x) && decide (taken = (s.stream x).counts.foldl (· + ·) 0) &&
     decide ((row, j) = (if Latch.field (s.stream x).latch (inPage n) (Inlet.IN_VC_CFG_EXP_VC.nth u) = 1 ∧ u + e.exposures ≤ 4 then ((s.stream x).counts.getD (i.vc - u) 0, i.vc - u) else (taken / e.exposures, taken % e.exposures))) &&
     decide (s.streamState x = 1) && decide (row < e.activeLines) && ((checkLine e i).bad) &&
     decide ((checkLine e i).bad = false ∨ s.stLatched x StreamTab.ST_ROUTE_ERR_END ≠ 1)) &&
    (let n : Fin 40 := 0;
    let s : State := { live1 0 (lit.put (stPage 0) StreamTab.ST_STAT_STATE 1) with ports := [(0, { inbox := [item .pixel 0 0x2C (List.replicate 11 3)] })], streams := [(0, { plan := some (strm 0), num := 1, parts := [⟨0, none, 0⟩], counts := [3, 0, 0, 0], latch := [(liveKey (stPage 0) (StreamTab.ST_ROUTE_ERR_END.nth 0), 1)] })] };
    let i : InletItem := item .pixel 0 0x2C (List.replicate 11 3); let r : List InletItem := []; let e : PlanStream := strm 0;
    let u : Nat := (s.claimer n i.vc).getD i.vc; let x : Nat := 4 * n + u; let row : Nat := 3; let j : Nat := 0;
    let taken : Nat := (s.stream x).counts.foldl (· + ·) 0;
     decide ((s.port n).inbox = i :: r) && decide (i.kind = .pixel) && decide (i.vc < 4) && decide (u = (s.claimer n i.vc).getD i.vc) &&
     decide (x = 4 * n + u) && decide (s.framePlan x = some e) && decide (e.stream = x) && decide (taken = (s.stream x).counts.foldl (· + ·) 0) &&
     decide ((row, j) = (if Latch.field (s.stream x).latch (inPage n) (Inlet.IN_VC_CFG_EXP_VC.nth u) = 1 ∧ u + e.exposures ≤ 4 then ((s.stream x).counts.getD (i.vc - u) 0, i.vc - u) else (taken / e.exposures, taken % e.exposures))) &&
     decide (s.streamState x = 1) && decide (row < e.activeLines) && ((checkLine e i).bad) && decide (s.stLatched x StreamTab.ST_ROUTE_ERR_END = 1)) &&
    (let n : Fin 40 := 0;
    let s : State := { live1 0 (lit.put (stPage 0) StreamTab.ST_STAT_STATE 1) with ports := [(0, { inbox := [item .embedded 0 0x12 [0x0A, 1, 2]] })], streams := [(0, { plan := some (strm 0), num := 1, parts := [⟨0, none, 0⟩], counts := [0, 0, 0, 0] })] };
    let i : InletItem := item .embedded 0 0x12 [0x0A, 1, 2]; let r : List InletItem := [];
     decide ((s.port n).inbox = i :: r) && decide (i.kind = .embedded) && decide (i.vc < 4) && decide (s.claimer n i.vc = none) &&
     decide (s.streamState (4 * n + i.vc) = 1)) &&
    (let n : Fin 40 := 0; let s : State := { live1 0 lit with ports := [(0, { inbox := [item .embedded 0 0x12 [0x0A, 1, 2]] })] };
    let i : InletItem := item .embedded 0 0x12 [0x0A, 1, 2]; let r : List InletItem := [];
     decide ((s.port n).inbox = i :: r) && decide (i.kind = .embedded) && decide (i.vc < 4) && decide (s.claimer n i.vc = none) &&
     decide (s.streamState (4 * n + i.vc) ≠ 1) && ((s.streamPlan (4 * n + i.vc)).isSome)) &&
    (let n : Fin 40 := 0;
    let s : State := { live1 0 (lit.put (stPage 0) StreamTab.ST_STAT_STATE 1) with ports := [(0, { inbox := [{ item .frameEnd 0 with num := 1 }] })], streams := [(0, { plan := some (strm 0), num := 1, parts := [⟨0, none, 0⟩], counts := [3, 0, 0, 0] })] };
    let i : InletItem := { item .frameEnd 0 with num := 1 }; let r : List InletItem := []; let x : Nat := 4 * n + i.vc;
     decide ((s.port n).inbox = i :: r) && decide (i.kind = .frameEnd) && decide (i.vc < 4) && decide (s.claimer n i.vc = none) &&
     decide (x = 4 * n + i.vc) && decide (s.streamState x = 1)) &&
    (let x : Fin 160 := 0;
    let s : State := { live1 0 (lit.put (stPage 0) StreamTab.ST_STAT_STATE 1) with streams := [(0, { plan := some (strm 0), num := 1, parts := [⟨0, none, 0⟩], counts := [2, 0, 0, 0] })] };
     decide (s.streamState x = 1) && ((s.stream x).parts).any (fun q => decide (q.status = none)))) = true := by decide +kernel

/-- Witnesses of AGapMarkDiscardsThePortsFrames. -/
theorem test_aGapMarkDiscardsThePortsFrames : (
    (let n : Fin 40 := 0;
    let s : State := { live1 1 (lit.put (stPage 0) StreamTab.ST_STAT_STATE 1) with ports := [(0, { inbox := [item .gap 0] })], streams := [(0, { plan := some (strm 0), num := 1, parts := [⟨0, none, 0⟩], counts := [2, 0, 0, 0] })] };
    let i : InletItem := item .gap 0; let r : List InletItem := [];
     decide ((s.port n).inbox = i :: r) && decide (i.kind = .gap))) = true := by decide +kernel

/-- Witnesses of EachPortDecidesATideOnce. -/
theorem test_eachPortDecidesATideOnce : (
    (let f : Fin 4 := 0;
    let s : State := ((live1 0 lit).put (inPage 0) Inlet.SYNC_CFG_MODE 1).puts' [(syncPage, Tidemark.SYNC_FAM_HOR_HORIZON.nth 0, 20000000), (syncPage, Tidemark.SYNC_FAM_MID_MID_OFFSET.nth 0, 5000)];
    let mid : Nat := (s.syncFamily_ 0).1; let hor : Nat := (s.syncFamily_ 0).2.1;
    let ahead : Nat := (if (s.syncFamily_ 0).2.1 ≤ (s.syncFamily_ 0).1 then 0 else 1);
    let k : Nat := (if hasBit s.tide.famStarted f = true then (s.famTide f + ahead) % 2 ^ 32 else if hasBit s.tide.famEver f = true then (s.famTide f + 1) % 2 ^ 32 else 0);
    let clamped : Bool := (s.syncFamily_ 0).2.2;
     (s.famActive f) && s.planLive && decide (s.syncFamily_ f = (mid, hor, clamped)) && decide (ahead = (if hor ≤ mid then 0 else 1)) &&
     decide (k = (if hasBit s.tide.famStarted f = true then (s.famTide f + ahead) % 2 ^ 32 else if hasBit s.tide.famEver f = true then (s.famTide f + 1) % 2 ^ 32 else 0)) &&
     decide (hasBit s.tide.famStarted f = true ∨ ahead = 1) && clamped) &&
    (let f : Fin 4 := 0;
    let s : State := { ((live1 0 lit).puts' [(inPage 0, Inlet.SYNC_CFG_MODE, 1), (syncPage, Tidemark.SYNC_FAM_MID_MID_OFFSET.nth 0, 0)]) with tide := { (live1 0 lit).tide with famStarted := 1, famEver := 1 } };
    let mid : Nat := (s.syncFamily_ f).1; let hor : Nat := (s.syncFamily_ f).2.1; let ahead : Nat := (if hor ≤ mid then 0 else 1);
    let k : Nat := (if hasBit s.tide.famStarted f = true then (s.famTide f + ahead) % 2 ^ 32 else if hasBit s.tide.famEver f = true then (s.famTide f + 1) % 2 ^ 32 else 0);
    let clamped : Bool := (s.syncFamily_ f).2.2;
     (s.famActive f) && s.planLive && decide (s.syncFamily_ f = (mid, hor, clamped)) && decide (ahead = (if hor ≤ mid then 0 else 1)) &&
     decide (k = (if hasBit s.tide.famStarted f = true then (s.famTide f + ahead) % 2 ^ 32 else if hasBit s.tide.famEver f = true then (s.famTide f + 1) % 2 ^ 32 else 0)) &&
     decide (hasBit s.tide.famStarted f = true ∨ ahead = 1)) &&
    (let f : Fin 4 := 0;
    let s : State := { ((live1 0 lit).puts' [(inPage 0, Inlet.SYNC_CFG_MODE, 1), (syncPage, Tidemark.SYNC_FAM_MID_MID_OFFSET.nth 0, 20000)]) with tide := { (live1 0 lit).tide with famStarted := 0, famEver := 0 } };
    let mid : Nat := (s.syncFamily_ f).1; let hor : Nat := (s.syncFamily_ f).2.1; let ahead : Nat := (if hor ≤ mid then 0 else 1);
    let k : Nat := (if hasBit s.tide.famStarted f = true then (s.famTide f + ahead) % 2 ^ 32 else if hasBit s.tide.famEver f = true then (s.famTide f + 1) % 2 ^ 32 else 0);
    let clamped : Bool := (s.syncFamily_ f).2.2;
     (s.famActive f) && s.planLive && decide (s.syncFamily_ f = (mid, hor, clamped)) && decide (ahead = (if hor ≤ mid then 0 else 1)) &&
     decide (k = (if hasBit s.tide.famStarted f = true then (s.famTide f + ahead) % 2 ^ 32 else if hasBit s.tide.famEver f = true then (s.famTide f + 1) % 2 ^ 32 else 0)) &&
     !(hasBit s.tide.famStarted f) && decide (ahead = 0))) = true := by decide +kernel

/-- Witnesses of CovesProcessUnitsAndIssueRecords. -/
theorem test_covesProcessUnitsAndIssueRecords : (
    (let n : Fin 16 := 0;
    let s : State := { lit with frames := [{ half := 0, stream := 0, seq := 1, tide := 3, sof := 9, family := 0, sentinel := 0xFF, cls := 0, memory := false, split := false, width := 8, lines := 4, exposures := 1, packing := 1, suppress := false, parts := [{ cove := 0, context := 0, status := some 1, rows := 4, limit := some 4, judged := 4, tables := [{ table := .map, size := 8, left := 8 }] }], outs := [{ k := 0, bytes := 128, dest := 0, channel := 0 }], closed := true, stat := 2, frozen := some false }], coves := [(0, { ops := [{ tag := 4, stream := 0, seq := 1, context := 0, work := .table .map, off := 0, ba := 0, size := 4, entry := none }] })], harbours := [(0, { results := [⟨1, 0, 4, 0, 0, 4, [1, 2, 3, 4]⟩] })] };
    let o : CoveOp := { tag := 4, stream := 0, seq := 1, context := 0, work := .table .map, off := 0, ba := 0, size := 4, entry := none };
    let r : MemResult := ⟨1, 0, 4, 0, 0, 4, [1, 2, 3, 4]⟩; let tt : CoveTable := .map;
     decide ((s.cove n).ops.find? (fun o => o.isTable && (s.harb (n / 8)).results.any fun r => r.requester == 1 && r.source == o.stream && r.tag == o.tag) = some o) &&
     decide (o.work = .table tt) &&
     decide ((s.harb (n / 8)).results.find? (fun r => r.requester == 1 && r.source == o.stream && r.tag == o.tag) = some r)) &&
    (let n : Fin 16 := 0;
    let s : State := { lit with coves := [(0, { store := [{ stream := 0, seq := 1, run := ⟨0, 0, 0, [1, 2]⟩, ready := 0 }] })], time := { c := 300 } };
    let u : CoveUnit := { stream := 0, seq := 1, run := ⟨0, 0, 0, [1, 2]⟩, ready := 0 }; let r : List CoveUnit := [];
     (s.ready ⟨.cove, n, 0⟩) && decide ((s.cove n).unit = none) && decide ((s.cove n).store = u :: r) && (s.unitReadyFor n u)) &&
    (let n : Fin 16 := 0;
    let s : State := { lit with coves := [(0, { slices := [{ context := 0, entry := 5, gen := 2, stream := 0, seq := 1, run := ⟨0, 0, 0, []⟩, size := 8, first := 0, got := [(0, [1, 2, 3, 4, 5, 6, 7, 8, 9, 10, 11, 12])], left := 0 }] })], time := { c := 300 }, harbours := [(0, { jobs := [(5, { state := 4, gen := 2 })], failedSlices := [] })] };
    let v : State := s.retryOps n;
    let b : SliceBuf := { context := 0, entry := 5, gen := 2, stream := 0, seq := 1, run := ⟨0, 0, 0, []⟩, size := 8, first := 0, got := [(0, [1, 2, 3, 4, 5, 6, 7, 8, 9, 10, 11, 12])], left := 0 };
    let u : CoveUnit := ({ stream := 0, seq := 1, run := { (⟨0, 0, 0, []⟩ : PixelRun) with codes := ({ context := 0, entry := 5, gen := 2, stream := 0, seq := 1, run := ⟨0, 0, 0, []⟩, size := 8, first := 0, got := [(0, [1, 2, 3, 4, 5, 6, 7, 8, 9, 10, 11, 12])], left := 0 } : SliceBuf).codes 0 8 }, entry := some (5, 2) });
     (s.ready ⟨.cove, n, 0⟩) && decide ((s.cove n).unit = none) && decide ((s.cove n).store = []) && decide (v = s.retryOps n) &&
     decide ((v.rankedContexts n).findSome? (fun c => (v.nextSlice n c).filter fun e => v.unitReadyFor n e.2) = some (b, u))) &&
    (let n : Fin 16 := 0;
    let s : State := { lit with coves := [(0, { unit := some (5, { stream := 0, seq := 1, run := ⟨0, 0, 0, [1, 2]⟩, ready := 0, entry := none }) })], time := { c := 300 } };
    let at_ : Nat := 5; let u : CoveUnit := { stream := 0, seq := 1, run := ⟨0, 0, 0, [1, 2]⟩, ready := 0, entry := none };
     decide ((s.cove n).unit = some (at_, u)) && decide (u.entry = none) && decide (u.run.codes ≠ []) &&
     !(((s.partOf n u.stream u.seq).any fun e => e.1.memory))) &&
    (let n : Fin 16 := 0;
    let s : State := { lit with coves := [(0, { unit := some (5, { stream := 0, seq := 1, run := ⟨0, 0, 0, []⟩, ready := 0, entry := none }) })], time := { c := 300 } };
    let at_ : Nat := 5; let u : CoveUnit := { stream := 0, seq := 1, run := ⟨0, 0, 0, []⟩, ready := 0, entry := none };
     decide ((s.cove n).unit = some (at_, u)) && decide (u.entry.isSome = true ∨ u.run.codes = [])) &&
    (let n : Fin 16 := 0;
    let s : State := { lit with coves := [(0, { ops := [{ tag := 4, stream := 0, seq := 1, context := 0, work := .stat, off := 0, ba := 0, size := 4, write := some [0, 0, 0, 0], entry := none }] })], harbours := [(0, { results := [⟨1, 0, 4, 7, 0, 4, []⟩] })] };
    let o : CoveOp := { tag := 4, stream := 0, seq := 1, context := 0, work := .stat, off := 0, ba := 0, size := 4, write := some [0, 0, 0, 0], entry := none };
     decide ((s.cove n).ops.find? (fun o => o.work == .stat) = some o) &&
     ((s.cove n).ops).all (fun q => !decide (q.work = .stat) || !decide (q.stream = o.stream) || !decide (q.seq = o.seq) || decide (((s.harb (n / 8)).results.any fun r => r.requester == 1 && r.source == q.stream && r.tag == q.tag) = true))) &&
    (let n : Fin 16 := 0;
    let s : State := { lit with coves := [(0, { ops := [{ off := 0, tag := 4, stream := 0, seq := 1, context := 0, work := .stat, ba := 0, size := 4, write := some [0, 0, 0, 0], entry := none }, { off := 0, tag := 9, stream := 0, seq := 2, context := 0, work := .stat, ba := 0, size := 4, write := some [0, 0, 0, 0], entry := none }] })], harbours := [(0, { results := [⟨1, 0, 4, 0, 0, 4, []⟩] })] };
    let o : CoveOp := { off := 0, tag := 4, stream := 0, seq := 1, context := 0, work := .stat, ba := 0, size := 4, write := some [0, 0, 0, 0], entry := none };
     decide ((s.cove n).ops.find? (fun o => o.work == .stat) = some o) &&
     ((s.cove n).ops).all (fun q => !decide (q.work = .stat) || !decide (q.stream = o.stream) || !decide (q.seq = o.seq) || decide (((s.harb (n / 8)).results.any fun r => r.requester == 1 && r.source == q.stream && r.tag == q.tag) = true)) &&
     ((s.harb (n / 8)).results).all (fun r => !decide (r.requester = 1) || !decide (r.source = o.stream) || decide (r.cause = 0))) &&
    (let n : Fin 16 := 0;
    let s : State := { live1 0 lit with frames := [{ half := 0, stream := 0, seq := 1, tide := 3, sof := 9, family := 0, sentinel := 0xFF, cls := 0, memory := false, split := false, width := 8, lines := 4, exposures := 1, packing := 1, suppress := false, parts := [{ cove := 0, context := 0, status := some 1, rows := 4, limit := some 4, judged := 4 }], outs := [{ k := 0, bytes := 128, dest := 0, channel := 0 }], closed := true, stat := 2, frozen := some false }] };
    let f : HalfFrame := { half := 0, stream := 0, seq := 1, tide := 3, sof := 9, family := 0, sentinel := 0xFF, cls := 0, memory := false, split := false, width := 8, lines := 4, exposures := 1, packing := 1, suppress := false, parts := [{ cove := 0, context := 0, status := some 1, rows := 4, limit := some 4, judged := 4 }], outs := [{ k := 0, bytes := 128, dest := 0, channel := 0 }], closed := true, stat := 2, frozen := some false };
    let o : OutFrame := { k := 0, bytes := 128, dest := 0, channel := 0 };
    let p : CovePart := { cove := 0, context := 0, status := some 1, rows := 4, limit := some 4, judged := 4 };
    let reset : Bool := s.chainResets p.latch n p.context (f.parts.map fun q => (q.cove, q.context)) o.k f.seq;
    let pcrc : Nat := crc32c (sortedBytes o.sent);
    let sig : Nat := crc32c (sigBlock (if reset then 0 else s.chainValue n p.context o.k) f.stream o.k (f.flags o reset) f.seq f.tide f.mid o.count pcrc);
    let b : List Byte := f.record o (f.flags o reset) pcrc sig;
     decide (s.frames.find? (fun f => f.issues n) = some f) && decide (f.outs.find? (fun o => !o.issued) = some o) && decide (f.part n = some p) &&
     decide (reset = s.chainResets p.latch n p.context (f.parts.map fun q => (q.cove, q.context)) o.k f.seq) &&
     decide (pcrc = crc32c (sortedBytes o.sent)) &&
     decide (sig = crc32c (sigBlock (if reset then 0 else s.chainValue n p.context o.k) f.stream o.k (f.flags o reset) f.seq f.tide f.mid o.count pcrc)) &&
     decide (b = f.record o (f.flags o reset) pcrc sig) && decide (f.suppress = false ∨ f.isPartial = false ∨ o.isCsi = true)) &&
    (let n : Fin 16 := 0;
    let s : State := { live1 0 lit with frames := [{ half := 0, stream := 0, seq := 1, tide := 3, sof := 9, family := 0, sentinel := 0xFF, cls := 0, memory := false, split := false, width := 8, lines := 4, exposures := 1, packing := 1, suppress := true, parts := [{ cove := 0, context := 0, status := some 1, rows := 4, limit := some 4, judged := 4 }, { cove := 1, context := 0, status := some 2, rows := 4, limit := some 4, judged := 4 }], outs := [{ k := 0, bytes := 128, dest := 0, channel := 0 }], closed := true, stat := 2, frozen := some false }] };
    let f : HalfFrame := { half := 0, stream := 0, seq := 1, tide := 3, sof := 9, family := 0, sentinel := 0xFF, cls := 0, memory := false, split := false, width := 8, lines := 4, exposures := 1, packing := 1, suppress := true, parts := [{ cove := 0, context := 0, status := some 1, rows := 4, limit := some 4, judged := 4 }, { cove := 1, context := 0, status := some 2, rows := 4, limit := some 4, judged := 4 }], outs := [{ k := 0, bytes := 128, dest := 0, channel := 0 }], closed := true, stat := 2, frozen := some false };
    let o : OutFrame := { k := 0, bytes := 128, dest := 0, channel := 0 };
    let p : CovePart := { cove := 0, context := 0, status := some 1, rows := 4, limit := some 4, judged := 4 };
    let reset : Bool := s.chainResets p.latch n p.context (f.parts.map fun q => (q.cove, q.context)) o.k f.seq;
    let pcrc : Nat := crc32c (sortedBytes o.sent);
    let sig : Nat := crc32c (sigBlock (if reset then 0 else s.chainValue n p.context o.k) f.stream o.k (f.flags o reset) f.seq f.tide f.mid o.count pcrc);
    let b : List Byte := f.record o (f.flags o reset) pcrc sig;
     decide (s.frames.find? (fun f => f.issues n) = some f) && decide (f.outs.find? (fun o => !o.issued) = some o) && decide (f.part n = some p) &&
     decide (reset = s.chainResets p.latch n p.context (f.parts.map fun q => (q.cove, q.context)) o.k f.seq) &&
     decide (pcrc = crc32c (sortedBytes o.sent)) &&
     decide (sig = crc32c (sigBlock (if reset then 0 else s.chainValue n p.context o.k) f.stream o.k (f.flags o reset) f.seq f.tide f.mid o.count pcrc)) &&
     decide (b = f.record o (f.flags o reset) pcrc sig) && f.suppress && f.isPartial && !(o.isCsi))) = true := by decide +kernel

/-- Witnesses of ChannelsTrainRefreshFillAndScrub. -/
theorem test_channelsTrainRefreshFillAndScrub : (
    (let gib : Fin 256 := 16;
     ([1, 2, 4, 8, 16].contains gib.val)) &&
    (let h : Fin 2 := 1; let c : Fin 4 := 3; let gib : Fin 256 := 3; let s : State := lit;
     !([1, 2, 4, 8, 16].contains gib.val) && (s.powered (44 + 4 * h + c))) &&
    (let h : Fin 2 := 0; let c : Fin 4 := 0; let due : Bool := true; let s : State := lit;
     decide (s.lowestFamily.any s.inSlack = false ∨ (due = false ∧ s.requestWaits h c false = true))) &&
    (let h : Fin 2 := 0; let c : Fin 4 := 0; let due : Bool := false;
    let s : State := (planned lit (planOf [] [])).put 0x11 (Tidemark.FAM_PHASE_IN_SLACK.nth 0) 1;
     (s.lowestFamily.any s.inSlack) && decide (due = true ∨ s.requestWaits h c false = false)) &&
    (let req : Requester := .host0; let h : Fin 2 := 0; let s : State := trained 0 [(Harbour.HB_CFG_ECC_EN, 1)];
     (s.serves req (regOff (hbPage h 0) Harbour.HB_INIT_GO))) &&
    (let req : Requester := .host0; let h : Fin 2 := 0; let s : State := trained 0 [(Harbour.HB_CFG_ECC_EN, 0)];
     (s.serves req (regOff (hbPage h 0) Harbour.HB_INIT_GO)) && !(s.flag (hbPage h 0) Harbour.HB_CFG_ECC_EN)) &&
    (let h : Fin 2 := 0; let s : State := { trained 0 [] with harbours := [(0, { filling := true, mem := [(5, 3)] }), (1, { mem := [(5, 3)] })] };
     ((s.harb h).filling) && (s.harbourTrained h)) &&
    (let h : Fin 2 := 0;
    let s : State := { trained 0 [(Harbour.HB_CFG_SCRUB_NS, 5), (Harbour.HB_CAP_DATA_MIB, 1)] with harbours := [(0, { scrubLine := 4095 })] };
     decide (s.get (hbPage h 0) Harbour.HB_CFG_SCRUB_NS ≠ 0) && decide (s.memCapacity h ≠ 0) &&
     (List.range (4)).all (fun c => decide (s.requestWaits h c true = false)) && decide (s.memCapacity h / 256 ≤ (s.harb h).scrubLine + 1)) &&
    (let h : Fin 2 := 0;
    let s : State := { trained 0 [(Harbour.HB_CFG_SCRUB_NS, 5), (Harbour.HB_CAP_DATA_MIB, 1)] with harbours := [(0, { scrubLine := 4094 })] };
     decide (s.get (hbPage h 0) Harbour.HB_CFG_SCRUB_NS ≠ 0) && decide (s.memCapacity h ≠ 0) &&
     (List.range (4)).all (fun c => decide (s.requestWaits h c true = false)) && decide ((s.harb h).scrubLine + 1 < s.memCapacity h / 256))) = true := by decide +kernel

/-- Witnesses of MemoryRequestsAreBudgetedAndServed. -/
theorem test_memoryRequestsAreBudgetedAndServed : (
    (let h : Fin 2 := 0;
    let s : State := (planned lit (planOf [] [])).puts' [(hbPage 0 5, Harbour.CLS_BUDGET_MBPS.nth 0, 100), (hbPage 0 5, Harbour.CLS_BUDGET_MBPS.nth 3, 16000000)];
     (List.range (4)).all (fun k => decide (s.classBudget h k < 2 ^ 24))) &&
    (let h : Fin 2 := 0; let s : State := lit;
     (List.range (4)).all (fun k => decide (s.classBudget h k < 2 ^ 24)) && !(s.planLive)) &&
    (let h : Fin 2 := 0;
    let s : State := ((planned lit (planOf [] [])).puts' [(hbPage 0 5, Harbour.CLS_BUDGET_MBPS.nth 0, 100)]).put (hbPage 0 5) (Harbour.CLS_CREDIT_BYTES.nth 0) 0xFFFFFFFF;
     s.planLive && [0, 1, 2, 3].any (fun k => s.classBudget h k != 0 && decide (s.credit h k < 0))) &&
    (let h : Fin 2 := 0; let s : State := lit;
     (decide (s.planLive = false) || ((List.range (4)).all (fun k => !decide (s.classBudget h k ≠ 0) || decide (0 ≤ s.credit h k))))) &&
    (let h : Fin 2 := 0; let i : Nat := 0; let walk : List EccResult := [];
    let s : State := { trained 0 [(Harbour.HB_CAP_DATA_MIB, 1)] with harbours := [(0, { asks := [{ requester := 2, source := 7, cls := 0, entry := none, ba := 250, size := 16, write := none, tag := 3 }] })] };
    let u : State := (s.putHarb 0 { s.harb 0 with asks := (s.harb 0).asks.eraseIdx 0 });
    let r : MemReq := { requester := 2, source := 7, cls := 0, entry := none, ba := 250, size := 16, write := none, tag := 3 }; let pa : Nat := 250;
     (s.ready ⟨.harbour, h, 0⟩) && decide ((s.harb h).asks[i]? = some r) && !(((s.harb h).asks.take i).any (fun a => a.same r)) &&
     (s.walkServed h r.ba r.cls) &&
     translates ((s.putHarb h { s.harb h with asks := (s.harb h).asks.eraseIdx i }).translateFor h r.cls r.ba r.write.isSome (r.requester == 2) walk) false pa u &&
     !(s.liveFlag (hbPage (h) 7) Harbour.TR_ROOT_LO_EN)) &&
    (let h : Fin 2 := 0; let i : Nat := 0; let walk : List EccResult := [];
    let s : State := { (trained 0 [(Harbour.HB_CAP_DATA_MIB, 1)]).puts' [(hbPage 0 7, Harbour.TR_ROOT_LO_EN, 1)] with harbours := [(0, { asks := [{ requester := 2, source := 7, cls := 0, entry := none, ba := 250, size := 16, write := none, tag := 3 }] })] };
    let u : State := (((s.putHarb 0 { s.harb 0 with asks := (s.harb 0).asks.eraseIdx 0 }).translateFor 0 0 250 false true []).2);
    let r : MemReq := { requester := 2, source := 7, cls := 0, entry := none, ba := 250, size := 16, write := none, tag := 3 };
    let cause : Nat := ((match ((s.putHarb 0 { s.harb 0 with asks := (s.harb 0).asks.eraseIdx 0 }).translateFor 0 0 250 false true []).1 with | .error e => e.1 | _ => 0));
    let level : Nat := ((match ((s.putHarb 0 { s.harb 0 with asks := (s.harb 0).asks.eraseIdx 0 }).translateFor 0 0 250 false true []).1 with | .error e => e.2 | _ => 0));
     (s.ready ⟨.harbour, h, 0⟩) && decide ((s.harb h).asks[i]? = some r) && !(((s.harb h).asks.take i).any (fun a => a.same r)) &&
     (s.walkServed h r.ba r.cls) &&
     untranslated ((s.putHarb h { s.harb h with asks := (s.harb h).asks.eraseIdx i }).translateFor h r.cls r.ba r.write.isSome (r.requester == 2) walk) cause level u &&
     !(s.flag (hbPage h 7) Harbour.TR_FAULT_INFO_VALID)) &&
    (let h : Fin 2 := 0; let i : Nat := 0;
    let s : State := { (trained 0 [(Harbour.HB_CAP_DATA_MIB, 1)]).puts' [(hbPage 0 7, Harbour.TR_ROOT_LO_EN, 1)] with harbours := [(0, { filling := true, asks := [{ requester := 2, source := 7, cls := 0, entry := none, ba := 250, size := 16, write := none, tag := 3 }] })] };
    let r : MemReq := { requester := 2, source := 7, cls := 0, entry := none, ba := 250, size := 16, write := none, tag := 3 };
     decide ((s.harb h).asks[i]? = some r) && !(s.walkServed h r.ba r.cls)) &&
    (let h : Fin 2 := 0; let c : Fin 4 := 0; let pull : Bool := false;
    let s : State := { (planned (trained 0 []) (planOf [] [])).puts' [(hbPage 0 5, Harbour.CLS_BUDGET_MBPS.nth 0, 100)] with harbours := [(0, { reqs := [{ requester := 2, source := 7, cls := 0, entry := none, ba := 250, size := 16, write := none, tag := 3, id := 1, pa := 250, pieces := [(0, 6), (1, 10)] }] })] };
    let r : MemReq := { requester := 2, source := 7, cls := 0, entry := none, ba := 250, size := 16, write := none, tag := 3, id := 1, pa := 250, pieces := [(0, 6), (1, 10)] };
    let v : Nat := ((((s.countDeferred 0).nextReq 0 0).map (·.2)).getD 0);
     decide ((s.countDeferred h).nextReq h c = some (r, v)) && decide (v ≠ 5 ∨ pull = false) && decide (r.level = none) && s.planLive &&
     decide (r.cls < 4) && decide (s.classBudget h r.cls ≠ 0) && decide (-2 ^ 31 ≤ s.credit h r.cls - (r.size : Int))) &&
    (let h : Fin 2 := 0; let c : Fin 4 := 0;
    let s : State := { trained 0 [] with harbours := [(0, { reqs := [{ requester := 2, source := 7, cls := 0, entry := none, ba := 250, size := 16, write := none, tag := 3, id := 1, pa := 250, pieces := [(1, 10)] }] })] };
     decide ((s.countDeferred h).nextReq h c = none)) &&
    (let h : Fin 2 := 0; let c : Fin 4 := 0;
    let s : State := { trained 0 [] with harbours := [(0, { reqs := [{ requester := 2, source := 7, cls := 0, entry := none, ba := 250, size := 16, write := none, tag := 3, id := 1, pa := 250, pieces := [(0, 6), (1, 10)] }] })] };
     !(s.planLive) && !((s.harb h).filling) && ((s.harb h).reqs).any (fun r => decide ((r.pieces.any fun e => e.1 == c.val) = true)))) = true := by decide +kernel

/-- Witnesses of CompletedRequestsStoreAndReadTheirBytes. -/
theorem test_completedRequestsStoreAndReadTheirBytes : (
    (let h : Fin 2 := 0; let id : Nat := 1;
    let s : State := { trained 0 [] with harbours := [(0, { reqs := [{ requester := 2, source := 7, cls := 0, entry := none, ba := 250, size := 16, write := some (List.replicate 16 9), tag := 3, id := 1, pa := 250, pieces := [] }], mem := [(249, 1), (251, 4)] })] };
    let r : MemReq := { requester := 2, source := 7, cls := 0, entry := none, ba := 250, size := 16, write := some (List.replicate 16 9), tag := 3, id := 1, pa := 250, pieces := [] };
    let b : List Byte := List.replicate 16 9;
     decide ((s.harb h).reqs.find? (fun r => r.id == id) = some r) && decide (r.pieces = []) &&
     !(((s.harb h).reqs.any fun q => decide (q.id < r.id) && q.same r)) && decide (r.write = some b)) &&
    (let h : Fin 2 := 0; let id : Nat := 1;
    let s : State := { trained 0 [] with harbours := [(0, { reqs := [{ requester := 2, source := 7, cls := 0, entry := some (5, 3), ba := 250, size := 16, write := none, tag := 3, id := 1, pa := 250, pieces := [] }], jobs := [(5, { state := 3, gen := 7 })] })] };
    let r : MemReq := { requester := 2, source := 7, cls := 0, entry := some (5, 3), ba := 250, size := 16, write := none, tag := 3, id := 1, pa := 250, pieces := [] };
    let e : Nat := 5; let g : Nat := 3;
     decide ((s.harb h).reqs.find? (fun r => r.id == id) = some r) && decide (r.pieces = []) &&
     !(((s.harb h).reqs.any fun q => decide (q.id < r.id) && q.same r)) && decide (r.entry = some (e, g)) && decide ((s.job e).gen ≠ g)) &&
    (let h : Fin 2 := 0; let id : Nat := 1; let ecc : List (Nat × EccResult) := [];
    let s : State := { trained 0 [] with harbours := [(0, { reqs := [{ requester := 2, source := 7, cls := 0, entry := some (5, 7), ba := 250, size := 16, write := none, tag := 3, id := 1, pa := 250, pieces := [] }], jobs := [(5, { state := 3, gen := 7 })] })] };
    let r : MemReq := { requester := 2, source := 7, cls := 0, entry := some (5, 7), ba := 250, size := 16, write := none, tag := 3, id := 1, pa := 250, pieces := [] };
     decide ((s.harb h).reqs.find? (fun r => r.id == id) = some r) && decide (r.pieces = []) &&
     !(((s.harb h).reqs.any fun q => decide (q.id < r.id) && q.same r)) && decide (r.write = none) && decide (r.requester = 2) &&
     (r.entry).all (fun (e, g) => ((decide ((s.job e).gen = g)) && (decide ((s.job e).state ≠ 0)))) &&
     (ecc).all (fun e => decide (e.2 ≠ .uncorrectable))) &&
    (let h : Fin 2 := 0; let id : Nat := 1; let ecc : List (Nat × EccResult) := [(3, .uncorrectable)];
    let s : State := { trained 0 [(Harbour.HB_STAT_ECC_ON, 1)] with harbours := [(0, { reqs := [{ requester := 2, source := 7, cls := 0, entry := none, ba := 250, size := 16, write := none, tag := 3, id := 1, pa := 250, pieces := [] }] })] };
    let r : MemReq := { requester := 2, source := 7, cls := 0, entry := none, ba := 250, size := 16, write := none, tag := 3, id := 1, pa := 250, pieces := [] };
     decide ((s.harb h).reqs.find? (fun r => r.id == id) = some r) && decide (r.pieces = []) &&
     !(((s.harb h).reqs.any fun q => decide (q.id < r.id) && q.same r)) && decide (r.write = none) && decide (r.requester = 2) &&
     (r.entry).all (fun (e, g) => ((decide ((s.job e).gen = g)) && (decide ((s.job e).state ≠ 0)))) && (s.flag (hbPage h 0) Harbour.HB_STAT_ECC_ON) &&
     (ecc).any (fun e => (decide (e.1 < r.size) && decide (e.2 = .uncorrectable))))) = true := by decide +kernel

/-- Witnesses of JobsRunAndInvalidationsDropTranslations. -/
theorem test_jobsRunAndInvalidationsDropTranslations : (
    (let n : Fin 16 := 0; let c : Fin 8 := 0;
    let s : State := { trained 0 [] with frames := [{ half := 0, stream := 0, seq := 1, tide := 3, sof := 9, family := 0, sentinel := 0xFF, cls := 0, memory := false, split := false, width := 8, lines := 4, exposures := 1, packing := 1, suppress := false, parts := [{ cove := 0, context := 0, status := some 1, rows := 4, limit := some 4, judged := 4 }], outs := [{ k := 0, bytes := 128, dest := 0, channel := 0 }], closed := true, stat := 2, frozen := some false }], harbours := [(0, { jobs := [(5, { state := 2, kind := 0, cove := 0, context := 0, stream := 0, seq := 1 })] })] };
    let u : State := (s.settleHalf 0).retryOps 0; let e : Nat := 5;
    let j : JobEntry := { state := 2, kind := 0, cove := 0, context := 0, stream := 0, seq := 1 };
    let f : HalfFrame := { half := 0, stream := 0, seq := 1, tide := 3, sof := 9, family := 0, sentinel := 0xFF, cls := 0, memory := false, split := false, width := 8, lines := 4, exposures := 1, packing := 1, suppress := false, parts := [{ cove := 0, context := 0, status := some 1, rows := 4, limit := some 4, judged := 4 }], outs := [{ k := 0, bytes := 128, dest := 0, channel := 0 }], closed := true, stat := 2, frozen := some false };
     decide (u = (s.settleHalf (n / 8)).retryOps n) && (u.ready ⟨.cove, n, 0⟩) && (u.ready ⟨.harbour, n / 8, 0⟩) &&
     decide (u.seawall.bist.getD (n / 8) none ≠ some n.val) && decide (u.busyJobs (n / 8) n c < 2) && decide (u.nextJob (n / 8) n c = some (e, j)) &&
     decide (u.job e = j) && decide (entryHalf e = n / 8) && decide (j.state = 2) &&
     decide (u.frames.find? (fun f => f.half == n.val / 8 && f.stream == j.stream && f.seq % 65536 == j.seq) = some f)) &&
    (let e : Fin 131072 := 5; let s : State := { trained 0 [] with harbours := [(0, { jobs := [(5, { state := 3, gen := 7 })] })] };
     decide ((s.job e).state = 3 ∨ (s.job e).state = 6) && decide ((s.harb (entryHalf e)).results = []) &&
     ((s.harb (entryHalf e)).asks ++ (s.harb (entryHalf e)).reqs).all (fun r => !(decide (r.entry = some (e.val, (s.job e).gen))) || decide (r.requester = (s.job e).kind)) &&
     ((decide ((s.job e).kind ≠ 1))) && decide ((s.job e).kind = 0)) &&
    (let h : Fin 2 := 0; let s : State := lit;
     !(s.bulkWaits h)) &&
    (let h : Fin 2 := 0; let s : State := { lit with channels := [(0, { entryWait := true })], harbours := [(0, {})] };
     (s.bulkWaits h)) &&
    (let req : Requester := .host0; let h : Fin 2 := 0; let all : Bool := true;
    let s : State := { trained 0 [] with harbours := [(0, { tlb := [⟨true, 0x200000, 5⟩, ⟨false, 0x10000, 6⟩], nextId := 8 })] };
     (s.serves req (regOff (hbPage h 7) Harbour.TR_INV_GO)) && !(s.flag (hbPage h 7) Harbour.TR_INV_GO) && all) &&
    (let req : Requester := .host0; let h : Fin 2 := 0;
    let s : State := { (trained 0 []).puts [(hbPage 0 7, Harbour.TR_INV_GO, 1)] with harbours := [(0, { tlb := [⟨true, 0x200000, 5⟩], nextId := 8 })] };
     (s.serves req (regOff (hbPage h 7) Harbour.TR_INV_GO)) && (s.flag (hbPage h 7) Harbour.TR_INV_GO)) &&
    (let req : Requester := .host0; let h : Fin 2 := 0; let all : Bool := false;
    let s : State := { trained 0 [] with channels := [(5, { bursts := [{ id := 4, serial := 1, kind := 0, ba := 4096, pos := 0, size := 64, bytes := [], dest := 0, host := true, addr := 4096, entry := none }] })], harbours := [(0, { tlb := [⟨true, 0x200000, 5⟩] })] };
     (s.serves req (regOff (hbPage h 7) Harbour.TR_INV_GO)) && !(s.flag (hbPage h 7) Harbour.TR_INV_GO) && !(all)) &&
    (let h : Fin 2 := 0;
    let s : State := { (trained 0 []).puts [(hbPage 0 7, Harbour.TR_INV_GO, 1)] with harbours := [(0, { invQueued := true, invBefore := 1, reqs := [{ requester := 2, source := 7, cls := 0, entry := none, ba := 250, size := 16, write := none, tag := 3, id := 1, pa := 250, pieces := [] }], tlb := [⟨true, 0, 5⟩] })] };
     (s.flag (hbPage h 7) Harbour.TR_INV_GO) && ((s.harb h).reqs).all (fun r => decide ((s.harb h).invBefore ≤ r.id)) &&
     ((s.harb h).invHost).all (fun e => (s.channels).all (fun p => p.1 != e.1 || (let x := p.2; (x.bursts).all (fun b => !decide (b.id = e.2) || decide (b.flying = false)))))) &&
    (let h : Fin 2 := 0;
    let s : State := { (trained 0 []).puts [(hbPage 0 7, Harbour.TR_INV_GO, 1)] with harbours := [(0, { invBefore := 2, reqs := [{ requester := 2, source := 7, cls := 0, entry := none, ba := 250, size := 16, write := none, tag := 3, id := 1, pa := 250, pieces := [] }], tlb := [⟨true, 0, 5⟩] })] };
     (s.flag (hbPage h 7) Harbour.TR_INV_GO) && ((s.harb h).reqs).any (fun r => decide (r.id < (s.harb h).invBefore)))) = true := by decide +kernel

/-- Witnesses of SoftwareSteersDriftChannels. -/
theorem test_softwareSteersDriftChannels : (
    (let req : Requester := .host0; let c : Fin 1024 := 0; let w : Word := 0xFFFF0000;
    let s : State := { ((lit).puts [(chPage 0, Drift.CH_AVAIL_COUNT, 1)]).puts' [] with channels := [(0, {})] };
     (s.serves req (regOff (chPage c) Drift.CH_AVAIL_ADD)) && !(s.portNow c) && decide (s.portNow c = true ∨ 65535 < s.chCount c + w.toNat / 2 ^ 16)) &&
    (let req : Requester := .host0; let c : Fin 1024 := 0; let w : Word := 0x00030000;
    let s : State := { ((lit).puts []).puts' [(chPage 0, Drift.CH_BIND_ROLE, 1), (chPage 0, Drift.CH_BIND_DEST, 3)] with channels := [(0, {})] };
     (s.serves req (regOff (chPage c) Drift.CH_AVAIL_ADD)) && decide (s.portNow c = true ∨ 65535 < s.chCount c + w.toNat / 2 ^ 16) && (s.portNow c)) &&
    (let req : Requester := .host0; let c : Fin 1024 := 0; let high : Bool := true;
    let s : State := { ((lit).puts []).puts' [] with channels := [(0, { nextLo := some 64 })] };
     (s.serves req (regOff (chPage c) (if high then Drift.CH_NEXT_HI_ADDR else Drift.CH_NEXT_LO_ADDR)))) &&
    (let req : Requester := .host0; let c : Fin 1024 := 0; let high : Bool := false;
    let s : State := { ((lit).puts []).puts' [] with channels := [(0, { paused := true })] };
     (s.serves req (regOff (chPage c) (if high then Drift.CH_NEXT_HI_ADDR else Drift.CH_NEXT_LO_ADDR))) && !(high) && !(s.portNow c) &&
     decide (s.chState c = 0 ∨ s.chState c = 7)) &&
    (let req : Requester := .host0; let c : Fin 1024 := 0; let high : Bool := true;
    let s : State := { ((lit).puts []).puts' [] with channels := [(0, { halted := true, nextLo := some 64 })] };
     (s.serves req (regOff (chPage c) (if high then Drift.CH_NEXT_HI_ADDR else Drift.CH_NEXT_LO_ADDR))) &&
     decide (s.portNow c = true ∨ (s.chState c ≠ 0 ∧ s.chState c ≠ 7))) &&
    (let req : Requester := .host0; let c : Fin 1024 := 0; let w : Word := 0x10000000;
    let s : State := { ((lit).puts [(chPage 0, Drift.CH_STAT_TRIG_PEND, 3)]).puts' [] with channels := [(0, {})] };
     (s.serves req (regOff (chPage c) Drift.CH_CMD_TRIG)) && decide (w.toNat / 2 ^ 29 = 0) && decide ((s.ch c).drain = []) &&
     decide ((s.ch c).cur = none) && decide (s.get (chPage c) Drift.CH_STAT_TRIG_PEND < 15)) &&
    (let req : Requester := .host0; let c : Fin 1024 := 0; let w : Word := 0x10000000;
    let s : State := { ((lit).puts [(chPage 0, Drift.CH_STAT_TRIG_PEND, 15)]).puts' [] with channels := [(0, {})] };
     (s.serves req (regOff (chPage c) Drift.CH_CMD_TRIG)) && decide (w.toNat / 2 ^ 29 = 0) && decide ((s.ch c).drain = []) &&
     decide ((s.ch c).cur = none) && decide (s.get (chPage c) Drift.CH_STAT_TRIG_PEND = 15)) &&
    (let req : Requester := .host0; let c : Fin 1024 := 0; let w : Word := 0x10000000;
    let s : State := { ((lit).puts []).puts' [] with channels := [(0, { cur := some { serial := 1, addr := 64, next := 96, kind := 0, wait := true, fence := false, evt := false, mc := false, sgDst := false, srcW := 2, dstW := 2, len := 64, srcField := 4096, dstField := 8192, src := { segs := [(4096, 64)] }, dst := { segs := [(8192, 64)] }, first := true, cls := 1 } })] };
     (s.serves req (regOff (chPage c) Drift.CH_CMD_TRIG)) && decide (w.toNat / 2 ^ 29 = 0) && decide ((s.ch c).drain = [])) &&
    (let req : Requester := .host0; let c : Fin 1024 := 0; let w : Word := 0x80000000;
    let s : State := { ((lit).puts []).puts' [] with channels := [(0, {})] };
     (s.serves req (regOff (chPage c) Drift.CH_CMD_PAUSE)) && decide (w.toNat / 2 ^ 28 % 8 = 0) && !((s.ch c).halted) && !((s.ch c).aborting) &&
     !((s.ch c).pausing) && !((s.ch c).paused) && decide ((s.ch c).drain = []) && ((((decide ((s.ch c).cur = none)) && decide (s.chRole c ≠ 1)))) &&
     ((s.ch c).flying.isEmpty)) &&
    (let req : Requester := .host0; let c : Fin 1024 := 0; let w : Word := 0x80000000;
    let s : State := { ((lit).puts []).puts' [] with channels := [(0, { bursts := [{ id := 4, serial := 1, kind := 0, ba := 4096, pos := 0, size := 64, bytes := [], dest := 0, host := false, addr := 4096, entry := none }] })] };
     (s.serves req (regOff (chPage c) Drift.CH_CMD_PAUSE)) && decide (w.toNat / 2 ^ 28 % 8 = 0) && !((s.ch c).halted) && !((s.ch c).aborting) &&
     !((s.ch c).pausing) && !((s.ch c).paused) && decide ((s.ch c).drain = []) && ((((decide ((s.ch c).cur = none)) && decide (s.chRole c ≠ 1)))) &&
     !((s.ch c).flying.isEmpty)) &&
    (let req : Requester := .host0; let c : Fin 1024 := 0; let w : Word := 0x40000000;
    let s : State := { ((lit).puts []).puts' [] with channels := [(0, { paused := true, pausing := true })] };
     (s.serves req (regOff (chPage c) Drift.CH_CMD_RESUME)) && decide (w.toNat / 2 ^ 31 = 0) && decide (w.toNat / 2 ^ 28 % 4 = 0) &&
     !((s.ch c).aborting) && decide ((s.ch c).drain = []) &&
     ((s.ch c).cur).all (fun r => (decide (r.kind ≠ 1) && decide (r.started = true) && decide (r.issued = false) && decide (r.failed = 0) && decide (r.src.fail = none) && decide (r.dst.fail = none))) &&
     !((s.ch c).halted)) &&
    (let req : Requester := .host0; let c : Fin 1024 := 0; let w : Word := 0x40000000;
    let s : State := { { ((lit).puts []).puts' [] with channels := [(0, { halted := true })] } with flt := [(chPage 0, { present := 1 })] };
     (s.serves req (regOff (chPage c) Drift.CH_CMD_RESUME)) && decide (w.toNat / 2 ^ 31 = 0) && decide (w.toNat / 2 ^ 28 % 4 = 0) &&
     !((s.ch c).aborting) && decide ((s.ch c).drain = []) &&
     ((s.ch c).cur).all (fun r => (decide (r.kind ≠ 1) && decide (r.started = true) && decide (r.issued = false) && decide (r.failed = 0) && decide (r.src.fail = none) && decide (r.dst.fail = none))) &&
     ((s.ch c).halted)) &&
    (let req : Requester := .host0; let c : Fin 1024 := 0; let w : Word := 0x20000000;
    let s : State := { { ((lit).puts [(chPage 0, Drift.CH_AVAIL_COUNT, 4)]) with channels := [(0, { halted := true, bursts := [{ id := 4, serial := 1, kind := 0, ba := 4096, pos := 0, size := 64, bytes := [], dest := 0, host := true, addr := 4096, entry := none }] })] } with harbours := [(0, { results := [⟨2, 0, 4, 0, 0, 64, []⟩, ⟨2, 1, 4, 0, 0, 64, []⟩, ⟨1, 0, 4, 0, 0, 64, []⟩] })] };
     (s.serves req (regOff (chPage c) Drift.CH_CMD_ABORT)) && decide (w.toNat / 2 ^ 28 % 2 = 0) && decide (s.chState c ≠ 0) && !(s.portNow c) &&
     !((s.ch c).aborting))) = true := by decide +kernel

/-- Witnesses of DriftChannelsMoveTheirDescriptors. -/
theorem test_driftChannelsMoveTheirDescriptors : (
    (let c : Fin 1024 := 0; let desc : Bool := true; let src : Bool := false; let dst : Bool := false; let old : Bool := false;
    let s : State := { { ((planned (trained 0 [(Harbour.HB_CAP_DATA_MIB, 1)]) (planOf [] [])).puts [(chPage 0, Drift.CH_AVAIL_COUNT, 4), (chPage 0, Drift.CH_NEXT_LO_ADDR, 2)]).puts' [] with channels := [(0, { nextSerial := 3, bursts := [{ id := 9, serial := 3, kind := 6, ba := 64, pos := 0, size := 32, bytes := [], dest := 0, host := false, addr := 64, entry := none }] })] } with harbours := [(0, { results := [⟨2, 0, 9, 0, 64, 32, descriptor 96 1179648 64 4096 8192⟩] })] };
    let b : DriftBurst := { id := 9, serial := 3, kind := 6, ba := 64, pos := 0, size := 32, bytes := [], dest := 0, host := false, addr := 64, entry := none };
    let r : MemResult := ⟨2, 0, 9, 0, 64, 32, descriptor 96 1179648 64 4096 8192⟩;
     decide ((s.ch c).bursts.find? (fun b => b.flying && b.isFetch desc src dst old && (s.harb (c / 512)).results.any fun r => r.requester == 2 && r.source == c.val && r.tag == b.id) = some b) &&
     decide (b.kind = 6) && decide ((s.harb (c / 512)).results.find? (fun r => r.requester == 2 && r.source == c.val && r.tag == b.id) = some r) &&
     decide ((s.ch c).cur = none) && decide ((s.ch c).drain = []) && s.planLive && decide (s.chCount c < 2 ^ 16)) &&
    (let c : Fin 1024 := 0; let desc : Bool := true; let src : Bool := false; let dst : Bool := false; let old : Bool := false;
    let s : State := { { ((planned (trained 0 [(Harbour.HB_CAP_DATA_MIB, 1)]) (planOf [] [])).puts [(chPage 0, Drift.CH_AVAIL_COUNT, 4), (chPage 0, Drift.CH_NEXT_LO_ADDR, 2)]).puts' [] with channels := [(0, { nextSerial := 3, bursts := [{ id := 9, serial := 3, kind := 6, ba := 64, pos := 0, size := 32, bytes := [], dest := 0, host := false, addr := 64, entry := none }] })] } with harbours := [(0, { results := [⟨2, 0, 9, 0, 64, 32, descriptor 96 1179648 0 4096 8192⟩] })] };
    let b : DriftBurst := { id := 9, serial := 3, kind := 6, ba := 64, pos := 0, size := 32, bytes := [], dest := 0, host := false, addr := 64, entry := none };
    let r : MemResult := ⟨2, 0, 9, 0, 64, 32, descriptor 96 1179648 0 4096 8192⟩;
     decide ((s.ch c).bursts.find? (fun b => b.flying && b.isFetch desc src dst old && (s.harb (c / 512)).results.any fun r => r.requester == 2 && r.source == c.val && r.tag == b.id) = some b) &&
     decide (b.kind = 6) && decide ((s.harb (c / 512)).results.find? (fun r => r.requester == 2 && r.source == c.val && r.tag == b.id) = some r) &&
     decide ((s.ch c).cur = none) && decide ((s.ch c).drain = []) && s.planLive && decide (s.chCount c < 2 ^ 16)) &&
    (let c : Fin 1024 := 0; let desc : Bool := true; let src : Bool := false; let dst : Bool := false; let old : Bool := false;
    let s : State := { { ((planned (trained 0 [(Harbour.HB_CAP_DATA_MIB, 1)]) (planOf [] [])).puts [(chPage 0, Drift.CH_AVAIL_COUNT, 4)]).puts' [(chPage 0, Drift.CH_CFG_RETRY, 2)] with channels := [(0, { nextSerial := 3, bursts := [{ ({ id := 9, serial := 3, kind := 6, ba := 64, pos := 0, size := 32, bytes := [], dest := 0, host := false, addr := 64, entry := none } : DriftBurst) with tries := 0 }] })] } with harbours := [(0, { results := [⟨2, 0, 9, 2, 64, 32, []⟩] })] };
    let b : DriftBurst := { ({ id := 9, serial := 3, kind := 6, ba := 64, pos := 0, size := 32, bytes := [], dest := 0, host := false, addr := 64, entry := none } : DriftBurst) with tries := 0 };
    let r : MemResult := ⟨2, 0, 9, 2, 64, 32, []⟩;
     decide ((s.ch c).bursts.find? (fun b => b.flying && b.isFetch desc src dst old && (s.harb (c / 512)).results.any fun r => r.requester == 2 && r.source == c.val && r.tag == b.id) = some b) &&
     decide (b.kind = 6) && decide ((s.harb (c / 512)).results.find? (fun r => r.requester == 2 && r.source == c.val && r.tag == b.id) = some r) &&
     decide ((s.ch c).cur = none) && decide ((s.ch c).drain = []) && s.planLive && decide (s.chCount c < 2 ^ 16) && decide (0 < r.cause) &&
     decide (r.cause < 0x10)) &&
    (let c : Fin 1024 := 0; let desc : Bool := true; let src : Bool := false; let dst : Bool := false; let old : Bool := false;
    let s : State := { { ((planned (trained 0 [(Harbour.HB_CAP_DATA_MIB, 1)]) (planOf [] [])).puts [(chPage 0, Drift.CH_AVAIL_COUNT, 4)]).puts' [(chPage 0, Drift.CH_CFG_RETRY, 2)] with channels := [(0, { nextSerial := 3, bursts := [{ ({ id := 9, serial := 3, kind := 6, ba := 64, pos := 0, size := 32, bytes := [], dest := 0, host := false, addr := 64, entry := none } : DriftBurst) with tries := 0 }] })] } with harbours := [(0, { results := [⟨2, 0, 9, 0x10, 64, 32, []⟩] })] };
    let b : DriftBurst := { ({ id := 9, serial := 3, kind := 6, ba := 64, pos := 0, size := 32, bytes := [], dest := 0, host := false, addr := 64, entry := none } : DriftBurst) with tries := 0 };
    let r : MemResult := ⟨2, 0, 9, 0x10, 64, 32, []⟩;
     decide ((s.ch c).bursts.find? (fun b => b.flying && b.isFetch desc src dst old && (s.harb (c / 512)).results.any fun r => r.requester == 2 && r.source == c.val && r.tag == b.id) = some b) &&
     decide (b.kind = 6) && decide ((s.harb (c / 512)).results.find? (fun r => r.requester == 2 && r.source == c.val && r.tag == b.id) = some r) &&
     decide ((s.ch c).cur = none) && decide ((s.ch c).drain = []) && s.planLive && decide (s.chCount c < 2 ^ 16) && decide (0x10 ≤ r.cause) &&
     decide (r.cause ≠ 0x30) && decide (b.tries < s.chCfg c Drift.CH_CFG_RETRY)) &&
    (let c : Fin 1024 := 0; let desc : Bool := true; let src : Bool := false; let dst : Bool := false; let old : Bool := false;
    let s : State := { { ((planned (trained 0 [(Harbour.HB_CAP_DATA_MIB, 1)]) (planOf [] [])).puts [(chPage 0, Drift.CH_AVAIL_COUNT, 4)]).puts' [(chPage 0, Drift.CH_CFG_RETRY, 2)] with channels := [(0, { nextSerial := 3, bursts := [{ ({ id := 9, serial := 3, kind := 6, ba := 64, pos := 0, size := 32, bytes := [], dest := 0, host := false, addr := 64, entry := none } : DriftBurst) with tries := 2 }] })] } with harbours := [(0, { results := [⟨2, 0, 9, 0x10, 64, 32, []⟩] })] };
    let b : DriftBurst := { ({ id := 9, serial := 3, kind := 6, ba := 64, pos := 0, size := 32, bytes := [], dest := 0, host := false, addr := 64, entry := none } : DriftBurst) with tries := 2 };
    let r : MemResult := ⟨2, 0, 9, 0x10, 64, 32, []⟩;
     decide ((s.ch c).bursts.find? (fun b => b.flying && b.isFetch desc src dst old && (s.harb (c / 512)).results.any fun r => r.requester == 2 && r.source == c.val && r.tag == b.id) = some b) &&
     decide (b.kind = 6) && decide ((s.harb (c / 512)).results.find? (fun r => r.requester == 2 && r.source == c.val && r.tag == b.id) = some r) &&
     decide ((s.ch c).cur = none) && decide ((s.ch c).drain = []) && s.planLive && decide (s.chCount c < 2 ^ 16) && decide (0x10 ≤ r.cause) &&
     decide (r.cause ≠ 0x30) && decide (s.chCfg c Drift.CH_CFG_RETRY ≤ b.tries)) &&
    (let c : Fin 1024 := 0; let desc : Bool := false; let src : Bool := true; let dst : Bool := false; let old : Bool := false;
    let s : State := { { ((planned (trained 0 [(Harbour.HB_CAP_DATA_MIB, 1)]) (planOf [] [])).puts []).puts' [] with channels := [(0, { cur := some { ({ serial := 1, addr := 64, next := 96, kind := 0, wait := true, fence := false, evt := false, mc := false, sgDst := false, srcW := 2, dstW := 2, len := 64, srcField := 4096, dstField := 8192, src := { more := true, left := 64 }, dst := { segs := [(8192, 64)] }, first := true, cls := 1 } : DriftRun) with started := true }, bursts := [{ id := 9, serial := 1, kind := 7, ba := 64, pos := 0, size := 16, bytes := [], dest := 0, host := false, addr := 64, entry := none }] })] } with harbours := [(0, { results := [⟨2, 0, 9, 0, 64, 32, toBytesLE 8 20480 ++ toBytesLE 4 64 ++ [0, 0, 0, 0]⟩] })] };
    let b : DriftBurst := { id := 9, serial := 1, kind := 7, ba := 64, pos := 0, size := 16, bytes := [], dest := 0, host := false, addr := 64, entry := none };
    let r : MemResult := ⟨2, 0, 9, 0, 64, 32, toBytesLE 8 20480 ++ toBytesLE 4 64 ++ [0, 0, 0, 0]⟩;
    let q : DriftRun := { ({ serial := 1, addr := 64, next := 96, kind := 0, wait := true, fence := false, evt := false, mc := false, sgDst := false, srcW := 2, dstW := 2, len := 64, srcField := 4096, dstField := 8192, src := { more := true, left := 64 }, dst := { segs := [(8192, 64)] }, first := true, cls := 1 } : DriftRun) with started := true };
     decide ((s.ch c).bursts.find? (fun b => b.flying && b.isFetch desc src dst old && (s.harb (c / 512)).results.any fun r => r.requester == 2 && r.source == c.val && r.tag == b.id) = some b) &&
     decide (b.kind = 7) && decide ((s.harb (c / 512)).results.find? (fun r => r.requester == 2 && r.source == c.val && r.tag == b.id) = some r) &&
     decide (r.cause = 0) && decide ((s.ch c).cur = some q) && decide ((s.ch c).drain = []) && decide (q.serial = b.serial) && decide (q.kind = 0) &&
     q.started && !(q.issued) && decide (q.taps = [])) &&
    (let c : Fin 1024 := 0;
    let s : State := { { ((lit).puts [(chPage 0, Drift.CH_STAT_TRIG_PEND, 14)]).puts' [] with channels := [(0, {})] } with due := [.pulse 1, .trigger 0] };
     decide (s.due.contains (.trigger c) = true ∨ (s.planLive = true ∧ s.chCfg c Drift.CH_CFG_START_SRC = 3 ∧ ((s.now : Int) - s.chCfg c Drift.CH_TIMER_PHASE_NS) % (s.chCfg c Drift.CH_TIMER_PERIOD_NS : Int) = 0)) &&
     decide ((s.ch c).cur = none) && decide ((s.ch c).drain = []) && decide (s.get (chPage c) Drift.CH_STAT_TRIG_PEND < 15)) &&
    (let c : Fin 1024 := 0; let s : State := { (lit).puts [(chPage 0, Drift.CH_STAT_TRIG_PEND, 15)] with due := [.pulse 1, .trigger 0] };
     decide (s.due.contains (.trigger c) = true ∨ (s.planLive = true ∧ s.chCfg c Drift.CH_CFG_START_SRC = 3 ∧ ((s.now : Int) - s.chCfg c Drift.CH_TIMER_PHASE_NS) % (s.chCfg c Drift.CH_TIMER_PERIOD_NS : Int) = 0)) &&
     decide ((s.ch c).cur = none) && decide ((s.ch c).drain = []) && decide (s.get (chPage c) Drift.CH_STAT_TRIG_PEND = 15)) &&
    (let c : Fin 1024 := 0;
    let s : State := { ((lit).puts []).puts' [] with channels := [(0, { aborting := true, bursts := [{ ({ id := 4, serial := 1, kind := 0, ba := 4096, pos := 0, size := 64, bytes := [], dest := 0, host := false, addr := 4096, entry := none } : DriftBurst) with flying := false }], cur := some { serial := 1, addr := 64, next := 96, kind := 0, wait := true, fence := false, evt := false, mc := false, sgDst := false, srcW := 2, dstW := 2, len := 64, srcField := 4096, dstField := 8192, src := { segs := [(4096, 64)] }, dst := { segs := [(8192, 64)] }, first := true, cls := 1 } })] };
     ((s.ch c).aborting)) &&
    (let h : Fin 2 := 0; let path : Fin 4 := 1;
    let s : State := { ((planned (trained 0 [(Harbour.HB_CAP_DATA_MIB, 1)]) (planOf [] [])).puts []).puts' [] with channels := [(0, { bursts := [{ ({ id := 4, serial := 1, kind := 0, ba := 4096, pos := 0, size := 64, bytes := [], dest := 0, host := false, addr := 4096, entry := none } : DriftBurst) with flying := false }], cur := some { ({ serial := 1, addr := 64, next := 96, kind := 0, wait := true, fence := false, evt := false, mc := false, sgDst := false, srcW := 2, dstW := 2, len := 64, srcField := 4096, dstField := 8192, src := { segs := [(4096, 64)] }, dst := { segs := [(8192, 64)] }, first := true, cls := 1 } : DriftRun) with started := true } })] };
    let c : Nat := 0;
     decide (s.winner h path = some c)) &&
    (let h : Fin 2 := 0; let path : Fin 4 := 2;
    let s : State := { ((planned (trained 0 [(Harbour.HB_CAP_DATA_MIB, 1)]) (planOf [] [])).puts []).puts' [(chPage 0, Drift.CH_BIND_ROLE, 1), (chPage 0, Drift.CH_BIND_DEST, 3)] with channels := [(0, { units := [(3, ⟨3, 1, 0, 0, [1], false, false⟩)] })] };
    let c : Nat := 0;
     decide (s.winner h path = some c)) &&
    (let h : Fin 2 := 0; let path : Fin 4 := 1;
    let s : State := { { ((planned (trained 0 [(Harbour.HB_CAP_DATA_MIB, 1)]) (planOf [] [])).puts []).puts' [] with channels := [(0, { bursts := [{ ({ id := 4, serial := 1, kind := 0, ba := 4096, pos := 0, size := 64, bytes := [], dest := 0, host := false, addr := 4096, entry := none } : DriftBurst) with flying := false }], cur := some { ({ serial := 1, addr := 64, next := 96, kind := 0, wait := true, fence := false, evt := false, mc := false, sgDst := false, srcW := 2, dstW := 2, len := 64, srcField := 4096, dstField := 8192, src := { segs := [(4096, 64)] }, dst := { segs := [(8192, 64)] }, first := true, cls := 1 } : DriftRun) with started := true } })] } with coves := [(0, { ops := [{ tag := 4, stream := 0, seq := 1, context := 0, work := .table .map, off := 0, ba := 0, size := 4, entry := none, waited := true }] })] };
    let c : Nat := 0;
     decide (s.winner h path = some c) && decide (path.val ≤ 1) && !(s.driftEntry h)) &&
    (let c : Fin 1024 := 0; let id : Nat := 4;
    let s : State := { { ((planned (trained 0 [(Harbour.HB_CAP_DATA_MIB, 1)]) (planOf [] [])).puts []).puts' [] with channels := [(0, { bursts := [{ id := 4, serial := 1, kind := 0, ba := 4096, pos := 0, size := 64, bytes := [], dest := 0, host := false, addr := 4096, entry := none }], cur := some { ({ serial := 1, addr := 64, next := 96, kind := 0, wait := true, fence := false, evt := false, mc := false, sgDst := false, srcW := 2, dstW := 2, len := 64, srcField := 4096, dstField := 8192, src := { segs := [(4096, 64)] }, dst := { segs := [(8192, 64)] }, first := true, cls := 1 } : DriftRun) with started := true, rd := 64 } })] } with harbours := [(0, { results := [⟨2, 0, 4, 0, 0, 64, List.replicate 64 7⟩] })] };
    let b : DriftBurst := { id := 4, serial := 1, kind := 0, ba := 4096, pos := 0, size := 64, bytes := [], dest := 0, host := false, addr := 4096, entry := none };
    let r : MemResult := ⟨2, 0, 4, 0, 0, 64, List.replicate 64 7⟩;
     decide ((s.ch c).bursts.find? (fun b => b.flying && (b.id == id && decide (b.kind ≤ 4)) && (s.harb (c / 512)).results.any fun r => r.requester == 2 && r.source == c.val && r.tag == b.id) = some b) &&
     decide ((s.harb (c / 512)).results.find? (fun r => r.requester == 2 && r.source == c.val && r.tag == b.id) = some r)) &&
    (let c : Fin 1024 := 0; let id : Nat := 4;
    let s : State := { { ((planned (trained 0 [(Harbour.HB_CAP_DATA_MIB, 1)]) (planOf [] [])).puts []).puts' [(chPage 0, Drift.CH_CFG_RETRY, 2)] with channels := [(0, { bursts := [{ ({ id := 4, serial := 1, kind := 0, ba := 4096, pos := 0, size := 64, bytes := [], dest := 0, host := false, addr := 4096, entry := none } : DriftBurst) with tries := 0 }] })] } with harbours := [(0, { results := [⟨2, 0, 4, 0x11, 0, 64, []⟩] })] };
    let b : DriftBurst := { ({ id := 4, serial := 1, kind := 0, ba := 4096, pos := 0, size := 64, bytes := [], dest := 0, host := false, addr := 4096, entry := none } : DriftBurst) with tries := 0 };
    let r : MemResult := ⟨2, 0, 4, 0x11, 0, 64, []⟩;
     decide ((s.ch c).bursts.find? (fun b => b.flying && (b.id == id && decide (b.kind ≤ 4)) && (s.harb (c / 512)).results.any fun r => r.requester == 2 && r.source == c.val && r.tag == b.id) = some b) &&
     decide ((s.harb (c / 512)).results.find? (fun r => r.requester == 2 && r.source == c.val && r.tag == b.id) = some r) &&
     decide (0x10 ≤ r.cause) && decide (r.cause ≠ 0x30) && decide (b.tries < s.chCfg c Drift.CH_CFG_RETRY) && decide ((s.ch c).cur = none) &&
     decide ((s.ch c).drain = [])) &&
    (let c : Fin 1024 := 0; let id : Nat := 4;
    let s : State := { { ((planned (trained 0 [(Harbour.HB_CAP_DATA_MIB, 1)]) (planOf [] [])).puts []).puts' [(chPage 0, Drift.CH_CFG_RETRY, 2)] with channels := [(0, { bursts := [{ ({ id := 4, serial := 1, kind := 0, ba := 4096, pos := 0, size := 64, bytes := [], dest := 0, host := false, addr := 4096, entry := none } : DriftBurst) with tries := 2 }] })] } with harbours := [(0, { results := [⟨2, 0, 4, 0x11, 0, 64, []⟩] })] };
    let b : DriftBurst := { ({ id := 4, serial := 1, kind := 0, ba := 4096, pos := 0, size := 64, bytes := [], dest := 0, host := false, addr := 4096, entry := none } : DriftBurst) with tries := 2 };
    let r : MemResult := ⟨2, 0, 4, 0x11, 0, 64, []⟩;
     decide ((s.ch c).bursts.find? (fun b => b.flying && (b.id == id && decide (b.kind ≤ 4)) && (s.harb (c / 512)).results.any fun r => r.requester == 2 && r.source == c.val && r.tag == b.id) = some b) &&
     decide ((s.harb (c / 512)).results.find? (fun r => r.requester == 2 && r.source == c.val && r.tag == b.id) = some r) &&
     decide (0x10 ≤ r.cause) && decide (r.cause ≠ 0x30) && decide (s.chCfg c Drift.CH_CFG_RETRY ≤ b.tries)) &&
    (let c : Fin 1024 := 0;
    let s : State := { ((planned (trained 0 [(Harbour.HB_CAP_DATA_MIB, 1)]) (planOf [] [])).puts []).puts' [(chPage 0, Drift.CH_BIND_ROLE, 1), (chPage 0, Drift.CH_BIND_DEST, 0)] with channels := [(0, { inbox := [⟨12884901889, 0, false, .line 0 0 [1, 2, 3]⟩] })] };
    let i : Handed := ⟨12884901889, 0, false, .line 0 0 [1, 2, 3]⟩; let rest : List Handed := [];
     decide ((s.ch c).inbox = i :: rest) && !((s.ch c).lost.contains i.key) && decide (i.dest < 3) && decide ((s.ch c).cur = none) &&
     decide ((s.ch c).drain = [])) &&
    (let c : Fin 1024 := 0;
    let s : State := { ((planned (trained 0 [(Harbour.HB_CAP_DATA_MIB, 1)]) (planOf [] [])).puts []).puts' [(chPage 0, Drift.CH_BIND_ROLE, 1), (chPage 0, Drift.CH_BIND_DEST, 0)] with channels := [(0, { inbox := [⟨12884901889, 0, false, .line 0 0 [1, 2, 3]⟩], lost := [12884901889] })] };
    let i : Handed := ⟨12884901889, 0, false, .line 0 0 [1, 2, 3]⟩; let rest : List Handed := [];
     decide ((s.ch c).inbox = i :: rest) && ((s.ch c).lost.contains i.key)) &&
    (let c : Fin 1024 := 0;
    let s : State := { ((planned (trained 0 [(Harbour.HB_CAP_DATA_MIB, 1)]) (planOf [] [])).puts []).puts' [(chPage 0, Drift.CH_BIND_ROLE, 1), (chPage 0, Drift.CH_BIND_DEST, 3)] with channels := [(0, { inbox := [⟨12884901889, 3, false, .line 0 0 [1, 2, 3]⟩], cur := some { ({ serial := 1, addr := 64, next := 96, kind := 1, wait := true, fence := false, evt := false, mc := false, sgDst := false, srcW := 2, dstW := 2, len := 64, srcField := 4096, dstField := 8192, src := { segs := [(4096, 64)] }, dst := { segs := [(8192, 64)] }, frame := some 12884901889, first := true, cls := 1 } : DriftRun) with port := some 3 } })] };
    let i : Handed := ⟨12884901889, 3, false, .line 0 0 [1, 2, 3]⟩; let rest : List Handed := [];
     decide ((s.ch c).inbox = i :: rest)) &&
    (let c : Fin 1024 := 0;
    let s : State := { ((planned (trained 0 [(Harbour.HB_CAP_DATA_MIB, 1)]) (planOf [] [])).puts []).puts' [(chPage 0, Drift.CH_BIND_ROLE, 1), (chPage 0, Drift.CH_BIND_DEST, 0)] with channels := [(0, { inbox := [⟨12884901889, 0, false, .line 0 0 [1, 2, 3]⟩], cur := some { serial := 1, addr := 64, next := 96, kind := 1, wait := true, fence := false, evt := false, mc := false, sgDst := false, srcW := 2, dstW := 2, len := 64, srcField := 4096, dstField := 8192, src := { segs := [(4096, 64)] }, dst := { segs := [(8192, 64)] }, frame := some 12884901889, first := true, cls := 1 } })] };
    let i : Handed := ⟨12884901889, 0, false, .line 0 0 [1, 2, 3]⟩; let rest : List Handed := [];
     decide ((s.ch c).inbox = i :: rest)) &&
    (let c : Fin 1024 := 0;
    let s : State := { ((planned (trained 0 [(Harbour.HB_CAP_DATA_MIB, 1)]) (planOf [] [])).puts []).puts' [(chPage 0, Drift.CH_BIND_ROLE, 1), (chPage 0, Drift.CH_BIND_DEST, 0)] with channels := [(0, { inbox := [⟨12884901889, 0, false, .record 128 (List.replicate 64 1) 0 [(0, 0)] false⟩], cur := some { serial := 1, addr := 64, next := 96, kind := 1, wait := true, fence := false, evt := false, mc := false, sgDst := false, srcW := 2, dstW := 2, len := 64, srcField := 4096, dstField := 8192, src := { segs := [(4096, 64)] }, dst := { segs := [(8192, 64)] }, frame := some 12884901889, first := true, cls := 1 } })] };
    let i : Handed := ⟨12884901889, 0, false, .record 128 (List.replicate 64 1) 0 [(0, 0)] false⟩; let rest : List Handed := [];
     decide ((s.ch c).inbox = i :: rest)) &&
    (let c : Fin 1024 := 0;
    let s : State := { ((planned (trained 0 [(Harbour.HB_CAP_DATA_MIB, 1)]) (planOf [] [])).puts []).puts' [(chPage 0, Drift.CH_BIND_ROLE, 1), (chPage 0, Drift.CH_BIND_DEST, 3)] with channels := [(0, { inbox := [⟨12884901889, 3, false, .segment⟩] })] };
    let i : Handed := ⟨12884901889, 3, false, .segment⟩; let rest : List Handed := [];
     decide ((s.ch c).inbox = i :: rest) && !((s.ch c).lost.contains i.key) && decide ((s.ch c).drain = []) && decide (i.unit = .segment) &&
     !((s.ch c).halted) && !((s.ch c).aborting) && !((s.ch c).pausing) && !((s.ch c).paused) && s.planLive && (s.chPowered c) &&
     (((decide (3 ≤ i.dest) && (decide ((s.ch c).cur = none))))))) = true := by decide +kernel

/-- Witnesses of HostLinksTrainAndGoDown. -/
theorem test_hostLinksTrainAndGoDown : (
    (let n : Fin 2 := 0;
    let s : State := { (lit).puts [(pcPage 0 0, Pcie.PCIE_STAT_SPEED, 5), (pcPage 0 0, Pcie.PCIE_STAT_LTSSM, 4)] with pcie := [(0, { perst := false, np := [{ tag := 5, channel := 0, burst := 4, off := 0, size := 4 }] })] };
     (s.portActs n)) &&
    (let n : Fin 2 := 0; let s : State := { (lit).puts [] with pcie := [(0, { perst := true })] };
     (s.portActs n) && ((s.pc n).perst) && decide (s.flag 0x5 Chip.CLK_STAT_PCIE_REF_OK = false ∨ s.flag (pcPage n 2) Pcie.TEST_HOLD = true)) &&
    (let n : Fin 2 := 0; let s : State := { (lit.put 0x5 Chip.CLK_STAT_PCIE_REF_OK 1).puts [] with pcie := [(0, { perst := true })] };
     (s.portActs n) && ((s.pc n).perst) && (s.flag 0x5 Chip.CLK_STAT_PCIE_REF_OK) && !(s.flag (pcPage n 2) Pcie.TEST_HOLD) &&
     decide (s.get (pcPage n 0) Pcie.PCIE_STAT_SPEED = 0)) &&
    (let n : Fin 2 := 0;
    let s : State := { (lit).puts [(pcPage 0 0, Pcie.PCIE_STAT_SPEED, 5), (pcPage 0 0, Pcie.PCIE_STAT_LTSSM, 4)] with pcie := [(0, { perst := false, np := [{ tag := 5, channel := 0, burst := 4, off := 0, size := 4 }] })] };
     (s.portActs n) && decide (s.get (pcPage n 0) Pcie.PCIE_STAT_SPEED ≠ 0) && !(s.flag (pcPage n 2) Pcie.TEST_HOLD)) &&
    (let n : Fin 2 := 0;
    let s : State := { (lit.put 0x5 Chip.CLK_STAT_PCIE_REF_OK 1).puts [(pcPage 0 2, Pcie.TEST_HOLD, 1), (pcPage 0 0, Pcie.PCIE_STAT_SPEED, 5), (pcPage 0 0, Pcie.PCIE_STAT_LTSSM, 4)] with pcie := [(0, { perst := false })] };
     (s.portActs n) && decide (s.get (pcPage n 0) Pcie.PCIE_STAT_SPEED ≠ 0) && (s.flag (pcPage n 2) Pcie.TEST_HOLD)) &&
    (let n : Fin 2 := 0; let ltssm : Fin 9 := 4; let width : Nat := 8; let speed : Nat := 5;
    let s : State := { (lit).puts [] with pcie := [(0, { perst := false })] };
     (s.portActs n) && !((s.pc n).perst) && (s.ready ⟨.pcie, n, 0⟩) && decide (s.x16 = true ∨ s.halfFailed n = false) &&
     !(s.flag (pcPage n 2) Pcie.TEST_HOLD) && ([1, 2, 4, 8, 16].contains width) && decide (s.x16 = true ∨ width ≤ 8) && decide (1 ≤ speed) &&
     decide (speed ≤ 5) && decide (ltssm.val = 4) && decide (s.get (pcPage n 0) Pcie.PCIE_STAT_SPEED = 0)) &&
    (let n : Fin 2 := 0; let ltssm : Fin 9 := 4; let width : Nat := 16; let speed : Nat := 1;
    let s : State := { (lit).puts [(pcPage 0 0, Pcie.PCIE_STAT_SPEED, 1)] with pcie := [(0, { perst := false })] };
     (s.portActs n) && !((s.pc n).perst) && (s.ready ⟨.pcie, n, 0⟩) && decide (s.x16 = true ∨ s.halfFailed n = false) &&
     !(s.flag (pcPage n 2) Pcie.TEST_HOLD) && ([1, 2, 4, 8, 16].contains width) && decide (s.x16 = true ∨ width ≤ 8) && decide (1 ≤ speed) &&
     decide (speed ≤ 5) && decide (ltssm.val = 4)) &&
    (let n : Fin 2 := 0; let ltssm : Fin 9 := 0; let width : Nat := 8; let speed : Nat := 5;
    let s : State := { (lit).puts [(pcPage 0 0, Pcie.PCIE_STAT_SPEED, 5), (pcPage 0 0, Pcie.PCIE_STAT_LTSSM, 4)] with pcie := [(0, { perst := false, np := [{ tag := 5, channel := 0, burst := 4, off := 0, size := 4 }] })] };
     (s.portActs n) && !((s.pc n).perst) && (s.ready ⟨.pcie, n, 0⟩) && decide (s.x16 = true ∨ s.halfFailed n = false) &&
     !(s.flag (pcPage n 2) Pcie.TEST_HOLD) && ([1, 2, 4, 8, 16].contains width) && decide (s.x16 = true ∨ width ≤ 8) && decide (1 ≤ speed) &&
     decide (speed ≤ 5) && decide (s.get (pcPage n 0) Pcie.PCIE_STAT_SPEED ≠ 0) && decide (ltssm.val ≠ 3) && decide (ltssm.val ≠ 4) &&
     decide (ltssm.val ≠ 5)) &&
    (let n : Fin 2 := 0;
    let s : State := { (lit).puts [(pcPage 0 0, Pcie.PCIE_STAT_LTSSM, 4), (pcPage 0 0, Pcie.PCIE_STAT_SPEED, 4), (pcPage 0 0, Pcie.PCIE_CTL_ASPM_ALLOW, 1)] with pcie := [(0, { perst := false, aspmL1 := true })] };
     (s.portActs n) && (s.linkL0 n) && decide (s.outstanding n = []) && decide ((s.pc n).aper = []) && ((s.pc n).aspmL1) &&
     (s.flag (pcPage n 0) Pcie.PCIE_CTL_ASPM_ALLOW) && !(s.portBound n true)) &&
    (let h : Fin 2 := 0;
    let s : State := { (((({ (lit).puts [] with pcie := [(0, { perst := false, np := [{ tag := 5, channel := 0, burst := 4, off := 0, size := 4 }, { tag := 6, channel := 600, burst := 4, off := 0, size := 4 }] })] }).put 0x40 Seawall.SW_STAT_STATE_H0 1).put 0x40 Seawall.SW_STAT_STATE_H1 4).put (pcPage 0 0) Pcie.PCIE_STAT_IN_CHARGE 0).put (pcPage 1 0) Pcie.PCIE_STAT_IN_CHARGE 1 with due := [.msix 0 3, .msix 0 600] };
     s.takeoverDue && decide (s.pcCharge 0 = 1 - h.val) && (s.halfFailed (1 - h.val)))) = true := by decide +kernel

/-- Witnesses of HostRequestsAreAnswered. -/
theorem test_hostRequestsAreAnswered : (
    (let n : Fin 2 := 0; let value : Option Word := none; let s : State := { (lit).puts [] with pcie := [(0, { perst := false, applied := true })] };
     (s.portActs n) && ((s.pc n).applied) && decide (value = none)) &&
    (let n : Fin 2 := 0; let s : State := { (lit).puts [] with pcie := [(0, { perst := false, applied := true })] };
     (s.portActs n)) &&
    (let n : Fin 2 := 0; let s : State := { (lit).puts [] with pcie := [(0, { perst := false, applied := true })] };
     (s.portActs n)) &&
    (let n : Fin 2 := 0; let s : State := { (lit).puts [] with pcie := [(0, { perst := false, applied := true })] };
     (s.portActs n)) &&
    (let n : Fin 2 := 0; let s : State := { (lit).puts [] with pcie := [(0, {})] };
     (s.portActs n) && !((s.pc n).applied)) &&
    (let n : Fin 2 := 0; let off : Nat := 100; let size : Nat := 3; let write : Option (List Byte) := none;
    let len : Nat := (match write with | none => size | some b => b.length);
    let s : State := { (trained 0 [(Harbour.HB_CAP_DATA_MIB, 1)]).puts [(pcPage 0 0, Pcie.PCIE_STAT_LTSSM, 4)] with pcie := [(0, { perst := false, applied := true })] };
    let h : Nat := (s.apertureAt n off).1; let pa : Nat := (s.apertureAt n off).2; let poisoned : Bool := false;
     (s.decodes n) && decide (len = (match write with | none => size | some b => b.length)) && decide (len ≠ 0) &&
     decide (off + len ≤ 2 ^ s.barLog n) && decide (s.apertureAt n off = (h, pa)) && (s.ready ⟨.harbour, h, 0⟩) && !(s.halfFailed h) &&
     decide (pa + len ≤ s.memCapacity h) && decide (poisoned = false ∨ write = none)) &&
    (let n : Fin 2 := 0; let off : Nat := 100; let size : Nat := 3; let write : Option (List Byte) := some [1, 2, 3];
    let len : Nat := (match write with | none => size | some b => b.length);
    let s : State := { (trained 0 [(Harbour.HB_CAP_DATA_MIB, 1)]).puts [(pcPage 0 0, Pcie.PCIE_STAT_LTSSM, 4)] with pcie := [(0, { perst := false, applied := true })] };
    let h : Nat := (s.apertureAt n off).1; let pa : Nat := (s.apertureAt n off).2; let poisoned : Bool := true;
     (s.decodes n) && decide (len = (match write with | none => size | some b => b.length)) && decide (len ≠ 0) &&
     decide (off + len ≤ 2 ^ s.barLog n) && decide (s.apertureAt n off = (h, pa)) &&
     decide (s.ready ⟨.harbour, h, 0⟩ = false ∨ s.halfFailed h = true ∨ s.memCapacity h < pa + len ∨ (poisoned = true ∧ write ≠ none))) &&
    (let n : Fin 2 := 0; let off : Nat := 0x200000; let size : Nat := 8; let write : Option (List Byte) := none;
    let len : Nat := (match write with | none => size | some b => b.length);
    let s : State := { (trained 0 [(Harbour.HB_CAP_DATA_MIB, 1)]).puts [(pcPage 0 0, Pcie.PCIE_STAT_LTSSM, 4)] with pcie := [(0, { perst := false, applied := true })] };
    let h : Nat := (s.apertureAt n off).1; let pa : Nat := (s.apertureAt n off).2; let poisoned : Bool := false;
     (s.decodes n) && decide (len = (match write with | none => size | some b => b.length)) && decide (len ≠ 0) &&
     decide (off + len ≤ 2 ^ s.barLog n) && decide (s.apertureAt n off = (h, pa)) &&
     decide (s.ready ⟨.harbour, h, 0⟩ = false ∨ s.halfFailed h = true ∨ s.memCapacity h < pa + len ∨ (poisoned = true ∧ write ≠ none))) &&
    (let n : Fin 2 := 0; let w : Option Word := none;
    let s : State := { (lit).puts [(pcPage 0 0, Pcie.PCIE_STAT_LTSSM, 4), (pcPage 0 0, Pcie.PCIE_STAT_MSIX_EN, 1), (pcPage 0 0, Pcie.PCIE_STAT_BME, 1)] with pcie := [(0, { table := [(1, { addr := 5, data := 6, masked := false })], pba := [1] })] };
     (s.decodes n) && decide (w = none)) &&
    (let n : Fin 2 := 0;
    let s : State := { (lit).puts [(pcPage 0 0, Pcie.PCIE_STAT_LTSSM, 4), (pcPage 0 0, Pcie.PCIE_STAT_D_STATE, 3)] with pcie := [(0, { table := [(1, { addr := 5, data := 6, masked := false })], pba := [1] })] };
     !(s.decodes n)) &&
    (let n : Fin 2 := 0; let src : Fin 1537 := 1025;
    let s : State := { { (lit).puts [(pcPage 0 8, Pcie.SRC_VEC_EN.nth 1, 1), (pcPage 0 8, Pcie.SRC_VEC_VECTOR.nth 1, 3), (pcPage 0 0, Pcie.PCIE_STAT_LTSSM, 4), (pcPage 0 0, Pcie.PCIE_STAT_MSIX_EN, 1), (pcPage 0 0, Pcie.PCIE_STAT_BME, 1)] with pcie := [(0, { table := [(3, { addr := 5, data := 6, masked := false })] })] } with due := [.msix 0 1025, .msix 0 1025] };
    let v : Nat := 3;
     decide (s.x16 = true → n.val = 0) && decide (s.x16 = false → src.val < 1024 → src.val / 512 = n.val) && decide (s.srcVec n src = some v) &&
     decide (1024 ≤ src.val ∨ s.x16 = false ∨ s.sentinelChannel src = false ∨ s.halfActing (src / 512) = true) &&
     (s.flag (pcPage n 0) Pcie.PCIE_STAT_MSIX_EN) && (s.flag (pcPage n 0) Pcie.PCIE_STAT_BME) && (s.linkL0 n) && !(s.msixHeld n v)) &&
    (let n : Fin 2 := 0; let src : Fin 1537 := 1025;
    let s : State := { { (lit).puts [(pcPage 0 8, Pcie.SRC_VEC_EN.nth 1, 1), (pcPage 0 8, Pcie.SRC_VEC_VECTOR.nth 1, 3)] with pcie := [(0, { table := [(3, { addr := 5, data := 6, masked := false })] })] } with due := [.msix 0 1025, .msix 0 1025] };
    let v : Nat := 3;
     decide (s.x16 = true → n.val = 0) && decide (s.x16 = false → src.val < 1024 → src.val / 512 = n.val) && decide (s.srcVec n src = some v) &&
     decide (1024 ≤ src.val ∨ s.x16 = false ∨ s.sentinelChannel src = false ∨ s.halfActing (src / 512) = true) &&
     decide (s.flag (pcPage n 0) Pcie.PCIE_STAT_MSIX_EN = false ∨ s.flag (pcPage n 0) Pcie.PCIE_STAT_BME = false ∨ s.linkL0 n = false)) &&
    (let n : Fin 2 := 0; let src : Fin 1537 := 1025;
    let s : State := { { (lit).puts [(pcPage 0 8, Pcie.SRC_VEC_EN.nth 1, 1), (pcPage 0 8, Pcie.SRC_VEC_VECTOR.nth 1, 3), (pcPage 0 0, Pcie.PCIE_STAT_LTSSM, 4), (pcPage 0 0, Pcie.PCIE_STAT_MSIX_EN, 1), (pcPage 0 0, Pcie.PCIE_STAT_BME, 1)] with pcie := [(0, { table := [(3, { addr := 5, data := 6 })] })] } with due := [.msix 0 1025, .msix 0 1025] };
    let v : Nat := 3;
     decide (s.x16 = true → n.val = 0) && decide (s.x16 = false → src.val < 1024 → src.val / 512 = n.val) && decide (s.srcVec n src = some v) &&
     decide (1024 ≤ src.val ∨ s.x16 = false ∨ s.sentinelChannel src = false ∨ s.halfActing (src / 512) = true) &&
     (s.flag (pcPage n 0) Pcie.PCIE_STAT_MSIX_EN) && (s.flag (pcPage n 0) Pcie.PCIE_STAT_BME) && (s.linkL0 n) && (s.msixHeld n v)) &&
    (let n : Fin 2 := 0; let src : Fin 1537 := 0;
    let s : State := ((({ ({ (planned lit (planOf [{ (strm 0) with sentinel := 0, outCount := 1 }] [⟨5, 0, 0, 0⟩])).puts [(pcPage 0 4, Pcie.SRC_VEC_EN.nth 0, 1), (pcPage 0 4, Pcie.SRC_VEC_VECTOR.nth 0, 3), (pcPage 0 0, Pcie.PCIE_STAT_LTSSM, 4), (pcPage 0 0, Pcie.PCIE_STAT_MSIX_EN, 1), (pcPage 0 0, Pcie.PCIE_STAT_BME, 1)] with pcie := [(0, { table := [(3, { addr := 5, data := 6, masked := false })] })] }) with due := [.msix 0 0] }).put 0x40 Seawall.SW_STAT_ACTING 2));
    let v : Nat := 3;
     decide (s.x16 = true → n.val = 0) && decide (s.x16 = false → src.val < 1024 → src.val / 512 = n.val) && decide (s.srcVec n src = some v) &&
     decide (src.val < 1024) && s.x16 && (s.sentinelChannel src) && !(s.halfActing (src / 512))) &&
    (let n : Fin 2 := 0; let tag : Fin 1024 := 5; let st : CplStatus := .abort;
    let s : State := { { (lit).puts [] with pcie := [(0, { np := [{ tag := 5, channel := 0, burst := 4, entry := some (5, 7), off := 0, size := 4 }, { tag := 6, channel := 0, burst := 4, entry := some (5, 7), off := 4, size := 4, done := false }] })] } with harbours := [(0, { jobs := [(5, { state := 3, gen := 7 })] })] };
    let q : NpReq := { tag := 5, channel := 0, burst := 4, entry := some (5, 7), off := 0, size := 4 };
     !((s.pc n).discard.contains tag.val) && decide ((s.pc n).np.find? (fun q => q.tag == tag.val && !q.done) = some q) && !(s.npLate q) &&
     decide (st = .poisoned ∨ st = .unsupported ∨ st = .abort ∨ st = .retry)) &&
    (let n : Fin 2 := 0; let tag : Fin 1024 := 5; let st : CplStatus := .malformed;
    let s : State := { { (lit).puts [] with pcie := [(0, { np := [{ tag := 5, channel := 0, burst := 4, entry := some (5, 7), off := 0, size := 4 }, { tag := 6, channel := 0, burst := 4, entry := some (5, 7), off := 4, size := 4, done := false }] })] } with harbours := [(0, { jobs := [(5, { state := 3, gen := 7 })] })] };
    let q : NpReq := { tag := 5, channel := 0, burst := 4, entry := some (5, 7), off := 0, size := 4 };
     !((s.pc n).discard.contains tag.val) && decide ((s.pc n).np.find? (fun q => q.tag == tag.val && !q.done) = some q) && !(s.npLate q) &&
     decide (st = .malformed)) &&
    (let n : Fin 2 := 0; let tag : Fin 1024 := 5; let st : CplStatus := .success; let bytes : List Byte := [1, 2, 3, 4];
    let s : State := { { lit with pcie := [(0, { np := [{ tag := 5, channel := 0, burst := 4, entry := some (5, 7), off := 0, size := 4 }, { tag := 7, channel := 0, burst := 6, entry := some (5, 7), off := 0, size := 4 }] })] } with harbours := [(0, { jobs := [(5, { state := 3, gen := 7 })] })] };
    let q : NpReq := { tag := 5, channel := 0, burst := 4, entry := some (5, 7), off := 0, size := 4 };
     !((s.pc n).discard.contains tag.val) && decide ((s.pc n).np.find? (fun q => q.tag == tag.val && !q.done) = some q) && !(s.npLate q) &&
     decide (st = .success) && decide ((s.pc n).np.filter (fun r => r.same q) = [q]) && decide (q.got = []) && decide (bytes.length = q.size)) &&
    (let n : Fin 2 := 0; let tag : Fin 1024 := 5; let st : CplStatus := .success;
    let s : State := { (lit).puts [] with pcie := [(0, { np := [{ tag := 5, channel := 0, burst := 4, off := 0, size := 4 }], discard := [5] })] };
     decide (st ≠ .malformed) && decide (st ≠ .ecrc) && ((s.pc n).discard.contains tag.val)) &&
    (let n : Fin 2 := 0; let tag : Fin 1024 := 5; let st : CplStatus := .success;
    let s : State := { (lit).puts [] with pcie := [(0, { np := [{ ({ tag := 5, channel := 0, burst := 4, off := 0, size := 4 } : NpReq) with done := true }] })] };
     decide (st ≠ .malformed) && decide (st ≠ .ecrc) && !((s.pc n).discard.contains tag.val) &&
     ((s.pc n).np).all (fun q => !decide (q.tag = tag.val) || decide (q.done = true))) &&
    (let n : Fin 2 := 0; let tag : Fin 1024 := 5;
    let s : State := { (lit).puts [] with pcie := [(0, { np := [{ tag := 5, channel := 0, burst := 4, off := 0, size := 4 }], discard := [5] })] };
     ((s.pc n).discard.contains tag.val))) = true := by decide +kernel

/-- Witnesses of WindowAccessesOpenAndEndTransactions. -/
theorem test_windowAccessesOpenAndEndTransactions : (
    (let req : Requester := .host0; let n : Fin 40 := 0; let off : Fin 1024 := 4; let size : Fin 9 := 4; let upper : Bool := true;
    let place : Nat := jtPage n * 0x1000 + 0x400 + (if upper then 0x800 else 0) + off.val;
    let words : List Nat := (if size.val = 8 then [off.val / 4, off.val / 4 + 1] else [off.val / 4]);
    let s : State := { (laned 0 [(Weatas.LINK_STAT_STATE, 9)]).puts [(jtPage 0, Hdr.CTRL_EN, 1)] with windows := [(0, {})] };
    let ks : List Nat := (s.jtFree n req.code).take words.length;
     ([1, 2, 4, 8].contains size.val) && decide (place = jtPage n * 0x1000 + 0x400 + (if upper then 0x800 else 0) + off.val) &&
     decide (words = (if size.val = 8 then [off.val / 4, off.val / 4 + 1] else [off.val / 4])) &&
     decide (ks = (s.jtFree n req.code).take words.length) && (s.reaches req) && decide (s.accessCause false place size = none) && (s.jtEnabled n) &&
     decide (ks.length = words.length) && decide (n.val < 32) && (s.linkOperating n)) &&
    (let req : Requester := .host0; let n : Fin 40 := 0; let off : Fin 1024 := 4; let size : Fin 9 := 4; let upper : Bool := false;
    let place : Nat := jtPage n * 0x1000 + 0x400 + (if upper then 0x800 else 0) + off.val;
    let words : List Nat := (if size.val = 8 then [off.val / 4, off.val / 4 + 1] else [off.val / 4]);
    let s : State := { (laned 0 [(Weatas.LINK_STAT_STATE, 9)]).puts [] with windows := [(0, {})] };
    let ks : List Nat := (s.jtFree n req.code).take words.length;
     ([1, 2, 4, 8].contains size.val) && decide (place = jtPage n * 0x1000 + 0x400 + (if upper then 0x800 else 0) + off.val) &&
     decide (words = (if size.val = 8 then [off.val / 4, off.val / 4 + 1] else [off.val / 4])) &&
     decide (ks = (s.jtFree n req.code).take words.length) && (s.reaches req) && decide (s.accessCause false place size = none) &&
     decide (s.jtEnabled n = false ∨ ks.length < words.length) && !(s.flag (jtPage n) Jetty.JT_ERR_INFO_VALID)) &&
    (let req : Requester := .host0; let n : Fin 40 := 0; let off : Fin 1024 := 4; let size : Fin 9 := 4; let upper : Bool := false;
    let place : Nat := jtPage n * 0x1000 + 0x400 + (if upper then 0x800 else 0) + off.val;
    let words : List Nat := (if size.val = 8 then [off.val / 4, off.val / 4 + 1] else [off.val / 4]);
    let s : State := { (laned 0 []).puts [(jtPage 0, Hdr.CTRL_EN, 1)] with windows := [(0, {})] };
    let ks : List Nat := (s.jtFree n req.code).take words.length;
     ([1, 2, 4, 8].contains size.val) && decide (place = jtPage n * 0x1000 + 0x400 + (if upper then 0x800 else 0) + off.val) &&
     decide (words = (if size.val = 8 then [off.val / 4, off.val / 4 + 1] else [off.val / 4])) &&
     decide (ks = (s.jtFree n req.code).take words.length) && (s.reaches req) && decide (s.accessCause false place size = none) && (s.jtEnabled n) &&
     decide (ks.length = words.length) && decide (n.val < 32) && !(s.linkOperating n) &&
     ((s.window n).reads).all (fun r => (r.words).all (fun w => decide (w.1 ∉ ks)))) &&
    (let req : Requester := .host0; let n : Fin 40 := 32; let off : Fin 1024 := 4; let size : Fin 9 := 4; let upper : Bool := true;
    let place : Nat := jtPage n * 0x1000 + 0x400 + (if upper then 0x800 else 0) + off.val;
    let words : List Nat := (if size.val = 8 then [off.val / 4, off.val / 4 + 1] else [off.val / 4]);
    let s : State := { (lit.puts ([(0xA, Chip.GPIO_CFG_FUNC.nth 5, 5), (0xA, Chip.GPIO_CFG_FIDX.nth 5, 0), (0xA, Chip.GPIO_CFG_FUNC.nth 6, 6), (0xA, Chip.GPIO_CFG_FIDX.nth 6, 0)])).puts [(jtPage 32, Hdr.CTRL_EN, 1)] with windows := [(32, {})] };
    let ks : List Nat := (s.jtFree n req.code).take words.length;
     ([1, 2, 4, 8].contains size.val) && decide (place = jtPage n * 0x1000 + 0x400 + (if upper then 0x800 else 0) + off.val) &&
     decide (words = (if size.val = 8 then [off.val / 4, off.val / 4 + 1] else [off.val / 4])) &&
     decide (ks = (s.jtFree n req.code).take words.length) && (s.reaches req) && decide (s.accessCause false place size = none) && (s.jtEnabled n) &&
     decide (ks.length = words.length) && decide (32 ≤ n.val) && !(s.flag (jtPage n) Jetty.LOC_STAT_STUCK) && (s.hasBall 5 (n - 32)) &&
     (s.hasBall 6 (n - 32))) &&
    (let req : Requester := .host0; let n : Fin 40 := 0; let word : Fin 256 := 254; let lo : Word := 0x12345678; let hi : Option Word := none;
    let words : List (Nat × Option Nat) := (word.val, some lo.toNat) :: hi.toList.map (fun h => (word.val + 1, some h.toNat));
    let s : State := { (laned 0 [(Weatas.LINK_STAT_STATE, 9)]).puts [(jtPage 0, Hdr.CTRL_EN, 1)] with windows := [(0, {})] };
    let ks : List Nat := (s.jtFree n req.code).take words.length;
     decide (words = (word.val, some lo.toNat) :: hi.toList.map (fun h => (word.val + 1, some h.toNat))) &&
     decide (ks = (s.jtFree n req.code).take words.length) && (s.serves req (jtPage n * 0x1000 + 0x400 + 4 * word.val)) &&
     decide (hi = none ∨ word.val % 2 = 0) && (s.jtEnabled n) && decide (ks.length = words.length) && decide (n.val < 32) && (s.linkOperating n) &&
     decide ((n.val < 32 ∧ s.linkOperating n = true) ∨ (32 ≤ n.val ∧ s.flag (jtPage n) Jetty.LOC_STAT_STUCK = false ∧ s.hasBall 5 (n - 32) = true ∧ s.hasBall 6 (n - 32) = true))) &&
    (let req : Requester := .host0; let n : Fin 40 := 0; let word : Fin 256 := 254; let lo : Word := 0x12345678; let hi : Option Word := none;
    let words : List (Nat × Option Nat) := (word.val, some lo.toNat) :: hi.toList.map (fun h => (word.val + 1, some h.toNat));
    let s : State := { (laned 0 []).puts [(jtPage 0, Hdr.CTRL_EN, 1)] with windows := [(0, {})] };
    let ks : List Nat := (s.jtFree n req.code).take words.length;
     decide (words = (word.val, some lo.toNat) :: hi.toList.map (fun h => (word.val + 1, some h.toNat))) &&
     decide (ks = (s.jtFree n req.code).take words.length) && (s.serves req (jtPage n * 0x1000 + 0x400 + 4 * word.val)) &&
     decide (hi = none ∨ word.val % 2 = 0) && (s.jtEnabled n) && decide (ks.length = words.length) && decide (n.val < 32) && !(s.linkOperating n)) &&
    (let req : Requester := .host0; let n : Fin 40 := 0; let word : Fin 256 := 254; let lo : Word := 0x12345678; let hi : Option Word := none;
    let words : List (Nat × Option Nat) := (word.val, some lo.toNat) :: hi.toList.map (fun h => (word.val + 1, some h.toNat));
    let s : State := { (laned 0 [(Weatas.LINK_STAT_STATE, 9)]).puts [] with windows := [(0, {})] };
    let ks : List Nat := (s.jtFree n req.code).take words.length;
     decide (words = (word.val, some lo.toNat) :: hi.toList.map (fun h => (word.val + 1, some h.toNat))) &&
     decide (ks = (s.jtFree n req.code).take words.length) && (s.serves req (jtPage n * 0x1000 + 0x400 + 4 * word.val)) &&
     decide (hi = none ∨ word.val % 2 = 0) && decide (s.jtEnabled n = false ∨ ks.length < words.length)) &&
    (let req : Requester := .host0; let n : Fin 40 := 32; let word : Fin 256 := 254; let lo : Word := 0x12345678; let hi : Option Word := none;
    let words : List (Nat × Option Nat) := (word.val, some lo.toNat) :: hi.toList.map (fun h => (word.val + 1, some h.toNat));
    let s : State := { (lit.puts ([(0xA, Chip.GPIO_CFG_FUNC.nth 5, 5), (0xA, Chip.GPIO_CFG_FIDX.nth 5, 0), (0xA, Chip.GPIO_CFG_FUNC.nth 6, 6), (0xA, Chip.GPIO_CFG_FIDX.nth 6, 0)])).puts [(jtPage 32, Hdr.CTRL_EN, 1)] with windows := [(32, {})] };
    let ks : List Nat := (s.jtFree n req.code).take words.length;
     decide (words = (word.val, some lo.toNat) :: hi.toList.map (fun h => (word.val + 1, some h.toNat))) &&
     decide (ks = (s.jtFree n req.code).take words.length) && (s.serves req (jtPage n * 0x1000 + 0x400 + 4 * word.val)) &&
     decide (hi = none ∨ word.val % 2 = 0) && (s.jtEnabled n) && decide (ks.length = words.length) && decide (32 ≤ n.val) &&
     !(s.flag (jtPage n) Jetty.LOC_STAT_STUCK) && (s.hasBall 5 (n - 32)) && (s.hasBall 6 (n - 32)) &&
     decide ((n.val < 32 ∧ s.linkOperating n = true) ∨ (32 ≤ n.val ∧ s.flag (jtPage n) Jetty.LOC_STAT_STUCK = false ∧ s.hasBall 5 (n - 32) = true ∧ s.hasBall 6 (n - 32) = true))) &&
    (let n : Fin 40 := 0;
    let s : State := { (laned 0 [(Weatas.LINK_STAT_STATE, 9)]).puts [(jtPage 0, Hdr.CTRL_EN, 1)] with windows := [(0, { slots := [(0, { isOpen := true, gen := 5, requester := 0, word := 0, txn := ⟨0, 2, 16, [0], 1, 0⟩ })], reads := [⟨.host0, 0x200404, 4, [(0, none)], 0, false⟩], inbox := [(5, [0, 0x50, 1, 0xAB])] })] };
    let b : List Byte := [0, 0x50, 1, 0xAB]; let i : Nat := 0;
     decide (((s.window n).inbox.find? (fun e => e.1 == 5)).map (·.2) = some b) && decide (i = fieldLE b 0 1) && (s.mirrorRests n) &&
     decide (i < 64) && (((s.window n).slot i).isOpen) && decide (((s.window n).slot i).gen = fieldLE b 1 1 / 16) &&
     decide (fieldLE b 1 1 % 16 ≠ 6 ∨ s.get (jtPage n) Jetty.JT_CFG_BUSY_RETRY ≤ ((s.window n).slot i).retries)) &&
    (let n : Fin 40 := 0;
    let s : State := { (laned 0 [(Weatas.LINK_STAT_STATE, 9)]).puts [(jtPage 0, Hdr.CTRL_EN, 1)] with windows := [(0, { slots := [(0, { isOpen := true, gen := 5, requester := 0, word := 0, txn := ⟨0, 2, 16, [0], 1, 0⟩ })], inbox := [(5, [0, 0x56, 0])] })] };
    let b : List Byte := [0, 0x56, 0]; let i : Nat := 0;
     decide (((s.window n).inbox.find? (fun e => e.1 == 5)).map (·.2) = some b) && decide (i = fieldLE b 0 1) && (s.mirrorRests n) &&
     decide (i < 64) && (((s.window n).slot i).isOpen) && decide (((s.window n).slot i).gen = fieldLE b 1 1 / 16) &&
     decide (fieldLE b 1 1 % 16 = 6) && decide (((s.window n).slot i).retries < s.get (jtPage n) Jetty.JT_CFG_BUSY_RETRY)) &&
    (let n : Fin 40 := 0;
    let s : State := { (laned 0 [(Weatas.LINK_STAT_STATE, 9)]).puts [(jtPage 0, Hdr.CTRL_EN, 1)] with windows := [(0, { slots := [(0, { gen := 6, late := some 5 })], inbox := [(5, [0, 0x50, 0])] })] };
    let b : List Byte := [0, 0x50, 0]; let i : Nat := 0;
     decide (((s.window n).inbox.find? (fun e => e.1 == 5)).map (·.2) = some b) && decide (i = fieldLE b 0 1) && (s.mirrorRests n) &&
     decide (64 ≤ i ∨ ((s.window n).slot i).isOpen = false ∨ ((s.window n).slot i).gen ≠ fieldLE b 1 1 / 16) && decide (i < 64) &&
     decide (((s.window n).slot i).late = some (fieldLE b 1 1 / 16))) &&
    (let n : Fin 40 := 0; let i : Fin 64 := 0;
    let s : State := { (laned 0 [(Weatas.LINK_STAT_STATE, 9)]).puts [(jtPage 0, Hdr.CTRL_EN, 1)] with windows := [(0, { slots := [(0, { isOpen := true, gen := 5, requester := 0, word := 0, txn := ⟨0, 2, 16, [0], 1, 0⟩ })] })] };
     (((s.window n).slot i).isOpen) && (s.mirrorRests n) && decide (n.val < 32)) &&
    (let n : Fin 40 := 39; let i : Fin 64 := 0; let sdaLow : Bool := true;
    let s : State := { (laned 0 [(Weatas.LINK_STAT_STATE, 9)]).puts [(jtPage 39, Hdr.CTRL_EN, 1)] with windows := [(39, { slots := [(0, { isOpen := true, gen := 5, requester := 0, word := 0, txn := ⟨0, 2, 16, [0], 1, 0⟩ })], localQueue := [0] })] };
     (((s.window n).slot i).isOpen) && (s.mirrorRests n) && decide (32 ≤ n.val) && decide ((s.window n).localQueue.head? = some i.val) && sdaLow) &&
    (let n : Fin 40 := 39; let i : Fin 64 := 0; let sdaLow : Bool := false;
    let s : State := { (lit.puts ([(0xA, Chip.GPIO_CFG_FUNC.nth 5, 5), (0xA, Chip.GPIO_CFG_FIDX.nth 5, 0), (0xA, Chip.GPIO_CFG_FUNC.nth 6, 6), (0xA, Chip.GPIO_CFG_FIDX.nth 6, 0)])).puts [(jtPage 39, Hdr.CTRL_EN, 1)] with windows := [(39, { slots := [(0, { isOpen := true, gen := 5, requester := 0, word := 0, txn := ⟨0, 2, 16, [0], 1, 0⟩ }), (1, { isOpen := true, gen := 5, requester := 0, word := 0, txn := ⟨0, 2, 16, [0], 1, 0⟩ })], localQueue := [0, 1] })] };
     (((s.window n).slot i).isOpen) && (s.mirrorRests n) && decide (32 ≤ n.val) && decide ((s.window n).localQueue.head? = some i.val) && !(sdaLow) &&
     !(s.flag (jtPage n) Jetty.LOC_STAT_STUCK)) &&
    (let n : Fin 40 := 0; let i : Fin 64 := 0;
    let s : State := { (laned 0 [(Weatas.LINK_STAT_STATE, 9)]).puts [(jtPage 0, Hdr.CTRL_EN, 1)] with windows := [(0, { slots := [(0, { ({ isOpen := true, gen := 5, requester := 0, word := 0, txn := ⟨0, 2, 16, [0], 1, 0⟩ } : JettySlot) with retry := true })] })] };
     (((s.window n).slot i).isOpen) && (((s.window n).slot i).retry) && decide (n.val < 32)) &&
    (let n : Fin 40 := 0;
    let s : State := { (laned 0 [(Weatas.LINK_STAT_STATE, 9)]).puts [(jtPage 0, Hdr.CTRL_EN, 1)] with windows := [(0, { slots := [(0, { gen := 5, late := some 5 }), (1, { isOpen := true, gen := 5, requester := 0, word := 0, txn := ⟨0, 2, 16, [0], 1, 0⟩ })] })] };
     (s.mirrorRests n)) &&
    (let req : Requester := .host0; let n : Fin 40 := 0; let w : Word := 0x80000200;
    let s : State := { (laned 0 [(Weatas.LINK_STAT_STATE, 9)]).puts [(jtPage 0, Hdr.CTRL_EN, 1)] with windows := [(0, {})] };
     (s.serves req (regOff (jtPage n) Jetty.TXQ_REQ_GO)) && (s.mirrorRests n) && decide (w.toNat / 2 ^ 28 % 4 ≠ 3)) &&
    (let req : Requester := .host0; let n : Fin 40 := 0; let w : Word := 0x80000200;
    let s : State := { (laned 0 [(Weatas.LINK_STAT_STATE, 9)]).puts [(jtPage 0, Hdr.CTRL_EN, 1), (jtPage 0, Jetty.TXQ_REQ_GO, 1)] with windows := [(0, {})] };
     (s.serves req (regOff (jtPage n) Jetty.TXQ_REQ_GO)) && (s.mirrorRests n) && decide (w.toNat / 2 ^ 28 % 4 ≠ 3) && (w.getLsbD 31) &&
     (s.flag (jtPage n) Jetty.TXQ_REQ_GO)) &&
    (let req : Requester := .host0; let n : Fin 40 := 0; let w : Word := 0x00000200;
    let s : State := { (laned 0 [(Weatas.LINK_STAT_STATE, 9)]).puts [(jtPage 0, Hdr.CTRL_EN, 1)] with windows := [(0, {})] };
     (s.serves req (regOff (jtPage n) Jetty.TXQ_REQ_GO)) && (s.mirrorRests n) && decide (w.toNat / 2 ^ 28 % 4 ≠ 3) && !(w.getLsbD 31)) &&
    (let req : Requester := .host0; let n : Fin 40 := 0; let w : Word := 0x80000001;
    let s : State := { (laned 0 [(Weatas.LINK_STAT_STATE, 9)]).puts [(jtPage 0, Hdr.CTRL_EN, 1)] with windows := [(0, { slots := [(0, { isOpen := true, gen := 5, requester := 0, word := 0, txn := ⟨0, 2, 16, [0], 1, 0⟩ })] })] };
     (s.serves req (regOff (jtPage n) Jetty.TXQ_REQ_GO)) && (s.mirrorRests n) && decide (w.toNat / 2 ^ 28 % 4 ≠ 3))) = true := by decide +kernel

/-- Witnesses of MirrorsEventsPollsAndLocalBuses. -/
theorem test_mirrorsEventsPollsAndLocalBuses : (
    (let n : Fin 40 := 0;
    let s : State := { (laned 0 [(Weatas.LINK_STAT_STATE, 9)]).puts [(jtPage 0, Hdr.CTRL_EN, 1), (jtPage 0, (Jetty.MIR_CFG_EN.nth 0), 1), (jtPage 0, (Jetty.MIR_CFG_EN.nth 3), 1), (jtPage 0, (Jetty.MIR_CFG_EN.nth 63), 1), (jtPage 0, (Jetty.MIR_CFG_DIR.nth 0), 1), (jtPage 0, (Jetty.MIR_CFG_DIRTY.nth 0), 1), (jtPage 0, (Jetty.MIR_CFG_WIDTH.nth 63), 2), (jtPage 0, (Jetty.MIR_VAL_VALUE.nth 0), 4660)] with windows := [(0, {})] };
    let es : List Nat := (List.range 128).filter (fun e => s.get (jtPage n) (Jetty.MIR_CFG_EN.nth (e % 64)) == 1 && (if e < 64 then s.get (jtPage n) (Jetty.MIR_CFG_DIR.nth (e % 64)) == 1 && s.get (jtPage n) (Jetty.MIR_CFG_DIRTY.nth (e % 64)) == 1 else s.get (jtPage n) (Jetty.MIR_CFG_DIR.nth (e % 64)) == 0));
    let ks : List Nat := s.jtFree n 2;
     decide ((s.window n).cycle = none) && (s.jtEnabled n) &&
     decide (es = (List.range 128).filter (fun e => s.get (jtPage n) (Jetty.MIR_CFG_EN.nth (e % 64)) == 1 && (if e < 64 then s.get (jtPage n) (Jetty.MIR_CFG_DIR.nth (e % 64)) == 1 && s.get (jtPage n) (Jetty.MIR_CFG_DIRTY.nth (e % 64)) == 1 else s.get (jtPage n) (Jetty.MIR_CFG_DIR.nth (e % 64)) == 0))) &&
     decide (ks = s.jtFree n 2) &&
     decide ((n.val < 32 ∧ s.linkOperating n = true) ∨ (32 ≤ n.val ∧ s.flag (jtPage n) Jetty.LOC_STAT_STUCK = false ∧ s.hasBall 5 (n - 32) = true ∧ s.hasBall 6 (n - 32) = true)) &&
     decide (n.val < 32)) &&
    (let n : Fin 40 := 0;
    let s : State := { (laned 0 [(Weatas.LINK_STAT_STATE, 9)]).puts [(jtPage 0, Hdr.CTRL_EN, 1)] with windows := [(0, { cycle := some (4294967300, []) })] };
    let tide : Nat := 4294967300;
     decide ((s.window n).cycle = some (tide, [])) && !(((s.window n).slots.any fun e => e.2.isOpen && e.2.requester == 2))) &&
    (let req : Requester := .host0; let n : Fin 40 := 0; let m : Fin 64 := 63;
    let s : State := { (laned 0 [(Weatas.LINK_STAT_STATE, 9)]).puts [(jtPage 0, Hdr.CTRL_EN, 1), (jtPage 0, (Jetty.MIR_CFG_DIR.nth 63), 1)] with windows := [(0, {})] };
     (s.serves req (regOff (jtPage n) (Jetty.MIR_VAL_VALUE.nth m))) && (s.flag (jtPage n) (Jetty.MIR_CFG_DIR.nth m))) &&
    (let req : Requester := .host0; let n : Fin 40 := 0; let m : Fin 64 := 0;
    let s : State := { (laned 0 [(Weatas.LINK_STAT_STATE, 9)]).puts [(jtPage 0, Hdr.CTRL_EN, 1)] with windows := [(0, {})] };
     (s.serves req (regOff (jtPage n) (Jetty.MIR_VAL_VALUE.nth m))) && !(s.flag (jtPage n) (Jetty.MIR_CFG_DIR.nth m))) &&
    (let n : Fin 8 := 0; let s : State := lit.puts [(0xA, Chip.GPIO_CFG_FUNC.nth 5, 4), (0xA, Chip.GPIO_CFG_FIDX.nth 5, 0)];
     (s.hasBall 4 n) && decide ((s.window (32 + n)).events.length < 16) && decide ((s.window (32 + n)).events = [])) &&
    (let n : Fin 8 := 0;
    let s : State := { lit.puts [(0xA, Chip.GPIO_CFG_FUNC.nth 5, 4), (0xA, Chip.GPIO_CFG_FIDX.nth 5, 0)] with windows := [(32, { events := List.replicate 16 { kind := 1, stamp := 5 } })] };
     (s.hasBall 4 n) && decide (16 ≤ (s.window (32 + n)).events.length)) &&
    (let n : Fin 8 := 0; let s : State := lit.put (jtPage 32) Jetty.LOC_CFG_IBI_EN 1;
     (s.flag (jtPage (32 + n)) Jetty.LOC_CFG_IBI_EN) && decide ((s.window (32 + n)).events.length < 16)) &&
    (let n : Fin 8 := 0; let s : State := lit;
     !(s.flag (jtPage (32 + n)) Jetty.LOC_CFG_IBI_EN)) &&
    (let n : Fin 8 := 0;
    let s : State := { lit.put (jtPage 32) Jetty.LOC_CFG_IBI_EN 1 with windows := [(32, { events := List.replicate 16 { kind := 1, stamp := 5 } })] };
     (s.flag (jtPage (32 + n)) Jetty.LOC_CFG_IBI_EN) && decide (16 ≤ (s.window (32 + n)).events.length)) &&
    (let req : Requester := .host0; let n : Fin 40 := 0;
    let s : State := { (laned 0 [(Weatas.LINK_STAT_STATE, 9)]).puts [(jtPage 0, Hdr.CTRL_EN, 1)] with windows := [(0, {})] };
     (s.servesRead req (regOff (jtPage n) Jetty.EVQ_STAMP_LO_TIME))) &&
    (let n : Fin 32 := 0;
    let s : State := { (laned 0 [(Weatas.LINK_STAT_STATE, 9)]).puts [(jtPage 0, Hdr.CTRL_EN, 1), (jtPage 0, Jetty.POLL_CFG_EN, 1), (jtPage 0, Jetty.POLL_CFG_MISS_MAX, 3)] with windows := [(0, { polled := true, pollId := 255, missRun := 2 })] };
     (s.jtEnabled n) && (s.flag (jtPage n) Jetty.POLL_CFG_EN) && decide (s.linkState n = 9) && ((s.window n).polled) &&
     decide (s.get (jtPage n) Jetty.POLL_CFG_MISS_MAX ≤ (s.window n).missRun + 1)) &&
    (let n : Fin 32 := 0;
    let s : State := { (laned 0 [(Weatas.LINK_STAT_STATE, 9)]).puts [(jtPage 0, Hdr.CTRL_EN, 1), (jtPage 0, Jetty.POLL_CFG_EN, 1)] with windows := [(0, {})] };
     (s.jtEnabled n) && (s.flag (jtPage n) Jetty.POLL_CFG_EN) && decide (s.linkState n = 9) && !((s.window n).polled)) &&
    (let n : Fin 32 := 0;
    let s : State := { (laned 0 [(Weatas.LINK_STAT_STATE, 9)]).puts [(jtPage 0, Hdr.CTRL_EN, 1), (jtPage 0, Jetty.POLL_CFG_EN, 1), (jtPage 0, Jetty.POLL_CFG_MISS_MAX, 9)] with windows := [(0, { polled := true, pollId := 255, missRun := 2 })] };
     (s.jtEnabled n) && (s.flag (jtPage n) Jetty.POLL_CFG_EN) && decide (s.linkState n = 9) && ((s.window n).polled) &&
     decide ((s.window n).missRun + 1 < s.get (jtPage n) Jetty.POLL_CFG_MISS_MAX)) &&
    (let n : Fin 32 := 0;
    let s : State := { (laned 0 [(Weatas.LINK_STAT_STATE, 9)]).puts [(jtPage 0, Hdr.CTRL_EN, 1), (jtPage 0, Jetty.POLL_MASK_MASK, 1)] with windows := [(0, { polled := true, pollId := 7, missRun := 2, inbox := [(4, [7, 0, 0, 0, 1, 0, 0, 0])] })] };
    let b : List Byte := [7, 0, 0, 0, 1, 0, 0, 0];
     decide (((s.window n).inbox.find? (fun e => e.1 == 4)).map (·.2) = some b) && ((s.window n).polled) &&
     decide (fieldLE b 0 1 = (s.window n).pollId)) &&
    (let n : Fin 32 := 0;
    let s : State := { (laned 0 [(Weatas.LINK_STAT_STATE, 9)]).puts [(jtPage 0, Hdr.CTRL_EN, 1), (jtPage 0, Jetty.POLL_MASK_MASK, 1)] with windows := [(0, { polled := true, pollId := 8, missRun := 2, inbox := [(4, [7, 0, 0, 0, 1, 0, 0, 0])] })] };
    let b : List Byte := [7, 0, 0, 0, 1, 0, 0, 0];
     decide (((s.window n).inbox.find? (fun e => e.1 == 4)).map (·.2) = some b) &&
     decide ((s.window n).polled = false ∨ fieldLE b 0 1 ≠ (s.window n).pollId)) &&
    (let n : Fin 8 := 0;
    let s : State := { (laned 0 [(Weatas.LINK_STAT_STATE, 9)]).puts [(jtPage 32, Hdr.CTRL_EN, 1)] with windows := [(32, { localQueue := [0, 1], slots := [(0, { isOpen := true, gen := 5, requester := 0, word := 0, txn := ⟨0, 2, 16, [0], 1, 0⟩ }), (1, { isOpen := true, gen := 5, requester := 0, word := 0, txn := ⟨0, 2, 16, [0], 1, 0⟩ })], reads := [⟨.host0, 0x220404, 4, [(0, none)], 0, false⟩] })] };
    let i : Nat := 0; let r : List Nat := [1];
     decide ((s.window (32 + n)).localQueue = i :: r) && (s.mirrorRests (32 + n))) &&
    (let n : Fin 8 := 0; let sdaLow : Bool := true;
    let s : State := { (laned 0 [(Weatas.LINK_STAT_STATE, 9)]).puts [(jtPage 32, Hdr.CTRL_EN, 1)] with windows := [(32, { localQueue := [0, 1], slots := [(0, { isOpen := true, gen := 5, requester := 0, word := 0, txn := ⟨0, 2, 16, [0], 1, 0⟩ }), (1, { isOpen := true, gen := 5, requester := 0, word := 0, txn := ⟨0, 2, 16, [0], 1, 0⟩ })] })] };
    let i : Nat := 0; let r : List Nat := [1];
     decide ((s.window (32 + n)).localQueue = i :: r) && (s.mirrorRests (32 + n)) && sdaLow && decide (r.length ≤ 64)) &&
    (let n : Fin 8 := 0; let sdaLow : Bool := false;
    let s : State := { (laned 0 [(Weatas.LINK_STAT_STATE, 9)]).puts [(jtPage 32, Hdr.CTRL_EN, 1)] with windows := [(32, { localQueue := [0, 1], slots := [(0, { isOpen := true, gen := 5, requester := 0, word := 0, txn := ⟨0, 2, 16, [0], 1, 0⟩ }), (1, { isOpen := true, gen := 5, requester := 0, word := 0, txn := ⟨0, 2, 16, [0], 1, 0⟩ })] })] };
    let i : Nat := 0; let r : List Nat := [1];
     decide ((s.window (32 + n)).localQueue = i :: r) && (s.mirrorRests (32 + n)) && !(sdaLow)) &&
    (let n : Fin 8 := 0; let sdaLow : Bool := false;
    let s : State := { { (laned 0 [(Weatas.LINK_STAT_STATE, 9)]).puts [(jtPage 32, Hdr.CTRL_EN, 1), (jtPage 32, Jetty.LOC_STAT_STUCK, 1)] with windows := [(32, {})] } with flt := [(jtPage 32, { present := 16 })] };
     (s.flag (jtPage (32 + n)) Jetty.LOC_STAT_STUCK) && !(sdaLow))) = true := by decide +kernel

/-- Witnesses of DomainsAreSteeredWithoutMovingTime. -/
theorem test_domainsAreSteeredWithoutMovingTime : (
    (let req : Requester := .host0; let x : Fin 2 := 0; let w : Word := 0x80000000; let s : State := { (lit).puts [] with time := { c := 1000 } };
     (s.serves req (regOff tmPage (Tidemark.DOM_CFG_EN.nth x))) && (w.getLsbD 31) &&
     decide (w.toNat % 2 ^ 7 = s.get tmPage (Tidemark.DOM_CFG_NUMBER.nth (1 - x.val)))) &&
    (let req : Requester := .host0; let x : Fin 2 := 1; let w : Word := 0x00000005;
    let s : State := { (lit).puts [(tmPage, Tidemark.DOM_CFG_NUMBER.nth 0, 4), (tmPage, Tidemark.DOM_STAT_STATE.nth 1, 3)] with time := { c := 1000 } };
     (s.serves req (regOff tmPage (Tidemark.DOM_CFG_EN.nth x))) && !(w.getLsbD 31) &&
     decide (w.toNat % 2 ^ 7 ≠ s.get tmPage (Tidemark.DOM_CFG_NUMBER.nth (1 - x.val)))) &&
    (let req : Requester := .host0; let x : Fin 2 := 0;
    let s : State := { (planned lit (planOf [] [])).puts [(tmPage, Tidemark.OFF_OFFSET.nth 0 0, 9), (tmPage, Tidemark.OFF_OFFSET.nth 0 1, 3), (tmPage, Tidemark.TM_SEL_ADOPTED, 1)] with time := { c := 1000, offA := 77 } };
     (s.serves req (regOff tmPage (Tidemark.OFF_OFFSET.nth x 2))) && decide (s.domState x = 0) && s.planLive) &&
    (let req : Requester := .host0; let x : Fin 2 := 0;
    let s : State := { (lit).puts [(tmPage, Tidemark.DOM_STAT_STATE.nth 0, 2)] with time := { c := 1000 } };
     (s.serves req (regOff tmPage (Tidemark.OFF_OFFSET.nth x 2))) && decide (s.domState x ≠ 0)) &&
    (let req : Requester := .host0; let x : Fin 2 := 0;
    let s : State := { (lit).puts [(tmPage, Tidemark.DOM_STAT_STATE.nth 0, 0), (tmPage, Tidemark.DOM_CFG_OWNER.nth 0, 1)] with time := { c := 1000 } };
    let m : Nat := s.triple Tidemark.SMP_MST_M x; let c : Nat := s.triple Tidemark.SMP_CNT_C_S x;
    let e : Int := toSigned 96 ((m + 2 ^ 96 - s.domainTime x c) % 2 ^ 96);
     (s.serves req (regOff tmPage (Tidemark.SMP_CTL_GO.nth x))) && decide (m = s.triple Tidemark.SMP_MST_M x) &&
     decide (c = s.triple Tidemark.SMP_CNT_C_S x) && decide (e = toSigned 96 ((m + 2 ^ 96 - s.domainTime x c) % 2 ^ 96)) &&
     decide (s.domState x = 0 ∨ (s.get tmPage (Tidemark.DOM_CFG_OWNER.nth x) = 0 ∧ req.lp? = none))) &&
    (let req : Requester := .host0; let x : Fin 2 := 0;
    let s : State := { (lit).puts [(tmPage, Tidemark.DOM_STAT_STATE.nth 0, 2), (tmPage, Tidemark.DOM_CFG_OWNER.nth 0, 1)] with time := { c := 1000 } };
    let m : Nat := s.triple Tidemark.SMP_MST_M x; let c : Nat := s.triple Tidemark.SMP_CNT_C_S x;
    let e : Int := toSigned 96 ((m + 2 ^ 96 - s.domainTime x c) % 2 ^ 96);
     (s.serves req (regOff tmPage (Tidemark.SMP_CTL_GO.nth x))) && decide (m = s.triple Tidemark.SMP_MST_M x) &&
     decide (c = s.triple Tidemark.SMP_CNT_C_S x) && decide (e = toSigned 96 ((m + 2 ^ 96 - s.domainTime x c) % 2 ^ 96)) &&
     decide (s.domState x ≠ 0) && decide (s.get tmPage (Tidemark.DOM_CFG_OWNER.nth x) ≠ 0 ∨ req.lp?.isSome = true)) &&
    (let req : Requester := .lp0; let x : Fin 2 := 0;
    let s : State := { (planned lit (planOf [] [])).puts [(tmPage, Tidemark.DOM_STAT_STATE.nth 0, 1), (tmPage, Tidemark.SRV_STEP_STEP_NS.nth 0, 5), (tmPage, Tidemark.SMP_MST_M.nth 0 1, 500)] with time := { c := 1000 } };
    let m : Nat := s.triple Tidemark.SMP_MST_M x; let c : Nat := s.triple Tidemark.SMP_CNT_C_S x;
    let e : Int := toSigned 96 ((m + 2 ^ 96 - s.domainTime x c) % 2 ^ 96);
     (s.serves req (regOff tmPage (Tidemark.SMP_CTL_GO.nth x))) && decide (m = s.triple Tidemark.SMP_MST_M x) &&
     decide (c = s.triple Tidemark.SMP_CNT_C_S x) && decide (e = toSigned 96 ((m + 2 ^ 96 - s.domainTime x c) % 2 ^ 96)) &&
     decide (s.domState x ≠ 0) && decide (s.get tmPage (Tidemark.DOM_CFG_OWNER.nth x) ≠ 0 ∨ req.lp?.isSome = true) &&
     decide (s.domState x = 1 ∨ s.get tmPage (Tidemark.SRV_STEP_STEP_NS.nth x) * 2 ^ 32 < e.natAbs) && s.planLive) &&
    (let x : Fin 2 := 1; let s : State := { (lit).puts [(tmPage, Tidemark.DOM_STAT_STATE.nth 1, 3)] with time := { c := 1000 } };
     decide (s.domState x = 2 ∨ s.domState x = 3) && decide (s.domState x = 3)) &&
    (let s : State := { (planned lit (planOf [] [])).puts [(tmPage, Tidemark.TM_SEL_MODE, 2), (tmPage, Tidemark.DOM_STAT_STATE.nth 1, 3), (tmPage, Tidemark.TM_SEL_ADOPTED, 1)] with time := { c := 1000, offA := 77 * 2 ^ 32, offB := 5 } };
     decide (2 ≤ s.get tmPage Tidemark.TM_SEL_MODE) && decide (s.domState s.activeDomain = 4 ∨ s.domState s.activeDomain = 0) &&
     decide (s.domState (1 - s.activeDomain) = 3) && s.planLive) &&
    (let s : State := { (planned lit (planOf [] [])).puts [(tmPage, Tidemark.TM_SEL_MODE, 3), (tmPage, Tidemark.DOM_STAT_STATE.nth 1, 3), (tmPage, Tidemark.TM_SEL_ADOPTED, 1)] with time := { c := 1000, offA := 77 * 2 ^ 32, offB := 5 } };
    let m : Nat := 1;
     decide (s.get tmPage Tidemark.TM_SEL_MODE = 2 + m) && decide (m < 2) && decide (s.domState m = 3) && decide (s.activeDomain ≠ m) && s.planLive) &&
    (let s : State := { (lit).puts [(tmPage, Tidemark.TM_SEL_MODE, 2), (tmPage, Tidemark.DOM_STAT_STATE.nth 0, 3)] with time := { c := 1000 } };
    let m : Nat := 0;
     decide (s.get tmPage Tidemark.TM_SEL_MODE = 2 + m) && decide (m < 2) && decide (s.domState m = 3) && decide (s.activeDomain = m)) &&
    (let req : Requester := .host0; let w : Word := 0x40000000;
    let s : State := { (planned lit (planOf [] [])).puts [(tmPage, Tidemark.TM_SEL_ADOPTED, 1)] with time := { c := 1000, offA := 77 * 2 ^ 32, offB := 5 } };
     (s.serves req (regOff tmPage Tidemark.TM_SEL_MODE)) && decide (w.toNat / 2 ^ 30 < 2) && s.planLive) &&
    (let req : Requester := .host0; let w : Word := 1;
    let s : State := { (lit).puts [(tmPage, Tidemark.TM_PRESET_LO_PRESET, 9)] with time := { c := 1000 } };
    let t : State := after (.presetWrite req w) s;
     (s.serves req (regOff tmPage Tidemark.TM_PRESET_HI_PRESET)) && !(s.flag tmPage Tidemark.TM_SEL_ADOPTED) && !(s.planLive) &&
     decide (t.time.preset ≠ s.time.preset)) &&
    (let req : Requester := .host0; let s : State := { (lit).puts [(tmPage, Tidemark.TM_SEL_ADOPTED, 1)] with time := { c := 1000 } };
     (s.serves req (regOff tmPage Tidemark.TM_PRESET_HI_PRESET)) && decide (s.flag tmPage Tidemark.TM_SEL_ADOPTED = true ∨ s.planLive = true)) &&
    (let s : State := { (lit).puts [] with time := { c := 5, res := -7 } };
     decide (s.time.res ≠ 0)) &&
    (let s : State := { (lit).puts [] with time := { c := 1000 } };
     decide (s.time.res = 0))) = true := by decide +kernel

/-- Witnesses of FramesAreStampedForwardedAndSent. -/
theorem test_framesAreStampedForwardedAndSent : (
    (let m : Fin 2 := 0; let fcsOk : Bool := false;
    let s : State := { ((lit).puts ([0, 1].flatMap fun m => [(macPage m 0, Hdr.CTRL_EN, 1), (macPage m 0, Mac.MAC_STAT_LINK, 1)])).puts [(bridgePage 0, Hdr.CTRL_EN, 1), (macPage 0 2, Mac.FCS_ERR_COUNT, 65535)] with macs := [(0, {})] };
     (s.macUp m) && !(fcsOk)) &&
    (let m : Fin 2 := 0; let b : List Byte := [1, 2, 3]; let fcsOk : Bool := true;
    let s : State := { ((lit).puts ([0, 1].flatMap fun m => [(macPage m 0, Hdr.CTRL_EN, 1), (macPage m 0, Mac.MAC_STAT_LINK, 1)])).puts [(bridgePage 0, Hdr.CTRL_EN, 1), (macPage 0 2, Mac.FCS_ERR_COUNT, 65535)] with macs := [(0, {})] };
     (s.macUp m) && fcsOk && decide (b.length + 4 < 64 ∨ s.get (macPage m 0) Mac.MAC_CFG_MAX_FRAME < b.length + 4)) &&
    (let m : Fin 2 := 0; let b : List Byte := frameTo 0x0180C2000001 0x8808 1; let fcsOk : Bool := true;
    let s : State := { ((lit).puts ([0, 1].flatMap fun m => [(macPage m 0, Hdr.CTRL_EN, 1), (macPage m 0, Mac.MAC_STAT_LINK, 1)])).puts [(bridgePage 0, Hdr.CTRL_EN, 1), (macPage 0 2, Mac.FCS_ERR_COUNT, 65535)] with macs := [(0, {})] };
     (s.macUp m) && fcsOk && decide (64 ≤ b.length + 4) && decide (b.length + 4 ≤ s.get (macPage m 0) Mac.MAC_CFG_MAX_FRAME) &&
     decide (ethType b = 0x8808)) &&
    (let m : Fin 2 := 0; let b : List Byte := frameTo 0x0180C200000E 0x88F7 0; let fcsOk : Bool := true;
    let s : State := { ((lit).puts ([0, 1].flatMap fun m => [(macPage m 0, Hdr.CTRL_EN, 1), (macPage m 0, Mac.MAC_STAT_LINK, 1)])).puts [(bridgePage 0, Hdr.CTRL_EN, 1), (macPage 0 2, Mac.FCS_ERR_COUNT, 65535)] with macs := [(0, {})] };
     (s.macUp m) && fcsOk && decide (64 ≤ b.length + 4) && decide (b.length + 4 ≤ s.get (macPage m 0) Mac.MAC_CFG_MAX_FRAME) && (isPtpEvent b) &&
     decide ((s.mac m).rxStamps.length < 32)) &&
    (let m : Fin 2 := 0; let b : List Byte := frameTo 0xFFFFFFFFFFFF 0x800 1; let fcsOk : Bool := true;
    let s : State := { ((lit).puts ([0, 1].flatMap fun m => [(macPage m 0, Hdr.CTRL_EN, 1), (macPage m 0, Mac.MAC_STAT_LINK, 1)])).puts [(bridgePage 0, Hdr.CTRL_EN, 1), (macPage 0 2, Mac.FCS_ERR_COUNT, 65535)] with macs := [(0, {})] };
     (s.macUp m) && fcsOk && decide (64 ≤ b.length + 4) && decide (b.length + 4 ≤ s.get (macPage m 0) Mac.MAC_CFG_MAX_FRAME)) &&
    (let m : Fin 2 := 1; let b : List Byte := frameTo 0x0180C200000E 0x88F7 0; let fcsOk : Bool := true;
    let s : State := { ((lit).puts ([0, 1].flatMap fun m => [(macPage m 0, Hdr.CTRL_EN, 1), (macPage m 0, Mac.MAC_STAT_LINK, 1)])).puts [(bridgePage 0, Hdr.CTRL_EN, 1)] with macs := [(1, { rxStamps := List.replicate 32 ⟨true, 0, false, 0, 0, 0, 0, 0, 5, 0⟩ })] };
     (s.macUp m) && fcsOk && decide (64 ≤ b.length + 4) && decide (b.length + 4 ≤ s.get (macPage m 0) Mac.MAC_CFG_MAX_FRAME) && (isPtpEvent b) &&
     decide (32 ≤ (s.mac m).rxStamps.length)) &&
    (let m : Fin 2 := 0; let c : Nat := 500000;
    let s : State := { ((lit).puts ([0, 1].flatMap fun m => [(macPage m 0, Hdr.CTRL_EN, 1), (macPage m 0, Mac.MAC_STAT_LINK, 1)])).puts [(bridgePage 0, Hdr.CTRL_EN, 1)] with macs := [(0, { queues := (List.replicate 8 []).set 7 [{ bytes := frameTo 5 0x800 1 }] })] };
    let c' : Nat := ofSigned 80 ((c : Int) + toSigned 32 (s.get (macPage m 1) Mac.PHY_TX_LAT_LAT) * 2 ^ 12); let k : Fin 8 := 7;
    let f : EthFrame := { bytes := frameTo 5 0x800 1 }; let r : List EthFrame := [];
     (s.macUp m) && !(s.terminal) && !(s.flag (macPage m 3) Mac.GCL_CFG_EN) && decide ((s.mac m).queues.getD k [] = f :: r) &&
     ((s.mac m).queues.drop (k + 1)).all List.isEmpty && !(s.flag (macPage m 3) (Mac.CBS_SLOPE_EN.nth k)) &&
     decide (f.bytes.length + 4 ≤ s.get (macPage m 0) Mac.MAC_CFG_MAX_FRAME) &&
     decide (c' = ofSigned 80 ((c : Int) + toSigned 32 (s.get (macPage m 1) Mac.PHY_TX_LAT_LAT) * 2 ^ 12)) && !(isPtpEvent f.bytes)) &&
    (let m : Fin 2 := 0; let c : Nat := 500000;
    let s : State := { ((lit).puts ([0, 1].flatMap fun m => [(macPage m 0, Hdr.CTRL_EN, 1), (macPage m 0, Mac.MAC_STAT_LINK, 1)])).puts [(bridgePage 0, Hdr.CTRL_EN, 1)] with macs := [(0, { queues := (List.replicate 8 []).set 3 [{ bytes := frameTo 0x0180C200000E 0x88F7 0 }] })] };
    let c' : Nat := ofSigned 80 ((c : Int) + toSigned 32 (s.get (macPage m 1) Mac.PHY_TX_LAT_LAT) * 2 ^ 12); let k : Fin 8 := 3;
    let f : EthFrame := { bytes := frameTo 0x0180C200000E 0x88F7 0 }; let r : List EthFrame := [];
     (s.macUp m) && !(s.terminal) && !(s.flag (macPage m 3) Mac.GCL_CFG_EN) && decide ((s.mac m).queues.getD k [] = f :: r) &&
     ((s.mac m).queues.drop (k + 1)).all List.isEmpty && !(s.flag (macPage m 3) (Mac.CBS_SLOPE_EN.nth k)) &&
     decide (f.bytes.length + 4 ≤ s.get (macPage m 0) Mac.MAC_CFG_MAX_FRAME) &&
     decide (c' = ofSigned 80 ((c : Int) + toSigned 32 (s.get (macPage m 1) Mac.PHY_TX_LAT_LAT) * 2 ^ 12)) && (isPtpEvent f.bytes) &&
     decide ((s.mac m).txStamps.length < 32)) &&
    (let m : Fin 2 := 0; let c : Nat := 500000;
    let s : State := { ((lit).puts ([0, 1].flatMap fun m => [(macPage m 0, Hdr.CTRL_EN, 1), (macPage m 0, Mac.MAC_STAT_LINK, 1)])).puts [(bridgePage 0, Hdr.CTRL_EN, 1)] with macs := [(0, { queues := (List.replicate 8 []).set 3 [{ bytes := frameTo 0x0180C200000E 0x88F7 0 }], txStamps := List.replicate 32 ⟨true, 0, false, 0, 0, 0, 0, 0, 5, 0⟩ })] };
    let c' : Nat := ofSigned 80 ((c : Int) + toSigned 32 (s.get (macPage m 1) Mac.PHY_TX_LAT_LAT) * 2 ^ 12); let k : Fin 8 := 3;
    let f : EthFrame := { bytes := frameTo 0x0180C200000E 0x88F7 0 }; let r : List EthFrame := [];
     (s.macUp m) && !(s.terminal) && !(s.flag (macPage m 3) Mac.GCL_CFG_EN) && decide ((s.mac m).queues.getD k [] = f :: r) &&
     ((s.mac m).queues.drop (k + 1)).all List.isEmpty && !(s.flag (macPage m 3) (Mac.CBS_SLOPE_EN.nth k)) &&
     decide (f.bytes.length + 4 ≤ s.get (macPage m 0) Mac.MAC_CFG_MAX_FRAME) &&
     decide (c' = ofSigned 80 ((c : Int) + toSigned 32 (s.get (macPage m 1) Mac.PHY_TX_LAT_LAT) * 2 ^ 12)) && (isPtpEvent f.bytes) &&
     decide (32 ≤ (s.mac m).txStamps.length)) &&
    (let req : Requester := .host0; let m : Fin 2 := 0; let tx : Bool := true;
    let s : State := { ((lit).puts ([0, 1].flatMap fun m => [(macPage m 0, Hdr.CTRL_EN, 1), (macPage m 0, Mac.MAC_STAT_LINK, 1)])).puts [(bridgePage 0, Hdr.CTRL_EN, 1)] with macs := [(0, { txStamps := [⟨true, 0, false, 0, 0, 0, 0, 0, 5, 0⟩] })] };
    let off : Nat := regOff (macPage m 1) (if tx then Mac.TXTS_INFO_VALID else Mac.RXTS_INFO_VALID);
    let q : List MacStamp := (if tx then (s.mac m).txStamps else (s.mac m).rxStamps);
     decide (off = regOff (macPage m 1) (if tx then Mac.TXTS_INFO_VALID else Mac.RXTS_INFO_VALID)) &&
     decide (q = (if tx then (s.mac m).txStamps else (s.mac m).rxStamps)) && (s.servesRead req off)) &&
    (let req : Requester := .host0; let w : Word := 0x80000000;
    let s : State := { ((lit).puts ([0, 1].flatMap fun m => [(macPage m 0, Hdr.CTRL_EN, 1), (macPage m 0, Mac.MAC_STAT_LINK, 1)])).puts [(bridgePage 0, Hdr.CTRL_EN, 1), (bridgePage 0, Bridge.FDB_IDX_IDX, 1023), (bridgePage 0, Bridge.FDB_CTL_VALID, 1), (bridgePage 0, Bridge.FDB_ENTRY_LO_ADDR, 5)] with macs := [(0, {})] };
     (s.serves req (regOff (bridgePage 0) Bridge.FDB_CMD_WRITE)) && !(w.getLsbD 30)) &&
    (let req : Requester := .host0; let w : Word := 0xC0000000;
    let s : State := { ((lit).puts ([0, 1].flatMap fun m => [(macPage m 0, Hdr.CTRL_EN, 1), (macPage m 0, Mac.MAC_STAT_LINK, 1)])).puts [(bridgePage 0, Hdr.CTRL_EN, 1), (bridgePage 0, Bridge.FDB_IDX_IDX, 1023), (bridgePage 0, Bridge.FDB_CTL_VALID, 1), (bridgePage 0, Bridge.FDB_ENTRY_LO_ADDR, 5)] with macs := [(0, {})] };
     (s.serves req (regOff (bridgePage 0) Bridge.FDB_CMD_WRITE)) && (w.getLsbD 30)) &&
    (let req : Requester := .host0; let w : Word := 0x40000000;
    let s : State := { ((lit).puts ([0, 1].flatMap fun m => [(macPage m 0, Hdr.CTRL_EN, 1), (macPage m 0, Mac.MAC_STAT_LINK, 1)])).puts [(bridgePage 0, Hdr.CTRL_EN, 1), (bridgePage 0, Bridge.FDB_IDX_IDX, 1023)] with macs := [(0, {})], bridge := { fdb := [(1023, { valid := true, addr := 2 ^ 32 + 5, vid := 7 })] } };
    let e : FdbEntry := s.fdbEntry (s.get (bridgePage 0) Bridge.FDB_IDX_IDX);
     (s.serves req (regOff (bridgePage 0) Bridge.FDB_CMD_READ)) && decide (e = s.fdbEntry (s.get (bridgePage 0) Bridge.FDB_IDX_IDX)) &&
     !(w.getLsbD 31)) &&
    (let req : Requester := .host0; let w : Word := 0xC0000000;
    let s : State := { ((lit).puts ([0, 1].flatMap fun m => [(macPage m 0, Hdr.CTRL_EN, 1), (macPage m 0, Mac.MAC_STAT_LINK, 1)])).puts [(bridgePage 0, Hdr.CTRL_EN, 1), (bridgePage 0, Bridge.FDB_IDX_IDX, 1023)] with macs := [(0, {})], bridge := { fdb := [(1023, { valid := true, addr := 2 ^ 32 + 5, vid := 7 })] } };
    let e : FdbEntry := s.fdbEntry (s.get (bridgePage 0) Bridge.FDB_IDX_IDX);
     (s.serves req (regOff (bridgePage 0) Bridge.FDB_CMD_READ)) && decide (e = s.fdbEntry (s.get (bridgePage 0) Bridge.FDB_IDX_IDX)) &&
     (w.getLsbD 31)) &&
    (let i : Fin 1024 := 1023;
    let s : State := { ((lit).puts ([0, 1].flatMap fun m => [(macPage m 0, Hdr.CTRL_EN, 1), (macPage m 0, Mac.MAC_STAT_LINK, 1)])).puts [(bridgePage 0, Hdr.CTRL_EN, 1), (bridgePage 0, Bridge.FDB_AGE_AGE_S, 300)] with macs := [(0, {})], bridge := { fdb := [(1023, { valid := true, addr := 2 ^ 32 + 5, vid := 7 })] } };
     !((s.fdbEntry i).isStatic) && decide (s.get (bridgePage 0) Bridge.FDB_AGE_AGE_S ≠ 0)) &&
    (let i : Fin 1024 := 0;
    let s : State := { ((lit).puts ([0, 1].flatMap fun m => [(macPage m 0, Hdr.CTRL_EN, 1), (macPage m 0, Mac.MAC_STAT_LINK, 1)])).puts [(bridgePage 0, Hdr.CTRL_EN, 1), (bridgePage 0, Bridge.FDB_AGE_AGE_S, 300)] with macs := [(0, {})], bridge := { fdb := [(0, { valid := true, isStatic := true, addr := 2 ^ 32 + 5, vid := 7 })] } };
     decide ((s.fdbEntry i).isStatic = true ∨ s.get (bridgePage 0) Bridge.FDB_AGE_AGE_S = 0)) &&
    (let req : Requester := .host0; let m : Fin 2 := 1;
    let s : State := { ((lit).puts ([0, 1].flatMap fun m => [(macPage m 0, Hdr.CTRL_EN, 1), (macPage m 0, Mac.MAC_STAT_LINK, 1)])).puts [(bridgePage 0, Hdr.CTRL_EN, 1), (macPage 1 3, Mac.GCL_CYCLE_NS, 1000)] with macs := [(0, {})] };
     (s.serves req (regOff (macPage m 3) Mac.GCL_CFG_CHANGE))) &&
    (let m : Fin 2 := 0;
    let s : State := { ((lit).puts ([0, 1].flatMap fun m => [(macPage m 0, Hdr.CTRL_EN, 1), (macPage m 0, Mac.MAC_STAT_LINK, 1)])).puts [(bridgePage 0, Hdr.CTRL_EN, 1)] with macs := [(0, { oper := some { entries := [(255, 100), (1, 200)], cycle := 300, base := 0 } })] };
     decide ((s.mac m).admin = none)) &&
    (let m : Fin 2 := 0;
    let s : State := { ((lit).puts ([0, 1].flatMap fun m => [(macPage m 0, Hdr.CTRL_EN, 1), (macPage m 0, Mac.MAC_STAT_LINK, 1)])).puts [(bridgePage 0, Hdr.CTRL_EN, 1)] with macs := [(0, { oper := some { entries := [(255, 100), (1, 200)], cycle := 300, base := 0 } })] };
    let g : GateList := { entries := [(255, 100), (1, 200)], cycle := 300, base := 0 };
     decide ((s.mac m).oper = some g) && decide ((s.mac m).entry + 1 < g.run.length)) &&
    (let m : Fin 2 := 0;
    let s : State := { ((lit).puts ([0, 1].flatMap fun m => [(macPage m 0, Hdr.CTRL_EN, 1), (macPage m 0, Mac.MAC_STAT_LINK, 1)])).puts [(bridgePage 0, Hdr.CTRL_EN, 1)] with macs := [(0, { oper := some { entries := [(255, 100), (1, 200)], cycle := 300, base := 0 }, entry := 1 })] };
    let g : GateList := { entries := [(255, 100), (1, 200)], cycle := 300, base := 0 };
     decide ((s.mac m).oper = some g) && decide (g.run.length ≤ (s.mac m).entry + 1)) &&
    (let m : Fin 2 := 1; let lock : Bool := true; let remoteFault : Bool := false; let s : State := lit;
     lock && !(remoteFault) && !(s.flag (macPage m 0) Mac.MAC_STAT_LINK)) &&
    (let m : Fin 2 := 1; let lock : Bool := false; let remoteFault : Bool := false;
    let s : State := { ((lit).puts ([0, 1].flatMap fun m => [(macPage m 0, Hdr.CTRL_EN, 1), (macPage m 0, Mac.MAC_STAT_LINK, 1)])).puts [(bridgePage 0, Hdr.CTRL_EN, 1)] with macs := [(0, {})] };
     decide (lock = false ∨ remoteFault = true) && (s.flag (macPage m 0) Mac.MAC_STAT_LINK))) = true := by decide +kernel

/-- Witnesses of StreamsManagementAndSoundingAreServed. -/
theorem test_streamsManagementAndSoundingAreServed : (
    (let req : Requester := .host0; let w : Word := 0xE0000002;
    let s : State := { ((lit).puts ([0, 1].flatMap fun m => [(macPage m 0, Hdr.CTRL_EN, 1), (macPage m 0, Mac.MAC_STAT_LINK, 1)])).puts [(bridgePage 0, Hdr.CTRL_EN, 1)] with macs := [(0, {})], bridge := { mgTx := List.replicate 64 9 } };
    let len : Nat := Bridge.MG_TX_CTL_LEN.stored ((0xE0000002 : Word).toNat % 2 ^ 11); let b : List Byte := s.bridge.mgTx.take len;
     (s.serves req (regOff (bridgePage 1) Bridge.MG_TX_CTL_GO)) && decide (len = max 60 (min 1518 (w.toNat % 2 ^ 11))) &&
     decide (b = s.bridge.mgTx.take len) && decide (w.toNat / 2 ^ 29 % 4 = 3)) &&
    (let req : Requester := .host0; let w : Word := 0x80000002;
    let s : State := ({ ((lit).puts ([0, 1].flatMap fun m => [(macPage m 0, Hdr.CTRL_EN, 1), (macPage m 0, Mac.MAC_STAT_LINK, 1)])).puts [(bridgePage 0, Hdr.CTRL_EN, 1)] with macs := [(0, {})], bridge := { mgTx := List.replicate 64 9 } }).put (bridgePage 0) Hdr.CTRL_EN 0;
    let len : Nat := 60; let b : List Byte := s.bridge.mgTx.take len;
     (s.serves req (regOff (bridgePage 1) Bridge.MG_TX_CTL_GO)) && decide (len = max 60 (min 1518 (w.toNat % 2 ^ 11))) &&
     decide (b = s.bridge.mgTx.take len) && !(s.flag (bridgePage 0) Hdr.CTRL_EN)) &&
    (let req : Requester := .host0;
    let s : State := { ((lit).puts ([0, 1].flatMap fun m => [(macPage m 0, Hdr.CTRL_EN, 1), (macPage m 0, Mac.MAC_STAT_LINK, 1)])).puts [(bridgePage 0, Hdr.CTRL_EN, 1)] with macs := [(0, {})], bridge := { mgRx := [(1, [1, 2, 3]), (0, [])] } };
     (s.servesRead req (regOff (bridgePage 1) Bridge.MG_RX_INFO_VALID))) &&
    (let req : Requester := .lp0;
    let s : State := { ((lit).puts ([0, 1].flatMap fun m => [(macPage m 0, Hdr.CTRL_EN, 1), (macPage m 0, Mac.MAC_STAT_LINK, 1)])).puts [(bridgePage 0, Hdr.CTRL_EN, 1)] with macs := [(0, {})] };
     (s.servesRead req (regOff (bridgePage 1) Bridge.MG_RX_INFO_VALID)) && decide (s.bridge.mgRx = [])) &&
    (let req : Requester := .host0;
    let s : State := { ((lit).puts ([0, 1].flatMap fun m => [(macPage m 0, Hdr.CTRL_EN, 1), (macPage m 0, Mac.MAC_STAT_LINK, 1)])).puts [(bridgePage 0, Hdr.CTRL_EN, 1)] with macs := [(0, {})], bridge := { mgCur := [1, 2, 3, 4, 5] } };
     (s.servesRead req (regOff (bridgePage 1) Bridge.MG_RX_DATA_DATA)) && decide (4 ≤ s.bridge.mgCur.length)) &&
    (let k : Fin 16 := 15; let h : Fin 2 := 0; let begun : Nat := 0; let format : Fin 16 := 1;
    let u : PortUnit := { stream := 3, seq := 1, line := 0, off := 0, bytes := [1, 2, 3] };
    let s : State := { ((lit).puts ([0, 1].flatMap fun m => [(macPage m 0, Hdr.CTRL_EN, 1), (macPage m 0, Mac.MAC_STAT_LINK, 1)])).puts [(bridgePage 0, Hdr.CTRL_EN, 1)] with macs := [(0, {})], bridge := { slots := [(15, { bound := some (3, 0, 5, false) })] } };
    let fr : StreamFrame := (((s.slot k).frames.find? fun f => f.key == u.key).getD { key := u.key, half := h, format := format });
    let sentinel : Bool := s.slotSentinel k u.key;
     (s.slotCarries k u.key) && decide (sentinel = s.slotSentinel k u.key) &&
     decide (fr = (((s.slot k).frames.find? fun f => f.key == u.key).getD { key := u.key, half := h, format := format })) &&
     decide (sentinel = false ∨ (s.actedAt h u.stream begun = true ∧ (u.key, u.line) ∉ (s.slot k).accepted)) &&
     decide ((s.slot k).discarding ≠ some u.key) && !(u.withheld) && decide (sentinel = false ∨ u.record = true ∨ u.line = fr.next) &&
     decide ((s.putSlot k (s.slot k)).streamHeld + u.bytes.length ≤ 262144)) &&
    (let k : Fin 16 := 15; let h : Fin 2 := 0; let begun : Nat := 0; let format : Fin 16 := 1;
    let u : PortUnit := { stream := 3, seq := 1, line := 0, off := 0, bytes := [1, 2, 3] };
    let s : State := { ((lit).puts ([0, 1].flatMap fun m => [(macPage m 0, Hdr.CTRL_EN, 1), (macPage m 0, Mac.MAC_STAT_LINK, 1)])).puts [(bridgePage 0, Hdr.CTRL_EN, 1), (0x40, Seawall.SW_STAT_ACTING, 1)] with macs := [(0, {})], bridge := { slots := [(15, { bound := some (3, 0, 5, true), accepted := [(12884901889, 0)] })] } };
    let fr : StreamFrame := (((s.slot k).frames.find? fun f => f.key == u.key).getD { key := u.key, half := h, format := format });
    let sentinel : Bool := s.slotSentinel k u.key;
     (s.slotCarries k u.key) && decide (sentinel = s.slotSentinel k u.key) &&
     decide (fr = (((s.slot k).frames.find? fun f => f.key == u.key).getD { key := u.key, half := h, format := format })) && sentinel &&
     (s.actedAt h u.stream begun) && decide ((u.key, u.line) ∈ (s.slot k).accepted)) &&
    (let k : Fin 16 := 15; let h : Fin 2 := 0; let begun : Nat := 0; let format : Fin 16 := 1;
    let u : PortUnit := { stream := 3, seq := 1, line := 4, off := 0, bytes := [1, 2, 3] };
    let s : State := { ((lit).puts ([0, 1].flatMap fun m => [(macPage m 0, Hdr.CTRL_EN, 1), (macPage m 0, Mac.MAC_STAT_LINK, 1)])).puts [(bridgePage 0, Hdr.CTRL_EN, 1), (0x40, Seawall.SW_STAT_ACTING, 1)] with macs := [(0, {})], bridge := { slots := [(15, { bound := some (3, 0, 5, true) })] } };
    let fr : StreamFrame := (((s.slot k).frames.find? fun f => f.key == u.key).getD { key := u.key, half := h, format := format });
    let sentinel : Bool := s.slotSentinel k u.key;
     (s.slotCarries k u.key) && decide (sentinel = s.slotSentinel k u.key) &&
     decide (fr = (((s.slot k).frames.find? fun f => f.key == u.key).getD { key := u.key, half := h, format := format })) &&
     decide (sentinel = false ∨ (s.actedAt h u.stream begun = true ∧ (u.key, u.line) ∉ (s.slot k).accepted)) &&
     decide ((s.slot k).discarding ≠ some u.key) && decide (u.withheld = true ∨ (sentinel = true ∧ u.record = false ∧ u.line ≠ fr.next))) &&
    (let k : Fin 16 := 15; let h : Fin 2 := 0; let begun : Nat := 0; let format : Fin 16 := 1;
    let u : PortUnit := { stream := 3, seq := 1, line := 0, off := 0, bytes := [1, 2, 3] };
    let s : State := { ((lit).puts ([0, 1].flatMap fun m => [(macPage m 0, Hdr.CTRL_EN, 1), (macPage m 0, Mac.MAC_STAT_LINK, 1)])).puts [(bridgePage 0, Hdr.CTRL_EN, 1)] with macs := [(0, {})], bridge := { slots := [(15, { bound := some (3, 0, 5, false), discarding := some 12884901889 })] } };
    let fr : StreamFrame := (((s.slot k).frames.find? fun f => f.key == u.key).getD { key := u.key, half := h, format := format });
    let sentinel : Bool := s.slotSentinel k u.key;
     (s.slotCarries k u.key) && decide (sentinel = s.slotSentinel k u.key) &&
     decide (fr = (((s.slot k).frames.find? fun f => f.key == u.key).getD { key := u.key, half := h, format := format })) &&
     decide (sentinel = false ∨ (s.actedAt h u.stream begun = true ∧ (u.key, u.line) ∉ (s.slot k).accepted)) &&
     decide ((s.slot k).discarding = some u.key)) &&
    (let k : Fin 16 := 15; let h : Fin 2 := 0; let begun : Nat := 0; let format : Fin 16 := 1;
    let u : PortUnit := { stream := 3, seq := 1, line := 0, off := 0, bytes := [1, 2, 3] };
    let s : State := { ((lit).puts ([0, 1].flatMap fun m => [(macPage m 0, Hdr.CTRL_EN, 1), (macPage m 0, Mac.MAC_STAT_LINK, 1)])).puts [(bridgePage 0, Hdr.CTRL_EN, 1), (0x40, Seawall.SW_STAT_ACTING, 1)] with macs := [(0, {})], seawall := { actChanged := [5, 0] }, bridge := { slots := [(15, { bound := some (3, 0, 5, true) })] } };
    let fr : StreamFrame := (((s.slot k).frames.find? fun f => f.key == u.key).getD { key := u.key, half := h, format := format });
    let sentinel : Bool := s.slotSentinel k u.key;
     (s.slotCarries k u.key) && decide (sentinel = s.slotSentinel k u.key) &&
     decide (fr = (((s.slot k).frames.find? fun f => f.key == u.key).getD { key := u.key, half := h, format := format })) && sentinel &&
     !(s.actedAt h u.stream begun)) &&
    (let k : Fin 16 := 15;
    let s : State := { ((lit).puts ([0, 1].flatMap fun m => [(macPage m 0, Hdr.CTRL_EN, 1), (macPage m 0, Mac.MAC_STAT_LINK, 1)])).puts [(bridgePage 0, Hdr.CTRL_EN, 1)] with macs := [(0, {})], bridge := { slots := [(15, { bound := some (3, 0, 5, false), seqNum := 255, frames := [{ key := 12884901889, half := 0, format := 1, held := [(0, [1, 2, 3])], complete := true }] })] } };
    let fr : StreamFrame := { key := 12884901889, half := 0, format := 1, held := [(0, [1, 2, 3])], complete := true };
    let later : List StreamFrame := []; let off : Nat := 0; let pay : Nat := s.get (bridgePage 2) Bridge.STRM_PAY_BYTES;
    let b : List Byte := [1, 2, 3]; let r : List (Nat × List Byte) := []; let last : Bool := (fr.complete && r.isEmpty && decide (b.length ≤ pay));
    let frame : List Byte := s.avtpFrame k (s.slot k) fr off (b.take pay) last;
     !(s.terminal) && (s.flag (bridgePage 0) Hdr.CTRL_EN) && decide ((s.slot k).frames = fr :: later) && decide (fr.held = (off, b) :: r) &&
     decide (pay = s.get (bridgePage 2) Bridge.STRM_PAY_BYTES) && decide (pay ≤ b.length ∨ r ≠ [] ∨ fr.complete = true) &&
     decide (last = (fr.complete && r.isEmpty && decide (b.length ≤ pay))) && decide (frame = s.avtpFrame k (s.slot k) fr off (b.take pay) last) &&
     last && decide (s.fdbFind (ofBytesBE (sliceBytes frame 0 6)) (frameVid frame) = none)) &&
    (let k : Fin 16 := 15;
    let s : State := { ((lit).puts ([0, 1].flatMap fun m => [(macPage m 0, Hdr.CTRL_EN, 1), (macPage m 0, Mac.MAC_STAT_LINK, 1)])).puts [(bridgePage 0, Hdr.CTRL_EN, 1)] with macs := [(0, {})], bridge := { slots := [(15, { bound := some (3, 0, 5, false), seqNum := 255, frames := [{ key := 12884901889, half := 0, format := 1, held := [(0, [1, 2, 3]), (3, [4])], complete := false }] })] } };
    let fr : StreamFrame := { key := 12884901889, half := 0, format := 1, held := [(0, [1, 2, 3]), (3, [4])], complete := false };
    let later : List StreamFrame := []; let off : Nat := 0; let pay : Nat := s.get (bridgePage 2) Bridge.STRM_PAY_BYTES;
    let b : List Byte := [1, 2, 3]; let r : List (Nat × List Byte) := [(3, [4])];
    let last : Bool := (fr.complete && r.isEmpty && decide (b.length ≤ pay));
    let frame : List Byte := s.avtpFrame k (s.slot k) fr off (b.take pay) last;
     !(s.terminal) && (s.flag (bridgePage 0) Hdr.CTRL_EN) && decide ((s.slot k).frames = fr :: later) && decide (fr.held = (off, b) :: r) &&
     decide (pay = s.get (bridgePage 2) Bridge.STRM_PAY_BYTES) && decide (pay ≤ b.length ∨ r ≠ [] ∨ fr.complete = true) &&
     decide (last = (fr.complete && r.isEmpty && decide (b.length ≤ pay))) && decide (frame = s.avtpFrame k (s.slot k) fr off (b.take pay) last) &&
     !(last) && decide (s.fdbFind (ofBytesBE (sliceBytes frame 0 6)) (frameVid frame) = none)) &&
    (let k : Fin 16 := 15;
    let s : State := { ((lit).puts ([0, 1].flatMap fun m => [(macPage m 0, Hdr.CTRL_EN, 1), (macPage m 0, Mac.MAC_STAT_LINK, 1)])).puts [(bridgePage 0, Hdr.CTRL_EN, 1)] with macs := [(0, {})], bridge := { slots := [(15, { bound := some (3, 0, 5, false), seqNum := 255, frames := [{ key := 12884901889, half := 0, format := 1, held := [(0, [1, 2, 3])], complete := true }] })], fdb := [(0, { valid := true, isStatic := true, ports := 1, vid := 2, addr := 0 })] } };
    let fr : StreamFrame := { key := 12884901889, half := 0, format := 1, held := [(0, [1, 2, 3])], complete := true };
    let later : List StreamFrame := []; let off : Nat := 0; let pay : Nat := s.get (bridgePage 2) Bridge.STRM_PAY_BYTES;
    let b : List Byte := [1, 2, 3]; let r : List (Nat × List Byte) := []; let last : Bool := (fr.complete && r.isEmpty && decide (b.length ≤ pay));
    let frame : List Byte := s.avtpFrame k (s.slot k) fr off (b.take pay) last;
     !(s.terminal) && (s.flag (bridgePage 0) Hdr.CTRL_EN) && decide ((s.slot k).frames = fr :: later) && decide (fr.held = (off, b) :: r) &&
     decide (pay = s.get (bridgePage 2) Bridge.STRM_PAY_BYTES) && decide (pay ≤ b.length ∨ r ≠ [] ∨ fr.complete = true) &&
     decide (last = (fr.complete && r.isEmpty && decide (b.length ≤ pay))) && decide (frame = s.avtpFrame k (s.slot k) fr off (b.take pay) last) &&
     last) &&
    (let req : Requester := .host0; let u : Fin 64 := 0; let w : Word := 0xE0000003; let s : State := lit; let poly : Nat := w.toNat / 2 ^ 29 % 4;
    let fold : Nat := w.toNat / 2 ^ 27 % 4; let exp : Nat := w.toNat / 2 ^ 25 % 4;
     (s.serves req (regOff (sdPage u) Sounding.SD_CFG_EN)) && decide (poly = w.toNat / 2 ^ 29 % 4) && decide (fold = w.toNat / 2 ^ 27 % 4) &&
     decide (exp = w.toNat / 2 ^ 25 % 4) && decide (poly = 3) && (s.fits (sdPage u) Sounding.SD_CFG_POLY) &&
     decide (w.toNat % 1024 / 512 = u.val / 32) && (w.getLsbD 31) && !(s.flag (sdPage u) Sounding.SD_CFG_EN)) &&
    (let req : Requester := .host0; let u : Fin 64 := 5; let w : Word := 0x86000200; let s : State := lit; let poly : Nat := w.toNat / 2 ^ 29 % 4;
    let fold : Nat := w.toNat / 2 ^ 27 % 4; let exp : Nat := w.toNat / 2 ^ 25 % 4;
     (s.serves req (regOff (sdPage u) Sounding.SD_CFG_EN)) && decide (poly = w.toNat / 2 ^ 29 % 4) && decide (fold = w.toNat / 2 ^ 27 % 4) &&
     decide (exp = w.toNat / 2 ^ 25 % 4) && decide (poly ≠ 3) && decide (exp ≠ 3 ∨ (poly = 0 ∧ fold = 0)) &&
     decide (w.toNat % 1024 / 512 ≠ u.val / 32) && (w.getLsbD 31) && !(s.flag (sdPage u) Sounding.SD_CFG_EN)) &&
    (let req : Requester := .host0; let u : Fin 64 := 5; let w : Word := 0x8E000200; let s : State := lit; let poly : Nat := w.toNat / 2 ^ 29 % 4;
    let fold : Nat := w.toNat / 2 ^ 27 % 4; let exp : Nat := w.toNat / 2 ^ 25 % 4;
     (s.serves req (regOff (sdPage u) Sounding.SD_CFG_EN)) && decide (poly = w.toNat / 2 ^ 29 % 4) && decide (fold = w.toNat / 2 ^ 27 % 4) &&
     decide (exp = w.toNat / 2 ^ 25 % 4) && decide (exp = 3) && decide (fold ≠ 0 ∨ (poly ≠ 0 ∧ poly ≠ 3)) &&
     decide (w.toNat % 1024 / 512 ≠ u.val / 32) && (w.getLsbD 31) && !(s.flag (sdPage u) Sounding.SD_CFG_EN)) &&
    (let req : Requester := .host0; let u : Fin 64 := 63; let s : State := lit;
     (s.serves req (regOff (sdPage u) Sounding.SD_ARM_ARM)))) = true := by decide +kernel

/-- Witnesses of HeartbeatsAndFailuresMoveControl. -/
theorem test_heartbeatsAndFailuresMoveControl : (
    (let h : Fin 2 := 0; let index : Fin 256 := 0;
     decide (index.val = h.val)) &&
    (let h : Fin 2 := 0; let index : Fin 256 := 0;
     decide (index.val = h.val)) &&
    (let h : Fin 2 := 0; let index : Fin 256 := 7;
     decide (index.val ≠ h.val)) &&
    (let h : Fin 2 := 0; let index : Fin 256 := 0; let s : State := lit;
     decide (index.val = h.val) && decide (s.seawall.mbxRef.getD h none = none)) &&
    (let h : Fin 2 := 0; let wire : Bool := true;
    let s : State := (lit).puts [(0x40, Seawall.SW_STAT_STATE_H0, 1), (0x40, Seawall.SW_STAT_STATE_H1, 2), (0x40, Seawall.SW_STAT_ACTING, 1), (0x40, Seawall.SW_STAT_HEALTHY, 3), (0x40, Seawall.SW_HB0_WIRE_OK, 1), (0x40, Seawall.SW_HB1_WIRE_OK, 1), (0x40, Seawall.SW_HB_CNT0_WIRE_LOSSES, 65535)];
     (s.hbJudged h) && (s.flag swPage (hbOk h wire)) && !(hasBit (s.get swPage Seawall.SW_STAT_DEGRADED) h)) &&
    (let h : Fin 2 := 0;
    let s : State := (lit).puts [(0x40, Seawall.SW_STAT_STATE_H0, 1), (0x40, Seawall.SW_STAT_STATE_H1, 2), (0x40, Seawall.SW_STAT_ACTING, 1), (0x40, Seawall.SW_STAT_HEALTHY, 3), (0x40, Seawall.SW_HB0_WIRE_OK, 0), (0x40, Seawall.SW_HB0_MBX_OK, 0), (0x40, Seawall.SW_HB1_WIRE_OK, 0), (0x40, Seawall.SW_HB1_MBX_OK, 0)];
     !(s.flag swPage (hbOk h true)) && !(s.flag swPage (hbOk h false)) && (s.hbJudged h) && decide (s.halfState h = 1) && (s.isCandidate (1 - h.val))) &&
    (let h : Fin 2 := 0;
    let s : State := (lit).puts [(0x40, Seawall.SW_STAT_STATE_H0, 2), (0x40, Seawall.SW_STAT_STATE_H1, 1), (0x40, Seawall.SW_STAT_ACTING, 2), (0x40, Seawall.SW_HB0_WIRE_OK, 0), (0x40, Seawall.SW_HB0_MBX_OK, 0), (0x40, Seawall.SW_HB1_WIRE_OK, 0), (0x40, Seawall.SW_HB1_MBX_OK, 0)];
     !(s.flag swPage (hbOk h true)) && !(s.flag swPage (hbOk h false)) && (s.hbJudged h) && decide (s.halfState h ≠ 1)) &&
    (let h : Fin 2 := 0;
    let s : State := (lit).puts [(0x40, Seawall.SW_STAT_STATE_H0, 1), (0x40, Seawall.SW_STAT_STATE_H1, 4), (0x40, Seawall.SW_STAT_ACTING, 1), (0x40, Seawall.SW_HB0_WIRE_OK, 0), (0x40, Seawall.SW_HB0_MBX_OK, 0), (0x40, Seawall.SW_HB1_WIRE_OK, 0), (0x40, Seawall.SW_HB1_MBX_OK, 0)];
     !(s.flag swPage (hbOk h true)) && !(s.flag swPage (hbOk h false)) && (s.hbJudged h) && decide (s.halfState h = 1) &&
     !(s.isCandidate (1 - h.val)) && decide (s.halfState (1 - h.val) ≠ 1)) &&
    (let h : Fin 2 := 0;
    let s : State := { (lit).puts [(0x40, Seawall.SW_STAT_STATE_H0, 1), (0x40, Seawall.SW_STAT_STATE_H1, 2), (0x40, Seawall.SW_STAT_ACTING, 1), (0x40, Seawall.SW_STAT_HEALTHY, 3), (0x40, Seawall.SW_HB0_WIRE_OK, 0), (0x40, Seawall.SW_HB0_MBX_OK, 0), (0x40, Seawall.SW_HB1_WIRE_OK, 0), (0x40, Seawall.SW_HB1_MBX_OK, 0), (0x40, Seawall.SW_CFG_CAUSE_EN, 63)] with due := [.selfCheck 0 2] };
    let c : Nat := 2;
     decide (s.selfCheckOf h = some c) && (s.causeEnabled c) && (s.hbJudged h) && decide (s.halfState h = 1) && (s.isCandidate (1 - h.val))) &&
    (let h : Fin 2 := 0;
    let s : State := { (lit).puts [(0x40, Seawall.SW_STAT_STATE_H0, 1), (0x40, Seawall.SW_STAT_STATE_H1, 4), (0x40, Seawall.SW_STAT_ACTING, 1), (0x40, Seawall.SW_HB0_WIRE_OK, 0), (0x40, Seawall.SW_HB0_MBX_OK, 0), (0x40, Seawall.SW_HB1_WIRE_OK, 0), (0x40, Seawall.SW_HB1_MBX_OK, 0), (0x40, Seawall.SW_CFG_CAUSE_EN, 63)] with due := [.selfCheck 0 2] };
    let c : Nat := 2;
     decide (s.selfCheckOf h = some c) && (s.causeEnabled c) && (s.hbJudged h) && decide (s.halfState h = 1) && !(s.isCandidate (1 - h.val))) &&
    (let h : Fin 2 := 0;
    let s : State := { (lit).puts [(0x40, Seawall.SW_STAT_STATE_H0, 1), (0x40, Seawall.SW_STAT_STATE_H1, 2), (0x40, Seawall.SW_STAT_ACTING, 1), (0x40, Seawall.SW_STAT_HEALTHY, 3), (0x40, Seawall.SW_CFG_CAUSE_EN, 0)] with due := [.selfCheck 0 4] };
    let c : Nat := 4;
     decide (s.selfCheckOf h = some c) && !(s.causeEnabled c)) &&
    (let h : Fin 2 := 0;
    let s : State := { lit.puts [(0x40, Seawall.SW_CFG_CAUSE_EN, 63), (0x40, Seawall.SW_STAT_STATE_H0, 0)] with due := [.selfCheck 0 2] };
    let c : Nat := 2;
     decide (s.selfCheckOf h = some c) && (s.causeEnabled c) && !(s.hbJudged h))) = true := by decide +kernel

/-- Witnesses of HalvesAreTestedReportedRepairedAndSwitched. -/
theorem test_halvesAreTestedReportedRepairedAndSwitched : (
    (let x : Fin 160 := 3;
    let s : State := { (lit).puts [(0x40, Seawall.SW_STAT_STATE_H0, 2), (0x40, Seawall.SW_STAT_STATE_H1, 1), (0x40, Seawall.SW_STAT_ACTING, 3), (0x40, Seawall.SW_STAT_DUAL, 1)] with seawall := { duals := [{ half := 0, stream := 3 }] } };
    let w : DualWindow := { half := 0, stream := 3 };
     decide (s.seawall.duals.find? (fun w => w.stream == x.val && w.until_.isNone) = some w) &&
     (s.seawall.duals).all (fun v => !decide (v.until_ = none) || decide (v.stream = x.val)) && decide (s.halfState w.half ≠ 1)) &&
    (let h : Fin 2 := 1; let s : State := { lit.puts [(0x41, Seawall.SW_BIST_POS_SLICE.nth 1, 62)] with seawall := { bist := [none, some 5] } };
     ((s.seawall.bist.getD h none).isSome) && decide (s.get swPage1 (Seawall.SW_BIST_POS_SLICE.nth h) < 63)) &&
    (let h : Fin 2 := 1; let s : State := { lit.puts [(0x41, Seawall.SW_BIST_POS_SLICE.nth 1, 63)] with seawall := { bist := [none, some 5] } };
     ((s.seawall.bist.getD h none).isSome) && decide (s.get swPage1 (Seawall.SW_BIST_POS_SLICE.nth h) = 63)) &&
    (let s : State := planned lit (planOf [] []);
     s.planLive) &&
    (let req : Requester := .host0; let h : Fin 2 := 0;
    let s : State := (lit).puts [(0x40, Seawall.SW_STAT_STATE_H0, 4), (0x40, Seawall.SW_STAT_STATE_H1, 4)];
     (s.serves req (regOff swPage Seawall.SW_CMD_REPAIR0)) && (s.halfFailed h) && !(s.power.repair.contains h.val)) &&
    (let req : Requester := .host0; let h : Fin 2 := 0;
    let s : State := (lit).puts [(0x40, Seawall.SW_STAT_STATE_H0, 2), (0x40, Seawall.SW_STAT_STATE_H1, 2)];
     (s.serves req (regOff swPage Seawall.SW_CMD_REPAIR0)) && !(s.halfFailed h) && !(s.power.repair.contains h.val)) &&
    (let h : Fin 2 := 1;
    let s : State := { (trainedHalf1).puts [(0x40, Seawall.SW_STAT_STATE_H0, 1), (0x40, Seawall.SW_STAT_ACTING, 1), (0x40, Seawall.SW_STAT_STATE_H1, 4)] with power := { inReset := false, por := false, repair := [1] } };
     (s.power.repair.contains h.val) && ((instancesOfHalf h).all s.ready) && decide (s.halfState (1 - h.val) = 1 ∨ s.halfState h = 1)) &&
    (let h : Fin 2 := 1;
    let s : State := { (trainedHalf1).puts [(0x40, Seawall.SW_STAT_STATE_H0, 4), (0x40, Seawall.SW_STAT_STATE_H1, 4)] with power := { inReset := false, por := false, repair := [1] } };
     (s.power.repair.contains h.val) && ((instancesOfHalf h).all s.ready) && decide (s.halfState 0 ≠ 1) && decide (s.halfState 1 ≠ 1)) &&
    (let req : Requester := .host0; let w : Word := 0x20000000;
    let s : State := (lit).puts [(0x40, Seawall.SW_STAT_STATE_H0, 1), (0x40, Seawall.SW_STAT_STATE_H1, 2), (0x40, Seawall.SW_STAT_ACTING, 1), (0x40, Seawall.SW_STAT_HEALTHY, 3)];
     (s.serves req (regOff swPage Seawall.SW_CMD_SWITCH)) && !(s.flag swPage Seawall.SW_CMD_SWITCH) && !(w.getLsbD 31) && !(w.getLsbD 30)) &&
    (let req : Requester := .host0; let w : Word := 0x20000000;
    let s : State := (lit).puts [(0x40, Seawall.SW_STAT_STATE_H0, 1), (0x40, Seawall.SW_STAT_STATE_H1, 3)];
     (s.serves req (regOff swPage Seawall.SW_CMD_SWITCH)) && !(s.flag swPage Seawall.SW_CMD_SWITCH) &&
     decide (∀ h : Fin 2, ¬ (s.halfState (1 - h.val) = 1 ∧ s.halfState h = 2 ∧ hasBit (s.get swPage Seawall.SW_STAT_HEALTHY) h = true)) &&
     !(w.getLsbD 31) && !(w.getLsbD 30)) &&
    (let req : Requester := .host0; let w : Word := 0x20000000;
    let s : State := (lit).puts [(0x40, Seawall.SW_STAT_STATE_H0, 1), (0x40, Seawall.SW_STAT_STATE_H1, 2), (0x40, Seawall.SW_STAT_ACTING, 1), (0x40, Seawall.SW_STAT_HEALTHY, 3), (0x40, Seawall.SW_CMD_SWITCH, 1)];
     (s.serves req (regOff swPage Seawall.SW_CMD_SWITCH)) && (s.flag swPage Seawall.SW_CMD_SWITCH) && !(w.getLsbD 31) && !(w.getLsbD 30)) &&
    (let s : State := (lit).puts [(0x40, Seawall.SW_STAT_STATE_H0, 1), (0x40, Seawall.SW_STAT_STATE_H1, 2), (0x40, Seawall.SW_STAT_ACTING, 1), (0x40, Seawall.SW_STAT_HEALTHY, 3), (0x40, Seawall.SW_CMD_SWITCH, 1)];
     (s.flag swPage Seawall.SW_CMD_SWITCH) && decide (s.planLive = false ∨ s.seawall.switchDue = true)) &&
    (let s : State := (lit).puts [(0x40, Seawall.SW_STAT_STATE_H0, 1), (0x40, Seawall.SW_STAT_STATE_H1, 4), (0x40, Seawall.SW_CMD_SWITCH, 1)];
     (s.flag swPage Seawall.SW_CMD_SWITCH) && decide (s.planLive = false ∨ s.seawall.switchDue = true) &&
     decide (∀ h : Fin 2, ¬ (s.halfState (1 - h.val) = 1 ∧ s.halfState h = 2)))) = true := by decide +kernel

/-- Witnesses of FaultOccurrencesAreLoggedAndAnswered. -/
theorem test_faultOccurrencesAreLoggedAndAnswered : (
    (let src : Fin 1536 := 64;
    let s : State := { lit.puts [(0x21, Breakwater.SRC_CFG_SEV.nth 64, 6), (0x21, Breakwater.SRC_CFG_ERR.nth 64, 1), (0x21, Breakwater.SRC_CFG_CLASS.nth 64, 63), (0x100, Hdr.FLT_STAT_FAULT, 1)] with due := [.occurrence 0x100 0], flt := [(0x100, { present := 1 })] };
    let pg : Nat := 0x100; let b : Nat := 0; let r : PageRef := ((pageRef 0x100).getD ⟨.chip, 0, 0⟩);
     decide (s.due.find? (ofSource src) = some (.occurrence pg b)) && decide (pageRef pg = some r) &&
     !(s.flag bwPage Breakwater.BW_FIRST_INFO_VALID) && !((s.verdict r src).conseq) && decide (s.bwCfg src Breakwater.SRC_CFG_ERR = 1) &&
     decide ((s.verdict r src).react = 6)) &&
    (let src : Fin 1536 := 688;
    let s : State := { lit.puts [(0x22, Breakwater.SRC_CFG_SEV.nth 304, 5), (0x22, Breakwater.SRC_CFG_ERR.nth 304, 2), (0x22, Breakwater.SRC_CFG_CLASS.nth 304, 63), (0x400, Hdr.FLT_STAT_FAULT, 1), (0x20, Breakwater.BW_FIRST_INFO_VALID, 1)] with due := [.occurrence 0x400 0], flt := [(0x400, { present := 1 })] };
    let pg : Nat := 0x400; let b : Nat := 0; let r : PageRef := ((pageRef 0x400).getD ⟨.chip, 0, 0⟩);
     decide (s.due.find? (ofSource src) = some (.occurrence pg b)) && decide (pageRef pg = some r) &&
     (s.flag bwPage Breakwater.BW_FIRST_INFO_VALID) && !((s.verdict r src).conseq) && decide ((s.verdict r src).react = 5)) &&
    (let src : Fin 1536 := 64;
    let s : State := { lit.puts [(0x21, Breakwater.SRC_CFG_SEV.nth 64, 4), (0x21, Breakwater.SRC_CFG_ERR.nth 64, 0), (0x21, Breakwater.SRC_CFG_CLASS.nth 64, 63), (0x100, Hdr.FLT_STAT_FAULT, 1)] with due := [.occurrence 0x100 0], flt := [(0x100, { present := 1 })] };
    let pg : Nat := 0x100; let b : Nat := 0; let r : PageRef := ((pageRef 0x100).getD ⟨.chip, 0, 0⟩);
     decide (s.due.find? (ofSource src) = some (.occurrence pg b)) && decide (pageRef pg = some r) &&
     !(s.flag bwPage Breakwater.BW_FIRST_INFO_VALID) && !((s.verdict r src).conseq) && decide ((s.verdict r src).react = 4) &&
     decide (r.block ≠ .drift)) &&
    (let src : Fin 1536 := 1376;
    let s : State := { lit.puts [(0x24, Breakwater.SRC_CFG_SEV.nth 224, 4), (0x24, Breakwater.SRC_CFG_ERR.nth 224, 0), (0x24, Breakwater.SRC_CFG_CLASS.nth 224, 63), (0x1000, Hdr.FLT_STAT_FAULT, 1)] with due := [.occurrence 0x1000 0], flt := [(0x1003, { present := 1, unack := 1 }), (0x1000, { present := 1 })] };
    let pg : Nat := 0x1000; let b : Nat := 0; let r : PageRef := ((pageRef 0x1000).getD ⟨.chip, 0, 0⟩);
     decide (s.due.find? (ofSource src) = some (.occurrence pg b)) && decide (pageRef pg = some r) &&
     !(s.flag bwPage Breakwater.BW_FIRST_INFO_VALID) && !((s.verdict r src).conseq) && decide ((s.verdict r src).react = 4) &&
     decide (r.block = .drift) && decide (r.base = pg)) &&
    (let req : Requester := .host0; let s : State := lit;
     (s.serves req (regOff bwPage Breakwater.BW_CTRL_LOCK))) &&
    (let req : Requester := .host0; let s : State := lit.put 0 Chip.CHIP_CFG_FACTORY 1;
     (s.serves req (regOff 0x27 Breakwater.BW_INJ_GO)) && s.factory) &&
    (let req : Requester := .host0; let s : State := lit;
     (s.serves req (regOff 0x27 Breakwater.BW_INJ_GO)) && !(s.factory)) &&
    (let req : Requester := .host0; let w : Word := 0x800005FF; let s : State := lit.put 0 Chip.CHIP_CFG_FACTORY 1;
     (s.serves req (regOff 0x27 Breakwater.BW_INJ_GO)) && s.factory && decide (sourceBit (w.toNat % 2 ^ 11) 0 = none)) &&
    (let s : State := lit.puts [(0x20, Breakwater.BW_STAT_ERR_DRIVEN, 1), (0xC, Chip.ERRN_STAT_STUCK, 1)];
     (s.flag bwPage Breakwater.BW_STAT_ERR_DRIVEN) && !(s.errHeld)) &&
    (let s : State := lit;
     decide (s.flag bwPage Breakwater.BW_STAT_ERR_DRIVEN = false ∨ s.errHeld = true)) &&
    (let s : State := lit.put 0x20 Breakwater.BW_CTRL_TOG_EN 1;
     !(s.fault.togOff)) &&
    (let s : State := { lit with fault := { togOff := true } };
     s.fault.togOff) &&
    (let s : State := lit;
     !(s.flag bwPage Breakwater.BW_STAT_ERR_DRIVEN)) &&
    (let s : State := lit.put 0x20 Breakwater.BW_STAT_ERR_DRIVEN 1;
     (s.flag bwPage Breakwater.BW_STAT_ERR_DRIVEN))) = true := by decide +kernel

/-- Witnesses of BeaconSourcesFireAreDeliveredAndComplete. -/
theorem test_beaconSourcesFireAreDeliveredAndComplete : (
    (let n : Fin 512 := 40; let s : State := taking [] [];
     !(isReservedSrc n) && !(s.isLevelSrc n) && decide (Due.pulse n.val ∉ s.due)) &&
    (let n : Fin 512 := 30;
     (isReservedSrc n)) &&
    (let n : Fin 512 := 50; let s : State := taking [] [];
     !(isReservedSrc n) && (s.isLevelSrc n) && decide (s.levelInput n = false ∨ (s.src n).level = true)) &&
    (let n : Fin 512 := 50;
    let s : State := (taking [] []).puts [(0x31, Beacon.SRC_CFG_INPUT.nth 50, 0x100), (0x100, Hdr.EVT_STAT_EVENT, 1), (0x100, Hdr.EVT_EN_ENABLE, 1)];
     !(isReservedSrc n) &&
     decide ((s.isLevelSrc n = false ∧ Due.pulse n.val ∈ s.due) ∨ (s.isLevelSrc n = true ∧ s.levelInput n = true ∧ (s.src n).level = false)) &&
     decide ((s.src n).pend = false ∨ s.srcPrio n = 0) && (s.isLevelSrc n)) &&
    (let n : Fin 512 := 40;
    let s : State := { lit.put (0x31 + 40 / 256) (Beacon.SRC_CFG_PRIO.nth (40 % 256)) 3 with due := [.pulse 40], beacon := { lit.beacon with srcs := [(40, { pend := true })] } };
     !(isReservedSrc n) &&
     decide ((s.isLevelSrc n = false ∧ Due.pulse n.val ∈ s.due) ∨ (s.isLevelSrc n = true ∧ s.levelInput n = true ∧ (s.src n).level = false)) &&
     ((s.src n).pend) && decide (s.srcPrio n ≠ 0) && !(s.isLevelSrc n)) &&
    (let s : State := taking [(40, { pend := true }), (41, { pend := true })] []; let n : Nat := 41; let k : Nat := 0;
     decide (s.nextDelivery = some (n, k))) &&
    (let req : Requester := .lp1; let k : Fin 4 := 1; let s : State := taking [(40, { act := true, lp := 1, pend := true })] [(1, [(40, 5), (3, 2)])];
     (s.serves req (regOff bcnPage (Beacon.LP_EOI_SOURCE.nth k)))) &&
    (let req : Requester := .lp1; let k : Fin 4 := 1; let w : Word := 41;
    let s : State := taking [(40, { act := true, lp := 1 })] [(1, [(40, 5), (3, 2)])];
     (s.serves req (regOff bcnPage (Beacon.LP_EOI_SOURCE.nth k))) && decide (req.lp? = some k.val) &&
     decide (((s.irqStack k).head?.map (·.1)) ≠ some (w.toNat % 512))) &&
    (let req : Requester := .host0; let k : Fin 4 := 1; let s : State := taking [(40, { act := true, lp := 1 })] [(1, [(40, 5), (3, 2)])];
     (s.serves req (regOff bcnPage (Beacon.LP_EOI_SOURCE.nth k))) && decide (req.lp? ≠ some k.val)) &&
    (let n : Fin 512 := 50; let s : State := taking [(50, { pend := true, level := true })] [];
     (s.isLevelSrc n) && ((s.src n).level) && !(s.levelInput n) && ((s.src n).pend) && !((s.src n).act)) &&
    (let n : Fin 512 := 50; let s : State := taking [(50, { act := true, level := true })] [(0, [(50, 1)])];
     (s.isLevelSrc n) && ((s.src n).level) && !(s.levelInput n) && ((s.src n).act)) &&
    (let req : Requester := .host0; let i : Fin 16 := 1; let s : State := taking [(40, { act := true, lp := 1 })] [(1, [(40, 5)])];
     (s.serves req (regOff 0x33 (Beacon.SET_SRC.nth i)))) &&
    (let req : Requester := .host0; let i : Fin 16 := 0;
    let s : State := taking [(40, { act := true, lp := 1, pend := true }), (41, { pend := true, starved := true }), (50, { pend := true, level := true })] [(1, [(40, 5)])];
     (s.serves req (regOff 0x33 (Beacon.CLR_SRC.nth i)))) &&
    (let n : Fin 512 := 40; let s : State := taking [(40, { pend := true })] [];
     !((s.src n).act) && ((s.src n).pend) && decide (s.srcPrio n ≠ 0)) &&
    (let n : Fin 512 := 40; let s : State := taking [(40, { act := true })] [(0, [(40, 5)])];
     ((s.src n).act)) &&
    (let n : Fin 512 := 60; let s : State := taking [(60, { pend := true })] [];
     !((s.src n).act) && decide ((s.src n).pend = false ∨ s.srcPrio n = 0))) = true := by decide +kernel

/-- Witnesses of TheBestProcessorHasTheLowestRunningPriority. -/
theorem test_theBestProcessorHasTheLowestRunningPriority : (
    (let s : State := taking [(40, { pend := true }), (41, { pend := true })] []; let n : Nat := 40; let k : Nat := 0;
     decide (s.bestLp n = some k)) &&
    (let s : State := taking [(40, { pend := true }), (41, { pend := true })] []; let n : Nat := 41; let k : Nat := 0;
     decide (s.nextDelivery = some (n, k))) &&
    (let s : State := lit; let n : Nat := 40;
     decide (s.bestLp n = none))) = true := by decide +kernel

/-- Witnesses of ControlCoresServeTheRing. -/
theorem test_controlCoresServeTheRing : (
    (let k : Fin 4 := 0; let s : State := lit;
     (s.ready ⟨.lp, k, 0⟩)) &&
    (let k : Fin 4 := 1; let s : State := State.reset;
     !(s.ready ⟨.lp, k, 0⟩)) &&
    (let k : Fin 4 := 1;
    let s : State := { (ringed {}).puts [(0x8, Chip.BOOT_STAT_STATE, 3), (lpPage 1, Hdr.FLT_STAT_FAULT, 7)] with cores := { down := 2 } };
     (s.ready ⟨.lp, k, 0⟩) && decide (hasBit s.cores.down k = true ∨ s.get (lpPage k) Lp.LP_FW_STAT_STATE = 1) &&
     decide (s.get 0x8 Chip.BOOT_STAT_STATE = 3)) &&
    (let k : Fin 4 := 2; let s : State := lit.put (lpPage 2) Lp.WD_CFG_EN 1;
     (s.flag (lpPage k) Lp.WD_CFG_EN) && (s.ready ⟨.lp, k, 0⟩)) &&
    (let k : Fin 4 := 2; let s : State := lit;
     decide (s.flag (lpPage k) Lp.WD_CFG_EN = false ∨ s.ready ⟨.lp, k, 0⟩ = false)) &&
    (let k : Fin 4 := 1; let req : Requester := .host0; let w : Word := 3; let s : State := ringed { owner := none };
    let n : Nat := (3 + 65536 - 1) % 65536;
     (s.serves req (regOff (Block.page .lp k 1) Lp.CMD_TAIL_COUNT)) &&
     decide (n = (w.toNat % 65536 + 65536 - s.get ringPage Lp.CMD_TAIL_COUNT) % 65536) && (s.flag ringPage Lp.CMD_CFG_EN) &&
     decide (s.cores.owner = none ∨ s.cores.owner = some req) && decide (s.cores.entries.length + n ≤ 256)) &&
    (let k : Fin 4 := 1; let req : Requester := .host0; let w : Word := 0; let s : State := ringed { owner := none };
    let n : Nat := (0 + 65536 - 1) % 65536;
     (s.serves req (regOff (Block.page .lp k 1) Lp.CMD_TAIL_COUNT)) &&
     decide (n = (w.toNat % 65536 + 65536 - s.get ringPage Lp.CMD_TAIL_COUNT) % 65536) &&
     (decide (s.flag ringPage Lp.CMD_CFG_EN = false) || decide (256 < s.cores.entries.length + n))) &&
    (let k : Fin 4 := 1; let req : Requester := .host0; let s : State := ringed { owner := some .host0 };
     (s.serves req (regOff (Block.page .lp k 1) Lp.CPL_HEAD_COUNT)) && decide (s.cores.owner = some req) && decide (s.cores.waiting = [])) &&
    (let k : Fin 4 := 1; let req : Requester := .lp1; let s : State := ringed { owner := some .host0 };
     (s.serves req (regOff (Block.page .lp k 1) Lp.CPL_HEAD_COUNT)) && decide (s.cores.owner ≠ some req)) &&
    (let k : Fin 4 := 1; let req : Requester := .host0; let s : State := ringed { owner := some .host0, waiting := [⟨0, 0, 0, 0, 0, 0, false⟩] } true;
     (s.serves req (regOff (Block.page .lp k 1) Lp.CPL_HEAD_COUNT)) && decide (s.cores.owner = some req)) &&
    (let k : Fin 4 := 1; let s : State := ringed {};
     (s.running k) && !(s.power.wakeSeqDue) && !(s.power.replanDue) && decide (s.get 0x2 Chip.PM_STAT_STATE ≠ 2) && decide (s.serving ≠ some k.val) &&
     decide (s.runner (k / 2) ≠ some k.val)) &&
    (let k : Fin 4 := 1; let s : State := lit;
     !(s.running k)) &&
    (let s : State := ringed { waiting := [⟨0, 0, 0, 0, 0, 0, false⟩] } true; let k : Nat := 0;
     decide (s.serving = some k) && decide (s.cores.waiting ≠ [])) &&
    (let s : State := ringed {}; let k : Nat := 0;
     decide (s.serving = some k) && decide (s.cores.waiting = [])) &&
    (let s : State := ringed { entries := [{ entry 0x12 with started := true, far := some 2 }], reports := [⟨0, 1, .goes (.scrub 5 0 0)⟩] };
    let k : Nat := 0; let r : StepReport := ⟨0, 1, .goes (.scrub 5 0 0)⟩; let rest : List StepReport := [];
     decide (s.serving = some k) && decide (s.cores.reports = r :: rest) &&
     (s.cores.entries).all (fun e => decide (¬ (e.index = r.id ∧ e.due = r.gen ∧ e.far.isSome = true)))) &&
    (let s : State := ringed { entries := [{ entry 0x12 with started := true, far := some 2 }], reports := [⟨0, 0, .ends { status := 0 }⟩] } true;
    let k : Nat := 0; let r : StepReport := ⟨0, 0, .ends { status := 0 }⟩; let rest : List StepReport := [];
     decide (s.serving = some k) && decide (s.cores.reports = r :: rest)) &&
    (let s : State := ringed { entries := [{ entry 0x12 with started := true, far := some 2 }], reports := [⟨0, 0, .goes .none⟩] }; let k : Nat := 0;
    let r : StepReport := ⟨0, 0, .goes .none⟩; let rest : List StepReport := [];
     decide (s.serving = some k) && decide (s.cores.reports = r :: rest) && decide (r.result = .goes .none))) = true := by decide +kernel

/-- Witnesses of RingCommandsDoTheirWork. -/
theorem test_ringCommandsDoTheirWork : (
    (let i : Fin 256 := 0; let s : State := awaiting (entry 0x1 ([])) true; let k : Nat := 0; let e : RingEntry := entry 0x1 ([]);
     decide (s.serving = some k) && decide (s.nextStart = some e) && decide (e.index = i) && decide (e.opcode = 0x0001) && s.cplFull) &&
    (let i : Fin 256 := 0; let s : State := awaiting (entry 0x2 (toBytesLE 8 1)) true; let k : Nat := 0;
    let e : RingEntry := entry 0x2 (toBytesLE 8 1); let doc : Nat := e.num 0x10 8;
    let n : Nat := 32 * min (fieldLE (s.memRead (k / 2) doc 0xC0) 0x0C 2) 160 + 16 * min (fieldLE (s.memRead (k / 2) doc 0xC0) 0x0E 2) 640;
     decide (s.serving = some k) && decide (s.nextStart = some e) && decide (e.index = i) && decide (e.opcode = 0x0002) &&
     decide (doc = e.num 0x10 8) &&
     decide (n = 32 * min (fieldLE (s.memRead (k / 2) doc 0xC0) 0x0C 2) 160 + 16 * min (fieldLE (s.memRead (k / 2) doc 0xC0) 0x0E 2) 640) &&
     decide (2 ^ 52 ≤ doc ∨ doc % 64 ≠ 0)) &&
    (let i : Fin 256 := 0; let v : MemView := {}; let s : State := awaiting (entry 0x2 (toBytesLE 8 64)) false; let k : Nat := 0;
    let e : RingEntry := entry 0x2 (toBytesLE 8 64); let doc : Nat := e.num 0x10 8;
    let n : Nat := 32 * min (fieldLE (s.memRead (k / 2) doc 0xC0) 0x0C 2) 160 + 16 * min (fieldLE (s.memRead (k / 2) doc 0xC0) 0x0E 2) 640;
     decide (s.serving = some k) && decide (s.nextStart = some e) && decide (e.index = i) && decide (e.opcode = 0x0002) &&
     decide (doc = e.num 0x10 8) &&
     decide (n = 32 * min (fieldLE (s.memRead (k / 2) doc 0xC0) 0x0C 2) 160 + 16 * min (fieldLE (s.memRead (k / 2) doc 0xC0) 0x0E 2) 640) &&
     decide (doc < 2 ^ 52) && decide (doc % 64 = 0) && !(s.liveFlag (hbPage (k / 2) 7) Harbour.TR_ROOT_LO_EN) &&
     decide (doc + 0xC0 + n ≤ s.memCapacity (k / 2)) && decide (s.memCapacity (k / 2) ≤ 2 ^ 52) && decide (v.errs = []) && decide (s.planState = 0) &&
     decide (s.get 0x2 Chip.PM_STAT_STATE ≠ 1) && !(s.terminal)) &&
    (let i : Fin 256 := 0; let v : MemView := {}; let s : State := (awaiting (entry 0x2 (toBytesLE 8 64)) true).put 0x11 Tidemark.PLAN_STATE_STATE 1;
    let k : Nat := 0; let e : RingEntry := entry 0x2 (toBytesLE 8 64); let doc : Nat := e.num 0x10 8;
    let n : Nat := 32 * min (fieldLE (s.memRead (k / 2) doc 0xC0) 0x0C 2) 160 + 16 * min (fieldLE (s.memRead (k / 2) doc 0xC0) 0x0E 2) 640;
     decide (s.serving = some k) && decide (s.nextStart = some e) && decide (e.index = i) && decide (e.opcode = 0x0002) &&
     decide (doc = e.num 0x10 8) &&
     decide (n = 32 * min (fieldLE (s.memRead (k / 2) doc 0xC0) 0x0C 2) 160 + 16 * min (fieldLE (s.memRead (k / 2) doc 0xC0) 0x0E 2) 640) &&
     decide (doc < 2 ^ 52) && decide (doc % 64 = 0) && !(s.liveFlag (hbPage (k / 2) 7) Harbour.TR_ROOT_LO_EN) &&
     decide (doc + 0xC0 + n ≤ s.memCapacity (k / 2)) && decide (s.memCapacity (k / 2) ≤ 2 ^ 52) && decide (v.errs = []) &&
     decide (s.planState ≠ 0 ∨ s.get 0x2 Chip.PM_STAT_STATE = 1 ∨ s.terminal = true)) &&
    (let i : Fin 256 := 0; let s : State := awaiting (entry 0x3 ([])) true; let k : Nat := 0; let e : RingEntry := entry 0x3 ([]);
     decide (s.serving = some k) && decide (s.nextStart = some e) && decide (e.index = i) && decide (e.opcode = 0x0003) &&
     decide (s.tide.ended = none) && decide (s.planState = 0)) &&
    (let i : Fin 256 := 0;
    let s : State := { (awaiting (entry 0x3 ([])) true).put 0x11 Tidemark.PLAN_STATE_STATE 3 with tide := { staged := some (planOf [] []), stagedCaptured := true } };
    let k : Nat := 0; let e : RingEntry := entry 0x3 ([]);
     decide (s.serving = some k) && decide (s.nextStart = some e) && decide (e.index = i) && decide (e.opcode = 0x0003) &&
     decide (s.tide.ended = none) && decide (s.planState = 3) && s.tide.stagedCaptured) &&
    (let i : Fin 256 := 0;
    let s : State := { (awaiting (entry 0x3 ([])) true).put 0x11 Tidemark.PLAN_STATE_STATE 3 with tide := { staged := some (planOf [] []) } };
    let k : Nat := 0; let e : RingEntry := entry 0x3 ([]);
     decide (s.serving = some k) && decide (s.nextStart = some e) && decide (e.index = i) && decide (e.opcode = 0x0003) &&
     decide (s.tide.ended = none) && decide (s.planState ≠ 0) && decide (s.planState ≠ 3 ∨ s.tide.stagedCaptured = false) &&
     (s.cores.entries).all (fun y => decide (y.work ≠ .submit))) &&
    (let i : Fin 256 := 0;
    let s : State := { (ringed { owner := some .host0, entries := [entry 3, { entry 1 with count := 7, started := true, work := .submit }] } true).put 0x11 Tidemark.PLAN_STATE_STATE 1 with tide := { checking := some [1] } };
    let k : Nat := 0; let e : RingEntry := entry 3;
     decide (s.serving = some k) && decide (s.nextStart = some e) && decide (e.index = i) && decide (e.opcode = 0x0003) &&
     decide (s.tide.ended = none) && decide (s.planState ≠ 0) && decide (s.planState ≠ 3 ∨ s.tide.stagedCaptured = false)) &&
    (let i : Fin 256 := 0; let v : MemView := {};
    let s : State := (awaiting (entry 0x10 (toBytesLE 8 64 ++ toBytesLE 8 256 ++ List.replicate 8 0 ++ toBytesLE 4 5 ++ List.replicate 20 0)) true).memWrite 0 65 [1, 2, 3];
    let k : Nat := 0;
    let e : RingEntry := entry 0x10 (toBytesLE 8 64 ++ toBytesLE 8 256 ++ List.replicate 8 0 ++ toBytesLE 4 5 ++ List.replicate 20 0);
    let b : List Byte := s.memRead (k / 2) (e.num 0x10 8) (min e.loadLen 0x40000);
     decide (s.serving = some k) && decide (s.nextStart = some e) && decide (e.index = i) && decide (e.opcode = 0x0010) &&
     decide (b = s.memRead (k / 2) (e.num 0x10 8) (min e.loadLen 0x40000)) && decide (0 < e.loadLen) && decide (e.loadLen ≤ 0x40000) &&
     decide (e.num 0x30 1 ≤ 1) && !(s.liveFlag (hbPage (k / 2) 7) Harbour.TR_ROOT_LO_EN) &&
     decide (e.num 0x10 8 + e.loadLen ≤ s.memCapacity (k / 2)) && decide (e.num 0x18 8 + e.loadLen ≤ s.memCapacity (k / 2)) &&
     decide (s.memCapacity (k / 2) ≤ 2 ^ 52) && !(e.highAddr 0x20) && decide (v.errs = []) && decide (e.lost = none) && decide (e.far = none) &&
     decide (s.tide.ended = none)) &&
    (let i : Fin 256 := 0;
    let s : State := awaiting (entry 0x10 (toBytesLE 8 64 ++ toBytesLE 8 256 ++ List.replicate 8 0 ++ toBytesLE 4 0 ++ List.replicate 20 0)) true;
    let k : Nat := 0;
    let e : RingEntry := entry 0x10 (toBytesLE 8 64 ++ toBytesLE 8 256 ++ List.replicate 8 0 ++ toBytesLE 4 0 ++ List.replicate 20 0);
    let b : List Byte := s.memRead (k / 2) (e.num 0x10 8) (min e.loadLen 0x40000);
     decide (s.serving = some k) && decide (s.nextStart = some e) && decide (e.index = i) && decide (e.opcode = 0x0010) &&
     decide (b = s.memRead (k / 2) (e.num 0x10 8) (min e.loadLen 0x40000))) &&
    (let i : Fin 256 := 0;
    let s : State := awaiting (entry 0x11 ([0, 0, 2, 1] ++ toBytesLE 4 1 ++ List.replicate 16 0 ++ toBytesLE 4 100 ++ List.replicate 4 0)) true;
    let k : Nat := 0; let e : RingEntry := entry 0x11 ([0, 0, 2, 1] ++ toBytesLE 4 1 ++ List.replicate 16 0 ++ toBytesLE 4 100 ++ List.replicate 4 0);
    let n : Nat := 0; let c : Nat := 0;
     decide (s.serving = some k) && decide (s.nextStart = some e) && decide (e.index = i) && decide (e.opcode = 0x0011) &&
     decide (n = e.num 0x10 1) && decide (c = e.num 0x11 1) && decide (n ≤ 15) && decide (c ≤ 7) && decide (0 < e.num 0x12 1) &&
     decide (0 < e.num 0x13 1) && decide (e.num 0x13 1 ≤ e.num 0x12 1) && !(e.highAddr 0x18) && !(e.highAddr 0x20) && decide (0 < e.num 0x28 4) &&
     decide (e.num 0x28 4 ≤ 65536) && decide (e.num 0x14 4 ≤ e.num 0x28 4) && !(s.halfFailed (n / 8)) && decide (s.boundTo n c = none)) &&
    (let i : Fin 256 := 0;
    let s : State := (awaiting (entry 0x11 ([9] ++ ([0, 0, 2, 1] ++ toBytesLE 4 1 ++ List.replicate 16 0 ++ toBytesLE 4 100 ++ List.replicate 4 0).drop 1)) true).put 0x40 Seawall.SW_STAT_STATE_H1 4;
    let k : Nat := 0;
    let e : RingEntry := entry 0x11 ([9] ++ ([0, 0, 2, 1] ++ toBytesLE 4 1 ++ List.replicate 16 0 ++ toBytesLE 4 100 ++ List.replicate 4 0).drop 1);
    let n : Nat := 9; let c : Nat := 0;
     decide (s.serving = some k) && decide (s.nextStart = some e) && decide (e.index = i) && decide (e.opcode = 0x0011) &&
     decide (n = e.num 0x10 1) && decide (c = e.num 0x11 1) && decide (n ≤ 15) && decide (c ≤ 7) && decide (0 < e.num 0x12 1) &&
     decide (0 < e.num 0x13 1) && decide (e.num 0x13 1 ≤ e.num 0x12 1) && !(e.highAddr 0x18) && !(e.highAddr 0x20) && decide (0 < e.num 0x28 4) &&
     decide (e.num 0x28 4 ≤ 65536) && decide (e.num 0x14 4 ≤ e.num 0x28 4) && (s.halfFailed (n / 8))) &&
    (let i : Fin 256 := 0;
    let s : State := live1 3 (awaiting (entry 0x11 ([16, 0, 2, 1] ++ toBytesLE 4 1 ++ List.replicate 16 0 ++ toBytesLE 4 100 ++ List.replicate 4 0)) true);
    let k : Nat := 0;
    let e : RingEntry := entry 0x11 ([16, 0, 2, 1] ++ toBytesLE 4 1 ++ List.replicate 16 0 ++ toBytesLE 4 100 ++ List.replicate 4 0);
    let n : Nat := e.num 0x10 1; let c : Nat := e.num 0x11 1;
     decide (s.serving = some k) && decide (s.nextStart = some e) && decide (e.index = i) && decide (e.opcode = 0x0011) &&
     decide (n = e.num 0x10 1) && decide (c = e.num 0x11 1) && decide (15 < n)) &&
    (let i : Fin 256 := 0;
    let s : State := live1 3 (awaiting (entry 0x11 ([0, 8, 2, 1] ++ toBytesLE 4 1 ++ List.replicate 16 0 ++ toBytesLE 4 100 ++ List.replicate 4 0)) true);
    let k : Nat := 0; let e : RingEntry := entry 0x11 ([0, 8, 2, 1] ++ toBytesLE 4 1 ++ List.replicate 16 0 ++ toBytesLE 4 100 ++ List.replicate 4 0);
    let n : Nat := e.num 0x10 1; let c : Nat := e.num 0x11 1;
     decide (s.serving = some k) && decide (s.nextStart = some e) && decide (e.index = i) && decide (e.opcode = 0x0011) &&
     decide (n = e.num 0x10 1) && decide (c = e.num 0x11 1) && decide (n ≤ 15) && decide (7 < c)) &&
    (let i : Fin 256 := 0;
    let s : State := live1 3 (awaiting (entry 0x11 ([0, 0, 2, 1] ++ toBytesLE 4 1 ++ List.replicate 16 0 ++ toBytesLE 4 100 ++ List.replicate 4 0)) true);
    let k : Nat := 0; let e : RingEntry := entry 0x11 ([0, 0, 2, 1] ++ toBytesLE 4 1 ++ List.replicate 16 0 ++ toBytesLE 4 100 ++ List.replicate 4 0);
    let n : Nat := e.num 0x10 1; let c : Nat := e.num 0x11 1;
     decide (s.serving = some k) && decide (s.nextStart = some e) && decide (e.index = i) && decide (e.opcode = 0x0011) &&
     decide (n = e.num 0x10 1) && decide (c = e.num 0x11 1) && decide (n ≤ 15) && decide (c ≤ 7) && decide (0 < e.num 0x12 1) &&
     decide (0 < e.num 0x13 1) && decide (e.num 0x13 1 ≤ e.num 0x12 1) && !(e.highAddr 0x18) && !(e.highAddr 0x20) && decide (0 < e.num 0x28 4) &&
     decide (e.num 0x28 4 ≤ 65536) && decide (e.num 0x14 4 ≤ e.num 0x28 4)) &&
    (let i : Fin 256 := 0;
    let s : State := planned (awaiting (entry 0x11 ([8, 0, 2, 1] ++ toBytesLE 4 1 ++ List.replicate 16 0 ++ toBytesLE 4 100 ++ List.replicate 4 0)) true) (planOf [{ (strm 3) with coveA := 8 }] [⟨128, 0, 0, 0⟩]);
    let k : Nat := 0; let e : RingEntry := entry 0x11 ([8, 0, 2, 1] ++ toBytesLE 4 1 ++ List.replicate 16 0 ++ toBytesLE 4 100 ++ List.replicate 4 0);
    let n : Nat := e.num 0x10 1; let c : Nat := e.num 0x11 1;
     decide (s.serving = some k) && decide (s.nextStart = some e) && decide (e.index = i) && decide (e.opcode = 0x0011) &&
     decide (n = e.num 0x10 1) && decide (c = e.num 0x11 1) && decide (n ≤ 15) && decide (c ≤ 7) && decide (0 < e.num 0x12 1) &&
     decide (0 < e.num 0x13 1) && decide (e.num 0x13 1 ≤ e.num 0x12 1) && !(e.highAddr 0x18) && !(e.highAddr 0x20) && decide (0 < e.num 0x28 4) &&
     decide (e.num 0x28 4 ≤ 65536) && decide (e.num 0x14 4 ≤ e.num 0x28 4)) &&
    (let i : Fin 256 := 0; let v : MemView := {}; let s : State := awaiting (entry 0x12 ([0])) true; let k : Nat := 0;
    let e : RingEntry := entry 0x12 ([0]);
     decide (s.serving = some k) && decide (s.nextStart = some e) && decide (e.index = i) && decide (e.opcode = 0x0012) &&
     decide (e.num 0x10 1 ≤ 1) && !(s.halfFailed (e.num 0x10 1)) && decide (s.tide.ended = none) && decide (e.lost = none) && decide (e.far = none) &&
     decide (e.num 0x10 1 = k / 2) && decide (v.errs = [])) &&
    (let i : Fin 256 := 0; let s : State := awaiting (entry 0x12 ([1])) true; let k : Nat := 0; let e : RingEntry := entry 0x12 ([1]);
     decide (s.serving = some k) && decide (s.nextStart = some e) && decide (e.index = i) && decide (e.opcode = 0x0012) &&
     decide (e.num 0x10 1 ≤ 1) && !(s.halfFailed (e.num 0x10 1)) && decide (s.tide.ended = none) && decide (e.lost = none) && decide (e.far = none)) &&
    (let i : Fin 256 := 0; let s : State := awaiting (entry 0x12 ([2])) true; let k : Nat := 0; let e : RingEntry := entry 0x12 ([2]);
     decide (s.serving = some k) && decide (s.nextStart = some e) && decide (e.index = i) && decide (e.opcode = 0x0012) && decide (1 < e.num 0x10 1)) &&
    (let i : Fin 256 := 0; let s : State := (awaiting (entry 0x12 ([1])) true).put 0x40 Seawall.SW_STAT_STATE_H1 4; let k : Nat := 0;
    let e : RingEntry := entry 0x12 ([1]);
     decide (s.serving = some k) && decide (s.nextStart = some e) && decide (e.index = i) && decide (e.opcode = 0x0012) &&
     decide (e.num 0x10 1 ≤ 1) && (s.halfFailed (e.num 0x10 1))) &&
    (let i : Fin 256 := 0; let v : MemView := {}; let s : State := (awaiting (entry 0x12 [0]) true).put (hbPage 0 0) Harbour.HB_CAP_DATA_MIB 0;
    let k : Nat := 0; let e : RingEntry := entry 0x12 [0];
     decide (s.serving = some k) && decide (s.nextStart = some e) && decide (e.index = i) && decide (e.opcode = 0x0012) &&
     decide (e.num 0x10 1 ≤ 1) && !(s.halfFailed (e.num 0x10 1)) && decide (s.tide.ended = none) && decide (e.lost = none) && decide (e.far = none) &&
     decide (e.num 0x10 1 = k / 2) && decide (v.errs = []) && decide (s.memCapacity (k / 2) / 64 ≤ 16384)) &&
    (let i : Fin 256 := 0; let v : MemView := {};
    let s : State := (awaiting (entry 0x13 (toBytesLE 8 64 ++ toBytesLE 4 5 ++ [0, 0])) true).memWrite 0 64 [1, 2, 3, 4, 5]; let k : Nat := 0;
    let e : RingEntry := entry 0x13 (toBytesLE 8 64 ++ toBytesLE 4 5 ++ [0, 0]); let poly : Nat := e.num 0x1C 1;
    let got : Nat := crcEnd poly (crcOver poly (crcStart poly) (s.memRead (k / 2) (e.num 0x10 8) (min (e.num 0x18 4) 0x100000)));
     decide (s.serving = some k) && decide (s.nextStart = some e) && decide (e.index = i) && decide (e.opcode = 0x0013) &&
     decide (poly = e.num 0x1C 1) &&
     decide (got = crcEnd poly (crcOver poly (crcStart poly) (s.memRead (k / 2) (e.num 0x10 8) (min (e.num 0x18 4) 0x100000)))) &&
     decide (poly ≤ 2) && decide (e.num 0x1D 1 ≤ 1) && decide (0 < e.num 0x18 4) && decide (e.num 0x18 4 ≤ 0x100000) &&
     !(s.liveFlag (hbPage (k / 2) 7) Harbour.TR_ROOT_LO_EN) && decide (e.num 0x10 8 + e.num 0x18 4 ≤ s.memCapacity (k / 2)) &&
     decide (s.memCapacity (k / 2) ≤ 2 ^ 52) && decide (v.errs = []) && decide (e.lost = none) && decide (e.far = none) &&
     decide (s.tide.ended = none) && s.cplFull) &&
    (let i : Fin 256 := 0; let s : State := (awaiting (entry 0x13 (toBytesLE 8 64 ++ toBytesLE 4 5 ++ [3, 0])) true).memWrite 0 64 [1, 2, 3, 4, 5];
    let k : Nat := 0; let e : RingEntry := entry 0x13 (toBytesLE 8 64 ++ toBytesLE 4 5 ++ [3, 0]); let poly : Nat := e.num 0x1C 1;
    let got : Nat := crcEnd poly (crcOver poly (crcStart poly) (s.memRead (k / 2) (e.num 0x10 8) (min (e.num 0x18 4) 0x100000)));
     decide (s.serving = some k) && decide (s.nextStart = some e) && decide (e.index = i) && decide (e.opcode = 0x0013) &&
     decide (poly = e.num 0x1C 1) &&
     decide (got = crcEnd poly (crcOver poly (crcStart poly) (s.memRead (k / 2) (e.num 0x10 8) (min (e.num 0x18 4) 0x100000))))) &&
    (let i : Fin 256 := 0; let s : State := awaiting (entry 0x30 ([9, 0])) true; let k : Nat := 0; let e : RingEntry := entry 0x30 ([9, 0]);
     decide (s.serving = some k) && decide (s.nextStart = some e) && decide (e.index = i) && decide (e.opcode = 0x0030) &&
     decide (s.tide.ended = none) &&
     (s.cores.entries).all (fun x => !decide (x.index = e.num 0x10 1) || !decide (x.due = e.num 0x11 1) || decide (x.count = e.count))) &&
    (let i : Fin 256 := 0;
    let s : State := ringed { owner := some .host0, entries := [entry 0x30 [9, 0], { entry 0x12 with count := 9, bytes := some ([0x12, 0, 0, 0] ++ List.replicate 60 0) }] } true;
    let k : Nat := 0; let e : RingEntry := entry 0x30 [9, 0];
     decide (s.serving = some k) && decide (s.nextStart = some e) && decide (e.index = i) && decide (e.opcode = 0x0030) &&
     decide (s.tide.ended = none)) &&
    (let i : Fin 256 := 0;
    let s : State := ringed { owner := some .host0, entries := [entry 0x30 [9, 0], { entry 0x30 with count := 9, bytes := some ([0x30, 0, 0, 0] ++ List.replicate 60 0) }] } true;
    let k : Nat := 0; let e : RingEntry := entry 0x30 [9, 0];
     decide (s.serving = some k) && decide (s.nextStart = some e) && decide (e.index = i) && decide (e.opcode = 0x0030) &&
     decide (s.tide.ended = none)) &&
    (let i : Fin 256 := 0;
    let s : State := ringed { owner := some .host0, entries := [entry 0x30 [9, 0], { entry 0x12 with count := 9, bytes := some ([0x12, 0, 0, 5] ++ List.replicate 60 0) }] } true;
    let k : Nat := 0; let e : RingEntry := entry 0x30 [9, 0];
     decide (s.serving = some k) && decide (s.nextStart = some e) && decide (e.index = i) && decide (e.opcode = 0x0030) &&
     decide (s.tide.ended = none))) = true := by decide +kernel

/-- Witnesses of LoopsAndPoliciesRun. -/
theorem test_loopsAndPoliciesRun : (
    (let i : Fin 256 := 0; let s : State := awaiting (entry 0x20 ([3, 0, 0, 1] ++ toBytesLE 8 64 ++ List.replicate 36 0)) true; let k : Nat := 0;
    let e : RingEntry := entry 0x20 ([3, 0, 0, 1] ++ toBytesLE 8 64 ++ List.replicate 36 0); let x : Nat := e.num 0x10 1;
    let kind : Nat := e.num 0x11 1; let b : List Byte := s.memRead (k / 2) (e.num 0x14 8) 64;
     decide (s.serving = some k) && decide (s.nextStart = some e) && decide (e.index = i) && decide (e.opcode = 0x0020) &&
     decide (x = e.num 0x10 1) && decide (kind = e.num 0x11 1) && decide (b = s.memRead (k / 2) (e.num 0x14 8) 64) && decide (kind ≤ 1) &&
     decide (e.num 0x13 1 ≤ 63) && decide (e.num 0x12 1 = 0) && (s.cores.loops).all (fun l => decide (¬ (l.stream = x ∧ l.kind = kind)))) &&
    (let i : Fin 256 := 0;
    let s : State := { (awaiting (entry 0x20 ([3, 0, 0, 1] ++ toBytesLE 8 64 ++ List.replicate 36 0)) true).put loopPage ((loopOn 0).nth 3) 1 with cores := { owner := some .host0, entries := [entry 0x20 ([3, 0, 0, 1] ++ toBytesLE 8 64 ++ List.replicate 36 0)], loops := [{ stream := 3, kind := 0, group := 1, params := [] }] } };
    let k : Nat := 0; let e : RingEntry := entry 0x20 ([3, 0, 0, 1] ++ toBytesLE 8 64 ++ List.replicate 36 0); let x : Nat := e.num 0x10 1;
    let kind : Nat := e.num 0x11 1; let b : List Byte := s.memRead (k / 2) (e.num 0x14 8) 64;
     decide (s.serving = some k) && decide (s.nextStart = some e) && decide (e.index = i) && decide (e.opcode = 0x0020) &&
     decide (x = e.num 0x10 1) && decide (kind = e.num 0x11 1) && decide (b = s.memRead (k / 2) (e.num 0x14 8) 64) && decide (kind ≤ 1) &&
     decide (e.num 0x13 1 ≤ 63) && decide (e.num 0x12 1 = 0) && (s.cores.loops).any (fun l => (decide (l.stream = x) && decide (l.kind = kind)))) &&
    (let i : Fin 256 := 0;
    let s : State := { (awaiting (entry 0x20 ([3, 0, 1, 1] ++ toBytesLE 8 64 ++ List.replicate 36 0)) true) with cores := { owner := some .host0, entries := [entry 0x20 ([3, 0, 1, 1] ++ toBytesLE 8 64 ++ List.replicate 36 0)], loops := [{ stream := 3, kind := 0, group := 1, params := [] }] } };
    let k : Nat := 0; let e : RingEntry := entry 0x20 ([3, 0, 1, 1] ++ toBytesLE 8 64 ++ List.replicate 36 0); let x : Nat := e.num 0x10 1;
    let kind : Nat := e.num 0x11 1; let b : List Byte := s.memRead (k / 2) (e.num 0x14 8) 64;
     decide (s.serving = some k) && decide (s.nextStart = some e) && decide (e.index = i) && decide (e.opcode = 0x0020) &&
     decide (x = e.num 0x10 1) && decide (kind = e.num 0x11 1) && decide (b = s.memRead (k / 2) (e.num 0x14 8) 64) && decide (e.num 0x12 1 ≠ 0) &&
     decide (s.streamPlan x = none)) &&
    (let i : Fin 256 := 0; let v : MemView := {};
    let s : State := (live1 3 (awaiting (entry 0x20 ([3, 0, 1, 1] ++ toBytesLE 8 64 ++ List.replicate 36 0)) true)).memWrite 0 64 exposureParams;
    let k : Nat := 0; let e : RingEntry := entry 0x20 ([3, 0, 1, 1] ++ toBytesLE 8 64 ++ List.replicate 36 0); let x : Nat := e.num 0x10 1;
    let kind : Nat := e.num 0x11 1; let b : List Byte := s.memRead (k / 2) (e.num 0x14 8) 64;
     decide (s.serving = some k) && decide (s.nextStart = some e) && decide (e.index = i) && decide (e.opcode = 0x0020) &&
     decide (x = e.num 0x10 1) && decide (kind = e.num 0x11 1) && decide (b = s.memRead (k / 2) (e.num 0x14 8) 64) && decide (kind ≤ 1) &&
     decide (e.num 0x13 1 ≤ 63) && decide (e.num 0x12 1 = 1) && ((s.streamPlan x).isSome) && decide (e.num 0x14 8 % 64 = 0) &&
     (s.cores.loops).all (fun l => decide (¬ (l.stream = x ∧ l.kind = kind))) && decide (e.num 0x14 8 + 64 ≤ s.memCapacity (k / 2)) &&
     decide (s.memCapacity (k / 2) ≤ 2 ^ 52) && !(s.liveFlag (hbPage (k / 2) 7) Harbour.TR_ROOT_LO_EN) && decide (v.errs = []) &&
     (loopParamsOk kind b)) &&
    (let i : Fin 256 := 0; let v : MemView := {};
    let s : State := (live1 3 (awaiting (entry 0x20 ([3, 1, 1, 63] ++ toBytesLE 8 64 ++ List.replicate 36 0)) true)).memWrite 0 64 exposureParams;
    let k : Nat := 0; let e : RingEntry := entry 0x20 ([3, 1, 1, 63] ++ toBytesLE 8 64 ++ List.replicate 36 0); let x : Nat := e.num 0x10 1;
    let kind : Nat := e.num 0x11 1; let b : List Byte := s.memRead (k / 2) (e.num 0x14 8) 64;
     decide (s.serving = some k) && decide (s.nextStart = some e) && decide (e.index = i) && decide (e.opcode = 0x0020) &&
     decide (x = e.num 0x10 1) && decide (kind = e.num 0x11 1) && decide (b = s.memRead (k / 2) (e.num 0x14 8) 64) && decide (kind ≤ 1) &&
     decide (e.num 0x13 1 ≤ 63) && decide (e.num 0x12 1 = 1) && ((s.streamPlan x).isSome) && decide (e.num 0x14 8 % 64 = 0) &&
     (s.cores.loops).all (fun l => decide (¬ (l.stream = x ∧ l.kind = kind))) && decide (e.num 0x14 8 + 64 ≤ s.memCapacity (k / 2)) &&
     decide (s.memCapacity (k / 2) ≤ 2 ^ 52) && !(s.liveFlag (hbPage (k / 2) 7) Harbour.TR_ROOT_LO_EN) && decide (v.errs = []) &&
     !(loopParamsOk kind b)) &&
    (let i : Fin 256 := 0;
    let s : State := { live1 3 (awaiting (entry 0x20 ([3, 2, 0, 1] ++ toBytesLE 8 64 ++ List.replicate 36 0)) true) with cores := { owner := some .host0, entries := [entry 0x20 ([3, 2, 0, 1] ++ toBytesLE 8 64 ++ List.replicate 36 0)], loops := [] } };
    let k : Nat := 0; let e : RingEntry := entry 0x20 ([3, 2, 0, 1] ++ toBytesLE 8 64 ++ List.replicate 36 0); let x : Nat := e.num 0x10 1;
    let kind : Nat := e.num 0x11 1; let b : List Byte := s.memRead (k / 2) (e.num 0x14 8) 64;
     decide (s.serving = some k) && decide (s.nextStart = some e) && decide (e.index = i) && decide (e.opcode = 0x0020) &&
     decide (x = e.num 0x10 1) && decide (kind = e.num 0x11 1) && decide (b = s.memRead (k / 2) (e.num 0x14 8) 64) &&
     decide (e.num 0x12 1 = 0 ∨ (s.streamPlan x).isSome = true) && decide (1 < kind)) &&
    (let i : Fin 256 := 0;
    let s : State := { live1 3 (awaiting (entry 0x20 ([3, 0, 1, 1] ++ toBytesLE 8 64 ++ List.replicate 36 0)) true) with cores := { owner := some .host0, entries := [entry 0x20 ([3, 0, 1, 1] ++ toBytesLE 8 64 ++ List.replicate 36 0)], loops := [{ stream := 3, kind := 0, group := 1, params := [] }] } };
    let k : Nat := 0; let e : RingEntry := entry 0x20 ([3, 0, 1, 1] ++ toBytesLE 8 64 ++ List.replicate 36 0); let x : Nat := e.num 0x10 1;
    let kind : Nat := e.num 0x11 1; let b : List Byte := s.memRead (k / 2) (e.num 0x14 8) 64;
     decide (s.serving = some k) && decide (s.nextStart = some e) && decide (e.index = i) && decide (e.opcode = 0x0020) &&
     decide (x = e.num 0x10 1) && decide (kind = e.num 0x11 1) && decide (b = s.memRead (k / 2) (e.num 0x14 8) 64) && decide (kind ≤ 1) &&
     decide (e.num 0x13 1 ≤ 63) && decide (e.num 0x12 1 = 1) && ((s.streamPlan x).isSome) && decide (e.num 0x14 8 % 64 = 0) &&
     (s.cores.loops).any (fun l => (decide (l.stream = x) && decide (l.kind = kind))) && decide (e.num 0x14 8 < 2 ^ 52)) &&
    (let i : Fin 256 := 0; let s : State := awaiting (entry 0x21 (toBytesLE 4 0x80000001 ++ [3] ++ toBytesLE 2 10)) true; let k : Nat := 0;
    let e : RingEntry := entry 0x21 (toBytesLE 4 0x80000001 ++ [3] ++ toBytesLE 2 10);
     decide (s.serving = some k) && decide (s.nextStart = some e) && decide (e.index = i) && decide (e.opcode = 0x0021) && s.cplFull) &&
    (let i : Fin 256 := 0; let s : State := awaiting (entry 0x22 ([1, 2, 3, 0, 1, 4])) true; let k : Nat := 0;
    let e : RingEntry := entry 0x22 ([1, 2, 3, 0, 1, 4]);
     decide (s.serving = some k) && decide (s.nextStart = some e) && decide (e.index = i) && decide (e.opcode = 0x0022) &&
     decide (e.num 0x10 1 ≤ 1) && decide (e.num 0x14 1 ≤ 1) && s.cplFull) &&
    (let i : Fin 256 := 0; let s : State := awaiting (entry 0x22 ([2, 2, 3, 0, 1, 4])) true; let k : Nat := 0;
    let e : RingEntry := entry 0x22 ([2, 2, 3, 0, 1, 4]);
     decide (s.serving = some k) && decide (s.nextStart = some e) && decide (e.index = i) && decide (e.opcode = 0x0022) &&
     decide (1 < e.num 0x10 1) && s.cplFull) &&
    (let i : Fin 256 := 0; let s : State := awaiting (entry 0x22 ([0, 2, 3, 0, 2, 4])) true; let k : Nat := 0;
    let e : RingEntry := entry 0x22 ([0, 2, 3, 0, 2, 4]);
     decide (s.serving = some k) && decide (s.nextStart = some e) && decide (e.index = i) && decide (e.opcode = 0x0022) &&
     decide (e.num 0x10 1 ≤ 1) && decide (1 < e.num 0x14 1) && s.cplFull) &&
    (let x : Fin 160 := 3; let kind : Fin 2 := 0; let v : MemView := {};
    let s : State := (((live1 3 (ringed { loops := [{ stream := 3, kind := 0, group := 1, params := exposureParams, blk := some (4, 0, 9, false) }] })).memWrite 0 (16576 * 0) ([0, 12] ++ [0, 0] ++ toBytesLE 4 4 ++ toBytesLE 4 0)).memWrite 0 16448 (([100, 200, 200, 100]).flatMap (toBytesLE 2)));
    let l : LoopSt := { stream := 3, kind := 0, group := 1, params := exposureParams, blk := some (4, 0, 9, false) }; let seq : Nat := 4;
    let n : Nat := 0; let tide : Nat := 9; let base : Nat := 0; let c : Nat := 0; let late : Bool := false;
    let region : List Byte := (([100, 200, 200, 100]).flatMap (toBytesLE 2));
    let mean : Nat := loopMean ([0, 1, 2, 3].map fun k => fieldLE region (2 * k) 2);
    let head : List Byte := ([0, 12] ++ [0, 0] ++ toBytesLE 4 4 ++ toBytesLE 4 0);
    let good : Bool := ((fieldLE head 1 1).testBit 2 && !(fieldLE head 1 1).testBit 3 && fieldLE head 4 4 == seq && (kind.val != 0 || mean != 0));
     s.loopRunner.isSome && decide (s.cores.loops.find? (fun l => l.stream == x.val && l.kind == kind.val) = some l) &&
     decide (l.blk = some (seq, n, tide, late)) && !(s.cores.resume) && !(s.terminal) &&
     decide (c = ((s.tide.livePlan.bind fun p => p.contextOf n x).getD 0)) &&
     decide (base = s.live (covePage n 8) (Cove.STAT_BASE_HI_BASE.nth c) * 2 ^ 32 + s.live (covePage n 8) (Cove.STAT_BASE_LO_BASE.nth c) * 64 + 16576 * (seq % max 1 (s.live (covePage n 8) (Cove.STAT_CFG_SLOTS.nth c)))) &&
     !(s.liveFlag (hbPage (n / 8) 7) Harbour.TR_ROOT_LO_EN) && decide (base + 16448 + 32 * l.roi + 8 ≤ s.memCapacity (n / 8)) &&
     decide (v.errs = []) && decide (head = s.memRead (n / 8) base 12) && decide (region = s.memRead (n / 8) (base + 16448 + 32 * l.roi) 8) &&
     !(good)) &&
    (let x : Fin 160 := 3; let kind : Fin 2 := 1; let v : MemView := {};
    let s : State := (((live1 3 (ringed { loops := [{ stream := 3, kind := 1, group := 1, params := exposureParams, blk := some (4, 0, 9, false) }] })).memWrite 0 (16576 * 0) ([0, 4] ++ [0, 0] ++ toBytesLE 4 4 ++ toBytesLE 4 0)).memWrite 0 16448 (([100, 200, 200, 100]).flatMap (toBytesLE 2)));
    let l : LoopSt := { stream := 3, kind := 1, group := 1, params := exposureParams, blk := some (4, 0, 9, false) }; let seq : Nat := 4;
    let n : Nat := 0; let tide : Nat := 9; let base : Nat := 0; let c : Nat := 0; let late : Bool := false;
    let region : List Byte := (([100, 200, 200, 100]).flatMap (toBytesLE 2));
    let mean : Nat := loopMean ([0, 1, 2, 3].map fun k => fieldLE region (2 * k) 2);
    let head : List Byte := ([0, 4] ++ [0, 0] ++ toBytesLE 4 4 ++ toBytesLE 4 0);
    let good : Bool := ((fieldLE head 1 1).testBit 2 && !(fieldLE head 1 1).testBit 3 && fieldLE head 4 4 == seq && (kind.val != 0 || mean != 0));
     s.loopRunner.isSome && decide (s.cores.loops.find? (fun l => l.stream == x.val && l.kind == kind.val) = some l) &&
     decide (l.blk = some (seq, n, tide, late)) && !(s.cores.resume) && !(s.terminal) &&
     decide (c = ((s.tide.livePlan.bind fun p => p.contextOf n x).getD 0)) &&
     decide (base = s.live (covePage n 8) (Cove.STAT_BASE_HI_BASE.nth c) * 2 ^ 32 + s.live (covePage n 8) (Cove.STAT_BASE_LO_BASE.nth c) * 64 + 16576 * (seq % max 1 (s.live (covePage n 8) (Cove.STAT_CFG_SLOTS.nth c)))) &&
     !(s.liveFlag (hbPage (n / 8) 7) Harbour.TR_ROOT_LO_EN) && decide (base + 16448 + 32 * l.roi + 8 ≤ s.memCapacity (n / 8)) &&
     decide (v.errs = []) && decide (head = s.memRead (n / 8) base 12) && decide (region = s.memRead (n / 8) (base + 16448 + 32 * l.roi) 8) && good &&
     decide (kind.val = 1)) &&
    (let x : Fin 160 := 3; let kind : Fin 2 := 0; let v : MemView := {};
    let s : State := { (((live1 3 (ringed { loops := [{ stream := 3, kind := 0, group := 1, params := (List.replicate 2 0 ++ toBytesLE 2 0x200 ++ toBytesLE 2 16 ++ List.replicate 2 0 ++ List.replicate 4 0 ++ toBytesLE 4 100 ++ [1, 2] ++ toBytesLE 2 0x100 ++ toBytesLE 2 0x400 ++ List.replicate 42 1), blk := some (4, 0, 9, false) }] })).memWrite 0 0 ([0, 4] ++ [0, 0] ++ toBytesLE 4 4 ++ toBytesLE 4 0)).memWrite 0 16448 (([100, 200, 200, 100]).flatMap (toBytesLE 2))).puts ((List.range 64).map fun m => (jtPage 0, Jetty.MIR_CFG_DIR.nth m, 1)) with tide := {} };
    let l : LoopSt := { stream := 3, kind := 0, group := 1, params := (List.replicate 2 0 ++ toBytesLE 2 0x200 ++ toBytesLE 2 16 ++ List.replicate 2 0 ++ List.replicate 4 0 ++ toBytesLE 4 100 ++ [1, 2] ++ toBytesLE 2 0x100 ++ toBytesLE 2 0x400 ++ List.replicate 42 1), blk := some (4, 0, 9, false) };
    let seq : Nat := 4; let n : Nat := 0; let tide : Nat := 9; let c : Nat := ((s.tide.livePlan.bind fun p => p.contextOf n x).getD 0);
    let base : Nat := s.live (covePage n 8) (Cove.STAT_BASE_HI_BASE.nth c) * 2 ^ 32 + s.live (covePage n 8) (Cove.STAT_BASE_LO_BASE.nth c) * 64 + 16576 * (seq % max 1 (s.live (covePage n 8) (Cove.STAT_CFG_SLOTS.nth c)));
    let region : List Byte := s.memRead (n / 8) (base + 16448 + 32 * l.roi) 8;
    let mean : Nat := loopMean ([0, 1, 2, 3].map fun k => fieldLE region (2 * k) 2); let late : Bool := false;
    let head : List Byte := s.memRead (n / 8) base 12;
    let good : Bool := ((fieldLE head 1 1).testBit 2 && !(fieldLE head 1 1).testBit 3 && fieldLE head 4 4 == seq && (kind.val != 0 || mean != 0));
    let r : ExposureStep := l.exposureStep mean (s.fitCodes (x / 4)).1;
     s.loopRunner.isSome && decide (s.cores.loops.find? (fun l => l.stream == x.val && l.kind == kind.val) = some l) &&
     decide (l.blk = some (seq, n, tide, late)) && !(s.cores.resume) && !(s.terminal) &&
     decide (c = ((s.tide.livePlan.bind fun p => p.contextOf n x).getD 0)) &&
     decide (base = s.live (covePage n 8) (Cove.STAT_BASE_HI_BASE.nth c) * 2 ^ 32 + s.live (covePage n 8) (Cove.STAT_BASE_LO_BASE.nth c) * 64 + 16576 * (seq % max 1 (s.live (covePage n 8) (Cove.STAT_CFG_SLOTS.nth c)))) &&
     !(s.liveFlag (hbPage (n / 8) 7) Harbour.TR_ROOT_LO_EN) && decide (base + 16448 + 32 * l.roi + 8 ≤ s.memCapacity (n / 8)) &&
     decide (s.memCapacity (n / 8) ≤ 2 ^ 52) && decide (v.errs = []) && decide (head = s.memRead (n / 8) base 12) &&
     decide (region = s.memRead (n / 8) (base + 16448 + 32 * l.roi) 8) &&
     decide (mean = loopMean ([0, 1, 2, 3].map fun k => fieldLE region (2 * k) 2)) &&
     decide (good = ((fieldLE head 1 1).testBit 2 && !(fieldLE head 1 1).testBit 3 && fieldLE head 4 4 == seq && (kind.val != 0 || mean != 0))) &&
     decide (r = l.exposureStep mean (s.fitCodes (x / 4)).1) && good && !(s.planLive)) &&
    (let n : Fin 32 := 31;
    let s : State := { (lit.puts [(wePage 31, Weatas.LINK_STAT_STATE, 9), (wePage 31, Weatas.LANE_CFG_MODE_MAX, 1)]) with cores := { links := [(31, { flaps := 3, restoreS := 5, top := 3 })] } };
    let p : LinkPolicy := { flaps := 3, restoreS := 5, top := 3 };
     decide (p = SMap.get (fun _ => {}) s.cores.links n) && decide (p.flaps ≠ 0) && decide (s.linkState n = 9) &&
     decide (s.get (wePage n) Weatas.LANE_CFG_MODE_MAX < p.top) && !(s.terminal)) &&
    (let n : Fin 32 := 31;
    let s : State := { (lit.puts [(wePage 31, Weatas.LINK_STAT_STATE, 9), (wePage 31, Weatas.LANE_CFG_MODE_MAX, 1)]) with cores := {} };
    let p : LinkPolicy := {};
     decide (p = SMap.get (fun _ => {}) s.cores.links n) &&
     decide (p.flaps = 0 ∨ s.linkState n ≠ 9 ∨ p.top ≤ s.get (wePage n) Weatas.LANE_CFG_MODE_MAX ∨ s.terminal = true)) &&
    (let h : Fin 2 := 1; let s : State := (ringed { repairs := [] }).put 0x40 Seawall.SW_STAT_STATE_H1 4; let k : Nat := 0;
     decide (s.actingHalf.bind s.runner = some k) && s.cores.autoRepair && (s.halfFailed h) && !(s.power.repair.contains h.val) && !(s.terminal) &&
     decide ((s.cores.repairs.filter fun c => decide (s.time.c - c < 3600 * 10 ^ 9)).length < s.cores.repairMax)) &&
    (let h : Fin 2 := 1; let s : State := (ringed { repairs := [1, 2, 3, 4] }).put 0x40 Seawall.SW_STAT_STATE_H1 4; let k : Nat := 0;
     decide (s.actingHalf.bind s.runner = some k) && s.cores.autoRepair && (s.halfFailed h) && !(s.power.repair.contains h.val) && !(s.terminal) &&
     decide (s.cores.repairMax ≤ (s.cores.repairs.filter fun c => decide (s.time.c - c < 3600 * 10 ^ 9)).length)) &&
    (let h : Fin 2 := 1; let s : State := ringed {}; let k : Nat := 0;
     decide (s.actingHalf.bind s.runner = some k) &&
     decide (s.cores.autoRepair = false ∨ s.halfFailed h = false ∨ s.power.repair.contains h.val = true ∨ s.terminal = true))) = true := by decide +kernel

/-- Witnesses of SuppliesDomainsAndClocksFollow. -/
theorem test_suppliesDomainsAndClocksFollow : (
    (let orderBad : Bool := true; let s : State := State.reset;
     s.power.por && !(s.power.pinLow) && !(s.power.held) && orderBad) &&
    (let s : State := { State.reset with power := { pinLow := true } };
     s.power.por && decide (s.power.pinLow = true ∨ s.power.held = true)) &&
    (let s : State := lit;
     !(s.power.por)) &&
    (let r : Fin 9 := 0;
     decide (r.val = 0)) &&
    (let r : Fin 9 := 5; let s : State := lit;
     decide (r.val ≠ 0) && !(s.power.por) && decide (s.power.asleep = false ∨ removable r = false)) &&
    (let r : Fin 9 := 8; let s : State := { lit with power := { inReset := false, por := false, asleep := true } };
     decide (r.val ≠ 0) && decide (s.power.por = true ∨ (s.power.asleep = true ∧ removable r = true))) &&
    (let need : Nat := 600;
    let s : State := { lit.puts [(0x2, Chip.AVS_CTRL_EN, 1), (0x2, Chip.AVS_CTRL_MARGIN_MV, 20), (0x2, Chip.AVS_STAT_VACK_MV, 700), (0x8, Chip.BOOT_STAT_STATE, 3)] with power := { inReset := false, por := false } };
    let v : Nat := s.get 0x2 Chip.AVS_STAT_VACK_MV; let want : Nat := max 650 (min (ceilDiv (need + s.get 0x2 Chip.AVS_CTRL_MARGIN_MV) 5 * 5) 850);
     decide (v = s.get 0x2 Chip.AVS_STAT_VACK_MV) && decide (want = max 650 (min (ceilDiv (need + s.get 0x2 Chip.AVS_CTRL_MARGIN_MV) 5 * 5) 850)) &&
     (s.flag 0x2 Chip.AVS_CTRL_EN) && !(s.power.inReset) && !(s.power.asleep) && !(s.power.avsStopped) && decide (s.power.avsCommand = none) &&
     decide (s.get 0x8 Chip.BOOT_STAT_STATE = 3) && decide (want < v) && s.avsMayFall) &&
    (let need : Nat := 733;
    let s : State := { lit.puts [(0x2, Chip.AVS_CTRL_EN, 1), (0x2, Chip.AVS_CTRL_MARGIN_MV, 20), (0x2, Chip.AVS_STAT_VACK_MV, 700), (0x8, Chip.BOOT_STAT_STATE, 3)] with power := { inReset := false, por := false } };
    let v : Nat := s.get 0x2 Chip.AVS_STAT_VACK_MV; let want : Nat := max 650 (min (ceilDiv (need + s.get 0x2 Chip.AVS_CTRL_MARGIN_MV) 5 * 5) 850);
     decide (v = s.get 0x2 Chip.AVS_STAT_VACK_MV) && decide (want = max 650 (min (ceilDiv (need + s.get 0x2 Chip.AVS_CTRL_MARGIN_MV) 5 * 5) 850)) &&
     (s.flag 0x2 Chip.AVS_CTRL_EN) && !(s.power.inReset) && !(s.power.asleep) && !(s.power.avsStopped) && decide (s.power.avsCommand = none) &&
     decide (s.get 0x8 Chip.BOOT_STAT_STATE = 3) && decide (v < want)) &&
    (let need : Nat := 733; let s : State := lit.put 0x2 Chip.AVS_CTRL_EN 0; let v : Nat := s.get 0x2 Chip.AVS_STAT_VACK_MV;
    let want : Nat := max 650 (min (ceilDiv (need + s.get 0x2 Chip.AVS_CTRL_MARGIN_MV) 5 * 5) 850);
     decide (v = s.get 0x2 Chip.AVS_STAT_VACK_MV) && decide (want = max 650 (min (ceilDiv (need + s.get 0x2 Chip.AVS_CTRL_MARGIN_MV) 5 * 5) 850)) &&
     decide (s.flag 0x2 Chip.AVS_CTRL_EN = false ∨ s.power.inReset = true ∨ s.power.asleep = true)) &&
    (let need : Nat := 680;
    let s : State := { (lit.put 0x8 Chip.BOOT_STAT_STATE 3).puts [(0x2, Chip.AVS_CTRL_EN, 1), (0x2, Chip.AVS_CTRL_MARGIN_MV, 20), (0x2, Chip.AVS_STAT_VACK_MV, 700)] with power := { inReset := false, por := false } };
    let v : Nat := s.get 0x2 Chip.AVS_STAT_VACK_MV; let want : Nat := max 650 (min (ceilDiv (need + s.get 0x2 Chip.AVS_CTRL_MARGIN_MV) 5 * 5) 850);
     decide (v = s.get 0x2 Chip.AVS_STAT_VACK_MV) && decide (want = max 650 (min (ceilDiv (need + s.get 0x2 Chip.AVS_CTRL_MARGIN_MV) 5 * 5) 850)) &&
     (s.flag 0x2 Chip.AVS_CTRL_EN) && !(s.power.inReset) && !(s.power.asleep) && !(s.power.avsStopped) && decide (s.power.avsCommand = none) &&
     decide (s.get 0x8 Chip.BOOT_STAT_STATE = 3) && decide (v = want ∨ (want < v ∧ s.avsMayFall = false))) &&
    (let need : Nat := 680;
    let s : State := { (lit).puts [(0x2, Chip.AVS_CTRL_EN, 1), (0x2, Chip.AVS_CTRL_MARGIN_MV, 20), (0x2, Chip.AVS_STAT_VACK_MV, 700)] with power := { inReset := false, por := false } };
    let v : Nat := s.get 0x2 Chip.AVS_STAT_VACK_MV; let want : Nat := max 650 (min (ceilDiv (need + s.get 0x2 Chip.AVS_CTRL_MARGIN_MV) 5 * 5) 850);
     decide (v = s.get 0x2 Chip.AVS_STAT_VACK_MV) && decide (want = max 650 (min (ceilDiv (need + s.get 0x2 Chip.AVS_CTRL_MARGIN_MV) 5 * 5) 850)) &&
     (s.flag 0x2 Chip.AVS_CTRL_EN) && !(s.power.inReset) && !(s.power.asleep) &&
     decide (s.power.avsStopped = true ∨ s.power.avsCommand.isSome = true ∨ s.get 0x8 Chip.BOOT_STAT_STATE ≠ 3)) &&
    (let s : State := { lit.puts [(0x2, Chip.AVS_CTRL_EN, 1), (0x8, Chip.BOOT_STAT_STATE, 3)] with power := { inReset := false, por := false } };
     decide (s.power.avsCommand = none)) &&
    (let req : Requester := .host0; let d : Fin 96 := 0; let w : Word := 0x80000000; let s : State := lit;
     (s.serves req (regOff 0x3 (Chip.PD_CTRL_REQ.nth d))) && !(isSystemDomain d) &&
     decide (w.getLsbD 31 = true ∨ s.flag 0x3 (Chip.PD_CTRL_REQ.nth d) = false ∨ s.planHolds d = false ∨ s.pwrReq d noPage = true)) &&
    (let req : Requester := .host0; let d : Fin 96 := 81; let w : Word := 0x80000000; let s : State := lit;
     (s.serves req (regOff 0x3 (Chip.PD_CTRL_REQ.nth d))) &&
     decide (isSystemDomain d = true ∨ (w.getLsbD 31 = false ∧ s.flag 0x3 (Chip.PD_CTRL_REQ.nth d) = true ∧ s.planHolds d = true ∧ s.pwrReq d noPage = false))) &&
    (let req : Requester := .host0; let pg : Fin 0x1400 := 0x401; let w : Word := 4; let s : State := lit;
    let r : PageRef := ((pageRef 0x401).getD ⟨.chip, 0, 0⟩);
     (s.serves req (regOff pg Hdr.CTRL_PWR_REQ)) && decide (pageRef pg = some r) && r.block.ownsDomain &&
     decide (w.getLsbD 2 = true ∨ s.flag r.base Hdr.CTRL_PWR_REQ = false ∨ s.planHolds r.domain = false ∨ s.flag 0x3 (Chip.PD_CTRL_REQ.nth r.domain) = true ∨ s.pwrReq r.domain r.base = true)) &&
    (let req : Requester := .host0; let pg : Fin 0x1400 := 0x0; let s : State := lit.put 0x0 Hdr.CTRL_PWR_REQ 1;
    let r : PageRef := ((pageRef 0x0).getD ⟨.chip, 0, 0⟩);
     (s.serves req (regOff pg Hdr.CTRL_PWR_REQ)) && decide (pageRef pg = some r) && !(r.block.ownsDomain)) &&
    (let req : Requester := .host0; let pg : Fin 0x1400 := 0x400; let w : Word := 0; let s : State := (live1 0 lit).put 0x400 Hdr.CTRL_PWR_REQ 1;
    let r : PageRef := ((pageRef 0x400).getD ⟨.chip, 0, 0⟩);
     (s.serves req (regOff pg Hdr.CTRL_PWR_REQ)) && decide (pageRef pg = some r) && r.block.ownsDomain && !(w.getLsbD 2) &&
     (s.flag r.base Hdr.CTRL_PWR_REQ) && (s.planHolds r.domain) && !(s.flag 0x3 (Chip.PD_CTRL_REQ.nth r.domain)) && !(s.pwrReq r.domain r.base)) &&
    (let d : Fin 96 := 3; let s : State := { State.reset with power := { inReset := false, por := false, down := [3] } };
     !(s.power.up.contains d.val) && (s.power.down.contains d.val) && !(s.powered d) &&
     decide (s.power.up.contains d.val = true ∨ s.power.down.contains d.val = true)) &&
    (let d : Fin 96 := 3; let s : State := lit;
     !(s.power.up.contains d.val) && !(s.power.down.contains d.val)) &&
    (let d : Fin 96 := 88;
    let s : State := { State.reset.put 0x3 (Chip.PD_CTRL_REQ.nth 88) 1 with power := { inReset := false, por := false, up := [88] } };
     (s.power.up.contains d.val) && (s.wanted.contains d.val) && decide (87 ≤ d.val) && decide (d.val < 95) &&
     decide (s.power.up.contains d.val = true ∨ s.power.down.contains d.val = true)) &&
    (let d : Fin 96 := 33;
    let s : State := { State.reset.put 0x3 (Chip.PD_CTRL_REQ.nth 33) 1 with power := { inReset := false, por := false, up := [33] } };
     (s.power.up.contains d.val) && (s.wanted.contains d.val) && decide (s.power.up.contains d.val = true ∨ s.power.down.contains d.val = true)) &&
    (let d : Fin 96 := 3; let s : State := lit;
     !(s.power.up.contains d.val) && !(s.power.down.contains d.val)) &&
    (let d : Fin 96 := 0;
    let s : State := { State.reset.put 0x11 Tidemark.PLAN_STATE_STATE 2 with power := { inReset := false, por := false, up := [0] }, tide := { staged := some (planOf [strm 0] [⟨128, 0, 0, 0⟩]) } };
     decide (s.power.up.contains d.val = true ∨ s.power.down.contains d.val = true) && !(s.powered d)) &&
    (let d : Fin 96 := 3; let s : State := lit;
     (s.powered d) && !(s.wanted.contains d.val)) &&
    (let d : Fin 96 := 3; let s : State := lit.put 0x3 (Chip.PD_CTRL_REQ.nth 3) 1;
     (s.powered d) && (s.wanted.contains d.val) && decide (d.val < 81 ∨ (89 ≤ d.val ∧ d.val < 95))) &&
    (let d : Fin 96 := 3; let s : State := State.reset;
     !(s.powered d)) &&
    (let d : Fin 96 := 88; let s : State := lit;
     (s.powered d) && (s.wanted.contains d.val) && decide (81 ≤ d.val ∧ d.val < 89 ∨ d.val = 95)) &&
    (let d : Fin 96 := 89; let s : State := lit.put 0x3 (Chip.PD_CTRL_REQ.nth 89) 1;
     (s.powered d) && (s.wanted.contains d.val) && decide (d.val < 81 ∨ (89 ≤ d.val ∧ d.val < 95)) && decide (89 ≤ d.val) && decide (d.val < 95)) &&
    (let ok : Bool := true; let s : State := lit.puts [(0x5, Chip.CLK_REF_PPB_PPB, 0x7FFFFFFF), (0x5, Hdr.FLT_STAT_FAULT, 15)];
     decide (s.flag 0x5 Chip.CLK_STAT_REF_OK ≠ ok) && !(s.refOutside)) &&
    (let s : State := lit.puts [(0x5, Chip.CLK_STAT_REF_OK, 1), (tmPage, Tidemark.DOM_STAT_STATE.nth 0, 3), (tmPage, Tidemark.RATE_RATE.nth 0, 0x7FFFFFFF)];
     s.refOutside) &&
    (let s : State := lit.put 0x5 Chip.CLK_REF_PPB_PPB 0x7FFFFFFF;
     !(s.refOutside)) &&
    (let s : State := lit.puts [(tmPage, Tidemark.DOM_STAT_STATE.nth 0, 3), (tmPage, Tidemark.RATE_RATE.nth 0, 0x7FFFFFFF)];
     s.refOutside) &&
    (let i : Fin 8 := 0; let s : State := lit;
     !(s.pllLocked i)) &&
    (let i : Fin 8 := 7; let s : State := lit.put 0x5 Chip.CLK_STAT_LOCKED 255;
     (s.pllLocked i) && (s.powered (87 + i.val))) &&
    (let i : Fin 8 := 2;
    let s : State := { ((trained 0 []).puts [(0x5, Chip.CLK_STAT_LOCKED, 255), (pcPage 0 0, Pcie.PCIE_STAT_SPEED, 5), (pcPage 0 0, Pcie.PCIE_STAT_LTSSM, 4), (macPage 0 0, Mac.MAC_STAT_LINK, 1), (macPage 1 0, Mac.MAC_STAT_LINK, 1), (wePage 3, Weatas.LINK_STAT_STATE, 9)]) with pcie := [(0, { perst := false })], csiTx := [(1, { wire := [{ bytes := [1], slot := 0 }] })] };
     (s.pllLocked i) && (s.powered (87 + i.val))) &&
    (let i : Fin 8 := 4;
    let s : State := { ((trained 0 []).puts [(0x5, Chip.CLK_STAT_LOCKED, 255), (pcPage 0 0, Pcie.PCIE_STAT_SPEED, 5), (pcPage 0 0, Pcie.PCIE_STAT_LTSSM, 4), (macPage 0 0, Mac.MAC_STAT_LINK, 1), (macPage 1 0, Mac.MAC_STAT_LINK, 1), (wePage 3, Weatas.LINK_STAT_STATE, 9)]) with pcie := [(0, { perst := false })], csiTx := [(1, { wire := [{ bytes := [1], slot := 0 }] })] };
     (s.pllLocked i) && (s.powered (87 + i.val))) &&
    (let i : Fin 8 := 5;
    let s : State := { ((trained 0 []).puts [(0x5, Chip.CLK_STAT_LOCKED, 255), (pcPage 0 0, Pcie.PCIE_STAT_SPEED, 5), (pcPage 0 0, Pcie.PCIE_STAT_LTSSM, 4), (macPage 0 0, Mac.MAC_STAT_LINK, 1), (macPage 1 0, Mac.MAC_STAT_LINK, 1), (wePage 3, Weatas.LINK_STAT_STATE, 9)]) with pcie := [(0, { perst := false })], csiTx := [(1, { wire := [{ bytes := [1], slot := 0 }] })] };
     (s.pllLocked i) && (s.powered (87 + i.val))) &&
    (let i : Fin 8 := 6;
    let s : State := { ((trained 0 []).puts [(0x5, Chip.CLK_STAT_LOCKED, 255), (pcPage 0 0, Pcie.PCIE_STAT_SPEED, 5), (pcPage 0 0, Pcie.PCIE_STAT_LTSSM, 4), (macPage 0 0, Mac.MAC_STAT_LINK, 1), (macPage 1 0, Mac.MAC_STAT_LINK, 1), (wePage 3, Weatas.LINK_STAT_STATE, 9)]) with pcie := [(0, { perst := false })], csiTx := [(1, { wire := [{ bytes := [1], slot := 0 }] })] };
     (s.pllLocked i) && (s.powered (87 + i.val))) &&
    (let i : Fin 8 := 0; let s : State := lit.put 0x5 Chip.CLK_STAT_LOCKED 255;
     decide (s.pllLocked i = true ∨ s.powered (87 + i.val) = false)) &&
    (let i : Fin 8 := 4;
    let s : State := { lit.puts [(0x5, Chip.CLK_STAT_LOCKED, 239), (0x5, Chip.CLK_STAT_PCIE_REF_OK, 1)] with pcie := [(0, { perst := false })] };
     !(s.pllLocked i) && (s.powered (87 + i.val)))) = true := by decide +kernel

/-- Witnesses of SoftwareResetsAndTapHolds. -/
theorem test_softwareResetsAndTapHolds : (
    (let req : Requester := .host0; let s : State := lit;
     (s.serves req (regOff 0x7 Chip.RST_SW_ARM))) &&
    (let req : Requester := .host0;
    let s : State := { { lit with time := { c := 5000 } } with power := { inReset := false, por := false, swArm := some (.host0, 4500) } };
     (s.serves req (regOff 0x7 Chip.RST_SW_GO))) &&
    (let req : Requester := .host0;
    let s : State := { { lit with time := { c := 5000 } } with power := { inReset := false, por := false, swArm := some (.host0, 3999) } };
     (s.serves req (regOff 0x7 Chip.RST_SW_GO)) && s.power.swArm.all (fun e => e.1 != req || decide (1000 < s.time.c - e.2))) &&
    (let s : State := { lit with due := [.chipReset 6] };
     decide (Due.chipReset 6 ∈ s.due)) &&
    (let op : Fin 256 := 1; let s : State := { lit with power := { inReset := true, por := false, held := true } };
     decide (op.val ∉ [0x03, 0x04, 0x05, 0x06, 0x07]) && s.power.held && !(s.power.por) && !(s.power.pinLow)) &&
    (let op : Fin 256 := 1; let s : State := { lit with power := { inReset := true, por := false, held := false } };
     decide (op.val ∉ [0x03, 0x04, 0x05, 0x06, 0x07]) && !(s.power.held)) &&
    (let op : Fin 256 := 3;
     decide (op.val ∈ [0x03, 0x04, 0x05, 0x06, 0x07])) &&
    (let s : State := { lit with power := { inReset := true, por := false, held := true } };
     s.power.held && !(s.power.por) && !(s.power.pinLow)) &&
    (let s : State := { lit with power := { inReset := true, por := false, held := false } };
     !(s.power.held)) &&
    (let s : State := { { lit with power := { inReset := false, por := false, held := true } } with due := [.pulse 1, .chipReset 3] };
    let c : Nat := 3;
     decide (Due.chipReset c ∈ s.due) && s.power.held)) = true := by decide +kernel

/-- Witnesses of ChipResetsStartAndEnd. -/
theorem test_chipResetsStartAndEnd : (
    (let s : State := lit;
     !(s.power.pinLow)) &&
    (let s : State := { lit with power := { inReset := false, por := false, pinLow := true } };
     s.power.pinLow) &&
    (let s : State := { lit with power := { inReset := true, por := false, pinLow := true } };
     s.power.pinLow && !(s.power.por) && !(s.power.held)) &&
    (let s : State := { lit with power := { inReset := true, por := false, pinLow := true, held := true } };
     s.power.pinLow && decide (s.power.por = true ∨ s.power.held = true)) &&
    (let s : State := { lit with power := { inReset := true, por := false, held := false } };
     !(s.power.pinLow)) &&
    (let s : State := { (ringed {}).puts [(0x20, Breakwater.BW_STAT_TERMINAL, 1), (0x7, Chip.RST_COUNT_COUNT, 0xFFFFFFFF)] with due := [.pulse 1, .chipReset 3], pending := [.bootDone] };
    let c : Nat := 3;
     decide (Due.chipReset c ∈ s.due) && decide (c ≤ 6) && s.due.all (fun d => match d with | .chipReset d => decide (c ≤ d) | _ => true) &&
     !(s.power.por) && !(s.power.pinLow) && !(s.power.held) && s.terminal) &&
    (let s : State := { (lit.puts [(0x7, Chip.RST_CAUSE_PIN, 1), (0x7, Chip.RST_CAUSE_UV, 1), (bwPage, Breakwater.BW_STAT_TERMINAL, 0)]) with power := { por := true }, due := [.chipReset 4, .chipReset 2] };
    let c : Nat := 2;
     decide (Due.chipReset c ∈ s.due) && decide (c ≤ 6) && s.due.all (fun d => match d with | .chipReset d => decide (c ≤ d) | _ => true) &&
     decide (s.power.por = true ∨ s.power.pinLow = true ∨ s.power.held = true)) &&
    (let s : State := lit;
     s.due.isEmpty)) = true := by decide +kernel

/-- Witnesses of BootAppliesImagesAndSleepKeepsMemory. -/
theorem test_bootAppliesImagesAndSleepKeepsMemory : (
    (let s : State := booting;
     s.bootMayStart) &&
    (let s : State := lit;
     !(s.bootMayStart)) &&
    (let head : List Byte := header; let certOk : Bool := true; let sigOk : Bool := true; let s : State := booting.put 0x8 Chip.BOOT_NEXT_NEXT_B 1;
    let t : State := after (.bootStart head certOk sigOk) s;
     s.bootMayStart && decide (headerError head certOk sigOk (s.flag 0x8 Chip.BOOT_STAT_HMODE) = none) && (t.flag 0x8 Chip.BOOT_STAT_SLOT)) &&
    (let s : State := { ((trained 0 [(Harbour.HB_INIT_FRONT, 5), (Harbour.HB_CAP_DATA_MIB, 2)]).put (hbPage 0 0) Harbour.HB_INIT_FRONT 100).put 0x8 Chip.BOOT_STAT_STATE 2 with boot := { reading := true, segs := [⟨0x2000, 16, 1, true⟩, ⟨0x2040, 8, 2, true⟩], applied := 0 } };
    let i : Nat := s.boot.applied;
     decide (i = s.boot.applied)) &&
    (let s : State := { ((trained 0 [(Harbour.HB_INIT_FRONT, 5), (Harbour.HB_CAP_DATA_MIB, 2)]).put (hbPage 0 0) Harbour.HB_INIT_FRONT 100).put 0x8 Chip.BOOT_STAT_STATE 2 with boot := { reading := true, segs := [⟨0x2000, 16, 1, true⟩, ⟨0x2040, 8, 2, true⟩], applied := 0 } };
    let i : Nat := s.boot.applied;
     decide (i = s.boot.applied)) &&
    (let s : State := { ((lit.put 0 Chip.CHIP_CFG_HOST_MODE 1).put (hbPage 0 0) Harbour.HB_INIT_FRONT 100).put 0x8 Chip.BOOT_STAT_STATE 2 with boot := { reading := true, segs := [⟨0x2000, 16, 1, true⟩, ⟨0x2040, 8, 2, true⟩], applied := 0 } };
    let i : Nat := s.boot.applied;
     decide (i = s.boot.applied)) &&
    (let s : State := { ((trained 0 [(Harbour.HB_INIT_FRONT, 5), (Harbour.HB_CAP_DATA_MIB, 2)]).put (hbPage 0 0) Harbour.HB_INIT_FRONT 100).put 0x8 Chip.BOOT_STAT_STATE 2 with boot := { reading := true, segs := [⟨0x2000, 16, 1, true⟩, ⟨0x2040, 8, 2, true⟩], applied := 0 } };
    let i : Nat := s.boot.applied;
     decide (i = s.boot.applied)) &&
    (let s : State := { ((trained 0 [(Harbour.HB_INIT_FRONT, 5), (Harbour.HB_CAP_DATA_MIB, 2)]).put (hbPage 0 0) Harbour.HB_INIT_FRONT 100).put 0x8 Chip.BOOT_STAT_STATE 2 with boot := { reading := true, segs := [⟨0x2000, 16, 1, false⟩, ⟨0x2040, 8, 2, true⟩], applied := 0 } };
    let i : Nat := s.boot.applied;
     decide (i = s.boot.applied)) &&
    (let s : State := { ((trained 0 [(Harbour.HB_INIT_FRONT, 5), (Harbour.HB_CAP_DATA_MIB, 2)]).put (hbPage 0 0) Harbour.HB_INIT_FRONT 100).put 0x8 Chip.BOOT_STAT_STATE 2 with boot := { reading := true, segs := [⟨0x2000, 16, 2, true⟩, ⟨0x2040, 8, 2, true⟩], applied := 0 } };
    let i : Nat := s.boot.applied;
     decide (i = s.boot.applied)) &&
    (let s : State := { ((trained 0 [(Harbour.HB_INIT_FRONT, 5), (Harbour.HB_CAP_DATA_MIB, 2)]).put (hbPage 0 0) Harbour.HB_INIT_FRONT 100).put 0x8 Chip.BOOT_STAT_STATE 2 with boot := { reading := true, segs := [⟨0x2000, 16, 1, true⟩, ⟨0x2000, 20, 3, true⟩], applied := 1 }, harbours := [(0, { goWritten := true })] };
    let i : Nat := s.boot.applied;
     decide (i = s.boot.applied)) &&
    (let s : State := { ((trained 0 [(Harbour.HB_INIT_FRONT, 5), (Harbour.HB_CAP_DATA_MIB, 2)]).put (hbPage 0 0) Harbour.HB_INIT_FRONT 100).put 0x8 Chip.BOOT_STAT_STATE 2 with boot := { reading := true, segs := [⟨0x2000, 16, 1, true⟩, ⟨0x2000, 20, 3, true⟩], applied := 1 } };
    let i : Nat := s.boot.applied;
     decide (i = s.boot.applied)) &&
    (let s : State := { ((trained 0 [(Harbour.HB_INIT_FRONT, 5), (Harbour.HB_CAP_DATA_MIB, 2)]).put (hbPage 0 0) Harbour.HB_INIT_FRONT 100).put 0x8 Chip.BOOT_STAT_STATE 2 with boot := { reading := true, segs := [⟨0x2000, 16, 1, true⟩, ⟨0x2000, 20, 3, true⟩], applied := 1 }, harbours := [(0, { goWritten := true })] };
    let i : Nat := s.boot.applied;
     decide (i = s.boot.applied)) &&
    (let s : State := { ((trained 0 [(Harbour.HB_INIT_FRONT, 5), (Harbour.HB_CAP_DATA_MIB, 2)]).put (hbPage 0 0) Harbour.HB_INIT_FRONT 100).put 0x8 Chip.BOOT_STAT_STATE 2 with boot := { reading := true, segs := [⟨0x2000, 16, 1, true⟩, ⟨0x2000, 208, 5, true⟩], applied := 1 }, harbours := [(0, { goWritten := true })] };
    let i : Nat := s.boot.applied;
     decide (i = s.boot.applied)) &&
    (let s : State := { ((trained 0 [(Harbour.HB_INIT_FRONT, 5), (Harbour.HB_CAP_DATA_MIB, 2)]).put (hbPage 0 0) Harbour.HB_INIT_FRONT 100).put 0x8 Chip.BOOT_STAT_STATE 2 with boot := { reading := true, segs := [⟨0x2000, 16, 1, true⟩, ⟨0x2000, 8, 2, true⟩], applied := 1 } };
    let i : Nat := s.boot.applied;
     decide (i = s.boot.applied)) &&
    (let s : State := { ((trained 0 [(Harbour.HB_INIT_FRONT, 5), (Harbour.HB_CAP_DATA_MIB, 2)]).put (hbPage 0 0) Harbour.HB_INIT_FRONT 100).put 0x8 Chip.BOOT_STAT_STATE 2 with boot := { reading := true, segs := [⟨0x2000, 16, 1, true⟩, ⟨0x2000, 12, 2, true⟩], applied := 1 } };
    let i : Nat := s.boot.applied;
     decide (i = s.boot.applied)) &&
    (let s : State := { ((trained 0 [(Harbour.HB_INIT_FRONT, 5), (Harbour.HB_CAP_DATA_MIB, 2)]).put (hbPage 0 0) Harbour.HB_INIT_FRONT 100).put 0x8 Chip.BOOT_STAT_STATE 2 with boot := { reading := true, segs := [⟨0x2000, 16, 1, true⟩, ⟨0x2000, 24, 4, true⟩], applied := 1 } };
    let i : Nat := s.boot.applied;
     decide (i = s.boot.applied)) &&
    (let s : State := { ((trained 0 [(Harbour.HB_INIT_FRONT, 5), (Harbour.HB_CAP_DATA_MIB, 2)]).put (hbPage 0 0) Harbour.HB_INIT_FRONT 100).put 0x8 Chip.BOOT_STAT_STATE 2 with boot := { reading := true, segs := [⟨0x2000, 16, 1, true⟩, ⟨0x2000, 12, 4, true⟩], applied := 1 } };
    let i : Nat := s.boot.applied;
     decide (i = s.boot.applied)) &&
    (let s : State := { ((trained 0 [(Harbour.HB_INIT_FRONT, 5), (Harbour.HB_CAP_DATA_MIB, 2)]).put (hbPage 0 0) Harbour.HB_INIT_FRONT 100).put 0x8 Chip.BOOT_STAT_STATE 2 with boot := { reading := true, segs := [⟨0x2000, 16, 1, true⟩, ⟨0x2000, 32, 6, true⟩], applied := 1 } };
    let i : Nat := s.boot.applied;
     decide (i = s.boot.applied)) &&
    (let s : State := { ((trained 0 [(Harbour.HB_INIT_FRONT, 5), (Harbour.HB_CAP_DATA_MIB, 2)]).put (hbPage 0 0) Harbour.HB_INIT_FRONT 100).put 0x8 Chip.BOOT_STAT_STATE 2 with boot := { reading := true, segs := [⟨0x2000, 16, 1, true⟩, ⟨0x2000, 32, 6, true⟩], applied := 1 } };
    let i : Nat := s.boot.applied;
     decide (i = s.boot.applied)) &&
    (let s : State := { ((trained 0 [(Harbour.HB_INIT_FRONT, 5), (Harbour.HB_CAP_DATA_MIB, 2)]).put (hbPage 0 0) Harbour.HB_INIT_FRONT 100).put 0x8 Chip.BOOT_STAT_STATE 2 with boot := { reading := true, segs := [⟨0x2000, 16, 1, true⟩, ⟨0x2000, 32, 6, true⟩], applied := 1 } };
    let i : Nat := s.boot.applied;
     decide (i = s.boot.applied)) &&
    (let s : State := lit; let i : Nat := s.boot.applied;
     decide (i = s.boot.applied) && decide (s.bootState ≠ 2 ∨ s.boot.failed.isSome = true ∨ s.boot.segs[i]? = none)) &&
    (let s : State := { lit.put 0x8 Chip.BOOT_STAT_STATE 2 with boot := { reading := true }, time := { c := 123456 } };
     decide (s.bootState = 2) && decide (s.boot.failed = none) && decide (s.boot.segs.length ≤ s.boot.applied)) &&
    (let s : State := { lit.put 0x8 Chip.BOOT_STAT_STATE 2 with boot := { reading := true, segs := [⟨0x2000, 16, 1, true⟩] } };
     decide (s.bootState ≠ 2 ∨ s.boot.failed.isSome = true ∨ s.boot.applied < s.boot.segs.length)) &&
    (let flash : Bool := false;
    let s : State := { lit.puts [(0x8, Chip.BOOT_STAT_STATE, 2), (0x8, Chip.BOOT_STAT_SLOT, 0), (0x20, Breakwater.BW_STAT_TERMINAL, 0)] with boot := { reading := true, applied := 0, failed := some 7 } };
    let e : Nat := 7;
    let b : Bool := (if s.bootMayStart = true then s.boot.fallback || s.flag 0x8 Chip.BOOT_NEXT_NEXT_B else s.flag 0x8 Chip.BOOT_STAT_SLOT);
     decide (s.boot.failed = some e ∨ (s.boot.failed = none ∧ flash = true ∧ (s.bootMayStart = true ∨ s.bootState = 2) ∧ e = 9)) &&
     decide (b = (if s.bootMayStart = true then s.boot.fallback || s.flag 0x8 Chip.BOOT_NEXT_NEXT_B else s.flag 0x8 Chip.BOOT_STAT_SLOT)) &&
     decide (e ≠ 10) && decide (s.boot.applied = 0) && !(b)) &&
    (let flash : Bool := false;
    let s : State := { lit.puts [(0x8, Chip.BOOT_STAT_STATE, 2), (0x8, Chip.BOOT_STAT_SLOT, 0), (0x20, Breakwater.BW_STAT_TERMINAL, 0)] with boot := { reading := true, applied := 1, failed := some 7 } };
    let e : Nat := 7;
    let b : Bool := (if s.bootMayStart = true then s.boot.fallback || s.flag 0x8 Chip.BOOT_NEXT_NEXT_B else s.flag 0x8 Chip.BOOT_STAT_SLOT);
     decide (s.boot.failed = some e ∨ (s.boot.failed = none ∧ flash = true ∧ (s.bootMayStart = true ∨ s.bootState = 2) ∧ e = 9)) &&
     decide (b = (if s.bootMayStart = true then s.boot.fallback || s.flag 0x8 Chip.BOOT_NEXT_NEXT_B else s.flag 0x8 Chip.BOOT_STAT_SLOT)) &&
     decide (e ≠ 10) && decide (s.boot.applied ≠ 0) && !(b) && !(s.terminal)) &&
    (let flash : Bool := false;
    let s : State := { lit.puts [(0x8, Chip.BOOT_STAT_STATE, 2), (0x8, Chip.BOOT_STAT_SLOT, 1), (0x20, Breakwater.BW_STAT_TERMINAL, 0)] with boot := { reading := true, applied := 0, failed := some 7 } };
    let e : Nat := 7;
    let b : Bool := (if s.bootMayStart = true then s.boot.fallback || s.flag 0x8 Chip.BOOT_NEXT_NEXT_B else s.flag 0x8 Chip.BOOT_STAT_SLOT);
     decide (s.boot.failed = some e ∨ (s.boot.failed = none ∧ flash = true ∧ (s.bootMayStart = true ∨ s.bootState = 2) ∧ e = 9)) &&
     decide (b = (if s.bootMayStart = true then s.boot.fallback || s.flag 0x8 Chip.BOOT_NEXT_NEXT_B else s.flag 0x8 Chip.BOOT_STAT_SLOT)) &&
     decide (e ≠ 10) && b && !(s.terminal) && decide (s.boot.applied = 0)) &&
    (let flash : Bool := false;
    let s : State := { lit.puts [(0x8, Chip.BOOT_STAT_STATE, 2), (0x8, Chip.BOOT_STAT_SLOT, 0), (0x20, Breakwater.BW_STAT_TERMINAL, 0)] with boot := { reading := true, applied := 0, failed := some 10 } };
    let e : Nat := 10;
    let b : Bool := (if s.bootMayStart = true then s.boot.fallback || s.flag 0x8 Chip.BOOT_NEXT_NEXT_B else s.flag 0x8 Chip.BOOT_STAT_SLOT);
     decide (s.boot.failed = some e ∨ (s.boot.failed = none ∧ flash = true ∧ (s.bootMayStart = true ∨ s.bootState = 2) ∧ e = 9)) &&
     decide (b = (if s.bootMayStart = true then s.boot.fallback || s.flag 0x8 Chip.BOOT_NEXT_NEXT_B else s.flag 0x8 Chip.BOOT_STAT_SLOT)) &&
     decide (e = 10)) &&
    (let flash : Bool := false;
    let s : State := { lit.puts [(0x8, Chip.BOOT_STAT_STATE, 2), (0x8, Chip.BOOT_STAT_SLOT, 0), (0x20, Breakwater.BW_STAT_TERMINAL, 1)] with boot := { reading := true, applied := 1, failed := some 9 } };
    let e : Nat := 9;
    let b : Bool := (if s.bootMayStart = true then s.boot.fallback || s.flag 0x8 Chip.BOOT_NEXT_NEXT_B else s.flag 0x8 Chip.BOOT_STAT_SLOT);
     decide (s.boot.failed = some e ∨ (s.boot.failed = none ∧ flash = true ∧ (s.bootMayStart = true ∨ s.bootState = 2) ∧ e = 9)) &&
     decide (b = (if s.bootMayStart = true then s.boot.fallback || s.flag 0x8 Chip.BOOT_NEXT_NEXT_B else s.flag 0x8 Chip.BOOT_STAT_SLOT)) &&
     decide (e ≠ 10) && decide (s.boot.applied ≠ 0 ∨ b = true) && s.terminal) &&
    (let flash : Bool := false; let s : State := lit;
     decide (s.boot.failed = none) && decide (flash = false ∨ (s.bootMayStart = false ∧ s.bootState ≠ 2))) &&
    (let req : Requester := .host0; let s : State := lit;
     (s.serves req (regOff 0x2 Chip.PM_CTRL_SLEEP_GO)) && decide (s.pmState = 0) &&
     decide (s.planState = 0 ∨ (s.planState = 3 ∧ s.tide.stagedCaptured = true))) &&
    (let req : Requester := .host0; let s : State := lit.put 0x2 Chip.PM_STAT_STATE 2;
     (s.serves req (regOff 0x2 Chip.PM_CTRL_SLEEP_GO)) && decide (s.pmState ≠ 0)) &&
    (let req : Requester := .host0; let s : State := { lit.put 0x11 Tidemark.PLAN_STATE_STATE 2 with tide := { staged := some (planOf [] []) } };
     (s.serves req (regOff 0x2 Chip.PM_CTRL_SLEEP_GO)) && decide (s.pmState = 0) && decide (s.planState ≠ 0) &&
     decide (s.planState ≠ 3 ∨ s.tide.stagedCaptured = false)) &&
    (let s : State := lit;
     decide (s.pmState ≠ 1 ∨ s.drainedForSleep = false)) &&
    (let s : State := (trained 0 []).put 0x2 Chip.PM_STAT_STATE 1;
     decide (s.pmState = 1) && s.drainedForSleep) &&
    (let s : State := lit.puts [(0x2, Chip.PM_STAT_STATE, 1), (0x2, Chip.PM_CTRL_SLEEP_GO, 1)];
     decide (s.pmState = 1)) &&
    (let s : State := lit;
     decide (s.pmState ≠ 1)) &&
    (let timer : Bool := true;
    let s : State := { lit.puts [(0x2, Chip.PM_STAT_STATE, 2), (0x2, Chip.PM_WAKE_TIMER_EN, 1), (0x2, Chip.PM_WAKE_WAKE_N_EN, 1), (0x2, Chip.PM_CTRL_REPLAN, 1), (0x2, Chip.SUP_STAT_IN_WINDOW, 0x1FF), (tmPage, Tidemark.DOM_CFG_EN.nth 1, 1)] with power := { inReset := true, por := false, asleep := true } };
    let on : Bool := (if timer then s.flag 0x2 Chip.PM_WAKE_TIMER_EN else s.flag 0x2 Chip.PM_WAKE_WAKE_N_EN);
     decide (on = (if timer then s.flag 0x2 Chip.PM_WAKE_TIMER_EN else s.flag 0x2 Chip.PM_WAKE_WAKE_N_EN)) && on && s.power.asleep) &&
    (let timer : Bool := true; let s : State := lit.puts [(0x2, Chip.PM_WAKE_TIMER_EN, 0), (0x2, Chip.PM_WAKE_WAKE_N_EN, 0)];
    let on : Bool := (if timer then s.flag 0x2 Chip.PM_WAKE_TIMER_EN else s.flag 0x2 Chip.PM_WAKE_WAKE_N_EN);
     decide (on = (if timer then s.flag 0x2 Chip.PM_WAKE_TIMER_EN else s.flag 0x2 Chip.PM_WAKE_WAKE_N_EN)) && !(on) && !(s.power.asleep) &&
     decide (timer = true ∨ s.pmState ≠ 1)) &&
    (let timer : Bool := false;
    let s : State := { lit.puts [(0x2, Chip.PM_STAT_STATE, 1), (0x2, Chip.PM_WAKE_TIMER_EN, 1), (0x2, Chip.PM_WAKE_WAKE_N_EN, 1), (0x2, Chip.PM_CTRL_REPLAN, 1), (0x2, Chip.SUP_STAT_IN_WINDOW, 0x1FF)] with power := { inReset := false, por := false, asleep := false } };
    let on : Bool := (if timer then s.flag 0x2 Chip.PM_WAKE_TIMER_EN else s.flag 0x2 Chip.PM_WAKE_WAKE_N_EN);
     decide (on = (if timer then s.flag 0x2 Chip.PM_WAKE_TIMER_EN else s.flag 0x2 Chip.PM_WAKE_WAKE_N_EN)) && on && !(s.power.asleep) && !(timer) &&
     decide (s.pmState = 1))) = true := by decide +kernel

/-- Witnesses of SensorsBallsAndCopiesAreWatched. -/
theorem test_sensorsBallsAndCopiesAreWatched : (
    (let v : List Int := (List.replicate 12 40000); let s : State := lit;
     !(s.power.inReset) && !(s.power.asleep) && (List.range (12)).all (fun k => decide (plausible (v.getD k 0) = false))) &&
    (let s : State := { lit with power := { inReset := false, por := false }, pins := { reach := [1, 1, 1] } };
     !(s.power.inReset) && !(s.power.asleep)) &&
    (let s : State := { lit with power := { inReset := false, por := false }, pins := { leave := [1, 1, 1], reached := [true, true, true] } };
     !(s.power.inReset) && !(s.power.asleep)) &&
    (let s : State := { lit with power := { inReset := true } };
     decide (s.power.inReset = true ∨ s.power.asleep = true)) &&
    (let req : Requester := .host0; let i : Fin 48 := 0; let w : Word := 0x20000000; let s : State := lit.put 0xA (Chip.GPIO_CFG_FUNC.nth 1) 2;
    let f : Nat := w.toNat / 2 ^ 28; let n : Nat := w.toNat / 2 ^ 24 % 8;
     (s.serves req (regOff 0xA (Chip.GPIO_CFG_FUNC.nth i))) && decide (f = w.toNat / 2 ^ 28) && decide (n = w.toNat / 2 ^ 24 % 8) &&
     decide (6 < f ∨ s.ballTakes i f n = false)) &&
    (let req : Requester := .host0; let i : Fin 48 := 5; let w : Word := 0x10000000;
    let s : State := { lit.puts [(0xA, Chip.GPIO_CFG_FUNC.nth 5, 2), (0xA, Chip.GPIO_CFG_FIDX.nth 5, 3)] with csiRx := [(3, { pulse := some (1, 2) })] };
    let f : Nat := w.toNat / 2 ^ 28; let n : Nat := w.toNat / 2 ^ 24 % 8;
     (s.serves req (regOff 0xA (Chip.GPIO_CFG_FUNC.nth i))) && decide (f = w.toNat / 2 ^ 28) && decide (n = w.toNat / 2 ^ 24 % 8) && decide (f ≤ 6) &&
     (s.ballTakes i f n) && decide (f ≠ 2) && decide (s.get 0xA (Chip.GPIO_CFG_FUNC.nth i) = 2)) &&
    (let i : Fin 48 := 40; let level : Bool := true; let past : Bool := true;
    let s : State := { lit.puts [(0xA, Chip.GPIO_CFG_FUNC.nth 40, 2), (0xA, Chip.GPIO_CFG_FIDX.nth 40, 3), (rxPage 3, CsiRx.LFS_CFG_EN, 1), (rxPage 3, CsiRx.LFS_CFG_OD, 0)] with csiRx := [(3, { pulse := none })] };
    let f : Nat := s.get 0xA (Chip.GPIO_CFG_FUNC.nth i); let n : Nat := s.get 0xA (Chip.GPIO_CFG_FIDX.nth i);
    let bad : Bool → Bool → Bool := (fun drive od => if od = true then drive && !true else drive != true || true);
     decide (f = s.get 0xA (Chip.GPIO_CFG_FUNC.nth i)) && decide (n = s.get 0xA (Chip.GPIO_CFG_FIDX.nth i)) &&
     [false, true].all (fun drive => [false, true].all (fun od => bad drive od == (if od then drive && !level else drive != level || past))) &&
     !(s.terminal) && !(s.power.asleep) && !(s.flag 0xA (Chip.GPIO_CFG_OFF.nth i)) && decide (f = 2) && (s.lfsDrives n) &&
     (bad (s.lfsLevel n) (s.flag (rxPage n) CsiRx.LFS_CFG_OD)) && !(s.flag (rxPage n) CsiRx.LFS_CFG_OD)) &&
    (let i : Fin 48 := 40; let level : Bool := true; let past : Bool := true;
    let s : State := { lit.puts [(0xA, Chip.GPIO_CFG_FUNC.nth 40, 2), (0xA, Chip.GPIO_CFG_FIDX.nth 40, 3), (rxPage 3, CsiRx.LFS_CFG_EN, 1), (rxPage 3, CsiRx.LFS_CFG_OD, 1)] with csiRx := [(3, { pulse := none })] };
    let f : Nat := s.get 0xA (Chip.GPIO_CFG_FUNC.nth i); let n : Nat := s.get 0xA (Chip.GPIO_CFG_FIDX.nth i);
    let bad : Bool → Bool → Bool := (fun drive od => if od = true then drive && !true else drive != true || true);
     decide (f = s.get 0xA (Chip.GPIO_CFG_FUNC.nth i)) && decide (n = s.get 0xA (Chip.GPIO_CFG_FIDX.nth i)) &&
     [false, true].all (fun drive => [false, true].all (fun od => bad drive od == (if od then drive && !level else drive != level || past))) &&
     !(s.terminal) && !(s.power.asleep) && !(s.flag 0xA (Chip.GPIO_CFG_OFF.nth i)) &&
     decide ((f ≠ 1 ∧ f ≠ 2) ∨ (f = 1 ∧ (s.gpioBit Chip.GPIO_OE_OE i = false ∨ bad (s.gpioBit Chip.GPIO_OUT_OUT i) (s.flag 0xA (Chip.GPIO_CFG_OD.nth i)) = false)) ∨ (f = 2 ∧ (s.lfsDrives n = false ∨ bad (s.lfsLevel n) (s.flag (rxPage n) CsiRx.LFS_CFG_OD) = false)))) &&
    (let i : Fin 48 := 40; let level : Bool := true; let past : Bool := true;
    let s : State := lit.puts [(0xA, Chip.GPIO_CFG_FUNC.nth 40, 1), (0xB, Chip.GPIO_OE_OE.nth 1, 0x100), (0xB, Chip.GPIO_OUT_OUT.nth 1, 0x100)];
    let f : Nat := s.get 0xA (Chip.GPIO_CFG_FUNC.nth i); let n : Nat := s.get 0xA (Chip.GPIO_CFG_FIDX.nth i);
    let bad : Bool → Bool → Bool := (fun drive od => if od = true then drive && !true else drive != true || true);
     decide (f = s.get 0xA (Chip.GPIO_CFG_FUNC.nth i)) && decide (n = s.get 0xA (Chip.GPIO_CFG_FIDX.nth i)) &&
     [false, true].all (fun drive => [false, true].all (fun od => bad drive od == (if od then drive && !level else drive != level || past))) &&
     !(s.terminal) && !(s.power.asleep) && !(s.flag 0xA (Chip.GPIO_CFG_OFF.nth i)) && decide (f = 1) && (s.gpioBit Chip.GPIO_OE_OE i) &&
     (bad (s.gpioBit Chip.GPIO_OUT_OUT i) (s.flag 0xA (Chip.GPIO_CFG_OD.nth i)))) &&
    (let i : Fin 48 := 5; let level : Bool := true; let past : Bool := false;
    let s : State := (lit.put 0xA (Chip.GPIO_CFG_OFF.nth 5) 1).puts [(0xA, Chip.GPIO_CFG_FUNC.nth 5, 1), (0xB, Chip.GPIO_OE_OE.nth 0, 0x20)];
    let f : Nat := s.get 0xA (Chip.GPIO_CFG_FUNC.nth i); let n : Nat := s.get 0xA (Chip.GPIO_CFG_FIDX.nth i);
    let bad : Bool → Bool → Bool := (fun drive od => if od = true then drive && !true else drive != true || false);
     decide (f = s.get 0xA (Chip.GPIO_CFG_FUNC.nth i)) && decide (n = s.get 0xA (Chip.GPIO_CFG_FIDX.nth i)) &&
     [false, true].all (fun drive => [false, true].all (fun od => bad drive od == (if od then drive && !level else drive != level || past))) &&
     decide (s.terminal = true ∨ s.power.asleep = true ∨ s.flag 0xA (Chip.GPIO_CFG_OFF.nth i) = true)) &&
    (let u : CopiedUnit := .crossbar; let failing : Option (Fin 2) := none; let s : State := lit;
     decide (u ≠ .controllers) && !(s.fault.dropped.contains u.code) && decide (failing = none)) &&
    (let u : CopiedUnit := .crossbar; let s : State := { lit.put 0 Chip.CHIP_CFG_HOST_MODE 1 with fault := { dropped := [1] } };
     decide (u ≠ .controllers) && (s.fault.dropped.contains u.code)) &&
    (let u : CopiedUnit := .crossbar; let failing : Option (Fin 2) := some 0; let s : State := lit;
     decide (u ≠ .controllers) && !(s.fault.dropped.contains u.code) && decide (failing ≠ none)) &&
    (let u : CopiedUnit := .controllers; let failing : Option (Fin 2) := none; let s : State := lit;
     decide (u = .controllers) && s.controllersCompared && decide (failing = none)) &&
    (let u : CopiedUnit := .controllers; let s : State := { lit.put 0 Chip.CHIP_CFG_HOST_MODE 1 with fault := { dropped := [1] } };
     decide (u = .controllers) && !(s.controllersCompared)) &&
    (let u : CopiedUnit := .controllers; let s : State := lit;
     decide (u = .controllers) && s.controllersCompared)) = true := by decide +kernel

end Tests

end Sys2Proof
end

section
/-!
PROOFS. Reads of the time words of Tidemark page 0 (R9, R396, R420): which register each is, what a read of one answers, what the first one
captures, and what the twelve words say of C, P and the domain times.
-/
namespace Sys2Proof.Machine

/-! ## Captures of multi-register values (R9) -/

theorem State.captured_emit (s : State) (o : Out) (req : Requester) (first off : Nat) :
    (s.emit o).captured req first off = s.captured req first off := rfl

/-- A requester's words of a value are the last ones captured for it. -/
theorem State.captured_holdCapture_same (s : State) (req : Requester) (first off : Nat) (words : List Nat) :
    (s.holdCapture req first words).captured req first off = words[(off - first) / 4]? := by
  simp [State.captured, State.holdCapture]

/-- A capture is its requester's alone. -/
theorem State.captured_holdCapture_other (s : State) {req other : Requester} (h : other ≠ req) (at_ : Nat) (words : List Nat)
    (first off : Nat) : (s.holdCapture req at_ words).captured other first off = s.captured other first off := by
  have hkeep : ∀ c : WordCapture, ((c.req != req || c.off != at_) = true ∧ (c.req == other && c.off == first) = true) ↔
      (c.req == other && c.off == first) = true := by
    intro c
    by_cases hc : c.req = other
    · simp [hc, h]
    · simp [hc]
  simp only [State.captured, State.holdCapture, List.find?_cons, beq_eq_false_iff_ne.mpr h.symm, Bool.false_and, List.find?_filter, hkeep,
    Bool.decide_eq_true]

/-- The read of a value's lowest word answers it and captures all of them. -/
theorem State.readValue_first (s : State) (req : Requester) (off : Nat) (now : State → List Nat × State) (cur : State → Nat × State)
    (h : 1 < (now s).1.length) :
    s.readValue req off off now cur = ((now s).1.headD 0, (now s).2.holdCapture req off (now s).1) := by
  simp [State.readValue, Nat.not_le.mpr h]

/-- The read of a higher word answers what was captured and changes nothing. -/
theorem State.readValue_captured {s : State} {req : Requester} {off first v : Nat} {now : State → List Nat × State}
    {cur : State → Nat × State} (hne : off ≠ first) (hv : s.captured req first off = some v) :
    s.readValue req off first now cur = (v, s) := by
  simp [State.readValue, hne, hv]

/-! ## A served read of one word -/

/-- An aligned 32-bit read that reaches its unit, outside the remote windows, answers the word and nothing else leaves the device. -/
theorem exec_multiwordCaptureRead_word {s : State} {req : Requester} {off : Fin 0x4000000} (header : Nat)
    (hserved : s.servesRead req off = true) (hremote : remoteWord off = none) (haligned : off.val % 4 = 0) :
    exec (.multiwordCaptureRead req off 2 header) s =
      .next ((s.readWord req off).2.emit (.readData req off [(s.readWord req off).1 % 2 ^ 32])) := by
  obtain ⟨hreach, hcause⟩ : s.reaches req = true ∧ s.accessCause false off 4 = none := by simpa [State.servesRead] using hserved
  change execMultiwordCaptureRead req off 2 header s = _
  simp [execMultiwordCaptureRead, hreach, hcause, hremote, State.readAccess, haligned]

/-! ## The time words as registers (R396, R420) -/

/-- Tidemark page 0 as a page. -/
def timePage : PageRef := ⟨.tidemark, 0, 0⟩

theorem tripleWord_lt (v i : Nat) : tripleWord v i < 2 ^ 32 := by
  unfold tripleWord
  split <;> exact Nat.mod_lt _ (by decide)

theorem State.timeWord_lt (s : State) (i : Nat) : s.timeWord i < 2 ^ 32 := tripleWord_lt _ _

/-- Each time word is one field that fills its register. -/
theorem timePage_field : ∀ i < 12, (timePage.at_ (0x040 + 4 * i)).map (fun f => (f.size, f.lo)) = [(2 ^ 32, 0)] := by decide

/-- The twelve registers are one value. -/
theorem timePage_spanOf : ∀ i < 12, timePage.spanOf (0x040 + 4 * i) = some (0x040, 12) := by decide

theorem State.mirror_timePage (s : State) {i : Nat} (hi : i < 12) (lo : Nat) :
    s.mirror timePage (0x040 + 4 * i) lo = some (s.timeWord i) := by
  have hin : 0x040 + 4 * i < 0x070 := by omega
  simp [State.mirror, timePage, hin]

theorem State.readReg_timePage (s : State) {i : Nat} (hi : i < 12) (live : Bool) :
    s.readReg timePage (0x040 + 4 * i) live = (s.timeWord i, s) := by
  obtain ⟨f, hf, hsize, hlo⟩ : ∃ f, timePage.at_ (0x040 + 4 * i) = [f] ∧ f.size = 2 ^ 32 ∧ f.lo = 0 := by
    simpa [List.map_eq_singleton_iff] using timePage_field i hi
  have hreg : s.readReg timePage (0x040 + 4 * i) live = s.readFields timePage (0x040 + 4 * i) live [f] := by
    rw [← hf]; simp [State.readReg, timePage]
  have hfield : s.readField timePage (0x040 + 4 * i) live f = (s.timeWord i, s) := by
    rw [State.readField, s.mirror_timePage hi, hsize]
    simp only [Nat.mod_eq_of_lt (s.timeWord_lt i)]
  simp [hreg, State.readFields, hfield, hlo]

/-- A run of time words is sampled in one state, and reading it uses nothing up. -/
theorem State.readWords_timePage (s : State) (live : Bool) (n : Nat) {i : Nat} (h : i + n ≤ 12) :
    s.readWords timePage live n (0x040 + 4 * i) = ((List.range' i n).map s.timeWord, s) := by
  induction n generalizing i with
  | zero => rfl
  | succ n ih =>
    have hnext : s.readWords timePage live n (0x040 + 4 * i + 4) = ((List.range' (i + 1) n).map s.timeWord, s) :=
      ih (i := i + 1) (by omega)
    simp [State.readWords, s.readReg_timePage (show i < 12 by omega), hnext, List.range'_succ]

/-- A read of time word i is a read of word i of the value that begins at TM_CNT_LO. -/
theorem State.readWord_timePage (s : State) (req : Requester) {off i : Nat} (hi : i < 12) (hoff : off = 0x10040 + 4 * i) :
    s.readWord req off = s.readValue req off 0x10040 (fun s => ((List.range 12).map s.timeWord, s)) (fun s => (s.timeWord i, s)) := by
  subst hoff
  have hpage : (0x10040 + 4 * i) / 0x1000 = 0x10 := by omega
  have hreg : (0x10040 + 4 * i) % 0x800 / 4 * 4 = 0x040 + 4 * i := by omega
  have halign : (0x10040 + 4 * i) / 4 * 4 = 0x10040 + 4 * i := by omega
  have hfirst : 0x10040 + 4 * i - (0x040 + 4 * i - 0x040) = 0x10040 := by omega
  have hhead : isHeaderOff (0x10040 + 4 * i) = false := by simp [isHeaderOff]; omega
  have hpop : ∀ (s : State) o, s.popAt timePage o = none := fun _ _ => rfl
  have hall : ∀ (s : State) live, s.readWords timePage live 12 0x040 = ((List.range 12).map s.timeWord, s) := fun s live => by
    simpa [List.range_eq_range'] using s.readWords_timePage live 12 (i := 0) (by decide)
  have hjob : inJobWindow 0x10 = false := by decide
  have href : pageRef 0x10 = some timePage := by decide
  simp only [State.readWord, hpage, hreg, halign, hhead, hjob, href, hpop, timePage_spanOf i hi, hfirst, hall, State.readReg_timePage _ hi,
    Bool.false_eq_true, if_false]

/-- The time words lie in no Jetty's remote window. -/
theorem remoteWord_timePage {off i : Nat} (hi : i < 12) (hoff : off = 0x10040 + 4 * i) : remoteWord off = none := by
  have hpage : off / 0x1000 = 0x10 := by omega
  simp [remoteWord, hpage, pageRef]

/-- A read of TM_CNT_LO answers C's low word and captures all twelve words. -/
theorem State.readWord_timePage_first (s : State) (req : Requester) :
    s.readWord req 0x10040 = (s.timeWord 0, s.holdCapture req 0x10040 ((List.range 12).map s.timeWord)) := by
  have hhead : ∀ f : Nat → Nat, ((List.range 12).map f).headD 0 = f 0 := fun _ => rfl
  rw [s.readWord_timePage req (i := 0) (by decide) (by omega), s.readValue_first _ _ _ _ (by simp), hhead]

/-- A read of a later time word answers the captured one and captures nothing. -/
theorem State.readWord_timePage_captured (s : State) (req : Requester) {off i v : Nat} (hpos : 0 < i) (hi : i < 12)
    (hoff : off = 0x10040 + 4 * i) (hv : s.captured req 0x10040 off = some v) : s.readWord req off = (v, s) := by
  rw [s.readWord_timePage req hi hoff, s.readValue_captured (by omega) hv]

/-! ## What the words say (R396, R420) -/

/-- LO, HI and FRAC of a 64.32 value make up the value. -/
theorem tripleWord_join (v : Nat) : (tripleWord v 0 + tripleWord v 1 * 2 ^ 32) * 2 ^ 32 + tripleWord v 2 = v % 2 ^ 96 := by
  simp only [tripleWord]
  omega

/-- The values of the twelve words, three words each: C, P and the times of domains A and B, all at the count of one cycle. -/
def State.timeValue (s : State) (i : Nat) : Nat :=
  [s.time.c * 2 ^ 32, s.activeTime (s.time.c * 2 ^ 32), s.domainTime 0 (s.time.c * 2 ^ 32), s.domainTime 1 (s.time.c * 2 ^ 32)].getD i 0

theorem State.timeWord_triple (s : State) {i j : Nat} (hi : i < 4) (hj : j < 3) : s.timeWord (3 * i + j) = tripleWord (s.timeValue i) j := by
  have hdiv : (3 * i + j) / 3 = i := by omega
  have hmod : (3 * i + j) % 3 = j := by omega
  rw [State.timeWord, hdiv, hmod]
  interval_cases i <;> rfl

theorem State.timeWords_join (s : State) {i : Nat} (hi : i < 4) :
    (s.timeWord (3 * i) + s.timeWord (3 * i + 1) * 2 ^ 32) * 2 ^ 32 + s.timeWord (3 * i + 2) = s.timeValue i % 2 ^ 96 := by
  have hlo : s.timeWord (3 * i) = tripleWord (s.timeValue i) 0 := s.timeWord_triple (j := 0) hi (by decide)
  rw [hlo, s.timeWord_triple hi (by decide), s.timeWord_triple hi (by decide), tripleWord_join]

/-! ## The read command at the time words -/

/-- The first read samples all twelve words in one state and holds them for its requester. -/
theorem exec_read_timeWord_first {s : State} {req : Requester} {off : Fin 0x4000000} (header : Nat) (hoff : off.val = 0x10040)
    (hserved : s.servesRead req 0x10040 = true) :
    exec (.multiwordCaptureRead req off 2 header) s =
      .next ((s.holdCapture req 0x10040 ((List.range 12).map s.timeWord)).emit (.readData req 0x10040 [s.timeWord 0])) := by
  have hremote : remoteWord off = none := remoteWord_timePage (i := 0) (by decide) (by omega)
  rw [exec_multiwordCaptureRead_word header (by rwa [hoff]) hremote (by omega), hoff, s.readWord_timePage_first,
    Nat.mod_eq_of_lt (s.timeWord_lt 0)]

/-- A later read finds its word among the captured ones and changes nothing. -/
theorem exec_read_timeWord_captured {s : State} {req : Requester} {off : Fin 0x4000000} {i v : Nat} (header : Nat) (hpos : 0 < i)
    (hi : i < 12) (hoff : off.val = 0x10040 + 4 * i) (hserved : s.servesRead req off = true)
    (hcap : s.captured req 0x10040 off = some v) (hv : v < 2 ^ 32) :
    exec (.multiwordCaptureRead req off 2 header) s = .next (s.emit (.readData req off [v])) := by
  rw [exec_multiwordCaptureRead_word header hserved (remoteWord_timePage hi hoff) (by omega),
    s.readWord_timePage_captured req hpos hi hoff hcap, Nat.mod_eq_of_lt hv]

/-- Settles O7: the first read's next state holds the twelve words of one state for the requester alone, a later read's is the state
before it, and LO, HI and FRAC of each triple make up its value. -/
theorem timeWordsAreCapturedTogether : Obligations.TimeWordsAreCapturedTogether := by
  refine ⟨?first, ?later, fun s i hi => s.timeWords_join hi⟩
  case first =>
    intro req off header s hoff hserved
    refine ⟨_, exec_read_timeWord_first header hoff hserved, ?words, rfl, ?others, rfl, .of_harbours rfl, rfl, rfl⟩
    case words =>
      intro i hi
      simp [State.captured_emit, State.captured_holdCapture_same, hi]
    case others =>
      intro other first a hother
      rw [State.captured_emit, s.captured_holdCapture_other hother]
  case later =>
    intro req off header i v s hpos hi hoff hserved hcap hv
    exact ⟨_, exec_read_timeWord_captured header hpos hi hoff hserved hcap hv, rfl, rfl, rfl, .of_harbours rfl⟩

end Sys2Proof.Machine
end

section
/-!
PROOFS. The interrupts of the control cores: the best eligible processor and the pointer that breaks ties (R510, R511), and a word of SET
that names no source (R526).
-/
namespace Sys2Proof.Machine

/-! ## What a judgement of a fault condition leaves alone -/

/-- A fault condition that appears writes FLT_STAT of its page and no other field. -/
theorem State.get_raise_other (s : State) {pg pg' : Nat} {g : Field} (b : Nat) (h : fieldKey pg Hdr.FLT_STAT_FAULT ≠ fieldKey pg' g) :
    (s.raise pg b).get pg' g = s.get pg' g := by
  unfold State.raise
  split
  · rfl
  · simp [State.occur, State.get_put_other _ _ h]

/-- A fault condition that goes writes FLT_STAT of its page and no other field. -/
theorem State.get_lower_other (s : State) {pg pg' : Nat} {g : Field} (b : Nat) (h : fieldKey pg Hdr.FLT_STAT_FAULT ≠ fieldKey pg' g) :
    (s.lower pg b).get pg' g = s.get pg' g := by
  simp only [State.lower]
  split
  · split <;> simp [State.get_put_other _ _ h]
  · rfl

theorem State.get_cond_other (s : State) {pg pg' : Nat} {g : Field} (b : Nat) (p : Bool)
    (h : fieldKey pg Hdr.FLT_STAT_FAULT ≠ fieldKey pg' g) : (s.cond pg b p).get pg' g = s.get pg' g := by
  cases p
  · exact s.get_lower_other b h
  · exact s.get_raise_other b h

/-- The Beacon's conditions are judged on FLT_STAT of its page 0 alone. -/
theorem State.get_judgeBeacon_other (s : State) {pg : Nat} {g : Field} (h : fieldKey bcnPage Hdr.FLT_STAT_FAULT ≠ fieldKey pg g) :
    s.judgeBeacon.get pg g = s.get pg g := by
  simp only [State.judgeBeacon, State.get_cond_other _ _ _ h]

/-- Taking a free value leaves the registers alone. -/
theorem State.get_fresh (s : State) (pg : Nat) (g : Field) : s.fresh.2.get pg g = s.get pg g := rfl

/-! ## The best eligible processor (R511) -/

/-- The four processors from the pointer on. -/
def State.rotation (s : State) : List Nat :=
  let p := s.get bcnPage Beacon.BCN_STAT_POINTER
  [p, p + 1, p + 2, p + 3].map (· % 4)

/-- How many processors after the pointer processor k comes. -/
def State.turn (s : State) (k : Nat) : Nat := (k + 4 - s.get bcnPage Beacon.BCN_STAT_POINTER % 4) % 4

theorem State.mem_rotation (s : State) (k : Nat) : k ∈ s.rotation ↔ k < 4 := by
  simp only [State.rotation, List.map_cons, List.map_nil, List.mem_cons, List.not_mem_nil, or_false]
  omega

/-- The rotation lists the processors in the order of their turns. -/
theorem State.rotation_pairwise_turn (s : State) : s.rotation.Pairwise (fun j k => s.turn j < s.turn k) := by
  simp only [State.rotation, State.turn, List.map_cons, List.map_nil, List.pairwise_cons, List.mem_cons, List.not_mem_nil, or_false,
    forall_eq_or_imp, forall_eq, List.Pairwise.nil, false_imp_iff, implies_true, and_true]
  omega

/-- The choice is the first minimum of the running priority over the eligible processors in rotation. -/
theorem State.bestLp_eq_argmin (s : State) (n : Nat) : s.bestLp n = (s.rotation.filter (s.eligible n)).argmin s.runPrio := by
  change List.foldl _ none (s.rotation.filter (s.eligible n)) = List.foldl _ none _
  congr 1
  funext best k
  cases best <;> rfl

theorem State.mem_eligibles (s : State) (n k : Nat) : k ∈ s.rotation.filter (s.eligible n) ↔ k < 4 ∧ s.eligible n k = true := by
  rw [List.mem_filter, s.mem_rotation]

/-- In a list in the order of a key, an element that does not stand behind another has no larger key. -/
theorem le_of_idxOf_le {key : Nat → Nat} {l : List Nat} (hl : l.Pairwise (fun a b => key a < key b)) {a b : Nat} (ha : a ∈ l) (hb : b ∈ l)
    (h : l.idxOf a ≤ l.idxOf b) : key a ≤ key b := by
  rcases h.lt_or_eq with hlt | heq
  · have := List.pairwise_iff_getElem.mp hl _ _ (List.idxOf_lt_length_of_mem ha) (List.idxOf_lt_length_of_mem hb) hlt
    simp only [List.getElem_idxOf] at this
    exact this.le
  · rw [(List.idxOf_inj ha).mp heq]

/-- R511: the best processor is eligible, has the lowest running priority, and of the tied ones the first turn. -/
theorem State.bestLp_some {s : State} {n k : Nat} (h : s.bestLp n = some k) :
    k < 4 ∧ s.eligible n k = true ∧ (∀ j < 4, s.eligible n j = true → s.runPrio k ≤ s.runPrio j) ∧
    (∀ j < 4, s.eligible n j = true → s.runPrio j = s.runPrio k → s.turn k ≤ s.turn j) := by
  rw [s.bestLp_eq_argmin, List.argmin_eq_some_iff] at h
  obtain ⟨hmem, hmin, hfirst⟩ := h
  obtain ⟨hk, helig⟩ := (s.mem_eligibles n k).mp hmem
  have hmem' : ∀ j < 4, s.eligible n j = true → j ∈ s.rotation.filter (s.eligible n) := fun j hj he => (s.mem_eligibles n j).mpr ⟨hj, he⟩
  refine ⟨hk, helig, fun j hj he => hmin j (hmem' j hj he), fun j hj he htie => ?_⟩
  exact le_of_idxOf_le (s.rotation_pairwise_turn.filter _) hmem (hmem' j hj he) (hfirst j (hmem' j hj he) htie.le)

theorem State.bestLp_none {s : State} {n : Nat} (h : s.bestLp n = none) : ∀ j < 4, s.eligible n j = false := by
  rw [s.bestLp_eq_argmin, List.argmin_eq_none] at h
  intro j hj
  by_contra he
  have hmem := (s.mem_eligibles n j).mpr ⟨hj, by simpa using he⟩
  simp [h] at hmem

/-! ## The next delivery (R510, R511) -/

/-- A source that is delivered goes to its best processor. -/
theorem State.bestLp_of_nextDelivery {s : State} {n k : Nat} (h : s.nextDelivery = some (n, k)) : s.bestLp n = some k := by
  unfold State.nextDelivery at h
  revert n k
  refine List.foldlRecOn _ _ (motive := fun best => ∀ {n k}, best = some (n, k) → s.bestLp n = some k) (by simp) ?_
  intro best hbest m _
  split
  · exact hbest
  · rename_i k hk
    split
    · rintro _ _ ⟨⟩; exact hk
    · split
      · rintro _ _ ⟨⟩; exact hk
      · exact hbest

theorem exec_beaconDeliver {s : State} {n k : Nat} (h : s.nextDelivery = some (n, k)) : exec .beaconDeliver s = .next (s.deliver n k) := by
  change execBeaconDeliver s = _
  simp [execBeaconDeliver, h]

/-- The registers of page 0 that repeat for each processor lie behind BCN_STAT. -/
theorem fieldKey_lp_ne_pointer {f : Field} (hf : 0x100 ≤ f.off) (k : Nat) :
    fieldKey bcnPage (f.nth k) ≠ fieldKey bcnPage Beacon.BCN_STAT_POINTER := by
  simp only [ne_eq, fieldKey_inj, Field.nth, Beacon.BCN_STAT_POINTER]
  omega

/-- A delivery moves the pointer behind the processor it goes to. -/
theorem State.get_deliver_pointer (s : State) (n k : Nat) :
    (s.deliver n k).get bcnPage Beacon.BCN_STAT_POINTER = (k + 1) % 4 := by
  have hlat := fieldKey_lp_ne_pointer (f := Beacon.LP_LAT_MAX_CYCLES) (by decide) k
  have htaken := fieldKey_lp_ne_pointer (f := Beacon.LP_TAKEN_COUNT) (by decide) k
  have hsize : Beacon.BCN_STAT_POINTER.size = 4 := by decide
  dsimp only [State.deliver]
  rw [State.get_judgeBeacon_other _ (by decide)]
  split <;> simp only [State.putMax, State.countWrap, State.get_fresh, State.get_emit, State.get_put_other _ _ hlat,
    State.get_put_other _ _ htaken, State.get_put_same, hsize]

/-- Settles O52: the best processor is the first lowest one of the rotation, and a delivery moves the pointer behind it. -/
theorem theBestProcessorHasTheLowestRunningPriority : Obligations.TheBestProcessorHasTheLowestRunningPriority := by
  refine ⟨fun s n k h => State.bestLp_some h, fun s n h => State.bestLp_none h, fun s n k h => ?delivery, by decide⟩
  case delivery => exact ⟨State.bestLp_of_nextDelivery h, _, exec_beaconDeliver h, s.get_deliver_pointer n k⟩

/-! ## Words of SET (R526) -/

theorem mapSources_zero (i : Nat) : mapSources i 0 = [] := by
  simp [mapSources, List.filter_eq_nil_iff, hasBit]

/-- A word of SET that names no source fires none. -/
theorem exec_beaconSet_zero {s : State} {req : Requester} {i : Fin 16} (h : s.serves req (regOff 0x33 (Beacon.SET_SRC.nth i)) = true) :
    exec (.beaconSet req i 0) s = .next s := by
  change execBeaconSet req i 0 s = _
  simp [execBeaconSet, State.onWrite_served h, mapSources_zero]

/-- The Beacon's domain is powered, and BCN_FIRINGS holds 2³², one above the largest count of its 32 bits. `State.fits` fails of it, and
no store makes it, for `State.put` cuts a value to its field. -/
def overfullFirings : State :=
  { State.reset with regs := [(fieldKey 0x3 (Chip.PD_CTRL_ACK.nth 85), 1), (fieldKey bcnPage Beacon.BCN_FIRINGS_COUNT, 2 ^ 32)] }

theorem overfullFirings_serves : overfullFirings.serves .host0 (regOff 0x33 (Beacon.SET_SRC.nth 0)) = true := by decide

theorem overfullFirings_count : overfullFirings.get bcnPage Beacon.BCN_FIRINGS_COUNT = 2 ^ 32 := by decide

/-- Refutes O51: its clause on SET asks of every state, with no hypothesis that the value held fits its field, for BCN_FIRINGS modulo 2³²
after the write. From `overfullFirings`, SET with a word of 0 fires nothing and leaves BCN_FIRINGS at 2³², where the clause asks for 0. -/
theorem not_beaconSourcesFireAreDeliveredAndComplete : ¬ Obligations.BeaconSourcesFireAreDeliveredAndComplete := by
  rintro ⟨-, -, -, -, hset, -⟩
  obtain ⟨t, hexec, -, -, hcount, -⟩ := hset .host0 0 0 overfullFirings overfullFirings_serves
  rw [exec_beaconSet_zero overfullFirings_serves] at hexec
  obtain rfl : overfullFirings = t := by simpa using hexec
  rw [overfullFirings_count] at hcount
  simp [Beacon.BCN_FIRINGS_COUNT, Field.size] at hcount

end Sys2Proof.Machine
end

section
/-! PROOFS. What a power-off leaves alone.

A chip reset ends in `State.leaveReset`, which pumps the power sequencer: domains may go off, and each instance in them is reset. What the
statements say of the hold, of the causes and of memory outlives all of this. `State.kept` holds these parts of the state; every operation a
power-off runs has a lemma that it leaves them as they are, found by taking its stores away one by one. -/

namespace Sys2Proof.Machine

/-- What the resets of units and the switching of domains leave alone: whether the TAP holds the core, whether the core is in reset, both
local memories, and page 7, where the causes of chip resets stand (R565, R581). -/
structure Kept where
  held : Bool
  inReset : Bool
  tap : Nat
  memory : Nat → SMap Byte
  records : Nat → Nat

def State.kept (s : State) : Kept :=
  { held := s.power.held, inReset := s.power.inReset, tap := s.pins.tap, memory := fun h => (s.harb h).mem
    records := fun k => SMap.get resetField s.regs (0x7 * 0x8000 + k % 0x8000) }

@[simp] theorem State.kept_ite (c : Prop) [Decidable c] (s t : State) : (if c then s else t).kept = if c then s.kept else t.kept :=
  apply_ite State.kept c s t

theorem State.kept_foldl {α : Type} {f : State → α → State} (h : ∀ s a, (f s a).kept = s.kept) (l : List α) (s : State) :
    (l.foldl f s).kept = s.kept := by
  induction l generalizing s with
  | nil => rfl
  | cons a l ih => rw [List.foldl_cons, ih, h]

theorem State.kept_foldl_mem {α : Type} {f : State → α → State} {l : List α} (h : ∀ a ∈ l, ∀ s, (f s a).kept = s.kept) (s : State) :
    (l.foldl f s).kept = s.kept := by
  induction l generalizing s with
  | nil => rfl
  | cons a l ih => rw [List.foldl_cons, ih fun b hb => h b (.tail _ hb), h a (.head _)]

theorem State.kept_foldl_fst {α β : Type} {f : State × β → α → State × β} (h : ∀ a k, (f a k).1.kept = a.1.kept) (l : List α) (a : State × β) :
    (l.foldl f a).1.kept = a.1.kept := by
  induction l generalizing a with
  | nil => rfl
  | cons k l ih => rw [List.foldl_cons, ih, h]

theorem State.kept_put_of_ne (s : State) {pg : Nat} {f : Field} (v : Nat) (h : fieldKey pg f / 0x8000 ≠ 0x7) : (s.put pg f v).kept = s.kept := by
  have hne : ∀ k, fieldKey pg f ≠ 0x7 * 0x8000 + k % 0x8000 := by omega
  have hregs : (s.put pg f v).regs = SMap.set resetField s.regs (fieldKey pg f) (v % f.size) := rfl
  simp [State.kept, State.harb, hregs, SMap.get_set_other _ _ _ (hne _)]

@[simp] theorem State.kept_put (s : State) {pg : Nat} (f : Field) (v : Nat) (h : 7 < pg) : (s.put pg f v).kept = s.kept := by
  refine State.kept_put_of_ne s v ?_
  unfold fieldKey
  omega

/-! ## Pages behind those of the chip -/

theorem Block.lt_page {b : Block} (h : b ≠ .chip) (n p : Nat) : 7 < b.page n p := by
  cases b with
  | chip => exact absurd rfl h
  | inlet =>
    simp only [Block.page]
    split <;> omega
  | tidemark | breakwater | beacon | seawall | lighthouse | sounding | fastStatus | weatas | csiRx | csiTx | streamTab | jetty | mac | bridge | pcie |
    lp | cove | harbour | drift =>
    simp only [Block.page]
    omega

@[simp] theorem seven_lt_hbPage (h p : Nat) : 7 < hbPage h p := Block.lt_page (by decide) _ _
@[simp] theorem seven_lt_pcPage (n p : Nat) : 7 < pcPage n p := Block.lt_page (by decide) _ _
@[simp] theorem seven_lt_lhPage (e : Nat) : 7 < lhPage e := Block.lt_page (by decide) _ _
@[simp] theorem seven_lt_sdPage (u : Nat) : 7 < sdPage u := Block.lt_page (by decide) _ _
@[simp] theorem seven_lt_chPage (c : Nat) : 7 < chPage c := Block.lt_page (by decide) _ _
@[simp] theorem seven_lt_wePage (n : Nat) : 7 < wePage n := Block.lt_page (by decide) _ _
@[simp] theorem seven_lt_inPage (n : Nat) : 7 < inPage n := Block.lt_page (by decide) _ _
@[simp] theorem seven_lt_jtPage (n : Nat) : 7 < jtPage n := Block.lt_page (by decide) _ _
@[simp] theorem seven_lt_stPage (n : Nat) : 7 < stPage n := Block.lt_page (by decide) _ _
@[simp] theorem seven_lt_rxPage (n : Nat) : 7 < rxPage n := Block.lt_page (by decide) _ _
@[simp] theorem seven_lt_txPage (m : Nat) : 7 < txPage m := Block.lt_page (by decide) _ _
@[simp] theorem seven_lt_covePage (n p : Nat) : 7 < covePage n p := Block.lt_page (by decide) _ _
@[simp] theorem seven_lt_bcnPage : 7 < bcnPage := by decide
@[simp] theorem seven_lt_grpPage : 7 < grpPage := by decide
@[simp] theorem seven_lt_syncPage : 7 < syncPage := by decide
@[simp] theorem seven_lt_bwPage : 7 < bwPage := by decide
@[simp] theorem seven_lt_tmPage : 7 < tmPage := by decide

/-! ## Stores

Each holds by unfolding. The parentheses keep `simp` from taking it for a rewrite that holds by definition: it then uses it as a rewrite of its
own, and the kernel does not unfold the operation again in each proof that does. -/

@[simp] theorem State.kept_emit (s : State) (o : Out) : (s.emit o).kept = s.kept := (rfl)
@[simp] theorem State.kept_owe (s : State) (d : Due) : (s.owe d).kept = s.kept := (rfl)
@[simp] theorem State.kept_noteHalf (s : State) (h : Nat) (g : HalfTide → HalfTide) : (s.noteHalf h g).kept = s.kept := (rfl)
@[simp] theorem State.kept_selfCheck (s : State) (h c : Nat) : (s.selfCheck h c).kept = s.kept := (rfl)
@[simp] theorem State.kept_putMarks (s : State) (pg : Nat) (m : FltMarks) : (s.putMarks pg m).kept = s.kept := (rfl)
@[simp] theorem State.kept_putSrc (s : State) (n : Nat) (x : BeaconSrc) : (s.putSrc n x).kept = s.kept := (rfl)
@[simp] theorem State.kept_putMac (s : State) (m : Nat) (x : MacSt) : (s.putMac m x).kept = s.kept := (rfl)
@[simp] theorem State.kept_putPc (s : State) (n : Nat) (x : PcieSt) : (s.putPc n x).kept = s.kept := (rfl)
@[simp] theorem State.kept_putCh (s : State) (c : Nat) (x : ChannelSt) : (s.putCh c x).kept = s.kept := (rfl)
@[simp] theorem State.kept_putPort (s : State) (n : Nat) (x : PortSt) : (s.putPort n x).kept = s.kept := (rfl)
@[simp] theorem State.kept_putLane (s : State) (n : Nat) (x : LaneSt) : (s.putLane n x).kept = s.kept := (rfl)
@[simp] theorem State.kept_putStream (s : State) (n : Nat) (x : StreamSt) : (s.putStream n x).kept = s.kept := (rfl)
@[simp] theorem State.kept_putSync (s : State) (n : Nat) (x : SyncSt) : (s.putSync n x).kept = s.kept := (rfl)
@[simp] theorem State.kept_putWindow (s : State) (n : Nat) (x : JettySt) : (s.putWindow n x).kept = s.kept := (rfl)
@[simp] theorem State.kept_putCsi (s : State) (n : Nat) (x : CsiRxSt) : (s.putCsi n x).kept = s.kept := (rfl)
@[simp] theorem State.kept_putTx (s : State) (m : Nat) (x : CsiTxSt) : (s.putTx m x).kept = s.kept := (rfl)
@[simp] theorem State.kept_putCove (s : State) (n : Nat) (x : CoveSt) : (s.putCove n x).kept = s.kept := (rfl)
@[simp] theorem State.kept_modFrame (s : State) (h x q : Nat) (g : HalfFrame → HalfFrame) : (s.modFrame h x q g).kept = s.kept := (rfl)
@[simp] theorem State.kept_modPart (s : State) (n x q : Nat) (g : CovePart → CovePart) : (s.modPart n x q g).kept = s.kept := (rfl)
@[simp] theorem State.kept_retire (s : State) (h x q : Nat) : (s.retire h x q).kept = s.kept := (rfl)

@[simp] theorem State.kept_putHarb (s : State) {h : Nat} {x : HarbourSt} (hx : x.mem = (s.harb h).mem) : (s.putHarb h x).kept = s.kept := by
  have hmem : ∀ k, ((s.putHarb h x).harb k).mem = (s.harb k).mem := by
    intro k
    rw [State.harb_putHarb]
    split
    · subst_vars; exact hx
    · rfl
  simp only [State.kept, hmem, State.putHarb_power, State.putHarb_regs, State.putHarb_pins]

/-! ## Fields, events and faults -/

@[simp] theorem State.kept_countSat (s : State) {pg : Nat} (f : Field) (n : Nat) (h : 7 < pg) : (s.countSat pg f n).kept = s.kept :=
  State.kept_put s f _ h

@[simp] theorem State.kept_countWrap (s : State) {pg : Nat} (f : Field) (n : Nat) (h : 7 < pg) : (s.countWrap pg f n).kept = s.kept :=
  State.kept_put s f _ h

@[simp] theorem State.kept_putMax (s : State) {pg : Nat} (f : Field) (v : Nat) (h : 7 < pg) : (s.putMax pg f v).kept = s.kept :=
  State.kept_put s f _ h

theorem fieldKey_fault (pg : Nat) : fieldKey pg Hdr.FLT_STAT_FAULT / 0x8000 = pg := by
  have : Hdr.FLT_STAT_FAULT.off * 8 + Hdr.FLT_STAT_FAULT.lo < 0x8000 := by decide
  unfold fieldKey; omega

theorem fieldKey_event (pg : Nat) : fieldKey pg Hdr.EVT_STAT_EVENT / 0x8000 = pg := by
  have : Hdr.EVT_STAT_EVENT.off * 8 + Hdr.EVT_STAT_EVENT.lo < 0x8000 := by decide
  unfold fieldKey; omega

@[simp] theorem State.kept_event (s : State) {pg : Nat} (b : Nat) (h : pg < 7 ∨ 7 < pg) : (s.event pg b).kept = s.kept :=
  State.kept_put_of_ne s _ (by rw [fieldKey_event]; omega)

@[simp] theorem State.kept_eventIf (s : State) (c : Bool) {pg : Nat} (b : Nat) (h : pg < 7 ∨ 7 < pg) : (s.eventIf c pg b).kept = s.kept := by
  simp [State.eventIf, h]

@[simp] theorem State.kept_occur (s : State) {pg : Nat} (b : Nat) (h : pg < 7 ∨ 7 < pg) : (s.occur pg b).kept = s.kept := by
  rw [State.occur, State.kept_owe, State.kept_put_of_ne s _ (by rw [fieldKey_fault]; omega)]

@[simp] theorem State.kept_raise (s : State) {pg : Nat} (b : Nat) (h : pg < 7 ∨ 7 < pg) : (s.raise pg b).kept = s.kept := by
  simp [State.raise, h]

@[simp] theorem State.kept_lower (s : State) {pg : Nat} (b : Nat) (h : pg < 7 ∨ 7 < pg) : (s.lower pg b).kept = s.kept := by
  have hkey : fieldKey pg Hdr.FLT_STAT_FAULT / 0x8000 ≠ 0x7 := by rw [fieldKey_fault]; omega
  simp only [State.lower, State.kept_ite, State.kept_putMarks, State.kept_put_of_ne _ _ hkey, ite_self]

@[simp] theorem State.kept_cond (s : State) {pg : Nat} (b : Nat) (p : Bool) (h : pg < 7 ∨ 7 < pg) : (s.cond pg b p).kept = s.kept := by
  simp [State.cond, h]

@[simp] theorem State.kept_again (s : State) {pg : Nat} (b : Nat) (p : Bool) (h : pg < 7 ∨ 7 < pg) : (s.again pg b p).kept = s.kept := by
  simp [State.again, h]

end Sys2Proof.Machine
end

section
/-! PROOFS. Operations of the Beacon, the Harbours and the host link that leave `State.kept` alone. -/

namespace Sys2Proof.Machine

@[simp] theorem State.kept_putStack (s : State) (k : Nat) (l : List (Nat × Nat)) : (s.putStack k l).kept = s.kept := by
  simp only [State.putStack, State.kept_put _ _ _ seven_lt_bcnPage]
  rfl

@[simp] theorem State.kept_judgeBeacon (s : State) : s.judgeBeacon.kept = s.kept := by simp [State.judgeBeacon]

@[simp] theorem State.kept_releaseSource (s : State) (n : Nat) (again : Bool) : (s.releaseSource n again).kept = s.kept := by
  simp [State.releaseSource]

@[simp] theorem State.kept_beaconDropLp (s : State) (k : Nat) : (s.beaconDropLp k).kept = s.kept := by
  simp [State.beaconDropLp, State.kept_foldl]

@[simp] theorem State.kept_putGrp (s : State) (f : Field) (g v : Nat) : (s.putGrp f g v).kept = s.kept := by simp [State.putGrp]
@[simp] theorem State.kept_mapCapacity (s : State) (h : Nat) : (s.mapCapacity h).kept = s.kept := by simp [State.mapCapacity]
@[simp] theorem State.kept_judgeOff (s : State) (h : Nat) : (s.judgeOff h).kept = s.kept := by simp [State.judgeOff]
@[simp] theorem State.kept_judgeTrain (s : State) (h : Nat) : (s.judgeTrain h).kept = s.kept := by simp [State.judgeTrain]
@[simp] theorem State.kept_untrain (s : State) (h c : Nat) : (s.untrain h c).kept = s.kept := by simp [State.untrain]
@[simp] theorem State.kept_putJob (s : State) (e : Nat) (j : JobEntry) : (s.putJob e j).kept = s.kept := by simp [State.putJob]
@[simp] theorem State.kept_jobState (s : State) (e st : Nat) : (s.jobState e st).kept = s.kept := by simp [State.jobState]
@[simp] theorem State.kept_freeJob (s : State) (e : Nat) : (s.freeJob e).kept = s.kept := by simp [State.freeJob]
@[simp] theorem State.kept_judgeStarved (s : State) (h : Nat) : (s.judgeStarved h).kept = s.kept := by simp [State.judgeStarved]
@[simp] theorem State.kept_countBulkWait (s : State) (h : Nat) : (s.countBulkWait h).kept = s.kept := by simp [State.countBulkWait]
@[simp] theorem State.kept_failJob (s : State) (e : Nat) : (s.failJob e).kept = s.kept := by simp [State.failJob]
@[simp] theorem State.kept_flyEntry (s : State) (e : Nat) : (s.flyEntry e).kept = s.kept := by simp [State.flyEntry]

@[simp] theorem State.kept_ask (s : State) (h : Nat) (r : MemReq) : (s.ask h r).kept = s.kept := by
  unfold State.ask
  split <;> simp

@[simp] theorem State.kept_entryBack (s : State) (e gen : Nat) : (s.entryBack e gen).2.kept = s.kept := by
  unfold State.entryBack
  dsimp only
  split <;> simp

@[simp] theorem State.kept_freeHeld (s : State) (e : Option (Nat × Nat)) : (s.freeHeld e).kept = s.kept := by
  cases e <;> simp [State.freeHeld]

theorem State.kept_allocBulk {s t : State} {h e : Nat} {j : JobEntry} (ht : s.allocBulk h j = some (e, t)) : t.kept = s.kept := by
  simp only [State.allocBulk, Option.map_eq_some_iff, Prod.mk.injEq] at ht
  obtain ⟨_, -, rfl, rfl⟩ := ht
  simp

theorem State.kept_allocSlice {s t : State} {h : Nat} {b : Bool} {j : JobEntry} (ht : s.allocSlice h b j = some t) : t.kept = s.kept := by
  simp only [State.allocSlice, Option.map_eq_some_iff] at ht
  obtain ⟨_, -, rfl⟩ := ht
  simp

theorem State.kept_takeResult {s t : State} {h q c g : Nat} {r : MemResult} (ht : s.takeResult h q c g = some (r, t)) : t.kept = s.kept := by
  simp only [State.takeResult, Option.map_eq_some_iff, Prod.mk.injEq] at ht
  obtain ⟨_, -, -, rfl⟩ := ht
  simp

@[simp] theorem State.kept_harbourReset (s : State) (h : Nat) : (s.harbourReset h).kept = s.kept := by
  unfold State.harbourReset
  refine (State.kept_foldl ?stores _ _).trans (State.kept_putHarb s ?memory)
  case stores => intro _ _; rfl
  case memory => rfl

@[simp] theorem State.kept_pcPut (s : State) (n p : Nat) (f : Field) (v : Nat) : (s.pcPut n p f v).kept = s.kept :=
  State.kept_foldl (by simp) _ _

@[simp] theorem State.kept_pcCount (s : State) (n : Nat) (f : Field) (k : Nat) : (s.pcCount n f k).kept = s.kept :=
  State.kept_foldl (by simp) _ _

@[simp] theorem State.kept_pcEvent (s : State) (n b : Nat) : (s.pcEvent n b).kept = s.kept :=
  State.kept_foldl (by simp) _ _

@[simp] theorem State.kept_judgeLink (s : State) (n : Nat) : (s.judgeLink n).kept = s.kept := by simp [State.judgeLink]
@[simp] theorem State.kept_judgeAer (s : State) (n : Nat) : (s.judgeAer n).kept = s.kept := by simp [State.judgeAer]
@[simp] theorem State.kept_errMessage (s : State) (n l : Nat) : (s.errMessage n l).kept = s.kept := by simp [State.errMessage]
@[simp] theorem State.kept_aerCorrectable (s : State) (n b : Nat) : (s.aerCorrectable n b).kept = s.kept := by simp [State.aerCorrectable]
@[simp] theorem State.kept_logHeader (s : State) (n b d : Nat) : (s.logHeader n b d).kept = s.kept := by simp [State.logHeader]

@[simp] theorem State.kept_aerUncorrectable (s : State) (n b d : Nat) : (s.aerUncorrectable n b d).kept = s.kept := by
  simp [State.aerUncorrectable]

@[simp] theorem State.kept_countNp (s : State) (n : Nat) : (s.countNp n).kept = s.kept := by simp [State.countNp]
@[simp] theorem State.kept_judgeTags (s : State) (n : Nat) : (s.judgeTags n).kept = s.kept := by simp [State.judgeTags]

@[simp] theorem State.kept_readBack (s : State) (c b q : Nat) (l : List Byte) : (s.readBack c b q l).kept = s.kept := by
  simp [State.readBack]

@[simp] theorem State.kept_endNp (s : State) (n : Nat) (q : NpReq) (b : Option (List Byte)) : (s.endNp n q b).kept = s.kept := by
  unfold State.endNp
  cases hq : q.entry <;> cases b <;> simp

@[simp] theorem State.kept_failReads (s : State) (n : Nat) : (s.failReads n).kept = s.kept := by simp [State.failReads, State.kept_foldl]
@[simp] theorem State.kept_resetFunction (s : State) (n : Nat) : (s.resetFunction n).kept = s.kept := by simp [State.resetFunction]
@[simp] theorem State.kept_linkOut (s : State) (n l : Nat) : (s.linkOut n l).kept = s.kept := by simp [State.linkOut]
@[simp] theorem State.kept_linkDown (s : State) (n l : Nat) : (s.linkDown n l).kept = s.kept := by simp [State.linkDown]

end Sys2Proof.Machine
end

section
/-! PROOFS. Operations of the aperture, the Lighthouse, the Drift, the Inlet, the Jetty, lanes and camera ports that leave `State.kept` alone. -/

namespace Sys2Proof.Machine

@[simp] theorem State.kept_aperError (s : State) (n h o c : Nat) (w : Bool) : (s.aperError n h o c w).kept = s.kept := by
  simp [State.aperError]

@[simp] theorem State.kept_aperFail (s : State) (n h o c : Nat) (w : Bool) (d : Nat) : (s.aperFail n h o c w d).kept = s.kept := by
  simp [State.aperFail]

@[simp] theorem State.kept_aperAnswer (s : State) (n : Nat) (x : AperAccess) : (s.aperAnswer n x).kept = s.kept := by
  unfold State.aperAnswer
  refine (State.kept_foldl_fst ?answers _ _).trans ?error
  case answers => intro _ _; rfl
  case error => simp

@[simp] theorem State.kept_aperResult (s : State) (h : Nat) (r : MemResult) : (s.aperResult h r).kept = s.kept := by
  unfold State.aperResult
  dsimp only
  split
  · rfl
  · rename_i ht
    rw [← State.kept_takeResult ht]
    split
    · rfl
    · simp

@[simp] theorem State.kept_putLhCtx (s : State) (e c : Nat) (x : LightCtx) : (s.putLhCtx e c x).kept = s.kept := by
  simp only [State.putLhCtx, State.kept_cond _ _ _ (.inr (seven_lt_lhPage e))]
  rfl

@[simp] theorem State.kept_lhRestart (s : State) (e c : Nat) : (s.lhRestart e c).kept = s.kept := by simp [State.lhRestart]

@[simp] theorem State.kept_judgeFrozen (s : State) (l : Latch) (p : List (Nat × Nat × List (Option Nat))) :
    (s.judgeFrozen l p).2.kept = s.kept := by
  unfold State.judgeFrozen
  split
  · rfl
  · exact State.kept_foldl (by simp) _ _

@[simp] theorem State.kept_judgeSensor (s : State) (p : List (Nat × Nat)) (b : Bool) : (s.judgeSensor p b).kept = s.kept :=
  State.kept_foldl (by simp) _ _

@[simp] theorem State.kept_soundAbandon (s : State) (t : List Tap) : (s.soundAbandon t).kept = s.kept :=
  State.kept_foldl (by simp) _ _

@[simp] theorem State.kept_dropTaps (s : State) (u : Nat) : (s.dropTaps u).kept = s.kept :=
  (State.kept_foldl (by simp) _ _).trans rfl

@[simp] theorem State.kept_judgeCh (s : State) (c : Nat) : (s.judgeCh c).kept = s.kept := by simp [State.judgeCh]
@[simp] theorem State.kept_abortCh (s : State) (c : Nat) : (s.abortCh c).kept = s.kept := by simp [State.abortCh, State.kept_foldl]
@[simp] theorem State.kept_stPut (s : State) (n : Nat) (f : Field) (v : Nat) : (s.stPut n f v).kept = s.kept := by simp [State.stPut]
@[simp] theorem State.kept_stCount (s : State) (n : Nat) (f : Field) : (s.stCount n f).kept = s.kept := by simp [State.stCount]
@[simp] theorem State.kept_judgeHeaders (s : State) (n : Nat) : (s.judgeHeaders n).kept = s.kept := by simp [State.judgeHeaders]
@[simp] theorem State.kept_toInlet (s : State) (n : Nat) (i : InletItem) : (s.toInlet n i).kept = s.kept := by simp [State.toInlet]

@[simp] theorem State.kept_intake (s : State) (n : Nat) (b : List Byte) (k : Bool) (x y : Nat) : (s.intake n b k x y).kept = s.kept := by
  unfold State.intake
  split
  · rfl
  · split
    · simp
    · extract_lets
      split
      · simp +zetaDelta
      · split <;> simp +zetaDelta

@[simp] theorem State.kept_gapTo (s : State) (n : Nat) : (s.gapTo n).kept = s.kept := by simp [State.gapTo]
@[simp] theorem State.kept_bcSend (s : State) (n t : Nat) (p : List Byte) : (s.bcSend n t p).kept = s.kept := by simp [State.bcSend]
@[simp] theorem State.kept_judgeSyncLost (s : State) : s.judgeSyncLost.kept = s.kept := by simp [State.judgeSyncLost]
@[simp] theorem State.kept_mapPort (s : State) (lo hi : Field) (n : Nat) : (s.mapPort lo hi n).kept = s.kept := by simp [State.mapPort]
@[simp] theorem State.kept_countSkip (s : State) (n : Nat) : (s.countSkip n).kept = s.kept := by simp [State.countSkip]
@[simp] theorem State.kept_pathMissed (s : State) (n k : Nat) : (s.pathMissed n k).kept = s.kept := by simp [State.pathMissed]

@[simp] theorem State.kept_putJtSlot (s : State) (n i : Nat) (v : JettySlot) : (s.putJtSlot n i v).kept = s.kept := by
  simp [State.putJtSlot]

@[simp] theorem State.kept_judgeJtErr (s : State) (n : Nat) : (s.judgeJtErr n).kept = s.kept := by simp [State.judgeJtErr]
@[simp] theorem State.kept_judgeMirErr (s : State) (n : Nat) : (s.judgeMirErr n).kept = s.kept := by simp [State.judgeMirErr]

@[simp] theorem State.kept_logJt (s : State) (n q : Nat) (w : Bool) (c g i x f k : Nat) : (s.logJt n q w c g i x f k).kept = s.kept := by
  simp [State.logJt]

@[simp] theorem State.kept_sendTxn (s : State) (n i : Nat) : (s.sendTxn n i).kept = s.kept := by simp [State.sendTxn]
@[simp] theorem State.kept_openTxn (s : State) (n i q w : Nat) (t : BusTxn) : (s.openTxn n i q w t).kept = s.kept := by simp [State.openTxn]

@[simp] theorem State.kept_failRead (s : State) (r : HeldRead) : (s.failRead r).kept = s.kept := by
  unfold State.failRead
  dsimp only
  split <;> simp

@[simp] theorem State.kept_endHeld (s : State) (n i : Nat) (v : Option Nat) : (s.endHeld n i v).kept = s.kept := by
  unfold State.endHeld
  dsimp only
  split <;> simp

@[simp] theorem State.kept_endTxq (s : State) (n c k : Nat) (d : List Byte) : (s.endTxq n c k d).kept = s.kept := by
  simp [State.endTxq, State.kept_foldl]

@[simp] theorem State.kept_endMirror (s : State) (n m : Nat) (w ok : Bool) (v : Nat) : (s.endMirror n m w ok v).kept = s.kept := by
  simp [State.endMirror]

@[simp] theorem State.kept_endSensor (s : State) (n : Nat) (ok : Bool) : (s.endSensor n ok).kept = s.kept := by
  unfold State.endSensor
  dsimp only
  split <;> simp

@[simp] theorem State.kept_endTxn (s : State) (n i c : Nat) (d : List Byte) (f k : Nat) (m : Bool) : (s.endTxn n i c d f k m).kept = s.kept := by
  simp [State.endTxn]

@[simp] theorem State.kept_startTxn (s : State) (n i : Nat) : (s.startTxn n i).kept = s.kept := by simp [State.startTxn]

@[simp] theorem State.kept_pumpMirror (s : State) (n t : Nat) (l : List Nat) : (s.pumpMirror n t l).kept = s.kept := by
  induction l generalizing s with
  | nil => rfl
  | cons e r ih =>
    unfold State.pumpMirror
    extract_lets pg m write f takes
    split
    · exact ih s
    · split
      · rfl
      · simp +zetaDelta [ih]

@[simp] theorem State.kept_resumeMirror (s : State) (n : Nat) : (s.resumeMirror n).kept = s.kept := by
  unfold State.resumeMirror
  split <;> simp

@[simp] theorem State.kept_jettyLinkDown (s : State) (n : Nat) : (s.jettyLinkDown n).kept = s.kept := by
  simp [State.jettyLinkDown, State.kept_foldl]

@[simp] theorem State.kept_putRx (s : State) (n v : Nat) : (s.putRx n v).kept = s.kept := by simp [State.putRx]
@[simp] theorem State.kept_linkTo (s : State) (n v : Nat) : (s.linkTo n v).kept = s.kept := by simp [State.linkTo]
@[simp] theorem State.kept_dropFsyncs (s : State) (n : Nat) : (s.dropFsyncs n).kept = s.kept := by simp [State.dropFsyncs, State.kept_foldl]
@[simp] theorem State.kept_pausePoll (s : State) (n : Nat) : (s.pausePoll n).kept = s.kept := (rfl)

@[simp] theorem State.kept_noteBreak (s : State) (n : Nat) : (s.noteBreak n).kept = s.kept := by
  unfold State.noteBreak
  dsimp only
  split
  · rfl
  · split
    · rfl
    · exact State.kept_put _ _ _ (seven_lt_wePage n)

@[simp] theorem State.kept_trackSeq (s : State) (n q : Nat) (a : Bool) : (s.trackSeq n q a).kept = s.kept := by
  unfold State.trackSeq
  dsimp only
  split <;> simp

@[simp] theorem State.kept_breakPacket (s : State) (n : Nat) : (s.breakPacket n).kept = s.kept := by
  unfold State.breakPacket
  split <;> simp

@[simp] theorem State.kept_leaveOperating (s : State) (n : Nat) (c l : Bool) : (s.leaveOperating n c l).kept = s.kept := by
  simp [State.leaveOperating]

@[simp] theorem State.kept_laneOff (s : State) (n : Nat) : (s.laneOff n).kept = s.kept := by simp [State.laneOff]
@[simp] theorem State.kept_rxOff (s : State) (n : Nat) : (s.rxOff n).kept = s.kept := by simp [State.rxOff]
@[simp] theorem State.kept_putTxSlot (s : State) (m k : Nat) (x : TxSlot) : (s.putTxSlot m k x).kept = s.kept := by simp [State.putTxSlot]
@[simp] theorem State.kept_judgeTx (s : State) (m : Nat) : (s.judgeTx m).kept = s.kept := by simp [State.judgeTx]
@[simp] theorem State.kept_txOff (s : State) (m : Nat) : (s.txOff m).kept = s.kept := by simp [State.txOff, State.kept_foldl]

end Sys2Proof.Machine
end

section
/-! PROOFS. Operations on frames, Coves and streams that leave `State.kept` alone. -/

namespace Sys2Proof.Machine

@[simp] theorem State.kept_embError (s : State) (n : Nat) : (s.embError n).kept = s.kept := by simp [State.embError]
@[simp] theorem State.kept_syncFrameEnd (s : State) (x : Nat) : (s.syncFrameEnd x).kept = s.kept := by simp [State.syncFrameEnd]
@[simp] theorem State.kept_judgeRate (s : State) : s.judgeRate.kept = s.kept := by simp [State.judgeRate]
@[simp] theorem State.kept_syncMeasure (s : State) (x l a b : Nat) : (s.syncMeasure x l a b).kept = s.kept := by simp [State.syncMeasure]
@[simp] theorem State.kept_putCoveCtx (s : State) (n c : Nat) (x : CoveCtx) : (s.putCoveCtx n c x).kept = s.kept := (rfl)
@[simp] theorem State.kept_judgeCove (s : State) (n : Nat) : (s.judgeCove n).kept = s.kept := by simp [State.judgeCove, State.kept_foldl]

@[simp] theorem State.kept_flagPart (s : State) (n x q i : Nat) (t : Bool) : (s.flagPart n x q i t).kept = s.kept := by
  simp [State.flagPart]
  split <;> simp

@[simp] theorem State.kept_issueOp (s : State) (n : Nat) (o : CoveOp) : (s.issueOp n o).kept = s.kept := by
  unfold State.issueOp
  extract_lets h x cls job upd
  split
  · rfl
  · split
    · simp [upd]
    · next e t ht =>
      have hk : t.kept = s.kept := by
        split at ht
        · cases ht
        · exact State.kept_allocBulk ht
      simp [upd, hk]

@[simp] theorem State.kept_addOps (s : State) (n : Nat) (l : List CoveOp) : (s.addOps n l).kept = s.kept := State.kept_foldl (by simp) _ _
@[simp] theorem State.kept_retryOps (s : State) (n : Nat) : (s.retryOps n).kept = s.kept := State.kept_foldl (by simp) _ _

@[simp] theorem State.kept_dropOps (s : State) (n : Nat) (p : CoveOp → Bool) : (s.dropOps n p).kept = s.kept := by
  simp [State.dropOps, State.kept_foldl]

@[simp] theorem State.kept_learnFind (s : State) (n x q : Nat) (d : Nat × Nat × Nat × Bool) : (s.learnFind n x q d).kept = s.kept := by
  unfold State.learnFind
  split <;> simp

@[simp] theorem State.kept_countLearned (s : State) (n c : Nat) : (s.countLearned n c).kept = s.kept := by simp [State.countLearned]

@[simp] theorem State.kept_countRows (s : State) (n x q : Nat) : (s.countRows n x q).kept = s.kept := by
  unfold State.countRows
  split
  · rfl
  · exact (State.kept_foldl (by simp) _ _).trans (State.kept_modPart ..)

@[simp] theorem State.kept_measureBlack (s : State) (h x q : Nat) : (s.measureBlack h x q).kept = s.kept := by
  unfold State.measureBlack
  split
  · rfl
  · split
    · rfl
    · extract_lets
      split
      · rfl
      · refine (State.kept_foldl (fun s p => ?_) _ _).trans (State.kept_modFrame ..)
        extract_lets pg word s₁ s₂
        rw [State.kept_putCoveCtx]
        simp [s₂, s₁, pg, State.kept_foldl]

@[simp] theorem State.kept_handUnit (s : State) (f : HalfFrame) (o : OutFrame) (u : FrameUnit) : (s.handUnit f o u).kept = s.kept := (rfl)
@[simp] theorem State.kept_modOut (s : State) (h x q k : Nat) (g : OutFrame → OutFrame) : (s.modOut h x q k g).kept = s.kept := (rfl)

@[simp] theorem State.kept_handBytes (s : State) (h x q k o : Nat) (w : Bool) (b : List Byte) : (s.handBytes h x q k o w b).kept = s.kept := by
  unfold State.handBytes
  split
  · rfl
  · simp [State.kept_foldl]

@[simp] theorem State.kept_handLine (s : State) (h x q k j : Nat) : (s.handLine h x q k j).kept = s.kept := by
  unfold State.handLine
  split
  · rfl
  · split <;> simp

@[simp] theorem State.kept_offerOut (s : State) (f : HalfFrame) (o : OutFrame) : (s.offerOut f o).kept = s.kept := by simp [State.offerOut]

@[simp] theorem State.kept_handLines (s : State) (h x q : Nat) : (s.handLines h x q).kept = s.kept := by
  unfold State.handLines
  split
  · rfl
  · refine State.kept_foldl (fun s o => ?_) _ _
    dsimp only
    split <;> simp [State.kept_foldl]

@[simp] theorem State.kept_closeContext (s : State) (f : HalfFrame) (p : CovePart) : (s.closeContext f p).kept = s.kept := by
  simp [State.closeContext, State.kept_foldl]

@[simp] theorem State.kept_writeStat (s : State) (h x q : Nat) : (s.writeStat h x q).kept = s.kept := by
  unfold State.writeStat
  split
  · rfl
  · split <;> simp

@[simp] theorem State.kept_finishFrame (s : State) (h x q : Nat) : (s.finishFrame h x q).kept = s.kept := by
  unfold State.finishFrame
  split
  · rfl
  · split
    · rfl
    · extract_lets
      split
      next frozen t ht =>
      have hk : t.kept = s.kept := by
        split at ht
        · cases ht; rfl
        · exact (congrArg (·.2.kept) ht).symm.trans (State.kept_judgeFrozen ..)
      simp [State.kept_foldl, hk]

@[simp] theorem State.kept_frameAdvance (s : State) (h x q : Nat) : (s.frameAdvance h x q).kept = s.kept := by
  unfold State.frameAdvance
  split <;> simp [State.kept_foldl]

@[simp] theorem State.kept_coveResult (s : State) (h : Nat) (r : MemResult) : (s.coveResult h r).kept = s.kept := by
  unfold State.coveResult
  extract_lets n
  split
  · rfl
  · split
    · rfl
    · split
      · rfl
      · extract_lets later tags s₁ free s₂
        have hs₁ : s₁.kept = s.kept := State.kept_putHarb s rfl
        have hs₂ : s₂.kept = s₁.kept := State.kept_foldl (fun s q => by split <;> simp) _ _
        simp [hs₁, hs₂]
    · split
      · rfl
      · next ht =>
        rw [← State.kept_takeResult ht]
        simp

@[simp] theorem State.kept_cutPart (s : State) (n x q r : Nat) : (s.cutPart n x q r).kept = s.kept := by
  unfold State.cutPart
  split
  · rfl
  · split
    · rfl
    · extract_lets h s₁ x mine s₂ ours _ s₃ jobs s₄ s₅
      have hs₃ : s₃.kept = s.kept := State.kept_putHarb s₂ rfl
      have hs₄ : s₄.kept = s₃.kept := State.kept_foldl (by simp) _ _
      simp [s₅, hs₄, hs₃]

@[simp] theorem State.kept_createJob (s : State) (h x q : Nat) (b : Bool) (d : Nat × Nat × Nat × Nat) : (s.createJob h x q b d).kept = s.kept := by
  unfold State.createJob
  split
  · rfl
  · split
    · rfl
    · extract_lets behind made
      have hmade : ∀ t, made = some t → t.kept = s.kept := by
        intro t ht
        simp only [made] at ht
        split at ht
        · cases ht
        · exact State.kept_allocSlice ht
      clear_value made
      cases made with
      | none => simp
      | some t => simp [hmade t rfl]

@[simp] theorem State.kept_settleRows (s : State) (h x q : Nat) : (s.settleRows h x q).kept = s.kept := by
  unfold State.settleRows
  split
  · rfl
  · exact (State.kept_foldl (by simp) _ _).trans (State.kept_foldl (by simp) _ _)

@[simp] theorem State.kept_abortRows (s : State) (n x q r : Nat) : (s.abortRows n x q r).kept = s.kept := by
  simp [State.abortRows, State.kept_foldl]

@[simp] theorem State.kept_sliceResult (s : State) (h : Nat) (r : MemResult) : (s.sliceResult h r).kept = s.kept := by
  unfold State.sliceResult
  extract_lets e j
  split
  · rfl
  · next ht =>
    rw [← State.kept_takeResult ht]
    extract_lets x
    split
    · rfl
    · split <;> simp

@[simp] theorem State.kept_judgeInlet (s : State) (n : Nat) : (s.judgeInlet n).kept = s.kept := by simp [State.judgeInlet]
@[simp] theorem State.kept_sentinelPart (s : State) (x h : Nat) : (s.sentinelPart x h).kept = s.kept := by simp [State.sentinelPart]
@[simp] theorem State.kept_endPart (s : State) (x c t r : Nat) : (s.endPart x c t r).kept = s.kept := by simp [State.endPart]

@[simp] theorem State.kept_showCheck (s : State) (x : Nat) (ok : Option Bool) : (s.showCheck x ok).kept = s.kept := by
  unfold State.showCheck
  extract_lets pg st crc
  split
  · rfl
  · next s₁ s₂ _ ok =>
    have hs₂ : s₂.kept = s.kept := by
      simp only [s₂]
      split <;> simp [s₁, pg]
    simp [hs₂, pg]

@[simp] theorem State.kept_countOutcome (s : State) (x : Nat) (a b : Bool) : (s.countOutcome x a b).kept = s.kept := by
  simp [State.countOutcome]

@[simp] theorem State.kept_countChange (s : State) (h x q : Nat) (g : CovePart → CovePart) : (s.countChange h x q g).kept = s.kept := by
  simp [State.countChange]

@[simp] theorem State.kept_closeStream (s : State) (x : Nat) (c : Bool) (n : Nat) : (s.closeStream x c n).kept = s.kept := by
  unfold State.closeStream
  extract_lets st seq sof rows
  split
  extract_lets s₁ s₂ s₃
  have hs₂ : s₂.kept = s₁.kept := by
    simp only [s₂]
    split <;> simp
  have hs₃ : s₃.kept = s.kept := by simp [s₃, hs₂, s₁]
  split
  simp [State.kept_foldl, hs₃]

@[simp] theorem State.kept_truncateStream (s : State) (x n : Nat) : (s.truncateStream x n).kept = s.kept := by simp [State.truncateStream]
@[simp] theorem State.kept_cutStream (s : State) (x c : Nat) : (s.cutStream x c).kept = s.kept := by simp [State.cutStream]

@[simp] theorem State.kept_cutParts (s : State) (p : HalfFrame → CovePart → Bool) : (s.cutParts p).kept = s.kept :=
  State.kept_foldl (fun _ _ => State.kept_foldl (by simp) _ _) _ _

@[simp] theorem State.kept_truncateParts (s : State) (h x q r : Nat) : (s.truncateParts h x q r).kept = s.kept := by
  unfold State.truncateParts
  split
  · rfl
  · simp [State.kept_foldl]

@[simp] theorem State.kept_rawResult (s : State) (h : Nat) (r : MemResult) : (s.rawResult h r).kept = s.kept := by
  unfold State.rawResult
  split
  · rfl
  · rename_i ht
    rw [← State.kept_takeResult ht]
    simp [State.kept_foldl]

@[simp] theorem State.kept_takeOne (s : State) (h : Nat) (r : MemResult) : (s.takeOne h r).kept = s.kept := by
  unfold State.takeOne
  split <;> simp

@[simp] theorem State.kept_takeUp (s : State) (h : Nat) : (s.takeUp h).kept = s.kept := State.kept_foldl (by simp) _ _

end Sys2Proof.Machine
end

section
/-! PROOFS. Instances that lose power and domains that switch. -/

namespace Sys2Proof.Machine

@[simp] theorem State.kept_resetPort (s : State) (n : Nat) : (s.resetPort n).kept = s.kept := by simp [State.resetPort]

@[simp] theorem State.kept_resetCove (s : State) (n : Nat) : (s.resetCove n).kept = s.kept := by
  unfold State.resetCove
  extract_lets s₁ led s₂ s₃
  have hs₁ : s₁.kept = s.kept := by simp [s₁, State.cutCove]
  have hs₂ : s₂.kept = s₁.kept := by
    refine State.kept_foldl ?_ _ _
    intro _ _
    rfl
  have hs₃ : s₃.kept = s₂.kept := State.kept_putCove ..
  rw [State.kept_foldl fun s c => State.kept_lhRestart s n c, hs₃, hs₂, hs₁]

@[simp] theorem State.kept_pairDown (s : State) (k : Nat) : (s.pairDown k).kept = s.kept := by
  simp only [State.pairDown, State.kept_beaconDropLp]
  rfl

@[simp] theorem State.kept_resetWindow (s : State) (n : Nat) : (s.resetWindow n).kept = s.kept := by simp [State.resetWindow]

theorem State.kept_dropCommit (s : State) {pg : Nat} (h : 7 < pg) : (s.dropCommit pg).kept = s.kept := by
  simp only [State.dropCommit, State.kept_ite, State.kept_putGrp, State.kept_put _ _ _ h, ite_self]
  rfl

theorem State.kept_lowerAll (s : State) (r : PageRef) (b : Bool) (h : 7 < r.block.page r.inst r.idx) : (s.lowerAll r b).kept = s.kept :=
  State.kept_foldl (by simp [h]) _ _

/-- A read of a key that a sweep over keys keeps. -/
theorem SMap.get_filter_kept {α : Type} (d : Nat → α) (m : SMap α) {p : Nat → Bool} {k : Nat} (h : p k = true) :
    SMap.get d (m.filter fun e => p e.1) k = SMap.get d m k := by
  induction m with
  | nil => rfl
  | cons e r ih =>
    by_cases hk : e.1 = k
    · simp [hk, h, SMap.get]
    · by_cases hp : p e.1 = true <;> simp [hp, hk, SMap.get, ih]

theorem State.kept_resetFields (s : State) (r : PageRef) (b : Bool) (h : 7 < r.block.page r.inst r.idx) : (s.resetFields r b).kept = s.kept := by
  have hrec : ∀ k, SMap.get resetField (s.resetFields r b).regs (7 * 0x8000 + k % 0x8000) = SMap.get resetField s.regs (7 * 0x8000 + k % 0x8000) := by
    intro k
    refine SMap.get_filter_kept (p := fun k => k / 0x8000 != r.block.page r.inst r.idx || fieldKept r b k) _ _ ?_
    have hdiv : (7 * 0x8000 + k % 0x8000) / 0x8000 = 7 := by omega
    simp only [hdiv, bne_iff_ne.mpr h.ne, Bool.true_or]
  simp only [State.kept, hrec]
  rfl

theorem State.kept_resetPages (s : State) (r : PageRef) (b : Bool) (h : r.block ≠ .chip) : (s.resetPages r b).kept = s.kept := by
  have hpage : ∀ p, 7 < r.block.page r.inst p := Block.lt_page h _
  have hbase : 7 < r.base := hpage 0
  unfold State.resetPages
  extract_lets en req s₁ s₂
  have hs₂ : s₂.kept = s₁.kept := by
    simp only [s₂, List.foldl_map]
    exact State.kept_foldl (fun s p => by simp [hpage, State.kept_resetFields, State.kept_lowerAll, State.kept_dropCommit]) _ _
  rw [State.kept_put _ _ _ hbase, State.kept_put _ _ _ hbase, hs₂]
  rfl

theorem State.kept_resetUnit (s : State) (r : PageRef) (h : r.block ≠ .tidemark) : (s.resetUnit r).kept = s.kept := by
  obtain ⟨b, n, p⟩ := r
  cases b with
  | tidemark => exact absurd rfl h
  | chip | breakwater | fastStatus | beacon | seawall | bridge | mac => rfl
  | cove => exact State.kept_resetCove s n
  | lighthouse => exact State.kept_foldl (fun s c => State.kept_lhRestart s n c) _ s
  | sounding => exact State.kept_dropTaps s n
  | harbour => simp [State.resetUnit, State.cutHarbour]
  | drift => simp [State.resetUnit]
  | weatas => exact (State.kept_putLane ..).trans (State.kept_laneOff s n)
  | csiRx => exact (State.kept_putCsi ..).trans (State.kept_rxOff s n)
  | csiTx => exact State.kept_txOff s n
  | inlet => exact State.kept_resetPort s n
  | streamTab => exact State.kept_foldl (fun s x => State.kept_truncateStream s x 2) _ s
  | jetty => exact State.kept_resetWindow s n
  | pcie => exact State.kept_resetFunction s n
  | lp => exact State.kept_pairDown s n

theorem State.kept_judgeAfresh (s : State) (r : PageRef) (h : r.block ≠ .tidemark) : (s.judgeAfresh r).kept = s.kept := by
  obtain ⟨b, n, p⟩ := r
  cases b with
  | tidemark => exact absurd rfl h
  | inlet | pcie | harbour => simp [State.judgeAfresh]
  | mac => exact State.kept_cond s _ _ (.inr (Block.lt_page (b := .mac) (by decide) n 0))
  | csiTx => exact State.kept_judgeTx s n
  | chip => exact State.kept_lower s 1 (.inl (by decide))
  | breakwater | streamTab | weatas | csiRx | lp | beacon | seawall | lighthouse | sounding | fastStatus | jetty | bridge | cove | drift => rfl

theorem State.kept_resetInstance (s : State) {r : PageRef} (hchip : r.block ≠ .chip) (htide : r.block ≠ .tidemark) :
    (s.resetInstance r true).kept = s.kept := by
  simp [State.resetInstance, State.kept_judgeAfresh _ _ htide, State.kept_resetPages _ _ _ hchip, State.kept_resetUnit _ _ htide]

@[simp] theorem State.kept_closeQuiet (s : State) (b : Nat) : (s.closeQuiet b).kept = s.kept := by
  unfold State.closeQuiet
  split
  · rfl
  · exact (State.kept_eventIf _ _ _ (.inr (by decide))).trans (State.kept_put _ _ _ (by decide))

@[simp] theorem State.kept_judgePll (s : State) : s.judgePll.kept = s.kept := by simp [State.judgePll]

@[simp] theorem State.kept_putPll (s : State) (i : Nat) (on : Bool) : (s.putPll i on).kept = s.kept :=
  State.kept_put_of_ne s _ (by decide)

/-- The chip and the Tidemark stand in domains that are on except in sleep (R557). -/
theorem block_of_mem_instancesOf {d : Nat} {r : PageRef} (hr : r ∈ instancesOf d) (hd : d ∉ alwaysOn) :
    r.block ≠ .chip ∧ r.block ≠ .tidemark := by
  obtain ⟨b, n, p⟩ := r
  have hdom : PageRef.domain ⟨b, n, p⟩ = d := by simpa using (List.mem_filter.mp hr).2
  subst hdom
  constructor
  · rintro rfl; exact hd (show 86 ∈ alwaysOn by decide)
  · rintro rfl; exact hd (show 82 ∈ alwaysOn by decide)

theorem State.kept_setPower {s : State} {p : PowerSt} (hheld : p.held = s.power.held) (hreset : p.inReset = s.power.inReset) :
    ({ s with power := p } : State).kept = s.kept := by
  simp only [State.kept, hheld, hreset, State.harb]

theorem State.kept_discard (s : State) {d : Nat} (hd : d ∉ alwaysOn) : (s.discard d).kept = s.kept := by
  unfold State.discard
  extract_lets s₁ s₂ s₃
  have hs₁ : s₁.kept = s.kept := by
    refine State.kept_foldl_mem (fun r hr s => ?_) s
    obtain ⟨hchip, htide⟩ := block_of_mem_instancesOf hr hd
    extract_lets t₁ t₂
    have ht₂ : t₂.kept = s.kept := by simp [t₂, t₁, State.kept_resetInstance _ hchip htide]
    exact (State.kept_closeQuiet _ _).trans ((State.kept_setPower rfl rfl).trans ht₂)
  have hs₂ : s₂.kept = s₁.kept := by simp [s₂]
  have hs₃ : s₃.kept = s₂.kept := by simp [s₃]
  simp [hs₃, hs₂, hs₁]

theorem State.kept_put_ack (s : State) {d : Nat} (hd : d < 96) (v : Nat) : (s.put 0x3 (Chip.PD_CTRL_ACK.nth d) v).kept = s.kept := by
  refine State.kept_put_of_ne s v ?_
  simp only [fieldKey, Field.nth, Chip.PD_CTRL_ACK]
  omega

theorem State.kept_startSwitch (s : State) {d : Nat} (hd : d < 96) (up : Bool) (hup : up = false → d ∉ alwaysOn) : (s.startSwitch d up).kept = s.kept := by
  cases up with
  | true => exact State.kept_setPower rfl rfl
  | false => exact (State.kept_discard _ (hup rfl)).trans ((State.kept_setPower rfl rfl).trans (State.kept_put_ack s hd 0))

theorem mem_withRequired {x : Bool} {l : List Nat} {d : Nat} (hd : d < 96) (h : d ∈ l) : d ∈ withRequired x l := by
  simp [withRequired, hd, h]

theorem mem_wanted_of_alwaysOn {s : State} {d : Nat} (hsleep : s.power.asleep = false) (hd : d ∈ alwaysOn) : d ∈ s.wanted := by
  have hlt : d < 96 := (by decide : ∀ d ∈ alwaysOn, d < 96) d hd
  have hask : s.asked d = true := by simp [State.asked, hsleep, hd]
  have hmem : d ∈ (List.range 96).filter s.asked := List.mem_filter.mpr ⟨List.mem_range.mpr hlt, hask⟩
  exact mem_withRequired hlt (mem_withRequired hlt (mem_withRequired hlt (mem_withRequired hlt hmem)))

theorem State.kept_pumpOne (s : State) : s.pumpOne.kept = s.kept := by
  unfold State.pumpOne
  split
  · rfl
  · next hidle =>
    simp only [Bool.or_eq_true, not_or, Bool.not_eq_true] at hidle
    obtain ⟨⟨-, hsleep⟩, -⟩ := hidle
    extract_lets want
    split
    · rfl
    · next d hd =>
      have hlt : d < 96 := List.mem_range.mp (List.mem_of_find?_eq_some hd)
      refine State.kept_startSwitch s hlt _ fun hrise hon => ?_
      have hwant : d ∈ want := mem_wanted_of_alwaysOn hsleep hon
      have hmay := List.find?_some hd
      simp [hrise, State.mayFall, hwant] at hmay

theorem State.kept_pumpPower (s : State) : s.pumpPower.kept = s.kept := by
  simp only [State.pumpPower, State.kept_pumpOne]
  exact State.kept_setPower rfl rfl

@[simp] theorem State.kept_trainPort (s : State) (n : Nat) : (s.trainPort n).kept = s.kept := by simp [State.trainPort]

@[simp] theorem State.kept_judgeTog (s : State) : s.judgeTog.kept = s.kept := by
  unfold State.judgeTog
  extract_lets on s₁
  have hs₁ : s₁.kept = s.kept := State.kept_put s _ _ (by decide)
  split
  · exact hs₁
  · exact hs₁

@[simp] theorem State.kept_driveErr (s : State) : s.driveErr.kept = s.kept := by
  unfold State.driveErr
  split
  · rfl
  · extract_lets s₁
    have hs₁ : s₁.kept = s.kept := by simp [s₁, seven_lt_bwPage]
    exact (State.kept_judgeTog _).trans hs₁

/-- The core has left reset, and the rest of leaving it is still to come. -/
def State.outOfReset (s : State) : State := { s with power := { s.power with inReset := false } }

theorem State.kept_leaveReset_free {s : State} (h : (s.power.por || s.power.pinLow || s.power.held) = false) :
    s.leaveReset.kept = s.outOfReset.kept := by
  have hmode : ∀ (t : State) v, (t.put 0x0 Chip.CHIP_CFG_HOST_MODE v).kept = t.kept := fun t v => State.kept_put_of_ne t v (by decide)
  have hstrap : ∀ (t : State) v, (t.put 0x8 Chip.BOOT_STAT_HMODE v).kept = t.kept := fun t v => State.kept_put t _ v (by decide)
  have hfuse : ∀ (t : State) p, (t.cond 0x0 0 p).kept = t.kept := fun t p => State.kept_cond t 0 p (.inl (by decide))
  have hseq : ∀ (t : State) p, (t.cond 0x2 4 p).kept = t.kept := fun t p => State.kept_cond t 4 p (.inl (by decide))
  simp only [State.leaveReset, h, Bool.false_eq_true, if_false, State.kept_pumpPower, State.kept_trainPort, State.kept_ite, State.kept_driveErr,
    ite_self, hseq, hfuse, hstrap, hmode]
  rfl

theorem State.kept_leaveReset (s : State) :
    s.leaveReset.kept = { s.kept with inReset := s.power.inReset && (s.power.por || s.power.pinLow || s.power.held) } := by
  by_cases h : (s.power.por || s.power.pinLow || s.power.held) = true
  · simp [State.leaveReset, h, State.kept]
  · rw [State.kept_leaveReset_free (by simpa using h)]
    simp [State.kept, State.outOfReset, State.harb, h]

end Sys2Proof.Machine
end

section
/-! PROOFS. Software resets, chip resets and the hold of the TAP. -/

namespace Sys2Proof.Machine

/-! ## What an outcome shows of it -/

theorem State.get_of_kept {s t : State} {f : Field} (hf : f.off * 8 + f.lo < 0x8000) (h : t.kept.records = s.kept.records) :
    t.get 0x7 f = s.get 0x7 f := by
  have hk : 0x7 * 0x8000 + (f.off * 8 + f.lo) % 0x8000 = fieldKey 0x7 f := by
    unfold fieldKey
    omega
  have := congrFun h (f.off * 8 + f.lo)
  simpa only [State.kept, State.get, hk] using this

theorem SameMemory.of_kept {s t : State} (h : t.kept.memory = s.kept.memory) : SameMemory s t := by
  intro k pa
  have := congrFun h k
  simp only [State.kept] at this
  simp only [State.memByte, this]

theorem leaveReset_get (s : State) {f : Field} (hf : f.off * 8 + f.lo < 0x8000) : s.leaveReset.get 0x7 f = s.get 0x7 f :=
  State.get_of_kept hf (by rw [State.kept_leaveReset])

/-! ## The end of the TAP's hold (R619) -/

/-- What the end of a hold records, before the core leaves reset: PIN (R619). -/
def State.unheld (s : State) : State :=
  (({ s with power := { s.power with held := false } } : State).put 0x7 Chip.RST_CAUSE_PIN 1).put 0x7 Chip.RST_LAST_CAUSE 3

theorem endHold_of_free {s : State} (h : s.power.held = false) : s.endHold = s := by
  simp [State.endHold, h]

theorem State.kept_endHold {s : State} (h : s.power.held = true) :
    s.endHold.kept = { s.unheld.kept with inReset := s.power.inReset && (s.power.por || s.power.pinLow) } := by
  have hend : s.endHold = if s.power.inReset then s.unheld.leaveReset else s.unheld := by
    unfold State.endHold
    rw [if_neg (by simp [h])]
    rfl
  cases hreset : s.power.inReset
  · simp [hend, hreset, State.kept, State.unheld]
  · simp [hend, hreset, State.kept_leaveReset, State.unheld]

theorem unheld_pin (s : State) : s.unheld.flag 0x7 Chip.RST_CAUSE_PIN = true := by
  have hne : fieldKey 0x7 Chip.RST_LAST_CAUSE ≠ fieldKey 0x7 Chip.RST_CAUSE_PIN := by decide
  rw [State.unheld, State.flag, State.get_put_other _ _ hne, State.get_put_same]
  decide

theorem unheld_lastCause (s : State) : s.unheld.get 0x7 Chip.RST_LAST_CAUSE = 3 := by
  rw [State.unheld, State.get_put_same]
  decide

/-- The end of a hold, or its absence, in the words of the statement: what `TAP_INSTRUCTION` and `TAP_RESET` share. -/
theorem endHold_ends (s : State) : s.endHold.power.held = false ∧
    (s.power.held = true → s.endHold.flag 0x7 Chip.RST_CAUSE_PIN = true ∧ s.endHold.get 0x7 Chip.RST_LAST_CAUSE = 3 ∧
      (s.power.por = false → s.power.pinLow = false → s.endHold.power.inReset = false)) ∧
    (s.power.held = false → s.endHold.regs = s.regs ∧ s.endHold.power = s.power) ∧ SameMemory s s.endHold ∧
    s.endHold.pins.tap = s.pins.tap := by
  cases h : s.power.held with
  | false => simp [endHold_of_free h, h, SameMemory.refl]
  | true =>
    have hk := State.kept_endHold h
    have hrec : s.endHold.kept.records = s.unheld.kept.records := by rw [hk]
    refine ⟨congrArg Kept.held hk, fun _ => ⟨?pin, ?last, ?reset⟩, nofun, ?memory, congrArg Kept.tap hk⟩
    case pin => rw [State.flag, State.get_of_kept (by decide) hrec]; exact unheld_pin s
    case last => rw [State.get_of_kept (by decide) hrec, unheld_lastCause]
    case reset =>
      intro hpor hpin
      exact (congrArg Kept.inReset hk).trans (by simp [hpor, hpin])
    case memory => exact .of_kept (by rw [hk]; rfl)

theorem tapHolds_iff (op : Nat) : tapHolds op = true ↔ op ∈ [0x03, 0x04, 0x05, 0x06, 0x07] := by
  simp only [tapHolds, Bool.and_eq_true, decide_eq_true_eq, List.mem_cons, List.not_mem_nil, or_false]
  omega

/-- The instruction that becomes current: a private one acts as BYPASS on a locked unit (R618). -/
def State.tapNow (s : State) (op : Nat) : Nat :=
  if (op == 1 || op == 2 || tapHolds op || op == 0xFF) || !(Config.ftLock || s.flag 0x0 Chip.CHIP_CFG_FUSE_ERR) then op else 0xFF

/-- The state with an instruction and the boundary register shifted in, before the hold is judged. -/
def State.tapLoaded (s : State) (op : Nat) (scan : Option (BitVec 314)) : State :=
  { s with pins := { s.pins with tap := s.tapNow op,
                                 boundary := if tapRegister s.pins.tap = .boundary then scan.getD s.pins.boundary else s.pins.boundary } }

/-- The core is held: a chip reset is owed unless it was held before (R619). -/
def State.hold (s : State) : State :=
  if s.power.held then s else ({ s with power := { s.power with held := true } } : State).startReset 3

theorem exec_tapInstruction (op : Fin 256) (scan : Option (BitVec 314)) (s : State) : exec (.tapInstruction (op, scan)) s =
    .next (if !tapHolds (s.tapNow op) then (s.tapLoaded op scan).endHold
      else ((s.tapLoaded op scan).emit (.balls (s.tapNow op) (s.tapLoaded op scan).pins.boundary)).hold) := rfl

theorem tapNow_of_holds (s : State) {op : Nat} (h : tapHolds op = true) : s.tapNow op = op := by
  simp [State.tapNow, h]

theorem tapHolds_tapNow (s : State) (op : Nat) : tapHolds (s.tapNow op) = tapHolds op := by
  cases h : tapHolds op
  · unfold State.tapNow
    split
    · exact h
    · rfl
  · rw [tapNow_of_holds s h, h]

theorem hold_power (s : State) : s.hold.power = { s.power with held := true } := by
  cases h : s.power.held
  · simp [State.hold, h, State.startReset]
  · simp only [State.hold, h, if_true]
    rw [← h]

theorem hold_due (s : State) : s.hold.due = if s.power.held = true then s.due else s.due ++ [.chipReset 3] := by
  unfold State.hold
  split <;> rfl

theorem hold_keeps (s : State) : s.hold.regs = s.regs ∧ s.hold.pins = s.pins ∧ s.hold.harbours = s.harbours := by
  unfold State.hold
  split <;> exact ⟨rfl, rfl, rfl⟩

/-! ## Software resets (R567) -/

theorem exec_softResetArm {s : State} {req : Requester} (h : s.serves req (regOff 0x7 Chip.RST_SW_ARM) = true) :
    exec (.softResetArm req) s = .next { s with power := { s.power with swArm := some (req, s.time.c) } } :=
  congrArg Host.Outcome.next (State.onWrite_served h _)

/-- Has a requester armed a software reset within the last 1 µs (R567)? -/
def State.armedFor (s : State) (req : Requester) : Bool :=
  s.power.swArm.any fun (a : Requester × Nat) => a.1 == req && decide (s.time.c - a.2 ≤ 1000)

/-- The ARM is used up. -/
def State.disarmed (s : State) : State := { s with power := { s.power with swArm := none } }

theorem armedFor_iff (s : State) (req : Requester) : s.armedFor req = true ↔ ∃ c, s.power.swArm = some (req, c) ∧ s.time.c - c ≤ 1000 := by
  simp only [State.armedFor, Option.any_eq_true, Bool.and_eq_true, beq_iff_eq, decide_eq_true_eq]
  constructor
  · rintro ⟨⟨r, c⟩, harm, rfl, hsoon⟩
    exact ⟨c, harm, hsoon⟩
  · rintro ⟨c, harm, hsoon⟩
    exact ⟨_, harm, rfl, hsoon⟩

theorem exec_softResetGo {s : State} {req : Requester} (h : s.serves req (regOff 0x7 Chip.RST_SW_GO) = true) :
    exec (.softResetGo req) s =
      .next (if !s.armedFor req then s.event 0x2 2 else if s.power.pinLow then s.disarmed else s.disarmed.startReset 6) :=
  congrArg Host.Outcome.next (State.onWrite_served h _)

/-! ## Chip resets (R565, R579) -/

theorem mem_causesDue (s : State) (c : Nat) : c ∈ s.causesDue ↔ Due.chipReset c ∈ s.due := by
  rw [State.causesDue, List.mem_filterMap]
  constructor
  · rintro ⟨d, hd, h⟩
    cases d with
    | chipReset _ => exact Option.some.inj h ▸ hd
    | _ => nomatch h
  · exact fun h => ⟨_, h, rfl⟩

/-- The state in which a chip reset that is due has recorded its causes. -/
def State.resetRecorded (s : State) : State :=
  let trip := s.causesDue.contains 5 && s.power.resetBy.any (fun (e : Nat × Nat) => e.1 == 17)
  ({ s with power := { s.power with tripped := s.power.tripped || trip } } : State).recordCauses s.causesDue s.power.resetBy

/-- The state of a chip reset before the core leaves it: cleared, counted, and ERR_N driven where the latch is set. -/
def State.resetDone (s : State) (fuseBad : Bool) : State :=
  let s := (s.resetRecorded.cleared.countSat 0x7 Chip.RST_COUNT_COUNT).put 0x0 Chip.CHIP_CFG_FUSE_ERR (bit fuseBad)
  if s.terminal then s.driveErr else s

theorem exec_chipReset {s : State} {c : Nat} (fuseBad : Bool) (h : Due.chipReset c ∈ s.due) :
    exec (.chipReset fuseBad) s = .next (s.resetDone fuseBad).leaveReset := by
  have hdue : s.causesDue.isEmpty = false := List.isEmpty_eq_false_iff_exists_mem.mpr ⟨c, (mem_causesDue s c).mpr h⟩
  change execChipReset fuseBad s = _
  unfold execChipReset
  rw [hdue]
  rfl

theorem power_recordCauses (s : State) (l : List Nat) (b : Option (Nat × Nat)) : (s.recordCauses l b).power = s.power := by
  have hfold : ∀ (l : List Nat) (s : State), (l.foldl (fun (s : State) c => s.put 0x7 (causeField c) 1) s).power = s.power := by
    intro l
    induction l with
    | nil => exact fun _ => rfl
    | cons c l ih => exact fun s => (ih _).trans rfl
  unfold State.recordCauses
  extract_lets last s₁ s₂ s₃
  have hs₁ : s₁.power = s.power := hfold l s
  split <;> exact hs₁

theorem causeField_size (c : Nat) : (causeField c).size = 2 := by
  unfold causeField
  split <;> rfl

/-- Each recorded cause sets its bit, and no other takes it back. -/
theorem get_causes (l : List Nat) (s : State) {c : Nat} (h : c ∈ l ∨ s.get 0x7 (causeField c) = 1) :
    (l.foldl (fun (s : State) d => s.put 0x7 (causeField d) 1) s).get 0x7 (causeField c) = 1 := by
  induction l generalizing s with
  | nil => simpa using h
  | cons d l ih =>
    refine ih _ ?_
    rw [State.get_put, causeField_size]
    rcases h with hmem | hset
    · rcases List.mem_cons.mp hmem with rfl | hmem
      · simp
      · exact .inl hmem
    · simp [hset]

theorem get_recordCauses (s : State) {l : List Nat} (b : Option (Nat × Nat)) (h : 6 ∈ l) :
    (s.recordCauses l b).get 0x7 Chip.RST_CAUSE_SOFTWARE = 1 := by
  unfold State.recordCauses
  extract_lets last s₁ s₂ s₃
  have hs₁ : s₁.get 0x7 Chip.RST_CAUSE_SOFTWARE = 1 := get_causes l s (c := 6) (.inl h)
  have hs₃ : s₃.get 0x7 Chip.RST_CAUSE_SOFTWARE = 1 := by
    rw [State.get_put_other _ _ (by decide), State.get_put_other _ _ (by decide), hs₁]
  split
  · exact hs₃
  · rw [State.get_put_other _ _ (by decide), State.get_put_other _ _ (by decide), State.get_put_other _ _ (by decide), hs₃]

theorem get_cleared (s : State) {pg : Nat} {f : Field} (h : (pg, f) ∈ retainedFields) : s.cleared.get pg f = s.get pg f := by
  refine SMap.get_filter_kept (p := fun k => retainedFields.any fun r => fieldKey r.1 r.2 == k) _ _ ?_
  simp only [List.any_eq_true]
  exact ⟨_, h, by simp⟩

theorem State.kept_resetDone (s : State) (fuseBad : Bool) :
    (s.resetDone fuseBad).kept = (s.resetRecorded.cleared.countSat 0x7 Chip.RST_COUNT_COUNT).kept := by
  have hfuse : ∀ (t : State) v, (t.put 0x0 Chip.CHIP_CFG_FUSE_ERR v).kept = t.kept := fun t v => State.kept_put_of_ne t v (by decide)
  simp [State.resetDone, hfuse]

theorem resetDone_software {s : State} (fuseBad : Bool) (h : Due.chipReset 6 ∈ s.due) :
    (s.resetDone fuseBad).get 0x7 Chip.RST_CAUSE_SOFTWARE = 1 := by
  have hrec : s.resetRecorded.get 0x7 Chip.RST_CAUSE_SOFTWARE = 1 := get_recordCauses _ _ ((mem_causesDue s 6).mpr h)
  have hkeep : (0x7, Chip.RST_CAUSE_SOFTWARE) ∈ retainedFields := by simp [retainedFields]
  rw [State.get_of_kept (by decide) (congrArg Kept.records (State.kept_resetDone s fuseBad)), State.countSat, State.get_put_other _ _ (by decide),
    get_cleared _ hkeep, hrec]

theorem resetDone_held (s : State) (fuseBad : Bool) :
    (s.resetDone fuseBad).power.held = s.power.held ∧ (s.resetDone fuseBad).power.inReset = true := by
  have hk := State.kept_resetDone s fuseBad
  have hheld : s.resetRecorded.power.held = s.power.held := by
    rw [State.resetRecorded, power_recordCauses]
  exact ⟨(congrArg Kept.held hk).trans hheld, congrArg Kept.inReset hk⟩

theorem leaveReset_of_held {s : State} (h : s.power.held = true) : s.leaveReset = s := by
  simp [State.leaveReset, h]

/-- Settles O57, clause by clause: the writes of RST_SW and the instructions of the TAP by what each does to a state, the chip reset by what
leaving it keeps (`State.kept_leaveReset`). -/
theorem softwareResetsAndTapHolds : Obligations.SoftwareResetsAndTapHolds := by
  refine ⟨?arm, ?go, ?software, ?instruction, ?tapReset, ?held⟩
  case arm => exact fun req s h => ⟨_, exec_softResetArm h, rfl, rfl, .of_harbours rfl, rfl, rfl⟩
  case go =>
    intro req s h
    refine ⟨_, exec_softResetGo h, ?armed, ?unarmed, ?rest⟩
    case armed =>
      intro c harm hsoon
      rw [(armedFor_iff s req).mpr ⟨c, harm, hsoon⟩]
      cases hpin : s.power.pinLow <;> exact ⟨rfl, rfl, rfl⟩
    case unarmed =>
      intro hlate
      have hfar : s.armedFor req = false := by
        rw [Bool.eq_false_iff, ne_eq, armedFor_iff]
        rintro ⟨c, harm, hsoon⟩
        exact absurd (hlate c harm) (by omega)
      rw [hfar]
      exact ⟨s.eventBit_event 0x2 (by decide), rfl, rfl, State.event_regs_only (.refl s _) 0x2 2 (.head _)⟩
    case rest =>
      split
      · exact ⟨rfl, .of_harbours rfl⟩
      · split <;> exact ⟨rfl, .of_harbours rfl⟩
  case software =>
    intro fuseBad s h
    refine ⟨_, exec_chipReset fuseBad h, ?_⟩
    change ((s.resetDone fuseBad).leaveReset.get 0x7 Chip.RST_CAUSE_SOFTWARE != 0) = true
    rw [leaveReset_get _ (by decide), resetDone_software fuseBad h]
    rfl
  case instruction =>
    intro op scan s
    refine ⟨_, exec_tapInstruction op scan s, ?_⟩
    rw [tapHolds_tapNow]
    cases h : tapHolds op
    · have hnot : op.val ∉ [0x03, 0x04, 0x05, 0x06, 0x07] := by rw [← tapHolds_iff, h]; decide
      obtain ⟨hheld, hends, hfree, hmem, -⟩ := endHold_ends (s.tapLoaded op scan)
      exact ⟨fun hop => absurd hop hnot, fun _ => ⟨hheld, hends, hfree⟩, hmem⟩
    · have hop : op.val ∈ [0x03, 0x04, 0x05, 0x06, 0x07] := (tapHolds_iff op).mp h
      obtain ⟨hregs, hpins, hharb⟩ := hold_keeps ((s.tapLoaded op scan).emit (.balls (s.tapNow op) (s.tapLoaded op scan).pins.boundary))
      exact ⟨fun _ => ⟨(congrArg PinSt.tap hpins).trans (tapNow_of_holds s h), hold_power _, hold_due _, hregs⟩,
        fun hnot => absurd hop hnot, .of_harbours hharb⟩
  case tapReset =>
    intro s
    obtain ⟨hheld, hends, hfree, hmem, htap⟩ := endHold_ends { s with pins := { s.pins with tap := 0x01 } }
    exact ⟨_, rfl, htap, hheld, hends, hfree, hmem⟩
  case held =>
    intro fuseBad s c hdue hs
    obtain ⟨hheld, hreset⟩ := resetDone_held s fuseBad
    refine ⟨_, exec_chipReset fuseBad hdue, ?_⟩
    rw [leaveReset_of_held (hheld.trans hs)]
    exact ⟨hheld.trans hs, hreset, by simp [State.bootMayStart, hreset]⟩

end Sys2Proof.Machine
end

section
/-!
PROOFS. The state right after reset (R557, R565), field by field where the manual gives a field a reset value of its own.
-/
namespace Sys2Proof.Machine

/-- A field whose reset value is `specialReset`'s. -/
theorem resetField_of_special {pg off lo v : Nat} {p : PageRef} (hpage : pageRef pg = some p) (hoff : off % 4 = 0) (hin : off < 0x800)
    (hlo : lo < 32) (hv : specialReset p off lo = some v) : resetField (pg * 0x8000 + off * 8 + lo) = v := by
  have hpg : (pg * 0x8000 + off * 8 + lo) / 0x8000 = pg := by omega
  have hbit : (pg * 0x8000 + off * 8 + lo) % 0x4000 = off * 8 + lo := by omega
  have hword : (off * 8 + lo) / 32 * 4 = off := by omega
  have hlow : (off * 8 + lo) % 32 = lo := by omega
  simp only [resetField, hpg, hbit, hword, hlow, hpage, hv]

theorem State.reset_get (pg : Nat) (f : Field) : State.reset.get pg f = resetField (pg * 0x8000 + f.off * 8 + f.lo) := rfl

theorem State.reset_get_PD_CTRL_REQ (d : Fin 96) : State.reset.get 0x3 (Chip.PD_CTRL_REQ.nth d) = bit (resetDomains.contains d.val) := by
  have hd : (0x100 + 4 * d.val - 0x100) / 4 = d.val := by omega
  have hoff : (Chip.PD_CTRL_REQ.nth d).off = 0x100 + 4 * d.val := by simp [Field.nth, Chip.PD_CTRL_REQ]
  rw [State.reset_get, hoff]
  refine resetField_of_special (p := ⟨.chip, 0, 3⟩) rfl (by omega) (by omega) (show Chip.PD_CTRL_REQ.lo < 32 by decide) ?_
  simp [specialReset, Field.nth, Chip.PD_CTRL_REQ, bit]

theorem State.reset_get_SRC_CFG_SEV (src : Fin 1536) :
    State.reset.get (0x21 + src / 384) (Breakwater.SRC_CFG_SEV.nth (src % 384)) = defaultSev src := by
  have hoff : (Breakwater.SRC_CFG_SEV.nth (src % 384)).off = 0x100 + 4 * (src.val % 384) := by simp [Field.nth, Breakwater.SRC_CFG_SEV]
  have hpage : pageRef (0x21 + src.val / 384) = some ⟨.breakwater, 0, 1 + src.val / 384⟩ := by
    have h : src.val / 384 < 4 := by omega
    generalize src.val / 384 = q at h
    interval_cases q <;> rfl
  rw [State.reset_get, hoff]
  refine resetField_of_special hpage (by omega) (by omega) (show Breakwater.SRC_CFG_SEV.lo < 32 by decide) ?_
  have hsrc : 384 * (1 + src.val / 384 - 1) + (0x100 + 4 * (src.val % 384) - 0x100) / 4 = src.val := by omega
  have hidx : 1 ≤ 1 + src.val / 384 ∧ 1 + src.val / 384 ≤ 4 ∧ 0x100 ≤ 0x100 + 4 * (src.val % 384) := by omega
  simp only [specialReset, hidx, and_self, if_true, hsrc]
  simp [Field.nth, Breakwater.SRC_CFG_SEV]

/-- Settles O2: nothing is written, so a field reads its reset value. -/
theorem resetHoldsNothingWritten : Obligations.ResetHoldsNothingWritten :=
  ⟨rfl, rfl, rfl, rfl, rfl, fun _ _ => rfl, State.reset_get_PD_CTRL_REQ, State.reset_get_SRC_CFG_SEV⟩

end Sys2Proof.Machine
end

section
/-!
PROOFS. What every operation of the model leaves as it is (`Quiet`): the queue of commands, the canonical form of registers and memories, and,
but for the operations that write local memory, both memories. One lemma an operation, in the order of the model's files.
-/
namespace Sys2Proof.Machine

/-- From s to t the queue is as it was, and registers and memories in canonical form stay so; where `m` holds, no byte of memory changes. -/
structure Quiet (m : Prop) (s t : State) : Prop where
  pending : t.pending = s.pending
  regs : SMap.wf resetField s.regs = true → SMap.wf resetField t.regs = true
  wf : ∀ k, Memory.wf (s.harb k).mem = true → Memory.wf (t.harb k).mem = true
  memory : m → ∀ k, (t.harb k).mem = (s.harb k).mem

variable {m : Prop} {r s t : State}

theorem Quiet.refl (s : State) : Quiet m s s := ⟨rfl, id, fun _ => id, fun _ _ => rfl⟩

theorem Quiet.trans (h : Quiet m r s) (h' : Quiet m s t) : Quiet m r t :=
  ⟨h'.pending.trans h.pending, h'.regs ∘ h.regs, fun k => h'.wf k ∘ h.wf k, fun hm k => (h'.memory hm k).trans (h.memory hm k)⟩

theorem Quiet.sameMemory (h : Quiet True s t) : SameMemory s t := fun k pa => by rw [State.memByte, h.memory trivial, State.memByte]

theorem Quiet.canonical (h : Quiet m s t) (hs : s.canonical = true) : t.canonical = true := by
  simp only [State.canonical, Bool.and_eq_true] at hs ⊢
  obtain ⟨⟨hregs, h0⟩, h1⟩ := hs
  exact ⟨⟨h.regs hregs, h.wf 0 h0⟩, h.wf 1 h1⟩

/-- An update of other parts of the state. -/
theorem Quiet.same (h : Quiet m r s) (e : (t.pending, t.regs, t.harbours) = (s.pending, s.regs, s.harbours)) : Quiet m r t := by
  simp only [Prod.mk.injEq] at e
  obtain ⟨hp, hr, hh⟩ := e
  have hharb : ∀ k, t.harb k = s.harb k := fun k => by rw [State.harb, hh, State.harb]
  exact h.trans ⟨hp, by rw [hr]; exact id, fun k => by rw [hharb]; exact id, fun _ k => by rw [hharb]⟩

/-- An update of the registers. -/
theorem Quiet.setRegs (h : Quiet m r s) (e : (t.pending, t.harbours) = (s.pending, s.harbours))
    (hr : SMap.wf resetField s.regs = true → SMap.wf resetField t.regs = true) : Quiet m r t := by
  simp only [Prod.mk.injEq] at e
  obtain ⟨hp, hh⟩ := e
  have hharb : ∀ k, t.harb k = s.harb k := fun k => by rw [State.harb, hh, State.harb]
  exact h.trans ⟨hp, hr, fun k => by rw [hharb]; exact id, fun _ k => by rw [hharb]⟩

theorem Quiet.ite {c : Prop} [Decidable c] (hs : Quiet m r s) (ht : Quiet m r t) : Quiet m r (if c then s else t) := by
  split <;> assumption

theorem Quiet.foldl {α : Type} {f : State → α → State} {l : List α} (h : Quiet m r s) (hf : ∀ s a, Quiet m r s → Quiet m r (f s a)) :
    Quiet m r (l.foldl f s) := by
  induction l generalizing s with
  | nil => exact h
  | cons a l ih => exact ih (hf s a h)

/-- A command answers a next state that is Quiet from r on. -/
def Answers (m : Prop) (r : State) (o : Result) : Prop := ∃ t, o = .next t ∧ Quiet m r t

theorem Quiet.next {m : Prop} {r s : State} (h : Quiet m r s) : Answers m r (.next s) := ⟨s, rfl, h⟩

theorem SMap.wf_filter {α : Type} [DecidableEq α] (d : Nat → α) {l : SMap α} (p : Nat × α → Bool) (h : SMap.wf d l = true) :
    SMap.wf d (l.filter p) = true := by
  rw [SMap.wf_iff] at h ⊢
  obtain ⟨hrising, hd⟩ := h
  exact ⟨hrising.filter p, fun e he => hd e (List.mem_of_mem_filter he)⟩

theorem SMap.wf_foldl_set {α β : Type} [DecidableEq α] (d : Nat → α) (key : β → Nat) (val : β → α) (l : List β) {l' : SMap α}
    (h : SMap.wf d l' = true) : SMap.wf d (l.foldl (fun a b => SMap.set d a (key b) (val b)) l') = true := by
  induction l generalizing l' with
  | nil => exact h
  | cons b l ih => exact ih (SMap.wf_set d _ _ _ h)

theorem wf_writeBytes {l : SMap Byte} (pa : Nat) (bs : List Byte) (h : Memory.wf l = true) : Memory.wf (writeBytes l pa bs) = true := by
  induction bs generalizing l pa with
  | nil => exact h
  | cons b bs ih => exact ih (pa + 1) (SMap.wf_set _ _ _ _ h)

theorem Answers.nextOf {o : Result} (h : Answers m r o) : Quiet m r (nextOf s o) := by
  obtain ⟨t, rfl, ht⟩ := h
  exact ht

theorem Quiet.ofOption {o : Option State} (h : Quiet m r s) (ho : ∀ t, o = some t → Quiet m r t) : Quiet m r (o.getD s) := by
  cases o with
  | none => exact h
  | some t => exact ho t rfl

theorem Quiet.foldl_fst {α β : Type} {f : State × β → α → State × β} {l : List α} {a : State × β} (h : Quiet m r a.1)
    (hf : ∀ a k, Quiet m r a.1 → Quiet m r (f a k).1) : Quiet m r (l.foldl f a).1 := by
  induction l generalizing a with
  | nil => exact h
  | cons k l ih => exact ih (hf a k h)

theorem Quiet.foldl_snd {α β : Type} {f : β × State → α → β × State} {l : List α} {a : β × State} (h : Quiet m r a.2)
    (hf : ∀ a k, Quiet m r a.2 → Quiet m r (f a k).2) : Quiet m r (l.foldl f a).2 := by
  induction l generalizing a with
  | nil => exact h
  | cons k l ih => exact ih (hf a k h)

/-- A Harbour takes a new content, its memory among it. -/
theorem Quiet.putHarbMem {k : Nat} {x : HarbourSt} (h : Quiet False r s) (hx : Memory.wf (s.harb k).mem = true → Memory.wf x.mem = true) :
    Quiet False r (s.putHarb k x) := by
  refine h.trans ⟨rfl, id, fun j hj => ?_, False.elim⟩
  rw [State.harb_putHarb]
  split
  · subst_vars; exact hx hj
  · exact hj

theorem Quiet.wf_mem_foldl {l : List Nat} {f : Nat → HarbourSt} {a : SMap HarbourSt} (hf : ∀ k, Memory.wf (f k).mem = true)
    (ha : ∀ k, Memory.wf (SMap.get (fun _ => {}) a k).mem = true) (k : Nat) :
    Memory.wf (SMap.get (fun _ => {}) (l.foldl (fun m h => SMap.set (fun _ => {}) m h (f h)) a) k).mem = true := by
  induction l generalizing a with
  | nil => exact ha k
  | cons j l ih =>
    refine ih fun i => ?_
    rw [SMap.get_set]
    split
    · exact hf j
    · exact ha i

/-- A fold that carries two values before the state. -/
theorem Quiet.foldl_snd_snd {α β γ : Type} {f : β × γ × State → α → β × γ × State} {l : List α} {a : β × γ × State} (h : Quiet m r a.2.2)
    (hf : ∀ a k, Quiet m r a.2.2 → Quiet m r (f a k).2.2) : Quiet m r (l.foldl f a).2.2 := by
  induction l generalizing a with
  | nil => exact h
  | cons k l ih => exact ih (hf a k h)

/-! ## What the operations of Ops leave as it is -/

theorem Quiet.put {pg : Nat} {f : Field} {v : Nat} (h : Quiet m r s) : Quiet m r (s.put pg f v) := h.setRegs (by rfl) (SMap.wf_set _ _ _ _)

theorem Quiet.putLive {pg : Nat} {f : Field} {v : Nat} (h : Quiet m r s) : Quiet m r (s.putLive pg f v) := h.setRegs (by rfl) (SMap.wf_set _ _ _ _)

theorem Quiet.putBoth {pg : Nat} {f : Field} {v : Nat} (h : Quiet m r s) : Quiet m r (s.putBoth pg f v) := h.put.putLive

theorem Quiet.countSat {pg : Nat} {f : Field} {n : optParam Nat 1} (h : Quiet m r s) : Quiet m r (s.countSat pg f n) := h.put

theorem Quiet.countWrap {pg : Nat} {f : Field} {n : optParam Nat 1} (h : Quiet m r s) : Quiet m r (s.countWrap pg f n) := h.put

theorem Quiet.putMax {pg : Nat} {f : Field} {v : Nat} (h : Quiet m r s) : Quiet m r (s.putMax pg f v) := h.put

theorem Quiet.emit {o : Out} (h : Quiet m r s) : Quiet m r (s.emit o) := h.same (by rfl)

theorem Quiet.owe {d : Due} (h : Quiet m r s) : Quiet m r (s.owe d) := h.same (by rfl)

theorem Quiet.fresh {x₀ : Nat} (h : Quiet m r s) (e : s.fresh = (x₀, t)) : Quiet m r t := by
  have key : Quiet m r (s.fresh).2 := h.same (by rfl)
  rwa [e] at key

theorem Quiet.putFit {pg : Nat} {f : Field} {v : ℤ} (h : Quiet m r s) : Quiet m r (s.putFit pg f v) := by
  unfold State.putFit
  split
  · exact h.put
  · split
    · rename_i heq
      have h₁ := h.fresh heq
      exact h₁.put

/-- A Harbour takes a new content but keeps its memory. -/
theorem Quiet.putHarb {k : Nat} {x : HarbourSt} (h : Quiet m r s) (hx : x.mem = (s.harb k).mem) : Quiet m r (s.putHarb k x) := by
  have hmem : ∀ j, ((s.putHarb k x).harb j).mem = (s.harb j).mem := by
    intro j
    rw [State.harb_putHarb]
    split
    · subst_vars; exact hx
    · rfl
  exact h.trans ⟨rfl, id, fun j => by rw [hmem]; exact id, fun _ => hmem⟩

theorem Quiet.dropTlb {h₀ : Nat} (h : Quiet m r s) : Quiet m r (s.dropTlb h₀) := h.putHarb (by rfl)

theorem Quiet.memWrite {k pa : Nat} {bs : List Byte} (h : Quiet False r s) : Quiet False r (s.memWrite k pa bs) :=
  h.putHarbMem (wf_writeBytes pa bs)

theorem Quiet.noteSplit {h₀ x k seq row : Nat} (h : Quiet m r s) : Quiet m r (s.noteSplit h₀ x k seq row) := by
  unfold State.noteSplit
  split
  · exact h
  · extract_lets x₁ s₁
    have h₁ : Quiet m r s₁ := h.same (by rfl)
    split
    · exact h₁
    · extract_lets s₂
      exact h₁.put.put.put

theorem Quiet.noteHalf {h₀ : Nat} {g : HalfTide → HalfTide} (h : Quiet m r s) : Quiet m r (s.noteHalf h₀ g) := h.same (by rfl)

theorem Quiet.selfCheck {h₀ cause : Nat} (h : Quiet m r s) : Quiet m r (s.selfCheck h₀ cause) := h.noteHalf.owe

theorem Quiet.oweMsix {n : Nat} (h : Quiet m r s) : Quiet m r (s.oweMsix n) := Quiet.ite h.owe h.owe.owe

/-! ## What the operations of Flags leave as it is -/

theorem Quiet.event {pg b : Nat} (h : Quiet m r s) : Quiet m r (s.event pg b) := h.put

theorem Quiet.eventIf {c : Bool} {pg b : Nat} (h : Quiet m r s) : Quiet m r (s.eventIf c pg b) := Quiet.ite h.event h

theorem Quiet.putMarks {pg : Nat} {m₀ : FltMarks} (h : Quiet m r s) : Quiet m r (s.putMarks pg m₀) := h.same (by rfl)

theorem Quiet.occur {pg b : Nat} (h : Quiet m r s) : Quiet m r (s.occur pg b) := h.put.owe

theorem Quiet.raise {pg b : Nat} (h : Quiet m r s) : Quiet m r (s.raise pg b) := Quiet.ite h h.putMarks.occur

theorem Quiet.lower {pg b : Nat} (h : Quiet m r s) : Quiet m r (s.lower pg b) := by
  unfold State.lower
  split
  · extract_lets x s₁ x₁
    have h₁ : Quiet m r s₁ := h.putMarks
    exact Quiet.ite h₁.put.putMarks h₁
  · exact h

theorem Quiet.condEach {pg b : Nat} {p : Bool} (h : Quiet m r s) : Quiet m r (s.condEach pg b p) := Quiet.ite (Quiet.ite h.occur h.raise) h.lower

theorem Quiet.report {pg b : Nat} (h : Quiet m r s) : Quiet m r (s.report pg b) := h.condEach

theorem Quiet.again {pg b : Nat} {was : Bool} (h : Quiet m r s) : Quiet m r (s.again pg b was) := Quiet.ite h.occur h

theorem Quiet.cond {pg b : Nat} {p : Bool} (h : Quiet m r s) : Quiet m r (s.cond pg b p) := Quiet.ite h.raise h.lower

/-! ## What the operations of Access leave as it is -/

theorem Quiet.logAccess {req : Requester} {off : Nat} {write : Bool} {be cause : Nat} (h : Quiet m r s) :
    Quiet m r (s.logAccess req off write be cause) := by
  unfold State.logAccess
  extract_lets s₁ s₂ s₃ s₄ s₅ s₆
  have h₁ : Quiet m r s₁ := h.countSat
  exact Quiet.ite h₁.put h₁.put.put.put.put.put.put.raise

theorem Quiet.onWrite {req : Requester} {off : Nat} {k : State → State} (h : Quiet m r s) (hk : ∀ (a : State), Quiet m r a → Quiet m r (k a)) :
    Quiet m r (s.onWrite req off k) := by
  unfold State.onWrite
  split
  · exact h
  · split
    · exact h.logAccess
    · exact hk _ h

theorem Quiet.holdCapture {req : Requester} {off : Nat} {words : List Nat} (h : Quiet m r s) : Quiet m r (s.holdCapture req off words) :=
  h.same (by rfl)

theorem Quiet.onPop {req : Requester} {off : Nat} {f : State → List Nat × State} (h : Quiet m r s) (hf : ∀ s, Quiet m r s → Quiet m r (f s).2) :
    Quiet m r (s.onPop req off f) := by
  unfold State.onPop
  split
  · exact h
  · split
    · exact h.logAccess.emit
    · exact (Quiet.ite (hf s h) (hf s h).holdCapture).emit

theorem Quiet.writeField {pg w reject : Nat} {f : Field} (h : Quiet m r s) : Quiet m r (s.writeField pg w reject f) := by
  unfold State.writeField
  extract_lets x
  exact Quiet.ite h.put h.event

theorem Quiet.writeFields {pg w reject : Nat} {fs : List Field} (h : Quiet m r s) :
    Quiet m r (s.writeFields pg w reject fs) := h.foldl fun _ _ h₁ => h₁.writeField

/-! ## What the operations of Beacon leave as it is -/

theorem Quiet.putSrc {n : Nat} {x : BeaconSrc} (h : Quiet m r s) : Quiet m r (s.putSrc n x) := h.same (by rfl)

theorem Quiet.srcPut {f : Field} {n v : Nat} (h : Quiet m r s) : Quiet m r (s.srcPut f n v) := h.put

theorem Quiet.putStack {k : Nat} {l : List (Nat × Nat)} (h : Quiet m r s) : Quiet m r (s.putStack k l) := by
  unfold State.putStack
  extract_lets x s₁ x₁ s₂ s₃ s₄ s₅
  have h₁ : Quiet m r s₁ := h.same (by rfl)
  exact h₁.put.put.put.put.put

theorem Quiet.judgeBeacon (h : Quiet m r s) : Quiet m r (s.judgeBeacon) := by
  unfold State.judgeBeacon
  extract_lets x x₁ x₂ x₃
  exact h.cond.cond.cond

theorem Quiet.fireSource {n : Nat} (h : Quiet m r s) : Quiet m r (s.fireSource n) := by
  unfold State.fireSource
  extract_lets s₁ x
  have h₁ : Quiet m r s₁ := h.oweMsix.countWrap
  exact Quiet.ite h₁ (Quiet.ite h₁.countSat h₁.putSrc.judgeBeacon)

theorem Quiet.unpend {n : Nat} (h : Quiet m r s) : Quiet m r (s.unpend n) := h.putSrc

theorem Quiet.pulseSources {c : Nat} (h : Quiet m r s) : Quiet m r (s.pulseSources c) := h.foldl fun _ _ h₁ => h₁.owe

theorem answers_beaconFiring {n : Fin 512} (h : Quiet m r s) :
    Answers m r (execBeaconFiring n s) := Quiet.next (Quiet.ite h (Quiet.ite (Quiet.ite h.putSrc.fireSource h) (Quiet.ite (h.same (by rfl)).fireSource h)))

theorem Quiet.deliver {n k : Nat} (h : Quiet m r s) : Quiet m r (s.deliver n k) := by
  unfold State.deliver
  extract_lets x x₁ s₁ s₂ s₃ s₄ s₅
  have h₁ : Quiet m r s₁ := h.putStack
  have h₂ : Quiet m r s₄ := h₁.putSrc.put.countWrap
  have h₃ : Quiet m r s₅ := h₂.emit
  split
  · rename_i heq
    have h₄ := h₃.fresh heq
    exact Quiet.judgeBeacon (Quiet.ite h₄.putMax h₃)

theorem answers_beaconDeliver (h : Quiet m r s) : Answers m r (execBeaconDeliver s) := by
  unfold execBeaconDeliver
  refine Quiet.next ?_
  split
  · exact h
  · exact h.deliver

theorem answers_beaconLevelFall {n : Fin 512} (h : Quiet m r s) : Answers m r (execBeaconLevelFall n s) := by
  unfold execBeaconLevelFall
  refine Quiet.next ?_
  extract_lets x s₁
  have h₁ : Quiet m r s₁ := h.putSrc
  exact Quiet.ite (Quiet.ite h₁.unpend.countSat.judgeBeacon h₁) h

theorem Quiet.releaseSource {n : Nat} {again : Bool} (h : Quiet m r s) : Quiet m r (s.releaseSource n again) := by
  unfold State.releaseSource
  extract_lets x x₁
  exact h.putSrc

theorem Quiet.putEoiBad {k : Nat} {b : Bool} (h : Quiet m r s) : Quiet m r (s.putEoiBad k b) := by
  unfold State.putEoiBad
  extract_lets x x₁ s₁
  have h₁ : Quiet m r s₁ := h.same (by rfl)
  exact Quiet.ite h₁.report h₁.cond

theorem answers_beaconEoi {req : Requester} {k : Fin 4} {w : Word} (h : Quiet m r s) :
    Answers m r (execBeaconEoi req k w s) := Quiet.next (h.onWrite (fun _ h₁ => by
    extract_lets x
    split
    · exact h₁.event
    · split
      · exact h₁.putEoiBad
      · exact Quiet.ite h₁.putEoiBad h₁.putStack.releaseSource.putEoiBad.judgeBeacon))

theorem answers_beaconSet {req : Requester} {i : Fin 16} {w : Word} (h : Quiet m r s) :
    Answers m r (execBeaconSet req i w s) := Quiet.next (h.onWrite (fun _ h₁ => h₁.foldl fun _ _ h₂ => Quiet.ite h₂.event h₂.fireSource))

theorem answers_beaconClr {req : Requester} {i : Fin 16} {w : Word} (h : Quiet m r s) :
    Answers m r (execBeaconClr req i w s) := Quiet.next (h.onWrite (fun _ h₁ => Quiet.judgeBeacon (h₁.foldl fun _ _ h₂ => Quiet.ite h₂ h₂.unpend)))

theorem answers_beaconWatchdog {n : Fin 512} (h : Quiet m r s) : Answers m r (execBeaconWatchdog n s) := by
  unfold execBeaconWatchdog
  extract_lets x
  exact Quiet.next (Quiet.ite h.putSrc.judgeBeacon.again (Quiet.ite h.putSrc.judgeBeacon.again h))

theorem Quiet.beaconDropLp {k : Nat} (h : Quiet m r s) : Quiet m r (s.beaconDropLp k) := by
  unfold State.beaconDropLp
  extract_lets x
  exact Quiet.judgeBeacon (Quiet.putStack (h.foldl fun _ _ h₁ => h₁.releaseSource))

theorem Quiet.writeSrcCfg {n w : Nat} (h : Quiet m r s) : Quiet m r (s.writeSrcCfg n w) := by
  unfold State.writeSrcCfg
  split
  · exact h
  · extract_lets x x₁ x₂ x₃ s₁ s₂ x₄ s₃ s₄ s₅ s₆ s₇ x₅ s₈
    have h₁ : Quiet m r s₂ := h.srcPut.srcPut.srcPut
    have h₂ : Quiet m r s₇ := Quiet.srcPut (Quiet.srcPut (Quiet.srcPut (Quiet.srcPut (Quiet.ite h (Quiet.ite h.event (Quiet.ite h₁.putSrc h₁))))))
    exact Quiet.judgeBeacon (Quiet.ite h₂.unpend.countSat h₂)

theorem Quiet.writeVbase {k w : Nat} (h : Quiet m r s) : Quiet m r (s.writeVbase k w) := by
  unfold State.writeVbase
  extract_lets x
  exact Quiet.ite h.put h.event

/-! ## What the operations of Tidemark leave as it is -/

theorem Quiet.judgeTimeUnlocked (h : Quiet m r s) : Quiet m r (s.judgeTimeUnlocked) := h.cond

theorem Quiet.settleResidual {r₀ : ℤ} (h : Quiet m r s) : Quiet m r (s.settleResidual r₀) :=
  Quiet.ite (h.same (by rfl)).eventIf (h.same (by rfl)).event.countSat

theorem Quiet.keepTime {k : State → State} (h : Quiet m r s) (hk : ∀ (a : State), Quiet m r a → Quiet m r (k a)) : Quiet m r (s.keepTime k) := by
  unfold State.keepTime
  extract_lets x s₁
  have h₁ : Quiet m r s₁ := hk _ h
  exact Quiet.ite h₁.settleResidual h₁

theorem Quiet.adopt (h : Quiet m r s) : Quiet m r (s.adopt) := by
  unfold State.adopt
  split
  · exact h
  · split
    · exact h
    · exact Quiet.event (h.keepTime (fun _ h₁ => h₁.put.put))

theorem Quiet.enterDomState {x st : Nat} (h : Quiet m r s) : Quiet m r (s.enterDomState x st) := by
  unfold State.enterDomState
  extract_lets x₁ s₁ s₂ s₃
  exact h.put.eventIf.eventIf.cond.adopt.judgeTimeUnlocked

theorem Quiet.switchDomain {x : Nat} (h : Quiet m r s) :
    Quiet m r (s.switchDomain x) := Quiet.ite h (Quiet.judgeTimeUnlocked (Quiet.countSat (Quiet.event (h.keepTime (fun _ h₁ => h₁.put)))))

theorem Quiet.putOffset {x v : Nat} (h : Quiet m r s) : Quiet m r (s.putOffset x v) := by
  unfold State.putOffset
  extract_lets x₁ x₂ s₁
  exact (h.same (by rfl)).put.put.put

theorem Quiet.putRate {x : Nat} {r₀ : ℤ} (h : Quiet m r s) : Quiet m r (s.putRate x r₀) := by
  unfold State.putRate
  extract_lets x₁
  exact h.putOffset.put

theorem Quiet.putLockRun {x n : Nat} (h : Quiet m r s) : Quiet m r (s.putLockRun x n) := h.same (by rfl)

theorem Quiet.putServoError {x : Nat} {e₀ : ℤ} (h : Quiet m r s) : Quiet m r (s.putServoError x e₀) := by
  unfold State.putServoError
  split
  · exact h.put
  · split
    · rename_i heq
      have h₁ := h.fresh heq
      exact h₁.put

theorem Quiet.servoStep {x : Nat} {e₀ : ℤ} (h : Quiet m r s) : Quiet m r (s.servoStep x e₀) := by
  unfold State.servoStep
  extract_lets x₁ s₁ s₂
  exact Quiet.enterDomState (Quiet.putLockRun (Quiet.event (Quiet.countSat (Quiet.ite (h.keepTime (fun _ h₁ => h₁.putOffset)) h.putOffset))))

theorem Quiet.servoSteer {x : Nat} {e₀ : ℤ} (h : Quiet m r s) : Quiet m r (s.servoSteer x e₀) := by
  unfold State.servoSteer
  extract_lets x₁ x₂ x₃ s₁ x₄ x₅
  have h₁ : Quiet m r s₁ := h.put.putRate
  split
  · exact Quiet.ite h₁.putLockRun.enterDomState h₁
  · exact h₁.putLockRun.enterDomState
  · exact h₁.putLockRun.enterDomState

theorem Quiet.servoSample {x m₀ cs : Nat} (h : Quiet m r s) : Quiet m r (s.servoSample x m₀ cs) := by
  unfold State.servoSample
  split
  · exact h
  · extract_lets x₁ x₂ s₁
    exact Quiet.countWrap (Quiet.putServoError (Quiet.ite h.servoStep h.servoSteer))

theorem Quiet.tick (h : Quiet m r s) : Quiet m r (s.tick) := by
  unfold State.tick
  extract_lets x x₁ x₂ x₃ s₁
  exact (h.same (by rfl)).eventIf

theorem Quiet.sleepTick (h : Quiet m r s) : Quiet m r (s.sleepTick) := h.same (by rfl)

theorem answers_domainEnable {req : Requester} {x : Fin 2} {w : Word} (h : Quiet m r s) :
    Answers m r (execDomainEnable req x w s) := Quiet.next (h.onWrite (fun _ h₁ => by
    extract_lets x₁ x₂ s₁ s₂ x₃ s₃
    have h₂ : Quiet m r s₃ := Quiet.put (Quiet.put (Quiet.ite h₁.event h₁.put))
    exact Quiet.ite h₂.putLockRun.enterDomState (Quiet.ite h₂.enterDomState h₂)))

theorem answers_domainOffsetWrite {req : Requester} {x : Fin 2} {w : Word} (h : Quiet m r s) :
    Answers m r (execDomainOffsetWrite req x w s) := Quiet.next (h.onWrite (fun _ h₁ => by
    split
    · extract_lets x₁
      exact Quiet.ite (h₁.keepTime (fun _ h₂ => h₂.putOffset)) h₁.putOffset
    · exact h₁.event))

theorem answers_servoSample {req : Requester} {x : Fin 2} (h : Quiet m r s) :
    Answers m r (execServoSample req x s) := Quiet.next (h.onWrite (fun _ h₁ => Quiet.ite h₁ h₁.servoSample))

theorem answers_domainSampleTimeout {x : Fin 2} (h : Quiet m r s) :
    Answers m r (execDomainSampleTimeout x s) := Quiet.next (Quiet.ite h.putLockRun.enterDomState h)

theorem answers_domainFailover (h : Quiet m r s) : Answers m r (execDomainFailover s) := by
  unfold execDomainFailover
  extract_lets x
  exact Quiet.next (Quiet.ite h.switchDomain h)

theorem answers_domainRevert (h : Quiet m r s) : Answers m r (execDomainRevert s) := by
  unfold execDomainRevert
  extract_lets x
  exact Quiet.next (Quiet.ite h.switchDomain h)

theorem answers_tmSelWrite {req : Requester} {w : Word} (h : Quiet m r s) :
    Answers m r (execTmSelWrite req w s) := Quiet.next (h.onWrite (fun _ h₁ => by
    extract_lets x s₁ s₂ s₃
    have h₂ : Quiet m r s₃ := h₁.put.put.put
    exact Quiet.judgeTimeUnlocked (Quiet.adopt (Quiet.ite h₂.switchDomain h₂))))

theorem answers_presetWrite {req : Requester} {w : Word} (h : Quiet m r s) :
    Answers m r (execPresetWrite req w s) := Quiet.next (h.onWrite (fun _ h₁ => by
    split
    · exact h₁.event
    · extract_lets x x₁ s₁ x₂ s₂
      have h₂ : Quiet m r s₁ := h₁.put
      have h₃ : Quiet m r s₂ := h₂.same (by rfl)
      exact Quiet.ite h₃.event.countSat h₃))

theorem answers_slewDone (h : Quiet m r s) : Answers m r (execSlewDone s) := by
  unfold execSlewDone
  extract_lets x x₁ s₁
  exact Quiet.next (Quiet.ite h (h.same (by rfl)).event)

/-! ## What the operations of Ethernet leave as it is -/

theorem Quiet.putMac {m₀ : Nat} {x : MacSt} (h : Quiet m r s) : Quiet m r (s.putMac m₀ x) := h.same (by rfl)

theorem Quiet.putSlot {k : Nat} {x : StreamSlot} (h : Quiet m r s) : Quiet m r (s.putSlot k x) := h.same (by rfl)

theorem Quiet.putFdb {i : Nat} {e₀ : FdbEntry} (h : Quiet m r s) : Quiet m r (s.putFdb i e₀) := h.same (by rfl)

theorem Quiet.pushStamp {m₀ : Nat} {tx : Bool} {t₀ : MacStamp} (h : Quiet m r s) : Quiet m r (s.pushStamp m₀ tx t₀) := by
  unfold State.pushStamp
  extract_lets x x₁ s₁
  exact Quiet.ite h.putMac.put h.put.event

theorem Quiet.enqueue {m₀ cls : Nat} {f : EthFrame} (h : Quiet m r s) : Quiet m r (s.enqueue m₀ cls f) := by
  unfold State.enqueue
  extract_lets x x₁
  exact Quiet.ite h.putMac h.countSat

theorem Quiet.toManagement {port : Nat} {b : List Byte} (h : Quiet m r s) : Quiet m r (s.toManagement port b) := by
  unfold State.toManagement
  extract_lets x x₁ s₁
  exact Quiet.ite (h.same (by rfl)).put.eventIf h.put.event

theorem Quiet.fdbTouch {i : Nat} (h : Quiet m r s) : Quiet m r (s.fdbTouch i) := h.putFdb

theorem Quiet.fdbLearn {addr vid port : Nat} (h : Quiet m r s) : Quiet m r (s.fdbLearn addr vid port) := by
  unfold State.fdbLearn
  split
  · exact Quiet.ite h h.putFdb
  · split
    · exact h.putFdb
    · exact h.countSat.event

theorem Quiet.toPorts {mask ingress : Nat} {f : EthFrame} {cls : Nat} (h : Quiet m r s) : Quiet m r (s.toPorts mask ingress f cls) := by
  unfold State.toPorts
  extract_lets s₁ s₂
  have h₁ : Quiet m r s₁ := Quiet.ite h.enqueue h
  have h₂ : Quiet m r s₂ := Quiet.ite h₁.enqueue h₁
  exact Quiet.ite h₂.toManagement h₂

theorem Quiet.bridgeIngress {m₀ : Nat} {f : EthFrame} (h : Quiet m r s) : Quiet m r (s.bridgeIngress m₀ f) := by
  unfold State.bridgeIngress
  extract_lets x x₁ x₂ x₃ s₁
  have h₁ : Quiet m r s₁ := h.fdbLearn
  split
  · exact h₁.toManagement
  · split
    · exact h₁.toPorts
    · split
      · exact h₁.fdbTouch.toPorts
      · exact h₁.toPorts

theorem Quiet.bridgeFromS {b : List Byte} {cls : Nat} (h : Quiet m r s) : Quiet m r (s.bridgeFromS b cls) := by
  unfold State.bridgeFromS
  split
  · exact h.countSat
  · extract_lets x
    exact Quiet.ite (Quiet.enqueue (Quiet.ite h.fdbTouch.enqueue h.fdbTouch)) (Quiet.ite h.fdbTouch.enqueue h.fdbTouch)

theorem Quiet.refreshCredits {m₀ : Nat} (h : Quiet m r s) : Quiet m r (s.refreshCredits m₀) := by
  unfold State.refreshCredits
  extract_lets x x₁ x₂
  exact h.putMac

theorem Quiet.dropOversize {m₀ cls : Nat} (h : Quiet m r s) : Quiet m r (s.dropOversize m₀ cls) := by
  unfold State.dropOversize
  extract_lets x x₁ x₂ x₃ x₄
  exact h.putMac.foldl fun _ _ h₁ => h₁.countSat

theorem Quiet.takeFrame {m₀ cls : Nat} {f : EthFrame} {r₀ : List EthFrame} (h : Quiet m r s) : Quiet m r (s.takeFrame m₀ cls f r₀) := by
  unfold State.takeFrame
  extract_lets x x₁ x₂ x₃ x₄
  exact h.putMac

theorem Quiet.correctFrame {m₀ : Nat} {f : EthFrame} {c : Nat} {t₀ : MacStamp} {x₀ : List Byte} (h : Quiet m r s)
    (e : s.correctFrame m₀ f c t₀ = (t, x₀)) : Quiet m r t := by
  have key : Quiet m r (s.correctFrame m₀ f c t₀).1 := by
    unfold State.correctFrame
    extract_lets x x₁ x₂ x₃ x₄
    split
    · split
      · exact Quiet.ite h.countSat h
      · extract_lets x₅
        exact h
    · split
      · exact h
      · exact h
  rwa [e] at key

theorem answers_ethFrameRx {m₀ : Fin 2} {b : List Byte} {fcsOk : Bool} {c : Nat} (h : Quiet m r s) : Answers m r (execEthFrameRx m₀ b fcsOk c s) := by
  unfold execEthFrameRx
  refine Quiet.next ?_
  split
  · exact h
  · split
    · exact h.countSat
    · split
      · exact h
      · split
        · exact h.countWrap.countSat
        · extract_lets s₁ x x₁ s₂
          have h₁ : Quiet m r s₁ := h.countWrap
          have h₂ : Quiet m r s₂ := Quiet.ite h₁.pushStamp h₁
          exact Quiet.ite h₂.bridgeIngress h₂

theorem answers_ethFrameTx {m₀ : Fin 2} {c : Nat} (h : Quiet m r s) : Answers m r (execEthFrameTx m₀ c s) := by
  unfold execEthFrameTx
  refine Quiet.next ?_
  split
  · exact h
  · extract_lets s₁ s₂ x
    have h₁ : Quiet m r s₂ := h.refreshCredits.foldl fun _ _ h₂ => h₂.dropOversize
    split
    · exact h₁
    · split
      · exact h₁
      · extract_lets s₃ s₄ x₁ x₂
        have h₂ : Quiet m r s₄ := h₁.takeFrame.countWrap
        split
        · split
          · rename_i heq
            have h₃ := h₂.correctFrame heq
            exact h₃.pushStamp.emit
        · exact h₂.emit

theorem Quiet.putStampWords {m₀ : Nat} {tx : Bool} {t₀ : Option MacStamp} (h : Quiet m r s) : Quiet m r (s.putStampWords m₀ tx t₀) := by
  unfold State.putStampWords
  extract_lets x x₁ x₂ s₁ s₂ s₃ s₄ s₅ s₆ s₇ s₈ s₉ s₁₀ s₁₁ s₁₂
  exact h.put.put.put.put.put.put.put.put.put.put.put.put.put

theorem Quiet.popStamp {m₀ : Nat} {tx : Bool} {x₀ : List Nat} (h : Quiet m r s) (e : s.popStamp m₀ tx = (x₀, t)) : Quiet m r t := by
  have key : Quiet m r (s.popStamp m₀ tx).2 := by
    unfold State.popStamp
    extract_lets x x₁ s₁ s₂
    exact h.putMac.put.putStampWords
  rwa [e] at key

theorem answers_tsPop {req : Requester} {n : Fin 2} {tx : Bool} (h : Quiet m r s) : Answers m r (execTsPop req n tx s) :=
  Quiet.next (h.onPop fun _ h => h.popStamp rfl)

theorem answers_fdbWrite {req : Requester} {w : Word} (h : Quiet m r s) : Answers m r (execFdbWrite req w s) := by
  unfold execFdbWrite
  extract_lets x
  exact Quiet.next (h.onWrite (fun _ h₁ => Quiet.ite h₁.event h₁.putFdb))

theorem answers_fdbRead {req : Requester} {w : Word} (h : Quiet m r s) : Answers m r (execFdbRead req w s) := by
  unfold execFdbRead
  extract_lets x
  exact Quiet.next (h.onWrite (fun _ h₁ => by
    split
    · exact h₁.event
    · extract_lets x₁ s₁ s₂
      exact h₁.put.put.put.put.put.put))

theorem answers_fdbAgeOut {i : Fin 1024} (h : Quiet m r s) : Answers m r (execFdbAgeOut i s) := Quiet.next (Quiet.ite h h.putFdb)

theorem answers_gclChange {req : Requester} {m₀ : Fin 2} {w : Word} (h : Quiet m r s) : Answers m r (execGclChange req m₀ w s) := by
  unfold execGclChange
  extract_lets x
  exact Quiet.next (h.onWrite (fun _ h₁ => by
    extract_lets s₁ s₂ x₁ x₂ x₃ x₄
    have h₂ : Quiet m r s₂ := h₁.put.put
    exact h₂.putMac.put))

theorem answers_gclCycleStart {m₀ : Fin 2} (h : Quiet m r s) : Answers m r (execGclCycleStart m₀ s) := by
  unfold execGclCycleStart
  extract_lets x x₁
  exact h.putMac.put.next

theorem answers_gclEntryAdvance {m₀ : Fin 2} (h : Quiet m r s) : Answers m r (execGclEntryAdvance m₀ s) := by
  unfold execGclEntryAdvance
  extract_lets x
  refine Quiet.next ?_
  split
  · exact Quiet.ite h.putMac h
  · exact h

theorem Quiet.freshBytes {n : Nat} {b : List Byte} (h : Quiet m r s) (e : State.freshBytes n s = (b, t)) : Quiet m r t := by
  induction n generalizing s b t with
  | zero => cases e; exact h
  | succ n ih => cases e; exact ih (h.same (by rfl)) rfl

theorem Quiet.takeBytes {b : List Byte} {n : Nat} {x₀ : List Byte} (h : Quiet m r s) (e : s.takeBytes b n = (x₀, t)) : Quiet m r t := by
  have key : Quiet m r (s.takeBytes b n).2 := by
    unfold State.takeBytes
    extract_lets x
    split
    · rename_i heq
      have h₁ := h.freshBytes heq
      exact h₁
  rwa [e] at key

theorem answers_mgTxGo {req : Requester} {w : Word} (h : Quiet m r s) : Answers m r (execMgTxGo req w s) := by
  unfold execMgTxGo
  extract_lets x
  exact Quiet.next (h.onWrite (fun _ h₁ => by
    extract_lets s₁ s₂ s₃ x₁
    have h₂ : Quiet m r s₃ := h₁.put.put.eventIf
    split
    · rename_i heq
      have h₃ := h₂.takeBytes heq
      extract_lets x₂ x₃ s₄ s₅
      split
      · rename_i heq₁
        have h₄ := (h₃.same (by rfl)).put.fresh heq₁
        extract_lets x₄
        split
        · exact h₄
        · split
          · exact h₄.enqueue
          · exact h₄.enqueue.enqueue
          · exact h₄.enqueue))

theorem Quiet.popFrame {x₀ : List Nat} (h : Quiet m r s) (e : s.popFrame = (x₀, t)) : Quiet m r t := by
  have key : Quiet m r (s.popFrame).2 := by
    unfold State.popFrame
    extract_lets x x₁
    split
    · exact h.put
    · extract_lets s₁ s₂ s₃
      exact (h.same (by rfl)).put.put.put.put
  rwa [e] at key

theorem answers_mgRxPop {req : Requester} (h : Quiet m r s) : Answers m r (execMgRxPop req s) :=
  Quiet.next (h.onPop fun _ h => h.popFrame rfl)

theorem Quiet.popFrameData {x₀ : List Nat} (h : Quiet m r s) (e : s.popFrameData = (x₀, t)) : Quiet m r t := by
  have key : Quiet m r (s.popFrameData).2 := by
    unfold State.popFrameData
    split
    · rename_i heq
      have h₁ := h.takeBytes heq
      extract_lets x s₁
      exact (h₁.same (by rfl)).put
  rwa [e] at key

theorem answers_mgRxDataRead {req : Requester} (h : Quiet m r s) : Answers m r (execMgRxDataRead req s) :=
  Quiet.next (h.onPop fun _ h => h.popFrameData rfl)

theorem Quiet.judgeStreamOvf (h : Quiet m r s) : Quiet m r (s.judgeStreamOvf) := h.cond

theorem Quiet.streamLose {k key : Nat} (h : Quiet m r s) : Quiet m r (s.streamLose k key) := by
  unfold State.streamLose
  extract_lets x
  exact h.putSlot

theorem Quiet.streamTake {k half format : Nat} {sentinel : Bool} {u : PortUnit} (h : Quiet m r s) :
    Quiet m r (s.streamTake k half format sentinel u) := by
  unfold State.streamTake
  extract_lets x x₁ x₂ s₁ x₃ s₂ x₄ x₅ x₆ x₇
  have h₁ : Quiet m r s₁ := h.putSlot
  have h₂ : Quiet m r s₂ := h₁.streamLose
  exact Quiet.ite h.putSlot (Quiet.ite h₁.streamLose.judgeStreamOvf (Quiet.ite h₂.putSlot.countSat.event.judgeStreamOvf.again h₁.putSlot.judgeStreamOvf))

theorem answers_streamUnit {k : Fin 16} {h₀ : Fin 2} {begun : Nat} {format : Fin 16} {u : PortUnit} (h : Quiet m r s) :
    Answers m r (execStreamUnit k h₀ begun format u s) := by
  unfold execStreamUnit
  extract_lets x x₁
  exact Quiet.next (Quiet.ite h (Quiet.ite h.countSat (Quiet.streamTake (Quiet.ite h.noteSplit h))))

theorem answers_streamFrameSend {k : Fin 16} (h : Quiet m r s) : Answers m r (execStreamFrameSend k s) := by
  unfold execStreamFrameSend
  extract_lets x x₁
  refine Quiet.next ?_
  split
  · exact h
  · split
    · exact h
    · split
      · exact h
      · split
        · exact h
        · extract_lets x₂ x₃ x₄ x₅ x₆ x₇ x₈ s₁ s₂
          have h₁ : Quiet m r s₁ := h.putSlot
          exact Quiet.bridgeFromS (Quiet.ite h₁.countWrap h₁)

theorem Quiet.macLink {m₀ : Nat} {lock remoteFault fecLock : Bool} (h : Quiet m r s) :
    Quiet m r (s.macLink m₀ lock remoteFault fecLock) := by
  unfold State.macLink
  extract_lets x x₁ x₂ s₁ s₂
  have h₁ : Quiet m r s₂ := h.put.put.eventIf.eventIf
  exact h₁.cond

theorem answers_macLinkChange {m₀ : Fin 2} {lock remoteFault fecLock : Bool} (h : Quiet m r s) :
    Answers m r (execMacLinkChange m₀ lock remoteFault fecLock s) := h.macLink.next

/-! ## What the operations of Plan leave as it is -/

theorem Quiet.loadPlan {live : Bool} {p : Option Plan} (h : Quiet m r s) : Quiet m r (s.loadPlan live p) :=
  h.setRegs (by rfl) fun hs => SMap.wf_foldl_set resetField (fun e : Nat × Nat => if live then e.1 + 0x4000 else e.1) (·.2) _ (SMap.wf_filter _ _ hs)

/-! ## What the operations of Commit leave as it is -/

theorem Quiet.putGrp {f : Field} {g v : Nat} (h : Quiet m r s) : Quiet m r (s.putGrp f g v) := h.put

theorem Quiet.capturePage {pg : Nat} (h : Quiet m r s) : Quiet m r (s.capturePage pg) := by
  unfold State.capturePage
  extract_lets x x₁ s₁
  exact (h.same (by rfl)).put.put

theorem Quiet.syncModeSwap {pg old : Nat} (h : Quiet m r s) : Quiet m r (s.syncModeSwap pg old) := by
  unfold State.syncModeSwap
  split
  · extract_lets x x₁
    exact Quiet.ite h (h.same (by rfl))
  · exact h

theorem Quiet.swapPage {pg n : Nat} (h : Quiet m r s) : Quiet m r (s.swapPage pg n) := by
  unfold State.swapPage
  extract_lets mode new rest c s₁ s₂ s₃
  have h₁ : Quiet m r s₁ := h.setRegs (by rfl) fun hs => SMap.wf_foldl_set resetField Prod.fst Prod.snd new (SMap.wf_filter _ _ hs)
  have h₂ : Quiet m r s₂ := Quiet.ite h₁.dropTlb (Quiet.ite h₁.dropTlb h₁)
  exact h₂.syncModeSwap.put.put.put

theorem Quiet.judgeArm {g : Nat} (h : Quiet m r s) : Quiet m r (s.judgeArm g) := h.putGrp

theorem Quiet.dropArm {g : Nat} (h : Quiet m r s) : Quiet m r (s.dropArm g) := (h.same (by rfl)).judgeArm

theorem Quiet.dropDevArm (h : Quiet m r s) : Quiet m r (s.dropDevArm) := by
  unfold State.dropDevArm
  split
  · exact h
  · exact (h.same (by rfl)).judgeArm

theorem Quiet.captureGroup {g : Nat} (h : Quiet m r s) : Quiet m r (s.captureGroup g) := by
  unfold State.captureGroup
  extract_lets s₁
  exact Quiet.putGrp (Quiet.dropArm (h.foldl fun _ _ h₁ => h₁.capturePage))

theorem Quiet.swapGroup {g t₀ : Nat} (h : Quiet m r s) : Quiet m r (s.swapGroup g t₀) := by
  unfold State.swapGroup
  extract_lets s₁ s₂
  have h₁ : Quiet m r s₁ := h.foldl fun _ _ h₁ => h₁.swapPage
  clear_value s₁
  exact h₁.putGrp.putGrp.put

theorem Quiet.armGroup {g : Nat} (h : Quiet m r s) : Quiet m r (s.armGroup g) := by
  unfold State.armGroup
  extract_lets x s₁ x₁
  have h₁ : Quiet m r s₁ := h.same (by rfl)
  exact Quiet.ite h₁.judgeArm (Quiet.ite h.putGrp (Quiet.ite h.putGrp h₁.judgeArm))

theorem Quiet.writeGroup {g w : Nat} (h : Quiet m r s) : Quiet m r (s.writeGroup g w) := by
  unfold State.writeGroup
  extract_lets x s₁ s₂
  have h₁ : Quiet m r s₁ := h.put
  have h₂ : Quiet m r s₂ := Quiet.ite h₁ h₁.put
  split
  · exact h₂.armGroup
  · exact h₂.dropArm
  · exact h₂

theorem Quiet.writeCommit {pg w : Nat} (h : Quiet m r s) : Quiet m r (s.writeCommit pg w) := by
  unfold State.writeCommit
  extract_lets x s₁ s₂
  have h₁ : Quiet m r s₁ := Quiet.ite h h.put
  have h₂ : Quiet m r s₂ := Quiet.ite h₁.put h₁
  split
  · exact h₂.put
  · exact h₂.put
  · exact h₂

theorem answers_commitArm {req : Requester} {pg : Fin 5120} {w : Word} (h : Quiet m r s) :
    Answers m r (execCommitArm req pg w s) := Quiet.next (h.onWrite (fun _ h₁ => h₁.writeCommit))

theorem answers_commitDisarm {req : Requester} {pg : Fin 5120} {w : Word} (h : Quiet m r s) :
    Answers m r (execCommitDisarm req pg w s) := Quiet.next (h.onWrite (fun _ h₁ => h₁.writeCommit))

theorem answers_groupArm {req : Requester} {g : Fin 64} {w : Word} (h : Quiet m r s) :
    Answers m r (execGroupArm req g w s) := Quiet.next (h.onWrite (fun _ h₁ => h₁.writeGroup))

theorem answers_groupDisarm {req : Requester} {g : Fin 64} {w : Word} (h : Quiet m r s) :
    Answers m r (execGroupDisarm req g w s) := Quiet.next (h.onWrite (fun _ h₁ => h₁.writeGroup))

theorem answers_noplanCommitApply {g : Fin 64} (h : Quiet m r s) :
    Answers m r (execNoplanCommitApply g s) := Quiet.next (Quiet.ite h h.captureGroup.swapGroup)

/-! ## What the operations of Harbour leave as it is -/

theorem Quiet.mapCapacity {h₀ : Nat} (h : Quiet m r s) : Quiet m r (s.mapCapacity h₀) := by
  unfold State.mapCapacity
  extract_lets x x₁ x₂ s₁
  have h₁ : Quiet m r s₁ := h.put
  exact h₁.put

theorem Quiet.judgeOff {h₀ : Nat} (h : Quiet m r s) : Quiet m r (s.judgeOff h₀) := by
  unfold State.judgeOff
  extract_lets x x₁
  exact Quiet.ite h.put (Quiet.ite h.put h)

theorem Quiet.judgeTrain {h₀ : Nat} (h : Quiet m r s) : Quiet m r (s.judgeTrain h₀) := by
  unfold State.judgeTrain
  extract_lets x
  exact h.cond

theorem Quiet.untrain {h₀ c : Nat} (h : Quiet m r s) : Quiet m r (s.untrain h₀ c) := by
  unfold State.untrain
  extract_lets x x₁ x₂ x₃ s₁ s₂
  have h₁ : Quiet m r s₁ := (h.putHarb (by rfl)).put
  exact h₁.put.mapCapacity.judgeTrain

theorem answers_channelTrained {h₀ : Fin 2} {c : Fin 4} {gib : Fin 256} (h : Quiet m r s) : Answers m r (execChannelTrained h₀ c gib s) := by
  unfold execChannelTrained
  refine Quiet.next ?_
  extract_lets x x₁ s₁ s₂ s₃ x₂ s₄ s₅ s₆ x₃ s₇ s₈ x₄
  have h₁ : Quiet m r s₂ := h.put.put.put
  have h₂ : Quiet m r s₃ := h₁.put
  have h₃ : Quiet m r s₆ := (h₂.putHarb (by rfl)).judgeTrain.eventIf
  have h₄ : Quiet m r s₈ := h.untrain
  exact Quiet.ite h₃.eventIf.mapCapacity.judgeOff (h₄.putHarb (by rfl)).judgeTrain

theorem Quiet.fillDone {h₀ : Nat} (h : Quiet m r s) : Quiet m r (s.fillDone h₀) := by
  unfold State.fillDone
  extract_lets x s₁ s₂ s₃
  have h₁ : Quiet m r s₁ := h.putHarb (by rfl)
  exact h₁.put.put.put.event

theorem Quiet.fillBy {h₀ n : Nat} {p : Nat → Bool} (h : Quiet m r s) : Quiet m r (s.fillBy h₀ n p) := by
  unfold State.fillBy
  split
  · exact h
  · extract_lets x s₁
    have h₁ : Quiet m r s₁ := h.putHarb (by rfl)
    exact Quiet.ite h₁.fillDone h₁.put

theorem Quiet.fillTick {h₀ : Nat} (h : Quiet m r s) : Quiet m r (s.fillTick h₀) := Quiet.ite h h.fillBy

theorem answers_eccFillStart {req : Requester} {k : Fin 2} (h : Quiet False r s) : Answers False r (execEccFillStart req k s) := by
  refine Quiet.next (h.onWrite fun s h => ?_)
  extract_lets on s₁ x s₂ s₃
  have hmem : Memory.wf (s₁.harb k).mem = true → Memory.wf (if on then [] else x.mem) = true := by
    intro hs
    split
    · exact SMap.wf_nil _
    · exact hs
  have h₂ : Quiet False r s₂ := (h.put.putHarbMem hmem).mapCapacity
  exact Quiet.ite h₂.put.put.put h₂.fillDone

theorem answers_eccFillDone {h₀ : Fin 2} (h : Quiet m r s) : Answers m r (execEccFillDone h₀ s) := Quiet.next (Quiet.ite h.fillDone h)

theorem answers_refreshRatePoll {h₀ : Fin 2} {c : Fin 4} {mult : Fin 3} {wrCorr : Fin 65536} (h : Quiet m r s) :
    Answers m r (execRefreshRatePoll h₀ c mult wrCorr s) := h.put.put.next

theorem Quiet.eccCorrected {h₀ c : Nat} (h : Quiet m r s) : Quiet m r (s.eccCorrected h₀ c) := by
  unfold State.eccCorrected
  extract_lets x x₁ x₂ s₁ s₂
  exact (h.putHarb (by rfl)).countSat.event.cond

theorem Quiet.judgeCorrections {h₀ : Nat} (h : Quiet m r s) : Quiet m r (s.judgeCorrections h₀) := h.foldl fun _ _ h₁ => h₁.cond

theorem Quiet.eccUncorrectable {h₀ pa : Nat} (h : Quiet m r s) : Quiet m r (s.eccUncorrectable h₀ pa) := by
  unfold State.eccUncorrectable
  extract_lets x s₁ s₂
  exact h.countSat.put.put.event.occur

theorem Quiet.eccApply {h₀ pa : Nat} {a : EccResult} (h : Quiet m r s) : Quiet m r (s.eccApply h₀ pa a) := by
  unfold State.eccApply
  split
  · exact h
  · exact h.eccCorrected
  · exact h.eccUncorrectable

theorem Quiet.putJob {e₀ : Nat} {j : JobEntry} (h : Quiet m r s) : Quiet m r (s.putJob e₀ j) := by
  unfold State.putJob
  extract_lets x x₁ x₂
  exact (h.putHarb (by rfl)).put

theorem Quiet.jobState {e₀ st : Nat} (h : Quiet m r s) : Quiet m r (s.jobState e₀ st) := h.putJob

theorem Quiet.freeJob {e₀ : Nat} (h : Quiet m r s) : Quiet m r (s.freeJob e₀) := by
  unfold State.freeJob
  extract_lets x x₁
  exact Quiet.ite h h.putJob

theorem Quiet.judgeStarved {h₀ : Nat} (h : Quiet m r s) : Quiet m r (s.judgeStarved h₀) := Quiet.ite h h.lower

theorem Quiet.countBulkWait {h₀ : Nat} (h : Quiet m r s) : Quiet m r (s.countBulkWait h₀) := h.countSat.event

theorem Quiet.allocBulk {k e : Nat} {j : JobEntry} (h : Quiet m r s) (ht : s.allocBulk k j = some (e, t)) : Quiet m r t := by
  simp only [State.allocBulk, Option.map_eq_some_iff, Prod.mk.injEq] at ht
  obtain ⟨_, -, rfl, rfl⟩ := ht
  exact h.putJob

theorem Quiet.allocSlice {k : Nat} {b : Bool} {j : JobEntry} (h : Quiet m r s) (ht : s.allocSlice k b j = some t) : Quiet m r t := by
  simp only [State.allocSlice, Option.map_eq_some_iff] at ht
  obtain ⟨_, -, rfl⟩ := ht
  exact h.putJob

theorem Quiet.failJob {e₀ : Nat} (h : Quiet m r s) : Quiet m r (s.failJob e₀) := by
  unfold State.failJob
  extract_lets x x₁ x₂ s₁
  exact Quiet.freeJob (Quiet.ite (h.putHarb (by rfl)) h)

theorem Quiet.flyEntry {e₀ : Nat} (h : Quiet m r s) : Quiet m r (s.flyEntry e₀) := h.putJob

theorem Quiet.ask {h₀ : Nat} {r₀ : MemReq} (h : Quiet m r s) : Quiet m r (s.ask h₀ r₀) := by
  unfold State.ask
  extract_lets x s₁
  have h₁ : Quiet m r s₁ := h.putHarb (by rfl)
  split
  · exact h₁
  · exact h₁.flyEntry

theorem Quiet.entryBack {e₀ gen : Nat} {x₀ : Bool} (h : Quiet m r s) (e : s.entryBack e₀ gen = (x₀, t)) : Quiet m r t := by
  have key : Quiet m r (s.entryBack e₀ gen).2 := by
    unfold State.entryBack
    extract_lets x s₁ x₁
    have h₁ : Quiet m r s₁ := h.putJob
    split
    · exact Quiet.ite h₁.freeJob h₁
    · exact h.putJob
  rwa [e] at key

theorem Quiet.countStale {h₀ : Nat} (h : Quiet m r s) : Quiet m r (s.countStale h₀) := h.countSat.event

theorem Quiet.freeHeld {a : Option (Nat × Nat)} (h : Quiet m r s) : Quiet m r (s.freeHeld a) := by
  unfold State.freeHeld
  split
  · exact h
  · exact Quiet.ite h.freeJob h

theorem Quiet.jobTimeout {e₀ : Nat} (h : Quiet m r s) : Quiet m r (s.jobTimeout e₀) := by
  unfold State.jobTimeout
  extract_lets x x₁ s₁ x₂ x₃ x₄ x₅ s₂
  have h₁ : Quiet m r s₁ := h.countSat.report
  exact Quiet.ite (h₁.putHarb (by rfl)).failJob h

theorem answers_bulkStarved {h₀ : Fin 2} (h : Quiet m r s) : Answers m r (execBulkStarved h₀ s) := Quiet.next (Quiet.ite h.report h)

theorem Quiet.putCredit {h₀ k : Nat} {v : ℤ} (h : Quiet m r s) : Quiet m r (s.putCredit h₀ k v) := h.put

theorem answers_creditRefill {h₀ : Fin 2} (h : Quiet m r s) : Answers m r (execCreditRefill h₀ s) := by
  unfold execCreditRefill
  refine Quiet.next ?_
  split
  · refine Quiet.foldl (h) fun _ _ h₁ => ?_
    extract_lets x
    exact h₁.putCredit
  · exact h

theorem Quiet.capCredits {h₀ : Nat} (h : Quiet m r s) : Quiet m r (s.capCredits h₀) := h.foldl fun _ _ h₁ => h₁.putCredit

theorem answers_classOverCheck {h₀ : Fin 2} (h : Quiet m r s) : Answers m r (execClassOverCheck h₀ s) := h.eventIf.next

theorem Quiet.charge {h₀ k n v : Nat} (h : Quiet m r s) : Quiet m r (s.charge h₀ k n v) := by
  unfold State.charge
  split
  · exact h
  · extract_lets x s₁
    have h₁ : Quiet m r s₁ := h.putHarb (by rfl)
    exact Quiet.ite h₁ h₁.putCredit

theorem Quiet.countDeferred {k : Nat} (h : Quiet m r s) : Quiet m r (s.countDeferred k) := by
  unfold State.countDeferred
  extract_lets waits x s₁
  have h₁ : Quiet m s s₁ := (Quiet.refl s).foldl fun _ _ h => h.countSat
  have hx : x.mem = (s₁.harb k).mem := by
    have hh : ∀ (l : List MemReq) (t : State), (l.foldl (fun s r => s.countSat (hbPage k 5) (Harbour.CLS_DEFER_COUNT.nth r.cls)) t).harb k = t.harb k := by
      intro l
      induction l with
      | nil => exact fun _ => rfl
      | cons a l ih => exact fun t => (ih _).trans rfl
    simp only [x, s₁, hh]
  exact (h.trans h₁).putHarb hx

theorem answers_schedDecision {h₀ : Fin 2} {c : Fin 4} {k : Bool × Bool} (h : Quiet m r s) : Answers m r (execSchedDecision h₀ c k s) := by
  unfold execSchedDecision
  split
  · refine Quiet.next ?_
    split
    · exact h
    · extract_lets s₁
      have h₁ : Quiet m r s₁ := h.countDeferred
      split
      · exact Quiet.ite h₁ h₁.fillBy
      · split
        · exact h₁
        · extract_lets s₂ x
          have h₂ : Quiet m r s₂ := Quiet.ite h₁.charge h₁
          exact h₂.putHarb (by rfl)

theorem answers_refresh {h₀ : Fin 2} {x : Fin 4 × Bool} (h : Quiet m r s) : Answers m r (execRefresh h₀ x s) := by
  unfold execRefresh
  split
  · exact Quiet.next (Quiet.ite (h.putHarb (by rfl)) h)

theorem answers_patrolScrub {h₀ : Fin 2} {r0 r1 r2 r3 : EccResult} (h : Quiet m r s) :
    Answers m r (execPatrolScrub h₀ r0 r1 r2 r3 s) := by
  unfold execPatrolScrub
  refine Quiet.next ?_
  split
  · exact h
  · extract_lets x x₁ x₂ s₁ x₃ x₄ s₂
    have h₁ : Quiet m r s₁ := h.eccApply.eccApply.eccApply.eccApply
    have h₂ : Quiet m r s₂ := h₁.putHarb (by rfl)
    exact Quiet.ite h₂.countWrap h₂

theorem Quiet.translate {k ba : Nat} {write drift : Bool} {bad : Nat} {x : Except (Nat × Nat) (Bool × Nat)} (h : Quiet m r s)
    (e : s.translate k ba write drift bad = (x, t)) : Quiet m r t := by
  have key : Quiet m r (s.translate k ba write drift bad).2 := by
    rw [State.translate]
    obtain ⟨walk, hwalk⟩ : ∃ w, w = State.walk := ⟨_, rfl⟩
    rw [← hwalk]
    split
    · exact h
    · split
      · exact h
      · split
        · exact h.putHarb (by rfl)
        · extract_lets s₁
          have h₁ : Quiet m r s₁ := h.countWrap
          split
          · exact h₁
          · exact h₁.putHarb (by rfl)
  rwa [e] at key

theorem Quiet.translateFor {h₀ k ba : Nat} {write drift : Bool} {ecc : List EccResult} {x₀ : Except (Nat × Nat) (Bool × Nat)} (h : Quiet m r s)
    (e : s.translateFor h₀ k ba write drift ecc = (x₀, t)) : Quiet m r t := by
  have key : Quiet m r (s.translateFor h₀ k ba write drift ecc).2 := by
    unfold State.translateFor
    extract_lets x x₁ x₂ x₃ x₄ s₁
    split
    · rename_i heq
      have h₁ := Quiet.translate (Quiet.ite h h.charge) heq
      exact h₁.foldl fun _ _ h₂ => h₂.eccApply
  rwa [e] at key

theorem Quiet.xlateFault {h₀ requester source ba : Nat} {write : Bool} {cause level : Nat} (h : Quiet m r s) :
    Quiet m r (s.xlateFault h₀ requester source ba write cause level) := by
  unfold State.xlateFault
  extract_lets x s₁ s₂ s₃ s₄
  exact Quiet.raise (Quiet.event (Quiet.ite h.put h.put.put.put.put.put.put.put.put))

theorem Quiet.dropNamed {h₀ : Nat} (h : Quiet m r s) : Quiet m r (s.dropNamed h₀) := by
  unfold State.dropNamed
  extract_lets x x₁ x₂ x₃ x₄
  exact h.putHarb (by rfl)

theorem answers_trInvalidate {req : Requester} {h₀ : Fin 2} {all : Bool} (h : Quiet m r s) :
    Answers m r (execTrInvalidate req h₀ all s) := Quiet.next (h.onWrite (fun _ h₁ => by
    extract_lets s₁ x
    have h₂ : Quiet m r s₁ := h₁.put
    exact Quiet.ite (h₂.putHarb (by rfl)) h₂.put.dropNamed))

theorem answers_invDone {h₀ : Fin 2} (h : Quiet m r s) : Answers m r (execInvDone h₀ s) := by
  unfold execInvDone
  refine Quiet.next ?_
  extract_lets x x₁ s₁ x₂
  have h₁ : Quiet m r s₁ := h.event
  exact Quiet.ite h (Quiet.ite (h₁.putHarb (by rfl)).dropNamed h₁.put)

theorem Quiet.enterReq {h₀ : Nat} {r₀ : MemReq} {pa : Nat} (h : Quiet m r s) : Quiet m r (s.enterReq h₀ r₀ pa) := by
  unfold State.enterReq
  extract_lets x x₁ x₂
  exact h.putHarb (by rfl)

theorem Quiet.endRequest {h₀ : Nat} {r₀ : MemReq} {cause : Nat} {bytes : List Byte} (h : Quiet m r s) :
    Quiet m r (s.endRequest h₀ r₀ cause bytes) := h.putHarb (by rfl)

theorem Quiet.requestBack {r₀ : MemReq} {x₀ : Bool} (h : Quiet m r s) (e : s.requestBack r₀ = (x₀, t)) : Quiet m r t := by
  have key : Quiet m r (s.requestBack r₀).2 := by
    unfold State.requestBack
    split
    · exact h
    · split
      · rename_i heq
        have h₁ := h.entryBack heq
        exact Quiet.ite h₁.countStale h₁
  rwa [e] at key

theorem Quiet.takeResult {k q c g : Nat} {x : MemResult} (h : Quiet m r s) (ht : s.takeResult k q c g = some (x, t)) : Quiet m r t := by
  simp only [State.takeResult, Option.map_eq_some_iff, Prod.mk.injEq] at ht
  obtain ⟨_, -, rfl, rfl⟩ := ht
  exact h.putHarb (by rfl)

theorem Quiet.harbourTide {h₀ : Nat} (h : Quiet m r s) : Quiet m r (s.harbourTide h₀) := by
  unfold State.harbourTide
  extract_lets x s₁ s₂ s₃ s₄ x₁
  have h₁ : Quiet m r s₄ := by
    simp only [s₄]
    refine Quiet.cond ?_
    refine Quiet.cond ?_
    refine Quiet.put ?_
    refine Quiet.put ?_
    refine Quiet.foldl (h) fun _ _ h₂ => ?_
    extract_lets s₅ s₆
    exact h₂.put.put.put
  exact h₁.putHarb (by rfl)

theorem Quiet.harbourReset {h₀ : Nat} (h : Quiet m r s) : Quiet m r (s.harbourReset h₀) := by
  unfold State.harbourReset
  extract_lets x x₁ x₂ x₃ x₄ x₅ x₆ s₁ x₇
  exact (h.putHarb (by rfl)).foldl fun _ _ h₁ => h₁.same (by rfl)

/-! ## What the operations of Pcie leave as it is -/

theorem Quiet.putPc {n : Nat} {x : PcieSt} (h : Quiet m r s) : Quiet m r (s.putPc n x) := h.same (by rfl)

theorem Quiet.pcPut {n p : Nat} {f : Field} {v : Nat} (h : Quiet m r s) : Quiet m r (s.pcPut n p f v) := h.foldl fun _ _ h₁ => h₁.put

theorem Quiet.pcCount {n : Nat} {f : Field} {k : optParam Nat 1} (h : Quiet m r s) : Quiet m r (s.pcCount n f k) := h.foldl fun _ _ h₁ => h₁.countSat

theorem Quiet.pcEvent {n b : Nat} (h : Quiet m r s) : Quiet m r (s.pcEvent n b) := h.foldl fun _ _ h₁ => h₁.event

theorem Quiet.judgeLink {n : Nat} (h : Quiet m r s) : Quiet m r (s.judgeLink n) := by
  unfold State.judgeLink
  extract_lets x x₁ s₁ x₂
  have h₁ : Quiet m r s₁ := h.pcPut
  exact h₁.cond

theorem Quiet.judgeAer {n : Nat} (h : Quiet m r s) : Quiet m r (s.judgeAer n) := h.cond

theorem Quiet.errMessage {n level : Nat} (h : Quiet m r s) : Quiet m r (s.errMessage n level) := Quiet.ite h.emit h

theorem Quiet.aerCorrectable {n b : Nat} (h : Quiet m r s) : Quiet m r (s.aerCorrectable n b) := by
  unfold State.aerCorrectable
  extract_lets x s₁
  have h₁ : Quiet m r s₁ := h.putPc.pcCount.pcEvent
  exact Quiet.ite h₁ h₁.errMessage

theorem Quiet.logHeader {n b hdr : Nat} (h : Quiet m r s) : Quiet m r (s.logHeader n b hdr) := by
  unfold State.logHeader
  extract_lets x
  exact Quiet.ite h (Quiet.ite h.aerCorrectable h.putPc)

theorem Quiet.aerUncorrectable {n b hdr : Nat} (h : Quiet m r s) : Quiet m r (s.aerUncorrectable n b hdr) := by
  unfold State.aerUncorrectable
  extract_lets x s₁ s₂ x₁
  have h₁ : Quiet m r s₁ := h.putPc.logHeader
  have h₂ : Quiet m r s₂ := Quiet.ite h₁ h₁.errMessage
  exact h₂.pcEvent.judgeAer.again

theorem Quiet.aerAdvisory {n b hdr : Nat} (h : Quiet m r s) : Quiet m r (s.aerAdvisory n b hdr) := by
  unfold State.aerAdvisory
  extract_lets x s₁ s₂ x₁
  have h₁ : Quiet m r s₁ := h.putPc
  have h₂ : Quiet m r s₂ := Quiet.ite h₁ h₁.logHeader
  exact Quiet.ite h.aerUncorrectable h₂.aerCorrectable.judgeAer.again

theorem Quiet.linkError {n : Nat} {e₀ : LinkError} {hdr : Nat} (h : Quiet m r s) :
    Quiet m r (s.linkError n e₀ hdr) := Quiet.ite h (Quiet.ite h.aerCorrectable h.aerUncorrectable)

theorem Quiet.countNp {n : Nat} (h : Quiet m r s) : Quiet m r (s.countNp n) := h.pcPut

theorem Quiet.judgeTags {n : Nat} (h : Quiet m r s) : Quiet m r (s.judgeTags n) := h.pcPut

theorem Quiet.issueReads {n k channel burst : Nat} {entry : Nat × Nat} {addr : Nat} {ns : Bool} {off : Nat} {l tags : List Nat} (h : Quiet m r s) :
    Quiet m r (s.issueReads n k channel burst entry addr ns off l tags) := by
  induction l generalizing s off tags with
  | nil => exact h
  | cons size l ih =>
    cases tags with
    | nil => exact h
    | cons tag tags => exact ih h.putPc.flyEntry.emit

theorem Quiet.hostReadBurst {h₀ channel burst : Nat} {entry : Nat × Nat} {addr size : Nat} {ns : Bool} (h : Quiet m r s) :
    Quiet m r (s.hostReadBurst h₀ channel burst entry addr size ns) := by
  unfold State.hostReadBurst
  extract_lets x x₁ x₂
  exact h.issueReads.countNp

theorem Quiet.hostWriteBurst {h₀ addr : Nat} {bytes : List Byte} {ro ns sentinel : Bool} (h : Quiet m r s) :
    Quiet m r (s.hostWriteBurst h₀ addr bytes ro ns sentinel) := by
  unfold State.hostWriteBurst
  extract_lets x x₁ x₂ x₃
  exact Quiet.ite h.pcCount (Quiet.foldl_fst (h) fun _ _ h₁ => h₁.emit)

theorem Quiet.readBack {channel burst cause : Nat} {bytes : List Byte} (h : Quiet m r s) :
    Quiet m r (s.readBack channel burst cause bytes) := by
  unfold State.readBack
  extract_lets x x₁
  exact h.putHarb (by rfl)

theorem Quiet.endNp {n : Nat} {q : NpReq} {bytes : Option (List Byte)} (h : Quiet m r s) : Quiet m r (s.endNp n q bytes) := by
  unfold State.endNp
  extract_lets x s₁ x₁ x₂ s₂ s₃
  have h₁ : Quiet m r s₁ := by
    unfold s₁
    split
    · exact h
    · exact h.entryBack rfl
  have h₂ : Quiet m r s₃ := by
    unfold s₃
    split
    · exact h₁.putPc
    · split
      · exact h₁.putPc.freeHeld.readBack
      · extract_lets x₃ x₄
        exact Quiet.ite h₁.putPc.readBack h₁.putPc
  clear_value s₁ s₃
  exact h₂.countNp

theorem Quiet.failReads {n : Nat} (h : Quiet m r s) : Quiet m r (s.failReads n) := by
  unfold State.failReads
  extract_lets s₁ x
  have h₁ : Quiet m r s₁ := h.foldl fun _ _ h₁ => h₁.endNp
  clear_value s₁
  exact h₁.putPc.countNp

theorem answers_pcieCompletion {n : Fin 2} {tag : Fin 1024} {st : CplStatus} {d : List Byte × BitVec 128} (h : Quiet m r s) :
    Answers m r (execPcieCompletion n tag st d s) := by
  unfold execPcieCompletion
  refine Quiet.next ?_
  split
  · extract_lets x x₁ s₁
    have h₁ : Quiet m r s₁ := Quiet.ite h.aerAdvisory h
    split
    · exact h.linkError
    · split
      · exact h.linkError
      · split
        · exact h.putPc.pcCount.countNp
        · split
          · exact h.aerAdvisory
          · extract_lets x₂ s₂
            exact Quiet.ite h.putPc (Quiet.endNp (Quiet.ite h₁.countStale h₁))

theorem answers_completionTimeout {n : Fin 2} {tag : Fin 1024} (h : Quiet m r s) : Answers m r (execCompletionTimeout n tag s) := by
  unfold execCompletionTimeout
  refine Quiet.next ?_
  extract_lets x
  split
  · exact h.putPc.aerUncorrectable.countNp
  · split
    · exact h
    · exact h.aerUncorrectable.endNp

theorem Quiet.sendMsix {n v : Nat} (h : Quiet m r s) : Quiet m r (s.sendMsix n v) := by
  unfold State.sendMsix
  extract_lets x
  exact h.emit

theorem Quiet.releaseMsix {n : Nat} (h : Quiet m r s) : Quiet m r (s.releaseMsix n) := by
  unfold State.releaseMsix
  split
  · exact h
  · extract_lets x x₁ s₁
    exact h.putPc.foldl fun _ _ h₁ => h₁.sendMsix

theorem answers_msixFire {n : Fin 2} {src : Fin 1537} (h : Quiet m r s) : Answers m r (execMsixFire n src s) := by
  unfold execMsixFire
  refine Quiet.next ?_
  extract_lets x s₁ x₁ s₂ x₂
  have h₁ : Quiet m r s₁ := h.same (by rfl)
  have h₂ : Quiet m r s₂ := h₁.pcCount
  split
  · exact h₁
  · split
    · exact h₁
    · exact Quiet.ite h₁.pcCount (Quiet.ite h₁.pcCount (Quiet.ite (Quiet.ite h₂.pcCount h₂.putPc) h₂.sendMsix))

theorem answers_msixTableWrite {n : Fin 2} {off : Fin 65536} {w : Option Word} (h : Quiet m r s) : Answers m r (execMsixTableWrite n off w s) := by
  unfold execMsixTableWrite
  refine Quiet.next ?_
  split
  · exact h
  · split
    · exact h.emit
    · split
      · exact h
      · extract_lets x x₁ x₂ x₃
        exact h.putPc.releaseMsix

theorem Quiet.resetFunction {n : Nat} (h : Quiet m r s) : Quiet m r (s.resetFunction n) := by
  unfold State.resetFunction
  extract_lets x s₁ x₁ s₂ s₃ s₄ s₅ s₆
  have h₁ : Quiet m r s₅ := h.failReads.putPc.pcPut.pcPut.pcPut.foldl fun _ _ h₁ => h₁.pcPut
  clear_value s₅
  exact h₁.pcPut.pcPut.judgeTags.countNp.judgeAer.judgeLink

theorem Quiet.linkOut {n ltssm : Nat} (h : Quiet m r s) : Quiet m r (s.linkOut n ltssm) := by
  unfold State.linkOut
  extract_lets s₁
  exact h.failReads.pcPut.pcPut.pcPut.judgeLink

theorem Quiet.resetPortPages {n : Nat} (h : Quiet m r s) : Quiet m r (s.resetPortPages n) := h.setRegs (by rfl) (SMap.wf_filter _ _)

theorem answers_perstAssert {n : Fin 2} (h : Quiet m r s) : Answers m r (execPerstAssert n s) := by
  unfold execPerstAssert
  refine Quiet.next ?_
  split
  · exact h
  · extract_lets x s₁
    have h₁ : Quiet m r s₁ := h.putPc
    exact h₁.resetFunction.resetPortPages.linkOut.lower

theorem Quiet.trainPort {n : Nat} (h : Quiet m r s) : Quiet m r (s.trainPort n) := Quiet.ite h h.pcPut

theorem answers_perstDeassert {n : Fin 2} (h : Quiet m r s) : Answers m r (execPerstDeassert n s) := Quiet.next (Quiet.ite h h.putPc.trainPort)

theorem Quiet.linkDown {n ltssm : Nat} (h : Quiet m r s) : Quiet m r (s.linkDown n ltssm) := by
  unfold State.linkDown
  extract_lets x s₁
  have h₁ : Quiet m r s₁ := h.resetFunction.linkOut
  exact Quiet.ite h₁ h₁.pcCount.pcEvent.raise

theorem answers_pcieLinkDown {n : Fin 2} {hotReset : Bool} (h : Quiet m r s) :
    Answers m r (execPcieLinkDown n hotReset s) := Quiet.next (Quiet.ite h h.linkDown)

theorem Quiet.equalized {n rate : Nat} {own : EqRequest} {merits : List Nat} (h : Quiet m r s) : Quiet m r (s.equalized n rate own merits) := by
  unfold State.equalized
  extract_lets x x₁ s₁ x₂
  have h₁ : Quiet m r s₁ := by
    simp only [s₁]
    split
    · exact h.pcPut
    · exact Quiet.ite h.putPc h
  exact h₁.pcPut

theorem answers_ltssmTransition {n : Fin 2} {ltssm : Fin 9} {width speed : Nat} {x : Option (Fin 3 × EqRequest × List Nat) × List (LinkError × BitVec 128)} (h : Quiet m r s) :
    Answers m r (execLtssmTransition n ltssm width speed x s) := by
  unfold execLtssmTransition
  refine Quiet.next ?_
  split
  · extract_lets x₁ s₁ s₂ x₂ x₃ x₄ s₃ s₄ s₅ s₆
    have h₁ : Quiet m r s₁ := h.foldl fun _ _ h₁ => h₁.linkError
    have h₂ : Quiet m r s₂ := by
      unfold s₂
      split
      · exact h₁
      · exact h₁.equalized
    have h₃ : Quiet m r s₃ := h₂.pcPut.pcPut.pcPut
    have h₄ : Quiet m r s₄ := Quiet.ite h₃ h₃.pcEvent
    have h₅ : Quiet m r s₅ := Quiet.ite h₄.pcEvent h₄
    clear_value s₁ s₂
    exact Quiet.ite h (Quiet.ite h₅.lower.judgeLink.releaseMsix (Quiet.ite (Quiet.judgeLink (Quiet.pcPut (Quiet.failReads (Quiet.ite h₂.pcCount h₂)))) (Quiet.ite h₂.linkDown h₂.pcPut)))

theorem answers_aspmL1Entry {n : Fin 2} (h : Quiet m r s) : Answers m r (execAspmL1Entry n s) := by
  unfold execAspmL1Entry
  refine Quiet.next ?_
  extract_lets x
  exact Quiet.ite h.pcPut.judgeLink h

theorem Quiet.configWrite {n v : Nat} {a : ConfigItem} (h : Quiet m r s) : Quiet m r (s.configWrite n v a) := by
  unfold State.configWrite
  split
  · exact h
  · exact h
  · exact h
  · exact h
  · exact h
  · exact h
  · exact h
  · exact h
  · exact h
  · exact h
  · exact h
  · exact h
  · exact h
  · exact h
  · exact h
  · exact h
  · exact h
  · exact h
  · exact h
  · exact h
  · exact h
  · exact h
  · exact h
  · exact h
  · exact h
  · extract_lets x x₁ x₂
    exact h.putPc
  · exact h.putPc
  · exact h.putPc
  · exact h.putPc
  · exact h.pcPut.judgeLink
  · exact h.pcPut
  · exact h.pcPut
  · exact h.pcPut
  · exact h.pcPut.judgeTags
  · exact h.pcPut.judgeTags
  · exact h.pcPut
  · exact h.pcPut.judgeLink.releaseMsix
  · exact h.pcPut.releaseMsix
  · exact h.putPc.releaseMsix
  · split
    · extract_lets s₁
      exact Quiet.releaseMsix (Quiet.judgeLink (Quiet.pcPut (Quiet.ite h.pcEvent h)))
    · exact h
  · exact h.putPc
  · exact h.putPc
  · extract_lets x x₁
    exact Quiet.ite h.putPc h
  · extract_lets x x₁
    exact h.putPc.judgeAer
  · exact h.putPc
  · exact h.putPc
  · exact h.putPc
  · exact h.putPc

theorem answers_configRequest {n : Fin 2} {item : ConfigItem} {value : Option Word} (h : Quiet m r s) :
    Answers m r (execConfigRequest n item value s) := by
  unfold execConfigRequest
  refine Quiet.next ?_
  split
  · exact h
  · split
    · exact h.emit
    · split
      · exact h.emit
      · exact h.configWrite.emit

theorem Quiet.aperError {n h₀ off cause : Nat} {write : Bool} (h : Quiet m r s) : Quiet m r (s.aperError n h₀ off cause write) := by
  unfold State.aperError
  split
  · exact h.pcPut
  · extract_lets s₁ s₂ s₃
    have h₁ : Quiet m r s₃ := h.pcPut.pcPut.pcPut.pcPut.pcPut.pcPut
    exact h₁.raise

theorem Quiet.aperFail {n h₀ off cause : Nat} {write : Bool} {hdr : Nat} (h : Quiet m r s) :
    Quiet m r (s.aperFail n h₀ off cause write hdr) := by
  unfold State.aperFail
  extract_lets s₁
  have h₁ : Quiet m r s₁ := h.aperError
  exact Quiet.ite h₁.aerUncorrectable h₁.emit

theorem Quiet.aperAnswer {n : Nat} {x : AperAccess} (h : Quiet m r s) : Quiet m r (s.aperAnswer n x) := by
  unfold State.aperAnswer
  extract_lets x₁ s₁
  have h₁ : Quiet m r s₁ := Quiet.ite h.aperError h
  exact Quiet.foldl_fst (h₁) fun _ _ h₂ => h₂.emit

theorem Quiet.aperResult {h₀ : Nat} {r₀ : MemResult} (h : Quiet m r s) : Quiet m r (s.aperResult h₀ r₀) := by
  unfold State.aperResult
  extract_lets x
  split
  · exact h
  · rename_i heq
    have h₁ := h.takeResult heq
    split
    · exact h₁
    · split
      · extract_lets x₁ x₂ x₃ x₄ s₁
        have h₂ : Quiet m r s₁ := h₁.putPc
        exact Quiet.ite h₁.putPc.aperFail (Quiet.ite h₁.putPc (Quiet.ite h₂ h₂.aperAnswer))

theorem answers_apertureAccess {n : Fin 2} {off size : Nat} {write : Option (List Byte)} {poisoned : Bool} {hdr01 hdr23 : BitVec 64} (h : Quiet m r s) :
    Answers m r (execApertureAccess n off size write poisoned hdr01 hdr23 s) := by
  unfold execApertureAccess
  refine Quiet.next ?_
  extract_lets x x₁ x₂
  split
  · extract_lets x₃ s₁
    exact Quiet.ite h (Quiet.ite h.aperFail (Quiet.ite h.aperFail (Quiet.ite h.aperFail (h.putPc.foldl fun _ _ h₁ => h₁.enterReq))))

theorem Quiet.moveConditions {a b : Nat} (h : Quiet m r s) : Quiet m r (s.moveConditions a b) := h.foldl fun _ _ h₁ => Quiet.ite h₁.lower.raise h₁

theorem answers_controllerTakeover {h₀ : Fin 2} (h : Quiet m r s) : Answers m r (execControllerTakeover h₀ s) := by
  unfold execControllerTakeover
  refine Quiet.next ?_
  extract_lets x s₁ x₁ x₂ s₂ s₃
  have h₁ : Quiet m r s₁ := h.put.put.moveConditions
  have h₂ : Quiet m r s₂ := h₁.putPc
  exact Quiet.ite h (Quiet.releaseMsix (Quiet.pcEvent (Quiet.countNp (Quiet.ite (h₂.same (by rfl)) h₁))))

theorem Quiet.portFails {h₀ : Nat} (h : Quiet m r s) : Quiet m r (s.portFails h₀) := Quiet.ite h (Quiet.ite h.pcPut h.linkDown)

/-! ## What the operations of Lighthouse leave as it is -/

theorem Quiet.putLhCtx {e₀ c : Nat} {x : LightCtx} (h : Quiet m r s) : Quiet m r (s.putLhCtx e₀ c x) := by
  unfold State.putLhCtx
  extract_lets x₁ s₁ x₂
  have h₁ : Quiet m r s₁ := h.same (by rfl)
  exact h₁.cond.cond.cond

theorem Quiet.lhRestart {e₀ c : Nat} (h : Quiet m r s) : Quiet m r (s.lhRestart e₀ c) := h.putLhCtx.put

theorem Quiet.chainIssued {parts : List (Nat × Nat)} {k : Nat} {reset : Bool} (h : Quiet m r s) : Quiet m r (s.chainIssued parts k reset) := by
  unfold State.chainIssued
  refine Quiet.foldl (h) fun _ _ h₁ => ?_
  extract_lets x s₁
  have h₂ : Quiet m r s₁ := h₁.putLhCtx
  exact Quiet.ite h₂.countWrap.event h₂

theorem Quiet.chainTaken {parts : List (Nat × Nat)} {k sig : Nat} (h : Quiet m r s) :
    Quiet m r (s.chainTaken parts k sig) := h.foldl fun _ _ h₁ => h₁.put

theorem Quiet.judgeFrozen {l : Latch} {parts : List (Nat × Nat × List (Option Nat))} {x₀ : Bool} (h : Quiet m r s)
    (e : s.judgeFrozen l parts = (x₀, t)) : Quiet m r t := by
  have key : Quiet m r (s.judgeFrozen l parts).2 := by
    unfold State.judgeFrozen
    split
    · exact h
    · extract_lets x x₁ x₂ x₃ x₄ x₅ x₆ x₇ x₈
      refine Quiet.foldl (h) fun _ _ h₁ => ?_
      extract_lets x₉ s₁ s₂ s₃ s₄
      exact h₁.putLhCtx.put.put.put.eventIf
  rwa [e] at key

theorem Quiet.judgeSensor {parts : List (Nat × Nat)} {bad : Bool} (h : Quiet m r s) : Quiet m r (s.judgeSensor parts bad) := by
  unfold State.judgeSensor
  refine Quiet.foldl (h) fun _ _ h₁ => ?_
  extract_lets x x₁ s₁
  have h₂ : Quiet m r s₁ := h₁.putLhCtx
  exact Quiet.ite h₂.again h₂

theorem Quiet.noteTwin {differ : Bool} (h : Quiet m r s) : Quiet m r (s.noteTwin differ) := by
  unfold State.noteTwin
  extract_lets x x₁ x₂ s₁ s₂
  have h₁ : Quiet m r s₁ := h.same (by rfl)
  have h₂ : Quiet m r s₂ := Quiet.ite h₁.put h₁
  exact Quiet.ite h₂.noteHalf.noteHalf h₂

theorem Quiet.compareTwin {family : Nat} {t₀ : TwinRecord} (h : Quiet m r s) : Quiet m r (s.compareTwin family t₀) := by
  unfold State.compareTwin
  extract_lets x x₁ x₂ x₃
  split
  · exact h.same (by rfl)
  · extract_lets x₄ s₁
    refine Quiet.foldl ((h.same (by rfl)).noteTwin) fun _ _ h₁ => ?_
    extract_lets x₅ x₆ s₂
    have h₂ : Quiet m r s₂ := h₁.putLhCtx
    exact Quiet.ite h₂.countSat.event.again h₂

theorem Quiet.soundAbandon {taps : List Tap} (h : Quiet m r s) : Quiet m r (s.soundAbandon taps) := h.foldl fun _ _ h₁ => h₁.countSat.event

theorem Quiet.soundMismatch {u result expect seq : Nat} (h : Quiet m r s) : Quiet m r (s.soundMismatch u result expect seq) := by
  unfold State.soundMismatch
  extract_lets x s₁ s₂ s₃ x₁
  have h₁ : Quiet m r s₁ := h.countSat.event
  have h₂ : Quiet m r s₃ := h₁.put.put.put.put
  exact Quiet.ite h₁.put.occur h₂.putMarks.occur

theorem Quiet.soundResults {taps : List Tap} {addr : Nat} {frame : Option (Nat × Nat)} {bytes : List Byte} (h : Quiet m r s) :
    Quiet m r (s.soundResults taps addr frame bytes) := by
  unfold State.soundResults
  refine Quiet.foldl (h) fun _ _ h₁ => ?_
  extract_lets x x₁ x₂ s₁ x₃ s₂
  have h₂ : Quiet m r s₁ := h₁.put.countWrap.event
  have h₃ : Quiet m r s₂ := Quiet.ite h₂.put h₂
  clear_value x₃
  split
  · exact Quiet.ite h₂.put h₂
  · exact Quiet.ite (Quiet.ite h₂.put h₂) (Quiet.soundMismatch (Quiet.ite h₂.put h₂))

theorem Quiet.dropTaps {u : Nat} (h : Quiet m r s) : Quiet m r (s.dropTaps u) := by
  unfold State.dropTaps
  extract_lets x x₁ x₂ s₁
  exact (h.same (by rfl)).foldl fun _ _ h₁ => h₁.soundAbandon

theorem answers_soundingConfigWrite {req : Requester} {u : Fin 64} {w : Word} (h : Quiet m r s) :
    Answers m r (execSoundingConfigWrite req u w s) := Quiet.next (h.onWrite (fun _ h₁ => by
    extract_lets x x₁ x₂ x₃ x₄ x₅ x₆ x₇ x₈ s₁ s₂ s₃ x₉ s₄ s₅
    have h₂ : Quiet m r s₁ := h₁.eventIf
    have h₃ : Quiet m r s₂ := Quiet.ite h₂ h₂.put.put.put
    have h₄ : Quiet m r s₄ := Quiet.put (Quiet.ite h₃ h₃.put)
    have h₅ : Quiet m r s₅ := Quiet.ite h₄.put h₄
    exact Quiet.ite h₅.dropTaps h₅))

theorem answers_soundingArm {req : Requester} {u : Fin 64} (h : Quiet m r s) :
    Answers m r (execSoundingArm req u s) := Quiet.next (h.onWrite (fun _ h₁ => h₁.put))

/-! ## What the operations of Drift leave as it is -/

theorem Quiet.putCh {c : Nat} {x : ChannelSt} (h : Quiet m r s) : Quiet m r (s.putCh c x) := h.same (by rfl)

theorem Quiet.putNext {c a : Nat} (h : Quiet m r s) : Quiet m r (s.putNext c a) := h.put.put

theorem Quiet.judgeCh {c : Nat} (h : Quiet m r s) : Quiet m r (s.judgeCh c) := by
  unfold State.judgeCh
  extract_lets x s₁ s₂ s₃
  exact h.put.put.put.put.put.cond

theorem Quiet.loseFrame {c key : Nat} {noDesc : Bool} (h : Quiet m r s) : Quiet m r (s.loseFrame c key noDesc) := by
  unfold State.loseFrame
  extract_lets x s₁
  exact h.putCh.countSat.eventIf.report

theorem Quiet.rewindFrame {c : Nat} {r₀ : DriftRun} (h : Quiet m r s) : Quiet m r (s.rewindFrame c r₀) := by
  unfold State.rewindFrame
  extract_lets x s₁ x₁ x₂ x₃ s₂
  have h₁ : Quiet m r s₁ := h.soundAbandon
  have h₂ : Quiet m r s₂ := h₁.putCh
  split
  · exact h₁.putCh
  · split
    · exact h₁.putCh
    · split
      · exact h₂
      · exact h₂.put.putNext

theorem Quiet.untap {c : Nat} (h : Quiet m r s) : Quiet m r (s.untap c) := by
  unfold State.untap
  extract_lets x s₁ x₁ x₂
  have h₁ : Quiet m r s₁ := h.foldl fun _ _ h₂ => h₂.soundAbandon
  exact h₁.putCh

theorem Quiet.haltCh {c cause addr tries : Nat} {write : Bool} {mcFail : Nat} (h : Quiet m r s) :
    Quiet m r (s.haltCh c cause addr tries write mcFail) := by
  unfold State.haltCh
  extract_lets x s₁ s₂ s₃ s₄ x₁ s₅ s₆
  have h₁ : Quiet m r s₄ := h.put.put.put.put.put.put.put.event
  have h₂ : Quiet m r s₅ := h₁.putCh.untap
  have h₃ : Quiet m r s₆ := by
    unfold s₆
    split
    · split
      · exact Quiet.ite h₂.loseFrame.rewindFrame h₂
      · exact h₂
    · exact h₂
  clear_value s₆
  exact h₃.judgeCh

theorem Quiet.trigger {c : Nat} (h : Quiet m r s) : Quiet m r (s.trigger c) := by
  unfold State.trigger
  extract_lets x
  exact Quiet.ite h.event h.put

theorem Quiet.oweTriggers {code : Nat} {p : Nat → Bool} (h : Quiet m r s) : Quiet m r (s.oweTriggers code p) := h.foldl fun _ _ h₁ => h₁.owe

theorem Quiet.pulseCh {c : Nat} (h : Quiet m r s) : Quiet m r (s.pulseCh c) := by
  unfold State.pulseCh
  extract_lets s₁
  have h₁ : Quiet m r s₁ := h.pulseSources.oweTriggers
  exact Quiet.ite h₁.owe h₁.owe

theorem Quiet.startRun {c : Nat} (h : Quiet m r s) : Quiet m r (s.startRun c) := by
  unfold State.startRun
  extract_lets x x₁
  split
  · exact h
  · split
    · exact h
    · extract_lets x₂ s₁
      exact Quiet.ite h (Quiet.ite h (Quiet.putCh (Quiet.ite h.put h)))

theorem Quiet.finishRun {c : Nat} {r₀ : DriftRun} (h : Quiet m r s) : Quiet m r (s.finishRun c r₀) := by
  unfold State.finishRun
  extract_lets x x₁ x₂ x₃ s₁ s₂ s₃
  have h₁ : Quiet m r s₁ := h.eventIf
  have h₂ : Quiet m r s₃ := Quiet.putCh (Quiet.ite h₁ h₁.soundResults)
  exact Quiet.ite h.haltCh (Quiet.ite h.haltCh (Quiet.ite h₂.pulseCh h₂))

theorem Quiet.progress {c n : Nat} (h : Quiet m r s) : Quiet m r (s.progress c n) := by
  induction n generalizing s with
  | zero => exact h
  | succ n ih =>
    rw [State.progress]
    have h₁ : Quiet m r (s.startRun c) := h.startRun
    refine Quiet.ite h₁.putCh ?_
    split
    · exact h₁.putCh
    · exact Quiet.ite (ih h₁.putCh.finishRun) h₁.putCh

theorem Quiet.listHalt {c : Nat} (h : Quiet m r s) : Quiet m r (s.listHalt c) := by
  unfold State.listHalt
  extract_lets x x₁
  split
  · exact h
  · extract_lets x₂
    split
    · exact h
    · split
      · exact Quiet.ite h.haltCh h
      · exact Quiet.ite h.haltCh h
      · exact h

theorem Quiet.settleCh {c : Nat} (h : Quiet m r s) : Quiet m r (s.settleCh c) := by
  unfold State.settleCh
  extract_lets s₁ x x₁ s₂ x₂ x₃
  have h₁ : Quiet m r s₁ := h.progress.listHalt
  have h₂ : Quiet m r s₂ := Quiet.ite h₁.putCh.event h₁
  exact h₂.putCh.judgeCh

theorem Quiet.takeDesc {c : Nat} {r₀ : DriftRun} (h : Quiet m r s) : Quiet m r (s.takeDesc c r₀) := by
  unfold State.takeDesc
  extract_lets x s₁ s₂
  exact h.put.putNext.putCh.put.put.put

theorem Quiet.descRead {c addr : Nat} {b : List Byte} (h : Quiet m r s) : Quiet m r (s.descRead c addr b) := by
  unfold State.descRead
  extract_lets x s₁
  exact Quiet.ite h.takeDesc h.put.put.haltCh

theorem answers_driftAdd {req : Requester} {c : Fin 1024} {w : Word} (h : Quiet m r s) :
    Answers m r (execDriftAdd req c w s) := Quiet.next (h.onWrite (fun _ h₁ => by
    split
    · exact h₁.event
    · extract_lets x s₁
      exact h₁.eventIf.put.judgeCh))

theorem answers_driftSetNext {req : Requester} {c : Fin 1024} {high : Bool} {w : Word} (h : Quiet m r s) :
    Answers m r (execDriftSetNext req c high w s) := Quiet.next (h.onWrite (fun _ h₁ => by
    extract_lets x x₁ x₂
    exact Quiet.ite h₁.event (Quiet.ite h₁.putNext.putCh h₁.putCh)))

theorem Quiet.resumeCh {c : Nat} (h : Quiet m r s) : Quiet m r (s.resumeCh c) := by
  unfold State.resumeCh
  extract_lets x x₁
  exact Quiet.ite h.putCh.settleCh h.putCh.settleCh

theorem Quiet.abortCh {c : Nat} (h : Quiet m r s) : Quiet m r (s.abortCh c) := by
  unfold State.abortCh
  extract_lets x x₁ x₂ s₁ x₃ s₂ s₃ x₄ s₄
  have h₁ : Quiet m r s₁ := h.foldl fun _ _ h₂ => h₂.freeHeld
  have h₂ : Quiet m r s₃ := (h₁.putHarb (by rfl)).put
  exact h₂.putCh.judgeStarved.judgeCh

theorem Quiet.commandCh {c w : Nat} (h : Quiet m r s) : Quiet m r (s.commandCh c w) := by
  unfold State.commandCh
  extract_lets x s₁ x₁
  have h₁ : Quiet m r s₁ := Quiet.ite h.trigger.settleCh h
  exact Quiet.ite (Quiet.ite h₁ h₁.abortCh) (Quiet.ite h₁.event (Quiet.ite (Quiet.ite h₁ h₁.putCh.settleCh) (Quiet.ite (Quiet.ite h₁ h₁.resumeCh) h₁)))

theorem answers_driftTrig {req : Requester} {c : Fin 1024} {w : Word} (h : Quiet m r s) :
    Answers m r (execDriftTrig req c w s) := Quiet.next (h.onWrite (fun _ h₁ => h₁.commandCh))

theorem answers_driftPause {req : Requester} {c : Fin 1024} {w : Word} (h : Quiet m r s) :
    Answers m r (execDriftPause req c w s) := Quiet.next (h.onWrite (fun _ h₁ => h₁.commandCh))

theorem answers_driftResume {req : Requester} {c : Fin 1024} {w : Word} (h : Quiet m r s) :
    Answers m r (execDriftResume req c w s) := Quiet.next (h.onWrite (fun _ h₁ => h₁.commandCh))

theorem answers_driftAbort {req : Requester} {c : Fin 1024} {w : Word} (h : Quiet m r s) :
    Answers m r (execDriftAbort req c w s) := Quiet.next (h.onWrite (fun _ h₁ => h₁.commandCh))

theorem answers_driftAbortDone {c : Fin 1024} (h : Quiet m r s) : Answers m r (execDriftAbortDone c s) := by
  unfold execDriftAbortDone
  refine Quiet.next ?_
  extract_lets x s₁ s₂ s₃ x₁ s₄
  have h₁ : Quiet m r s₃ := Quiet.foldl (Quiet.put (h.foldl fun _ _ h₂ => h₂.soundAbandon)) fun _ _ h₂ => h₂.loseFrame
  exact Quiet.ite h h₁.putCh.event.judgeCh

theorem answers_driftTrigger {c : Fin 1024} (h : Quiet m r s) : Answers m r (execDriftTrigger c s) := by
  unfold execDriftTrigger
  refine Quiet.next ?_
  extract_lets x
  exact Quiet.ite (h.same (by rfl)).trigger.settleCh (Quiet.ite h.trigger.settleCh h)

theorem Quiet.bindFrame {c : Nat} {i : Handed} (h : Quiet m r s) (ht : s.bindFrame c i = some t) : Quiet m r t := by
  unfold State.bindFrame at ht
  extract_lets at ht
  split at ht
  · cases ht
  · split at ht
    · split at ht
      · cases ht
      · cases ht; exact h.putCh
    · split at ht
      · cases ht
      · split at ht
        · cases ht
        · split at ht
          · cases ht; exact h.putCh
          · split at ht
            · simp only [Option.map_eq_some_iff] at ht
              obtain ⟨_, -, rfl⟩ := ht
              exact h.putCh
            · cases ht

theorem Quiet.frameUnit {c key : Nat} {r₀ : DriftRun} {a : FrameUnit} (h : Quiet m r s) : Quiet m r (s.frameUnit c key r₀ a) := by
  unfold State.frameUnit
  split
  · exact h
  · extract_lets x
    split
    · exact h.putCh
    · exact h.putCh
  · extract_lets s₁ s₂ s₃ x x₁
    have h₁ : Quiet m r s₃ := h.chainTaken.soundResults.lower
    split
    · exact h₁.putCh
    · exact h₁.putCh
  · extract_lets s₁ x x₁
    have h₁ : Quiet m r s₁ := h.countSat.rewindFrame
    split
    · exact h₁.putCh
    · exact h₁

theorem answers_driftFrameUnit {c : Fin 1024} (h : Quiet m r s) : Answers m r (execDriftFrameUnit c s) := by
  unfold execDriftFrameUnit
  refine Quiet.next ?_
  extract_lets x
  split
  · exact h
  · extract_lets s₁ x₁
    have h₁ : Quiet m r s₁ := h.putCh
    split
    · exact h₁
    · split
      · exact h₁.frameUnit.settleCh
      · split
        · exact h₁.loseFrame.settleCh
        · rename_i heq
          have h₂ := h₁.bindFrame heq
          split
          · exact h₂
          · exact h₂.frameUnit.settleCh

theorem Quiet.awaitEntries {h₀ path : Nat} (h : Quiet m r s) : Quiet m r (s.awaitEntries h₀ path) := h.foldl fun _ _ h₁ => h₁.putCh.countBulkWait

theorem Quiet.afterIssue {c : Nat} {b : DriftBurst} {host : Option Nat} (h : Quiet m r s) : Quiet m r (s.afterIssue c b host) := by
  unfold State.afterIssue
  extract_lets x x₁ x₂ s₁
  have h₁ : Quiet m r s₁ := h.putCh
  split
  · exact h₁
  · exact h₁.put

theorem Quiet.flyBurst {c : Nat} {b : DriftBurst} (h : Quiet m r s) : Quiet m r (s.flyBurst c b) := by
  unfold State.flyBurst
  extract_lets x
  exact h.putCh

theorem Quiet.noteFiltered {c : Nat} {b : DriftBurst} (h : Quiet m r s) : Quiet m r (s.noteFiltered c b) := by
  unfold State.noteFiltered
  extract_lets x
  split
  · exact h
  · extract_lets x₁ x₂
    exact h.same (by rfl)

theorem Quiet.sendBurst {c : Nat} {b : DriftBurst} (h : Quiet m r s) : Quiet m r (s.sendBurst c b) := by
  unfold State.sendBurst
  extract_lets x x₁ x₂ s₁
  have h₁ : Quiet m r s₁ := Quiet.ite h.noteFiltered h
  exact h₁.hostWriteBurst

theorem Quiet.issueBurst {c : Nat} {b : DriftBurst} {ecc : List EccResult} (h : Quiet m r s) : Quiet m r (s.issueBurst c b ecc) := by
  unfold State.issueBurst
  extract_lets k x cls
  split
  · exact h
  · rename_i s₁ hentry
    extract_lets s₂ route
    have h₂ : Quiet m r s₂ := Quiet.ite (h.allocBulk hentry).countSat (h.allocBulk hentry)
    clear_value s₂
    split
    rename_i o s₃ ho
    have h₃ : Quiet m r s₃ := by
      split at ho
      · exact h₂.translateFor ho
      · exact (Prod.mk.inj ho).2 ▸ h₂
    extract_lets entry b s₄ s₅
    have h₄ : Quiet m r s₄ := h₃.flyBurst.afterIssue
    clear_value s₄
    refine Quiet.settleCh (Quiet.judgeStarved ?_)
    simp only [s₅]
    split
    · exact h₄.flyEntry.xlateFault.readBack
    · exact Quiet.ite (Quiet.ite h₄.flyEntry.sendBurst.readBack h₄.hostReadBurst) h₄.ask

theorem answers_driftBurstGrant {h₀ : Fin 2} {x : Fin 4 × List EccResult} (h : Quiet m r s) : Answers m r (execDriftBurstGrant h₀ x s) := by
  unfold execDriftBurstGrant
  split
  · refine Quiet.next ?_
    split
    · exact h.awaitEntries
    · split
      · exact h
      · extract_lets x₁ x₂ s₁ x₃
        have h₁ : Quiet m r s₁ := h.same (by rfl)
        split
        · split
          · exact h₁
          · exact h₁.issueBurst
        · split
          · exact h₁
          · exact h₁.putCh.emit.settleCh

theorem Quiet.castFails {c : Nat} {b : DriftBurst} {r₀ : DriftRun} (h : Quiet m r s) : Quiet m r (s.castFails c b r₀) := by
  unfold State.castFails
  extract_lets x x₁ x₂ x₃ x₄ s₁ s₂
  exact h.putCh.put.put.put.put.put.put

theorem Quiet.burstFails {c : Nat} {b : DriftBurst} {cause : Nat} (h : Quiet m r s) : Quiet m r (s.burstFails c b cause) := by
  unfold State.burstFails
  extract_lets x x₁ x₂ x₃
  split
  · exact h
  · split
    · exact h.putCh
    · split
      · exact Quiet.ite h.putCh h.putCh.haltCh
      · split
        · exact h.putCh
        · split
          · exact h.castFails
          · exact h.putCh.haltCh

theorem Quiet.takeBurst {c : Nat} {p : DriftBurst → Bool} {x : MemResult} {b : DriftBurst} (h : Quiet m r s)
    (e : s.takeBurst c p = some (x, b, t)) : Quiet m r t := by
  unfold State.takeBurst at e
  extract_lets k ended at e
  obtain ⟨a, -, e⟩ := Option.bind_eq_some_iff.1 e
  obtain ⟨⟨y, s₁⟩, hy, e⟩ := Option.map_eq_some_iff.1 e
  have h₁ : Quiet m r s₁ := h.takeResult hy
  simp only [Prod.mk.injEq] at e
  rw [← e.2.2]
  refine Quiet.putCh ?_
  split
  · exact Quiet.ite (h₁.entryBack rfl) h₁
  · exact h₁

theorem answers_descFetched {c : Fin 1024} {desc src dst old : Bool} (h : Quiet m r s) :
    Answers m r (execDescFetched c desc src dst old s) := by
  unfold execDescFetched
  refine Quiet.next ?_
  split
  · exact h
  · rename_i heq
    have h₁ := h.takeBurst heq
    extract_lets s₁
    exact Quiet.settleCh (Quiet.ite h₁.burstFails (Quiet.ite (Quiet.ite h₁.descRead h₁) (Quiet.ite h₁ h₁.putCh)))

theorem answers_driftBurstDone {c : Fin 1024} {id : Nat} (h : Quiet m r s) : Answers m r (execDriftBurstDone c id s) := by
  unfold execDriftBurstDone
  refine Quiet.next ?_
  split
  · exact h
  · rename_i heq
    have h₁ := h.takeBurst heq
    extract_lets x x₁ x₂ s₁
    exact Quiet.settleCh (Quiet.ite h₁.burstFails (Quiet.ite (Quiet.ite h₁ h₁.putCh) (Quiet.ite h₁.putCh h₁)))

theorem Quiet.rebindCh {c : Nat} (h : Quiet m r s) : Quiet m r (s.rebindCh c) := by
  unfold State.rebindCh
  extract_lets x x₁ x₂ x₃ s₁ s₂
  have h₁ : Quiet m r s₁ := h.putCh
  clear_value x₂
  split
  · exact h.putCh.judgeCh
  · extract_lets s₃ x₄
    have h₂ : Quiet m r s₃ := h.putCh.put.putNext
    exact h₂.putCh.judgeCh

/-! ## What the operations of Ports leave as it is -/

theorem Quiet.putPort {n : Nat} {x : PortSt} (h : Quiet m r s) : Quiet m r (s.putPort n x) := h.same (by rfl)

theorem Quiet.putLane {n : Nat} {x : LaneSt} (h : Quiet m r s) : Quiet m r (s.putLane n x) := h.same (by rfl)

theorem Quiet.putStream {n : Nat} {x : StreamSt} (h : Quiet m r s) : Quiet m r (s.putStream n x) := h.same (by rfl)

theorem Quiet.putSync {n : Nat} {x : SyncSt} (h : Quiet m r s) : Quiet m r (s.putSync n x) := h.same (by rfl)

theorem Quiet.stPut {n : Nat} {f : Field} {v : Nat} (h : Quiet m r s) : Quiet m r (s.stPut n f v) := h.put

theorem Quiet.stCount {n : Nat} {f : Field} (h : Quiet m r s) : Quiet m r (s.stCount n f) := h.countSat

theorem Quiet.judgeGpio (h : Quiet m r s) : Quiet m r (s.judgeGpio) := h.cond

theorem Quiet.ballOff {i : Nat} (h : Quiet m r s) : Quiet m r (s.ballOff i) := by
  unfold State.ballOff
  extract_lets x s₁
  have h₁ : Quiet m r s₁ := h.same (by rfl)
  exact h₁.put.countSat.event.judgeGpio.again

theorem Quiet.judgeHeaders {n : Nat} (h : Quiet m r s) : Quiet m r (s.judgeHeaders n) := by
  unfold State.judgeHeaders
  extract_lets x x₁
  exact h.putPort.cond

theorem Quiet.toInlet {n : Nat} {i : InletItem} (h : Quiet m r s) : Quiet m r (s.toInlet n i) := h.putPort

theorem Quiet.intake {n : Nat} {b : List Byte} {broken : Bool} {stamp stop : Nat} (h : Quiet m r s) :
    Quiet m r (s.intake n b broken stamp stop) := by
  unfold State.intake
  split
  · exact h
  · split
    · extract_lets x s₁
      exact h.countSat.putPort.judgeHeaders
    · extract_lets s₁ x x₁ s₂
      have h₁ : Quiet m r s₁ := Quiet.ite h.countSat h
      have h₂ : Quiet m r s₂ := h₁.countWrap
      split
      · exact h₁.countSat.event
      · split
        · exact h₁
        · exact Quiet.ite h₂ h₂.toInlet

theorem Quiet.gapTo {n : Nat} (h : Quiet m r s) : Quiet m r (s.gapTo n) := Quiet.ite h.toInlet h

theorem Quiet.bcSend {n type : Nat} {payload : List Byte} (h : Quiet m r s) : Quiet m r (s.bcSend n type payload) := h.putLane

theorem Quiet.judgeSyncLost (h : Quiet m r s) : Quiet m r (s.judgeSyncLost) := h.cond

theorem Quiet.mapPort {lo hi : Field} {n : Nat} (h : Quiet m r s) : Quiet m r (s.mapPort lo hi n) := Quiet.ite h.put h.put

theorem Quiet.countSkip {n : Nat} (h : Quiet m r s) : Quiet m r (s.countSkip n) := by
  unfold State.countSkip
  extract_lets s₁
  exact h.countSat.countSat.mapPort.event.judgeSyncLost

theorem Quiet.pathMissed {n k : Nat} (h : Quiet m r s) : Quiet m r (s.pathMissed n k) := by
  unfold State.pathMissed
  extract_lets x s₁
  exact Quiet.ite h.putSync.put.countSkip h

/-! ## What the operations of Jetty leave as it is -/

theorem Quiet.putWindow {n : Nat} {x : JettySt} (h : Quiet m r s) : Quiet m r (s.putWindow n x) := h.same (by rfl)

theorem Quiet.putJtSlot {n i : Nat} {v : JettySlot} (h : Quiet m r s) : Quiet m r (s.putJtSlot n i v) := by
  unfold State.putJtSlot
  extract_lets x
  exact h.putWindow.put.putMax

theorem Quiet.judgeJtErr {n : Nat} (h : Quiet m r s) : Quiet m r (s.judgeJtErr n) := h.cond

theorem Quiet.judgeMirErr {n : Nat} (h : Quiet m r s) : Quiet m r (s.judgeMirErr n) := h.cond

theorem Quiet.logJt {n requester : Nat} {write : Bool} {cause gen id word far count : Nat} (h : Quiet m r s) :
    Quiet m r (s.logJt n requester write cause gen id word far count) := by
  unfold State.logJt
  extract_lets x s₁ s₂ s₃ s₄ s₅
  have h₁ : Quiet m r s₁ := h.countSat
  exact Quiet.ite h₁.put h₁.put.put.put.put.put.put.put.put.put.judgeJtErr

theorem Quiet.sendTxn {n i : Nat} (h : Quiet m r s) : Quiet m r (s.sendTxn n i) := by
  unfold State.sendTxn
  extract_lets x x₁ x₂ s₁
  exact Quiet.ite h.bcSend h.putWindow.put.emit

theorem Quiet.openTxn {n i requester word : Nat} {t₀ : BusTxn} (h : Quiet m r s) :
    Quiet m r (s.openTxn n i requester word t₀) := h.putJtSlot

theorem Quiet.failRead {r₀ : HeldRead} (h : Quiet m r s) : Quiet m r (s.failRead r₀) := by
  unfold State.failRead
  extract_lets s₁
  have h₁ : Quiet m r s₁ := h.emit
  split
  · exact h₁.aerUncorrectable
  · exact h₁.aerUncorrectable
  · exact h₁

theorem Quiet.endHeld {n i : Nat} {value : Option Nat} (h : Quiet m r s) : Quiet m r (s.endHeld n i value) := by
  unfold State.endHeld
  extract_lets x
  split
  · exact h
  · extract_lets x₁ x₂ x₃ s₁
    have h₁ : Quiet m r s₁ := h.putWindow
    exact Quiet.ite h.putWindow (Quiet.ite h₁.failRead h₁.emit)

theorem Quiet.endTxq {n cause count : Nat} {data : List Byte} (h : Quiet m r s) : Quiet m r (s.endTxq n cause count data) := by
  unfold State.endTxq
  extract_lets x s₁ s₂ s₃
  refine Quiet.foldl (h.put.put.put.put.put.event) fun _ _ h₁ => ?_
  extract_lets x₁ x₂ x₃
  exact h₁.put

theorem Quiet.endMirror {n m₀ : Nat} {write ok : Bool} {value : Nat} (h : Quiet m r s) : Quiet m r (s.endMirror n m₀ write ok value) := by
  unfold State.endMirror
  extract_lets x s₁
  have h₁ : Quiet m r s₁ := Quiet.ite h.put h.put
  exact Quiet.ite (Quiet.ite h h.put) (Quiet.again (Quiet.judgeMirErr (Quiet.ite h₁.put h₁)))

theorem Quiet.endSensor {n : Nat} {ok : Bool} (h : Quiet m r s) : Quiet m r (s.endSensor n ok) := by
  unfold State.endSensor
  extract_lets x
  split
  · exact h
  · extract_lets s₁
    have h₁ : Quiet m r s₁ := h.putWindow
    exact Quiet.ite h₁ h₁.countSat

theorem Quiet.endTxn {n i cause : Nat} {data : List Byte} {far count : Nat} {missing : Bool} (h : Quiet m r s) :
    Quiet m r (s.endTxn n i cause data far count missing) := by
  unfold State.endTxn
  extract_lets x x₁ x₂ s₁ s₂ s₃ x₃
  have h₁ : Quiet m r s₁ := h.putJtSlot
  have h₂ : Quiet m r s₂ := h₁.putMax
  have h₃ : Quiet m r s₃ := Quiet.ite h₂.countWrap h₂.logJt
  exact Quiet.ite h₃.endSensor (Quiet.ite h₃.endMirror (Quiet.ite h₃.endTxq h₃.endHeld))

theorem Quiet.startTxn {n i : Nat} (h : Quiet m r s) :
    Quiet m r (s.startTxn n i) := Quiet.ite (Quiet.ite h.sendTxn h.endTxn) (Quiet.ite h.endTxn h.sendTxn)

theorem Quiet.stepSensors {n : Nat} (h : Quiet m r s) : Quiet m r (s.stepSensors n) := by
  unfold State.stepSensors
  extract_lets x x₁
  split
  · exact h
  · split
    · exact h
    · extract_lets s₁ x₂
      have h₁ : Quiet m r s₁ := h.putWindow
      split
      · exact h₁.logJt.endSensor
      · split
        · exact h
        · exact h₁.openTxn.startTxn

theorem Quiet.pumpMirror {n tide : Nat} {l : List Nat} (h : Quiet m r s) : Quiet m r (s.pumpMirror n tide l) := by
  induction l generalizing s with
  | nil => exact h.putWindow
  | cons e l ih =>
    rw [State.pumpMirror]
    refine Quiet.ite (ih h) ?_
    split
    · exact h.putWindow
    · exact ih (Quiet.ite h.put h).openTxn.startTxn

theorem Quiet.resumeMirror {n : Nat} (h : Quiet m r s) : Quiet m r (s.resumeMirror n) := by
  unfold State.resumeMirror
  split
  · exact Quiet.ite h.pumpMirror h
  · exact h

theorem Quiet.closeTxn {n i cause : Nat} {data : List Byte} {far count : Nat} {missing : Bool} (h : Quiet m r s) :
    Quiet m r (s.closeTxn n i cause data far count missing) := h.endTxn.resumeMirror

theorem answers_mirrorCycleStart {n : Fin 40} (h : Quiet m r s) : Answers m r (execMirrorCycleStart n s) := by
  unfold execMirrorCycleStart
  extract_lets x
  exact Quiet.next (Quiet.ite h h.pumpMirror)

theorem answers_mirrorCycleEnd {n : Fin 40} (h : Quiet m r s) : Answers m r (execMirrorCycleEnd n s) := by
  unfold execMirrorCycleEnd
  extract_lets x
  refine Quiet.next ?_
  split
  · exact Quiet.ite h h.putWindow.put.event
  · exact h

theorem answers_mirrorValueWrite {req : Requester} {n : Fin 40} {m₀ : Fin 64} {w : Word} (h : Quiet m r s) :
    Answers m r (execMirrorValueWrite req n m₀ w s) := by
  unfold execMirrorValueWrite
  extract_lets x
  exact Quiet.next (h.onWrite (fun _ h₁ => Quiet.ite h₁.put.put h₁))

theorem Quiet.refuseTxn {n requester : Nat} {write : Bool} {cause word : Nat} (h : Quiet m r s) :
    Quiet m r (s.refuseTxn n requester write cause word) := h.logJt

theorem Quiet.openWords {n q : Nat} {ws : List (Nat × Option Nat)} {ks : List Nat} (h : Quiet m r s) : Quiet m r (s.openWords n q ws ks) := by
  induction ws generalizing s ks with
  | nil => exact h
  | cons w ws ih =>
    cases ks with
    | nil => exact h
    | cons k ks => exact ih h.openTxn

theorem answers_windowRead {req : Requester} {n : Fin 40} {off : Fin 1024} {size : Fin 9} {upper : Bool} {header : Nat} (h : Quiet m r s) :
    Answers m r (execWindowRead req n off size upper header s) := by
  unfold execWindowRead
  extract_lets x x₁ x₂ x₃ x₄ x₅ s₁ x₆ s₂
  have h₁ : Quiet m r s₁ := h.openWords
  refine Quiet.next ?_
  split
  · exact h
  · split
    · exact h.logAccess.emit
    · exact Quiet.ite h.refuseTxn.failRead (Quiet.ite h.refuseTxn.failRead (h₁.putWindow.foldl fun _ _ h₂ => h₂.startTxn))

theorem answers_windowWrite {req : Requester} {n : Fin 40} {word : Fin 256} {lo : Word} {hi : Option Word} (h : Quiet m r s) :
    Answers m r (execWindowWrite req n word lo hi s) := by
  unfold execWindowWrite
  extract_lets x x₁
  exact Quiet.next (Quiet.ite h (Quiet.ite h.logAccess (h.onWrite (fun _ h₁ => by
    split
    · exact h₁.refuseTxn
    · extract_lets x₂
      exact Quiet.ite h₁.refuseTxn (h₁.openWords.foldl fun _ _ h₂ => h₂.startTxn)))))

theorem Quiet.takeReply {n k : Nat} {x : List Byte} (h : Quiet m r s) (ht : s.takeReply n k = some (x, t)) : Quiet m r t := by
  simp only [State.takeReply, Option.map_eq_some_iff, Prod.mk.injEq] at ht
  obtain ⟨_, -, rfl, rfl⟩ := ht
  exact h.putWindow

theorem answers_txnReplyReceived {n : Fin 40} (h : Quiet m r s) : Answers m r (execTxnReplyReceived n s) := by
  unfold execTxnReplyReceived
  extract_lets x
  refine Quiet.next ?_
  split
  · exact h
  · rename_i heq
    have h₁ := h.takeReply heq
    extract_lets x₁ x₂ x₃ x₄ x₅ x₆ s₁
    have h₂ : Quiet m r s₁ := h₁.countSat.event
    exact Quiet.ite (Quiet.ite h₁.putJtSlot h₁.closeTxn) (Quiet.ite h₂.putJtSlot.resumeMirror h₂)

theorem answers_jettyBusyRetry {n : Fin 40} {i : Fin 64} (h : Quiet m r s) : Answers m r (execJettyBusyRetry n i s) := by
  unfold execJettyBusyRetry
  extract_lets x s₁
  exact Quiet.next (Quiet.ite h.putJtSlot.countSat.sendTxn h)

theorem Quiet.localDone {n cause : Nat} {data : List Byte} {count : Nat} (h : Quiet m r s) : Quiet m r (s.localDone n cause data count) := by
  unfold State.localDone
  split
  · exact h
  · extract_lets x s₁
    exact h.putWindow.put.closeTxn

theorem Quiet.failLocal {n k : Nat} (h : Quiet m r s) : Quiet m r (s.failLocal n k) := by
  induction k generalizing s with
  | zero => exact h
  | succ k ih => exact Quiet.ite h (ih h.localDone)

theorem answers_jettyBudgetTimeout {n : Fin 40} {i : Fin 64} {sdaLow : Bool} (h : Quiet m r s) :
    Answers m r (execJettyBudgetTimeout n i sdaLow s) := by
  unfold execJettyBudgetTimeout
  extract_lets x x₁ s₁ s₂ x₂ s₃ s₄
  have h₁ : Quiet m r s₁ := h.countSat
  have h₂ : Quiet m r s₂ := Quiet.ite (Quiet.ite h₁.put.raise h₁) h
  have h₃ : Quiet m r s₄ := h₂.putWindow.put.closeTxn
  exact Quiet.next (Quiet.ite h (Quiet.ite h.closeTxn (Quiet.ite h₃.failLocal h₃)))

theorem answers_jettyLateExpire {n : Fin 40} {i : Fin 64} (h : Quiet m r s) : Answers m r (execJettyLateExpire n i s) := h.putJtSlot.resumeMirror.next

theorem Quiet.jettyLinkDown {n : Nat} (h : Quiet m r s) : Quiet m r (s.jettyLinkDown n) := by
  unfold State.jettyLinkDown
  extract_lets s₁ x s₂
  have h₁ : Quiet m r s₁ := by
    unfold s₁
    refine Quiet.foldl (h) fun _ _ h₁ => ?_
    extract_lets x₁ s₃ x₂
    have h₂ : Quiet m r s₃ := Quiet.ite h₁.endTxn h₁
    exact h₂.putJtSlot
  clear_value s₁
  exact h₁.putWindow.resumeMirror

theorem answers_localTxnDone {n : Fin 8} {status : Fin 6} {count : Nat} {data : List Byte} (h : Quiet m r s) :
    Answers m r (execLocalTxnDone n status count data s) := by
  unfold execLocalTxnDone
  extract_lets x
  refine Quiet.next ?_
  split
  · exact h
  · extract_lets x₁
    exact h.localDone

theorem answers_localBusTimeout {n : Fin 8} {sdaLow : Bool} (h : Quiet m r s) : Answers m r (execLocalBusTimeout n sdaLow s) := by
  unfold execLocalBusTimeout
  extract_lets x x₁ s₁
  have h₁ : Quiet m r s₁ := h.localDone.countSat
  exact Quiet.next (Quiet.ite h (Quiet.ite h₁.put.raise.failLocal h₁))

theorem answers_localBusRecovery {n : Fin 8} {sdaLow : Bool} (h : Quiet m r s) : Answers m r (execLocalBusRecovery n sdaLow s) := by
  unfold execLocalBusRecovery
  extract_lets x s₁
  have h₁ : Quiet m r s₁ := h.countSat
  exact Quiet.next (Quiet.ite h (Quiet.ite h₁ h₁.put.lower))

theorem answers_txqGo {req : Requester} {n : Fin 40} {w : Word} (h : Quiet m r s) : Answers m r (execTxqGo req n w s) := by
  unfold execTxqGo
  extract_lets x
  exact Quiet.next (h.onWrite (fun _ h₁ => by
    extract_lets x₁ s₁ x₂ x₃ x₄ x₅
    have h₂ : Quiet m r s₁ := h₁.writeFields
    split
    · exact h₂
    · split
      · exact h₂.event
      · split
        · exact h₂.refuseTxn
        · split
          · exact h₂.refuseTxn.endTxq
          · extract_lets s₂
            have h₃ : Quiet m r s₂ := h₂.openTxn.put
            exact Quiet.ite h₃.closeTxn h₃.startTxn))

theorem Quiet.pushEvent {n : Nat} {e₀ : SensorEvent} (h : Quiet m r s) : Quiet m r (s.pushEvent n e₀) := by
  unfold State.pushEvent
  extract_lets x x₁ s₁
  exact Quiet.ite h.put.event h.putWindow.put.eventIf

theorem Quiet.sideband {n : Nat} {b : List Byte} {stamp16 : Nat} (h : Quiet m r s) : Quiet m r (s.sideband n b stamp16) := by
  unfold State.sideband
  extract_lets x
  exact Quiet.ite h.pushEvent h

theorem answers_sintEdge {n : Fin 8} {level : Bool} {back : Nat} (h : Quiet m r s) :
    Answers m r (execSintEdge n level back s) := Quiet.next (Quiet.ite h h.pushEvent)

theorem answers_ibiReceived {n : Fin 8} {addr : Fin 128} {payload : List Byte} (h : Quiet m r s) :
    Answers m r (execIbiReceived n addr payload s) := Quiet.next (Quiet.ite h.pushEvent h)

theorem Quiet.popEvent {n : Nat} {x₀ : List Nat} (h : Quiet m r s) (e : s.popEvent n = (x₀, t)) : Quiet m r t := by
  have key : Quiet m r (s.popEvent n).2 := by
    unfold State.popEvent
    extract_lets x
    exact h.putWindow.put
  rwa [e] at key

theorem answers_evqPop {req : Requester} {n : Fin 40} (h : Quiet m r s) : Answers m r (execEvqPop req n s) :=
  Quiet.next (h.onPop fun _ h => h.popEvent rfl)

theorem answers_pollSend {n : Fin 32} (h : Quiet m r s) : Answers m r (execPollSend n s) := by
  unfold execPollSend
  extract_lets x x₁ x₂ s₁ s₂ x₃ x₄
  have h₁ : Quiet m r s₁ := h.countSat.putWindow
  have h₂ : Quiet m r s₂ := Quiet.ite (Quiet.ite h₁.raise h₁) h
  exact Quiet.next (Quiet.ite h h₂.putWindow.bcSend)

theorem Quiet.judgeCamFault {n : Nat} (h : Quiet m r s) : Quiet m r (s.judgeCamFault n) := h.cond

theorem answers_pollReply {n : Fin 32} (h : Quiet m r s) : Answers m r (execPollReply n s) := by
  unfold execPollReply
  extract_lets x
  refine Quiet.next ?_
  split
  · exact h
  · rename_i heq
    have h₁ := h.takeReply heq
    extract_lets x₁ s₁ s₂
    exact Quiet.ite h₁.putWindow.put.countWrap.lower.judgeCamFault h₁

/-! ## What the operations of Weatas leave as it is -/

theorem Quiet.putRx {n st : Nat} (h : Quiet m r s) : Quiet m r (s.putRx n st) := h.put

theorem Quiet.linkTo {n st : Nat} (h : Quiet m r s) : Quiet m r (s.linkTo n st) := by
  unfold State.linkTo
  extract_lets s₁
  have h₁ : Quiet m r s₁ := h.put.cond
  exact Quiet.ite h₁.lower h₁

theorem Quiet.acquire {n : Nat} (h : Quiet m r s) : Quiet m r (s.acquire n) := by
  unfold State.acquire
  extract_lets x s₁ x₁ s₂ x₂ s₃
  have h₁ : Quiet m r s₁ := h.put.put
  have h₂ : Quiet m r s₂ := h₁.foldl fun _ _ h₃ => h₃.put
  exact h₂.put.putLane.putRx.lower

theorem Quiet.sendEq {n : Nat} {x : FarSetting} (h : Quiet m r s) : Quiet m r (s.sendEq n x) := by
  unfold State.sendEq
  extract_lets x₁
  split
  · extract_lets s₁ s₂ x₂ s₃ s₄
    have h₁ : Quiet m r s₂ := Quiet.eventIf (h.foldl fun _ _ h₂ => Quiet.ite h₂.put h₂)
    have h₂ : Quiet m r s₃ := h₁.putLane
    exact Quiet.bcSend (Quiet.ite h₂.put h₂)

theorem Quiet.showFar {n : Nat} (h : Quiet m r s) : Quiet m r (s.showFar n) := by
  unfold State.showFar
  extract_lets x x₁ s₁
  exact Quiet.ite h h.put.put.put.put.put.put

theorem Quiet.sendTrain {n phase : Nat} (h : Quiet m r s) : Quiet m r (s.sendTrain n phase) := h.bcSend

theorem Quiet.attempt {n m₀ : Nat} (h : Quiet m r s) : Quiet m r (s.attempt n m₀) := by
  unfold State.attempt
  extract_lets x s₁ s₂ x₁ s₃
  have h₁ : Quiet m r s₂ := h.put.countWrap.put.linkTo.acquire
  exact h₁.putLane.sendTrain

theorem Quiet.startTraining {n : Nat} (h : Quiet m r s) : Quiet m r (s.startTraining n) := by
  unfold State.startTraining
  extract_lets x x₁ s₁ s₂
  have h₁ : Quiet m r s₂ := h.putLane.put.put
  split
  · exact h₁.attempt
  · exact h₁.acquire.linkTo

theorem Quiet.failAttempt {n : Nat} (h : Quiet m r s) : Quiet m r (s.failAttempt n) := by
  unfold State.failAttempt
  extract_lets x s₁ x₁
  have h₁ : Quiet m r s₁ := h.event.countSat
  split
  · exact h₁.attempt
  · exact h₁.putLane.linkTo

theorem Quiet.dropFsyncs {n : Nat} (h : Quiet m r s) : Quiet m r (s.dropFsyncs n) := by
  unfold State.dropFsyncs
  extract_lets x x₁ s₁
  exact h.putLane.foldl fun _ _ h₁ => h₁.countSat.pathMissed

theorem Quiet.pausePoll {n : Nat} (h : Quiet m r s) : Quiet m r (s.pausePoll n) := h.putWindow

theorem Quiet.noteBreak {n : Nat} (h : Quiet m r s) : Quiet m r (s.noteBreak n) := by
  unfold State.noteBreak
  extract_lets x x₁ x₂ x₃
  exact Quiet.ite h (Quiet.ite (h.same (by rfl)) (h.same (by rfl)).put)

theorem Quiet.trackSeq {n seq : Nat} {accepted : Bool} (h : Quiet m r s) : Quiet m r (s.trackSeq n seq accepted) := by
  unfold State.trackSeq
  extract_lets x
  split
  · exact h.countSat.putLane
  · exact Quiet.ite h.putLane h

theorem Quiet.breakPacket {n : Nat} (h : Quiet m r s) : Quiet m r (s.breakPacket n) := by
  unfold State.breakPacket
  split
  · exact h
  · extract_lets x s₁ s₂
    have h₁ : Quiet m r s₂ := h.putLane.trackSeq.countSat
    exact Quiet.ite h₁.intake h₁

theorem Quiet.leaveOperating {n : Nat} {counted lost : Bool} (h : Quiet m r s) : Quiet m r (s.leaveOperating n counted lost) := by
  unfold State.leaveOperating
  split
  · exact h
  · extract_lets x s₁ s₂ s₃ s₄ s₅ s₆ x₁ s₇
    have h₁ : Quiet m r s₁ := h.noteBreak
    have h₂ : Quiet m r s₂ := Quiet.ite h₁.event.countSat h₁
    have h₃ : Quiet m r s₆ := Quiet.put (Quiet.pausePoll (Quiet.jettyLinkDown (Quiet.put (Quiet.gapTo (Quiet.breakPacket (Quiet.ite h₂.raise h₂))))))
    exact h₃.putLane.dropFsyncs.put

theorem Quiet.retrain {n : Nat} {lost : Bool} (h : Quiet m r s) : Quiet m r (s.retrain n lost) := h.leaveOperating.startTraining

theorem Quiet.laneOn {n : Nat} (h : Quiet m r s) : Quiet m r (s.laneOn n) := Quiet.ite h (Quiet.ite h.putRx.putLane.linkTo h.startTraining)

theorem Quiet.laneOff {n : Nat} (h : Quiet m r s) : Quiet m r (s.laneOff n) := by
  unfold State.laneOff
  extract_lets s₁ x
  have h₁ : Quiet m r s₁ := h.leaveOperating.linkTo
  exact h₁.putRx.putLane.lower

theorem Quiet.enterDropout {n : Nat} (h : Quiet m r s) : Quiet m r (s.enterDropout n) := by
  unfold State.enterDropout
  extract_lets x s₁ s₂ x₁
  have h₁ : Quiet m r s₂ := h.linkTo.event.countSat.breakPacket.gapTo.pausePoll
  exact h₁.putLane

theorem Quiet.leaveDropout {n : Nat} (h : Quiet m r s) : Quiet m r (s.leaveDropout n) := by
  unfold State.leaveDropout
  extract_lets x x₁ s₁ x₂
  have h₁ : Quiet m r s₁ := h.linkTo.event.put
  exact h₁.putLane

theorem Quiet.headerError {n : Nat} (h : Quiet m r s) : Quiet m r (s.headerError n) := by
  unfold State.headerError
  extract_lets s₁ x
  have h₁ : Quiet m r s₁ := h.countSat
  exact Quiet.ite h₁.putLane h₁

theorem Quiet.adapt {n : Nat} {c : RxCoefs} (h : Quiet m r s) : Quiet m r (s.adapt n c) := by
  unfold State.adapt
  extract_lets x s₁
  exact h.put.put.put.foldl fun _ _ h₁ => h₁.put

theorem Quiet.putSnr {n : Nat} {w : List RxSymbol} (h : Quiet m r s) : Quiet m r (s.putSnr n w) := by
  unfold State.putSnr
  split
  · extract_lets x
    split
    · exact h.putFit
    · split
      · exact h.put
      · split
        · rename_i heq
          have h₁ := h.fresh heq
          exact h₁.put

theorem answers_laneRxConverged {n : Fin 32} {x : RxCoefs × List RxSymbol} (h : Quiet m r s) : Answers m r (execLaneRxConverged n x s) := by
  unfold execLaneRxConverged
  split
  · extract_lets x₁ s₁ s₂ x₂
    have h₁ : Quiet m r s₁ := h.adapt
    have h₂ : Quiet m r s₂ := h₁.putSnr.put.event
    exact Quiet.next (Quiet.ite h (Quiet.ite h₂.putLane.linkTo h₂))

theorem Quiet.applyStep {n : Nat} {a : EqStep} (h : Quiet m r s) : Quiet m r (s.applyStep n a) := by
  unfold State.applyStep
  split
  · exact h.put
  · exact h.put
  · exact h.foldl fun _ _ h₁ => h₁.put
  · exact h.put

theorem answers_adaptStep {n : Fin 32} {step : EqStep} {intrude : Bool} (h : Quiet m r s) : Answers m r (execAdaptStep n step intrude s) := by
  unfold execAdaptStep
  extract_lets x x₁ x₂ s₁
  have h₁ : Quiet m r s₁ := h.applyStep.putLane.countWrap
  exact Quiet.next (Quiet.ite h (Quiet.ite h₁.countSat.event h₁))

theorem answers_adaptStarved {n : Fin 32} (h : Quiet m r s) : Answers m r (execAdaptStarved n s) := h.eventIf.next

theorem answers_rxFreeze {req : Requester} {n : Fin 32} {w : Word} (h : Quiet m r s) : Answers m r (execRxFreeze req n w s) := by
  unfold execRxFreeze
  extract_lets x
  exact Quiet.next (h.onWrite (fun _ h₁ => by
    extract_lets s₁
    have h₂ : Quiet m r s₁ := h₁.writeFields
    exact Quiet.ite h₂.putRx (Quiet.ite h₂.putRx h₂)))

theorem answers_manualCoefApply {n : Fin 32} (h : Quiet m r s) : Answers m r (execManualCoefApply n s) := by
  unfold execManualCoefApply
  extract_lets x
  refine Quiet.next (Quiet.ite h ?_)
  exact h.putLane.setRegs (by rfl) fun hs => SMap.wf_foldl_set resetField Prod.fst Prod.snd x.manual hs

theorem answers_rxSnrLow {n : Fin 32} {w : List RxSymbol} (h : Quiet m r s) :
    Answers m r (execRxSnrLow n w s) := Quiet.next (Quiet.ite h.putSnr.cond h)

theorem answers_farOpening {n : Fin 32} {o : List ℤ × Option (Fin 3 × Bool)} (h : Quiet m r s) : Answers m r (execFarOpening n o s) := by
  unfold execFarOpening
  split
  · extract_lets x x₁
    refine Quiet.next ?_
    split
    · exact h
    · split
      · exact Quiet.ite h.sendEq h
      · split
        · exact h.sendEq
        · split
          · exact Quiet.ite h.putLane.sendEq h
          · exact h

theorem Quiet.setAmplitude {n : Nat} (h : Quiet m r s) : Quiet m r (s.setAmplitude n) := by
  unfold State.setAmplitude
  extract_lets x x₁ x₂ x₃ s₁
  exact h.put.put.eventIf

theorem answers_bcAmpSample {n : Fin 32} {mv : Nat} (h : Quiet m r s) : Answers m r (execBcAmpSample n mv s) := h.put.setAmplitude.next

theorem Quiet.holdLane {n : Nat} (h : Quiet m r s) : Quiet m r (s.holdLane n) := by
  unfold State.holdLane
  extract_lets x s₁ s₂ s₃ s₄ s₅ x₁ s₆ x₂
  have h₁ : Quiet m r s₁ := h.put
  have h₂ : Quiet m r s₄ := Quiet.lower (Quiet.put (Quiet.put (Quiet.put (Quiet.put (Quiet.ite h₁ h₁.putRx)))))
  have h₃ : Quiet m r s₅ := h₂.leaveOperating.linkTo
  have h₄ : Quiet m r s₆ := Quiet.ite h₂ h₃.putLane
  exact h₄.putLane

theorem Quiet.drivePattern {n : Nat} (h : Quiet m r s) : Quiet m r (s.drivePattern n) := by
  unfold State.drivePattern
  extract_lets x
  exact Quiet.ite h.emit h

theorem Quiet.releaseLane {n : Nat} (h : Quiet m r s) : Quiet m r (s.releaseLane n) := by
  unfold State.releaseLane
  extract_lets s₁ s₂
  have h₁ : Quiet m r s₁ := h.put
  have h₂ : Quiet m r s₂ := Quiet.ite h₁ h₁.drivePattern
  exact Quiet.ite h₂.startTraining h₂

theorem Quiet.autoRelease {n : Nat} (h : Quiet m r s) : Quiet m r (s.autoRelease n) := by
  unfold State.autoRelease
  extract_lets x
  exact Quiet.ite h.event.releaseLane h

theorem Quiet.enterClass {n c : Nat} (h : Quiet m r s) : Quiet m r (s.enterClass n c) := by
  unfold State.enterClass
  extract_lets x s₁ s₂
  have h₁ : Quiet m r s₂ := h.put.event.cond.cond.cond.cond
  exact Quiet.ite h₁.holdLane h₁.autoRelease

theorem answers_lmScan {n : Fin 32} {code feedCode : Fin 4096} (h : Quiet m r s) : Answers m r (execLmScan n code feedCode s) := by
  unfold execLmScan
  extract_lets x x₁ x₂ x₃ x₄ s₁ s₂ x₅ x₆ x₇ s₃
  have h₁ : Quiet m r s₂ := h.putFit.putFit.putFit
  have h₂ : Quiet m r s₃ := h₁.putLane
  exact Quiet.next (Quiet.ite h (Quiet.ite h₁ (Quiet.ite h₂.enterClass h₂)))

theorem Quiet.unmonitor {n : Nat} (h : Quiet m r s) : Quiet m r (s.unmonitor n) := by
  unfold State.unmonitor
  extract_lets x x₁ s₁ s₂
  have h₁ : Quiet m r s₂ := h.put.putLane.lower.lower.lower.lower
  exact Quiet.ite h₁.releaseLane h₁

theorem answers_lmRelease {req : Requester} {n : Fin 32} (h : Quiet m r s) : Answers m r (execLmRelease req n s) := by
  unfold execLmRelease
  extract_lets x
  exact Quiet.next (h.onWrite (fun _ h₁ => Quiet.ite h₁.releaseLane h₁))

theorem Quiet.putPattern {n : Nat} {f : Field} {p : Nat} {forward : Bool} {mode : Nat} (h : Quiet m r s) :
    Quiet m r (s.putPattern n f p forward mode) := Quiet.ite h.put h.event

theorem answers_prbsGenEnable {req : Requester} {n : Fin 32} {w : Word} (h : Quiet m r s) : Answers m r (execPrbsGenEnable req n w s) := by
  unfold execPrbsGenEnable
  extract_lets x
  exact Quiet.next (h.onWrite (fun _ h₁ => by
    extract_lets s₁ s₂ x₁
    have h₂ : Quiet m r s₁ := h₁.put
    have h₃ : Quiet m r s₂ := h₂.putPattern
    split
    · exact h₃.put.put.putLane
    · split
      · exact h₃
      · split
        · exact h₃.event
        · split
          · rename_i heq
            have h₄ := h₃.fresh heq
            extract_lets x₂ x₃ s₃
            exact h₄.putLane.put.drivePattern))

theorem Quiet.startSeries {n : Nat} (h : Quiet m r s) : Quiet m r (s.startSeries n) := by
  unfold State.startSeries
  split
  · exact h
  · exact h.putLane.emit

theorem answers_prbsInject {req : Requester} {n : Fin 32} {w : Word} (h : Quiet m r s) : Answers m r (execPrbsInject req n w s) := by
  unfold execPrbsInject
  extract_lets x
  exact Quiet.next (h.onWrite (fun _ h₁ => by
    extract_lets s₁ s₂ x₁ x₂ s₃
    have h₂ : Quiet m r s₂ := Quiet.put (Quiet.put (Quiet.ite h₁ h₁.put))
    have h₃ : Quiet m r s₃ := h₂.putLane.put
    exact Quiet.ite h₂ (Quiet.ite h₂.event (Quiet.ite h₃.startSeries h₃))))

theorem answers_prbsInjDone {n : Fin 32} (h : Quiet m r s) : Answers m r (execPrbsInjDone n s) := by
  unfold execPrbsInjDone
  extract_lets x x₁
  refine Quiet.next ?_
  split
  · exact h
  · extract_lets s₁ s₂
    have h₁ : Quiet m r s₁ := h.putLane.put.event
    exact Quiet.startSeries (Quiet.ite h₁.countSat h₁)

theorem answers_prbsChkEnable {req : Requester} {n : Fin 32} {w : Word} (h : Quiet m r s) : Answers m r (execPrbsChkEnable req n w s) := by
  unfold execPrbsChkEnable
  extract_lets x
  exact Quiet.next (h.onWrite (fun _ h₁ => by
    extract_lets x₁ s₁ s₂
    have h₂ : Quiet m r s₁ := h₁.put.putPattern
    exact Quiet.ite h₂.put (Quiet.ite h₂ h₂.put.put.put.put)))

theorem answers_prbsLock {n : Fin 32} (h : Quiet m r s) : Answers m r (execPrbsLock n s) := by
  unfold execPrbsLock
  extract_lets x
  exact Quiet.next (Quiet.ite h.put.event h)

theorem answers_prbsLost {n : Fin 32} {errs : Nat} (h : Quiet m r s) : Answers m r (execPrbsLost n errs s) := by
  unfold execPrbsLost
  extract_lets x s₁
  have h₁ : Quiet m r s₁ := h.countSat
  exact Quiet.next (Quiet.ite h (Quiet.ite h₁.put.event h₁))

theorem Quiet.prbsTick {n : Nat} (h : Quiet m r s) : Quiet m r (s.prbsTick n) := by
  unfold State.prbsTick
  extract_lets x x₁ x₂
  exact Quiet.ite h.put.put h

theorem Quiet.countWide {pg : Nat} {lo hi : Field} {k : Nat} (h : Quiet m r s) : Quiet m r (s.countWide pg lo hi k) := by
  unfold State.countWide
  extract_lets x
  exact h.put.put

theorem Quiet.takeBlocks {n : Nat} {message : Option (List Nat)} (h : Quiet m r s) : Quiet m r (s.takeBlocks n message) := by
  unfold State.takeBlocks
  split
  · exact h
  · split
    · extract_lets x s₁ x₁ s₂
      have h₁ : Quiet m r s₁ := h.putLane
      exact Quiet.ite (h₁.putLane.foldl fun _ _ h₂ => h₂.headerError) h₁

theorem answers_codewordDecoded {n : Fin 32} {word : List Nat} (h : Quiet m r s) : Answers m r (execCodewordDecoded n word s) := by
  unfold execCodewordDecoded
  extract_lets x s₁ x₁ s₂ s₃
  have h₁ : Quiet m r s₁ := h.countWide
  have h₂ : Quiet m r s₃ := h₁.countSat.putLane.takeBlocks
  refine Quiet.next ?_
  split
  · exact h
  · split
    · extract_lets s₄ x₂ x₃
      have h₃ : Quiet m r s₄ := h₁.countWide
      exact h₃.putLane.takeBlocks
    · exact Quiet.ite h₂.enterDropout h₂

theorem answers_fecWindow {n : Fin 32} {fwdUp bcUp : Bool} (h : Quiet m r s) : Answers m r (execFecWindow n fwdUp bcUp s) := by
  unfold execFecWindow
  extract_lets x x₁ x₂ x₃ x₄ s₁ s₂
  have h₁ : Quiet m r s₂ := h.put.put.putLane.condEach
  exact Quiet.next (Quiet.ite h₁.retrain h₁)

theorem Quiet.validMarker {n : Nat} {b : List Byte} {spaced : Bool} (h : Quiet m r s) : Quiet m r (s.validMarker n b spaced) := by
  unfold State.validMarker
  extract_lets x x₁ x₂ x₃ x₄ s₁ s₂ s₃ s₄
  have h₁ : Quiet m r s₃ := h.put.put.putLane.condEach
  have h₂ : Quiet m r s₄ := Quiet.ite h₁.linkTo (Quiet.ite h₁.leaveDropout h₁)
  exact Quiet.ite h₂.retrain h₂

theorem Quiet.badMarker {n : Nat} (h : Quiet m r s) : Quiet m r (s.badMarker n) := by
  unfold State.badMarker
  extract_lets x s₁
  have h₁ : Quiet m r s₁ := h.putLane
  exact Quiet.ite h₁.enterDropout h₁

theorem answers_markerReceived {n : Fin 32} {sync : Fin 4} {b : List Byte} {spaced : Bool} (h : Quiet m r s) :
    Answers m r (execMarkerReceived n sync b spaced s) := by
  unfold execMarkerReceived
  extract_lets x x₁
  exact Quiet.next (Quiet.ite h (Quiet.ite (Quiet.ite h.validMarker h.event.badMarker) (Quiet.badMarker (Quiet.ite h.headerError h))))

theorem answers_markerMissed {n : Fin 32} (h : Quiet m r s) : Answers m r (execMarkerMissed n s) := Quiet.next (Quiet.ite h.badMarker h)

theorem answers_dropoutTimeout {n : Fin 32} (h : Quiet m r s) : Answers m r (execDropoutTimeout n s) := Quiet.next (Quiet.ite h.retrain h)

theorem Quiet.handOn {n kind : Nat} {payload : List Byte} {start stop : Nat} {broken : Bool} (h : Quiet m r s) :
    Quiet m r (s.handOn n kind payload start stop broken) := by
  unfold State.handOn
  extract_lets x x₁ x₂ x₃
  split
  · exact h.intake
  · exact h.sideband
  · exact h.putWindow
  · exact h.putWindow
  · exact h.putLane

theorem Quiet.packetEnd {n : Nat} {p : ForwardPacket} {broken : Bool} (h : Quiet m r s) : Quiet m r (s.packetEnd n p broken) := by
  unfold State.packetEnd
  extract_lets x x₁ x₂ x₃ x₄ x₅ x₆ s₁ s₂
  have h₁ : Quiet m r s₁ := Quiet.ite h.trackSeq h
  have h₂ : Quiet m r s₂ := h₁.countSat
  exact Quiet.ite h₁.headerError (Quiet.ite (Quiet.ite h₂.handOn h₂) (Quiet.ite h₁.headerError h₁.handOn))

theorem answers_fwdPacketReceived {n : Fin 32} {p : ForwardPacket} (h : Quiet m r s) : Answers m r (execFwdPacketReceived n p s) := by
  unfold execFwdPacketReceived
  extract_lets x x₁ s₁
  have h₁ : Quiet m r s₁ := h.putLane
  exact Quiet.next (Quiet.ite h (Quiet.ite h₁.headerError (Quiet.ite (Quiet.ite h.putLane h) h₁.packetEnd)))

theorem Quiet.takeOwn {n k : Nat} {x : LanePacket} (h : Quiet m r s) (ht : s.takeOwn n k = some (x, t)) : Quiet m r t := by
  simp only [State.takeOwn, Option.map_eq_some_iff, Prod.mk.injEq] at ht
  obtain ⟨_, -, rfl, rfl⟩ := ht
  exact h.putLane

theorem Quiet.startTxeq {n : Nat} (h : Quiet m r s) : Quiet m r (s.startTxeq n) := by
  unfold State.startTxeq
  extract_lets s₁ x
  have h₁ : Quiet m r s₁ := h.linkTo
  exact Quiet.ite h₁.putLane.sendEq h₁.putLane.sendEq

theorem Quiet.startProbe {n : Nat} (h : Quiet m r s) : Quiet m r (s.startProbe n) := h.putLane.linkTo

theorem Quiet.startVerify {n : Nat} (h : Quiet m r s) : Quiet m r (s.startVerify n) := h.putLane.linkTo

theorem Quiet.takeCap {n : Nat} {b : List Byte} (h : Quiet m r s) : Quiet m r (s.takeCap n b) := by
  unfold State.takeCap
  extract_lets x x₁ s₁ s₂ s₃ x₂ s₄
  have h₁ : Quiet m r s₃ := h.put.put.put.put.put.put.put.put
  exact h₁.putLane.lower.showFar

theorem answers_capReceived {n : Fin 32} (h : Quiet m r s) : Answers m r (execCapReceived n s) := by
  unfold execCapReceived
  extract_lets x
  refine Quiet.next ?_
  split
  · exact h
  · rename_i heq
    have h₁ := h.takeOwn heq
    split
    · extract_lets s₁
      have h₂ : Quiet m r s₁ := Quiet.ite h₁.occur h₁.raise
      exact Quiet.ite h₂.failAttempt h₂
    · extract_lets s₁ s₂ x₁
      have h₂ : Quiet m r s₁ := h₁.takeCap
      have h₃ : Quiet m r s₂ := h₂.event
      exact Quiet.ite (Quiet.ite h₂.startTxeq h₂.failAttempt) (Quiet.ite (Quiet.ite h₃.putLane h₃) h₂)

theorem answers_eqAck {n : Fin 32} (h : Quiet m r s) : Answers m r (execEqAck n s) := by
  unfold execEqAck
  extract_lets x
  refine Quiet.next ?_
  split
  · exact h
  · rename_i heq
    have h₁ := h.takeOwn heq
    extract_lets x₁ x₂ s₁ s₂
    have h₂ : Quiet m r s₂ := h₁.putLane.put.showFar
    exact Quiet.ite h₁ (Quiet.ite (Quiet.ite h₂.startProbe h₂) h₂.eventIf)

theorem answers_txeqTrialMeasured {n : Fin 32} {m₀ : RxCoefs × List RxSymbol} (h : Quiet m r s) : Answers m r (execTxeqTrialMeasured n m₀ s) := by
  unfold execTxeqTrialMeasured
  split
  · extract_lets x s₁ s₂
    have h₁ : Quiet m r s₁ := h.adapt
    have h₂ : Quiet m r s₂ := h₁.putSnr
    refine Quiet.next ?_
    split
    · exact h
    · split
      · extract_lets x₁
        exact Quiet.ite h₂.putLane.sendEq h₂.putLane.sendEq

theorem answers_probeSend {n : Fin 32} (h : Quiet m r s) : Answers m r (execProbeSend n s) := by
  unfold execProbeSend
  extract_lets x x₁ x₂
  exact Quiet.next (Quiet.ite h h.putLane.bcSend)

theorem answers_probeTimeout {n : Fin 32} (h : Quiet m r s) : Answers m r (execProbeTimeout n s) := by
  unfold execProbeTimeout
  extract_lets x x₁ s₁
  have h₁ : Quiet m r s₁ := h.countSat.putLane
  exact Quiet.next (Quiet.ite h (Quiet.ite h₁.raise h₁))

theorem Quiet.latencyResult {n : Nat} {rtt turn : ℤ} (h : Quiet m r s) : Quiet m r (s.latencyResult n rtt turn) := by
  unfold State.latencyResult
  extract_lets x x₁ x₂ s₁ s₂ s₃ x₃ s₄
  have h₁ : Quiet m r s₃ := h.putFit.put.putFit.countWrap.event
  have h₂ : Quiet m r s₄ := h₁.putLane.lower
  exact Quiet.ite h₂.put.startVerify h₂

theorem answers_probeReply {n : Fin 32} (h : Quiet m r s) : Answers m r (execProbeReply n s) := by
  unfold execProbeReply
  refine Quiet.next ?_
  split
  · exact h
  · rename_i heq
    have h₁ := h.takeOwn heq
    split
    · exact Quiet.ite h₁.putLane.latencyResult h₁
    · exact h₁

theorem Quiet.sendBack {n : Nat} {m₀ : BcMessage} (h : Quiet m r s) : Quiet m r (s.sendBack n m₀) := by
  unfold State.sendBack
  extract_lets x
  split
  · exact h.putLane.emit

theorem answers_bcMessageSend {n : Fin 32} {at_ : Nat} (h : Quiet m r s) : Answers m r (execBcMessageSend n at_ s) := by
  unfold execBcMessageSend
  extract_lets x x₁
  refine Quiet.next ?_
  split
  · exact h
  · split
    · exact h
    · extract_lets x₂
      exact h.putLane.sendBack

theorem answers_fsyncDepart {n : Fin 32} (h : Quiet m r s) : Answers m r (execFsyncDepart n s) := by
  unfold execFsyncDepart
  extract_lets x x₁
  refine Quiet.next ?_
  split
  · exact h
  · extract_lets x₂ x₃ s₁ x₄ x₅ s₂
    have h₁ : Quiet m r s₁ := h.putLane
    exact Quiet.ite h₁.countSat.pathMissed h₁.putLane.countWrap.sendBack

theorem answers_trainStartResend {n : Fin 32} (h : Quiet m r s) : Answers m r (execTrainStartResend n s) := Quiet.next (Quiet.ite h.sendTrain h)

theorem answers_signalDetected {n : Fin 32} (h : Quiet m r s) :
    Answers m r (execSignalDetected n s) := Quiet.next (Quiet.ite h.putLane.linkTo.acquire h)

theorem answers_verifyPass {n : Fin 32} (h : Quiet m r s) : Answers m r (execVerifyPass n s) := by
  unfold execVerifyPass
  extract_lets x x₁ s₁ s₂ s₃ x₂ s₄ s₅
  have h₁ : Quiet m r s₁ := h.sendTrain.linkTo
  have h₂ : Quiet m r s₂ := h₁.event.put
  have h₃ : Quiet m r s₃ := h₂.putRx
  have h₄ : Quiet m r s₄ := h₃.putLane
  exact Quiet.next (Quiet.ite h (Quiet.showFar (Quiet.ite h₄.put h₄)))

theorem answers_trainPhaseTimeout {n : Fin 32} (h : Quiet m r s) : Answers m r (execTrainPhaseTimeout n s) := by
  unfold execTrainPhaseTimeout
  extract_lets x
  exact Quiet.next (Quiet.ite h.failAttempt h)

theorem answers_trainRetry {n : Fin 32} (h : Quiet m r s) : Answers m r (execTrainRetry n s) := Quiet.next (Quiet.ite h.startTraining h)

theorem Quiet.writeLinkCtrl {n w : Nat} (h : Quiet m r s) : Quiet m r (s.writeLinkCtrl n w) := by
  unfold State.writeLinkCtrl
  extract_lets x s₁ s₂ s₃ s₄ s₅ s₆ x₁ s₇
  have h₁ : Quiet m r s₁ := h.writeFields
  have h₂ : Quiet m r s₂ := h₁.putPattern
  have h₃ : Quiet m r s₃ := h₂.put
  have h₄ : Quiet m r s₄ := Quiet.ite (Quiet.ite h₃.retrain h₃) h₂
  have h₅ : Quiet m r s₅ := h₄.leaveOperating
  have h₆ : Quiet m r s₆ := h₅.put.linkTo.acquire
  have h₇ : Quiet m r s₇ := Quiet.ite h₆.putLane h₄
  exact Quiet.ite h₇.sendBack.startTraining h₇

theorem answers_linkRetrain {req : Requester} {n : Fin 32} {w : Word} (h : Quiet m r s) :
    Answers m r (execLinkRetrain req n w s) := Quiet.next (h.onWrite (fun _ h₁ => h₁.writeLinkCtrl))

theorem answers_testStart {req : Requester} {n : Fin 32} {w : Word} (h : Quiet m r s) :
    Answers m r (execTestStart req n w s) := Quiet.next (h.onWrite (fun _ h₁ => h₁.writeLinkCtrl))

theorem answers_testStop {req : Requester} {n : Fin 32} {w : Word} (h : Quiet m r s) :
    Answers m r (execTestStop req n w s) := Quiet.next (h.onWrite (fun _ h₁ => h₁.writeLinkCtrl))

theorem answers_testResend {n : Fin 32} (h : Quiet m r s) : Answers m r (execTestResend n s) := Quiet.next (Quiet.ite h.bcSend h)

/-! ## What the operations of Csi leave as it is -/

theorem Quiet.putCsi {n : Nat} {x : CsiRxSt} (h : Quiet m r s) : Quiet m r (s.putCsi n x) := h.same (by rfl)

theorem Quiet.putTx {m₀ : Nat} {x : CsiTxSt} (h : Quiet m r s) : Quiet m r (s.putTx m₀ x) := h.same (by rfl)

theorem Quiet.judgePhy {n : Nat} (h : Quiet m r s) : Quiet m r (s.judgePhy n) := by
  unfold State.judgePhy
  extract_lets x x₁
  exact h.putCsi.cond

theorem Quiet.phyError {n : Nat} {count : Field} (h : Quiet m r s) : Quiet m r (s.phyError n count) := by
  unfold State.phyError
  extract_lets s₁ x
  have h₁ : Quiet m r s₁ := h.countSat
  exact h₁.putCsi.judgePhy

theorem Quiet.rxPass {n : Nat} {b : List Byte} {broken : Bool} {start stop : Nat} (h : Quiet m r s) :
    Quiet m r (s.rxPass n b broken start stop) := by
  unfold State.rxPass
  extract_lets x
  exact Quiet.ite h.countWrap.intake h.countSat

theorem answers_deskewReceived {n : Fin 8} (h : Quiet m r s) : Answers m r (execDeskewReceived n s) := by
  unfold execDeskewReceived
  extract_lets x
  exact Quiet.next (Quiet.ite h.put.event h)

theorem answers_csiRxBurst {n : Fin 8} {sync : SyncSequence} {aligned : Bool} {b : List Byte} {start stop : Nat} (h : Quiet m r s) :
    Answers m r (execCsiRxBurst n sync aligned b start stop s) := by
  unfold execCsiRxBurst
  extract_lets x s₁ s₂ s₃ s₄
  have h₁ : Quiet m r s₁ := h.put
  have h₂ : Quiet m r s₂ := h₁.put
  have h₃ : Quiet m r s₃ := Quiet.ite h₂.phyError h₂
  exact Quiet.next (Quiet.ite h (Quiet.ite h₂.countSat (Quiet.ite h₂.phyError (Quiet.rxPass (Quiet.ite h₃ h₃.phyError)))))

theorem answers_clkLoss {n : Fin 8} {b : List Byte} {start stop : Nat} (h : Quiet m r s) : Answers m r (execClkLoss n b start stop s) := by
  unfold execClkLoss
  extract_lets x s₁ s₂
  have h₁ : Quiet m r s₁ := h.put.phyError.event.raise
  exact Quiet.next (Quiet.ite h (Quiet.gapTo (Quiet.ite h₁ h₁.rxPass)))

theorem answers_csiClkReturn {n : Fin 8} (h : Quiet m r s) : Answers m r (execCsiClkReturn n s) := by
  unfold execCsiClkReturn
  extract_lets x
  exact Quiet.next (Quiet.ite h.put.lower h)

theorem answers_ulpsTransition {n : Fin 8} {lane : Fin 4} {enter : Bool} (h : Quiet m r s) : Answers m r (execUlpsTransition n lane enter s) := by
  unfold execUlpsTransition
  extract_lets x x₁ x₂
  exact Quiet.next (Quiet.ite h (Quiet.ite h.put.put.event h.put.put.event))

theorem Quiet.rxOn {n : Nat} (h : Quiet m r s) : Quiet m r (s.rxOn n) := by
  unfold State.rxOn
  extract_lets x s₁
  exact h.put.put

theorem Quiet.rxOff {n : Nat} (h : Quiet m r s) : Quiet m r (s.rxOff n) := by
  unfold State.rxOff
  extract_lets x
  exact h.put.put.put.lower

theorem Quiet.putTxSlot {m₀ k : Nat} {x : TxSlot} (h : Quiet m r s) : Quiet m r (s.putTxSlot m₀ k x) := h.putTx

theorem Quiet.txStart {m₀ : Nat} {p : TxPacket} (h : Quiet m r s) : Quiet m r (s.txStart m₀ p) := Quiet.ite h.emit.event h.emit

theorem Quiet.txReady {m₀ : Nat} {p : TxPacket} (h : Quiet m r s) : Quiet m r (s.txReady m₀ p) := by
  unfold State.txReady
  extract_lets x s₁
  have h₁ : Quiet m r s₁ := h.putTx
  exact Quiet.ite h₁.txStart h₁

theorem Quiet.txShort {m₀ k key dt v : Nat} (h : Quiet m r s) : Quiet m r (s.txShort m₀ k key dt v) := h.txReady

theorem Quiet.txLine {m₀ k key i : Nat} {b : List Byte} {copy : Bool} (h : Quiet m r s) : Quiet m r (s.txLine m₀ k key i b copy) := by
  unfold State.txLine
  extract_lets x x₁
  exact Quiet.ite h.txReady h.txShort.txReady.txShort

theorem Quiet.txMark {m₀ k : Nat} {f : Field} {on : Bool} (h : Quiet m r s) : Quiet m r (s.txMark m₀ k f on) := by
  unfold State.txMark
  extract_lets x
  exact h.put

theorem Quiet.judgeTx {m₀ : Nat} (h : Quiet m r s) : Quiet m r (s.judgeTx m₀) := by
  unfold State.judgeTx
  extract_lets x s₁
  have h₁ : Quiet m r s₁ := h.cond.cond
  exact h₁.cond

theorem Quiet.txEnd {m₀ k : Nat} {f : TxFrame} {partial_ exceeded : Bool} (h : Quiet m r s) :
    Quiet m r (s.txEnd m₀ k f partial_ exceeded) := by
  unfold State.txEnd
  extract_lets x x₁ s₁ s₂ x₂ x₃ s₃ x₄ s₄ x₅
  have h₁ : Quiet m r s₁ := by
    simp only [s₁]
    split
    · exact Quiet.ite h.txReady h
    · exact h
  have h₂ : Quiet m r s₂ := Quiet.ite h₁.txShort h₁
  have h₃ : Quiet m r s₃ := h₂.putTxSlot
  have h₄ : Quiet m r s₄ := h₃.txMark.judgeTx.again
  exact Quiet.ite h₄.txReady h₄

theorem Quiet.txCut {m₀ k : Nat} {f : TxFrame} {partial_ exceeded : Bool} (h : Quiet m r s) :
    Quiet m r (s.txCut m₀ k f partial_ exceeded) := h.txEnd.countSat.event

theorem Quiet.txCutOthers {m₀ k key : Nat} (h : Quiet m r s) : Quiet m r (s.txCutOthers m₀ k key) := h.foldl fun _ _ h₁ => h₁.txCut

theorem Quiet.txFrameStart {m₀ k key : Nat} (h : Quiet m r s) : Quiet m r (s.txFrameStart m₀ k key) := by
  unfold State.txFrameStart
  extract_lets s₁ x x₁ s₂
  have h₁ : Quiet m r s₁ := h.txCutOthers
  exact h₁.putTxSlot.txMark.txMark.txShort

theorem Quiet.putTxFrame {m₀ k : Nat} {f : TxFrame} (h : Quiet m r s) : Quiet m r (s.putTxFrame m₀ k f) := by
  unfold State.putTxFrame
  extract_lets x
  exact h.putTxSlot

theorem Quiet.txSendLine {m₀ k key i : Nat} {b : List Byte} (h : Quiet m r s) : Quiet m r (s.txSendLine m₀ k key i b) := by
  unfold State.txSendLine
  extract_lets s₁ x s₂
  have h₁ : Quiet m r s₁ := h.eventIf
  exact h₁.putTxSlot.txLine

theorem Quiet.txDrain {k n key fuel : Nat} (h : Quiet m r s) : Quiet m r (s.txDrain k n key fuel) := by
  induction fuel generalizing s with
  | zero => exact h
  | succ fuel ih =>
    rw [State.txDrain]
    split
    · exact h
    · extract_lets paced due line
      split
      · exact ih h.txFrameStart
      · clear_value line
        split
        · exact Quiet.ite (ih h.putTxFrame.txSendLine) h
        · exact Quiet.ite h.txEnd h

theorem Quiet.txSettle {m₀ k key : Nat} (h : Quiet m r s) : Quiet m r (s.txSettle m₀ k key) := h.txDrain

theorem Quiet.txKeep {m₀ k : Nat} {u : PortUnit} (h : Quiet m r s) : Quiet m r (s.txKeep m₀ k u) := by
  unfold State.txKeep
  extract_lets x x₁ x₂ x₃ x₄ s₁ s₂
  have h₁ : Quiet m r s₁ := h.putTxSlot.judgeTx.again
  have h₂ : Quiet m r s₂ := Quiet.ite h₁ h₁.txFrameStart
  split
  · split
    · exact h₂.txCut.stCount
    · exact h₂
  · exact h₁.txSettle

theorem answers_txUnitReceived {m₀ : Fin 2} {k : Fin 4} {h₀ : Fin 2} {begun : Nat} {u : PortUnit} (h : Quiet m r s) :
    Answers m r (execTxUnitReceived m₀ k h₀ begun u s) := by
  unfold execTxUnitReceived
  refine Quiet.next ?_
  extract_lets x x₁ s₁ s₂
  have h₁ : Quiet m r s₂ := Quiet.putTxSlot (Quiet.ite h.noteSplit h)
  exact Quiet.ite h (Quiet.ite h.countSat (Quiet.ite h (Quiet.ite h₁ h₁.txKeep)))

theorem answers_txLineSlot {m₀ : Fin 2} {k : Fin 4} {seq : Nat} {item : TxItem} (h : Quiet m r s) : Answers m r (execTxLineSlot m₀ k seq item s) := by
  unfold execTxLineSlot
  refine Quiet.next ?_
  extract_lets x x₁
  split
  · exact h
  · split
    · exact Quiet.ite h h.txFrameStart.txSettle
    · split
      · exact h
      · split
        · exact h
        · extract_lets x₂ s₁
          exact Quiet.txSettle (Quiet.putTxFrame (Quiet.ite h.countSat h))

theorem answers_txHoldMargin {m₀ : Fin 2} {k : Fin 4} {seq i : Nat} (h : Quiet m r s) : Answers m r (execTxHoldMargin m₀ k seq i s) := by
  unfold execTxHoldMargin
  extract_lets x x₁ x₂
  refine Quiet.next ?_
  split
  · exact h
  · split
    · exact h
    · split
      · exact h.countSat
      · extract_lets x₃ s₁ s₂ x₄ s₃ x₅
        have h₁ : Quiet m r s₂ := h.putTxFrame.eventIf.countSat.txMark
        have h₂ : Quiet m r s₃ := h₁.putTxSlot.txLine
        exact Quiet.ite h₂ h₂.putTxSlot.txCut

theorem answers_txPacketSent {k : Fin 2} (h : Quiet m r s) : Answers m r (execTxPacketSent k s) := by
  refine Quiet.next ?_
  extract_lets x
  split
  · exact h
  · extract_lets s₁ y s₂
    have h₂ : Quiet m r s₂ := by
      simp only [s₂]
      split
      · exact h.putTx.putTxSlot
      · exact h.putTx
    clear_value s₂
    split
    · exact h₂
    · exact Quiet.ite h₂.putTx h₂.txStart

theorem Quiet.txOn {m₀ : Nat} (h : Quiet m r s) : Quiet m r (s.txOn m₀) := by
  unfold State.txOn
  extract_lets x
  exact Quiet.ite h.txReady h

theorem Quiet.txOff {m₀ : Nat} (h : Quiet m r s) : Quiet m r (s.txOff m₀) := by
  unfold State.txOff
  extract_lets x s₁ s₂
  exact Quiet.judgeTx (Quiet.put (Quiet.put (h.putTx.foldl fun _ _ h₁ => h₁.putTxSlot)))

theorem Quiet.lfsMissed {i tide : Nat} (h : Quiet m r s) : Quiet m r (s.lfsMissed i tide) := h.countSat.event.pathMissed

theorem Quiet.lfsSchedule {i : Nat} {t₀ : ℤ} {tide : Nat} (h : Quiet m r s) : Quiet m r (s.lfsSchedule i t₀ tide) := by
  unfold State.lfsSchedule
  extract_lets x x₁ x₂ x₃
  exact Quiet.ite h.lfsMissed h.putCsi

theorem answers_lfsEdge {i : Fin 8} (h : Quiet m r s) : Answers m r (execLfsEdge i s) := by
  unfold execLfsEdge
  extract_lets x x₁
  refine Quiet.next ?_
  split
  · exact h
  · extract_lets x₂ x₃
    exact Quiet.ite h.putCsi.lfsMissed (Quiet.ite h.putCsi.pathMissed h.putCsi.countWrap.emit)

theorem answers_lfsPulseEnd {i : Fin 8} (h : Quiet m r s) : Answers m r (execLfsPulseEnd i s) := h.putCsi.next

theorem Quiet.lfsGoesOff {i : Nat} (h : Quiet m r s) : Quiet m r (s.lfsGoesOff i) := by
  unfold State.lfsGoesOff
  extract_lets x x₁ s₁
  have h₁ : Quiet m r s₁ := h.putCsi.put.raise
  exact Quiet.ite h₁ (h₁.foldl fun _ _ h₂ => h₂.ballOff)

theorem answers_lfsReadback {i : Fin 8} {level : Bool} (h : Quiet m r s) : Answers m r (execLfsReadback i level s) := by
  unfold execLfsReadback
  extract_lets x x₁ x₂
  exact Quiet.next (Quiet.ite h.lfsGoesOff h)

theorem Quiet.tryLfs {i : Nat} (h : Quiet m r s) : Quiet m r (s.tryLfs i) := by
  unfold State.tryLfs
  extract_lets x s₁
  have h₁ : Quiet m r s₁ := h.put.lower
  exact Quiet.ite (Quiet.judgeGpio (h₁.foldl fun _ _ h₂ => h₂.put)) h

theorem answers_trigEdge {n : Fin 8} {falling : Bool} {back : Nat} (h : Quiet m r s) : Answers m r (execTrigEdge n falling back s) := by
  unfold execTrigEdge
  extract_lets x x₁ x₂ x₃ s₁
  exact Quiet.next (Quiet.ite h (Quiet.ite h.put.event h.putCsi.put.eventIf))

theorem Quiet.popTrigger {n : Nat} {x₀ : List Nat} (h : Quiet m r s) (e : s.popTrigger n = (x₀, t)) : Quiet m r t := by
  have key : Quiet m r (s.popTrigger n).2 := by
    unfold State.popTrigger
    extract_lets x x₁
    exact h.putCsi.put
  rwa [e] at key

theorem answers_trigPop {req : Requester} {n : Fin 8} (h : Quiet m r s) : Answers m r (execTrigPop req n s) :=
  Quiet.next (h.onPop fun _ h => h.popTrigger rfl)

/-! ## What the operations of Sync leave as it is -/

theorem Quiet.deliverEdge {n : Nat} {d : SyncDecision} {dep : ℤ} (h : Quiet m r s) : Quiet m r (s.deliverEdge n d dep) := by
  unfold State.deliverEdge
  split
  · exact h.lfsSchedule
  · extract_lets x x₁ x₂
    exact Quiet.ite h.pathMissed (Quiet.ite h.countSat.pathMissed h.putLane)

theorem Quiet.decidePort {n k T mid hor : Nat} (h : Quiet m r s) : Quiet m r (s.decidePort n k T mid hor) := by
  unfold State.decidePort
  extract_lets x x₁ x₂ x₃ x₄ x₅ x₆ x₇
  split
  · extract_lets x₈ x₉ x₁₀ x₁₁ x₁₂ x₁₃ x₁₄ s₁ s₂ s₃ x₁₅ s₄ s₅
    have h₁ : Quiet m r s₃ := h.putSync.put.put.put.put
    exact Quiet.ite h₁.countSkip h₁.put.put.countWrap.put.judgeSyncLost.deliverEdge

theorem answers_syncDecision {f : Fin 4} (h : Quiet m r s) : Answers m r (execSyncDecision f s) := by
  unfold execSyncDecision
  refine Quiet.next ?_
  split
  · exact h
  · split
    · extract_lets x x₁ x₂ s₁ x₃
      have h₁ : Quiet m r s₁ := h.eventIf
      exact Quiet.ite h (h₁.foldl fun _ _ h₂ => h₂.decidePort)

theorem Quiet.embError {n : Nat} (h : Quiet m r s) : Quiet m r (s.embError n) := h.countSat.event

theorem Quiet.syncEmbedded {x : Nat} {i : InletItem} (h : Quiet m r s) : Quiet m r (s.syncEmbedded x i) := by
  unfold State.syncEmbedded
  extract_lets x₁ x₂ s₁ x₃ x₄
  have h₁ : Quiet m r s₁ := h.putStream
  split
  · exact h
  · split
    · exact h₁.embError
    · exact h₁.putSync

theorem Quiet.syncFrameEnd {x : Nat} (h : Quiet m r s) : Quiet m r (s.syncFrameEnd x) := Quiet.ite h.putStream.embError h

theorem Quiet.judgeRate (h : Quiet m r s) : Quiet m r (s.judgeRate) := h.cond

theorem Quiet.syncMeasure {x lines first last : Nat} (h : Quiet m r s) : Quiet m r (s.syncMeasure x lines first last) := by
  unfold State.syncMeasure
  extract_lets x₁ x₂ x₃ x₄
  exact Quiet.ite h (Quiet.ite h.putSync.event.judgeRate h.putSync.judgeRate)

theorem Quiet.judgeSlip (h : Quiet m r s) : Quiet m r (s.judgeSlip) := h.cond

theorem Quiet.slipped {n : Nat} (h : Quiet m r s) : Quiet m r (s.slipped n) := by
  unfold State.slipped
  extract_lets s₁
  exact h.countSat.mapPort.event.judgeSlip

theorem Quiet.syncFrameStart {x tide sof : Nat} (h : Quiet m r s) : Quiet m r (s.syncFrameStart x tide sof) := by
  unfold State.syncFrameStart
  extract_lets x₁ x₂ x₃
  split
  · exact h.putStream
  · split
    · exact h.putStream
    · extract_lets x₄
      exact Quiet.putStream (Quiet.ite h.slipped h)

/-! ## What the operations of Cove leave as it is -/

theorem Quiet.putCove {n : Nat} {x : CoveSt} (h : Quiet m r s) : Quiet m r (s.putCove n x) := h.same (by rfl)

theorem Quiet.putCoveCtx {n c : Nat} {x : CoveCtx} (h : Quiet m r s) : Quiet m r (s.putCoveCtx n c x) := h.putCove

theorem Quiet.modFrame {h₀ stream seq : Nat} {g : HalfFrame → HalfFrame} (h : Quiet m r s) :
    Quiet m r (s.modFrame h₀ stream seq g) := h.same (by rfl)

theorem Quiet.modPart {n stream seq : Nat} {g : CovePart → CovePart} (h : Quiet m r s) : Quiet m r (s.modPart n stream seq g) := h.modFrame

theorem Quiet.judgeCove {n : Nat} (h : Quiet m r s) : Quiet m r (s.judgeCove n) := by
  unfold State.judgeCove
  extract_lets x x₁ x₂
  refine Quiet.foldl (h) fun _ _ h₁ => ?_
  split
  · exact h₁.cond

theorem Quiet.flagPart {n stream seq i : Nat} {stage : Bool} (h : Quiet m r s) : Quiet m r (s.flagPart n stream seq i stage) := by
  unfold State.flagPart
  split
  · extract_lets x x₁ s₁ s₂
    have h₁ : Quiet m r s₁ := h.modPart
    have h₂ : Quiet m r s₂ := by
      unfold s₂
      split
      · exact h₁.putCoveCtx
      · exact h₁
    clear_value s₂
    exact h₂.event.judgeCove.again

theorem Quiet.issueOp {n : Nat} {o : CoveOp} (h : Quiet m r s) : Quiet m r (s.issueOp n o) := by
  unfold State.issueOp
  extract_lets k x cls job upd
  split
  · exact h
  · split
    · exact Quiet.ite h h.putCove.countBulkWait
    · rename_i e t ht
      have h₁ : Quiet m r t := by
        split at ht
        · cases ht
        · exact h.allocBulk ht
      exact h₁.putCove.ask.judgeStarved

theorem Quiet.addOps {n : Nat} {l : List CoveOp} (h : Quiet m r s) : Quiet m r (s.addOps n l) := by
  unfold State.addOps
  refine Quiet.foldl (h) fun _ _ h₁ => ?_
  extract_lets x x₁
  exact h₁.putCove.issueOp

theorem Quiet.retryOps {n : Nat} (h : Quiet m r s) : Quiet m r (s.retryOps n) := by
  unfold State.retryOps
  extract_lets x
  exact h.foldl fun _ _ h₁ => h₁.issueOp

theorem Quiet.dropOps {n : Nat} {p : CoveOp → Bool} (h : Quiet m r s) : Quiet m r (s.dropOps n p) := by
  unfold State.dropOps
  extract_lets x
  exact Quiet.judgeStarved (h.putCove.foldl fun _ _ h₁ => h₁.freeHeld)

theorem Quiet.trackBlack {n : Nat} {f : HalfFrame} {p : CovePart} (h : Quiet m r s) : Quiet m r (s.trackBlack n f p) := by
  unfold State.trackBlack
  extract_lets x x₁ x₂ x₃ x₄ x₅ x₆ s₁ s₂ s₃
  exact Quiet.modPart (Quiet.putCoveCtx (Quiet.eventIf (Quiet.eventIf (h.foldl fun _ _ h₁ => h₁.put))))

theorem Quiet.openPart {n stream seq : Nat} (h : Quiet m r s) : Quiet m r (s.openPart n stream seq) := by
  unfold State.openPart
  split
  · exact h
  · extract_lets s₁ x s₂ s₃
    have h₁ : Quiet m r s₂ := h.trackBlack.modPart
    have h₂ : Quiet m r s₃ := Quiet.ite h₁.flagPart h₁
    split
    · exact h₂
    · extract_lets x₁ s₄ x₂
      exact h₂.modPart.addOps.judgeCove

theorem Quiet.learnFind {n stream seq : Nat} {d : Nat × Nat × Nat × Bool} (h : Quiet m r s) : Quiet m r (s.learnFind n stream seq d) := by
  unfold State.learnFind
  split
  · exact h
  · extract_lets x x₁ s₁ x₂ x₃ s₂
    have h₁ : Quiet m r s₁ := h.countSat
    exact Quiet.ite h (Quiet.ite h₁ (Quiet.ite h₁.event h.modPart.addOps))

theorem Quiet.countLearned {n c : Nat} (h : Quiet m r s) : Quiet m r (s.countLearned n c) := by
  unfold State.countLearned
  extract_lets s₁ x
  have h₁ : Quiet m r s₁ := h.countWrap
  exact Quiet.ite h₁.putCoveCtx h₁

theorem Quiet.beginLearn {n c : Nat} (h : Quiet m r s) : Quiet m r (s.beginLearn n c) := by
  unfold State.beginLearn
  extract_lets x s₁ x₁
  have h₁ : Quiet m r s₁ := h.foldl fun _ _ h₂ => h₂.countSat
  exact h₁.dropOps.putCoveCtx

theorem Quiet.countRows {n stream seq : Nat} (h : Quiet m r s) : Quiet m r (s.countRows n stream seq) := by
  unfold State.countRows
  split
  · exact h
  · extract_lets x x₁ x₂ x₃ x₄ x₅ x₆ x₇ s₁
    exact h.modPart.foldl fun _ _ h₁ => h₁.learnFind

theorem Quiet.measureBlack {h₀ stream seq : Nat} (h : Quiet m r s) : Quiet m r (s.measureBlack h₀ stream seq) := by
  unfold State.measureBlack
  split
  · exact h
  · split
    · exact h
    · extract_lets x x₁ x₂ s₁
      split
      · exact h
      · split
        · refine Quiet.foldl (h.modFrame) fun _ _ h₁ => ?_
          extract_lets x₃ x₄ s₂ s₃ x₅
          have h₂ : Quiet m r s₃ := Quiet.put (Quiet.put (h₁.foldl fun _ _ h₃ => h₃.put))
          exact h₂.putCoveCtx

theorem Quiet.handUnit {f : HalfFrame} {o : OutFrame} {u : FrameUnit} (h : Quiet m r s) : Quiet m r (s.handUnit f o u) := h.putCh

theorem Quiet.modOut {h₀ stream seq k : Nat} {g : OutFrame → OutFrame} (h : Quiet m r s) :
    Quiet m r (s.modOut h₀ stream seq k g) := h.modFrame

theorem Quiet.handBytes {h₀ stream seq k off : Nat} {whole : Bool} {b : List Byte} (h : Quiet m r s) :
    Quiet m r (s.handBytes h₀ stream seq k off whole b) := by
  unfold State.handBytes
  split
  · exact h
  · extract_lets x x₁ x₂ x₃ x₄ s₁ s₂ s₃
    have h₁ : Quiet m r s₃ := Quiet.modFrame (Quiet.modOut (Quiet.ite h h.handUnit))
    exact Quiet.ite h (Quiet.ite (h₁.foldl fun _ _ h₂ => h₂.countSat.flagPart) h₁)

theorem Quiet.handLine {h₀ stream seq k j : Nat} (h : Quiet m r s) : Quiet m r (s.handLine h₀ stream seq k j) := by
  unfold State.handLine
  split
  · exact h
  · split
    · exact h
    · extract_lets x x₁ x₂ s₁
      have h₁ : Quiet m r s₁ := h.handBytes
      exact Quiet.ite h₁.handBytes h₁

theorem Quiet.offerOut {f : HalfFrame} {o : OutFrame} (h : Quiet m r s) : Quiet m r (s.offerOut f o) := by
  unfold State.offerOut
  extract_lets x
  exact Quiet.ite h h.handUnit.modOut

theorem Quiet.handLines {h₀ stream seq : Nat} (h : Quiet m r s) : Quiet m r (s.handLines h₀ stream seq) := by
  unfold State.handLines
  split
  · exact h
  · refine Quiet.foldl (h) fun _ _ h₁ => ?_
    extract_lets x s₁ s₂
    have h₂ : Quiet m r s₂ := h₁.offerOut.foldl fun _ _ h₂ => h₂.handLine
    clear_value s₂
    split
    · exact h₂
    · extract_lets x₁ x₂ x₃
      exact Quiet.ite h₂.handBytes h₂

theorem Quiet.closeContext {f : HalfFrame} {p : CovePart} (h : Quiet m r s) : Quiet m r (s.closeContext f p) := by
  unfold State.closeContext
  extract_lets x x₁ x₂ x₃ x₄ x₅ s₁ s₂ s₃ s₄ s₅ s₆ s₇ x₆
  have h₁ : Quiet m r s₁ := h.put
  have h₂ : Quiet m r s₂ := Quiet.ite h₁.countSat h₁
  have h₃ : Quiet m r s₇ := Quiet.foldl (Quiet.put (Quiet.put (Quiet.put (Quiet.put (Quiet.put (Quiet.ite h₂ h₂.put)))))) fun _ _ h₄ => h₄.put
  exact h₃.putCoveCtx.judgeCove

theorem Quiet.writeStat {h₀ stream seq : Nat} (h : Quiet m r s) : Quiet m r (s.writeStat h₀ stream seq) := by
  unfold State.writeStat
  split
  · exact h
  · split
    · exact h.modFrame
    · split
      · exact h.modFrame
      · extract_lets x x₁ x₂ x₃ s₁
        exact h.modFrame.addOps

theorem Quiet.retire {h₀ stream seq : Nat} (h : Quiet m r s) : Quiet m r (s.retire h₀ stream seq) := h.same (by rfl)

theorem Quiet.finishFrame {k stream seq : Nat} (h : Quiet m r s) : Quiet m r (s.finishFrame k stream seq) := by
  unfold State.finishFrame
  split
  · exact h
  · rename_i f _
    refine Quiet.ite h ?_
    extract_lets started
    split
    rename_i frozen s₁ hjudge
    have h₁ : Quiet m r s₁ := by
      split at hjudge
      · exact (Prod.mk.inj hjudge).2 ▸ h
      · exact h.judgeFrozen hjudge
    exact (h₁.judgeSensor.foldl fun _ _ h => h.closeContext).modFrame.writeStat.retire

theorem Quiet.frameAdvance {h₀ stream seq : Nat} (h : Quiet m r s) : Quiet m r (s.frameAdvance h₀ stream seq) := by
  unfold State.frameAdvance
  split
  · exact h
  · extract_lets s₁
    have h₁ : Quiet m r s₁ := h.foldl fun _ _ h₁ => h₁.countRows
    clear_value s₁
    exact h₁.measureBlack.handLines.finishFrame

theorem Quiet.checkTable {n stream seq : Nat} {t₀ : TableRead} (h : Quiet m r s) : Quiet m r (s.checkTable n stream seq t₀) := by
  unfold State.checkTable
  split
  · exact h
  · split
    · exact Quiet.ite h.flagPart h
    · split
      · exact h
      · split
        · exact Quiet.ite h.flagPart h
        · exact Quiet.ite h.flagPart h
        · exact h

theorem answers_tableReadDone {n : Fin 16} (h : Quiet m r s) : Answers m r (execTableReadDone n s) := by
  unfold execTableReadDone
  refine Quiet.next ?_
  extract_lets x x₁
  split
  · exact h.retryOps
  · split
    · exact h
    · rename_i heq
      have h₁ := h.takeResult heq
      extract_lets x₂ s₁ s₂
      have h₂ : Quiet m r s₁ := h₁.putCove
      have h₃ : Quiet m r s₂ := by
        unfold s₂
        split
        · extract_lets x₃ s₃ s₄
          have h₃ : Quiet m r s₃ := h₂.modPart
          have h₄ : Quiet m r s₄ := Quiet.ite h₃ h₃.flagPart
          split
          · exact h₄
          · exact h₄.checkTable
        · exact h₂
      clear_value s₂
      exact h₃.retryOps

theorem Quiet.loopLate {x : Nat} (h : Quiet m r s) : Quiet m r (s.loopLate x) := h.countSat

theorem Quiet.noteStat {n stream seq : Nat} (h : Quiet m r s) : Quiet m r (s.noteStat n stream seq) := by
  unfold State.noteStat
  split
  · exact h
  · extract_lets x s₁ x₁ x₂ x₃
    have h₁ : Quiet m r s₁ := h.foldl fun _ _ h₂ => Quiet.ite h₂.loopLate h₂
    exact h₁.same (by rfl)

theorem answers_statBlockWritten {n : Fin 16} (h : Quiet m r s) : Answers m r (execStatBlockWritten n s) := by
  unfold execStatBlockWritten
  refine Quiet.next ?_
  extract_lets k
  split
  · exact h.retryOps
  · extract_lets mine
    refine Quiet.ite h.retryOps ?_
    split
    rename_i bad s₁ hs
    have h₁ : Quiet m r s₁ := by
      rw [← show _ = s₁ from congrArg Prod.snd hs]
      refine h.foldl_snd fun a o h => ?_
      split
      · exact h
      · rename_i hx
        exact h.takeResult hx
    extract_lets x s₂ c s₃ s₄ s₅
    have h₃ : Quiet m r s₃ := h₁.putCove.putCoveCtx
    have h₄ : Quiet m r s₄ := Quiet.ite h₃.event h₃.event.put
    have h₅ : Quiet m r s₅ := Quiet.ite h₄ h₄.noteStat
    clear_value s₅
    exact h₅.judgeCove.modFrame.retire.retryOps

theorem Quiet.coveResult {h₀ : Nat} {r₀ : MemResult} (h : Quiet m r s) : Quiet m r (s.coveResult h₀ r₀) := by
  unfold State.coveResult
  extract_lets x x₁
  split
  · exact h
  · split
    · exact h
    · split
      · exact h
      · extract_lets x₂ x₃ s₁ x₄ s₂
        have h₁ : Quiet m r s₁ := h.putHarb (by rfl)
        have h₂ : Quiet m r s₂ := by
          unfold s₂
          refine Quiet.foldl (h₁) fun _ _ h₂ => ?_
          split
          · exact h₂.putJob
          · exact h₂
        clear_value s₂
        exact h₂.dropOps
    · split
      · exact h
      · rename_i heq
        have h₁ := h.takeResult heq
        extract_lets x₂ s₁ x₃ s₂
        have h₂ : Quiet m r s₁ := h₁.putCove
        exact Quiet.ite h₂.countLearned.retryOps h₂.dropOps.modPart.flagPart.retryOps

theorem Quiet.startUnit {n : Nat} {u : CoveUnit} (h : Quiet m r s) : Quiet m r (s.startUnit n u) := h.putCove

theorem Quiet.startJob {n : Nat} (h : Quiet m r s) : Quiet m r (s.startJob n) := by
  unfold State.startJob
  extract_lets x x₁ x₂
  split
  · exact h
  · extract_lets x₃ s₁ x₄ s₂ x₅
    have h₁ : Quiet m r s₁ := h.putCove
    exact Quiet.ite (h₁.putHarb (by rfl)).modFrame.startUnit h₁.jobState.startUnit

theorem answers_coveUnitStart {n : Fin 16} (h : Quiet m r s) : Answers m r (execCoveUnitStart n s) := by
  unfold execCoveUnitStart
  refine Quiet.next ?_
  split
  · exact h
  · extract_lets s₁ x
    have h₁ : Quiet m r s₁ := h.retryOps
    split
    · exact Quiet.ite h₁.putCove.startUnit.putMax h₁.startJob
    · exact h₁.startJob

theorem answers_coveUnitEnd {n : Fin 16} (h : Quiet m r s) : Answers m r (execCoveUnitEnd n s) := by
  unfold execCoveUnitEnd
  refine Quiet.next ?_
  extract_lets x x₁
  split
  · exact h
  · extract_lets s₁ x₂ s₂ s₃ s₄
    have h₁ : Quiet m r s₁ := h.putCove
    exact h₁.countWrap.freeHeld.modPart.frameAdvance

theorem answers_frameRecordIssue {n : Fin 16} (h : Quiet m r s) : Answers m r (execFrameRecordIssue n s) := by
  unfold execFrameRecordIssue
  refine Quiet.next ?_
  split
  · exact h
  · split
    · extract_lets x x₁ x₂ x₃ x₄ x₅ x₆ x₇ x₈ s₁ s₂ s₃ x₉ s₄ s₅ s₆
      have h₁ : Quiet m r s₁ := h.modOut
      have h₂ : Quiet m r s₂ := by
        simp only [s₂]
        split
        · exact Quiet.ite h₁.noteSplit h₁
        · exact h₁
      have h₃ : Quiet m r s₅ := h₂.handUnit.chainIssued.countWrap.put.put
      exact Quiet.retire (Quiet.ite h₂.handUnit (Quiet.ite h₃.compareTwin h₃))
    · exact h

theorem Quiet.cutPart {n stream seq rows : Nat} (h : Quiet m r s) : Quiet m r (s.cutPart n stream seq rows) := by
  unfold State.cutPart
  split
  · exact h
  · split
    · exact h
    · extract_lets x s₁ x₁ x₂ s₂ x₃ x₄ s₃ x₅ s₄ s₅
      have h₁ : Quiet m r s₁ := h.modPart
      have h₂ : Quiet m r s₂ := h₁.putCove
      have h₃ : Quiet m r s₃ := h₂.putHarb (by rfl)
      have h₄ : Quiet m r s₄ := h₃.foldl fun _ _ h₄ => h₄.freeJob
      clear_value s₄
      exact h₄.dropOps.frameAdvance

theorem Quiet.rebindContext {n c : Nat} (h : Quiet m r s) : Quiet m r (s.rebindContext n c) := by
  unfold State.rebindContext
  extract_lets x
  exact h.putCoveCtx.lhRestart.judgeCove

/-! ## What the operations of Slices leave as it is -/

theorem Quiet.rawWrite {h₀ stream seq row e₀ : Nat} {b : List Byte} (h : Quiet m r s) :
    Quiet m r (s.rawWrite h₀ stream seq row e₀ b) := by
  unfold State.rawWrite
  split
  · exact h
  · extract_lets x x₁ s₁
    exact h.modFrame.foldl fun _ _ h₁ => h₁.ask

theorem Quiet.createJob {k x q : Nat} {late : Bool} {d : Nat × Nat × Nat × Nat} (h : Quiet m r s) : Quiet m r (s.createJob k x q late d) := by
  unfold State.createJob
  split
  · exact h
  · split
    · exact h
    · extract_lets behind made
      have hmade : ∀ t, made = some t → Quiet m r t := by
        intro t ht
        simp only [made] at ht
        split at ht
        · cases ht
        · exact h.allocSlice ht
      clear_value made
      split
      · exact Quiet.ite (hmade _ rfl).modFrame (hmade _ rfl)
      · exact Quiet.ite h h.modFrame

theorem Quiet.announceRow {h₀ stream seq row : Nat} (h : Quiet m r s) : Quiet m r (s.announceRow h₀ stream seq row) := by
  unfold State.announceRow
  split
  · exact h
  · exact h.foldl fun _ _ h₁ => h₁.createJob

theorem Quiet.settleRows {h₀ stream seq : Nat} (h : Quiet m r s) : Quiet m r (s.settleRows h₀ stream seq) := by
  unfold State.settleRows
  split
  · exact h
  · extract_lets x s₁
    have h₁ : Quiet m r s₁ := h.foldl fun _ _ h₁ => h₁.jobState
    clear_value s₁
    exact h₁.foldl fun _ _ h₂ => h₂.createJob

theorem Quiet.settleHalf {h₀ : Nat} (h : Quiet m r s) : Quiet m r (s.settleHalf h₀) := h.foldl fun _ _ h₁ => h₁.settleRows

theorem Quiet.abortRows {n stream seq rows : Nat} (h : Quiet m r s) : Quiet m r (s.abortRows n stream seq rows) := by
  unfold State.abortRows
  extract_lets x x₁
  exact Quiet.modFrame (h.foldl fun _ _ h₁ => h₁.freeJob)

theorem Quiet.issueSlice {h₀ e₀ : Nat} {j : JobEntry} (h : Quiet m r s) : Quiet m r (s.issueSlice h₀ e₀ j) := by
  unfold State.issueSlice
  split
  · exact h.freeJob
  · split
    · extract_lets x x₁ x₂ x₃ s₁ s₂
      exact h.putCove.jobState.foldl fun _ _ h₁ => h₁.ask

theorem answers_jobDispatch {n : Fin 16} {c : Fin 8} (h : Quiet m r s) : Answers m r (execJobDispatch n c s) := by
  unfold execJobDispatch
  refine Quiet.next ?_
  extract_lets x s₁
  have h₁ : Quiet m r s₁ := h.settleHalf.retryOps
  split
  · exact h₁
  · split
    · exact h₁
    · exact Quiet.ite h₁.issueSlice h₁

theorem Quiet.sliceResult {h₀ : Nat} {r₀ : MemResult} (h : Quiet m r s) : Quiet m r (s.sliceResult h₀ r₀) := by
  unfold State.sliceResult
  extract_lets x x₁
  split
  · exact h
  · rename_i heq
    have h₁ := h.takeResult heq
    extract_lets x₂
    split
    · exact h₁
    · split
      · exact h₁
      · split
        · exact h₁.failJob
        · extract_lets x₃ s₁
          have h₂ : Quiet m r s₁ := h₁.putCove
          exact Quiet.ite h₂.jobState h₂

/-! ## What the operations of Inlet leave as it is -/

theorem Quiet.judgeInlet {n : Nat} (h : Quiet m r s) : Quiet m r (s.judgeInlet n) := by
  unfold State.judgeInlet
  extract_lets x
  exact h.cond.cond.cond.cond

theorem Quiet.sentinelPart {x h₀ : Nat} (h : Quiet m r s) : Quiet m r (s.sentinelPart x h₀) := by
  unfold State.sentinelPart
  extract_lets x₁
  exact Quiet.ite h.selfCheck h

theorem Quiet.endPart {x cove status rows : Nat} (h : Quiet m r s) : Quiet m r (s.endPart x cove status rows) := by
  unfold State.endPart
  extract_lets x₁ x₂ s₁ s₂ s₃ x₃ s₄
  have h₁ : Quiet m r s₁ := h.putStream
  have h₂ : Quiet m r s₂ := Quiet.ite h₁.sentinelPart h₁
  have h₃ : Quiet m r s₃ := h₂.modPart
  exact Quiet.ite h (Quiet.ite h₂.cutPart h₃.putCove.abortRows.frameAdvance)

theorem Quiet.showCheck {x : Nat} {ok : Option Bool} (h : Quiet m r s) : Quiet m r (s.showCheck x ok) := by
  unfold State.showCheck
  extract_lets x₁ x₂ x₃ s₁ s₂
  have h₁ : Quiet m r s₁ := h.put
  have h₂ : Quiet m r s₂ := by
    simp only [s₂]
    split
    · exact h₁.put
    · exact h₁
  split
  · exact h
  · exact Quiet.ite h₂.countWrap h₂.countSat

theorem Quiet.countOutcome {x : Nat} {trunc part : Bool} (h : Quiet m r s) : Quiet m r (s.countOutcome x trunc part) := by
  unfold State.countOutcome
  extract_lets x₁ s₁
  have h₁ : Quiet m r s₁ := Quiet.ite h.stCount.event h
  exact Quiet.ite h₁.stCount.event h₁

theorem Quiet.countChange {h₀ x seq : Nat} {g : CovePart → CovePart} (h : Quiet m r s) : Quiet m r (s.countChange h₀ x seq g) := by
  unfold State.countChange
  extract_lets x₁ x₂
  exact h.countOutcome

theorem Quiet.closeStream {x : Nat} {complete : Bool} {next : Nat} (h : Quiet m r s) : Quiet m r (s.closeStream x complete next) := by
  unfold State.closeStream
  extract_lets x₁ x₂ x₃ x₄
  split
  · extract_lets s₁ s₂ s₃
    have h₁ : Quiet m r s₁ := h.showCheck
    have h₂ : Quiet m r s₂ := by
      unfold s₂
      split
      · exact h₁.syncMeasure
      · exact h₁
    have h₃ : Quiet m r s₃ := h₂.syncFrameEnd
    clear_value s₂
    split
    · extract_lets s₄ s₅ x₅ s₆ s₇ x₆ s₈ s₉
      have h₄ : Quiet m r s₄ := h₃.foldl fun _ _ h₄ => h₄.modFrame
      have h₅ : Quiet m r s₅ := h₄.foldl fun _ _ h₅ => h₅.endPart
      have h₆ : Quiet m r s₆ := h₅.countOutcome
      have h₇ : Quiet m r s₇ := h₆.stPut
      clear_value s₄ s₅
      exact h₇.putStream.stPut.foldl fun _ _ h₈ => h₈.frameAdvance

theorem Quiet.truncateStream {x next : Nat} (h : Quiet m r s) : Quiet m r (s.truncateStream x next) := Quiet.ite h.closeStream h

theorem Quiet.cutStream {x cove : Nat} (h : Quiet m r s) : Quiet m r (s.cutStream x cove) := by
  unfold State.cutStream
  extract_lets x₁ x₂ s₁ s₂ x₃
  have h₁ : Quiet m r s₁ := h.endPart
  have h₂ : Quiet m r s₂ := Quiet.ite h₁.stCount.event h₁
  exact Quiet.ite h (Quiet.ite h₂ h₂.closeStream)

theorem Quiet.cutParts {p : HalfFrame → CovePart → Bool} (h : Quiet m r s) : Quiet m r (s.cutParts p) := by
  unfold State.cutParts
  refine Quiet.foldl (h) fun _ _ h₁ => ?_
  refine Quiet.foldl (h₁) fun _ _ h₂ => ?_
  split
  · exact h₂.cutStream
  · extract_lets x s₁ s₂ s₃
    have h₃ : Quiet m r s₃ := Quiet.cutPart (Quiet.countChange (Quiet.ite h₂.stCount.event h₂))
    exact Quiet.ite h₃.selfCheck h₃

theorem Quiet.cutCove {n : Nat} (h : Quiet m r s) : Quiet m r (s.cutCove n) := h.cutParts

theorem Quiet.cutHarbour {h₀ : Nat} (h : Quiet m r s) : Quiet m r (s.cutHarbour h₀) := h.cutParts

theorem Quiet.cutHalf {h₀ : Nat} (h : Quiet m r s) : Quiet m r (s.cutHalf h₀) := h.cutParts

theorem Quiet.latchSlots {x seq : Nat} (h : Quiet m r s) : Quiet m r (s.latchSlots x seq) := by
  unfold State.latchSlots
  extract_lets x₁ s₁
  have h₁ : Quiet m r s₁ := by
    unfold s₁
    refine Quiet.foldl (h) fun _ _ h₂ => ?_
    refine Quiet.foldl (h₂) fun _ _ h₃ => ?_
    split
    · extract_lets x₂ x₃
      exact h₃.putTxSlot
    · exact h₃
  refine Quiet.foldl (h₁) fun _ _ h₂ => ?_
  split
  · extract_lets x₂ x₃
    exact h₂.putSlot
  · exact h₂

theorem Quiet.openHalf {p : Plan} {x : PlanStream} {seq tide sof h₀ : Nat} (h : Quiet m r s) :
    Quiet m r (s.openHalf p x seq tide sof h₀) := by
  unfold State.openHalf
  extract_lets x₁ x₂ x₃ s₁ x₄ s₂ x₅ x₆ x₇ x₈ s₃ s₄
  have h₁ : Quiet m r s₁ := Quiet.ite h h.putStream
  have h₂ : Quiet m r s₂ := h₁.putStream
  have h₃ : Quiet m r s₃ := Quiet.ite h₂.putStream h₂
  exact Quiet.ite h₂ ((h₃.same (by rfl)).foldl fun _ _ h₄ => h₄.openPart)

theorem Quiet.startFrame {p : Plan} {x : PlanStream} {i : InletItem} (h : Quiet m r s) : Quiet m r (s.startFrame p x i) := by
  unfold State.startFrame
  extract_lets x₁ x₂ x₃ x₄ x₅ x₆ x₇ s₁ s₂ s₃ x₈ x₉ s₄ s₅ s₆ s₇ x₁₀ s₈ x₁₁ s₉ s₁₀ x₁₂ s₁₁
  have h₁ : Quiet m r s₂ := h.stPut.stPut.stPut.stPut
  have h₂ : Quiet m r s₃ := h₁.putStream
  have h₃ : Quiet m r s₄ := h₂.putStream
  have h₄ : Quiet m r s₇ := h₃.eventIf.latchSlots.syncFrameStart.eventIf
  have h₅ : Quiet m r s₈ := Quiet.ite h₄ (h₄.foldl fun _ _ h₅ => h₅.openHalf)
  have h₆ : Quiet m r s₉ := h₅.foldl fun _ _ h₆ => Quiet.ite h₆.noteHalf.sentinelPart h₆
  have h₇ : Quiet m r s₁₀ := h₆.stPut
  clear_value s₈ s₉
  exact Quiet.judgeInlet (Quiet.ite h₇ h₇.stCount.event.putStream)

theorem Quiet.takeItem {n : Nat} {k : PacketKind} {x : InletItem} (h : Quiet m r s) (ht : s.takeItem n k = some (x, t)) : Quiet m r t := by
  unfold State.takeItem at ht
  split at ht
  · cases ht
  · split at ht
    · cases ht
      exact h.putPort
    · cases ht

theorem answers_frameStart {n : Fin 40} (h : Quiet m r s) : Answers m r (execFrameStart n s) := by
  unfold execFrameStart
  refine Quiet.next ?_
  split
  · exact h
  · rename_i heq
    have h₁ := h.takeItem heq
    extract_lets x s₁
    have h₂ : Quiet m r s₁ := Quiet.ite h₁.closeStream.countSat h₁
    split
    · exact h₂
    · split
      · exact h₂.startFrame
      · exact h₂

theorem Quiet.countLine {x : Nat} {c : LineCheck} (h : Quiet m r s) : Quiet m r (s.countLine x c) := by
  unfold State.countLine
  extract_lets x₁ s₁
  have h₁ : Quiet m r s₁ := by
    simp only [s₁]
    split
    · exact h.countSat
    · exact h.stCount
    · exact h.countSat
    · exact h.stCount
    · exact h
  exact Quiet.ite h₁.stCount h₁

theorem Quiet.storeLine {x n row e₀ : Nat} {codes : List Nat} (h : Quiet m r s) : Quiet m r (s.storeLine x n row e₀ codes) := by
  unfold State.storeLine
  extract_lets x₁ x₂ x₃ x₄ s₁
  split
  · exact h
  · split
    · exact h.putStream.endPart.judgeInlet
    · split
      · extract_lets x₅
        exact h.putCove

theorem Quiet.deliverLine {x : PlanStream} {row e₀ : Nat} {first bad : Bool} {b : List Byte} (h : Quiet m r s) :
    Quiet m r (s.deliverLine x row e₀ first bad b) := by
  unfold State.deliverLine
  extract_lets x₁ x₂ x₃ x₄ s₁ x₅
  have h₁ : Quiet m r s₁ := h.foldl fun _ _ h₁ => h₁.modFrame
  clear_value s₁
  split
  · refine Quiet.foldl (h₁) fun _ _ h₂ => ?_
    extract_lets s₂ s₃
    have h₃ : Quiet m r s₂ := h₂.rawWrite
    exact Quiet.settleRows (Quiet.ite h₃.announceRow h₃)
  · exact h₁.foldl fun _ _ h₂ => h₂.storeLine

theorem Quiet.timeHeader {x : PlanStream} {row e₀ stamp : Nat} (h : Quiet m r s) : Quiet m r (s.timeHeader x row e₀ stamp) := by
  unfold State.timeHeader
  extract_lets x₁ x₂ x₃ x₄ x₅ x₆ x₇ s₁
  have h₁ : Quiet m r s₁ := h.putStream
  clear_value x₄
  split
  · exact h.putStream.stPut
  · exact h.putStream

theorem Quiet.pixelLine {x : PlanStream} {ve : Option Nat} {i : InletItem} (h : Quiet m r s) : Quiet m r (s.pixelLine x ve i) := by
  unfold State.pixelLine
  extract_lets x₁ x₂ x₃ s₁ x₄ x₅ s₂
  have h₁ : Quiet m r s₁ := h.putStream
  have h₂ : Quiet m r s₂ := h₁.countLine
  split
  · split
    · exact h₁.stCount
    · split
      · exact h₂.closeStream
      · extract_lets x₆ s₃ s₄ s₅
        have h₃ : Quiet m r s₄ := h₂.putStream.timeHeader
        exact h₃.stPut.deliverLine

theorem answers_pixelPacket {n : Fin 40} (h : Quiet m r s) : Answers m r (execPixelPacket n s) := by
  unfold execPixelPacket
  refine Quiet.next ?_
  split
  · exact h
  · rename_i heq
    have h₁ := h.takeItem heq
    extract_lets x x₁
    split
    · extract_lets x₂
      exact h₁.pixelLine
    · exact h₁
    · exact h₁.stCount

theorem Quiet.checkEmbedded {x : Nat} {i : InletItem} (h : Quiet m r s) : Quiet m r (s.checkEmbedded x i) := by
  unfold State.checkEmbedded
  extract_lets x₁ x₂ x₃ x₄ x₅ x₆
  exact Quiet.ite h h.putStream

theorem answers_embeddedPacket {n : Fin 40} (h : Quiet m r s) : Answers m r (execEmbeddedPacket n s) := by
  unfold execEmbeddedPacket
  refine Quiet.next ?_
  split
  · exact h
  · rename_i heq
    have h₁ := h.takeItem heq
    split
    · exact h₁
    · extract_lets x s₁ x₁
      have h₂ : Quiet m r s₁ := h₁.syncEmbedded.checkEmbedded
      exact Quiet.ite h₂.putStream (Quiet.ite h₁.stCount h₁)

theorem answers_frameEnd {n : Fin 40} (h : Quiet m r s) : Answers m r (execFrameEnd n s) := by
  unfold execFrameEnd
  refine Quiet.next ?_
  split
  · exact h
  · rename_i heq
    have h₁ := h.takeItem heq
    extract_lets x x₁ s₁
    split
    · exact h₁
    · split
      · exact Quiet.closeStream (Quiet.ite h₁ h₁.countSat)
      · exact Quiet.ite h₁.stCount h₁
      · exact Quiet.ite h₁.countSat h₁

theorem answers_lineTimeout {x : Fin 160} (h : Quiet m r s) : Answers m r (execLineTimeout x s) := h.truncateStream.next

theorem answers_gapMark {n : Fin 40} (h : Quiet m r s) : Answers m r (execGapMark n s) := by
  unfold execGapMark
  refine Quiet.next ?_
  split
  · exact h
  · rename_i heq
    have h₁ := h.takeItem heq
    extract_lets s₁
    have h₂ : Quiet m r s₁ := h₁.foldl fun _ _ h₂ => Quiet.ite h₂.closeStream (Quiet.ite h₂.stPut h₂)
    clear_value s₁
    exact h₂.countSat.event

theorem Quiet.truncateParts {h₀ x seq row : Nat} (h : Quiet m r s) : Quiet m r (s.truncateParts h₀ x seq row) := by
  unfold State.truncateParts
  extract_lets x₁ x₂ s₁
  split
  · exact h
  · exact Quiet.frameAdvance (h.countChange.modFrame.foldl fun _ _ h₁ => h₁.abortRows)

theorem Quiet.rawResult {h₀ : Nat} {r₀ : MemResult} (h : Quiet m r s) : Quiet m r (s.rawResult h₀ r₀) := by
  unfold State.rawResult
  split
  · exact h
  · rename_i heq
    have h₁ := h.takeResult heq
    extract_lets x x₁ x₂ x₃ s₁ x₄ x₅ x₆ s₂ s₃
    have h₂ : Quiet m r s₁ := h₁.modFrame
    have h₃ : Quiet m r s₂ := Quiet.ite h₂.putStream.judgeInlet h₂.occur
    have h₄ : Quiet m r s₃ := Quiet.ite h₂ (Quiet.ite (h₃.foldl fun _ _ h₄ => h₄.endPart) h₃.truncateParts)
    clear_value s₃
    exact h₄.settleRows

/-! ## What the operations of Memory leave as it is -/

theorem Quiet.takeOne {h₀ : Nat} {r₀ : MemResult} (h : Quiet m r s) : Quiet m r (s.takeOne h₀ r₀) := by
  unfold State.takeOne
  split
  · exact h.rawResult
  · exact h.coveResult
  · exact h.sliceResult
  · exact h.aperResult
  · exact h

theorem Quiet.takeUp {h₀ : Nat} (h : Quiet m r s) : Quiet m r (s.takeUp h₀) := h.foldl fun _ _ h₁ => h₁.takeOne

theorem Quiet.countJobFail {h₀ : Nat} {r₀ : MemReq} {cause : Nat} (h : Quiet m r s) : Quiet m r (s.countJobFail h₀ r₀ cause) := by
  unfold State.countJobFail
  split
  · extract_lets s₁
    have h₁ : Quiet m r s₁ := h.countSat
    exact Quiet.ite h₁.selfCheck h₁
  · exact h

theorem Quiet.deferAsk {h₀ i : Nat} {r₀ : MemReq} (h : Quiet m r s) : Quiet m r (s.deferAsk h₀ i r₀) := by
  unfold State.deferAsk
  extract_lets x s₁ x₁
  have h₁ : Quiet m r s₁ := h.countSat
  exact Quiet.ite h (h₁.putHarb (by rfl))

theorem Quiet.failRequest {h₀ : Nat} {r₀ : MemReq} {cause : Nat} (h : Quiet m r s) : Quiet m r (s.failRequest h₀ r₀ cause) := by
  unfold State.failRequest
  split
  · rename_i heq
    have h₁ := h.requestBack heq
    exact Quiet.ite h₁ h₁.endRequest.countJobFail.takeUp

theorem answers_memRequest {h₀ : Fin 2} {i : Nat} {walk : List EccResult} (h : Quiet m r s) : Answers m r (execMemRequest h₀ i walk s) := by
  unfold execMemRequest
  refine Quiet.next ?_
  extract_lets x s₁
  split
  · exact h
  · split
    · exact h
    · split
      · exact h.deferAsk
      · extract_lets x₁
        split
        · rename_i heq
          have h₁ := (h.putHarb (by rfl)).translateFor heq
          exact h₁.xlateFault.failRequest
        · rename_i heq
          have h₁ := (h.putHarb (by rfl)).translateFor heq
          exact h₁.failRequest
        · rename_i heq
          have h₁ := (h.putHarb (by rfl)).translateFor heq
          exact h₁.enterReq

theorem Quiet.countLatency {h₀ : Nat} {r₀ : MemReq} (h : Quiet m r s) : Quiet m r (s.countLatency h₀ r₀) := by
  unfold State.countLatency
  extract_lets x x₁ x₂ s₁
  have h₁ : Quiet m r s₁ := h.putHarb (by rfl)
  exact Quiet.ite h (Quiet.ite h₁.report h₁)

theorem answers_memRequestDone {h₀ : Fin 2} {id : Nat} {ecc : List (Nat × EccResult)} {linkCorr : List Nat} (h : Quiet False r s) :
    Answers False r (execMemRequestDone h₀ id ecc linkCorr s) := by
  unfold execMemRequestDone
  refine Quiet.next ?_
  extract_lets x
  split
  · exact h
  · split
    · exact h
    · extract_lets s₁ x₁ x₂ s₂ x₃ s₃ x₄ s₄ x₅
      have h₁ : Quiet False r s₂ := (h.putHarb (by rfl)).countLatency.foldl fun _ _ h₁ => h₁.countSat
      have h₂ : Quiet False r s₃ := h₁.foldl fun _ _ h₂ => h₂.eccApply
      have h₃ : Quiet False r s₄ := by
        unfold s₄
        split
        · exact h₂.memWrite
        · exact h₂
      clear_value s₂ s₃ s₄
      split
      · rename_i heq
        have h₄ := h₃.requestBack heq
        split
        · exact h₄
        · extract_lets x₆
          exact h₄.endRequest.countJobFail.takeUp

theorem answers_jobTimeout {e₀ : Fin 131072} (h : Quiet m r s) : Answers m r (execJobTimeout e₀ s) := by
  unfold execJobTimeout
  refine Quiet.next ?_
  extract_lets x x₁ s₁
  have h₁ : Quiet m r s₁ := h.jobTimeout.takeUp
  exact Quiet.ite h₁.selfCheck h₁

/-! ## What the operations of Resets leave as it is -/

theorem Quiet.dropCommit {pg : Nat} (h : Quiet m r s) : Quiet m r (s.dropCommit pg) := by
  unfold State.dropCommit
  extract_lets x x₁ s₁ s₂
  have h₁ : Quiet m r s₂ := (h.same (by rfl)).put.put
  exact Quiet.ite h₁.putGrp h₁

theorem Quiet.resetFields {p : PageRef} {b : Bool} (h : Quiet m r s) : Quiet m r (s.resetFields p b) := h.setRegs (by rfl) (SMap.wf_filter _ _)

theorem Quiet.resetPort {n : Nat} (h : Quiet m r s) : Quiet m r (s.resetPort n) := by
  unfold State.resetPort
  extract_lets s₁
  have h₁ : Quiet m r s₁ := h.foldl fun _ _ h₁ => h₁.truncateStream
  clear_value s₁
  exact h₁.putPort.putSync.judgeInlet

theorem Quiet.resetCove {n : Nat} (h : Quiet m r s) : Quiet m r (s.resetCove n) := by
  unfold State.resetCove
  extract_lets s₁ x s₂ s₃
  have h₁ : Quiet m r s₁ := h.cutCove.dropOps
  have h₂ : Quiet m r s₂ := h₁.foldl fun _ _ h₂ => h₂.modFrame.retire
  clear_value s₂
  exact h₂.putCove.foldl fun _ _ h₃ => h₃.lhRestart

theorem Quiet.loseSteps {p : Nat → Bool} {h₀ : Nat} (h : Quiet m r s) : Quiet m r (s.loseSteps p h₀) := by
  unfold State.loseSteps
  extract_lets x x₁
  exact h.same (by rfl)

theorem Quiet.pairDown {k : Nat} (h : Quiet m r s) : Quiet m r (s.pairDown k) := by
  unfold State.pairDown
  extract_lets x s₁
  exact (h.same (by rfl)).loseSteps.beaconDropLp

theorem Quiet.dropGroups (h : Quiet m r s) : Quiet m r (s.dropGroups) := by
  unfold State.dropGroups
  extract_lets x s₁
  exact (h.same (by rfl)).foldl fun _ _ h₁ => Quiet.ite (h₁.foldl fun _ _ h₂ => h₂.dropCommit) h₁

theorem Quiet.resetWindow {n : Nat} (h : Quiet m r s) : Quiet m r (s.resetWindow n) := by
  unfold State.resetWindow
  extract_lets x s₁
  exact h.jettyLinkDown.putWindow

theorem Quiet.resetUnit {p : PageRef} (h : Quiet m r s) : Quiet m r (s.resetUnit p) := by
  unfold State.resetUnit
  split
  · exact h.resetCove
  · exact h.foldl fun _ _ h => h.lhRestart
  · exact h.dropTaps
  · exact h.cutHarbour.harbourReset.takeUp
  · exact Quiet.ite h h.abortCh
  · extract_lets s₁
    have h₁ : Quiet m r s₁ := h.laneOff
    exact h₁.putLane
  · exact h.rxOff.putCsi
  · exact h.txOff
  · exact h.resetPort
  · exact h.foldl fun _ _ h => h.truncateStream
  · exact h.resetWindow
  · exact h.putMac
  · exact h.same (by rfl)
  · exact h.resetFunction
  · exact h.pairDown
  · exact h.same (by rfl)
  · have h₁ : Quiet m r s.dropGroups := h.dropGroups
    generalize s.dropGroups = s₁ at h₁ ⊢
    exact h₁.same (by rfl)
  · exact h.same (by rfl)
  · exact h
  · exact h
  · exact h

theorem Quiet.lowerAll {r₀ : PageRef} {powerOff : Bool} (h : Quiet m r s) :
    Quiet m r (s.lowerAll r₀ powerOff) := h.foldl fun _ _ h₁ => Quiet.ite h₁ h₁.lower

theorem Quiet.judgeAfresh {r₀ : PageRef} (h : Quiet m r s) : Quiet m r (s.judgeAfresh r₀) := by
  unfold State.judgeAfresh
  split
  · exact h.judgeTimeUnlocked.judgeSyncLost.judgeSlip.judgeRate
  · exact h.judgeInlet.judgeSyncLost.judgeRate
  · exact h.cond
  · exact h.judgeLink.judgeAer.judgeTags
  · exact h.mapCapacity.judgeTrain
  · exact h.judgeTx
  · exact h.lower
  · exact h
  · exact h
  · exact h
  · exact h
  · exact h
  · exact h
  · exact h
  · exact h
  · exact h
  · exact h
  · exact h
  · exact h
  · exact h
  · exact h

theorem Quiet.resetPages {r₀ : PageRef} {powerOff : Bool} (h : Quiet m r s) : Quiet m r (s.resetPages r₀ powerOff) := by
  unfold State.resetPages
  extract_lets x x₁ s₁ s₂
  refine Quiet.put ?_
  refine Quiet.put ?_
  refine Quiet.foldl (h.same (by rfl)) fun _ _ h₁ => ?_
  extract_lets x₂ s₃
  exact h₁.dropCommit.lowerAll.resetFields.put.put

theorem Quiet.resetInstance {r₀ : PageRef} {powerOff : Bool} (h : Quiet m r s) : Quiet m r (s.resetInstance r₀ powerOff) := by
  unfold State.resetInstance
  extract_lets s₁
  have h₁ : Quiet m r s₁ := h.resetUnit.foldl fun _ _ h₁ => h₁.resetPages
  clear_value s₁
  exact h₁.judgeAfresh

theorem Quiet.showQuiet (h : Quiet m r s) : Quiet m r (s.showQuiet) := h.put

theorem Quiet.openQuiet {base : Nat} (h : Quiet m r s) : Quiet m r (s.openQuiet base) := by
  unfold State.openQuiet
  extract_lets s₁ x x₁
  have h₁ : Quiet m r s₁ := h.eventIf
  exact (h₁.same (by rfl)).showQuiet

theorem Quiet.closeQuiet {base : Nat} (h : Quiet m r s) : Quiet m r (s.closeQuiet base) := by
  unfold State.closeQuiet
  split
  · exact h
  · extract_lets x x₁ s₁
    exact (h.same (by rfl)).showQuiet.eventIf

theorem Quiet.blockReset {r₀ : PageRef} (h : Quiet m r s) : Quiet m r (s.blockReset r₀) := by
  unfold State.blockReset
  split
  · exact h
  · extract_lets s₁ x
    have h₁ : Quiet m r s₁ := h.openQuiet
    exact (h₁.same (by rfl)).resetInstance

theorem Quiet.unitUp {r₀ : PageRef} (h : Quiet m r s) : Quiet m r (s.unitUp r₀) := by
  unfold State.unitUp
  extract_lets x s₁
  have h₁ : Quiet m r s₁ := h.judgeTx
  split
  · exact Quiet.ite h.laneOn h
  · exact Quiet.ite h.rxOn h
  · exact Quiet.ite h₁.txOn h₁
  · exact h.put
  · exact h.judgeOff
  · exact h.trainPort
  · exact h

theorem answers_blockResetDone {pg : Fin 5120} (h : Quiet m r s) : Answers m r (execBlockResetDone pg s) := by
  unfold execBlockResetDone
  refine Quiet.next ?_
  split
  · exact h
  · split
    · exact h
    · extract_lets x s₁ s₂
      have h₁ : Quiet m r s₂ := (h.same (by rfl)).closeQuiet
      exact Quiet.ite h₁.unitUp h₁

theorem answers_quietWindowClose {pg : Fin 5120} (h : Quiet m r s) : Answers m r (execQuietWindowClose pg s) := by
  unfold execQuietWindowClose
  refine Quiet.next ?_
  split
  · exact h
  · exact h.closeQuiet

/-! ## What the operations of Breakwater leave as it is -/

theorem Quiet.startReset {cause : Nat} (h : Quiet m r s) : Quiet m r (s.startReset cause) := h.owe

theorem Quiet.recordCauses {causes : List Nat} {by_ : Option (Nat × Nat)} (h : Quiet m r s) : Quiet m r (s.recordCauses causes by_) := by
  unfold State.recordCauses
  extract_lets x s₁ s₂ s₃
  have h₁ : Quiet m r s₃ := Quiet.put (Quiet.put (h.foldl fun _ _ h₂ => h₂.put))
  split
  · exact Quiet.put (Quiet.put (h.foldl fun _ _ h₂ => h₂.put))
  · exact Quiet.put (Quiet.put (Quiet.put (Quiet.put (Quiet.put (h.foldl fun _ _ h₂ => h₂.put)))))

theorem Quiet.judgeTog (h : Quiet m r s) : Quiet m r (s.judgeTog) := by
  unfold State.judgeTog
  extract_lets x s₁ x₁
  have h₁ : Quiet m r s₁ := h.put
  exact Quiet.ite h₁ (h₁.same (by rfl))

theorem Quiet.driveErr (h : Quiet m r s) : Quiet m r (s.driveErr) := by
  unfold State.driveErr
  split
  · exact h
  · extract_lets s₁ x
    have h₁ : Quiet m r s₁ := h.put.put
    exact (h₁.same (by rfl)).judgeTog

theorem Quiet.tryTog (h : Quiet m r s) : Quiet m r (s.tryTog) := Quiet.ite (h.same (by rfl)).lower.judgeTog h

theorem Quiet.writeTogEn {on : Bool} (h : Quiet m r s) : Quiet m r (s.writeTogEn on) := by
  unfold State.writeTogEn
  extract_lets s₁ x s₂
  have h₁ : Quiet m r s₁ := h.put
  exact Quiet.judgeTog (Quiet.tryTog (Quiet.ite (h₁.same (by rfl)) h₁))

theorem Quiet.judgeCopies (h : Quiet m r s) : Quiet m r (s.judgeCopies) := h.cond.cond

theorem answers_errNRelease {high : Bool} (h : Quiet m r s) : Answers m r (execErrNRelease high s) := by
  unfold execErrNRelease
  refine Quiet.next ?_
  split
  · exact h
  · extract_lets s₁
    exact h.put.put.put.lower.judgeTog

theorem answers_errTogToggle (h : Quiet m r s) : Answers m r (execErrTogToggle s) := by
  unfold execErrTogToggle
  refine Quiet.next ?_
  extract_lets s₁ x
  have h₁ : Quiet m r s₁ := h.judgeTog
  exact Quiet.ite (h₁.same (by rfl)) h₁

theorem answers_togReadback (h : Quiet m r s) : Answers m r (execTogReadback s) := by
  unfold execTogReadback
  refine Quiet.next ?_
  split
  · exact h
  · extract_lets x s₁
    exact (h.same (by rfl)).countSat.report.judgeTog

theorem Quiet.putVerdict {pg : Nat} {fs : List Field} {v : Verdict} (h : Quiet m r s) : Quiet m r (s.putVerdict pg fs v) :=
  h.foldl fun _ _ h₁ => h₁.put

theorem Quiet.logVerdict {v : Verdict} (h : Quiet m r s) : Quiet m r (s.logVerdict v) := by
  unfold State.logVerdict
  extract_lets x x₁ x₂ s₁ s₂ s₃ s₄ s₅ s₆
  have h₁ : Quiet m r s₂ := h.putVerdict.put.put
  have h₂ : Quiet m r s₄ := h₁.put.put.put
  exact Quiet.ite h₂ h₂.putVerdict.put.put.put

theorem Quiet.countVerdict {v : Verdict} (h : Quiet m r s) : Quiet m r (s.countVerdict v) := by
  unfold State.countVerdict
  split
  · exact h.countSat
  · extract_lets s₁
    have h₁ : Quiet m r s₁ := by
      simp only [s₁]
      split
      · exact h.countSat
      · exact h
    exact Quiet.ite h₁.countSat.event h₁

theorem Quiet.trapAll (h : Quiet m r s) : Quiet m r (s.trapAll) := h.foldl fun _ _ h₁ => Quiet.ite h₁.emit h₁

theorem Quiet.latchTerminal {src : Nat} (h : Quiet m r s) : Quiet m r (s.latchTerminal src) := by
  unfold State.latchTerminal
  split
  · exact h
  · extract_lets x x₁ s₁ s₂ s₃ s₄
    exact (h.same (by rfl)).put.put.put.put.put.driveErr.judgeTog

theorem Quiet.applyReact {r₀ : PageRef} {b : Nat} {v : Verdict} (h : Quiet m r s) : Quiet m r (s.applyReact r₀ b v) := by
  unfold State.applyReact
  split
  · exact h.foldl fun _ _ h₁ => h₁.blockReset
  · exact (h.same (by rfl)).startReset
  · exact h.latchTerminal
  · exact h

theorem Quiet.react {pg b src : Nat} (h : Quiet m r s) : Quiet m r (s.react pg b src) := by
  unfold State.react
  split
  · exact h
  · extract_lets x x₁ x₂ s₁ s₂ s₃ s₄ s₅ s₆ s₇
    have h₁ : Quiet m r s₁ := h.logVerdict.countVerdict
    have h₂ : Quiet m r s₂ := h₁.putMarks
    have h₃ : Quiet m r s₃ := Quiet.ite h₂.driveErr h₂
    have h₄ : Quiet m r s₄ := by
      unfold s₄
      split
      · exact Quiet.ite h₃.noteHalf h₃
      · exact h₃
    have h₅ : Quiet m r s₅ := Quiet.ite h₄.trapAll h₄
    have h₆ : Quiet m r s₆ := Quiet.ite h₅.oweMsix h₅
    have h₇ : Quiet m r s₇ := by
      unfold s₇
      split
      · exact Quiet.ite h₆.selfCheck h₆
      · exact h₆
    clear_value s₄ s₇
    exact Quiet.ite (Quiet.ite h₄.latchTerminal h₄) h₇.applyReact

theorem answers_faultOccurrence {src : Fin 1536} (h : Quiet m r s) : Answers m r (execFaultOccurrence src s) := by
  unfold execFaultOccurrence
  refine Quiet.next ?_
  split
  · exact (h.same (by rfl)).react
  · exact h

theorem answers_bwLock {req : Requester} {w : Word} (h : Quiet m r s) :
    Answers m r (execBwLock req w s) := Quiet.next (h.onWrite (fun _ h₁ => h₁.put.writeTogEn))

theorem answers_faultInject {req : Requester} {w : Word} (h : Quiet m r s) :
    Answers m r (execFaultInject req w s) := Quiet.next (h.onWrite (fun _ h₁ => by
    split
    · exact h₁
    · extract_lets x s₁
      have h₂ : Quiet m r s₁ := h₁.put
      split
      · exact h₂
      · exact h₂.occur))

theorem Quiet.writeBwSrc {src w : Nat} (h : Quiet m r s) : Quiet m r (s.writeBwSrc src w) := by
  unfold State.writeBwSrc
  split
  · exact h
  · split
    · exact h.event
    · extract_lets x x₁ s₁ x₂ x₃ x₄ x₅ x₆ x₇ s₂ s₃
      have h₁ : Quiet m r s₁ := h.foldl fun _ _ h₂ => h₂.put
      have h₂ : Quiet m r s₂ := Quiet.ite h₁.put h₁
      exact Quiet.eventIf (Quiet.ite h₂.put h₂)

/-! ## What the operations of Power leave as it is -/

theorem Quiet.judgePll (h : Quiet m r s) : Quiet m r (s.judgePll) := h.cond.judgeTx.judgeTx

theorem Quiet.putPll {i : Nat} {on : Bool} (h : Quiet m r s) : Quiet m r (s.putPll i on) := by
  unfold State.putPll
  extract_lets x
  exact h.put

theorem Quiet.pllEffect {i : Nat} (h : Quiet m r s) : Quiet m r (s.pllEffect i) := by
  unfold State.pllEffect
  split
  · exact h.foldl fun _ _ h₁ => h₁.untrain
  · exact h.foldl fun _ _ h₁ => h₁.untrain
  · exact h.foldl fun _ _ h₁ => Quiet.ite h₁ h₁.linkDown
  · exact h.foldl fun _ _ h₁ => Quiet.ite h₁.macLink h₁
  · exact h.foldl fun _ _ h₁ => h₁.txOff
  · exact h.foldl fun _ _ h₁ => Quiet.ite h₁.retrain h₁
  · exact h

theorem Quiet.pllLost {i : Nat} (h : Quiet m r s) : Quiet m r (s.pllLost i) := Quiet.ite h h.putPll.countSat.pllEffect.judgePll.again

theorem Quiet.discard {d : Nat} (h : Quiet m r s) : Quiet m r (s.discard d) := by
  unfold State.discard
  extract_lets s₁ s₂ s₃
  have h₁ : Quiet m r s₁ := by
    unfold s₁
    refine Quiet.foldl (h) fun _ _ h₁ => ?_
    extract_lets s₄ s₅ x
    have h₂ : Quiet m r s₅ := Quiet.resetInstance (Quiet.ite h₁.linkDown h₁)
    exact (h₂.same (by rfl)).closeQuiet
  have h₂ : Quiet m r s₂ := Quiet.ite h₁.untrain h₁
  have h₃ : Quiet m r s₃ := Quiet.ite h₂.judgeOff h₂
  clear_value s₁
  exact Quiet.ite h₃.putPll.judgePll h₃

theorem Quiet.startSwitch {d : Nat} {up : Bool} (h : Quiet m r s) : Quiet m r (s.startSwitch d up) := by
  unfold State.startSwitch
  split
  · exact h.same (by rfl)
  · extract_lets s₁ x
    have h₁ : Quiet m r s₁ := h.put
    exact (h₁.same (by rfl)).discard

theorem Quiet.pumpOne (h : Quiet m r s) : Quiet m r (s.pumpOne) := by
  unfold State.pumpOne
  split
  · exact h
  · extract_lets x
    split
    · exact h
    · exact h.startSwitch

theorem Quiet.pumpPower (h : Quiet m r s) : Quiet m r (s.pumpPower) := by
  unfold State.pumpPower
  extract_lets x s₁
  exact (h.same (by rfl)).pumpOne.pumpOne.pumpOne.pumpOne

theorem Quiet.risen {d calBad : Nat} (h : Quiet m r s) : Quiet m r (s.risen d calBad) := by
  unfold State.risen
  extract_lets s₁
  refine Quiet.foldl (Quiet.ite h.putPll.judgePll h) fun _ _ h₁ => ?_
  extract_lets s₂
  have h₂ : Quiet m r s₂ := h₁.unitUp
  split
  · exact h₂.cond
  · exact h₂.cond
  · exact h₂

theorem answers_domainPowerAck {d : Fin 96} {calBad : Fin 16} (h : Quiet m r s) : Answers m r (execDomainPowerAck d calBad s) := by
  unfold execDomainPowerAck
  extract_lets x s₁ s₂
  exact Quiet.next (Quiet.ite (h.same (by rfl)).put.countWrap.lower.risen.pumpPower (Quiet.ite (h.same (by rfl)).countWrap.lower.pumpPower h))

theorem Quiet.judgeDrop (h : Quiet m r s) : Quiet m r (s.judgeDrop) := h.cond

theorem Quiet.markRail {r₀ : Nat} (h : Quiet m r s) : Quiet m r (s.markRail r₀) := h.put

theorem Quiet.dropEffect {d : Nat} (h : Quiet m r s) : Quiet m r (s.dropEffect d) := by
  unfold State.dropEffect
  extract_lets s₁ s₂ s₃ s₄
  have h₁ : Quiet m r s₁ := by
    unfold s₁
    split
    · exact h.selfCheck
    · exact h
  have h₂ : Quiet m r s₂ := Quiet.ite h₁.cutCove (Quiet.ite h₁.cutHarbour (Quiet.ite h₁.cutHarbour h₁))
  have h₃ : Quiet m r s₄ := Quiet.discard (Quiet.ite h₂.pllLost h₂)
  clear_value s₁
  exact Quiet.ite h₃.startReset.markRail (Quiet.ite h₃.startReset.markRail h₃)

theorem answers_domainDrop {d : Fin 96} (h : Quiet m r s) : Answers m r (execDomainDrop d s) := by
  unfold execDomainDrop
  refine Quiet.next ?_
  split
  · exact h
  · split
    · exact h.startSwitch
    · extract_lets s₁ x s₂
      have h₁ : Quiet m r s₁ := h.put
      exact h₁.put.judgeDrop.again.dropEffect.pumpPower

theorem Quiet.clearDrops {k w : Nat} (h : Quiet m r s) : Quiet m r (s.clearDrops k w) := by
  unfold State.clearDrops
  extract_lets x
  exact h.put.judgeDrop.judgePll.pumpPower

theorem Quiet.refusePower {d : Nat} (h : Quiet m r s) : Quiet m r (s.refusePower d) := h.event.put

theorem Quiet.writePdReq {d : Nat} {on : Bool} (h : Quiet m r s) : Quiet m r (s.writePdReq d on) := by
  unfold State.writePdReq
  extract_lets x
  exact Quiet.ite h.refusePower (Quiet.ite h.refusePower h.put.pumpPower)

theorem Quiet.writeEn {r₀ : PageRef} {on : Bool} (h : Quiet m r s) : Quiet m r (s.writeEn r₀ on) := by
  unfold State.writeEn
  split
  · exact h
  · extract_lets x s₁ s₂
    have h₁ : Quiet m r s₁ := h.put
    have h₂ : Quiet m r s₂ := Quiet.ite h₁.cond h₁
    split
    · exact h₂
    · split
      · exact Quiet.laneOn (Quiet.ite h.put.cond h.put)
      · exact Quiet.laneOff (Quiet.ite h.put.cond h.put)
      · exact Quiet.rxOn (Quiet.ite h.put.cond h.put)
      · exact Quiet.rxOff (Quiet.ite h.put.cond h.put)
      · exact Quiet.txOn (Quiet.ite h.put.cond h.put)
      · exact Quiet.txOff (Quiet.ite h.put.cond h.put)
      · exact Quiet.ite h.put.cond h.put

theorem Quiet.writePwr {r₀ : PageRef} {on : Bool} (h : Quiet m r s) :
    Quiet m r (s.writePwr r₀ on) := Quiet.ite h (Quiet.ite h.refusePower h.put.pumpPower)

theorem Quiet.writeRst {req : Requester} {pg : Nat} {r₀ : PageRef} (h : Quiet m r s) : Quiet m r (s.writeRst req pg r₀) := by
  unfold State.writeRst
  split
  · exact h.logAccess
  · extract_lets s₁
    have h₁ : Quiet m r s₁ := h.blockReset
    exact Quiet.ite (Quiet.pumpPower (Quiet.judgePll (Quiet.ite h₁ h₁.lower))) h₁

theorem Quiet.writeCtrl {req : Requester} {pg w : Nat} (h : Quiet m r s) : Quiet m r (s.writeCtrl req pg w) := by
  unfold State.writeCtrl
  split
  · exact h
  · extract_lets s₁
    have h₁ : Quiet m r s₁ := h.writePwr.writeEn
    exact Quiet.ite h₁.writeRst h₁

theorem answers_powerReq {req : Requester} {t₀ : PowerTarget} {w : Word} (h : Quiet m r s) : Answers m r (execPowerReq req t₀ w s) := by
  unfold execPowerReq
  refine Quiet.next ?_
  split
  · exact h.onWrite (fun _ h₁ => h₁.writePdReq)
  · exact h.onWrite (fun _ h₁ => h₁.writeCtrl)

theorem answers_instanceEnable {req : Requester} {pg : Fin 5120} {w : Word} (h : Quiet m r s) :
    Answers m r (execInstanceEnable req pg w s) := Quiet.next (h.onWrite (fun _ h₁ => h₁.writeCtrl))

theorem answers_blockResetReq {req : Requester} {pg : Fin 5120} {w : Word} (h : Quiet m r s) :
    Answers m r (execBlockResetReq req pg w s) := Quiet.next (h.onWrite (fun _ h₁ => h₁.writeCtrl))

theorem Quiet.sendAvs {mv : Nat} (h : Quiet m r s) : Quiet m r (s.sendAvs mv) := (h.same (by rfl)).emit

theorem Quiet.stepAvs (h : Quiet m r s) : Quiet m r (s.stepAvs) := by
  unfold State.stepAvs
  extract_lets x x₁ x₂
  exact Quiet.ite h (Quiet.ite h.sendAvs (Quiet.ite h.sendAvs h))

theorem answers_avsUpdate {need : Nat} (h : Quiet m r s) : Answers m r (execAvsUpdate need s) := by
  unfold execAvsUpdate
  refine Quiet.next ?_
  split
  · exact h
  · extract_lets x
    exact h.put.stepAvs

theorem answers_avsCommandDone {ok : Bool} (h : Quiet m r s) : Answers m r (execAvsCommandDone ok s) := by
  unfold execAvsCommandDone
  extract_lets x
  refine Quiet.next ?_
  split
  · exact h
  · exact Quiet.ite (h.same (by rfl)).put.stepAvs (Quiet.ite (h.same (by rfl)).emit (h.same (by rfl)).raise)

theorem Quiet.writeAvs {w : Nat} (h : Quiet m r s) : Quiet m r (s.writeAvs w) := by
  unfold State.writeAvs
  extract_lets x s₁
  have h₁ : Quiet m r s₁ := h.put.put
  exact Quiet.ite h₁.sendAvs h₁

theorem answers_refCheck {ok : Bool} (h : Quiet m r s) : Answers m r (execRefCheck ok s) := by
  unfold execRefCheck
  refine Quiet.next ?_
  extract_lets x s₁ s₂
  have h₁ : Quiet m r s₂ := h.put.put.eventIf.cond
  exact Quiet.ite h₁ h₁.lower

theorem answers_refRange (h : Quiet m r s) : Answers m r (execRefRange s) := Quiet.next (Quiet.ite h.raise h)

theorem answers_pcieRefLost (h : Quiet m r s) : Answers m r (execPcieRefLost s) := h.put.raise.pllEffect.next

theorem answers_pcieRefReturn (h : Quiet m r s) : Answers m r (execPcieRefReturn s) := h.put.lower.trainPort.trainPort.next

theorem answers_pllUnlock {i : Fin 8} (h : Quiet m r s) : Answers m r (execPllUnlock i s) := h.pllLost.next

theorem answers_pllRelock {i : Fin 8} (h : Quiet m r s) : Answers m r (execPllRelock i s) := by
  unfold execPllRelock
  refine Quiet.next ?_
  split
  · exact h
  · extract_lets s₁
    have h₁ : Quiet m r s₁ := h.putPll.judgePll
    split
    · exact h₁.trainPort.trainPort
    · exact h₁.foldl fun _ _ h₂ => Quiet.ite h₂.txOn h₂
    · exact h₁

theorem Quiet.leaveReset (h : Quiet m r s) : Quiet m r (s.leaveReset) := by
  unfold State.leaveReset
  split
  · exact h
  · extract_lets x s₁ s₂ s₃ s₄ s₅
    have h₁ : Quiet m r s₂ := (h.same (by rfl)).put.put
    have h₂ : Quiet m r s₃ := h₁.cond
    have h₃ : Quiet m r s₄ := h₂.cond
    exact Quiet.pumpPower (Quiet.trainPort (Quiet.trainPort (Quiet.ite h₃.driveErr h₃)))

theorem Quiet.cleared (h : Quiet False r s) : Quiet False r s.cleared := by
  refine h.trans ⟨rfl, SMap.wf_filter _ _, fun _ _ => ?_, False.elim⟩
  exact SMap.wf_nil _

theorem answers_chipReset {fuseBad : Bool} (h : Quiet False r s) : Answers False r (execChipReset fuseBad s) := by
  unfold execChipReset
  refine Quiet.next ?_
  split
  · exact h
  · extract_lets x x₁ s₁ s₂
    have h₁ : Quiet False r s₂ := (h.same (by rfl)).recordCauses.cleared.countSat.put
    exact Quiet.leaveReset (Quiet.ite h₁.driveErr h₁)

theorem answers_porRelease {orderBad testMode fuseBad : Bool} (h : Quiet m r s) :
    Answers m r (execPorRelease orderBad testMode fuseBad s) := by
  unfold execPorRelease
  refine Quiet.next ?_
  split
  · exact h
  · extract_lets x s₁ s₂ s₃ s₄ s₅ s₆
    have h₁ : Quiet m r s₃ := (h.same (by rfl)).put.put.put
    exact Quiet.leaveReset (Quiet.put (Quiet.put (Quiet.put (Quiet.ite h₁.put h₁))))

theorem answers_supplyLoss {k : Fin 9} (h : Quiet False r s) : Answers False r (execSupplyLoss k s) := by
  have hreset : Quiet False r ({ State.reset with pending := s.pending, out := s.out, free := s.free } : State) :=
    h.trans ⟨rfl, fun _ => SMap.wf_nil _, fun _ _ => SMap.wf_nil _, False.elim⟩
  unfold execSupplyLoss
  refine Quiet.next ?_
  extract_lets w s₁ s₂
  split
  · exact hreset.put
  · exact Quiet.ite h.put (h.put.same (by rfl)).startReset.put.markRail

theorem answers_pinReset (h : Quiet m r s) : Answers m r (execPinReset s) := Quiet.next (Quiet.ite h (h.same (by rfl)).startReset)

theorem answers_resetNRise (h : Quiet m r s) : Answers m r (execResetNRise s) := by
  unfold execResetNRise
  refine Quiet.next ?_
  split
  · exact h
  · extract_lets x s₁
    have h₁ : Quiet m r s₁ := h.same (by rfl)
    exact Quiet.ite h₁.leaveReset h₁

theorem answers_softResetArm {req : Requester} (h : Quiet m r s) :
    Answers m r (execSoftResetArm req s) := Quiet.next (h.onWrite (fun _ h₁ => (h₁.same (by rfl))))

theorem answers_softResetGo {req : Requester} (h : Quiet m r s) : Answers m r (execSoftResetGo req s) := Quiet.next (h.onWrite (fun _ h₁ => by
    extract_lets x x₁ s₁
    have h₂ : Quiet m r s₁ := h₁.same (by rfl)
    exact Quiet.ite h₁.event (Quiet.ite h₂ h₂.startReset)))

/-! ## What the operations of Submit leave as it is -/

theorem Quiet.setPlanState {st : Nat} (h : Quiet m r s) : Quiet m r (s.setPlanState st) := Quiet.ite h h.put.owe

theorem Quiet.reportPlan {r₀ : Refuse} (h : Quiet m r s) : Quiet m r (s.reportPlan r₀) := by
  unfold State.reportPlan
  extract_lets s₁
  exact h.put.put.put.put

theorem Quiet.endSubmission {result : Nat × Nat × Nat} (h : Quiet m r s) : Quiet m r (s.endSubmission result) := by
  unfold State.endSubmission
  extract_lets s₁ x s₂
  have h₁ : Quiet m r s₁ := h.loadPlan.dropDevArm
  exact (h₁.same (by rfl)).setPlanState.pumpPower

theorem Quiet.refusePlan {r₀ : Refuse} (h : Quiet m r s) : Quiet m r (s.refusePlan r₀) := h.reportPlan.endSubmission

theorem Quiet.submitPlan {doc : List Byte} {x₀ : Option Refuse} (h : Quiet m r s) (e : s.submitPlan doc = (x₀, t)) : Quiet m r t := by
  have key : Quiet m r (s.submitPlan doc).2 := by
    unfold State.submitPlan
    split
    · extract_lets x
      exact h.reportPlan
    · exact (h.same (by rfl)).setPlanState
  rwa [e] at key

theorem Quiet.retryPower {l : List Nat} (h : Quiet m r s) : Quiet m r (s.retryPower l) := h.same (by rfl)

theorem Quiet.checkPlan (h : Quiet m r s) : Quiet m r (s.checkPlan) := by
  unfold State.checkPlan
  split
  · exact h
  · split
    · exact h.refusePlan
    · extract_lets s₁ x s₂
      have h₁ : Quiet m r s₁ := h.reportPlan
      have h₂ : Quiet m r s₂ := h₁.same (by rfl)
      exact h₂.setPlanState.retryPower.pumpPower

theorem Quiet.withdrawPlan {x₀ : Nat} (h : Quiet m r s) (e : s.withdrawPlan = (x₀, t)) : Quiet m r t := by
  have key : Quiet m r (s.withdrawPlan).2 := by
    unfold State.withdrawPlan
    split
    · exact h
    · split
      · exact h
      · exact h.endSubmission
    · exact h.endSubmission
  rwa [e] at key

theorem answers_domainAckTimeout {d : Fin 96} (h : Quiet m r s) : Answers m r (execDomainAckTimeout d s) := by
  unfold execDomainAckTimeout
  extract_lets x x₁ s₁ s₂ x₂
  have h₁ : Quiet m r s₂ := (h.same (by rfl)).report
  exact Quiet.next (Quiet.ite h (Quiet.ite h₁.refusePlan h₁.pumpPower))

theorem answers_planStaged (h : Quiet m r s) : Answers m r (execPlanStaged s) := by
  unfold execPlanStaged
  refine Quiet.next ?_
  split
  · exact h
  · split
    · exact h
    · split
      · exact h.refusePlan
      · extract_lets s₁ x x₁ s₂
        have h₁ : Quiet m r s₁ := h.loadPlan
        exact (h₁.same (by rfl)).judgeArm.setPlanState

/-! ## What the operations of Seawall leave as it is -/

theorem Quiet.putHalfState {h₀ st : Nat} (h : Quiet m r s) : Quiet m r (s.putHalfState h₀ st) := h.put

theorem Quiet.putHalfBit {f : Field} {h₀ : Nat} {b : Bool} (h : Quiet m r s) : Quiet m r (s.putHalfBit f h₀ b) := by
  unfold State.putHalfBit
  extract_lets x
  exact h.put

theorem Quiet.putActing {h₀ : Nat} {b : Bool} (h : Quiet m r s) : Quiet m r (s.putActing h₀ b) := by
  unfold State.putActing
  extract_lets s₁ x
  have h₁ : Quiet m r s₁ := h.putHalfBit
  exact h₁.same (by rfl)

theorem Quiet.judgeSeawall (h : Quiet m r s) : Quiet m r (s.judgeSeawall) := by
  unfold State.judgeSeawall
  extract_lets s₁ s₂
  have h₁ : Quiet m r s₁ := h.cond
  have h₂ : Quiet m r s₂ := h₁.cond
  exact h₂.cond.judgeBeacon

theorem Quiet.judgeDegraded {h₀ : Nat} (h : Quiet m r s) : Quiet m r (s.judgeDegraded h₀) := by
  unfold State.judgeDegraded
  extract_lets x x₁
  exact h.putHalfBit.eventIf.judgeSeawall

theorem Quiet.goodBeat {h₀ : Nat} {wire : Bool} (h : Quiet m r s) : Quiet m r (s.goodBeat h₀ wire) := by
  unfold State.goodBeat
  extract_lets x s₁
  exact (h.same (by rfl)).put.judgeDegraded

theorem answers_heartbeatWireEdge {h₀ : Fin 2} (h : Quiet m r s) : Answers m r (execHeartbeatWireEdge h₀ s) := h.goodBeat.next

theorem answers_heartbeatMailbox {h₀ : Fin 2} {index : Fin 256} {count : Fin 65536} (h : Quiet m r s) :
    Answers m r (execHeartbeatMailbox h₀ index count s) := by
  unfold execHeartbeatMailbox
  refine Quiet.next ?_
  split
  · exact h
  · extract_lets x x₁ s₁
    have h₁ : Quiet m r s₁ := h.same (by rfl)
    exact Quiet.ite h₁.goodBeat h₁

theorem answers_halfDegraded {h₀ : Fin 2} {wire : Bool} (h : Quiet m r s) : Answers m r (execHalfDegraded h₀ wire s) := by
  unfold execHalfDegraded
  refine Quiet.next ?_
  split
  · exact h
  · extract_lets s₁
    exact h.put.countSat.noteHalf.judgeDegraded

theorem Quiet.startSplits {h₀ : Nat} (h : Quiet m r s) : Quiet m r (s.startSplits h₀) := by
  unfold State.startSplits
  extract_lets s₁ x x₁ x₂ x₃
  have h₁ : Quiet m r s₁ := h.foldl fun _ _ h₁ => h₁.foldl fun _ _ h₂ => h₂.put
  clear_value s₁
  exact h₁.same (by rfl)

theorem Quiet.markDual (h : Quiet m r s) : Quiet m r (s.markDual) := by
  unfold State.markDual
  extract_lets x
  exact h.same (by rfl)

theorem Quiet.closeDual {old : Nat} (h : Quiet m r s) : Quiet m r (s.closeDual old) := Quiet.ite h h.putActing

theorem Quiet.switchTo {old new cause : Nat} {planned : Bool} (h : Quiet m r s) : Quiet m r (s.switchTo old new cause planned) := by
  unfold State.switchTo
  extract_lets s₁ x s₂ x₁ s₃ x₂ x₃ x₄ s₄ x₅ s₅ x₆ s₆ s₇ s₈ s₉ s₁₀ s₁₁ s₁₂
  have h₁ : Quiet m r s₁ := h.putHalfState
  have h₂ : Quiet m r s₂ := Quiet.ite h₁.putHalfState (h₁.same (by rfl))
  have h₃ : Quiet m r s₃ := Quiet.ite h₂ (h₂.same (by rfl))
  have h₄ : Quiet m r s₄ := h₃.putActing.startSplits
  clear_value s₄
  have h₅ : Quiet m r s₅ := h₄.same (by rfl)
  clear_value s₅
  have h₈ : Quiet m r s₈ := h₅.put.put.put.put.put.put
  clear_value s₈
  exact h₈.put.countSat.eventIf.event.put.eventIf.markDual.closeDual.judgeSeawall

theorem answers_dualActEnd {x : Fin 160} (h : Quiet m r s) : Answers m r (execDualActEnd x s) := by
  unfold execDualActEnd
  refine Quiet.next ?_
  split
  · exact h
  · extract_lets x₁ x₂ s₁ s₂ s₃
    have h₁ : Quiet m r s₁ := h.same (by rfl)
    have h₂ : Quiet m r s₂ := Quiet.ite h₁ h₁.putActing
    exact Quiet.ite h₁ h₂.put.put.event

theorem Quiet.dropSwitch {reject : Bool} (h : Quiet m r s) : Quiet m r (s.dropSwitch reject) := by
  unfold State.dropSwitch
  split
  · exact h
  · extract_lets s₁ x
    have h₁ : Quiet m r s₁ := h.put.eventIf
    exact h₁.same (by rfl)

theorem Quiet.coresFail {h₀ : Nat} (h : Quiet m r s) : Quiet m r (s.coresFail h₀) := h.loseSteps.beaconDropLp.beaconDropLp

theorem Quiet.dropSelfChecks {h₀ : Nat} (h : Quiet m r s) : Quiet m r (s.dropSelfChecks h₀) := h.same (by rfl)

theorem Quiet.actNone (h : Quiet m r s) : Quiet m r (s.actNone) := by
  unfold State.actNone
  extract_lets s₁ s₂ x
  have h₁ : Quiet m r s₁ := h.putActing.putActing
  have h₂ : Quiet m r s₂ := Quiet.ite h₁.put.event h₁
  exact h₂.same (by rfl)

theorem Quiet.failHalf {h₀ cause : Nat} (h : Quiet m r s) : Quiet m r (s.failHalf h₀ cause) := by
  unfold State.failHalf
  split
  · exact h
  · extract_lets x s₁ s₂ x₁ s₃ s₄ s₅ s₆
    have h₁ : Quiet m r s₁ := h.putHalfState.event
    have h₂ : Quiet m r s₂ := Quiet.ite h₁ h₁.put
    have h₃ : Quiet m r s₅ := (h₂.same (by rfl)).judgeDegraded.dropSwitch.cutHalf.coresFail.portFails.dropSelfChecks
    exact Quiet.judgeSeawall (Quiet.ite h₃ (Quiet.ite h₃.switchTo h₃.actNone))

theorem answers_heartbeatFailure {h₀ : Fin 2} (h : Quiet m r s) : Answers m r (execHeartbeatFailure h₀ s) := Quiet.next (Quiet.ite h h.failHalf)

theorem answers_halfFailure {h₀ : Fin 2} (h : Quiet m r s) : Answers m r (execHalfFailure h₀ s) := by
  unfold execHalfFailure
  refine Quiet.next ?_
  split
  · exact h
  · extract_lets s₁
    have h₁ : Quiet m r s₁ := h.same (by rfl)
    exact Quiet.ite h₁.failHalf h₁

theorem Quiet.startBist {h₀ : Nat} (h : Quiet m r s) : Quiet m r (s.startBist h₀) := by
  unfold State.startBist
  split
  · exact h
  · split
    · exact h
    · extract_lets s₁ x
      have h₁ : Quiet m r s₁ := Quiet.ite h h.put.put
      exact h₁.same (by rfl)

theorem Quiet.stepBist {h₀ : Nat} (h : Quiet m r s) : Quiet m r (s.stepBist h₀) := by
  unfold State.stepBist
  extract_lets x x₁ s₁ x₂
  have h₁ : Quiet m r s₁ := h.put
  split
  · exact h.put
  · split
    · exact h₁.put
    · exact h₁.put.countWrap

theorem answers_bistSliceDone {h₀ : Fin 2} {good : Bool} (h : Quiet m r s) : Answers m r (execBistSliceDone h₀ good s) := by
  unfold execBistSliceDone
  refine Quiet.next ?_
  split
  · exact h
  · extract_lets x s₁ s₂
    have h₁ : Quiet m r s₂ := (h.same (by rfl)).countWrap.stepBist
    exact Quiet.ite h₁ h₁.noteHalf.selfCheck

theorem Quiet.march {h₀ corr : Nat} {bad : Bool} (h : Quiet m r s) : Quiet m r (s.march h₀ corr bad) := by
  unfold State.march
  split
  · exact h
  · extract_lets s₁ s₂ x s₃
    have h₁ : Quiet m r s₂ := h.countWrap.countSat
    have h₂ : Quiet m r s₃ := Quiet.ite h₁.countWrap h₁
    exact Quiet.ite h₂.noteHalf.selfCheck h₂

theorem Quiet.reportHalf {h₀ tide : Nat} (h : Quiet m r s) : Quiet m r (s.reportHalf h₀ tide) := by
  unfold State.reportHalf
  extract_lets x x₁ x₂ x₃ x₄ x₅ s₁ s₂ s₃
  exact Quiet.noteHalf (Quiet.putHalfBit (Quiet.put (Quiet.put (h.foldl fun _ _ h₁ => h₁.put))))

theorem Quiet.recover {h₀ : Nat} (h : Quiet m r s) : Quiet m r (s.recover h₀) := by
  unfold State.recover
  split
  · exact h
  · split
    · exact h.put
    · extract_lets x s₁ s₂
      have h₁ : Quiet m r s₁ := h.put
      have h₂ : Quiet m r s₂ := h₁.event
      exact Quiet.ite h₁ (Quiet.ite h₂.switchTo h₂.putHalfState.judgeSeawall)

theorem Quiet.publishReports {tide : Nat} (h : Quiet m r s) : Quiet m r (s.publishReports tide) := by
  unfold State.publishReports
  extract_lets s₁ x
  have h₁ : Quiet m r s₁ := h.reportHalf.reportHalf
  exact h₁.cond.recover.recover

theorem answers_healthReportTimer (h : Quiet m r s) : Answers m r (execHealthReportTimer s) := Quiet.next (Quiet.ite h h.publishReports)

theorem Quiet.startRepair {h₀ : Nat} (h : Quiet m r s) : Quiet m r (s.startRepair h₀) := by
  unfold State.startRepair
  extract_lets s₁ x s₂ x₁ s₃
  have h₁ : Quiet m r s₁ := h.put
  have h₂ : Quiet m r s₃ := (h₁.same (by rfl)).foldl fun _ _ h₂ => h₂.clearDrops
  clear_value s₃
  exact h₂.foldl fun _ _ h₃ => h₃.blockReset

theorem Quiet.writeSwCmd {w : Nat} (h : Quiet m r s) : Quiet m r (s.writeSwCmd w) := by
  unfold State.writeSwCmd
  extract_lets x s₁ s₂ x₁
  have h₁ : Quiet m r s₁ := Quiet.ite (Quiet.ite h (Quiet.ite h.startRepair h.event)) h
  have h₂ : Quiet m r s₂ := Quiet.ite (Quiet.ite h₁ (Quiet.ite h₁.startRepair h₁.event)) h₁
  exact Quiet.ite h₂ (Quiet.ite h₂.put h₂.event)

theorem answers_halfRepair {req : Requester} {h₀ : Fin 2} {w : Word} (h : Quiet m r s) :
    Answers m r (execHalfRepair req h₀ w s) := Quiet.next (h.onWrite (fun _ h₁ => h₁.writeSwCmd))

theorem answers_repairDone {h₀ : Fin 2} (h : Quiet m r s) : Answers m r (execRepairDone h₀ s) := by
  unfold execRepairDone
  refine Quiet.next ?_
  split
  · exact h
  · extract_lets x s₁ s₂ s₃ s₄
    have h₁ : Quiet m r s₃ := (h.same (by rfl)).put.put
    exact Quiet.pumpPower (Quiet.judgeDegraded (Quiet.ite h₁.putHalfState h₁.putHalfState.putActing))

theorem answers_switchRequest {req : Requester} {w : Word} (h : Quiet m r s) :
    Answers m r (execSwitchRequest req w s) := Quiet.next (h.onWrite (fun _ h₁ => h₁.writeSwCmd))

theorem answers_switchApply (h : Quiet m r s) : Answers m r (execSwitchApply s) := by
  unfold execSwitchApply
  refine Quiet.next ?_
  split
  · exact h
  · split
    · exact h.dropSwitch
    · exact h.dropSwitch.switchTo

/-! ## What the operations of Cores leave as it is -/

theorem Quiet.coreXlate {h₀ cls ba : Nat} {write host : Bool} {v : MemView} {x₀ : Except StepEnd (Bool × Nat)} (h : Quiet m r s)
    (e : s.coreXlate h₀ cls ba write host v = (x₀, t)) : Quiet m r t := by
  have key : Quiet m r (s.coreXlate h₀ cls ba write host v).2 := by
    unfold State.coreXlate
    split
    · rename_i heq
      have h₁ := h.translateFor heq
      split
      · exact h₁
      · split
        · rename_i heq₁
          have h₂ := h₁.fresh heq₁
          split
          · rename_i heq₂
            have h₃ := h₂.fresh heq₂
            extract_lets s₁
            exact h₃.xlateFault
  rwa [e] at key

theorem Quiet.checkLines {h₀ pa n : Nat} {v : MemView} {x₀ : Bool} (h : Quiet m r s)
    (e : s.checkLines h₀ pa n v = (x₀, t)) : Quiet m r t := by
  have key : Quiet m r (s.checkLines h₀ pa n v).2 := by
    unfold State.checkLines
    extract_lets x x₁
    exact h.foldl fun _ _ h₁ => h₁.eccApply
  rwa [e] at key

theorem Quiet.corePiece {k ba n cls : Nat} {v w : MemView} {x : Except StepEnd (List Byte)} (h : Quiet m r s)
    (e : s.corePiece k ba n cls v = (x, w, t)) : Quiet m r t := by
  have key : Quiet m r (s.corePiece k ba n cls v).2.2 := by
    unfold State.corePiece
    split
    rename_i y s₁ hy
    have h₁ : Quiet m r s₁ := h.coreXlate hy
    split
    · exact h₁
    · split
      · exact (h₁.emit.fresh rfl).fresh rfl
      · exact h₁.emit
    · extract_lets s₂
      split
      rename_i hbad
      have h₃ := Quiet.checkLines (s := s₂) h₁.charge hbad
      split
      · exact h₃
      · exact h₃
  rwa [e] at key

theorem Quiet.coreRead {k ba n cls : Nat} {v w : MemView} {x : Except StepEnd (List Byte)} (h : Quiet m r s)
    (e : s.coreRead k ba n cls v = (x, w, t)) : Quiet m r t := by
  have key : Quiet m r (s.coreRead k ba n cls v).2.2 := by
    unfold State.coreRead
    refine h.foldl_snd_snd fun a g h => ?_
    split
    · exact h
    · split
      · rename_i hx
        exact h.corePiece hx
      · rename_i hx
        exact h.corePiece hx
  rwa [e] at key

theorem Quiet.coreWrite {k ba : Nat} {bytes : List Byte} {host : Bool} {x : Option StepEnd} (h : Quiet False r s)
    (e : s.coreWrite k ba bytes host = (x, t)) : Quiet False r t := by
  have key : Quiet False r (s.coreWrite k ba bytes host).2 := by
    unfold State.coreWrite
    refine h.foldl_snd fun a g h => ?_
    split
    · exact h
    · extract_lets b
      split
      · rename_i hx
        exact h.coreXlate hx
      · rename_i hx
        exact (h.coreXlate hx).hostWriteBurst
      · rename_i hx
        exact (h.coreXlate hx).memWrite
  rwa [e] at key

theorem Quiet.roleOf {k : Nat} (h : Quiet m r s) : Quiet m r (s.roleOf k) := h.put

theorem Quiet.startFirmware {k : Nat} (h : Quiet m r s) : Quiet m r (s.startFirmware k) := by
  unfold State.startFirmware
  extract_lets x
  exact (h.same (by rfl)).roleOf

theorem answers_lockstepMismatch {k : Fin 4} (h : Quiet m r s) :
    Answers m r (execLockstepMismatch k s) := Quiet.next (Quiet.ite h h.countSat.report.selfCheck)

theorem answers_pairRebootDone {k : Fin 4} (h : Quiet m r s) : Answers m r (execPairRebootDone k s) := by
  unfold execPairRebootDone
  extract_lets x
  exact Quiet.next (Quiet.ite h h.lower.lower.lower.startFirmware)

theorem answers_coreWatchdog {k : Fin 4} (h : Quiet m r s) : Answers m r (execCoreWatchdog k s) := Quiet.next (Quiet.ite h.report h)

theorem Quiet.modEntry {count : Nat} {g : RingEntry → RingEntry} (h : Quiet m r s) : Quiet m r (s.modEntry count g) := h.same (by rfl)

theorem Quiet.known {a : Option Nat} {x₀ : Nat} (h : Quiet m r s) (e : s.known a = (x₀, t)) : Quiet m r t := by
  have key : Quiet m r (s.known a).2 := by
    unfold State.known
    split
    · exact h
    · exact h.fresh rfl
  rwa [e] at key

theorem Quiet.writeRecord {k : Nat} {c : Completion} (h : Quiet False r s) : Quiet False r (s.writeRecord k c) := by
  obtain ⟨write, hwrite⟩ : ∃ f, f = State.coreWrite := ⟨_, rfl⟩
  have hw : ∀ a b c d, Quiet False r (write s a b c d).2 := fun a b c d => hwrite ▸ h.coreWrite rfl
  unfold State.writeRecord
  rw [← hwrite]
  refine Quiet.ite h ?_
  extract_lets n s₁ x s₂ s₃
  have h₃ : Quiet False r s₃ := ((hw _ _ _ _).same (by rfl)).countWrap
  exact Quiet.ite h₃.fireSource h₃

theorem Quiet.drain (h : Quiet False r s) : Quiet False r (s.drain) := by
  unfold State.drain
  split
  · exact h
  · extract_lets s₁
    have h₁ : Quiet False r s₁ := h.foldl fun _ _ h₁ => h₁.writeRecord
    clear_value s₁
    exact Quiet.ite (h₁.foldl fun _ _ h₂ => h₂.lower) h₁

theorem Quiet.endLearn {e₀ : RingEntry} (h : Quiet m r s) : Quiet m r (s.endLearn e₀) := by
  unfold State.endLearn
  extract_lets x x₁ x₂
  split
  · exact h.putCoveCtx
  · exact h
  · exact h
  · exact h
  · exact h
  · exact h

theorem Quiet.endEntry {e₀ : RingEntry} {x : StepEnd} (h : Quiet False r s) : Quiet False r (s.endEntry e₀ x) := by
  unfold State.endEntry
  split
  · rename_i heq
    have h₁ := h.endLearn.known heq
    split
    · rename_i heq₁
      have h₂ := h₁.known heq₁
      extract_lets x₁ x₂ x₃
      exact (h₂.same (by rfl)).drain

theorem answers_cmdDoorbell {k : Fin 4} {req : Requester} {w : Word} (h : Quiet m r s) :
    Answers m r (execCmdDoorbell k req w s) := Quiet.next (h.onWrite (fun _ h₁ => by
    extract_lets x x₁ x₂ x₃ x₄ s₁ s₂
    exact Quiet.ite h₁.event (h₁.same (by rfl)).put.put.owe))

theorem answers_cplHeadWrite {k : Fin 4} {req : Requester} {w : Word} (h : Quiet False r s) :
    Answers False r (execCplHeadWrite k req w s) := Quiet.next (h.onWrite (fun _ h₁ => Quiet.ite h₁.event h₁.put.drain))

theorem answers_cplFullTimeout (h : Quiet m r s) : Answers m r (execCplFullTimeout s) := by
  unfold execCplFullTimeout
  refine Quiet.next ?_
  split
  · exact h
  · exact Quiet.ite h h.report

theorem Quiet.writeRingCfg {k off w : Nat} (h : Quiet m r s) : Quiet m r (s.writeRingCfg k off w) := by
  unfold State.writeRingCfg
  extract_lets s₁ x x₁ x₂ x₃ s₂ x₄
  have h₁ : Quiet m r s₁ := h.event
  have h₂ : Quiet m r s₂ := h.put.put
  split
  · exact Quiet.ite h₁ h.put
  · exact Quiet.ite h₁ h.put
  · exact Quiet.ite h₁ h.put
  · exact Quiet.ite h₁ h.put
  · exact Quiet.ite h₁ (Quiet.ite (h₂.same (by rfl)).put h₂)
  · exact h

theorem Quiet.fetchEntry {k : Nat} {x : RingEntry} {v w : MemView} (h : Quiet False r s) (e : s.fetchEntry k x v = (w, t)) : Quiet False r t := by
  obtain ⟨read, hread⟩ : ∃ f, f = State.coreRead := ⟨_, rfl⟩
  obtain ⟨fetch, hfetch⟩ : ∃ f, f = State.fetchEntry := ⟨_, rfl⟩
  rw [← hfetch] at e
  delta State.fetchEntry at hfetch
  rw [← hread] at hfetch
  have key : Quiet False r (fetch s k x v).2 := by
    rw [hfetch]
    beta_reduce
    rcases hy : read s (k / 2) (s.cmdBase + 64 * x.index) 64 4 v with ⟨y, u, s₁⟩
    have h₁ : Quiet False r s₁ := h.coreRead (hread ▸ hy)
    dsimp only
    split
    · exact h₁.put.modEntry.report.endEntry
    · split
      · exact h₁.put.modEntry.lower
      · exact h₁.put.modEntry.lower.endEntry
  rwa [e] at key

theorem Quiet.fetchAll {k n : Nat} {v w : MemView} (h : Quiet False r s) (e : s.fetchAll k v n = (w, t)) : Quiet False r t := by
  obtain ⟨fetch, hfetch⟩ : ∃ f, f = State.fetchEntry := ⟨_, rfl⟩
  have key : Quiet False r (s.fetchAll k v n).2 := by
    clear e
    delta State.fetchAll State.fetchAll._f
    rw [← hfetch]
    induction n generalizing s v with
    | zero => exact h
    | succ n ih =>
      unfold Nat.brecOn
      dsimp only
      generalize s.nextFetch = next
      cases next with
      | none => exact h
      | some x =>
        rcases hx : fetch s k x v with ⟨u, s₁⟩
        dsimp only
        rw [hx]
        exact ih (h.fetchEntry (hfetch ▸ hx))
  rwa [e] at key

theorem Quiet.settle (h : Quiet False r s) : Quiet False r (s.settle) := by
  unfold State.settle
  split
  · exact h
  · extract_lets x s₁
    have h₁ : Quiet False r s₁ := h.same (by rfl)
    split
    · exact h₁
    · exact h₁.endEntry

theorem Quiet.dropLost (h : Quiet False r s) : Quiet False r (s.dropLost) := by
  unfold State.dropLost
  refine Quiet.foldl (h) fun _ _ h₁ => ?_
  split
  · exact h₁
  · split
    · exact h₁
    · extract_lets s₁ x s₂
      have h₂ : Quiet False r s₁ := h₁.withdrawPlan rfl
      exact Quiet.endEntry (Quiet.ite (h₂.same (by rfl)) h₁)

theorem Quiet.loadStep {e₀ : RingEntry} {done : Nat} {v : MemView} {x₀ : StepResult} (h : Quiet False r s)
    (e : s.loadStep e₀ done v = (x₀, t)) : Quiet False r t := by
  have key : Quiet False r (s.loadStep e₀ done v).2 := by
    unfold State.loadStep
    extract_lets x
    split
    · rename_i heq
      have h₁ := h.coreRead heq
      split
      · exact h₁
      · split
        · rename_i heq₁
          have h₂ := h₁.coreWrite heq₁
          exact h₂
        · rename_i heq₁
          have h₂ := h₁.coreWrite heq₁
          exact h₂
  rwa [e] at key

theorem Quiet.copyStep {e₀ : RingEntry} {done : Nat} {handed : List (List Byte)} {x₀ : StepResult} (h : Quiet False r s)
    (e : s.copyStep e₀ done handed = (x₀, t)) : Quiet False r t := by
  have key : Quiet False r (s.copyStep e₀ done handed).2 := by
    unfold State.copyStep
    extract_lets x
    split
    · rename_i heq
      have h₁ := h.coreWrite heq
      exact h₁
    · rename_i heq
      have h₁ := h.coreWrite heq
      exact h₁
  rwa [e] at key

theorem Quiet.scrubStep {e₀ : RingEntry} {line corr unc : Nat} {v : MemView} {x₀ : StepResult} (h : Quiet m r s)
    (e : s.scrubStep e₀ line corr unc v = (x₀, t)) : Quiet m r t := by
  have key : Quiet m r (s.scrubStep e₀ line corr unc v).2 := by
    unfold State.scrubStep
    extract_lets x x₁ x₂ x₃ s₁ x₄ x₅
    have h₁ : Quiet m r s₁ := h.checkLines rfl
    exact h₁
  rwa [e] at key

theorem Quiet.checkStep {e₀ : RingEntry} {done crc : Nat} {v : MemView} {x₀ : StepResult} (h : Quiet m r s)
    (e : s.checkStep e₀ done crc v = (x₀, t)) : Quiet m r t := by
  have key : Quiet m r (s.checkStep e₀ done crc v).2 := by
    unfold State.checkStep
    extract_lets x x₁
    split
    · rename_i heq
      have h₁ := h.coreRead heq
      split
      · exact h₁
      · extract_lets x₂ x₃ x₄
        split
        · exact h₁
        · exact h₁
  rwa [e] at key

theorem Quiet.learnStep {e₀ : RingEntry} {at_ : Option (Nat × Nat)} {v : MemView} {x₀ : StepResult} (h : Quiet False r s)
    (e : s.learnStep e₀ at_ v = (x₀, t)) : Quiet False r t := by
  have key : Quiet False r (s.learnStep e₀ at_ v).2 := by
    unfold State.learnStep
    extract_lets x x₁ x₂ x₃ x₄ x₅
    split
    · exact h
    · extract_lets x₆
      split
      · rename_i heq
        have h₁ := h.coreRead heq
        split
        · rename_i heq₁
          have h₂ := h₁.coreRead heq₁
          split
          · exact h₂
          · exact h₂
          · extract_lets x₇
            split
            · split
              · rename_i heq₂
                have h₃ := h₂.coreWrite heq₂
                exact h₃
              · rename_i heq₂
                have h₃ := h₂.coreWrite heq₂
                exact h₃
  rwa [e] at key

theorem Quiet.runStep {e : RingEntry} {k : Nat} {v : MemView} {x : StepResult} (h : Quiet False r s) (hx : s.runStep e k v = (x, t)) :
    Quiet False r t := by
  unfold State.runStep at hx
  split at hx
  · exact (Prod.mk.inj hx).2 ▸ h
  · exact (Prod.mk.inj hx).2 ▸ h.checkPlan
  · split at hx
    · exact h.loadStep hx
    · exact h.copyStep hx
  · exact h.learnStep hx
  · exact h.scrubStep hx
  · exact h.checkStep hx

theorem Quiet.finishLoad {e₀ : RingEntry} (h : Quiet False r s) : Quiet False r (s.finishLoad e₀) := by
  unfold State.finishLoad
  split
  · split
    · exact h
    · extract_lets x
      exact h.endEntry
  · exact h
  · exact h
  · exact h
  · exact h
  · exact h

theorem Quiet.applyWork {e₀ : RingEntry} {r₀ : StepResult} (h : Quiet False r s) : Quiet False r (s.applyWork e₀ r₀) := by
  unfold State.applyWork
  extract_lets x
  split
  · extract_lets x₁
    exact h.modEntry.finishLoad
  · extract_lets x₁
    exact h.modEntry.finishLoad
  · exact h.modEntry
  · exact h.modEntry.endEntry
  · exact h.modEntry

theorem Quiet.stepNear {e₀ : RingEntry} {h₀ : Nat} {v : MemView} (h : Quiet False r s) : Quiet False r (s.stepNear e₀ h₀ v) := by
  unfold State.stepNear
  extract_lets x
  split
  · rename_i heq
    have h₁ := h.modEntry.runStep heq
    exact h₁.applyWork.settle

theorem Quiet.stepFar {k : Nat} {v : MemView} (h : Quiet False r s) : Quiet False r (s.stepFar k v) := by
  unfold State.stepFar
  split
  · exact h
  · split
    · rename_i heq
      have h₁ := h.runStep heq
      extract_lets s₁ x
      have h₂ : Quiet False r s₁ := h₁.modEntry
      exact h₂.same (by rfl)

theorem Quiet.addSensors {l : List SensorEntry} (h : Quiet m r s) : Quiet m r (s.addSensors l) := h.foldl fun _ _ h₁ => h₁.putWindow

theorem Quiet.submitAt {h₀ doc : Nat} {v : MemView} {x₀ : Option StepEnd} (h : Quiet m r s)
    (e : s.submitAt h₀ doc v = (x₀, t)) : Quiet m r t := by
  have key : Quiet m r (s.submitAt h₀ doc v).2 := by
    unfold State.submitAt
    split
    · rename_i heq
      have h₁ := h.coreRead heq
      split
      · exact h₁
      · extract_lets x
        split
        · rename_i heq₁
          have h₂ := h₁.coreRead heq₁
          split
          · exact h₂
          · split
            · rename_i heq₂
              have h₃ := h₂.submitPlan heq₂
              exact h₃
  rwa [e] at key

theorem Quiet.wakeWork {k : Nat} {v : MemView} (h : Quiet m r s) : Quiet m r (s.wakeWork k v) := by
  unfold State.wakeWork
  extract_lets j p s₁ ba s₂
  refine Quiet.ite ?_ (Quiet.ite ((h.same (t := s₂) (by rfl)).submitAt Prod.mk.eta.symm) (Quiet.ite h.put.writeTogEn h))
  have h₁ : Quiet m r s₁ := h.same (by rfl)
  split
  · rename_i hx
    exact (h₁.coreRead hx).addSensors
  · rename_i hx
    exact h₁.coreRead hx

theorem Quiet.serveRing {k : Nat} {v : MemView} (h : Quiet False r s) : Quiet False r (s.serveRing k v) := by
  unfold State.serveRing
  extract_lets s₁
  split
  · rename_i heq
    have h₁ := h.dropLost.settle.drain.fetchAll heq
    split
    · exact h₁
    · extract_lets x
      split
      · exact h₁.checkPlan.settle
      · split
        · exact h₁
        · exact h₁.stepNear

theorem answers_fwStepBoundary {k : Fin 4} {ns : Nat} {v : MemView} (h : Quiet False r s) : Answers False r (execFwStepBoundary k ns v s) := by
  unfold execFwStepBoundary
  refine Quiet.next ?_
  split
  · exact h
  · extract_lets s₁ x
    have h₁ : Quiet False r s₁ := h.roleOf.putMax
    exact Quiet.ite h₁.wakeWork (Quiet.ite h₁.serveRing (Quiet.ite h₁.stepFar h₁))

theorem answers_stepReport (h : Quiet False r s) : Answers False r (execStepReport s) := by
  unfold execStepReport
  refine Quiet.next ?_
  split
  · extract_lets x s₁ x₁
    have h₁ : Quiet False r s₁ := h.same (by rfl)
    split
    · exact h₁.countSat.event
    · exact h₁.applyWork
  · exact h

theorem Quiet.startEntry {k : Nat} {e₀ : RingEntry} (h : Quiet m r s) : Quiet m r (s.startEntry k e₀) := h.modEntry.putMax

theorem Quiet.onStart {i op : Nat} {f : State → Nat → RingEntry → State} (h : Quiet m r s) (hf : ∀ (a : State) (a_1 : Nat) (a_2 : RingEntry), Quiet m r a → Quiet m r (f a a_1 a_2)) :
    Quiet m r (s.onStart i op f) := by
  unfold State.onStart
  split
  · exact Quiet.ite h (hf _ _ _ h.startEntry)
  · exact h

theorem Quiet.beginWork {e₀ : RingEntry} {serving half : Nat} {w : LongWork} {v : MemView} (h : Quiet False r s) :
    Quiet False r (s.beginWork e₀ serving half w v) := by
  unfold State.beginWork
  extract_lets x s₁
  have h₁ : Quiet False r s₁ := h.modEntry
  exact Quiet.ite h₁.stepNear h₁

theorem answers_nop {i : Fin 256} (h : Quiet False r s) : Answers False r (execNop i s) := Quiet.next (h.onStart (fun _ _ _ h₁ => h₁.endEntry))

theorem answers_planSubmit {i : Fin 256} {v : MemView} (h : Quiet False r s) :
    Answers False r (execPlanSubmit i v s) := Quiet.next (h.onStart (fun _ _ _ h₁ => by
    extract_lets x
    split
    · exact h₁.endEntry
    · split
      · rename_i heq
        have h₂ := h₁.submitAt heq
        exact h₂.endEntry
      · rename_i heq
        have h₂ := h₁.submitAt heq
        exact h₂.modEntry))

theorem answers_planWithdraw {i : Fin 256} (h : Quiet False r s) : Answers False r (execPlanWithdraw i s) := Quiet.next (h.onStart (fun _ _ _ h₁ => by
    split
    · rename_i heq
      have h₂ := h₁.withdrawPlan heq
      exact h₂.settle.endEntry))

theorem answers_tableLoad {i : Fin 256} {v : MemView} (h : Quiet False r s) :
    Answers False r (execTableLoad i v s) := Quiet.next (h.onStart (fun _ _ _ h₁ => by
    extract_lets x x₁
    clear_value x₁
    split
    · exact h₁.endEntry
    · exact Quiet.ite h₁.endEntry h₁.beginWork))

theorem answers_defectLearn {i : Fin 256} {v : MemView} (h : Quiet False r s) :
    Answers False r (execDefectLearn i v s) := Quiet.next (h.onStart (fun _ _ _ h₁ => by
    extract_lets x x₁ x₂ x₃ x₄ x₅
    clear_value x₅
    split
    · exact h₁.endEntry
    · exact Quiet.ite h₁.endEntry (Quiet.ite h₁.endEntry h₁.beginLearn.beginWork)))

theorem answers_scrubHalf {i : Fin 256} {v : MemView} (h : Quiet False r s) :
    Answers False r (execScrubHalf i v s) := Quiet.next (h.onStart (fun _ _ _ h₁ => by
    extract_lets x
    exact Quiet.ite h₁.endEntry (Quiet.ite h₁.endEntry h₁.beginWork)))

theorem answers_checkBuffer {i : Fin 256} {v : MemView} (h : Quiet False r s) :
    Answers False r (execCheckBuffer i v s) := Quiet.next (h.onStart (fun _ _ _ h₁ => by
    extract_lets x
    clear_value x
    split
    · exact h₁.endEntry
    · exact h₁.beginWork))

theorem Quiet.cancelEntry {t₀ : RingEntry} (h : Quiet False r s) :
    Quiet False r (s.cancelEntry t₀) := Quiet.ite (Quiet.settle (h.withdrawPlan rfl)) h.endEntry

theorem answers_cancel {i : Fin 256} {v : MemView} (h : Quiet False r s) : Answers False r (execCancel i v s) := by
  obtain ⟨read, hread⟩ : ∃ f, f = State.coreRead := ⟨_, rfl⟩
  unfold execCancel
  rw [← hread]
  refine Quiet.next (h.onStart fun s k e h => ?_)
  extract_lets s₁ id target none_
  have h₁ : Quiet False r s₁ := h.settle
  split
  · exact h₁.endEntry
  · split
    rename_i u s₂ hu
    have h₂ : Quiet False r s₂ := by
      split at hu
      · exact (Prod.mk.inj hu).2 ▸ h₁
      · split at hu
        rename_i hx
        exact (Prod.mk.inj hu).2 ▸ h₁.coreRead (hread ▸ hx)
    exact Quiet.ite h₂.endEntry (Quiet.ite h₂.endEntry h₂.modEntry.cancelEntry.endEntry)

/-! ## What the operations of Loops leave as it is -/

theorem Quiet.judgeLoops (h : Quiet m r s) : Quiet m r (s.judgeLoops) := by
  unfold State.judgeLoops
  extract_lets x x₁
  exact h.foldl fun _ _ h₁ => Quiet.ite (Quiet.ite h₁.raise h₁) h₁.lower

theorem Quiet.modLoop {x kind : Nat} {g : LoopSt → LoopSt} (h : Quiet m r s) : Quiet m r (s.modLoop x kind g) := h.same (by rfl)

theorem Quiet.stopLoop {l : LoopSt} {contexts : List (Nat × Nat)} (h : Quiet m r s) : Quiet m r (s.stopLoop l contexts) := by
  unfold State.stopLoop
  extract_lets x s₁ s₂ s₃ s₄
  have h₁ : Quiet m r s₂ := by
    simp only [s₂]
    refine Quiet.foldl (h.same (by rfl)) fun _ _ h₂ => ?_
    extract_lets
    exact Quiet.ite h₂.put h₂
  have h₂ : Quiet m r s₃ := Quiet.put (Quiet.ite h₁.dropArm h₁)
  have h₃ : Quiet m r s₄ := Quiet.ite h₂.put h₂
  exact Quiet.ite h₃ h₃.put.judgeLoops

theorem answers_loopCtrl {i : Fin 256} {v : MemView} (h : Quiet False r s) :
    Answers False r (execLoopCtrl i v s) := Quiet.next (h.onStart (fun _ _ _ h₁ => by
    extract_lets x x₁ x₂ x₃
    clear_value x₃
    split
    · exact h₁.endEntry
    · split
      · clear_value x₂
        split
        · exact h₁.endEntry
        · exact h₁.stopLoop.endEntry
      · split
        · rename_i heq
          have h₂ := h₁.coreRead heq
          split
          · exact h₂.report.endEntry
          · extract_lets s₁ x₄ x₅ x₆ x₇ s₂
            have h₃ : Quiet False r s₁ := h₂.lower
            exact Quiet.ite h₃.endEntry (h₃.same (by rfl)).put.endEntry))

theorem Quiet.fitCodes {n : Nat} {x₀ : Option ℤ} (h : Quiet m r s) (e : s.fitCodes n = (x₀, t)) : Quiet m r t := by
  have key : Quiet m r (s.fitCodes n).2 := by
    unfold State.fitCodes
    split
    · exact h
    · extract_lets x x₁
      split
      · split
        · rename_i heq
          have h₁ := h.fresh heq
          exact h₁
      · exact h
  rwa [e] at key

theorem Quiet.putMirror {n m₀ v : Nat} (h : Quiet m r s) : Quiet m r (s.putMirror n m₀ v) := by
  unfold State.putMirror
  extract_lets x
  exact Quiet.ite h.put.put h

theorem Quiet.armLoop {l : LoopSt} {contexts : List (Nat × Nat)} (h : Quiet m r s) :
    Quiet m r (s.armLoop l contexts) := Quiet.armGroup (h.foldl fun _ _ h₁ => h₁.writeCommit)

theorem Quiet.runExposure {l : LoopSt} {m₀ : Nat} {contexts : List (Nat × Nat)} (h : Quiet m r s) : Quiet m r (s.runExposure l m₀ contexts) := by
  unfold State.runExposure
  extract_lets x
  split
  · rename_i heq
    have h₁ := h.fitCodes heq
    extract_lets x₁
    split
    · rename_i heq₁
      have h₂ := h₁.known heq₁
      extract_lets s₁ x₂ s₂
      exact Quiet.modLoop (h₂.putMirror.putMirror.put.foldl fun _ _ h₃ => h₃.putFit)

theorem Quiet.runWhite {l : LoopSt} {means : List Nat} {tap : Bool} {c : List (Nat × Nat)} (h : Quiet m r s) : Quiet m r (s.runWhite l means tap c) :=
  by
  unfold State.runWhite
  split
  · exact h
  · extract_lets red blue g2 gain
    have hgain : ∀ s k, Quiet m r s → Quiet m r (gain s k).2 := by
      intro s k h
      simp only [gain]
      split
      · exact h
      · split
        · exact h.same (by rfl)
        · exact h
    refine h.foldl fun s k h => ?_
    exact (hgain s k h).foldl fun _ _ h => h.put

theorem Quiet.skipFrame {l : LoopSt} {late : Bool} (h : Quiet m r s) : Quiet m r (s.skipFrame l late) := by
  unfold State.skipFrame
  extract_lets s₁
  have h₁ : Quiet m r s₁ := h.modLoop
  exact Quiet.judgeLoops (Quiet.ite h₁ h₁.loopLate)

theorem answers_loopUpdate {x : Fin 160} {kind : Fin 2} {v : MemView} (h : Quiet m r s) : Answers m r (execLoopUpdate x kind v s) := by
  obtain ⟨read, hread⟩ : ∃ f, f = State.coreRead := ⟨_, rfl⟩
  unfold execLoopUpdate
  rw [← hread]
  refine Quiet.next ?_
  split
  · split
    · extract_lets k seq c pg slots
      split
      rename_i s₁ ha
      have h₁ : Quiet m r s₁ := h.coreRead (hread ▸ ha)
      split
      rename_i s₂ hb
      have h₂ : Quiet m r s₂ := h₁.coreRead (hread ▸ hb)
      split
      · extract_lets flags means mean contexts s₃
        exact Quiet.ite h₂.skipFrame (Quiet.ite h₂.runExposure h₂.runWhite).armLoop.modLoop
      · exact h₂.skipFrame
    · exact h
  · exact h

theorem Quiet.loopSlack {f t₀ : Nat} (h : Quiet m r s) : Quiet m r (s.loopSlack f t₀) := by
  unfold State.loopSlack
  extract_lets x
  refine Quiet.judgeLoops ?_
  refine Quiet.foldl (h) fun _ _ h₁ => ?_
  extract_lets s₁ s₂
  have h₂ : Quiet m r s₁ := h₁.modLoop.countWrap
  have h₃ : Quiet m r s₂ := by
    simp only [s₂]
    split
    · exact Quiet.ite h₁ (Quiet.ite h₂ h₂.put)
    · exact h₁
  split
  · exact Quiet.ite h₃ h₃.modLoop.loopLate
  · exact h₃

theorem Quiet.loopTide (h : Quiet m r s) : Quiet m r (s.loopTide) := by
  unfold State.loopTide
  extract_lets x x₁
  exact Quiet.ite (h.same (by rfl)) (Quiet.ite h (h.same (by rfl)))

theorem Quiet.loopPlan {old : Option Plan} (h : Quiet m r s) : Quiet m r (s.loopPlan old) := by
  unfold State.loopPlan
  refine Quiet.foldl (h) fun _ _ h₁ => ?_
  extract_lets x
  exact h₁.stopLoop

theorem answers_linkPolicy {i : Fin 256} (h : Quiet False r s) : Answers False r (execLinkPolicy i s) := Quiet.next (h.onStart (fun _ _ _ h₁ => by
    extract_lets x x₁
    refine Quiet.endEntry ?_
    refine Quiet.foldl (h₁) fun _ _ h₂ => ?_
    extract_lets
    exact (h₂.same (by rfl))))

theorem answers_linkPolicyRestore {n : Fin 32} (h : Quiet m r s) : Answers m r (execLinkPolicyRestore n s) := by
  unfold execLinkPolicyRestore
  refine Quiet.next ?_
  extract_lets x x₁
  exact Quiet.ite h h.put

theorem answers_failoverPolicy {i : Fin 256} (h : Quiet False r s) :
    Answers False r (execFailoverPolicy i s) := Quiet.next (h.onStart (fun _ _ _ h₁ => by
    split
    · exact h₁.endEntry
    · extract_lets x x₁
      exact (h₁.same (by rfl)).endEntry))

theorem answers_autoRepair {h₀ : Fin 2} (h : Quiet m r s) : Answers m r (execAutoRepair h₀ s) := by
  unfold execAutoRepair
  refine Quiet.next ?_
  split
  · exact h
  · extract_lets x x₁
    exact Quiet.ite h (Quiet.ite h.put (h.same (by rfl)).startRepair)

/-! ## What the operations of Sleep leave as it is -/

theorem Quiet.writePmCtrl {w : Nat} (h : Quiet m r s) : Quiet m r (s.writePmCtrl w) := by
  unfold State.writePmCtrl
  extract_lets s₁ s₂ s₃ x
  have h₁ : Quiet m r s₁ := h.writeFields
  have h₂ : Quiet m r s₃ := Quiet.put (Quiet.put (Quiet.ite h₁ (h₁.withdrawPlan rfl)))
  exact Quiet.ite h₁ (h₂.same (by rfl))

theorem answers_sleepGo {req : Requester} {w : Word} (h : Quiet m r s) :
    Answers m r (execSleepGo req w s) := Quiet.next (h.onWrite (fun _ h₁ => h₁.writePmCtrl))

theorem Quiet.abortSleep (h : Quiet m r s) : Quiet m r (s.abortSleep) := by
  unfold State.abortSleep
  extract_lets s₁ x
  have h₁ : Quiet m r s₁ := h.put.put.event
  exact (h₁.same (by rfl)).pumpPower

theorem answers_sleepAbort (h : Quiet m r s) : Answers m r (execSleepAbort s) := Quiet.next (Quiet.ite h.abortSleep h)

theorem Quiet.retained (h : Quiet False r s) : Quiet False r s.retained := by
  refine h.trans ⟨rfl, SMap.wf_filter _ _, fun k hk => ?_, False.elim⟩
  rw [State.retained, State.harb]
  simp only [List.foldl, SMap.get_set]
  split
  · rename_i h1
    exact h1 ▸ hk
  · split
    · rename_i h0
      exact h0 ▸ hk
    · exact SMap.wf_nil _

theorem answers_sleepDrained (h : Quiet False r s) : Answers False r (execSleepDrained s) := by
  unfold execSleepDrained
  refine Quiet.next ?_
  split
  · exact h
  · extract_lets x x₁ s₁
    have h₁ : Quiet False r s₁ := h.retained.foldl fun _ _ h₁ => h₁.put
    clear_value s₁
    exact h₁.emit.emit

theorem Quiet.dropRetained {pg : Nat} (h : Quiet m r s) : Quiet m r (s.dropRetained pg) := h.setRegs (by rfl) (SMap.wf_filter _ _)

theorem Quiet.wakeBeacon {bad : Bool} (h : Quiet m r s) : Quiet m r (s.wakeBeacon bad) := by
  unfold State.wakeBeacon
  extract_lets s₁ s₂
  have h₁ : Quiet m r s₂ := Quiet.ite (Quiet.raise (Quiet.put ((h.same (by rfl)).foldl fun _ _ h₂ => h₂.dropRetained))) h.event.lower
  exact h₁.foldl fun _ _ h₂ => h₂.fireSource

theorem answers_wake {timer : Bool} {bad : List (Fin 5120)} {beaconBad : Bool} (h : Quiet m r s) : Answers m r (execWake timer bad beaconBad s) := by
  unfold execWake
  refine Quiet.next ?_
  extract_lets x x₁ s₁ x₂ s₂ s₃ s₄ s₅ s₆ x₃ s₇
  have h₁ : Quiet m r s₁ := h.put.abortSleep
  have h₂ : Quiet m r s₄ := h.put.put.emit.event.put.foldl fun _ _ h₂ => h₂.dropRetained
  have h₃ : Quiet m r s₅ := h₂.lower.foldl fun _ _ h₃ => h₃.report
  have h₄ : Quiet m r s₆ := h₃.foldl fun _ _ h₄ => Quiet.ite h₄.putLockRun.enterDomState h₄
  clear_value s₄ s₅ s₆
  exact Quiet.ite h (Quiet.ite (Quiet.ite (h₁.same (by rfl)) h) (h₄.same (by rfl)).judgeCopies.wakeBeacon.trainPort.trainPort.pumpPower)

/-! ## What the operations of Pins leave as it is -/

theorem Quiet.writeGpioCfg {i w : Nat} (h : Quiet m r s) : Quiet m r (s.writeGpioCfg i w) := by
  unfold State.writeGpioCfg
  extract_lets x x₁ x₂ x₃ x₄ s₁ x₅ s₂ s₃ x₆ x₇
  have h₁ : Quiet m r s₁ := Quiet.ite h.event h.put
  have h₂ : Quiet m r s₃ := Quiet.writeFields (Quiet.ite h₁.put h₁.event)
  exact Quiet.ite h₂.putCsi h₂

theorem answers_gpioCfgWrite {req : Requester} {i : Fin 48} {w : Word} (h : Quiet m r s) :
    Answers m r (execGpioCfgWrite req i w s) := Quiet.next (h.onWrite (fun _ h₁ => h₁.writeGpioCfg))

theorem answers_gpioReadback {i : Fin 48} {level past : Bool} (h : Quiet m r s) : Answers m r (execGpioReadback i level past s) := by
  unfold execGpioReadback
  refine Quiet.next ?_
  extract_lets x x₁ x₂ x₃
  exact Quiet.ite h (Quiet.ite h.ballOff (Quiet.ite h.lfsGoesOff h))

theorem Quiet.tryGpio (h : Quiet m r s) : Quiet m r (s.tryGpio) := by
  unfold State.tryGpio
  split
  · exact h
  · extract_lets x
    exact Quiet.judgeGpio (h.foldl fun _ _ h₁ => (h₁.same (by rfl)).put)

theorem Quiet.writeGpioOe {k w : Nat} (h : Quiet m r s) : Quiet m r (s.writeGpioOe k w) := by
  unfold State.writeGpioOe
  extract_lets s₁ x x₁ s₂
  have h₁ : Quiet m r s₁ := h.put
  exact (h₁.same (by rfl)).tryGpio

theorem answers_errnStuck (h : Quiet m r s) : Answers m r (execErrnStuck s) := Quiet.next (Quiet.ite h.put.put.raise h)

theorem Quiet.judgeTemp {k : Nat} {top : ℤ} (h : Quiet m r s) : Quiet m r (s.judgeTemp k top) := by
  unfold State.judgeTemp
  extract_lets x x₁ x₂ x₃ x₄ x₅ s₁
  exact (h.same (by rfl)).cond.eventIf

theorem answers_tempSample {t₀ : List ℤ} (h : Quiet m r s) : Answers m r (execTempSample t₀ s) := by
  unfold execTempSample
  refine Quiet.next ?_
  extract_lets x x₁ x₂ s₁ s₂ x₃ s₃
  have h₁ : Quiet m r s₁ := h.same (by rfl)
  have h₂ : Quiet m r s₃ := Quiet.cond (h₁.foldl fun _ _ h₃ => h₃.put.put)
  split
  · exact h₁
  · clear_value x₃
    split
    · exact Quiet.cond (h₁.foldl fun _ _ h₃ => h₃.put.put)
    · extract_lets x₄ s₄ x₅ s₅
      have h₃ : Quiet m r s₄ := Quiet.put (Quiet.cond (h₁.foldl fun _ _ h₄ => h₄.put.put))
      exact h₃.put.judgeTemp.judgeTemp.judgeTemp

theorem Quiet.endHold (h : Quiet m r s) : Quiet m r (s.endHold) := by
  unfold State.endHold
  split
  · exact h
  · extract_lets x s₁ s₂
    have h₁ : Quiet m r s₂ := (h.same (by rfl)).put.put
    exact Quiet.ite h₁.leaveReset h₁

theorem answers_tapInstruction {x : Fin 256 × Option (BitVec 314)} (h : Quiet m r s) : Answers m r (execTapInstruction x s) := by
  unfold execTapInstruction
  refine Quiet.next ?_
  split
  · extract_lets x₁ x₂ x₃ x₄ s₁ s₂ x₅
    have h₁ : Quiet m r s₁ := h.same (by rfl)
    have h₂ : Quiet m r s₂ := h₁.emit
    exact Quiet.ite h₁.endHold (Quiet.ite h₂ (h₂.same (by rfl)).startReset)

theorem answers_tapReset (h : Quiet m r s) : Answers m r (execTapReset s) := (h.same (by rfl)).endHold.next

theorem Quiet.controllerBad {h₀ : Nat} (h : Quiet m r s) : Quiet m r (s.controllerBad h₀) := (h.same (by rfl)).report

theorem answers_copyMismatch {u : CopiedUnit} {failing : Option (Fin 2)} (h : Quiet m r s) : Answers m r (execCopyMismatch u failing s) := by
  unfold execCopyMismatch
  refine Quiet.next ?_
  split
  · split
    · exact h
    · split
      · exact h.controllerBad.selfCheck
      · exact h.controllerBad.controllerBad
  · split
    · exact h
    · split
      · extract_lets x s₁
        exact (h.same (by rfl)).judgeCopies
      · extract_lets s₁
        have h₁ : Quiet m r s₁ := h.report
        exact Quiet.ite h₁.judgeTog h₁

/-! ## What the operations of Registers leave as it is -/

theorem Quiet.writeOne {pg : Nat} {rej : Nat × Nat} {w : Nat} {f : Field} (h : Quiet m r s) : Quiet m r (s.writeOne pg rej w f) := by
  unfold State.writeOne
  extract_lets x
  split
  · exact Quiet.ite h.put h.event
  · exact Quiet.ite h.put h.event
  · exact h.put
  · exact h.put
  · exact Quiet.ite h.put h
  · exact h
  · exact h
  · exact h

theorem Quiet.writePlain {r₀ : PageRef} {rej : Nat × Nat} {o w : Nat} (h : Quiet m r s) :
    Quiet m r (s.writePlain r₀ rej o w) := h.foldl fun _ _ h₁ => h₁.writeOne

theorem Quiet.writeBut {r₀ : PageRef} {rej : Nat × Nat} {o w : Nat} {p : Field → Bool} (h : Quiet m r s) :
    Quiet m r (s.writeBut r₀ rej o w p) := h.foldl fun _ _ h₁ => h₁.writeOne

theorem Quiet.ackBit {pg b : Nat} (h : Quiet m r s) : Quiet m r (s.ackBit pg b) := by
  unfold State.ackBit
  split
  · exact h
  · extract_lets x x₁ s₁
    have h₁ : Quiet m r s₁ := h.putMarks
    exact Quiet.ite h₁ h₁.put.putMarks

theorem Quiet.ackFaults {pg w : Nat} (h : Quiet m r s) : Quiet m r (s.ackFaults pg w) := by
  unfold State.ackFaults
  extract_lets s₁
  have h₁ : Quiet m r s₁ := h.foldl fun _ _ h₂ => h₂.ackBit
  split
  · exact h₁.tryTog
  · split
    · exact h₁.tryGpio
    · split
      · exact h₁.tryLfs
      · exact h₁

theorem Quiet.clearValid {p : PageRef} {o w : Nat} (h : Quiet m r s) (e : s.clearValid p o w = some t) : Quiet m r t := by
  have hclear : ∀ (fs : List Field) (f : State → State), (∀ s, Quiet m r s → Quiet m r (f s)) →
      Quiet m r (if w.testBit 31 then f (fs.foldl (fun (s : State) g => s.put p.number g 0) s) else s) := by
    intro fs f hf
    exact Quiet.ite (hf _ (h.foldl fun _ _ h => h.put)) h
  unfold State.clearValid at e
  extract_lets pg top clear at e
  split at e
  · exact Option.some.inj e ▸ hclear _ (fun s => s.lower p.number 0) fun _ h => h.lower
  · exact Option.some.inj e ▸ hclear _ _ fun _ h => h
  · exact Option.some.inj e ▸ hclear _ _ fun _ h => h
  · exact Option.some.inj e ▸ Quiet.ite h.pcPut.pcPut.lower h
  · exact Option.some.inj e ▸ hclear _ (fun s => s.lower p.number 0) fun _ h => h.lower
  · exact Option.some.inj e ▸ hclear _ _ fun _ h => h.judgeJtErr
  · exact Option.some.inj e ▸ Quiet.ite (h.foldl fun _ _ h => h.put) h
  · exact Option.some.inj e ▸ hclear _ (fun s => s.lower p.number 0) fun _ h => h.lower
  · cases e

theorem Quiet.writeHeader {req : Requester} {pg o w : Nat} (h : Quiet m r s) : Quiet m r (s.writeHeader req pg o w) := by
  unfold State.writeHeader
  split
  · exact h.writeCtrl
  · exact h.put
  · exact h.put
  · exact h.ackFaults
  · exact h.writeCommit
  · exact h

theorem Quiet.writeChip {req : Requester} {r₀ : PageRef} {o w : Nat} (h : Quiet m r s) : Quiet m r (s.writeChip req r₀ o w) := by
  unfold State.writeChip
  extract_lets x s₁ x₁ s₂
  have h₁ : Quiet m r s₁ := h.writePlain
  have h₂ : Quiet m r s₂ := Quiet.ite (answers_softResetGo h).nextOf h
  split
  · exact Quiet.ite h.writePmCtrl (Quiet.ite h.writeAvs h₁)
  · exact Quiet.ite h.writePdReq h₁
  · exact Quiet.ite h.clearDrops h₁
  · exact Quiet.ite (Quiet.ite h₁ h₁.lower) h₁
  · exact Quiet.ite (Quiet.ite h₁.lower h₁) (Quiet.ite (Quiet.ite (answers_softResetArm h₂).nextOf h₂) h₁)
  · exact Quiet.ite h.writeGpioCfg h₁
  · exact Quiet.ite h.writeGpioOe (Quiet.ite h.writePlain h₁)
  · exact h₁

theorem Quiet.writeTidemark {req : Requester} {r₀ : PageRef} {o w : Nat} (h : Quiet m r s) : Quiet m r (s.writeTidemark req r₀ o w) := by
  unfold State.writeTidemark
  extract_lets x s₁ x₁ x₂
  have h₁ : Quiet m r s₁ := h.writePlain
  split
  · split
    · exact (answers_tmSelWrite h).nextOf
    · split
      · exact Quiet.ite h.event h₁
      · split
        · exact (answers_presetWrite h).nextOf
        · split
          · split
            · exact (answers_domainEnable h).nextOf
            · exact Quiet.ite h₁ h.event
            · exact Quiet.ite h₁ h.event
            · exact (answers_domainOffsetWrite h).nextOf
            · exact Quiet.ite h.putRate h.event
            · exact Quiet.ite (answers_servoSample h).nextOf h
            · exact h₁
          · exact h₁
  · exact Quiet.ite h.writeGroup h₁
  · exact Quiet.ite h₁.judgeSyncLost (Quiet.ite h₁.judgeSlip h₁)
  · exact h₁

theorem Quiet.writeBreakwater {req : Requester} {r₀ : PageRef} {o w : Nat} (h : Quiet m r s) : Quiet m r (s.writeBreakwater req r₀ o w) := by
  unfold State.writeBreakwater
  extract_lets s₁
  have h₁ : Quiet m r s₁ := h.writePlain
  split
  · exact Quiet.ite (Quiet.ite (answers_bwLock h).nextOf h.writeTogEn) (Quiet.ite h.event h₁)
  · exact Quiet.ite (answers_faultInject h).nextOf h₁
  · exact Quiet.ite h.writeBwSrc h₁

theorem Quiet.writeBeacon {req : Requester} {r₀ : PageRef} {o w : Nat} (h : Quiet m r s) : Quiet m r (s.writeBeacon req r₀ o w) := by
  unfold State.writeBeacon
  extract_lets s₁ x x₁
  have h₁ : Quiet m r s₁ := h.writePlain
  split
  · split
    · split
      · exact h₁.judgeBeacon
      · exact h.writeVbase
      · exact (answers_beaconEoi h).nextOf
      · exact h₁
    · exact h₁
  · exact Quiet.ite (answers_beaconSet h).nextOf (Quiet.ite (answers_beaconClr h).nextOf h₁)
  · exact Quiet.ite h.writeSrcCfg h₁

theorem Quiet.writeSeawall {r₀ : PageRef} {o w : Nat} (h : Quiet m r s) : Quiet m r (s.writeSeawall r₀ o w) := Quiet.ite h.writeSwCmd h.writePlain

theorem Quiet.writeSounding {req : Requester} {r₀ : PageRef} {o w : Nat} (h : Quiet m r s) : Quiet m r (s.writeSounding req r₀ o w) := by
  unfold State.writeSounding
  extract_lets x
  exact Quiet.ite (answers_soundingConfigWrite h).nextOf (Quiet.ite (Quiet.ite (answers_soundingArm h).nextOf h) h.writePlain)

theorem Quiet.writeFarRequest {n w : Nat} (h : Quiet m r s) : Quiet m r (s.writeFarRequest n w) := by
  unfold State.writeFarRequest
  extract_lets x s₁ x₁
  have h₁ : Quiet m r s₁ := h.put
  split
  · exact h₁
  · split
    · extract_lets s₂ s₃ s₄ s₅
      have h₂ : Quiet m r s₅ := Quiet.putLane (Quiet.put (Quiet.put (Quiet.put (Quiet.eventIf (h₁.foldl fun _ _ h₃ => Quiet.ite h₃.put h₃)))))
      exact Quiet.ite h₂.put h₂

theorem Quiet.writeCoef {n : Nat} {fs : List Field} {w : Nat} (h : Quiet m r s) : Quiet m r (s.writeCoef n fs w) := by
  unfold State.writeCoef
  split
  · exact h
  · refine Quiet.foldl (h) fun _ _ h₁ => ?_
    extract_lets x x₁
    exact h₁.putLane

theorem Quiet.writeWeatas {req : Requester} {r₀ : PageRef} {o w : Nat} (h : Quiet m r s) : Quiet m r (s.writeWeatas req r₀ o w) := by
  unfold State.writeWeatas
  extract_lets x x₁ x₂ x₃ s₁ s₂ x₄
  have h₁ : Quiet m r s₁ := h.writePlain
  have h₂ : Quiet m r s₂ := h.put
  split
  · exact Quiet.ite h₂.event h₂.put.put
  · exact (answers_rxFreeze h).nextOf
  · exact h.writeFarRequest
  · exact h.writePlain.setAmplitude
  · exact Quiet.ite h.writePlain.unmonitor h.writePlain.autoRelease
  · exact Quiet.ite (answers_lmRelease h).nextOf h
  · exact Quiet.ite h.writePlain h
  · exact (answers_prbsGenEnable h).nextOf
  · exact (answers_prbsInject h).nextOf
  · exact (answers_prbsChkEnable h).nextOf
  · exact h.writeLinkCtrl
  · exact Quiet.ite h.writeCoef h₁

theorem Quiet.writeIdle {r₀ : PageRef} {rej o w : Nat} {ok : Bool} (h : Quiet m r s) :
    Quiet m r (s.writeIdle r₀ rej o w ok) := Quiet.ite h.event h.writePlain

theorem Quiet.writeCsiRx {r₀ : PageRef} {o w : Nat} (h : Quiet m r s) : Quiet m r (s.writeCsiRx r₀ o w) := by
  unfold State.writeCsiRx
  split
  · exact h.writeIdle
  · exact h.writeIdle
  · extract_lets s₁
    have h₁ : Quiet m r s₁ := h.writeBut
    exact Quiet.ite h₁ h₁.put
  · extract_lets s₁ x s₂
    have h₁ : Quiet m r s₁ := h.writePlain
    exact Quiet.tryLfs (Quiet.ite h₁.putCsi h₁)
  · exact h.writePlain

theorem Quiet.writeCsiTx {r₀ : PageRef} {o w : Nat} (h : Quiet m r s) :
    Quiet m r (s.writeCsiTx r₀ o w) := Quiet.ite h.writeIdle (Quiet.ite h.writeIdle (Quiet.ite h.writeBut h.writePlain))

theorem Quiet.writeInlet {r₀ : PageRef} {o w : Nat} (h : Quiet m r s) : Quiet m r (s.writeInlet r₀ o w) := by
  unfold State.writeInlet
  split
  · extract_lets x x₁ s₁
    have h₁ : Quiet m r s₁ := h.writeBut
    exact Quiet.ite h₁.put h₁.event
  · exact h.put
  · exact h.writePlain

theorem Quiet.writeJetty {req : Requester} {r₀ : PageRef} {o w : Nat} (h : Quiet m r s) : Quiet m r (s.writeJetty req r₀ o w) := by
  unfold State.writeJetty
  extract_lets x x₁ x₂ x₃ s₁
  have h₁ : Quiet m r s₁ := h.writePlain
  exact Quiet.ite (Quiet.ite h₁ h) (Quiet.ite (answers_mirrorValueWrite h).nextOf (Quiet.ite h₁.judgeMirErr (Quiet.ite h.writeBut (Quiet.ite h₁.judgeCamFault (Quiet.ite (answers_txqGo h).nextOf (Quiet.ite h h₁))))))

theorem Quiet.writeMacCfg {r₀ : PageRef} {w : Nat} (h : Quiet m r s) : Quiet m r (s.writeMacCfg r₀ w) := by
  unfold State.writeMacCfg
  extract_lets x x₁ x₂ s₁ s₂
  have h₁ : Quiet m r s₁ := h.writeBut
  have h₂ : Quiet m r s₂ := h₁.event
  exact Quiet.ite h₁.put.put (Quiet.ite h₂.put (Quiet.ite h₂.put h₂))

theorem Quiet.writeMac {req : Requester} {r₀ : PageRef} {o w : Nat} (h : Quiet m r s) : Quiet m r (s.writeMac req r₀ o w) := by
  unfold State.writeMac
  extract_lets x
  exact Quiet.ite (Quiet.ite h.event (Quiet.ite h.writeMacCfg h.writePlain)) (Quiet.ite (answers_gclChange h).nextOf h.writePlain)

theorem Quiet.writeMgData {w : Nat} (h : Quiet m r s) : Quiet m r (s.writeMgData w) := by
  unfold State.writeMgData
  extract_lets x x₁ x₂
  exact Quiet.ite h (h.same (by rfl)).put

theorem Quiet.writeBridge {req : Requester} {r₀ : PageRef} {o w : Nat} (h : Quiet m r s) : Quiet m r (s.writeBridge req r₀ o w) := by
  unfold State.writeBridge
  extract_lets x x₁
  split
  · exact Quiet.ite h.event (Quiet.ite (answers_fdbWrite h).nextOf (Quiet.ite (answers_fdbRead h).nextOf h))
  · exact h.writeMgData
  · exact Quiet.ite (answers_mgTxGo h).nextOf h.writeBut.eventIf
  · exact h.writePlain

theorem Quiet.loopErrors {n : Nat} (h : Quiet m r s) : Quiet m r (s.loopErrors n) := by
  unfold State.loopErrors
  split
  · exact h
  · refine Quiet.foldl (h) fun _ _ h₁ => ?_
    split
    · rename_i heq
      have h₂ := h₁.fresh heq
      exact h₂.pcPut

theorem Quiet.writePcieTest {n w : Nat} (h : Quiet m r s) : Quiet m r (s.writePcieTest n w) := by
  unfold State.writePcieTest
  extract_lets s₁ x x₁ x₂ x₃ s₂ s₃ s₄ x₄ s₅
  have h₁ : Quiet m r s₁ := h.loopErrors
  have h₂ : Quiet m r s₂ := h₁.foldl fun _ _ h₂ => Quiet.ite h₂.pcPut h₂.pcEvent
  have h₃ : Quiet m r s₃ := h₂.pcPut
  have h₄ : Quiet m r s₄ := Quiet.ite (h₃.foldl fun _ _ h₄ => h₄.pcPut) h₃
  have h₅ : Quiet m r s₅ := h₄.pcPut
  clear_value s₂ s₄
  exact Quiet.ite (Quiet.ite h₄.pcEvent (Quiet.ite h₅.linkDown h₅.pcPut)) (Quiet.ite h₄.pcPut.trainPort h₄)

theorem Quiet.writePcie {r₀ : PageRef} {o w : Nat} (h : Quiet m r s) : Quiet m r (s.writePcie r₀ o w) := by
  unfold State.writePcie
  extract_lets x x₁ s₁
  have h₁ : Quiet m r s₁ := by
    unfold s₁
    refine Quiet.foldl (h) fun _ _ h₁ => ?_
    extract_lets
    exact Quiet.ite h₁ (Quiet.ite h₁.pcPut h₁.pcEvent)
  clear_value s₁
  exact Quiet.ite h (Quiet.ite h.writePcieTest (Quiet.ite (Quiet.ite h (Quiet.ite h.pcEvent h₁)) h₁))

theorem Quiet.writeLp {req : Requester} {r₀ : PageRef} {o w : Nat} (h : Quiet False r s) : Quiet False r (s.writeLp req r₀ o w) := by
  unfold State.writeLp
  extract_lets x
  split
  · exact Quiet.ite (answers_cmdDoorbell h).nextOf (Quiet.ite (answers_cplHeadWrite h).nextOf h.writeRingCfg)
  · exact h.writePlain

theorem Quiet.writeCove {r₀ : PageRef} {o w : Nat} (h : Quiet m r s) : Quiet m r (s.writeCove r₀ o w) := by
  unfold State.writeCove
  extract_lets x x₁
  exact Quiet.ite h.writeBut.event h.writePlain

theorem Quiet.writeHarbour {req : Requester} {r₀ : PageRef} {o w : Nat} (h : Quiet False r s) : Quiet False r (s.writeHarbour req r₀ o w) := by
  unfold State.writeHarbour
  extract_lets x s₁ x₁
  split
  · exact Quiet.ite h.writeBut.event h.writePlain
  · exact Quiet.ite (answers_eccFillStart h).nextOf h
  · exact Quiet.ite (answers_trInvalidate h).nextOf h.put
  · exact h.writePlain

theorem Quiet.writeDrift {req : Requester} {r₀ : PageRef} {o w : Nat} (h : Quiet m r s) : Quiet m r (s.writeDrift req r₀ o w) := by
  unfold State.writeDrift
  extract_lets x x₁
  split
  · exact (answers_driftSetNext h).nextOf
  · exact (answers_driftSetNext h).nextOf
  · exact (answers_driftAdd h).nextOf
  · exact h.commandCh
  · exact Quiet.ite h.writeBut h.writePlain
  · exact h.writePlain

theorem Quiet.writeBody {req : Requester} {r₀ : PageRef} {o w : Nat} (h : Quiet False r s) : Quiet False r (s.writeBody req r₀ o w) := by
  unfold State.writeBody
  split
  · rename_i heq
    have h₁ := h.clearValid heq
    exact h₁
  · split
    · exact h.writeChip
    · exact h.writeTidemark
    · exact h.writeBreakwater
    · exact h.writeBeacon
    · exact h.writeSeawall
    · exact h.writeSounding
    · exact h.writeWeatas
    · exact h.writeCsiRx
    · exact h.writeCsiTx
    · exact h.writeInlet
    · exact h.writeJetty
    · exact h.writeMac
    · exact h.writeBridge
    · exact h.writePcie
    · exact h.writeLp
    · exact h.writeCove
    · exact h.writeHarbour
    · exact h.writeDrift
    · exact h.writePlain
    · exact h.writePlain
    · exact h.writePlain

theorem Quiet.writeWord {req : Requester} {off w : Nat} (h : Quiet False r s) : Quiet False r (s.writeWord req off w) := by
  unfold State.writeWord
  extract_lets x
  split
  · exact h
  · exact Quiet.ite h (Quiet.ite (h.foldl fun _ _ h₁ => h₁.writeHeader) h.writeBody)

theorem Quiet.writeLatched {off w : Nat} (h : Quiet m r s) : Quiet m r (s.writeLatched off w) := by
  unfold State.writeLatched
  extract_lets o
  split
  · exact h
  · exact Quiet.ite h.ackFaults (Quiet.ite h (h.ofOption fun _ e => h.clearValid e))

theorem Quiet.writeAccess {req : Requester} {off k : Nat} {v : BitVec 64} (h : Quiet False r s) : Quiet False r (s.writeAccess req off k v) := by
  unfold State.writeAccess
  extract_lets x x₁ s₁
  have h₁ : Quiet False r s₁ := h.writeWord
  split
  · exact h
  · split
    · exact Quiet.ite h (Quiet.ite h.writeLatched h.writeLatched.writeLatched)
    · split
      · exact h.logAccess
      · split
        · exact h
        · split
          · exact (answers_windowWrite h).nextOf
          · exact Quiet.ite h₁.writeWord h₁

theorem answers_regWrite {req : Requester} {off : Fin 67108864} {k : Fin 4} {v : BitVec 64} (h : Quiet False r s) :
    Answers False r (execRegWrite req off k v s) := h.writeAccess.next

theorem answers_faultAck {req : Requester} {pg : Fin 5120} {w : Word} (h : Quiet m r s) : Answers m r (execFaultAck req pg w s) := by
  unfold execFaultAck
  extract_lets x
  refine Quiet.next ?_
  split
  · exact h
  · split
    · exact h.writeLatched
    · split
      · exact h.logAccess
      · exact h.ackFaults

theorem answers_accessError {req : Requester} {off : Fin 67108864} {k : Fin 4} {write : Bool} (h : Quiet m r s) :
    Answers m r (execAccessError req off k write s) := by
  unfold execAccessError
  refine Quiet.next ?_
  split
  · exact h
  · split
    · exact h
    · exact Quiet.ite (Quiet.ite h h.logAccess) h.logAccess.emit

/-! ## What the operations of Reads leave as it is -/

theorem Quiet.readHeader {r₀ : PageRef} {o x₀ : Nat} (h : Quiet m r s) (e : s.readHeader r₀ o = (x₀, t)) : Quiet m r t := by
  have key : Quiet m r (s.readHeader r₀ o).2 := by
    unfold State.readHeader
    extract_lets x x₁ x₂ x₃ x₄
    split
    · exact h
    · exact h
    · exact h
    · exact h
    · exact h
    · exact h
    · exact h
    · exact h
    · exact h
    · exact h
    · exact h
    · exact h
    · exact h
    · exact h
  rwa [e] at key

theorem Quiet.refPpb {x₀ : Nat} (h : Quiet m r s) (e : s.refPpb = (x₀, t)) : Quiet m r t := by
  have key : Quiet m r (s.refPpb).2 := by
    unfold State.refPpb
    split
    · exact h
    · extract_lets x
      split
      · exact h
      · split
        · rename_i heq
          have h₁ := h.fresh heq
          exact h₁
  rwa [e] at key

theorem Quiet.readField {r₀ : PageRef} {o : Nat} {live : Bool} {f : Field} {x₀ : Nat} (h : Quiet m r s)
    (e : s.readField r₀ o live f = (x₀, t)) : Quiet m r t := by
  have key : Quiet m r (s.readField r₀ o live f).2 := by
    unfold State.readField
    split
    · exact h
    · split
      · split
        · rename_i heq
          have h₁ := h.fresh heq
          extract_lets x
          exact Quiet.ite h₁.put h₁
      · split
        · exact h
        · exact h
        · exact h
        · exact h
        · exact h
        · exact h
        · exact h
        · exact h
  rwa [e] at key

theorem Quiet.readFields {p : PageRef} {o : Nat} {live : Bool} {l : List Field} {v : Nat} (h : Quiet m r s)
    (e : s.readFields p o live l = (v, t)) : Quiet m r t := by
  induction l generalizing s v t with
  | nil => cases e; exact h
  | cons f l ih => cases e; exact ih (h.readField rfl) rfl

theorem Quiet.readReg {r₀ : PageRef} {o : Nat} {live : Bool} {x₀ : Nat} (h : Quiet m r s) (e : s.readReg r₀ o live = (x₀, t)) : Quiet m r t := by
  have key : Quiet m r (s.readReg r₀ o live).2 := by
    unfold State.readReg
    split
    · split
      · rename_i heq
        have h₁ := h.fresh heq
        exact h₁
    · split
      · exact h
      · split
        · exact h.refPpb rfl
        · split
          · split
            · rename_i heq
              have h₁ := h.fresh heq
              exact h₁
          · split
            · exact h.loopErrors.readFields rfl
            · exact h.readFields rfl
  rwa [e] at key

theorem Quiet.popAt {p : PageRef} {o : Nat} {l : List Nat} (h : Quiet m r s) (e : s.popAt p o = some (l, t)) : Quiet m r t := by
  unfold State.popAt at e
  split at e
  · exact h.popTrigger (Option.some.inj e)
  · exact h.popEvent (Option.some.inj e)
  · exact h.popStamp (Option.some.inj e)
  · exact h.popStamp (Option.some.inj e)
  · exact h.popFrame (Option.some.inj e)
  · exact h.popFrameData (Option.some.inj e)
  · cases e

theorem Quiet.readWords {p : PageRef} {live : Bool} {n o : Nat} {l : List Nat} (h : Quiet m r s)
    (e : s.readWords p live n o = (l, t)) :
    Quiet m r t := by
  have key : Quiet m r (s.readWords p live n o).2 := by
    clear e
    induction n generalizing s o with
    | zero => exact h
    | succ n ih =>
      rw [State.readWords]
      rcases hx : s.readReg p o live with ⟨v, s₁⟩
      exact ih (h.readReg hx)
  rwa [e] at key

theorem Quiet.readValue {req : Requester} {off first : Nat} {f : State → List Nat × State} {g : State → Nat × State} {x : Nat} (h : Quiet m r s)
    (hf : Quiet m r (f s).2) (hg : Quiet m r (g s).2) (e : s.readValue req off first f g = (x, t)) : Quiet m r t := by
  have key : Quiet m r (s.readValue req off first f g).2 := by
    unfold State.readValue
    split
    · exact Quiet.ite hf hf.holdCapture
    · split
      · exact h
      · exact hg
  rwa [e] at key

theorem Quiet.readWord {req : Requester} {off x : Nat} (h : Quiet m r s) (e : s.readWord req off = (x, t)) : Quiet m r t := by
  have hpop : ∀ (p : PageRef) (o : Nat) (l : List Nat), Quiet m r ((s.popAt p o).getD (l, s)).2 := by
    intro p o l
    cases hx : s.popAt p o with
    | none => exact h
    | some y => exact h.popAt hx
  have hreg : ∀ (p : PageRef) (o : Nat) (live : Bool), Quiet m r (s.readReg p o live).2 := fun p o live => h.readReg rfl
  have hvalue : ∀ {o first : Nat} {f : State → List Nat × State} {g : State → Nat × State}, Quiet m r (f s).2 → Quiet m r (g s).2 →
      Quiet m r (s.readValue req o first f g).2 := fun hf hg => h.readValue hf hg rfl
  have key : Quiet m r (s.readWord req off).2 := by
    unfold State.readWord
    extract_lets pg o off live
    split
    · exact hvalue h h
    · split
      · exact h
      · split
        · exact h.readHeader rfl
        · split
          · refine hvalue ?_ ?_
            · exact hpop _ _ _
            · exact hreg _ _ _
          · split
            · refine hvalue ?_ ?_
              · exact h.readWords rfl
              · split
                · exact h
                · exact hreg _ _ _
            · exact hreg _ _ _
  rwa [e] at key

theorem Quiet.readAccess {req : Requester} {off k : Nat} {x₀ : List Nat} (h : Quiet m r s)
    (e : s.readAccess req off k = (x₀, t)) : Quiet m r t := by
  have key : Quiet m r (s.readAccess req off k).2 := by
    unfold State.readAccess
    split
    · rename_i heq
      have h₁ := h.readWord heq
      split
      · split
        · rename_i heq₁
          have h₂ := h₁.readWord heq₁
          exact h₂
      · exact h₁
  rwa [e] at key

theorem answers_multiwordCaptureRead {req : Requester} {off : Fin 67108864} {k : Fin 4} {header : Nat} (h : Quiet m r s) :
    Answers m r (execMultiwordCaptureRead req off k header s) := by
  unfold execMultiwordCaptureRead
  split
  · exact h.next
  · split
    · exact h.logAccess.emit.next
    · split
      · exact answers_windowRead h
      · split
        · rename_i heq
          have h₁ := h.readAccess heq
          exact h₁.emit.next

/-! ## What the operations of Boot leave as it is -/

theorem Quiet.chooseSlot (h : Quiet m r s) : Quiet m r (s.chooseSlot) := by
  unfold State.chooseSlot
  extract_lets x
  exact h.put.put

theorem answers_bootStart {head : List Byte} {certOk sigOk : Bool} (h : Quiet m r s) : Answers m r (execBootStart head certOk sigOk s) := by
  unfold execBootStart
  refine Quiet.next ?_
  split
  · exact h
  · extract_lets s₁ x x₁ s₂ s₃ s₄
    have h₁ : Quiet m r s₁ := h.chooseSlot.put.put
    have h₂ : Quiet m r s₄ := (h₁.same (by rfl)).put.put.put
    split
    · exact h₁.same (by rfl)
    · exact Quiet.ite h₂.raise h₂

theorem Quiet.bootFails {err : Nat} (h : Quiet m r s) : Quiet m r (s.bootFails err) := h.same (by rfl)

theorem Quiet.applyPorts {k : Nat → PcieSt → PcieSt} (h : Quiet m r s) : Quiet m r (s.applyPorts k) := by
  unfold State.applyPorts
  refine Quiet.foldl (h) fun _ _ h₁ => ?_
  extract_lets x x₁
  exact h₁.same (by rfl)

theorem Quiet.applyPcie {b : List Byte} (h : Quiet m r s) (ht : s.applyPcie b = some t) : Quiet m r t := by
  unfold State.applyPcie at ht
  extract_lets at ht
  split at ht
  · cases ht
  · cases ht
    exact h.applyPorts

theorem Quiet.applyRegs {b : List Byte} (h : Quiet False r s) (e : s.applyRegs b = some t) : Quiet False r t := by
  unfold State.applyRegs at e
  split at e
  · cases e
  · cases e
    exact h.foldl fun _ _ h => Quiet.ite h h.writeAccess

theorem Quiet.submitLocal {h₀ pa : Nat} (h : Quiet m r s) : Quiet m r (s.submitLocal h₀ pa) := by
  unfold State.submitLocal
  extract_lets x x₁
  exact h.submitPlan rfl

theorem Quiet.applyGptp {b : List Byte} (h : Quiet m r s) (ht : s.applyGptp b = some t) : Quiet m r t := by
  unfold State.applyGptp at ht
  split at ht
  · cases ht
  · cases ht
    exact Quiet.ite (h.same (by rfl)).event ((h.same (by rfl)).foldl fun _ _ h => h.put)

theorem Quiet.applySensors {b : List Byte} (h : Quiet m r s) (ht : s.applySensors b = some t) : Quiet m r t := by
  unfold State.applySensors at ht
  extract_lets at ht
  split at ht
  · cases ht
  · cases ht
    exact h.addSensors

theorem Quiet.applySegment {i kind : Nat} {b : List Byte} (h : Quiet False r s) (e : s.applySegment i kind b = some t) : Quiet False r t := by
  unfold State.applySegment at e
  split at e
  · cases e
  · split at e
    · exact h.applyPcie e
    · exact h.applyRegs e
    · obtain ⟨x, -, rfl⟩ := Option.map_eq_some_iff.1 e
      exact h.memWrite
    · exact h.applySensors e
    · obtain ⟨x, -, rfl⟩ := Option.map_eq_some_iff.1 e
      exact h.memWrite.submitLocal
    · exact h.applyGptp e
    · cases e

theorem Quiet.segmentDone {i : Nat} (h : Quiet m r s) : Quiet m r (s.segmentDone i) := by
  unfold State.segmentDone
  extract_lets x s₁ x₁ s₂
  have h₁ : Quiet m r s₁ := h.put
  have h₂ : Quiet m r s₂ := h₁.same (by rfl)
  exact Quiet.ite h₂.bootFails h₂

theorem answers_bootSegment {body : List Byte} {hashOk : Bool} (h : Quiet False r s) : Answers False r (execBootSegment body hashOk s) := by
  unfold execBootSegment
  extract_lets x s₁
  have h₁ : Quiet False r s₁ := h.put
  refine Quiet.next ?_
  split
  · exact h
  · split
    · exact h
    · split
      · exact h₁.bootFails
      · split
        · exact h
        · split
          · exact h₁.bootFails
          · split
            · exact h₁
            · split
              · exact h₁.bootFails
              · rename_i heq
                have h₂ := h₁.applySegment heq
                exact h₂.segmentDone

theorem answers_bootDone (h : Quiet m r s) : Answers m r (execBootDone s) := by
  unfold execBootDone
  refine Quiet.next ?_
  split
  · exact h
  · extract_lets x s₁ s₂ s₃
    have h₁ : Quiet m r s₁ := h.same (by rfl)
    exact Quiet.event (Quiet.writeTogEn (h₁.put.put.foldl fun _ _ h₂ => Quiet.ite h₂.startFirmware h₂))

theorem Quiet.bootStops {halted : Bool} (h : Quiet m r s) : Quiet m r (s.bootStops halted) := by
  unfold State.bootStops
  extract_lets s₁ s₂
  exact Quiet.put (Quiet.foldl (Quiet.ite h.applyPorts.lower h) fun _ _ h₁ => Quiet.ite h₁.put h₁)

theorem answers_bootFail {flash : Bool} (h : Quiet m r s) : Answers m r (execBootFail flash s) := by
  unfold execBootFail
  extract_lets x s₁ x₁ x₂ s₂
  have h₁ : Quiet m r s₁ := Quiet.ite h.chooseSlot h
  refine Quiet.next ?_
  clear_value x
  split
  · exact h
  · extract_lets s₃ x₃
    have h₂ : Quiet m r s₃ := Quiet.report (Quiet.put (Quiet.same (Quiet.ite h.chooseSlot h) (by rfl)))
    exact Quiet.ite h₂.bootStops (Quiet.ite (h₂.same (by rfl)).put.raise (Quiet.ite h₂.put.bootStops (Quiet.ite h₂.bootStops h₂.put.startReset)))

/-! ## What the operations of Tides leave as it is -/

theorem Quiet.putBegun {f k : Nat} (h : Quiet m r s) : Quiet m r (s.putBegun f k) := h.same (by rfl)

theorem Quiet.judgeSilent {x : PlanStream} {ended : Nat} (h : Quiet m r s) : Quiet m r (s.judgeSilent x ended) := by
  unfold State.judgeSilent
  extract_lets x₁ x₂ x₃ x₄
  exact h.putStream.judgeInlet

theorem Quiet.endTide {f ended : Nat} (h : Quiet m r s) : Quiet m r (s.endTide f ended) := by
  unfold State.endTide
  split
  · exact h
  · exact h.foldl fun _ _ h₁ => h₁.judgeSilent

theorem Quiet.countTide {f k : Nat} (h : Quiet m r s) : Quiet m r (s.countTide f k) := by
  unfold State.countTide
  extract_lets x x₁ s₁
  exact (h.same (by rfl)).putBegun.put.put

theorem Quiet.swapGroups {f : Nat} (h : Quiet m r s) : Quiet m r (s.swapGroups f) := h.foldl fun _ _ h₁ => h₁.swapGroup

theorem Quiet.triggerFamily {code f : Nat} (h : Quiet m r s) : Quiet m r (s.triggerFamily code f) := h.oweTriggers

theorem Quiet.announceTide {f : Nat} (h : Quiet m r s) : Quiet m r (s.announceTide f) := h.owe.triggerFamily.loopTide

theorem Quiet.clearHarbourTide {h₀ : Nat} (h : Quiet m r s) : Quiet m r (s.clearHarbourTide h₀) := h.putHarb (by rfl)

theorem Quiet.controllersTide (h : Quiet m r s) : Quiet m r (s.controllersTide) := by
  unfold State.controllersTide
  extract_lets x x₁
  exact (h.same (by rfl)).foldl fun _ _ h₁ => Quiet.ite h₁ h₁.lower

theorem Quiet.lowestTide {first : Bool} {ended : Nat} (h : Quiet m r s) : Quiet m r (s.lowestTide first ended) := by
  unfold State.lowestTide
  extract_lets s₁ s₂ x s₃ x₁
  have h₁ : Quiet m r s₁ := Quiet.ite h.clearHarbourTide.clearHarbourTide h.harbourTide.harbourTide.publishReports
  have h₂ : Quiet m r s₂ := Quiet.ite h₁ h₁.controllersTide
  have h₃ : Quiet m r s₃ := Quiet.ite (h₂.same (by rfl)) h₂
  exact Quiet.ite h₃ (h₃.same (by rfl)).pumpPower

theorem answers_tideBoundary {f : Fin 4} (h : Quiet m r s) : Answers m r (execTideBoundary f s) := by
  unfold execTideBoundary
  refine Quiet.next ?_
  split
  · exact h
  · extract_lets x x₁ x₂ s₁ s₂
    have h₁ : Quiet m r s₂ := Quiet.announceTide (Quiet.swapGroups (Quiet.countTide (Quiet.ite h h.endTide)))
    exact Quiet.ite h (Quiet.ite h₁.lowestTide h₁)

theorem Quiet.captureSpring (h : Quiet m r s) : Quiet m r (s.captureSpring) := by
  unfold State.captureSpring
  extract_lets s₁ x
  have h₁ : Quiet m r s₁ := by
    unfold s₁
    refine Quiet.foldl (h) fun _ _ h₁ => ?_
    extract_lets x₁ s₂ x₂
    have h₂ : Quiet m r s₂ := h₁.captureGroup
    exact Quiet.ite h₁ (Quiet.ite (h₂.same (by rfl)).dropDevArm h₂)
  clear_value s₁
  exact h₁.same (by rfl)

theorem Quiet.slackWork {corr : Nat × Nat} {bad : Bool × Bool} (h : Quiet m r s) :
    Quiet m r (s.slackWork corr bad) := h.startBist.startBist.march.march.stepAvs

theorem answers_slackOpen {f : Fin 4} {corr : Fin 7 × Fin 7} {bad : Bool × Bool} (h : Quiet m r s) : Answers m r (execSlackOpen f corr bad s) := by
  unfold execSlackOpen
  refine Quiet.next ?_
  split
  · exact h
  · split
    · exact h
    · extract_lets x x₁ s₁ s₂ s₃ s₄
      have h₁ : Quiet m r s₁ := h.put
      have h₂ : Quiet m r s₂ := Quiet.ite (h₁.foldl fun _ _ h₂ => h₂.captureGroup) h
      have h₃ : Quiet m r s₃ := Quiet.ite h₂.captureSpring h₂
      have h₄ : Quiet m r s₄ := h₃.loopSlack.owe.triggerFamily
      clear_value s₂
      exact Quiet.ite h₃ (Quiet.ite h₄.slackWork h₄)

theorem Quiet.swapChannels {old new : Option Plan} (h : Quiet m r s) : Quiet m r (s.swapChannels old new) := by
  unfold State.swapChannels
  extract_lets x
  exact h.foldl fun _ _ h₁ => h₁.rebindCh

theorem Quiet.swapContexts {old new : Option Plan} (h : Quiet m r s) : Quiet m r (s.swapContexts old new) := by
  unfold State.swapContexts
  refine Quiet.foldl (h) fun _ _ h₁ => ?_
  refine Quiet.foldl (h₁) fun _ _ h₂ => ?_
  extract_lets x
  exact Quiet.ite h₂ h₂.rebindContext

theorem Quiet.swapStream {old new : Option Plan} {x : Nat} (h : Quiet m r s) : Quiet m r (s.swapStream old new x) := by
  unfold State.swapStream
  extract_lets x₁ x₂ x₃ x₄ x₅ x₆ s₁
  exact Quiet.ite h (Quiet.judgeInlet (Quiet.putStream (Quiet.ite h.stPut h)))

theorem Quiet.swapTxSlot {new : Option Plan} {m₀ k : Nat} (h : Quiet m r s) : Quiet m r (s.swapTxSlot new m₀ k) := by
  unfold State.swapTxSlot
  extract_lets x x₁ s₁ s₂ x₂
  have h₁ : Quiet m r s₂ := h.put.put
  exact Quiet.ite h₁ h₁.putTxSlot

theorem Quiet.swapStreamSlot {new : Option Plan} {k : Nat} (h : Quiet m r s) : Quiet m r (s.swapStreamSlot new k) := by
  unfold State.swapStreamSlot
  extract_lets x s₁ s₂ x₁
  have h₁ : Quiet m r s₂ := h.put.put
  exact Quiet.ite h₁ h₁.putSlot

theorem Quiet.swapSlots {new : Option Plan} (h : Quiet m r s) : Quiet m r (s.swapSlots new) := by
  unfold State.swapSlots
  extract_lets s₁ s₂
  refine Quiet.foldl (Quiet.foldl (h.foldl fun _ _ h₁ => h₁.foldl fun _ _ h₂ => h₂.swapTxSlot) fun _ _ h₁ => h₁.swapStreamSlot) fun _ _ h₁ => ?_
  extract_lets x
  exact h₁.put.put

theorem Quiet.swapDomains {old new : Option Plan} (h : Quiet m r s) : Quiet m r (s.swapDomains old new) := by
  unfold State.swapDomains
  extract_lets x x₁ x₂ x₃
  exact h.same (by rfl)

theorem Quiet.swapWork {old new : Option Plan} (h : Quiet m r s) : Quiet m r (s.swapWork old new) := by
  unfold State.swapWork
  extract_lets x s₁ s₂ s₃
  have h₁ : Quiet m r s₁ := h.swapContexts.foldl fun _ _ h₁ => h₁.swapStream
  clear_value s₁
  exact h₁.swapChannels.swapSlots.swapDomains.capCredits.capCredits.judgeLink.judgeLink.judgeTimeUnlocked.loopPlan.pumpPower

theorem Quiet.putPlan {new : Option Plan} (h : Quiet m r s) : Quiet m r (s.putPlan new) := by
  unfold State.putPlan
  extract_lets s₁ x s₂ s₃
  have h₁ : Quiet m r s₁ := h.loadPlan.loadPlan
  refine Quiet.put ?_
  refine Quiet.foldl (h₁.same (by rfl)) fun _ _ h₂ => ?_
  extract_lets x₁ s₄ s₅ x₂
  have h₃ : Quiet m r s₄ := h₂.put
  have h₄ : Quiet m r s₅ := h₃.putBegun.put
  exact Quiet.ite h₃ (h₄.same (by rfl))

theorem Quiet.takeStaged (h : Quiet m r s) : Quiet m r (s.takeStaged) := (h.same (by rfl)).dropDevArm.setPlanState

theorem Quiet.dropInactive (h : Quiet m r s) : Quiet m r (s.dropInactive) := h.foldl fun _ _ h₁ => h₁.dropArm.putGrp

theorem Quiet.countSpring (h : Quiet m r s) : Quiet m r (s.countSpring) := by
  unfold State.countSpring
  extract_lets x x₁
  exact (h.same (by rfl)).put

theorem Quiet.swapAllGroups (h : Quiet m r s) : Quiet m r (s.swapAllGroups) := h.foldl fun _ _ h₁ => h₁.swapGroups

theorem Quiet.endPlan {old : Plan} (h : Quiet m r s) : Quiet m r (s.endPlan old) := by
  unfold State.endPlan
  extract_lets x s₁
  exact (h.same (by rfl)).putPlan.swapAllGroups.swapWork

theorem Quiet.beginSpring {old : Plan} {lowest : Option Nat} {ended : Nat} (h : Quiet m r s) : Quiet m r (s.beginSpring old lowest ended) := by
  unfold State.beginSpring
  extract_lets next runs s₁ fams s₂ s₃ s₄
  clear_value next
  have h₁ : Quiet m r s₁ := by
    simp only [s₁]
    split
    · exact h
    · exact h.takeStaged.putPlan
  clear_value s₁
  have h₂ : Quiet m r s₂ := (h₁.foldl fun _ _ h => h.countTide).swapAllGroups
  clear_value s₂
  have h₃ : Quiet m r s₃ := by
    simp only [s₃]
    split
    · exact h₂
    · exact h₂.swapWork
  clear_value s₃
  have h₄ : Quiet m r s₄ := h₃.dropInactive.foldl fun _ _ h => h.announceTide
  clear_value s₄
  split
  · exact h₄
  · exact h₄.lowestTide

theorem answers_springBoundary (h : Quiet m r s) : Answers m r (execSpringBoundary s) := by
  unfold execSpringBoundary
  refine Quiet.next ?_
  split
  · exact h
  · split
    · exact h
    · extract_lets x x₁ s₁ x₂ s₂ x₃ s₃
      have h₁ : Quiet m r s₁ := h.foldl fun _ _ h₁ => h₁.endTide
      have h₂ : Quiet m r s₂ := h₁.countSpring
      have h₃ : Quiet m r s₃ := (h₂.same (by rfl)).owe
      clear_value s₁
      exact Quiet.ite h₃.endPlan h₃.beginSpring

theorem answers_planFirstBoundary {f : Fin 4} (h : Quiet m r s) : Answers m r (execPlanFirstBoundary f s) := by
  unfold execPlanFirstBoundary
  refine Quiet.next ?_
  split
  · exact h
  · split
    · exact h
    · extract_lets x x₁ x₂ s₁ x₃ s₂ s₃ s₄ s₅ s₆ s₇
      have h₁ : Quiet m r s₁ := h.takeStaged.putPlan
      have h₂ : Quiet m r s₃ := (h₁.same (by rfl)).countSpring.foldl fun _ _ h₂ => h₂.putBegun
      have h₃ : Quiet m r s₄ := h₂.foldl fun _ _ h₃ => h₃.countTide
      have h₄ : Quiet m r s₆ := h₃.captureGroup.swapGroup.dropInactive.swapWork.foldl fun _ _ h₄ => h₄.announceTide
      have h₅ : Quiet m r s₇ := Quiet.ite h₄.owe h₄
      clear_value s₃ s₄ s₆
      exact Quiet.ite h₅.lowestTide h₅

theorem answers_domainDrained {d : Fin 96} (h : Quiet m r s) : Answers m r (execDomainDrained d s) := by
  unfold execDomainDrained
  extract_lets x
  exact Quiet.next (Quiet.ite h (Quiet.ite (h.same (by rfl)) (h.same (by rfl)).pumpPower))

theorem Quiet.idleCycle (h : Quiet m r s) : Quiet m r (s.idleCycle) := by
  unfold State.idleCycle
  split
  · exact h.sleepTick
  · extract_lets s₁ s₂ s₃ s₄ s₅
    have h₁ : Quiet m r s₃ := Quiet.judgeCorrections (Quiet.judgeCorrections (Quiet.fillTick (Quiet.fillTick (h.tick.foldl fun _ _ h₂ => h₂.prbsTick))))
    have h₂ : Quiet m r s₄ := h₁.foldl fun _ _ h₃ => h₃.judgeHeaders
    have h₃ : Quiet m r s₅ := h₂.foldl fun _ _ h₄ => h₄.judgePhy
    exact h₃.foldl fun _ _ h₄ => h₄.stepSensors

theorem Quiet.popCommand : (s.popCommand).pending = s.pending.tail := rfl

/-! ## Every command and every step -/

/-- What every command leaves as it is. -/
theorem answers_exec {r s : State} (i : Instr) (h : Quiet False r s) : Answers False r (exec i s) := by
  cases i with
  | regWrite => exact answers_regWrite h
  | multiwordCaptureRead => exact answers_multiwordCaptureRead h
  | accessError => exact answers_accessError h
  | commitArm => exact answers_commitArm h
  | commitDisarm => exact answers_commitDisarm h
  | groupArm => exact answers_groupArm h
  | groupDisarm => exact answers_groupDisarm h
  | noplanCommitApply => exact answers_noplanCommitApply h
  | tideBoundary => exact answers_tideBoundary h
  | planFirstBoundary => exact answers_planFirstBoundary h
  | slackOpen => exact answers_slackOpen h
  | domainDrained => exact answers_domainDrained h
  | instanceEnable => exact answers_instanceEnable h
  | blockResetReq => exact answers_blockResetReq h
  | blockResetDone => exact answers_blockResetDone h
  | faultAck => exact answers_faultAck h
  | laneRxConverged => exact answers_laneRxConverged h
  | adaptStep => exact answers_adaptStep h
  | adaptStarved => exact answers_adaptStarved h
  | rxFreeze => exact answers_rxFreeze h
  | manualCoefApply => exact answers_manualCoefApply h
  | rxSnrLow => exact answers_rxSnrLow h
  | farOpening => exact answers_farOpening h
  | bcAmpSample => exact answers_bcAmpSample h
  | lmScan => exact answers_lmScan h
  | lmRelease => exact answers_lmRelease h
  | prbsGenEnable => exact answers_prbsGenEnable h
  | prbsInject => exact answers_prbsInject h
  | prbsInjDone => exact answers_prbsInjDone h
  | prbsChkEnable => exact answers_prbsChkEnable h
  | prbsLock => exact answers_prbsLock h
  | prbsLost => exact answers_prbsLost h
  | codewordDecoded => exact answers_codewordDecoded h
  | markerReceived => exact answers_markerReceived h
  | markerMissed => exact answers_markerMissed h
  | dropoutTimeout => exact answers_dropoutTimeout h
  | fecWindow => exact answers_fecWindow h
  | fwdPacketReceived => exact answers_fwdPacketReceived h
  | capReceived => exact answers_capReceived h
  | probeReply => exact answers_probeReply h
  | eqAck => exact answers_eqAck h
  | bcMessageSend => exact answers_bcMessageSend h
  | fsyncDepart => exact answers_fsyncDepart h
  | trainStartResend => exact answers_trainStartResend h
  | signalDetected => exact answers_signalDetected h
  | txeqTrialMeasured => exact answers_txeqTrialMeasured h
  | probeSend => exact answers_probeSend h
  | probeTimeout => exact answers_probeTimeout h
  | verifyPass => exact answers_verifyPass h
  | trainPhaseTimeout => exact answers_trainPhaseTimeout h
  | trainRetry => exact answers_trainRetry h
  | linkRetrain => exact answers_linkRetrain h
  | testStart => exact answers_testStart h
  | testStop => exact answers_testStop h
  | testResend => exact answers_testResend h
  | deskewReceived => exact answers_deskewReceived h
  | csiRxBurst => exact answers_csiRxBurst h
  | clkLoss => exact answers_clkLoss h
  | ulpsTransition => exact answers_ulpsTransition h
  | txUnitReceived => exact answers_txUnitReceived h
  | txLineSlot => exact answers_txLineSlot h
  | txHoldMargin => exact answers_txHoldMargin h
  | txPacketSent => exact answers_txPacketSent h
  | lfsEdge => exact answers_lfsEdge h
  | lfsPulseEnd => exact answers_lfsPulseEnd h
  | lfsReadback => exact answers_lfsReadback h
  | trigEdge => exact answers_trigEdge h
  | trigPop => exact answers_trigPop h
  | frameStart => exact answers_frameStart h
  | pixelPacket => exact answers_pixelPacket h
  | embeddedPacket => exact answers_embeddedPacket h
  | frameEnd => exact answers_frameEnd h
  | lineTimeout => exact answers_lineTimeout h
  | gapMark => exact answers_gapMark h
  | syncDecision => exact answers_syncDecision h
  | tableReadDone => exact answers_tableReadDone h
  | coveUnitStart => exact answers_coveUnitStart h
  | coveUnitEnd => exact answers_coveUnitEnd h
  | statBlockWritten => exact answers_statBlockWritten h
  | frameRecordIssue => exact answers_frameRecordIssue h
  | channelTrained => exact answers_channelTrained h
  | eccFillStart => exact answers_eccFillStart h
  | eccFillDone => exact answers_eccFillDone h
  | refresh => exact answers_refresh h
  | refreshRatePoll => exact answers_refreshRatePoll h
  | patrolScrub => exact answers_patrolScrub h
  | creditRefill => exact answers_creditRefill h
  | classOverCheck => exact answers_classOverCheck h
  | memRequest => exact answers_memRequest h
  | schedDecision => exact answers_schedDecision h
  | memRequestDone => exact answers_memRequestDone h
  | jobDispatch => exact answers_jobDispatch h
  | jobTimeout => exact answers_jobTimeout h
  | bulkStarved => exact answers_bulkStarved h
  | trInvalidate => exact answers_trInvalidate h
  | invDone => exact answers_invDone h
  | driftAdd => exact answers_driftAdd h
  | driftSetNext => exact answers_driftSetNext h
  | descFetched => exact answers_descFetched h
  | driftTrigger => exact answers_driftTrigger h
  | driftTrig => exact answers_driftTrig h
  | driftPause => exact answers_driftPause h
  | driftResume => exact answers_driftResume h
  | driftAbort => exact answers_driftAbort h
  | driftAbortDone => exact answers_driftAbortDone h
  | driftBurstGrant => exact answers_driftBurstGrant h
  | driftBurstDone => exact answers_driftBurstDone h
  | driftFrameUnit => exact answers_driftFrameUnit h
  | perstAssert => exact answers_perstAssert h
  | perstDeassert => exact answers_perstDeassert h
  | pcieLinkDown => exact answers_pcieLinkDown h
  | configRequest => exact answers_configRequest h
  | apertureAccess => exact answers_apertureAccess h
  | msixTableWrite => exact answers_msixTableWrite h
  | pcieCompletion => exact answers_pcieCompletion h
  | completionTimeout => exact answers_completionTimeout h
  | msixFire => exact answers_msixFire h
  | aspmL1Entry => exact answers_aspmL1Entry h
  | controllerTakeover => exact answers_controllerTakeover h
  | windowRead => exact answers_windowRead h
  | windowWrite => exact answers_windowWrite h
  | txnReplyReceived => exact answers_txnReplyReceived h
  | jettyBudgetTimeout => exact answers_jettyBudgetTimeout h
  | jettyBusyRetry => exact answers_jettyBusyRetry h
  | jettyLateExpire => exact answers_jettyLateExpire h
  | txqGo => exact answers_txqGo h
  | mirrorCycleStart => exact answers_mirrorCycleStart h
  | mirrorCycleEnd => exact answers_mirrorCycleEnd h
  | mirrorValueWrite => exact answers_mirrorValueWrite h
  | sintEdge => exact answers_sintEdge h
  | ibiReceived => exact answers_ibiReceived h
  | evqPop => exact answers_evqPop h
  | pollSend => exact answers_pollSend h
  | pollReply => exact answers_pollReply h
  | localTxnDone => exact answers_localTxnDone h
  | localBusTimeout => exact answers_localBusTimeout h
  | localBusRecovery => exact answers_localBusRecovery h
  | domainEnable => exact answers_domainEnable h
  | domainOffsetWrite => exact answers_domainOffsetWrite h
  | servoSample => exact answers_servoSample h
  | domainSampleTimeout => exact answers_domainSampleTimeout h
  | tmSelWrite => exact answers_tmSelWrite h
  | presetWrite => exact answers_presetWrite h
  | ethFrameRx => exact answers_ethFrameRx h
  | ethFrameTx => rw [exec]; exact answers_ethFrameTx h
  | tsPop => exact answers_tsPop h
  | fdbWrite => exact answers_fdbWrite h
  | fdbRead => exact answers_fdbRead h
  | fdbAgeOut => exact answers_fdbAgeOut h
  | gclChange => exact answers_gclChange h
  | gclCycleStart => exact answers_gclCycleStart h
  | gclEntryAdvance => exact answers_gclEntryAdvance h
  | mgTxGo => exact answers_mgTxGo h
  | mgRxPop => exact answers_mgRxPop h
  | mgRxDataRead => exact answers_mgRxDataRead h
  | streamUnit => exact answers_streamUnit h
  | streamFrameSend => exact answers_streamFrameSend h
  | soundingConfigWrite => exact answers_soundingConfigWrite h
  | soundingArm => exact answers_soundingArm h
  | heartbeatWireEdge => exact answers_heartbeatWireEdge h
  | heartbeatMailbox => exact answers_heartbeatMailbox h
  | halfDegraded => exact answers_halfDegraded h
  | heartbeatFailure => exact answers_heartbeatFailure h
  | halfFailure => exact answers_halfFailure h
  | dualActEnd => exact answers_dualActEnd h
  | bistSliceDone => exact answers_bistSliceDone h
  | halfRepair => exact answers_halfRepair h
  | repairDone => exact answers_repairDone h
  | switchRequest => exact answers_switchRequest h
  | faultOccurrence => exact answers_faultOccurrence h
  | quietWindowClose => exact answers_quietWindowClose h
  | bwLock => exact answers_bwLock h
  | faultInject => exact answers_faultInject h
  | errNRelease => exact answers_errNRelease h
  | beaconFiring => exact answers_beaconFiring h
  | beaconLevelFall => exact answers_beaconLevelFall h
  | beaconEoi => exact answers_beaconEoi h
  | beaconSet => exact answers_beaconSet h
  | beaconClr => exact answers_beaconClr h
  | beaconWatchdog => exact answers_beaconWatchdog h
  | lockstepMismatch => exact answers_lockstepMismatch h
  | pairRebootDone => exact answers_pairRebootDone h
  | coreWatchdog => exact answers_coreWatchdog h
  | cmdDoorbell => exact answers_cmdDoorbell h
  | cplHeadWrite => exact answers_cplHeadWrite h
  | fwStepBoundary => exact answers_fwStepBoundary h
  | nop => exact answers_nop h
  | planSubmit => exact answers_planSubmit h
  | planWithdraw => exact answers_planWithdraw h
  | tableLoad => exact answers_tableLoad h
  | defectLearn => exact answers_defectLearn h
  | scrubHalf => exact answers_scrubHalf h
  | checkBuffer => exact answers_checkBuffer h
  | loopCtrl => exact answers_loopCtrl h
  | linkPolicy => exact answers_linkPolicy h
  | failoverPolicy => exact answers_failoverPolicy h
  | cancel => exact answers_cancel h
  | loopUpdate => exact answers_loopUpdate h
  | linkPolicyRestore => exact answers_linkPolicyRestore h
  | autoRepair => exact answers_autoRepair h
  | porRelease => exact answers_porRelease h
  | supplyLoss => exact answers_supplyLoss h
  | avsUpdate => exact answers_avsUpdate h
  | avsCommandDone => exact answers_avsCommandDone h
  | powerReq => exact answers_powerReq h
  | domainPowerAck => exact answers_domainPowerAck h
  | domainAckTimeout => exact answers_domainAckTimeout h
  | domainDrop => exact answers_domainDrop h
  | refCheck => exact answers_refCheck h
  | pllUnlock => exact answers_pllUnlock h
  | softResetArm => exact answers_softResetArm h
  | softResetGo => exact answers_softResetGo h
  | chipReset => exact answers_chipReset h
  | bootStart => exact answers_bootStart h
  | bootSegment => exact answers_bootSegment h
  | bootFail => exact answers_bootFail h
  | sleepGo => exact answers_sleepGo h
  | wake => exact answers_wake h
  | tempSample => exact answers_tempSample h
  | gpioCfgWrite => exact answers_gpioCfgWrite h
  | gpioReadback => exact answers_gpioReadback h
  | tapInstruction => exact answers_tapInstruction h
  | copyMismatch => exact answers_copyMismatch h
  | ltssmTransition => exact answers_ltssmTransition h
  | macLinkChange => exact answers_macLinkChange h
  | csiClkReturn => exact answers_csiClkReturn h
  | pllRelock => exact answers_pllRelock h
  | springBoundary => exact answers_springBoundary h
  | planStaged => exact answers_planStaged h
  | domainFailover => exact answers_domainFailover h
  | domainRevert => exact answers_domainRevert h
  | slewDone => exact answers_slewDone h
  | healthReportTimer => exact answers_healthReportTimer h
  | switchApply => exact answers_switchApply h
  | errTogToggle => exact answers_errTogToggle h
  | togReadback => exact answers_togReadback h
  | beaconDeliver => exact answers_beaconDeliver h
  | cplFullTimeout => exact answers_cplFullTimeout h
  | stepReport => exact answers_stepReport h
  | refRange => exact answers_refRange h
  | pcieRefLost => exact answers_pcieRefLost h
  | pinReset => exact answers_pinReset h
  | resetNRise => exact answers_resetNRise h
  | bootDone => exact answers_bootDone h
  | sleepDrained => exact answers_sleepDrained h
  | sleepAbort => exact answers_sleepAbort h
  | errnStuck => exact answers_errnStuck h
  | tapReset => exact answers_tapReset h
  | pcieRefReturn => exact answers_pcieRefReturn h

theorem answers_step (s : State) : ∃ t, step s = .next t ∧ t.pending = s.pending.tail ∧ (s.canonical = true → t.canonical = true) := by
  rw [step]
  split
  · rename_i hempty
    have hidle : Quiet False s s.idleCycle := (Quiet.refl s).idleCycle
    exact ⟨s.idleCycle, rfl, by rw [hidle.pending, hempty, List.tail], hidle.canonical⟩
  · obtain ⟨t, ht, hquiet⟩ := answers_exec _ (Quiet.refl s.popCommand)
    exact ⟨t, ht, hquiet.pending, hquiet.canonical⟩

/-- Settles O4: no command writes the queue, which a step shortens by its front command before it runs. -/
theorem everyStepTakesOneCommandOffTheQueue : Obligations.EveryStepTakesOneCommandOffTheQueue := fun s => by
  obtain ⟨t, ht, hpending, -⟩ := answers_step s
  exact ⟨t, ht, hpending⟩

/-- Settles O3: every operation on the state keeps the canonical form of what it writes (`Quiet`). -/
theorem everyStepKeepsTheCanonicalForm : Obligations.EveryStepKeepsTheCanonicalForm := fun s t hs ht => by
  obtain ⟨u, hu, -, hcanonical⟩ := answers_step s
  obtain rfl : u = t := by rw [hu] at ht; injection ht
  exact hcanonical hs

/-- Settles O1: `step` says it. -/
theorem stepRunsTheFrontCommand : Obligations.StepRunsTheFrontCommand :=
  ⟨fun c r s h => by rw [step, h, State.popCommand, h]; rfl, fun s h => by rw [step, h]⟩

end Sys2Proof.Machine
end

section
/-!
PROOFS. Reads of a field after an operation, and which places of the registers an operation writes: one rule an operation.
-/
namespace Sys2Proof.Machine

@[simp] theorem Field.nth_off (f : Field) (i j : Nat) : (f.nth i j).off = f.off + f.stride * i + f.stride2 * j := rfl
@[simp] theorem Field.nth_lo (f : Field) (i j : Nat) : (f.nth i j).lo = f.lo := rfl
@[simp] theorem Field.nth_size (f : Field) (i j : Nat) : (f.nth i j).size = f.size := rfl

theorem hasBit_mod {m b : Nat} (h : b < 32) : hasBit (m % 2 ^ 32) b = hasBit m b := by
  rw [hasBit, Nat.testBit_mod_two_pow, decide_eq_true h, Bool.true_and, hasBit]

theorem bitsOf_one (w k : Nat) : bitsOf w k k = bit (w.testBit k) := by
  simp only [bitsOf, Nat.sub_self, Nat.zero_add, Nat.pow_one, Nat.testBit_eq_decide_div_mod_eq, bit]
  rcases Nat.mod_two_eq_zero_or_one (w / 2 ^ k) with h | h <;> simp [h]

/-! ## Fields read after an operation -/

section
variable (s : State) {pg pg' : Nat} {f g : Field}

theorem State.get_event (b : Nat) : (s.event pg b).get pg' g =
    if fieldKey pg Hdr.EVT_STAT_EVENT = fieldKey pg' g then setBit (s.get pg Hdr.EVT_STAT_EVENT) b % 2 ^ 32 else s.get pg' g :=
  State.get_put ..

theorem State.get_eventIf_other (c : Bool) (b : Nat) (h : fieldKey pg Hdr.EVT_STAT_EVENT ≠ fieldKey pg' g) :
    (s.eventIf c pg b).get pg' g = s.get pg' g := by
  cases c with
  | true => exact State.get_put_other _ _ h
  | false => rfl

theorem State.get_countSat (n : Nat) : (s.countSat pg f n).get pg' g =
    if fieldKey pg f = fieldKey pg' g then min (s.get pg f + n) (f.size - 1) % f.size else s.get pg' g := State.get_put ..

theorem State.get_countSat_same (n : Nat) : (s.countSat pg f n).get pg f = min (s.get pg f + n) (f.size - 1) := by
  have hpos := f.size_pos
  rw [State.countSat, State.get_put_same, Nat.mod_eq_of_lt (by omega)]

theorem State.get_countWrap (n : Nat) : (s.countWrap pg f n).get pg' g =
    if fieldKey pg f = fieldKey pg' g then (s.get pg f + n) % f.size else s.get pg' g := State.get_put ..

theorem State.get_putMax (v : Nat) : (s.putMax pg f v).get pg' g =
    if fieldKey pg f = fieldKey pg' g then max (s.get pg f) (min v (f.size - 1)) % f.size else s.get pg' g :=
  State.get_put ..

theorem State.get_putFit_other (v : Int) (h : fieldKey pg f ≠ fieldKey pg' g) : (s.putFit pg f v).get pg' g = s.get pg' g := by
  unfold State.putFit
  split
  · exact State.get_put_other _ _ h
  · exact (State.get_put_other _ _ h)

theorem State.get_foldl_other {α : Type} {op : State → α → State} {l : List α} (h : ∀ s, ∀ a ∈ l, (op s a).get pg f = s.get pg f) :
    (l.foldl op s).get pg f = s.get pg f := by
  induction l generalizing s with
  | nil => rfl
  | cons a l ih => rw [List.foldl, ih _ fun s b hb => h s b (List.mem_cons_of_mem _ hb), h s a (List.mem_cons_self ..)]

end

/-! ## Event bits -/

section
variable (s : State) {pg pg' : Nat} {g : Field}

theorem State.eventBit_event_of_page {b c : Nat} (h : c < 32) : (s.event pg b).eventBit pg c = (s.eventBit pg c || decide (b = c)) := by
  rw [State.eventBit, State.event, State.get_put_same, show Hdr.EVT_STAT_EVENT.size = 2 ^ 32 from rfl, hasBit_mod h, hasBit_setBit, State.eventBit]

theorem State.eventBit_eventIf {b c : Nat} {p : Bool} (h : c < 32) :
    (s.eventIf p pg b).eventBit pg c = (s.eventBit pg c || (p && decide (b = c))) := by
  cases p with
  | true => rw [State.eventIf, if_pos rfl, State.eventBit_event_of_page s h, Bool.true_and]
  | false => simp [State.eventIf]

theorem State.eventBit_put_other {c : Nat} {f : Field} (v : Nat) (h : fieldKey pg f ≠ fieldKey pg' Hdr.EVT_STAT_EVENT) :
    (s.put pg f v).eventBit pg' c = s.eventBit pg' c := by rw [State.eventBit, State.get_put_other _ _ h, State.eventBit]

/-- An event bit is the register's. -/
theorem State.eventBit_congr {t : State} {pg : Nat} (h : t.get pg Hdr.EVT_STAT_EVENT = s.get pg Hdr.EVT_STAT_EVENT) (b : Nat) :
    t.eventBit pg b = s.eventBit pg b := by rw [State.eventBit, h, State.eventBit]

end

/-! ## Which places an operation writes -/

section
variable {s t : State} {ks : List Nat}

theorem OnlyRegs.event (h : OnlyRegs s t ks) (pg b : Nat) (hk : fieldKey pg Hdr.EVT_STAT_EVENT ∈ ks) : OnlyRegs s (t.event pg b) ks :=
  h.put _ _ _ hk

theorem OnlyRegs.eventIf (h : OnlyRegs s t ks) (c : Bool) (pg b : Nat) (hk : fieldKey pg Hdr.EVT_STAT_EVENT ∈ ks) :
    OnlyRegs s (t.eventIf c pg b) ks := by
  cases c with
  | true => exact h.event _ _ hk
  | false => exact h

/-- A fault condition writes FLT_STAT of its page at most. -/
theorem OnlyRegs.raise (h : OnlyRegs s t ks) (pg b : Nat) (hk : fieldKey pg Hdr.FLT_STAT_FAULT ∈ ks) : OnlyRegs s (t.raise pg b) ks := by
  unfold State.raise
  split
  · exact h
  · exact OnlyRegs.put (t := t.putMarks _ _) h _ _ _ hk

theorem OnlyRegs.ite {c : Prop} [Decidable c] {u : State} (h : OnlyRegs s t ks) (h' : OnlyRegs s u ks) :
    OnlyRegs s (if c then t else u) ks := by
  split <;> assumption

theorem OnlyRegs.foldl {α : Type} {f : State → α → State} {l : List α} (h : OnlyRegs s t ks)
    (hf : ∀ t, ∀ a ∈ l, OnlyRegs s t ks → OnlyRegs s (f t a) ks) : OnlyRegs s (l.foldl f t) ks := by
  induction l generalizing t with
  | nil => exact h
  | cons a l ih => exact ih (hf t a (List.mem_cons_self ..) h) fun t b hb => hf t b (List.mem_cons_of_mem _ hb)

theorem OnlyRegs.mono {ks' : List Nat} (h : OnlyRegs s t ks) (hs : ∀ k ∈ ks, k ∈ ks') : OnlyRegs s t ks' :=
  fun k hk => h k fun hm => hk (hs k hm)

/-- A field at a place that is not written reads as before. -/
theorem OnlyRegs.get (h : OnlyRegs s t ks) {pg : Nat} {f : Field} (hk : fieldKey pg f ∉ ks) : t.get pg f = s.get pg f := h _ hk

end

/-- A command that writes no local memory leaves it as it is. -/
theorem SameMemory.of_exec {s t : State} {i : Instr} (ht : exec i s = .next t) (h : Answers True s (exec i s)) : SameMemory s t := by
  obtain ⟨u, hu, hquiet⟩ := h
  obtain rfl : u = t := by rw [hu] at ht; injection ht
  exact hquiet.sameMemory

/-! ## Faults -/

theorem SameFaults.refl (s : State) : SameFaults s s := ⟨rfl, rfl⟩

theorem SameFaults.trans {s t u : State} (h : SameFaults s t) (h' : SameFaults t u) : SameFaults s u :=
  ⟨h'.1.trans h.1, h'.2.trans h.2⟩

theorem State.condBit_cond (s : State) (pg b : Nat) (p : Bool) : (s.cond pg b p).condBit pg b = p := by
  cases p with
  | true => exact State.condBit_raise _ _ _
  | false => exact State.condBit_lower _ _ _

end Sys2Proof.Machine
end

section
/-!
PROOFS. What a write of the window does by access code (R10), and where the statement of O5 fails.
-/
namespace Sys2Proof.Machine

/-- A write of EVT_EN of page 0x380 by LP0, in x16 mode, right after reset: both controllers take it (R346). -/
theorem reset_write_EVT_EN_x16 :
    State.reset.takesWrite .lp0 0x380024 = true ∧ State.reset.get 0x390 Hdr.EVT_EN_ENABLE = 0 ∧
      (State.reset.writeAccess .lp0 0x380024 2 1).get 0x390 Hdr.EVT_EN_ENABLE = 1 := by
  decide +kernel

/-- Refutes O5: in x16 mode both controllers hold one state, so a write of EVT_EN of page 0x380 is a write of page 0x390's too. -/
theorem not_registerWritesFollowTheAccessCode : ¬ Obligations.RegisterWritesFollowTheAccessCode := by
  intro h
  obtain ⟨henable, -⟩ := h
  obtain ⟨htakes, hbefore, hafter⟩ := reset_write_EVT_EN_x16
  obtain ⟨t, ht, -, honly, -, -⟩ := henable .lp0 0x380 0x380024 1 State.reset rfl htakes rfl
  obtain rfl : State.reset.writeAccess .lp0 0x380024 2 1 = t := by injection ht
  have hkept : (State.reset.writeAccess .lp0 0x380024 2 1).get 0x390 Hdr.EVT_EN_ENABLE = State.reset.get 0x390 Hdr.EVT_EN_ENABLE :=
    honly (fieldKey 0x390 Hdr.EVT_EN_ENABLE) (by decide)
  rw [hbefore, hafter] at hkept
  cases hkept

end Sys2Proof.Machine
end

section
/-!
PROOFS. Logged accesses (R80, R81).
-/
namespace Sys2Proof.Machine

variable {s t : State} {ks : List Nat}

/-- The fields of the access-error record (R80). -/
def accessErrorKeys : List Nat :=
  [Chip.ACC_ERR_COUNT_COUNT, Chip.ACC_ERR_ADDR_OFFSET, Chip.ACC_ERR_INFO_VALID, Chip.ACC_ERR_INFO_OVERFLOW, Chip.ACC_ERR_INFO_REQUESTER,
    Chip.ACC_ERR_INFO_WRITE, Chip.ACC_ERR_INFO_BYTE_EN, Chip.ACC_ERR_INFO_CAUSE, Hdr.FLT_STAT_FAULT].map (fieldKey 0x1)

theorem OnlyRegs.logAccess (s : State) (req : Requester) (off : Nat) (write : Bool) (be cause : Nat) :
    OnlyRegs s (s.logAccess req off write be cause) accessErrorKeys := by
  have hcount : OnlyRegs s (s.countSat 0x1 Chip.ACC_ERR_COUNT_COUNT) accessErrorKeys := (OnlyRegs.refl s _).put _ _ _ (by decide)
  unfold State.logAccess
  extract_lets s₁
  split
  · exact hcount.put _ _ _ (by decide)
  · exact ((((((hcount.put _ _ _ (by decide)).put _ _ _ (by decide)).put _ _ _ (by decide)).put _ _ _ (by decide)).put _ _ _ (by decide)).put
      _ _ _ (by decide)).raise _ _ (by decide)

theorem State.flag_VALID_countSat (s : State) :
    (s.countSat 0x1 Chip.ACC_ERR_COUNT_COUNT).flag 0x1 Chip.ACC_ERR_INFO_VALID = s.flag 0x1 Chip.ACC_ERR_INFO_VALID := by
  simp [State.flag, State.countSat, State.get_put, Chip.ACC_ERR_COUNT_COUNT, Chip.ACC_ERR_INFO_VALID]

/-- With a record held only the count and OVERFLOW change. -/
theorem State.logAccess_held {s : State} (h : s.flag 0x1 Chip.ACC_ERR_INFO_VALID = true) (req : Requester) (off : Nat) (write : Bool)
    (be cause : Nat) :
    s.logAccess req off write be cause = (s.countSat 0x1 Chip.ACC_ERR_COUNT_COUNT).put 0x1 Chip.ACC_ERR_INFO_OVERFLOW 1 := by
  simp only [State.logAccess, State.flag_VALID_countSat, h, if_true]

/-- With none held the access is recorded, and the fault condition of page accesses is raised. -/
theorem State.logAccess_free {s : State} (h : s.flag 0x1 Chip.ACC_ERR_INFO_VALID = false) (req : Requester) (off : Nat) (write : Bool)
    (be cause : Nat) :
    s.logAccess req off write be cause =
      (((((((s.countSat 0x1 Chip.ACC_ERR_COUNT_COUNT).put 0x1 Chip.ACC_ERR_ADDR_OFFSET off).put 0x1 Chip.ACC_ERR_INFO_REQUESTER req.code).put 0x1
        Chip.ACC_ERR_INFO_WRITE (bit write)).put 0x1 Chip.ACC_ERR_INFO_BYTE_EN be).put 0x1 Chip.ACC_ERR_INFO_CAUSE cause).put 0x1
        Chip.ACC_ERR_INFO_VALID 1).raise 0x1 0 := by
  simp only [State.logAccess, State.flag_VALID_countSat, h, Bool.false_eq_true, if_false]

theorem State.logAccess_count (s : State) (req : Requester) (off : Nat) (write : Bool) (be cause : Nat) :
    (s.logAccess req off write be cause).get 0x1 Chip.ACC_ERR_COUNT_COUNT =
      min (s.get 0x1 Chip.ACC_ERR_COUNT_COUNT + 1) 0xFFFFFFFF % 2 ^ 32 := by
  have hsize : Chip.ACC_ERR_COUNT_COUNT.size = 2 ^ 32 := rfl
  cases h : s.flag 0x1 Chip.ACC_ERR_INFO_VALID with
  | true => simp +decide [State.logAccess_held h, State.get_put, State.countSat, hsize]
  | false => simp +decide [State.logAccess_free h, State.get_raise_other, State.get_put, State.countSat, hsize]

theorem State.logAccess_record {s : State} (h : s.flag 0x1 Chip.ACC_ERR_INFO_VALID = false) (req : Requester) (off : Nat) (write : Bool)
    (be cause : Nat) (hoff : off < 0x4000000) :
    let t := s.logAccess req off write be cause
    t.get 0x1 Chip.ACC_ERR_ADDR_OFFSET = off ∧ t.get 0x1 Chip.ACC_ERR_INFO_REQUESTER = req.code % 8 ∧
      t.flag 0x1 Chip.ACC_ERR_INFO_WRITE = write ∧ t.get 0x1 Chip.ACC_ERR_INFO_BYTE_EN = be % 16 ∧
      t.get 0x1 Chip.ACC_ERR_INFO_CAUSE = cause % 16 ∧ t.flag 0x1 Chip.ACC_ERR_INFO_VALID = true ∧ t.condBit 0x1 0 = true := by
  intro t
  have ht : t = _ := State.logAccess_free h req off write be cause
  refine ⟨?_, ?_, ?_, ?_, ?_, ?_, ?_⟩
  · have hsize : Chip.ACC_ERR_ADDR_OFFSET.size = 0x4000000 := rfl
    simp +decide [ht, State.get_raise_other, State.get_put, hsize, Nat.mod_eq_of_lt hoff]
  · have hsize : Chip.ACC_ERR_INFO_REQUESTER.size = 8 := rfl
    simp +decide [ht, State.get_raise_other, State.get_put, hsize]
  · cases write <;> simp +decide [ht, State.flag, State.get_raise_other, State.get_put, bit]
  · have hsize : Chip.ACC_ERR_INFO_BYTE_EN.size = 16 := rfl
    simp +decide [ht, State.get_raise_other, State.get_put, hsize]
  · have hsize : Chip.ACC_ERR_INFO_CAUSE.size = 16 := rfl
    simp +decide [ht, State.get_raise_other, State.get_put, hsize]
  · simp +decide [ht, State.flag, State.get_raise_other]
  · rw [ht]
    exact State.condBit_raise _ _ _

theorem State.logAccess_overflow {s : State} (h : s.flag 0x1 Chip.ACC_ERR_INFO_VALID = true) (req : Requester) (off : Nat) (write : Bool)
    (be cause : Nat) :
    let t := s.logAccess req off write be cause
    t.flag 0x1 Chip.ACC_ERR_INFO_OVERFLOW = true ∧
      OnlyRegs s t [fieldKey 0x1 Chip.ACC_ERR_COUNT_COUNT, fieldKey 0x1 Chip.ACC_ERR_INFO_OVERFLOW] := by
  intro t
  have ht : t = _ := State.logAccess_held h req off write be cause
  refine ⟨by simp +decide [ht, State.flag], ?_⟩
  rw [ht]
  exact ((OnlyRegs.refl s _).put _ _ _ (by simp)).put _ _ _ (by simp)

theorem exec_accessError {req : Requester} {off : Fin 0x4000000} {k : Fin 4} {write : Bool} {c : Nat} {s : State}
    (hc : s.accessCause write off (2 ^ k.val) = some c) (hreach : s.reaches req = true) (hterm : write = true → s.terminal = false) :
    exec (.accessError req off k write) s = .next (if write then s.logAccess req off write (byteEnables off (2 ^ k.val)) c
      else (s.logAccess req off write (byteEnables off (2 ^ k.val)) c).emit (.readData req off [0])) := by
  rw [exec, execAccessError, hreach, hc]
  cases write with
  | true => simp [hterm]
  | false => simp

@[simp] theorem State.out_logAccess (s : State) (req : Requester) (off : Nat) (write : Bool) (be cause : Nat) :
    (s.logAccess req off write be cause).out = s.out := by
  cases h : s.flag 0x1 Chip.ACC_ERR_INFO_VALID with
  | true => simp [State.logAccess_held h]
  | false => simp [State.logAccess_free h]

/-- Settles O6, by the two ways a logged access goes: recorded, or counted beside the record held. -/
theorem loggedAccessesAreCountedAndTheFirstIsRecorded : Obligations.LoggedAccessesAreCountedAndTheFirstIsRecorded := by
  intro req off k write c s hc hreach hterm
  refine ⟨_, exec_accessError hc hreach hterm, ?_⟩
  have hquiet : Quiet True s (s.logAccess req off write (byteEnables off (2 ^ k.val)) c) := (Quiet.refl s).logAccess
  cases write with
  | true =>
    exact ⟨State.logAccess_count .., fun h => State.logAccess_record h _ _ _ _ _ off.isLt, fun h => State.logAccess_overflow h ..,
      OnlyRegs.logAccess _ _ _ _ _ _, hquiet.sameMemory, fun h => by cases h⟩
  | false =>
    exact ⟨State.logAccess_count .., fun h => State.logAccess_record h _ _ _ _ _ off.isLt, fun h => State.logAccess_overflow h ..,
      OnlyRegs.logAccess _ _ _ _ _ _, hquiet.emit.sameMemory, fun _ => by simp [State.emit]⟩

end Sys2Proof.Machine
end

section
/-!
PROOFS. COMMIT of a page (R39).
-/
namespace Sys2Proof.Machine

variable {s : State}

/-- What a write of COMMIT does: each field in turn. -/
theorem State.writeCommit_eq (s : State) (pg w : Nat) :
    s.writeCommit pg w =
      let u := if s.flag pg Hdr.COMMIT_PENDING || s.flag pg Hdr.COMMIT_CAPTURED then s else s.put pg Hdr.COMMIT_GROUP (bitsOf w 5 0)
      let v := if w.testBit 27 then u.put pg Hdr.COMMIT_DONE 0 else u
      if w.testBit 31 && !w.testBit 30 then v.put pg Hdr.COMMIT_PENDING 1
      else if !w.testBit 31 && w.testBit 30 then v.put pg Hdr.COMMIT_PENDING 0 else v := by
  unfold State.writeCommit
  cases w.testBit 31 <;> cases w.testBit 30 <;> rfl

theorem State.writeCommit_keeps (s : State) (pg w : Nat) :
    OnlyRegs s (s.writeCommit pg w) [fieldKey pg Hdr.COMMIT_PENDING, fieldKey pg Hdr.COMMIT_GROUP, fieldKey pg Hdr.COMMIT_DONE] ∧
      (s.writeCommit pg w).commit = s.commit ∧ SameFaults s (s.writeCommit pg w) := by
  rw [State.writeCommit_eq]
  extract_lets u v
  have hu : OnlyRegs s u [fieldKey pg Hdr.COMMIT_PENDING, fieldKey pg Hdr.COMMIT_GROUP, fieldKey pg Hdr.COMMIT_DONE] ∧ u.commit = s.commit ∧
      SameFaults s u := by
    simp only [u]
    split
    · exact ⟨OnlyRegs.refl _ _, rfl, rfl, rfl⟩
    · exact ⟨(OnlyRegs.refl _ _).put _ _ _ (by simp), rfl, rfl, rfl⟩
  have hv : OnlyRegs s v [fieldKey pg Hdr.COMMIT_PENDING, fieldKey pg Hdr.COMMIT_GROUP, fieldKey pg Hdr.COMMIT_DONE] ∧ v.commit = s.commit ∧
      SameFaults s v := by
    simp only [v]
    split
    · exact ⟨hu.1.put _ _ _ (by simp), hu.2⟩
    · exact hu
  split
  · exact ⟨hv.1.put _ _ _ (by simp), hv.2⟩
  · split
    · exact ⟨hv.1.put _ _ _ (by simp), hv.2⟩
    · exact hv

theorem State.writeCommit_PENDING (s : State) (pg w : Nat) :
    (s.writeCommit pg w).get pg Hdr.COMMIT_PENDING =
      if w.testBit 31 && !w.testBit 30 then 1 else if !w.testBit 31 && w.testBit 30 then 0 else s.get pg Hdr.COMMIT_PENDING := by
  rw [State.writeCommit_eq]
  extract_lets u v
  have hu : u.get pg Hdr.COMMIT_PENDING = s.get pg Hdr.COMMIT_PENDING := by
    simp only [u]
    split
    · rfl
    · exact State.get_put_other _ _ (by simp [Hdr.COMMIT_GROUP, Hdr.COMMIT_PENDING])
  have hv : v.get pg Hdr.COMMIT_PENDING = s.get pg Hdr.COMMIT_PENDING := by
    simp only [v]
    split
    · rw [State.get_put_other _ _ (by simp [Hdr.COMMIT_DONE, Hdr.COMMIT_PENDING]), hu]
    · exact hu
  split
  · exact State.get_put_same ..
  · split
    · exact State.get_put_same ..
    · exact hv

theorem State.writeCommit_GROUP (s : State) (pg w : Nat) :
    (s.writeCommit pg w).get pg Hdr.COMMIT_GROUP =
      if s.flag pg Hdr.COMMIT_PENDING || s.flag pg Hdr.COMMIT_CAPTURED then s.get pg Hdr.COMMIT_GROUP else w % 64 := by
  have hkeep : ∀ (t : State) (v : Nat), (t.put pg Hdr.COMMIT_PENDING v).get pg Hdr.COMMIT_GROUP = t.get pg Hdr.COMMIT_GROUP := fun t v =>
    State.get_put_other _ _ (by simp [Hdr.COMMIT_GROUP, Hdr.COMMIT_PENDING])
  have hdone : ∀ (t : State) (v : Nat), (t.put pg Hdr.COMMIT_DONE v).get pg Hdr.COMMIT_GROUP = t.get pg Hdr.COMMIT_GROUP := fun t v =>
    State.get_put_other _ _ (by simp [Hdr.COMMIT_GROUP, Hdr.COMMIT_DONE])
  have hsize : Hdr.COMMIT_GROUP.size = 64 := rfl
  rw [State.writeCommit_eq]
  simp only [apply_ite (State.get · pg Hdr.COMMIT_GROUP), hkeep, hdone, ite_self, State.get_put_same, hsize]
  simp [bitsOf]

theorem State.writeCommit_DONE (s : State) (pg w : Nat) :
    (s.writeCommit pg w).get pg Hdr.COMMIT_DONE = if w.testBit 27 then 0 else s.get pg Hdr.COMMIT_DONE := by
  have hkeep : ∀ (t : State) (v : Nat), (t.put pg Hdr.COMMIT_PENDING v).get pg Hdr.COMMIT_DONE = t.get pg Hdr.COMMIT_DONE := fun t v =>
    State.get_put_other _ _ (by simp [Hdr.COMMIT_DONE, Hdr.COMMIT_PENDING])
  have hgroup : ∀ (t : State) (v : Nat), (t.put pg Hdr.COMMIT_GROUP v).get pg Hdr.COMMIT_DONE = t.get pg Hdr.COMMIT_DONE := fun t v =>
    State.get_put_other _ _ (by simp [Hdr.COMMIT_GROUP, Hdr.COMMIT_DONE])
  rw [State.writeCommit_eq]
  simp only [apply_ite (State.get · pg Hdr.COMMIT_DONE), hkeep, hgroup, ite_self, State.get_put_same, Nat.zero_mod]

theorem testBit_or_bit (w : Word) (b k : Nat) : (w.toNat ||| 2 ^ b).testBit k = (w.getLsbD k || decide (b = k)) := by
  rw [Nat.testBit_or, Nat.testBit_two_pow, BitVec.testBit_toNat]

/-- Settles O8: a write of COMMIT, with the bit of its command set. -/
theorem commitArmsAndDisarmsAPage : Obligations.CommitArmsAndDisarmsAPage := by
  refine ⟨fun req pg w s hs => ?_, fun req pg w s hs => ?_⟩
  · refine ⟨_, by rw [exec, execCommitArm, State.onWrite_served hs], ?_⟩
    obtain ⟨honly, hcommit, hfaults⟩ := s.writeCommit_keeps pg (w.toNat ||| 2 ^ 31)
    have hmem : SameMemory s (s.writeCommit pg (w.toNat ||| 2 ^ 31)) := (Quiet.refl s).writeCommit.sameMemory
    have hmod : (w.toNat ||| 2 ^ 31) % 64 = w.toNat % 64 := by
      rw [show 64 = 2 ^ 6 from rfl, Nat.or_mod_two_pow]
      simp
    have h31 : (w.toNat ||| 2 ^ 31).testBit 31 = true := by rw [testBit_or_bit]; simp
    have h30 : (w.toNat ||| 2 ^ 31).testBit 30 = w.getLsbD 30 := by rw [testBit_or_bit]; simp
    have h27 : (w.toNat ||| 2 ^ 31).testBit 27 = w.getLsbD 27 := by rw [testBit_or_bit]; simp
    refine ⟨fun h => ?_, fun h => ?_, ?_, ?_, honly, hcommit, hmem, hfaults⟩
    · rw [State.writeCommit_PENDING, h31, h30, h]
      rfl
    · rw [State.writeCommit_PENDING, h31, h30, h]
      rfl
    · rw [State.writeCommit_GROUP, hmod]
    · rw [State.writeCommit_DONE, h27]
  · refine ⟨_, by rw [exec, execCommitDisarm, State.onWrite_served hs], ?_⟩
    obtain ⟨honly, hcommit, hfaults⟩ := s.writeCommit_keeps pg (w.toNat ||| 2 ^ 30)
    have hmem : SameMemory s (s.writeCommit pg (w.toNat ||| 2 ^ 30)) := (Quiet.refl s).writeCommit.sameMemory
    have h30 : (w.toNat ||| 2 ^ 30).testBit 30 = true := by rw [testBit_or_bit]; simp
    have h31 : (w.toNat ||| 2 ^ 30).testBit 31 = w.getLsbD 31 := by rw [testBit_or_bit]; simp
    refine ⟨fun h => ?_, fun h => ?_, honly, hcommit, hmem, hfaults⟩
    · rw [State.writeCommit_PENDING, h31, h30, h]
      rfl
    · rw [State.writeCommit_PENDING, h31, h30, h]
      rfl

end Sys2Proof.Machine
end

section
/-!
PROOFS. Arming and disarming a commit group (R41, R42, R44).
-/
namespace Sys2Proof.Machine

/-- What GRP_CTRL takes of a write before its commands: AT_TIDE, and FAMILY where the group is free and the code is one. -/
def State.takeGroup (s : State) (g w : Nat) : State :=
  let u := s.put grpPage (Tidemark.GRP_CTRL_AT_TIDE.nth g) (bitsOf w 29 29)
  if s.grpFlag Tidemark.GRP_STAT_PENDING g || s.grpFlag Tidemark.GRP_STAT_CAPTURED g || decide (4 < bitsOf w 2 0) then u
  else u.put grpPage (Tidemark.GRP_CTRL_FAMILY.nth g) (bitsOf w 2 0)

theorem State.writeGroup_eq (s : State) (g w : Nat) :
    s.writeGroup g w = match w.testBit 31, w.testBit 30 with
      | true, false => (s.takeGroup g w).armGroup g
      | false, true => (s.takeGroup g w).dropArm g
      | _, _ => s.takeGroup g w := rfl

section
variable (s : State) (g w : Nat)

theorem State.takeGroup_others : (s.takeGroup g w).commit = s.commit ∧ (s.takeGroup g w).tide = s.tide ∧ SameFaults s (s.takeGroup g w) := by
  unfold State.takeGroup
  extract_lets u
  split
  · exact ⟨rfl, rfl, rfl, rfl⟩
  · exact ⟨rfl, rfl, rfl, rfl⟩

theorem State.takeGroup_grpFamily (h : w % 8 = s.grpFamily g) : (s.takeGroup g w).grpFamily g = s.grpFamily g := by
  have hfamily : (s.put grpPage (Tidemark.GRP_CTRL_AT_TIDE.nth g) (bitsOf w 29 29)).grpFamily g = s.grpFamily g :=
    State.get_put_other _ _ (by simp [Field.nth, Tidemark.GRP_CTRL_AT_TIDE, Tidemark.GRP_CTRL_FAMILY])
  unfold State.takeGroup
  extract_lets u
  split
  · exact hfamily
  · have hsize : (Tidemark.GRP_CTRL_FAMILY.nth g).size = 8 := rfl
    rw [State.grpFamily, State.get_put_same, hsize, ← h]
    simp [bitsOf]

theorem State.takeGroup_AT_TIDE (h : g < 64) : (s.takeGroup g w).grpFlag Tidemark.GRP_CTRL_AT_TIDE g = w.testBit 29 := by
  have hput : (s.put grpPage (Tidemark.GRP_CTRL_AT_TIDE.nth g) (bitsOf w 29 29)).get grpPage (Tidemark.GRP_CTRL_AT_TIDE.nth g) =
      bit (w.testBit 29) := by
    have hsize : (Tidemark.GRP_CTRL_AT_TIDE.nth g).size = 2 := rfl
    rw [State.get_put_same, hsize, bitsOf_one]
    cases w.testBit 29 <;> rfl
  rw [State.grpFlag, State.flag, Nat.mod_eq_of_lt h]
  have hget : (s.takeGroup g w).get grpPage (Tidemark.GRP_CTRL_AT_TIDE.nth g) = bit (w.testBit 29) := by
    unfold State.takeGroup
    extract_lets u
    split
    · exact hput
    · rw [State.get_put_other _ _ (by simp [Field.nth, Tidemark.GRP_CTRL_AT_TIDE, Tidemark.GRP_CTRL_FAMILY]), hput]
  rw [hget]
  cases w.testBit 29 <;> rfl

/-- A write of GRP_CTRL leaves every other field as it is. -/
theorem State.takeGroup_get {pg : Nat} {f : Field} (hat : fieldKey grpPage (Tidemark.GRP_CTRL_AT_TIDE.nth g) ≠ fieldKey pg f)
    (hfamily : fieldKey grpPage (Tidemark.GRP_CTRL_FAMILY.nth g) ≠ fieldKey pg f) : (s.takeGroup g w).get pg f = s.get pg f := by
  unfold State.takeGroup
  extract_lets u
  have hu : u.get pg f = s.get pg f := State.get_put_other _ _ hat
  split
  · exact hu
  · rw [State.get_put_other _ _ hfamily, hu]
end

theorem State.grpFlag_putGrp (s : State) (f : Field) (g : Nat) (b : Bool) (h : 1 < f.size) : (s.putGrp f g (bit b)).grpFlag f g = b := by
  have hsize : (f.nth (g % 64)).size = f.size := rfl
  rw [State.grpFlag, State.flag, State.putGrp, State.get_put_same, hsize]
  cases b with
  | true => simp [bit, Nat.mod_eq_of_lt h]
  | false => simp [bit]

/-- After `judgeArm` PENDING says whether software or the device arms the group. -/
theorem State.grpFlag_judgeArm (s : State) (g : Nat) :
    (s.judgeArm g).grpFlag Tidemark.GRP_STAT_PENDING g = (s.commit.swArm.contains g || s.commit.devArm == some g) :=
  State.grpFlag_putGrp _ _ _ _ (by decide)

/-- A group whose family runs and that has no target is armed. -/
theorem State.armGroup_arms {s : State} {g : Nat}
    (h : s.planLive = false ∨
      (s.grpFamily g < 4 → s.famActive (s.grpFamily g) = true) ∧ s.grpFlag Tidemark.GRP_CTRL_AT_TIDE g = false) :
    (s.armGroup g).commit.swArm.contains g = true ∧ (s.armGroup g).grpFlag Tidemark.GRP_STAT_PENDING g = true := by
  have harmed : s.armGroup g = ({ s with commit := { s.commit with swArm := g :: s.commit.swArm.filter (· != g) } } : State).judgeArm g := by
    unfold State.armGroup
    rcases h with h | ⟨hactive, htide⟩
    · simp [h]
    · have hruns : ¬ (s.grpFamily g < 4 ∧ (!s.famActive (s.grpFamily g)) = true) := fun ⟨hf, hn⟩ => by simp [hactive hf] at hn
      simp only [if_neg hruns, htide, Bool.false_and, Bool.false_eq_true, if_false, ite_self]
  rw [harmed]
  exact ⟨by simp [State.judgeArm, State.putGrp], by rw [State.grpFlag_judgeArm]; simp⟩

theorem State.armGroup_noFamily {s : State} {g : Nat} (hlive : s.planLive = true) (hfam : s.grpFamily g < 4)
    (hidle : s.famActive (s.grpFamily g) = false) : s.armGroup g = s.putGrp Tidemark.GRP_STAT_NOFAMILY g 1 := by
  simp [State.armGroup, hlive, hfam, hidle]

theorem State.armGroup_late {s : State} {g : Nat} (hlive : s.planLive = true) (hfam : s.grpFamily g < 4)
    (hactive : s.famActive (s.grpFamily g) = true) (htide : s.grpFlag Tidemark.GRP_CTRL_AT_TIDE g = true)
    (hpast : signedDiff (s.get grpPage (Tidemark.GRP_TARGET_TARGET.nth g)) (s.famTide (s.grpFamily g)) ≤ 0) :
    s.armGroup g = s.putGrp Tidemark.GRP_STAT_LATE g 1 := by
  simp [State.armGroup, hlive, hactive, htide, State.grpCount, hfam, hpast]

theorem State.sameFaults_armGroup (s : State) (g : Nat) : SameFaults s (s.armGroup g) := by
  unfold State.armGroup
  extract_lets armed d
  split
  · exact ⟨rfl, rfl⟩
  · split
    · exact ⟨rfl, rfl⟩
    · split
      · exact ⟨rfl, rfl⟩
      · exact ⟨rfl, rfl⟩

theorem State.writeGroup_arm {s : State} {g : Nat} {w : Word} (h : w.getLsbD 30 = false) :
    s.writeGroup g (w.toNat ||| 2 ^ 31) = (s.takeGroup g (w.toNat ||| 2 ^ 31)).armGroup g := by
  have h31 : (w.toNat ||| 2 ^ 31).testBit 31 = true := by rw [testBit_or_bit]; simp
  have h30 : (w.toNat ||| 2 ^ 31).testBit 30 = false := by rw [testBit_or_bit, h]; simp
  rw [State.writeGroup_eq, h31, h30]

theorem State.groupArm_holds_or_drops {s : State} {g : Fin 64} {w : Word} (h30 : w.getLsbD 30 = false) (hfam : w.toNat % 8 = s.grpFamily g) :
    let t := s.writeGroup g (w.toNat ||| 2 ^ 31)
    (s.planLive = false → t.commit.swArm.contains g.val = true ∧ t.grpFlag Tidemark.GRP_STAT_PENDING g = true) ∧
      (s.planLive = true → s.grpFamily g < 4 → s.famActive (s.grpFamily g) = false →
        t.grpFlag Tidemark.GRP_STAT_NOFAMILY g = true ∧ t.commit = s.commit) ∧
      (s.planLive = true → s.grpFamily g < 4 → s.famActive (s.grpFamily g) = true → w.getLsbD 29 = true →
        signedDiff (s.get grpPage (Tidemark.GRP_TARGET_TARGET.nth g)) (s.famTide (s.grpFamily g)) ≤ 0 →
        t.grpFlag Tidemark.GRP_STAT_LATE g = true ∧ t.commit = s.commit) ∧
      (s.planLive = true → (s.grpFamily g < 4 → s.famActive (s.grpFamily g) = true) → w.getLsbD 29 = false →
        t.commit.swArm.contains g.val = true ∧ t.grpFlag Tidemark.GRP_STAT_PENDING g = true) := by
  intro t
  have ht : t = (s.takeGroup g (w.toNat ||| 2 ^ 31)).armGroup g := State.writeGroup_arm h30
  have hmod : (w.toNat ||| 2 ^ 31) % 8 = s.grpFamily g := by
    rw [← hfam, show 8 = 2 ^ 3 from rfl, Nat.or_mod_two_pow]
    simp
  obtain ⟨hcommit, htide, -⟩ := s.takeGroup_others g (w.toNat ||| 2 ^ 31)
  have hlive : (s.takeGroup g (w.toNat ||| 2 ^ 31)).planLive = s.planLive := by rw [State.planLive, htide, State.planLive]
  have hfamily := s.takeGroup_grpFamily g (w.toNat ||| 2 ^ 31) hmod
  have hat : (s.takeGroup g (w.toNat ||| 2 ^ 31)).grpFlag Tidemark.GRP_CTRL_AT_TIDE g = w.getLsbD 29 := by
    rw [State.takeGroup_AT_TIDE _ _ _ g.isLt, testBit_or_bit]
    simp
  have hget : ∀ f < 0x1000, fieldKey grpPage (Tidemark.GRP_CTRL_AT_TIDE.nth g) ≠ f + 0x11 * 0x8000 ∧
      fieldKey grpPage (Tidemark.GRP_CTRL_FAMILY.nth g) ≠ f + 0x11 * 0x8000 := by
    have hg := g.isLt
    simp only [fieldKey, Field.nth, grpPage, Tidemark.GRP_CTRL_AT_TIDE, Tidemark.GRP_CTRL_FAMILY]
    omega
  have hactive : ∀ f < 4, (s.takeGroup g (w.toNat ||| 2 ^ 31)).famActive f = s.famActive f := fun f hf => by
    have hkey : fieldKey 0x11 (Tidemark.FAM_PHASE_ACTIVE.nth f) = (0x54 + 4 * f) * 8 + 30 + 0x11 * 0x8000 := by
      simp only [fieldKey, Field.nth, Tidemark.FAM_PHASE_ACTIVE]
      omega
    obtain ⟨h₁, h₂⟩ := hget ((0x54 + 4 * f) * 8 + 30) (by omega)
    rw [State.famActive, State.flag, State.takeGroup_get _ _ _ (hkey ▸ h₁) (hkey ▸ h₂), State.famActive, State.flag]
  have htideNow : ∀ f < 4, (s.takeGroup g (w.toNat ||| 2 ^ 31)).famTide f = s.famTide f := fun f hf => by
    have hkey : fieldKey 0x11 (Tidemark.FAM_TIDE_TIDE.nth f) = (0x40 + 4 * f) * 8 + 0x11 * 0x8000 := by
      simp only [fieldKey, Field.nth, Tidemark.FAM_TIDE_TIDE]
      omega
    obtain ⟨h₁, h₂⟩ := hget ((0x40 + 4 * f) * 8) (by omega)
    rw [State.famTide, State.takeGroup_get _ _ _ (hkey ▸ h₁) (hkey ▸ h₂), State.famTide]
  have htarget : (s.takeGroup g (w.toNat ||| 2 ^ 31)).get grpPage (Tidemark.GRP_TARGET_TARGET.nth g) =
      s.get grpPage (Tidemark.GRP_TARGET_TARGET.nth g) :=
    State.takeGroup_get _ _ _ (by simp [Field.nth, Tidemark.GRP_CTRL_AT_TIDE, Tidemark.GRP_TARGET_TARGET]; omega)
      (by simp [Field.nth, Tidemark.GRP_CTRL_FAMILY, Tidemark.GRP_TARGET_TARGET])
  rw [ht]
  refine ⟨fun hl => State.armGroup_arms (.inl (hlive.trans hl)), fun hl hf hidle => ?_, fun hl hf hruns hat29 hpast => ?_,
    fun hl hruns hat29 => State.armGroup_arms (.inr ⟨fun hf => ?_, hat.trans hat29⟩)⟩
  · rw [State.armGroup_noFamily (hlive.trans hl) (hfamily ▸ hf) (by rw [hfamily, hactive _ hf, hidle])]
    exact ⟨State.grpFlag_putGrp _ _ _ true (by decide), hcommit⟩
  · rw [State.armGroup_late (hlive.trans hl) (hfamily ▸ hf) (by rw [hfamily, hactive _ hf, hruns]) (hat.trans hat29)
      (by rw [htarget, hfamily, htideNow _ hf]; exact hpast)]
    exact ⟨State.grpFlag_putGrp _ _ _ true (by decide), hcommit⟩
  · rw [hfamily] at hf ⊢
    rw [hactive _ hf, hruns hf]

/-- Settles O9: what GRP_CTRL takes of the write, then the arm, nothing, or the disarm. -/
theorem groupArmsAreHeldOrDropped : Obligations.GroupArmsAreHeldOrDropped := by
  refine ⟨fun req g w s hs h30 hfam => ?_, fun req g w s hs h30 => ?_, fun req g w s hs h31 => ?_⟩
  · refine ⟨_, by rw [exec, execGroupArm, State.onWrite_served hs], ?_⟩
    obtain ⟨hfree, hidle, hlate, hheld⟩ := State.groupArm_holds_or_drops (s := s) h30 hfam
    obtain ⟨-, -, hflt, hdue⟩ := s.takeGroup_others g (w.toNat ||| 2 ^ 31)
    obtain ⟨hflt', hdue'⟩ := (s.takeGroup g (w.toNat ||| 2 ^ 31)).sameFaults_armGroup g
    rw [← State.writeGroup_arm h30] at hflt' hdue'
    exact ⟨hfree, hidle, hlate, hheld, (Quiet.refl s).writeGroup.sameMemory, hflt'.trans hflt, hdue'.trans hdue⟩
  · have heq : s.writeGroup g (w.toNat ||| 2 ^ 31) = s.takeGroup g (w.toNat ||| 2 ^ 31) := by
      have h31 : (w.toNat ||| 2 ^ 31).testBit 31 = true := by rw [testBit_or_bit]; simp
      have h30' : (w.toNat ||| 2 ^ 31).testBit 30 = true := by rw [testBit_or_bit, h30]; rfl
      rw [State.writeGroup_eq, h31, h30']
    obtain ⟨hcommit, htide, hfaults⟩ := s.takeGroup_others g (w.toNat ||| 2 ^ 31)
    refine ⟨_, by rw [exec, execGroupArm, State.onWrite_served hs, heq], hcommit, htide, ?_, hfaults⟩
    exact heq ▸ (Quiet.refl s).writeGroup.sameMemory
  · have heq : s.writeGroup g (w.toNat ||| 2 ^ 30) = (s.takeGroup g (w.toNat ||| 2 ^ 30)).dropArm g := by
      have h31' : (w.toNat ||| 2 ^ 30).testBit 31 = false := by rw [testBit_or_bit, h31]; simp
      have h30 : (w.toNat ||| 2 ^ 30).testBit 30 = true := by rw [testBit_or_bit]; simp
      rw [State.writeGroup_eq, h31', h30]
    obtain ⟨hcommit, -, hfaults⟩ := s.takeGroup_others g (w.toNat ||| 2 ^ 30)
    refine ⟨(s.takeGroup g (w.toNat ||| 2 ^ 30)).dropArm g, by rw [exec, execGroupDisarm, State.onWrite_served hs, heq], ?_, ?_, ?_, ?_, hfaults⟩
    · exact congrArg (fun c => c.swArm.filter (· != g.val)) hcommit
    · rw [← hcommit]
      rfl
    · rw [State.dropArm, State.grpFlag_judgeArm, hcommit]
      simp
    · exact heq ▸ (Quiet.refl s).writeGroup.sameMemory

end Sys2Proof.Machine
end

section
/-!
PROOFS. A lane's receiver (R92 to R98, R116).
-/
namespace Sys2Proof.Machine

variable {s : State} {n : Nat}

theorem State.get_putSnr (s : State) (n : Nat) (w : List RxSymbol) {pg : Nat} {f : Field}
    (h : fieldKey (wePage n) Weatas.RX_QUALITY_SNR ≠ fieldKey pg f) : (s.putSnr n w).get pg f = s.get pg f := by
  unfold State.putSnr
  split
  extract_lets q
  split
  · exact State.get_putFit_other _ _ h
  · split
    · exact State.get_put_other _ _ h
    · exact State.get_put_other _ _ h

theorem State.lanes_putSnr (s : State) (n : Nat) (w : List RxSymbol) : (s.putSnr n w).lanes = s.lanes := by
  unfold State.putSnr
  split
  extract_lets q
  split
  · unfold State.putFit
    split
    · exact State.put_lanes ..
    · exact State.put_lanes ..
  · split
    · exact State.put_lanes ..
    · exact State.put_lanes ..

/-! ## Writes of a list of places -/

theorem SMap.get_foldl_set_other {α : Type} [DecidableEq α] {d : Nat → α} (l : List (Nat × α)) (m : SMap α) {k : Nat} (h : k ∉ l.map (·.1)) :
    SMap.get d (l.foldl (fun m e => SMap.set d m e.1 e.2) m) k = SMap.get d m k := by
  induction l generalizing m with
  | nil => rfl
  | cons e l ih =>
    simp only [List.map_cons, List.mem_cons, not_or] at h
    rw [List.foldl, ih _ h.2, SMap.get_set_other _ _ _ (Ne.symm h.1)]

theorem SMap.get_foldl_set_mem {α : Type} [DecidableEq α] {d : Nat → α} (l : List (Nat × α)) (m : SMap α) (h : (l.map (·.1)).Nodup) {e : Nat × α}
    (he : e ∈ l) : SMap.get d (l.foldl (fun m e => SMap.set d m e.1 e.2) m) e.1 = e.2 := by
  induction l generalizing m with
  | nil => cases he
  | cons f l ih =>
    simp only [List.map_cons, List.nodup_cons] at h
    obtain ⟨hf, hl⟩ := h
    rw [List.foldl]
    rcases List.mem_cons.mp he with rfl | he
    · rw [SMap.get_foldl_set_other l _ hf, SMap.get_set_same]
    · exact ih _ hl he

theorem State.get_linkTo (s : State) (n st : Nat) {pg : Nat} {f : Field}
    (hstate : fieldKey (wePage n) Weatas.LINK_STAT_STATE ≠ fieldKey pg f) (hflt : fieldKey (wePage n) Hdr.FLT_STAT_FAULT ≠ fieldKey pg f) :
    (s.linkTo n st).get pg f = s.get pg f := by
  unfold State.linkTo
  extract_lets s₁
  have h₁ : s₁.get pg f = s.get pg f := by rw [State.get_cond_other _ _ _ hflt, State.get_put_other _ _ hstate]
  split
  · rw [State.get_lower_other _ _ hflt, h₁]
  · exact h₁

theorem State.linkState_linkTo (s : State) (n st : Nat) : (s.linkTo n st).linkState n = st % 16 := by
  have hkey : fieldKey (wePage n) Hdr.FLT_STAT_FAULT ≠ fieldKey (wePage n) Weatas.LINK_STAT_STATE := by simp +decide
  unfold State.linkTo
  extract_lets s₁
  have h₁ : s₁.linkState n = st % 16 := by rw [State.linkState, State.get_cond_other _ _ _ hkey, State.get_put_same]; rfl
  split
  · rw [State.linkState, State.get_lower_other _ _ hkey]
    exact h₁
  · exact h₁

theorem State.get_adapt (s : State) (n : Nat) (c : RxCoefs) :
    (s.adapt n c).get (wePage n) Weatas.RX_CTLE_VGA = c.vga % 64 ∧ (s.adapt n c).get (wePage n) Weatas.RX_DFE_H1 = c.h1 % 256 := by
  have hffe : ∀ (s : State) (f : Field), f.off * 8 + f.lo < 0x300 → ((List.range 24).foldl (fun s t => s.put (wePage n) (Weatas.RX_FFE_C.nth t)
      (c.ffe.getD t 0)) s).get (wePage n) f = s.get (wePage n) f := fun s f hf =>
    State.get_foldl_other s fun s t _ => State.get_put_other _ _ (by simp [Weatas.RX_FFE_C]; omega)
  refine ⟨?_, ?_⟩
  · rw [State.adapt, hffe _ _ (by decide), State.get_put_other _ _ (by simp +decide), State.get_put_other _ _ (by simp +decide),
      State.get_put_same]
    rfl
  · rw [State.adapt, hffe _ _ (by decide), State.get_put_same]
    rfl

/-- The window in which free adaptation has come to its coefficients ends ACQUIRE (R94). -/
theorem laneRxConverged_ends_acquire (n : Fin 32) (c : RxCoefs) (w : List RxSymbol) (s : State) (hrx : s.rxState n = 2) (hlink : s.linkState n = 3)
    (hw : w.length = snrWindow) (hsnr : (s.adapt n c).snrHolds n w = true) :
    Completes (.laneRxConverged n (c, w)) s fun t =>
      t.linkState n = 4 ∧ t.flag (wePage n) Weatas.LANE_STAT_CONVERGED = true ∧ t.eventBit (wePage n) 0 = true ∧
      t.get (wePage n) Weatas.RX_CTLE_VGA = c.vga % 64 ∧ t.get (wePage n) Weatas.RX_DFE_H1 = c.h1 % 256 ∧ SameMemory s t := by
  let u := (((s.adapt n c).putSnr n w).put (wePage n) Weatas.LANE_STAT_CONVERGED 1).event (wePage n) 0
  have hstay : u.linkState n = 3 := by
    have hffe : (s.adapt n c).linkState n = s.linkState n := by
      rw [State.linkState, State.adapt, State.get_foldl_other _ fun s t ht => State.get_put_other _ _ (by
        rw [List.mem_range] at ht; simp [Weatas.RX_FFE_C, Weatas.LINK_STAT_STATE]; omega)]
      simp +decide [State.get_put, State.linkState]
    rw [← hlink, ← hffe]
    simp +decide [u, State.linkState, State.get_event, State.get_put, State.get_putSnr]
  have ht : exec (.laneRxConverged n (c, w)) s = .next ((u.putLane n { u.lane n with run := 0 }).linkTo n 4) := by
    have hgo : ¬ (s.rxState n ≠ 2 ∨ w.length ≠ snrWindow ∨ (s.linkState n ≠ 3 ∧ s.linkState n ≠ 12) ∨ (!(s.adapt n c).snrHolds n w) = true) := by
      simp [hrx, hlink, hw, hsnr]
    rw [exec, execLaneRxConverged, if_neg hgo]
    exact congrArg _ (if_pos hstay)
  have hget : ∀ f : Field, fieldKey (wePage n) Weatas.LINK_STAT_STATE ≠ fieldKey (wePage n) f →
      fieldKey (wePage n) Hdr.FLT_STAT_FAULT ≠ fieldKey (wePage n) f →
      ((u.putLane n { u.lane n with run := 0 }).linkTo n 4).get (wePage n) f = u.get (wePage n) f := fun f h h' => State.get_linkTo _ _ _ h h'
  obtain ⟨hvga, hh1⟩ := s.get_adapt n c
  refine ⟨_, ht, State.linkState_linkTo _ _ _, ?_, ?_, ?_, ?_, SameMemory.of_exec ht (by rw [exec]; exact answers_laneRxConverged (Quiet.refl s))⟩
  · rw [State.flag, hget _ (by simp +decide) (by simp +decide)]
    simp +decide [u, State.get_event]
  · rw [State.eventBit_congr _ (hget _ (by simp +decide) (by simp +decide))]
    simp [u, State.eventBit_event_of_page]
  · rw [hget _ (by simp +decide) (by simp +decide), ← hvga]
    simp +decide [u, State.get_event, State.get_put, State.get_putSnr]
  · rw [hget _ (by simp +decide) (by simp +decide), ← hh1]
    simp +decide [u, State.get_event, State.get_put, State.get_putSnr]

/-- The state after an allowed step of adaptation (R96). -/
def State.stepped (s : State) (n : Nat) (step : EqStep) (intrude : Bool) : State :=
  let x := match step with
    | .vga _ => { s.lane n with vgaAt := some s.time.c }
    | .peak _ => { s.lane n with peakAt := some s.time.c }
    | .ffe _ => { s.lane n with ffeAt := some s.time.c }
    | .h1 _ => { s.lane n with h1At := some s.time.c }
  let u := ((s.applyStep n step).putLane n x).countWrap (wePage n) Weatas.ADAPT_STEPS_COUNT
  if intrude then (u.countSat (wePage n) Weatas.ADAPT_INTRUDE_COUNT).event (wePage n) 2 else u

@[simp] theorem State.lane_putLane_same (s : State) (n : Nat) (x : LaneSt) : (s.putLane n x).lane n = x := by
  simp [State.lane, State.putLane]

theorem State.stepped_get (s : State) (n : Nat) (step : EqStep) (intrude : Bool) {f : Field}
    (hsteps : fieldKey (wePage n) Weatas.ADAPT_STEPS_COUNT ≠ fieldKey (wePage n) f)
    (hintrude : fieldKey (wePage n) Weatas.ADAPT_INTRUDE_COUNT ≠ fieldKey (wePage n) f)
    (hevent : fieldKey (wePage n) Hdr.EVT_STAT_EVENT ≠ fieldKey (wePage n) f) :
    (s.stepped n step intrude).get (wePage n) f = (s.applyStep n step).get (wePage n) f := by
  unfold State.stepped
  extract_lets y x u
  have hu : u.get (wePage n) f = (s.applyStep n step).get (wePage n) f := State.get_put_other _ _ hsteps
  split
  · rw [State.get_event, if_neg hevent, State.get_countSat, if_neg hintrude, hu]
  · exact hu

theorem State.stepped_lane (s : State) (n : Nat) (step : EqStep) (intrude : Bool) :
    (s.stepped n step intrude).lane n = match step with
      | .vga _ => { s.lane n with vgaAt := some s.time.c }
      | .peak _ => { s.lane n with peakAt := some s.time.c }
      | .ffe _ => { s.lane n with ffeAt := some s.time.c }
      | .h1 _ => { s.lane n with h1At := some s.time.c } := by
  unfold State.stepped
  cases intrude <;> exact State.lane_putLane_same _ _ _

theorem State.applyStep_others (s : State) (n : Nat) (step : EqStep) :
    (s.applyStep n step).get (wePage n) Weatas.ADAPT_STEPS_COUNT = s.get (wePage n) Weatas.ADAPT_STEPS_COUNT ∧ SameFaults s (s.applyStep n step) := by
  cases step with
  | vga codes => exact ⟨State.get_put_other _ _ (by simp +decide), rfl, rfl⟩
  | peak d => exact ⟨State.get_put_other _ _ (by simp +decide), rfl, rfl⟩
  | h1 d => exact ⟨State.get_put_other _ _ (by simp +decide), rfl, rfl⟩
  | ffe l =>
    refine ⟨State.get_foldl_other s fun s e _ => State.get_put_other _ _ ?_, ?_⟩
    · have := e.1.isLt
      simp [Weatas.RX_FFE_C, Weatas.ADAPT_STEPS_COUNT]
      omega
    · unfold State.applyStep
      induction l generalizing s with
      | nil => exact SameFaults.refl s
      | cons e l ih => exact (show SameFaults s (s.put _ _ _) from ⟨rfl, rfl⟩).trans (ih _)

theorem exec_adaptStep {n : Fin 32} {step : EqStep} (intrude : Bool) {s : State} (hrx : s.rxState n = 3) (hlink : s.linkState n = 9)
    (hquiet : s.quietFor n 64 = true) (hallowed : s.stepAllowed n step = true) :
    exec (.adaptStep n step intrude) s = .next (s.stepped n step intrude) := by
  have hgo : ¬ (s.rxState n ≠ 3 ∨ s.linkState n ≠ 9 ∨ (!s.quietFor n 64) = true ∨ (!s.stepAllowed n step) = true) := by
    simp [hrx, hlink, hquiet, hallowed]
  rw [exec, execAdaptStep, if_neg hgo]
  rfl

/-- An allowed step moves its coefficient and counts (R96). -/
theorem adaptStep_moves (n : Fin 32) (step : EqStep) (intrude : Bool) (s : State) (hrx : s.rxState n = 3) (hlink : s.linkState n = 9)
    (hquiet : s.quietFor n 64 = true) (hallowed : s.stepAllowed n step = true) :
    Completes (.adaptStep n step intrude) s fun t =>
      (∀ codes, step = .vga codes →
        (t.get (wePage n) Weatas.RX_CTLE_VGA : Int) = max 0 (min 63 ((s.get (wePage n) Weatas.RX_CTLE_VGA : Int) + vgaStep codes)) ∧
        (t.lane n).vgaAt = some s.time.c) ∧
      (∀ d, step = .peak d →
        (t.get (wePage n) Weatas.RX_CTLE_PEAK : Int) = max 0 (min 96 ((s.get (wePage n) Weatas.RX_CTLE_PEAK : Int) + d)) ∧
        (t.lane n).peakAt = some s.time.c) ∧
      (∀ i d, step = .ffe [(i, d)] →
        t.get (wePage n) (Weatas.RX_FFE_C.nth i) = stepSigned 10 (s.get (wePage n) (Weatas.RX_FFE_C.nth i)) d % 1024 ∧
        (t.lane n).ffeAt = some s.time.c) ∧
      (∀ d, step = .h1 d →
        t.get (wePage n) Weatas.RX_DFE_H1 = stepSigned 8 (s.get (wePage n) Weatas.RX_DFE_H1) d % 256 ∧ (t.lane n).h1At = some s.time.c) ∧
      t.get (wePage n) Weatas.ADAPT_STEPS_COUNT = (s.get (wePage n) Weatas.ADAPT_STEPS_COUNT + 1) % 2 ^ 32 ∧
      (intrude = true → t.eventBit (wePage n) 2 = true) ∧ SameMemory s t ∧ SameFaults s t := by
  have ht := exec_adaptStep intrude hrx hlink hquiet hallowed
  have hlane := s.stepped_lane n step intrude
  obtain ⟨hsteps, hfaults⟩ := s.applyStep_others n step
  refine ⟨_, ht, ?_, ?_, ?_, ?_, ?_, ?_, SameMemory.of_exec ht (by rw [exec]; exact answers_adaptStep (Quiet.refl s)), ?_⟩
  · rintro codes rfl
    refine ⟨?_, by rw [hlane]⟩
    rw [State.stepped_get _ _ _ _ (by simp +decide) (by simp +decide) (by simp +decide), State.applyStep, State.get_put_same,
      show Weatas.RX_CTLE_VGA.size = 64 from rfl]
    omega
  · rintro d rfl
    refine ⟨?_, by rw [hlane]⟩
    rw [State.stepped_get _ _ _ _ (by simp +decide) (by simp +decide) (by simp +decide), State.applyStep, State.get_put_same,
      show Weatas.RX_CTLE_PEAK.size = 128 from rfl]
    omega
  · rintro i d rfl
    refine ⟨?_, by rw [hlane]⟩
    have hi := i.isLt
    rw [State.stepped_get _ _ _ _ (by simp [Weatas.RX_FFE_C, Weatas.ADAPT_STEPS_COUNT]; omega)
      (by simp [Weatas.RX_FFE_C, Weatas.ADAPT_INTRUDE_COUNT]; omega) (by simp [Weatas.RX_FFE_C, Hdr.EVT_STAT_EVENT]; omega)]
    exact State.get_put_same ..
  · rintro d rfl
    refine ⟨?_, by rw [hlane]⟩
    rw [State.stepped_get _ _ _ _ (by simp +decide) (by simp +decide) (by simp +decide)]
    exact State.get_put_same ..
  · rw [← hsteps]
    unfold State.stepped
    cases intrude
    · exact State.get_put_same ..
    · simp +decide [State.get_event, State.get_countSat, State.get_countWrap]
      rfl
  · rintro rfl
    exact State.eventBit_event _ _ (by decide)
  · unfold State.stepped
    cases intrude <;> exact hfaults

theorem adaptStarved_events (n : Fin 32) (s : State) :
    Completes (.adaptStarved n) s fun t =>
      (s.rxState n = 3 → t.eventBit (wePage n) 1 = true) ∧ (s.rxState n ≠ 3 → t = s) ∧
      OnlyRegs s t [fieldKey (wePage n) Hdr.EVT_STAT_EVENT] ∧ SameMemory s t ∧ SameFaults s t := by
  refine ⟨s.eventIf (s.rxState n == 3) (wePage n) 1, rfl, fun h => ?_, fun h => ?_, (OnlyRegs.refl s _).eventIf _ _ _ (by simp),
    (Quiet.refl s).eventIf.sameMemory, ?_⟩
  · rw [State.eventBit_eventIf _ (by decide), h]
    simp
  · simp [State.eventIf, h]
  · cases h : s.rxState n == 3 <;> exact ⟨rfl, rfl⟩

/-! ## FREEZE (R93, R98) -/

theorem State.writeField_cases (s : State) (pg w reject : Nat) (f : Field) :
    s.writeField pg w reject f = s.put pg f (f.stored (bitsOf w f.hi f.lo)) ∨ s.writeField pg w reject f = s.event pg reject := by
  unfold State.writeField
  extract_lets v
  split
  · exact .inl rfl
  · exact .inr rfl

theorem State.get_writeFields_other (s : State) (pg w reject : Nat) (fs : List Field) {g : Field} (hf : ∀ f ∈ fs, fieldKey pg f ≠ fieldKey pg g)
    (hevent : fieldKey pg Hdr.EVT_STAT_EVENT ≠ fieldKey pg g) : (s.writeFields pg w reject fs).get pg g = s.get pg g :=
  State.get_foldl_other s fun s f h => by
    rcases s.writeField_cases pg w reject f with e | e
    · rw [e, State.get_put_other _ _ (hf f h)]
    · rw [e, State.get_event, if_neg hevent]

theorem State.sameFaults_writeFields (s : State) (pg w reject : Nat) (fs : List Field) :
    SameFaults s (s.writeFields pg w reject fs) ∧ (s.writeFields pg w reject fs).lanes = s.lanes := by
  unfold State.writeFields
  induction fs generalizing s with
  | nil => exact ⟨SameFaults.refl s, rfl⟩
  | cons f fs ih =>
    obtain ⟨hfaults, hlanes⟩ := ih (s.writeField pg w reject f)
    rcases s.writeField_cases pg w reject f with e | e
    · rw [e] at hfaults hlanes
      rw [List.foldl, e]
      exact ⟨hfaults, hlanes⟩
    · rw [e] at hfaults hlanes
      rw [List.foldl, e]
      exact ⟨hfaults, hlanes⟩

theorem rxFreeze_freezes (req : Requester) (n : Fin 32) (w : Word) (s : State) (hs : s.serves req (regOff (wePage n) Weatas.RX_ADAPT_FREEZE) = true) :
    Completes (.rxFreeze req n w) s fun t =>
      t.flag (wePage n) Weatas.RX_ADAPT_FREEZE = w.getLsbD 31 ∧
      (s.rxState n = 3 → t.rxState n = if w.getLsbD 31 then 4 else 3) ∧ (s.rxState n = 4 → t.rxState n = if w.getLsbD 31 then 4 else 3) ∧
      (s.rxState n < 3 → t.rxState n = s.rxState n) ∧ t.lanes = s.lanes ∧ SameMemory s t ∧ SameFaults s t := by
  let u := s.writeFields (wePage n) w.toNat 11 [Weatas.RX_ADAPT_FREEZE, Weatas.RX_ADAPT_INTERVAL_US, Weatas.RX_ADAPT_GUARD_NS]
  have ht : exec (.rxFreeze req n w) s = .next (if u.rxState n = 3 ∧ w.toNat.testBit 31 then u.putRx n 4
      else if u.rxState n = 4 ∧ !w.toNat.testBit 31 then u.putRx n 3 else u) := by
    rw [exec, execRxFreeze, State.onWrite_served hs]
  have hmem := SameMemory.of_exec ht (by rw [exec]; exact answers_rxFreeze (Quiet.refl s))
  obtain ⟨hfaults, hlanes⟩ := s.sameFaults_writeFields (wePage n) w.toNat 11
    [Weatas.RX_ADAPT_FREEZE, Weatas.RX_ADAPT_INTERVAL_US, Weatas.RX_ADAPT_GUARD_NS]
  have hrx : u.rxState n = s.rxState n := State.get_writeFields_other _ _ _ _ _ (by simp +decide) (by simp +decide)
  have hfreeze : u.flag (wePage n) Weatas.RX_ADAPT_FREEZE = w.getLsbD 31 := by
    have hfirst : u = (s.writeField (wePage n) w.toNat 11 Weatas.RX_ADAPT_FREEZE).writeFields (wePage n) w.toNat 11
      [Weatas.RX_ADAPT_INTERVAL_US, Weatas.RX_ADAPT_GUARD_NS] := rfl
    have htaken : s.writeField (wePage n) w.toNat 11 Weatas.RX_ADAPT_FREEZE =
      s.put (wePage n) Weatas.RX_ADAPT_FREEZE (bitsOf w.toNat 31 31) := by simp [State.writeField, Field.takes, Field.stored, Weatas.RX_ADAPT_FREEZE]
    rw [State.flag, hfirst, State.get_writeFields_other _ _ _ _ _ (by simp +decide) (by simp +decide), htaken, State.get_put_same, bitsOf_one,
      BitVec.testBit_toNat]
    cases w.getLsbD 31 <;> rfl
  have hput : ∀ k < 8, (u.putRx n k).rxState n = k ∧ (u.putRx n k).flag (wePage n) Weatas.RX_ADAPT_FREEZE = w.getLsbD 31 := fun k hk => by
    refine ⟨?_, ?_⟩
    · rw [State.rxState, State.putRx, State.get_put_same]
      exact Nat.mod_eq_of_lt hk
    · rw [← hfreeze, State.flag, State.putRx, State.get_put_other _ _ (by simp +decide), State.flag]
  obtain ⟨h4, hf4⟩ := hput 4 (by decide)
  obtain ⟨h3, hf3⟩ := hput 3 (by decide)
  simp only [BitVec.testBit_toNat, hrx] at ht hmem
  refine ⟨_, ht, ?_⟩
  by_cases hon : s.rxState n = 3 ∧ w.getLsbD 31 = true
  · rw [if_pos hon] at hmem ⊢
    exact ⟨hf4, fun _ => by rw [h4, hon.2, if_pos rfl], fun _ => by rw [h4, hon.2, if_pos rfl], fun h => by omega, hlanes, hmem, hfaults⟩
  · rw [if_neg hon] at hmem ⊢
    by_cases hoff : s.rxState n = 4 ∧ (!w.getLsbD 31) = true
    · rw [if_pos hoff] at hmem ⊢
      have hw : w.getLsbD 31 = false := by simpa using hoff.2
      exact ⟨hf3, fun _ => by rw [h3, hw]; rfl, fun _ => by rw [h3, hw]; rfl, fun h => by omega, hlanes, hmem, hfaults⟩
    · rw [if_neg hoff] at hmem ⊢
      refine ⟨hfreeze, fun h => ?_, fun h => ?_, fun _ => hrx, hlanes, hmem, hfaults⟩
      · rw [hrx, if_neg fun hw => hon ⟨h, hw⟩, h]
      · rw [hrx, if_pos (by_contra fun hw => hoff ⟨h, by simpa using hw⟩), h]

theorem manualCoefApply_takes (n : Fin 32) (s : State) (hrx : s.rxState n = 3 ∨ s.rxState n = 4) (hquiet : s.quietFor n 64 = true) :
    Completes (.manualCoefApply n) s fun t =>
      (t.lane n).manual = [] ∧ OnlyRegs s t ((s.lane n).manual.map (·.1)) ∧
      (((s.lane n).manual.map (·.1)).Nodup → ∀ e ∈ (s.lane n).manual, SMap.get resetField t.regs e.1 = e.2) ∧
      SameMemory s t ∧ SameFaults s t := by
  have hgo : ¬ ((s.rxState n ≠ 3 ∧ s.rxState n ≠ 4) ∨ (!s.quietFor n 64) = true) := by
    simp only [hquiet, Bool.not_true, Bool.false_eq_true, or_false]
    omega
  have ht : exec (.manualCoefApply n) s = .next { s.putLane n { s.lane n with manual := [] } with
      regs := (s.lane n).manual.foldl (fun m e => SMap.set resetField m e.1 e.2) s.regs } := by
    rw [exec, execManualCoefApply, if_neg hgo]
    rfl
  refine ⟨_, ht, ?_, ?_, ?_, SameMemory.of_exec ht (by rw [exec]; exact answers_manualCoefApply (Quiet.refl s)), rfl, rfl⟩
  · exact congrArg LaneSt.manual (State.lane_putLane_same s n _)
  · exact fun k hk => SMap.get_foldl_set_other (s.lane n).manual s.regs hk
  · exact fun hnodup e he => SMap.get_foldl_set_mem (s.lane n).manual s.regs hnodup he

theorem rxSnrLow_judges (n : Fin 32) (w : List RxSymbol) (s : State) (hrx : s.rxState n = 3 ∨ s.rxState n = 4) (hw : w.length = snrWindow) :
    Completes (.rxSnrLow n w) s fun t =>
      t.condBit (wePage n) 4 = !s.snrHolds n w ∧ t.rxState n = s.rxState n ∧ t.lanes = s.lanes ∧ SameMemory s t := by
  have ht : exec (.rxSnrLow n w) s = .next ((s.putSnr n w).cond (wePage n) 4 (!s.snrHolds n w)) := by
    rw [exec, execRxSnrLow, if_pos ⟨hrx, hw⟩]
  refine ⟨_, ht, State.condBit_cond .., ?_, ?_, SameMemory.of_exec ht (by rw [exec]; exact answers_rxSnrLow (Quiet.refl s))⟩
  · rw [State.rxState, State.get_cond_other _ _ _ (by simp +decide), State.get_putSnr _ _ _ (by simp +decide), State.rxState]
  · rw [State.cond_lanes, State.lanes_putSnr]

/-- Settles O19, clause by clause. -/
theorem laneReceiverAdapts : Obligations.LaneReceiverAdapts :=
  ⟨laneRxConverged_ends_acquire, adaptStep_moves, adaptStarved_events, rxFreeze_freezes, manualCoefApply_takes, rxSnrLow_judges⟩

end Sys2Proof.Machine
end

section
/-!
PROOFS. The camera's transmitter and the back channel's amplitude (R99 to R101).
-/
namespace Sys2Proof.Machine

/-- The clamp bits of FAR_CLAMP are four fields of the lane's page. -/
def State.showClamp (s : State) (pg c : Nat) : State :=
  [(Weatas.FAR_CLAMP_PRE, 0), (Weatas.FAR_CLAMP_POST, 1), (Weatas.FAR_CLAMP_SWING, 2), (Weatas.FAR_CLAMP_SUM, 3)].foldl
    (fun s (e : Field × Nat) => if hasBit c e.2 then s.put pg e.1 1 else s) s

theorem State.showClamp_keeps (s : State) (pg c : Nat) :
    (s.showClamp pg c).lanes = s.lanes ∧ SameFaults s (s.showClamp pg c) ∧
    ∀ f, (∀ g ∈ [Weatas.FAR_CLAMP_PRE, Weatas.FAR_CLAMP_POST, Weatas.FAR_CLAMP_SWING, Weatas.FAR_CLAMP_SUM], fieldKey pg g ≠ fieldKey pg f) →
      (s.showClamp pg c).get pg f = s.get pg f := by
  have hput : ∀ (t : State) (e : Field × Nat), (if hasBit c e.2 then t.put pg e.1 1 else t).lanes = t.lanes ∧
      SameFaults t (if hasBit c e.2 then t.put pg e.1 1 else t) ∧
      ∀ f, fieldKey pg e.1 ≠ fieldKey pg f → (if hasBit c e.2 then t.put pg e.1 1 else t).get pg f = t.get pg f := fun t e => by
    split
    · exact ⟨rfl, ⟨rfl, rfl⟩, fun f hf => State.get_put_other _ _ hf⟩
    · exact ⟨rfl, ⟨rfl, rfl⟩, fun _ _ => rfl⟩
  have hfold : ∀ (l : List (Field × Nat)) (t : State), (l.foldl (fun s e => if hasBit c e.2 then s.put pg e.1 1 else s) t).lanes = t.lanes ∧
      SameFaults t (l.foldl (fun s e => if hasBit c e.2 then s.put pg e.1 1 else s) t) := fun l => by
    induction l with
    | nil => exact fun t => ⟨rfl, SameFaults.refl t⟩
    | cons e l ih =>
      intro t
      obtain ⟨hlanes, hfaults, -⟩ := hput t e
      obtain ⟨hlanes', hfaults'⟩ := ih (if hasBit c e.2 then t.put pg e.1 1 else t)
      exact ⟨hlanes'.trans hlanes, hfaults.trans hfaults'⟩
  refine ⟨(hfold _ s).1, (hfold _ s).2, fun f hf => State.get_foldl_other s fun t e he => (hput t e).2.2 f (hf e.1 ?_)⟩
  exact List.mem_map_of_mem (f := Prod.fst) he

theorem State.lane_bcSend (s : State) (n type : Nat) (p : List Byte) :
    (s.bcSend n type p).lane n = { s.lane n with queue := (s.lane n).queue ++ [⟨type, p⟩] } := State.lane_putLane_same ..

/-- A setting sent to the camera: the clamped one waits for its EQ_ACK, an EQ message is queued, and the clamp fields, PENDING and EVT_STAT are written. -/
theorem State.sendEq_effect (s : State) (n : Nat) (x : FarSetting) :
    (s.sendEq n x).lane n = { s.lane n with
      eqSent := some (clampFar (s.lane n).farMax x).1, eqDue := false,
      queue := (s.lane n).queue ++ [⟨3, [BitVec.ofNat 8 (clampFar (s.lane n).farMax x).1.1, BitVec.ofNat 8 (clampFar (s.lane n).farMax x).1.2.1,
        BitVec.ofNat 8 (clampFar (s.lane n).farMax x).1.2.2]⟩] } ∧
    ((clampFar (s.lane n).farMax x).2 ≠ 0 → (s.sendEq n x).eventBit (wePage n) 3 = true) ∧ SameFaults s (s.sendEq n x) ∧
    ∀ f, (∀ g ∈ [Weatas.FAR_CLAMP_PRE, Weatas.FAR_CLAMP_POST, Weatas.FAR_CLAMP_SWING, Weatas.FAR_CLAMP_SUM, Weatas.FAR_TXEQ_ACT_PENDING, Hdr.EVT_STAT_EVENT],
      fieldKey (wePage n) g ≠ fieldKey (wePage n) f) → (s.sendEq n x).get (wePage n) f = s.get (wePage n) f := by
  obtain ⟨⟨y, c⟩, hy⟩ : ∃ z, clampFar (s.lane n).farMax x = z := ⟨_, rfl⟩
  rw [hy]
  obtain ⟨hlanes, hfaults, hclamp⟩ := s.showClamp_keeps (wePage n) c
  let u := (s.showClamp (wePage n) c).eventIf (c != 0) (wePage n) 3
  have hu : u.lanes = s.lanes ∧ SameFaults s u := by
    show ((s.showClamp (wePage n) c).eventIf (c != 0) (wePage n) 3).lanes = s.lanes ∧ SameFaults s ((s.showClamp (wePage n) c).eventIf (c != 0) (wePage n) 3)
    cases c != 0 <;> exact ⟨hlanes, hfaults⟩
  let v := u.putLane n { u.lane n with eqSent := some y, eqDue := false }
  let w := if (v.lane n).trained then v.put (wePage n) Weatas.FAR_TXEQ_ACT_PENDING 1 else v
  have hw : w.lanes = v.lanes ∧ SameFaults u w ∧ ∀ f, fieldKey (wePage n) Weatas.FAR_TXEQ_ACT_PENDING ≠ fieldKey (wePage n) f →
      w.get (wePage n) f = u.get (wePage n) f := by
    by_cases h : (v.lane n).trained = true
    · rw [show w = v.put (wePage n) Weatas.FAR_TXEQ_ACT_PENDING 1 from if_pos h]
      exact ⟨rfl, ⟨rfl, rfl⟩, fun f hf => State.get_put_other _ _ hf⟩
    · rw [show w = v from if_neg h]
      exact ⟨rfl, ⟨rfl, rfl⟩, fun _ _ => rfl⟩
  obtain ⟨hwlanes, hwfaults, hwget⟩ := hw
  have hlane : w.lane n = { s.lane n with eqSent := some y, eqDue := false } := by
    rw [State.lane, hwlanes]
    simp [v, State.putLane, State.lane, hu.1]
  have ht : s.sendEq n x = w.bcSend n 3 [BitVec.ofNat 8 y.1, BitVec.ofNat 8 y.2.1, BitVec.ofNat 8 y.2.2] := by
    unfold State.sendEq
    rw [hy]
    rfl
  rw [ht, State.lane_bcSend, hlane]
  refine ⟨rfl, fun hc => ?_, hu.2.trans hwfaults, fun f hf => ?_⟩
  · show w.eventBit (wePage n) 3 = true
    rw [State.eventBit_congr u (hwget _ (by simp +decide)), State.eventBit_eventIf _ (by decide)]
    simp [show c ≠ 0 from hc]
  · show w.get (wePage n) f = _
    rw [hwget f (hf _ (by simp)), State.get_eventIf_other _ _ _ (hf _ (by simp)), hclamp f fun g hg => hf g (by
      simp only [List.mem_cons, List.not_mem_nil, or_false] at hg ⊢; tauto)]

theorem exec_farOpening {n : Fin 32} {next : List Int} (change : Option (Fin 3 × Bool)) {s : State} (hlink : s.linkState n = 9)
    (hopen : s.farOpen n next = true) :
    exec (.farOpening n (next, change)) s = .next (
      if !s.flag (wePage n) Weatas.FAR_TXEQ_REQ_AUTO then if (s.lane n).eqDue then s.sendEq n (s.farRequest n) else s
      else if (s.lane n).eqDue then s.sendEq n (s.lane n).farNow
      else match change with
        | some (f, up) =>
          if s.rxState n = 3 && (s.lane n).farAt.all (fun c => decide (c + 100000000 ≤ s.time.c)) then
            (s.putLane n { s.lane n with farAt := some s.time.c }).sendEq n (moveFar (s.lane n).farNow f up)
          else s
        | none => s) := by
  have hgo : ¬ (s.linkState n ≠ 9 ∨ (!s.farOpen n next) = true) := by simp [hlink, hopen]
  rw [exec]
  exact congrArg Host.Outcome.next (if_neg hgo)

theorem farOpening_sends (n : Fin 32) (next : List Int) (change : Option (Fin 3 × Bool)) (s : State) (hlink : s.linkState n = 9)
    (hopen : s.farOpen n next = true) (hdue : (s.lane n).eqDue = true) :
    Completes (.farOpening n (next, change)) s fun t =>
      (t.lane n).eqSent = some (clampFar (s.lane n).farMax (if s.flag (wePage n) Weatas.FAR_TXEQ_REQ_AUTO then (s.lane n).farNow
        else s.farRequest n)).1 ∧ (t.lane n).eqDue = false ∧
      ((clampFar (s.lane n).farMax (if s.flag (wePage n) Weatas.FAR_TXEQ_REQ_AUTO then (s.lane n).farNow else s.farRequest n)).2 ≠ 0 →
        t.eventBit (wePage n) 3 = true) ∧ SameMemory s t ∧ SameFaults s t := by
  let x := if s.flag (wePage n) Weatas.FAR_TXEQ_REQ_AUTO then (s.lane n).farNow else s.farRequest n
  have ht : exec (.farOpening n (next, change)) s = .next (s.sendEq n x) := by
    rw [exec_farOpening change hlink hopen]
    cases h : s.flag (wePage n) Weatas.FAR_TXEQ_REQ_AUTO <;> simp [x, h, hdue]
  obtain ⟨hlane, hevent, hfaults, -⟩ := s.sendEq_effect n x
  exact ⟨_, ht, by rw [hlane], by rw [hlane], hevent, SameMemory.of_exec ht (by rw [exec]; exact answers_farOpening (Quiet.refl s)), hfaults⟩

theorem farOpening_moves (n : Fin 32) (next : List Int) (f : Fin 3) (up : Bool) (s : State) (hlink : s.linkState n = 9)
    (hopen : s.farOpen n next = true) (hdue : (s.lane n).eqDue = false) (hauto : s.flag (wePage n) Weatas.FAR_TXEQ_REQ_AUTO = true)
    (hrx : s.rxState n = 3) (hat : ((s.lane n).farAt.all fun c => decide (c + 100000000 ≤ s.time.c)) = true) :
    Completes (.farOpening n (next, some (f, up))) s fun t =>
      (t.lane n).eqSent = some (clampFar (s.lane n).farMax (moveFar (s.lane n).farNow f up)).1 ∧ (t.lane n).farAt = some s.time.c ∧
      SameMemory s t ∧ SameFaults s t := by
  let u := s.putLane n { s.lane n with farAt := some s.time.c }
  have hu : u.lane n = { s.lane n with farAt := some s.time.c } := State.lane_putLane_same ..
  have ht : exec (.farOpening n (next, some (f, up))) s = .next (u.sendEq n (moveFar (s.lane n).farNow f up)) := by
    have hgo : (decide (s.rxState n = 3) && (s.lane n).farAt.all fun c => decide (c + 100000000 ≤ s.time.c)) = true := by rw [hat, hrx]; rfl
    rw [exec_farOpening _ hlink hopen, if_neg (by simp [hauto]), if_neg (by simp [hdue])]
    exact congrArg Host.Outcome.next (if_pos hgo)
  obtain ⟨hlane, -, hfaults, -⟩ := u.sendEq_effect n (moveFar (s.lane n).farNow f up)
  rw [hu] at hlane
  exact ⟨_, ht, by rw [hlane], by rw [hlane], SameMemory.of_exec ht (by rw [exec]; exact answers_farOpening (Quiet.refl s)),
    (show SameFaults s u from ⟨rfl, rfl⟩).trans hfaults⟩

theorem bcAmpSample_clamps (n : Fin 32) (mv : Nat) (s : State) :
    Completes (.bcAmpSample n mv) s fun t =>
      t.get (wePage n) Weatas.BC_TX_ACT_AMAX = min 70 ((mv - 500) / 10) ∧
      t.get (wePage n) Weatas.BC_TX_ACT_AMP_ACT = min (s.get (wePage n) Weatas.BC_TX_AMP_REQ) (min 70 ((mv - 500) / 10)) ∧
      t.flag (wePage n) Weatas.BC_TX_ACT_CLAMPED = decide (min 70 ((mv - 500) / 10) < s.get (wePage n) Weatas.BC_TX_AMP_REQ) ∧
      SameMemory s t ∧ SameFaults s t := by
  generalize hmax : min 70 ((mv - 500) / 10) = amax
  have hlt : amax < 128 := by omega
  let u := s.put (wePage n) Weatas.BC_TX_ACT_AMAX amax
  have hamax : u.get (wePage n) Weatas.BC_TX_ACT_AMAX = amax := by
    rw [State.get_put_same]
    exact Nat.mod_eq_of_lt (show amax < 256 by omega)
  have hreq : u.get (wePage n) Weatas.BC_TX_AMP_REQ = s.get (wePage n) Weatas.BC_TX_AMP_REQ := State.get_put_other _ _ (by simp +decide)
  have ht : exec (.bcAmpSample n mv) s = .next (u.setAmplitude n) := by rw [exec, execBcAmpSample, hmax]
  refine ⟨_, ht, ?_, ?_, ?_, SameMemory.of_exec ht (by rw [exec]; exact answers_bcAmpSample (Quiet.refl s)), ?_⟩
  · rw [State.setAmplitude, State.get_eventIf_other _ _ _ (by simp +decide), State.get_put_other _ _ (by simp +decide),
      State.get_put_other _ _ (by simp +decide), hamax]
  · rw [State.setAmplitude, State.get_eventIf_other _ _ _ (by simp +decide), State.get_put_other _ _ (by simp +decide), State.get_put_same, hreq, hamax]
    exact Nat.mod_eq_of_lt (show _ < 128 by omega)
  · rw [State.flag, State.setAmplitude, State.get_eventIf_other _ _ _ (by simp +decide), State.get_put_same, hreq, hamax]
    cases decide (amax < s.get (wePage n) Weatas.BC_TX_AMP_REQ) <;> rfl
  · unfold State.setAmplitude
    extract_lets pg req amax' was v
    cases !was && decide (amax' < req) <;> exact ⟨rfl, rfl⟩

/-- Settles O20, a command at a time: a setting sent (`State.sendEq_effect`) in an opening, a field moved, and the amplitude of a sample. -/
theorem laneTransmittersAreSet : Obligations.LaneTransmittersAreSet :=
  ⟨farOpening_sends, farOpening_moves, bcAmpSample_clamps⟩

end Sys2Proof.Machine
end

section
/-!
PROOFS. Acknowledgement of faults (R78) and the close of quiet windows (R484).
-/
namespace Sys2Proof.Machine

variable {s : State} {pg b c : Nat} {l : List Nat}

/-! ## Acknowledged bits -/

theorem State.unack_raise (s : State) (pg b q : Nat) : ((s.raise pg b).marks q).unack = (s.marks q).unack := by
  unfold State.raise
  split
  · rfl
  · rw [State.marks_occur, State.marks_putMarks]
    split
    · next h => rw [h]
    · rfl

theorem State.unack_lower (s : State) (pg b q : Nat) : ((s.lower pg b).marks q).unack = (s.marks q).unack := by
  unfold State.lower
  split
  · extract_lets m u
    have hu : ∀ p, (u.marks p).unack = (s.marks p).unack := fun p => by
      rw [State.marks_putMarks]
      split
      · next h => rw [← h]
      · rfl
    split
    · rw [State.marks_putMarks]
      split
      · next h => rw [← h]; exact hu pg
      · exact hu q
    · exact hu q
  · rfl

theorem State.unack_cond (s : State) (pg b : Nat) (p : Bool) (q : Nat) : ((s.cond pg b p).marks q).unack = (s.marks q).unack := by
  cases p with
  | true => exact s.unack_raise pg b q
  | false => exact s.unack_lower pg b q

theorem State.marks_foldl {α : Type} {op : State → α → State} {l : List α} (h : ∀ s a q, (op s a).marks q = s.marks q) (s : State) (q : Nat) :
    (l.foldl op s).marks q = s.marks q := by
  induction l generalizing s with
  | nil => rfl
  | cons a l ih => rw [List.foldl, ih, h]

/-- What one acknowledged bit leaves: its own FLT_STAT bit, where its condition is gone and no occurrence of it waits. -/
theorem State.ackBit_effect (s : State) (pg b : Nat) :
    (s.ackBit pg b).due = s.due ∧ (∀ c, (s.ackBit pg b).condBit pg c = s.condBit pg c) ∧
    OnlyRegs s (s.ackBit pg b) [fieldKey pg Hdr.FLT_STAT_FAULT] ∧
    (∀ c < 32, (s.ackBit pg b).fltBit pg c =
      (s.fltBit pg c && !(decide (b = c) && !s.condBit pg c && !s.due.contains (.occurrence pg c)))) ∧
    (∀ c, hasBit ((s.ackBit pg b).marks pg).unack c = (hasBit (s.marks pg).unack c && !(decide (b = c) && s.fltBit pg b))) := by
  unfold State.ackBit
  by_cases hflt : s.fltBit pg b = true
  · rw [if_neg (by simp [hflt])]
    extract_lets m m' u
    by_cases hstay : (hasBit m'.present b || u.due.contains (Due.occurrence pg b)) = true
    · rw [if_pos hstay]
      refine ⟨rfl, fun c => ?_, OnlyRegs.of_regs rfl _, fun c _ => ?_, fun c => ?_⟩
      · rw [State.condBit, State.marks_putMarks_same, State.condBit]
      · by_cases hbc : b = c
        · subst hbc
          have : (s.condBit pg b || s.due.contains (Due.occurrence pg b)) = true := hstay
          show s.fltBit pg b = _
          cases hc : s.condBit pg b <;> simp_all
        · show s.fltBit pg c = _
          simp [hbc]
      · rw [State.marks_putMarks_same, hasBit_clearBit, hflt, Bool.and_true]
    · rw [if_neg hstay]
      refine ⟨rfl, fun c => ?_, (OnlyRegs.of_regs rfl _).put _ _ _ (by simp), fun c hc => ?_, fun c => ?_⟩
      · rw [State.condBit, State.marks_putMarks_same, State.condBit]
      · show hasBit ((u.put pg Hdr.FLT_STAT_FAULT (clearBit (u.get pg Hdr.FLT_STAT_FAULT) b)).get pg Hdr.FLT_STAT_FAULT) c = _
        rw [State.get_put_same, show Hdr.FLT_STAT_FAULT.size = 2 ^ 32 from rfl, hasBit_mod hc, hasBit_clearBit]
        by_cases hbc : b = c
        · subst hbc
          have hgone : (s.condBit pg b || s.due.contains (Due.occurrence pg b)) = false := Bool.eq_false_iff.mpr hstay
          rw [Bool.or_eq_false_iff] at hgone
          rw [hgone.1, hgone.2]
          simp
        · rw [decide_eq_false hbc, Bool.false_and, Bool.false_and]
          rfl
      · rw [State.marks_putMarks_same, hasBit_clearBit, hflt, Bool.and_true]
  · rw [if_pos (by simp [hflt])]
    refine ⟨rfl, fun _ => rfl, OnlyRegs.refl _ _, fun c _ => ?_, fun c => ?_⟩
    · by_cases hbc : b = c
      · subst hbc
        simp [hflt]
      · simp [hbc]
    · simp [hflt]

/-- The bits of FLT_ACK one after the other. -/
def State.ackBits (s : State) (pg : Nat) (l : List Nat) : State := l.foldl (fun (s : State) b => s.ackBit pg b) s

theorem State.ackBits_effect (s : State) (pg : Nat) (l : List Nat) :
    (s.ackBits pg l).due = s.due ∧ (∀ c, (s.ackBits pg l).condBit pg c = s.condBit pg c) ∧
    OnlyRegs s (s.ackBits pg l) [fieldKey pg Hdr.FLT_STAT_FAULT] ∧
    (∀ c < 32, (s.ackBits pg l).fltBit pg c =
      (s.fltBit pg c && !(decide (c ∈ l) && !s.condBit pg c && !s.due.contains (.occurrence pg c)))) := by
  induction l generalizing s with
  | nil => exact ⟨rfl, fun _ => rfl, OnlyRegs.refl _ _, fun c _ => by simp [State.ackBits]⟩
  | cons b l ih =>
    obtain ⟨hdue, hcond, honly, hflt, -⟩ := s.ackBit_effect pg b
    obtain ⟨hdue', hcond', honly', hflt'⟩ := ih (s.ackBit pg b)
    refine ⟨hdue'.trans hdue, fun c => (hcond' c).trans (hcond c), honly.trans honly', fun c hc => ?_⟩
    show ((s.ackBit pg b).ackBits pg l).fltBit pg c = _
    rw [hflt' c hc, hflt c hc, hcond, hdue]
    by_cases hbc : b = c
    · subst hbc
      cases s.fltBit pg b <;> cases s.condBit pg b <;> cases s.due.contains (.occurrence pg b) <;> simp
    · simp [hbc, Ne.symm hbc]

theorem State.unack_ackBits_false (s : State) (pg : Nat) (l : List Nat) (h : hasBit (s.marks pg).unack b = false) :
    hasBit ((s.ackBits pg l).marks pg).unack b = false := by
  induction l generalizing s with
  | nil => exact h
  | cons a l ih =>
    obtain ⟨-, -, -, -, hunack⟩ := s.ackBit_effect pg a
    exact ih _ (by rw [hunack, h, Bool.false_and])

/-- A fault bit that is set and acknowledged is so after all of FLT_ACK. -/
theorem State.unack_ackBits (s : State) (pg : Nat) (l : List Nat) (hb : b < 32) (hl : b ∈ l) (h : s.fltBit pg b = true) :
    hasBit ((s.ackBits pg l).marks pg).unack b = false := by
  induction l generalizing s with
  | nil => cases hl
  | cons a l ih =>
    obtain ⟨-, -, -, hflt, hunack⟩ := s.ackBit_effect pg a
    by_cases hab : a = b
    · subst hab
      exact State.unack_ackBits_false (s.ackBit pg a) pg l (by rw [hunack, h]; simp)
    · exact ih (s.ackBit pg a) ((List.mem_cons.mp hl).resolve_left (Ne.symm hab)) (by simp [hflt b hb, h, hab])

theorem mem_ackList {w : Word} (hb : b < 32) : b ∈ (List.range 32).filter (hasBit w.toNat) ↔ w.getLsbD b = true := by
  rw [List.mem_filter, List.mem_range, hasBit, BitVec.testBit_toNat]
  exact and_iff_right hb

/-! ## FLT_ACK -/

/-- The drivers that come back with an acknowledgement (R490, R600, R160) change no acknowledgement. -/
theorem State.unack_ackFaults (s : State) (pg w : Nat) :
    ((s.ackFaults pg w).marks pg).unack = ((s.ackBits pg ((List.range 32).filter (hasBit w))).marks pg).unack := by
  have htog : ∀ (t : State) q, (t.tryTog.marks q).unack = (t.marks q).unack := fun t q => by
    unfold State.tryTog
    split
    · have hlow := State.unack_lower { t with fault := { t.fault with togOff := false, togCleared := false } } bwPage 1 q
      unfold State.judgeTog
      extract_lets on u
      split <;> exact hlow
    · rfl
  have hgpio : ∀ (t : State) q, (t.tryGpio.marks q).unack = (t.marks q).unack := fun t q => by
    unfold State.tryGpio
    split
    · rfl
    · extract_lets back
      rw [State.judgeGpio, State.unack_cond]
      refine congrArg _ (State.marks_foldl ?_ _ _)
      exact fun _ _ _ => rfl
  have hlfs : ∀ (t : State) i q, ((t.tryLfs i).marks q).unack = (t.marks q).unack := fun t i q => by
    unfold State.tryLfs
    extract_lets p u
    split
    · rw [State.judgeGpio, State.unack_cond]
      refine Eq.trans (congrArg _ (State.marks_foldl ?_ _ _)) (State.unack_lower ..)
      exact fun _ _ _ => rfl
    · rfl
  unfold State.ackFaults
  extract_lets u
  split
  · exact htog _ _
  · split
    · exact hgpio _ _
    · split
      · exact hlfs _ _ _
      · rfl

theorem State.ackFaults_of_page {r : PageRef} (s : State) (w : Nat) (hr : pageRef pg = some r) (hrx : r.block ≠ .csiRx) (hbw : pg ≠ 0x20) (hgpio : pg ≠ 0xC) :
    s.ackFaults pg w = s.ackBits pg ((List.range 32).filter (hasBit w)) := by
  unfold State.ackFaults
  rw [if_neg (show ¬ pg = bwPage from hbw), if_neg hgpio, hr]
  split
  · next h => cases h; exact absurd rfl hrx
  · rfl

/-- FLT_ACK is a header register: it takes its write where the page has no power, and under the terminal latch. -/
theorem exec_faultAck (req : Requester) (pg : Fin 0x1400) (w : Word) (s : State) (hpage : (pageRef pg).isSome = true) (hreq : s.reaches req = true)
    (hfast : isFastOff (regOff pg Hdr.FLT_ACK_ACK) = false) : exec (.faultAck req pg w) s = .next (s.ackFaults pg w.toNat) := by
  obtain ⟨r, hr⟩ := Option.isSome_iff_exists.mp hpage
  have hoff : regOff pg Hdr.FLT_ACK_ACK = pg.val * 0x1000 + 0x02C := rfl
  have hlow : regOff pg Hdr.FLT_ACK_ACK % 0x1000 = 0x02C := by rw [hoff]; omega
  have hhigh : regOff pg Hdr.FLT_ACK_ACK / 0x1000 = pg.val := by rw [hoff]; omega
  have hlatched : s.writeLatched (regOff pg Hdr.FLT_ACK_ACK) w.toNat = s.ackFaults pg w.toNat := by
    unfold State.writeLatched
    rw [hhigh, hr, hlow]
    rfl
  have hjob : inJobWindow pg = false := by
    by_contra hj
    rw [Bool.not_eq_false, inJobWindow, Bool.and_eq_true, decide_eq_true_eq, decide_eq_true_eq] at hj
    have hnone : pageRef pg = none := by
      unfold pageRef
      repeat rw [if_neg (by omega)]
      rw [if_pos (by omega)]
    rw [hnone] at hr
    cases hr
  have hheader : isHeaderOff (regOff pg Hdr.FLT_ACK_ACK) = true := by rw [isHeaderOff, hoff, decide_eq_true_eq]; omega
  have hlive : isLiveOff (regOff pg Hdr.FLT_ACK_ACK) = false := by rw [isLiveOff, hlow]; rfl
  have hcause : s.accessCause true (regOff pg Hdr.FLT_ACK_ACK) 4 = none := by
    have hword : regOff pg Hdr.FLT_ACK_ACK % 4 = 0 := by rw [hoff]; omega
    simp [State.accessCause, hhigh, hfast, hlive, hr, hheader, hjob, hword]
  rw [exec, execFaultAck, hfast, hreq, hlatched, hcause]
  cases s.terminal <;> rfl

theorem faultAck_acknowledges (req : Requester) (pg : Fin 0x1400) (w : Word) (s : State) (b : Nat) (hpage : (pageRef pg).isSome = true)
    (hreq : s.reaches req = true) (hfast : isFastOff (regOff pg Hdr.FLT_ACK_ACK) = false) (hb : b < 32) (hw : w.getLsbD b = true)
    (hflt : s.fltBit pg b = true) :
    Completes (.faultAck req pg w) s fun t => hasBit (t.marks pg).unack b = false ∧ SameMemory s t := by
  have ht := exec_faultAck req pg w s hpage hreq hfast
  refine ⟨_, ht, ?_, SameMemory.of_exec ht (by rw [exec]; exact answers_faultAck (Quiet.refl s))⟩
  rw [State.unack_ackFaults]
  exact s.unack_ackBits pg _ hb ((mem_ackList hb).mpr hw) hflt

theorem faultAck_clears (req : Requester) (pg : Fin 0x1400) (w : Word) (s : State) (r : PageRef) (hpage : pageRef pg = some r)
    (hreq : s.reaches req = true) (hfast : isFastOff (regOff pg Hdr.FLT_ACK_ACK) = false) (hrx : r.block ≠ .csiRx) (hbw : pg.val ≠ 0x20)
    (hgpio : pg.val ≠ 0xC) :
    Completes (.faultAck req pg w) s fun t =>
      (∀ b < 32, w.getLsbD b = true → s.condBit pg b = false → s.due.contains (.occurrence pg b) = false → t.fltBit pg b = false) ∧
      (∀ b < 32, s.condBit pg b = true → t.fltBit pg b = s.fltBit pg b) ∧
      (∀ b < 32, w.getLsbD b = false → t.fltBit pg b = s.fltBit pg b) ∧
      (∀ b, t.condBit pg b = s.condBit pg b) ∧
      OnlyRegs s t [fieldKey pg Hdr.FLT_STAT_FAULT] ∧ t.due = s.due ∧ SameMemory s t := by
  have ht := exec_faultAck req pg w s (by rw [hpage]; rfl) hreq hfast
  have hmem := SameMemory.of_exec ht (by rw [exec]; exact answers_faultAck (Quiet.refl s))
  obtain ⟨hdue, hcond, honly, hflt⟩ := s.ackBits_effect pg ((List.range 32).filter (hasBit w.toNat))
  rw [← s.ackFaults_of_page _ hpage hrx hbw hgpio] at hdue hcond honly hflt
  refine ⟨_, ht, fun b hb hw hgone hnodue => ?_, fun b hb hpresent => ?_, fun b hb hw => ?_, hcond, honly, hdue, hmem⟩
  · rw [hflt b hb, hgone, hnodue, decide_eq_true ((mem_ackList hb).mpr hw)]
    simp
  · rw [hflt b hb, hpresent]
    simp
  · rw [hflt b hb, decide_eq_false (fun hm => by rw [(mem_ackList hb).mp hm] at hw; cases hw)]
    simp

/-! ## Quiet windows -/

theorem quietWindowClose_closes (pg : Fin 0x1400) (s : State) (r : PageRef) (hpage : pageRef pg = some r)
    (hopen : (s.fault.quiet.any fun x => x.1 == r.base) = true) :
    Completes (.quietWindowClose pg) s fun t =>
      t.fault.quiet = s.fault.quiet.filter (fun x => x.1 != r.base) ∧
      t.get bwPage Breakwater.BW_STAT_QUIET = min 127 t.fault.quiet.length ∧
      (t.fault.quiet = [] → t.eventBit bwPage 2 = true) ∧
      OnlyRegs s t [fieldKey bwPage Breakwater.BW_STAT_QUIET, fieldKey bwPage Hdr.EVT_STAT_EVENT] ∧ SameMemory s t ∧ SameFaults s t := by
  let rest := s.fault.quiet.filter fun (x : Nat × Nat) => x.1 != r.base
  let u := ({ s with fault := { s.fault with quiet := rest } }).showQuiet
  have ht : exec (.quietWindowClose pg) s = .next (u.eventIf rest.isEmpty bwPage 2) := by
    rw [exec, execQuietWindowClose, hpage]
    show Host.Outcome.next (s.closeQuiet r.base) = _
    rw [State.closeQuiet, if_neg (by simpa using hopen)]
    rfl
  have hquiet : (u.eventIf rest.isEmpty bwPage 2).fault.quiet = rest := by cases rest.isEmpty <;> rfl
  refine ⟨_, ht, hquiet, ?_, fun hnone => ?_, ?_, SameMemory.of_exec ht (by rw [exec]; exact answers_quietWindowClose (Quiet.refl s)), ?_⟩
  · rw [hquiet, State.get_eventIf_other _ _ _ (by simp +decide)]
    refine (State.get_put_same ..).trans (Nat.mod_eq_of_lt ?_)
    show min 127 rest.length < 128
    omega
  · rw [hquiet] at hnone
    rw [hnone]
    exact State.eventBit_event _ _ (by decide)
  · exact OnlyRegs.eventIf (OnlyRegs.put (t := { s with fault := { s.fault with quiet := rest } }) (OnlyRegs.of_regs rfl _) _ _ _ (.head _)) _ _ _ (by simp)
  · cases rest.isEmpty <;> exact ⟨rfl, rfl⟩

/-- Settles O18: bit for bit of FLT_ACK (`State.ackBits_effect`), and the window that closes. -/
theorem faultsAreAcknowledgedAndQuietWindowsClose : Obligations.FaultsAreAcknowledgedAndQuietWindowsClose :=
  ⟨faultAck_acknowledges, faultAck_clears, quietWindowClose_closes⟩

end Sys2Proof.Machine
end

section
/-!
PROOFS. One-bit fields, and rules about faults and lanes that many commands share.
-/
namespace Sys2Proof.Machine

section
variable (s : State) {pg pg' : Nat} {f g : Field}

theorem bit_ne_zero (b : Bool) : (bit b != 0) = b := by cases b <;> rfl

theorem Field.bit_mod_size (f : Field) (b : Bool) : bit b % f.size = bit b := by
  refine Nat.mod_eq_of_lt (Nat.lt_of_le_of_lt (m := 1) (by cases b <;> decide) ?_)
  rw [Field.size]
  exact Nat.one_lt_two_pow (by omega)

/-- A one-bit value put into a field reads back as a flag. -/
@[simp] theorem State.flag_put_bit (b : Bool) : (s.put pg f (bit b)).flag pg f = b := by
  rw [State.flag, State.get_put_same, Field.bit_mod_size, bit_ne_zero]

@[simp] theorem State.flag_put_one : (s.put pg f 1).flag pg f = true := s.flag_put_bit true

@[simp] theorem State.flag_put_zero : (s.put pg f 0).flag pg f = false := s.flag_put_bit false

theorem State.flag_put_other (v : Nat) (h : fieldKey pg f ≠ fieldKey pg' g) : (s.put pg f v).flag pg' g = s.flag pg' g := by
  rw [State.flag, State.get_put_other _ _ h, State.flag]

theorem State.flag_event_other (b : Nat) (h : fieldKey pg Hdr.EVT_STAT_EVENT ≠ fieldKey pg' g) : (s.event pg b).flag pg' g = s.flag pg' g :=
  s.flag_put_other _ h

theorem State.get_event_other (b : Nat) (h : fieldKey pg Hdr.EVT_STAT_EVENT ≠ fieldKey pg' g) : (s.event pg b).get pg' g = s.get pg' g :=
  State.get_put_other _ _ h

theorem State.flag_congr {t : State} (h : t.get pg f = s.get pg f) : t.flag pg f = s.flag pg f := by rw [State.flag, h, State.flag]

end

theorem State.get_of_regs {s t : State} (h : t.regs = s.regs) (pg : Nat) (f : Field) : t.get pg f = s.get pg f := by rw [State.get, h, State.get]

@[simp] theorem State.lane_put (s : State) (pg : Nat) (f : Field) (v n : Nat) : (s.put pg f v).lane n = s.lane n := rfl
@[simp] theorem State.lane_event (s : State) (pg b n : Nat) : (s.event pg b).lane n = s.lane n := rfl
@[simp] theorem State.lane_emit (s : State) (o : Out) (n : Nat) : (s.emit o).lane n = s.lane n := rfl
@[simp] theorem State.lane_countSat (s : State) (pg : Nat) (f : Field) (v n : Nat) : (s.countSat pg f v).lane n = s.lane n := rfl
@[simp] theorem State.lane_countWrap (s : State) (pg : Nat) (f : Field) (n : Nat) : (s.countWrap pg f).lane n = s.lane n := rfl

section
variable {s t : State}

theorem SameFaults.put (h : SameFaults s t) {pg : Nat} {f : Field} {v : Nat} : SameFaults s (t.put pg f v) := h
theorem SameFaults.event (h : SameFaults s t) {pg b : Nat} : SameFaults s (t.event pg b) := h
theorem SameFaults.emit (h : SameFaults s t) {o : Out} : SameFaults s (t.emit o) := h
theorem SameFaults.putLane (h : SameFaults s t) {n : Nat} {x : LaneSt} : SameFaults s (t.putLane n x) := h

theorem SameFaults.ite {c : Prop} [Decidable c] {u : State} (h : SameFaults s t) (h' : SameFaults s u) : SameFaults s (if c then t else u) := by
  split <;> assumption

theorem SameFaults.eventIf (h : SameFaults s t) {c : Bool} {pg b : Nat} : SameFaults s (t.eventIf c pg b) := SameFaults.ite h.event h

theorem SameFaults.foldl {α : Type} {op : State → α → State} {l : List α} (h : SameFaults s t)
    (hop : ∀ t a, SameFaults s t → SameFaults s (op t a)) : SameFaults s (l.foldl op t) := by
  induction l generalizing t with
  | nil => exact h
  | cons a l ih => exact ih (hop t a h)

end

end Sys2Proof.Machine
end

section
/-!
PROOFS. Fault conditions of other bits, and an attempt of training (R94, R133, R134): what it writes and what it leaves.
-/
namespace Sys2Proof.Machine

section
variable (s : State) {pg pg' b c : Nat}

theorem State.condBit_raise_other (h : pg ≠ pg' ∨ b ≠ c) : (s.raise pg b).condBit pg' c = s.condBit pg' c := by
  unfold State.raise
  split
  · rfl
  · rw [State.condBit, State.marks_occur, State.marks_putMarks]
    split
    · next hp =>
      subst hp
      rw [hasBit_setBit, decide_eq_false (h.resolve_left (· rfl)), Bool.or_false]
      rfl
    · rfl

theorem State.condBit_lower_other (h : pg ≠ pg' ∨ b ≠ c) : (s.lower pg b).condBit pg' c = s.condBit pg' c := by
  unfold State.lower
  split
  · extract_lets m u
    have hu : ∀ p, pg ≠ p ∨ b ≠ c → u.condBit p c = s.condBit p c := fun p hp => by
      rw [State.condBit, State.marks_putMarks]
      split
      · next hpp =>
        subst hpp
        exact (hasBit_clearBit ..).trans (by rw [decide_eq_false (hp.resolve_left (· rfl)), Bool.not_false, Bool.and_true]; rfl)
      · rfl
    split
    · rw [State.condBit, State.marks_putMarks]
      split
      · next hpp =>
        subst hpp
        exact hu pg h
      · exact hu pg' h
    · exact hu pg' h
  · rfl

theorem State.condBit_cond_other (p : Bool) (h : pg ≠ pg' ∨ b ≠ c) : (s.cond pg b p).condBit pg' c = s.condBit pg' c := by
  cases p with
  | true => exact s.condBit_raise_other h
  | false => exact s.condBit_lower_other h

end

/-! ## Places of a page -/

/-- A field's place in its page. -/
def Field.place (f : Field) : Nat := f.off * 8 + f.lo

theorem fieldKey_ne {pg : Nat} {f g : Field} {l : List Nat} (hg : g.place ∈ l) (hf : f.place ∉ l) : fieldKey pg g ≠ fieldKey pg f := by
  rw [Ne, fieldKey_inj]
  intro h
  exact hf ((show g.place = f.place from h) ▸ hg)

/-! ## LINK_STAT, the presets, an attempt -/

theorem State.lane_linkTo (s : State) (n st m : Nat) : (s.linkTo n st).lane m = s.lane m := by
  unfold State.linkTo
  extract_lets u
  have hu : u.lanes = s.lanes := State.cond_lanes ..
  split
  · rw [State.lane, State.lower_lanes, hu, State.lane]
  · rw [State.lane, hu, State.lane]

theorem State.condBit_linkTo (s : State) (n st : Nat) {c : Nat} (h16 : c ≠ 16) (h17 : c ≠ 17) :
    (s.linkTo n st).condBit (wePage n) c = s.condBit (wePage n) c := by
  unfold State.linkTo
  extract_lets u
  have hu : u.condBit (wePage n) c = s.condBit (wePage n) c := State.condBit_cond_other _ _ (.inr h17.symm)
  split
  · rw [State.condBit_lower_other _ (.inr h16.symm), hu]
  · exact hu

/-- The places that ACQUIRE's presets write. -/
def acquirePlaces : List Nat :=
  [Weatas.RX_CTLE_VGA.place, Weatas.RX_CTLE_PEAK.place, Weatas.RX_DFE_H1.place, Weatas.LANE_STAT_RX_STATE.place, Hdr.FLT_STAT_FAULT.place] ++
    (List.range 24).map fun t => (Weatas.RX_FFE_C.nth t).place

/-- The presets of the gains and of the FFE taps. -/
def State.acquireTaps (s : State) (n : Nat) : State :=
  let u := (s.put (wePage n) Weatas.RX_CTLE_VGA 24).put (wePage n) Weatas.RX_CTLE_PEAK (modePeak (s.laneMode n))
  (List.range 24).foldl (fun s t => s.put (wePage n) (Weatas.RX_FFE_C.nth t) (if t = u.get (wePage n) Weatas.RX_FFE_CUR_CURSOR then 0x100 else 0)) u

theorem State.acquire_eq (s : State) (n : Nat) :
    s.acquire n = ((((s.acquireTaps n).put (wePage n) Weatas.RX_DFE_H1 0).putLane n { (s.acquireTaps n).lane n with manual := [] }).put (wePage n)
      Weatas.LANE_STAT_RX_STATE 2).lower (wePage n) 4 := rfl

theorem State.get_acquire_of_taps (s : State) (n : Nat) {f : Field}
    (hf : f.place ∉ [Weatas.RX_DFE_H1.place, Weatas.LANE_STAT_RX_STATE.place, Hdr.FLT_STAT_FAULT.place]) :
    (s.acquire n).get (wePage n) f = (s.acquireTaps n).get (wePage n) f := by
  rw [State.acquire_eq, State.get_lower_other _ _ (fieldKey_ne (by decide) hf), State.get_put_other _ _ (fieldKey_ne (by decide) hf)]
  exact State.get_put_other _ _ (fieldKey_ne (by decide) hf)

theorem State.get_acquireTaps (s : State) (n : Nat) {f : Field} (hf : f.place ∉ (List.range 24).map fun t => (Weatas.RX_FFE_C.nth t).place) :
    (s.acquireTaps n).get (wePage n) f =
      ((s.put (wePage n) Weatas.RX_CTLE_VGA 24).put (wePage n) Weatas.RX_CTLE_PEAK (modePeak (s.laneMode n))).get (wePage n) f :=
  State.get_foldl_other _ fun _ t ht =>
    State.get_put_other _ _ (fieldKey_ne (List.mem_map_of_mem (f := fun t => (Weatas.RX_FFE_C.nth t).place) ht) hf)

theorem State.get_acquire (s : State) (n : Nat) {f : Field} (hf : f.place ∉ acquirePlaces) : (s.acquire n).get (wePage n) f = s.get (wePage n) f := by
  have hsub : ∀ p ∈ [Weatas.RX_DFE_H1.place, Weatas.LANE_STAT_RX_STATE.place, Hdr.FLT_STAT_FAULT.place], p ∈ acquirePlaces := by decide
  rw [s.get_acquire_of_taps n fun h => hf (hsub _ h), s.get_acquireTaps n fun h => hf (List.mem_append_right _ h),
    State.get_put_other _ _ (fieldKey_ne (by decide) hf), State.get_put_other _ _ (fieldKey_ne (by decide) hf)]

theorem State.foldl_put_keeps {α : Type} {g : α → Field} {v : α → Nat} (l : List α) (s : State) (pg : Nat) :
    (l.foldl (fun s a => s.put pg (g a) (v a)) s).lanes = s.lanes ∧ (l.foldl (fun s a => s.put pg (g a) (v a)) s).flt = s.flt := by
  induction l generalizing s with
  | nil => exact ⟨rfl, rfl⟩
  | cons a l ih => exact ih _

theorem State.acquire_effect (s : State) (n : Nat) :
    (s.acquire n).lane n = { s.lane n with manual := [] } ∧ (s.acquire n).rxState n = 2 ∧
    ∀ c, c ≠ 4 → (s.acquire n).condBit (wePage n) c = s.condBit (wePage n) c := by
  obtain ⟨hlanes, hflt⟩ : (s.acquireTaps n).lanes = s.lanes ∧ (s.acquireTaps n).flt = s.flt := by
    unfold State.acquireTaps
    extract_lets u
    exact State.foldl_put_keeps (List.range 24) u (wePage n)
  have hlane : (s.acquireTaps n).lane n = s.lane n := by rw [State.lane, hlanes, State.lane]
  rw [State.acquire_eq, hlane]
  generalize s.acquireTaps n = v at hlanes hflt ⊢
  refine ⟨?_, ?_, fun c hc => ?_⟩
  · rw [State.lane, State.lower_lanes, ← State.lane, State.lane_put, State.lane_putLane_same]
  · rw [State.rxState, State.get_lower_other _ _ (by simp +decide), State.get_put_same]
    rfl
  · rw [State.condBit_lower_other _ (.inr hc.symm)]
    show v.condBit (wePage n) c = s.condBit (wePage n) c
    rw [State.condBit, State.marks, hflt, State.condBit, State.marks]

theorem State.get_acquire_presets (s : State) (n : Nat) :
    (s.acquire n).get (wePage n) Weatas.RX_CTLE_VGA = 24 ∧ (s.acquire n).get (wePage n) Weatas.RX_CTLE_PEAK = modePeak (s.laneMode n) % 128 := by
  rw [State.get_acquire_of_taps _ _ (by decide), State.get_acquire_of_taps _ _ (by decide), State.get_acquireTaps _ _ (by decide),
    State.get_acquireTaps _ _ (by decide), State.get_put_same, State.get_put_other _ _ (by simp +decide), State.get_put_same]
  exact ⟨rfl, rfl⟩

/-- The places that an attempt writes. -/
def attemptPlaces : List Nat :=
  [Weatas.LANE_STAT_MODE_ACT.place, Weatas.LINK_STAT_EPOCH.place, Weatas.LINK_CTRL_RETRAIN.place, Weatas.LINK_STAT_STATE.place] ++ acquirePlaces

/-- The state of an attempt before its lane starts afresh. -/
def State.attemptRegs (s : State) (n m : Nat) : State :=
  ((((s.put (wePage n) Weatas.LANE_STAT_MODE_ACT m).countWrap (wePage n) Weatas.LINK_STAT_EPOCH).put (wePage n) Weatas.LINK_CTRL_RETRAIN 0).linkTo n 2).acquire n

theorem State.attempt_regs (s : State) (n m : Nat) : (s.attempt n m).regs = (s.attemptRegs n m).regs ∧ (s.attempt n m).flt = (s.attemptRegs n m).flt := ⟨rfl, rfl⟩

theorem State.get_attempt (s : State) (n m : Nat) {f : Field} (hf : f.place ∉ attemptPlaces) : (s.attempt n m).get (wePage n) f = s.get (wePage n) f := by
  have hf' : f.place ∉ acquirePlaces := fun h => hf (List.mem_append_right _ h)
  rw [State.get, (s.attempt_regs n m).1, ← State.get, State.attemptRegs, State.get_acquire _ _ hf',
    State.get_linkTo _ _ _ (fieldKey_ne (by decide) hf) (fieldKey_ne (by decide) hf), State.get_put_other _ _ (fieldKey_ne (by decide) hf), State.get_countWrap,
    if_neg (fieldKey_ne (by decide) hf), State.get_put_other _ _ (fieldKey_ne (by decide) hf)]

/-- What an attempt begins with (R133, R134). -/
theorem State.attempt_effect (s : State) (n m : Nat) :
    (s.attempt n m).linkState n = 2 ∧ (s.attempt n m).laneMode n = m % 4 ∧ (s.attempt n m).rxState n = 2 ∧
    (s.attempt n m).get (wePage n) Weatas.LINK_STAT_EPOCH = (s.get (wePage n) Weatas.LINK_STAT_EPOCH + 1) % 256 := by
  obtain ⟨-, hrx, -⟩ := (((s.put (wePage n) Weatas.LANE_STAT_MODE_ACT m).countWrap (wePage n) Weatas.LINK_STAT_EPOCH).put (wePage n)
    Weatas.LINK_CTRL_RETRAIN 0 |>.linkTo n 2).acquire_effect n
  refine ⟨?_, ?_, hrx, ?_⟩
  · rw [State.linkState, State.get, (s.attempt_regs n m).1, ← State.get, State.attemptRegs, State.get_acquire _ _ (by decide)]
    exact State.linkState_linkTo _ _ _
  · rw [State.laneMode, State.get, (s.attempt_regs n m).1, ← State.get, State.attemptRegs, State.get_acquire _ _ (by decide),
      State.get_linkTo _ _ _ (by simp +decide) (by simp +decide), State.get_put_other _ _ (by simp +decide), State.get_countWrap, if_neg (by simp +decide),
      State.get_put_same]
    rfl
  · rw [State.get, (s.attempt_regs n m).1, ← State.get, State.attemptRegs, State.get_acquire _ _ (by decide),
      State.get_linkTo _ _ _ (by simp +decide) (by simp +decide), State.get_put_other _ _ (by simp +decide), State.get_countWrap, if_pos rfl,
      State.get_put_other _ _ (by simp +decide)]
    rfl

theorem State.condBit_attempt (s : State) (n m : Nat) {c : Nat} (h4 : c ≠ 4) (h16 : c ≠ 16) (h17 : c ≠ 17) :
    (s.attempt n m).condBit (wePage n) c = s.condBit (wePage n) c := by
  obtain ⟨-, -, hcond⟩ := (((s.put (wePage n) Weatas.LANE_STAT_MODE_ACT m).countWrap (wePage n) Weatas.LINK_STAT_EPOCH).put (wePage n)
    Weatas.LINK_CTRL_RETRAIN 0 |>.linkTo n 2).acquire_effect n
  rw [State.condBit, State.marks, (s.attempt_regs n m).2]
  exact (hcond c h4).trans (State.condBit_linkTo _ _ _ h16 h17)

/-- An attempt keeps what the lane knows of its camera. -/
theorem State.lane_attempt (s : State) (n m : Nat) :
    ((s.attempt n m).lane n).modes = (s.lane n).modes ∧ ((s.attempt n m).lane n).farMax = (s.lane n).farMax ∧
    ((s.attempt n m).lane n).modeMin = (s.lane n).modeMin ∧ ((s.attempt n m).lane n).inPacket = none := by
  have hlane : (s.attemptRegs n m).lane n = { s.lane n with manual := [] } := by
    rw [State.attemptRegs, (State.acquire_effect _ n).1, State.lane_linkTo]
    rfl
  have ht : s.attempt n m = ((s.attemptRegs n m).putLane n { (s.attemptRegs n m).lane n with
    queue := [], inbox := [], probe := none, eqSent := none, run := 0, uncorrRun := 0, seqNext := none, place := none, inPacket := none }).sendTrain n 0 := rfl
  rw [ht, State.sendTrain, State.lane_bcSend, State.lane_putLane_same, hlane]
  exact ⟨rfl, rfl, rfl, rfl⟩

end Sys2Proof.Machine
end

section
/-!
PROOFS. Pattern generator, injections and checker of a lane (R107 to R109, R114).
-/
namespace Sys2Proof.Machine

/-- A pattern is taken, or refused with CFG_REJECT: nothing but its field and EVT_STAT is written. -/
theorem State.putPattern_keeps (s : State) (n : Nat) (f : Field) (p : Nat) (forward : Bool) (mode : Nat) :
    (s.putPattern n f p forward mode).lanes = s.lanes ∧ (s.putPattern n f p forward mode).out = s.out ∧
    (s.putPattern n f p forward mode).time = s.time ∧ SameFaults s (s.putPattern n f p forward mode) ∧
    ∀ g, fieldKey (wePage n) f ≠ fieldKey (wePage n) g → fieldKey (wePage n) Hdr.EVT_STAT_EVENT ≠ fieldKey (wePage n) g →
      (s.putPattern n f p forward mode).get (wePage n) g = s.get (wePage n) g := by
  unfold State.putPattern
  split
  · exact ⟨rfl, rfl, rfl, ⟨rfl, rfl⟩, fun g hf _ => State.get_put_other _ _ hf⟩
  · exact ⟨rfl, rfl, rfl, ⟨rfl, rfl⟩, fun g _ he => State.get_event_other _ _ he⟩

/-- The first series of injections begins: nothing but the lane and the output changes. -/
theorem State.startSeries_keeps (s : State) (n : Nat) :
    (s.startSeries n).regs = s.regs ∧ ((s.startSeries n).lane n).injections = (s.lane n).injections ∧ SameFaults s (s.startSeries n) := by
  unfold State.startSeries
  split
  · exact ⟨rfl, rfl, rfl, rfl⟩
  · exact ⟨rfl, by simp, rfl, rfl⟩

theorem State.startSeries_out {s : State} {n : Nat} {i : Injection} {r : List Injection} (h : (s.lane n).injections = i :: r) :
    (s.startSeries n).out = .inject n (s.genBit n) i :: s.out := by
  unfold State.startSeries
  rw [h]
  rfl

theorem State.genBit_congr {s t : State} {n : Nat} (htime : t.time = s.time) (hlane : (t.lane n).genAt = (s.lane n).genAt)
    (htarget : t.get (wePage n) Weatas.PRBS_GEN_TARGET = s.get (wePage n) Weatas.PRBS_GEN_TARGET)
    (hmode : t.get (wePage n) Weatas.LANE_CFG_MODE_MAX = s.get (wePage n) Weatas.LANE_CFG_MODE_MAX) : t.genBit n = s.genBit n := by
  rw [State.genBit, State.genBit, htime, hlane, State.flag, State.flag, htarget, hmode]

/-! ## The generator (R107) -/

/-- The state after the fields of PRBS_GEN but EN. -/
def State.genFields (s : State) (n w : Nat) : State :=
  (s.put (wePage n) Weatas.PRBS_GEN_TARGET (bitsOf w 30 30)).putPattern n Weatas.PRBS_GEN_PATTERN (bitsOf w 3 0) (w.testBit 30)
    ((s.put (wePage n) Weatas.PRBS_GEN_TARGET (bitsOf w 30 30)).get (wePage n) Weatas.LANE_CFG_MODE_MAX)

theorem State.genFields_keeps (s : State) (n w : Nat) :
    (s.genFields n w).lanes = s.lanes ∧ (s.genFields n w).out = s.out ∧ SameFaults s (s.genFields n w) ∧
    (s.genFields n w).flag (wePage n) Weatas.PRBS_GEN_TARGET = w.testBit 30 ∧
    (s.genFields n w).get (wePage n) Weatas.PRBS_GEN_TARGET = bit (w.testBit 30) ∧
    (s.genFields n w).flag (wePage n) Weatas.PRBS_GEN_EN = s.flag (wePage n) Weatas.PRBS_GEN_EN ∧
    (s.genFields n w).flag (wePage n) Weatas.LM_STAT_HOLD = s.flag (wePage n) Weatas.LM_STAT_HOLD ∧
    (s.genFields n w).linkOperating n = s.linkOperating n := by
  obtain ⟨hlanes, hout, -, hfaults, hget⟩ := (s.put (wePage n) Weatas.PRBS_GEN_TARGET (bitsOf w 30 30)).putPattern_keeps n
    Weatas.PRBS_GEN_PATTERN (bitsOf w 3 0) (w.testBit 30) ((s.put (wePage n) Weatas.PRBS_GEN_TARGET (bitsOf w 30 30)).get (wePage n) Weatas.LANE_CFG_MODE_MAX)
  have htarget : (s.genFields n w).get (wePage n) Weatas.PRBS_GEN_TARGET = bit (w.testBit 30) :=
    (hget _ (by simp +decide) (by simp +decide)).trans (by rw [State.get_put_same, bitsOf_one, Field.bit_mod_size])
  have hother : ∀ g, fieldKey (wePage n) Weatas.PRBS_GEN_PATTERN ≠ fieldKey (wePage n) g → fieldKey (wePage n) Hdr.EVT_STAT_EVENT ≠ fieldKey (wePage n) g →
      fieldKey (wePage n) Weatas.PRBS_GEN_TARGET ≠ fieldKey (wePage n) g → (s.genFields n w).get (wePage n) g = s.get (wePage n) g :=
    fun g h h' h'' => (hget g h h').trans (State.get_put_other _ _ h'')
  refine ⟨hlanes, hout, hfaults, ?_, htarget, ?_, ?_, ?_⟩
  · rw [State.flag, htarget, bit_ne_zero]
  · exact State.flag_congr _ (hother _ (by simp +decide) (by simp +decide) (by simp +decide))
  · exact State.flag_congr _ (hother _ (by simp +decide) (by simp +decide) (by simp +decide))
  · rw [State.linkOperating, State.linkState, hother _ (by simp +decide) (by simp +decide) (by simp +decide)]
    rfl

theorem exec_prbsGenEnable {req : Requester} {n : Fin 32} {w : Word} {s : State} (hs : s.serves req (regOff (wePage n) Weatas.PRBS_GEN_EN) = true) :
    exec (.prbsGenEnable req n w) s = .next (
      if !w.toNat.testBit 31 then (((s.genFields n w.toNat).put (wePage n) Weatas.PRBS_GEN_EN 0).put (wePage n) Weatas.PRBS_INJ_GO 0).putLane n
        { (s.genFields n w.toNat).lane n with injections := [] }
      else if (s.genFields n w.toNat).flag (wePage n) Weatas.PRBS_GEN_EN then s.genFields n w.toNat
      else if (s.genFields n w.toNat).linkOperating n then (s.genFields n w.toNat).event (wePage n) 11
      else (((s.genFields n w.toNat).fresh.2.putLane n { (s.genFields n w.toNat).lane n with
        genSeed := (s.genFields n w.toNat).fresh.1 % (2 ^ (patternTaps ((s.genFields n w.toNat).get (wePage n) Weatas.PRBS_GEN_PATTERN)).1 - 1) + 1,
        genAt := (s.genFields n w.toNat).time.c }).put (wePage n) Weatas.PRBS_GEN_EN 1).drivePattern n) := by
  rw [exec, execPrbsGenEnable, State.onWrite_served hs]
  rfl

theorem prbsGenEnable_starts (req : Requester) (n : Fin 32) (w : Word) (s : State)
    (hs : s.serves req (regOff (wePage n) Weatas.PRBS_GEN_EN) = true) :
    Completes (.prbsGenEnable req n w) s fun t =>
      (w.getLsbD 31 = true → s.flag (wePage n) Weatas.PRBS_GEN_EN = false → s.linkOperating n = false →
        t.flag (wePage n) Weatas.PRBS_GEN_EN = true ∧
        t.out = (if w.getLsbD 30 || !s.flag (wePage n) Weatas.LM_STAT_HOLD then
            [.pattern n (bit (w.getLsbD 30)) (t.get (wePage n) Weatas.PRBS_GEN_PATTERN) (t.lane n).genSeed] else []) ++ s.out) ∧
      (w.getLsbD 31 = true → s.flag (wePage n) Weatas.PRBS_GEN_EN = false → s.linkOperating n = true →
        t.flag (wePage n) Weatas.PRBS_GEN_EN = false ∧ t.eventBit (wePage n) 11 = true ∧ t.out = s.out) ∧
      (w.getLsbD 31 = false → t.flag (wePage n) Weatas.PRBS_GEN_EN = false ∧ (t.lane n).injections = [] ∧ t.out = s.out) ∧
      SameMemory s t ∧ SameFaults s t := by
  have ht := exec_prbsGenEnable (w := w) hs
  have hmem := SameMemory.of_exec ht (by rw [exec]; exact answers_prbsGenEnable (Quiet.refl s))
  obtain ⟨hlanes, hout, hfaults, htarget, htargetGet, hen, hhold, hlink⟩ := s.genFields_keeps n w.toNat
  simp only [BitVec.testBit_toNat] at htarget htargetGet ht hmem
  generalize s.genFields n w.toNat = u at *
  refine ⟨_, ht, fun hw hoff hnot => ?_, fun hw hoff hop => ?_, fun hw => ?_, hmem, ?_⟩
  · rw [if_neg (by simp [hw]), if_neg (by simp [hen, hoff]), if_neg (by simp [hlink, hnot])]
    generalize hv : (u.fresh.2.putLane n _).put (wePage n) Weatas.PRBS_GEN_EN 1 = v
    have hvout : v.out = s.out := by rw [← hv]; exact hout
    have hven : v.flag (wePage n) Weatas.PRBS_GEN_EN = true := by rw [← hv, State.flag_put_one]
    have hvtarget : v.get (wePage n) Weatas.PRBS_GEN_TARGET = bit (w.getLsbD 30) := by
      rw [← hv, State.get_put_other _ _ (by simp +decide)]; exact htargetGet
    have hvhold : v.flag (wePage n) Weatas.LM_STAT_HOLD = s.flag (wePage n) Weatas.LM_STAT_HOLD := by
      rw [← hv, State.flag_put_other _ _ (by simp +decide)]; exact hhold
    have hdriven : v.drivePattern n = if w.getLsbD 30 || !s.flag (wePage n) Weatas.LM_STAT_HOLD then
        v.emit (.pattern n (bit (w.getLsbD 30)) (v.get (wePage n) Weatas.PRBS_GEN_PATTERN) (v.lane n).genSeed) else v := by
      unfold State.drivePattern
      extract_lets pg
      rw [hven, Bool.true_and, State.flag, hvtarget, bit_ne_zero, hvhold]
    rw [hdriven]
    split
    · exact ⟨hven, by rw [State.emit, hvout]; rfl⟩
    · exact ⟨hven, hvout⟩
  · rw [if_neg (by simp [hw]), if_neg (by simp [hen, hoff]), if_pos (by rw [hlink, hop])]
    exact ⟨(State.flag_event_other _ _ (by simp +decide)).trans (hen.trans hoff), State.eventBit_event _ _ (by decide), hout⟩
  · rw [if_pos (by rw [hw]; rfl)]
    refine ⟨?_, by simp, hout⟩
    show ((u.put (wePage n) Weatas.PRBS_GEN_EN 0).put (wePage n) Weatas.PRBS_INJ_GO 0).flag (wePage n) Weatas.PRBS_GEN_EN = false
    rw [State.flag_put_other _ _ (by simp +decide), State.flag_put_zero]
  · refine SameFaults.ite (hfaults.put.put.putLane) (SameFaults.ite hfaults (SameFaults.ite hfaults.event ?_))
    unfold State.drivePattern
    extract_lets pg
    split <;> exact hfaults

/-! ## Injections (R108) -/

/-- The state after the fields of PRBS_INJ but GO. -/
def State.injFields (s : State) (n w : Nat) : State :=
  ((if bitsOf w 25 24 = 3 then s else s.put (wePage n) Weatas.PRBS_INJ_KIND (bitsOf w 25 24)).put (wePage n) Weatas.PRBS_INJ_LEN (bitsOf w 22 16)).put (wePage n)
    Weatas.PRBS_INJ_COUNT (bitsOf w 15 0)

theorem State.injFields_keeps (s : State) (n w : Nat) :
    (s.injFields n w).lanes = s.lanes ∧ (s.injFields n w).out = s.out ∧ (s.injFields n w).time = s.time ∧ SameFaults s (s.injFields n w) ∧
    (∀ g, fieldKey (wePage n) Weatas.PRBS_INJ_KIND ≠ fieldKey (wePage n) g → fieldKey (wePage n) Weatas.PRBS_INJ_LEN ≠ fieldKey (wePage n) g →
      fieldKey (wePage n) Weatas.PRBS_INJ_COUNT ≠ fieldKey (wePage n) g → (s.injFields n w).get (wePage n) g = s.get (wePage n) g) ∧
    (s.injFields n w).get (wePage n) Weatas.PRBS_INJ_KIND = (if w / 2 ^ 24 % 4 = 3 then s.get (wePage n) Weatas.PRBS_INJ_KIND else w / 2 ^ 24 % 4) ∧
    (s.injFields n w).get (wePage n) Weatas.PRBS_INJ_LEN = w / 2 ^ 16 % 128 ∧ (s.injFields n w).get (wePage n) Weatas.PRBS_INJ_COUNT = w % 2 ^ 16 := by
  have hkind : bitsOf w 25 24 = w / 2 ^ 24 % 4 := rfl
  have hlen : bitsOf w 22 16 = w / 2 ^ 16 % 128 := rfl
  have hcount : bitsOf w 15 0 = w % 2 ^ 16 := by rw [bitsOf, Nat.pow_zero, Nat.div_one]
  unfold State.injFields
  rw [hkind, hlen, hcount]
  by_cases h : w / 2 ^ 24 % 4 = 3
  · rw [if_pos h, if_pos h]
    refine ⟨rfl, rfl, rfl, ⟨rfl, rfl⟩, fun g _ hl hc => ?_, ?_, ?_, ?_⟩
    · rw [State.get_put_other _ _ hc, State.get_put_other _ _ hl]
    · rw [State.get_put_other _ _ (by simp +decide), State.get_put_other _ _ (by simp +decide)]
    · rw [State.get_put_other _ _ (by simp +decide), State.get_put_same]
      exact Nat.mod_mod _ 128
    · rw [State.get_put_same]
      exact Nat.mod_mod _ _
  · rw [if_neg h, if_neg h]
    refine ⟨rfl, rfl, rfl, ⟨rfl, rfl⟩, fun g hk hl hc => ?_, ?_, ?_, ?_⟩
    · rw [State.get_put_other _ _ hc, State.get_put_other _ _ hl, State.get_put_other _ _ hk]
    · rw [State.get_put_other _ _ (by simp +decide), State.get_put_other _ _ (by simp +decide), State.get_put_same]
      exact Nat.mod_mod _ 4
    · rw [State.get_put_other _ _ (by simp +decide), State.get_put_same]
      exact Nat.mod_mod _ 128
    · rw [State.get_put_same]
      exact Nat.mod_mod _ _

/-- The series that a write of PRBS_INJ asks for, within its limits. -/
def State.injSeries (s : State) (n : Nat) : Injection :=
  ⟨s.get (wePage n) Weatas.PRBS_INJ_KIND, max 2 (min 64 (s.get (wePage n) Weatas.PRBS_INJ_LEN)),
    max 1 (s.get (wePage n) Weatas.PRBS_INJ_COUNT), max 2048 (s.get (wePage n) Weatas.PRBS_INJ_GAP_GAP)⟩

/-- The lane's queue of series with one more. -/
def State.queueSeries (s : State) (n : Nat) : State :=
  (s.putLane n { s.lane n with injections := (s.lane n).injections ++ [s.injSeries n] }).put (wePage n) Weatas.PRBS_INJ_GO 1

theorem exec_prbsInject {req : Requester} {n : Fin 32} {w : Word} {s : State} (hs : s.serves req (regOff (wePage n) Weatas.PRBS_INJ_GO) = true)
    (hw : w.getLsbD 31 = true) :
    exec (.prbsInject req n w) s = .next (
      if !(s.injFields n w.toNat).flag (wePage n) Weatas.PRBS_GEN_EN then (s.injFields n w.toNat).event (wePage n) 11
      else if ((s.injFields n w.toNat).lane n).injections.isEmpty then ((s.injFields n w.toNat).queueSeries n).startSeries n
      else (s.injFields n w.toNat).queueSeries n) := by
  rw [exec, execPrbsInject, State.onWrite_served hs]
  exact congrArg Host.Outcome.next (if_neg (by rw [BitVec.testBit_toNat, hw]; decide))

theorem prbsInject_queues (req : Requester) (n : Fin 32) (w : Word) (s : State) (hs : s.serves req (regOff (wePage n) Weatas.PRBS_INJ_GO) = true)
    (hw : w.getLsbD 31 = true) (_ : s.fits (wePage n) Weatas.PRBS_INJ_KIND = true) :
    Completes (.prbsInject req n w) s fun t =>
      (s.flag (wePage n) Weatas.PRBS_GEN_EN = true → t.flag (wePage n) Weatas.PRBS_INJ_GO = true ∧
        (t.lane n).injections = (s.lane n).injections ++ [⟨if w.toNat / 2 ^ 24 % 4 = 3 then s.get (wePage n) Weatas.PRBS_INJ_KIND
            else w.toNat / 2 ^ 24 % 4,
          max 2 (min 64 (w.toNat / 2 ^ 16 % 128)), max 1 (w.toNat % 2 ^ 16), max 2048 (s.get (wePage n) Weatas.PRBS_INJ_GAP_GAP)⟩] ∧
        (∀ i, (s.lane n).injections = [] → (t.lane n).injections = [i] → t.out = .inject n (s.genBit n) i :: s.out)) ∧
      (s.flag (wePage n) Weatas.PRBS_GEN_EN = false → t.eventBit (wePage n) 11 = true ∧ t.lanes = s.lanes) ∧
      SameMemory s t ∧ SameFaults s t := by
  have ht := exec_prbsInject hs hw
  have hmem := SameMemory.of_exec ht (by rw [exec]; exact answers_prbsInject (Quiet.refl s))
  obtain ⟨hlanes, hout, htime, hfaults, hget, hkind, hlen, hcount⟩ := s.injFields_keeps n w.toNat
  have hen : (s.injFields n w.toNat).flag (wePage n) Weatas.PRBS_GEN_EN = s.flag (wePage n) Weatas.PRBS_GEN_EN :=
    State.flag_congr _ (hget _ (by simp +decide) (by simp +decide) (by simp +decide))
  have hgap := hget Weatas.PRBS_INJ_GAP_GAP (by simp +decide) (by simp +decide) (by simp +decide)
  have htarget := hget Weatas.PRBS_GEN_TARGET (by simp +decide) (by simp +decide) (by simp +decide)
  have hmode := hget Weatas.LANE_CFG_MODE_MAX (by simp +decide) (by simp +decide) (by simp +decide)
  generalize s.injFields n w.toNat = u at *
  have hlane : u.lane n = s.lane n := by rw [State.lane, hlanes, State.lane]
  have hqlane : (u.queueSeries n).lane n = { s.lane n with injections := (s.lane n).injections ++ [u.injSeries n] } := by
    rw [← hlane]
    exact State.lane_putLane_same ..
  have hqgo : (u.queueSeries n).flag (wePage n) Weatas.PRBS_INJ_GO = true := State.flag_put_one _
  have hseries : u.injSeries n = ⟨if w.toNat / 2 ^ 24 % 4 = 3 then s.get (wePage n) Weatas.PRBS_INJ_KIND else w.toNat / 2 ^ 24 % 4,
      max 2 (min 64 (w.toNat / 2 ^ 16 % 128)), max 1 (w.toNat % 2 ^ 16), max 2048 (s.get (wePage n) Weatas.PRBS_INJ_GAP_GAP)⟩ := by
    rw [State.injSeries, hkind, hlen, hcount, hgap]
  have hgen : (u.queueSeries n).genBit n = s.genBit n :=
    State.genBit_congr htime (by rw [hqlane]) ((State.get_put_other _ _ (by simp +decide)).trans htarget)
      ((State.get_put_other _ _ (by simp +decide)).trans hmode)
  obtain ⟨hregs, hinj, hstart⟩ := (u.queueSeries n).startSeries_keeps n
  refine ⟨_, ht, fun hon => ?_, fun hoff => ?_, hmem, SameFaults.ite hfaults.event (SameFaults.ite (hfaults.putLane.put.trans hstart) hfaults.putLane.put)⟩
  · rw [if_neg (by simp [hen, hon]), ← hseries, hlane]
    by_cases hempty : (s.lane n).injections.isEmpty = true
    · rw [if_pos hempty]
      refine ⟨(State.flag_congr _ (State.get_of_regs hregs _ _)).trans hqgo, hinj.trans (by rw [hqlane]), fun i hnone hone => ?_⟩
      rw [hinj, hqlane] at hone
      rw [State.startSeries_out (by rw [hqlane]; exact hone), hgen]
      exact congrArg _ hout
    · rw [if_neg hempty]
      exact ⟨hqgo, by rw [hqlane], fun i hnone => absurd (List.isEmpty_iff.mpr hnone) hempty⟩
  · rw [if_pos (by simp [hen, hoff])]
    exact ⟨State.eventBit_event _ _ (by decide), hlanes⟩

theorem prbsInjDone_goes_on (n : Fin 32) (s : State) (i : Injection) (r : List Injection) (hinj : (s.lane n).injections = i :: r) :
    Completes (.prbsInjDone n) s fun t =>
      (t.lane n).injections = r ∧ t.flag (wePage n) Weatas.PRBS_INJ_GO = !r.isEmpty ∧ t.eventBit (wePage n) 10 = true ∧
      (∀ j l, r = j :: l → t.out = .inject n (s.genBit n) j :: s.out) ∧ SameMemory s t ∧ SameFaults s t := by
  let u := ((s.putLane n { s.lane n with injections := r }).put (wePage n) Weatas.PRBS_INJ_GO (bit (!r.isEmpty))).event (wePage n) 10
  let v := if u.flag (wePage n) Weatas.PRBS_GEN_TARGET && u.flag (wePage n) Weatas.PRBS_CHK_LOCKED then
    u.countSat (wePage n) Weatas.PRBS_ERRS_ERRS (i.count * i.bits) else u
  have ht : exec (.prbsInjDone n) s = .next (v.startSeries n) := by
    rw [exec, execPrbsInjDone, hinj]
  have hv : v.lanes = u.lanes ∧ v.out = s.out ∧ v.time = s.time ∧ SameFaults s v ∧
      ∀ g, fieldKey (wePage n) Weatas.PRBS_ERRS_ERRS ≠ fieldKey (wePage n) g → v.get (wePage n) g = u.get (wePage n) g := by
    by_cases h : (u.flag (wePage n) Weatas.PRBS_GEN_TARGET && u.flag (wePage n) Weatas.PRBS_CHK_LOCKED) = true
    · rw [show v = u.countSat (wePage n) Weatas.PRBS_ERRS_ERRS (i.count * i.bits) from if_pos h]
      exact ⟨rfl, rfl, rfl, ⟨rfl, rfl⟩, fun g hg => State.get_put_other _ _ hg⟩
    · rw [show v = u from if_neg h]
      exact ⟨rfl, rfl, rfl, ⟨rfl, rfl⟩, fun _ _ => rfl⟩
  obtain ⟨hlanes, hout, htime, hfaults, hget⟩ := hv
  have hlane : v.lane n = { s.lane n with injections := r } := by
    rw [State.lane, hlanes]
    exact State.lane_putLane_same ..
  obtain ⟨hregs, hkept, hstart⟩ := v.startSeries_keeps n
  refine ⟨_, ht, hkept.trans (by rw [hlane]), ?_, ?_, fun j l hr => ?_, SameMemory.of_exec ht (by rw [exec]; exact answers_prbsInjDone (Quiet.refl s)),
    hfaults.trans hstart⟩
  · rw [State.flag, State.get_of_regs hregs, hget _ (by simp +decide), ← State.flag]
    exact (State.flag_event_other _ _ (by simp +decide)).trans (State.flag_put_bit ..)
  · rw [State.eventBit_congr (s := u) ((State.get_of_regs hregs _ _).trans (hget _ (by simp +decide)))]
    exact State.eventBit_event _ _ (by decide)
  · have hgen : v.genBit n = s.genBit n := by
      refine State.genBit_congr htime (by rw [hlane]) ?_ ?_
      · rw [hget _ (by simp +decide), State.get_event_other _ _ (by simp +decide), State.get_put_other _ _ (by simp +decide)]
        rfl
      · rw [hget _ (by simp +decide), State.get_event_other _ _ (by simp +decide), State.get_put_other _ _ (by simp +decide)]
        rfl
    rw [State.startSeries_out (by rw [hlane]; exact hr), hgen, hout]

/-! ## The checker (R109, R114) -/

/-- The state after EN and PATTERN of PRBS_CHK. -/
def State.chkFields (s : State) (n w : Nat) : State :=
  (s.put (wePage n) Weatas.PRBS_CHK_EN (bitsOf w 31 31)).putPattern n Weatas.PRBS_CHK_PATTERN (bitsOf w 3 0) true (s.testMode n)

theorem prbsChkEnable_follows (req : Requester) (n : Fin 32) (w : Word) (s : State) (hs : s.serves req (regOff (wePage n) Weatas.PRBS_CHK_EN) = true) :
    Completes (.prbsChkEnable req n w) s fun t =>
      t.flag (wePage n) Weatas.PRBS_CHK_EN = w.getLsbD 31 ∧
      (w.getLsbD 31 = false → t.flag (wePage n) Weatas.PRBS_CHK_LOCKED = false) ∧
      (w.getLsbD 31 = true → s.flag (wePage n) Weatas.PRBS_CHK_EN = false →
        t.flag (wePage n) Weatas.PRBS_CHK_LOCKED = false ∧ t.get (wePage n) Weatas.PRBS_ERRS_ERRS = 0 ∧
        t.get (wePage n) Weatas.PRBS_BITS_LO_BITS = 0 ∧ t.get (wePage n) Weatas.PRBS_BITS_HI_BITS = 0) ∧ SameMemory s t ∧ SameFaults s t := by
  let u := s.chkFields n w.toNat
  have ht : exec (.prbsChkEnable req n w) s = .next (if !w.toNat.testBit 31 then u.put (wePage n) Weatas.PRBS_CHK_LOCKED 0
      else if s.flag (wePage n) Weatas.PRBS_CHK_EN then u
      else (((u.put (wePage n) Weatas.PRBS_BITS_LO_BITS 0).put (wePage n) Weatas.PRBS_BITS_HI_BITS 0).put (wePage n) Weatas.PRBS_ERRS_ERRS 0).put (wePage n)
        Weatas.PRBS_CHK_LOCKED 0) := by
    rw [exec, execPrbsChkEnable, State.onWrite_served hs]
    rfl
  have hmem := SameMemory.of_exec ht (by rw [exec]; exact answers_prbsChkEnable (Quiet.refl s))
  obtain ⟨-, -, -, hfaults, hget⟩ := (s.put (wePage n) Weatas.PRBS_CHK_EN (bitsOf w.toNat 31 31)).putPattern_keeps n Weatas.PRBS_CHK_PATTERN
    (bitsOf w.toNat 3 0) true (s.testMode n)
  have hfaults : SameFaults s u := hfaults
  have hen : u.flag (wePage n) Weatas.PRBS_CHK_EN = w.getLsbD 31 := by
    refine (State.flag_congr _ (hget _ (by simp +decide) (by simp +decide))).trans ?_
    rw [bitsOf_one, State.flag_put_bit, BitVec.testBit_toNat]
  simp only [BitVec.testBit_toNat] at ht hmem
  refine ⟨_, ht, ?_, fun hw => ?_, fun hw hoff => ?_, hmem, SameFaults.ite hfaults.put (SameFaults.ite hfaults hfaults.put.put.put.put)⟩
  · split
    · rwa [State.flag_put_other _ _ (by simp +decide)]
    · split
      · exact hen
      · rwa [State.flag_put_other _ _ (by simp +decide), State.flag_put_other _ _ (by simp +decide), State.flag_put_other _ _ (by simp +decide),
          State.flag_put_other _ _ (by simp +decide)]
  · rw [if_pos (by rw [hw]; rfl), State.flag_put_zero]
  · rw [if_neg (by simp [hw]), if_neg (by simp [hoff])]
    refine ⟨State.flag_put_zero _, ?_, ?_, ?_⟩
    · rw [State.get_put_other _ _ (by simp +decide), State.get_put_same, Nat.zero_mod]
    · rw [State.get_put_other _ _ (by simp +decide), State.get_put_other _ _ (by simp +decide), State.get_put_other _ _ (by simp +decide),
        State.get_put_same, Nat.zero_mod]
    · rw [State.get_put_other _ _ (by simp +decide), State.get_put_other _ _ (by simp +decide), State.get_put_same, Nat.zero_mod]

theorem prbsLock_locks (n : Fin 32) (s : State) (hen : s.flag (wePage n) Weatas.PRBS_CHK_EN = true)
    (hunlocked : s.flag (wePage n) Weatas.PRBS_CHK_LOCKED = false) :
    Completes (.prbsLock n) s fun t =>
      t.flag (wePage n) Weatas.PRBS_CHK_LOCKED = true ∧ t.eventBit (wePage n) 8 = true ∧
      OnlyRegs s t [fieldKey (wePage n) Weatas.PRBS_CHK_LOCKED, fieldKey (wePage n) Hdr.EVT_STAT_EVENT] ∧ SameMemory s t ∧ SameFaults s t := by
  have ht : exec (.prbsLock n) s = .next ((s.put (wePage n) Weatas.PRBS_CHK_LOCKED 1).event (wePage n) 8) := by
    rw [exec, execPrbsLock]
    exact congrArg Host.Outcome.next (if_pos (by simp [hen, hunlocked]))
  exact ⟨_, ht, (State.flag_event_other _ _ (by simp +decide)).trans (State.flag_put_one _), State.eventBit_event _ _ (by decide),
    ((OnlyRegs.refl s _).put _ _ _ (by simp)).event _ _ (by simp), SameMemory.of_exec ht (by rw [exec]; exact answers_prbsLock (Quiet.refl s)), rfl, rfl⟩

theorem prbsLost_counts (n : Fin 32) (errs : Nat) (s : State) (hlocked : s.flag (wePage n) Weatas.PRBS_CHK_LOCKED = true) (herrs : errs ≤ 1024) :
    Completes (.prbsLost n errs) s fun t =>
      t.flag (wePage n) Weatas.PRBS_CHK_LOCKED = decide (errs < 128) ∧ (128 ≤ errs → t.eventBit (wePage n) 9 = true) ∧
      t.get (wePage n) Weatas.PRBS_ERRS_ERRS = min (s.get (wePage n) Weatas.PRBS_ERRS_ERRS + errs) (2 ^ 32 - 1) ∧
      OnlyRegs s t [fieldKey (wePage n) Weatas.PRBS_CHK_LOCKED, fieldKey (wePage n) Weatas.PRBS_ERRS_ERRS,
        fieldKey (wePage n) Hdr.EVT_STAT_EVENT] ∧ SameMemory s t ∧ SameFaults s t := by
  let u := s.countSat (wePage n) Weatas.PRBS_ERRS_ERRS errs
  have ht : exec (.prbsLost n errs) s = .next (if 128 ≤ errs then (u.put (wePage n) Weatas.PRBS_CHK_LOCKED 0).event (wePage n) 9 else u) := by
    rw [exec, execPrbsLost]
    exact congrArg Host.Outcome.next (if_neg (by simp [hlocked, herrs]))
  have hmem := SameMemory.of_exec ht (by rw [exec]; exact answers_prbsLost (Quiet.refl s))
  have hcount : u.get (wePage n) Weatas.PRBS_ERRS_ERRS = min (s.get (wePage n) Weatas.PRBS_ERRS_ERRS + errs) (2 ^ 32 - 1) := State.get_countSat_same ..
  have honly : OnlyRegs s u [fieldKey (wePage n) Weatas.PRBS_CHK_LOCKED, fieldKey (wePage n) Weatas.PRBS_ERRS_ERRS, fieldKey (wePage n) Hdr.EVT_STAT_EVENT] :=
    (OnlyRegs.refl s _).put _ _ _ (by simp)
  refine ⟨_, ht, ?_, fun hmany => ?_, ?_, OnlyRegs.ite ((honly.put _ _ _ (by simp)).event _ _ (by simp)) honly, hmem, SameFaults.ite ⟨rfl, rfl⟩ ⟨rfl, rfl⟩⟩
  · split
    · next h =>
      rw [State.flag_event_other _ _ (by simp +decide), State.flag_put_zero, decide_eq_false (by omega)]
    · next h =>
      rw [decide_eq_true (by omega)]
      exact (State.flag_put_other _ _ (by simp +decide)).trans hlocked
  · rw [if_pos hmany]
    exact State.eventBit_event _ _ (by decide)
  · split
    · rw [State.get_event_other _ _ (by simp +decide), State.get_put_other _ _ (by simp +decide), hcount]
    · exact hcount

/-- Settles O22, a command at a time. -/
theorem testPatternsRun : Obligations.TestPatternsRun :=
  ⟨prbsGenEnable_starts, prbsInject_queues, prbsInjDone_goes_on, prbsChkEnable_follows, prbsLock_locks, prbsLost_counts⟩

end Sys2Proof.Machine
end

section
/-!
PROOFS. A CSI-2 receive port's clock lane, and where the statement of O28 fails.
-/
namespace Sys2Proof.Machine

/-- An enabled CSI-2 receive port 0 whose one-bit field RX_CFG.CONT_CLK holds 2: no command writes that, but the statement speaks of every state. -/
def rxPortWithWideContClk : State :=
  let s := (State.reset.put 0x3 (Chip.PD_CTRL_ACK.nth 40) 1).put (rxPage 0) Hdr.CTRL_EN 1
  { s with regs := SMap.set resetField s.regs (fieldKey (rxPage 0) CsiRx.RX_CFG_CONT_CLK) 2 }

theorem rxPortWithWideContClk_reads :
    rxPortWithWideContClk.rxEnabled 0 = true ∧ rxPortWithWideContClk.get (rxPage 0) CsiRx.RX_CFG_CONT_CLK = 2 ∧
      ∀ t, exec (.csiRxBurst 0 .good true [] 0 0) rxPortWithWideContClk = .next t → t.get (rxPage 0) CsiRx.RX_STAT_CLK_HS = 0 := by
  refine ⟨by decide +kernel, by decide +kernel, fun t ht => ?_⟩
  have hexec : (match exec (.csiRxBurst 0 .good true [] 0 0) rxPortWithWideContClk with
    | .next t => t.get (rxPage 0) CsiRx.RX_STAT_CLK_HS == 0
    | _ => false) = true := by decide +kernel
  rw [ht] at hexec
  exact eq_of_beq hexec

/-- Refutes O28: a CONT_CLK of 2 is stored in the one bit of CLK_HS as 0. -/
theorem not_csiReceptionIsCheckedAndPassedOn : ¬ Obligations.CsiReceptionIsCheckedAndPassedOn := by
  rintro ⟨-, hburst, -⟩
  obtain ⟨henabled, hcont, hhs⟩ := rxPortWithWideContClk_reads
  obtain ⟨t, ht, -, hclk, -⟩ := hburst 0 .good true [] 0 0 rxPortWithWideContClk henabled
  have h : t.get (rxPage 0) CsiRx.RX_STAT_CLK_HS = 2 := hclk.trans hcont
  rw [hhs t ht] at h
  cases h

end Sys2Proof.Machine
end

section
/-!
PROOFS. A link that flaps, and where the statements of O23 and O26 fail.
-/
namespace Sys2Proof.Machine

/-- Lane 0, powered, in link state st, under a LINK_POLICY of one break (R546): a break takes its highest mode down from 3 to 2. -/
def flappingLane (st : Nat) : State :=
  let s := (State.reset.put 0x3 (Chip.PD_CTRL_ACK.nth 32) 1).put (wePage 0) Weatas.LINK_STAT_STATE st
  { s with cores := { s.cores with links := SMap.set (fun _ => {}) s.cores.links 0 { flaps := 1 } } }

/-- The mode that lane 0 has after a step. -/
def modeAfter (i : Instr) (s : State) : Option Nat := match exec i s with
  | .next t => some (t.laneMode 0)
  | _ => none

theorem modeAfter_of_exec {i : Instr} {s t : State} {m : Nat} (h : modeAfter i s = some m) (ht : exec i s = .next t) : t.laneMode 0 = m := by
  rw [modeAfter, ht] at h
  exact Option.some.inj h

/-- A lost link that trains again takes the mode that the break left it, not the one before. -/
theorem flappingLane_dropoutTimeout :
    (flappingLane 10).linkState 0 = 10 ∧ (flappingLane 10).firstMode 0 = some 3 ∧ modeAfter (.dropoutTimeout 0) (flappingLane 10) = some 2 := by
  decide +kernel

/-- Refutes O23: the firmware's policy lowers LANE_CFG.MODE_MAX at the break itself, so the link that a DROPOUT loses trains in mode 2 and not in the highest
mode of before. -/
theorem not_codewordsAndMarkersAreJudged : ¬ Obligations.CodewordsAndMarkersAreJudged := by
  rintro ⟨-, -, -, htimeout, -⟩
  obtain ⟨hdropout, hfirst, hmode⟩ := flappingLane_dropoutTimeout
  obtain ⟨t, ht, ⟨hattempt, -⟩, -⟩ := htimeout 0 (flappingLane 10) hdropout
  obtain ⟨-, hlane, -, -⟩ := hattempt 3 hfirst
  have h : (3 : Nat) % 4 = 2 := hlane.symm.trans (modeAfter_of_exec hmode ht)
  exact absurd h (by decide)

/-- RETRAIN written on a link that operates is a break too. -/
theorem flappingLane_linkRetrain :
    (flappingLane 9).serves .lp0 (regOff (wePage 0) Weatas.LINK_CTRL_RETRAIN) = true ∧ (flappingLane 9).linkState 0 = 9 ∧
      (flappingLane 9).firstMode 0 = some 3 ∧ modeAfter (.linkRetrain .lp0 0 0x80000000) (flappingLane 9) = some 2 := by
  decide +kernel

/-- Refutes O26: RETRAIN of an operating link is a break, at which the firmware's policy lowers LANE_CFG.MODE_MAX, so the link trains in mode 2. -/
theorem not_linksTrain : ¬ Obligations.LinksTrain := by
  rintro ⟨-, -, -, -, -, -, -, -, hretrain⟩
  obtain ⟨hserves, hstate, hfirst, hmode⟩ := flappingLane_linkRetrain
  obtain ⟨t, ht, ⟨hattempt, -⟩, -⟩ := hretrain .lp0 0 0x80000000 (flappingLane 9) hserves (show 2 ≤ (flappingLane 9).linkState 0 by rw [hstate]; decide) rfl rfl
  obtain ⟨-, hlane, -, -⟩ := hattempt 3 hfirst
  have h : (3 : Nat) % 4 = 2 := hlane.symm.trans (modeAfter_of_exec hmode ht)
  exact absurd h (by decide)

end Sys2Proof.Machine
end

section
/-!
PROOFS. Forward packets at the lane (R123 to R126), capability records, probe replies and EQ_ACKs (R131, R136, R138).
-/
namespace Sys2Proof.Machine

/-! ## Headers and packets -/

/-- A header that does not check counts, and spoils VERIFY. -/
theorem State.headerError_effect (s : State) (n : Nat) :
    (s.headerError n).get (wePage n) Weatas.HDR_ERR_COUNT = min (s.get (wePage n) Weatas.HDR_ERR_COUNT + 1) (2 ^ 32 - 1) ∧
    ((s.headerError n).lane n).inbox = (s.lane n).inbox ∧ (s.headerError n).ports = s.ports ∧ (s.headerError n).windows = s.windows ∧
    OnlyRegs s (s.headerError n) [fieldKey (wePage n) Weatas.HDR_ERR_COUNT] ∧ SameFaults s (s.headerError n) := by
  have hcount : (s.countSat (wePage n) Weatas.HDR_ERR_COUNT).get (wePage n) Weatas.HDR_ERR_COUNT =
    min (s.get (wePage n) Weatas.HDR_ERR_COUNT + 1) (2 ^ 32 - 1) := State.get_countSat_same ..
  have honly : OnlyRegs s (s.countSat (wePage n) Weatas.HDR_ERR_COUNT) [fieldKey (wePage n) Weatas.HDR_ERR_COUNT] := (OnlyRegs.refl s _).put _ _ _ (by simp)
  unfold State.headerError
  extract_lets u
  split
  · exact ⟨hcount, by rw [State.lane_putLane_same]; rfl, rfl, rfl, honly, rfl, rfl⟩
  · exact ⟨hcount, rfl, rfl, rfl, honly, rfl, rfl⟩

theorem fwdPacketReceived_headerError (n : Fin 32) (p : ForwardPacket) (s : State) (hlow : 5 ≤ s.linkState n) (hhigh : s.linkState n ≤ 9)
    (hheader : p.headerOk = false) :
    Completes (.fwdPacketReceived n p) s fun t =>
      t.get (wePage n) Weatas.HDR_ERR_COUNT = min (s.get (wePage n) Weatas.HDR_ERR_COUNT + 1) (2 ^ 32 - 1) ∧
      (t.lane n).inbox = (s.lane n).inbox ∧ t.ports = s.ports ∧ t.windows = s.windows ∧
      OnlyRegs s t [fieldKey (wePage n) Weatas.HDR_ERR_COUNT] ∧ SameMemory s t ∧ SameFaults s t := by
  let u := s.putLane n { s.lane n with inPacket := none }
  have ht : exec (.fwdPacketReceived n p) s = .next (u.headerError n) := by
    rw [exec, execFwdPacketReceived, if_neg (by omega), if_pos (by rw [hheader]; rfl)]
  obtain ⟨hcount, hinbox, hports, hwindows, honly, hfaults⟩ := u.headerError_effect n
  exact ⟨_, ht, hcount, hinbox.trans (by rw [State.lane_putLane_same]), hports, hwindows, honly,
    SameMemory.of_exec ht (by rw [exec]; exact answers_fwdPacketReceived (Quiet.refl s)), hfaults⟩

theorem State.trackSeq_keeps (s : State) (n seq : Nat) (accepted : Bool) :
    ((s.trackSeq n seq accepted).lane n).inbox = (s.lane n).inbox ∧ (s.trackSeq n seq accepted).windows = s.windows ∧
    (s.trackSeq n seq accepted).time = s.time ∧ (∀ f, fieldKey (wePage n) Weatas.PKT_ERR_LOST ≠ fieldKey (wePage n) f →
      (s.trackSeq n seq accepted).get (wePage n) f = s.get (wePage n) f) ∧
    ∀ pg ≠ wePage n, ∀ f : Field, f.place < 0x8000 → (s.trackSeq n seq accepted).get pg f = s.get pg f := by
  unfold State.trackSeq
  extract_lets x
  split
  · refine ⟨by rw [State.lane_putLane_same], rfl, rfl, fun f hf => State.get_put_other _ _ hf, fun pg hpg f hf => State.get_put_other _ _ ?_⟩
    exact fieldKey_page (by decide) hf (Ne.symm hpg)
  · split
    · exact ⟨by rw [State.lane_putLane_same], rfl, rfl, fun _ _ => rfl, fun _ _ _ _ => rfl⟩
    · exact ⟨rfl, rfl, rfl, fun _ _ => rfl, fun _ _ _ _ => rfl⟩

theorem State.stampAt_congr {s t : State} (htime : t.time = s.time)
    (hsel : ∀ f ∈ [Tidemark.TM_SEL_ADOPTED, Tidemark.TM_SEL_ACTIVE], t.get tmPage f = s.get tmPage f)
    (hrate : ∀ x, t.get tmPage (Tidemark.RATE_RATE.nth x) = s.get tmPage (Tidemark.RATE_RATE.nth x)) (c : Nat) : t.stampAt c = s.stampAt c := by
  have hdom : ∀ x c, t.domainTime x c = s.domainTime x c := fun x c => by
    rw [State.domainTime, State.rate, hrate, htime, State.domainTime, State.rate]
  have hactive : t.activeDomain = s.activeDomain := hsel _ (by simp)
  rw [State.stampAt, State.activeTime, hdom, hactive, htime, State.flag, hsel _ (by simp), State.stampAt, State.activeTime, State.flag]

/-- SEQ is tracked in the lane and in PKT_ERR.LOST (R125): a stamp is what it was. -/
theorem State.stampAt_trackSeq (s : State) (n seq : Nat) (accepted : Bool) (c : Nat) : (s.trackSeq n seq accepted).stampAt c = s.stampAt c := by
  have hpage : wePage n = 0x100 + n := rfl
  have hput : ∀ (v : Nat) (g : Field), fieldKey (wePage n) Weatas.PKT_ERR_LOST ≠ fieldKey tmPage g →
      (s.countSat (wePage n) Weatas.PKT_ERR_LOST v).get tmPage g = s.get tmPage g := fun v g h => State.get_put_other _ _ h
  unfold State.trackSeq
  extract_lets x
  split
  · next e _ =>
    show (s.countSat (wePage n) Weatas.PKT_ERR_LOST ((seq + 256 - e) % 256)).stampAt c = s.stampAt c
    refine State.stampAt_congr (s := s) (t := s.countSat (wePage n) Weatas.PKT_ERR_LOST ((seq + 256 - e) % 256)) rfl (fun f hf => hput _ _ ?_) (fun x => hput _ _ ?_) c
    · fin_cases hf <;> exact fieldKey_page (by decide) (by decide) (by rw [hpage, tmPage]; omega)
    · show fieldKey (0x100 + n) Weatas.PKT_ERR_LOST ≠ fieldKey 0x10 (Tidemark.RATE_RATE.nth x)
      simp only [fieldKey, Field.nth, Weatas.PKT_ERR_LOST, Tidemark.RATE_RATE]
      omega
  · split <;> rfl

/-- A packet handed to its Inlet writes no page of another (R149). -/
theorem State.get_intake (s : State) (n : Nat) (b : List Byte) (broken : Bool) (stamp stop : Nat) {pg : Nat} {f : Field} (hpg : inPage n ≠ pg)
    (hf : f.place < 0x8000) : (s.intake n b broken stamp stop).get pg f = s.get pg f := by
  have hput : ∀ (t : State) (g : Field) (v : Nat), g.place < 0x8000 → (t.put (inPage n) g v).get pg f = t.get pg f := fun t g v hg =>
    State.get_put_other _ _ (fieldKey_page hg hf hpg)
  unfold State.intake
  split
  · rfl
  · split
    · extract_lets u
      unfold State.judgeHeaders
      extract_lets recent
      rw [State.get_cond_other _ _ _ (fieldKey_page (by decide) hf hpg)]
      exact hput _ _ _ (by decide)
    · next corrected h _ =>
      extract_lets u v claimer
      have hu : u.get pg f = s.get pg f := by
        show (if corrected then s.countSat (inPage n) Inlet.IN_ERR0_ECC_CORR else s).get pg f = _
        split
        · exact hput _ _ _ (by decide)
        · rfl
      split
      · exact (hput _ _ _ (by decide)).trans ((hput _ _ _ (by decide)).trans hu)
      · split
        · exact hu
        · split
          · exact (hput _ _ _ (by decide)).trans hu
          · exact (hput _ _ _ (by decide)).trans hu

theorem State.get_sideband (s : State) (n : Nat) (b : List Byte) (stamp : Nat) {pg : Nat} {f : Field} (hpg : jtPage n ≠ pg)
    (hf : f.place < 0x8000) : (s.sideband n b stamp).get pg f = s.get pg f := by
  have hput : ∀ (t : State) (g : Field) (v : Nat), g.place < 0x8000 → (t.put (jtPage n) g v).get pg f = t.get pg f := fun t g v hg =>
    State.get_put_other _ _ (fieldKey_page hg hf hpg)
  unfold State.sideband
  extract_lets e
  split
  · unfold State.pushEvent
    extract_lets x p
    split
    · exact (hput _ _ _ (by decide)).trans (hput _ _ _ (by decide))
    · rw [State.get_eventIf_other _ _ _ (fieldKey_page (by decide) hf hpg)]
      exact hput _ _ _ (by decide)
  · rfl

/-- Where a whole, good packet goes (R123, R126). -/
theorem State.handOn_effect (s : State) (n : Fin 32) (kind : Nat) (payload : List Byte) (start stop : Nat) :
    (kind = 3 ∨ kind = 6 ∨ kind = 7 → ((s.handOn n kind payload start stop false).lane n).inbox =
      (s.lane n).inbox ++ [⟨kind, payload.take (payload.length - 2), s.stampAt start⟩]) ∧
    (kind = 4 ∨ kind = 5 → ((s.handOn n kind payload start stop false).window n).inbox =
      (s.window n).inbox ++ [(kind, payload.take (payload.length - 2))]) ∧
    (s.handOn n kind payload start stop false).linkState n = s.linkState n := by
  have hin : inPage n ≠ wePage n := by
    show (if n.val < 32 then 0x140 + n.val else 0x150 + n.val) ≠ 0x100 + n.val
    split <;> omega
  have hjt : jtPage n ≠ wePage n := by
    show 0x200 + n.val ≠ 0x100 + n.val
    omega
  refine ⟨?_, ?_, ?_⟩
  · rintro (rfl | rfl | rfl) <;> exact congrArg LaneSt.inbox (State.lane_putLane_same s n _)
  · rintro (rfl | rfl) <;> simp [State.handOn, State.window, State.putWindow]
  · unfold State.handOn
    extract_lets stamp body
    split
    · exact State.get_intake _ _ _ _ _ _ hin (by decide)
    · exact State.get_sideband _ _ _ _ hjt (by decide)
    all_goals rfl

theorem fwdPacketReceived_handsOn (n : Fin 32) (p : ForwardPacket) (s : State) (len : Nat) (payload : List Byte) (hlow : 5 ≤ s.linkState n)
    (hhigh : s.linkState n ≤ 9) (hheader : p.headerOk = true) (hmore : p.more = false) (hbroken : p.broken = false) (hopen : (s.lane n).inPacket = none)
    (hlen : len = fieldLE p.header 2 2) (hpayload : payload = p.payload.take len) (hkind : kindAllowed (s.linkState n) p.kind = true)
    (hok : lenOk p.kind len payload = true) (hcrc : fieldLE payload (len - 2) 2 = crc16 (payload.take (len - 2))) :
    Completes (.fwdPacketReceived n p) s fun t =>
      (p.kind = 3 ∨ p.kind = 6 ∨ p.kind = 7 →
        (t.lane n).inbox = (s.lane n).inbox ++ [⟨p.kind, payload.take (payload.length - 2), s.stampAt p.start⟩]) ∧
      (p.kind = 4 ∨ p.kind = 5 → (t.window n).inbox = (s.window n).inbox ++ [(p.kind, payload.take (payload.length - 2))]) ∧
      t.linkState n = s.linkState n ∧ SameMemory s t := by
  subst hlen hpayload
  let u := s.putLane n { s.lane n with inPacket := none }
  let v := if u.linkState n = 9 then u.trackSeq n (fieldLE p.header 4 1) true else u
  have ht : exec (.fwdPacketReceived n p) s = .next (v.handOn n p.kind (p.payload.take (fieldLE p.header 2 2)) p.start p.stop false) := by
    have hend : u.packetEnd n p false = v.handOn n p.kind (p.payload.take (fieldLE p.header 2 2)) p.start p.stop false := by
      have hkind : kindAllowed (u.linkState n) p.kind = true := hkind
      unfold State.packetEnd
      simp [hkind, hok, hcrc, v]
    rw [exec, execFwdPacketReceived, if_neg (by omega), if_neg (by rw [hheader]; decide), if_neg (by rw [hmore]; decide), hbroken, hopen]
    exact congrArg _ hend
  have hv : (v.lane n).inbox = (s.lane n).inbox ∧ v.windows = s.windows ∧ v.linkState n = s.linkState n ∧ v.stampAt p.start = s.stampAt p.start := by
    have hu : (u.lane n).inbox = (s.lane n).inbox := by rw [State.lane_putLane_same]
    by_cases h : u.linkState n = 9
    · rw [show v = u.trackSeq n (fieldLE p.header 4 1) true from if_pos h]
      obtain ⟨hinbox, hwindows, -, hget, -⟩ := u.trackSeq_keeps n (fieldLE p.header 4 1) true
      exact ⟨hinbox.trans hu, hwindows, hget _ (by simp +decide), u.stampAt_trackSeq ..⟩
    · rw [show v = u from if_neg h]
      exact ⟨hu, rfl, rfl, rfl⟩
  obtain ⟨hinbox, hwindows, hlink, hstamp⟩ := hv
  obtain ⟨hlane, hwindow, hstay⟩ := v.handOn_effect n p.kind (p.payload.take (fieldLE p.header 2 2)) p.start p.stop
  rw [hinbox, hstamp] at hlane
  rw [show v.window n = s.window n by rw [State.window, hwindows, State.window]] at hwindow
  exact ⟨_, ht, hlane, hwindow, hstay.trans hlink, SameMemory.of_exec ht (by rw [exec]; exact answers_fwdPacketReceived (Quiet.refl s))⟩

/-! ## Capability records (R136) -/

theorem State.takeOwn_some {s : State} {n kind : Nat} {p : LanePacket} (h : (s.lane n).inbox.find? (·.kind == kind) = some p) :
    s.takeOwn n kind = some (p, s.putLane n { s.lane n with inbox := (s.lane n).inbox.erase p }) := by
  unfold State.takeOwn
  extract_lets x
  rw [show x.inbox.find? (·.kind == kind) = some p from h]
  rfl

/-- The fields of a capability record that has been taken. -/
def State.capFields (s : State) (n : Nat) (b : List Byte) : State :=
  ((((((((s.put (wePage n) Weatas.CAM_CAP0_VER (fieldLE b 0 1)).put (wePage n) Weatas.CAM_CAP0_MODES (fieldLE b 1 1)).put (wePage n)
    Weatas.CAM_CAP0_FSYNC_OUTS (fieldLE b 5 1)).put (wePage n) Weatas.CAM_CAP0_TURN_TOL (fieldLE b 14 1)).put (wePage n)
    Weatas.CAM_CAP1_FSYNC_LAT (fieldLE b 12 2)).put (wePage n) Weatas.CAM_CAP1_FSYNC_TOL (fieldLE b 15 1)).put (wePage n)
    Weatas.CAM_ID_ID (fieldLE b 8 4)).put (wePage n) Weatas.LM_CAM_VCAM_MIN (fieldLE b 6 2))

theorem State.get_capFields (s : State) (n : Nat) (b : List Byte) :
    (s.capFields n b).get (wePage n) Weatas.CAM_ID_ID = fieldLE b 8 4 % 2 ^ 32 ∧ (s.capFields n b).linkState n = s.linkState n ∧
    (s.capFields n b).laneMode n = s.laneMode n ∧ (s.capFields n b).lane n = s.lane n := by
  unfold State.capFields
  refine ⟨?_, ?_, ?_, by simp only [State.lane_put]⟩
  · rw [State.get_put_other _ _ (by simp +decide), State.get_put_same]
    rfl
  · simp +decide [State.linkState, State.get_put]
  · simp +decide [State.laneMode, State.get_put]

theorem State.showFar_keeps (s : State) (n : Nat) :
    (s.showFar n).lanes = s.lanes ∧ (s.showFar n).flt = s.flt ∧ (s.showFar n).due = s.due ∧
    ∀ f : Field, f.place ∉ [Weatas.FAR_CAP_SWING_MAX.place, Weatas.FAR_CAP_POST_MAX.place, Weatas.FAR_CAP_PRE_MAX.place, Weatas.FAR_TXEQ_ACT_SWING.place,
      Weatas.FAR_TXEQ_ACT_PRE.place, Weatas.FAR_TXEQ_ACT_POST.place] → (s.showFar n).get (wePage n) f = s.get (wePage n) f := by
  unfold State.showFar
  extract_lets pg x u
  split
  · exact ⟨rfl, rfl, rfl, fun _ _ => rfl⟩
  · refine ⟨rfl, rfl, rfl, fun f hf => ?_⟩
    rw [State.get_put_other _ _ (fieldKey_ne (by decide) hf), State.get_put_other _ _ (fieldKey_ne (by decide) hf),
      State.get_put_other _ _ (fieldKey_ne (by decide) hf), State.get_put_other _ _ (fieldKey_ne (by decide) hf),
      State.get_put_other _ _ (fieldKey_ne (by decide) hf), State.get_put_other _ _ (fieldKey_ne (by decide) hf)]

theorem ofBytesLE_lt (l : List Byte) : ofBytesLE l < 256 ^ l.length := by
  induction l with
  | nil => decide
  | cons b l ih =>
    have hb := b.isLt
    rw [ofBytesLE, List.length_cons, Nat.pow_succ]
    omega

theorem fieldLE_lt (b : List Byte) (p n : Nat) : fieldLE b p n < 256 ^ n := by
  have hlen : (sliceBytes b p n).length = n := by
    simp only [sliceBytes, List.length_append, List.length_take, List.length_drop, List.length_replicate]
    omega
  have h := ofBytesLE_lt (sliceBytes b p n)
  rwa [hlen] at h

/-- A capability record that is taken. -/
theorem State.takeCap_effect (s : State) (n : Nat) (b : List Byte) :
    (s.takeCap n b).lane n = { s.lane n with modes := some (fieldLE b 1 1), farMax := (fieldLE b 2 1, fieldLE b 4 1, fieldLE b 3 1) } ∧
    (s.takeCap n b).get (wePage n) Weatas.CAM_ID_ID = fieldLE b 8 4 % 2 ^ 32 ∧ (s.takeCap n b).linkState n = s.linkState n ∧
    (s.takeCap n b).laneMode n = s.laneMode n := by
  let u := ((s.capFields n b).putLane n { (s.capFields n b).lane n with
    modes := some (fieldLE b 1 1), farMax := (fieldLE b 2 1, fieldLE b 4 1, fieldLE b 3 1) }).lower (wePage n) 19
  obtain ⟨hlanes, -, -, hget⟩ := u.showFar_keeps n
  have ht : s.takeCap n b = u.showFar n := rfl
  obtain ⟨hcam, hlink, hmode, hlane⟩ := s.get_capFields n b
  have hu : ∀ f : Field, f.place ≠ Hdr.FLT_STAT_FAULT.place → u.get (wePage n) f = (s.capFields n b).get (wePage n) f := fun f hf =>
    State.get_lower_other _ _ fun h => hf ((fieldKey_inj _ _ _).mp h).symm
  rw [ht]
  refine ⟨?_, ?_, ?_, ?_⟩
  · rw [State.lane, hlanes, State.lower_lanes, ← State.lane, State.lane_putLane_same, hlane]
  · rw [hget _ (by decide), hu _ (by decide), hcam]
  · rw [State.linkState, hget _ (by decide), hu _ (by decide)]
    exact hlink
  · rw [State.laneMode, hget _ (by decide), hu _ (by decide)]
    exact hmode

/-- A failed attempt (R134). -/
theorem State.failAttempt_effect (s : State) (n : Nat) :
    Attempts s (s.failAttempt n) n (s.lowerMode n) ∧ (s.failAttempt n).eventBit (wePage n) 18 = true ∧
    ((s.failAttempt n).lane n).modes = (s.lane n).modes ∧ ((s.failAttempt n).lane n).farMax = (s.lane n).farMax ∧
    (s.failAttempt n).get (wePage n) Weatas.CAM_ID_ID = s.get (wePage n) Weatas.CAM_ID_ID ∧
    ∀ c, c ≠ 4 → c ≠ 16 → c ≠ 17 → (s.failAttempt n).condBit (wePage n) c = s.condBit (wePage n) c := by
  let u := (s.event (wePage n) 18).countSat (wePage n) Weatas.LINK_STAT_FAILS
  have hget : ∀ f : Field, f.place ≠ Hdr.EVT_STAT_EVENT.place → f.place ≠ Weatas.LINK_STAT_FAILS.place → u.get (wePage n) f = s.get (wePage n) f :=
    fun f he hf => by
      rw [State.get_countSat, if_neg fun h => hf ((fieldKey_inj _ _ _).mp h).symm, State.get_event_other _ _ fun h => he ((fieldKey_inj _ _ _).mp h).symm]
  have hevent : u.eventBit (wePage n) 18 = true := by
    have hkept : u.get (wePage n) Hdr.EVT_STAT_EVENT = (s.event (wePage n) 18).get (wePage n) Hdr.EVT_STAT_EVENT := State.get_put_other _ _ (by simp +decide)
    rw [State.eventBit_congr (s.event (wePage n) 18) hkept]
    exact State.eventBit_event _ _ (by decide)
  have hmode : u.laneMode n = s.laneMode n := hget _ (by decide) (by decide)
  have hnext : (if u.laneMode n = 0 then none else u.nextMode n (u.laneMode n - 1)) = s.lowerMode n := by rw [hmode]; rfl
  have ht : s.failAttempt n = match s.lowerMode n with
      | some m => u.attempt n m
      | none => (u.putLane n { u.lane n with queue := [] }).linkTo n 11 := by
    rw [← hnext]
    rfl
  rw [ht]
  cases h : s.lowerMode n with
  | some m =>
    obtain ⟨hlink, hlane, hrx, hepoch⟩ := u.attempt_effect n m
    obtain ⟨hmodes, hfar, -, -⟩ := u.lane_attempt n m
    refine ⟨⟨fun k hk => ?_, fun hk => (nomatch hk)⟩, ?_, hmodes, hfar, ?_, fun c h4 h16 h17 => u.condBit_attempt n m h4 h16 h17⟩
    · cases hk
      exact ⟨hlink, hlane, hrx, by rw [hepoch, hget _ (by decide) (by decide)]⟩
    · rw [State.eventBit_congr u (u.get_attempt n m (by decide)), hevent]
    · exact (u.get_attempt n m (by decide)).trans (hget _ (by decide) (by decide))
  | none =>
    have hkeep : ∀ f : Field, f.place ∉ [Weatas.LINK_STAT_STATE.place, Hdr.FLT_STAT_FAULT.place] →
        ((u.putLane n { u.lane n with queue := [] }).linkTo n 11).get (wePage n) f = u.get (wePage n) f := fun f hf =>
      State.get_linkTo _ _ _ (fieldKey_ne (by decide) hf) (fieldKey_ne (by decide) hf)
    refine ⟨⟨fun k hk => (nomatch hk), fun _ => State.linkState_linkTo _ _ _⟩, ?_, ?_, ?_, ?_, fun c _ h16 h17 => State.condBit_linkTo _ _ _ h16 h17⟩
    · rw [State.eventBit_congr u (hkeep _ (by decide)), hevent]
    · rw [State.lane_linkTo, State.lane_putLane_same]
      rfl
    · rw [State.lane_linkTo, State.lane_putLane_same]
      rfl
    · exact (hkeep _ (by decide)).trans (hget _ (by decide) (by decide))

/-- TXEQ begins (R136). -/
theorem State.startTxeq_effect (s : State) (n : Nat) :
    (s.startTxeq n).linkState n = 6 ∧ ((s.startTxeq n).lane n).trial = 0 ∧ ((s.startTxeq n).lane n).modes = (s.lane n).modes ∧
    ((s.startTxeq n).lane n).farMax = (s.lane n).farMax ∧ (s.startTxeq n).get (wePage n) Weatas.CAM_ID_ID = s.get (wePage n) Weatas.CAM_ID_ID := by
  have hlane := s.lane_linkTo n 6 n
  have hcam : (s.linkTo n 6).get (wePage n) Weatas.CAM_ID_ID = s.get (wePage n) Weatas.CAM_ID_ID :=
    State.get_linkTo _ _ _ (by simp +decide) (by simp +decide)
  have hlink : (s.linkTo n 6).linkState n = 6 := State.linkState_linkTo _ _ _
  unfold State.startTxeq
  extract_lets u x
  have hsend : ∀ (y : LaneSt) (c : FarSetting), y.trial = 0 → y.modes = (s.lane n).modes → y.farMax = (s.lane n).farMax →
      ((u.putLane n y).sendEq n c).linkState n = 6 ∧ (((u.putLane n y).sendEq n c).lane n).trial = 0 ∧
      (((u.putLane n y).sendEq n c).lane n).modes = (s.lane n).modes ∧ (((u.putLane n y).sendEq n c).lane n).farMax = (s.lane n).farMax ∧
      ((u.putLane n y).sendEq n c).get (wePage n) Weatas.CAM_ID_ID = s.get (wePage n) Weatas.CAM_ID_ID := fun y c htrial hmodes hfar => by
    obtain ⟨hsent, -, -, hget⟩ := (u.putLane n y).sendEq_effect n c
    rw [hsent, State.lane_putLane_same]
    exact ⟨(hget _ (by simp +decide)).trans hlink, htrial, hmodes, hfar, (hget _ (by simp +decide)).trans hcam⟩
  have hx : x = s.lane n := hlane
  split
  · exact hsend _ _ rfl (by rw [hx]) (by rw [hx])
  · exact hsend _ _ rfl (by rw [hx]) (by rw [hx])

theorem capReceived_judges (n : Fin 32) (s : State) (p : LanePacket) (hp : (s.lane n).inbox.find? (·.kind == 7) = some p) (hlink : s.linkState n = 5) :
    Completes (.capReceived n) s fun t =>
      (capOk p.payload = true → hasBit (fieldLE p.payload 1 1) (s.laneMode n) = true → t.linkState n = 6 ∧ (t.lane n).trial = 0) ∧
      (capOk p.payload = true → (t.lane n).modes = some (fieldLE p.payload 1 1) ∧ t.get (wePage n) Weatas.CAM_ID_ID = fieldLE p.payload 8 4 ∧
        (t.lane n).farMax = (fieldLE p.payload 2 1, fieldLE p.payload 4 1, fieldLE p.payload 3 1)) ∧
      (capOk p.payload = true → hasBit (fieldLE p.payload 1 1) (s.laneMode n) = false → t.eventBit (wePage n) 18 = true) ∧
      (capOk p.payload = false → t.condBit (wePage n) 19 = true ∧ t.eventBit (wePage n) 18 = true ∧ Attempts s t n (s.lowerMode n)) ∧
      SameMemory s t := by
  let u := s.putLane n { s.lane n with inbox := (s.lane n).inbox.erase p }
  have hulane : u.lane n = { s.lane n with inbox := (s.lane n).inbox.erase p } := State.lane_putLane_same ..
  have hid : fieldLE p.payload 8 4 % 2 ^ 32 = fieldLE p.payload 8 4 := Nat.mod_eq_of_lt (fieldLE_lt _ _ _)
  obtain ⟨hlane, hcam, hstate, hmode⟩ := u.takeCap_effect n p.payload
  cases hok : capOk p.payload with
  | true =>
    have hexec : ∀ t, (if hasBit (fieldLE p.payload 1 1) (s.laneMode n) then (u.takeCap n p.payload).startTxeq n
        else (u.takeCap n p.payload).failAttempt n) = t → exec (.capReceived n) s = .next t := by
      rintro t rfl
      rw [exec, execCapReceived, State.takeOwn_some hp]
      simp only [hok, Bool.not_true, Bool.false_eq_true, if_false]
      rw [if_pos (hstate.trans hlink), hmode]
      rfl
    cases hdeclared : hasBit (fieldLE p.payload 1 1) (s.laneMode n) with
    | true =>
      have ht := hexec _ (if_pos hdeclared)
      obtain ⟨hlink', htrial, hmodes, hfar, hcam'⟩ := (u.takeCap n p.payload).startTxeq_effect n
      refine ⟨_, ht, fun _ _ => ⟨hlink', htrial⟩, fun _ => ⟨by rw [hmodes, hlane], by rw [hcam', hcam, hid], by rw [hfar, hlane]⟩,
        fun _ h => (nomatch h), fun h => (nomatch h), SameMemory.of_exec ht (by rw [exec]; exact answers_capReceived (Quiet.refl s))⟩
    | false =>
      have ht := hexec _ (if_neg (by rw [hdeclared]; decide))
      obtain ⟨-, hevent, hmodes, hfar, hcam', -⟩ := (u.takeCap n p.payload).failAttempt_effect n
      refine ⟨_, ht, fun _ h => (nomatch h), fun _ => ⟨by rw [hmodes, hlane], by rw [hcam', hcam, hid], by rw [hfar, hlane]⟩,
        fun _ _ => hevent, fun h => (nomatch h), SameMemory.of_exec ht (by rw [exec]; exact answers_capReceived (Quiet.refl s))⟩
  | false =>
    let v := if u.condBit (wePage n) 19 then u.occur (wePage n) 19 else u.raise (wePage n) 19
    have hv : v.condBit (wePage n) 19 = true ∧ v.lanes = u.lanes ∧
        ∀ f : Field, f.place ≠ Hdr.FLT_STAT_FAULT.place → v.get (wePage n) f = u.get (wePage n) f := by
      by_cases h : u.condBit (wePage n) 19 = true
      · rw [show v = u.occur (wePage n) 19 from if_pos h]
        exact ⟨h, rfl, fun f hf => State.get_put_other _ _ fun hk => hf ((fieldKey_inj _ _ _).mp hk).symm⟩
      · rw [show v = u.raise (wePage n) 19 from if_neg h]
        exact ⟨State.condBit_raise .., State.raise_lanes .., fun f hf => State.get_raise_other _ _ fun hk => hf ((fieldKey_inj _ _ _).mp hk).symm⟩
    obtain ⟨hcond, hlanes, hget⟩ := hv
    have hvlink : v.linkState n = 5 := (hget _ (by decide)).trans hlink
    have ht : exec (.capReceived n) s = .next (v.failAttempt n) := by
      rw [exec, execCapReceived, State.takeOwn_some hp]
      simp only [hok, Bool.not_false, if_true]
      exact congrArg Host.Outcome.next (if_pos (by show 5 ≤ v.linkState n ∧ v.linkState n ≤ 8; rw [hvlink]; decide))
    have hlower : v.lowerMode n = s.lowerMode n := by
      have hmode : v.laneMode n = s.laneMode n := hget _ (by decide)
      have hvlane : v.lane n = u.lane n := by rw [State.lane, hlanes, State.lane]
      simp only [State.lowerMode, State.highestMode, hmode, hvlane, hulane]
    obtain ⟨⟨hsome, hnone⟩, hevent, -, -, -, hkeep⟩ := v.failAttempt_effect n
    rw [hlower, show v.get (wePage n) Weatas.LINK_STAT_EPOCH = s.get (wePage n) Weatas.LINK_STAT_EPOCH from hget _ (by decide)] at hsome
    rw [hlower] at hnone
    refine ⟨_, ht, fun h => (nomatch h), fun h => (nomatch h), fun h => (nomatch h), fun _ => ⟨?_, hevent, hsome, hnone⟩,
      SameMemory.of_exec ht (by rw [exec]; exact answers_capReceived (Quiet.refl s))⟩
    rw [hkeep 19 (by decide) (by decide) (by decide), hcond]

/-! ## Probe replies (R138) and EQ_ACKs (R131) -/

theorem probeReply_ends (n : Fin 32) (s : State) (p : LanePacket) (id tOut : Nat) (hp : (s.lane n).inbox.find? (·.kind == 3) = some p)
    (hprobe : (s.lane n).probe = some (id, some tOut)) (hid : fieldLE p.payload 0 1 = id) (hlink : s.linkState n = 9) :
    Completes (.probeReply n) s fun t =>
      (t.lane n).probe = none ∧ (t.lane n).lostRun = 0 ∧ t.eventBit (wePage n) 22 = true ∧
      (0 ≤ (p.stamp : Int) - tOut → (p.stamp : Int) - tOut < 2 ^ 32 →
        (t.get (wePage n) Weatas.LAT_RTT_RTT : Int) = (p.stamp : Int) - tOut) ∧ t.linkState n = 9 ∧ SameMemory s t := by
  let u := s.putLane n { s.lane n with inbox := (s.lane n).inbox.erase p }
  have hulane : u.lane n = { s.lane n with inbox := (s.lane n).inbox.erase p } := State.lane_putLane_same ..
  let v := u.putLane n { u.lane n with probe := none }
  have ht : exec (.probeReply n) s = .next (v.latencyResult n ((p.stamp : Int) - tOut) (fieldLE p.payload 4 4)) := by
    have hprobe' : (u.lane n).probe = some (id, some tOut) := by rw [hulane]; exact hprobe
    rw [exec, execProbeReply, State.takeOwn_some hp]
    show Host.Outcome.next (match (u.lane n).probe with
      | some (id, some tOut) => if fieldLE p.payload 0 1 = id then v.latencyResult n ((p.stamp : Int) - tOut) (fieldLE p.payload 4 4) else u
      | _ => u) = _
    rw [hprobe']
    exact congrArg Host.Outcome.next (if_pos hid)
  generalize hrtt : (p.stamp : Int) - tOut = rtt at ht ⊢
  have hvlink : v.linkState n = 9 := hlink
  let w := ((v.putFit (wePage n) Weatas.LAT_RTT_RTT rtt).put (wePage n) Weatas.LAT_TURN_TURN (fieldLE p.payload 4 4 : Int).toNat)
  let l := (roundHalfEven (rtt - (fieldLE p.payload 4 4 : Int)) 2 :: (v.lane n).delays).take (v.get (wePage n) Weatas.PROBE_CFG_AVG)
  let x := ((w.putFit (wePage n) Weatas.LAT_CABLE_DELAY (roundHalfEven l.sum l.length)).countWrap (wePage n) Weatas.PROBE_STAT_DONE).event (wePage n) 22
  let y := (x.putLane n { x.lane n with delays := l, lostRun := 0 }).lower (wePage n) 20
  have hkeep : ∀ f : Field, f.place ∉ [Weatas.LAT_RTT_RTT.place, Weatas.LAT_TURN_TURN.place, Weatas.LAT_CABLE_DELAY.place, Weatas.PROBE_STAT_DONE.place,
      Hdr.EVT_STAT_EVENT.place, Hdr.FLT_STAT_FAULT.place] → y.get (wePage n) f = v.get (wePage n) f := fun f hf => by
    rw [State.get_lower_other _ _ (fieldKey_ne (by decide) hf)]
    show x.get (wePage n) f = _
    rw [State.get_event_other _ _ (fieldKey_ne (by decide) hf), State.get_countWrap, if_neg (fieldKey_ne (by decide) hf),
      State.get_putFit_other _ _ (fieldKey_ne (by decide) hf), State.get_put_other _ _ (fieldKey_ne (by decide) hf),
      State.get_putFit_other _ _ (fieldKey_ne (by decide) hf)]
  have hylink : y.linkState n = 9 := (hkeep _ (by decide)).trans hvlink
  have hresult : v.latencyResult n rtt (fieldLE p.payload 4 4) = y := if_neg (fun h => by
    have h7 : y.linkState n = 7 := h.1
    rw [hylink] at h7
    cases h7)
  have hylane : (y.lane n).probe = none ∧ (y.lane n).lostRun = 0 := by
    have hxlane : x.lane n = v.lane n := by
      show (w.putFit (wePage n) Weatas.LAT_CABLE_DELAY (roundHalfEven l.sum l.length)).lane n = v.lane n
      have hfit : ∀ (t : State) (f : Field) (k : Int), (t.putFit (wePage n) f k).lane n = t.lane n := fun t f k => by
        unfold State.putFit
        split <;> rfl
      rw [hfit]
      exact hfit ..
    rw [State.lane, State.lower_lanes, ← State.lane, State.lane_putLane_same, hxlane]
    exact ⟨congrArg LaneSt.probe (State.lane_putLane_same u n { u.lane n with probe := none }), rfl⟩
  rw [hresult] at ht
  refine ⟨_, ht, hylane.1, hylane.2, ?_, fun h0 h1 => ?_, hylink, SameMemory.of_exec ht (by rw [exec]; exact answers_probeReply (Quiet.refl s))⟩
  · have hkept : y.get (wePage n) Hdr.EVT_STAT_EVENT = x.get (wePage n) Hdr.EVT_STAT_EVENT := State.get_lower_other _ _ (by simp +decide)
    rw [State.eventBit_congr x hkept]
    exact State.eventBit_event _ _ (by decide)
  · have hput : v.putFit (wePage n) Weatas.LAT_RTT_RTT rtt = v.put (wePage n) Weatas.LAT_RTT_RTT rtt.toNat := if_pos ⟨h0, h1⟩
    rw [State.get_lower_other _ _ (by simp +decide)]
    show (x.get (wePage n) Weatas.LAT_RTT_RTT : Int) = rtt
    rw [State.get_event_other _ _ (by simp +decide), State.get_countWrap, if_neg (by simp +decide), State.get_putFit_other _ _ (by simp +decide),
      State.get_put_other _ _ (by simp +decide), hput, State.get_put_same, show Weatas.LAT_RTT_RTT.size = 2 ^ 32 from rfl]
    omega

theorem eqAck_takes (n : Fin 32) (s : State) (p : LanePacket) (y : FarSetting) (hp : (s.lane n).inbox.find? (·.kind == 6) = some p)
    (hy : y = (fieldLE p.payload 0 1, fieldLE p.payload 1 1, fieldLE p.payload 2 1)) (hsent : (s.lane n).eqSent = some y) (hlink : s.linkState n = 9) :
    Completes (.eqAck n) s fun t =>
      (t.lane n).eqSent = none ∧ (t.lane n).farNow = y ∧
      (s.flag (wePage n) Weatas.FAR_TXEQ_REQ_AUTO = false → t.eventBit (wePage n) 4 = true) ∧ SameMemory s t ∧ SameFaults s t := by
  let u := s.putLane n { s.lane n with inbox := (s.lane n).inbox.erase p }
  have hulane : u.lane n = { s.lane n with inbox := (s.lane n).inbox.erase p } := State.lane_putLane_same ..
  let v := (u.putLane n { u.lane n with eqSent := none, farNow := y }).put (wePage n) Weatas.FAR_TXEQ_ACT_PENDING (bit (u.lane n).eqDue)
  obtain ⟨hlanes, hflt, hdue, hget⟩ := v.showFar_keeps n
  have hvlink : (v.showFar n).linkState n = 9 :=
    (hget _ (by decide)).trans ((State.get_put_other _ _ (by simp +decide)).trans hlink)
  have hauto : (v.showFar n).flag (wePage n) Weatas.FAR_TXEQ_REQ_AUTO = s.flag (wePage n) Weatas.FAR_TXEQ_REQ_AUTO :=
    State.flag_congr _ ((hget _ (by decide)).trans (State.get_put_other _ _ (by simp +decide)))
  have ht : exec (.eqAck n) s = .next ((v.showFar n).eventIf (!(v.showFar n).flag (wePage n) Weatas.FAR_TXEQ_REQ_AUTO) (wePage n) 4) := by
    have hmatch : ¬ ((u.lane n).eqSent != some y) = true := by
      rw [hulane]
      simp [hsent]
    subst hy
    rw [exec, execEqAck, State.takeOwn_some hp]
    refine congrArg Host.Outcome.next ((if_neg hmatch).trans (if_neg ?_))
    show ¬ (v.showFar n).linkState n = 6
    rw [hvlink]
    decide
  have hlane : ((v.showFar n).eventIf (!(v.showFar n).flag (wePage n) Weatas.FAR_TXEQ_REQ_AUTO) (wePage n) 4).lane n =
      { u.lane n with eqSent := none, farNow := y } := by
    have hv : (v.showFar n).lane n = { u.lane n with eqSent := none, farNow := y } := by
      rw [State.lane, hlanes]
      exact State.lane_putLane_same ..
    cases !(v.showFar n).flag (wePage n) Weatas.FAR_TXEQ_REQ_AUTO <;> exact hv
  refine ⟨_, ht, by rw [hlane], by rw [hlane], fun hoff => ?_, SameMemory.of_exec ht (by rw [exec]; exact answers_eqAck (Quiet.refl s)),
    SameFaults.eventIf ⟨hflt, hdue⟩⟩
  rw [hauto, hoff]
  exact State.eventBit_event _ _ (by decide)

/-- Settles O24, a command at a time: what reaches the lane (`State.handOn_effect`), and what its three kinds of records do. -/
theorem forwardPacketsReachTheirUse : Obligations.ForwardPacketsReachTheirUse :=
  ⟨fwdPacketReceived_headerError, fwdPacketReceived_handsOn, capReceived_judges, probeReply_ends, eqAck_takes⟩

end Sys2Proof.Machine
end

section
/-!
PROOFS. Messages of the back channel (R128 to R130) and FSYNCs (R198).
-/
namespace Sys2Proof.Machine

/-- A message goes out with its code groups: nothing but the lane and the output changes. -/
theorem State.sendBack_effect (s : State) (n : Nat) (m : BcMessage) :
    (s.sendBack n m).lane n = { s.lane n with
      rd := (messageGroups m.bytes (s.lane n).rd).2, bcGroups := (s.lane n).bcGroups + (messageGroups m.bytes (s.lane n).rd).1.length } ∧
    (s.sendBack n m).out = .backChannel n m.bytes (messageGroups m.bytes (s.lane n).rd).1 :: s.out ∧
    (s.sendBack n m).regs = s.regs ∧ SameFaults s (s.sendBack n m) := by
  obtain ⟨⟨g, rd⟩, hg⟩ : ∃ z, messageGroups m.bytes (s.lane n).rd = z := ⟨_, rfl⟩
  have ht : s.sendBack n m = (s.putLane n { s.lane n with rd := rd, bcGroups := (s.lane n).bcGroups + g.length }).emit (.backChannel n m.bytes g) := by
    unfold State.sendBack
    extract_lets x
    rw [show messageGroups m.bytes x.rd = (g, rd) from hg]
  rw [ht, hg]
  exact ⟨State.lane_putLane_same s n { s.lane n with rd := rd, bcGroups := (s.lane n).bcGroups + g.length }, rfl, rfl, rfl, rfl⟩

theorem bcMessageSend_sends (n : Fin 32) (at_ : Nat) (s : State) (m : BcMessage) (hm : (s.lane n).nextMessage (s.linkState n) = some m)
    (hterm : s.terminal = false) (hguard : ((s.lane n).fsyncs.any fun f => decide (f.depart - 1200 < (s.stampAt at_ : Int) + 200)) = false) :
    Completes (.bcMessageSend n at_) s fun t =>
      t.out = .backChannel n m.bytes (messageGroups m.bytes (s.lane n).rd).1 :: s.out ∧ (t.lane n).queue = (s.lane n).queue.erase m ∧
      (t.lane n).lastOther = some (s.stampAt at_ : Int) ∧ (t.lane n).rd = (messageGroups m.bytes (s.lane n).rd).2 ∧ t.regs = s.regs ∧
      SameMemory s t ∧ SameFaults s t := by
  let x : LaneSt := { s.lane n with
    queue := (s.lane n).queue.erase m, probe := if m.type = 5 then (s.lane n).probe.map (fun p => (p.1, some (s.stampAt at_))) else (s.lane n).probe
    lastOther := some (s.stampAt at_ : Int) }
  have ht : exec (.bcMessageSend n at_) s = .next ((s.putLane n x).sendBack n m) := by
    rw [exec, execBcMessageSend]
    simp only [hm, hterm, hguard, Bool.or_self, Bool.false_eq_true, if_false]
    rfl
  obtain ⟨hlane, hout, hregs, hfaults⟩ := (s.putLane n x).sendBack_effect n m
  rw [State.lane_putLane_same] at hlane hout
  exact ⟨_, ht, hout, by rw [hlane], by rw [hlane], by rw [hlane], hregs,
    SameMemory.of_exec ht (by rw [exec]; exact answers_bcMessageSend (Quiet.refl s)), hfaults⟩

theorem bcMessageSend_waits (n : Fin 32) (at_ : Nat) (s : State)
    (hwait : s.terminal = true ∨ ((s.lane n).fsyncs.any fun f => decide (f.depart - 1200 < (s.stampAt at_ : Int) + 200)) = true) :
    Completes (.bcMessageSend n at_) s fun t => t = s := by
  refine ⟨s, ?_, rfl⟩
  have hstop : (s.terminal || (s.lane n).fsyncs.any fun f => decide (f.depart - 1200 < (s.stampAt at_ : Int) + 200)) = true := by
    rw [Bool.or_eq_true]
    exact hwait
  rw [exec, execBcMessageSend]
  cases hm : (s.lane n).nextMessage (s.linkState n) with
  | none => simp only [hm]
  | some m => simp only [hm, hstop, if_true]

theorem fsyncDepart_sends (n : Fin 32) (s : State) (f : Fsync) (r : List Fsync) (hf : (s.lane n).fsyncs = f :: r) (hmiss : s.fsyncMisses n f = false)
    (hgate : s.syncGate n = true) :
    Completes (.fsyncDepart n) s fun t =>
      (t.lane n).fsyncs = r ∧ (t.lane n).lastT = some ((s.lane n).fsyncAt f) ∧
      t.get (wePage n) Weatas.FSYNC_COUNT_SENT = (s.get (wePage n) Weatas.FSYNC_COUNT_SENT + 1) % Weatas.FSYNC_COUNT_SENT.size ∧
      (∀ b : List Byte, b = BcMessage.bytes ⟨2, [BitVec.ofNat 8 f.id, BitVec.ofNat 8 f.out] ++
          toBytesLE 2 (f.delay - (roundHalfEven ((s.lane n).fsyncAt f - f.depart) 10).toNat) ++ [0, 0]⟩ →
        t.out = .backChannel n b (messageGroups b (s.lane n).rd).1 :: s.out) ∧ SameMemory s t ∧ SameFaults s t := by
  let m : BcMessage := ⟨2, [BitVec.ofNat 8 f.id, BitVec.ofNat 8 f.out] ++
    toBytesLE 2 (f.delay - (roundHalfEven ((s.lane n).fsyncAt f - f.depart) 10).toNat) ++ [0, 0]⟩
  let u := s.putLane n { s.lane n with fsyncs := r }
  let v := (u.putLane n { u.lane n with lastT := some ((s.lane n).fsyncAt f) }).countWrap (wePage n) Weatas.FSYNC_COUNT_SENT
  have ht : exec (.fsyncDepart n) s = .next (v.sendBack n m) := by
    rw [exec, execFsyncDepart]
    simp only [hf, hmiss, hgate, Bool.not_true, Bool.or_self, Bool.false_eq_true, if_false]
    rfl
  have hvlane : v.lane n = { s.lane n with fsyncs := r, lastT := some ((s.lane n).fsyncAt f) } := by
    rw [State.lane_countWrap, State.lane_putLane_same, State.lane_putLane_same]
  obtain ⟨hlane, hout, hregs, hfaults⟩ := v.sendBack_effect n m
  rw [hvlane] at hlane hout
  refine ⟨_, ht, by rw [hlane], by rw [hlane], ?_, fun b hb => by rw [hout, hb]; rfl,
    SameMemory.of_exec ht (by rw [exec]; exact answers_fsyncDepart (Quiet.refl s)), hfaults⟩
  rw [State.get_of_regs hregs, State.get_countWrap, if_pos rfl]
  rfl

/-- A decision that turns into PATH_MISSED writes the pages of its Inlet and of the sync unit. -/
theorem State.pathMissed_keeps (s : State) (n k : Nat) {pg : Nat} {f : Field} (hpg : inPage n ≠ pg) (hsync : syncPage ≠ pg) (hf : f.place < 0x8000) :
    (s.pathMissed n k).lanes = s.lanes ∧ (s.pathMissed n k).out = s.out ∧ (s.pathMissed n k).get pg f = s.get pg f := by
  have hin : ∀ g : Field, g.place < 0x8000 → fieldKey (inPage n) g ≠ fieldKey pg f := fun g hg => fieldKey_page hg hf hpg
  have hsy : ∀ g : Field, g.place < 0x8000 → fieldKey syncPage g ≠ fieldKey pg f := fun g hg => fieldKey_page hg hf hsync
  unfold State.pathMissed
  extract_lets x
  split
  · unfold State.countSkip State.judgeSyncLost State.mapPort
    extract_lets u
    refine ⟨(State.cond_lanes ..).trans ?_, (State.cond_out ..).trans ?_, ?_⟩
    · split <;> rfl
    · split <;> rfl
    · rw [State.get_cond_other _ _ _ (hsy _ (by decide)), State.get_event_other _ _ (hsy _ (by decide))]
      have hu : u.get pg f = s.get pg f := by
        rw [State.get_countSat, if_neg (hin _ (by decide)), State.get_countSat, if_neg (hin _ (by decide))]
        exact State.get_put_other _ _ (hin _ (by decide))
      split
      · exact (State.get_put_other _ _ (hsy _ (by decide))).trans hu
      · exact (State.get_put_other _ _ (hsy _ (by decide))).trans hu
  · exact ⟨rfl, rfl, rfl⟩

theorem fsyncDepart_misses (n : Fin 32) (s : State) (f : Fsync) (r : List Fsync) (hf : (s.lane n).fsyncs = f :: r)
    (hmiss : s.fsyncMisses n f = true ∨ s.syncGate n = false) :
    Completes (.fsyncDepart n) s fun t =>
      (t.lane n).fsyncs = r ∧ (t.lane n).lastT = (s.lane n).lastT ∧ t.out = s.out ∧
      t.get (wePage n) Weatas.FSYNC_COUNT_MISSED = min (s.get (wePage n) Weatas.FSYNC_COUNT_MISSED + 1) (Weatas.FSYNC_COUNT_MISSED.size - 1) ∧
      SameMemory s t := by
  let u := (s.putLane n { s.lane n with fsyncs := r }).countSat (wePage n) Weatas.FSYNC_COUNT_MISSED
  have ht : exec (.fsyncDepart n) s = .next (u.pathMissed n f.tide) := by
    have hstop : (s.fsyncMisses n f || !s.syncGate n) = true := by
      rw [Bool.or_eq_true, Bool.not_eq_true']
      exact hmiss
    rw [exec, execFsyncDepart]
    simp only [hf, hstop, if_true]
    rfl
  have hin : inPage n ≠ wePage n := by
    show (if n.val < 32 then 0x140 + n.val else 0x150 + n.val) ≠ 0x100 + n.val
    split <;> omega
  have hsync : syncPage ≠ wePage n := by
    show 0x13 ≠ 0x100 + n.val
    omega
  obtain ⟨hlanes, hout, hget⟩ := u.pathMissed_keeps n f.tide (f := Weatas.FSYNC_COUNT_MISSED) hin hsync (by decide)
  have hlane : (u.pathMissed n f.tide).lane n = { s.lane n with fsyncs := r } := by
    rw [State.lane, hlanes]
    exact State.lane_putLane_same ..
  refine ⟨_, ht, by rw [hlane], by rw [hlane], hout, ?_, SameMemory.of_exec ht (by rw [exec]; exact answers_fsyncDepart (Quiet.refl s))⟩
  rw [hget]
  exact State.get_countSat_same ..

/-- Settles O25: messages (`State.sendBack_effect`) and FSYNCs, sent or held back. -/
theorem backChannelMessagesAreSent : Obligations.BackChannelMessagesAreSent :=
  ⟨bcMessageSend_sends, bcMessageSend_waits, fsyncDepart_sends, fsyncDepart_misses⟩

end Sys2Proof.Machine
end

section
/-!
PROOFS. A CSI-2 port's frame-sync output and trigger input (R160 to R162): edges, pulses, the readback of the ball, and the stamps of the trigger queue.
-/
namespace Sys2Proof.Machine

theorem State.csi_putCsi (s : State) (n : Nat) (x : CsiRxSt) : (s.putCsi n x).csi n = x := by simp [State.csi, State.putCsi]
theorem State.csi_congr {s t : State} (h : t.csiRx = s.csiRx) (n : Nat) : t.csi n = s.csi n := by rw [State.csi, h, State.csi]

theorem inPage_ne_rxPage (i : Fin 8) : inPage (32 + i) ≠ rxPage i := by
  show (if 32 + i.val < 32 then 0x140 + (32 + i.val) else 0x150 + (32 + i.val)) ≠ 0x120 + i.val
  split <;> omega

theorem syncPage_ne_rxPage (i : Fin 8) : syncPage ≠ rxPage i := by
  show 0x13 ≠ 0x120 + i.val
  omega

/-! ## A decision turns into PATH_MISSED (R206) -/

theorem State.countSkip_csiRx (s : State) (n : Nat) : (s.countSkip n).csiRx = s.csiRx := by
  unfold State.countSkip State.judgeSyncLost State.mapPort
  rw [State.cond_csiRx, State.event_csiRx]
  split <;> rfl

theorem State.pathMissed_csiRx (s : State) (n k : Nat) : (s.pathMissed n k).csiRx = s.csiRx := by
  unfold State.pathMissed
  extract_lets x
  split
  · exact State.countSkip_csiRx ..
  · rfl

/-- A skipped tide shows nothing in the last reason of its port. -/
theorem State.get_countSkip (s : State) (n : Nat) {f : Field} (hf : f.place < 0x8000) (hpg : syncPage ≠ inPage n)
    (hplace : f.place ∉ [Inlet.SYNC_CNT0_SKIPPED.place, Inlet.SYNC_STAT_SKIP_RUN.place]) : (s.countSkip n).get (inPage n) f = s.get (inPage n) f := by
  have hsy : ∀ g : Field, g.place < 0x8000 → fieldKey syncPage g ≠ fieldKey (inPage n) f := fun g hg => fieldKey_page hg hf hpg
  unfold State.countSkip State.judgeSyncLost State.mapPort
  extract_lets u
  rw [State.get_cond_other _ _ _ (hsy _ (by decide)), State.get_event_other _ _ (hsy _ (by decide))]
  have hu : u.get (inPage n) f = s.get (inPage n) f := by
    rw [State.get_countSat, if_neg (fieldKey_ne (by decide) hplace), State.get_countSat, if_neg (fieldKey_ne (by decide) hplace)]
  split
  · exact (State.get_put_other _ _ (hsy _ (by decide))).trans hu
  · exact (State.get_put_other _ _ (hsy _ (by decide))).trans hu

theorem syncPage_ne_inPage (n : Nat) : syncPage ≠ inPage n := by
  show 0x13 ≠ if n < 32 then 0x140 + n else 0x150 + n
  split <;> omega

theorem State.pathMissed_reason (s : State) (n k : Nat) {d : SyncDecision} (hd : d ∈ (s.syncOf n).decisions) (htide : d.tide = k) (hreason : d.reason = 0) :
    (s.pathMissed n k).get (inPage n) Inlet.SYNC_STAT_LAST_REASON = 4 := by
  have hany : (s.syncOf n).decisions.any (fun d => d.tide == k && d.reason == 0) = true :=
    List.any_eq_true.mpr ⟨d, hd, by rw [htide, hreason]; simp⟩
  unfold State.pathMissed
  rw [if_pos hany, State.get_countSkip _ _ (by decide) (syncPage_ne_inPage n) (by decide), State.get_put_same]
  rfl

/-- An edge that is not sent counts at its output, with its event, and is no new event of the sensor's time. -/
theorem State.lfsMissed_effect (s : State) (i : Fin 8) (tide : Nat) :
    (s.lfsMissed i tide).csiRx = s.csiRx ∧ (s.lfsMissed i tide).out = s.out ∧ (s.lfsMissed i tide).eventBit (rxPage i) 4 = true ∧
    (s.lfsMissed i tide).get (rxPage i) CsiRx.LFS_STAT_MISSED =
      min (s.get (rxPage i) CsiRx.LFS_STAT_MISSED + 1) (CsiRx.LFS_STAT_MISSED.size - 1) := by
  let u := (s.countSat (rxPage i) CsiRx.LFS_STAT_MISSED).event (rxPage i) 4
  have hin := inPage_ne_rxPage i
  have hsync := syncPage_ne_rxPage i
  obtain ⟨-, hout, hmissed⟩ := u.pathMissed_keeps (32 + i) tide (f := CsiRx.LFS_STAT_MISSED) hin hsync (by decide)
  obtain ⟨-, -, hevent⟩ := u.pathMissed_keeps (32 + i) tide (f := Hdr.EVT_STAT_EVENT) hin hsync (by decide)
  refine ⟨State.pathMissed_csiRx .., hout, ?_, ?_⟩
  · show (u.pathMissed (32 + i) tide).eventBit (rxPage i) 4 = true
    rw [State.eventBit_congr u hevent]
    exact State.eventBit_event _ _ (by decide)
  · show (u.pathMissed (32 + i) tide).get (rxPage i) CsiRx.LFS_STAT_MISSED = _
    rw [hmissed, State.get_event_other _ _ (by simp +decide), State.get_countSat_same]

/-! ## The clauses -/

/-- Where the pulse that begins at an edge ends (R160). -/
def pulseEnd (s : State) (i : Nat) (t : Int) : List (Int × Nat) → Int
  | (e, _) :: _ => min (t + 16 * s.get (rxPage i) CsiRx.LFS_CFG_WIDTH_NS) (e - 320)
  | [] => t + 16 * s.get (rxPage i) CsiRx.LFS_CFG_WIDTH_NS

theorem lfsEdge_drives (i : Fin 8) (s : State) (at_ : Int) (tide : Nat) (r : List (Int × Nat)) (hedges : (s.csi i).edges = (at_, tide) :: r)
    (hball : s.hasBall 2 i = true) (hdrives : s.lfsDrives i = true) (hgate : s.syncGate (32 + i) = true) :
    exec (.lfsEdge i) s = .next (((s.putCsi i { s.csi i with edges := r, pulse := some (at_, pulseEnd s i at_ r) }).countWrap
      (rxPage i) CsiRx.LFS_SENT_COUNT).emit (.lfsEdge i at_)) := by
  rw [exec, execLfsEdge]
  simp only [hedges, hball, hdrives, hgate, Bool.not_true, Bool.or_self, Bool.false_eq_true, if_false]
  cases r <;> rfl

theorem lfsEdge_noBall (i : Fin 8) (s : State) (at_ : Int) (tide : Nat) (r : List (Int × Nat)) (hedges : (s.csi i).edges = (at_, tide) :: r)
    (hball : s.hasBall 2 i = false) :
    exec (.lfsEdge i) s = .next (State.lfsMissed (s.putCsi i { s.csi i with edges := r }) i tide) := by
  rw [exec, execLfsEdge]
  simp only [hedges, hball, Bool.not_false, if_true]

theorem lfsEdge_closed (i : Fin 8) (s : State) (at_ : Int) (tide : Nat) (r : List (Int × Nat)) (hedges : (s.csi i).edges = (at_, tide) :: r)
    (hball : s.hasBall 2 i = true) (hclosed : s.lfsDrives i = false ∨ s.syncGate (32 + i) = false) :
    exec (.lfsEdge i) s = .next ((s.putCsi i { s.csi i with edges := r }).pathMissed (32 + i) tide) := by
  have hstop : (!s.lfsDrives i || !s.syncGate (32 + i)) = true := by
    rw [Bool.or_eq_true, Bool.not_eq_true', Bool.not_eq_true']
    exact hclosed
  rw [exec, execLfsEdge]
  simp only [hedges, hball, Bool.not_true, Bool.false_eq_true, if_false, hstop, if_true]

theorem lfsEdge_completes (i : Fin 8) (s : State) (at_ : Int) (tide : Nat) (r : List (Int × Nat)) (hedges : (s.csi i).edges = (at_, tide) :: r) :
    Completes (.lfsEdge i) s fun t =>
      (t.csi i).edges = r ∧
      (s.hasBall 2 i = true → s.lfsDrives i = true → s.syncGate (32 + i) = true →
        t.out = .lfsEdge i at_ :: s.out ∧ t.get (rxPage i) CsiRx.LFS_SENT_COUNT =
          (s.get (rxPage i) CsiRx.LFS_SENT_COUNT + 1) % CsiRx.LFS_SENT_COUNT.size ∧
        (∀ e k l, r = (e, k) :: l → (t.csi i).pulse = some (at_, min (at_ + 16 * s.get (rxPage i) CsiRx.LFS_CFG_WIDTH_NS) (e - 320))) ∧
        (r = [] → (t.csi i).pulse = some (at_, at_ + 16 * s.get (rxPage i) CsiRx.LFS_CFG_WIDTH_NS)) ∧
        OnlyRegs s t [fieldKey (rxPage i) CsiRx.LFS_SENT_COUNT] ∧ SameFaults s t) ∧
      (s.hasBall 2 i = false → t.eventBit (rxPage i) 4 = true ∧
        t.get (rxPage i) CsiRx.LFS_STAT_MISSED = min (s.get (rxPage i) CsiRx.LFS_STAT_MISSED + 1) (CsiRx.LFS_STAT_MISSED.size - 1)) ∧
      (s.hasBall 2 i = false ∨ s.lfsDrives i = false ∨ s.syncGate (32 + i) = false →
        t.out = s.out ∧ (t.csi i).pulse = (s.csi i).pulse ∧
        ∀ d ∈ (s.syncOf (32 + i)).decisions, d.tide = tide → d.reason = 0 → t.get (inPage (32 + i)) Inlet.SYNC_STAT_LAST_REASON = 4) ∧
      SameMemory s t := by
  have hmem : ∀ {t}, exec (.lfsEdge i) s = .next t → SameMemory s t := fun ht =>
    SameMemory.of_exec ht (by rw [exec]; exact answers_lfsEdge (Quiet.refl s))
  by_cases hball : s.hasBall 2 i = true
  · by_cases hgo : s.lfsDrives i = true ∧ s.syncGate (32 + i) = true
    · have ht := lfsEdge_drives i s at_ tide r hedges hball hgo.1 hgo.2
      let u := s.putCsi i { s.csi i with edges := r, pulse := some (at_, pulseEnd s i at_ r) }
      have hcsi : ((u.countWrap (rxPage i) CsiRx.LFS_SENT_COUNT).emit (.lfsEdge i at_)).csi i =
          { s.csi i with edges := r, pulse := some (at_, pulseEnd s i at_ r) } := State.csi_putCsi ..
      refine ⟨_, ht, by rw [hcsi], fun _ _ _ => ⟨rfl, ?_, ?_, ?_, ?_, rfl, rfl⟩, fun h => absurd hball (by rw [h]; decide), ?_, hmem ht⟩
      · show (u.countWrap (rxPage i) CsiRx.LFS_SENT_COUNT).get (rxPage i) CsiRx.LFS_SENT_COUNT = _
        rw [State.get_countWrap, if_pos rfl]
        rfl
      · intro e k l hr
        rw [hcsi, hr]
        rfl
      · intro hr
        rw [hcsi, hr]
        rfl
      · exact (OnlyRegs.of_regs (s := s) (t := u) rfl _).put _ _ _ (List.mem_singleton.mpr rfl)
      · intro h
        rw [hball, hgo.1, hgo.2] at h
        simp at h
    · have hclosed : s.lfsDrives i = false ∨ s.syncGate (32 + i) = false := by
        cases hd : s.lfsDrives i <;> cases hg : s.syncGate (32 + i) <;> simp_all
      have ht := lfsEdge_closed i s at_ tide r hedges hball hclosed
      let u := s.putCsi i { s.csi i with edges := r }
      have hcsi : (u.pathMissed (32 + i) tide).csi i = { s.csi i with edges := r } :=
        (State.csi_congr (State.pathMissed_csiRx ..) _).trans (State.csi_putCsi ..)
      obtain ⟨-, hout, -⟩ := u.pathMissed_keeps (32 + i) tide (f := Hdr.EVT_STAT_EVENT) (inPage_ne_rxPage i) (syncPage_ne_rxPage i) (by decide)
      refine ⟨_, ht, by rw [hcsi], fun _ hd hg => absurd ⟨hd, hg⟩ hgo, fun h => absurd hball (by rw [h]; decide),
        fun _ => ⟨hout, by rw [hcsi], ?_⟩, hmem ht⟩
      intro d hd htide hreason
      exact State.pathMissed_reason u (32 + i) tide hd htide hreason
  · have hno : s.hasBall 2 i = false := by simpa using hball
    have ht := lfsEdge_noBall i s at_ tide r hedges hno
    let u := s.putCsi i { s.csi i with edges := r }
    obtain ⟨hcsiRx, hout, hevent, hmissed⟩ := u.lfsMissed_effect i tide
    have hcsi : (u.lfsMissed i tide).csi i = { s.csi i with edges := r } := (State.csi_congr hcsiRx _).trans (State.csi_putCsi ..)
    refine ⟨_, ht, by rw [hcsi], fun h => absurd h hball, fun _ => ⟨hevent, hmissed⟩,
      fun _ => ⟨hout, by rw [hcsi], ?_⟩, hmem ht⟩
    intro d hd htide hreason
    exact State.pathMissed_reason ((u.countSat (rxPage i) CsiRx.LFS_STAT_MISSED).event (rxPage i) 4) (32 + i) tide hd htide hreason

theorem lfsPulseEnd_completes (i : Fin 8) (s : State) :
    Completes (.lfsPulseEnd i) s fun t =>
      (t.csi i).pulse = none ∧ (t.csi i).edges = (s.csi i).edges ∧ t.regs = s.regs ∧ SameMemory s t ∧ SameFaults s t := by
  have ht : exec (.lfsPulseEnd i) s = .next (s.putCsi i { s.csi i with pulse := none }) := rfl
  exact ⟨_, ht, by rw [State.csi_putCsi], by rw [State.csi_putCsi], rfl, fun _ _ => rfl, rfl, rfl⟩

/-- A ball whose driver goes off shows on the pages of the balls alone. -/
theorem State.ballOff_keeps (s : State) (k : Nat) (hk : k < 48) {pg : Nat} (h10 : 0xA ≠ pg) (h12 : 0xC ≠ pg) :
    (s.ballOff k).csiRx = s.csiRx ∧ (∀ f : Field, f.place < 0x8000 → (s.ballOff k).get pg f = s.get pg f) ∧
    (∀ b, (s.ballOff k).condBit pg b = s.condBit pg b) := by
  have hoff : ∀ i : Fin 48, (Chip.GPIO_CFG_OFF.nth i).place < 0x8000 := by decide
  let u : State := { s with pins := { s.pins with oeCleared := clearBit s.pins.oeCleared k } }
  let v := (((u.put 0xA (Chip.GPIO_CFG_OFF.nth k) 1).countSat 0xC Chip.GPIO_MISMATCH_COUNT).event 0xC 0).judgeGpio
  have hv : v.csiRx = s.csiRx ∧ (∀ f : Field, f.place < 0x8000 → v.get pg f = s.get pg f) ∧ ∀ b, v.condBit pg b = s.condBit pg b := by
    refine ⟨State.cond_csiRx .., fun f hf => ?_, fun b => (State.condBit_cond_other _ _ (Or.inl h12)).trans rfl⟩
    refine (State.get_cond_other _ _ _ (fieldKey_page (by decide) hf h12)).trans ?_
    rw [State.get_event_other _ _ (fieldKey_page (by decide) hf h12), State.get_countSat, if_neg (fieldKey_page (by decide) hf h12)]
    exact State.get_put_other _ _ (fieldKey_page (hoff ⟨k, hk⟩) hf h10)
  show (v.again 0xC 0 (u.condBit 0xC 0)).csiRx = s.csiRx ∧ (∀ f : Field, f.place < 0x8000 → (v.again 0xC 0 (u.condBit 0xC 0)).get pg f = s.get pg f) ∧
    ∀ b, (v.again 0xC 0 (u.condBit 0xC 0)).condBit pg b = s.condBit pg b
  unfold State.again
  split
  · exact ⟨hv.1, fun f hf => (State.get_put_other _ _ (fieldKey_page (by decide) hf h12)).trans (hv.2.1 f hf), hv.2.2⟩
  · exact hv

theorem rxPage_ne {p : Nat} (hp : p < 0x100) (i : Nat) : p ≠ rxPage i := by
  show p ≠ 0x120 + i
  omega

/-- Where the driver of an output goes off its pulse is over, its fault is present, and it drives nothing more. -/
theorem State.lfsGoesOff_effect (s : State) (i : Fin 8) :
    (s.lfsGoesOff i).flag (rxPage i) CsiRx.LFS_STAT_OFF = true ∧ (s.lfsGoesOff i).condBit (rxPage i) 2 = true ∧
    ((s.lfsGoesOff i).csi i).pulse = none := by
  let u := ((s.putCsi i { s.csi i with pulse := none, lfsCleared := false }).put (rxPage i) CsiRx.LFS_STAT_OFF 1).raise (rxPage i) 2
  have hflag : u.get (rxPage i) CsiRx.LFS_STAT_OFF = 1 :=
    (State.get_raise_other _ _ (by simp +decide)).trans (State.get_put_same ..)
  have hcond : u.condBit (rxPage i) 2 = true := State.condBit_raise ..
  have hcsi : u.csiRx = (s.putCsi i { s.csi i with pulse := none, lfsCleared := false }).csiRx := State.raise_csiRx ..
  have hall : ∀ (l : List Nat), (∀ k ∈ l, k < 48) → ∀ v : State,
      (l.foldl (fun (s : State) k => s.ballOff k) v).csiRx = v.csiRx ∧
      (l.foldl (fun (s : State) k => s.ballOff k) v).get (rxPage i) CsiRx.LFS_STAT_OFF = v.get (rxPage i) CsiRx.LFS_STAT_OFF ∧
      (l.foldl (fun (s : State) k => s.ballOff k) v).condBit (rxPage i) 2 = v.condBit (rxPage i) 2 := by
    intro l
    induction l with
    | nil => exact fun _ _ => ⟨rfl, rfl, rfl⟩
    | cons k l ih =>
      intro hl v
      obtain ⟨h1, h2, h3⟩ := v.ballOff_keeps k (hl k List.mem_cons_self) (rxPage_ne (by decide) i) (rxPage_ne (by decide) i)
      obtain ⟨g1, g2, g3⟩ := ih (fun k hk => hl k (List.mem_cons_of_mem _ hk)) (v.ballOff k)
      exact ⟨g1.trans h1, g2.trans (h2 _ (by decide)), g3.trans (h3 2)⟩
  have hpulse : ∀ v : State, v.csiRx = u.csiRx → (v.csi i).pulse = none := by
    intro v hv
    rw [State.csi_congr (hv.trans hcsi), State.csi_putCsi]
  have heq : s.lfsGoesOff i = if u.flag (rxPage i) CsiRx.LFS_CFG_OD then u else (u.ballsOf 2 i).foldl (fun (s : State) k => s.ballOff k) u := rfl
  rw [heq]
  split
  · exact ⟨bne_iff_ne.mpr (by rw [hflag]; decide), hcond, hpulse _ rfl⟩
  · have hlt : ∀ k ∈ u.ballsOf 2 i, k < 48 := fun k hk => List.mem_range.mp (List.mem_filter.mp hk).1
    obtain ⟨h1, h2, h3⟩ := hall _ hlt u
    exact ⟨bne_iff_ne.mpr (by rw [h2, hflag]; decide), h3.trans hcond, hpulse _ h1⟩

theorem lfsReadback_completes (i : Fin 8) (level : Bool) (s : State) (hdrives : s.lfsDrives i = true) (hball : s.hasBall 2 i = true) :
    Completes (.lfsReadback i level) s fun t =>
      (s.lfsLevel i = level ∨ (s.flag (rxPage i) CsiRx.LFS_CFG_OD = true ∧ level = true) → t = s) ∧
      (s.lfsLevel i ≠ level → s.flag (rxPage i) CsiRx.LFS_CFG_OD = false ∨ level = false →
        t.flag (rxPage i) CsiRx.LFS_STAT_OFF = true ∧ t.condBit (rxPage i) 2 = true ∧ t.lfsDrives i = false ∧ (t.csi i).pulse = none) ∧
      SameMemory s t := by
  by_cases hsame : s.lfsLevel i = level ∨ (s.flag (rxPage i) CsiRx.LFS_CFG_OD = true ∧ level = true)
  · have ht : exec (.lfsReadback i level) s = .next s := by
      rw [exec, execLfsReadback]
      simp only [hdrives, hball, Bool.true_and]
      rcases hsame with h | ⟨hod, hlevel⟩
      · cases hod : s.flag (rxPage i) CsiRx.LFS_CFG_OD <;> simp [h]
      · simp [hod, hlevel]
    refine ⟨_, ht, fun _ => rfl, fun hne h => ?_, fun _ _ => rfl⟩
    rcases hsame with hs | ⟨hod, hlevel⟩
    · exact absurd hs hne
    · rw [hod, hlevel] at h
      simp at h
  · have ht : exec (.lfsReadback i level) s = .next (s.lfsGoesOff i) := by
      rw [not_or] at hsame
      obtain ⟨hne, hod⟩ := hsame
      rw [exec, execLfsReadback]
      simp only [hdrives, hball, Bool.true_and]
      cases hf : s.flag (rxPage i) CsiRx.LFS_CFG_OD
      · simp [hne]
      · cases hv : level
        · cases hl : s.lfsLevel i
          · exact absurd (hl.trans hv.symm) hne
          · simp
        · exact absurd ⟨hf, hv⟩ hod
    obtain ⟨hoff, hcond, hpulse⟩ := s.lfsGoesOff_effect i
    refine ⟨_, ht, fun h => absurd h hsame, fun _ _ => ⟨hoff, hcond, ?_, hpulse⟩,
      SameMemory.of_exec ht (by rw [exec]; exact answers_lfsReadback (Quiet.refl s))⟩
    rw [State.lfsDrives, hoff, Bool.not_true, Bool.and_false, Bool.false_and]

theorem trigEdge_completes (n : Fin 8) (falling : Bool) (back : Nat) (s : State) (hen : s.flag (rxPage n) CsiRx.TRIG_CFG_EN = true)
    (hball : s.hasBall 3 n = true)
    (hedge : s.get (rxPage n) CsiRx.TRIG_CFG_EDGE = 2 ∨ s.get (rxPage n) CsiRx.TRIG_CFG_EDGE = bit falling) :
    Completes (.trigEdge n falling back) s fun t =>
      ((s.csi n).triggers.length < 16 →
        (t.csi n).triggers = (s.csi n).triggers ++ [(s.activeTime ((s.time.c - back) * 2 ^ 32) / 2 ^ 32, falling)] ∧
        t.get (rxPage n) CsiRx.TRIG_STAT_COUNT = (s.csi n).triggers.length + 1 ∧
        ((s.csi n).triggers = [] → t.eventBit (rxPage n) 5 = true)) ∧
      (16 ≤ (s.csi n).triggers.length → t.flag (rxPage n) CsiRx.TRIG_STAT_OVERFLOW = true ∧ t.csiRx = s.csiRx ∧
        t.eventBit (rxPage n) 6 = true) ∧ SameMemory s t ∧ SameFaults s t := by
  have htaken : (!s.flag (rxPage n) CsiRx.TRIG_CFG_EN || !s.hasBall 3 n ||
      (s.get (rxPage n) CsiRx.TRIG_CFG_EDGE != 2 && (s.get (rxPage n) CsiRx.TRIG_CFG_EDGE == 1) != falling)) = false := by
    rw [hen, hball]
    rcases hedge with h | h
    · simp [h]
    · cases falling <;> simp [h, bit]
  have hmem : ∀ {t}, exec (.trigEdge n falling back) s = .next t → SameMemory s t := fun ht =>
    SameMemory.of_exec ht (by rw [exec]; exact answers_trigEdge (Quiet.refl s))
  by_cases hfull : 16 ≤ (s.csi n).triggers.length
  · have ht : exec (.trigEdge n falling back) s = .next ((s.put (rxPage n) CsiRx.TRIG_STAT_OVERFLOW 1).event (rxPage n) 6) := by
      rw [exec, execTrigEdge]
      simp only [htaken, Bool.false_eq_true, if_false, if_pos hfull]
    refine ⟨_, ht, fun h => absurd h (by omega), fun _ => ⟨?_, rfl, State.eventBit_event _ _ (by decide)⟩, hmem ht, rfl, rfl⟩
    rw [State.flag_event_other _ _ (by simp +decide), State.flag_put_one]
  · have ht : exec (.trigEdge n falling back) s = .next (((s.putCsi n { s.csi n with triggers :=
        (s.csi n).triggers ++ [(s.activeTime ((s.time.c - back) * 2 ^ 32) / 2 ^ 32, falling)] }).put (rxPage n) CsiRx.TRIG_STAT_COUNT
        ((s.csi n).triggers.length + 1)).eventIf (s.csi n).triggers.isEmpty (rxPage n) 5) := by
      rw [exec, execTrigEdge]
      simp only [htaken, Bool.false_eq_true, if_false, if_neg hfull]
    refine ⟨_, ht, fun hlt => ⟨?_, ?_, fun hnil => ?_⟩, fun h => absurd h hfull, hmem ht, SameFaults.eventIf ⟨rfl, rfl⟩⟩
    · rw [State.csi_congr (State.eventIf_csiRx ..)]
      exact congrArg CsiRxSt.triggers (State.csi_putCsi ..)
    · rw [State.get_eventIf_other _ _ _ (by simp +decide), State.get_put_same]
      exact Nat.mod_eq_of_lt (show _ < 32 by omega)
    · rw [hnil]
      exact State.eventBit_event _ _ (by decide)

theorem trigPop_completes (req : Requester) (n : Fin 8) (s : State) (hs : s.servesRead req (regOff (rxPage n) CsiRx.TRIG_TIME_LO_TIME) = true)
    (hlen : (s.csi n).triggers.length ≤ 16) :
    Completes (.trigPop req n) s fun t =>
      (∀ at_ falling r, (s.csi n).triggers = (at_, falling) :: r →
        t.out = .readData req (regOff (rxPage n) CsiRx.TRIG_TIME_LO_TIME) [at_ % 2 ^ 32] :: s.out ∧ (t.csi n).triggers = r) ∧
      ((s.csi n).triggers = [] →
        t.out = .readData req (regOff (rxPage n) CsiRx.TRIG_TIME_LO_TIME) [0] :: s.out ∧ (t.csi n).triggers = []) ∧
      t.get (rxPage n) CsiRx.TRIG_STAT_COUNT = (s.csi n).triggers.length - 1 ∧
      OnlyRegs s t [fieldKey (rxPage n) CsiRx.TRIG_STAT_COUNT] ∧ SameMemory s t ∧ SameFaults s t := by
  let off := regOff (rxPage n) CsiRx.TRIG_TIME_LO_TIME
  let u := (s.putCsi n { s.csi n with triggers := (s.csi n).triggers.tail }).put (rxPage n) CsiRx.TRIG_STAT_COUNT ((s.csi n).triggers.length - 1)
  have hwords : ∃ a b, (s.popTrigger n).1 = [a, b] ∧ (∀ at_ falling r, (s.csi n).triggers = (at_, falling) :: r → a = at_ % 2 ^ 32) ∧
      ((s.csi n).triggers = [] → a = 0) := by
    cases htr : (s.csi n).triggers with
    | nil => exact ⟨0, 0, by simp only [State.popTrigger, htr, List.head?_nil], fun _ _ _ h => (nomatch h), fun _ => rfl⟩
    | cons e r =>
      exact ⟨_, _, by simp only [State.popTrigger, htr, List.head?_cons]; rfl, fun _ _ _ h => by injection h with h; rw [h], fun h => (nomatch h)⟩
  obtain ⟨a, b, hwords, hcons, hnil⟩ := hwords
  have ht : exec (.trigPop req n) s = .next ((u.holdCapture req off [a, b]).emit (.readData req off [a])) := by
    rw [exec, execTrigPop, State.onPop_served hs, hwords]
    rfl
  have hcsi : ((u.holdCapture req off [a, b]).emit (.readData req off [a])).csi n = { s.csi n with triggers := (s.csi n).triggers.tail } :=
    (State.csi_congr (State.holdCapture_csiRx u req off [a, b]) n).trans (State.csi_putCsi ..)
  have hout : ((u.holdCapture req off [a, b]).emit (.readData req off [a])).out = .readData req off [a] :: s.out :=
    congrArg (_ :: ·) (State.holdCapture_out u req off [a, b])
  have hregs : ((u.holdCapture req off [a, b]).emit (.readData req off [a])).regs = u.regs := State.holdCapture_regs u req off [a, b]
  refine ⟨_, ht, fun at_ falling r h => ⟨?_, ?_⟩, fun h => ⟨?_, ?_⟩, ?_, ?_,
    SameMemory.of_exec ht (by rw [exec]; exact answers_trigPop (Quiet.refl s)), ?_⟩
  · rw [hout, hcons _ _ _ h]
  · rw [hcsi, h]
    rfl
  · rw [hout, hnil h]
  · rw [hcsi, h]
    rfl
  · rw [State.get_of_regs hregs, State.get_put_same]
    exact Nat.mod_eq_of_lt (show _ < 32 by omega)
  · exact ((OnlyRegs.of_regs (s := s) (t := s.putCsi n _) rfl _).put _ _ _ (List.mem_singleton.mpr rfl)).trans (OnlyRegs.of_regs hregs _)
  · exact ⟨State.holdCapture_flt u req off [a, b], State.holdCapture_due u req off [a, b]⟩

/-- Settles O30: an output's edge is driven and counted, missed without a ball, and turned into PATH_MISSED where nothing goes out. -/
theorem frameSyncEdgesAndTriggers : Obligations.FrameSyncEdgesAndTriggers :=
  ⟨fun i s at_ tide r => lfsEdge_completes i s at_ tide r, lfsPulseEnd_completes, fun i level s => lfsReadback_completes i level s,
    fun n falling back s => trigEdge_completes n falling back s, fun req n s => trigPop_completes req n s⟩

end Sys2Proof.Machine
end

section
/-!
PROOFS. A CSI-2 transmit slot (R154 to R159): frame start, lines on the wire, late and held lines, and the next packet.
-/
namespace Sys2Proof.Machine

/-! ## The state of a port -/

theorem State.tx_putTx (s : State) (m : Nat) (x : CsiTxSt) : (s.putTx m x).tx m = x := by simp [State.tx, State.putTx]
theorem State.tx_congr {s t : State} (h : t.csiTx = s.csiTx) (m : Nat) : t.tx m = s.tx m := by rw [State.tx, h, State.tx]
theorem State.txSlot_congr {s t : State} {m : Nat} (h : (t.tx m).slots = (s.tx m).slots) (k : Nat) : t.txSlot m k = s.txSlot m k := by
  rw [State.txSlot, h, State.txSlot]
theorem State.txSlot_putTxSlot (s : State) (m k : Nat) (x : TxSlot) : (s.putTxSlot m k x).txSlot m k = x := by
  rw [State.txSlot, State.putTxSlot, State.tx_putTx]
  exact SMap.get_set_same ..
theorem State.wire_putTxSlot (s : State) (m k : Nat) (x : TxSlot) : ((s.putTxSlot m k x).tx m).wire = (s.tx m).wire := by
  rw [State.putTxSlot, State.tx_putTx]

/-- The settings of a transmit port's slots stand in place: only its status, below them, may have changed. -/
def SameTxSettings (s t : State) (m : Nat) : Prop :=
  ∀ q, 0x400 ≤ q → SMap.get resetField t.regs (txPage m * 0x8000 + q) = SMap.get resetField s.regs (txPage m * 0x8000 + q)

theorem SameTxSettings.of_regs {s t : State} (h : t.regs = s.regs) (m : Nat) : SameTxSettings s t m := fun _ _ => by rw [h]

theorem SameTxSettings.trans {s t u : State} {m : Nat} (h : SameTxSettings s t m) (h' : SameTxSettings t u m) : SameTxSettings s u m :=
  fun q hq => (h' q hq).trans (h q hq)

theorem SameTxSettings.put {s t : State} {m : Nat} (h : SameTxSettings s t m) (f : Field) (v : Nat) (hf : f.place < 0x400) :
    SameTxSettings s (t.put (txPage m) f v) m := by
  intro q hq
  have hne : fieldKey (txPage m) f ≠ txPage m * 0x8000 + q := by
    rw [fieldKey]
    rw [Field.place] at hf
    omega
  rw [State.put, SMap.get_set_other _ _ _ hne]
  exact h q hq

theorem SameTxSettings.event {s t : State} {m : Nat} (h : SameTxSettings s t m) (b : Nat) : SameTxSettings s (t.event (txPage m) b) m :=
  h.put _ _ (by decide)

theorem SameTxSettings.eventIf {s t : State} {m : Nat} (h : SameTxSettings s t m) (c : Bool) (b : Nat) :
    SameTxSettings s (t.eventIf c (txPage m) b) m := by
  cases c
  · exact h
  · exact h.event b

theorem SameTxSettings.cond {s t : State} {m : Nat} (h : SameTxSettings s t m) (b : Nat) (p : Bool) :
    SameTxSettings s (t.cond (txPage m) b p) m := by
  cases p
  · simp only [State.cond, State.lower, Bool.false_eq_true, if_false]
    split
    · split
      · exact h.put _ _ (by decide)
      · exact h
    · exact h
  · simp only [State.cond, State.raise, if_true]
    split
    · exact h
    · exact h.put _ _ (by decide)

theorem SameTxSettings.again {s t : State} {m : Nat} (h : SameTxSettings s t m) (b : Nat) (was : Bool) :
    SameTxSettings s (t.again (txPage m) b was) m := by
  unfold State.again
  split
  · exact h.put _ _ (by decide)
  · exact h

theorem SameTxSettings.get {s t : State} {m : Nat} (h : SameTxSettings s t m) {f : Field} (hf : 0x400 ≤ f.place) :
    t.get (txPage m) f = s.get (txPage m) f := by
  have hkey : fieldKey (txPage m) f = txPage m * 0x8000 + f.place := by rw [fieldKey, Field.place, Nat.add_assoc]
  rw [State.get, State.get, hkey]
  exact h _ hf

theorem SameTxSettings.live {s t : State} {m : Nat} (h : SameTxSettings s t m) (f : Field) : t.live (txPage m) f = s.live (txPage m) f := by
  have hkey : liveKey (txPage m) f = txPage m * 0x8000 + (f.place + 0x4000) := by rw [liveKey, fieldKey, Field.place]; omega
  rw [State.live, State.live, hkey]
  exact h _ (by omega)

/-- What a frame's packets are made from follows the slot's binding, its latches and its settings. -/
theorem State.txFields_congr {s t : State} {m : Nat} {k : Nat} (h : SameTxSettings s t m) (hb : (t.txSlot m k).bound = (s.txSlot m k).bound)
    (hl : (t.txSlot m k).latches = (s.txSlot m k).latches) (key : Nat) : t.txFields m k key = s.txFields m k key := by
  have hdt : 0x400 ≤ (CsiTx.TX_OUT_CFG_DT.nth k).place := by
    show 0x400 ≤ (0x80 + _) * 8 + _
    omega
  have hnow : t.txNow m k = s.txNow m k := by
    unfold State.txNow
    simp only [h.live, h.get hdt, hb]
  unfold State.txFields
  rw [hl, hnow]

/-! ## Packets on the wire (R154, R157) -/

/-- A packet on an idle wire starts there; behind another one it waits. -/
theorem State.txReady_idle (s : State) (m : Nat) (p : TxPacket) (hwire : (s.tx m).wire = []) (hp : p.bytes ≠ []) :
    s.txReady m p = (s.putTx m { s.tx m with wire := [p] }).emit (.csiPacket m p.bytes) := by
  have hne : p.bytes.isEmpty = false := by simpa using hp
  simp only [State.txReady, State.txStart, hwire, List.isEmpty_nil, if_true, List.nil_append, hne, Bool.false_eq_true, if_false]

theorem State.txReady_busy (s : State) (m : Nat) (p : TxPacket) (hwire : (s.tx m).wire ≠ []) :
    s.txReady m p = s.putTx m { s.tx m with wire := (s.tx m).wire ++ [p] } := by
  have hne : (s.tx m).wire.isEmpty = false := by simpa using hwire
  simp only [State.txReady, hne, Bool.false_eq_true, if_false]

/-- A packet with bytes joins the wire and changes nothing else of the port; on an idle wire it starts. -/
theorem State.txReady_effect (s : State) (m : Nat) (p : TxPacket) (hp : p.bytes ≠ []) :
    (∀ k, (s.txReady m p).txSlot m k = s.txSlot m k) ∧ ((s.txReady m p).tx m).wire = (s.tx m).wire ++ [p] ∧
    (s.txReady m p).out = (if (s.tx m).wire = [] then .csiPacket m p.bytes :: s.out else s.out) ∧
    (s.txReady m p).regs = s.regs ∧ SameFaults s (s.txReady m p) := by
  by_cases hwire : (s.tx m).wire = []
  · rw [State.txReady_idle s m p hwire hp, if_pos hwire]
    have htx : ((s.putTx m { s.tx m with wire := [p] }).emit (.csiPacket m p.bytes)).tx m = { s.tx m with wire := [p] } := State.tx_putTx ..
    exact ⟨fun k => State.txSlot_congr (by rw [htx]) k, by rw [htx, hwire]; rfl, rfl, rfl, rfl, rfl⟩
  · rw [State.txReady_busy s m p hwire, if_neg hwire]
    have htx : (s.putTx m { s.tx m with wire := (s.tx m).wire ++ [p] }).tx m = { s.tx m with wire := (s.tx m).wire ++ [p] } := State.tx_putTx ..
    exact ⟨fun k => State.txSlot_congr (by rw [htx]) k, by rw [htx], rfl, rfl, rfl, rfl⟩

theorem txHeader_ne_nil (vc dt wc : Nat) : txHeader vc dt wc ≠ [] := by simp [txHeader]
theorem txLong_ne_nil (vc dt : Nat) (b : List Byte) : txLong vc dt b ≠ [] := by simp [txLong, txHeader]

/-- The long packet of a line of a frame. -/
def txLinePacket (s : State) (m k key : Nat) (b : List Byte) (copy : Bool) : TxPacket :=
  { bytes := txLong ((s.txFields m k key).getD 2 0) ((s.txFields m k key).getD 4 0) b, slot := k, hold := if copy then some (key / 2 ^ 32, b) else none }

theorem State.txLine_eq (s : State) (m k key i : Nat) (b : List Byte) (copy : Bool) (hlsle : (s.txFields m k key).getD 1 0 = 0) :
    s.txLine m k key i b copy = s.txReady m (txLinePacket s m k key b copy) := by
  simp only [State.txLine, hlsle, if_true]
  rfl

/-! ## Sending what is due of a frame (R157) -/

theorem State.txFrame_single {s : State} {m k key : Nat} {f : TxFrame} (hframes : (s.txSlot m k).frames = [f]) (hkey : f.key = key) :
    s.txFrame m k key = some f := by
  rw [State.txFrame, hframes]
  simp [hkey]

/-- A line-paced frame none of whose slots finds its line, its record not due, waits. -/
theorem State.txDrain_waits (s : State) (m k key fuel : Nat) {f : TxFrame} (hframe : s.txFrame m k key = some f)
    (hpaced : (s.txFields m k key).getD 0 0 = 1)
    (hslots : f.slots = [] ∨ ∃ i, f.slots = [.line i] ∧ f.lines.find? (fun l => l.1 == i) = none) : s.txDrain m k key fuel = s := by
  cases fuel with
  | zero => rfl
  | succ fuel =>
    rcases hslots with h | ⟨i, h, hnone⟩
    · simp only [State.txDrain, hframe, hpaced, decide_true, Bool.not_true, Bool.false_and, Bool.false_eq_true, if_false, if_true, h,
        List.findSome?_nil, List.contains_nil, Bool.false_or, Bool.and_false]
    · simp only [State.txDrain, hframe, hpaced, decide_true, Bool.not_true, Bool.false_and, Bool.false_eq_true, if_false, if_true, h,
        List.findSome?_cons, List.findSome?_nil, hnone, List.contains_cons, List.contains_nil]
      simp

/-- A frame in burst mode that has started and holds nothing more waits. -/
theorem State.txDrain_empty (s : State) (m k key fuel : Nat) {f : TxFrame} (hframe : s.txFrame m k key = some f)
    (hpaced : (s.txFields m k key).getD 0 0 ≠ 1) (hstarted : f.started = true) (hlines : f.lines = []) (hrecord : f.record = none) :
    s.txDrain m k key fuel = s := by
  cases fuel with
  | zero => rfl
  | succ fuel =>
    simp only [State.txDrain, hframe, if_neg hpaced, hstarted, hlines, hrecord, Bool.not_true, Bool.and_false, Bool.false_and, Bool.false_eq_true,
      if_false, List.head?_nil, Option.isSome_none]

/-- A line that is sent ends a run of held ones. -/
theorem State.txSendLine_effect (s : State) (m k key i : Nat) (b : List Byte) (hlsle : (s.txFields m k key).getD 1 0 = 0) :
    (s.txSendLine m k key i b).txSlot m k = { s.txSlot m k with heldRun := 0 } ∧
    ((s.txSendLine m k key i b).tx m).wire = (s.tx m).wire ++ [txLinePacket s m k key b true] ∧
    (s.txSendLine m k key i b).out = (if (s.tx m).wire = [] then .csiPacket m (txLinePacket s m k key b true).bytes :: s.out else s.out) ∧
    SameTxSettings s (s.txSendLine m k key i b) m ∧ SameFaults s (s.txSendLine m k key i b) ∧
    (s.txSendLine m k key i b).get (txPage m) CsiTx.TX_LATE_CUT_LATE = s.get (txPage m) CsiTx.TX_LATE_CUT_LATE ∧
    (s.txSendLine m k key i b).get (txPage m) CsiTx.TX_STAT_ACTIVE = s.get (txPage m) CsiTx.TX_STAT_ACTIVE := by
  let u := s.eventIf ((s.txSlot m k).heldRun != 0) (txPage m) 1
  have hutx : u.tx m = s.tx m := State.tx_congr (State.eventIf_csiTx ..) m
  have huslot : u.txSlot m k = s.txSlot m k := State.txSlot_congr (by rw [hutx]) k
  let v := u.putTxSlot m k { u.txSlot m k with heldRun := 0 }
  have hvslot : v.txSlot m k = { s.txSlot m k with heldRun := 0 } := (State.txSlot_putTxSlot ..).trans (by rw [huslot])
  have hvwire : (v.tx m).wire = (s.tx m).wire := (State.wire_putTxSlot ..).trans (by rw [hutx])
  have hvset : SameTxSettings s v m := (SameTxSettings.of_regs rfl m).eventIf _ 1
  have hfields : v.txFields m k key = s.txFields m k key := State.txFields_congr hvset (by rw [hvslot]) (by rw [hvslot]) key
  have hpacket : txLinePacket v m k key b true = txLinePacket s m k key b true := by rw [txLinePacket, hfields, txLinePacket]
  have hvout : v.out = s.out := State.eventIf_out ..
  have hvfaults : SameFaults s v := SameFaults.eventIf ⟨rfl, rfl⟩
  have hget : ∀ f : Field, f.place ≠ Hdr.EVT_STAT_EVENT.place → v.get (txPage m) f = s.get (txPage m) f := fun f hf =>
    State.get_eventIf_other _ _ _ (fieldKey_ne (l := [Hdr.EVT_STAT_EVENT.place]) (by decide) (by simpa using hf))
  have heq : s.txSendLine m k key i b = v.txReady m (txLinePacket s m k key b true) := by
    rw [← hpacket]
    exact State.txLine_eq v m k key i b true (by rw [hfields]; exact hlsle)
  obtain ⟨hslot, hwire, hout, hregs, hfaults⟩ := v.txReady_effect m (txLinePacket s m k key b true) (txLong_ne_nil _ _ b)
  rw [heq]
  exact ⟨(hslot k).trans hvslot, by rw [hwire, hvwire], by rw [hout, hvwire, hvout], hvset.trans (SameTxSettings.of_regs hregs m),
    hvfaults.trans hfaults, (State.get_of_regs hregs _ _).trans (hget _ (by decide)), (State.get_of_regs hregs _ _).trans (hget _ (by decide))⟩

/-- A slot's bit of a field of four. -/
theorem hasBit_setBit_four (a : Nat) (k : Fin 4) : hasBit (setBit a k % 2 ^ 4) k = true := by
  have hset : hasBit (setBit a k) k = true := by simp
  rw [hasBit] at hset ⊢
  rw [Nat.testBit_mod_two_pow, hset]
  simp

/-- The frames of a slot once the frame `key` has started. -/
def startedFrames (frames : List TxFrame) (key : Nat) : List TxFrame :=
  (if frames.any (fun f => f.key == key) then frames else frames ++ [({ key := key } : TxFrame)]).map fun f => if f.key = key then { f with started := true } else f

/-- Where no other frame of the slot runs, frame start goes out on an idle wire. -/
theorem State.txFrameStart_effect (s : State) (m : Nat) (k : Fin 4) (key : Nat)
    (hothers : (s.txSlot m k).frames.filter (fun f => f.key != key && f.started) = []) (hwire : (s.tx m).wire = []) :
    (s.txFrameStart m k key).txSlot m k = { s.txSlot m k with frames := startedFrames (s.txSlot m k).frames key } ∧
    ((s.txFrameStart m k key).tx m).wire =
      [{ bytes := txHeader ((s.txFields m k key).getD 2 0) 0 (key % 2 ^ 32 % 65535 + 1), slot := k }] ∧
    (s.txFrameStart m k key).out = .csiPacket m (txHeader ((s.txFields m k key).getD 2 0) 0 (key % 2 ^ 32 % 65535 + 1)) :: s.out ∧
    SameTxSettings s (s.txFrameStart m k key) m ∧ SameFaults s (s.txFrameStart m k key) ∧
    hasBit ((s.txFrameStart m k key).get (txPage m) CsiTx.TX_STAT_ACTIVE) k = true := by
  let u := s.putTxSlot m k { s.txSlot m k with frames := startedFrames (s.txSlot m k).frames key }
  let v := (u.txMark m k CsiTx.TX_STAT_ACTIVE true).txMark m k CsiTx.TX_STAT_HOLDING false
  have huslot : u.txSlot m k = { s.txSlot m k with frames := startedFrames (s.txSlot m k).frames key } := State.txSlot_putTxSlot ..
  have hvset : SameTxSettings s v m := ((SameTxSettings.of_regs (t := u) rfl m).put _ _ (by decide)).put _ _ (by decide)
  have hvslot : v.txSlot m k = { s.txSlot m k with frames := startedFrames (s.txSlot m k).frames key } := huslot
  have hvwire : (v.tx m).wire = [] := (State.wire_putTxSlot ..).trans hwire
  have hfields : v.txFields m k key = s.txFields m k key := State.txFields_congr hvset (by rw [hvslot]) (by rw [hvslot]) key
  have hactive : hasBit (v.get (txPage m) CsiTx.TX_STAT_ACTIVE) k = true := by
    rw [show v.get (txPage m) CsiTx.TX_STAT_ACTIVE = _ from State.get_put_other _ _ (by simp +decide)]
    rw [show (u.txMark m k CsiTx.TX_STAT_ACTIVE true).get (txPage m) CsiTx.TX_STAT_ACTIVE = _ from State.get_put_same ..]
    exact hasBit_setBit_four _ k
  have heq : s.txFrameStart m k key = v.txReady m
      { bytes := txHeader ((s.txFields m k key).getD 2 0) 0 (key % 2 ^ 32 % 65535 + 1), slot := k } := by
    rw [← hfields]
    have hcut : s.txCutOthers m k key = s := by rw [State.txCutOthers, hothers, List.foldl_nil]
    unfold State.txFrameStart
    rw [hcut]
    rfl
  obtain ⟨hslot, hw, hout, hregs, hfaults⟩ := v.txReady_effect m
    { bytes := txHeader ((s.txFields m k key).getD 2 0) 0 (key % 2 ^ 32 % 65535 + 1), slot := k } (txHeader_ne_nil _ _ _)
  rw [heq]
  exact ⟨(hslot k).trans hvslot, by rw [hw, hvwire]; rfl, by rw [hout, if_pos hvwire]; rfl, hvset.trans (SameTxSettings.of_regs hregs m),
    hfaults, by rw [State.get_of_regs hregs]; exact hactive⟩

/-- A frame in burst mode whose line 0 is there starts. -/
theorem State.txDrain_starts (s : State) (m k key fuel : Nat) {f : TxFrame} (hframe : s.txFrame m k key = some f)
    (hpaced : (s.txFields m k key).getD 0 0 ≠ 1) (hstarted : f.started = false) (hline : f.lines.any (fun l => l.1 == 0) = true) :
    s.txDrain m k key (fuel + 1) = (s.txFrameStart m k key).txDrain m k key fuel := by
  simp only [State.txDrain, hframe, if_neg hpaced, hstarted, hline, decide_eq_false hpaced, Bool.not_false, Bool.and_true, if_true]

/-- A frame in burst mode that runs sends its next line. -/
theorem State.txDrain_sends (s : State) (m k key fuel : Nat) {f : TxFrame} {i : Nat} {b : List Byte} {r : List (Nat × List Byte)}
    (hframe : s.txFrame m k key = some f) (hpaced : (s.txFields m k key).getD 0 0 ≠ 1) (hstarted : f.started = true) (hlines : f.lines = (i, b) :: r) :
    s.txDrain m k key (fuel + 1) =
      ((s.putTxFrame m k { f with lines := f.lines.filter (fun l => l.1 != i), slots := f.slots.filter (· != .line i) }).txSendLine m k key i b).txDrain
        m k key fuel := by
  rw [State.txDrain]
  simp only [hframe, if_neg hpaced, hstarted, decide_eq_false hpaced, Bool.not_false, Bool.not_true, Bool.and_false, Bool.false_and,
    Bool.false_eq_true, if_false, hlines, List.head?_cons, Bool.true_or, Bool.and_true, if_true]

/-- A line-paced frame sends a line whose slot has come. -/
theorem State.txDrain_pacedSends (s : State) (m k key fuel : Nat) {f : TxFrame} {i j : Nat} {b : List Byte} (hframe : s.txFrame m k key = some f)
    (hpaced : (s.txFields m k key).getD 0 0 = 1) (hstarted : f.started = true) (hslots : f.slots = [.line i])
    (hline : f.lines.find? (fun l => l.1 == i) = some (j, b)) :
    s.txDrain m k key (fuel + 1) =
      ((s.putTxFrame m k { f with lines := f.lines.filter (fun l => l.1 != i), slots := [] }).txSendLine m k key i b).txDrain m k key fuel := by
  have hj : j = i := by simpa using List.find?_some hline
  subst hj
  rw [State.txDrain]
  simp only [hframe, hpaced, hstarted, decide_true, Bool.not_true, Bool.false_and, Bool.false_eq_true, if_false, if_true, hslots, List.findSome?_cons,
    hline, Bool.false_or, Bool.true_and]
  simp

/-- Storing the one frame of a slot. -/
theorem State.putTxFrame_effect (s : State) (m k : Nat) {f g : TxFrame} (hframes : (s.txSlot m k).frames = [g]) (hkey : g.key = f.key) :
    (s.putTxFrame m k f).txSlot m k = { s.txSlot m k with frames := [f] } ∧ ((s.putTxFrame m k f).tx m).wire = (s.tx m).wire := by
  refine ⟨(State.txSlot_putTxSlot ..).trans ?_, State.wire_putTxSlot ..⟩
  rw [hframes, List.map_singleton, if_pos hkey]

/-! ## Line slots (R157) -/

theorem State.putTxFrame_keeps (s : State) (m k : Nat) (f : TxFrame) :
    (s.putTxFrame m k f).regs = s.regs ∧ (s.putTxFrame m k f).out = s.out ∧ SameFaults s (s.putTxFrame m k f) := ⟨rfl, rfl, rfl, rfl⟩

theorem txLineSlot_frameStart (m : Fin 2) (k : Fin 4) (seq key : Nat) (s : State) (hkey : key = s.txKey m k seq) (hen : s.txEnabled m = true)
    (hcarries : s.txCarries m k key = true) (hpaced : (s.txFields m k key).getD 0 0 = 1) (hended : (s.txSlot m k).ended.contains key = false)
    (hframes : (s.txSlot m k).frames = []) (hwire : (s.tx m).wire = []) :
    Completes (.txLineSlot m k seq .frameStart) s fun t =>
      t.out = .csiPacket m (txHeader ((s.txFields m k key).getD 2 0) 0 (key % 2 ^ 32 % 65535 + 1)) :: s.out ∧
      (t.txSlot m k).frames = [{ key, started := true }] ∧ hasBit (t.get (txPage m) CsiTx.TX_STAT_ACTIVE) k = true ∧ SameMemory s t ∧
      SameFaults s t := by
  subst hkey
  obtain ⟨hslot, -, hout, hset, hfaults, hactive⟩ := s.txFrameStart_effect m k (s.txKey m k seq) (by rw [hframes]; rfl) hwire
  have hslotFrames : ((s.txFrameStart m k (s.txKey m k seq)).txSlot m k).frames = [{ key := s.txKey m k seq, started := true }] := by
    rw [hslot, hframes]
    simp [startedFrames]
  have hfields := State.txFields_congr hset (k := k) (by rw [hslot]) (by rw [hslot]) (s.txKey m k seq)
  have hdrain : (s.txFrameStart m k (s.txKey m k seq)).txSettle m k (s.txKey m k seq) = s.txFrameStart m k (s.txKey m k seq) :=
    State.txDrain_waits _ _ _ _ _ (State.txFrame_single hslotFrames rfl) (by rw [hfields]; exact hpaced) (Or.inl rfl)
  have ht : exec (.txLineSlot m k seq .frameStart) s = .next (s.txFrameStart m k (s.txKey m k seq)) := by
    have hnone : s.txFrame m k (s.txKey m k seq) = none := by rw [State.txFrame, hframes]; rfl
    rw [exec, execTxLineSlot]
    simp only [hen, hcarries, hpaced, hended, hnone, hdrain, Bool.not_true, Bool.false_or, bne_self_eq_false, Bool.false_eq_true, if_false,
      Option.any_none]
  exact ⟨_, ht, hout, hslotFrames, hactive, SameMemory.of_exec ht (by rw [exec]; exact answers_txLineSlot (Quiet.refl s)), hfaults⟩

/-- A late line counts (R157). -/
def State.countLate (s : State) (m : Nat) (late : Bool) : State := if late then s.countSat (txPage m) CsiTx.TX_LATE_CUT_LATE else s

theorem State.countLate_effect (s : State) (m : Nat) (late : Bool) :
    (s.countLate m late).csiTx = s.csiTx ∧ SameTxSettings s (s.countLate m late) m ∧ (s.countLate m late).out = s.out ∧
    SameFaults s (s.countLate m late) ∧ (s.countLate m late).get (txPage m) CsiTx.TX_LATE_CUT_LATE = (if late then
      min (s.get (txPage m) CsiTx.TX_LATE_CUT_LATE + 1) (2 ^ 16 - 1) else s.get (txPage m) CsiTx.TX_LATE_CUT_LATE) := by
  cases late with
  | false => exact ⟨rfl, SameTxSettings.of_regs rfl m, rfl, ⟨rfl, rfl⟩, rfl⟩
  | true => exact ⟨rfl, (SameTxSettings.of_regs rfl m).put _ _ (by decide), rfl, ⟨rfl, rfl⟩, State.get_countSat_same ..⟩

theorem txLineSlot_line (m : Fin 2) (k : Fin 4) (seq key i : Nat) (f : TxFrame) (s : State) (hkey : key = s.txKey m k seq) (hen : s.txEnabled m = true)
    (hpaced : (s.txFields m k key).getD 0 0 = 1) (hended : (s.txSlot m k).ended.contains key = false) (hframes : (s.txSlot m k).frames = [f])
    (hf : f.key = key) (hstarted : f.started = true) (hslots : f.slots = []) (hlsle : (s.txFields m k key).getD 1 0 = 0) (hwire : (s.tx m).wire = []) :
    Completes (.txLineSlot m k seq (.line i)) s fun t =>
      (∀ j b, f.lines.find? (fun l => l.1 == i) = some (j, b) →
        t.out = .csiPacket m (txLong ((s.txFields m k key).getD 2 0) ((s.txFields m k key).getD 4 0) b) :: s.out ∧
        (t.txSlot m k).frames = [{ f with lines := f.lines.filter fun l => l.1 != i }] ∧ (t.txSlot m k).heldRun = 0 ∧
        t.get (txPage m) CsiTx.TX_LATE_CUT_LATE = s.get (txPage m) CsiTx.TX_LATE_CUT_LATE) ∧
      (f.lines.find? (fun l => l.1 == i) = none →
        t.out = s.out ∧ (t.txSlot m k).frames = [{ f with slots := [.line i] }] ∧
        t.get (txPage m) CsiTx.TX_LATE_CUT_LATE = (if s.txSentinel m k key then s.get (txPage m) CsiTx.TX_LATE_CUT_LATE
          else min (s.get (txPage m) CsiTx.TX_LATE_CUT_LATE + 1) (2 ^ 16 - 1))) ∧ SameMemory s t ∧ SameFaults s t := by
  subst hkey
  generalize hk : s.txKey m k seq = key at *
  have hframe : s.txFrame m k key = some f := State.txFrame_single hframes hf
  have hcarries : s.txCarries m k key = true := by simp [State.txCarries, hframes, hf]
  let late := !s.txSentinel m k key && !f.lines.any (fun l => l.1 == i)
  let u := s.countLate m late
  let g : TxFrame := { f with slots := [.line i] }
  let v := u.putTxFrame m k g
  have ht : exec (.txLineSlot m k seq (.line i)) s = .next (v.txSettle m k key) := by
    rw [exec, execTxLineSlot]
    simp only [hk, hen, hcarries, hpaced, hended, hframe, hstarted, hslots, Bool.not_true, Bool.false_or, bne_self_eq_false, Bool.false_eq_true,
      if_false, List.contains_nil, List.nil_append]
    have hg : ({ f with slots := [.line i], started := true } : TxFrame) = g := by rw [← hstarted]
    exact congrArg (fun g => Host.Outcome.next ((u.putTxFrame m k g).txSettle m k key)) hg
  have hmem : SameMemory s (v.txSettle m k key) := SameMemory.of_exec ht (by rw [exec]; exact answers_txLineSlot (Quiet.refl s))
  obtain ⟨hucsi, huset, huout, hufaults, hulate⟩ := s.countLate_effect m late
  have huslot : u.txSlot m k = s.txSlot m k := State.txSlot_congr (by rw [State.tx_congr hucsi]) k
  obtain ⟨hvslot, hvwire⟩ := u.putTxFrame_effect m k (f := g) (g := f) (by rw [huslot]; exact hframes) rfl
  have hvwire' : (v.tx m).wire = [] := hvwire.trans (by rw [State.tx_congr hucsi]; exact hwire)
  obtain ⟨hvregs, hvout', hvfaults'⟩ := u.putTxFrame_keeps m k g
  have hvset : SameTxSettings s v m := huset.trans (SameTxSettings.of_regs hvregs m)
  have hfields : v.txFields m k key = s.txFields m k key :=
    State.txFields_congr hvset (by rw [hvslot, huslot]) (by rw [hvslot, huslot]) key
  have hvframe : v.txFrame m k key = some g := State.txFrame_single (by rw [hvslot]) hf
  have hvout : v.out = s.out := hvout'.trans huout
  have hvfaults : SameFaults s v := hufaults.trans hvfaults'
  have hvlate : v.get (txPage m) CsiTx.TX_LATE_CUT_LATE = (if late then
      min (s.get (txPage m) CsiTx.TX_LATE_CUT_LATE + 1) (2 ^ 16 - 1) else s.get (txPage m) CsiTx.TX_LATE_CUT_LATE) := (State.get_of_regs hvregs _ _).trans hulate
  cases hline : f.lines.find? (fun l => l.1 == i) with
  | none =>
    have hany : f.lines.any (fun l => l.1 == i) = false := by
      rw [List.find?_eq_none] at hline
      simpa using hline
    have hlate : late = !s.txSentinel m k key := by
      show (!s.txSentinel m k key && !f.lines.any (fun l => l.1 == i)) = _
      rw [hany]
      simp
    have hsettle : v.txSettle m k key = v := State.txDrain_waits _ _ _ _ _ hvframe (by rw [hfields]; exact hpaced) (Or.inr ⟨i, rfl, hline⟩)
    rw [hsettle] at ht hmem
    refine ⟨_, ht, fun _ _ h => (nomatch h), fun _ => ⟨hvout, by rw [hvslot], ?_⟩, hmem, hvfaults⟩
    rw [hvlate, hlate]
    cases s.txSentinel m k key <;> rfl
  | some e =>
    obtain ⟨j, b⟩ := e
    have hj := List.find?_some hline
    have hany : f.lines.any (fun l => l.1 == i) = true := List.any_eq_true.mpr ⟨_, List.mem_of_find?_eq_some hline, hj⟩
    have hlate : late = false := by
      show (!s.txSentinel m k key && !f.lines.any (fun l => l.1 == i)) = _
      rw [hany]
      simp
    let w := v.putTxFrame m k { g with lines := f.lines.filter (fun l => l.1 != i), slots := [] }
    obtain ⟨hwslot, hwwire⟩ := v.putTxFrame_effect m k (f := { g with lines := f.lines.filter (fun l => l.1 != i), slots := [] }) (g := g)
      (by rw [hvslot]) rfl
    obtain ⟨hwregs, hwout, hwfaults⟩ := v.putTxFrame_keeps m k { g with lines := f.lines.filter (fun l => l.1 != i), slots := [] }
    have hwset : SameTxSettings v w m := SameTxSettings.of_regs hwregs m
    have hwfields : w.txFields m k key = s.txFields m k key :=
      (State.txFields_congr hwset (by rw [hwslot]) (by rw [hwslot]) key).trans hfields
    obtain ⟨hxslot, -, hxout, hxset, hxfaults, hxlate, -⟩ := w.txSendLine_effect m k key i b (by rw [hwfields]; exact hlsle)
    generalize hx : w.txSendLine m k key i b = x at hxslot hxout hxset hxfaults hxlate
    have hxfields : x.txFields m k key = s.txFields m k key := (State.txFields_congr hxset (by rw [hxslot]) (by rw [hxslot]) key).trans hwfields
    have hxframes : (x.txSlot m k).frames = [{ f with lines := f.lines.filter fun l => l.1 != i }] := by
      rw [hxslot, hwslot]
      show [_] = [_]
      rw [← hslots]
    have hsettle : v.txSettle m k key = x := by
      rw [State.txSettle, hvframe]
      show v.txDrain m k key (f.lines.length + 2 + 1) = _
      rw [State.txDrain_pacedSends v m k key _ hvframe (by rw [hfields]; exact hpaced) hstarted rfl hline, show State.txSendLine _ m k key i b = x from hx]
      exact State.txDrain_waits x _ _ _ _ (State.txFrame_single hxframes hf) (by rw [hxfields]; exact hpaced) (Or.inl hslots)
    rw [hsettle] at ht hmem
    refine ⟨_, ht, fun j' b' h => ?_, fun h => (nomatch h), hmem, (hvfaults.trans hwfaults).trans hxfaults⟩
    injection h with h
    injection h with hj hb
    subst hb
    refine ⟨?_, hxframes, by rw [hxslot], ?_⟩
    · rw [hxout, if_pos (hwwire.trans hvwire'), txLinePacket, hwfields]
      exact congrArg (_ :: ·) (hwout.trans hvout)
    · exact hxlate.trans ((State.get_of_regs hwregs _ _).trans (hvlate.trans (by rw [hlate]; rfl)))

/-! ## A hold copy goes out, and a packet has left (R155, R159) -/

theorem txHoldMargin_completes (m : Fin 2) (k : Fin 4) (seq key i : Nat) (s : State) (f : TxFrame) (hkey : key = s.txKey m k seq)
    (hen : s.txEnabled m = true) (hsentinel : s.txSentinel m k key = true) (hframe : s.txFrame m k key = some f) (hstarted : f.started = true)
    (hslots : f.slots.contains (.line i) = true) :
    Completes (.txHoldMargin m k seq i) s fun t =>
      ((s.txSlot m k).hold.filter (fun e => e.1 == key / 2 ^ 32) = none →
        t.get (txPage m) CsiTx.TX_LATE_CUT_LATE = min (s.get (txPage m) CsiTx.TX_LATE_CUT_LATE + 1) (2 ^ 16 - 1) ∧ t.out = s.out ∧
        t.csiTx = s.csiTx) ∧
      (∀ b, (s.txSlot m k).hold = some (key / 2 ^ 32, b) → (s.txSlot m k).heldRun + 1 < (s.txFields m k key).getD 3 0 →
        (s.txFields m k key).getD 1 0 = 0 → (s.tx m).wire = [] →
        t.get (txPage m) CsiTx.TX_HELD_COUNT = min (s.get (txPage m) CsiTx.TX_HELD_COUNT + 1) (2 ^ 32 - 1) ∧
        (t.txSlot m k).heldRun = (s.txSlot m k).heldRun + 1 ∧ hasBit (t.get (txPage m) CsiTx.TX_STAT_HOLDING) k = true ∧
        t.out = .csiPacket m (txLong ((s.txFields m k key).getD 2 0) ((s.txFields m k key).getD 4 0) b) :: s.out) ∧
      SameMemory s t := by
  subst hkey
  generalize hk : s.txKey m k seq = key at *
  have hmem : ∀ {t}, exec (.txHoldMargin m k seq i) s = .next t → SameMemory s t := fun ht =>
    SameMemory.of_exec ht (by rw [exec]; exact answers_txHoldMargin (Quiet.refl s))
  cases hhold : (s.txSlot m k).hold.filter (fun e => e.1 == key / 2 ^ 32) with
  | none =>
    have ht : exec (.txHoldMargin m k seq i) s = .next (s.countSat (txPage m) CsiTx.TX_LATE_CUT_LATE) := by
      rw [exec, execTxHoldMargin]
      simp only [hk, hframe, hen, hsentinel, hstarted, hslots, hhold, Bool.not_true, Bool.or_self, Bool.false_eq_true, if_false]
    refine ⟨_, ht, fun _ => ⟨State.get_countSat_same .., rfl, rfl⟩, fun b hb => ?_, hmem ht⟩
    rw [hb] at hhold
    simp at hhold
  | some e =>
    obtain ⟨x, b⟩ := e
    let g : TxFrame := { f with held := i :: f.held, slots := f.slots.filter (· != .line i) }
    let u := (s.putTxFrame m k g).eventIf ((s.txSlot m k).heldRun == 0) (txPage m) 0
    let v := (u.countSat (txPage m) CsiTx.TX_HELD_COUNT).txMark m k CsiTx.TX_STAT_HOLDING true
    let w := v.putTxSlot m k { v.txSlot m k with heldRun := (s.txSlot m k).heldRun + 1 }
    by_cases hgo : (s.txSlot m k).heldRun + 1 < (s.txFields m k key).getD 3 0 ∧ (s.txFields m k key).getD 1 0 = 0
    · obtain ⟨hrun, hlsle⟩ := hgo
      have hgframes : (s.putTxFrame m k g).txSlot m k = { s.txSlot m k with frames := (s.txSlot m k).frames.map fun h => if h.key = g.key then g else h } :=
        State.txSlot_putTxSlot ..
      have hutx : u.tx m = (s.putTxFrame m k g).tx m := State.tx_congr (State.eventIf_csiTx ..) m
      have hvtx : v.tx m = (s.putTxFrame m k g).tx m := hutx
      have hvslot : v.txSlot m k = _ := (State.txSlot_congr (by rw [hvtx]) k).trans hgframes
      have hwslot : w.txSlot m k = { v.txSlot m k with heldRun := (s.txSlot m k).heldRun + 1 } := State.txSlot_putTxSlot ..
      have hwwire : (w.tx m).wire = (s.tx m).wire := (State.wire_putTxSlot ..).trans ((congrArg CsiTxSt.wire hvtx).trans (State.wire_putTxSlot ..))
      have hwset : SameTxSettings s w m :=
        (((SameTxSettings.of_regs (t := s.putTxFrame m k g) rfl m).eventIf _ 0).put _ _ (by decide)).put _ _ (by decide)
      have hwout : w.out = s.out := State.eventIf_out ..
      have hwfields : w.txFields m k key = s.txFields m k key :=
        State.txFields_congr hwset (by rw [hwslot, hvslot]) (by rw [hwslot, hvslot]) key
      have hwheld : w.get (txPage m) CsiTx.TX_HELD_COUNT = min (s.get (txPage m) CsiTx.TX_HELD_COUNT + 1) (2 ^ 32 - 1) := by
        refine (State.get_put_other _ _ (by simp +decide)).trans ((State.get_countSat_same ..).trans ?_)
        rw [show u.get (txPage m) CsiTx.TX_HELD_COUNT = s.get (txPage m) CsiTx.TX_HELD_COUNT from
          State.get_eventIf_other _ _ _ (by simp +decide)]
        rfl
      have hwholding : hasBit (w.get (txPage m) CsiTx.TX_STAT_HOLDING) k = true := by
        rw [show w.get (txPage m) CsiTx.TX_STAT_HOLDING = _ from State.get_put_same ..]
        exact hasBit_setBit_four _ k
      have hline : w.txLine m k key i b false = w.txReady m (txLinePacket w m k key b false) :=
        State.txLine_eq w m k key i b false (by rw [hwfields]; exact hlsle)
      obtain ⟨hyslot, -, hyout, hyregs, -⟩ := w.txReady_effect m (txLinePacket w m k key b false) (txLong_ne_nil _ _ b)
      have hyfields : (w.txReady m (txLinePacket w m k key b false)).txFields m k key = s.txFields m k key :=
        (State.txFields_congr (SameTxSettings.of_regs hyregs m) (by rw [hyslot]) (by rw [hyslot]) key).trans hwfields
      have ht : exec (.txHoldMargin m k seq i) s = .next (w.txReady m (txLinePacket w m k key b false)) := by
        have hstep : exec (.txHoldMargin m k seq i) s = .next (if (s.txSlot m k).heldRun + 1 < ((w.txLine m k key i b false).txFields m k key).getD 3 0
            then w.txLine m k key i b false
            else ((w.txLine m k key i b false).putTxSlot m k { (w.txLine m k key i b false).txSlot m k with heldRun := 0 }).txCut m k g false true) := by
          have hcond : (!s.txEnabled m || !s.txSentinel m k key || !f.started || !f.slots.contains (.line i)) = false := by
            rw [hen, hsentinel, hstarted, hslots]
            rfl
          rw [exec, execTxHoldMargin]
          simp only [hk, hframe, hcond, hhold, Bool.false_eq_true, if_false]
          rfl
        rw [hstep, hline, hyfields, if_pos hrun]
      refine ⟨_, ht, fun h => (nomatch h), fun b' hb _ _ hwire => ⟨(State.get_of_regs hyregs _ _).trans hwheld, by rw [hyslot, hwslot], ?_, ?_⟩, hmem ht⟩
      · rw [State.get_of_regs hyregs]
        exact hwholding
      · have hbb : b = b' := by
          have hcopy := (Option.filter_eq_some_iff.mp hhold).1
          exact congrArg Prod.snd (Option.some.inj (hcopy.symm.trans hb))
        rw [hyout, if_pos (hwwire.trans hwire), hwout, txLinePacket, hwfields, hbb]
    · obtain ⟨t, ht⟩ : ∃ t, exec (.txHoldMargin m k seq i) s = .next t := by
        rw [exec, execTxHoldMargin]
        exact ⟨_, rfl⟩
      exact ⟨t, ht, fun h => (nomatch h), fun b _ h1 h2 => absurd ⟨h1, h2⟩ hgo, hmem ht⟩

/-- The next packet on the wire starts, unless the terminal latch is set. -/
def State.txNext (s : State) (m : Nat) (r : List TxPacket) : State := match r with
  | [] => s
  | q :: _ => if s.terminal then s.putTx m { s.tx m with wire := [] } else s.txStart m q

theorem State.txNext_effect (s : State) (m : Nat) (r : List TxPacket) (hwire : (s.tx m).wire = r) :
    ((s.txNext m r).tx m).wire = (if s.terminal then [] else r) ∧ (∀ k, (s.txNext m r).txSlot m k = s.txSlot m k) ∧
    (∀ q l, r = q :: l → s.terminal = false → (s.txNext m r).out = (if q.bytes = [] then .deskew m else .csiPacket m q.bytes) :: s.out) ∧
    (r = [] ∨ s.terminal = true → (s.txNext m r).out = s.out) ∧ SameFaults s (s.txNext m r) := by
  cases r with
  | nil =>
    refine ⟨?_, fun _ => rfl, fun _ _ h => (nomatch h), fun _ => rfl, rfl, rfl⟩
    rw [ite_self]
    exact hwire
  | cons q l =>
    cases hterm : s.terminal with
    | true =>
      have htx : (s.putTx m { s.tx m with wire := [] }).tx m = { s.tx m with wire := [] } := State.tx_putTx ..
      simp only [State.txNext, hterm, if_true]
      exact ⟨by rw [htx], fun k => State.txSlot_congr (by rw [htx]) k, fun _ _ _ h => (nomatch h), fun _ => rfl, rfl, rfl⟩
    | false =>
      have hstart : s.txStart m q = if q.bytes = [] then (s.emit (.deskew m)).event (txPage m) 4 else s.emit (.csiPacket m q.bytes) := by
        simp only [State.txStart, List.isEmpty_iff]
      simp only [State.txNext, hterm, Bool.false_eq_true, if_false, hstart]
      by_cases hq : q.bytes = []
      · rw [if_pos hq]
        exact ⟨hwire, fun _ => rfl, fun q' l' h _ => by injection h with h; rw [← h, if_pos hq]; rfl, fun h => (by simp at h), rfl, rfl⟩
      · rw [if_neg hq]
        exact ⟨hwire, fun _ => rfl, fun q' l' h _ => by injection h with h; rw [← h, if_neg hq]; rfl, fun h => (by simp at h), rfl, rfl⟩

theorem txPacketSent_completes (m : Fin 2) (s : State) (p : TxPacket) (r : List TxPacket) (hwire : (s.tx m).wire = p :: r) :
    Completes (.txPacketSent m) s fun t =>
      (t.tx m).wire = (if s.terminal then [] else r) ∧ (∀ b, p.hold = some b → (t.txSlot m p.slot).hold = some b) ∧
      (∀ q l, r = q :: l → s.terminal = false → t.out = (if q.bytes = [] then .deskew m else .csiPacket m q.bytes) :: s.out) ∧
      (r = [] ∨ s.terminal = true → t.out = s.out) ∧ SameMemory s t ∧ SameFaults s t := by
  have hmem : ∀ {t}, exec (.txPacketSent m) s = .next t → SameMemory s t := fun ht =>
    SameMemory.of_exec ht (by rw [exec]; exact answers_txPacketSent (Quiet.refl s))
  let u := s.putTx m { s.tx m with wire := r }
  have huwire : (u.tx m).wire = r := by rw [State.tx_putTx]
  cases hhold : p.hold with
  | none =>
    obtain ⟨hw, -, hsent, hquiet, hfaults⟩ := u.txNext_effect m r huwire
    have ht : exec (.txPacketSent m) s = .next (u.txNext m r) := by
      rw [exec, execTxPacketSent]
      simp only [hwire, hhold]
      cases r <;> rfl
    exact ⟨_, ht, hw, fun _ h => (nomatch h), hsent, hquiet, hmem ht, hfaults⟩
  | some b =>
    let v := u.putTxSlot m p.slot { u.txSlot m p.slot with hold := some b }
    obtain ⟨hw, hslot, hsent, hquiet, hfaults⟩ := v.txNext_effect m r ((State.wire_putTxSlot ..).trans huwire)
    have ht : exec (.txPacketSent m) s = .next (v.txNext m r) := by
      rw [exec, execTxPacketSent]
      simp only [hwire, hhold]
      cases r <;> rfl
    refine ⟨_, ht, hw, fun b' h => ?_, hsent, hquiet, hmem ht, hfaults⟩
    rw [hslot, show v.txSlot m p.slot = _ from State.txSlot_putTxSlot .., h]

/-! ## A unit comes from its channel (R155, R158) -/

theorem txUnitReceived_duplicate (m : Fin 2) (k : Fin 4) (h : Fin 2) (begun : Nat) (u : PortUnit) (s : State)
    (hcarries : s.txCarries m k u.key = true) (hsentinel : s.txSentinel m k u.key = true) (hen : s.txEnabled m = true)
    (hacted : s.actedAt h u.stream begun = true) (hdup : (s.txSlot m k).accepted.contains (u.key, u.line) = true) :
    Completes (.txUnitReceived m k h begun u) s fun t =>
      t.get (txPage m) CsiTx.TX_DUP_COUNT = min (s.get (txPage m) CsiTx.TX_DUP_COUNT + 1) (2 ^ 32 - 1) ∧ t.csiTx = s.csiTx ∧ t.out = s.out ∧
      OnlyRegs s t [fieldKey (txPage m) CsiTx.TX_DUP_COUNT] ∧ SameMemory s t ∧ SameFaults s t := by
  have ht : exec (.txUnitReceived m k h begun u) s = .next (s.countSat (txPage m) CsiTx.TX_DUP_COUNT) := by
    rw [exec, execTxUnitReceived]
    simp only [hcarries, hsentinel, hen, hacted, hdup, Bool.not_true, Bool.and_false, Bool.or_self, Bool.false_eq_true, if_false, Bool.true_and, if_true]
  exact ⟨_, ht, State.get_countSat_same .., rfl, rfl, (OnlyRegs.refl s _).put _ _ _ (List.mem_singleton.mpr rfl),
    SameMemory.of_exec ht (by rw [exec]; exact answers_txUnitReceived (Quiet.refl s)), rfl, rfl⟩

/-- Judging a port's conditions writes its fault word alone. -/
theorem State.judgeAgain_effect (s : State) (m : Nat) (was : Bool) :
    ((s.judgeTx m).again (txPage m) 0 was).csiTx = s.csiTx ∧ ((s.judgeTx m).again (txPage m) 0 was).out = s.out ∧
    SameTxSettings s ((s.judgeTx m).again (txPage m) 0 was) m ∧
    ((s.judgeTx m).again (txPage m) 0 was).get (txPage m) CsiTx.TX_STAT_ACTIVE = s.get (txPage m) CsiTx.TX_STAT_ACTIVE := by
  have hne : fieldKey (txPage m) Hdr.FLT_STAT_FAULT ≠ fieldKey (txPage m) CsiTx.TX_STAT_ACTIVE := by simp +decide
  have hj : (s.judgeTx m).csiTx = s.csiTx ∧ (s.judgeTx m).out = s.out ∧ SameTxSettings s (s.judgeTx m) m ∧
      (s.judgeTx m).get (txPage m) CsiTx.TX_STAT_ACTIVE = s.get (txPage m) CsiTx.TX_STAT_ACTIVE := by
    refine ⟨by simp [State.judgeTx], by simp [State.judgeTx], (((SameTxSettings.of_regs rfl m).cond _ _).cond _ _).cond _ _, ?_⟩
    unfold State.judgeTx
    rw [State.get_cond_other _ _ _ hne, State.get_cond_other _ _ _ hne, State.get_cond_other _ _ _ hne]
  obtain ⟨hcsi, hout, hset, hactive⟩ := hj
  refine ⟨?_, ?_, hset.again 0 was, ?_⟩
  · unfold State.again
    split <;> exact hcsi
  · unfold State.again
    split <;> exact hout
  · unfold State.again
    split
    · exact (State.get_put_other _ _ hne).trans hactive
    · exact hactive

/-- The frame that the first unit of it begins in a slot. -/
def firstUnit (u : PortUnit) : TxFrame :=
  { key := u.key, lines := [(u.line, u.bytes.take 32768)], truncated := decide (32768 < u.bytes.length), long := decide (32768 < u.bytes.length) }

/-- A slot that holds nothing takes a unit of the frame that it carries, and settles what is due of it. -/
theorem txUnitReceived_keeps (m : Fin 2) (k : Fin 4) (h : Fin 2) (begun : Nat) (u : PortUnit) (s : State) (b : Nat × Nat × Bool)
    (hbound : (s.txSlot m k).bound = some (u.key / 2 ^ 32, b)) (hen : s.txEnabled m = true) (hsentinel : s.txSentinel m k u.key = false)
    (hended : (s.txSlot m k).ended.contains u.key = false) (hframes : (s.txSlot m k).frames = []) (hwire : (s.tx m).wire = [])
    (hrecord : u.record = false) (hwithheld : u.withheld = false) :
    ∃ v : State, exec (.txUnitReceived m k h begun u) s = .next (v.txSettle m k u.key) ∧ (v.txSlot m k).frames = [firstUnit u] ∧
      (v.tx m).wire = [] ∧ v.out = s.out ∧ (∀ key, v.txFields m k key = s.txFields m k key) ∧
      v.get (txPage m) CsiTx.TX_STAT_ACTIVE = s.get (txPage m) CsiTx.TX_STAT_ACTIVE := by
  let x := s.txSlot m k
  let s₁ := s.putTxSlot m k { x with accepted := (u.key, u.line) :: x.accepted.filter (fun e => keyNear u.key e.1) }
  let s₂ := s₁.putTxSlot m k { s₁.txSlot m k with frames := [firstUnit u] }
  let was := s₁.condBit (txPage m) 0 && decide (32768 < u.bytes.length)
  have h₁slot : s₁.txSlot m k = { x with accepted := (u.key, u.line) :: x.accepted.filter (fun e => keyNear u.key e.1) } := State.txSlot_putTxSlot ..
  have h₁frames : (s₁.txSlot m k).frames = [] := by rw [h₁slot]; exact hframes
  have h₂slot : s₂.txSlot m k = { s₁.txSlot m k with frames := [firstUnit u] } := State.txSlot_putTxSlot ..
  have h₂wire : (s₂.tx m).wire = [] := (State.wire_putTxSlot ..).trans ((State.wire_putTxSlot ..).trans hwire)
  obtain ⟨hcsi, hout, hset, hactive⟩ := s₂.judgeAgain_effect m was
  have hslot : ((s₂.judgeTx m).again (txPage m) 0 was).txSlot m k = s₂.txSlot m k := State.txSlot_congr (by rw [State.tx_congr hcsi]) k
  have h₂set : SameTxSettings s s₂ m := SameTxSettings.of_regs rfl m
  have hbinding : (s.txSlot m k).bound.any (fun p => p.1 == u.key / 2 ^ 32) = true := by
    generalize u.key / 2 ^ 32 = q at hbound
    rw [hbound, Option.any_some, beq_self_eq_true]
  have hcarries : s.txCarries m k u.key = true := by
    rw [State.txCarries, hbinding, Bool.true_or, Bool.true_or]
  have hlines : decide (2 ≤ s.txLines m k) = false := by simp [State.txLines, hframes, hwire]
  have hkeep : s₁.txKeep m k u = ((s₂.judgeTx m).again (txPage m) 0 was).txSettle m k u.key := by
    unfold State.txKeep
    simp only [h₁frames, hrecord, hwithheld, List.any_nil, Bool.false_eq_true, if_false, Bool.not_false, Bool.true_and, List.nil_append, List.map_singleton,
      ne_eq, not_true_eq_false, List.contains_nil, Bool.false_or]
    rfl
  have ht : exec (.txUnitReceived m k h begun u) s = .next (((s₂.judgeTx m).again (txPage m) 0 was).txSettle m k u.key) := by
    rw [← hkeep, exec, execTxUnitReceived]
    simp only [hcarries, hen, hsentinel, hended, hlines, Bool.not_true, Bool.false_and, Bool.or_self, Bool.and_false, Bool.false_eq_true, if_false]
    rfl
  exact ⟨_, ht, by rw [hslot, h₂slot], by rw [State.tx_congr hcsi]; exact h₂wire, hout,
    fun key => State.txFields_congr (h₂set.trans hset) (by rw [hslot, h₂slot, h₁slot]) (by rw [hslot, h₂slot, h₁slot]) key, hactive⟩

theorem txUnitReceived_first (m : Fin 2) (k : Fin 4) (h : Fin 2) (begun : Nat) (u : PortUnit) (s : State) (b : Nat × Nat × Bool)
    (hbound : (s.txSlot m k).bound = some (u.key / 2 ^ 32, b)) (hen : s.txEnabled m = true) (hsentinel : s.txSentinel m k u.key = false)
    (hended : (s.txSlot m k).ended.contains u.key = false) (hframes : (s.txSlot m k).frames = []) (hwire : (s.tx m).wire = [])
    (hrecord : u.record = false) (hwithheld : u.withheld = false) :
    Completes (.txUnitReceived m k h begun u) s fun t =>
      ((s.txFields m k u.key).getD 0 0 = 1 → t.out = s.out ∧ t.get (txPage m) CsiTx.TX_STAT_ACTIVE = s.get (txPage m) CsiTx.TX_STAT_ACTIVE ∧
        (t.txSlot m k).frames = [{ key := u.key, lines := [(u.line, u.bytes.take 32768)], truncated := decide (32768 < u.bytes.length),
                                   long := decide (32768 < u.bytes.length) }]) ∧
      ((s.txFields m k u.key).getD 0 0 ≠ 1 → u.line = 0 → (s.txFields m k u.key).getD 1 0 = 0 →
        hasBit (t.get (txPage m) CsiTx.TX_STAT_ACTIVE) k = true ∧
        t.out = .csiPacket m (txHeader ((s.txFields m k u.key).getD 2 0) 0 (u.key % 2 ^ 32 % 65535 + 1)) :: s.out ∧
        (t.tx m).wire.map (·.bytes) = [txHeader ((s.txFields m k u.key).getD 2 0) 0 (u.key % 2 ^ 32 % 65535 + 1),
          txLong ((s.txFields m k u.key).getD 2 0) ((s.txFields m k u.key).getD 4 0) (u.bytes.take 32768)]) ∧
      SameMemory s t := by
  obtain ⟨v, ht, hvframes, hvwire, hvout, hvfields, hvactive⟩ :=
    txUnitReceived_keeps m k h begun u s b hbound hen hsentinel hended hframes hwire hrecord hwithheld
  have hmem : SameMemory s (v.txSettle m k u.key) := SameMemory.of_exec ht (by rw [exec]; exact answers_txUnitReceived (Quiet.refl s))
  have hvframe : v.txFrame m k u.key = some (firstUnit u) := State.txFrame_single hvframes rfl
  by_cases hpaced : (s.txFields m k u.key).getD 0 0 = 1
  · have hsettle : v.txSettle m k u.key = v := State.txDrain_waits _ _ _ _ _ hvframe (by rw [hvfields]; exact hpaced) (Or.inl rfl)
    rw [hsettle] at ht hmem
    exact ⟨_, ht, fun _ => ⟨hvout, hvactive, hvframes⟩, fun h => absurd hpaced h, hmem⟩
  · refine ⟨_, ht, fun h => absurd h hpaced, fun _ hline hlsle => ?_, hmem⟩
    let g : TxFrame := { firstUnit u with started := true }
    let g' : TxFrame := { g with lines := g.lines.filter (fun l => l.1 != 0), slots := g.slots.filter (· != .line 0) }
    obtain ⟨hwslot, hwwire, hwout, hwset, -, hwactive⟩ := v.txFrameStart_effect m k u.key (by rw [hvframes]; simp [firstUnit]) hvwire
    generalize hw : v.txFrameStart m k u.key = w at hwslot hwwire hwout hwset hwactive
    have hwframes : (w.txSlot m k).frames = [g] := by
      rw [hwslot, hvframes]
      simp [startedFrames, firstUnit, g]
    have hwfields : w.txFields m k u.key = s.txFields m k u.key :=
      (State.txFields_congr hwset (by rw [hwslot]) (by rw [hwslot]) u.key).trans (hvfields _)
    obtain ⟨hxslot, hxwire⟩ := w.putTxFrame_effect m k (f := g') (g := g) hwframes rfl
    obtain ⟨hxregs, hxout, -⟩ := w.putTxFrame_keeps m k g'
    generalize hx : w.putTxFrame m k g' = x at hxslot hxwire hxregs hxout
    have hxfields : x.txFields m k u.key = s.txFields m k u.key :=
      (State.txFields_congr (SameTxSettings.of_regs hxregs m) (by rw [hxslot]) (by rw [hxslot]) u.key).trans hwfields
    obtain ⟨hyslot, hywire, hyout, hyset, -, -, hyactive⟩ := x.txSendLine_effect m k u.key 0 (u.bytes.take 32768) (by rw [hxfields]; exact hlsle)
    generalize hy : x.txSendLine m k u.key 0 (u.bytes.take 32768) = y at hyslot hywire hyout hyset hyactive
    have hyfields : y.txFields m k u.key = s.txFields m k u.key :=
      (State.txFields_congr hyset (by rw [hyslot]) (by rw [hyslot]) u.key).trans hxfields
    have hlines : g.lines = [(0, u.bytes.take 32768)] := by
      show [(u.line, _)] = _
      rw [hline]
    have hsettle : v.txSettle m k u.key = y := by
      rw [State.txSettle, hvframe]
      show v.txDrain m k u.key (2 + 1 + 1) = y
      rw [State.txDrain_starts v m k u.key _ hvframe (by rw [hvfields]; exact hpaced) rfl (by simp [firstUnit, hline]), hw,
        State.txDrain_sends w m k u.key _ (State.txFrame_single hwframes rfl) (by rw [hwfields]; exact hpaced) rfl hlines,
        show w.putTxFrame m k _ = x from hx, hy]
      exact State.txDrain_empty y m k u.key _ (f := g') (State.txFrame_single (by rw [hyslot, hxslot]) rfl) (by rw [hyfields]; exact hpaced) rfl
        (by simp [g', hlines]) rfl
    rw [hsettle]
    have hxw : (x.tx m).wire ≠ [] := by rw [hxwire, hwwire]; simp
    refine ⟨by rw [hyactive, State.get_of_regs hxregs]; exact hwactive, ?_, ?_⟩
    · rw [hyout, if_neg hxw, hxout, hwout, hvout, hvfields]
    · rw [hywire, hxwire, hwwire, txLinePacket, hxfields, hvfields]
      rfl

/-- Settles O29: frame start and lines go out at their slots, a missing sentinel line as the hold copy, and packet after packet. -/
theorem transmitSlotsSendTheirFrames : Obligations.TransmitSlotsSendTheirFrames :=
  ⟨fun m k h begun u s b => txUnitReceived_first m k h begun u s b, fun m k h begun u s => txUnitReceived_duplicate m k h begun u s,
    fun m k seq key s => txLineSlot_frameStart m k seq key s, fun m k seq key i f s => txLineSlot_line m k seq key i f s,
    fun m k seq key i s f => txHoldMargin_completes m k seq key i s f, fun m s p r => txPacketSent_completes m s p r⟩

end Sys2Proof.Machine
end

section
/-!
PROOFS. What an operation writes: the registers outside a set of places keep their values. One rule per operation on the registers.
-/
namespace Sys2Proof.Machine

/-- Every register whose place is outside P is as it was. -/
def WritesIn (P : Nat → Prop) (s t : State) : Prop := ∀ key, ¬ P key → SMap.get resetField t.regs key = SMap.get resetField s.regs key

section
variable {P : Nat → Prop} {s t u : State}

theorem WritesIn.of_regs (P : Nat → Prop) (h : t.regs = s.regs) : WritesIn P s t := fun _ _ => by rw [h]
theorem WritesIn.refl (P : Nat → Prop) (s : State) : WritesIn P s s := fun _ _ => rfl
theorem WritesIn.trans (h : WritesIn P s t) (h' : WritesIn P t u) : WritesIn P s u := fun key hk => (h' key hk).trans (h key hk)
theorem WritesIn.mono {Q : Nat → Prop} (h : WritesIn P s t) (hPQ : ∀ key, P key → Q key) : WritesIn Q s t := fun key hk => h key fun hp => hk (hPQ key hp)
theorem WritesIn.regs (h : WritesIn P s t) (hu : u.regs = t.regs) : WritesIn P s u := h.trans (WritesIn.of_regs P hu)

theorem WritesIn.put (h : WritesIn P s t) {pg : Nat} {f : Field} (v : Nat) (hp : P (fieldKey pg f)) : WritesIn P s (t.put pg f v) := by
  intro key hk
  have hne : fieldKey pg f ≠ key := fun e => hk (e ▸ hp)
  rw [State.put, SMap.get_set_other _ _ _ hne]
  exact h key hk

theorem WritesIn.countSat (h : WritesIn P s t) {pg : Nat} {f : Field} {n : Nat} (hp : P (fieldKey pg f)) : WritesIn P s (t.countSat pg f n) := h.put _ hp
theorem WritesIn.countWrap (h : WritesIn P s t) {pg : Nat} {f : Field} {n : Nat} (hp : P (fieldKey pg f)) : WritesIn P s (t.countWrap pg f n) := h.put _ hp
theorem WritesIn.putMax (h : WritesIn P s t) {pg : Nat} {f : Field} {v : Nat} (hp : P (fieldKey pg f)) : WritesIn P s (t.putMax pg f v) := h.put _ hp

theorem WritesIn.event (h : WritesIn P s t) {pg b : Nat} (hp : P (fieldKey pg Hdr.EVT_STAT_EVENT)) : WritesIn P s (t.event pg b) := h.put _ hp

theorem WritesIn.putHarb (h : WritesIn P s t) {k : Nat} {x : HarbourSt} : WritesIn P s (t.putHarb k x) := h
theorem WritesIn.putLane (h : WritesIn P s t) {k : Nat} {x : LaneSt} : WritesIn P s (t.putLane k x) := h
theorem WritesIn.putCove (h : WritesIn P s t) {k : Nat} {x : CoveSt} : WritesIn P s (t.putCove k x) := h
theorem WritesIn.putCh (h : WritesIn P s t) {k : Nat} {x : ChannelSt} : WritesIn P s (t.putCh k x) := h
theorem WritesIn.putStream (h : WritesIn P s t) {k : Nat} {x : StreamSt} : WritesIn P s (t.putStream k x) := h
theorem WritesIn.emit (h : WritesIn P s t) {o : Out} : WritesIn P s (t.emit o) := h
theorem WritesIn.owe (h : WritesIn P s t) {d : Due} : WritesIn P s (t.owe d) := h

theorem WritesIn.ite {c : Prop} [Decidable c] (h : WritesIn P s t) (h' : WritesIn P s u) : WritesIn P s (if c then t else u) := by
  split <;> assumption

theorem WritesIn.eventIf (h : WritesIn P s t) {c : Bool} {pg b : Nat} (hp : P (fieldKey pg Hdr.EVT_STAT_EVENT)) : WritesIn P s (t.eventIf c pg b) :=
  WritesIn.ite (h.event hp) h

theorem WritesIn.occur (h : WritesIn P s t) {pg b : Nat} (hp : P (fieldKey pg Hdr.FLT_STAT_FAULT)) : WritesIn P s (t.occur pg b) :=
  (h.put _ hp).regs rfl

theorem WritesIn.raise (h : WritesIn P s t) {pg b : Nat} (hp : P (fieldKey pg Hdr.FLT_STAT_FAULT)) : WritesIn P s (t.raise pg b) := by
  unfold State.raise
  split
  · exact h
  · exact (h.regs rfl).occur hp

theorem WritesIn.lower (h : WritesIn P s t) {pg b : Nat} (hp : P (fieldKey pg Hdr.FLT_STAT_FAULT)) : WritesIn P s (t.lower pg b) := by
  simp only [State.lower]
  split
  · split
    · exact (h.regs rfl).put _ hp
    · exact h.regs rfl
  · exact h

theorem WritesIn.cond (h : WritesIn P s t) {pg b : Nat} {p : Bool} (hp : P (fieldKey pg Hdr.FLT_STAT_FAULT)) : WritesIn P s (t.cond pg b p) := by
  cases p
  · exact h.lower hp
  · exact h.raise hp

theorem WritesIn.again (h : WritesIn P s t) {pg b : Nat} {was : Bool} (hp : P (fieldKey pg Hdr.FLT_STAT_FAULT)) : WritesIn P s (t.again pg b was) :=
  WritesIn.ite (h.occur hp) h

theorem WritesIn.foldl {α : Type} {op : State → α → State} {l : List α} (h : WritesIn P s t)
    (hop : ∀ t, ∀ a ∈ l, WritesIn P s t → WritesIn P s (op t a)) : WritesIn P s (l.foldl op t) := by
  induction l generalizing t with
  | nil => exact h
  | cons a l ih => exact ih (hop t a List.mem_cons_self h) fun u b hb => hop u b (List.mem_cons_of_mem _ hb)

theorem WritesIn.get (h : WritesIn P s t) {pg : Nat} {f : Field} (hp : ¬ P (fieldKey pg f)) : t.get pg f = s.get pg f := h _ hp
theorem WritesIn.live (h : WritesIn P s t) {pg : Nat} {f : Field} (hp : ¬ P (liveKey pg f)) : t.live pg f = s.live pg f := h _ hp
theorem WritesIn.flag (h : WritesIn P s t) {pg : Nat} {f : Field} (hp : ¬ P (fieldKey pg f)) : t.flag pg f = s.flag pg f := State.flag_congr _ (h.get hp)

end

/-! ## The page and the place of a register -/

theorem fieldKey_div {pg : Nat} {f : Field} (hf : f.place < 0x8000) : fieldKey pg f / 0x8000 = pg := by
  rw [Field.place] at hf
  unfold fieldKey
  omega

theorem fieldKey_mod {pg : Nat} {f : Field} (hf : f.place < 0x8000) : fieldKey pg f % 0x8000 = f.place := by
  rw [Field.place] at hf ⊢
  unfold fieldKey
  omega

theorem liveKey_mod {pg : Nat} {f : Field} (hf : f.place < 0x4000) : liveKey pg f % 0x8000 = f.place + 0x4000 := by
  rw [Field.place] at hf ⊢
  unfold liveKey fieldKey
  omega

theorem liveKey_div {pg : Nat} {f : Field} (hf : f.place < 0x4000) : liveKey pg f / 0x8000 = pg := by
  rw [Field.place] at hf
  unfold liveKey fieldKey
  omega

end Sys2Proof.Machine
end

section
/-!
PROOFS. The sync decision of a tide (R205, R206): each driven port of the family that has not decided yet decides, once.
-/
namespace Sys2Proof.Machine

/-- The tides that port n has decided, the last one first. -/
def State.decidedTides (s : State) (n : Nat) : List Nat := (s.syncOf n).decisions.map (·.tide)

theorem State.lane_putLane_other (s : State) (n m : Nat) (x : LaneSt) (h : n ≠ m) : (s.putLane n x).lane m = s.lane m :=
  SMap.get_set_other _ _ _ h

theorem State.syncOf_putSync (s : State) (n k : Nat) (x : SyncSt) : (s.putSync n x).syncOf k = if n = k then x else s.syncOf k := by
  simp only [State.syncOf, State.putSync, SMap.get_set]

theorem State.syncOf_congr {s t : State} (h : t.syncs = s.syncs) (n : Nat) : t.syncOf n = s.syncOf n := by rw [State.syncOf, h, State.syncOf]

theorem State.decidedTides_congr {s t : State} (h : t.syncs = s.syncs) (n : Nat) : t.decidedTides n = s.decidedTides n := by
  rw [State.decidedTides, State.syncOf_congr h, State.decidedTides]

theorem State.decided_iff (s : State) (n k : Nat) : (s.syncOf n).decisions.any (fun d => d.tide == k) = true ↔ k ∈ s.decidedTides n := by
  simp [State.decidedTides, List.any_eq_true]

/-! ## Where a decision writes -/

/-- Where port m's decision may write: the pages of its Inlet, of the Inlet whose output its edge missed, and of the sync unit, and two counters. -/
def decisionPlace (m o key : Nat) : Prop :=
  ((key / 0x8000 = inPage m ∨ key / 0x8000 = o ∨ key / 0x8000 = syncPage) ∧ key % 0x8000 < 0x4000) ∨
  key % 0x8000 ∈ [Weatas.FSYNC_COUNT_MISSED.place, CsiRx.LFS_STAT_MISSED.place, Hdr.EVT_STAT_EVENT.place]

theorem decisionPlace_inlet {m o : Nat} {f : Field} (hf : f.place < 0x4000) : decisionPlace m o (fieldKey (inPage m) f) :=
  Or.inl ⟨Or.inl (fieldKey_div (by omega)), by rw [fieldKey_mod (by omega)]; exact hf⟩

theorem decisionPlace_output {m o : Nat} {f : Field} (hf : f.place < 0x4000) : decisionPlace m o (fieldKey o f) :=
  Or.inl ⟨Or.inr (Or.inl (fieldKey_div (by omega))), by rw [fieldKey_mod (by omega)]; exact hf⟩

theorem decisionPlace_sync {m o : Nat} {f : Field} (hf : f.place < 0x4000) : decisionPlace m o (fieldKey syncPage f) :=
  Or.inl ⟨Or.inr (Or.inr (fieldKey_div (by omega))), by rw [fieldKey_mod (by omega)]; exact hf⟩

theorem decisionPlace_counter {m o pg : Nat} {f : Field} (hf : f.place < 0x4000)
    (hp : f.place ∈ [Weatas.FSYNC_COUNT_MISSED.place, CsiRx.LFS_STAT_MISSED.place, Hdr.EVT_STAT_EVENT.place]) : decisionPlace m o (fieldKey pg f) :=
  Or.inr (by rw [fieldKey_mod (by omega)]; exact hp)

/-- What a part of port m's decision leaves: registers elsewhere, the plan, the lanes of other ports, and events that are set. -/
structure DecisionKeeps (m o : Nat) (s t : State) : Prop where
  regs : WritesIn (decisionPlace m o) s t
  tide : t.tide = s.tide
  lanes : ∀ n, n ≠ m → t.lane n = s.lane n
  events : ∀ b < 32, s.eventBit syncPage b = true → t.eventBit syncPage b = true

section
variable {m o : Nat} {s t u : State}

theorem DecisionKeeps.refl (m o : Nat) (s : State) : DecisionKeeps m o s s := ⟨WritesIn.refl _ s, rfl, fun _ _ => rfl, fun _ _ h => h⟩

theorem DecisionKeeps.trans (h : DecisionKeeps m o s t) (h' : DecisionKeeps m o t u) : DecisionKeeps m o s u :=
  ⟨h.regs.trans h'.regs, h'.tide.trans h.tide, fun n hn => (h'.lanes n hn).trans (h.lanes n hn), fun b hb he => h'.events b hb (h.events b hb he)⟩

/-- A change of what is neither a register, the plan nor a lane. -/
theorem DecisionKeeps.of_eq (hregs : t.regs = s.regs) (htide : t.tide = s.tide) (hlanes : t.lanes = s.lanes) : DecisionKeeps m o s t :=
  ⟨WritesIn.of_regs _ hregs, htide, fun n _ => by rw [State.lane, hlanes, State.lane], fun b _ he => by
    rw [State.eventBit, State.get_of_regs hregs]
    exact he⟩

theorem DecisionKeeps.put (h : DecisionKeeps m o s t) {pg : Nat} {f : Field} (v : Nat) (hp : decisionPlace m o (fieldKey pg f)) (hf : f.place < 0x4000)
    (hev : f.place ≠ Hdr.EVT_STAT_EVENT.place) : DecisionKeeps m o s (t.put pg f v) := by
  have hne : fieldKey pg f ≠ fieldKey syncPage Hdr.EVT_STAT_EVENT := by
    intro e
    have hm := congrArg (· % 0x8000) e
    simp only [fieldKey_mod (show f.place < 0x8000 by omega), fieldKey_mod (show Hdr.EVT_STAT_EVENT.place < 0x8000 by decide)] at hm
    exact hev hm
  refine ⟨h.regs.put v hp, h.tide, h.lanes, fun b hb he => ?_⟩
  rw [State.eventBit_put_other _ _ hne]
  exact h.events b hb he

theorem DecisionKeeps.event (h : DecisionKeeps m o s t) {pg b : Nat} : DecisionKeeps m o s (t.event pg b) := by
  refine ⟨h.regs.event (decisionPlace_counter (by decide) (by decide)), h.tide, h.lanes, fun c hc he => ?_⟩
  by_cases hpg : pg = syncPage
  · subst hpg
    rw [State.eventBit_event_of_page _ hc, h.events c hc he, Bool.true_or]
  · rw [State.event, State.eventBit_put_other _ _ (fieldKey_page (by decide) (by decide) hpg)]
    exact h.events c hc he

theorem DecisionKeeps.cond (h : DecisionKeeps m o s t) {b : Nat} {p : Bool} : DecisionKeeps m o s (t.cond syncPage b p) := by
  refine ⟨h.regs.cond (decisionPlace_sync (by decide)), (State.cond_tide ..).trans h.tide, fun n hn => ?_, fun c hc he => ?_⟩
  · rw [State.lane, State.cond_lanes]
    exact h.lanes n hn
  · rw [State.eventBit, State.get_cond_other _ _ _ (by simp +decide)]
    exact h.events c hc he

theorem DecisionKeeps.countSkip {n : Nat} (h : DecisionKeeps m o s t) (hn : n = m ∨ inPage n = o) : DecisionKeeps m o s (t.countSkip n) := by
  have hp : ∀ f : Field, f.place < 0x4000 → decisionPlace m o (fieldKey (inPage n) f) := by
    intro f hf
    rcases hn with rfl | hn
    · exact decisionPlace_inlet hf
    · rw [hn]
      exact decisionPlace_output hf
  have h₁ := (h.put (pg := inPage n) (f := Inlet.SYNC_CNT0_SKIPPED) (min (t.get (inPage n) Inlet.SYNC_CNT0_SKIPPED + 1)
    (Inlet.SYNC_CNT0_SKIPPED.size - 1)) (hp _ (by decide)) (by decide) (by decide))
  have h₂ : DecisionKeeps m o s ((t.countSat (inPage n) Inlet.SYNC_CNT0_SKIPPED).countSat (inPage n) Inlet.SYNC_STAT_SKIP_RUN) :=
    h₁.put _ (hp _ (by decide)) (by decide) (by decide)
  refine DecisionKeeps.cond (DecisionKeeps.event ?_)
  unfold State.mapPort
  split
  · exact h₂.put _ (decisionPlace_sync (by decide)) (by decide) (by decide)
  · exact h₂.put _ (decisionPlace_sync (by decide)) (by decide) (by decide)

theorem DecisionKeeps.pathMissed {n k : Nat} (h : DecisionKeeps m o s t) (hn : n = m ∨ inPage n = o) : DecisionKeeps m o s (t.pathMissed n k) := by
  have hp : decisionPlace m o (fieldKey (inPage n) Inlet.SYNC_STAT_LAST_REASON) := by
    rcases hn with rfl | hn
    · exact decisionPlace_inlet (by decide)
    · rw [hn]
      exact decisionPlace_output (by decide)
  unfold State.pathMissed
  extract_lets x
  split
  · refine DecisionKeeps.countSkip (DecisionKeeps.put (h.trans ?_) _ hp (by decide) (by decide)) hn
    exact DecisionKeeps.of_eq rfl rfl rfl
  · exact h

/-- A tide that a port has not decided is none that its edge can miss. -/
theorem State.pathMissed_undecided (s : State) (n k : Nat) (hk : k ∉ s.decidedTides n) : s.pathMissed n k = s := by
  have hany : (s.syncOf n).decisions.any (fun d => d.tide == k && d.reason == 0) = false := by
    rw [List.any_eq_false]
    intro d hd h
    rw [Bool.and_eq_true, beq_iff_eq] at h
    exact hk (List.mem_map.mpr ⟨d, hd, h.1⟩)
  simp only [State.pathMissed, hany, Bool.false_eq_true, if_false]

theorem DecisionKeeps.lfsSchedule {e : Int} {k : Nat} (h : DecisionKeeps m o s t)
    (ho : inPage (32 + (m - 32)) = o ∨ k ∉ t.decidedTides (32 + (m - 32))) : DecisionKeeps m o s (t.lfsSchedule (m - 32) e k) := by
  unfold State.lfsSchedule
  extract_lets x before close cut
  split
  · unfold State.lfsMissed
    have h₁ : DecisionKeeps m o s ((t.countSat (rxPage (m - 32)) CsiRx.LFS_STAT_MISSED).event (rxPage (m - 32)) 4) :=
      DecisionKeeps.event (h.put _ (decisionPlace_counter (by decide) (by decide)) (by decide) (by decide))
    rcases ho with ho | ho
    · exact h₁.pathMissed (Or.inr ho)
    · rw [State.pathMissed_undecided ((t.countSat (rxPage (m - 32)) CsiRx.LFS_STAT_MISSED).event (rxPage (m - 32)) 4) _ _ ho]
      exact h₁
  · exact h.trans (DecisionKeeps.of_eq rfl rfl rfl)

theorem DecisionKeeps.deliverEdge {d : SyncDecision} {dep : Int} (h : DecisionKeeps m o s t)
    (ho : inPage (32 + (m - 32)) = o ∨ d.tide ∉ t.decidedTides (32 + (m - 32))) : DecisionKeeps m o s (t.deliverEdge m d dep) := by
  unfold State.deliverEdge
  extract_lets outs msg
  split
  · exact h.lfsSchedule ho
  · split
    · exact h.pathMissed (Or.inl rfl)
    · split
      · refine DecisionKeeps.pathMissed ?_ (Or.inl rfl)
        exact h.put _ (decisionPlace_counter (by decide) (by decide)) (by decide) (by decide)
      · refine ⟨h.regs.regs rfl, h.tide, fun n hn => ?_, h.events⟩
        rw [State.lane_putLane_other _ _ _ _ hn.symm]
        exact h.lanes n hn

end

/-! ## The decision itself -/

/-- What a decision shows of itself (R205). -/
def State.noteDecision (s : State) (n : Nat) (d : SyncDecision) (v fit : Nat) (last : Option Int) : State :=
  (((((s.putSync n { s.syncOf n with decisions := (d :: (s.syncOf n).decisions).take 16, lastEdge := last }).put (inPage n) Inlet.SYNC_EXP_NOW_V v).put
    (inPage n) Inlet.SYNC_FIT_NS fit).put (inPage n) Inlet.SYNC_STAT_LAST_REASON d.reason).put (inPage n) Inlet.SYNC_STAT_PRED (bit d.pred))

/-- What a decision whose edge is driven shows (R206). -/
def State.noteEdge (s : State) (n : Nat) (edge : Int) : State :=
  ((((s.put (inPage n) Inlet.SYNC_EDGE_LO_EDGE (ofSigned 64 edge)).put (inPage n) Inlet.SYNC_EDGE_HI_EDGE (ofSigned 64 edge / 2 ^ 32)).countWrap
    (inPage n) Inlet.SYNC_CNT0_SENT).put (inPage n) Inlet.SYNC_STAT_SKIP_RUN 0).judgeSyncLost

/-- The edge of a decision, in 1/16 ns, with what it is computed from (R205). -/
def State.decisionTerms (s : State) (n k T mid : Nat) : Int × Int × Int :=
  let set := s.syncSettings n k 0
  let l := rhoMul set.rho ((set.sens * 4096 + set.refRow * set.row : Nat) : Int)
  let e := exposureOf (s.valueFor n k).1 set.unit set.bias
  let target : Int := (T + mid : Nat) + toSigned 32 (s.sy n Inlet.SYNC_SKEW_SKEW_NS)
  let h2 := rhoMul set.rho e
  (roundHalfEven (target * 131072 - 2 * l + (if set.anchor = 0 then -h2 else h2)) 8192, l, e)

/-- The reason of a decision (R205): no link, too late, too soon after the last edge, or none. -/
def State.decisionReason (s : State) (n k T mid hor : Nat) : Nat :=
  let edge := (s.decisionTerms n k T mid).1
  let q : Int := (T + mid : Nat) - (hor : Int)
  if s.sy n Inlet.SYNC_CFG_MODE = 1 && (!s.linkOperating n || !s.flag (wePage n) Weatas.LAT_CABLE_VALID) then 3
  else if edge - s.pathOf n < 16 * (q + 2000) then 1
  else if (s.syncOf n).lastEdge.any fun t => decide (edge - t < 16 * s.sy n Inlet.SYNC_MIN_INT_NS) then 2 else 0

theorem State.decidePort_eq (s : State) (n k T mid hor : Nat) :
    ∃ (d : SyncDecision) (v fit : Nat) (last : Option Int) (dep : Int), d.tide = k ∧ (s.sy n Inlet.SYNC_CFG_MODE = 1 → s.linkOperating n = false → d.reason = 3) ∧
      s.decidePort n k T mid hor = if d.reason ≠ 0 then (s.noteDecision n d v fit last).countSkip n
        else ((s.noteDecision n d v fit last).noteEdge n d.edge).deliverEdge n d dep := by
  let (edge, l, e) := s.decisionTerms n k T mid
  let d : SyncDecision := { s.syncSettings n k 0 with
    reason := s.decisionReason n k T mid hor, edge := (s.decisionTerms n k T mid).1, v := (s.valueFor n k).1, pred := (s.valueFor n k).2,
    l := (s.decisionTerms n k T mid).2.1, e := (s.decisionTerms n k T mid).2.2 }
  refine ⟨d, (s.valueFor n k).1, fitOf d _, if s.decisionReason n k T mid hor = 0 then some d.edge else (s.syncOf n).lastEdge, d.edge - s.pathOf n, rfl,
    fun hmode hlink => ?_, rfl⟩
  show s.decisionReason n k T mid hor = 3
  rw [State.decisionReason]
  simp [hmode, hlink]

/-! ## A skipped tide -/

theorem State.countSkip_lanes (s : State) (n : Nat) : (s.countSkip n).lanes = s.lanes := by
  unfold State.countSkip State.judgeSyncLost State.mapPort
  rw [State.cond_lanes, State.event_lanes]
  split <;> rfl

theorem State.eventBit_countSkip (s : State) (n : Nat) : (s.countSkip n).eventBit syncPage 0 = true := by
  unfold State.countSkip State.judgeSyncLost
  rw [State.eventBit, State.get_cond_other _ _ _ (by simp +decide)]
  exact State.eventBit_event _ _ (by decide)

theorem State.countSkip_skipped (s : State) (n : Nat) : (s.countSkip n).get (inPage n) Inlet.SYNC_CNT0_SKIPPED =
    min (s.get (inPage n) Inlet.SYNC_CNT0_SKIPPED + 1) (Inlet.SYNC_CNT0_SKIPPED.size - 1) := by
  have hsy : ∀ g : Field, g.place < 0x8000 → fieldKey syncPage g ≠ fieldKey (inPage n) Inlet.SYNC_CNT0_SKIPPED := fun g hg =>
    fieldKey_page hg (by decide) (syncPage_ne_inPage n)
  let u := (s.countSat (inPage n) Inlet.SYNC_CNT0_SKIPPED).countSat (inPage n) Inlet.SYNC_STAT_SKIP_RUN
  have hu : u.get (inPage n) Inlet.SYNC_CNT0_SKIPPED = min (s.get (inPage n) Inlet.SYNC_CNT0_SKIPPED + 1) (Inlet.SYNC_CNT0_SKIPPED.size - 1) :=
    (State.get_put_other _ _ (by simp +decide)).trans (State.get_countSat_same ..)
  unfold State.countSkip State.judgeSyncLost State.mapPort
  rw [State.get_cond_other _ _ _ (hsy _ (by decide)), State.get_event_other _ _ (hsy _ (by decide))]
  split
  · exact (State.get_put_other _ _ (hsy _ (by decide))).trans hu
  · exact (State.get_put_other _ _ (hsy _ (by decide))).trans hu

/-! ## The tides that are decided -/

theorem State.countSkip_syncs (s : State) (n : Nat) : (s.countSkip n).syncs = s.syncs := by
  unfold State.countSkip State.judgeSyncLost State.mapPort
  rw [State.cond_syncs, State.event_syncs]
  split <;> rfl

theorem State.decidedTides_pathMissed (s : State) (n k j : Nat) : (s.pathMissed n k).decidedTides j = s.decidedTides j := by
  unfold State.pathMissed
  extract_lets x
  split
  · rw [State.decidedTides_congr (State.countSkip_syncs ..)]
    show (State.putSync s n _).decidedTides j = _
    rw [State.decidedTides, State.syncOf_putSync]
    by_cases hj : n = j
    · subst hj
      rw [if_pos rfl, State.decidedTides, List.map_map]
      refine List.map_congr_left fun d _ => ?_
      show (if _ then _ else _ : SyncDecision).tide = d.tide
      split <;> rfl
    · rw [if_neg hj, State.decidedTides]
  · rfl

theorem State.decidedTides_deliverEdge (s : State) (n : Nat) (d : SyncDecision) (dep : Int) (j : Nat) :
    (s.deliverEdge n d dep).decidedTides j = s.decidedTides j := by
  unfold State.deliverEdge
  extract_lets outs msg
  split
  · unfold State.lfsSchedule
    extract_lets x before close cut
    split
    · unfold State.lfsMissed
      exact State.decidedTides_pathMissed ..
    · rfl
  · split
    · exact State.decidedTides_pathMissed ..
    · split
      · exact State.decidedTides_pathMissed ..
      · rfl

theorem State.decidedTides_noteDecision (s : State) (n : Nat) (d : SyncDecision) (v fit : Nat) (last : Option Int) (j : Nat) :
    (s.noteDecision n d v fit last).decidedTides j = if n = j then (d.tide :: s.decidedTides n).take 16 else s.decidedTides j := by
  show (State.putSync s n _).decidedTides j = _
  rw [State.decidedTides, State.syncOf_putSync]
  by_cases hj : n = j
  · rw [if_pos hj, if_pos hj, State.decidedTides, List.map_take, List.map_cons]
  · rw [if_neg hj, if_neg hj, State.decidedTides]

theorem DecisionKeeps.noteDecision {m o : Nat} {s : State} (d : SyncDecision) (v fit : Nat) (last : Option Int) :
    DecisionKeeps m o s (s.noteDecision m d v fit last) := by
  have h : DecisionKeeps m o s (s.putSync m { s.syncOf m with decisions := (d :: (s.syncOf m).decisions).take 16, lastEdge := last }) :=
    DecisionKeeps.of_eq rfl rfl rfl
  exact (((h.put _ (decisionPlace_inlet (by decide)) (by decide) (by decide)).put _ (decisionPlace_inlet (by decide)) (by decide) (by decide)).put _
    (decisionPlace_inlet (by decide)) (by decide) (by decide)).put _ (decisionPlace_inlet (by decide)) (by decide) (by decide)

theorem DecisionKeeps.noteEdge {m o : Nat} {s t : State} (h : DecisionKeeps m o s t) (edge : Int) : DecisionKeeps m o s (t.noteEdge m edge) :=
  DecisionKeeps.cond ((((h.put _ (decisionPlace_inlet (by decide)) (by decide) (by decide)).put _ (decisionPlace_inlet (by decide)) (by decide)
    (by decide)).put _ (decisionPlace_inlet (by decide)) (by decide) (by decide)).put _ (decisionPlace_inlet (by decide)) (by decide) (by decide))

theorem State.noteEdge_syncs (s : State) (n : Nat) (edge : Int) : (s.noteEdge n edge).syncs = s.syncs := State.cond_syncs ..

theorem State.decidePort_keeps (s : State) (n k T mid hor : Nat) {o : Nat} (ho : inPage (32 + (n - 32)) = o ∨ (n < 32 ∧ k ∉ s.decidedTides 32)) :
    DecisionKeeps n o s (s.decidePort n k T mid hor) := by
  obtain ⟨d, v, fit, last, dep, htide, -, heq⟩ := s.decidePort_eq n k T mid hor
  rw [heq]
  split
  · exact (DecisionKeeps.noteDecision d v fit last).countSkip (Or.inl rfl)
  · refine ((DecisionKeeps.noteDecision d v fit last).noteEdge d.edge).deliverEdge (ho.imp id fun ⟨hn, hk⟩ => ?_)
    rw [State.decidedTides_congr (State.noteEdge_syncs ..), State.decidedTides_noteDecision, if_neg (by omega), htide, Nat.sub_eq_zero_of_le (by omega)]
    exact hk

/-- A port's decision of tide k is its latest, and adds nothing at another port. -/
theorem State.decidedTides_decidePort (s : State) (n k T mid hor j : Nat) :
    (s.decidePort n k T mid hor).decidedTides j = if n = j then (k :: s.decidedTides n).take 16 else s.decidedTides j := by
  obtain ⟨d, v, fit, last, dep, htide, -, heq⟩ := s.decidePort_eq n k T mid hor
  rw [heq, ← htide]
  split
  · rw [State.decidedTides_congr (State.countSkip_syncs ..), State.decidedTides_noteDecision]
  · rw [State.decidedTides_deliverEdge, State.decidedTides_congr (State.noteEdge_syncs ..), State.decidedTides_noteDecision]

/-- A decision for want of a link shows its reason, counts, and sends nothing. -/
theorem State.decidePort_noLink (s : State) (n k T mid hor : Nat) (hmode : s.sy n Inlet.SYNC_CFG_MODE = 1) (hlink : s.linkOperating n = false) :
    (s.decidePort n k T mid hor).get (inPage n) Inlet.SYNC_STAT_LAST_REASON = 3 ∧ (s.decidePort n k T mid hor).lane n = s.lane n ∧
    (s.decidePort n k T mid hor).eventBit syncPage 0 = true ∧
    (s.decidePort n k T mid hor).get (inPage n) Inlet.SYNC_CNT0_SKIPPED =
      min (s.get (inPage n) Inlet.SYNC_CNT0_SKIPPED + 1) (Inlet.SYNC_CNT0_SKIPPED.size - 1) := by
  obtain ⟨d, v, fit, last, dep, -, hreason, heq⟩ := s.decidePort_eq n k T mid hor
  have hreason := hreason hmode hlink
  rw [heq, if_pos (by rw [hreason]; decide)]
  let u := s.noteDecision n d v fit last
  have hsync := syncPage_ne_inPage n
  have hskipped : u.get (inPage n) Inlet.SYNC_CNT0_SKIPPED = s.get (inPage n) Inlet.SYNC_CNT0_SKIPPED :=
    (State.get_put_other _ _ (by simp +decide)).trans ((State.get_put_other _ _ (by simp +decide)).trans ((State.get_put_other _ _
      (by simp +decide)).trans (State.get_put_other _ _ (by simp +decide))))
  refine ⟨?_, ?_, ?_, ?_⟩
  · rw [State.get_countSkip _ _ (by decide) hsync (by decide)]
    refine (State.get_put_other _ _ (by simp +decide)).trans ((State.get_put_same ..).trans ?_)
    rw [hreason]
    rfl
  · rw [State.lane, State.countSkip_lanes]
    rfl
  · exact State.eventBit_countSkip ..
  · rw [State.countSkip_skipped, hskipped]

/-! ## All ports of the family -/

theorem State.foldl_decidePort_tides (l : List Nat) (s : State) (k T mid hor j : Nat) (hj : j ∉ l) :
    (l.foldl (fun s n => s.decidePort n k T mid hor) s).decidedTides j = s.decidedTides j := by
  induction l generalizing s with
  | nil => rfl
  | cons n l ih =>
    rw [List.mem_cons, not_or] at hj
    rw [List.foldl_cons, ih _ hj.2, State.decidedTides_decidePort, if_neg (Ne.symm hj.1)]

theorem State.foldl_decidePort_decides (l : List Nat) (s : State) (k T mid hor j : Nat) (hl : l.Nodup) (hj : j ∈ l) :
    k ∈ (l.foldl (fun s n => s.decidePort n k T mid hor) s).decidedTides j := by
  induction l generalizing s with
  | nil => exact absurd hj List.not_mem_nil
  | cons n l ih =>
    rw [List.nodup_cons] at hl
    rw [List.foldl_cons]
    rcases List.mem_cons.mp hj with rfl | hj
    · rw [State.foldl_decidePort_tides _ _ _ _ _ _ _ hl.1, State.decidedTides_decidePort, if_pos rfl]
      simp
    · exact ih _ hl.2 hj

/-- What is read of port n's Inlet, lane and link before and after another port's decision. -/
structure SamePort (n : Nat) (s t : State) : Prop where
  inlet : ∀ f : Field, f.place < 0x4000 → f.place ≠ Hdr.EVT_STAT_EVENT.place → f.place ≠ CsiRx.LFS_STAT_MISSED.place →
    f.place ≠ Weatas.FSYNC_COUNT_MISSED.place → t.get (inPage n) f = s.get (inPage n) f
  mode : t.sy n Inlet.SYNC_CFG_MODE = s.sy n Inlet.SYNC_CFG_MODE
  link : t.linkOperating n = s.linkOperating n
  lane : t.lane n = s.lane n

theorem SamePort.refl (n : Nat) (s : State) : SamePort n s s := ⟨fun _ _ _ _ _ => rfl, rfl, rfl, rfl⟩
theorem SamePort.trans {n : Nat} {s t u : State} (h : SamePort n s t) (h' : SamePort n t u) : SamePort n s u :=
  ⟨fun f h1 h2 h3 h4 => (h'.inlet f h1 h2 h3 h4).trans (h.inlet f h1 h2 h3 h4), h'.mode.trans h.mode, h'.link.trans h.link, h'.lane.trans h.lane⟩

theorem DecisionKeeps.samePort {m o n : Nat} {s t : State} (h : DecisionKeeps m o s t) (hm : m < 40) (hn : n < 40) (hne : n ≠ m) (ho : inPage n ≠ o)
    (ho' : wePage n ≠ o) : SamePort n s t := by
  have hinlet : ∀ p, p < 40 → inPage p = (if p < 32 then 0x140 + p else 0x150 + p) := fun _ _ => rfl
  have hpage : inPage n ≠ inPage m := by
    rw [hinlet n hn, hinlet m hm]
    split <;> split <;> omega
  have hwe : ∀ p, p < 40 → wePage n ≠ inPage p := by
    intro p hp
    rw [hinlet p hp]
    show 0x100 + n ≠ _
    split <;> omega
  refine ⟨fun f hf hevt hlfs hfsync => h.regs.get ?_, h.regs.live ?_, ?_, h.lanes n hne⟩
  · rintro (⟨hp, -⟩ | hp)
    · rw [fieldKey_div (by omega)] at hp
      rcases hp with hp | hp | hp
      · exact hpage hp
      · exact ho hp
      · exact syncPage_ne_inPage n hp.symm
    · rw [fieldKey_mod (by omega)] at hp
      simp only [List.mem_cons, List.not_mem_nil, or_false] at hp
      rcases hp with hp | hp | hp
      · exact hfsync hp
      · exact hlfs hp
      · exact hevt hp
  · rintro (⟨-, hp⟩ | hp)
    · rw [liveKey_mod (by decide)] at hp
      omega
    · rw [liveKey_mod (by decide)] at hp
      revert hp
      decide
  · have hlink : t.linkState n = s.linkState n := by
      refine h.regs.get ?_
      rintro (⟨hp, -⟩ | hp)
      · rw [fieldKey_div (by decide)] at hp
        rcases hp with hp | hp | hp
        · exact hwe m hm hp
        · exact ho' hp
        · exact absurd hp (show 0x100 + n ≠ 0x13 by omega)
      · rw [fieldKey_mod (by decide)] at hp
        revert hp
        decide
    rw [State.linkOperating, hlink, State.linkOperating]

/-- A port's decision leaves the ports before it, and those after it that have not decided the tide. -/
theorem State.decidePort_samePort (s : State) (m n k T mid hor : Nat) (hm : m < 40) (hn : n < 40) (hmn : n < m ∨ (m < n ∧ k ∉ s.decidedTides n)) :
    SamePort n s (s.decidePort m k T mid hor) := by
  have hinlet : ∀ p, inPage p = (if p < 32 then 0x140 + p else 0x150 + p) := fun _ => rfl
  by_cases h32 : n = 32 ∧ m < 32
  · obtain ⟨rfl, hm32⟩ := h32
    have hk : k ∉ s.decidedTides 32 := by
      rcases hmn with h | h
      · omega
      · exact h.2
    exact (s.decidePort_keeps m k T mid hor (o := syncPage) (Or.inr ⟨hm32, hk⟩)).samePort hm hn (by omega) (by decide) (by decide)
  · refine (s.decidePort_keeps m k T mid hor (Or.inl rfl)).samePort hm hn (by omega) ?_ ?_
    · rw [hinlet, hinlet]
      split <;> split <;> omega
    · rw [hinlet]
      show 0x100 + n ≠ _
      split <;> omega

theorem State.foldl_decidePort_samePort (l : List Nat) (s : State) (k T mid hor n : Nat) (hl : ∀ m ∈ l, m < 40) (hn : n < 40)
    (hnl : ∀ m ∈ l, n < m ∨ (m < n ∧ k ∉ s.decidedTides n)) : SamePort n s (l.foldl (fun s n => s.decidePort n k T mid hor) s) := by
  induction l generalizing s with
  | nil => exact SamePort.refl n s
  | cons m l ih =>
    have hm := hnl m List.mem_cons_self
    refine (s.decidePort_samePort m n k T mid hor (hl m List.mem_cons_self) hn hm).trans (ih _ (fun p hp => hl p (List.mem_cons_of_mem _ hp)) ?_)
    intro p hp
    refine (hnl p (List.mem_cons_of_mem _ hp)).imp id fun h => ⟨h.1, ?_⟩
    rw [State.decidedTides_decidePort, if_neg (by omega)]
    exact h.2

theorem State.foldl_decidePort_keeps (l : List Nat) (s : State) (k T mid hor : Nat) :
    (l.foldl (fun s n => s.decidePort n k T mid hor) s).tide = s.tide ∧
    ∀ b < 32, s.eventBit syncPage b = true → (l.foldl (fun s n => s.decidePort n k T mid hor) s).eventBit syncPage b = true := by
  induction l generalizing s with
  | nil => exact ⟨rfl, fun _ _ h => h⟩
  | cons n l ih =>
    have hk := s.decidePort_keeps n k T mid hor (Or.inl rfl)
    exact ⟨(ih _).1.trans hk.tide, fun b hb h => (ih _).2 b hb (hk.events b hb h)⟩

/-- Of ports that decide one after the other, one without a link shows NO_LINK. -/
theorem State.foldl_decidePort_noLink (l : List Nat) (s : State) (k T mid hor n : Nat) (hl : ∀ m ∈ l, m < 40) (hsorted : l.Pairwise (· < ·)) (hn : n ∈ l)
    (hk : k ∉ s.decidedTides n) (hmode : s.sy n Inlet.SYNC_CFG_MODE = 1) (hlink : s.linkOperating n = false) :
    (l.foldl (fun s n => s.decidePort n k T mid hor) s).get (inPage n) Inlet.SYNC_STAT_LAST_REASON = 3 ∧
    (l.foldl (fun s n => s.decidePort n k T mid hor) s).lane n = s.lane n ∧
    (l.foldl (fun s n => s.decidePort n k T mid hor) s).eventBit syncPage 0 = true ∧
    (l.foldl (fun s n => s.decidePort n k T mid hor) s).get (inPage n) Inlet.SYNC_CNT0_SKIPPED =
      min (s.get (inPage n) Inlet.SYNC_CNT0_SKIPPED + 1) (Inlet.SYNC_CNT0_SKIPPED.size - 1) := by
  obtain ⟨a, b, rfl⟩ := List.append_of_mem hn
  rw [List.pairwise_append, List.pairwise_cons] at hsorted
  obtain ⟨-, ⟨hb, -⟩, ha⟩ := hsorted
  have hn40 : n < 40 := hl n hn
  rw [List.foldl_append, List.foldl_cons]
  have hbefore := s.foldl_decidePort_samePort a k T mid hor n (fun m hm => hl m (List.mem_append_left _ hm)) hn40
    fun m hm => Or.inr ⟨ha m hm n List.mem_cons_self, hk⟩
  generalize a.foldl (fun s n => s.decidePort n k T mid hor) s = u at hbefore
  obtain ⟨hreason, hlane, hevent, hskipped⟩ := u.decidePort_noLink n k T mid hor (hbefore.mode.trans hmode) (hbefore.link.trans hlink)
  have hafter := (u.decidePort n k T mid hor).foldl_decidePort_samePort b k T mid hor n
    (fun m hm => hl m (List.mem_append_right _ (List.mem_cons_of_mem _ hm))) hn40 fun m hm => Or.inl (hb m hm)
  refine ⟨(hafter.inlet _ (by decide) (by decide) (by decide) (by decide)).trans hreason, hafter.lane.trans (hlane.trans hbefore.lane),
    (State.foldl_decidePort_keeps b _ k T mid hor).2 0 (by decide) hevent, ?_⟩
  rw [hafter.inlet _ (by decide) (by decide) (by decide) (by decide), hskipped, hbefore.inlet _ (by decide) (by decide) (by decide) (by decide)]

theorem State.gridTime_congr {s t : State} (h : t.tide = s.tide) (f ahead : Nat) : t.gridTime f ahead = s.gridTime f ahead := by
  unfold State.gridTime State.springEnd
  rw [h]

/-- Two operations that agree on what an invariant admits agree along a list. -/
theorem foldl_congr_of_invariant {I : State → Prop} {op op' : State → Nat → State} (hop : ∀ s n, I s → op s n = op' s n ∧ I (op' s n)) (l : List Nat)
    (s : State) (hs : I s) : l.foldl op s = l.foldl op' s := by
  induction l generalizing s with
  | nil => rfl
  | cons n l ih =>
    rw [List.foldl_cons, List.foldl_cons, (hop s n hs).1]
    exact ih _ (hop s n hs).2

/-- The grid time is the same for every port. -/
theorem State.foldl_decidePort_gridTime (l : List Nat) (s : State) (k mid hor f ahead T : Nat) (hT : s.gridTime f ahead = T) :
    l.foldl (fun s n => s.decidePort n k (s.gridTime f ahead) mid hor) s = l.foldl (fun s n => s.decidePort n k T mid hor) s :=
  foldl_congr_of_invariant (I := fun s => s.gridTime f ahead = T)
    (fun s n hs => ⟨congrArg (fun T => s.decidePort n k T mid hor) hs,
      (State.gridTime_congr (s.decidePort_keeps n k T mid hor (Or.inl rfl)).tide f ahead).trans hs⟩) l s hT

/-- The event of a clamped setting leaves the sync unit's ports. -/
theorem State.syncPorts_eventIf (s : State) (c : Bool) (b f : Nat) : (s.eventIf c syncPage b).syncPorts f = s.syncPorts f := by
  have hlive : ∀ (pg : Nat) (g : Field), g.place < 0x4000 → (s.eventIf c syncPage b).live pg g = s.live pg g := by
    intro pg g hg
    have hw : WritesIn (fun key => key % 0x8000 < 0x4000) s (s.eventIf c syncPage b) :=
      (WritesIn.refl _ s).eventIf (by rw [fieldKey_mod (by decide)]; decide)
    refine hw.live ?_
    rw [liveKey_mod hg]
    omega
  unfold State.syncPorts State.refStream State.sy State.streamPlan
  simp only [hlive _ Inlet.SYNC_CFG_MODE (by decide), hlive _ Inlet.SYNC_CFG_REF_VC (by decide), State.eventIf_tide]

theorem syncPorts_lt {s : State} {f n : Nat} (hn : n ∈ s.syncPorts f) : n < 40 := List.mem_range.mp (List.mem_filter.mp hn).1

/-- The ports that a decision of tide k falls to. -/
def State.openPorts (s : State) (f k : Nat) : List Nat := (s.syncPorts f).filter fun n => !(s.syncOf n).decisions.any (fun d => d.tide == k)

theorem State.mem_openPorts (s : State) (f k n : Nat) : n ∈ s.openPorts f k ↔ n ∈ s.syncPorts f ∧ k ∉ s.decidedTides n := by
  rw [State.openPorts, List.mem_filter, Bool.not_eq_true', ← Bool.not_eq_true, State.decided_iff]

theorem State.openPorts_sorted (s : State) (f k : Nat) : (s.openPorts f k).Pairwise (· < ·) :=
  (List.pairwise_lt_range.filter _).filter _

/-- Settles O33: each driven port of the family that has not decided the tide decides it, and no other. -/
theorem eachPortDecidesATideOnce : Obligations.EachPortDecidesATideOnce := by
  intro f s mid hor k ahead clamped hactive hlive hfam hahead hk
  have hplan : s.tide.livePlan.isNone = false := by
    rw [State.planLive] at hlive
    rw [← Option.not_isSome, hlive]
    rfl
  by_cases hbegun : hasBit s.tide.famStarted f = true ∨ ahead = 1
  · let u := s.eventIf clamped syncPage 4
    let T := u.gridTime f ahead
    let t := (u.openPorts f k).foldl (fun s n => s.decidePort n k T mid hor) u
    have htides : ∀ n, u.decidedTides n = s.decidedTides n := State.decidedTides_congr (State.eventIf_syncs ..)
    have hports : u.syncPorts f = s.syncPorts f := State.syncPorts_eventIf ..
    have hopen : ∀ n, n ∈ u.openPorts f k ↔ n ∈ s.syncPorts f ∧ k ∉ s.decidedTides n := by
      intro n
      rw [State.mem_openPorts, hports, htides]
    have ht : exec (.syncDecision f) s = .next t := by
      have hgo : (!hasBit s.tide.famStarted f && ahead == 0) = false := by
        rcases hbegun with h | h
        · rw [h]; rfl
        · rw [h]; simp
      rw [exec, execSyncDecision]
      simp only [hactive, hplan, hfam, Bool.not_true, Bool.or_self, Bool.false_eq_true, if_false, ← hahead, ← hk, hgo]
      exact congrArg Host.Outcome.next (State.foldl_decidePort_gridTime _ u k mid hor f ahead T rfl)
    obtain ⟨htide, hevents⟩ := State.foldl_decidePort_keeps (u.openPorts f k) u k T mid hor
    refine ⟨t, ht, fun h h0 => ?_, fun _ => ⟨fun n hn => ?_, fun n hn hnone hmode hlink => ?_, fun hclamped => ?_⟩, fun n hn => ?_,
      htide.trans (State.eventIf_tide ..), SameMemory.of_exec ht (by rw [exec]; exact answers_syncDecision (Quiet.refl s))⟩
    · rcases hbegun with hb | hb
      · rw [h] at hb
        cases hb
      · omega
    · rw [State.decided_iff]
      by_cases hdone : k ∈ s.decidedTides n
      · rw [State.foldl_decidePort_tides _ _ _ _ _ _ _ (fun hmem => ((hopen n).mp hmem).2 hdone), htides]
        exact hdone
      · exact State.foldl_decidePort_decides _ _ _ _ _ _ _ ((State.openPorts_sorted u f k).imp Nat.ne_of_lt) ((hopen n).mpr ⟨hn, hdone⟩)
    · have hund : k ∉ s.decidedTides n := by rw [← State.decided_iff, hnone]; decide
      have hw : WritesIn (fun key => key = fieldKey syncPage Hdr.EVT_STAT_EVENT) s u := (WritesIn.refl _ s).eventIf rfl
      have hin : ∀ g : Field, g.place < 0x8000 → u.get (inPage n) g = s.get (inPage n) g := fun g hg =>
        hw.get (fieldKey_page hg (by decide) (syncPage_ne_inPage n).symm)
      have hmode' : u.sy n Inlet.SYNC_CFG_MODE = s.sy n Inlet.SYNC_CFG_MODE := by
        refine hw.live fun h => ?_
        have h' := congrArg (· % 0x8000) h
        simp only [liveKey_mod (show Inlet.SYNC_CFG_MODE.place < 0x4000 by decide),
          fieldKey_mod (show Hdr.EVT_STAT_EVENT.place < 0x8000 by decide)] at h'
        revert h'
        decide
      have hlink' : u.linkOperating n = s.linkOperating n := by
        have h : u.linkState n = s.linkState n := hw.get (fieldKey_page (by decide) (by decide) (show 0x100 + n ≠ 0x13 by omega))
        rw [State.linkOperating, h, State.linkOperating]
      have hlane' : u.lane n = s.lane n := by rw [State.lane, State.eventIf_lanes, State.lane]
      obtain ⟨hreason, hlane, hevent, hskipped⟩ := State.foldl_decidePort_noLink (u.openPorts f k) u k T mid hor n
        (fun m hm => syncPorts_lt ((hopen m).mp hm).1) (State.openPorts_sorted u f k) ((hopen n).mpr ⟨hn, hund⟩) (by rw [htides]; exact hund)
        (hmode'.trans hmode) (hlink'.trans hlink)
      refine ⟨hreason, by rw [hlane, hlane'], hevent, ?_⟩
      rw [hskipped, hin _ (by decide)]
    · refine hevents 4 (by decide) ?_
      rw [State.eventBit_eventIf _ (by decide), hclamped]
      simp
    · have hnot : n ∉ u.openPorts f k := by
        rw [hopen]
        rintro ⟨h1, h2⟩
        rcases hn with h | h
        · exact h h1
        · exact h2 ((State.decided_iff ..).mp h)
      exact (State.foldl_decidePort_tides _ _ _ _ _ _ _ hnot).trans (htides n)
  · have hno : hasBit s.tide.famStarted f = false ∧ ahead = 0 := by
      rw [not_or, Bool.not_eq_true] at hbegun
      have hle : ahead = 0 ∨ ahead = 1 := by
        rw [hahead]
        split
        · exact Or.inl rfl
        · exact Or.inr rfl
      exact ⟨hbegun.1, hle.resolve_right hbegun.2⟩
    have ht : exec (.syncDecision f) s = .next s := by
      rw [exec, execSyncDecision]
      simp only [hactive, hplan, hfam, Bool.not_true, Bool.or_self, Bool.false_eq_true, if_false, ← hahead, hno.1, hno.2]
      rfl
    exact ⟨s, ht, fun _ _ => rfl, fun h => absurd h hbegun, fun _ _ => rfl, rfl, fun _ _ => rfl⟩

end Sys2Proof.Machine
end

section
/-!
PROOFS. A Harbour half's channels: training, refresh, the inline-ECC fill and patrol scrub (R284 to R290).
-/
namespace Sys2Proof.Machine

theorem State.harb_congr {s t : State} (h : t.harbours = s.harbours) (k : Nat) : t.harb k = s.harb k := by rw [State.harb, h, State.harb]

theorem hbPage_ne (h : Nat) {p q : Nat} (hpq : p ≠ q) : hbPage h p ≠ hbPage h q := by
  show 0x800 + 0x20 * h + p ≠ 0x800 + 0x20 * h + q
  omega

/-- A field of one page of a half is no field of another of its pages. -/
theorem hbField_ne (h : Nat) {p q : Nat} (hpq : p ≠ q) {f g : Field} (hf : f.place < 0x8000) (hg : g.place < 0x8000) :
    fieldKey (hbPage h p) f ≠ fieldKey (hbPage h q) g := fieldKey_page hf hg (hbPage_ne h hpq)

/-! ## Capacity and the conditions of training -/

theorem State.get_mapCapacity (s : State) (h : Nat) {g : Field} (hg : g.place ∉ [Harbour.HB_CAP_CH_GIB.place, Harbour.HB_CAP_DATA_MIB.place]) :
    (s.mapCapacity h).get (hbPage h 0) g = s.get (hbPage h 0) g :=
  (State.get_put_other _ _ (fieldKey_ne (by decide) hg)).trans (State.get_put_other _ _ (fieldKey_ne (by decide) hg))

theorem State.get_mapCapacity_channel (s : State) (h c : Nat) {g : Field} (hg : g.place < 0x8000) :
    (s.mapCapacity h).get (hbPage h (1 + c)) g = s.get (hbPage h (1 + c)) g :=
  (State.get_put_other _ _ (hbField_ne h (by omega) (by decide) hg)).trans (State.get_put_other _ _ (hbField_ne h (by omega) (by decide) hg))

theorem State.get_judgeTrain (s : State) (h : Nat) {g : Field} (hg : g.place ≠ Hdr.FLT_STAT_FAULT.place) :
    (s.judgeTrain h).get (hbPage h 0) g = s.get (hbPage h 0) g :=
  State.get_cond_other _ _ _ (fieldKey_ne (l := [Hdr.FLT_STAT_FAULT.place]) (by decide) (by simpa using hg))

theorem State.get_judgeTrain_channel (s : State) (h c : Nat) {g : Field} (hg : g.place < 0x8000) :
    (s.judgeTrain h).get (hbPage h (1 + c)) g = s.get (hbPage h (1 + c)) g :=
  State.get_cond_other _ _ _ (hbField_ne h (by omega) (by decide) hg)

theorem State.mapCapacity_harbours (s : State) (h : Nat) : (s.mapCapacity h).harbours = s.harbours := rfl
theorem State.mapCapacity_faults (s : State) (h : Nat) : SameFaults s (s.mapCapacity h) := ⟨rfl, rfl⟩

/-- Any page of a half's channels or of the half itself. -/
theorem halfPage_le (h q : Nat) {f : Field} (hf : f.place < 0x8000) : 0x800 ≤ fieldKey (hbPage h q) f / 0x8000 := by
  rw [fieldKey_div hf]
  show 0x800 ≤ 0x800 + 0x20 * h + q
  omega

theorem State.untrain_writes (s : State) (h c : Nat) : WritesIn (fun key => 0x800 ≤ key / 0x8000) s (s.untrain h c) := by
  unfold State.untrain State.mapCapacity State.judgeTrain
  refine WritesIn.cond ?_ (halfPage_le h 0 (by decide))
  exact (((((WritesIn.refl _ s).putHarb).put _ (halfPage_le h _ (by decide))).put _ (halfPage_le h 0 (by decide))).put _
    (halfPage_le h 0 (by decide))).put _ (halfPage_le h 0 (by decide))

theorem State.judgeTrain_harbours (s : State) (h : Nat) : (s.judgeTrain h).harbours = s.harbours := State.cond_harbours ..

/-- Whether a half counts as off shows on the redundancy page alone. -/
theorem State.judgeOff_keeps (s : State) (h : Nat) {pg : Nat} {g : Field} (hpg : 0x40 ≠ pg) (hg : g.place < 0x8000) :
    (s.judgeOff h).get pg g = s.get pg g ∧ (s.judgeOff h).harbours = s.harbours := by
  have hf : (if h = 0 then Seawall.SW_STAT_STATE_H0 else Seawall.SW_STAT_STATE_H1).place < 0x8000 := by split <;> decide
  unfold State.judgeOff
  extract_lets st f
  split
  · exact ⟨State.get_put_other _ _ (fieldKey_page hf hg hpg), rfl⟩
  · split
    · exact ⟨State.get_put_other _ _ (fieldKey_page hf hg hpg), rfl⟩
    · exact ⟨rfl, rfl⟩

theorem hbPage_ne_seawall (h p : Nat) : 0x40 ≠ hbPage h p := by
  show 0x40 ≠ 0x800 + 0x20 * h + p
  omega

/-! ## Training (R284) -/

/-- A channel of four is up, or not, as its bit of HB_STAT says. -/
theorem hasBit_four {a : Nat} (c : Fin 4) : hasBit (a % 2 ^ 4) c = hasBit a c := by
  rw [hasBit, Nat.testBit_mod_two_pow, hasBit, decide_eq_true c.isLt, Bool.true_and]

theorem channelTrained_up (h : Fin 2) (c : Fin 4) (gib : Fin 256) (s : State) (hgib : [1, 2, 4, 8, 16].contains gib.val = true) :
    Completes (.channelTrained h c gib) s fun t =>
      t.flag (hbPage h (1 + c)) Harbour.CH_STAT_TRAINED = true ∧ t.get (hbPage h (1 + c)) Harbour.CH_STAT_DEV_GIB = gib.val ∧
      hasBit (t.get (hbPage h 0) Harbour.HB_STAT_CH_UP) c = true ∧ hasBit (t.harb h).badChannels c = false ∧
      hasBit (t.harb h).linkEcc c = s.flag (hbPage h 0) Harbour.HB_CFG_LINK_ECC := by
  let p := hbPage h (1 + c)
  let x := s.harb h
  let s₁ := (((s.put p Harbour.CH_STAT_DEV_GIB gib).put p Harbour.CH_STAT_TRAINED 1).put p Harbour.CH_STAT_SR 0)
  let s₂ := s₁.put (hbPage h 0) Harbour.HB_STAT_CH_UP (setBit (s₁.get (hbPage h 0) Harbour.HB_STAT_CH_UP) c)
  let link := if s₂.flag (hbPage h 0) Harbour.HB_CFG_LINK_ECC then setBit x.linkEcc c else clearBit x.linkEcc c
  let s₃ := (s₂.putHarb h { x with badChannels := clearBit x.badChannels c, linkEcc := link }).judgeTrain h
  let s₄ := s₃.eventIf (gib.val == 16) (hbPage h 0) 1
  let gibs := [1, 2, 3, 4].map fun q => s₄.get (hbPage h q) Harbour.CH_STAT_DEV_GIB
  let s₅ := s₄.eventIf (s₄.harbourTrained h && gibs.any (· != gib.val)) (hbPage h 0) 2
  have ht : exec (.channelTrained h c gib) s = .next ((s₅.mapCapacity h).judgeOff h) := by
    rw [exec, execChannelTrained]
    exact congrArg Host.Outcome.next (if_pos hgib)
  have hchannel : ∀ g : Field, g.place < 0x8000 → ((s₅.mapCapacity h).judgeOff h).get p g = s₁.get p g := by
    intro g hg
    rw [(State.judgeOff_keeps _ _ (hbPage_ne_seawall _ _) hg).1, State.get_mapCapacity_channel _ _ _ hg,
      State.get_eventIf_other _ _ _ (hbField_ne h (by omega) (by decide) hg), State.get_eventIf_other _ _ _ (hbField_ne h (by omega) (by decide) hg),
      State.get_judgeTrain_channel _ _ _ hg]
    exact State.get_put_other _ _ (hbField_ne h (by omega) (by decide) hg)
  have hflag : s₂.flag (hbPage h 0) Harbour.HB_CFG_LINK_ECC = s.flag (hbPage h 0) Harbour.HB_CFG_LINK_ECC := by
    refine State.flag_congr _ ((State.get_put_other _ _ (by simp +decide)).trans ?_)
    refine (State.get_put_other _ _ (hbField_ne h (by omega) (by decide) (by decide))).trans ((State.get_put_other _ _
      (hbField_ne h (by omega) (by decide) (by decide))).trans (State.get_put_other _ _ (hbField_ne h (by omega) (by decide) (by decide))))
  have hharb : ((s₅.mapCapacity h).judgeOff h).harb h = { x with badChannels := clearBit x.badChannels c, linkEcc := link } := by
    rw [State.harb_congr (State.judgeOff_keeps _ _ (hbPage_ne_seawall h 0) (g := Harbour.HB_STAT_CH_UP) (by decide)).2]
    show s₅.harb h = _
    rw [State.harb_congr (State.eventIf_harbours ..), State.harb_congr (State.eventIf_harbours ..), State.harb_congr (State.judgeTrain_harbours ..)]
    exact State.harb_putHarb_same ..
  have hup : ((s₅.mapCapacity h).judgeOff h).get (hbPage h 0) Harbour.HB_STAT_CH_UP = s₂.get (hbPage h 0) Harbour.HB_STAT_CH_UP := by
    rw [(State.judgeOff_keeps _ _ (hbPage_ne_seawall _ _) (by decide)).1, State.get_mapCapacity _ _ (by decide),
      State.get_eventIf_other _ _ _ (by simp +decide), State.get_eventIf_other _ _ _ (by simp +decide), State.get_judgeTrain _ _ (by decide)]
    rfl
  refine ⟨_, ht, ?_, ?_, ?_, ?_, ?_⟩
  · rw [State.flag, hchannel _ (by decide), show s₁.get p Harbour.CH_STAT_TRAINED = _ from State.get_put_other _ _ (by simp +decide), State.get_put_same]
    rfl
  · rw [hchannel _ (by decide), show s₁.get p Harbour.CH_STAT_DEV_GIB = _ from State.get_put_other _ _ (by simp +decide),
      State.get_put_other _ _ (by simp +decide), State.get_put_same]
    exact Nat.mod_eq_of_lt gib.isLt
  · rw [hup, show s₂.get (hbPage h 0) Harbour.HB_STAT_CH_UP = _ from State.get_put_same ..]
    exact hasBit_setBit_four _ c
  · rw [hharb]
    show hasBit (clearBit x.badChannels c) c = false
    rw [hasBit_clearBit]
    simp
  · rw [hharb, ← hflag]
    show hasBit link c = _
    cases hl : s₂.flag (hbPage h 0) Harbour.HB_CFG_LINK_ECC
    · rw [show link = clearBit x.linkEcc c from if_neg (by rw [hl]; decide), hasBit_clearBit]
      simp
    · rw [show link = setBit x.linkEcc c from if_pos hl, hasBit_setBit]
      simp

theorem channelTrained_fails (h : Fin 2) (c : Fin 4) (gib : Fin 256) (s : State) (hgib : [1, 2, 4, 8, 16].contains gib.val = false) :
    Completes (.channelTrained h c gib) s fun t =>
      t.flag (hbPage h (1 + c)) Harbour.CH_STAT_TRAINED = false ∧ hasBit (t.get (hbPage h 0) Harbour.HB_STAT_CH_UP) c = false ∧
      hasBit (t.harb h).badChannels c = true ∧ (s.powered (44 + 4 * h + c) = true → t.condBit (hbPage h 0) 0 = true) := by
  let p := hbPage h (1 + c)
  let u := s.untrain h c
  let v := u.putHarb h { u.harb h with badChannels := setBit (u.harb h).badChannels c }
  have ht : exec (.channelTrained h c gib) s = .next (v.judgeTrain h) := by
    rw [exec, execChannelTrained]
    exact congrArg Host.Outcome.next (if_neg (by rw [hgib]; decide))
  have htrained : u.get p Harbour.CH_STAT_TRAINED = 0 := by
    refine (State.get_judgeTrain_channel _ _ _ (by decide)).trans ((State.get_mapCapacity_channel _ _ _ (by decide)).trans ?_)
    refine (State.get_put_other _ _ (hbField_ne h (by omega) (by decide) (by decide))).trans ((State.get_put_same ..).trans rfl)
  have hup : hasBit (u.get (hbPage h 0) Harbour.HB_STAT_CH_UP) c = false := by
    rw [show u.get (hbPage h 0) Harbour.HB_STAT_CH_UP = _ from (State.get_judgeTrain _ _ (by decide)).trans ((State.get_mapCapacity _ _ (by decide)).trans
      (State.get_put_same ..))]
    refine (hasBit_four c).trans ?_
    rw [hasBit_clearBit]
    simp
  have hbad : (v.harb h).badChannels = setBit (u.harb h).badChannels c := by rw [State.harb_putHarb_same]
  have hpower : v.powered (44 + 4 * h + c) = s.powered (44 + 4 * h + c) := by
    have hw : WritesIn (fun key => 0x800 ≤ key / 0x8000) s v := (s.untrain_writes h c).putHarb
    have hplace : ∀ (h : Fin 2) (c : Fin 4), (Chip.PD_CTRL_ACK.nth (44 + 4 * h + c)).place < 0x8000 := by decide
    refine hw.flag ?_
    rw [fieldKey_div (hplace h c)]
    decide
  have hvtrained : v.get p Harbour.CH_STAT_TRAINED = 0 := (State.get_putHarb u h _ _ _).trans htrained
  have hvup : hasBit (v.get (hbPage h 0) Harbour.HB_STAT_CH_UP) c = false := by
    rw [show v.get (hbPage h 0) Harbour.HB_STAT_CH_UP = u.get (hbPage h 0) Harbour.HB_STAT_CH_UP from State.get_putHarb u h _ _ _]
    exact hup
  refine ⟨_, ht, ?_, ?_, ?_, fun hp => ?_⟩
  · rw [State.flag, State.get_judgeTrain_channel _ _ _ (by decide), hvtrained]
    rfl
  · rw [State.get_judgeTrain _ _ (by decide)]
    exact hvup
  · rw [State.harb_congr (State.judgeTrain_harbours ..), hbad, hasBit_setBit]
    simp
  · have hopen : ([0, 1, 2, 3].any fun c => v.powered (44 + 4 * h + c) && !v.flag (hbPage h (1 + c)) Harbour.CH_STAT_TRAINED) = true := by
      refine List.any_eq_true.mpr ⟨c, ?_, ?_⟩
      · have : ∀ c : Fin 4, c.val ∈ [0, 1, 2, 3] := by decide
        exact this c
      · rw [hpower, hp, State.flag, hvtrained]
        rfl
    have hset : (v.harb h).badChannels ≠ 0 := by
      intro h0
      rw [hbad] at h0
      have hbit : hasBit (setBit (u.harb h).badChannels c) c = true := by simp
      rw [h0] at hbit
      simp [hasBit] at hbit
    rw [State.judgeTrain, State.condBit_cond, hopen, Bool.true_and, Bool.or_eq_true]
    exact Or.inl (bne_iff_ne.mpr hset)

/-! ## Refresh (R289, R290) -/

theorem refresh_completes (h : Fin 2) (c : Fin 4) (due : Bool) (s : State) :
    Completes (.refresh h (c, due)) s fun t =>
      (s.lowestFamily.any s.inSlack = true → due = true ∨ s.requestWaits h c false = false →
        (t.harb h).slackRefreshes = (s.harb h).slackRefreshes + 1) ∧
      (s.lowestFamily.any s.inSlack = false ∨ (due = false ∧ s.requestWaits h c false = true) → t = s) ∧
      t.regs = s.regs ∧ SameMemory s t ∧ SameFaults s t := by
  by_cases hgo : (s.lowestFamily.any s.inSlack && (due || !s.requestWaits h c false)) = true
  · have ht : exec (.refresh h (c, due)) s = .next (s.putHarb h { s.harb h with slackRefreshes := (s.harb h).slackRefreshes + 1 }) := by
      rw [exec, execRefresh]
      exact congrArg Host.Outcome.next (if_pos hgo)
    refine ⟨_, ht, fun _ _ => by rw [State.harb_putHarb_same], fun hno => ?_, rfl,
      SameMemory.of_exec ht (by rw [exec]; exact answers_refresh (Quiet.refl s)), rfl, rfl⟩
    rcases hno with hno | ⟨hdue, hwaits⟩
    · rw [hno] at hgo
      simp at hgo
    · rw [hdue, hwaits] at hgo
      simp at hgo
  · have ht : exec (.refresh h (c, due)) s = .next s := by
      rw [exec, execRefresh]
      exact congrArg Host.Outcome.next (if_neg hgo)
    refine ⟨_, ht, fun hslack hor => absurd ?_ hgo, fun _ => rfl, rfl, fun _ _ => rfl, rfl, rfl⟩
    rw [hslack]
    rcases hor with hor | hor <;> rw [hor] <;> simp

theorem refreshRatePoll_completes (h : Fin 2) (c : Fin 4) (mult : Fin 3) (corr : Fin 65536) (s : State) :
    Completes (.refreshRatePoll h c mult corr) s fun t =>
      t.get (hbPage h (1 + c)) Harbour.CH_STAT_REF_MULT = mult.val ∧
      t.get (hbPage h (1 + c)) Harbour.CH_LINK_WR_CORR = (if hasBit (s.harb h).linkEcc c then corr.val else 0) ∧
      OnlyRegs s t [fieldKey (hbPage h (1 + c)) Harbour.CH_STAT_REF_MULT, fieldKey (hbPage h (1 + c)) Harbour.CH_LINK_WR_CORR] ∧
      SameMemory s t ∧ SameFaults s t := by
  refine ⟨_, rfl, ?_, ?_, ?_, fun _ _ => rfl, rfl, rfl⟩
  · rw [State.get_put_other _ _ (by simp +decide), State.get_put_same]
    exact Nat.mod_eq_of_lt (show mult.val < 16 by omega)
  · rw [State.get_put_same]
    refine Nat.mod_eq_of_lt ?_
    split
    · exact corr.isLt
    · decide
  · exact ((OnlyRegs.refl s _).put _ _ _ List.mem_cons_self).put _ _ _ (List.mem_cons_of_mem _ (List.mem_singleton.mpr rfl))

/-! ## The inline-ECC fill (R286) -/

/-- The end of a fill shows, with how far it has come. -/
def State.fillShown (s : State) (h front : Nat) : State :=
  ((((s.putHarb h { s.harb h with filling := false }).put (hbPage h 0) Harbour.HB_INIT_FRONT front).put (hbPage h 0) Harbour.HB_INIT_GO 0).put
    (hbPage h 0) Harbour.HB_STAT_INIT_DONE 1).event (hbPage h 0) 0

theorem State.memCapacity_putHarb (s : State) (h k : Nat) (x : HarbourSt) : (s.putHarb h x).memCapacity k = s.memCapacity k := by
  rw [State.memCapacity, State.get_putHarb, State.memCapacity]

theorem State.fillDone_eq (s : State) (h : Nat) : s.fillDone h = s.fillShown h (s.memCapacity h / 0x10000) := by
  unfold State.fillDone State.fillShown
  simp only [State.memCapacity_putHarb]

theorem State.fillShown_effect (s : State) (h front : Nat) :
    ((s.fillShown h front).harb h) = { s.harb h with filling := false } ∧ (∀ k, k ≠ h → (s.fillShown h front).harb k = s.harb k) ∧
    (s.fillShown h front).flag (hbPage h 0) Harbour.HB_STAT_INIT_DONE = true ∧ (s.fillShown h front).flag (hbPage h 0) Harbour.HB_INIT_GO = false ∧
    (s.fillShown h front).get (hbPage h 0) Harbour.HB_INIT_FRONT = front % Harbour.HB_INIT_FRONT.size ∧
    (s.fillShown h front).eventBit (hbPage h 0) 0 = true ∧ SameFaults s (s.fillShown h front) ∧
    (s.fillShown h front).get (hbPage h 0) Harbour.HB_STAT_ECC_ON = s.get (hbPage h 0) Harbour.HB_STAT_ECC_ON := by
  let x : HarbourSt := { s.harb h with filling := false }
  let v := (((s.putHarb h x).put (hbPage h 0) Harbour.HB_INIT_FRONT front).put (hbPage h 0) Harbour.HB_INIT_GO 0)
  let t := (v.put (hbPage h 0) Harbour.HB_STAT_INIT_DONE 1).event (hbPage h 0) 0
  have heq : s.fillShown h front = t := rfl
  have hharb : ∀ k, t.harb k = (s.putHarb h x).harb k := fun k => State.harb_congr rfl k
  have hpast : ∀ f : Field, f.place ∉ [Harbour.HB_STAT_INIT_DONE.place, Hdr.EVT_STAT_EVENT.place] → t.get (hbPage h 0) f = v.get (hbPage h 0) f :=
    fun f hf => (State.get_event_other _ _ (fieldKey_ne (by decide) hf)).trans (State.get_put_other _ _ (fieldKey_ne (by decide) hf))
  rw [heq]
  refine ⟨(hharb h).trans (State.harb_putHarb_same ..), fun k hk => ?_, ?_, ?_, ?_, State.eventBit_event _ _ (by decide), ⟨rfl, rfl⟩, ?_⟩
  · rw [hharb, State.harb_putHarb, if_neg (Ne.symm hk)]
  · rw [State.flag_event_other _ _ (by simp +decide), State.flag_put_one]
  · rw [State.flag, hpast _ (by decide), State.get_put_same]
    rfl
  · rw [hpast _ (by decide), State.get_put_other _ _ (by simp +decide), State.get_put_same]
  · rw [hpast _ (by decide), State.get_put_other _ _ (by simp +decide), State.get_put_other _ _ (by simp +decide), State.get_putHarb]

theorem eccFillDone_completes (h : Fin 2) (s : State) (hfilling : (s.harb h).filling = true) (htrained : s.harbourTrained h = true) :
    Completes (.eccFillDone h) s fun t =>
      (t.harb h).filling = false ∧
      t.flag (hbPage h 0) Harbour.HB_STAT_INIT_DONE = true ∧ t.flag (hbPage h 0) Harbour.HB_INIT_GO = false ∧
      t.get (hbPage h 0) Harbour.HB_INIT_FRONT = s.memCapacity h / 0x10000 % Harbour.HB_INIT_FRONT.size ∧
      t.eventBit (hbPage h 0) 0 = true ∧ SameMemory s t ∧ SameFaults s t := by
  have ht : exec (.eccFillDone h) s = .next (s.fillShown h (s.memCapacity h / 0x10000)) := by
    rw [exec, execEccFillDone]
    simp only [hfilling, htrained, Bool.and_self, if_true, State.fillDone_eq]
  obtain ⟨hharb, -, hdone, hgo, hfront, hevent, hfaults, -⟩ := s.fillShown_effect h (s.memCapacity h / 0x10000)
  exact ⟨_, ht, by rw [hharb], hdone, hgo, hfront, hevent, SameMemory.of_exec ht (by rw [exec]; exact answers_eccFillDone (Quiet.refl s)), hfaults⟩

theorem State.memByte_congr {s t : State} {h : Nat} (hm : (t.harb h).mem = (s.harb h).mem) (pa : Nat) : t.memByte h pa = s.memByte h pa := by
  rw [State.memByte, hm, State.memByte]

theorem eccFillStart_completes (req : Requester) (h : Fin 2) (s : State) (hs : s.serves req (regOff (hbPage h 0) Harbour.HB_INIT_GO) = true) :
    Completes (.eccFillStart req h) s fun t =>
      (t.harb h).goWritten = true ∧
      t.flag (hbPage h 0) Harbour.HB_STAT_ECC_ON = s.flag (hbPage h 0) Harbour.HB_CFG_ECC_EN ∧
      t.flag (hbPage h 0) Harbour.HB_INIT_GO = s.flag (hbPage h 0) Harbour.HB_CFG_ECC_EN ∧
      (t.harb h).filling = s.flag (hbPage h 0) Harbour.HB_CFG_ECC_EN ∧
      t.flag (hbPage h 0) Harbour.HB_STAT_INIT_DONE = (!s.flag (hbPage h 0) Harbour.HB_CFG_ECC_EN) ∧
      (s.flag (hbPage h 0) Harbour.HB_CFG_ECC_EN = true → ∀ pa, t.memByte h pa = 0) ∧
      (s.flag (hbPage h 0) Harbour.HB_CFG_ECC_EN = false → t.eventBit (hbPage h 0) 0 = true ∧ SameMemory s t) ∧
      (∀ k pa, k ≠ h.val → t.memByte k pa = s.memByte k pa) ∧ SameFaults s t := by
  generalize hon : s.flag (hbPage h 0) Harbour.HB_CFG_ECC_EN = on
  let s₁ := s.put (hbPage h 0) Harbour.HB_STAT_ECC_ON (bit on)
  let x : HarbourSt := { s.harb h with goWritten := true, filling := on, fill := [0, 0, 0, 0], mem := if on then [] else (s.harb h).mem }
  let u := (s₁.putHarb h x).mapCapacity h
  have hecc : u.flag (hbPage h 0) Harbour.HB_STAT_ECC_ON = on := by
    rw [State.flag, show u.get (hbPage h 0) Harbour.HB_STAT_ECC_ON = _ from State.get_mapCapacity _ _ (by decide)]
    rw [show (s₁.putHarb h x).get (hbPage h 0) Harbour.HB_STAT_ECC_ON = _ from State.get_put_same .., Field.bit_mod_size, bit_ne_zero]
  have huharb : u.harb h = x := (State.harb_congr (State.mapCapacity_harbours ..) _).trans (State.harb_putHarb_same s₁ h x)
  have huother : ∀ k, k ≠ h.val → u.harb k = s.harb k := fun k hk => by
    rw [State.harb_congr (State.mapCapacity_harbours ..), State.harb_putHarb, if_neg (Ne.symm hk)]
    rfl
  have hufaults : SameFaults s u := State.mapCapacity_faults (s₁.putHarb h x) h
  have ht : exec (.eccFillStart req h) s = .next (if on then (((u.put (hbPage h 0) Harbour.HB_INIT_GO 1).put (hbPage h 0) Harbour.HB_INIT_FRONT 0).put
      (hbPage h 0) Harbour.HB_STAT_INIT_DONE 0) else u.fillShown h (u.memCapacity h / 0x10000)) := by
    rw [exec, execEccFillStart, State.onWrite_served hs, ← State.fillDone_eq]
    simp only [hon]
    rfl
  clear_value u
  cases on with
  | true =>
    have hharb : ∀ k, ((((u.put (hbPage h 0) Harbour.HB_INIT_GO 1).put (hbPage h 0) Harbour.HB_INIT_FRONT 0).put
      (hbPage h 0) Harbour.HB_STAT_INIT_DONE 0).harb k) = u.harb k := fun _ => rfl
    refine ⟨_, ht.trans (congrArg Host.Outcome.next (if_pos rfl)), ?_, ?_, ?_, ?_, ?_, fun _ pa => ?_, fun h => (nomatch h), fun k pa hk => ?_, hufaults⟩
    · rw [hharb, huharb]
    · rw [State.flag_put_other _ _ (by simp +decide), State.flag_put_other _ _ (by simp +decide), State.flag_put_other _ _ (by simp +decide)]
      exact hecc
    · rw [State.flag_put_other _ _ (by simp +decide), State.flag_put_other _ _ (by simp +decide), State.flag_put_one]
    · rw [hharb, huharb]
    · exact State.flag_put_zero ..
    · rw [State.memByte, hharb, huharb]
      rfl
    · rw [State.memByte, hharb, huother k hk, State.memByte]
  | false =>
    generalize u.memCapacity h / 0x10000 = front at ht
    obtain ⟨hharb, hother, hdone, hgo, -, hevent, hfaults, heccon⟩ := u.fillShown_effect h front
    have hmem : SameMemory s (u.fillShown h front) := by
      intro k pa
      by_cases hk : k = h.val
      · subst hk
        rw [State.memByte, hharb, huharb]
        rfl
      · rw [State.memByte, hother k hk, huother k hk, State.memByte]
    refine ⟨_, ht.trans (congrArg Host.Outcome.next (if_neg (by decide))), ?_, ?_, hgo, ?_, hdone, fun h => (nomatch h), fun _ => ⟨hevent, hmem⟩,
      fun k pa _ => hmem k pa, hufaults.trans hfaults⟩
    · rw [hharb, huharb]
    · rw [State.flag, heccon]
      exact hecc
    · rw [hharb]

/-! ## Patrol scrub (R288) -/

/-- What an ECC check leaves: its half's first page. -/
theorem State.eccApply_keeps (s : State) (h pa : Nat) (r : EccResult) {g : Field} (hg : g.place < 0x8000) :
    (s.eccApply h pa r).get (hbPage h 0) g = s.get (hbPage h 0) g := by
  have hne : ∀ {c : Nat} (f : Field), f.place < 0x8000 → fieldKey (hbPage h (1 + c)) f ≠ fieldKey (hbPage h 0) g := fun f hf =>
    hbField_ne h (by omega) hf hg
  cases r with
  | clean => rfl
  | corrected =>
    refine (State.get_cond_other _ _ _ (hne _ (by decide))).trans ((State.get_event_other _ _ (hne _ (by decide))).trans ?_)
    exact (State.get_put_other _ _ (hne _ (by decide))).trans (State.get_putHarb ..)
  | uncorrectable =>
    refine (State.get_put_other _ _ (hne _ (by decide))).trans ((State.get_event_other _ _ (hne _ (by decide))).trans ?_)
    exact (State.get_put_other _ _ (hne _ (by decide))).trans ((State.get_put_other _ _ (hne _ (by decide))).trans
      (State.get_put_other _ _ (hne _ (by decide))))

/-- The next line of each channel is read and checked (R288). -/
def State.scrubChecks (s : State) (h : Nat) (r0 r1 r2 r3 : EccResult) : State :=
  let line := (s.harb h).scrubLine
  let addr := fun c => (List.range 4).find? (fun k => memChannel (line / 4 * 1024 + k * 256) == c)
  let pa := fun c => line / 4 * 1024 + (addr c).getD 0 * 256 + line % 4 * 64
  (((s.eccApply h (pa 0) r0).eccApply h (pa 1) r1).eccApply h (pa 2) r2).eccApply h (pa 3) r3

theorem State.get_scrubChecks (s : State) (h : Nat) (r0 r1 r2 r3 : EccResult) {g : Field} (hg : g.place < 0x8000) :
    (s.scrubChecks h r0 r1 r2 r3).get (hbPage h 0) g = s.get (hbPage h 0) g := by
  unfold State.scrubChecks
  rw [State.eccApply_keeps _ _ _ _ hg, State.eccApply_keeps _ _ _ _ hg, State.eccApply_keeps _ _ _ _ hg, State.eccApply_keeps _ _ _ _ hg]

/-- Scrub stands at the next line; from the last one it begins again and counts a pass (R288). -/
def State.scrubOn (s : State) (h line : Nat) (last : Bool) : State :=
  if last then (s.putHarb h { s.harb h with scrubLine := if last then 0 else line + 1 }).countWrap (hbPage h 0) Harbour.HB_SCRUB_PASSES
  else s.putHarb h { s.harb h with scrubLine := if last then 0 else line + 1 }

theorem State.scrubOn_last (s : State) (h line : Nat) : ((s.scrubOn h line true).harb h).scrubLine = 0 ∧
    (s.scrubOn h line true).get (hbPage h 0) Harbour.HB_SCRUB_PASSES = (s.get (hbPage h 0) Harbour.HB_SCRUB_PASSES + 1) % 2 ^ 32 := by
  refine ⟨?_, (State.get_put_same ..).trans ?_⟩
  · rw [State.scrubOn, if_pos rfl, State.harb_congr (State.countWrap_harbours ..), State.harb_putHarb_same]
    rfl
  · rw [State.get_putHarb]
    rfl

theorem State.scrubOn_next (s : State) (h line : Nat) : ((s.scrubOn h line false).harb h).scrubLine = line + 1 ∧
    (s.scrubOn h line false).get (hbPage h 0) Harbour.HB_SCRUB_PASSES = s.get (hbPage h 0) Harbour.HB_SCRUB_PASSES := by
  refine ⟨?_, State.get_putHarb ..⟩
  rw [State.scrubOn, if_neg (by decide), State.harb_putHarb_same]
  rfl

theorem patrolScrub_completes (h : Fin 2) (r0 r1 r2 r3 : EccResult) (s : State) (hns : s.get (hbPage h 0) Harbour.HB_CFG_SCRUB_NS ≠ 0)
    (hcap : s.memCapacity h ≠ 0) (hidle : ∀ c < 4, s.requestWaits h c true = false) :
    Completes (.patrolScrub h r0 r1 r2 r3) s fun t =>
      (s.memCapacity h / 256 ≤ (s.harb h).scrubLine + 1 →
        (t.harb h).scrubLine = 0 ∧ t.get (hbPage h 0) Harbour.HB_SCRUB_PASSES = (s.get (hbPage h 0) Harbour.HB_SCRUB_PASSES + 1) % 2 ^ 32) ∧
      ((s.harb h).scrubLine + 1 < s.memCapacity h / 256 →
        (t.harb h).scrubLine = (s.harb h).scrubLine + 1 ∧ t.get (hbPage h 0) Harbour.HB_SCRUB_PASSES =
          s.get (hbPage h 0) Harbour.HB_SCRUB_PASSES) ∧ SameMemory s t := by
  have hwaits : ([0, 1, 2, 3].any fun c => s.requestWaits h c true) = false := by
    simp [hidle 0, hidle 1, hidle 2, hidle 3]
  have hgo : ¬ (s.get (hbPage h 0) Harbour.HB_CFG_SCRUB_NS = 0 ∨ s.memCapacity h = 0 ∨ [0, 1, 2, 3].any (fun c => s.requestWaits h c true) = true) := by
    rw [hwaits]
    rintro (h0 | h0 | h0)
    · exact hns h0
    · exact hcap h0
    · cases h0
  let u := s.scrubChecks h r0 r1 r2 r3
  have hpass := s.get_scrubChecks h r0 r1 r2 r3 (g := Harbour.HB_SCRUB_PASSES) (by decide)
  have hcapacity : u.memCapacity h = s.memCapacity h := by
    rw [State.memCapacity, s.get_scrubChecks h r0 r1 r2 r3 (by decide), State.memCapacity]
  have ht : exec (.patrolScrub h r0 r1 r2 r3) s =
      .next (u.scrubOn h (s.harb h).scrubLine (decide (u.memCapacity h / 256 ≤ (s.harb h).scrubLine + 1))) := by
    rw [exec, execPatrolScrub]
    exact congrArg Host.Outcome.next (if_neg hgo)
  have hmem := SameMemory.of_exec ht (by rw [exec]; exact answers_patrolScrub (Quiet.refl s))
  rw [hcapacity] at ht hmem
  refine ⟨_, ht, fun hlast => ?_, fun hnext => ?_, hmem⟩
  · rw [decide_eq_true hlast]
    obtain ⟨hline, hpasses⟩ := u.scrubOn_last h (s.harb h).scrubLine
    exact ⟨hline, by rw [hpasses, hpass]⟩
  · rw [decide_eq_false (by omega)]
    obtain ⟨hline, hpasses⟩ := u.scrubOn_next h (s.harb h).scrubLine
    exact ⟨hline, hpasses.trans hpass⟩

/-- Settles O35: training and its failure show, refreshes count in the slack window, the fill leaves zeros, and scrub counts its passes. -/
theorem channelsTrainRefreshFillAndScrub : Obligations.ChannelsTrainRefreshFillAndScrub := by
  refine ⟨fun h c gib s => ?_, refresh_completes, refreshRatePoll_completes, fun req h s hs => eccFillStart_completes req h s hs,
    fun h s hf ht => eccFillDone_completes h s hf ht, fun h r0 r1 r2 r3 s h1 h2 h3 => patrolScrub_completes h r0 r1 r2 r3 s h1 h2 h3⟩
  cases hgib : [1, 2, 4, 8, 16].contains gib.val with
  | true =>
    obtain ⟨t, ht, h1⟩ := channelTrained_up h c gib s hgib
    exact ⟨t, ht, fun _ => h1, fun hf => (nomatch hf), SameMemory.of_exec ht (by rw [exec]; exact answers_channelTrained (Quiet.refl s))⟩
  | false =>
    obtain ⟨t, ht, h1⟩ := channelTrained_fails h c gib s hgib
    exact ⟨t, ht, fun hf => (nomatch hf), fun _ => h1, SameMemory.of_exec ht (by rw [exec]; exact answers_channelTrained (Quiet.refl s))⟩

end Sys2Proof.Machine
end

section
/-!
PROOFS. Where the statement of O45 fails: ACTIVE is one bit wide, and a state may hold 2 there.
-/
namespace Sys2Proof.Machine

/-- A plan that binds nothing. -/
def idlePlan : Plan :=
  { gap := false, atSpring := false, id := 0, period := 1, phase := 0, group := 0, applySpring := 0, jobBulk := [], hostBulk := [], families := []
    budgets := [], streams := [], outputs := [] }

/-- A live plan, and an adopted active domain numbered 2: its time reads OFFSET of domain B, though it is not domain B. `State.fits` fails of
ACTIVE here, and no store makes it, for `State.put` cuts a value to its field. -/
def overfullActive : State :=
  { State.reset with
    regs := [(fieldKey 0x3 (Chip.PD_CTRL_ACK.nth 82), 1), (fieldKey tmPage Tidemark.TM_SEL_ADOPTED, 1), (fieldKey tmPage Tidemark.TM_SEL_ACTIVE, 2)]
    tide := { State.reset.tide with livePlan := some idlePlan } }

/-- The active-domain time after a step. -/
def activeTimeAfter (i : Instr) (s : State) (c : Nat) : Option Nat := match exec i s with
  | .next t => some (t.activeTime c)
  | _ => none

theorem activeTimeAfter_of_exec {i : Instr} {s t : State} {c v : Nat} (h : activeTimeAfter i s c = some v) (ht : exec i s = .next t) :
    t.activeTime c = v := by
  rw [activeTimeAfter, ht] at h
  exact Option.some.inj h

theorem overfullActive_offset :
    overfullActive.serves .lp0 (regOff tmPage (Tidemark.OFF_OFFSET.nth 1 2)) = true ∧ overfullActive.planLive = true ∧
      overfullActive.activeTime (overfullActive.time.c * 2 ^ 32) = 0 ∧ overfullActive.time.c = 0 ∧
      activeTimeAfter (.domainOffsetWrite .lp0 1 1) overfullActive 0 = some 1 := by
  decide +kernel

/-- Refutes O45: its clause on OFFSET asks of every state, with no hypothesis that ACTIVE fits its field, that the active-domain time stays while a
plan is live. From `overfullActive`, a write of domain B's OFFSET moves P by 1, for the model keeps P only where the domain written is the active one. -/
theorem not_domainsAreSteeredWithoutMovingTime : ¬ Obligations.DomainsAreSteeredWithoutMovingTime := by
  rintro ⟨-, hoffset, -⟩
  obtain ⟨hserves, hlive, hbefore, hcount, hafter⟩ := overfullActive_offset
  obtain ⟨t, ht, -, -, hkeeps, -⟩ := hoffset .lp0 1 1 overfullActive hserves
  have h := hkeeps hlive
  rw [hbefore, hcount, Nat.zero_mul, activeTimeAfter_of_exec hafter ht] at h
  exact absurd h (by decide)

end Sys2Proof.Machine
end

section
/-!
PROOFS. Frames whose parts name a Cove or a context that there is not, and where the statements of O31, O34 and O36 fail.

The state numbers Coves and contexts by `Nat`. A part that names one above 15, or above 7, has its registers where other units have theirs: the end
of its frame writes over them. The statements ask of every state, and so of such ones.
-/
namespace Sys2Proof.Machine

/-- The register of a field after a step. -/
def fieldAfter (i : Instr) (s : State) (pg : Nat) (f : Field) : Option Nat := match exec i s with
  | .next t => some (t.get pg f)
  | _ => none

theorem fieldAfter_of_exec {i : Instr} {s t : State} {pg : Nat} {f : Field} {v : Nat} (h : fieldAfter i s pg f = some v) (ht : exec i s = .next t) :
    t.get pg f = v := by
  rw [fieldAfter, ht] at h
  exact Option.some.inj h

/-- A frame of stream 3, number 5, of one part. -/
def strayFrame (p : CovePart) (lines : Nat) (closed : Bool) : HalfFrame :=
  { half := 0, stream := 3, seq := 5, tide := 0, sof := 0, family := 0, sentinel := 0xFF, cls := 0, memory := false, split := false, width := lines
    lines, exposures := 1, packing := 0, suppress := false, parts := [p], outs := [], closed }

/-! ## Stream 3 takes a frame start -/

/-- A part in Cove 0x110: the Lighthouse page of its number is that of the stream table, and FRZ_STAT of its context 0 is ST_SEQ of stream 3. -/
def partOnStreamTable : CovePart := { cove := 0x110, context := 0, status := none, limit := some 0 }

/-- A plan that binds stream 3 to no Cove. -/
def strayPlan : Plan :=
  { idlePlan with streams := [
    { stream := 3, family := 0, path := 0, sentinel := 0xFF, cls := 0, exposures := 1, packing := 0, width := 0, activeLines := 0, totalLines := 0
      window := 0, coveA := 0xFF, coveB := 0xFF, coveC := 0xFF, coveD := 0xFF, outFirst := 0, outCount := 0 }] }

/-- Stream 3 has frame 5 open, of a part that does not belong there, and its next frame start waits. -/
def strayOpenFrame : State :=
  let s := (State.reset.stPut 3 StreamTab.ST_STAT_STATE 1).stPut 3 StreamTab.ST_SEQ_SEQ 5
  let s := s.putPort 0 { inbox := [{ kind := .frameStart, vc := 3 }] }
  { s with frames := [strayFrame partOnStreamTable 0 true], tide := { s.tide with livePlan := some strayPlan } }

theorem strayOpenFrame_start :
    (strayOpenFrame.port 0).inbox = [{ kind := .frameStart, vc := 3 }] ∧ strayOpenFrame.claimer 0 3 = none ∧
      strayOpenFrame.tide.livePlan = some strayPlan ∧ strayOpenFrame.streamPlan 3 = strayPlan.streams.head? ∧
      strayOpenFrame.st 3 StreamTab.ST_SEQ_SEQ = 5 ∧
      fieldAfter (.frameStart 0) strayOpenFrame (stPage 3) (StreamTab.ST_SEQ_SEQ.nth 3) = some 1 := by
  decide +kernel

/-- Refutes O31: the open frame closes first, and its end writes 0 over ST_SEQ, so the frame start takes number 1 and not 6. -/
theorem not_framesOpenAndCloseAtTheInlet : ¬ Obligations.FramesOpenAndCloseAtTheInlet := by
  rintro ⟨hstart, -⟩
  obtain ⟨hinbox, hclaimer, hlive, hplan, hseq, hafter⟩ := strayOpenFrame_start
  obtain ⟨t, ht, -, hnext, -⟩ := hstart 0 strayOpenFrame _ [] strayPlan _ 3 hinbox rfl (by decide) hclaimer rfl hlive hplan
  have h : t.st 3 StreamTab.ST_SEQ_SEQ = 1 := fieldAfter_of_exec hafter ht
  rw [h, hseq] at hnext
  exact absurd hnext (by decide)

/-! ## Cove 1 ends a chunk -/

/-- A part of Cove 0 in context 446: OB_MEAN of that context is CHUNKS of Cove 1. It has its one row, and measures its black level. -/
def partOnCounters : CovePart :=
  { cove := 0, context := 446, status := none, latch := [(liveKey (covePage 0 2) (Cove.BL_CFG_MEASURE.nth 446), 1)]
    runs := [{ row := 0, e := 0, col0 := 0, codes := [7] }] }

/-- Cove 1 has a chunk of the frame in hand. -/
def strayChunk : State :=
  let s := State.reset.putCove 1 { unit := some (0, { stream := 3, seq := 5, run := { row := 0, e := 0, col0 := 0, codes := [7] } }) }
  { s with frames := [strayFrame partOnCounters 1 false] }

theorem strayChunk_end :
    (strayChunk.cove 1).unit = some (0, { stream := 3, seq := 5, run := { row := 0, e := 0, col0 := 0, codes := [7] } }) ∧
      ((strayChunk.partOf 1 3 5).any fun e => e.1.memory) = false ∧ strayChunk.get (covePage 1 0) Cove.CHUNKS_COUNT = 0 ∧
      fieldAfter (.coveUnitEnd 1) strayChunk (covePage 1 0) Cove.CHUNKS_COUNT = some 7 := by
  decide +kernel

/-- Refutes O34: the black level of the frame is written over CHUNKS, which reads 7 after the one chunk. -/
theorem not_covesProcessUnitsAndIssueRecords : ¬ Obligations.CovesProcessUnitsAndIssueRecords := by
  rintro ⟨-, -, -, hend, -⟩
  obtain ⟨hunit, hmemory, hcount, hafter⟩ := strayChunk_end
  obtain ⟨t, ht, -, -, -, -, hchunks, -⟩ := hend 1 strayChunk 0 _ hunit
  have hnext : t.get (covePage 1 0) Cove.CHUNKS_COUNT = (strayChunk.get (covePage 1 0) Cove.CHUNKS_COUNT + 1) % Cove.CHUNKS_COUNT.size :=
    hchunks rfl (by decide) hmemory
  have h : t.get (covePage 1 0) Cove.CHUNKS_COUNT = 7 := fieldAfter_of_exec hafter ht
  rw [h, hcount] at hnext
  exact absurd hnext (by decide)

/-! ## A memory request fails to translate -/

/-- A part of Cove 0 in context 0x202FA: FRONT_STAT.BYPASSED of that context is TR_FAULT_INFO.VALID of half 0. -/
def partOnFault : CovePart := { cove := 0, context := 0x202FA, status := none, limit := some 0 }

/-- A read of the raw data of frame 5 of stream 3, beyond 52 bits of address. -/
def farRead : MemReq := { requester := 0, source := 3, cls := 0, entry := none, ba := 2 ^ 52, size := 1, write := none, tag := 5 * 2 ^ 18 }

/-- Half 0 has power, its four channels are trained, and the read waits. -/
def strayRequest : State :=
  let s := [52, 44, 45, 46, 47].foldl (fun s d => s.put 0x3 (Chip.PD_CTRL_ACK.nth d) 1) State.reset
  let s := [1, 2, 3, 4].foldl (fun s p => s.put (hbPage 0 p) Harbour.CH_STAT_TRAINED 1) s
  let s := s.putHarb 0 { asks := [farRead] }
  { s with frames := [strayFrame partOnFault 0 true] }

/-- What the translation of a read answers where it fails. -/
def translationError (x : Except (Nat × Nat) (Bool × Nat) × State) : Option (Nat × Nat) := match x.1 with
  | .error e => some e
  | .ok _ => none

theorem eq_of_translationError {x : Except (Nat × Nat) (Bool × Nat) × State} {e : Nat × Nat} (h : translationError x = some e) :
    x = (.error e, x.2) := by
  obtain ⟨r, u⟩ := x
  cases r with
  | error d => rw [Option.some.inj h]
  | ok _ => cases h

theorem strayRequest_fails :
    strayRequest.ready ⟨.harbour, (0 : Fin 2), 0⟩ = true ∧ (strayRequest.harb 0).asks = [farRead] ∧ strayRequest.walkServed 0 farRead.ba farRead.cls = true ∧
      translationError ((strayRequest.putHarb 0 { strayRequest.harb 0 with asks := (strayRequest.harb 0).asks.eraseIdx 0 }).translateFor 0 farRead.cls
        farRead.ba farRead.write.isSome (farRead.requester == 2) []) = some (1, 0) ∧
      fieldAfter (.memRequest 0 0 []) strayRequest (hbPage 0 7) Harbour.TR_FAULT_INFO_VALID = some 0 := by
  decide +kernel

/-- Refutes O36: the failed read ends its frame, which writes BYPASSED over TR_FAULT_INFO.VALID. -/
theorem not_memoryRequestsAreBudgetedAndServed : ¬ Obligations.MemoryRequestsAreBudgetedAndServed := by
  rintro ⟨-, -, -, hfails, -⟩
  obtain ⟨hready, hasks, hserved, herror, hafter⟩ := strayRequest_fails
  obtain ⟨t, ht, -, -, hvalid, -⟩ := hfails 0 0 [] strayRequest _ farRead 1 0 hready (by rw [show (strayRequest.harb (0 : Fin 2)).asks = _ from hasks]; rfl)
    rfl hserved (eq_of_translationError herror)
  have h : t.get (hbPage (0 : Fin 2) 7) Harbour.TR_FAULT_INFO_VALID = 0 := fieldAfter_of_exec hafter ht
  have hflag : t.flag (hbPage (0 : Fin 2) 7) Harbour.TR_FAULT_INFO_VALID = false := by rw [State.flag, h]; rfl
  exact absurd (hflag.symm.trans hvalid) (by decide)

end Sys2Proof.Machine
end

section
/-!
PROOFS. A stream whose sentinel index is none of the eight, and where the statement of O47 fails.
-/
namespace Sys2Proof.Machine

/-- A plan that binds stream 3 as sentinel stream 0x1647A: SW_SPLIT_SEQ of that index is STRM_OVF. -/
def farSentinelPlan : Plan :=
  { idlePlan with streams := [
    { stream := 3, family := 0, path := 0, sentinel := 0x1647A, cls := 0, exposures := 1, packing := 0, width := 0, activeLines := 0, totalLines := 0
      window := 0, coveA := 0xFF, coveB := 0xFF, coveC := 0xFF, coveD := 0xFF, outFirst := 0, outCount := 0 }] }

/-- The first line of frame 9 of stream 3. -/
def splitUnit : PortUnit := { stream := 3, seq := 9, line := 0, off := 0, bytes := [0] }

/-- The stream port is full: it holds 64 runs of 4,096 bytes of another frame. -/
def fullFrame : StreamFrame := { key := 0, half := 0, format := 0, held := List.replicate 64 (0, List.replicate 4096 0) }

/-- Slot 0 carries the frame as a sentinel stream's, half 0 acts since the last switch, and the frame is one of those that the switch split. -/
def splitState : State :=
  let s := State.reset.put swPage Seawall.SW_STAT_ACTING 1
  let s := s.putSlot 0 { frames := [fullFrame], latches := [(splitUnit.key, [0, 0, 0, 0, 0, 1, 0])] }
  { s with tide := { s.tide with livePlan := some farSentinelPlan }, seawall := { s.seawall with splits := [(3, 0, 9)] } }

theorem splitState_unit :
    splitState.slotCarries (0 : Fin 16) splitUnit.key = true ∧ splitState.slotSentinel (0 : Fin 16) splitUnit.key = true ∧ splitState.actedAt (0 : Fin 2) splitUnit.stream 0 = true ∧
      (splitState.slot (0 : Fin 16)).accepted = [] ∧ (splitState.slot (0 : Fin 16)).discarding = none ∧
      (((splitState.slot (0 : Fin 16)).frames.find? fun f => f.key == splitUnit.key).getD { key := splitUnit.key, half := (0 : Fin 2), format := (0 : Fin 16) }).next = 0 ∧
      262144 < (splitState.putSlot (0 : Fin 16) (splitState.slot (0 : Fin 16))).streamHeld + splitUnit.bytes.length ∧
      splitState.get (bridgePage 2) Bridge.STRM_OVF_COUNT = 0 ∧
      fieldAfter (.streamUnit 0 0 0 0 splitUnit) splitState (bridgePage 2) Bridge.STRM_OVF_COUNT = some 10 := by
  decide +kernel

/-- Refutes O47: the number of the split frame, 9, is written over STRM_OVF, which then counts on to 10. -/
theorem not_streamsManagementAndSoundingAreServed : ¬ Obligations.StreamsManagementAndSoundingAreServed := by
  rintro ⟨-, -, -, hunit, -⟩
  obtain ⟨hcarries, hsentinel, hacted, haccepted, hdiscarding, hline, hfull, hcount, hafter⟩ := splitState_unit
  obtain ⟨t, ht, -, -, htaken, -⟩ := hunit 0 0 0 0 splitUnit splitState _ true hcarries hsentinel.symm rfl
  have hnew : (splitUnit.key, splitUnit.line) ∉ (splitState.slot (0 : Fin 16)).accepted := by
    rw [show (splitState.slot (0 : Fin 16)).accepted = _ from haccepted]; exact List.not_mem_nil
  have hkept : (splitState.slot (0 : Fin 16)).discarding ≠ some splitUnit.key := by
    rw [show (splitState.slot (0 : Fin 16)).discarding = _ from hdiscarding]; exact Option.some_ne_none _ |>.symm
  obtain ⟨-, htakes⟩ := htaken (Or.inr ⟨hacted, hnew⟩)
  obtain ⟨-, hholds⟩ := htakes hkept
  obtain ⟨-, hlost⟩ := hholds rfl (Or.inr (Or.inr hline.symm))
  obtain ⟨-, -, -, -, hnext⟩ := hlost hfull
  rw [fieldAfter_of_exec hafter ht, hcount] at hnext
  exact absurd hnext (by decide)

end Sys2Proof.Machine
end

section
/-!
PROOFS. Where the statement of O54 fails: an entry that has not started may already be marked as a submission.
-/
namespace Sys2Proof.Machine

/-- PLAN_WITHDRAW at count 0, which waits to start, and marked as a submission all the same. -/
def markedWithdraw : RingEntry := { count := 0, posted := 0, bytes := some [3], work := .submit }

/-- The submission that runs, at count 1. -/
def runningSubmit : RingEntry := { count := 1, posted := 0, bytes := some [2], started := true, work := .submit }

/-- LP0 serves the ring from the acting half 0, the completion ring is full, a plan is submitted, and `markedWithdraw` stands before the
submission that runs. -/
def markedRing : State :=
  { State.reset with
    regs := [(fieldKey 0x3 (Chip.PD_CTRL_ACK.nth (PageRef.domain ⟨.lp, 0, 0⟩)), 1), (fieldKey tidePage Tidemark.PLAN_STATE_STATE, 1),
      (fieldKey (lpPage 0) Lp.LP_FW_STAT_STATE, 2), (fieldKey ringPage Lp.CPL_TAIL_COUNT, 256)]
    cores := { State.reset.cores with entries := [markedWithdraw, runningSubmit] } }

/-- The counts and codes of the completions that wait after a step. -/
def waitingAfter (i : Instr) (s : State) : Option (List (Nat × Nat)) := match exec i s with
  | .next t => some (t.cores.waiting.map fun c => (c.count, c.status))
  | _ => none

theorem waitingAfter_of_exec {i : Instr} {s t : State} {l : List (Nat × Nat)} (h : waitingAfter i s = some l) (ht : exec i s = .next t) :
    t.cores.waiting.map (fun c => (c.count, c.status)) = l := by
  rw [waitingAfter, ht] at h
  exact Option.some.inj h

theorem markedRing_starts : markedRing.startsNext 0 0x0003 0 markedWithdraw := by
  unfold State.startsNext
  decide +kernel

theorem markedRing_withdraws :
    markedRing.tide.ended = none ∧ markedRing.planState = 1 ∧ markedRing.cplFull = true ∧
      markedRing.cores.entries.find? (fun y => y.started && y.work == .submit && !markedRing.entryEnded y) = some runningSubmit ∧
      waitingAfter (.planWithdraw 0) markedRing = some [(0, 4), (0, 0)] := by
  decide +kernel

/-- Refutes O54: its clause on PLAN_WITHDRAW names as the withdrawn submission the first entry that runs one before the step. In `markedRing` the
withdrawal's own entry is marked as a submission and stands before it, so that, once started, it is the one the model ends with status 4; the submission
that ran does not end. -/
theorem not_ringCommandsDoTheirWork : ¬ Obligations.RingCommandsDoTheirWork := by
  rintro ⟨-, -, hwithdraw, -⟩
  obtain ⟨hended, hplan, hfull, hfind, hafter⟩ := markedRing_withdraws
  obtain ⟨t, ht, -, -, hclause⟩ := hwithdraw 0 markedRing 0 markedWithdraw markedRing_starts hended
  have hlive : markedRing.planState ≠ 3 := by rw [hplan]; decide
  obtain ⟨-, -, -, -, hsubmit⟩ := hclause (by rw [hplan]; decide) (Or.inl hlive)
  have h := hsubmit runningSubmit hlive hfind hfull
  rw [waitingAfter_of_exec hafter ht] at h
  exact absurd h (by decide +kernel)

end Sys2Proof.Machine
end

section
/-!
PROOFS. Where the statement of O56 fails: PWR_REQ is one bit wide, and a state may hold 2 there.
-/
namespace Sys2Proof.Machine

/-- The Tidemark has power, and PWR_REQ of its first page, which owns no domain, holds 2: its flag reads 1. -/
def overfullPowerRequest : State :=
  { State.reset with
    regs := [(fieldKey 0x3 (Chip.PD_CTRL_ACK.nth (PageRef.domain ⟨.tidemark, 0, 0⟩)), 1), (fieldKey 0x10 Hdr.CTRL_PWR_REQ, 2)] }

/-- A flag after a step. -/
def flagAfter (i : Instr) (s : State) (pg : Nat) (f : Field) : Option Bool := match exec i s with
  | .next t => some (t.flag pg f)
  | _ => none

theorem flagAfter_of_exec {i : Instr} {s t : State} {pg : Nat} {f : Field} {b : Bool} (h : flagAfter i s pg f = some b)
    (ht : exec i s = .next t) : t.flag pg f = b := by
  rw [flagAfter, ht] at h
  exact Option.some.inj h

theorem overfullPowerRequest_falls :
    overfullPowerRequest.serves .lp0 (regOff (16 : Fin 0x1400) Hdr.CTRL_PWR_REQ) = true ∧ pageRef (16 : Fin 0x1400) = some ⟨.tidemark, 0, 0⟩ ∧
      overfullPowerRequest.flag 0x10 Hdr.CTRL_PWR_REQ = true ∧
      flagAfter (.powerReq .lp0 (.page 16) 2) overfullPowerRequest 0x10 Hdr.CTRL_PWR_REQ = some false := by
  decide +kernel

/-- Refutes O56: its clause on CTRL.PWR_REQ asks of every state, with no hypothesis that the bit fits its field, that the flag of a block that owns
no domain stays. From `overfullPowerRequest` a write with RST resets the Tidemark, which writes PWR_REQ back, cut to its one bit: 2 becomes 0. -/
theorem not_suppliesDomainsAndClocksFollow : ¬ Obligations.SuppliesDomainsAndClocksFollow := by
  rintro ⟨-, -, -, -, -, hrequest, -⟩
  obtain ⟨hserves, href, hbefore, hafter⟩ := overfullPowerRequest_falls
  obtain ⟨t, ht, hstays, -⟩ := hrequest .lp0 16 2 overfullPowerRequest ⟨.tidemark, 0, 0⟩ hserves href
  have h : t.flag 0x10 Hdr.CTRL_PWR_REQ = overfullPowerRequest.flag 0x10 Hdr.CTRL_PWR_REQ := hstays rfl
  rw [hbefore, flagAfter_of_exec hafter ht] at h
  exact absurd h (by decide)

end Sys2Proof.Machine
end

section
/-! PROOFS. What the resets of units and the switching of domains leave alone: the inner parts of the state.

A unit reset, a power-off and the end of a frame write the pages of the units they touch, all from page 0x50 on, and the few below that
`outerPage` names. What else stands below, the registers of the Tidemark's plan, of the Breakwater and of the Seawall, and the parts of the state
that go with them, they leave as it is. `State.inner` holds these parts. As for `State.kept`, every operation has a lemma that it leaves them alone,
found by taking its stores away one by one. -/

namespace Sys2Proof.Machine

/-- The pages whose fields, events and faults the resets of units write: clocks, commit groups, sync, the Beacon, and all units. -/
def outerPage (pg : Nat) : Bool := pg == 0x5 || pg == 0x12 || pg == 0x13 || (decide (0x30 ≤ pg) && decide (pg < 0x34)) ||
  decide (0x50 ≤ pg)

/-- The fields they write: those of these pages, the count of sensor errors, and the events and the quiet windows of the Breakwater. -/
def outerKey (k : Nat) : Bool :=
  outerPage (k / 0x8000) || [(0x8, Chip.BOOT_SENS_ERR_COUNT), (0x20, Hdr.EVT_STAT_EVENT), (0x20, Breakwater.BW_STAT_QUIET)].any fun e =>
    fieldKey e.1 e.2 == k

/-- What the resets of units and the switching of domains leave alone. Of the cores, `entries`, `mie`, `down` and `links` are blank in it, and of the
Seawall the notes for the next report; of the marks of an outer page the unacknowledged bits remain. -/
structure Inner where
  time : TimeSt
  tide : TideSt
  power : PowerSt
  boot : BootSt
  pins : PinSt
  fault : FaultSt
  cores : CoreSt
  seawall : SeawallSt
  fields : Nat → Nat
  marks : Nat → FltMarks
  unack : Nat → Nat × List Nat

def State.inner (s : State) : Inner :=
  { time := s.time, tide := s.tide, power := s.power, boot := s.boot, pins := s.pins, fault := s.fault
    cores := { s.cores with entries := [], mie := 0, down := 0, links := [] }, seawall := { s.seawall with tide := [] }
    fields := fun k => if outerKey k then 0 else SMap.get resetField s.regs k
    marks := fun pg => if outerPage pg then {} else s.marks pg
    unack := fun pg => ((s.marks pg).unack, (s.marks pg).sevs) }

@[simp] theorem State.inner_ite (c : Prop) [Decidable c] (s t : State) : (if c then s else t).inner = if c then s.inner else t.inner :=
  apply_ite State.inner c s t

theorem State.inner_foldl {α : Type} {f : State → α → State} (h : ∀ s a, (f s a).inner = s.inner) (l : List α) (s : State) :
    (l.foldl f s).inner = s.inner := by
  induction l generalizing s with
  | nil => rfl
  | cons a l ih => rw [List.foldl_cons, ih, h]

theorem State.inner_foldl_mem {α : Type} {f : State → α → State} {l : List α} (h : ∀ a ∈ l, ∀ s, (f s a).inner = s.inner) (s : State) :
    (l.foldl f s).inner = s.inner := by
  induction l generalizing s with
  | nil => rfl
  | cons a l ih => rw [List.foldl_cons, ih fun b hb => h b (.tail _ hb), h a (.head _)]

theorem State.inner_foldl_fst {α β : Type} {f : State × β → α → State × β} (h : ∀ a k, (f a k).1.inner = a.1.inner) (l : List α)
    (a : State × β) : (l.foldl f a).1.inner = a.1.inner := by
  induction l generalizing a with
  | nil => rfl
  | cons k l ih => rw [List.foldl_cons, ih, h]

/-- Two register files that agree on every inner field. -/
theorem State.inner_setRegs (s : State) {r : SMap Nat} (h : ∀ k, outerKey k = false → SMap.get resetField r k = SMap.get resetField s.regs k) :
    ({ s with regs := r } : State).inner = s.inner := by
  have hfields : (fun k => if outerKey k then 0 else SMap.get resetField r k) = fun k => if outerKey k then 0 else SMap.get resetField s.regs k := by
    funext k
    cases hk : outerKey k
    · simp [h k hk]
    · simp
  simp only [State.inner, hfields]
  rfl

theorem State.inner_put_of_key (s : State) {pg : Nat} {f : Field} (v : Nat) (h : outerKey (fieldKey pg f) = true) :
    (s.put pg f v).inner = s.inner := by
  refine State.inner_setRegs s fun k hk => SMap.get_set_other _ _ _ ?_
  rintro rfl
  exact absurd h (by simp [hk])

theorem outerKey_of_page {k : Nat} (h : outerPage (k / 0x8000) = true) : outerKey k = true := by
  simp [outerKey, h]

theorem outerPage_of_le {pg : Nat} (h : 0x50 ≤ pg) : outerPage pg = true := by
  simp [outerPage, h]

/-- A field of an outer page whose place stays within the page. -/
theorem State.inner_put_of_place (s : State) {pg : Nat} {f : Field} (v : Nat) (h : outerPage pg = true) (hf : f.off * 8 + f.lo < 0x8000) :
    (s.put pg f v).inner = s.inner := by
  have hdiv : fieldKey pg f / 0x8000 = pg := by unfold fieldKey; omega
  exact State.inner_put_of_key s v (outerKey_of_page (by rwa [hdiv]))

@[simp] theorem State.inner_put (s : State) {pg : Nat} (f : Field) (v : Nat) (h : 0x50 ≤ pg) : (s.put pg f v).inner = s.inner := by
  refine State.inner_put_of_key s v (outerKey_of_page (outerPage_of_le ?_))
  unfold fieldKey
  omega

/-! ## Pages of units -/

theorem Block.le_page {b : Block} (h : b ∉ [.chip, .tidemark, .breakwater, .beacon, .seawall]) (n p : Nat) : 0x50 ≤ b.page n p := by
  cases b with
  | chip | tidemark | breakwater | beacon | seawall => exact absurd h (by decide)
  | inlet =>
    simp only [Block.page]
    split <;> omega
  | lighthouse | sounding | fastStatus | weatas | csiRx | csiTx | streamTab | jetty | mac | bridge | pcie | lp | cove | harbour | drift =>
    simp only [Block.page]
    omega

@[simp] theorem le_hbPage (h p : Nat) : 0x50 ≤ hbPage h p := Block.le_page (by decide) _ _
@[simp] theorem le_pcPage (n p : Nat) : 0x50 ≤ pcPage n p := Block.le_page (by decide) _ _
@[simp] theorem le_lhPage (e : Nat) : 0x50 ≤ lhPage e := Block.le_page (by decide) _ _
@[simp] theorem le_sdPage (u : Nat) : 0x50 ≤ sdPage u := Block.le_page (by decide) _ _
@[simp] theorem le_chPage (c : Nat) : 0x50 ≤ chPage c := Block.le_page (by decide) _ _
@[simp] theorem le_wePage (n : Nat) : 0x50 ≤ wePage n := Block.le_page (by decide) _ _
@[simp] theorem le_inPage (n : Nat) : 0x50 ≤ inPage n := Block.le_page (by decide) _ _
@[simp] theorem le_jtPage (n : Nat) : 0x50 ≤ jtPage n := Block.le_page (by decide) _ _
@[simp] theorem le_stPage (n : Nat) : 0x50 ≤ stPage n := Block.le_page (by decide) _ _
@[simp] theorem le_rxPage (n : Nat) : 0x50 ≤ rxPage n := Block.le_page (by decide) _ _
@[simp] theorem le_txPage (m : Nat) : 0x50 ≤ txPage m := Block.le_page (by decide) _ _
@[simp] theorem le_covePage (n p : Nat) : 0x50 ≤ covePage n p := Block.le_page (by decide) _ _
@[simp] theorem le_macPage (m p : Nat) : 0x50 ≤ macPage m p := Block.le_page (by decide) _ _
@[simp] theorem le_lpPage (k : Nat) : 0x50 ≤ lpPage k := Block.le_page (by decide) _ _

@[simp] theorem outer_hbPage (h p : Nat) : outerPage (hbPage h p) = true := outerPage_of_le (le_hbPage h p)
@[simp] theorem outer_pcPage (n p : Nat) : outerPage (pcPage n p) = true := outerPage_of_le (le_pcPage n p)
@[simp] theorem outer_lhPage (e : Nat) : outerPage (lhPage e) = true := outerPage_of_le (le_lhPage e)
@[simp] theorem outer_sdPage (u : Nat) : outerPage (sdPage u) = true := outerPage_of_le (le_sdPage u)
@[simp] theorem outer_chPage (c : Nat) : outerPage (chPage c) = true := outerPage_of_le (le_chPage c)
@[simp] theorem outer_wePage (n : Nat) : outerPage (wePage n) = true := outerPage_of_le (le_wePage n)
@[simp] theorem outer_inPage (n : Nat) : outerPage (inPage n) = true := outerPage_of_le (le_inPage n)
@[simp] theorem outer_jtPage (n : Nat) : outerPage (jtPage n) = true := outerPage_of_le (le_jtPage n)
@[simp] theorem outer_stPage (n : Nat) : outerPage (stPage n) = true := outerPage_of_le (le_stPage n)
@[simp] theorem outer_rxPage (n : Nat) : outerPage (rxPage n) = true := outerPage_of_le (le_rxPage n)
@[simp] theorem outer_txPage (m : Nat) : outerPage (txPage m) = true := outerPage_of_le (le_txPage m)
@[simp] theorem outer_covePage (n p : Nat) : outerPage (covePage n p) = true := outerPage_of_le (le_covePage n p)
@[simp] theorem outer_macPage (m p : Nat) : outerPage (macPage m p) = true := outerPage_of_le (le_macPage m p)
@[simp] theorem outer_lpPage (k : Nat) : outerPage (lpPage k) = true := outerPage_of_le (le_lpPage k)

@[simp] theorem outer_bcnPage : outerPage bcnPage = true := by decide
@[simp] theorem outer_grpPage : outerPage grpPage = true := by decide
@[simp] theorem outer_syncPage : outerPage syncPage = true := by decide

/-! ## Stores

Each holds by unfolding. The parentheses keep `simp` from taking it for a rewrite that holds by definition: it then uses it as a rewrite of its
own, and the kernel does not unfold the operation again in each proof that does. -/

@[simp] theorem State.inner_emit (s : State) (o : Out) : (s.emit o).inner = s.inner := (rfl)
@[simp] theorem State.inner_owe (s : State) (d : Due) : (s.owe d).inner = s.inner := (rfl)
@[simp] theorem State.inner_noteHalf (s : State) (h : Nat) (g : HalfTide → HalfTide) : (s.noteHalf h g).inner = s.inner := (rfl)
@[simp] theorem State.inner_selfCheck (s : State) (h c : Nat) : (s.selfCheck h c).inner = s.inner := (rfl)

/-- Marks of an outer page, with the unacknowledged occurrences as they were. -/
theorem State.inner_putMarks (s : State) {pg : Nat} {m : FltMarks} (h : outerPage pg = true) (hu : m.unack = (s.marks pg).unack)
    (hs : m.sevs = (s.marks pg).sevs) : (s.putMarks pg m).inner = s.inner := by
  have hmarks : ∀ q, (s.putMarks pg m).marks q = if q = pg then m else s.marks q := by
    intro q
    split
    · next hq => rw [hq, State.marks, State.putMarks, SMap.get_set_same]
    · next hq => exact SMap.get_set_other _ _ _ (Ne.symm hq)
  have hinner : (fun q => if outerPage q then ({} : FltMarks) else (s.putMarks pg m).marks q) = fun q => if outerPage q then {} else s.marks q := by
    funext q
    by_cases hq : q = pg
    · simp [hq, h]
    · rw [hmarks, if_neg hq]
  have hunack : (fun q => (((s.putMarks pg m).marks q).unack, ((s.putMarks pg m).marks q).sevs)) = fun q => ((s.marks q).unack, (s.marks q).sevs) := by
    funext q
    rw [hmarks]
    split
    · next hq => rw [hq, hu, hs]
    · rfl
  simp only [State.inner, hinner, hunack]
  rfl

@[simp] theorem State.inner_putSrc (s : State) (n : Nat) (x : BeaconSrc) : (s.putSrc n x).inner = s.inner := (rfl)
@[simp] theorem State.inner_putMac (s : State) (m : Nat) (x : MacSt) : (s.putMac m x).inner = s.inner := (rfl)
@[simp] theorem State.inner_putPc (s : State) (n : Nat) (x : PcieSt) : (s.putPc n x).inner = s.inner := (rfl)
@[simp] theorem State.inner_putCh (s : State) (c : Nat) (x : ChannelSt) : (s.putCh c x).inner = s.inner := (rfl)
@[simp] theorem State.inner_putPort (s : State) (n : Nat) (x : PortSt) : (s.putPort n x).inner = s.inner := (rfl)
@[simp] theorem State.inner_putLane (s : State) (n : Nat) (x : LaneSt) : (s.putLane n x).inner = s.inner := (rfl)
@[simp] theorem State.inner_putStream (s : State) (n : Nat) (x : StreamSt) : (s.putStream n x).inner = s.inner := (rfl)
@[simp] theorem State.inner_putSync (s : State) (n : Nat) (x : SyncSt) : (s.putSync n x).inner = s.inner := (rfl)
@[simp] theorem State.inner_putWindow (s : State) (n : Nat) (x : JettySt) : (s.putWindow n x).inner = s.inner := (rfl)
@[simp] theorem State.inner_putCsi (s : State) (n : Nat) (x : CsiRxSt) : (s.putCsi n x).inner = s.inner := (rfl)
@[simp] theorem State.inner_putTx (s : State) (m : Nat) (x : CsiTxSt) : (s.putTx m x).inner = s.inner := (rfl)
@[simp] theorem State.inner_putCove (s : State) (n : Nat) (x : CoveSt) : (s.putCove n x).inner = s.inner := (rfl)
@[simp] theorem State.inner_modFrame (s : State) (h x q : Nat) (g : HalfFrame → HalfFrame) : (s.modFrame h x q g).inner = s.inner := (rfl)
@[simp] theorem State.inner_modPart (s : State) (n x q : Nat) (g : CovePart → CovePart) : (s.modPart n x q g).inner = s.inner := (rfl)
@[simp] theorem State.inner_retire (s : State) (h x q : Nat) : (s.retire h x q).inner = s.inner := (rfl)

@[simp] theorem State.inner_putHarb (s : State) (h : Nat) (x : HarbourSt) : (s.putHarb h x).inner = s.inner := (rfl)

/-! ## Fields, events and faults -/

@[simp] theorem State.inner_countSat (s : State) {pg : Nat} (f : Field) (n : Nat) (h : 0x50 ≤ pg) : (s.countSat pg f n).inner = s.inner :=
  State.inner_put s f _ h

@[simp] theorem State.inner_countWrap (s : State) {pg : Nat} (f : Field) (n : Nat) (h : 0x50 ≤ pg) : (s.countWrap pg f n).inner = s.inner :=
  State.inner_put s f _ h

@[simp] theorem State.inner_putMax (s : State) {pg : Nat} (f : Field) (v : Nat) (h : 0x50 ≤ pg) : (s.putMax pg f v).inner = s.inner :=
  State.inner_put s f _ h

@[simp] theorem State.inner_event (s : State) {pg : Nat} (b : Nat) (h : outerPage pg = true) : (s.event pg b).inner = s.inner :=
  State.inner_put_of_key s _ (outerKey_of_page (by rwa [fieldKey_event]))

@[simp] theorem State.inner_eventIf (s : State) (c : Bool) {pg : Nat} (b : Nat) (h : outerPage pg = true) : (s.eventIf c pg b).inner = s.inner := by
  simp [State.eventIf, h]

theorem State.inner_put_fault (s : State) {pg : Nat} (v : Nat) (h : outerPage pg = true) : (s.put pg Hdr.FLT_STAT_FAULT v).inner = s.inner :=
  State.inner_put_of_key s _ (outerKey_of_page (by rwa [fieldKey_fault]))

@[simp] theorem State.inner_occur (s : State) {pg : Nat} (b : Nat) (h : outerPage pg = true) : (s.occur pg b).inner = s.inner :=
  State.inner_put_fault s _ h

@[simp] theorem State.inner_raise (s : State) {pg : Nat} (b : Nat) (h : outerPage pg = true) : (s.raise pg b).inner = s.inner := by
  simp only [State.raise, State.inner_ite, State.inner_occur _ _ h]
  split
  · rfl
  · exact State.inner_putMarks s h rfl rfl

@[simp] theorem State.inner_lower (s : State) {pg : Nat} (b : Nat) (h : outerPage pg = true) : (s.lower pg b).inner = s.inner := by
  unfold State.lower
  extract_lets m s₁
  have hs₁ : s₁.inner = s.inner := State.inner_putMarks s h rfl rfl
  split
  · split
    · refine (State.inner_putMarks _ h ?unack ?sevs).trans ((State.inner_put_fault _ _ h).trans hs₁)
      case unack => rfl
      case sevs => rfl
    · exact hs₁
  · rfl

@[simp] theorem State.inner_cond (s : State) {pg : Nat} (b : Nat) (p : Bool) (h : outerPage pg = true) : (s.cond pg b p).inner = s.inner := by
  simp [State.cond, h]

@[simp] theorem State.inner_again (s : State) {pg : Nat} (b : Nat) (p : Bool) (h : outerPage pg = true) : (s.again pg b p).inner = s.inner := by
  simp [State.again, h]

end Sys2Proof.Machine
end

section
/-! PROOFS. Operations of the Beacon, the Harbours and the host link that leave `State.inner` alone. -/

namespace Sys2Proof.Machine

/-- A processor's entry of a field of LP_STAT stays in the Beacon's page. -/
theorem State.inner_put_lpStat (s : State) {f : Field} {k : Nat} (v : Nat) (hf : f.off = 0x108 ∧ f.stride = 0x20 ∧ f.lo < 32) (hk : k < 4) :
    (s.put bcnPage (f.nth k) v).inner = s.inner := by
  obtain ⟨hoff, hstride, hlo⟩ := hf
  refine State.inner_put_of_place s v outer_bcnPage ?_
  simp only [Field.nth, hoff, hstride]
  omega

theorem State.inner_putStack (s : State) {k : Nat} (l : List (Nat × Nat)) (hk : k < 4) : (s.putStack k l).inner = s.inner := by
  simp only [State.putStack, State.inner_put_lpStat _ _ (f := Beacon.LP_STAT_FAST_BUSY) (by decide) hk,
    State.inner_put_lpStat _ _ (f := Beacon.LP_STAT_RUN_PRIO) (by decide) hk, State.inner_put_lpStat _ _ (f := Beacon.LP_STAT_DEPTH) (by decide) hk,
    State.inner_put_lpStat _ _ (f := Beacon.LP_STAT_VALID) (by decide) hk, State.inner_put_lpStat _ _ (f := Beacon.LP_STAT_SOURCE) (by decide) hk]
  rfl

@[simp] theorem State.inner_judgeBeacon (s : State) : s.judgeBeacon.inner = s.inner := by simp [State.judgeBeacon]

@[simp] theorem State.inner_releaseSource (s : State) (n : Nat) (again : Bool) : (s.releaseSource n again).inner = s.inner := by
  simp [State.releaseSource]

theorem State.inner_beaconDropLp (s : State) {k : Nat} (hk : k < 4) : (s.beaconDropLp k).inner = s.inner := by
  simp [State.beaconDropLp, State.inner_foldl, State.inner_putStack _ _ hk]

/-- A commit group marks that it has lost a page. -/
@[simp] theorem State.inner_pageLost (s : State) (g v : Nat) : (s.putGrp Tidemark.GRP_STAT_PAGE_LOST g v).inner = s.inner := by
  refine State.inner_put_of_place s v outer_grpPage ?_
  simp only [Field.nth, Tidemark.GRP_STAT_PAGE_LOST]
  omega

@[simp] theorem State.inner_mapCapacity (s : State) (h : Nat) : (s.mapCapacity h).inner = s.inner := by simp [State.mapCapacity]
@[simp] theorem State.inner_judgeTrain (s : State) (h : Nat) : (s.judgeTrain h).inner = s.inner := by simp [State.judgeTrain]
@[simp] theorem State.inner_untrain (s : State) (h c : Nat) : (s.untrain h c).inner = s.inner := by simp [State.untrain]
@[simp] theorem State.inner_putJob (s : State) (e : Nat) (j : JobEntry) : (s.putJob e j).inner = s.inner := by simp [State.putJob]
@[simp] theorem State.inner_jobState (s : State) (e st : Nat) : (s.jobState e st).inner = s.inner := by simp [State.jobState]
@[simp] theorem State.inner_freeJob (s : State) (e : Nat) : (s.freeJob e).inner = s.inner := by simp [State.freeJob]
@[simp] theorem State.inner_judgeStarved (s : State) (h : Nat) : (s.judgeStarved h).inner = s.inner := by simp [State.judgeStarved]
@[simp] theorem State.inner_countBulkWait (s : State) (h : Nat) : (s.countBulkWait h).inner = s.inner := by simp [State.countBulkWait]
@[simp] theorem State.inner_failJob (s : State) (e : Nat) : (s.failJob e).inner = s.inner := by simp [State.failJob]
@[simp] theorem State.inner_flyEntry (s : State) (e : Nat) : (s.flyEntry e).inner = s.inner := by simp [State.flyEntry]

@[simp] theorem State.inner_ask (s : State) (h : Nat) (r : MemReq) : (s.ask h r).inner = s.inner := by
  unfold State.ask
  split <;> simp

@[simp] theorem State.inner_entryBack (s : State) (e gen : Nat) : (s.entryBack e gen).2.inner = s.inner := by
  unfold State.entryBack
  dsimp only
  split <;> simp

@[simp] theorem State.inner_freeHeld (s : State) (e : Option (Nat × Nat)) : (s.freeHeld e).inner = s.inner := by
  cases e <;> simp [State.freeHeld]

theorem State.inner_allocBulk {s t : State} {h e : Nat} {j : JobEntry} (ht : s.allocBulk h j = some (e, t)) : t.inner = s.inner := by
  simp only [State.allocBulk, Option.map_eq_some_iff, Prod.mk.injEq] at ht
  obtain ⟨_, -, rfl, rfl⟩ := ht
  simp

theorem State.inner_allocSlice {s t : State} {h : Nat} {b : Bool} {j : JobEntry} (ht : s.allocSlice h b j = some t) : t.inner = s.inner := by
  simp only [State.allocSlice, Option.map_eq_some_iff] at ht
  obtain ⟨_, -, rfl⟩ := ht
  simp

theorem State.inner_takeResult {s t : State} {h q c g : Nat} {r : MemResult} (ht : s.takeResult h q c g = some (r, t)) : t.inner = s.inner := by
  simp only [State.takeResult, Option.map_eq_some_iff, Prod.mk.injEq] at ht
  obtain ⟨_, -, -, rfl⟩ := ht
  simp

@[simp] theorem State.inner_harbourReset (s : State) (h : Nat) : (s.harbourReset h).inner = s.inner := by
  unfold State.harbourReset
  refine (State.inner_foldl ?stores _ _).trans (State.inner_putHarb s h _)
  case stores => intro _ _; rfl

@[simp] theorem State.inner_pcPut (s : State) (n p : Nat) (f : Field) (v : Nat) : (s.pcPut n p f v).inner = s.inner :=
  State.inner_foldl (by simp) _ _

@[simp] theorem State.inner_pcCount (s : State) (n : Nat) (f : Field) (k : Nat) : (s.pcCount n f k).inner = s.inner :=
  State.inner_foldl (by simp) _ _

@[simp] theorem State.inner_pcEvent (s : State) (n b : Nat) : (s.pcEvent n b).inner = s.inner :=
  State.inner_foldl (by simp) _ _

@[simp] theorem State.inner_judgeLink (s : State) (n : Nat) : (s.judgeLink n).inner = s.inner := by simp [State.judgeLink]
@[simp] theorem State.inner_judgeAer (s : State) (n : Nat) : (s.judgeAer n).inner = s.inner := by simp [State.judgeAer]
@[simp] theorem State.inner_errMessage (s : State) (n l : Nat) : (s.errMessage n l).inner = s.inner := by simp [State.errMessage]
@[simp] theorem State.inner_aerCorrectable (s : State) (n b : Nat) : (s.aerCorrectable n b).inner = s.inner := by simp [State.aerCorrectable]
@[simp] theorem State.inner_logHeader (s : State) (n b d : Nat) : (s.logHeader n b d).inner = s.inner := by simp [State.logHeader]

@[simp] theorem State.inner_aerUncorrectable (s : State) (n b d : Nat) : (s.aerUncorrectable n b d).inner = s.inner := by
  simp [State.aerUncorrectable]

@[simp] theorem State.inner_countNp (s : State) (n : Nat) : (s.countNp n).inner = s.inner := by simp [State.countNp]
@[simp] theorem State.inner_judgeTags (s : State) (n : Nat) : (s.judgeTags n).inner = s.inner := by simp [State.judgeTags]

@[simp] theorem State.inner_readBack (s : State) (c b q : Nat) (l : List Byte) : (s.readBack c b q l).inner = s.inner := by
  simp [State.readBack]

@[simp] theorem State.inner_endNp (s : State) (n : Nat) (q : NpReq) (b : Option (List Byte)) : (s.endNp n q b).inner = s.inner := by
  unfold State.endNp
  cases hq : q.entry <;> cases b <;> simp

@[simp] theorem State.inner_failReads (s : State) (n : Nat) : (s.failReads n).inner = s.inner := by simp [State.failReads, State.inner_foldl]
@[simp] theorem State.inner_resetFunction (s : State) (n : Nat) : (s.resetFunction n).inner = s.inner := by simp [State.resetFunction]
@[simp] theorem State.inner_linkOut (s : State) (n l : Nat) : (s.linkOut n l).inner = s.inner := by simp [State.linkOut]
@[simp] theorem State.inner_linkDown (s : State) (n l : Nat) : (s.linkDown n l).inner = s.inner := by simp [State.linkDown]

end Sys2Proof.Machine
end

section
/-! PROOFS. Operations of the aperture, the Lighthouse, the Drift, the Inlet, the Jetty, lanes and camera ports that leave `State.inner` alone. -/

namespace Sys2Proof.Machine

@[simp] theorem State.inner_aperError (s : State) (n h o c : Nat) (w : Bool) : (s.aperError n h o c w).inner = s.inner := by
  simp [State.aperError]

@[simp] theorem State.inner_aperFail (s : State) (n h o c : Nat) (w : Bool) (d : Nat) : (s.aperFail n h o c w d).inner = s.inner := by
  simp [State.aperFail]

@[simp] theorem State.inner_aperAnswer (s : State) (n : Nat) (x : AperAccess) : (s.aperAnswer n x).inner = s.inner := by
  unfold State.aperAnswer
  refine (State.inner_foldl_fst ?answers _ _).trans ?error
  case answers => intro _ _; rfl
  case error => simp

@[simp] theorem State.inner_aperResult (s : State) (h : Nat) (r : MemResult) : (s.aperResult h r).inner = s.inner := by
  unfold State.aperResult
  dsimp only
  split
  · rfl
  · rename_i ht
    rw [← State.inner_takeResult ht]
    split
    · rfl
    · simp

@[simp] theorem State.inner_putLhCtx (s : State) (e c : Nat) (x : LightCtx) : (s.putLhCtx e c x).inner = s.inner := by
  simp only [State.putLhCtx, State.inner_cond _ _ _ (outer_lhPage e)]
  rfl

@[simp] theorem State.inner_lhRestart (s : State) (e c : Nat) : (s.lhRestart e c).inner = s.inner := by simp [State.lhRestart]

@[simp] theorem State.inner_judgeFrozen (s : State) (l : Latch) (p : List (Nat × Nat × List (Option Nat))) :
    (s.judgeFrozen l p).2.inner = s.inner := by
  unfold State.judgeFrozen
  split
  · rfl
  · exact State.inner_foldl (by simp) _ _

@[simp] theorem State.inner_judgeSensor (s : State) (p : List (Nat × Nat)) (b : Bool) : (s.judgeSensor p b).inner = s.inner :=
  State.inner_foldl (by simp) _ _

@[simp] theorem State.inner_soundAbandon (s : State) (t : List Tap) : (s.soundAbandon t).inner = s.inner :=
  State.inner_foldl (by simp) _ _

@[simp] theorem State.inner_dropTaps (s : State) (u : Nat) : (s.dropTaps u).inner = s.inner :=
  (State.inner_foldl (by simp) _ _).trans rfl

@[simp] theorem State.inner_judgeCh (s : State) (c : Nat) : (s.judgeCh c).inner = s.inner := by simp [State.judgeCh]
@[simp] theorem State.inner_abortCh (s : State) (c : Nat) : (s.abortCh c).inner = s.inner := by simp [State.abortCh, State.inner_foldl]
@[simp] theorem State.inner_stPut (s : State) (n : Nat) (f : Field) (v : Nat) : (s.stPut n f v).inner = s.inner := by simp [State.stPut]
@[simp] theorem State.inner_stCount (s : State) (n : Nat) (f : Field) : (s.stCount n f).inner = s.inner := by simp [State.stCount]
@[simp] theorem State.inner_judgeHeaders (s : State) (n : Nat) : (s.judgeHeaders n).inner = s.inner := by simp [State.judgeHeaders]
@[simp] theorem State.inner_toInlet (s : State) (n : Nat) (i : InletItem) : (s.toInlet n i).inner = s.inner := by simp [State.toInlet]

@[simp] theorem State.inner_intake (s : State) (n : Nat) (b : List Byte) (k : Bool) (x y : Nat) : (s.intake n b k x y).inner = s.inner := by
  unfold State.intake
  split
  · rfl
  · split
    · simp
    · extract_lets
      split
      · simp +zetaDelta
      · split <;> simp +zetaDelta

@[simp] theorem State.inner_gapTo (s : State) (n : Nat) : (s.gapTo n).inner = s.inner := by simp [State.gapTo]
@[simp] theorem State.inner_bcSend (s : State) (n t : Nat) (p : List Byte) : (s.bcSend n t p).inner = s.inner := by simp [State.bcSend]
@[simp] theorem State.inner_judgeSyncLost (s : State) : s.judgeSyncLost.inner = s.inner := by simp [State.judgeSyncLost]

@[simp] theorem State.inner_skipMap (s : State) (n : Nat) :
    (s.mapPort Tidemark.SYNC_SKIP_MAP_LO_PORT Tidemark.SYNC_SKIP_MAP_HI_PORT n).inner = s.inner := by
  unfold State.mapPort
  split <;> exact State.inner_put_of_place s _ outer_syncPage (by decide)

@[simp] theorem State.inner_countSkip (s : State) (n : Nat) : (s.countSkip n).inner = s.inner := by simp [State.countSkip]
@[simp] theorem State.inner_pathMissed (s : State) (n k : Nat) : (s.pathMissed n k).inner = s.inner := by simp [State.pathMissed]

@[simp] theorem State.inner_putJtSlot (s : State) (n i : Nat) (v : JettySlot) : (s.putJtSlot n i v).inner = s.inner := by
  simp [State.putJtSlot]

@[simp] theorem State.inner_judgeJtErr (s : State) (n : Nat) : (s.judgeJtErr n).inner = s.inner := by simp [State.judgeJtErr]
@[simp] theorem State.inner_judgeMirErr (s : State) (n : Nat) : (s.judgeMirErr n).inner = s.inner := by simp [State.judgeMirErr]

@[simp] theorem State.inner_logJt (s : State) (n q : Nat) (w : Bool) (c g i x f k : Nat) : (s.logJt n q w c g i x f k).inner = s.inner := by
  simp [State.logJt]

@[simp] theorem State.inner_sendTxn (s : State) (n i : Nat) : (s.sendTxn n i).inner = s.inner := by simp [State.sendTxn]
@[simp] theorem State.inner_openTxn (s : State) (n i q w : Nat) (t : BusTxn) : (s.openTxn n i q w t).inner = s.inner := by simp [State.openTxn]

@[simp] theorem State.inner_failRead (s : State) (r : HeldRead) : (s.failRead r).inner = s.inner := by
  unfold State.failRead
  dsimp only
  split <;> simp

@[simp] theorem State.inner_endHeld (s : State) (n i : Nat) (v : Option Nat) : (s.endHeld n i v).inner = s.inner := by
  unfold State.endHeld
  dsimp only
  split <;> simp

@[simp] theorem State.inner_endTxq (s : State) (n c k : Nat) (d : List Byte) : (s.endTxq n c k d).inner = s.inner := by
  simp [State.endTxq, State.inner_foldl]

@[simp] theorem State.inner_endMirror (s : State) (n m : Nat) (w ok : Bool) (v : Nat) : (s.endMirror n m w ok v).inner = s.inner := by
  simp [State.endMirror]

@[simp] theorem State.inner_endSensor (s : State) (n : Nat) (ok : Bool) : (s.endSensor n ok).inner = s.inner := by
  have hkey : outerKey (fieldKey 0x8 Chip.BOOT_SENS_ERR_COUNT) = true := by decide
  unfold State.endSensor
  dsimp only
  split
  · rfl
  · split
    · rfl
    · exact State.inner_put_of_key _ _ hkey

@[simp] theorem State.inner_endTxn (s : State) (n i c : Nat) (d : List Byte) (f k : Nat) (m : Bool) : (s.endTxn n i c d f k m).inner = s.inner := by
  simp [State.endTxn]

@[simp] theorem State.inner_startTxn (s : State) (n i : Nat) : (s.startTxn n i).inner = s.inner := by simp [State.startTxn]

@[simp] theorem State.inner_pumpMirror (s : State) (n t : Nat) (l : List Nat) : (s.pumpMirror n t l).inner = s.inner := by
  induction l generalizing s with
  | nil => rfl
  | cons e r ih =>
    unfold State.pumpMirror
    extract_lets pg m write f takes
    split
    · exact ih s
    · split
      · rfl
      · simp +zetaDelta [ih]

@[simp] theorem State.inner_resumeMirror (s : State) (n : Nat) : (s.resumeMirror n).inner = s.inner := by
  unfold State.resumeMirror
  split <;> simp

@[simp] theorem State.inner_jettyLinkDown (s : State) (n : Nat) : (s.jettyLinkDown n).inner = s.inner := by
  simp [State.jettyLinkDown, State.inner_foldl]

@[simp] theorem State.inner_putRx (s : State) (n v : Nat) : (s.putRx n v).inner = s.inner := by simp [State.putRx]
@[simp] theorem State.inner_linkTo (s : State) (n v : Nat) : (s.linkTo n v).inner = s.inner := by simp [State.linkTo]
@[simp] theorem State.inner_dropFsyncs (s : State) (n : Nat) : (s.dropFsyncs n).inner = s.inner := by simp [State.dropFsyncs, State.inner_foldl]
@[simp] theorem State.inner_pausePoll (s : State) (n : Nat) : (s.pausePoll n).inner = s.inner := (rfl)

@[simp] theorem State.inner_noteBreak (s : State) (n : Nat) : (s.noteBreak n).inner = s.inner := by
  unfold State.noteBreak
  dsimp only
  split
  · rfl
  · split
    · rfl
    · exact (State.inner_put _ _ _ (le_wePage n)).trans rfl

@[simp] theorem State.inner_trackSeq (s : State) (n q : Nat) (a : Bool) : (s.trackSeq n q a).inner = s.inner := by
  unfold State.trackSeq
  dsimp only
  split <;> simp

@[simp] theorem State.inner_breakPacket (s : State) (n : Nat) : (s.breakPacket n).inner = s.inner := by
  unfold State.breakPacket
  split <;> simp

@[simp] theorem State.inner_leaveOperating (s : State) (n : Nat) (c l : Bool) : (s.leaveOperating n c l).inner = s.inner := by
  simp [State.leaveOperating]

@[simp] theorem State.inner_laneOff (s : State) (n : Nat) : (s.laneOff n).inner = s.inner := by simp [State.laneOff]
@[simp] theorem State.inner_rxOff (s : State) (n : Nat) : (s.rxOff n).inner = s.inner := by simp [State.rxOff]
@[simp] theorem State.inner_putTxSlot (s : State) (m k : Nat) (x : TxSlot) : (s.putTxSlot m k x).inner = s.inner := by simp [State.putTxSlot]
@[simp] theorem State.inner_judgeTx (s : State) (m : Nat) : (s.judgeTx m).inner = s.inner := by simp [State.judgeTx]
@[simp] theorem State.inner_txOff (s : State) (m : Nat) : (s.txOff m).inner = s.inner := by simp [State.txOff, State.inner_foldl]

end Sys2Proof.Machine
end

section
/-! PROOFS. Operations on frames, Coves and streams that leave `State.inner` alone. -/

namespace Sys2Proof.Machine

@[simp] theorem State.inner_embError (s : State) (n : Nat) : (s.embError n).inner = s.inner := by simp [State.embError]
@[simp] theorem State.inner_syncFrameEnd (s : State) (x : Nat) : (s.syncFrameEnd x).inner = s.inner := by simp [State.syncFrameEnd]
@[simp] theorem State.inner_judgeRate (s : State) : s.judgeRate.inner = s.inner := by simp [State.judgeRate]
@[simp] theorem State.inner_syncMeasure (s : State) (x l a b : Nat) : (s.syncMeasure x l a b).inner = s.inner := by simp [State.syncMeasure]
@[simp] theorem State.inner_putCoveCtx (s : State) (n c : Nat) (x : CoveCtx) : (s.putCoveCtx n c x).inner = s.inner := (rfl)
@[simp] theorem State.inner_judgeCove (s : State) (n : Nat) : (s.judgeCove n).inner = s.inner := by simp [State.judgeCove, State.inner_foldl]

@[simp] theorem State.inner_flagPart (s : State) (n x q i : Nat) (t : Bool) : (s.flagPart n x q i t).inner = s.inner := by
  simp [State.flagPart]
  split <;> simp

@[simp] theorem State.inner_issueOp (s : State) (n : Nat) (o : CoveOp) : (s.issueOp n o).inner = s.inner := by
  unfold State.issueOp
  extract_lets h x cls job upd
  split
  · rfl
  · split
    · simp [upd]
    · next e t ht =>
      have hk : t.inner = s.inner := by
        split at ht
        · cases ht
        · exact State.inner_allocBulk ht
      simp [upd, hk]

@[simp] theorem State.inner_addOps (s : State) (n : Nat) (l : List CoveOp) : (s.addOps n l).inner = s.inner := State.inner_foldl (by simp) _ _
@[simp] theorem State.inner_retryOps (s : State) (n : Nat) : (s.retryOps n).inner = s.inner := State.inner_foldl (by simp) _ _

@[simp] theorem State.inner_dropOps (s : State) (n : Nat) (p : CoveOp → Bool) : (s.dropOps n p).inner = s.inner := by
  simp [State.dropOps, State.inner_foldl]

@[simp] theorem State.inner_learnFind (s : State) (n x q : Nat) (d : Nat × Nat × Nat × Bool) : (s.learnFind n x q d).inner = s.inner := by
  unfold State.learnFind
  split <;> simp

@[simp] theorem State.inner_countLearned (s : State) (n c : Nat) : (s.countLearned n c).inner = s.inner := by simp [State.countLearned]

@[simp] theorem State.inner_countRows (s : State) (n x q : Nat) : (s.countRows n x q).inner = s.inner := by
  unfold State.countRows
  split
  · rfl
  · exact (State.inner_foldl (by simp) _ _).trans (State.inner_modPart ..)

@[simp] theorem State.inner_measureBlack (s : State) (h x q : Nat) : (s.measureBlack h x q).inner = s.inner := by
  unfold State.measureBlack
  split
  · rfl
  · split
    · rfl
    · extract_lets
      split
      · rfl
      · refine (State.inner_foldl (fun s p => ?_) _ _).trans (State.inner_modFrame ..)
        extract_lets pg word s₁ s₂
        rw [State.inner_putCoveCtx]
        simp [s₂, s₁, pg, State.inner_foldl]

@[simp] theorem State.inner_handUnit (s : State) (f : HalfFrame) (o : OutFrame) (u : FrameUnit) : (s.handUnit f o u).inner = s.inner := (rfl)
@[simp] theorem State.inner_modOut (s : State) (h x q k : Nat) (g : OutFrame → OutFrame) : (s.modOut h x q k g).inner = s.inner := (rfl)

@[simp] theorem State.inner_handBytes (s : State) (h x q k o : Nat) (w : Bool) (b : List Byte) : (s.handBytes h x q k o w b).inner = s.inner := by
  unfold State.handBytes
  split
  · rfl
  · simp [State.inner_foldl]

@[simp] theorem State.inner_handLine (s : State) (h x q k j : Nat) : (s.handLine h x q k j).inner = s.inner := by
  unfold State.handLine
  split
  · rfl
  · split <;> simp

@[simp] theorem State.inner_offerOut (s : State) (f : HalfFrame) (o : OutFrame) : (s.offerOut f o).inner = s.inner := by simp [State.offerOut]

@[simp] theorem State.inner_handLines (s : State) (h x q : Nat) : (s.handLines h x q).inner = s.inner := by
  unfold State.handLines
  split
  · rfl
  · refine State.inner_foldl (fun s o => ?_) _ _
    dsimp only
    split <;> simp [State.inner_foldl]

@[simp] theorem State.inner_closeContext (s : State) (f : HalfFrame) (p : CovePart) : (s.closeContext f p).inner = s.inner := by
  simp [State.closeContext, State.inner_foldl]

@[simp] theorem State.inner_writeStat (s : State) (h x q : Nat) : (s.writeStat h x q).inner = s.inner := by
  unfold State.writeStat
  split
  · rfl
  · split <;> simp

@[simp] theorem State.inner_finishFrame (s : State) (h x q : Nat) : (s.finishFrame h x q).inner = s.inner := by
  unfold State.finishFrame
  split
  · rfl
  · split
    · rfl
    · extract_lets
      split
      next frozen t ht =>
      have hk : t.inner = s.inner := by
        split at ht
        · cases ht; rfl
        · exact (congrArg (·.2.inner) ht).symm.trans (State.inner_judgeFrozen ..)
      simp [State.inner_foldl, hk]

@[simp] theorem State.inner_frameAdvance (s : State) (h x q : Nat) : (s.frameAdvance h x q).inner = s.inner := by
  unfold State.frameAdvance
  split <;> simp [State.inner_foldl]

@[simp] theorem State.inner_coveResult (s : State) (h : Nat) (r : MemResult) : (s.coveResult h r).inner = s.inner := by
  unfold State.coveResult
  extract_lets n
  split
  · rfl
  · split
    · rfl
    · split
      · rfl
      · extract_lets later tags s₁ free s₂
        have hs₁ : s₁.inner = s.inner := State.inner_putHarb s _ _
        have hs₂ : s₂.inner = s₁.inner := State.inner_foldl (fun s q => by split <;> simp) _ _
        simp [hs₁, hs₂]
    · split
      · rfl
      · next ht =>
        rw [← State.inner_takeResult ht]
        simp

@[simp] theorem State.inner_cutPart (s : State) (n x q r : Nat) : (s.cutPart n x q r).inner = s.inner := by
  unfold State.cutPart
  split
  · rfl
  · split
    · rfl
    · extract_lets h s₁ x mine s₂ ours _ s₃ jobs s₄ s₅
      have hs₃ : s₃.inner = s.inner := State.inner_putHarb s₂ _ _
      have hs₄ : s₄.inner = s₃.inner := State.inner_foldl (by simp) _ _
      simp [s₅, hs₄, hs₃]

@[simp] theorem State.inner_createJob (s : State) (h x q : Nat) (b : Bool) (d : Nat × Nat × Nat × Nat) : (s.createJob h x q b d).inner = s.inner := by
  unfold State.createJob
  split
  · rfl
  · split
    · rfl
    · extract_lets behind made
      have hmade : ∀ t, made = some t → t.inner = s.inner := by
        intro t ht
        simp only [made] at ht
        split at ht
        · cases ht
        · exact State.inner_allocSlice ht
      clear_value made
      cases made with
      | none => simp
      | some t => simp [hmade t rfl]

@[simp] theorem State.inner_settleRows (s : State) (h x q : Nat) : (s.settleRows h x q).inner = s.inner := by
  unfold State.settleRows
  split
  · rfl
  · exact (State.inner_foldl (by simp) _ _).trans (State.inner_foldl (by simp) _ _)

@[simp] theorem State.inner_abortRows (s : State) (n x q r : Nat) : (s.abortRows n x q r).inner = s.inner := by
  simp [State.abortRows, State.inner_foldl]

@[simp] theorem State.inner_sliceResult (s : State) (h : Nat) (r : MemResult) : (s.sliceResult h r).inner = s.inner := by
  unfold State.sliceResult
  extract_lets e j
  split
  · rfl
  · next ht =>
    rw [← State.inner_takeResult ht]
    extract_lets x
    split
    · rfl
    · split <;> simp

@[simp] theorem State.inner_judgeInlet (s : State) (n : Nat) : (s.judgeInlet n).inner = s.inner := by simp [State.judgeInlet]
@[simp] theorem State.inner_sentinelPart (s : State) (x h : Nat) : (s.sentinelPart x h).inner = s.inner := by simp [State.sentinelPart]
@[simp] theorem State.inner_endPart (s : State) (x c t r : Nat) : (s.endPart x c t r).inner = s.inner := by simp [State.endPart]

@[simp] theorem State.inner_showCheck (s : State) (x : Nat) (ok : Option Bool) : (s.showCheck x ok).inner = s.inner := by
  unfold State.showCheck
  extract_lets pg st crc
  split
  · rfl
  · next s₁ s₂ _ ok =>
    have hs₂ : s₂.inner = s.inner := by
      simp only [s₂]
      split <;> simp [s₁, pg]
    simp [hs₂, pg]

@[simp] theorem State.inner_countOutcome (s : State) (x : Nat) (a b : Bool) : (s.countOutcome x a b).inner = s.inner := by
  simp [State.countOutcome]

@[simp] theorem State.inner_countChange (s : State) (h x q : Nat) (g : CovePart → CovePart) : (s.countChange h x q g).inner = s.inner := by
  simp [State.countChange]

@[simp] theorem State.inner_closeStream (s : State) (x : Nat) (c : Bool) (n : Nat) : (s.closeStream x c n).inner = s.inner := by
  unfold State.closeStream
  extract_lets st seq sof rows
  split
  extract_lets s₁ s₂ s₃
  have hs₂ : s₂.inner = s₁.inner := by
    simp only [s₂]
    split <;> simp
  have hs₃ : s₃.inner = s.inner := by simp [s₃, hs₂, s₁]
  split
  simp [State.inner_foldl, hs₃]

@[simp] theorem State.inner_truncateStream (s : State) (x n : Nat) : (s.truncateStream x n).inner = s.inner := by simp [State.truncateStream]
@[simp] theorem State.inner_cutStream (s : State) (x c : Nat) : (s.cutStream x c).inner = s.inner := by simp [State.cutStream]

@[simp] theorem State.inner_cutParts (s : State) (p : HalfFrame → CovePart → Bool) : (s.cutParts p).inner = s.inner :=
  State.inner_foldl (fun _ _ => State.inner_foldl (by simp) _ _) _ _

@[simp] theorem State.inner_truncateParts (s : State) (h x q r : Nat) : (s.truncateParts h x q r).inner = s.inner := by
  unfold State.truncateParts
  split
  · rfl
  · simp [State.inner_foldl]

@[simp] theorem State.inner_rawResult (s : State) (h : Nat) (r : MemResult) : (s.rawResult h r).inner = s.inner := by
  unfold State.rawResult
  split
  · rfl
  · rename_i ht
    rw [← State.inner_takeResult ht]
    simp [State.inner_foldl]

@[simp] theorem State.inner_takeOne (s : State) (h : Nat) (r : MemResult) : (s.takeOne h r).inner = s.inner := by
  unfold State.takeOne
  split <;> simp

@[simp] theorem State.inner_takeUp (s : State) (h : Nat) : (s.takeUp h).inner = s.inner := State.inner_foldl (by simp) _ _

end Sys2Proof.Machine
end

section
/-! PROOFS. Instances that lose power and domains that switch. -/

namespace Sys2Proof.Machine

@[simp] theorem State.inner_resetPort (s : State) (n : Nat) : (s.resetPort n).inner = s.inner := by simp [State.resetPort]

@[simp] theorem State.inner_resetCove (s : State) (n : Nat) : (s.resetCove n).inner = s.inner := by
  unfold State.resetCove
  extract_lets s₁ led s₂ s₃
  have hs₁ : s₁.inner = s.inner := by simp [s₁, State.cutCove]
  have hs₂ : s₂.inner = s₁.inner := by
    refine State.inner_foldl ?_ _ _
    intro _ _
    rfl
  have hs₃ : s₃.inner = s₂.inner := State.inner_putCove ..
  rw [State.inner_foldl fun s c => State.inner_lhRestart s n c, hs₃, hs₂, hs₁]

theorem State.inner_pairDown (s : State) {k : Nat} (hk : k < 4) : (s.pairDown k).inner = s.inner := by
  simp only [State.pairDown, State.inner_beaconDropLp _ hk]
  rfl

@[simp] theorem State.inner_resetWindow (s : State) (n : Nat) : (s.resetWindow n).inner = s.inner := by simp [State.resetWindow]

/-- The blocks that a BLOCK reaction or a power-off can reset: not those of the spine (R480). -/
def Block.isUnit (b : Block) : Bool := !([.chip, .tidemark, .breakwater, .seawall] : List Block).contains b

theorem Block.outer_page {b : Block} (h : b.isUnit = true) {n p : Nat} (hp : p < b.pages) : outerPage (b.page n p) = true := by
  by_cases hb : b = .beacon
  · subst hb
    have hlt : 0x30 + p < 0x34 := Nat.add_lt_add_left (show p < 4 from hp) _
    simp only [Block.page, outerPage, Nat.le_add_right, hlt, decide_true, Bool.and_self, Bool.or_true, Bool.true_or]
  · refine outerPage_of_le (Block.le_page ?_ n p)
    revert h hb
    cases b <;> decide

theorem Block.outer_base {r : PageRef} (h : r.block.isUnit = true) : outerPage r.base = true :=
  Block.outer_page h (by cases r.block <;> decide)

theorem State.inner_dropCommit (s : State) {pg : Nat} (h : outerPage pg = true) : (s.dropCommit pg).inner = s.inner := by
  simp only [State.dropCommit, State.inner_ite, State.inner_pageLost, State.inner_put_of_place _ (f := Hdr.COMMIT_PENDING) _ h (by decide),
    State.inner_put_of_place _ (f := Hdr.COMMIT_CAPTURED) _ h (by decide), ite_self]
  rfl

theorem State.inner_lowerAll (s : State) (r : PageRef) (b : Bool) (h : outerPage (r.block.page r.inst r.idx) = true) :
    (s.lowerAll r b).inner = s.inner :=
  State.inner_foldl (by simp [h]) _ _

theorem State.inner_resetFields (s : State) (r : PageRef) (b : Bool) (h : outerPage (r.block.page r.inst r.idx) = true) :
    (s.resetFields r b).inner = s.inner := by
  refine State.inner_setRegs s fun k hk => ?_
  refine SMap.get_filter_kept (p := fun k => k / 0x8000 != r.block.page r.inst r.idx || fieldKept r b k) _ _ ?_
  have hne : k / 0x8000 ≠ r.block.page r.inst r.idx := by
    intro heq
    rw [outerKey_of_page (heq ▸ h)] at hk
    cases hk
  simp [hne]

theorem State.inner_resetPages (s : State) (r : PageRef) (b : Bool) (h : r.block.isUnit = true) : (s.resetPages r b).inner = s.inner := by
  have hpage : ∀ p < r.block.pages, outerPage (r.block.page r.inst p) = true := fun p hp => Block.outer_page h hp
  have hbase : outerPage r.base = true := Block.outer_base h
  unfold State.resetPages
  extract_lets en req s₁ s₂
  have hs₂ : s₂.inner = s₁.inner := by
    simp only [s₂, List.foldl_map]
    refine State.inner_foldl_mem (fun p hp s => ?_) _
    have hout := hpage p (List.mem_range.mp hp)
    simp only [State.inner_put_of_place _ (f := Hdr.EVT_STAT_EVENT) _ hout (by decide), State.inner_put_of_place _ (f := Hdr.EVT_EN_ENABLE) _ hout (by decide),
      State.inner_resetFields _ { r with idx := p } b hout, State.inner_lowerAll _ { r with idx := p } b hout, State.inner_dropCommit _ hout]
  rw [State.inner_put_of_place _ (f := Hdr.CTRL_PWR_REQ) _ hbase (by decide), State.inner_put_of_place _ (f := Hdr.CTRL_EN) _ hbase (by decide), hs₂]
  rfl

/-- An instance of a unit, within the numbers of its block. -/
def PageRef.isUnit (r : PageRef) : Prop := r.block.isUnit = true ∧ (r.block = .lp → r.inst < 4)

theorem State.inner_resetUnit (s : State) {r : PageRef} (h : r.isUnit) : (s.resetUnit r).inner = s.inner := by
  obtain ⟨b, n, p⟩ := r
  obtain ⟨hunit, hlp⟩ := h
  cases b with
  | chip | tidemark | breakwater | seawall => cases hunit
  | fastStatus | beacon | bridge | mac => rfl
  | cove => exact State.inner_resetCove s n
  | lighthouse => exact State.inner_foldl (fun s c => State.inner_lhRestart s n c) _ s
  | sounding => exact State.inner_dropTaps s n
  | harbour => simp [State.resetUnit, State.cutHarbour]
  | drift => simp [State.resetUnit]
  | weatas => exact (State.inner_putLane ..).trans (State.inner_laneOff s n)
  | csiRx => exact (State.inner_putCsi ..).trans (State.inner_rxOff s n)
  | csiTx => exact State.inner_txOff s n
  | inlet => exact State.inner_resetPort s n
  | streamTab => exact State.inner_foldl (fun s x => State.inner_truncateStream s x 2) _ s
  | jetty => exact State.inner_resetWindow s n
  | pcie => exact State.inner_resetFunction s n
  | lp => exact State.inner_pairDown s (hlp rfl)

theorem State.inner_judgeAfresh (s : State) {r : PageRef} (h : r.isUnit) : (s.judgeAfresh r).inner = s.inner := by
  obtain ⟨b, n, p⟩ := r
  obtain ⟨hunit, -⟩ := h
  cases b with
  | chip | tidemark | breakwater | seawall => cases hunit
  | inlet | pcie | harbour => simp [State.judgeAfresh]
  | mac => exact State.inner_cond s _ _ (Block.outer_base hunit)
  | csiTx => exact State.inner_judgeTx s n
  | streamTab | weatas | csiRx | lp | beacon | lighthouse | sounding | fastStatus | jetty | bridge | cove | drift => rfl

theorem State.inner_resetInstance (s : State) {r : PageRef} (h : r.isUnit) (powerOff : Bool) : (s.resetInstance r powerOff).inner = s.inner := by
  unfold State.resetInstance
  rw [State.inner_judgeAfresh _ h, State.inner_foldl_mem fun q hq s => State.inner_resetPages s q powerOff ?_, State.inner_resetUnit s h]
  obtain ⟨hunit, -⟩ := h
  cases powerOff with
  | true => simpa [List.mem_singleton.mp hq] using hunit
  | false =>
    simp only [State.resetWith, Bool.false_eq_true, if_false] at hq
    split at hq
    · obtain ⟨_, -, rfl⟩ := List.mem_map.mp hq
      rfl
    · rwa [List.mem_singleton.mp hq]

end Sys2Proof.Machine
end

section
/-!
PROOFS. What block resets and the switching of domains leave alone: the inner parts but for the switching itself, the quiet windows, and the states of
the halves, which follow the power of their Harbours.
-/
namespace Sys2Proof.Machine

/-- The states of the halves, and the acknowledges of the power domains (R553). -/
def stateKeys : List Nat := [fieldKey 0x40 Seawall.SW_STAT_STATE_H0, fieldKey 0x40 Seawall.SW_STAT_STATE_H1] ++
  (List.range 96).map fun d => fieldKey 0x3 (Chip.PD_CTRL_ACK.nth d)

/-- The inner parts without what the switching of domains moves. -/
def Inner.steady (i : Inner) : Inner :=
  { i with power := { i.power with up := [], down := [], failed := [], resetting := [] }, fault := { i.fault with quiet := [] }
           fields := fun k => if k ∈ stateKeys then 0 else i.fields k }

def State.spine (s : State) : Inner := s.inner.steady

theorem State.spine_of_inner {s t : State} (h : t.inner = s.inner) : t.spine = s.spine := congrArg Inner.steady h

theorem State.spine_foldl_mem {α : Type} {f : State → α → State} {l : List α} (h : ∀ a ∈ l, ∀ s, (f s a).spine = s.spine) (s : State) :
    (l.foldl f s).spine = s.spine := by
  induction l generalizing s with
  | nil => rfl
  | cons a l ih => rw [List.foldl_cons, ih fun b hb => h b (.tail _ hb), h a (.head _)]

/-! ## Block resets (R77, R484, R628) -/

theorem State.inner_put_quiet (s : State) (v : Nat) : (s.put 0x20 Breakwater.BW_STAT_QUIET v).inner = s.inner :=
  State.inner_put_of_key s v (by decide)

theorem State.inner_quietEvent (s : State) (c : Bool) (b : Nat) : (s.eventIf c 0x20 b).inner = s.inner := by
  have hevent : (s.event 0x20 b).inner = s.inner := State.inner_put_of_key s _ (by decide)
  simp [State.eventIf, hevent]

/-- A quiet window opens. -/
theorem State.inner_openQuiet (s : State) (base : Nat) : (s.openQuiet base).inner =
    { s.inner with fault := { s.fault with quiet := (base, s.time.c) :: s.fault.quiet.filter fun w => w.1 != base } } := by
  unfold State.openQuiet
  extract_lets s₁ rest
  rw [State.showQuiet, State.inner_put_quiet]
  have hs₁ : s₁.inner = s.inner := State.inner_quietEvent s _ _
  exact congrArg (fun i : Inner => { i with fault := { i.fault with quiet := (base, i.time.c) :: i.fault.quiet.filter fun w => w.1 != base } }) hs₁

theorem State.inner_closeQuiet (s : State) (base : Nat) : (s.closeQuiet base).inner =
    { s.inner with fault := { s.fault with quiet := s.fault.quiet.filter fun w => w.1 != base } } := by
  unfold State.closeQuiet
  split
  · next h =>
    have hnone : s.fault.quiet.filter (fun w => w.1 != base) = s.fault.quiet := by
      simp only [Bool.not_eq_true', List.any_eq_false, beq_iff_eq] at h
      simpa using h
    rw [hnone]
    rfl
  · extract_lets rest s₁
    rw [State.inner_quietEvent]
    exact State.inner_put_quiet _ _

/-- A block reset runs: the instance is in reset, and a quiet window is open (R484). -/
theorem State.inner_blockReset (s : State) {r : PageRef} (h : r.isUnit) (hfree : s.resetting r = false) : (s.blockReset r).inner =
    { s.inner with power := { s.power with resetting := r.base :: s.power.resetting }
                   fault := { s.fault with quiet := (r.base, s.time.c) :: s.fault.quiet.filter fun w => w.1 != r.base } } := by
  unfold State.blockReset
  simp only [hfree, Bool.false_eq_true, if_false]
  rw [State.inner_resetInstance _ h]
  exact congrArg (fun i : Inner => { i with power := { i.power with resetting := r.base :: i.power.resetting } }) (s.inner_openQuiet r.base)

theorem State.spine_blockReset (s : State) {r : PageRef} (h : r.isUnit) : (s.blockReset r).spine = s.spine := by
  cases hfree : s.resetting r
  · exact (congrArg Inner.steady (s.inner_blockReset h hfree)).trans rfl
  · simp [State.blockReset, hfree]

/-! ## Power-offs -/

theorem isUnit_of_mem_allInstances {r : PageRef} (hr : r ∈ allInstances) (hb : r.block.isUnit = true) : r.isUnit := by
  refine ⟨hb, fun hlp => ?_⟩
  obtain ⟨b, -, hmem⟩ := List.mem_flatMap.mp hr
  obtain ⟨n, hn, rfl⟩ := List.mem_map.mp hmem
  subst hlp
  exact List.mem_range.mp hn

/-- The blocks of the spine stand in domains that are on except in sleep (R557). -/
theorem isUnit_of_mem_instancesOf {d : Nat} {r : PageRef} (hr : r ∈ instancesOf d) (hd : d ∉ alwaysOn) : r.isUnit := by
  obtain ⟨hall, hdom⟩ := List.mem_filter.mp hr
  refine isUnit_of_mem_allInstances hall ?_
  obtain ⟨b, n, p⟩ := r
  have hdom : PageRef.domain ⟨b, n, p⟩ = d := by simpa using hdom
  subst hdom
  cases b with
  | chip => exact absurd (show 86 ∈ alwaysOn by decide) hd
  | tidemark => exact absurd (show 82 ∈ alwaysOn by decide) hd
  | seawall => exact absurd (show 83 ∈ alwaysOn by decide) hd
  | breakwater => exact absurd (show 84 ∈ alwaysOn by decide) hd
  | beacon | lighthouse | sounding | fastStatus | weatas | csiRx | csiTx | inlet | streamTab | jetty | mac | bridge | pcie | lp | cove | harbour |
    drift => rfl

@[simp] theorem State.inner_judgePll (s : State) : s.judgePll.inner = s.inner := by
  simp [State.judgePll, State.inner_cond s 2 _ (show outerPage 0x5 = true by decide)]

theorem State.inner_putPll (s : State) (i : Nat) (on : Bool) : (s.putPll i on).inner = s.inner :=
  State.inner_put_of_place s _ (by decide) (by decide)

theorem State.spine_put_state (s : State) {pg : Nat} {f : Field} (v : Nat) (h : fieldKey pg f ∈ stateKeys) : (s.put pg f v).spine = s.spine := by
  have hfields : ∀ k, (s.put pg f v).spine.fields k = s.spine.fields k := by
    intro k
    by_cases hk : k ∈ stateKeys
    · simp [State.spine, Inner.steady, hk]
    · have hne : fieldKey pg f ≠ k := fun heq => hk (heq ▸ h)
      have hget : SMap.get resetField (s.put pg f v).regs k = SMap.get resetField s.regs k := SMap.get_set_other _ _ _ hne
      simp [State.spine, Inner.steady, State.inner, hk, hget]
  exact congrArg (fun g => { s.spine with fields := g }) (funext hfields)

theorem State.spine_judgeOff (s : State) (h : Nat) : (s.judgeOff h).spine = s.spine := by
  have hkey : fieldKey 0x40 (if h = 0 then Seawall.SW_STAT_STATE_H0 else Seawall.SW_STAT_STATE_H1) ∈ stateKeys := by
    split <;> decide
  unfold State.judgeOff
  extract_lets st f
  split
  · exact s.spine_put_state _ hkey
  · split
    · exact s.spine_put_state _ hkey
    · rfl

theorem State.spine_discardInstance (s : State) {r : PageRef} (h : r.isUnit) :
    (({ s.resetInstance r true with power := { (s.resetInstance r true).power with
      resetting := (s.resetInstance r true).power.resetting.filter (· != r.base) } } : State).closeQuiet r.base).spine = s.spine := by
  have hreset : (s.resetInstance r true).spine = s.spine := State.spine_of_inner (s.inner_resetInstance h true)
  exact (congrArg Inner.steady (State.inner_closeQuiet _ _)).trans hreset

theorem State.spine_discard (s : State) {d : Nat} (hd : d ∉ alwaysOn) : (s.discard d).spine = s.spine := by
  unfold State.discard
  extract_lets s₁ s₂ s₃
  have hs₁ : s₁.spine = s.spine := by
    refine State.spine_foldl_mem (fun r hr s => ?_) s
    extract_lets t₁ t₂
    have ht₁ : t₁.spine = s.spine := State.spine_of_inner (by simp [t₁])
    exact (t₁.spine_discardInstance (isUnit_of_mem_instancesOf hr hd)).trans ht₁
  have hs₂ : s₂.spine = s₁.spine := State.spine_of_inner (by simp [s₂])
  have hs₃ : s₃.spine = s₂.spine := by
    simp only [s₃]
    split
    · exact s₂.spine_judgeOff _
    · rfl
  rw [← hs₁, ← hs₂, ← hs₃]
  split
  · exact State.spine_of_inner (by rw [State.inner_judgePll, State.inner_putPll])
  · rfl

theorem State.spine_startSwitch (s : State) {d : Nat} (hd : d < 96) (up : Bool) (hup : up = false → d ∉ alwaysOn) : (s.startSwitch d up).spine = s.spine := by
  have hack : fieldKey 0x3 (Chip.PD_CTRL_ACK.nth d) ∈ stateKeys :=
    List.mem_append_right _ (List.mem_map.mpr ⟨d, List.mem_range.mpr hd, rfl⟩)
  cases up with
  | true => rfl
  | false =>
    refine (State.spine_discard _ (hup rfl)).trans ?_
    exact (s.spine_put_state 0 hack : (s.put 0x3 (Chip.PD_CTRL_ACK.nth d) 0).spine = s.spine)

theorem State.spine_pumpOne (s : State) : s.pumpOne.spine = s.spine := by
  unfold State.pumpOne
  split
  · rfl
  · next hidle =>
    simp only [Bool.or_eq_true, not_or, Bool.not_eq_true] at hidle
    obtain ⟨⟨-, hsleep⟩, -⟩ := hidle
    extract_lets want
    split
    · rfl
    · next d hd =>
      have hlt : d < 96 := List.mem_range.mp (List.mem_of_find?_eq_some hd)
      refine State.spine_startSwitch s hlt _ fun hrise hon => ?_
      have hwant : d ∈ want := mem_wanted_of_alwaysOn hsleep hon
      have hmay := List.find?_some hd
      simp [hrise, State.mayFall, hwant] at hmay

theorem State.spine_pumpPower (s : State) : s.pumpPower.spine = s.spine := by
  simp only [State.pumpPower, State.spine_pumpOne]
  rfl

/-! ## What the spine shows -/

theorem State.get_of_spine {s t : State} (h : t.spine = s.spine) {pg : Nat} {f : Field} (hout : outerKey (fieldKey pg f) = false)
    (hstate : fieldKey pg f ∉ stateKeys) : t.get pg f = s.get pg f := by
  have := congrFun (congrArg Inner.fields h) (fieldKey pg f)
  simp only [State.spine, Inner.steady, State.inner, hout, hstate, Bool.false_eq_true, if_false] at this
  exact this

theorem State.get_of_inner {s t : State} (h : t.inner = s.inner) {pg : Nat} {f : Field} (hout : outerKey (fieldKey pg f) = false) :
    t.get pg f = s.get pg f := by
  have := congrFun (congrArg Inner.fields h) (fieldKey pg f)
  simp only [State.inner, hout, Bool.false_eq_true, if_false] at this
  exact this

theorem State.flag_of_spine {s t : State} (h : t.spine = s.spine) {pg : Nat} {f : Field} (hout : outerKey (fieldKey pg f) = false)
    (hstate : fieldKey pg f ∉ stateKeys) : t.flag pg f = s.flag pg f := by
  rw [State.flag, State.flag, State.get_of_spine h hout hstate]

theorem State.flag_of_inner {s t : State} (h : t.inner = s.inner) {pg : Nat} {f : Field} (hout : outerKey (fieldKey pg f) = false) :
    t.flag pg f = s.flag pg f := by
  rw [State.flag, State.flag, State.get_of_inner h hout]

theorem State.marks_of_spine {s t : State} (h : t.spine = s.spine) {pg : Nat} (hout : outerPage pg = false) : t.marks pg = s.marks pg := by
  have := congrFun (congrArg Inner.marks h) pg
  simpa [State.spine, Inner.steady, State.inner, hout] using this

theorem State.condBit_of_spine {s t : State} (h : t.spine = s.spine) {pg : Nat} (hout : outerPage pg = false) (b : Nat) :
    t.condBit pg b = s.condBit pg b := by
  rw [State.condBit, State.condBit, State.marks_of_spine h hout]

end Sys2Proof.Machine
end

section
/-!
PROOFS. Units that take up their enables leave the inner parts alone.
-/
namespace Sys2Proof.Machine

@[simp] theorem State.inner_acquire (s : State) (n : Nat) : (s.acquire n).inner = s.inner := by simp [State.acquire, State.inner_foldl]
@[simp] theorem State.inner_attempt (s : State) (n m : Nat) : (s.attempt n m).inner = s.inner := by simp [State.attempt, State.sendTrain]

@[simp] theorem State.inner_startTraining (s : State) (n : Nat) : (s.startTraining n).inner = s.inner := by
  unfold State.startTraining
  dsimp only
  split <;> simp

@[simp] theorem State.inner_laneOn (s : State) (n : Nat) : (s.laneOn n).inner = s.inner := by simp [State.laneOn]
@[simp] theorem State.inner_rxOn (s : State) (n : Nat) : (s.rxOn n).inner = s.inner := by simp [State.rxOn]
@[simp] theorem State.inner_txStart (s : State) (m : Nat) (p : TxPacket) : (s.txStart m p).inner = s.inner := by simp [State.txStart]
@[simp] theorem State.inner_txReady (s : State) (m : Nat) (p : TxPacket) : (s.txReady m p).inner = s.inner := by simp [State.txReady]
@[simp] theorem State.inner_txOn (s : State) (m : Nat) : (s.txOn m).inner = s.inner := by simp [State.txOn]
@[simp] theorem State.inner_trainPort (s : State) (n : Nat) : (s.trainPort n).inner = s.inner := by simp [State.trainPort]
@[simp] theorem State.inner_retrain (s : State) (n : Nat) (lost : Bool) : (s.retrain n lost).inner = s.inner := by simp [State.retrain]

/-- A unit that takes up its enable leaves the spine alone: of a Harbour the state of its half may follow. -/
theorem State.spine_unitUp (s : State) (r : PageRef) : (s.unitUp r).spine = s.spine := by
  obtain ⟨b, n, p⟩ := r
  have hlp : ∀ v, (s.put (PageRef.base ⟨.lp, n, p⟩) Lp.LP_FW_STAT_STATE v).inner = s.inner := fun v =>
    s.inner_put _ v (Block.le_page (b := .lp) (by decide) n 0)
  cases b with
  | harbour => exact s.spine_judgeOff n
  | weatas | csiRx | csiTx | pcie => exact State.spine_of_inner (by simp [State.unitUp])
  | lp => exact State.spine_of_inner (hlp 1)
  | chip | tidemark | breakwater | beacon | seawall | lighthouse | sounding | fastStatus | inlet | streamTab | jetty | mac | bridge | cove | drift => rfl

/-- The switching of domains is where it was, whatever a unit that comes up does. -/
theorem State.unitUp_power (s : State) (r : PageRef) : (s.unitUp r).power = s.power ∧ (s.unitUp r).fault = s.fault := by
  obtain ⟨b, n, p⟩ := r
  have hinner : ∀ {t : State}, t.inner = s.inner → t.power = s.power ∧ t.fault = s.fault := fun h =>
    ⟨congrArg Inner.power h, congrArg Inner.fault h⟩
  cases b with
  | harbour =>
    simp only [State.unitUp, State.judgeOff]
    split
    · simp
    · split <;> simp
  | weatas | csiRx | csiTx | pcie => exact hinner (by simp [State.unitUp])
  | lp => simp [State.unitUp]
  | chip | tidemark | breakwater | beacon | seawall | lighthouse | sounding | fastStatus | inlet | streamTab | jetty | mac | bridge | cove | drift =>
    exact ⟨rfl, rfl⟩

end Sys2Proof.Machine
end

section
/-!
PROOFS. Block resets (R77, R484, R628).
-/
namespace Sys2Proof.Machine

theorem foldl_keeps {α β : Type} {v : State → β} {f : State → α → State} (h : ∀ s a, v (f s a) = v s) (l : List α) (s : State) :
    v (l.foldl f s) = v s := by
  induction l generalizing s with
  | nil => rfl
  | cons a l ih => rw [List.foldl_cons, ih, h]

/-- What no reset of an instance touches: the plan and the tides, the power sequencer, and what the Breakwater notes. -/
def State.resetParts (s : State) : TideSt × PowerSt × FaultSt := (s.tide, s.power, s.fault)

theorem State.resetParts_of_inner {s t : State} (h : t.inner = s.inner) : t.resetParts = s.resetParts := by
  have htide : t.tide = s.tide := congrArg Inner.tide h
  have hpower : t.power = s.power := congrArg Inner.power h
  have hfault : t.fault = s.fault := congrArg Inner.fault h
  simp only [State.resetParts, htide, hpower, hfault]

theorem State.resetParts_dropCommit (s : State) (pg : Nat) : (s.dropCommit pg).resetParts = s.resetParts := by
  simp only [State.dropCommit, State.putGrp]
  split <;> simp [State.resetParts]

theorem State.resetParts_resetPages (s : State) (r : PageRef) (b : Bool) : (s.resetPages r b).resetParts = s.resetParts := by
  have hlower : ∀ (s : State) q, (s.lowerAll q b).resetParts = s.resetParts := fun s q =>
    foldl_keeps (v := State.resetParts) (fun s k => by split <;> simp [State.resetParts]) _ s
  have hfields : ∀ (s : State) q, (s.resetFields q b).resetParts = s.resetParts := fun _ _ => rfl
  have hput : ∀ (s : State) pg f v, (s.put pg f v).resetParts = s.resetParts := fun _ _ _ _ => rfl
  unfold State.resetPages
  extract_lets en req s₁ s₂
  have hs₂ : s₂.resetParts = s₁.resetParts :=
    foldl_keeps (v := State.resetParts) (fun s q => by rw [hput, hput, hfields, hlower, State.resetParts_dropCommit]) _ _
  rw [hput, hput, hs₂]
  rfl

theorem State.resetParts_dropGroups (s : State) : s.dropGroups.resetParts = s.resetParts := by
  unfold State.dropGroups
  refine (foldl_keeps (v := State.resetParts) (fun s g => ?_) _ _).trans rfl
  split
  · exact foldl_keeps (fun s pg => s.resetParts_dropCommit pg) _ _
  · rfl

/-- An instance that a page number names. -/
def PageRef.named (r : PageRef) : Prop := r.block = .lp → r.inst < 4

theorem PageRef.isUnit_of_named {r : PageRef} (h : r.named) (hb : r.block.isUnit = true) : r.isUnit := ⟨hb, h⟩

theorem named_of_pageRef {pg : Nat} (hpg : pg < 0x1400) {r : PageRef} (h : pageRef pg = some r) : r.named := by
  have hall : ∀ a < 0x14, ∀ b < 0x100, (pageRef (0x100 * a + b)).all (fun r => r.block != .lp || decide (r.inst < 4)) = true := by
    decide +kernel
  have hr := hall (pg / 0x100) (by omega) (pg % 0x100) (by omega)
  rw [Nat.div_add_mod] at hr
  simp only [h, Option.all_some, Bool.or_eq_true, bne_iff_ne, decide_eq_true_eq] at hr
  exact fun hlp => hr.resolve_left (not_not_intro hlp)

theorem State.resetParts_setTime (s : State) (x : TimeSt) : ({ s with time := x } : State).resetParts = s.resetParts := rfl

theorem State.resetParts_cond (s : State) (pg b : Nat) (p : Bool) : (s.cond pg b p).resetParts = s.resetParts := by
  simp [State.resetParts]

theorem State.resetParts_resetInstance (s : State) {r : PageRef} (h : r.named) (b : Bool) : (s.resetInstance r b).resetParts = s.resetParts := by
  by_cases hunit : r.block.isUnit = true
  · exact State.resetParts_of_inner (s.inner_resetInstance (PageRef.isUnit_of_named h hunit) b)
  · have hpages : ∀ (l : List PageRef) (s : State), (l.foldl (fun (s : State) q => s.resetPages q b) s).resetParts = s.resetParts :=
      foldl_keeps fun s q => s.resetParts_resetPages q b
    have hunitless : (s.resetUnit r).resetParts = s.resetParts ∧ ∀ t : State, (t.judgeAfresh r).resetParts = t.resetParts := by
      obtain ⟨k, n, p⟩ := r
      cases k with
      | chip => exact ⟨rfl, fun t => (by simp [State.resetParts] : (t.lower 0x2 1).resetParts = t.resetParts)⟩
      | tidemark =>
        refine ⟨(s.dropGroups.resetParts_setTime _).trans s.resetParts_dropGroups, fun t => ?_⟩
        change t.judgeTimeUnlocked.judgeSyncLost.judgeSlip.judgeRate.resetParts = t.resetParts
        rw [State.judgeRate, State.resetParts_cond, State.judgeSlip, State.resetParts_cond, State.judgeSyncLost, State.resetParts_cond,
          State.judgeTimeUnlocked, State.resetParts_cond]
      | breakwater | seawall => exact ⟨rfl, fun _ => rfl⟩
      | beacon | lighthouse | sounding | fastStatus | weatas | csiRx | csiTx | inlet | streamTab | jetty | mac | bridge | pcie | lp | cove | harbour |
        drift => exact absurd rfl hunit
    rw [State.resetInstance, hunitless.2, hpages, hunitless.1]

/-! ## A block reset that runs -/

theorem State.blockReset_runs (s : State) {r : PageRef} (h : r.named) : (s.blockReset r).tide = s.tide ∧ (s.blockReset r).resetting r = true ∧
    (s.resetting r = false → ((s.blockReset r).fault.quiet.any fun x => x.1 == r.base) = true) := by
  cases hfree : s.resetting r with
  | true => exact ⟨by simp [State.blockReset, hfree], by simp [State.blockReset, hfree], nofun⟩
  | false =>
    have hparts : (s.blockReset r).resetParts = (s.tide, { s.power with resetting := r.base :: s.power.resetting },
        { s.fault with quiet := (r.base, s.time.c) :: s.fault.quiet.filter fun w => w.1 != r.base }) := by
      unfold State.blockReset
      simp only [hfree, Bool.false_eq_true, if_false]
      rw [State.resetParts_resetInstance _ h]
      exact congrArg (fun i : Inner => (i.tide, { i.power with resetting := r.base :: i.power.resetting }, i.fault)) (s.inner_openQuiet r.base)
    have htide := congrArg Prod.fst hparts
    have hpower := congrArg (fun p => p.2.1.resetting) hparts
    have hfault := congrArg (fun p => p.2.2.quiet) hparts
    simp only [State.resetParts] at htide hpower hfault
    exact ⟨htide, by simp [State.resetting, hpower], fun _ => by simp [hfault]⟩

/-! ## What the switching of domains does to resets that run -/

/-- Resets that run in t ran in s, and those of the spine's instances, with their quiet windows, run on. -/
structure ResetsEnd (s t : State) : Prop where
  subset : t.power.resetting ⊆ s.power.resetting
  runs : ∀ b, outerPage b = false → b ∈ s.power.resetting → b ∈ t.power.resetting
  quiet : ∀ b, outerPage b = false → (t.fault.quiet.any fun w => w.1 == b) = s.fault.quiet.any fun w => w.1 == b

theorem ResetsEnd.refl (s : State) : ResetsEnd s s := ⟨fun _ h => h, fun _ _ h => h, fun _ _ => rfl⟩

theorem ResetsEnd.trans {s t u : State} (h : ResetsEnd s t) (k : ResetsEnd t u) : ResetsEnd s u :=
  ⟨fun _ hb => h.subset (k.subset hb), fun b hout hb => k.runs b hout (h.runs b hout hb), fun b hout => (k.quiet b hout).trans (h.quiet b hout)⟩

theorem ResetsEnd.of_same {s t : State} (hpower : t.power.resetting = s.power.resetting) (hfault : t.fault.quiet = s.fault.quiet) : ResetsEnd s t :=
  ⟨by rw [hpower]; exact fun _ h => h, fun b _ hb => by rwa [hpower], fun b _ => by rw [hfault]⟩

theorem ResetsEnd.of_inner {s t : State} (h : t.inner = s.inner) : ResetsEnd s t :=
  .of_same (congrArg (fun i : Inner => i.power.resetting) h) (congrArg (fun i : Inner => i.fault.quiet) h)

theorem ResetsEnd.foldl_mem {α : Type} {f : State → α → State} {l : List α} (h : ∀ a ∈ l, ∀ s, ResetsEnd s (f s a)) (s : State) :
    ResetsEnd s (l.foldl f s) := by
  induction l generalizing s with
  | nil => exact .refl s
  | cons a l ih => exact (h a (.head _) s).trans (ih (fun b hb => h b (.tail _ hb)) _)

/-- The reset of one instance, with its quiet window, ends. -/
theorem ResetsEnd.of_close (s : State) {base : Nat} (h : outerPage base = true) :
    ResetsEnd s (({ s with power := { s.power with resetting := s.power.resetting.filter (· != base) } } : State).closeQuiet base) := by
  have hclose := State.inner_closeQuiet ({ s with power := { s.power with resetting := s.power.resetting.filter (· != base) } } : State) base
  have hpower : (({ s with power := { s.power with resetting := s.power.resetting.filter (· != base) } } : State).closeQuiet base).power.resetting =
      s.power.resetting.filter (· != base) := congrArg (fun i : Inner => i.power.resetting) hclose
  have hquiet : (({ s with power := { s.power with resetting := s.power.resetting.filter (· != base) } } : State).closeQuiet base).fault.quiet =
      s.fault.quiet.filter fun w => w.1 != base := congrArg (fun i : Inner => i.fault.quiet) hclose
  have hne : ∀ b, outerPage b = false → b ≠ base := by
    rintro b hb rfl
    rw [h] at hb
    cases hb
  refine ⟨?subset, fun b hout hb => ?runs, fun b hout => ?quiet⟩
  case subset => rw [hpower]; exact List.filter_subset' _
  case runs => rw [hpower]; exact List.mem_filter.mpr ⟨hb, by simpa using hne b hout⟩
  case quiet =>
    rw [hquiet, List.any_filter]
    refine congrArg (fun p => s.fault.quiet.any p) (funext fun w => ?_)
    by_cases hw : w.1 = b
    · simp [hw, hne b hout]
    · simp [hw]

theorem State.resetsEnd_discard (s : State) {d : Nat} (hd : d ∉ alwaysOn) : ResetsEnd s (s.discard d) := by
  unfold State.discard
  extract_lets s₁ s₂ s₃
  have hs₁ : ResetsEnd s s₁ := by
    refine ResetsEnd.foldl_mem (fun r hr s => ?_) s
    extract_lets t₁ t₂
    have hunit := isUnit_of_mem_instancesOf hr hd
    have ht₁ : ResetsEnd s t₁ := .of_inner (by simp [t₁])
    exact (ht₁.trans (.of_inner (t₁.inner_resetInstance hunit true))).trans (.of_close t₂ (Block.outer_base hunit.1))
  have hs₂ : ResetsEnd s₁ s₂ := .of_inner (by simp [s₂])
  have hs₃ : ResetsEnd s₂ s₃ := by
    simp only [s₃, State.judgeOff]
    split
    · split
      · exact .of_same rfl rfl
      · split <;> exact .of_same rfl rfl
    · exact .refl _
  refine ((hs₁.trans hs₂).trans hs₃).trans ?_
  split
  · exact .of_inner (by rw [State.inner_judgePll, State.inner_putPll])
  · exact .refl _

theorem State.resetsEnd_pumpOne (s : State) : ResetsEnd s s.pumpOne := by
  unfold State.pumpOne
  split
  · exact .refl s
  · next hidle =>
    simp only [Bool.or_eq_true, not_or, Bool.not_eq_true] at hidle
    obtain ⟨⟨-, hsleep⟩, -⟩ := hidle
    extract_lets want
    split
    · exact .refl s
    · next d hd =>
      cases hrise : s.mayRise want d with
      | true => exact .of_same rfl rfl
      | false =>
        have hoff : d ∉ alwaysOn := fun hon => by
          have hwant : d ∈ want := mem_wanted_of_alwaysOn hsleep hon
          have hmay := List.find?_some hd
          simp [hrise, State.mayFall, hwant] at hmay
        have hdown : ResetsEnd s { s.put 0x3 (Chip.PD_CTRL_ACK.nth d) 0 with
            power := { (s.put 0x3 (Chip.PD_CTRL_ACK.nth d) 0).power with down := s.power.down ++ [d] } } := .of_same rfl rfl
        exact hdown.trans (State.resetsEnd_discard _ hoff)

theorem State.resetsEnd_pumpPower (s : State) : ResetsEnd s s.pumpPower := by
  have hfailed : ResetsEnd s { s with power := { s.power with failed := s.power.failed.filter s.wanted.contains } } := .of_same rfl rfl
  exact (((hfailed.trans (State.resetsEnd_pumpOne _)).trans (State.resetsEnd_pumpOne _)).trans (State.resetsEnd_pumpOne _)).trans
    (State.resetsEnd_pumpOne _)

/-! ## Writes of CTRL -/

theorem State.tide_pumpPower (s : State) : s.pumpPower.tide = s.tide := congrArg Inner.tide s.spine_pumpPower

theorem State.tide_writePwr (s : State) (r : PageRef) (on : Bool) : (s.writePwr r on).tide = s.tide ∧ ResetsEnd s (s.writePwr r on) := by
  unfold State.writePwr
  split
  · exact ⟨rfl, .refl s⟩
  · split
    · exact ⟨by simp [State.refusePower], .of_same (by simp [State.refusePower]) (by simp [State.refusePower])⟩
    · have hput : ResetsEnd s (s.put r.base Hdr.CTRL_PWR_REQ (bit on)) := .of_same rfl rfl
      exact ⟨(State.tide_pumpPower _).trans rfl, hput.trans (State.resetsEnd_pumpPower _)⟩

theorem State.tide_writeEn (s : State) (r : PageRef) (on : Bool) : (s.writeEn r on).tide = s.tide ∧ ResetsEnd s (s.writeEn r on) := by
  have hinner : ∀ {s t : State}, t.inner = s.inner → t.tide = s.tide ∧ ResetsEnd s t := fun h => ⟨congrArg Inner.tide h, .of_inner h⟩
  unfold State.writeEn
  split
  · exact ⟨rfl, .refl s⟩
  · extract_lets was s₁ s₂
    have hs₁ : s₁.tide = s.tide ∧ ResetsEnd s s₁ := ⟨rfl, .of_same rfl rfl⟩
    have hs₂ : s₂.tide = s.tide ∧ ResetsEnd s s₂ := by
      simp only [s₂]
      split
      · exact ⟨by simp [s₁], hs₁.2.trans (.of_same (by simp) (by simp))⟩
      · exact hs₁
    split
    · exact hs₂
    · have hstep : ∀ {t : State}, t.inner = s₂.inner → t.tide = s.tide ∧ ResetsEnd s t := fun h =>
        ⟨(hinner h).1.trans hs₂.1, hs₂.2.trans (hinner h).2⟩
      split
      · exact hstep (s₂.inner_laneOn _)
      · exact hstep (s₂.inner_laneOff _)
      · exact hstep (s₂.inner_rxOn _)
      · exact hstep (s₂.inner_rxOff _)
      · exact hstep (s₂.inner_txOn _)
      · exact hstep (s₂.inner_txOff _)
      · exact hs₂

theorem planUses_of_noPlan {s : State} (h : s.planLive = false) (r : PageRef) : s.planUses r = false := by
  have hnone : s.tide.livePlan = none := by simpa [State.planLive] using h
  simp [State.planUses, hnone]

/-- What a write with RST makes of an instance that no plan uses. -/
def State.resetStarts (s : State) (r : PageRef) : State :=
  let s := s.blockReset { r with idx := 0 }
  if r.block = .chip then ((if s.refOutside then s else s.lower 0x5 3).judgePll).pumpPower else s

theorem State.resetStarts_runs (s : State) {r : PageRef} (h : r.named) : (s.resetStarts r).tide = s.tide ∧ (s.resetStarts r).resetting r = true ∧
    (s.resetting r = false → ((s.resetStarts r).fault.quiet.any fun x => x.1 == r.base) = true) := by
  have hbase : r.base = PageRef.base { r with idx := 0 } := rfl
  obtain ⟨htide, hruns, hquiet⟩ := s.blockReset_runs (r := { r with idx := 0 }) h
  unfold State.resetStarts
  extract_lets t
  split
  · next hchip =>
    have hout : outerPage r.base = false := by rw [PageRef.base, hchip]; rfl
    have hlower : (if t.refOutside then t else t.lower 0x5 3).inner = t.inner := by
      split
      · rfl
      · exact t.inner_lower 3 (by decide)
    have hinner : (if t.refOutside then t else t.lower 0x5 3).judgePll.inner = t.inner := (State.inner_judgePll _).trans hlower
    have hends := (ResetsEnd.of_inner hinner).trans (State.resetsEnd_pumpPower _)
    refine ⟨(State.tide_pumpPower _).trans ((congrArg Inner.tide hinner).trans htide), ?_, fun hfree => ?_⟩
    · exact List.contains_iff_mem.mpr (hends.runs _ hout (List.contains_iff_mem.mp hruns))
    · rw [hends.quiet _ hout]
      exact hquiet hfree
  · exact ⟨htide, hruns, hquiet⟩

theorem exec_blockResetReq {req : Requester} {pg : Fin 0x1400} {w : Word} {s : State} {r : PageRef} (hr : pageRef pg = some r)
    (hserves : s.serves req (regOff pg Hdr.CTRL_RST) = true) :
    exec (.blockResetReq req pg w) s =
      .next (((s.writePwr r ((w.toNat ||| 2).testBit 2)).writeEn r ((w.toNat ||| 2).testBit 0)).writeRst req pg r) := by
  have hrst : (w.toNat ||| 2).testBit 1 = true := by simp [Nat.testBit_or]; right; decide
  have hexec : exec (.blockResetReq req pg w) s =
      .next (s.onWrite req (regOff pg Hdr.CTRL_RST) fun s => s.writeCtrl req pg (w.toNat ||| 2)) := rfl
  rw [hexec, State.onWrite_served hserves, State.writeCtrl, hr]
  simp only [hrst, if_true]

theorem not_ready_of_resetting {s : State} {r : PageRef} (h : s.resetting r = true) : s.ready r = false := by
  simp [State.ready, h]

theorem pageRef_drift {pg : Nat} (hlo : 0x1000 ≤ pg) (hhi : pg < 0x1400) : pageRef pg = some ⟨.drift, pg - 0x1000, 0⟩ := by
  unfold pageRef
  repeat rw [if_neg (by omega)]
  rw [if_pos hhi]

/-- A write to CTRL of a Drift channel moves neither power nor enable (R76). -/
theorem writeEn_writePwr_drift (s : State) {r : PageRef} (h : r.block = .drift) (a b : Bool) : (s.writePwr r a).writeEn r b = s := by
  simp [State.writePwr, State.writeEn, h, Block.ownsDomain, Block.planEnabled]

/-- An instance out of reset, its window closed. -/
def State.resetOver (s : State) (r : PageRef) : State :=
  ({ s with power := { s.power with resetting := s.power.resetting.filter (· != r.base) } } : State).closeQuiet r.base

theorem exec_blockResetDone {pg : Fin 0x1400} {s : State} {r : PageRef} (hr : pageRef pg = some r) (hruns : s.resetting r = true) :
    exec (.blockResetDone pg) s =
      .next (if (s.resetOver r).powered r.domain then (s.resetOver r).unitUp { r with idx := 0 } else s.resetOver r) := by
  have hexec : exec (.blockResetDone pg) s = execBlockResetDone pg s := rfl
  rw [hexec, execBlockResetDone, hr]
  simp only [hruns, Bool.not_true, Bool.false_eq_true, if_false]
  rfl

theorem State.inner_resetOver (s : State) (r : PageRef) : (s.resetOver r).inner =
    { s.inner with power := { s.power with resetting := s.power.resetting.filter (· != r.base) }
                   fault := { s.fault with quiet := s.fault.quiet.filter fun w => w.1 != r.base } } :=
  State.inner_closeQuiet _ _

/-- Settles O17: a Drift channel under a plan turns the reset away at once; any other reset adds its instance and opens its window, and the
switching of domains that a write of CTRL may start ends resets but begins none. -/
theorem blockResetsRunOrAreRefused : Obligations.BlockResetsRunOrAreRefused := by
  refine ⟨fun req pg w s hpg hserves hlive => ?refused, fun req pg w s r hr hserves hlive => ?runs, fun pg s r hr hruns => ?done⟩
  case refused =>
    refine ⟨_, exec_blockResetReq (pageRef_drift hpg pg.isLt) hserves, ?_⟩
    obtain ⟨p, hp⟩ := Option.isSome_iff_exists.mp (show s.tide.livePlan.isSome = true from hlive)
    rw [writeEn_writePwr_drift s rfl, State.writeRst, if_pos (by simp [State.planUses, hp])]
  case runs =>
    obtain ⟨hpwr, hendpwr⟩ := s.tide_writePwr r ((w.toNat ||| 2).testBit 2)
    obtain ⟨hen, henden⟩ := (s.writePwr r ((w.toNat ||| 2).testBit 2)).tide_writeEn r ((w.toNat ||| 2).testBit 0)
    refine ⟨_, exec_blockResetReq hr hserves, ?_⟩
    generalize (s.writePwr r ((w.toNat ||| 2).testBit 2)).writeEn r ((w.toNat ||| 2).testBit 0) = u at hen henden
    have htide : u.tide = s.tide := hen.trans hpwr
    have hends : ResetsEnd s u := hendpwr.trans henden
    have hunused : u.planUses r = false := planUses_of_noPlan (by rw [State.planLive, htide]; exact hlive) r
    have hstarts : u.writeRst req pg r = u.resetStarts r := by
      rw [State.writeRst, if_neg (by simp [hunused])]
      rfl
    obtain ⟨hkept, hresets, hquiet⟩ := u.resetStarts_runs (named_of_pageRef pg.isLt hr)
    rw [hstarts]
    refine ⟨hresets, not_ready_of_resetting hresets, fun hfree => hquiet ?_, hkept.trans htide⟩
    by_contra hbusy
    have hmem : r.base ∈ s.power.resetting := hends.subset (List.contains_iff_mem.mp (by simpa [State.resetting] using hbusy))
    simp [State.resetting, hmem] at hfree
  case done =>
    have hinner := s.inner_resetOver r
    have hpower := congrArg Inner.power hinner
    have hquiet := congrArg (fun i : Inner => i.fault.quiet) hinner
    have hup := (s.resetOver r).unitUp_power { r with idx := 0 }
    have htide : ((s.resetOver r).unitUp { r with idx := 0 }).tide = s.tide :=
      (congrArg Inner.tide ((s.resetOver r).spine_unitUp { r with idx := 0 })).trans (congrArg Inner.tide hinner)
    refine ⟨_, exec_blockResetDone hr hruns, ?_⟩
    have hparts : ∀ t : State, t.power = (s.resetOver r).power → t.fault = (s.resetOver r).fault → t.tide = s.tide →
        t.resetting r = false ∧ (t.fault.quiet.any fun x => x.1 == r.base) = false ∧ t.power.up = s.power.up ∧ t.tide = s.tide := by
      intro t hp hf ht
      simp only [State.inner] at hpower hquiet
      refine ⟨?_, ?_, ?_, ht⟩
      · simp [State.resetting, hp, hpower]
      · simp [hf, hquiet]
      · rw [hp, hpower]
    split
    · exact hparts _ hup.1 hup.2 htide
    · exact hparts _ rfl rfl (congrArg Inner.tide hinner)

end Sys2Proof.Machine
end

section
/-! PROOFS. Temperature sensors, balls and copied units (R600, R606, R17, R363). -/

namespace Sys2Proof.Machine

/-! ## Temperature sensors -/

/-- A sample shows every sensor's reading and whether it is plausible. -/
def State.showSensors (s : State) (v : List Int) (n : Nat) : State := (List.range n).foldl (fun (s : State) k =>
  (s.put 0xD (Chip.TS_SENS_TEMP.nth k) (ofSigned 16 (v.getD k 0))).put 0xD (Chip.TS_SENS_VALID.nth k) (bit (plausible (v.getD k 0)))) s

theorem State.showSensors_succ (s : State) (v : List Int) (n : Nat) : s.showSensors v (n + 1) =
    (((s.showSensors v n).put 0xD (Chip.TS_SENS_TEMP.nth n) (ofSigned 16 (v.getD n 0))).put 0xD (Chip.TS_SENS_VALID.nth n)
      (bit (plausible (v.getD n 0)))) := by
  rw [State.showSensors, List.range_succ, List.foldl_append]
  rfl

theorem State.showSensors_flt (s : State) (v : List Int) (n : Nat) : (s.showSensors v n).flt = s.flt ∧ (s.showSensors v n).pins = s.pins := by
  induction n with
  | zero => exact ⟨rfl, rfl⟩
  | succ n ih => rw [State.showSensors_succ]; exact ih

theorem State.get_showSensors_other (s : State) (v : List Int) (n : Nat) {f : Field} (hf : f.place < 0x800) :
    (s.showSensors v n).get 0xD f = s.get 0xD f := by
  have hkey : ∀ k, fieldKey 0xD (Chip.TS_SENS_TEMP.nth k) ≠ fieldKey 0xD f ∧ fieldKey 0xD (Chip.TS_SENS_VALID.nth k) ≠ fieldKey 0xD f := by
    intro k
    unfold Field.place at hf
    simp only [fieldKey, Field.nth, Chip.TS_SENS_TEMP, Chip.TS_SENS_VALID]
    omega
  induction n with
  | zero => rfl
  | succ n ih => rw [State.showSensors_succ, State.get_put_other _ _ (hkey n).2, State.get_put_other _ _ (hkey n).1, ih]

theorem State.showSensors_shows (s : State) (v : List Int) (n k : Nat) (hk : k < n) :
    (s.showSensors v n).get 0xD (Chip.TS_SENS_TEMP.nth k) = ofSigned 16 (v.getD k 0) ∧
    (s.showSensors v n).flag 0xD (Chip.TS_SENS_VALID.nth k) = plausible (v.getD k 0) := by
  have htt : ∀ j, j ≠ k → fieldKey 0xD (Chip.TS_SENS_TEMP.nth j) ≠ fieldKey 0xD (Chip.TS_SENS_TEMP.nth k) ∧
      fieldKey 0xD (Chip.TS_SENS_VALID.nth j) ≠ fieldKey 0xD (Chip.TS_SENS_VALID.nth k) := by
    simp only [fieldKey, Field.nth, Chip.TS_SENS_TEMP, Chip.TS_SENS_VALID]
    omega
  have htv : ∀ j, fieldKey 0xD (Chip.TS_SENS_TEMP.nth j) ≠ fieldKey 0xD (Chip.TS_SENS_VALID.nth k) ∧
      fieldKey 0xD (Chip.TS_SENS_VALID.nth j) ≠ fieldKey 0xD (Chip.TS_SENS_TEMP.nth k) := by
    simp only [fieldKey, Field.nth, Chip.TS_SENS_TEMP, Chip.TS_SENS_VALID]
    omega
  have hfit : ofSigned 16 (v.getD k 0) % (Chip.TS_SENS_TEMP.nth k).size = ofSigned 16 (v.getD k 0) := by
    show ofSigned 16 (v.getD k 0) % 65536 = _
    unfold ofSigned
    omega
  induction n with
  | zero => omega
  | succ n ih =>
    rw [State.showSensors_succ]
    by_cases hnk : n = k
    · subst hnk
      exact ⟨by rw [State.get_put_other _ _ (htv n).2, State.get_put_same, hfit], State.flag_put_bit ..⟩
    · obtain ⟨h1, h2⟩ := ih (by omega)
      exact ⟨by rw [State.get_put_other _ _ (htv n).2, State.get_put_other _ _ (htt n hnk).1, h1],
        by rw [State.flag_put_other _ _ (htt n hnk).2, State.flag_put_other _ _ (htv n).1, h2]⟩

/-- Whether threshold k is reached once `top` is the largest plausible reading: by the second reading in a row (R606). -/
def State.reachedAt (s : State) (k : Nat) (top : Int) : Bool :=
  if (if s.thresholds.getD k 0 ≤ top then min 2 (s.pins.reach.getD k 0 + 1) else 0) = 2 then true
  else if (if top ≤ s.thresholds.getD k 0 - 24 then min 2 (s.pins.leave.getD k 0 + 1) else 0) = 2 then false
  else s.pins.reached.getD k false

/-- The judgement of one threshold: its condition, and nothing of the other thresholds. -/
theorem State.judgeTemp_effect (s : State) (k : Nat) (top : Int) :
    (s.judgeTemp k top).condBit 0xD k = s.reachedAt k top ∧
    (∀ j, j ≠ k → (s.judgeTemp k top).condBit 0xD j = s.condBit 0xD j ∧ (s.judgeTemp k top).reachedAt j top = s.reachedAt j top) ∧
    ∀ f : Field, 0x200 ≤ f.place → (s.judgeTemp k top).get 0xD f = s.get 0xD f := by
  let x := s.pins
  let t := s.thresholds.getD k 0
  let reach := if t ≤ top then min 2 (x.reach.getD k 0 + 1) else 0
  let leave := if top ≤ t - 24 then min 2 (x.leave.getD k 0 + 1) else 0
  let u : State := { s with pins := { x with reach := x.reach.set k reach, leave := x.leave.set k leave, reached := x.reached.set k (s.reachedAt k top) } }
  have hj : s.judgeTemp k top = (u.cond 0xD k (s.reachedAt k top)).eventIf (s.reachedAt k top != x.reached.getD k false) 0xD 0 := rfl
  rw [hj]
  have hpins : ∀ (w : State) (c : Bool), (w.eventIf c 0xD 0).pins = w.pins ∧ ∀ b, (w.eventIf c 0xD 0).condBit 0xD b = w.condBit 0xD b := by
    intro w c
    cases c <;> exact ⟨rfl, fun _ => rfl⟩
  have hget : ∀ f : Field, 0x200 ≤ f.place →
      ((u.cond 0xD k (s.reachedAt k top)).eventIf (s.reachedAt k top != x.reached.getD k false) 0xD 0).get 0xD f = s.get 0xD f := by
    intro f hf
    have hne : ∀ g ∈ [Hdr.EVT_STAT_EVENT, Hdr.FLT_STAT_FAULT], fieldKey 0xD g ≠ fieldKey 0xD f := by
      intro g hg
      have hlow : ∀ g ∈ [Hdr.EVT_STAT_EVENT, Hdr.FLT_STAT_FAULT], g.place < 0x200 := by decide
      have := hlow g hg
      unfold Field.place at hf this
      unfold fieldKey
      omega
    rw [State.get_eventIf_other _ _ _ (hne _ (by simp)), State.get_cond_other _ _ _ (hne _ (by simp))]
    rfl
  refine ⟨?_, fun j hjk => ⟨?_, ?_⟩, hget⟩
  · rw [(hpins _ _).2, State.condBit_cond]
  · rw [(hpins _ _).2, State.condBit_cond_other _ _ (Or.inr (Ne.symm hjk))]
    rfl
  · have hset : ∀ {α : Type} (l : List α) (a d : α), (l.set k a).getD j d = l.getD j d := by
      intro α l a d
      rw [List.getD_eq_getElem?_getD, List.getElem?_set_ne (Ne.symm hjk), List.getD_eq_getElem?_getD]
    have hwarn := hget Chip.TS_CFG_WARN_C (by decide)
    have hpins' := ((hpins (u.cond 0xD k (s.reachedAt k top)) (s.reachedAt k top != x.reached.getD k false)).1).trans (State.cond_pins ..)
    generalize (u.cond 0xD k (s.reachedAt k top)).eventIf (s.reachedAt k top != x.reached.getD k false) 0xD 0 = w at hwarn hpins'
    unfold State.reachedAt State.thresholds
    rw [hwarn, hpins']
    simp only [u, x, hset]

theorem State.reachedAt_of (s : State) (k : Nat) (top : Int) :
    (s.thresholds.getD k 0 ≤ top → 1 ≤ s.pins.reach.getD k 0 → s.reachedAt k top = true) ∧
    (top ≤ s.thresholds.getD k 0 - 24 → 1 ≤ s.pins.leave.getD k 0 → s.reachedAt k top = false) ∧
    ((s.thresholds.getD k 0 ≤ top ∧ s.pins.reach.getD k 0 = 0) ∨ (top ≤ s.thresholds.getD k 0 - 24 ∧ s.pins.leave.getD k 0 = 0) ∨
      (s.thresholds.getD k 0 - 24 < top ∧ top < s.thresholds.getD k 0) → s.reachedAt k top = s.pins.reached.getD k false) := by
  unfold State.reachedAt
  generalize s.thresholds.getD k 0 = t
  generalize s.pins.reach.getD k 0 = r
  generalize s.pins.leave.getD k 0 = l
  refine ⟨fun h1 h2 => ?_, fun h1 h2 => ?_, ?_⟩
  · rw [if_pos h1, if_pos (by omega)]
  · rw [if_neg (show ¬ t ≤ top by omega), if_neg (by omega), if_pos h1, if_pos (by omega)]
  · rintro (⟨h1, h2⟩ | ⟨h1, h2⟩ | ⟨h1, h2⟩)
    · rw [if_pos h1, if_neg (by omega), if_neg (show ¬ top ≤ t - 24 by omega), if_neg (by omega)]
    · rw [if_neg (show ¬ t ≤ top by omega), if_neg (by omega), if_pos h1, if_neg (by omega)]
    · rw [if_neg (show ¬ t ≤ top by omega), if_neg (by omega), if_neg (show ¬ top ≤ t - 24 by omega), if_neg (by omega)]

/-- The three thresholds, judged one after the other. -/
theorem State.judgeTemps_effect (s : State) (top : Int) :
    (∀ k < 3, (((s.judgeTemp 0 top).judgeTemp 1 top).judgeTemp 2 top).condBit 0xD k = s.reachedAt k top) ∧
    (∀ k, 3 ≤ k → (((s.judgeTemp 0 top).judgeTemp 1 top).judgeTemp 2 top).condBit 0xD k = s.condBit 0xD k) ∧
    ∀ f : Field, 0x200 ≤ f.place → (((s.judgeTemp 0 top).judgeTemp 1 top).judgeTemp 2 top).get 0xD f = s.get 0xD f := by
  obtain ⟨a1, a2, a3⟩ := s.judgeTemp_effect 0 top
  obtain ⟨b1, b2, b3⟩ := (s.judgeTemp 0 top).judgeTemp_effect 1 top
  obtain ⟨c1, c2, c3⟩ := ((s.judgeTemp 0 top).judgeTemp 1 top).judgeTemp_effect 2 top
  refine ⟨fun k hk => ?_, fun k hk => ?_, fun f hf => by rw [c3 f hf, b3 f hf, a3 f hf]⟩
  · match k, hk with
    | 0, _ => rw [(c2 0 (by decide)).1, (b2 0 (by decide)).1, a1]
    | 1, _ => rw [(c2 1 (by decide)).1, b1, (a2 1 (by decide)).2]
    | 2, _ => rw [c1, (b2 2 (by decide)).2, (a2 2 (by decide)).2]
  · rw [(c2 k (by omega)).1, (b2 k (by omega)).1, (a2 k (by omega)).1]

/-- The plausible readings of a sample. -/
def readings (v : List Int) : List Int := ((List.range 12).map fun k => v.getD k 0).filter plausible

theorem mem_readings {v : List Int} {x : Int} : x ∈ readings v ↔ ∃ k < 12, v.getD k 0 = x ∧ plausible x = true := by
  simp only [readings, List.mem_filter, List.mem_map, List.mem_range]
  constructor
  · rintro ⟨⟨k, hk, rfl⟩, h⟩
    exact ⟨k, hk, rfl, h⟩
  · rintro ⟨k, hk, rfl, h⟩
    exact ⟨⟨k, hk, rfl⟩, h⟩

theorem readings_short (v : List Int) : decide ((readings v).length < 12) = (List.range 12).any fun k => !plausible (v.getD k 0) := by
  have hlen : ((List.range 12).map fun k => v.getD k 0).length = 12 := by simp
  rw [Bool.eq_iff_iff, decide_eq_true_iff, List.any_eq_true]
  unfold readings
  constructor
  · intro h
    by_contra hall
    rw [List.filter_eq_self.mpr, hlen] at h
    · omega
    · intro x hx
      obtain ⟨k, hk, rfl⟩ := List.mem_map.mp hx
      by_contra hp
      exact hall ⟨k, hk, by simpa using hp⟩
  · rintro ⟨k, hk, hp⟩
    rw [← hlen]
    exact List.length_filter_lt_length_iff_exists.mpr ⟨v.getD k 0, List.mem_map.mpr ⟨k, hk, rfl⟩, by simpa using hp⟩

/-- The state after the readings and their plausibility are shown. -/
def State.sampled (s : State) (v : List Int) : State := (s.showSensors v 12).cond 0xD 3 (decide ((readings v).length < 12))

/-- The largest reading is taken as the temperature, and the thresholds are judged by it. -/
def State.judgeTop (s : State) (top : Int) : State :=
  let s := s.put 0xD Chip.TS_MAX_TEMP (ofSigned 16 top)
  let s := s.put 0xD Chip.TS_PEAK_TEMP (ofSigned 16 (max (toSigned 16 (s.get 0xD Chip.TS_PEAK_TEMP)) top))
  ((s.judgeTemp 0 top).judgeTemp 1 top).judgeTemp 2 top

theorem State.sampled_effect (s : State) (v : List Int) :
    (∀ k < 12, (s.sampled v).get 0xD (Chip.TS_SENS_TEMP.nth k) = ofSigned 16 (v.getD k 0) ∧
      (s.sampled v).flag 0xD (Chip.TS_SENS_VALID.nth k) = plausible (v.getD k 0)) ∧
    (s.sampled v).condBit 0xD 3 = ((List.range 12).any fun k => !plausible (v.getD k 0)) ∧
    (∀ k < 3, (s.sampled v).condBit 0xD k = s.condBit 0xD k) ∧ (s.sampled v).pins = s.pins ∧
    ∀ f : Field, 0x200 ≤ f.place → f.place < 0x800 → (s.sampled v).get 0xD f = s.get 0xD f := by
  have hne : ∀ f : Field, 0x200 ≤ f.place → fieldKey 0xD Hdr.FLT_STAT_FAULT ≠ fieldKey 0xD f := by
    intro f hf
    have : Hdr.FLT_STAT_FAULT.place < 0x200 := by decide
    unfold Field.place at hf this
    unfold fieldKey
    omega
  have hsens : ∀ f ∈ [Chip.TS_SENS_TEMP, Chip.TS_SENS_VALID], ∀ k, 0x200 ≤ (f.nth k).place := by
    intro f hf k
    fin_cases hf <;> simp only [Field.place, Field.nth, Chip.TS_SENS_TEMP, Chip.TS_SENS_VALID] <;> omega
  unfold State.sampled
  refine ⟨fun k hk => ?_, ?_, fun k hk => ?_, ?_, fun f hlo hhi => ?_⟩
  · obtain ⟨h1, h2⟩ := s.showSensors_shows v 12 k hk
    exact ⟨(State.get_cond_other _ _ _ (hne _ (hsens _ (by simp) k))).trans h1,
      (State.flag_congr _ (State.get_cond_other _ _ _ (hne _ (hsens _ (by simp) k)))).trans h2⟩
  · rw [State.condBit_cond, readings_short]
  · rw [State.condBit_cond_other _ _ (Or.inr (by omega)), State.condBit, State.marks, (s.showSensors_flt v 12).1]
    rfl
  · rw [State.cond_pins, (s.showSensors_flt v 12).2]
  · rw [State.get_cond_other _ _ _ (hne f hlo), State.get_showSensors_other _ _ _ hhi]

theorem State.judgeTop_effect (s : State) (top : Int) :
    (s.judgeTop top).get 0xD Chip.TS_MAX_TEMP = ofSigned 16 top ∧
    (∀ k < 3, (s.judgeTop top).condBit 0xD k = s.reachedAt k top) ∧ (s.judgeTop top).condBit 0xD 3 = s.condBit 0xD 3 ∧
    ∀ k, (s.judgeTop top).get 0xD (Chip.TS_SENS_TEMP.nth k) = s.get 0xD (Chip.TS_SENS_TEMP.nth k) ∧
      (s.judgeTop top).flag 0xD (Chip.TS_SENS_VALID.nth k) = s.flag 0xD (Chip.TS_SENS_VALID.nth k) := by
  let u := s.put 0xD Chip.TS_MAX_TEMP (ofSigned 16 top)
  let w := u.put 0xD Chip.TS_PEAK_TEMP (ofSigned 16 (max (toSigned 16 (u.get 0xD Chip.TS_PEAK_TEMP)) top))
  obtain ⟨h1, h2, h3⟩ := w.judgeTemps_effect top
  have hwarn : w.get 0xD Chip.TS_CFG_WARN_C = s.get 0xD Chip.TS_CFG_WARN_C :=
    (State.get_put_other _ _ (by simp +decide)).trans (State.get_put_other _ _ (by simp +decide))
  have hfit : ofSigned 16 top % Chip.TS_MAX_TEMP.size = ofSigned 16 top := by
    show ofSigned 16 top % 65536 = _
    unfold ofSigned
    omega
  refine ⟨?_, fun k hk => (h1 k hk).trans ?_, (h2 3 (by decide)).trans rfl, fun k => ⟨?_, State.flag_congr _ ?_⟩⟩
  · refine (h3 _ (by decide)).trans ((State.get_put_other _ _ (by simp +decide)).trans ?_)
    rw [State.get_put_same, hfit]
  · unfold State.reachedAt State.thresholds
    rw [hwarn]
    rfl
  all_goals
    refine (h3 _ ?_).trans ((State.get_put_other _ _ ?_).trans (State.get_put_other _ _ ?_))
    all_goals
      simp only [fieldKey, Field.place, Field.nth, Chip.TS_SENS_TEMP, Chip.TS_SENS_VALID, Chip.TS_PEAK_TEMP, Chip.TS_MAX_TEMP]
      omega

/-- The largest of a list whose elements are all at most one of them. -/
theorem foldl_max_eq {a top : Int} {l : List Int} (hmem : top ∈ a :: l) (hle : ∀ x ∈ a :: l, x ≤ top) : l.foldl max a = top := by
  have h : (a :: l).max? = some top := List.max?_eq_some_iff.mpr ⟨hmem, hle⟩
  rw [List.max?_cons'] at h
  exact Option.some.inj h

/-- Readings of sensor 11 below 115 °C, counted for the release of the trip (R607). -/
def State.coolCounted (s : State) (v : List Int) : State :=
  let cool := if v.getD 11 0 < 920 then min 10 (s.pins.cool + 1) else 0
  { s with pins := { s.pins with cool }, power := { s.power with tripped := s.power.tripped && decide (cool < 10) } }

theorem exec_tempSample (v : List Int) (s : State) : exec (.tempSample v) s = .next (if s.power.inReset || s.power.asleep then s.coolCounted v else
    match readings v with
    | [] => (s.coolCounted v).sampled v
    | a :: rest => ((s.coolCounted v).sampled v).judgeTop (rest.foldl max a)) := rfl

theorem tempSample_completes (v : List Int) (s : State) :
    Completes (.tempSample v) s fun t =>
      (s.power.inReset = true ∨ s.power.asleep = true → t.regs = s.regs ∧ SameFaults s t) ∧
      (s.power.inReset = false → s.power.asleep = false →
        (∀ k < 12, t.get 0xD (Chip.TS_SENS_TEMP.nth k) = ofSigned 16 (v.getD k 0) ∧
          t.flag 0xD (Chip.TS_SENS_VALID.nth k) = plausible (v.getD k 0)) ∧
        t.condBit 0xD 3 = (List.range 12).any (fun k => !plausible (v.getD k 0)) ∧
        ((∀ k < 12, plausible (v.getD k 0) = false) → t.get 0xD Chip.TS_MAX_TEMP = s.get 0xD Chip.TS_MAX_TEMP ∧
          ∀ k < 3, t.condBit 0xD k = s.condBit 0xD k) ∧
        (∀ top, (∃ k < 12, v.getD k 0 = top ∧ plausible top = true) → (∀ k < 12, plausible (v.getD k 0) = true → v.getD k 0 ≤ top) →
          t.get 0xD Chip.TS_MAX_TEMP = ofSigned 16 top ∧
          ∀ k < 3, (s.thresholds.getD k 0 ≤ top → 1 ≤ s.pins.reach.getD k 0 → t.condBit 0xD k = true) ∧
            (top ≤ s.thresholds.getD k 0 - 24 → 1 ≤ s.pins.leave.getD k 0 → t.condBit 0xD k = false) ∧
            ((s.thresholds.getD k 0 ≤ top ∧ s.pins.reach.getD k 0 = 0) ∨ (top ≤ s.thresholds.getD k 0 - 24 ∧ s.pins.leave.getD k 0 = 0) ∨
              (s.thresholds.getD k 0 - 24 < top ∧ top < s.thresholds.getD k 0) → t.condBit 0xD k = s.pins.reached.getD k false))) ∧
      SameMemory s t := by
  have hmem : ∀ t, exec (.tempSample v) s = .next t → SameMemory s t := fun t ht =>
    SameMemory.of_exec ht (by rw [exec]; exact answers_tempSample (Quiet.refl s))
  have hexec := exec_tempSample v s
  by_cases hoff : (s.power.inReset || s.power.asleep) = true
  · rw [if_pos hoff] at hexec
    exact ⟨_, hexec, fun _ => ⟨rfl, rfl, rfl⟩, fun h1 h2 => absurd hoff (by simp [h1, h2]), hmem _ hexec⟩
  · rw [if_neg hoff] at hexec
    have hon : s.power.inReset = false ∧ s.power.asleep = false := by simpa using hoff
    have habsurd : ∀ {P : Prop}, s.power.inReset = true ∨ s.power.asleep = true → P := by simp [hon]
    obtain ⟨h1, h2, h3, hpins, hget⟩ := (s.coolCounted v).sampled_effect v
    cases hv : readings v with
    | nil =>
      rw [hv] at hexec
      refine ⟨_, hexec, habsurd, fun _ _ => ⟨h1, h2, fun _ => ⟨(hget _ (by decide) (by decide)).trans rfl, h3⟩, fun top htop => ?_⟩, hmem _ hexec⟩
      have := mem_readings.mpr htop
      rw [hv] at this
      cases this
    | cons a rest =>
      rw [hv] at hexec
      dsimp only at hexec
      obtain ⟨g1, g2, g3, g4⟩ := ((s.coolCounted v).sampled v).judgeTop_effect (rest.foldl max a)
      refine ⟨_, hexec, habsurd, fun _ _ => ⟨fun k hk => ⟨(g4 k).1.trans (h1 k hk).1, (g4 k).2.trans (h1 k hk).2⟩, g3.trans h2, fun hno => ?_,
        fun top htop hle => ?_⟩, hmem _ hexec⟩
      · obtain ⟨k, hk, rfl, hp⟩ := mem_readings.mp (hv ▸ List.mem_cons_self : a ∈ readings v)
        rw [hno k hk] at hp
        cases hp
      · have hmax : rest.foldl max a = top := by
          refine foldl_max_eq (hv ▸ mem_readings.mpr htop) fun x hx => ?_
          obtain ⟨k, hk, rfl, hp⟩ := mem_readings.mp (hv ▸ hx : x ∈ readings v)
          exact hle k hk hp
        rw [hmax] at g1 g2 ⊢
        have hreached : ∀ k < 3, (((s.coolCounted v).sampled v).judgeTop top).condBit 0xD k = s.reachedAt k top := by
          intro k hk
          rw [g2 k hk]
          unfold State.reachedAt State.thresholds
          rw [hpins, hget _ (by decide) (by decide)]
          rfl
        refine ⟨g1, fun k hk => ?_⟩
        rw [hreached k hk]
        exact s.reachedAt_of k top


/-! ## Balls -/

/-- The other fields of GPIO_CFG: the drive and the safe state of the ball. -/
def driveFields (i : Nat) : List Field :=
  [Chip.GPIO_CFG_DRIVE, Chip.GPIO_CFG_PULL, Chip.GPIO_CFG_OD, Chip.GPIO_CFG_SLEW, Chip.GPIO_CFG_SAFE].map (·.nth i)

theorem driveFields_ne {i : Nat} {f g : Field} (hf : f ∈ driveFields i)
    (hg : g ∈ [Chip.GPIO_CFG_FUNC.nth i, Chip.GPIO_CFG_FIDX.nth i, Hdr.EVT_STAT_EVENT]) : fieldKey 0xA f ≠ fieldKey 0xA g := by
  simp only [driveFields, List.map_cons, List.map_nil, List.mem_cons, List.not_mem_nil, or_false] at hf hg
  rcases hf with rfl | rfl | rfl | rfl | rfl <;> rcases hg with rfl | rfl | rfl <;>
    simp only [fieldKey, Field.nth, Chip.GPIO_CFG_DRIVE, Chip.GPIO_CFG_PULL, Chip.GPIO_CFG_OD, Chip.GPIO_CFG_SLEW, Chip.GPIO_CFG_SAFE,
      Chip.GPIO_CFG_FUNC, Chip.GPIO_CFG_FIDX, Hdr.EVT_STAT_EVENT] <;> omega

theorem ballField_ne (i : Nat) : fieldKey 0xA (Chip.GPIO_CFG_FIDX.nth i) ≠ fieldKey 0xA (Chip.GPIO_CFG_FUNC.nth i) ∧
    fieldKey 0xA (Chip.GPIO_CFG_FIDX.nth i) ≠ fieldKey 0xA Hdr.EVT_STAT_EVENT ∧
    fieldKey 0xA Hdr.EVT_STAT_EVENT ≠ fieldKey 0xA (Chip.GPIO_CFG_FUNC.nth i) := by
  simp only [fieldKey, Field.nth, Chip.GPIO_CFG_FUNC, Chip.GPIO_CFG_FIDX, Hdr.EVT_STAT_EVENT]
  omega

/-- A ball that takes a function still takes it once it has it. -/
theorem State.ballTakes_put (s : State) (i f n : Nat) (h : s.ballTakes i f n = true) :
    (s.put 0xA (Chip.GPIO_CFG_FUNC.nth i) f).ballTakes i f n = true := by
  have hother : ∀ j, j ≠ i → (s.put 0xA (Chip.GPIO_CFG_FUNC.nth i) f).get 0xA (Chip.GPIO_CFG_FUNC.nth j) = s.get 0xA (Chip.GPIO_CFG_FUNC.nth j) ∧
      (s.put 0xA (Chip.GPIO_CFG_FUNC.nth i) f).get 0xA (Chip.GPIO_CFG_FIDX.nth j) = s.get 0xA (Chip.GPIO_CFG_FIDX.nth j) := by
    intro j hj
    refine ⟨State.get_put_other _ _ ?_, State.get_put_other _ _ ?_⟩ <;>
      simp only [fieldKey, Field.nth, Chip.GPIO_CFG_FUNC, Chip.GPIO_CFG_FIDX] <;> omega
  simp only [State.ballTakes, State.ballsOf, Bool.or_eq_true, Bool.and_eq_true, List.all_eq_true, List.mem_filter, List.mem_range, beq_iff_eq] at h ⊢
  refine h.imp id fun hall => ⟨fun j hj => ?_, hall.2⟩
  by_contra hji
  obtain ⟨hlt, hf, hn⟩ := hj
  rw [(hother j hji).1] at hf
  rw [(hother j hji).2] at hn
  exact hji (hall.1 j ⟨hlt, hf, hn⟩)

/-- GPIO_CFG.FUNC written: taken where the ball takes the function, and else turned away. -/
def State.ballFunc (s : State) (i f n : Nat) : State :=
  if decide (6 < f) || !s.ballTakes i f n then s.event 0xA 0 else s.put 0xA (Chip.GPIO_CFG_FUNC.nth i) f

/-- GPIO_CFG.FIDX written, then the drive. -/
def State.ballIndex (s : State) (i n w : Nat) : State :=
  (if s.ballTakes i (s.get 0xA (Chip.GPIO_CFG_FUNC.nth i)) n then s.put 0xA (Chip.GPIO_CFG_FIDX.nth i) n else s.event 0xA 0).writeFields 0xA w 0 (driveFields i)

/-- The pulse of an output that its ball no longer carries ends. -/
def State.ballLeft (s : State) (old oldIdx : Nat) (moved : Bool) : State :=
  if old = 2 ∧ moved then s.putCsi oldIdx { s.csi oldIdx with pulse := none } else s

theorem State.writeGpioCfg_eq (s : State) (i w : Nat) : s.writeGpioCfg i w =
    ((s.ballFunc i (bitsOf w 31 28) (bitsOf w 26 24)).ballIndex i (bitsOf w 26 24) w).ballLeft (s.get 0xA (Chip.GPIO_CFG_FUNC.nth i))
      (s.get 0xA (Chip.GPIO_CFG_FIDX.nth i))
      (((s.ballFunc i (bitsOf w 31 28) (bitsOf w 26 24)).ballIndex i (bitsOf w 26 24) w).get 0xA (Chip.GPIO_CFG_FUNC.nth i) !=
          s.get 0xA (Chip.GPIO_CFG_FUNC.nth i) ||
        ((s.ballFunc i (bitsOf w 31 28) (bitsOf w 26 24)).ballIndex i (bitsOf w 26 24) w).get 0xA (Chip.GPIO_CFG_FIDX.nth i) !=
          s.get 0xA (Chip.GPIO_CFG_FIDX.nth i)) := rfl

theorem State.ballLeft_keeps (s : State) (old oldIdx : Nat) (moved : Bool) :
    (s.ballLeft old oldIdx moved).regs = s.regs ∧ (s.ballLeft old oldIdx moved).out = s.out ∧ SameFaults s (s.ballLeft old oldIdx moved) := by
  unfold State.ballLeft
  split <;> exact ⟨rfl, rfl, SameFaults.refl _⟩

theorem State.writeFields_out (s : State) (pg w reject : Nat) (fs : List Field) : (s.writeFields pg w reject fs).out = s.out :=
  foldl_keeps (v := State.out) (fun s f => by rcases s.writeField_cases pg w reject f with e | e <;> rw [e] <;> rfl) fs s

/-- An event that is set stays set. -/
theorem State.eventBit_writeFields (s : State) (pg w : Nat) {fs : List Field} (hfs : ∀ f ∈ fs, fieldKey pg f ≠ fieldKey pg Hdr.EVT_STAT_EVENT)
    (h : s.eventBit pg 0 = true) : (s.writeFields pg w 0 fs).eventBit pg 0 = true := by
  unfold State.writeFields
  induction fs generalizing s with
  | nil => exact h
  | cons f fs ih =>
    rcases s.writeField_cases pg w 0 f with e | e
    · rw [List.foldl_cons, e]
      exact ih _ (fun g hg => hfs g (.tail _ hg)) ((State.eventBit_put_other _ _ (hfs f (.head _))).trans h)
    · rw [List.foldl_cons, e]
      exact ih _ (fun g hg => hfs g (.tail _ hg)) (by rw [State.eventBit_event_of_page _ (by decide), h, Bool.true_or])

/-- FUNC stays as it is when FIDX and the drive are written. -/
theorem State.ballIndex_effect (s : State) (i n w : Nat) :
    (s.ballIndex i n w).get 0xA (Chip.GPIO_CFG_FUNC.nth i) = s.get 0xA (Chip.GPIO_CFG_FUNC.nth i) ∧
    (s.eventBit 0xA 0 = true → (s.ballIndex i n w).eventBit 0xA 0 = true) ∧
    (s.ballTakes i (s.get 0xA (Chip.GPIO_CFG_FUNC.nth i)) n = true → (s.ballIndex i n w).get 0xA (Chip.GPIO_CFG_FIDX.nth i) = n % 8) ∧
    (s.ballIndex i n w).out = s.out ∧ SameFaults s (s.ballIndex i n w) := by
  obtain ⟨hfi, hie, hef⟩ := ballField_ne i
  have hkeep : ∀ u : State, ∀ g ∈ [Chip.GPIO_CFG_FUNC.nth i, Chip.GPIO_CFG_FIDX.nth i, Hdr.EVT_STAT_EVENT],
      fieldKey 0xA Hdr.EVT_STAT_EVENT ≠ fieldKey 0xA g → (u.writeFields 0xA w 0 (driveFields i)).get 0xA g = u.get 0xA g := fun u g hg =>
    State.get_writeFields_other u _ _ _ _ fun f hf => driveFields_ne hf hg
  unfold State.ballIndex
  refine ⟨?_, fun h => ?_, fun h => ?_, ?_, ?_⟩
  · rw [hkeep _ _ (by simp) hef]
    split
    · exact State.get_put_other _ _ hfi
    · exact State.get_event_other _ _ hef
  · refine State.eventBit_writeFields _ _ _ (fun f hf => driveFields_ne hf (by simp)) ?_
    split
    · rw [State.eventBit_put_other _ _ hie, h]
    · rw [State.eventBit_event_of_page _ (by decide), h, Bool.true_or]
  · rw [hkeep _ _ (by simp) hie.symm, if_pos h, State.get_put_same]
    rfl
  · rw [State.writeFields_out]
    split <;> rfl
  · refine SameFaults.trans ?_ (State.sameFaults_writeFields _ _ _ _ _).1
    split <;> exact ⟨rfl, rfl⟩

theorem gpioCfgWrite_completes (req : Requester) (i : Fin 48) (w : Word) (s : State) (f n : Nat)
    (hs : s.serves req (regOff 0xA (Chip.GPIO_CFG_FUNC.nth i)) = true) (hf : f = w.toNat / 2 ^ 28) (hn : n = w.toNat / 2 ^ 24 % 8) :
    Completes (.gpioCfgWrite req i w) s fun t =>
      (f ≤ 6 → s.ballTakes i f n = true → t.get 0xA (Chip.GPIO_CFG_FUNC.nth i) = f ∧ t.get 0xA (Chip.GPIO_CFG_FIDX.nth i) = n ∧
        (f ≠ 2 → s.get 0xA (Chip.GPIO_CFG_FUNC.nth i) = 2 → (t.csi (s.get 0xA (Chip.GPIO_CFG_FIDX.nth i))).pulse = none)) ∧
      (6 < f ∨ s.ballTakes i f n = false →
        t.get 0xA (Chip.GPIO_CFG_FUNC.nth i) = s.get 0xA (Chip.GPIO_CFG_FUNC.nth i) ∧ t.eventBit 0xA 0 = true) ∧ t.out = s.out ∧ SameMemory s t ∧
      SameFaults s t := by
  have hw : w.toNat < 2 ^ 32 := w.isLt
  have hbf : bitsOf w.toNat 31 28 = f := by
    rw [hf]
    show w.toNat / 2 ^ 28 % 16 = _
    omega
  have hbn : bitsOf w.toNat 26 24 = n := hn.symm
  have ht : exec (.gpioCfgWrite req i w) s = .next (s.writeGpioCfg i w.toNat) := by
    rw [exec, execGpioCfgWrite, State.onWrite_served hs]
  have hmem := SameMemory.of_exec ht (by rw [exec]; exact answers_gpioCfgWrite (Quiet.refl s))
  refine ⟨_, ht, ?_⟩
  rw [State.writeGpioCfg_eq, hbf, hbn] at hmem ⊢
  obtain ⟨h1, h2, h3, h4, h5⟩ := (s.ballFunc i f n).ballIndex_effect i n w.toNat
  obtain ⟨-, -, hef⟩ := ballField_ne i
  generalize hm : (((s.ballFunc i f n).ballIndex i n w.toNat).get 0xA (Chip.GPIO_CFG_FUNC.nth i) != s.get 0xA (Chip.GPIO_CFG_FUNC.nth i) ||
    ((s.ballFunc i f n).ballIndex i n w.toNat).get 0xA (Chip.GPIO_CFG_FIDX.nth i) != s.get 0xA (Chip.GPIO_CFG_FIDX.nth i)) = moved at hmem ⊢
  obtain ⟨hregs, hout, hflt⟩ := ((s.ballFunc i f n).ballIndex i n w.toNat).ballLeft_keeps (s.get 0xA (Chip.GPIO_CFG_FUNC.nth i))
    (s.get 0xA (Chip.GPIO_CFG_FIDX.nth i)) moved
  have hfunc : (s.ballFunc i f n).out = s.out ∧ SameFaults s (s.ballFunc i f n) := by
    unfold State.ballFunc
    split <;> exact ⟨rfl, rfl, rfl⟩
  refine ⟨fun hle htakes => ?_, fun hbad => ?_, hout.trans (h4.trans hfunc.1), hmem, (hfunc.2.trans h5).trans hflt⟩
  · have hb : s.ballFunc i f n = s.put 0xA (Chip.GPIO_CFG_FUNC.nth i) f := by
      rw [State.ballFunc, if_neg]
      simp [htakes, hle]
    have hnow : (s.ballFunc i f n).get 0xA (Chip.GPIO_CFG_FUNC.nth i) = f := by
      rw [hb, State.get_put_same]
      exact Nat.mod_eq_of_lt (show f < 16 by omega)
    rw [hnow] at h1 h3
    rw [State.get_of_regs hregs, State.get_of_regs hregs]
    refine ⟨h1, (h3 (by rw [hb]; exact s.ballTakes_put i f n htakes)).trans (by omega), fun hf2 hold => ?_⟩
    have hmoved : moved = true := by
      rw [← hm, h1, hold]
      simp [hf2]
    rw [State.ballLeft, if_pos ⟨hold, hmoved⟩, State.csi_putCsi]
  · have hb : s.ballFunc i f n = s.event 0xA 0 := by
      rw [State.ballFunc, if_pos]
      simpa using hbad
    rw [State.get_of_regs hregs, State.eventBit_congr _ (State.get_of_regs hregs _ _)]
    refine ⟨h1.trans (by rw [hb]; exact State.get_event_other _ _ hef), h2 ?_⟩
    rw [hb, State.eventBit_event_of_page _ (by decide)]
    simp

/-- Where a driver is taken off its ball, the ball is off, the fault is present, and the mismatch is counted. -/
theorem State.ballOff_effect (s : State) (i : Nat) (hi : i < 48) :
    (s.ballOff i).flag 0xA (Chip.GPIO_CFG_OFF.nth i) = true ∧ (s.ballOff i).condBit 0xC 0 = true ∧
    (s.ballOff i).get 0xC Chip.GPIO_MISMATCH_COUNT = min (s.get 0xC Chip.GPIO_MISMATCH_COUNT + 1) (2 ^ 32 - 1) ∧
    ∀ j < 48, s.flag 0xA (Chip.GPIO_CFG_OFF.nth j) = true → (s.ballOff i).flag 0xA (Chip.GPIO_CFG_OFF.nth j) = true := by
  have hoff : ∀ j : Fin 48, (Chip.GPIO_CFG_OFF.nth j).place < 0x8000 := by decide
  let u : State := { s with pins := { s.pins with oeCleared := clearBit s.pins.oeCleared i } }
  let x := u.put 0xA (Chip.GPIO_CFG_OFF.nth i) 1
  let v := (x.countSat 0xC Chip.GPIO_MISMATCH_COUNT).event 0xC 0
  have heq : s.ballOff i = v.judgeGpio.again 0xC 0 (u.condBit 0xC 0) := rfl
  have hagain : ∀ (pg : Nat) (f : Field), fieldKey 0xC Hdr.FLT_STAT_FAULT ≠ fieldKey pg f → (s.ballOff i).get pg f = v.get pg f := by
    intro pg f hne
    rw [heq]
    unfold State.again
    split
    · exact (State.get_put_other _ _ hne).trans (State.get_cond_other _ _ _ hne)
    · exact State.get_cond_other _ _ _ hne
  have hballs : ∀ j < 48, (s.ballOff i).flag 0xA (Chip.GPIO_CFG_OFF.nth j) = x.flag 0xA (Chip.GPIO_CFG_OFF.nth j) ∧
      v.flag 0xA (Chip.GPIO_CFG_OFF.nth j) = x.flag 0xA (Chip.GPIO_CFG_OFF.nth j) := by
    intro j hj
    have hne : ∀ g : Field, g.place < 0x8000 → fieldKey 0xC g ≠ fieldKey 0xA (Chip.GPIO_CFG_OFF.nth j) := fun g hg =>
      fieldKey_page hg (hoff ⟨j, hj⟩) (by decide)
    have hv : v.get 0xA (Chip.GPIO_CFG_OFF.nth j) = x.get 0xA (Chip.GPIO_CFG_OFF.nth j) :=
      (State.get_event_other _ _ (hne _ (by decide))).trans (by rw [State.get_countSat, if_neg (hne _ (by decide))])
    exact ⟨State.flag_congr _ ((hagain _ _ (hne _ (by decide))).trans hv), State.flag_congr _ hv⟩
  have hset : x.flag 0xA (Chip.GPIO_CFG_OFF.nth i) = true := State.flag_put_one ..
  have hjudge : v.judgeGpio.condBit 0xC 0 = true := by
    rw [State.judgeGpio, State.condBit_cond, List.any_eq_true]
    exact ⟨i, List.mem_range.mpr hi, (hballs i hi).2.trans hset⟩
  refine ⟨(hballs i hi).1.trans hset, ?_, ?_, fun j hj h => (hballs j hj).1.trans ?_⟩
  · rw [heq]
    unfold State.again
    split <;> exact hjudge
  · rw [hagain _ _ (by simp +decide)]
    refine (State.get_event_other _ _ (by simp +decide)).trans ((State.get_countSat_same _ _).trans ?_)
    rw [show x.get 0xC Chip.GPIO_MISMATCH_COUNT = s.get 0xC Chip.GPIO_MISMATCH_COUNT from
      State.get_put_other _ _ (fieldKey_page (hoff ⟨i, hi⟩) (by decide) (by decide))]
    rfl
  · by_cases hji : j = i
    · rw [hji, hset]
    · refine (State.flag_put_other _ _ ?_).trans h
      simp only [fieldKey, Field.nth, Chip.GPIO_CFG_OFF]
      omega

/-- Balls taken off one after the other: each is off at the end. -/
theorem State.ballsOff_effect {l : List Nat} (hl : ∀ k ∈ l, k < 48) (s : State) :
    (∀ j < 48, s.flag 0xA (Chip.GPIO_CFG_OFF.nth j) = true → (l.foldl (fun (s : State) k => s.ballOff k) s).flag 0xA (Chip.GPIO_CFG_OFF.nth j) = true) ∧
    (∀ k ∈ l, (l.foldl (fun (s : State) k => s.ballOff k) s).flag 0xA (Chip.GPIO_CFG_OFF.nth k) = true) ∧
    (l ≠ [] ∨ s.condBit 0xC 0 = true → (l.foldl (fun (s : State) k => s.ballOff k) s).condBit 0xC 0 = true) := by
  induction l generalizing s with
  | nil => exact ⟨fun _ _ h => h, fun _ h => absurd h (by simp), fun h => h.resolve_left (by simp)⟩
  | cons a l ih =>
    obtain ⟨h1, h2, -, h4⟩ := s.ballOff_effect a (hl a List.mem_cons_self)
    obtain ⟨g1, g2, g3⟩ := ih (fun k hk => hl k (List.mem_cons_of_mem _ hk)) (s.ballOff a)
    refine ⟨fun j hj h => g1 j hj (h4 j hj h), fun k hk => ?_, fun _ => g3 (Or.inr h2)⟩
    rcases List.mem_cons.mp hk with rfl | hk
    · exact g1 k (hl k List.mem_cons_self) h1
    · exact g2 k hk

theorem State.ballsOff_keeps {l : List Nat} (hl : ∀ k ∈ l, k < 48) (s : State) {pg : Nat} (h10 : 0xA ≠ pg) (h12 : 0xC ≠ pg) :
    (l.foldl (fun (s : State) k => s.ballOff k) s).csiRx = s.csiRx ∧
    (∀ f : Field, f.place < 0x8000 → (l.foldl (fun (s : State) k => s.ballOff k) s).get pg f = s.get pg f) ∧
    ∀ b, (l.foldl (fun (s : State) k => s.ballOff k) s).condBit pg b = s.condBit pg b := by
  induction l generalizing s with
  | nil => exact ⟨rfl, fun _ _ => rfl, fun _ => rfl⟩
  | cons a l ih =>
    obtain ⟨h1, h2, h3⟩ := s.ballOff_keeps a (hl a List.mem_cons_self) h10 h12
    obtain ⟨g1, g2, g3⟩ := ih (fun k hk => hl k (List.mem_cons_of_mem _ hk)) (s.ballOff a)
    exact ⟨g1.trans h1, fun f hf => (g2 f hf).trans (h2 f hf), fun b => (g3 b).trans (h3 b)⟩

/-- A frame-sync output whose driver goes off: its pulse ends, its fault is present, and the balls of a push-pull one are off (R600). -/
theorem State.lfsGoesOff_at (s : State) (n : Nat) {i : Nat} (hi : i < 48) (hfunc : s.get 0xA (Chip.GPIO_CFG_FUNC.nth i) = 2)
    (hidx : s.get 0xA (Chip.GPIO_CFG_FIDX.nth i) = n) :
    (s.lfsGoesOff n).flag (rxPage n) CsiRx.LFS_STAT_OFF = true ∧ (s.lfsGoesOff n).condBit (rxPage n) 2 = true ∧
    ((s.lfsGoesOff n).csi n).pulse = none ∧
    (s.flag (rxPage n) CsiRx.LFS_CFG_OD = false →
      (s.lfsGoesOff n).flag 0xA (Chip.GPIO_CFG_OFF.nth i) = true ∧ (s.lfsGoesOff n).condBit 0xC 0 = true) := by
  let y := s.putCsi n { s.csi n with pulse := none, lfsCleared := false }
  let x := y.put (rxPage n) CsiRx.LFS_STAT_OFF 1
  let u := x.raise (rxPage n) 2
  have heq : s.lfsGoesOff n = if u.flag (rxPage n) CsiRx.LFS_CFG_OD then u else (u.ballsOf 2 n).foldl (fun (s : State) k => s.ballOff k) u := rfl
  have hother : ∀ pg (f : Field), fieldKey (rxPage n) CsiRx.LFS_STAT_OFF ≠ fieldKey pg f → fieldKey (rxPage n) Hdr.FLT_STAT_FAULT ≠ fieldKey pg f →
      u.get pg f = s.get pg f := by
    intro pg f h h'
    exact (State.get_raise_other _ _ h').trans (State.get_put_other _ _ h)
  have hod : u.flag (rxPage n) CsiRx.LFS_CFG_OD = s.flag (rxPage n) CsiRx.LFS_CFG_OD :=
    State.flag_congr _ (hother _ _ (by simp +decide) (by simp +decide))
  have hoff : u.flag (rxPage n) CsiRx.LFS_STAT_OFF = true := by
    rw [State.flag_congr x (State.get_raise_other _ _ (by simp +decide))]
    exact State.flag_put_one ..
  have hcond : u.condBit (rxPage n) 2 = true := State.condBit_raise ..
  have hcsi : u.csiRx = y.csiRx := State.raise_csiRx ..
  have hpulse : ∀ v : State, v.csiRx = u.csiRx → (v.csi n).pulse = none := by
    intro v hv
    rw [State.csi_congr (hv.trans hcsi), State.csi_putCsi]
  have hlt : ∀ k ∈ u.ballsOf 2 n, k < 48 := fun k hk => List.mem_range.mp (List.mem_filter.mp hk).1
  have hmem : i ∈ u.ballsOf 2 n := by
    have hplace : ∀ j : Fin 48, (Chip.GPIO_CFG_FUNC.nth j).place < 0x8000 ∧ (Chip.GPIO_CFG_FIDX.nth j).place < 0x8000 := by decide
    have hpage : rxPage n ≠ 0xA := (rxPage_ne (by decide) n).symm
    rw [State.ballsOf, List.mem_filter, List.mem_range,
      hother _ _ (fieldKey_page (by decide) (hplace ⟨i, hi⟩).1 hpage) (fieldKey_page (by decide) (hplace ⟨i, hi⟩).1 hpage),
      hother _ _ (fieldKey_page (by decide) (hplace ⟨i, hi⟩).2 hpage) (fieldKey_page (by decide) (hplace ⟨i, hi⟩).2 hpage), hfunc, hidx]
    simp [hi]
  rw [heq]
  split
  · next h => exact ⟨hoff, hcond, hpulse _ rfl, fun hno => absurd h (by rw [hod, hno]; decide)⟩
  · obtain ⟨h1, h2, h3⟩ := State.ballsOff_keeps hlt u (rxPage_ne (by decide) n) (rxPage_ne (by decide) n)
    obtain ⟨-, g2, g3⟩ := State.ballsOff_effect hlt u
    exact ⟨(State.flag_congr u (h2 _ (by decide))).trans hoff, (h3 2).trans hcond, hpulse _ h1,
      fun _ => ⟨g2 i hmem, g3 (Or.inl (List.ne_nil_of_mem hmem))⟩⟩

theorem gpioReadback_completes (i : Fin 48) (level past : Bool) (s : State) (f n : Nat) (bad : Bool → Bool → Bool)
    (hf : f = s.get 0xA (Chip.GPIO_CFG_FUNC.nth i)) (hn : n = s.get 0xA (Chip.GPIO_CFG_FIDX.nth i))
    (hbad : ∀ drive od, bad drive od = if od = true then drive && !level else drive != level || past) :
    Completes (.gpioReadback i level past) s fun t =>
      (s.terminal = true ∨ s.power.asleep = true ∨ s.flag 0xA (Chip.GPIO_CFG_OFF.nth i) = true → t = s) ∧
      (s.terminal = false → s.power.asleep = false → s.flag 0xA (Chip.GPIO_CFG_OFF.nth i) = false →
        (f = 1 → s.gpioBit Chip.GPIO_OE_OE i = true → bad (s.gpioBit Chip.GPIO_OUT_OUT i) (s.flag 0xA (Chip.GPIO_CFG_OD.nth i)) = true →
          t.flag 0xA (Chip.GPIO_CFG_OFF.nth i) = true ∧ t.condBit 0xC 0 = true ∧
          t.get 0xC Chip.GPIO_MISMATCH_COUNT = min (s.get 0xC Chip.GPIO_MISMATCH_COUNT + 1) (2 ^ 32 - 1)) ∧
        (f = 2 → s.lfsDrives n = true → bad (s.lfsLevel n) (s.flag (rxPage n) CsiRx.LFS_CFG_OD) = true →
          t.flag (rxPage n) CsiRx.LFS_STAT_OFF = true ∧ t.condBit (rxPage n) 2 = true ∧ (t.csi n).pulse = none ∧
          (s.flag (rxPage n) CsiRx.LFS_CFG_OD = false → t.flag 0xA (Chip.GPIO_CFG_OFF.nth i) = true ∧ t.condBit 0xC 0 = true)) ∧
        ((f ≠ 1 ∧ f ≠ 2) ∨ (f = 1 ∧ (s.gpioBit Chip.GPIO_OE_OE i = false ∨
            bad (s.gpioBit Chip.GPIO_OUT_OUT i) (s.flag 0xA (Chip.GPIO_CFG_OD.nth i)) = false)) ∨
          (f = 2 ∧ (s.lfsDrives n = false ∨ bad (s.lfsLevel n) (s.flag (rxPage n) CsiRx.LFS_CFG_OD) = false)) → t = s)) ∧ SameMemory s t := by
  have hmem : ∀ t, exec (.gpioReadback i level past) s = .next t → SameMemory s t := fun t ht =>
    SameMemory.of_exec ht (by rw [exec]; exact answers_gpioReadback (Quiet.refl s))
  obtain rfl : bad = fun drive od => if od then drive && !level else drive != level || past := by
    funext drive od
    rw [hbad]
  have hexec : exec (.gpioReadback i level past) s = .next (
      if s.terminal || s.power.asleep || s.flag 0xA (Chip.GPIO_CFG_OFF.nth i) then s
      else if f = 1 && s.gpioBit Chip.GPIO_OE_OE i && (if s.flag 0xA (Chip.GPIO_CFG_OD.nth i) then s.gpioBit Chip.GPIO_OUT_OUT i && !level
        else s.gpioBit Chip.GPIO_OUT_OUT i != level || past) then s.ballOff i
      else if f = 2 && s.lfsDrives n && (if s.flag (rxPage n) CsiRx.LFS_CFG_OD then s.lfsLevel n && !level else s.lfsLevel n != level || past) then
        s.lfsGoesOff n
      else s) := by
    rw [hf, hn]
    rfl
  dsimp only
  generalize (if s.flag 0xA (Chip.GPIO_CFG_OD.nth i) then s.gpioBit Chip.GPIO_OUT_OUT i && !level
        else s.gpioBit Chip.GPIO_OUT_OUT i != level || past) = badOut at hexec ⊢
  generalize (if s.flag (rxPage n) CsiRx.LFS_CFG_OD then s.lfsLevel n && !level else s.lfsLevel n != level || past) = badLfs at hexec ⊢
  have ht := hexec
  refine ⟨_, ht, fun h => ?_, fun h1 h2 h3 => ⟨fun h4 h5 h6 => ?_, fun h4 h5 h6 => ?_, fun h => ?_⟩, hmem _ ht⟩
  · rw [if_pos (by simpa [or_assoc] using h)]
  · rw [if_neg (by simp [h1, h2, h3]), if_pos (by simp [h4, h5, h6])]
    obtain ⟨g1, g2, g3, -⟩ := s.ballOff_effect i i.isLt
    exact ⟨g1, g2, g3⟩
  · rw [if_neg (by simp [h1, h2, h3]), if_neg (by simp [h4]), if_pos (by simp [h4, h5, h6])]
    exact s.lfsGoesOff_at n i.isLt (hf.symm.trans h4) hn.symm
  · have hno1 : (decide (f = 1) && s.gpioBit Chip.GPIO_OE_OE i && badOut) = false := by
      rcases h with ⟨h, -⟩ | ⟨-, h | h⟩ | ⟨h, -⟩ <;> simp [h]
    have hno2 : (decide (f = 2) && s.lfsDrives n && badLfs) = false := by
      rcases h with ⟨-, h⟩ | ⟨h, -⟩ | ⟨-, h | h⟩ <;> simp [h]
    rw [if_neg (by simp [h1, h2, h3]), hno1, if_neg Bool.false_ne_true, hno2, if_neg Bool.false_ne_true]

/-! ## Copied units -/

theorem State.condBit_report (s : State) (pg b : Nat) : (s.report pg b).condBit pg b = true := by
  unfold State.report State.condEach
  rw [if_pos rfl]
  split
  · next h => exact h
  · exact State.condBit_raise ..

theorem State.condBit_report_other (s : State) {pg pg' b c : Nat} (h : pg ≠ pg') : (s.report pg b).condBit pg' c = s.condBit pg' c := by
  unfold State.report State.condEach
  rw [if_pos rfl]
  split
  · rfl
  · exact State.condBit_raise_other _ (Or.inl h)

theorem State.judgeTog_keeps (s : State) : s.judgeTog.flt = s.flt ∧ s.judgeTog.fault.dropped = s.fault.dropped := by
  unfold State.judgeTog
  extract_lets on u
  split <;> exact ⟨rfl, rfl⟩

theorem OnlyRegs.cond {s t : State} {ks : List Nat} (h : OnlyRegs s t ks) (pg b : Nat) (p : Bool) (hk : fieldKey pg Hdr.FLT_STAT_FAULT ∈ ks) :
    OnlyRegs s (t.cond pg b p) ks := by
  cases p with
  | true => exact h.raise pg b hk
  | false =>
    refine fun k hk' => (h k hk').symm ▸ ?_
    exact (WritesIn.refl (· ∈ ks) t).lower hk k hk'

theorem copyMismatch_completes (u : CopiedUnit) (failing : Option (Fin 2)) (s : State) :
    Completes (.copyMismatch u failing) s fun t =>
      (u ≠ .controllers → s.fault.dropped.contains u.code = true → t = s) ∧
      (u ≠ .controllers → s.fault.dropped.contains u.code = false →
        (failing ≠ none → t.fault.dropped = u.code :: s.fault.dropped ∧ t.condBit 0x160 1 = t.fault.dropped.contains 1 ∧
          t.condBit bwPage 2 = t.fault.dropped.contains 3 ∧ OnlyRegs s t [fieldKey 0x160 Hdr.FLT_STAT_FAULT, fieldKey bwPage Hdr.FLT_STAT_FAULT]) ∧
        (failing = none → t.condBit u.fault.1 u.fault.2 = true ∧ t.fault.dropped = s.fault.dropped)) ∧
      (u = .controllers → s.controllersCompared = true →
        (failing = none → t.condBit (pcPage 0 0) 3 = true ∧ t.condBit (pcPage 1 0) 3 = true) ∧
        (∀ h, failing = some h → t.condBit (pcPage h 0) 3 = true ∧ Due.selfCheck h 2 ∈ t.due)) ∧
      (u = .controllers → s.controllersCompared = false → t = s) ∧ SameMemory s t := by
  have hmem : ∀ t, exec (.copyMismatch u failing) s = .next t → SameMemory s t := fun t ht =>
    SameMemory.of_exec ht (by rw [exec]; exact answers_copyMismatch (Quiet.refl s))
  by_cases hu : u = .controllers
  · have hne : ∀ {P : Prop}, u ≠ .controllers → P := fun h => absurd hu h
    subst hu
    cases hc : s.controllersCompared with
    | false =>
      have ht : exec (.copyMismatch .controllers failing) s = .next s := by
        rw [exec, execCopyMismatch.eq_def, if_pos rfl, hc]
        rfl
      exact ⟨s, ht, hne, hne, nofun, fun _ _ => rfl, hmem _ ht⟩
    | true =>
      cases failing with
      | none =>
        have ht : exec (.copyMismatch .controllers none) s = .next ((s.controllerBad 0).controllerBad 1) := by
          rw [exec, execCopyMismatch.eq_def, if_pos rfl, hc]
          rfl
        refine ⟨_, ht, hne, hne, fun _ _ => ⟨fun _ => ⟨?_, State.condBit_report ..⟩, nofun⟩, nofun, hmem _ ht⟩
        exact (State.condBit_report_other _ (by decide)).trans (State.condBit_report _ _ _)
      | some h =>
        have ht : exec (.copyMismatch .controllers (some h)) s = .next ((s.controllerBad h).selfCheck h 2) := by
          rw [exec, execCopyMismatch.eq_def, if_pos rfl, hc]
          rfl
        refine ⟨_, ht, hne, hne, fun _ _ => ⟨nofun, fun h' hh => ?_⟩, nofun, hmem _ ht⟩
        cases hh
        exact ⟨State.condBit_report _ _ _, List.mem_append_right _ (List.mem_singleton.mpr rfl)⟩
  · cases hc : s.fault.dropped.contains u.code with
    | true =>
      have ht : exec (.copyMismatch u failing) s = .next s := by
        rw [exec, execCopyMismatch.eq_def, if_neg hu, hc]
        rfl
      exact ⟨s, ht, fun _ _ => rfl, nofun, fun h => absurd h hu, fun h => absurd h hu, hmem _ ht⟩
    | false =>
      cases failing with
      | some h =>
        let x : State := { s with fault := { s.fault with dropped := u.code :: s.fault.dropped } }
        have ht : exec (.copyMismatch u (some h)) s = .next x.judgeCopies := by
          rw [exec, execCopyMismatch.eq_def, if_neg hu, hc]
          rfl
        have hf : x.judgeCopies.fault = x.fault := (State.cond_fault ..).trans (State.cond_fault ..)
        refine ⟨_, ht, nofun, fun _ _ => ⟨fun _ => ⟨by rw [hf], ?_, ?_, ?_⟩, nofun⟩, fun h => absurd h hu, fun h => absurd h hu, hmem _ ht⟩
        · rw [hf]
          exact (State.condBit_cond_other _ _ (Or.inl (by decide))).trans (State.condBit_cond _ _ _ _)
        · rw [hf]
          exact State.condBit_cond _ _ _ _
        · have hx : OnlyRegs s x [fieldKey 0x160 Hdr.FLT_STAT_FAULT, fieldKey bwPage Hdr.FLT_STAT_FAULT] := fun _ _ => rfl
          exact (hx.cond _ _ _ (by simp)).cond _ _ _ (by simp)
      | none =>
        have ht : exec (.copyMismatch u none) s = .next (if u = .breakwater then (s.report u.fault.1 u.fault.2).judgeTog
            else s.report u.fault.1 u.fault.2) := by
          rw [exec, execCopyMismatch.eq_def, if_neg hu, hc]
          rfl
        have hd : (s.report u.fault.1 u.fault.2).fault = s.fault := by
          unfold State.report State.condEach
          rw [if_pos rfl]
          split
          · rfl
          · exact State.raise_fault ..
        refine ⟨_, ht, nofun, fun _ _ => ⟨nofun, fun _ => ?_⟩, fun h => absurd h hu, fun h => absurd h hu, hmem _ ht⟩
        split
        · obtain ⟨h1, h2⟩ := (s.report u.fault.1 u.fault.2).judgeTog_keeps
          refine ⟨?_, h2.trans (by rw [hd])⟩
          rw [State.condBit, State.marks, h1]
          exact State.condBit_report _ _ _
        · exact ⟨State.condBit_report _ _ _, by rw [hd]⟩

/-- Settles O60. -/
theorem sensorsBallsAndCopiesAreWatched : Obligations.SensorsBallsAndCopiesAreWatched :=
  ⟨tempSample_completes, gpioCfgWrite_completes, gpioReadback_completes, copyMismatch_completes⟩

end Sys2Proof.Machine
end

section
/-! PROOFS. RESET_N and chip reset (R565, R566, R568). -/

namespace Sys2Proof.Machine

/-! ## Nothing goes off where only the always-on domains have power -/

/-- No domain has power but those that are always on. -/
def State.onlyAlwaysOn (s : State) : Prop := ∀ d < 96, d ∉ alwaysOn → s.powered d = false

theorem State.pumpOne_of_onlyAlwaysOn {s : State} (h : s.onlyAlwaysOn) : ∃ p, s.pumpOne = { s with power := p } := by
  unfold State.pumpOne
  split
  · exact ⟨s.power, rfl⟩
  · next hidle =>
    simp only [Bool.or_eq_true, not_or, Bool.not_eq_true] at hidle
    obtain ⟨⟨-, hsleep⟩, -⟩ := hidle
    extract_lets want
    split
    · exact ⟨s.power, rfl⟩
    · next d hd =>
      have hlt : d < 96 := List.mem_range.mp (List.mem_of_find?_eq_some hd)
      have hrise : s.mayRise want d = true := by
        by_contra hno
        have hfall := List.find?_some hd
        simp only [Bool.not_eq_true] at hno
        simp only [hno, Bool.false_or, State.mayFall, Bool.and_eq_true, Bool.not_eq_true'] at hfall
        obtain ⟨⟨⟨⟨hwant, hon⟩, -⟩, -⟩, -⟩ := hfall
        by_cases hd' : d ∈ alwaysOn
        · rw [List.contains_eq_mem, decide_eq_false_iff_not] at hwant
          exact hwant (mem_wanted_of_alwaysOn hsleep hd')
        · rw [h d hlt hd'] at hon
          cases hon
      rw [State.startSwitch, if_pos hrise]
      exact ⟨_, rfl⟩

theorem State.pumpPower_of_onlyAlwaysOn {s : State} (h : s.onlyAlwaysOn) : ∃ p, s.pumpPower = { s with power := p } := by
  have hone : ∀ {t : State}, (∃ p, t = { s with power := p }) → ∃ p, t.pumpOne = { s with power := p } := by
    rintro _ ⟨p, rfl⟩
    exact State.pumpOne_of_onlyAlwaysOn (s := { s with power := p }) h
  exact hone (hone (hone (hone ⟨_, rfl⟩)))

/-! ## Leaving reset -/

/-- The places that leaving reset writes: those of units, the host mode, and the faults and ERR_N that it finds. -/
def leavePlace (k : Nat) : Prop := 0x50 * 0x8000 ≤ k ∨
  k ∈ [fieldKey 0x0 Chip.CHIP_CFG_HOST_MODE, fieldKey 0x8 Chip.BOOT_STAT_HMODE, fieldKey 0x0 Hdr.FLT_STAT_FAULT, fieldKey 0x2 Hdr.FLT_STAT_FAULT,
    fieldKey bwPage Breakwater.BW_STAT_ERR_DRIVEN, fieldKey bwPage Breakwater.BW_STAT_ERR_BALL, fieldKey bwPage Breakwater.BW_STAT_TOG_RUNNING]

/-- What no chip reset leaves anything of, and the commands that wait. -/
def State.flows (s : State) : List HalfFrame × TideSt × CommitSt × List Instr := (s.frames, s.tide, s.commit, s.pending)

theorem State.trainPort_keeps (s : State) (n : Nat) : (s.trainPort n).flows = s.flows ∧ WritesIn leavePlace s (s.trainPort n) := by
  unfold State.trainPort
  split
  · exact ⟨rfl, WritesIn.refl _ s⟩
  · unfold State.pcPut
    refine ⟨foldl_keeps (v := State.flows) (f := fun s i => s.put (pcPage i 0) Pcie.PCIE_STAT_LTSSM 1) (fun _ _ => rfl) _ s, (WritesIn.refl _ s).foldl fun t i _ h => h.put _ (Or.inl ?_)⟩
    have := le_pcPage i 0
    unfold fieldKey
    omega

/-- The places that driving ERR_N writes. -/
def errPlaces : List Nat :=
  [fieldKey bwPage Breakwater.BW_STAT_ERR_DRIVEN, fieldKey bwPage Breakwater.BW_STAT_ERR_BALL, fieldKey bwPage Breakwater.BW_STAT_TOG_RUNNING]

theorem leavePlace_of_err {k : Nat} (h : k ∈ errPlaces) : leavePlace k := by
  refine Or.inr ?_
  simp only [errPlaces, List.mem_cons, List.not_mem_nil, or_false] at h ⊢
  tauto

theorem State.driveErr_keeps (s : State) : s.driveErr.flows = s.flows ∧ s.driveErr.power = s.power ∧ s.driveErr.harbours = s.harbours ∧
    s.driveErr.flag bwPage Breakwater.BW_STAT_ERR_DRIVEN = true ∧ WritesIn (· ∈ errPlaces) s s.driveErr := by
  unfold State.driveErr
  split
  · next h => exact ⟨rfl, rfl, rfl, h, WritesIn.refl _ s⟩
  · extract_lets u
    have hu : WritesIn (· ∈ errPlaces) s u := ((WritesIn.refl _ s).put _ (by simp [errPlaces])).put _ (by simp [errPlaces])
    have hw : WritesIn (· ∈ errPlaces) s (u.put bwPage Breakwater.BW_STAT_TOG_RUNNING (bit (({ u with fault := { u.fault with errSince := u.time.c } } : State).togRuns))) :=
      hu.put _ (by simp [errPlaces])
    have hflag : (u.put bwPage Breakwater.BW_STAT_TOG_RUNNING
        (bit (({ u with fault := { u.fault with errSince := u.time.c } } : State).togRuns))).flag bwPage Breakwater.BW_STAT_ERR_DRIVEN = true := by
      rw [State.flag_put_other _ _ (by decide), State.flag_put_other _ _ (by decide)]
      exact State.flag_put_one ..
    unfold State.judgeTog
    extract_lets on v
    split <;> exact ⟨rfl, rfl, rfl, hflag, hw⟩

/-- The core has left reset, and the host ports may train; domains are still to be switched. -/
def State.left (s : State) : State :=
  let s := s.outOfReset
  let s := (s.put 0x0 Chip.CHIP_CFG_HOST_MODE (bit Config.hmodeStrap)).put 0x8 Chip.BOOT_STAT_HMODE (bit Config.hmodeStrap)
  let s := s.cond 0x0 0 (s.flag 0x0 Chip.CHIP_CFG_FUSE_ERR)
  let s := s.cond 0x2 4 (s.flag 0x7 Chip.RST_CAUSE_SEQ_ERR)
  let s := if s.terminal || s.factory then s.driveErr else s
  (s.trainPort 0).trainPort 1

theorem State.leaveReset_of_free {s : State} (h : (s.power.por || s.power.pinLow || s.power.held) = false) : s.leaveReset = s.left.pumpPower := by
  unfold State.leaveReset State.left State.outOfReset
  rw [if_neg (by simp [h])]

theorem State.leaveReset_of_bound {s : State} (h : (s.power.por || s.power.pinLow || s.power.held) = true) : s.leaveReset = s := by
  rw [State.leaveReset, if_pos h]

theorem State.left_keeps (s : State) : s.left.flows = s.flows ∧ WritesIn leavePlace s s.left ∧
    s.left.get 0x0 Chip.CHIP_CFG_HOST_MODE = bit Config.hmodeStrap ∧
    (s.flag bwPage Breakwater.BW_STAT_ERR_DRIVEN = true → s.left.flag bwPage Breakwater.BW_STAT_ERR_DRIVEN = true) := by
  let u := (s.outOfReset.put 0x0 Chip.CHIP_CFG_HOST_MODE (bit Config.hmodeStrap)).put 0x8 Chip.BOOT_STAT_HMODE (bit Config.hmodeStrap)
  let v := (u.cond 0x0 0 (u.flag 0x0 Chip.CHIP_CFG_FUSE_ERR)).cond 0x2 4 ((u.cond 0x0 0 (u.flag 0x0 Chip.CHIP_CFG_FUSE_ERR)).flag 0x7 Chip.RST_CAUSE_SEQ_ERR)
  let w := if v.terminal || v.factory then v.driveErr else v
  have hleft : s.left = (w.trainPort 0).trainPort 1 := rfl
  have hv : WritesIn leavePlace s v :=
    (((((WritesIn.refl leavePlace s).regs (u := s.outOfReset) rfl).put _ (Or.inr (by simp))).put _ (Or.inr (by simp))).cond (Or.inr (by simp))).cond
      (Or.inr (by simp))
  have hvflows : v.flows = s.flows := by
    simp only [v, State.flows, State.cond_frames, State.cond_tide, State.cond_commit, State.cond_pending]
    rfl
  have hvmode : v.get 0x0 Chip.CHIP_CFG_HOST_MODE = bit Config.hmodeStrap := by
    rw [State.get_cond_other _ _ _ (by decide), State.get_cond_other _ _ _ (by decide), State.get_put_other _ _ (by decide), State.get_put_same,
      Field.bit_mod_size]
  have hverr : v.get bwPage Breakwater.BW_STAT_ERR_DRIVEN = s.get bwPage Breakwater.BW_STAT_ERR_DRIVEN := by
    rw [State.get_cond_other _ _ _ (by decide), State.get_cond_other _ _ _ (by decide), State.get_put_other _ _ (by decide),
      State.get_put_other _ _ (by decide)]
    rfl
  have hw : w.flows = v.flows ∧ WritesIn leavePlace v w ∧ w.get 0x0 Chip.CHIP_CFG_HOST_MODE = v.get 0x0 Chip.CHIP_CFG_HOST_MODE ∧
      (v.flag bwPage Breakwater.BW_STAT_ERR_DRIVEN = true → w.flag bwPage Breakwater.BW_STAT_ERR_DRIVEN = true) := by
    unfold w
    split
    · obtain ⟨h1, -, -, h3, h2⟩ := v.driveErr_keeps
      exact ⟨h1, h2.mono fun _ => leavePlace_of_err, h2.get (by decide), fun _ => h3⟩
    · exact ⟨rfl, WritesIn.refl _ v, rfl, id⟩
  obtain ⟨a1, a2⟩ := w.trainPort_keeps 0
  obtain ⟨b1, b2⟩ := (w.trainPort 0).trainPort_keeps 1
  rw [hleft]
  refine ⟨b1.trans (a1.trans (hw.1.trans hvflows)), hv.trans (hw.2.1.trans (a2.trans b2)), ?_, fun h => ?_⟩
  · rw [State.get_of_inner (State.inner_trainPort _ _) (by decide), State.get_of_inner (State.inner_trainPort _ _) (by decide), hw.2.2.1, hvmode]
  · rw [State.flag_of_inner (State.inner_trainPort _ _) (by decide), State.flag_of_inner (State.inner_trainPort _ _) (by decide)]
    exact hw.2.2.2 ((State.flag_congr s hverr).trans h)

theorem State.leaveReset_keeps {s : State} (h : s.onlyAlwaysOn) : s.leaveReset.flows = s.flows ∧ WritesIn leavePlace s s.leaveReset := by
  by_cases hb : (s.power.por || s.power.pinLow || s.power.held) = true
  · rw [State.leaveReset_of_bound hb]
    exact ⟨rfl, WritesIn.refl _ s⟩
  · obtain ⟨h1, h2, -, -⟩ := s.left_keeps
    have hleft : s.left.onlyAlwaysOn := by
      intro d hd hoff
      refine (State.flag_congr s (h2.get ?_)).trans (h d hd hoff)
      have hlist : ∀ d < 96, ¬ (0x50 * 0x8000 ≤ fieldKey 0x3 (Chip.PD_CTRL_ACK.nth d)) ∧ fieldKey 0x3 (Chip.PD_CTRL_ACK.nth d) ∉
          [fieldKey 0x0 Chip.CHIP_CFG_HOST_MODE, fieldKey 0x8 Chip.BOOT_STAT_HMODE, fieldKey 0x0 Hdr.FLT_STAT_FAULT, fieldKey 0x2 Hdr.FLT_STAT_FAULT,
            fieldKey bwPage Breakwater.BW_STAT_ERR_DRIVEN, fieldKey bwPage Breakwater.BW_STAT_ERR_BALL,
            fieldKey bwPage Breakwater.BW_STAT_TOG_RUNNING] := by decide
      exact not_or.mpr (hlist d hd)
    rw [State.leaveReset_of_free (by simpa using hb)]
    generalize s.left = l at h1 h2 hleft
    obtain ⟨p, hp⟩ := State.pumpPower_of_onlyAlwaysOn hleft
    rw [hp]
    exact ⟨h1, h2⟩

/-- RESET_N keeps the core in reset no longer: what of the power outlives its leaving. -/
theorem State.pinLow_leaveReset (s : State) : s.leaveReset.power.pinLow = s.power.pinLow := by
  by_cases hb : (s.power.por || s.power.pinLow || s.power.held) = true
  · rw [State.leaveReset_of_bound hb]
  · have hleft : s.left.power.pinLow = s.power.pinLow := by
      have hdrive : ∀ (t : State) (c : Bool), (if c then t.driveErr else t).power = t.power := by
        intro t c
        cases c
        · rfl
        · exact t.driveErr_keeps.2.1
      have htrain : ∀ (t : State) n, (t.trainPort n).power = t.power := fun t n => congrArg Inner.power (State.inner_trainPort t n)
      simp only [State.left, htrain, hdrive, State.cond_power]
      rfl
    rw [State.leaveReset_of_free (by simpa using hb)]
    generalize s.left = l at hleft
    exact (congrArg (fun i : Inner => i.power.pinLow) l.spine_pumpPower).trans hleft

/-! ## What a chip reset records -/

/-- The places that the record of causes is written to. -/
def recordPlaces : List Nat :=
  ([1, 2, 3, 4, 5, 6].map fun c => fieldKey 0x7 (causeField c)) ++ [fieldKey 0x7 Chip.RST_LAST_CAUSE, fieldKey 0x7 Chip.RST_LAST_LP,
    fieldKey bwPage Breakwater.BW_RESET_SRC_VALID, fieldKey bwPage Breakwater.BW_RESET_SRC_SEV, fieldKey bwPage Breakwater.BW_RESET_SRC_SOURCE]

theorem causeField_mem (c : Nat) : fieldKey 0x7 (causeField c) ∈ recordPlaces := by
  have hsix : ∃ d ∈ [1, 2, 3, 4, 5, 6], causeField c = causeField d := by
    unfold causeField
    split
    · exact ⟨1, by decide, rfl⟩
    · exact ⟨2, by decide, rfl⟩
    · exact ⟨3, by decide, rfl⟩
    · exact ⟨4, by decide, rfl⟩
    · exact ⟨5, by decide, rfl⟩
    · exact ⟨6, by decide, rfl⟩
  obtain ⟨d, hd, h⟩ := hsix
  rw [h]
  exact List.mem_append_left _ (List.mem_map_of_mem hd)

theorem State.recordCauses_writes (s : State) (l : List Nat) (b : Option (Nat × Nat)) : WritesIn (· ∈ recordPlaces) s (s.recordCauses l b) := by
  unfold State.recordCauses
  extract_lets last s₁ s₂ s₃
  have h₁ : WritesIn (· ∈ recordPlaces) s s₁ := (WritesIn.refl _ s).foldl fun t c _ h => h.put _ (causeField_mem c)
  have h₃ : WritesIn (· ∈ recordPlaces) s s₃ := (h₁.put _ (by decide)).put _ (by decide)
  split
  · exact h₃
  · exact ((h₃.put _ (by decide)).put _ (by decide)).put _ (by decide)

theorem State.recordCauses_pending (s : State) (l : List Nat) (b : Option (Nat × Nat)) : (s.recordCauses l b).pending = s.pending := by
  unfold State.recordCauses
  extract_lets last s₁ s₂ s₃
  have h₁ : s₁.pending = s.pending := foldl_keeps (v := State.pending) (f := fun (s : State) c => s.put 0x7 (causeField c) 1) (fun _ _ => rfl) l s
  split <;> exact h₁

/-- A cause that was recorded before stays recorded. -/
theorem flag_causes (l : List Nat) (s : State) {f : Field} (h : s.flag 0x7 f = true) :
    (l.foldl (fun (s : State) c => s.put 0x7 (causeField c) 1) s).flag 0x7 f = true := by
  induction l generalizing s with
  | nil => exact h
  | cons c l ih =>
    refine ih _ ?_
    rw [State.flag, State.get_put, causeField_size]
    split
    · rfl
    · exact h

theorem foldl_min_eq {l : List Nat} {c : Nat} (hmem : c ∈ l) (hle : ∀ d ∈ l, c ≤ d) (h7 : c ≤ 7) : l.foldl min 7 = c := by
  have h : (7 :: l).min? = some c := List.min?_eq_some_iff.mpr ⟨List.mem_cons_of_mem _ hmem, fun d hd => (List.mem_cons.mp hd).elim (· ▸ h7) (hle d)⟩
  rw [List.min?_cons'] at h
  exact Option.some.inj h

theorem State.recordCauses_last (s : State) {l : List Nat} (b : Option (Nat × Nat)) {c : Nat} (hmem : c ∈ l) (hle : ∀ d ∈ l, c ≤ d) (h6 : c ≤ 6) :
    (s.recordCauses l b).get 0x7 Chip.RST_LAST_CAUSE = c := by
  unfold State.recordCauses
  extract_lets last s₁ s₂ s₃
  have h₃ : s₃.get 0x7 Chip.RST_LAST_CAUSE = c := by
    rw [State.get_put_other _ _ (by decide), State.get_put_same]
    simp only [last, foldl_min_eq hmem hle (by omega)]
    exact Nat.mod_eq_of_lt (lt_of_le_of_lt h6 (by decide))
  split
  · exact h₃
  · rw [State.get_put_other _ _ (by decide), State.get_put_other _ _ (by decide), State.get_put_other _ _ (by decide), h₃]

/-- The fields of RST_CAUSE. -/
def causeFields : List Field := [Chip.RST_CAUSE_POR, Chip.RST_CAUSE_UV, Chip.RST_CAUSE_PIN, Chip.RST_CAUSE_WATCHDOG, Chip.RST_CAUSE_BREAKWATER,
  Chip.RST_CAUSE_SOFTWARE, Chip.RST_CAUSE_SEQ_ERR]

theorem causeField_mem_fields (c : Nat) : causeField c ∈ causeFields := by
  unfold causeField causeFields
  split <;> simp

theorem State.recordCauses_flags (s : State) (l : List Nat) (b : Option (Nat × Nat)) {f : Field} (hf : f ∈ causeFields) :
    (s.flag 0x7 f = true → (s.recordCauses l b).flag 0x7 f = true) ∧ ∀ d ∈ l, f = causeField d → (s.recordCauses l b).flag 0x7 f = true := by
  have hrest : (s.recordCauses l b).get 0x7 f = (l.foldl (fun (s : State) c => s.put 0x7 (causeField c) 1) s).get 0x7 f := by
    unfold State.recordCauses
    extract_lets last s₁ s₂ s₃
    have hne : ∀ f ∈ causeFields, fieldKey 0x7 Chip.RST_LAST_LP ≠ fieldKey 0x7 f ∧ fieldKey 0x7 Chip.RST_LAST_CAUSE ≠ fieldKey 0x7 f ∧
        fieldKey bwPage Breakwater.BW_RESET_SRC_VALID ≠ fieldKey 0x7 f ∧ fieldKey bwPage Breakwater.BW_RESET_SRC_SEV ≠ fieldKey 0x7 f ∧
        fieldKey bwPage Breakwater.BW_RESET_SRC_SOURCE ≠ fieldKey 0x7 f := by decide
    obtain ⟨h1, h2, h3, h4, h5⟩ := hne f hf
    have h₃ : s₃.get 0x7 f = s₁.get 0x7 f := by
      rw [State.get_put_other _ _ h1, State.get_put_other _ _ h2]
    split
    · exact h₃
    · rw [State.get_put_other _ _ h5, State.get_put_other _ _ h4, State.get_put_other _ _ h3, h₃]
  rw [State.flag_congr _ hrest]
  refine ⟨flag_causes l s, fun d hd hfd => ?_⟩
  rw [hfd, State.flag, get_causes l s (.inl hd)]
  rfl

/-! ## The state of a chip reset -/

theorem State.resetRecorded_keeps (s : State) : WritesIn (· ∈ recordPlaces) s s.resetRecorded ∧ s.resetRecorded.pending = s.pending ∧
    s.resetRecorded.power.por = s.power.por ∧ s.resetRecorded.power.pinLow = s.power.pinLow ∧ s.resetRecorded.power.held = s.power.held := by
  let u : State := { s with power := { s.power with
    tripped := s.power.tripped || s.causesDue.contains 5 && s.power.resetBy.any (fun (e : Nat × Nat) => e.1 == 17) } }
  have hw : WritesIn (· ∈ recordPlaces) s u := WritesIn.refl _ s
  have hpower : s.resetRecorded.power = u.power := power_recordCauses u s.causesDue s.power.resetBy
  refine ⟨hw.trans (u.recordCauses_writes _ _), u.recordCauses_pending _ _, ?_⟩
  rw [hpower]
  exact ⟨rfl, rfl, rfl⟩

theorem SMap.get_filter_dropped {α : Type} (d : Nat → α) (m : SMap α) {p : Nat → Bool} {k : Nat} (h : p k = false) :
    SMap.get d (m.filter fun e => p e.1) k = d k := by
  induction m with
  | nil => rfl
  | cons e r ih =>
    by_cases hk : e.1 = k
    · simp [hk, h, ih]
    · cases he : p e.1 <;> simp [he, hk, ih, SMap.get]

/-- A place that is not retained is at its reset value. -/
theorem regs_cleared_other (s : State) {k : Nat} (h : k ∉ retainedFields.map fun r => fieldKey r.1 r.2) :
    SMap.get resetField s.cleared.regs k = resetField k := by
  have hno : (retainedFields.any fun r => fieldKey r.1 r.2 == k) = false := by
    rw [List.any_eq_false]
    intro r hr heq
    exact h (List.mem_map.mpr ⟨r, hr, by simpa using heq⟩)
  exact SMap.get_filter_dropped (p := fun k => retainedFields.any fun r => fieldKey r.1 r.2 == k) resetField s.regs hno

/-- The places that a chip reset writes after all else is at its reset value. -/
def resetPlaces : List Nat := [fieldKey 0x7 Chip.RST_COUNT_COUNT, fieldKey 0x0 Chip.CHIP_CFG_FUSE_ERR]

theorem State.resetDone_writes (s : State) (fuseBad : Bool) :
    WritesIn (fun k => k ∈ resetPlaces ∨ k ∈ errPlaces) s.resetRecorded.cleared (s.resetDone fuseBad) ∧
    (s.resetDone fuseBad).flows = s.resetRecorded.cleared.flows ∧ (s.resetDone fuseBad).power = s.resetRecorded.cleared.power ∧
    (s.resetDone fuseBad).harbours = s.resetRecorded.cleared.harbours ∧
    (s.resetDone fuseBad).flag 0x0 Chip.CHIP_CFG_FUSE_ERR = fuseBad ∧
    (s.resetDone fuseBad).get 0x7 Chip.RST_COUNT_COUNT = min (s.resetRecorded.cleared.get 0x7 Chip.RST_COUNT_COUNT + 1) (2 ^ 32 - 1) ∧
    (s.resetRecorded.cleared.terminal = false → WritesIn (· ∈ resetPlaces) s.resetRecorded.cleared (s.resetDone fuseBad)) ∧
    (s.resetRecorded.cleared.terminal = true → (s.resetDone fuseBad).flag bwPage Breakwater.BW_STAT_ERR_DRIVEN = true) := by
  let c := s.resetRecorded.cleared
  let u := (c.countSat 0x7 Chip.RST_COUNT_COUNT).put 0x0 Chip.CHIP_CFG_FUSE_ERR (bit fuseBad)
  have hdone : s.resetDone fuseBad = if u.terminal then u.driveErr else u := rfl
  have hu : WritesIn (· ∈ resetPlaces) c u := ((WritesIn.refl _ c).countSat (by decide)).put _ (by decide)
  have hterm : u.terminal = c.terminal := State.flag_congr c (hu.get (by decide))
  have hfuse : u.flag 0x0 Chip.CHIP_CFG_FUSE_ERR = fuseBad := State.flag_put_bit ..
  have hcount : u.get 0x7 Chip.RST_COUNT_COUNT = min (c.get 0x7 Chip.RST_COUNT_COUNT + 1) (2 ^ 32 - 1) := by
    rw [State.get_put_other _ _ (by decide), State.get_countSat_same]
    rfl
  rw [hdone, hterm]
  cases ht : c.terminal with
  | false =>
    exact ⟨hu.mono fun _ => Or.inl, rfl, rfl, rfl, hfuse, hcount, fun _ => hu, nofun⟩
  | true =>
    obtain ⟨h1, h2, h3, h4, h5⟩ := u.driveErr_keeps
    exact ⟨(hu.mono fun _ => Or.inl).trans (h5.mono fun _ => Or.inr), h1, h2, h3, (State.flag_congr u (h5.get (by decide))).trans hfuse,
      (h5.get (by decide)).trans hcount, nofun, fun _ => h4⟩

theorem State.resetDone_onlyAlwaysOn (s : State) (fuseBad : Bool) : (s.resetDone fuseBad).onlyAlwaysOn := by
  intro d hd hoff
  obtain ⟨hw, -⟩ := s.resetDone_writes fuseBad
  have hplace : ∀ d < 96, d ∉ alwaysOn → fieldKey 0x3 (Chip.PD_CTRL_ACK.nth d) ∉ resetPlaces ∧ fieldKey 0x3 (Chip.PD_CTRL_ACK.nth d) ∉ errPlaces ∧
      (fieldKey 0x3 (Chip.PD_CTRL_ACK.nth d) ∉ retainedFields.map fun r => fieldKey r.1 r.2) ∧
      resetField (fieldKey 0x3 (Chip.PD_CTRL_ACK.nth d)) = 0 := by decide +kernel
  obtain ⟨h1, h2, h3, h4⟩ := hplace d hd hoff
  have hget : (s.resetDone fuseBad).get 0x3 (Chip.PD_CTRL_ACK.nth d) = 0 := by
    rw [hw.get (not_or.mpr ⟨h1, h2⟩), State.get, regs_cleared_other _ h3, h4]
  rw [State.powered, State.flag, hget]
  rfl

/-- A field that is retained and that no later part of a chip reset writes reads as the record of causes left it. -/
theorem get_afterReset (s : State) (fuseBad : Bool) {pg : Nat} {f : Field} (hkept : (pg, f) ∈ retainedFields) (hreset : fieldKey pg f ∉ resetPlaces)
    (hleave : ¬ leavePlace (fieldKey pg f)) : (s.resetDone fuseBad).leaveReset.get pg f = s.resetRecorded.get pg f := by
  obtain ⟨hw, -⟩ := s.resetDone_writes fuseBad
  rw [(State.leaveReset_keeps (s.resetDone_onlyAlwaysOn fuseBad)).2.get hleave,
    hw.get (not_or.mpr ⟨hreset, fun h => hleave (leavePlace_of_err h)⟩), get_cleared _ hkept]

theorem chipReset_completes (fuseBad : Bool) (s : State) (c : Nat) (hc : Due.chipReset c ∈ s.due) (h6 : c ≤ 6) (hle : ∀ d, Due.chipReset d ∈ s.due → c ≤ d) :
    Completes (.chipReset fuseBad) s fun t =>
      t.get 0x7 Chip.RST_COUNT_COUNT = min (s.get 0x7 Chip.RST_COUNT_COUNT + 1) (2 ^ 32 - 1) ∧ t.terminal = s.terminal ∧
      t.get 0x7 Chip.RST_LAST_CAUSE = c ∧ (∀ d, Due.chipReset d ∈ s.due → t.flag 0x7 (causeField d) = true) ∧
      (∀ f ∈ [Chip.RST_CAUSE_POR, Chip.RST_CAUSE_UV, Chip.RST_CAUSE_PIN, Chip.RST_CAUSE_WATCHDOG, Chip.RST_CAUSE_BREAKWATER,
          Chip.RST_CAUSE_SOFTWARE, Chip.RST_CAUSE_SEQ_ERR], s.flag 0x7 f = true → t.flag 0x7 f = true) ∧
      t.get 0x7 Chip.RST_UV_RAIL_RAIL = s.get 0x7 Chip.RST_UV_RAIL_RAIL ∧ t.flag 0x8 Chip.BOOT_NEXT_NEXT_B = s.flag 0x8 Chip.BOOT_NEXT_NEXT_B ∧
      t.flag 0x0 Chip.CHIP_CFG_FUSE_ERR = fuseBad ∧ t.frames = [] ∧ t.tide = State.reset.tide ∧ t.commit = State.reset.commit ∧
      t.pending = s.pending ∧ (∀ h pa, t.memByte h pa = State.reset.memByte h pa) ∧
      (s.power.por = true ∨ s.power.pinLow = true ∨ s.power.held = true → t.power.inReset = true ∧
        (s.terminal = false → ∀ k, k ≠ fieldKey 0x0 Chip.CHIP_CFG_FUSE_ERR → k ∉ retainedFields.map (fun r => fieldKey r.1 r.2) →
          SMap.get resetField t.regs k = resetField k)) ∧
      (s.power.por = false → s.power.pinLow = false → s.power.held = false → t.power.inReset = false ∧ t.x16 = !Config.hmodeStrap) ∧
      (s.terminal = true → t.flag bwPage Breakwater.BW_STAT_ERR_DRIVEN = true) := by
  obtain ⟨hrec, hpending, hpor, hpin, hheld⟩ := s.resetRecorded_keeps
  obtain ⟨hw, hflows, hpower, hharb, hfuse, hcount, hquiet, herr⟩ := s.resetDone_writes fuseBad
  obtain ⟨lflows, lw⟩ := State.leaveReset_keeps (s.resetDone_onlyAlwaysOn fuseBad)
  have hterm : s.resetRecorded.cleared.terminal = s.terminal :=
    State.flag_congr s ((get_cleared _ (by simp [retainedFields])).trans (hrec.get (by decide)))
  have hkept := (s.resetDone fuseBad).kept_leaveReset
  have hnotleave : ∀ pg (f : Field), pg < 0x50 → f.place < 0x8000 → fieldKey pg f ∉
      [fieldKey 0x0 Chip.CHIP_CFG_HOST_MODE, fieldKey 0x8 Chip.BOOT_STAT_HMODE, fieldKey 0x0 Hdr.FLT_STAT_FAULT, fieldKey 0x2 Hdr.FLT_STAT_FAULT,
        fieldKey bwPage Breakwater.BW_STAT_ERR_DRIVEN, fieldKey bwPage Breakwater.BW_STAT_ERR_BALL, fieldKey bwPage Breakwater.BW_STAT_TOG_RUNNING] →
      ¬ leavePlace (fieldKey pg f) := by
    intro pg f hpg hf hk
    refine not_or.mpr ⟨?_, hk⟩
    unfold Field.place at hf
    unfold fieldKey
    omega
  have hcause : ∀ f ∈ causeFields, (s.resetDone fuseBad).leaveReset.flag 0x7 f = s.resetRecorded.flag 0x7 f := by
    intro f hf
    have hall : ∀ f ∈ causeFields, (0x7, f) ∈ retainedFields ∧ fieldKey 0x7 f ∉ resetPlaces ∧ f.place < 0x8000 ∧ fieldKey 0x7 f ∉
      [fieldKey 0x0 Chip.CHIP_CFG_HOST_MODE, fieldKey 0x8 Chip.BOOT_STAT_HMODE, fieldKey 0x0 Hdr.FLT_STAT_FAULT, fieldKey 0x2 Hdr.FLT_STAT_FAULT,
        fieldKey bwPage Breakwater.BW_STAT_ERR_DRIVEN, fieldKey bwPage Breakwater.BW_STAT_ERR_BALL, fieldKey bwPage Breakwater.BW_STAT_TOG_RUNNING] := by
      decide
    obtain ⟨h1, h2, h3, h4⟩ := hall f hf
    exact State.flag_congr _ (get_afterReset s fuseBad h1 h2 (hnotleave _ _ (by decide) h3 h4))
  have hflags := fun f (hf : f ∈ causeFields) =>
    State.recordCauses_flags ({ s with power := { s.power with
      tripped := s.power.tripped || s.causesDue.contains 5 && s.power.resetBy.any (fun (e : Nat × Nat) => e.1 == 17) } }) s.causesDue s.power.resetBy hf
  refine ⟨_, exec_chipReset fuseBad hc, ?count, ?terminal, ?last, fun d hd => ?due, fun f hf h => ?before, ?rail, ?boot, ?fuse, ?frames, ?tide, ?commit,
    ?pending, fun h pa => ?memory, fun hbound => ⟨?inReset, fun hno k hk hret => ?regs⟩, fun h1 h2 h3 => ⟨?out, ?mode⟩, fun h => ?err⟩
  case count =>
    rw [lw.get (hnotleave _ _ (by decide) (by decide) (by decide)), hcount, get_cleared _ (by simp [retainedFields]), hrec.get (by decide)]
  case terminal =>
    refine State.flag_congr s ((get_afterReset s fuseBad (by simp [retainedFields]) (by decide)
      (hnotleave _ _ (by decide) (by decide) (by decide))).trans (hrec.get (by decide)))
  case last =>
    rw [get_afterReset s fuseBad (by simp [retainedFields]) (by decide) (hnotleave _ _ (by decide) (by decide) (by decide))]
    exact State.recordCauses_last _ _ ((mem_causesDue s c).mpr hc) (fun d hd => hle d ((mem_causesDue s d).mp hd)) h6
  case due =>
    rw [hcause _ (causeField_mem_fields d)]
    exact (hflags _ (causeField_mem_fields d)).2 d ((mem_causesDue s d).mpr hd) rfl
  case before =>
    rw [hcause f hf]
    exact (hflags f hf).1 h
  case rail =>
    rw [get_afterReset s fuseBad (by simp [retainedFields]) (by decide) (hnotleave _ _ (by decide) (by decide) (by decide)), hrec.get (by decide)]
  case boot =>
    refine State.flag_congr s ((get_afterReset s fuseBad (by simp [retainedFields]) (by decide)
      (hnotleave _ _ (by decide) (by decide) (by decide))).trans (hrec.get (by decide)))
  case fuse => rw [State.flag_congr _ (lw.get (hnotleave _ _ (by decide) (by decide) (by decide))), hfuse]
  case frames => exact congrArg Prod.fst (lflows.trans hflows)
  case tide => exact congrArg (fun x => x.2.1) (lflows.trans hflows)
  case commit => exact congrArg (fun x => x.2.2.1) (lflows.trans hflows)
  case pending => exact (congrArg (fun x => x.2.2.2) (lflows.trans hflows)).trans hpending
  case memory =>
    have hmem : ((s.resetDone fuseBad).leaveReset.harb h).mem = ((s.resetDone fuseBad).harb h).mem := congrFun (congrArg Kept.memory hkept) h
    rw [State.memByte, hmem, State.harb, hharb]
    rfl
  case inReset =>
    refine (congrArg Kept.inReset hkept).trans ?_
    have hb : ((s.resetDone fuseBad).power.por || (s.resetDone fuseBad).power.pinLow || (s.resetDone fuseBad).power.held) = true := by
      rw [hpower]
      show (s.resetRecorded.power.por || s.resetRecorded.power.pinLow || s.resetRecorded.power.held) = true
      rw [hpor, hpin, hheld]
      simpa [or_assoc] using hbound
    show ((s.resetDone fuseBad).power.inReset && _) = true
    rw [hb, (resetDone_held s fuseBad).2]
    rfl
  case regs =>
    have hb : ((s.resetDone fuseBad).power.por || (s.resetDone fuseBad).power.pinLow || (s.resetDone fuseBad).power.held) = true := by
      rw [hpower]
      show (s.resetRecorded.power.por || s.resetRecorded.power.pinLow || s.resetRecorded.power.held) = true
      rw [hpor, hpin, hheld]
      simpa [or_assoc] using hbound
    rw [State.leaveReset_of_bound hb, hquiet (hterm.trans hno) k ?_, regs_cleared_other _ hret]
    intro hk'
    simp only [resetPlaces, List.mem_cons, List.not_mem_nil, or_false] at hk'
    rcases hk' with rfl | rfl
    · exact hret (List.mem_map.mpr ⟨(0x7, Chip.RST_COUNT_COUNT), by simp [retainedFields], rfl⟩)
    · exact hk rfl
  case out =>
    refine (congrArg Kept.inReset hkept).trans ?_
    show ((s.resetDone fuseBad).power.inReset && ((s.resetDone fuseBad).power.por || (s.resetDone fuseBad).power.pinLow || (s.resetDone fuseBad).power.held)) = false
    rw [hpower]
    show (_ && (s.resetRecorded.power.por || s.resetRecorded.power.pinLow || s.resetRecorded.power.held)) = false
    rw [hpor, hpin, hheld, h1, h2, h3]
    rfl
  case mode =>
    have hfree : ((s.resetDone fuseBad).power.por || (s.resetDone fuseBad).power.pinLow || (s.resetDone fuseBad).power.held) = false := by
      rw [hpower]
      show (s.resetRecorded.power.por || s.resetRecorded.power.pinLow || s.resetRecorded.power.held) = false
      rw [hpor, hpin, hheld, h1, h2, h3]
      rfl
    rw [State.x16, State.leaveReset_of_free hfree, State.get_of_spine (State.spine_pumpPower _) (by decide) (by decide), (State.left_keeps _).2.2.1]
    cases Config.hmodeStrap <;> rfl
  case err =>
    have hdriven := herr (hterm.trans h)
    by_cases hb : ((s.resetDone fuseBad).power.por || (s.resetDone fuseBad).power.pinLow || (s.resetDone fuseBad).power.held) = true
    · rw [State.leaveReset_of_bound hb, hdriven]
    · rw [State.leaveReset_of_free (by simpa using hb), State.flag_of_spine (State.spine_pumpPower _) (by decide) (by decide)]
      exact (State.left_keeps _).2.2.2 hdriven

/-- RESET_N is low: a reset by it is to come, in place of a software reset that is due. -/
def State.pinFallen (s : State) : State :=
  { s with due := s.due.filter (fun d => d != Due.chipReset 6) ++ [.chipReset 3], power := { s.power with pinLow := true } }

/-- Settles O58. -/
theorem chipResetsStartAndEnd : Obligations.ChipResetsStartAndEnd := by
  refine ⟨fun s => ?low, fun s => ?rise, chipReset_completes, fun fuseBad s hno => ?none⟩
  case low =>
    have hmem : ∀ t, exec .pinReset s = .next t → SameMemory s t := fun t ht =>
      SameMemory.of_exec ht (by rw [exec]; exact answers_pinReset (Quiet.refl s))
    cases hp : s.power.pinLow with
    | true =>
      have ht : exec .pinReset s = .next s := by rw [exec, execPinReset, if_pos hp]
      exact ⟨_, ht, fun _ => rfl, nofun, rfl, rfl, hmem _ ht⟩
    | false =>
      have ht : exec .pinReset s = .next s.pinFallen := by
        rw [exec, execPinReset, if_neg (by simp [hp])]
        rfl
      exact ⟨_, ht, nofun, fun _ => ⟨rfl, rfl⟩, rfl, rfl, hmem _ ht⟩
  case rise =>
    have hmem : ∀ t, exec .resetNRise s = .next t → SameMemory s t := fun t ht =>
      SameMemory.of_exec ht (by rw [exec]; exact answers_resetNRise (Quiet.refl s))
    cases hp : s.power.pinLow with
    | false =>
      have ht : exec .resetNRise s = .next s := by rw [exec, execResetNRise, if_pos (by simp [hp])]
      exact ⟨_, ht, hp, fun _ => rfl, nofun, nofun, hmem _ ht⟩
    | true =>
      let u : State := { s with power := { s.power with pinLow := false } }
      have ht : exec .resetNRise s = .next (if s.power.inReset then u.leaveReset else u) := by
        rw [exec, execResetNRise, if_neg (by simp [hp])]
      have hlow : (if s.power.inReset then u.leaveReset else u).power.pinLow = false := by
        split
        · exact u.pinLow_leaveReset
        · rfl
      refine ⟨_, ht, hlow, nofun, fun _ h1 h2 => ?_, fun _ hbound => ?_, hmem _ ht⟩
      · split
        · refine (congrArg Kept.inReset u.kept_leaveReset).trans ?_
          show (s.power.inReset && (s.power.por || false || s.power.held)) = false
          rw [h1, h2, Bool.or_false, Bool.or_false, Bool.and_false]
        · next h => exact Bool.not_eq_true _ ▸ h
      · have hb : (u.power.por || u.power.pinLow || u.power.held) = true := by
          show (s.power.por || false || s.power.held) = true
          rw [Bool.or_false]
          simpa using hbound
        rw [State.leaveReset_of_bound hb, ite_self]
        exact ⟨rfl, rfl⟩
  case none =>
    have hempty : s.causesDue.isEmpty = true := by
      rw [List.isEmpty_iff, List.eq_nil_iff_forall_not_mem]
      exact fun c hc => hno c ((mem_causesDue s c).mp hc)
    exact ⟨s, by rw [exec, execChipReset, if_pos hempty], rfl⟩

end Sys2Proof.Machine
end

section
/-! PROOFS. What the end of operation of a lane's link leaves alone: the firm parts of the state.

A link that leaves operation marks a gap in its Inlet's flow, ends its Jetty transactions and drops its queued FSYNCs. Of the pages of the lanes it
writes only what it counts and shows of the link; the enable, the line monitor's class and hold, and the test's pattern stay. `State.firm` holds these. -/

namespace Sys2Proof.Machine

/-- The places of a lane's page that stay. -/
def firmPlaces : List Nat := [Hdr.CTRL_EN.place, Weatas.LM_STAT_CLASS.place, Weatas.LM_STAT_HOLD.place, Weatas.LINK_CTRL_TEST_PATTERN.place]

/-- Is it the page of a lane? -/
def lanePage (pg : Nat) : Bool := decide (0x100 ≤ pg) && decide (pg < 0x120)

/-- The firm registers: these places of the pages of lanes. -/
def firmKey (k : Nat) : Bool := lanePage (k / 0x8000) && firmPlaces.contains (k % 0x8000)

/-- What stays of the lanes: the firm registers, the event of a class change and the fault of the line's voltage. -/
structure Firm where
  fields : Nat → Nat
  changed : Nat → Bool
  undervolt : Nat → Bool

def State.firm (s : State) : Firm :=
  { fields := fun k => if firmKey k then SMap.get resetField s.regs k else 0
    changed := fun pg => lanePage pg && s.eventBit pg 6, undervolt := fun pg => lanePage pg && s.condBit pg 3 }

@[simp] theorem State.firm_ite (c : Prop) [Decidable c] (s t : State) : (if c then s else t).firm = if c then s.firm else t.firm :=
  apply_ite State.firm c s t

theorem State.firm_foldl {α : Type} {f : State → α → State} (h : ∀ s a, (f s a).firm = s.firm) (l : List α) (s : State) :
    (l.foldl f s).firm = s.firm := foldl_keeps h l s

/-! ## Stores -/

@[simp] theorem State.firm_emit (s : State) (o : Out) : (s.emit o).firm = s.firm := (rfl)
@[simp] theorem State.firm_owe (s : State) (d : Due) : (s.owe d).firm = s.firm := (rfl)
@[simp] theorem State.firm_putPort (s : State) (n : Nat) (x : PortSt) : (s.putPort n x).firm = s.firm := (rfl)
@[simp] theorem State.firm_putLane (s : State) (n : Nat) (x : LaneSt) : (s.putLane n x).firm = s.firm := (rfl)
@[simp] theorem State.firm_putSync (s : State) (n : Nat) (x : SyncSt) : (s.putSync n x).firm = s.firm := (rfl)
@[simp] theorem State.firm_putWindow (s : State) (n : Nat) (x : JettySt) : (s.putWindow n x).firm = s.firm := (rfl)
@[simp] theorem State.firm_putCh (s : State) (c : Nat) (x : ChannelSt) : (s.putCh c x).firm = s.firm := (rfl)
@[simp] theorem State.firm_putPc (s : State) (n : Nat) (x : PcieSt) : (s.putPc n x).firm = s.firm := (rfl)
@[simp] theorem State.firm_pausePoll (s : State) (n : Nat) : (s.pausePoll n).firm = s.firm := (rfl)

/-- A store at a place that is not firm and of no event register. -/
theorem State.firm_put_of_key (s : State) {pg : Nat} {f : Field} (v : Nat) (h : firmKey (fieldKey pg f) = false)
    (hev : ∀ q, lanePage q = true → fieldKey pg f ≠ fieldKey q Hdr.EVT_STAT_EVENT) : (s.put pg f v).firm = s.firm := by
  have hfields : (s.put pg f v).firm.fields = s.firm.fields := by
    funext k
    have hget : firmKey k = true → SMap.get resetField (s.put pg f v).regs k = SMap.get resetField s.regs k := fun hk =>
      SMap.get_set_other _ _ _ (by rintro rfl; rw [h] at hk; cases hk)
    simp only [State.firm]
    split
    · next hk => rw [hget hk]
    · rfl
  have hchanged : (s.put pg f v).firm.changed = s.firm.changed := by
    funext q
    show (lanePage q && (s.put pg f v).eventBit q 6) = (lanePage q && s.eventBit q 6)
    cases hq : lanePage q
    · rfl
    · rw [State.eventBit_put_other _ _ (hev q hq)]
  exact congrArg₂ (fun a b => { s.firm with fields := a, changed := b }) hfields hchanged

theorem lanePage_range {q : Nat} : lanePage q = true ↔ 0x100 ≤ q ∧ q < 0x120 := by simp [lanePage]

/-- A store of another unit: its page lies behind those of the lanes. -/
@[simp] theorem State.firm_put (s : State) {pg : Nat} (f : Field) (v : Nat) (h : 0x120 ≤ pg) : (s.put pg f v).firm = s.firm := by
  refine State.firm_put_of_key s v ?_ fun q hq => ?_
  · rw [firmKey, Bool.and_eq_false_iff, Bool.eq_false_iff, ne_eq, lanePage_range, fieldKey]
    omega
  · rw [lanePage_range] at hq
    simp only [fieldKey, Hdr.EVT_STAT_EVENT]
    omega

/-- A store of the chip or the Tidemark: its page lies before those of the lanes. -/
theorem State.firm_put_low (s : State) {pg : Nat} {f : Field} (v : Nat) (h : pg < 0x100) (hf : f.place < 0x8000) : (s.put pg f v).firm = s.firm := by
  unfold Field.place at hf
  refine State.firm_put_of_key s v ?_ fun q hq => ?_
  · rw [firmKey, Bool.and_eq_false_iff, Bool.eq_false_iff, ne_eq, lanePage_range, fieldKey]
    omega
  · rw [lanePage_range] at hq
    simp only [fieldKey, Hdr.EVT_STAT_EVENT]
    omega

/-- A field of a lane's page that is not firm. -/
def Field.loose (f : Field) : Bool := decide (f.place < 0x8000) && !firmPlaces.contains f.place && decide (f.place ≠ Hdr.EVT_STAT_EVENT.place)

theorem State.firm_putWe (s : State) (n : Nat) {f : Field} (v : Nat) (h : f.loose = true) : (s.put (wePage n) f v).firm = s.firm := by
  simp only [Field.loose, Bool.and_eq_true, decide_eq_true_eq, Bool.not_eq_true'] at h
  obtain ⟨⟨hlt, hfirm⟩, hev⟩ := h
  refine State.firm_put_of_key s v ?_ fun q _ heq => hev ?_
  · rw [firmKey, fieldKey_mod hlt, hfirm, Bool.and_false]
  · rw [← fieldKey_mod (pg := wePage n) hlt, heq, fieldKey_mod (by decide)]

/-- An event of a lane other than the change of its class. -/
theorem State.firm_event (s : State) (pg : Nat) {b : Nat} (h : b ≠ 6) : (s.event pg b).firm = s.firm := by
  have hfields : (s.event pg b).firm.fields = s.firm.fields := by
    funext k
    simp only [State.firm]
    split
    · next hk =>
      refine SMap.get_set_other _ _ _ ?_
      rintro rfl
      rw [firmKey, fieldKey_mod (by decide)] at hk
      revert hk
      rw [show firmPlaces.contains Hdr.EVT_STAT_EVENT.place = false by decide, Bool.and_false]
      exact Bool.false_ne_true
    · rfl
  have hchanged : (s.event pg b).firm.changed = s.firm.changed := by
    funext q
    show (lanePage q && (s.event pg b).eventBit q 6) = (lanePage q && s.eventBit q 6)
    by_cases hq : q = pg
    · subst hq
      rw [State.eventBit_event_of_page _ (by decide), decide_eq_false h, Bool.or_false]
    · rw [State.eventBit_congr s (State.get_event_other _ _ (fieldKey_page (by decide) (by decide) (Ne.symm hq)))]
  exact congrArg₂ (fun a b => { s.firm with fields := a, changed := b }) hfields hchanged

theorem State.firm_putMarks (s : State) {pg : Nat} {m : FltMarks} (h : lanePage pg = true → hasBit m.present 3 = s.condBit pg 3) :
    (s.putMarks pg m).firm = s.firm := by
  have hcond : (s.putMarks pg m).firm.undervolt = s.firm.undervolt := by
    funext q
    show (lanePage q && (s.putMarks pg m).condBit q 3) = (lanePage q && s.condBit q 3)
    cases hq : lanePage q
    · rfl
    · rw [State.condBit, State.marks_putMarks]
      split
      · next heq =>
        subst heq
        rw [h hq]
      · rfl
  exact congrArg (fun b => { s.firm with undervolt := b }) hcond

theorem State.firm_put_fault (s : State) (pg v : Nat) : (s.put pg Hdr.FLT_STAT_FAULT v).firm = s.firm := by
  refine State.firm_put_of_key s v ?_ fun q _ heq => ?_
  · rw [firmKey, fieldKey_mod (by decide), show firmPlaces.contains Hdr.FLT_STAT_FAULT.place = false by decide, Bool.and_false]
  · have := congrArg (· % 0x8000) heq
    simp only [fieldKey_mod (show Hdr.FLT_STAT_FAULT.place < 0x8000 by decide), fieldKey_mod (show Hdr.EVT_STAT_EVENT.place < 0x8000 by decide)] at this
    revert this
    decide

@[simp] theorem State.firm_occur (s : State) (pg b : Nat) : (s.occur pg b).firm = s.firm := s.firm_put_fault _ _

theorem State.firm_raise (s : State) {pg b : Nat} (h : lanePage pg = true → b ≠ 3) : (s.raise pg b).firm = s.firm := by
  simp only [State.raise, State.firm_ite, State.firm_occur]
  split
  · rfl
  · refine State.firm_putMarks s fun hl => ?_
    rw [hasBit_setBit, decide_eq_false (h hl), Bool.or_false]
    rfl

theorem State.firm_lower (s : State) {pg b : Nat} (h : lanePage pg = true → b ≠ 3) : (s.lower pg b).firm = s.firm := by
  unfold State.lower
  extract_lets m s₁
  have hs₁ : s₁.firm = s.firm := by
    refine State.firm_putMarks s fun hl => ?_
    rw [hasBit_clearBit, decide_eq_false (h hl), Bool.not_false, Bool.and_true]
    rfl
  split
  · split
    · refine (State.firm_putMarks _ ?present).trans ((State.firm_put_fault _ _ _).trans hs₁)
      case present =>
        intro _
        rfl
    · exact hs₁
  · rfl

theorem State.firm_condWe (s : State) (pg : Nat) {b : Nat} (p : Bool) (h : b ≠ 3) : (s.cond pg b p).firm = s.firm := by
  cases p with
  | true => exact s.firm_raise fun _ => h
  | false => exact s.firm_lower fun _ => h

/-! ## Stores of other units -/

@[simp] theorem le_firm_jtPage (n : Nat) : 0x120 ≤ jtPage n := by show 0x120 ≤ 0x200 + n; omega
@[simp] theorem le_firm_chPage (n : Nat) : 0x120 ≤ chPage n := by show 0x120 ≤ 0x1000 + n; omega
@[simp] theorem le_firm_pcPage (n p : Nat) : 0x120 ≤ pcPage n p := by show 0x120 ≤ 0x380 + 0x10 * n + p; omega

@[simp] theorem le_firm_inPage (n : Nat) : 0x120 ≤ inPage n := by
  show 0x120 ≤ if n < 32 then 0x140 + n else 0x150 + n
  split <;> omega

theorem lanePage_of_le {pg : Nat} (h : 0x120 ≤ pg) : lanePage pg = false := by
  rw [Bool.eq_false_iff, ne_eq, lanePage_range]
  omega

section
variable (s : State) {pg : Nat} (h : 0x120 ≤ pg)
include h

@[simp] theorem State.firm_countSat (f : Field) (n : Nat) : (s.countSat pg f n).firm = s.firm := State.firm_put s f _ h
@[simp] theorem State.firm_countWrap (f : Field) (n : Nat) : (s.countWrap pg f n).firm = s.firm := State.firm_put s f _ h
@[simp] theorem State.firm_putMax (f : Field) (v : Nat) : (s.putMax pg f v).firm = s.firm := State.firm_put s f _ h
@[simp] theorem State.firm_eventOf (b : Nat) : (s.event pg b).firm = s.firm := State.firm_put s _ _ h
@[simp] theorem State.firm_eventIf (c : Bool) (b : Nat) : (s.eventIf c pg b).firm = s.firm := by simp [State.eventIf, h]

@[simp] theorem State.firm_cond (b : Nat) (p : Bool) : (s.cond pg b p).firm = s.firm := by
  have hno : ∀ {P : Prop}, lanePage pg = true → P := fun hl => absurd hl (by rw [lanePage_of_le h]; decide)
  cases p with
  | true => exact s.firm_raise hno
  | false => exact s.firm_lower hno

@[simp] theorem State.firm_raiseOf (b : Nat) : (s.raise pg b).firm = s.firm := State.firm_cond s h b true

@[simp] theorem State.firm_again (b : Nat) (p : Bool) : (s.again pg b p).firm = s.firm := by simp [State.again]

end

/-! ## The Inlet, the Jetty and the sync decisions -/

@[simp] theorem State.firm_judgeHeaders (s : State) (n : Nat) : (s.judgeHeaders n).firm = s.firm := by simp [State.judgeHeaders]
@[simp] theorem State.firm_toInlet (s : State) (n : Nat) (i : InletItem) : (s.toInlet n i).firm = s.firm := by simp [State.toInlet]

@[simp] theorem State.firm_intake (s : State) (n : Nat) (b : List Byte) (k : Bool) (x y : Nat) : (s.intake n b k x y).firm = s.firm := by
  unfold State.intake
  split
  · rfl
  · split
    · simp
    · extract_lets
      split
      · simp +zetaDelta
      · split <;> simp +zetaDelta

@[simp] theorem State.firm_gapTo (s : State) (n : Nat) : (s.gapTo n).firm = s.firm := by simp [State.gapTo]
@[simp] theorem State.firm_bcSend (s : State) (n t : Nat) (p : List Byte) : (s.bcSend n t p).firm = s.firm := by simp [State.bcSend]

@[simp] theorem State.firm_judgeSyncLost (s : State) : s.judgeSyncLost.firm = s.firm := by
  have hno : ∀ {P : Prop}, lanePage syncPage = true → P := fun hl => absurd hl (by decide)
  unfold State.judgeSyncLost State.cond
  split
  · exact s.firm_raise hno
  · exact s.firm_lower hno

@[simp] theorem State.firm_skipMap (s : State) (n : Nat) :
    (s.mapPort Tidemark.SYNC_SKIP_MAP_LO_PORT Tidemark.SYNC_SKIP_MAP_HI_PORT n).firm = s.firm := by
  unfold State.mapPort
  split <;> exact State.firm_put_low s _ (by decide) (by decide)

@[simp] theorem State.firm_countSkip (s : State) (n : Nat) : (s.countSkip n).firm = s.firm := by
  simp [State.countSkip, State.firm_event _ syncPage (show 0 ≠ 6 by decide)]

@[simp] theorem State.firm_pathMissed (s : State) (n k : Nat) : (s.pathMissed n k).firm = s.firm := by simp [State.pathMissed]

@[simp] theorem State.firm_putJtSlot (s : State) (n i : Nat) (v : JettySlot) : (s.putJtSlot n i v).firm = s.firm := by
  simp [State.putJtSlot]

@[simp] theorem State.firm_judgeJtErr (s : State) (n : Nat) : (s.judgeJtErr n).firm = s.firm := by simp [State.judgeJtErr]
@[simp] theorem State.firm_judgeMirErr (s : State) (n : Nat) : (s.judgeMirErr n).firm = s.firm := by simp [State.judgeMirErr]

@[simp] theorem State.firm_logJt (s : State) (n q : Nat) (w : Bool) (c g i x f k : Nat) : (s.logJt n q w c g i x f k).firm = s.firm := by
  simp [State.logJt]

@[simp] theorem State.firm_sendTxn (s : State) (n i : Nat) : (s.sendTxn n i).firm = s.firm := by simp [State.sendTxn]
@[simp] theorem State.firm_openTxn (s : State) (n i q w : Nat) (t : BusTxn) : (s.openTxn n i q w t).firm = s.firm := by simp [State.openTxn]

@[simp] theorem State.firm_pcPut (s : State) (n p : Nat) (f : Field) (v : Nat) : (s.pcPut n p f v).firm = s.firm :=
  State.firm_foldl (f := fun s i => s.put (pcPage i p) f v) (by simp) _ _

@[simp] theorem State.firm_pcCount (s : State) (n : Nat) (f : Field) (k : Nat) : (s.pcCount n f k).firm = s.firm :=
  State.firm_foldl (f := fun s i => s.countSat (pcPage i 0) f k) (by simp) _ _

@[simp] theorem State.firm_pcEvent (s : State) (n b : Nat) : (s.pcEvent n b).firm = s.firm :=
  State.firm_foldl (f := fun s i => s.event (pcPage i 0) b) (by simp) _ _

@[simp] theorem State.firm_judgeAer (s : State) (n : Nat) : (s.judgeAer n).firm = s.firm := by simp [State.judgeAer]
@[simp] theorem State.firm_errMessage (s : State) (n l : Nat) : (s.errMessage n l).firm = s.firm := by simp [State.errMessage]
@[simp] theorem State.firm_aerCorrectable (s : State) (n b : Nat) : (s.aerCorrectable n b).firm = s.firm := by simp [State.aerCorrectable]
@[simp] theorem State.firm_logHeader (s : State) (n b d : Nat) : (s.logHeader n b d).firm = s.firm := by simp [State.logHeader]

@[simp] theorem State.firm_aerUncorrectable (s : State) (n b d : Nat) : (s.aerUncorrectable n b d).firm = s.firm := by
  simp [State.aerUncorrectable]

@[simp] theorem State.firm_failRead (s : State) (r : HeldRead) : (s.failRead r).firm = s.firm := by
  unfold State.failRead
  dsimp only
  split <;> simp

@[simp] theorem State.firm_endHeld (s : State) (n i : Nat) (v : Option Nat) : (s.endHeld n i v).firm = s.firm := by
  unfold State.endHeld
  dsimp only
  split <;> simp

@[simp] theorem State.firm_endTxq (s : State) (n c k : Nat) (d : List Byte) : (s.endTxq n c k d).firm = s.firm := by
  simp [State.endTxq, State.firm_foldl]

@[simp] theorem State.firm_endMirror (s : State) (n m : Nat) (w ok : Bool) (v : Nat) : (s.endMirror n m w ok v).firm = s.firm := by
  simp [State.endMirror]

@[simp] theorem State.firm_endSensor (s : State) (n : Nat) (ok : Bool) : (s.endSensor n ok).firm = s.firm := by
  unfold State.endSensor
  dsimp only
  split
  · rfl
  · split
    · rfl
    · exact State.firm_put_low _ _ (by decide) (by decide)

@[simp] theorem State.firm_endTxn (s : State) (n i c : Nat) (d : List Byte) (f k : Nat) (m : Bool) : (s.endTxn n i c d f k m).firm = s.firm := by
  simp [State.endTxn]

@[simp] theorem State.firm_startTxn (s : State) (n i : Nat) : (s.startTxn n i).firm = s.firm := by simp [State.startTxn]

@[simp] theorem State.firm_pumpMirror (s : State) (n t : Nat) (l : List Nat) : (s.pumpMirror n t l).firm = s.firm := by
  induction l generalizing s with
  | nil => rfl
  | cons e r ih =>
    unfold State.pumpMirror
    extract_lets pg m write f takes
    split
    · exact ih s
    · split
      · rfl
      · simp +zetaDelta [ih]

@[simp] theorem State.firm_resumeMirror (s : State) (n : Nat) : (s.resumeMirror n).firm = s.firm := by
  unfold State.resumeMirror
  split <;> simp

@[simp] theorem State.firm_jettyLinkDown (s : State) (n : Nat) : (s.jettyLinkDown n).firm = s.firm := by
  simp [State.jettyLinkDown, State.firm_foldl]

/-! ## The lane -/

@[simp] theorem State.firm_countWe (s : State) (n k : Nat) {f : Field} (h : f.loose = true) : (s.countSat (wePage n) f k).firm = s.firm :=
  State.firm_putWe s n _ h

@[simp] theorem State.firm_putRx (s : State) (n v : Nat) : (s.putRx n v).firm = s.firm := State.firm_putWe s n v (by decide)

@[simp] theorem State.firm_linkTo (s : State) (n v : Nat) : (s.linkTo n v).firm = s.firm := by
  unfold State.linkTo
  extract_lets u
  have hu : u.firm = s.firm := (State.firm_condWe _ _ _ (by decide)).trans (State.firm_putWe s n v (by decide))
  split
  · exact (u.firm_lower fun _ => by decide).trans hu
  · exact hu

@[simp] theorem State.firm_dropFsyncs (s : State) (n : Nat) : (s.dropFsyncs n).firm = s.firm := by
  have hcount : ∀ s : State, (s.countSat (wePage n) Weatas.FSYNC_COUNT_MISSED).firm = s.firm := fun s => State.firm_putWe s n _ (by decide)
  simp [State.dropFsyncs, State.firm_foldl, hcount]

@[simp] theorem State.firm_noteBreak (s : State) (n : Nat) : (s.noteBreak n).firm = s.firm := by
  unfold State.noteBreak
  dsimp only
  split
  · rfl
  · split
    · rfl
    · exact (State.firm_putWe _ _ _ (by decide)).trans rfl

@[simp] theorem State.firm_trackSeq (s : State) (n q : Nat) (a : Bool) : (s.trackSeq n q a).firm = s.firm := by
  have hcount : ∀ k, (s.countSat (wePage n) Weatas.PKT_ERR_LOST k).firm = s.firm := fun k => State.firm_putWe s n _ (by decide)
  unfold State.trackSeq
  dsimp only
  split <;> simp [hcount]

@[simp] theorem State.firm_breakPacket (s : State) (n : Nat) : (s.breakPacket n).firm = s.firm := by
  have hcount : ∀ s : State, (s.countSat (wePage n) Weatas.PKT_ERR_BROKEN).firm = s.firm := fun s => State.firm_putWe s n _ (by decide)
  unfold State.breakPacket
  split <;> simp [hcount]

@[simp] theorem State.firm_leaveOperating (s : State) (n : Nat) (c l : Bool) : (s.leaveOperating n c l).firm = s.firm := by
  have hretrain : ∀ s : State, (s.countSat (wePage n) Weatas.LINK_COUNT_RETRAINS).firm = s.firm := fun s => State.firm_putWe s n _ (by decide)
  have hstate : ∀ s : State, (s.put (wePage n) Weatas.LINK_STAT_STATE 2).firm = s.firm := fun s => State.firm_putWe s n _ (by decide)
  have hpending : ∀ s : State, (s.put (wePage n) Weatas.FAR_TXEQ_ACT_PENDING 0).firm = s.firm := fun s => State.firm_putWe s n _ (by decide)
  have hcable : ∀ s : State, (s.put (wePage n) Weatas.LAT_CABLE_VALID 0).firm = s.firm := fun s => State.firm_putWe s n _ (by decide)
  have hraise : ∀ s : State, (s.raise (wePage n) 16).firm = s.firm := fun s => s.firm_raise fun _ => by decide
  simp [State.leaveOperating, hretrain, hstate, hpending, hcable, hraise, State.firm_event _ _ (show 17 ≠ 6 by decide)]

/-! ## What the firm parts show -/

theorem State.get_of_firm {s t : State} (h : t.firm = s.firm) (n : Fin 32) {f : Field} (hf : f.place ∈ firmPlaces) :
    t.get (wePage n) f = s.get (wePage n) f := by
  have hlt : f.place < 0x8000 := (by decide : ∀ p ∈ firmPlaces, p < 0x8000) _ hf
  have hlane : lanePage (wePage n) = true := by
    rw [lanePage_range]
    show 0x100 ≤ 0x100 + n.val ∧ 0x100 + n.val < 0x120
    omega
  have hkey : firmKey (fieldKey (wePage n) f) = true := by
    rw [firmKey, fieldKey_div hlt, fieldKey_mod hlt, hlane, Bool.true_and, List.contains_eq_mem, decide_eq_true hf]
  have := congrFun (congrArg Firm.fields h) (fieldKey (wePage n) f)
  simp only [State.firm, hkey, if_true] at this
  exact this

theorem State.flag_of_firm {s t : State} (h : t.firm = s.firm) (n : Fin 32) {f : Field} (hf : f.place ∈ firmPlaces) :
    t.flag (wePage n) f = s.flag (wePage n) f := State.flag_congr s (State.get_of_firm h n hf)

theorem State.marks_of_firm {s t : State} (h : t.firm = s.firm) (n : Fin 32) :
    t.eventBit (wePage n) 6 = s.eventBit (wePage n) 6 ∧ t.condBit (wePage n) 3 = s.condBit (wePage n) 3 := by
  have hlane : lanePage (wePage n) = true := by
    rw [lanePage_range]
    show 0x100 ≤ 0x100 + n.val ∧ 0x100 + n.val < 0x120
    omega
  have h1 := congrFun (congrArg Firm.changed h) (wePage n)
  have h2 := congrFun (congrArg Firm.undervolt h) (wePage n)
  simp only [State.firm, hlane, Bool.true_and] at h1 h2
  exact ⟨h1, h2⟩

end Sys2Proof.Machine
end

section
/-! PROOFS. The start of a lane's training leaves the firm parts alone too. -/

namespace Sys2Proof.Machine

@[simp] theorem State.firm_acquire (s : State) (n : Nat) : (s.acquire n).firm = s.firm := by
  have htap : ∀ t < 24, (Weatas.RX_FFE_C.nth t).loose = true := by decide
  have hfold : ∀ (g : Nat → Nat) (s : State), ((List.range 24).foldl (fun s t => s.put (wePage n) (Weatas.RX_FFE_C.nth t) (g t)) s).firm = s.firm := by
    intro g s
    have hmem : ∀ t ∈ List.range 24, (Weatas.RX_FFE_C.nth t).loose = true := fun t ht => htap t (List.mem_range.mp ht)
    generalize List.range 24 = l at hmem
    induction l generalizing s with
    | nil => rfl
    | cons t l ih => exact (ih _ fun a ha => hmem a (.tail _ ha)).trans (State.firm_putWe s n _ (hmem t (.head _)))
  unfold State.acquire
  extract_lets pg u cur v x w
  have hu : u.firm = s.firm := (State.firm_putWe _ n _ (by decide)).trans (State.firm_putWe s n _ (by decide))
  have hv : v.firm = u.firm := hfold _ u
  have hw : w.firm = v.firm := State.firm_putWe v n _ (by decide)
  exact (State.firm_lower _ fun _ => by decide).trans ((State.firm_putRx _ _ _).trans (hw.trans (hv.trans hu)))

@[simp] theorem State.firm_attempt (s : State) (n m : Nat) : (s.attempt n m).firm = s.firm := by
  have hmode : ∀ s : State, (s.put (wePage n) Weatas.LANE_STAT_MODE_ACT m).firm = s.firm := fun s => State.firm_putWe s n _ (by decide)
  have hepoch : ∀ s : State, (s.countWrap (wePage n) Weatas.LINK_STAT_EPOCH).firm = s.firm := fun s => State.firm_putWe s n _ (by decide)
  have hretrain : ∀ s : State, (s.put (wePage n) Weatas.LINK_CTRL_RETRAIN 0).firm = s.firm := fun s => State.firm_putWe s n _ (by decide)
  simp [State.attempt, State.sendTrain, hmode, hepoch, hretrain]

@[simp] theorem State.firm_startTraining (s : State) (n : Nat) : (s.startTraining n).firm = s.firm := by
  have hfails : ∀ s : State, (s.put (wePage n) Weatas.LINK_STAT_FAILS 0).firm = s.firm := fun s => State.firm_putWe s n _ (by decide)
  have hconv : ∀ s : State, (s.put (wePage n) Weatas.LANE_STAT_CONVERGED 0).firm = s.firm := fun s => State.firm_putWe s n _ (by decide)
  unfold State.startTraining
  dsimp only
  split <;> simp [hfails, hconv]

@[simp] theorem State.firm_laneOn (s : State) (n : Nat) : (s.laneOn n).firm = s.firm := by simp [State.laneOn]

@[simp] theorem State.firm_laneOff (s : State) (n : Nat) : (s.laneOff n).firm = s.firm := by
  have hlower : ∀ s : State, (s.lower (wePage n) 4).firm = s.firm := fun s => s.firm_lower fun _ => by decide
  simp [State.laneOff, hlower]

end Sys2Proof.Machine
end

section
/-! PROOFS. CTRL.EN (R76). -/

namespace Sys2Proof.Machine

theorem State.get_rxOn_rxOff (s : State) (n : Nat) : (s.rxOn n).flag (rxPage n) Hdr.CTRL_EN = s.flag (rxPage n) Hdr.CTRL_EN ∧
    (s.rxOff n).flag (rxPage n) Hdr.CTRL_EN = s.flag (rxPage n) Hdr.CTRL_EN := by
  refine ⟨State.flag_congr s ?_, State.flag_congr s ?_⟩
  · rw [State.rxOn, State.get_put_other _ _ (by simp +decide), State.get_put_other _ _ (by simp +decide)]
  · exact (State.get_lower_other _ _ (by simp +decide)).trans ((State.get_put_other _ _ (by simp +decide)).trans
      ((State.get_put_other _ _ (by simp +decide)).trans (State.get_put_other _ _ (by simp +decide))))

theorem State.get_txOn_txOff (s : State) (m : Nat) : (s.txOn m).flag (txPage m) Hdr.CTRL_EN = s.flag (txPage m) Hdr.CTRL_EN ∧
    (s.txOff m).flag (txPage m) Hdr.CTRL_EN = s.flag (txPage m) Hdr.CTRL_EN := by
  have hstart : ∀ (s : State) p, (s.txStart m p).get (txPage m) Hdr.CTRL_EN = s.get (txPage m) Hdr.CTRL_EN := by
    intro s p
    unfold State.txStart
    split
    · exact State.get_event_other _ _ (by simp +decide)
    · rfl
  refine ⟨State.flag_congr s ?_, State.flag_congr s ?_⟩
  · unfold State.txOn
    dsimp only
    split
    · unfold State.txReady
      dsimp only
      split
      · exact (hstart _ _).trans rfl
      · rfl
    · rfl
  · unfold State.txOff
    extract_lets x u v
    have hv : v.regs = s.regs := foldl_keeps (v := State.regs) (f := fun s k => s.putTxSlot m k
      { s.txSlot m k with frames := [], accepted := [], ended := [], hold := none, heldRun := 0 }) (fun _ _ => rfl) _ u
    unfold State.judgeTx
    dsimp only
    rw [State.get_cond_other _ _ _ (by simp +decide), State.get_cond_other _ _ _ (by simp +decide), State.get_cond_other _ _ _ (by simp +decide),
      State.get_put_other _ _ (by simp +decide), State.get_put_other _ _ (by simp +decide), State.get_of_regs hv]

/-- What of EN a write leaves in the register, of a block whose enable no plan owns. -/
theorem State.flag_writeEn (s : State) {r : PageRef} (h : r.block.planEnabled = false) (hwe : r.block = .weatas → r.inst < 32) (on : Bool) :
    (s.writeEn r on).flag r.base Hdr.CTRL_EN = on := by
  unfold State.writeEn
  rw [if_neg (by simp [h])]
  extract_lets was u v
  have hu : u.flag r.base Hdr.CTRL_EN = on := State.flag_put_bit ..
  have hv : v.flag r.base Hdr.CTRL_EN = on := by
    simp only [v]
    split
    · exact (State.flag_congr u (State.get_cond_other _ _ _ (by simp +decide))).trans hu
    · exact hu
  have hlane : ∀ t : State, t.firm = v.firm → r.block = .weatas → t.flag r.base Hdr.CTRL_EN = on := by
    intro t ht hb
    have hpage : r.base = wePage (⟨r.inst, hwe hb⟩ : Fin 32) := by
      unfold PageRef.base
      rw [hb]
      rfl
    rw [hpage] at hv ⊢
    exact (State.flag_of_firm ht _ (by decide)).trans hv
  split
  · exact hv
  · split
    · next hb _ => exact hlane _ (State.firm_laneOn _ _) hb
    · next hb _ => exact hlane _ (State.firm_laneOff _ _) hb
    · next hb _ =>
      have hpage : r.base = rxPage r.inst := by rw [PageRef.base, hb]; rfl
      rw [hpage] at hv ⊢
      rw [(State.get_rxOn_rxOff _ _).1, hv]
    · next hb _ =>
      have hpage : r.base = rxPage r.inst := by rw [PageRef.base, hb]; rfl
      rw [hpage] at hv ⊢
      rw [(State.get_rxOn_rxOff _ _).2, hv]
    · next hb _ =>
      have hpage : r.base = txPage r.inst := by rw [PageRef.base, hb]; rfl
      rw [hpage] at hv ⊢
      rw [(State.get_txOn_txOff _ _).1, hv]
    · next hb _ =>
      have hpage : r.base = txPage r.inst := by rw [PageRef.base, hb]; rfl
      rw [hpage] at hv ⊢
      rw [(State.get_txOn_txOff _ _).2, hv]
    · exact hv

theorem exec_instanceEnable {req : Requester} {pg : Fin 0x1400} {w : Word} {s : State} {r : PageRef} (hr : pageRef pg = some r)
    (hs : s.serves req (regOff pg Hdr.CTRL_EN) = true) (hrst : w.getLsbD 1 = false) :
    exec (.instanceEnable req pg w) s = .next ((s.writePwr r (w.getLsbD 2)).writeEn r (w.getLsbD 0)) := by
  rw [exec, execInstanceEnable, State.onWrite_served hs, State.writeCtrl, hr]
  simp only [BitVec.testBit_toNat, hrst, Bool.false_eq_true, if_false]

/-- The pages of the Inlets, Coves, Harbours and Drift channels: none lies in the window of the job entries, and none is a Jetty's. -/
theorem planEnabled_page {pg : Fin 0x1400} {r : PageRef} (hr : pageRef pg = some r) (hp : r.block.planEnabled = true) :
    inJobWindow pg = false ∧ r.block ≠ .jetty := by
  have hall : ∀ a < 0x14, ∀ b < 0x100, (pageRef (0x100 * a + b)).all (fun r => !r.block.planEnabled || (!inJobWindow (0x100 * a + b) && r.block != .jetty)) = true := by
    decide +kernel
  have h := hall (pg.val / 0x100) (by omega) (pg.val % 0x100) (Nat.mod_lt _ (by decide))
  rw [Nat.div_add_mod, hr, Option.all_some, hp] at h
  simpa using h

/-- A read of CTRL answers it (R76). -/
theorem ctrlRead_completes (req : Requester) (pg : Fin 0x1400) (off : Fin 0x4000000) (header : Nat) (s : State) (r : PageRef)
    (hr : pageRef pg = some r) (hp : r.block.planEnabled = true) (hoff : off.val = regOff pg Hdr.CTRL_EN) (hreach : s.reaches req = true)
    (hfits : s.fits r.base Hdr.CTRL_PWR_REQ = true) :
    Completes (.multiwordCaptureRead req off 2 header) s fun t =>
      t.out = .readData req off [(if r.block.ownsDomain then s.get r.base Hdr.CTRL_PWR_REQ else 1) * 4 + bit (s.resetting r) * 2 +
        bit (s.planUses r)] :: s.out ∧ t.regs = s.regs := by
  obtain ⟨hjob, hjetty⟩ := planEnabled_page hr hp
  have hval : off.val = pg.val * 0x1000 + 0x18 := hoff
  have hpage : off.val / 0x1000 = pg := by omega
  have hrest : off.val % 0x800 = 0x18 := by omega
  have hheader : isHeaderOff off = true := by
    rw [isHeaderOff, hrest]
    decide
  have hserved : s.servesRead req off = true := by
    rw [State.servesRead, hreach, State.accessCause]
    simp only [Bool.false_and, Bool.false_eq_true, if_false, hpage, hjob, hr, hheader, Bool.not_true, if_neg (show ¬ off.val % 4 ≠ 0 by omega)]
    rfl
  have hremote : remoteWord off = none := by
    unfold remoteWord
    rw [hpage, hr]
    split
    · next n k heq => exact absurd (by cases heq; rfl) hjetty
    · rfl
  have hword : s.readWord req off = ((if r.block.ownsDomain then s.get r.base Hdr.CTRL_PWR_REQ else 1) * 4 + bit (s.resetting r) * 2 +
      bit (s.planUses r), s) := by
    have haligned : off.val / 4 * 4 = off.val := by omega
    have hplace : off.val % 0x800 / 4 * 4 = 0x18 := by omega
    unfold State.readWord
    simp only [hpage, hjob, hr, hplace, haligned, hheader, Bool.false_eq_true, if_false, if_true, State.readHeader, hp]
  have hsmall : ((if r.block.ownsDomain then s.get r.base Hdr.CTRL_PWR_REQ else 1) * 4 + bit (s.resetting r) * 2 + bit (s.planUses r)) % 2 ^ 32 =
      (if r.block.ownsDomain then s.get r.base Hdr.CTRL_PWR_REQ else 1) * 4 + bit (s.resetting r) * 2 + bit (s.planUses r) := by
    have hpwr : s.get r.base Hdr.CTRL_PWR_REQ < 2 := of_decide_eq_true hfits
    have hbit : ∀ b, bit b < 2 := by decide
    have := hbit (s.resetting r)
    have := hbit (s.planUses r)
    refine Nat.mod_eq_of_lt ?_
    split <;> omega
  refine ⟨_, exec_multiwordCaptureRead_word header hserved hremote (by omega), ?_, ?_⟩
  · rw [hword, hsmall]
    rfl
  · rw [hword]
    rfl

/-- Settles O16. -/
theorem enablesTakeEffectAtOnceOrFollowThePlan : Obligations.EnablesTakeEffectAtOnceOrFollowThePlan := by
  refine ⟨fun req pg w s r hr hp hs hrst => ⟨_, exec_instanceEnable hr hs hrst, ?_⟩, fun req pg w s hlo hs hrst => ?_, ctrlRead_completes⟩
  · refine State.flag_writeEn _ hp (fun hb => ?_) _
    have hall : ∀ a < 0x14, ∀ b < 0x100, (pageRef (0x100 * a + b)).all (fun r => r.block != .weatas || decide (r.inst < 32)) = true := by decide +kernel
    have h := hall (pg.val / 0x100) (by omega) (pg.val % 0x100) (Nat.mod_lt _ (by decide))
    rw [Nat.div_add_mod, hr, Option.all_some, hb] at h
    simpa using h
  · refine ⟨_, exec_instanceEnable (pageRef_drift hlo pg.isLt) hs hrst, ?_⟩
    exact writeEn_writePwr_drift _ rfl _ _

end Sys2Proof.Machine
end

section
/-! PROOFS. The line monitor (R102 to R105). -/

namespace Sys2Proof.Machine

/-- Fields at different places of their pages are different registers. -/
theorem fieldKey_ne_of_place {pg pg' : Nat} {f g : Field} (hf : f.place < 0x8000) (hg : g.place < 0x8000) (h : f.place ≠ g.place) :
    fieldKey pg f ≠ fieldKey pg' g := by
  intro heq
  have := congrArg (· % 0x8000) heq
  simp only [fieldKey_mod hf, fieldKey_mod hg] at this
  exact h this

/-- The places that a scan writes what it measured to. -/
def scanPlaces : List Nat := [Weatas.LM_VLINE_MV.place, Weatas.LM_FEED_V_MV.place, Weatas.LM_ILINE_MA.place]

theorem State.putFit_keeps (s : State) (pg : Nat) {f : Field} (v : Int) (hf : f.place < 0x8000) :
    (s.putFit pg f v).lanes = s.lanes ∧ SameFaults s (s.putFit pg f v) ∧
    ∀ pg' (g : Field), g.place < 0x8000 → f.place ≠ g.place → (s.putFit pg f v).get pg' g = s.get pg' g := by
  have hstores : (s.putFit pg f v).lanes = s.lanes ∧ SameFaults s (s.putFit pg f v) := by
    unfold State.putFit
    split <;> exact ⟨rfl, rfl, rfl⟩
  exact ⟨hstores.1, hstores.2, fun pg' g hg h => State.get_putFit_other s v (fieldKey_ne_of_place hf hg h)⟩

theorem State.get_putFit_same (s : State) (pg : Nat) {f : Field} {v : Nat} (h : v < f.size) : (s.putFit pg f v).get pg f = v := by
  rw [State.putFit, if_pos (by omega), State.get_put_same, Int.toNat_natCast, Nat.mod_eq_of_lt h]

/-- What a scan measures shows: the line's voltage, the feed's, and the current. -/
def State.measured (s : State) (n : Nat) (vLine : Nat) (vFeed iLine : Int) : State :=
  ((s.putFit (wePage n) Weatas.LM_VLINE_MV vLine).putFit (wePage (4 * s.get (wePage n) Weatas.LM_CFG_GROUP)) Weatas.LM_FEED_V_MV vFeed).putFit (wePage n)
    Weatas.LM_ILINE_MA (if -32768 ≤ iLine ∧ iLine < 32768 then (ofSigned 16 iLine : Int) else -1)

theorem State.measured_keeps (s : State) (n vLine : Nat) (vFeed iLine : Int) :
    (s.measured n vLine vFeed iLine).lanes = s.lanes ∧ SameFaults s (s.measured n vLine vFeed iLine) ∧
    (∀ pg (g : Field), g.place < 0x8000 → g.place ∉ scanPlaces → (s.measured n vLine vFeed iLine).get pg g = s.get pg g) ∧
    (vLine < 65536 → (s.measured n vLine vFeed iLine).get (wePage n) Weatas.LM_VLINE_MV = vLine) := by
  obtain ⟨a1, a2, a3⟩ := s.putFit_keeps (wePage n) (f := Weatas.LM_VLINE_MV) vLine (by decide)
  obtain ⟨b1, b2, b3⟩ := (s.putFit (wePage n) Weatas.LM_VLINE_MV vLine).putFit_keeps (wePage (4 * s.get (wePage n) Weatas.LM_CFG_GROUP))
    (f := Weatas.LM_FEED_V_MV) vFeed (by decide)
  obtain ⟨c1, c2, c3⟩ := ((s.putFit (wePage n) Weatas.LM_VLINE_MV vLine).putFit (wePage (4 * s.get (wePage n) Weatas.LM_CFG_GROUP))
    Weatas.LM_FEED_V_MV vFeed).putFit_keeps (wePage n) (f := Weatas.LM_ILINE_MA)
    (if -32768 ≤ iLine ∧ iLine < 32768 then (ofSigned 16 iLine : Int) else -1) (by decide)
  refine ⟨c1.trans (b1.trans a1), (a2.trans b2).trans c2, fun pg g hlt hg => ?_, fun h => ?_⟩
  · simp only [scanPlaces, List.mem_cons, List.not_mem_nil, or_false, not_or] at hg
    obtain ⟨h1, h2, h3⟩ := hg
    exact (c3 pg g hlt (Ne.symm h3)).trans ((b3 pg g hlt (Ne.symm h2)).trans (a3 pg g hlt (Ne.symm h1)))
  · exact (c3 _ _ (by decide) (by decide)).trans ((b3 _ _ (by decide) (by decide)).trans (State.get_putFit_same s _ h))

/-- The class is judged by the settings alone, which a scan does not write. -/
theorem State.classify_congr {s t : State} (h : ∀ pg (g : Field), g.place < 0x8000 → g.place ∉ scanPlaces → t.get pg g = s.get pg g) (n : Nat)
    (vLine vFeed iLine : Int) : t.classify n vLine vFeed iLine = s.classify n vLine vFeed iLine := by
  unfold State.classify
  simp only [h (wePage n) Weatas.LM_CFG_GROUP (by decide) (by decide), h _ Weatas.LM_THRESH1_V_OVER (by decide) (by decide),
    h _ Weatas.LM_FEED_CFG_V_FEED_PRESENT (by decide) (by decide), h _ Weatas.LM_THRESH1_V_SHORT_GND (by decide) (by decide),
    h _ Weatas.LM_THRESH2_I_MAX (by decide) (by decide), h _ Weatas.LM_THRESH2_I_OPEN (by decide) (by decide),
    h _ Weatas.LM_CAM_VCAM_MIN (by decide) (by decide), h _ Weatas.LM_CAM_RCABLE (by decide) (by decide)]

theorem State.classify_lt (s : State) (n : Nat) (vLine vFeed iLine : Int) : s.classify n vLine vFeed iLine < 8 := by
  unfold State.classify
  dsimp only
  split_ifs <;> decide

/-- The class run of a lane after a scan that found class c. -/
def State.scanned (s : State) (n c : Nat) : State :=
  s.putLane n { s.lane n with scanClass := c, scanRun := if (s.lane n).scanClass = c then (s.lane n).scanRun + 1 else 1 }

theorem exec_lmScan (n : Fin 32) (code feedCode : Fin 4096) (s : State) {vFeed iLine : Int} (hready : s.ready ⟨.weatas, n, 0⟩ = true)
    (hfeed : vFeed = monitorMv feedCode (s.get (wePage (4 * s.get (wePage n) Weatas.LM_CFG_GROUP)) Weatas.LM_FEED_CFG_DIV))
    (hline : iLine = Int.tdiv ((vFeed - (monitorMv code (s.get (wePage n) Weatas.LM_CFG_DIV) : Int)) * 1000) (s.get (wePage n) Weatas.LM_CFG_RSENSE)) :
    exec (.lmScan n code feedCode) s = .next (
      let u := s.measured n (monitorMv code (s.get (wePage n) Weatas.LM_CFG_DIV)) vFeed iLine
      if !u.flag (wePage n) Weatas.LM_CFG_ENABLE then u
      else
        let c := u.classify n (monitorMv code (s.get (wePage n) Weatas.LM_CFG_DIV) : Nat) vFeed iLine
        let v := u.scanned n c
        if v.get (wePage n) Weatas.LM_DEBOUNCE_SCANS ≤ (if (u.lane n).scanClass = c then (u.lane n).scanRun + 1 else 1) ∧
            v.get (wePage n) Weatas.LM_STAT_CLASS ≠ c then v.enterClass n c else v) := by
  subst hfeed hline
  rw [exec, execLmScan]
  simp only [hready, Bool.not_true, Bool.false_eq_true, if_false]
  rfl

/-- A held lane is off: HOLD is set, and a link that was on is HELD. -/
theorem State.holdLane_effect (s : State) (n : Fin 32) :
    (s.holdLane n).get (wePage n) Weatas.LM_STAT_CLASS = s.get (wePage n) Weatas.LM_STAT_CLASS ∧
    (s.holdLane n).flag (wePage n) Weatas.LM_STAT_HOLD = true ∧ (s.holdLane n).eventBit (wePage n) 6 = s.eventBit (wePage n) 6 ∧
    (s.holdLane n).condBit (wePage n) 3 = s.condBit (wePage n) 3 ∧ (s.holdLane n).linkState n = if s.linkState n = 0 then 0 else 1 := by
  let u := s.put (wePage n) Weatas.LM_STAT_HOLD 1
  let v := if u.rxState n = 0 then u else u.putRx n 1
  let w := (((v.put (wePage n) Weatas.PRBS_GEN_EN 0).put (wePage n) Weatas.PRBS_CHK_EN 0).put (wePage n) Weatas.PRBS_INJ_GO 0).put (wePage n)
    Weatas.PRBS_CHK_LOCKED 0
  let x := w.lower (wePage n) 4
  let y := if x.linkState n = 0 then x
    else ((x.leaveOperating n false false).linkTo n 1).putLane n { ((x.leaveOperating n false false).linkTo n 1).lane n with modes := none }
  have hhold : s.holdLane n = y.putLane n { y.lane n with queue := [], inbox := [], injections := [], inPacket := none } := rfl
  have hv : v.firm = u.firm := by
    simp only [v]
    split
    · rfl
    · exact State.firm_putRx _ _ _
  have hw : w.firm = v.firm := (State.firm_putWe _ _ _ (by decide)).trans ((State.firm_putWe _ _ _ (by decide)).trans
    ((State.firm_putWe _ _ _ (by decide)).trans (State.firm_putWe _ _ _ (by decide))))
  have hx : x.firm = w.firm := State.firm_lower _ fun _ => by decide
  have hy : y.firm = x.firm := by
    simp only [y]
    split
    · rfl
    · exact (State.firm_linkTo _ _ _).trans (State.firm_leaveOperating _ _ _ _)
  have hfirm : y.firm = u.firm := hy.trans (hx.trans (hw.trans hv))
  have hstate : x.linkState n = s.linkState n := by
    have hvs : v.get (wePage n) Weatas.LINK_STAT_STATE = u.get (wePage n) Weatas.LINK_STAT_STATE := by
      simp only [v]
      split
      · rfl
      · exact State.get_put_other _ _ (by simp +decide)
    unfold State.linkState
    rw [State.get_lower_other _ _ (by simp +decide), State.get_put_other _ _ (by simp +decide), State.get_put_other _ _ (by simp +decide),
      State.get_put_other _ _ (by simp +decide), State.get_put_other _ _ (by simp +decide), hvs, State.get_put_other _ _ (by simp +decide)]
  obtain ⟨h6, h3⟩ := State.marks_of_firm hfirm n
  rw [hhold]
  refine ⟨?_, ?_, ?_, h3.trans rfl, ?_⟩
  · exact (State.get_of_firm hfirm n (by decide)).trans (State.get_put_other _ _ (by simp +decide))
  · exact (State.flag_of_firm hfirm n (by decide)).trans (State.flag_put_one ..)
  · exact h6.trans (State.eventBit_put_other _ _ (by simp +decide))
  · show y.linkState n = _
    simp only [y, hstate]
    split
    · next h => rw [hstate, h]
    · exact State.linkState_linkTo _ _ _

/-- A released lane holds no more, and its class stays. -/
theorem State.releaseLane_effect (s : State) (n : Fin 32) :
    (s.releaseLane n).flag (wePage n) Weatas.LM_STAT_HOLD = false ∧
    (s.releaseLane n).get (wePage n) Weatas.LM_STAT_CLASS = s.get (wePage n) Weatas.LM_STAT_CLASS ∧
    (s.releaseLane n).eventBit (wePage n) 6 = s.eventBit (wePage n) 6 ∧ (s.releaseLane n).condBit (wePage n) 3 = s.condBit (wePage n) 3 := by
  have hdrive : ∀ t : State, (t.drivePattern n).firm = t.firm := by
    intro t
    unfold State.drivePattern
    dsimp only
    split <;> rfl
  have hfirm : (s.releaseLane n).firm = (s.put (wePage n) Weatas.LM_STAT_HOLD 0).firm := by
    simp [State.releaseLane, hdrive]
  obtain ⟨h6, h3⟩ := State.marks_of_firm hfirm n
  refine ⟨(State.flag_of_firm hfirm n (by decide)).trans (State.flag_put_zero ..),
    (State.get_of_firm hfirm n (by decide)).trans (State.get_put_other _ _ (by simp +decide)),
    h6.trans (State.eventBit_put_other _ _ (by simp +decide)), h3.trans rfl⟩

theorem State.autoRelease_effect (s : State) (n : Fin 32) (hclass : isHolding (s.get (wePage n) Weatas.LM_STAT_CLASS) = false) :
    (s.autoRelease n).flag (wePage n) Weatas.LM_STAT_HOLD =
      (s.flag (wePage n) Weatas.LM_STAT_HOLD && !s.flag (wePage n) Weatas.LM_CFG_AUTO_RELEASE) ∧
    (s.autoRelease n).get (wePage n) Weatas.LM_STAT_CLASS = s.get (wePage n) Weatas.LM_STAT_CLASS ∧
    (s.autoRelease n).eventBit (wePage n) 6 = s.eventBit (wePage n) 6 ∧ (s.autoRelease n).condBit (wePage n) 3 = s.condBit (wePage n) 3 := by
  unfold State.autoRelease
  dsimp only
  rw [hclass]
  split
  · next h =>
    obtain ⟨hhold, hauto⟩ : s.flag (wePage n) Weatas.LM_STAT_HOLD = true ∧ s.flag (wePage n) Weatas.LM_CFG_AUTO_RELEASE = true := by simpa using h
    obtain ⟨h1, h2, h3, h4⟩ := (s.event (wePage n) 7).releaseLane_effect n
    have hev : (s.event (wePage n) 7).firm = s.firm := State.firm_event _ _ (by decide)
    rw [h1, hhold, hauto]
    exact ⟨rfl, h2.trans (State.get_of_firm hev n (by decide)), h3.trans (State.marks_of_firm hev n).1, h4.trans (State.marks_of_firm hev n).2⟩
  · next h =>
    refine ⟨?_, rfl, rfl, rfl⟩
    cases hhold : s.flag (wePage n) Weatas.LM_STAT_HOLD
    · rfl
    · simpa [hhold] using h

/-- The faults of a class: each of its own. -/
def State.classFaults (s : State) (n c : Nat) : State :=
  ((((((s.put (wePage n) Weatas.LM_STAT_CLASS c).event (wePage n) 6).cond (wePage n) 0 (c == 2)).cond (wePage n) 1 (c == 3)).cond (wePage n) 2 (c == 4)).cond
    (wePage n) 3 (c == 5))

theorem State.enterClass_eq (s : State) (n c : Nat) :
    s.enterClass n c = if isHolding c then (s.classFaults n c).holdLane n else (s.classFaults n c).autoRelease n := rfl

theorem State.classFaults_effect (s : State) (n : Nat) {c : Nat} (hc : c < 8) :
    (s.classFaults n c).get (wePage n) Weatas.LM_STAT_CLASS = c ∧ (s.classFaults n c).eventBit (wePage n) 6 = true ∧
    (s.classFaults n c).condBit (wePage n) 3 = (c == 5) ∧ (s.classFaults n c).linkState n = s.linkState n ∧
    ∀ f ∈ [Weatas.LM_STAT_HOLD, Weatas.LM_CFG_AUTO_RELEASE], (s.classFaults n c).flag (wePage n) f = s.flag (wePage n) f := by
  have hother : ∀ f : Field, fieldKey (wePage n) Hdr.FLT_STAT_FAULT ≠ fieldKey (wePage n) f →
      (s.classFaults n c).get (wePage n) f = ((s.put (wePage n) Weatas.LM_STAT_CLASS c).event (wePage n) 6).get (wePage n) f := by
    intro f hf
    unfold State.classFaults
    rw [State.get_cond_other _ _ _ hf, State.get_cond_other _ _ _ hf, State.get_cond_other _ _ _ hf, State.get_cond_other _ _ _ hf]
  refine ⟨?_, ?_, State.condBit_cond _ _ _ _, ?_, fun f hf => State.flag_congr s ?_⟩
  · rw [hother _ (by simp +decide), State.get_event_other _ _ (by simp +decide), State.get_put_same]
    exact Nat.mod_eq_of_lt hc
  · rw [State.eventBit_congr _ (hother _ (by simp +decide)), State.eventBit_event_of_page _ (by decide)]
    simp
  · unfold State.linkState
    rw [hother _ (by simp +decide), State.get_event_other _ _ (by simp +decide), State.get_put_other _ _ (by simp +decide)]
  · have hplaces : ∀ f ∈ [Weatas.LM_STAT_HOLD, Weatas.LM_CFG_AUTO_RELEASE], f.place < 0x8000 ∧ Hdr.FLT_STAT_FAULT.place ≠ f.place ∧
        Hdr.EVT_STAT_EVENT.place ≠ f.place ∧ Weatas.LM_STAT_CLASS.place ≠ f.place := by decide
    obtain ⟨hlt, h1, h2, h3⟩ := hplaces f hf
    rw [hother _ (fieldKey_ne_of_place (by decide) hlt h1), State.get_event_other _ _ (fieldKey_ne_of_place (by decide) hlt h2),
      State.get_put_other _ _ (fieldKey_ne_of_place (by decide) hlt h3)]

/-- A class that is entered shows, with its event and faults; a holding one holds the lane, and another may release it. -/
theorem State.enterClass_effect (s : State) (n : Fin 32) {c : Nat} (hc : c < 8) :
    (s.enterClass n c).get (wePage n) Weatas.LM_STAT_CLASS = c ∧ (s.enterClass n c).eventBit (wePage n) 6 = true ∧
    (c = 5 → (s.enterClass n c).condBit (wePage n) 3 = true) ∧
    (isHolding c = true → (s.enterClass n c).flag (wePage n) Weatas.LM_STAT_HOLD = true ∧
      (s.enterClass n c).linkState n = if s.linkState n = 0 then 0 else 1) ∧
    (isHolding c = false → (s.enterClass n c).flag (wePage n) Weatas.LM_STAT_HOLD =
      (s.flag (wePage n) Weatas.LM_STAT_HOLD && !s.flag (wePage n) Weatas.LM_CFG_AUTO_RELEASE)) := by
  obtain ⟨h1, h2, h3, h4, h5⟩ := s.classFaults_effect n hc
  rw [State.enterClass_eq]
  cases hh : isHolding c with
  | true =>
    obtain ⟨a1, a2, a3, a4, a5⟩ := (s.classFaults n c).holdLane_effect n
    rw [h4] at a5
    exact ⟨a1.trans h1, a3.trans h2, fun h => a4.trans (h3.trans (by simp [h])), fun _ => ⟨a2, a5⟩, nofun⟩
  | false =>
    obtain ⟨a1, a2, a3, a4⟩ := (s.classFaults n c).autoRelease_effect n (by rw [h1, hh])
    rw [h5 _ (by simp), h5 _ (by simp)] at a1
    exact ⟨a2.trans h1, a3.trans h2, fun h => a4.trans (h3.trans (by simp [h])), nofun, fun _ => a1⟩

/-- Settles O21. -/
theorem lineMonitorClassifiesAndHolds : Obligations.LineMonitorClassifiesAndHolds := by
  refine ⟨fun n code feedCode s hready hoff hfit hgroup => ?off, fun n code feedCode s vLine vFeed iLine c run hready hon hv hf hi hc hgroup hrun => ?on,
    fun req n s hs => ?release⟩
  case off =>
    have ht := exec_lmScan n code feedCode s hready rfl rfl
    obtain ⟨h1, h2, h3, h4⟩ := s.measured_keeps n (monitorMv code (s.get (wePage n) Weatas.LM_CFG_DIV)) _ _
    dsimp only at ht
    rw [if_pos (by rw [State.flag_congr s (h3 _ _ (by decide) (by decide)), hoff]; rfl)] at ht
    exact ⟨_, ht, h4 hfit, h3 _ _ (by decide) (by decide), h1, SameMemory.of_exec ht (by rw [exec]; exact answers_lmScan (Quiet.refl s)), h2⟩
  case on =>
    subst hv
    have ht := exec_lmScan n code feedCode s hready hf hi
    obtain ⟨h1, h2, h3, -⟩ := s.measured_keeps n (monitorMv code (s.get (wePage n) Weatas.LM_CFG_DIV)) vFeed iLine
    dsimp only at ht
    rw [if_neg (by rw [State.flag_congr s (h3 _ _ (by decide) (by decide)), hon]; decide), State.classify_congr h3, ← hc] at ht
    have hlane : (s.measured n (monitorMv code (s.get (wePage n) Weatas.LM_CFG_DIV)) vFeed iLine).lane n = s.lane n := by rw [State.lane, h1, State.lane]
    rw [hlane, ← hrun] at ht
    generalize s.measured n (monitorMv code (s.get (wePage n) Weatas.LM_CFG_DIV)) vFeed iLine = u at ht h1 h2 h3
    have hget : ∀ pg (g : Field), g.place < 0x8000 → g.place ∉ scanPlaces → (u.scanned n c).get pg g = s.get pg g := fun pg g hlt hg => h3 pg g hlt hg
    rw [hget _ _ (by decide) (by decide), hget _ _ (by decide) (by decide)] at ht
    have hc8 : c < 8 := hc ▸ s.classify_lt _ _ _ _
    refine ⟨_, ht, fun hle hne => ?_, fun hlt => ?_⟩
    · rw [if_pos ⟨hle, hne⟩]
      obtain ⟨g1, g2, g3, g4, g5⟩ := (u.scanned n c).enterClass_effect n hc8
      have hstate : (u.scanned n c).linkState n = s.linkState n := hget _ _ (by decide) (by decide)
      rw [hstate] at g4
      rw [State.flag_congr s (hget _ _ (by decide) (by decide)), State.flag_congr s (hget _ _ (by decide) (by decide))] at g5
      exact ⟨g1, g2, g3, g4, g5⟩
    · rw [if_neg (by omega)]
      exact ⟨hget _ _ (by decide) (by decide), hget _ _ (by decide) (by decide), h2⟩
  case release =>
    have ht : exec (.lmRelease req n) s = .next (if s.flag (wePage n) Weatas.LM_STAT_HOLD && !isHolding (s.get (wePage n) Weatas.LM_STAT_CLASS) then
        s.releaseLane n else s) := by
      rw [exec, execLmRelease, State.onWrite_served hs]
    refine ⟨_, ht, fun h => ?_, fun h => by rw [if_neg (by simp [h])]⟩
    split
    · exact (s.releaseLane_effect n).1
    · next hno => simpa [h] using hno

end Sys2Proof.Machine
end

section
/-! PROOFS. The link test (R144). -/

namespace Sys2Proof.Machine

theorem State.linkTo_out (s : State) (n st : Nat) : (s.linkTo n st).out = s.out := by
  unfold State.linkTo
  extract_lets u
  have hu : u.out = s.out := State.cond_out ..
  split
  · exact (State.lower_out ..).trans hu
  · exact hu

theorem State.acquire_out (s : State) (n : Nat) : (s.acquire n).out = s.out := by
  rw [State.acquire_eq, State.lower_out, State.put_out, State.putLane_out, State.put_out]
  unfold State.acquireTaps
  extract_lets u
  have hu : u.out = s.out := rfl
  clear_value u
  rw [← hu]
  exact foldl_keeps (v := State.out) (f := fun s t => s.put (wePage n) (Weatas.RX_FFE_C.nth t)
    (if t = u.get (wePage n) Weatas.RX_FFE_CUR_CURSOR then 0x100 else 0)) (fun _ _ => rfl) _ u

theorem State.attempt_out (s : State) (n m : Nat) : (s.attempt n m).out = s.out := by
  let u := ((s.put (wePage n) Weatas.LANE_STAT_MODE_ACT m).countWrap (wePage n) Weatas.LINK_STAT_EPOCH).put (wePage n) Weatas.LINK_CTRL_RETRAIN 0
  have hu : ((u.linkTo n 2).acquire n).out = u.out := (State.acquire_out _ _).trans (State.linkTo_out _ _ _)
  exact hu

/-- What a lane begins its training with: its settings, and no failed attempt. -/
def State.trainingSet (s : State) (n : Nat) : State :=
  ((s.putLane n { s.lane n with modeMin := s.get (wePage n) Weatas.LANE_CFG_MODE_MIN, modeMax := s.get (wePage n) Weatas.LANE_CFG_MODE_MAX,
                                medium := s.get (wePage n) Weatas.LANE_CFG_MEDIUM, trainAt := s.time.c }).put (wePage n) Weatas.LINK_STAT_FAILS 0).put
    (wePage n) Weatas.LANE_STAT_CONVERGED 0

theorem State.startTraining_eq (s : State) (n : Nat) : s.startTraining n =
    match s.firstMode n with
    | some m => (s.trainingSet n).attempt n m
    | none => ((s.trainingSet n).acquire n).linkTo n 11 := by
  have hlane : (s.trainingSet n).lane n = { s.lane n with
      modeMin := s.get (wePage n) Weatas.LANE_CFG_MODE_MIN, modeMax := s.get (wePage n) Weatas.LANE_CFG_MODE_MAX,
      medium := s.get (wePage n) Weatas.LANE_CFG_MEDIUM, trainAt := s.time.c } := by
    unfold State.trainingSet
    rw [State.lane_put, State.lane_put, State.lane_putLane_same]
  have hmode : (s.trainingSet n).nextMode n ((s.trainingSet n).lane n).modeMax = s.firstMode n := by
    unfold State.nextMode
    rw [hlane]
    rfl
  rw [← hmode]
  rfl

/-- A lane trains afresh from its highest mode, and says nothing to its camera yet. -/
theorem State.startTraining_attempts (s : State) (n : Nat) : Attempts s (s.startTraining n) n (s.firstMode n) ∧ (s.startTraining n).out = s.out := by
  have hepoch : (s.trainingSet n).get (wePage n) Weatas.LINK_STAT_EPOCH = s.get (wePage n) Weatas.LINK_STAT_EPOCH :=
    (State.get_put_other _ _ (by simp +decide)).trans (State.get_put_other _ _ (by simp +decide))
  rw [State.startTraining_eq]
  cases h : s.firstMode n with
  | some m =>
    obtain ⟨h1, h2, h3, h4⟩ := (s.trainingSet n).attempt_effect n m
    refine ⟨⟨fun k hk => ?_, nofun⟩, State.attempt_out _ _ _⟩
    cases hk
    exact ⟨h1, h2, h3, h4.trans (by rw [hepoch])⟩
  | none => exact ⟨⟨nofun, fun _ => State.linkState_linkTo _ _ _⟩, (State.linkTo_out _ _ _).trans (State.acquire_out _ _)⟩

/-- What a write of LINK_CTRL stores: its settings, then the pattern of the test. -/
def State.linkCtrlStored (s : State) (n w : Nat) : State :=
  let s := s.writeFields (wePage n) w 11 [Weatas.LINK_CTRL_CAM_RETRAIN, Weatas.LINK_CTRL_FEC_RETRAIN, Weatas.LINK_CTRL_RETRY_MS]
  s.putPattern n Weatas.LINK_CTRL_TEST_PATTERN (bitsOf w 23 20) true (s.testMode n)

/-- The fields that the write of LINK_CTRL leaves. -/
def linkCtrlLeaves : List Nat := [Weatas.LINK_STAT_STATE.place, Weatas.LANE_STAT_MODE_ACT.place, Weatas.LANE_CFG_MODE_MIN.place,
  Weatas.LANE_CFG_MODE_MAX.place, Weatas.LINK_STAT_EPOCH.place]

theorem State.linkCtrlStored_keeps (s : State) (n w : Nat) :
    (s.linkCtrlStored n w).lanes = s.lanes ∧ (s.linkCtrlStored n w).out = s.out ∧
    (∀ f : Field, f.place ∈ linkCtrlLeaves → (s.linkCtrlStored n w).get (wePage n) f = s.get (wePage n) f) ∧
    (s.linkCtrlStored n w).get (wePage n) Weatas.LINK_CTRL_TEST_PATTERN =
      if patternOk (bitsOf w 23 20) true (s.testMode n) then bitsOf w 23 20 else s.get (wePage n) Weatas.LINK_CTRL_TEST_PATTERN := by
  let fs := [Weatas.LINK_CTRL_CAM_RETRAIN, Weatas.LINK_CTRL_FEC_RETRAIN, Weatas.LINK_CTRL_RETRY_MS]
  let u := s.writeFields (wePage n) w 11 fs
  have hu : ∀ f : Field, f.place ∈ linkCtrlLeaves ++ [Weatas.LINK_CTRL_TEST_PATTERN.place] → u.get (wePage n) f = s.get (wePage n) f := by
    intro f hf
    have hplaces : ∀ p ∈ linkCtrlLeaves ++ [Weatas.LINK_CTRL_TEST_PATTERN.place], p < 0x8000 ∧ Hdr.EVT_STAT_EVENT.place ≠ p ∧ ∀ g ∈ fs, g.place < 0x8000 ∧ g.place ≠ p := by
      decide
    obtain ⟨hlt, hev, hfs⟩ := hplaces _ hf
    exact State.get_writeFields_other _ _ _ _ _ (fun g hg => fieldKey_ne_of_place (hfs g hg).1 hlt (hfs g hg).2)
      (fieldKey_ne_of_place (by decide) hlt hev)
  have hlanes : u.lanes = s.lanes := (s.sameFaults_writeFields _ _ _ _).2
  have hmode : u.testMode n = s.testMode n := by
    unfold State.testMode State.laneMode State.lane
    rw [hlanes, hu _ (by decide), hu _ (by decide)]
  have hstored : s.linkCtrlStored n w = if patternOk (bitsOf w 23 20) true (s.testMode n) then
      u.put (wePage n) Weatas.LINK_CTRL_TEST_PATTERN (bitsOf w 23 20) else u.event (wePage n) 11 := by
    rw [← hmode]
    rfl
  have hsmall : bitsOf w 23 20 % 16 = bitsOf w 23 20 := Nat.mod_mod _ _
  have hleaves : ∀ p ∈ linkCtrlLeaves, p < 0x8000 ∧ Hdr.EVT_STAT_EVENT.place ≠ p ∧ Weatas.LINK_CTRL_TEST_PATTERN.place ≠ p := by decide
  rw [hstored]
  split
  · refine ⟨hlanes, State.writeFields_out _ _ _ _ _, fun f hf => ?_, ?_⟩
    · obtain ⟨hlt, -, h⟩ := hleaves _ hf
      exact (State.get_put_other _ _ (fieldKey_ne_of_place (by decide) hlt h)).trans (hu _ (List.mem_append_left _ hf))
    · rw [State.get_put_same]
      exact hsmall
  · refine ⟨hlanes, State.writeFields_out _ _ _ _ _, fun f hf => ?_, ?_⟩
    · obtain ⟨hlt, h, -⟩ := hleaves _ hf
      exact (State.get_event_other _ _ (fieldKey_ne_of_place (by decide) hlt h)).trans (hu _ (List.mem_append_left _ hf))
    · exact (State.get_event_other _ _ (by simp +decide)).trans (hu _ (by decide))

/-- The test begins: the link leaves operation, its receiver starts afresh in the test's mode, and the camera is told. -/
def State.testBegun (s : State) (n : Nat) : State :=
  let s := s.leaveOperating n true false
  let s := ((s.put (wePage n) Weatas.LANE_STAT_MODE_ACT (s.testMode n)).linkTo n 12).acquire n
  s.putLane n { s.lane n with queue := [s.testMessage n 1], inbox := [] }

theorem State.testBegun_effect (s : State) (n : Fin 32) :
    (s.testBegun n).linkState n = 12 ∧ (s.testBegun n).rxState n = 2 ∧ ((s.testBegun n).lane n).queue = [(s.testBegun n).testMessage n 1] ∧
    (s.testBegun n).get (wePage n) Weatas.LINK_CTRL_TEST_PATTERN = s.get (wePage n) Weatas.LINK_CTRL_TEST_PATTERN := by
  let u := s.leaveOperating n true false
  let v := u.put (wePage n) Weatas.LANE_STAT_MODE_ACT (u.testMode n)
  let w := (v.linkTo n 12).acquire n
  have heq : s.testBegun n = w.putLane n { w.lane n with queue := [w.testMessage n 1], inbox := [] } := rfl
  have hfirm : w.firm = s.firm := (State.firm_acquire _ _).trans ((State.firm_linkTo _ _ _).trans
    ((State.firm_putWe _ _ _ (by decide)).trans (State.firm_leaveOperating _ _ _ _)))
  rw [heq]
  refine ⟨?_, ?_, ?_, State.get_of_firm hfirm n (by decide)⟩
  · exact (State.get_acquire (v.linkTo n 12) n (f := Weatas.LINK_STAT_STATE) (by decide)).trans (State.linkState_linkTo _ _ _)
  · exact ((v.linkTo n 12).acquire_effect n).2.1
  · rw [State.lane_putLane_same]
    rfl

theorem exec_testStart {req : Requester} {n : Fin 32} {w : Word} {s : State}
    (hs : s.serves req (regOff (wePage n) Weatas.LINK_CTRL_TEST_START) = true) (hstate : 2 ≤ s.linkState n) (h31 : w.getLsbD 31 = false)
    (h29 : w.getLsbD 29 = false) :
    exec (.testStart req n w) s = .next ((s.linkCtrlStored n (w ||| 0x40000000#32).toNat).testBegun n) := by
  have hb31 : (w ||| 0x40000000#32).toNat.testBit 31 = false := by
    rw [BitVec.testBit_toNat, BitVec.getLsbD_or, h31]
    decide
  have hb30 : (w ||| 0x40000000#32).toNat.testBit 30 = true := by
    rw [BitVec.testBit_toNat, BitVec.getLsbD_or, Bool.or_eq_true]
    exact Or.inr (by decide)
  have hb29 : (w ||| 0x40000000#32).toNat.testBit 29 = false := by
    rw [BitVec.testBit_toNat, BitVec.getLsbD_or, h29]
    decide
  have hstored : (s.linkCtrlStored n (w ||| 0x40000000#32).toNat).linkState n = s.linkState n :=
    (s.linkCtrlStored_keeps n _).2.2.1 _ (by decide)
  rw [exec, execTestStart, State.onWrite_served hs]
  generalize (w ||| 0x40000000#32).toNat = v at *
  have hwrite : s.writeLinkCtrl n v = (s.linkCtrlStored n v).testBegun n := by
    unfold State.writeLinkCtrl
    simp only [hb31, hb30, hb29, Bool.false_eq_true, false_and, if_false, true_and]
    exact if_pos (hstored ▸ hstate)
  rw [hwrite]

theorem exec_testStop {req : Requester} {n : Fin 32} {w : Word} {s : State}
    (hs : s.serves req (regOff (wePage n) Weatas.LINK_CTRL_TEST_STOP) = true) (hstate : s.linkState n = 12) (h31 : w.getLsbD 31 = false)
    (h30 : w.getLsbD 30 = false) :
    exec (.testStop req n w) s = .next (((s.linkCtrlStored n (w ||| 0x20000000#32).toNat).sendBack n
      ((s.linkCtrlStored n (w ||| 0x20000000#32).toNat).testMessage n 0)).startTraining n) := by
  have hb31 : (w ||| 0x20000000#32).toNat.testBit 31 = false := by
    rw [BitVec.testBit_toNat, BitVec.getLsbD_or, h31]
    decide
  have hb30 : (w ||| 0x20000000#32).toNat.testBit 30 = false := by
    rw [BitVec.testBit_toNat, BitVec.getLsbD_or, h30]
    decide
  have hb29 : (w ||| 0x20000000#32).toNat.testBit 29 = true := by
    rw [BitVec.testBit_toNat, BitVec.getLsbD_or, Bool.or_eq_true]
    exact Or.inr (by decide)
  have hstored : (s.linkCtrlStored n (w ||| 0x20000000#32).toNat).linkState n = s.linkState n :=
    (s.linkCtrlStored_keeps n _).2.2.1 _ (by decide)
  rw [exec, execTestStop, State.onWrite_served hs]
  generalize (w ||| 0x20000000#32).toNat = v at *
  have hwrite : s.writeLinkCtrl n v = ((s.linkCtrlStored n v).sendBack n ((s.linkCtrlStored n v).testMessage n 0)).startTraining n := by
    unfold State.writeLinkCtrl
    simp only [hb31, hb30, hb29, Bool.false_eq_true, false_and, if_false, true_and]
    exact if_pos (hstored.trans hstate)
  rw [hwrite]

/-- Settles O27. -/
theorem linkTestsStartAndStop : Obligations.LinkTestsStartAndStop := by
  refine ⟨fun req n w s hs hstate h31 h29 => ?start, fun req n w s hs hstate h31 h30 => ?stop, fun n s hstate hfree => ?resend⟩
  case start =>
    have hpattern : bitsOf (w ||| 0x40000000#32).toNat 23 20 = w.toNat / 2 ^ 20 % 16 := by
      have hbits : (w ||| 0x40000000#32).extractLsb' 20 4 = w.extractLsb' 20 4 := by
        ext i hi
        simp only [BitVec.getElem_extractLsb', BitVec.getLsbD_or]
        interval_cases i <;> simp +decide
      have hnat := congrArg BitVec.toNat hbits
      simpa [BitVec.extractLsb'_toNat, Nat.shiftRight_eq_div_pow, bitsOf] using hnat
    obtain ⟨-, -, -, hstored⟩ := s.linkCtrlStored_keeps n (w ||| 0x40000000#32).toNat
    obtain ⟨h1, h2, h3, h4⟩ := (s.linkCtrlStored n (w ||| 0x40000000#32).toNat).testBegun_effect n
    rw [hpattern] at hstored
    exact ⟨_, exec_testStart hs hstate h31 h29, h1, h2, h3, h4.trans hstored⟩
  case stop =>
    have ht := exec_testStop hs hstate h31 h30
    obtain ⟨hlanes, hout, hget, -⟩ := s.linkCtrlStored_keeps n (w ||| 0x20000000#32).toNat
    generalize s.linkCtrlStored n (w ||| 0x20000000#32).toNat = u at ht hlanes hout hget
    obtain ⟨hslane, hsout, hsregs, -⟩ := u.sendBack_effect n (u.testMessage n 0)
    obtain ⟨hatt, htout⟩ := (u.sendBack n (u.testMessage n 0)).startTraining_attempts n
    have hpattern : ((u.sendBack n (u.testMessage n 0)).startTraining n).get (wePage n) Weatas.LINK_CTRL_TEST_PATTERN =
        u.get (wePage n) Weatas.LINK_CTRL_TEST_PATTERN :=
      (State.get_of_firm (State.firm_startTraining _ _) n (by decide)).trans (State.get_of_regs hsregs _ _)
    have hulane : u.lane n = s.lane n := by rw [State.lane, hlanes, State.lane]
    have hfirst : (u.sendBack n (u.testMessage n 0)).firstMode n = s.firstMode n := by
      unfold State.firstMode State.highestMode
      rw [hslane, State.get_of_regs hsregs, State.get_of_regs hsregs, hget _ (by decide), hget _ (by decide), hulane]
    have hepoch : (u.sendBack n (u.testMessage n 0)).get (wePage n) Weatas.LINK_STAT_EPOCH = s.get (wePage n) Weatas.LINK_STAT_EPOCH :=
      (State.get_of_regs hsregs _ _).trans (hget _ (by decide))
    refine ⟨_, ht, ?_, fun b hb => ?_, SameMemory.of_exec ht (by rw [exec]; exact answers_testStop (Quiet.refl s))⟩
    · rw [hfirst] at hatt
      obtain ⟨h1, h2⟩ := hatt
      exact ⟨fun k hk => ⟨(h1 k hk).1, (h1 k hk).2.1, (h1 k hk).2.2.1, (h1 k hk).2.2.2.trans (by rw [hepoch])⟩, h2⟩
    · rw [htout, hsout, hout, hulane, hb, hpattern]
      rfl
  case resend =>
    have ht : exec (.testResend n) s = .next (s.bcSend n 7 (s.testMessage n 1).payload) := by
      rw [exec, execTestResend, if_pos ⟨hstate, by rw [hfree]; rfl⟩]
    refine ⟨_, ht, ?_, rfl, SameMemory.of_exec ht (by rw [exec]; exact answers_testResend (Quiet.refl s)), rfl, rfl⟩
    rw [State.bcSend, State.lane_putLane_same]
    rfl

end Sys2Proof.Machine
end

section
/-! PROOFS. Heartbeats and failures of the halves (R455 to R458). -/

namespace Sys2Proof.Machine

/-! ## The judgement of the Seawall -/

/-- The field that holds a half's state. -/
def halfField (h : Nat) : Field := if h = 0 then Seawall.SW_STAT_STATE_H0 else Seawall.SW_STAT_STATE_H1

theorem State.halfState_eq (s : State) (h : Nat) : s.halfState h = s.get swPage (halfField h) := by
  unfold State.halfState halfField
  split <;> rfl

theorem State.halfState_congr {s t : State} (h : Nat) (hget : t.get swPage (halfField h) = s.get swPage (halfField h)) :
    t.halfState h = s.halfState h := by
  rw [State.halfState_eq, State.halfState_eq, hget]

theorem State.putHalfState_eq (s : State) (h st : Nat) : s.putHalfState h st = s.put swPage (halfField h) st := rfl

/-- The places of the faults that the judgement of the Seawall writes. -/
def judgePlaces : List Nat := [fieldKey swPage Hdr.FLT_STAT_FAULT, fieldKey bcnPage Hdr.FLT_STAT_FAULT]

theorem State.judgeBeacon_effect (s : State) : WritesIn (· ∈ judgePlaces) s s.judgeBeacon ∧ ∀ b, s.judgeBeacon.condBit swPage b = s.condBit swPage b := by
  unfold State.judgeBeacon
  extract_lets noTarget starved hung lost
  refine ⟨(((WritesIn.refl _ s).cond (by decide)).cond (by decide)).cond (by decide), fun b => ?_⟩
  rw [State.condBit_cond_other _ _ (Or.inl (by decide)), State.condBit_cond_other _ _ (Or.inl (by decide)),
    State.condBit_cond_other _ _ (Or.inl (by decide))]

theorem State.judgeSeawall_effect (s : State) :
    WritesIn (· ∈ judgePlaces) s s.judgeSeawall ∧ s.judgeSeawall.condBit swPage 0 = ([0, 1].any s.halfFailed) ∧
    s.judgeSeawall.condBit swPage 1 = (s.get swPage Seawall.SW_STAT_DEGRADED != 0) ∧
    s.judgeSeawall.condBit swPage 2 = ([0, 1].all fun h => s.halfState h != 1) := by
  let u := s.cond swPage 0 ([0, 1].any s.halfFailed)
  let v := u.cond swPage 1 (u.get swPage Seawall.SW_STAT_DEGRADED != 0)
  let w := v.cond swPage 2 ([0, 1].all fun h => v.halfState h != 1)
  have heq : s.judgeSeawall = w.judgeBeacon := rfl
  have hu : WritesIn (· ∈ judgePlaces) s u := (WritesIn.refl _ s).cond (by decide)
  have hv : WritesIn (· ∈ judgePlaces) s v := hu.cond (by decide)
  have hw : WritesIn (· ∈ judgePlaces) s w := hv.cond (by decide)
  obtain ⟨hb, hbc⟩ := w.judgeBeacon_effect
  have hstate : (fun h => v.halfState h != 1) = fun h => s.halfState h != 1 := by
    funext h
    have hkey : fieldKey swPage (halfField h) ∉ judgePlaces := by
      unfold halfField
      split <;> decide
    rw [State.halfState_congr h (hv.get hkey)]
  rw [heq]
  refine ⟨hw.trans hb, (hbc 0).trans ?_, (hbc 1).trans ?_, (hbc 2).trans ?_⟩
  · exact (State.condBit_cond_other _ _ (Or.inr (by decide))).trans ((State.condBit_cond_other _ _ (Or.inr (by decide))).trans (State.condBit_cond _ _ _ _))
  · refine (State.condBit_cond_other _ _ (Or.inr (by decide))).trans ((State.condBit_cond _ _ _ _).trans ?_)
    rw [hu.get (by decide)]
  · exact (State.condBit_cond _ _ _ _).trans (by rw [hstate])

/-! ## Bits of a half -/

/-- A bit of a half, written in a two-bit field. -/
theorem State.hasBit_putHalfBit (s : State) {f : Field} (hf : f.size = 4) {h g : Nat} (hg : g < 2) (b : Bool) :
    hasBit ((s.putHalfBit f h b).get swPage f) g = if h = g then b else hasBit (s.get swPage f) g := by
  have hmod : ∀ m, hasBit (m % 4) g = hasBit m g := by
    intro m
    show Nat.testBit (m % 2 ^ 2) g = m.testBit g
    rw [Nat.testBit_mod_two_pow, decide_eq_true hg, Bool.true_and]
  have hput : (s.putHalfBit f h b).get swPage f = (if b then setBit (s.get swPage f) h else clearBit (s.get swPage f) h) % 4 := by
    rw [← hf]
    exact State.get_put_same ..
  rw [hput, hmod]
  cases b with
  | true =>
    rw [if_pos rfl, hasBit_setBit]
    split
    · next e => rw [decide_eq_true e, Bool.or_true]
    · next e => rw [decide_eq_false e, Bool.or_false]
  | false =>
    rw [if_neg Bool.false_ne_true, hasBit_clearBit]
    split
    · next e => rw [decide_eq_true e, Bool.not_true, Bool.and_false]
    · next e => rw [decide_eq_false e, Bool.not_false, Bool.and_true]

/-- The places that the judgement of a half's heartbeats writes. -/
def beatPlaces : List Nat := [fieldKey swPage Seawall.SW_STAT_DEGRADED, fieldKey swPage Hdr.EVT_STAT_EVENT] ++ judgePlaces

/-- Whether a half whose heartbeats are judged lacks one of them. -/
def State.halfLacks (s : State) (h : Nat) : Bool := s.hbJudged h && !(s.flag swPage (hbOk h true) && s.flag swPage (hbOk h false))

/-- An event of the Seawall that is set stays set, and a half that is found degraded sets its own. -/
theorem State.judgeDegraded_effect (s : State) {h : Nat} (hh : h < 2) :
    WritesIn (· ∈ beatPlaces) s (s.judgeDegraded h) ∧ hasBit ((s.judgeDegraded h).get swPage Seawall.SW_STAT_DEGRADED) h = s.halfLacks h ∧
    (s.judgeDegraded h).condBit swPage 1 = ((s.judgeDegraded h).get swPage Seawall.SW_STAT_DEGRADED != 0) ∧
    ∀ b < 32, (s.judgeDegraded h).eventBit swPage b =
      (s.eventBit swPage b || (s.halfLacks h && !hasBit (s.get swPage Seawall.SW_STAT_DEGRADED) h && decide (3 = b))) := by
  let u := s.putHalfBit Seawall.SW_STAT_DEGRADED h (s.halfLacks h)
  let v := u.eventIf (s.halfLacks h && !hasBit (s.get swPage Seawall.SW_STAT_DEGRADED) h) swPage 3
  have heq : s.judgeDegraded h = v.judgeSeawall := rfl
  have hu : WritesIn (· ∈ beatPlaces) s u := (WritesIn.refl _ s).put _ (by decide)
  have hv : WritesIn (· ∈ beatPlaces) s v := hu.eventIf (by decide)
  obtain ⟨hw, -, hc, -⟩ := v.judgeSeawall_effect
  have hdeg : v.judgeSeawall.get swPage Seawall.SW_STAT_DEGRADED = u.get swPage Seawall.SW_STAT_DEGRADED :=
    (hw.get (by decide)).trans (State.get_eventIf_other _ _ _ (by decide))
  rw [heq]
  refine ⟨hv.trans (hw.mono fun k hk => List.mem_append_right _ hk), ?_, ?_, fun b hb => ?_⟩
  · rw [hdeg, State.hasBit_putHalfBit s rfl hh, if_pos rfl]
  · rw [hc, hw.get (by decide)]
  · rw [State.eventBit_congr v (hw.get (by decide)), State.eventBit_eventIf _ hb,
      show u.eventBit swPage b = s.eventBit swPage b from State.eventBit_put_other _ _ (by decide)]

theorem hbOk_ne (h : Fin 2) (wire : Bool) : fieldKey swPage (hbOk h wire) ∉ beatPlaces ∧ fieldKey swPage (hbOk h wire) ≠ fieldKey swPage (hbOk h !wire) ∧
    (∀ g : Fin 2, fieldKey swPage (hbOk h wire) ≠ fieldKey swPage (halfField g)) ∧
    fieldKey swPage (hbOk h wire) ≠ fieldKey swPage (hbLosses h wire) ∧ fieldKey swPage (hbLosses h wire) ∉ beatPlaces ∧
    fieldKey swPage (hbOk h wire) ≠ fieldKey swPage Seawall.SW_STAT_DEGRADED := by
  revert h wire
  decide

theorem hbLosses_ne (h : Fin 2) (wire : Bool) : (∀ g : Fin 2, fieldKey swPage (hbLosses h wire) ≠ fieldKey swPage (halfField g)) ∧
    fieldKey swPage (hbLosses h wire) ≠ fieldKey swPage Seawall.SW_STAT_DEGRADED := by
  revert h wire
  decide

theorem State.hbJudged_congr {s t : State} (h : Nat) (hget : t.get swPage (halfField h) = s.get swPage (halfField h)) : t.hbJudged h = s.hbJudged h := by
  rw [State.hbJudged, State.hbJudged, State.halfState_congr h hget]

/-! ## Heartbeats -/

/-- A good beat resets its path, and the half is degraded where it lacks the other. -/
theorem State.goodBeat_effect (s : State) (h : Fin 2) (wire : Bool) :
    (s.goodBeat h wire).flag swPage (hbOk h wire) = true ∧
    hasBit ((s.goodBeat h wire).get swPage Seawall.SW_STAT_DEGRADED) h = (s.hbJudged h && !s.flag swPage (hbOk h !wire)) ∧
    (s.goodBeat h wire).condBit swPage 1 = ((s.goodBeat h wire).get swPage Seawall.SW_STAT_DEGRADED != 0) := by
  let w := s.seawall
  let u : State := { s with seawall := if wire then { w with wireAt := w.wireAt.set h s.time.c } else { w with mbxAt := w.mbxAt.set h s.time.c } }
  let v := u.put swPage (hbOk h wire) 1
  have heq : s.goodBeat h wire = v.judgeDegraded h := rfl
  obtain ⟨h1, h2, h3, -⟩ := v.judgeDegraded_effect h.isLt
  obtain ⟨hne, hother, hstate, -⟩ := hbOk_ne h wire
  have hset : v.flag swPage (hbOk h wire) = true := State.flag_put_one ..
  have hlacks : v.halfLacks h = (s.hbJudged h && !s.flag swPage (hbOk h !wire)) := by
    have hrest : v.flag swPage (hbOk h !wire) = s.flag swPage (hbOk h !wire) := State.flag_put_other _ _ hother
    have hjudged : v.hbJudged h = s.hbJudged h := State.hbJudged_congr h (State.get_put_other _ _ (hstate h))
    rw [State.halfLacks, hjudged]
    cases wire
    · rw [show v.flag swPage (hbOk h true) = s.flag swPage (hbOk h true) from hrest, hset, Bool.and_true]
      rfl
    · rw [show v.flag swPage (hbOk h false) = s.flag swPage (hbOk h false) from hrest, hset, Bool.true_and]
      rfl
  rw [heq]
  exact ⟨(h1.flag hne).trans hset, h2.trans hlacks, h3⟩

theorem State.goodBeat_seawall (s : State) (h : Nat) (wire : Bool) : (s.goodBeat h wire).seawall =
    if wire then { s.seawall with wireAt := s.seawall.wireAt.set h s.time.c } else { s.seawall with mbxAt := s.seawall.mbxAt.set h s.time.c } := by
  have hjudge : ∀ (t : State) g, (t.judgeDegraded g).seawall = t.seawall := by
    intro t g
    have hif : ∀ (t : State) c, (t.eventIf c swPage 3).seawall = t.seawall := fun t c => by cases c <;> rfl
    simp only [State.judgeDegraded, State.judgeSeawall, State.judgeBeacon, State.cond_seawall, hif]
    rfl
  exact hjudge _ h

theorem heartbeatWireEdge_completes (h : Fin 2) (s : State) :
    Completes (.heartbeatWireEdge h) s fun t =>
      t.seawall.wireAt = s.seawall.wireAt.set h s.time.c ∧ t.flag swPage (hbOk h true) = true ∧
      hasBit (t.get swPage Seawall.SW_STAT_DEGRADED) h = (s.hbJudged h && !s.flag swPage (hbOk h false)) ∧
      t.condBit swPage 1 = (t.get swPage Seawall.SW_STAT_DEGRADED != 0) ∧ SameMemory s t := by
  have ht : exec (.heartbeatWireEdge h) s = .next (s.goodBeat h true) := rfl
  obtain ⟨h1, h2, h3⟩ := s.goodBeat_effect h true
  refine ⟨_, ht, ?_, h1, h2, h3, SameMemory.of_exec ht (by rw [exec]; exact answers_heartbeatWireEdge (Quiet.refl s))⟩
  rw [State.goodBeat_seawall, if_pos rfl]

/-- The reference that a mailbox message leaves. -/
def State.referred (s : State) (h count : Nat) : State := { s with seawall := { s.seawall with mbxRef := s.seawall.mbxRef.set h (some count) } }

theorem heartbeatMailbox_completes (h : Fin 2) (index : Fin 256) (count : Fin 65536) (s : State) :
    Completes (.heartbeatMailbox h index count) s fun t =>
      (index.val ≠ h.val → t = s) ∧
      (index.val = h.val → t.seawall.mbxRef = s.seawall.mbxRef.set h (some count.val) ∧
        (∀ r, s.seawall.mbxRef.getD h none = some r → count.val = (r + 1) % 65536 →
          t.flag swPage (hbOk h false) = true ∧ t.seawall.mbxAt = s.seawall.mbxAt.set h s.time.c) ∧
        (∀ r, s.seawall.mbxRef.getD h none = some r → count.val ≠ (r + 1) % 65536 → t.regs = s.regs ∧ t.seawall.mbxAt = s.seawall.mbxAt) ∧
        (s.seawall.mbxRef.getD h none = none → t.regs = s.regs ∧ t.seawall.mbxAt = s.seawall.mbxAt)) ∧ SameMemory s t := by
  have hmem : ∀ t, exec (.heartbeatMailbox h index count) s = .next t → SameMemory s t := fun t ht =>
    SameMemory.of_exec ht (by rw [exec]; exact answers_heartbeatMailbox (Quiet.refl s))
  by_cases hi : index.val = h.val
  · have hbad : (∀ r, s.seawall.mbxRef.getD h none = some r → count.val ≠ (r + 1) % 65536) →
        exec (.heartbeatMailbox h index count) s = .next (s.referred h count) := by
      intro hb
      rw [exec, execHeartbeatMailbox, if_neg (by simp [hi])]
      cases hr : s.seawall.mbxRef.getD h none with
      | none => rfl
      | some r =>
        simp only [beq_eq_false_iff_ne.mpr (hb r hr), Bool.false_eq_true, if_false]
        rfl
    cases hr : s.seawall.mbxRef.getD h none with
    | none =>
      have ht := hbad (by rw [hr]; nofun)
      exact ⟨_, ht, fun hne => absurd hi hne, fun _ => ⟨rfl, nofun, nofun, fun _ => ⟨rfl, rfl⟩⟩, hmem _ ht⟩
    | some r =>
      by_cases hc : count.val = (r + 1) % 65536
      · have ht : exec (.heartbeatMailbox h index count) s = .next ((s.referred h count).goodBeat h false) := by
          rw [exec, execHeartbeatMailbox, if_neg (by simp [hi])]
          simp only [hr, hc, beq_self_eq_true, if_true]
          rfl
        obtain ⟨h1, -, -⟩ := (s.referred h count).goodBeat_effect h false
        have hsea := (s.referred h count).goodBeat_seawall h false
        rw [if_neg Bool.false_ne_true] at hsea
        refine ⟨_, ht, fun hne => absurd hi hne, fun _ => ⟨by rw [hsea]; rfl, fun r' _ _ => ⟨h1, by rw [hsea]; rfl⟩, fun r' hr' hc' => ?_, nofun⟩, hmem _ ht⟩
        cases hr'
        exact absurd hc hc'
      · have ht := hbad (fun r' hr' => by
          rw [hr] at hr'
          cases hr'
          exact hc)
        refine ⟨_, ht, fun hne => absurd hi hne, fun _ => ⟨rfl, fun r' hr' hc' => ?_, fun _ _ _ => ⟨rfl, rfl⟩, fun _ => ⟨rfl, rfl⟩⟩, hmem _ ht⟩
        cases hr'
        exact absurd hc' hc
  · have ht : exec (.heartbeatMailbox h index count) s = .next s := by
      rw [exec, execHeartbeatMailbox, if_pos hi]
    exact ⟨_, ht, fun _ => rfl, fun h' => absurd h' hi, hmem _ ht⟩

theorem halfDegraded_completes (h : Fin 2) (wire : Bool) (s : State) (hj : s.hbJudged h = true) (hok : s.flag swPage (hbOk h wire) = true) :
    Completes (.halfDegraded h wire) s fun t =>
      t.flag swPage (hbOk h wire) = false ∧ t.get swPage (hbLosses h wire) = min (s.get swPage (hbLosses h wire) + 1) ((hbLosses h wire).size - 1) ∧
      hasBit (t.get swPage Seawall.SW_STAT_DEGRADED) h = true ∧ t.condBit swPage 1 = true ∧
      (hasBit (s.get swPage Seawall.SW_STAT_DEGRADED) h = false → t.eventBit swPage 3 = true) ∧ SameMemory s t := by
  let u := (s.put swPage (hbOk h wire) 0).countSat swPage (hbLosses h wire)
  let v := u.noteHalf h fun t => { t with hbBad := true }
  have ht : exec (.halfDegraded h wire) s = .next (v.judgeDegraded h) := by
    rw [exec, execHalfDegraded, if_neg (by simp [hj, hok])]
  obtain ⟨hne, hother, hstate, hloss, hlossne, hdeg⟩ := hbOk_ne h wire
  have hlosskeys := hbLosses_ne h wire
  have hbad : v.flag swPage (hbOk h wire) = false := by
    refine (State.flag_congr (s.put swPage (hbOk h wire) 0) ?_).trans (State.flag_put_zero ..)
    exact (State.get_countSat _ _).trans (if_neg (Ne.symm hloss))
  have hvget : ∀ f : Field, fieldKey swPage (hbOk h wire) ≠ fieldKey swPage f → fieldKey swPage (hbLosses h wire) ≠ fieldKey swPage f →
      v.get swPage f = s.get swPage f := fun f h1 h2 => ((State.get_countSat _ _).trans (if_neg h2)).trans (State.get_put_other _ _ h1)
  have hlacks : v.halfLacks h = true := by
    rw [State.halfLacks, State.hbJudged_congr h (hvget _ (hstate h) (hlosskeys.1 h)), hj]
    cases wire
    · rw [hbad, Bool.and_false]
      rfl
    · rw [hbad, Bool.false_and]
      rfl
  obtain ⟨h1, h2, h3, h4⟩ := v.judgeDegraded_effect h.isLt
  rw [hlacks] at h2 h4
  refine ⟨_, ht, (h1.flag hne).trans hbad, ?_, h2, ?_, fun hwas => ?_, SameMemory.of_exec ht (by rw [exec]; exact answers_halfDegraded (Quiet.refl s))⟩
  · have hu : u.get swPage (hbLosses h wire) = min (s.get swPage (hbLosses h wire) + 1) ((hbLosses h wire).size - 1) := by
      rw [State.get_countSat_same, State.get_put_other _ _ hloss]
    exact (h1.get hlossne).trans hu
  · rw [h3, bne_iff_ne]
    intro h0
    rw [h0] at h2
    simp [hasBit] at h2
  · rw [h4 3 (by decide), hvget _ hdeg hlosskeys.2, hwas]
    simp

/-! ## A half fails -/

/-- Events that are set stay set. -/
def KeepsEvents (pg : Nat) (s t : State) : Prop := ∀ b < 32, s.eventBit pg b = true → t.eventBit pg b = true

section
variable {pg : Nat} {s t u : State}

theorem KeepsEvents.refl (pg : Nat) (s : State) : KeepsEvents pg s s := fun _ _ h => h
theorem KeepsEvents.trans (h : KeepsEvents pg s t) (h' : KeepsEvents pg t u) : KeepsEvents pg s u := fun b hb hs => h' b hb (h b hb hs)

theorem KeepsEvents.of_get (h : t.get pg Hdr.EVT_STAT_EVENT = s.get pg Hdr.EVT_STAT_EVENT) : KeepsEvents pg s t := fun b _ hs =>
  (State.eventBit_congr s h b).trans hs

theorem KeepsEvents.put (h : KeepsEvents pg s t) {pg' : Nat} {f : Field} (v : Nat) (hne : fieldKey pg' f ≠ fieldKey pg Hdr.EVT_STAT_EVENT) :
    KeepsEvents pg s (t.put pg' f v) := h.trans (.of_get (State.get_put_other _ _ hne))

theorem KeepsEvents.event (h : KeepsEvents pg s t) (b : Nat) : KeepsEvents pg s (t.event pg b) := h.trans fun c hc hs => by
  rw [State.eventBit_event_of_page _ hc, hs, Bool.true_or]

theorem KeepsEvents.eventIf (h : KeepsEvents pg s t) (c : Bool) (b : Nat) : KeepsEvents pg s (t.eventIf c pg b) := by
  cases c
  · exact h
  · exact h.event b

theorem KeepsEvents.judgeSeawall (h : KeepsEvents swPage s t) : KeepsEvents swPage s t.judgeSeawall :=
  h.trans (.of_get (t.judgeSeawall_effect.1.get (by decide)))

end

/-- The places that a half's failure writes before control moves. -/
def failPlaces (h : Nat) : List Nat :=
  [fieldKey swPage (halfField h), fieldKey swPage Seawall.SW_STAT_RECOVER_COUNT, fieldKey swPage Seawall.SW_CMD_SWITCH] ++ beatPlaces

theorem State.dropSwitch_effect (s : State) (c : Bool) :
    WritesIn (· ∈ [fieldKey swPage Seawall.SW_CMD_SWITCH, fieldKey swPage Hdr.EVT_STAT_EVENT]) s (s.dropSwitch c) ∧ KeepsEvents swPage s (s.dropSwitch c) := by
  unfold State.dropSwitch
  split
  · exact ⟨WritesIn.refl _ s, KeepsEvents.refl _ s⟩
  · exact ⟨((WritesIn.refl _ s).put _ (by decide)).eventIf (by decide), ((KeepsEvents.refl _ s).put _ (by decide)).eventIf _ _⟩

/-- A failing half is FAILED, and its switch and its heartbeats are dropped. -/
def State.halfFails (s : State) (h : Nat) : State :=
  let acted := s.halfState h == 1
  let s := (s.putHalfState h 4).event swPage 4
  let s := if s.halfState (1 - h) = 3 then s else s.put swPage Seawall.SW_STAT_RECOVER_COUNT 0
  let s := { s with seawall := { s.seawall with bist := s.seawall.bist.set h none } }
  (s.judgeDegraded h).dropSwitch (!acted)

theorem halfField_facts (h : Fin 2) : (halfField h).size = 8 ∧ fieldKey swPage Hdr.EVT_STAT_EVENT ≠ fieldKey swPage (halfField h) ∧
    fieldKey swPage (halfField h) ≠ fieldKey swPage Seawall.SW_STAT_RECOVER_COUNT ∧ fieldKey swPage (halfField h) ∉ beatPlaces ∧
    fieldKey swPage (halfField h) ∉ [fieldKey swPage Seawall.SW_CMD_SWITCH, fieldKey swPage Hdr.EVT_STAT_EVENT] := by
  revert h
  decide

theorem State.halfFails_effect (s : State) (h : Fin 2) :
    (s.halfFails h).halfState h = 4 ∧ (s.halfFails h).eventBit swPage 4 = true ∧ WritesIn (· ∈ failPlaces h) s (s.halfFails h) := by
  unfold State.halfFails
  extract_lets acted a b w c
  obtain ⟨hsize, hevne, hrecover, hbeat, hswitch⟩ := halfField_facts h
  have ha : WritesIn (· ∈ failPlaces h) s a :=
    ((WritesIn.refl _ s).put _ (List.mem_append_left _ (.head _))).event (List.mem_append_right _ (by decide))
  have haev : a.eventBit swPage 4 = true := by
    show ((s.putHalfState h 4).event swPage 4).eventBit swPage 4 = true
    rw [State.eventBit_event_of_page _ (by decide)]
    simp
  have hastate : a.get swPage (halfField h) = 4 := by
    show ((s.putHalfState h 4).event swPage 4).get swPage (halfField h) = 4
    rw [State.putHalfState_eq, State.get_event_other _ _ hevne, State.get_put_same, hsize]
  have hb : WritesIn (· = fieldKey swPage Seawall.SW_STAT_RECOVER_COUNT) a b := by
    simp only [b]
    split
    · exact WritesIn.refl _ a
    · exact (WritesIn.refl _ a).put _ rfl
  have hc : WritesIn (· = fieldKey swPage Seawall.SW_STAT_RECOVER_COUNT) a c := hb
  clear_value c a
  obtain ⟨h1, -, -, h4⟩ := c.judgeDegraded_effect h.isLt
  obtain ⟨g1, g2⟩ := (c.judgeDegraded h).dropSwitch_effect (!acted)
  refine ⟨?_, ?_, ?_⟩
  · rw [State.halfState_eq, g1.get hswitch, h1.get hbeat, hc.get hrecover, hastate]
  · refine g2 4 (by decide) ?_
    rw [h4 4 (by decide), State.eventBit_congr a (hc.get (by decide)), haev, Bool.true_or]
  · refine ha.trans ((hc.mono fun k hk => ?_).trans ((h1.mono fun k hk => List.mem_append_right _ hk).trans (g1.mono fun k hk => ?_)))
    · subst hk
      exact List.mem_append_left _ (by simp)
    · simp only [List.mem_cons, List.not_mem_nil, or_false] at hk
      rcases hk with rfl | rfl
      · exact List.mem_append_left _ (by simp)
      · exact List.mem_append_right _ (by decide)

/-- What a failed half had in work is cut off: its frames, its cores' steps, its host port and its self-checks. -/
def State.halfCut (s : State) (h : Nat) : State := (((s.cutHalf h).coresFail h).portFails h).dropSelfChecks h

theorem State.failHalf_eq {s : State} {h : Nat} (hj : s.hbJudged h = true) (cause : Nat) : s.failHalf h cause =
    (if !(s.halfState h == 1) then (s.halfFails h).halfCut h
      else if ((s.halfFails h).halfCut h).isCandidate (1 - h) then ((s.halfFails h).halfCut h).switchTo h (1 - h) cause false
      else ((s.halfFails h).halfCut h).actNone).judgeSeawall := by
  have hno : (s.halfFailed h || s.halfState h == 0) = false := by
    simp only [State.hbJudged, State.halfFailed, Bool.and_eq_true, bne_iff_ne, Bool.or_eq_false_iff, beq_eq_false_iff_ne] at hj ⊢
    exact hj
  unfold State.failHalf
  rw [hno, if_neg Bool.false_ne_true]
  rfl

theorem State.dropSelfChecks_regs (s : State) (h : Nat) : (s.dropSelfChecks h).regs = s.regs := rfl

/-- The cut leaves the Seawall's registers alone. -/
theorem State.get_halfCut (s : State) (h : Fin 2) {f : Field} (hf : outerKey (fieldKey swPage f) = false) :
    (s.halfCut h).get swPage f = s.get swPage f := by
  have hcores : ∀ t : State, (t.coresFail h).inner = t.inner := by
    intro t
    have hlt := h.isLt
    rw [State.coresFail, State.inner_beaconDropLp _ (by omega), State.inner_beaconDropLp _ (by omega)]
    rfl
  have hport : ∀ t : State, (t.portFails h).inner = t.inner := fun t => by simp [State.portFails]
  have hinner : (((s.cutHalf h).coresFail h).portFails h).inner = s.inner := by
    rw [hport, hcores, State.cutHalf, State.inner_cutParts]
  rw [State.halfCut, State.get_of_regs (State.dropSelfChecks_regs _ _)]
  exact State.get_of_inner hinner hf

/-! ## Control moves -/

/-- The places of the splits of a half's frames. -/
def splitPlaces : List Nat := (List.range 8).flatMap fun k => [0, 1, 2, 3].map fun o => fieldKey swPage1 (Seawall.SW_SPLIT_VALID.nth k o)

theorem State.startSplits_writes (s : State) (h : Nat) : WritesIn (· ∈ splitPlaces) s (s.startSplits h) := by
  have hfold : WritesIn (· ∈ splitPlaces) s ((List.range 8).foldl (fun (s : State) k => [0, 1, 2, 3].foldl (fun (s : State) o =>
      s.put swPage1 (Seawall.SW_SPLIT_VALID.nth k o) 0) s) s) :=
    (WritesIn.refl _ s).foldl fun t k hk ht => ht.foldl fun u o ho hu =>
      hu.put _ (List.mem_flatMap.mpr ⟨k, hk, List.mem_map.mpr ⟨o, ho, rfl⟩⟩)
  unfold State.startSplits
  extract_lets a flying splits frames w
  have ha : WritesIn (· ∈ splitPlaces) s a := hfold
  clear_value a
  exact ha.regs rfl

theorem State.putActing_effect (s : State) {h : Nat} (b : Bool) :
    WritesIn (· = fieldKey swPage Seawall.SW_STAT_ACTING) s (s.putActing h b) ∧
    ∀ g < 2, (s.putActing h b).halfActing g = if h = g then b else s.halfActing g := by
  refine ⟨(WritesIn.refl _ s).put _ rfl, fun g hg => ?_⟩
  exact State.hasBit_putHalfBit s rfl hg b

theorem State.halfActing_congr {s t : State} (h : t.get swPage Seawall.SW_STAT_ACTING = s.get swPage Seawall.SW_STAT_ACTING) (g : Nat) :
    t.halfActing g = s.halfActing g := congrArg (hasBit · g) h

/-- The places that the record of a switch is written to. -/
def lastPlaces : List Nat := [Seawall.SW_LAST_CAUSE, Seawall.SW_LAST_FROM, Seawall.SW_LAST_TO, Seawall.SW_LAST_DUAL, Seawall.SW_LAST_TIME_LO_TIME,
  Seawall.SW_LAST_TIME_HI_TIME, Seawall.SW_LAST_WIN_NS, Seawall.SW_COUNT_FAILOVERS, Seawall.SW_COUNT_RETURNS, Seawall.SW_STAT_DUAL,
  Hdr.EVT_STAT_EVENT].map (fieldKey swPage)

/-- The record of a switch (R458): its cause, the halves, and its instant. -/
def State.switchNoted (s : State) (old new cause : Nat) (dual : Bool) : State :=
  let s := (s.put swPage Seawall.SW_LAST_CAUSE cause).put swPage Seawall.SW_LAST_FROM old
  let s := (s.put swPage Seawall.SW_LAST_TO new).put swPage Seawall.SW_LAST_DUAL (bit dual)
  let s := (s.put swPage Seawall.SW_LAST_TIME_LO_TIME s.now).put swPage Seawall.SW_LAST_TIME_HI_TIME (s.now / 2 ^ 32)
  let s := s.put swPage Seawall.SW_LAST_WIN_NS 0
  let s := s.countSat swPage (if cause < 9 then Seawall.SW_COUNT_FAILOVERS else Seawall.SW_COUNT_RETURNS)
  let s := s.eventIf (s.flag swPage Seawall.SW_STAT_DUAL && !dual) swPage 2
  let s := (s.event swPage 0).put swPage Seawall.SW_STAT_DUAL (bit dual)
  s.eventIf dual swPage 1

theorem State.switchNoted_effect (s : State) {old new : Nat} (cause : Nat) (dual : Bool) (hold : old < 2) (hnew : new < 2) :
    WritesIn (· ∈ lastPlaces) s (s.switchNoted old new cause dual) ∧ KeepsEvents swPage s (s.switchNoted old new cause dual) ∧
    (s.switchNoted old new cause dual).eventBit swPage 0 = true ∧
    (s.switchNoted old new cause dual).get swPage Seawall.SW_LAST_CAUSE = cause % 16 ∧
    (s.switchNoted old new cause dual).get swPage Seawall.SW_LAST_FROM = old ∧
    (s.switchNoted old new cause dual).get swPage Seawall.SW_LAST_TO = new ∧ (s.switchNoted old new cause dual).seawall = s.seawall := by
  have hcount : (if cause < 9 then Seawall.SW_COUNT_FAILOVERS else Seawall.SW_COUNT_RETURNS) ∈ [Seawall.SW_COUNT_FAILOVERS, Seawall.SW_COUNT_RETURNS] := by
    split <;> simp
  have hcountkeys : ∀ f ∈ [Seawall.SW_COUNT_FAILOVERS, Seawall.SW_COUNT_RETURNS], fieldKey swPage f ∈ lastPlaces.drop 3 ∧
      fieldKey swPage f ≠ fieldKey swPage Hdr.EVT_STAT_EVENT := by decide
  unfold State.switchNoted
  generalize (if cause < 9 then Seawall.SW_COUNT_FAILOVERS else Seawall.SW_COUNT_RETURNS) = count at hcount ⊢
  obtain ⟨hc1, hc2⟩ := hcountkeys count hcount
  extract_lets a b c d e f g
  have ha : WritesIn (· ∈ lastPlaces) s a := ((WritesIn.refl _ s).put _ (by decide)).put _ (by decide)
  have hb : WritesIn (· ∈ lastPlaces.drop 2) a b := ((WritesIn.refl _ a).put _ (by decide)).put _ (by decide)
  have hc : WritesIn (· ∈ lastPlaces.drop 3) b c := ((WritesIn.refl _ b).put _ (by decide)).put _ (by decide)
  have hd : WritesIn (· ∈ lastPlaces.drop 3) c d := (WritesIn.refl _ c).put _ (by decide)
  have he : WritesIn (· ∈ lastPlaces.drop 3) d e := (WritesIn.refl _ d).countSat hc1
  have hf : WritesIn (· ∈ lastPlaces.drop 3) e f := (WritesIn.refl _ e).eventIf (by decide)
  have hg : WritesIn (· ∈ lastPlaces.drop 3) f g := ((WritesIn.refl _ f).event (by decide)).put _ (by decide)
  have hafter : WritesIn (· ∈ lastPlaces.drop 3) b (g.eventIf dual swPage 1) := hc.trans (hd.trans (he.trans (hf.trans (hg.eventIf (by decide)))))
  have kd : KeepsEvents swPage s d := (((((((KeepsEvents.refl _ s).put _ (by decide)).put _ (by decide)).put _ (by decide)).put _ (by decide)).put _
    (by decide)).put _ (by decide)).put _ (by decide)
  have ke : KeepsEvents swPage s e := kd.put _ hc2
  have kg : KeepsEvents swPage s g := ((ke.eventIf _ _).event _).put _ (by decide)
  have hsea : ∀ (t : State) p q, (t.eventIf p swPage q).seawall = t.seawall := fun t p q => by cases p <;> rfl
  have hev : g.eventBit swPage 0 = true := by
    refine (State.eventBit_put_other _ _ (by decide)).trans ?_
    rw [State.eventBit_event_of_page _ (by decide)]
    simp
  have hmono : ∀ n k, k ∈ lastPlaces.drop n → k ∈ lastPlaces := fun n k => List.mem_of_mem_drop
  refine ⟨ha.trans ((hb.mono (hmono 2)).trans (hafter.mono (hmono 3))), kg.eventIf _ _, ?_, ?_, ?_, ?_, ?_⟩
  · exact (KeepsEvents.refl swPage g).eventIf dual 1 0 (by decide) hev
  · rw [hafter.get (by decide), hb.get (by decide)]
    exact (State.get_put_other _ _ (by decide)).trans (State.get_put_same ..)
  · rw [hafter.get (by decide), hb.get (by decide)]
    exact (State.get_put_same ..).trans (Nat.mod_eq_of_lt hold)
  · rw [hafter.get (by decide)]
    exact (State.get_put_other _ _ (by decide)).trans ((State.get_put_same ..).trans (Nat.mod_eq_of_lt hnew))
  · exact (hsea _ _ _).trans (hsea _ _ _)

/-- The new half acts: its self-test stops. -/
def State.nowActs (s : State) (new : Nat) : State :=
  let s := s.putHalfState new 1
  let s := { s with cores := { s.cores with resume := true } }
  if s.seawall.bist.getD new none == none then s else { s with seawall := { s.seawall with bist := s.seawall.bist.set new none } }

/-- The sentinel streams with a line in progress, for which both halves act for a while; none where control moves at once. -/
def State.dualOpened (s : State) (old cause : Nat) : List Nat :=
  if cause == 1 || cause == 6 then [] else (s.sentinels.filter (s.lineInProgress old)).map (·.stream)

/-- Their windows. -/
def State.dualWindows (s : State) (old cause : Nat) : List DualWindow :=
  if cause == 1 || cause == 6 then []
  else s.sentinels.map fun x => { half := old, stream := x.stream, until_ := if (s.dualOpened old cause).contains x.stream then none else some s.time.c }

/-- The acting bit and the splits of the new half, and the windows. -/
def State.actsWith (s : State) (new : Nat) (duals : List DualWindow) : State :=
  let s := (s.putActing new true).startSplits new
  { s with seawall := { s.seawall with duals, switchAt := s.time.c } }

/-- What a switch does once the states of the halves are set: the acting bits, the splits, the windows and the record. -/
def State.actsFrom (s : State) (old new cause : Nat) : State :=
  ((((s.actsWith new (s.dualWindows old cause)).switchNoted old new cause (!(s.dualOpened old cause).isEmpty)).markDual).closeDual old).judgeSeawall

theorem State.switchTo_eq (s : State) (old new cause : Nat) : s.switchTo old new cause false = (s.nowActs new).actsFrom old new cause := by
  unfold State.switchTo
  rfl

theorem State.nowActs_regs (s : State) (new : Nat) : (s.nowActs new).regs = (s.putHalfState new 1).regs := by
  unfold State.nowActs
  extract_lets a b c
  split <;> rfl

theorem State.actsWith_effect (s : State) {new : Nat} (duals : List DualWindow) (hnew : new < 2) :
    WritesIn (· ∈ fieldKey swPage Seawall.SW_STAT_ACTING :: splitPlaces) s (s.actsWith new duals) ∧ (s.actsWith new duals).halfActing new = true ∧
    (s.actsWith new duals).seawall.duals = duals := by
  unfold State.actsWith
  extract_lets a w
  obtain ⟨h1, h2⟩ := s.putActing_effect (h := new) true
  have ha : WritesIn (· ∈ splitPlaces) (s.putActing new true) a := State.startSplits_writes _ _
  clear_value a
  refine ⟨((h1.mono fun k hk => hk ▸ List.mem_cons_self).trans (ha.mono fun k hk => .tail _ hk)).regs rfl, ?_, rfl⟩
  exact (State.halfActing_congr (ha.get (by decide)) new).trans ((h2 new hnew).trans (if_pos rfl))

theorem State.closeDual_effect (s : State) (old : Nat) :
    WritesIn (· = fieldKey swPage Seawall.SW_STAT_ACTING) s (s.closeDual old) ∧
    (∀ g < 2, old ≠ g → (s.closeDual old).halfActing g = s.halfActing g) ∧
    (s.seawall.duals = [] → old < 2 → (s.closeDual old).halfActing old = false) := by
  obtain ⟨h1, h2⟩ := s.putActing_effect (h := old) false
  unfold State.closeDual
  split
  · next h => exact ⟨WritesIn.refl _ s, fun _ _ _ => rfl, fun hd => absurd h (by rw [hd]; decide)⟩
  · exact ⟨h1, fun g hg hne => (h2 g hg).trans (if_neg hne), fun _ hlt => (h2 old hlt).trans (if_pos rfl)⟩

theorem halfField_keys (h : Fin 2) : (halfField h).place < 0x8000 ∧ fieldKey swPage (halfField h) ≠ fieldKey swPage Seawall.SW_STAT_ACTING ∧
    fieldKey swPage (halfField h) ∉ lastPlaces ∧ fieldKey swPage (halfField h) ∉ judgePlaces ∧
    ∀ g : Fin 2, h ≠ g → fieldKey swPage (halfField h) ≠ fieldKey swPage (halfField g) := by
  revert h
  decide

theorem State.markDual_keeps (s : State) : s.markDual.regs = s.regs ∧ s.markDual.seawall = s.seawall := ⟨rfl, rfl⟩

/-- The places that a switch writes beside the states of the halves. -/
def actsPlaces : List Nat := fieldKey swPage Seawall.SW_STAT_ACTING :: splitPlaces ++ lastPlaces ++ judgePlaces

theorem State.actsFrom_effect (s : State) (old new : Fin 2) (cause : Nat) (hne : old ≠ new) :
    WritesIn (· ∈ actsPlaces) s (s.actsFrom old new cause) ∧ (s.actsFrom old new cause).halfActing new = true ∧
    (cause = 1 → (s.actsFrom old new cause).halfActing old = false) ∧
    (s.actsFrom old new cause).get swPage Seawall.SW_LAST_CAUSE = cause % 16 ∧ (s.actsFrom old new cause).get swPage Seawall.SW_LAST_FROM = old ∧
    (s.actsFrom old new cause).get swPage Seawall.SW_LAST_TO = new ∧
    (s.actsFrom old new cause).eventBit swPage 0 = true ∧ KeepsEvents swPage s (s.actsFrom old new cause) := by
  have hduals : cause = 1 → s.dualWindows old cause = [] := by
    rintro rfl
    rfl
  unfold State.actsFrom
  generalize (!(s.dualOpened old cause).isEmpty) = dual
  generalize s.dualWindows old cause = duals at hduals
  obtain ⟨b1, b2, b3⟩ := s.actsWith_effect duals new.isLt
  generalize s.actsWith new duals = b at b1 b2 b3
  obtain ⟨c1, c2, c3, c4, c5, c6, c7⟩ := b.switchNoted_effect cause dual old.isLt new.isLt
  generalize b.switchNoted old new cause dual = c at c1 c2 c3 c4 c5 c6 c7
  obtain ⟨d1, d2⟩ := c.markDual_keeps
  generalize c.markDual = d at d1 d2
  obtain ⟨e1, e2, e3⟩ := d.closeDual_effect old
  generalize d.closeDual old = e at e1 e2 e3
  obtain ⟨f1, -⟩ := e.judgeSeawall_effect
  generalize e.judgeSeawall = t at f1
  have hwrites : WritesIn (· ∈ actsPlaces) s t := by
    have hb := b1.mono (Q := (· ∈ actsPlaces)) fun k hk => List.mem_append_left _ (List.mem_append_left _ hk)
    have hc := c1.mono (Q := (· ∈ actsPlaces)) fun k hk => List.mem_append_left _ (List.mem_append_right _ hk)
    have he := e1.mono (Q := (· ∈ actsPlaces)) fun k hk => hk ▸ List.mem_append_left _ (List.mem_append_left _ (.head _))
    have hf := f1.mono (Q := (· ∈ actsPlaces)) fun k hk => List.mem_append_right _ hk
    exact hb.trans ((hc.regs d1).trans (he.trans hf))
  have hacting : ∀ g, t.halfActing g = e.halfActing g ∧ d.halfActing g = b.halfActing g := fun g =>
    ⟨State.halfActing_congr (f1.get (by decide)) g, State.halfActing_congr ((State.get_of_regs d1 _ _).trans (c1.get (by decide))) g⟩
  have hlast : ∀ x : Field, fieldKey swPage x ≠ fieldKey swPage Seawall.SW_STAT_ACTING → fieldKey swPage x ∉ judgePlaces →
      t.get swPage x = c.get swPage x := by
    intro x h1 h2
    rw [f1.get h2, e1.get h1, State.get_of_regs d1]
  refine ⟨hwrites, ?_, fun h1 => ?_, (hlast _ (by decide) (by decide)).trans c4, (hlast _ (by decide) (by decide)).trans c5,
    (hlast _ (by decide) (by decide)).trans c6, ?_, ?_⟩
  · rw [(hacting new).1, e2 new new.isLt (fun h => hne (Fin.ext h)), (hacting new).2, b2]
  · rw [(hacting old).1]
    refine e3 ?_ old.isLt
    rw [d2, c7, b3, hduals h1]
  · rw [State.eventBit_congr c (hlast _ (by decide) (by decide)), c3]
  · have hb : KeepsEvents swPage s b := .of_get (b1.get (by decide))
    exact (hb.trans c2).trans (.of_get (hlast _ (by decide) (by decide)))

theorem halfField_actsPlaces (h : Fin 2) : fieldKey swPage (halfField h) ∉ actsPlaces := by
  revert h
  decide

/-- Control goes over to the other half, at once or with windows in which both act (R458, R459). -/
theorem State.switchTo_effect (s : State) (old new : Fin 2) (cause : Nat) (hne : old ≠ new) :
    (s.switchTo old new cause false).halfState new = 1 ∧ (s.switchTo old new cause false).halfState old = s.halfState old ∧
    (s.switchTo old new cause false).halfActing new = true ∧ (cause = 1 → (s.switchTo old new cause false).halfActing old = false) ∧
    (s.switchTo old new cause false).get swPage Seawall.SW_LAST_CAUSE = cause % 16 ∧
    (s.switchTo old new cause false).get swPage Seawall.SW_LAST_FROM = old ∧
    (s.switchTo old new cause false).eventBit swPage 0 = true ∧ KeepsEvents swPage s (s.switchTo old new cause false) := by
  have hregs := s.nowActs_regs new
  rw [State.switchTo_eq]
  generalize s.nowActs new = a at hregs
  obtain ⟨h1, h2, h3, h4, h5, -, h7, h8⟩ := a.actsFrom_effect old new cause hne
  have hfields : ∀ g : Fin 2, (a.actsFrom old new cause).get swPage (halfField g) = (s.putHalfState new 1).get swPage (halfField g) := fun g =>
    (h1.get (halfField_actsPlaces g)).trans (State.get_of_regs hregs _ _)
  refine ⟨?_, ?_, h2, h3, h4, h5, h7, ?_⟩
  · rw [State.halfState_eq, hfields, State.putHalfState_eq, State.get_put_same, (halfField_facts new).1]
  · rw [State.halfState_eq, hfields, State.putHalfState_eq, State.get_put_other _ _ ((halfField_keys new).2.2.2.2 old (Ne.symm hne)), ← State.halfState_eq]
  · refine KeepsEvents.trans (.of_get ?_) h8
    rw [State.get_of_regs hregs, State.putHalfState_eq, State.get_put_other _ _ (halfField_facts new).2.1.symm]

theorem State.actNone_effect (s : State) : s.actNone.halfActing 0 = false ∧ s.actNone.halfActing 1 = false ∧
    WritesIn (· ∈ [fieldKey swPage Seawall.SW_STAT_ACTING, fieldKey swPage Seawall.SW_STAT_DUAL, fieldKey swPage Hdr.EVT_STAT_EVENT]) s s.actNone ∧
    KeepsEvents swPage s s.actNone := by
  obtain ⟨a1, a2⟩ := s.putActing_effect (h := 0) false
  obtain ⟨b1, b2⟩ := (s.putActing 0 false).putActing_effect (h := 1) false
  unfold State.actNone
  generalize hv : (s.putActing 0 false).putActing 1 false = v at b1 b2
  extract_lets z w x
  have hw : WritesIn (· ∈ [fieldKey swPage Seawall.SW_STAT_DUAL, fieldKey swPage Hdr.EVT_STAT_EVENT]) v w ∧ KeepsEvents swPage v w := by
    simp only [w]
    split
    · exact ⟨((WritesIn.refl _ v).put _ (by decide)).event (by decide), ((KeepsEvents.refl _ v).put _ (by decide)).event _⟩
    · exact ⟨WritesIn.refl _ v, KeepsEvents.refl _ v⟩
  have hact : ∀ g, w.halfActing g = v.halfActing g := State.halfActing_congr (hw.1.get (by decide))
  have hsv : WritesIn (· = fieldKey swPage Seawall.SW_STAT_ACTING) s v := a1.trans b1
  clear_value w
  refine ⟨?_, ?_, ?_, ?_⟩
  · exact (hact 0).trans ((b2 0 (by decide)).trans ((if_neg (by decide)).trans ((a2 0 (by decide)).trans (if_pos rfl))))
  · exact (hact 1).trans ((b2 1 (by decide)).trans (if_pos rfl))
  · exact (hsv.mono fun k hk => by rw [hk]; exact .head _).trans ((hw.1.mono fun k hk => .tail _ hk).regs rfl)
  · exact ((KeepsEvents.of_get (hsv.get (by decide))).trans hw.2).trans (.of_get rfl)

theorem failPlaces_leave (h : Fin 2) :
    fieldKey swPage Seawall.SW_STAT_HEALTHY ∉ failPlaces h ∧ fieldKey swPage Seawall.SW_STAT_ACTING ∉ failPlaces h := by
  revert h
  decide

/-- A half whose heartbeats are judged fails: it is FAILED, and where it acted control moves to the other half if it can take over (R457, R458). -/
theorem State.failHalf_effect (s : State) (h g : Fin 2) (hgh : g.val = 1 - h.val) (cause : Nat) (hj : s.hbJudged h = true) :
    (s.failHalf h cause).halfState h = 4 ∧ (s.failHalf h cause).eventBit swPage 4 = true ∧ (s.failHalf h cause).condBit swPage 0 = true ∧
    (s.halfState h = 1 → s.isCandidate g = true → (s.failHalf h cause).halfState g = 1 ∧ (s.failHalf h cause).halfActing g = true ∧
      (cause = 1 → (s.failHalf h cause).halfActing h = false) ∧ (s.failHalf h cause).get swPage Seawall.SW_LAST_CAUSE = cause % 16 ∧
      (s.failHalf h cause).get swPage Seawall.SW_LAST_FROM = h ∧ (s.failHalf h cause).eventBit swPage 0 = true) ∧
    (s.halfState h = 1 → s.isCandidate g = false → (s.failHalf h cause).halfActing 0 = false ∧ (s.failHalf h cause).halfActing 1 = false ∧
      (s.halfState g ≠ 1 → (s.failHalf h cause).condBit swPage 2 = true)) ∧
    (s.halfState h ≠ 1 → (s.failHalf h cause).halfState g = s.halfState g ∧ (s.failHalf h cause).halfActing g = s.halfActing g) := by
  have hne : h ≠ g := by
    intro heq
    have := congrArg Fin.val heq
    omega
  obtain ⟨a1, a2, a3⟩ := s.halfFails_effect h
  have hcut : ∀ f : Field, outerKey (fieldKey swPage f) = false → ((s.halfFails h).halfCut h).get swPage f = (s.halfFails h).get swPage f := fun f hf =>
    (s.halfFails h).get_halfCut h hf
  have houter : ∀ k : Fin 2, outerKey (fieldKey swPage (halfField k)) = false := by decide
  have hother : ∀ k j : Fin 2, k ≠ j → fieldKey swPage (halfField j) ∉ failPlaces k := by decide
  have hheld := failPlaces_leave h
  rw [State.failHalf_eq hj, ← hgh]
  generalize s.halfFails h = a at a1 a2 a3 hcut
  generalize a.halfCut h = b at hcut
  have hbh : b.halfState h = 4 := (State.halfState_congr h (hcut _ (houter h))).trans a1
  have hbg : b.halfState g = s.halfState g := State.halfState_congr g ((hcut _ (houter g)).trans (a3.get (hother h g hne)))
  have hbev : b.eventBit swPage 4 = true := (State.eventBit_congr a (hcut _ (by decide)) 4).trans a2
  have hbact : ∀ k, b.halfActing k = s.halfActing k := State.halfActing_congr ((hcut _ (by decide)).trans (a3.get hheld.2))
  have hcand : b.isCandidate g = s.isCandidate g := by
    rw [State.isCandidate, State.isCandidate, hbg, hcut _ (by decide), a3.get hheld.1]
  rw [hcand]
  have hjudge : ∀ t : State, t.halfState h = 4 → t.eventBit swPage 4 = true →
      t.judgeSeawall.halfState h = 4 ∧ t.judgeSeawall.eventBit swPage 4 = true ∧ t.judgeSeawall.condBit swPage 0 = true ∧
      t.judgeSeawall.halfState g = t.halfState g ∧ (∀ k, t.judgeSeawall.halfActing k = t.halfActing k) ∧
      (∀ x ∈ [Seawall.SW_LAST_CAUSE, Seawall.SW_LAST_FROM], t.judgeSeawall.get swPage x = t.get swPage x) ∧
      (∀ b, t.judgeSeawall.eventBit swPage b = t.eventBit swPage b) ∧
      (t.halfState g ≠ 1 → t.judgeSeawall.condBit swPage 2 = true) := by
    intro t ht hev
    obtain ⟨w, c0, -, c2⟩ := t.judgeSeawall_effect
    have hk := fun k : Fin 2 => (halfField_keys k).2.2.2.1
    have hb : ∀ b, t.judgeSeawall.eventBit swPage b = t.eventBit swPage b := State.eventBit_congr t (w.get (by decide))
    have hpair : ∀ P : Nat → Bool, ([0, 1].any P = (P h || P g)) ∧ ([0, 1].all P = (P h && P g)) := by
      intro P
      have hhg : (h.val = 0 ∧ g.val = 1) ∨ (h.val = 1 ∧ g.val = 0) := by omega
      rcases hhg with ⟨e1, e2⟩ | ⟨e1, e2⟩ <;> rw [e1, e2] <;> simp [Bool.or_comm, Bool.and_comm]
    refine ⟨(State.halfState_congr h (w.get (hk h))).trans ht, (hb 4).trans hev, ?_, State.halfState_congr g (w.get (hk g)),
      State.halfActing_congr (w.get (by decide)), fun x hx => w.get ?_, hb, fun hg => ?_⟩
    · rw [c0, (hpair _).1, State.halfFailed, ht]
      rfl
    · revert x
      decide
    · rw [c2, (hpair _).2, ht]
      simpa using hg
  cases hacted : s.halfState h == 1 with
  | false =>
    obtain ⟨t1, t2, t3, t4, t5, -⟩ := hjudge b hbh hbev
    have hn1 : s.halfState h ≠ 1 := by simpa using hacted
    rw [if_pos (by rfl)]
    exact ⟨t1, t2, t3, fun h1 => absurd h1 hn1, fun h1 => absurd h1 hn1, fun _ => ⟨t4.trans hbg, (t5 g).trans (hbact g)⟩⟩
  | true =>
    have h1 : s.halfState h = 1 := by simpa using hacted
    rw [if_neg (by decide)]
    cases hc : s.isCandidate g with
    | true =>
      obtain ⟨u1, u2, u3, u4, u5, u6, u7, u8⟩ := b.switchTo_effect h g cause hne
      rw [if_pos rfl]
      generalize b.switchTo h g cause false = u at u1 u2 u3 u4 u5 u6 u7 u8
      obtain ⟨t1, t2, t3, t4, t5, t6, t7, -⟩ := hjudge u (u2.trans hbh) (u8 4 (by decide) hbev)
      refine ⟨t1, t2, t3, fun _ _ => ⟨t4.trans u1, (t5 g).trans u3, fun hcz => (t5 h).trans (u4 hcz), ?_, ?_, (t7 0).trans u7⟩, nofun, fun hn => absurd h1 hn⟩
      · rw [t6 _ (by simp), u5]
      · rw [t6 _ (by simp), u6]
    | false =>
      obtain ⟨u1, u2, u3, u4⟩ := b.actNone_effect
      rw [if_neg Bool.false_ne_true]
      generalize b.actNone = u at u1 u2 u3 u4
      have hk : ∀ k : Fin 2, fieldKey swPage (halfField k) ∉ [fieldKey swPage Seawall.SW_STAT_ACTING, fieldKey swPage Seawall.SW_STAT_DUAL,
        fieldKey swPage Hdr.EVT_STAT_EVENT] := by decide
      have hug : u.halfState g = s.halfState g := (State.halfState_congr g (u3.get (hk g))).trans hbg
      obtain ⟨t1, t2, t3, t4, t5, -, -, t8⟩ := hjudge u ((State.halfState_congr h (u3.get (hk h))).trans hbh) (u4 4 (by decide) hbev)
      exact ⟨t1, t2, t3, nofun, fun _ _ => ⟨(t5 0).trans u1, (t5 1).trans u2, fun hg => t8 (hug ▸ hg)⟩, fun hn => absurd h1 hn⟩

theorem State.failHalf_of_unjudged {s : State} {h : Nat} (hj : s.hbJudged h = false) (cause : Nat) : s.failHalf h cause = s := by
  have hno : (s.halfFailed h || s.halfState h == 0) = true := by
    rw [State.hbJudged, Bool.and_eq_false_iff, bne_eq_false_iff_eq, bne_eq_false_iff_eq] at hj
    rw [State.halfFailed, Bool.or_eq_true, beq_iff_eq, beq_iff_eq]
    exact hj
  rw [State.failHalf, if_pos hno]

/-- Settles O48. -/
theorem heartbeatsAndFailuresMoveControl : Obligations.HeartbeatsAndFailuresMoveControl := by
  refine ⟨heartbeatWireEdge_completes, heartbeatMailbox_completes, halfDegraded_completes, fun h s hw hm hj => ?lost, fun h s c hc => ?check⟩
  case lost =>
    have ht : exec (.heartbeatFailure h) s = .next (s.failHalf h 1) := by
      rw [exec, execHeartbeatFailure, if_neg (by simp [hw, hm])]
    have hg : 1 - h.val < 2 := by omega
    obtain ⟨h1, h2, h3, h4, h5, h6⟩ := s.failHalf_effect h ⟨1 - h.val, hg⟩ rfl 1 hj
    refine ⟨_, ht, h1, h2, h3, fun ha hcand => ?_, h5, h6, SameMemory.of_exec ht (by rw [exec]; exact answers_heartbeatFailure (Quiet.refl s))⟩
    obtain ⟨g1, g2, g3, g4, g5, g6⟩ := h4 ha hcand
    exact ⟨g1, g2, g3 rfl, g4, g5, g6⟩
  case check =>
    let u : State := { s with due := s.due.erase (.selfCheck h c) }
    have ht : exec (.halfFailure h) s = .next (if s.causeEnabled c then u.failHalf h c else u) := by
      rw [exec, execHalfFailure, hc]
      rfl
    have hg : 1 - h.val < 2 := by omega
    refine ⟨_, ht, fun hoff => ?_, fun hon hj => ?_, fun hon hj => ?_, SameMemory.of_exec ht (by rw [exec]; exact answers_halfFailure (Quiet.refl s))⟩
    · rw [hoff, if_neg Bool.false_ne_true]
      exact ⟨rfl, rfl⟩
    · rw [hon, if_pos rfl]
      obtain ⟨h1, h2, h3, h4, h5, -⟩ := u.failHalf_effect h ⟨1 - h.val, hg⟩ rfl c hj
      refine ⟨h1, h3, h2, fun ha hcand => ?_, fun ha hcand => ⟨(h5 ha hcand).1, (h5 ha hcand).2.1⟩⟩
      obtain ⟨g1, g2, -, g4, g5, -⟩ := h4 ha hcand
      exact ⟨g1, g2, g4, g5⟩
    · rw [hon, if_pos rfl, State.failHalf_of_unjudged (s := u) hj]

end Sys2Proof.Machine
end

section
/-! PROOFS. The Breakwater: occurrences, their log and their reactions (R478 to R495), ERR_N and ERR_TOG (R490, R491, R610). -/

namespace Sys2Proof.Machine

/-! ## Several fields of a page written together -/

/-- Fields of a page, written one after the other. -/
def State.putAll (s : State) (pg : Nat) (l : List (Field × Nat)) : State := l.foldl (fun s e => s.put pg e.1 e.2) s

theorem State.get_putAll_other (s : State) {pg pg' : Nat} {g : Field} {l : List (Field × Nat)} (h : ∀ e ∈ l, fieldKey pg e.1 ≠ fieldKey pg' g) :
    (s.putAll pg l).get pg' g = s.get pg' g := State.get_foldl_other s fun _ e he => State.get_put_other _ _ (h e he)

/-- Of fields at different places each reads as it was written. -/
theorem State.get_putAll_mem (s : State) {pg : Nat} {f : Field} {v : Nat} {l : List (Field × Nat)} (hd : (l.map fun e => fieldKey pg e.1).Nodup)
    (hmem : (f, v) ∈ l) : (s.putAll pg l).get pg f = v % f.size := by
  induction l generalizing s with
  | nil => cases hmem
  | cons e l ih =>
    rw [List.map_cons, List.nodup_cons] at hd
    rcases List.mem_cons.mp hmem with heq | hmem
    · refine (State.get_putAll_other (s.put pg e.1 e.2) fun x hx hk => hd.1 ?_).trans ?_
      · have hplace := List.mem_map_of_mem (f := fun e : Field × Nat => fieldKey pg e.1) hx
        rw [← heq, ← hk]
        exact hplace
      · rw [← heq]
        exact State.get_put_same ..
    · exact ih (s.put pg e.1 e.2) hd.2 hmem

theorem State.putAll_keeps (s : State) (pg : Nat) (l : List (Field × Nat)) :
    (s.putAll pg l).flt = s.flt ∧ (s.putAll pg l).due = s.due ∧ (s.putAll pg l).power = s.power :=
  have h : ∀ {β : Type} (g : State → β), (∀ (t : State) (e : Field × Nat), g (t.put pg e.1 e.2) = g t) → g (s.putAll pg l) = g s := fun _ hg =>
    foldl_keeps hg l s
  ⟨h State.flt fun _ _ => rfl, h State.due fun _ _ => rfl, h State.power fun _ _ => rfl⟩

/-! ## The log -/

/-- What an entry of the log holds of a verdict. -/
def logEntry (v : Verdict) (j now tide count : Nat) : List (Field × Nat) :=
  [(Breakwater.LOG_INFO_CONSEQ.nth j, bit v.conseq), (Breakwater.LOG_INFO_ESC.nth j, bit v.esc), (Breakwater.LOG_INFO_RECUR.nth j, bit v.recur),
    (Breakwater.LOG_INFO_SEV.nth j, v.sev), (Breakwater.LOG_INFO_REACT.nth j, v.react), (Breakwater.LOG_INFO_CLASS.nth j, v.cls),
    (Breakwater.LOG_INFO_SOURCE.nth j, v.src), (Breakwater.LOG_INFO_VALID.nth j, 1), (Breakwater.LOG_TIME_LO_TIME.nth j, now),
    (Breakwater.LOG_TIME_HI_TIME.nth j, now / 2 ^ 32), (Breakwater.LOG_TIDE_TIDE.nth j, tide), (Breakwater.BW_LOG_WR_COUNT, count + 1)]

/-- What the first record holds. -/
def firstEntry (v : Verdict) (now : Nat) : List (Field × Nat) :=
  [(Breakwater.BW_FIRST_INFO_CONSEQ, bit v.conseq), (Breakwater.BW_FIRST_INFO_ESC, bit v.esc), (Breakwater.BW_FIRST_INFO_RECUR, bit v.recur),
    (Breakwater.BW_FIRST_INFO_SEV, v.sev), (Breakwater.BW_FIRST_INFO_REACT, v.react), (Breakwater.BW_FIRST_INFO_CLASS, v.cls),
    (Breakwater.BW_FIRST_INFO_SOURCE, v.src), (Breakwater.BW_FIRST_INFO_VALID, 1), (Breakwater.BW_FIRST_TIME_LO_TIME, now),
    (Breakwater.BW_FIRST_TIME_HI_TIME, now / 2 ^ 32)]

theorem logEntry_nodup (v : Verdict) (j now tide count : Nat) : ((logEntry v j now tide count).map fun e => fieldKey 0x26 e.1).Nodup := by
  simp only [logEntry, List.map_cons, List.map_nil, fieldKey, Field.nth, Breakwater.LOG_INFO_CONSEQ, Breakwater.LOG_INFO_ESC, Breakwater.LOG_INFO_RECUR,
    Breakwater.LOG_INFO_SEV, Breakwater.LOG_INFO_REACT, Breakwater.LOG_INFO_CLASS, Breakwater.LOG_INFO_SOURCE, Breakwater.LOG_INFO_VALID,
    Breakwater.LOG_TIME_LO_TIME, Breakwater.LOG_TIME_HI_TIME, Breakwater.LOG_TIDE_TIDE, Breakwater.BW_LOG_WR_COUNT, List.nodup_cons, List.mem_cons,
    List.not_mem_nil, or_false, not_or, not_false_eq_true, List.nodup_nil, and_true]
  omega

theorem firstEntry_nodup (v : Verdict) (now : Nat) : ((firstEntry v now).map fun e => fieldKey bwPage e.1).Nodup := by
  simp only [firstEntry, List.map_cons, List.map_nil]
  decide

theorem State.logVerdict_eq (s : State) (v : Verdict) : ∃ tide, s.logVerdict v =
    let u := s.putAll 0x26 (logEntry v (s.get 0x26 Breakwater.BW_LOG_WR_COUNT % 64) s.now tide (s.get 0x26 Breakwater.BW_LOG_WR_COUNT))
    if u.flag bwPage Breakwater.BW_FIRST_INFO_VALID then u else u.putAll bwPage (firstEntry v s.now) := by
  unfold State.logVerdict
  extract_lets count j t a b c d
  refine ⟨b.logTide, ?_⟩
  have hd : d = s.putAll 0x26 (logEntry v (s.get 0x26 Breakwater.BW_LOG_WR_COUNT % 64) s.now b.logTide (s.get 0x26 Breakwater.BW_LOG_WR_COUNT)) := rfl
  rw [← hd]
  rfl

/-- An occurrence takes the next entry of the log, and the first one is kept (R492). -/
theorem State.logVerdict_effect (s : State) (v : Verdict) :
    (∃ tide, ∀ f x, (f, x) ∈ logEntry v (s.get 0x26 Breakwater.BW_LOG_WR_COUNT % 64) s.now tide (s.get 0x26 Breakwater.BW_LOG_WR_COUNT) →
      (s.logVerdict v).get 0x26 f = x % f.size) ∧
    (s.flag bwPage Breakwater.BW_FIRST_INFO_VALID = false → (s.logVerdict v).flag bwPage Breakwater.BW_FIRST_INFO_VALID = true ∧
      (s.logVerdict v).get bwPage Breakwater.BW_FIRST_INFO_SOURCE = v.src % 2048) ∧
    (s.flag bwPage Breakwater.BW_FIRST_INFO_VALID = true →
      (s.logVerdict v).get bwPage Breakwater.BW_FIRST_INFO_SOURCE = s.get bwPage Breakwater.BW_FIRST_INFO_SOURCE) ∧
    (s.logVerdict v).flt = s.flt ∧ (s.logVerdict v).due = s.due ∧ (s.logVerdict v).power = s.power ∧ (s.logVerdict v).terminal = s.terminal := by
  obtain ⟨tide, heq⟩ := s.logVerdict_eq v
  rw [heq]
  generalize hj : s.get 0x26 Breakwater.BW_LOG_WR_COUNT % 64 = j
  have hj64 : j < 64 := hj ▸ Nat.mod_lt _ (by decide)
  generalize s.get 0x26 Breakwater.BW_LOG_WR_COUNT = count
  have hpage : ∀ e ∈ logEntry v j s.now tide count, ∀ g : Field, g.place < 0x8000 → fieldKey 0x26 e.1 ≠ fieldKey bwPage g := by
    intro e he g hg
    have hplace : ∀ f ∈ [Breakwater.LOG_INFO_CONSEQ, Breakwater.LOG_INFO_ESC, Breakwater.LOG_INFO_RECUR, Breakwater.LOG_INFO_SEV,
        Breakwater.LOG_INFO_REACT, Breakwater.LOG_INFO_CLASS, Breakwater.LOG_INFO_SOURCE, Breakwater.LOG_INFO_VALID, Breakwater.LOG_TIME_LO_TIME,
        Breakwater.LOG_TIME_HI_TIME, Breakwater.LOG_TIDE_TIDE], ∀ j < 64, (f.nth j).place < 0x8000 := by decide
    refine fieldKey_page (f := e.1) ?_ hg (by decide)
    simp only [logEntry, List.mem_cons, List.not_mem_nil, or_false] at he
    rcases he with rfl | rfl | rfl | rfl | rfl | rfl | rfl | rfl | rfl | rfl | rfl | rfl
    case inr.inr.inr.inr.inr.inr.inr.inr.inr.inr.inr => exact (by decide : Breakwater.BW_LOG_WR_COUNT.place < 0x8000)
    all_goals exact hplace _ (by simp) j hj64
  have hfirst : ∀ g : Field, g.place < 0x8000 → (s.putAll 0x26 (logEntry v j s.now tide count)).get bwPage g = s.get bwPage g := fun g hg =>
    State.get_putAll_other s fun e he => hpage e he g hg
  have hlog : ∀ f x, (f, x) ∈ logEntry v j s.now tide count → (s.putAll 0x26 (logEntry v j s.now tide count)).get 0x26 f = x % f.size := fun f x h =>
    State.get_putAll_mem s (logEntry_nodup ..) h
  have hkeeps := s.putAll_keeps 0x26 (logEntry v j s.now tide count)
  generalize s.putAll 0x26 (logEntry v j s.now tide count) = u at hfirst hlog hkeeps
  dsimp only
  rw [State.flag_congr s (hfirst Breakwater.BW_FIRST_INFO_VALID (by decide))]
  obtain ⟨k1, k2, k3⟩ := hkeeps
  obtain ⟨q1, q2, q3⟩ := u.putAll_keeps bwPage (firstEntry v s.now)
  cases hv : s.flag bwPage Breakwater.BW_FIRST_INFO_VALID with
  | true =>
    rw [if_pos rfl]
    exact ⟨⟨tide, hlog⟩, nofun, fun _ => hfirst _ (by decide), k1, k2, k3, State.flag_congr s (hfirst _ (by decide))⟩
  | false =>
    rw [if_neg Bool.false_ne_true]
    have hback : ∀ f : Field, (u.putAll bwPage (firstEntry v s.now)).get 0x26 f = u.get 0x26 f ∨ ¬ f.place < 0x8000 := by
      intro f
      by_cases hf : f.place < 0x8000
      · refine Or.inl (State.get_putAll_other u fun e he => fieldKey_page ?_ hf (by decide))
        have hplace : ∀ k ∈ (firstEntry v s.now).map (fun e => e.1.place), k < 0x8000 := by
          simp only [firstEntry, List.map_cons, List.map_nil]
          decide
        exact hplace _ (List.mem_map_of_mem (f := fun e : Field × Nat => e.1.place) he)
      · exact Or.inr hf
    have hmemplace : ∀ f x, (f, x) ∈ logEntry v j s.now tide count → f.place < 0x8000 := by
      intro f x hmem
      have hplace : ∀ f ∈ [Breakwater.LOG_INFO_CONSEQ, Breakwater.LOG_INFO_ESC, Breakwater.LOG_INFO_RECUR, Breakwater.LOG_INFO_SEV,
          Breakwater.LOG_INFO_REACT, Breakwater.LOG_INFO_CLASS, Breakwater.LOG_INFO_SOURCE, Breakwater.LOG_INFO_VALID, Breakwater.LOG_TIME_LO_TIME,
          Breakwater.LOG_TIME_HI_TIME, Breakwater.LOG_TIDE_TIDE], ∀ j < 64, (f.nth j).place < 0x8000 := by decide
      simp only [logEntry, List.mem_cons, List.not_mem_nil, or_false, Prod.mk.injEq] at hmem
      rcases hmem with h | h | h | h | h | h | h | h | h | h | h | h <;> rw [h.1]
      case inr.inr.inr.inr.inr.inr.inr.inr.inr.inr.inr => exact (by decide : Breakwater.BW_LOG_WR_COUNT.place < 0x8000)
      all_goals exact hplace _ (by simp) j hj64
    have hset : ∀ f x, (f, x) ∈ firstEntry v s.now → (u.putAll bwPage (firstEntry v s.now)).get bwPage f = x % f.size := fun f x h =>
      State.get_putAll_mem u (firstEntry_nodup v s.now) h
    refine ⟨⟨tide, fun f x h => ((hback f).resolve_right fun hn => hn (hmemplace f x h)).trans (hlog f x h)⟩, fun _ => ⟨?_, ?_⟩, nofun,
      q1.trans k1, q2.trans k2, q3.trans k3, ?_⟩
    · rw [State.flag, hset _ 1 (by simp [firstEntry])]
      rfl
    · exact hset _ v.src (by simp [firstEntry])
    · refine State.flag_congr s ((State.get_putAll_other u fun e he => ?_).trans (hfirst _ (by decide)))
      have hkeys : ∀ k ∈ (firstEntry v s.now).map (fun e => fieldKey bwPage e.1), k ≠ fieldKey bwPage Breakwater.BW_STAT_TERMINAL := by
        simp only [firstEntry, List.map_cons, List.map_nil]
        decide
      exact hkeys _ (List.mem_map_of_mem (f := fun e : Field × Nat => fieldKey bwPage e.1) he)

/-! ## What the answer to an occurrence leaves of its record -/

/-- The log, the first record and the unacknowledged bits stay, ERR_N stays driven, and the terminal latch stays set. -/
structure KeepsRecord (s t : State) : Prop where
  log : ∀ f : Field, f.place < 0x8000 → t.get 0x26 f = s.get 0x26 f
  valid : t.flag bwPage Breakwater.BW_FIRST_INFO_VALID = s.flag bwPage Breakwater.BW_FIRST_INFO_VALID
  source : t.get bwPage Breakwater.BW_FIRST_INFO_SOURCE = s.get bwPage Breakwater.BW_FIRST_INFO_SOURCE
  unack : ∀ pg, (t.marks pg).unack = (s.marks pg).unack
  err : s.flag bwPage Breakwater.BW_STAT_ERR_DRIVEN = true → t.flag bwPage Breakwater.BW_STAT_ERR_DRIVEN = true
  terminal : s.terminal = true → t.terminal = true

theorem KeepsRecord.refl (s : State) : KeepsRecord s s := ⟨fun _ _ => rfl, rfl, rfl, fun _ => rfl, id, id⟩

theorem KeepsRecord.trans {s t u : State} (h : KeepsRecord s t) (k : KeepsRecord t u) : KeepsRecord s u :=
  ⟨fun f hf => (k.log f hf).trans (h.log f hf), k.valid.trans h.valid, k.source.trans h.source, fun pg => (k.unack pg).trans (h.unack pg),
    k.err ∘ h.err, k.terminal ∘ h.terminal⟩

theorem KeepsRecord.of_same {s t : State} (hregs : t.regs = s.regs) (hflt : t.flt = s.flt) : KeepsRecord s t :=
  ⟨fun _ _ => State.get_of_regs hregs _ _, State.flag_congr s (State.get_of_regs hregs _ _), State.get_of_regs hregs _ _,
    fun _ => by rw [State.marks, hflt, State.marks], fun h => (State.flag_congr s (State.get_of_regs hregs _ _)).trans h,
    fun h => (State.flag_congr s (State.get_of_regs hregs _ _)).trans h⟩

theorem KeepsRecord.foldl_mem {α : Type} {f : State → α → State} {l : List α} (h : ∀ a ∈ l, ∀ s, KeepsRecord s (f s a)) (s : State) :
    KeepsRecord s (l.foldl f s) := by
  induction l generalizing s with
  | nil => exact .refl s
  | cons a l ih => exact (h a (.head _) s).trans (ih (fun b hb => h b (.tail _ hb)) (f s a))

/-- The places of the Breakwater's first page that an answer may write beside ERR_N. -/
def answerPlaces : List Nat :=
  ([Breakwater.BW_CNT3_CONSEQ, Breakwater.BW_CNT0_SEV1, Breakwater.BW_CNT0_SEV2, Breakwater.BW_CNT1_SEV3, Breakwater.BW_CNT1_SEV4,
    Breakwater.BW_CNT2_SEV5, Breakwater.BW_CNT2_SEV6, Breakwater.BW_CNT3_ESCALATED, Hdr.EVT_STAT_EVENT, Breakwater.BW_TERM_SRC_VALID,
    Breakwater.BW_TERM_SRC_SOURCE, Breakwater.BW_TERM_TIME_LO_TIME, Breakwater.BW_TERM_TIME_HI_TIME, Breakwater.BW_STAT_ERR_BALL,
    Breakwater.BW_STAT_TOG_RUNNING].map (fieldKey bwPage))

/-- A store of these places keeps the record. -/
theorem KeepsRecord.of_writes {s t : State} (h : WritesIn (· ∈ answerPlaces) s t) (hflt : t.flt = s.flt) : KeepsRecord s t := by
  have h26 : ∀ k ∈ answerPlaces, k / 0x8000 = 0x20 := by decide
  refine ⟨fun f hf => h.get fun hk => ?_, h.flag (by decide), h.get (by decide), fun _ => by rw [State.marks, hflt, State.marks],
    fun he => (h.flag (by decide)).trans he, fun he => (h.flag (by decide)).trans he⟩
  have := h26 _ hk
  rw [fieldKey_div hf] at this
  revert this
  decide

theorem State.judgeTog_record (s : State) : KeepsRecord s s.judgeTog ∧ s.judgeTog.power = s.power ∧ s.judgeTog.due = s.due := by
  let u := s.put bwPage Breakwater.BW_STAT_TOG_RUNNING (bit s.togRuns)
  have hu : KeepsRecord s u := .of_writes ((WritesIn.refl _ s).put _ (by decide)) rfl
  have heq : s.judgeTog = if s.togRuns then u else { u with fault := { u.fault with togLevel := false } } := rfl
  rw [heq]
  split
  · exact ⟨hu, rfl, rfl⟩
  · exact ⟨hu.trans (.of_same rfl rfl), rfl, rfl⟩

theorem State.driveErr_record (s : State) : KeepsRecord s s.driveErr ∧ s.driveErr.flag bwPage Breakwater.BW_STAT_ERR_DRIVEN = true ∧
    s.driveErr.power = s.power ∧ s.driveErr.due = s.due ∧ s.driveErr.flt = s.flt := by
  obtain ⟨-, hp, -, herr, hw⟩ := s.driveErr_keeps
  have hkeep : s.driveErr.due = s.due ∧ s.driveErr.flt = s.flt := by
    unfold State.driveErr
    split
    · exact ⟨rfl, rfl⟩
    · extract_lets u x
      exact ⟨(State.judgeTog_record _).2.2, (State.judgeTog_keeps _).1⟩
  have h26 : ∀ k ∈ errPlaces, k / 0x8000 = 0x20 := by decide
  refine ⟨⟨fun f hf => hw.get fun hk => ?_, hw.flag (by decide), hw.get (by decide), fun _ => by rw [State.marks, hkeep.2, State.marks], fun _ => herr,
    fun h => (hw.flag (by decide)).trans h⟩, herr, hp, hkeep⟩
  have := h26 _ hk
  rw [fieldKey_div hf] at this
  revert this
  decide

/-- The terminal latch: set, with ERR_N driven where it was not (R487). -/
theorem State.latchTerminal_record (s : State) (src : Nat) : KeepsRecord s (s.latchTerminal src) ∧ (s.latchTerminal src).terminal = true := by
  unfold State.latchTerminal
  split
  · next h => exact ⟨.refl s, h⟩
  · extract_lets now p a b c d
    have ha : KeepsRecord s a := .of_same rfl rfl
    have hb : KeepsRecord a b ∧ b.terminal = true := by
      refine ⟨⟨fun f hf => State.get_put_other _ _ (fieldKey_page (by decide) hf (by decide)), State.flag_put_other _ _ (by decide),
        State.get_put_other _ _ (by decide), fun _ => rfl, fun h => (State.flag_put_other _ _ (by decide)).trans h, fun _ => State.flag_put_one ..⟩,
        State.flag_put_one ..⟩
    have hc : KeepsRecord b c := .of_writes (((WritesIn.refl _ b).put _ (by decide)).put _ (by decide)) rfl
    have hd : KeepsRecord c d := .of_writes (((WritesIn.refl _ c).put _ (by decide)).put _ (by decide)) rfl
    have hlast := (d.driveErr_record.1).trans d.driveErr.judgeTog_record.1
    exact ⟨ha.trans (hb.1.trans (hc.trans (hd.trans hlast))), hlast.terminal (hd.terminal (hc.terminal hb.2))⟩


/-! ## The reactions (R480 to R487) -/

theorem State.countVerdict_record (s : State) (v : Verdict) : KeepsRecord s (s.countVerdict v) ∧ (s.countVerdict v).flt = s.flt := by
  have hcount : ∀ (t : State) (f : Field), fieldKey bwPage f ∈ answerPlaces → KeepsRecord t (t.countSat bwPage f) := fun t f hf =>
    .of_writes ((WritesIn.refl _ t).countSat hf) rfl
  unfold State.countVerdict
  split
  · exact ⟨hcount s _ (by decide), rfl⟩
  · next hno =>
    have hplace : ∀ f ∈ [Breakwater.BW_CNT0_SEV1, Breakwater.BW_CNT0_SEV2, Breakwater.BW_CNT1_SEV3, Breakwater.BW_CNT1_SEV4,
        Breakwater.BW_CNT2_SEV5, Breakwater.BW_CNT2_SEV6], fieldKey bwPage f ∈ answerPlaces := by decide
    have hesc : ∀ t : State, KeepsRecord t (if v.esc then (t.countSat bwPage Breakwater.BW_CNT3_ESCALATED).event bwPage 0 else t) ∧
        (if v.esc then (t.countSat bwPage Breakwater.BW_CNT3_ESCALATED).event bwPage 0 else t).flt = t.flt := by
      intro t
      split
      · exact ⟨.of_writes (((WritesIn.refl _ t).countSat (by decide)).event (by decide)) rfl, rfl⟩
      · exact ⟨.refl t, rfl⟩
    split
    · rename_i f hf
      obtain ⟨h, hflt⟩ := hesc (s.countSat bwPage f)
      refine ⟨(hcount s f (hplace f (List.mem_of_getElem? hf))).trans h, hflt⟩
    · exact hesc s

theorem State.trapAll_record (s : State) : KeepsRecord s s.trapAll := by
  refine .foldl_mem (fun k _ t => ?_) s
  split
  · exact .of_same rfl rfl
  · exact .refl t

theorem State.oweMsix_record (s : State) (n : Nat) : KeepsRecord s (s.oweMsix n) := by
  unfold State.oweMsix
  split
  · exact .of_same rfl rfl
  · exact .of_same rfl rfl

/-- The fields of a page that is not outer, but for those of the pages with outer fields of their own. -/
theorem outerKey_of_place {pg : Nat} {f : Field} (hf : f.place < 0x8000) (hpg : outerPage pg = false) (h8 : pg ≠ 0x8) (h20 : pg ≠ 0x20) :
    outerKey (fieldKey pg f) = false := by
  have hq : fieldKey pg f / 0x8000 = pg := fieldKey_div hf
  have hkeys : ∀ e ∈ [(0x8, Chip.BOOT_SENS_ERR_COUNT), (0x20, Hdr.EVT_STAT_EVENT), (0x20, Breakwater.BW_STAT_QUIET)],
      fieldKey e.1 e.2 / 0x8000 = 0x8 ∨ fieldKey e.1 e.2 / 0x8000 = 0x20 := by decide
  rw [outerKey, hq, hpg, Bool.false_or]
  refine List.any_eq_false.mpr fun e he hk => ?_
  have := hkeys e he
  rw [beq_iff_eq.mp hk, hq] at this
  omega

theorem KeepsRecord.of_inner {s t : State} (h : t.inner = s.inner) : KeepsRecord s t := by
  have hunack : ∀ pg, (t.marks pg).unack = (s.marks pg).unack := fun pg => congrArg Prod.fst (congrFun (congrArg Inner.unack h) pg)
  exact ⟨fun f hf => State.get_of_inner h (outerKey_of_place hf (by decide) (by decide) (by decide)), State.flag_of_inner h (by decide),
    State.get_of_inner h (by decide), hunack, fun he => (State.flag_of_inner h (by decide)).trans he, fun he => (State.flag_of_inner h (by decide)).trans he⟩

theorem State.blockReset_record (s : State) {r : PageRef} (h : r.isUnit) : KeepsRecord s (s.blockReset r) := by
  unfold State.blockReset
  split
  · exact .refl s
  · extract_lets t
    have ht : KeepsRecord s t := by
      have hw : WritesIn (· ∈ [fieldKey 0x20 Hdr.EVT_STAT_EVENT, fieldKey 0x20 Breakwater.BW_STAT_QUIET]) s t := by
        refine WritesIn.put (WritesIn.regs ((WritesIn.refl _ s).eventIf (by decide)) rfl) _ (by decide)
      have hflt : t.flt = s.flt := by
        change (s.eventIf s.fault.quiet.isEmpty 0x20 1).flt = s.flt
        exact State.eventIf_flt ..
      have h26 : ∀ k ∈ [fieldKey 0x20 Hdr.EVT_STAT_EVENT, fieldKey 0x20 Breakwater.BW_STAT_QUIET], k / 0x8000 = 0x20 := by decide
      refine ⟨fun f hf => hw.get fun hk => ?_, hw.flag (by decide), hw.get (by decide), fun _ => by rw [State.marks, hflt, State.marks],
        fun he => (hw.flag (by decide)).trans he, fun he => (hw.flag (by decide)).trans he⟩
      have := h26 _ hk
      rw [fieldKey_div hf] at this
      revert this
      decide
    refine ht.trans ?_
    exact KeepsRecord.trans (t := { t with power := { t.power with resetting := r.base :: t.power.resetting } }) (.of_same rfl rfl)
      (.of_inner (State.inner_resetInstance _ h false))

theorem State.resetting_blockReset_of (s : State) {r q : PageRef} (h : r.isUnit) (hq : s.resetting q = true) : (s.blockReset r).resetting q = true := by
  cases hfree : s.resetting r with
  | true => rw [State.blockReset, if_pos hfree]; exact hq
  | false =>
    have := congrArg (fun i : Inner => i.power.resetting) (s.inner_blockReset h hfree)
    replace this : (s.blockReset r).power.resetting = r.base :: s.power.resetting := this
    rw [State.resetting, this, List.contains_cons]
    rw [State.resetting] at hq
    rw [hq, Bool.or_true]

/-- Of units that are reset together every one is in reset. -/
theorem State.blockResets_run {l : List PageRef} (hl : ∀ q ∈ l, q.isUnit) (s : State) :
    (∀ q, s.resetting q = true → (l.foldl (fun (s : State) q => s.blockReset q) s).resetting q = true) ∧
    ∀ q ∈ l, (l.foldl (fun (s : State) q => s.blockReset q) s).resetting q = true := by
  induction l generalizing s with
  | nil => exact ⟨fun _ h => h, nofun⟩
  | cons a l ih =>
    obtain ⟨hkeep, hmem⟩ := ih (fun q hq => hl q (.tail _ hq)) (s.blockReset a)
    have ha := hl a (.head _)
    refine ⟨fun q hq => hkeep q (s.resetting_blockReset_of ha hq), fun q hq => ?_⟩
    rcases List.mem_cons.mp hq with rfl | hq
    · exact hkeep _ (s.blockReset_runs ha.2).2.1
    · exact hmem q hq

/-- Reaction 4 is a block reset, and no block of the spine has it (R484). -/
theorem State.verdict_react_block (s : State) (r : PageRef) (src : Nat) (hc : (s.verdict r src).conseq = false) (h : (s.verdict r src).react = 4) :
    r.block.isUnit = true := by
  unfold State.verdict at h hc
  extract_lets flt cause live conseq source severity place spine raw react at h hc
  have hfalse : conseq = false := hc
  have hreact : (if react = 5 && s.terminal then 6 else react) = 4 := h
  have h4 : react = 4 := by
    split at hreact
    · cases hreact
    · exact hreact
  have hr : (if raw = 4 && spine then 5 else raw) = 4 := by
    simpa only [react, hfalse, Bool.false_eq_true, if_false] using h4
  split at hr
  · cases hr
  · next hno =>
    have hs : spine = false := by simpa [hr] using hno
    rw [Block.isUnit]
    simp only [spine, List.contains_cons, List.contains_nil, Bool.or_false, Bool.or_eq_false_iff] at hs ⊢
    simp [hs]

theorem State.blockTargets_isUnit (s : State) {r : PageRef} (hn : r.named) (h : r.block.isUnit = true) (b : Nat) : ∀ q ∈ s.blockTargets r b, q.isUnit := by
  intro q hq
  unfold State.blockTargets at hq
  split at hq
  · next hd =>
    obtain ⟨i, -, rfl⟩ := List.mem_map.mp (List.mem_filter.mp hq).1
    exact ⟨h, fun hlp => nomatch hd.symm.trans hlp⟩
  · rw [List.mem_singleton.mp hq]
    exact ⟨h, hn⟩

/-- The reaction leaves the record. A block's members come into reset, a chip's reset is due, a terminal one latches. -/
theorem State.applyReact_record (s : State) {r : PageRef} (hn : r.named) (b : Nat) (v : Verdict) (hb : v.react = 4 → r.block.isUnit = true) :
    KeepsRecord s (s.applyReact r b v) ∧
    (v.react = 4 → ∀ q ∈ s.blockTargets r b, (s.applyReact r b v).resetting q = true) ∧
    (v.react = 5 → (s.applyReact r b v).due.contains (.chipReset (if r.block = .lp ∧ b = 1 then 4 else 5)) = true) ∧
    (v.react = 6 → (s.applyReact r b v).terminal = true) := by
  unfold State.applyReact
  split
  · next h =>
    have hunit := s.blockTargets_isUnit hn (hb h) b
    exact ⟨.foldl_mem (fun q hq t => t.blockReset_record (hunit q hq)) s, fun _ => (State.blockResets_run hunit s).2,
      fun h' => (nomatch h.symm.trans h'), fun h' => (nomatch h.symm.trans h')⟩
  · next h =>
    refine ⟨.of_same rfl rfl, fun h' => (nomatch h.symm.trans h'), fun _ => ?_, fun h' => (nomatch h.symm.trans h')⟩
    simp [State.startReset, State.owe]
  · next h =>
    obtain ⟨hk, ht⟩ := s.latchTerminal_record v.src
    exact ⟨hk, fun h' => (nomatch h.symm.trans h'), fun h' => (nomatch h.symm.trans h'), fun _ => ht⟩
  · next h4 h5 h6 => exact ⟨.refl s, fun h => absurd h h4, fun h => absurd h h5, fun h => absurd h h6⟩

/-- The half of the page takes note of a failure (R465). -/
def State.reactNote (s : State) (r : PageRef) (v : Verdict) : State :=
  match r.half with
  | some h => if !v.conseq && decide (3 ≤ v.sev) then s.noteHalf h fun t => { t with faultBad := true } else s
  | none => s

/-- Traps, the host's interrupt and the half's self-check of a reaction. -/
def State.reactOwes (s : State) (r : PageRef) (v : Verdict) (host seawall : Bool) : State :=
  let s := if 3 ≤ v.react then s.trapAll else s
  let s := if 3 ≤ v.react || host then s.oweMsix 1536 else s
  match r.half with
  | some h => if seawall then s.selfCheck h 7 else s
  | none => s

theorem State.reactNote_record (s : State) (r : PageRef) (v : Verdict) : KeepsRecord s (s.reactNote r v) := by
  unfold State.reactNote
  split
  · split
    · exact .of_same rfl rfl
    · exact .refl s
  · exact .refl s

theorem State.reactOwes_record (s : State) (r : PageRef) (v : Verdict) (host seawall : Bool) : KeepsRecord s (s.reactOwes r v host seawall) := by
  unfold State.reactOwes
  extract_lets p q
  have hp : KeepsRecord s p := by
    unfold p
    split
    · exact s.trapAll_record
    · exact .refl s
  have hq : KeepsRecord p q := by
    unfold q
    split
    · exact p.oweMsix_record 1536
    · exact .refl p
  refine hp.trans (hq.trans ?_)
  split
  · split
    · exact .of_same rfl rfl
    · exact .refl q
  · exact .refl q

/-- An occurrence is logged and counted, its bit marked, ERR_N driven where it says so, and then, unless it is consequential, its reaction applied. -/
theorem State.react_eq (s : State) {pg : Nat} {r : PageRef} (b src : Nat) (hr : pageRef pg = some r) :
    s.react pg b src =
      let v := s.verdict r src
      let err := s.bwCfg src Breakwater.SRC_CFG_ERR == 1 || v.react == 6
      let u := (s.logVerdict v).countVerdict v
      let x := u.putMarks pg ((u.marks pg).take b v err)
      let n := (if err then x.driveErr else x).reactNote r v
      if v.conseq then (if v.react = 6 then n.latchTerminal src else n)
      else (n.reactOwes r v (s.bwCfg src Breakwater.SRC_CFG_HOST == 1) (s.bwCfg src Breakwater.SRC_CFG_SEAWALL == 1)).applyReact r b v := by
  unfold State.react
  rw [hr]
  rfl

/-- ERR_N is driven where the verdict says so. -/
theorem State.driveErrIf_record (s : State) (err : Bool) : KeepsRecord s (if err then s.driveErr else s) ∧
    (err = true → (if err then s.driveErr else s).flag bwPage Breakwater.BW_STAT_ERR_DRIVEN = true) := by
  cases err with
  | true => exact ⟨s.driveErr_record.1, fun _ => s.driveErr_record.2.1⟩
  | false => exact ⟨.refl s, nofun⟩

/-- What follows the mark: the record stays, and the reaction is applied. -/
theorem State.react_effect (s : State) {pg : Nat} {r : PageRef} (b src : Nat) (hr : pageRef pg = some r) (hn : r.named) :
    let v := s.verdict r src
    let err := s.bwCfg src Breakwater.SRC_CFG_ERR == 1 || v.react == 6
    let u := (s.logVerdict v).countVerdict v
    let x := u.putMarks pg ((u.marks pg).take b v err)
    KeepsRecord x (s.react pg b src) ∧
    (err = true → (s.react pg b src).flag bwPage Breakwater.BW_STAT_ERR_DRIVEN = true) ∧
    (v.react = 6 → (s.react pg b src).terminal = true) ∧
    (v.conseq = false → v.react = 5 → (s.react pg b src).due.contains (.chipReset (if r.block = .lp ∧ b = 1 then 4 else 5)) = true) ∧
    (v.conseq = false → v.react = 4 → ∃ w, KeepsRecord x w ∧ ∀ q ∈ w.blockTargets r b, (s.react pg b src).resetting q = true) := by
  intro v err u x
  have heq : s.react pg b src = _ := s.react_eq b src hr
  generalize s.react pg b src = t at heq ⊢
  obtain ⟨hd, herr⟩ := x.driveErrIf_record err
  have hnote := (if err then x.driveErr else x).reactNote_record r v
  have hn' := hd.trans hnote
  have hne : err = true → ((if err then x.driveErr else x).reactNote r v).flag bwPage Breakwater.BW_STAT_ERR_DRIVEN = true := fun he => hnote.err (herr he)
  have hblock := s.verdict_react_block r src
  change t = (if v.conseq then (if v.react = 6 then ((if err then x.driveErr else x).reactNote r v).latchTerminal src else
    (if err then x.driveErr else x).reactNote r v) else _) at heq
  generalize (if err then x.driveErr else x).reactNote r v = n at heq hn' hne
  change (v.conseq = false → v.react = 4 → _) at hblock
  cases hc : v.conseq with
  | true =>
    simp only [hc, if_true] at heq
    refine ⟨?_, ?_, fun h6 => ?_, nofun, nofun⟩
    all_goals rw [heq]
    · split
      · exact hn'.trans (n.latchTerminal_record src).1
      · exact hn'
    · intro he
      split
      · exact (n.latchTerminal_record src).1.err (hne he)
      · exact hne he
    · rw [if_pos h6]
      exact (n.latchTerminal_record src).2
  | false =>
    simp only [hc, Bool.false_eq_true, if_false] at heq
    have hw := n.reactOwes_record r v (s.bwCfg src Breakwater.SRC_CFG_HOST == 1) (s.bwCfg src Breakwater.SRC_CFG_SEAWALL == 1)
    change t = (n.reactOwes r v _ _).applyReact r b v at heq
    generalize n.reactOwes r v (s.bwCfg src Breakwater.SRC_CFG_HOST == 1) (s.bwCfg src Breakwater.SRC_CFG_SEAWALL == 1) = w at heq hw
    obtain ⟨ha, h4, h5, h6⟩ := w.applyReact_record hn b v (hblock hc)
    rw [heq]
    exact ⟨hn'.trans (hw.trans ha), fun he => ha.err (hw.err (hne he)), h6, fun _ => h5, fun _ h => ⟨w, hn'.trans hw, h4 h⟩⟩


/-! ## The commands -/

theorem named_of_page {pg : Nat} {r : PageRef} (h : pageRef pg = some r) : r.named := by
  refine named_of_pageRef (Nat.lt_of_not_le fun hpg => ?_) h
  have hnone : pageRef pg = none := by
    unfold pageRef
    repeat rw [if_neg (by omega)]
  rw [hnone] at h
  cases h

/-- The bit of an occurrence that is not consequential is unacknowledged, and none is acknowledged by it (R481). -/
theorem FltMarks.take_unack (m : FltMarks) (b : Nat) (v : Verdict) (err : Bool) :
    (v.conseq = false → hasBit (m.take b v err).unack b = true) ∧ ∀ c, hasBit m.unack c = true → hasBit (m.take b v err).unack c = true := by
  unfold FltMarks.take
  cases v.conseq with
  | true => exact ⟨nofun, fun c h => h⟩
  | false =>
    refine ⟨fun _ => by simp, fun c h => ?_⟩
    simp only [Bool.not_false, if_true, hasBit_setBit, h, Bool.true_or]

theorem faultOccurrence_completes (src : Fin 1536) (s : State) (pg b : Nat) (r : PageRef)
    (hd : s.due.find? (ofSource src) = some (.occurrence pg b)) (hr : pageRef pg = some r) : Completes (.faultOccurrence src) s fun t =>
      t.get 0x26 Breakwater.BW_LOG_WR_COUNT = (s.get 0x26 Breakwater.BW_LOG_WR_COUNT + 1) % Breakwater.BW_LOG_WR_COUNT.size ∧
      t.get 0x26 (Breakwater.LOG_INFO_SOURCE.nth (s.get 0x26 Breakwater.BW_LOG_WR_COUNT % 64)) = src ∧
      t.get 0x26 (Breakwater.LOG_INFO_SEV.nth (s.get 0x26 Breakwater.BW_LOG_WR_COUNT % 64)) = (s.verdict r src).sev % 8 ∧
      t.get 0x26 (Breakwater.LOG_INFO_REACT.nth (s.get 0x26 Breakwater.BW_LOG_WR_COUNT % 64)) = (s.verdict r src).react % 8 ∧
      t.flag 0x26 (Breakwater.LOG_INFO_CONSEQ.nth (s.get 0x26 Breakwater.BW_LOG_WR_COUNT % 64)) = (s.verdict r src).conseq ∧
      t.get 0x26 (Breakwater.LOG_TIME_LO_TIME.nth (s.get 0x26 Breakwater.BW_LOG_WR_COUNT % 64)) = s.now % 2 ^ 32 ∧
      (s.flag bwPage Breakwater.BW_FIRST_INFO_VALID = false → t.flag bwPage Breakwater.BW_FIRST_INFO_VALID = true ∧
        t.get bwPage Breakwater.BW_FIRST_INFO_SOURCE = src) ∧
      (s.flag bwPage Breakwater.BW_FIRST_INFO_VALID = true →
        t.get bwPage Breakwater.BW_FIRST_INFO_SOURCE = s.get bwPage Breakwater.BW_FIRST_INFO_SOURCE) ∧
      ((s.verdict r src).conseq = false → hasBit (t.marks pg).unack b = true) ∧
      (s.bwCfg src Breakwater.SRC_CFG_ERR = 1 → t.flag bwPage Breakwater.BW_STAT_ERR_DRIVEN = true) ∧
      ((s.verdict r src).react = 6 → t.terminal = true ∧ t.flag bwPage Breakwater.BW_STAT_ERR_DRIVEN = true) ∧
      ((s.verdict r src).conseq = false → (s.verdict r src).react = 5 →
        t.due.contains (.chipReset (if r.block = .lp ∧ b = 1 then 4 else 5)) = true) ∧
      ((s.verdict r src).conseq = false → (s.verdict r src).react = 4 →
        (r.block ≠ .drift → t.resetting { r with idx := 0 } = true) ∧
        (r.block = .drift → (r.base = pg → t.resetting r = true) ∧ ∀ i < 16,
          hasBit (s.marks ({ r with inst := r.inst / 16 * 16 + i } : PageRef).base).unack b = true →
          t.resetting { r with inst := r.inst / 16 * 16 + i } = true)) ∧
      SameMemory s t := by
  let s' : State := { s with due := s.due.eraseP (ofSource src) }
  have ht : exec (.faultOccurrence src) s = .next (s'.react pg b src) := by
    rw [exec, execFaultOccurrence, hd]
  have hmem := SameMemory.of_exec ht (by rw [exec]; exact answers_faultOccurrence (Quiet.refl s))
  have hv : s'.verdict r src = s.verdict r src := rfl
  obtain ⟨hkeep, herr, hterm, hchip, hblock⟩ := s'.react_effect b src hr (named_of_page hr)
  rw [hv] at hkeep herr hterm hchip hblock
  obtain ⟨⟨tide, hlog⟩, hfirst, hlater, hflt, -, -, -⟩ := s'.logVerdict_effect (s.verdict r src)
  have hsrc : (s.verdict r src).src = src := rfl
  generalize s.verdict r src = v at *
  obtain ⟨hcount, hcflt⟩ := (s'.logVerdict v).countVerdict_record v
  generalize s'.react pg b src = t at *
  generalize hu : (s'.logVerdict v).countVerdict v = u at *
  generalize he : (s'.bwCfg src Breakwater.SRC_CFG_ERR == 1 || v.react == 6) = err at *
  have hmarks : ∀ q, u.marks q = s.marks q := fun q => by rw [State.marks, hcflt, hflt, State.marks]
  let x := u.putMarks pg ((u.marks pg).take b v err)
  have hget : ∀ f y, (f, y) ∈ logEntry v (s.get 0x26 Breakwater.BW_LOG_WR_COUNT % 64) s.now tide (s.get 0x26 Breakwater.BW_LOG_WR_COUNT) →
      f.place < 0x8000 → t.get 0x26 f = y % f.size := fun f y h hf =>
    (hkeep.log f hf).trans ((hcount.log f hf).trans (hlog f y h))
  have hunack : ∀ q c, hasBit (s.marks q).unack c = true → hasBit (x.marks q).unack c = true := by
    intro q c hc
    rw [State.marks_putMarks]
    split
    · next hq =>
      rw [← hmarks, ← hq] at hc
      exact (FltMarks.take_unack ..).2 c hc
    · rw [hmarks]
      exact hc
  have hmine : v.conseq = false → hasBit (x.marks pg).unack b = true := fun hc => by
    rw [State.marks_putMarks_same]
    exact (FltMarks.take_unack ..).1 hc
  have hplace : ∀ f ∈ [Breakwater.LOG_INFO_CONSEQ, Breakwater.LOG_INFO_SEV, Breakwater.LOG_INFO_REACT, Breakwater.LOG_INFO_SOURCE,
      Breakwater.LOG_TIME_LO_TIME], ∀ j < 64, (f.nth j).place < 0x8000 := by decide
  have hj : s.get 0x26 Breakwater.BW_LOG_WR_COUNT % 64 < 64 := Nat.mod_lt _ (by decide)
  have hat : ∀ f y, (f.nth (s.get 0x26 Breakwater.BW_LOG_WR_COUNT % 64), y) ∈
      logEntry v (s.get 0x26 Breakwater.BW_LOG_WR_COUNT % 64) s.now tide (s.get 0x26 Breakwater.BW_LOG_WR_COUNT) →
      f ∈ [Breakwater.LOG_INFO_CONSEQ, Breakwater.LOG_INFO_SEV, Breakwater.LOG_INFO_REACT, Breakwater.LOG_INFO_SOURCE, Breakwater.LOG_TIME_LO_TIME] →
      t.get 0x26 (f.nth (s.get 0x26 Breakwater.BW_LOG_WR_COUNT % 64)) = y % f.size := fun f y h hf => hget _ y h (hplace f hf _ hj)
  have hsmall : v.src % 2048 = src := by rw [hsrc]; exact Nat.mod_eq_of_lt (by have := src.isLt; omega)
  refine ⟨t, ht, hget _ _ (by simp [logEntry]) (by decide), ?_, ?_, ?_, ?_, ?_, fun h => ?_, fun h => ?_, fun hc => ?_, fun h => ?_, fun h => ?_, hchip,
    fun hc h4 => ⟨fun hne => ?_, fun hdr => ?_⟩, hmem⟩
  · exact (hat _ v.src (by simp [logEntry]) (by simp)).trans hsmall
  · exact hat _ v.sev (by simp [logEntry]) (by simp)
  · exact hat _ v.react (by simp [logEntry]) (by simp)
  · rw [State.flag, hat _ (bit v.conseq) (by simp [logEntry]) (by simp)]
    cases v.conseq <;> rfl
  · exact hat _ s.now (by simp [logEntry]) (by simp)
  · obtain ⟨h1, h2⟩ := hfirst h
    exact ⟨hkeep.valid.trans (hcount.valid.trans h1), hkeep.source.trans (hcount.source.trans (h2.trans hsmall))⟩
  · exact hkeep.source.trans (hcount.source.trans (hlater h))
  · rw [hkeep.unack]
    exact hmine hc
  · refine herr (he ▸ ?_)
    rw [show s'.bwCfg src Breakwater.SRC_CFG_ERR = 1 from h]
    rfl
  · exact ⟨hterm h, herr (he ▸ by simp [h])⟩
  · obtain ⟨w, -, hall⟩ := hblock hc h4
    exact hall _ (by rw [State.blockTargets, if_neg hne]; exact List.mem_singleton_self _)
  · obtain ⟨w, hw, hall⟩ := hblock hc h4
    have htarget : ∀ i < 16, hasBit (x.marks ({ r with inst := r.inst / 16 * 16 + i } : PageRef).base).unack b = true →
        t.resetting { r with inst := r.inst / 16 * 16 + i } = true := fun i hi hbit => by
      refine hall _ ?_
      rw [State.blockTargets, if_pos hdr, List.mem_filter]
      refine ⟨List.mem_map.mpr ⟨i, List.mem_range.mpr hi, rfl⟩, ?_⟩
      rw [hw.unack]
      exact hbit
    refine ⟨fun hbase => ?_, fun i hi hbit => htarget i hi (hunack _ _ hbit)⟩
    have hself : ({ r with inst := r.inst / 16 * 16 + r.inst % 16 } : PageRef) = r := by rw [Nat.div_add_mod']
    have := htarget (r.inst % 16) (Nat.mod_lt _ (by decide))
    rw [hself, hbase] at this
    exact this (hmine hc)

theorem State.condBit_of_flt {s t : State} (h : t.flt = s.flt) (pg b : Nat) : t.condBit pg b = s.condBit pg b := by
  rw [State.condBit, State.marks, h, State.condBit, State.marks]

theorem State.togRuns_congr {s t : State} (hen : t.flag bwPage Breakwater.BW_CTRL_TOG_EN = s.flag bwPage Breakwater.BW_CTRL_TOG_EN)
    (hterm : t.terminal = s.terminal) (hdriven : t.flag bwPage Breakwater.BW_STAT_ERR_DRIVEN = s.flag bwPage Breakwater.BW_STAT_ERR_DRIVEN)
    (hpower : t.power = s.power) (hflt : t.flt = s.flt) (hoff : t.fault.togOff = s.fault.togOff) : t.togRuns = s.togRuns := by
  rw [State.togRuns, State.togRuns, hen, hterm, hdriven, hpower, hoff, State.condBit_of_flt hflt]

/-- ERR_TOG is driven where it may run, and its level is low where it may not (R491). -/
theorem State.judgeTog_effect (s : State) : s.judgeTog.togRuns = s.togRuns ∧ s.judgeTog.flag bwPage Breakwater.BW_STAT_TOG_RUNNING = s.togRuns ∧
    s.judgeTog.fault.togLevel = (s.togRuns && s.fault.togLevel) ∧ s.judgeTog.fault.togOff = s.fault.togOff ∧
    OnlyRegs s s.judgeTog [fieldKey bwPage Breakwater.BW_STAT_TOG_RUNNING] ∧ SameFaults s s.judgeTog ∧ s.judgeTog.out = s.out := by
  let u := s.put bwPage Breakwater.BW_STAT_TOG_RUNNING (bit s.togRuns)
  have hu : u.togRuns = s.togRuns := State.togRuns_congr (State.flag_put_other _ _ (by decide)) (State.flag_put_other _ _ (by decide))
    (State.flag_put_other _ _ (by decide)) rfl rfl rfl
  have hflag : u.flag bwPage Breakwater.BW_STAT_TOG_RUNNING = s.togRuns := by
    cases h : s.togRuns <;> simp only [u, h] <;> exact State.flag_put_bit ..
  have hregs : OnlyRegs s u [fieldKey bwPage Breakwater.BW_STAT_TOG_RUNNING] := (OnlyRegs.refl s _).put _ _ _ (by simp)
  have heq : s.judgeTog = if s.togRuns then u else { u with fault := { u.fault with togLevel := false } } := rfl
  rw [heq]
  cases h : s.togRuns with
  | true => exact ⟨hu.trans h, hflag.trans h, rfl, rfl, hregs, ⟨rfl, rfl⟩, rfl⟩
  | false => exact ⟨hu.trans h, hflag.trans h, rfl, rfl, hregs, ⟨rfl, rfl⟩, rfl⟩

/-- A TOG_EN bit is taken, and ERR_TOG follows it (R491). -/
theorem State.writeTogEn_effect (s : State) (on : Bool) : (s.writeTogEn on).flag bwPage Breakwater.BW_CTRL_TOG_EN = on ∧
    (s.writeTogEn on).flag bwPage Breakwater.BW_CTRL_LOCK = s.flag bwPage Breakwater.BW_CTRL_LOCK ∧ (s.writeTogEn on).out = s.out := by
  have hjudge : ∀ (t : State) (f : Field), fieldKey bwPage f ≠ fieldKey bwPage Breakwater.BW_STAT_TOG_RUNNING → t.judgeTog.flag bwPage f = t.flag bwPage f :=
    fun t f hf => State.flag_congr t (t.judgeTog_effect.2.2.2.2.1.get (by simpa using hf))
  have htry : ∀ (t : State) (f : Field), fieldKey bwPage f ≠ fieldKey bwPage Breakwater.BW_STAT_TOG_RUNNING →
      fieldKey bwPage Hdr.FLT_STAT_FAULT ≠ fieldKey bwPage f → t.tryTog.flag bwPage f = t.flag bwPage f ∧ t.tryTog.out = t.out := by
    intro t f hf hflt
    unfold State.tryTog
    split
    · refine ⟨(hjudge _ f hf).trans (State.flag_congr t (State.get_lower_other _ _ hflt)), ?_⟩
      exact (State.judgeTog_effect _).2.2.2.2.2.2.trans (State.lower_out ..)
    · exact ⟨rfl, rfl⟩
  unfold State.writeTogEn
  extract_lets u x v
  have hv : (∀ f, v.flag bwPage f = u.flag bwPage f) ∧ v.out = s.out := by
    unfold v
    split
    · exact ⟨fun _ => rfl, rfl⟩
    · exact ⟨fun _ => rfl, rfl⟩
  obtain ⟨h1, h2⟩ := htry v Breakwater.BW_CTRL_TOG_EN (by decide) (by decide)
  obtain ⟨h3, -⟩ := htry v Breakwater.BW_CTRL_LOCK (by decide) (by decide)
  refine ⟨?_, ?_, (State.judgeTog_effect _).2.2.2.2.2.2.trans (h2.trans hv.2)⟩
  · rw [hjudge _ _ (by decide), h1, hv.1]
    exact State.flag_put_bit ..
  · rw [hjudge _ _ (by decide), h3, hv.1]
    exact State.flag_put_other _ _ (by decide)

theorem sourceBit_lt {n pg b : Nat} (hn : n < 2048) (h : sourceBit n 0 = some (pg, b)) : b < 32 := by
  have hall : ∀ a < 8, ∀ c < 256, (sourceBit (256 * a + c) 0).all (fun e => decide (e.2 < 32)) = true := by decide +kernel
  have hs := hall (n / 256) (by omega) (n % 256) (by omega)
  rw [Nat.div_add_mod] at hs
  simpa [h] using hs

/-- Settles O50. -/
theorem faultOccurrencesAreLoggedAndAnswered : Obligations.FaultOccurrencesAreLoggedAndAnswered := by
  refine ⟨faultOccurrence_completes, fun req w s hs => ?lock, fun req w s hs => ?inject, fun high s => ?release, fun s => ?toggle, fun s => ?readback,
    fun s => ?stuck⟩
  case lock =>
    have ht : exec (.bwLock req w) s = .next ((s.put bwPage Breakwater.BW_CTRL_LOCK 1).writeTogEn (w.toNat.testBit 30)) := by
      rw [exec, execBwLock, State.onWrite_served hs]
    obtain ⟨h1, h2, h3⟩ := (s.put bwPage Breakwater.BW_CTRL_LOCK 1).writeTogEn_effect (w.toNat.testBit 30)
    exact ⟨_, ht, h2.trans (State.flag_put_one ..), h1.trans (by simp [BitVec.getLsbD]), h3,
      SameMemory.of_exec ht (by rw [exec]; exact answers_bwLock (Quiet.refl s))⟩
  case inject =>
    let n := w.toNat % 2 ^ 11
    let u := s.put 0x27 Breakwater.BW_INJ_SOURCE n
    have ht : exec (.faultInject req w) s = .next (if !s.factory then s else match sourceBit n 0 with
        | none => u
        | some (pg, b) => u.occur pg b) := by
      rw [exec, execFaultInject, State.onWrite_served hs]
      have hbits : bitsOf w.toNat 10 0 = n := by simp [bitsOf, n]
      simp only [hbits]
      rfl
    have hmem := SameMemory.of_exec ht (by rw [exec]; exact answers_faultInject (Quiet.refl s))
    refine ⟨_, ht, ?_⟩
    have hput : u.get 0x27 Breakwater.BW_INJ_SOURCE = n :=
      (State.get_put_same ..).trans (Nat.mod_eq_of_lt (show n < 2 ^ 11 from Nat.mod_lt _ (by decide)))
    cases hf : s.factory with
    | false =>
      refine ⟨fun _ => rfl, nofun, nofun, rfl, ?_⟩
      rwa [hf] at hmem
    | true =>
      rw [hf] at hmem
      cases hsrc : sourceBit n 0 with
      | none =>
        rw [hsrc] at hmem
        exact ⟨nofun, fun _ => ⟨hput, fun _ => rfl⟩, nofun, rfl, hmem⟩
      | some e =>
        obtain ⟨pg, b⟩ := e
        rw [hsrc] at hmem
        have hne : fieldKey pg Hdr.FLT_STAT_FAULT ≠ fieldKey 0x27 Breakwater.BW_INJ_SOURCE := by
          simp only [fieldKey, Hdr.FLT_STAT_FAULT, Breakwater.BW_INJ_SOURCE]
          omega
        refine ⟨nofun, fun _ => ⟨(State.get_put_other _ _ hne).trans hput, nofun⟩, fun pg' b' _ h => ?_, rfl, hmem⟩
        obtain ⟨rfl, rfl⟩ := Prod.mk.inj (Option.some.inj h)
        refine ⟨rfl, ?_⟩
        have hb : b < 32 := sourceBit_lt (n := n) (Nat.mod_lt _ (by decide)) hsrc
        change hasBit ((u.put pg Hdr.FLT_STAT_FAULT (setBit (u.get pg Hdr.FLT_STAT_FAULT) b)).get pg Hdr.FLT_STAT_FAULT) b = true
        rw [State.get_put_same]
        change hasBit (setBit (u.get pg Hdr.FLT_STAT_FAULT) b % 2 ^ 32) b = true
        rw [hasBit, Nat.testBit_mod_two_pow, decide_eq_true hb, Bool.true_and]
        have := hasBit_setBit (u.get pg Hdr.FLT_STAT_FAULT) b b
        simpa [hasBit] using this
  case release =>
    let a := (s.put bwPage Breakwater.BW_STAT_ERR_DRIVEN 0).put bwPage Breakwater.BW_STAT_ERR_BALL (bit high)
    let c := (a.put 0xC Chip.ERRN_STAT_STUCK 0).lower 0xC 1
    have ht : exec (.errNRelease high) s = .next (if !s.flag bwPage Breakwater.BW_STAT_ERR_DRIVEN || s.errHeld then s else c.judgeTog) := rfl
    have hmem := SameMemory.of_exec ht (by rw [exec]; exact answers_errNRelease (Quiet.refl s))
    refine ⟨_, ht, ?_⟩
    by_cases hk : (!s.flag bwPage Breakwater.BW_STAT_ERR_DRIVEN || s.errHeld) = true
    · rw [if_pos hk] at hmem ⊢
      refine ⟨fun _ => rfl, fun h1 h2 => ?_, rfl, hmem⟩
      simp [h1, h2] at hk
    · rw [if_neg hk] at hmem ⊢
      obtain ⟨-, -, -, -, honly, ⟨hflt, hdue⟩, -⟩ := c.judgeTog_effect
      have hflag : ∀ (pg : Nat) (f : Field), fieldKey pg f ≠ fieldKey bwPage Breakwater.BW_STAT_TOG_RUNNING →
          fieldKey 0xC Hdr.FLT_STAT_FAULT ≠ fieldKey pg f → c.judgeTog.flag pg f = (a.put 0xC Chip.ERRN_STAT_STUCK 0).flag pg f := fun pg f h1 h2 =>
        (State.flag_congr c (honly.get (by simpa using h1))).trans (State.flag_congr _ (State.get_lower_other _ _ h2))
      refine ⟨fun h => absurd (by rcases h with h | h <;> simp [h]) hk, fun _ _ => ⟨?_, ?_, ?_, ?_⟩, hdue.trans (State.lower_due ..), hmem⟩
      · rw [hflag _ _ (by decide) (by decide), State.flag_put_other _ _ (by decide), State.flag_put_other _ _ (by decide)]
        exact State.flag_put_zero ..
      · rw [hflag _ _ (by decide) (by decide), State.flag_put_other _ _ (by decide)]
        exact State.flag_put_bit ..
      · rw [hflag _ _ (by decide) (by decide)]
        exact State.flag_put_zero ..
      · rw [State.condBit_of_flt hflt]
        exact State.condBit_lower ..
  case toggle =>
    have ht : exec .errTogToggle s =
        .next (if s.judgeTog.togRuns then { s.judgeTog with fault := { s.judgeTog.fault with togLevel := !s.judgeTog.fault.togLevel } } else s.judgeTog) := rfl
    have hmem := SameMemory.of_exec ht (by rw [exec]; exact answers_errTogToggle (Quiet.refl s))
    obtain ⟨hruns, hflag, hlevel, -, honly, hfaults, -⟩ := s.judgeTog_effect
    refine ⟨_, ht, ?_⟩
    rw [hruns] at hmem ⊢
    cases h : s.togRuns with
    | true =>
      rw [h] at hmem hflag hlevel
      refine ⟨?_, hflag, honly, hmem, hfaults⟩
      change (!s.judgeTog.fault.togLevel) = _
      rw [hlevel]
      rfl
    | false =>
      rw [h] at hmem hflag hlevel
      exact ⟨hlevel, hflag, honly, hmem, hfaults⟩
  case readback =>
    let a : State := { s with fault := { s.fault with togOff := true, togCleared := false } }
    let c := (a.countSat 0xC Chip.GPIO_MISMATCH_COUNT).report bwPage 1
    have ht : exec .togReadback s = .next (if s.fault.togOff then s else c.judgeTog) := rfl
    have hmem := SameMemory.of_exec ht (by rw [exec]; exact answers_togReadback (Quiet.refl s))
    refine ⟨_, ht, ?_⟩
    cases hoff : s.fault.togOff with
    | true =>
      rw [hoff] at hmem
      exact ⟨fun _ => rfl, nofun, hmem⟩
    | false =>
      rw [hoff] at hmem
      refine ⟨nofun, fun _ => ?_, hmem⟩
      have hreport : c.fault = a.fault := by
        simp only [c, State.report, State.condEach]
        split <;> (try split) <;> simp
      have hno : c.togRuns = false := by rw [State.togRuns, hreport, Bool.not_true, Bool.and_false]
      obtain ⟨hruns, hflag, hlevel, hkeep, honly, ⟨hflt, -⟩, -⟩ := c.judgeTog_effect
      rw [hno] at hruns hflag hlevel
      refine ⟨hkeep.trans (congrArg FaultSt.togOff hreport), hlevel, hruns, hflag, (State.condBit_of_flt hflt _ _).trans (State.condBit_report ..), ?_⟩
      have hstat : OnlyRegs (a.countSat 0xC Chip.GPIO_MISMATCH_COUNT) c [fieldKey bwPage Hdr.FLT_STAT_FAULT] := by
        simp only [c, State.report, State.condEach, if_true]
        exact OnlyRegs.ite ((OnlyRegs.refl _ _).put _ _ _ (by simp)) ((OnlyRegs.refl _ _).raise _ _ (by simp))
      rw [if_neg Bool.false_ne_true, honly.get (by decide), hstat.get (by decide)]
      exact State.get_countSat_same ..
  case stuck =>
    let a := (s.put 0xC Chip.ERRN_STAT_STUCK 1).put bwPage Breakwater.BW_STAT_ERR_BALL 1
    have ht : exec .errnStuck s = .next (if s.flag bwPage Breakwater.BW_STAT_ERR_DRIVEN then a.raise 0xC 1 else s) := rfl
    have hmem := SameMemory.of_exec ht (by rw [exec]; exact answers_errnStuck (Quiet.refl s))
    refine ⟨_, ht, ?_⟩
    cases h : s.flag bwPage Breakwater.BW_STAT_ERR_DRIVEN with
    | false =>
      rw [h] at hmem
      exact ⟨fun _ => rfl, nofun, hmem⟩
    | true =>
      rw [h] at hmem
      refine ⟨nofun, fun _ => ⟨?_, ?_, State.condBit_raise ..⟩, hmem⟩
      · refine (State.flag_congr a (State.get_raise_other _ _ (by decide))).trans ((State.flag_put_other _ _ (by decide)).trans ?_)
        exact State.flag_put_one ..
      · exact (State.flag_congr a (State.get_raise_other _ _ (by decide))).trans (State.flag_put_one ..)

end Sys2Proof.Machine
end

section
/-! PROOFS. The halves of the Seawall: dual-act windows, self-test, reports, repair and planned switches (R459, R463, R465 to R468). -/

namespace Sys2Proof.Machine

/-! ## A planned switch (R466) -/

/-- The new half acts and the old one stands by; the new one's self-test stops. -/
def State.handsOver (s : State) (old new : Nat) : State :=
  let s := (s.putHalfState new 1).putHalfState old 2
  if s.seawall.bist.getD new none == none then s else { s with seawall := { s.seawall with bist := s.seawall.bist.set new none } }

theorem State.switchTo_planned (s : State) (old new cause : Nat) : s.switchTo old new cause true = (s.handsOver old new).actsFrom old new cause := by
  unfold State.switchTo
  rfl

theorem State.handsOver_regs (s : State) (old new : Nat) : (s.handsOver old new).regs = ((s.putHalfState new 1).putHalfState old 2).regs := by
  unfold State.handsOver
  extract_lets a b
  split <;> rfl

/-- The places that a planned switch writes. -/
def planPlaces : List Nat := [fieldKey swPage Seawall.SW_STAT_STATE_H0, fieldKey swPage Seawall.SW_STAT_STATE_H1] ++ actsPlaces

theorem halfField_planPlaces (h : Fin 2) : fieldKey swPage (halfField h) ∈ planPlaces := by
  revert h
  decide

theorem State.switchTo_planned_effect (s : State) (old new : Fin 2) (cause : Nat) (hne : old ≠ new) :
    WritesIn (· ∈ planPlaces) s (s.switchTo old new cause true) ∧
    (s.switchTo old new cause true).halfState new = 1 ∧ (s.switchTo old new cause true).halfState old = 2 ∧
    (s.switchTo old new cause true).halfActing new = true ∧ (s.switchTo old new cause true).get swPage Seawall.SW_LAST_CAUSE = cause % 16 ∧
    (s.switchTo old new cause true).get swPage Seawall.SW_LAST_FROM = old ∧ (s.switchTo old new cause true).get swPage Seawall.SW_LAST_TO = new ∧
    (s.switchTo old new cause true).eventBit swPage 0 = true ∧ KeepsEvents swPage s (s.switchTo old new cause true) := by
  have hregs := s.handsOver_regs old new
  rw [State.switchTo_planned]
  generalize s.handsOver old new = a at hregs
  obtain ⟨h1, h2, -, h4, h5, h6, h7, h8⟩ := a.actsFrom_effect old new cause hne
  have hfields : ∀ g : Fin 2, (a.actsFrom old new cause).get swPage (halfField g) =
      ((s.putHalfState new 1).putHalfState old 2).get swPage (halfField g) := fun g =>
    (h1.get (halfField_actsPlaces g)).trans (State.get_of_regs hregs _ _)
  have hstates : WritesIn (· ∈ planPlaces) s a := by
    have hput : WritesIn (· ∈ planPlaces) s ((s.putHalfState new 1).putHalfState old 2) :=
      ((WritesIn.refl _ s).put _ (halfField_planPlaces new)).put _ (halfField_planPlaces old)
    exact hput.regs hregs
  refine ⟨hstates.trans (h1.mono fun k hk => List.mem_append_right _ hk), ?_, ?_, h2, h4, h5, h6, h7, ?_⟩
  · rw [State.halfState_eq, hfields, State.putHalfState_eq, State.putHalfState_eq,
      State.get_put_other _ _ ((halfField_keys old).2.2.2.2 new hne), State.get_put_same, (halfField_facts new).1]
  · rw [State.halfState_eq, hfields, State.putHalfState_eq, State.get_put_same, (halfField_facts old).1]
  · refine KeepsEvents.trans (.of_get ?_) h8
    rw [State.get_of_regs hregs, State.putHalfState_eq, State.putHalfState_eq, State.get_put_other _ _ (halfField_facts old).2.1.symm,
      State.get_put_other _ _ (halfField_facts new).2.1.symm]

/-- An event that a dropped switch is rejected with (R467). -/
theorem State.dropSwitch_rejects (s : State) (h : s.flag swPage Seawall.SW_CMD_SWITCH = true) (reject : Bool) :
    (s.dropSwitch reject).flag swPage Seawall.SW_CMD_SWITCH = false ∧ (reject = true → (s.dropSwitch reject).eventBit swPage 6 = true) := by
  unfold State.dropSwitch
  rw [if_neg (by simp [h])]
  extract_lets u v
  have hu : u.flag swPage Seawall.SW_CMD_SWITCH = false ∧ (reject = true → u.eventBit swPage 6 = true) := by
    refine ⟨?_, fun hr => ?_⟩
    · rw [State.flag, State.get_eventIf_other _ _ _ (by decide), ← State.flag]
      exact State.flag_put_zero ..
    · subst hr
      refine (State.eventBit_event_of_page _ (by decide)).trans ?_
      simp
  exact hu

theorem switchApply_completes (s : State) (hf : s.flag swPage Seawall.SW_CMD_SWITCH = true) (hd : s.planLive = false ∨ s.seawall.switchDue = true) :
    Completes .switchApply s fun t =>
      t.flag swPage Seawall.SW_CMD_SWITCH = false ∧
      (∀ h : Fin 2, s.halfState (1 - h.val) = 1 → s.halfState h = 2 → t.halfState h = 1 ∧ t.halfState (1 - h.val) = 2 ∧ t.halfActing h = true ∧
        t.get swPage Seawall.SW_LAST_CAUSE = 10 ∧ t.get swPage Seawall.SW_LAST_TO = h ∧ t.get swPage Seawall.SW_LAST_FROM = 1 - h.val ∧
        t.eventBit swPage 0 = true) ∧
      ((∀ h : Fin 2, ¬ (s.halfState (1 - h.val) = 1 ∧ s.halfState h = 2)) → t.eventBit swPage 6 = true ∧ t.halfState 0 = s.halfState 0 ∧
        t.halfState 1 = s.halfState 1) ∧ SameMemory s t := by
  have hrun : (!s.flag swPage Seawall.SW_CMD_SWITCH || (s.planLive && !s.seawall.switchDue)) = false := by
    rcases hd with hd | hd <;> simp [hf, hd]
  cases hfind : [0, 1].find? (fun h => s.halfState (1 - h) == 1 && s.halfState h == 2) with
  | none =>
    have ht : exec .switchApply s = .next (s.dropSwitch true) := by
      rw [exec, execSwitchApply, hrun, if_neg Bool.false_ne_true, hfind]
    obtain ⟨hw, -⟩ := s.dropSwitch_effect true
    obtain ⟨h1, h2⟩ := s.dropSwitch_rejects hf true
    have hstate : ∀ h : Fin 2, (s.dropSwitch true).halfState h = s.halfState h := fun h => State.halfState_congr h (hw.get (halfField_facts h).2.2.2.2)
    refine ⟨_, ht, h1, fun h ha hb => ?_, fun _ => ⟨h2 rfl, hstate 0, hstate 1⟩,
      SameMemory.of_exec ht (by rw [exec]; exact answers_switchApply (Quiet.refl s))⟩
    have := List.find?_eq_none.mp hfind h.val (by fin_cases h <;> decide)
    simp [ha, hb] at this
  | some g =>
    have hg : g < 2 := by
      have := List.mem_of_find?_eq_some hfind
      simp only [List.mem_cons, List.not_mem_nil, or_false] at this
      omega
    obtain ⟨hg1, hg2⟩ : s.halfState (1 - g) = 1 ∧ s.halfState g = 2 := by simpa using List.find?_some hfind
    let u := s.dropSwitch false
    have ht : exec .switchApply s = .next (u.switchTo (1 - g) g 10 true) := by
      rw [exec, execSwitchApply, hrun, if_neg Bool.false_ne_true, hfind]
    have hold : 1 - g < 2 := by omega
    obtain ⟨w, h1, h2, h3, h4, h5, h6, h7, -⟩ := u.switchTo_planned_effect ⟨1 - g, hold⟩ ⟨g, hg⟩ 10 (by
      intro h
      have := congrArg Fin.val h
      dsimp only at this
      omega)
    dsimp only at w h1 h2 h3 h4 h5 h6 h7
    refine ⟨_, ht, (w.flag (by decide)).trans (s.dropSwitch_rejects hf false).1, fun h ha hb => ?_, fun hno => ?_,
      SameMemory.of_exec ht (by rw [exec]; exact answers_switchApply (Quiet.refl s))⟩
    · have heq : h.val = g := by
        by_contra hne
        have : h.val = 1 - g := by have := h.isLt; omega
        rw [this, hg1] at hb
        cases hb
      rw [heq]
      exact ⟨h1, h2, h3, h4, h6, h5, h7⟩
    · exact absurd ⟨hg1, hg2⟩ (hno ⟨g, hg⟩)

/-! ## Dual-act windows and self-test (R459, R463) -/

theorem dualActEnd_completes (x : Fin 160) (s : State) (w : DualWindow)
    (hw : s.seawall.duals.find? (fun w => w.stream == x.val && w.until_.isNone) = some w) :
    Completes (.dualActEnd x) s fun t =>
      (∀ v ∈ t.seawall.duals, v.stream = x.val → v.until_.isSome = true) ∧
      ((∀ v ∈ s.seawall.duals, v.until_ = none → v.stream = x.val) → t.flag swPage Seawall.SW_STAT_DUAL = false ∧ t.eventBit swPage 2 = true ∧
        t.get swPage Seawall.SW_LAST_WIN_NS = min 65535 (s.time.c - s.seawall.switchAt) ∧
        (s.halfState w.half ≠ 1 → t.halfActing w.half = false)) ∧
      OnlyRegs s t [fieldKey swPage Seawall.SW_STAT_DUAL, fieldKey swPage Seawall.SW_STAT_ACTING, fieldKey swPage Seawall.SW_LAST_WIN_NS,
        fieldKey swPage Hdr.EVT_STAT_EVENT] ∧ SameMemory s t ∧ SameFaults s t := by
  let close := fun (v : DualWindow) => if v.stream = x.val then { v with until_ := some s.time.c } else v
  let u : State := { s with seawall := { s.seawall with duals := s.seawall.duals.map close } }
  let a := if u.halfState w.half = 1 then u else u.putActing w.half false
  let b := a.put swPage Seawall.SW_LAST_WIN_NS (min 65535 (a.time.c - a.seawall.switchAt))
  have ht : exec (.dualActEnd x) s = .next (if u.seawall.duals.any (fun v => v.until_.isNone) then u
      else (b.put swPage Seawall.SW_STAT_DUAL 0).event swPage 2) := by
    rw [exec, execDualActEnd, hw]
  have hmem := SameMemory.of_exec ht (by rw [exec]; exact answers_dualActEnd (Quiet.refl s))
  have hclosed : ∀ v ∈ u.seawall.duals, v.stream = x.val → v.until_.isSome = true := by
    intro v hv hs
    obtain ⟨v', -, rfl⟩ := List.mem_map.mp hv
    simp only [close] at hs ⊢
    split at hs
    · next h => rw [if_pos h]; rfl
    · next h => exact absurd hs h
  refine ⟨_, ht, ?_⟩
  by_cases hany : (u.seawall.duals.any fun v => v.until_.isNone) = true
  · rw [if_pos hany] at hmem ⊢
    refine ⟨hclosed, fun hall => ?_, OnlyRegs.of_regs rfl _, hmem, rfl, rfl⟩
    obtain ⟨v, hv, hnone⟩ := List.any_eq_true.mp hany
    have hstream : v.stream = x.val := by
      obtain ⟨v', hv', rfl⟩ := List.mem_map.mp hv
      simp only [close] at hnone ⊢
      split
      · assumption
      · next h =>
        rw [if_neg h] at hnone
        exact hall v' hv' (Option.isNone_iff_eq_none.mp hnone)
    have := hclosed v hv hstream
    rw [Option.isNone_iff_eq_none.mp hnone] at this
    cases this
  · rw [if_neg hany] at hmem ⊢
    have ha : OnlyRegs u a [fieldKey swPage Seawall.SW_STAT_ACTING] ∧ a.seawall.duals = u.seawall.duals ∧ a.seawall.switchAt = s.seawall.switchAt ∧
        a.time = s.time ∧ SameFaults u a ∧ (s.halfState w.half ≠ 1 → a.halfActing w.half = false) := by
      unfold a
      split
      · next h => exact ⟨OnlyRegs.refl _ _, rfl, rfl, rfl, ⟨rfl, rfl⟩, fun hne => absurd h hne⟩
      · refine ⟨(OnlyRegs.refl u _).put _ _ _ (by simp), rfl, rfl, rfl, ⟨rfl, rfl⟩, fun _ => ?_⟩
        have hput : (u.putActing w.half false).get swPage Seawall.SW_STAT_ACTING = clearBit (u.get swPage Seawall.SW_STAT_ACTING) w.half % 2 ^ 2 :=
          State.get_put_same ..
        change hasBit ((u.putActing w.half false).get swPage Seawall.SW_STAT_ACTING) w.half = false
        rw [hput, hasBit, Nat.testBit_mod_two_pow]
        have hclear := hasBit_clearBit (u.get swPage Seawall.SW_STAT_ACTING) w.half w.half
        rw [hasBit] at hclear
        simp [hclear]
    obtain ⟨h1, h2, h3, h4, ⟨h5, h6⟩, h7⟩ := ha
    have hwin : b.get swPage Seawall.SW_LAST_WIN_NS = min 65535 (s.time.c - s.seawall.switchAt) := by
      refine (State.get_put_same ..).trans ?_
      rw [h3, h4]
      exact Nat.mod_eq_of_lt (show _ < 65536 by omega)
    have hb : OnlyRegs a b [fieldKey swPage Seawall.SW_LAST_WIN_NS] := (OnlyRegs.refl a _).put _ _ _ (by simp)
    have hc : OnlyRegs b ((b.put swPage Seawall.SW_STAT_DUAL 0).event swPage 2) [fieldKey swPage Seawall.SW_STAT_DUAL, fieldKey swPage Hdr.EVT_STAT_EVENT] :=
      ((OnlyRegs.refl b _).put _ _ _ (by simp)).event _ _ (by simp)
    have hsea : b.seawall = a.seawall ∧ b.flt = a.flt ∧ b.due = a.due := ⟨rfl, rfl, rfl⟩
    clear_value b
    clear_value a
    refine ⟨fun v hv => hclosed v ?_, fun _ => ⟨?_, ?_, (hc.get (by decide)).trans hwin, fun hne => ?_⟩, ?_, hmem, ?_, ?_⟩
    · rw [← h2, ← hsea.1]
      exact hv
    · rw [State.flag, State.get_event_other _ _ (by decide), ← State.flag]
      exact State.flag_put_zero ..
    · rw [State.eventBit_event_of_page _ (by decide)]
      simp
    · refine (State.halfActing_congr ((hc.get (by decide)).trans (hb.get (by decide))) _).trans (h7 hne)
    · refine (OnlyRegs.of_regs (t := u) rfl _).trans ((h1.mono fun k hk => ?_).trans ((hb.mono fun k hk => ?_).trans (hc.mono fun k hk => ?_)))
      all_goals simp only [List.mem_cons, List.not_mem_nil, or_false] at hk ⊢
      · simp [hk]
      · simp [hk]
      · rcases hk with hk | hk <;> simp [hk]
    · exact hsea.2.1.trans h5
    · exact hsea.2.2.trans h6


/-- The places that a step of the self-test writes. -/
def bistPlaces (h : Nat) : List Nat := [Seawall.SW_BIST_POS_SLICE, Seawall.SW_BIST_POS_ISLAND, Seawall.SW_PASSES_BIST].map fun f => fieldKey swPage1 (f.nth h)

theorem bistPlaces_keys (h : Fin 2) : fieldKey swPage1 (Seawall.SW_BIST_RUN_COUNT.nth h) ∉ bistPlaces h ∧
    fieldKey swPage1 (Seawall.SW_BIST_RUN_COUNT.nth h) ≠ fieldKey swPage1 (Seawall.SW_BIST_POS_SLICE.nth h) ∧
    fieldKey swPage1 (Seawall.SW_BIST_POS_ISLAND.nth h) ≠ fieldKey swPage1 (Seawall.SW_BIST_POS_SLICE.nth h) ∧
    fieldKey swPage1 (Seawall.SW_PASSES_BIST.nth h) ≠ fieldKey swPage1 (Seawall.SW_BIST_POS_SLICE.nth h) := by
  revert h
  decide

/-- The position moves one slice on; after the last one the next island begins (R463). -/
theorem State.stepBist_effect (s : State) (h : Fin 2) :
    WritesIn (· ∈ bistPlaces h) s (s.stepBist h) ∧ (s.stepBist h).seawall = s.seawall ∧ (s.stepBist h).due = s.due ∧ (s.stepBist h).flt = s.flt ∧
    (s.get swPage1 (Seawall.SW_BIST_POS_SLICE.nth h) < 63 →
      (s.stepBist h).get swPage1 (Seawall.SW_BIST_POS_SLICE.nth h) = s.get swPage1 (Seawall.SW_BIST_POS_SLICE.nth h) + 1) ∧
    (¬ s.get swPage1 (Seawall.SW_BIST_POS_SLICE.nth h) < 63 → (s.stepBist h).get swPage1 (Seawall.SW_BIST_POS_SLICE.nth h) = 0) := by
  obtain ⟨-, -, hisland, hpasses⟩ := bistPlaces_keys h
  have hslice : fieldKey swPage1 (Seawall.SW_BIST_POS_SLICE.nth h) ∈ bistPlaces h := by simp [bistPlaces]
  have hisl : fieldKey swPage1 (Seawall.SW_BIST_POS_ISLAND.nth h) ∈ bistPlaces h := by simp [bistPlaces]
  have hpas : fieldKey swPage1 (Seawall.SW_PASSES_BIST.nth h) ∈ bistPlaces h := by simp [bistPlaces]
  unfold State.stepBist
  extract_lets i k u l
  split
  · next hk =>
    exact ⟨(WritesIn.refl _ s).put _ hslice, rfl, rfl, rfl,
      fun _ => (State.get_put_same ..).trans (Nat.mod_eq_of_lt (show k + 1 < 64 by omega)), fun hn => absurd hk hn⟩
  · next hk =>
    have hu : WritesIn (· ∈ bistPlaces h) s u := (WritesIn.refl _ s).put _ hslice
    have hz : u.get swPage1 (Seawall.SW_BIST_POS_SLICE.nth h) = 0 := (State.get_put_same ..).trans (Nat.zero_mod _)
    have hseawall : u.seawall = s.seawall ∧ u.due = s.due ∧ u.flt = s.flt := ⟨rfl, rfl, rfl⟩
    clear_value u
    split
    · exact ⟨hu.put _ hisl, hseawall.1, hseawall.2.1, hseawall.2.2, fun h => absurd h hk, fun _ => (State.get_put_other _ _ hisland).trans hz⟩
    · exact ⟨(hu.put _ hisl).countWrap hpas, hseawall.1, hseawall.2.1, hseawall.2.2, fun h => absurd h hk,
        fun _ => ((State.get_countWrap _ _).trans (if_neg hpasses)).trans ((State.get_put_other _ _ hisland).trans hz)⟩

theorem bistSliceDone_completes (h : Fin 2) (good : Bool) (s : State) (hb : (s.seawall.bist.getD h none).isSome = true) :
    Completes (.bistSliceDone h good) s fun t =>
      t.seawall.bist.getD h none = none ∧
      t.get swPage1 (Seawall.SW_BIST_RUN_COUNT.nth h) =
        (s.get swPage1 (Seawall.SW_BIST_RUN_COUNT.nth h) + 1) % (Seawall.SW_BIST_RUN_COUNT.nth h).size ∧
      (s.get swPage1 (Seawall.SW_BIST_POS_SLICE.nth h) < 63 →
        t.get swPage1 (Seawall.SW_BIST_POS_SLICE.nth h) = s.get swPage1 (Seawall.SW_BIST_POS_SLICE.nth h) + 1) ∧
      (s.get swPage1 (Seawall.SW_BIST_POS_SLICE.nth h) = 63 → t.get swPage1 (Seawall.SW_BIST_POS_SLICE.nth h) = 0) ∧
      t.due = (if good then s.due else s.due ++ [.selfCheck h 8]) ∧ t.flt = s.flt ∧ SameMemory s t := by
  let u : State := { s with seawall := { s.seawall with bist := s.seawall.bist.set h none } }
  let a := u.countWrap swPage1 (Seawall.SW_BIST_RUN_COUNT.nth h)
  let b := a.stepBist h
  have ht : exec (.bistSliceDone h good) s = .next (if good then b else (b.noteHalf h fun t => { t with bistBad := true }).selfCheck h 8) := by
    rw [exec, execBistSliceDone, ← Option.not_isSome, hb, Bool.not_true, if_neg Bool.false_ne_true]
  have hmem := SameMemory.of_exec ht (by rw [exec]; exact answers_bistSliceDone (Quiet.refl s))
  obtain ⟨hcount, hne, -, -⟩ := bistPlaces_keys h
  obtain ⟨h1, h2, h3, h4, h5, h6⟩ := a.stepBist_effect h
  have hbist : b.seawall.bist.getD h none = none := by
    rw [h2]
    change (s.seawall.bist.set h none).getD h none = none
    rw [List.getD_eq_getElem?_getD, List.getElem?_set]
    split
    · split <;> rfl
    · next hne => exact absurd rfl hne
  have hrun : b.get swPage1 (Seawall.SW_BIST_RUN_COUNT.nth h) =
      (s.get swPage1 (Seawall.SW_BIST_RUN_COUNT.nth h) + 1) % (Seawall.SW_BIST_RUN_COUNT.nth h).size := by
    rw [h1.get hcount]
    exact State.get_put_same ..
  have hpos : a.get swPage1 (Seawall.SW_BIST_POS_SLICE.nth h) = s.get swPage1 (Seawall.SW_BIST_POS_SLICE.nth h) :=
    (State.get_countWrap _ _).trans (if_neg hne)
  rw [hpos] at h5 h6
  have hzero : s.get swPage1 (Seawall.SW_BIST_POS_SLICE.nth h) = 63 → b.get swPage1 (Seawall.SW_BIST_POS_SLICE.nth h) = 0 := fun hk => h6 (by omega)
  refine ⟨_, ht, ?_⟩
  have hslice : s.get swPage1 (Seawall.SW_BIST_POS_SLICE.nth h) < 63 →
      b.get swPage1 (Seawall.SW_BIST_POS_SLICE.nth h) = s.get swPage1 (Seawall.SW_BIST_POS_SLICE.nth h) + 1 := h5
  have hdue : b.due = s.due := h3
  have hflt : b.flt = s.flt := h4
  clear_value b
  cases good with
  | true => exact ⟨hbist, hrun, hslice, hzero, hdue, hflt, hmem⟩
  | false => exact ⟨hbist, hrun, hslice, hzero, congrArg (· ++ [Due.selfCheck h 8]) hdue, hflt, hmem⟩

/-! ## Health reports (R465) -/

/-- The items of a half's report: heartbeats, self-checks, the self-tests, faults, parts and the comparison. -/
def State.reportItems (s : State) (h : Nat) : List Bool :=
  let t := s.seawall.tide.getD h {}
  [!t.hbBad, !t.checkBad, !t.bistBad, !t.mbistBad, !t.faultBad && !s.halfFaulty h, !t.partBad, s.halfState h != 3 || !t.differ]

/-- Whether the half is healthy. -/
def State.reportHealthy (s : State) (h : Nat) : Bool := (s.reportItems h).all id && s.halfState h != 0 && s.halfState h != 4

/-- The fields of the items. -/
def reportFields : List Field := [Seawall.SW_RPT_HB_OK, Seawall.SW_RPT_CHECK_OK, Seawall.SW_RPT_BIST_OK, Seawall.SW_RPT_MBIST_OK, Seawall.SW_RPT_FAULT_OK,
  Seawall.SW_RPT_PARTS_OK, Seawall.SW_RPT_MATCH_OK]

/-- What a report writes to its page. -/
def reportEntry (h : Nat) (items : List Bool) (healthy : Bool) (tide : Nat) : List (Field × Nat) :=
  ((reportFields.zip items).map fun e => (e.1.nth h, bit e.2)) ++ [(Seawall.SW_RPT_HEALTHY.nth h, bit healthy), (Seawall.SW_RPT_TIDE_TIDE.nth h, tide)]

theorem State.reportHalf_eq (s : State) (h tide : Nat) : s.reportHalf h tide =
    ((s.putAll swPage1 (reportEntry h (s.reportItems h) (s.reportHealthy h) tide)).putHalfBit Seawall.SW_STAT_HEALTHY h (s.reportHealthy h)).noteHalf h
      fun _ => {} := by
  unfold State.reportHalf
  rfl

/-- The places of a half's report. -/
def reportPlaces (h : Nat) : List Nat :=
  (reportFields ++ [Seawall.SW_RPT_HEALTHY, Seawall.SW_RPT_TIDE_TIDE]).map (fun f => fieldKey swPage1 (f.nth h)) ++
    [fieldKey swPage Seawall.SW_STAT_HEALTHY]

theorem reportPlaces_keys (h : Fin 2) :
    ((reportFields ++ [Seawall.SW_RPT_HEALTHY, Seawall.SW_RPT_TIDE_TIDE]).map fun f => fieldKey swPage1 (f.nth h)).Nodup ∧
    (∀ g : Fin 2, fieldKey swPage (halfField g) ∉ reportPlaces h) ∧
    (∀ f ∈ reportFields ++ [Seawall.SW_RPT_HEALTHY, Seawall.SW_RPT_TIDE_TIDE], fieldKey swPage Seawall.SW_STAT_HEALTHY ≠ fieldKey swPage1 (f.nth h)) ∧
    (∀ f ∈ reportFields ++ [Seawall.SW_RPT_HEALTHY, Seawall.SW_RPT_TIDE_TIDE], ∀ g : Fin 2, h ≠ g → fieldKey swPage1 (f.nth h) ∉ reportPlaces g) := by
  revert h
  decide

theorem WritesIn.putAll {P : Nat → Prop} {s t : State} (h : WritesIn P s t) {pg : Nat} {l : List (Field × Nat)} (hl : ∀ e ∈ l, P (fieldKey pg e.1)) :
    WritesIn P s (t.putAll pg l) := h.foldl fun _ e he hu => hu.put _ (hl e he)

/-- The keys of a report are those of its fields, item by item. -/
theorem reportEntry_keys (h : Nat) {items : List Bool} (hlen : items.length = reportFields.length) (healthy : Bool) (tide : Nat) :
    ((reportEntry h items healthy tide).map fun e => fieldKey swPage1 e.1) =
      (reportFields ++ [Seawall.SW_RPT_HEALTHY, Seawall.SW_RPT_TIDE_TIDE]).map fun f => fieldKey swPage1 (f.nth h) := by
  have hzip : (reportFields.zip items).map Prod.fst = reportFields := List.map_fst_zip (by omega)
  rw [reportEntry, List.map_append, List.map_append, List.map_map]
  refine congrArg₂ (· ++ ·) ?_ rfl
  calc (reportFields.zip items).map _ = ((reportFields.zip items).map Prod.fst).map fun f => fieldKey swPage1 (f.nth h) := by rw [List.map_map]; rfl
    _ = _ := by rw [hzip]

theorem State.reportHalf_effect (s : State) (h : Fin 2) (tide : Nat) :
    WritesIn (· ∈ reportPlaces h) s (s.reportHalf h tide) ∧
    (∀ e ∈ reportEntry h (s.reportItems h) (s.reportHealthy h) tide, (s.reportHalf h tide).get swPage1 e.1 = e.2 % e.1.size) ∧
    hasBit ((s.reportHalf h tide).get swPage Seawall.SW_STAT_HEALTHY) h = s.reportHealthy h ∧
    (∀ g : Fin 2, h ≠ g → hasBit ((s.reportHalf h tide).get swPage Seawall.SW_STAT_HEALTHY) g = hasBit (s.get swPage Seawall.SW_STAT_HEALTHY) g ∧
      (s.reportHalf h tide).seawall.tide.getD g {} = s.seawall.tide.getD g {}) ∧ (s.reportHalf h tide).flt = s.flt := by
  obtain ⟨hnodup, -, hhealthy, -⟩ := reportPlaces_keys h
  rw [State.reportHalf_eq]
  have hkeys := reportEntry_keys h (items := s.reportItems h) rfl (s.reportHealthy h) tide
  generalize hentry : reportEntry h (s.reportItems h) (s.reportHealthy h) tide = entry at hkeys
  generalize s.reportHealthy h = healthy at hentry
  let u := s.putAll swPage1 entry
  have hmem : ∀ e ∈ entry, ∃ f ∈ reportFields ++ [Seawall.SW_RPT_HEALTHY, Seawall.SW_RPT_TIDE_TIDE], fieldKey swPage1 (f.nth h) = fieldKey swPage1 e.1 :=
    fun e he => List.mem_map.mp (hkeys ▸ List.mem_map_of_mem (f := fun e : Field × Nat => fieldKey swPage1 e.1) he)
  have hu : WritesIn (· ∈ reportPlaces h) s u := (WritesIn.refl _ s).putAll fun e he => by
    obtain ⟨f, hf, hk⟩ := hmem e he
    exact List.mem_append_left _ (hk ▸ List.mem_map_of_mem (f := fun f : Field => fieldKey swPage1 (f.nth h)) hf)
  have hsame : u.get swPage Seawall.SW_STAT_HEALTHY = s.get swPage Seawall.SW_STAT_HEALTHY :=
    State.get_putAll_other s fun e he hk => by
      obtain ⟨f, hf, hk'⟩ := hmem e he
      exact hhealthy f hf (hk.symm.trans hk'.symm)
  refine ⟨(hu.put _ (List.mem_append_right _ (.head _))).regs rfl, fun e he => ?_, ?_, fun g hg => ⟨?_, ?_⟩, ?_⟩
  · refine (State.get_put_other _ _ ?_).trans (State.get_putAll_mem s (hkeys ▸ hnodup) he)
    obtain ⟨f, hf, hk⟩ := hmem e he
    exact fun h' => hhealthy f hf (h'.trans hk.symm)
  · exact (State.hasBit_putHalfBit u rfl h.isLt healthy).trans (if_pos rfl)
  · refine (State.hasBit_putHalfBit u rfl g.isLt healthy).trans ((if_neg fun hv => hg (Fin.ext hv)).trans ?_)
    rw [hsame]
  · have hsea : u.seawall = s.seawall := foldl_keeps (v := State.seawall) (f := fun (s : State) (e : Field × Nat) => s.put swPage1 e.1 e.2) (fun _ _ => rfl) entry s
    change (u.seawall.tide.modify h fun _ => {}).getD g {} = _
    have hne : h.val ≠ g.val := fun hv => hg (Fin.ext hv)
    rw [hsea, List.getD_eq_getElem?_getD, List.getElem?_modify, List.getD_eq_getElem?_getD]
    simp only [hne, if_false]
    cases s.seawall.tide[(g : Nat)]? <;> rfl
  · exact (s.putAll_keeps swPage1 entry).1


/-! ## Recovering (R468) -/

/-- The places that the recovery of a half writes. -/
def recoverPlaces : List Nat := fieldKey swPage Seawall.SW_STAT_RECOVER_COUNT :: planPlaces

theorem State.recover_effect (s : State) (h g : Fin 2) (hgh : g.val = 1 - h.val) :
    WritesIn (· ∈ recoverPlaces) s (s.recover h) ∧ (s.halfState h ≠ 3 → s.recover h = s) ∧
    (s.halfState g ≠ 3 → (s.recover h).halfState g ≠ 3) ∧
    (s.halfState h = 3 → hasBit (s.get swPage Seawall.SW_STAT_HEALTHY) h = false →
      (s.recover h).get swPage Seawall.SW_STAT_RECOVER_COUNT = 0 ∧ (s.recover h).halfState h = 3) ∧
    (s.halfState h = 3 → hasBit (s.get swPage Seawall.SW_STAT_HEALTHY) h = true → s.get swPage Seawall.SW_STAT_RECOVER_COUNT + 1 < 64 →
      (s.recover h).get swPage Seawall.SW_STAT_RECOVER_COUNT = s.get swPage Seawall.SW_STAT_RECOVER_COUNT + 1 ∧ (s.recover h).halfState h = 3) ∧
    (s.halfState h = 3 → hasBit (s.get swPage Seawall.SW_STAT_HEALTHY) h = true → s.get swPage Seawall.SW_STAT_RECOVER_COUNT + 1 = 64 →
      (s.recover h).eventBit swPage 5 = true ∧ (s.recover h).halfState h = (if s.flag swPage Seawall.SW_CFG_REVERT_EN &&
        s.get swPage Seawall.SW_CFG_PREFER == h && s.halfState g == 1 then 1 else 2)) := by
  have hne : g ≠ h := fun he => by rw [he] at hgh; have := h.isLt; omega
  obtain ⟨hsize, hev, hcount, -, -⟩ := halfField_facts h
  have hplan := halfField_planPlaces h
  have hstate : ∀ v (k : Fin 2), (s.put swPage Seawall.SW_STAT_RECOVER_COUNT v).halfState k = s.halfState k := fun v k =>
    State.halfState_congr k (State.get_put_other _ _ (halfField_facts k).2.2.1.symm)
  have hput : ∀ v, WritesIn (· ∈ recoverPlaces) s (s.put swPage Seawall.SW_STAT_RECOVER_COUNT v) := fun v => (WritesIn.refl _ s).put _ (.head _)
  unfold State.recover
  by_cases h3 : s.halfState h = 3
  swap
  · rw [if_pos h3]
    exact ⟨WritesIn.refl _ s, fun _ => rfl, id, fun h => absurd h h3, fun h => absurd h h3, fun h => absurd h h3⟩
  rw [if_neg (not_not_intro h3)]
  cases hb : hasBit (s.get swPage Seawall.SW_STAT_HEALTHY) h with
  | false =>
    rw [if_pos (by rfl)]
    exact ⟨hput 0, fun h => absurd h3 h, fun hg3 => (hstate 0 g).trans_ne hg3,
      fun _ _ => ⟨(State.get_put_same ..).trans (Nat.zero_mod _), (hstate 0 h).trans h3⟩, nofun, nofun⟩
  | true =>
    rw [if_neg (by decide)]
    extract_lets n u v
    split
    · next hlt =>
      refine ⟨hput n, fun h => absurd h3 h, fun hg3 => (hstate n g).trans_ne hg3, nofun, fun _ _ _ => ⟨?_, (hstate n h).trans h3⟩,
        fun _ _ heq => absurd hlt (by omega)⟩
      exact (State.get_put_same ..).trans (Nat.mod_eq_of_lt (Nat.lt_trans hlt (by decide)))
    · next hge =>
      have hv : WritesIn (· ∈ [fieldKey swPage Seawall.SW_STAT_RECOVER_COUNT, fieldKey swPage Hdr.EVT_STAT_EVENT]) s v :=
        ((WritesIn.refl _ s).put _ (by decide)).event (by decide)
      have hvr : WritesIn (· ∈ recoverPlaces) s v := ((WritesIn.refl _ s).put _ (by decide)).event (by decide)
      have hvev : v.eventBit swPage 5 = true := by
        refine (State.eventBit_event_of_page _ (by decide)).trans ?_
        simp
      have hkeys : ∀ k : Fin 2, fieldKey swPage (halfField k) ∉ [fieldKey swPage Seawall.SW_STAT_RECOVER_COUNT, fieldKey swPage Hdr.EVT_STAT_EVENT] := by
        decide
      have hvstate : ∀ k : Fin 2, v.halfState k = s.halfState k := fun k => State.halfState_congr k (hv.get (hkeys k))
      have hcond : (v.flag swPage Seawall.SW_CFG_REVERT_EN && v.get swPage Seawall.SW_CFG_PREFER == h.val && v.halfState (1 - h) == 1) =
          (s.flag swPage Seawall.SW_CFG_REVERT_EN && s.get swPage Seawall.SW_CFG_PREFER == h.val && s.halfState g == 1) := by
        rw [hv.flag (by decide), hv.get (by decide), ← hgh, hvstate]
      rw [hcond]
      clear_value v
      split
      · next hrev =>
        obtain ⟨w, k1, k2, -, -, -, -, -, k8⟩ := v.switchTo_planned_effect g h 9 hne
        rw [hgh] at w k1 k2 k8
        refine ⟨hvr.trans (w.mono fun k hk => .tail _ hk), fun h => absurd h3 h, fun _ => ?_, nofun, fun _ _ hlt => absurd hlt hge,
          fun _ _ _ => ⟨k8 5 (by decide) hvev, k1⟩⟩
        rw [hgh, k2]
        decide
      · next hno =>
        obtain ⟨w, -⟩ := (v.putHalfState h 2).judgeSeawall_effect
        have hp : ∀ k : Fin 2, (v.putHalfState h 2).judgeSeawall.halfState k = (v.putHalfState h 2).halfState k := fun k =>
          State.halfState_congr k (w.get (halfField_keys k).2.2.2.1)
        have hother : (v.putHalfState h 2).halfState g = v.halfState g :=
          State.halfState_congr g (State.get_put_other _ _ ((halfField_keys h).2.2.2.2 g (Ne.symm hne)))
        refine ⟨hvr.trans (((WritesIn.refl _ v).put _ (.tail _ hplan)).trans (w.mono fun k hk => .tail _ ?_)), fun h => absurd h3 h, fun hg3 => ?_, nofun,
          fun _ _ hlt => absurd hlt hge, fun _ _ _ => ⟨?_, ?_⟩⟩
        · exact List.mem_append_right _ (List.mem_append_right _ hk)
        · rw [hp, hother, hvstate]
          exact hg3
        · rw [State.eventBit_congr v ((w.get (by decide)).trans (State.get_put_other _ _ hev.symm))]
          exact hvev
        · rw [hp, State.halfState_eq, State.putHalfState_eq, State.get_put_same, hsize]


theorem State.halfFaulty_congr {s t : State} (h : t.flt = s.flt) (k : Nat) : t.halfFaulty k = s.halfFaulty k := by
  rw [State.halfFaulty, State.halfFaulty, h]

/-- Both halves' reports, each of what was found in its half. -/
theorem State.reports_effect (s : State) (tide : Nat) (h : Fin 2) :
    let b := (s.reportHalf 0 tide).reportHalf 1 tide
    (∀ e ∈ reportEntry h (s.reportItems h) (s.reportHealthy h) tide, b.get swPage1 e.1 = e.2 % e.1.size) ∧
    hasBit (b.get swPage Seawall.SW_STAT_HEALTHY) h = s.reportHealthy h ∧
    WritesIn (fun k => k ∈ reportPlaces 0 ∨ k ∈ reportPlaces 1) s b := by
  intro b
  obtain ⟨a1, a2, a3, a4, a5⟩ := s.reportHalf_effect 0 tide
  obtain ⟨b1, b2, b3, b4, -⟩ := (s.reportHalf 0 tide).reportHalf_effect 1 tide
  have hwrites : WritesIn (fun k => k ∈ reportPlaces 0 ∨ k ∈ reportPlaces 1) s b := (a1.mono fun k hk => Or.inl hk).trans (b1.mono fun k hk => Or.inr hk)
  have hstate : (s.reportHalf 0 tide).halfState 1 = s.halfState 1 := State.halfState_congr 1 (a1.get ((reportPlaces_keys 0).2.1 1))
  have hitems : (s.reportHalf 0 tide).reportItems 1 = s.reportItems 1 := by
    have htide : (s.reportHalf 0 tide).seawall.tide.getD 1 {} = s.seawall.tide.getD 1 {} := (a4 1 (by decide)).2
    have hfaulty : (s.reportHalf 0 tide).halfFaulty 1 = s.halfFaulty 1 := State.halfFaulty_congr a5 1
    rw [State.reportItems, State.reportItems, htide, hfaulty, hstate]
  have hhealthy : (s.reportHalf 0 tide).reportHealthy 1 = s.reportHealthy 1 := by
    rw [State.reportHealthy, State.reportHealthy, hitems, hstate]
  rcases (by omega : h.val = 0 ∨ h.val = 1) with h0 | h1
  · obtain rfl : h = 0 := Fin.ext h0
    refine ⟨fun e he => ?_, (b4 0 (by decide)).1.trans a3, hwrites⟩
    refine (b1.get ?_).trans (a2 e he)
    have hmem : fieldKey swPage1 e.1 ∈ (reportFields ++ [Seawall.SW_RPT_HEALTHY, Seawall.SW_RPT_TIDE_TIDE]).map fun f => fieldKey swPage1 (f.nth (0 : Fin 2)) :=
      reportEntry_keys ((0 : Fin 2) : Nat) (items := s.reportItems (0 : Fin 2)) rfl _ tide ▸
        List.mem_map_of_mem (f := fun e : Field × Nat => fieldKey swPage1 e.1) he
    obtain ⟨f, hf, hk⟩ := List.mem_map.mp hmem
    exact hk ▸ (reportPlaces_keys 0).2.2.2 f hf 1 (by decide)
  · obtain rfl : h = 1 := Fin.ext h1
    refine ⟨fun e he => b2 e ?_, b3.trans hhealthy, hwrites⟩
    change e ∈ reportEntry 1 ((s.reportHalf 0 tide).reportItems 1) ((s.reportHalf 0 tide).reportHealthy 1) tide
    rw [hitems, hhealthy]
    exact he

theorem reportKeys_leave (h : Fin 2) : (∀ f ∈ reportFields ++ [Seawall.SW_RPT_HEALTHY, Seawall.SW_RPT_TIDE_TIDE],
    fieldKey swPage1 (f.nth h) ∉ recoverPlaces ∧ fieldKey swPage1 (f.nth h) ≠ fieldKey swPage Hdr.FLT_STAT_FAULT) ∧
    ∀ k ∈ [fieldKey swPage (halfField h), fieldKey swPage Seawall.SW_STAT_RECOVER_COUNT, fieldKey swPage Seawall.SW_CFG_REVERT_EN,
      fieldKey swPage Seawall.SW_CFG_PREFER], k ∉ reportPlaces 0 ∧ k ∉ reportPlaces 1 ∧ k ≠ fieldKey swPage Hdr.FLT_STAT_FAULT := by
  revert h
  decide

theorem healthReportTimer_completes (s : State) :
    Completes .healthReportTimer s fun t =>
      (s.planLive = true → t = s) ∧
      (s.planLive = false → ∀ h : Fin 2,
        t.get swPage1 (Seawall.SW_RPT_TIDE_TIDE.nth h) = 0 ∧
        t.flag swPage1 (Seawall.SW_RPT_HB_OK.nth h) = !(s.seawall.tide.getD h {}).hbBad ∧
        t.flag swPage1 (Seawall.SW_RPT_CHECK_OK.nth h) = !(s.seawall.tide.getD h {}).checkBad ∧
        t.flag swPage1 (Seawall.SW_RPT_BIST_OK.nth h) = !(s.seawall.tide.getD h {}).bistBad ∧
        t.flag swPage1 (Seawall.SW_RPT_MBIST_OK.nth h) = !(s.seawall.tide.getD h {}).mbistBad ∧
        t.flag swPage1 (Seawall.SW_RPT_FAULT_OK.nth h) = (!(s.seawall.tide.getD h {}).faultBad && !s.halfFaulty h) ∧
        t.flag swPage1 (Seawall.SW_RPT_PARTS_OK.nth h) = !(s.seawall.tide.getD h {}).partBad ∧
        t.flag swPage1 (Seawall.SW_RPT_MATCH_OK.nth h) = (s.halfState h != 3 || !(s.seawall.tide.getD h {}).differ) ∧
        t.flag swPage1 (Seawall.SW_RPT_HEALTHY.nth h) = ([Seawall.SW_RPT_HB_OK, Seawall.SW_RPT_CHECK_OK, Seawall.SW_RPT_BIST_OK,
          Seawall.SW_RPT_MBIST_OK, Seawall.SW_RPT_FAULT_OK, Seawall.SW_RPT_PARTS_OK, Seawall.SW_RPT_MATCH_OK].all
            (fun f => t.flag swPage1 (f.nth h)) && s.halfState h != 0 && s.halfState h != 4) ∧
        (s.halfState h = 3 → s.halfState (1 - h.val) ≠ 3 →
          (t.flag swPage1 (Seawall.SW_RPT_HEALTHY.nth h) = false → t.get swPage Seawall.SW_STAT_RECOVER_COUNT = 0 ∧ t.halfState h = 3) ∧
          (t.flag swPage1 (Seawall.SW_RPT_HEALTHY.nth h) = true → s.get swPage Seawall.SW_STAT_RECOVER_COUNT + 1 < 64 →
            t.get swPage Seawall.SW_STAT_RECOVER_COUNT = s.get swPage Seawall.SW_STAT_RECOVER_COUNT + 1 ∧ t.halfState h = 3) ∧
          (t.flag swPage1 (Seawall.SW_RPT_HEALTHY.nth h) = true → s.get swPage Seawall.SW_STAT_RECOVER_COUNT + 1 = 64 →
            t.eventBit swPage 5 = true ∧ t.halfState h = (if s.flag swPage Seawall.SW_CFG_REVERT_EN &&
              s.get swPage Seawall.SW_CFG_PREFER == h && s.halfState (1 - h.val) == 1 then 1 else 2)))) ∧ SameMemory s t := by
  let b := (s.reportHalf 0 0).reportHalf 1 0
  let c := b.cond swPage 4 ([0, 1].any fun h => !b.flag swPage1 (Seawall.SW_RPT_BIST_OK.nth h) || !b.flag swPage1 (Seawall.SW_RPT_MBIST_OK.nth h))
  have ht : exec .healthReportTimer s = .next (if s.planLive then s else (c.recover 0).recover 1) := rfl
  have hmem := SameMemory.of_exec ht (by rw [exec]; exact answers_healthReportTimer (Quiet.refl s))
  refine ⟨_, ht, ?_⟩
  cases hlive : s.planLive with
  | true =>
    rw [hlive] at hmem
    exact ⟨fun _ => rfl, nofun, hmem⟩
  | false =>
    rw [hlive] at hmem
    refine ⟨nofun, fun _ h => ?_, hmem⟩
    rw [if_neg Bool.false_ne_true]
    generalize hteq : (c.recover 0).recover 1 = t
    obtain ⟨r1, r2, r3⟩ := s.reports_effect 0 h
    obtain ⟨k1, k2⟩ := reportKeys_leave h
    have hc : WritesIn (· = fieldKey swPage Hdr.FLT_STAT_FAULT) b c := (WritesIn.refl _ b).cond rfl
    have hcs : ∀ k ∈ [fieldKey swPage (halfField h), fieldKey swPage Seawall.SW_STAT_RECOVER_COUNT, fieldKey swPage Seawall.SW_CFG_REVERT_EN,
        fieldKey swPage Seawall.SW_CFG_PREFER], SMap.get resetField c.regs k = SMap.get resetField s.regs k := fun k hk => by
      obtain ⟨h0, h1, h2⟩ := k2 k hk
      exact (hc k h2).trans (r3 k (not_or.mpr ⟨h0, h1⟩))
    obtain ⟨p1, p2, p3, -⟩ := c.recover_effect 0 1 rfl
    obtain ⟨q1, q2, -⟩ := (c.recover 0).recover_effect 1 0 rfl
    have hkeep : WritesIn (· ∈ recoverPlaces) c t := hteq ▸ p1.trans q1
    have hentry : ∀ e ∈ reportEntry h (s.reportItems h) (s.reportHealthy h) 0, t.get swPage1 e.1 = e.2 % e.1.size := fun e he => by
      have hk : fieldKey swPage1 e.1 ∈ (reportFields ++ [Seawall.SW_RPT_HEALTHY, Seawall.SW_RPT_TIDE_TIDE]).map fun f => fieldKey swPage1 (f.nth h) :=
        reportEntry_keys h (items := s.reportItems h) rfl _ 0 ▸ List.mem_map_of_mem (f := fun e : Field × Nat => fieldKey swPage1 e.1) he
      obtain ⟨f, hf, hfk⟩ := List.mem_map.mp hk
      obtain ⟨n1, n2⟩ := k1 f hf
      exact (hkeep.get (hfk ▸ n1)).trans ((hc.get (hfk ▸ n2)).trans (r1 e he))
    have hflag : ∀ f v, (f, bit v) ∈ reportEntry h (s.reportItems h) (s.reportHealthy h) 0 → t.flag swPage1 f = v := fun f v he => by
      rw [State.flag, hentry _ he, Field.bit_mod_size, bit_ne_zero]
    have f1 : t.flag swPage1 (Seawall.SW_RPT_HB_OK.nth h) = (!(s.seawall.tide.getD h {}).hbBad) :=
      hflag _ _ (by simp [reportEntry, reportFields, State.reportItems])
    have f2 : t.flag swPage1 (Seawall.SW_RPT_CHECK_OK.nth h) = (!(s.seawall.tide.getD h {}).checkBad) :=
      hflag _ _ (by simp [reportEntry, reportFields, State.reportItems])
    have f3 : t.flag swPage1 (Seawall.SW_RPT_BIST_OK.nth h) = (!(s.seawall.tide.getD h {}).bistBad) :=
      hflag _ _ (by simp [reportEntry, reportFields, State.reportItems])
    have f4 : t.flag swPage1 (Seawall.SW_RPT_MBIST_OK.nth h) = (!(s.seawall.tide.getD h {}).mbistBad) :=
      hflag _ _ (by simp [reportEntry, reportFields, State.reportItems])
    have f5 : t.flag swPage1 (Seawall.SW_RPT_FAULT_OK.nth h) = (!(s.seawall.tide.getD h {}).faultBad && !s.halfFaulty h) :=
      hflag _ _ (by simp [reportEntry, reportFields, State.reportItems])
    have f6 : t.flag swPage1 (Seawall.SW_RPT_PARTS_OK.nth h) = (!(s.seawall.tide.getD h {}).partBad) :=
      hflag _ _ (by simp [reportEntry, reportFields, State.reportItems])
    have f7 : t.flag swPage1 (Seawall.SW_RPT_MATCH_OK.nth h) = (s.halfState h != 3 || !(s.seawall.tide.getD h {}).differ) :=
      hflag _ _ (by simp [reportEntry, reportFields, State.reportItems])
    have f8 : t.flag swPage1 (Seawall.SW_RPT_HEALTHY.nth h) = (s.reportHealthy h) :=
      hflag _ _ (by simp [reportEntry, reportFields, State.reportItems])
    have f9 : t.get swPage1 (Seawall.SW_RPT_TIDE_TIDE.nth h) = 0 % (Seawall.SW_RPT_TIDE_TIDE.nth h).size :=
      hentry (Seawall.SW_RPT_TIDE_TIDE.nth h, 0) (by simp [reportEntry])
    refine ⟨f9.trans (Nat.zero_mod _), f1, f2, f3, f4, f5, f6, f7, ?_, fun h3 hg3 => ?_⟩
    · simp only [f8, List.all_cons, List.all_nil, f1, f2, f3, f4, f5, f6, f7]
      rfl
    · have hstate : ∀ k : Fin 2, c.halfState k = s.halfState k := fun k => by
        obtain ⟨-, k2'⟩ := reportKeys_leave k
        obtain ⟨h0, h1, h2⟩ := k2' _ (.head _)
        exact State.halfState_congr k ((hc _ h2).trans (r3 _ (not_or.mpr ⟨h0, h1⟩)))
      have hbit : hasBit (c.get swPage Seawall.SW_STAT_HEALTHY) h = s.reportHealthy h := by
        rw [hc.get (by decide)]
        exact r2
      have hcount : c.get swPage Seawall.SW_STAT_RECOVER_COUNT = s.get swPage Seawall.SW_STAT_RECOVER_COUNT := hcs _ (by simp)
      have hrev : c.flag swPage Seawall.SW_CFG_REVERT_EN = s.flag swPage Seawall.SW_CFG_REVERT_EN := State.flag_congr s (hcs _ (by simp))
      have hpref : c.get swPage Seawall.SW_CFG_PREFER = s.get swPage Seawall.SW_CFG_PREFER := hcs _ (by simp)
      have hg : 1 - h.val < 2 := by omega
      have ht' : t = c.recover h := by
        rcases (by omega : h.val = 0 ∨ h.val = 1) with h0 | h1
        · obtain rfl : h = 0 := Fin.ext h0
          exact hteq.symm.trans (q2 (p3 ((hstate 1).trans_ne hg3)))
        · obtain rfl : h = 1 := Fin.ext h1
          exact hteq.symm.trans (congrArg (fun x : State => x.recover 1) (p2 ((hstate 0).trans_ne hg3)))
      obtain ⟨-, -, -, e4, e5, e6⟩ := c.recover_effect h ⟨1 - h.val, hg⟩ rfl
      rw [hbit, hcount, ← ht', ← f8] at e5
      rw [hbit, ← ht', ← f8] at e4
      rw [hbit, hcount, ← ht', ← f8, hrev, hpref, hstate ⟨1 - h.val, hg⟩] at e6
      have hc3 : c.halfState h = 3 := (hstate h).trans h3
      exact ⟨e4 hc3, e5 hc3, e6 hc3⟩


/-! ## Repair, and the power that it moves (R467, R468) -/

/-- The states of the halves hold, but for a half that stands by, recovers or is off: its state may follow its power. -/
def HalvesFollow (s t : State) : Prop :=
  ∀ h : Fin 2, t.halfState h = s.halfState h ∨ ((s.halfState h = 0 ∨ s.halfState h = 2 ∨ s.halfState h = 3) ∧ (t.halfState h = 0 ∨ t.halfState h = 2))

theorem HalvesFollow.refl (s : State) : HalvesFollow s s := fun _ => Or.inl rfl

theorem HalvesFollow.trans {s t u : State} (hst : HalvesFollow s t) (htu : HalvesFollow t u) : HalvesFollow s u := by
  intro h
  rcases hst h with hs | ⟨hs, ht⟩ <;> rcases htu h with hu | ⟨hu, hu'⟩
  · exact Or.inl (hu.trans hs)
  · exact Or.inr ⟨hs ▸ hu, hu'⟩
  · exact Or.inr ⟨hs, hu ▸ ht⟩
  · exact Or.inr ⟨hs, hu'⟩

theorem HalvesFollow.of_get {s t : State} (h : ∀ k : Fin 2, t.get swPage (halfField k) = s.get swPage (halfField k)) : HalvesFollow s t := fun k =>
  Or.inl (State.halfState_congr k (h k))

theorem halfField_inner (h : Fin 2) : outerKey (fieldKey swPage (halfField h)) = false := by
  revert h
  decide

/-- A state that is not 0, 2 or 3 holds, and no half comes to such a state. -/
theorem HalvesFollow.eq_of {s t : State} (hst : HalvesFollow s t) {h : Fin 2} {v : Nat} (hv : v ≠ 0 ∧ v ≠ 2 ∧ v ≠ 3) :
    t.halfState h = v ↔ s.halfState h = v := by
  rcases hst h with hs | ⟨hs, ht⟩
  · rw [hs]
  · constructor
    · intro he
      omega
    · intro he
      omega

theorem State.judgeOff_follows (s : State) (h : Fin 2) : HalvesFollow s (s.judgeOff h) ∧
    ∀ g : Fin 2, h ≠ g → (s.judgeOff h).halfState g = s.halfState g := by
  have hput : ∀ v < 8, (s.put swPage (halfField h) v).halfState h = v ∧ ∀ g : Fin 2, h ≠ g → (s.put swPage (halfField h) v).halfState g = s.halfState g :=
    fun v hv => ⟨by rw [State.halfState_eq, State.get_put_same, (halfField_facts h).1, Nat.mod_eq_of_lt hv],
      fun g hg => State.halfState_congr g (State.get_put_other _ _ ((halfField_keys h).2.2.2.2 g hg))⟩
  have hother : ∀ v < 8, s.halfState h = 0 ∨ s.halfState h = 2 ∨ s.halfState h = 3 → v = 0 ∨ v = 2 →
      HalvesFollow s (s.put swPage (halfField h) v) := fun v hlt hs hv k => by
    by_cases hk : h = k
    · subst hk
      exact Or.inr ⟨hs, by rw [(hput v hlt).1]; exact hv⟩
    · exact Or.inl ((hput v hlt).2 k hk)
  unfold State.judgeOff
  extract_lets st f
  split
  · next hc =>
    simp only [Bool.and_eq_true, Bool.or_eq_true, beq_iff_eq] at hc
    exact ⟨hother 0 (by decide) (Or.inr hc.1) (Or.inl rfl), (hput 0 (by decide)).2⟩
  · split
    · next hc =>
      simp only [Bool.and_eq_true, beq_iff_eq] at hc
      exact ⟨hother 2 (by decide) (Or.inl hc.1) (Or.inr rfl), (hput 2 (by decide)).2⟩
    · exact ⟨HalvesFollow.refl s, fun _ _ => rfl⟩

/-- An instance whose domain goes down: its link, its reset, and the end of a block reset of it. -/
def State.discardInstance (s : State) (r : PageRef) : State :=
  let s := if r.block = .pcie ∧ s.portActs r.inst ∧ s.get (pcPage r.inst 0) Pcie.PCIE_STAT_SPEED ≠ 0 then s.linkDown r.inst 0 else s
  let s := s.resetInstance r true
  ({ s with power := { s.power with resetting := s.power.resetting.filter (· != r.base) } }).closeQuiet r.base

theorem State.discardInstance_keeps (s : State) {r : PageRef} (h : r.isUnit) :
    (s.discardInstance r).inner.fields = s.inner.fields ∧ (s.discardInstance r).power.down = s.power.down := by
  unfold State.discardInstance
  extract_lets a b
  have hb : b.inner = s.inner := (a.inner_resetInstance h true).trans (by simp [a])
  clear_value b
  have hclose := State.inner_closeQuiet ({ b with power := { b.power with resetting := b.power.resetting.filter (· != r.base) } } : State) r.base
  have hfields : b.inner.fields = s.inner.fields := congrArg Inner.fields hb
  have hdown : b.power.down = s.power.down := congrArg (fun i : Inner => i.power.down) hb
  exact ⟨(congrArg Inner.fields hclose).trans hfields, (congrArg (fun i : Inner => i.power.down) hclose).trans hdown⟩

theorem State.discardInstances_keep {l : List PageRef} (hl : ∀ r ∈ l, r.isUnit) (s : State) :
    (l.foldl State.discardInstance s).inner.fields = s.inner.fields ∧ (l.foldl State.discardInstance s).power.down = s.power.down := by
  induction l generalizing s with
  | nil => exact ⟨rfl, rfl⟩
  | cons r l ih =>
    obtain ⟨h1, h2⟩ := s.discardInstance_keeps (hl r (.head _))
    obtain ⟨k1, k2⟩ := ih (fun q hq => hl q (.tail _ hq)) (s.discardInstance r)
    exact ⟨k1.trans h1, k2.trans h2⟩

/-- A domain that goes down takes the state of a half with it only where it is the half's Harbour. -/
theorem State.discard_follows (s : State) {d : Nat} (hd : d ∉ alwaysOn) : HalvesFollow s (s.discard d) ∧ (s.discard d).power.down = s.power.down ∧
    (∀ k, outerKey k = false → (∀ h : Fin 2, k ≠ fieldKey swPage (halfField h)) → SMap.get resetField (s.discard d).regs k = SMap.get resetField s.regs k) ∧
    ∀ h : Fin 2, d ≠ 52 + h.val → (s.discard d).halfState h = s.halfState h := by
  unfold State.discard
  extract_lets s₁ s₂ s₃
  have hs₁ : s₁.inner.fields = s.inner.fields ∧ s₁.power.down = s.power.down :=
    State.discardInstances_keep (fun r hr => isUnit_of_mem_instancesOf hr hd) s
  have hs₂ : s₂.inner = s₁.inner := by simp [s₂]
  have hget : ∀ k, outerKey k = false → SMap.get resetField s₂.regs k = SMap.get resetField s.regs k := fun k hk => by
    have := congrFun ((congrArg Inner.fields hs₂).trans hs₁.1) k
    simpa [State.inner, hk] using this
  have hpower₂ : s₂.power.down = s.power.down := (congrArg (fun i : Inner => i.power.down) hs₂).trans hs₁.2
  have hs₃ : HalvesFollow s₂ s₃ ∧ s₃.power.down = s₂.power.down ∧ (∀ h : Fin 2, d ≠ 52 + h.val → s₃.halfState h = s₂.halfState h) ∧
      ∀ k, (∀ h : Fin 2, k ≠ fieldKey swPage (halfField h)) → SMap.get resetField s₃.regs k = SMap.get resetField s₂.regs k := by
    simp only [s₃]
    split
    · next hcase =>
      have hlt : d - 52 < 2 := by omega
      obtain ⟨h1, h2⟩ := s₂.judgeOff_follows ⟨d - 52, hlt⟩
      have hregs : ∀ k, (∀ h : Fin 2, k ≠ fieldKey swPage (halfField h)) →
          SMap.get resetField (s₂.judgeOff (d - 52)).regs k = SMap.get resetField s₂.regs k := fun k hk => by
        unfold State.judgeOff
        extract_lets st f
        split
        · exact SMap.get_set_other _ _ _ (hk ⟨d - 52, hlt⟩).symm
        · split
          · exact SMap.get_set_other _ _ _ (hk ⟨d - 52, hlt⟩).symm
          · rfl
      have hpower : (s₂.judgeOff (d - 52)).power = s₂.power := by
        unfold State.judgeOff
        extract_lets st f
        split
        · rfl
        · split <;> rfl
      refine ⟨h1, congrArg PowerSt.down hpower, fun h hh => h2 h fun heq => hh ?_, hregs⟩
      have := congrArg Fin.val heq
      dsimp only at this
      omega
    · exact ⟨HalvesFollow.refl _, rfl, fun _ _ => rfl, fun _ _ => rfl⟩
  have hlast : ∀ t : State, (if 87 ≤ d ∧ d < 95 then (t.putPll (d - 87) false).judgePll else t).inner = t.inner := fun t => by
    split
    · rw [State.inner_judgePll, State.inner_putPll]
    · rfl
  have h4 := hlast s₃
  generalize (if 87 ≤ d ∧ d < 95 then (s₃.putPll (d - 87) false).judgePll else s₃) = t at h4
  have hstate₂ : ∀ h : Fin 2, s₂.halfState h = s.halfState h := fun h => State.halfState_congr h (hget _ (halfField_inner h))
  have hstate₄ : ∀ h : Fin 2, t.halfState h = s₃.halfState h := fun h => State.halfState_congr h (State.get_of_inner h4 (halfField_inner h))
  refine ⟨?_, ?_, fun k hk hne => ?_, fun h hh => ?_⟩
  · exact (HalvesFollow.trans (fun h => Or.inl (hstate₂ h)) hs₃.1).trans fun h => Or.inl (hstate₄ h)
  · exact (congrArg (fun i : Inner => i.power.down) h4).trans (hs₃.2.1.trans hpower₂)
  · have := congrFun (congrArg Inner.fields h4) k
    simp only [State.inner, hk, Bool.false_eq_true, if_false] at this
    rw [this, hs₃.2.2.2 k hne, hget k hk]
  · rw [hstate₄, hs₃.2.2.1 h hh, hstate₂]


/-- What the switching of domains and the reset of units leave of the Seawall's registers, and what they make of the halves. -/
structure PowerMoves (s t : State) : Prop where
  follows : HalvesFollow s t
  repair : t.power.repair = s.power.repair
  get : ∀ f : Field, f.place < 0x8000 → fieldKey swPage f ∉ stateKeys → t.get swPage f = s.get swPage f

theorem PowerMoves.refl (s : State) : PowerMoves s s := ⟨.refl s, rfl, fun _ _ _ => rfl⟩

theorem PowerMoves.trans {s t u : State} (h : PowerMoves s t) (k : PowerMoves t u) : PowerMoves s u :=
  ⟨h.follows.trans k.follows, k.repair.trans h.repair, fun f ho hs => (k.get f ho hs).trans (h.get f ho hs)⟩

theorem PowerMoves.of_spine {s t : State} (h : t.spine = s.spine) (hf : HalvesFollow s t) : PowerMoves s t :=
  ⟨hf, congrArg (fun i : Inner => i.power.repair) h, fun _ ho hs =>
    State.get_of_spine h (outerKey_of_place ho (by decide) (by decide) (by decide)) hs⟩

theorem PowerMoves.of_inner {s t : State} (h : t.inner = s.inner) : PowerMoves s t :=
  .of_spine (State.spine_of_inner h) (.of_get fun k => State.get_of_inner h (halfField_inner k))

/-- A store off the Seawall's page. -/
theorem PowerMoves.of_writes {s t : State} (h : WritesIn (fun k => k / 0x8000 ≠ swPage) s t) (hp : t.power = s.power) : PowerMoves s t := by
  have hplace : ∀ k : Fin 2, (halfField k).place < 0x8000 := by decide
  exact ⟨.of_get fun k => h.get (not_not_intro (fieldKey_div (hplace k))), congrArg PowerSt.repair hp, fun f ho _ =>
    h.get (not_not_intro (fieldKey_div ho))⟩

theorem PowerMoves.foldl {α : Type} {f : State → α → State} {l : List α} (h : ∀ a ∈ l, ∀ s, PowerMoves s (f s a)) (s : State) :
    PowerMoves s (l.foldl f s) := by
  induction l generalizing s with
  | nil => exact .refl s
  | cons a l ih => exact (h a (.head _) s).trans (ih (fun b hb => h b (.tail _ hb)) (f s a))

theorem ackKey_div {d : Nat} (hd : d < 96) : fieldKey 0x3 (Chip.PD_CTRL_ACK.nth d) / 0x8000 = 0x3 := by
  simp only [fieldKey, Field.nth, Chip.PD_CTRL_ACK]
  omega

theorem State.startSwitch_moves (s : State) {d : Nat} (hd : d < 96) (up : Bool) (hup : up = false → d ∉ alwaysOn) : PowerMoves s (s.startSwitch d up) := by
  refine .of_spine (s.spine_startSwitch hd up hup) ?_
  cases up with
  | true => exact .of_get fun _ => rfl
  | false =>
    have hput : HalvesFollow s (s.put 0x3 (Chip.PD_CTRL_ACK.nth d) 0) := .of_get fun k => State.get_put_other _ _ fun hk => by
      have hplace : ∀ k : Fin 2, fieldKey swPage (halfField k) / 0x8000 = 0x40 := by decide
      have := hplace k
      rw [← hk, ackKey_div hd] at this
      cases this
    exact hput.trans (State.discard_follows _ (hup rfl)).1

theorem State.pumpOne_moves (s : State) : PowerMoves s s.pumpOne := by
  unfold State.pumpOne
  split
  · exact .refl s
  · next hidle =>
    simp only [Bool.or_eq_true, not_or, Bool.not_eq_true] at hidle
    obtain ⟨⟨-, hsleep⟩, -⟩ := hidle
    extract_lets want
    split
    · exact .refl s
    · next d hd =>
      refine s.startSwitch_moves (List.mem_range.mp (List.mem_of_find?_eq_some hd)) _ fun hrise hon => ?_
      have hwant : d ∈ want := mem_wanted_of_alwaysOn hsleep hon
      have hmay := List.find?_some hd
      simp [hrise, State.mayFall, hwant] at hmay

theorem State.pumpPower_moves (s : State) : PowerMoves s s.pumpPower := by
  unfold State.pumpPower
  extract_lets x u
  have hu : PowerMoves s u := ⟨.of_get fun _ => rfl, rfl, fun _ _ _ => rfl⟩
  exact hu.trans (u.pumpOne_moves.trans (u.pumpOne.pumpOne_moves.trans (u.pumpOne.pumpOne.pumpOne_moves.trans (State.pumpOne_moves _))))

theorem State.clearDrops_moves (s : State) {k : Nat} (hk : k < 3) (w : Nat) : PowerMoves s (s.clearDrops k w) := by
  unfold State.clearDrops
  extract_lets f
  have hkey : ∀ k < 3, fieldKey 0x4 (Chip.PD_DROP_MAP_DROP.nth k) / 0x8000 ≠ swPage := by decide
  have hdrop : PowerMoves s (s.put 0x4 f (clearBits (s.get 0x4 f) w)).judgeDrop := by
    refine .of_writes (((WritesIn.refl _ s).put _ (hkey k hk)).cond (by decide)) ?_
    exact (State.cond_power ..).trans rfl
  exact hdrop.trans ((PowerMoves.of_inner (State.inner_judgePll _)).trans (State.pumpPower_moves _))

theorem State.blockReset_moves (s : State) {r : PageRef} (h : r.isUnit) : PowerMoves s (s.blockReset r) := by
  refine .of_spine (s.spine_blockReset h) ?_
  cases hfree : s.resetting r with
  | true => rw [State.blockReset, if_pos hfree]; exact .refl s
  | false =>
    have hreset := congrArg Inner.fields (s.inner_blockReset h hfree)
    have hfields : (s.blockReset r).inner.fields = s.inner.fields := hreset
    refine .of_get fun k => ?_
    have := congrFun hfields (fieldKey swPage (halfField k))
    simp only [State.inner, halfField_inner, Bool.false_eq_true, if_false] at this
    exact this

theorem isUnit_of_mem_instancesOfHalf {h : Nat} {r : PageRef} (hr : r ∈ instancesOfHalf h) : r.isUnit := by
  obtain ⟨hall, hhalf⟩ := List.mem_filter.mp hr
  refine isUnit_of_mem_allInstances hall ?_
  obtain ⟨b, n, p⟩ := r
  revert hhalf
  cases b <;> simp [PageRef.half, Block.isUnit]

/-- The command that a half's repair shows in. -/
def repairField (h : Nat) : Field := if h = 0 then Seawall.SW_CMD_REPAIR0 else Seawall.SW_CMD_REPAIR1

theorem repairField_keys (h : Fin 2) : (repairField h).place < 0x8000 ∧ fieldKey swPage (repairField h) ∉ stateKeys ∧
    (∀ g : Fin 2, fieldKey swPage (repairField h) ≠ fieldKey swPage (halfField g)) ∧
    fieldKey swPage (repairField h) ≠ fieldKey swPage Seawall.SW_CMD_SWITCH ∧ fieldKey swPage (repairField h) ≠ fieldKey swPage Hdr.EVT_STAT_EVENT ∧
    (∀ g : Fin 2, h ≠ g → fieldKey swPage (repairField h) ≠ fieldKey swPage (repairField g)) ∧
    fieldKey swPage (repairField h) ≠ fieldKey swPage Seawall.SW_STAT_HEALTHY := by
  revert h
  decide

/-- A repair begins: its command shows, the half is in repair, and its drops are cleared and its units reset (R468). -/
theorem State.startRepair_moves (s : State) (h : Fin 2) :
    HalvesFollow s (s.startRepair h) ∧ (s.startRepair h).power.repair = h.val :: s.power.repair.filter (· != h.val) ∧
    (s.startRepair h).flag swPage (repairField h) = true ∧
    ∀ f : Field, f.place < 0x8000 → fieldKey swPage f ∉ stateKeys → fieldKey swPage (repairField h) ≠ fieldKey swPage f →
      (s.startRepair h).get swPage f = s.get swPage f := by
  obtain ⟨hplace, hkey, hstate, -⟩ := repairField_keys h
  unfold State.startRepair
  extract_lets a p b mask c
  have ha : a = s.put swPage (repairField h) 1 := rfl
  have hb : HalvesFollow s b ∧ b.power.repair = h.val :: s.power.repair.filter (· != h.val) ∧ b.flag swPage (repairField h) = true ∧
      ∀ f : Field, fieldKey swPage (repairField h) ≠ fieldKey swPage f → b.get swPage f = s.get swPage f :=
    ⟨.of_get fun k => State.get_put_other _ _ (hstate k), rfl, State.flag_put_one .., fun f hf => State.get_put_other _ _ hf⟩
  have hc : PowerMoves b c := .foldl (fun w hw t => t.clearDrops_moves (by
    simp only [List.mem_cons, List.not_mem_nil, or_false] at hw
    omega) _) b
  clear_value c b
  have hd : PowerMoves c ((instancesOfHalf h).foldl (fun (s : State) r => s.blockReset r) c) :=
    .foldl (fun r hr t => t.blockReset_moves (isUnit_of_mem_instancesOfHalf hr)) c
  obtain ⟨hf, hr, hg⟩ := hc.trans hd
  exact ⟨hb.1.trans hf, hr.trans hb.2.1, (State.flag_congr b (hg _ hplace hkey)).trans hb.2.2.1,
    fun f ho hs hne => (hg f ho hs).trans (hb.2.2.2 f hne)⟩


/-- A half in repair stays so; one that has failed comes into repair, and for another one the command is rejected (R467). -/
def State.repairStep (s : State) (h : Nat) : State :=
  if s.power.repair.contains h then s else if s.halfFailed h then s.startRepair h else s.event swPage 6

/-- The switch command, accepted where a healthy half stands by for the one that acts (R466). -/
def State.switchStep (s : State) : State :=
  if s.flag swPage Seawall.SW_CMD_SWITCH then s
  else if [0, 1].any fun h => s.halfState (1 - h) == 1 && s.halfState h == 2 && hasBit (s.get swPage Seawall.SW_STAT_HEALTHY) h then
    s.put swPage Seawall.SW_CMD_SWITCH 1
  else s.event swPage 6

theorem State.writeSwCmd_eq (s : State) (w : Nat) : s.writeSwCmd w =
    let a := if w.testBit 31 then s.repairStep 0 else s
    let b := if w.testBit 30 then a.repairStep 1 else a
    if w.testBit 29 then b.switchStep else b := by
  unfold State.writeSwCmd
  extract_lets repair a b ok a' b'
  change (if (!w.testBit 29 || b.flag swPage Seawall.SW_CMD_SWITCH) = true then b else _) = if w.testBit 29 = true then b.switchStep else b
  unfold State.switchStep
  cases w.testBit 29 with
  | false => rfl
  | true =>
    cases hb : b.flag swPage Seawall.SW_CMD_SWITCH <;> rfl

/-- What a repair command keeps: repairs and their commands that run, events, the switch command and what was found healthy. -/
structure RepairKeeps (s t : State) : Prop where
  follows : HalvesFollow s t
  runs : ∀ h : Fin 2, s.power.repair.contains h.val = true → t.power.repair.contains h.val = true
  shows : ∀ h : Fin 2, s.flag swPage (repairField h) = true → t.flag swPage (repairField h) = true
  events : KeepsEvents swPage s t
  switch : t.flag swPage Seawall.SW_CMD_SWITCH = s.flag swPage Seawall.SW_CMD_SWITCH
  healthy : t.get swPage Seawall.SW_STAT_HEALTHY = s.get swPage Seawall.SW_STAT_HEALTHY

theorem RepairKeeps.refl (s : State) : RepairKeeps s s := ⟨.refl s, fun _ h => h, fun _ h => h, .refl _ s, rfl, rfl⟩

theorem RepairKeeps.trans {s t u : State} (h : RepairKeeps s t) (k : RepairKeeps t u) : RepairKeeps s u :=
  ⟨h.follows.trans k.follows, fun g hg => k.runs g (h.runs g hg), fun g hg => k.shows g (h.shows g hg), h.events.trans k.events,
    k.switch.trans h.switch, k.healthy.trans h.healthy⟩

theorem State.halfFailed_iff (s : State) (h : Nat) : s.halfFailed h = true ↔ s.halfState h = 4 := beq_iff_eq

theorem State.repairStep_effect (s : State) (h : Fin 2) :
    RepairKeeps s (s.repairStep h) ∧
    (s.halfFailed h = true → (s.repairStep h).power.repair.contains h.val = true ∧
      (s.power.repair.contains h.val = false → (s.repairStep h).flag swPage (repairField h) = true)) ∧
    (s.halfFailed h = false → s.power.repair.contains h.val = false →
      (s.repairStep h).eventBit swPage 6 = true ∧ (s.repairStep h).power.repair = s.power.repair) ∧
    (∀ g : Fin 2, h ≠ g → (s.repairStep h).power.repair.contains g.val = s.power.repair.contains g.val) ∧
    ((∀ g : Fin 2, (s.repairStep h).halfState g = s.halfState g) ∨ s.halfState h = 4) := by
  obtain ⟨-, -, -, hsw, hev, hother, hhealthy⟩ := repairField_keys h
  unfold State.repairStep
  cases hc : s.power.repair.contains h.val with
  | true =>
    rw [if_pos rfl]
    exact ⟨.refl s, fun _ => ⟨hc, nofun⟩, nofun, fun _ _ => rfl, Or.inl fun _ => rfl⟩
  | false =>
    rw [if_neg Bool.false_ne_true]
    cases hf : s.halfFailed h with
    | true =>
      rw [if_pos rfl]
      obtain ⟨h1, h2, h3, h4⟩ := s.startRepair_moves h
      have hmem : ∀ g : Fin 2, h ≠ g → (s.startRepair h).power.repair.contains g.val = s.power.repair.contains g.val := fun g hg => by
        have hne : g.val ≠ h.val := fun hv => hg (Fin.ext hv.symm)
        rw [h2, Bool.eq_iff_iff, List.contains_iff_mem, List.contains_iff_mem, List.mem_cons, List.mem_filter]
        simp [hne]
      have hself : (s.startRepair h).power.repair.contains h.val = true := by
        rw [h2, List.contains_iff_mem]
        exact List.mem_cons_self
      refine ⟨⟨h1, fun g hg => ?_, fun g hg => ?_, .of_get (h4 _ (by decide) (by decide) hev), State.flag_congr s (h4 _ (by decide) (by decide) hsw),
        h4 _ (by decide) (by decide) hhealthy⟩, fun _ => ⟨hself, fun _ => h3⟩, nofun, hmem, Or.inr ((s.halfFailed_iff h).mp hf)⟩
      · by_cases hgh : h = g
        · exact hgh ▸ hself
        · exact (hmem g hgh).trans hg
      · by_cases hgh : h = g
        · exact hgh ▸ h3
        · exact (State.flag_congr s (h4 _ (repairField_keys g).1 (repairField_keys g).2.1 (hother g hgh))).trans hg
    | false =>
      rw [if_neg Bool.false_ne_true]
      have hget : ∀ f : Field, fieldKey swPage f ≠ fieldKey swPage Hdr.EVT_STAT_EVENT → (s.event swPage 6).get swPage f = s.get swPage f := fun f hne =>
        State.get_event_other _ _ hne.symm
      have hstate : ∀ g : Fin 2, (s.event swPage 6).halfState g = s.halfState g := fun g =>
        State.halfState_congr g (hget _ (halfField_facts g).2.1.symm)
      refine ⟨⟨fun g => Or.inl (hstate g), fun g hg => hg, fun g hg => (State.flag_congr s (hget _ (repairField_keys g).2.2.2.2.1)).trans hg,
        (KeepsEvents.refl _ s).event 6, State.flag_congr s (hget _ (by decide)), hget _ (by decide)⟩, nofun, fun _ _ => ⟨?_, rfl⟩, fun g _ => rfl,
        Or.inl hstate⟩
      rw [State.eventBit_event_of_page _ (by decide)]
      simp

/-- The switch command leaves the halves and their repairs alone. -/
theorem State.switchStep_effect (s : State) :
    OnlyRegs s s.switchStep [fieldKey swPage Seawall.SW_CMD_SWITCH, fieldKey swPage Hdr.EVT_STAT_EVENT] ∧ SameFaults s s.switchStep ∧
    s.switchStep.power = s.power ∧ KeepsEvents swPage s s.switchStep ∧
    (s.flag swPage Seawall.SW_CMD_SWITCH = true → s.switchStep = s) ∧
    (s.flag swPage Seawall.SW_CMD_SWITCH = false → ∀ ok, ([0, 1].any fun h => s.halfState (1 - h) == 1 && s.halfState h == 2 &&
      hasBit (s.get swPage Seawall.SW_STAT_HEALTHY) h) = ok → s.switchStep.flag swPage Seawall.SW_CMD_SWITCH = ok ∧
      (ok = false → s.switchStep.eventBit swPage 6 = true)) := by
  unfold State.switchStep
  cases hf : s.flag swPage Seawall.SW_CMD_SWITCH with
  | true =>
    rw [if_pos rfl]
    exact ⟨OnlyRegs.refl s _, ⟨rfl, rfl⟩, rfl, .refl _ s, fun _ => rfl, nofun⟩
  | false =>
    rw [if_neg Bool.false_ne_true]
    generalize ([0, 1].any fun h => s.halfState (1 - h) == 1 && s.halfState h == 2 && hasBit (s.get swPage Seawall.SW_STAT_HEALTHY) h) = ok
    cases ok with
    | true =>
      rw [if_pos rfl]
      refine ⟨(OnlyRegs.refl s _).put _ _ _ (by simp), ⟨rfl, rfl⟩, rfl, (KeepsEvents.refl _ s).put _ (by decide), nofun, fun _ ok hok => ?_⟩
      subst hok
      exact ⟨State.flag_put_one .., nofun⟩
    | false =>
      rw [if_neg Bool.false_ne_true]
      refine ⟨(OnlyRegs.refl s _).event _ _ (by simp), ⟨rfl, rfl⟩, rfl, (KeepsEvents.refl _ s).event 6, nofun, fun _ ok hok => ?_⟩
      subst hok
      refine ⟨(State.flag_congr s (State.get_event_other _ _ (by decide))).trans hf, fun _ => ?_⟩
      rw [State.eventBit_event_of_page _ (by decide)]
      simp

theorem testBit_or_two_pow (w m b : Nat) : (w ||| 2 ^ m).testBit b = (w.testBit b || decide (m = b)) := by
  rw [Nat.testBit_or, Nat.testBit_two_pow]

/-- The repairs that a command may ask for, one half after the other. -/
theorem State.repairs_keep (s : State) (c d : Bool) :
    let a := if c then s.repairStep 0 else s
    let b := if d then a.repairStep 1 else a
    RepairKeeps s b ∧ ((∀ g : Fin 2, b.halfState g = s.halfState g) ∨ ∃ g : Fin 2, s.halfState g = 4) := by
  intro a b
  have ha : RepairKeeps s a ∧ ((∀ g : Fin 2, a.halfState g = s.halfState g) ∨ ∃ g : Fin 2, s.halfState g = 4) := by
    unfold a
    cases c with
    | false => exact ⟨.refl s, Or.inl fun _ => rfl⟩
    | true =>
      obtain ⟨h1, -, -, -, h5⟩ := s.repairStep_effect 0
      exact ⟨h1, h5.imp_right fun h => ⟨0, h⟩⟩
  have hb : RepairKeeps a b ∧ ((∀ g : Fin 2, b.halfState g = a.halfState g) ∨ ∃ g : Fin 2, a.halfState g = 4) := by
    unfold b
    cases d with
    | false => exact ⟨.refl a, Or.inl fun _ => rfl⟩
    | true =>
      obtain ⟨h1, -, -, -, h5⟩ := a.repairStep_effect 1
      exact ⟨h1, h5.imp_right fun h => ⟨1, h⟩⟩
  refine ⟨ha.1.trans hb.1, ?_⟩
  rcases hb.2 with hb | ⟨g, hg⟩
  · exact ha.2.imp_left fun h g => (hb g).trans (h g)
  · exact Or.inr ⟨g, (ha.1.follows.eq_of (by decide)).mp hg⟩

theorem halfRepair_completes (req : Requester) (h : Fin 2) (w : Word) (s : State) (hs : s.serves req (regOff swPage Seawall.SW_CMD_REPAIR0) = true) :
    Completes (.halfRepair req h w) s fun t =>
      (s.halfFailed h = true → t.power.repair.contains h.val = true ∧ (s.power.repair.contains h.val = false →
        t.flag swPage (if h.val = 0 then Seawall.SW_CMD_REPAIR0 else Seawall.SW_CMD_REPAIR1) = true)) ∧
      (s.halfFailed h = false → s.power.repair.contains h.val = false → t.eventBit swPage 6 = true ∧ t.power.repair.contains h.val = false) ∧
      SameMemory s t := by
  let w' := w.toNat ||| (if h.val = 0 then 2 ^ 31 else 2 ^ 30)
  have ht : exec (.halfRepair req h w) s = .next (s.writeSwCmd w') := by
    rw [exec, execHalfRepair, State.onWrite_served hs]
  have hmem := SameMemory.of_exec ht (by rw [exec]; exact answers_halfRepair (Quiet.refl s))
  -- before the half's own step: the other half's repair, or nothing; after it: the same, and the switch command
  have hsplit : ∃ a b, RepairKeeps s a ∧ a.power.repair.contains h.val = s.power.repair.contains h.val ∧ RepairKeeps (a.repairStep h) b ∧
      b.power.repair.contains h.val = (a.repairStep h).power.repair.contains h.val ∧
      s.writeSwCmd w' = if w'.testBit 29 then b.switchStep else b := by
    have hbits : w'.testBit (31 - h.val) = true := by
      rcases (by omega : h.val = 0 ∨ h.val = 1) with h0 | h1
      · simp only [w', h0, if_true, testBit_or_two_pow]
        simp
      · simp only [w', h1, if_neg Nat.one_ne_zero, testBit_or_two_pow]
        simp
    rw [State.writeSwCmd_eq]
    rcases (by omega : h.val = 0 ∨ h.val = 1) with h0 | h1
    · obtain rfl : h = 0 := Fin.ext h0
      rw [show w'.testBit 31 = true from hbits]
      refine ⟨s, if w'.testBit 30 then (s.repairStep 0).repairStep 1 else s.repairStep 0, .refl s, rfl, ?_, ?_, rfl⟩
      · split
        · exact ((s.repairStep 0).repairStep_effect 1).1
        · exact .refl _
      · split
        · exact ((s.repairStep 0).repairStep_effect 1).2.2.2.1 0 (by decide)
        · rfl
    · obtain rfl : h = 1 := Fin.ext h1
      rw [show w'.testBit 30 = true from hbits]
      refine ⟨if w'.testBit 31 then s.repairStep 0 else s, (if w'.testBit 31 then s.repairStep 0 else s).repairStep 1, ?_, ?_, .refl _, rfl, rfl⟩
      · split
        · exact (s.repairStep_effect 0).1
        · exact .refl _
      · split
        · exact (s.repairStep_effect 0).2.2.2.1 1 (by decide)
        · rfl
  obtain ⟨a, b, ha, hac, hb, hbc, heq⟩ := hsplit
  obtain ⟨-, e2, e3, -, -⟩ := a.repairStep_effect h
  have hfailed : a.halfFailed h = s.halfFailed h := by
    rw [Bool.eq_iff_iff, State.halfFailed_iff, State.halfFailed_iff]
    exact ha.follows.eq_of (by decide)
  have hlast : ∀ t, t = (if w'.testBit 29 then b.switchStep else b) → t.power = b.power ∧ KeepsEvents swPage b t ∧
      t.flag swPage (repairField h) = b.flag swPage (repairField h) := by
    rintro t rfl
    obtain ⟨f1, -, f3, f4, -⟩ := b.switchStep_effect
    obtain ⟨-, -, -, k1, k2, -⟩ := repairField_keys h
    split
    · exact ⟨f3, f4, State.flag_congr b (f1.get (by simp [k1, k2]))⟩
    · exact ⟨rfl, .refl _ b, rfl⟩
  obtain ⟨t1, t2, t3⟩ := hlast _ heq
  refine ⟨_, ht, fun hf => ?_, fun hf hc => ?_, hmem⟩
  · obtain ⟨g1, g2⟩ := e2 (hfailed.trans hf)
    refine ⟨by rw [t1]; exact hb.runs h g1, fun hc => ?_⟩
    exact t3.trans (hb.shows h (g2 (hac.trans hc)))
  · obtain ⟨g1, g2⟩ := e3 (hfailed.trans hf) (hac.trans hc)
    refine ⟨t2 6 (by decide) (hb.events 6 (by decide) g1), ?_⟩
    rw [t1, hbc, g2, hac, hc]

theorem switchRequest_completes (req : Requester) (w : Word) (s : State) (hs : s.serves req (regOff swPage Seawall.SW_CMD_SWITCH) = true) :
    Completes (.switchRequest req w) s fun t =>
      (s.flag swPage Seawall.SW_CMD_SWITCH = true → t.flag swPage Seawall.SW_CMD_SWITCH = true) ∧
      (s.flag swPage Seawall.SW_CMD_SWITCH = false →
        (∀ h : Fin 2, s.halfState (1 - h.val) = 1 → s.halfState h = 2 → hasBit (s.get swPage Seawall.SW_STAT_HEALTHY) h = true →
          t.flag swPage Seawall.SW_CMD_SWITCH = true) ∧
        ((∀ h : Fin 2, ¬ (s.halfState (1 - h.val) = 1 ∧ s.halfState h = 2 ∧ hasBit (s.get swPage Seawall.SW_STAT_HEALTHY) h = true)) →
          t.flag swPage Seawall.SW_CMD_SWITCH = false ∧ t.eventBit swPage 6 = true)) ∧
      (w.getLsbD 31 = false → w.getLsbD 30 = false →
        OnlyRegs s t [fieldKey swPage Seawall.SW_CMD_SWITCH, fieldKey swPage Hdr.EVT_STAT_EVENT] ∧ SameFaults s t) ∧ SameMemory s t := by
  let w' := w.toNat ||| 2 ^ 29
  let a := if w'.testBit 31 then s.repairStep 0 else s
  let b := if w'.testBit 30 then a.repairStep 1 else a
  have h29 : w'.testBit 29 = true := by rw [testBit_or_two_pow]; simp
  have ht : exec (.switchRequest req w) s = .next b.switchStep := by
    rw [exec, execSwitchRequest, State.onWrite_served hs, State.writeSwCmd_eq]
    change Host.Outcome.next (if w'.testBit 29 = true then b.switchStep else b) = _
    rw [h29, if_pos rfl]
  have hmem := SameMemory.of_exec ht (by rw [exec]; exact answers_switchRequest (Quiet.refl s))
  obtain ⟨hb, hstates⟩ := s.repairs_keep (w'.testBit 31) (w'.testBit 30)
  change RepairKeeps s b at hb
  change (∀ g : Fin 2, b.halfState g = s.halfState g) ∨ _ at hstates
  obtain ⟨f1, f2, -, -, f5, f6⟩ := b.switchStep_effect
  have hbits : w.getLsbD 31 = false → w.getLsbD 30 = false → b = s := fun h31 h30 => by
    have k31 : w'.testBit 31 = false := by rw [testBit_or_two_pow, ← BitVec.getLsbD, h31]; rfl
    have k30 : w'.testBit 30 = false := by rw [testBit_or_two_pow, ← BitVec.getLsbD, h30]; rfl
    simp only [b, a, k31, k30, Bool.false_eq_true, if_false]
  clear_value b
  refine ⟨_, ht, fun hf => ?_, fun hf => ⟨fun h h1 h2 h3 => ?_, fun hno => ?_⟩, fun h31 h30 => ?_, hmem⟩
  · rw [f5 (hb.switch.trans hf)]
    exact hb.switch.trans hf
  · refine (f6 (hb.switch.trans hf) true ?_).1
    have hg : 1 - h.val < 2 := by omega
    have hsame : ∀ g : Fin 2, b.halfState g = s.halfState g := by
      refine hstates.resolve_right fun ⟨g, hg4⟩ => ?_
      rcases (by omega : g.val = h.val ∨ g.val = 1 - h.val) with he | he
      · rw [he] at hg4; omega
      · rw [he] at hg4; omega
    refine List.any_eq_true.mpr ⟨h.val, by simp; omega, ?_⟩
    have k1 := (hsame ⟨1 - h.val, hg⟩).trans h1
    have k2 := (hsame h).trans h2
    simp only [k1, k2, hb.healthy, h3, beq_self_eq_true, Bool.and_self]
  · have hnone : ([0, 1].any fun h => b.halfState (1 - h) == 1 && b.halfState h == 2 && hasBit (b.get swPage Seawall.SW_STAT_HEALTHY) h) = false := by
      refine List.any_eq_false.mpr fun h hh hok => ?_
      have hlt : h < 2 := by
        simp only [List.mem_cons, List.not_mem_nil, or_false] at hh
        omega
      have hg : 1 - h < 2 := by omega
      simp only [Bool.and_eq_true, beq_iff_eq, hb.healthy] at hok
      obtain ⟨⟨k1, k2⟩, k3⟩ := hok
      rcases hstates with hsame | ⟨g, hg4⟩
      · exact hno ⟨h, hlt⟩ ⟨(hsame ⟨1 - h, hg⟩).symm.trans k1, (hsame ⟨h, hlt⟩).symm.trans k2, k3⟩
      · have h4 := (hb.follows.eq_of (h := g) (v := 4) (by decide)).mpr hg4
        rcases (by omega : g.val = h ∨ g.val = 1 - h) with he | he
        · rw [he] at h4; omega
        · rw [he] at h4; omega
    obtain ⟨g1, g2⟩ := f6 (hb.switch.trans hf) false hnone
    exact ⟨g1, g2 rfl⟩
  · rw [hbits h31 h30] at f1 f2 ⊢
    exact ⟨f1, f2⟩


/-! ## The end of a repair -/

/-- The half's Harbour has power, and a Cove that needs it has, or is going down. -/
def State.harbourHolds (s : State) (h : Nat) : Prop :=
  s.powered (52 + h) = true ∧ (s.powered (8 * h) = true ∨ s.power.down.contains (8 * h) = true)

theorem ackKey_inner {d : Nat} (hd : d < 96) : outerKey (fieldKey 0x3 (Chip.PD_CTRL_ACK.nth d)) = false ∧
    ∀ h : Fin 2, fieldKey 0x3 (Chip.PD_CTRL_ACK.nth d) ≠ fieldKey swPage (halfField h) := by
  have hdiv := ackKey_div hd
  refine ⟨outerKey_of_place ?_ (by decide) (by decide) (by decide), fun h hk => ?_⟩
  · simp only [Field.place, Field.nth, Chip.PD_CTRL_ACK]
    omega
  · have hplace : ∀ k : Fin 2, fieldKey swPage (halfField k) / 0x8000 = 0x40 := by decide
    rw [hk, hplace h] at hdiv
    cases hdiv

theorem ackKey_inj {d e : Nat} (h : fieldKey 0x3 (Chip.PD_CTRL_ACK.nth d) = fieldKey 0x3 (Chip.PD_CTRL_ACK.nth e)) : d = e := by
  simp only [fieldKey, Field.nth, Chip.PD_CTRL_ACK] at h
  omega

/-- Every Cove of a half needs its Harbour (R557). -/
theorem requires_harbour (x16 : Bool) (h : Fin 2) : (requires x16 (8 * h)).contains (52 + h.val) = true := by
  revert x16 h
  decide

/-- The Harbour of a half does not go down before its Coves have. -/
theorem State.harbourHolds_pumpOne {s : State} {h : Fin 2} (hs : s.harbourHolds h) :
    s.pumpOne.harbourHolds h ∧ s.pumpOne.halfState h = s.halfState h := by
  obtain ⟨hpow, hcove⟩ := hs
  unfold State.pumpOne
  split
  · exact ⟨⟨hpow, hcove⟩, rfl⟩
  · next hidle =>
    simp only [Bool.or_eq_true, not_or, Bool.not_eq_true] at hidle
    obtain ⟨⟨-, hsleep⟩, -⟩ := hidle
    extract_lets want
    split
    · exact ⟨⟨hpow, hcove⟩, rfl⟩
    · next d hd =>
      have hlt : d < 96 := List.mem_range.mp (List.mem_of_find?_eq_some hd)
      have hmay := List.find?_some hd
      cases hrise : s.mayRise want d with
      | true => exact ⟨⟨hpow, hcove⟩, rfl⟩
      | false =>
        rw [hrise, Bool.false_or] at hmay
        simp only [State.mayFall, Bool.and_eq_true, Bool.not_eq_true'] at hmay
        obtain ⟨⟨⟨⟨hnowant, -⟩, -⟩, hall⟩, -⟩ := hmay
        have hon : d ∉ alwaysOn := fun hon => by
          have hwant : d ∈ want := mem_wanted_of_alwaysOn hsleep hon
          rw [List.contains_iff_mem.mpr hwant] at hnowant
          cases hnowant
        have hne : d ≠ 52 + h.val := by
          rintro rfl
          have := List.all_eq_true.mp hall (8 * h) (List.mem_range.mpr (by omega))
          rw [requires_harbour] at this
          simp only [Bool.not_true, Bool.false_or, Bool.and_eq_true, Bool.not_eq_true'] at this
          obtain ⟨⟨k1, -⟩, k2⟩ := this
          rcases hcove with hc | hc
          · rw [k1] at hc; cases hc
          · rw [k2] at hc; cases hc
        let u : State := s.put 0x3 (Chip.PD_CTRL_ACK.nth d) 0
        let v : State := { u with power := { s.power with down := s.power.down ++ [d] } }
        have heq : s.startSwitch d false = v.discard d := rfl
        obtain ⟨-, f2, f3, f4⟩ := v.discard_follows hon
        have hflag : ∀ e < 96, e ≠ d → (v.discard d).powered e = s.powered e := fun e he hne => by
          obtain ⟨k1, k2⟩ := ackKey_inner he
          have hput : u.get 0x3 (Chip.PD_CTRL_ACK.nth e) = s.get 0x3 (Chip.PD_CTRL_ACK.nth e) :=
            State.get_put_other _ _ fun hk => hne (ackKey_inj hk).symm
          exact State.flag_congr s ((f3 _ k1 k2).trans hput)
        rw [heq]
        refine ⟨⟨(hflag _ (by omega) hne.symm).trans hpow, ?_⟩, ?_⟩
        · rw [f2]
          change _ ∨ (s.power.down ++ [d]).contains (8 * h.val) = true
          by_cases hd8 : 8 * h.val = d
          · exact Or.inr (by simp [hd8])
          · refine hcove.imp (fun hc => (hflag _ (by omega) hd8).trans hc) fun hc => ?_
            rw [List.contains_iff_mem] at hc ⊢
            exact List.mem_append_left _ hc
        · rw [f4 h hne]
          exact State.halfState_congr h (State.get_put_other _ _ ((ackKey_inner hlt).2 h))

theorem State.halfState_pumpPower {s : State} {h : Fin 2} (hs : s.harbourHolds h) : s.pumpPower.halfState h = s.halfState h := by
  unfold State.pumpPower
  extract_lets x u
  have hu : u.harbourHolds h := hs
  have h1 := State.harbourHolds_pumpOne hu
  have h2 := State.harbourHolds_pumpOne h1.1
  have h3 := State.harbourHolds_pumpOne h2.1
  have h4 := State.harbourHolds_pumpOne h3.1
  exact h4.2.trans (h3.2.trans (h2.2.trans h1.2))

/-- Where every unit of a half is ready, its Harbour and its first Cove have power. -/
theorem State.harbourHolds_of_ready {s : State} {h : Fin 2} (hr : (instancesOfHalf h).all s.ready = true) : s.harbourHolds h := by
  have hpow : ∀ (b : Block) (n : Nat), b ∈ Block.all → n < b.instances → (⟨b, n, 0⟩ : PageRef).half = some h.val →
      s.powered (⟨b, n, 0⟩ : PageRef).domain = true := fun b n hb hn hhalf => by
    have hmem : (⟨b, n, 0⟩ : PageRef) ∈ instancesOfHalf h := by
      refine List.mem_filter.mpr ⟨List.mem_flatMap.mpr ⟨b, hb, List.mem_map.mpr ⟨n, List.mem_range.mpr hn, rfl⟩⟩, ?_⟩
      rw [hhalf]
      exact beq_self_eq_true _
    have := List.all_eq_true.mp hr _ hmem
    simp only [State.ready, Bool.and_eq_true] at this
    exact this.1.1
  refine ⟨hpow .harbour h (by decide) h.isLt rfl, Or.inl (hpow .cove (8 * h) (by decide) ?_ ?_)⟩
  · change 8 * h.val < 16
    omega
  · change some (8 * h.val / 8) = some h.val
    rw [Nat.mul_div_cancel_left _ (by decide)]

/-- The repair of a half has ended: its command and the count of its healthy reports are 0. -/
def State.repairEnds (s : State) (h : Nat) : State :=
  let s := { s with power := { s.power with repair := s.power.repair.filter (· != h) } }
  (s.put swPage (repairField h) 0).put swPage Seawall.SW_STAT_RECOVER_COUNT 0

/-- The half recovers, or acts where none does. -/
def State.repaired (s : State) (h : Nat) : State :=
  if [0, 1].any (fun g => s.halfState g == 1) then s.putHalfState h 3 else (s.putHalfState h 1).putActing h true

theorem repairKeys_differ (h : Fin 2) : fieldKey swPage Seawall.SW_STAT_RECOVER_COUNT ≠ fieldKey swPage (repairField h) ∧
    fieldKey swPage (halfField h) ≠ fieldKey swPage (repairField h) ∧ fieldKey swPage (repairField h) ∉ beatPlaces ∧
    fieldKey swPage Seawall.SW_STAT_ACTING ≠ fieldKey swPage (repairField h) ∧
    ∀ k ∈ beatPlaces ++ [fieldKey swPage (halfField h), fieldKey swPage Seawall.SW_STAT_ACTING], k / 0x8000 ≠ 0x3 := by
  revert h
  decide

theorem State.repairEnds_effect (s : State) (h : Fin 2) :
    WritesIn (fun k => k / 0x8000 = swPage) s (s.repairEnds h) ∧ (∀ g : Fin 2, (s.repairEnds h).halfState g = s.halfState g) ∧
    (s.repairEnds h).get swPage Seawall.SW_STAT_RECOVER_COUNT = 0 ∧ (s.repairEnds h).flag swPage (repairField h) = false ∧
    (s.repairEnds h).power.repair.contains h.val = false ∧ (s.repairEnds h).power.down = s.power.down := by
  obtain ⟨hplace, -, hstate, -⟩ := repairField_keys h
  let a : State := { s with power := { s.power with repair := s.power.repair.filter (· != h.val) } }
  have ha : WritesIn (fun k => k / 0x8000 = swPage) s a := .of_regs _ rfl
  refine ⟨(ha.put _ (fieldKey_div hplace)).put _ (by decide), fun g => State.halfState_congr g ?_,
    (State.get_put_same ..).trans (Nat.zero_mod _), (State.flag_put_other _ _ (repairKeys_differ h).1).trans (State.flag_put_zero ..), ?_, rfl⟩
  · exact (State.get_put_other _ _ (halfField_facts g).2.2.1.symm).trans (State.get_put_other _ _ (hstate g))
  · change (s.power.repair.filter (· != h.val)).contains h.val = false
    rw [Bool.eq_false_iff, ne_eq, List.contains_iff_mem, List.mem_filter]
    simp

theorem State.repaired_effect (s : State) (h : Fin 2) :
    WritesIn (· ∈ [fieldKey swPage (halfField h), fieldKey swPage Seawall.SW_STAT_ACTING]) s (s.repaired h) ∧ (s.repaired h).power = s.power ∧
    (s.halfState 0 = 1 ∨ s.halfState 1 = 1 → (s.repaired h).halfState h = 3) ∧
    (¬ (s.halfState 0 = 1 ∨ s.halfState 1 = 1) → (s.repaired h).halfState h = 1 ∧ (s.repaired h).halfActing h = true) := by
  have hchoice : ([0, 1].any fun g => s.halfState g == 1) = true ↔ s.halfState 0 = 1 ∨ s.halfState 1 = 1 := by
    simp only [List.any_cons, List.any_nil, Bool.or_false, Bool.or_eq_true, beq_iff_eq]
  have hput : ∀ v < 8, (s.putHalfState h v).halfState h = v := fun v hv => by
    rw [State.halfState_eq, State.putHalfState_eq, State.get_put_same, (halfField_facts h).1, Nat.mod_eq_of_lt hv]
  unfold State.repaired
  split
  · next hone =>
    exact ⟨(WritesIn.refl _ s).put _ (.head _), rfl, fun _ => hput 3 (by decide), fun hno => absurd (hchoice.mp hone) hno⟩
  · next hnone =>
    obtain ⟨w, hact⟩ := (s.putHalfState h 1).putActing_effect (h := h) true
    refine ⟨((WritesIn.refl _ s).put _ (.head _)).trans (w.mono fun k hk => hk ▸ .tail _ (.head _)), rfl,
      fun hone => absurd (hchoice.mpr hone) hnone, fun _ => ⟨?_, (hact h h.isLt).trans (if_pos rfl)⟩⟩
    exact (State.halfState_congr h (w.get (halfField_keys h).2.1)).trans (hput 1 (by decide))

theorem State.judgeDegraded_power (s : State) (h : Nat) : (s.judgeDegraded h).power = s.power := by
  have hif : ∀ (t : State) p, (t.eventIf p swPage 3).power = t.power := fun t p => by cases p <;> rfl
  simp only [State.judgeDegraded, State.judgeSeawall, State.judgeBeacon, State.cond_power, hif]
  rfl

theorem execRepairDone_eq (h : Fin 2) (s : State) : execRepairDone h s = .next (if !s.power.repair.contains h.val || !(instancesOfHalf h).all s.ready then s
    else (((s.repairEnds h).repaired h).judgeDegraded h).pumpPower) := rfl

theorem repairDone_completes (h : Fin 2) (s : State) (hc : s.power.repair.contains h.val = true) (hr : (instancesOfHalf h).all s.ready = true) :
    Completes (.repairDone h) s fun t =>
      t.power.repair.contains h.val = false ∧ t.get swPage Seawall.SW_STAT_RECOVER_COUNT = 0 ∧
      t.flag swPage (if h.val = 0 then Seawall.SW_CMD_REPAIR0 else Seawall.SW_CMD_REPAIR1) = false ∧
      (s.halfState (1 - h.val) = 1 ∨ s.halfState h = 1 → t.halfState h = 3) ∧
      (s.halfState 0 ≠ 1 → s.halfState 1 ≠ 1 → t.halfState h = 1 ∧ t.halfActing h = true) ∧ SameMemory s t := by
  have ht : exec (.repairDone h) s = .next (((s.repairEnds h).repaired h).judgeDegraded h).pumpPower := by
    rw [exec, execRepairDone_eq, hc, hr, Bool.not_true, Bool.or_self, if_neg Bool.false_ne_true]
  have hmem := SameMemory.of_exec ht (by rw [exec]; exact answers_repairDone (Quiet.refl s))
  obtain ⟨hplace, hkey, -⟩ := repairField_keys h
  obtain ⟨-, -, hcount, hbeat, -⟩ := halfField_facts h
  obtain ⟨hrc, hhr, hrb, har, hpage⟩ := repairKeys_differ h
  obtain ⟨b1, b2, b3, b4, b5, b6⟩ := s.repairEnds_effect h
  generalize s.repairEnds h = b at *
  obtain ⟨c1, c2, c3, c4⟩ := b.repaired_effect h
  generalize b.repaired h = c at *
  obtain ⟨d1, -⟩ := c.judgeDegraded_effect h.isLt
  have dpower := c.judgeDegraded_power h
  generalize c.judgeDegraded h = d at *
  have hstate : d.halfState h = c.halfState h := State.halfState_congr h (d1.get hbeat)
  have hone : b.halfState 0 = 1 ∨ b.halfState 1 = 1 ↔ s.halfState 0 = 1 ∨ s.halfState 1 = 1 := by
    rw [show b.halfState 0 = s.halfState 0 from b2 0, show b.halfState 1 = s.halfState 1 from b2 1]
  rw [hone] at c3 c4
  have hholds : d.harbourHolds h := by
    obtain ⟨k1, k2⟩ := State.harbourHolds_of_ready hr
    have hpow : ∀ e < 96, d.powered e = s.powered e := fun e he => by
      have hdiv := ackKey_div he
      refine State.flag_congr s ((d1.get fun hk => ?_).trans ((c1.get fun hk => ?_).trans (b1.get fun hk => ?_)))
      · exact hpage _ (List.mem_append_left _ hk) hdiv
      · exact hpage _ (List.mem_append_right _ hk) hdiv
      · rw [hdiv] at hk
        cases hk
    refine ⟨(hpow _ (by omega)).trans k1, k2.imp (fun k => (hpow _ (by omega)).trans k) fun k => ?_⟩
    rw [dpower, c2, b6]
    exact k
  have hfinal := State.halfState_pumpPower hholds
  obtain ⟨-, hrep, hget⟩ := d.pumpPower_moves
  refine ⟨_, ht, ?_, ?_, ?_, fun hone => ?_, fun h0 h1 => ?_, hmem⟩
  · rw [hrep, dpower, c2]
    exact b5
  · have hkeys : fieldKey swPage Seawall.SW_STAT_RECOVER_COUNT ≠ fieldKey swPage Seawall.SW_STAT_ACTING := by decide
    rw [hget _ (by decide) (by decide), d1.get (by decide), c1.get (by simp [hcount.symm, hkeys])]
    exact b3
  · refine (State.flag_congr (f := repairField h) b ?_).trans b4
    rw [hget _ hplace hkey, d1.get hrb, c1.get (by simp [hhr.symm, har.symm])]
  · rw [hfinal, hstate]
    refine c3 ?_
    rcases (by omega : h.val = 0 ∨ h.val = 1) with hv | hv
    · rw [hv] at hone; exact hone.symm
    · rw [hv] at hone; exact hone
  · obtain ⟨k1, k2⟩ := c4 (by rintro (k | k); exact h0 k; exact h1 k)
    refine ⟨hfinal.trans (hstate.trans k1), (State.halfActing_congr ?_ _).trans k2⟩
    rw [hget _ (by decide) (by decide), d1.get (by decide)]

/-- Settles O49. -/
theorem halvesAreTestedReportedRepairedAndSwitched : Obligations.HalvesAreTestedReportedRepairedAndSwitched :=
  ⟨dualActEnd_completes, bistSliceDone_completes, healthReportTimer_completes, halfRepair_completes, repairDone_completes, switchRequest_completes,
    switchApply_completes⟩

end Sys2Proof.Machine
end

section
/-! PROOFS. Tide and spring boundaries, slack windows and plan swaps (R29 to R38, R61 to R66). -/

namespace Sys2Proof.Machine

/-! ## What leaves the tides alone -/

/-- The tides and the first page of the Tidemark's plan, with its counters and flags, are as before. -/
structure KeepsTide (s t : State) : Prop where
  tide : t.tide = s.tide
  page : WritesIn (fun k => k / 0x8000 ≠ tidePage) s t

theorem KeepsTide.refl (s : State) : KeepsTide s s := ⟨rfl, WritesIn.refl _ s⟩

theorem KeepsTide.trans {s t u : State} (h : KeepsTide s t) (k : KeepsTide t u) : KeepsTide s u := ⟨k.tide.trans h.tide, h.page.trans k.page⟩

theorem KeepsTide.of_same {s t : State} (htide : t.tide = s.tide) (hregs : t.regs = s.regs) : KeepsTide s t := ⟨htide, .of_regs _ hregs⟩

/-- The pages on from 0x50, and the places of others that resets write, lie off the page of the plan. -/
theorem outerKey_of_tidePage {k : Nat} (h : k / 0x8000 = tidePage) : outerKey k = false := by
  have hkeys : ∀ e ∈ [(0x8, Chip.BOOT_SENS_ERR_COUNT), (0x20, Hdr.EVT_STAT_EVENT), (0x20, Breakwater.BW_STAT_QUIET)],
      fieldKey e.1 e.2 / 0x8000 ≠ tidePage := by decide
  rw [outerKey, h, Bool.or_eq_false_iff]
  refine ⟨by decide, List.any_eq_false.mpr fun e he hk => hkeys e he ?_⟩
  rw [beq_iff_eq.mp hk, h]

theorem KeepsTide.of_inner {s t : State} (h : t.inner = s.inner) : KeepsTide s t := by
  refine ⟨congrArg Inner.tide h, fun k hk => ?_⟩
  have hout := outerKey_of_tidePage (not_not.mp hk)
  have := congrFun (congrArg Inner.fields h) k
  simpa [State.inner, hout] using this

theorem KeepsTide.of_writes {s t : State} {ks : List Nat} (h : WritesIn (· ∈ ks) s t) (hks : ∀ k ∈ ks, k / 0x8000 ≠ tidePage) (htide : t.tide = s.tide) :
    KeepsTide s t := ⟨htide, h.mono hks⟩

theorem KeepsTide.foldl_mem {α : Type} {f : State → α → State} {l : List α} (h : ∀ a ∈ l, ∀ s, KeepsTide s (f s a)) (s : State) :
    KeepsTide s (l.foldl f s) := by
  induction l generalizing s with
  | nil => exact .refl s
  | cons a l ih => exact (h a (.head _) s).trans (ih (fun b hb => h b (.tail _ hb)) (f s a))

section
variable {s t : State}

theorem KeepsTide.put (h : KeepsTide s t) {pg : Nat} {f : Field} (v : Nat) (hk : fieldKey pg f / 0x8000 ≠ tidePage) : KeepsTide s (t.put pg f v) :=
  h.trans ⟨rfl, (WritesIn.refl _ t).put v hk⟩

theorem KeepsTide.cond (h : KeepsTide s t) {pg : Nat} (b : Nat) (p : Bool) (hk : fieldKey pg Hdr.FLT_STAT_FAULT / 0x8000 ≠ tidePage) :
    KeepsTide s (t.cond pg b p) := h.trans ⟨State.cond_tide .., (WritesIn.refl _ t).cond hk⟩

theorem KeepsTide.ite {c : Prop} [Decidable c] {u : State} (h : KeepsTide s t) (k : KeepsTide s u) : KeepsTide s (if c then t else u) := by
  split
  · exact h
  · exact k

theorem KeepsTide.get (h : KeepsTide s t) {f : Field} (hf : f.place < 0x8000) : t.get tidePage f = s.get tidePage f :=
  h.page.get (not_not_intro (fieldKey_div hf))

theorem KeepsTide.flag (h : KeepsTide s t) {f : Field} (hf : f.place < 0x8000) : t.flag tidePage f = s.flag tidePage f := State.flag_congr s (h.get hf)

end

/-! ## The work of other units at a boundary -/

/-- A boundary is announced to Drift channels, to the Beacon and to the loops. -/
theorem State.oweTriggers_regs (s : State) (code : Nat) (p : Nat → Bool) :
    (s.oweTriggers code p).regs = s.regs ∧ (s.oweTriggers code p).tide = s.tide ∧ (s.oweTriggers code p).seawall = s.seawall :=
  ⟨foldl_keeps (v := State.regs) (f := fun (s : State) c => s.owe (.trigger c)) (fun _ _ => rfl) _ _,
    foldl_keeps (v := State.tide) (f := fun (s : State) c => s.owe (.trigger c)) (fun _ _ => rfl) _ _,
    foldl_keeps (v := State.seawall) (f := fun (s : State) c => s.owe (.trigger c)) (fun _ _ => rfl) _ _⟩

theorem State.loopTide_regs (s : State) : s.loopTide.regs = s.regs ∧ s.loopTide.tide = s.tide := by
  unfold State.loopTide
  extract_lets c
  split
  · exact ⟨rfl, rfl⟩
  · split
    · exact ⟨rfl, rfl⟩
    · exact ⟨rfl, rfl⟩

theorem State.announceTide_regs (s : State) (f : Nat) : (s.announceTide f).regs = s.regs ∧ (s.announceTide f).tide = s.tide := by
  obtain ⟨h1, h2⟩ := ((s.owe (.pulse (2 + f))).triggerFamily 1 f).loopTide_regs
  obtain ⟨k1, k2, -⟩ := (s.owe (.pulse (2 + f))).oweTriggers_regs 1 fun c => (s.owe (.pulse (2 + f))).chCfg c Drift.CH_CFG_TRIG_FAM == f
  exact ⟨h1.trans k1, h2.trans k2⟩

theorem State.endTide_keeps (s : State) (f ended : Nat) : KeepsTide s (s.endTide f ended) := by
  unfold State.endTide
  split
  · exact .refl s
  · refine .foldl_mem (fun x _ t => .of_inner ?_) s
    simp [State.judgeSilent]

/-- The half's counts of a tide, and what it shows of them (R294). -/
theorem State.harbourTide_keeps (s : State) (h : Nat) : KeepsTide s (s.harbourTide h) := by
  have hpage : ∀ p, 0x50 ≤ hbPage h p := fun p => by simp only [hbPage, Block.page]; omega
  refine .of_inner ?_
  unfold State.harbourTide
  simp [State.inner_foldl, outerPage_of_le, hpage]

theorem State.controllersTide_keeps (s : State) : KeepsTide s s.controllersTide := by
  have hpage : ∀ h, fieldKey (pcPage h 0) Hdr.FLT_STAT_FAULT / 0x8000 ≠ tidePage := fun h => by
    simp only [fieldKey, pcPage, Block.page, Hdr.FLT_STAT_FAULT, tidePage]
    omega
  unfold State.controllersTide
  refine KeepsTide.trans (t := { s with fault := { s.fault with disagreed := [] } }) (.of_same rfl rfl) (.foldl_mem (fun h _ t => ?_) _)
  exact .ite (.refl t) ⟨State.lower_tide .., (WritesIn.refl _ t).lower (hpage h)⟩

theorem State.tide_startSplits (s : State) (h : Nat) : (s.startSplits h).tide = s.tide := by
  unfold State.startSplits
  extract_lets a flying splits frames w
  have ha : a.tide = s.tide :=
    foldl_keeps (v := State.tide) (fun t k => foldl_keeps (v := State.tide)
      (f := fun (s : State) o => s.put swPage1 (Seawall.SW_SPLIT_VALID.nth k o) 0) (fun _ _ => rfl) _ _) _ _
  clear_value a
  exact ha

theorem State.tide_switchNoted (s : State) (old new cause : Nat) (dual : Bool) : (s.switchNoted old new cause dual).tide = s.tide := by
  unfold State.switchNoted
  extract_lets a b c d e f g
  have hf : f.tide = e.tide := State.eventIf_tide ..
  exact (State.eventIf_tide ..).trans hf

theorem State.tide_closeDual (s : State) (old : Nat) : (s.closeDual old).tide = s.tide := by
  unfold State.closeDual
  split
  · rfl
  · rfl

theorem State.tide_judgeSeawall (s : State) : s.judgeSeawall.tide = s.tide := by simp [State.judgeSeawall, State.judgeBeacon]

theorem State.tide_actsFrom (s : State) (old new cause : Nat) : (s.actsFrom old new cause).tide = s.tide := by
  have hacts : ∀ d, (s.actsWith new d).tide = s.tide := fun d => by
    unfold State.actsWith
    extract_lets a w
    have ha : a.tide = s.tide := State.tide_startSplits (s.putActing new true) new
    clear_value a
    exact ha
  have hmark : ∀ t : State, t.markDual.tide = t.tide := fun t => rfl
  rw [State.actsFrom, State.tide_judgeSeawall, State.tide_closeDual, hmark, State.tide_switchNoted, hacts]

theorem State.tide_recover (s : State) (h : Nat) : (s.recover h).tide = s.tide := by
  unfold State.recover
  split
  · rfl
  · split
    · rfl
    · extract_lets n u v
      split
      · rfl
      · split
        · rw [State.switchTo_planned, State.tide_actsFrom]
          unfold State.handsOver
          extract_lets a b
          split <;> rfl
        · exact (State.tide_judgeSeawall _).trans rfl

theorem State.publishReports_keeps (s : State) (tide : Nat) : KeepsTide s (s.publishReports tide) := by
  unfold State.publishReports
  extract_lets b bad
  have hb : KeepsTide s b := by
    obtain ⟨-, -, hw⟩ := s.reports_effect tide 0
    have hplaces : ∀ k, k ∈ reportPlaces 0 ∨ k ∈ reportPlaces 1 → k / 0x8000 ≠ tidePage := by
      have : ∀ k ∈ reportPlaces 0 ++ reportPlaces 1, k / 0x8000 ≠ tidePage := by decide
      exact fun k hk => this k (List.mem_append.mpr hk)
    have htide : ∀ (t : State) h, (t.reportHalf h tide).tide = t.tide := fun t h => by
      rw [State.reportHalf_eq]
      exact foldl_keeps (v := State.tide) (f := fun (s : State) (e : Field × Nat) => s.put swPage1 e.1 e.2) (fun _ _ => rfl) _ t
    exact ⟨(htide _ 1).trans (htide s 0), hw.mono hplaces⟩
  have hplan : ∀ k ∈ recoverPlaces, k / 0x8000 ≠ tidePage := by decide
  have hrec : ∀ (t : State) (h g : Fin 2), g.val = 1 - h.val → KeepsTide t (t.recover h) := fun t h g hg =>
    .of_writes (t.recover_effect h g hg).1 hplan (t.tide_recover h)
  exact (hb.cond 4 bad (by decide)).trans ((hrec _ 0 1 rfl).trans (hrec _ 1 0 rfl))

/-- At a tide of the lowest family no domain that has drained waits: the tides are as before. -/
theorem State.lowestTide_keeps (s : State) (first : Bool) (ended : Nat) (h : s.tide.drained = []) : KeepsTide s (s.lowestTide first ended) := by
  unfold State.lowestTide
  extract_lets a b w c t
  have ha : KeepsTide s a := by
    unfold a
    refine .ite (.of_same rfl rfl) ?_
    exact ((s.harbourTide_keeps 0).trans ((s.harbourTide 0).harbourTide_keeps 1)).trans (State.publishReports_keeps _ ended)
  have hb : KeepsTide a b := .ite (.refl a) a.controllersTide_keeps
  have hc : KeepsTide b c := .ite (.of_same rfl rfl) (.refl b)
  have hall := ha.trans (hb.trans hc)
  have hempty : t.drained.isEmpty = true := by
    change c.tide.drained.isEmpty = true
    rw [hall.tide, h]
    rfl
  rw [if_pos hempty]
  exact hall


/-! ## A family begins a tide (R32, R33) -/

/-- The places of the families' counters and slack windows. -/
def famPlaces : List Nat := (List.range 4).flatMap fun f => [fieldKey tidePage (Tidemark.FAM_TIDE_TIDE.nth f), fieldKey tidePage (Tidemark.FAM_PHASE_IN_SLACK.nth f)]

/-- What the beginnings of tides leave: the plans, the spring tide and what drains, and all registers but the families' own. -/
structure Counted (s t : State) : Prop where
  live : t.tide.livePlan = s.tide.livePlan
  staged : t.tide.staged = s.tide.staged
  captured : t.tide.stagedCaptured = s.tide.stagedCaptured
  ever : t.tide.springEver = s.tide.springEver
  spring : t.tide.springCaptured = s.tide.springCaptured
  start : t.tide.springStart = s.tide.springStart
  drained : t.tide.drained = s.tide.drained
  length : t.tide.begun.length = s.tide.begun.length
  writes : WritesIn (· ∈ famPlaces) s t

theorem Counted.refl (s : State) : Counted s s := ⟨rfl, rfl, rfl, rfl, rfl, rfl, rfl, rfl, WritesIn.refl _ s⟩

theorem Counted.trans {s t u : State} (h : Counted s t) (k : Counted t u) : Counted s u :=
  ⟨k.live.trans h.live, k.staged.trans h.staged, k.captured.trans h.captured, k.ever.trans h.ever, k.spring.trans h.spring, k.start.trans h.start,
    k.drained.trans h.drained, k.length.trans h.length, h.writes.trans k.writes⟩

theorem State.countTide_counted (s : State) {f : Nat} (hf : f < 4) (k : Nat) : Counted s (s.countTide f k) := by
  have hmem : ∀ x ∈ [fieldKey tidePage (Tidemark.FAM_TIDE_TIDE.nth f), fieldKey tidePage (Tidemark.FAM_PHASE_IN_SLACK.nth f)], x ∈ famPlaces :=
    fun x hx => List.mem_flatMap.mpr ⟨f, List.mem_range.mpr hf, hx⟩
  unfold State.countTide
  extract_lets n t u
  have hu : WritesIn (· ∈ famPlaces) s (u.putBegun f k) := .of_regs _ rfl
  exact ⟨rfl, rfl, rfl, rfl, rfl, rfl, rfl, List.length_set, (hu.put _ (hmem _ (.head _))).put _ (hmem _ (.tail _ (.head _)))⟩

theorem State.countTide_tide (s : State) (f k : Nat) : (s.countTide f k).tide.begun = s.tide.begun.set f k ∧
    (s.countTide f k).tide.famStarted = setBit s.tide.famStarted f ∧ (s.countTide f k).tide.famEver = setBit s.tide.famEver f := ⟨rfl, rfl, rfl⟩

theorem famKeys_differ (f : Fin 4) : fieldKey tidePage (Tidemark.FAM_PHASE_IN_SLACK.nth f) ≠ fieldKey tidePage (Tidemark.FAM_TIDE_TIDE.nth f) ∧
    (Tidemark.FAM_TIDE_TIDE.nth f).place < 0x8000 ∧ (Tidemark.FAM_PHASE_IN_SLACK.nth f).place < 0x8000 := by
  revert f
  decide

/-- The counter of the family goes on by one, from 0 where it has never been active, and its slack window is closed. -/
theorem State.countTide_counters (s : State) (f : Fin 4) (k : Nat) :
    (s.countTide f k).famTide f = (if hasBit s.tide.famEver f then (s.famTide f + 1) % 2 ^ 32 else 0) ∧ (s.countTide f k).inSlack f = false := by
  unfold State.countTide
  extract_lets n t u
  refine ⟨?_, State.flag_put_zero ..⟩
  have hput : ((u.putBegun f k).put tidePage (Tidemark.FAM_TIDE_TIDE.nth f) n).get tidePage (Tidemark.FAM_TIDE_TIDE.nth f) = n % 2 ^ 32 :=
    State.get_put_same ..
  refine (State.get_put_other _ _ (famKeys_differ f).1).trans (hput.trans ?_)
  simp only [n]
  split <;> rfl

theorem List.getD_set_self {l : List Nat} {f : Nat} (h : f < l.length) (k d : Nat) : (l.set f k).getD f d = k := by
  rw [List.getD_eq_getElem?_getD, List.getElem?_set_self h, Option.getD_some]

theorem List.getD_set_ne {l : List Nat} {f g : Nat} (h : f ≠ g) (k d : Nat) : (l.set f k).getD g d = l.getD g d := by
  rw [List.getD_eq_getElem?_getD, List.getElem?_set_ne h, List.getD_eq_getElem?_getD]

/-- Of families that begin together each has its number of the spring tide, and runs. -/
theorem State.countTides (k : Nat → Nat) {l : List Nat} (hl : ∀ f ∈ l, f < 4) (s : State) (hlen : s.tide.begun.length = 4) :
    Counted s (l.foldl (fun (s : State) f => s.countTide f (k f)) s) ∧
    (∀ f ∈ l, (l.foldl (fun (s : State) f => s.countTide f (k f)) s).tide.begun.getD f 0 = k f ∧
      hasBit (l.foldl (fun (s : State) f => s.countTide f (k f)) s).tide.famStarted f = true) ∧
    ∀ f, s.tide.begun.getD f 0 = k f → (l.foldl (fun (s : State) f => s.countTide f (k f)) s).tide.begun.getD f 0 = k f ∧
      (hasBit s.tide.famStarted f = true → hasBit (l.foldl (fun (s : State) f => s.countTide f (k f)) s).tide.famStarted f = true) := by
  induction l generalizing s with
  | nil => exact ⟨.refl s, nofun, fun _ h => ⟨h, id⟩⟩
  | cons a l ih =>
    have ha := hl a (.head _)
    have hc := s.countTide_counted ha (k a)
    obtain ⟨h1, h2, h3⟩ := ih (fun f hf => hl f (.tail _ hf)) (s.countTide a (k a)) (hc.length.trans hlen)
    obtain ⟨t1, t2, -⟩ := s.countTide_tide a (k a)
    have hself : (s.countTide a (k a)).tide.begun.getD a 0 = k a := by
      rw [t1]
      exact List.getD_set_self (by omega) _ _
    have hruns : ∀ f, (a = f ∨ hasBit s.tide.famStarted f = true) → hasBit (s.countTide a (k a)).tide.famStarted f = true := fun f hf => by
      rw [t2, hasBit_setBit, Bool.or_eq_true, decide_eq_true_eq]
      exact hf.symm
    refine ⟨hc.trans h1, fun f hf => ?_, fun f hf => ?_⟩
    · rcases List.mem_cons.mp hf with rfl | hf
      · exact ⟨(h3 f hself).1, (h3 f hself).2 (hruns f (Or.inl rfl))⟩
      · exact h2 f hf
    · have hkeep : (s.countTide a (k a)).tide.begun.getD f 0 = k f := by
        by_cases haf : a = f
        · exact haf ▸ hself
        · rw [t1, List.getD_set_ne haf]
          exact hf
      exact ⟨(h3 f hkeep).1, fun hs => (h3 f hkeep).2 (hruns f (Or.inr hs))⟩

/-! ## No captured group, nothing to swap -/

/-- The pages from 0x50 on. -/
theorem State.endTide_writes (s : State) (f ended : Nat) : WritesIn (fun k => 0x50 ≤ k / 0x8000) s (s.endTide f ended) := by
  have hpage : ∀ n, 0x50 ≤ fieldKey (inPage n) Hdr.FLT_STAT_FAULT / 0x8000 := fun n => by
    have := Block.le_page (b := .inlet) (by decide) n 0
    simp only [fieldKey, inPage]
    omega
  unfold State.endTide
  split
  · exact WritesIn.refl _ s
  · refine (WritesIn.refl _ s).foldl fun t x _ ht => ?_
    unfold State.judgeSilent
    extract_lets st n limit late u
    exact ((((WritesIn.putStream ht).cond (hpage _)).cond (hpage _)).cond (hpage _)).cond (hpage _)

/-- No group of the 64 is captured. -/
def State.noneCaptured (s : State) : Prop := ∀ g < 64, s.grpFlag Tidemark.GRP_STAT_CAPTURED g = false

theorem capturedKey (g : Nat) : fieldKey grpPage (Tidemark.GRP_STAT_CAPTURED.nth (g % 64)) / 0x8000 = grpPage := by
  simp only [fieldKey, Field.nth, Tidemark.GRP_STAT_CAPTURED, grpPage]
  omega

theorem State.noneCaptured.of_writes {s t : State} (h : s.noneCaptured) (hw : WritesIn (fun k => k / 0x8000 ≠ grpPage) s t) : t.noneCaptured :=
  fun g hg => (hw.flag (not_not_intro (capturedKey g))).trans (h g hg)

theorem State.swapGroups_of_none {s : State} (h : s.noneCaptured) (f : Nat) : s.swapGroups f = s := by
  have hnil : (List.range 64).filter (fun g => s.grpFlag Tidemark.GRP_STAT_CAPTURED g && s.grpFamily g == f) = [] := by
    rw [List.filter_eq_nil_iff]
    intro g hg
    simp [h g (List.mem_range.mp hg)]
  rw [State.swapGroups, hnil, List.foldl_nil]

theorem State.swapAllGroups_of_none {s : State} (h : s.noneCaptured) : s.swapAllGroups = s := by
  simp only [State.swapAllGroups, List.foldl_cons, List.foldl_nil, State.swapGroups_of_none h]

/-- Settles O11. -/
theorem tideBoundariesCountTheFamilysTide : Obligations.TideBoundariesCountTheFamilysTide := by
  intro f s p hlive hbegun ⟨hnone, hdrained, hlen⟩
  let k := s.tide.begun.getD f 0
  let a := if !s.famRuns f then s else s.endTide f (s.famTide f)
  let b := a.countTide f (k + 1)
  let d := (b.swapGroups f).announceTide f
  have ht : exec (.tideBoundary f) s = .next (if d.lowestFamily = some f.val then d.lowestTide (!s.famRuns f) (s.famTide f) else d) := by
    rw [exec, execTideBoundary, hlive]
    exact congrArg Host.Outcome.next (if_neg (Nat.not_le_of_lt hbegun))
  have ha : KeepsTide s a ∧ WritesIn (fun x => 0x50 ≤ x / 0x8000) s a := by
    unfold a
    split
    · exact ⟨.refl s, WritesIn.refl _ s⟩
    · exact ⟨s.endTide_keeps f _, s.endTide_writes f _⟩
  obtain ⟨hatide, hawrites⟩ := ha
  have hb : Counted a b := a.countTide_counted f.isLt (k + 1)
  obtain ⟨t1, t2, t3⟩ := a.countTide_tide f (k + 1)
  obtain ⟨c1, c2⟩ := a.countTide_counters f (k + 1)
  have hfam : ∀ x ∈ famPlaces, x / 0x8000 = tidePage := by decide
  have hnone' : b.noneCaptured := by
    have h₁ : a.noneCaptured := State.noneCaptured.of_writes hnone (hawrites.mono fun x hx => by
      have : grpPage < 0x50 := by decide
      omega)
    refine h₁.of_writes (hb.writes.mono fun x hx => ?_)
    rw [hfam x hx]
    decide
  have hd : d.regs = b.regs ∧ d.tide = b.tide := by
    have := b.announceTide_regs f
    simpa only [d, State.swapGroups_of_none hnone'] using this
  have hkeep : KeepsTide d (if d.lowestFamily = some f.val then d.lowestTide (!s.famRuns f) (s.famTide f) else d) := by
    refine .ite (d.lowestTide_keeps _ _ ?_) (.refl d)
    rw [hd.2, hb.drained, hatide.tide, hdrained]
  have hall : KeepsTide b _ := (KeepsTide.of_same hd.2 hd.1).trans hkeep
  obtain ⟨-, hp1, hp2⟩ := famKeys_differ f
  refine ⟨_, ht, ?_⟩
  generalize (if d.lowestFamily = some f.val then d.lowestTide (!s.famRuns f) (s.famTide f) else d) = t at hall
  have hfl : f.val < s.tide.begun.length := by rw [hlen]; exact f.isLt
  have hfamTide : a.famTide f = s.famTide f := hatide.get hp1
  change b.tide.begun = _ at t1
  change b.tide.famStarted = _ at t2
  change b.tide.famEver = _ at t3
  change b.famTide f = _ at c1
  rw [hatide.tide] at t1 t2 t3 c1
  rw [hfamTide] at c1
  refine ⟨?_, ?_, ?_, fun g _ hg => ?_, ?_, ?_, (hall.flag hp2).trans c2⟩
  · rw [hall.tide, t1, List.getD_set_self hfl]
  · rw [hall.tide, t2, hasBit_setBit, decide_eq_true rfl, Bool.or_true]
  · rw [hall.tide, t3, hasBit_setBit, decide_eq_true rfl, Bool.or_true]
  · rw [hall.tide, t1, List.getD_set_ne (Ne.symm hg)]
  · rw [hall.tide, hb.live, hatide.tide, hlive]
  · exact (hall.get hp1).trans c1


/-! ## The spring boundary (R30, R32) -/

theorem State.inner_endTide (s : State) (f ended : Nat) : (s.endTide f ended).inner = s.inner := by
  unfold State.endTide
  split
  · rfl
  · exact State.inner_foldl (fun t x => by simp [State.judgeSilent]) _ _

theorem grpKey_div {f : Field} (hf : f ∈ [Tidemark.GRP_STAT_PENDING, Tidemark.GRP_STAT_CAPTURED, Tidemark.GRP_STAT_NOFAMILY]) (g : Nat) :
    fieldKey grpPage (f.nth (g % 64)) / 0x8000 = grpPage := by
  have hall : ∀ f ∈ [Tidemark.GRP_STAT_PENDING, Tidemark.GRP_STAT_CAPTURED, Tidemark.GRP_STAT_NOFAMILY], ∀ g < 64,
      fieldKey grpPage (f.nth g) / 0x8000 = grpPage := by decide
  exact hall f hf _ (Nat.mod_lt _ (by decide))

/-- A mark of a commit group stands on the page of the groups. -/
theorem State.putGrp_keeps (s : State) {f : Field} (hf : f ∈ [Tidemark.GRP_STAT_PENDING, Tidemark.GRP_STAT_CAPTURED, Tidemark.GRP_STAT_NOFAMILY]) (g v : Nat) :
    KeepsTide s (s.putGrp f g v) := (KeepsTide.refl s).put v (by rw [grpKey_div hf]; decide)

theorem State.dropArm_keeps (s : State) (g : Nat) : KeepsTide s (s.dropArm g) :=
  KeepsTide.trans (t := { s with commit := { s.commit with swArm := s.commit.swArm.filter (· != g) } }) (.of_same rfl rfl)
    (State.putGrp_keeps _ (by simp) _ _)

theorem State.dropInactive_keeps (s : State) : KeepsTide s s.dropInactive :=
  .foldl_mem (fun g _ t => (t.dropArm_keeps g).trans (State.putGrp_keeps _ (by simp) g 1)) s

theorem State.countSpring_effect (s : State) :
    s.countSpring.tide = { s.tide with springEver := true, springCaptured := false } ∧
    WritesIn (· = fieldKey tidePage Tidemark.SPRING_COUNT_COUNT) s s.countSpring ∧
    s.countSpring.get tidePage Tidemark.SPRING_COUNT_COUNT =
      (if s.tide.springEver then (s.get tidePage Tidemark.SPRING_COUNT_COUNT + 1) % 2 ^ 32 else 0) := by
  unfold State.countSpring
  extract_lets n u v
  refine ⟨rfl, ((WritesIn.of_regs _ rfl).put _ rfl), (State.get_put_same ..).trans ?_⟩
  change n % 2 ^ 32 = _
  simp only [n]
  split <;> rfl

/-- Settles O12. -/
theorem springBoundariesCountTheSpringTide : Obligations.SpringBoundariesCountTheSpringTide := by
  intro s p hlive hends hplan hstaged ⟨hnone, hdrained, hlen⟩
  let a := (p.active.filter s.famRuns).foldl (fun (s : State) f => s.endTide f (s.famTide f)) s
  let b : State := ({ a.countSpring with tide := { a.countSpring.tide with springStart := a.springEnd } }).owe (.pulse 10)
  have ht : exec .springBoundary s = .next (if b.power.planEnds && !b.tide.stagedCaptured then b.endPlan p else b.beginSpring p s.lowestFamily s.logTide) := by
    rw [exec, execSpringBoundary, hlive]
    exact congrArg Host.Outcome.next (if_neg (by rw [hends]; decide))
  have ha : a.inner = s.inner := State.inner_foldl (fun t f => t.inner_endTide f _) _ _
  have hawrites : WritesIn (fun k => 0x50 ≤ k / 0x8000) s a :=
    (WritesIn.refl _ s).foldl fun t f _ ht => ht.trans (t.endTide_writes f _)
  have hatide : a.tide = s.tide := congrArg Inner.tide ha
  have hapower : a.power = s.power := congrArg Inner.power ha
  obtain ⟨c1, c2, c3⟩ := a.countSpring_effect
  have hb : b.tide = { s.tide with springEver := true, springCaptured := false, springStart := a.springEnd } := by
    change ({ a.countSpring.tide with springStart := a.springEnd } : TideSt) = _
    rw [c1, hatide]
  have hbregs : WritesIn (· = fieldKey tidePage Tidemark.SPRING_COUNT_COUNT) a b := c2.regs rfl
  have hbcount : b.get tidePage Tidemark.SPRING_COUNT_COUNT =
      (if s.tide.springEver then (s.get tidePage Tidemark.SPRING_COUNT_COUNT + 1) % 2 ^ 32 else 0) := by
    have hsame : a.get tidePage Tidemark.SPRING_COUNT_COUNT = s.get tidePage Tidemark.SPRING_COUNT_COUNT := State.get_of_inner ha (by decide)
    rw [hatide, hsame] at c3
    exact c3
  have hbpower : b.power.planEnds = false := (congrArg PowerSt.planEnds hapower).trans hplan
  have hnoneb : b.noneCaptured := by
    have h₁ : a.noneCaptured := State.noneCaptured.of_writes hnone (hawrites.mono fun x hx => by
      have : grpPage < 0x50 := by decide
      omega)
    exact h₁.of_writes (hbregs.mono fun x hx => by rw [hx]; decide)
  clear_value b
  rw [hbpower, Bool.false_and, if_neg Bool.false_ne_true] at ht
  have hbcaptured : b.tide.stagedCaptured = false := by rw [hb]; exact hstaged
  have hblen : b.tide.begun.length = 4 := by rw [hb]; exact hlen
  let c := p.active.foldl (fun (s : State) f => s.countTide f 1) b
  have hactive : ∀ f ∈ p.active, f < 4 := fun f hf =>
    (by decide : ∀ f ∈ [0, 1, 2, 3], f < 4) f (List.mem_filter.mp hf).1
  obtain ⟨k1, k2, -⟩ := State.countTides (fun _ => 1) hactive b hblen
  have hfam : ∀ x ∈ famPlaces, x / 0x8000 = tidePage ∧ x ≠ fieldKey tidePage Tidemark.SPRING_COUNT_COUNT := by decide
  have hnonec : c.noneCaptured := hnoneb.of_writes (k1.writes.mono fun x hx => by
    rw [(hfam x hx).1]
    decide)
  let d := p.active.foldl (fun (s : State) f => s.announceTide f) c.dropInactive
  have hd : KeepsTide c d := c.dropInactive_keeps.trans
    (.foldl_mem (fun f _ t => .of_same (t.announceTide_regs f).2 (t.announceTide_regs f).1) _)
  have heq : b.beginSpring p s.lowestFamily s.logTide = (match d.lowestFamily with
      | none => d
      | some f => d.lowestTide (!s.lowestFamily.any (hasBit b.tide.famStarted) && !hasBit b.tide.famStarted f) s.logTide) := by
    unfold State.beginSpring
    rw [hbcaptured]
    simp only [Bool.false_eq_true, if_false, Option.getD_none]
    rw [State.swapAllGroups_of_none hnonec] <;> rfl
  have hlast : KeepsTide d (b.beginSpring p s.lowestFamily s.logTide) := by
    rw [heq]
    split
    · exact .refl d
    · refine d.lowestTide_keeps _ _ ?_
      rw [hd.tide, k1.drained, hb]
      exact hdrained
  obtain ⟨htide, hpage⟩ := hd.trans hlast
  refine ⟨_, ht, ?_, fun f hf => ?_, ?_, ?_, ?_⟩
  · rw [htide, k1.live, hb]
    exact hlive
  · rw [htide]
    exact k2 f hf
  · rw [htide, k1.ever, hb]
  · rw [htide, k1.spring, hb]
  · rw [hpage.get (by decide), k1.writes.get fun hk => (hfam _ hk).2 rfl]
    exact hbcount

end Sys2Proof.Machine
/-! A staged plan goes live (R61 to R66). -/

namespace Sys2Proof.Machine

/-! ## A plan goes live (R61 to R66) -/

/-- The plans, the spring tide and the tides begun are as before. -/
structure SamePlan (s t : State) : Prop where
  live : t.tide.livePlan = s.tide.livePlan
  staged : t.tide.staged = s.tide.staged
  captured : t.tide.stagedCaptured = s.tide.stagedCaptured
  started : t.tide.famStarted = s.tide.famStarted
  ever : t.tide.springEver = s.tide.springEver
  start : t.tide.springStart = s.tide.springStart
  begun : t.tide.begun = s.tide.begun

theorem SamePlan.of_tide {s t : State} (h : t.tide = s.tide) : SamePlan s t := by
  constructor <;> rw [h]

theorem SamePlan.trans {s t u : State} (h : SamePlan s t) (k : SamePlan t u) : SamePlan s u :=
  ⟨k.live.trans h.live, k.staged.trans h.staged, k.captured.trans h.captured, k.started.trans h.started, k.ever.trans h.ever, k.start.trans h.start,
    k.begun.trans h.begun⟩

theorem State.tide_dropArm (s : State) (g : Nat) : (s.dropArm g).tide = s.tide := rfl

theorem State.tide_captureGroup (s : State) (g : Nat) : (s.captureGroup g).tide = s.tide :=
  foldl_keeps (v := State.tide) (f := State.capturePage) (fun _ _ => rfl) _ s

theorem State.tide_swapPage (s : State) (pg t : Nat) : (s.swapPage pg t).tide = s.tide := by
  have hdrop : ∀ (t : State) h, (t.dropTlb h).tide = t.tide := fun _ _ => rfl
  have hmode : ∀ (t : State) o, (t.syncModeSwap pg o).tide = t.tide := fun t o => by
    unfold State.syncModeSwap
    split
    · extract_lets x y
      split <;> rfl
    · rfl
  unfold State.swapPage
  extract_lets mode new rest u v w x
  have hw : w.tide = v.tide := by
    simp only [w]
    split
    · exact hdrop v 0
    · split
      · exact hdrop v 1
      · rfl
  exact (hmode w mode).trans (hw.trans rfl)

theorem State.tide_swapGroup (s : State) (g t : Nat) : (s.swapGroup g t).tide = s.tide :=
  foldl_keeps (v := State.tide) (f := fun (s : State) pg => s.swapPage pg t) (fun s pg => s.tide_swapPage pg t) _ s

theorem State.inner_rebindCh (s : State) (c : Nat) : (s.rebindCh c).inner = s.inner := by
  have hpage : 0x50 ≤ chPage c := Block.le_page (b := .drift) (by decide) c 0
  unfold State.rebindCh
  extract_lets x waiting back bursts u
  clear_value back
  cases back with
  | nil => exact (State.inner_judgeCh ..).trans rfl
  | cons r l =>
    rw [State.inner_judgeCh, State.inner_putCh, State.putNext, State.inner_put _ _ _ hpage, State.inner_put _ _ _ hpage, State.inner_put _ _ _ hpage,
      State.inner_putCh]

theorem State.inner_rebindContext (s : State) (n c : Nat) : (s.rebindContext n c).inner = s.inner := by
  rw [State.rebindContext, State.inner_judgeCove, State.inner_lhRestart, State.inner_putCoveCtx]

theorem State.inner_swapStream (s : State) (old new : Option Plan) (x : Nat) : (s.swapStream old new x).inner = s.inner := by
  unfold State.swapStream
  extract_lets was is same st gap moved u
  split
  · rfl
  · rw [State.inner_judgeInlet, State.inner_putStream]
    unfold u
    split
    · exact State.inner_stPut ..
    · rfl

theorem State.tide_swapSlots (s : State) (new : Option Plan) : (s.swapSlots new).tide = s.tide := by
  have htx : ∀ (t : State) m k, (t.swapTxSlot new m k).tide = t.tide := fun t m k => by
    unfold State.swapTxSlot
    extract_lets b dt u v x
    split <;> rfl
  have hslot : ∀ (t : State) k, (t.swapStreamSlot new k).tide = t.tide := fun t k => by
    unfold State.swapStreamSlot
    extract_lets b u v x
    split <;> rfl
  unfold State.swapSlots
  extract_lets a b
  have ha : a.tide = s.tide := foldl_keeps (v := State.tide) (fun t m => foldl_keeps (v := State.tide) (fun t k => htx t m k) _ _) _ _
  have hb : b.tide = a.tide := foldl_keeps (v := State.tide) (fun t k => hslot t k) _ _
  clear_value b
  refine (foldl_keeps (v := State.tide) (fun t k => ?_) _ _).trans (hb.trans ha)
  rfl

theorem State.tide_loopPlan (s : State) (old : Option Plan) : (s.loopPlan old).tide = s.tide := by
  have hstop : ∀ (t : State) l cs, (t.stopLoop l cs).tide = t.tide := fun t l cs => by
    unfold State.stopLoop
    extract_lets x a b c d
    have hb : b.tide = a.tide := foldl_keeps (v := State.tide) (fun t e => by
      extract_lets pg
      split <;> rfl) _ _
    have hc : c.tide = b.tide := by
      unfold c
      split <;> rfl
    have hd : d.tide = c.tide := by
      unfold d
      split <;> rfl
    have hjudge : ∀ t : State, t.judgeLoops.tide = t.tide := fun t => by
      unfold State.judgeLoops
      extract_lets late at_
      refine foldl_keeps (v := State.tide) (fun t k => ?_) _ _
      split
      · split
        · exact State.raise_tide ..
        · rfl
      · exact State.lower_tide ..
    have hall : d.tide = t.tide := hd.trans (hc.trans hb)
    split
    · exact hall
    · exact (hjudge _).trans hall
  exact foldl_keeps (v := State.tide) (fun t l => hstop t l _) _ _


theorem SamePlan.refl (s : State) : SamePlan s s := .of_tide rfl

theorem State.swapDomains_plan (s : State) (old new : Option Plan) : SamePlan s (s.swapDomains old new) := ⟨rfl, rfl, rfl, rfl, rfl, rfl, rfl⟩

theorem State.inner_swapChannels (s : State) (old new : Option Plan) : (s.swapChannels old new).inner = s.inner :=
  State.inner_foldl (fun t k => t.inner_rebindCh k) _ s

/-- What the swap of the plan's bindings does to the tides: it notes which domains drain, and no more. -/
theorem State.swapWork_plan (s : State) (old new : Option Plan) : SamePlan s (s.swapWork old new) := by
  have hinner : ∀ {t u : State}, u.inner = t.inner → SamePlan t u := fun h => .of_tide (congrArg Inner.tide h)
  have hcap : ∀ (t : State) h, (t.capCredits h).tide = t.tide := fun t h =>
    foldl_keeps (v := State.tide) (f := fun (t : State) k => t.putCredit h k (min (t.credit h k) (64 * (t.classBudget h k : Int)))) (fun _ _ => rfl) _ t
  unfold State.swapWork
  extract_lets streams a b c
  have ha : SamePlan s a := by
    refine (hinner (State.inner_foldl (fun t n => State.inner_foldl (fun t k => ?_) _ t) (List.range 16) s)).trans
      (hinner (State.inner_foldl (fun t x => t.inner_swapStream old new x) streams _))
    dsimp only
    split
    · rfl
    · exact t.inner_rebindContext n k
  have hb : SamePlan a b := by
    exact (hinner (a.inner_swapChannels old new)).trans (.trans (.of_tide (State.tide_swapSlots _ new)) (State.swapDomains_plan _ old new))
  have hc : SamePlan b c := .of_tide ((hcap _ 1).trans (hcap b 0))
  refine (ha.trans hb).trans (hc.trans ?_)
  clear_value c
  have hlinks : ((c.judgeLink 0).judgeLink 1).tide = c.tide :=
    congrArg Inner.tide (((c.judgeLink 0).inner_judgeLink 1).trans (c.inner_judgeLink 0))
  have htime : ((c.judgeLink 0).judgeLink 1).judgeTimeUnlocked.tide = c.tide := (State.cond_tide ..).trans hlinks
  exact .of_tide ((State.tide_pumpPower _).trans ((State.tide_loopPlan _ old).trans htime))

theorem State.tide_dropDevArm (s : State) : s.dropDevArm.tide = s.tide := by
  unfold State.dropDevArm
  split <;> rfl

theorem State.tide_setPlanState (s : State) (n : Nat) : (s.setPlanState n).tide = s.tide := by
  unfold State.setPlanState
  split <;> rfl

theorem State.takeStaged_tide (s : State) : s.takeStaged.tide = { s.tide with staged := none, stagedCaptured := false } :=
  (State.tide_setPlanState _ 0).trans (State.tide_dropDevArm _)

/-- A plan that goes live is the one in force; families that it leaves out have begun nothing. -/
theorem State.putPlan_tide (s : State) (new : Option Plan) :
    (s.putPlan new).tide.livePlan = new ∧ (s.putPlan new).tide.staged = s.tide.staged ∧
    (s.putPlan new).tide.stagedCaptured = s.tide.stagedCaptured ∧ (s.putPlan new).tide.begun.length = s.tide.begun.length := by
  unfold State.putPlan
  extract_lets a w b c
  have hstep : ∀ {γ : Type} (v : TideSt → γ), (∀ (t : TideSt) f k, v { t with begun := t.begun.set f k } = v t) →
      (∀ (t : TideSt) m, v { t with famStarted := m } = v t) → v c.tide = v b.tide := fun v hbegun hstarted =>
    foldl_keeps (v := fun t : State => v t.tide) (fun t f => by
      extract_lets on u w
      split
      · rfl
      · exact (hstarted _ _).trans (hbegun ..)) _ b
  exact ⟨hstep (·.livePlan) (fun _ _ _ => rfl) (fun _ _ => rfl), hstep (·.staged) (fun _ _ _ => rfl) (fun _ _ => rfl),
    hstep (·.stagedCaptured) (fun _ _ _ => rfl) (fun _ _ => rfl), hstep (·.begun.length) (fun _ _ _ => List.length_set) (fun _ _ => rfl)⟩

/-- The lowest family's first tide: at most which domains drain changes. -/
theorem State.lowestTide_plan (s : State) (ended : Nat) : SamePlan s (s.lowestTide true ended) := by
  unfold State.lowestTide
  extract_lets a b w c t
  have hc : c.tide = s.tide := by
    unfold c
    split <;> rfl
  split
  · exact .of_tide hc
  · refine SamePlan.trans ?_ (.of_tide (State.tide_pumpPower _))
    exact (SamePlan.of_tide hc).trans ⟨rfl, rfl, rfl, rfl, rfl, rfl, rfl⟩

/-- Settles O13. -/
theorem aStagedPlanGoesLiveAtItsFirstBoundary : Obligations.AStagedPlanGoesLiveAtItsFirstBoundary := by
  intro f s p hstaged hlive hstate hfam hlen
  let d := (((s.now : Int) - p.phase) % p.period).toNat
  let here := p.active.filter fun g => p.lastBoundary g d == p.lastBoundary f d
  let a := s.takeStaged.putPlan (some p)
  let b : State := { a with tide := { a.tide with springStart := (s.now : Int) - d, famStarted := 0 } }
  let c := p.active.foldl (fun (s : State) g => s.putBegun g (p.boundariesBy g d)) b.countSpring
  let e := here.foldl (fun (s : State) g => s.countTide g (p.boundariesBy g d)) c
  let g := ((e.captureGroup p.group).swapGroup p.group (e.get tidePage Tidemark.SPRING_COUNT_COUNT)).dropInactive
  let h := here.foldl (fun (s : State) g => s.announceTide g) (g.swapWork none (some p))
  let i := if p.lastBoundary f d = 0 then h.owe (.pulse 10) else h
  have ht : exec (.planFirstBoundary f) s = .next (if here.head? = i.lowestFamily then i.lowestTide true 0 else i) := by
    rw [exec, execPlanFirstBoundary, hstaged]
    exact congrArg Host.Outcome.next (if_neg (by simp [hlive, hstate, hfam]))
  have hactive : ∀ g ∈ p.active, g < 4 := fun g hg => by
    rw [Plan.active, List.mem_filter] at hg
    exact List.mem_range.mp hg.1
  obtain ⟨a1, a2, a3, a4⟩ := s.takeStaged.putPlan_tide (some p)
  rw [State.takeStaged_tide] at a2 a3 a4
  obtain ⟨htide, -, -⟩ := b.countSpring_effect
  have hc : ∀ {γ : Type} (v : TideSt → γ), (∀ (t : TideSt) f k, v { t with begun := t.begun.set f k } = v t) → v c.tide = v b.countSpring.tide :=
    fun v hv => foldl_keeps (v := fun t : State => v t.tide) (f := fun (s : State) g => s.putBegun g (p.boundariesBy g d)) (fun _ _ => hv ..) _ _
  have hclen : c.tide.begun.length = 4 := by
    rw [hc (·.begun.length) (fun _ _ _ => List.length_set), htide]
    exact a4.trans hlen
  obtain ⟨he, hbegun, -⟩ := State.countTides (fun g => p.boundariesBy g d) (fun g hg => hactive g (List.mem_of_mem_filter hg)) c hclen (l := here)
  have hf : f.val ∈ here := by
    refine List.mem_filter.mpr ⟨List.mem_filter.mpr ⟨List.mem_range.mpr f.isLt, ?_⟩, beq_self_eq_true _⟩
    simpa using hfam
  have hg : SamePlan e g :=
    .of_tide (((State.dropInactive_keeps _).tide).trans ((State.tide_swapGroup ..).trans (State.tide_captureGroup ..)))
  have hh : SamePlan g h := (g.swapWork_plan none (some p)).trans
    (.of_tide (foldl_keeps (v := State.tide) (f := fun (s : State) g => s.announceTide g) (fun t g => (t.announceTide_regs g).2) _ _))
  have hi : SamePlan h i := by
    unfold i
    split
    · exact .of_tide rfl
    · exact .refl h
  have hlast : SamePlan i (if here.head? = i.lowestFamily then i.lowestTide true 0 else i) := by
    split
    · exact i.lowestTide_plan 0
    · exact .refl i
  have hall := hg.trans (hh.trans (hi.trans hlast))
  obtain ⟨hb1, hb2⟩ := hbegun f hf
  refine ⟨_, ht, ?_⟩
  generalize (if here.head? = i.lowestFamily then i.lowestTide true 0 else i) = t at hall
  refine ⟨?_, ?_, ?_, ?_, ?_, ?_, ?_⟩
  · rw [hall.live, he.live, hc (·.livePlan) (fun _ _ _ => rfl), htide]
    exact a1
  · rw [hall.staged, he.staged, hc (·.staged) (fun _ _ _ => rfl), htide]
    exact a2
  · rw [hall.captured, he.captured, hc (·.stagedCaptured) (fun _ _ _ => rfl), htide]
    exact a3
  · rw [hall.started]
    exact hb2
  · rw [hall.ever, he.ever, hc (·.springEver) (fun _ _ _ => rfl), htide]
  · rw [hall.start, he.start, hc (·.springStart) (fun _ _ _ => rfl), htide]
  · rw [hall.begun]
    exact hb1

end Sys2Proof.Machine
/-! Slack windows open; plans take and release the power of their domains (R35, R61, R65, R66). -/

namespace Sys2Proof.Machine

/-! ## A slack window opens (R35) -/

/-- The plan in force and the tides begun stay, and no register of the page of the plan changes but those of every page's header. -/
structure KeepsSlack (s t : State) : Prop where
  live : t.tide.livePlan = s.tide.livePlan
  begun : t.tide.begun = s.tide.begun
  writes : WritesIn (fun k => k / 0x8000 ≠ tidePage ∨ k % 0x8000 < 0x200) s t

theorem KeepsSlack.refl (s : State) : KeepsSlack s s := ⟨rfl, rfl, WritesIn.refl _ s⟩

theorem KeepsSlack.trans {s t u : State} (h : KeepsSlack s t) (k : KeepsSlack t u) : KeepsSlack s u :=
  ⟨k.live.trans h.live, k.begun.trans h.begun, h.writes.trans k.writes⟩

theorem KeepsSlack.of_keeps {s t : State} (h : KeepsTide s t) : KeepsSlack s t := by
  refine ⟨?_, ?_, h.page.mono fun _ hk => Or.inl hk⟩ <;> rw [h.tide]

theorem KeepsSlack.of_same {s t : State} (htide : t.tide = s.tide) (hregs : t.regs = s.regs) : KeepsSlack s t := .of_keeps (.of_same htide hregs)

theorem KeepsSlack.ite {c : Prop} [Decidable c] {s t u : State} (h : KeepsSlack s t) (k : KeepsSlack s u) : KeepsSlack s (if c then t else u) := by
  split
  · exact h
  · exact k

theorem KeepsSlack.foldl {α : Type} {f : State → α → State} (h : ∀ s a, KeepsSlack s (f s a)) (l : List α) (s : State) : KeepsSlack s (l.foldl f s) := by
  induction l generalizing s with
  | nil => exact .refl s
  | cons a l ih => exact (h s a).trans (ih (f s a))

/-- The marks of a capture stand in the page's header. -/
theorem State.capturePage_keeps (s : State) (pg : Nat) : KeepsSlack s (s.capturePage pg) := by
  unfold State.capturePage
  extract_lets shadow x t
  have hkey : ∀ f ∈ [Hdr.COMMIT_PENDING, Hdr.COMMIT_CAPTURED], fieldKey pg f / 0x8000 ≠ tidePage ∨ fieldKey pg f % 0x8000 < 0x200 := by
    intro f hf
    have hplace : f.place < 0x200 := (by decide : ∀ f ∈ [Hdr.COMMIT_PENDING, Hdr.COMMIT_CAPTURED], f.place < 0x200) f hf
    exact Or.inr (by rw [fieldKey_mod (by omega)]; exact hplace)
  exact ⟨rfl, rfl, ((WritesIn.of_regs _ rfl : WritesIn _ s t).put _ (hkey _ (by simp))).put _ (hkey _ (by simp))⟩

theorem State.captureGroup_keeps (s : State) (g : Nat) : KeepsSlack s (s.captureGroup g) := by
  unfold State.captureGroup
  extract_lets t
  have ht : KeepsSlack s t := .foldl (fun t pg => t.capturePage_keeps pg) _ s
  exact ht.trans (.of_keeps ((t.dropArm_keeps g).trans (State.putGrp_keeps _ (by simp) g 1)))

theorem State.judgeArm_keeps (s : State) (g : Nat) : KeepsTide s (s.judgeArm g) := State.putGrp_keeps s (by simp) g _

theorem State.dropDevArm_keeps (s : State) : KeepsTide s s.dropDevArm := by
  unfold State.dropDevArm
  split
  · exact .refl s
  · refine KeepsTide.trans ?_ (State.judgeArm_keeps _ _)
    exact .of_same rfl rfl

theorem State.captureSpring_keeps (s : State) : KeepsSlack s s.captureSpring := by
  unfold State.captureSpring
  extract_lets t
  have ht : KeepsSlack s t := .foldl (fun t g => by
    dsimp only
    split
    · exact .refl t
    · split
      · exact ((t.captureGroup_keeps g).trans (u := { t.captureGroup g with tide := { (t.captureGroup g).tide with stagedCaptured := true } })
          ⟨rfl, rfl, WritesIn.refl _ _⟩).trans (.of_keeps (State.dropDevArm_keeps _))
      · exact t.captureGroup_keeps g) _ s
  clear_value t
  exact ht.trans ⟨rfl, rfl, WritesIn.refl _ _⟩

theorem le_fieldKey_div (pg : Nat) (f : Field) : pg ≤ fieldKey pg f / 0x8000 := by
  unfold fieldKey
  omega

theorem key_above {pg : Nat} (f : Field) (h : tidePage < pg) : fieldKey pg f / 0x8000 ≠ tidePage := by
  have := le_fieldKey_div pg f
  omega

theorem State.judgeLoops_keeps (s : State) : KeepsTide s s.judgeLoops := by
  have hkey : ∀ k, fieldKey (lpPage k) Hdr.FLT_STAT_FAULT / 0x8000 ≠ tidePage := fun k => key_above _ (by simp only [lpPage, Block.page, tidePage]; omega)
  unfold State.judgeLoops
  extract_lets late runner
  refine .foldl_mem (fun k _ t => ?_) s
  split
  · split
    · exact ⟨State.raise_tide .., (WritesIn.refl _ t).raise (hkey k)⟩
    · exact .refl t
  · exact ⟨State.lower_tide .., (WritesIn.refl _ t).lower (hkey k)⟩

theorem State.loopSlack_keeps (s : State) (f n : Nat) : KeepsTide s (s.loopSlack f n) := by
  have hkey : ∀ r : Field, fieldKey loopPage r / 0x8000 ≠ tidePage := fun r => key_above r (by decide)
  unfold State.loopSlack
  extract_lets mine
  refine .trans (.foldl_mem (fun l _ t => ?_) s) (State.judgeLoops_keeps _)
  extract_lets v u
  have hv : KeepsTide t v := by
    unfold v State.countWrap
    refine KeepsTide.put ?_ _ (hkey _)
    exact .of_same rfl rfl
  clear_value v
  have hu : KeepsTide t u := by
    unfold u
    split
    · exact .ite (.refl t) (.ite hv (hv.put 0 (hkey _)))
    · exact .refl t
  refine hu.trans ?_
  clear_value u
  split
  · refine .ite (.refl u) (KeepsTide.put (t := u.modLoop l.stream l.kind _) ?_ _ (hkey _))
    exact .of_same rfl rfl
  · exact .refl u

/-! ## The work of a slack window -/

theorem State.startBist_keeps (s : State) (h : Nat) : KeepsTide s (s.startBist h) := by
  have hkey : ∀ r : Field, fieldKey swPage1 r / 0x8000 ≠ tidePage := fun r => key_above r (by decide)
  unfold State.startBist
  split
  · exact .refl s
  · split
    · exact .refl s
    · extract_lets t
      have ht : KeepsTide s t := .ite (.refl s) (((KeepsTide.refl s).put _ (hkey _)).put _ (hkey _))
      clear_value t
      exact ht.trans (.of_same rfl rfl)

theorem State.march_keeps (s : State) (h corr : Nat) (bad : Bool) : KeepsTide s (s.march h corr bad) := by
  have hkey : ∀ r : Field, fieldKey swPage1 r / 0x8000 ≠ tidePage := fun r => key_above r (by decide)
  unfold State.march
  split
  · exact .refl s
  · extract_lets t u w v
    have hu : KeepsTide s u := ((KeepsTide.refl s).put _ (hkey _)).put _ (hkey _)
    clear_value u
    have hv : KeepsTide s v := .ite (hu.put _ (hkey _)) hu
    exact .ite (hv.trans (.of_same rfl rfl)) hv

theorem State.stepAvs_keeps (s : State) : KeepsTide s s.stepAvs := by
  have hsend : ∀ mv, KeepsTide s (s.sendAvs mv) := fun _ => .of_same rfl rfl
  exact .ite (.refl s) (.ite (hsend _) (.ite (hsend _) (.refl s)))

theorem State.slackWork_keeps (s : State) (corr : Nat × Nat) (bad : Bool × Bool) : KeepsTide s (s.slackWork corr bad) :=
  ((s.startBist_keeps 0).trans (State.startBist_keeps _ 1)).trans
    (((State.march_keeps _ 0 corr.1 bad.1).trans (State.march_keeps _ 1 corr.2 bad.2)).trans (State.stepAvs_keeps _))

/-- Settles O14. -/
theorem slackWindowsOpen : Obligations.SlackWindowsOpen := by
  intro f corr bad s p hlive hfam hslack hruns
  let a := s.put tidePage (Tidemark.FAM_PHASE_IN_SLACK.nth f) 1
  let b := ((List.range 64).filter fun g => a.grpFamily g == f && a.capturesNow g).foldl (fun (s : State) g => s.captureGroup g) a
  let c := if s.springOpens p f then b.captureSpring else b
  let d := ((c.loopSlack f (c.famTide f)).owe (.pulse (6 + f))).triggerFamily 2 f
  have ht : exec (.slackOpen f corr bad) s = .next (if d.lowestFamily = some f.val then d.slackWork (corr.1.val, corr.2.val) bad else d) := by
    rw [exec, execSlackOpen, hlive]
    have hno : ¬ ((p.family f).n = 0 ∨ s.inSlack f = true) := by
      rw [hslack]
      simpa using hfam
    simp only [if_neg hno, hruns, if_true, Bool.not_true, Bool.false_eq_true, if_false]
    rfl
  have hb : KeepsSlack a b := .foldl (fun t g => t.captureGroup_keeps g) _ a
  have hc : KeepsSlack b c := .ite b.captureSpring_keeps (.refl b)
  have hd : KeepsSlack c d := .of_keeps <| (c.loopSlack_keeps f _).trans (.of_same (State.oweTriggers_regs _ 2 _).2.1 (State.oweTriggers_regs _ 2 _).1)
  have hlast : KeepsSlack d (if d.lowestFamily = some f.val then d.slackWork (corr.1.val, corr.2.val) bad else d) :=
    .ite (.of_keeps (d.slackWork_keeps _ bad)) (.refl d)
  have hall := (hb.trans hc).trans (hd.trans hlast)
  refine ⟨_, ht, ?_, hall.live.trans hlive, hall.begun, .of_exec ht (by rw [exec]; exact answers_slackOpen (Quiet.refl s))⟩
  have hplace : ∀ f : Fin 4, fieldKey tidePage (Tidemark.FAM_PHASE_IN_SLACK.nth f) / 0x8000 = tidePage ∧
      ¬ fieldKey tidePage (Tidemark.FAM_PHASE_IN_SLACK.nth f) % 0x8000 < 0x200 := by decide
  obtain ⟨h1, h2⟩ := hplace f
  exact (hall.writes.flag (not_or.mpr ⟨not_not_intro h1, h2⟩)).trans (State.flag_put_one ..)

end Sys2Proof.Machine

namespace Sys2Proof.Machine

/-! ## A plan is staged (R61, R65) -/

/-- The plan's fields on the page of the plan. -/
def planTideKeys : List Nat := [Tidemark.SPRING_PERIOD_NS, Tidemark.SPRING_PHASE_NS, Tidemark.FAM_N_N.nth 0, Tidemark.FAM_SLACK_NS.nth 0,
  Tidemark.FAM_N_N.nth 1, Tidemark.FAM_SLACK_NS.nth 1, Tidemark.FAM_N_N.nth 2, Tidemark.FAM_SLACK_NS.nth 2, Tidemark.FAM_N_N.nth 3,
  Tidemark.FAM_SLACK_NS.nth 3].map (fieldKey tidePage)

theorem planField_above {pg : Nat} (f : Field) (v : Nat) (h : tidePage < pg) : (planField pg f v).1 / 0x8000 ≠ tidePage := key_above f h

/-- A place that a plan owns is one of the ten on the page of the plan, or lies on a page of a stream, a Harbour, a Drift channel or a Cove. -/
theorem Plan.fields_places (p : Plan) : ∀ e ∈ p.fields, e.1 / 0x8000 ≠ tidePage ∨ e.1 ∈ planTideKeys := by
  intro e he
  have hpage : ∀ n, tidePage < 0x160 + n ∧ tidePage < 0x1000 + n := fun n => by
    simp only [tidePage]
    omega
  have hblock : ∀ n k, tidePage < Block.page .harbour n k ∧ tidePage < Block.page .cove n k := fun n k => by
    simp only [Block.page, tidePage]
    omega
  have hharbour : ∀ h, e ∈ p.harbourFields h → e.1 / 0x8000 ≠ tidePage := fun h he => by
    simp only [Plan.harbourFields, List.mem_append, List.mem_map, List.mem_cons, List.mem_flatten, List.not_mem_nil, or_false] at he
    rcases he with (⟨k, -, rfl⟩ | rfl | rfl) | ⟨l, ⟨⟨n, first, count⟩, -, rfl⟩, he⟩
    · exact planField_above _ _ (hblock ..).1
    · exact planField_above _ _ (hblock ..).1
    · exact planField_above _ _ (hblock ..).1
    · simp only [List.mem_cons, List.not_mem_nil, or_false] at he
      rcases he with rfl | rfl
      · exact planField_above _ _ (hblock ..).1
      · exact planField_above _ _ (hblock ..).1
  simp only [Plan.fields, List.mem_append, List.mem_flatten, List.mem_map] at he
  rcases he with ((((he | ⟨l, ⟨x, -, rfl⟩, he⟩) | he) | he) | he) | ⟨l, ⟨n, -, rfl⟩, he⟩
  · have hmem : e.1 ∈ p.tideFields.map (·.1) := List.mem_map_of_mem he
    exact Or.inr hmem
  · refine Or.inl ?_
    have hkeys : ∀ k ∈ x.fields.map (·.1), k / 0x8000 ≠ tidePage := by
      simp only [PlanStream.fields, List.map_cons, List.map_nil, List.forall_mem_cons, planField_above _ _ (hpage _).1, ne_eq, not_false_eq_true,
        true_and]
      exact fun _ h => nomatch h
    exact hkeys _ (List.mem_map_of_mem he)
  · exact Or.inl (hharbour 0 he)
  · exact Or.inl (hharbour 1 he)
  · refine Or.inl ?_
    simp only [Plan.driftFields, List.mem_flatten, List.mem_map] at he
    obtain ⟨l, ⟨⟨j, o⟩, -, rfl⟩, he⟩ := he
    dsimp only at he
    split at he
    · cases he
    · obtain ⟨l, hl, he⟩ := List.mem_flatten.mp he
      obtain ⟨⟨c, role, mirror⟩, -, rfl⟩ := List.mem_map.mp hl
      simp only [List.mem_cons, List.not_mem_nil, or_false] at he
      rcases he with rfl | rfl | rfl | rfl | rfl | rfl | rfl <;> exact planField_above _ _ (hpage _).2
  · refine Or.inl ?_
    rw [Plan.coveFields, List.mem_singleton] at he
    subst he
    exact planField_above _ _ (hblock ..).2

/-- Where a plan is loaded, the places of the page of the plan that it does not own stay. -/
theorem State.loadPlan_get (s : State) (p : Option Plan) {k : Nat} (hk : k / 0x8000 = tidePage) (hown : isPlanKey false k = false) (hnot : k ∉ planTideKeys) :
    SMap.get resetField (s.loadPlan false p).regs k = SMap.get resetField s.regs k := by
  have hvalues : ∀ e ∈ (p.map Plan.fields).getD [], e.1 ≠ k := fun e he => by
    cases p with
    | none => cases he
    | some p =>
      rintro rfl
      exact (p.fields_places e he).elim (fun h => h hk) hnot
  have hfold : ∀ (l : List (Nat × Nat)) (m : SMap Nat), (∀ e ∈ l, e.1 ≠ k) →
      SMap.get resetField (l.foldl (fun m (k, v) => SMap.set resetField m (if false then k + 0x4000 else k) v) m) k = SMap.get resetField m k := by
    intro l
    induction l with
    | nil => exact fun _ _ => rfl
    | cons e l ih =>
      intro m hl
      rw [List.foldl_cons, ih _ fun e' he' => hl e' (.tail _ he')]
      exact SMap.get_set_other _ _ _ (hl e (.head _))
  have hkept := SMap.get_filter_kept resetField s.regs (p := fun k => !isPlanKey false k) (k := k) (by rw [hown]; rfl)
  exact (hfold _ _ hvalues).trans hkept

theorem State.planState_set (s : State) (n : Nat) (h : n < 16) : (s.setPlanState n).planState = n := by
  unfold State.setPlanState
  split
  · assumption
  · exact (State.get_put_same ..).trans (Nat.mod_eq_of_lt h)

theorem State.planStaged_taken (s : State) (p : Plan) (hstaged : s.tide.staged = some p) (hstate : s.planState = 2)
    (hpower : (closure s.x16 (p.domains s.x16)).all s.powered = true) (hmissed : s.springMissed p = false) :
    Completes .planStaged s fun t =>
      t.planState = 3 ∧ t.commit.devArm = some p.group ∧ t.tide.staged = some p ∧ t.tide.ended = some (0, 0, 0) ∧
      t.tide.livePlan = s.tide.livePlan ∧ SameMemory s t := by
  let a := s.loadPlan false (some p)
  let b : State := { a with commit := { a.commit with devArm := some p.group }, tide := { a.tide with ended := some (0, 0, 0) } }
  have ht : exec .planStaged s = .next ((b.judgeArm p.group).setPlanState 3) := by
    rw [exec, execPlanStaged, hstaged]
    simp only [hstate, hpower, hmissed, ne_eq, not_true, Bool.not_true, Bool.false_eq_true, or_self, if_false]
    rfl
  have hcommit : ((b.judgeArm p.group).setPlanState 3).commit = b.commit := by
    unfold State.setPlanState
    split <;> rfl
  have htide : ((b.judgeArm p.group).setPlanState 3).tide = b.tide := State.tide_setPlanState _ 3
  refine ⟨_, ht, State.planState_set _ 3 (by decide), ?_, ?_, ?_, ?_, .of_exec ht (by rw [exec]; exact answers_planStaged (Quiet.refl s))⟩
  · rw [hcommit]
  · rw [htide]
    exact hstaged
  · rw [htide]
  · rw [htide]
    rfl

/-- Where a submission ends nothing is staged and nothing under check; what was reported of it stays. -/
theorem State.endSubmission_effect (s : State) (result : Nat × Nat × Nat) :
    (s.endSubmission result).tide = { s.tide with staged := none, stagedCaptured := false, checking := none, ended := some result } ∧
    (s.endSubmission result).get tidePage Tidemark.PLAN_REFUSE_CODE = s.get tidePage Tidemark.PLAN_REFUSE_CODE := by
  unfold State.endSubmission
  extract_lets a x b
  have ha : a.tide = s.tide := State.tide_dropDevArm _
  have hb : (b.setPlanState 0).pumpPower.tide = b.tide := (State.tide_pumpPower _).trans (State.tide_setPlanState b 0)
  refine ⟨?_, ?_⟩
  · rw [hb]
    simp only [b, x, ha]
    rfl
  · have hload : (s.loadPlan false s.tide.livePlan).get tidePage Tidemark.PLAN_REFUSE_CODE = s.get tidePage Tidemark.PLAN_REFUSE_CODE :=
      s.loadPlan_get s.tide.livePlan (k := fieldKey tidePage Tidemark.PLAN_REFUSE_CODE) (by decide) (by decide +kernel) (by decide)
    have hpower : (b.setPlanState 0).pumpPower.get tidePage Tidemark.PLAN_REFUSE_CODE = (b.setPlanState 0).get tidePage Tidemark.PLAN_REFUSE_CODE :=
      State.get_of_spine (b.setPlanState 0).spine_pumpPower (by decide) (by decide)
    have hstate : (b.setPlanState 0).get tidePage Tidemark.PLAN_REFUSE_CODE = a.get tidePage Tidemark.PLAN_REFUSE_CODE := by
      unfold State.setPlanState
      split
      · rfl
      · exact (State.get_put_other b 0 (by decide : fieldKey tidePage Tidemark.PLAN_STATE_STATE ≠ fieldKey tidePage Tidemark.PLAN_REFUSE_CODE))
    exact hpower.trans (hstate.trans (((State.dropDevArm_keeps _).get (by decide)).trans hload))

theorem State.planStaged_missed (s : State) (p : Plan) (hstaged : s.tide.staged = some p) (hstate : s.planState = 2)
    (hpower : (closure s.x16 (p.domains s.x16)).all s.powered = true) (hmissed : s.springMissed p = true) :
    Completes .planStaged s fun t =>
      t.tide.staged = none ∧ t.get tidePage Tidemark.PLAN_REFUSE_CODE = 0x31 ∧ t.tide.checking = none ∧ t.tide.livePlan = s.tide.livePlan := by
  let r : Refuse := ⟨0x0031, 0, p.applySpring, s.get tidePage Tidemark.SPRING_COUNT_COUNT⟩
  have ht : exec .planStaged s = .next (s.refusePlan r) := by
    rw [exec, execPlanStaged, hstaged]
    simp only [hstate, hpower, hmissed, ne_eq, not_true, Bool.not_true, Bool.false_eq_true, or_self, if_false, if_true]
    rfl
  obtain ⟨htide, hcode⟩ := (s.reportPlan r).endSubmission_effect (8, r.word, r.demand)
  refine ⟨_, ht, ?_⟩
  change (s.refusePlan r).tide = _ at htide
  change (s.refusePlan r).get _ _ = _ at hcode
  refine ⟨?_, ?_, ?_, ?_⟩
  · rw [htide]
  · rw [hcode]
    exact (State.get_put_other _ _ (by decide)).trans ((State.get_put_other _ _ (by decide)).trans (State.get_put_same ..))
  · rw [htide]
  · rw [htide]
    rfl

/-- Settles O15. -/
theorem plansTakeAndReleaseTheirPower : Obligations.PlansTakeAndReleaseTheirPower := by
  refine ⟨State.planStaged_taken, State.planStaged_missed, fun d s hd hempty hlive => ?_, fun d s hd hempty hlive => ?_⟩
  · let u : State := { s with tide := { s.tide with drained := d.val :: s.tide.drained.filter (· != d.val) } }
    have ht : exec (.domainDrained d) s = .next u := by
      rw [exec, execDomainDrained]
      simp only [hd, hempty, hlive, Bool.not_true, Bool.or_self, Bool.false_eq_true, if_false, if_true]
      rfl
    exact ⟨u, ht, by simp [u], rfl, rfl, rfl, fun _ _ => rfl, rfl, rfl⟩
  · let u : State := { s with tide := { s.tide with draining := s.tide.draining.filter (· != d.val), drained := s.tide.drained.filter (· != d.val) } }
    have ht : exec (.domainDrained d) s = .next u.pumpPower := by
      rw [exec, execDomainDrained]
      simp only [hd, hempty, hlive, Bool.not_true, Bool.or_self, Bool.false_eq_true, if_false]
      rfl
    have htide := u.tide_pumpPower
    exact ⟨_, ht, by rw [htide], by rw [htide]⟩

end Sys2Proof.Machine
end

section
/-! PROOFS. MACs and the bridge: frames received, stamped, forwarded and sent; the forwarding table, the gates and the link (R406 to R413, R424, R425). -/

namespace Sys2Proof.Machine

/-! ## Stamps read the time domains alone -/

/-- What the two counters of frames hold is no rate, number or selection of a time domain. -/
theorem frameCount_off_domains (m : Fin 2) {f : Field} (hf : f ∈ [Mac.FRAMES_RX_COUNT, Mac.FRAMES_TX_COUNT]) :
    (∀ x, fieldKey (macPage m 2) f ≠ fieldKey tmPage (Tidemark.RATE_RATE.nth x)) ∧
    (∀ x, fieldKey (macPage m 2) f ≠ fieldKey tmPage (Tidemark.DOM_CFG_NUMBER.nth x)) ∧
    fieldKey (macPage m 2) f ≠ fieldKey tmPage Tidemark.TM_SEL_ACTIVE ∧ fieldKey (macPage m 2) f ≠ fieldKey tmPage Tidemark.TM_SEL_ADOPTED := by
  simp only [List.mem_cons, List.not_mem_nil, or_false] at hf
  have hm := m.isLt
  rcases hf with rfl | rfl <;>
    · simp only [fieldKey, macPage, Block.page, tmPage, Field.nth, Mac.FRAMES_RX_COUNT, Mac.FRAMES_TX_COUNT, Tidemark.RATE_RATE,
        Tidemark.DOM_CFG_NUMBER, Tidemark.TM_SEL_ACTIVE, Tidemark.TM_SEL_ADOPTED]
      refine ⟨fun x => ?_, fun x => ?_, ?_, ?_⟩ <;> omega

section
variable (s : State) (m : Fin 2) {f : Field} (v : Nat)

/-- Rates, and the domain that a frame names, are as before where a frame is counted. -/
theorem State.domains_put_frameCount (hf : f ∈ [Mac.FRAMES_RX_COUNT, Mac.FRAMES_TX_COUNT]) :
    (∀ x, (s.put (macPage m 2) f v).rate x = s.rate x) ∧ (∀ d, (s.put (macPage m 2) f v).matchDomain d = s.matchDomain d) ∧
    ∀ c, (s.put (macPage m 2) f v).activeTime c = s.activeTime c := by
  obtain ⟨h1, h2, h3, h4⟩ := frameCount_off_domains m hf
  have hrate : ∀ x, (s.put (macPage m 2) f v).rate x = s.rate x := fun x => by
    rw [State.rate, State.get_put_other _ _ (h1 x), State.rate]
  have htime : ∀ x c, (s.put (macPage m 2) f v).domainTime x c = s.domainTime x c := fun x c => by
    rw [State.domainTime, hrate, State.put_time, State.domainTime]
  refine ⟨hrate, fun d => ?_, fun c => ?_⟩
  · simp only [State.matchDomain, State.get_put_other _ _ (h2 _)]
  · have hactive : (s.put (macPage m 2) f v).activeDomain = s.activeDomain := State.get_put_other _ _ h3
    rw [State.activeTime, State.flag_put_other _ _ h4, htime, hactive, State.put_time, State.activeTime]

theorem State.stampOf_put_frameCount (hf : f ∈ [Mac.FRAMES_RX_COUNT, Mac.FRAMES_TX_COUNT]) (b : List Byte) (c : Nat) :
    (s.put (macPage m 2) f v).stampOf b c = s.stampOf b c := by
  obtain ⟨h1, h2, h3⟩ := s.domains_put_frameCount m v hf
  have htime : ∀ x c, (s.put (macPage m 2) f v).domainTime x c = s.domainTime x c := fun x c => by
    rw [State.domainTime, h1, State.put_time, State.domainTime]
  simp only [State.stampOf, h2, h3, htime]

end

/-! ## What the bridge does with a frame -/

/-- The places that the bridge writes when a frame enters it. -/
def ingressPlaces : List Nat := [fieldKey (macPage 0 2) Mac.QDROP_COUNT, fieldKey (macPage 1 2) Mac.QDROP_COUNT,
  fieldKey (bridgePage 0) Bridge.FDB_CNT_LEARN_FULL, fieldKey (bridgePage 0) Hdr.EVT_STAT_EVENT,
  fieldKey (bridgePage 1) Bridge.MG_RX_STAT_FRAMES, fieldKey (bridgePage 1) Bridge.MG_RX_STAT_MG_OVF, fieldKey (bridgePage 1) Hdr.EVT_STAT_EVENT]

/-- What the bridge leaves alone: faults, what goes out, stamps, and the registers outside its places. -/
structure Bridged (s t : State) : Prop where
  out : t.out = s.out
  faults : SameFaults s t
  stamps : ∀ m, (t.mac m).rxStamps = (s.mac m).rxStamps ∧ (t.mac m).txStamps = (s.mac m).txStamps
  writes : WritesIn (· ∈ ingressPlaces) s t

theorem Bridged.refl (s : State) : Bridged s s := ⟨rfl, .refl s, fun _ => ⟨rfl, rfl⟩, WritesIn.refl _ s⟩

theorem Bridged.trans {s t u : State} (h : Bridged s t) (k : Bridged t u) : Bridged s u :=
  ⟨k.out.trans h.out, h.faults.trans k.faults, fun m => ⟨(k.stamps m).1.trans (h.stamps m).1, (k.stamps m).2.trans (h.stamps m).2⟩,
    h.writes.trans k.writes⟩

theorem Bridged.ite {c : Prop} [Decidable c] {s t u : State} (h : Bridged s t) (k : Bridged s u) : Bridged s (if c then t else u) := by
  split
  · exact h
  · exact k

theorem Bridged.macUp {s t : State} (h : Bridged s t) (m : Fin 2) : t.macUp m = s.macUp m := by
  have hkeys : ∀ m : Fin 2, fieldKey (macPage m 0) Hdr.CTRL_EN ∉ ingressPlaces ∧ fieldKey (macPage m 0) Mac.MAC_STAT_LINK ∉ ingressPlaces := by decide
  rw [State.macUp, h.writes.flag (hkeys m).1, h.writes.flag (hkeys m).2, State.macUp]

theorem State.mac_putMac_same (s : State) (m : Nat) (x : MacSt) : (s.putMac m x).mac m = x := SMap.get_set_same ..

theorem State.mac_putMac_other (s : State) {m n : Nat} (x : MacSt) (h : m ≠ n) : (s.putMac m x).mac n = s.mac n := SMap.get_set_other _ _ _ h

theorem State.enqueue_effect (s : State) (m : Fin 2) (cls : Nat) (f : EthFrame) :
    Bridged s (s.enqueue m cls f) ∧ (s.enqueue m cls f).bridge = s.bridge ∧ (∀ n, m.val ≠ n → (s.enqueue m cls f).mac n = s.mac n) ∧
    (s.macUp m = true → (((s.mac m).queues.getD cls []).map (fun e => e.bytes.length)).sum + f.bytes.length ≤ 65536 →
      ((s.enqueue m cls f).mac m).queues = (s.mac m).queues.set cls ((s.mac m).queues.getD cls [] ++ [f])) := by
  unfold State.enqueue
  extract_lets x q
  split
  · next hroom =>
    have hstamps : ∀ n, ((s.putMac m { x with queues := x.queues.set cls (q ++ [f]) }).mac n).rxStamps = (s.mac n).rxStamps ∧
        ((s.putMac m { x with queues := x.queues.set cls (q ++ [f]) }).mac n).txStamps = (s.mac n).txStamps := fun n => by
      by_cases hn : m.val = n
      · subst hn
        rw [State.mac_putMac_same]
        exact ⟨rfl, rfl⟩
      · rw [State.mac_putMac_other _ _ hn]
        exact ⟨rfl, rfl⟩
    exact ⟨⟨rfl, .refl s, hstamps, .of_regs _ rfl⟩, rfl, fun n hn => State.mac_putMac_other _ _ hn, fun _ _ => by rw [State.mac_putMac_same]⟩
  · next hfull =>
    have hkey : ∀ m : Fin 2, fieldKey (macPage m 2) Mac.QDROP_COUNT ∈ ingressPlaces := by decide
    exact ⟨⟨rfl, .refl s, fun _ => ⟨rfl, rfl⟩, (WritesIn.refl _ s).countSat (hkey m)⟩, rfl, fun _ _ => rfl, fun hup hfit =>
      absurd (Bool.and_eq_true_iff.mpr ⟨hup, decide_eq_true hfit⟩) hfull⟩

theorem State.toManagement_effect (s : State) (port : Nat) (b : List Byte) :
    Bridged s (s.toManagement port b) ∧ (s.toManagement port b).macs = s.macs ∧ (s.toManagement port b).bridge.fdb = s.bridge.fdb ∧
    ((s.bridge.mgRx.map (fun e => e.2.length)).sum + b.length ≤ 16384 → b.length + 4 ≤ 1522 →
      (s.toManagement port b).bridge.mgRx = s.bridge.mgRx ++ [(port, b)]) := by
  unfold State.toManagement
  extract_lets q x t
  split
  · next hroom =>
    have hw : WritesIn (· ∈ ingressPlaces) s (t.put (bridgePage 1) Bridge.MG_RX_STAT_FRAMES (min 255 (q.length + 1))) :=
      (WritesIn.of_regs _ rfl : WritesIn _ s t).put _ (by decide)
    refine ⟨⟨?_, ?_, fun m => ?_, hw.eventIf (by decide)⟩, ?_, ?_, fun _ _ => ?_⟩
    · exact State.eventIf_out ..
    · exact SameFaults.eventIf ⟨rfl, rfl⟩
    · unfold State.eventIf
      split <;> exact ⟨rfl, rfl⟩
    · exact State.eventIf_macs ..
    · exact (congrArg BridgeSt.fdb (State.eventIf_bridge ..)).trans rfl
    · exact (congrArg BridgeSt.mgRx (State.eventIf_bridge ..)).trans rfl
  · next hfull =>
    exact ⟨⟨rfl, .refl s, fun _ => ⟨rfl, rfl⟩, ((WritesIn.refl _ s).put _ (by decide)).event (by decide)⟩, rfl, rfl, fun h1 h2 => absurd ⟨h1, h2⟩ hfull⟩

theorem State.putFdb_bridged (s : State) (i : Nat) (e : FdbEntry) : Bridged s (s.putFdb i e) :=
  ⟨rfl, .refl s, fun _ => ⟨rfl, rfl⟩, .of_regs _ rfl⟩

theorem State.fdbLearn_effect (s : State) (addr vid port : Nat) :
    Bridged s (s.fdbLearn addr vid port) ∧ (s.fdbLearn addr vid port).macs = s.macs ∧ (s.fdbLearn addr vid port).bridge.mgRx = s.bridge.mgRx := by
  unfold State.fdbLearn
  split
  · split
    · exact ⟨.refl s, rfl, rfl⟩
    · exact ⟨s.putFdb_bridged .., rfl, rfl⟩
  · split
    · exact ⟨s.putFdb_bridged .., rfl, rfl⟩
    · exact ⟨⟨rfl, .refl s, fun _ => ⟨rfl, rfl⟩, ((WritesIn.refl _ s).countSat (by decide)).event (by decide)⟩, rfl, rfl⟩

/-- An entry of a map after a store is that store's or was there. -/
theorem SMap.mem_of_mem_set {α : Type} [DecidableEq α] {d : Nat → α} {m : SMap α} {k : Nat} {v : α} {e : Nat × α} (h : e ∈ SMap.set d m k v) :
    e = (k, v) ∨ e ∈ m := by
  simp only [SMap.set] at h
  split at h
  · exact Or.inr (List.mem_of_mem_filter h)
  · exact ((SMap.mem_insert ..).mp h).imp id List.mem_of_mem_filter

theorem SMap.get_mem {α : Type} {d : Nat → α} {m : SMap α} {k : Nat} : (k, SMap.get d m k) ∈ m ∨ SMap.get d m k = d k := by
  induction m with
  | nil => exact Or.inr rfl
  | cons e r ih =>
    obtain ⟨k', v⟩ := e
    by_cases h : k' = k
    · exact Or.inl (by rw [SMap.get, if_pos h, h]; exact .head _)
    · rw [SMap.get, if_neg h]
      exact ih.imp (List.mem_cons_of_mem _) id

/-- No entry of the table matches the address and VLAN. -/
theorem State.fdbFind_none {s : State} {addr vid : Nat} :
    s.fdbFind addr vid = none ↔ ∀ e ∈ s.bridge.fdb, (e.2.valid && e.2.addr == addr && e.2.vid == vid) = false := by
  simp only [State.fdbFind, Option.map_eq_none_iff, List.find?_eq_none, Bool.not_eq_true]

/-- What is learned of one address leaves another unknown. -/
theorem State.fdbFind_fdbLearn {s : State} {addr vid : Nat} (h : s.fdbFind addr vid = none) {sa vid' port : Nat} (hne : sa ≠ addr) :
    (s.fdbLearn sa vid' port).fdbFind addr vid = none := by
  have hput : ∀ i e, (e.valid && e.addr == addr && e.vid == vid) = false → (s.putFdb i e).fdbFind addr vid = none := fun i e he => by
    rw [State.fdbFind_none] at h ⊢
    intro x hx
    have hset : x ∈ SMap.set (fun _ => {}) s.bridge.fdb i e := hx
    rcases SMap.mem_of_mem_set hset with rfl | hx
    · exact he
    · exact h x hx
  unfold State.fdbLearn
  split
  · next i _ =>
    split
    · exact h
    · refine hput _ _ ?_
      rcases SMap.get_mem (d := fun _ => {}) (m := s.bridge.fdb) (k := i) with hi | hi
      · exact State.fdbFind_none.mp h _ hi
      · have : s.fdbEntry i = {} := hi
        rw [this]
        rfl
  · split
    · exact hput _ _ (by simp [hne])
    · exact h

theorem State.toPorts_effect (s : State) {mask : Nat} (ingress : Nat) (f : EthFrame) (cls : Nat) :
    Bridged s (s.toPorts mask ingress f cls) := by
  unfold State.toPorts
  extract_lets t u
  have ht : Bridged s t := .ite (s.enqueue_effect 0 cls f).1 (.refl s)
  have hu : Bridged t u := .ite (t.enqueue_effect 1 cls f).1 (.refl t)
  exact (ht.trans hu).trans (.ite (u.toManagement_effect ingress f.bytes).1 (.refl u))

theorem State.bridgeIngress_keeps (s : State) (m : Nat) (f : EthFrame) : Bridged s (s.bridgeIngress m f) := by
  unfold State.bridgeIngress
  extract_lets da sa vid cls t
  have ht : Bridged s t := (s.fdbLearn_effect sa vid m).1
  split
  · exact ht.trans (t.toManagement_effect m f.bytes).1
  · split
    · exact ht.trans (State.toPorts_effect ..)
    · split
      · exact ht.trans (.trans (t.putFdb_bridged _ _) (State.toPorts_effect ..))
      · exact ht.trans (State.toPorts_effect ..)

theorem State.enqueue_queues {s : State} {m : Fin 2} {cls : Nat} {f : EthFrame} (hup : s.macUp m = true) {q : List EthFrame}
    (hq : q = (s.mac m).queues.getD cls []) (hroom : (q.map (fun e => e.bytes.length)).sum + f.bytes.length ≤ 65536) :
    ((s.enqueue m cls f).mac m).queues = (s.mac m).queues.set cls (q ++ [f]) := by
  subst hq
  exact (s.enqueue_effect m cls f).2.2.2 hup hroom

/-- A frame for one port joins that port's queue. -/
theorem State.toPorts_queues {s : State} {mask ingress cls : Nat} {f : EthFrame} {n : Fin 2} (hn : hasBit mask n = true) (hother : hasBit mask (1 - n) = false)
    (hup : s.macUp n = true) {q : List EthFrame} (hq : q = (s.mac n).queues.getD cls [])
    (hroom : (q.map (fun e => e.bytes.length)).sum + f.bytes.length ≤ 65536) :
    ((s.toPorts mask ingress f cls).mac n).queues = (s.mac n).queues.set cls (q ++ [f]) := by
  have hlast : ∀ u : State, ((if hasBit mask 2 then u.toManagement ingress f.bytes else u).mac n).queues = (u.mac n).queues := fun u => by
    split
    · rw [State.mac, (u.toManagement_effect ingress f.bytes).2.1, State.mac]
    · rfl
  have hqueue := State.enqueue_queues hup hq hroom
  unfold State.toPorts
  extract_lets t u
  rw [hlast]
  fin_cases n
  · have hu : u = t := if_neg (by simpa using hother)
    have ht : t = s.enqueue 0 cls f := if_pos hn
    rw [hu, ht]
    exact hqueue
  · have ht : t = s := if_neg (by simpa using hother)
    have hu : u = s.enqueue 1 cls f := (if_pos hn).trans (by rw [ht])
    rw [hu]
    exact hqueue

/-- A frame for management joins its queue. -/
theorem State.toPorts_management {s : State} {mask ingress cls : Nat} {f : EthFrame} (hmask : hasBit mask 2 = true)
    (hroom : (s.bridge.mgRx.map (fun e => e.2.length)).sum + f.bytes.length ≤ 16384) (hlen : f.bytes.length + 4 ≤ 1522) :
    (s.toPorts mask ingress f cls).bridge.mgRx = s.bridge.mgRx ++ [(ingress, f.bytes)] := by
  unfold State.toPorts
  extract_lets t u
  have ht : t.bridge = s.bridge := by
    unfold t
    split
    · exact (s.enqueue_effect 0 cls f).2.1
    · rfl
  have hu : u.bridge = s.bridge := by
    unfold u
    split
    · exact ((t.enqueue_effect 1 cls f).2.1).trans ht
    · exact ht
  rw [if_pos hmask, (u.toManagement_effect ingress f.bytes).2.2.2 (by rw [hu]; exact hroom) hlen, hu]

/-- The two reserved kinds of address and broadcast reach management. -/
theorem State.bridgeIngress_management {s : State} {m : Fin 2} {f : EthFrame} {da : Nat} (hda : da = ofBytesBE (sliceBytes f.bytes 0 6))
    (hroom : (s.bridge.mgRx.map (fun e => e.2.length)).sum + f.bytes.length ≤ 16384) (hlen : f.bytes.length + 4 ≤ 1522)
    (hto : da / 16 = 0x0180C200000 ∨ da = s.macAddr m ∨ da = 0xFFFFFFFFFFFF) :
    (s.bridgeIngress m f).bridge.mgRx = s.bridge.mgRx ++ [(m.val, f.bytes)] := by
  subst hda
  unfold State.bridgeIngress
  extract_lets da sa vid cls t
  obtain ⟨hb, -, hmg⟩ := s.fdbLearn_effect sa vid m
  have haddr : ∀ m : Fin 2, fieldKey (macPage m 0) Mac.MAC_ADDR_LO_ADDR ∉ ingressPlaces ∧ fieldKey (macPage m 0) Mac.MAC_ADDR_HI_ADDR ∉ ingressPlaces := by
    decide
  have hmac : t.macAddr m = s.macAddr m := by
    rw [State.macAddr, hb.writes.get (haddr m).1, hb.writes.get (haddr m).2, State.macAddr]
  have hroom' : (t.bridge.mgRx.map (fun e => e.2.length)).sum + f.bytes.length ≤ 16384 := by
    rw [hmg]
    exact hroom
  rw [hmac]
  change t.bridge.mgRx = _ at hmg
  by_cases hthis : da / 16 = 0x0180C200000 ∨ da = s.macAddr m
  · rw [if_pos hthis, (t.toManagement_effect m f.bytes).2.2.2 hroom' hlen, hmg]
  · have hbroad : da = 0xFFFFFFFFFFFF := (or_assoc.mpr hto).resolve_left hthis
    rw [if_neg hthis, if_pos hbroad, State.toPorts_management (by rw [hasBit_setBit]; simp) hroom' hlen, hmg]

/-- Broadcast, and an address that the table lacks, reach the other port. -/
theorem State.bridgeIngress_queues {s : State} {m : Fin 2} {f : EthFrame} {da cls : Nat} (hda : da = ofBytesBE (sliceBytes f.bytes 0 6))
    (hcls : cls = frameClass f.bytes (s.get (macPage m 0) Mac.PORT_PCP_PCP)) (hup : s.macUp (1 - m.val) = true)
    (hreserved : da / 16 ≠ 0x0180C200000) (hmine : da ≠ s.macAddr m)
    (hto : da = 0xFFFFFFFFFFFF ∨ (s.fdbFind da (frameVid f.bytes) = none ∧ ofBytesBE (sliceBytes f.bytes 6 6) ≠ da)) {q : List EthFrame}
    (hq : q = (s.mac (1 - m.val)).queues.getD cls []) (hroom : (q.map (fun e => e.bytes.length)).sum + f.bytes.length ≤ 65536) :
    ((s.bridgeIngress m f).mac (1 - m.val)).queues = (s.mac (1 - m.val)).queues.set cls (q ++ [f]) := by
  subst hda hcls
  unfold State.bridgeIngress
  extract_lets da sa vid cls t
  obtain ⟨hb, hmacs, -⟩ := s.fdbLearn_effect sa vid m
  have haddr : ∀ m : Fin 2, fieldKey (macPage m 0) Mac.MAC_ADDR_LO_ADDR ∉ ingressPlaces ∧ fieldKey (macPage m 0) Mac.MAC_ADDR_HI_ADDR ∉ ingressPlaces := by
    decide
  have hmac : t.macAddr m = s.macAddr m := by
    rw [State.macAddr, hb.writes.get (haddr m).1, hb.writes.get (haddr m).2, State.macAddr]
  obtain ⟨n, hn⟩ : ∃ n : Fin 2, n.val = 1 - m.val := ⟨⟨1 - m.val, by omega⟩, rfl⟩
  have hnm : 1 - n.val = m.val := by omega
  rw [← hn] at hup hq ⊢
  change t.macs = s.macs at hmacs
  have hsame : t.mac n = s.mac n := by rw [State.mac, hmacs, State.mac]
  have hupt : t.macUp n = true := (hb.macUp n).trans hup
  rw [hmac, if_neg (not_or.mpr ⟨hreserved, hmine⟩), ← hsame]
  rw [← hsame] at hq
  have hbits : ∀ n : Fin 2, hasBit (2 ^ n.val) n = true ∧ hasBit (2 ^ n.val) (1 - n) = false ∧ hasBit (setBit (2 ^ n.val) 2) n = true ∧
      hasBit (setBit (2 ^ n.val) 2) (1 - n) = false := by decide
  obtain ⟨k1, k2, k3, k4⟩ := hbits n
  by_cases hbroad : da = 0xFFFFFFFFFFFF
  · rw [if_pos hbroad]
    exact State.toPorts_queues k3 k4 hupt hq hroom
  · obtain ⟨hnone, hne⟩ := hto.resolve_left hbroad
    have hfind : t.fdbFind da vid = none := State.fdbFind_fdbLearn hnone hne
    rw [if_neg hbroad, hfind]
    exact State.toPorts_queues k1 k2 hupt hq hroom

/-! ## A frame comes in -/

/-- The queue of a direction's stamps, and its overflow mark and its count. -/
def MacSt.stamps (x : MacSt) (tx : Bool) : List MacStamp := if tx then x.txStamps else x.rxStamps

def stampOvf (tx : Bool) : Field := if tx then Mac.TS_STAT_TX_OVF else Mac.TS_STAT_RX_OVF

def stampCount (tx : Bool) : Field := if tx then Mac.TS_STAT_TX_COUNT else Mac.TS_STAT_RX_COUNT

def stampPlaces (m : Fin 2) (tx : Bool) : List Nat :=
  [fieldKey (macPage m 1) (stampCount tx), fieldKey (macPage m 1) (stampOvf tx), fieldKey (macPage m 1) Hdr.EVT_STAT_EVENT]

/-- A stamp joins its queue, or the queue is full and shows it. -/
theorem State.pushStamp_effect (s : State) (m : Fin 2) (tx : Bool) (x : MacStamp) :
    (s.pushStamp m tx x).out = s.out ∧ SameFaults s (s.pushStamp m tx x) ∧ (s.pushStamp m tx x).bridge = s.bridge ∧
    (∀ n, ((s.pushStamp m tx x).mac n).queues = (s.mac n).queues) ∧ (∀ n, m.val ≠ n → (s.pushStamp m tx x).mac n = s.mac n) ∧
    WritesIn (· ∈ stampPlaces m tx) s (s.pushStamp m tx x) ∧
    (((s.mac m).stamps tx).length < 32 → ((s.pushStamp m tx x).mac m).stamps tx = (s.mac m).stamps tx ++ [x]) ∧
    (32 ≤ ((s.mac m).stamps tx).length → (s.pushStamp m tx x).flag (macPage m 1) (stampOvf tx) = true ∧
      (s.pushStamp m tx x).eventBit (macPage m 1) 0 = true ∧ ((s.pushStamp m tx x).mac m).stamps tx = (s.mac m).stamps tx) := by
  unfold State.pushStamp
  extract_lets y q
  have hq : q = y.stamps tx := rfl
  split
  · next hroom =>
    rw [hq] at hroom
    let z : MacSt := if tx then { y with txStamps := q ++ [x] } else { y with rxStamps := q ++ [x] }
    have hz : z.queues = y.queues ∧ z.stamps tx = q ++ [x] := by
      cases tx <;> exact ⟨rfl, rfl⟩
    have hself := s.mac_putMac_same m z
    have hother : ∀ n, m.val ≠ n → (s.putMac m z).mac n = s.mac n := fun n hn => s.mac_putMac_other z hn
    refine ⟨rfl, .refl s, rfl, fun n => ?_, hother, (WritesIn.of_regs _ rfl : WritesIn _ s (s.putMac m z)).put _ (.head _), fun _ => ?_,
      fun h => absurd h (Nat.not_le_of_lt hroom)⟩
    · by_cases hn : m.val = n
      · subst hn
        exact (congrArg MacSt.queues hself).trans hz.1
      · exact congrArg MacSt.queues (hother n hn)
    · exact (congrArg (MacSt.stamps · tx) hself).trans hz.2
  · next hfull =>
    rw [hq] at hfull
    have hkeys : ∀ (m : Fin 2) (tx : Bool), fieldKey (macPage m 1) Hdr.EVT_STAT_EVENT ≠ fieldKey (macPage m 1) (stampOvf tx) := by decide
    refine ⟨rfl, .refl s, rfl, fun _ => rfl, fun _ _ => rfl, ((WritesIn.refl _ s).put _ (.tail _ (.head _))).event (.tail _ (.tail _ (.head _))),
      fun h => absurd h hfull, fun _ => ⟨?_, ?_, rfl⟩⟩
    · exact (State.flag_put_other _ _ (hkeys m tx)).trans (State.flag_put_one ..)
    · exact State.eventBit_event _ _ (by decide)

/-- The registers of a received frame's counters, and the port's, are outside the bridge's places. -/
theorem ingressPlaces_facts (m : Fin 2) :
    fieldKey (macPage m 2) Mac.FRAMES_RX_COUNT ∉ ingressPlaces ∧ fieldKey (macPage m 1) Mac.TS_STAT_RX_OVF ∉ ingressPlaces ∧
    fieldKey (macPage m 1) Hdr.EVT_STAT_EVENT ∉ ingressPlaces := by
  revert m
  decide

/-- What a received frame's count and stamp write is not what the bridge reads. -/
theorem rxPlaces_facts (m : Fin 2) :
    let places := [fieldKey (macPage m 2) Mac.FRAMES_RX_COUNT, fieldKey (macPage m 1) Mac.TS_STAT_RX_COUNT, fieldKey (macPage m 1) Mac.TS_STAT_RX_OVF,
      fieldKey (macPage m 1) Hdr.EVT_STAT_EVENT]
    fieldKey (bridgePage 0) Hdr.CTRL_EN ∉ places ∧ fieldKey (macPage m 0) Mac.MAC_ADDR_LO_ADDR ∉ places ∧
    fieldKey (macPage m 0) Mac.MAC_ADDR_HI_ADDR ∉ places ∧ fieldKey (macPage m 0) Mac.PORT_PCP_PCP ∉ places ∧
    ∀ n : Fin 2, fieldKey (macPage n 0) Hdr.CTRL_EN ∉ places ∧ fieldKey (macPage n 0) Mac.MAC_STAT_LINK ∉ places := by
  revert m
  decide

/-- A good frame is counted, and stamped where it is an event message. -/
def State.rxCounted (s : State) (m : Fin 2) (b : List Byte) (c : Nat) : State :=
  let t := s.countWrap (macPage m 2) Mac.FRAMES_RX_COUNT
  if isPtpEvent b then t.pushStamp m false (t.stampOf b (ofSigned 80 ((c : Int) - toSigned 32 (t.get (macPage m 1) Mac.PHY_RX_LAT_LAT) * 2 ^ 12))) else t

/-- The frame as the bridge takes it. -/
def State.rxFrame (s : State) (m : Fin 2) (b : List Byte) (c : Nat) : EthFrame :=
  { bytes := b, stampIn := if isPtpEvent b then
      some (ofSigned 80 ((c : Int) - toSigned 32 ((s.countWrap (macPage m 2) Mac.FRAMES_RX_COUNT).get (macPage m 1) Mac.PHY_RX_LAT_LAT) * 2 ^ 12)) else none }

theorem State.exec_rxGood {s : State} {m : Fin 2} {b : List Byte} (c : Nat) (hup : s.macUp m = true) (hshort : 64 ≤ b.length + 4)
    (hlong : b.length + 4 ≤ s.get (macPage m 0) Mac.MAC_CFG_MAX_FRAME) (hpause : ethType b ≠ 0x8808) :
    exec (.ethFrameRx m b true c) s = .next (if (s.rxCounted m b c).flag (bridgePage 0) Hdr.CTRL_EN
      then (s.rxCounted m b c).bridgeIngress m (s.rxFrame m b c) else s.rxCounted m b c) := by
  have hsize : ¬ (b.length + 4 < 64 ∨ b.length + 4 > s.get (macPage m 0) Mac.MAC_CFG_MAX_FRAME) := by omega
  rw [exec, execEthFrameRx, if_neg (by simp [hup]), if_neg (by simp), if_neg hsize, if_neg hpause]
  rfl

theorem State.rxCounted_effect (s : State) (m : Fin 2) (b : List Byte) (c : Nat) :
    (s.rxCounted m b c).out = s.out ∧ SameFaults s (s.rxCounted m b c) ∧ (s.rxCounted m b c).bridge = s.bridge ∧
    (∀ n, ((s.rxCounted m b c).mac n).queues = (s.mac n).queues) ∧
    WritesIn (fun k => k ∈ [fieldKey (macPage m 2) Mac.FRAMES_RX_COUNT, fieldKey (macPage m 1) Mac.TS_STAT_RX_COUNT, fieldKey (macPage m 1) Mac.TS_STAT_RX_OVF,
      fieldKey (macPage m 1) Hdr.EVT_STAT_EVENT]) s (s.rxCounted m b c) ∧
    (s.rxCounted m b c).get (macPage m 2) Mac.FRAMES_RX_COUNT = (s.get (macPage m 2) Mac.FRAMES_RX_COUNT + 1) % Mac.FRAMES_RX_COUNT.size ∧
    (isPtpEvent b = true → (s.mac m).rxStamps.length < 32 → ((s.rxCounted m b c).mac m).rxStamps = (s.mac m).rxStamps ++
      [s.stampOf b (ofSigned 80 ((c : Int) - toSigned 32 (s.get (macPage m 1) Mac.PHY_RX_LAT_LAT) * 2 ^ 12))]) ∧
    (isPtpEvent b = true → 32 ≤ (s.mac m).rxStamps.length → (s.rxCounted m b c).flag (macPage m 1) Mac.TS_STAT_RX_OVF = true ∧
      (s.rxCounted m b c).eventBit (macPage m 1) 0 = true ∧ ((s.rxCounted m b c).mac m).rxStamps = (s.mac m).rxStamps) := by
  have hkeys : ∀ m : Fin 2, fieldKey (macPage m 2) Mac.FRAMES_RX_COUNT ≠ fieldKey (macPage m 1) Mac.PHY_RX_LAT_LAT ∧
      fieldKey (macPage m 2) Mac.FRAMES_RX_COUNT ∉ [fieldKey (macPage m 1) Mac.TS_STAT_RX_COUNT,
      fieldKey (macPage m 1) Mac.TS_STAT_RX_OVF, fieldKey (macPage m 1) Hdr.EVT_STAT_EVENT] := by decide
  unfold State.rxCounted
  extract_lets t
  have ht : WritesIn (fun k => k ∈ [fieldKey (macPage m 2) Mac.FRAMES_RX_COUNT, fieldKey (macPage m 1) Mac.TS_STAT_RX_COUNT,
      fieldKey (macPage m 1) Mac.TS_STAT_RX_OVF, fieldKey (macPage m 1) Hdr.EVT_STAT_EVENT]) s t := (WritesIn.refl _ s).countWrap (.head _)
  have hcount : t.get (macPage m 2) Mac.FRAMES_RX_COUNT = (s.get (macPage m 2) Mac.FRAMES_RX_COUNT + 1) % Mac.FRAMES_RX_COUNT.size := State.get_put_same ..
  have hlat : t.get (macPage m 1) Mac.PHY_RX_LAT_LAT = s.get (macPage m 1) Mac.PHY_RX_LAT_LAT := State.get_put_other _ _ (hkeys m).1
  have hstamp : ∀ c, t.stampOf b c = s.stampOf b c := s.stampOf_put_frameCount m _ (.head _) b
  have hout : t.out = s.out := rfl
  have hfaults : SameFaults s t := ⟨rfl, rfl⟩
  have hbridge : t.bridge = s.bridge := rfl
  have hmacs : ∀ n, t.mac n = s.mac n := fun _ => rfl
  rw [hlat, hstamp, ← hmacs m]
  clear_value t
  split
  · next hev =>
    obtain ⟨h1, h2, h3, h4, -, h6, h7, h8⟩ := t.pushStamp_effect m false
      (s.stampOf b (ofSigned 80 ((c : Int) - toSigned 32 (s.get (macPage m 1) Mac.PHY_RX_LAT_LAT) * 2 ^ 12)))
    exact ⟨h1.trans hout, hfaults.trans h2, h3.trans hbridge, fun n => (h4 n).trans (congrArg MacSt.queues (hmacs n)),
      ht.trans (h6.mono fun _ => List.mem_cons_of_mem _), (h6.get (hkeys m).2).trans hcount, fun _ => h7, fun _ => h8⟩
  · next hev => exact ⟨hout, hfaults, hbridge, fun n => congrArg MacSt.queues (hmacs n), ht, hcount, fun h => absurd h hev, fun h => absurd h hev⟩

theorem ethFrameRx_effect (m : Fin 2) (b : List Byte) (fcsOk : Bool) (c : Nat) (s : State) (hup : s.macUp m = true) :
    Completes (.ethFrameRx m b fcsOk c) s fun t =>
      (fcsOk = false → t.get (macPage m 2) Mac.FCS_ERR_COUNT = min (s.get (macPage m 2) Mac.FCS_ERR_COUNT + 1) (Mac.FCS_ERR_COUNT.size - 1) ∧
        t.macs = s.macs ∧ t.bridge = s.bridge) ∧
      (fcsOk = true → b.length + 4 < 64 ∨ s.get (macPage m 0) Mac.MAC_CFG_MAX_FRAME < b.length + 4 → t = s) ∧
      (fcsOk = true → 64 ≤ b.length + 4 → b.length + 4 ≤ s.get (macPage m 0) Mac.MAC_CFG_MAX_FRAME →
        t.get (macPage m 2) Mac.FRAMES_RX_COUNT = (s.get (macPage m 2) Mac.FRAMES_RX_COUNT + 1) % Mac.FRAMES_RX_COUNT.size ∧
        (ethType b = 0x8808 → t.get (macPage m 2) Mac.PAUSE_RX_COUNT =
          min (s.get (macPage m 2) Mac.PAUSE_RX_COUNT + 1) (Mac.PAUSE_RX_COUNT.size - 1) ∧ t.macs = s.macs ∧ t.bridge = s.bridge) ∧
        (isPtpEvent b = true → (s.mac m).rxStamps.length < 32 → (t.mac m).rxStamps = (s.mac m).rxStamps ++
          [s.stampOf b (ofSigned 80 ((c : Int) - toSigned 32 (s.get (macPage m 1) Mac.PHY_RX_LAT_LAT) * 2 ^ 12))]) ∧
        (isPtpEvent b = true → 32 ≤ (s.mac m).rxStamps.length → t.flag (macPage m 1) Mac.TS_STAT_RX_OVF = true ∧
          t.eventBit (macPage m 1) 0 = true ∧ (t.mac m).rxStamps = (s.mac m).rxStamps) ∧
        (∀ da, da = ofBytesBE (sliceBytes b 0 6) → ethType b ≠ 0x8808 → s.flag (bridgePage 0) Hdr.CTRL_EN = true →
          (b.length + 4 ≤ 1522 → (s.bridge.mgRx.map (fun e => e.2.length)).sum + b.length ≤ 16384 →
            da / 16 = 0x0180C200000 ∨ da = s.macAddr m ∨ da = 0xFFFFFFFFFFFF → t.bridge.mgRx = s.bridge.mgRx ++ [(m.val, b)]) ∧
          (∀ q : List EthFrame, q = (s.mac (1 - m.val)).queues.getD (frameClass b (s.get (macPage m 0) Mac.PORT_PCP_PCP)) [] →
            isPtpEvent b = false → s.macUp (1 - m.val) = true → da / 16 ≠ 0x0180C200000 → da ≠ s.macAddr m →
            da = 0xFFFFFFFFFFFF ∨ (s.fdbFind da (frameVid b) = none ∧ ofBytesBE (sliceBytes b 6 6) ≠ da) →
            (q.map (fun e => e.bytes.length)).sum + b.length ≤ 65536 →
            (t.mac (1 - m.val)).queues = (s.mac (1 - m.val)).queues.set (frameClass b (s.get (macPage m 0) Mac.PORT_PCP_PCP))
              (q ++ [{ bytes := b }])))) ∧
      t.out = s.out ∧ SameMemory s t ∧ SameFaults s t := by
  have hmem : ∀ {t : State}, exec (.ethFrameRx m b fcsOk c) s = .next t → SameMemory s t := fun ht =>
    .of_exec ht (by rw [exec]; exact answers_ethFrameRx (Quiet.refl s))
  cases fcsOk with
  | false =>
    have ht : exec (.ethFrameRx m b false c) s = .next (s.countSat (macPage m 2) Mac.FCS_ERR_COUNT) := by
      rw [exec, execEthFrameRx, if_neg (by simp [hup]), if_pos (by simp)]
    exact ⟨_, ht, fun _ => ⟨State.get_countSat_same .., rfl, rfl⟩, nofun, nofun, rfl, hmem ht, rfl, rfl⟩
  | true =>
    by_cases hsize : b.length + 4 < 64 ∨ b.length + 4 > s.get (macPage m 0) Mac.MAC_CFG_MAX_FRAME
    · have ht : exec (.ethFrameRx m b true c) s = .next s := by
        rw [exec, execEthFrameRx, if_neg (by simp [hup]), if_neg (by simp), if_pos hsize]
      exact ⟨_, ht, nofun, fun _ _ => rfl, fun _ h1 h2 => by omega, rfl, hmem ht, rfl, rfl⟩
    · by_cases hpause : ethType b = 0x8808
      · have ht : exec (.ethFrameRx m b true c) s =
            .next ((s.countWrap (macPage m 2) Mac.FRAMES_RX_COUNT).countSat (macPage m 2) Mac.PAUSE_RX_COUNT) := by
          rw [exec, execEthFrameRx, if_neg (by simp [hup]), if_neg (by simp), if_neg hsize, if_pos hpause]
        have hev : isPtpEvent b ≠ true := by simp [isPtpEvent, hpause]
        have hkeys : ∀ m : Fin 2, fieldKey (macPage m 2) Mac.PAUSE_RX_COUNT ≠ fieldKey (macPage m 2) Mac.FRAMES_RX_COUNT := by decide
        refine ⟨_, ht, nofun, fun _ h => absurd h hsize, fun _ _ _ => ⟨?_, fun _ => ⟨?_, rfl, rfl⟩, fun h => absurd h hev, fun h => absurd h hev,
          fun _ _ h => absurd hpause h⟩, rfl, hmem ht, rfl, rfl⟩
        · exact (State.get_put_other _ _ (hkeys m)).trans (State.get_put_same ..)
        · rw [State.get_countSat_same]
          exact congrArg (fun n => min (n + 1) (Mac.PAUSE_RX_COUNT.size - 1)) (State.get_put_other _ _ (hkeys m).symm)
      · have hshort : 64 ≤ b.length + 4 := by omega
        have hlong : b.length + 4 ≤ s.get (macPage m 0) Mac.MAC_CFG_MAX_FRAME := by omega
        have ht := State.exec_rxGood c hup hshort hlong hpause
        obtain ⟨h1, h2, h3, h4, h5, h6, h7, h8⟩ := s.rxCounted_effect m b c
        have hframe : (s.rxFrame m b c).bytes = b := rfl
        have hplain : isPtpEvent b = false → s.rxFrame m b c = { bytes := b } := fun hev => by rw [State.rxFrame, hev]; rfl
        generalize s.rxFrame m b c = f at ht hframe hplain
        generalize s.rxCounted m b c = u at ht h1 h2 h3 h4 h5 h6 h7 h8
        subst hframe
        have hb : Bridged u (if u.flag (bridgePage 0) Hdr.CTRL_EN then u.bridgeIngress m f else u) := .ite (u.bridgeIngress_keeps m f) (.refl u)
        obtain ⟨k1, k2, k3⟩ := ingressPlaces_facts m
        refine ⟨_, ht, nofun, fun _ h => absurd h hsize, fun _ _ _ => ⟨(hb.writes.get k1).trans h6, fun h => absurd h hpause, fun hev hroom => ?_, fun hev hfull => ?_,
          fun da hda _ hen => ?_⟩, hb.out.trans h1, hmem ht, h2.trans hb.faults⟩
        · exact ((hb.stamps m).1).trans (h7 hev hroom)
        · obtain ⟨o1, o2, o3⟩ := h8 hev hfull
          exact ⟨(hb.writes.flag k2).trans o1, (State.eventBit_congr _ (hb.writes.get k3) 0).trans o2, ((hb.stamps m).1).trans o3⟩
        · obtain ⟨p1, p2, p3, p4, p5⟩ := rxPlaces_facts m
          have hen' : u.flag (bridgePage 0) Hdr.CTRL_EN = true := (h5.flag p1).trans hen
          have haddr : u.macAddr m = s.macAddr m := by rw [State.macAddr, h5.get p2, h5.get p3, State.macAddr]
          have hpcp : u.get (macPage m 0) Mac.PORT_PCP_PCP = s.get (macPage m 0) Mac.PORT_PCP_PCP := h5.get p4
          have hmacUp : ∀ n : Fin 2, u.macUp n = s.macUp n := fun n => by
            rw [State.macUp, h5.flag (p5 n).1, h5.flag (p5 n).2, State.macUp]
          rw [if_pos hen']
          refine ⟨fun hlen hroom hto => ?_, fun q hq hev hother hres hmine hto hroom => ?_⟩
          · rw [← haddr] at hto
            rw [← h3] at hroom ⊢
            exact State.bridgeIngress_management hda hroom hlen hto
          · have hn : 1 - m.val < 2 := by omega
            rw [← h4, ← hpcp] at hq
            rw [← h4, ← hpcp, ← hplain hev]
            have hfind : u.fdbFind da (frameVid f.bytes) = s.fdbFind da (frameVid f.bytes) := by rw [State.fdbFind, h3, State.fdbFind]
            exact State.bridgeIngress_queues hda rfl ((hmacUp ⟨1 - m.val, hn⟩).trans hother) hres (by rw [haddr]; exact hmine) (by rw [hfind]; exact hto) hq hroom

end Sys2Proof.Machine

namespace Sys2Proof.Machine

/-! ## A frame goes out -/

/-- What keeps of a MAC with neither gates nor shapers where its credits and its oversize frames are looked after: all but its other classes' queues. -/
structure HeadStays (m : Fin 2) (k : Nat) (s t : State) : Prop where
  regs : t.regs = s.regs
  out : t.out = s.out
  time : t.time = s.time
  faults : SameFaults s t
  other : t.mac (1 - m.val) = s.mac (1 - m.val)
  stamps : (t.mac m).txStamps = (s.mac m).txStamps
  head : (t.mac m).queues.getD k [] = (s.mac m).queues.getD k []
  above : ∀ j, k < j → (s.mac m).queues.getD j [] = [] → (t.mac m).queues.getD j [] = []

theorem HeadStays.trans {m : Fin 2} {k : Nat} {s t u : State} (h : HeadStays m k s t) (h' : HeadStays m k t u) : HeadStays m k s u :=
  ⟨h'.regs.trans h.regs, h'.out.trans h.out, h'.time.trans h.time, h.faults.trans h'.faults, h'.other.trans h.other, h'.stamps.trans h.stamps,
    h'.head.trans h.head, fun j hj he => h'.above j hj (h.above j hj he)⟩

theorem HeadStays.putMac {m : Fin 2} {k : Nat} (s : State) {x : MacSt} (hstamps : x.txStamps = (s.mac m).txStamps)
    (hhead : x.queues.getD k [] = (s.mac m).queues.getD k []) (habove : ∀ j, k < j → (s.mac m).queues.getD j [] = [] → x.queues.getD j [] = []) :
    HeadStays m k s (s.putMac m x) := by
  have hself := s.mac_putMac_same m x
  refine ⟨rfl, rfl, rfl, .refl s, s.mac_putMac_other x (by omega), ?_, ?_, ?_⟩
  · rw [hself]; exact hstamps
  · rw [hself]; exact hhead
  · rw [hself]; exact habove

theorem List.getD_set_eq_or {α : Type} (l : List α) (i j : Nat) (a d : α) : (l.set i a).getD j d = if i = j ∧ i < l.length then a else l.getD j d := by
  by_cases hij : i = j
  · subst hij
    by_cases hi : i < l.length
    · rw [if_pos ⟨rfl, hi⟩, List.getD_eq_getElem?_getD, List.getElem?_set_self hi, Option.getD_some]
    · rw [if_neg (fun h => hi h.2), List.set_eq_of_length_le (by omega)]
  · rw [if_neg (fun h => hij h.1), List.getD_eq_getElem?_getD, List.getElem?_set_ne hij, List.getD_eq_getElem?_getD]

/-- With no gates, oversize frames leave the front of a class's queue; nothing is counted. -/
theorem State.dropOversize_ungated {s : State} {m : Fin 2} (hgates : s.flag (macPage m 3) Mac.GCL_CFG_EN = false) (j : Nat) :
    ∃ n, s.dropOversize m j = s.putMac m { s.mac m with queues := (s.mac m).queues.set j (((s.mac m).queues.getD j []).drop n) } ∧
      ∀ f r, (s.mac m).queues.getD j [] = f :: r → f.bytes.length + 4 ≤ s.get (macPage m 0) Mac.MAC_CFG_MAX_FRAME → n = 0 := by
  have hshut : s.gateLongest m j = none := by
    rw [State.gateLongest, hgates]
  let q := (s.mac m).queues.getD j []
  let long := fun (f : EthFrame) => decide (s.get (macPage m 0) Mac.MAC_CFG_MAX_FRAME < f.bytes.length + 4)
  let gone := q.takeWhile fun f => long f || false
  have hnone : gone.filter (fun f => !long f) = [] := by
    rw [List.filter_eq_nil_iff]
    intro f hf
    have := List.mem_takeWhile_imp hf
    simpa using this
  refine ⟨gone.length, ?_, fun f r hq hfit => ?_⟩
  · unfold State.dropOversize
    rw [hshut]
    change (gone.filter fun f => !long f).foldl _ _ = _
    rw [hnone, List.foldl_nil]
  · have hlong : long f = false := decide_eq_false (by omega)
    have hgone : gone = [] := by
      simp only [gone, q, hq, List.takeWhile_cons, hlong, Bool.or_self, Bool.false_eq_true, if_false]
    rw [hgone, List.length_nil]

theorem State.dropOversize_stays {s : State} {m : Fin 2} {k : Nat} {f : EthFrame} {r : List EthFrame} (hgates : s.flag (macPage m 3) Mac.GCL_CFG_EN = false)
    (hhead : (s.mac m).queues.getD k [] = f :: r) (hfit : f.bytes.length + 4 ≤ s.get (macPage m 0) Mac.MAC_CFG_MAX_FRAME) (j : Nat) :
    HeadStays m k s (s.dropOversize m j) := by
  obtain ⟨n, heq, hn⟩ := State.dropOversize_ungated hgates j
  rw [heq]
  refine .putMac s rfl ?_ fun i _ hempty => ?_
  · rw [List.getD_set_eq_or]
    split
    · next h =>
      obtain ⟨rfl, -⟩ := h
      rw [hn f r hhead hfit, List.drop_zero]
    · rfl
  · rw [List.getD_set_eq_or]
    split
    · next h =>
      rw [h.1, hempty, List.drop_nil]
    · exact hempty

theorem State.dropOversizes_stay {m : Fin 2} {k : Nat} {f : EthFrame} {r : List EthFrame} (l : List Nat) (s : State)
    (hgates : s.flag (macPage m 3) Mac.GCL_CFG_EN = false)
    (hhead : (s.mac m).queues.getD k [] = f :: r) (hfit : f.bytes.length + 4 ≤ s.get (macPage m 0) Mac.MAC_CFG_MAX_FRAME) :
    HeadStays m k s (l.foldl (fun s j => s.dropOversize m j) s) := by
  induction l generalizing s with
  | nil => exact ⟨rfl, rfl, rfl, .refl s, rfl, rfl, rfl, fun _ _ h => h⟩
  | cons j l ih =>
    have h := State.dropOversize_stays hgates hhead hfit j
    refine h.trans (ih _ ?_ (h.head.trans hhead) ?_)
    · exact (State.flag_congr s (State.get_of_regs h.regs _ _)).trans hgates
    · rw [State.get_of_regs h.regs]
      exact hfit

/-- The bytes of a frame that goes out depend on the time domains and on one-step stamping. -/
theorem State.correctFrame_congr {s t : State} {m : Fin 2} (hrate : ∀ x, t.rate x = s.rate x) (hmatch : ∀ d, t.matchDomain d = s.matchDomain d)
    (hstep : t.flag (macPage m 1) Mac.TS_CFG_ONE_STEP = s.flag (macPage m 1) Mac.TS_CFG_ONE_STEP) (f : EthFrame) (c : Nat) (x : MacStamp) :
    (t.correctFrame m f c x).2 = (s.correctFrame m f c x).2 := by
  simp only [State.correctFrame, hmatch, hstep, hrate]
  cases f.stampIn with
  | none => dsimp only; split <;> rfl
  | some cin => dsimp only; split <;> rfl

/-- A correction counts a two-step message, and no more. -/
theorem State.correctFrame_effect (s : State) (m : Fin 2) (f : EthFrame) (c : Nat) (x : MacStamp) :
    (s.correctFrame m f c x).1.out = s.out ∧ SameFaults s (s.correctFrame m f c x).1 ∧ (s.correctFrame m f c x).1.macs = s.macs ∧
    WritesIn (· = fieldKey (bridgePage 0) Bridge.TC_TWO_STEP_COUNT) s (s.correctFrame m f c x).1 := by
  have hsame : s.out = s.out ∧ SameFaults s s ∧ s.macs = s.macs ∧ WritesIn (· = fieldKey (bridgePage 0) Bridge.TC_TWO_STEP_COUNT) s s :=
    ⟨rfl, .refl s, rfl, WritesIn.refl _ s⟩
  unfold State.correctFrame
  extract_lets b p
  split
  · split
    · dsimp only
      split
      · exact ⟨rfl, .refl s, rfl, (WritesIn.refl _ s).countSat rfl⟩
      · exact hsame
    · exact hsame
  · split
    · exact hsame
    · exact hsame

theorem State.stampOf_of_regs {s t : State} (hregs : t.regs = s.regs) (htime : t.time = s.time) (b : List Byte) (c : Nat) : t.stampOf b c = s.stampOf b c := by
  have hget : ∀ pg f, t.get pg f = s.get pg f := State.get_of_regs hregs
  have hdomain : ∀ x c, t.domainTime x c = s.domainTime x c := fun x c => by simp only [State.domainTime, State.rate, hget, htime]
  have hadopted : t.flag tmPage Tidemark.TM_SEL_ADOPTED = s.flag tmPage Tidemark.TM_SEL_ADOPTED := State.flag_congr s (hget ..)
  have hsel : t.activeDomain = s.activeDomain := hget ..
  have hactive : ∀ c, t.activeTime c = s.activeTime c := fun c => by
    rw [State.activeTime, hadopted, hsel, hdomain, htime, State.activeTime]
  simp only [State.stampOf, State.matchDomain, hget, hdomain, hactive]

theorem find?_highest {p : Nat → Bool} {k : Fin 8} (hk : p k = true) (habove : ∀ j, k.val < j → p j = false) :
    [7, 6, 5, 4, 3, 2, 1, 0].find? p = some k.val := by
  have hsplit : ∀ k : Fin 8, [7, 6, 5, 4, 3, 2, 1, 0] = [7, 6, 5, 4, 3, 2, 1, 0].takeWhile (k.val < ·) ++
      k.val :: ([7, 6, 5, 4, 3, 2, 1, 0].dropWhile (k.val < ·)).tail := by decide
  refine List.find?_eq_some_iff_append.mpr ⟨hk, _, _, hsplit k, fun j hj => ?_⟩
  have hlt := List.mem_takeWhile_imp hj
  rw [habove j (of_decide_eq_true hlt)]
  rfl

/-- The MAC after its housekeeping, before a frame leaves it. -/
def State.macTidied (s : State) (m : Fin 2) : State := (List.range 8).foldl (fun s j => s.dropOversize m j) (s.refreshCredits m)

/-- The frame at the head of its queue is off, and counted. -/
def State.macSends (s : State) (m : Fin 2) (k : Nat) (f : EthFrame) (r : List EthFrame) : State :=
  ((s.macTidied m).takeFrame m k f r).countWrap (macPage m 2) Mac.FRAMES_TX_COUNT

/-- A frame that has left its queue goes out, an event message stamped and corrected. -/
def State.sendFrame (s : State) (m : Fin 2) (c : Nat) (f : EthFrame) : State :=
  let ceg := ofSigned 80 ((c : Int) + toSigned 32 (s.get (macPage m 1) Mac.PHY_TX_LAT_LAT) * 2 ^ 12)
  let x := s.stampOf f.bytes ceg
  if isPtpEvent f.bytes then ((s.correctFrame m f ceg x).1.pushStamp m true x).emit (.ethFrame m (s.correctFrame m f ceg x).2)
  else s.emit (.ethFrame m f.bytes)

section
variable {m : Fin 2} {s : State} {k : Fin 8} {f : EthFrame} {r : List EthFrame} (hgates : s.flag (macPage m 3) Mac.GCL_CFG_EN = false)
  (hhead : (s.mac m).queues.getD k [] = f :: r) (hfit : f.bytes.length + 4 ≤ s.get (macPage m 0) Mac.MAC_CFG_MAX_FRAME)
include hgates hhead hfit

theorem State.macTidied_stays : HeadStays m k s (s.macTidied m) := by
  have hcredit : HeadStays m k s (s.refreshCredits m) := .putMac s rfl rfl fun _ _ h => h
  refine hcredit.trans (State.dropOversizes_stay _ _ ?_ (hcredit.head.trans hhead) ?_)
  · exact (State.flag_congr s (State.get_of_regs hcredit.regs _ _)).trans hgates
  · rw [State.get_of_regs hcredit.regs]
    exact hfit

theorem State.macSends_effect : (s.macSends m k f r).out = s.out ∧ SameFaults s (s.macSends m k f r) ∧ (s.macSends m k f r).mac (1 - m.val) = s.mac (1 - m.val) ∧
    ((s.macSends m k f r).mac m).txStamps = (s.mac m).txStamps ∧ ((s.macSends m k f r).mac m).queues.getD k [] = r ∧
    (s.macSends m k f r).get (macPage m 2) Mac.FRAMES_TX_COUNT = (s.get (macPage m 2) Mac.FRAMES_TX_COUNT + 1) % Mac.FRAMES_TX_COUNT.size ∧
    WritesIn (· = fieldKey (macPage m 2) Mac.FRAMES_TX_COUNT) s (s.macSends m k f r) ∧ (∀ x, (s.macSends m k f r).rate x = s.rate x) ∧
    (∀ d, (s.macSends m k f r).matchDomain d = s.matchDomain d) ∧ ∀ b c, (s.macSends m k f r).stampOf b c = s.stampOf b c := by
  have h := State.macTidied_stays hgates hhead hfit
  unfold State.macSends
  generalize s.macTidied m = t at h
  unfold State.takeFrame
  extract_lets x slope rate cost credit
  let y : MacSt := { x with queues := x.queues.set k r, credits := x.credits.set k credit }
  let u := t.putMac m y
  have hu : u.regs = s.regs := h.regs
  have hself : u.mac m = y := t.mac_putMac_same m y
  have hlong : k.val < x.queues.length := by
    by_contra hno
    have hnil : x.queues.getD k [] = [] := by rw [List.getD_eq_getElem?_getD, List.getElem?_eq_none (by omega), Option.getD_none]
    have := (h.head.trans hhead).symm.trans hnil
    cases this
  have hget : ∀ pg g, u.get pg g = s.get pg g := State.get_of_regs hu
  obtain ⟨d1, d2, d3⟩ := u.domains_put_frameCount m (u.get (macPage m 2) Mac.FRAMES_TX_COUNT + 1) (f := Mac.FRAMES_TX_COUNT) (by simp)
  have hrate : ∀ x, u.rate x = s.rate x := fun x => by rw [State.rate, hget, State.rate]
  have hmatch : ∀ d, u.matchDomain d = s.matchDomain d := fun d => by simp only [State.matchDomain, hget]
  have hstamp : ∀ b c, u.stampOf b c = s.stampOf b c := fun b c => by
    exact State.stampOf_of_regs hu h.time b c
  change (u.countWrap (macPage m 2) Mac.FRAMES_TX_COUNT).out = _ ∧ _
  refine ⟨h.out, h.faults, ?_, ?_, ?_, ?_, (WritesIn.of_regs _ hu).countWrap rfl, fun x => (d1 x).trans (hrate x), fun d => (d2 d).trans (hmatch d),
    fun b c => (u.stampOf_put_frameCount m _ (by simp) b c).trans (hstamp b c)⟩
  · exact (t.mac_putMac_other y (by omega)).trans h.other
  · exact (congrArg MacSt.txStamps hself).trans h.stamps
  · exact (congrArg (fun x : MacSt => x.queues.getD k []) hself).trans (List.getD_set_eq_or .. ▸ if_pos ⟨rfl, hlong⟩)
  · rw [← hget]
    exact State.get_put_same ..

theorem State.exec_macSends (c : Nat) (hup : s.macUp m = true) (hterm : s.terminal = false) (habove : ∀ j, k.val < j → (s.mac m).queues.getD j [] = [])
    (hshaper : s.flag (macPage m 3) (Mac.CBS_SLOPE_EN.nth k) = false) :
    exec (.ethFrameTx m c) s = .next ((s.macSends m k f r).sendFrame m c f) := by
  have h := State.macTidied_stays hgates hhead hfit
  unfold State.macSends
  rw [exec, execEthFrameTx, if_neg (by simp [hup, hterm])]
  extract_lets a b ready
  have hb : s.macTidied m = b := rfl
  rw [hb] at h ⊢
  clear_value b
  have hflag : ∀ g, b.flag (macPage m 3) g = s.flag (macPage m 3) g := fun g => State.flag_congr s (State.get_of_regs h.regs _ _)
  have hq : (b.mac m).queues.getD k [] = f :: r := h.head.trans hhead
  have hready : ready k = true := by
    simp only [ready, hq, State.maySend, State.gateOpenFor, hflag, hgates, hshaper, Bool.not_false, Bool.true_or, Bool.and_self]
  have hidle : ∀ j, k.val < j → ready j = false := fun j hj => by
    simp only [ready, h.above j hj (habove j hj)]
  rw [find?_highest hready hidle]
  dsimp only
  rw [hq]
  rfl

end

/-- The frame that goes out, with its correction where it is an event message. -/
theorem ethFrameTx_effect (m : Fin 2) (c c' : Nat) (s : State) (k : Fin 8) (f : EthFrame) (r : List EthFrame) (hup : s.macUp m = true)
    (hterm : s.terminal = false) (hgates : s.flag (macPage m 3) Mac.GCL_CFG_EN = false) (hhead : (s.mac m).queues.getD k [] = f :: r)
    (habove : ∀ j, k.val < j → (s.mac m).queues.getD j [] = []) (hshaper : s.flag (macPage m 3) (Mac.CBS_SLOPE_EN.nth k) = false)
    (hfit : f.bytes.length + 4 ≤ s.get (macPage m 0) Mac.MAC_CFG_MAX_FRAME)
    (hc : c' = ofSigned 80 ((c : Int) + toSigned 32 (s.get (macPage m 1) Mac.PHY_TX_LAT_LAT) * 2 ^ 12)) :
    Completes (.ethFrameTx m c) s fun t =>
      (t.mac m).queues.getD k [] = r ∧
      t.get (macPage m 2) Mac.FRAMES_TX_COUNT = (s.get (macPage m 2) Mac.FRAMES_TX_COUNT + 1) % Mac.FRAMES_TX_COUNT.size ∧
      (isPtpEvent f.bytes = false → t.out = .ethFrame m f.bytes :: s.out ∧ (t.mac m).txStamps = (s.mac m).txStamps) ∧
      (isPtpEvent f.bytes = true → t.out = .ethFrame m (s.correctFrame m f c' (s.stampOf f.bytes c')).2 :: s.out ∧
        ((s.mac m).txStamps.length < 32 → (t.mac m).txStamps = (s.mac m).txStamps ++ [s.stampOf f.bytes c']) ∧
        (32 ≤ (s.mac m).txStamps.length → t.flag (macPage m 1) Mac.TS_STAT_TX_OVF = true ∧ t.eventBit (macPage m 1) 0 = true ∧
          (t.mac m).txStamps = (s.mac m).txStamps)) ∧
      t.mac (1 - m.val) = s.mac (1 - m.val) ∧ SameMemory s t ∧ SameFaults s t := by
  subst hc
  have ht := State.exec_macSends hgates hhead hfit c hup hterm habove hshaper
  obtain ⟨h1, h2, h3, h4, h5, h6, h7, h8, h9, h10⟩ := State.macSends_effect hgates hhead hfit
  have hmem : SameMemory s ((s.macSends m k f r).sendFrame m c f) := .of_exec ht (by rw [exec]; exact answers_ethFrameTx (Quiet.refl s))
  generalize s.macSends m k f r = w at ht hmem h1 h2 h3 h4 h5 h6 h7 h8 h9 h10
  have hkeys : ∀ m : Fin 2, fieldKey (macPage m 1) Mac.PHY_TX_LAT_LAT ≠ fieldKey (macPage m 2) Mac.FRAMES_TX_COUNT ∧
      fieldKey (macPage m 1) Mac.TS_CFG_ONE_STEP ≠ fieldKey (macPage m 2) Mac.FRAMES_TX_COUNT ∧
      fieldKey (macPage m 2) Mac.FRAMES_TX_COUNT ≠ fieldKey (bridgePage 0) Bridge.TC_TWO_STEP_COUNT ∧
      fieldKey (macPage m 2) Mac.FRAMES_TX_COUNT ∉ stampPlaces m true := by decide
  obtain ⟨k1, k2, k3, k4⟩ := hkeys m
  let ceg := ofSigned 80 ((c : Int) + toSigned 32 (s.get (macPage m 1) Mac.PHY_TX_LAT_LAT) * 2 ^ 12)
  have hceg : ofSigned 80 ((c : Int) + toSigned 32 (w.get (macPage m 1) Mac.PHY_TX_LAT_LAT) * 2 ^ 12) = ceg := by rw [h7.get k1]
  have hbytes := State.correctFrame_congr h8 h9 (h7.flag k2) f ceg (s.stampOf f.bytes ceg)
  have hsend : w.sendFrame m c f = if isPtpEvent f.bytes then ((w.correctFrame m f ceg (s.stampOf f.bytes ceg)).1.pushStamp m true (s.stampOf f.bytes ceg)).emit
      (.ethFrame m (s.correctFrame m f ceg (s.stampOf f.bytes ceg)).2) else w.emit (.ethFrame m f.bytes) := by
    rw [← hbytes, State.sendFrame]
    simp only [hceg, h10]
  rw [hsend] at ht hmem
  refine ⟨_, ht, ?_⟩
  change _ ∧ _ ∧ _ ∧ (_ → _ = Out.ethFrame m (s.correctFrame m f ceg (s.stampOf f.bytes ceg)).2 :: _ ∧
    (_ → _ = _ ++ [s.stampOf f.bytes ceg]) ∧ _) ∧ _
  generalize (s.correctFrame m f ceg (s.stampOf f.bytes ceg)).2 = b at hmem ⊢
  generalize s.stampOf f.bytes ceg = x at hmem ⊢
  cases hev : isPtpEvent f.bytes with
  | false =>
    rw [hev, if_neg Bool.false_ne_true] at hmem
    rw [if_neg Bool.false_ne_true]
    exact ⟨h5, h6, fun _ => ⟨congrArg (_ :: ·) h1, h4⟩, nofun, h3, hmem, h2⟩
  | true =>
    rw [hev, if_pos rfl] at hmem
    rw [if_pos rfl]
    obtain ⟨c1, c2, c3, c4⟩ := w.correctFrame_effect m f ceg x
    generalize (w.correctFrame m f ceg x).1 = v at c1 c2 c3 c4 hmem
    obtain ⟨p1, p2, -, p4, p5, p6, p7, p8⟩ := v.pushStamp_effect m true x
    have hmac : ∀ n, v.mac n = w.mac n := fun n => by rw [State.mac, c3, State.mac]
    have hstamps : (v.mac m).stamps true = (s.mac m).txStamps := by rw [hmac]; exact h4
    rw [hstamps] at p7 p8
    refine ⟨?_, ?_, nofun, fun _ => ⟨congrArg (_ :: ·) (p1.trans (c1.trans h1)), p7, p8⟩, ?_, hmem, (h2.trans c2).trans p2⟩
    · exact (congrArg (List.getD · k.val []) ((p4 m).trans (congrArg MacSt.queues (hmac m)))).trans h5
    · exact (p6.get k4).trans ((c4.get k3).trans h6)
    · exact (p5 _ (by omega)).trans ((hmac _).trans h3)

end Sys2Proof.Machine

namespace Sys2Proof.Machine

/-! ## Stamps are read, the forwarding table is edited -/

/-- The fields that show the stamp at the head of a direction's queue, with what they show. -/
def stampFields (tx : Bool) (e : MacStamp) (valid : Bool) : List (Field × Nat) :=
  let f := fun (a b : Field) => if tx then b else a
  [(f Mac.RXTS_INFO_VALID Mac.TXTS_INFO_VALID, bit valid), (f Mac.RXTS_INFO_MATCHED Mac.TXTS_INFO_MATCHED, bit e.matched),
   (f Mac.RXTS_INFO_DOMSEL Mac.TXTS_INFO_DOMSEL, e.domsel), (f Mac.RXTS_INFO_TWO_STEP Mac.TXTS_INFO_TWO_STEP, bit e.twoStep),
   (f Mac.RXTS_INFO_MSG_TYPE Mac.TXTS_INFO_MSG_TYPE, e.msgType), (f Mac.RXTS_INFO_DOMAIN Mac.TXTS_INFO_DOMAIN, e.domain),
   (f Mac.RXTS_INFO_SEQ_ID Mac.TXTS_INFO_SEQ_ID, e.seqId), ((f Mac.RXTS_CNT_C Mac.TXTS_CNT_C).nth 0, e.cNs),
   ((f Mac.RXTS_CNT_C Mac.TXTS_CNT_C).nth 1, e.cNs / 2 ^ 32), (f Mac.RXTS_FRAC_CNT Mac.TXTS_FRAC_CNT, e.cFrac),
   (f Mac.RXTS_FRAC_DOM Mac.TXTS_FRAC_DOM, e.domFrac), ((f Mac.RXTS_DOM_TIME Mac.TXTS_DOM_TIME).nth 0, e.domNs),
   ((f Mac.RXTS_DOM_TIME Mac.TXTS_DOM_TIME).nth 1, e.domNs / 2 ^ 32)]

/-- The stamp that shows where there is none. -/
def noStamp : MacStamp := ⟨false, 0, false, 0, 0, 0, 0, 0, 0, 0⟩

theorem State.putStampWords_eq (s : State) (m : Nat) (tx : Bool) (x : Option MacStamp) :
    s.putStampWords m tx x = s.putAll (macPage m 1) (stampFields tx (x.getD noStamp) x.isSome) := rfl

/-- The fields stand at places of their own, apart from the count. -/
theorem stampFields_places (m : Fin 2) (tx : Bool) (e : MacStamp) (v : Bool) :
    ((stampFields tx e v).map fun e => fieldKey (macPage m 1) e.1).Nodup ∧
    ∀ x ∈ stampFields tx e v, fieldKey (macPage m 1) x.1 ≠ fieldKey (macPage m 1) (stampCount tx) := by
  have hkeys : ∀ (m : Fin 2) (tx : Bool), ((stampFields tx noStamp true).map fun e => fieldKey (macPage m 1) e.1).Nodup ∧
      ∀ k ∈ (stampFields tx noStamp true).map (fun e => fieldKey (macPage m 1) e.1), k ≠ fieldKey (macPage m 1) (stampCount tx) := by decide
  have hsame : (stampFields tx e v).map (fun e => fieldKey (macPage m 1) e.1) = (stampFields tx noStamp true).map fun e => fieldKey (macPage m 1) e.1 := rfl
  rw [hsame]
  exact ⟨(hkeys m tx).1, fun x hx => (hkeys m tx).2 _ (hsame ▸ List.mem_map_of_mem (f := fun e : Field × Nat => fieldKey (macPage m 1) e.1) hx)⟩

theorem tsPop_effect (req : Requester) (m : Fin 2) (tx : Bool) (s : State) (off : Nat) (q : List MacStamp)
    (hoff : off = regOff (macPage m 1) (if tx then Mac.TXTS_INFO_VALID else Mac.RXTS_INFO_VALID))
    (hq : q = (if tx then (s.mac m).txStamps else (s.mac m).rxStamps)) (hserve : s.servesRead req off = true) :
    Completes (.tsPop req m tx) s fun t =>
      t.out = .readData req off [(stampWords q.head?).headD 0] :: s.out ∧
      (t.mac m).rxStamps = (if tx then (s.mac m).rxStamps else q.tail) ∧ (t.mac m).txStamps = (if tx then q.tail else (s.mac m).txStamps) ∧
      t.get (macPage m 1) (if tx then Mac.TS_STAT_TX_COUNT else Mac.TS_STAT_RX_COUNT) = (q.length - 1) % 64 ∧
      (∀ e, q.head? = some e → t.get (macPage m 1) ((if tx then Mac.TXTS_DOM_TIME else Mac.RXTS_DOM_TIME).nth 0) = e.domNs % 2 ^ 32 ∧
        t.get (macPage m 1) ((if tx then Mac.TXTS_DOM_TIME else Mac.RXTS_DOM_TIME).nth 1) = e.domNs / 2 ^ 32 % 2 ^ 32) ∧
      SameMemory s t ∧ SameFaults s t := by
  subst hoff
  let off := regOff (macPage m 1) (if tx then Mac.TXTS_INFO_VALID else Mac.RXTS_INFO_VALID)
  let x : MacSt := if tx then { s.mac m with txStamps := q.tail } else { s.mac m with rxStamps := q.tail }
  let l := stampFields tx (q.head?.getD noStamp) q.head?.isSome
  let v := ((s.putMac m x).put (macPage m 1) (stampCount tx) (q.length - 1)).putAll (macPage m 1) l
  have hpop : s.popStamp m tx = (stampWords q.head?, v) := by
    subst hq
    rfl
  have hwords : ¬ (stampWords q.head?).length ≤ 1 ∧ (stampWords q.head?).take 1 = [(stampWords q.head?).headD 0] := by
    cases q.head? <;> exact ⟨by simp [stampWords], rfl⟩
  have ht : exec (.tsPop req m tx) s = .next ((v.holdCapture req off (stampWords q.head?)).emit (.readData req off [(stampWords q.head?).headD 0])) := by
    rw [exec, execTsPop, State.onPop_served hserve]
    simp only [hpop, if_neg hwords.1, hwords.2]
    rfl
  obtain ⟨hnodup, hcount⟩ := stampFields_places m tx (q.head?.getD noStamp) q.head?.isSome
  have hkeep : ∀ {β : Type} (g : State → β), (∀ (t : State) (e : Field × Nat), g (t.put (macPage m 1) e.1 e.2) = g t) →
      g v = g ((s.putMac m x).put (macPage m 1) (stampCount tx) (q.length - 1)) := fun g hg => foldl_keeps hg l _
  have hmac : v.mac m = x := (hkeep (·.mac m) fun _ _ => rfl).trans (s.mac_putMac_same m x)
  have hx : x.rxStamps = (if tx then (s.mac m).rxStamps else q.tail) ∧ x.txStamps = (if tx then q.tail else (s.mac m).txStamps) := by
    cases tx <;> exact ⟨rfl, rfl⟩
  have hfield : ∀ f n, (f, n) ∈ l → v.get (macPage m 1) f = n % f.size := fun f n hmem => State.get_putAll_mem _ hnodup hmem
  have hsize : ∀ tx : Bool, (stampCount tx).size = 64 := by decide
  refine ⟨_, ht, congrArg (_ :: ·) ((hkeep State.out fun _ _ => rfl).trans rfl), (congrArg MacSt.rxStamps hmac).trans hx.1,
    (congrArg MacSt.txStamps hmac).trans hx.2, ?_, fun e he => ?_, .of_exec ht (by rw [exec]; exact answers_tsPop (Quiet.refl s)),
    (hkeep State.flt fun _ _ => rfl).trans rfl, (hkeep State.due fun _ _ => rfl).trans rfl⟩
  · have hget := State.get_putAll_other ((s.putMac m x).put (macPage m 1) (stampCount tx) (q.length - 1)) hcount
    exact hget.trans ((State.get_put_same ..).trans (congrArg _ (hsize tx)))
  · have hl : l = stampFields tx e true := by simp only [l, he, Option.getD_some, Option.isSome_some]
    rw [hl] at hfield
    cases tx <;> exact ⟨hfield _ _ (by simp [stampFields]), hfield _ _ (by simp [stampFields])⟩

/-! ## The forwarding table's commands -/

theorem State.fdbEntry_putFdb_same (s : State) (i : Nat) (e : FdbEntry) : (s.putFdb i e).fdbEntry i = e := SMap.get_set_same ..

theorem State.fdbEntry_putFdb_other (s : State) {i j : Nat} (e : FdbEntry) (h : i ≠ j) : (s.putFdb i e).fdbEntry j = s.fdbEntry j :=
  SMap.get_set_other _ _ _ h

theorem fdbWrite_effect (req : Requester) (w : Word) (s : State) (h : s.serves req (regOff (bridgePage 0) Bridge.FDB_CMD_WRITE) = true) :
    Completes (.fdbWrite req w) s fun t =>
      (w.getLsbD 30 = true → t.eventBit (bridgePage 0) 1 = true ∧ t.bridge = s.bridge) ∧
      (w.getLsbD 30 = false → t.fdbEntry (s.get (bridgePage 0) Bridge.FDB_IDX_IDX) =
          { valid := s.flag (bridgePage 0) Bridge.FDB_CTL_VALID, isStatic := true, ports := s.get (bridgePage 0) Bridge.FDB_CTL_PORTS,
            vid := s.get (bridgePage 0) Bridge.FDB_CTL_VID,
            addr := s.get (bridgePage 0) Bridge.FDB_ENTRY_LO_ADDR + s.get (bridgePage 0) Bridge.FDB_ENTRY_HI_ADDR * 2 ^ 32,
            lastMatch := s.time.c } ∧ t.regs = s.regs) ∧
      (∀ i, i ≠ s.get (bridgePage 0) Bridge.FDB_IDX_IDX → t.fdbEntry i = s.fdbEntry i) ∧ SameMemory s t ∧ SameFaults s t := by
  have hmem : ∀ {t : State}, exec (.fdbWrite req w) s = .next t → SameMemory s t := fun ht =>
    .of_exec ht (by rw [exec]; exact answers_fdbWrite (Quiet.refl s))
  let e : FdbEntry :=
    { valid := s.flag (bridgePage 0) Bridge.FDB_CTL_VALID, isStatic := true, ports := s.get (bridgePage 0) Bridge.FDB_CTL_PORTS,
      vid := s.get (bridgePage 0) Bridge.FDB_CTL_VID,
      addr := s.get (bridgePage 0) Bridge.FDB_ENTRY_LO_ADDR + s.get (bridgePage 0) Bridge.FDB_ENTRY_HI_ADDR * 2 ^ 32, lastMatch := s.time.c }
  have ht : exec (.fdbWrite req w) s = .next (if w.toNat.testBit 30 then s.event (bridgePage 0) 1
      else s.putFdb (s.get (bridgePage 0) Bridge.FDB_IDX_IDX) e) := by
    rw [exec, execFdbWrite, State.onWrite_served h]
  change Completes _ _ fun t => (w.toNat.testBit 30 = true → _) ∧ (w.toNat.testBit 30 = false → _) ∧ _
  cases hb : w.toNat.testBit 30 with
  | true =>
    rw [hb, if_pos rfl] at ht
    exact ⟨_, ht, fun _ => ⟨State.eventBit_event _ _ (by decide), rfl⟩, nofun, fun _ _ => rfl, hmem ht, rfl, rfl⟩
  | false =>
    rw [hb, if_neg Bool.false_ne_true] at ht
    exact ⟨_, ht, nofun, fun _ => ⟨s.fdbEntry_putFdb_same .., rfl⟩, fun i hi => s.fdbEntry_putFdb_other _ hi.symm, hmem ht, rfl, rfl⟩

theorem fdbRead_effect (req : Requester) (w : Word) (s : State) (e : FdbEntry) (h : s.serves req (regOff (bridgePage 0) Bridge.FDB_CMD_READ) = true)
    (he : e = s.fdbEntry (s.get (bridgePage 0) Bridge.FDB_IDX_IDX)) :
    Completes (.fdbRead req w) s fun t =>
      (w.getLsbD 31 = true → t.eventBit (bridgePage 0) 1 = true) ∧
      (w.getLsbD 31 = false →
        t.get (bridgePage 0) Bridge.FDB_ENTRY_LO_ADDR = e.addr % 2 ^ 32 ∧ t.get (bridgePage 0) Bridge.FDB_ENTRY_HI_ADDR = e.addr / 2 ^ 32 % 2 ^ 16 ∧
        t.flag (bridgePage 0) Bridge.FDB_CTL_VALID = e.valid ∧ t.flag (bridgePage 0) Bridge.FDB_CTL_STATIC = e.isStatic ∧
        t.get (bridgePage 0) Bridge.FDB_CTL_PORTS = e.ports % Bridge.FDB_CTL_PORTS.size ∧
        t.get (bridgePage 0) Bridge.FDB_CTL_VID = e.vid % 2 ^ 12 ∧
        OnlyRegs s t [fieldKey (bridgePage 0) Bridge.FDB_ENTRY_LO_ADDR, fieldKey (bridgePage 0) Bridge.FDB_ENTRY_HI_ADDR,
          fieldKey (bridgePage 0) Bridge.FDB_CTL_VALID, fieldKey (bridgePage 0) Bridge.FDB_CTL_STATIC,
          fieldKey (bridgePage 0) Bridge.FDB_CTL_PORTS, fieldKey (bridgePage 0) Bridge.FDB_CTL_VID]) ∧
      t.bridge = s.bridge ∧ SameMemory s t ∧ SameFaults s t := by
  have hmem : ∀ {t : State}, exec (.fdbRead req w) s = .next t → SameMemory s t := fun ht =>
    .of_exec ht (by rw [exec]; exact answers_fdbRead (Quiet.refl s))
  let l : List (Field × Nat) := [(Bridge.FDB_ENTRY_LO_ADDR, e.addr), (Bridge.FDB_ENTRY_HI_ADDR, e.addr / 2 ^ 32), (Bridge.FDB_CTL_VALID, bit e.valid),
    (Bridge.FDB_CTL_STATIC, bit e.isStatic), (Bridge.FDB_CTL_PORTS, e.ports), (Bridge.FDB_CTL_VID, e.vid)]
  have ht : exec (.fdbRead req w) s = .next (if w.toNat.testBit 31 then s.event (bridgePage 0) 1 else s.putAll (bridgePage 0) l) := by
    rw [exec, execFdbRead, State.onWrite_served h]
    subst he
    rfl
  change Completes _ _ fun t => (w.toNat.testBit 31 = true → _) ∧ (w.toNat.testBit 31 = false → _) ∧ _
  cases hb : w.toNat.testBit 31 with
  | true =>
    rw [hb, if_pos rfl] at ht
    exact ⟨_, ht, fun _ => State.eventBit_event _ _ (by decide), nofun, rfl, hmem ht, rfl, rfl⟩
  | false =>
    rw [hb, if_neg Bool.false_ne_true] at ht
    have hnodup : (l.map fun e => fieldKey (bridgePage 0) e.1).Nodup :=
      (by decide : ([Bridge.FDB_ENTRY_LO_ADDR, Bridge.FDB_ENTRY_HI_ADDR, Bridge.FDB_CTL_VALID, Bridge.FDB_CTL_STATIC, Bridge.FDB_CTL_PORTS,
        Bridge.FDB_CTL_VID].map (fieldKey (bridgePage 0))).Nodup)
    have hget : ∀ f n, (f, n) ∈ l → (s.putAll (bridgePage 0) l).get (bridgePage 0) f = n % f.size := fun f n hm => s.get_putAll_mem hnodup hm
    have hflag : ∀ f b, f.size = 2 → (f, bit b) ∈ l → (s.putAll (bridgePage 0) l).flag (bridgePage 0) f = b := fun f b hs hm => by
      rw [State.flag, hget f _ hm, hs]
      cases b <;> rfl
    have hkeep : ∀ {β : Type} (g : State → β), (∀ (t : State) (e : Field × Nat), g (t.put (bridgePage 0) e.1 e.2) = g t) →
        g (s.putAll (bridgePage 0) l) = g s := fun g hg => foldl_keeps hg l s
    refine ⟨_, ht, nofun, fun _ => ⟨hget _ _ (by simp [l]), hget _ _ (by simp [l]), hflag _ _ (by decide) (by simp [l]), hflag _ _ (by decide) (by simp [l]),
      hget _ _ (by simp [l]), hget _ _ (by simp [l]), ?_⟩, hkeep State.bridge fun _ _ => rfl, hmem ht, hkeep State.flt fun _ _ => rfl,
      hkeep State.due fun _ _ => rfl⟩
    exact (OnlyRegs.refl s _).foldl fun t e hm ht => ht.put _ _ _ (List.mem_map_of_mem (f := fun e : Field × Nat => fieldKey (bridgePage 0) e.1) hm)

theorem fdbAgeOut_effect (i : Fin 1024) (s : State) :
    Completes (.fdbAgeOut i) s fun t =>
      ((s.fdbEntry i).isStatic = false → s.get (bridgePage 0) Bridge.FDB_AGE_AGE_S ≠ 0 → (t.fdbEntry i).valid = false ∧
        ∀ j, j ≠ i.val → t.fdbEntry j = s.fdbEntry j) ∧
      ((s.fdbEntry i).isStatic = true ∨ s.get (bridgePage 0) Bridge.FDB_AGE_AGE_S = 0 → t = s) ∧ t.regs = s.regs ∧ SameMemory s t ∧ SameFaults s t := by
  by_cases h : (s.fdbEntry i).isStatic = true ∨ s.get (bridgePage 0) Bridge.FDB_AGE_AGE_S = 0
  · have ht : exec (.fdbAgeOut i) s = .next s := by
      rw [exec, execFdbAgeOut]
      exact congrArg _ (if_pos (by simpa using h))
    refine ⟨_, ht, fun h1 h2 => ?_, fun _ => rfl, rfl, fun _ _ => rfl, rfl, rfl⟩
    rcases h with h | h
    · rw [h1] at h
      cases h
    · exact absurd h h2
  · have ht : exec (.fdbAgeOut i) s = .next (s.putFdb i {}) := by
      rw [exec, execFdbAgeOut]
      exact congrArg _ (if_neg (by simpa using h))
    refine ⟨_, ht, fun _ _ => ⟨?_, fun j hj => s.fdbEntry_putFdb_other _ hj.symm⟩, fun h' => absurd h' h, rfl, fun _ _ => rfl, rfl, rfl⟩
    exact congrArg FdbEntry.valid (s.fdbEntry_putFdb_same ..)

/-! ## Gates and links -/

theorem gclChange_effect (req : Requester) (m : Fin 2) (w : Word) (s : State) (h : s.serves req (regOff (macPage m 3) Mac.GCL_CFG_CHANGE) = true) :
    Completes (.gclChange req m w) s fun t =>
      (t.mac m).admin = some ⟨(List.range (max 1 (min 256 (w.toNat % 2 ^ 9)))).map fun i =>
          (s.get (macPage m 3) (Mac.GCL_ADMIN_GATES.nth i), max 64 (s.get (macPage m 3) (Mac.GCL_ADMIN_INTERVAL_NS.nth i))),
        s.get (macPage m 3) Mac.GCL_CYCLE_NS,
        s.get (macPage m 3) (Mac.GCL_BASE_BASE.nth 0) + s.get (macPage m 3) (Mac.GCL_BASE_BASE.nth 1) * 2 ^ 32⟩ ∧
      (t.mac m).oper = (s.mac m).oper ∧ t.flag (macPage m 3) Mac.GCL_CFG_EN = w.getLsbD 31 ∧ t.flag (macPage m 3) Mac.GCL_CFG_PENDING = true ∧
      OnlyRegs s t [fieldKey (macPage m 3) Mac.GCL_CFG_EN, fieldKey (macPage m 3) Mac.GCL_CFG_ADMIN_LEN,
        fieldKey (macPage m 3) Mac.GCL_CFG_PENDING] ∧ SameMemory s t ∧ SameFaults s t := by
  let t := s.put (macPage m 3) Mac.GCL_CFG_EN (bitsOf w.toNat 31 31)
  let u := t.put (macPage m 3) Mac.GCL_CFG_ADMIN_LEN (Mac.GCL_CFG_ADMIN_LEN.stored (bitsOf w.toNat 8 0))
  let g : GateList := ⟨(List.range (u.get (macPage m 3) Mac.GCL_CFG_ADMIN_LEN)).map fun i =>
      (u.get (macPage m 3) (Mac.GCL_ADMIN_GATES.nth i), max 64 (u.get (macPage m 3) (Mac.GCL_ADMIN_INTERVAL_NS.nth i))),
    u.get (macPage m 3) Mac.GCL_CYCLE_NS, u.get (macPage m 3) (Mac.GCL_BASE_BASE.nth 0) + u.get (macPage m 3) (Mac.GCL_BASE_BASE.nth 1) * 2 ^ 32⟩
  let v := u.putMac m { u.mac m with admin := some g }
  have ht : exec (.gclChange req m w) s = .next (v.put (macPage m 3) Mac.GCL_CFG_PENDING 1) := by
    rw [exec, execGclChange, State.onWrite_served h]
  have hlen : u.get (macPage m 3) Mac.GCL_CFG_ADMIN_LEN = max 1 (min 256 (w.toNat % 2 ^ 9)) := by
    refine (State.get_put_same ..).trans ?_
    have hclamp : Mac.GCL_CFG_ADMIN_LEN.stored (bitsOf w.toNat 8 0) = max 1 (min (w.toNat / 2 ^ 0 % 2 ^ 9) 256) / 1 * 1 := rfl
    have hsize : Mac.GCL_CFG_ADMIN_LEN.size = 512 := rfl
    rw [hclamp, hsize]
    omega
  have hother : ∀ f, fieldKey (macPage m 3) Mac.GCL_CFG_ADMIN_LEN ≠ fieldKey (macPage m 3) f →
      fieldKey (macPage m 3) Mac.GCL_CFG_EN ≠ fieldKey (macPage m 3) f → u.get (macPage m 3) f = s.get (macPage m 3) f :=
    fun f h1 h2 => (State.get_put_other _ _ h1).trans (State.get_put_other _ _ h2)
  have hfield : ∀ f, Mac.GCL_CFG_ADMIN_LEN.place ≠ f.place ∧ Mac.GCL_CFG_EN.place ≠ f.place → u.get (macPage m 3) f = s.get (macPage m 3) f :=
    fun f ⟨h1, h2⟩ => hother f (fun he => h1 (by unfold fieldKey at he; unfold Field.place; omega))
      fun he => h2 (by unfold fieldKey at he; unfold Field.place; omega)
  have hentry : ∀ i, u.get (macPage m 3) (Mac.GCL_ADMIN_GATES.nth i) = s.get (macPage m 3) (Mac.GCL_ADMIN_GATES.nth i) ∧
      u.get (macPage m 3) (Mac.GCL_ADMIN_INTERVAL_NS.nth i) = s.get (macPage m 3) (Mac.GCL_ADMIN_INTERVAL_NS.nth i) := fun i => by
    refine ⟨hfield _ ?_, hfield _ ?_⟩ <;>
      · simp only [Field.place, Field.nth, Mac.GCL_CFG_ADMIN_LEN, Mac.GCL_CFG_EN, Mac.GCL_ADMIN_GATES, Mac.GCL_ADMIN_INTERVAL_NS]
        omega
  have hg : g = ⟨(List.range (max 1 (min 256 (w.toNat % 2 ^ 9)))).map fun i =>
      (s.get (macPage m 3) (Mac.GCL_ADMIN_GATES.nth i), max 64 (s.get (macPage m 3) (Mac.GCL_ADMIN_INTERVAL_NS.nth i))),
    s.get (macPage m 3) Mac.GCL_CYCLE_NS, s.get (macPage m 3) (Mac.GCL_BASE_BASE.nth 0) + s.get (macPage m 3) (Mac.GCL_BASE_BASE.nth 1) * 2 ^ 32⟩ := by
    simp only [g, hlen, hentry, hfield Mac.GCL_CYCLE_NS (by decide), hfield (Mac.GCL_BASE_BASE.nth 0) (by decide),
      hfield (Mac.GCL_BASE_BASE.nth 1) (by decide)]
  have hmac : v.mac m = { u.mac m with admin := some g } := by rw [State.mac_putMac_same]
  have hen : ∀ m : Fin 2, fieldKey (macPage m 3) Mac.GCL_CFG_PENDING ≠ fieldKey (macPage m 3) Mac.GCL_CFG_EN ∧
      fieldKey (macPage m 3) Mac.GCL_CFG_ADMIN_LEN ≠ fieldKey (macPage m 3) Mac.GCL_CFG_EN := by decide
  have hu : OnlyRegs s u [fieldKey (macPage m 3) Mac.GCL_CFG_EN, fieldKey (macPage m 3) Mac.GCL_CFG_ADMIN_LEN, fieldKey (macPage m 3) Mac.GCL_CFG_PENDING] :=
    ((OnlyRegs.refl s _).put _ _ _ (.head _)).put _ _ _ (.tail _ (.head _))
  refine ⟨_, ht, (congrArg MacSt.admin hmac).trans (congrArg some hg), (congrArg MacSt.oper hmac).trans rfl, ?_, State.flag_put_one ..,
    (hu.trans (.of_regs (t := v) rfl _)).put _ _ _ (by simp), .of_exec ht (by rw [exec]; exact answers_gclChange (Quiet.refl s)), rfl, rfl⟩
  have hbit : t.flag (macPage m 3) Mac.GCL_CFG_EN = w.toNat.testBit 31 := by
    simp only [t, bitsOf_one, State.flag_put_bit]
  exact (State.flag_put_other v 1 (hen m).1).trans ((State.flag_put_other t _ (hen m).2).trans hbit)

theorem gclCycleStart_effect (m : Fin 2) (s : State) :
    Completes (.gclCycleStart m) s fun t =>
      (∀ g, (s.mac m).admin = some g → (t.mac m).oper = some g) ∧ ((s.mac m).admin = none → (t.mac m).oper = (s.mac m).oper) ∧
      (t.mac m).admin = none ∧ (t.mac m).entry = 0 ∧ (t.mac m).entryStart = s.now ∧ t.flag (macPage m 3) Mac.GCL_CFG_PENDING = false ∧
      OnlyRegs s t [fieldKey (macPage m 3) Mac.GCL_CFG_PENDING] ∧ SameMemory s t ∧ SameFaults s t := by
  let x := s.mac m
  let y : MacSt := { x with oper := (match x.admin with | some g => some g | none => x.oper), admin := none, entry := 0, entryStart := s.now, cycleStart := s.now }
  have ht : exec (.gclCycleStart m) s = .next ((s.putMac m y).put (macPage m 3) Mac.GCL_CFG_PENDING 0) := by
    rw [exec, execGclCycleStart] <;> rfl
  have hmac : ((s.putMac m y).put (macPage m 3) Mac.GCL_CFG_PENDING 0).mac m = y := s.mac_putMac_same m y
  refine ⟨_, ht, fun g hg => ?_, fun hg => ?_, congrArg MacSt.admin hmac, congrArg MacSt.entry hmac, congrArg MacSt.entryStart hmac, State.flag_put_zero ..,
    (OnlyRegs.of_regs rfl _).put _ _ _ (.head _), .of_exec ht (by rw [exec]; exact answers_gclCycleStart (Quiet.refl s)), rfl, rfl⟩
  · refine (congrArg MacSt.oper hmac).trans ?_
    simp only [y, x, hg]
  · refine (congrArg MacSt.oper hmac).trans ?_
    simp only [y, x, hg]

theorem gclEntryAdvance_effect (m : Fin 2) (s : State) (g : GateList) (hg : (s.mac m).oper = some g) :
    Completes (.gclEntryAdvance m) s fun t =>
      ((s.mac m).entry + 1 < g.run.length → (t.mac m).entry = (s.mac m).entry + 1 ∧ (t.mac m).entryStart = s.now) ∧
      (g.run.length ≤ (s.mac m).entry + 1 → t = s) ∧ t.regs = s.regs ∧ SameMemory s t ∧ SameFaults s t := by
  have heq : exec (.gclEntryAdvance m) s = .next (if (s.mac m).entry + 1 < g.run.length
      then s.putMac m { s.mac m with entry := (s.mac m).entry + 1, entryStart := s.now } else s) := by
    rw [exec, execGclEntryAdvance]
    simp only [hg]
  by_cases h : (s.mac m).entry + 1 < g.run.length
  · rw [if_pos h] at heq
    refine ⟨_, heq, fun _ => ?_, fun h' => by omega, rfl, fun _ _ => rfl, rfl, rfl⟩
    rw [State.mac_putMac_same]
    exact ⟨rfl, rfl⟩
  · rw [if_neg h] at heq
    exact ⟨_, heq, fun h' => absurd h' h, fun _ => rfl, rfl, fun _ _ => rfl, rfl, rfl⟩

theorem macLinkChange_effect (m : Fin 2) (lock remoteFault fecLock : Bool) (s : State) :
    Completes (.macLinkChange m lock remoteFault fecLock) s fun t =>
      t.flag (macPage m 0) Mac.MAC_STAT_LINK = (lock && !remoteFault) ∧ t.flag (macPage m 0) Mac.MAC_STAT_FEC_LOCK = fecLock ∧
      (lock = true → remoteFault = false → s.flag (macPage m 0) Mac.MAC_STAT_LINK = false → t.eventBit (macPage m 0) 0 = true) ∧
      (lock = false ∨ remoteFault = true → s.flag (macPage m 0) Mac.MAC_STAT_LINK = true → t.eventBit (macPage m 0) 1 = true) ∧
      t.condBit (macPage m 0) 0 = (s.flag (macPage m 0) Hdr.CTRL_EN && !(lock && !remoteFault)) ∧ t.macs = s.macs ∧ SameMemory s t := by
  let pg := macPage m 0
  let up := lock && !remoteFault
  let was := s.flag pg Mac.MAC_STAT_LINK
  let t := (s.put pg Mac.MAC_STAT_LINK (bit up)).put pg Mac.MAC_STAT_FEC_LOCK (bit fecLock)
  let u := (t.eventIf (up && !was) pg 0).eventIf (!up && was) pg 1
  have ht : exec (.macLinkChange m lock remoteFault fecLock) s = .next (u.cond pg 0 (u.flag pg Hdr.CTRL_EN && !up)) := rfl
  have hkeys : ∀ m : Fin 2, fieldKey (macPage m 0) Mac.MAC_STAT_FEC_LOCK ≠ fieldKey (macPage m 0) Mac.MAC_STAT_LINK ∧
      ∀ f ∈ [Mac.MAC_STAT_LINK, Mac.MAC_STAT_FEC_LOCK, Hdr.CTRL_EN], fieldKey (macPage m 0) Hdr.EVT_STAT_EVENT ≠ fieldKey (macPage m 0) f ∧
        fieldKey (macPage m 0) Hdr.FLT_STAT_FAULT ≠ fieldKey (macPage m 0) f := by decide
  have k3 : ∀ m : Fin 2, fieldKey (macPage m 0) Hdr.FLT_STAT_FAULT ≠ fieldKey (macPage m 0) Hdr.EVT_STAT_EVENT := by decide
  have k4 : ∀ m : Fin 2, fieldKey (macPage m 0) Mac.MAC_STAT_FEC_LOCK ≠ fieldKey (macPage m 0) Hdr.CTRL_EN ∧
      fieldKey (macPage m 0) Mac.MAC_STAT_LINK ≠ fieldKey (macPage m 0) Hdr.CTRL_EN := by decide
  obtain ⟨k1, k2⟩ := hkeys m
  have hflag : ∀ f ∈ [Mac.MAC_STAT_LINK, Mac.MAC_STAT_FEC_LOCK, Hdr.CTRL_EN], u.flag pg f = t.flag pg f := fun f hf =>
    State.flag_congr t ((State.get_eventIf_other _ _ _ (k2 f hf).1).trans (State.get_eventIf_other _ _ _ (k2 f hf).1))
  have hcond : ∀ f ∈ [Mac.MAC_STAT_LINK, Mac.MAC_STAT_FEC_LOCK, Hdr.CTRL_EN], ∀ p, (u.cond pg 0 p).flag pg f = t.flag pg f := fun f hf p =>
    (State.flag_congr u (State.get_cond_other u _ _ (k2 f hf).2)).trans (hflag f hf)
  have hlink : t.flag pg Mac.MAC_STAT_LINK = up := by
    rw [State.flag_put_other _ _ k1, State.flag_put_bit]
  have hevent : ∀ b < 32, (u.cond pg 0 (u.flag pg Hdr.CTRL_EN && !up)).eventBit pg b =
      (t.eventBit pg b || ((up && !was) && decide (0 = b)) || ((!up && was) && decide (1 = b))) := fun b hb => by
    rw [State.eventBit_congr u (State.get_cond_other u _ _ (k3 m)), State.eventBit_eventIf _ hb, State.eventBit_eventIf _ hb]
  refine ⟨_, ht, (hcond _ (by simp) _).trans hlink, (hcond _ (by simp) _).trans (State.flag_put_bit ..), fun h1 h2 h3 => ?_, fun h1 h2 => ?_, ?_, ?_,
    .of_exec ht (by rw [exec]; exact answers_macLinkChange (Quiet.refl s))⟩
  · have hwas : was = false := h3
    rw [hevent 0 (by decide), show up = true by simp [up, h1, h2], hwas]
    simp
  · have hwas : was = true := h2
    rw [hevent 1 (by decide), show up = false by simpa [up] using fun h => h1.resolve_left (by simp [h]), hwas]
    simp
  · rw [State.condBit_cond, hflag _ (by simp)]
    have hen : t.flag pg Hdr.CTRL_EN = s.flag pg Hdr.CTRL_EN := (State.flag_put_other _ _ (k4 m).1).trans (State.flag_put_other _ _ (k4 m).2)
    rw [hen]
  · exact (State.cond_macs ..).trans ((State.eventIf_macs ..).trans (State.eventIf_macs ..))

/-- Settles O46. -/
theorem framesAreStampedForwardedAndSent : Obligations.FramesAreStampedForwardedAndSent :=
  ⟨ethFrameRx_effect, ethFrameTx_effect, tsPop_effect, fdbWrite_effect, fdbRead_effect, fdbAgeOut_effect, gclChange_effect, gclCycleStart_effect,
    gclEntryAdvance_effect, macLinkChange_effect⟩

end Sys2Proof.Machine
end

section
/-! PROOFS. The control cores and their command ring (R528 to R540). -/

namespace Sys2Proof.Machine

/-! ## The bytes of a completion record (R536) -/

theorem ofBytesLE_toBytesLE (n v : Nat) : ofBytesLE (toBytesLE n v) = v % 256 ^ n := by
  induction n generalizing v with
  | zero => simp [toBytesLE, ofBytesLE, Nat.mod_one]
  | succ n ih =>
    have hpow : (256 : Nat) ^ (n + 1) = 256 * 256 ^ n := Nat.pow_succ'
    rw [toBytesLE, ofBytesLE, ih, BitVec.toNat_ofNat, hpow, Nat.mod_mul]

/-- The fields of a completion's record. -/
theorem Completion.record_fields (c : Completion) (k : Nat) :
    fieldLE (c.record k) 0 1 = c.count % 256 ∧ fieldLE (c.record k) 1 1 = c.gen % 256 ∧ fieldLE (c.record k) 2 2 = c.status % 2 ^ 16 ∧
    fieldLE (c.record k) 4 4 = c.result0 % 2 ^ 32 ∧ fieldLE (c.record k) 8 4 = c.result1 % 2 ^ 32 ∧ fieldLE (c.record k) 12 2 = c.detail % 2 ^ 16 ∧
    fieldLE (c.record k) 15 1 = k / 256 % 2 ∧ (c.record k).length = 16 := by
  have h0 : fieldLE (c.record k) 0 1 = ofBytesLE (toBytesLE 1 (c.count % 256)) := rfl
  have h1 : fieldLE (c.record k) 1 1 = ofBytesLE (toBytesLE 1 c.gen) := rfl
  have h2 : fieldLE (c.record k) 2 2 = ofBytesLE (toBytesLE 2 c.status) := rfl
  have h4 : fieldLE (c.record k) 4 4 = ofBytesLE (toBytesLE 4 c.result0) := rfl
  have h8 : fieldLE (c.record k) 8 4 = ofBytesLE (toBytesLE 4 c.result1) := rfl
  have h12 : fieldLE (c.record k) 12 2 = ofBytesLE (toBytesLE 2 c.detail) := rfl
  have h15 : fieldLE (c.record k) 15 1 = ofBytesLE (toBytesLE 1 (k / 256 % 2)) := rfl
  rw [h0, h1, h2, h4, h8, h12, h15]
  simp only [ofBytesLE_toBytesLE]
  refine ⟨by omega, rfl, rfl, rfl, rfl, rfl, by omega, rfl⟩

/-! ## Untranslated local memory -/

/-- Bytes within one 64 KiB block are one piece. -/
theorem granules_within {ba n : Nat} (hn : 0 < n) (h : ba % 65536 + n ≤ 65536) : granules ba n = [(ba, n)] := by
  have hsmall : n / 65536 = 0 ∨ n = 65536 := by omega
  have hterm : ∀ i, (let lo := max ba ((ba / 65536 + i) * 65536)
      let hi := min (ba + n) ((ba / 65536 + i + 1) * 65536)
      if lo < hi then some (lo, hi - lo) else none) = if i = 0 then some (ba, n) else none := fun i => by
    dsimp only
    by_cases hi : i = 0
    · subst hi
      have hlo : max ba ((ba / 65536 + 0) * 65536) = ba := by omega
      have hhi : min (ba + n) ((ba / 65536 + 0 + 1) * 65536) = ba + n := by omega
      rw [hlo, hhi, if_pos (by omega), if_pos rfl, Nat.add_sub_cancel_left]
    · rw [if_neg hi, if_neg (by omega)]
  unfold granules
  simp only [hterm]
  have hrange : ∀ m, (List.range (m + 1)).filterMap (fun i => if i = 0 then some (ba, n) else none) = [(ba, n)] := fun m => by
    rw [List.range_succ_eq_map, List.filterMap_cons]
    simp
  exact hrange (n / 65536 + 1)

section
variable {s : State} {h ba : Nat} (hflat : s.flatMemory h) (hcap : ba < s.memCapacity h) (hmax : s.memCapacity h ≤ 2 ^ 52)
include hflat hcap hmax

theorem State.translate_flat (write drift : Bool) : s.translate h ba write drift 0 = (.ok (false, ba), s) := by
  have hsmall := Nat.not_le_of_lt (Nat.lt_of_lt_of_le hcap hmax)
  have hin := Nat.not_le_of_lt hcap
  have hoff : (!s.liveFlag (hbPage h 7) Harbour.TR_ROOT_LO_EN) = true := by rw [hflat]; rfl
  rw [State.translate]
  obtain ⟨walk, hwalk⟩ : ∃ w, w = State.walk := ⟨_, rfl⟩
  rw [← hwalk]
  dsimp only
  rw [if_neg hsmall, if_pos hoff, if_neg hin]

theorem State.translateFor_flat (k : Nat) (write drift : Bool) (ecc : List EccResult) :
    s.translateFor h k ba write drift ecc = (.ok (false, ba), s) := by
  have hreads : s.walkReads h ba = [] := by
    rw [State.walkReads, hflat]
    simp
  have htranslate := State.translate_flat hflat hcap hmax write drift
  unfold State.translateFor
  rw [hreads]
  have hfind : (if s.flag (hbPage h 0) Harbour.HB_STAT_ECC_ON then ecc.take 0 else []) = [] := by
    split
    · exact List.take_zero
    · rfl
  simp only [List.length_nil, hfind, List.findIdx?_nil, if_true, Nat.mul_zero, htranslate, List.zip_nil_left, List.foldl_nil]

theorem State.coreXlate_flat (cls : Nat) (write host : Bool) (v : MemView) : s.coreXlate h cls ba write host v = (.ok (false, ba), s) := by
  rw [State.coreXlate, State.translateFor_flat hflat hcap hmax]

/-- A core's write of bytes of one block stores them there. -/
theorem State.coreWrite_flat {bytes : List Byte} (hn : 0 < bytes.length) (hblock : ba % 65536 + bytes.length ≤ 65536) (host : Bool) :
    s.coreWrite h ba bytes host = (none, s.memWrite h ba bytes) := by
  unfold State.coreWrite
  rw [granules_within hn hblock, List.foldl_cons, List.foldl_nil]
  dsimp only
  rw [State.coreXlate_flat hflat hcap hmax, Nat.sub_self, List.drop_zero, List.take_length]

/-- A core's read of bytes of one block, where no line of it fails, brings what is there and changes nothing. -/
theorem State.coreRead_flat {n : Nat} {v : MemView} (herrs : v.errs = []) (hn : 0 < n) (hblock : ba % 65536 + n ≤ 65536) :
    s.coreRead h ba n 4 v = (.ok (s.memRead h ba n), v, s) := by
  have hpiece : s.corePiece h ba n 4 v = (.ok (s.memRead h ba n), v, s) := by
    unfold State.corePiece
    rw [State.coreXlate_flat hflat hcap hmax]
    dsimp only
    have hcharge : ∀ x, s.charge h 4 n x = s := fun x => rfl
    have hlines : s.checkLines h ba n v = (false, s) := by
      rw [State.checkLines, herrs]
      rfl
    rw [hcharge, hlines]
    rfl
  unfold State.coreRead
  rw [granules_within hn hblock, List.foldl_cons, List.foldl_nil]
  dsimp only
  rw [hpiece]
  rfl

end

/-! ## What an access of a core leaves alone -/

/-- The cores, the plan and the registers below the Harbours are as before. -/
structure AtHarbour (s t : State) : Prop where
  cores : t.cores = s.cores
  tide : t.tide = s.tide
  writes : WritesIn (fun k => 0x800 ≤ k / 0x8000) s t

theorem AtHarbour.refl (s : State) : AtHarbour s s := ⟨rfl, rfl, WritesIn.refl _ s⟩

theorem AtHarbour.trans {s t u : State} (h : AtHarbour s t) (k : AtHarbour t u) : AtHarbour s u := ⟨k.cores.trans h.cores, k.tide.trans h.tide, h.writes.trans k.writes⟩

theorem AtHarbour.of_same {s t : State} (hcores : t.cores = s.cores) (htide : t.tide = s.tide) (hregs : t.regs = s.regs) : AtHarbour s t :=
  ⟨hcores, htide, .of_regs _ hregs⟩

theorem AtHarbour.ite {c : Prop} [Decidable c] {s t u : State} (h : AtHarbour s t) (k : AtHarbour s u) : AtHarbour s (if c then t else u) := by
  split
  · exact h
  · exact k

theorem AtHarbour.foldl {α : Type} {f : State → α → State} (h : ∀ s a, AtHarbour s (f s a)) (l : List α) (s : State) : AtHarbour s (l.foldl f s) := by
  induction l generalizing s with
  | nil => exact .refl s
  | cons a l ih => exact (h s a).trans (ih (f s a))

theorem AtHarbour.foldl_snd {α β : Type} {f : β × State → α → β × State} (h : ∀ a x, AtHarbour a.2 (f a x).2) (l : List α) (a : β × State) :
    AtHarbour a.2 (l.foldl f a).2 := by
  induction l generalizing a with
  | nil => exact .refl _
  | cons x l ih => exact (h a x).trans (ih (f a x))

theorem le_hbKey (h p : Nat) (f : Field) : 0x800 ≤ fieldKey (hbPage h p) f / 0x8000 := by
  have := le_fieldKey_div (hbPage h p) f
  simp only [hbPage, Block.page] at *
  omega

section
variable {s t : State} (ht : AtHarbour s t) {h p : Nat}
include ht

theorem AtHarbour.put {f : Field} (v : Nat) : AtHarbour s (t.put (hbPage h p) f v) := ⟨ht.cores, ht.tide, ht.writes.put v (le_hbKey ..)⟩
theorem AtHarbour.event (b : Nat) : AtHarbour s (t.event (hbPage h p) b) := ht.put _
theorem AtHarbour.raise (b : Nat) : AtHarbour s (t.raise (hbPage h p) b) :=
  ⟨(State.raise_cores ..).trans ht.cores, (State.raise_tide ..).trans ht.tide, ht.writes.raise (le_hbKey ..)⟩
theorem AtHarbour.occur (b : Nat) : AtHarbour s (t.occur (hbPage h p) b) :=
  ⟨(State.occur_cores ..).trans ht.cores, (State.occur_tide ..).trans ht.tide, ht.writes.occur (le_hbKey ..)⟩
theorem AtHarbour.putHarb (k : Nat) (x : HarbourSt) : AtHarbour s (t.putHarb k x) := ⟨ht.cores, ht.tide, ht.writes⟩

end

theorem State.eccApply_atHarbour (s : State) (h pa : Nat) (r : EccResult) : AtHarbour s (s.eccApply h pa r) := by
  cases r with
  | clean => exact .refl s
  | corrected =>
    have hcond : ∀ (t : State) p b c, AtHarbour t (t.cond (hbPage h p) b c) := fun t p b c =>
      ⟨State.cond_cores .., State.cond_tide .., (WritesIn.refl _ t).cond (le_hbKey ..)⟩
    show AtHarbour s (s.eccCorrected h _)
    unfold State.eccCorrected
    extract_lets x old recent a b
    exact ((((AtHarbour.refl s).putHarb _ _).put _).event _).trans (hcond b _ _ _)
  | uncorrectable =>
    show AtHarbour s (s.eccUncorrectable h pa)
    unfold State.eccUncorrectable
    extract_lets p a b
    exact ((((((AtHarbour.refl s).put _).put _).put _).event 1).occur 1)

theorem State.charge_atHarbour (s : State) (h k n v : Nat) : AtHarbour s (s.charge h k n v) := by
  unfold State.charge
  split
  · exact .refl s
  · extract_lets x t
    have ht : AtHarbour s t := (AtHarbour.refl s).putHarb _ _
    exact .ite ht (ht.put _)

theorem State.translate_atHarbour (s : State) (h ba : Nat) (write drift : Bool) (bad : Nat) : AtHarbour s (s.translate h ba write drift bad).2 := by
  rw [State.translate]
  obtain ⟨walk, hwalk⟩ : ∃ w, w = State.walk := ⟨_, rfl⟩
  rw [← hwalk]
  split
  · exact .refl s
  · split
    · exact .refl s
    · split
      · exact (AtHarbour.refl s).putHarb _ _
      · extract_lets t
        have ht : AtHarbour s t := (AtHarbour.refl s).put _
        split
        · exact ht
        · exact ht.putHarb _ _

theorem State.translateFor_atHarbour (s : State) (h k ba : Nat) (write drift : Bool) (ecc : List EccResult) :
    AtHarbour s (s.translateFor h k ba write drift ecc).2 := by
  unfold State.translateFor
  extract_lets all ecc' bad reads n t
  have ht : AtHarbour s t := .ite (.refl s) (s.charge_atHarbour ..)
  have hu := ht.trans (t.translate_atHarbour h ba write drift bad)
  generalize t.translate h ba write drift bad = r at hu
  exact hu.trans (.foldl (fun (t : State) (e : Nat × EccResult) => t.eccApply_atHarbour h e.1 e.2) _ _)

theorem State.xlateFault_atHarbour (s : State) (h r src ba : Nat) (write : Bool) (cause level : Nat) :
    AtHarbour s (s.xlateFault h r src ba write cause level) := by
  have h0 := AtHarbour.refl s
  unfold State.xlateFault
  extract_lets p a b c t
  have ht : AtHarbour s t := .ite (h0.put _) ((((((((h0.put _).put _).put _).put _).put _).put _).put _).put _)
  exact (ht.event 0).raise 0

theorem State.coreXlate_atHarbour (s : State) (h cls ba : Nat) (write host : Bool) (v : MemView) : AtHarbour s (s.coreXlate h cls ba write host v).2 := by
  unfold State.coreXlate
  have ht := s.translateFor_atHarbour h cls ba write host (s.walkErrors h ba v)
  generalize s.translateFor h cls ba write host (s.walkErrors h ba v) = r at ht
  obtain ⟨t, u⟩ := r
  dsimp only at ht ⊢
  split
  · exact ht
  · next cause level =>
    have hfree : AtHarbour u { u with free := u.free + 1 + 1 } := .of_same rfl rfl rfl
    exact ht.trans (hfree.trans (State.xlateFault_atHarbour _ ..))

theorem State.hostWriteBurst_atHarbour (s : State) (h addr : Nat) (bytes : List Byte) (ro ns : Bool) :
    AtHarbour s (s.hostWriteBurst h addr bytes ro ns false) := by
  unfold State.hostWriteBurst
  extract_lets n sizes relaxed noSnoop
  rw [if_neg (by simp)]
  have hfold : ∀ (l : List Nat) (a : State × Nat), AtHarbour s a.1 → AtHarbour s (l.foldl (fun (a : State × Nat) size =>
      (a.1.emit (.hostWrite h (addr + a.2) ((bytes.drop a.2).take size) relaxed noSnoop), a.2 + size)) a).1 := by
    intro l
    induction l with
    | nil => exact fun _ h => h
    | cons x l ih => exact fun a h => ih _ ⟨h.cores, h.tide, h.writes⟩
  exact hfold sizes (s, 0) (.refl s)

theorem State.coreWrite_atHarbour (s : State) (h ba : Nat) (bytes : List Byte) (host : Bool) : AtHarbour s (s.coreWrite h ba bytes host).2 := by
  unfold State.coreWrite
  refine AtHarbour.foldl_snd (fun a g => ?_) _ (none, s)
  obtain ⟨o, u⟩ := a
  cases o with
  | some e => exact .refl u
  | none =>
    dsimp only
    have hx := u.coreXlate_atHarbour h 4 g.1 true host {}
    split
    · next heq => rw [heq] at hx; exact hx
    · next heq => rw [heq] at hx; exact hx.trans (State.hostWriteBurst_atHarbour ..)
    · next heq => rw [heq] at hx; exact hx.putHarb _ _

/-! ## The completion ring (R536) -/

/-- A source of the Beacon fires: the cores and both memories stay, and the registers of other pages. -/
theorem State.fireSource_keeps (s : State) (n : Nat) : (s.fireSource n).cores = s.cores ∧ (s.fireSource n).harbours = s.harbours ∧
    WritesIn (fun k => k / 0x8000 = bcnPage) s (s.fireSource n) := by
  have hkey : ∀ f ∈ [Beacon.BCN_FIRINGS_COUNT, Beacon.BCN_MERGED_COUNT, Hdr.FLT_STAT_FAULT], fieldKey bcnPage f / 0x8000 = bcnPage := by decide
  unfold State.fireSource
  extract_lets a x
  have ha : a.cores = s.cores ∧ a.harbours = s.harbours ∧ WritesIn (fun k => k / 0x8000 = bcnPage) s a := by
    have howe : (s.oweMsix (1024 + n)).cores = s.cores ∧ (s.oweMsix (1024 + n)).harbours = s.harbours ∧ (s.oweMsix (1024 + n)).regs = s.regs := by
      unfold State.oweMsix
      split <;> exact ⟨rfl, rfl, rfl⟩
    exact ⟨howe.1, howe.2.1, (WritesIn.of_regs _ howe.2.2).countWrap (hkey Beacon.BCN_FIRINGS_COUNT (by simp))⟩
  obtain ⟨ha1, ha2, ha3⟩ := ha
  clear_value a
  split
  · exact ⟨ha1, ha2, ha3⟩
  · split
    · exact ⟨ha1, ha2, ha3.countSat (hkey Beacon.BCN_MERGED_COUNT (by simp))⟩
    · have hput : ∀ y, (a.putSrc n y).cores = a.cores ∧ (a.putSrc n y).harbours = a.harbours ∧ (a.putSrc n y).regs = a.regs := fun _ => ⟨rfl, rfl, rfl⟩
      obtain ⟨h1, h2, h3⟩ := hput { x with pend := true, fired := a.time.c }
      generalize a.putSrc n { x with pend := true, fired := a.time.c } = t at h1 h2 h3
      have hjudge : t.judgeBeacon.cores = t.cores ∧ t.judgeBeacon.harbours = t.harbours := by simp [State.judgeBeacon]
      have hw : WritesIn (fun k => k / 0x8000 = bcnPage) t t.judgeBeacon := by
        have hflt := hkey Hdr.FLT_STAT_FAULT (by simp)
        exact (((WritesIn.refl _ t).cond hflt).cond hflt).cond hflt
      exact ⟨hjudge.1.trans (h1.trans ha1), hjudge.2.trans (h2.trans ha2), (ha3.regs h3).trans hw⟩

/-- The tail of the completion ring. -/
def cplTailKey : Nat := fieldKey ringPage Lp.CPL_TAIL_COUNT

/-- A completion whose record is in place: it and its entry are gone, the tail moves on, and its source fires where it asks for it. -/
def State.recordEnds (s : State) (c : Completion) : State :=
  let x := s.cores
  let t := { s with cores := { x with waiting := x.waiting.filter (fun d => d.count != c.count), entries := x.entries.filter (fun e => e.count != c.count) } }
  let u := t.countWrap ringPage Lp.CPL_TAIL_COUNT
  if c.irq then u.fireSource (u.get ringPage Lp.CMD_CFG_CPL_SRC) else u

theorem State.recordEnds_effect (s : State) (c : Completion) :
    (s.recordEnds c).cores = { s.cores with waiting := s.cores.waiting.filter (fun d => d.count != c.count),
                                            entries := s.cores.entries.filter (fun e => e.count != c.count) } ∧
    (s.recordEnds c).get ringPage Lp.CPL_TAIL_COUNT = (s.get ringPage Lp.CPL_TAIL_COUNT + 1) % 65536 ∧ (s.recordEnds c).harbours = s.harbours := by
  unfold State.recordEnds
  extract_lets x t u
  have hu : u.cores = { s.cores with waiting := s.cores.waiting.filter (fun d => d.count != c.count),
                                     entries := s.cores.entries.filter (fun e => e.count != c.count) } ∧
      u.get ringPage Lp.CPL_TAIL_COUNT = (s.get ringPage Lp.CPL_TAIL_COUNT + 1) % 65536 ∧ u.harbours = s.harbours :=
    ⟨rfl, State.get_put_same .., rfl⟩
  clear_value u
  split
  · obtain ⟨h1, h2, h3⟩ := u.fireSource_keeps (u.get ringPage Lp.CMD_CFG_CPL_SRC)
    exact ⟨h1.trans hu.1, (h3.get (by decide)).trans hu.2.1, h2.trans hu.2.2⟩
  · exact hu

theorem State.writeRecord_eq {s : State} (hroom : s.cplFull = false) (h : Nat) (c : Completion) :
    s.writeRecord h c = (s.coreWrite h (s.cplBase + 16 * (s.get ringPage Lp.CPL_TAIL_COUNT % 256))
      (c.record (s.get ringPage Lp.CPL_TAIL_COUNT)) true).2.recordEnds c := by
  unfold State.writeRecord
  rw [hroom, if_neg Bool.false_ne_true]
  rfl

/-- The place of the record that comes next lies within one block, and within the memory that holds the ring. -/
theorem State.record_place {s : State} {h : Nat} (hcap : s.cplBase + 4096 ≤ s.memCapacity h) (tail : Nat) :
    s.cplBase + 16 * (tail % 256) < s.memCapacity h ∧ (s.cplBase + 16 * (tail % 256)) % 65536 + 16 ≤ 65536 := by
  have hbase : s.cplBase % 4096 = 0 := by
    unfold State.cplBase
    omega
  omega

theorem State.memRead_memWrite (s : State) (h pa : Nat) (l : List Byte) : (s.memWrite h pa l).memRead h pa l.length = l := by
  refine List.ext_getElem (by simp [State.memRead]) fun i h1 h2 => ?_
  simp only [State.memRead, List.getElem_map, List.getElem_range]
  rw [State.memByte_memWrite, dif_pos ⟨rfl, by omega, by omega⟩]
  simp only [Nat.add_sub_cancel_left]

theorem State.memRead_congr {s t : State} (h : t.harbours = s.harbours) (k pa n : Nat) : t.memRead k pa n = s.memRead k pa n := by
  simp only [State.memRead, State.memByte, State.harb, h]

/-- A completion's record is written: the completion and its entry are gone, the tail moves on, and in untranslated local memory the record is there. -/
theorem State.writeRecord_effect {s : State} (hroom : s.cplFull = false) (h : Nat) (c : Completion) :
    (s.writeRecord h c).cores = { s.cores with waiting := s.cores.waiting.filter (fun d => d.count != c.count),
                                               entries := s.cores.entries.filter (fun e => e.count != c.count) } ∧
    (s.writeRecord h c).get ringPage Lp.CPL_TAIL_COUNT = (s.get ringPage Lp.CPL_TAIL_COUNT + 1) % 65536 ∧
    (s.flatMemory h → s.cplBase + 4096 ≤ s.memCapacity h → s.memCapacity h ≤ 2 ^ 52 →
      (s.writeRecord h c).memRead h (s.cplBase + 16 * (s.get ringPage Lp.CPL_TAIL_COUNT % 256)) 16 = c.record (s.get ringPage Lp.CPL_TAIL_COUNT)) := by
  rw [State.writeRecord_eq hroom]
  have ha := s.coreWrite_atHarbour h (s.cplBase + 16 * (s.get ringPage Lp.CPL_TAIL_COUNT % 256)) (c.record (s.get ringPage Lp.CPL_TAIL_COUNT)) true
  have hget : (s.coreWrite h (s.cplBase + 16 * (s.get ringPage Lp.CPL_TAIL_COUNT % 256)) (c.record (s.get ringPage Lp.CPL_TAIL_COUNT)) true).2.get
      ringPage Lp.CPL_TAIL_COUNT = s.get ringPage Lp.CPL_TAIL_COUNT := ha.writes.get (by decide)
  generalize s.get ringPage Lp.CPL_TAIL_COUNT = tail at ha hget ⊢
  have hwrite : s.flatMemory h → s.cplBase + 4096 ≤ s.memCapacity h → s.memCapacity h ≤ 2 ^ 52 →
      (s.coreWrite h (s.cplBase + 16 * (tail % 256)) (c.record tail) true).2 = s.memWrite h (s.cplBase + 16 * (tail % 256)) (c.record tail) :=
    fun hflat hcap hmax => by
      have hlen := (c.record_fields tail).2.2.2.2.2.2.2
      have hplace := State.record_place hcap tail
      rw [State.coreWrite_flat hflat hplace.1 hmax (by rw [hlen]; decide) (by rw [hlen]; exact hplace.2) true]
  generalize (s.coreWrite h (s.cplBase + 16 * (tail % 256)) (c.record tail) true).2 = a at ha hget hwrite ⊢
  obtain ⟨h1, h2, h3⟩ := a.recordEnds_effect c
  refine ⟨by rw [h1, ha.cores], by rw [h2, hget], fun hflat hcap hmax => ?_⟩
  have hlen : 16 = (c.record tail).length := (c.record_fields tail).2.2.2.2.2.2.2.symm
  rw [State.memRead_congr h3, hwrite hflat hcap hmax, hlen, State.memRead_memWrite]

/-- Where no completion waits any more the faults of a full ring are over. -/
def State.ringClear (s : State) : State := [0, 1, 2, 3].foldl (fun (s : State) q => s.lower (lpPage q) 5) s

theorem State.ringClear_effect (s : State) : s.ringClear.cores = s.cores ∧ s.ringClear.harbours = s.harbours ∧ s.ringClear.power = s.power ∧
    WritesIn (· ∈ [0, 1, 2, 3].map fun q => fieldKey (lpPage q) Hdr.FLT_STAT_FAULT) s s.ringClear ∧
    ∀ q < 4, s.ringClear.condBit (lpPage q) 5 = false := by
  refine ⟨foldl_keeps (fun _ _ => State.lower_cores ..) _ _, foldl_keeps (fun _ _ => State.lower_harbours ..) _ _,
    foldl_keeps (fun _ _ => State.lower_power ..) _ _, ?_, fun q hq => ?_⟩
  · exact (WritesIn.refl _ s).foldl fun t q hq ht => ht.lower (List.mem_map_of_mem (f := fun q => fieldKey (lpPage q) Hdr.FLT_STAT_FAULT) hq)
  · have hlow : ∀ (l : List Nat) (t : State), q ∈ l ∨ t.condBit (lpPage q) 5 = false →
        (l.foldl (fun (s : State) q => s.lower (lpPage q) 5) t).condBit (lpPage q) 5 = false := by
      intro l
      induction l with
      | nil => exact fun t ht => ht.resolve_left (fun h => nomatch h)
      | cons p l ih =>
        intro t ht
        refine ih _ ?_
        by_cases hp : q = p
        · exact Or.inr (hp ▸ State.condBit_cond t (lpPage q) 5 false)
        · rcases ht with ht | ht
          · exact Or.inl ((List.mem_cons.mp ht).resolve_left hp)
          · refine Or.inr ((State.condBit_cond_other (b := 5) t false (Or.inl ?_)).trans ht)
            simp only [lpPage, Block.page]
            omega
    refine hlow _ s (Or.inl ?_)
    simp only [List.mem_cons, List.not_mem_nil, or_false]
    omega

theorem State.drain_eq {s : State} {k : Nat} (h : s.serving = some k) :
    s.drain = if (s.cores.waiting.foldl (fun (s : State) c => s.writeRecord (k / 2) c) s).cores.waiting.isEmpty
      then (s.cores.waiting.foldl (fun (s : State) c => s.writeRecord (k / 2) c) s).ringClear
      else s.cores.waiting.foldl (fun (s : State) c => s.writeRecord (k / 2) c) s := by
  rw [State.drain, h]
  rfl

/-- A full ring takes no record. -/
theorem State.drain_full {s : State} {k : Nat} (h : s.serving = some k) (hfull : s.cplFull = true) (hwait : s.cores.waiting ≠ []) : s.drain = s := by
  have hfold : ∀ l : List Completion, l.foldl (fun (s : State) c => s.writeRecord (k / 2) c) s = s := by
    intro l
    induction l with
    | nil => rfl
    | cons c l ih =>
      have hkeep : s.writeRecord (k / 2) c = s := by
        unfold State.writeRecord
        rw [hfull, if_pos rfl]
      rw [List.foldl_cons, hkeep, ih]
  rw [State.drain_eq h, hfold, if_neg (by simpa [List.isEmpty_iff] using hwait)]

/-- The one completion that waits is written where the ring has room. -/
theorem State.drain_one {s : State} {k : Nat} {c : Completion} (h : s.serving = some k) (hroom : s.cplFull = false) (hwait : s.cores.waiting = [c]) :
    s.drain.cores = { s.cores with waiting := [], entries := s.cores.entries.filter (fun e => e.count != c.count) } ∧
    s.drain.get ringPage Lp.CPL_TAIL_COUNT = (s.get ringPage Lp.CPL_TAIL_COUNT + 1) % 65536 ∧
    (s.flatMemory (k / 2) → s.cplBase + 4096 ≤ s.memCapacity (k / 2) → s.memCapacity (k / 2) ≤ 2 ^ 52 →
      s.drain.memRead (k / 2) (s.cplBase + 16 * (s.get ringPage Lp.CPL_TAIL_COUNT % 256)) 16 = c.record (s.get ringPage Lp.CPL_TAIL_COUNT)) := by
  obtain ⟨h1, h2, h3⟩ := State.writeRecord_effect hroom (k / 2) c
  rw [State.drain_eq h, hwait, List.foldl_cons, List.foldl_nil]
  generalize s.writeRecord (k / 2) c = t at h1 h2 h3
  have hempty : t.cores.waiting = [] := by
    rw [h1, hwait]
    simp
  rw [hempty, List.isEmpty_nil, if_pos rfl]
  obtain ⟨c1, c2, -, c4, -⟩ := t.ringClear_effect
  refine ⟨?_, (c4.get (by decide)).trans h2, fun hflat hcap hmax => ?_⟩
  · rw [c1, h1, hwait]
    simp
  · rw [State.memRead_congr c2]
    exact h3 hflat hcap hmax

/-- With no completion waiting only the faults of a full ring are over. -/
theorem State.drain_none {s : State} {k : Nat} (h : s.serving = some k) (hwait : s.cores.waiting = []) : s.drain = s.ringClear := by
  have hnil : [].foldl (fun (s : State) c => s.writeRecord (k / 2) c) s = s := rfl
  rw [State.drain_eq h, hwait, hnil, hwait, List.isEmpty_nil, if_pos rfl]

end Sys2Proof.Machine

namespace Sys2Proof.Machine

/-! ## Which processor serves the ring -/

/-- The registers that the memory's size and the translation of a half's addresses are read from. -/
def hbReads (h : Nat) : List Nat :=
  fieldKey (hbPage h 0) Harbour.HB_CAP_DATA_MIB ::
    [Harbour.TR_ROOT_LO_EN, Harbour.TR_ROOT_LO_BASE, Harbour.TR_ROOT_HI_BASE].map (liveKey (hbPage h 7))

/-- Two states have the registers in common that memory accesses read. -/
def SameReads (s t : State) : Prop := ∀ h, ∀ key ∈ hbReads h, SMap.get resetField t.regs key = SMap.get resetField s.regs key

theorem SameReads.of_regs {s t : State} (h : t.regs = s.regs) : SameReads s t := fun _ _ _ => by rw [h]

theorem SameReads.trans {s t u : State} (h : SameReads s t) (k : SameReads t u) : SameReads s u := fun x key hk => (k x key hk).trans (h x key hk)

theorem le_hbReads {h key : Nat} (hk : key ∈ hbReads h) : 0x800 ≤ key / 0x8000 := by
  simp only [hbReads, List.map_cons, List.map_nil, List.mem_cons, List.not_mem_nil, or_false] at hk
  rcases hk with rfl | rfl | rfl | rfl <;> simp only [liveKey, fieldKey, hbPage, Block.page] <;> omega

theorem SameReads.of_writes {P : Nat → Prop} {s t : State} (hw : WritesIn P s t) (hP : ∀ key, P key → key / 0x8000 < 0x800) : SameReads s t :=
  fun _ key hk => hw key fun h => absurd (hP key h) (by have := le_hbReads hk; omega)

section
variable {s t : State} (hregs : SameReads s t)
include hregs

theorem State.memCapacity_congr (h : Nat) : t.memCapacity h = s.memCapacity h := by
  rw [State.memCapacity, State.get, hregs h _ (.head _)]
  rfl

theorem State.hbLive_congr (h : Nat) {f : Field} (hf : f ∈ [Harbour.TR_ROOT_LO_EN, Harbour.TR_ROOT_LO_BASE, Harbour.TR_ROOT_HI_BASE]) :
    t.live (hbPage h 7) f = s.live (hbPage h 7) f := hregs h _ (.tail _ (List.mem_map_of_mem hf))

theorem State.hbLiveFlag_congr (h : Nat) : t.liveFlag (hbPage h 7) Harbour.TR_ROOT_LO_EN = s.liveFlag (hbPage h 7) Harbour.TR_ROOT_LO_EN := by
  rw [State.liveFlag, State.hbLive_congr hregs h (.head _), State.liveFlag]

variable (hharb : t.harbours = s.harbours)
include hharb

theorem State.walkFrom_congr (h ba bad n : Nat) : ∀ table, t.walkFrom h ba bad n table = s.walkFrom h ba bad n table := by
  have hcap := State.memCapacity_congr hregs h
  have hentry : ∀ a, t.tableEntry h a = s.tableEntry h a := fun a => by
    simp only [State.tableEntry, State.memRead_congr hharb]
  induction n with
  | zero => exact fun _ => rfl
  | succ n ih =>
    intro table
    rw [State.walkFrom, State.walkFrom]
    simp only [hcap, hentry, ih]

theorem State.walk_congr (h ba bad : Nat) : t.walk h ba bad = s.walk h ba bad := by
  rw [State.walk, State.walk, State.hbLive_congr hregs h (by simp), State.hbLive_congr hregs h (by simp), State.memCapacity_congr hregs,
    State.walkFrom_congr hregs hharb]

/-- Where an address leads depends on the Harbours' registers and their state. -/
theorem State.translate_congr (h ba : Nat) (write drift : Bool) (bad : Nat) :
    (t.translate h ba write drift bad).1 = (s.translate h ba write drift bad).1 := by
  have hcached : t.cached h ba = s.cached h ba := by rw [State.cached, State.harb, hharb]; rfl
  have hcount : SameReads (s.countWrap (hbPage h 7) Harbour.TR_MISS_COUNT) (t.countWrap (hbPage h 7) Harbour.TR_MISS_COUNT) := fun x key hk => by
    have hkey : fieldKey (hbPage h 7) Harbour.TR_MISS_COUNT ≠ key := by
      rintro rfl
      simp only [hbReads, List.map_cons, List.map_nil, List.mem_cons, List.not_mem_nil, or_false, liveKey, fieldKey, hbPage, Block.page,
        Harbour.TR_MISS_COUNT, Harbour.HB_CAP_DATA_MIB, Harbour.TR_ROOT_LO_EN, Harbour.TR_ROOT_LO_BASE, Harbour.TR_ROOT_HI_BASE] at hk
      omega
    simp only [State.countWrap, State.put]
    rw [SMap.get_set_other _ _ _ hkey, SMap.get_set_other _ _ _ hkey, hregs x key hk]
  have hwalk := State.walk_congr (s := s.countWrap (hbPage h 7) Harbour.TR_MISS_COUNT) (t := t.countWrap (hbPage h 7) Harbour.TR_MISS_COUNT) hcount hharb h ba bad
  have hcap := State.memCapacity_congr hregs h
  have hflag := State.hbLiveFlag_congr hregs h
  rw [State.translate, State.translate]
  obtain ⟨walk, hw⟩ : ∃ w, w = State.walk := ⟨_, rfl⟩
  rw [← hw] at hwalk ⊢
  dsimp only
  rw [hcached, hcap, hflag, hwalk]
  split
  · rfl
  · split
    · rfl
    · split
      · rfl
      · split <;> rfl

/-- Is an address local? -/
theorem State.isLocal_congr (h ba : Nat) : t.isLocal h ba = s.isLocal h ba := by
  rw [State.isLocal, State.translate_congr hregs hharb, State.isLocal]

end

/-- The registers of the rings' places in memory. -/
def ringBaseKeys : List Nat :=
  [Lp.CMD_BASE_HI_BA, Lp.CMD_BASE_LO_BA, Lp.CPL_BASE_HI_BA, Lp.CPL_BASE_LO_BA].map (fieldKey ringPage)

/-- The processor that serves the ring depends on the halves, on which processors run, and on where the rings lie. -/
theorem State.serving_congr {s t : State} (hrun : ∀ q < 4, t.running q = s.running q) (hhalf : ∀ h < 2, t.halfState h = s.halfState h)
    (hhome : t.cores.home = s.cores.home) (hharb : t.harbours = s.harbours)
    (hbases : ∀ key ∈ ringBaseKeys, SMap.get resetField t.regs key = SMap.get resetField s.regs key) (hregs : SameReads s t) : t.serving = s.serving := by
  have hbase : ∀ f ∈ [Lp.CMD_BASE_HI_BA, Lp.CMD_BASE_LO_BA, Lp.CPL_BASE_HI_BA, Lp.CPL_BASE_LO_BA], t.get ringPage f = s.get ringPage f := fun f hf =>
    hbases _ (List.mem_map_of_mem hf)
  have hcmd : t.cmdBase = s.cmdBase := by rw [State.cmdBase, hbase _ (by simp), hbase _ (by simp), State.cmdBase]
  have hcpl : t.cplBase = s.cplBase := by rw [State.cplBase, hbase _ (by simp), hbase _ (by simp), State.cplBase]
  have hacting : t.actingHalf = s.actingHalf := by
    simp only [State.actingHalf, List.find?_cons, List.find?_nil, hhalf 0 (by decide), hhalf 1 (by decide)]
  have hrunner : ∀ h < 2, t.runner h = s.runner h := fun h hh => by
    have h0 := hrun (2 * h) (by omega)
    have h1 := hrun (2 * h + 1) (by omega)
    simp only [State.runner, List.find?_cons, List.find?_nil, h0, h1]
  rw [State.serving, State.serving, hacting]
  cases hact : s.actingHalf with
  | none => rfl
  | some h =>
    have hlt : h < 2 := by
      have := List.mem_of_find?_eq_some hact
      simp only [List.mem_cons, List.not_mem_nil, or_false] at this
      omega
    simp only [hhome, hcmd, hcpl, State.isLocal_congr hregs hharb, hrunner h hlt]

theorem State.running_congr {s t : State} {q : Nat} (hstate : t.get (lpPage q) Lp.LP_FW_STAT_STATE = s.get (lpPage q) Lp.LP_FW_STAT_STATE)
    (hpower : t.flag 0x3 (Chip.PD_CTRL_ACK.nth (65 + q)) = s.flag 0x3 (Chip.PD_CTRL_ACK.nth (65 + q))) (hreset : t.power.resetting = s.power.resetting)
    (hdown : t.cores.down = s.cores.down) (hhalf : t.halfState (q / 2) = s.halfState (q / 2)) : t.running q = s.running q := by
  have hready : t.ready ⟨.lp, q, 0⟩ = s.ready ⟨.lp, q, 0⟩ := by
    have hpowered : t.powered (PageRef.domain ⟨.lp, q, 0⟩) = s.powered (PageRef.domain ⟨.lp, q, 0⟩) := hpower
    rw [State.ready, hpowered, State.resetting, hreset]
    rfl
  rw [State.running, hstate, hready, hdown, State.lpHalfFailed, State.halfFailed, hhalf]
  rfl

/-- The places of the ring's counts and of the faults of its processors. -/
def ringPlaces : List Nat :=
  ([Lp.CPL_HEAD_COUNT, Lp.CPL_TAIL_COUNT, Lp.CMD_HEAD_COUNT, Lp.CMD_TAIL_COUNT, Lp.STEP_MAX_NS, Lp.CMD_STALE_COUNT].map (fieldKey ringPage)) ++
  [0, 1, 2, 3].map fun q => fieldKey (lpPage q) Hdr.FLT_STAT_FAULT

theorem ringPlaces_facts : (∀ k ∈ ringPlaces, k / 0x8000 < 0x800 ∧ k ∉ ringBaseKeys) ∧
    (∀ q < 4, fieldKey (lpPage q) Lp.LP_FW_STAT_STATE ∉ ringPlaces ∧ fieldKey 0x3 (Chip.PD_CTRL_ACK.nth (65 + q)) ∉ ringPlaces) ∧
    ∀ h < 2, fieldKey swPage (halfField h) ∉ ringPlaces := by decide

theorem State.serving_of_writes {s t : State} (hw : WritesIn (· ∈ ringPlaces) s t) (hreset : t.power.resetting = s.power.resetting)
    (hdown : t.cores.down = s.cores.down) (hhome : t.cores.home = s.cores.home) (hharb : t.harbours = s.harbours) : t.serving = s.serving := by
  obtain ⟨h1, h2, h3⟩ := ringPlaces_facts
  have hhalf : ∀ h < 2, t.halfState h = s.halfState h := fun h hh => State.halfState_congr h (hw.get (h3 h hh))
  exact State.serving_congr (fun q hq => State.running_congr (hw.get (h2 q hq).1) (hw.flag (h2 q hq).2) hreset hdown (hhalf _ (by omega))) hhalf hhome
    hharb (fun key hkey => hw key fun hk => (h1 key hk).2 hkey) (.of_writes hw fun key hk => (h1 key hk).1)

/-! ## A command ends (R533, R536) -/

/-- The completion of a command that ends, its results known. -/
def RingEntry.completion (e : RingEntry) (x : StepEnd) (a b : Nat) : Completion :=
  { count := e.count, gen := match e.bytes with
      | some (b :: l) => fieldLE (b :: l) 3 1
      | _ => e.due
    status := x.status, result0 := a, result1 := b, detail := x.detail, irq := e.irq }

/-- The end of an entry adds its completion to those that wait, and the ring takes what it can. -/
theorem State.endEntry_eq (s : State) (e : RingEntry) (x : StepEnd) : ∃ (u : State) (a b : Nat),
    s.endEntry e x = ({ u with cores := { u.cores with waiting := u.cores.waiting ++ [e.completion x a b] } } : State).drain ∧
    u.regs = s.regs ∧ u.cores = s.cores ∧ u.harbours = s.harbours ∧ u.power = s.power ∧
    (u.tide = s.tide ∧ SameFaults s u ∧ u.out = s.out) ∧ (∀ v ∈ x.r0, a = v) ∧ ∀ v ∈ x.r1, b = v := by
  let w := s.endLearn e
  have hw : w.regs = s.regs ∧ w.cores = s.cores ∧ w.harbours = s.harbours ∧ w.power = s.power ∧
      w.tide = s.tide ∧ SameFaults s w ∧ w.out = s.out := by
    unfold w State.endLearn
    split <;> exact ⟨rfl, rfl, rfl, rfl, rfl, ⟨rfl, rfl⟩, rfl⟩
  have hknown : ∀ (t : State) (r : Option Nat), (t.known r).2.regs = t.regs ∧ (t.known r).2.cores = t.cores ∧ (t.known r).2.harbours = t.harbours ∧
      (t.known r).2.power = t.power ∧ ((t.known r).2.tide = t.tide ∧ SameFaults t (t.known r).2 ∧ (t.known r).2.out = t.out) ∧ ∀ v ∈ r, (t.known r).1 = v := fun t r => by
    cases r with
    | none => exact ⟨rfl, rfl, rfl, rfl, ⟨rfl, ⟨rfl, rfl⟩, rfl⟩, nofun⟩
    | some v => exact ⟨rfl, rfl, rfl, rfl, ⟨rfl, ⟨rfl, rfl⟩, rfl⟩, fun v hv => Option.some_inj.mp hv⟩
  obtain ⟨a1, a2, a3, a4, a5, a6⟩ := hknown w x.r0
  obtain ⟨b1, b2, b3, b4, b5, b6⟩ := hknown (w.known x.r0).2 x.r1
  obtain ⟨w1, w2, w3, w4, w5⟩ := hw
  exact ⟨((w.known x.r0).2.known x.r1).2, (w.known x.r0).1, ((w.known x.r0).2.known x.r1).1, rfl, b1.trans (a1.trans w1), b2.trans (a2.trans w2),
    b3.trans (a3.trans w3), b4.trans (a4.trans w4), ⟨b5.1.trans (a5.1.trans w5.1), (w5.2.1.trans a5.2.1).trans b5.2.1,
      b5.2.2.trans (a5.2.2.trans w5.2.2)⟩, a6, b6⟩

/-- A completion's record is that of its command. -/
theorem RingEntry.completion_record (e : RingEntry) (x : StepEnd) {a b : Nat} (ha : ∀ v ∈ x.r0, a = v) (hb : ∀ v ∈ x.r1, b = v) (tail : Nat)
    (hgen : (∃ c l, e.bytes = some (c :: l)) ∨ e.num 3 1 = e.due) :
    IsRecord ((e.completion x a b).record tail) e x.status x.r0 x.r1 (some x.detail) := by
  have hcode : (e.completion x a b).gen = e.num 3 1 := by
    rcases hgen with ⟨c, l, hbytes⟩ | hdue
    · simp only [RingEntry.completion, RingEntry.num, hbytes, Option.getD_some]
    · unfold RingEntry.completion
      dsimp only
      split
      · next heq => simp only [RingEntry.num, heq, Option.getD_some]
      · exact hdue.symm
  have hlt : e.num 3 1 < 256 := fieldLE_lt _ 3 1
  obtain ⟨h0, h1, h2, h4, h8, h12, -, -⟩ := (e.completion x a b).record_fields tail
  refine ⟨h0, h1.trans ?_, h2, fun v hv => ?_, fun v hv => ?_, fun v hv => ?_⟩
  · rw [hcode, Nat.mod_eq_of_lt hlt]
  · rw [h4, ← ha v hv]
    rfl
  · rw [h8, ← hb v hv]
    rfl
  · rw [h12, ← Option.some_inj.mp hv]
    rfl

/-- The end of a command as the statements have it. -/
theorem State.endEntry_ends {s : State} {k : Nat} (hserve : s.serving = some k) (e : RingEntry) (x : StepEnd)
    (hgen : (∃ c l, e.bytes = some (c :: l)) ∨ e.num 3 1 = e.due) : EntryEnds s (s.endEntry e x) k e x.status x.r0 x.r1 (some x.detail) := by
  obtain ⟨u, a, b, heq, hregs, hcores, hharb, hpower, -, ha, hb⟩ := s.endEntry_eq e x
  have hrecord := fun tail => e.completion_record x ha hb tail hgen
  have hcount : (e.completion x a b).count = e.count := rfl
  generalize e.completion x a b = c at heq hrecord hcount
  let w : State := { u with cores := { u.cores with waiting := u.cores.waiting ++ [c] } }
  have hwait : w.cores.waiting = s.cores.waiting ++ [c] := by
    simp only [w, hcores]
  have hdown : u.cores.down = s.cores.down := by rw [hcores]
  have hhome : u.cores.home = s.cores.home := by rw [hcores]
  have hwregs : w.regs = s.regs := hregs
  have hw : w.serving = some k := by
    refine Eq.trans ?_ hserve
    exact State.serving_of_writes (.of_regs _ hregs) (congrArg PowerSt.resetting hpower) hdown hhome hharb
  change s.endEntry e x = w.drain at heq
  rw [heq]
  clear_value w
  have hget : ∀ f, w.get ringPage f = s.get ringPage f := State.get_of_regs hwregs ringPage
  have hfull : w.cplFull = s.cplFull := by rw [State.cplFull, hget, hget, State.cplFull]
  have hbase : w.cplBase = s.cplBase := by rw [State.cplBase, hget, hget, State.cplBase]
  have hsame : SameReads s w := .of_regs hwregs
  refine ⟨fun h => ?_, fun h hnone => ?_⟩
  · rw [State.drain_full hw (hfull.trans h) (by rw [hwait]; simp), hwait]
    refine ⟨by simp, by simp, fun d hd => ?_⟩
    rw [List.drop_left, List.mem_singleton] at hd
    subst hd
    exact ⟨hcount, hrecord _⟩
  · obtain ⟨h1, h2, h3⟩ := State.drain_one hw (hfull.trans h) (c := c) (by rw [hwait, hnone, List.nil_append])
    rw [h1]
    refine ⟨rfl, fun y hy => ?_, by rw [h2, hget], fun hflat hcap hmax => ?_⟩
    · have := (List.mem_filter.mp hy).2
      rw [← hcount]
      simpa using this
    · have hbytes := h3 ((State.hbLiveFlag_congr hsame _).trans hflat) (by rw [hbase, State.memCapacity_congr hsame]; exact hcap)
        (by rw [State.memCapacity_congr hsame]; exact hmax)
      rw [hbase, hget] at hbytes
      rw [hbytes]
      exact ⟨hrecord _, (c.record_fields _).2.2.2.2.2.2.1⟩

/-- What the end of a command says of the state before it. -/
theorem EntryEnds.congr {s u t : State} {k st : Nat} {e : RingEntry} {r0 r1 d : Option Nat} (h : EntryEnds u t k e st r0 r1 d)
    (htail : u.get ringPage Lp.CPL_TAIL_COUNT = s.get ringPage Lp.CPL_TAIL_COUNT) (hhead : u.get ringPage Lp.CPL_HEAD_COUNT = s.get ringPage Lp.CPL_HEAD_COUNT)
    (hwait : u.cores.waiting = s.cores.waiting) (hbase : u.cplBase = s.cplBase)
    (hregs : SameReads s u) : EntryEnds s t k e st r0 r1 d := by
  have hfull : u.cplFull = s.cplFull := by rw [State.cplFull, htail, hhead, State.cplFull]
  have hlive := State.hbLiveFlag_congr hregs (k / 2)
  have hcap := State.memCapacity_congr hregs (k / 2)
  unfold EntryEnds at h ⊢
  rw [hfull, htail, hwait, hbase, hlive, hcap] at h
  exact h

end Sys2Proof.Machine

namespace Sys2Proof.Machine

/-! ## What the end of a command leaves alone -/

/-- The places that the end of a command may write below the Harbours: the completion ring's tail, the faults of a full ring, and the Beacon. -/
def ringEndPlace (k : Nat) : Prop :=
  0x800 ≤ k / 0x8000 ∨ k / 0x8000 = bcnPage ∨ k = cplTailKey ∨ k ∈ [0, 1, 2, 3].map fun q => fieldKey (lpPage q) Hdr.FLT_STAT_FAULT

/-- Only the ring's entries and the completions that wait have changed, of the cores, and no plan. -/
structure AtRing (s t : State) : Prop where
  cores : t.cores = { s.cores with waiting := t.cores.waiting, entries := t.cores.entries }
  entries : ∀ x ∈ t.cores.entries, x ∈ s.cores.entries
  tide : t.tide = s.tide
  writes : WritesIn ringEndPlace s t

theorem AtRing.of_cores {s t : State} (hcores : t.cores = s.cores) (htide : t.tide = s.tide) (hw : WritesIn ringEndPlace s t) : AtRing s t :=
  ⟨by rw [hcores], fun x hx => hcores ▸ hx, htide, hw⟩

theorem AtRing.refl (s : State) : AtRing s s := .of_cores rfl rfl (.refl _ s)

theorem AtRing.trans {s t u : State} (h : AtRing s t) (k : AtRing t u) : AtRing s u :=
  ⟨k.cores.trans (by rw [h.cores]), fun x hx => h.entries x (k.entries x hx), k.tide.trans h.tide, h.writes.trans k.writes⟩

theorem AtRing.foldl {α : Type} {f : State → α → State} (h : ∀ s a, AtRing s (f s a)) (l : List α) (s : State) : AtRing s (l.foldl f s) := by
  induction l generalizing s with
  | nil => exact .refl s
  | cons a l ih => exact (h s a).trans (ih (f s a))

theorem State.fireSource_tide (s : State) (n : Nat) : (s.fireSource n).tide = s.tide := by
  unfold State.fireSource State.oweMsix
  extract_lets a x
  have ha : a.tide = s.tide := by
    unfold a
    split <;> rfl
  clear_value a
  split
  · exact ha
  · split
    · exact ha
    · simp [State.judgeBeacon, State.putSrc, ha]

theorem State.recordEnds_atRing (s : State) (c : Completion) : AtRing s (s.recordEnds c) := by
  obtain ⟨h, -, -⟩ := s.recordEnds_effect c
  refine ⟨by rw [h], fun x hx => ?_, ?_, ?_⟩
  · rw [h] at hx
    exact (List.mem_filter.mp hx).1
  · unfold State.recordEnds
    extract_lets x t u
    split
    · exact State.fireSource_tide ..
    · rfl
  · unfold State.recordEnds
    extract_lets x t u
    have hu : WritesIn ringEndPlace s u := WritesIn.countWrap (.of_regs _ rfl) (.inr (.inr (.inl rfl)))
    clear_value u
    refine .ite (hu.trans ?_) hu
    exact (u.fireSource_keeps _).2.2.mono fun _ h => .inr (.inl h)

theorem State.writeRecord_atRing (s : State) (h : Nat) (c : Completion) : AtRing s (s.writeRecord h c) := by
  cases hroom : s.cplFull with
  | true =>
    unfold State.writeRecord
    rw [hroom, if_pos rfl]
    exact .refl s
  | false =>
    rw [State.writeRecord_eq hroom]
    have ha := s.coreWrite_atHarbour h (s.cplBase + 16 * (s.get ringPage Lp.CPL_TAIL_COUNT % 256)) (c.record (s.get ringPage Lp.CPL_TAIL_COUNT)) true
    generalize (s.coreWrite h (s.cplBase + 16 * (s.get ringPage Lp.CPL_TAIL_COUNT % 256)) (c.record (s.get ringPage Lp.CPL_TAIL_COUNT)) true).2 = a at ha ⊢
    exact (AtRing.of_cores ha.cores ha.tide (ha.writes.mono fun _ h => .inl h)).trans (a.recordEnds_atRing c)

theorem State.ringClear_atRing (s : State) : AtRing s s.ringClear := by
  obtain ⟨h1, -, -, h4, -⟩ := s.ringClear_effect
  exact .of_cores h1 (foldl_keeps (fun _ _ => State.lower_tide ..) _ _) (h4.mono fun _ h => .inr (.inr (.inr h)))

theorem State.drain_atRing (s : State) : AtRing s s.drain := by
  cases h : s.serving with
  | none =>
    rw [State.drain, h]
    exact .refl s
  | some k =>
    rw [State.drain_eq h]
    have hw : AtRing s (s.cores.waiting.foldl (fun (s : State) c => s.writeRecord (k / 2) c) s) := .foldl (fun t c => t.writeRecord_atRing ..) _ s
    generalize s.cores.waiting.foldl (fun (s : State) c => s.writeRecord (k / 2) c) s = t at hw ⊢
    split
    · exact hw.trans t.ringClear_atRing
    · exact hw

theorem State.endEntry_atRing (s : State) (e : RingEntry) (x : StepEnd) : AtRing s (s.endEntry e x) := by
  obtain ⟨u, a, b, heq, hregs, hcores, -, -, ⟨htide, -⟩, -⟩ := s.endEntry_eq e x
  rw [heq]
  refine AtRing.trans (t := { u with cores := { u.cores with waiting := u.cores.waiting ++ [e.completion x a b] } }) ⟨?_, fun x hx => ?_, htide, .of_regs _ hregs⟩
    (State.drain_atRing _)
  · rw [← hcores]
  · rw [← hcores]
    exact hx

end Sys2Proof.Machine

namespace Sys2Proof.Machine

/-! ## The control cores (R528 to R531) -/

theorem WritesIn.report {P : Nat → Prop} {s t : State} (h : WritesIn P s t) {pg b : Nat} (hp : P (fieldKey pg Hdr.FLT_STAT_FAULT)) :
    WritesIn P s (t.report pg b) := by
  unfold State.report State.condEach
  exact .ite (.ite (h.occur hp) (h.raise hp)) (h.lower hp)

theorem State.report_same (s : State) (pg b : Nat) : (s.report pg b).cores = s.cores ∧ (s.report pg b).harbours = s.harbours ∧
    (s.report pg b).power = s.power ∧ (s.report pg b).tide = s.tide := by
  simp [State.report, State.condEach, apply_ite State.cores, apply_ite State.harbours, apply_ite State.power, apply_ite State.tide]

theorem lockstepMismatch_effect (k : Fin 4) (s : State) :
    Completes (.lockstepMismatch k) s fun t =>
      (s.ready ⟨.lp, k, 0⟩ = false → t = s) ∧
      (s.ready ⟨.lp, k, 0⟩ = true → t.get (lpPage k) Lp.LOCKSTEP_CNT_COUNT =
          min (s.get (lpPage k) Lp.LOCKSTEP_CNT_COUNT + 1) (Lp.LOCKSTEP_CNT_COUNT.size - 1) ∧
        t.condBit (lpPage k) 0 = true ∧ Due.selfCheck (k / 2) 5 ∈ t.due) ∧ SameMemory s t := by
  have hmem : ∀ {t : State}, exec (.lockstepMismatch k) s = .next t → SameMemory s t := fun ht =>
    .of_exec ht (by rw [exec]; exact answers_lockstepMismatch (Quiet.refl s))
  have hkey : ∀ k : Fin 4, fieldKey (lpPage k) Lp.LOCKSTEP_CNT_COUNT ≠ fieldKey (lpPage k) Hdr.FLT_STAT_FAULT := by decide
  have ht : exec (.lockstepMismatch k) s = .next (if !s.ready ⟨.lp, k, 0⟩ then s
      else ((s.countSat (lpPage k) Lp.LOCKSTEP_CNT_COUNT).report (lpPage k) 0).selfCheck (k / 2) 5) := rfl
  cases hready : s.ready ⟨.lp, k, 0⟩ with
  | false =>
    rw [hready] at ht
    exact ⟨s, ht, fun _ => rfl, nofun, hmem ht⟩
  | true =>
    rw [hready] at ht
    refine ⟨_, ht, nofun, fun _ => ⟨?_, ?_, ?_⟩, hmem ht⟩
    · exact (((WritesIn.refl (· = fieldKey (lpPage k) Hdr.FLT_STAT_FAULT) _).report rfl).get (hkey k)).trans (State.get_countSat_same ..)
    · exact State.condBit_report ..
    · exact List.mem_append_right _ (.head _)

theorem pairRebootDone_effect (k : Fin 4) (s : State) (hready : s.ready ⟨.lp, k, 0⟩ = true)
    (hwaits : hasBit s.cores.down k = true ∨ s.get (lpPage k) Lp.LP_FW_STAT_STATE = 1) (hboot : s.get 0x8 Chip.BOOT_STAT_STATE = 3) :
    Completes (.pairRebootDone k) s fun t =>
      hasBit t.cores.down k = false ∧ hasBit t.cores.mie k = true ∧
      t.get (lpPage k) Lp.LP_FW_STAT_STATE = (if s.halfState (k / 2) = 1 then 2 else 3) ∧
      t.condBit (lpPage k) 0 = false ∧ t.condBit (lpPage k) 1 = false ∧ t.condBit (lpPage k) 2 = false ∧ t.due = s.due ∧ SameMemory s t := by
  have hmem : ∀ {t : State}, exec (.pairRebootDone k) s = .next t → SameMemory s t := fun ht =>
    .of_exec ht (by rw [exec]; exact answers_pairRebootDone (Quiet.refl s))
  have ht : exec (.pairRebootDone k) s = .next ((((s.lower (lpPage k) 0).lower (lpPage k) 1).lower (lpPage k) 2).startFirmware k) := by
    have hb : (hasBit s.cores.down k || s.get (lpPage k) Lp.LP_FW_STAT_STATE == 1) = true := by
      rcases hwaits with h | h <;> simp [h]
    rw [exec, execPairRebootDone, hready]
    rw [hb, hboot]
    rfl
  have hm := hmem ht
  have hhalf : ∀ k : Fin 4, fieldKey (lpPage k) Hdr.FLT_STAT_FAULT ≠ fieldKey swPage (halfField (k / 2)) := by decide
  have hw : (((s.lower (lpPage k) 0).lower (lpPage k) 1).lower (lpPage k) 2).halfState (k / 2) = s.halfState (k / 2) :=
    State.halfState_congr _ (((((WritesIn.refl (· = fieldKey (lpPage k) Hdr.FLT_STAT_FAULT) s).lower rfl).lower rfl).lower rfl).get (Ne.symm (hhalf k)))
  have hc0 : (((s.lower (lpPage k) 0).lower (lpPage k) 1).lower (lpPage k) 2).condBit (lpPage k) 0 = false :=
    (State.condBit_lower_other _ (Or.inr (by decide))).trans ((State.condBit_lower_other _ (Or.inr (by decide))).trans (State.condBit_lower ..))
  have hc1 : (((s.lower (lpPage k) 0).lower (lpPage k) 1).lower (lpPage k) 2).condBit (lpPage k) 1 = false :=
    (State.condBit_lower_other _ (Or.inr (by decide))).trans (State.condBit_lower ..)
  have hc2 : (((s.lower (lpPage k) 0).lower (lpPage k) 1).lower (lpPage k) 2).condBit (lpPage k) 2 = false := State.condBit_lower ..
  have hdue : (((s.lower (lpPage k) 0).lower (lpPage k) 1).lower (lpPage k) 2).due = s.due := by simp
  generalize ((s.lower (lpPage k) 0).lower (lpPage k) 1).lower (lpPage k) 2 = u at *
  refine ⟨_, ht, ?_, ?_, ?_, hc0, hc1, hc2, hdue, hm⟩
  · simp [State.startFirmware, State.roleOf, hasBit_clearBit]
  · simp [State.startFirmware, State.roleOf]
  · refine (State.get_put_same ..).trans ?_
    have hstate : ({ u with cores := { u.cores with mie := setBit u.cores.mie k, down := clearBit u.cores.down k } } : State).halfState (k / 2) =
        s.halfState (k / 2) := (State.halfState_congr _ (State.get_of_regs rfl _ _)).trans hw
    generalize ({ u with cores := { u.cores with mie := setBit u.cores.mie k, down := clearBit u.cores.down k } } : State) = v at hstate ⊢
    rw [hstate]
    split <;> rfl

theorem coreWatchdog_effect (k : Fin 4) (s : State) :
    Completes (.coreWatchdog k) s fun t =>
      (s.flag (lpPage k) Lp.WD_CFG_EN = true → s.ready ⟨.lp, k, 0⟩ = true → t.condBit (lpPage k) 1 = true) ∧
      (s.flag (lpPage k) Lp.WD_CFG_EN = false ∨ s.ready ⟨.lp, k, 0⟩ = false → t = s) ∧ OnlyRegs s t [fieldKey (lpPage k) Hdr.FLT_STAT_FAULT] ∧
      SameMemory s t := by
  have hmem : ∀ {t : State}, exec (.coreWatchdog k) s = .next t → SameMemory s t := fun ht =>
    .of_exec ht (by rw [exec]; exact answers_coreWatchdog (Quiet.refl s))
  have ht : exec (.coreWatchdog k) s = .next (if s.flag (lpPage k) Lp.WD_CFG_EN && s.ready ⟨.lp, k, 0⟩ then s.report (lpPage k) 1 else s) := rfl
  by_cases hruns : (s.flag (lpPage k) Lp.WD_CFG_EN && s.ready ⟨.lp, k, 0⟩) = true
  · rw [if_pos hruns] at ht
    rw [Bool.and_eq_true] at hruns
    refine ⟨_, ht, fun _ _ => State.condBit_report .., fun h => ?_, ?_, hmem ht⟩
    · rcases h with h | h
      · exact absurd (h.symm.trans hruns.1) (by decide)
      · exact absurd (h.symm.trans hruns.2) (by decide)
    · exact WritesIn.report (P := (· ∈ [fieldKey (lpPage k) Hdr.FLT_STAT_FAULT])) (.refl _ s) (.head _)
  · rw [if_neg hruns] at ht
    exact ⟨s, ht, fun h1 h2 => absurd (by rw [h1, h2]; rfl) hruns, fun _ => rfl, .refl s _, hmem ht⟩

/-! ## The ring's registers (R533, R534, R536) -/

theorem cmdDoorbell_effect (k : Fin 4) (req : Requester) (w : Word) (s : State) (n : Nat)
    (hserved : s.serves req (regOff (Block.page .lp k 1) Lp.CMD_TAIL_COUNT) = true)
    (hn : n = (w.toNat % 65536 + 65536 - s.get ringPage Lp.CMD_TAIL_COUNT) % 65536) :
    Completes (.cmdDoorbell k req w) s fun t =>
      (s.flag ringPage Lp.CMD_CFG_EN = true → s.cores.owner = none ∨ s.cores.owner = some req → s.cores.entries.length + n ≤ 256 →
        t.get ringPage Lp.CMD_TAIL_COUNT = w.toNat % 65536 ∧ t.cores.owner = some req ∧
        t.cores.entries.map (·.count) = s.cores.entries.map (·.count) ++
          (List.range n).map (fun i => (s.get ringPage Lp.CMD_TAIL_COUNT + i) % 65536) ∧ t.due = s.due ++ [.pulse 1]) ∧
      (s.flag ringPage Lp.CMD_CFG_EN = false ∨ (∃ r, s.cores.owner = some r ∧ r ≠ req) ∨ 256 < s.cores.entries.length + n →
        t.cores = s.cores ∧ t.eventBit (s.ringEventPage k) 1 = true ∧ SameFaults s t) ∧ t.out = s.out ∧ SameMemory s t := by
  have hmem : ∀ {t : State}, exec (.cmdDoorbell k req w) s = .next t → SameMemory s t := fun ht =>
    .of_exec ht (by rw [exec]; exact answers_cmdDoorbell (Quiet.refl s))
  have ht : exec (.cmdDoorbell k req w) s = execCmdDoorbell k req w s := rfl
  rw [execCmdDoorbell, State.onWrite_served hserved] at ht
  dsimp only at ht
  rw [← hn] at ht
  by_cases hbad : (!s.flag ringPage Lp.CMD_CFG_EN || !(s.cores.owner.all (· == req)) || decide (256 < s.cores.entries.length + n)) = true
  · rw [if_pos hbad] at ht
    refine ⟨_, ht, fun h1 h2 h3 => absurd hbad ?_, fun _ => ⟨rfl, State.eventBit_event _ _ (by decide), rfl, rfl⟩, rfl, hmem ht⟩
    rcases h2 with h2 | h2 <;> simp [h1, h2, h3]
  · rw [if_neg hbad] at ht
    refine ⟨_, ht, fun _ _ _ => ⟨?_, rfl, ?_, rfl⟩, fun h => absurd ?_ hbad, rfl, hmem ht⟩
    · exact (State.get_put_other _ _ (by decide)).trans (State.get_put_same ..)
    · refine List.map_append.trans (congrArg _ ?_)
      rw [List.map_map]
      rfl
    · rcases h with h | ⟨r, h, hne⟩ | h
      · simp [h]
      · simp [h, hne]
      · simp [h]

theorem cplHeadWrite_effect (k : Fin 4) (req : Requester) (w : Word) (s : State)
    (hserved : s.serves req (regOff (Block.page .lp k 1) Lp.CPL_HEAD_COUNT) = true) :
    Completes (.cplHeadWrite k req w) s fun t =>
      (s.cores.owner ≠ some req → t.cores = s.cores ∧ t.eventBit (s.ringEventPage k) 1 = true ∧ SameMemory s t) ∧
      (s.cores.owner = some req → t.get ringPage Lp.CPL_HEAD_COUNT = w.toNat % 65536 ∧
        (s.cores.waiting = [] → t.cores = s.cores ∧ (s.serving.isSome = true → ∀ q < 4, t.condBit (lpPage q) 5 = false) ∧ SameMemory s t) ∧
        (∀ c, s.cores.waiting = [c] → s.serving.isSome = true →
          (s.get ringPage Lp.CPL_TAIL_COUNT + 65536 - w.toNat % 65536) % 65536 < 256 →
          t.cores.waiting = [] ∧ (∀ x ∈ t.cores.entries, x.count ≠ c.count) ∧
          t.get ringPage Lp.CPL_TAIL_COUNT = (s.get ringPage Lp.CPL_TAIL_COUNT + 1) % 65536)) := by
  have ht : exec (.cplHeadWrite k req w) s = execCplHeadWrite k req w s := rfl
  rw [execCplHeadWrite, State.onWrite_served hserved] at ht
  by_cases howner : s.cores.owner = some req
  · rw [if_neg (by simpa using howner)] at ht
    refine ⟨_, ht, fun h => absurd howner h, fun _ => ?_⟩
    have hw : WritesIn (· ∈ ringPlaces) s (s.put ringPage Lp.CPL_HEAD_COUNT w.toNat) := (WritesIn.refl _ s).put _ (by decide)
    have hserve : (s.put ringPage Lp.CPL_HEAD_COUNT w.toNat).serving = s.serving := State.serving_of_writes hw rfl rfl rfl rfl
    have hhead : (s.put ringPage Lp.CPL_HEAD_COUNT w.toNat).get ringPage Lp.CPL_HEAD_COUNT = w.toNat % 65536 := State.get_put_same ..
    have htail : (s.put ringPage Lp.CPL_HEAD_COUNT w.toNat).get ringPage Lp.CPL_TAIL_COUNT = s.get ringPage Lp.CPL_TAIL_COUNT :=
      State.get_put_other _ _ (by decide)
    have hcores : (s.put ringPage Lp.CPL_HEAD_COUNT w.toNat).cores = s.cores := rfl
    have hharb : (s.put ringPage Lp.CPL_HEAD_COUNT w.toNat).harbours = s.harbours := rfl
    generalize s.put ringPage Lp.CPL_HEAD_COUNT w.toNat = u at *
    refine ⟨(u.drain_atRing.writes.get ?_).trans hhead, fun hnone => ?_, fun c hone hsome hroom => ?_⟩
    · rintro (h | h | h | h) <;> revert h <;> decide
    · cases hk : s.serving with
      | none =>
        have hdrain : u.drain = u := by rw [State.drain, hserve, hk]
        rw [hdrain]
        exact ⟨hcores, nofun, .of_harbours hharb⟩
      | some q =>
        rw [State.drain_none (hserve.trans hk) (by rw [hcores, hnone])]
        obtain ⟨h1, h2, -, -, h5⟩ := u.ringClear_effect
        exact ⟨h1.trans hcores, fun _ => h5, .of_harbours (h2.trans hharb)⟩
    · obtain ⟨q, hq⟩ := Option.isSome_iff_exists.mp hsome
      have hfull : u.cplFull = false := by
        rw [State.cplFull, hhead, htail]
        exact decide_eq_false (by omega)
      obtain ⟨h1, h2, -⟩ := State.drain_one (hserve.trans hq) hfull (c := c) (by rw [hcores, hone])
      rw [h1, h2, htail]
      refine ⟨rfl, fun x hx => ?_, rfl⟩
      simpa using (List.mem_filter.mp hx).2
  · rw [if_pos howner] at ht
    exact ⟨_, ht, fun _ => ⟨rfl, State.eventBit_event _ _ (by decide), .of_harbours rfl⟩, fun h => absurd h howner⟩

theorem cplFullTimeout_effect (s : State) (k : Nat) (hserve : s.serving = some k) :
    Completes .cplFullTimeout s fun t =>
      (s.cores.waiting ≠ [] → t.condBit (lpPage k) 5 = true) ∧ (s.cores.waiting = [] → t = s) ∧ t.cores = s.cores ∧ SameMemory s t := by
  have ht : exec .cplFullTimeout s = execCplFullTimeout s := rfl
  rw [execCplFullTimeout, hserve] at ht
  dsimp only at ht
  cases hwait : s.cores.waiting with
  | nil =>
    rw [hwait] at ht
    exact ⟨s, ht, fun h => absurd rfl h, fun _ => rfl, rfl, .refl s⟩
  | cons c l =>
    rw [hwait] at ht
    obtain ⟨h1, h2, -, -⟩ := s.report_same (lpPage k) 5
    exact ⟨_, ht, fun _ => State.condBit_report .., nofun, h1, .of_harbours h2⟩

end Sys2Proof.Machine

namespace Sys2Proof.Machine

/-! ## Reports of steps and step boundaries (R537, R540) -/

theorem stepReport_effect (s : State) (k : Nat) (r : StepReport) (rest : List StepReport) (hserve : s.serving = some k)
    (hreports : s.cores.reports = r :: rest) :
    Completes .stepReport s fun t =>
      ((∀ e ∈ s.cores.entries, ¬ (e.index = r.id ∧ e.due = r.gen ∧ e.far.isSome = true)) → t.cores.reports = rest ∧
        t.cores.entries = s.cores.entries ∧
        t.get ringPage Lp.CMD_STALE_COUNT = min (s.get ringPage Lp.CMD_STALE_COUNT + 1) (Lp.CMD_STALE_COUNT.size - 1) ∧
        t.eventBit (lpPage k) 0 = true) ∧
      (∀ e w, s.cores.entries = [e] → e.index = r.id → e.due = r.gen → e.far.isSome = true → s.entryEnded e = false → r.result = .goes w →
        t.cores.reports = rest ∧ t.cores.entries = [{ e with far := none, steps := e.steps + 1, work := w }] ∧ t.regs = s.regs) ∧
      (∀ e x, s.cores.entries = [e] → e.index = r.id → e.due = r.gen → e.far.isSome = true → s.entryEnded e = false → r.result = .ends x →
        e.num 3 1 = e.due → t.cores.reports = rest ∧ EntryEnds s t k e x.status x.r0 x.r1 (some x.detail)) ∧
      (r.result = .goes .none → SameMemory s t) := by
  have ht : exec .stepReport s = execStepReport s := rfl
  rw [execStepReport, hserve, hreports] at ht
  dsimp only at ht
  let u : State := { s with cores := { s.cores with reports := rest } }
  have hmine : ∀ e, s.cores.entries = [e] → e.index = r.id → e.due = r.gen → e.far.isSome = true → s.entryEnded e = false →
      u.cores.entries.find? (fun e => e.index == r.id && e.due == r.gen && e.far.isSome && !u.entryEnded e) = some e := by
    intro e hone h1 h2 h3 h4
    have h5 : u.entryEnded e = false := h4
    have hentries : u.cores.entries = [e] := hone
    rw [hentries, List.find?_cons_of_pos]
    simp [h1, h2, h3, h5]
  change exec .stepReport s = .next (match u.cores.entries.find? (fun e => e.index == r.id && e.due == r.gen && e.far.isSome && !u.entryEnded e) with
      | none => (u.countSat ringPage Lp.CMD_STALE_COUNT).event (lpPage k) 0
      | some e => u.applyWork { e with far := none } r.result) at ht
  refine ⟨_, ht, fun hnone => ?_, fun e w hone h1 h2 h3 h4 hgoes => ?_, fun e x hone h1 h2 h3 h4 hends hdue => ?_, fun hgoes => ?_⟩
  · have hstale : u.cores.entries.find? (fun e => e.index == r.id && e.due == r.gen && e.far.isSome && !u.entryEnded e) = none := by
      refine List.find?_eq_none.mpr fun e he hmatch => hnone e he ?_
      simp only [Bool.and_eq_true, beq_iff_eq] at hmatch
      exact ⟨hmatch.1.1.1, hmatch.1.1.2, hmatch.1.2⟩
    rw [hstale]
    refine ⟨rfl, rfl, (State.get_put_other _ _ ?_).trans (State.get_countSat_same ..), State.eventBit_event _ _ (by decide)⟩
    exact fieldKey_ne_of_place (by decide) (by decide) (by decide)
  · rw [hmine e hone h1 h2 h3 h4, hgoes]
    refine ⟨rfl, ?_, rfl⟩
    show List.map _ s.cores.entries = _
    rw [hone]
    simp
  · rw [hmine e hone h1 h2 h3 h4, hends]
    let e' : RingEntry := { e with far := none, steps := e.steps + 1 }
    have hmod : u.applyWork { e with far := none } (.ends x) = (u.modEntry e.count fun _ => e').endEntry e' x := by
      unfold State.applyWork
      rfl
    dsimp only
    rw [hmod]
    have hserve' : (u.modEntry e.count fun _ => e').serving = some k := by
      rw [← hserve]
      exact State.serving_of_writes (.of_regs _ rfl) rfl rfl rfl rfl
    have hwait : (u.modEntry e.count fun _ => e').cores.waiting = s.cores.waiting := rfl
    have hrest : (u.modEntry e.count fun _ => e').cores.reports = rest := rfl
    have hregs : (u.modEntry e.count fun _ => e').regs = s.regs := rfl
    generalize (u.modEntry e.count fun _ => e') = v at hserve' hwait hrest hregs
    refine ⟨?_, ?_⟩
    · rw [(v.endEntry_atRing e' x).cores]
      exact hrest
    · have hget : ∀ f, v.get ringPage f = s.get ringPage f := State.get_of_regs hregs ringPage
      have hends : EntryEnds v (v.endEntry e' x) k e x.status x.r0 x.r1 (some x.detail) := State.endEntry_ends hserve' e' x (.inr hdue)
      exact hends.congr (hget _) (hget _) hwait (by rw [State.cplBase, hget, hget, State.cplBase]) (.of_regs hregs)
  · rw [hgoes]
    split
    · exact .of_harbours rfl
    · refine .of_harbours ?_
      unfold State.applyWork
      rfl


/-- What the boundary of a step does first: the processor shows its role and the longest step. -/
def State.stepSeen (s : State) (k ns : Nat) : State := (s.roleOf k).putMax ringPage Lp.STEP_MAX_NS ns

theorem State.stepSeen_get (s : State) (k : Fin 4) (ns : Nat) :
    (s.stepSeen k ns).get (lpPage k) Lp.LP_FW_STAT_STATE = (if s.halfState (k / 2) = 1 then 2 else 3) ∧
    (s.stepSeen k ns).get ringPage Lp.STEP_MAX_NS = max (s.get ringPage Lp.STEP_MAX_NS) (min ns (Lp.STEP_MAX_NS.size - 1)) % Lp.STEP_MAX_NS.size := by
  have hkey : ∀ k : Fin 4, fieldKey ringPage Lp.STEP_MAX_NS ≠ fieldKey (lpPage k) Lp.LP_FW_STAT_STATE := by decide
  refine ⟨?_, ?_⟩
  · refine (State.get_put_other _ _ (hkey k)).trans ((State.get_put_same ..).trans ?_)
    split <;> rfl
  · refine (State.get_put_same ..).trans ?_
    have hsame : (s.roleOf k).get ringPage Lp.STEP_MAX_NS = s.get ringPage Lp.STEP_MAX_NS := State.get_put_other _ _ (hkey k).symm
    rw [hsame]

theorem State.running_state {s : State} {k : Nat} (h : s.running k = true) :
    s.get (lpPage k) Lp.LP_FW_STAT_STATE = 2 ∨ s.get (lpPage k) Lp.LP_FW_STAT_STATE = 3 := by
  unfold State.running at h
  simp only [Bool.and_eq_true, Bool.or_eq_true, beq_iff_eq] at h
  exact h.1.1.1

theorem State.running_iff {s : State} {k : Nat} (h : s.get (lpPage k) Lp.LP_FW_STAT_STATE = 2 ∨ s.get (lpPage k) Lp.LP_FW_STAT_STATE = 3) :
    s.running k = (s.ready ⟨.lp, k, 0⟩ && !hasBit s.cores.down k && !s.lpHalfFailed k) := by
  unfold State.running
  rcases h with h | h <;> simp [h]

/-- The boundary of a step changes neither which processors run nor which one serves the ring. -/
theorem State.stepSeen_serving {s : State} {k : Fin 4} (hrun : s.running k = true) (ns : Nat) :
    (∀ q < 4, (s.stepSeen k ns).running q = s.running q) ∧ (s.stepSeen k ns).serving = s.serving := by
  have hw : WritesIn (fun key => key = fieldKey (lpPage k) Lp.LP_FW_STAT_STATE ∨ key = fieldKey ringPage Lp.STEP_MAX_NS) s (s.stepSeen k ns) :=
    ((WritesIn.refl _ s).put _ (.inl rfl)).putMax (.inr rfl)
  have hfacts : ∀ k : Fin 4, (∀ h < 2, fieldKey swPage (halfField h) ≠ fieldKey (lpPage k) Lp.LP_FW_STAT_STATE ∧
      fieldKey swPage (halfField h) ≠ fieldKey ringPage Lp.STEP_MAX_NS) ∧
      (∀ q < 4, fieldKey 0x3 (Chip.PD_CTRL_ACK.nth (65 + q)) ≠ fieldKey (lpPage k) Lp.LP_FW_STAT_STATE ∧
        fieldKey 0x3 (Chip.PD_CTRL_ACK.nth (65 + q)) ≠ fieldKey ringPage Lp.STEP_MAX_NS) ∧
      (∀ q < 4, fieldKey (lpPage q) Lp.LP_FW_STAT_STATE ≠ fieldKey ringPage Lp.STEP_MAX_NS ∧
        (q ≠ k → fieldKey (lpPage q) Lp.LP_FW_STAT_STATE ≠ fieldKey (lpPage k) Lp.LP_FW_STAT_STATE)) ∧
      fieldKey (lpPage k) Lp.LP_FW_STAT_STATE / 0x8000 < 0x800 ∧ fieldKey (lpPage k) Lp.LP_FW_STAT_STATE ∉ ringBaseKeys ∧
      fieldKey ringPage Lp.STEP_MAX_NS / 0x8000 < 0x800 ∧ fieldKey ringPage Lp.STEP_MAX_NS ∉ ringBaseKeys := by decide
  obtain ⟨f1, f2, f3, f4, f5, f6, f7⟩ := hfacts k
  have hhalf : ∀ h < 2, (s.stepSeen k ns).halfState h = s.halfState h := fun h hh => State.halfState_congr h (hw.get (not_or.mpr (f1 h hh)))
  have hpow : ∀ q < 4, (s.stepSeen k ns).flag 0x3 (Chip.PD_CTRL_ACK.nth (65 + q)) = s.flag 0x3 (Chip.PD_CTRL_ACK.nth (65 + q)) := fun q hq =>
    hw.flag (not_or.mpr (f2 q hq))
  have hruns : ∀ q < 4, (s.stepSeen k ns).running q = s.running q := fun q hq => by
    by_cases hqk : q = k
    · subst hqk
      have hstate : (s.stepSeen k ns).get (lpPage k) Lp.LP_FW_STAT_STATE = 2 ∨ (s.stepSeen k ns).get (lpPage k) Lp.LP_FW_STAT_STATE = 3 := by
        rw [(s.stepSeen_get k ns).1]
        split
        · exact .inl rfl
        · exact .inr rfl
      have hready : (s.stepSeen k ns).ready ⟨.lp, k, 0⟩ = s.ready ⟨.lp, k, 0⟩ := by
        have hpowered : (s.stepSeen k ns).powered (PageRef.domain ⟨.lp, k, 0⟩) = s.powered (PageRef.domain ⟨.lp, k, 0⟩) := hpow k hq
        rw [State.ready, hpowered]
        rfl
      rw [State.running_iff hstate, State.running_iff (State.running_state hrun), hready, State.lpHalfFailed, State.halfFailed, hhalf _ (by omega)]
      rfl
    · exact State.running_congr (hw.get (not_or.mpr ⟨(f3 q hq).2 hqk, (f3 q hq).1⟩)) (hpow q hq) rfl rfl (hhalf _ (by omega))
  refine ⟨hruns, State.serving_congr hruns hhalf rfl rfl (fun key hkey => hw key fun h => ?_) (.of_writes hw fun key h => ?_)⟩
  · rcases h with rfl | rfl
    · exact f5 hkey
    · exact f7 hkey
  · rcases h with rfl | rfl
    · exact f4
    · exact f6

theorem State.runner_congr {s t : State} {h : Nat} (hh : h < 2) (hrun : ∀ q < 4, t.running q = s.running q) : t.runner h = s.runner h := by
  have h0 := hrun (2 * h) (by omega)
  have h1 := hrun (2 * h + 1) (by omega)
  simp only [State.runner, List.find?_cons, List.find?_nil, h0, h1]

end Sys2Proof.Machine

namespace Sys2Proof.Machine

/-- The end that a bad entry gets gives no results. -/
theorem RingEntry.fault_results {e : RingEntry} {x : StepEnd} (h : e.fault = some x) : x.r0 = none ∧ x.r1 = none := by
  unfold RingEntry.fault at h
  split at h
  · cases h
    exact ⟨rfl, rfl⟩
  · split at h
    · cases h
      exact ⟨rfl, rfl⟩
    · extract_lets places at h
      split at h
      · cases h
        exact ⟨rfl, rfl⟩
      · obtain ⟨p, -, rfl⟩ := Option.map_eq_some_iff.mp h
        exact ⟨rfl, rfl⟩

/-- With every entry fetched and none started, and with no plan to check, the serving processor takes no step of a command. -/
theorem State.no_step {b : State} {k : Nat} {v : MemView} (hchecking : b.tide.checking = none) (hidle : ∀ x ∈ b.cores.entries, x.started = false) :
    (if b.nextStart.isSome then b
    else if b.tide.checking.isSome && !b.longOps.any (fun e => e.work == .submit) then b.checkPlan.settle
      else match oldestEntry (b.cores.entries.filter fun e => b.wants e (k / 2) true) with
        | none => b
        | some e => b.stepNear e (k / 2) v) = b := by
  have hnone : b.cores.entries.filter (fun e => b.wants e (k / 2) true) = [] := by
    refine List.filter_eq_nil_iff.mpr fun x hx => ?_
    unfold State.wants
    rw [hidle x hx]
    exact Bool.false_ne_true
  rw [hnone, hchecking]
  split
  · rfl
  · rfl

/-- What the fetch of an entry of untranslated memory makes of it: the entry's bytes, the head, and, of a bad entry, its end. -/
def State.fetched (s : State) (k : Nat) (e : RingEntry) (b : List Byte) : State :=
  ((s.put ringPage Lp.CMD_HEAD_COUNT (e.count + 1)).modEntry e.count fun _ => { e with bytes := some b }).lower (lpPage k) 4

/-- A fetched entry that is bad ends at once. -/
def State.judgeFetched (s : State) (e : RingEntry) : State := match e.fault with
  | none => s
  | some x => s.endEntry e x

theorem State.fetchEntry_of_read {s t : State} {k : Nat} {e : RingEntry} {v w : MemView} {b : List Byte}
    (h : s.coreRead (k / 2) (s.cmdBase + 64 * e.index) 64 4 v = (.ok b, w, t)) :
    s.fetchEntry k e v = (w, (t.fetched k e b).judgeFetched { e with bytes := some b }) := by
  obtain ⟨read, hread⟩ : ∃ f, f = State.coreRead := ⟨_, rfl⟩
  obtain ⟨fetch, hfetch⟩ : ∃ f, f = State.fetchEntry := ⟨_, rfl⟩
  rw [← hread] at h
  rw [← hfetch]
  delta State.fetchEntry at hfetch
  rw [← hread] at hfetch
  rw [hfetch]
  beta_reduce
  rw [h]
  dsimp only
  unfold State.judgeFetched State.fetched
  cases ({ e with bytes := some b } : RingEntry).fault with
  | none => rfl
  | some x => rfl

/-- An entry's place lies within one block, and within the memory that holds the ring. -/
theorem State.entry_place (s : State) {h : Nat} (hcap : s.cmdBase + 0x4000 ≤ s.memCapacity h) (e : RingEntry) :
    s.cmdBase + 64 * e.index < s.memCapacity h ∧ (s.cmdBase + 64 * e.index) % 65536 + 64 ≤ 65536 := by
  have hindex : e.index < 256 := Nat.mod_lt _ (by decide)
  have hbase : s.cmdBase % 16384 = 0 := by
    unfold State.cmdBase
    omega
  omega

theorem State.fetchEntry_flat {s : State} {k : Nat} {e : RingEntry} {v : MemView} (hflat : s.flatMemory (k / 2))
    (hcap : s.cmdBase + 0x4000 ≤ s.memCapacity (k / 2)) (hmax : s.memCapacity (k / 2) ≤ 2 ^ 52) (herrs : v.errs = []) :
    s.fetchEntry k e v = (v, (s.fetched k e (s.memRead (k / 2) (s.cmdBase + 64 * e.index) 64)).judgeFetched
      { e with bytes := some (s.memRead (k / 2) (s.cmdBase + 64 * e.index) 64) }) := by
  have hplace := s.entry_place hcap e
  exact State.fetchEntry_of_read (State.coreRead_flat hflat hplace.1 hmax herrs (by decide) hplace.2)

/-- The one entry of the ring is fetched, of untranslated memory: the head is past it, its bytes are there, and nothing else but the faults of a bad fetch has
changed. -/
theorem State.fetched_effect (s : State) (k : Fin 4) {e : RingEntry} (b : List Byte) (hone : s.cores.entries = [e]) :
    (s.fetched k e b).cores = { s.cores with entries := [{ e with bytes := some b }] } ∧ (s.fetched k e b).harbours = s.harbours ∧
    (s.fetched k e b).tide = s.tide ∧ (s.fetched k e b).power = s.power ∧ WritesIn (fun key => key = fieldKey ringPage Lp.CMD_HEAD_COUNT ∨ key = fieldKey (lpPage k) Hdr.FLT_STAT_FAULT) s (s.fetched k e b) ∧
    (s.fetched k e b).get ringPage Lp.CMD_HEAD_COUNT = (e.count + 1) % 65536 := by
  have hplace : ∀ k : Fin 4, fieldKey (lpPage k) Hdr.FLT_STAT_FAULT ≠ fieldKey ringPage Lp.CMD_HEAD_COUNT := by decide
  have hmod : ((s.put ringPage Lp.CMD_HEAD_COUNT (e.count + 1)).modEntry e.count fun _ => { e with bytes := some b }).cores =
      { s.cores with entries := [{ e with bytes := some b }] } := by
    unfold State.modEntry
    simp [hone]
  have hw : WritesIn (fun key => key = fieldKey ringPage Lp.CMD_HEAD_COUNT ∨ key = fieldKey (lpPage k) Hdr.FLT_STAT_FAULT) s
      ((s.put ringPage Lp.CMD_HEAD_COUNT (e.count + 1)).modEntry e.count fun _ => { e with bytes := some b }) :=
    ((WritesIn.refl _ s).put _ (.inl rfl)).regs rfl
  have hhead : ((s.put ringPage Lp.CMD_HEAD_COUNT (e.count + 1)).modEntry e.count fun _ => { e with bytes := some b }).get ringPage Lp.CMD_HEAD_COUNT =
      (e.count + 1) % 65536 := (State.get_of_regs rfl _ _).trans (State.get_put_same ..)
  unfold State.fetched
  refine ⟨(State.lower_cores ..).trans hmod, State.lower_harbours .., State.lower_tide .., State.lower_power .., hw.lower (.inr rfl),
    (State.get_lower_other _ _ (hplace k)).trans hhead⟩

/-- What a bad entry's end, at its fetch, leaves: no entry to fetch or under way, no plan to check, and the head. -/
theorem State.judgeFetched_effect {s : State} {k : Nat} {e : RingEntry} (hserve : s.serving = some k) (hone : s.cores.entries = [e])
    (hbytes : ∃ c l, e.bytes = some (c :: l)) :
    (∀ x ∈ (s.judgeFetched e).cores.entries, x = e) ∧ (s.judgeFetched e).tide = s.tide ∧
    (s.judgeFetched e).get ringPage Lp.CMD_HEAD_COUNT = s.get ringPage Lp.CMD_HEAD_COUNT ∧
    ∀ x, e.fault = some x → EntryEnds s (s.judgeFetched e) k e x.status none none (some x.detail) := by
  cases hfault : e.fault with
  | none =>
    have hsame : s.judgeFetched e = s := by
      unfold State.judgeFetched
      rw [hfault]
    rw [hsame, hone]
    exact ⟨fun x hx => List.mem_singleton.mp hx, rfl, rfl, nofun⟩
  | some x =>
    have hends : s.judgeFetched e = s.endEntry e x := by
      unfold State.judgeFetched
      rw [hfault]
    obtain ⟨h0, h1⟩ := RingEntry.fault_results hfault
    have hrecord := State.endEntry_ends hserve e x (.inl hbytes)
    rw [h0, h1] at hrecord
    have hring := s.endEntry_atRing e x
    rw [hends]
    refine ⟨fun y hy => ?_, hring.tide, hring.writes.get ?_, fun y hy => Option.some_inj.mp hy ▸ hrecord⟩
    · exact List.mem_singleton.mp (hone ▸ hring.entries y hy)
    · rintro (h | h | h | h) <;> revert h <;> decide

end Sys2Proof.Machine

namespace Sys2Proof.Machine

/-- An awake processor's step, where nothing of the wake from sleep is due. -/
theorem fwStepBoundary_awake {k : Fin 4} {ns : Nat} {v : MemView} {s : State} (hrun : s.running k = true) (hseq : s.power.wakeSeqDue = false)
    (hplan : s.power.replanDue = false) (hpm : s.get 0x2 Chip.PM_STAT_STATE ≠ 2) :
    exec (.fwStepBoundary k ns v) s = .next (if (s.stepSeen k ns).serving = some k.val then (s.stepSeen k ns).serveRing k v
      else if (s.stepSeen k ns).runner (k / 2) = some k.val then (s.stepSeen k ns).stepFar k v else s.stepSeen k ns) := by
  have hpm' : (s.stepSeen k ns).get 0x2 Chip.PM_STAT_STATE = s.get 0x2 Chip.PM_STAT_STATE := by
    have hkey : ∀ k : Fin 4, fieldKey (lpPage k) Lp.LP_FW_STAT_STATE ≠ fieldKey 0x2 Chip.PM_STAT_STATE := by decide
    exact (State.get_put_other _ _ (by decide)).trans (State.get_put_other _ _ (hkey k))
  have hseq' : (s.stepSeen k ns).power.wakeSeqDue = false := hseq
  have hplan' : (s.stepSeen k ns).power.replanDue = false := hplan
  have hawake : ((s.stepSeen k ns).power.wakeSeqDue || (s.stepSeen k ns).power.replanDue ||
      (s.stepSeen k ns).get 0x2 Chip.PM_STAT_STATE == 2) = false := by
    rw [hseq', hplan', hpm']
    simpa using hpm
  have ht : exec (.fwStepBoundary k ns v) s = .next (if !s.running k then s
      else if ((s.stepSeen k ns).power.wakeSeqDue || (s.stepSeen k ns).power.replanDue || (s.stepSeen k ns).get 0x2 Chip.PM_STAT_STATE == 2) &&
          ((s.stepSeen k ns).actingHalf.bind (s.stepSeen k ns).runner) == some k.val then (s.stepSeen k ns).wakeWork k v
      else if (s.stepSeen k ns).serving = some k.val then (s.stepSeen k ns).serveRing k v
      else if (s.stepSeen k ns).runner (k / 2) = some k.val then (s.stepSeen k ns).stepFar k v else s.stepSeen k ns) := rfl
  rw [ht, hrun, hawake]
  rfl

/-- The fetch of entries, with the fetch of one as a parameter. -/
def fetchLoop (fetch : State → Nat → RingEntry → MemView → MemView × State) (k : Nat) : Nat → State → MemView → MemView × State
  | 0, s, v => (v, s)
  | n + 1, s, v => match s.nextFetch with
    | none => (v, s)
    | some e => fetchLoop fetch k n (fetch s k e v).2 (fetch s k e v).1

theorem State.fetchAll_eq_loop (s : State) (k : Nat) (v : MemView) (n : Nat) : s.fetchAll k v n = fetchLoop State.fetchEntry k n s v := by
  obtain ⟨fetch, hfetch⟩ : ∃ f, f = State.fetchEntry := ⟨_, rfl⟩
  delta State.fetchAll State.fetchAll._f
  rw [← hfetch]
  induction n generalizing s v with
  | zero => rfl
  | succ n ih =>
    unfold Nat.brecOn fetchLoop
    dsimp only
    cases s.nextFetch with
    | none => rfl
    | some x => exact ih ..
theorem fetchLoop_none (fetch : State → Nat → RingEntry → MemView → MemView × State) (k : Nat) {s : State} (v : MemView) (n : Nat)
    (h : s.nextFetch = none) : fetchLoop fetch k n s v = (v, s) := by
  cases n with
  | zero => rfl
  | succ n => rw [fetchLoop, h]

theorem State.fetchAll_one {s t : State} {k : Nat} {e : RingEntry} {v w : MemView} (n : Nat) (hnext : s.nextFetch = some e)
    (hfetch : s.fetchEntry k e v = (w, t)) (hdone : t.nextFetch = none) : s.fetchAll k v (n + 1) = (w, t) := by
  rw [State.fetchAll_eq_loop]
  generalize State.fetchEntry = fetch at hfetch
  rw [fetchLoop, hnext]
  dsimp only
  rw [hfetch]
  exact fetchLoop_none fetch k w n hdone

/-- The ring's serving processor, after a fetch that leaves no other entry to fetch. -/
theorem State.serveRing_of_fetch {s t u : State} {k : Nat} {v w : MemView} (hready : (s.dropLost.settle).drain = t)
    (hfetch : t.fetchAll k v 256 = (w, u)) (hchecking : u.tide.checking = none) (hidle : ∀ x ∈ u.cores.entries, x.started = false) :
    s.serveRing k v = u := by
  obtain ⟨all, hall⟩ : ∃ f, f = State.fetchAll := ⟨_, rfl⟩
  rw [← hall] at hfetch
  unfold State.serveRing
  rw [← hall, hready]
  dsimp only
  rw [hfetch]
  exact State.no_step hchecking hidle

theorem State.ready_ring {s : State} {k : Nat} {e : RingEntry} (hserve : s.serving = some k) (hone : s.cores.entries = [e]) (hidle : e.started = false)
    (hlost : e.lost = none) (hwait : s.cores.waiting = []) (hended : s.tide.ended = none) : (s.dropLost.settle).drain = s.ringClear := by
  have hdrop : s.dropLost = s := by
    have hnone : s.lostFor e = none := by
      unfold State.lostFor
      rw [hlost, hidle]
      rfl
    unfold State.dropLost
    rw [hone, List.foldl_cons, List.foldl_nil]
    dsimp only
    rw [hnone]
  have hsettle : s.settle = s := by
    unfold State.settle
    rw [hended]
  rw [hdrop, hsettle, State.drain_none hserve hwait]

/-- A state whose processors, halves and rings are another's. -/
structure RingAlike (s t : State) : Prop where
  harbours : t.harbours = s.harbours
  tide : t.tide = s.tide
  power : t.power = s.power
  down : t.cores.down = s.cores.down
  home : t.cores.home = s.cores.home
  waiting : t.cores.waiting = s.cores.waiting
  tail : t.get ringPage Lp.CPL_TAIL_COUNT = s.get ringPage Lp.CPL_TAIL_COUNT
  head : t.get ringPage Lp.CPL_HEAD_COUNT = s.get ringPage Lp.CPL_HEAD_COUNT
  places : WritesIn (· ∈ ringPlaces) s t

theorem RingAlike.trans {s t u : State} (h : RingAlike s t) (g : RingAlike t u) : RingAlike s u :=
  ⟨g.harbours.trans h.harbours, g.tide.trans h.tide, g.power.trans h.power, g.down.trans h.down, g.home.trans h.home, g.waiting.trans h.waiting,
    g.tail.trans h.tail, g.head.trans h.head, h.places.trans g.places⟩

section
variable {s t : State} (h : RingAlike s t)
include h

theorem RingAlike.serving : t.serving = s.serving := State.serving_of_writes h.places (congrArg _ h.power) h.down h.home h.harbours

theorem RingAlike.reads : SameReads s t := .of_writes h.places fun key hk => (ringPlaces_facts.1 key hk).1

theorem RingAlike.base {f : Field} (hf : fieldKey ringPage f ∈ ringBaseKeys) : t.get ringPage f = s.get ringPage f :=
  h.places.get fun hk => (ringPlaces_facts.1 _ hk).2 hf

theorem RingAlike.cmdBase : t.cmdBase = s.cmdBase := by
  rw [State.cmdBase, h.base (by decide), h.base (by decide), State.cmdBase]

theorem RingAlike.cplBase : t.cplBase = s.cplBase := by
  rw [State.cplBase, h.base (by decide), h.base (by decide), State.cplBase]

end

theorem State.ringClear_alike (s : State) : RingAlike s s.ringClear := by
  obtain ⟨c1, c2, c3, c4, -⟩ := s.ringClear_effect
  exact ⟨c2, s.ringClear_atRing.tide, c3, by rw [c1], by rw [c1], by rw [c1], c4.get (by decide), c4.get (by decide),
    c4.mono fun key h => List.mem_append_right _ h⟩

theorem State.fetched_alike (s : State) (k : Fin 4) {e : RingEntry} (b : List Byte) (hone : s.cores.entries = [e]) : RingAlike s (s.fetched k e b) := by
  obtain ⟨h1, h2, h3, h4, h5, -⟩ := s.fetched_effect k b hone
  have hfacts : ∀ k : Fin 4, ∀ f ∈ [Lp.CPL_TAIL_COUNT, Lp.CPL_HEAD_COUNT],
      ¬ (fieldKey ringPage f = fieldKey ringPage Lp.CMD_HEAD_COUNT ∨ fieldKey ringPage f = fieldKey (lpPage k) Hdr.FLT_STAT_FAULT) := by decide
  have hplace : ∀ k : Fin 4, fieldKey (lpPage k) Hdr.FLT_STAT_FAULT ∈ ringPlaces := by decide
  exact ⟨h2, h3, h4, by rw [h1], by rw [h1], by rw [h1], h5.get (hfacts k _ (by simp)), h5.get (hfacts k _ (by simp)),
    h5.mono fun key h => by
      rcases h with rfl | rfl
      · decide
      · exact hplace k⟩

theorem State.stepSeen_tide (s : State) (k ns : Nat) : (s.stepSeen k ns).tide = s.tide ∧ (s.stepSeen k ns).cores = s.cores ∧
    (s.stepSeen k ns).harbours = s.harbours := ⟨rfl, rfl, rfl⟩

theorem State.nextFetch_one {s : State} {e : RingEntry} (hone : s.cores.entries = [e]) (hbytes : e.bytes = none) : s.nextFetch = some e := by
  unfold State.nextFetch
  simp [hone, hbytes, State.unstarted]

theorem State.nextFetch_none {s : State} (h : ∀ x ∈ s.cores.entries, x.bytes.isSome = true) : s.nextFetch = none := by
  have hnone : s.cores.entries.find? (fun e => e.bytes.isNone) = none := by
    refine List.find?_eq_none.mpr fun x hx => ?_
    have := h x hx
    cases hb : x.bytes with
    | none => rw [hb] at this; cases this
    | some b => simp
  unfold State.nextFetch
  rw [hnone]

/-- The one entry that waits to be fetched is fetched, and ends where it is bad. -/
theorem State.serveRing_one {s : State} {k : Fin 4} {e : RingEntry} {v : MemView} (hserve : s.serving = some k.val) (hone : s.cores.entries = [e])
    (hbytes : e.bytes = none) (hidle : e.started = false) (hlost : e.lost = none) (hwait : s.cores.waiting = []) (hended : s.tide.ended = none)
    (hchecking : s.tide.checking = none) (hflat : s.flatMemory (k / 2)) (hcap : s.cmdBase + 0x4000 ≤ s.memCapacity (k / 2))
    (hmax : s.memCapacity (k / 2) ≤ 2 ^ 52) (herrs : v.errs = []) {b : List Byte} (hb : b = s.memRead (k / 2) (s.cmdBase + 64 * e.index) 64) :
    ∃ u, s.serveRing k v = u.judgeFetched { e with bytes := some b } ∧ RingAlike s u ∧ u.cores.entries = [{ e with bytes := some b }] ∧
      (u.judgeFetched { e with bytes := some b }).get ringPage Lp.CMD_HEAD_COUNT = (e.count + 1) % 65536 ∧
      ∀ x, ({ e with bytes := some b } : RingEntry).fault = some x →
        EntryEnds u (u.judgeFetched { e with bytes := some b }) k { e with bytes := some b } x.status none none (some x.detail) := by
  have hclear := s.ringClear_alike
  have hready := State.ready_ring hserve hone hidle hlost hwait hended
  have hcentries : s.ringClear.cores.entries = [e] := by rw [s.ringClear_effect.1, hone]
  have hflat' : s.ringClear.flatMemory (k / 2) := (State.hbLiveFlag_congr hclear.reads _).trans hflat
  have hcap' := State.memCapacity_congr hclear.reads (k / 2)
  have hfetch := State.fetchEntry_flat (e := e) hflat' (by rw [hclear.cmdBase, hcap']; exact hcap) (by rw [hcap']; exact hmax) herrs
  have hread : s.ringClear.memRead (k / 2) (s.ringClear.cmdBase + 64 * e.index) 64 = b := by
    rw [hclear.cmdBase, hb]
    exact State.memRead_congr hclear.harbours ..
  rw [hread] at hfetch
  have hlen : ∃ c l, ({ e with bytes := some b } : RingEntry).bytes = some (c :: l) := by
    have hsize : b.length = 64 := by rw [hb]; simp [State.memRead]
    cases b with
    | nil => cases hsize
    | cons c l => exact ⟨c, l, rfl⟩
  clear hread hb
  have hidle' : ({ e with bytes := some b } : RingEntry).started = false := hidle
  have hsome : ({ e with bytes := some b } : RingEntry).bytes.isSome = true := rfl
  generalize s.ringClear = a at *
  have halike := hclear.trans (a.fetched_alike k b hcentries)
  obtain ⟨f1, -, -, -, -, f6⟩ := a.fetched_effect k b hcentries
  have hfentries : (a.fetched k e b).cores.entries = [{ e with bytes := some b }] := by rw [f1]
  generalize ({ e with bytes := some b } : RingEntry) = e' at *
  obtain ⟨g1, g2, g3, g4⟩ := State.judgeFetched_effect (halike.serving.trans hserve) hfentries hlen
  refine ⟨a.fetched k e b, ?_, halike, hfentries, g3.trans f6, g4⟩
  have hall := State.fetchAll_one 255 (State.nextFetch_one hcentries hbytes) hfetch
    (State.nextFetch_none fun x hx => (congrArg (fun y : RingEntry => y.bytes.isSome) (g1 x hx)).trans hsome)
  exact State.serveRing_of_fetch hready hall ((congrArg TideSt.checking (g2.trans halike.tide)).trans hchecking)
    fun x hx => (congrArg RingEntry.started (g1 x hx)).trans hidle'

end Sys2Proof.Machine

namespace Sys2Proof.Machine

theorem fwStepBoundary_effect (k : Fin 4) (ns : Nat) (v : MemView) (s : State) :
    Completes (.fwStepBoundary k ns v) s fun t =>
      (s.running k = false → t = s) ∧
      (s.running k = true → s.power.wakeSeqDue = false → s.power.replanDue = false → s.get 0x2 Chip.PM_STAT_STATE ≠ 2 → s.serving ≠ some k.val →
        s.runner (k / 2) ≠ some k.val →
        t.get (lpPage k) Lp.LP_FW_STAT_STATE = (if s.halfState (k / 2) = 1 then 2 else 3) ∧
        t.get ringPage Lp.STEP_MAX_NS = max (s.get ringPage Lp.STEP_MAX_NS) (min ns (Lp.STEP_MAX_NS.size - 1)) % Lp.STEP_MAX_NS.size ∧
        t.cores = s.cores ∧ SameMemory s t ∧ SameFaults s t) ∧
      (∀ e b, s.running k = true → s.power.wakeSeqDue = false → s.power.replanDue = false → s.get 0x2 Chip.PM_STAT_STATE ≠ 2 →
        s.serving = some k.val → s.cores.entries = [e] → e.bytes = none → e.started = false → e.lost = none → s.cores.waiting = [] →
        s.tide.ended = none → s.tide.checking = none → s.flatMemory (k / 2) → s.cmdBase + 0x4000 ≤ s.memCapacity (k / 2) →
        s.memCapacity (k / 2) ≤ 2 ^ 52 → v.errs = [] → b = s.memRead (k / 2) (s.cmdBase + 64 * e.index) 64 →
        t.get ringPage Lp.CMD_HEAD_COUNT = (e.count + 1) % 65536 ∧
        (({ e with bytes := some b } : RingEntry).fault = none → t.cores.entries = [{ e with bytes := some b }] ∧ SameMemory s t) ∧
        (∀ x, ({ e with bytes := some b } : RingEntry).fault = some x →
          EntryEnds s t k { e with bytes := some b } x.status none none (some x.detail))) := by
  cases hrun : s.running k with
  | false =>
    have ht : exec (.fwStepBoundary k ns v) s = .next s := by
      rw [exec, execFwStepBoundary, hrun]
      rfl
    exact ⟨s, ht, fun _ => rfl, nofun, nofun⟩
  | true =>
    obtain ⟨t, ht⟩ : ∃ t, exec (.fwStepBoundary k ns v) s = .next t := ⟨_, rfl⟩
    obtain ⟨hruns, hserving⟩ := State.stepSeen_serving hrun ns
    refine ⟨t, ht, nofun, fun _ h1 h2 h3 h4 h5 => ?_, fun e b _ h1 h2 h3 hserve hone hbytes hidle hlost hwait hended hchecking hflat hcap hmax herrs hb => ?_⟩
    · have hrunner : (s.stepSeen k ns).runner (k / 2) = s.runner (k / 2) := State.runner_congr (by omega) hruns
      rw [fwStepBoundary_awake hrun h1 h2 h3, hserving, hrunner, if_neg h4, if_neg h5] at ht
      injection ht with ht
      subst ht
      exact ⟨(s.stepSeen_get k ns).1, (s.stepSeen_get k ns).2, rfl, .of_harbours rfl, rfl, rfl⟩
    · rw [fwStepBoundary_awake hrun h1 h2 h3, hserving, if_pos hserve] at ht
      injection ht with ht
      subst ht
      have hw : WritesIn (fun key => key = fieldKey (lpPage k) Lp.LP_FW_STAT_STATE ∨ key = fieldKey ringPage Lp.STEP_MAX_NS) s (s.stepSeen k ns) :=
        ((WritesIn.refl _ s).put _ (.inl rfl)).putMax (.inr rfl)
      have hcores : (s.stepSeen k ns).cores = s.cores := rfl
      have htide : (s.stepSeen k ns).tide = s.tide := rfl
      have hharb : (s.stepSeen k ns).harbours = s.harbours := rfl
      have hfacts : ∀ k : Fin 4, fieldKey (lpPage k) Lp.LP_FW_STAT_STATE / 0x8000 < 0x800 ∧ fieldKey ringPage Lp.STEP_MAX_NS / 0x8000 < 0x800 ∧
          ∀ f ∈ [Lp.CPL_TAIL_COUNT, Lp.CPL_HEAD_COUNT, Lp.CMD_BASE_HI_BA, Lp.CMD_BASE_LO_BA, Lp.CPL_BASE_HI_BA, Lp.CPL_BASE_LO_BA],
            ¬ (fieldKey ringPage f = fieldKey (lpPage k) Lp.LP_FW_STAT_STATE ∨ fieldKey ringPage f = fieldKey ringPage Lp.STEP_MAX_NS) := by decide
      obtain ⟨f1, f2, f3⟩ := hfacts k
      have hreads : SameReads s (s.stepSeen k ns) := .of_writes hw fun key h => by
        rcases h with rfl | rfl
        · exact f1
        · exact f2
      have hget : ∀ f ∈ [Lp.CPL_TAIL_COUNT, Lp.CPL_HEAD_COUNT, Lp.CMD_BASE_HI_BA, Lp.CMD_BASE_LO_BA, Lp.CPL_BASE_HI_BA, Lp.CPL_BASE_LO_BA],
          (s.stepSeen k ns).get ringPage f = s.get ringPage f := fun f hf => hw.get (f3 f hf)
      generalize s.stepSeen k ns = a at *
      have hcmd : a.cmdBase = s.cmdBase := by rw [State.cmdBase, hget _ (by simp), hget _ (by simp), State.cmdBase]
      have hcpl : a.cplBase = s.cplBase := by rw [State.cplBase, hget _ (by simp), hget _ (by simp), State.cplBase]
      have hsize := State.memCapacity_congr hreads (k / 2)
      have hread : b = a.memRead (k / 2) (a.cmdBase + 64 * e.index) 64 := by
        rw [hb, hcmd]
        exact (State.memRead_congr hharb ..).symm
      obtain ⟨u, hu, halike, hentries, hhead, hends⟩ := State.serveRing_one (hserving.trans hserve) (by rw [hcores, hone]) hbytes hidle hlost
        (by rw [hcores, hwait]) (by rw [htide, hended]) (by rw [htide, hchecking]) ((State.hbLiveFlag_congr hreads _).trans hflat)
        (by rw [hcmd, hsize]; exact hcap) (by rw [hsize]; exact hmax) herrs hread
      rw [hu]
      clear hu hread hb
      refine ⟨hhead, fun hgood => ?_, fun x hx => ?_⟩
      · have hsame : u.judgeFetched { e with bytes := some b } = u := by
          unfold State.judgeFetched
          rw [hgood]
        rw [hsame]
        exact ⟨hentries, .of_harbours (halike.harbours.trans hharb)⟩
      · refine (hends x hx).congr ?_ ?_ (halike.waiting.trans (congrArg _ hcores)) (halike.cplBase.trans hcpl) (hreads.trans halike.reads)
        · exact halike.tail.trans (hget _ (by simp))
        · exact halike.head.trans (hget _ (by simp))

/-- Settles O53, effect by effect: the fetch of an entry reads untranslated memory, which changes nothing, and the end of a command adds its completion and
drains the completion ring. -/
theorem controlCoresServeTheRing : Obligations.ControlCoresServeTheRing := by
  unfold Obligations.ControlCoresServeTheRing
  exact ⟨lockstepMismatch_effect, pairRebootDone_effect, coreWatchdog_effect, fun k req w s n => cmdDoorbell_effect k req w s n, cplHeadWrite_effect,
    fwStepBoundary_effect, cplFullTimeout_effect, stepReport_effect⟩

end Sys2Proof.Machine
end

section
/-! PROOFS. The firmware's loops and policies (R542 to R546). -/

namespace Sys2Proof.Machine

/-! ## Commands that start and end (R535, R536) -/

/-- The registers that say which processor serves the ring, where its rings lie, and how full the completion ring is. -/
def ringReads : List Nat :=
  ringBaseKeys ++ [Lp.CPL_TAIL_COUNT, Lp.CPL_HEAD_COUNT].map (fieldKey ringPage) ++ [0, 1].map (fun h => fieldKey swPage (halfField h)) ++
  [0, 1, 2, 3].flatMap fun q => [fieldKey (lpPage q) Lp.LP_FW_STAT_STATE, fieldKey 0x3 (Chip.PD_CTRL_ACK.nth (65 + q))]

/-- Two states whose ring is served alike. -/
structure SameRing (s t : State) : Prop where
  serving : t.serving = s.serving
  tail : t.get ringPage Lp.CPL_TAIL_COUNT = s.get ringPage Lp.CPL_TAIL_COUNT
  head : t.get ringPage Lp.CPL_HEAD_COUNT = s.get ringPage Lp.CPL_HEAD_COUNT
  waiting : t.cores.waiting = s.cores.waiting
  base : t.cplBase = s.cplBase
  reads : SameReads s t

theorem SameRing.refl (s : State) : SameRing s s := ⟨rfl, rfl, rfl, rfl, rfl, .of_regs rfl⟩

theorem SameRing.trans {s t u : State} (h : SameRing s t) (k : SameRing t u) : SameRing s u :=
  ⟨k.serving.trans h.serving, k.tail.trans h.tail, k.head.trans h.head, k.waiting.trans h.waiting, k.base.trans h.base, h.reads.trans k.reads⟩

theorem SameRing.of_writes {P : Nat → Prop} {s t : State} (hw : WritesIn P s t) (hP : ∀ key ∈ ringReads, ¬ P key) (hreads : SameReads s t)
    (hreset : t.power.resetting = s.power.resetting) (hdown : t.cores.down = s.cores.down) (hhome : t.cores.home = s.cores.home)
    (hharb : t.harbours = s.harbours) (hwait : t.cores.waiting = s.cores.waiting) : SameRing s t := by
  have hkeys : (∀ key ∈ ringBaseKeys, key ∈ ringReads) ∧ fieldKey ringPage Lp.CPL_TAIL_COUNT ∈ ringReads ∧ fieldKey ringPage Lp.CPL_HEAD_COUNT ∈ ringReads ∧
      (∀ h < 2, fieldKey swPage (halfField h) ∈ ringReads) ∧
      ∀ q < 4, fieldKey (lpPage q) Lp.LP_FW_STAT_STATE ∈ ringReads ∧ fieldKey 0x3 (Chip.PD_CTRL_ACK.nth (65 + q)) ∈ ringReads := by decide
  obtain ⟨k1, k2, k3, k4, k5⟩ := hkeys
  have hhalf : ∀ h < 2, t.halfState h = s.halfState h := fun h hh => State.halfState_congr h (hw.get (hP _ (k4 h hh)))
  have hbases : ∀ key ∈ ringBaseKeys, SMap.get resetField t.regs key = SMap.get resetField s.regs key := fun key hk => hw key (hP key (k1 key hk))
  have hbase : ∀ f ∈ [Lp.CPL_BASE_HI_BA, Lp.CPL_BASE_LO_BA], t.get ringPage f = s.get ringPage f := fun f hf =>
    hbases _ (List.mem_map_of_mem (f := fieldKey ringPage) (List.mem_append_right [Lp.CMD_BASE_HI_BA, Lp.CMD_BASE_LO_BA] hf))
  refine ⟨State.serving_congr (fun q hq => ?_) hhalf hhome hharb hbases hreads, hw.get (hP _ k2), hw.get (hP _ k3), hwait, ?_, hreads⟩
  · exact State.running_congr (hw.get (hP _ (k5 q hq).1)) (hw.flag (hP _ (k5 q hq).2)) hreset hdown (hhalf _ (by omega))
  · rw [State.cplBase, hbase _ (.head _), hbase _ (.tail _ (.head _)), State.cplBase]

/-- Where only the cores have changed, and of them neither what runs nor what waits. -/
theorem SameRing.of_same {s t : State} (hregs : t.regs = s.regs) (hreset : t.power.resetting = s.power.resetting) (hdown : t.cores.down = s.cores.down)
    (hhome : t.cores.home = s.cores.home) (hharb : t.harbours = s.harbours) (hwait : t.cores.waiting = s.cores.waiting) : SameRing s t :=
  .of_writes (.of_regs (fun _ => False) hregs) (fun _ _ h => h) (.of_regs hregs) hreset hdown hhome hharb hwait

theorem EntryEnds.anyDetail {s t : State} {k st : Nat} {e : RingEntry} {r0 r1 d : Option Nat} (h : EntryEnds s t k e st r0 r1 d) :
    EntryEnds s t k e st r0 r1 none := by
  have hrec : ∀ b, IsRecord b e st r0 r1 d → IsRecord b e st r0 r1 none := fun b hb => by
    obtain ⟨h1, h2, h3, h4, h5, -⟩ := hb
    exact ⟨h1, h2, h3, h4, h5, nofun⟩
  obtain ⟨hfull, hroom⟩ := h
  refine ⟨fun h => ?_, fun h hnone => ?_⟩
  · obtain ⟨h1, h2, h3⟩ := hfull h
    exact ⟨h1, h2, fun c hc => ⟨(h3 c hc).1, hrec _ (h3 c hc).2⟩⟩
  · obtain ⟨h1, h2, h3, h4⟩ := hroom h hnone
    exact ⟨h1, h2, h3, fun a b c => ⟨hrec _ (h4 a b c).1, (h4 a b c).2⟩⟩

/-- A command that has begun ends, where the ring is served as before. -/
theorem SameRing.ends {s u : State} {k : Nat} {e : RingEntry} (h : SameRing s u) (hserve : s.serving = some k) (hbytes : ∃ c l, e.bytes = some (c :: l))
    (q c : Nat) (x : StepEnd) : EntryEnds s (u.endEntry (e.begun q c) x) k e x.status x.r0 x.r1 (some x.detail) := by
  have hends := State.endEntry_ends (h.serving.trans hserve) (e.begun q c) x (.inl hbytes)
  exact EntryEnds.congr (e := e) hends h.tail h.head h.waiting h.base h.reads

theorem State.startsNext_bytes {s : State} {i op k : Nat} {e : RingEntry} (h : s.startsNext i op k e) (hop : op ≠ 0) :
    ∃ c l, e.bytes = some (c :: l) := by
  obtain ⟨-, -, -, hcode⟩ := h
  cases hb : e.bytes with
  | none =>
    rw [RingEntry.opcode, RingEntry.num, hb] at hcode
    exact absurd hcode.symm hop
  | some b =>
    cases b with
    | nil =>
      rw [RingEntry.opcode, RingEntry.num, hb] at hcode
      exact absurd hcode.symm hop
    | cons c l => exact ⟨c, l, rfl⟩

theorem State.onStart_next {s : State} {i op k : Nat} {e : RingEntry} (h : s.startsNext i op k e) (f : State → Nat → RingEntry → State) :
    s.onStart i op f = f (s.startEntry k e) (k / 2) (e.begun k s.time.c) := by
  obtain ⟨hserve, hnext, hindex, hcode⟩ := h
  unfold State.onStart
  rw [hserve, hnext]
  dsimp only
  rw [if_neg (by simp [hindex, hcode])]

theorem State.startEntry_ring (s : State) (k : Nat) (e : RingEntry) : SameRing s (s.startEntry k e) := by
  have hw : WritesIn (· = fieldKey ringPage Lp.CMD_LAT_MAX_NS) s (s.startEntry k e) := by
    unfold State.startEntry
    exact WritesIn.putMax (.of_regs _ rfl) rfl
  refine .of_writes hw (by decide) (.of_writes hw fun key h => ?_) rfl rfl rfl rfl rfl
  subst h
  decide

/-- With the completion ring full, a command's end changes no memory, makes no fault and sends nothing. -/
theorem SameRing.ends_full {s u : State} {k : Nat} (h : SameRing s u) (hserve : s.serving = some k) (hfull : s.cplFull = true) (e : RingEntry)
    (x : StepEnd) : (u.endEntry e x).harbours = u.harbours ∧ SameFaults u (u.endEntry e x) ∧ (u.endEntry e x).out = u.out := by
  obtain ⟨w, a, b, heq, hregs, hcores, hharb, hpower, ⟨-, hflt, hout⟩, -, -⟩ := u.endEntry_eq e x
  have hdown : w.cores.down = u.cores.down := congrArg _ hcores
  have hhome : w.cores.home = u.cores.home := congrArg _ hcores
  let v : State := { w with cores := { w.cores with waiting := w.cores.waiting ++ [e.completion x a b] } }
  have hv : v.serving = some k := by
    refine Eq.trans ?_ (h.serving.trans hserve)
    exact State.serving_of_writes (.of_regs _ hregs) (congrArg PowerSt.resetting hpower) hdown hhome hharb
  have hvfull : v.cplFull = true := by
    rw [← hfull]
    have hget : ∀ f, v.get ringPage f = u.get ringPage f := State.get_of_regs hregs ringPage
    rw [State.cplFull, hget, hget, h.tail, h.head, State.cplFull]
  have hdrain : v.drain = v := State.drain_full hv hvfull (by simp [v])
  rw [heq]
  change v.drain.harbours = _ ∧ SameFaults u v.drain ∧ v.drain.out = _
  rw [hdrain]
  exact ⟨hharb, hflt, hout⟩

end Sys2Proof.Machine

namespace Sys2Proof.Machine

/-! ## The policies' commands (R545, R546) -/

/-- The policy that LINK_POLICY sets for a lane. -/
def RingEntry.linkPolicy (e : RingEntry) (s : State) (n : Nat) : LinkPolicy :=
  if e.num 0x14 1 = 0 then {} else { flaps := e.num 0x14 1, restoreS := e.num 0x15 2, top := s.get (wePage n) Weatas.LANE_CFG_MODE_MAX }

/-- A lane gets its policy. -/
def State.setLinkPolicy (s : State) (e : RingEntry) (n : Nat) : State :=
  { s with cores := { s.cores with links := SMap.set (fun _ => {}) s.cores.links n (e.linkPolicy s n) } }

theorem State.setLinkPolicy_foldl (e : RingEntry) (l : List Nat) (s : State) :
    l.foldl (fun s n => s.setLinkPolicy e n) s = { s with cores := { s.cores with links := (l.foldl (fun s n => s.setLinkPolicy e n) s).cores.links } } ∧
    ∀ n, SMap.get (fun _ => {}) (l.foldl (fun s n => s.setLinkPolicy e n) s).cores.links n =
      if n ∈ l then e.linkPolicy s n else SMap.get (fun _ => {}) s.cores.links n := by
  induction l generalizing s with
  | nil => exact ⟨rfl, fun n => (if_neg List.not_mem_nil).symm⟩
  | cons m l ih =>
    obtain ⟨h1, h2⟩ := ih (s.setLinkPolicy e m)
    have hpolicy : ∀ n, e.linkPolicy (s.setLinkPolicy e m) n = e.linkPolicy s n := fun _ => rfl
    refine ⟨h1, fun n => ?_⟩
    rw [List.foldl_cons, h2, hpolicy]
    by_cases hmem : n ∈ l
    · rw [if_pos hmem, if_pos (List.mem_cons_of_mem m hmem)]
    · rw [if_neg hmem]
      by_cases hn : n = m
      · subst hn
        rw [if_pos (List.mem_cons_self ..)]
        exact SMap.get_set_same ..
      · rw [if_neg (by simp [hn, hmem])]
        exact SMap.get_set_other _ _ _ (Ne.symm hn)

/-- LINK_POLICY sets the policy of the lanes that it names. -/
def State.setLinkPolicies (s : State) (e : RingEntry) : State :=
  ((List.range 32).filter fun n => hasBit (e.num 0x10 4) n).foldl (fun s n => s.setLinkPolicy e n) s

theorem State.setLinkPolicies_effect (s : State) (e : RingEntry) :
    (∃ l, s.setLinkPolicies e = { s with cores := { s.cores with links := l } }) ∧
    ∀ n, SMap.get (fun _ => {}) (s.setLinkPolicies e).cores.links n =
      if n < 32 ∧ hasBit (e.num 0x10 4) n = true then e.linkPolicy s n else SMap.get (fun _ => {}) s.cores.links n := by
  obtain ⟨h1, h2⟩ := State.setLinkPolicy_foldl e ((List.range 32).filter fun n => hasBit (e.num 0x10 4) n) s
  refine ⟨⟨_, h1⟩, fun n => (h2 n).trans ?_⟩
  simp only [List.mem_filter, List.mem_range]

/-- What the end of a command changes of the cores. -/
theorem State.endEntry_cores (s : State) (e : RingEntry) (x : StepEnd) :
    (s.endEntry e x).cores = { s.cores with waiting := (s.endEntry e x).cores.waiting, entries := (s.endEntry e x).cores.entries } :=
  (s.endEntry_atRing e x).cores

theorem linkPolicy_effect (i : Fin 256) (s : State) (k : Nat) (e : RingEntry) (hnext : s.startsNext i 0x0021 k e) :
    Completes (.linkPolicy i) s fun t =>
      EntryEnds s t k e 0 (some 0) (some 0) ∧
      (∀ n, SMap.get (fun _ => {}) t.cores.links n = (if n < 32 ∧ hasBit (e.num 0x10 4) n = true then
          (if e.num 0x14 1 = 0 then {} else { flaps := e.num 0x14 1, restoreS := e.num 0x15 2, top := s.get (wePage n) Weatas.LANE_CFG_MODE_MAX })
        else SMap.get (fun _ => {}) s.cores.links n)) ∧ (s.cplFull = true → SameMemory s t ∧ SameFaults s t) := by
  have ht : exec (.linkPolicy i) s = .next (s.onStart i 0x0021 fun s _ e =>
      (s.setLinkPolicies e).endEntry e { status := 0, r0 := some 0, r1 := some 0 }) := rfl
  rw [State.onStart_next hnext] at ht
  have hbytes := State.startsNext_bytes hnext (by decide)
  have hserve := hnext.1
  have hstart := s.startEntry_ring k e
  have hsame : (s.startEntry k e).cores.links = s.cores.links ∧ (s.startEntry k e).harbours = s.harbours ∧ SameFaults s (s.startEntry k e) ∧
      ∀ n, (s.startEntry k e).get (wePage n) Weatas.LANE_CFG_MODE_MAX = s.get (wePage n) Weatas.LANE_CFG_MODE_MAX :=
    ⟨rfl, rfl, ⟨rfl, rfl⟩, fun n => State.get_put_other _ _ (fieldKey_ne_of_place (by decide) (by decide) (by decide))⟩
  generalize s.startEntry k e = a at ht hstart hsame
  obtain ⟨hlinks, hharb, hflt, hmode⟩ := hsame
  have hnum : ∀ p n, (e.begun k s.time.c).num p n = e.num p n := fun _ _ => rfl
  obtain ⟨⟨l, hset⟩, hget⟩ := a.setLinkPolicies_effect (e.begun k s.time.c)
  generalize a.setLinkPolicies (e.begun k s.time.c) = u at ht hset hget
  have hring : SameRing s u := hstart.trans (by rw [hset]; exact .of_same rfl rfl rfl rfl rfl rfl)
  have huharb : u.harbours = a.harbours := by rw [hset]
  have huflt : SameFaults a u := by rw [hset]; exact ⟨rfl, rfl⟩
  refine ⟨_, ht, (hring.ends hserve hbytes k s.time.c { status := 0, r0 := some 0, r1 := some 0 }).anyDetail, fun n => ?_, fun hfull => ?_⟩
  · rw [State.endEntry_cores]
    dsimp only
    rw [hget, hlinks]
    simp only [RingEntry.linkPolicy, hnum, hmode]
  · obtain ⟨h1, h2, -⟩ := hring.ends_full hserve hfull (e.begun k s.time.c) { status := 0, r0 := some 0, r1 := some 0 }
    exact ⟨.of_harbours (h1.trans (huharb.trans hharb)), (hflt.trans huflt).trans h2⟩

theorem badParam_none {l : List (Bool × Nat)} (h : ∀ p ∈ l, p.1 = false) : badParam l = none := by
  unfold badParam
  rw [List.find?_eq_none.mpr fun p hp => by rw [h p hp]; exact Bool.false_ne_true]
  rfl

/-- FAILOVER_POLICY sets what it says. -/
def State.setFailover (s : State) (e : RingEntry) : State :=
  { s with cores := { s.cores with autoRepair := e.num 0x10 1 == 1, repairMax := e.num 0x11 1, holdoffMs := e.num 0x12 2,
                                   differAction := e.num 0x14 1 == 1, differLimit := e.num 0x15 1, ownsRevert := false } }

theorem failoverPolicy_effect (i : Fin 256) (s : State) (k : Nat) (e : RingEntry) (hnext : s.startsNext i 0x0022 k e) :
    Completes (.failoverPolicy i) s fun t =>
      (1 < e.num 0x10 1 → EntryEnds s t k e 2 none none (some 0x10) ∧ t.cores.autoRepair = s.cores.autoRepair) ∧
      (e.num 0x10 1 ≤ 1 → 1 < e.num 0x14 1 → EntryEnds s t k e 2 none none (some 0x14) ∧ t.cores.autoRepair = s.cores.autoRepair) ∧
      (e.num 0x10 1 ≤ 1 → e.num 0x14 1 ≤ 1 → EntryEnds s t k e 0 (some 0) (some 0) ∧ t.cores.autoRepair = (e.num 0x10 1 == 1) ∧
        t.cores.repairMax = e.num 0x11 1 ∧ t.cores.holdoffMs = e.num 0x12 2 ∧ t.cores.differAction = (e.num 0x14 1 == 1) ∧
        t.cores.differLimit = e.num 0x15 1) ∧
      (s.cplFull = true → SameMemory s t ∧ SameFaults s t) := by
  have ht : exec (.failoverPolicy i) s = .next (s.onStart i 0x0022 fun s _ e =>
      match badParam [(decide (1 < e.num 0x10 1), 0x10), (decide (1 < e.num 0x14 1), 0x14)] with
      | some x => s.endEntry e x
      | none => (s.setFailover e).endEntry e { status := 0, r0 := some 0, r1 := some 0 }) := rfl
  rw [State.onStart_next hnext] at ht
  have hbytes := State.startsNext_bytes hnext (by decide)
  have hserve := hnext.1
  have hstart := s.startEntry_ring k e
  have hrepair : (s.startEntry k e).cores.autoRepair = s.cores.autoRepair := rfl
  have hharb : (s.startEntry k e).harbours = s.harbours := rfl
  have hflt : SameFaults s (s.startEntry k e) := ⟨rfl, rfl⟩
  have hnum : ∀ p n, (e.begun k s.time.c).num p n = e.num p n := fun _ _ => rfl
  generalize s.startEntry k e = a at *
  simp only [hnum] at ht
  have hbad : ∀ d, exec (.failoverPolicy i) s = .next (a.endEntry (e.begun k s.time.c) { status := 2, detail := d }) →
      Completes (.failoverPolicy i) s fun t => EntryEnds s t k e 2 none none (some d) ∧ t.cores.autoRepair = s.cores.autoRepair ∧
        (s.cplFull = true → SameMemory s t ∧ SameFaults s t) := fun d ht => by
    refine ⟨_, ht, hstart.ends hserve hbytes k s.time.c { status := 2, detail := d }, ?_, fun hfull => ?_⟩
    · rw [State.endEntry_cores]
      exact hrepair
    · obtain ⟨h1, h2, -⟩ := hstart.ends_full hserve hfull (e.begun k s.time.c) { status := 2, detail := d }
      exact ⟨.of_harbours (h1.trans hharb), hflt.trans h2⟩
  by_cases h10 : 1 < e.num 0x10 1
  · have hb : badParam [(decide (1 < e.num 0x10 1), 0x10), (decide (1 < e.num 0x14 1), 0x14)] = some { status := 2, detail := 0x10 } := by
      simp [badParam, h10]
    rw [hb] at ht
    obtain ⟨t, ht, h1, h2, h3⟩ := hbad _ ht
    exact ⟨t, ht, fun _ => ⟨h1, h2⟩, fun h => absurd h10 (by omega), fun h => absurd h10 (by omega), h3⟩
  · by_cases h14 : 1 < e.num 0x14 1
    · have hb : badParam [(decide (1 < e.num 0x10 1), 0x10), (decide (1 < e.num 0x14 1), 0x14)] = some { status := 2, detail := 0x14 } := by
        simp [badParam, h10, h14]
      rw [hb] at ht
      obtain ⟨t, ht, h1, h2, h3⟩ := hbad _ ht
      exact ⟨t, ht, fun h => absurd h h10, fun _ _ => ⟨h1, h2⟩, fun _ h => absurd h14 (by omega), h3⟩
    · rw [badParam_none (by simp [h10, h14])] at ht
      have hring : SameRing s (a.setFailover (e.begun k s.time.c)) := hstart.trans (.of_same rfl rfl rfl rfl rfl rfl)
      refine ⟨_, ht, fun h => absurd h h10, fun _ h => absurd h h14, fun _ _ => ⟨?_, ?_⟩, fun hfull => ?_⟩
      · exact (hring.ends hserve hbytes k s.time.c { status := 0, r0 := some 0, r1 := some 0 }).anyDetail
      · rw [State.endEntry_cores]
        exact ⟨rfl, rfl, rfl, rfl, rfl⟩
      · obtain ⟨h1, h2, -⟩ := hring.ends_full hserve hfull (e.begun k s.time.c) { status := 0, r0 := some 0, r1 := some 0 }
        have hset : SameFaults a (a.setFailover (e.begun k s.time.c)) := ⟨rfl, rfl⟩
        exact ⟨.of_harbours (h1.trans hharb), (hflt.trans hset).trans h2⟩

/-! ## What the policies do (R545, R546) -/

theorem linkPolicyRestore_effect (n : Fin 32) (s : State) (p : LinkPolicy) (hp : p = SMap.get (fun _ => {}) s.cores.links n) :
    Completes (.linkPolicyRestore n) s fun t =>
      (p.flaps ≠ 0 → s.linkState n = 9 → s.get (wePage n) Weatas.LANE_CFG_MODE_MAX < p.top → s.terminal = false →
        t.get (wePage n) Weatas.LANE_CFG_MODE_MAX = (s.get (wePage n) Weatas.LANE_CFG_MODE_MAX + 1) % Weatas.LANE_CFG_MODE_MAX.size) ∧
      (p.flaps = 0 ∨ s.linkState n ≠ 9 ∨ p.top ≤ s.get (wePage n) Weatas.LANE_CFG_MODE_MAX ∨ s.terminal = true → t = s) ∧
      OnlyRegs s t [fieldKey (wePage n) Weatas.LANE_CFG_MODE_MAX] ∧ SameMemory s t ∧ SameFaults s t := by
  have ht : exec (.linkPolicyRestore n) s = .next (if p.flaps = 0 ∨ s.linkState n ≠ 9 ∨ p.top ≤ s.get (wePage n) Weatas.LANE_CFG_MODE_MAX ∨ s.terminal
      then s else s.put (wePage n) Weatas.LANE_CFG_MODE_MAX (s.get (wePage n) Weatas.LANE_CFG_MODE_MAX + 1)) := by
    rw [hp]
    rfl
  by_cases hkeep : p.flaps = 0 ∨ s.linkState n ≠ 9 ∨ p.top ≤ s.get (wePage n) Weatas.LANE_CFG_MODE_MAX ∨ s.terminal = true
  · rw [if_pos hkeep] at ht
    refine ⟨s, ht, fun h1 h2 h3 h4 => ?_, fun _ => rfl, .refl s _, .refl s, .refl s⟩
    rcases hkeep with h | h | h | h
    · exact absurd h h1
    · exact absurd h2 h
    · omega
    · exact absurd (h.symm.trans h4) (by decide)
  · rw [if_neg hkeep] at ht
    exact ⟨_, ht, fun _ _ _ _ => State.get_put_same .., fun h => absurd h hkeep, (OnlyRegs.refl s _).put _ _ _ (.head _), .of_harbours rfl, rfl, rfl⟩

end Sys2Proof.Machine

namespace Sys2Proof.Machine

/-- What the switching of domains and the reset of units leave of the firmware: the repairs of the last hour. -/
theorem State.repairs_of_spine {s t : State} (h : t.spine = s.spine) : t.cores.repairs = s.cores.repairs := congrArg (fun i => i.cores.repairs) h

theorem State.startRepair_repairs (s : State) (h : Fin 2) : (s.startRepair h).cores.repairs = s.cores.repairs := by
  unfold State.startRepair
  extract_lets a p b mask c
  have hb : b.cores.repairs = s.cores.repairs := rfl
  have hdrops : ∀ (u : State) (w m : Nat), (u.clearDrops w m).cores.repairs = u.cores.repairs := fun u w m => by
    unfold State.clearDrops
    extract_lets f
    have hdrop : (u.put 0x4 f (clearBits (u.get 0x4 f) m)).judgeDrop.cores.repairs = u.cores.repairs :=
      congrArg CoreSt.repairs (State.cond_cores ..)
    have hpll : (u.put 0x4 f (clearBits (u.get 0x4 f) m)).judgeDrop.judgePll.spine = (u.put 0x4 f (clearBits (u.get 0x4 f) m)).judgeDrop.spine :=
      State.spine_of_inner (State.inner_judgePll _)
    exact (State.repairs_of_spine ((State.spine_pumpPower _).trans hpll)).trans hdrop
  have hc : c.cores.repairs = b.cores.repairs := foldl_keeps (v := fun s => s.cores.repairs) (fun u w => hdrops u w _) _ b
  have hreset : ((instancesOfHalf h).foldl (fun (s : State) r => s.blockReset r) c).spine = c.spine :=
    State.spine_foldl_mem (fun r hr u => u.spine_blockReset (isUnit_of_mem_instancesOfHalf hr)) c
  exact (State.repairs_of_spine hreset).trans (hc.trans hb)

theorem autoRepair_effect (h : Fin 2) (s : State) (k : Nat) (hrunner : s.actingHalf.bind s.runner = some k) :
    Completes (.autoRepair h) s fun t =>
      (s.cores.autoRepair = false ∨ s.halfFailed h = false ∨ s.power.repair.contains h.val = true ∨ s.terminal = true → t = s) ∧
      (s.cores.autoRepair = true → s.halfFailed h = true → s.power.repair.contains h.val = false → s.terminal = false →
        ((s.cores.repairs.filter fun c => decide (s.time.c - c < 3600 * 10 ^ 9)).length < s.cores.repairMax →
          t.power.repair.contains h.val = true ∧ t.cores.repairs = s.time.c :: s.cores.repairs.filter fun c => decide (s.time.c - c < 3600 * 10 ^ 9)) ∧
        (s.cores.repairMax ≤ (s.cores.repairs.filter fun c => decide (s.time.c - c < 3600 * 10 ^ 9)).length →
          t.flag (lpPage k) Lp.LP_FW_STAT_REPAIR_LIMIT = true ∧ t.power = s.power)) ∧ SameMemory s t := by
  have hmem : ∀ {t : State}, exec (.autoRepair h) s = .next t → SameMemory s t := fun ht =>
    .of_exec ht (by rw [exec]; exact answers_autoRepair (Quiet.refl s))
  have ht : exec (.autoRepair h) s = execAutoRepair h s := rfl
  rw [execAutoRepair, hrunner] at ht
  dsimp only at ht
  generalize hrecent : (s.cores.repairs.filter fun c => decide (s.time.c - c < 3600 * 10 ^ 9)) = recent at ht ⊢
  by_cases hkeep : (!s.cores.autoRepair || !s.halfFailed h || s.power.repair.contains h.val || s.terminal) = true
  · rw [if_pos hkeep] at ht
    refine ⟨s, ht, fun _ => rfl, fun h1 h2 h3 h4 => absurd hkeep ?_, hmem ht⟩
    rw [h1, h2, h3, h4]
    decide
  · rw [if_neg hkeep] at ht
    have hkeep' : s.cores.autoRepair = false ∨ s.halfFailed h = false ∨ s.power.repair.contains h.val = true ∨ s.terminal = true →
        (!s.cores.autoRepair || !s.halfFailed h || s.power.repair.contains h.val || s.terminal) = true := by
      rintro (h | h | h | h) <;> simp only [h, Bool.not_false, Bool.true_or, Bool.or_true]
    by_cases hmax : s.cores.repairMax ≤ recent.length
    · rw [if_pos hmax] at ht
      exact ⟨_, ht, fun h => absurd (hkeep' h) hkeep, fun _ _ _ _ => ⟨fun h => absurd hmax (Nat.not_le_of_lt h),
        fun _ => ⟨State.flag_put_one .., rfl⟩⟩, hmem ht⟩
    · rw [if_neg hmax] at ht
      refine ⟨_, ht, fun h => absurd (hkeep' h) hkeep, fun _ _ _ _ => ⟨fun _ => ⟨?_, ?_⟩, fun h => absurd h hmax⟩, hmem ht⟩
      · rw [(State.startRepair_moves _ h).2.1]
        simp
      · exact State.startRepair_repairs _ h

/-! ## LOOP_CTRL (R542, R543) -/


theorem State.onlyFlt_ring {s t : State} {k : Nat} (hk : k < 4) (hw : WritesIn (· = fieldKey (lpPage k) Hdr.FLT_STAT_FAULT) s t) (hcores : t.cores = s.cores)
    (hharb : t.harbours = s.harbours) (hpower : t.power = s.power) : SameRing s t := by
  have hkey : ∀ k < 4, fieldKey (lpPage k) Hdr.FLT_STAT_FAULT ∉ ringReads ∧ fieldKey (lpPage k) Hdr.FLT_STAT_FAULT / 0x8000 < 0x800 := by decide
  refine .of_writes hw (fun key hmem h => (hkey k hk).1 (h ▸ hmem)) (.of_writes hw fun key h => h ▸ (hkey k hk).2) (congrArg _ hpower) (congrArg _ hcores)
    (congrArg _ hcores) hharb (congrArg _ hcores)

theorem State.serving_lt {s : State} {k : Nat} (h : s.serving = some k) : k < 4 := by
  have hrunner : ∀ h k, s.runner h = some k → k = 2 * h ∨ k = 2 * h + 1 := fun h k hk => by
    have := List.mem_of_find?_eq_some hk
    simpa using this
  unfold State.serving at h
  split at h
  · cases h
  · next x hact =>
    have hx : x < 2 := by
      have := List.mem_of_find?_eq_some hact
      simp only [List.mem_cons, List.not_mem_nil, or_false] at this
      omega
    dsimp only at h
    split at h
    · cases h
    · rcases hrunner _ _ h with h | h <;> omega

end Sys2Proof.Machine

namespace Sys2Proof.Machine

/-- Where the end of a loop writes: the commits of its Coves' pages, the groups' page, the loops' page, and the faults of the processors. -/
def loopEndPlace (key : Nat) : Prop :=
  key % 0x8000 = Hdr.COMMIT_PENDING.place ∨ key / 0x8000 = grpPage ∨ key / 0x8000 = loopPage ∨
    key ∈ [0, 1, 2, 3].map fun q => fieldKey (lpPage q) Hdr.FLT_STAT_FAULT

theorem SameRing.of_loopEnd {s t : State} (hw : WritesIn loopEndPlace s t) (hpower : t.power.resetting = s.power.resetting)
    (hdown : t.cores.down = s.cores.down) (hhome : t.cores.home = s.cores.home) (hharb : t.harbours = s.harbours)
    (hwait : t.cores.waiting = s.cores.waiting) : SameRing s t := by
  have hring : ∀ key ∈ ringReads, ¬ (key % 0x8000 = Hdr.COMMIT_PENDING.place ∨ key / 0x8000 = grpPage ∨ key / 0x8000 = loopPage ∨
      key ∈ [0, 1, 2, 3].map fun q => fieldKey (lpPage q) Hdr.FLT_STAT_FAULT) := by decide
  have hflt : ∀ key ∈ [0, 1, 2, 3].map fun q => fieldKey (lpPage q) Hdr.FLT_STAT_FAULT, key / 0x8000 < 0x800 := by decide
  refine .of_writes hw hring (fun h key hk => hw key fun hp => ?_) hpower hdown hhome hharb hwait
  have hpage := le_hbReads hk
  rcases hp with hp | hp | hp | hp
  · simp only [hbReads, List.map_cons, List.map_nil, List.mem_cons, List.not_mem_nil, or_false, liveKey, fieldKey, hbPage, Block.page,
      Harbour.HB_CAP_DATA_MIB, Harbour.TR_ROOT_LO_EN, Harbour.TR_ROOT_LO_BASE, Harbour.TR_ROOT_HI_BASE] at hk
    simp only [Field.place, Hdr.COMMIT_PENDING] at hp
    omega
  · have : grpPage < 0x800 := by decide
    omega
  · have : loopPage < 0x800 := by decide
    omega
  · have := hflt key hp
    omega

theorem State.judgeLoops_effect (s : State) : s.judgeLoops.cores = s.cores ∧ s.judgeLoops.harbours = s.harbours ∧ s.judgeLoops.power = s.power ∧
    WritesIn (· ∈ [0, 1, 2, 3].map fun q => fieldKey (lpPage q) Hdr.FLT_STAT_FAULT) s s.judgeLoops := by
  unfold State.judgeLoops
  extract_lets late runner
  refine ⟨foldl_keeps (fun _ _ => ?_) _ _, foldl_keeps (fun _ _ => ?_) _ _, foldl_keeps (fun _ _ => ?_) _ _,
    (WritesIn.refl _ s).foldl fun t q hq ht => ?_⟩
  · split
    · split <;> simp
    · simp
  · split
    · split <;> simp
    · simp
  · split
    · split <;> simp
    · simp
  · have hkey := List.mem_map_of_mem (f := fun q => fieldKey (lpPage q) Hdr.FLT_STAT_FAULT) hq
    exact .ite (.ite (ht.raise hkey) ht) (ht.lower hkey)

/-- The places of a loop's status. -/
theorem loopField_page {x : Nat} (hx : x < 256) : ∀ f ∈ [Lp.LOOP_STAT_EXP_ON, Lp.LOOP_STAT_WB_ON, Lp.LOOP_STAT_FIT_LOW, Lp.LOOP_STAT_LATE_RUN],
    fieldKey loopPage (f.nth x) / 0x8000 = loopPage := by
  intro f hf
  refine fieldKey_div ?_
  simp only [List.mem_cons, List.not_mem_nil, or_false] at hf
  rcases hf with rfl | rfl | rfl | rfl <;> simp only [Field.place, Field.nth, Lp.LOOP_STAT_EXP_ON, Lp.LOOP_STAT_WB_ON, Lp.LOOP_STAT_FIT_LOW,
    Lp.LOOP_STAT_LATE_RUN] <;> omega

theorem loopOn_mem (kind : Nat) : loopOn kind ∈ [Lp.LOOP_STAT_EXP_ON, Lp.LOOP_STAT_WB_ON, Lp.LOOP_STAT_FIT_LOW, Lp.LOOP_STAT_LATE_RUN] := by
  unfold loopOn
  split <;> simp

theorem loopOn_ne (kind x : Nat) : fieldKey loopPage (Lp.LOOP_STAT_FIT_LOW.nth x) ≠ fieldKey loopPage ((loopOn kind).nth x) ∧
    fieldKey loopPage (Lp.LOOP_STAT_LATE_RUN.nth x) ≠ fieldKey loopPage ((loopOn kind).nth x) := by
  unfold loopOn
  split <;> simp only [fieldKey, Field.nth, Lp.LOOP_STAT_EXP_ON, Lp.LOOP_STAT_WB_ON, Lp.LOOP_STAT_FIT_LOW, Lp.LOOP_STAT_LATE_RUN] <;> omega

theorem loopPage_facts : (∀ key ∈ [0, 1, 2, 3].map fun q => fieldKey (lpPage q) Hdr.FLT_STAT_FAULT, key / 0x8000 ≠ loopPage) ∧
    loopPage < 0x800 ∧ loopPage ≠ bcnPage ∧ cplTailKey / 0x8000 ≠ loopPage := by decide

/-- What the end of a loop does beside the list of loops. -/
structure LoopMoves (s t : State) : Prop where
  cores : t.cores = s.cores
  harbours : t.harbours = s.harbours
  power : t.power = s.power
  writes : WritesIn loopEndPlace s t

theorem LoopMoves.refl (s : State) : LoopMoves s s := ⟨rfl, rfl, rfl, .refl _ s⟩

theorem LoopMoves.trans {s t u : State} (h : LoopMoves s t) (k : LoopMoves t u) : LoopMoves s u :=
  ⟨k.cores.trans h.cores, k.harbours.trans h.harbours, k.power.trans h.power, h.writes.trans k.writes⟩

theorem LoopMoves.put (s : State) {pg : Nat} {f : Field} (v : Nat) (h : loopEndPlace (fieldKey pg f)) : LoopMoves s (s.put pg f v) :=
  ⟨rfl, rfl, rfl, (WritesIn.refl _ s).put v h⟩

theorem LoopMoves.ite {c : Prop} [Decidable c] {s t u : State} (h : LoopMoves s t) (k : LoopMoves s u) : LoopMoves s (if c then t else u) := by
  split
  · exact h
  · exact k

theorem LoopMoves.foldl {α : Type} {f : State → α → State} (h : ∀ s a, LoopMoves s (f s a)) (l : List α) (s : State) : LoopMoves s (l.foldl f s) := by
  induction l generalizing s with
  | nil => exact .refl s
  | cons a l ih => exact (h s a).trans (ih (f s a))

theorem State.judgeLoops_moves (s : State) : LoopMoves s s.judgeLoops := by
  obtain ⟨h1, h2, h3, h4⟩ := s.judgeLoops_effect
  exact ⟨h1, h2, h3, h4.mono fun _ h => .inr (.inr (.inr h))⟩

theorem State.dropArm_moves (s : State) (g : Nat) : LoopMoves s (s.dropArm g) := by
  have hkey : ∀ g < 64, fieldKey grpPage (Tidemark.GRP_STAT_PENDING.nth g) / 0x8000 = grpPage := by decide
  exact ⟨rfl, rfl, rfl, WritesIn.put (.of_regs _ rfl) _ (.inr (.inl (hkey _ (Nat.mod_lt _ (by decide)))))⟩

/-- The end of a loop: it is no longer one, its status is clear, and the ring is served as before. -/
theorem State.stopLoop_effect (s : State) (l : LoopSt) (contexts : List (Nat × Nat)) (hx : l.stream < 256) :
    (s.stopLoop l contexts).cores = { s.cores with loops := s.cores.loops.filter fun m => !(m.stream == l.stream && m.kind == l.kind) } ∧
    SameRing s (s.stopLoop l contexts) ∧ (s.stopLoop l contexts).flag loopPage ((loopOn l.kind).nth l.stream) = false := by
  have hpage := loopField_page hx
  have hon : loopEndPlace (fieldKey loopPage ((loopOn l.kind).nth l.stream)) := .inr (.inr (.inl (hpage _ (loopOn_mem _))))
  have hlow : loopEndPlace (fieldKey loopPage (Lp.LOOP_STAT_FIT_LOW.nth l.stream)) := .inr (.inr (.inl (hpage _ (by simp))))
  have hrun : loopEndPlace (fieldKey loopPage (Lp.LOOP_STAT_LATE_RUN.nth l.stream)) := .inr (.inr (.inl (hpage _ (by simp))))
  unfold State.stopLoop
  extract_lets x y a b c
  have hy : y.cores = { s.cores with loops := s.cores.loops.filter fun m => !(m.stream == l.stream && m.kind == l.kind) } ∧
      y.harbours = s.harbours ∧ y.power = s.power ∧ y.regs = s.regs := ⟨rfl, rfl, rfl, rfl⟩
  have ha : LoopMoves y a := .foldl (fun t e => .ite (.put t _ (.inl (fieldKey_mod (by decide)))) (.refl t)) contexts y
  have hb : LoopMoves a b := (LoopMoves.ite (a.dropArm_moves _) (.refl a)).trans (.put _ _ hon)
  have hoff : b.flag loopPage ((loopOn l.kind).nth l.stream) = false := State.flag_put_zero ..
  have hc : LoopMoves b c := .ite (.put _ _ hlow) (.refl b)
  have hcoff : c.flag loopPage ((loopOn l.kind).nth l.stream) = false := by
    unfold c
    split
    · exact (State.flag_put_other _ _ (loopOn_ne _ _).1).trans hoff
    · exact hoff
  clear_value c b a y
  generalize hd : (if c.cores.loops.any (fun m => m.stream == l.stream) then c else (c.put loopPage (Lp.LOOP_STAT_LATE_RUN.nth l.stream) 0).judgeLoops) = d
  have hmoves : LoopMoves c d ∧ d.flag loopPage ((loopOn l.kind).nth l.stream) = false := by
    subst hd
    split
    · exact ⟨.refl c, hcoff⟩
    · refine ⟨(LoopMoves.put _ _ hrun).trans (State.judgeLoops_moves _), ?_⟩
      have hflag := (State.judgeLoops_effect (c.put loopPage (Lp.LOOP_STAT_LATE_RUN.nth l.stream) 0)).2.2.2.flag (pg := loopPage)
        (f := (loopOn l.kind).nth l.stream) fun h => loopPage_facts.1 _ h (hpage _ (loopOn_mem _))
      exact hflag.trans ((State.flag_put_other _ _ (loopOn_ne _ _).2).trans hcoff)
  obtain ⟨h1, h2, h3, h4⟩ := ((ha.trans hb).trans hc).trans hmoves.1
  obtain ⟨y1, y2, y3, y4⟩ := hy
  refine ⟨h1.trans y1, .of_loopEnd ((WritesIn.of_regs _ y4).trans h4) ?_ ?_ ?_ (h2.trans y2) ?_, hmoves.2⟩
  · rw [h3, y3]
  · rw [h1, y1]
  · rw [h1, y1]
  · rw [h1, y1]

end Sys2Proof.Machine

namespace Sys2Proof.Machine

/-- The parameters of LOOP_CTRL that are out of range. -/
def RingEntry.loopFaults (e : RingEntry) (s : State) : List (Bool × Nat) :=
  let runs := s.cores.loops.find? fun l => l.stream == e.num 0x10 1 && l.kind == e.num 0x11 1
  [((s.streamPlan (e.num 0x10 1)).isNone && e.num 0x12 1 != 0, 0x10), (decide (1 < e.num 0x11 1), 0x11), (decide (1 < e.num 0x12 1), 0x12),
    (decide (63 < e.num 0x13 1), 0x13), (e.num 0x12 1 == 1 && (e.highAddr 0x14 || e.num 0x14 8 % 64 != 0), 0x14),
    (e.num 0x12 1 == 1 && runs.isSome, 0x11)]

/-- LOOP_CTRL stops a loop. -/
def State.loopStops (s : State) (e : RingEntry) : State :=
  match s.cores.loops.find? fun l => l.stream == e.num 0x10 1 && l.kind == e.num 0x11 1 with
  | none => s.endEntry e { status := 9 }
  | some l => (s.stopLoop l (s.loopContexts (e.num 0x10 1))).endEntry e { status := 0, r0 := some 0, r1 := some 0 }

/-- The loop that LOOP_CTRL starts with the parameters `b`. -/
def RingEntry.newLoop (e : RingEntry) (s : State) (b : List Byte) : LoopSt :=
  let val := fun (p : Nat) => s.get (jtPage (e.num 0x10 1 / 4)) (Jetty.MIR_VAL_VALUE.nth (fieldLE b p 1))
  let l : LoopSt := { stream := e.num 0x10 1, kind := e.num 0x11 1, group := e.num 0x13 1, params := b }
  if e.num 0x11 1 = 0 then { l with exp := val 0x10, gain := val 0x11 } else l

/-- A loop begins. -/
def State.loopBegins (s : State) (e : RingEntry) (b : List Byte) : State :=
  ({ s with cores := { s.cores with loops := s.cores.loops ++ [e.newLoop s b] } }).put loopPage ((loopOn (e.num 0x11 1)).nth (e.num 0x10 1)) 1

/-- LOOP_CTRL starts a loop, whose parameters have been read. -/
def State.loopStarts (s : State) (e : RingEntry) (b : List Byte) : State :=
  if !loopParamsOk (e.num 0x11 1) b then s.endEntry e { status := 2, detail := 0x14 }
  else (s.loopBegins e b).endEntry e { status := 0, r0 := some 0, r1 := some 0 }

/-- What LOOP_CTRL does, its start apart. -/
def State.loopCtrl (v : MemView) (s : State) (h : Nat) (e : RingEntry) : State :=
  match badParam (e.loopFaults s) with
  | some r => s.endEntry e r
  | none =>
    if e.num 0x12 1 = 0 then s.loopStops e
    else
      let (r, _, s) := s.coreRead h (e.num 0x14 8) 64 4 v
      match r with
      | .error f => (s.report (lpPage (s.serving.getD 0)) 4).endEntry e f
      | .ok b => (s.lower (lpPage (s.serving.getD 0)) 4).loopStarts e b

theorem loopCtrl_next {i : Fin 256} {v : MemView} {s : State} {k : Nat} {e : RingEntry} (hnext : s.startsNext i 0x0020 k e) :
    exec (.loopCtrl i v) s = .next (State.loopCtrl v (s.startEntry k e) (k / 2) (e.begun k s.time.c)) := by
  have ht : exec (.loopCtrl i v) s = .next (s.onStart i 0x0020 (State.loopCtrl v)) := by
    obtain ⟨read, hread⟩ : ∃ f, f = State.coreRead := ⟨_, rfl⟩
    rw [exec, execLoopCtrl]
    unfold State.loopCtrl State.loopStops State.loopStarts State.loopBegins RingEntry.newLoop RingEntry.loopFaults
    rw [← hread] <;> rfl
  rw [ht, State.onStart_next hnext]

end Sys2Proof.Machine

namespace Sys2Proof.Machine

section
variable {e : RingEntry} {s : State}

theorem RingEntry.loopFaults_stream (h12 : e.num 0x12 1 ≠ 0) (hplan : s.streamPlan (e.num 0x10 1) = none) :
    badParam (e.loopFaults s) = some { status := 2, detail := 0x10 } := by
  simp [badParam, RingEntry.loopFaults, h12, hplan]

theorem RingEntry.loopFaults_kind (h12 : e.num 0x12 1 = 0 ∨ (s.streamPlan (e.num 0x10 1)).isSome = true) (hkind : 1 < e.num 0x11 1) :
    badParam (e.loopFaults s) = some { status := 2, detail := 0x11 } := by
  rcases h12 with h | h
  · simp [badParam, RingEntry.loopFaults, h, hkind]
  · obtain ⟨y, hy⟩ := Option.isSome_iff_exists.mp h
    simp [badParam, RingEntry.loopFaults, hy, hkind]

theorem RingEntry.loopFaults_stop (hkind : e.num 0x11 1 ≤ 1) (hgroup : e.num 0x13 1 ≤ 63) (h12 : e.num 0x12 1 = 0) : badParam (e.loopFaults s) = none := by
  refine badParam_none ?_
  simp [RingEntry.loopFaults, h12, hkind, hgroup]

theorem RingEntry.loopFaults_start (hkind : e.num 0x11 1 ≤ 1) (hgroup : e.num 0x13 1 ≤ 63) (h12 : e.num 0x12 1 = 1)
    (hplan : (s.streamPlan (e.num 0x10 1)).isSome = true) (hplace : e.num 0x14 8 % 64 = 0) (hlow : e.num 0x14 8 < 2 ^ 52) :
    badParam (e.loopFaults s) = if (∃ l ∈ s.cores.loops, l.stream = e.num 0x10 1 ∧ l.kind = e.num 0x11 1) then some { status := 2, detail := 0x11 } else none := by
  obtain ⟨y, hy⟩ := Option.isSome_iff_exists.mp hplan
  have hhigh : e.highAddr 0x14 = false := decide_eq_false (Nat.not_le_of_lt hlow)
  split
  · next hruns =>
    simpa [badParam, RingEntry.loopFaults, h12, hy, hkind, hgroup, hplace, hhigh] using hruns
  · next hruns =>
    refine badParam_none ?_
    simpa [RingEntry.loopFaults, h12, hy, hkind, hgroup, hplace, hhigh] using hruns

end

/-- A command's start, and the end of a bad fetch, leave the loops, the plan, the memory and the mirrors' values. -/
structure LoopsAlike (s a : State) : Prop where
  ring : SameRing s a
  tide : a.tide = s.tide
  loops : a.cores.loops = s.cores.loops
  harbours : a.harbours = s.harbours
  mirrors : ∀ n < 64, ∀ m < 256, a.get (jtPage n) (Jetty.MIR_VAL_VALUE.nth m) = s.get (jtPage n) (Jetty.MIR_VAL_VALUE.nth m)

theorem mirrorKey_page {n m : Nat} (hm : m < 256) : fieldKey (jtPage n) (Jetty.MIR_VAL_VALUE.nth m) / 0x8000 = 0x200 + n :=
  fieldKey_div (by simp only [Field.place, Field.nth, Jetty.MIR_VAL_VALUE]; omega)

theorem State.startEntry_alike (s : State) (k : Nat) (e : RingEntry) : LoopsAlike s (s.startEntry k e) := by
  refine ⟨s.startEntry_ring k e, rfl, rfl, rfl, fun n hn m hm => State.get_put_other _ _ fun h => ?_⟩
  have hpage := mirrorKey_page (n := n) hm
  rw [← h] at hpage
  have hring : fieldKey ringPage Lp.CMD_LAT_MAX_NS / 0x8000 = 0x3C1 := by decide
  omega

theorem State.lower_alike (s : State) {k : Nat} (hk : k < 4) : LoopsAlike s (s.lower (lpPage k) 4) := by
  have hw : WritesIn (· = fieldKey (lpPage k) Hdr.FLT_STAT_FAULT) s (s.lower (lpPage k) 4) := (WritesIn.refl _ s).lower rfl
  refine ⟨State.onlyFlt_ring hk hw (State.lower_cores ..) (State.lower_harbours ..) (State.lower_power ..), State.lower_tide .., ?_,
    State.lower_harbours .., fun n hn m hm => hw.get fun h => ?_⟩
  · rw [State.lower_cores]
  · have hpage := mirrorKey_page (n := n) hm
    rw [h] at hpage
    have hlp : ∀ k < 4, 0x3C0 ≤ fieldKey (lpPage k) Hdr.FLT_STAT_FAULT / 0x8000 := by decide
    have := hlp k hk
    omega

theorem LoopsAlike.trans {s t u : State} (h : LoopsAlike s t) (k : LoopsAlike t u) : LoopsAlike s u :=
  ⟨h.ring.trans k.ring, k.tide.trans h.tide, k.loops.trans h.loops, k.harbours.trans h.harbours,
    fun n hn m hm => (k.mirrors n hn m hm).trans (h.mirrors n hn m hm)⟩

theorem loopPage_not_end {key : Nat} (h : key / 0x8000 = loopPage) : ¬ ringEndPlace key := by
  obtain ⟨h1, h2, h3, h4⟩ := loopPage_facts
  rintro (hk | hk | hk | hk)
  · omega
  · omega
  · exact h4 (hk ▸ h)
  · exact h1 key hk h

theorem RingEntry.num_one_lt (e : RingEntry) (p : Nat) : e.num p 1 < 256 := fieldLE_lt _ p 1

/-- A loop stops, or none does (R543). -/
theorem State.loopStops_effect {s a : State} (h : LoopsAlike s a) {k : Nat} (hserve : s.serving = some k) {e : RingEntry}
    (hbytes : ∃ c l, e.bytes = some (c :: l)) (q c : Nat) :
    ((∀ l ∈ s.cores.loops, ¬ (l.stream = e.num 0x10 1 ∧ l.kind = e.num 0x11 1)) → EntryEnds s (a.loopStops (e.begun q c)) k e 9) ∧
    ((∃ l ∈ s.cores.loops, l.stream = e.num 0x10 1 ∧ l.kind = e.num 0x11 1) →
      (a.loopStops (e.begun q c)).flag loopPage ((loopOn (e.num 0x11 1)).nth (e.num 0x10 1)) = false ∧
      (a.loopStops (e.begun q c)).cores.loops = s.cores.loops.filter (fun l => !(l.stream == e.num 0x10 1 && l.kind == e.num 0x11 1)) ∧
      EntryEnds s (a.loopStops (e.begun q c)) k e 0 (some 0) (some 0)) := by
  have hnum : ∀ p n, (e.begun q c).num p n = e.num p n := fun _ _ => rfl
  unfold State.loopStops
  simp only [hnum]
  cases hfind : a.cores.loops.find? fun l => l.stream == e.num 0x10 1 && l.kind == e.num 0x11 1 with
  | none =>
    refine ⟨fun _ => (h.ring.ends hserve hbytes q c { status := 9 }).anyDetail, fun ⟨l, hl, hmatch⟩ => ?_⟩
    rw [h.loops] at hfind
    exact absurd hmatch (by simpa using List.find?_eq_none.mp hfind l hl)
  | some l =>
    have hmem := List.mem_of_find?_eq_some hfind
    have hpred := List.find?_some hfind
    simp only [Bool.and_eq_true, beq_iff_eq] at hpred
    rw [h.loops] at hmem
    have hx : l.stream < 256 := hpred.1 ▸ e.num_one_lt 0x10
    refine ⟨fun hnone => absurd hpred (hnone l hmem), fun _ => ?_⟩
    dsimp only
    obtain ⟨h1, h2, h3⟩ := a.stopLoop_effect l (a.loopContexts (e.num 0x10 1)) hx
    rw [hpred.1, hpred.2] at h3
    rw [hpred.1, hpred.2, h.loops] at h1
    generalize a.stopLoop l (a.loopContexts (e.num 0x10 1)) = u at h1 h2 h3 ⊢
    refine ⟨?_, ?_, ((h.ring.trans h2).ends hserve hbytes q c { status := 0, r0 := some 0, r1 := some 0 }).anyDetail⟩
    · have hkeep := (u.endEntry_atRing (e.begun q c) { status := 0, r0 := some 0, r1 := some 0 }).writes.flag (pg := loopPage)
        (f := (loopOn (e.num 0x11 1)).nth (e.num 0x10 1)) (loopPage_not_end (loopField_page (e.num_one_lt 0x10) _ (loopOn_mem _)))
      exact hkeep.trans h3
    · rw [State.endEntry_cores, h1]

/-- A loop begins, or its parameters are bad (R543). -/
theorem State.loopStarts_effect {s a : State} (h : LoopsAlike s a) {k : Nat} (hserve : s.serving = some k) {e : RingEntry}
    (hbytes : ∃ c l, e.bytes = some (c :: l)) (q c : Nat) (b : List Byte) :
    (loopParamsOk (e.num 0x11 1) b = false → EntryEnds s (a.loopStarts (e.begun q c) b) k e 2 none none (some 0x14) ∧
      (a.loopStarts (e.begun q c) b).cores.loops = s.cores.loops) ∧
    (loopParamsOk (e.num 0x11 1) b = true → EntryEnds s (a.loopStarts (e.begun q c) b) k e 0 (some 0) (some 0) ∧
      (a.loopStarts (e.begun q c) b).flag loopPage ((loopOn (e.num 0x11 1)).nth (e.num 0x10 1)) = true ∧
      (a.loopStarts (e.begun q c) b).cores.loops = s.cores.loops ++ [e.newLoop s b]) := by
  have hnum : ∀ p n, (e.begun q c).num p n = e.num p n := fun _ _ => rfl
  have hkey := loopField_page (e.num_one_lt 0x10) _ (loopOn_mem (e.num 0x11 1))
  have hloop : (e.begun q c).newLoop a b = e.newLoop s b := by
    have hx : e.num 0x10 1 / 4 < 64 := by have := e.num_one_lt 0x10; omega
    have hval : ∀ p, a.get (jtPage (e.num 0x10 1 / 4)) (Jetty.MIR_VAL_VALUE.nth (fieldLE b p 1)) =
        s.get (jtPage (e.num 0x10 1 / 4)) (Jetty.MIR_VAL_VALUE.nth (fieldLE b p 1)) := fun p => h.mirrors _ hx _ (fieldLE_lt b p 1)
    simp only [RingEntry.newLoop, hnum, hval]
  refine ⟨fun hbad => ?_, fun hgood => ?_⟩
  · have heq : a.loopStarts (e.begun q c) b = a.endEntry (e.begun q c) { status := 2, detail := 0x14 } := by
      rw [State.loopStarts, hnum, hbad]
      rfl
    rw [heq]
    refine ⟨h.ring.ends hserve hbytes q c { status := 2, detail := 0x14 }, ?_⟩
    rw [State.endEntry_cores]
    exact h.loops
  · have heq : a.loopStarts (e.begun q c) b = (a.loopBegins (e.begun q c) b).endEntry (e.begun q c) { status := 0, r0 := some 0, r1 := some 0 } := by
      rw [State.loopStarts, hnum, hgood]
      rfl
    have hbegins : (a.loopBegins (e.begun q c) b).cores.loops = s.cores.loops ++ [e.newLoop s b] := by
      rw [← hloop, ← h.loops]
      rfl
    have hflag : (a.loopBegins (e.begun q c) b).flag loopPage ((loopOn (e.num 0x11 1)).nth (e.num 0x10 1)) = true := State.flag_put_one ..
    have hring : SameRing a (a.loopBegins (e.begun q c) b) :=
      .of_loopEnd (WritesIn.put (.of_regs _ rfl) _ (.inr (.inr (.inl hkey)))) rfl rfl rfl rfl rfl
    rw [heq]
    generalize a.loopBegins (e.begun q c) b = u at hbegins hflag hring ⊢
    refine ⟨((h.ring.trans hring).ends hserve hbytes q c { status := 0, r0 := some 0, r1 := some 0 }).anyDetail, ?_, ?_⟩
    · exact ((u.endEntry_atRing _ _).writes.flag (loopPage_not_end hkey)).trans hflag
    · rw [State.endEntry_cores]
      exact hbegins

end Sys2Proof.Machine

namespace Sys2Proof.Machine

section
variable {s a : State} {k : Nat} {e : RingEntry} {v : MemView} (q c : Nat)

theorem State.loopCtrl_bad {r : StepEnd} (h : badParam ((e.begun q c).loopFaults a) = some r) :
    State.loopCtrl v a (k / 2) (e.begun q c) = a.endEntry (e.begun q c) r := by
  rw [State.loopCtrl, h]

theorem State.loopCtrl_stop (h : badParam ((e.begun q c).loopFaults a) = none) (h12 : e.num 0x12 1 = 0) :
    State.loopCtrl v a (k / 2) (e.begun q c) = a.loopStops (e.begun q c) := by
  have h12' : (e.begun q c).num 0x12 1 = 0 := h12
  rw [State.loopCtrl, h]
  dsimp only
  rw [if_pos h12']

theorem State.loopCtrl_start {b : List Byte} {w : MemView} {u : State} (h : badParam ((e.begun q c).loopFaults a) = none) (h12 : e.num 0x12 1 ≠ 0)
    (hread : a.coreRead (k / 2) (e.num 0x14 8) 64 4 v = (.ok b, w, u)) :
    State.loopCtrl v a (k / 2) (e.begun q c) = (u.lower (lpPage (u.serving.getD 0)) 4).loopStarts (e.begun q c) b := by
  have h12' : (e.begun q c).num 0x12 1 ≠ 0 := h12
  have hnum : (e.begun q c).num 0x14 8 = e.num 0x14 8 := rfl
  obtain ⟨read, hr⟩ : ∃ f, f = State.coreRead := ⟨_, rfl⟩
  rw [← hr] at hread
  rw [State.loopCtrl, h]
  dsimp only
  rw [if_neg h12', ← hr, hnum, hread]

end

theorem loopCtrl_effect (i : Fin 256) (v : MemView) (s : State) (k : Nat) (e : RingEntry) (x kind : Nat) (b : List Byte)
    (hnext : s.startsNext i 0x0020 k e) (hx : x = e.num 0x10 1) (hk : kind = e.num 0x11 1) (hb : b = s.memRead (k / 2) (e.num 0x14 8) 64) :
    Completes (.loopCtrl i v) s fun t =>
      (e.num 0x12 1 ≠ 0 → s.streamPlan x = none → EntryEnds s t k e 2 none none (some 0x10)) ∧
      (e.num 0x12 1 = 0 ∨ (s.streamPlan x).isSome = true → 1 < kind → EntryEnds s t k e 2 none none (some 0x11)) ∧
      (kind ≤ 1 → e.num 0x13 1 ≤ 63 → e.num 0x12 1 = 0 →
        ((∀ l ∈ s.cores.loops, ¬ (l.stream = x ∧ l.kind = kind)) → EntryEnds s t k e 9) ∧
        ((∃ l ∈ s.cores.loops, l.stream = x ∧ l.kind = kind) → t.flag loopPage ((loopOn kind).nth x) = false ∧
          t.cores.loops = s.cores.loops.filter (fun l => !(l.stream == x && l.kind == kind)) ∧ EntryEnds s t k e 0 (some 0) (some 0))) ∧
      (kind ≤ 1 → e.num 0x13 1 ≤ 63 → e.num 0x12 1 = 1 → (s.streamPlan x).isSome = true → e.num 0x14 8 % 64 = 0 →
        ((∃ l ∈ s.cores.loops, l.stream = x ∧ l.kind = kind) → e.num 0x14 8 < 2 ^ 52 → EntryEnds s t k e 2 none none (some 0x11)) ∧
        ((∀ l ∈ s.cores.loops, ¬ (l.stream = x ∧ l.kind = kind)) → e.num 0x14 8 + 64 ≤ s.memCapacity (k / 2) →
          s.memCapacity (k / 2) ≤ 2 ^ 52 → s.flatMemory (k / 2) → v.errs = [] →
          (loopParamsOk kind b = false → EntryEnds s t k e 2 none none (some 0x14) ∧ t.cores.loops = s.cores.loops) ∧
          (loopParamsOk kind b = true → EntryEnds s t k e 0 (some 0) (some 0) ∧ t.flag loopPage ((loopOn kind).nth x) = true ∧
            ∀ l : LoopSt, l = { stream := x, kind := kind, group := e.num 0x13 1, params := b } → t.cores.loops = s.cores.loops ++
              [if kind = 0 then { l with exp := s.get (jtPage (x / 4)) (Jetty.MIR_VAL_VALUE.nth (fieldLE b 0x10 1)),
                                         gain := s.get (jtPage (x / 4)) (Jetty.MIR_VAL_VALUE.nth (fieldLE b 0x11 1)) } else l]))) := by
  subst hx hk
  have hserve := hnext.1
  have hbytes := State.startsNext_bytes hnext (by decide)
  have halike := s.startEntry_alike k e
  have ht := loopCtrl_next (v := v) hnext
  have hfaults : (e.begun k s.time.c).loopFaults (s.startEntry k e) = e.loopFaults s := rfl
  generalize s.startEntry k e = a at *
  generalize s.time.c = c at *
  have hbad : ∀ {d : Nat}, badParam (e.loopFaults s) = some { status := 2, detail := d } →
      EntryEnds s (State.loopCtrl v a (k / 2) (e.begun k c)) k e 2 none none (some d) := fun {d} h => by
    rw [State.loopCtrl_bad k c (hfaults ▸ h)]
    exact halike.ring.ends hserve hbytes k c { status := 2, detail := d }
  refine ⟨_, ht, fun h12 hplan => hbad (RingEntry.loopFaults_stream h12 hplan), fun h12 hkind => hbad (RingEntry.loopFaults_kind h12 hkind),
    fun hkind hgroup h12 => ?_, fun hkind hgroup h12 hplan hplace => ⟨fun hruns hlow => ?_, fun hruns hcap hmax hflat herrs => ?_⟩⟩
  · rw [State.loopCtrl_stop k c (hfaults ▸ RingEntry.loopFaults_stop hkind hgroup h12) h12]
    exact State.loopStops_effect halike hserve hbytes k c
  · exact hbad ((RingEntry.loopFaults_start hkind hgroup h12 hplan hplace hlow).trans (if_pos hruns))
  · have hnone : ¬ ∃ l ∈ s.cores.loops, l.stream = e.num 0x10 1 ∧ l.kind = e.num 0x11 1 := fun ⟨l, hl, h⟩ => hruns l hl h
    have hgood := (RingEntry.loopFaults_start hkind hgroup h12 hplan hplace (by omega)).trans (if_neg hnone)
    have hcap' := State.memCapacity_congr halike.ring.reads (k / 2)
    have hflat' : a.flatMemory (k / 2) := (State.hbLiveFlag_congr halike.ring.reads (k / 2)).trans hflat
    have hread := State.coreRead_flat (v := v) (n := 64) hflat' (ba := e.num 0x14 8) (by rw [hcap']; omega) (by rw [hcap']; exact hmax) herrs (by decide)
      (by omega)
    rw [State.memRead_congr halike.harbours, ← hb] at hread
    rw [State.loopCtrl_start k c (hfaults ▸ hgood) (by rw [h12]; decide) hread, halike.ring.serving, hserve]
    obtain ⟨h1, h2⟩ := State.loopStarts_effect (halike.trans (a.lower_alike (State.serving_lt hserve))) hserve hbytes k c b
    refine ⟨h1, fun hok => ?_⟩
    obtain ⟨e1, e2, e3⟩ := h2 hok
    refine ⟨e1, e2, fun l hl => ?_⟩
    rw [hl]
    exact e3

end Sys2Proof.Machine

namespace Sys2Proof.Machine

/-! ## A loop takes a block of statistics (R542, R543) -/

/-- Where a loop's step writes, its camera's mirror apart: the loops' and the groups' pages, and the Coves'. -/
def steerPlace (key : Nat) : Prop := key / 0x8000 = loopPage ∨ key / 0x8000 = grpPage ∨ 0x400 ≤ key / 0x8000

/-- What a loop's step leaves as it is. -/
structure Steers (s t : State) : Prop where
  cores : t.cores = s.cores
  tide : t.tide = s.tide
  writes : WritesIn steerPlace s t

theorem Steers.refl (s : State) : Steers s s := ⟨rfl, rfl, .refl _ s⟩

theorem Steers.trans {s t u : State} (h : Steers s t) (k : Steers t u) : Steers s u :=
  ⟨k.cores.trans h.cores, k.tide.trans h.tide, h.writes.trans k.writes⟩

theorem Steers.of_same {s t : State} (hcores : t.cores = s.cores) (htide : t.tide = s.tide) (hregs : t.regs = s.regs) : Steers s t :=
  ⟨hcores, htide, .of_regs _ hregs⟩

theorem Steers.put (s : State) {pg : Nat} {f : Field} (v : Nat) (h : steerPlace (fieldKey pg f)) : Steers s (s.put pg f v) :=
  ⟨rfl, rfl, (WritesIn.refl _ s).put v h⟩

theorem Steers.ite {c : Prop} [Decidable c] {s t u : State} (h : Steers s t) (k : Steers s u) : Steers s (if c then t else u) := by
  split
  · exact h
  · exact k

theorem Steers.foldl {α : Type} {f : State → α → State} (h : ∀ s a, Steers s (f s a)) (l : List α) (s : State) : Steers s (l.foldl f s) := by
  induction l generalizing s with
  | nil => exact .refl s
  | cons a l ih => exact (h s a).trans (ih (f s a))

theorem steerPlace_cove (n p : Nat) (f : Field) : steerPlace (fieldKey (covePage n p) f) := by
  have := le_fieldKey_div (covePage n p) f
  refine .inr (.inr ?_)
  simp only [covePage, Block.page] at *
  omega

theorem steerPlace_group {f : Field} (hf : f ∈ [Tidemark.GRP_STAT_PENDING, Tidemark.GRP_STAT_NOFAMILY, Tidemark.GRP_STAT_LATE]) (g : Nat) :
    steerPlace (fieldKey grpPage (f.nth (g % 64))) := by
  have hkey : ∀ f ∈ [Tidemark.GRP_STAT_PENDING, Tidemark.GRP_STAT_NOFAMILY, Tidemark.GRP_STAT_LATE], ∀ g < 64,
      fieldKey grpPage (f.nth g) / 0x8000 = grpPage := by decide
  exact .inr (.inl (hkey f hf _ (Nat.mod_lt _ (by decide))))

theorem State.fresh_steers (s : State) : Steers s s.fresh.2 := .of_same rfl rfl rfl

theorem State.putFit_steers (s : State) (n p : Nat) (f : Field) (v : Int) : Steers s (s.putFit (covePage n p) f v) := by
  unfold State.putFit
  refine .ite (.put s _ (steerPlace_cove ..)) ?_
  exact s.fresh_steers.trans (.put _ _ (steerPlace_cove ..))

theorem State.writeCommit_steers (s : State) (kind n w : Nat) : Steers s (s.writeCommit (loopCovePage kind n) w) := by
  have hkey : ∀ f, steerPlace (fieldKey (loopCovePage kind n) f) := fun f => by
    unfold loopCovePage
    exact steerPlace_cove ..
  unfold State.writeCommit
  extract_lets busy a b
  have hb : Steers s b := (Steers.ite (.refl s) (.put s _ (hkey _))).trans (.ite (.put a _ (hkey _)) (.refl a))
  split
  · exact hb.trans (.put _ _ (hkey _))
  · exact hb.trans (.put _ _ (hkey _))
  · exact hb

theorem State.judgeArm_steers (s : State) (g : Nat) : Steers s (s.judgeArm g) := .put s _ (steerPlace_group (by simp) g)

theorem State.armGroup_steers (s : State) (g : Nat) : Steers s (s.armGroup g) := by
  unfold State.armGroup
  extract_lets src armed x
  have harmed : Steers s armed := .of_same rfl rfl rfl
  have harm : Steers s (armed.judgeArm g) := harmed.trans (armed.judgeArm_steers g)
  exact .ite harm (.ite (.put s _ (steerPlace_group (by simp) g)) (.ite (.put s _ (steerPlace_group (by simp) g)) harm))

theorem State.armGroup_armed {s : State} (h : s.planLive = false) (g : Nat) : (s.armGroup g).commit.swArm.contains g = true := by
  unfold State.armGroup
  extract_lets src armed x
  rw [h, Bool.not_false, if_pos rfl]
  exact List.contains_iff_mem.mpr (List.mem_cons_self ..)

theorem State.armLoop_steers (s : State) (l : LoopSt) (contexts : List (Nat × Nat)) : Steers s (s.armLoop l contexts) :=
  (Steers.foldl (fun t e => t.writeCommit_steers ..) contexts s).trans (State.armGroup_steers ..)

theorem State.armLoop_armed {s : State} (h : s.planLive = false) (l : LoopSt) (contexts : List (Nat × Nat)) :
    (s.armLoop l contexts).commit.swArm.contains l.group = true := by
  have hfold := Steers.foldl (fun t (e : Nat × Nat) => t.writeCommit_steers l.kind e.1 (2 ^ 31 + l.group)) contexts s
  exact State.armGroup_armed (by rw [State.planLive, hfold.tide]; exact h) l.group

theorem State.runWhite_steers (s : State) (l : LoopSt) (means : List Nat) (tap : Bool) (contexts : List (Nat × Nat)) :
    Steers s (s.runWhite l means tap contexts) := by
  unfold State.runWhite
  split
  · exact .refl s
  · extract_lets red blue g2 gain
    have hgain : ∀ (t : State) k, Steers t (gain t k).2 := fun t k => by
      unfold gain
      extract_lets old
      split
      · exact .refl t
      · split
        · exact t.fresh_steers
        · exact .refl t
    exact .foldl (fun t k => (hgain t k).trans (.foldl (fun u e => .put u _ (steerPlace_cove ..)) _ _)) _ s

theorem State.loopLate_steers (s : State) {x : Nat} (hx : x < 256) : Steers s (s.loopLate x) :=
  .put s _ (.inl (loopField_page hx _ (by simp)))

end Sys2Proof.Machine

namespace Sys2Proof.Machine

/-- A loop's marks after its step of exposure. -/
def LoopSt.stepped (m : LoopSt) (exp gain : Nat) : LoopSt := { m with exp := exp, gain := gain }

theorem State.modLoop_loops (s : State) (x kind : Nat) (g : LoopSt → LoopSt) :
    (s.modLoop x kind g).cores.loops = s.cores.loops.map fun m => if m.stream = x ∧ m.kind = kind then g m else m := rfl

/-- The camera's mirror takes a value, where its entry is written to the camera. -/
theorem State.putMirror_effect (s : State) (n m v : Nat) :
    (s.putMirror n m v).cores = s.cores ∧ (s.putMirror n m v).tide = s.tide ∧
    WritesIn (fun key => key = fieldKey (jtPage n) (Jetty.MIR_VAL_VALUE.nth m) ∨ key = fieldKey (jtPage n) (Jetty.MIR_CFG_DIRTY.nth m)) s (s.putMirror n m v) ∧
    (s.flag (jtPage n) (Jetty.MIR_CFG_DIR.nth m) = true → (s.putMirror n m v).get (jtPage n) (Jetty.MIR_VAL_VALUE.nth m) = v % 2 ^ 32 ∧
      (s.putMirror n m v).flag (jtPage n) (Jetty.MIR_CFG_DIRTY.nth m) = true) := by
  unfold State.putMirror
  extract_lets pg
  split
  · refine ⟨rfl, rfl, ((WritesIn.refl _ s).put _ (.inl rfl)).put _ (.inr rfl), fun _ => ⟨?_, State.flag_put_one ..⟩⟩
    refine (State.get_put_other _ _ ?_).trans (State.get_put_same ..)
    simp only [fieldKey, Field.nth, Jetty.MIR_VAL_VALUE, Jetty.MIR_CFG_DIRTY]
    omega
  · next h => exact ⟨rfl, rfl, .refl _ s, fun hdir => absurd hdir h⟩

theorem State.fitCodes_steers (s : State) (n : Nat) : Steers s (s.fitCodes n).2 := by
  unfold State.fitCodes
  split
  · exact .refl s
  · extract_lets unit bias
    split
    · exact s.fresh_steers
    · exact .refl s

theorem mirrorKeys_not_steer {n m : Nat} (hn : n < 64) (hm : m < 64) : ¬ steerPlace (fieldKey (jtPage n) (Jetty.MIR_VAL_VALUE.nth m)) ∧
    ¬ steerPlace (fieldKey (jtPage n) (Jetty.MIR_CFG_DIRTY.nth m)) ∧ ¬ steerPlace (fieldKey (jtPage n) (Jetty.MIR_CFG_DIR.nth m)) := by
  have hpage : ∀ f ∈ [Jetty.MIR_VAL_VALUE, Jetty.MIR_CFG_DIRTY, Jetty.MIR_CFG_DIR], fieldKey (jtPage n) (f.nth m) / 0x8000 = 0x200 + n := fun f hf => by
    refine fieldKey_div ?_
    simp only [List.mem_cons, List.not_mem_nil, or_false] at hf
    rcases hf with rfl | rfl | rfl <;> simp only [Field.place, Field.nth, Jetty.MIR_VAL_VALUE, Jetty.MIR_CFG_DIRTY, Jetty.MIR_CFG_DIR] <;> omega
  have hnot : ∀ key, key / 0x8000 = 0x200 + n → ¬ steerPlace key := fun key hkey h => by
    have hloop : loopPage = 0x3C2 := rfl
    have hgrp : grpPage = 0x12 := rfl
    unfold steerPlace at h
    omega
  exact ⟨hnot _ (hpage _ (by simp)), hnot _ (hpage _ (by simp)), hnot _ (hpage _ (by simp))⟩

/-- What an exposure step writes: the mirror's entries, and the black level of the stream's contexts. -/
def State.exposed (s : State) (l : LoopSt) (r : ExposureStep) (g : Nat) (contexts : List (Nat × Nat)) : State :=
  contexts.foldl (fun (s : State) (e : Nat × Nat) => s.putFit (covePage e.1 2) (Cove.BL_TARGET_TARGET.nth e.2)
      ((l.num 0x14 2 : Int) + roundHalfUp (((g : Int) - 256) * l.num 0x16 2) 256))
    (((s.putMirror (l.stream / 4) (l.num 0x10 1) r.exp).putMirror (l.stream / 4) (l.num 0x11 1) g).put loopPage (Lp.LOOP_STAT_FIT_LOW.nth l.stream) (bit r.low))

theorem State.runExposure_eq (s : State) (l : LoopSt) (m : Nat) (contexts : List (Nat × Nat)) {r : ExposureStep}
    (hr : r = l.exposureStep m (s.fitCodes (l.stream / 4)).1) : ∃ g u, Steers s u ∧ (∀ v, r.gain = some v → g = v) ∧
      s.runExposure l m contexts = (u.exposed l r g contexts).modLoop l.stream 0 fun n => n.stepped r.exp g := by
  have hknown : ∀ (t : State) (o : Option Nat), Steers t (t.known o).2 ∧ ∀ v, o = some v → (t.known o).1 = v := fun t o => by
    cases o with
    | none => exact ⟨t.fresh_steers, nofun⟩
    | some v => exact ⟨.refl t, fun w hw => Option.some_inj.mp hw⟩
  obtain ⟨h1, h2⟩ := hknown (s.fitCodes (l.stream / 4)).2 r.gain
  refine ⟨((s.fitCodes (l.stream / 4)).2.known r.gain).1, ((s.fitCodes (l.stream / 4)).2.known r.gain).2, (s.fitCodes_steers _).trans h1, h2, ?_⟩
  subst hr
  rfl

theorem State.exposed_effect (s : State) (l : LoopSt) (r : ExposureStep) (g : Nat) (contexts : List (Nat × Nat)) (hx : l.stream < 256) :
    (s.exposed l r g contexts).cores = s.cores ∧ (s.exposed l r g contexts).tide = s.tide ∧
    (l.num 0x10 1 ≠ l.num 0x11 1 → s.flag (jtPage (l.stream / 4)) (Jetty.MIR_CFG_DIR.nth (l.num 0x10 1)) = true → l.num 0x10 1 < 64 →
      (s.exposed l r g contexts).get (jtPage (l.stream / 4)) (Jetty.MIR_VAL_VALUE.nth (l.num 0x10 1)) = r.exp % 2 ^ 32 ∧
      (s.exposed l r g contexts).flag (jtPage (l.stream / 4)) (Jetty.MIR_CFG_DIRTY.nth (l.num 0x10 1)) = true) := by
  obtain ⟨a1, a2, -, a4⟩ := s.putMirror_effect (l.stream / 4) (l.num 0x10 1) r.exp
  unfold State.exposed
  generalize s.putMirror (l.stream / 4) (l.num 0x10 1) r.exp = a at a1 a2 a4 ⊢
  obtain ⟨b1, b2, b3, -⟩ := a.putMirror_effect (l.stream / 4) (l.num 0x11 1) g
  generalize a.putMirror (l.stream / 4) (l.num 0x11 1) g = b at b1 b2 b3 ⊢
  have hc : Steers b (b.put loopPage (Lp.LOOP_STAT_FIT_LOW.nth l.stream) (bit r.low)) := .put b _ (.inl (loopField_page hx _ (by simp)))
  generalize b.put loopPage (Lp.LOOP_STAT_FIT_LOW.nth l.stream) (bit r.low) = c at hc ⊢
  have hd := hc.trans (.foldl (fun t (e : Nat × Nat) => t.putFit_steers e.1 2 (Cove.BL_TARGET_TARGET.nth e.2)
    ((l.num 0x14 2 : Int) + roundHalfUp (((g : Int) - 256) * l.num 0x16 2) 256)) contexts c)
  refine ⟨hd.cores.trans (b1.trans a1), hd.tide.trans (b2.trans a2), fun hne hdir hm => ?_⟩
  obtain ⟨hvalue, hdirty⟩ := a4 hdir
  obtain ⟨k1, k2, -⟩ := mirrorKeys_not_steer (n := l.stream / 4) (by omega) hm
  have hkeys : fieldKey (jtPage (l.stream / 4)) (Jetty.MIR_VAL_VALUE.nth (l.num 0x10 1)) ≠ fieldKey (jtPage (l.stream / 4)) (Jetty.MIR_VAL_VALUE.nth (l.num 0x11 1)) ∧
      fieldKey (jtPage (l.stream / 4)) (Jetty.MIR_VAL_VALUE.nth (l.num 0x10 1)) ≠ fieldKey (jtPage (l.stream / 4)) (Jetty.MIR_CFG_DIRTY.nth (l.num 0x11 1)) ∧
      fieldKey (jtPage (l.stream / 4)) (Jetty.MIR_CFG_DIRTY.nth (l.num 0x10 1)) ≠ fieldKey (jtPage (l.stream / 4)) (Jetty.MIR_VAL_VALUE.nth (l.num 0x11 1)) ∧
      fieldKey (jtPage (l.stream / 4)) (Jetty.MIR_CFG_DIRTY.nth (l.num 0x10 1)) ≠ fieldKey (jtPage (l.stream / 4)) (Jetty.MIR_CFG_DIRTY.nth (l.num 0x11 1)) := by
    simp only [fieldKey, Field.nth, Jetty.MIR_VAL_VALUE, Jetty.MIR_CFG_DIRTY]
    omega
  obtain ⟨n1, n2, n3, n4⟩ := hkeys
  exact ⟨(hd.writes.get k1).trans ((b3.get (not_or.mpr ⟨n1, n2⟩)).trans hvalue), (hd.writes.flag k2).trans ((b3.flag (not_or.mpr ⟨n3, n4⟩)).trans hdirty)⟩

/-- What a loop makes of a good block of statistics, its step apart: its contexts' commits and its group are armed, and it waits for the next block. -/
def State.loopTaken (s : State) (l : LoopSt) (x kind tide : Nat) (late : Bool) (contexts : List (Nat × Nat)) : State :=
  (s.armLoop l contexts).modLoop x kind fun l => { l with blk := none, armed := some (tide, late) }

theorem State.loopTaken_effect (s : State) (l : LoopSt) (x kind tide : Nat) (late : Bool) (contexts : List (Nat × Nat)) :
    (s.loopTaken l x kind tide late contexts).cores.loops = s.cores.loops.map (fun m => if m.stream = x ∧ m.kind = kind then
      { m with blk := none, armed := some (tide, late) } else m) ∧
    WritesIn steerPlace s (s.loopTaken l x kind tide late contexts) ∧
    (s.planLive = false → (s.loopTaken l x kind tide late contexts).commit.swArm.contains l.group = true) := by
  have harm := s.armLoop_steers l contexts
  refine ⟨?_, harm.writes.regs rfl, fun h => ?_⟩
  · show ((s.armLoop l contexts).cores.loops.map _) = _
    rw [harm.cores]
  · exact State.armLoop_armed h l contexts

/-- A loop's judgement of a block of statistics, whose head and region have been read (R542, R543). -/
def State.loopJudged (s : State) (x kind n c seq tide : Nat) (late : Bool) (l : LoopSt) (head region : List Byte) : State :=
  let flags := fieldLE head 1 1
  let means := [0, 1, 2, 3].map fun k => fieldLE region (2 * k) 2
  let m := loopMean means
  if !flags.testBit 2 || flags.testBit 3 || fieldLE head 4 4 != seq || (kind == 0 && m == 0) then s.skipFrame l late
  else
    (if kind = 0 then s.runExposure l m (s.loopContexts x)
      else s.runWhite l means (s.liveFlag (covePage n 8) (Cove.STAT_CFG_TAP.nth c)) (s.loopContexts x)).loopTaken l x kind tide late (s.loopContexts x)

theorem State.skipFrame_loops (s : State) (l : LoopSt) (late : Bool) :
    (s.skipFrame l late).cores.loops = s.cores.loops.map fun m => if m.stream = l.stream ∧ m.kind = l.kind then { m with blk := none } else m := by
  unfold State.skipFrame
  extract_lets a
  have hlate : (if late then a else a.loopLate l.stream).cores = a.cores := by split <;> rfl
  rw [(State.judgeLoops_effect _).1, hlate]
  rfl

end Sys2Proof.Machine

namespace Sys2Proof.Machine

theorem loopUpdate_of_reads {x : Fin 160} {kind : Fin 2} {v : MemView} {s : State} {l : LoopSt} {seq n tide base c : Nat} {late : Bool}
    {head region : List Byte} (hrunner : s.loopRunner.isSome = true)
    (hfind : s.cores.loops.find? (fun l => l.stream == x.val && l.kind == kind.val) = some l) (hblk : l.blk = some (seq, n, tide, late))
    (hresume : s.cores.resume = false) (hterm : s.terminal = false) (hc : c = ((s.tide.livePlan.bind fun p => p.contextOf n x).getD 0))
    (hbase : base = s.live (covePage n 8) (Cove.STAT_BASE_HI_BASE.nth c) * 2 ^ 32 + s.live (covePage n 8) (Cove.STAT_BASE_LO_BASE.nth c) * 64 +
      16576 * (seq % max 1 (s.live (covePage n 8) (Cove.STAT_CFG_SLOTS.nth c))))
    (hhead : s.coreRead (n / 8) base 12 4 v = (.ok head, v, s)) (hregion : s.coreRead (n / 8) (base + 16448 + 32 * l.roi) 8 4 v = (.ok region, v, s)) :
    exec (.loopUpdate x kind v) s = .next (s.loopJudged x kind n c seq tide late l head region) := by
  obtain ⟨read, hr⟩ : ∃ f, f = State.coreRead := ⟨_, rfl⟩
  obtain ⟨k, hk⟩ := Option.isSome_iff_exists.mp hrunner
  rw [← hr] at hhead hregion
  rw [exec]
  unfold execLoopUpdate
  rw [← hr, hk, hfind]
  dsimp only
  rw [hblk, hresume, hterm]
  simp only [Bool.or_self]
  rw [← hc, ← hbase, hhead]
  dsimp only
  rw [hregion]
  rfl

/-- Mapping the loops twice, each time those of one stream and kind. -/
theorem map_loops_twice (loops : List LoopSt) (x kind : Nat) {f g : LoopSt → LoopSt} (hf : ∀ m, (f m).stream = m.stream ∧ (f m).kind = m.kind) :
    (loops.map fun m => if m.stream = x ∧ m.kind = kind then f m else m).map (fun m => if m.stream = x ∧ m.kind = kind then g m else m) =
      loops.map fun m => if m.stream = x ∧ m.kind = kind then g (f m) else m := by
  rw [List.map_map]
  refine List.map_congr_left fun m _ => ?_
  by_cases h : m.stream = x ∧ m.kind = kind
  · have hfm : (f m).stream = x ∧ (f m).kind = kind := ⟨(hf m).1.trans h.1, (hf m).2.trans h.2⟩
    simp only [Function.comp, if_pos h, if_pos hfm]
  · simp only [Function.comp, if_neg h]

theorem loopUpdate_effect (x : Fin 160) (kind : Fin 2) (v : MemView) (s : State) (l : LoopSt) (seq n tide base c mean : Nat) (late good : Bool)
    (head region : List Byte) (r : ExposureStep) (hrunner : s.loopRunner.isSome = true)
    (hfind : s.cores.loops.find? (fun l => l.stream == x.val && l.kind == kind.val) = some l) (hblk : l.blk = some (seq, n, tide, late))
    (hresume : s.cores.resume = false) (hterm : s.terminal = false) (hc : c = ((s.tide.livePlan.bind fun p => p.contextOf n x).getD 0))
    (hbase : base = s.live (covePage n 8) (Cove.STAT_BASE_HI_BASE.nth c) * 2 ^ 32 + s.live (covePage n 8) (Cove.STAT_BASE_LO_BASE.nth c) * 64 +
      16576 * (seq % max 1 (s.live (covePage n 8) (Cove.STAT_CFG_SLOTS.nth c))))
    (hflat : s.flatMemory (n / 8)) (hcap : base + 16448 + 32 * l.roi + 8 ≤ s.memCapacity (n / 8)) (hmax : s.memCapacity (n / 8) ≤ 2 ^ 52)
    (herrs : v.errs = []) (hhead : head = s.memRead (n / 8) base 12) (hregion : region = s.memRead (n / 8) (base + 16448 + 32 * l.roi) 8)
    (hmean : mean = loopMean ([0, 1, 2, 3].map fun k => fieldLE region (2 * k) 2))
    (hgood : good = ((fieldLE head 1 1).testBit 2 && !(fieldLE head 1 1).testBit 3 && fieldLE head 4 4 == seq && (kind.val != 0 || mean != 0)))
    (hr : r = l.exposureStep mean (s.fitCodes (x / 4)).1) :
    Completes (.loopUpdate x kind v) s fun t =>
      (good = false → t.cores.loops = s.cores.loops.map fun m => if m.stream = x.val ∧ m.kind = kind.val then { m with blk := none } else m) ∧
      (good = true → kind.val = 0 → ∀ g, r.gain = some g →
        t.cores.loops = (s.cores.loops.map fun m => if m.stream = x.val ∧ m.kind = kind.val then
          { m with exp := r.exp, gain := g, blk := none, armed := some (tide, late) } else m) ∧
        (l.num 0x10 1 ≠ l.num 0x11 1 → s.flag (jtPage (x / 4)) (Jetty.MIR_CFG_DIR.nth (l.num 0x10 1)) = true → l.num 0x10 1 < 64 →
          l.num 0x11 1 < 64 → t.get (jtPage (x / 4)) (Jetty.MIR_VAL_VALUE.nth (l.num 0x10 1)) = r.exp % 2 ^ 32 ∧
          t.flag (jtPage (x / 4)) (Jetty.MIR_CFG_DIRTY.nth (l.num 0x10 1)) = true)) ∧
      (good = true → kind.val = 1 → t.cores.loops = s.cores.loops.map fun m => if m.stream = x.val ∧ m.kind = kind.val then
        { m with blk := none, armed := some (tide, late) } else m) ∧
      (good = true → s.planLive = false → t.commit.swArm.contains l.group = true) ∧ SameMemory s t := by
  have hmem : ∀ {t : State}, exec (.loopUpdate x kind v) s = .next t → SameMemory s t := fun ht =>
    .of_exec ht (by rw [exec]; exact answers_loopUpdate (Quiet.refl s))
  have hplace : base % 64 = 0 := by omega
  have hread1 := State.coreRead_flat (v := v) (n := 12) hflat (ba := base) (by omega) hmax herrs (by decide) (by omega)
  have hread2 := State.coreRead_flat (v := v) (n := 8) hflat (ba := base + 16448 + 32 * l.roi) (by omega) hmax herrs (by decide) (by omega)
  rw [← hhead] at hread1
  rw [← hregion] at hread2
  have ht := loopUpdate_of_reads hrunner hfind hblk hresume hterm hc hbase hread1 hread2
  have hm := hmem ht
  clear hread1 hread2 hhead hregion hcap hplace hbase
  have hpred := List.find?_some hfind
  simp only [Bool.and_eq_true, beq_iff_eq] at hpred
  obtain ⟨hstream, hkind⟩ := hpred
  refine ⟨_, ht, ?_⟩
  have hcond : (!(fieldLE head 1 1).testBit 2 || (fieldLE head 1 1).testBit 3 || fieldLE head 4 4 != seq || (kind.val == 0 && mean == 0)) = !good := by
    rw [hgood]
    simp only [Bool.not_and, Bool.not_or, Bool.not_not, bne]
  have hjudged : s.loopJudged x kind n c seq tide late l head region = if !good then s.skipFrame l late
      else (if kind.val = 0 then s.runExposure l mean (s.loopContexts x)
        else s.runWhite l ([0, 1, 2, 3].map fun k => fieldLE region (2 * k) 2) (s.liveFlag (covePage n 8) (Cove.STAT_CFG_TAP.nth c)) (s.loopContexts x)).loopTaken
          l x kind tide late (s.loopContexts x) := by
    rw [← hcond, hmean]
    rfl
  rw [hjudged] at hm ⊢
  cases good with
  | false =>
    refine ⟨fun _ => ?_, nofun, nofun, nofun, hm⟩
    rw [Bool.not_false, if_pos rfl, State.skipFrame_loops, hstream, hkind]
  | true =>
    rw [Bool.not_true, if_neg Bool.false_ne_true] at hm ⊢
    by_cases hzero : kind.val = 0
    · rw [if_pos hzero] at hm ⊢
      have hx : l.stream < 256 := by omega
      rw [← hstream] at hr
      obtain ⟨g, w, hw, hgain, hrun⟩ := s.runExposure_eq l mean (s.loopContexts x) hr
      rw [hrun] at hm ⊢
      obtain ⟨e1, e2, e3⟩ := w.exposed_effect l r g (s.loopContexts x) hx
      generalize w.exposed l r g (s.loopContexts x) = u at e1 e2 e3 hm ⊢
      obtain ⟨h1, h2, h3⟩ := (u.modLoop l.stream 0 fun n => n.stepped r.exp g).loopTaken_effect l x kind tide late (s.loopContexts x)
      refine ⟨nofun, fun _ _ v hv => ⟨?_, fun hne hdir hm0 _ => ?_⟩, fun _ h => absurd (hzero.symm.trans h) (by decide), fun _ hlive => h3 ?_, hm⟩
      · rw [h1, State.modLoop_loops, e1, hw.cores, hstream, hzero, map_loops_twice _ _ _ (by exact fun m => ⟨rfl, rfl⟩), hgain v hv]
        rfl
      · have hdir' : s.flag (jtPage (l.stream / 4)) (Jetty.MIR_CFG_DIR.nth (l.num 0x10 1)) = true := by rw [hstream]; exact hdir
        obtain ⟨k1, k2, k3⟩ := mirrorKeys_not_steer (n := l.stream / 4) (by omega) hm0
        obtain ⟨hvalue, hdirty⟩ := e3 hne ((hw.writes.flag k3).trans hdir') hm0
        rw [hstream] at k1 k2 hvalue hdirty
        exact ⟨(h2.get k1).trans hvalue, (h2.flag k2).trans hdirty⟩
      · have htide : (u.modLoop l.stream 0 fun n => n.stepped r.exp g).tide = s.tide := (e2.trans hw.tide :)
        rw [State.planLive, htide]
        exact hlive
    · rw [if_neg hzero] at hm ⊢
      have hwhite := s.runWhite_steers l ([0, 1, 2, 3].map fun k => fieldLE region (2 * k) 2) (s.liveFlag (covePage n 8) (Cove.STAT_CFG_TAP.nth c))
        (s.loopContexts x)
      generalize s.runWhite l ([0, 1, 2, 3].map fun k => fieldLE region (2 * k) 2) (s.liveFlag (covePage n 8) (Cove.STAT_CFG_TAP.nth c))
        (s.loopContexts x) = u at hwhite hm ⊢
      obtain ⟨h1, -, h3⟩ := u.loopTaken_effect l x kind tide late (s.loopContexts x)
      refine ⟨nofun, fun _ h => absurd h hzero, fun _ _ => ?_, fun _ hlive => h3 ?_, hm⟩
      · rw [h1, hwhite.cores]
      · rw [State.planLive, hwhite.tide]
        exact hlive

/-- Settles O55, effect by effect: a command that starts leaves the ring as it is served, and its end adds its completion; a loop's step reads untranslated
memory, and writes the loop's marks, its camera's mirror and its Coves' pages alone. -/
theorem loopsAndPoliciesRun : Obligations.LoopsAndPoliciesRun := by
  unfold Obligations.LoopsAndPoliciesRun
  exact ⟨loopCtrl_effect, linkPolicy_effect, failoverPolicy_effect, fun x kind v s l seq n tide base c mean late good head region r =>
    loopUpdate_effect x kind v s l seq n tide base c mean late good head region r, fun n s p => linkPolicyRestore_effect n s p, autoRepair_effect⟩

end Sys2Proof.Machine
end
